-- ==== Sys2Proof/Word.lean ====
section
/-! DEFINITION. The words the spec names: the 64-bit register word and the byte of a memory, with their plainest
arithmetic (a field of a word read as a number, a field written, a count that holds at its largest value). -/

namespace Sys2Proof

/-- A DRS register (R29, R354: registers are 64 bits wide). -/
abbrev Word := BitVec 64

/-- A byte of HBM, of flash, of a buffer. -/
abbrev Byte := BitVec 8

/-- The value of bits [hi:lo] of a word. -/
def Word.field (w : Word) (hi lo : Nat) : Nat := w.toNat / 2 ^ lo % 2 ^ (hi + 1 - lo)

/-- Bits [hi:lo] of a word replaced by `v` (its low bits), every other bit kept. -/
def Word.setField (w : Word) (hi lo v : Nat) : Word :=
  BitVec.ofNat 64
    (w.toNat % 2 ^ lo + (v % 2 ^ (hi + 1 - lo)) * 2 ^ lo + w.toNat / 2 ^ (hi + 1) * 2 ^ (hi + 1))

/-- A number as a word, its low 64 bits. -/
def word (n : Nat) : Word := BitVec.ofNat 64 n

/-- A Bool as the bit a register shows. -/
def bit (b : Bool) : Nat := if b then 1 else 0

/-- Bit `i` of a number. -/
def bitOf (n i : Nat) : Bool := n / 2 ^ i % 2 = 1

/-- Bit `i` of a number set or cleared. -/
def withBit (n i : Nat) (b : Bool) : Nat :=
  if bitOf n i then (if b then n else n - 2 ^ i) else (if b then n + 2 ^ i else n)

/-- A count of `w` bits that holds at its largest value. -/
def satAdd (w n k : Nat) : Nat := min (n + k) (2 ^ w - 1)

/-- How many of the low `w` bits of a number are 1. -/
def popCount : Nat → Nat → Nat
  | 0, _ => 0
  | w + 1, n => n % 2 + popCount w (n / 2)

/-- The lowest bit number below `w` that is 1 in `n`. -/
def lowestBit (w n : Nat) : Option Nat := (List.range w).find? (bitOf n)

/-- A numeral of bytes, the first byte least significant (R344: least-significant byte first). -/
def ofBytes : List Byte → Nat
  | [] => 0
  | b :: bs => b.toNat + 256 * ofBytes bs

/-- The low `k` bytes of a number, least significant first. -/
def toBytes : Nat → Nat → List Byte
  | 0, _ => []
  | k + 1, n => BitVec.ofNat 8 n :: toBytes k (n / 256)

end Sys2Proof
end

