-- ==== Sys2Proof/Machine/RegMap.lean ====
section
/-! DEFINITION. The registers of the device register space (R29 to R34 and the register maps of every chapter): their names, the
places and access types of their fields, their reset values and where each stands in the DRS. Index `i` of a register that exists once per
unit counts the units in address order (block, 2 × block + half, 9 × block + lane, 8 × block + VC and so on). -/

namespace Sys2Proof.Machine

/-- Every register of the DRS by its name in the spec. -/
inductive RegKind where
  /-- R34 of 01; 1 × 64 bits, by chip. -/
  | MGT_CHIP_INFO
  /-- R34 of 01; 1 × 64 bits, by chip. -/
  | MGT_HBM_PART
  /-- R34 of 01; 1 × 64 bits, by chip. -/
  | MGT_HBM_DBG_BASE
  /-- R34 of 01; 1 × 64 bits, by chip. -/
  | MGT_DRS_ERR
  /-- R61 of 02; 64 × 64 bits, by block. -/
  | PRT_CFG
  /-- R61 of 02; 64 × 64 bits, by block. -/
  | PRT_LINK_CTL
  /-- R61 of 02; 128 × 64 bits, by block. -/
  | PRT_LINK_STATUS
  /-- R61 of 02; 64 × 64 bits, by block. -/
  | PRT_LANE_MAP
  /-- R61 of 02; 64 × 64 bits, by block. -/
  | PRT_SPARE_CTL
  /-- R61 of 02; 128 × 64 bits, by block. -/
  | PRT_LINK_ERR
  /-- R61 of 02; 576 × 64 bits, by block. -/
  | PRT_LANE_STAT
  /-- R61 of 02; 64 × 64 bits, by block. -/
  | PRT_PRBS_CTL
  /-- R61 of 02; 64 × 64 bits, by block. -/
  | PRT_PRBS_BITS
  /-- R61 of 02; 576 × 64 bits, by block. -/
  | PRT_PRBS_RES
  /-- R88 of 03; 64 × 64 bits, by block. -/
  | PRT_CXL_CFG
  /-- R88 of 03; 128 × 64 bits, by block. -/
  | PRT_CXL_STATUS
  /-- R89 of 03; 1024 × 64 bits, by table window. -/
  | VPPB_ENTRY
  /-- R89 of 03; 64 × 64 bits, by table window. -/
  | VCS_ENTRY
  /-- R110 of 04; 64 × 64 bits, by block. -/
  | SFL_PHY_CFG
  /-- R110 of 04; 64 × 64 bits, by block. -/
  | SFL_PHY_CTL
  /-- R110 of 04; 64 × 64 bits, by block. -/
  | SFL_TRAIN_STATUS
  /-- R110 of 04; 64 × 64 bits, by block. -/
  | SFL_PEER
  /-- R110 of 04; 576 × 64 bits, by block. -/
  | SFL_LANE_STAT
  /-- R136 of 05; 64 × 64 bits, by block. -/
  | SFL_LINK_CTL
  /-- R136 of 05; 64 × 64 bits, by block. -/
  | SFL_LINK_STAT
  /-- R136 of 05; 64 × 64 bits, by block. -/
  | SFL_LINK_CNT
  /-- R136 of 05; 64 × 64 bits, by block. -/
  | SFL_LINK_CNT2
  /-- R136 of 05; 512 × 64 bits, by block. -/
  | SFL_VC_CFG
  /-- R136 of 05; 512 × 64 bits, by block. -/
  | SFL_VC_STAT
  /-- R136 of 05; 64 × 64 bits, by block. -/
  | SFL_ENC_CTL
  /-- R136 of 05; 64 × 64 bits, by block. -/
  | SFL_ENC_STATUS
  /-- R136 of 05; 256 × 64 bits, by block. -/
  | SFL_KEY_DATA
  /-- R136 of 05; 64 × 64 bits, by block. -/
  | SFL_KEY_CMD
  /-- R143 of 06; 34304 × 64 bits, by table window. -/
  | ROUTE_ENTRY
  /-- R171 of 06; 64 × 64 bits, by router. -/
  | ANV_CR_CFG
  /-- R171 of 06; 64 × 64 bits, by router. -/
  | ANV_CR_STAT
  /-- R171 of 06; 64 × 64 bits, by router. -/
  | ANV_RTR_STAT
  /-- R171 of 06; 64 × 64 bits, by router. -/
  | ANV_RTR_ERR
  /-- R171 of 06; 64 × 64 bits, by router. -/
  | ANV_PRB_CTL
  /-- R171 of 06; 64 × 64 bits, by router. -/
  | ANV_PRB_MATCH
  /-- R171 of 06; 64 × 64 bits, by router. -/
  | ANV_PRB_MASK
  /-- R171 of 06; 64 × 64 bits, by router. -/
  | ANV_PRB_RES
  /-- R171 of 06; 64 × 64 bits, by router. -/
  | ANV_PRB_RES2
  /-- R171 of 06; 4 × 64 bits, by region. -/
  | ANV_ARB_CFG
  /-- R171 of 06; 4 × 64 bits, by region. -/
  | ANV_QUENCH_CMD
  /-- R171 of 06; 4 × 64 bits, by region. -/
  | ANV_QUENCH_STAT
  /-- R171 of 06; 4 × 64 bits, by region. -/
  | ANV_SLAG_CNT0
  /-- R171 of 06; 4 × 64 bits, by region. -/
  | ANV_SLAG_CNT1
  /-- R171 of 06; 4 × 64 bits, by region. -/
  | ANV_SLAG_CNT2
  /-- R171 of 06; 16 × 64 bits, by region. -/
  | ANV_MIR_CFG
  /-- R171 of 06; 16 × 64 bits, by region. -/
  | ANV_MIR_RING
  /-- R171 of 06; 16 × 64 bits, by region. -/
  | ANV_MIR_RING_SZ
  /-- R171 of 06; 16 × 64 bits, by region. -/
  | ANV_MIR_STAT
  /-- R189 of 07; 4 × 64 bits, by region. -/
  | TMP_CFG
  /-- R189 of 07; 4 × 64 bits, by region. -/
  | TMP_PROFILE3
  /-- R189 of 07; 4 × 64 bits, by region. -/
  | TMP_BIND_CMD
  /-- R189 of 07; 4 × 64 bits, by region. -/
  | TMP_BIND_STAT
  /-- R189 of 07; 4 × 64 bits, by region. -/
  | TMP_STAT
  /-- R189 of 07; 1024 × 64 bits, by region. -/
  | TMP_SHP_RATE
  /-- R189 of 07; 1024 × 64 bits, by region. -/
  | TMP_SHP_SIZE
  /-- R190 of 07; 65537 × 64 bits, by table window. -/
  | TMP_CTX_00
  /-- R190 of 07; 65537 × 64 bits, by table window. -/
  | TMP_CTX_08
  /-- R190 of 07; 65537 × 64 bits, by table window. -/
  | TMP_CTX_10
  /-- R190 of 07; 65537 × 64 bits, by table window. -/
  | TMP_CTX_18
  /-- R190 of 07; 65537 × 64 bits, by table window. -/
  | TMP_CTX_20
  /-- R190 of 07; 65537 × 64 bits, by table window. -/
  | TMP_CTX_28
  /-- R190 of 07; 65537 × 64 bits, by table window. -/
  | TMP_CTX_30
  /-- R190 of 07; 65537 × 64 bits, by table window. -/
  | TMP_CTX_38
  /-- R190 of 07; 65537 × 64 bits, by table window. -/
  | TMP_CTX_40
  /-- R190 of 07; 65537 × 64 bits, by table window. -/
  | TMP_CTX_48
  /-- R190 of 07; 65537 × 64 bits, by table window. -/
  | TMP_CTX_50
  /-- R190 of 07; 65537 × 64 bits, by table window. -/
  | TMP_CTX_58
  /-- R190 of 07; 65537 × 64 bits, by table window. -/
  | TMP_CTX_60
  /-- R190 of 07; 65537 × 64 bits, by table window. -/
  | TMP_CTX_68
  /-- R198 of 08; 65536 × 64 bits, by table window. -/
  | L1_W0
  /-- R198 of 08; 65536 × 64 bits, by table window. -/
  | L1_W1
  /-- R209 of 08; 4096 × 64 bits, by table window. -/
  | WIN_W0
  /-- R209 of 08; 4096 × 64 bits, by table window. -/
  | WIN_W1
  /-- R209 of 08; 4096 × 64 bits, by table window. -/
  | WIN_W2
  /-- R209 of 08; 4096 × 64 bits, by table window. -/
  | WIN_W3
  /-- R213 of 08; 4 × 64 bits, by region. -/
  | ACU_CFG
  /-- R213 of 08; 4 × 64 bits, by region. -/
  | ACU_ERR_ADDR
  /-- R213 of 08; 4 × 64 bits, by region. -/
  | ACU_ERR_INFO
  /-- R213 of 08; 4 × 64 bits, by region. -/
  | ACU_CNT
  /-- R213 of 08; 4 × 64 bits, by region. -/
  | ACU_DUP_STAT
  /-- R214 of 08; 1 × 64 bits, by chip. -/
  | RMP_CMD
  /-- R214 of 08; 1 × 64 bits, by chip. -/
  | RMP_CMD_DATA
  /-- R214 of 08; 1 × 64 bits, by chip. -/
  | RMP_RES
  /-- R214 of 08; 1 × 64 bits, by chip. -/
  | RMP_RES_DATA
  /-- R214 of 08; 1 × 64 bits, by chip. -/
  | RMP_STAT
  /-- R214 of 08; 64 × 64 bits, by chip. -/
  | RMP_POOL
  /-- R236 of 09; 16 × 64 bits, by slice. -/
  | HRT_SLICE_STAT
  /-- R236 of 09; 16 × 64 bits, by slice. -/
  | HRT_CNT0
  /-- R236 of 09; 16 × 64 bits, by slice. -/
  | HRT_CNT1
  /-- R236 of 09; 16 × 64 bits, by slice. -/
  | HRT_CNT2
  /-- R236 of 09; 16 × 64 bits, by slice. -/
  | HRT_CNT3
  /-- R236 of 09; 16 × 64 bits, by slice. -/
  | HRT_POISON_LOG
  /-- R237 of 09; 1 × 64 bits, by shared Hearth block. -/
  | HRT_CFG
  /-- R237 of 09; 1 × 64 bits, by shared Hearth block. -/
  | HRT_ADMIT
  /-- R237 of 09; 1 × 64 bits, by shared Hearth block. -/
  | HRT_CMD
  /-- R237 of 09; 1 × 64 bits, by shared Hearth block. -/
  | HRT_RES
  /-- R237 of 09; 1 × 64 bits, by shared Hearth block. -/
  | HRT_RES_DATA
  /-- R237 of 09; 256 × 64 bits, by shared Hearth block. -/
  | HRT_HOME
  /-- R237 of 09; 2048 × 64 bits, by shared Hearth block. -/
  | HRT_AGENT
  /-- R256 of 10; 1 × 64 bits, by chip. -/
  | RMP_HOT_CFG
  /-- R256 of 10; 1 × 64 bits, by chip. -/
  | RMP_HOT_STAT
  /-- R256 of 10; 1 × 64 bits, by chip. -/
  | RMP_HOT_CNT
  /-- R256 of 10; 1 × 64 bits, by chip. -/
  | RMP_MIG_CFG
  /-- R256 of 10; 1 × 64 bits, by chip. -/
  | RMP_MIG_STAT
  /-- R256 of 10; 32 × 64 bits, by chip. -/
  | RMP_MIG_SLOT0
  /-- R256 of 10; 32 × 64 bits, by chip. -/
  | RMP_MIG_SLOT1
  /-- R281 of 11; 16 × 64 bits, by cluster. -/
  | TNG_CL_CFG
  /-- R281 of 11; 16 × 64 bits, by cluster. -/
  | TNG_CL_STAT
  /-- R281 of 11; 16 × 64 bits, by cluster. -/
  | TNG_SUB_CMD
  /-- R281 of 11; 16 × 64 bits, by cluster. -/
  | TNG_SUB_RES
  /-- R281 of 11; 16 × 64 bits, by cluster. -/
  | TNG_SUB_ID
  /-- R281 of 11; 16 × 64 bits, by cluster. -/
  | TNG_CANCEL_CMD
  /-- R281 of 11; 16 × 64 bits, by cluster. -/
  | TNG_CANCEL_RES
  /-- R281 of 11; 16 × 64 bits, by cluster. -/
  | TNG_CQ_PTR
  /-- R281 of 11; 16 × 64 bits, by cluster. -/
  | TNG_CL_CNT
  /-- R281 of 11; 3072 × 64 bits, by cluster. -/
  | TNG_KRN
  /-- R281 of 11; 128 × 64 bits, by engine. -/
  | TNG_ENG_CTL
  /-- R281 of 11; 128 × 64 bits, by engine. -/
  | TNG_ENG_STAT
  /-- R281 of 11; 128 × 64 bits, by engine. -/
  | TNG_ENG_CNT
  /-- R318 of 13; 1 × 64 bits, by chip. -/
  | MGT_FAB_CFG
  /-- R318 of 13; 1 × 64 bits, by chip. -/
  | MGT_FAB_STAT
  /-- R318 of 13; 1 × 64 bits, by chip. -/
  | MGT_FAB_GEN
  /-- R318 of 13; 1 × 64 bits, by chip. -/
  | MGT_FAB_CTL
  /-- R318 of 13; 1 × 64 bits, by chip. -/
  | MGT_FAB_RES
  /-- R318 of 13; 1 × 64 bits, by chip. -/
  | MGT_FAB_CNT
  /-- R318 of 13; 256 × 64 bits, by chip. -/
  | MGT_FAB_MEMBER
  /-- R318 of 13; 256 × 64 bits, by chip. -/
  | MGT_FAB_FFT
  /-- R340 of 14; 1 × 64 bits, by chip. -/
  | MGT_IMG_STAT
  /-- R340 of 14; 1 × 64 bits, by chip. -/
  | MGT_IMG_SEQ
  /-- R340 of 14; 1 × 64 bits, by chip. -/
  | MGT_IMG_CMD
  /-- R340 of 14; 1 × 64 bits, by chip. -/
  | MGT_IMG_RES
  /-- R341 of 14; 1 × 64 bits, by chip. -/
  | KEY_STAT
  /-- R341 of 14; 1 × 64 bits, by chip. -/
  | KEY_CMD
  /-- R341 of 14; 1 × 64 bits, by chip. -/
  | KEY_RES
  /-- R341 of 14; 4 × 64 bits, by chip. -/
  | KEY_ROOT
  /-- R341 of 14; 1 × 64 bits, by chip. -/
  | KEY_TRNG_STAT
  /-- R341 of 14; 1 × 64 bits, by chip. -/
  | KEY_TRNG_CMD
  /-- R341 of 14; 1 × 64 bits, by chip. -/
  | KEY_TRNG_RES
  /-- R341 of 14; 1 × 64 bits, by chip. -/
  | KEY_TRNG_OUT
  /-- R360 of 15; 8 × 64 bits, by chip. -/
  | MGT_SESS
  /-- R360 of 15; 1 × 64 bits, by chip. -/
  | MGT_OWN_STAT
  /-- R360 of 15; 1 × 64 bits, by chip. -/
  | MGT_OWN_CLAIM
  /-- R360 of 15; 1 × 64 bits, by chip. -/
  | MGT_SESS_CFG
  /-- R360 of 15; 1 × 64 bits, by chip. -/
  | MGT_EVT_STAT
  /-- R360 of 15; 1 × 64 bits, by chip. -/
  | MGT_EVT_ACK
  /-- R378 of 16; 1 × 64 bits, by chip. -/
  | PWR_MODE
  /-- R378 of 16; 1 × 64 bits, by chip. -/
  | PWR_CTL
  /-- R378 of 16; 1 × 64 bits, by chip. -/
  | PWR_RESET_STAT
  /-- R378 of 16; 1 × 64 bits, by chip. -/
  | PWR_BANK_CFG
  /-- R378 of 16; 2 × 64 bits, by chip. -/
  | PWR_BANK_PORT
  /-- R378 of 16; 2 × 64 bits, by chip. -/
  | PWR_BANK_PSTAT
  /-- R378 of 16; 2 × 64 bits, by chip. -/
  | PWR_BANK_PDENY
  /-- R378 of 16; 1 × 64 bits, by chip. -/
  | PWR_BANK_UNIT
  /-- R378 of 16; 1 × 64 bits, by chip. -/
  | PWR_BANK_USTAT
  /-- R378 of 16; 1 × 64 bits, by chip. -/
  | PWR_PERST
  /-- R398 of 17; 5 × 64 bits, by collector (regions A-D then the chip). -/
  | FLT_CFG
  /-- R398 of 17; 1 × 64 bits, by chip. -/
  | FLT_STAT
  /-- R398 of 17; 5 × 64 bits, by collector (regions A-D then the chip). -/
  | FLT_REC0
  /-- R398 of 17; 5 × 64 bits, by collector (regions A-D then the chip). -/
  | FLT_REC1
  /-- R398 of 17; 5 × 64 bits, by collector (regions A-D then the chip). -/
  | FLT_REC2
  /-- R398 of 17; 5 × 64 bits, by collector (regions A-D then the chip). -/
  | FLT_REC3
  /-- R398 of 17; 8 × 64 bits, by chip. -/
  | FLT_ACTIVE
  /-- R398 of 17; 1 × 64 bits, by chip. -/
  | FLT_INJ_CTL
  /-- R398 of 17; 1 × 64 bits, by chip. -/
  | FLT_INJ_RES
  /-- R398 of 17; 1 × 64 bits, by chip. -/
  | FLT_REPAIR_RES
  /-- R398 of 17; 1 × 64 bits, by chip. -/
  | FLT_REPAIR_CMD
  /-- R398 of 17; 6 × 64 bits, by chip. -/
  | FLT_POOL
  /-- R398 of 17; 1 × 64 bits, by chip. -/
  | FLT_WEAR_CFG
  /-- R398 of 17; 1 × 64 bits, by chip. -/
  | FLT_WEAR_CNT
  /-- R399 of 17; 4 × 64 bits, by region. -/
  | FLT_REG_STAT
  /-- R420 of 18; 1 × 64 bits, by chip. -/
  | TIM_CFG
  /-- R420 of 18; 1 × 64 bits, by chip. -/
  | TIM_NOW_LO
  /-- R420 of 18; 1 × 64 bits, by chip. -/
  | TIM_NOW_HI
  /-- R420 of 18; 1 × 64 bits, by chip. -/
  | TIM_SET_LO
  /-- R420 of 18; 1 × 64 bits, by chip. -/
  | TIM_SET_HI
  /-- R420 of 18; 1 × 64 bits, by chip. -/
  | TIM_CMD
  /-- R420 of 18; 1 × 64 bits, by chip. -/
  | TIM_FREQ
  /-- R420 of 18; 1 × 64 bits, by chip. -/
  | TIM_STAT
  /-- R420 of 18; 1 × 64 bits, by chip. -/
  | TIM_OFFSET
  /-- R420 of 18; 128 × 64 bits, by chip. -/
  | TIM_ASYM
  /-- R421 of 18; 1 × 64 bits, by chip. -/
  | PWR_THERM_STAT
  /-- R421 of 18; 1 × 64 bits, by chip. -/
  | PWR_TEL_CFG
  /-- R421 of 18; 1 × 64 bits, by chip. -/
  | PWR_TEL_MAN
  /-- R421 of 18; 1 × 64 bits, by chip. -/
  | PWR_TEL_MRES
  /-- R421 of 18; 96 × 64 bits, by chip. -/
  | PWR_TEL_SMP
  /-- R421 of 18; 96 × 64 bits, by chip. -/
  | PWR_TEL_CH
  /-- R422 of 18; 5 × 64 bits, by counter unit (regions A-D then the chip). -/
  | CNT_CTL
  /-- R422 of 18; 5 × 64 bits, by counter unit (regions A-D then the chip). -/
  | CNT_SNAP_RES
  /-- R422 of 18; 1 × 64 bits, by chip. -/
  | CNT_BW_CFG
  /-- R422 of 18; 400 × 64 bits, by counter unit (regions A-D then the chip). -/
  | CNT_SEL
  /-- R422 of 18; 400 × 64 bits, by counter unit (regions A-D then the chip). -/
  | CNT_VAL
  /-- R422 of 18; 400 × 64 bits, by counter unit (regions A-D then the chip). -/
  | CNT_SNAP
  /-- R422 of 18; 128 × 64 bits, by chip. -/
  | CNT_BW0
  /-- R422 of 18; 128 × 64 bits, by chip. -/
  | CNT_BW1
  /-- R422 of 18; 128 × 64 bits, by chip. -/
  | CNT_BW2
  /-- R422 of 18; 128 × 64 bits, by chip. -/
  | CNT_BW3
  /-- R422 of 18; 1 × 64 bits, by chip. -/
  | CNT_TRC_CFG
  /-- R422 of 18; 1 × 64 bits, by chip. -/
  | CNT_TRC_RING
  /-- R422 of 18; 1 × 64 bits, by chip. -/
  | CNT_TRC_RING_SZ
  /-- R422 of 18; 1 × 64 bits, by chip. -/
  | CNT_TRC_CTL
  /-- R422 of 18; 1 × 64 bits, by chip. -/
  | CNT_TRC_STAT
  /-- R422 of 18; 1 × 64 bits, by chip. -/
  | CNT_TRC_DROP
  /-- R433 of 19; 4 × 64 bits, by chip. -/
  | SLT_PROF
  /-- R433 of 19; 1 × 64 bits, by chip. -/
  | SLT_GCFG
  /-- R433 of 19; 64 × 64 bits, by chip. -/
  | SLT_CFG
  /-- R433 of 19; 64 × 64 bits, by chip. -/
  | SLT_CTL
  /-- R433 of 19; 64 × 64 bits, by chip. -/
  | SLT_STAT
  /-- R433 of 19; 64 × 64 bits, by chip. -/
  | SLT_MEAS0
  /-- R433 of 19; 64 × 64 bits, by chip. -/
  | SLT_MEAS1
  /-- R433 of 19; 64 × 64 bits, by chip. -/
  | SLT_MEAS2
  /-- R433 of 19; 64 × 64 bits, by chip. -/
  | SLT_MEAS3
  /-- R281 of 11; 128 × 64 bits, by cluster. -/
  | TNG_SUB_DESC
  /-- R340 of 14; 512 × 64 bits, by chip. -/
  | MGT_IMG_BUF
  /-- R341 of 14; 24 × 64 bits, by chip. -/
  | KEY_ROOT_HASH
  /-- R341 of 14; 12 × 64 bits, by chip. -/
  | KEY_ID_PUB
  /-- R360 of 15; 4096 × 64 bits, by chip. -/
  | MGT_EVT_REC
  /-- R281 of 11; 524288 × 64 bits, by cluster. -/
  | TNG_JQ
  /-- R281 of 11; 262144 × 64 bits, by cluster. -/
  | TNG_CQ
  deriving DecidableEq, Repr

/-- The access types of the register maps (R7). -/
inductive Acc where
  | RO | RW | RWL | W1C | WO | RC
  deriving DecidableEq, Repr

/-- One field of a register: bits [hi:lo] of `reg`. -/
structure Fld where
  reg : RegKind
  hi : Nat
  lo : Nat
  acc : Acc
  deriving DecidableEq, Repr

/-- The number of bits of a field. -/
def Fld.width (F : Fld) : Nat := F.hi + 1 - F.lo

/-- R34: bits [15:0], RO, reset 0x9600. -/
abbrev MGT_CHIP_INFO.PART : Fld := ⟨.MGT_CHIP_INFO, 15, 0, .RO⟩
/-- R34: bits [19:16], RO, reset 0x0. -/
abbrev MGT_CHIP_INFO.STEP_MAJOR : Fld := ⟨.MGT_CHIP_INFO, 19, 16, .RO⟩
/-- R34: bits [23:20], RO, reset 0x0. -/
abbrev MGT_CHIP_INFO.STEP_MINOR : Fld := ⟨.MGT_CHIP_INFO, 23, 20, .RO⟩
/-- R34: bits [27:24], RO, reset 0xF. -/
abbrev MGT_CHIP_INFO.REGION_LIVE : Fld := ⟨.MGT_CHIP_INFO, 27, 24, .RO⟩
/-- R34: bits [39:32], RO, reset 0x00. -/
abbrev MGT_CHIP_INFO.CHIP_ID : Fld := ⟨.MGT_CHIP_INFO, 39, 32, .RO⟩
/-- R34: bits [41:40], RO, reset strap. -/
abbrev MGT_CHIP_INFO.ROLE : Fld := ⟨.MGT_CHIP_INFO, 41, 40, .RO⟩
/-- R34: bits [5:0], RO, reset 0x00. -/
abbrev MGT_HBM_PART.DIR_GIB : Fld := ⟨.MGT_HBM_PART, 5, 0, .RO⟩
/-- R34: bits [10:8], RO, reset 0x0. -/
abbrev MGT_HBM_PART.L2_64M : Fld := ⟨.MGT_HBM_PART, 10, 8, .RO⟩
/-- R34: bits [21:16], RO, reset 0x00. -/
abbrev MGT_HBM_PART.TRACE_256M : Fld := ⟨.MGT_HBM_PART, 21, 16, .RO⟩
/-- R34: bits [41:32], RO, reset 0x000. -/
abbrev MGT_HBM_PART.SCRATCH_64M : Fld := ⟨.MGT_HBM_PART, 41, 32, .RO⟩
/-- R34: bits [63:63], RO, reset 0. -/
abbrev MGT_HBM_PART.VALID : Fld := ⟨.MGT_HBM_PART, 63, 63, .RO⟩
/-- R34: bits [35:29], RW, reset 0x00. -/
abbrev MGT_HBM_DBG_BASE.WINDOW : Fld := ⟨.MGT_HBM_DBG_BASE, 35, 29, .RW⟩
/-- R34: bits [29:0], RO, reset 0x0. -/
abbrev MGT_DRS_ERR.ADDR : Fld := ⟨.MGT_DRS_ERR, 29, 0, .RO⟩
/-- R34: bits [31:30], RO, reset 0x0. -/
abbrev MGT_DRS_ERR.SIZE : Fld := ⟨.MGT_DRS_ERR, 31, 30, .RO⟩
/-- R34: bits [32:32], RO, reset 0. -/
abbrev MGT_DRS_ERR.WRITE : Fld := ⟨.MGT_DRS_ERR, 32, 32, .RO⟩
/-- R34: bits [35:33], RO, reset 0x0. -/
abbrev MGT_DRS_ERR.SESSION : Fld := ⟨.MGT_DRS_ERR, 35, 33, .RO⟩
/-- R34: bits [51:36], RO, reset 0x0000. -/
abbrev MGT_DRS_ERR.COUNT : Fld := ⟨.MGT_DRS_ERR, 51, 36, .RO⟩
/-- R34: bits [63:63], W1C, reset 0. -/
abbrev MGT_DRS_ERR.PEND : Fld := ⟨.MGT_DRS_ERR, 63, 63, .W1C⟩
/-- R61: bits [3:0], RO, reset 0x0. -/
abbrev PRT_CFG.MODE : Fld := ⟨.PRT_CFG, 3, 0, .RO⟩
/-- R61: bits [5:4], RO, reset 0x0. -/
abbrev PRT_CFG.ROLE0 : Fld := ⟨.PRT_CFG, 5, 4, .RO⟩
/-- R61: bits [7:6], RO, reset 0x0. -/
abbrev PRT_CFG.ROLE1 : Fld := ⟨.PRT_CFG, 7, 6, .RO⟩
/-- R61: bits [10:8], RO, reset 0x0. -/
abbrev PRT_CFG.WIDTH0 : Fld := ⟨.PRT_CFG, 10, 8, .RO⟩
/-- R61: bits [13:11], RO, reset 0x0. -/
abbrev PRT_CFG.WIDTH1 : Fld := ⟨.PRT_CFG, 13, 11, .RO⟩
/-- R61: bits [18:16], RO, reset 0x0. -/
abbrev PRT_CFG.MAX_RATE : Fld := ⟨.PRT_CFG, 18, 16, .RO⟩
/-- R61: bits [21:20], RO, reset 0x0. -/
abbrev PRT_CFG.CLK_MODE : Fld := ⟨.PRT_CFG, 21, 20, .RO⟩
/-- R61: bits [22:22], RO, reset 0. -/
abbrev PRT_CFG.EQ_BYPASS : Fld := ⟨.PRT_CFG, 22, 22, .RO⟩
/-- R61: bits [23:23], RO, reset 0. -/
abbrev PRT_CFG.L0P_EN : Fld := ⟨.PRT_CFG, 23, 23, .RO⟩
/-- R61: bits [0:0], RW, reset 0. -/
abbrev PRT_LINK_CTL.ADMIN0 : Fld := ⟨.PRT_LINK_CTL, 0, 0, .RW⟩
/-- R61: bits [1:1], RW, reset 0. -/
abbrev PRT_LINK_CTL.ADMIN1 : Fld := ⟨.PRT_LINK_CTL, 1, 1, .RW⟩
/-- R61: bits [4:2], RW, reset 0x6. -/
abbrev PRT_LINK_CTL.RATE_CAP0 : Fld := ⟨.PRT_LINK_CTL, 4, 2, .RW⟩
/-- R61: bits [7:5], RW, reset 0x6. -/
abbrev PRT_LINK_CTL.RATE_CAP1 : Fld := ⟨.PRT_LINK_CTL, 7, 5, .RW⟩
/-- R61: bits [8:8], WO, reset 0. -/
abbrev PRT_LINK_CTL.RETRAIN0 : Fld := ⟨.PRT_LINK_CTL, 8, 8, .WO⟩
/-- R61: bits [9:9], WO, reset 0. -/
abbrev PRT_LINK_CTL.RETRAIN1 : Fld := ⟨.PRT_LINK_CTL, 9, 9, .WO⟩
/-- R61: bits [12:10], RW, reset 0x7. -/
abbrev PRT_LINK_CTL.L0P_TGT0 : Fld := ⟨.PRT_LINK_CTL, 12, 10, .RW⟩
/-- R61: bits [15:13], RW, reset 0x7. -/
abbrev PRT_LINK_CTL.L0P_TGT1 : Fld := ⟨.PRT_LINK_CTL, 15, 13, .RW⟩
/-- R61: bits [3:0], RO, reset 0x0. -/
abbrev PRT_LINK_STATUS.STATE : Fld := ⟨.PRT_LINK_STATUS, 3, 0, .RO⟩
/-- R61: bits [6:4], RO, reset 0x0. -/
abbrev PRT_LINK_STATUS.RATE : Fld := ⟨.PRT_LINK_STATUS, 6, 4, .RO⟩
/-- R61: bits [12:8], RO, reset 0x00. -/
abbrev PRT_LINK_STATUS.WIDTH : Fld := ⟨.PRT_LINK_STATUS, 12, 8, .RO⟩
/-- R61: bits [20:16], RO, reset 0x00. -/
abbrev PRT_LINK_STATUS.NEG_WIDTH : Fld := ⟨.PRT_LINK_STATUS, 20, 16, .RO⟩
/-- R61: bits [21:21], RO, reset 0. -/
abbrev PRT_LINK_STATUS.FLIT : Fld := ⟨.PRT_LINK_STATUS, 21, 21, .RO⟩
/-- R61: bits [22:22], RO, reset 0. -/
abbrev PRT_LINK_STATUS.DL_UP : Fld := ⟨.PRT_LINK_STATUS, 22, 22, .RO⟩
/-- R61: bits [23:23], RO, reset 0. -/
abbrev PRT_LINK_STATUS.SPARE_PEND : Fld := ⟨.PRT_LINK_STATUS, 23, 23, .RO⟩
/-- R61: bits [47:32], RO, reset 0x0000. -/
abbrev PRT_LINK_STATUS.RECOV_CNT : Fld := ⟨.PRT_LINK_STATUS, 47, 32, .RO⟩
/-- R61: bits [7:0], W1C, reset 0x00. -/
abbrev PRT_LANE_MAP.MARK : Fld := ⟨.PRT_LANE_MAP, 7, 0, .W1C⟩
/-- R61: bits [8:8], RO, reset repair map. -/
abbrev PRT_LANE_MAP.SPARE_USED : Fld := ⟨.PRT_LANE_MAP, 8, 8, .RO⟩
/-- R61: bits [11:9], RO, reset repair map. -/
abbrev PRT_LANE_MAP.SPARE_LANE : Fld := ⟨.PRT_LANE_MAP, 11, 9, .RO⟩
/-- R61: bits [12:12], RO, reset 0. -/
abbrev PRT_LANE_MAP.SPARE_KIND : Fld := ⟨.PRT_LANE_MAP, 12, 12, .RO⟩
/-- R61: bits [13:13], RO, reset 0. -/
abbrev PRT_LANE_MAP.SPARE_BAD : Fld := ⟨.PRT_LANE_MAP, 13, 13, .RO⟩
/-- R61: bits [15:0], RW, reset 0x0100. -/
abbrev PRT_SPARE_CTL.SYM_THR : Fld := ⟨.PRT_SPARE_CTL, 15, 0, .RW⟩
/-- R61: bits [23:16], RW, reset 0x20. -/
abbrev PRT_SPARE_CTL.MARGIN_THR : Fld := ⟨.PRT_SPARE_CTL, 23, 16, .RW⟩
/-- R61: bits [24:24], RW, reset 1. -/
abbrev PRT_SPARE_CTL.AUTO_L0P : Fld := ⟨.PRT_SPARE_CTL, 24, 24, .RW⟩
/-- R61: bits [25:25], RW, reset 1. -/
abbrev PRT_SPARE_CTL.L0_URGENT : Fld := ⟨.PRT_SPARE_CTL, 25, 25, .RW⟩
/-- R61: bits [15:0], RC, reset 0x0000. -/
abbrev PRT_LINK_ERR.UNCORR_FEC : Fld := ⟨.PRT_LINK_ERR, 15, 0, .RC⟩
/-- R61: bits [31:16], RC, reset 0x0000. -/
abbrev PRT_LINK_ERR.CRC_ERR : Fld := ⟨.PRT_LINK_ERR, 31, 16, .RC⟩
/-- R61: bits [47:32], RC, reset 0x0000. -/
abbrev PRT_LINK_ERR.REPLAY : Fld := ⟨.PRT_LINK_ERR, 47, 32, .RC⟩
/-- R61: bits [63:48], RC, reset 0x0000. -/
abbrev PRT_LINK_ERR.RCV_ERR : Fld := ⟨.PRT_LINK_ERR, 63, 48, .RC⟩
/-- R61: bits [15:0], RO, reset 0x0000. -/
abbrev PRT_LANE_STAT.SYM_WIN : Fld := ⟨.PRT_LANE_STAT, 15, 0, .RO⟩
/-- R61: bits [23:16], RO, reset 0x00. -/
abbrev PRT_LANE_STAT.MARGIN : Fld := ⟨.PRT_LANE_STAT, 23, 16, .RO⟩
/-- R61: bits [24:24], RO, reset 0. -/
abbrev PRT_LANE_STAT.LOCK : Fld := ⟨.PRT_LANE_STAT, 24, 24, .RO⟩
/-- R61: bits [63:32], RO, reset 0x0. -/
abbrev PRT_LANE_STAT.SYM_TOTAL : Fld := ⟨.PRT_LANE_STAT, 63, 32, .RO⟩
/-- R61: bits [0:0], RW, reset 0. -/
abbrev PRT_PRBS_CTL.EN : Fld := ⟨.PRT_PRBS_CTL, 0, 0, .RW⟩
/-- R61: bits [4:1], RW, reset 0x0. -/
abbrev PRT_PRBS_CTL.PATTERN : Fld := ⟨.PRT_PRBS_CTL, 4, 1, .RW⟩
/-- R61: bits [7:5], RW, reset 0x0. -/
abbrev PRT_PRBS_CTL.RATE : Fld := ⟨.PRT_PRBS_CTL, 7, 5, .RW⟩
/-- R61: bits [16:8], RW, reset 0x000. -/
abbrev PRT_PRBS_CTL.LANES : Fld := ⟨.PRT_PRBS_CTL, 16, 8, .RW⟩
/-- R61: bits [17:17], RW, reset 0. -/
abbrev PRT_PRBS_CTL.INVERT : Fld := ⟨.PRT_PRBS_CTL, 17, 17, .RW⟩
/-- R61: bits [18:18], WO, reset 0. -/
abbrev PRT_PRBS_CTL.SNAP : Fld := ⟨.PRT_PRBS_CTL, 18, 18, .WO⟩
/-- R61: bits [19:19], RW, reset 0. -/
abbrev PRT_PRBS_CTL.CHK_ONLY : Fld := ⟨.PRT_PRBS_CTL, 19, 19, .RW⟩
/-- R61: bits [47:0], RO, reset 0x0. -/
abbrev PRT_PRBS_BITS.BITS_K : Fld := ⟨.PRT_PRBS_BITS, 47, 0, .RO⟩
/-- R61: bits [55:48], RO, reset 0x00. -/
abbrev PRT_PRBS_BITS.SEQ : Fld := ⟨.PRT_PRBS_BITS, 55, 48, .RO⟩
/-- R61: bits [63:63], RO, reset 0. -/
abbrev PRT_PRBS_BITS.VALID : Fld := ⟨.PRT_PRBS_BITS, 63, 63, .RO⟩
/-- R61: bits [39:0], RO, reset 0x0. -/
abbrev PRT_PRBS_RES.ERR : Fld := ⟨.PRT_PRBS_RES, 39, 0, .RO⟩
/-- R61: bits [40:40], RO, reset 0. -/
abbrev PRT_PRBS_RES.SAT : Fld := ⟨.PRT_PRBS_RES, 40, 40, .RO⟩
/-- R61: bits [41:41], RO, reset 0. -/
abbrev PRT_PRBS_RES.LOCK : Fld := ⟨.PRT_PRBS_RES, 41, 41, .RO⟩
/-- R61: bits [55:48], RO, reset 0x00. -/
abbrev PRT_PRBS_RES.SEQ : Fld := ⟨.PRT_PRBS_RES, 55, 48, .RO⟩
/-- R61: bits [63:63], RO, reset 0. -/
abbrev PRT_PRBS_RES.VALID : Fld := ⟨.PRT_PRBS_RES, 63, 63, .RO⟩
/-- R88: bits [0:0], RO, reset 0. -/
abbrev PRT_CXL_CFG.CXL_EN0 : Fld := ⟨.PRT_CXL_CFG, 0, 0, .RO⟩
/-- R88: bits [1:1], RO, reset 0. -/
abbrev PRT_CXL_CFG.CXL_EN1 : Fld := ⟨.PRT_CXL_CFG, 1, 1, .RO⟩
/-- R88: bits [2:2], RO, reset 0. -/
abbrev PRT_CXL_CFG.CACHE_EN0 : Fld := ⟨.PRT_CXL_CFG, 2, 2, .RO⟩
/-- R88: bits [3:3], RO, reset 0. -/
abbrev PRT_CXL_CFG.CACHE_EN1 : Fld := ⟨.PRT_CXL_CFG, 3, 3, .RO⟩
/-- R88: bits [4:4], RO, reset 0. -/
abbrev PRT_CXL_CFG.MLD_EN0 : Fld := ⟨.PRT_CXL_CFG, 4, 4, .RO⟩
/-- R88: bits [5:5], RO, reset 0. -/
abbrev PRT_CXL_CFG.MLD_EN1 : Fld := ⟨.PRT_CXL_CFG, 5, 5, .RO⟩
/-- R88: bits [7:6], RO, reset 0x0. -/
abbrev PRT_CXL_CFG.IDE_POL0 : Fld := ⟨.PRT_CXL_CFG, 7, 6, .RO⟩
/-- R88: bits [9:8], RO, reset 0x0. -/
abbrev PRT_CXL_CFG.IDE_POL1 : Fld := ⟨.PRT_CXL_CFG, 9, 8, .RO⟩
/-- R88: bits [21:16], RO, reset 0x05. -/
abbrev PRT_CXL_CFG.HP_TMO : Fld := ⟨.PRT_CXL_CFG, 21, 16, .RO⟩
/-- R88: bits [1:0], RO, reset 0x0. -/
abbrev PRT_CXL_STATUS.PROTO : Fld := ⟨.PRT_CXL_STATUS, 1, 0, .RO⟩
/-- R88: bits [2:2], RO, reset 0. -/
abbrev PRT_CXL_STATUS.CACHE : Fld := ⟨.PRT_CXL_STATUS, 2, 2, .RO⟩
/-- R88: bits [3:3], RO, reset 0. -/
abbrev PRT_CXL_STATUS.MEM : Fld := ⟨.PRT_CXL_STATUS, 3, 3, .RO⟩
/-- R88: bits [4:4], RO, reset 0. -/
abbrev PRT_CXL_STATUS.BI : Fld := ⟨.PRT_CXL_STATUS, 4, 4, .RO⟩
/-- R88: bits [5:5], RO, reset 0. -/
abbrev PRT_CXL_STATUS.MLD : Fld := ⟨.PRT_CXL_STATUS, 5, 5, .RO⟩
/-- R88: bits [10:6], RO, reset 0x00. -/
abbrev PRT_CXL_STATUS.LD_CNT : Fld := ⟨.PRT_CXL_STATUS, 10, 6, .RO⟩
/-- R88: bits [12:11], RO, reset 0x0. -/
abbrev PRT_CXL_STATUS.IDE_CM : Fld := ⟨.PRT_CXL_STATUS, 12, 11, .RO⟩
/-- R88: bits [13:13], RO, reset 0. -/
abbrev PRT_CXL_STATUS.IDE_IO : Fld := ⟨.PRT_CXL_STATUS, 13, 13, .RO⟩
/-- R88: bits [15:14], RO, reset 0x0. -/
abbrev PRT_CXL_STATUS.DEVLOAD : Fld := ⟨.PRT_CXL_STATUS, 15, 14, .RO⟩
/-- R88: bits [22:16], RO, reset 0x7F. -/
abbrev PRT_CXL_STATUS.VCS : Fld := ⟨.PRT_CXL_STATUS, 22, 16, .RO⟩
/-- R88: bits [47:32], RO, reset 0x0000. -/
abbrev PRT_CXL_STATUS.IDE_FAIL : Fld := ⟨.PRT_CXL_STATUS, 47, 32, .RO⟩
/-- R89: bits [5:0], RO, reset image. -/
abbrev VPPB_ENTRY.VCS : Fld := ⟨.VPPB_ENTRY, 5, 0, .RO⟩
/-- R89: bits [6:6], RO, reset image. -/
abbrev VPPB_ENTRY.USP : Fld := ⟨.VPPB_ENTRY, 6, 6, .RO⟩
/-- R89: bits [7:7], RO, reset 0. -/
abbrev VPPB_ENTRY.BUSY : Fld := ⟨.VPPB_ENTRY, 7, 7, .RO⟩
/-- R89: bits [9:8], RO, reset image. -/
abbrev VPPB_ENTRY.STATE : Fld := ⟨.VPPB_ENTRY, 9, 8, .RO⟩
/-- R89: bits [10:10], RO, reset image. -/
abbrev VPPB_ENTRY.REMOTE : Fld := ⟨.VPPB_ENTRY, 10, 10, .RO⟩
/-- R89: bits [11:11], RO, reset 0. -/
abbrev VPPB_ENTRY.PRESENT : Fld := ⟨.VPPB_ENTRY, 11, 11, .RO⟩
/-- R89: bits [15:12], RO, reset image. -/
abbrev VPPB_ENTRY.LD_ID : Fld := ⟨.VPPB_ENTRY, 15, 12, .RO⟩
/-- R89: bits [32:16], RO, reset image. -/
abbrev VPPB_ENTRY.TARGET : Fld := ⟨.VPPB_ENTRY, 32, 16, .RO⟩
/-- R89: bits [37:33], RO, reset image. -/
abbrev VPPB_ENTRY.DEVNUM : Fld := ⟨.VPPB_ENTRY, 37, 33, .RO⟩
/-- R89: bits [6:0], RO, reset 0x7F. -/
abbrev VCS_ENTRY.USP_PORT : Fld := ⟨.VCS_ENTRY, 6, 0, .RO⟩
/-- R89: bits [7:7], RO, reset 0. -/
abbrev VCS_ENTRY.ACTIVE : Fld := ⟨.VCS_ENTRY, 7, 7, .RO⟩
/-- R89: bits [17:8], RO, reset image. -/
abbrev VCS_ENTRY.FIRST_VPPB : Fld := ⟨.VCS_ENTRY, 17, 8, .RO⟩
/-- R89: bits [23:18], RO, reset image. -/
abbrev VCS_ENTRY.DSP_CNT : Fld := ⟨.VCS_ENTRY, 23, 18, .RO⟩
/-- R89: bits [24:24], RO, reset image. -/
abbrev VCS_ENTRY.POOL : Fld := ⟨.VCS_ENTRY, 24, 24, .RO⟩
/-- R89: bits [25:25], RO, reset 0. -/
abbrev VCS_ENTRY.BI_EN : Fld := ⟨.VCS_ENTRY, 25, 25, .RO⟩
/-- R89: bits [36:26], RO, reset 0x000. -/
abbrev VCS_ENTRY.CAID : Fld := ⟨.VCS_ENTRY, 36, 26, .RO⟩
/-- R110: bits [0:0], RO, reset 0. -/
abbrev SFL_PHY_CFG.RATE128 : Fld := ⟨.SFL_PHY_CFG, 0, 0, .RO⟩
/-- R110: bits [1:1], RO, reset 0. -/
abbrev SFL_PHY_CFG.SPARE_EN : Fld := ⟨.SFL_PHY_CFG, 1, 1, .RO⟩
/-- R110: bits [2:2], RO, reset 0. -/
abbrev SFL_PHY_CFG.ENC_EN : Fld := ⟨.SFL_PHY_CFG, 2, 2, .RO⟩
/-- R110: bits [15:8], RO, reset 0x00. -/
abbrev SFL_PHY_CFG.REV_MIN : Fld := ⟨.SFL_PHY_CFG, 15, 8, .RO⟩
/-- R110: bits [23:16], RO, reset 0x00. -/
abbrev SFL_PHY_CFG.REV_MAX : Fld := ⟨.SFL_PHY_CFG, 23, 16, .RO⟩
/-- R110: bits [0:0], WO, reset 0. -/
abbrev SFL_PHY_CTL.RETRAIN : Fld := ⟨.SFL_PHY_CTL, 0, 0, .WO⟩
/-- R110: bits [1:1], RW, reset 1. -/
abbrev SFL_PHY_CTL.RATE_CAP : Fld := ⟨.SFL_PHY_CTL, 1, 1, .RW⟩
/-- R110: bits [3:0], RO, reset 0x0. -/
abbrev SFL_TRAIN_STATUS.STATE : Fld := ⟨.SFL_TRAIN_STATUS, 3, 0, .RO⟩
/-- R110: bits [4:4], RO, reset 0. -/
abbrev SFL_TRAIN_STATUS.RATE : Fld := ⟨.SFL_TRAIN_STATUS, 4, 4, .RO⟩
/-- R110: bits [15:8], RO, reset 0x00. -/
abbrev SFL_TRAIN_STATUS.REV : Fld := ⟨.SFL_TRAIN_STATUS, 15, 8, .RO⟩
/-- R110: bits [20:16], RO, reset 0x00. -/
abbrev SFL_TRAIN_STATUS.LANES : Fld := ⟨.SFL_TRAIN_STATUS, 20, 16, .RO⟩
/-- R110: bits [27:24], RO, reset 0x0. -/
abbrev SFL_TRAIN_STATUS.FAIL : Fld := ⟨.SFL_TRAIN_STATUS, 27, 24, .RO⟩
/-- R110: bits [47:32], RO, reset 0x0000. -/
abbrev SFL_TRAIN_STATUS.FALSE_LOCK : Fld := ⟨.SFL_TRAIN_STATUS, 47, 32, .RO⟩
/-- R110: bits [63:48], RO, reset 0x0000. -/
abbrev SFL_TRAIN_STATUS.TRAIN_CNT : Fld := ⟨.SFL_TRAIN_STATUS, 63, 48, .RO⟩
/-- R110: bits [7:0], RO, reset 0x00. -/
abbrev SFL_PEER.REV_MIN : Fld := ⟨.SFL_PEER, 7, 0, .RO⟩
/-- R110: bits [15:8], RO, reset 0x00. -/
abbrev SFL_PEER.REV_MAX : Fld := ⟨.SFL_PEER, 15, 8, .RO⟩
/-- R110: bits [23:16], RO, reset 0x00. -/
abbrev SFL_PEER.CHIP_ID : Fld := ⟨.SFL_PEER, 23, 16, .RO⟩
/-- R110: bits [30:24], RO, reset 0x00. -/
abbrev SFL_PEER.PORT : Fld := ⟨.SFL_PEER, 30, 24, .RO⟩
/-- R110: bits [31:31], RO, reset 0. -/
abbrev SFL_PEER.RATE128 : Fld := ⟨.SFL_PEER, 31, 31, .RO⟩
/-- R110: bits [32:32], RO, reset 0. -/
abbrev SFL_PEER.WIDTH : Fld := ⟨.SFL_PEER, 32, 32, .RO⟩
/-- R110: bits [34:33], RO, reset 0x0. -/
abbrev SFL_PEER.SPARE : Fld := ⟨.SFL_PEER, 34, 33, .RO⟩
/-- R110: bits [35:35], RO, reset 0. -/
abbrev SFL_PEER.ENC : Fld := ⟨.SFL_PEER, 35, 35, .RO⟩
/-- R110: bits [37:36], RO, reset 0x0. -/
abbrev SFL_PEER.ROLE : Fld := ⟨.SFL_PEER, 37, 36, .RO⟩
/-- R110: bits [63:48], RO, reset 0x0000. -/
abbrev SFL_PEER.LANE_OK : Fld := ⟨.SFL_PEER, 63, 48, .RO⟩
/-- R110: bits [0:0], RO, reset 0. -/
abbrev SFL_LANE_STAT.LOCK : Fld := ⟨.SFL_LANE_STAT, 0, 0, .RO⟩
/-- R110: bits [5:1], RO, reset 0x00. -/
abbrev SFL_LANE_STAT.LANE_ID : Fld := ⟨.SFL_LANE_STAT, 5, 1, .RO⟩
/-- R110: bits [17:8], RO, reset 0x000. -/
abbrev SFL_LANE_STAT.SKEW : Fld := ⟨.SFL_LANE_STAT, 17, 8, .RO⟩
/-- R110: bits [31:20], RC, reset 0x000. -/
abbrev SFL_LANE_STAT.CW_UNCORR : Fld := ⟨.SFL_LANE_STAT, 31, 20, .RC⟩
/-- R110: bits [47:32], RC, reset 0x0000. -/
abbrev SFL_LANE_STAT.CW_CORR : Fld := ⟨.SFL_LANE_STAT, 47, 32, .RC⟩
/-- R110: bits [55:48], RC, reset 0x00. -/
abbrev SFL_LANE_STAT.MARKER_ERR : Fld := ⟨.SFL_LANE_STAT, 55, 48, .RC⟩
/-- R110: bits [63:56], RC, reset 0x00. -/
abbrev SFL_LANE_STAT.SYNC_ERR : Fld := ⟨.SFL_LANE_STAT, 63, 56, .RC⟩
/-- R136: bits [9:0], RW, reset 0x032. -/
abbrev SFL_LINK_CTL.DOWN_TMO : Fld := ⟨.SFL_LINK_CTL, 9, 0, .RW⟩
/-- R136: bits [23:16], RW, reset 0x10. -/
abbrev SFL_LINK_CTL.REPLAY_MAX : Fld := ⟨.SFL_LINK_CTL, 23, 16, .RW⟩
/-- R136: bits [31:24], RW, reset 0x28. -/
abbrev SFL_LINK_CTL.REPLAY_TMO : Fld := ⟨.SFL_LINK_CTL, 31, 24, .RW⟩
/-- R136: bits [47:32], RW, reset 0x0000. -/
abbrev SFL_LINK_CTL.LANE_MASK : Fld := ⟨.SFL_LINK_CTL, 47, 32, .RW⟩
/-- R136: bits [48:48], WO, reset 0. -/
abbrev SFL_LINK_CTL.LANE_REQ : Fld := ⟨.SFL_LINK_CTL, 48, 48, .WO⟩
/-- R136: bits [1:0], RO, reset 0x0. -/
abbrev SFL_LINK_STAT.TX_STATE : Fld := ⟨.SFL_LINK_STAT, 1, 0, .RO⟩
/-- R136: bits [2:2], RO, reset 0. -/
abbrev SFL_LINK_STAT.RX_DISCARD : Fld := ⟨.SFL_LINK_STAT, 2, 2, .RO⟩
/-- R136: bits [23:8], RO, reset 0x0000. -/
abbrev SFL_LINK_STAT.ACTIVE_MASK : Fld := ⟨.SFL_LINK_STAT, 23, 8, .RO⟩
/-- R136: bits [27:24], RO, reset 0x0. -/
abbrev SFL_LINK_STAT.EPOCH : Fld := ⟨.SFL_LINK_STAT, 27, 24, .RO⟩
/-- R136: bits [28:28], RO, reset 0. -/
abbrev SFL_LINK_STAT.LANE_BUSY : Fld := ⟨.SFL_LINK_STAT, 28, 28, .RO⟩
/-- R136: bits [31:29], RO, reset 0x0. -/
abbrev SFL_LINK_STAT.LANE_ERR : Fld := ⟨.SFL_LINK_STAT, 31, 29, .RO⟩
/-- R136: bits [43:32], RO, reset 0x000. -/
abbrev SFL_LINK_STAT.REPLAY_OCC : Fld := ⟨.SFL_LINK_STAT, 43, 32, .RO⟩
/-- R136: bits [63:48], RO, reset 0x0000. -/
abbrev SFL_LINK_STAT.RTT : Fld := ⟨.SFL_LINK_STAT, 63, 48, .RO⟩
/-- R136: bits [15:0], RC, reset 0x0000. -/
abbrev SFL_LINK_CNT.NAK_SENT : Fld := ⟨.SFL_LINK_CNT, 15, 0, .RC⟩
/-- R136: bits [31:16], RC, reset 0x0000. -/
abbrev SFL_LINK_CNT.REPLAY : Fld := ⟨.SFL_LINK_CNT, 31, 16, .RC⟩
/-- R136: bits [47:32], RC, reset 0x0000. -/
abbrev SFL_LINK_CNT.DISCARD : Fld := ⟨.SFL_LINK_CNT, 47, 32, .RC⟩
/-- R136: bits [63:48], RC, reset 0x0000. -/
abbrev SFL_LINK_CNT.STALL_US : Fld := ⟨.SFL_LINK_CNT, 63, 48, .RC⟩
/-- R136: bits [31:0], RO, reset 0x0. -/
abbrev SFL_LINK_CNT2.LOST : Fld := ⟨.SFL_LINK_CNT2, 31, 0, .RO⟩
/-- R136: bits [47:32], RO, reset 0x0000. -/
abbrev SFL_LINK_CNT2.DOWN_CNT : Fld := ⟨.SFL_LINK_CNT2, 47, 32, .RO⟩
/-- R136: bits [63:48], RC, reset 0x0000. -/
abbrev SFL_LINK_CNT2.TIMING_BAD : Fld := ⟨.SFL_LINK_CNT2, 63, 48, .RC⟩
/-- R136: bits [13:0], RO, reset 0x0000. -/
abbrev SFL_VC_CFG.ALLOC : Fld := ⟨.SFL_VC_CFG, 13, 0, .RO⟩
/-- R136: bits [23:16], RO, reset 0x01. -/
abbrev SFL_VC_CFG.WEIGHT : Fld := ⟨.SFL_VC_CFG, 23, 16, .RO⟩
/-- R136: bits [13:0], RO, reset 0x0000. -/
abbrev SFL_VC_STAT.FREE : Fld := ⟨.SFL_VC_STAT, 13, 0, .RO⟩
/-- R136: bits [14:14], RO, reset 0. -/
abbrev SFL_VC_STAT.XOFF_TX : Fld := ⟨.SFL_VC_STAT, 14, 14, .RO⟩
/-- R136: bits [15:15], RO, reset 0. -/
abbrev SFL_VC_STAT.XOFF_RX : Fld := ⟨.SFL_VC_STAT, 15, 15, .RO⟩
/-- R136: bits [16:16], RO, reset 0. -/
abbrev SFL_VC_STAT.HEADROOM_SHORT : Fld := ⟨.SFL_VC_STAT, 16, 16, .RO⟩
/-- R136: bits [30:17], RO, reset 0x0000. -/
abbrev SFL_VC_STAT.THR : Fld := ⟨.SFL_VC_STAT, 30, 17, .RO⟩
/-- R136: bits [47:32], RC, reset 0x0000. -/
abbrev SFL_VC_STAT.OVF : Fld := ⟨.SFL_VC_STAT, 47, 32, .RC⟩
/-- R136: bits [63:48], RC, reset 0x0000. -/
abbrev SFL_VC_STAT.XOFF_CNT : Fld := ⟨.SFL_VC_STAT, 63, 48, .RC⟩
/-- R136: bits [0:0], RW, reset 0. -/
abbrev SFL_ENC_CTL.TX_SLOT : Fld := ⟨.SFL_ENC_CTL, 0, 0, .RW⟩
/-- R136: bits [0:0], RO, reset 0. -/
abbrev SFL_ENC_STATUS.ACTIVE : Fld := ⟨.SFL_ENC_STATUS, 0, 0, .RO⟩
/-- R136: bits [2:1], RO, reset 0x0. -/
abbrev SFL_ENC_STATUS.TX_VALID : Fld := ⟨.SFL_ENC_STATUS, 2, 1, .RO⟩
/-- R136: bits [4:3], RO, reset 0x0. -/
abbrev SFL_ENC_STATUS.RX_VALID : Fld := ⟨.SFL_ENC_STATUS, 4, 3, .RO⟩
/-- R136: bits [5:5], RO, reset 0. -/
abbrev SFL_ENC_STATUS.LAST_RX_KID : Fld := ⟨.SFL_ENC_STATUS, 5, 5, .RO⟩
/-- R136: bits [7:6], RO, reset 0x0. -/
abbrev SFL_ENC_STATUS.KEY_ERR : Fld := ⟨.SFL_ENC_STATUS, 7, 6, .RO⟩
/-- R136: bits [9:8], RO, reset 0x0. -/
abbrev SFL_ENC_STATUS.PEER_RXV : Fld := ⟨.SFL_ENC_STATUS, 9, 8, .RO⟩
/-- R136: bits [15:10], RO, reset 0x00. -/
abbrev SFL_ENC_STATUS.SYNC_LOW : Fld := ⟨.SFL_ENC_STATUS, 15, 10, .RO⟩
/-- R136: bits [31:16], RO, reset 0x0000. -/
abbrev SFL_ENC_STATUS.TAG_FAIL : Fld := ⟨.SFL_ENC_STATUS, 31, 16, .RO⟩
/-- R136: bits [63:32], RO, reset 0x0. -/
abbrev SFL_ENC_STATUS.TX_COUNT : Fld := ⟨.SFL_ENC_STATUS, 63, 32, .RO⟩
/-- R136: bits [63:0], WO, reset 0x0. -/
abbrev SFL_KEY_DATA.KEY : Fld := ⟨.SFL_KEY_DATA, 63, 0, .WO⟩
/-- R136: bits [0:0], WO, reset 0. -/
abbrev SFL_KEY_CMD.SLOT : Fld := ⟨.SFL_KEY_CMD, 0, 0, .WO⟩
/-- R136: bits [1:1], WO, reset 0. -/
abbrev SFL_KEY_CMD.DIR : Fld := ⟨.SFL_KEY_CMD, 1, 1, .WO⟩
/-- R136: bits [2:2], WO, reset 0. -/
abbrev SFL_KEY_CMD.COMMIT : Fld := ⟨.SFL_KEY_CMD, 2, 2, .WO⟩
/-- R136: bits [63:32], WO, reset 0x0. -/
abbrev SFL_KEY_CMD.SALT : Fld := ⟨.SFL_KEY_CMD, 63, 32, .WO⟩
/-- R143: bits [0:0], RW, reset image. -/
abbrev ROUTE_ENTRY.VALID : Fld := ⟨.ROUTE_ENTRY, 0, 0, .RW⟩
/-- R143: bits [1:1], RW, reset image. -/
abbrev ROUTE_ENTRY.ORDER : Fld := ⟨.ROUTE_ENTRY, 1, 1, .RW⟩
/-- R143: bits [5:2], RW, reset image. -/
abbrev ROUTE_ENTRY.LEN : Fld := ⟨.ROUTE_ENTRY, 5, 2, .RW⟩
/-- R143: bits [23:8], RW, reset image. -/
abbrev ROUTE_ENTRY.HOPS : Fld := ⟨.ROUTE_ENTRY, 23, 8, .RW⟩
/-- R143: bits [47:32], RO, reset 0x0000. -/
abbrev ROUTE_ENTRY.WTAG : Fld := ⟨.ROUTE_ENTRY, 47, 32, .RO⟩
/-- R171: bits [3:0], RO, reset 0x8. -/
abbrev ANV_CR_CFG.STAND : Fld := ⟨.ANV_CR_CFG, 3, 0, .RO⟩
/-- R171: bits [8:4], RO, reset 0x10. -/
abbrev ANV_CR_CFG.CHUNK : Fld := ⟨.ANV_CR_CFG, 8, 4, .RO⟩
/-- R171: bits [20:9], RO, reset 0x200. -/
abbrev ANV_CR_CFG.MAX_SHARED : Fld := ⟨.ANV_CR_CFG, 20, 9, .RO⟩
/-- R171: bits [11:0], RO, reset 0xCD0. -/
abbrev ANV_CR_STAT.SHARED_FREE : Fld := ⟨.ANV_CR_STAT, 11, 0, .RO⟩
/-- R171: bits [25:13], RO, reset 0x0000. -/
abbrev ANV_CR_STAT.OCC : Fld := ⟨.ANV_CR_STAT, 25, 13, .RO⟩
/-- R171: bits [44:32], RC, reset 0x0000. -/
abbrev ANV_CR_STAT.PEAK : Fld := ⟨.ANV_CR_STAT, 44, 32, .RC⟩
/-- R171: bits [3:0], RO, reset 0x0. -/
abbrev ANV_RTR_STAT.LINK_UP : Fld := ⟨.ANV_RTR_STAT, 3, 0, .RO⟩
/-- R171: bits [19:4], RO, reset repair map. -/
abbrev ANV_RTR_STAT.SPARE_USED : Fld := ⟨.ANV_RTR_STAT, 19, 4, .RO⟩
/-- R171: bits [31:0], RC, reset 0x0. -/
abbrev ANV_RTR_ERR.ECC_CORR : Fld := ⟨.ANV_RTR_ERR, 31, 0, .RC⟩
/-- R171: bits [47:32], RC, reset 0x0000. -/
abbrev ANV_RTR_ERR.ECC_UNCORR : Fld := ⟨.ANV_RTR_ERR, 47, 32, .RC⟩
/-- R171: bits [63:48], RC, reset 0x0000. -/
abbrev ANV_RTR_ERR.NO_ROUTE : Fld := ⟨.ANV_RTR_ERR, 63, 48, .RC⟩
/-- R171: bits [0:0], RW, reset 0. -/
abbrev ANV_PRB_CTL.EN : Fld := ⟨.ANV_PRB_CTL, 0, 0, .RW⟩
/-- R171: bits [3:1], RW, reset 0x0. -/
abbrev ANV_PRB_CTL.PORT : Fld := ⟨.ANV_PRB_CTL, 3, 1, .RW⟩
/-- R171: bits [4:4], RW, reset 0. -/
abbrev ANV_PRB_CTL.TRACE_EN : Fld := ⟨.ANV_PRB_CTL, 4, 4, .RW⟩
/-- R171: bits [5:5], RW, reset 0. -/
abbrev ANV_PRB_CTL.EVT_EN : Fld := ⟨.ANV_PRB_CTL, 5, 5, .RW⟩
/-- R171: bits [6:6], WO, reset 0. -/
abbrev ANV_PRB_CTL.SNAP : Fld := ⟨.ANV_PRB_CTL, 6, 6, .WO⟩
/-- R171: bits [63:16], RW, reset 0x0. -/
abbrev ANV_PRB_CTL.THRESH : Fld := ⟨.ANV_PRB_CTL, 63, 16, .RW⟩
/-- R171: bits [7:0], RW, reset 0x00. -/
abbrev ANV_PRB_MATCH.DST_NI : Fld := ⟨.ANV_PRB_MATCH, 7, 0, .RW⟩
/-- R171: bits [15:8], RW, reset 0x00. -/
abbrev ANV_PRB_MATCH.SRC_NI : Fld := ⟨.ANV_PRB_MATCH, 15, 8, .RW⟩
/-- R171: bits [31:16], RW, reset 0x0000. -/
abbrev ANV_PRB_MATCH.STREAM : Fld := ⟨.ANV_PRB_MATCH, 31, 16, .RW⟩
/-- R171: bits [35:32], RW, reset 0x0. -/
abbrev ANV_PRB_MATCH.CLASS : Fld := ⟨.ANV_PRB_MATCH, 35, 32, .RW⟩
/-- R171: bits [43:36], RW, reset 0x00. -/
abbrev ANV_PRB_MATCH.OPC : Fld := ⟨.ANV_PRB_MATCH, 43, 36, .RW⟩
/-- R171: bits [47:44], RW, reset 0x0. -/
abbrev ANV_PRB_MATCH.SLAG : Fld := ⟨.ANV_PRB_MATCH, 47, 44, .RW⟩
/-- R171: bits [48:48], RW, reset 0. -/
abbrev ANV_PRB_MATCH.MIRROR : Fld := ⟨.ANV_PRB_MATCH, 48, 48, .RW⟩
/-- R171: bits [49:49], RW, reset 0. -/
abbrev ANV_PRB_MATCH.POISON : Fld := ⟨.ANV_PRB_MATCH, 49, 49, .RW⟩
/-- R171: bits [7:0], RW, reset 0x00. -/
abbrev ANV_PRB_MASK.DST_NI : Fld := ⟨.ANV_PRB_MASK, 7, 0, .RW⟩
/-- R171: bits [15:8], RW, reset 0x00. -/
abbrev ANV_PRB_MASK.SRC_NI : Fld := ⟨.ANV_PRB_MASK, 15, 8, .RW⟩
/-- R171: bits [31:16], RW, reset 0x0000. -/
abbrev ANV_PRB_MASK.STREAM : Fld := ⟨.ANV_PRB_MASK, 31, 16, .RW⟩
/-- R171: bits [35:32], RW, reset 0x0. -/
abbrev ANV_PRB_MASK.CLASS : Fld := ⟨.ANV_PRB_MASK, 35, 32, .RW⟩
/-- R171: bits [43:36], RW, reset 0x00. -/
abbrev ANV_PRB_MASK.OPC : Fld := ⟨.ANV_PRB_MASK, 43, 36, .RW⟩
/-- R171: bits [47:44], RW, reset 0x0. -/
abbrev ANV_PRB_MASK.SLAG : Fld := ⟨.ANV_PRB_MASK, 47, 44, .RW⟩
/-- R171: bits [48:48], RW, reset 0. -/
abbrev ANV_PRB_MASK.MIRROR : Fld := ⟨.ANV_PRB_MASK, 48, 48, .RW⟩
/-- R171: bits [49:49], RW, reset 0. -/
abbrev ANV_PRB_MASK.POISON : Fld := ⟨.ANV_PRB_MASK, 49, 49, .RW⟩
/-- R171: bits [47:0], RO, reset 0x0. -/
abbrev ANV_PRB_RES.COUNT : Fld := ⟨.ANV_PRB_RES, 47, 0, .RO⟩
/-- R171: bits [55:48], RO, reset 0x00. -/
abbrev ANV_PRB_RES.SEQ : Fld := ⟨.ANV_PRB_RES, 55, 48, .RO⟩
/-- R171: bits [63:63], RO, reset 0. -/
abbrev ANV_PRB_RES.VALID : Fld := ⟨.ANV_PRB_RES, 63, 63, .RO⟩
/-- R171: bits [47:0], RO, reset 0x0. -/
abbrev ANV_PRB_RES2.COUNT : Fld := ⟨.ANV_PRB_RES2, 47, 0, .RO⟩
/-- R171: bits [55:48], RO, reset 0x00. -/
abbrev ANV_PRB_RES2.SEQ : Fld := ⟨.ANV_PRB_RES2, 55, 48, .RO⟩
/-- R171: bits [63:63], RO, reset 0. -/
abbrev ANV_PRB_RES2.VALID : Fld := ⟨.ANV_PRB_RES2, 63, 63, .RO⟩
/-- R171: bits [27:0], RW, reset 0x111_1111. -/
abbrev ANV_ARB_CFG.WGT : Fld := ⟨.ANV_ARB_CFG, 27, 0, .RW⟩
/-- R171: bits [35:28], RW, reset 0x20. -/
abbrev ANV_ARB_CFG.AGE_THR : Fld := ⟨.ANV_ARB_CFG, 35, 28, .RW⟩
/-- R171: bits [7:0], WO, reset 0x00. -/
abbrev ANV_QUENCH_CMD.NI : Fld := ⟨.ANV_QUENCH_CMD, 7, 0, .WO⟩
/-- R171: bits [8:8], WO, reset 0. -/
abbrev ANV_QUENCH_CMD.SET : Fld := ⟨.ANV_QUENCH_CMD, 8, 8, .WO⟩
/-- R171: bits [9:9], WO, reset 0. -/
abbrev ANV_QUENCH_CMD.CLEAR : Fld := ⟨.ANV_QUENCH_CMD, 9, 9, .WO⟩
/-- R171: bits [15:0], RO, reset 0x0000. -/
abbrev ANV_QUENCH_STAT.BLOCK : Fld := ⟨.ANV_QUENCH_STAT, 15, 0, .RO⟩
/-- R171: bits [31:16], RO, reset 0x0000. -/
abbrev ANV_QUENCH_STAT.CLIENT : Fld := ⟨.ANV_QUENCH_STAT, 31, 16, .RO⟩
/-- R171: bits [32:32], RO, reset 0. -/
abbrev ANV_QUENCH_STAT.MGMT : Fld := ⟨.ANV_QUENCH_STAT, 32, 32, .RO⟩
/-- R171: bits [33:33], RO, reset 0. -/
abbrev ANV_QUENCH_STAT.SPARE : Fld := ⟨.ANV_QUENCH_STAT, 33, 33, .RO⟩
/-- R171: bits [31:0], RO, reset 0x0. -/
abbrev ANV_SLAG_CNT0.RD_ANS : Fld := ⟨.ANV_SLAG_CNT0, 31, 0, .RO⟩
/-- R171: bits [63:32], RO, reset 0x0. -/
abbrev ANV_SLAG_CNT0.WR_DISC : Fld := ⟨.ANV_SLAG_CNT0, 63, 32, .RO⟩
/-- R171: bits [31:0], RO, reset 0x0. -/
abbrev ANV_SLAG_CNT1.RSP_DISC : Fld := ⟨.ANV_SLAG_CNT1, 31, 0, .RO⟩
/-- R171: bits [47:32], RO, reset 0x0000. -/
abbrev ANV_SLAG_CNT1.NP_UR : Fld := ⟨.ANV_SLAG_CNT1, 47, 32, .RO⟩
/-- R171: bits [63:48], RO, reset 0x0000. -/
abbrev ANV_SLAG_CNT1.SNP_DEAD : Fld := ⟨.ANV_SLAG_CNT1, 63, 48, .RO⟩
/-- R171: bits [31:0], RO, reset 0x0. -/
abbrev ANV_SLAG_CNT2.PARTIAL : Fld := ⟨.ANV_SLAG_CNT2, 31, 0, .RO⟩
/-- R171: bits [63:32], RO, reset 0x0. -/
abbrev ANV_SLAG_CNT2.NO_ROUTE : Fld := ⟨.ANV_SLAG_CNT2, 63, 32, .RO⟩
/-- R171: bits [0:0], RW, reset 0. -/
abbrev ANV_MIR_CFG.EN : Fld := ⟨.ANV_MIR_CFG, 0, 0, .RW⟩
/-- R171: bits [1:1], RW, reset 0. -/
abbrev ANV_MIR_CFG.ING : Fld := ⟨.ANV_MIR_CFG, 1, 1, .RW⟩
/-- R171: bits [2:2], RW, reset 0. -/
abbrev ANV_MIR_CFG.EGR : Fld := ⟨.ANV_MIR_CFG, 2, 2, .RW⟩
/-- R171: bits [3:3], RW, reset 0. -/
abbrev ANV_MIR_CFG.BY_FLOW : Fld := ⟨.ANV_MIR_CFG, 3, 3, .RW⟩
/-- R171: bits [20:4], RW, reset 0x0_0000. -/
abbrev ANV_MIR_CFG.SRC : Fld := ⟨.ANV_MIR_CFG, 20, 4, .RW⟩
/-- R171: bits [27:21], RW, reset 0x00. -/
abbrev ANV_MIR_CFG.DST_PORT : Fld := ⟨.ANV_MIR_CFG, 27, 21, .RW⟩
/-- R171: bits [29:28], RW, reset 0x0. -/
abbrev ANV_MIR_CFG.TRUNC : Fld := ⟨.ANV_MIR_CFG, 29, 28, .RW⟩
/-- R171: bits [47:32], RW, reset 0x0000. -/
abbrev ANV_MIR_CFG.SAMPLE : Fld := ⟨.ANV_MIR_CFG, 47, 32, .RW⟩
/-- R171: bits [63:12], RW, reset 0x0. -/
abbrev ANV_MIR_RING.BASE : Fld := ⟨.ANV_MIR_RING, 63, 12, .RW⟩
/-- R171: bits [4:0], RW, reset 0x0C. -/
abbrev ANV_MIR_RING_SZ.LOG2 : Fld := ⟨.ANV_MIR_RING_SZ, 4, 0, .RW⟩
/-- R171: bits [61:32], RO, reset 0x0. -/
abbrev ANV_MIR_RING_SZ.WOFF : Fld := ⟨.ANV_MIR_RING_SZ, 61, 32, .RO⟩
/-- R171: bits [31:0], RO, reset 0x0. -/
abbrev ANV_MIR_STAT.SEQ : Fld := ⟨.ANV_MIR_STAT, 31, 0, .RO⟩
/-- R171: bits [63:32], RO, reset 0x0. -/
abbrev ANV_MIR_STAT.DROP : Fld := ⟨.ANV_MIR_STAT, 63, 32, .RO⟩
/-- R189: bits [0:0], RO, reset image. -/
abbrev TMP_CFG.CLASS : Fld := ⟨.TMP_CFG, 0, 0, .RO⟩
/-- R189: bits [1:1], RW, reset 0. -/
abbrev TMP_CFG.AUTO_BIND : Fld := ⟨.TMP_CFG, 1, 1, .RW⟩
/-- R189: bits [17:2], RW, reset 0x0000. -/
abbrev TMP_CFG.TEMPLATE : Fld := ⟨.TMP_CFG, 17, 2, .RW⟩
/-- R189: bits [47:32], RW, reset 0x03E8. -/
abbrev TMP_CFG.HOLD_BOUND : Fld := ⟨.TMP_CFG, 47, 32, .RW⟩
/-- R189: bits [50:48], RW, reset 0x6. -/
abbrev TMP_CFG.CLIENT_TC : Fld := ⟨.TMP_CFG, 50, 48, .RW⟩
/-- R189: bits [47:0], RW, reset 0xFFA5_FA50_E500. -/
abbrev TMP_PROFILE3.MAP : Fld := ⟨.TMP_PROFILE3, 47, 0, .RW⟩
/-- R189: bits [16:0], WO, reset 0x0_0000. -/
abbrev TMP_BIND_CMD.INDEX : Fld := ⟨.TMP_BIND_CMD, 16, 0, .WO⟩
/-- R189: bits [33:17], WO, reset 0x0_0000. -/
abbrev TMP_BIND_CMD.SRC_FEID : Fld := ⟨.TMP_BIND_CMD, 33, 17, .WO⟩
/-- R189: bits [37:34], WO, reset 0x0. -/
abbrev TMP_BIND_CMD.LD : Fld := ⟨.TMP_BIND_CMD, 37, 34, .WO⟩
/-- R189: bits [40:40], WO, reset 0. -/
abbrev TMP_BIND_CMD.BIND : Fld := ⟨.TMP_BIND_CMD, 40, 40, .WO⟩
/-- R189: bits [41:41], WO, reset 0. -/
abbrev TMP_BIND_CMD.UNBIND : Fld := ⟨.TMP_BIND_CMD, 41, 41, .WO⟩
/-- R189: bits [42:42], WO, reset 0. -/
abbrev TMP_BIND_CMD.LOOKUP : Fld := ⟨.TMP_BIND_CMD, 42, 42, .WO⟩
/-- R189: bits [3:0], RO, reset 0x0. -/
abbrev TMP_BIND_STAT.STATUS : Fld := ⟨.TMP_BIND_STAT, 3, 0, .RO⟩
/-- R189: bits [20:4], RO, reset 0x0_0000. -/
abbrev TMP_BIND_STAT.INDEX : Fld := ⟨.TMP_BIND_STAT, 20, 4, .RO⟩
/-- R189: bits [55:48], RO, reset 0x00. -/
abbrev TMP_BIND_STAT.SEQ : Fld := ⟨.TMP_BIND_STAT, 55, 48, .RO⟩
/-- R189: bits [63:63], RO, reset 0. -/
abbrev TMP_BIND_STAT.VALID : Fld := ⟨.TMP_BIND_STAT, 63, 63, .RO⟩
/-- R189: bits [16:0], RO, reset image. -/
abbrev TMP_STAT.FREE : Fld := ⟨.TMP_STAT, 16, 0, .RO⟩
/-- R189: bits [47:32], RC, reset 0x0000. -/
abbrev TMP_STAT.BIND_REFUSED : Fld := ⟨.TMP_STAT, 47, 32, .RC⟩
/-- R189: bits [63:48], RC, reset 0x0000. -/
abbrev TMP_STAT.CMARK_IGN : Fld := ⟨.TMP_STAT, 63, 48, .RC⟩
/-- R189: bits [23:0], RW, reset image. -/
abbrev TMP_SHP_RATE.CIR : Fld := ⟨.TMP_SHP_RATE, 23, 0, .RW⟩
/-- R189: bits [47:24], RW, reset image. -/
abbrev TMP_SHP_RATE.PIR : Fld := ⟨.TMP_SHP_RATE, 47, 24, .RW⟩
/-- R189: bits [23:0], RW, reset image. -/
abbrev TMP_SHP_SIZE.CBS : Fld := ⟨.TMP_SHP_SIZE, 23, 0, .RW⟩
/-- R189: bits [47:24], RW, reset image. -/
abbrev TMP_SHP_SIZE.PBS : Fld := ⟨.TMP_SHP_SIZE, 47, 24, .RW⟩
/-- R189: bits [55:48], RW, reset image. -/
abbrev TMP_SHP_SIZE.OVH : Fld := ⟨.TMP_SHP_SIZE, 55, 48, .RW⟩
/-- R189: bits [56:56], RW, reset image. -/
abbrev TMP_SHP_SIZE.TOK_RST : Fld := ⟨.TMP_SHP_SIZE, 56, 56, .RW⟩
/-- R190: bits [16:0], RO, reset 0x0_0000. -/
abbrev TMP_CTX_00.SRC_FEID : Fld := ⟨.TMP_CTX_00, 16, 0, .RO⟩
/-- R190: bits [20:17], RO, reset 0x0. -/
abbrev TMP_CTX_00.LD : Fld := ⟨.TMP_CTX_00, 20, 17, .RO⟩
/-- R190: bits [22:21], RO, reset 0x0. -/
abbrev TMP_CTX_00.REGION : Fld := ⟨.TMP_CTX_00, 22, 21, .RO⟩
/-- R190: bits [23:23], RO, reset 0. -/
abbrev TMP_CTX_00.BOUND : Fld := ⟨.TMP_CTX_00, 23, 23, .RO⟩
/-- R190: bits [24:24], RO, reset 0. -/
abbrev TMP_CTX_00.AUTO : Fld := ⟨.TMP_CTX_00, 24, 24, .RO⟩
/-- R190: bits [23:0], RW, reset image. -/
abbrev TMP_CTX_08.CIR : Fld := ⟨.TMP_CTX_08, 23, 0, .RW⟩
/-- R190: bits [47:24], RW, reset image. -/
abbrev TMP_CTX_08.PIR : Fld := ⟨.TMP_CTX_08, 47, 24, .RW⟩
/-- R190: bits [23:0], RW, reset image. -/
abbrev TMP_CTX_10.CBS : Fld := ⟨.TMP_CTX_10, 23, 0, .RW⟩
/-- R190: bits [47:24], RW, reset image. -/
abbrev TMP_CTX_10.PBS : Fld := ⟨.TMP_CTX_10, 47, 24, .RW⟩
/-- R190: bits [55:48], RW, reset 0x00. -/
abbrev TMP_CTX_10.OVH : Fld := ⟨.TMP_CTX_10, 55, 48, .RW⟩
/-- R190: bits [58:56], RW, reset image. -/
abbrev TMP_CTX_10.TC : Fld := ⟨.TMP_CTX_10, 58, 56, .RW⟩
/-- R190: bits [60:59], RW, reset 0x0. -/
abbrev TMP_CTX_10.PROFILE : Fld := ⟨.TMP_CTX_10, 60, 59, .RW⟩
/-- R190: bits [61:61], RW, reset 0. -/
abbrev TMP_CTX_10.TOK_RST : Fld := ⟨.TMP_CTX_10, 61, 61, .RW⟩
/-- R190: bits [62:62], RW, reset 1. -/
abbrev TMP_CTX_10.HOLD_EN : Fld := ⟨.TMP_CTX_10, 62, 62, .RW⟩
/-- R190: bits [31:0], RO, reset CBS. -/
abbrev TMP_CTX_18.TOK_C : Fld := ⟨.TMP_CTX_18, 31, 0, .RO⟩
/-- R190: bits [63:32], RO, reset PBS. -/
abbrev TMP_CTX_18.TOK_P : Fld := ⟨.TMP_CTX_18, 63, 32, .RO⟩
/-- R190: bits [9:0], RW, reset 0x040. -/
abbrev TMP_CTX_20.HOLD_MAX : Fld := ⟨.TMP_CTX_20, 9, 0, .RW⟩
/-- R190: bits [19:10], RO, reset 0x000. -/
abbrev TMP_CTX_20.HELD_NOW : Fld := ⟨.TMP_CTX_20, 19, 10, .RO⟩
/-- R190: bits [47:0], RO, reset 0x0. -/
abbrev TMP_CTX_28.GREEN_B : Fld := ⟨.TMP_CTX_28, 47, 0, .RO⟩
/-- R190: bits [47:0], RO, reset 0x0. -/
abbrev TMP_CTX_30.YELLOW_B : Fld := ⟨.TMP_CTX_30, 47, 0, .RO⟩
/-- R190: bits [47:0], RO, reset 0x0. -/
abbrev TMP_CTX_38.RED_B : Fld := ⟨.TMP_CTX_38, 47, 0, .RO⟩
/-- R190: bits [47:0], RO, reset 0x0. -/
abbrev TMP_CTX_40.HELD_CNT : Fld := ⟨.TMP_CTX_40, 47, 0, .RO⟩
/-- R190: bits [47:0], RO, reset 0x0. -/
abbrev TMP_CTX_48.HELD_NS : Fld := ⟨.TMP_CTX_48, 47, 0, .RO⟩
/-- R190: bits [47:0], RO, reset 0x0. -/
abbrev TMP_CTX_50.STALL_NS : Fld := ⟨.TMP_CTX_50, 47, 0, .RO⟩
/-- R190: bits [47:0], RO, reset 0x0. -/
abbrev TMP_CTX_58.MARK1 : Fld := ⟨.TMP_CTX_58, 47, 0, .RO⟩
/-- R190: bits [47:0], RO, reset 0x0. -/
abbrev TMP_CTX_60.MARK2 : Fld := ⟨.TMP_CTX_60, 47, 0, .RO⟩
/-- R190: bits [47:0], RO, reset 0x0. -/
abbrev TMP_CTX_68.MARK3 : Fld := ⟨.TMP_CTX_68, 47, 0, .RO⟩
/-- R198: bits [0:0], RW, reset image. -/
abbrev L1_W0.VALID : Fld := ⟨.L1_W0, 0, 0, .RW⟩
/-- R198: bits [1:1], RW, reset image. -/
abbrev L1_W0.SHARED : Fld := ⟨.L1_W0, 1, 1, .RW⟩
/-- R198: bits [2:2], RO, reset 0. -/
abbrev L1_W0.FRACT : Fld := ⟨.L1_W0, 2, 2, .RO⟩
/-- R198: bits [3:3], RO, reset image. -/
abbrev L1_W0.HELD : Fld := ⟨.L1_W0, 3, 3, .RO⟩
/-- R198: bits [4:4], RO, reset image. -/
abbrev L1_W0.POOLABLE : Fld := ⟨.L1_W0, 4, 4, .RO⟩
/-- R198: bits [21:5], RW, reset image. -/
abbrev L1_W0.TARGET : Fld := ⟨.L1_W0, 21, 5, .RW⟩
/-- R198: bits [25:22], RW, reset image. -/
abbrev L1_W0.LD : Fld := ⟨.L1_W0, 25, 22, .RW⟩
/-- R198: bits [47:26], RW, reset image. -/
abbrev L1_W0.DEV_EXT : Fld := ⟨.L1_W0, 47, 26, .RW⟩
/-- R198: bits [63:48], RO, reset 0x0000. -/
abbrev L1_W0.L2PTR : Fld := ⟨.L1_W0, 63, 48, .RO⟩
/-- R198: bits [15:0], RO, reset 0x0000. -/
abbrev L1_W1.WTAG : Fld := ⟨.L1_W1, 15, 0, .RO⟩
/-- R198: bits [21:16], RO, reset image. -/
abbrev L1_W1.VCS : Fld := ⟨.L1_W1, 21, 16, .RO⟩
/-- R198: bits [22:22], RO, reset 0. -/
abbrev L1_W1.RELEASING : Fld := ⟨.L1_W1, 22, 22, .RO⟩
/-- R209: bits [0:0], RWL, reset image. -/
abbrev WIN_W0.VALID : Fld := ⟨.WIN_W0, 0, 0, .RWL⟩
/-- R209: bits [1:1], RWL, reset image. -/
abbrev WIN_W0.SPACE : Fld := ⟨.WIN_W0, 1, 1, .RWL⟩
/-- R209: bits [2:2], RWL, reset image. -/
abbrev WIN_W0.RD : Fld := ⟨.WIN_W0, 2, 2, .RWL⟩
/-- R209: bits [3:3], RWL, reset image. -/
abbrev WIN_W0.WR : Fld := ⟨.WIN_W0, 3, 3, .RWL⟩
/-- R209: bits [5:4], RWL, reset image. -/
abbrev WIN_W0.MTYPE : Fld := ⟨.WIN_W0, 5, 4, .RWL⟩
/-- R209: bits [11:6], RWL, reset image. -/
abbrev WIN_W0.LOG2SIZE : Fld := ⟨.WIN_W0, 11, 6, .RWL⟩
/-- R209: bits [51:12], RWL, reset image. -/
abbrev WIN_W0.BASE : Fld := ⟨.WIN_W0, 51, 12, .RWL⟩
/-- R209: bits [52:52], RWL, reset image. -/
abbrev WIN_W0.LOCK : Fld := ⟨.WIN_W0, 52, 52, .RWL⟩
/-- R209: bits [16:0], RWL, reset image. -/
abbrev WIN_W1.TARGET : Fld := ⟨.WIN_W1, 16, 0, .RWL⟩
/-- R209: bits [37:17], RWL, reset image. -/
abbrev WIN_W1.MID : Fld := ⟨.WIN_W1, 37, 17, .RWL⟩
/-- R209: bits [58:38], RWL, reset image. -/
abbrev WIN_W1.MID_MASK : Fld := ⟨.WIN_W1, 58, 38, .RWL⟩
/-- R209: bits [15:0], RO, reset 0x0000. -/
abbrev WIN_W2.WTAG : Fld := ⟨.WIN_W2, 15, 0, .RO⟩
/-- R213: bits [15:0], RW, reset 0x0020. -/
abbrev ACU_CFG.SCRUB_NS : Fld := ⟨.ACU_CFG, 15, 0, .RW⟩
/-- R213: bits [51:0], RO, reset 0x0. -/
abbrev ACU_ERR_ADDR.ADDR : Fld := ⟨.ACU_ERR_ADDR, 51, 0, .RO⟩
/-- R213: bits [52:52], RO, reset 0. -/
abbrev ACU_ERR_ADDR.SPACE : Fld := ⟨.ACU_ERR_ADDR, 52, 52, .RO⟩
/-- R213: bits [2:0], RO, reset 0x0. -/
abbrev ACU_ERR_INFO.CAUSE : Fld := ⟨.ACU_ERR_INFO, 2, 0, .RO⟩
/-- R213: bits [3:3], RO, reset 0. -/
abbrev ACU_ERR_INFO.WRITE : Fld := ⟨.ACU_ERR_INFO, 3, 3, .RO⟩
/-- R213: bits [5:4], RO, reset 0x0. -/
abbrev ACU_ERR_INFO.MTYPE : Fld := ⟨.ACU_ERR_INFO, 5, 4, .RO⟩
/-- R213: bits [26:6], RO, reset 0x0. -/
abbrev ACU_ERR_INFO.MID : Fld := ⟨.ACU_ERR_INFO, 26, 6, .RO⟩
/-- R213: bits [43:27], RO, reset 0x0. -/
abbrev ACU_ERR_INFO.TARGET : Fld := ⟨.ACU_ERR_INFO, 43, 27, .RO⟩
/-- R213: bits [63:63], W1C, reset 0. -/
abbrev ACU_ERR_INFO.PEND : Fld := ⟨.ACU_ERR_INFO, 63, 63, .W1C⟩
/-- R213: bits [15:0], RC, reset 0x0000. -/
abbrev ACU_CNT.DECODE_MISS : Fld := ⟨.ACU_CNT, 15, 0, .RC⟩
/-- R213: bits [31:16], RC, reset 0x0000. -/
abbrev ACU_CNT.UNMAPPED : Fld := ⟨.ACU_CNT, 31, 16, .RC⟩
/-- R213: bits [47:32], RC, reset 0x0000. -/
abbrev ACU_CNT.DENY_RD : Fld := ⟨.ACU_CNT, 47, 32, .RC⟩
/-- R213: bits [63:48], RC, reset 0x0000. -/
abbrev ACU_CNT.DENY_WR : Fld := ⟨.ACU_CNT, 63, 48, .RC⟩
/-- R213: bits [15:0], RC, reset 0x0000. -/
abbrev ACU_DUP_STAT.ROUTE_CORR : Fld := ⟨.ACU_DUP_STAT, 15, 0, .RC⟩
/-- R213: bits [31:16], RC, reset 0x0000. -/
abbrev ACU_DUP_STAT.L1_CORR : Fld := ⟨.ACU_DUP_STAT, 31, 16, .RC⟩
/-- R213: bits [47:32], RC, reset 0x0000. -/
abbrev ACU_DUP_STAT.ACU_CORR : Fld := ⟨.ACU_DUP_STAT, 47, 32, .RC⟩
/-- R213: bits [63:48], RC, reset 0x0000. -/
abbrev ACU_DUP_STAT.UNCORR : Fld := ⟨.ACU_DUP_STAT, 63, 48, .RC⟩
/-- R214: bits [2:0], WO, reset 0x0. -/
abbrev RMP_CMD.OP : Fld := ⟨.RMP_CMD, 2, 0, .WO⟩
/-- R214: bits [31:16], WO, reset 0x0000. -/
abbrev RMP_CMD.L1_IDX : Fld := ⟨.RMP_CMD, 31, 16, .WO⟩
/-- R214: bits [40:32], WO, reset 0x000. -/
abbrev RMP_CMD.GRAN : Fld := ⟨.RMP_CMD, 40, 32, .WO⟩
/-- R214: bits [63:0], RW, reset 0x0. -/
abbrev RMP_CMD_DATA.ENTRY : Fld := ⟨.RMP_CMD_DATA, 63, 0, .RW⟩
/-- R214: bits [3:0], RO, reset 0x0. -/
abbrev RMP_RES.STATUS : Fld := ⟨.RMP_RES, 3, 0, .RO⟩
/-- R214: bits [19:4], RO, reset 0x0000. -/
abbrev RMP_RES.L2PTR : Fld := ⟨.RMP_RES, 19, 4, .RO⟩
/-- R214: bits [55:48], RO, reset 0x00. -/
abbrev RMP_RES.SEQ : Fld := ⟨.RMP_RES, 55, 48, .RO⟩
/-- R214: bits [63:63], RO, reset 0. -/
abbrev RMP_RES.VALID : Fld := ⟨.RMP_RES, 63, 63, .RO⟩
/-- R214: bits [63:0], RO, reset 0x0. -/
abbrev RMP_RES_DATA.ENTRY : Fld := ⟨.RMP_RES_DATA, 63, 0, .RO⟩
/-- R214: bits [16:0], RO, reset image. -/
abbrev RMP_STAT.L2_FREE : Fld := ⟨.RMP_STAT, 16, 0, .RO⟩
/-- R214: bits [48:32], RO, reset 0x0_0000. -/
abbrev RMP_STAT.FRACT_CNT : Fld := ⟨.RMP_STAT, 48, 32, .RO⟩
/-- R214: bits [15:0], RO, reset image. -/
abbrev RMP_POOL.BASE_GIB : Fld := ⟨.RMP_POOL, 15, 0, .RO⟩
/-- R214: bits [32:16], RO, reset image. -/
abbrev RMP_POOL.SIZE_GIB : Fld := ⟨.RMP_POOL, 32, 16, .RO⟩
/-- R236: bits [10:0], RO, reset 0x000. -/
abbrev HRT_SLICE_STAT.TRK_USED : Fld := ⟨.HRT_SLICE_STAT, 10, 0, .RO⟩
/-- R236: bits [20:16], RO, reset n. -/
abbrev HRT_SLICE_STAT.PHYS : Fld := ⟨.HRT_SLICE_STAT, 20, 16, .RO⟩
/-- R236: bits [21:21], RO, reset 0. -/
abbrev HRT_SLICE_STAT.SPARE : Fld := ⟨.HRT_SLICE_STAT, 21, 21, .RO⟩
/-- R236: bits [31:0], RC, reset 0x0. -/
abbrev HRT_CNT0.DC_HIT : Fld := ⟨.HRT_CNT0, 31, 0, .RC⟩
/-- R236: bits [63:32], RC, reset 0x0. -/
abbrev HRT_CNT0.DC_MISS : Fld := ⟨.HRT_CNT0, 63, 32, .RC⟩
/-- R236: bits [31:0], RC, reset 0x0. -/
abbrev HRT_CNT1.SNP_SENT : Fld := ⟨.HRT_CNT1, 31, 0, .RC⟩
/-- R236: bits [63:32], RC, reset 0x0. -/
abbrev HRT_CNT1.SNP_MISS : Fld := ⟨.HRT_CNT1, 63, 32, .RC⟩
/-- R236: bits [15:0], RC, reset 0x0000. -/
abbrev HRT_CNT2.TMO_POISON : Fld := ⟨.HRT_CNT2, 15, 0, .RC⟩
/-- R236: bits [31:16], RC, reset 0x0000. -/
abbrev HRT_CNT2.HOST_POISON : Fld := ⟨.HRT_CNT2, 31, 16, .RC⟩
/-- R236: bits [47:32], RC, reset 0x0000. -/
abbrev HRT_CNT2.CONFLICT : Fld := ⟨.HRT_CNT2, 47, 32, .RC⟩
/-- R236: bits [63:48], RC, reset 0x0000. -/
abbrev HRT_CNT2.PROTO_ERR : Fld := ⟨.HRT_CNT2, 63, 48, .RC⟩
/-- R236: bits [31:0], RC, reset 0x0. -/
abbrev HRT_CNT3.HOLD_DEFER : Fld := ⟨.HRT_CNT3, 31, 0, .RC⟩
/-- R236: bits [47:32], RC, reset 0x0000. -/
abbrev HRT_CNT3.COARSE : Fld := ⟨.HRT_CNT3, 47, 32, .RC⟩
/-- R236: bits [55:48], RC, reset 0x00. -/
abbrev HRT_CNT3.DIR_ECC : Fld := ⟨.HRT_CNT3, 55, 48, .RC⟩
/-- R236: bits [63:56], RC, reset 0x00. -/
abbrev HRT_CNT3.LATE_RSP : Fld := ⟨.HRT_CNT3, 63, 56, .RC⟩
/-- R236: bits [39:0], RO, reset 0x0. -/
abbrev HRT_POISON_LOG.LINE : Fld := ⟨.HRT_POISON_LOG, 39, 0, .RO⟩
/-- R236: bits [42:40], RO, reset 0x0. -/
abbrev HRT_POISON_LOG.CAUSE : Fld := ⟨.HRT_POISON_LOG, 42, 40, .RO⟩
/-- R236: bits [53:43], RO, reset 0x000. -/
abbrev HRT_POISON_LOG.CAID : Fld := ⟨.HRT_POISON_LOG, 53, 43, .RO⟩
/-- R236: bits [63:63], W1C, reset 0. -/
abbrev HRT_POISON_LOG.PEND : Fld := ⟨.HRT_POISON_LOG, 63, 63, .W1C⟩
/-- R237: bits [10:0], RW, reset 0x060. -/
abbrev HRT_CFG.HOLD_NS : Fld := ⟨.HRT_CFG, 10, 0, .RW⟩
/-- R237: bits [31:16], RW, reset 0x0014. -/
abbrev HRT_CFG.TMO_US : Fld := ⟨.HRT_CFG, 31, 16, .RW⟩
/-- R237: bits [11:0], RO, reset 0x000. -/
abbrev HRT_ADMIT.IN_USE : Fld := ⟨.HRT_ADMIT, 11, 0, .RO⟩
/-- R237: bits [27:16], RO, reset 0x000. -/
abbrev HRT_ADMIT.REMOVING : Fld := ⟨.HRT_ADMIT, 27, 16, .RO⟩
/-- R237: bits [47:32], RC, reset 0x0000. -/
abbrev HRT_ADMIT.ADMIT_REFUSED : Fld := ⟨.HRT_ADMIT, 47, 32, .RC⟩
/-- R237: bits [39:0], WO, reset 0x0. -/
abbrev HRT_CMD.LINE : Fld := ⟨.HRT_CMD, 39, 0, .WO⟩
/-- R237: bits [40:40], WO, reset 0. -/
abbrev HRT_CMD.READ_DIR : Fld := ⟨.HRT_CMD, 40, 40, .WO⟩
/-- R237: bits [1:0], RO, reset 0x0. -/
abbrev HRT_RES.STATUS : Fld := ⟨.HRT_RES, 1, 0, .RO⟩
/-- R237: bits [6:2], RO, reset 0x00. -/
abbrev HRT_RES.SLICE : Fld := ⟨.HRT_RES, 6, 2, .RO⟩
/-- R237: bits [55:48], RO, reset 0x00. -/
abbrev HRT_RES.SEQ : Fld := ⟨.HRT_RES, 55, 48, .RO⟩
/-- R237: bits [63:63], RO, reset 0. -/
abbrev HRT_RES.VALID : Fld := ⟨.HRT_RES, 63, 63, .RO⟩
/-- R237: bits [63:0], RO, reset 0x0. -/
abbrev HRT_RES_DATA.ENTRY : Fld := ⟨.HRT_RES_DATA, 63, 0, .RO⟩
/-- R237: bits [15:0], RO, reset image. -/
abbrev HRT_HOME.L1_IDX : Fld := ⟨.HRT_HOME, 15, 0, .RO⟩
/-- R237: bits [16:16], RO, reset image. -/
abbrev HRT_HOME.VALID : Fld := ⟨.HRT_HOME, 16, 16, .RO⟩
/-- R237: bits [16:0], RO, reset 0x0_0000. -/
abbrev HRT_AGENT.PORT_FEID : Fld := ⟨.HRT_AGENT, 16, 0, .RO⟩
/-- R237: bits [17:17], RO, reset 0. -/
abbrev HRT_AGENT.VALID : Fld := ⟨.HRT_AGENT, 17, 17, .RO⟩
/-- R237: bits [18:18], RO, reset 0. -/
abbrev HRT_AGENT.REMOVING : Fld := ⟨.HRT_AGENT, 18, 18, .RO⟩
/-- R237: bits [19:19], RO, reset 0. -/
abbrev HRT_AGENT.LOCAL : Fld := ⟨.HRT_AGENT, 19, 19, .RO⟩
/-- R237: bits [47:32], RO, reset 0x0000. -/
abbrev HRT_AGENT.TMO_CNT : Fld := ⟨.HRT_AGENT, 47, 32, .RO⟩
/-- R256: bits [0:0], RW, reset 0. -/
abbrev RMP_HOT_CFG.EN : Fld := ⟨.RMP_HOT_CFG, 0, 0, .RW⟩
/-- R256: bits [4:1], RW, reset 0x6. -/
abbrev RMP_HOT_CFG.SAMPLE_LOG2 : Fld := ⟨.RMP_HOT_CFG, 4, 1, .RW⟩
/-- R256: bits [23:8], RW, reset 0x0064. -/
abbrev RMP_HOT_CFG.EPOCH_MS : Fld := ⟨.RMP_HOT_CFG, 23, 8, .RW⟩
/-- R256: bits [41:32], RO, reset image. -/
abbrev RMP_HOT_CFG.BASE_64M : Fld := ⟨.RMP_HOT_CFG, 41, 32, .RO⟩
/-- R256: bits [1:0], RO, reset 0x0. -/
abbrev RMP_HOT_STAT.RET_BANK : Fld := ⟨.RMP_HOT_STAT, 1, 0, .RO⟩
/-- R256: bits [3:2], RO, reset 0x0. -/
abbrev RMP_HOT_STAT.ACT_BANK : Fld := ⟨.RMP_HOT_STAT, 3, 2, .RO⟩
/-- R256: bits [47:16], RO, reset 0x0. -/
abbrev RMP_HOT_STAT.EPOCH : Fld := ⟨.RMP_HOT_STAT, 47, 16, .RO⟩
/-- R256: bits [55:48], RO, reset 0x00. -/
abbrev RMP_HOT_STAT.SEQ : Fld := ⟨.RMP_HOT_STAT, 55, 48, .RO⟩
/-- R256: bits [63:63], RO, reset 0. -/
abbrev RMP_HOT_STAT.VALID : Fld := ⟨.RMP_HOT_STAT, 63, 63, .RO⟩
/-- R256: bits [31:0], RC, reset 0x0. -/
abbrev RMP_HOT_CNT.DROP : Fld := ⟨.RMP_HOT_CNT, 31, 0, .RC⟩
/-- R256: bits [63:32], RC, reset 0x0. -/
abbrev RMP_HOT_CNT.WAIT_NS : Fld := ⟨.RMP_HOT_CNT, 63, 32, .RC⟩
/-- R256: bits [7:0], RW, reset 0x10. -/
abbrev RMP_MIG_CFG.HOLD_BLKS : Fld := ⟨.RMP_MIG_CFG, 7, 0, .RW⟩
/-- R256: bits [21:8], RW, reset 0x07D0. -/
abbrev RMP_MIG_CFG.HOLD_MAX_NS : Fld := ⟨.RMP_MIG_CFG, 21, 8, .RW⟩
/-- R256: bits [25:22], RW, reset 0x8. -/
abbrev RMP_MIG_CFG.MAX_PASSES : Fld := ⟨.RMP_MIG_CFG, 25, 22, .RW⟩
/-- R256: bits [29:26], RW, reset 0x3. -/
abbrev RMP_MIG_CFG.MAX_HOLDS : Fld := ⟨.RMP_MIG_CFG, 29, 26, .RW⟩
/-- R256: bits [32:30], RW, reset 0x0. -/
abbrev RMP_MIG_CFG.TC : Fld := ⟨.RMP_MIG_CFG, 32, 30, .RW⟩
/-- R256: bits [5:0], RO, reset 0x00. -/
abbrev RMP_MIG_STAT.SLOTS_USED : Fld := ⟨.RMP_MIG_STAT, 5, 0, .RO⟩
/-- R256: bits [31:16], RC, reset 0x0000. -/
abbrev RMP_MIG_STAT.DONE : Fld := ⟨.RMP_MIG_STAT, 31, 16, .RC⟩
/-- R256: bits [47:32], RC, reset 0x0000. -/
abbrev RMP_MIG_STAT.ABANDONED : Fld := ⟨.RMP_MIG_STAT, 47, 32, .RC⟩
/-- R256: bits [63:48], RC, reset 0x0000. -/
abbrev RMP_MIG_STAT.HOLD_ABORT : Fld := ⟨.RMP_MIG_STAT, 63, 48, .RC⟩
/-- R256: bits [15:0], RO, reset 0x0000. -/
abbrev RMP_MIG_SLOT0.L1_IDX : Fld := ⟨.RMP_MIG_SLOT0, 15, 0, .RO⟩
/-- R256: bits [24:16], RO, reset 0x000. -/
abbrev RMP_MIG_SLOT0.GRAN : Fld := ⟨.RMP_MIG_SLOT0, 24, 16, .RO⟩
/-- R256: bits [27:25], RO, reset 0x0. -/
abbrev RMP_MIG_SLOT0.PHASE : Fld := ⟨.RMP_MIG_SLOT0, 27, 25, .RO⟩
/-- R256: bits [31:28], RO, reset 0x0. -/
abbrev RMP_MIG_SLOT0.PASS : Fld := ⟨.RMP_MIG_SLOT0, 31, 28, .RO⟩
/-- R256: bits [38:32], RO, reset 0x00. -/
abbrev RMP_MIG_SLOT0.ENGINE : Fld := ⟨.RMP_MIG_SLOT0, 38, 32, .RO⟩
/-- R256: bits [39:39], RO, reset 0. -/
abbrev RMP_MIG_SLOT0.SHARED : Fld := ⟨.RMP_MIG_SLOT0, 39, 39, .RO⟩
/-- R256: bits [61:48], RO, reset 0x0000. -/
abbrev RMP_MIG_SLOT0.DIRTY : Fld := ⟨.RMP_MIG_SLOT0, 61, 48, .RO⟩
/-- R256: bits [63:0], RO, reset 0x0. -/
abbrev RMP_MIG_SLOT1.NEW : Fld := ⟨.RMP_MIG_SLOT1, 63, 0, .RO⟩
/-- R281: bits [7:0], RO, reset image. -/
abbrev TNG_CL_CFG.FW_MASK : Fld := ⟨.TNG_CL_CFG, 7, 0, .RO⟩
/-- R281: bits [23:8], RW, reset 0x0000. -/
abbrev TNG_CL_CFG.WDOG_MS : Fld := ⟨.TNG_CL_CFG, 23, 8, .RW⟩
/-- R281: bits [12:0], RO, reset 0x0000. -/
abbrev TNG_CL_STAT.JQ_USED : Fld := ⟨.TNG_CL_STAT, 12, 0, .RO⟩
/-- R281: bits [23:16], RO, reset 0x00. -/
abbrev TNG_CL_STAT.BUSY : Fld := ⟨.TNG_CL_STAT, 23, 16, .RO⟩
/-- R281: bits [31:24], RO, reset 0xFF. -/
abbrev TNG_CL_STAT.LIVE : Fld := ⟨.TNG_CL_STAT, 31, 24, .RO⟩
/-- R281: bits [39:32], RO, reset 0x00. -/
abbrev TNG_CL_STAT.LOST_GEN : Fld := ⟨.TNG_CL_STAT, 39, 32, .RO⟩
/-- R281: bits [0:0], WO, reset 0. -/
abbrev TNG_SUB_CMD.GO : Fld := ⟨.TNG_SUB_CMD, 0, 0, .WO⟩
/-- R281: bits [3:0], RO, reset 0x0. -/
abbrev TNG_SUB_RES.STATUS : Fld := ⟨.TNG_SUB_RES, 3, 0, .RO⟩
/-- R281: bits [55:48], RO, reset 0x00. -/
abbrev TNG_SUB_RES.SEQ : Fld := ⟨.TNG_SUB_RES, 55, 48, .RO⟩
/-- R281: bits [63:63], RO, reset 0. -/
abbrev TNG_SUB_RES.VALID : Fld := ⟨.TNG_SUB_RES, 63, 63, .RO⟩
/-- R281: bits [31:0], RO, reset 0x0. -/
abbrev TNG_SUB_ID.JOB_ID : Fld := ⟨.TNG_SUB_ID, 31, 0, .RO⟩
/-- R281: bits [31:0], WO, reset 0x0. -/
abbrev TNG_CANCEL_CMD.JOB_ID : Fld := ⟨.TNG_CANCEL_CMD, 31, 0, .WO⟩
/-- R281: bits [32:32], WO, reset 0. -/
abbrev TNG_CANCEL_CMD.GO : Fld := ⟨.TNG_CANCEL_CMD, 32, 32, .WO⟩
/-- R281: bits [1:0], RO, reset 0x0. -/
abbrev TNG_CANCEL_RES.STATUS : Fld := ⟨.TNG_CANCEL_RES, 1, 0, .RO⟩
/-- R281: bits [55:48], RO, reset 0x00. -/
abbrev TNG_CANCEL_RES.SEQ : Fld := ⟨.TNG_CANCEL_RES, 55, 48, .RO⟩
/-- R281: bits [63:63], RO, reset 0. -/
abbrev TNG_CANCEL_RES.VALID : Fld := ⟨.TNG_CANCEL_RES, 63, 63, .RO⟩
/-- R281: bits [11:0], RW, reset 0x000. -/
abbrev TNG_CQ_PTR.HEAD : Fld := ⟨.TNG_CQ_PTR, 11, 0, .RW⟩
/-- R281: bits [27:16], RO, reset 0x000. -/
abbrev TNG_CQ_PTR.TAIL : Fld := ⟨.TNG_CQ_PTR, 27, 16, .RO⟩
/-- R281: bits [28:28], RO, reset 1. -/
abbrev TNG_CQ_PTR.PHASE : Fld := ⟨.TNG_CQ_PTR, 28, 28, .RO⟩
/-- R281: bits [31:0], RC, reset 0x0. -/
abbrev TNG_CL_CNT.DONE : Fld := ⟨.TNG_CL_CNT, 31, 0, .RC⟩
/-- R281: bits [47:32], RC, reset 0x0000. -/
abbrev TNG_CL_CNT.REFUSED : Fld := ⟨.TNG_CL_CNT, 47, 32, .RC⟩
/-- R281: bits [63:48], RC, reset 0x0000. -/
abbrev TNG_CL_CNT.ABORTED : Fld := ⟨.TNG_CL_CNT, 63, 48, .RC⟩
/-- R281: bits [0:0], RO, reset image. -/
abbrev TNG_KRN.VALID : Fld := ⟨.TNG_KRN, 0, 0, .RO⟩
/-- R281: bits [15:8], RO, reset image. -/
abbrev TNG_KRN.VERSION : Fld := ⟨.TNG_KRN, 15, 8, .RO⟩
/-- R281: bits [23:16], RO, reset image. -/
abbrev TNG_KRN.ENG_MASK : Fld := ⟨.TNG_KRN, 23, 16, .RO⟩
/-- R281: bits [31:24], RO, reset 0x00. -/
abbrev TNG_KRN.LOADED_MASK : Fld := ⟨.TNG_KRN, 31, 24, .RO⟩
/-- R281: bits [41:32], RO, reset image. -/
abbrev TNG_KRN.SCR_BASE_64M : Fld := ⟨.TNG_KRN, 41, 32, .RO⟩
/-- R281: bits [51:42], RO, reset image. -/
abbrev TNG_KRN.SCR_SIZE_64M : Fld := ⟨.TNG_KRN, 51, 42, .RO⟩
/-- R281: bits [0:0], WO, reset 0. -/
abbrev TNG_ENG_CTL.RESET : Fld := ⟨.TNG_ENG_CTL, 0, 0, .WO⟩
/-- R281: bits [2:0], RO, reset 0x4. -/
abbrev TNG_ENG_STAT.STATE : Fld := ⟨.TNG_ENG_STAT, 2, 0, .RO⟩
/-- R281: bits [15:8], RO, reset 0x00. -/
abbrev TNG_ENG_STAT.SERVICE : Fld := ⟨.TNG_ENG_STAT, 15, 8, .RO⟩
/-- R281: bits [63:32], RO, reset 0x0. -/
abbrev TNG_ENG_STAT.JOB_ID : Fld := ⟨.TNG_ENG_STAT, 63, 32, .RO⟩
/-- R281: bits [31:0], RC, reset 0x0. -/
abbrev TNG_ENG_CNT.SQUASH : Fld := ⟨.TNG_ENG_CNT, 31, 0, .RC⟩
/-- R281: bits [63:32], RC, reset 0x0. -/
abbrev TNG_ENG_CNT.DEFER : Fld := ⟨.TNG_ENG_CNT, 63, 32, .RC⟩
/-- R318: bits [7:0], RO, reset image. -/
abbrev MGT_FAB_CFG.MGR_ID : Fld := ⟨.MGT_FAB_CFG, 7, 0, .RO⟩
/-- R318: bits [15:8], RO, reset image. -/
abbrev MGT_FAB_CFG.STBY_ID : Fld := ⟨.MGT_FAB_CFG, 15, 8, .RO⟩
/-- R318: bits [16:16], RO, reset image. -/
abbrev MGT_FAB_CFG.STBY_EN : Fld := ⟨.MGT_FAB_CFG, 16, 16, .RO⟩
/-- R318: bits [31:24], RO, reset image. -/
abbrev MGT_FAB_CFG.TTL : Fld := ⟨.MGT_FAB_CFG, 31, 24, .RO⟩
/-- R318: bits [39:32], RO, reset image. -/
abbrev MGT_FAB_CFG.LEASE_MS : Fld := ⟨.MGT_FAB_CFG, 39, 32, .RO⟩
/-- R318: bits [55:40], RO, reset image. -/
abbrev MGT_FAB_CFG.UNREACH_MS : Fld := ⟨.MGT_FAB_CFG, 55, 40, .RO⟩
/-- R318: bits [2:0], RO, reset 0x6. -/
abbrev MGT_FAB_STAT.ROLE_NOW : Fld := ⟨.MGT_FAB_STAT, 2, 0, .RO⟩
/-- R318: bits [3:3], RO, reset 0. -/
abbrev MGT_FAB_STAT.MIXED : Fld := ⟨.MGT_FAB_STAT, 3, 3, .RO⟩
/-- R318: bits [4:4], RO, reset 0. -/
abbrev MGT_FAB_STAT.NO_STANDBY : Fld := ⟨.MGT_FAB_STAT, 4, 4, .RO⟩
/-- R318: bits [15:8], RO, reset 0x00. -/
abbrev MGT_FAB_STAT.REV_TOP : Fld := ⟨.MGT_FAB_STAT, 15, 8, .RO⟩
/-- R318: bits [23:16], RO, reset 0x00. -/
abbrev MGT_FAB_STAT.ACTING_MGR : Fld := ⟨.MGT_FAB_STAT, 23, 16, .RO⟩
/-- R318: bits [63:32], RO, reset 0x0. -/
abbrev MGT_FAB_STAT.EPOCH : Fld := ⟨.MGT_FAB_STAT, 63, 32, .RO⟩
/-- R318: bits [31:0], RO, reset 0x0. -/
abbrev MGT_FAB_GEN.GEN : Fld := ⟨.MGT_FAB_GEN, 31, 0, .RO⟩
/-- R318: bits [32:32], RO, reset 0. -/
abbrev MGT_FAB_GEN.RESYNC : Fld := ⟨.MGT_FAB_GEN, 32, 32, .RO⟩
/-- R318: bits [0:0], WO, reset 0. -/
abbrev MGT_FAB_CTL.HANDOVER : Fld := ⟨.MGT_FAB_CTL, 0, 0, .WO⟩
/-- R318: bits [2:0], RO, reset 0x0. -/
abbrev MGT_FAB_RES.STATUS : Fld := ⟨.MGT_FAB_RES, 2, 0, .RO⟩
/-- R318: bits [55:48], RO, reset 0x00. -/
abbrev MGT_FAB_RES.SEQ : Fld := ⟨.MGT_FAB_RES, 55, 48, .RO⟩
/-- R318: bits [63:63], RO, reset 0. -/
abbrev MGT_FAB_RES.VALID : Fld := ⟨.MGT_FAB_RES, 63, 63, .RO⟩
/-- R318: bits [15:0], RC, reset 0x0000. -/
abbrev MGT_FAB_CNT.TAKEOVER : Fld := ⟨.MGT_FAB_CNT, 15, 0, .RC⟩
/-- R318: bits [31:16], RC, reset 0x0000. -/
abbrev MGT_FAB_CNT.RESYNC : Fld := ⟨.MGT_FAB_CNT, 31, 16, .RC⟩
/-- R318: bits [47:32], RC, reset 0x0000. -/
abbrev MGT_FAB_CNT.TTL_EXP : Fld := ⟨.MGT_FAB_CNT, 47, 32, .RC⟩
/-- R318: bits [63:48], RC, reset 0x0000. -/
abbrev MGT_FAB_CNT.WITHHELD : Fld := ⟨.MGT_FAB_CNT, 63, 48, .RC⟩
/-- R318: bits [2:0], RO, reset 0x0. -/
abbrev MGT_FAB_MEMBER.STATE : Fld := ⟨.MGT_FAB_MEMBER, 2, 0, .RO⟩
/-- R318: bits [4:3], RO, reset 0x0. -/
abbrev MGT_FAB_MEMBER.ROLE : Fld := ⟨.MGT_FAB_MEMBER, 4, 3, .RO⟩
/-- R318: bits [5:5], RO, reset 0. -/
abbrev MGT_FAB_MEMBER.ACTING_MGR : Fld := ⟨.MGT_FAB_MEMBER, 5, 5, .RO⟩
/-- R318: bits [15:8], RO, reset 0x00. -/
abbrev MGT_FAB_MEMBER.REV_MAX : Fld := ⟨.MGT_FAB_MEMBER, 15, 8, .RO⟩
/-- R318: bits [19:16], RO, reset 0x0. -/
abbrev MGT_FAB_MEMBER.REFUSE : Fld := ⟨.MGT_FAB_MEMBER, 19, 16, .RO⟩
/-- R318: bits [47:32], RO, reset 0x0000. -/
abbrev MGT_FAB_MEMBER.AGE_MS : Fld := ⟨.MGT_FAB_MEMBER, 47, 32, .RO⟩
/-- R318: bits [6:0], RO, reset 0x00. -/
abbrev MGT_FAB_FFT.PORT0 : Fld := ⟨.MGT_FAB_FFT, 6, 0, .RO⟩
/-- R318: bits [7:7], RO, reset 0. -/
abbrev MGT_FAB_FFT.V0 : Fld := ⟨.MGT_FAB_FFT, 7, 7, .RO⟩
/-- R318: bits [14:8], RO, reset 0x00. -/
abbrev MGT_FAB_FFT.PORT1 : Fld := ⟨.MGT_FAB_FFT, 14, 8, .RO⟩
/-- R318: bits [15:15], RO, reset 0. -/
abbrev MGT_FAB_FFT.V1 : Fld := ⟨.MGT_FAB_FFT, 15, 15, .RO⟩
/-- R318: bits [22:16], RO, reset 0x00. -/
abbrev MGT_FAB_FFT.PORT2 : Fld := ⟨.MGT_FAB_FFT, 22, 16, .RO⟩
/-- R318: bits [23:23], RO, reset 0. -/
abbrev MGT_FAB_FFT.V2 : Fld := ⟨.MGT_FAB_FFT, 23, 23, .RO⟩
/-- R318: bits [30:24], RO, reset 0x00. -/
abbrev MGT_FAB_FFT.PORT3 : Fld := ⟨.MGT_FAB_FFT, 30, 24, .RO⟩
/-- R318: bits [31:31], RO, reset 0. -/
abbrev MGT_FAB_FFT.V3 : Fld := ⟨.MGT_FAB_FFT, 31, 31, .RO⟩
/-- R318: bits [33:32], RO, reset 0x0. -/
abbrev MGT_FAB_FFT.NALT : Fld := ⟨.MGT_FAB_FFT, 33, 32, .RO⟩
/-- R318: bits [34:34], RO, reset 0. -/
abbrev MGT_FAB_FFT.LOCAL : Fld := ⟨.MGT_FAB_FFT, 34, 34, .RO⟩
/-- R318: bits [39:36], RO, reset 0x0. -/
abbrev MGT_FAB_FFT.UP : Fld := ⟨.MGT_FAB_FFT, 39, 36, .RO⟩
/-- R340: bits [31:0], RO, reset 0x0. -/
abbrev MGT_IMG_STAT.RUN_VER : Fld := ⟨.MGT_IMG_STAT, 31, 0, .RO⟩
/-- R340: bits [32:32], RO, reset 0. -/
abbrev MGT_IMG_STAT.BOOT_SLOT : Fld := ⟨.MGT_IMG_STAT, 32, 32, .RO⟩
/-- R340: bits [33:33], RO, reset 0. -/
abbrev MGT_IMG_STAT.FALLBACK : Fld := ⟨.MGT_IMG_STAT, 33, 33, .RO⟩
/-- R340: bits [34:34], RO, reset 0. -/
abbrev MGT_IMG_STAT.DIVERGED : Fld := ⟨.MGT_IMG_STAT, 34, 34, .RO⟩
/-- R340: bits [36:35], RO, reset 0x0. -/
abbrev MGT_IMG_STAT.SLOT_A : Fld := ⟨.MGT_IMG_STAT, 36, 35, .RO⟩
/-- R340: bits [38:37], RO, reset 0x0. -/
abbrev MGT_IMG_STAT.SLOT_B : Fld := ⟨.MGT_IMG_STAT, 38, 37, .RO⟩
/-- R340: bits [31:0], RO, reset 0x0. -/
abbrev MGT_IMG_SEQ.SEQ_A : Fld := ⟨.MGT_IMG_SEQ, 31, 0, .RO⟩
/-- R340: bits [63:32], RO, reset 0x0. -/
abbrev MGT_IMG_SEQ.SEQ_B : Fld := ⟨.MGT_IMG_SEQ, 63, 32, .RO⟩
/-- R340: bits [3:0], WO, reset 0x0. -/
abbrev MGT_IMG_CMD.OP : Fld := ⟨.MGT_IMG_CMD, 3, 0, .WO⟩
/-- R340: bits [4:4], WO, reset 0. -/
abbrev MGT_IMG_CMD.SLOT : Fld := ⟨.MGT_IMG_CMD, 4, 4, .WO⟩
/-- R340: bits [63:32], WO, reset 0x0. -/
abbrev MGT_IMG_CMD.OFFSET : Fld := ⟨.MGT_IMG_CMD, 63, 32, .WO⟩
/-- R340: bits [7:0], RO, reset 0x00. -/
abbrev MGT_IMG_RES.STATUS : Fld := ⟨.MGT_IMG_RES, 7, 0, .RO⟩
/-- R340: bits [15:8], RO, reset 0x00. -/
abbrev MGT_IMG_RES.SECTION : Fld := ⟨.MGT_IMG_RES, 15, 8, .RO⟩
/-- R340: bits [19:16], RO, reset 0x0. -/
abbrev MGT_IMG_RES.REGIONS : Fld := ⟨.MGT_IMG_RES, 19, 16, .RO⟩
/-- R340: bits [47:20], RO, reset 0x0. -/
abbrev MGT_IMG_RES.DETAIL : Fld := ⟨.MGT_IMG_RES, 47, 20, .RO⟩
/-- R340: bits [55:48], RO, reset 0x00. -/
abbrev MGT_IMG_RES.SEQ : Fld := ⟨.MGT_IMG_RES, 55, 48, .RO⟩
/-- R340: bits [63:63], RO, reset 0. -/
abbrev MGT_IMG_RES.VALID : Fld := ⟨.MGT_IMG_RES, 63, 63, .RO⟩
/-- R341: bits [0:0], RO, reset 0. -/
abbrev KEY_STAT.REC_VALID : Fld := ⟨.KEY_STAT, 0, 0, .RO⟩
/-- R341: bits [1:1], RO, reset 0. -/
abbrev KEY_STAT.REC_SLOT : Fld := ⟨.KEY_STAT, 1, 1, .RO⟩
/-- R341: bits [2:2], RO, reset 0. -/
abbrev KEY_STAT.ID_PEND : Fld := ⟨.KEY_STAT, 2, 2, .RO⟩
/-- R341: bits [3:3], RO, reset 0. -/
abbrev KEY_STAT.ID_VALID : Fld := ⟨.KEY_STAT, 3, 3, .RO⟩
/-- R341: bits [11:8], RO, reset fuses. -/
abbrev KEY_STAT.ROOT_OK : Fld := ⟨.KEY_STAT, 11, 8, .RO⟩
/-- R341: bits [15:12], RO, reset fuses. -/
abbrev KEY_STAT.ROOT_REV : Fld := ⟨.KEY_STAT, 15, 12, .RO⟩
/-- R341: bits [17:16], RO, reset 0x0. -/
abbrev KEY_STAT.SIGNER : Fld := ⟨.KEY_STAT, 17, 16, .RO⟩
/-- R341: bits [30:24], RO, reset fuses. -/
abbrev KEY_STAT.SVN_FLOOR : Fld := ⟨.KEY_STAT, 30, 24, .RO⟩
/-- R341: bits [63:32], RO, reset 0x0. -/
abbrev KEY_STAT.GEN : Fld := ⟨.KEY_STAT, 63, 32, .RO⟩
/-- R341: bits [3:0], WO, reset 0x0. -/
abbrev KEY_CMD.OP : Fld := ⟨.KEY_CMD, 3, 0, .WO⟩
/-- R341: bits [5:4], WO, reset 0x0. -/
abbrev KEY_CMD.ROOT : Fld := ⟨.KEY_CMD, 5, 4, .WO⟩
/-- R341: bits [14:8], WO, reset 0x00. -/
abbrev KEY_CMD.SVN : Fld := ⟨.KEY_CMD, 14, 8, .WO⟩
/-- R341: bits [3:0], RO, reset 0x0. -/
abbrev KEY_RES.STATUS : Fld := ⟨.KEY_RES, 3, 0, .RO⟩
/-- R341: bits [55:48], RO, reset 0x00. -/
abbrev KEY_RES.SEQ : Fld := ⟨.KEY_RES, 55, 48, .RO⟩
/-- R341: bits [63:63], RO, reset 0. -/
abbrev KEY_RES.VALID : Fld := ⟨.KEY_RES, 63, 63, .RO⟩
/-- R341: bits [0:0], RO, reset fuses. -/
abbrev KEY_ROOT.VALID : Fld := ⟨.KEY_ROOT, 0, 0, .RO⟩
/-- R341: bits [1:1], RO, reset fuses. -/
abbrev KEY_ROOT.REVOKED : Fld := ⟨.KEY_ROOT, 1, 1, .RO⟩
/-- R341: bits [2:2], RO, reset fuses. -/
abbrev KEY_ROOT.BLANK : Fld := ⟨.KEY_ROOT, 2, 2, .RO⟩
/-- R341: bits [15:8], RO, reset fuses. -/
abbrev KEY_ROOT.VALID_WORD : Fld := ⟨.KEY_ROOT, 15, 8, .RO⟩
/-- R341: bits [23:16], RO, reset fuses. -/
abbrev KEY_ROOT.REV_WORD : Fld := ⟨.KEY_ROOT, 23, 16, .RO⟩
/-- R341: bits [0:0], RO, reset 0. -/
abbrev KEY_TRNG_STAT.READY : Fld := ⟨.KEY_TRNG_STAT, 0, 0, .RO⟩
/-- R341: bits [1:1], RO, reset 0. -/
abbrev KEY_TRNG_STAT.FAILED : Fld := ⟨.KEY_TRNG_STAT, 1, 1, .RO⟩
/-- R341: bits [3:2], RO, reset 0x0. -/
abbrev KEY_TRNG_STAT.STARTS : Fld := ⟨.KEY_TRNG_STAT, 3, 2, .RO⟩
/-- R341: bits [31:16], RO, reset 0x0000. -/
abbrev KEY_TRNG_STAT.RCT_FAIL : Fld := ⟨.KEY_TRNG_STAT, 31, 16, .RO⟩
/-- R341: bits [47:32], RO, reset 0x0000. -/
abbrev KEY_TRNG_STAT.APT_FAIL : Fld := ⟨.KEY_TRNG_STAT, 47, 32, .RO⟩
/-- R341: bits [0:0], WO, reset 0. -/
abbrev KEY_TRNG_CMD.NEXT : Fld := ⟨.KEY_TRNG_CMD, 0, 0, .WO⟩
/-- R341: bits [0:0], RO, reset 0. -/
abbrev KEY_TRNG_RES.READY : Fld := ⟨.KEY_TRNG_RES, 0, 0, .RO⟩
/-- R341: bits [55:48], RO, reset 0x00. -/
abbrev KEY_TRNG_RES.SEQ : Fld := ⟨.KEY_TRNG_RES, 55, 48, .RO⟩
/-- R341: bits [63:63], RO, reset 0. -/
abbrev KEY_TRNG_RES.VALID : Fld := ⟨.KEY_TRNG_RES, 63, 63, .RO⟩
/-- R341: bits [63:0], RO, reset 0x0. -/
abbrev KEY_TRNG_OUT.DATA : Fld := ⟨.KEY_TRNG_OUT, 63, 0, .RO⟩
/-- R360: bits [0:0], RO, reset 0. -/
abbrev MGT_SESS.OPEN : Fld := ⟨.MGT_SESS, 0, 0, .RO⟩
/-- R360: bits [2:1], RO, reset 0x0. -/
abbrev MGT_SESS.PATH : Fld := ⟨.MGT_SESS, 2, 1, .RO⟩
/-- R360: bits [3:3], RO, reset 0. -/
abbrev MGT_SESS.OWNER : Fld := ⟨.MGT_SESS, 3, 3, .RO⟩
/-- R360: bits [15:8], RO, reset 0x00. -/
abbrev MGT_SESS.WHERE : Fld := ⟨.MGT_SESS, 15, 8, .RO⟩
/-- R360: bits [47:32], RC, reset 0x0000. -/
abbrev MGT_SESS.NOT_OWNER : Fld := ⟨.MGT_SESS, 47, 32, .RC⟩
/-- R360: bits [63:48], RC, reset 0x0000. -/
abbrev MGT_SESS.ACC_ERR : Fld := ⟨.MGT_SESS, 63, 48, .RC⟩
/-- R360: bits [2:0], RO, reset 0x0. -/
abbrev MGT_OWN_STAT.OWNER : Fld := ⟨.MGT_OWN_STAT, 2, 0, .RO⟩
/-- R360: bits [3:3], RO, reset 0. -/
abbrev MGT_OWN_STAT.HELD : Fld := ⟨.MGT_OWN_STAT, 3, 3, .RO⟩
/-- R360: bits [4:4], RO, reset 0. -/
abbrev MGT_OWN_STAT.ELECT : Fld := ⟨.MGT_OWN_STAT, 4, 4, .RO⟩
/-- R360: bits [15:8], RO, reset 0x00. -/
abbrev MGT_OWN_STAT.PRIO : Fld := ⟨.MGT_OWN_STAT, 15, 8, .RO⟩
/-- R360: bits [26:16], RO, reset 0x000. -/
abbrev MGT_OWN_STAT.LEASE_LEFT : Fld := ⟨.MGT_OWN_STAT, 26, 16, .RO⟩
/-- R360: bits [47:32], RO, reset 0x0000. -/
abbrev MGT_OWN_STAT.ELECTIONS : Fld := ⟨.MGT_OWN_STAT, 47, 32, .RO⟩
/-- R360: bits [63:48], RC, reset 0x0000. -/
abbrev MGT_OWN_STAT.NOTICE_DROP : Fld := ⟨.MGT_OWN_STAT, 63, 48, .RC⟩
/-- R360: bits [63:0], RO, reset 0x0. -/
abbrev MGT_OWN_CLAIM.CLAIM : Fld := ⟨.MGT_OWN_CLAIM, 63, 0, .RO⟩
/-- R360: bits [15:0], RW, reset 0x001E. -/
abbrev MGT_SESS_CFG.IDLE_S : Fld := ⟨.MGT_SESS_CFG, 15, 0, .RW⟩
/-- R360: bits [10:0], RO, reset 0x000. -/
abbrev MGT_EVT_STAT.COUNT : Fld := ⟨.MGT_EVT_STAT, 10, 0, .RO⟩
/-- R360: bits [31:16], RC, reset 0x0000. -/
abbrev MGT_EVT_STAT.OVF : Fld := ⟨.MGT_EVT_STAT, 31, 16, .RC⟩
/-- R360: bits [63:32], RO, reset 0x0. -/
abbrev MGT_EVT_STAT.NEXT_SEQ : Fld := ⟨.MGT_EVT_STAT, 63, 32, .RO⟩
/-- R360: bits [31:0], WO, reset 0x0. -/
abbrev MGT_EVT_ACK.SEQ : Fld := ⟨.MGT_EVT_ACK, 31, 0, .WO⟩
/-- R378: bits [3:0], RO, reset 0x1. -/
abbrev PWR_MODE.MODE : Fld := ⟨.PWR_MODE, 3, 0, .RO⟩
/-- R378: bits [4:4], RO, reset 0. -/
abbrev PWR_MODE.MIXED_C : Fld := ⟨.PWR_MODE, 4, 4, .RO⟩
/-- R378: bits [5:5], RO, reset 0. -/
abbrev PWR_MODE.DEGRADED_C : Fld := ⟨.PWR_MODE, 5, 5, .RO⟩
/-- R378: bits [6:6], RO, reset 0. -/
abbrev PWR_MODE.CONTAINED_C : Fld := ⟨.PWR_MODE, 6, 6, .RO⟩
/-- R378: bits [7:7], RO, reset 0. -/
abbrev PWR_MODE.RECOVERY_C : Fld := ⟨.PWR_MODE, 7, 7, .RO⟩
/-- R378: bits [8:8], RO, reset 0. -/
abbrev PWR_MODE.BANKED_C : Fld := ⟨.PWR_MODE, 8, 8, .RO⟩
/-- R378: bits [9:9], RO, reset 0. -/
abbrev PWR_MODE.FATAL : Fld := ⟨.PWR_MODE, 9, 9, .RO⟩
/-- R378: bits [19:12], RO, reset 0x00. -/
abbrev PWR_MODE.REGION : Fld := ⟨.PWR_MODE, 19, 12, .RO⟩
/-- R378: bits [23:20], RO, reset 0x0. -/
abbrev PWR_MODE.SAFE_CAUSE : Fld := ⟨.PWR_MODE, 23, 20, .RO⟩
/-- R378: bits [24:24], RO, reset strap. -/
abbrev PWR_MODE.BOOT_SRC : Fld := ⟨.PWR_MODE, 24, 24, .RO⟩
/-- R378: bits [47:32], RO, reset 0x0000. -/
abbrev PWR_MODE.CHANGES : Fld := ⟨.PWR_MODE, 47, 32, .RO⟩
/-- R378: bits [0:0], WO, reset 0. -/
abbrev PWR_CTL.REBOOT : Fld := ⟨.PWR_CTL, 0, 0, .WO⟩
/-- R378: bits [1:1], WO, reset 0. -/
abbrev PWR_CTL.TEST : Fld := ⟨.PWR_CTL, 1, 1, .WO⟩
/-- R378: bits [2:2], RW, reset 0. -/
abbrev PWR_CTL.BANK_ALL : Fld := ⟨.PWR_CTL, 2, 2, .RW⟩
/-- R378: bits [11:8], WO, reset 0x0. -/
abbrev PWR_CTL.RECOVER : Fld := ⟨.PWR_CTL, 11, 8, .WO⟩
/-- R378: bits [2:0], RO, reset cause. -/
abbrev PWR_RESET_STAT.CAUSE : Fld := ⟨.PWR_RESET_STAT, 2, 0, .RO⟩
/-- R378: bits [3:3], RO, reset cause. -/
abbrev PWR_RESET_STAT.HBM_KEPT : Fld := ⟨.PWR_RESET_STAT, 3, 3, .RO⟩
/-- R378: bits [7:4], RO, reset cause. -/
abbrev PWR_RESET_STAT.RAIL : Fld := ⟨.PWR_RESET_STAT, 7, 4, .RO⟩
/-- R378: bits [31:16], RO, reset 0x0000. -/
abbrev PWR_RESET_STAT.BOOT_MS : Fld := ⟨.PWR_RESET_STAT, 31, 16, .RO⟩
/-- R378: bits [15:0], RW, reset 0x03E8. -/
abbrev PWR_BANK_CFG.IDLE_US : Fld := ⟨.PWR_BANK_CFG, 15, 0, .RW⟩
/-- R378: bits [63:0], RW, reset 0x0. -/
abbrev PWR_BANK_PORT.BANK : Fld := ⟨.PWR_BANK_PORT, 63, 0, .RW⟩
/-- R378: bits [63:0], RO, reset 0x0. -/
abbrev PWR_BANK_PSTAT.BANKED : Fld := ⟨.PWR_BANK_PSTAT, 63, 0, .RO⟩
/-- R378: bits [63:0], RO, reset 0x0. -/
abbrev PWR_BANK_PDENY.DENY : Fld := ⟨.PWR_BANK_PDENY, 63, 0, .RO⟩
/-- R378: bits [15:0], RW, reset 0x0000. -/
abbrev PWR_BANK_UNIT.CLUSTER : Fld := ⟨.PWR_BANK_UNIT, 15, 0, .RW⟩
/-- R378: bits [31:16], RW, reset 0x0000. -/
abbrev PWR_BANK_UNIT.SLICE : Fld := ⟨.PWR_BANK_UNIT, 31, 16, .RW⟩
/-- R378: bits [15:0], RO, reset 0x0000. -/
abbrev PWR_BANK_USTAT.CLUSTER : Fld := ⟨.PWR_BANK_USTAT, 15, 0, .RO⟩
/-- R378: bits [31:16], RO, reset 0x0000. -/
abbrev PWR_BANK_USTAT.SLICE : Fld := ⟨.PWR_BANK_USTAT, 31, 16, .RO⟩
/-- R378: bits [63:32], RC, reset 0x0. -/
abbrev PWR_BANK_USTAT.WAKES : Fld := ⟨.PWR_BANK_USTAT, 63, 32, .RC⟩
/-- R378: bits [63:0], RO, reset pins. -/
abbrev PWR_PERST.LEVEL : Fld := ⟨.PWR_PERST, 63, 0, .RO⟩
/-- R398: bits [0:0], RW, reset 0. -/
abbrev FLT_CFG.SECOND : Fld := ⟨.FLT_CFG, 0, 0, .RW⟩
/-- R398: bits [1:1], RW, reset 0. -/
abbrev FLT_CFG.FN_DEG : Fld := ⟨.FLT_CFG, 1, 1, .RW⟩
/-- R398: bits [2:2], RW, reset 0. -/
abbrev FLT_CFG.FN_CONT : Fld := ⟨.FLT_CFG, 2, 2, .RW⟩
/-- R398: bits [3:3], RWL, reset image. -/
abbrev FLT_CFG.INJ_EN : Fld := ⟨.FLT_CFG, 3, 3, .RWL⟩
/-- R398: bits [4:4], RWL, reset image. -/
abbrev FLT_CFG.LOCK : Fld := ⟨.FLT_CFG, 4, 4, .RWL⟩
/-- R398: bits [0:0], RO, reset 0. -/
abbrev FLT_STAT.FATAL : Fld := ⟨.FLT_STAT, 0, 0, .RO⟩
/-- R398: bits [1:1], W1C, reset 0. -/
abbrev FLT_STAT.DEG : Fld := ⟨.FLT_STAT, 1, 1, .W1C⟩
/-- R398: bits [2:2], RO, reset 0. -/
abbrev FLT_STAT.FAULTN : Fld := ⟨.FLT_STAT, 2, 2, .RO⟩
/-- R398: bits [3:3], RO, reset 1. -/
abbrev FLT_STAT.EMBER_RUN : Fld := ⟨.FLT_STAT, 3, 3, .RO⟩
/-- R398: bits [7:4], RO, reset 0x0. -/
abbrev FLT_STAT.FENCED : Fld := ⟨.FLT_STAT, 7, 4, .RO⟩
/-- R398: bits [24:16], RO, reset 0x000. -/
abbrev FLT_STAT.FATAL_EVT : Fld := ⟨.FLT_STAT, 24, 16, .RO⟩
/-- R398: bits [8:0], RO, reset 0x000. -/
abbrev FLT_REC0.EVENT : Fld := ⟨.FLT_REC0, 8, 0, .RO⟩
/-- R398: bits [10:9], RO, reset 0x0. -/
abbrev FLT_REC0.CLASS : Fld := ⟨.FLT_REC0, 10, 9, .RO⟩
/-- R398: bits [11:11], RO, reset 0. -/
abbrev FLT_REC0.MULTI : Fld := ⟨.FLT_REC0, 11, 11, .RO⟩
/-- R398: bits [12:12], RO, reset 0. -/
abbrev FLT_REC0.ESC : Fld := ⟨.FLT_REC0, 12, 12, .RO⟩
/-- R398: bits [13:13], RO, reset 0. -/
abbrev FLT_REC0.INJ : Fld := ⟨.FLT_REC0, 13, 13, .RO⟩
/-- R398: bits [31:16], RO, reset 0x0000. -/
abbrev FLT_REC0.COUNT : Fld := ⟨.FLT_REC0, 31, 16, .RO⟩
/-- R398: bits [63:63], W1C, reset 0. -/
abbrev FLT_REC0.PEND : Fld := ⟨.FLT_REC0, 63, 63, .W1C⟩
/-- R398: bits [63:0], RO, reset 0x0. -/
abbrev FLT_REC1.DETAIL : Fld := ⟨.FLT_REC1, 63, 0, .RO⟩
/-- R398: bits [63:0], RO, reset 0x0. -/
abbrev FLT_REC2.TIME_LO : Fld := ⟨.FLT_REC2, 63, 0, .RO⟩
/-- R398: bits [31:0], RO, reset 0x0. -/
abbrev FLT_REC3.TIME_HI : Fld := ⟨.FLT_REC3, 31, 0, .RO⟩
/-- R398: bits [63:0], RO, reset 0x0. -/
abbrev FLT_ACTIVE.ACTIVE : Fld := ⟨.FLT_ACTIVE, 63, 0, .RO⟩
/-- R398: bits [3:0], WO, reset 0x0. -/
abbrev FLT_INJ_CTL.TARGET : Fld := ⟨.FLT_INJ_CTL, 3, 0, .WO⟩
/-- R398: bits [5:4], WO, reset 0x0. -/
abbrev FLT_INJ_CTL.MODE : Fld := ⟨.FLT_INJ_CTL, 5, 4, .WO⟩
/-- R398: bits [11:6], WO, reset 0x00. -/
abbrev FLT_INJ_CTL.BIT : Fld := ⟨.FLT_INJ_CTL, 11, 6, .WO⟩
/-- R398: bits [19:12], WO, reset 0x00. -/
abbrev FLT_INJ_CTL.UNIT : Fld := ⟨.FLT_INJ_CTL, 19, 12, .WO⟩
/-- R398: bits [20:20], WO, reset 0. -/
abbrev FLT_INJ_CTL.COPY : Fld := ⟨.FLT_INJ_CTL, 20, 20, .WO⟩
/-- R398: bits [21:21], WO, reset 0. -/
abbrev FLT_INJ_CTL.GO : Fld := ⟨.FLT_INJ_CTL, 21, 21, .WO⟩
/-- R398: bits [63:24], WO, reset 0x0. -/
abbrev FLT_INJ_CTL.INDEX : Fld := ⟨.FLT_INJ_CTL, 63, 24, .WO⟩
/-- R398: bits [2:0], RO, reset 0x0. -/
abbrev FLT_INJ_RES.STATUS : Fld := ⟨.FLT_INJ_RES, 2, 0, .RO⟩
/-- R398: bits [55:48], RO, reset 0x00. -/
abbrev FLT_INJ_RES.SEQ : Fld := ⟨.FLT_INJ_RES, 55, 48, .RO⟩
/-- R398: bits [63:63], RO, reset 0. -/
abbrev FLT_INJ_RES.VALID : Fld := ⟨.FLT_INJ_RES, 63, 63, .RO⟩
/-- R398: bits [2:0], RO, reset 0x0. -/
abbrev FLT_REPAIR_RES.STATUS : Fld := ⟨.FLT_REPAIR_RES, 2, 0, .RO⟩
/-- R398: bits [55:48], RO, reset 0x00. -/
abbrev FLT_REPAIR_RES.SEQ : Fld := ⟨.FLT_REPAIR_RES, 55, 48, .RO⟩
/-- R398: bits [63:63], RO, reset 0. -/
abbrev FLT_REPAIR_RES.VALID : Fld := ⟨.FLT_REPAIR_RES, 63, 63, .RO⟩
/-- R398: bits [2:0], WO, reset 0x0. -/
abbrev FLT_REPAIR_CMD.OP : Fld := ⟨.FLT_REPAIR_CMD, 2, 0, .WO⟩
/-- R398: bits [14:8], WO, reset 0x00. -/
abbrev FLT_REPAIR_CMD.UNIT : Fld := ⟨.FLT_REPAIR_CMD, 14, 8, .WO⟩
/-- R398: bits [19:0], RO, reset fixed or BOOT. -/
abbrev FLT_POOL.TOTAL : Fld := ⟨.FLT_POOL, 19, 0, .RO⟩
/-- R398: bits [39:20], RO, reset repair map. -/
abbrev FLT_POOL.USED : Fld := ⟨.FLT_POOL, 39, 20, .RO⟩
/-- R398: bits [40:40], RO, reset image. -/
abbrev FLT_POOL.AUTO : Fld := ⟨.FLT_POOL, 40, 40, .RO⟩
/-- R398: bits [41:41], RO, reset 0. -/
abbrev FLT_POOL.UNMET : Fld := ⟨.FLT_POOL, 41, 41, .RO⟩
/-- R398: bits [11:0], RO, reset image. -/
abbrev FLT_WEAR_CFG.AGE_PPM : Fld := ⟨.FLT_WEAR_CFG, 11, 0, .RO⟩
/-- R398: bits [19:12], RO, reset image. -/
abbrev FLT_WEAR_CFG.MARGIN_H : Fld := ⟨.FLT_WEAR_CFG, 19, 12, .RO⟩
/-- R398: bits [35:20], RO, reset image. -/
abbrev FLT_WEAR_CFG.SRAM_RATE : Fld := ⟨.FLT_WEAR_CFG, 35, 20, .RO⟩
/-- R398: bits [47:36], RO, reset image. -/
abbrev FLT_WEAR_CFG.WIRE_THR : Fld := ⟨.FLT_WEAR_CFG, 47, 36, .RO⟩
/-- R398: bits [63:48], RO, reset image. -/
abbrev FLT_WEAR_CFG.FEC_THR : Fld := ⟨.FLT_WEAR_CFG, 63, 48, .RO⟩
/-- R398: bits [15:0], RC, reset 0x0000. -/
abbrev FLT_WEAR_CNT.AGING : Fld := ⟨.FLT_WEAR_CNT, 15, 0, .RC⟩
/-- R398: bits [31:16], RC, reset 0x0000. -/
abbrev FLT_WEAR_CNT.MARGIN : Fld := ⟨.FLT_WEAR_CNT, 31, 16, .RC⟩
/-- R398: bits [47:32], RC, reset 0x0000. -/
abbrev FLT_WEAR_CNT.SRAM : Fld := ⟨.FLT_WEAR_CNT, 47, 32, .RC⟩
/-- R398: bits [63:48], RC, reset 0x0000. -/
abbrev FLT_WEAR_CNT.WIRE : Fld := ⟨.FLT_WEAR_CNT, 63, 48, .RC⟩
/-- R399: bits [0:0], W1C, reset 0. -/
abbrev FLT_REG_STAT.FATAL : Fld := ⟨.FLT_REG_STAT, 0, 0, .W1C⟩
/-- R399: bits [2:1], RO, reset 0x0. -/
abbrev FLT_REG_STAT.STATE : Fld := ⟨.FLT_REG_STAT, 2, 1, .RO⟩
/-- R399: bits [3:3], RO, reset 0. -/
abbrev FLT_REG_STAT.SCAN_FAIL : Fld := ⟨.FLT_REG_STAT, 3, 3, .RO⟩
/-- R399: bits [24:16], RO, reset 0x000. -/
abbrev FLT_REG_STAT.FATAL_EVT : Fld := ⟨.FLT_REG_STAT, 24, 16, .RO⟩
/-- R420: bits [1:0], RW, reset 0x0. -/
abbrev TIM_CFG.SRC : Fld := ⟨.TIM_CFG, 1, 0, .RW⟩
/-- R420: bits [9:2], RW, reset 0x00. -/
abbrev TIM_CFG.PTP_DOMAIN : Fld := ⟨.TIM_CFG, 9, 2, .RW⟩
/-- R420: bits [13:10], RW, reset 0x4. -/
abbrev TIM_CFG.KI_SHIFT : Fld := ⟨.TIM_CFG, 13, 10, .RW⟩
/-- R420: bits [31:16], RW, reset 0x03E8. -/
abbrev TIM_CFG.STEP_NS : Fld := ⟨.TIM_CFG, 31, 16, .RW⟩
/-- R420: bits [47:32], RW, reset 0x0BB8. -/
abbrev TIM_CFG.LOSS_MS : Fld := ⟨.TIM_CFG, 47, 32, .RW⟩
/-- R420: bits [56:48], RW, reset 0x064. -/
abbrev TIM_CFG.PPS_W_MS : Fld := ⟨.TIM_CFG, 56, 48, .RW⟩
/-- R420: bits [15:0], RO, reset 0x0000. -/
abbrev TIM_NOW_LO.FRAC : Fld := ⟨.TIM_NOW_LO, 15, 0, .RO⟩
/-- R420: bits [47:16], RO, reset 0x0. -/
abbrev TIM_NOW_LO.NS : Fld := ⟨.TIM_NOW_LO, 47, 16, .RO⟩
/-- R420: bits [63:48], RO, reset 0x0000. -/
abbrev TIM_NOW_LO.SEC_L : Fld := ⟨.TIM_NOW_LO, 63, 48, .RO⟩
/-- R420: bits [31:0], RO, reset 0x0. -/
abbrev TIM_NOW_HI.SEC_H : Fld := ⟨.TIM_NOW_HI, 31, 0, .RO⟩
/-- R420: bits [63:0], RW, reset 0x0. -/
abbrev TIM_SET_LO.VAL : Fld := ⟨.TIM_SET_LO, 63, 0, .RW⟩
/-- R420: bits [31:0], RW, reset 0x0. -/
abbrev TIM_SET_HI.VAL : Fld := ⟨.TIM_SET_HI, 31, 0, .RW⟩
/-- R420: bits [0:0], WO, reset 0. -/
abbrev TIM_CMD.SET : Fld := ⟨.TIM_CMD, 0, 0, .WO⟩
/-- R420: bits [1:1], WO, reset 0. -/
abbrev TIM_CMD.ADJ : Fld := ⟨.TIM_CMD, 1, 1, .WO⟩
/-- R420: bits [63:32], WO, reset 0x0. -/
abbrev TIM_CMD.ADJ_NS : Fld := ⟨.TIM_CMD, 63, 32, .WO⟩
/-- R420: bits [31:0], RO, reset 0x0. -/
abbrev TIM_FREQ.FREQ : Fld := ⟨.TIM_FREQ, 31, 0, .RO⟩
/-- R420: bits [63:32], RO, reset 0x0. -/
abbrev TIM_FREQ.SLEW : Fld := ⟨.TIM_FREQ, 63, 32, .RO⟩
/-- R420: bits [1:0], RO, reset 0x0. -/
abbrev TIM_STAT.STATE : Fld := ⟨.TIM_STAT, 1, 0, .RO⟩
/-- R420: bits [2:2], RO, reset 0. -/
abbrev TIM_STAT.ROOT : Fld := ⟨.TIM_STAT, 2, 2, .RO⟩
/-- R420: bits [3:3], RO, reset 0. -/
abbrev TIM_STAT.PPS_OK : Fld := ⟨.TIM_STAT, 3, 3, .RO⟩
/-- R420: bits [4:4], RO, reset 0. -/
abbrev TIM_STAT.PTP_OK : Fld := ⟨.TIM_STAT, 4, 4, .RO⟩
/-- R420: bits [15:8], RO, reset 0xFF. -/
abbrev TIM_STAT.HOPS : Fld := ⟨.TIM_STAT, 15, 8, .RO⟩
/-- R420: bits [22:16], RO, reset 0x7F. -/
abbrev TIM_STAT.UP_PORT : Fld := ⟨.TIM_STAT, 22, 16, .RO⟩
/-- R420: bits [31:24], RO, reset 0x00. -/
abbrev TIM_STAT.ROOT_ID : Fld := ⟨.TIM_STAT, 31, 24, .RO⟩
/-- R420: bits [47:32], RO, reset 0x0000. -/
abbrev TIM_STAT.STEPS : Fld := ⟨.TIM_STAT, 47, 32, .RO⟩
/-- R420: bits [31:0], RO, reset 0x0. -/
abbrev TIM_OFFSET.THETA : Fld := ⟨.TIM_OFFSET, 31, 0, .RO⟩
/-- R420: bits [47:32], RO, reset 0x0000. -/
abbrev TIM_OFFSET.ERR : Fld := ⟨.TIM_OFFSET, 47, 32, .RO⟩
/-- R420: bits [55:48], RO, reset 0x00. -/
abbrev TIM_OFFSET.SEQ : Fld := ⟨.TIM_OFFSET, 55, 48, .RO⟩
/-- R420: bits [63:63], RO, reset 0. -/
abbrev TIM_OFFSET.VALID : Fld := ⟨.TIM_OFFSET, 63, 63, .RO⟩
/-- R420: bits [15:0], RW, reset 0x0000. -/
abbrev TIM_ASYM.ASYM : Fld := ⟨.TIM_ASYM, 15, 0, .RW⟩
/-- R421: bits [1:0], RO, reset 0x0. -/
abbrev PWR_THERM_STAT.STATE : Fld := ⟨.PWR_THERM_STAT, 1, 0, .RO⟩
/-- R421: bits [7:2], RO, reset 0x00. -/
abbrev PWR_THERM_STAT.HOT : Fld := ⟨.PWR_THERM_STAT, 7, 2, .RO⟩
/-- R421: bits [19:8], RO, reset 0x000. -/
abbrev PWR_THERM_STAT.TJ_MAX : Fld := ⟨.PWR_THERM_STAT, 19, 8, .RO⟩
/-- R421: bits [47:32], RO, reset 0x0000. -/
abbrev PWR_THERM_STAT.THR_MS : Fld := ⟨.PWR_THERM_STAT, 47, 32, .RO⟩
/-- R421: bits [6:0], RW, reset 0x4B. -/
abbrev PWR_TEL_CFG.THR_DUTY : Fld := ⟨.PWR_TEL_CFG, 6, 0, .RW⟩
/-- R421: bits [6:0], RW, reset 0x00. -/
abbrev PWR_TEL_MAN.CHANNEL : Fld := ⟨.PWR_TEL_MAN, 6, 0, .RW⟩
/-- R421: bits [7:7], RW, reset 0. -/
abbrev PWR_TEL_MAN.GAIN : Fld := ⟨.PWR_TEL_MAN, 7, 7, .RW⟩
/-- R421: bits [8:8], RW, reset 0. -/
abbrev PWR_TEL_MAN.EN : Fld := ⟨.PWR_TEL_MAN, 8, 8, .RW⟩
/-- R421: bits [11:0], RO, reset 0x000. -/
abbrev PWR_TEL_MRES.VALUE : Fld := ⟨.PWR_TEL_MRES, 11, 0, .RO⟩
/-- R421: bits [13:12], RO, reset 0x1. -/
abbrev PWR_TEL_MRES.CODE : Fld := ⟨.PWR_TEL_MRES, 13, 12, .RO⟩
/-- R421: bits [55:48], RO, reset 0x00. -/
abbrev PWR_TEL_MRES.SEQ : Fld := ⟨.PWR_TEL_MRES, 55, 48, .RO⟩
/-- R421: bits [63:63], RO, reset 0. -/
abbrev PWR_TEL_MRES.VALID : Fld := ⟨.PWR_TEL_MRES, 63, 63, .RO⟩
/-- R421: bits [11:0], RO, reset 0x000. -/
abbrev PWR_TEL_SMP.VALUE : Fld := ⟨.PWR_TEL_SMP, 11, 0, .RO⟩
/-- R421: bits [13:12], RO, reset 0x1. -/
abbrev PWR_TEL_SMP.CODE : Fld := ⟨.PWR_TEL_SMP, 13, 12, .RO⟩
/-- R421: bits [55:48], RO, reset 0x00. -/
abbrev PWR_TEL_SMP.SEQ : Fld := ⟨.PWR_TEL_SMP, 55, 48, .RO⟩
/-- R421: bits [63:63], RO, reset 0. -/
abbrev PWR_TEL_SMP.VALID : Fld := ⟨.PWR_TEL_SMP, 63, 63, .RO⟩
/-- R421: bits [0:0], RW, reset image. -/
abbrev PWR_TEL_CH.GAIN : Fld := ⟨.PWR_TEL_CH, 0, 0, .RW⟩
/-- R421: bits [2:1], RW, reset 0x0. -/
abbrev PWR_TEL_CH.FILTER : Fld := ⟨.PWR_TEL_CH, 2, 1, .RW⟩
/-- R421: bits [3:3], RW, reset image. -/
abbrev PWR_TEL_CH.LIM_EN : Fld := ⟨.PWR_TEL_CH, 3, 3, .RW⟩
/-- R421: bits [15:4], RW, reset image. -/
abbrev PWR_TEL_CH.LOW : Fld := ⟨.PWR_TEL_CH, 15, 4, .RW⟩
/-- R421: bits [27:16], RW, reset image. -/
abbrev PWR_TEL_CH.HIGH : Fld := ⟨.PWR_TEL_CH, 27, 16, .RW⟩
/-- R422: bits [0:0], WO, reset 0. -/
abbrev CNT_CTL.SNAP : Fld := ⟨.CNT_CTL, 0, 0, .WO⟩
/-- R422: bits [1:1], WO, reset 0. -/
abbrev CNT_CTL.CLR : Fld := ⟨.CNT_CTL, 1, 1, .WO⟩
/-- R422: bits [2:2], WO, reset 0. -/
abbrev CNT_CTL.CLR_PEAK : Fld := ⟨.CNT_CTL, 2, 2, .WO⟩
/-- R422: bits [55:48], RO, reset 0x00. -/
abbrev CNT_SNAP_RES.SEQ : Fld := ⟨.CNT_SNAP_RES, 55, 48, .RO⟩
/-- R422: bits [63:63], RO, reset 0. -/
abbrev CNT_SNAP_RES.VALID : Fld := ⟨.CNT_SNAP_RES, 63, 63, .RO⟩
/-- R422: bits [19:0], RW, reset 0x003E8. -/
abbrev CNT_BW_CFG.WIN_US : Fld := ⟨.CNT_BW_CFG, 19, 0, .RW⟩
/-- R422: bits [9:0], RW, reset 0x000. -/
abbrev CNT_SEL.EVSEL : Fld := ⟨.CNT_SEL, 9, 0, .RW⟩
/-- R422: bits [22:16], RW, reset 0x00. -/
abbrev CNT_SEL.UNIT : Fld := ⟨.CNT_SEL, 22, 16, .RW⟩
/-- R422: bits [23:23], RW, reset 0. -/
abbrev CNT_SEL.EN : Fld := ⟨.CNT_SEL, 23, 23, .RW⟩
/-- R422: bits [47:0], RO, reset 0x0. -/
abbrev CNT_VAL.COUNT : Fld := ⟨.CNT_VAL, 47, 0, .RO⟩
/-- R422: bits [48:48], RO, reset 0. -/
abbrev CNT_VAL.SAT : Fld := ⟨.CNT_VAL, 48, 48, .RO⟩
/-- R422: bits [47:0], RO, reset 0x0. -/
abbrev CNT_SNAP.COUNT : Fld := ⟨.CNT_SNAP, 47, 0, .RO⟩
/-- R422: bits [48:48], RO, reset 0. -/
abbrev CNT_SNAP.SAT : Fld := ⟨.CNT_SNAP, 48, 48, .RO⟩
/-- R422: bits [47:0], RO, reset 0x0. -/
abbrev CNT_BW0.IN_B : Fld := ⟨.CNT_BW0, 47, 0, .RO⟩
/-- R422: bits [47:0], RO, reset 0x0. -/
abbrev CNT_BW1.OUT_B : Fld := ⟨.CNT_BW1, 47, 0, .RO⟩
/-- R422: bits [23:0], RO, reset 0x0. -/
abbrev CNT_BW2.PEAK_IN : Fld := ⟨.CNT_BW2, 23, 0, .RO⟩
/-- R422: bits [47:24], RO, reset 0x0. -/
abbrev CNT_BW2.PEAK_OUT : Fld := ⟨.CNT_BW2, 47, 24, .RO⟩
/-- R422: bits [55:48], RO, reset 0x00. -/
abbrev CNT_BW3.SEQ : Fld := ⟨.CNT_BW3, 55, 48, .RO⟩
/-- R422: bits [63:63], RO, reset 0. -/
abbrev CNT_BW3.VALID : Fld := ⟨.CNT_BW3, 63, 63, .RO⟩
/-- R422: bits [0:0], RW, reset 0. -/
abbrev CNT_TRC_CFG.DEST : Fld := ⟨.CNT_TRC_CFG, 0, 0, .RW⟩
/-- R422: bits [1:1], RW, reset 1. -/
abbrev CNT_TRC_CFG.WRAP : Fld := ⟨.CNT_TRC_CFG, 1, 1, .RW⟩
/-- R422: bits [2:2], RW, reset 0. -/
abbrev CNT_TRC_CFG.HOPS : Fld := ⟨.CNT_TRC_CFG, 2, 2, .RW⟩
/-- R422: bits [9:3], RW, reset 0x00. -/
abbrev CNT_TRC_CFG.PORT : Fld := ⟨.CNT_TRC_CFG, 9, 3, .RW⟩
/-- R422: bits [63:12], RW, reset 0x0. -/
abbrev CNT_TRC_RING.BASE : Fld := ⟨.CNT_TRC_RING, 63, 12, .RW⟩
/-- R422: bits [4:0], RW, reset 0x0C. -/
abbrev CNT_TRC_RING_SZ.LOG2 : Fld := ⟨.CNT_TRC_RING_SZ, 4, 0, .RW⟩
/-- R422: bits [0:0], WO, reset 0. -/
abbrev CNT_TRC_CTL.START : Fld := ⟨.CNT_TRC_CTL, 0, 0, .WO⟩
/-- R422: bits [1:1], WO, reset 0. -/
abbrev CNT_TRC_CTL.STOP : Fld := ⟨.CNT_TRC_CTL, 1, 1, .WO⟩
/-- R422: bits [0:0], RO, reset 0. -/
abbrev CNT_TRC_STAT.RUN : Fld := ⟨.CNT_TRC_STAT, 0, 0, .RO⟩
/-- R422: bits [1:1], RO, reset 0. -/
abbrev CNT_TRC_STAT.FULL : Fld := ⟨.CNT_TRC_STAT, 1, 1, .RO⟩
/-- R422: bits [63:32], RO, reset 0x0. -/
abbrev CNT_TRC_STAT.WREC : Fld := ⟨.CNT_TRC_STAT, 63, 32, .RO⟩
/-- R422: bits [31:0], RC, reset 0x0. -/
abbrev CNT_TRC_DROP.DROP : Fld := ⟨.CNT_TRC_DROP, 31, 0, .RC⟩
/-- R433: bits [11:0], RO, reset image. -/
abbrev SLT_PROF.ILIM_INR : Fld := ⟨.SLT_PROF, 11, 0, .RO⟩
/-- R433: bits [23:12], RO, reset image. -/
abbrev SLT_PROF.ILIM_RUN : Fld := ⟨.SLT_PROF, 23, 12, .RO⟩
/-- R433: bits [31:24], RO, reset image. -/
abbrev SLT_PROF.PG_MS : Fld := ⟨.SLT_PROF, 31, 24, .RO⟩
/-- R433: bits [39:32], RO, reset image. -/
abbrev SLT_PROF.SETTLE_MS : Fld := ⟨.SLT_PROF, 39, 32, .RO⟩
/-- R433: bits [47:40], RO, reset image. -/
abbrev SLT_PROF.PERST_MS : Fld := ⟨.SLT_PROF, 47, 40, .RO⟩
/-- R433: bits [15:0], RW, reset 0x03E8. -/
abbrev SLT_GCFG.RETRY_MIN_MS : Fld := ⟨.SLT_GCFG, 15, 0, .RW⟩
/-- R433: bits [19:16], RW, reset 0x3. -/
abbrev SLT_GCFG.RETRY_MAX : Fld := ⟨.SLT_GCFG, 19, 16, .RW⟩
/-- R433: bits [29:20], RW, reset 0x00A. -/
abbrev SLT_GCFG.POLL_MS : Fld := ⟨.SLT_GCFG, 29, 20, .RW⟩
/-- R433: bits [30:30], RO, reset image. -/
abbrev SLT_GCFG.FAST : Fld := ⟨.SLT_GCFG, 30, 30, .RO⟩
/-- R433: bits [0:0], RO, reset image. -/
abbrev SLT_CFG.VALID : Fld := ⟨.SLT_CFG, 0, 0, .RO⟩
/-- R433: bits [7:1], RO, reset image. -/
abbrev SLT_CFG.PORT : Fld := ⟨.SLT_CFG, 7, 1, .RO⟩
/-- R433: bits [10:8], RO, reset image. -/
abbrev SLT_CFG.BUS : Fld := ⟨.SLT_CFG, 10, 8, .RO⟩
/-- R433: bits [17:11], RO, reset image. -/
abbrev SLT_CFG.ADDR : Fld := ⟨.SLT_CFG, 17, 11, .RO⟩
/-- R433: bits [19:18], RO, reset image. -/
abbrev SLT_CFG.PROFILE : Fld := ⟨.SLT_CFG, 19, 18, .RO⟩
/-- R433: bits [31:20], RW, reset 0x1F4. -/
abbrev SLT_CFG.FET_MV : Fld := ⟨.SLT_CFG, 31, 20, .RW⟩
/-- R433: bits [47:32], RW, reset image. -/
abbrev SLT_CFG.PWRBRK_MV : Fld := ⟨.SLT_CFG, 47, 32, .RW⟩
/-- R433: bits [48:48], RW, reset 0. -/
abbrev SLT_CFG.LD_CYCLE : Fld := ⟨.SLT_CFG, 48, 48, .RW⟩
/-- R433: bits [0:0], RW, reset 0. -/
abbrev SLT_CTL.ADMIN : Fld := ⟨.SLT_CTL, 0, 0, .RW⟩
/-- R433: bits [1:1], WO, reset 0. -/
abbrev SLT_CTL.CLEAR : Fld := ⟨.SLT_CTL, 1, 1, .WO⟩
/-- R433: bits [2:2], RW, reset 0. -/
abbrev SLT_CTL.PWRBRK : Fld := ⟨.SLT_CTL, 2, 2, .RW⟩
/-- R433: bits [3:3], WO, reset 0. -/
abbrev SLT_CTL.CYCLE : Fld := ⟨.SLT_CTL, 3, 3, .WO⟩
/-- R433: bits [2:0], RO, reset 0x0. -/
abbrev SLT_STAT.STATE : Fld := ⟨.SLT_STAT, 2, 0, .RO⟩
/-- R433: bits [3:3], RO, reset 0. -/
abbrev SLT_STAT.PRSNT : Fld := ⟨.SLT_STAT, 3, 3, .RO⟩
/-- R433: bits [4:4], RO, reset 0. -/
abbrev SLT_STAT.PGOOD : Fld := ⟨.SLT_STAT, 4, 4, .RO⟩
/-- R433: bits [5:5], RO, reset 0. -/
abbrev SLT_STAT.PWRBRK : Fld := ⟨.SLT_STAT, 5, 5, .RO⟩
/-- R433: bits [6:6], RO, reset 1. -/
abbrev SLT_STAT.HOST_ON : Fld := ⟨.SLT_STAT, 6, 6, .RO⟩
/-- R433: bits [7:7], RO, reset 0. -/
abbrev SLT_STAT.TEL_LOST : Fld := ⟨.SLT_STAT, 7, 7, .RO⟩
/-- R433: bits [10:8], RO, reset 0x0. -/
abbrev SLT_STAT.CAUSE : Fld := ⟨.SLT_STAT, 10, 8, .RO⟩
/-- R433: bits [19:16], RO, reset 0x0. -/
abbrev SLT_STAT.TRIES : Fld := ⟨.SLT_STAT, 19, 16, .RO⟩
/-- R433: bits [47:32], RO, reset 0x0000. -/
abbrev SLT_STAT.TRIPS : Fld := ⟨.SLT_STAT, 47, 32, .RO⟩
/-- R433: bits [63:48], RC, reset 0x0000. -/
abbrev SLT_STAT.PMB_ERR : Fld := ⟨.SLT_STAT, 63, 48, .RC⟩
/-- R433: bits [15:0], RO, reset 0x0000. -/
abbrev SLT_MEAS0.VIN : Fld := ⟨.SLT_MEAS0, 15, 0, .RO⟩
/-- R433: bits [31:16], RO, reset 0x0000. -/
abbrev SLT_MEAS0.VOUT : Fld := ⟨.SLT_MEAS0, 31, 16, .RO⟩
/-- R433: bits [47:32], RO, reset 0x0000. -/
abbrev SLT_MEAS0.IOUT : Fld := ⟨.SLT_MEAS0, 47, 32, .RO⟩
/-- R433: bits [31:0], RO, reset 0x0. -/
abbrev SLT_MEAS1.PIN : Fld := ⟨.SLT_MEAS1, 31, 0, .RO⟩
/-- R433: bits [63:0], RO, reset 0x0. -/
abbrev SLT_MEAS2.ENERGY : Fld := ⟨.SLT_MEAS2, 63, 0, .RO⟩
/-- R433: bits [55:48], RO, reset 0x00. -/
abbrev SLT_MEAS3.SEQ : Fld := ⟨.SLT_MEAS3, 55, 48, .RO⟩
/-- R433: bits [63:63], RO, reset 0. -/
abbrev SLT_MEAS3.VALID : Fld := ⟨.SLT_MEAS3, 63, 63, .RO⟩
/-- R281: bits [63:0], RW, reset 0x0. -/
abbrev TNG_SUB_DESC.WORD : Fld := ⟨.TNG_SUB_DESC, 63, 0, .RW⟩
/-- R340: bits [63:0], RW, reset 0x0. -/
abbrev MGT_IMG_BUF.WORD : Fld := ⟨.MGT_IMG_BUF, 63, 0, .RW⟩
/-- R341: bits [63:0], RO, reset fuses. -/
abbrev KEY_ROOT_HASH.WORD : Fld := ⟨.KEY_ROOT_HASH, 63, 0, .RO⟩
/-- R341: bits [63:0], RO, reset 0x0. -/
abbrev KEY_ID_PUB.WORD : Fld := ⟨.KEY_ID_PUB, 63, 0, .RO⟩
/-- R360: bits [63:0], RO, reset 0x0. -/
abbrev MGT_EVT_REC.WORD : Fld := ⟨.MGT_EVT_REC, 63, 0, .RO⟩
/-- R281: bits [63:0], RO, reset 0x0. -/
abbrev TNG_JQ.WORD : Fld := ⟨.TNG_JQ, 63, 0, .RO⟩
/-- R281: bits [63:0], RO, reset 0x0. -/
abbrev TNG_CQ.WORD : Fld := ⟨.TNG_CQ, 63, 0, .RO⟩

/-- The fields of each register, reserved bits left out (they read 0 and are never written). -/
def RegKind.fields : RegKind → List Fld
  | .MGT_CHIP_INFO => [MGT_CHIP_INFO.PART, MGT_CHIP_INFO.STEP_MAJOR, MGT_CHIP_INFO.STEP_MINOR, MGT_CHIP_INFO.REGION_LIVE, MGT_CHIP_INFO.CHIP_ID, MGT_CHIP_INFO.ROLE]
  | .MGT_HBM_PART => [MGT_HBM_PART.DIR_GIB, MGT_HBM_PART.L2_64M, MGT_HBM_PART.TRACE_256M, MGT_HBM_PART.SCRATCH_64M, MGT_HBM_PART.VALID]
  | .MGT_HBM_DBG_BASE => [MGT_HBM_DBG_BASE.WINDOW]
  | .MGT_DRS_ERR => [MGT_DRS_ERR.ADDR, MGT_DRS_ERR.SIZE, MGT_DRS_ERR.WRITE, MGT_DRS_ERR.SESSION, MGT_DRS_ERR.COUNT, MGT_DRS_ERR.PEND]
  | .PRT_CFG => [PRT_CFG.MODE, PRT_CFG.ROLE0, PRT_CFG.ROLE1, PRT_CFG.WIDTH0, PRT_CFG.WIDTH1, PRT_CFG.MAX_RATE, PRT_CFG.CLK_MODE, PRT_CFG.EQ_BYPASS, PRT_CFG.L0P_EN]
  | .PRT_LINK_CTL => [PRT_LINK_CTL.ADMIN0, PRT_LINK_CTL.ADMIN1, PRT_LINK_CTL.RATE_CAP0, PRT_LINK_CTL.RATE_CAP1, PRT_LINK_CTL.RETRAIN0, PRT_LINK_CTL.RETRAIN1, PRT_LINK_CTL.L0P_TGT0, PRT_LINK_CTL.L0P_TGT1]
  | .PRT_LINK_STATUS => [PRT_LINK_STATUS.STATE, PRT_LINK_STATUS.RATE, PRT_LINK_STATUS.WIDTH, PRT_LINK_STATUS.NEG_WIDTH, PRT_LINK_STATUS.FLIT, PRT_LINK_STATUS.DL_UP, PRT_LINK_STATUS.SPARE_PEND, PRT_LINK_STATUS.RECOV_CNT]
  | .PRT_LANE_MAP => [PRT_LANE_MAP.MARK, PRT_LANE_MAP.SPARE_USED, PRT_LANE_MAP.SPARE_LANE, PRT_LANE_MAP.SPARE_KIND, PRT_LANE_MAP.SPARE_BAD]
  | .PRT_SPARE_CTL => [PRT_SPARE_CTL.SYM_THR, PRT_SPARE_CTL.MARGIN_THR, PRT_SPARE_CTL.AUTO_L0P, PRT_SPARE_CTL.L0_URGENT]
  | .PRT_LINK_ERR => [PRT_LINK_ERR.UNCORR_FEC, PRT_LINK_ERR.CRC_ERR, PRT_LINK_ERR.REPLAY, PRT_LINK_ERR.RCV_ERR]
  | .PRT_LANE_STAT => [PRT_LANE_STAT.SYM_WIN, PRT_LANE_STAT.MARGIN, PRT_LANE_STAT.LOCK, PRT_LANE_STAT.SYM_TOTAL]
  | .PRT_PRBS_CTL => [PRT_PRBS_CTL.EN, PRT_PRBS_CTL.PATTERN, PRT_PRBS_CTL.RATE, PRT_PRBS_CTL.LANES, PRT_PRBS_CTL.INVERT, PRT_PRBS_CTL.SNAP, PRT_PRBS_CTL.CHK_ONLY]
  | .PRT_PRBS_BITS => [PRT_PRBS_BITS.BITS_K, PRT_PRBS_BITS.SEQ, PRT_PRBS_BITS.VALID]
  | .PRT_PRBS_RES => [PRT_PRBS_RES.ERR, PRT_PRBS_RES.SAT, PRT_PRBS_RES.LOCK, PRT_PRBS_RES.SEQ, PRT_PRBS_RES.VALID]
  | .PRT_CXL_CFG => [PRT_CXL_CFG.CXL_EN0, PRT_CXL_CFG.CXL_EN1, PRT_CXL_CFG.CACHE_EN0, PRT_CXL_CFG.CACHE_EN1, PRT_CXL_CFG.MLD_EN0, PRT_CXL_CFG.MLD_EN1, PRT_CXL_CFG.IDE_POL0, PRT_CXL_CFG.IDE_POL1, PRT_CXL_CFG.HP_TMO]
  | .PRT_CXL_STATUS => [PRT_CXL_STATUS.PROTO, PRT_CXL_STATUS.CACHE, PRT_CXL_STATUS.MEM, PRT_CXL_STATUS.BI, PRT_CXL_STATUS.MLD, PRT_CXL_STATUS.LD_CNT, PRT_CXL_STATUS.IDE_CM, PRT_CXL_STATUS.IDE_IO, PRT_CXL_STATUS.DEVLOAD, PRT_CXL_STATUS.VCS, PRT_CXL_STATUS.IDE_FAIL]
  | .VPPB_ENTRY => [VPPB_ENTRY.VCS, VPPB_ENTRY.USP, VPPB_ENTRY.BUSY, VPPB_ENTRY.STATE, VPPB_ENTRY.REMOTE, VPPB_ENTRY.PRESENT, VPPB_ENTRY.LD_ID, VPPB_ENTRY.TARGET, VPPB_ENTRY.DEVNUM]
  | .VCS_ENTRY => [VCS_ENTRY.USP_PORT, VCS_ENTRY.ACTIVE, VCS_ENTRY.FIRST_VPPB, VCS_ENTRY.DSP_CNT, VCS_ENTRY.POOL, VCS_ENTRY.BI_EN, VCS_ENTRY.CAID]
  | .SFL_PHY_CFG => [SFL_PHY_CFG.RATE128, SFL_PHY_CFG.SPARE_EN, SFL_PHY_CFG.ENC_EN, SFL_PHY_CFG.REV_MIN, SFL_PHY_CFG.REV_MAX]
  | .SFL_PHY_CTL => [SFL_PHY_CTL.RETRAIN, SFL_PHY_CTL.RATE_CAP]
  | .SFL_TRAIN_STATUS => [SFL_TRAIN_STATUS.STATE, SFL_TRAIN_STATUS.RATE, SFL_TRAIN_STATUS.REV, SFL_TRAIN_STATUS.LANES, SFL_TRAIN_STATUS.FAIL, SFL_TRAIN_STATUS.FALSE_LOCK, SFL_TRAIN_STATUS.TRAIN_CNT]
  | .SFL_PEER => [SFL_PEER.REV_MIN, SFL_PEER.REV_MAX, SFL_PEER.CHIP_ID, SFL_PEER.PORT, SFL_PEER.RATE128, SFL_PEER.WIDTH, SFL_PEER.SPARE, SFL_PEER.ENC, SFL_PEER.ROLE, SFL_PEER.LANE_OK]
  | .SFL_LANE_STAT => [SFL_LANE_STAT.LOCK, SFL_LANE_STAT.LANE_ID, SFL_LANE_STAT.SKEW, SFL_LANE_STAT.CW_UNCORR, SFL_LANE_STAT.CW_CORR, SFL_LANE_STAT.MARKER_ERR, SFL_LANE_STAT.SYNC_ERR]
  | .SFL_LINK_CTL => [SFL_LINK_CTL.DOWN_TMO, SFL_LINK_CTL.REPLAY_MAX, SFL_LINK_CTL.REPLAY_TMO, SFL_LINK_CTL.LANE_MASK, SFL_LINK_CTL.LANE_REQ]
  | .SFL_LINK_STAT => [SFL_LINK_STAT.TX_STATE, SFL_LINK_STAT.RX_DISCARD, SFL_LINK_STAT.ACTIVE_MASK, SFL_LINK_STAT.EPOCH, SFL_LINK_STAT.LANE_BUSY, SFL_LINK_STAT.LANE_ERR, SFL_LINK_STAT.REPLAY_OCC, SFL_LINK_STAT.RTT]
  | .SFL_LINK_CNT => [SFL_LINK_CNT.NAK_SENT, SFL_LINK_CNT.REPLAY, SFL_LINK_CNT.DISCARD, SFL_LINK_CNT.STALL_US]
  | .SFL_LINK_CNT2 => [SFL_LINK_CNT2.LOST, SFL_LINK_CNT2.DOWN_CNT, SFL_LINK_CNT2.TIMING_BAD]
  | .SFL_VC_CFG => [SFL_VC_CFG.ALLOC, SFL_VC_CFG.WEIGHT]
  | .SFL_VC_STAT => [SFL_VC_STAT.FREE, SFL_VC_STAT.XOFF_TX, SFL_VC_STAT.XOFF_RX, SFL_VC_STAT.HEADROOM_SHORT, SFL_VC_STAT.THR, SFL_VC_STAT.OVF, SFL_VC_STAT.XOFF_CNT]
  | .SFL_ENC_CTL => [SFL_ENC_CTL.TX_SLOT]
  | .SFL_ENC_STATUS => [SFL_ENC_STATUS.ACTIVE, SFL_ENC_STATUS.TX_VALID, SFL_ENC_STATUS.RX_VALID, SFL_ENC_STATUS.LAST_RX_KID, SFL_ENC_STATUS.KEY_ERR, SFL_ENC_STATUS.PEER_RXV, SFL_ENC_STATUS.SYNC_LOW, SFL_ENC_STATUS.TAG_FAIL, SFL_ENC_STATUS.TX_COUNT]
  | .SFL_KEY_DATA => [SFL_KEY_DATA.KEY]
  | .SFL_KEY_CMD => [SFL_KEY_CMD.SLOT, SFL_KEY_CMD.DIR, SFL_KEY_CMD.COMMIT, SFL_KEY_CMD.SALT]
  | .ROUTE_ENTRY => [ROUTE_ENTRY.VALID, ROUTE_ENTRY.ORDER, ROUTE_ENTRY.LEN, ROUTE_ENTRY.HOPS, ROUTE_ENTRY.WTAG]
  | .ANV_CR_CFG => [ANV_CR_CFG.STAND, ANV_CR_CFG.CHUNK, ANV_CR_CFG.MAX_SHARED]
  | .ANV_CR_STAT => [ANV_CR_STAT.SHARED_FREE, ANV_CR_STAT.OCC, ANV_CR_STAT.PEAK]
  | .ANV_RTR_STAT => [ANV_RTR_STAT.LINK_UP, ANV_RTR_STAT.SPARE_USED]
  | .ANV_RTR_ERR => [ANV_RTR_ERR.ECC_CORR, ANV_RTR_ERR.ECC_UNCORR, ANV_RTR_ERR.NO_ROUTE]
  | .ANV_PRB_CTL => [ANV_PRB_CTL.EN, ANV_PRB_CTL.PORT, ANV_PRB_CTL.TRACE_EN, ANV_PRB_CTL.EVT_EN, ANV_PRB_CTL.SNAP, ANV_PRB_CTL.THRESH]
  | .ANV_PRB_MATCH => [ANV_PRB_MATCH.DST_NI, ANV_PRB_MATCH.SRC_NI, ANV_PRB_MATCH.STREAM, ANV_PRB_MATCH.CLASS, ANV_PRB_MATCH.OPC, ANV_PRB_MATCH.SLAG, ANV_PRB_MATCH.MIRROR, ANV_PRB_MATCH.POISON]
  | .ANV_PRB_MASK => [ANV_PRB_MASK.DST_NI, ANV_PRB_MASK.SRC_NI, ANV_PRB_MASK.STREAM, ANV_PRB_MASK.CLASS, ANV_PRB_MASK.OPC, ANV_PRB_MASK.SLAG, ANV_PRB_MASK.MIRROR, ANV_PRB_MASK.POISON]
  | .ANV_PRB_RES => [ANV_PRB_RES.COUNT, ANV_PRB_RES.SEQ, ANV_PRB_RES.VALID]
  | .ANV_PRB_RES2 => [ANV_PRB_RES2.COUNT, ANV_PRB_RES2.SEQ, ANV_PRB_RES2.VALID]
  | .ANV_ARB_CFG => [ANV_ARB_CFG.WGT, ANV_ARB_CFG.AGE_THR]
  | .ANV_QUENCH_CMD => [ANV_QUENCH_CMD.NI, ANV_QUENCH_CMD.SET, ANV_QUENCH_CMD.CLEAR]
  | .ANV_QUENCH_STAT => [ANV_QUENCH_STAT.BLOCK, ANV_QUENCH_STAT.CLIENT, ANV_QUENCH_STAT.MGMT, ANV_QUENCH_STAT.SPARE]
  | .ANV_SLAG_CNT0 => [ANV_SLAG_CNT0.RD_ANS, ANV_SLAG_CNT0.WR_DISC]
  | .ANV_SLAG_CNT1 => [ANV_SLAG_CNT1.RSP_DISC, ANV_SLAG_CNT1.NP_UR, ANV_SLAG_CNT1.SNP_DEAD]
  | .ANV_SLAG_CNT2 => [ANV_SLAG_CNT2.PARTIAL, ANV_SLAG_CNT2.NO_ROUTE]
  | .ANV_MIR_CFG => [ANV_MIR_CFG.EN, ANV_MIR_CFG.ING, ANV_MIR_CFG.EGR, ANV_MIR_CFG.BY_FLOW, ANV_MIR_CFG.SRC, ANV_MIR_CFG.DST_PORT, ANV_MIR_CFG.TRUNC, ANV_MIR_CFG.SAMPLE]
  | .ANV_MIR_RING => [ANV_MIR_RING.BASE]
  | .ANV_MIR_RING_SZ => [ANV_MIR_RING_SZ.LOG2, ANV_MIR_RING_SZ.WOFF]
  | .ANV_MIR_STAT => [ANV_MIR_STAT.SEQ, ANV_MIR_STAT.DROP]
  | .TMP_CFG => [TMP_CFG.CLASS, TMP_CFG.AUTO_BIND, TMP_CFG.TEMPLATE, TMP_CFG.HOLD_BOUND, TMP_CFG.CLIENT_TC]
  | .TMP_PROFILE3 => [TMP_PROFILE3.MAP]
  | .TMP_BIND_CMD => [TMP_BIND_CMD.INDEX, TMP_BIND_CMD.SRC_FEID, TMP_BIND_CMD.LD, TMP_BIND_CMD.BIND, TMP_BIND_CMD.UNBIND, TMP_BIND_CMD.LOOKUP]
  | .TMP_BIND_STAT => [TMP_BIND_STAT.STATUS, TMP_BIND_STAT.INDEX, TMP_BIND_STAT.SEQ, TMP_BIND_STAT.VALID]
  | .TMP_STAT => [TMP_STAT.FREE, TMP_STAT.BIND_REFUSED, TMP_STAT.CMARK_IGN]
  | .TMP_SHP_RATE => [TMP_SHP_RATE.CIR, TMP_SHP_RATE.PIR]
  | .TMP_SHP_SIZE => [TMP_SHP_SIZE.CBS, TMP_SHP_SIZE.PBS, TMP_SHP_SIZE.OVH, TMP_SHP_SIZE.TOK_RST]
  | .TMP_CTX_00 => [TMP_CTX_00.SRC_FEID, TMP_CTX_00.LD, TMP_CTX_00.REGION, TMP_CTX_00.BOUND, TMP_CTX_00.AUTO]
  | .TMP_CTX_08 => [TMP_CTX_08.CIR, TMP_CTX_08.PIR]
  | .TMP_CTX_10 => [TMP_CTX_10.CBS, TMP_CTX_10.PBS, TMP_CTX_10.OVH, TMP_CTX_10.TC, TMP_CTX_10.PROFILE, TMP_CTX_10.TOK_RST, TMP_CTX_10.HOLD_EN]
  | .TMP_CTX_18 => [TMP_CTX_18.TOK_C, TMP_CTX_18.TOK_P]
  | .TMP_CTX_20 => [TMP_CTX_20.HOLD_MAX, TMP_CTX_20.HELD_NOW]
  | .TMP_CTX_28 => [TMP_CTX_28.GREEN_B]
  | .TMP_CTX_30 => [TMP_CTX_30.YELLOW_B]
  | .TMP_CTX_38 => [TMP_CTX_38.RED_B]
  | .TMP_CTX_40 => [TMP_CTX_40.HELD_CNT]
  | .TMP_CTX_48 => [TMP_CTX_48.HELD_NS]
  | .TMP_CTX_50 => [TMP_CTX_50.STALL_NS]
  | .TMP_CTX_58 => [TMP_CTX_58.MARK1]
  | .TMP_CTX_60 => [TMP_CTX_60.MARK2]
  | .TMP_CTX_68 => [TMP_CTX_68.MARK3]
  | .L1_W0 => [L1_W0.VALID, L1_W0.SHARED, L1_W0.FRACT, L1_W0.HELD, L1_W0.POOLABLE, L1_W0.TARGET, L1_W0.LD, L1_W0.DEV_EXT, L1_W0.L2PTR]
  | .L1_W1 => [L1_W1.WTAG, L1_W1.VCS, L1_W1.RELEASING]
  | .WIN_W0 => [WIN_W0.VALID, WIN_W0.SPACE, WIN_W0.RD, WIN_W0.WR, WIN_W0.MTYPE, WIN_W0.LOG2SIZE, WIN_W0.BASE, WIN_W0.LOCK]
  | .WIN_W1 => [WIN_W1.TARGET, WIN_W1.MID, WIN_W1.MID_MASK]
  | .WIN_W2 => [WIN_W2.WTAG]
  | .WIN_W3 => []
  | .ACU_CFG => [ACU_CFG.SCRUB_NS]
  | .ACU_ERR_ADDR => [ACU_ERR_ADDR.ADDR, ACU_ERR_ADDR.SPACE]
  | .ACU_ERR_INFO => [ACU_ERR_INFO.CAUSE, ACU_ERR_INFO.WRITE, ACU_ERR_INFO.MTYPE, ACU_ERR_INFO.MID, ACU_ERR_INFO.TARGET, ACU_ERR_INFO.PEND]
  | .ACU_CNT => [ACU_CNT.DECODE_MISS, ACU_CNT.UNMAPPED, ACU_CNT.DENY_RD, ACU_CNT.DENY_WR]
  | .ACU_DUP_STAT => [ACU_DUP_STAT.ROUTE_CORR, ACU_DUP_STAT.L1_CORR, ACU_DUP_STAT.ACU_CORR, ACU_DUP_STAT.UNCORR]
  | .RMP_CMD => [RMP_CMD.OP, RMP_CMD.L1_IDX, RMP_CMD.GRAN]
  | .RMP_CMD_DATA => [RMP_CMD_DATA.ENTRY]
  | .RMP_RES => [RMP_RES.STATUS, RMP_RES.L2PTR, RMP_RES.SEQ, RMP_RES.VALID]
  | .RMP_RES_DATA => [RMP_RES_DATA.ENTRY]
  | .RMP_STAT => [RMP_STAT.L2_FREE, RMP_STAT.FRACT_CNT]
  | .RMP_POOL => [RMP_POOL.BASE_GIB, RMP_POOL.SIZE_GIB]
  | .HRT_SLICE_STAT => [HRT_SLICE_STAT.TRK_USED, HRT_SLICE_STAT.PHYS, HRT_SLICE_STAT.SPARE]
  | .HRT_CNT0 => [HRT_CNT0.DC_HIT, HRT_CNT0.DC_MISS]
  | .HRT_CNT1 => [HRT_CNT1.SNP_SENT, HRT_CNT1.SNP_MISS]
  | .HRT_CNT2 => [HRT_CNT2.TMO_POISON, HRT_CNT2.HOST_POISON, HRT_CNT2.CONFLICT, HRT_CNT2.PROTO_ERR]
  | .HRT_CNT3 => [HRT_CNT3.HOLD_DEFER, HRT_CNT3.COARSE, HRT_CNT3.DIR_ECC, HRT_CNT3.LATE_RSP]
  | .HRT_POISON_LOG => [HRT_POISON_LOG.LINE, HRT_POISON_LOG.CAUSE, HRT_POISON_LOG.CAID, HRT_POISON_LOG.PEND]
  | .HRT_CFG => [HRT_CFG.HOLD_NS, HRT_CFG.TMO_US]
  | .HRT_ADMIT => [HRT_ADMIT.IN_USE, HRT_ADMIT.REMOVING, HRT_ADMIT.ADMIT_REFUSED]
  | .HRT_CMD => [HRT_CMD.LINE, HRT_CMD.READ_DIR]
  | .HRT_RES => [HRT_RES.STATUS, HRT_RES.SLICE, HRT_RES.SEQ, HRT_RES.VALID]
  | .HRT_RES_DATA => [HRT_RES_DATA.ENTRY]
  | .HRT_HOME => [HRT_HOME.L1_IDX, HRT_HOME.VALID]
  | .HRT_AGENT => [HRT_AGENT.PORT_FEID, HRT_AGENT.VALID, HRT_AGENT.REMOVING, HRT_AGENT.LOCAL, HRT_AGENT.TMO_CNT]
  | .RMP_HOT_CFG => [RMP_HOT_CFG.EN, RMP_HOT_CFG.SAMPLE_LOG2, RMP_HOT_CFG.EPOCH_MS, RMP_HOT_CFG.BASE_64M]
  | .RMP_HOT_STAT => [RMP_HOT_STAT.RET_BANK, RMP_HOT_STAT.ACT_BANK, RMP_HOT_STAT.EPOCH, RMP_HOT_STAT.SEQ, RMP_HOT_STAT.VALID]
  | .RMP_HOT_CNT => [RMP_HOT_CNT.DROP, RMP_HOT_CNT.WAIT_NS]
  | .RMP_MIG_CFG => [RMP_MIG_CFG.HOLD_BLKS, RMP_MIG_CFG.HOLD_MAX_NS, RMP_MIG_CFG.MAX_PASSES, RMP_MIG_CFG.MAX_HOLDS, RMP_MIG_CFG.TC]
  | .RMP_MIG_STAT => [RMP_MIG_STAT.SLOTS_USED, RMP_MIG_STAT.DONE, RMP_MIG_STAT.ABANDONED, RMP_MIG_STAT.HOLD_ABORT]
  | .RMP_MIG_SLOT0 => [RMP_MIG_SLOT0.L1_IDX, RMP_MIG_SLOT0.GRAN, RMP_MIG_SLOT0.PHASE, RMP_MIG_SLOT0.PASS, RMP_MIG_SLOT0.ENGINE, RMP_MIG_SLOT0.SHARED, RMP_MIG_SLOT0.DIRTY]
  | .RMP_MIG_SLOT1 => [RMP_MIG_SLOT1.NEW]
  | .TNG_CL_CFG => [TNG_CL_CFG.FW_MASK, TNG_CL_CFG.WDOG_MS]
  | .TNG_CL_STAT => [TNG_CL_STAT.JQ_USED, TNG_CL_STAT.BUSY, TNG_CL_STAT.LIVE, TNG_CL_STAT.LOST_GEN]
  | .TNG_SUB_CMD => [TNG_SUB_CMD.GO]
  | .TNG_SUB_RES => [TNG_SUB_RES.STATUS, TNG_SUB_RES.SEQ, TNG_SUB_RES.VALID]
  | .TNG_SUB_ID => [TNG_SUB_ID.JOB_ID]
  | .TNG_CANCEL_CMD => [TNG_CANCEL_CMD.JOB_ID, TNG_CANCEL_CMD.GO]
  | .TNG_CANCEL_RES => [TNG_CANCEL_RES.STATUS, TNG_CANCEL_RES.SEQ, TNG_CANCEL_RES.VALID]
  | .TNG_CQ_PTR => [TNG_CQ_PTR.HEAD, TNG_CQ_PTR.TAIL, TNG_CQ_PTR.PHASE]
  | .TNG_CL_CNT => [TNG_CL_CNT.DONE, TNG_CL_CNT.REFUSED, TNG_CL_CNT.ABORTED]
  | .TNG_KRN => [TNG_KRN.VALID, TNG_KRN.VERSION, TNG_KRN.ENG_MASK, TNG_KRN.LOADED_MASK, TNG_KRN.SCR_BASE_64M, TNG_KRN.SCR_SIZE_64M]
  | .TNG_ENG_CTL => [TNG_ENG_CTL.RESET]
  | .TNG_ENG_STAT => [TNG_ENG_STAT.STATE, TNG_ENG_STAT.SERVICE, TNG_ENG_STAT.JOB_ID]
  | .TNG_ENG_CNT => [TNG_ENG_CNT.SQUASH, TNG_ENG_CNT.DEFER]
  | .MGT_FAB_CFG => [MGT_FAB_CFG.MGR_ID, MGT_FAB_CFG.STBY_ID, MGT_FAB_CFG.STBY_EN, MGT_FAB_CFG.TTL, MGT_FAB_CFG.LEASE_MS, MGT_FAB_CFG.UNREACH_MS]
  | .MGT_FAB_STAT => [MGT_FAB_STAT.ROLE_NOW, MGT_FAB_STAT.MIXED, MGT_FAB_STAT.NO_STANDBY, MGT_FAB_STAT.REV_TOP, MGT_FAB_STAT.ACTING_MGR, MGT_FAB_STAT.EPOCH]
  | .MGT_FAB_GEN => [MGT_FAB_GEN.GEN, MGT_FAB_GEN.RESYNC]
  | .MGT_FAB_CTL => [MGT_FAB_CTL.HANDOVER]
  | .MGT_FAB_RES => [MGT_FAB_RES.STATUS, MGT_FAB_RES.SEQ, MGT_FAB_RES.VALID]
  | .MGT_FAB_CNT => [MGT_FAB_CNT.TAKEOVER, MGT_FAB_CNT.RESYNC, MGT_FAB_CNT.TTL_EXP, MGT_FAB_CNT.WITHHELD]
  | .MGT_FAB_MEMBER => [MGT_FAB_MEMBER.STATE, MGT_FAB_MEMBER.ROLE, MGT_FAB_MEMBER.ACTING_MGR, MGT_FAB_MEMBER.REV_MAX, MGT_FAB_MEMBER.REFUSE, MGT_FAB_MEMBER.AGE_MS]
  | .MGT_FAB_FFT => [MGT_FAB_FFT.PORT0, MGT_FAB_FFT.V0, MGT_FAB_FFT.PORT1, MGT_FAB_FFT.V1, MGT_FAB_FFT.PORT2, MGT_FAB_FFT.V2, MGT_FAB_FFT.PORT3, MGT_FAB_FFT.V3, MGT_FAB_FFT.NALT, MGT_FAB_FFT.LOCAL, MGT_FAB_FFT.UP]
  | .MGT_IMG_STAT => [MGT_IMG_STAT.RUN_VER, MGT_IMG_STAT.BOOT_SLOT, MGT_IMG_STAT.FALLBACK, MGT_IMG_STAT.DIVERGED, MGT_IMG_STAT.SLOT_A, MGT_IMG_STAT.SLOT_B]
  | .MGT_IMG_SEQ => [MGT_IMG_SEQ.SEQ_A, MGT_IMG_SEQ.SEQ_B]
  | .MGT_IMG_CMD => [MGT_IMG_CMD.OP, MGT_IMG_CMD.SLOT, MGT_IMG_CMD.OFFSET]
  | .MGT_IMG_RES => [MGT_IMG_RES.STATUS, MGT_IMG_RES.SECTION, MGT_IMG_RES.REGIONS, MGT_IMG_RES.DETAIL, MGT_IMG_RES.SEQ, MGT_IMG_RES.VALID]
  | .KEY_STAT => [KEY_STAT.REC_VALID, KEY_STAT.REC_SLOT, KEY_STAT.ID_PEND, KEY_STAT.ID_VALID, KEY_STAT.ROOT_OK, KEY_STAT.ROOT_REV, KEY_STAT.SIGNER, KEY_STAT.SVN_FLOOR, KEY_STAT.GEN]
  | .KEY_CMD => [KEY_CMD.OP, KEY_CMD.ROOT, KEY_CMD.SVN]
  | .KEY_RES => [KEY_RES.STATUS, KEY_RES.SEQ, KEY_RES.VALID]
  | .KEY_ROOT => [KEY_ROOT.VALID, KEY_ROOT.REVOKED, KEY_ROOT.BLANK, KEY_ROOT.VALID_WORD, KEY_ROOT.REV_WORD]
  | .KEY_TRNG_STAT => [KEY_TRNG_STAT.READY, KEY_TRNG_STAT.FAILED, KEY_TRNG_STAT.STARTS, KEY_TRNG_STAT.RCT_FAIL, KEY_TRNG_STAT.APT_FAIL]
  | .KEY_TRNG_CMD => [KEY_TRNG_CMD.NEXT]
  | .KEY_TRNG_RES => [KEY_TRNG_RES.READY, KEY_TRNG_RES.SEQ, KEY_TRNG_RES.VALID]
  | .KEY_TRNG_OUT => [KEY_TRNG_OUT.DATA]
  | .MGT_SESS => [MGT_SESS.OPEN, MGT_SESS.PATH, MGT_SESS.OWNER, MGT_SESS.WHERE, MGT_SESS.NOT_OWNER, MGT_SESS.ACC_ERR]
  | .MGT_OWN_STAT => [MGT_OWN_STAT.OWNER, MGT_OWN_STAT.HELD, MGT_OWN_STAT.ELECT, MGT_OWN_STAT.PRIO, MGT_OWN_STAT.LEASE_LEFT, MGT_OWN_STAT.ELECTIONS, MGT_OWN_STAT.NOTICE_DROP]
  | .MGT_OWN_CLAIM => [MGT_OWN_CLAIM.CLAIM]
  | .MGT_SESS_CFG => [MGT_SESS_CFG.IDLE_S]
  | .MGT_EVT_STAT => [MGT_EVT_STAT.COUNT, MGT_EVT_STAT.OVF, MGT_EVT_STAT.NEXT_SEQ]
  | .MGT_EVT_ACK => [MGT_EVT_ACK.SEQ]
  | .PWR_MODE => [PWR_MODE.MODE, PWR_MODE.MIXED_C, PWR_MODE.DEGRADED_C, PWR_MODE.CONTAINED_C, PWR_MODE.RECOVERY_C, PWR_MODE.BANKED_C, PWR_MODE.FATAL, PWR_MODE.REGION, PWR_MODE.SAFE_CAUSE, PWR_MODE.BOOT_SRC, PWR_MODE.CHANGES]
  | .PWR_CTL => [PWR_CTL.REBOOT, PWR_CTL.TEST, PWR_CTL.BANK_ALL, PWR_CTL.RECOVER]
  | .PWR_RESET_STAT => [PWR_RESET_STAT.CAUSE, PWR_RESET_STAT.HBM_KEPT, PWR_RESET_STAT.RAIL, PWR_RESET_STAT.BOOT_MS]
  | .PWR_BANK_CFG => [PWR_BANK_CFG.IDLE_US]
  | .PWR_BANK_PORT => [PWR_BANK_PORT.BANK]
  | .PWR_BANK_PSTAT => [PWR_BANK_PSTAT.BANKED]
  | .PWR_BANK_PDENY => [PWR_BANK_PDENY.DENY]
  | .PWR_BANK_UNIT => [PWR_BANK_UNIT.CLUSTER, PWR_BANK_UNIT.SLICE]
  | .PWR_BANK_USTAT => [PWR_BANK_USTAT.CLUSTER, PWR_BANK_USTAT.SLICE, PWR_BANK_USTAT.WAKES]
  | .PWR_PERST => [PWR_PERST.LEVEL]
  | .FLT_CFG => [FLT_CFG.SECOND, FLT_CFG.FN_DEG, FLT_CFG.FN_CONT, FLT_CFG.INJ_EN, FLT_CFG.LOCK]
  | .FLT_STAT => [FLT_STAT.FATAL, FLT_STAT.DEG, FLT_STAT.FAULTN, FLT_STAT.EMBER_RUN, FLT_STAT.FENCED, FLT_STAT.FATAL_EVT]
  | .FLT_REC0 => [FLT_REC0.EVENT, FLT_REC0.CLASS, FLT_REC0.MULTI, FLT_REC0.ESC, FLT_REC0.INJ, FLT_REC0.COUNT, FLT_REC0.PEND]
  | .FLT_REC1 => [FLT_REC1.DETAIL]
  | .FLT_REC2 => [FLT_REC2.TIME_LO]
  | .FLT_REC3 => [FLT_REC3.TIME_HI]
  | .FLT_ACTIVE => [FLT_ACTIVE.ACTIVE]
  | .FLT_INJ_CTL => [FLT_INJ_CTL.TARGET, FLT_INJ_CTL.MODE, FLT_INJ_CTL.BIT, FLT_INJ_CTL.UNIT, FLT_INJ_CTL.COPY, FLT_INJ_CTL.GO, FLT_INJ_CTL.INDEX]
  | .FLT_INJ_RES => [FLT_INJ_RES.STATUS, FLT_INJ_RES.SEQ, FLT_INJ_RES.VALID]
  | .FLT_REPAIR_RES => [FLT_REPAIR_RES.STATUS, FLT_REPAIR_RES.SEQ, FLT_REPAIR_RES.VALID]
  | .FLT_REPAIR_CMD => [FLT_REPAIR_CMD.OP, FLT_REPAIR_CMD.UNIT]
  | .FLT_POOL => [FLT_POOL.TOTAL, FLT_POOL.USED, FLT_POOL.AUTO, FLT_POOL.UNMET]
  | .FLT_WEAR_CFG => [FLT_WEAR_CFG.AGE_PPM, FLT_WEAR_CFG.MARGIN_H, FLT_WEAR_CFG.SRAM_RATE, FLT_WEAR_CFG.WIRE_THR, FLT_WEAR_CFG.FEC_THR]
  | .FLT_WEAR_CNT => [FLT_WEAR_CNT.AGING, FLT_WEAR_CNT.MARGIN, FLT_WEAR_CNT.SRAM, FLT_WEAR_CNT.WIRE]
  | .FLT_REG_STAT => [FLT_REG_STAT.FATAL, FLT_REG_STAT.STATE, FLT_REG_STAT.SCAN_FAIL, FLT_REG_STAT.FATAL_EVT]
  | .TIM_CFG => [TIM_CFG.SRC, TIM_CFG.PTP_DOMAIN, TIM_CFG.KI_SHIFT, TIM_CFG.STEP_NS, TIM_CFG.LOSS_MS, TIM_CFG.PPS_W_MS]
  | .TIM_NOW_LO => [TIM_NOW_LO.FRAC, TIM_NOW_LO.NS, TIM_NOW_LO.SEC_L]
  | .TIM_NOW_HI => [TIM_NOW_HI.SEC_H]
  | .TIM_SET_LO => [TIM_SET_LO.VAL]
  | .TIM_SET_HI => [TIM_SET_HI.VAL]
  | .TIM_CMD => [TIM_CMD.SET, TIM_CMD.ADJ, TIM_CMD.ADJ_NS]
  | .TIM_FREQ => [TIM_FREQ.FREQ, TIM_FREQ.SLEW]
  | .TIM_STAT => [TIM_STAT.STATE, TIM_STAT.ROOT, TIM_STAT.PPS_OK, TIM_STAT.PTP_OK, TIM_STAT.HOPS, TIM_STAT.UP_PORT, TIM_STAT.ROOT_ID, TIM_STAT.STEPS]
  | .TIM_OFFSET => [TIM_OFFSET.THETA, TIM_OFFSET.ERR, TIM_OFFSET.SEQ, TIM_OFFSET.VALID]
  | .TIM_ASYM => [TIM_ASYM.ASYM]
  | .PWR_THERM_STAT => [PWR_THERM_STAT.STATE, PWR_THERM_STAT.HOT, PWR_THERM_STAT.TJ_MAX, PWR_THERM_STAT.THR_MS]
  | .PWR_TEL_CFG => [PWR_TEL_CFG.THR_DUTY]
  | .PWR_TEL_MAN => [PWR_TEL_MAN.CHANNEL, PWR_TEL_MAN.GAIN, PWR_TEL_MAN.EN]
  | .PWR_TEL_MRES => [PWR_TEL_MRES.VALUE, PWR_TEL_MRES.CODE, PWR_TEL_MRES.SEQ, PWR_TEL_MRES.VALID]
  | .PWR_TEL_SMP => [PWR_TEL_SMP.VALUE, PWR_TEL_SMP.CODE, PWR_TEL_SMP.SEQ, PWR_TEL_SMP.VALID]
  | .PWR_TEL_CH => [PWR_TEL_CH.GAIN, PWR_TEL_CH.FILTER, PWR_TEL_CH.LIM_EN, PWR_TEL_CH.LOW, PWR_TEL_CH.HIGH]
  | .CNT_CTL => [CNT_CTL.SNAP, CNT_CTL.CLR, CNT_CTL.CLR_PEAK]
  | .CNT_SNAP_RES => [CNT_SNAP_RES.SEQ, CNT_SNAP_RES.VALID]
  | .CNT_BW_CFG => [CNT_BW_CFG.WIN_US]
  | .CNT_SEL => [CNT_SEL.EVSEL, CNT_SEL.UNIT, CNT_SEL.EN]
  | .CNT_VAL => [CNT_VAL.COUNT, CNT_VAL.SAT]
  | .CNT_SNAP => [CNT_SNAP.COUNT, CNT_SNAP.SAT]
  | .CNT_BW0 => [CNT_BW0.IN_B]
  | .CNT_BW1 => [CNT_BW1.OUT_B]
  | .CNT_BW2 => [CNT_BW2.PEAK_IN, CNT_BW2.PEAK_OUT]
  | .CNT_BW3 => [CNT_BW3.SEQ, CNT_BW3.VALID]
  | .CNT_TRC_CFG => [CNT_TRC_CFG.DEST, CNT_TRC_CFG.WRAP, CNT_TRC_CFG.HOPS, CNT_TRC_CFG.PORT]
  | .CNT_TRC_RING => [CNT_TRC_RING.BASE]
  | .CNT_TRC_RING_SZ => [CNT_TRC_RING_SZ.LOG2]
  | .CNT_TRC_CTL => [CNT_TRC_CTL.START, CNT_TRC_CTL.STOP]
  | .CNT_TRC_STAT => [CNT_TRC_STAT.RUN, CNT_TRC_STAT.FULL, CNT_TRC_STAT.WREC]
  | .CNT_TRC_DROP => [CNT_TRC_DROP.DROP]
  | .SLT_PROF => [SLT_PROF.ILIM_INR, SLT_PROF.ILIM_RUN, SLT_PROF.PG_MS, SLT_PROF.SETTLE_MS, SLT_PROF.PERST_MS]
  | .SLT_GCFG => [SLT_GCFG.RETRY_MIN_MS, SLT_GCFG.RETRY_MAX, SLT_GCFG.POLL_MS, SLT_GCFG.FAST]
  | .SLT_CFG => [SLT_CFG.VALID, SLT_CFG.PORT, SLT_CFG.BUS, SLT_CFG.ADDR, SLT_CFG.PROFILE, SLT_CFG.FET_MV, SLT_CFG.PWRBRK_MV, SLT_CFG.LD_CYCLE]
  | .SLT_CTL => [SLT_CTL.ADMIN, SLT_CTL.CLEAR, SLT_CTL.PWRBRK, SLT_CTL.CYCLE]
  | .SLT_STAT => [SLT_STAT.STATE, SLT_STAT.PRSNT, SLT_STAT.PGOOD, SLT_STAT.PWRBRK, SLT_STAT.HOST_ON, SLT_STAT.TEL_LOST, SLT_STAT.CAUSE, SLT_STAT.TRIES, SLT_STAT.TRIPS, SLT_STAT.PMB_ERR]
  | .SLT_MEAS0 => [SLT_MEAS0.VIN, SLT_MEAS0.VOUT, SLT_MEAS0.IOUT]
  | .SLT_MEAS1 => [SLT_MEAS1.PIN]
  | .SLT_MEAS2 => [SLT_MEAS2.ENERGY]
  | .SLT_MEAS3 => [SLT_MEAS3.SEQ, SLT_MEAS3.VALID]
  | .TNG_SUB_DESC => [TNG_SUB_DESC.WORD]
  | .MGT_IMG_BUF => [MGT_IMG_BUF.WORD]
  | .KEY_ROOT_HASH => [KEY_ROOT_HASH.WORD]
  | .KEY_ID_PUB => [KEY_ID_PUB.WORD]
  | .MGT_EVT_REC => [MGT_EVT_REC.WORD]
  | .TNG_JQ => [TNG_JQ.WORD]
  | .TNG_CQ => [TNG_CQ.WORD]

/-- The value each register holds after reset (R7 and the Reset column of each register map; where the map says image, fuses, strap, repair map or cause,
the values of log entries 3, 4, 5 and 6). -/
def RegKind.resetOf (k : RegKind) (i : Nat) : Word :=
  match k with
  | .MGT_CHIP_INFO => word 0xf009600
  | .MGT_HBM_PART => 0
  | .MGT_HBM_DBG_BASE => 0
  | .MGT_DRS_ERR => 0
  | .PRT_CFG => 0
  | .PRT_LINK_CTL => word 0xfcd8
  | .PRT_LINK_STATUS => 0
  | .PRT_LANE_MAP => 0
  | .PRT_SPARE_CTL => word 0x3200100
  | .PRT_LINK_ERR => 0
  | .PRT_LANE_STAT => 0
  | .PRT_PRBS_CTL => 0
  | .PRT_PRBS_BITS => 0
  | .PRT_PRBS_RES => 0
  | .PRT_CXL_CFG => word 0x50000
  | .PRT_CXL_STATUS => word 0x7f0000
  | .VPPB_ENTRY => 0
  | .VCS_ENTRY => word 0x7f
  | .SFL_PHY_CFG => 0
  | .SFL_PHY_CTL => word 0x2
  | .SFL_TRAIN_STATUS => 0
  | .SFL_PEER => 0
  | .SFL_LANE_STAT => 0
  | .SFL_LINK_CTL => word 0x28100032
  | .SFL_LINK_STAT => 0
  | .SFL_LINK_CNT => 0
  | .SFL_LINK_CNT2 => 0
  | .SFL_VC_CFG => word 0x10000
  | .SFL_VC_STAT => 0
  | .SFL_ENC_CTL => 0
  | .SFL_ENC_STATUS => 0
  | .SFL_KEY_DATA => 0
  | .SFL_KEY_CMD => 0
  | .ROUTE_ENTRY => 0
  | .ANV_CR_CFG => word 0x40108
  | .ANV_CR_STAT => word 0xcd0
  | .ANV_RTR_STAT => 0
  | .ANV_RTR_ERR => 0
  | .ANV_PRB_CTL => 0
  | .ANV_PRB_MATCH => 0
  | .ANV_PRB_MASK => 0
  | .ANV_PRB_RES => 0
  | .ANV_PRB_RES2 => 0
  | .ANV_ARB_CFG => word 0x201111111
  | .ANV_QUENCH_CMD => 0
  | .ANV_QUENCH_STAT => 0
  | .ANV_SLAG_CNT0 => 0
  | .ANV_SLAG_CNT1 => 0
  | .ANV_SLAG_CNT2 => 0
  | .ANV_MIR_CFG => 0
  | .ANV_MIR_RING => 0
  | .ANV_MIR_RING_SZ => word 0xc
  | .ANV_MIR_STAT => 0
  | .TMP_CFG => word 0x603e800000000
  | .TMP_PROFILE3 => word 0xffa5fa50e500
  | .TMP_BIND_CMD => 0
  | .TMP_BIND_STAT => 0
  | .TMP_STAT => word 65536
  | .TMP_SHP_RATE => 0
  | .TMP_SHP_SIZE => 0
  | .TMP_CTX_00 => if i = 65536 then word 8388608 else word 0
  | .TMP_CTX_08 => 0
  | .TMP_CTX_10 => word 0x4000000000000000
  | .TMP_CTX_18 => 0
  | .TMP_CTX_20 => word 0x40
  | .TMP_CTX_28 => 0
  | .TMP_CTX_30 => 0
  | .TMP_CTX_38 => 0
  | .TMP_CTX_40 => 0
  | .TMP_CTX_48 => 0
  | .TMP_CTX_50 => 0
  | .TMP_CTX_58 => 0
  | .TMP_CTX_60 => 0
  | .TMP_CTX_68 => 0
  | .L1_W0 => 0
  | .L1_W1 => 0
  | .WIN_W0 => 0
  | .WIN_W1 => 0
  | .WIN_W2 => 0
  | .WIN_W3 => 0
  | .ACU_CFG => word 0x20
  | .ACU_ERR_ADDR => 0
  | .ACU_ERR_INFO => 0
  | .ACU_CNT => 0
  | .ACU_DUP_STAT => 0
  | .RMP_CMD => 0
  | .RMP_CMD_DATA => 0
  | .RMP_RES => 0
  | .RMP_RES_DATA => 0
  | .RMP_STAT => 0
  | .RMP_POOL => 0
  | .HRT_SLICE_STAT => word (0 + i * 65536)
  | .HRT_CNT0 => 0
  | .HRT_CNT1 => 0
  | .HRT_CNT2 => 0
  | .HRT_CNT3 => 0
  | .HRT_POISON_LOG => 0
  | .HRT_CFG => word 0x140060
  | .HRT_ADMIT => 0
  | .HRT_CMD => 0
  | .HRT_RES => 0
  | .HRT_RES_DATA => 0
  | .HRT_HOME => 0
  | .HRT_AGENT => 0
  | .RMP_HOT_CFG => word 0x640c
  | .RMP_HOT_STAT => 0
  | .RMP_HOT_CNT => 0
  | .RMP_MIG_CFG => word 0xe07d010
  | .RMP_MIG_STAT => 0
  | .RMP_MIG_SLOT0 => 0
  | .RMP_MIG_SLOT1 => 0
  | .TNG_CL_CFG => 0
  | .TNG_CL_STAT => word 0xff000000
  | .TNG_SUB_CMD => 0
  | .TNG_SUB_RES => 0
  | .TNG_SUB_ID => 0
  | .TNG_CANCEL_CMD => 0
  | .TNG_CANCEL_RES => 0
  | .TNG_CQ_PTR => word 0x10000000
  | .TNG_CL_CNT => 0
  | .TNG_KRN => 0
  | .TNG_ENG_CTL => 0
  | .TNG_ENG_STAT => word 0x4
  | .TNG_ENG_CNT => 0
  | .MGT_FAB_CFG => 0
  | .MGT_FAB_STAT => word 0x6
  | .MGT_FAB_GEN => 0
  | .MGT_FAB_CTL => 0
  | .MGT_FAB_RES => 0
  | .MGT_FAB_CNT => 0
  | .MGT_FAB_MEMBER => 0
  | .MGT_FAB_FFT => 0
  | .MGT_IMG_STAT => 0
  | .MGT_IMG_SEQ => 0
  | .MGT_IMG_CMD => 0
  | .MGT_IMG_RES => 0
  | .KEY_STAT => 0
  | .KEY_CMD => 0
  | .KEY_RES => 0
  | .KEY_ROOT => word 4
  | .KEY_TRNG_STAT => 0
  | .KEY_TRNG_CMD => 0
  | .KEY_TRNG_RES => 0
  | .KEY_TRNG_OUT => 0
  | .MGT_SESS => 0
  | .MGT_OWN_STAT => 0
  | .MGT_OWN_CLAIM => 0
  | .MGT_SESS_CFG => word 0x1e
  | .MGT_EVT_STAT => 0
  | .MGT_EVT_ACK => 0
  | .PWR_MODE => word 0x1
  | .PWR_CTL => 0
  | .PWR_RESET_STAT => 0
  | .PWR_BANK_CFG => word 0x3e8
  | .PWR_BANK_PORT => 0
  | .PWR_BANK_PSTAT => 0
  | .PWR_BANK_PDENY => 0
  | .PWR_BANK_UNIT => 0
  | .PWR_BANK_USTAT => 0
  | .PWR_PERST => 0
  | .FLT_CFG => 0
  | .FLT_STAT => word 0x8
  | .FLT_REC0 => 0
  | .FLT_REC1 => 0
  | .FLT_REC2 => 0
  | .FLT_REC3 => 0
  | .FLT_ACTIVE => 0
  | .FLT_INJ_CTL => 0
  | .FLT_INJ_RES => 0
  | .FLT_REPAIR_RES => 0
  | .FLT_REPAIR_CMD => 0
  | .FLT_POOL => word (match i with | 0 => 64 | 1 => 1024 | 3 => 8 | 4 => 2 | _ => 0)
  | .FLT_WEAR_CFG => 0
  | .FLT_WEAR_CNT => 0
  | .FLT_REG_STAT => 0
  | .TIM_CFG => word 0x640bb803e81000
  | .TIM_NOW_LO => 0
  | .TIM_NOW_HI => 0
  | .TIM_SET_LO => 0
  | .TIM_SET_HI => 0
  | .TIM_CMD => 0
  | .TIM_FREQ => 0
  | .TIM_STAT => word 0x7fff00
  | .TIM_OFFSET => 0
  | .TIM_ASYM => 0
  | .PWR_THERM_STAT => 0
  | .PWR_TEL_CFG => word 0x4b
  | .PWR_TEL_MAN => 0
  | .PWR_TEL_MRES => word 0x1000
  | .PWR_TEL_SMP => word 0x1000
  | .PWR_TEL_CH => 0
  | .CNT_CTL => 0
  | .CNT_SNAP_RES => 0
  | .CNT_BW_CFG => word 0x3e8
  | .CNT_SEL => 0
  | .CNT_VAL => 0
  | .CNT_SNAP => 0
  | .CNT_BW0 => 0
  | .CNT_BW1 => 0
  | .CNT_BW2 => 0
  | .CNT_BW3 => 0
  | .CNT_TRC_CFG => word 0x2
  | .CNT_TRC_RING => 0
  | .CNT_TRC_RING_SZ => word 0xc
  | .CNT_TRC_CTL => 0
  | .CNT_TRC_STAT => 0
  | .CNT_TRC_DROP => 0
  | .SLT_PROF => 0
  | .SLT_GCFG => word 0xa303e8
  | .SLT_CFG => word 0x1f400000
  | .SLT_CTL => 0
  | .SLT_STAT => word 0x40
  | .SLT_MEAS0 => 0
  | .SLT_MEAS1 => 0
  | .SLT_MEAS2 => 0
  | .SLT_MEAS3 => 0
  | .TNG_SUB_DESC => 0
  | .MGT_IMG_BUF => 0
  | .KEY_ROOT_HASH => 0
  | .KEY_ID_PUB => 0
  | .MGT_EVT_REC => 0
  | .TNG_JQ => 0
  | .TNG_CQ => 0

/-- How many of each register there are. -/
def RegKind.count : RegKind → Nat
  | .MGT_CHIP_INFO => 1
  | .MGT_HBM_PART => 1
  | .MGT_HBM_DBG_BASE => 1
  | .MGT_DRS_ERR => 1
  | .PRT_CFG => 64
  | .PRT_LINK_CTL => 64
  | .PRT_LINK_STATUS => 128
  | .PRT_LANE_MAP => 64
  | .PRT_SPARE_CTL => 64
  | .PRT_LINK_ERR => 128
  | .PRT_LANE_STAT => 576
  | .PRT_PRBS_CTL => 64
  | .PRT_PRBS_BITS => 64
  | .PRT_PRBS_RES => 576
  | .PRT_CXL_CFG => 64
  | .PRT_CXL_STATUS => 128
  | .VPPB_ENTRY => 1024
  | .VCS_ENTRY => 64
  | .SFL_PHY_CFG => 64
  | .SFL_PHY_CTL => 64
  | .SFL_TRAIN_STATUS => 64
  | .SFL_PEER => 64
  | .SFL_LANE_STAT => 576
  | .SFL_LINK_CTL => 64
  | .SFL_LINK_STAT => 64
  | .SFL_LINK_CNT => 64
  | .SFL_LINK_CNT2 => 64
  | .SFL_VC_CFG => 512
  | .SFL_VC_STAT => 512
  | .SFL_ENC_CTL => 64
  | .SFL_ENC_STATUS => 64
  | .SFL_KEY_DATA => 256
  | .SFL_KEY_CMD => 64
  | .ROUTE_ENTRY => 34304
  | .ANV_CR_CFG => 64
  | .ANV_CR_STAT => 64
  | .ANV_RTR_STAT => 64
  | .ANV_RTR_ERR => 64
  | .ANV_PRB_CTL => 64
  | .ANV_PRB_MATCH => 64
  | .ANV_PRB_MASK => 64
  | .ANV_PRB_RES => 64
  | .ANV_PRB_RES2 => 64
  | .ANV_ARB_CFG => 4
  | .ANV_QUENCH_CMD => 4
  | .ANV_QUENCH_STAT => 4
  | .ANV_SLAG_CNT0 => 4
  | .ANV_SLAG_CNT1 => 4
  | .ANV_SLAG_CNT2 => 4
  | .ANV_MIR_CFG => 16
  | .ANV_MIR_RING => 16
  | .ANV_MIR_RING_SZ => 16
  | .ANV_MIR_STAT => 16
  | .TMP_CFG => 4
  | .TMP_PROFILE3 => 4
  | .TMP_BIND_CMD => 4
  | .TMP_BIND_STAT => 4
  | .TMP_STAT => 4
  | .TMP_SHP_RATE => 1024
  | .TMP_SHP_SIZE => 1024
  | .TMP_CTX_00 => 65537
  | .TMP_CTX_08 => 65537
  | .TMP_CTX_10 => 65537
  | .TMP_CTX_18 => 65537
  | .TMP_CTX_20 => 65537
  | .TMP_CTX_28 => 65537
  | .TMP_CTX_30 => 65537
  | .TMP_CTX_38 => 65537
  | .TMP_CTX_40 => 65537
  | .TMP_CTX_48 => 65537
  | .TMP_CTX_50 => 65537
  | .TMP_CTX_58 => 65537
  | .TMP_CTX_60 => 65537
  | .TMP_CTX_68 => 65537
  | .L1_W0 => 65536
  | .L1_W1 => 65536
  | .WIN_W0 => 4096
  | .WIN_W1 => 4096
  | .WIN_W2 => 4096
  | .WIN_W3 => 4096
  | .ACU_CFG => 4
  | .ACU_ERR_ADDR => 4
  | .ACU_ERR_INFO => 4
  | .ACU_CNT => 4
  | .ACU_DUP_STAT => 4
  | .RMP_CMD => 1
  | .RMP_CMD_DATA => 1
  | .RMP_RES => 1
  | .RMP_RES_DATA => 1
  | .RMP_STAT => 1
  | .RMP_POOL => 64
  | .HRT_SLICE_STAT => 16
  | .HRT_CNT0 => 16
  | .HRT_CNT1 => 16
  | .HRT_CNT2 => 16
  | .HRT_CNT3 => 16
  | .HRT_POISON_LOG => 16
  | .HRT_CFG => 1
  | .HRT_ADMIT => 1
  | .HRT_CMD => 1
  | .HRT_RES => 1
  | .HRT_RES_DATA => 1
  | .HRT_HOME => 256
  | .HRT_AGENT => 2048
  | .RMP_HOT_CFG => 1
  | .RMP_HOT_STAT => 1
  | .RMP_HOT_CNT => 1
  | .RMP_MIG_CFG => 1
  | .RMP_MIG_STAT => 1
  | .RMP_MIG_SLOT0 => 32
  | .RMP_MIG_SLOT1 => 32
  | .TNG_CL_CFG => 16
  | .TNG_CL_STAT => 16
  | .TNG_SUB_CMD => 16
  | .TNG_SUB_RES => 16
  | .TNG_SUB_ID => 16
  | .TNG_CANCEL_CMD => 16
  | .TNG_CANCEL_RES => 16
  | .TNG_CQ_PTR => 16
  | .TNG_CL_CNT => 16
  | .TNG_KRN => 3072
  | .TNG_ENG_CTL => 128
  | .TNG_ENG_STAT => 128
  | .TNG_ENG_CNT => 128
  | .MGT_FAB_CFG => 1
  | .MGT_FAB_STAT => 1
  | .MGT_FAB_GEN => 1
  | .MGT_FAB_CTL => 1
  | .MGT_FAB_RES => 1
  | .MGT_FAB_CNT => 1
  | .MGT_FAB_MEMBER => 256
  | .MGT_FAB_FFT => 256
  | .MGT_IMG_STAT => 1
  | .MGT_IMG_SEQ => 1
  | .MGT_IMG_CMD => 1
  | .MGT_IMG_RES => 1
  | .KEY_STAT => 1
  | .KEY_CMD => 1
  | .KEY_RES => 1
  | .KEY_ROOT => 4
  | .KEY_TRNG_STAT => 1
  | .KEY_TRNG_CMD => 1
  | .KEY_TRNG_RES => 1
  | .KEY_TRNG_OUT => 1
  | .MGT_SESS => 8
  | .MGT_OWN_STAT => 1
  | .MGT_OWN_CLAIM => 1
  | .MGT_SESS_CFG => 1
  | .MGT_EVT_STAT => 1
  | .MGT_EVT_ACK => 1
  | .PWR_MODE => 1
  | .PWR_CTL => 1
  | .PWR_RESET_STAT => 1
  | .PWR_BANK_CFG => 1
  | .PWR_BANK_PORT => 2
  | .PWR_BANK_PSTAT => 2
  | .PWR_BANK_PDENY => 2
  | .PWR_BANK_UNIT => 1
  | .PWR_BANK_USTAT => 1
  | .PWR_PERST => 1
  | .FLT_CFG => 5
  | .FLT_STAT => 1
  | .FLT_REC0 => 5
  | .FLT_REC1 => 5
  | .FLT_REC2 => 5
  | .FLT_REC3 => 5
  | .FLT_ACTIVE => 8
  | .FLT_INJ_CTL => 1
  | .FLT_INJ_RES => 1
  | .FLT_REPAIR_RES => 1
  | .FLT_REPAIR_CMD => 1
  | .FLT_POOL => 6
  | .FLT_WEAR_CFG => 1
  | .FLT_WEAR_CNT => 1
  | .FLT_REG_STAT => 4
  | .TIM_CFG => 1
  | .TIM_NOW_LO => 1
  | .TIM_NOW_HI => 1
  | .TIM_SET_LO => 1
  | .TIM_SET_HI => 1
  | .TIM_CMD => 1
  | .TIM_FREQ => 1
  | .TIM_STAT => 1
  | .TIM_OFFSET => 1
  | .TIM_ASYM => 128
  | .PWR_THERM_STAT => 1
  | .PWR_TEL_CFG => 1
  | .PWR_TEL_MAN => 1
  | .PWR_TEL_MRES => 1
  | .PWR_TEL_SMP => 96
  | .PWR_TEL_CH => 96
  | .CNT_CTL => 5
  | .CNT_SNAP_RES => 5
  | .CNT_BW_CFG => 1
  | .CNT_SEL => 400
  | .CNT_VAL => 400
  | .CNT_SNAP => 400
  | .CNT_BW0 => 128
  | .CNT_BW1 => 128
  | .CNT_BW2 => 128
  | .CNT_BW3 => 128
  | .CNT_TRC_CFG => 1
  | .CNT_TRC_RING => 1
  | .CNT_TRC_RING_SZ => 1
  | .CNT_TRC_CTL => 1
  | .CNT_TRC_STAT => 1
  | .CNT_TRC_DROP => 1
  | .SLT_PROF => 4
  | .SLT_GCFG => 1
  | .SLT_CFG => 64
  | .SLT_CTL => 64
  | .SLT_STAT => 64
  | .SLT_MEAS0 => 64
  | .SLT_MEAS1 => 64
  | .SLT_MEAS2 => 64
  | .SLT_MEAS3 => 64
  | .TNG_SUB_DESC => 128
  | .MGT_IMG_BUF => 512
  | .KEY_ROOT_HASH => 24
  | .KEY_ID_PUB => 12
  | .MGT_EVT_REC => 4096
  | .TNG_JQ => 524288
  | .TNG_CQ => 262144

/-- The kinds of unit whose registers repeat in the DRS (R29 to R32). -/
inductive UnitClass where
  | chip | collector | counter | block | router | region | slice | hearth | cluster | engine | table
  deriving DecidableEq, Repr

/-- Where a register stands in its unit: the unit's kind, the offset, and up to two strides with their counts. -/
structure Place where
  cls : UnitClass
  off : Nat
  stride1 : Nat
  n1 : Nat
  stride2 : Nat
  n2 : Nat
  deriving DecidableEq, Repr

/-- The offsets of the register maps. -/
def RegKind.place : RegKind → Place
  | .MGT_CHIP_INFO => ⟨.chip, 0x0, 0x8, 1, 0x8, 1⟩
  | .MGT_HBM_PART => ⟨.chip, 0x10, 0x8, 1, 0x8, 1⟩
  | .MGT_HBM_DBG_BASE => ⟨.chip, 0x18, 0x8, 1, 0x8, 1⟩
  | .MGT_DRS_ERR => ⟨.chip, 0x20, 0x8, 1, 0x8, 1⟩
  | .PRT_CFG => ⟨.block, 0x0, 0x8, 1, 0x8, 1⟩
  | .PRT_LINK_CTL => ⟨.block, 0x8, 0x8, 1, 0x8, 1⟩
  | .PRT_LINK_STATUS => ⟨.block, 0x10, 0x8, 2, 0x8, 1⟩
  | .PRT_LANE_MAP => ⟨.block, 0x20, 0x8, 1, 0x8, 1⟩
  | .PRT_SPARE_CTL => ⟨.block, 0x28, 0x8, 1, 0x8, 1⟩
  | .PRT_LINK_ERR => ⟨.block, 0x40, 0x8, 2, 0x8, 1⟩
  | .PRT_LANE_STAT => ⟨.block, 0x100, 0x8, 9, 0x8, 1⟩
  | .PRT_PRBS_CTL => ⟨.block, 0x200, 0x8, 1, 0x8, 1⟩
  | .PRT_PRBS_BITS => ⟨.block, 0x208, 0x8, 1, 0x8, 1⟩
  | .PRT_PRBS_RES => ⟨.block, 0x210, 0x8, 9, 0x8, 1⟩
  | .PRT_CXL_CFG => ⟨.block, 0x300, 0x8, 1, 0x8, 1⟩
  | .PRT_CXL_STATUS => ⟨.block, 0x310, 0x8, 2, 0x8, 1⟩
  | .VPPB_ENTRY => ⟨.table, 0x4000000, 0x8, 1024, 0x8, 1⟩
  | .VCS_ENTRY => ⟨.table, 0x4002000, 0x8, 64, 0x8, 1⟩
  | .SFL_PHY_CFG => ⟨.block, 0x40000, 0x8, 1, 0x8, 1⟩
  | .SFL_PHY_CTL => ⟨.block, 0x40008, 0x8, 1, 0x8, 1⟩
  | .SFL_TRAIN_STATUS => ⟨.block, 0x40010, 0x8, 1, 0x8, 1⟩
  | .SFL_PEER => ⟨.block, 0x40018, 0x8, 1, 0x8, 1⟩
  | .SFL_LANE_STAT => ⟨.block, 0x40100, 0x8, 9, 0x8, 1⟩
  | .SFL_LINK_CTL => ⟨.block, 0x41000, 0x8, 1, 0x8, 1⟩
  | .SFL_LINK_STAT => ⟨.block, 0x41008, 0x8, 1, 0x8, 1⟩
  | .SFL_LINK_CNT => ⟨.block, 0x41010, 0x8, 1, 0x8, 1⟩
  | .SFL_LINK_CNT2 => ⟨.block, 0x41018, 0x8, 1, 0x8, 1⟩
  | .SFL_VC_CFG => ⟨.block, 0x41100, 0x8, 8, 0x8, 1⟩
  | .SFL_VC_STAT => ⟨.block, 0x41200, 0x8, 8, 0x8, 1⟩
  | .SFL_ENC_CTL => ⟨.block, 0x41300, 0x8, 1, 0x8, 1⟩
  | .SFL_ENC_STATUS => ⟨.block, 0x41308, 0x8, 1, 0x8, 1⟩
  | .SFL_KEY_DATA => ⟨.block, 0x41310, 0x8, 4, 0x8, 1⟩
  | .SFL_KEY_CMD => ⟨.block, 0x41330, 0x8, 1, 0x8, 1⟩
  | .ROUTE_ENTRY => ⟨.table, 0x0, 0x8, 34304, 0x8, 1⟩
  | .ANV_CR_CFG => ⟨.router, 0x0, 0x8, 1, 0x8, 1⟩
  | .ANV_CR_STAT => ⟨.router, 0x8, 0x8, 1, 0x8, 1⟩
  | .ANV_RTR_STAT => ⟨.router, 0x10, 0x8, 1, 0x8, 1⟩
  | .ANV_RTR_ERR => ⟨.router, 0x18, 0x8, 1, 0x8, 1⟩
  | .ANV_PRB_CTL => ⟨.router, 0x100, 0x8, 1, 0x8, 1⟩
  | .ANV_PRB_MATCH => ⟨.router, 0x108, 0x8, 1, 0x8, 1⟩
  | .ANV_PRB_MASK => ⟨.router, 0x110, 0x8, 1, 0x8, 1⟩
  | .ANV_PRB_RES => ⟨.router, 0x118, 0x8, 1, 0x8, 1⟩
  | .ANV_PRB_RES2 => ⟨.router, 0x120, 0x8, 1, 0x8, 1⟩
  | .ANV_ARB_CFG => ⟨.region, 0x810000, 0x8, 1, 0x8, 1⟩
  | .ANV_QUENCH_CMD => ⟨.region, 0x810008, 0x8, 1, 0x8, 1⟩
  | .ANV_QUENCH_STAT => ⟨.region, 0x810010, 0x8, 1, 0x8, 1⟩
  | .ANV_SLAG_CNT0 => ⟨.region, 0x810020, 0x8, 1, 0x8, 1⟩
  | .ANV_SLAG_CNT1 => ⟨.region, 0x810028, 0x8, 1, 0x8, 1⟩
  | .ANV_SLAG_CNT2 => ⟨.region, 0x810030, 0x8, 1, 0x8, 1⟩
  | .ANV_MIR_CFG => ⟨.region, 0x810100, 0x40, 4, 0x8, 1⟩
  | .ANV_MIR_RING => ⟨.region, 0x810108, 0x40, 4, 0x8, 1⟩
  | .ANV_MIR_RING_SZ => ⟨.region, 0x810110, 0x40, 4, 0x8, 1⟩
  | .ANV_MIR_STAT => ⟨.region, 0x810118, 0x40, 4, 0x8, 1⟩
  | .TMP_CFG => ⟨.region, 0x900000, 0x8, 1, 0x8, 1⟩
  | .TMP_PROFILE3 => ⟨.region, 0x900010, 0x8, 1, 0x8, 1⟩
  | .TMP_BIND_CMD => ⟨.region, 0x900020, 0x8, 1, 0x8, 1⟩
  | .TMP_BIND_STAT => ⟨.region, 0x900028, 0x8, 1, 0x8, 1⟩
  | .TMP_STAT => ⟨.region, 0x900030, 0x8, 1, 0x8, 1⟩
  | .TMP_SHP_RATE => ⟨.region, 0x901000, 0x100, 32, 0x10, 8⟩
  | .TMP_SHP_SIZE => ⟨.region, 0x901008, 0x100, 32, 0x10, 8⟩
  | .TMP_CTX_00 => ⟨.table, 0x3000000, 0x80, 65537, 0x8, 1⟩
  | .TMP_CTX_08 => ⟨.table, 0x3000008, 0x80, 65537, 0x8, 1⟩
  | .TMP_CTX_10 => ⟨.table, 0x3000010, 0x80, 65537, 0x8, 1⟩
  | .TMP_CTX_18 => ⟨.table, 0x3000018, 0x80, 65537, 0x8, 1⟩
  | .TMP_CTX_20 => ⟨.table, 0x3000020, 0x80, 65537, 0x8, 1⟩
  | .TMP_CTX_28 => ⟨.table, 0x3000028, 0x80, 65537, 0x8, 1⟩
  | .TMP_CTX_30 => ⟨.table, 0x3000030, 0x80, 65537, 0x8, 1⟩
  | .TMP_CTX_38 => ⟨.table, 0x3000038, 0x80, 65537, 0x8, 1⟩
  | .TMP_CTX_40 => ⟨.table, 0x3000040, 0x80, 65537, 0x8, 1⟩
  | .TMP_CTX_48 => ⟨.table, 0x3000048, 0x80, 65537, 0x8, 1⟩
  | .TMP_CTX_50 => ⟨.table, 0x3000050, 0x80, 65537, 0x8, 1⟩
  | .TMP_CTX_58 => ⟨.table, 0x3000058, 0x80, 65537, 0x8, 1⟩
  | .TMP_CTX_60 => ⟨.table, 0x3000060, 0x80, 65537, 0x8, 1⟩
  | .TMP_CTX_68 => ⟨.table, 0x3000068, 0x80, 65537, 0x8, 1⟩
  | .L1_W0 => ⟨.table, 0x2000000, 0x10, 65536, 0x8, 1⟩
  | .L1_W1 => ⟨.table, 0x2000008, 0x10, 65536, 0x8, 1⟩
  | .WIN_W0 => ⟨.table, 0x1000000, 0x20, 4096, 0x8, 1⟩
  | .WIN_W1 => ⟨.table, 0x1000008, 0x20, 4096, 0x8, 1⟩
  | .WIN_W2 => ⟨.table, 0x1000010, 0x20, 4096, 0x8, 1⟩
  | .WIN_W3 => ⟨.table, 0x1000018, 0x20, 4096, 0x8, 1⟩
  | .ACU_CFG => ⟨.region, 0xa00000, 0x8, 1, 0x8, 1⟩
  | .ACU_ERR_ADDR => ⟨.region, 0xa00010, 0x8, 1, 0x8, 1⟩
  | .ACU_ERR_INFO => ⟨.region, 0xa00018, 0x8, 1, 0x8, 1⟩
  | .ACU_CNT => ⟨.region, 0xa00020, 0x8, 1, 0x8, 1⟩
  | .ACU_DUP_STAT => ⟨.region, 0xa00028, 0x8, 1, 0x8, 1⟩
  | .RMP_CMD => ⟨.chip, 0x700000, 0x8, 1, 0x8, 1⟩
  | .RMP_CMD_DATA => ⟨.chip, 0x700008, 0x8, 1, 0x8, 1⟩
  | .RMP_RES => ⟨.chip, 0x700010, 0x8, 1, 0x8, 1⟩
  | .RMP_RES_DATA => ⟨.chip, 0x700018, 0x8, 1, 0x8, 1⟩
  | .RMP_STAT => ⟨.chip, 0x700020, 0x8, 1, 0x8, 1⟩
  | .RMP_POOL => ⟨.chip, 0x700100, 0x8, 64, 0x8, 1⟩
  | .HRT_SLICE_STAT => ⟨.slice, 0x0, 0x8, 1, 0x8, 1⟩
  | .HRT_CNT0 => ⟨.slice, 0x10, 0x8, 1, 0x8, 1⟩
  | .HRT_CNT1 => ⟨.slice, 0x18, 0x8, 1, 0x8, 1⟩
  | .HRT_CNT2 => ⟨.slice, 0x20, 0x8, 1, 0x8, 1⟩
  | .HRT_CNT3 => ⟨.slice, 0x28, 0x8, 1, 0x8, 1⟩
  | .HRT_POISON_LOG => ⟨.slice, 0x30, 0x8, 1, 0x8, 1⟩
  | .HRT_CFG => ⟨.hearth, 0x80000, 0x8, 1, 0x8, 1⟩
  | .HRT_ADMIT => ⟨.hearth, 0x80008, 0x8, 1, 0x8, 1⟩
  | .HRT_CMD => ⟨.hearth, 0x80010, 0x8, 1, 0x8, 1⟩
  | .HRT_RES => ⟨.hearth, 0x80018, 0x8, 1, 0x8, 1⟩
  | .HRT_RES_DATA => ⟨.hearth, 0x80020, 0x8, 1, 0x8, 1⟩
  | .HRT_HOME => ⟨.hearth, 0x81000, 0x8, 256, 0x8, 1⟩
  | .HRT_AGENT => ⟨.hearth, 0x84000, 0x8, 2048, 0x8, 1⟩
  | .RMP_HOT_CFG => ⟨.chip, 0x700400, 0x8, 1, 0x8, 1⟩
  | .RMP_HOT_STAT => ⟨.chip, 0x700408, 0x8, 1, 0x8, 1⟩
  | .RMP_HOT_CNT => ⟨.chip, 0x700410, 0x8, 1, 0x8, 1⟩
  | .RMP_MIG_CFG => ⟨.chip, 0x700500, 0x8, 1, 0x8, 1⟩
  | .RMP_MIG_STAT => ⟨.chip, 0x700508, 0x8, 1, 0x8, 1⟩
  | .RMP_MIG_SLOT0 => ⟨.chip, 0x700600, 0x10, 32, 0x8, 1⟩
  | .RMP_MIG_SLOT1 => ⟨.chip, 0x700608, 0x10, 32, 0x8, 1⟩
  | .TNG_CL_CFG => ⟨.cluster, 0x0, 0x8, 1, 0x8, 1⟩
  | .TNG_CL_STAT => ⟨.cluster, 0x8, 0x8, 1, 0x8, 1⟩
  | .TNG_SUB_CMD => ⟨.cluster, 0x140, 0x8, 1, 0x8, 1⟩
  | .TNG_SUB_RES => ⟨.cluster, 0x148, 0x8, 1, 0x8, 1⟩
  | .TNG_SUB_ID => ⟨.cluster, 0x150, 0x8, 1, 0x8, 1⟩
  | .TNG_CANCEL_CMD => ⟨.cluster, 0x160, 0x8, 1, 0x8, 1⟩
  | .TNG_CANCEL_RES => ⟨.cluster, 0x168, 0x8, 1, 0x8, 1⟩
  | .TNG_CQ_PTR => ⟨.cluster, 0x200, 0x8, 1, 0x8, 1⟩
  | .TNG_CL_CNT => ⟨.cluster, 0x210, 0x8, 1, 0x8, 1⟩
  | .TNG_KRN => ⟨.cluster, 0x400, 0x8, 192, 0x8, 1⟩
  | .TNG_ENG_CTL => ⟨.engine, 0x0, 0x8, 1, 0x8, 1⟩
  | .TNG_ENG_STAT => ⟨.engine, 0x8, 0x8, 1, 0x8, 1⟩
  | .TNG_ENG_CNT => ⟨.engine, 0x10, 0x8, 1, 0x8, 1⟩
  | .MGT_FAB_CFG => ⟨.chip, 0x2000, 0x8, 1, 0x8, 1⟩
  | .MGT_FAB_STAT => ⟨.chip, 0x2008, 0x8, 1, 0x8, 1⟩
  | .MGT_FAB_GEN => ⟨.chip, 0x2010, 0x8, 1, 0x8, 1⟩
  | .MGT_FAB_CTL => ⟨.chip, 0x2018, 0x8, 1, 0x8, 1⟩
  | .MGT_FAB_RES => ⟨.chip, 0x2020, 0x8, 1, 0x8, 1⟩
  | .MGT_FAB_CNT => ⟨.chip, 0x2028, 0x8, 1, 0x8, 1⟩
  | .MGT_FAB_MEMBER => ⟨.chip, 0x3000, 0x8, 256, 0x8, 1⟩
  | .MGT_FAB_FFT => ⟨.chip, 0x4000, 0x8, 256, 0x8, 1⟩
  | .MGT_IMG_STAT => ⟨.chip, 0x1000, 0x8, 1, 0x8, 1⟩
  | .MGT_IMG_SEQ => ⟨.chip, 0x1018, 0x8, 1, 0x8, 1⟩
  | .MGT_IMG_CMD => ⟨.chip, 0x1008, 0x8, 1, 0x8, 1⟩
  | .MGT_IMG_RES => ⟨.chip, 0x1010, 0x8, 1, 0x8, 1⟩
  | .KEY_STAT => ⟨.chip, 0x400000, 0x8, 1, 0x8, 1⟩
  | .KEY_CMD => ⟨.chip, 0x400008, 0x8, 1, 0x8, 1⟩
  | .KEY_RES => ⟨.chip, 0x400010, 0x8, 1, 0x8, 1⟩
  | .KEY_ROOT => ⟨.chip, 0x400020, 0x8, 4, 0x8, 1⟩
  | .KEY_TRNG_STAT => ⟨.chip, 0x400400, 0x8, 1, 0x8, 1⟩
  | .KEY_TRNG_CMD => ⟨.chip, 0x400408, 0x8, 1, 0x8, 1⟩
  | .KEY_TRNG_RES => ⟨.chip, 0x400410, 0x8, 1, 0x8, 1⟩
  | .KEY_TRNG_OUT => ⟨.chip, 0x400418, 0x8, 1, 0x8, 1⟩
  | .MGT_SESS => ⟨.chip, 0x400, 0x8, 8, 0x8, 1⟩
  | .MGT_OWN_STAT => ⟨.chip, 0x440, 0x8, 1, 0x8, 1⟩
  | .MGT_OWN_CLAIM => ⟨.chip, 0x448, 0x8, 1, 0x8, 1⟩
  | .MGT_SESS_CFG => ⟨.chip, 0x450, 0x8, 1, 0x8, 1⟩
  | .MGT_EVT_STAT => ⟨.chip, 0x500, 0x8, 1, 0x8, 1⟩
  | .MGT_EVT_ACK => ⟨.chip, 0x508, 0x8, 1, 0x8, 1⟩
  | .PWR_MODE => ⟨.chip, 0x500000, 0x8, 1, 0x8, 1⟩
  | .PWR_CTL => ⟨.chip, 0x500008, 0x8, 1, 0x8, 1⟩
  | .PWR_RESET_STAT => ⟨.chip, 0x500010, 0x8, 1, 0x8, 1⟩
  | .PWR_BANK_CFG => ⟨.chip, 0x500018, 0x8, 1, 0x8, 1⟩
  | .PWR_BANK_PORT => ⟨.chip, 0x500100, 0x8, 2, 0x8, 1⟩
  | .PWR_BANK_PSTAT => ⟨.chip, 0x500110, 0x8, 2, 0x8, 1⟩
  | .PWR_BANK_PDENY => ⟨.chip, 0x500120, 0x8, 2, 0x8, 1⟩
  | .PWR_BANK_UNIT => ⟨.chip, 0x500130, 0x8, 1, 0x8, 1⟩
  | .PWR_BANK_USTAT => ⟨.chip, 0x500138, 0x8, 1, 0x8, 1⟩
  | .PWR_PERST => ⟨.chip, 0x500140, 0x8, 1, 0x8, 1⟩
  | .FLT_CFG => ⟨.collector, 0x0, 0x8, 1, 0x8, 1⟩
  | .FLT_STAT => ⟨.chip, 0x100008, 0x8, 1, 0x8, 1⟩
  | .FLT_REC0 => ⟨.collector, 0x10, 0x8, 1, 0x8, 1⟩
  | .FLT_REC1 => ⟨.collector, 0x18, 0x8, 1, 0x8, 1⟩
  | .FLT_REC2 => ⟨.collector, 0x20, 0x8, 1, 0x8, 1⟩
  | .FLT_REC3 => ⟨.collector, 0x28, 0x8, 1, 0x8, 1⟩
  | .FLT_ACTIVE => ⟨.chip, 0x100040, 0x8, 8, 0x8, 1⟩
  | .FLT_INJ_CTL => ⟨.chip, 0x100100, 0x8, 1, 0x8, 1⟩
  | .FLT_INJ_RES => ⟨.chip, 0x100108, 0x8, 1, 0x8, 1⟩
  | .FLT_REPAIR_RES => ⟨.chip, 0x100118, 0x8, 1, 0x8, 1⟩
  | .FLT_REPAIR_CMD => ⟨.chip, 0x100110, 0x8, 1, 0x8, 1⟩
  | .FLT_POOL => ⟨.chip, 0x100200, 0x8, 6, 0x8, 1⟩
  | .FLT_WEAR_CFG => ⟨.chip, 0x100300, 0x8, 1, 0x8, 1⟩
  | .FLT_WEAR_CNT => ⟨.chip, 0x100308, 0x8, 1, 0x8, 1⟩
  | .FLT_REG_STAT => ⟨.region, 0xb00008, 0x8, 1, 0x8, 1⟩
  | .TIM_CFG => ⟨.chip, 0x200000, 0x8, 1, 0x8, 1⟩
  | .TIM_NOW_LO => ⟨.chip, 0x200008, 0x8, 1, 0x8, 1⟩
  | .TIM_NOW_HI => ⟨.chip, 0x200010, 0x8, 1, 0x8, 1⟩
  | .TIM_SET_LO => ⟨.chip, 0x200018, 0x8, 1, 0x8, 1⟩
  | .TIM_SET_HI => ⟨.chip, 0x200020, 0x8, 1, 0x8, 1⟩
  | .TIM_CMD => ⟨.chip, 0x200028, 0x8, 1, 0x8, 1⟩
  | .TIM_FREQ => ⟨.chip, 0x200030, 0x8, 1, 0x8, 1⟩
  | .TIM_STAT => ⟨.chip, 0x200038, 0x8, 1, 0x8, 1⟩
  | .TIM_OFFSET => ⟨.chip, 0x200040, 0x8, 1, 0x8, 1⟩
  | .TIM_ASYM => ⟨.chip, 0x200100, 0x8, 128, 0x8, 1⟩
  | .PWR_THERM_STAT => ⟨.chip, 0x501000, 0x8, 1, 0x8, 1⟩
  | .PWR_TEL_CFG => ⟨.chip, 0x501008, 0x8, 1, 0x8, 1⟩
  | .PWR_TEL_MAN => ⟨.chip, 0x501010, 0x8, 1, 0x8, 1⟩
  | .PWR_TEL_MRES => ⟨.chip, 0x501018, 0x8, 1, 0x8, 1⟩
  | .PWR_TEL_SMP => ⟨.chip, 0x501400, 0x8, 96, 0x8, 1⟩
  | .PWR_TEL_CH => ⟨.chip, 0x501100, 0x8, 96, 0x8, 1⟩
  | .CNT_CTL => ⟨.counter, 0x0, 0x8, 1, 0x8, 1⟩
  | .CNT_SNAP_RES => ⟨.counter, 0x8, 0x8, 1, 0x8, 1⟩
  | .CNT_BW_CFG => ⟨.chip, 0x300010, 0x8, 1, 0x8, 1⟩
  | .CNT_SEL => ⟨.counter, 0x100, 0x8, 80, 0x8, 1⟩
  | .CNT_VAL => ⟨.counter, 0x400, 0x8, 80, 0x8, 1⟩
  | .CNT_SNAP => ⟨.counter, 0x800, 0x8, 80, 0x8, 1⟩
  | .CNT_BW0 => ⟨.chip, 0x301000, 0x20, 128, 0x8, 1⟩
  | .CNT_BW1 => ⟨.chip, 0x301008, 0x20, 128, 0x8, 1⟩
  | .CNT_BW2 => ⟨.chip, 0x301010, 0x20, 128, 0x8, 1⟩
  | .CNT_BW3 => ⟨.chip, 0x301018, 0x20, 128, 0x8, 1⟩
  | .CNT_TRC_CFG => ⟨.chip, 0x302000, 0x8, 1, 0x8, 1⟩
  | .CNT_TRC_RING => ⟨.chip, 0x302008, 0x8, 1, 0x8, 1⟩
  | .CNT_TRC_RING_SZ => ⟨.chip, 0x302010, 0x8, 1, 0x8, 1⟩
  | .CNT_TRC_CTL => ⟨.chip, 0x302018, 0x8, 1, 0x8, 1⟩
  | .CNT_TRC_STAT => ⟨.chip, 0x302020, 0x8, 1, 0x8, 1⟩
  | .CNT_TRC_DROP => ⟨.chip, 0x302028, 0x8, 1, 0x8, 1⟩
  | .SLT_PROF => ⟨.chip, 0x600000, 0x8, 4, 0x8, 1⟩
  | .SLT_GCFG => ⟨.chip, 0x600040, 0x8, 1, 0x8, 1⟩
  | .SLT_CFG => ⟨.chip, 0x600100, 0x8, 64, 0x8, 1⟩
  | .SLT_CTL => ⟨.chip, 0x600500, 0x8, 64, 0x8, 1⟩
  | .SLT_STAT => ⟨.chip, 0x600900, 0x8, 64, 0x8, 1⟩
  | .SLT_MEAS0 => ⟨.chip, 0x600d00, 0x20, 64, 0x8, 1⟩
  | .SLT_MEAS1 => ⟨.chip, 0x600d08, 0x20, 64, 0x8, 1⟩
  | .SLT_MEAS2 => ⟨.chip, 0x600d10, 0x20, 64, 0x8, 1⟩
  | .SLT_MEAS3 => ⟨.chip, 0x600d18, 0x20, 64, 0x8, 1⟩
  | .TNG_SUB_DESC => ⟨.cluster, 0x100, 0x8, 8, 0x8, 1⟩
  | .MGT_IMG_BUF => ⟨.chip, 0x6000, 0x8, 512, 0x8, 1⟩
  | .KEY_ROOT_HASH => ⟨.chip, 0x400100, 0x40, 4, 0x8, 6⟩
  | .KEY_ID_PUB => ⟨.chip, 0x400300, 0x8, 12, 0x8, 1⟩
  | .MGT_EVT_REC => ⟨.chip, 0x8000, 0x20, 1024, 0x8, 4⟩
  | .TNG_JQ => ⟨.cluster, 0x40000, 0x40, 4096, 0x8, 8⟩
  | .TNG_CQ => ⟨.cluster, 0x80000, 0x20, 4096, 0x8, 4⟩

/-- Registers 0 to 39 in the order of the chapters. -/
def RegKind.part0 : List RegKind :=
  [.MGT_CHIP_INFO, .MGT_HBM_PART, .MGT_HBM_DBG_BASE, .MGT_DRS_ERR, .PRT_CFG, .PRT_LINK_CTL, .PRT_LINK_STATUS, .PRT_LANE_MAP, .PRT_SPARE_CTL, .PRT_LINK_ERR, .PRT_LANE_STAT, .PRT_PRBS_CTL, .PRT_PRBS_BITS, .PRT_PRBS_RES, .PRT_CXL_CFG, .PRT_CXL_STATUS, .VPPB_ENTRY, .VCS_ENTRY, .SFL_PHY_CFG, .SFL_PHY_CTL, .SFL_TRAIN_STATUS, .SFL_PEER, .SFL_LANE_STAT, .SFL_LINK_CTL, .SFL_LINK_STAT, .SFL_LINK_CNT, .SFL_LINK_CNT2, .SFL_VC_CFG, .SFL_VC_STAT, .SFL_ENC_CTL, .SFL_ENC_STATUS, .SFL_KEY_DATA, .SFL_KEY_CMD, .ROUTE_ENTRY, .ANV_CR_CFG, .ANV_CR_STAT, .ANV_RTR_STAT, .ANV_RTR_ERR, .ANV_PRB_CTL, .ANV_PRB_MATCH]

/-- Registers 40 to 79 in the order of the chapters. -/
def RegKind.part1 : List RegKind :=
  [.ANV_PRB_MASK, .ANV_PRB_RES, .ANV_PRB_RES2, .ANV_ARB_CFG, .ANV_QUENCH_CMD, .ANV_QUENCH_STAT, .ANV_SLAG_CNT0, .ANV_SLAG_CNT1, .ANV_SLAG_CNT2, .ANV_MIR_CFG, .ANV_MIR_RING, .ANV_MIR_RING_SZ, .ANV_MIR_STAT, .TMP_CFG, .TMP_PROFILE3, .TMP_BIND_CMD, .TMP_BIND_STAT, .TMP_STAT, .TMP_SHP_RATE, .TMP_SHP_SIZE, .TMP_CTX_00, .TMP_CTX_08, .TMP_CTX_10, .TMP_CTX_18, .TMP_CTX_20, .TMP_CTX_28, .TMP_CTX_30, .TMP_CTX_38, .TMP_CTX_40, .TMP_CTX_48, .TMP_CTX_50, .TMP_CTX_58, .TMP_CTX_60, .TMP_CTX_68, .L1_W0, .L1_W1, .WIN_W0, .WIN_W1, .WIN_W2, .WIN_W3]

/-- Registers 80 to 119 in the order of the chapters. -/
def RegKind.part2 : List RegKind :=
  [.ACU_CFG, .ACU_ERR_ADDR, .ACU_ERR_INFO, .ACU_CNT, .ACU_DUP_STAT, .RMP_CMD, .RMP_CMD_DATA, .RMP_RES, .RMP_RES_DATA, .RMP_STAT, .RMP_POOL, .HRT_SLICE_STAT, .HRT_CNT0, .HRT_CNT1, .HRT_CNT2, .HRT_CNT3, .HRT_POISON_LOG, .HRT_CFG, .HRT_ADMIT, .HRT_CMD, .HRT_RES, .HRT_RES_DATA, .HRT_HOME, .HRT_AGENT, .RMP_HOT_CFG, .RMP_HOT_STAT, .RMP_HOT_CNT, .RMP_MIG_CFG, .RMP_MIG_STAT, .RMP_MIG_SLOT0, .RMP_MIG_SLOT1, .TNG_CL_CFG, .TNG_CL_STAT, .TNG_SUB_CMD, .TNG_SUB_RES, .TNG_SUB_ID, .TNG_CANCEL_CMD, .TNG_CANCEL_RES, .TNG_CQ_PTR, .TNG_CL_CNT]

/-- Registers 120 to 159 in the order of the chapters. -/
def RegKind.part3 : List RegKind :=
  [.TNG_KRN, .TNG_ENG_CTL, .TNG_ENG_STAT, .TNG_ENG_CNT, .MGT_FAB_CFG, .MGT_FAB_STAT, .MGT_FAB_GEN, .MGT_FAB_CTL, .MGT_FAB_RES, .MGT_FAB_CNT, .MGT_FAB_MEMBER, .MGT_FAB_FFT, .MGT_IMG_STAT, .MGT_IMG_SEQ, .MGT_IMG_CMD, .MGT_IMG_RES, .KEY_STAT, .KEY_CMD, .KEY_RES, .KEY_ROOT, .KEY_TRNG_STAT, .KEY_TRNG_CMD, .KEY_TRNG_RES, .KEY_TRNG_OUT, .MGT_SESS, .MGT_OWN_STAT, .MGT_OWN_CLAIM, .MGT_SESS_CFG, .MGT_EVT_STAT, .MGT_EVT_ACK, .PWR_MODE, .PWR_CTL, .PWR_RESET_STAT, .PWR_BANK_CFG, .PWR_BANK_PORT, .PWR_BANK_PSTAT, .PWR_BANK_PDENY, .PWR_BANK_UNIT, .PWR_BANK_USTAT, .PWR_PERST]

/-- Registers 160 to 199 in the order of the chapters. -/
def RegKind.part4 : List RegKind :=
  [.FLT_CFG, .FLT_STAT, .FLT_REC0, .FLT_REC1, .FLT_REC2, .FLT_REC3, .FLT_ACTIVE, .FLT_INJ_CTL, .FLT_INJ_RES, .FLT_REPAIR_RES, .FLT_REPAIR_CMD, .FLT_POOL, .FLT_WEAR_CFG, .FLT_WEAR_CNT, .FLT_REG_STAT, .TIM_CFG, .TIM_NOW_LO, .TIM_NOW_HI, .TIM_SET_LO, .TIM_SET_HI, .TIM_CMD, .TIM_FREQ, .TIM_STAT, .TIM_OFFSET, .TIM_ASYM, .PWR_THERM_STAT, .PWR_TEL_CFG, .PWR_TEL_MAN, .PWR_TEL_MRES, .PWR_TEL_SMP, .PWR_TEL_CH, .CNT_CTL, .CNT_SNAP_RES, .CNT_BW_CFG, .CNT_SEL, .CNT_VAL, .CNT_SNAP, .CNT_BW0, .CNT_BW1, .CNT_BW2]

/-- Registers 200 to 222 in the order of the chapters. -/
def RegKind.part5 : List RegKind :=
  [.CNT_BW3, .CNT_TRC_CFG, .CNT_TRC_RING, .CNT_TRC_RING_SZ, .CNT_TRC_CTL, .CNT_TRC_STAT, .CNT_TRC_DROP, .SLT_PROF, .SLT_GCFG, .SLT_CFG, .SLT_CTL, .SLT_STAT, .SLT_MEAS0, .SLT_MEAS1, .SLT_MEAS2, .SLT_MEAS3, .TNG_SUB_DESC, .MGT_IMG_BUF, .KEY_ROOT_HASH, .KEY_ID_PUB, .MGT_EVT_REC, .TNG_JQ, .TNG_CQ]

/-- Every register, in the order of the chapters. -/
def RegKind.all : List RegKind :=
  List.flatten [RegKind.part0, RegKind.part1, RegKind.part2, RegKind.part3, RegKind.part4, RegKind.part5]

end Sys2Proof.Machine
end

