-- ==== Sys2Proof/Messages.lean ====
section
/-! DEFINITION. The plain data that commands carry and the block sends: packets, units, messages, descriptors, records, and the messages that
leave the device. -/

namespace Sys2Proof

/-- How a packet is answered where it cannot be served (the rows of the sink table, R163), and which packets carry data. -/
inductive PktKind where
  | memRd          -- a CXL.mem read of any MemRd type
  | memWr          -- a CXL.mem write
  | ioNonPosted    -- a CXL.io or PCIe non-posted request
  | ioPosted       -- a CXL.io or PCIe posted request
  | response       -- a response or completion without data (NDR, Cmp, BIRsp)
  | dataResponse   -- a response that carries data
  | biSnp          -- a BISnp to a host
  | tongsRd        -- a Tongs read
  | tongsWr        -- a Tongs write
  | mgmtRd         -- a management read
  | mgmtWr         -- a management write
  | weusk          -- a Weusk message
  | snpDead        -- the sink's answer to a BISnp (R163)
  | ctl            -- a CTL packet (R141)
  deriving DecidableEq, Repr, Inhabited

/-- A packet with its Anvil header (R142). `tc` is the Temper traffic class that orders its injection and names its egress
queue (R152, R180), `alt` the route entry it took (R147), or 7 for a sink's answer that loops back (R163), `half` and `srcHalf` the halves of the destination and the source
block (R39), `ld` the LD-ID of a message of an MLD's link (R72), `devload` the DevLoad that an S2M message carries (R87), and `void` says that a flit of it has been discarded (R20, R139). -/
structure Pkt where
  dst : Nat
  src : Nat
  stream : Nat
  cls : Nat
  order : Nat
  dateline : Bool
  len : Nat
  hopIdx : Nat
  route : Nat
  rlen : Nat
  opc : Nat
  kind : PktKind
  slag : Nat
  mirror : Bool
  poison : Bool
  trace : Bool
  age : Nat
  param : Nat
  tc : Nat
  alt : Nat
  half : Nat
  srcHalf : Nat
  ld : Nat
  devload : Nat
  void : Bool
  body : List Byte
  deriving DecidableEq, Repr

/-- A packet whose every field is 0. -/
def Pkt.blank : Pkt :=
  { dst := 0, src := 0, stream := 0, cls := 0, order := 0, dateline := false, len := 0, hopIdx := 0, route := 0, rlen := 0, opc := 0, kind := .ctl, slag := 0, mirror := false,
    poison := false, trace := false, age := 0, param := 0, tc := 0, alt := 0, half := 0, srcHalf := 0, ld := 0, devload := 0, void := false, body := [] }

/-- What a source NI forms a stream ID from (R145). -/
inductive StreamSrc where
  | io (port ld tc : Nat)
  | mem (port addr : Nat)
  | coherence (addr : Nat)
  | engine (engine stream : Nat)
  | management (sessionNi : Nat)
  | answer (stream : Nat)       -- a response carries the stream ID of its request
  deriving DecidableEq, Repr

/-- A 66-bit block of a fabric lane (R91): its two-bit sync header and its 64-bit payload. -/
abbrev Block := Nat × Nat

/-- What a link partner shows in training (R46, R48, R62 to R64, R72): its highest rate, whether it has flit mode, the highest rates at which it offers CXL 256-byte and
68-byte mode, CXL 1.1 restricted mode, CXL.cache, CXL.mem and back-invalidate, the LDs it reports (0 for an SLD), L0p, equalisation bypass to the highest
rate, and lane reversal. Rates take the encoding of PRT_CFG.MAX_RATE. -/
structure Partner where
  rate : Nat
  flit : Bool
  cxl256 : Option Nat
  cxl68 : Option Nat
  restricted : Bool
  cache : Bool
  mem : Bool
  bi : Bool
  lds : Nat
  l0p : Bool
  bypass : Bool
  reversed : Bool
  deriving DecidableEq, Repr

/-- A request at the policer (R175, R176): the NI and logical port it enters at, its flow key, whether it came over a fabric port, the data bytes it moves, and its packet. -/
structure FlowReq where
  ni : Nat
  port : Nat
  feid : Nat
  ld : Nat
  fabric : Bool
  bytes : Nat
  pkt : Pkt
  deriving DecidableEq, Repr

/-- The policer's colours (R176). -/
inductive Colour where
  | green | yellow | red
  deriving DecidableEq, Repr

/-- The tables that each region keeps twice (R210): the Anvil route tables, remap level 1 and the ACU windows. -/
inductive DupTable where
  | route | l1 | window
  deriving DecidableEq, Repr

/-- Where a request enters (R191, R203): a port with the LD-ID of its source, a Tongs engine, or a management session. -/
inductive ReqSource where
  | port (p ld : Nat)
  | engine (e : Nat)
  | session (n : Nat)
  deriving DecidableEq, Repr

/-- How a request names its address (R192, R193, R204): an HPA for the HDM decoders, a CXL.io request that a vPPB's memory window takes, a request of a device to its
host, a pool address, or a device address at a target FEID and LD-ID. -/
inductive ReqAddr where
  | hpa (a : Nat)
  | window (vppb a : Nat)
  | toHost (vcs a : Nat)
  | poa (a : Nat)
  | device (target ld a : Nat)
  deriving DecidableEq, Repr

/-- The protocol of a request, which decides how a failure is answered (R206). -/
inductive ReqProto where
  | mem | io | cache | internal
  deriving DecidableEq, Repr

/-- A memory request: who sends it and where, its address, read or write (an atomic is both), length in bytes, write data with byte enables, tag, whether the data is
poisoned, and the speculative flag of an engine's read (R265). -/
structure MemReq where
  src : ReqSource
  proto : ReqProto
  addr : ReqAddr
  write : Bool
  atomic : Bool
  len : Nat
  data : List Byte
  be : Nat
  tag : Nat
  poison : Bool
  spec : Bool
  deriving DecidableEq, Repr

/-- A part of a request (R205): the request, the part's number, its offset and length, its POA if it was decoded to a pool, and the target, LD-ID and device address it was
translated to; whether its extent is shared. -/
structure Part where
  req : MemReq
  idx : Nat
  off : Nat
  len : Nat
  poa : Option Nat
  target : Nat
  ld : Nat
  dev : Nat
  shared : Bool
  deriving DecidableEq, Repr

/-- What the ordinary instructions of an engine's core have done since its last step (R257, R263, R285): where the pc stands, the registers and CSRs written (ASRs, DM_CMP, DM_CRC), and the
stores to local memory, in order. -/
structure CoreStep where
  pc : Nat
  regs : List (Nat × Word)
  asrs : List (Nat × Word)
  dmCmp : Option Word
  dmCrc : Option Word
  stores : List (Nat × List Byte)
  deriving DecidableEq, Repr

/-- What a requester is answered where parts of its request fail (R206). -/
inductive ReqAnswer where
  | poisonOnes                          -- MemData, or read data, of all-ones, poisoned
  | cmpDiscarded                        -- Cmp returned, the data discarded
  | unsupported                         -- an Unsupported Request completion
  | discarded                           -- a posted write discarded, no answer
  | notPerformed (firstFailing : Nat)   -- an error response naming the first failing part; passing parts are written
  | someOnes (failing : List Nat)       -- data for passing parts, all-ones for the failing ones, marked EP or POISON
  | defer                               -- DEFER, to a speculative read (R265)
  | someDiscarded (failing : List Nat)  -- passing parts written, failing parts discarded
  deriving DecidableEq, Repr

/-- An HDM decoder (R74, R75, R192): base, size, interleave ways and granularity in bytes, the device numbers it selects, the DPA it skips to, HDM-DB or HDM-H,
committed, and Error Not Committed. -/
structure HdmDecoder where
  base : Nat
  size : Nat
  ways : Nat
  gran : Nat
  targets : List Nat
  skip : Nat
  db : Bool
  committed : Bool
  error : Bool
  deriving DecidableEq, Repr

/-- A decoder that nothing has programmed. -/
def HdmDecoder.off : HdmDecoder := ⟨0, 0, 1, 256, [], 0, false, false, false⟩

/-- The requests of hosts to a home slice (R221); Tongs and management reads come as RdI and their writes as Wr. -/
inductive HomeOp where
  | rdS | rdA | rdI | invA
  | wr (full : Bool)    -- every byte of the line enabled
  | wbI | wbS           -- a writeback with MetaValue I or S
  deriving DecidableEq, Repr

/-- A request at a home slice: the operation, the CAID of the agent (none for an engine or a session), its POA, the data of a write, the tag it is answered with, and the
speculative flag of an engine's read (R265). -/
structure HomeReq where
  op : HomeOp
  agent : Option Nat
  poa : Nat
  data : List Byte
  tag : Nat
  spec : Bool
  deriving DecidableEq, Repr

/-- The BISnp types (R221). -/
inductive SnpOp where
  | inv | data | cur
  deriving DecidableEq, Repr

/-- The BIRsp types (R221). -/
inductive BiRsp where
  | i | s | e
  deriving DecidableEq, Repr

/-- What a home slice sends (R221). -/
inductive HomeMsg where
  | biSnp (op : SnpOp)
  | memData (poison : Bool) (data : List Byte)
  | cmp | cmpS | cmpE
  | biConflictAck
  | defer                       -- the answer to a speculative read (R265)
  | hdmRead (target ld dev : Nat)
  | hdmWrite (target ld dev : Nat) (data : List Byte)
  deriving DecidableEq, Repr

/-- The return codes of the CXL FM API that the device gives (R83, R84), by their CXL names. -/
inductive FmRc where
  | success | backgroundStarted | invalidInput | unsupported | resourcesExhausted | busy | aborted | invalidPayloadLength
  deriving DecidableEq, Repr

/-- The Zhevco codes of the extended status field (R84). -/
inductive FmExt where
  | none | notOwner | tableFull | targetBound | roleMismatch | regionFenced | modeWithheld | poolExhausted | bindingBusy | notBound | hostNoAck
  | noSession | vppbBound
  deriving DecidableEq, Repr

/-- The encoding of an extended status (R84). -/
def FmExt.code (x : FmExt) : Nat :=
  match x with
  | .none => 0
  | .notOwner => 0x0101
  | .tableFull => 0x0102
  | .targetBound => 0x0103
  | .roleMismatch => 0x0104
  | .regionFenced => 0x0105
  | .modeWithheld => 0x0106
  | .poolExhausted => 0x0107
  | .bindingBusy => 0x0108
  | .notBound => 0x0109
  | .hostNoAck => 0x010A
  | .noSession => 0x010B
  | .vppbBound => 0x010C

/-- How an FM API command arrives (R82, R345): over the CCI of an upstream port with its payload length, or in a Weusk message of a session with its tag. -/
inductive FmVia where
  | cci (port len : Nat)
  | ses (n tag : Nat)
  deriving DecidableEq, Repr

/-- The FM API commands (R83) with the operands their rules name. A port is a logical port number, a vPPB its number on the chip, `ld` none for an SLD target. `answer` is what the
device at the far end answered to a command passed on to it. -/
inductive FmCmd where
  | identify | backgroundStatus | getLimit
  | setLimit (bytes : Nat)
  | abort | getEvents
  | clearEvents (handles : List Nat)
  | getPolicy
  | setPolicy (policy : Nat)
  | getTimestamp | getLogs | getLog | identifySwitch
  | portState (ports : List Nat)
  | portControl (port op : Nat)
  | ppbConfig (port : Nat) (request answer : List Byte)
  | vcsInfo (vcs : Nat)
  | bind (vppb port : Nat) (ld : Option Nat)
  | unbind (vppb option : Nat)
  | aer (vppb error : Nat)
  | tunnel (target : Nat) (reduced : List Nat) (request answer : List Byte)
  | ldConfig (port ld : Nat) (request answer : List Byte)
  | ldMemory (port ld : Nat) (request answer : List Byte)
  | dcdInfo
  | dcConfig (vcs : Nat)
  | setDcConfig (vcs region : Nat) (sanitize : Bool)
  | extentLists (vcs : Nat)
  | dcAdd (vcs region count : Nat)
  | dcRelease (vcs region : Nat) (extents : List Nat)
  | weusk (opcode type : Nat)
  | other (opcode : Nat)
  deriving DecidableEq, Repr

/-- A record of the CXL event logs (R76, R80): Dynamic Capacity or General Media, for a VCS and an extent (the extents offered, for an add). -/
structure CxlEvent where
  handle : Nat
  media : Bool
  vcs : Nat
  extents : List Nat
  deriving DecidableEq, Repr

/-- The parts of a vPPB's configuration space that a host reads and writes (R65, R69, R74, R79), by what they hold: the spec gives the space no layout of its own. -/
inductive CfgReg where
  | identity | options | slotStatus | slotControl | dpc | aer | pool
  deriving DecidableEq, Repr

/-- A message that a port's ingress holds (R158): a request for decode, a response with the DevLoad it carries, a BISnp of a device for its host, a global persistent flush, or a
host's configuration request to vPPB v, a write where it has a value (R65, R69). -/
inductive PortMsg where
  | request (q : MemReq)
  | response (p : Pkt) (devload : Nat)
  | snoop (p : Pkt)
  | gpf (p : Pkt)
  | config (v : Nat) (reg : CfgReg) (value : Option Nat) (tag : Nat)
  deriving DecidableEq, Repr

/-- A packet with the fields that only the fabric header carries (R160, R312): destination and source FEIDs and TTL. -/
structure FabPkt where
  dst : Nat
  src : Nat
  ttl : Nat
  pkt : Pkt
  deriving DecidableEq, Repr

/-- What a fabric NI converts (R160): a packet that leaves, or the oldest accepted unit of a VC. -/
inductive FabDir where
  | leave (f : FabPkt)
  | arrive (vc : Nat)
  deriving DecidableEq, Repr

/-- A change of a distributed table (R301, R309): a member entry, a chip's forwarding entry towards a destination, an agent entry, a chip declared unreachable. -/
inductive FabChange where
  | member (c : Nat) (w : Word)
  | fft (chip d : Nat) (w : Word)
  | agent (caid : Nat) (w : Word)
  | unreachable (c : Nat)
  deriving DecidableEq, Repr

/-- A generation (R302): its number, whether it is the whole state, and its changes. -/
structure FabGen where
  gen : Nat
  whole : Bool
  changes : List FabChange
  deriving DecidableEq, Repr

/-- What JOIN carries (R299). -/
structure JoinMsg where
  chip : Nat
  role : Nat
  revMin : Nat
  revMax : Nat
  hash : Nat
  scale : Nat
  deriving DecidableEq, Repr

/-- What ANNOUNCE carries (R304), with its sender. -/
structure AnnounceMsg where
  chip : Nat
  epoch : Nat
  gen : Nat
  revTop : Nat
  mixed : Bool
  stbyOk : Bool
  deriving DecidableEq, Repr

/-- What LINK_REPORT carries (R304): the sender and, for each fabric port, the port, its partner's chip ID, whether its link is ACTIVE, and the revision it runs. -/
structure LinkReport where
  chip : Nat
  links : List (Nat × Nat × Bool × Nat)
  deriving DecidableEq, Repr

/-- The messages of the fabric agent (R304); each carries the sender's epoch. -/
inductive FabMsg where
  | announce (m : AnnounceMsg)
  | ack (epoch type gen highest : Nat)
  | join (epoch : Nat) (m : JoinMsg)
  | joinRefuse (epoch cause : Nat)
  | distPrep (epoch : Nat) (g : FabGen)
  | distCommit (epoch gen : Nat)
  | distAbort (epoch gen : Nat)
  | resync (epoch gen : Nat)
  | linkReport (epoch : Nat) (r : LinkReport)
  | voteReq (epoch proposed : Nat)
  | vote (epoch proposed highest : Nat)
  | handover (epoch gen : Nat)
  deriving DecidableEq, Repr

/-- A field's value that a section of an image states (R324, R450): the section's ID, the register, its index, bits hi to lo and the value. -/
structure ImgCell where
  sec : Nat
  reg : Machine.RegKind
  idx : Nat
  hi : Nat
  lo : Nat
  val : Nat
  deriving DecidableEq, Repr

/-- What an image's sections say (R296, R324, R450): the fields they state; and, where the image carries the section, the fabric section's roles (chip, role) with its hash, the scale class, and
the version of the firmware program. The spec gives the sections no byte layout. -/
structure ImgContent where
  cells : List ImgCell
  fabric : Option (List (Nat × Nat) × Nat)
  scale : Option Nat
  program : Option Nat
  deriving DecidableEq, Repr

/-- An image that states nothing. -/
def ImgContent.empty : ImgContent := ⟨[], none, none, none⟩

/-- The first offending item of a broken image rule (R325, R451): its section and the DETAIL it is reported with. -/
structure RuleItem where
  sec : Nat
  item : Nat
  deriving DecidableEq, Repr

/-- The outcome of a Weusk message (R346), in the order of its codes 0x00 to 0x0C. -/
inductive WStatus where
  | ok | notOwner | accessError | unknownType | badLength | sessionsFull | noSession | ownerHeld | notReady | busy | electionLost
  | badVersion | noOwnerRx
  deriving DecidableEq, Repr, Inhabited

/-- The code of a status. -/
def WStatus.code (x : WStatus) : Nat := x.ctorIdx

/-- A Weusk frame that the device sends (R344); VER is 0x01 and LENGTH the payload's length. -/
structure Weusk where
  type : Nat
  session : Nat
  status : WStatus
  tag : Nat
  param : Nat
  payload : List Byte
  deriving DecidableEq, Repr

/-- What a register write meets outside the chip's registers: what a programmed page reads back as and whether a record reads back right (R328, R335), the first rule an image breaks
and what the image says (R325), and the bits checked and errors per lane circuit of a PRBS snapshot (R58). -/
structure WriteEnv where
  readBack : List Byte
  readBackOk : Bool
  rule : Option RuleItem
  img : ImgContent
  bitsK : Nat
  errs : List Nat
  deriving DecidableEq, Repr

/-- Nothing outside is met. -/
def WriteEnv.none : WriteEnv := ⟨[], true, Option.none, ImgContent.empty, 0, []⟩

/-- A refused register access (R34): its address, size (0 to 3 for 8 to 64 bits), whether it wrote, and the session. -/
structure RefusedAccess where
  addr : Nat
  size : Nat
  write : Bool
  session : Nat
  deriving DecidableEq, Repr

/-- A PTP master as an Announce message describes it (R405): domain, priority1, clock class, accuracy, variance, priority2, grandmaster identity, steps removed, the sender's port identity. -/
structure PtpMaster where
  domain : Nat
  prio1 : Nat
  cls : Nat
  accuracy : Nat
  variance : Nat
  prio2 : Nat
  identity : Nat
  steps : Nat
  sender : Nat
  deriving DecidableEq, Repr

/-- A PMBus command that the slot policy writes to a hot-swap controller (R424, R427 to R429): OPERATION off, CLEAR_FAULTS, or IOUT_OC_FAULT_LIMIT in units of 10 mA. -/
inductive Pmbus where
  | operationOff | clearFaults
  | limit (value : Nat)
  deriving DecidableEq, Repr

/-- A message that has left the device. -/
inductive Out where
  | fm (via : FmVia) (opcode : Nat) (rc : FmRc) (ext : FmExt) (data : List Nat)   -- an FM API response (R83, R84)
  | fmForward (target ld : Nat) (request : List Byte)     -- a request passed on to a device or a remote CCI (R83)
  | config (port tag : Nat) (answer : Option (List Nat))   -- the completion of a host's configuration request, none for Unsupported Request (R69)
  | perst (port : Nat) (asserted : Bool)                  -- PERST of a downstream port (R83)
  | flowUnit (block : Nat) (bytes : List Byte)            -- a flow unit of 256 bytes, in link order (R111)
  | line (block circuit : Nat) (levels : List Nat)        -- PAM4 levels that a lane circuit sends (R90, R94)
  | linkCommand (block : Nat) (bits : Nat)                -- an in-band LINK command, bits [55:0] of its bytes 1 to 7 (R127)
  | trainBlock (block : Nat) (bits : Nat)                 -- a TRAIN control block, bits [55:0] of its bytes 1 to 7 (R92)
  | capBlock (block : Nat) (bits : Nat)                   -- a CAP control block, bits [55:0] (R106)
  | linkReset (port : Nat)                                -- a port's transmitters return to electrical idle
  | linkPacket (port : Nat) (p : Pkt)                     -- a packet sent on a port's link (R157)
  | ejected (ni : Nat) (p : Pkt)                          -- a packet delivered to a client or management NI (R140)
  | quenchNotice (target : Nat) (code : Nat)              -- a Quench notice sent to every NI (R162)
  | unquenchNotice (target : Nat)                         -- an Unquench notice (R164)
  | mirrorWrite (port : Nat) (addr : Nat) (data : List Byte)   -- posted writes of a mirror record (R168)
  | dataUnit (block vc : Nat) (cont : Bool) (payload : List Byte)   -- a DATA unit's payload (R160)
  | denied (r : MemReq) (a : ReqAnswer)                   -- the failure outcome of a request (R206)
  | home (slice : Nat) (agent : Option Nat) (line tag cls stream : Nat) (m : HomeMsg)   -- a message of a home slice about a line, with its class and stream ID (R221, R222)
  | caidRequest (vcs : Nat)                               -- a CAID asked of the manager over Weusk (R231)
  | fabric (chip : Nat) (m : FabMsg)                      -- a message of the fabric agent to another chip (R304)
  | weusk (f : Weusk)                                     -- a Weusk response or a message the device sends (R344, R345)
  | pmbus (slot : Nat) (c : Pmbus)                        -- a command to a slot's HSC (R424)
  | slotFrame (outputs : List Nat)                        -- the output bits of a frame of the slot chain, slot 0 first (R425)
  deriving DecidableEq, Repr

end Sys2Proof
end

