-- ==== Sys2Proof/Syntax.lean ====
section
/-! DEFINITION. The commands of the block: one constructor per row of the spec's table of operations and events, with the operands that the row's
rules name. -/

namespace Sys2Proof

/-- A command: one row of the table, whole and indivisible. -/
inductive Instr where
  /-- CROSSING_FLIT_ARRIVAL (R20): A flit reaches a clock-island crossing and is ECC re-checked; it is corrected, discarded with an error answer, delivered poisoned or dropped unanswered. `input` the router's input that the flit crosses to: 0 to 3 from another region, 4 from its block, or 7 from the router to its block; `ecc` 0 clean, 1 correctable, 2 uncorrectable outside the header group, 3 header group uncorrectable. -/
  | crossingFlitArrival (rt : Nat) (input : Nat) (ecc : Nat) (injected : Bool)
  /-- DRS_ERR_PEND_CLEAR (R35): Writing 1 to MGT_DRS_ERR.PEND clears PEND and COUNT; a refusal in the same cycle is recorded as a first access. `together` a refused access of the same cycle. -/
  | drsErrPendClear (together : Option RefusedAccess)
  /-- DEBUG_VIEW_ACCESS (R33): An access to the HBM debug view reads HBM at the selected window, or is refused when it is a write outside TEST. `x` the offset in the view, `size` as for REG_READ. -/
  | debugViewAccess (ses : Nat) (tag : Nat) (x : Nat) (size : Nat) (write : Bool) (value : Word)
  /-- HBM_DBG_WINDOW_WRITE (R34): A write of MGT_HBM_DBG_BASE.WINDOW sets the page shown in the debug view; values 96 to 127 are ignored. -/
  | hbmDbgWindowWrite (value : Word)
  /-- BRING_UP_START (R44): Once the image, ADMIN, mode and region conditions hold, a half stops any PRBS and starts link bring-up. `bitsK` and `errs`: what PRBS counted since its last snapshot, if it runs: bits in units of 1,024, and bit errors of the nine circuits of each block of the port. -/
  | bringUpStart (p : Nat) (bitsK : Nat) (errs : List Nat)
  /-- TRAINING_STAGE_END (R45): A PCIe-role training stage completes and the port moves to the next stage, skipping stages above the rate cap. `passed` false is a failure of the stage; `lanes` the logical lanes that came through the stage (stage 3 and equalisation). -/
  | trainingStageEnd (p : Nat) (passed : Bool) (partner : Partner) (lanes : Nat)
  /-- ADMIN_WRITE (R61): A write of PRT_LINK_CTL.ADMIN0 or ADMIN1 permits training, or takes the half's link down when written 0. -/
  | adminWrite (blk : Nat) (a0 : Bool) (a1 : Bool)
  /-- SYMBOL_WINDOW_END (R50): At the end of a window of 16,777,216 flits, a lane whose corrected symbols exceed SYM_THR is marked. `k` the lane circuit, `symbols` its corrected symbols in the window in a PCIe role. -/
  | symbolWindowEnd (blk : Nat) (k : Nat) (symbols : Nat)
  /-- LANE_MARK (R50): A lane is marked in PRT_LANE_MAP.MARK for symbols, margin, lock loss or a wear flag; the block may narrow by L0p or enter Recovery. `k` the pair; `reason` 0 symbols, 1 margin, 2 lock loss, 3 wear flag. -/
  | laneMark (blk : Nat) (k : Nat) (reason : Nat)
  /-- L0P_REQUEST_PARTNER (R49): The partner asks for an L0p width change; decreases are accepted and increases over marked lanes are refused. -/
  | l0pRequestPartner (p : Nat) (width : Nat)
  /-- L0P_TGT_WRITE (R49): The manager writes PRT_LINK_CTL.L0P_TGT and the block moves to the widest width that the target and the marks allow. -/
  | l0pTgtWrite (blk : Nat) (h : Nat) (tgt : Nat)
  /-- L0P_CHANGE_COMPLETE (R48): An L0p width change completes within 10 µs, while traffic continues on the remaining lanes. -/
  | l0pChangeComplete (p : Nat)
  /-- RETRAIN_WRITE (R52): A write of PRT_LINK_CTL.RETRAIN enters Recovery on the half, or has no effect outside L0 and L0p. -/
  | retrainWrite (blk : Nat) (r0 : Bool) (r1 : Bool)
  /-- RECOVERY_ENTRY (R52): The link enters Recovery, the spare is switched onto the first marked pair, and the link re-equalises at the current rate. -/
  | recoveryEntry (p : Nat)
  /-- RECOVERY_COMPLETE (R52): Recovery ends, the MARK bit of a pair now on LC8 is cleared, and the link returns to L0 with held flits replayed. `spareOk`: the pair now on LC8 trained. -/
  | recoveryComplete (p : Nat) (spareOk : Bool)
  /-- MARK_CLEAR (R53): A W1C write of a MARK bit cancels the pending mapping for that pair and lets L0p re-widen. -/
  | markClear (blk : Nat) (mask : Nat)
  /-- SPARE_SELF_CHECK (R55): Once per second, an idle LC8 runs a loopback self-check; a failure sets SPARE_BAD. -/
  | spareSelfCheck (blk : Nat) (ok : Bool)
  /-- PRBS_EN_WRITE (R57): A write of PRT_PRBS_CTL.EN starts or stops the PRBS generators and checkers, and is ignored unless the block may run PRBS. -/
  | prbsEnWrite (blk : Nat) (value : Word)
  /-- PRBS_SNAP (R58): A write of SNAP copies every lane's running PRBS count into the result registers and increments SEQ. `bitsK` and `errs`: bits checked, in units of 1,024, and bit errors per lane circuit since the last snapshot. -/
  | prbsSnap (blk : Nat) (bitsK : Nat) (errs : List Nat)
  /-- PRBS_CHECKER_LOCK (R58): The PRBS checker locks after 256 consecutive error-free bits. `clean`: consecutive error-free bits. -/
  | prbsCheckerLock (blk : Nat) (k : Nat) (clean : Nat)
  /-- PRBS_CHECKER_LOSE_LOCK (R58): More than 256 errors in 1,024 bits make the PRBS checker lose lock and relock. `errors`: bits in error of 1,024 consecutive ones; `counted`: bit errors counted since the last snapshot or lock, till then. -/
  | prbsCheckerLoseLock (blk : Nat) (k : Nat) (errors : Nat) (counted : Nat)
  /-- DL_UP_LOSS (R60): A port loses DL_UP, partial messages are discarded, and the event is raised unless the loss is planned. `partial`: partly received messages. -/
  | dlUpLoss (p : Nat) (planned : Bool) (partials : Nat)
  /-- BIND_VPPB (R70): FM API Bind vPPB is checked against the conflict rules and starts a background bind of a vPPB to a target. -/
  | bindVppb (p : Nat) (len : Nat) (vppb : Nat) (target : Nat) (ld : Option Nat)
  /-- BIND_COMPLETE (R70): A bind completes within 1 ms, and the host sees a hot-add through the vPPB. -/
  | bindComplete (v : Nat)
  /-- UNBIND_VPPB (R70): FM API Unbind vPPB starts an unbind by wait for link down, managed hot-remove or surprise hot-remove. -/
  | unbindVppb (p : Nat) (len : Nat) (vppb : Nat) (option : Nat)
  /-- UNBIND_COMPLETE (R70): An unbind completes, the vPPB becomes UNBOUND, and the target may be bound anew. -/
  | unbindComplete (v : Nat)
  /-- HOT_REMOVE_TIMEOUT (R70): A managed hot-remove reaches HP_TMO without host power-off and ends Aborted with HOST_NO_ACK. -/
  | hotRemoveTimeout (v : Nat)
  /-- HOST_POWER_OFF (R70): The host turns a vPPB slot's power control off, completing a managed hot-remove or powering the slot off. -/
  | hostPowerOff (v : Nat)
  /-- REQUEST_ABORT_BACKGROUND_OPERATION (R83): Ends a waiting unbind with option 0 or 1 as Aborted with the binding unchanged, or returns Invalid Input otherwise. -/
  | abortBackground (p : Nat) (len : Nat)
  /-- IDENTIFY (R83): FM API Identify returns device identity; it is allowed before a session opens. -/
  | identify (p : Nat) (len : Nat)
  /-- BACKGROUND_OPERATION_STATUS (R83): FM API command that returns the status of the running background operation. -/
  | backgroundStatus (p : Nat) (len : Nat)
  /-- GET_RESPONSE_MESSAGE_LIMIT (R83): FM API command that returns the response message limit. -/
  | getResponseLimit (p : Nat) (len : Nat)
  /-- SET_RESPONSE_MESSAGE_LIMIT (R83): FM API command that sets the response message limit, from 256 to 4,096 bytes. -/
  | setResponseLimit (p : Nat) (len : Nat) (bytes : Nat)
  /-- GET_EVENT_RECORDS (R83): FM API command that returns CXL event records. -/
  | getEventRecords (p : Nat) (len : Nat)
  /-- CLEAR_EVENT_RECORDS (R83): FM API command that clears CXL event records. -/
  | clearEventRecords (p : Nat) (len : Nat) (handles : List Nat)
  /-- GET_EVENT_INTERRUPT_POLICY (R83): FM API command that returns the event interrupt policy. -/
  | getEventPolicy (p : Nat) (len : Nat)
  /-- SET_EVENT_INTERRUPT_POLICY (R83): FM API command that sets the event interrupt policy. -/
  | setEventPolicy (p : Nat) (len : Nat) (policy : Nat)
  /-- GET_TIMESTAMP (R83): FM API command that returns the fabric time counter. -/
  | getTimestamp (p : Nat) (len : Nat)
  /-- GET_SUPPORTED_LOGS (R83): FM API command that lists the supported logs, the Command Effects Log only. -/
  | getSupportedLogs (p : Nat) (len : Nat)
  /-- GET_LOG (R83): FM API command that returns the Command Effects Log. -/
  | getLog (p : Nat) (len : Nat)
  /-- IDENTIFY_SWITCH_DEVICE (R83): FM API command that reports 128 ports, 64 VCSs and 1,024 vPPBs. -/
  | identifySwitch (p : Nat) (len : Nat)
  /-- GET_PHYSICAL_PORT_STATE (R83): FM API command that returns physical port state by logical port number. -/
  | getPortState (p : Nat) (len : Nat) (ports : List Nat)
  /-- PHYSICAL_PORT_CONTROL (R83): FM API command that resets a PPB or drives PERST on a downstream port, and returns Invalid Input on other roles. `op` 0 assert PERST, 1 deassert PERST, 2 reset PPB. -/
  | portControl (p : Nat) (len : Nat) (target : Nat) (op : Nat)
  /-- SEND_PPB_CXL_IO_CONFIGURATION_REQUEST (R83): FM API command that sends a CXL.io configuration request to a PPB. -/
  | ppbConfig (p : Nat) (len : Nat) (target : Nat) (request : List Byte) (answer : List Byte)
  /-- GET_VIRTUAL_CXL_SWITCH_INFO (R83): FM API command that returns VCS information. -/
  | vcsInfo (p : Nat) (len : Nat) (vcs : Nat)
  /-- GENERATE_AER_EVENT (R83): FM API command that generates an AER event on a vPPB. -/
  | generateAer (p : Nat) (len : Nat) (vppb : Nat) (error : Nat)
  /-- TUNNEL_MANAGEMENT_COMMAND (R83): FM API command that tunnels a command to an MLD's CCI or a remote port's CCI. `target` an FEID; `reduced` the LDs whose allocation the tunnelled command reduces. -/
  | tunnel (p : Nat) (len : Nat) (target : Nat) (reduced : List Nat) (request : List Byte) (answer : List Byte)
  /-- SEND_LD_CXL_IO_CONFIGURATION_REQUEST (R83): FM API command that sends a CXL.io configuration request to an LD. -/
  | ldConfig (p : Nat) (len : Nat) (target : Nat) (ld : Nat) (request : List Byte) (answer : List Byte)
  /-- SEND_LD_CXL_IO_MEMORY_REQUEST (R83): FM API command that sends a CXL.io memory request to an LD. -/
  | ldMemory (p : Nat) (len : Nat) (target : Nat) (ld : Nat) (request : List Byte) (answer : List Byte)
  /-- GET_DCD_INFO (R83): FM API DCD command that returns DCD information for a pool device or a tunnelled DCD. -/
  | dcdInfo (p : Nat) (len : Nat)
  /-- GET_HOST_DC_REGION_CONFIG (R83): FM API DCD command that returns a host's DC region configuration. -/
  | dcConfig (p : Nat) (len : Nat) (vcs : Nat)
  /-- SET_DC_REGION_CONFIG (R83): FM API DCD command that sets a DC region configuration. -/
  | setDcConfig (p : Nat) (len : Nat) (vcs : Nat) (region : Nat) (sanitize : Bool)
  /-- GET_DC_REGION_EXTENT_LISTS (R83): FM API DCD command that returns extent lists, with releasing extents reported as releasing. -/
  | extentLists (p : Nat) (len : Nat) (vcs : Nat)
  /-- INITIATE_DYNAMIC_CAPACITY_ADD (R76): All-or-nothing add from the free pool: refused with POOL_EXHAUSTED, or extents reserved and an event record raised to the host. `extents` how many. -/
  | dcAdd (p : Nat) (len : Nat) (vcs : Nat) (region : Nat) (extents : Nat)
  /-- ADD_DYNAMIC_CAPACITY_RESPONSE (R76): The host's response installs the accepted extents in remap level 1 and returns the rest to the free pool. -/
  | dcAddResponse (vcs : Nat) (region : Nat) (accepted : List Nat)
  /-- DC_ADD_RESPONSE_TIMEOUT (R76): After 10 s without the host's response, every reserved extent returns to the free pool. -/
  | dcAddTimeout (vcs : Nat) (region : Nat)
  /-- INITIATE_DYNAMIC_CAPACITY_RELEASE (R77): Releases extents; they are marked releasing and await migrations, a Hearth sweep and any sanitize fill. -/
  | dcRelease (p : Nat) (len : Nat) (vcs : Nat) (region : Nat) (extents : List Nat)
  /-- EXTENT_RELEASE_COMPLETE (R77): Once migrations, the sweep and the zero-fill are complete, a released extent returns to the free pool. -/
  | extentReleaseComplete (entry : Nat)
  /-- WEUSK_OVER_CCI (R83): A CCI opcode 0xC000 + TYPE carries a Weusk frame, which must match its opcode. `type` the TYPE of the frame. -/
  | weuskOverCci (p : Nat) (len : Nat) (opcode : Nat) (type : Nat)
  /-- UNSUPPORTED_OPCODE (R83): Any other FM API opcode returns Unsupported with extended status NONE. -/
  | unsupportedOpcode (p : Nat) (len : Nat) (opcode : Nat)
  /-- HDM_DECODER_COMMIT (R75): The host commits a pool-device HDM decoder; an HDM-DB decoder commits only with BI negotiated and enabled and an admitted agent. `k` 0 to 7 the upstream port's decoders, 8 to 15 the pool device's; `d.committed` what the host asks. -/
  | hdmDecoderCommit (vcs : Nat) (k : Nat) (d : HdmDecoder)
  /-- BI_ENABLE_WRITE (R75): The host sets or clears a BI enable; clearing removes its agent, and setting both again requests a new CAID. `route` the BI route table's enable, else the pool device's BI decoder's. -/
  | biEnableWrite (vcs : Nat) (route : Bool) (on : Bool)
  /-- TARGET_SURPRISE_REMOVAL (R79): A bound target's link drops: Quench isolates it, the vPPB slot status changes and DPC may trigger. `lost` the messages partly received. -/
  | targetSurpriseRemoval (p : Nat) (lost : Nat)
  /-- IDE_INTEGRITY_FAILURE (R86): An IDE integrity failure discards flits, makes the stream insecure, counts, raises the event and takes the link down. -/
  | ideIntegrityFailure (p : Nat) (lost : Nat)
  /-- MARKER_CANDIDATE (R102): A lane in hunt finds a marker candidate and counts toward four correctly spaced candidates for lock. `marker`: the 64 bits M0 to M7 as received; `spacing`: line bits since the candidate before; `inverted`: the pair's polarity is inverted, so the pattern matches complemented (R94). -/
  | markerCandidate (blk : Nat) (k : Nat) (marker : Word) (spacing : Nat) (inverted : Bool)
  /-- MARKER_CHECK (R102): A locked lane checks each marker after FEC, counts failures, and returns to hunt after 3 consecutive failures. `late`: the marker arrived more than 2 ns from its measured position. -/
  | markerCheck (blk : Nat) (k : Nat) (marker : Word) (late : Bool)
  /-- CODEWORD_DECODE (R99): The RS decoder corrects or fails a codeword; uncorrectable ones mark overlapping blocks bad, and 8 in a row return the lane to hunt. In fabric role `levels` are the codeword's 2,720 PAM4 levels 0 to 3 as received; in a PCIe role the FLIT's FEC outcome is `ok` and `symbols`, the symbols corrected. -/
  | codewordDecode (blk : Nat) (k : Nat) (ok : Bool) (symbols : Nat) (levels : List Nat)
  /-- CALIBRATION_DONE (R109): Fabric calibration completes and the port transmits IDLE and markers at 64 Gb/s in SIGDET. `failed`: the pairs that failed. -/
  | calibrationDone (blk : Nat) (failed : Nat)
  /-- SIGNAL_DETECT (R109): PAM4 signal energy appears on at least 4 pairs and training enters ADAPT at 64 Gb/s. `pairs`: bit j is circuit j of the port, 9 per block. -/
  | signalDetect (blk : Nat) (pairs : Nat)
  /-- TRAIN_BLOCK_RECEIVED (R92): A TRAIN control block carries a preset request and DONE during ADAPT. `k`: the circuit it arrives on; `x`: the block, sync header and scrambled payload. -/
  | trainBlockReceived (blk : Nat) (k : Nat) (x : Block)
  /-- ADAPT_DONE (R109): Every pair with signal is locked and both sides sent DONE, so training enters DESKEW. -/
  | adaptDone (blk : Nat)
  /-- ADAPT_BOUND_EXCEEDED (R109): The ADAPT bound passes; with at least 4 lanes locked the rest leave the active set, otherwise ADAPT_TIMEOUT. -/
  | adaptBoundExceeded (blk : Nat)
  /-- ADAPT_PARTNER_DONE_TIMEOUT (R109): 1 ms passes after ADAPT's bound without the partner's DONE, failing with ADAPT_TIMEOUT. -/
  | adaptPartnerDoneTimeout (blk : Nat)
  /-- DESKEW_RELEASE (R104): All lanes are aligned on equal-sequence markers, skew is measured, and lanes over 250 ns are excluded or the attempt fails. `skews`: arrival after the earliest lane of each circuit of the port, in 0.25 ns. -/
  | deskewRelease (blk : Nat) (skews : List Nat)
  /-- CAP_BLOCK_RECEIVED (R106): A CAP block is received; a change of content restarts CAPX, and ACK counting proceeds. `bits`: bits [55:0] of bytes 1 to 7. -/
  | capBlockReceived (blk : Nat) (bits : Nat)
  /-- CAPX_COMPLETE (R108): CAPX completes and settles revision, rate, width, active lanes, spare substitution, self-link and encryption. `more`: the CAP blocks with ACK = 1 that this side sends now, added to those already sent. -/
  | capxComplete (blk : Nat) (more : Nat)
  /-- CAPX_TIMEOUT (R109): CAPX does not complete in 200 µs and fails with CAPX_TIMEOUT. -/
  | capxTimeout (blk : Nat)
  /-- TRAINING_FAIL_BACKOFF_END (R109): 1 ms after a training failure, the port returns to SIGDET. -/
  | trainingFailBackoffEnd (blk : Nat)
  /-- CHECK_UNIT_RECEIVED (R103): A check flow unit is received; 16 clean ones make the link ACTIVE, and a failure is a false lock. `blocks`: the unit's 32 blocks in link order, as they arrive (R93). -/
  | checkUnitReceived (blk : Nat) (blocks : List Block)
  /-- PARTNER_RETRAIN_DETECT (R109): In ACTIVE, four consecutive TRAIN or CAP blocks on lane 0 show the partner retrained, and training goes to SIGDET. `seen`: consecutive TRAIN or CAP blocks on logical lane 0. -/
  | partnerRetrainDetect (blk : Nat) (seen : Nat)
  /-- SFL_RETRAIN_WRITE (R109): A write of SFL_PHY_CTL.RETRAIN restarts training from SIGDET, keeping calibration. -/
  | sflRetrainWrite (blk : Nat)
  /-- DATA_UNIT_SEND (R118): The sender starts an eligible DATA unit, stores it for replay and advances the sequence, or sends NULL when none is eligible. -/
  | dataUnitSend (blk : Nat)
  /-- FLOW_UNIT_RECEIVED (R119): A flow unit arrives and is accepted, acted on for AN and XOFF, or discarded with a NAK. `blocks`: the unit's 32 blocks in link order, as they arrive (R93). -/
  | flowUnitReceived (blk : Nat) (blocks : List Block)
  /-- ACK_RECEIVED (R118): A cumulative ACK frees stored units, restarts the replay timer and lets STALL become SEND. -/
  | ackReceived (blk : Nat) (aseq : Nat)
  /-- NAK_RECEIVED (R118): A NAK frees units through ASEQ and starts a replay from ASEQ + 1. -/
  | nakReceived (blk : Nat) (aseq : Nat)
  /-- REPLAY_TIMEOUT (R118): The replay timer reaches REPLAY_TMO with units outstanding and replay starts from the oldest unit. -/
  | replayTimeout (blk : Nat)
  /-- REPLAY_UNIT_RESEND (R118): A stored unit is resent unchanged; after the last, the sender returns to SEND or STALL. -/
  | replayUnitResend (blk : Nat)
  /-- REPLAY_MAX_EXCEEDED (R118): The replay count exceeds REPLAY_MAX and the link is declared down. -/
  | replayMaxExceeded (blk : Nat)
  /-- ACK_TIMER (R117): 50 ns after the first unacknowledged unit, or after 16 accepted units, an ACK is placed in the next outgoing unit. -/
  | ackTimer (blk : Nat)
  /-- NAK_RESEND_TIMER (R119): In DISCARD with no delivery for 2 × RTT + 100 ns, the receiver sends its NAK again. -/
  | nakResendTimer (blk : Nat)
  /-- XOFF_UPDATE (R123): The receiver asserts XOFF for a VC whose free space is at most THR and deasserts it at THR + 32. -/
  | xoffUpdate (blk : Nat) (v : Nat)
  /-- TIMING_SLOT (R125): Slot s with s mod 4,097 = 4,096 carries a TIMING unit, whatever else is pending. -/
  | timingSlot (blk : Nat)
  /-- TIMING_UNIT_RECEIVED (R126): A TIMING unit is received, RTT is computed and written, and a bad one is counted in TIMING_BAD. `blocks`: the unit's 32 blocks in link order; `arr`: local arrival time in the format of R126. -/
  | timingUnitReceived (blk : Nat) (blocks : List Block) (arr : Nat)
  /-- LANE_SET (R128): A LANE_SET command proposes a new lane set or spare substitution, repeated every 64 units until answered. `received`: from the partner, else this side repeats its own; `copies`: identical valid blocks. -/
  | laneSet (blk : Nat) (received : Bool) (bits : Nat) (copies : Nat)
  /-- LANE_ACK (R128): A LANE_ACK accepts a lane change, after which each side sends SWITCH. -/
  | laneAck (blk : Nat) (bits : Nat) (copies : Nat)
  /-- LANE_NAK (R130): A LANE_NAK refuses a lane change with a reason; a busy loser repeats its request after the change. -/
  | laneNak (blk : Nat) (bits : Nat) (copies : Nat)
  /-- SWITCH (R128): A SWITCH command makes the blocks after it be striped over the new lane set. `received`: from the partner, else this side sends it; `bits`, `copies`: the LINK block received and how many identical valid copies of it. -/
  | switchLanes (blk : Nat) (received : Bool) (bits : Nat) (copies : Nat)
  /-- KEYSYNC (R135): A KEYSYNC command updates PEER_RXV and raises the receive count of its slot if the sent count is not lower. -/
  | keysync (blk : Nat) (bits : Nat) (copies : Nat)
  /-- ACTIVE_LANE_LOCK_LOSS (R130): An active lane leaves lock in ACTIVE, and the receiving side sends LANE_SET without it. `lane`: the logical lane. -/
  | activeLaneLockLoss (blk : Nat) (lane : Nat)
  /-- LANE_REQ_WRITE (R130): A write of SFL_LINK_CTL.LANE_REQ sends LANE_SET with LANE_MASK. -/
  | laneReqWrite (blk : Nat)
  /-- SFL_LINK_DOWN (R131): The SFL link is declared down: unacknowledged units are lost and answered by the Slag sink, and training restarts at SIGDET. -/
  | sflLinkDown (blk : Nat)
  /-- DOWN_TMO_EXPIRY (R131): Too few locked lanes, or no CRC-good unit, lasting DOWN_TMO declares the link down. -/
  | downTmoExpiry (blk : Nat)
  /-- SFL_KEY_COMMIT (R134): SFL_KEY_CMD.COMMIT loads key and salt into a slot and resets its count, or is refused BUSY. -/
  | sflKeyCommit (blk : Nat) (value : Word)
  /-- TX_SLOT_WRITE (R134): A write of SFL_ENC_CTL.TX_SLOT switches new DATA units to a slot, or sets NOT_VALID if it holds no key. -/
  | txSlotWrite (blk : Nat) (slot : Nat)
  /-- KEY_COUNT_LIMIT (R134): A slot count reaching 2^40 raises an event, and at 2^48 no new DATA unit is sent under it. -/
  | keyCountLimit (blk : Nat) (slot : Nat)
  /-- PACKET_INJECT (R146): A source NI forms the stream ID, chooses a route by hash and injects the packet, or gives it to the sink as NO_ROUTE. -/
  | packetInject (n : Nat) (src : StreamSrc) (p : Pkt)
  /-- ROUTE_ENTRY_WRITE (R147): A route-table write is checked, replicated, and holds the affected streams until the old packets are ejected. -/
  | routeEntryWrite (n : Nat) (d : Nat) (a : Nat) (value : Word)
  /-- ROUTE_CHANGE_RESUME (R147): Once every packet sent under the old route contents is ejected, held streams resume on the new routes. -/
  | routeChangeResume (n : Nat) (d : Nat)
  /-- FLIT_SWITCH (R151): A router output grants one flit per cycle by CTL, class 0, age, class order and round robin. `out`: 0 +X, 1 −X, 2 +Y, 3 −Y, 4 block NI, 5 client NI, 6 third local NI. `ecc` the outcome of the check on a link inside the region: 0 clean, 1 corrected on wire `wire`, 2 uncorrectable. -/
  | flitSwitch (rt : Nat) (out : Nat) (ecc : Nat) (wire : Nat)
  /-- LINK_WIRE_SPARE (R139): A wire over its wear threshold is replaced by a spare wire between two flits. `wire`: the wire of output link `d`. -/
  | linkWireSpare (rt : Nat) (d : Nat) (wire : Nat)
  /-- VOQ_INJECT (R152): A block injects from its VOQs holding credit, highest traffic class first. -/
  | voqInject (n : Nat)
  /-- CREDIT_REQUEST (R153): A source whose allowance is short sends a CTL request for CHUNK flits and the egress grants or queues it. `e`: the credit point, an egress block below 64, or 64 + 9 × (NI − 64) + class of a client or management NI. -/
  | creditRequest (n : Nat) (e : Nat)
  /-- CREDIT_GRANT (R153): The egress grants a queued shared-pool request in arrival order as slots free. `e`: the credit point, an egress block below 64, or 64 + 9 × (NI − 64) + class of a client or management NI. -/
  | creditGrant (e : Nat)
  /-- CREDIT_RETURN (R154): Every 8 flits or 50 ns, the egress returns credits by CTL, carrying its congestion band. `e`: the credit point, an egress block below 64, or 64 + 9 × (NI − 64) + class of a client or management NI. -/
  | creditReturn (e : Nat) (n : Nat)
  /-- SHARED_GRANT_RELEASE (R154): A source releases shared grants it has not used for 1 µs. `e`: the credit point, an egress block below 64, or 64 + 9 × (NI − 64) + class of a client or management NI. -/
  | sharedGrantRelease (n : Nat) (e : Nat)
  /-- EGRESS_PACKET_SEND (R157): The egress sends a packet to the link once the whole packet is in its buffer. `devload` the DevLoad the message carries. -/
  | egressPacketSend (p : Nat)
  /-- MESSAGE_TO_DECODE (R158): A message whose flits all passed link CRC is handed from the port to decode. `crcOk` every flit or unit of it passed its link CRC. -/
  | messageToDecode (p : Nat) (crcOk : Bool) (m : PortMsg)
  /-- FABRIC_HEADER_REBUILD (R160): A fabric NI converts between the Anvil header and the fabric header and packs packets into DATA units. -/
  | fabricHeaderRebuild (blk : Nat) (d : FabDir)
  /-- QUENCH_TRIGGER (R162): A trigger quenches an NI within 100 ns; its held packets go to the sink and a Quench notice is sent. -/
  | quenchTrigger (n : Nat) (code : Nat)
  /-- QUENCH_NOTICE_ARRIVAL (R162): A Quench notice arrives at a source NI, which then gives new packets for the target to its sink stage. -/
  | quenchNoticeArrival (n : Nat) (target : Nat) (code : Nat)
  /-- QUENCH_SET (R161): ANV_QUENCH_CMD.SET quenches an NI with code QUENCHED, and is ignored for an NI outside the region. -/
  | quenchSet (r : Nat) (n : Nat)
  /-- QUENCH_CLEAR (R164): ANV_QUENCH_CMD.CLEAR removes an owner trigger, and is ignored while another trigger persists. -/
  | quenchClear (r : Nat) (n : Nat)
  /-- SLAG_ANSWER (R163): The Slag sink answers an absorbed packet by message type with poison, Cmp, UR, SNP_DEAD or a discard. -/
  | slagAnswer (n : Nat)
  /-- UNQUENCH (R164): With its last trigger gone and absorbed packets answered, the NI accepts packets and sends an Unquench notice. -/
  | unquench (n : Nat)
  /-- UNQUENCH_NOTICE_ARRIVAL (R164): An Unquench notice arrives and sources resume injecting to the target. -/
  | unquenchNoticeArrival (n : Nat) (target : Nat)
  /-- MIRROR_COPY (R167): A mirror session copies a matching message to its analysis port, or drops it when no allowance is held. -/
  | mirrorCopy (m : Nat) (port : Nat) (egress : Bool) (poison : Bool) (flow : Nat) (msg : List Byte)
  /-- MIRROR_RECORD_WRITE (R168): The analysis port writes a mirror record into the partner's ring by posted writes. -/
  | mirrorRecordWrite (m : Nat)
  /-- PROBE_MATCH (R169): A probe matches a packet header, counts it, may set TRACE, and raises the event at THRESH. -/
  | probeMatch (rt : Nat) (input : Nat) (p : Pkt)
  /-- PROBE_SNAP (R169): ANV_PRB_CTL.SNAP copies the probe counts into the result registers. -/
  | probeSnap (rt : Nat)
  /-- MIRROR_EN_WRITE (R171): Enabling a mirror session clears its write offset; a non-analysis destination makes EN read 0. -/
  | mirrorEnWrite (m : Nat) (value : Word)
  /-- REQUEST_COLOUR (R176): The policer refills a context's buckets, colours a request and admits or holds it. -/
  | requestColour (q : FlowReq)
  /-- HOLD_QUEUE_RETEST (R177): Each cycle the head of a context's hold queue is retested and admitted when it is no longer red. -/
  | holdQueueRetest (c : Nat)
  /-- HOLD_QUEUE_FULL (R178): A full hold queue makes the port withhold request credits, and raises an event. -/
  | holdQueueFull (c : Nat)
  /-- HOLD_BOUND_EXPIRY (R185): In the full class, a request held for HOLD_BOUND is admitted as red with mark 0b11. -/
  | holdBoundExpiry (c : Nat)
  /-- HOLD_BOUND_WRITE (R185): A write of HOLD_BOUND applies to held requests, admitting those already over the new bound. -/
  | holdBoundWrite (r : Nat) (value : Word)
  /-- CONTEXT_REWRITE (R179): A write to word 1 or 2 of a context resets its buckets and applies new parameters from the next test. `wordNo` 1 or 2. -/
  | contextRewrite (c : Nat) (wordNo : Nat) (value : Word)
  /-- SHAPER_REWRITE (R181): A shaper write is checked, resets its tokens by TOK_RST, and applies at the next message boundary. `wordNo` 0 rates, 1 sizes. -/
  | shaperRewrite (p : Nat) (queue : Nat) (wordNo : Nat) (value : Word)
  /-- CMARK_RECEIVED (R185): A response arriving with CMARK = 1 contributes a remote mark, or is counted as ignored in the compact class. `param` names the request answered, `c` the context that admitted it. -/
  | cmarkReceived (p : Nat) (param : Nat) (c : Nat)
  /-- BIND (R188): TMP_BIND_CMD.BIND binds a key to a context, or returns TABLE_FULL, KEY_BOUND or BAD_INDEX. -/
  | bindFlow (r : Nat) (index : Nat) (feid : Nat) (ld : Nat)
  /-- UNBIND (R188): TMP_BIND_CMD.UNBIND frees a key's context, admitting any held requests as yellow. -/
  | unbindFlow (r : Nat) (feid : Nat) (ld : Nat)
  /-- LOOKUP (R174): TMP_BIND_CMD.LOOKUP reports a key's context, or NOT_BOUND with index 0x1_0000. -/
  | lookupFlow (r : Nat) (feid : Nat) (ld : Nat)
  /-- BIND_COMMAND_COMPLETE (R189): A bind command completes within 1 µs and its result appears in TMP_BIND_STAT. -/
  | bindCommandComplete (r : Nat)
  /-- AUTO_BIND (R173): An unbound key arriving on a fabric port starts an automatic binding from the template, at most one per 100 µs. -/
  | autoBind (r : Nat) (feid : Nat) (ld : Nat)
  /-- REQUEST_RESOLVE (R191): A request is decoded, remapped and ACU-checked part by part, ending served or with its failure outcome. -/
  | requestResolve (q : MemReq)
  /-- ACU_ERR_PEND_CLEAR (R207): A W1C write of ACU_ERR_INFO.PEND clears the failure record. -/
  | acuErrPendClear (r : Nat)
  /-- L2_CACHE_FILL (R194): A level-2 entry missing from the entry cache is read from HBM and filled, LRU in its set. `entry` is table × 512 + granule. -/
  | l2CacheFill (r : Nat) (entry : Nat)
  /-- ACU_WINDOW_WRITE (R209): A window write is checked, refused on a lock or invalid fields, and otherwise applies to later parts. `wordNo` 0 to 3 names a 64-bit word of the window. -/
  | acuWindowWrite (win : Nat) (wordNo : Nat) (value : Word)
  /-- L1_ENTRY_WRITE (R198): A write of L1 word 0 updates both copies in every unfenced region, or is refused. -/
  | l1EntryWrite (entry : Nat) (wordNo : Nat) (value : Word)
  /-- DUPLICATE_MISMATCH (R210): A lookup finds copies A and B differing and waits at most 40 ns for the repair. `flip` and `ecc`: what disturbed word 0 of the entry's copy. -/
  | duplicateMismatch (r : Nat) (t : DupTable) (entry : Nat) (copy : Nat) (flip : Word) (ecc : Nat)
  /-- DUPLICATE_REPAIR (R211): A difference is repaired by ECC, by WTAG, by reload from the chip copy, or by invalidating the entry. -/
  | duplicateRepair (r : Nat) (t : DupTable) (entry : Nat)
  /-- TABLE_SCRUB_STEP (R212): Every SCRUB_NS the region compares the next entry of each duplicated table. -/
  | tableScrubStep (r : Nat)
  /-- FRACTURE (R200): Takes a free level-2 table, fills it from the extent's mapping and sets FRACT, or fails with a status. -/
  | fracture (idx : Nat)
  /-- UNFRACTURE (R200): Folds a contiguous level-2 table back into the L1 entry and frees the table, or fails with a status. -/
  | unfracture (idx : Nat)
  /-- WRITE_L2 (R200): Writes RMP_CMD_DATA to one level-2 entry of a fractured extent. -/
  | writeL2 (idx : Nat) (gran : Nat)
  /-- READ_L2 (R200): Copies one level-2 entry to RMP_RES_DATA. -/
  | readL2 (idx : Nat) (gran : Nat)
  /-- REMAP_COMMAND_COMPLETE (R214): A remap command completes and RMP_RES with RMP_RES_DATA is updated as one result. -/
  | remapCommandComplete
  /-- HEARTH_REQUEST_ARRIVAL (R224): A request reaches its home slice and starts a transaction, or joins the line's wait list. -/
  | hearthRequestArrival (q : HomeReq)
  /-- TRANSACTION_START (R227): A transaction puts its line in T and sends snoops, expander accesses and responses by its state and request. `line` is POA[45:6]. -/
  | transactionStart (line : Nat)
  /-- DIRECTORY_CACHE_MISS (R220): A directory-cache miss reads the block from HBM and writes back the evicted block if changed. -/
  | directoryCacheMiss (line : Nat)
  /-- HOLD_EXPIRY (R225): HOLD_NS after a grant, snoops deferred for that agent on that line are sent. -/
  | holdExpiry (line : Nat) (agent : Nat)
  /-- BISNP_SEND (R226): A BISnp leaves the slice and starts its own home timeout. -/
  | bisnpSend (line : Nat) (agent : Nat)
  /-- BIRSP_RECEIVED (R228): A BIRsp is recorded, taken as BIRspI if invalid, or discarded as late. -/
  | birspReceived (line : Nat) (agent : Nat) (rsp : BiRsp)
  /-- SNP_DEAD_RECEIVED (R228): A SNP_DEAD is taken as BIRspI for a sharer, or poisons the line with HOST_LOST for the owner. -/
  | snpDeadReceived (line : Nat) (agent : Nat)
  /-- BISNP_TIMEOUT (R228): A BISnp timeout removes outstanding agents and poisons the line with TIMEOUT. -/
  | bisnpTimeout (line : Nat) (agent : Nat)
  /-- WRITEBACK_RECEIVED (R228): A WB is performed and completed, or discarded with PROTO_ERR when it is stray. -/
  | writebackReceived (q : HomeReq)
  /-- BICONFLICT (R229): A BIConflict is answered by BIConflictAck, ordered after completions already sent. -/
  | biconflict (line : Nat) (agent : Nat) (tag : Nat)
  /-- EXPANDER_RESPONSE (R228): Expander data or completion reaches the slice, possibly poisoned or a Slag answer, for the running transaction. -/
  | expanderResponse (line : Nat) (data : List Byte) (poison : Bool) (slag : Nat)
  /-- TRANSACTION_COMPLETE (R228): A transaction sends its response, updates the entry, starts any hold and starts the head of the wait list. -/
  | transactionComplete (line : Nat)
  /-- CAID_REQUEST (R231): A chip requests a CAID for an HDM-DB commit, allocating it itself or asking the manager. -/
  | caidRequest (vcs : Nat)
  /-- CAID_INSTALL (R231): The manager grants the lowest free CAID and installs it in HRT_AGENT on every chip. -/
  | caidInstall (agent : Nat) (feid : Nat)
  /-- CAID_REQUEST_TIMEOUT (R310): A CAID request not granted within 1 s fails the decoder commit. -/
  | caidRequestTimeout (vcs : Nat)
  /-- AGENT_REMOVAL (R233): An agent removal sets REMOVING, answers its snoops as SNP_DEAD, and starts directory sweeps. -/
  | agentRemoval (agent : Nat)
  /-- DIRECTORY_SWEEP_COMPLETE (R233): Every home chip reports its sweep complete and the CAID becomes free. -/
  | directorySweepComplete (agent : Nat)
  /-- READ_DIR (R237): HRT_CMD.READ_DIR reads one line's directory entry into HRT_RES and HRT_RES_DATA. -/
  | readDir (line : Nat)
  /-- HRT_CFG_WRITE (R237): A write of HRT_CFG sets HOLD_NS and TMO_US for later grants and snoops, or is refused out of range. -/
  | hrtCfgWrite (value : Word)
  /-- POISON_LOG_CLEAR (R236): A W1C write of HRT_POISON_LOG.PEND clears the poisoning record. -/
  | poisonLogClear (n : Nat)
  /-- HOTNESS_NOTICE (R239): A counted part sends a hotness notice to its slice, waiting for exact counts or dropping a sampled one. The oldest counted part of region `r`; `credit`: class 7 has a credit for a sampled notice. -/
  | hotnessNotice (r : Nat) (credit : Bool)
  /-- HOTNESS_COALESCE_FLUSH (R239): After 256 ns of coalescing, a region's exact notice for a granule is sent. -/
  | hotnessCoalesceFlush (r : Nat) (granule : Nat)
  /-- HOTNESS_EPOCH_CHANGE (R241): Every EPOCH_MS the banks rotate, slices flush their buffers, and the retired bank is zero-filled. -/
  | hotnessEpochChange
  /-- HOTNESS_FLUSH_COMPLETE (R241): The combining buffers are flushed and RMP_HOT_STAT is updated with VALID = 1. -/
  | hotnessFlushComplete
  /-- HOT_EN_WRITE (R241): Writing EN = 0 stops notices; writing EN = 1 zero-fills all banks before counting resumes. -/
  | hotEnWrite (value : Word)
  /-- MIGRATE (R244): A dispatched MIGRATE claims a slot and checks its parameters, or ends with a status. -/
  | migrate (e : Nat)
  /-- DRAIN_COMPLETE (R243): A resolving point's old phase has no accesses left, completing a drain. `pt` 0 to 3 a region's remap stage, 4 to 19 a slice. -/
  | drainComplete (pt : Nat)
  /-- COPY_PASS_COMPLETE (R249): A copy pass ends, and the dirty count decides between HOLD, another pass, or CONVERGE_FAIL. -/
  | copyPassComplete (k : Nat)
  /-- MIGRATION_HOLD (R251): HOLD is set, writes to the granule are held, and a final read-and-clear copy runs. -/
  | migrationHold (k : Nat)
  /-- HOLD_ABORT (R250): The final copy misses HOLD_MAX_NS − 150 ns, so the hold is released to the source and COPY resumes. -/
  | holdAbort (k : Nat)
  /-- MIGRATION_SWAP (R252): One write installs the new level-2 entry, invalidates caches, and releases held writes to the target. -/
  | migrationSwap (k : Nat)
  /-- MIGRATION_FINISH (R247): FINISH drains, sanitizes or unfractures if requested, frees the slot and writes the completion. -/
  | migrationFinish (k : Nat)
  /-- MIGRATION_LOSS (R255): A source or target lost, or a region fenced, before the swap ends the migration with the source mapping kept. `what` 0 the source lost, 1 the target lost, 2 a resolving region fenced with accesses outstanding for the slot, 3 the extent is being released. -/
  | migrationLoss (k : Nat) (what : Nat)
  /-- MIG_CFG_WRITE (R256): A write of RMP_MIG_CFG applies to later phases, or is refused when a field is out of range. -/
  | migCfgWrite (value : Word)
  /-- JOB_DISPATCH (R271): The dispatcher grants the oldest eligible job to an idle engine, which starts within 100 ns. -/
  | jobDispatch (c : Nat)
  /-- DM_LD (R262): Loads far data into local memory through the coprocessor, returning a ticket. `addr` and `off` the values of rs1 and rs2; `size` SIZE and `asr` the ASR that funct7 names. -/
  | dmLd (e : Nat) (rd : Nat) (asr : Nat) (size : Nat) (addr : Nat) (off : Nat)
  /-- DM_ST (R262): Stores local data to a far address after commit, returning a ticket. -/
  | dmSt (e : Nat) (rd : Nat) (asr : Nat) (size : Nat) (addr : Nat) (off : Nat)
  /-- DM_COPY (R262): Copies far source to far destination, with writes after commit, returning a ticket. -/
  | dmCopy (e : Nat) (rd : Nat) (asr : Nat) (size : Nat) (src : Nat) (dst : Nat)
  /-- DM_FILL (R262): Fills a far range with a 64-bit pattern after commit, returning a ticket. -/
  | dmFill (e : Nat) (rd : Nat) (asr : Nat) (size : Nat) (addr : Nat) (pattern : Word)
  /-- DM_AMO (R262): Performs a far atomic add, swap, and, or or CAS and returns the old value. `f` funct7 [2:0]. -/
  | dmAmo (e : Nat) (rd : Nat) (asr : Nat) (f : Nat) (addr : Nat) (operand : Word)
  /-- DM_WAIT (R263): Waits on a ticket, or on all with x0, and returns its status, clearing DM_ERR for x0. `ticket` the value of rs1, none for x0. -/
  | dmWait (e : Nat) (rd : Nat) (ticket : Option Nat)
  /-- DM_FENCE (R286): Orders far accesses at engine, cluster or system scope. -/
  | dmFence (e : Nat) (scope : Nat)
  /-- DM_CRC (R262): Computes CRC-32C over local memory from the DM_CRC seed. -/
  | dmCrc (e : Nat) (rd : Nat) (off : Nat) (length : Nat)
  /-- JOB_DONE (R274): A kernel ends its job with a status and two result words. -/
  | jobDone (e : Nat) (status : Nat) (off : Nat)
  /-- JOB_SUBMIT (R269): An engine submits a descriptor to a cluster's job queue and gets a status and JOB_ID. `target` the cluster number in rs2. -/
  | jobSubmit (e : Nat) (rd : Nat) (off : Nat) (target : Nat)
  /-- COPROCESSOR_COMMIT (R264): A DM or JOB instruction commits and its ticket is written to rd, releasing waiting writes. -/
  | coprocessorCommit (e : Nat)
  /-- SPECULATIVE_READ_DEFER (R265): A speculative read that would need a fill is answered DEFER and reissued at commit. -/
  | speculativeReadDefer (e : Nat) (ticket : Nat)
  /-- COPROCESSOR_SQUASH (R266): A mispredict, trap or interrupt removes younger coprocessor entries and counts them. `kept` how many entries are not younger than the branch, trap or interrupt. -/
  | coprocessorSquash (e : Nat) (kept : Nat)
  /-- FAR_RESPONSE (R267): A far response arrives and sets its ticket status, with poison, denials or Slag codes recorded. -/
  | farResponse (e : Nat) (tag : Nat) (status : Nat) (slag : Nat) (data : List Byte)
  /-- TNG_SUB_GO (R269): TNG_SUB_CMD.GO submits TNG_SUB_DESC, accepted with a JOB_ID or refused at admission. -/
  | tngSubGo (c : Nat)
  /-- DEVICE_JOB_SUBMIT (R268): The device queues a directory sweep or release zero-fill job in its reserved entries. A directory sweep for the agent `arg`, or with `fill` a release zero-fill of the extent `arg`. -/
  | deviceJobSubmit (c : Nat) (fill : Bool) (arg : Nat)
  /-- JOB_COPY (R272): COPY service copies LEN bytes from SRC to DST in ascending order. -/
  | jobCopy (e : Nat)
  /-- JOB_FILL (R272): FILL service writes a pattern over LEN bytes at DST. -/
  | jobFill (e : Nat)
  /-- JOB_CRC (R272): CRC service computes CRC-32C over LEN bytes at SRC. -/
  | jobCrc (e : Nat)
  /-- JOB_COMPARE (R272): COMPARE service compares SRC and DST and reports the first difference. -/
  | jobCompare (e : Nat)
  /-- DIR_SWEEP (R233): DIR_SWEEP poisons an agent's owned lines and removes it from precise lists. -/
  | dirSweep (e : Nat)
  /-- TELEM (R419): TELEM service writes periodic telemetry snapshots into a ring until cancelled or counted out. -/
  | telem (e : Nat)
  /-- TELEM_SNAPSHOT (R419): Every PERIOD_US the TELEM job writes one snapshot with its header. -/
  | telemSnapshot (e : Nat)
  /-- KERNEL_JOB (R272): A customer kernel service runs in U-mode and ends by JOB.DONE or a fault. `c`: what its ordinary instructions have done. -/
  | kernelJob (e : Nat) (c : CoreStep)
  /-- KERNEL_FAULT (R274): A kernel trap or invalid JOB.DONE status ends its job with KERNEL_FAULT. -/
  | kernelFault (e : Nat) (mcause : Nat) (mtval : Nat)
  /-- COMPLETION_RECORD_WRITE (R273): After the job's fence, a completion record is written at the tail with the lap's phase. -/
  | completionRecordWrite (e : Nat)
  /-- CQ_HEAD_WRITE (R273): A write of TNG_CQ_PTR.HEAD frees consumed completion records. -/
  | cqHeadWrite (c : Nat) (value : Word)
  /-- TNG_CANCEL_GO (R275): TNG_CANCEL_CMD cancels a queued job, signals a running one, or reports TOO_LATE or NOT_FOUND. -/
  | tngCancelGo (c : Nat) (job : Nat)
  /-- ENGINE_RESET (R276): An engine reset discards its queue, waits for issued accesses, writes ABORTED and reloads. `cause` 1 the owner's write, 3 taken out of service. -/
  | engineReset (e : Nat) (cause : Nat)
  /-- ENGINE_WATCHDOG (R276): A job running longer than WDOG_MS resets its engine. -/
  | engineWatchdog (e : Nat)
  /-- ENGINE_LOAD_COMPLETE (R276): An engine finishes loading its program within 20 µs and returns to IDLE. `program`: its bytes. -/
  | engineLoadComplete (e : Nat) (program : List Byte)
  /-- PROGRAM_RELOAD (R280): A delta image reloads engines one at a time per cluster, draining each before loading. -/
  | programReload (e : Nat)
  /-- JOIN (R299): A non-member sends JOIN once per LEASE_MS, and the manager admits it or refuses it with a cause. `m` none: LEASE_MS has passed and this chip sends its own; else one received by this chip. -/
  | joinFabric (m : Option JoinMsg)
  /-- JOIN_REFUSE (R299): A refused chip records the cause in MGT_FAB_MEMBER.REFUSE and keeps trying. -/
  | joinRefuse (cause : Nat)
  /-- DIST_PREP (R302): A member stages a prepared generation and acknowledges it, or sends RESYNC if it is behind. -/
  | distPrep (sender : Nat) (epoch : Nat) (g : FabGen)
  /-- DIST_COMMIT (R302): A member applies a staged generation, table by table in one step. -/
  | distCommit (epoch : Nat) (gen : Nat)
  /-- DIST_ABORT (R306): A member discards a prepared generation. -/
  | distAbort (epoch : Nat) (gen : Nat)
  /-- ACK (R305): The manager takes a member's acknowledgement of a message and generation with its highest epoch. -/
  | ackFabric (chip : Nat) (type : Nat) (gen : Nat) (highest : Nat)
  /-- RESYNC (R302): The manager answers a member's RESYNC with the whole state in one generation. -/
  | resync (chip : Nat) (gen : Nat)
  /-- STANDBY_ACK_TIMEOUT (R303): The standby fails to acknowledge within 2 ms; NO_STANDBY is set and the generation continues without it. -/
  | standbyAckTimeout
  /-- ANNOUNCE_SEND (R305): Every LEASE_MS ÷ 8 the acting manager sends ANNOUNCE. -/
  | announceSend
  /-- ANNOUNCE (R305): A chip receiving ANNOUNCE accepts it or ignores it by epoch and lease, and always answers with ACK. -/
  | announce (m : AnnounceMsg)
  /-- LEASE_LAPSE (R305): A chip accepts no ANNOUNCE for LEASE_MS and its view of the lease lapses; a standby starts a vote. -/
  | leaseLapse
  /-- VOTE_REQ (R306): A worker receiving VOTE_REQ votes once per epoch once its own lease has lapsed. -/
  | voteReq (chip : Nat) (proposed : Nat)
  /-- VOTE (R306): The standby counts a vote and, with Q votes, announces and becomes acting manager. -/
  | vote (chip : Nat) (proposed : Nat) (highest : Nat)
  /-- MANAGER_ISOLATED (R307): An acting manager with ACKs from fewer than Q workers over LEASE_MS enters ISOLATED. -/
  | managerIsolated
  /-- MANAGER_LISTEN_END (R307): A strapped manager that heard no ANNOUNCE in 2 × LEASE_MS after reset announces itself. -/
  | managerListenEnd
  /-- HANDOVER_WRITE (R308): MGT_FAB_CTL.HANDOVER starts a planned handover to the standby, with the result in MGT_FAB_RES. -/
  | handoverWrite (value : Word)
  /-- HANDOVER (R308): The standby receiving HANDOVER announces epoch E + 1 without a vote. -/
  | handoverMessage (epoch : Nat) (gen : Nat)
  /-- LINK_REPORT (R304): A member reports its fabric link states within 10 µs of any change. `r` none: this chip's own links changed; else one received by this chip, with the forwarding entries the manager computes from it. -/
  | linkReport (r : Option LinkReport) (tables : List FabChange)
  /-- CHIP_UNREACHABLE (R309): The manager declares a chip unreachable by a generation that quenches its targets and removes its CAIDs. -/
  | chipUnreachable (chip : Nat)
  /-- FABRIC_FORWARD (R311): A packet for another chip is sent on a hashed usable alternative, or answered REMOTE_DOWN. `origin` the packet starts on this chip. -/
  | fabricForward (blk : Nat) (origin : Bool) (f : FabPkt)
  /-- TTL_EXPIRED (R312): A packet for another chip arriving with TTL = 0 is answered NO_ROUTE and counted. -/
  | ttlExpired (blk : Nat) (f : FabPkt)
  /-- FABRIC_LINK_LOSS_REROUTE (R313): A lost link's alternative is marked unusable within 1 µs and affected streams move after draining. `drained` every packet sent on the old path has been delivered or answered. -/
  | fabricLinkLossReroute (p : Nat) (drained : Bool)
  /-- MIXED_REVISION_RETRAIN (R317): The manager retrains a link at the lower chip ID to a higher revision when alternatives exist. `partnerOk` every destination routed over the link has another usable alternative at the partner. -/
  | mixedRevisionRetrain (blk : Nat) (partnerOk : Bool)
  /-- MIXED_CONDITION_CHANGE (R316): Entering or leaving MIXED withholds or restores revision-2 features within 1 µs. -/
  | mixedConditionChange
  /-- ERASE (R328): Erases an image slot and its slot record, refused for the boot slot. -/
  | imgErase (sl : Nat)
  /-- WRITE (R328): Programs 4 KiB of MGT_IMG_BUF into a slot and reads it back. `readBack` what the 4 KiB read back as once programmed. -/
  | imgWrite (sl : Nat) (offset : Nat) (readBack : List Byte)
  /-- CHECK (R325): Verifies a slot's image in order and marks it CHECKED, or stops at the first failing check. `rule` the first broken image rule, `img` what the image in the slot says. -/
  | imgCheck (sl : Nat) (rule : Option RuleItem) (img : ImgContent)
  /-- COMMIT (R328): Writes a slot record with the next SEQ so the slot becomes the boot slot. -/
  | imgCommit (sl : Nat)
  /-- APPLY (R329): Pre-checks and applies a CHECKED image, switching CHIP sections then REGION sections region by region. `img` what the image in the slot says, used where the slot is not CHECKED. -/
  | imgApply (sl : Nat) (img : ImgContent)
  /-- IMAGE_COMMAND_COMPLETE (R340): An image command completes and MGT_IMG_RES is updated. -/
  | imageCommandComplete
  /-- GEN_ID (R335): Generates a pending P-384 identity key pair from the TRNG. -/
  | keyGenId
  /-- ROTATE (R335): Checks a new key record, wraps the identity key, and programs it with a commit record. `readBackOk` the programmed record reads back right. -/
  | keyRotate (readBackOk : Bool)
  /-- REVOKE (R335): Blows a root slot's revocation word unless it is the last usable or the signer in force. -/
  | keyRevoke (n : Nat)
  /-- PROG_ROOT (R335): Blows a root hash and then its valid word into a BLANK slot. -/
  | keyProgRoot (n : Nat)
  /-- RAISE_SVN (R335): Blows thermometer fuses up to a new SVN floor. -/
  | keyRaiseSvn (floor : Nat)
  /-- KEY_COMMAND_COMPLETE (R341): A key command completes and KEY_RES is updated. -/
  | keyCommandComplete
  /-- TRNG_STARTUP_COMPLETE (R337): The TRNG start-up tests and seeding finish and READY is set. -/
  | trngStartupComplete
  /-- TRNG_HEALTH_FAILURE (R338): A health-test failure clears READY and restarts start-up, setting FAILED after four failures. `apt` the adaptive proportion test failed, else the repetition count test. -/
  | trngHealthFailure (apt : Bool)
  /-- TRNG_RESEED (R337): Every second the DRBG is reseeded from new samples while output continues. -/
  | trngReseed
  /-- NEXT (R338): KEY_TRNG_CMD.NEXT produces a new 64-bit random output. -/
  | trngNext
  /-- BOOT_RECORDS_READ (R366): BOOT has read the key and slot records and the chip enters VERIFY. -/
  | bootRecordsRead
  /-- BOOT_VERIFY_RESULT (R327): Verification of the slots in descending SEQ ends with a boot slot, possible fallback, or SAFE. The first broken rule and the contents of the image in each slot. -/
  | bootVerifyResult (ruleA : Option RuleItem) (imgA : ImgContent) (ruleB : Option RuleItem) (imgB : ImgContent)
  /-- OPEN (R343): Opens a management session with the lowest free number, or returns SESSIONS_FULL. `path` 0 CCI, 1 I3C, 2 Ethernet, 3 SFL; `place` the port, bus or remote chip; `peer` the far end where a place has several. -/
  | openSession (path : Nat) (place : Nat) (peer : Nat) (tag : Nat)
  /-- CLOSE (R343): Closes a session, ending ownership if it is the owner. -/
  | closeSession (ses : Nat) (tag : Nat)
  /-- SESSION_IDLE_TIMEOUT (R343): A session with no message for IDLE_S is closed. -/
  | sessionIdleTimeout (ses : Nat)
  /-- SESSION_PATH_LOSS (R343): A session's path is lost and the session is closed. -/
  | sessionPathLoss (ses : Nat)
  /-- REG_READ (R354): Reads DRS registers by size and alignment, latching halves and clearing RC fields when the owner reads. `size` 0 to 3 is 8, 16, 32, 64 bits. -/
  | regRead (ses : Nat) (tag : Nat) (addr : Nat) (size : Nat) (count : Nat)
  /-- REG_WRITE (R354): Writes DRS registers with merging, half holding and refusals; registers without a row of their own are written here. `data` the payload, least-significant byte first; `env` what commands written to registers meet outside them. -/
  | regWrite (ses : Nat) (tag : Nat) (addr : Nat) (size : Nat) (count : Nat) (data : List Byte) (env : WriteEnv)
  /-- CLAIM (R349): Enters a claim into an owner election, opening one if no lease holds, or returns OWNER_HELD or NOT_READY. -/
  | claim (ses : Nat) (tag : Nat) (prio : Nat)
  /-- ELECTION_WINDOW_CLOSE (R349): 10 ms after opening, the highest claim wins and the others get ELECTION_LOST. -/
  | electionWindowClose
  /-- RENEW (R350): The owner renews its lease for 2 s. -/
  | renew (ses : Nat) (tag : Nat)
  /-- OWNER_LEASE_LAPSE (R350): An owner lease reaching 2 s without renewal lapses and no session owns the chip. -/
  | ownerLeaseLapse
  /-- OWN_HANDOVER (R351): The owner hands ownership to an open session with a fresh lease, or gets NO_SESSION. -/
  | ownHandover (ses : Nat) (tag : Nat) (successor : Nat)
  /-- RELEASE (R351): The owner ends its ownership at once. -/
  | releaseOwnership (ses : Nat) (tag : Nat)
  /-- EVENT_QUEUE (R358): An event record is queued in the ring, or counted in OVF when no place is free for its class. -/
  | eventQueue (ev : Nat) (cls : Nat) (detail : Nat)
  /-- EVENT (R359): The device sends up to 64 queued event records to the owner in SEQ order. -/
  | eventSend
  /-- EVENT_ACK (R359): Frees event records through the named SEQ when it is queued and unacknowledged. -/
  | eventAck (ses : Nat) (tag : Nat) (seq : Nat)
  /-- EVT_ACK_WRITE (R359): A write of MGT_EVT_ACK frees event records as EVENT_ACK does. -/
  | evtAckWrite (value : Word)
  /-- EVENT_RESEND_TIMEOUT (R359): Records unacknowledged for 100 ms are sent again. -/
  | eventResendTimeout
  /-- FM_API (R345): Carries an FM API command over a non-CCI path. -/
  | fmApi (ses : Nat) (tag : Nat) (c : FmCmd)
  /-- MEM_READ (R345): A management memory read of up to 4,064 bytes, resolved in region A. -/
  | memRead (ses : Nat) (tag : Nat) (asd : Word) (addr : Nat) (len : Nat)
  /-- MEM_WRITE (R345): A management memory write, resolved in region A. -/
  | memWrite (ses : Nat) (tag : Nat) (asd : Word) (addr : Nat) (data : List Byte)
  /-- UNKNOWN_TYPE_MESSAGE (R345): A Weusk message of an unlisted type is answered UNKNOWN_TYPE. `length` the frame's LENGTH, `bytes` the payload bytes received. -/
  | unknownTypeMessage (ses : Nat) (tag : Nat) (ver : Nat) (type : Nat) (length : Nat) (bytes : Nat)
  /-- UDP_DUPLICATE_REQUEST (R347): A UDP request repeating the last TAG is answered with the kept response and not performed. -/
  | udpDuplicateRequest (ses : Nat) (tag : Nat)
  /-- RESET_N_ASSERT (R370): RESET_N low past the filter puts the chip in RESET. -/
  | resetNAssert
  /-- RESET_END (R365): Reset ends, the straps are sampled, and the chip enters BOOT or SAFE. `cause` which cause ends, 1 RESET_N, 2 REBOOT, 3 brown-out; `role` and `bootSrc` the straps, `pins` the levels of PERST_N. -/
  | resetEnd (cause : Nat) (role : Nat) (bootSrc : Bool) (pins : Word)
  /-- BROWN_OUT (R370): A rail below its low limit for 1 µs causes a brown-out reset until every rail recovers plus 1 ms. `lost` power is lost. -/
  | brownOut (rail : Nat) (lost : Bool)
  /-- REBOOT (R370): PWR_CTL.REBOOT gives a 10 µs reset. -/
  | reboot
  /-- TEST (R364): PWR_CTL.TEST enters TEST from SAFE, refused outside SAFE. -/
  | enterTest
  /-- BOUNDARY_SCAN_TEST (R364): Loading EXTEST, INTEST or CLAMP takes every link down and enters TEST. -/
  | boundaryScanTest
  /-- HBM_INIT_DONE (R366): HBM initialisation completes or fails; failure enters SAFE with HBM_FAIL. `kept` the firmware partition's integrity check passes; `sram` and `hbm` the totals of the SRAM and HBM pools. -/
  | hbmInitDone (ok : Bool) (kept : Bool) (sram : Nat) (hbm : Nat)
  /-- PROVISION_COMPLETE (R367): Sections applied, directory initialised and engines loaded end PROVISION and begin SERVICE. -/
  | provisionComplete
  /-- RECOVER (R369): PWR_CTL.RECOVER starts RECOVERY for each permitted fenced region. -/
  | recoverRegions (mask : Nat)
  /-- REGION_RECOVERY_END (R369): A region's reload completes and its gate opens, or it fails and the region is fenced again. -/
  | regionRecoveryEnd (r : Nat) (ok : Bool)
  /-- PERST_N_ASSERT (R372): PERST_N on an upstream block takes the link down, removes the agent and resets VCS configuration. -/
  | perstAssert (blk : Nat)
  /-- PERST_N_DEASSERT (R372): PERST_N deasserts and bring-up starts at the later of that and PROVISION. -/
  | perstDeassert (blk : Nat)
  /-- BANK_WRITE (R375): A write of PWR_BANK_PORT, PWR_BANK_UNIT or BANK_ALL requests banking of units. `which` 0 PWR_BANK_PORT0, 1 PWR_BANK_PORT1, 2 PWR_BANK_UNIT, 3 PWR_CTL.BANK_ALL. -/
  | bankWrite (which : Nat) (value : Word)
  /-- UNIT_BANKED (R375): A unit with its bank bit set drains and enters Banked. `u` a port 0 to 127, a cluster from 128, a slice from 144; `l1` L1 is permitted. -/
  | unitBanked (u : Nat) (l1 : Bool)
  /-- BANK_DEMAND_WAKE (R376): Demand wakes a banked unit within 25 µs. -/
  | bankDemandWake (u : Nat)
  /-- BANK_IDLE_REBANK (R376): A unit idle for IDLE_US with its bit set banks again. -/
  | bankIdleRebank (u : Nat) (l1 : Bool)
  /-- FAULT_CAUSE (R382): A non-notice cause reaches its collector and starts a record, merges or escalates. -/
  | faultCause (ev : Nat) (cls : Nat) (detail : Nat) (inj : Bool)
  /-- FLT_PEND_CLEAR (R384): A W1C write of FLT_REC.PEND clears the record when its event is not active. -/
  | fltPendClear (c : Nat)
  /-- FLT_FATAL_CLEAR (R384): A W1C write of FLT_REG_STAT.FATAL clears the region fatal status when its event is not active. -/
  | fltFatalClear (r : Nat)
  /-- REGION_FENCE (R385): A region-fatal cause closes the gate, quenches, takes links down and makes the region FENCED. -/
  | regionFence (r : Nat)
  /-- LOST_HOME_SCAN (R387): A lost home's trackers and write buffer are scanned and their lines set to P with TIMEOUT. -/
  | lostHomeScan (n : Nat) (ok : Bool)
  /-- CHIP_FATAL (R388): A chip-fatal cause stops EMBER, asserts FAULT_N, sets FATAL and fences every region. -/
  | chipFatalCause (ev : Nat)
  /-- EMBER_TOGGLE (R389): EMBER changes level at each half of a 1/1,024 s interval. -/
  | emberToggle
  /-- FLT_INJ_GO (R391): FLT_INJ_CTL arms an error injection on a target, or refuses or reports BAD_TARGET. -/
  | fltInjGo (value : Word)
  /-- INJECTION_APPLY (R391): The armed injection inverts check bits on the next write or flit of its target. -/
  | injectionApply
  /-- INJECTION_TIMEOUT (R391): No write or flit reaches the target within 1 s, and the result is NOT_APPLIED. -/
  | injectionTimeout
  /-- WEAR_SAMPLE (R392): A wear monitor samples its cell and, on a trigger, raises the event and may bring in a spare. `what` 0 router, 1 engine, 2 slice, 3 port-block PHY, 4 HBM controller (aging), 5 lane margin, 6 SRAM of a region, 7 wire 4 × router + link; `u` which. -/
  | wearSample (what : Nat) (u : Nat) (value : Nat)
  /-- SPARE_SLICE_REPLACE (R394): A spare slice replaces a slice by draining, writing back and switching NIs. -/
  | spareSliceReplace (n : Nat) (fault : Bool) (scanOk : Bool)
  /-- SPARE_ENGINE_REPLACE (R395): A spare engine takes an engine's number and program after its job ends or it is reset. -/
  | spareEngineReplace (e : Nat) (fault : Bool)
  /-- SRAM_SOFT_REPAIR (R393): An SRAM row is copied to a spare and remapped, or retired when no spare is left. `spare` the macro has a spare row or column left. -/
  | sramSoftRepair (r : Nat) (spare : Bool)
  /-- HBM_SOFT_PPR (R393): An HBM row is repaired by soft PPR in service. `line` the HBM address ÷ 64 of the error. -/
  | hbmSoftPpr (ch : Nat) (line : Nat) (spare : Bool)
  /-- CLEAR_LANE (R398): Frees a block's spare lane when both halves are DOWN. -/
  | clearLane (u : Nat)
  /-- RETIRE_ENGINE (R453): Brings a spare in for an engine, or completes NO_SPARE. -/
  | retireEngine (u : Nat)
  /-- RETIRE_SLICE (R453): Brings a spare in for a slice, or completes NO_SPARE. -/
  | retireSlice (u : Nat)
  /-- DEG_CLEAR (R396): A W1C write of FLT_STAT.DEG clears DEGRADED only when no pool has unmet demand. -/
  | degClear
  /-- POOL_UNMET_DEMAND (R396): A pool that cannot meet demand sets UNMET and DEG and raises event 6. -/
  | poolUnmetDemand (p : Nat)
  /-- PPS_OUT_EDGE (R401): At each whole second of the counter, PPS_OUT is driven high for PPS_W_MS. -/
  | ppsOutEdge
  /-- TIM_NOW_READ (R402): A 64-bit read of TIM_NOW_LO captures the time and latches the seconds for the session. -/
  | timNowRead (ses : Nat) (tag : Nat)
  /-- SERVO_UPDATE (R403): A servo update steps or slews the counter and adjusts FREQ, moving through the servo states. -/
  | servoUpdate
  /-- PTP_SYNC (R405): A PTP event message is timestamped and a Sync provides a servo sample. `sender` the master's port identity; `t1` when it sent the Sync, `t3` and `t4` when the last Delay_Req left here and reached it, in the format of R126. -/
  | ptpSync (domain : Nat) (sender : Nat) (t1 : Nat) (t3 : Nat) (t4 : Nat)
  /-- PPS_IN_EDGE (R405): A PPS_IN rising edge is timestamped and gives a servo sample. -/
  | ppsInEdge
  /-- TIME_REFERENCE_LOSS (R404): The reference is lost after its timeout and the servo enters HOLDOVER. `source` 0 PTP, 1 PPS_IN, 2 TIMING units. -/
  | timeReferenceLoss (source : Nat)
  /-- SET (R406): TIM_CMD.SET loads the counter from TIM_SET on the acting manager. -/
  | timSet
  /-- ADJ (R406): TIM_CMD.ADJ adds ADJ_NS to the counter on the acting manager. `adj` is ADJ_NS as the register holds it. -/
  | timAdj (adj : Nat)
  /-- TELEMETRY_CONVERSION (R410): A converter sample updates its register, marks STALE as needed, and checks reference and fault. `c` a sensor, 96 the reference; `result` 0 OK, 2 RANGE, 3 FAULT; `man` a manual conversion. -/
  | telemetryConversion (c : Nat) (code : Nat) (result : Nat) (man : Bool)
  /-- THERMAL_STATE_CHANGE (R412): 16 consecutive samples past a threshold move a sensor's thermal state and apply throttle or fatal. -/
  | thermalStateChange (c : Nat)
  /-- CNT_SNAP (R415): CNT_CTL.SNAP copies counters into the snapshot registers. `u` a region, 4 the chip. -/
  | cntSnap (u : Nat)
  /-- CNT_CLR (R415): CNT_CTL.CLR zeroes counters and SAT bits. -/
  | cntClr (u : Nat)
  /-- CLR_PEAK (R416): CNT_CTL.CLR_PEAK resets the peak bandwidth values. -/
  | clrPeak
  /-- BW_WINDOW_END (R416): At each window end the port bandwidth registers are updated. `inB`, `outB` the bytes of the window. -/
  | bwWindowEnd (p : Nat) (inB : Nat) (outB : Nat)
  /-- TRACE_RECORD (R417): A traced packet produces a Velair record, written or dropped: the oldest that a probe, a hop, an ejection or a fabric egress has given. `credit` the record finds credit. -/
  | traceRecord (credit : Bool)
  /-- START (R418): CNT_TRC_CTL.START starts trace capture and clears FULL. -/
  | start
  /-- STOP (R418): CNT_TRC_CTL.STOP stops trace capture. -/
  | stop
  /-- PMBUS_POLL (R424): Each POLL_MS a slot's HSC is polled, with retry, error counts and TEL_LOST. `first`, `retry` the transaction and its retry pass; the values in the units of SLT_MEAS, `energy` mJ since the last poll. -/
  | pmbusPoll (n : Nat) (first : Bool) (retry : Bool) (vin : Nat) (vout : Nat) (iout : Nat) (pin : Nat) (energy : Nat)
  /-- SLOT_CHAIN_FRAME (R425): Every 25 µs the slot chain shifts a frame of outputs and inputs. `inputs` the eight input bits of each slot, slot 0 first. -/
  | slotChainFrame (inputs : List Nat)
  /-- SLOT_COMMANDED_ON (R427): A slot commanded on sets its limit, clears faults and enables power in INRUSH. -/
  | slotCommandedOn (n : Nat)
  /-- SLOT_PGOOD (R427): PGOOD rising moves INRUSH to SETTLE. -/
  | slotPgood (n : Nat)
  /-- SLOT_SETTLE_END (R427): SETTLE_MS passes and the running current limit is written. -/
  | slotSettleEnd (n : Nat)
  /-- SLOT_PERST_RELEASE (R427): PERST_MS after PGOOD, PERST_N is released and bring-up begins. -/
  | slotPerstRelease (n : Nat)
  /-- SLOT_OFF_COMMAND (R427): A slot no longer commanded on asserts PERST_N and then removes power. -/
  | slotOffCommand (n : Nat)
  /-- SLOT_TRIP (R428): An over-current, under-voltage, fault, PGOOD loss or PG timeout removes power and records the trip. `why` the CAUSE: 1 OC, 2 UV, 3 PG_TIMEOUT, 4 PG_LOST, 5 HSC. -/
  | slotTrip (n : Nat) (why : Nat)
  /-- SLOT_RETRY (R428): The retry wait ends and the slot tries again, or enters LOCKOUT after RETRY_MAX. -/
  | slotRetry (n : Nat)
  /-- SLOT_STABLE_RESET (R428): A slot ON for 10 s sets TRIES back to 0. -/
  | slotStableReset (n : Nat)
  /-- FET_FAIL (R429): VOUT or PGOOD present while OFF enters FET_FAIL. -/
  | fetFail (n : Nat)
  /-- SLOT_CLEAR (R428): SLT_CTL.CLEAR leaves LOCKOUT or FET_FAIL when conditions allow. -/
  | slotClear (n : Nat)
  /-- PWRBRK_ASSERT (R430): An input under-voltage warning, low VIN or SLT_CTL.PWRBRK asserts PWRBRK_N. `warning` STATUS_WORD shows an input under-voltage warning. -/
  | pwrbrkAssert (n : Nat) (warning : Bool)
  /-- PWRBRK_RELEASE (R430): VIN above threshold for 10 ms with PWRBRK clear releases PWRBRK_N. -/
  | pwrbrkRelease (n : Nat)
  /-- SLOT_PRESENCE_LOSS (R431): Loss of presence removes power as an unplanned OFF. -/
  | slotPresenceLoss (n : Nat)
  /-- CYCLE (R431): SLT_CTL.CYCLE powers a slot off and on again after RETRY_MIN_MS. -/
  | cycle (n : Nat)
  /-- ATTENTION_BUTTON (R431): The attention button sets Attention Button Pressed in the bound vPPB. -/
  | attentionButton (n : Nat)
  /-- REFCLK_LOSS (R444): A lost PCIE_REFCLK drops its blocks' links, and a lost SFL_REFCLK makes the chip fatal. `k` 0 to 15 PCIE_REFCLK[k], 16 SFL_REFCLK. -/
  | refclkLoss (k : Nat)
  /-- REFCLK_RESTORE (R444): A clock back within limits for 100 µs lets links retrain or lets the chip leave RESET. `role`, `bootSrc` and `pins` the straps and the levels of PERST_N, sampled where the chip leaves RESET. -/
  | refclkRestore (k : Nat) (role : Nat) (bootSrc : Bool) (pins : Word)
  /-- IDE_KEY_SET_UP (R85): An SPDM secure session with the partner completes CXL IDE key set-up, the stream becomes secure and a port with IDE_POL require starts forwarding CXL.cache and CXL.mem traffic. `mode` 0 no CXL.cachemem stream, 1 containment, 2 skid; `io` the CXL.io link stream is secure. -/
  | ideKeySetUp (p : Nat) (mode : Nat) (io : Bool)
  /-- REMOTE_BINDING (R81): A Weusk request binds or unbinds a vPPB to a target on another chip; it sets BUSY and is refused with MODE_WITHHELD while MIXED or busy with no manager. `mixed` the target's chip is MIXED. -/
  | remoteBinding (ses : Nat) (tag : Nat) (vppb : Nat) (feid : Nat) (ld : Option Nat) (bind : Bool) (mixed : Bool) (answer : FmExt)
  /-- HOTNESS_ZERO_FILL_COMPLETE (R241): The zero-fill of the hotness banks started by writing EN = 1 completes and hotness counting resumes. -/
  | hotnessZeroFillComplete
  /-- PTP_ANNOUNCE (R405): A PTP Announce message is received and the best master is chosen by the IEEE 1588 dataset comparison, setting PTP_OK. -/
  | ptpAnnounce (m : PtpMaster)
  /-- UPSTREAM_TIMEOUT (R407): 100 µs pass without a CRC-good TIMING unit from a worker's upstream, which is then no longer eligible, so the worker picks another upstream or none and updates HOPS. -/
  | upstreamTimeout
  deriving DecidableEq, Repr

end Sys2Proof
end

