-- ==== Sys2Proof/Decode.lean ====
section
/-! DEFINITION. The spec's table gives its rows no bits (every row's list of fields is empty): no word spells a command, and the decoder says so. -/

namespace Sys2Proof

/-- The command that a word spells by the table's bits: none, because no row of the table gives bits. -/
def decodeTableWord (_nbits _w : Nat) : Option Instr := none

end Sys2Proof
end

