-- ==== Sys2Proof/Config.lean ====
section
/-! DEFINITION. What the spec leaves to the part: the free values, constants with no body that nothing can evaluate. -/

namespace Sys2Proof.Config

/-- A 64-bit value the spec leaves open, by the model's own counter (log entry 8). -/
opaque freeWord : Nat → Word

/-- The next output of the TRNG (R337, R338): what it is the spec cannot state (log entry 8). -/
opaque trngOut : Nat → Word

/-- The source detail of an event, by its number and what it is raised for (R358, R380): the spec gives the detail of events 496 to 499 alone (log entry 44). -/
opaque sourceDetail : Nat → Nat → Word

/-- PARAM of a message for which R345 defines none, by its type and TAG (log entry 45). -/
opaque openParam : Nat → Nat → Word

/-- TAG of a message that the device sends unasked (R344; log entry 45). -/
opaque openTag : BitVec 16

/-- The receive buffer per class of a management NI in flits: R155 gives the others' and not this one (log entry 22). -/
opaque mgmtBuffer : Nat

/-- The message type an answer of the Slag sink carries in OPC (R142, R163): the spec gives OPC no values (log entry 22). -/
opaque answerOpc : Nat → Nat

/-- What kind of message an OPC names (R142): the spec gives OPC no values (log entry 22). -/
opaque pktKind : Nat → PktKind

/-- The bytes that a CXL.io request with this OPC and body asks for: the spec gives OPC no values and the body no layout (log entry 80). -/
opaque askedBytes : Nat → List Byte → Nat

/-- The body of piece i of a CXL.io read that the egress splits (R65; log entry 80). -/
opaque readPiece : List Byte → Nat → List Byte

/-- The region whose channels hold the first copy of a 1 KiB chunk of the chip copies; the second lies in region (r xor 2) (R16, R386: the layout is not published; log entry 85). -/
opaque chunkRegion : Nat → Nat

/-- The bytes of a line whose data is lost or untrusted, as a poisoned answer carries them (R228; log entry 86). -/
opaque lostLine : Nat → List Byte

/-- SHA-384 of bytes, 48 bytes (R322, R325, R331): the spec names it and does not give it (log entry 34). -/
opaque sha384 : List Byte → List Byte

/-- An ECDSA P-384 verification (R323, R333) by public key X‖Y, digest and signature r‖s (log entry 34). -/
opaque ecdsaP384 : List Byte → List Byte → List Byte → Bool

/-- The P-384 public key X‖Y, 96 bytes, of the private key that the TRNG gave (R335; log entry 34). -/
opaque p384Public : Nat → List Byte

/-- The 256-bit key derived from the device-unique secret, under which the identity key is wrapped (R332, R335): no register reads the secret (log entry 34). -/
opaque wrapKey : Nat

/-- The status that flags the denial of a session's memory request: R206 has it flagged, R346 names no status for it (log entry 41). -/
opaque denialStatus : Nat → WStatus

end Sys2Proof.Config
end

