-- ==== Sys2Proof/Machine/Table.lean ====
section
/-! DEFINITION. Sparse tables in one canonical form: a list of (key, value) pairs, keys strictly rising, no entry equal to
what an unlisted key reads as. The register file, the memories and the numbered units of the block are such tables. -/

namespace Sys2Proof.Machine

/-- A sparse table of values by number. -/
abbrev Tbl (α : Type) := List (Nat × α)

variable {α : Type}

/-- The entry listed at a key. -/
def Tbl.find (m : Tbl α) (k : Nat) : Option α :=
  match m with
  | [] => none
  | (a, b) :: m => if a = k then some b else Tbl.find m k

/-- The table with an entry put in its place by key. -/
def Tbl.put (m : Tbl α) (k : Nat) (v : α) : Tbl α :=
  match m with
  | [] => [(k, v)]
  | (a, b) :: m =>
    if k < a then (k, v) :: (a, b) :: m
    else if a = k then (k, v) :: m
    else (a, b) :: Tbl.put m k v

/-- The table without the entry at a key. -/
def Tbl.del (m : Tbl α) (k : Nat) : Tbl α :=
  match m with
  | [] => []
  | (a, b) :: m => if a = k then Tbl.del m k else (a, b) :: Tbl.del m k

/-- What a key reads as, `d` giving the value of every unlisted key. -/
def Tbl.rd (d : Nat → α) (m : Tbl α) (k : Nat) : α := (m.find k).getD (d k)

/-- A write that keeps the canonical form: the value an unlisted key reads as removes the entry. -/
def Tbl.wr [DecidableEq α] (d : Nat → α) (m : Tbl α) (k : Nat) (v : α) : Tbl α :=
  if v = d k then m.del k else m.put k v

/-- Keys strictly rising, all above `lo`. -/
def Tbl.sortedFrom (lo : Nat) : Tbl α → Bool
  | [] => true
  | (a, _) :: m => decide (lo ≤ a) && Tbl.sortedFrom (a + 1) m

/-- The canonical form of a table. -/
def Tbl.wf [DecidableEq α] (d : Nat → α) (m : Tbl α) : Bool :=
  Tbl.sortedFrom 0 m && m.all fun e => e.2 ≠ d e.1

end Sys2Proof.Machine
end

