-- ==== Sys2Proof/Machine/State.lean ====
section
/-! DEFINITION. The state of the block: every register, table, queue, buffer, counter and pin the spec gives it, and the queue of waiting commands. -/

namespace Sys2Proof.Machine

/-- The operating phase that the start-up sequence sets (R361): the start-up modes, the standalone modes, and the operating group. -/
inductive Phase where
  | reset | boot | verify | provision | safe | test | operating
  deriving DecidableEq, Repr

/-- The fabric time counter (R400): seconds of 48 bits, nanoseconds of 32, and the 48 fraction bits kept inside. -/
structure FabTime where
  sec : Nat
  ns : Nat
  frac : Nat
  deriving DecidableEq, Repr

/-- A port block's lanes (R36, R50 to R58): the marked pairs in the order they were marked, the common count of PRBS bits in units of 1,024, and whether the spare was
switched at the present entry to Recovery or Detect (R52). -/
structure BlockState where
  marks : List Nat
  prbsBitsK : Nat
  switched : Bool
  deriving DecidableEq, Repr

/-- A block after reset. -/
def BlockState.idle : BlockState := ⟨[], 0, false⟩

/-- A lane circuit's running PRBS check (R58): bit errors, saturation, lock. -/
structure PrbsLane where
  err : Nat
  sat : Bool
  locked : Bool
  deriving DecidableEq, Repr

/-- A checker before any pattern. -/
def PrbsLane.idle : PrbsLane := ⟨0, false, false⟩

/-- A logical port in bring-up (R45, R46, R48): the stage it is in (0 none, 1 to 9), the highest rate it climbs to, whether equalisation bypass
applies, the pairs that passed stage 3, what the partner advertises (L0p, highest rate), and the width an L0p change moves to,
whether the block asked for that change, and lane reversal (R42). -/
structure PortState where
  stage : Nat
  target : Nat
  bypass : Bool
  l0p : Bool
  partnerRate : Nat
  l0pTo : Option Nat
  byBlock : Bool
  reversed : Bool
  deriving DecidableEq, Repr

/-- A port that is not in bring-up. -/
def PortState.idle : PortState := ⟨0, 0, false, false, 0, none, false, false⟩

/-- A bind or unbind that runs on a vPPB (R70): a bind with its target, or an unbind with its option; the target's local port, or 512 + FEID of one on another chip; the CCI or
session that asked, and whether the target's link dropped meanwhile. -/
structure BindOp where
  bind : Bool
  option : Nat
  target : Nat
  ld : Option Nat
  cci : Nat
  dropped : Bool
  deriving DecidableEq, Repr

/-- A vPPB's slot as its host sees it (R70, R79): Attention Button Pressed, Data Link Layer State Changed, Presence Detect Changed, power control off, DPC enabled and
triggered, the running bind or unbind, and an AER status generated by the FM (R83). -/
structure Vppb where
  attn : Bool
  dllsc : Bool
  pdc : Bool
  powerOff : Bool
  dpcEn : Bool
  dpc : Bool
  op : Option BindOp
  aer : Nat
  deriving DecidableEq, Repr

/-- A vPPB's slot with no event and power on. -/
def Vppb.idle : Vppb := ⟨false, false, false, false, false, false, none, 0⟩

/-- A dynamic-capacity add that waits for its host (R76): the VCS and region, the extents reserved, the CCI or session that asked, and the releases that named them meanwhile (R78). -/
structure DcAdd where
  vcs : Nat
  region : Nat
  extents : List Nat
  who : Nat
  later : List Nat
  deriving DecidableEq, Repr

/-- A dynamic-capacity release that runs (R77, R83): the CCI or session that asked, the VCS, and its extents not yet back in the free pool. -/
structure DcRelease where
  who : Nat
  vcs : Nat
  extents : List Nat
  deriving DecidableEq, Repr

/-- A fabric lane circuit's receiver (R94, R95, R99, R101, R102, R104, R129): marker candidates seen in a row, the lane ID of the last marker, the logical lane it carries
or carried last (31 none), the lane ID expected of the next ones, the sequence expected next, consecutive failed marker checks and consecutive uncorrectable codewords, PAM4 signal (R109), inverted polarity, the skew of the last deskew in 0.25 ns,
the descrambler's 58 bits, the number of the next block and of the next codeword in the marker period, whether the decoder has begun the period after the blocks', and the
uncorrectable codewords of the blocks' period and of the one after it. -/
structure SflLane where
  seen : Nat
  laneId : Nat
  home : Nat
  expId : Nat
  nextSeq : Nat
  badMarkers : Nat
  badCodewords : Nat
  signal : Bool
  inverted : Bool
  skew : Nat
  scr : Nat
  blk : Nat
  cw : Nat
  ahead : Bool
  bad : List Nat
  badNext : List Nat
  deriving DecidableEq, Repr

/-- A lane in hunt. -/
def SflLane.hunt : SflLane :=
  { seen := 0, laneId := 0, home := 31, expId := 0, nextSeq := 0, badMarkers := 0, badCodewords := 0, signal := false, inverted := false, skew := 0, scr := 0, blk := 0,
    cw := 0, ahead := false, bad := [], badNext := [] }

/-- A fabric lane circuit's transmitter (R95 to R98, R129): the lane ID its last marker bore and the one its next marker bears, the blocks sent since that marker (16,384 make the next one
due), the next marker's sequence, the scrambler's 58 bits, the coded bits that do not fill a symbol yet, the running parity of the codeword, its data symbols so far, and its
number in the marker period. -/
structure TxLane where
  id : Nat
  nextId : Nat
  since : Nat
  seq : Nat
  scr : Nat
  bits : List Bool
  par : List Nat
  syms : Nat
  cw : Nat
  deriving DecidableEq, Repr

/-- A transmitter that starts under a lane ID: its first marker is due. -/
def TxLane.start (id : Nat) : TxLane := ⟨id, id, 16384, 0, 0, [], List.replicate 30 0, 0, 0⟩

/-- A fabric block's training (R92, R103, R104, R106 to R109): the rate of the attempt, whether CAPX completed in it, TRAIN DONE sent and received, whether the ADAPT bound
passed, the next check unit expected, consecutive false locks, the partner's last CAP content with how often it came identical, whether a CAP with ACK came and how many CAP blocks
with ACK were sent since, how many uncorrectable codewords came in which second, the transmitter preset in use, the partner's, and the one last asked of the partner, the circuits
that completed ADAPT, the logical lanes locked and deskewed here, those excluded for skew, the set agreed in CAPX, the substituted logical lanes (one per block of the port), and
whether a failure's 1 ms wait runs. -/
structure SflTrain where
  rate128 : Bool
  capxDone : Bool
  doneSent : Bool
  doneSeen : Bool
  boundPassed : Bool
  checkNext : Nat
  falseRun : Nat
  cap : Nat
  capSame : Nat
  capAcked : Bool
  capSent : Nat
  fec : Nat × Nat
  preset : Nat
  peerPreset : Nat
  askPreset : Nat
  adapted : List Nat
  laneOk : Nat
  skewed : Nat
  agreed : Nat
  subst : List Nat
  backoff : Bool
  deriving DecidableEq, Repr

/-- Training that has not begun. -/
def SflTrain.idle : SflTrain :=
  { rate128 := false, capxDone := false, doneSent := false, doneSeen := false, boundPassed := false, checkNext := 0, falseRun := 0, cap := 0, capSame := 0,
    capAcked := false, capSent := 0, fec := (0, 0), preset := 0, peerPreset := 0, askPreset := 0, adapted := [], laneOk := 0, skewed := 0, agreed := 0,
    subst := [], backoff := false }

/-- A key slot of one direction (R133, R134): whether it holds a key, the key, the salt and the 48-bit count. -/
structure KeySlot where
  valid : Bool
  key : Nat
  salt : Nat
  count : Nat
  deriving DecidableEq, Repr

/-- A slot with no key. -/
def KeySlot.empty : KeySlot := ⟨false, 0, 0, 0⟩

/-- A stored DATA unit (R115): its sequence number, the key slot it was encrypted under (none in the clear), its 252
bytes before the CRC, and the packets that begin in it. -/
structure StoredUnit where
  seq : Nat
  slot : Option Nat
  vc : Nat
  bytes : List Byte
  pkts : List Pkt
  deriving DecidableEq, Repr

/-- A packet waiting for its VC (R160): the VC, its congestion mark, the bytes still to send of its fabric header and body, and whether its first bytes have been sent. -/
structure WaitingPkt where
  vc : Nat
  mark : Bool
  bytes : List Byte
  begun : Bool
  pkt : Pkt
  deriving DecidableEq, Repr

/-- An accepted unit in its VC's buffer (R119, R160): the VC, CONT, its congestion mark and its payload; no payload stands for the end of a link at that place, which
discards a packet begun before it (R159). -/
structure AcceptedUnit where
  vc : Nat
  cont : Bool
  cmark : Bool
  payload : List Byte
  deriving DecidableEq, Repr

/-- A lane change (R127, R128): epoch, mask, substituted lane (0x1F none), the block whose spare it uses. -/
structure LaneChange where
  epoch : Nat
  mask : Nat
  subst : Nat
  blk : Nat
  deriving DecidableEq, Repr

/-- An SFL link (R93, R111 to R135): the replay buffer oldest first; the sequence numbers; the replay pointer and count; the receiver's count of units accepted since its last ACK
and its pending NAK; the slot counts of sender and receiver; the waiting packets; the deficits and the turn of the round robin; the payloads accepted per VC; the last TIMING unit's
times; the active lanes of each direction and the place in them of the next block; LINK commands kept back for a TIMING unit; the change this side asked for, the change accepted and not
yet switched (own transmit and receive side), the request to repeat, the epoch used last; the key slots; whether an encrypted unit has been accepted since ACTIVE; since when the sender is in
STALL; and the units received in the symbol window (R99). -/
structure SflLink where
  buf : List StoredUnit
  nextSeq : Nat
  expSeq : Nat
  replayAt : Option Nat
  replayCnt : Nat
  sinceAck : Nat
  ackDue : Bool
  nakDue : Bool
  slot : Nat
  rxSlot : Nat
  waiting : List WaitingPkt
  deficit : List Nat
  turn : Nat
  accepted : List AcceptedUnit
  echoTx : Nat
  echoRx : Nat
  txMask : Nat
  rxMask : Nat
  txStripe : Nat
  rxStripe : Nat
  cmds : List Nat
  asked : Option LaneChange
  change : Option LaneChange
  again : Option LaneChange
  epoch : Nat
  txSwitched : Bool
  rxSwitched : Bool
  txKeys : List KeySlot
  rxKeys : List KeySlot
  encSeen : Bool
  stallAt : Option Nat
  window : Nat
  deriving DecidableEq, Repr

/-- A link that has never been ACTIVE. -/
def SflLink.idle : SflLink :=
  { buf := [], nextSeq := 0, expSeq := 0, replayAt := none, replayCnt := 0, sinceAck := 0, ackDue := false, nakDue := false, slot := 0, rxSlot := 0, waiting := [],
    deficit := List.replicate 8 0, turn := 1, accepted := [], echoTx := 0, echoRx := 0, txMask := 0, rxMask := 0, txStripe := 0, rxStripe := 0, cmds := [],
    asked := none, change := none, again := none, epoch := 0, txSwitched := false, rxSwitched := false, txKeys := [KeySlot.empty, KeySlot.empty],
    rxKeys := [KeySlot.empty, KeySlot.empty], encSeen := false, stallAt := none, window := 0 }

/-- A trigger that quenches an NI (R161): its code, whether its cause persists, and which cause it is: 1 + p the loss of port p's link, 1000 + v an Unbind of vPPB v with option 2
while the target's link stayed up (R164), 0 any other. -/
structure Trigger where
  code : Nat
  persists : Bool
  who : Nat
  deriving DecidableEq, Repr

/-- An Unbind with option 2 applied the trigger while the target's link stayed up (R164). -/
def Trigger.byUnbind (t : Trigger) : Bool := decide (1000 ≤ t.who)

/-- The state of a network interface: the triggers in force, the code given to absorbed traffic (the first trigger's, R165; 0 when not quenched, kept until the NI accepts
packets again, R164); the packets absorbed and not yet
answered (R162); the quenched targets whose notice has arrived, with their codes (R162); the route holds (R147: destination router and
alternative, 4 for every alternative) with the packets held; the packets delivered to it (an egress block's buffer, R153); the requests sent on its
link and not yet answered (its tag tracker, R162). -/
structure NiState where
  triggers : List Trigger
  code : Nat
  absorbed : List Pkt
  notices : List (Nat × Nat)
  holds : List (Nat × Nat)
  held : List Pkt
  rx : List Pkt
  tracker : List Pkt
  lastVoq : List Nat
  deriving DecidableEq, Repr

/-- An NI after reset. -/
def NiState.idle : NiState := ⟨[], 0, [], [], [], [], [], [], []⟩

/-- What a source holds at an egress (R153): standing flits spent, shared flits granted, of them spent, and flits owed to it by the egress (R154). -/
structure Ledger where
  standSpent : Nat
  shared : Nat
  sharedSpent : Nat
  owed : Nat
  deriving DecidableEq, Repr

/-- The ledger before any flit. -/
def Ledger.none : Ledger := ⟨0, 0, 0, 0⟩

/-- A flit waiting at a router input (R149): its input port, the packet it belongs to, its place in it, and the cycles it has waited in all. -/
structure Flit where
  input : Nat
  pkt : Pkt
  idx : Nat
  waited : Nat
  deriving DecidableEq, Repr

/-- A router (R149 to R151): the flits at its inputs, oldest first; the output sub-channels held by a packet (output, class, sub-channel,
input); the class each output's weighted round robin serves and its remaining weight; the last input and sub-channel granted. -/
structure RtrState where
  flits : List Flit
  held : List (Nat × Nat × Nat × Nat)
  wrr : List (Nat × Nat × Nat)
  lastIn : List (Nat × Nat)
  lastSub : List (Nat × Nat)
  deriving DecidableEq, Repr

/-- A router after reset. -/
def RtrState.idle : RtrState := ⟨[], [], [], [], []⟩

/-- A router's probe (R169): the running counts and whether the threshold event has been raised. -/
structure PrbState where
  pkts : Nat
  flits : Nat
  fired : Bool
  deriving DecidableEq, Repr

/-- A mirror record waiting at the analysis port (R168): sequence, time, source port, egress side, original message, captured length, poison, drop flag. -/
structure MirRec where
  seq : Nat
  time : Nat
  port : Nat
  egress : Bool
  poison : Bool
  dropped : Bool
  orig : Nat
  data : List Byte
  deriving DecidableEq, Repr

/-- A mirror session (R166, R167): its sequence number, the messages seen since the last sampled one, whether a copy was dropped since the last record. -/
structure MirState where
  seq : Nat
  skipped : Nat
  dropped : Bool
  queue : List MirRec
  deriving DecidableEq, Repr

/-- A mirror session after reset. -/
def MirState.idle : MirState := ⟨0, 0, false, []⟩

/-- A pair of token buckets (R176): what each lacks of being full, in units of 1/2,000 byte, and the 2.0 GHz cycle of its last refill. -/
structure Bucket where
  lackC : Nat
  lackP : Nat
  last : Nat
  deriving DecidableEq, Repr

/-- Full buckets. -/
def Bucket.full : Bucket := ⟨0, 0, 0⟩

/-- A request held by the policer (R177), and the cycle its hold began. -/
structure HeldReq where
  req : FlowReq
  since : Nat
  deriving DecidableEq, Repr

/-- A bind command that runs (R188, R189): the status and index its result will show. -/
structure BindRun where
  status : Nat
  index : Nat
  deriving DecidableEq, Repr

/-- The remap command that runs (R200, R201): its extent, and the status, table number and level-2 entry that its result will show. -/
structure RmpRun where
  idx : Nat
  status : Nat
  l2ptr : Nat
  data : Option Nat
  deriving DecidableEq, Repr

/-- A snoop of a transaction (R225, R226, R228): its agent and type, and where it stands. -/
inductive SnpStage where
  | queued              -- to be sent
  | deferred            -- kept back by a hold
  | sent (at_ : Nat)    -- sent, with its timeout running
  | done (r : BiRsp)    -- answered
  deriving DecidableEq, Repr

/-- A snoop of a transaction: the agent, the type, its stage, and whether the agent has written the line back in this transaction. -/
structure Snoop where
  agent : Nat
  op : SnpOp
  stage : SnpStage
  wrote : Bool
  deriving DecidableEq, Repr

/-- A transaction's expander access (R227, R228). -/
inductive ExpStage where
  | none                       -- not needed
  | later                      -- once every snoop is answered
  | issued                     -- outstanding
  | data (d : List Byte) (poison : Bool)
  | slag                       -- answered by the Slag sink
  deriving DecidableEq, Repr

/-- A transaction of a slice (R219, R224, R227): the slice, the request, the entry it started from, whether it has started, its snoops, its expander access, the data
of a writeback, why the line becomes P (0 none), whether the entry could not be read, and the requests that wait for the line. -/
structure Txn where
  slice : Nat
  req : HomeReq
  entry : Nat
  started : Bool
  snoops : List Snoop
  exp : ExpStage
  wb : Option (List Byte)
  fail : Nat
  failAgent : Nat
  noEntry : Bool
  waiting : List HomeReq
  deriving DecidableEq, Repr

/-- A block of the directory cache (R220): its HBM address, its eight entries, and whether it changed. -/
structure DirBlock where
  addr : Nat
  entries : List Word
  dirty : Bool
  deriving DecidableEq, Repr

/-- An outstanding device access of a resolving point (R243): the point, the phase it counts in, its tag and target, and who asked for it at a remap stage. -/
structure Access where
  pt : Nat
  phase : Bool
  tag : Nat
  target : Nat
  src : Option ReqSource
  deriving DecidableEq, Repr

/-- A migration in a slot (R244, R247 to R250), beside what RMP_MIG_SLOT shows: the engine's job generation, the source mapping, AUTO_UNFRACT and SANITIZE_SRC, the resolving
points whose drain it waits for, whether the blocks of the pass have been issued, the blocks still to copy in it, the copy round, the holds aborted, lines written and
bytes copied, whether the swap was written, whether the source was lost after it, and RMP_MIG_CFG as it stood when the phase began (R256). -/
structure MigRun where
  gen : Nat
  src : Word
  autoUnfract : Bool
  sanitize : Bool
  waiting : List Nat
  issued : Bool
  todo : List Nat
  round : Nat
  holds : Nat
  holdAt : Nat
  lines : Nat
  bytes : Nat
  swapped : Bool
  srcLost : Bool
  cfg : Word
  deriving DecidableEq, Repr

/-- Hotness counting (R238 to R241): counting is under way, the active bank, whether a change's flush runs, each region's count of sampled parts and coalescing buffer
(granule, count), the parts that wait for room in it with since when, each slice's combining buffer and the one that flushes into the retiring bank, and the counted parts whose notice is due,
with the region that resolved each and whether its notice is exact: such a part waits for its notice. -/
structure HotState where
  ready : Bool
  act : Nat
  flushing : Bool
  sample : Tbl Nat
  coalesce : Tbl (List (Nat × Nat))
  waiting : Tbl (List (Part × Nat))
  combine : Tbl (List (Nat × Nat))
  old : Tbl (List (Nat × Nat))
  due : List (Nat × Part × Bool)
  deriving DecidableEq, Repr

/-- No counting. -/
def HotState.idle : HotState := ⟨false, 0, false, [], [], [], [], [], []⟩

/-- What a coprocessor entry does (R262): its address-space descriptors as they stood at decode, SIZE, far addresses, local offsets and the other operands. -/
inductive CpOp where
  | ld (asd : Word) (size addr off : Nat)
  | st (asd : Word) (size addr off : Nat)
  | copy (odd : Bool) (srcAs dstAs : Word) (size src dst : Nat)
  | fill (asd : Word) (size addr : Nat) (pattern : Word)
  | amo (asd : Word) (f addr : Nat) (operand cmp : Word)
  | wait (ticket : Option Nat)
  | fence (scope : Nat)
  | crc (off len : Nat)
  | done (status off : Nat)
  | submit (off cluster : Nat)
  deriving DecidableEq, Repr

/-- An entry of the coprocessor queue (R264, R265): its ticket, destination register, operation, whether it has committed, whether its reads have been issued, whether one was
deferred, the 64-byte lines whose read or write is not done, the staged lines (data, poisoned), and its status so far. -/
structure CpEntry where
  ticket : Nat
  rd : Nat
  op : CpOp
  committed : Bool
  started : Bool
  deferred : Bool
  reads : List Nat
  writes : List Nat
  staged : Tbl (Option (List Byte × Bool))
  status : Nat
  deriving DecidableEq, Repr

/-- A far access of an engine that is not yet performed (R282 to R284): the engine, its tag, write or atomic (function, operand, compare value), the name (space, FEID, LD, address) and
length, its stream, write data and poison, the speculative flag, and whether it has been issued. -/
structure FarAcc where
  engine : Nat
  tag : Nat
  write : Bool
  amo : Option (Nat × Word × Word)
  space : Nat
  feid : Nat
  ld : Nat
  addr : Nat
  len : Nat
  stream : Nat
  data : List Byte
  poison : Bool
  spec : Bool
  issued : Bool
  deriving DecidableEq, Repr

/-- A job (R268 to R270): its JOB_ID (none for the device's own), its place in the order of acceptance, the eight words of its descriptor, and who submitted it: 0 the owner, 1 an
engine, 2 the device. -/
structure Job where
  id : Option Nat
  seq : Nat
  desc : List Word
  origin : Nat
  deriving DecidableEq, Repr

/-- A job that an engine runs (R271 to R276): the job, when it was granted, the program version, its outcome once known (status, RESULT0, RESULT1), the first failure met, the next line
to ask for and to write, the lines done, the running CRC, the lines read and not yet used (source and destination), whether a cancel was delivered, and TELEM's snapshot number and ring offset. -/
structure JobRun where
  job : Job
  grantedAt : Nat
  version : Nat
  outcome : Option (Nat × Nat × Nat)
  fail : Nat
  next : Nat
  wnext : Nat
  lines : Nat
  crc : Nat
  got : Tbl (Option (List Byte × Bool))
  got2 : Tbl (Option (List Byte × Bool))
  cancel : Bool
  snaps : Nat
  ring : Nat
  deriving DecidableEq, Repr

/-- An engine (R257, R258, R263 to R266): x1 to x31, the pc, U-mode, mcause and mtval, ASR0 to ASR15, DM_CMP, DM_CRC, DM_ERR, DM_SQUASH, JOB_CANCEL, local memory with the lines in it that
hold poisoned data, the coprocessor queue, each entry's generation, the statuses of finished tickets, a generation per job for the tags of its accesses, the job it runs, the version of its
program, whether it waits to be reloaded (R280), and the program it holds: 0 the firmware program, else a kernel's service (R259). -/
structure Engine where
  x : Tbl Word
  pc : Nat
  user : Bool
  mcause : Nat
  mtval : Nat
  asr : Tbl Word
  dmCmp : Word
  dmCrc : Word
  dmErr : Nat
  dmSquash : Word
  jobCancel : Bool
  mem : List Host.Cell
  bad : List Nat
  queue : List CpEntry
  gens : Tbl Nat
  results : Tbl Nat
  gen : Nat
  job : Option JobRun
  version : Nat
  reload : Bool
  program : Nat
  deriving DecidableEq, Repr

/-- An engine at reset: every register, CSR and byte of local memory 0. -/
def Engine.idle : Engine :=
  ⟨[], 0, false, 0, 0, [], 0, 0, 0, 0, false, [], [], [], [], [], 0, none, 0, false, 0⟩

/-- A cluster (R268, R269, R273, R284): its queued jobs oldest first, the next JOB_ID and place, the records written and not consumed, those that wait for room, the cancel that awaits its
result, and its engines' far accesses in the order they entered. -/
structure Cluster where
  queue : List Job
  nextId : Nat
  nextSeq : Nat
  fill : Nat
  recs : List (List Word)
  cancel : Option Nat
  acc : List FarAcc
  deriving DecidableEq, Repr

/-- An empty cluster. -/
def Cluster.idle : Cluster := ⟨[], 0, 0, 0, [], none, []⟩

/-- A generation that the acting manager distributes (R302, R303): the generation, its phase (0 DIST_PREP at the standby, 1 at the members, 2 DIST_COMMIT at the standby), the chips that have
acknowledged in the phase, and the chips that are sent the whole state with it. -/
structure FabRun where
  gen : FabGen
  phase : Nat
  acked : List Nat
  wholeTo : List Nat
  deriving DecidableEq, Repr

/-- A Velair record that a traced packet gives (R417): its time, router, point (0 probe, 1 hop, 2 eject, 3 fabric egress), input and output port, the packet and, at a fabric egress, its fabric fields. -/
structure TraceDue where
  time : Nat
  rt : Nat
  kind : Nat
  input : Nat
  output : Nat
  pkt : Pkt
  fab : Option FabPkt
  deriving DecidableEq, Repr

/-- The fabric agent (R296 to R310), beside its registers: the image's fabric section (chip and role), its hash and scale class; whether this chip's view of the lease holds and since when; STBY_OK of
the last ANNOUNCE accepted; the prepared generation; on the standby whether it acknowledged the last generation's DIST_PREP and DIST_COMMIT; on the manager the generation that runs, the changes
that wait with the chips to be sent the whole state, when each chip last acknowledged, the forwarding entries of every chip (numbered 256 × chip + destination), each chip's last LINK_REPORT,
whether every ACK must first name its epoch (R307); the proposed epoch and the votes for it, the epoch last voted for and the request held with when it came (R306); the handover in progress (R308);
when each chip was last heard. -/
structure FabState where
  roles : List (Nat × Nat)
  hash : Nat
  scale : Nat
  lease : Bool
  leaseAt : Nat
  stbyOk : Bool
  staged : Option FabGen
  prepAcked : Option Nat
  commitAcked : Option Nat
  run : Option FabRun
  todo : List (List FabChange × List Nat)
  ackAt : Tbl (Option Nat)
  tables : Tbl Word
  reports : Tbl (List (Nat × Nat × Bool × Nat))
  reannounce : Bool
  proposed : Nat
  votes : List (Nat × Nat)
  voted : Nat
  heldVote : Option (Nat × Nat × Nat)
  handover : Bool
  heard : Tbl Nat
  deriving DecidableEq, Repr

/-- The fabric agent after reset: no section, no lease. -/
def FabState.idle : FabState :=
  ⟨[], 0, 0, false, 0, false, none, none, none, none, [], [], [], [], false, 0, [], 0, none, false, []⟩

/-- The eFuse (R331, R332): the hash, valid word and revocation word of each root slot, and the 64-fuse thermometer. -/
structure Fuses where
  hash : Tbl (List Byte)
  valid : Tbl Nat
  rev : Tbl Nat
  svn : Nat
  deriving DecidableEq, Repr

/-- The image command that runs (R328): its code, slot and offset, the bytes that the flash holds after a WRITE, the outcome its result will show, and the contents of a CHECK or APPLY. -/
structure ImgRun where
  op : Nat
  sl : Nat
  offset : Nat
  page : List Byte
  status : Nat
  sec : Nat
  detail : Nat
  img : ImgContent
  deriving DecidableEq, Repr

/-- The key command that runs (R335): its code, root slot and target floor, the record that a ROTATE programs, the private key it stores, and its status. -/
structure KeyRun where
  op : Nat
  root : Nat
  svn : Nat
  body : List Byte
  key : Nat
  status : Nat
  deriving DecidableEq, Repr

/-- What a management session holds (R347, R355, R356): who is at its far end (Ethernet: remote address and UDP port), the read latch with its register's address, the
held low half of a write with its address, and the last response with its tag. -/
structure Session where
  peer : Nat
  latch : Option (Nat × Nat)
  held : Option (Nat × Nat)
  last : Option (Nat × Out)
  deriving DecidableEq, Repr

/-- A session with nothing held. -/
def Session.idle : Session := ⟨0, none, none, none⟩

/-- A memory request of a session (R345): MEM_READ or MEM_WRITE with its TAG, the lengths of its parts, what each part has come to, and the first part denied. -/
structure MemRun where
  ses : Nat
  tag : Nat
  write : Bool
  lens : List Nat
  parts : List (Option (List Byte))
  denied : Option Nat
  deriving DecidableEq, Repr

/-- An armed error injection (R391): target, unit, index, copy, mode and check bit. -/
structure Injection where
  target : Nat
  unit : Nat
  index : Nat
  copy : Nat
  mode : Nat
  bit : Nat
  deriving DecidableEq, Repr

/-- What a fabric link last heard of its partner's time (R407): when by this chip's clock, HOPS, LOCKED, REF_OK, ROOT_ID, EPOCH and ERR. -/
structure TimePeer where
  heardAt : Nat
  hops : Nat
  locked : Bool
  refOk : Bool
  rootId : Nat
  epoch : Nat
  err : Nat
  deriving DecidableEq, Repr

/-- The servo (R403): whether the next update is the first since ACQUIRE was entered, consecutive updates below 20 ns, the local time of the last update in 2⁻⁴⁸ ns, a sample mean that awaits its update in 2⁻¹⁶ ns, and the
partial sum of TIMING samples with how many it holds. -/
structure Servo where
  first : Bool
  good : Nat
  last : Int
  due : Option Int
  sum : Int
  n : Nat
  deriving DecidableEq, Repr

/-- A servo that has made no update. -/
def Servo.idle : Servo := ⟨true, 0, 0, none, 0, 0⟩

/-- A telemetry sensor (R410 to R412): conversions still to be marked STALE, its last valid codes with the newest first, consecutive FAULT conversions, whether it is left out of the thermal state, valid samples
in a row outside and inside its limits, whether event 491 is active, samples in a row at or above 95.0, 100.0 and 110.0 °C and below 92.0 and 97.0 °C, and its thermal state. -/
structure TelSensor where
  stale : Nat
  hist : List Nat
  faults : Nat
  out : Bool
  outside : Nat
  inside : Nat
  active : Bool
  ge95 : Nat
  ge100 : Nat
  ge110 : Nat
  lt92 : Nat
  lt97 : Nat
  st : Nat
  deriving DecidableEq, Repr

/-- A sensor before its first conversion. -/
def TelSensor.idle : TelSensor := ⟨0, [], 0, false, 0, 0, false, 0, 0, 0, 0, 0, 0⟩

/-- A slot of the sideband chain (R425 to R431), beside its registers: the outputs PWR_EN, PERST_N and PWRBRK_N and the host's two indicator controls; PWR_EN falls at the next frame; HSC ALERT_N is low; frames in a row
without presence, without PGOOD and with it; failed polls, polls with low VIN and polls with VOUT present while off, in a row; since when PRSNT_N has read asserted; the current limit written last; whether
the running attempt is a retry; when PWR_EN last rose and fell; before when the slot does not turn on again; and since when VIN has been above PWRBRK_MV + 100 mV. -/
structure SlotState where
  pwrEn : Bool
  perstN : Bool
  pwrbrkN : Bool
  attn : Bool
  pwrInd : Bool
  offPend : Bool
  alert : Bool
  absent : Nat
  pgLow : Nat
  pgHigh : Nat
  badPolls : Nat
  vinLow : Nat
  voutHigh : Nat
  presentAt : Option Nat
  limit : Nat
  retrying : Bool
  onAt : Nat
  offAt : Nat
  waitUntil : Nat
  vinOkAt : Option Nat
  deriving DecidableEq, Repr

/-- A slot at its reset levels (R426): power off, PERST_N low, PWRBRK_N high, indicators off. -/
def SlotState.idle : SlotState :=
  ⟨false, false, true, false, false, false, false, 0, 0, 0, 0, 0, 0, none, 0, false, 0, 0, 0, none⟩

/-- The repair map in the HBM firmware partition (R397). -/
structure RepairMap where
  /-- the repair map's lane mappings in the HBM firmware partition: block to (pair, kind) (R54, R397). -/
  lanes : Tbl (Option (Nat × Nat))
  /-- the repair map's spare wires of each router, as ANV_RTR_STAT.SPARE_USED (R393, R397). -/
  wires : Tbl Nat
  /-- the repair map's engines replaced by the spare of their cluster pair (R395, R397). -/
  engines : List Nat
  /-- the repair map's spare slices: slice to the physical slice, 16 or 17 (R394, R397). -/
  slices : Tbl (Option Nat)
  /-- the repair map's rows repaired by soft repair, by pool, 2 SRAM and 5 HBM (R393, R397). -/
  rows : Tbl Nat
  deriving DecidableEq, Repr

/-- A blank repair map. -/
def RepairMap.empty : RepairMap := ⟨[], [], [], [], []⟩

/-- What the FM API keeps for each requester (R83). -/
structure FmRequesters where
  /-- the last background operation that ended, by requester: a CCI's port, or 256 + session (R83). -/
  last : Tbl (Option (Nat × FmRc × FmExt))
  /-- the response message limit, by requester, as bytes below 4,096 (R83). -/
  limit : Tbl Nat
  /-- the event interrupt policy, by requester (R83). -/
  policy : Tbl Nat
  deriving DecidableEq, Repr

/-- No requester has sent a command. -/
def FmRequesters.empty : FmRequesters := ⟨[], [], []⟩

set_option maxRecDepth 1000 in
/-- The whole state of the block, as plain data. -/
structure State where
  /-- the DRS register file, by register kind and index (R29); an unlisted register holds its reset value. -/
  regs : Tbl Word
  /-- the phase of R361; right after reset the chip is in BOOT (R364). -/
  phase : Phase
  /-- nanoseconds since entry to BOOT, advanced by an idle step. -/
  clk : Nat
  /-- the fabric time counter (R400), zero at entry to BOOT. -/
  tim : FabTime
  /-- the model's own counter that picks a fresh free value (log entry 8). -/
  freeCtr : Nat
  /-- the messages that have left the device, oldest first (log entry 9). -/
  out : List Out
  /-- the 48 GiB of HBM (R26), by byte address; an unlisted byte reads 0 (log entry 24). -/
  hbm : List Host.Cell
  /-- the ECC condition of a 64-byte block of HBM by address div 64: 0 clean, 1 correctable, 2 uncorrectable (R391). -/
  hbmEcc : Tbl Nat
  /-- the lane marks and PRBS bit counts of the 64 port blocks (R50, R58). -/
  blocks : Tbl BlockState
  /-- the running PRBS checks by 9 × block + lane circuit (R58). -/
  prbs : Tbl PrbsLane
  /-- the 128 logical ports in bring-up and L0p (R45, R48). -/
  ports : Tbl PortState
  /-- the messages partly received at each port: some flits have come, one failed its CRC and is not replayed yet (R158, R159). -/
  partials : Tbl Nat
  /-- the slots of the 1,024 vPPBs (R70, R79). -/
  vppbs : Tbl Vppb
  /-- what the FM API keeps for each requester: a CCI by its port, a session as 256 + session (R83). -/
  fmReq : FmRequesters
  /-- the CXL event records, oldest first (R76, R80, R83). -/
  cxlLog : List CxlEvent
  /-- the handle the next CXL event record takes. -/
  cxlHandle : Nat
  /-- the adds that wait for their host (R76). -/
  dcAdds : List DcAdd
  /-- the releases that run (R77, R83). -/
  dcReleases : List DcRelease
  /-- the extents in release whose zero-fill has not run (R77). -/
  fillDue : List Nat
  /-- the DC region that holds an extent: 8 × VCS + region (R74). -/
  dcRegion : Tbl (Option Nat)
  /-- Sanitize on Release of a DC region (R77). -/
  dcSanitize : Tbl Bool
  /-- the BI decoder of a VCS's pool device is enabled (R75). -/
  biDecoder : Tbl Bool
  /-- the tags of requests sent by a port's partner and not answered: 2 × port, + 1 for CXL.io non-posted (R65, R66). -/
  outst : Tbl (List Nat)
  /-- the messages handed to decode and not resolved (R158). -/
  decodeQ : List MemReq
  /-- messages kept at a port that has reached its outstanding-request limit or whose IDE stream is not yet secure (R66, R85). -/
  portHold : Tbl (List PortMsg)
  /-- the fabric lane circuits by 9 × block + lane circuit (R102). -/
  sflLanes : Tbl SflLane
  /-- the transmitters of the fabric lane circuits, by the same number; none where the circuit sends nothing (R95 to R98). -/
  sflTx : Tbl (Option TxLane)
  /-- the training of each fabric block, an x16 port at its lead (R109). -/
  sflTrain : Tbl SflTrain
  /-- the SFL links by block, an x16 port at its lead (R111). -/
  sfl : Tbl SflLink
  /-- the 134 network interfaces (R138). -/
  ni : Tbl NiState
  /-- the VOQs and client queues of the sources: 1,024 × source NI + 8 × destination + traffic class, or + 600 + class (R152). -/
  voq : Tbl (List Pkt)
  /-- the credit ledger by 256 × credit point + source NI (R153, R155): an egress block, or 64 + 9 × (NI − 64) + class of a client or management NI. -/
  ledger : Tbl Ledger
  /-- the queued shared-pool requests of each credit point, in arrival order (R153). -/
  crQueue : Tbl (List Nat)
  /-- the packets in flight per route entry, (NI × 64 + router) × 4 + alternative (R147). -/
  inflight : Tbl Nat
  /-- the 64 routers (R149). -/
  rtr : Tbl RtrState
  /-- the 64 probes (R169). -/
  prb : Tbl PrbState
  /-- the 16 mirror sessions (R166). -/
  mir : Tbl MirState
  /-- the flits on their way to a router input, 8 × router + input (7: from the router to its block), oldest first: the FIFOs of the crossings between regions and between the I/O and
  the fabric dies (R18), and the flits of client NIs that wait for a buffer (R149). -/
  xing : Tbl (List Flit)
  /-- the packets discarded at the closed gate of each region (R19; counted in packets and shown in no register, log entry 76). -/
  gateDrops : Tbl Nat
  /-- the errors a wear monitor counts in an hour: the hour since BOOT and the count, by 2²⁴ × monitor + cell (R392). -/
  wear : Tbl (Nat × Nat)
  /-- the margin samples of the last 24 hours of each lane circuit, 9 × block + circuit, as (seconds since BOOT, margin), oldest first (R392). -/
  margins : Tbl (List (Nat × Nat))
  /-- the congestion band a source last learned of an egress, 64 × NI + block, with when (R154, R182). -/
  bands : Tbl (Nat × Nat)
  /-- the token buckets of the flow contexts by number, and of the shapers from 100,000 on: 8 × port + queue (R176, R181). -/
  buckets : Tbl Bucket
  /-- the hold queue of each context (R177). -/
  holdQ : Tbl (List HeldReq)
  /-- contexts whose hold queue is full, with when it became so: the ports of its requests withhold request credits (R178). -/
  holdFull : Tbl (Option Nat)
  /-- the mark kept for a request by 2³² × port + PARAM: m, and the remote mark (R185). -/
  marks : Tbl Nat
  /-- the traffic class of a request, by the same number: the answer inherits it (R175). -/
  tcs : Tbl (Option Nat)
  /-- the bind command that runs in each region (R188). -/
  bindRun : Tbl (Option BindRun)
  /-- when a rate-limited action last happened, 8 × action + region: 0 hold-full event, 1 refused-binding event, 2 automatic binding (R173, R174, R178). -/
  stamps : Tbl (Option Nat)
  /-- the replicas of the duplicated tables: 8 × table-window word + 2 × region + copy (R16, R210); the chip copy is in regs. -/
  rep : Tbl Word
  /-- the ECC condition of a replica word, by the same number: 0 clean, 1 correctable, 2 uncorrectable (R210). -/
  repEcc : Tbl Nat
  /-- the ECC condition of a chip copy of a table word in the firmware partition, by 2 × table-window word + copy (R16, R211, R386). -/
  chipEcc : Tbl Nat
  /-- the chip's 16-bit table write counter (R210). -/
  wtag : Nat
  /-- the next entry each region scrubs, 4 × region + table (R212). -/
  scrubAt : Tbl Nat
  /-- the level-2 entry cache of each region: by 1,024 × region + set the entries held, most recent first (R194). -/
  l2Cache : Tbl (List (Nat × Word))
  /-- the remap command that runs (R200). -/
  rmpRun : Option RmpRun
  /-- the HDM decoders of the VCSs: 16 × VCS + decoder, 0 to 7 the upstream port's, 8 to 15 the pool device's (R74, R192). -/
  decoders : Tbl HdmDecoder
  /-- the HDM-DB decoders whose commit waits for a CAID, by the same number (R75, R231). -/
  commitWait : List Nat
  /-- the keys of the IDE streams of the ports, as set up at the last training (R85, R86). -/
  ideKeys : Tbl (Option Word)
  /-- the parts that passed, each with the region that resolved it, on their way to the policer (R205). -/
  resolved : List (Nat × Part)
  /-- the failure outcomes on their way to the engines whose requests failed (R206, R267), each with the SLAG code where a sink gave it. -/
  denials : List (MemReq × ReqAnswer × Nat)
  /-- the directory cache: 4,096 × slice + set, most recently used first (R220). -/
  dirCache : Tbl (List DirBlock)
  /-- the transactions of all slices (R224). -/
  txns : List Txn
  /-- the write buffers of the slices (R224), oldest first: slice, line, tag and data of each write that its expander has not answered. -/
  wbuf : List (Nat × Nat × Nat × List Byte)
  /-- requests that wait for a free tracker, with their slice (R220). -/
  trkWait : List (Nat × HomeReq)
  /-- the minimum holds in force, one for each grant: line (POA div 64) and agent (R225). -/
  homeHolds : List (Nat × Nat)
  /-- until when a spare defers every BISnp of the slice it took over (R394). -/
  spareUntil : Tbl Nat
  /-- the CAIDs whose directory sweep runs (R233). -/
  sweeping : List Nat
  /-- the VCSs that wait for a CAID (R231). -/
  caidWait : List Nat
  /-- the extents of MIGRATE jobs accepted and not completed (R244). -/
  migWait : List Nat
  /-- the dirty blocks marked by each resolving point: 32 × point + slot, points 0 to 3 the regions' remap stages and 4 to 19 the slices (R248). -/
  migMaps : Tbl (List Nat)
  /-- the writes a hold keeps, by the same number, oldest first (R251). -/
  migHeld : Tbl (List Part)
  /-- the outstanding device accesses of the resolving points, each in the phase it was counted in (R243). -/
  accesses : List Access
  /-- the phase each resolving point counts in now (R243). -/
  drainPhase : Tbl Bool
  /-- the resolving points with a drain pending (R243). -/
  drains : List Nat
  /-- the migrations in the 32 slots (R244, R247). -/
  migs : Tbl (Option MigRun)
  /-- the hotness counting (R239 to R241). -/
  hot : HotState
  /-- the 128 Tongs engines (R257). -/
  engines : Tbl Engine
  /-- the 16 clusters (R268). -/
  clusters : Tbl Cluster
  /-- the version of the firmware program in the firmware partition (R259, R280). -/
  fwVersion : Nat
  /-- the fabric agent (R296 to R310). -/
  fab : FabState
  /-- the bytes of a packet begun in a VC's accepted units and not complete, 8 × block + VC (R160). -/
  fabIn : Tbl (List Byte)
  /-- packets for another chip at the block they stand at: arrived and not forwarded, or forwarded and not yet converted there (R311). -/
  transit : List (Nat × FabPkt)
  /-- the port a slot's streams take, 16 × destination chip + hash (R311, R313). -/
  fabPath : Tbl (Option Nat)
  /-- the packets in flight per slot (R313). -/
  fabFlight : Tbl Nat
  /-- new packets of slots whose old path drains: slot, block, packet (R313). -/
  fabHeld : List (Nat × Nat × FabPkt)
  /-- the flash device of chip select 0 (R320), by offset; an unlisted byte reads 0xFF (log entry 33). -/
  flashA : List Host.Cell
  /-- the flash device of chip select 1 (R320). -/
  flashB : List Host.Cell
  /-- the eFuse (R331, R332), blank (log entry 5). -/
  fuses : Fuses
  /-- the contents of a slot marked CHECKED (R328). -/
  checked : Tbl (Option ImgContent)
  /-- the image command that runs (R328). -/
  imgRun : Option ImgRun
  /-- the key command that runs (R335). -/
  keyRun : Option KeyRun
  /-- the pending identity private key (R335). -/
  pendingId : Option Nat
  /-- the identity private key of the record in force (R335). -/
  idKey : Option Nat
  /-- the key slot that boot chose (R334). -/
  bootKey : Option Nat
  /-- HBM initialisation has completed (R366). -/
  hbmReady : Bool
  /-- the slot that passed verification and its staged sections (R366). -/
  staged : Option (Nat × ImgContent)
  /-- the causes that hold the chip in RESET (R370): 1 RESET_N, 2 REBOOT, 3 brown-out. -/
  resetBy : List Nat
  /-- the flow contexts that the image binds (R330). -/
  imgCtx : List Nat
  /-- the engines that an APPLY has yet to reload (R280, R329). -/
  reloadDue : List Nat
  /-- the REGION-class fields that an APPLY has switched and a fenced region has yet to take (R329). -/
  imgLater : List ImgCell
  /-- the 8 management sessions (R342). -/
  sess : Tbl Session
  /-- the claims of the open election: session, claim value, TAG (R349). -/
  claims : List (Nat × Nat × Nat)
  /-- when the owner's lease was last renewed (R350). -/
  leaseAt : Nat
  /-- how many of the records queued and not acknowledged have been sent to this owner (R359). -/
  evtSent : Nat
  /-- the memory requests of sessions that wait for their outcome (R206, R345). -/
  memRuns : List MemRun
  /-- the model's own count of refused accesses, by which REG_WRITE sees that a write was not performed (log entry 10). -/
  refusals : Nat
  /-- the register access that REG_WRITE is performing: address, size, session (log entry 10). -/
  accessing : Option (Nat × Nat × Nat)
  /-- the armed injection (R391). -/
  inj : Option Injection
  /-- the level of EMBER (R389). -/
  ember : Bool
  /-- the repair map in the HBM firmware partition (R54, R393 to R397). -/
  repairMap : RepairMap
  /-- the slice that a RETIRE_SLICE replaces (R393, R394). -/
  retiring : Option Nat
  /-- the last TIMING unit of each fabric block's partner (R407). -/
  timPeers : Tbl (Option TimePeer)
  /-- the servo that disciplines the fabric time counter (R403, R404). -/
  servo : Servo
  /-- the best PTP master (R405). -/
  ptpBest : Option PtpMaster
  /-- when a Sync message was last accepted (R404). -/
  ptpAt : Option Nat
  /-- PPS_OUT is high until this time (R401). -/
  ppsUntil : Nat
  /-- the sensors of the telemetry converter: 0 to 95, and 97 the manual conversions (R410 to R412). -/
  tel : Tbl TelSensor
  /-- nanoseconds spent in THROTTLE before the present stay (R421). -/
  throttleNs : Nat
  /-- since when the chip has been in THROTTLE. -/
  throttleAt : Option Nat
  /-- the Velair records taken and not yet written or dropped, in order (R417). -/
  trcDue : List TraceDue
  /-- the sequence of the next Velair record (R417). -/
  trcSeq : Nat
  /-- records of a region were dropped since its last one (R417). -/
  trcDrop : Tbl Bool
  /-- the 64 slots of the sideband chain (R425). -/
  slots : Tbl SlotState
  /-- the reference clocks that are lost: 0 to 15 PCIE_REFCLK, 16 SFL_REFCLK (R444). -/
  clkLost : List Nat
  /-- The commands that wait, first in, first out. -/
  pending : List Instr
  deriving DecidableEq, Repr

/-- The block right after reset: every register at its reset value, nothing listed, no command waiting. -/
def State.reset : State where
  regs := []
  phase := .boot
  clk := 0
  tim := ⟨0, 0, 0⟩
  freeCtr := 0
  out := []
  hbm := []
  hbmEcc := []
  blocks := []
  prbs := []
  ports := []
  partials := []
  vppbs := []
  fmReq := FmRequesters.empty
  cxlLog := []
  cxlHandle := 0
  dcAdds := []
  dcReleases := []
  fillDue := []
  dcRegion := []
  dcSanitize := []
  biDecoder := []
  outst := []
  decodeQ := []
  portHold := []
  sflLanes := []
  sflTx := []
  sflTrain := []
  sfl := []
  ni := []
  voq := []
  ledger := []
  crQueue := []
  inflight := []
  rtr := []
  prb := []
  mir := []
  xing := []
  gateDrops := []
  wear := []
  margins := []
  bands := []
  buckets := []
  holdQ := []
  holdFull := []
  marks := []
  tcs := []
  bindRun := []
  stamps := []
  rep := []
  repEcc := []
  chipEcc := []
  wtag := 0
  scrubAt := []
  l2Cache := []
  rmpRun := none
  decoders := []
  commitWait := []
  ideKeys := []
  resolved := []
  denials := []
  dirCache := []
  txns := []
  wbuf := []
  trkWait := []
  homeHolds := []
  spareUntil := []
  sweeping := []
  caidWait := []
  migWait := []
  migMaps := []
  migHeld := []
  accesses := []
  drainPhase := []
  drains := []
  migs := []
  hot := HotState.idle
  engines := []
  clusters := []
  fwVersion := 0
  fab := FabState.idle
  fabIn := []
  transit := []
  fabPath := []
  fabFlight := []
  fabHeld := []
  flashA := []
  flashB := []
  fuses := ⟨[], [], [], 0⟩
  checked := []
  imgRun := none
  keyRun := none
  pendingId := none
  idKey := none
  bootKey := none
  hbmReady := false
  staged := none
  resetBy := []
  imgCtx := []
  reloadDue := []
  imgLater := []
  sess := []
  claims := []
  leaseAt := 0
  evtSent := 0
  memRuns := []
  refusals := 0
  accessing := none
  inj := none
  ember := false
  repairMap := RepairMap.empty
  retiring := none
  timPeers := []
  servo := Servo.idle
  ptpBest := none
  ptpAt := none
  ppsUntil := 0
  tel := []
  throttleNs := 0
  throttleAt := none
  trcDue := []
  trcSeq := 0
  trcDrop := []
  slots := []
  clkLost := []
  pending := []

/-- Why the block stops. Safe: the hardware has no such unit to command. -/
inductive Fault where
  /-- Raised by every meaning whose command names a unit the spec does not give the block (safe: no hardware meets it). -/
  | noSuchUnit
  deriving DecidableEq, Repr

/-- Why a command has no meaning. -/
inductive Refusal where
  /-- Raised by an arm of exec whose meaning is not written (safe: nothing is claimed of it). -/
  | notModelled (mnemonic : String)
  deriving DecidableEq, Repr

end Sys2Proof.Machine
end

