-- ==== Sys2Proof/WellFormed.lean ====
section
/-! DEFINITION. Which commands are well-formed: every unit a command names is a unit the spec gives the block. -/

namespace Sys2Proof

/-- A command names only units that exist: 64 blocks of 2 halves, 128 ports, 9 lanes of a block, 4 regions and 5 collectors, 16 slices, 16 clusters, 128 engines,
8 virtual channels, 64 slots, 8 sessions, 256 chips, 134 network interfaces, 64 routers, 65,537 contexts, 512 events (R13, R29, R138, R342, R380). -/
def Instr.wf : Instr → Bool
  | .crossingFlitArrival rt input _ _ => decide (rt < 64) && decide (input < 8)
  | .drsErrPendClear _ => true
  | .debugViewAccess ses _ _ _ _ _ => decide (ses < 8)
  | .hbmDbgWindowWrite _ => true
  | .bringUpStart p _ _ => decide (p < 128)
  | .trainingStageEnd p _ _ _ => decide (p < 128)
  | .adminWrite blk _ _ => decide (blk < 64)
  | .symbolWindowEnd blk k _ => decide (blk < 64) && decide (k < 9)
  | .laneMark blk k _ => decide (blk < 64) && decide (k < 8)
  | .l0pRequestPartner p _ => decide (p < 128)
  | .l0pTgtWrite blk h _ => decide (blk < 64) && decide (h < 2)
  | .l0pChangeComplete p => decide (p < 128)
  | .retrainWrite blk _ _ => decide (blk < 64)
  | .recoveryEntry p => decide (p < 128)
  | .recoveryComplete p _ => decide (p < 128)
  | .markClear blk _ => decide (blk < 64)
  | .spareSelfCheck blk _ => decide (blk < 64)
  | .prbsEnWrite blk _ => decide (blk < 64)
  | .prbsSnap blk _ _ => decide (blk < 64)
  | .prbsCheckerLock blk k _ => decide (blk < 64) && decide (k < 9)
  | .prbsCheckerLoseLock blk k _ _ => decide (blk < 64) && decide (k < 9)
  | .dlUpLoss p _ _ => decide (p < 128)
  | .bindVppb p _ _ _ _ => decide (p < 128)
  | .bindComplete v => decide (v < 1024)
  | .unbindVppb p _ _ _ => decide (p < 128)
  | .unbindComplete v => decide (v < 1024)
  | .hotRemoveTimeout v => decide (v < 1024)
  | .hostPowerOff v => decide (v < 1024)
  | .abortBackground p _ => decide (p < 128)
  | .identify p _ => decide (p < 128)
  | .backgroundStatus p _ => decide (p < 128)
  | .getResponseLimit p _ => decide (p < 128)
  | .setResponseLimit p _ _ => decide (p < 128)
  | .getEventRecords p _ => decide (p < 128)
  | .clearEventRecords p _ _ => decide (p < 128)
  | .getEventPolicy p _ => decide (p < 128)
  | .setEventPolicy p _ _ => decide (p < 128)
  | .getTimestamp p _ => decide (p < 128)
  | .getSupportedLogs p _ => decide (p < 128)
  | .getLog p _ => decide (p < 128)
  | .identifySwitch p _ => decide (p < 128)
  | .getPortState p _ _ => decide (p < 128)
  | .portControl p _ _ _ => decide (p < 128)
  | .ppbConfig p _ _ _ _ => decide (p < 128)
  | .vcsInfo p _ _ => decide (p < 128)
  | .generateAer p _ _ _ => decide (p < 128)
  | .tunnel p _ _ _ _ _ => decide (p < 128)
  | .ldConfig p _ _ _ _ _ => decide (p < 128)
  | .ldMemory p _ _ _ _ _ => decide (p < 128)
  | .dcdInfo p _ => decide (p < 128)
  | .dcConfig p _ _ => decide (p < 128)
  | .setDcConfig p _ _ _ _ => decide (p < 128)
  | .extentLists p _ _ => decide (p < 128)
  | .dcAdd p _ _ _ _ => decide (p < 128)
  | .dcAddResponse vcs region _ => decide (vcs < 64) && decide (region < 8)
  | .dcAddTimeout vcs region => decide (vcs < 64) && decide (region < 8)
  | .dcRelease p _ _ _ _ => decide (p < 128)
  | .extentReleaseComplete _ => true
  | .weuskOverCci p _ _ _ => decide (p < 128)
  | .unsupportedOpcode p _ _ => decide (p < 128)
  | .hdmDecoderCommit vcs _ _ => decide (vcs < 64)
  | .biEnableWrite vcs _ _ => decide (vcs < 64)
  | .targetSurpriseRemoval p _ => decide (p < 128)
  | .ideIntegrityFailure p _ => decide (p < 128)
  | .markerCandidate blk k _ _ _ => decide (blk < 64) && decide (k < 9)
  | .markerCheck blk k _ _ => decide (blk < 64) && decide (k < 9)
  | .codewordDecode blk k _ _ _ => decide (blk < 64) && decide (k < 9)
  | .calibrationDone blk _ => decide (blk < 64)
  | .signalDetect blk _ => decide (blk < 64)
  | .trainBlockReceived blk k _ => decide (blk < 64) && decide (k < 9)
  | .adaptDone blk => decide (blk < 64)
  | .adaptBoundExceeded blk => decide (blk < 64)
  | .adaptPartnerDoneTimeout blk => decide (blk < 64)
  | .deskewRelease blk _ => decide (blk < 64)
  | .capBlockReceived blk _ => decide (blk < 64)
  | .capxComplete blk _ => decide (blk < 64)
  | .capxTimeout blk => decide (blk < 64)
  | .trainingFailBackoffEnd blk => decide (blk < 64)
  | .checkUnitReceived blk _ => decide (blk < 64)
  | .partnerRetrainDetect blk _ => decide (blk < 64)
  | .sflRetrainWrite blk => decide (blk < 64)
  | .dataUnitSend blk => decide (blk < 64)
  | .flowUnitReceived blk _ => decide (blk < 64)
  | .ackReceived blk _ => decide (blk < 64)
  | .nakReceived blk _ => decide (blk < 64)
  | .replayTimeout blk => decide (blk < 64)
  | .replayUnitResend blk => decide (blk < 64)
  | .replayMaxExceeded blk => decide (blk < 64)
  | .ackTimer blk => decide (blk < 64)
  | .nakResendTimer blk => decide (blk < 64)
  | .xoffUpdate blk v => decide (blk < 64) && decide (v < 8)
  | .timingSlot blk => decide (blk < 64)
  | .timingUnitReceived blk _ _ => decide (blk < 64)
  | .laneSet blk _ _ _ => decide (blk < 64)
  | .laneAck blk _ _ => decide (blk < 64)
  | .laneNak blk _ _ => decide (blk < 64)
  | .switchLanes blk _ _ _ => decide (blk < 64)
  | .keysync blk _ _ => decide (blk < 64)
  | .activeLaneLockLoss blk lane => decide (blk < 64) && decide (lane < 16)
  | .laneReqWrite blk => decide (blk < 64)
  | .sflLinkDown blk => decide (blk < 64)
  | .downTmoExpiry blk => decide (blk < 64)
  | .sflKeyCommit blk _ => decide (blk < 64)
  | .txSlotWrite blk slot => decide (blk < 64) && decide (slot < 2)
  | .keyCountLimit blk slot => decide (blk < 64) && decide (slot < 2)
  | .packetInject n _ _ => decide (n < 134)
  | .routeEntryWrite n d a _ => decide (n < 134) && decide (d < 64) && decide (a < 4)
  | .routeChangeResume n d => decide (n < 134) && decide (d < 64)
  | .flitSwitch rt out _ _ => decide (rt < 64) && decide (out < 7)
  | .linkWireSpare rt d _ => decide (rt < 64) && decide (d < 4)
  | .voqInject n => decide (n < 134)
  | .creditRequest n e => decide (n < 134) && decide (e < 694)
  | .creditGrant e => decide (e < 694)
  | .creditReturn e n => decide (e < 694) && decide (n < 134)
  | .sharedGrantRelease n e => decide (n < 134) && decide (e < 694)
  | .egressPacketSend p => decide (p < 128)
  | .messageToDecode p _ _ => decide (p < 128)
  | .fabricHeaderRebuild blk _ => decide (blk < 64)
  | .quenchTrigger n _ => decide (n < 134)
  | .quenchNoticeArrival n target _ => decide (n < 134) && decide (target < 134)
  | .quenchSet r _ => decide (r < 4)
  | .quenchClear r _ => decide (r < 4)
  | .slagAnswer n => decide (n < 134)
  | .unquench n => decide (n < 134)
  | .unquenchNoticeArrival n target => decide (n < 134) && decide (target < 134)
  | .mirrorCopy m port _ _ _ _ => decide (m < 16) && decide (port < 128)
  | .mirrorRecordWrite m => decide (m < 16)
  | .probeMatch rt _ _ => decide (rt < 64)
  | .probeSnap rt => decide (rt < 64)
  | .mirrorEnWrite m _ => decide (m < 16)
  | .requestColour q => decide (q.port < 128)
  | .holdQueueRetest c => decide (c < 65537)
  | .holdQueueFull c => decide (c < 65537)
  | .holdBoundExpiry c => decide (c < 65537)
  | .holdBoundWrite r _ => decide (r < 4)
  | .contextRewrite c _ _ => decide (c < 65537)
  | .shaperRewrite p queue _ _ => decide (p < 128) && decide (queue < 8)
  | .cmarkReceived p _ c => decide (p < 128) && decide (c < 65537)
  | .bindFlow r _ _ _ => decide (r < 4)
  | .unbindFlow r _ _ => decide (r < 4)
  | .lookupFlow r _ _ => decide (r < 4)
  | .bindCommandComplete r => decide (r < 4)
  | .autoBind r _ _ => decide (r < 4)
  | .requestResolve _ => true
  | .acuErrPendClear r => decide (r < 4)
  | .l2CacheFill r _ => decide (r < 4)
  | .acuWindowWrite _ _ _ => true
  | .l1EntryWrite _ _ _ => true
  | .duplicateMismatch r _ _ _ _ _ => decide (r < 4)
  | .duplicateRepair r _ _ => decide (r < 4)
  | .tableScrubStep r => decide (r < 4)
  | .fracture _ => true
  | .unfracture _ => true
  | .writeL2 _ _ => true
  | .readL2 _ _ => true
  | .remapCommandComplete => true
  | .hearthRequestArrival _ => true
  | .transactionStart _ => true
  | .directoryCacheMiss _ => true
  | .holdExpiry _ agent => decide (agent < 2048)
  | .bisnpSend _ agent => decide (agent < 2048)
  | .birspReceived _ agent _ => decide (agent < 2048)
  | .snpDeadReceived _ agent => decide (agent < 2048)
  | .bisnpTimeout _ agent => decide (agent < 2048)
  | .writebackReceived _ => true
  | .biconflict _ agent _ => decide (agent < 2048)
  | .expanderResponse _ _ _ _ => true
  | .transactionComplete _ => true
  | .caidRequest vcs => decide (vcs < 64)
  | .caidInstall agent _ => decide (agent < 2048)
  | .caidRequestTimeout vcs => decide (vcs < 64)
  | .agentRemoval agent => decide (agent < 2048)
  | .directorySweepComplete agent => decide (agent < 2048)
  | .readDir _ => true
  | .hrtCfgWrite _ => true
  | .poisonLogClear n => decide (n < 16)
  | .hotnessNotice r _ => decide (r < 4)
  | .hotnessCoalesceFlush r _ => decide (r < 4)
  | .hotnessEpochChange => true
  | .hotnessFlushComplete => true
  | .hotEnWrite _ => true
  | .migrate e => decide (e < 128)
  | .drainComplete pt => decide (pt < 20)
  | .copyPassComplete k => decide (k < 32)
  | .migrationHold k => decide (k < 32)
  | .holdAbort k => decide (k < 32)
  | .migrationSwap k => decide (k < 32)
  | .migrationFinish k => decide (k < 32)
  | .migrationLoss k _ => decide (k < 32)
  | .migCfgWrite _ => true
  | .jobDispatch c => decide (c < 16)
  | .dmLd e _ _ _ _ _ => decide (e < 128)
  | .dmSt e _ _ _ _ _ => decide (e < 128)
  | .dmCopy e _ _ _ _ _ => decide (e < 128)
  | .dmFill e _ _ _ _ _ => decide (e < 128)
  | .dmAmo e _ _ _ _ _ => decide (e < 128)
  | .dmWait e _ _ => decide (e < 128)
  | .dmFence e _ => decide (e < 128)
  | .dmCrc e _ _ _ => decide (e < 128)
  | .jobDone e _ _ => decide (e < 128)
  | .jobSubmit e _ _ _ => decide (e < 128)
  | .coprocessorCommit e => decide (e < 128)
  | .speculativeReadDefer e _ => decide (e < 128)
  | .coprocessorSquash e _ => decide (e < 128)
  | .farResponse e _ _ _ _ => decide (e < 128)
  | .tngSubGo c => decide (c < 16)
  | .deviceJobSubmit c _ _ => decide (c < 16)
  | .jobCopy e => decide (e < 128)
  | .jobFill e => decide (e < 128)
  | .jobCrc e => decide (e < 128)
  | .jobCompare e => decide (e < 128)
  | .dirSweep e => decide (e < 128)
  | .telem e => decide (e < 128)
  | .telemSnapshot e => decide (e < 128)
  | .kernelJob e _ => decide (e < 128)
  | .kernelFault e _ _ => decide (e < 128)
  | .completionRecordWrite e => decide (e < 128)
  | .cqHeadWrite c _ => decide (c < 16)
  | .tngCancelGo c _ => decide (c < 16)
  | .engineReset e _ => decide (e < 128)
  | .engineWatchdog e => decide (e < 128)
  | .engineLoadComplete e _ => decide (e < 128)
  | .programReload e => decide (e < 128)
  | .joinFabric _ => true
  | .joinRefuse _ => true
  | .distPrep _ _ _ => true
  | .distCommit _ _ => true
  | .distAbort _ _ => true
  | .ackFabric chip _ _ _ => decide (chip < 256)
  | .resync chip _ => decide (chip < 256)
  | .standbyAckTimeout => true
  | .announceSend => true
  | .announce _ => true
  | .leaseLapse => true
  | .voteReq chip _ => decide (chip < 256)
  | .vote chip _ _ => decide (chip < 256)
  | .managerIsolated => true
  | .managerListenEnd => true
  | .handoverWrite _ => true
  | .handoverMessage _ _ => true
  | .linkReport _ _ => true
  | .chipUnreachable chip => decide (chip < 256)
  | .fabricForward blk _ _ => decide (blk < 64)
  | .ttlExpired blk _ => decide (blk < 64)
  | .fabricLinkLossReroute p _ => decide (p < 128)
  | .mixedRevisionRetrain blk _ => decide (blk < 64)
  | .mixedConditionChange => true
  | .imgErase sl => decide (sl < 2)
  | .imgWrite sl _ _ => decide (sl < 2)
  | .imgCheck sl _ _ => decide (sl < 2)
  | .imgCommit sl => decide (sl < 2)
  | .imgApply sl _ => decide (sl < 2)
  | .imageCommandComplete => true
  | .keyGenId => true
  | .keyRotate _ => true
  | .keyRevoke n => decide (n < 4)
  | .keyProgRoot n => decide (n < 4)
  | .keyRaiseSvn _ => true
  | .keyCommandComplete => true
  | .trngStartupComplete => true
  | .trngHealthFailure _ => true
  | .trngReseed => true
  | .trngNext => true
  | .bootRecordsRead => true
  | .bootVerifyResult _ _ _ _ => true
  | .openSession _ _ _ _ => true
  | .closeSession ses _ => decide (ses < 8)
  | .sessionIdleTimeout ses => decide (ses < 8)
  | .sessionPathLoss ses => decide (ses < 8)
  | .regRead ses _ _ _ _ => decide (ses < 8)
  | .regWrite ses _ _ _ _ _ _ => decide (ses < 8)
  | .claim ses _ _ => decide (ses < 8)
  | .electionWindowClose => true
  | .renew ses _ => decide (ses < 8)
  | .ownerLeaseLapse => true
  | .ownHandover ses _ _ => decide (ses < 8)
  | .releaseOwnership ses _ => decide (ses < 8)
  | .eventQueue ev _ _ => decide (ev < 512)
  | .eventSend => true
  | .eventAck ses _ _ => decide (ses < 8)
  | .evtAckWrite _ => true
  | .eventResendTimeout => true
  | .fmApi ses _ _ => decide (ses < 8)
  | .memRead ses _ _ _ _ => decide (ses < 8)
  | .memWrite ses _ _ _ _ => decide (ses < 8)
  | .unknownTypeMessage ses _ _ _ _ _ => decide (ses < 8)
  | .udpDuplicateRequest ses _ => decide (ses < 8)
  | .resetNAssert => true
  | .resetEnd _ _ _ _ => true
  | .brownOut _ _ => true
  | .reboot => true
  | .enterTest => true
  | .boundaryScanTest => true
  | .hbmInitDone _ _ _ _ => true
  | .provisionComplete => true
  | .recoverRegions _ => true
  | .regionRecoveryEnd r _ => decide (r < 4)
  | .perstAssert blk => decide (blk < 64)
  | .perstDeassert blk => decide (blk < 64)
  | .bankWrite _ _ => true
  | .unitBanked u _ => decide (u < 160)
  | .bankDemandWake u => decide (u < 160)
  | .bankIdleRebank u _ => decide (u < 160)
  | .faultCause ev _ _ _ => decide (ev < 512)
  | .fltPendClear c => decide (c < 5)
  | .fltFatalClear r => decide (r < 4)
  | .regionFence r => decide (r < 4)
  | .lostHomeScan n _ => decide (n < 16)
  | .chipFatalCause ev => decide (ev < 512)
  | .emberToggle => true
  | .fltInjGo _ => true
  | .injectionApply => true
  | .injectionTimeout => true
  | .wearSample _ _ _ => true
  | .spareSliceReplace n _ _ => decide (n < 16)
  | .spareEngineReplace e _ => decide (e < 128)
  | .sramSoftRepair r _ => decide (r < 4)
  | .hbmSoftPpr ch _ _ => decide (ch < 32)
  | .clearLane _ => true
  | .retireEngine _ => true
  | .retireSlice _ => true
  | .degClear => true
  | .poolUnmetDemand p => decide (p < 6)
  | .ppsOutEdge => true
  | .timNowRead ses _ => decide (ses < 8)
  | .servoUpdate => true
  | .ptpSync _ _ _ _ _ => true
  | .ppsInEdge => true
  | .timeReferenceLoss _ => true
  | .timSet => true
  | .timAdj _ => true
  | .telemetryConversion c _ _ _ => decide (c < 97)
  | .thermalStateChange c => decide (c < 64)
  | .cntSnap u => decide (u < 5)
  | .cntClr u => decide (u < 5)
  | .clrPeak => true
  | .bwWindowEnd p _ _ => decide (p < 128)
  | .traceRecord _ => true
  | .start => true
  | .stop => true
  | .pmbusPoll n _ _ _ _ _ _ _ => decide (n < 64)
  | .slotChainFrame _ => true
  | .slotCommandedOn n => decide (n < 64)
  | .slotPgood n => decide (n < 64)
  | .slotSettleEnd n => decide (n < 64)
  | .slotPerstRelease n => decide (n < 64)
  | .slotOffCommand n => decide (n < 64)
  | .slotTrip n _ => decide (n < 64)
  | .slotRetry n => decide (n < 64)
  | .slotStableReset n => decide (n < 64)
  | .fetFail n => decide (n < 64)
  | .slotClear n => decide (n < 64)
  | .pwrbrkAssert n _ => decide (n < 64)
  | .pwrbrkRelease n => decide (n < 64)
  | .slotPresenceLoss n => decide (n < 64)
  | .cycle n => decide (n < 64)
  | .attentionButton n => decide (n < 64)
  | .refclkLoss k => decide (k < 17)
  | .refclkRestore k _ _ _ => decide (k < 17)
  | .ideKeySetUp p _ _ => decide (p < 128)
  | .remoteBinding ses _ _ _ _ _ _ _ => decide (ses < 8)
  | .hotnessZeroFillComplete => true
  | .ptpAnnounce _ => true
  | .upstreamTimeout => true

end Sys2Proof
end

