-- ==== Sys2Proof/Machine/Ops.lean ====
section
/-! DEFINITION. The named operations over the state that every family of commands shares: registers and their fields, the tables of units,
messages out, result registers, fabric time, the event ring, the reported mode, FAULT_N and refused accesses. -/

namespace Sys2Proof.Machine

/-- A command's outcome: its effect where every unit it names exists (Instr.wf), else the stop of log entry 2. -/
def run (units : Bool) (t : State) : Host.Outcome State Fault Refusal :=
  if units then .next t else .fault .noSuchUnit

/-! ### Registers -/

/-- The place of a register in the register file: its kind and its index. -/
def RegKind.key (k : RegKind) (i : Nat) : Nat := k.ctorIdx + 256 * i

/-- What an unlisted place of the register file holds: that register's reset value. -/
def regReset (key : Nat) : Word := (RegKind.ofNat (key % 256)).resetOf (key / 256)

/-- Register `i` of kind `k`. -/
def State.reg (s : State) (k : RegKind) (i : Nat) : Word := Tbl.rd regReset s.regs (k.key i)

/-- Register `i` of kind `k` set to a word. -/
def State.setReg (s : State) (k : RegKind) (i : Nat) (w : Word) : State :=
  { s with regs := Tbl.wr regReset s.regs (k.key i) w }

/-- The field `F` of register `i`, as a number. -/
def State.get (s : State) (F : Fld) (i : Nat) : Nat := (s.reg F.reg i).field F.hi F.lo

/-- The field `F` of register `i` set to the low bits of `v`; every other field of the register is kept. -/
def State.set (s : State) (F : Fld) (i v : Nat) : State :=
  s.setReg F.reg i ((s.reg F.reg i).setField F.hi F.lo v)

/-- A one-bit field as a Bool. -/
def State.flag (s : State) (F : Fld) (i : Nat) : Bool := s.get F i = 1

/-- A count that holds at its largest value goes up by `n`. -/
def State.count (s : State) (F : Fld) (i : Nat) (n : Nat := 1) : State :=
  s.set F i (satAdd F.width (s.get F i) n)

/-- A count that wraps goes up by one (R357: SEQ becomes the previous SEQ + 1 mod 256). -/
def State.bump (s : State) (F : Fld) (i : Nat) : State := s.set F i (s.get F i + 1)

/-- Bit `j` of a field written. -/
def State.setBit (s : State) (F : Fld) (i j : Nat) (b : Bool) : State :=
  s.set F i (withBit (s.get F i) j b)

/-- The same change for each unit of a list, in order. -/
def State.each (s : State) (l : List Nat) (f : Nat → State → State) : State :=
  l.foldl (fun t i => f i t) s

/-- A change made only under a condition. -/
def State.when (s : State) (c : Bool) (f : State → State) : State := if c then f s else s

/-- A message leaves the device. -/
def State.emit (s : State) (o : Out) : State := { s with out := s.out ++ [o] }

/-- A fresh free value's number (log entry 8). -/
def State.fresh (s : State) : State := { s with freeCtr := s.freeCtr + 1 }

/-! ### Result registers (R357) -/

/-- A command of a result's kind is accepted: VALID becomes 0, everything else keeps its value. -/
def State.resultStart (s : State) (valid : Fld) (i : Nat) : State := s.set valid i 0

/-- The result completes: SEQ + 1 mod 256 and VALID = 1; the caller writes the other fields in the same step. -/
def State.resultDone (s : State) (seq valid : Fld) (i : Nat) : State := (s.bump seq i).set valid i 1

/-! ### Performance counters (R414) -/

/-- A counter goes up; it never wraps, and holds at 2⁴⁸ − 1 with SAT = 1. -/
def State.cntAdd (s : State) (i n : Nat) : State :=
  let v := s.get CNT_VAL.COUNT i + n
  let s := s.set CNT_VAL.COUNT i (min v (2 ^ 48 - 1))
  if 2 ^ 48 - 1 ≤ v then s.set CNT_VAL.SAT i 1 else s

/-- The selects that are not at their reset value, by index: 80 × unit + k, units 0 to 3 the regions and 4 the chip. -/
def State.selects (s : State) : List Nat :=
  s.regs.filterMap fun e => if e.1 % 256 = RegKind.CNT_SEL.ctorIdx then some (e.1 / 256) else none

/-- A counter's select counts event `ev` of the unit with number `u` in region `r` and `chipU` on the chip. The decode group ignores UNIT; the chip group counts in chip counters alone; a fenced region's
counters hold their values (R415). -/
def State.counts (s : State) (i ev r u chipU : Nat) : Bool :=
  let owner := i / 80
  s.flag CNT_SEL.EN i && decide (s.get CNT_SEL.EVSEL i = ev) &&
    (if owner = 4 then decide (0x180 ≤ ev ∧ ev < 0x200) || decide (0x3C0 ≤ ev) || decide (s.get CNT_SEL.UNIT i = chipU)
     else owner = r && decide (ev < 0x3C0) && decide (s.get FLT_REG_STAT.STATE r ≠ 1) &&
      (decide (0x180 ≤ ev ∧ ev < 0x200) || decide (s.get CNT_SEL.UNIT i = u)))

/-- A count event happens `n` times in region `r`, at its unit `u`, on the chip unit `chipU`: every programmable counter that selects it counts. -/
def State.tally (s : State) (ev r u chipU : Nat) (n : Nat := 1) : State :=
  (s.selects.filter fun i => s.counts i ev r u chipU).foldl (fun t i => t.cntAdd i n) s

/-- A count event of the chip group. -/
def State.tallyChip (s : State) (ev : Nat) (n : Nat := 1) : State := s.tally (0x3C0 + ev) 4 0 0 n

/-- A count event of block `b`. -/
def State.tallyBlock (s : State) (ev b : Nat) (n : Nat := 1) : State := s.tally ev (b / 16) (b % 16) b n

/-- A count event of logical port `p` in its block's half: half 1's numbers lie 0x40 above half 0's. -/
def State.tallyPort (s : State) (ev p : Nat) (n : Nat := 1) : State := s.tallyBlock (ev + 64 * (p % 2)) (p / 2) n

/-- A count event of the policer at logical port `p`. -/
def State.tallyPolicer (s : State) (ev p : Nat) (n : Nat := 1) : State := s.tally (0x100 + ev) (p / 32) (p % 32) p n

/-- A count event of engine `e`. -/
def State.tallyEngine (s : State) (ev e : Nat) (n : Nat := 1) : State := s.tally (0x280 + ev) (e / 32) (e % 32) e n

/-- A fixed counter of a region, 64 to 79, counts, unless the region is fenced (R414, R415). -/
def State.fixed (s : State) (k r : Nat) (n : Nat := 1) : State :=
  if s.get FLT_REG_STAT.STATE r = 1 then s else s.cntAdd (80 * r + k) n

/-! ### Fabric time -/

/-- The time in the PTP format of R126: 16 bits of fraction, 32 of nanoseconds, 48 of seconds. -/
def FabTime.ptp (t : FabTime) : Nat := t.frac / 2 ^ 32 + t.ns * 2 ^ 16 + t.sec * 2 ^ 48

/-- Fabric time in the format of R126. -/
def State.time (s : State) : Nat := s.tim.ptp

/-- A signed 32-bit number. -/
def signed32 (n : Nat) : Int := if n < 2 ^ 31 then n else (n : Int) - 2 ^ 32

/-- The counter as a whole number of 2⁻⁴⁸ ns. -/
def FabTime.total (t : FabTime) : Int := (t.sec * 1000000000 + t.ns) * 2 ^ 48 + t.frac

/-- The counter from a whole number of 2⁻⁴⁸ ns; the seconds wrap at 48 bits. -/
def FabTime.ofTotal (n : Int) : FabTime :=
  let k := n.toNat
  let ns := k / 2 ^ 48
  ⟨ns / 1000000000 % 2 ^ 48, ns % 1000000000, k % 2 ^ 48⟩

/-- One cycle of the fabric-time island (R400): 1 ns + RATE × 2⁻³² ns with RATE = FREQ + SLEW. -/
def State.timeCycle (s : State) : State :=
  let rate := signed32 (s.get TIM_FREQ.FREQ 0) + signed32 (s.get TIM_FREQ.SLEW 0)
  { s with tim := FabTime.ofTotal (s.tim.total + 2 ^ 48 + rate * 2 ^ 16) }

/-- Each microsecond that a fabric sender spends in STALL is counted (R118, R136). -/
def State.stallTick (s : State) : State :=
  s.each ((s.sfl.filter fun e => e.2.stallAt.any fun t => decide (t < s.clk) && decide ((s.clk - t) % 1000 = 0)).map (·.1)) fun b t =>
    t.count SFL_LINK_CNT.STALL_US b

/-! ### The event ring (R358) -/

/-- A record queued in the ring: a corrected event needs more than 64 free places, any other needs one; an event that finds none is counted in OVF.
Record j of MGT_EVT_REC holds the record whose SEQ mod 1,024 is j (R360). -/
def State.queueEvent (s : State) (ev cls detail : Nat) : State :=
  let free := 1024 - s.get MGT_EVT_STAT.COUNT 0
  if (cls = 0 ∧ free ≤ 64) ∨ free = 0 then s.count MGT_EVT_STAT.OVF 0
  else
    let seq := s.get MGT_EVT_STAT.NEXT_SEQ 0
    let j := seq % 1024
    let t := s.time
    let s := s.setReg .MGT_EVT_REC (4 * j) (word t)
    let s := s.setReg .MGT_EVT_REC (4 * j + 1) (word (t / 2 ^ 64 + seq * 2 ^ 32))
    let s := s.setReg .MGT_EVT_REC (4 * j + 2) (word (ev % 512 + cls % 256 * 2 ^ 16 + detail % 2 ^ 32 * 2 ^ 32))
    let s := s.setReg .MGT_EVT_REC (4 * j + 3) (word (detail / 2 ^ 32 % 2 ^ 32))
    let s := s.set MGT_EVT_STAT.NEXT_SEQ 0 (seq + 1)
    (s.set MGT_EVT_STAT.COUNT 0 (s.get MGT_EVT_STAT.COUNT 0 + 1)).tallyChip 2

/-- The source detail of an event from what it is raised for (R358, R380): the slot and its CAUSE for events 496 to 499, open for every other (log entry 44). -/
def sourceDetail (ev what : Nat) : Nat := if 496 ≤ ev ∧ ev ≤ 499 then what else (Config.sourceDetail ev what).toNat

/-- A notice (R379): queued with its class, never recorded, merged or escalated. -/
def State.notice (s : State) (ev cls what : Nat) : State := s.queueEvent ev cls (sourceDetail ev what)

/-- The ACTIVE bit of an event that is a condition (R384). -/
def State.setActive (s : State) (ev : Nat) (b : Bool) : State :=
  s.setBit FLT_ACTIVE.ACTIVE (ev / 64) (ev % 64) b

/-! ### Regions, units and numbers -/

/-- The region of a block or router (R137: r = n div 16). -/
def regionOfBlock (b : Nat) : Nat := b / 16

/-- Region r's state (R363): 0 LIVE, 1 FENCED, 2 RECOVERY. -/
def State.regionState (s : State) (r : Nat) : Nat := s.get FLT_REG_STAT.STATE r

/-- The region is LIVE. -/
def State.live (s : State) (r : Nat) : Bool := s.regionState r = 0

/-- The region that physically holds what serves slice n (R14, R15): its own region, B for H16, C for H17. -/
def State.sliceRegion (s : State) (n : Nat) : Nat :=
  let p := s.get HRT_SLICE_STAT.PHYS n
  if p = 16 then 1 else if p = 17 then 2 else p / 4

/-- The region of a resolving point. -/
def State.pointRegion (s : State) (pt : Nat) : Nat := if pt < 4 then pt else s.sliceRegion (pt - 4)

/-- The collector that takes an event (R381): 0 to 3 the regions', 4 the chip's. -/
def State.collectorOf (s : State) (ev : Nat) : Nat :=
  if ev < 32 then 4
  else if ev < 160 then (ev - 32) / 32
  else if ev < 224 then s.sliceRegion ((ev - 160) / 4)
  else if ev < 352 then (ev - 224) / 32
  else if ev < 480 then (ev - 352) / 2 / 16
  else 4

/-! ### The reported mode (R361, R363, R364) -/

/-- The operating-group condition flags from what they follow: region states, DEGRADED (R396), MIXED (R315) and BANKED (R377). -/
def State.conditions (s : State) : State :=
  let st := fun r => s.regionState r
  let any := fun (p : Nat → Bool) => (List.range 4).any fun r => p (st r)
  let s := s.set PWR_MODE.REGION 0 (st 0 + 4 * st 1 + 16 * st 2 + 64 * st 3)
  let s := s.set PWR_MODE.CONTAINED_C 0 (bit (any (· ≠ 0)))
  let s := s.set PWR_MODE.RECOVERY_C 0 (bit (any (· = 2)))
  let s := s.set PWR_MODE.DEGRADED_C 0 (s.get FLT_STAT.DEG 0)
  s.set PWR_MODE.MIXED_C 0 (s.get MGT_FAB_STAT.MIXED 0)

/-- The mode that PWR_MODE.MODE reports: in the operating group the first whose condition holds of RECOVERY, CONTAINED, BANKED, DEGRADED,
MIXED, SERVICE (R361). -/
def State.modeNow (s : State) : Nat :=
  match s.phase with
  | .reset => 0
  | .boot => 1
  | .safe => 2
  | .verify => 3
  | .provision => 4
  | .test => 11
  | .operating =>
    if s.flag PWR_MODE.RECOVERY_C 0 then 9
    else if s.flag PWR_MODE.CONTAINED_C 0 then 8
    else if s.flag PWR_MODE.BANKED_C 0 then 10
    else if s.flag PWR_MODE.DEGRADED_C 0 then 7
    else if s.flag PWR_MODE.MIXED_C 0 then 6
    else 5

/-- PWR_MODE brought up to date: frozen once FATAL is set (R363); a change of MODE increments CHANGES and raises event 1 (R364). -/
def State.updMode (s : State) : State :=
  if s.flag PWR_MODE.FATAL 0 then s
  else
    let s := s.conditions
    if s.modeNow = s.get PWR_MODE.MODE 0 then s
    else ((s.set PWR_MODE.MODE 0 s.modeNow).count PWR_MODE.CHANGES 0).notice 1 0 0

/-- SERVICE holds from the end of PROVISION until the next reset or entry to TEST (R361, R362). -/
def State.inService (s : State) : Bool := s.phase = .operating

/-! ### FAULT_N (R390) -/

/-- Whether a condition that drives FAULT_N low holds; never in RESET (R374) or SAFE (R368). -/
def State.faultCondition (s : State) : Bool :=
  s.phase ≠ .reset && s.phase ≠ .safe &&
  (s.flag PWR_MODE.FATAL 0
   || (List.range 4).any (fun r => s.regionState r ≠ 0)
   || (s.flag FLT_STAT.DEG 0 && s.flag FLT_CFG.FN_DEG 4)
   || (s.flag FLT_CFG.FN_CONT 4 &&
       (List.range 5).any fun c => s.flag FLT_REC0.PEND c && decide (1 ≤ s.get FLT_REC0.CLASS c)))

/-- FAULT_N driven low or released, as FLT_STAT.FAULTN shows. -/
def State.updFaultN (s : State) : State := s.set FLT_STAT.FAULTN 0 (bit s.faultCondition)

/-! ### Refused register accesses (R35) -/

/-- A refused access: recorded with event 3 when PEND is 0, only counted while PEND is 1. `size` 0 to 3 is 8, 16, 32, 64 bits. -/
def State.refuse (s : State) (addr size : Nat) (write : Bool) (session : Nat) : State :=
  let s := { s with refusals := s.refusals + 1 }
  if s.flag MGT_DRS_ERR.PEND 0 then s.count MGT_DRS_ERR.COUNT 0
  else
    let s := s.set MGT_DRS_ERR.ADDR 0 addr
    let s := s.set MGT_DRS_ERR.SIZE 0 size
    let s := s.set MGT_DRS_ERR.WRITE 0 (bit write)
    let s := s.set MGT_DRS_ERR.SESSION 0 session
    let s := s.set MGT_DRS_ERR.PEND 0 1
    let s := s.set MGT_DRS_ERR.COUNT 0 1
    s.notice 3 0 (addr + 2 ^ 30 * size)

/-- The base of the unit that holds a register of a class (R29 to R32). -/
def unitBase (c : UnitClass) (u : Nat) : Nat :=
  match c with
  | .chip => 0
  | .collector => if u = 4 then 0x100000 else 0x4000000 + u * 0x1000000 + 0xB00000
  | .counter => if u = 4 then 0x300000 else 0x4000000 + u * 0x1000000 + 0xC00000
  | .block => 0x4000000 + (u / 16) * 0x1000000 + (u % 16) * 0x80000
  | .router => 0x4000000 + (u / 16) * 0x1000000 + 0x800000 + (u % 16) * 0x1000
  | .region => 0x4000000 + u * 0x1000000
  | .slice => 0x1000000 + u * 0x100000
  | .hearth => 0x1000000
  | .cluster => 0x2000000 + u * 0x100000
  | .engine => 0x2000000 + (u / 8) * 0x100000 + 0x10000 + (u % 8) * 0x100
  | .table => 0x10000000

/-- The DRS address of register `i` of a kind. -/
def drsAddr (k : RegKind) (i : Nat) : Nat :=
  let p := k.place
  let n := p.n1 * p.n2
  unitBase p.cls (i / n) + p.off + (i % n / p.n2) * p.stride1 + (i % p.n2) * p.stride2

/-- A write of a register that is not performed and is recorded in MGT_DRS_ERR: the access that REG_WRITE performs, or a 64-bit one by the owner's session (log entry 10). -/
def State.refuseWrite (s : State) (k : RegKind) (i : Nat) : State :=
  match s.accessing with
  | some (a, size, n) => s.refuse a size true n
  | none => s.refuse (drsAddr k i) 3 true (s.get MGT_OWN_STAT.OWNER 0)

/-! ### Responses to sessions (R344 to R347) -/

/-- What session `n` holds. -/
def State.sesAt (s : State) (n : Nat) : Session := Tbl.rd (fun _ => Session.idle) s.sess n

/-- Session `n` replaced. -/
def State.setSes (s : State) (n : Nat) (x : Session) : State :=
  { s with sess := Tbl.wr (fun _ => Session.idle) s.sess n x }

/-- A response of session `n`, kept as its last (R347). -/
def State.respond (s : State) (n tag : Nat) (o : Out) : State :=
  (s.setSes n { s.sesAt n with last := some (tag, o) }).emit o

/-- PARAM where R345 defines none for the message (log entry 45). -/
def freeParam (type tag : Nat) : Nat := (Config.openParam type tag).toNat

/-- TAG of a message that no request asked for (log entry 45). -/
def freeTag : Nat := Config.openTag.toNat

/-- A Weusk response with a status (R344). -/
def State.reply (s : State) (n type tag : Nat) (st : WStatus) (param : Nat := freeParam type tag) (payload : List Byte := []) : State :=
  s.respond n tag (.weusk ⟨type, n, st, tag, param, payload⟩)

/-- The outcome of a session's memory request once every part has its own (R206, R345): the data, or nothing for a write. A denial is flagged by a status that the spec does not name
(log entry 41), and PARAM names the first failing part. -/
def State.memDone (s : State) (m : MemRun) : State :=
  if m.parts.all Option.isSome then
    let s := { s with memRuns := s.memRuns.erase m }
    let data := if m.write then [] else m.parts.flatMap fun x => x.getD []
    let type := if m.write then 0x0E else 0x0D
    match m.denied with
    | none => s.reply m.ses type m.tag .ok (freeParam type m.tag) data
    | some j => (s.reply m.ses type m.tag (Config.denialStatus s.freeCtr) j data).fresh
  else s

/-- A part of a session's memory request has its outcome: its bytes, and whether it was denied. -/
def State.memPart (s : State) (ses tag part : Nat) (bytes : List Byte) (denied : Bool) : State :=
  match s.memRuns.find? fun m => m.ses = ses && m.tag = tag with
  | none => s
  | some m =>
    let n := { m with parts := m.parts.set part (some bytes), denied := if denied then some (min part (m.denied.getD part)) else m.denied }
    { s with memRuns := s.memRuns.map fun x => if x = m then n else x }.memDone n

/-- A packet that answers a session's memory request: its PARAM holds the TAG, the session and the part (log entry 41). -/
def State.memAnswer (s : State) (p : Pkt) : State :=
  if p.kind = .response ∨ p.kind = .dataResponse then
    s.memPart (p.param / 2 ^ 16 % 8) (p.param % 2 ^ 16) (p.param / 2 ^ 19) p.body p.poison
  else s

/-- Failing parts of a session's request, or all of it (R206): all-ones, denied. -/
def State.memDenied (s : State) (q : MemReq) (failing : Option (List Nat)) : State :=
  match q.src with
  | .session n =>
    match s.memRuns.find? fun m => m.ses = n && m.tag = q.tag % 2 ^ 16 with
    | none => s
    | some m =>
      (failing.getD (List.range m.parts.length)).foldl (fun t k => t.memPart n m.tag k (List.replicate (m.lens.getD k 0) 255) true) s
  | _ => s

/-- The first outstanding access that matches is over. -/
def State.accessDone (s : State) (f : Access → Bool) : State := { s with accesses := s.accesses.eraseP f }

/-- An answer reaches a port, or a session: its access at a remap stage is over (R243). -/
def State.answerOver (s : State) (who : ReqSource → Bool) (tag : Nat) : State :=
  s.accessDone fun a => decide (a.tag = tag) && a.src.any who

/-- A port that asked. -/
def fromPort (p : Nat) (x : ReqSource) : Bool :=
  match x with
  | .port q _ => q = p
  | _ => false

/-- A request is answered with a failure (R206), by a sink where `slag` is not 0: to an engine the failure is on its way (R267). -/
def State.deny (s : State) (q : MemReq) (a : ReqAnswer) (failing : Option (List Nat) := none) (slag : Nat := 0) : State :=
  let s := (s.emit (.denied q a)).memDenied q failing
  match q.src with
  | .engine _ => { s with denials := s.denials ++ [(q, a, slag)] }
  | _ => s

end Sys2Proof.Machine
end

