-- ==== Sys2Proof/Machine/Memory.lean ====
section
/-! DEFINITION. The HBM of the device (R26 to R28): a memory of bytes in one canonical form, and the partitions that the image lays out in it. -/

namespace Sys2Proof.Machine

/-- A memory: addresses strictly rising, no cell equal to what an unlisted address reads as. -/
abbrev Memory := List Host.Cell

/-- What an unlisted byte reads as (log entry 24). -/
def Memory.unlisted (_ : Nat) : Byte := 0

/-- The canonical form of a memory. -/
def Memory.wf (m : Memory) : Bool := Tbl.wf Memory.unlisted m

/-- One byte of a memory. -/
def Memory.read (m : Memory) (a : Nat) : Byte := Tbl.rd Memory.unlisted m a

/-- One byte of a memory written. -/
def Memory.write (m : Memory) (a : Nat) (b : Byte) : Memory := Tbl.wr Memory.unlisted m a b

/-- Consecutive bytes of a memory. -/
def Memory.readBytes (m : Memory) (a n : Nat) : List Byte := (List.range n).map fun i => m.read (a + i)

/-- Consecutive bytes of a memory written. -/
def Memory.writeBytes (m : Memory) (a : Nat) : List Byte → Memory
  | [] => m
  | b :: bs => Memory.writeBytes (m.write a b) (a + 1) bs

/-- A range of a memory filled with zeros, whose cells an unlisted address reads as. -/
def Memory.clear (m : Memory) (a n : Nat) : Memory := m.filter fun c => !(decide (a ≤ c.1) && decide (c.1 < a + n))

/-- Bytes of HBM. -/
def State.readHbm (s : State) (a n : Nat) : List Byte := Memory.readBytes s.hbm a n

/-- Bytes of HBM written. -/
def State.writeHbm (s : State) (a : Nat) (bs : List Byte) : State := { s with hbm := Memory.writeBytes s.hbm a bs }

/-- A range of HBM zero-filled. -/
def State.clearHbm (s : State) (a n : Nat) : State := { s with hbm := Memory.clear s.hbm a n }

/-- Eight bytes of HBM as a word, least-significant byte first. -/
def State.hbm64 (s : State) (a : Nat) : Word := word (ofBytes (s.readHbm a 8))

/-- Eight bytes of HBM written, least-significant byte first. -/
def State.setHbm64 (s : State) (a : Nat) (w : Word) : State := s.writeHbm a (toBytes 8 w.toNat)

/-! ### Partitions (R26) -/

/-- The directory partition's base: above the firmware and repair partition. -/
def dirBase : Nat := 0x20000000

/-- The remap level-2 partition's base. -/
def State.l2Base (s : State) : Nat := dirBase + s.get MGT_HBM_PART.DIR_GIB 0 * 2 ^ 30

/-- The trace buffer's base. -/
def State.traceBase (s : State) : Nat := s.l2Base + s.get MGT_HBM_PART.L2_64M 0 * 2 ^ 26

/-- The Tongs scratch partition's base. -/
def State.scratchBase (s : State) : Nat := s.traceBase + s.get MGT_HBM_PART.TRACE_256M 0 * 2 ^ 28

/-- The channel of an HBM address: the partitions are interleaved across the 32 channels at 1 KiB (R28). -/
def hbmChannel (a : Nat) : Nat := a / 1024 % 32

/-- An address lies in a channel of another region that is not LIVE (R386). -/
def State.hbmFenced (s : State) (r a : Nat) : Bool := decide (hbmChannel a / 8 ≠ r) && !s.live (hbmChannel a / 8)

/-- A 64-byte access of an HBM channel counted (R414). -/
def State.hbmCount (s : State) (a : Nat) (write : Bool) : State :=
  let ch := hbmChannel a
  (s.tally (0x300 + bit write) (ch / 8) (ch % 8) ch).fixed (77 + bit write) (ch / 8)

/-- The size of HBM: 48 GiB. -/
def hbmSize : Nat := 0xC00000000

end Sys2Proof.Machine
end

