-- ==== Sys2Proof/Machine/Hosts.lean ====
section
/-! DEFINITION. Ports, lanes and vPPBs as every family sees them (R36 to R40, R65 to R81), and what hosts see when a link is lost: surprise removal (R79), media
events (R80), the end of an agent (R233). -/

namespace Sys2Proof.Machine

/-! ### Ports and lanes -/

/-- The port `p`. -/
def State.port (s : State) (p : Nat) : PortState := Tbl.rd (fun _ => PortState.idle) s.ports p

/-- The port `p` replaced. -/
def State.setPort (s : State) (p : Nat) (x : PortState) : State :=
  { s with ports := Tbl.wr (fun _ => PortState.idle) s.ports p x }

/-- The block `b`. -/
def State.blockAt (s : State) (b : Nat) : BlockState := Tbl.rd (fun _ => BlockState.idle) s.blocks b

/-- The block `b` replaced. -/
def State.setBlock (s : State) (b : Nat) (x : BlockState) : State :=
  { s with blocks := Tbl.wr (fun _ => BlockState.idle) s.blocks b x }

/-- The role of logical port p (R40, R61): 0 upstream, 1 downstream, 2 fabric, 3 analysis. -/
def State.role (s : State) (p : Nat) : Nat :=
  if p % 2 = 0 then s.get PRT_CFG.ROLE0 (p / 2) else s.get PRT_CFG.ROLE1 (p / 2)

/-- The port exists under its block's mode (R38, R39): half 0 of X8, SPLIT and X16_LEAD, half 1 of SPLIT only. -/
def State.portExists (s : State) (p : Nat) : Bool :=
  let m := s.get PRT_CFG.MODE (p / 2)
  if p % 2 = 0 then m = 1 || m = 2 || m = 3 else m = 2

/-- The blocks whose lanes a port uses: its own, and the follower of an x16 lead (R38). -/
def State.portBlocks (s : State) (p : Nat) : List Nat :=
  if s.get PRT_CFG.MODE (p / 2) = 3 then [p / 2, p / 2 + 1] else [p / 2]

/-- The lead block of the port a block serves (R39). -/
def State.leadOf (s : State) (b : Nat) : Nat := if s.get PRT_CFG.MODE b = 4 then b - 1 else b

/-- The indices at which registers of a kind are listed with a value other than their reset value. -/
def State.listed (s : State) (k : RegKind) : List Nat :=
  s.regs.filterMap fun e => if e.1 % 256 = k.ctorIdx then some (e.1 / 256) else none

/-- The port that pair `k` of block `b` serves (R38, R39): half 1 for pairs 4 to 7 of a SPLIT block, the lead's port for an X16_FOLLOW block. -/
def State.pairPort (s : State) (b k : Nat) : Nat :=
  let m := s.get PRT_CFG.MODE b
  if m = 4 then 2 * (b - 1) else if m = 2 ∧ 4 ≤ k then 2 * b + 1 else 2 * b

/-- The pairs of a port, as (block, pair, lane number before reversal). -/
def State.portPairs (s : State) (p : Nat) : List (Nat × Nat × Nat) :=
  let b := p / 2
  match s.get PRT_CFG.MODE b with
  | 2 => (List.range 4).map fun i => (b, 4 * (p % 2) + i, i)
  | 3 => (List.range 8).map (fun i => (b, i, i)) ++ (List.range 8).map fun i => (b + 1, i, 8 + i)
  | _ => (List.range 8).map fun i => (b, i, i)

/-- The pair a lane circuit serves (R36, R37): LC8 serves SPARE_LANE once in use, and the circuit it replaced serves none. -/
def State.circuitPair (s : State) (b k : Nat) : Option Nat :=
  let used := s.flag PRT_LANE_MAP.SPARE_USED b
  if k = 8 then (if used then some (s.get PRT_LANE_MAP.SPARE_LANE b) else none)
  else if used ∧ s.get PRT_LANE_MAP.SPARE_LANE b = k then none else some k

/-- The lane circuits of a port, as 9 × block + circuit: those that serve a pair of it now. -/
def State.circuitsOf (s : State) (p : Nat) : List Nat :=
  (s.portBlocks p).flatMap fun b =>
    ((List.range 9).filter fun k => (s.circuitPair b k).any fun q => s.pairPort b q = p).map fun k => 9 * b + k

/-! ### Endpoints and vPPBs -/

/-- The FEID of local endpoint `e` (R81): the chip's ID over nine bits of endpoint. -/
def State.localFeid (s : State) (e : Nat) : Nat := s.get MGT_CHIP_INFO.CHIP_ID 0 * 512 + e

/-- The VCS whose upstream port is p. -/
def State.vcsOf (s : State) (p : Nat) : Option Nat :=
  (List.range 64).find? fun v => s.flag VCS_ENTRY.ACTIVE v && decide (s.get VCS_ENTRY.USP_PORT v = p)

/-- The VCS's host agent is admitted (R75, R231): its BI enable is set and its CAID is valid and not in removal. -/
def State.agentAdmitted (s : State) (vcs : Nat) : Bool :=
  let c := s.get VCS_ENTRY.CAID vcs
  s.flag VCS_ENTRY.BI_EN vcs && s.flag HRT_AGENT.VALID c && !s.flag HRT_AGENT.REMOVING c &&
    decide (s.get HRT_AGENT.PORT_FEID c = s.localFeid (s.get VCS_ENTRY.USP_PORT vcs))

/-- The vPPBs bound to a local target port. -/
def State.boundTo (s : State) (p : Nat) : List Nat :=
  (s.listed .VPPB_ENTRY).filter fun v =>
    (s.get VPPB_ENTRY.STATE v = 1 || s.get VPPB_ENTRY.STATE v = 2) &&
      !s.flag VPPB_ENTRY.REMOTE v && s.get VPPB_ENTRY.TARGET v % 512 = p

/-- A vPPB's slot. -/
def State.vppb (s : State) (v : Nat) : Vppb := Tbl.rd (fun _ => Vppb.idle) s.vppbs v

/-- A vPPB's slot replaced. -/
def State.setVppb (s : State) (v : Nat) (x : Vppb) : State :=
  { s with vppbs := Tbl.wr (fun _ => Vppb.idle) s.vppbs v x }

/-- The host sees a hot-add through a vPPB (R70, R79): presence and both status-changed bits. -/
def State.hotAdd (s : State) (v : Nat) : State :=
  let s := s.setVppb v { s.vppb v with dllsc := true, pdc := true }
  s.set VPPB_ENTRY.PRESENT v 1

/-- The running bind or unbind of a vPPB shown in BUSY. -/
def State.setOp (s : State) (v : Nat) (op : Option BindOp) : State :=
  (s.setVppb v { s.vppb v with op := op }).set VPPB_ENTRY.BUSY v (bit op.isSome)

/-- vPPBs with a bind or unbind running. -/
def State.opsRunning (s : State) : List (Nat × BindOp) := s.vppbs.filterMap fun e => e.2.op.map fun o => (e.1, o)

/-! ### Level-2 entries as HBM holds them (R194, R199) -/

/-- The HBM address of level-2 entry `e` = table × 512 + granule (R194). -/
def State.l2Addr (s : State) (e : Nat) : Nat := s.l2Base + e * 8

/-- A level-2 entry as HBM holds it. -/
def State.l2Entry (s : State) (e : Nat) : Word := s.hbm64 (s.l2Addr e)

/-- VALID of a level-2 entry. -/
def l2Valid (w : Word) : Bool := w.field 0 0 = 1
/-- MIG of a level-2 entry. -/
def l2Mig (w : Word) : Bool := w.field 1 1 = 1
/-- HOLD of a level-2 entry. -/
def l2Hold (w : Word) : Bool := w.field 2 2 = 1
/-- TARGET of a level-2 entry. -/
def l2Target (w : Word) : Nat := w.field 20 4
/-- LD of a level-2 entry. -/
def l2Ld (w : Word) : Nat := w.field 24 21
/-- DEV_GRAN of a level-2 entry. -/
def l2Gran (w : Word) : Nat := w.field 55 25

/-- The extent's level-2 entries in order. -/
def State.extentEntries (s : State) (i : Nat) : List Word :=
  (List.range 512).map fun g => s.l2Entry (s.get L1_W0.L2PTR i * 512 + g)

/-! ### A link lost, as hosts meet it (R79, R80, R233) -/

/-- A surprise removal at a vPPB: absent, both status-changed bits, DPC where the host enabled it; the binding remains. -/
def State.surpriseRemoved (s : State) (v : Nat) : State :=
  let x := s.vppb v
  let s := s.setVppb v { x with dllsc := true, pdc := true, dpc := x.dpc || x.dpcEn }
  s.set VPPB_ENTRY.PRESENT v 0

/-- A CXL event record (R76, R80). -/
def State.logCxl (s : State) (media : Bool) (vcs : Nat) (extents : List Nat) : State :=
  { s with cxlLog := s.cxlLog ++ [⟨s.cxlHandle, media, vcs, extents⟩], cxlHandle := s.cxlHandle + 1 }

/-- An extent is served by a target: by its L1 entry, or by a level-2 entry where it is fractured. -/
def State.servedBy (s : State) (i : Nat) (target : Nat → Bool) : Bool :=
  if s.flag L1_W0.FRACT i then (s.extentEntries i).any fun w => l2Valid w && target (l2Target w) else target (s.get L1_W0.TARGET i)

/-- Backing expanders are lost (R80): their pool devices raise a General Media record for each affected extent. -/
def State.mediaLost (s : State) (target : Nat → Bool) : State :=
  let hit := (s.listed .L1_W0).filter fun i => s.flag L1_W0.VALID i && s.flag L1_W0.HELD i && s.servedBy i target
  s.each hit fun i t => t.logCxl true (t.get L1_W1.VCS i) [i]

/-- On the acting manager a change of an HRT_AGENT entry waits to be carried to the other chips by a generation (R231, R233, R301). -/
def State.carryAgent (s : State) (c : Nat) : State :=
  if s.get MGT_FAB_STAT.ROLE_NOW 0 = 3 then
    { s with fab := { s.fab with todo := s.fab.todo ++ [([FabChange.agent c (s.reg .HRT_AGENT c)], [])] } }
  else s

/-- An agent's removal begins (R233): REMOVING is set, which the acting manager carries to the other chips, and a sweep of the directory starts; the Slag sink answers its outstanding BISnp (SNP_DEAD_RECEIVED). -/
def State.agentGone (s : State) (c : Nat) : State :=
  if !s.flag HRT_AGENT.VALID c || s.flag HRT_AGENT.REMOVING c then s
  else
    let s := s.set HRT_AGENT.REMOVING c 1
    let s := s.set HRT_ADMIT.REMOVING 0 (s.get HRT_ADMIT.REMOVING 0 + 1)
    { s with sweeping := s.sweeping ++ [c] }.carryAgent c

/-- A target's loss shown at a vPPB bound to it (R71, R79): a surprise removal, but for a vPPB whose Unbind with option 0 waits for just this. -/
def State.targetLostAt (s : State) (v : Nat) : State :=
  match (s.vppb v).op with
  | some o => if !o.bind && o.option = 0 then s else s.surpriseRemoved v
  | none => s.surpriseRemoved v

/-- What hosts meet when a port loses DL_UP (R71, R79, R80, R233): on a downstream port a surprise removal at each vPPB bound to it, the mark for each bind that runs, and the
media events of pool devices; on an upstream port the end of its host's agent. -/
def State.lostAtHosts (s : State) (p : Nat) : State :=
  if s.role p = 1 then
    let s := s.each (s.boundTo p) fun v t => t.targetLostAt v
    let s := s.opsRunning.foldl (fun t x => if x.2.bind && x.2.target = p then t.setOp x.1 (some { x.2 with dropped := true }) else t) s
    s.mediaLost fun f => f = s.localFeid p
  else if s.role p = 0 then
    s.each ((s.listed .HRT_AGENT).filter fun c => s.get HRT_AGENT.PORT_FEID c = s.localFeid p) fun c t => t.agentGone c
  else s

end Sys2Proof.Machine
end

