-- ==== Sys2Proof/Machine/Fence.lean ====
section
/-! DEFINITION. The operations by which a fault spreads, shared by every family: Quench of a network interface (R161, R162), a link taken down, the fence of a
region (R385), the chip fatal state (R388) and the arrival of a cause at its collector (R381 to R383). -/

namespace Sys2Proof.Machine

/-! ### Units by number -/

/-- The region of a network interface (R138). -/
def niRegion (n : Nat) : Nat :=
  if n < 64 then n / 16 else if n < 128 then (n - 64) / 16 else if n < 132 then n - 128
  else if n = 132 then 1 else 2

/-- The router a network interface hangs on (R138). -/
def niRouter (n : Nat) : Nat :=
  if n < 64 then n else if n < 128 then n - 64 else if n < 132 then 16 * (n - 128)
  else if n = 132 then 22 else 41

/-- The NIs of a region. -/
def regionNis (r : Nat) : List Nat := (List.range 134).filter fun n => niRegion n = r

/-- The network interface `n`. -/
def State.niAt (s : State) (n : Nat) : NiState := Tbl.rd (fun _ => NiState.idle) s.ni n

/-- The network interface `n` replaced. -/
def State.setNi (s : State) (n : Nat) (x : NiState) : State :=
  { s with ni := Tbl.wr (fun _ => NiState.idle) s.ni n x }

/-- The training of fabric block `b`. -/
def State.train (s : State) (b : Nat) : SflTrain := Tbl.rd (fun _ => SflTrain.idle) s.sflTrain b

/-- The training of fabric block `b` replaced. -/
def State.setTrain (s : State) (b : Nat) (x : SflTrain) : State :=
  { s with sflTrain := Tbl.wr (fun _ => SflTrain.idle) s.sflTrain b x }

/-- The SFL link of block `b`. -/
def State.link (s : State) (b : Nat) : SflLink := Tbl.rd (fun _ => SflLink.idle) s.sfl b

/-- The SFL link of block `b` replaced. -/
def State.setLink (s : State) (b : Nat) (x : SflLink) : State :=
  { s with sfl := Tbl.wr (fun _ => SflLink.idle) s.sfl b x }

/-- The fabric lane circuit `k` of block `b`. -/
def State.sflLane (s : State) (b k : Nat) : SflLane := Tbl.rd (fun _ => SflLane.hunt) s.sflLanes (9 * b + k)

/-- A fabric lane circuit replaced. -/
def State.setSflLane (s : State) (b k : Nat) (x : SflLane) : State :=
  { s with sflLanes := Tbl.wr (fun _ => SflLane.hunt) s.sflLanes (9 * b + k) x }

/-- The credit ledger of a source at an egress block (R153). -/
def State.ledgerAt (s : State) (e src : Nat) : Ledger := Tbl.rd (fun _ => Ledger.none) s.ledger (256 * e + src)

/-- A credit ledger replaced. -/
def State.setLedger (s : State) (e src : Nat) (x : Ledger) : State :=
  { s with ledger := Tbl.wr (fun _ => Ledger.none) s.ledger (256 * e + src) x }

/-- The block is a lead or a single block in fabric role. -/
def State.isFabric (s : State) (b : Nat) : Bool := s.portExists (2 * b) && s.role (2 * b) = 2

/-- PRT_LINK_CTL.ADMIN of a port. -/
def State.admin (s : State) (p : Nat) : Bool :=
  if p % 2 = 0 then s.flag PRT_LINK_CTL.ADMIN0 (p / 2) else s.flag PRT_LINK_CTL.ADMIN1 (p / 2)

/-! ### Credit (R153 to R156) -/

/-- Where a packet needs a slot: its egress block, or its class's receive buffer at a client or management NI, numbered 64 + 9 × (NI − 64) + class. -/
def creditPoint (p : Pkt) : Nat := if p.dst < 64 then p.dst else 64 + 9 * (p.dst - 64) + p.cls % 9

/-- The NI of a credit point. -/
def pointNi (e : Nat) : Nat := if e < 64 then e else 64 + (e - 64) / 9

/-- Flits restored at a source: the standing allowance first, the shared grant second (R154). -/
def State.restore (s : State) (e n flits : Nat) : State :=
  let l := s.ledgerAt e n
  let a := min flits l.standSpent
  s.setLedger e n { l with standSpent := l.standSpent - a, sharedSpent := l.sharedSpent - (flits - a) }

/-- A packet that will not arrive is credited back to its source (R156); CTL takes no credit. -/
def State.creditBack (s : State) (p : Pkt) : State := if p.cls = 8 then s else s.restore (creditPoint p) p.src p.len

/-- A sink's answer that looped back on its own NI: it took no slot (R163). -/
def looped (p : Pkt) : Bool := p.alt = 7

/-- A packet leaves an egress buffer: OCC falls by its flits. -/
def State.vacate (s : State) (n : Nat) (p : Pkt) : State := if looped p then s else s.set ANV_CR_STAT.OCC n (s.get ANV_CR_STAT.OCC n - p.len)

/-! ### Quench (R161, R162, R165) -/

/-- The bit of ANV_QUENCH_STAT that shows an NI quenched. -/
def State.showQuench (s : State) (n : Nat) (b : Bool) : State :=
  let r := niRegion n
  if n < 64 then s.setBit ANV_QUENCH_STAT.BLOCK r (n % 16) b
  else if n < 128 then s.setBit ANV_QUENCH_STAT.CLIENT r (n % 16) b
  else if n < 132 then s.set ANV_QUENCH_STAT.MGMT r (bit b)
  else s.set ANV_QUENCH_STAT.SPARE r (bit b)

/-- The NI is quenched, until it accepts packets again (R164). -/
def State.quenched (s : State) (n : Nat) : Bool := (s.niAt n).code ≠ 0

/-- A packet with the sink's code in its SLAG field (R163). -/
def slagged (code : Nat) (p : Pkt) : Pkt := { p with slag := code }

/-- A packet handed to a sink stage with a code (R162). -/
def State.absorb (s : State) (n : Nat) (p : Pkt) (code : Nat) : State :=
  let x := s.niAt n
  s.setNi n { x with absorbed := x.absorbed ++ [slagged code p] }

/-- A trigger quenches an NI (R162): the first one hands its buffered and tracked packets to its sink stage, gives their slots back, raises event 32 + 32r + 8 and sends the notice; a
further cause is only logged, by the same event, and must go too (R164, R165). -/
def State.quench (s : State) (n : Nat) (t : Trigger) : State :=
  let x := s.niAt n
  if x.triggers.isEmpty then
    let s := s.setNi n { x with
      triggers := [t], code := t.code, absorbed := x.absorbed ++ (x.tracker ++ x.rx).map (slagged t.code), tracker := [], rx := [] }
    let s := x.rx.foldl (fun u p => if looped p then u else (u.vacate n p).creditBack p) s
    let s := s.showQuench n true
    let s := s.emit (.quenchNotice n t.code)
    s.notice (32 + 32 * niRegion n + 8) 0 n
  else if x.triggers.any fun u => u.code = t.code && u.who = t.who then
    s.setNi n { x with triggers := x.triggers.map fun u => if u.code = t.code ∧ u.who = t.who then t else u }
  else (s.setNi n { x with triggers := x.triggers ++ [t] }).notice (32 + 32 * niRegion n + 8) 0 n

/-- Triggers of an NI removed (R164): it stays quenched while any is left, and then until its sink stage has answered what it absorbed. -/
def State.dropTriggers (s : State) (n : Nat) (gone : Trigger → Bool) : State :=
  let x := s.niAt n
  s.setNi n { x with triggers := x.triggers.filter fun t => !gone t }

/-- With its last trigger gone and every absorbed packet answered, an NI accepts packets again, shows so, and sends the Unquench notice (R164); event 32 + 32r + 8. -/
def State.release (s : State) (n : Nat) : State :=
  let x := s.niAt n
  if x.code ≠ 0 ∧ x.triggers.isEmpty ∧ x.absorbed.isEmpty then
    let s := (s.setNi n { x with code := 0 }).showQuench n false
    (s.emit (.unquenchNotice n)).notice (32 + 32 * niRegion n + 8) 0 n
  else s

/-! ### Links taken down -/

/-- A link goes down: the port is no longer in bring-up, its status shows DOWN and its circuits have no lock; a pending spare mapping waits for the next Detect (R53), and
hosts meet the loss of DL_UP (R79, R233). -/
def State.portDown (s : State) (p : Nat) : State :=
  let up := s.flag PRT_LINK_STATUS.DL_UP p
  let s := s.setPort p PortState.idle
  let s := s.set PRT_LINK_STATUS.STATE p 0
  let s := s.set PRT_LINK_STATUS.RATE p 0
  let s := s.set PRT_LINK_STATUS.WIDTH p 0
  let s := s.set PRT_LINK_STATUS.NEG_WIDTH p 0
  let s := s.set PRT_LINK_STATUS.FLIT p 0
  let s := s.set PRT_LINK_STATUS.DL_UP p 0
  let s := s.set PRT_CXL_STATUS.IDE_CM p 0
  let s := s.set PRT_CXL_STATUS.IDE_IO p 0
  let s := { s with ideKeys := Tbl.wr (fun _ => none) s.ideKeys p none }
  let s := s.each (s.circuitsOf p) fun c t => t.set PRT_LANE_STAT.LOCK c 0
  if up then s.lostAtHosts p else s

/-- The packets that a link's end loses (R131): those that begin in units not acknowledged, and one whose first bytes have gone and whose rest has not. -/
def SflLink.lostPkts (x : SflLink) : List Pkt :=
  let stored := x.buf.flatMap (·.pkts)
  stored ++ ((x.waiting.filter (·.begun)).map (·.pkt)).filter fun p => !stored.contains p

/-- A link's end loses what was not acknowledged: its requesters are answered by the block's sink stage, because delivery cannot be ruled out (R131). -/
def State.sflLost (s : State) (b : Nat) : State :=
  let x := s.niAt b
  s.setNi b { x with absorbed := x.absorbed ++ (s.link b).lostPkts.map (slagged 1) }

/-- A packet that a VC had received in part when its link ended is discarded (R159), at once or behind the units accepted before it. -/
def State.endVc (s : State) (b v : Nat) : State :=
  let i := 8 * b + v
  let x := s.link b
  if x.accepted.any fun u => u.vc = v then s.setLink b { x with accepted := x.accepted ++ [⟨v, false, false, []⟩] }
  else if (Tbl.rd (fun _ => []) s.fabIn i).any fun y => y ≠ 0 then
    { s with fabIn := Tbl.wr (fun _ => []) s.fabIn i [] }.count ANV_SLAG_CNT2.PARTIAL (b / 16)
  else { s with fabIn := Tbl.wr (fun _ => []) s.fabIn i [] }

/-- The SFL receiver, sender and lane-change state of a link that is not ACTIVE: the DATA units not acknowledged are counted in LOST (R131), units accepted stay delivered
(R159), keys and counts stay (R135). -/
def State.sflDrop (s : State) (b : Nat) : State :=
  let x := s.link b
  let s := s.count SFL_LINK_CNT2.LOST b x.buf.length
  let s := s.set SFL_LINK_STAT.TX_STATE b 0
  let s := s.set SFL_LINK_STAT.RX_DISCARD b 0
  let s := s.set SFL_LINK_STAT.ACTIVE_MASK b 0
  let s := s.set SFL_LINK_STAT.LANE_BUSY b 0
  let s := s.set SFL_LINK_STAT.REPLAY_OCC b 0
  let s := s.setLink b { SflLink.idle with
    waiting := x.waiting.filter fun w => !w.begun, accepted := x.accepted, epoch := x.epoch, txKeys := x.txKeys, rxKeys := x.rxKeys }
  s.each (List.range 8) fun v t => t.endVc b v

/-- A link that leaves ACTIVE is declared down, whatever ended it (R131): counted, and what it loses answered by the sink. -/
def State.sflEnds (s : State) (b : Nat) : State :=
  if s.get SFL_TRAIN_STATUS.STATE b = 7 then (s.count SFL_LINK_CNT2.DOWN_CNT b).sflLost b else s

/-- The SFL training of a port goes to DOWN, its transmitters to electrical idle (R109). -/
def State.sflDown (s : State) (b : Nat) : State :=
  let s := (s.sflEnds b).sflDrop b
  let s := s.setTrain b SflTrain.idle
  let s := s.each (s.portBlocks (2 * b)) fun d t => t.each (List.range 9) fun k u =>
    let u := (u.setSflLane d k SflLane.hunt).set SFL_LANE_STAT.LOCK (9 * d + k) 0
    { u with sflTx := Tbl.wr (fun _ => none) u.sflTx (9 * d + k) none }
  let s := (s.set SFL_TRAIN_STATUS.STATE b 0).set SFL_TRAIN_STATUS.RATE b 0
  (s.set SFL_TRAIN_STATUS.REV b 0).set SFL_TRAIN_STATUS.LANES b 0

/-- Every link of a block down with no event of its own (R60: the fence reports it). -/
def State.blockSilent (s : State) (b : Nat) : State :=
  let s := s.portDown (2 * b)
  let s := s.portDown (2 * b + 1)
  if s.isFabric b then s.sflDown b else s

/-! ### Fence and chip fatal (R385, R388) -/

/-- Credit written off and reclaimed around a fenced region (R156): every egress outside takes back what NIs inside hold, and what credit points inside owe is
written off. -/
def State.fenceCredits (s : State) (r : Nat) : State :=
  let mine := fun (e : Nat × Ledger) => niRegion (pointNi (e.1 / 256)) = r || niRegion (e.1 % 256) = r
  let back := fun (b : Nat) => ((s.ledger.filter fun e => mine e && e.1 / 256 = b).map (·.2.shared)).sum
  let s := s.each ((List.range 64).filter fun b => b / 16 ≠ r) fun b t =>
    t.set ANV_CR_STAT.SHARED_FREE b (t.get ANV_CR_STAT.SHARED_FREE b + back b)
  { s with ledger := s.ledger.filter fun e => !mine e }

/-- The gate of region r closed (R19), as MGT_CHIP_INFO and FLT_STAT show. -/
def State.closeGate (s : State) (r : Nat) : State :=
  (s.setBit MGT_CHIP_INFO.REGION_LIVE 0 r false).setBit FLT_STAT.FENCED 0 r true

/-- The units of a region quenched with REGION_FENCED and its links down (R385). -/
def State.silence (s : State) (r : Nat) : State :=
  let s := s.each (regionNis r) fun n t => t.quench n ⟨2, true, 0⟩
  let s := s.each (List.range 16) fun i t => t.blockSilent (16 * r + i)
  s.fenceCredits r

/-- A MIGRATE that is lost no longer counts as queued on its extent (R244). -/
def State.loseMigrate (s : State) (j : Job) : State :=
  if (j.desc.getD 0 0).field 7 0 = 5 then { s with migWait := s.migWait.erase ((j.desc.getD 4 0).field 15 0) } else s

/-- A fenced region loses its clusters' queues (R277): queued and running jobs there end without a record; JOB_IDs go on from where they stood. -/
def State.loseQueues (s : State) (r : Nat) : State :=
  let s := s.each (List.range 32) fun k t =>
    let x := Tbl.rd (fun _ => Engine.idle) t.engines (32 * r + k)
    let t := match x.job with | some j => t.loseMigrate j.job | none => t
    { t with engines := Tbl.wr (fun _ => Engine.idle) t.engines (32 * r + k) { x with job := none, queue := [], jobCancel := false } }
  s.each (List.range 4) fun k t =>
    let c := 4 * r + k
    let x := Tbl.rd (fun _ => Cluster.idle) t.clusters c
    let t := x.queue.foldl State.loseMigrate t
    let t := { t with clusters := Tbl.wr (fun _ => Cluster.idle) t.clusters c { Cluster.idle with nextId := x.nextId, nextSeq := x.nextSeq } }
    (t.set TNG_CL_STAT.JQ_USED c 0).set TNG_CL_STAT.BUSY c 0

/-- The chip becomes fatal (R388): EMBER stops, FAULT_N is asserted, PWR_MODE.FATAL freezes the mode fields (R363), every region is fenced; FATAL_EVT names the first
fatal event. -/
def State.chipFatal (s : State) (ev : Nat) : State :=
  if s.flag PWR_MODE.FATAL 0 then s
  else
    let s := s.set PWR_MODE.FATAL 0 1
    let s := s.set FLT_STAT.FATAL 0 1
    let s := s.set FLT_STAT.FATAL_EVT 0 ev
    let s := s.set FLT_STAT.EMBER_RUN 0 0
    let s := s.each (List.range 4) fun r t => if t.live r then ((t.closeGate r).silence r).loseQueues r else t
    s.updFaultN

/-- A region-fatal cause fences its region (R385): the gate closes, the region is quenched, FATAL and its event are set, the state becomes FENCED, the links go
down. One that would leave all four regions FENCED makes the chip fatal instead. A fatal error in RECOVERY ends it (R364, event 2). -/
def State.fence (s : State) (r ev : Nat) : State :=
  if ((List.range 4).filter (· ≠ r)).all fun q => s.regionState q = 1 then s.chipFatal ev
  else
    let was := s.regionState r
    let s := if s.flag FLT_REG_STAT.FATAL r then s
      else (s.set FLT_REG_STAT.FATAL r 1).set FLT_REG_STAT.FATAL_EVT r ev
    if was = 1 then s
    else
      let s := ((s.closeGate r).silence r).loseQueues r
      let s := s.set FLT_REG_STAT.STATE r 1
      let s := if was = 2 then s.notice 2 0 r else s
      s.updMode.updFaultN

/-- What a fatal cause stops (R380): the region for event 32 + 32r + 4, else the chip. -/
def State.fatal (s : State) (ev : Nat) : State :=
  if 32 ≤ ev ∧ ev < 160 ∧ (ev - 32) % 32 = 4 then s.fence ((ev - 32) / 32) ev else s.chipFatal ev

/-- A record filled by a first cause (R382). -/
def State.fillRecord (s : State) (c ev cls detail : Nat) (inj : Bool) : State :=
  let s := s.set FLT_REC0.EVENT c ev
  let s := s.set FLT_REC0.CLASS c cls
  let s := s.set FLT_REC0.MULTI c 0
  let s := s.set FLT_REC0.ESC c 0
  let s := s.set FLT_REC0.INJ c (bit inj)
  let s := s.set FLT_REC0.COUNT c 1
  let s := s.set FLT_REC0.PEND c 1
  let s := s.setReg .FLT_REC1 c (word detail)
  let s := s.setReg .FLT_REC2 c (word s.time)
  s.set FLT_REC3.TIME_HI c (s.time / 2 ^ 64)

/-- A cause that is not a notice reaches its collector (R382, R383): it starts a record, merges or escalates, is queued to the ring with its class, and a fatal one
fences its region or stops the chip. -/
def State.recordCause (s : State) (ev cls detail : Nat) (inj : Bool := false) : State :=
  let c := s.collectorOf ev
  let s :=
    if !s.flag FLT_REC0.PEND c then
      let s := (s.fillRecord c ev cls detail inj).queueEvent ev cls detail
      if cls = 2 then s.fatal ev else s
    else if s.flag FLT_CFG.SECOND c && decide (cls = s.get FLT_REC0.CLASS c) && decide (cls < 2) then
      let s := s.count FLT_REC0.COUNT c
      let s := s.set FLT_REC0.ESC c 1
      let s := s.set FLT_REC0.CLASS c (cls + 1)
      let s := s.queueEvent ev (cls + 1) detail
      if cls + 1 = 2 then
        if c < 4 then (s.notice (32 + 32 * c + 4) 2 0).fence c (32 + 32 * c + 4) else s.chipFatal ev
      else s
    else
      let s := s.count FLT_REC0.COUNT c
      let s := s.set FLT_REC0.MULTI c 1
      let s := s.set FLT_REC0.CLASS c (max cls (s.get FLT_REC0.CLASS c))
      let s := s.queueEvent ev cls detail
      if cls = 2 then s.fatal ev else s
  s.updFaultN

/-- A cause that the chip itself meets, with its source detail. -/
def State.cause (s : State) (ev cls what : Nat) (inj : Bool := false) : State := s.recordCause ev cls (sourceDetail ev what) inj

/-- A demand that a pool cannot meet (R396): UNMET and DEG are set and event 6 is raised when DEG becomes 1. -/
def State.unmet (s : State) (pool : Nat) : State :=
  let s := s.set FLT_POOL.UNMET pool 1
  if s.flag FLT_STAT.DEG 0 then s
  else (((s.set FLT_STAT.DEG 0 1).notice 6 0 pool).setActive 6 true).updMode.updFaultN

/-! ### Banked units (R375) -/

/-- Unit `u` is banked now: a port 0 to 127, a cluster from 128, a slice from 144. -/
def State.banked (s : State) (u : Nat) : Bool :=
  if u < 128 then bitOf (s.get PWR_BANK_PSTAT.BANKED (u / 64)) (u % 64)
  else if u < 144 then bitOf (s.get PWR_BANK_USTAT.CLUSTER 0) (u - 128)
  else bitOf (s.get PWR_BANK_USTAT.SLICE 0) (u - 144)

end Sys2Proof.Machine
end

