-- ==== Sys2Proof/Machine/Ports.lean ====
section
/-! DEFINITION. Lanes, port blocks and bring-up (R36 to R61): training of PCIe-role ports, lane marks and the spare, L0p, Recovery, PRBS, and the gain
and loss of DL_UP. -/

namespace Sys2Proof.Machine

/-! ### Ports, widths and marked lanes -/

/-- Lanes of a WIDTH encoding (R61). -/
def widthLanes (code : Nat) : Nat := 2 ^ code

/-- The configured width of a port in lanes. -/
def State.configWidth (s : State) (p : Nat) : Nat :=
  widthLanes (if p % 2 = 0 then s.get PRT_CFG.WIDTH0 (p / 2) else s.get PRT_CFG.WIDTH1 (p / 2))

/-- The rate a port may climb to: the lower of PRT_CFG.MAX_RATE and RATE_CAP. -/
def State.rateCap (s : State) (p : Nat) : Nat :=
  min (s.get PRT_CFG.MAX_RATE (p / 2))
    (if p % 2 = 0 then s.get PRT_LINK_CTL.RATE_CAP0 (p / 2) else s.get PRT_LINK_CTL.RATE_CAP1 (p / 2))

/-- The logical lane of a pair (R42): reversal turns the whole port. -/
def State.logicalLane (s : State) (p i : Nat) : Nat :=
  if (s.port p).reversed then s.configWidth p - 1 - i else i

/-- The pair is marked. -/
def State.marked (s : State) (b k : Nat) : Bool := bitOf (s.get PRT_LANE_MAP.MARK b) k

/-- The logical lanes of a port that are marked. -/
def State.markedLanes (s : State) (p : Nat) : List Nat :=
  ((s.portPairs p).filter fun x => s.marked x.1 x.2.1).map fun x => s.logicalLane p x.2.2

/-- The widest of the widths at most `w` that excludes every lane of a list, if lane 0 is not among them (R51). -/
def widestWithout (w : Nat) (lanes : List Nat) : Option Nat :=
  [16, 8, 4, 2, 1].find? fun v => decide (v ≤ w) && lanes.all fun l => decide (v ≤ l)

/-- The widest width the marks allow, the negotiated width where no width excludes them (R51, R52). -/
def State.allowedWidth (s : State) (p : Nat) : Nat :=
  let w := s.get PRT_LINK_STATUS.NEG_WIDTH p
  (widestWithout w (s.markedLanes p)).getD w

/-- The link is in L0 or L0p. -/
def State.inL0 (s : State) (p : Nat) : Bool :=
  s.get PRT_LINK_STATUS.STATE p = 6 || s.get PRT_LINK_STATUS.STATE p = 7

/-- L0p runs: flit mode in a PCIe role with a partner that advertises it (R48). -/
def State.l0pRuns (s : State) (p : Nat) : Bool :=
  s.inL0 p && s.role p ≠ 2 && s.flag PRT_LINK_STATUS.FLIT p && s.flag PRT_CFG.L0P_EN (p / 2) && (s.port p).l0p

/-- An L0p change asked for: it completes with L0P_CHANGE_COMPLETE (R48). -/
def State.askL0p (s : State) (p w : Nat) (byBlock : Bool) : State :=
  if w = s.get PRT_LINK_STATUS.WIDTH p then s
  else s.setPort p { s.port p with l0pTo := some w, byBlock := byBlock }

/-- The spare circuit can still be brought in: not used and not found bad (R53). -/
def State.spareFree (s : State) (b : Nat) : Bool :=
  !s.flag PRT_LANE_MAP.SPARE_USED b && !s.flag PRT_LANE_MAP.SPARE_BAD b

/-- Some block has a marked lane that no spare serves: the lane pool's unmet demand (R393, R396). A fabric lane that training handed to pair 8 keeps its mark
(R108) and is served. -/
def State.laneUnmet (s : State) : Bool :=
  (s.listed .PRT_LANE_MAP).any fun b =>
    !s.spareFree b && (List.range 8).any fun k =>
      s.marked b k && !(s.flag PRT_LANE_MAP.SPARE_KIND b && s.flag PRT_LANE_MAP.SPARE_USED b && s.get PRT_LANE_MAP.SPARE_LANE b = k)

/-- The lane pool's UNMET brought up to date; demand ends when the mark is cleared (R396). -/
def State.updLanePool (s : State) : State :=
  if s.laneUnmet then (if s.flag FLT_POOL.UNMET 0 then s else s.unmet 0) else s.set FLT_POOL.UNMET 0 0

/-- The port waits to have the spare switched onto a pair of its own (R37, R52): on some block of it the spare is free and the first marked pair is the port's; never in fabric
role. -/
def State.pendOf (s : State) (p : Nat) : Bool :=
  s.role p ≠ 2 && (s.portBlocks p).any fun d =>
    s.spareFree d && ((s.blockAt d).marks.head?).any fun k => s.pairPort d k = p

/-- SPARE_PEND of every port that block b's lanes belong to, brought up to date: an x16 port's at its lead (R39, R61). -/
def State.updPend (s : State) (b : Nat) : State :=
  s.each (if s.get PRT_CFG.MODE b = 4 then [2 * (b - 1)] else [2 * b, 2 * b + 1]) fun q t => t.set PRT_LINK_STATUS.SPARE_PEND q (bit (t.pendOf q))

/-- An L0p increase that was accepted and has not completed is dropped where it would make a marked lane active (R49). -/
def State.dropIncrease (s : State) (p : Nat) : State :=
  match (s.port p).l0pTo with
  | some w =>
    if s.get PRT_LINK_STATUS.WIDTH p < w && (s.markedLanes p).any fun l => decide (l < w) then
      s.setPort p { s.port p with l0pTo := none, byBlock := false }
    else s
  | none => s

/-- A pair is marked (R50, R53): the marks keep their order, event 352 + 2n is raised, and where the spare is free and steers circuits the mapping waits for Recovery;
with no spare left event 352 + 2n is raised for the exhausted spare too. -/
def State.markPair (s : State) (b k : Nat) : State :=
  let s := s.setBit PRT_LANE_MAP.MARK b k true
  let x := s.blockAt b
  let s := s.setBlock b { x with marks := if x.marks.contains k then x.marks else x.marks ++ [k] }
  let s := (s.updPend b).dropIncrease (s.pairPort b k)
  let s := s.cause (352 + 2 * b) 0 k
  if s.spareFree b then s else (s.cause (352 + 2 * b) 0 (k + 256)).updLanePool

/-- A pair's mark cleared, with its place in the order. -/
def State.unmarkPair (s : State) (b k : Nat) : State :=
  let s := s.setBit PRT_LANE_MAP.MARK b k false
  let x := s.blockAt b
  s.setBlock b { x with marks := x.marks.filter (· ≠ k) }

/-- The mapping of a block's spare recorded in the repair map (R54, R397): it survives every reset that keeps HBM. -/
def State.recordSpare (s : State) (b k kind : Nat) : State :=
  { s with repairMap.lanes := Tbl.wr (fun _ => none) s.repairMap.lanes b (some (k, kind)) }

/-- The spare switched onto a pair (R52): SPARE_USED, SPARE_LANE, the pool's count, the repair map and event 352 + 2n. -/
def State.mapSpare (s : State) (b k kind : Nat) : State :=
  let s := s.set PRT_LANE_MAP.SPARE_USED b 1
  let s := s.set PRT_LANE_MAP.SPARE_LANE b k
  let s := s.set PRT_LANE_MAP.SPARE_KIND b kind
  let s := s.count FLT_POOL.USED 0
  let s := s.recordSpare b k kind
  s.cause (352 + 2 * b) 0 (k + 512)

/-- At an entry to Recovery or Detect the spare goes to the first marked pair, where that pair is the port's and steers circuits (R37, R47, R52, R53); what was switched now is
noted. -/
def State.steer (s : State) (p : Nat) : State :=
  if s.role p = 2 then s
  else s.each (s.portBlocks p) fun b t =>
    let t := t.setBlock b { t.blockAt b with switched := false }
    match (t.blockAt b).marks.head? with
    | some k =>
      if t.spareFree b ∧ t.pairPort b k = p then
        let t := t.mapSpare b k 0
        (t.setBlock b { t.blockAt b with switched := true }).updPend b
      else t
    | none => t

/-- The pair that the spare was switched onto in this Recovery or Detect has trained on LC8 (R47, R52): its mark is cleared. -/
def State.spareTrained (s : State) (p : Nat) (trained : Nat → Nat → Bool) : State :=
  (s.each (s.portBlocks p) fun b t =>
    let k := t.get PRT_LANE_MAP.SPARE_LANE b
    if (t.blockAt b).switched && t.flag PRT_LANE_MAP.SPARE_USED b && t.pairPort b k = p && trained b k then (t.unmarkPair b k).updPend b else t).updLanePool

/-- Recovery is shown, counted and its spare steered (R47, R52, R61). -/
def State.inRecovery (s : State) (p : Nat) : State :=
  let s := s.set PRT_LINK_STATUS.STATE p 5
  ((s.count PRT_LINK_STATUS.RECOV_CNT p).tallyPort 9 p).steer p

/-- Recovery is entered from L0 or L0p in a PCIe role (R52): traffic held, an L0p change dropped. -/
def State.enterRecovery (s : State) (p : Nat) : State :=
  if s.inL0 p && s.role p ≠ 2 then
    let s := s.set PRT_LINK_STATUS.WIDTH p 0
    (s.setPort p { s.port p with l0pTo := none, byBlock := false }).inRecovery p
  else s

/-! ### PRBS (R57, R58) -/

/-- The running check of a lane circuit. -/
def State.prbsLane (s : State) (b k : Nat) : PrbsLane := Tbl.rd (fun _ => PrbsLane.idle) s.prbs (9 * b + k)

/-- A running check replaced. -/
def State.setPrbsLane (s : State) (b k : Nat) (x : PrbsLane) : State :=
  { s with prbs := Tbl.wr (fun _ => PrbsLane.idle) s.prbs (9 * b + k) x }

/-- Bit errors counted while locked, saturating at 2⁴⁰ − 1 with SAT. -/
def PrbsLane.add (x : PrbsLane) (n : Nat) : PrbsLane :=
  if x.locked then
    { x with err := satAdd 40 x.err n, sat := x.sat || decide (2 ^ 40 ≤ x.err + n) }
  else x

/-- A snapshot (R58): every lane's running count and the common bit count into the result registers, SEQ + 1, VALID. -/
def State.prbsSnapshot (s : State) (b bitsK : Nat) (errs : List Nat) : State :=
  let x := s.blockAt b
  let s := s.setBlock b { x with prbsBitsK := satAdd 48 x.prbsBitsK bitsK }
  let s := s.set PRT_PRBS_BITS.BITS_K b (s.blockAt b).prbsBitsK
  let s := s.resultDone PRT_PRBS_BITS.SEQ PRT_PRBS_BITS.VALID b
  let seq := s.get PRT_PRBS_BITS.SEQ b
  s.each (List.range 9) fun k t =>
    let y := (t.prbsLane b k).add (errs.getD k 0)
    let t := t.setPrbsLane b k y
    let t := t.set PRT_PRBS_RES.ERR (9 * b + k) y.err
    let t := t.set PRT_PRBS_RES.SAT (9 * b + k) (bit y.sat)
    let t := t.set PRT_PRBS_RES.LOCK (9 * b + k) (bit y.locked)
    let t := t.set PRT_PRBS_RES.SEQ (9 * b + k) seq
    t.set PRT_PRBS_RES.VALID (9 * b + k) 1

/-- PRBS may run: in TEST, or while both halves read DOWN (R57). -/
def State.prbsAllowed (s : State) (b : Nat) : Bool :=
  s.phase = .test ||
    (s.get PRT_LINK_STATUS.STATE (2 * b) = 0 && s.get PRT_LINK_STATUS.STATE (2 * b + 1) = 0)

/-- PRBS stops before bring-up, with a final snapshot of what was counted since the last one (R57). -/
def State.prbsStop (s : State) (b bitsK : Nat) (errs : List Nat) : State :=
  if s.flag PRT_PRBS_CTL.EN b then (s.prbsSnapshot b bitsK errs).set PRT_PRBS_CTL.EN b 0 else s

/-! ### Bring-up (R44 to R47) -/

/-- The slot state `n`. -/
def State.slot (s : State) (n : Nat) : SlotState := Tbl.rd (fun _ => SlotState.idle) s.slots n

/-- The slot state `n` replaced. -/
def State.setSlot (s : State) (n : Nat) (x : SlotState) : State :=
  { s with slots := Tbl.wr (fun _ => SlotState.idle) s.slots n x }

/-- The slot that names a port in SLT_CFG (R423). -/
def State.slotOf (s : State) (p : Nat) : Option Nat :=
  (List.range 64).find? fun n => s.flag SLT_CFG.VALID n && s.get SLT_CFG.PORT n = p

/-- What starts bring-up on a port of each role (R44): PERST_N of the lead block deasserted for an upstream half, the slot's release of the device's reset for a
downstream half that a slot names, nothing more for the others. -/
def State.released (s : State) (p : Nat) : Bool :=
  match s.role p with
  | 0 => bitOf (s.get PWR_PERST.LEVEL 0) (p / 2)
  | 1 => match s.slotOf p with
    | some n => (s.slot n).perstN
    | none => true
  | _ => true

/-- Region r's gate is open or the region is in RECOVERY: its links may train (R44, R385); a chip fatal error closes every region. -/
def State.mayTrain (s : State) (r : Nat) : Bool := s.regionState r ≠ 1 && !s.flag PWR_MODE.FATAL 0

/-- The conditions of R44 for a port, and the reference clock of a port in a PCIe role (R444). -/
def State.bringUpReady (s : State) (p : Nat) : Bool :=
  s.portExists p && s.admin p && (s.phase = .provision || s.phase = .operating) &&
    s.mayTrain (p / 32) && s.released p && (s.role p = 2 || !s.clkLost.contains (p / 8))

/-- Bring-up starts (R44, R57): PRBS stops first, then calibration, stage 1 of R45; a fabric block enters CAL of R109. `bitsK` and `errs` are what PRBS counted since its last
snapshot, nine circuits for each block of the port in turn. -/
def bringUpStart (p bitsK : Nat) (errs : List Nat) (s : State) : State :=
  if s.bringUpReady p ∧ s.get PRT_LINK_STATUS.STATE p = 0 then
    let s := s.each (s.portBlocks p) fun b t => t.prbsStop b bitsK (errs.drop (9 * (b - p / 2)))
    let s := s.set PRT_LINK_STATUS.STATE p 1
    let s := s.setPort p { PortState.idle with stage := 1 }
    if s.role p = 2 then
      (s.setTrain (p / 2) SflTrain.idle).set SFL_TRAIN_STATUS.STATE (p / 2) 1
    else s
  else s

/-- Bring-up starts with no command of its own where no PRBS runs on the port's blocks (R44); where it runs, BRING_UP_START stops it with its counts. -/
def State.bringUpAlone (s : State) (p : Nat) : State :=
  if (s.portBlocks p).any fun b => s.flag PRT_PRBS_CTL.EN b then s else bringUpStart p 0 [] s

/-- The protocol a port settles on with its partner (R62 to R64): (PROTO, flit mode, highest rate). CXL takes precedence over rate; a restricted CXL 1.1 partner trains
as PCIe; PCIe flit mode needs 8 GT/s, and non-flit mode ends at 32 GT/s. -/
def negotiate (cxlEn : Bool) (cap : Nat) (q : Partner) : Nat × Bool × Nat :=
  let cxl := fun (r : Option Nat) (top : Nat) =>
    match r with
    | some r => if cxlEn && !q.restricted && decide (2 ≤ min (min r cap) top) then some (min (min r cap) top) else none
    | none => none
  match cxl q.cxl256 6, cxl q.cxl68 4 with
  | some r, _ => (2, true, r)
  | none, some r => (1, false, r)
  | none, none =>
    let r := min q.rate cap
    if q.flit ∧ 2 ≤ r then (0, true, r) else (0, false, min r 4)

/-- The stage after stage `k` (R45, R46): equalisation at each rate from 8 GT/s up to the target, at the target only under bypass, then link active. -/
def nextStage (k target : Nat) (bypass : Bool) : Nat :=
  if bypass ∧ 4 ≤ target then (if k < target + 2 then target + 2 else 9)
  else if k < target + 2 ∧ 2 ≤ target then max 4 (k + 1) else 9

/-- What PRT_CXL_STATUS shows of the negotiated protocol (R72, R88); an MLD with more than 16 LDs raises event 353 + 2n. -/
def State.showProtocol (s : State) (p proto : Nat) (q : Partner) : State :=
  let h0 := p % 2 = 0
  let cacheEn := if h0 then s.flag PRT_CXL_CFG.CACHE_EN0 (p / 2) else s.flag PRT_CXL_CFG.CACHE_EN1 (p / 2)
  let mldEn := if h0 then s.flag PRT_CXL_CFG.MLD_EN0 (p / 2) else s.flag PRT_CXL_CFG.MLD_EN1 (p / 2)
  let cxl := decide (proto ≠ 0)
  let mld := cxl && mldEn && s.role p = 1 && decide (0 < q.lds)
  let s := s.set PRT_CXL_STATUS.PROTO p proto
  let s := s.set PRT_CXL_STATUS.CACHE p (bit (cxl && cacheEn && q.cache))
  let s := s.set PRT_CXL_STATUS.MEM p (bit (cxl && q.mem))
  let s := s.set PRT_CXL_STATUS.BI p (bit (decide (proto = 2) && q.bi))
  let s := s.set PRT_CXL_STATUS.MLD p (bit mld)
  let s := s.set PRT_CXL_STATUS.LD_CNT p (if mld then min q.lds 16 else 0)
  if mld ∧ 16 < q.lds then s.notice (353 + 2 * (p / 2)) 1 q.lds else s

/-- The lanes of the configured width that did not complete stage 3. -/
def State.missingLanes (s : State) (p lanes : Nat) : List Nat := (List.range (s.configWidth p)).filter fun l => !bitOf lanes l

/-- A pair that failed in stage 3 while a wider width was configured is marked (R47). With no lane through at all it is no lane's failure (log entry 74). -/
def State.markFailed (s : State) (p lanes : Nat) : State :=
  let missing := s.missingLanes p lanes
  if missing.length = s.configWidth p then s
  else s.each ((s.portPairs p).map fun x => x.1 * 256 + x.2.1 * 16 + x.2.2) fun c t =>
    if missing.contains (t.logicalLane p (c % 16)) && decide (c % 16 < t.configWidth p) then t.markPair (c / 256) (c / 16 % 16) else t

/-- The logical lane that pair `k` of block `b` serves is among a set of lanes. -/
def State.pairIn (s : State) (p lanes b k : Nat) : Bool :=
  (s.portPairs p).any fun x => x.1 = b && x.2.1 = k && bitOf lanes (s.logicalLane p x.2.2)

/-- The circuits of a port that carry a set of logical lanes have symbol lock (R61). -/
def State.showLock (s : State) (p lanes : Nat) : State :=
  s.each (s.circuitsOf p) fun c t => match t.circuitPair (c / 9) (c % 9) with
    | some k => t.set PRT_LANE_STAT.LOCK c (bit (t.pairIn p lanes (c / 9) k))
    | none => t

/-- The end of stage 3 (R47): a pair retried on LC8 that came through is unmarked, a pair that failed is marked, and the port takes the widest configured width whose lanes
all came through. -/
def State.linkWidth (s : State) (p lanes : Nat) : State :=
  let s := s.spareTrained p (s.pairIn p lanes)
  let s := (s.markFailed p lanes).showLock p lanes
  let v := (widestWithout (s.configWidth p) (s.missingLanes p lanes)).getD 0
  let s := s.set PRT_LINK_STATUS.NEG_WIDTH p v
  s.set PRT_LINK_STATUS.WIDTH p v

/-- The end of an equalisation stage (R47): the pair that LC8 was switched onto at its start is unmarked where its lane came through, and the port widens to what its
configured width and marks allow (log entry 74). -/
def State.retried (s : State) (p lanes : Nat) : State :=
  let t := s.spareTrained p (s.pairIn p lanes)
  if (t.markedLanes p).length < (s.markedLanes p).length then
    let v := (widestWithout (t.configWidth p) (t.markedLanes p)).getD (t.get PRT_LINK_STATUS.NEG_WIDTH p)
    let t := t.showLock p (2 ^ v - 1)
    (t.set PRT_LINK_STATUS.NEG_WIDTH p v).set PRT_LINK_STATUS.WIDTH p v
  else t

/-- A link reaches DL_UP (R45, R79, R164): a bound downstream port's TARGET_DOWN goes and its hosts see a hot-add; on any other port the trigger no longer persists and
waits for the owner's CLEAR. -/
def State.reachDlUp (s : State) (p : Nat) : State :=
  let s := s.set PRT_LINK_STATUS.STATE p 6
  let s := s.set PRT_LINK_STATUS.DL_UP p 1
  let s := s.setPort p { s.port p with stage := 0 }
  let bound := s.boundTo p
  let s :=
    if s.role p = 1 ∧ !bound.isEmpty then (s.dropTriggers (p / 2) fun t => t.code = 1 && t.who = 1 + p).release (p / 2)
    else
      let x := s.niAt (p / 2)
      s.setNi (p / 2) { x with triggers := x.triggers.map fun t => if t.code = 1 ∧ t.who = 1 + p then { t with persists := false } else t }
  s.each bound fun v t => t.hotAdd v

/-- A stage begins (R45): link active shows L0 with DL_UP still 0, an equalisation stage shows Recovery and retries a marked lane on the spare (R47). -/
def State.beginStage (s : State) (p : Nat) : State :=
  if (s.port p).stage = 9 then s.set PRT_LINK_STATUS.STATE p 6 else s.inRecovery p

/-- A stage of bring-up ends (R45 to R47, R60, R62 to R64): the next state of the PCIe climb; a failure from stage 2 on raises event 353 + 2n and the port goes
back to Detect, with the pairs that failed marked and the spare steered. -/
def trainingStageEnd (p : Nat) (passed : Bool) (q : Partner) (lanes : Nat) (s : State) : State :=
  let x := s.port p
  if x.stage = 0 ∨ s.role p = 2 then s
  else if !passed ∨ (x.stage = 3 ∧ (widestWithout (s.configWidth p) (s.missingLanes p lanes)).isNone) then
    let s := if 2 ≤ x.stage then s.notice (353 + 2 * (p / 2)) 1 x.stage else s
    let s := if x.stage = 3 then s.markFailed p lanes else s
    let s := (s.steer p).showLock p 0
    let s := (s.set PRT_LINK_STATUS.WIDTH p 0).set PRT_LINK_STATUS.NEG_WIDTH p 0
    let s := (s.set PRT_LINK_STATUS.RATE p 0).set PRT_LINK_STATUS.FLIT p 0
    (s.setPort p { x with stage := 2 }).set PRT_LINK_STATUS.STATE p 2
  else
    match x.stage with
    | 1 => ((s.steer p).setPort p { x with stage := 2 }).set PRT_LINK_STATUS.STATE p 2
    | 2 => (s.setPort p { x with stage := 3 }).set PRT_LINK_STATUS.STATE p 3
    | 3 =>
      let cxlEn := if p % 2 = 0 then s.flag PRT_CXL_CFG.CXL_EN0 (p / 2) else s.flag PRT_CXL_CFG.CXL_EN1 (p / 2)
      let (proto, flit, target) := negotiate cxlEn (s.rateCap p) q
      let bypass := s.flag PRT_CFG.EQ_BYPASS (p / 2) && q.bypass
      let st := nextStage 3 target bypass
      let s := s.setPort p { x with stage := st, target := target, bypass := bypass, l0p := q.l0p, partnerRate := q.rate, reversed := q.reversed }
      let s := s.linkWidth p lanes
      let s := s.set PRT_LINK_STATUS.RATE p (if st = 9 then target else 0)
      let s := s.set PRT_LINK_STATUS.FLIT p (bit flit)
      (s.showProtocol p proto q).beginStage p
    | 9 => s.reachDlUp p
    | k =>
      let s := (s.retried p lanes).set PRT_LINK_STATUS.RATE p (k - 2)
      (s.setPort p { s.port p with stage := nextStage k x.target x.bypass }).beginStage p

/-! ### Slots as links see them (R423, R427, R431) -/

/-- HOST_ON follows the Power Controller Control of the port's vPPB while it is bound, and reads 1 while it is not (R427). -/
def State.updHostOn (s : State) (p : Nat) : State :=
  match s.slotOf p with
  | none => s
  | some n =>
    let bound := (List.range 1024).filter fun v => s.get VPPB_ENTRY.STATE v ≠ 0 && s.get VPPB_ENTRY.STATE v ≠ 3 && s.get VPPB_ENTRY.TARGET v % 512 = p && !s.flag VPPB_ENTRY.REMOTE v
    s.set SLT_STAT.HOST_ON n (bit (bound.all fun v => !(s.vppb v).powerOff))

/-- A slot in INRUSH, SETTLE or ON. -/
def State.slotPowered (s : State) (n : Nat) : Bool := let st := s.get SLT_STAT.STATE n; decide (1 ≤ st) && decide (st ≤ 3)

/-! ### Loss of a link (R60, R79, R159, R427, R431) -/

/-- Messages partly received at a port. -/
def State.partialsOf (s : State) (p : Nat) : Nat := Tbl.rd (fun _ => 0) s.partials p

/-- The count of messages partly received at a port set. -/
def State.setPartials (s : State) (p n : Nat) : State := { s with partials := Tbl.wr (fun _ => 0) s.partials p n }

/-- A port loses its link (R60, R79, R159, R161): partly received messages are discarded and counted, the NI is quenched with TARGET_DOWN, and an unplanned loss of DL_UP
raises event 353 + 2n. -/
def State.dropLink (s : State) (p : Nat) (planned : Bool) (partial' : Nat) : State :=
  let up := s.flag PRT_LINK_STATUS.DL_UP p
  let s := (s.portDown p).setPartials p 0
  let s := s.count ANV_SLAG_CNT2.PARTIAL (p / 32) partial'
  let s := s.quench (p / 2) ⟨1, true, 1 + p⟩
  if up ∧ !planned then s.notice (353 + 2 * (p / 2)) 1 p else s

/-- The link of a slot's port, if it is up, is lost with the slot's power (R60). -/
def State.slotLinkDown (s : State) (n : Nat) (planned : Bool) : State :=
  let p := s.get SLT_CFG.PORT n
  if s.flag PRT_LINK_STATUS.DL_UP p then s.dropLink p planned (s.partialsOf p) else s

/-- A powered slot's signals as it turns off (R427): PERST_N falls, PWR_EN one frame later. -/
def State.slotOff (s : State) (n : Nat) : State :=
  (s.setSlot n { s.slot n with perstN := false, offPend := true, retrying := false }).set SLT_STAT.STATE n 0

/-- A powered slot turns off as commanded (R427): its link goes with it, as a planned loss (R60). -/
def State.slotTurnOff (s : State) (n : Nat) : State := if s.slotPowered n then (s.slotOff n).slotLinkDown n true else s

/-- A power cycle (R431): off, and not on again before RETRY_MIN_MS. -/
def State.slotCycle (s : State) (n : Nat) : State :=
  if s.slotPowered n then
    let s := s.slotOff n
    (s.setSlot n { s.slot n with waitUntil := s.clk + s.get SLT_GCFG.RETRY_MIN_MS 0 * 1000000 }).slotLinkDown n true
  else s

/-- DL_UP is lost while presence holds (R431): the slot stays powered unless LD_CYCLE cycles it. -/
def State.slotLinkLoss (s : State) (p : Nat) : State :=
  match s.slotOf p with
  | some n => if s.flag SLT_CFG.LD_CYCLE n && (s.slot n).absent = 0 then s.slotCycle n else s
  | none => s

/-- A port loses its link, and the policy of the slot that names it acts (R79, R431). -/
def State.loseLink (s : State) (p : Nat) (planned : Bool) (partial' : Nat) : State :=
  let up := s.flag PRT_LINK_STATUS.DL_UP p
  let s := s.dropLink p planned partial'
  if up then s.slotLinkLoss p else s

/-- A link in any state but DOWN is taken down, with the messages it has partly received (R159). -/
def State.takeDown (s : State) (p : Nat) (planned : Bool) : State :=
  if s.get PRT_LINK_STATUS.STATE p = 0 then s else s.loseLink p planned (s.partialsOf p)

/-- ADMIN0 or ADMIN1 written (R44, R60, R61, R109): a 0 takes the half's link down as a planned loss, a fabric block's training to DOWN; a follower's PRT_LINK_CTL is
ignored (R39). -/
def adminWrite (b : Nat) (a0 a1 : Bool) (s : State) : State :=
  let s := (s.set PRT_LINK_CTL.ADMIN0 b (bit a0)).set PRT_LINK_CTL.ADMIN1 b (bit a1)
  if s.get PRT_CFG.MODE b = 4 then s
  else
    let off := fun (p : Nat) (on : Bool) (t : State) =>
      if on || t.get PRT_LINK_STATUS.STATE p = 0 then t
      else (if p % 2 = 0 && t.isFabric b then t.sflDown b else t).takeDown p true
    off (2 * b + 1) a1 (off (2 * b) a0 s)

/-- A port loses DL_UP (R60, R79, R159). -/
def dlUpLoss (p : Nat) (planned : Bool) (partial' : Nat) (s : State) : State :=
  if s.flag PRT_LINK_STATUS.DL_UP p then s.loseLink p planned partial' else s

/-! ### Lane marks, L0p and Recovery (R48 to R56) -/

/-- The partner asks for an L0p width (R49, R53): decreases are accepted, increases over a marked lane refused. -/
def l0pRequestPartner (p w : Nat) (s : State) : State :=
  if s.l0pRuns p ∧ [16, 8, 4, 2, 1].contains w ∧ w ≤ s.get PRT_LINK_STATUS.NEG_WIDTH p then
    if w ≤ s.get PRT_LINK_STATUS.WIDTH p then s.askL0p p w false
    else if (s.markedLanes p).all fun l => decide (w ≤ l) then s.askL0p p w false
    else s
  else s

/-- The L0p target in lanes: 0x7 is the negotiated width. -/
def State.l0pTarget (s : State) (p : Nat) : Nat :=
  let t := if p % 2 = 0 then s.get PRT_LINK_CTL.L0P_TGT0 (p / 2) else s.get PRT_LINK_CTL.L0P_TGT1 (p / 2)
  let w := s.get PRT_LINK_STATUS.NEG_WIDTH p
  if t < 5 then min (widthLanes t) w else w

/-- The block moves to the widest width that the target and the marks allow; a decrease that the manager asks for is taken where no width excludes the marks (R49). -/
def State.followTarget (s : State) (p : Nat) (byBlock : Bool) : State :=
  if s.l0pRuns p then
    match widestWithout (s.l0pTarget p) (s.markedLanes p) with
    | some w => if byBlock && decide (w ≤ s.get PRT_LINK_STATUS.WIDTH p) then s else s.askL0p p w byBlock
    | none => if byBlock then s else s.askL0p p (min (s.l0pTarget p) (s.get PRT_LINK_STATUS.WIDTH p)) false
  else s

/-- L0P_TGT written (R49, R61). -/
def l0pTgtWrite (b h tgt : Nat) (s : State) : State :=
  let s := if h = 0 then s.set PRT_LINK_CTL.L0P_TGT0 b tgt else s.set PRT_LINK_CTL.L0P_TGT1 b tgt
  s.followTarget (2 * b + h) false

/-- An L0p change completes (R48): one made by the block raises event 352 + 2n (R60). -/
def l0pChangeComplete (p : Nat) (s : State) : State :=
  match (s.port p).l0pTo with
  | some w =>
    if s.inL0 p then
      let by' := (s.port p).byBlock
      let s := s.setPort p { s.port p with l0pTo := none, byBlock := false }
      let s := (s.set PRT_LINK_STATUS.WIDTH p w).tallyPort 10 p
      let s := s.set PRT_LINK_STATUS.STATE p (if w < s.get PRT_LINK_STATUS.NEG_WIDTH p then 7 else 6)
      if by' then s.notice (352 + 2 * (p / 2)) 0 (w + 1024) else s
    else s
  | none => s

/-- RETRAIN written (R52, R53): Recovery on each half named that is in L0 or L0p; no effect elsewhere. -/
def retrainWrite (b : Nat) (r0 r1 : Bool) (s : State) : State :=
  let s := if r0 then s.enterRecovery (2 * b) else s
  if r1 then s.enterRecovery (2 * b + 1) else s

/-- Recovery entered for any other cause (R52). -/
def recoveryEntry (p : Nat) (s : State) : State := s.enterRecovery p

/-- Recovery ends (R52): the mark of the pair that the spare was switched onto in it and that trained on LC8 is cleared, the link returns at the widest width that excludes
the marks that remain, and the flits held are replayed (R59). -/
def recoveryComplete (p : Nat) (spareOk : Bool) (s : State) : State :=
  if s.get PRT_LINK_STATUS.STATE p = 5 ∧ ((s.port p).stage = 0 ∨ (s.port p).stage = 9) then
    let s := if spareOk then s.spareTrained p fun _ _ => true else s.updLanePool
    let w := s.allowedWidth p
    let s := (s.set PRT_LINK_STATUS.WIDTH p w).showLock p (2 ^ w - 1)
    let s := s.set PRT_LINK_STATUS.STATE p (if w < s.get PRT_LINK_STATUS.NEG_WIDTH p then 7 else 6)
    if s.flag PRT_LINK_STATUS.DL_UP p then s.count PRT_LINK_ERR.REPLAY p else s
  else s

/-- MARK bits cleared by W1C (R53, R396): pending mappings for those pairs are cancelled, L0p may re-widen, and the demand for a lane ends. -/
def markClear (b mask : Nat) (s : State) : State :=
  let s := s.each ((List.range 8).filter fun k => bitOf mask k) fun k t => t.unmarkPair b k
  let s := s.updPend b
  let ports := if s.get PRT_CFG.MODE b = 4 then [2 * (b - 1)] else [2 * b, 2 * b + 1]
  (s.each ports fun p t => t.followTarget p true).updLanePool

/-- The spare's self-check (R53, R55): a failure while LC8 is not in use sets SPARE_BAD, and marks are handled as if the spare were in use. -/
def spareSelfCheck (b : Nat) (ok : Bool) (s : State) : State :=
  if ok || s.flag PRT_LANE_MAP.SPARE_USED b then s
  else
    let s := (s.set PRT_LANE_MAP.SPARE_BAD b 1).updPend b
    (s.cause (352 + 2 * b) 0 (8 + 768)).updLanePool

/-! ### PRBS commands -/

/-- Test or loopback shown (R61): the ports of a block that runs PRBS in TEST, where no link trains. -/
def State.showTest (s : State) (b : Nat) : State :=
  if s.phase = .test then
    s.each ([2 * b, 2 * b + 1].filter s.portExists) fun p t => t.set PRT_LINK_STATUS.STATE p (if t.flag PRT_PRBS_CTL.EN b then 10 else 0)
  else s

/-- PRT_PRBS_CTL written (R57): EN = 1 is ignored and reads 0 unless the block may run PRBS; a start begins every count at 0 (log entry 21). -/
def prbsEnWrite (b : Nat) (value : Word) (s : State) : State :=
  let was := s.flag PRT_PRBS_CTL.EN b
  let fld := fun (F : Fld) => value.field F.hi F.lo
  let s := s.set PRT_PRBS_CTL.PATTERN b (fld PRT_PRBS_CTL.PATTERN)
  let s := s.set PRT_PRBS_CTL.RATE b (fld PRT_PRBS_CTL.RATE)
  let s := s.set PRT_PRBS_CTL.LANES b (fld PRT_PRBS_CTL.LANES)
  let s := s.set PRT_PRBS_CTL.INVERT b (fld PRT_PRBS_CTL.INVERT)
  let s := s.set PRT_PRBS_CTL.CHK_ONLY b (fld PRT_PRBS_CTL.CHK_ONLY)
  let on := decide (fld PRT_PRBS_CTL.EN = 1) && s.prbsAllowed b
  let s := (s.set PRT_PRBS_CTL.EN b (bit on)).showTest b
  if on && !was then
    let s := s.setBlock b { s.blockAt b with prbsBitsK := 0 }
    s.each (List.range 9) fun k t => t.setPrbsLane b k PrbsLane.idle
  else s

/-- SNAP written (R58). -/
def prbsSnap (b bitsK : Nat) (errs : List Nat) (s : State) : State := s.prbsSnapshot b bitsK errs

/-- The checker locks after 256 consecutive error-free bits (R58). -/
def prbsCheckerLock (b k clean : Nat) (s : State) : State :=
  if 256 ≤ clean ∧ s.flag PRT_PRBS_CTL.EN b ∧ bitOf (s.get PRT_PRBS_CTL.LANES b) k then
    s.setPrbsLane b k { s.prbsLane b k with locked := true }
  else s

/-- More than 256 errors of 1,024 bits: the checker loses lock and stops counting; ERR keeps its value (R58): what was counted while locked stays counted. -/
def prbsCheckerLoseLock (b k errors counted : Nat) (s : State) : State :=
  if 256 < errors then s.setPrbsLane b k { (s.prbsLane b k).add counted with locked := false } else s

/-! ### Meanings -/

/-- BRING_UP_START: R36, R44, R57, R109. -/
def execBringUpStart (p : Nat) (bitsK : Nat) (errs : List Nat) (s : State) : Host.Outcome State Fault Refusal :=
  run (decide (p < 128)) (bringUpStart p bitsK errs s)

/-- TRAINING_STAGE_END: R41, R42, R43, R45, R46, R47, R60, R62, R63, R64, R72, R164. -/
def execTrainingStageEnd (p : Nat) (passed : Bool) (partner : Partner) (lanes : Nat) (s : State) : Host.Outcome State Fault Refusal :=
  run (decide (p < 128)) (trainingStageEnd p passed partner lanes s)

/-- ADMIN_WRITE: R44, R61, R109. -/
def execAdminWrite (blk : Nat) (a0 : Bool) (a1 : Bool) (s : State) : Host.Outcome State Fault Refusal :=
  run (decide (blk < 64)) (adminWrite blk a0 a1 s)

/-- L0P_REQUEST_PARTNER: R48, R49, R53. -/
def execL0pRequestPartner (p : Nat) (width : Nat) (s : State) : Host.Outcome State Fault Refusal :=
  run (decide (p < 128)) (l0pRequestPartner p width s)

/-- L0P_TGT_WRITE: R48, R49, R61. -/
def execL0pTgtWrite (blk : Nat) (h : Nat) (tgt : Nat) (s : State) : Host.Outcome State Fault Refusal :=
  run (decide (blk < 64) && decide (h < 2)) (l0pTgtWrite blk h tgt s)

/-- L0P_CHANGE_COMPLETE: R48, R60. -/
def execL0pChangeComplete (p : Nat) (s : State) : Host.Outcome State Fault Refusal :=
  run (decide (p < 128)) (l0pChangeComplete p s)

/-- RETRAIN_WRITE: R52, R53, R61. -/
def execRetrainWrite (blk : Nat) (r0 : Bool) (r1 : Bool) (s : State) : Host.Outcome State Fault Refusal :=
  run (decide (blk < 64)) (retrainWrite blk r0 r1 s)

/-- RECOVERY_ENTRY: R37, R52, R53, R393. -/
def execRecoveryEntry (p : Nat) (s : State) : Host.Outcome State Fault Refusal :=
  run (decide (p < 128)) (recoveryEntry p s)

/-- RECOVERY_COMPLETE: R49, R52. -/
def execRecoveryComplete (p : Nat) (spareOk : Bool) (s : State) : Host.Outcome State Fault Refusal :=
  run (decide (p < 128)) (recoveryComplete p spareOk s)

/-- MARK_CLEAR: R49, R53, R396. -/
def execMarkClear (blk : Nat) (mask : Nat) (s : State) : Host.Outcome State Fault Refusal :=
  run (decide (blk < 64)) (markClear blk mask s)

/-- SPARE_SELF_CHECK: R53, R55. -/
def execSpareSelfCheck (blk : Nat) (ok : Bool) (s : State) : Host.Outcome State Fault Refusal :=
  run (decide (blk < 64)) (spareSelfCheck blk ok s)

/-- PRBS_EN_WRITE: R57. -/
def execPrbsEnWrite (blk : Nat) (value : Word) (s : State) : Host.Outcome State Fault Refusal :=
  run (decide (blk < 64)) (prbsEnWrite blk value s)

/-- PRBS_SNAP: R58. -/
def execPrbsSnap (blk : Nat) (bitsK : Nat) (errs : List Nat) (s : State) : Host.Outcome State Fault Refusal :=
  run (decide (blk < 64)) (prbsSnap blk bitsK errs s)

/-- PRBS_CHECKER_LOCK: R58. -/
def execPrbsCheckerLock (blk : Nat) (k : Nat) (clean : Nat) (s : State) : Host.Outcome State Fault Refusal :=
  run (decide (blk < 64) && decide (k < 9)) (prbsCheckerLock blk k clean s)

/-- PRBS_CHECKER_LOSE_LOCK: R58. -/
def execPrbsCheckerLoseLock (blk : Nat) (k : Nat) (errors : Nat) (counted : Nat) (s : State) : Host.Outcome State Fault Refusal :=
  run (decide (blk < 64) && decide (k < 9)) (prbsCheckerLoseLock blk k errors counted s)

/-- DL_UP_LOSS: R60, R71, R79, R159, R431. -/
def execDlUpLoss (p : Nat) (planned : Bool) (partials : Nat) (s : State) : Host.Outcome State Fault Refusal :=
  run (decide (p < 128)) (dlUpLoss p planned partials s)

end Sys2Proof.Machine
end

