-- ==== Sys2Proof/Machine/Tables.lean ====
section
/-! DEFINITION. The duplicated tables (R16, R210 to R212): the Anvil route tables, remap level 1 and the ACU windows, kept in each region as copies A and B of
every entry, with a chip copy in the firmware partition. -/

namespace Sys2Proof.Machine

/-- The registers that make up one entry of a table. -/
def entryWords (t : DupTable) (i : Nat) : List (RegKind × Nat) :=
  match t with
  | .route => [(.ROUTE_ENTRY, i)]
  | .l1 => [(.L1_W0, i), (.L1_W1, i)]
  | .window => [(.WIN_W0, i), (.WIN_W1, i), (.WIN_W2, i)]

/-- The register that holds an entry's write tag. -/
def tagField (t : DupTable) : Fld :=
  match t with
  | .route => ROUTE_ENTRY.WTAG
  | .l1 => L1_W1.WTAG
  | .window => WIN_W2.WTAG

/-- How many entries a table has in a region's view (R212). -/
def tableSize (t : DupTable) : Nat :=
  match t with
  | .route => 34304
  | .l1 => 65536
  | .window => 4096

/-- The table-window word number of a register. -/
def tableWord (k : RegKind) (i : Nat) : Nat := (drsAddr k i - 0x10000000) / 8

/-- The place of a replica word. -/
def repKey (r copy : Nat) (k : RegKind) (i : Nat) : Nat := 8 * tableWord k i + 2 * r + copy

/-- A replica word. -/
def State.repWord (s : State) (r copy : Nat) (k : RegKind) (i : Nat) : Word :=
  Tbl.rd (fun _ => 0) s.rep (repKey r copy k i)

/-- A replica word's ECC condition. -/
def State.repCond (s : State) (r copy : Nat) (k : RegKind) (i : Nat) : Nat :=
  Tbl.rd (fun _ => 0) s.repEcc (repKey r copy k i)

/-- A replica word stored with fresh check bits. -/
def State.putRep (s : State) (r copy : Nat) (k : RegKind) (i : Nat) (w : Word) : State :=
  { s with rep := Tbl.wr (fun _ => 0) s.rep (repKey r copy k i) w,
           repEcc := Tbl.wr (fun _ => 0) s.repEcc (repKey r copy k i) 0 }

/-- A replica word whose check bits are disturbed. -/
def State.putCond (s : State) (r copy : Nat) (k : RegKind) (i c : Nat) : State :=
  { s with repEcc := Tbl.wr (fun _ => 0) s.repEcc (repKey r copy k i) c }

/-- Both copies of an entry in region r loaded from words. -/
def State.loadEntry (s : State) (r : Nat) (ws : List ((RegKind × Nat) × Word)) : State :=
  ws.foldl (fun t x => (t.putRep r 0 x.1.1 x.1.2 x.2).putRep r 1 x.1.1 x.1.2 x.2) s

/-- The regions that hold a replica of an entry: all four, or the owner of a window (R202, R209). -/
def holders (t : DupTable) (i : Nat) : List Nat :=
  match t with
  | .window => [i / 1024]
  | _ => [0, 1, 2, 3]

/-- The chip copy of an entry. -/
def State.chipEntry (s : State) (t : DupTable) (i : Nat) : List ((RegKind × Nat) × Word) :=
  (entryWords t i).map fun x => (x, s.reg x.1 x.2)

/-- The table write counter goes up by one. -/
def State.nextTag (s : State) : State := { s with wtag := (s.wtag + 1) % 65536 }

/-- An entry written (R16, R210): the chip copy first, given by `f`, takes the next write tag, and both copies of every unfenced region that holds it are
stored before the write completes. -/
def State.writeEntry (s : State) (t : DupTable) (i : Nat) (f : State → State) : State :=
  let s := (f s).nextTag
  let s := s.set (tagField t) i s.wtag
  let ws := s.chipEntry t i
  s.each ((holders t i).filter fun r => s.live r) fun r u => u.loadEntry r ws

/-! ### Comparison and repair (R210, R211) -/

/-- The condition of a copy of an entry: its worst word's. -/
def State.copyCond (s : State) (r copy : Nat) (t : DupTable) (i : Nat) : Nat :=
  ((entryWords t i).map fun x => s.repCond r copy x.1 x.2).foldl max 0

/-- A copy's contents. -/
def State.copyWords (s : State) (r copy : Nat) (t : DupTable) (i : Nat) : List ((RegKind × Nat) × Word) :=
  (entryWords t i).map fun x => (x, s.repWord r copy x.1 x.2)

/-- A copy's write tag. -/
def State.copyTag (s : State) (r copy : Nat) (t : DupTable) (i : Nat) : Nat :=
  let F := tagField t
  (s.repWord r copy F.reg i).field F.hi F.lo

/-- A repair reported (R211, R380): counted in the table's field of ACU_DUP_STAT and raised as event 32 + 32r + 15. -/
def State.reportRepair (s : State) (r : Nat) (t : DupTable) : State :=
  let s := match t with
    | .route => s.count ACU_DUP_STAT.ROUTE_CORR r
    | .l1 => s.count ACU_DUP_STAT.L1_CORR r
    | .window => s.count ACU_DUP_STAT.ACU_CORR r
  s.cause (32 + 32 * r + 15) 0 0

/-- A correctable copy is corrected and written back first, each correction reported (R211). -/
def State.correctCopy (s : State) (r copy : Nat) (t : DupTable) (i : Nat) : State :=
  if s.copyCond r copy t i = 1 then
    let s := (entryWords t i).foldl (fun u x => u.putCond r copy x.1 x.2 0) s
    s.reportRepair r t
  else s

/-- Region q answers an access of region r to its HBM channels (R386). -/
def State.reaches (s : State) (r q : Nat) : Bool := q = r || s.live q

/-- The chip copy of a table word is reachable and correctable in one of its two places (R16, R386). -/
def State.chipReadable (s : State) (r w : Nat) : Bool :=
  (List.range 2).any fun c =>
    decide (Tbl.rd (fun _ => 0) s.chipEcc (2 * w + c) < 2) &&
      ((List.range 4).all (s.reaches r) || s.reaches r (Nat.xor (Config.chunkRegion (w / 128) % 4) (2 * c)))

/-- Both copies reloaded from the chip copy; where that cannot be read in either of its places every field becomes 0 but LOCK, kept if either copy had it, and WTAG, the next value of the
write counter (R211). -/
def State.reloadEntry (s : State) (r : Nat) (t : DupTable) (i : Nat) : State :=
  if (entryWords t i).all fun x => s.chipReadable r (tableWord x.1 x.2) then
    (s.loadEntry r (s.chipEntry t i)).reportRepair r t
  else
    let lock := decide (t = .window) &&
      ((s.repWord r 0 .WIN_W0 i).field 52 52 = 1 || (s.repWord r 1 .WIN_W0 i).field 52 52 = 1)
    let s := s.nextTag
    let F := tagField t
    let ws := (entryWords t i).map fun x =>
      let w : Word := if x.1 = F.reg then Word.setField 0 F.hi F.lo s.wtag else 0
      (x, if x.1 = .WIN_W0 then Word.setField w 52 52 (bit lock) else w)
    let s := (s.loadEntry r ws).count ACU_DUP_STAT.UNCORR r
    s.cause (32 + 32 * r + 15) 1 0

/-- WTAG a is newer than b (R211): (a − b) mod 65,536 lies in 1 to 32,767. -/
def newer (a b : Nat) : Bool :=
  let d := (a + 65536 - b) % 65536
  decide (1 ≤ d) && decide (d ≤ 32767)

/-- The repair of an entry's two copies in region r (R211). -/
def State.repair (s : State) (r : Nat) (t : DupTable) (i : Nat) : State :=
  let s := (s.correctCopy r 0 t i).correctCopy r 1 t i
  let badA := s.copyCond r 0 t i = 2
  let badB := s.copyCond r 1 t i = 2
  let a := s.copyWords r 0 t i
  let b := s.copyWords r 1 t i
  let ta := s.copyTag r 0 t i
  let tb := s.copyTag r 1 t i
  if badA ∧ badB then s.reloadEntry r t i
  else if badA then (s.loadEntry r b).reportRepair r t
  else if badB then (s.loadEntry r a).reportRepair r t
  else if a = b then s
  else if newer ta tb then (s.loadEntry r a).reportRepair r t
  else if newer tb ta then (s.loadEntry r b).reportRepair r t
  else s.reloadEntry r t i

/-- The repaired entry of a lookup in region r is copy A of it; every lookup compares first and waits for the repair (R210). -/
def State.lookup (s : State) (r : Nat) (k : RegKind) (i : Nat) : Word := s.repWord r 0 k i

/-- All of a region's replicas loaded from the chip copies (R16, R209, R210, R369). -/
def State.reloadRegion (s : State) (r : Nat) : State :=
  let mine := fun (e : Nat × Word) => e.1 / 2 % 4 = r
  let s := { s with rep := s.rep.filter fun e => !mine e, repEcc := s.repEcc.filter fun e => e.1 / 2 % 4 ≠ r }
  let load := fun (k : RegKind) (t : State) =>
    (t.regs.filter fun e => e.1 % 256 = k.ctorIdx).foldl (fun u e =>
      let i := e.1 / 256
      if (k = .WIN_W0 ∨ k = .WIN_W1 ∨ k = .WIN_W2) ∧ i / 1024 ≠ r then u
      else (u.putRep r 0 k i e.2).putRep r 1 k i e.2) t
  load .WIN_W2 (load .WIN_W1 (load .WIN_W0 (load .L1_W1 (load .L1_W0 (load .ROUTE_ENTRY s)))))

/-- A region's reload finds every chunk it needs (R386): of no pair of regions r and r xor 2 are both unreachable, and no word has both chip copies uncorrectable. -/
def State.reloads (s : State) (r : Nat) : Bool :=
  (List.range 2).all (fun q => s.reaches r q || s.reaches r (q + 2)) &&
    s.chipEcc.all fun e => decide (e.2 < 2) || decide (Tbl.rd (fun _ => 0) s.chipEcc (Nat.xor e.1 1) < 2)

/-- The lowest-numbered unfenced region, whose replica a table-window read returns (R210). -/
def State.firstLive (s : State) : Nat := ((List.range 4).find? fun r => s.live r).getD 0

/-! ### Commands -/

/-- A disturbance of one copy of an entry that a lookup finds (R210): the copy's first word changes and its check bits show condition `ecc`; the lookup then waits
for the repair, which is done here. -/
def duplicateMismatch (r : Nat) (t : DupTable) (i copy : Nat) (flip : Word) (ecc : Nat) (s : State) : State :=
  match entryWords t i with
  | x :: _ =>
    let s := s.putRep r (copy % 2) x.1 x.2 (s.repWord r (copy % 2) x.1 x.2 ^^^ flip)
    let s := s.putCond r (copy % 2) x.1 x.2 (min ecc 2)
    s.repair r t i
  | [] => s

/-- A difference of an entry is repaired (R211). -/
def duplicateRepair (r : Nat) (t : DupTable) (i : Nat) (s : State) : State := s.repair r t i

/-- One scrub step (R212): the region compares and repairs the next entry of each of its three tables, in ascending order and starting again at the lowest; it stops while
the region is not LIVE. -/
def tableScrubStep (r : Nat) (s : State) : State :=
  if !s.live r then s
  else
    let one := fun (j : Nat) (t : DupTable) (size base : Nat) (u : State) =>
      let at' := Tbl.rd (fun _ => 0) u.scrubAt (4 * r + j)
      let u := u.repair r t (base + at')
      { u with scrubAt := Tbl.wr (fun _ => 0) u.scrubAt (4 * r + j) ((at' + 1) % size) }
    one 2 .window 1024 (1024 * r) (one 1 .l1 65536 0 (one 0 .route 34304 0 s))

/-! ### Meanings -/

/-- DUPLICATE_MISMATCH: R210. -/
def execDuplicateMismatch (r : Nat) (t : DupTable) (entry : Nat) (copy : Nat) (flip : Word) (ecc : Nat) (s : State) : Host.Outcome State Fault Refusal :=
  run (decide (r < 4)) (duplicateMismatch r t entry copy flip ecc s)

/-- DUPLICATE_REPAIR: R211. -/
def execDuplicateRepair (r : Nat) (t : DupTable) (entry : Nat) (s : State) : Host.Outcome State Fault Refusal :=
  run (decide (r < 4)) (duplicateRepair r t entry s)

/-- TABLE_SCRUB_STEP: R212. -/
def execTableScrubStep (r : Nat) (s : State) : Host.Outcome State Fault Refusal :=
  run (decide (r < 4)) (tableScrubStep r s)

end Sys2Proof.Machine
end

