-- ==== Sys2Proof/Machine/Anvil.lean ====
section
/-! DEFINITION. Anvil, the switching core (R137 to R171): source routes, injection under credit, routers and arbitration, Quench and the Slag sink, mirroring
and probes. -/

namespace Sys2Proof.Machine

/-! ### The torus (R137) -/

/-- A router's row and column. -/
def rtrPos (n : Nat) : Nat × Nat := (4 * (n / 32) + n % 16 / 4, 4 * (n / 16 % 2) + n % 4)

/-- The router at a row and column. -/
def rtrAt (row col : Nat) : Nat := 16 * (2 * (row / 4) + col / 4) + 4 * (row % 4) + col % 4

/-- The neighbour over output link d: 0 +X, 1 −X, 2 +Y, 3 −Y, with the wrap links. -/
def neighbour (n d : Nat) : Nat :=
  let (row, col) := rtrPos n
  match d with
  | 0 => rtrAt row ((col + 1) % 8)
  | 1 => rtrAt row ((col + 7) % 8)
  | 2 => rtrAt ((row + 1) % 8) col
  | _ => rtrAt ((row + 7) % 8) col

/-- The hop over link d leaves ring position 7 for 0, or 0 for 7. -/
def wraps (n d : Nat) : Bool :=
  let (row, col) := rtrPos n
  match d with
  | 0 => col = 7
  | 1 => col = 0
  | 2 => row = 7
  | _ => row = 0

/-- The local port of a router that an NI hangs on (R138): 4 block, 5 client, 6 the third. -/
def niLocal (n : Nat) : Nat := if n < 64 then 4 else if n < 128 then 5 else 6

/-- The hops of a route entry's HOPS field, first hop first. -/
def hopsOf (hops len : Nat) : List Nat := (List.range len).map fun h => hops / 4 ^ h % 4

/-- The routers a route passes, from the source router on. -/
def pathOf : Nat → List Nat → List Nat
  | n, [] => [n]
  | n, d :: ds => n :: pathOf (neighbour n d) ds

/-- The shorter way round a ring of 8, as the number of hops. -/
def ringDistance (a b : Nat) : Nat := min ((a + 8 - b) % 8) ((b + 8 - a) % 8)

/-- The rules of R144 for a valid entry of NI n towards router d: it ends at d, is minimal in each dimension, takes one dimension before the other as ORDER states, stays inside a
region that holds both ends, and has LEN 0 only to the NI's own router. -/
def routeLegal (n d : Nat) (w : Word) : Bool :=
  let len := w.field 5 2
  let hops := hopsOf (w.field 23 8) len
  let src := niRouter n
  let path := pathOf src hops
  let (r1, c1) := rtrPos src
  let (r2, c2) := rtrPos d
  let xs := hops.filter (· < 2)
  let ys := hops.filter (2 ≤ ·)
  decide (len ≤ 8) && path.getLast? = some d && decide (xs.length = ringDistance c1 c2) &&
    decide (ys.length = ringDistance r1 r2) &&
    (hops = if w.field 1 1 = 0 then xs ++ ys else ys ++ xs) &&
    (src / 16 ≠ d / 16 || path.all fun m => m / 16 = d / 16) && (len ≠ 0 || src = d)

/-! ### Streams and routes (R143, R145, R146) -/

/-- The stream ID (R145). -/
def streamId : StreamSrc → Nat
  | .io port ld tc => port % 128 * 2 ^ 7 + ld % 16 * 2 ^ 3 + tc % 8
  | .mem port addr => 2 ^ 14 + port % 128 * 2 ^ 7 + addr / 2 ^ 6 % 2 ^ 7
  | .coherence addr => 2 ^ 15 + addr / 2 ^ 6 % 2 ^ 14
  | .engine e st => 3 * 2 ^ 14 + e % 128 * 2 ^ 6 + st % 64
  | .management m => 3 * 2 ^ 14 + 2 ^ 13 + m % 2 ^ 13
  | .answer st => st % 2 ^ 16

/-- The class of a home slice's message (R221): SNP, DATA, RSP, or 6 towards an expander. -/
def homeClass (m : HomeMsg) : Nat :=
  match m with
  | .biSnp _ => 4
  | .memData _ _ => 3
  | .hdmRead _ _ _ | .hdmWrite _ _ _ _ => 6
  | _ => 2

/-- A message of a home slice as it leaves: every one about a line travels in the line's stream (R145, R222). -/
def homeOut (slice : Nat) (agent : Option Nat) (line tag : Nat) (m : HomeMsg) : Out := .home slice agent line tag (homeClass m) (streamId (.coherence (64 * line))) m

/-- The route hash (R146). -/
def routeHash (st : Nat) : Nat :=
  Nat.xor (Nat.xor (st % 16) (st / 16 % 16)) (Nat.xor (st / 256 % 16) (st / 4096 % 16))

/-- The number of NI n's route entry `a` towards router d. -/
def routeIdx (n d a : Nat) : Nat := (n * 64 + d) * 4 + a

/-- The route entry as the NI's region looks it up (R143, R210). -/
def State.routeWord (s : State) (n d a : Nat) : Word := s.lookup (niRegion n) .ROUTE_ENTRY (routeIdx n d a)

/-- Every alternative towards a router compared and repaired before it is used (R210). -/
def State.ensureRoutes (s : State) (n d : Nat) : State :=
  s.each (List.range 4) fun a t => t.repair (niRegion n) .route (routeIdx n d a)

/-- The valid alternatives. -/
def State.validAlts (s : State) (n d : Nat) : List Nat :=
  (List.range 4).filter fun a => (s.routeWord n d a).field 0 0 = 1

/-- The alternative a stream takes: the k-th valid one, k = h mod n (R146). -/
def State.pickRoute (s : State) (n d st : Nat) : Option Nat :=
  let v := s.validAlts n d
  v[routeHash st % v.length]?

/-- The packets in flight over a route entry. -/
def State.inFlight (s : State) (n d a : Nat) : Nat := Tbl.rd (fun _ => 0) s.inflight (routeIdx n d a)

/-- The in-flight count of a route entry set. -/
def State.setInFlight (s : State) (n d a v : Nat) : State :=
  { s with inflight := Tbl.wr (fun _ => 0) s.inflight (routeIdx n d a) v }

/-- A router. -/
def State.rtrState (s : State) (n : Nat) : RtrState := Tbl.rd (fun _ => RtrState.idle) s.rtr n

/-- A router replaced. -/
def State.setRtr (s : State) (n : Nat) (x : RtrState) : State :=
  { s with rtr := Tbl.wr (fun _ => RtrState.idle) s.rtr n x }

/-- Flits of a packet whose body is this long (R140). -/
def flitsOf (bytes : Nat) : Nat := (16 + bytes + 127) / 128

/-! ### Delivery, queues and injection -/

/-- A packet waits at its source: the VOQ of its destination block and traffic class, or the client queue of its class (R152). -/
def voqKey (n : Nat) (p : Pkt) : Nat := 1024 * n + (if p.dst < 64 then 8 * p.dst + p.tc % 8 else 600 + p.cls % 9)

/-- A packet put at the end of its queue. -/
def State.enqueue (s : State) (n : Nat) (p : Pkt) : State :=
  { s with voq := Tbl.wr (fun _ => []) s.voq (voqKey n p) (Tbl.rd (fun _ => []) s.voq (voqKey n p) ++ [p]) }

/-- An NI is one of the 102 sources that an egress block serves (R153): every one but the HBM channels'. -/
def isSource (n : Nat) : Bool :=
  let l := n % 16
  n < 64 || 128 ≤ n || l = 0 || l = 3 || l = 12 || l = 15 || l = 5 || l = 6 || l = 9 || l = 10

/-- The standing allowance of a source at a credit point (R153); the buffers of a client NI have none (log entry 77). -/
def State.standing (s : State) (n e : Nat) : Nat := if e < 64 ∧ isSource n then s.get ANV_CR_CFG.STAND e else 0

/-- What a source may spend at a credit point: its standing allowance and its shared grants (R153, R155). -/
def State.allowance (s : State) (n e : Nat) : Nat :=
  let l := s.ledgerAt e n
  (s.standing n e - l.standSpent) + (l.shared - l.sharedSpent)

/-- The receive buffer per class of a client or management NI (R155). -/
def clientBuffer (n : Nat) : Nat :=
  let l := n % 16
  if 128 ≤ n ∧ n < 132 then Config.mgmtBuffer
  else if 132 ≤ n ∨ l = 5 ∨ l = 6 ∨ l = 9 ∨ l = 10 then 256
  else if l = 0 ∨ l = 3 ∨ l = 12 ∨ l = 15 then 128 else 64

/-- The flits that a client's buffer holds: arrived, and their credit not yet returned (R155, R182). -/
def State.clientHeld (s : State) (e : Nat) : Nat := ((s.ledger.filter fun x => x.1 / 256 = e).map (·.2.owed)).sum

/-- The source holds a slot for every flit of the packet at its destination (R153, R155); CTL needs none. -/
def State.hasCredit (s : State) (n : Nat) (p : Pkt) : Bool := p.cls = 8 || decide (p.len ≤ s.allowance n (creditPoint p))

/-- Credit spent for a packet: standing allowance first, shared grants second (log entry 23). -/
def State.spend (s : State) (n : Nat) (p : Pkt) : State :=
  if p.cls = 8 then s
  else
    let e := creditPoint p
    let l := s.ledgerAt e n
    let a := min p.len (s.standing n e - l.standSpent)
    s.setLedger e n { l with standSpent := l.standSpent + a, sharedSpent := l.sharedSpent + (p.len - a) }

/-- Credit point e owes its source the slots that a packet has left (R154). -/
def State.owe (s : State) (e : Nat) (p : Pkt) : State :=
  if p.cls = 8 ∨ looped p then s
  else
    let l := s.ledgerAt e p.src
    s.setLedger e p.src { l with owed := l.owed + p.len }

/-- A packet leaves an egress buffer for the link: OCC falls and its slots are owed (R154, R157). -/
def State.leaves (s : State) (n : Nat) (p : Pkt) : State :=
  let x := s.niAt n
  ((s.setNi n { x with rx := x.rx.erase p }).vacate n p).owe n p

/-- A client NI consumes a packet: it leaves the model, a session's memory request has its answer. -/
def State.consume (s : State) (n : Nat) (p : Pkt) : State := (s.emit (.ejected n p)).when (n = 128) fun s =>
  (s.memAnswer p).when (p.kind = .response ∨ p.kind = .dataResponse) fun t =>
    t.answerOver (fun x => decide (x = .session (p.param / 2 ^ 16 % 8))) (p.param % 2 ^ 16)

/-- The agent of a local upstream port is being removed: every BISnp to it is answered as SNP_DEAD (R233). -/
def State.removingAt (s : State) (port : Nat) : Bool :=
  (s.listed .HRT_AGENT).any fun c => s.flag HRT_AGENT.REMOVING c && decide (s.get HRT_AGENT.PORT_FEID c = s.localFeid port)

/-- A packet reaches its NI: a quenched one hands it to its sink stage (R162), and so is a BISnp for an agent in removal (R233; log entry 87); a block's goes into the egress buffer (R153), counted in OCC and PEAK; a client
consumes its own and owes the slots; CTL is consumed on arrival (R141). -/
def State.deliver (s : State) (n : Nat) (p : Pkt) : State :=
  if p.cls = 8 then s
  else if s.quenched n then (s.absorb n p (s.niAt n).code).creditBack p
  else if p.kind = .biSnp ∧ n < 64 ∧ s.removingAt (2 * n + p.half) then (s.absorb n p 1).creditBack p
  else if n < 64 then
    let x := s.niAt n
    let s := s.setNi n { x with rx := x.rx ++ [p] }
    let occ := s.get ANV_CR_STAT.OCC n + p.len
    let s := (s.set ANV_CR_STAT.OCC n occ).fixed 67 (niRegion n) p.len
    s.set ANV_CR_STAT.PEAK n (max occ (s.get ANV_CR_STAT.PEAK n))
  else ((s.fixed 67 (niRegion n) p.len).owe (creditPoint p) p).consume n p

/-- The traffic class of a request kept for its answer (R175). -/
def State.keepTc (s : State) (port param tc : Nat) : State :=
  { s with tcs := Tbl.wr (fun _ => none) s.tcs (2 ^ 32 * port + param % 2 ^ 32) (some tc) }

/-- A message that source NI n sends takes the traffic class of the request it answers; else, from a client NI to a port, CLIENT_TC (R175). -/
def State.withTc (s : State) (n : Nat) (p : Pkt) : Pkt :=
  match if p.dst < 64 ∧ (p.kind = .response ∨ p.kind = .dataResponse) then Tbl.rd (fun _ => none) s.tcs (2 ^ 32 * (2 * p.dst + p.half) + p.param % 2 ^ 32) else none with
  | some tc => { p with tc := tc }
  | none => if 64 ≤ n ∧ p.dst < 64 then { p with tc := s.get TMP_CFG.CLIENT_TC (p.dst / 16) } else p

/-- No valid entry: the packet goes to the source NI's sink stage with NO_ROUTE, counted, and event 32 + 32r + 10 is raised (R148). -/
def State.noRoute (s : State) (n : Nat) (p : Pkt) : State :=
  let r := niRegion n
  let s := s.absorb n p 6
  let s := s.count ANV_RTR_ERR.NO_ROUTE (niRouter n)
  let s := s.count ANV_SLAG_CNT2.NO_ROUTE r
  s.notice (32 + 32 * r + 10) 1 n

/-- The NI's new packets of a stream that maps to an alternative are held until old ones are ejected (R147). -/
def State.isHeld (s : State) (n d a : Nat) : Bool :=
  (s.niAt n).holds.any fun h => h.1 = d && (h.2 = a || h.2 = 4)

/-- A packet's sub-channel: bit 0 the route order, bit 1 the dateline (R142, R150); CTL has none (R141). -/
def subOf (p : Pkt) : Nat := if p.cls = 8 then 0 else p.order + (if p.dateline then 2 else 0)

/-- Two flits share an input buffer: class and sub-channel (R149). -/
def sameSub (p q : Pkt) : Bool := p.cls = q.cls && subOf p = subOf q

/-- A router's input has room for a flit of the packet: 4 flits per class and sub-channel (R149). -/
def roomAt (x : RtrState) (input : Nat) (p : Pkt) : Bool := decide ((x.flits.filter fun g => g.input = input && sameSub g.pkt p).length < 4)

/-- Flits on their way to input `i` of a router, or from it to its block (7). -/
def State.crossing (s : State) (rt i : Nat) : List Flit := Tbl.rd (fun _ => []) s.xing (8 * rt + i)

/-- Flits on their way replaced. -/
def State.setCrossing (s : State) (rt i : Nat) (l : List Flit) : State := { s with xing := Tbl.wr (fun _ => []) s.xing (8 * rt + i) l }

/-- Flits that enter a router's input as far as its buffers have room, each sub-channel in order; and those that still wait. -/
def intoInput (x : RtrState) (i : Nat) (l : List Flit) : RtrState × List Flit :=
  l.foldl (fun (y : RtrState × List Flit) f =>
    if roomAt y.1 i f.pkt && !(y.2.any fun g => sameSub g.pkt f.pkt) then ({ y.1 with flits := y.1.flits ++ [f] }, y.2) else (y.1, y.2 ++ [f])) (x, [])

/-- The flits of a router's client NIs enter its inputs as far as they have room (R149). A block's cross from the I/O die (R18). -/
def State.fillLocal (s : State) (rt : Nat) : State :=
  s.each ((List.range 2).map (5 + ·)) fun i t =>
    let r := intoInput (t.rtrState rt) i (t.crossing rt i)
    (t.setRtr rt r.1).setCrossing rt i r.2

/-- A packet takes alternative `a`: its header is filled in, credit is spent, and its flits set out for the NI's router (R142, R147, R150, R154). -/
def State.launch (s : State) (n a : Nat) (p : Pkt) : State :=
  let d := niRouter p.dst
  let w := s.routeWord n d a
  let p := { p with src := n, order := w.field 1 1, dateline := false, hopIdx := 0, route := w.field 23 8, rlen := w.field 5 2, alt := a }
  let s := ((s.spend n p).setInFlight n d a (s.inFlight n d a + 1)).fixed 66 (niRegion n) p.len
  let l := s.crossing (niRouter n) (niLocal n) ++ (List.range p.len).map fun i => ⟨niLocal n, p, i, 8 * p.age⟩
  (s.setCrossing (niRouter n) (niLocal n) l).fillLocal (niRouter n)

/-- A source NI injects a packet (R146 to R148, R162): a known quenched target's goes to the source's own sink stage; a held stream waits, every stream to a router whose count of
alternatives changed (R147); otherwise it takes its route. -/
def State.inject (s : State) (n : Nat) (p : Pkt) : State :=
  match (s.niAt n).notices.find? (·.1 = p.dst) with
  | some (_, code) => s.absorb n p code
  | none =>
    let d := niRouter p.dst
    let wait := fun (t : State) => let x := t.niAt n; t.setNi n { x with held := x.held ++ [p] }
    if s.isHeld n d 4 then wait s
    else
      let s := s.ensureRoutes n d
      match s.pickRoute n d p.stream with
      | none => s.noRoute n p
      | some a => if s.isHeld n d a then wait s else s.launch n a p

/-- The queues of an NI that hold packets: (key within the NI, head packet). -/
def State.heads (s : State) (n : Nat) : List (Nat × Pkt) :=
  (s.voq.filter fun e => e.1 / 1024 = n).filterMap fun e => e.2.head?.map fun p => (e.1 % 1024, p)

/-- The destination slot of a queue in the round robin: the block, or 64 + class for a client queue. -/
def queueSlot (k : Nat) : Nat := if k < 600 then k / 8 else 64 + (k - 600)

/-- The queue that injects next (R152): of those whose head holds credit or goes to the sink, the highest traffic class, round robin over destinations within it. -/
def State.nextQueue (s : State) (n : Nat) : Option (Nat × Pkt) :=
  let ready := (s.heads n).filter fun x => s.hasCredit n x.2 || (s.niAt n).notices.any (·.1 = x.2.dst)
  (List.range 8).reverse.findSome? fun tc =>
    let c := ready.filter fun x => x.2.tc % 8 = tc
    let last := (s.niAt n).lastVoq.getD tc 72
    let order := (List.range 73).map fun i => (last + 1 + i) % 73
    order.findSome? fun slot => c.find? fun x => queueSlot x.1 = slot

/-- A source injects from its queues (R152). -/
def voqInject (n : Nat) (s : State) : State :=
  match s.nextQueue n with
  | none => s
  | some (k, p) =>
    let q := Tbl.rd (fun _ => []) s.voq (1024 * n + k)
    let s := { s with voq := Tbl.wr (fun _ => []) s.voq (1024 * n + k) q.tail }
    let x := s.niAt n
    let last := (if x.lastVoq.length = 8 then x.lastVoq else List.replicate 8 72).set (p.tc % 8) (queueSlot k)
    (s.setNi n { x with lastVoq := last }).inject n p

/-- A request, whose requester waits for an answer. -/
def isRequest (k : PktKind) : Bool :=
  match k with
  | .memRd | .memWr | .ioNonPosted | .tongsRd | .tongsWr | .mgmtRd | .mgmtWr | .biSnp => true
  | _ => false

/-- The home slice of a POA (R216). -/
def homeSlice (poa : Nat) : Nat :=
  Nat.xor (Nat.xor (poa / 2 ^ 9 % 16) (poa / 2 ^ 13 % 16)) (Nat.xor (poa / 2 ^ 17 % 16) (poa / 2 ^ 21 % 16))

/-- The NI of a local endpoint (R295); none for a reserved one. -/
def State.endpointNi (s : State) (e : Nat) : Option Nat :=
  if e < 128 then some (s.leadOf (e / 2))
  else if e < 144 then
    let p := s.get HRT_SLICE_STAT.PHYS (e - 128)
    some (if p = 16 then 132 else if p = 17 then 133 else 64 + 16 * (p / 4) + [5, 6, 9, 10].getD (p % 4) 5)
  else if e < 160 then some (64 + 16 * ((e - 144) / 4) + [0, 3, 12, 15].getD ((e - 144) % 4) 0)
  else if e < 164 then some (128 + (e - 160))
  else if e = 164 then some 128
  else none

/-- A request goes to its part's target (R192), or where its extent is shared to its home slice (R196): the LD-ID there, and for an endpoint of this chip its NI. -/
def State.aimed (s : State) (p : Pkt) (x : Part) : Pkt :=
  let e := if x.shared then 128 + homeSlice (x.poa.getD 0) else x.target % 512
  let p := { p with ld := if x.shared then 0 else x.ld }
  match if x.target / 512 = s.get MGT_CHIP_INFO.CHIP_ID 0 then s.endpointNi e else none with
  | some n => { p with dst := n, half := if e < 128 then e % 2 else 0 }
  | none => p

/-- The part that a packet of a client NI carries (R191): the oldest of an engine of its cluster, or of a session, with its tag. -/
def State.clientPart (s : State) (n : Nat) (p : Pkt) : Option (Nat × Part) :=
  s.resolved.find? fun x => match x.2.req.src with
    | .engine e => decide (s.endpointNi (144 + e / 8) = some n ∧ x.2.req.tag = p.param)
    | .session k => decide (n = 128 ∧ p.param = x.2.req.tag % 2 ^ 16 + 2 ^ 16 * (k % 8) + 2 ^ 19 * x.2.idx)
    | .port _ _ => false

/-- The copy traffic of a migration (R246). -/
def State.copies (s : State) (q : MemReq) : Bool :=
  match q.src with
  | .engine e => (Tbl.rd (fun _ => Engine.idle) s.engines e).job.any fun r => (r.job.desc.getD 0 0).field 7 0 = 5
  | _ => false

/-- The packet of a client's part: aimed at the part's target; copy traffic in class 7 and in the egress queue RMP_MIG_CFG.TC (R246). -/
def State.clientPacket (s : State) (p : Pkt) (x : Part) : Pkt :=
  let p := s.aimed p x
  if s.copies x.req then { p with cls := 7, tc := s.get RMP_MIG_CFG.TC 0 } else p

/-- The part that a message of a client NI carries, where it is a request. -/
def State.carried (s : State) (n : Nat) (p : Pkt) : Option (Nat × Part) := if isRequest p.kind && decide (64 ≤ n) then s.clientPart n p else none

/-- The packet that a source NI forms of a message (R140, R142, R145): its stream ID and its length in flits, CTL always one; a client's that carries a resolved part goes to the
part's target. -/
def State.packetOf (s : State) (n : Nat) (src : StreamSrc) (p : Pkt) : Pkt :=
  let p := { p with stream := streamId src, src := n, len := if p.cls = 8 then 1 else flitsOf p.body.length, alt := 0, void := false }
  let p := if isRequest p.kind && decide (n < 64) then p else s.withTc n p
  match s.carried n p with
  | some x => s.clientPacket p x.2
  | none => p

/-- A source NI forms a packet and queues it behind those before it; it is injected at once where it is the next its source sends (R152, R154). A body over 624 bytes is no packet's. -/
def packetInject (n : Nat) (src : StreamSrc) (p : Pkt) (s : State) : State :=
  if 624 < p.body.length then s
  else
    let w := s.packetOf n src p
    let s := match s.carried n p with | some x => { s with resolved := s.resolved.erase x } | none => s
    let t := s.enqueue n w
    match t.nextQueue n with
    | some (k, _) => if 1024 * n + k = voqKey n w ∧ (Tbl.rd (fun _ => []) t.voq (voqKey n w)).length = 1 then voqInject n t else t
    | none => t

/-! ### Route changes (R143, R144, R147) -/

/-- A route-table write (R16, R143, R144, R147): one that breaks the route rules is not performed and is recorded; otherwise every copy takes it, and the NI holds the streams of the entry, or
all streams to the router where VALID changes, while old packets are in flight. -/
def routeEntryWrite (n d a : Nat) (w : Word) (s : State) : State :=
  if w.field 0 0 = 1 && !routeLegal n d w then s.refuseWrite .ROUTE_ENTRY (routeIdx n d a)
  else
    let i := routeIdx n d a
    let was := s.get ROUTE_ENTRY.VALID i
    let s := s.writeEntry .route i fun t =>
      let t := t.set ROUTE_ENTRY.VALID i (w.field 0 0)
      let t := t.set ROUTE_ENTRY.ORDER i (w.field 1 1)
      let t := t.set ROUTE_ENTRY.LEN i (w.field 5 2)
      t.set ROUTE_ENTRY.HOPS i (w.field 23 8)
    let hold := if was = w.field 0 0 then a else 4
    let busy := if hold = 4 then (List.range 4).any fun b => 0 < s.inFlight n d b else decide (0 < s.inFlight n d a)
    let x := s.niAt n
    if busy && !x.holds.contains (d, hold) then s.setNi n { x with holds := x.holds ++ [(d, hold)] } else s

/-- A packet goes back to the front of its queue. -/
def State.putFirst (s : State) (n : Nat) (p : Pkt) : State :=
  { s with voq := Tbl.wr (fun _ => []) s.voq (voqKey n p) (p :: Tbl.rd (fun _ => []) s.voq (voqKey n p)) }

/-- Every packet sent under the old contents is ejected: the holds towards router d end, and the held packets stand first in their queues again, in order, to go on the new routes with
credit (R147, R154). -/
def routeChangeResume (n d : Nat) (s : State) : State :=
  let x := s.niAt n
  let free := fun (h : Nat × Nat) => h.1 = d &&
    (if h.2 = 4 then (List.range 4).all fun a => s.inFlight n d a = 0 else s.inFlight n d h.2 = 0)
  if x.holds.any free then
    let go := x.held.filter fun p => niRouter p.dst = d
    let s := s.setNi n { x with holds := x.holds.filter (fun h => !free h), held := x.held.filter fun p => niRouter p.dst ≠ d }
    go.reverse.foldl (fun t p => t.putFirst n p) s
  else s

/-! ### Routers (R149 to R151) -/

/-- The output a packet wants at the router it is at: its next hop, or the local port of its destination. -/
def outputOf (p : Pkt) : Nat := if p.hopIdx < p.rlen then p.route / 4 ^ p.hopIdx % 4 else niLocal p.dst

/-- The packet as it leaves router n over link d (R150): the dateline bit is set over a wrap link and cleared on turning to the second dimension. -/
def afterHop (n d : Nat) (p : Pkt) : Pkt :=
  let turned := decide (0 < p.hopIdx) && decide (p.route / 4 ^ (p.hopIdx - 1) % 4 / 2 ≠ d / 2)
  { p with hopIdx := p.hopIdx + 1, dateline := (p.dateline && !turned) || wraps n d }

/-- AGE of a waiting flit: cycles waited in units of 8, saturating (R142). -/
def ageOf (f : Flit) : Nat := min 255 (f.waited / 8)

/-- The flits of a router that could go out on `out` now: the head of its input, class and sub-channel queue; the output sub-channel free or held by its packet; room downstream, where
flits at a crossing count too. -/
def State.candidates (s : State) (rt out : Nat) : List Flit :=
  let x := s.rtrState rt
  let key := fun (f : Flit) => (f.input, f.pkt.cls, subOf f.pkt)
  let m := neighbour rt out
  let nxt := if out < 4 then { s.rtrState m with flits := (s.rtrState m).flits ++ s.crossing m (Nat.xor out 1) } else RtrState.idle
  x.flits.filter fun f =>
    decide (outputOf f.pkt = out) && (x.flits.find? (fun g => key g = key f)) = some f &&
    (let q := if out < 4 then afterHop rt out f.pkt else f.pkt
     (match x.held.find? (fun h => h.1 = out && h.2.1 = q.cls && h.2.2.1 = subOf q) with
      | some h => h.2.2.2 = f.input && decide (0 < f.idx)
      | none => f.idx = 0) && (decide (4 ≤ out) || roomAt nxt (Nat.xor out 1) q))

/-- Round robin over inputs, and within an input over sub-channels (rule 5 of R151). -/
def roundRobin (x : RtrState) (out cls : Nat) (c : List Flit) : Option Flit :=
  let li := ((x.lastIn.find? (·.1 = 9 * out + cls)).map (·.2)).getD 6
  let inputs := (List.range 7).map fun i => (li + 1 + i) % 7
  inputs.findSome? fun i =>
    let ls := ((x.lastSub.find? (·.1 = 7 * (9 * out + cls) + i)).map (·.2)).getD 3
    let subs := (List.range 4).map fun j => (ls + 1 + j) % 4
    subs.findSome? fun u => c.find? fun f => f.input = i && f.pkt.cls = cls && subOf f.pkt = u

/-- The weight of a class (R171): 0 is taken as 1. -/
def State.classWeight (s : State) (r cls : Nat) : Nat :=
  max 1 (s.get ANV_ARB_CFG.WGT r / 16 ^ (cls - 1) % 16)

/-- Weighted round robin over classes 1 to 7 (rule 4 of R151): the class in turn while it has weight left and flits, else the next with flits at its full weight. -/
def State.wrrClass (s : State) (rt out : Nat) (present : List Nat) : Option (Nat × Nat) :=
  let x := s.rtrState rt
  let (cur, left) := ((x.wrr.find? (·.1 = out)).map (·.2)).getD (7, 0)
  if present.contains cur ∧ 0 < left then some (cur, left)
  else ((List.range 7).map fun i => (cur + i) % 7 + 1).findSome? fun c =>
    if present.contains c then some (c, s.classWeight (rt / 16) c) else none

/-- The modes whose arbitration follows message-class order (rule 4 of R151, R362): PROVISION, TEST, and RECOVERY of the router's own region. -/
def State.classOrderMode (s : State) (r : Nat) : Bool :=
  s.phase = .provision || s.phase = .test || s.regionState r = 2

/-- The flit an output grants (R151), with the weighted turn where rule 4 used it. -/
def State.grant (s : State) (rt out : Nat) : Option (Flit × Option (Nat × Nat)) :=
  let x := s.rtrState rt
  let c := s.candidates rt out
  let has := fun k => c.any fun f => f.pkt.cls = k
  let thr := s.get ANV_ARB_CFG.AGE_THR (rt / 16)
  let aged := c.filter fun f => decide (thr ≤ ageOf f)
  let oldest := aged.foldl (fun (m : Option Flit) f =>
    match m with
    | some g => if ageOf g < ageOf f then some f else some g
    | none => some f) none
  if has 8 then (roundRobin x out 8 c).map fun f => (f, none)
  else if has 0 then (roundRobin x out 0 c).map fun f => (f, none)
  else match oldest with
    | some f => some (f, none)
    | none =>
      if s.classOrderMode (rt / 16) then
        ([2, 3, 4, 5, 1, 6, 7].find? has).bind fun k => (roundRobin x out k c).map fun f => (f, none)
      else (s.wrrClass rt out ((List.range 8).filter fun k => decide (1 ≤ k) && has k)).bind fun t =>
        (roundRobin x out t.1 c).map fun f => (f, some t)

/-- The router after a grant: the flit gone, the sub-channel held until the last flit, the turns kept, and every other flit that wants the output one cycle older. -/
def afterGrant (x : RtrState) (out : Nat) (f : Flit) (q : Pkt) (turn : Option (Nat × Nat)) : RtrState :=
  let h := (out, q.cls, subOf q, f.input)
  let last := decide (q.len ≤ f.idx + 1)
  let held := if last then x.held.filter (· ≠ h) else if f.idx = 0 then x.held ++ [h] else x.held
  let ki := 9 * out + f.pkt.cls
  let ks := 7 * ki + f.input
  { flits := (x.flits.erase f).map fun g => if outputOf g.pkt = out then { g with waited := g.waited + 1 } else g
    held := held
    wrr := match turn with
      | some t => (x.wrr.filter (·.1 ≠ out)) ++ [(out, t.1, t.2 - 1)]
      | none => x.wrr
    lastIn := (x.lastIn.filter (·.1 ≠ ki)) ++ [(ki, f.input)]
    lastSub := (x.lastSub.filter (·.1 ≠ ks)) ++ [(ks, subOf f.pkt)] }

/-- A packet has left the network: one fewer in flight over its route entry (R147). -/
def State.landed (s : State) (p : Pkt) : State :=
  s.setInFlight p.src (niRouter p.dst) p.alt (s.inFlight p.src (niRouter p.dst) p.alt - 1)

/-- Region r's gate is open (R19). -/
def State.gateOpen (s : State) (r : Nat) : Bool := !bitOf (s.get FLT_STAT.FENCED 0) r

/-- A flit at a router's inputs waits for an output. -/
def State.wants (s : State) (rt out : Nat) : Bool := (s.rtrState rt).flits.any fun f => outputOf f.pkt = out

/-- A flit switched is counted (R414): in all, by mesh output, by class, and where age granted it. -/
def State.switched (s : State) (rt out : Nat) (f : Flit) : State :=
  let t := fun (u : State) (ev : Nat) => u.tally (0x80 + ev) (rt / 16) (rt % 16) rt
  let aged := decide (f.pkt.cls ≠ 8 ∧ f.pkt.cls ≠ 0) && decide (s.get ANV_ARB_CFG.AGE_THR (rt / 16) ≤ ageOf f)
  let s := t s 0
  let s := if out < 4 then t s (1 + out) else s
  let s := t s (16 + f.pkt.cls % 9)
  if aged then t s 6 else s

/-- A packet apart from what changes on its way. -/
def barePkt (p : Pkt) : Pkt := { p with hopIdx := 0, dateline := false, trace := false, poison := false, age := 0, void := false }

/-- A mark put on every flit of a packet that is still in the network. -/
def State.mapFlits (s : State) (p : Pkt) (g : Pkt → Pkt) : State :=
  let h := fun (f : Flit) => if barePkt f.pkt = barePkt p then { f with pkt := g f.pkt } else f
  { s with rtr := s.rtr.map fun e => (e.1, { e.2 with flits := e.2.flits.map h }), xing := s.xing.map fun e => (e.1, e.2.map h) }

/-- A packet of which a flit is discarded will not arrive (R20, R139): its credit goes back now, and its other flits only clear the way (log entry 78). -/
def State.voidPkt (s : State) (p : Pkt) : State := if p.void then s else (s.mapFlits p fun q => { q with void := true }).creditBack p

/-- A packet leaves the network without arriving. -/
def State.dropped (s : State) (p : Pkt) : State := if p.void then s.landed p else (s.landed p).creditBack p

/-- A traced packet passes a point (R417): while capture runs a record is taken, at a hop only with HOPS. -/
def State.noteTrace (s : State) (rt kind input output : Nat) (p : Pkt) (fab : Option FabPkt) : State :=
  if p.trace && s.flag CNT_TRC_STAT.RUN 0 && (kind ≠ 1 || s.flag CNT_TRC_CFG.HOPS 0) then
    { s with trcDue := s.trcDue ++ [⟨s.time, rt, kind, input, output, p, fab⟩] }
  else s

/-- A packet's last flit reaches its NI, which takes a traced one's record (R417). -/
def State.ejects (s : State) (f : Flit) : State :=
  if f.pkt.void then s.landed f.pkt
  else ((s.landed f.pkt).deliver f.pkt.dst { f.pkt with age := ageOf f }).noteTrace (niRouter f.pkt.dst) 2 f.input 7 f.pkt none

/-- Errors of a cell counted in the present hour (R392). -/
def State.wearAdd (s : State) (monitor cell n : Nat) : State :=
  let k := monitor * 2 ^ 24 + cell
  let h := s.clk / 3600000000000
  let x := Tbl.rd (fun _ => (0, 0)) s.wear k
  { s with wear := Tbl.wr (fun _ => (0, 0)) s.wear k (h, if x.1 = h then x.2 + n else n) }

/-- Errors of a cell in the present hour. -/
def State.wearCount (s : State) (monitor cell : Nat) : Nat :=
  let x := Tbl.rd (fun _ => (0, 0)) s.wear (monitor * 2 ^ 24 + cell)
  if x.1 = s.clk / 3600000000000 then x.2 else 0

/-- The cell number of a wire of output link d of a router. -/
def wireCell (rt d wire : Nat) : Nat := 4 * rt + d + 256 * wire

/-- A flit's check on the link to router m (R139, R171, R393): corrected it is counted at the input and on its wire, uncorrectable it is discarded, counted and reported, and a link with no
spare wire left is no longer usable. -/
def State.linkCheck (s : State) (rt out m ecc wire : Nat) (inj : Bool) (p : Pkt) : State :=
  match ecc with
  | 0 => s
  | 1 => (s.count ANV_RTR_ERR.ECC_CORR m).wearAdd 7 (wireCell rt out wire) 1
  | _ =>
    let s := ((s.voidPkt p).count ANV_RTR_ERR.ECC_UNCORR m).cause (32 + 32 * (rt / 16) + 9) 1 (4 * rt + out) inj
    if s.get ANV_RTR_STAT.SPARE_USED rt / 16 ^ out % 16 = 15 then (s.setBit ANV_RTR_STAT.LINK_UP rt out false).unmet 1 else s

/-- The flits that wait for an output grow a cycle older (R151). -/
def State.waitAll (s : State) (rt out : Nat) : State :=
  let x := s.rtrState rt
  s.setRtr rt { x with flits := x.flits.map fun g => if outputOf g.pkt = out then { g with waited := g.waited + 1 } else g }

/-- One flit per cycle over an output (R149 to R151): it goes towards its NI, to the next router, or into the crossing to its block or to another region (R18); to the sink of the
sending region at a closed gate or a link that is down (R19, R393); or it is discarded where it would leave a fenced region (R19: counted in packets, at the last flit, and shown in no
register, log entry 76). `ecc`, `wire` and `inj`: its check on the link, and whether an error was injected. -/
def State.switchFlit (s : State) (rt out ecc wire : Nat) (inj : Bool) : State :=
  match s.grant rt out with
  | none => if s.wants rt out then (s.waitAll rt out).tally 0x85 (rt / 16) (rt % 16) rt else s
  | some (f, turn) =>
    let s := (s.switched rt out f).when (f.idx = 0) fun t => t.noteTrace rt 1 f.input out f.pkt none
    let q := if out < 4 then afterHop rt out f.pkt else f.pkt
    let last := decide (q.len ≤ f.idx + 1)
    let s := (s.setRtr rt (afterGrant (s.rtrState rt) out f q turn)).fillLocal rt
    if out = 4 then s.setCrossing rt 7 (s.crossing rt 7 ++ [f])
    else if 4 < out then (if last then s.ejects f else s)
    else
      let m := neighbour rt out
      let cross := decide (m / 16 ≠ rt / 16)
      let g : Flit := ⟨Nat.xor out 1, q, f.idx, f.waited⟩
      if cross && !s.gateOpen (rt / 16) then
        if last then
          { s.dropped f.pkt with
            gateDrops := Tbl.wr (fun _ => 0) s.gateDrops (rt / 16) (Tbl.rd (fun _ => 0) s.gateDrops (rt / 16) + 1) }
        else s
      else if cross && !s.gateOpen (m / 16) then
        if last then (s.dropped f.pkt).when (!f.pkt.void) fun t => t.absorb rt f.pkt 2 else s
      else if !bitOf (s.get ANV_RTR_STAT.LINK_UP rt) out then
        if last then (s.dropped f.pkt).when (!f.pkt.void) fun t => t.noRoute rt f.pkt else s
      else if cross then s.setCrossing m (Nat.xor out 1) (s.crossing m (Nat.xor out 1) ++ [g])
      else
        let y := s.rtrState m
        (s.setRtr m { y with flits := y.flits ++ [g] }).linkCheck rt out m ecc wire inj q

/-- A flit is switched (R151). -/
def flitSwitch (rt out ecc wire : Nat) (s : State) : State := s.switchFlit rt out ecc wire false

/-- A wire over its wear threshold is replaced by a spare between two flits (R139, R392, R393), where the pool's AUTO is 1 and its link has one left. -/
def linkWireSpare (rt d wire : Nat) (s : State) : State :=
  let used := s.get ANV_RTR_STAT.SPARE_USED rt / 16 ^ d % 16
  if s.wearCount 7 (wireCell rt d wire) ≤ s.get FLT_WEAR_CFG.WIRE_THR 0 ∨ !s.flag FLT_POOL.AUTO 1 then s
  else
    match (List.range 4).find? fun j => !bitOf used j with
    | some j =>
      let s := { s with wear := Tbl.wr (fun _ => (0, 0)) s.wear (7 * 2 ^ 24 + wireCell rt d wire) (0, 0) }
      let s := s.setBit ANV_RTR_STAT.SPARE_USED rt (4 * d + j) true
      let s := (s.count FLT_POOL.USED 1).cause (32 + 32 * (rt / 16) + 9) 0 (4 * rt + d)
      { s with repairMap.wires := Tbl.wr (fun _ => 0) s.repairMap.wires rt (s.get ANV_RTR_STAT.SPARE_USED rt) }
    | none => s

/-! ### End-to-end credit (R153 to R155, R182) -/

/-- Shared slots that a credit point has granted. -/
def State.granted (s : State) (e : Nat) : Nat := ((s.ledger.filter fun x => x.1 / 256 = e).map (·.2.shared)).sum

/-- The shared slots of a credit point not granted (R153, R155): SHARED_FREE of an egress block; of a client's buffer what its size leaves. -/
def State.poolFree (s : State) (e : Nat) : Nat := if e < 64 then s.get ANV_CR_STAT.SHARED_FREE e else clientBuffer (pointNi e) - s.granted e

/-- SHARED_FREE of an egress block set. -/
def State.setFreeSlots (s : State) (e n : Nat) : State := if e < 64 then s.set ANV_CR_STAT.SHARED_FREE e n else s

/-- The shared pool of an egress block (R153): 4,096 slots less the standing allowances of its 102 sources and what it has granted. -/
def State.issuePool (s : State) (e : Nat) : State := s.setFreeSlots e (4096 - 102 * s.get ANV_CR_CFG.STAND e - s.granted e)

/-- The size of a shared request at a credit point. -/
def State.chunk (s : State) (e : Nat) : Nat := s.get ANV_CR_CFG.CHUNK (niRouter (pointNi e))

/-- The queued requests of a credit point. -/
def State.requests (s : State) (e : Nat) : List Nat := Tbl.rd (fun _ => []) s.crQueue e

/-- A queued request can be granted: CHUNK slots in the pool and the source under MAX_SHARED (R153). -/
def State.canGrant (s : State) (e n : Nat) : Bool :=
  decide (s.chunk e ≤ s.poolFree e) && decide ((s.ledgerAt e n).shared + s.chunk e ≤ s.get ANV_CR_CFG.MAX_SHARED (niRouter (pointNi e)))

/-- The congestion band of a credit point (R182): of an egress block by the flits it holds and those requested in its queue, of a client's buffer by its share filled. -/
def State.egressBand (s : State) (e : Nat) : Nat :=
  if e < 64 then min 7 ((s.get ANV_CR_STAT.OCC e + (s.requests e).length * s.chunk e) / 512)
  else min 7 (8 * s.clientHeld e / max 1 (clientBuffer (pointNi e)))

/-- A source learns an egress block's band with a grant or return (R182). -/
def State.learnBand (s : State) (e n : Nat) : State :=
  if e < 64 then { s with bands := Tbl.wr (fun _ => (0, 0)) s.bands (64 * n + e) (s.egressBand e, s.clk) } else s

/-- CHUNK flits granted from the shared pool. -/
def State.grantShared (s : State) (e n : Nat) : State :=
  let k := s.chunk e
  let free := s.poolFree e
  let l := s.ledgerAt e n
  ((s.setLedger e n { l with shared := l.shared + k }).setFreeSlots e (free - k)).learnBand e n

/-- The head packet of one of a source's queues is longer than its allowance at a credit point (R153). -/
def State.isShort (s : State) (n e : Nat) : Bool := (s.heads n).any fun x => creditPoint x.2 = e && decide (s.allowance n e < x.2.len)

/-- A source whose allowance is short of a head packet asks for CHUNK flits: granted when the pool can and no earlier request waits, otherwise queued (R153). -/
def creditRequest (n e : Nat) (s : State) : State :=
  if !s.isShort n e ∨ (e < 64 ∧ !isSource n) then s
  else if (s.requests e).isEmpty && s.canGrant e n then s.grantShared e n
  else
    let s := { s with crQueue := Tbl.wr (fun _ => []) s.crQueue e (s.requests e ++ [n]) }
    if e < 64 then s.tally 0xA0 (e / 16) (e % 16) e else s

/-- The oldest queued request is granted as slots free (R153). -/
def creditGrant (e : Nat) (s : State) : State :=
  match s.requests e with
  | n :: rest => if s.canGrant e n then ({ s with crQueue := Tbl.wr (fun _ => []) s.crQueue e rest }).grantShared e n else s
  | [] => s

/-- A credit point returns what it owes a source, with its congestion band (R154). -/
def creditReturn (e n : Nat) (s : State) : State :=
  let k := (s.ledgerAt e n).owed
  let s := s.restore e n k
  let s := s.setLedger e n { s.ledgerAt e n with owed := 0 }
  s.learnBand e n

/-- A source gives back shared grants unused for 1 µs (R154). -/
def sharedGrantRelease (n e : Nat) (s : State) : State :=
  let l := s.ledgerAt e n
  let k := l.shared - l.sharedSpent
  let free := s.poolFree e
  (s.setLedger e n { l with shared := l.shared - k }).setFreeSlots e (free + k)

/-! ### Quench and the sink (R161 to R165) -/

/-- A trigger of R161 with its code. -/
def quenchTrigger (n code : Nat) (s : State) : State := s.quench n ⟨code, true, 0⟩

/-- A Quench notice arrives: new packets for the target go to this NI's own sink stage (R162). -/
def quenchNoticeArrival (n target code : Nat) (s : State) : State :=
  let x := s.niAt n
  s.setNi n { x with notices := (x.notices.filter (·.1 ≠ target)) ++ [(target, code)] }

/-- ANV_QUENCH_CMD.SET (R161, R165). -/
def quenchSet (r n : Nat) (s : State) : State :=
  if n < 134 ∧ niRegion n = r then s.quench n ⟨3, false, 0⟩ else s.refuseWrite .ANV_QUENCH_CMD r

/-- ANV_QUENCH_CMD.CLEAR (R164, R165): ignored while any trigger persists. -/
def quenchClear (r n : Nat) (s : State) : State :=
  if n < 134 ∧ niRegion n = r then
    if (s.niAt n).triggers.any (·.persists) then s else (s.dropTriggers n fun _ => true).release n
  else s.refuseWrite .ANV_QUENCH_CMD r

/-- The counter of an absorbed packet (R163). -/
def State.countSlag (s : State) (r : Nat) (k : PktKind) : State :=
  match k with
  | .memRd | .tongsRd | .mgmtRd => s.count ANV_SLAG_CNT0.RD_ANS r
  | .memWr | .ioPosted | .tongsWr | .mgmtWr => s.count ANV_SLAG_CNT0.WR_DISC r
  | .ioNonPosted => s.count ANV_SLAG_CNT1.NP_UR r
  | .response | .dataResponse | .snpDead | .weusk => s.count ANV_SLAG_CNT1.RSP_DISC r
  | .biSnp => s.count ANV_SLAG_CNT1.SNP_DEAD r
  | .ctl => s

/-- The class that an answer travels in (R121, R141): a coherence request or snoop is answered in RSP or DATA, every other packet in its own class. -/
def answerClass (p : Pkt) (data : Bool) : Nat := if p.cls = 4 ∨ p.cls = 5 then (if data then 3 else 2) else p.cls

/-- The sink's answer to an absorbed packet (R163), if its type has one: poisoned all-ones data for reads, a completion for CXL.mem writes, Unsupported Request for CXL.io
non-posted, SNP_DEAD for a BISnp, an error response for Tongs and management. -/
def slagReply (n : Nat) (p : Pkt) : Option Pkt :=
  let back : Pkt := { p with dst := p.src, src := n, half := p.srcHalf, srcHalf := p.half, opc := Config.answerOpc p.opc, cls := answerClass p false, len := 1, body := [],
                             poison := false, alt := 0, void := false, kind := .response }
  let data : Pkt := { back with kind := .dataResponse, cls := answerClass p true, poison := true, body := List.replicate 64 255 }
  match p.kind with
  | .memRd | .tongsRd | .mgmtRd => some data
  | .memWr | .ioNonPosted | .tongsWr | .mgmtWr => some back
  | .biSnp => some { back with kind := .snpDead }
  | _ => none

/-- An answer to a requester on the sink's own NI loops back to it, past every slot (R163). -/
def State.loopBack (s : State) (n : Nat) (q : Pkt) : State :=
  if n < 64 then
    let y := s.niAt n
    s.setNi n { y with rx := y.rx ++ [{ q with alt := 7 }] }
  else s.consume n q

/-- The sink stage of an NI answers the oldest packet it absorbed (R163); an answer to a requester on the same NI loops back. -/
def slagAnswer (n : Nat) (s : State) : State :=
  let x := s.niAt n
  match x.absorbed with
  | [] => s
  | p :: rest =>
    let s := ((s.setNi n { x with absorbed := rest }).countSlag (niRegion n) p.kind).fixed 79 (niRegion n)
    let s := s.when (n < 64 ∧ (p.kind = .response ∨ p.kind = .dataResponse)) fun t => t.answerOver (fromPort (2 * n + p.half)) p.param
    let s := s.when (p.kind = .ioPosted) fun t => t.accessDone fun a => decide (a.pt < 4 ∧ a.tag = p.param ∧ a.target % 512 / 2 = n)
    match slagReply n p with
    | some q => if q.dst = n then s.loopBack n (s.withTc n q) else s.enqueue n (s.withTc n q)
    | none => s

/-- An NI whose triggers are gone and whose sink stage has answered everything accepts packets again (R164). -/
def unquench (n : Nat) (s : State) : State := s.release n

/-- An Unquench notice arrives: this source resumes injecting to the target (R164). -/
def unquenchNoticeArrival (n target : Nat) (s : State) : State :=
  let x := s.niAt n
  s.setNi n { x with notices := x.notices.filter (·.1 ≠ target) }

/-! ### Crossings (R20) -/

/-- What a re-check does to a flit's packet (R20, R156): a corrected error is counted; an uncorrectable one outside the header group answers a request with CROSSING_ECC, poisons
response data, and leaves a response without data unchanged; with the header group, or in a packet that none of these names, the packet is discarded with no answer. -/
def State.reCheck (s : State) (rt : Nat) (f : Flit) (ecc : Nat) (injected : Bool) : State :=
  let p := f.pkt
  let ev := 32 + 32 * (rt / 16)
  match ecc with
  | 0 => s
  | 1 => s.cause (ev + 2) 0 p.src injected
  | _ =>
    let header := decide (3 ≤ ecc) && decide (f.idx = 0)
    let s := s.cause (ev + 3) 1 (if header then 256 else p.src) injected
    if p.void then s
    else if header then s.voidPkt p
    else if isRequest p.kind then
      match slagReply rt (slagged 7 p) with
      | some q => (s.voidPkt p).enqueue rt q
      | none => s.voidPkt p
    else match p.kind with
      | .dataResponse => s.mapFlits p fun q => { q with poison := true }
      | .response | .snpDead => s
      | _ => s.voidPkt p

/-- The oldest flit at a crossing that its far side has room for is re-checked and goes on (R18, R20): into input `i` of a router, or for 7 to the router's block. On a link between
regions a corrected flit counts at the input too (R171). -/
def crossingFlitArrival (rt i ecc : Nat) (injected : Bool) (s : State) : State :=
  match (s.crossing rt i).find? fun f => i = 7 || roomAt (s.rtrState rt) i f.pkt with
  | none => s
  | some f =>
    let s := if ecc = 1 ∧ i < 4 then s.count ANV_RTR_ERR.ECC_CORR rt else s
    let s := s.reCheck rt f ecc injected
    match (s.crossing rt i).find? fun g => g.idx = f.idx && barePkt g.pkt = barePkt f.pkt with
    | none => s
    | some g =>
      let s := s.setCrossing rt i ((s.crossing rt i).erase g)
      if i = 7 then (if g.pkt.len ≤ g.idx + 1 then s.ejects g else s)
      else
        let x := s.rtrState rt
        s.setRtr rt { x with flits := x.flits ++ [g] }

/-! ### Mirroring (R166 to R168) -/

/-- A mirror session. -/
def State.mirror (s : State) (m : Nat) : MirState := Tbl.rd (fun _ => MirState.idle) s.mir m

/-- A mirror session replaced. -/
def State.setMirror (s : State) (m : Nat) (x : MirState) : State :=
  { s with mir := Tbl.wr (fun _ => MirState.idle) s.mir m x }

/-- A message is one the session copies (R166). -/
def State.mirrored (s : State) (m port : Nat) (egress : Bool) (flow : Nat) : Bool :=
  s.flag ANV_MIR_CFG.EN m && (if egress then s.flag ANV_MIR_CFG.EGR m else s.flag ANV_MIR_CFG.ING m) &&
    (s.get ANV_MIR_CFG.SRC m = if s.flag ANV_MIR_CFG.BY_FLOW m then flow else port)

/-- The length a copy is cut to (R171). -/
def State.truncTo (s : State) (m len : Nat) : Nat :=
  match s.get ANV_MIR_CFG.TRUNC m with
  | 1 => min len 64
  | 2 => min len 128
  | 3 => min len 256
  | _ => len

/-- A session copies a matching message, one in SAMPLE, if the source NI holds allowance for the analysis egress; otherwise, or with that egress quenched, the copy is dropped and
counted (R165 to R167). A copy travels to the analysis port in class 7 with MIRROR set, in its port's stream (log entry 79). The original is not touched. -/
def mirrorCopy (m port : Nat) (egress poison : Bool) (flow : Nat) (msg : List Byte) (s : State) : State :=
  if !s.mirrored m port egress flow then s
  else
    let x := s.mirror m
    let sample := s.get ANV_MIR_CFG.SAMPLE m
    if x.skipped + 1 < sample then s.setMirror m { x with skipped := x.skipped + 1 }
    else
      let data := msg.take (s.truncTo m msg.length)
      let e := s.get ANV_MIR_CFG.DST_PORT m / 2
      let n := port / 2
      let seq := x.seq
      let s := s.set ANV_MIR_STAT.SEQ m (seq + 1)
      let p : Pkt := { Pkt.blank with
        dst := e, src := n, stream := streamId (.io port 0 0), cls := 7, len := flitsOf (min 624 data.length), kind := .ioPosted, mirror := true, poison := poison,
        param := m + 16 * (seq % 2 ^ 28), half := s.get ANV_MIR_CFG.DST_PORT m % 2, srcHalf := port % 2, body := data.take 624 }
      if (s.niAt n).notices.any (·.1 = e) || s.quenched e || !s.hasCredit n p then
        (s.setMirror m { x with seq := (seq + 1) % 2 ^ 32, skipped := 0, dropped := true }).count ANV_MIR_STAT.DROP m
      else
        let r : MirRec := ⟨seq, s.time, port, egress, poison, x.dropped, msg.length, data⟩
        (s.setMirror m { seq := (seq + 1) % 2 ^ 32, skipped := 0, dropped := false, queue := x.queue ++ [r] }).inject n p

/-- The record of a copy (R168): a 32-byte header, the captured bytes, zeros to a multiple of 64 bytes. -/
def mirrorRecord (m : Nat) (r : MirRec) : List Byte :=
  let flags := bit r.egress + 2 * bit (decide (r.data.length < r.orig)) + 4 * bit r.poison + 8 * bit r.dropped
  let head := toBytes 12 r.time ++ toBytes 4 r.seq ++ toBytes 2 r.orig ++ toBytes 1 r.port ++ toBytes 1 flags ++
    toBytes 2 r.data.length ++ toBytes 1 m ++ List.replicate 9 0
  let body := head ++ r.data
  body ++ List.replicate ((64 - body.length % 64) % 64) 0

/-- The analysis port writes the oldest copy of a session that has arrived into the partner's ring; one that would cross the end starts at BASE (R168). -/
def mirrorRecordWrite (m : Nat) (s : State) : State :=
  let x := s.mirror m
  let e := s.get ANV_MIR_CFG.DST_PORT m / 2
  match (s.niAt e).rx.find? fun p => p.mirror && decide (p.param % 16 = m) with
  | none => s
  | some p =>
    let s := s.leaves e p
    match x.queue.dropWhile fun r => r.seq % 2 ^ 28 ≠ p.param / 16 with
    | [] => s
    | r :: rest =>
      let bytes := mirrorRecord m { r with poison := p.poison }
      let size := 2 ^ s.get ANV_MIR_RING_SZ.LOG2 m
      let off := s.get ANV_MIR_RING_SZ.WOFF m
      let off := if size < off + bytes.length then 0 else off
      let s := s.setMirror m { x with queue := rest }
      let s := s.set ANV_MIR_RING_SZ.WOFF m (if off + bytes.length = size then 0 else off + bytes.length)
      s.emit (.mirrorWrite (s.get ANV_MIR_CFG.DST_PORT m) (s.get ANV_MIR_RING.BASE m * 4096 + off) bytes)

/-- ANV_MIR_CFG written (R171): EN reads 0 with a destination that is not in analysis role, and a session that starts has its write offset cleared. -/
def mirrorEnWrite (m : Nat) (value : Word) (s : State) : State :=
  let was := s.flag ANV_MIR_CFG.EN m
  let dst := value.field ANV_MIR_CFG.DST_PORT.hi ANV_MIR_CFG.DST_PORT.lo
  let ok := s.portExists dst && decide (s.role dst = 3)
  let on := decide (value.field 0 0 = 1) && ok
  let s := s.each [0] fun _ t => [ANV_MIR_CFG.ING, ANV_MIR_CFG.EGR, ANV_MIR_CFG.BY_FLOW, ANV_MIR_CFG.SRC, ANV_MIR_CFG.DST_PORT,
    ANV_MIR_CFG.TRUNC, ANV_MIR_CFG.SAMPLE].foldl (fun u F => u.set F m (value.field F.hi F.lo)) t
  let s := s.set ANV_MIR_CFG.EN m (bit on)
  if on && !was then s.set ANV_MIR_RING_SZ.WOFF m 0 else s

/-! ### Probes (R169) -/

/-- The header fields a probe compares, laid out as ANV_PRB_MATCH. -/
def probeWord (p : Pkt) : Nat :=
  p.dst % 256 + p.src % 256 * 2 ^ 8 + p.stream % 2 ^ 16 * 2 ^ 16 + p.cls % 16 * 2 ^ 32 + p.opc % 256 * 2 ^ 36 +
    p.slag % 16 * 2 ^ 44 + bit p.mirror * 2 ^ 48 + bit p.poison * 2 ^ 49

/-- The probe of a router. -/
def State.probe (s : State) (n : Nat) : PrbState := Tbl.rd (fun _ => ⟨0, 0, false⟩) s.prb n

/-- The probe of a router replaced. -/
def State.setProbe (s : State) (n : Nat) (x : PrbState) : State :=
  { s with prb := Tbl.wr (fun _ => ⟨0, 0, false⟩) s.prb n x }

/-- A packet's first flit passes the probed input (R169): a match under the mask is counted, may set TRACE, and at THRESH raises event 32 + 32r + 11 once. -/
def probeMatch (rt input : Nat) (p : Pkt) (s : State) : State :=
  let mask := (s.reg .ANV_PRB_MASK rt).toNat
  let hit := s.flag ANV_PRB_CTL.EN rt && decide (s.get ANV_PRB_CTL.PORT rt = input) &&
    decide (Nat.land (probeWord p) mask = Nat.land (s.reg .ANV_PRB_MATCH rt).toNat mask)
  if !hit then s
  else
    let x := s.probe rt
    let y : PrbState := { x with pkts := satAdd 48 x.pkts 1, flits := satAdd 48 x.flits p.len }
    let s := s.setProbe rt y
    let s := if s.flag ANV_PRB_CTL.TRACE_EN rt then
        (s.mapFlits p fun q => { q with trace := true }).noteTrace rt 0 input (outputOf p) { p with trace := true } none
      else s
    if s.flag ANV_PRB_CTL.EVT_EN rt ∧ !x.fired ∧ s.get ANV_PRB_CTL.THRESH rt ≤ y.pkts then
      (s.setProbe rt { y with fired := true }).notice (32 + 32 * (rt / 16) + 11) 0 rt
    else s

/-- SNAP (R169): the running counts go into the result registers, SEQ + 1 in both; counting continues. -/
def probeSnap (rt : Nat) (s : State) : State :=
  let x := s.probe rt
  let s := (s.set ANV_PRB_RES.COUNT rt x.pkts).resultDone ANV_PRB_RES.SEQ ANV_PRB_RES.VALID rt
  (s.set ANV_PRB_RES2.COUNT rt x.flits).resultDone ANV_PRB_RES2.SEQ ANV_PRB_RES2.VALID rt

/-! ### Meanings -/

/-- CROSSING_FLIT_ARRIVAL: R13, R18, R20, R156. -/
def execCrossingFlitArrival (rt : Nat) (input : Nat) (ecc : Nat) (injected : Bool) (s : State) : Host.Outcome State Fault Refusal :=
  run (decide (rt < 64) && decide (input < 8)) (crossingFlitArrival rt input ecc injected s)

/-- PACKET_INJECT: R143, R145, R146, R148, R170, R289. -/
def execPacketInject (n : Nat) (src : StreamSrc) (p : Pkt) (s : State) : Host.Outcome State Fault Refusal :=
  run (decide (n < 134)) (packetInject n src p s)

/-- ROUTE_ENTRY_WRITE: R16, R143, R144, R147, R210. -/
def execRouteEntryWrite (n : Nat) (d : Nat) (a : Nat) (value : Word) (s : State) : Host.Outcome State Fault Refusal :=
  run (decide (n < 134) && decide (d < 64) && decide (a < 4)) (routeEntryWrite n d a value s)

/-- ROUTE_CHANGE_RESUME: R147. -/
def execRouteChangeResume (n : Nat) (d : Nat) (s : State) : Host.Outcome State Fault Refusal :=
  run (decide (n < 134) && decide (d < 64)) (routeChangeResume n d s)

/-- FLIT_SWITCH: R139, R141, R149, R150, R151, R223. -/
def execFlitSwitch (rt : Nat) (out : Nat) (ecc : Nat) (wire : Nat) (s : State) : Host.Outcome State Fault Refusal :=
  run (decide (rt < 64) && decide (out < 7)) (flitSwitch rt out ecc wire s)

/-- LINK_WIRE_SPARE: R139, R170, R393. -/
def execLinkWireSpare (rt : Nat) (d : Nat) (wire : Nat) (s : State) : Host.Outcome State Fault Refusal :=
  run (decide (rt < 64) && decide (d < 4)) (linkWireSpare rt d wire s)

/-- VOQ_INJECT: R152, R153, R155. -/
def execVoqInject (n : Nat) (s : State) : Host.Outcome State Fault Refusal :=
  run (decide (n < 134)) (voqInject n s)

/-- CREDIT_REQUEST: R153. -/
def execCreditRequest (n : Nat) (e : Nat) (s : State) : Host.Outcome State Fault Refusal :=
  run (decide (n < 134) && decide (e < 694)) (creditRequest n e s)

/-- CREDIT_GRANT: R153, R182. -/
def execCreditGrant (e : Nat) (s : State) : Host.Outcome State Fault Refusal :=
  run (decide (e < 694)) (creditGrant e s)

/-- CREDIT_RETURN: R154, R155, R182. -/
def execCreditReturn (e : Nat) (n : Nat) (s : State) : Host.Outcome State Fault Refusal :=
  run (decide (e < 694) && decide (n < 134)) (creditReturn e n s)

/-- SHARED_GRANT_RELEASE: R154. -/
def execSharedGrantRelease (n : Nat) (e : Nat) (s : State) : Host.Outcome State Fault Refusal :=
  run (decide (n < 134) && decide (e < 694)) (sharedGrantRelease n e s)

/-- QUENCH_TRIGGER: R161, R162, R165, R170. -/
def execQuenchTrigger (n : Nat) (code : Nat) (s : State) : Host.Outcome State Fault Refusal :=
  run (decide (n < 134)) (quenchTrigger n code s)

/-- QUENCH_NOTICE_ARRIVAL: R162, R165. -/
def execQuenchNoticeArrival (n : Nat) (target : Nat) (code : Nat) (s : State) : Host.Outcome State Fault Refusal :=
  run (decide (n < 134) && decide (target < 134)) (quenchNoticeArrival n target code s)

/-- QUENCH_SET: R161, R165, R171. -/
def execQuenchSet (r : Nat) (n : Nat) (s : State) : Host.Outcome State Fault Refusal :=
  run (decide (r < 4)) (quenchSet r n s)

/-- QUENCH_CLEAR: R164, R165, R171. -/
def execQuenchClear (r : Nat) (n : Nat) (s : State) : Host.Outcome State Fault Refusal :=
  run (decide (r < 4)) (quenchClear r n s)

/-- SLAG_ANSWER: R159, R163. -/
def execSlagAnswer (n : Nat) (s : State) : Host.Outcome State Fault Refusal :=
  run (decide (n < 134)) (slagAnswer n s)

/-- UNQUENCH: R164, R170. -/
def execUnquench (n : Nat) (s : State) : Host.Outcome State Fault Refusal :=
  run (decide (n < 134)) (unquench n s)

/-- UNQUENCH_NOTICE_ARRIVAL: R164. -/
def execUnquenchNoticeArrival (n : Nat) (target : Nat) (s : State) : Host.Outcome State Fault Refusal :=
  run (decide (n < 134) && decide (target < 134)) (unquenchNoticeArrival n target s)

/-- MIRROR_COPY: R165, R166, R167. -/
def execMirrorCopy (m : Nat) (port : Nat) (egress : Bool) (poison : Bool) (flow : Nat) (msg : List Byte) (s : State) : Host.Outcome State Fault Refusal :=
  run (decide (m < 16) && decide (port < 128)) (mirrorCopy m port egress poison flow msg s)

/-- MIRROR_RECORD_WRITE: R168. -/
def execMirrorRecordWrite (m : Nat) (s : State) : Host.Outcome State Fault Refusal :=
  run (decide (m < 16)) (mirrorRecordWrite m s)

/-- PROBE_MATCH: R169, R170. -/
def execProbeMatch (rt : Nat) (input : Nat) (p : Pkt) (s : State) : Host.Outcome State Fault Refusal :=
  run (decide (rt < 64)) (probeMatch rt input p s)

/-- PROBE_SNAP: R169, R171. -/
def execProbeSnap (rt : Nat) (s : State) : Host.Outcome State Fault Refusal :=
  run (decide (rt < 64)) (probeSnap rt s)

/-- MIRROR_EN_WRITE: R171. -/
def execMirrorEnWrite (m : Nat) (value : Word) (s : State) : Host.Outcome State Fault Refusal :=
  run (decide (m < 16)) (mirrorEnWrite m value s)

end Sys2Proof.Machine
end

