-- ==== Sys2Proof/Machine/Sessions.lean ====
section
/-! DEFINITION. Management sessions, the owner and the event ring's delivery (R342 to R353, R358, R359). -/

namespace Sys2Proof.Machine

/-! ### Sessions and replies -/

/-- Session `n` is open. -/
def State.sesOpen (s : State) (n : Nat) : Bool := s.flag MGT_SESS.OPEN n

/-- Session `n` is the owner: it holds an unexpired lease. -/
def State.owns (s : State) (n : Nat) : Bool := s.flag MGT_OWN_STAT.HELD 0 && decide (s.get MGT_OWN_STAT.OWNER 0 = n)

/-- The chip answers on a path: never in RESET (R374), over I3C only in SAFE (R368). -/
def State.reachable (s : State) (path : Nat) : Bool :=
  s.phase ≠ .reset && (s.phase ≠ .safe || path = 1)

/-- A refusal under R353: NOT_OWNER, counted in the session's MGT_SESS.NOT_OWNER, with nothing changed. -/
def State.notOwner (s : State) (n type tag : Nat) : State := (s.count MGT_SESS.NOT_OWNER n).reply n type tag .notOwner

/-- A message of session `n` (R343, R345, R347, R352, R353): none on a session that is not open; one that repeats the last tag over UDP is answered with the kept
response; an owner-only one of another session is refused; any other is performed. -/
def State.message (s : State) (n type tag : Nat) (ownerOnly : Bool) (f : State → State) : State :=
  let s := s.tallyChip 1
  if !s.reachable (s.get MGT_SESS.PATH n) then s
  else if !s.sesOpen n then s.emit (.weusk ⟨type, 0xFF, .noSession, tag, freeParam type tag, []⟩)
  else
    match (s.sesAt n).last with
    | some (t, o) =>
      if s.get MGT_SESS.PATH n = 2 ∧ t = tag then s.emit o
      else if ownerOnly && !s.owns n then s.notOwner n type tag
      else f s
    | none => if ownerOnly && !s.owns n then s.notOwner n type tag else f s

/-! ### The owner -/

/-- No session owns the chip. -/
def State.noOwner (s : State) : State :=
  let s := s.set MGT_SESS.OWNER (s.get MGT_OWN_STAT.OWNER 0) 0
  let s := s.set MGT_OWN_STAT.HELD 0 0
  let s := s.set MGT_OWN_STAT.PRIO 0 0
  let s := s.set MGT_OWN_STAT.LEASE_LEFT 0 0
  s.set MGT_OWN_CLAIM.CLAIM 0 0

/-- A fresh lease of 2 s. -/
def State.lease (s : State) : State := { s.set MGT_OWN_STAT.LEASE_LEFT 0 2000 with leaseAt := s.clk }

/-- Session `n` becomes the owner with a fresh lease; the event records that wait go to it from the oldest (R359). -/
def State.becomeOwner (s : State) (n : Nat) : State :=
  let s := s.set MGT_SESS.OWNER (s.get MGT_OWN_STAT.OWNER 0) 0
  let s := s.set MGT_OWN_STAT.OWNER 0 n
  let s := s.set MGT_OWN_STAT.HELD 0 1
  let s := s.set MGT_SESS.OWNER n 1
  { s.lease with evtSent := 0 }

/-- A session closes (R343, R349): its claim is withdrawn, what it held is lost, and the owner's ownership ends. -/
def State.closeSes (s : State) (n : Nat) : State :=
  let s := if s.owns n then s.noOwner else s
  let s := s.set MGT_SESS.OPEN n 0
  let s := s.set MGT_SESS.OWNER n 0
  { s.setSes n Session.idle with claims := s.claims.filter (·.1 ≠ n), memRuns := s.memRuns.filter (·.ses ≠ n) }

/-! ### Commands -/

/-- The path instance exists (R342): the mailbox CCI of an upstream port, one of two I3C buses, the management Ethernet, or a chip over SFL. -/
def State.pathExists (s : State) (path place : Nat) : Bool :=
  match path with
  | 0 => decide (place < 128) && s.portExists place && s.role place = 0
  | 1 => decide (place < 2)
  | 2 => true
  | 3 => decide (place < 256)
  | _ => false

/-- OPEN (R343): the lowest free session number, or SESSIONS_FULL; a path instance that has a session keeps it. -/
def openSession (path place peer tag : Nat) (s : State) : State :=
  if !s.reachable path || !s.pathExists path place then s
  else
    let mine := fun n => s.sesOpen n && decide (s.get MGT_SESS.PATH n = path % 4) && decide (s.get MGT_SESS.WHERE n = (if path = 2 then 0 else place % 256)) &&
      (decide (path ≤ 1) || decide ((s.sesAt n).peer = peer))
    match (List.range 8).find? mine with
    | some n => s.reply n 0x01 tag .ok
    | none =>
      match (List.range 8).find? fun n => !s.sesOpen n with
      | none => s.emit (.weusk ⟨0x01, 0xFF, .sessionsFull, tag, freeParam 0x01 tag, []⟩)
      | some n =>
        let s := s.set MGT_SESS.OPEN n 1
        let s := s.set MGT_SESS.PATH n path
        let s := s.set MGT_SESS.WHERE n (if path = 2 then 0 else place)
        (s.setSes n { Session.idle with peer := peer }).reply n 0x01 tag .ok

/-- CLOSE (R343): answered, and the session is closed. -/
def closeSession (ses tag : Nat) (s : State) : State :=
  s.message ses 0x02 tag false fun s => (s.reply ses 0x02 tag .ok).closeSes ses

/-- No message for IDLE_S (R343); IDLE_S = 0 never closes. -/
def sessionIdleTimeout (ses : Nat) (s : State) : State :=
  if s.sesOpen ses ∧ s.get MGT_SESS_CFG.IDLE_S 0 ≠ 0 then s.closeSes ses else s

/-- The session's path is lost (R343). -/
def sessionPathLoss (ses : Nat) (s : State) : State := if s.sesOpen ses then s.closeSes ses else s

/-- CLAIM (R348, R349): NOT_READY without the TRNG; OWNER_HELD while another session's lease holds or for a second claim in an election; the first accepted one opens the
10 ms election. Its value is the priority over a 56-bit nonce of the TRNG. -/
def claim (ses tag prio : Nat) (s : State) : State :=
  s.message ses 0x05 tag false fun s =>
    if !s.flag KEY_TRNG_STAT.READY 0 then s.reply ses 0x05 tag .notReady
    else if s.flag MGT_OWN_STAT.HELD 0 then s.reply ses 0x05 tag (if s.owns ses then .ok else .ownerHeld)
    else if s.flag MGT_OWN_STAT.ELECT 0 && s.claims.any (·.1 = ses) then s.reply ses 0x05 tag .ownerHeld
    else
      let value := prio % 256 * 2 ^ 56 + (Config.trngOut s.freeCtr).toNat % 2 ^ 56
      let old := if s.flag MGT_OWN_STAT.ELECT 0 then s.claims else []
      { (s.set MGT_OWN_STAT.ELECT 0 1).fresh with claims := old ++ [(ses, value, tag)] }

/-- The winning claim (R349): the highest value, the lower session number of two equal ones. -/
def winner (l : List (Nat × Nat × Nat)) : Option (Nat × Nat × Nat) :=
  l.foldl (fun b c =>
    match b with
    | none => some c
    | some w => if w.2.1 < c.2.1 ∨ (w.2.1 = c.2.1 ∧ c.1 < w.1) then some c else some w) none

/-- The election's window closes (R349): the winner owns the chip and is answered OK, every other claimer ELECTION_LOST. -/
def electionWindowClose (s : State) : State :=
  if !s.flag MGT_OWN_STAT.ELECT 0 then s
  else
    let l := s.claims
    let s := { s.set MGT_OWN_STAT.ELECT 0 0 with claims := [] }
    match winner l with
    | none => s
    | some w =>
      let s := (s.becomeOwner w.1).count MGT_OWN_STAT.ELECTIONS 0
      let s := s.set MGT_OWN_STAT.PRIO 0 (w.2.1 / 2 ^ 56)
      let s := s.set MGT_OWN_CLAIM.CLAIM 0 w.2.1
      l.foldl (fun t c => t.reply c.1 0x05 c.2.2 (if c.1 = w.1 then .ok else .electionLost)) s

/-- RENEW (R350): the lease runs for 2 s again. -/
def renew (ses tag : Nat) (s : State) : State :=
  s.message ses 0x06 tag true fun s => s.lease.reply ses 0x06 tag .ok

/-- The lease reaches 2 s (R350): no session owns the chip. -/
def ownerLeaseLapse (s : State) : State := if s.flag MGT_OWN_STAT.HELD 0 then s.noOwner else s

/-- OWN_HANDOVER (R351): an open session that is not the owner becomes it in the same step and receives an unsolicited CLAIM response; else NO_SESSION. -/
def ownHandover (ses tag successor : Nat) (s : State) : State :=
  s.message ses 0x07 tag true fun s =>
    let k := successor % 8
    if s.sesOpen k ∧ k ≠ ses then
      let s := (s.becomeOwner k).reply ses 0x07 tag .ok
      s.emit (.weusk ⟨0x05, k, .ok, freeTag, freeParam 0x05 freeTag, []⟩)
    else s.reply ses 0x07 tag .noSession

/-- RELEASE (R351): ownership ends at once. -/
def releaseOwnership (ses tag : Nat) (s : State) : State :=
  s.message ses 0x08 tag true fun s => s.noOwner.reply ses 0x08 tag .ok

/-- An event record is queued, or counted in OVF (R358). -/
def eventQueue (ev cls detail : Nat) (s : State) : State := s.queueEvent ev cls detail

/-- The 32 bytes of the record whose SEQ is `seq` (R358, R360). -/
def State.record (s : State) (seq : Nat) : List Byte :=
  (List.range 4).flatMap fun k => toBytes 8 (s.reg .MGT_EVT_REC (4 * (seq % 1024) + k)).toNat

/-- The SEQ of the oldest record queued and not acknowledged. -/
def State.oldestSeq (s : State) : Nat :=
  (s.get MGT_EVT_STAT.NEXT_SEQ 0 + 2 ^ 32 - s.get MGT_EVT_STAT.COUNT 0) % 2 ^ 32

/-- An EVENT message (R345, R359): up to 64 records not yet sent to the owner, in SEQ order; with no owner they wait. -/
def eventSend (s : State) : State :=
  let k := min 64 (s.get MGT_EVT_STAT.COUNT 0 - s.evtSent)
  if s.flag MGT_OWN_STAT.HELD 0 ∧ 0 < k then
    let payload := (List.range k).flatMap fun i => s.record ((s.oldestSeq + s.evtSent + i) % 2 ^ 32)
    { s.emit (.weusk ⟨0x09, s.get MGT_OWN_STAT.OWNER 0, .ok, freeTag, freeParam 0x09 freeTag, payload⟩) with evtSent := s.evtSent + k }
  else s

/-- Every record up to a SEQ is freed, when that SEQ is one of those queued and not acknowledged, counted from the oldest (R359). -/
def State.ackThrough (s : State) (seq : Nat) : State :=
  let pos := (seq % 2 ^ 32 + 2 ^ 32 - s.oldestSeq) % 2 ^ 32
  let n := s.get MGT_EVT_STAT.COUNT 0
  if pos < n then { s.set MGT_EVT_STAT.COUNT 0 (n - (pos + 1)) with evtSent := s.evtSent - (pos + 1) } else s

/-- EVENT_ACK (R359): always answered OK. -/
def eventAck (ses tag seq : Nat) (s : State) : State :=
  s.message ses 0x0A tag true fun s => (s.ackThrough seq).reply ses 0x0A tag .ok

/-- A write of MGT_EVT_ACK (R359). -/
def evtAckWrite (value : Word) (s : State) : State := s.ackThrough (value.field 31 0)

/-- Records not acknowledged within 100 ms are sent again (R359). -/
def eventResendTimeout (s : State) : State := eventSend { s with evtSent := 0 }

/-- A message type the device performs (R304, R345). -/
def knownType (t : Nat) : Bool := (decide (1 ≤ t) && decide (t ≤ 0x0E) && t ≠ 0x09 && t ≠ 0x0B) || (decide (0x20 ≤ t) && decide (t ≤ 0x2B))

/-- A frame that is not performed (R344 to R346): BAD_VERSION, BAD_LENGTH, then UNKNOWN_TYPE for a type not listed; a well-formed frame of a listed type is not this event. -/
def unknownTypeMessage (ses tag ver type length bytes : Nat) (s : State) : State :=
  s.message ses type tag false fun s =>
    if ver ≠ 1 then s.reply ses type tag .badVersion
    else if length ≠ bytes ∨ 4080 < length then s.reply ses type tag .badLength
    else if knownType type then s
    else s.reply ses type tag .unknownType

/-- A UDP request that repeats the last TAG (R347). -/
def udpDuplicateRequest (ses tag : Nat) (s : State) : State :=
  match (s.sesAt ses).last with
  | some (t, o) => if s.sesOpen ses ∧ s.get MGT_SESS.PATH ses = 2 ∧ t = tag then s.emit o else s
  | none => s

/-! ### Meanings -/

/-- OPEN: R342, R343, R344, R345. -/
def execOpenSession (path : Nat) (place : Nat) (peer : Nat) (tag : Nat) (s : State) : Host.Outcome State Fault Refusal :=
  .next (openSession path place peer tag s)

/-- CLOSE: R343, R345, R349, R352. -/
def execCloseSession (ses : Nat) (tag : Nat) (s : State) : Host.Outcome State Fault Refusal :=
  run (decide (ses < 8)) (closeSession ses tag s)

/-- SESSION_IDLE_TIMEOUT: R343. -/
def execSessionIdleTimeout (ses : Nat) (s : State) : Host.Outcome State Fault Refusal :=
  run (decide (ses < 8)) (sessionIdleTimeout ses s)

/-- SESSION_PATH_LOSS: R343. -/
def execSessionPathLoss (ses : Nat) (s : State) : Host.Outcome State Fault Refusal :=
  run (decide (ses < 8)) (sessionPathLoss ses s)

/-- CLAIM: R338, R345, R348, R349, R350. -/
def execClaim (ses : Nat) (tag : Nat) (prio : Nat) (s : State) : Host.Outcome State Fault Refusal :=
  run (decide (ses < 8)) (claim ses tag prio s)

/-- ELECTION_WINDOW_CLOSE: R349, R359. -/
def execElectionWindowClose (s : State) : Host.Outcome State Fault Refusal :=
  .next (electionWindowClose s)

/-- RENEW: R345, R350. -/
def execRenew (ses : Nat) (tag : Nat) (s : State) : Host.Outcome State Fault Refusal :=
  run (decide (ses < 8)) (renew ses tag s)

/-- OWNER_LEASE_LAPSE: R350, R352. -/
def execOwnerLeaseLapse (s : State) : Host.Outcome State Fault Refusal :=
  .next (ownerLeaseLapse s)

/-- OWN_HANDOVER: R345, R351. -/
def execOwnHandover (ses : Nat) (tag : Nat) (successor : Nat) (s : State) : Host.Outcome State Fault Refusal :=
  run (decide (ses < 8)) (ownHandover ses tag successor s)

/-- RELEASE: R345, R351. -/
def execReleaseOwnership (ses : Nat) (tag : Nat) (s : State) : Host.Outcome State Fault Refusal :=
  run (decide (ses < 8)) (releaseOwnership ses tag s)

/-- EVENT_QUEUE: R358, R380, R381. -/
def execEventQueue (ev : Nat) (cls : Nat) (detail : Nat) (s : State) : Host.Outcome State Fault Refusal :=
  run (decide (ev < 512)) (eventQueue ev cls detail s)

/-- EVENT: R345, R359. -/
def execEventSend (s : State) : Host.Outcome State Fault Refusal :=
  .next (eventSend s)

/-- EVENT_ACK: R345, R359. -/
def execEventAck (ses : Nat) (tag : Nat) (seq : Nat) (s : State) : Host.Outcome State Fault Refusal :=
  run (decide (ses < 8)) (eventAck ses tag seq s)

/-- EVT_ACK_WRITE: R359, R360. -/
def execEvtAckWrite (value : Word) (s : State) : Host.Outcome State Fault Refusal :=
  .next (evtAckWrite value s)

/-- EVENT_RESEND_TIMEOUT: R359. -/
def execEventResendTimeout (s : State) : Host.Outcome State Fault Refusal :=
  .next (eventResendTimeout s)

/-- UNKNOWN_TYPE_MESSAGE: R304, R344, R345. -/
def execUnknownTypeMessage (ses : Nat) (tag : Nat) (ver : Nat) (type : Nat) (length : Nat) (bytes : Nat) (s : State) : Host.Outcome State Fault Refusal :=
  run (decide (ses < 8)) (unknownTypeMessage ses tag ver type length bytes s)

/-- UDP_DUPLICATE_REQUEST: R347. -/
def execUdpDuplicateRequest (ses : Nat) (tag : Nat) (s : State) : Host.Outcome State Fault Refusal :=
  run (decide (ses < 8)) (udpDuplicateRequest ses tag s)

end Sys2Proof.Machine
end

