-- ==== Sys2Proof/Machine/SflLine.lean ====
section
/-! DEFINITION. A fabric lane's line (R90 to R99): 66-bit blocks, striping, scrambler, alignment markers, RS(544,514) and PAM4, as both directions run them. -/

namespace Sys2Proof.Machine

/-! ### Lanes of a fabric port -/

/-- The lanes of a fabric port: 8 or 16 (R40). -/
def State.fabricWidth (s : State) (b : Nat) : Nat := if s.get PRT_CFG.MODE b = 3 then 16 else 8

/-- The lane circuits of a fabric port, 9 per block, counted over the chip. -/
def State.portCircuits (s : State) (b : Nat) : List Nat :=
  (List.range (9 * (s.fabricWidth b / 8))).map fun c => 9 * b + c

/-- The circuit that serves logical lane l (R36, R37): its own, or LC8 of its block once the lane is handed to the spare. -/
def State.circuitOf (s : State) (b l : Nat) : Nat :=
  let d := b + l / 8
  if s.flag PRT_LANE_MAP.SPARE_USED d ∧ s.get PRT_LANE_MAP.SPARE_KIND d = 1 ∧ s.get PRT_LANE_MAP.SPARE_LANE d = l % 8 then 9 * d + 8
  else 9 * d + l % 8

/-- The circuit on which logical lane l is received: the one locked to markers that bear its ID, whichever pair it is (R94). -/
def State.rxCircuit (s : State) (b l : Nat) : Option Nat :=
  (s.portCircuits b).find? fun c => s.flag SFL_LANE_STAT.LOCK c && decide ((s.sflLane (c / 9) (c % 9)).home = l)

/-- The logical lanes received under lock. -/
def State.lockedLogical (s : State) (b : Nat) : List Nat :=
  (List.range (s.fabricWidth b)).filter fun l => (s.rxCircuit b l).isSome

/-- A set of lanes as a mask. -/
def laneMask (l : List Nat) : Nat := (l.map fun i => 2 ^ i).sum

/-- The lanes of a mask. -/
def maskLanes (m : Nat) : List Nat := (List.range 16).filter (bitOf m)

/-! ### PAM4 (R94) -/

/-- The level of two bits, the first sent the more significant: Gray code. -/
def pamLevel (first second : Bool) : Nat :=
  match first, second with
  | false, false => 0
  | false, true => 1
  | true, true => 2
  | true, false => 3

/-- The levels of a bit string, two bits each. -/
def pamLevels : List Bool → List Nat
  | a :: b :: rest => pamLevel a b :: pamLevels rest
  | _ => []

/-- The two bits that a received level means; on an inverted pair level n arrives as 3 − n. -/
def pamBits (inverted : Bool) (level : Nat) : List Bool :=
  match (if inverted then 3 - level else level) with
  | 0 => [false, false]
  | 1 => [false, true]
  | 2 => [true, true]
  | _ => [true, false]

/-- A number from bits, the first the least significant. -/
def ofBits : List Bool → Nat
  | [] => 0
  | b :: bs => bit b + 2 * ofBits bs

/-- The low n bits of a number, the least significant first. -/
def toBits : Nat → Nat → List Bool
  | 0, _ => []
  | n + 1, x => decide (x % 2 = 1) :: toBits n (x / 2)

/-! ### RS(544,514) over GF(2¹⁰) (R98) -/

/-- Times α under x¹⁰ + x³ + 1. -/
def gfDouble (a : Nat) : Nat := if 512 ≤ a then Nat.xor (2 * a) 0x409 else 2 * a

/-- The product of an element and an n-bit one. -/
def gfMulN : Nat → Nat → Nat → Nat
  | 0, _, _ => 0
  | n + 1, a, b => Nat.xor (if b % 2 = 1 then a else 0) (gfMulN n (gfDouble a) (b / 2))

/-- The product of two elements. -/
def gfMul (a b : Nat) : Nat := gfMulN 10 a b

/-- A power of an element. -/
def gfPow (a : Nat) : Nat → Nat
  | 0 => 1
  | n + 1 => gfMul a (gfPow a n)

/-- The inverse of an element other than 0: a to the power 2¹⁰ − 2 = 1022, as the product of its powers of two. -/
def gfInv (a : Nat) : Nat :=
  let sq := fun (x : Nat) => gfMul x x
  (List.range 9).foldl (fun (p : Nat × Nat) _ => (sq p.1, gfMul p.2 (sq p.1))) (a, 1) |>.2

/-- The generator polynomial's coefficients below the leading 1, highest first: the product of x − αⁱ for i = 0 to 29. -/
def rsGen : List Nat :=
  ((List.range 30).foldl (fun p i => List.zipWith Nat.xor (p ++ [0]) (0 :: p.map (gfMul (gfPow 2 i)))) [1]).drop 1

/-- The running parity after one more data symbol. -/
def rsStep (par : List Nat) (d : Nat) : List Nat :=
  let fb := Nat.xor d (par.headD 0)
  List.zipWith (fun p g => Nat.xor p (gfMul fb g)) (par.drop 1 ++ [0]) rsGen

/-- The 30 parity symbols of a codeword's data symbols; leading zero symbols of a shortened one change nothing. -/
def rsParity (data : List Nat) : List Nat := data.foldl rsStep (List.replicate 30 0)

/-- A polynomial at a point, its highest coefficient first. -/
def polyAt (p : List Nat) (x : Nat) : Nat := p.foldl (fun acc c => Nat.xor (gfMul acc x) c) 0

/-- The 30 syndromes of a received word. -/
def rsSyndromes (word : List Nat) : List Nat := (List.range 30).map fun i => polyAt word (gfPow 2 i)

/-- Berlekamp and Massey's search for the error locator, lowest coefficient first: the locator, the one before its last change of length, its length, the steps since
that change, and the discrepancy there. -/
structure RsSearch where
  c : List Nat
  b : List Nat
  len : Nat
  gap : Nat
  disc : Nat

/-- One step of the search, at syndrome n. -/
def RsSearch.step (syn : List Nat) (x : RsSearch) (n : Nat) : RsSearch :=
  let d := (List.range (x.len + 1)).foldl (fun acc i => Nat.xor acc (gfMul (x.c.getD i 0) (syn.getD (n - i) 0))) 0
  if d = 0 then { x with gap := x.gap + 1 }
  else
    let f := gfMul d (gfInv x.disc)
    let shifted := List.replicate x.gap 0 ++ x.b.map (gfMul f)
    let c := (List.range (max x.c.length shifted.length)).map fun i => Nat.xor (x.c.getD i 0) (shifted.getD i 0)
    if 2 * x.len ≤ n then ⟨c, x.c, n + 1 - x.len, 1, d⟩ else { x with c := c, gap := x.gap + 1 }

/-- The decoder of a codeword of 544, or of 231, symbols (R98, R99): the corrected word and how many symbols it corrected, at most 15; none where it cannot correct. -/
def rsDecode (word : List Nat) : Option (List Nat × Nat) :=
  let syn := rsSyndromes word
  if syn.all (· = 0) then some (word, 0)
  else
    let x := (List.range 30).foldl (RsSearch.step syn) ⟨[1], [1], 0, 1, 1⟩
    let omega := (List.range 30).map fun n =>
      (List.range (n + 1)).foldl (fun acc i => Nat.xor acc (gfMul (x.c.getD i 0) (syn.getD (n - i) 0))) 0
    let deriv := (List.range x.c.length).map fun i => if i % 2 = 0 then x.c.getD (i + 1) 0 else 0
    let places := (List.range word.length).filter fun i => polyAt x.c.reverse (gfPow 2 (1023 - i)) = 0
    let fixed := places.foldl (fun w i =>
      let inv := gfPow 2 (1023 - i)
      let e := gfMul (gfPow 2 i) (gfMul (polyAt omega.reverse inv) (gfInv (polyAt deriv.reverse inv)))
      let j := word.length - 1 - i
      w.set j (Nat.xor (w.getD j 0) e)) word
    if places.length = x.len ∧ x.len ≤ 15 ∧ (rsSyndromes fixed).all (· = 0) then some (fixed, x.len) else none

/-- The data symbols of codeword n of a marker period: 514, and 201 in the shortened last one. -/
def cwData (n : Nat) : Nat := if n = 210 then 201 else 514

/-- The symbols that a lane's received levels mean, each least significant bit first. -/
def rxSymbols (inverted : Bool) (levels : List Nat) : List Nat :=
  (List.range (levels.length / 5)).map fun i => ofBits (((levels.drop (5 * i)).take 5).flatMap (pamBits inverted))

/-! ### Scrambler and blocks (R91, R92, R95) -/

/-- The scrambler's state after a marker with a lane ID. -/
def scrSeed (id : Nat) : Nat := 0x155555555555540 + id

/-- n payload bits scrambled or descrambled, least significant first, and the state after them. -/
def scramble : Nat → Nat → Nat → Nat × Nat
  | 0, s, _ => (0, s)
  | n + 1, s, p =>
    let k := (s / 2 ^ 57 + s / 2 ^ 38) % 2
    let r := scramble n ((2 * s + k) % 2 ^ 58) (p / 2)
    ((p + k) % 2 + 2 * r.1, r.2)

/-- The control block of a type, its bytes 1 to 7 as bits [55:0]. -/
def controlBlock (type bits : Nat) : Block := (2, type + bits % 2 ^ 56 * 256)

/-- An IDLE block. -/
def idleBlock : Block := controlBlock 0x1E 0

/-- The type of a control block. -/
def blockType (x : Block) : Nat := x.2 % 256

/-- A sync header that is invalid, or a control type that is not listed, which is handled as one (R92). -/
def blockInvalid (x : Block) : Bool :=
  !(x.1 = 1 || (x.1 = 2 && [0x1E, 0x2D, 0x33, 0x55].contains (blockType x)))

/-- A flow unit as 32 data blocks: unit byte j is payload byte j mod 8 of block j div 8 (R111). -/
def unitBlocks (unit : List Byte) : List Block := (List.range 32).map fun i => (1, ofBytes ((unit.drop (8 * i)).take 8))

/-! ### Markers (R96, R97) -/

/-- The fixed bytes of a marker: M0 to M2 and M4 to M6 (R96). -/
def markerFixed : Nat := 0xC5 + 0x3A * 2 ^ 8 + 0x9E * 2 ^ 16 + 0x3A * 2 ^ 32 + 0xC5 * 2 ^ 40 + 0x61 * 2 ^ 48

/-- A marker's payload for a lane ID and a sequence. -/
def markerOf (id seq : Nat) : Nat :=
  let m3 := id % 32 + seq % 8 * 32
  markerFixed + m3 * 2 ^ 24 + (255 - m3) * 2 ^ 56

/-! ### The transmitter of a lane (R90) -/

/-- A lane circuit's transmitter, none where it sends nothing. -/
def State.txAt (s : State) (c : Nat) : Option TxLane := Tbl.rd (fun _ => none) s.sflTx c

/-- A lane circuit's transmitter replaced. -/
def State.setTx (s : State) (c : Nat) (x : Option TxLane) : State := { s with sflTx := Tbl.wr (fun _ => none) s.sflTx c x }

/-- A symbol's levels. -/
def symLevels (n : Nat) : List Nat := pamLevels (toBits 10 n)

/-- A data symbol sent; after the last one of a codeword its parity follows. -/
def TxLane.symbol (x : TxLane) (d : Nat) : TxLane × List Nat :=
  let par := rsStep x.par d
  if x.syms + 1 = cwData x.cw then
    ({ x with par := List.replicate 30 0, syms := 0, cw := (x.cw + 1) % 211 }, symLevels d ++ par.flatMap symLevels)
  else ({ x with par := par, syms := x.syms + 1 }, symLevels d)

/-- Whole symbols sent from a bit string, at most n of them; what is left over is kept. -/
def TxLane.bitsOut : Nat → TxLane → List Bool → TxLane × List Nat
  | 0, x, bits => ({ x with bits := bits }, [])
  | n + 1, x, bits =>
    if bits.length < 10 then ({ x with bits := bits }, [])
    else
      let r := x.symbol (ofBits (bits.take 10))
      let t := TxLane.bitsOut n r.1 (bits.drop 10)
      (t.1, r.2 ++ t.2)

/-- 66 coded bits sent, bit 0 first. -/
def TxLane.coded (x : TxLane) (b : Block) : TxLane × List Nat := TxLane.bitsOut 8 x (x.bits ++ toBits 2 b.1 ++ toBits 64 b.2)

/-- A marker sent (R95, R96, R129): unscrambled, under the lane ID that is due, with the scrambler reseeded after it. -/
def TxLane.marker (x : TxLane) : TxLane × List Nat :=
  let r := x.coded (2, markerOf x.nextId x.seq)
  ({ r.1 with id := x.nextId, scr := scrSeed x.nextId, seq := (x.seq + 1) % 8, since := 0 }, r.2)

/-- A block sent: the marker first where it is due, then the scrambled block. -/
def TxLane.block (x : TxLane) (b : Block) : TxLane × List Nat :=
  let m := if 16384 ≤ x.since then x.marker else (x, [])
  let p := scramble 64 m.1.scr b.2
  let r := { m.1 with scr := p.2, since := m.1.since + 1 }.coded (b.1, p.1)
  (r.1, m.2 ++ r.2)

/-- A block sent on a lane circuit. -/
def State.sendOn (s : State) (c : Nat) (b : Block) : State :=
  match s.txAt c with
  | none => s
  | some x => (s.setTx c (some (x.block b).1)).emit (.line (c / 9) (c % 9) (x.block b).2)

/-- The circuits of a port that send and carry no active lane: they send IDLE (R129). -/
def State.idleCircuits (s : State) (b : Nat) : List Nat :=
  let on := (maskLanes (s.link b).txMask).map (s.circuitOf b)
  (s.portCircuits b).filter fun c => (s.txAt c).isSome && !on.contains c

/-- A block of the link stream sent (R93): on the next active lane in ascending order; as each row of lanes ends, the other circuits send IDLE. -/
def State.sendBlock (s : State) (b : Nat) (x : Block) : State :=
  let lanes := maskLanes (s.link b).txMask
  let i := (s.link b).txStripe
  match lanes[i]? with
  | none => s
  | some l =>
    let s := s.sendOn (s.circuitOf b l) x
    let last := decide (lanes.length ≤ i + 1)
    let s := if last then s.each (s.idleCircuits b) fun c t => t.sendOn c idleBlock else s
    s.setLink b { s.link b with txStripe := if last then 0 else i + 1 }

/-- Blocks of the link stream sent in order. -/
def State.sendStream (s : State) (b : Nat) (l : List Block) : State := l.foldl (fun t x => t.sendBlock b x) s

/-- A flow unit sent: 32 data blocks in link order (R93, R111). -/
def State.sendUnit (s : State) (b : Nat) (unit : List Byte) : State := (s.emit (.flowUnit b unit)).sendStream b (unitBlocks unit)

/-- A control block sent on every circuit with a logical lane ID, after n IDLE blocks; the other circuits that send go on with IDLE (R106, R109). -/
def State.sendControl (s : State) (b n : Nat) (x : Block) : State :=
  s.each ((s.portCircuits b).filter fun c => (s.txAt c).isSome) fun c t =>
    let t := (List.replicate n idleBlock).foldl (fun u i => u.sendOn c i) t
    t.sendOn c (if (t.txAt c).any fun y => y.nextId < 16 then x else idleBlock)

/-- The lane ID a circuit of block d bears (R37, R97): its logical lane, the spare's own ID, or none for a spare that is not offered; a circuit whose lane the spare carries is not active. -/
def State.ownId (s : State) (b c : Nat) : Option Nat :=
  let d := c / 9
  let used := s.flag PRT_LANE_MAP.SPARE_USED d
  let lane := s.get PRT_LANE_MAP.SPARE_LANE d
  if c % 9 = 8 then
    if used then some (8 * (d - b) + lane) else if s.flag SFL_PHY_CFG.SPARE_EN b then some (0x10 + (d - b)) else none
  else if used ∧ lane = c % 9 then some 0x1F
  else some (8 * (d - b) + c % 9)

/-- The transmitters of a port start, each with a marker that is due (R109). -/
def State.startTx (s : State) (b : Nat) : State := s.each (s.portCircuits b) fun c t => t.setTx c ((t.ownId b c).map TxLane.start)

/-- The lane IDs that the transmitters bear from their next markers on (R129): a lane outside a set of logical lanes is not active. -/
def State.retag (s : State) (b mask : Nat) : State :=
  s.each (s.portCircuits b) fun c t =>
    match t.txAt c, t.ownId b c with
    | some x, some i => t.setTx c (some { x with nextId := if i < 16 ∧ !bitOf mask i then 0x1F else i })
    | _, _ => t

/-! ### The receiver of a lane (R90, R91, R95, R99) -/

/-- The bits of a marker period at which codeword j begins and block n begins. -/
def cwOverlaps (n j : Nat) : Bool := decide (5140 * j < 66 * n + 66) && decide (66 * n < 5140 * j + 10 * cwData j)

/-- A block taken from a lane circuit: an invalid one is counted in SYNC_ERR and bad, as is one that overlaps an uncorrectable codeword; its payload is descrambled. Answers the block
and whether it is bad. -/
def State.takeBlock (s : State) (c : Nat) (x : Block) : State × Block × Bool :=
  let y := s.sflLane (c / 9) (c % 9)
  let p := scramble 64 y.scr x.2
  let b : Block := (x.1, p.1)
  let s := s.setSflLane (c / 9) (c % 9) { y with scr := p.2, blk := y.blk + 1 }
  let s := if blockInvalid b then s.count SFL_LANE_STAT.SYNC_ERR c else s
  (s, b, blockInvalid b || y.bad.any (cwOverlaps y.blk))

/-- The next block of the link stream taken (R93): from the next active lane in ascending order; bad where that lane is not locked. -/
def State.takeNext (s : State) (b : Nat) (x : Block) : State × Block × Bool :=
  let lanes := maskLanes (s.link b).rxMask
  let i := (s.link b).rxStripe
  let s := s.setLink b { s.link b with rxStripe := if lanes.length ≤ i + 1 then 0 else i + 1 }
  match (lanes[i]?).bind (s.rxCircuit b) with
  | some c => s.takeBlock c x
  | none => (s, x, true)

/-- A flow unit taken from 32 blocks of the link stream (R111): its bytes, and whether it contains a bad block (R99). -/
def State.takeUnit (s : State) (b : Nat) (blocks : List Block) : State × List Byte × Bool :=
  blocks.foldl (fun a x =>
    let r := a.1.takeNext b x
    (r.1, a.2.1 ++ toBytes 8 r.2.1.2, a.2.2 || r.2.2 || decide (r.2.1.1 ≠ 1))) (s, [], decide (blocks.length ≠ 32))

/-- The copies of an in-band command taken, one block on each active lane (R127): the descramblers and the places in the period go on. -/
def State.skipRow (s : State) (b : Nat) : State :=
  s.each ((maskLanes (s.link b).rxMask).filterMap (s.rxCircuit b)) fun c t =>
    let y := t.sflLane (c / 9) (c % 9)
    t.setSflLane (c / 9) (c % 9) { y with scr := (scramble 64 y.scr 0).2, blk := y.blk + 1 }

end Sys2Proof.Machine
end

