-- ==== Sys2Proof/Machine/SflOps.lean ====
section
/-! DEFINITION. Operations shared by the two layers of the Shutus Fabric Link: lanes by logical number, training states, CAP contents, the flow unit's
control word and CRC, the states of ACTIVE and link down, and in-band LINK commands. -/

namespace Sys2Proof.Machine

/-! ### Lanes -/

/-! ### Training states -/

/-- The training state shown. -/
def State.sflState (s : State) (b st : Nat) : State := s.set SFL_TRAIN_STATUS.STATE b st

/-- A lane returns to hunt, keeping its signal and the logical lane it carries. -/
def State.toHunt (s : State) (b k : Nat) : State :=
  let x := s.sflLane b k
  (s.setSflLane b k { SflLane.hunt with signal := x.signal, inverted := x.inverted, home := x.home }).set SFL_LANE_STAT.LOCK (9 * b + k) 0

/-- Every lane of a port returns to hunt. -/
def State.huntAll (s : State) (b : Nat) : State := s.each (s.portCircuits b) fun c t => t.toHunt (c / 9) (c % 9)

/-- Back to ADAPT at the attempt's rate: DONE and the bound begin anew. -/
def State.sflAdapt (s : State) (b : Nat) : State :=
  (s.setTrain b { s.train b with doneSent := false, doneSeen := false, boundPassed := false, adapted := [] }).sflState b 3

/-- Training stands at SIGDET with calibration kept (R109): a new attempt, with IDLE and markers sent on every lane at 64 Gb/s. -/
def State.enterSigdet (s : State) (b : Nat) : State :=
  let s := s.setTrain b { SflTrain.idle with fec := (s.train b).fec }
  let s := (s.set SFL_TRAIN_STATUS.REV b 0).set SFL_TRAIN_STATUS.LANES b 0
  let s := (s.set SFL_TRAIN_STATUS.RATE b 0).set PRT_LINK_STATUS.STATE (2 * b) 9
  ((s.startTx b).sendControl b 0 idleBlock).sflState b 2

/-- A training attempt fails (R109): FAIL, TRAIN_CNT and event 353 + 2n; SIGDET follows after 1 ms. -/
def State.sflFail (s : State) (b code : Nat) : State :=
  let s := s.set SFL_TRAIN_STATUS.FAIL b code
  let s := s.count SFL_TRAIN_STATUS.TRAIN_CNT b
  let s := s.setTrain b { s.train b with backoff := true, capxDone := false, rate128 := false, falseRun := 0 }
  s.notice (353 + 2 * b) 1 code

/-- This side's CAP content (R106): a spare is offered while it is locked and free (R108). -/
def State.ownCap (s : State) (b : Nat) (ack : Bool) : Nat :=
  let spare := fun (d : Nat) => bit (s.flag SFL_PHY_CFG.SPARE_EN b && s.flag SFL_LANE_STAT.LOCK (9 * d + 8) && s.spareFree d)
  let wide := decide (s.fabricWidth b = 16)
  s.get SFL_PHY_CFG.REV_MIN b + s.get SFL_PHY_CFG.REV_MAX b * 2 ^ 8 + s.get MGT_CHIP_INFO.CHIP_ID 0 * 2 ^ 16 + (2 * b) % 128 * 2 ^ 24
    + min (s.get SFL_PHY_CFG.RATE128 b) (s.get SFL_PHY_CTL.RATE_CAP b) * 2 ^ 31 + bit wide * 2 ^ 32
    + (spare b + (if wide then 2 * spare (b + 1) else 0)) * 2 ^ 33 + s.get SFL_PHY_CFG.ENC_EN b * 2 ^ 35
    + s.get MGT_CHIP_INFO.ROLE 0 * 2 ^ 36 + bit ack * 2 ^ 38 + (s.train b).laneOk * 2 ^ 39

/-! ### The flow unit (R111 to R114) -/

/-- Bits [hi:lo] of a unit's control word. -/
def unitField (unit : List Byte) (hi lo : Nat) : Nat := ofBytes (unit.take 4) / 2 ^ lo % 2 ^ (hi + 1 - lo)

/-- One bit step of CRC-32C (R113). -/
def crcBit (crc : Nat) : Nat := if crc % 2 = 1 then Nat.xor (crc / 2) 0x82F63B78 else crc / 2

/-- One byte of CRC-32C. -/
def crcByte (crc : Nat) (b : Nat) : Nat :=
  crcBit (crcBit (crcBit (crcBit (crcBit (crcBit (crcBit (crcBit (Nat.xor crc b))))))))

/-- CRC-32C over bytes from a running value, without the final inversion. -/
def crcRun (crc : Nat) : List Byte → Nat
  | [] => crc
  | b :: bs => crcRun (crcByte crc b.toNat) bs

/-- CRC-32C over bytes (R113): seed and final XOR of all ones. -/
def crc32c (bs : List Byte) : Nat := Nat.xor (crcRun 0xFFFFFFFF bs) 0xFFFFFFFF

/-- The CRC of a unit under a 16-bit implicit value. -/
def unitCrc (imp : Nat) (body : List Byte) : Nat := crc32c (toBytes 2 imp ++ body)

/-- A unit of 252 bytes with its CRC appended. -/
def sealUnit (imp : Nat) (body : List Byte) : List Byte := body ++ toBytes 4 (unitCrc imp body)

/-- A received unit passes its CRC under an implicit value. -/
def unitOk (imp : Nat) (unit : List Byte) : Bool :=
  unit.length = 256 && unitCrc imp (unit.take 252) = ofBytes (unit.drop 252)

/-- Bytes padded with zeros to a length. -/
def padTo (n : Nat) (l : List Byte) : List Byte := l.take n ++ List.replicate (n - l.length) 0

/-! ### XOFF thresholds (R123, R124) -/

/-- XOFF of a VC asserted while its free space is at most THR, deasserted at THR + 32 (R123). -/
def State.updXoff (s : State) (b v : Nat) : State :=
  let i := 8 * b + v
  let free := s.get SFL_VC_STAT.FREE i
  let thr := s.get SFL_VC_STAT.THR i
  if free ≤ thr then
    if s.flag SFL_VC_STAT.XOFF_TX i then s else (s.set SFL_VC_STAT.XOFF_TX i 1).count SFL_VC_STAT.XOFF_CNT i
  else if thr + 32 ≤ free then s.set SFL_VC_STAT.XOFF_TX i 0
  else s

/-- ceil(RTT ÷ t_u) + 4, with t_u = 32 × 66 × 544 ÷ 514 ÷ (w × rate) ns and RTT 1,000 ns before the first measurement. -/
def State.xoffThr (s : State) (b : Nat) : Nat :=
  let rtt := if s.get SFL_LINK_STAT.RTT b = 0 then 1000 else s.get SFL_LINK_STAT.RTT b
  let gbps := if s.flag SFL_TRAIN_STATUS.RATE b then 128 else 64
  let num := rtt * 514 * s.get SFL_TRAIN_STATUS.LANES b * gbps
  (num + 1148927) / 1148928 + 4

/-- Each VC's threshold and HEADROOM_SHORT brought up to date, and its XOFF with them; event 353 + 2n where ALLOC < THR + 16 begins to hold (R123, R124). -/
def State.updThresholds (s : State) (b : Nat) : State :=
  let thr := s.xoffThr b
  s.each (List.range 8) fun v t =>
    let i := 8 * b + v
    let short := decide (t.get SFL_VC_CFG.ALLOC i < thr + 16)
    let was := t.flag SFL_VC_STAT.HEADROOM_SHORT i
    let t := ((t.set SFL_VC_STAT.THR i thr).set SFL_VC_STAT.HEADROOM_SHORT i (bit short)).updXoff b v
    if short && !was then t.notice (353 + 2 * b) 1 (v + 256) else t

/-! ### Commands in band (R127, R135) -/

/-- A LANE_SET command's bits: CMD 1, epoch, mask, substituted lane and the block whose spare it uses. -/
def laneSetBits (cmd : Nat) (c : LaneChange) (reason : Nat) : Nat :=
  cmd + c.epoch % 16 * 2 ^ 4 + c.mask % 2 ^ 16 * 2 ^ 8 + c.subst % 32 * 2 ^ 24 + c.blk % 2 * 2 ^ 29 + reason % 8 * 2 ^ 30

/-- The lane change of a command's bits. -/
def laneChangeOf (bits : Nat) : LaneChange :=
  ⟨bits / 2 ^ 4 % 16, bits / 2 ^ 8 % 2 ^ 16, bits / 2 ^ 24 % 32, bits / 2 ^ 29 % 2⟩

/-- The slot carries a TIMING unit (R125). -/
def SflLink.timingSlot (x : SflLink) : Bool := x.slot % 4097 = 4096

/-- A LINK command sent: one copy on each active lane, in consecutive positions between two units (R127). -/
def State.emitCommand (s : State) (b bits : Nat) : State :=
  (s.emit (.linkCommand b bits)).sendStream b (List.replicate (maskLanes (s.link b).txMask).length (controlBlock 0x55 bits))

/-- A LINK command goes out at the next unit boundary; one never stands just before a TIMING unit, and waits for it (R125, R127). -/
def State.sendCommand (s : State) (b bits : Nat) : State :=
  let x := s.link b
  if x.timingSlot then s.setLink b { x with cmds := x.cmds ++ [bits] } else s.emitCommand b bits

/-- The LINK commands that waited for a TIMING unit go out. -/
def State.flushCommands (s : State) (b : Nat) : State :=
  let x := s.link b
  x.cmds.foldl (fun t c => t.emitCommand b c) (s.setLink b { x with cmds := [] })

/-- A command is accepted when at least ceil(w ÷ 2) of its copies arrive identical and valid (R127). -/
def State.copiesEnough (s : State) (b copies : Nat) : Bool :=
  decide ((s.get SFL_TRAIN_STATUS.LANES b + 1) / 2 ≤ copies)

/-- One KEYSYNC command for a slot (R135). -/
def State.keysyncBits (s : State) (b slot : Nat) : Nat :=
  let x := s.link b
  let k := x.txKeys.getD slot KeySlot.empty
  let rxv := bit ((x.rxKeys.getD 0 KeySlot.empty).valid) + 2 * bit ((x.rxKeys.getD 1 KeySlot.empty).valid)
  5 + slot % 2 * 2 ^ 4 + bit k.valid * 2 ^ 5 + rxv * 2 ^ 6 + (k.count / 2 ^ 8 % 2 ^ 40) * 2 ^ 8

/-- KEYSYNC sent for slots 0 and 1 on a link with encryption negotiated (R135). -/
def State.sendKeysync (s : State) (b : Nat) : State :=
  if s.flag SFL_ENC_STATUS.ACTIVE b ∧ s.get SFL_TRAIN_STATUS.STATE b = 7 then
    (s.sendCommand b (s.keysyncBits b 0)).sendCommand b (s.keysyncBits b 1)
  else s

/-- A count rounded up to the next multiple of 256 (R135). -/
def roundUp256 (n : Nat) : Nat := (n + 255) / 256 * 256

/-! ### Time over links (R407) -/

/-- What block `b`'s partner last said of time. -/
def State.timPeer (s : State) (b : Nat) : Option TimePeer := Tbl.rd (fun _ => none) s.timPeers b

/-- A worker's REF_OK is its upstream's; with no upstream it is 0. -/
def State.timRefOk (s : State) : Bool :=
  let p := s.get TIM_STAT.UP_PORT 0
  if p = 127 then false else ((s.timPeer (p / 2)).map (·.refOk)).getD false

/-! ### ACTIVE and link down -/

/-- TX_COUNT shows bits [47:16] of the current transmit slot's count. -/
def State.showTxCount (s : State) (b : Nat) : State :=
  let k := (s.link b).txKeys.getD (s.get SFL_ENC_CTL.TX_SLOT b) KeySlot.empty
  s.set SFL_ENC_STATUS.TX_COUNT b (k.count / 2 ^ 16)

/-- The sender's state, with since when it has been in STALL (R118). -/
def State.setTxState (s : State) (b st : Nat) : State :=
  let x := s.link b
  (s.setLink b { x with stallAt := if st = 2 then some (x.stallAt.getD s.clk) else none }).set SFL_LINK_STAT.TX_STATE b st

/-- The receivers expect a lane that is outside a set of logical lanes to say so from its next marker on (R97, R129). -/
def State.retagRx (s : State) (b mask : Nat) : State :=
  s.each (s.portCircuits b) fun c t =>
    let x := t.sflLane (c / 9) (c % 9)
    if x.home < 16 then t.setSflLane (c / 9) (c % 9) { x with expId := if bitOf mask x.home then x.home else 0x1F } else t

/-- The link enters ACTIVE (R103, R109, R114, R123, R135): sequences and slots start at 0, the space of every VC is free but for units accepted before and not unpacked (R159),
the thresholds are computed, the transmit counts are rounded and KEYSYNC is sent; lanes outside the set say so from their next markers (R129). -/
def State.sflActive (s : State) (b : Nat) : State :=
  let x := s.link b
  let mask := (s.train b).laneOk
  let n := popCount 16 mask
  let up := fun (k : KeySlot) => if k.valid then { k with count := roundUp256 k.count } else k
  let enc := s.flag SFL_ENC_STATUS.ACTIVE b
  let s := s.setLink b { SflLink.idle with
    waiting := x.waiting, accepted := x.accepted, epoch := x.epoch, txKeys := if enc then x.txKeys.map up else x.txKeys, rxKeys := x.rxKeys,
    txMask := mask, rxMask := mask, txStripe := x.txStripe, rxStripe := x.rxStripe }
  let s := (s.sflState b 7).set SFL_TRAIN_STATUS.LANES b n
  let s := s.set SFL_LINK_STAT.ACTIVE_MASK b mask
  let s := s.set SFL_LINK_STAT.TX_STATE b 0
  let s := s.set SFL_LINK_STAT.RX_DISCARD b 0
  let s := s.set SFL_ENC_STATUS.PEER_RXV b 0
  let s := s.each (List.range 8) fun v t =>
    let i := 8 * b + v
    let kept := (x.accepted.filter fun u => u.vc = v && !u.payload.isEmpty).length
    (t.set SFL_VC_STAT.FREE i (t.get SFL_VC_CFG.ALLOC i - kept)).set SFL_VC_STAT.XOFF_RX i 0
  let s := (s.updThresholds b).showTxCount b
  let s := (s.retag b mask).retagRx b mask
  let s := s.set PRT_LINK_STATUS.WIDTH (2 * b) n
  let s := s.set PRT_LINK_STATUS.NEG_WIDTH (2 * b) n
  let s := s.set PRT_LINK_STATUS.RATE (2 * b) (if s.flag SFL_TRAIN_STATUS.RATE b then 6 else 5)
  (s.reachDlUp (2 * b)).sendKeysync b

/-- The link is declared down (R131): DOWN_CNT, event 353 + 2n, the stored units lost and answered by the sink, the NI quenched, and training at SIGDET with
calibration kept. -/
def State.sflDeclareDown (s : State) (b : Nat) : State :=
  let s := s.count SFL_LINK_CNT2.DOWN_CNT b
  let s := s.notice (353 + 2 * b) 1 (2 * b)
  let s := (s.sflLost b).sflDrop b
  let s := s.portDown (2 * b)
  (s.quench b ⟨1, true, 1 + 2 * b⟩).enterSigdet b

end Sys2Proof.Machine
end

