-- ==== Sys2Proof/Machine/Remap.lean ====
section
/-! DEFINITION. Remap (R194 to R201, R213, R214): the two-level tables, their entry cache, the commands over them, and table-window writes. -/

namespace Sys2Proof.Machine

/-! ### Level 2 -/

/-- The set of an entry in a region's entry cache. -/
def l2Set (r e : Nat) : Nat := 1024 * r + e % 1024

/-- A level-2 entry written in HBM and invalidated in the cache of every unfenced region (R194). -/
def State.setL2 (s : State) (e : Nat) (w : Word) : State :=
  let s := s.setHbm64 (s.l2Addr e) w
  s.each ((List.range 4).filter fun r => s.live r) fun r t =>
    let c := Tbl.rd (fun _ => []) t.l2Cache (l2Set r e)
    { t with l2Cache := Tbl.wr (fun _ => []) t.l2Cache (l2Set r e) (c.filter fun x => x.1 ≠ e) }

/-- The level-2 entry a lookup in region r uses: the cached one, else the one in HBM. -/
def State.l2Look (s : State) (r e : Nat) : Word :=
  match (Tbl.rd (fun _ => []) s.l2Cache (l2Set r e)).find? (·.1 = e) with
  | some x => x.2
  | none => s.l2Entry e

/-- A lookup leaves its entry the most recently used of its set, in place of the least recently used of eight (R194). -/
def State.l2Touch (s : State) (r e : Nat) : State :=
  let c := Tbl.rd (fun _ => []) s.l2Cache (l2Set r e)
  let hit := c.any (·.1 = e)
  let s := if hit then s.tally 0x181 r 0 0 else (s.tally 0x182 r 0 0).hbmCount (s.l2Addr e) false
  let c := ((e, s.l2Look r e) :: c.filter fun x => x.1 ≠ e).take 8
  { s with l2Cache := Tbl.wr (fun _ => []) s.l2Cache (l2Set r e) c }

/-- A level-2 entry that maps to a target (R199). -/
def l2Word (valid : Bool) (target ld devGran : Nat) : Word :=
  word (bit valid + target % 2 ^ 17 * 2 ^ 4 + ld % 16 * 2 ^ 21 + devGran % 2 ^ 31 * 2 ^ 25)

/-- How many level-2 tables the partition holds: one per 4 KiB. -/
def State.l2Total (s : State) : Nat := s.get MGT_HBM_PART.L2_64M 0 * 16384

/-- The tables of fractured extents. -/
def State.l2Used (s : State) : List Nat :=
  s.regs.filterMap fun e => if e.1 % 256 = RegKind.ctorIdx .L1_W0 ∧ e.2.field 2 2 = 1 then some (e.2.field 63 48) else none

/-- The lowest free level-2 table. -/
def State.l2FreeTable (s : State) : Option Nat :=
  let used := s.l2Used
  (List.range (min s.l2Total (used.length + 1))).find? fun p => !used.contains p

/-- A table of an extent is taken or given back: RMP_STAT. -/
def State.countFract (s : State) (taken : Bool) : State :=
  let f := s.get RMP_STAT.L2_FREE 0
  let c := s.get RMP_STAT.FRACT_CNT 0
  if taken then (s.set RMP_STAT.L2_FREE 0 (f - 1)).set RMP_STAT.FRACT_CNT 0 (c + 1)
  else (s.set RMP_STAT.L2_FREE 0 (f + 1)).set RMP_STAT.FRACT_CNT 0 (c - 1)

/-- An extent's level-2 table is freed with its pool device's hold (R200): FRACT and L2PTR become 0 in the same write that `f` makes. -/
def State.freeExtent (s : State) (i : Nat) (f : State → State) : State :=
  let fract := s.flag L1_W0.FRACT i
  let s := s.writeEntry .l1 i fun t => ((f t).set L1_W0.FRACT i 0).set L1_W0.L2PTR i 0
  if fract then s.countFract false else s

/-! ### Migration marks and holds at a resolving point (R248, R251) -/

/-- The migration slot that holds a granule. -/
def State.migSlot (s : State) (i g : Nat) : Option Nat :=
  (List.range 32).find? fun k =>
    s.get RMP_MIG_SLOT0.PHASE k ≠ 0 && s.get RMP_MIG_SLOT0.L1_IDX k = i && s.get RMP_MIG_SLOT0.GRAN k = g

/-- The 256-byte blocks of its granule that a part touches. -/
def blocksOf (poa len : Nat) : List Nat :=
  let a := poa % 2 ^ 21
  (List.range ((a % 256 + len + 255) / 256)).map fun i => a / 256 + i

/-- A write or atomic part marks its blocks in resolving point `pt`'s map of the slot (R248). -/
def State.migMark (s : State) (pt slot poa len : Nat) : State :=
  let k := 32 * pt + slot
  let m := Tbl.rd (fun _ => []) s.migMaps k
  { s with migMaps := Tbl.wr (fun _ => []) s.migMaps k (m ++ (blocksOf poa len).filter fun b => !m.contains b) }

/-- A write or atomic part joins the hold of its granule in arrival order (R251). -/
def State.migHold (s : State) (pt slot : Nat) (p : Part) : State :=
  let k := 32 * pt + slot
  { s with migHeld := Tbl.wr (fun _ => []) s.migHeld k (Tbl.rd (fun _ => []) s.migHeld k ++ [p]) }

/-! ### Remap commands (R200, R201) -/

/-- A migration of the extent is queued or running, or an entry of it has MIG or HOLD set (R201: BUSY). -/
def State.extentBusy (s : State) (i : Nat) : Bool :=
  s.migWait.contains i || (s.flag L1_W0.FRACT i && (s.extentEntries i).any fun w => l2Mig w || l2Hold w)

/-- The entries of a table map one contiguous extent of one target (R200). -/
def contiguous (ws : List Word) : Bool :=
  match ws with
  | [] => false
  | w :: _ =>
    let d := l2Gran w / 512
    (List.range 512).all fun g =>
      let v := ws.getD g 0
      l2Valid v && !l2Mig v && !l2Hold v && l2Target v = l2Target w && l2Ld v = l2Ld w && l2Gran v = d * 512 + g

/-- The status of a FRACTURE (R201). -/
def State.fractureStatus (s : State) (i : Nat) : Nat :=
  if !s.flag L1_W0.VALID i then 6 else if s.extentBusy i then 5 else if s.flag L1_W0.FRACT i then 3
  else if s.l2FreeTable.isNone then 1 else 0

/-- FRACTURE (R200): the lowest free table is filled from the extent's mapping, then FRACT and L2PTR are set in one write. -/
def State.fractureExtent (s : State) (i : Nat) : State :=
  match s.l2FreeTable with
  | none => s
  | some p =>
    let t := s.get L1_W0.TARGET i
    let ld := s.get L1_W0.LD i
    let d := s.get L1_W0.DEV_EXT i
    let s := s.each (List.range 512) fun g u => u.setL2 (p * 512 + g) (l2Word true t ld (d * 512 + g))
    let s := s.writeEntry .l1 i fun u => (u.set L1_W0.FRACT i 1).set L1_W0.L2PTR i p
    s.countFract true

/-- The status of an UNFRACTURE (R201). -/
def State.unfractureStatus (s : State) (i : Nat) : Nat :=
  if !s.flag L1_W0.VALID i then 6 else if s.extentBusy i then 5 else if !s.flag L1_W0.FRACT i then 2
  else if !contiguous (s.extentEntries i) then 4 else 0

/-- UNFRACTURE (R200): TARGET, LD and DEV_EXT from the entries, FRACT 0, in one write; the table is freed. -/
def State.unfractureExtent (s : State) (i : Nat) : State :=
  let w := s.l2Entry (s.get L1_W0.L2PTR i * 512)
  let s := s.writeEntry .l1 i fun u =>
    let u := u.set L1_W0.TARGET i (l2Target w)
    let u := u.set L1_W0.LD i (l2Ld w)
    let u := u.set L1_W0.DEV_EXT i (l2Gran w / 512)
    (u.set L1_W0.FRACT i 0).set L1_W0.L2PTR i 0
  s.countFract false

/-- A write of RMP_CMD (R200): recorded and not performed while a command runs; else it starts, its result is no longer valid, and `f` gives its effect and outcome. -/
def State.remapCommand (s : State) (f : State → State × RmpRun) : State :=
  if s.rmpRun.isSome then s.refuseWrite .RMP_CMD 0
  else
    let (t, x) := f (s.resultStart RMP_RES.VALID 0)
    { t with rmpRun := some x }

/-- A table-window entry that L1 writes may not touch (R198): fractured, or in use by the running remap command. -/
def State.l1Locked (s : State) (i : Nat) : Bool :=
  s.flag L1_W0.FRACT i || (match s.rmpRun with | some x => x.idx = i | none => false)

/-! ### Commands -/

/-- A W1C write of ACU_ERR_INFO.PEND (R207). -/
def acuErrPendClear (r : Nat) (s : State) : State := s.set ACU_ERR_INFO.PEND r 0

/-- A level-2 entry read from HBM into a region's entry cache (R194). -/
def l2CacheFill (r entry : Nat) (s : State) : State := s.l2Touch r entry

/-- A write of a window's word (R208, R209): a locked window ignores it and raises event 4; a write to word 1 of a valid window and a word 0 with a bad size or base are not performed
and recorded; words 2 and 3 hold no writable field. -/
def acuWindowWrite (win wordNo : Nat) (value : Word) (s : State) : State :=
  let w := win % 4096
  if 2 ≤ wordNo then s
  else if s.flag WIN_W0.LOCK w then s.notice 4 0 (drsAddr (if wordNo = 0 then .WIN_W0 else .WIN_W1) w)
  else if wordNo = 1 then
    if s.flag WIN_W0.VALID w then s.refuseWrite .WIN_W1 w
    else s.writeEntry .window w fun t =>
      let t := t.set WIN_W1.TARGET w (value.field 16 0)
      let t := t.set WIN_W1.MID w (value.field 37 17)
      t.set WIN_W1.MID_MASK w (value.field 58 38)
  else
    let size := value.field 11 6
    let pool := decide (value.field 1 1 = 0)
    let base := value.field 51 12 * 2 ^ 12
    if size < 12 ∨ (pool ∧ 46 < size) ∨ 52 < size ∨ base % 2 ^ size ≠ 0 ∨ (pool ∧ 2 ^ 46 ≤ base) then s.refuseWrite .WIN_W0 w
    else s.writeEntry .window w fun t => t.setReg .WIN_W0 w (value.setField 63 53 0)

/-- A write of an L1 entry (R198): word 1 is read-only; word 0 is refused on a fractured extent, on one a remap command uses, and where it would change VALID or SHARED of a held extent. -/
def l1EntryWrite (i wordNo : Nat) (value : Word) (s : State) : State :=
  let i := i % 65536
  if wordNo ≠ 0 then s
  else if s.l1Locked i ||
      (s.flag L1_W0.HELD i && (s.get L1_W0.VALID i ≠ value.field 0 0 || s.get L1_W0.SHARED i ≠ value.field 1 1)) then
    s.refuseWrite .L1_W0 i
  else s.writeEntry .l1 i fun t =>
    let t := t.set L1_W0.VALID i (value.field 0 0)
    let t := t.set L1_W0.SHARED i (value.field 1 1)
    let t := t.set L1_W0.TARGET i (value.field 21 5)
    let t := t.set L1_W0.LD i (value.field 25 22)
    t.set L1_W0.DEV_EXT i (value.field 47 26)

/-- FRACTURE (R200, R201). -/
def fracture (idx : Nat) (s : State) : State :=
  let i := idx % 65536
  s.remapCommand fun s =>
    let st := s.fractureStatus i
    let p := if st = 0 then s.l2FreeTable.getD 0 else 0
    (if st = 0 then s.fractureExtent i else s, ⟨i, st, p, none⟩)

/-- UNFRACTURE (R200, R201). -/
def unfracture (idx : Nat) (s : State) : State :=
  let i := idx % 65536
  s.remapCommand fun s =>
    let st := s.unfractureStatus i
    (if st = 0 then s.unfractureExtent i else s, ⟨i, st, if st = 0 then s.get L1_W0.L2PTR i else 0, none⟩)

/-- WRITE_L2 (R200, R201): RMP_CMD_DATA to one entry of a fractured extent. -/
def writeL2 (idx gran : Nat) (s : State) : State :=
  let i := idx % 65536
  s.remapCommand fun s =>
    let w := s.reg .RMP_CMD_DATA 0
    let st := if !s.flag L1_W0.VALID i then 6 else if s.extentBusy i then 5 else if !s.flag L1_W0.FRACT i then 2
      else if w.field 3 1 ≠ 0 ∨ w.field 63 56 ≠ 0 then 7 else 0
    let p := s.get L1_W0.L2PTR i
    (if st = 0 then s.setL2 (p * 512 + gran % 512) w else s, ⟨i, st, if st = 0 then p else 0, none⟩)

/-- READ_L2 (R200, R201): one entry to RMP_RES_DATA. -/
def readL2 (idx gran : Nat) (s : State) : State :=
  let i := idx % 65536
  s.remapCommand fun s =>
    let st := if !s.flag L1_W0.VALID i then 6 else if !s.flag L1_W0.FRACT i then 2 else 0
    let p := s.get L1_W0.L2PTR i
    (s, ⟨i, st, if st = 0 then p else 0, if st = 0 then some (s.l2Entry (p * 512 + gran % 512)).toNat else none⟩)

/-- The running command completes: RMP_RES and RMP_RES_DATA change as one result (R214, R357). -/
def remapCommandComplete (s : State) : State :=
  match s.rmpRun with
  | none => s
  | some x =>
    let s := s.set RMP_RES.STATUS 0 x.status
    let s := s.set RMP_RES.L2PTR 0 x.l2ptr
    let s := match x.data with
      | some d => s.set RMP_RES_DATA.ENTRY 0 d
      | none => s
    { s.resultDone RMP_RES.SEQ RMP_RES.VALID 0 with rmpRun := none }

/-! ### Meanings -/

/-- ACU_ERR_PEND_CLEAR: R207, R213. -/
def execAcuErrPendClear (r : Nat) (s : State) : Host.Outcome State Fault Refusal :=
  run (decide (r < 4)) (acuErrPendClear r s)

/-- L2_CACHE_FILL: R194. -/
def execL2CacheFill (r : Nat) (entry : Nat) (s : State) : Host.Outcome State Fault Refusal :=
  run (decide (r < 4)) (l2CacheFill r entry s)

/-- ACU_WINDOW_WRITE: R7, R208, R209, R210. -/
def execAcuWindowWrite (win : Nat) (wordNo : Nat) (value : Word) (s : State) : Host.Outcome State Fault Refusal :=
  .next (acuWindowWrite win wordNo value s)

/-- L1_ENTRY_WRITE: R16, R197, R198, R210. -/
def execL1EntryWrite (entry : Nat) (wordNo : Nat) (value : Word) (s : State) : Host.Outcome State Fault Refusal :=
  .next (l1EntryWrite entry wordNo value s)

/-- FRACTURE: R200, R201, R214, R255. -/
def execFracture (idx : Nat) (s : State) : Host.Outcome State Fault Refusal :=
  .next (fracture idx s)

/-- UNFRACTURE: R200, R201. -/
def execUnfracture (idx : Nat) (s : State) : Host.Outcome State Fault Refusal :=
  .next (unfracture idx s)

/-- WRITE_L2: R194, R199, R200, R201. -/
def execWriteL2 (idx : Nat) (gran : Nat) (s : State) : Host.Outcome State Fault Refusal :=
  .next (writeL2 idx gran s)

/-- READ_L2: R199, R200, R201. -/
def execReadL2 (idx : Nat) (gran : Nat) (s : State) : Host.Outcome State Fault Refusal :=
  .next (readL2 idx gran s)

/-- REMAP_COMMAND_COMPLETE: R214, R357. -/
def execRemapCommandComplete (s : State) : Host.Outcome State Fault Refusal :=
  .next (remapCommandComplete s)

end Sys2Proof.Machine
end

