-- ==== Sys2Proof/Machine/Resolve.lean ====
section
/-! DEFINITION. Resolution of a memory request in one region (R191 to R197, R202 to R207): HDM decode, remap, the access-control unit, and the failure outcomes. -/

namespace Sys2Proof.Machine

/-! ### Decode (R192, R193) -/

/-- HDM decoder `k` of a VCS. -/
def State.decoder (s : State) (vcs k : Nat) : HdmDecoder := Tbl.rd (fun _ => HdmDecoder.off) s.decoders (16 * vcs + k)

/-- An HDM decoder replaced. -/
def State.setDecoder (s : State) (vcs k : Nat) (d : HdmDecoder) : State :=
  { s with decoders := Tbl.wr (fun _ => HdmDecoder.off) s.decoders (16 * vcs + k) d }

/-- A committed decoder covers an address. -/
def decoderHit (d : HdmDecoder) (a : Nat) : Bool := d.committed && decide (d.base ≤ a) && decide (a < d.base + d.size)

/-- The device number an address selects: its granule modulo the ways (log entry 25). -/
def decoderSelect (d : HdmDecoder) (a : Nat) : Option Nat := d.targets[(a - d.base) / d.gran % d.ways]?

/-- The address within the decoder's share of the interleave: granules divided by the ways (log entry 25). -/
def decoderCompact (d : HdmDecoder) (a : Nat) : Nat := (a - d.base) / d.gran / d.ways * d.gran + (a - d.base) % d.gran

/-- The DPA at which pool decoder `k` begins: after the skips and spans of the decoders below it and its own skip (log entry 25). -/
def State.dpaBase (s : State) (vcs k : Nat) : Nat :=
  ((List.range k).map fun j => (s.decoder vcs (8 + j)).skip + (s.decoder vcs (8 + j)).size / max 1 (s.decoder vcs (8 + j)).ways).sum +
    (s.decoder vcs (8 + k)).skip

/-- What decode names: nothing, a pool address, or a device. -/
inductive Decoded where
  | miss
  | pool (vcs poa : Nat)
  | poa (poa : Nat)
  | device (target ld addr : Nat)
  deriving DecidableEq, Repr

/-- The downstream vPPB of a VCS with a device number. -/
def State.vppbAt (s : State) (vcs dev : Nat) : Option Nat :=
  ((List.range (s.get VCS_ENTRY.DSP_CNT vcs + 1)).map (s.get VCS_ENTRY.FIRST_VPPB vcs + ·)).find? fun v =>
    !s.flag VPPB_ENTRY.USP v && decide (s.get VPPB_ENTRY.DEVNUM v = dev)

/-- The pool device's own decoders (R75, R193). -/
def State.decodePool (s : State) (vcs a : Nat) : Decoded :=
  match (List.range 8).find? fun k => decoderHit (s.decoder vcs (8 + k)) a with
  | none => .miss
  | some k =>
    let d := s.decoder vcs (8 + k)
    let dpa := s.dpaBase vcs k + decoderCompact d a
    if s.get RMP_POOL.SIZE_GIB vcs * 2 ^ 30 ≤ dpa then .miss
    else if d.db && !s.agentAdmitted vcs then .miss
    else .pool vcs ((s.get RMP_POOL.BASE_GIB vcs * 2 ^ 30 + dpa) % 2 ^ 46)

/-- The target of a vPPB (R192). -/
def State.decodeVppb (s : State) (vcs v a : Nat) : Decoded :=
  match s.get VPPB_ENTRY.STATE v with
  | 0 => .miss
  | 3 => s.decodePool vcs a
  | st => .device (s.get VPPB_ENTRY.TARGET v) (if st = 2 then s.get VPPB_ENTRY.LD_ID v else 0) a

/-- The VCS that a port's traffic belongs to (R65): of an upstream port its own, of a device that of the vPPB it, or its LD, is bound to. -/
def State.vcsFor (s : State) (x : ReqSource) : Option Nat :=
  match x with
  | .port p ld =>
    if s.role p = 0 then s.vcsOf p
    else ((s.boundTo p).find? fun v => s.get VPPB_ENTRY.STATE v = 1 || s.get VPPB_ENTRY.LD_ID v = ld % 16).map (s.get VPPB_ENTRY.VCS ·)
  | _ => none

/-- Decode (R192, R193): the upstream decoders of the VCS for an HPA, the vPPB's window for CXL.io, the host for a device's request, the address itself for an engine or session. CXL.io between ports stays within one VCS (R65). -/
def State.decode (s : State) (q : MemReq) : Decoded :=
  match q.addr with
  | .hpa a =>
    match q.src with
    | .port p _ =>
      match s.vcsOf p with
      | none => .miss
      | some vcs =>
        match (List.range 8).find? fun k => decoderHit (s.decoder vcs k) a with
        | none => .miss
        | some k =>
          match (decoderSelect (s.decoder vcs k) a).bind (s.vppbAt vcs) with
          | none => .miss
          | some v => s.decodeVppb vcs v a
    | _ => .miss
  | .window v a =>
    if s.vcsFor q.src = some (s.get VPPB_ENTRY.VCS v) then s.decodeVppb (s.get VPPB_ENTRY.VCS v) v a else .miss
  | .toHost vcs a => if s.vcsFor q.src = some vcs then .device (s.localFeid (s.get VCS_ENTRY.USP_PORT vcs)) 0 a else .miss
  | .poa a => .poa (a % 2 ^ 46)
  | .device t l a => .device t l a

/-- The address an error record shows for a request that no decoder takes. -/
def reqAddress (q : MemReq) : Nat :=
  match q.addr with
  | .hpa a => a
  | .window _ a => a
  | .toHost _ a => a
  | .poa a => a
  | .device _ _ a => a

/-! ### Masters and regions (R191, R203) -/

/-- The region that resolves a request. -/
def sourceRegion (x : ReqSource) : Nat :=
  match x with
  | .port p _ => p / 32
  | .engine e => e / 32
  | .session _ => 0

/-- The master identity (MTYPE, MID). -/
def State.master (s : State) (x : ReqSource) : Nat × Nat :=
  match x with
  | .port p ld => if s.role p = 0 then (0, s.localFeid p) else (1, s.localFeid p + ld % 16 * 2 ^ 17)
  | .engine e => (2, e % 128)
  | .session n => (3, n % 8)

/-! ### Translation and checking of one part -/

/-- What remap gives for a part: its failure cause (0 none, 2 UNMAPPED, 3 L2_INVALID), the entry's target, LD-ID and device address, sharing, and the level-2 word
used. -/
structure Xlat where
  cause : Nat
  target : Nat
  ld : Nat
  dev : Nat
  shared : Bool
  l2 : Option Word
  deriving DecidableEq, Repr

/-- The level-2 entry number of a POA in an extent whose L1 word is `e`. -/
def l2Index (e : Word) (poa : Nat) : Nat := e.field 63 48 * 512 + poa / 2 ^ 21 % 512

/-- Translation of a POA in region r (R194, R195); `vcs` is the VCS it was decoded through, none for an engine or session. A slice's own expander access and the zero-fill of a release
reach an extent that is RELEASING (`own`, log entry 30). -/
def State.translate (s : State) (r poa : Nat) (vcs : Option Nat) (own : Bool := false) : Xlat :=
  let i := poa / 2 ^ 30 % 65536
  let e := s.lookup r .L1_W0 i
  let x := s.lookup r .L1_W1 i
  let t := e.field 21 5
  let shared := decide (e.field 1 1 = 1)
  let held := decide (e.field 3 3 = 1)
  let wrongVcs : Bool := vcs.any fun v => x.field 21 16 ≠ v
  if e.field 0 0 = 0 ∨ !held ∨ (x.field 22 22 = 1 ∧ own = false) ∨ wrongVcs = true then ⟨2, t, 0, 0, shared, none⟩
  else if e.field 2 2 = 0 then ⟨0, t, e.field 25 22, e.field 47 26 * 2 ^ 30 + poa % 2 ^ 30, shared, none⟩
  else
    let w := s.l2Look r (l2Index e poa)
    if !l2Valid w then ⟨3, l2Target w, 0, 0, shared, some w⟩
    else ⟨0, l2Target w, l2Ld w, l2Gran w * 2 ^ 21 + poa % 2 ^ 21, shared, some w⟩

/-- A window of region r admits an access (R204). -/
def State.windowAdmits (s : State) (r win : Nat) (space target addr len : Nat) (mtype mid : Nat) (rd wr : Bool) : Bool :=
  let a := s.lookup r .WIN_W0 win
  let b := s.lookup r .WIN_W1 win
  let base := a.field 51 12 * 2 ^ 12
  let mask := b.field 58 38
  decide (a.field 0 0 = 1) && decide (a.field 1 1 = space) && (decide (space = 0) || decide (b.field 16 0 = target)) &&
    decide (base ≤ addr) && decide (addr + len ≤ base + 2 ^ a.field 11 6) && decide (a.field 5 4 = mtype) &&
    decide (Nat.land (Nat.xor (b.field 37 17) mid) mask = 0) && (!rd || decide (a.field 2 2 = 1)) && (!wr || decide (a.field 3 3 = 1))

/-- The windows of region r that its replicas list. -/
def State.listedWindows (s : State) (r : Nat) : List Nat :=
  ((s.rep.map (·.1) ++ s.repEcc.map (·.1)).filterMap fun k =>
    let w := k / 8
    if 0x200000 ≤ w ∧ w < 0x204000 ∧ k / 2 % 4 = r then some ((w - 0x200000) / 4) else none).dedup

/-- Some window of region r passes a part (R204). -/
def State.acuPasses (s : State) (r : Nat) (space target addr len : Nat) (m : Nat × Nat) (rd wr : Bool) : Bool :=
  (s.listedWindows r).any fun w => s.windowAdmits r w space target addr len m.1 m.2 rd wr

/-- The parts of an access: its pieces between 64-byte boundaries (R205), as (offset, length). -/
def splitParts (addr len : Nat) : List (Nat × Nat) :=
  let first := min len (64 - addr % 64)
  if len = 0 then []
  else (0, first) :: (List.range ((len - first + 63) / 64)).map fun i => (first + 64 * i, min 64 (len - first - 64 * i))

/-! ### Outcomes (R206, R207) -/

/-- A failure recorded for the first failing part while PEND is 0, with event 32 + 32r + 14; later ones are only counted (R207). -/
def State.acuRecord (s : State) (r cause addr space : Nat) (write : Bool) (m : Nat × Nat) (target : Nat) : State :=
  if s.flag ACU_ERR_INFO.PEND r then s
  else
    let s := s.set ACU_ERR_ADDR.ADDR r addr
    let s := s.set ACU_ERR_ADDR.SPACE r space
    let s := s.set ACU_ERR_INFO.CAUSE r cause
    let s := s.set ACU_ERR_INFO.WRITE r (bit write)
    let s := s.set ACU_ERR_INFO.MTYPE r m.1
    let s := s.set ACU_ERR_INFO.MID r m.2
    let s := s.set ACU_ERR_INFO.TARGET r target
    let s := s.set ACU_ERR_INFO.PEND r 1
    s.notice (32 + 32 * r + 14) 1 cause

/-- The answer to a request that fails as a whole (R206). -/
def wholeAnswer (q : MemReq) : ReqAnswer :=
  let w := q.write || q.atomic
  match q.proto with
  | .io => if w then .discarded else .unsupported
  | .internal => if w then .notPerformed 0 else .poisonOnes
  | _ => if w then .cmpDiscarded else .poisonOnes

/-- The answer to a request of which some parts fail the ACU (R206). -/
def partAnswer (q : MemReq) (failing : List Nat) : ReqAnswer :=
  let w := q.write || q.atomic
  match q.proto with
  | .io => if w then .someDiscarded failing else .someOnes failing
  | .internal => if w then .notPerformed (failing.headD 0) else .someOnes failing
  | _ => if w then .cmpDiscarded else .poisonOnes

/-- A device access of a resolving point, counted in its phase now (R243). -/
def State.access (s : State) (pt tag target : Nat) (src : Option ReqSource) : State :=
  { s with accesses := s.accesses ++ [⟨pt, Tbl.rd (fun _ => false) s.drainPhase pt, tag, target, src⟩] }

/-- A part is counted for hotness (R238): counting is on, it came from a host or a device, and it was resolved in pool space. -/
def State.counted (s : State) (p : Part) : Bool :=
  s.flag RMP_HOT_CFG.EN 0 && s.hot.ready && p.poa.isSome && decide ((s.master p.req.src).1 ≤ 1)

/-- A part goes to the policer; one that is counted has its hotness notice due, and waits for it where the notice is exact (R239). -/
def State.sendPart (s : State) (r : Nat) (p : Part) (exact : Bool) : State :=
  let s := if s.counted p then { s with hot := { s.hot with due := s.hot.due ++ [(r, p, exact)] } } else s
  if s.counted p && exact then s else { s with resolved := s.resolved ++ [(r, p)] }

/-- A part that passed goes to its target, or at a remap stage first marks its blocks or joins its granule's hold (R248, R251). -/
def State.forward (s : State) (r : Nat) (p : Part) (l2 : Option Word) : State :=
  let go := fun (t : State) => (if p.poa.isSome && !p.shared then t.access r p.req.tag p.target (some p.req.src) else t).sendPart r p l2.isSome
  match p.poa, l2 with
  | some a, some w =>
    if (p.req.write || p.req.atomic) && !p.shared then
      match s.migSlot (a / 2 ^ 30) (a / 2 ^ 21 % 512) with
      | none => go s
      | some k => if l2Hold w then (s.migHold r k p).tally 0x188 r 0 0 else if l2Mig w then go (s.migMark r k a p.len) else go s
    else go s
  | _, _ => go s

/-- Region r's entry cache holds a level-2 entry. -/
def State.l2Cached (s : State) (r e : Nat) : Bool := (Tbl.rd (fun _ => []) s.l2Cache (l2Set r e)).any (·.1 = e)

/-- A part needs a level-2 entry that the region's cache does not hold and that lies in a fenced region's channel (R386). -/
def State.l2Fenced (s : State) (r poa : Nat) (vcs : Option Nat) (own : Bool) : Bool :=
  let e := l2Index (s.lookup r .L1_W0 (poa / 2 ^ 30 % 65536)) poa
  (s.translate r poa vcs own).l2.isSome && !s.l2Cached r e && s.hbmFenced r (s.l2Addr e)

/-- An access to a fenced region's channel, answered by the Slag sink of the requesting region (R163, R386). -/
def State.slagRequest (s : State) (r : Nat) (q : MemReq) : State :=
  let s := s.fixed 79 r
  if q.write || q.atomic then s.count ANV_SLAG_CNT0.WR_DISC r
  else if q.proto = .io then s.count ANV_SLAG_CNT1.NP_UR r
  else s.count ANV_SLAG_CNT0.RD_ANS r

/-- A request of the zero-fill that a release has the device run (R77, R268). -/
def State.releaseFill (s : State) (q : MemReq) : Bool :=
  match q.src with
  | .engine e => (Tbl.rd (fun _ => Engine.idle) s.engines e).job.any fun r => r.job.origin = 2 && (r.job.desc.getD 0 0).field 7 0 = 2
  | _ => false

/-- A request resolved in region r (a speculative read that needs a level-2 entry the region's cache does not hold is answered DEFER, R265): each part remapped and checked on its own, after every entry it reads has been compared and repaired (R194, R204 to R206, R210). -/
def State.resolveParts (s : State) (r : Nat) (q : MemReq) (addr : Nat) (pool : Bool) (vcs : Option Nat) (target ld : Nat) : State :=
  let m := s.master q.src
  let w := q.write || q.atomic
  let rd := !q.write || q.atomic
  let ps := splitParts addr q.len
  let own := s.releaseFill q
  if q.spec && pool && ps.any (fun p =>
      match (s.translate r (addr + p.1) vcs own).l2 with
      | some _ => !s.l2Cached r (l2Index (s.lookup r .L1_W0 ((addr + p.1) / 2 ^ 30 % 65536)) (addr + p.1))
      | none => false) then s.deny q .defer
  else if pool && ps.any (fun p => s.l2Fenced r (addr + p.1) vcs own) then (s.slagRequest r q).deny q (wholeAnswer q) none 2
  else
  let s := (s.listedWindows r).foldl (fun t i => t.repair r .window i) s
  let s := if pool then ps.foldl (fun t p => t.repair r .l1 ((addr + p.1) / 2 ^ 30 % 65536)) s else s
  let s := if pool then ps.foldl (fun t p =>
      let a := addr + p.1
      let e := t.lookup r .L1_W0 (a / 2 ^ 30 % 65536)
      if (t.translate r a vcs own).l2.isSome then t.l2Touch r (l2Index e a) else t) s
    else s
  let one := fun (j : Nat) (p : Nat × Nat) =>
    let a := addr + p.1
    let x : Xlat := if pool then s.translate r a vcs own else ⟨0, target, ld, a, false, none⟩
    let pass := s.acuPasses r (if pool then 0 else 1) x.target a p.2 m rd w
    ((⟨q, j, p.1, p.2, if pool then some a else none, x.target, x.ld, x.dev, x.shared⟩ : Part), x,
      if x.cause ≠ 0 then x.cause else if pass then 0 else 4)
  let done := ps.mapIdx one
  match done.find? fun d => d.2.2 = 2 || d.2.2 = 3 with
  | some d =>
    let s := s.acuRecord r d.2.2 (addr + d.1.off) 0 w m d.2.1.target
    ((s.count ACU_CNT.UNMAPPED r).tally 0x184 r 0 0).deny q (wholeAnswer q)
  | none =>
    let failing := done.filter fun d => d.2.2 = 4
    let s := done.foldl (fun t d => if d.2.2 = 0 then t.forward r d.1 d.2.1.l2 else t) s
    match failing with
    | [] => s
    | f :: _ =>
      let s := s.acuRecord r 4 (addr + f.1.off) (if pool then 0 else 1) w m f.1.target
      let s := if w then s.count ACU_CNT.DENY_WR r failing.length else s.count ACU_CNT.DENY_RD r failing.length
      let s := s.tally 0x185 r 0 0 failing.length
      s.deny q (partAnswer q (failing.map (·.1.idx))) (some (failing.map (·.1.idx)))

/-- A request is decoded, remapped and checked (R191). -/
def requestResolve (q : MemReq) (s : State) : State :=
  let r := sourceRegion q.src % 4
  let s := { s with decodeQ := s.decodeQ.erase q }.tally 0x180 r 0 0
  match s.decode q with
  | .miss =>
    let s := s.acuRecord r 1 (reqAddress q) 0 (q.write || q.atomic) (s.master q.src) 0
    ((s.count ACU_CNT.DECODE_MISS r).tally 0x183 r 0 0).deny q (wholeAnswer q)
  | .pool vcs a => s.resolveParts r q a true (some vcs) 0 0
  | .poa a => s.resolveParts r q a true none 0 0
  | .device t l a => s.resolveParts r q a false none t l

/-! ### Meanings -/

/-- REQUEST_RESOLVE: R65, R75, R191, R192, R193, R194, R195, R196, R197, R202, R203, R204, R205, R206, R207, R238, R242, R248, R251, R254, R255, R282, R292. -/
def execRequestResolve (q : MemReq) (s : State) : Host.Outcome State Fault Refusal :=
  .next (requestResolve q s)

end Sys2Proof.Machine
end

