-- ==== Sys2Proof/Machine/Telemetry.lean ====
section
/-! DEFINITION. The telemetry converter and the thermal states (R409 to R413). -/

namespace Sys2Proof.Machine

/-- A sensor of the converter; 97 stands for the manual conversions. -/
def State.sensor (s : State) (c : Nat) : TelSensor := Tbl.rd (fun _ => TelSensor.idle) s.tel c

/-- A sensor replaced. -/
def State.setSensor (s : State) (c : Nat) (x : TelSensor) : State := { s with tel := Tbl.wr (fun _ => TelSensor.idle) s.tel c x }

/-- A run of samples in a row goes on, up to 16, or ends. -/
def runOf (n : Nat) (more : Bool) : Nat := if more then min 16 (n + 1) else 0

/-! ### Thermal states (R412, R413) -/

/-- The sensors that count: 64 thermal sensors, but for those left out by R410. -/
def State.thermalSensors (s : State) : List Nat := (List.range 64).filter fun c => !(s.sensor c).out

/-- The chip's thermal state: the highest sensor state. -/
def State.chipThermal (s : State) : Nat := (s.thermalSensors.map fun c => (s.sensor c).st).foldl max 0

/-- An event that is active while a condition holds: raised as it begins. -/
def State.whileEvent (s : State) (ev : Nat) (now was : Bool) (raise : State → State) : State :=
  let s := if now && !was then raise s else s
  s.setActive ev now

/-- The chip's thermal state brought up to date (R413): event 488 from WARN on, 489 from THROTTLE on, 490 at the entry to CRITICAL, which is fatal; the time in THROTTLE is kept. -/
def State.updThermal (s : State) : State :=
  let was := s.get PWR_THERM_STAT.STATE 0
  let now := s.chipThermal
  let s := s.set PWR_THERM_STAT.STATE 0 now
  let s := s.whileEvent 488 (1 ≤ now) (1 ≤ was) fun t => t.notice 488 0 now
  let s := s.whileEvent 489 (2 ≤ now) (2 ≤ was) fun t => t.cause 489 1 now
  let s := match s.throttleAt with
    | some t => if now = 2 then s else { s with throttleNs := s.throttleNs + (s.clk - t), throttleAt := none }
    | none => if now = 2 then { s with throttleAt := some s.clk } else s
  if now = 3 ∧ was ≠ 3 then s.cause 490 2 0 else s

/-- The milliseconds in THROTTLE that THR_MS shows. -/
def State.throttleMs (s : State) : Nat :=
  let run := match s.throttleAt with
    | some t => s.clk - t
    | none => 0
  min 0xFFFF ((s.throttleNs + run) / 1000000)

/-- The state a sensor's 16 consecutive samples move it to (R412). -/
def nextThermal (x : TelSensor) : Nat :=
  let up := if 16 ≤ x.ge110 then 3 else if 16 ≤ x.ge100 then 2 else if 16 ≤ x.ge95 then 1 else 0
  match x.st with
  | 0 => up
  | 1 => if 2 ≤ up then up else if 16 ≤ x.lt92 then 0 else 1
  | 2 => if up = 3 then 3 else if 16 ≤ x.lt97 then 1 else 2
  | st => st

/-- THERMAL_STATE_CHANGE (R412, R413): a sensor with 16 consecutive samples past a threshold moves, and the chip's state follows. -/
def thermalStateChange (c : Nat) (s : State) : State :=
  let x := s.sensor c
  if x.out then s else (s.setSensor c { x with st := nextThermal x }).updThermal

/-! ### Conversions (R409 to R411) -/

/-- Hottest valid sensor and its code. -/
def State.updHottest (s : State) : State :=
  let valid := (List.range 64).filter fun c => s.flag PWR_TEL_SMP.VALID c
  match valid.foldl (fun best c => match best with
      | none => some c
      | some b => if s.get PWR_TEL_SMP.VALUE b < s.get PWR_TEL_SMP.VALUE c then some c else some b) none with
  | some c => (s.set PWR_THERM_STAT.HOT 0 c).set PWR_THERM_STAT.TJ_MAX 0 (s.get PWR_TEL_SMP.VALUE c)
  | none => s

/-- A sensor after a valid sample of a value: its runs against the thermal thresholds (code = 16 × (°C + 64)) and against LOW to HIGH. -/
def afterSample (x : TelSensor) (low high v : Nat) : TelSensor :=
  let outside := decide (v < low) || decide (high < v)
  { x with
    ge95 := runOf x.ge95 (2544 ≤ v), ge100 := runOf x.ge100 (2624 ≤ v), ge110 := runOf x.ge110 (2784 ≤ v),
    lt92 := runOf x.lt92 (v < 2496), lt97 := runOf x.lt97 (v < 2576),
    outside := runOf x.outside outside, inside := runOf x.inside (!outside) }

/-- Event 491 follows a sensor's limits (R411): raised after 16 consecutive valid samples outside, active until 16 inside. -/
def State.limitEvent (s : State) (c : Nat) : State :=
  let x := s.sensor c
  if x.active then
    if 16 ≤ x.inside then
      let s := s.setSensor c { x with active := false }
      s.setActive 491 (s.tel.any fun e => e.2.active)
    else s
  else if s.flag PWR_TEL_CH.LIM_EN c ∧ 16 ≤ x.outside then ((s.setSensor c { x with active := true }).setActive 491 true).cause 491 1 c
  else s

/-- The mean of the newest codes. -/
def meanOf (l : List Nat) (n : Nat) : Nat := (l.take n).sum / max 1 (min n l.length)

/-- A sensor's sample register updated in one step (R410): SEQ + 1; STALE conversions keep VALUE; `V`, `C`, `Q`, `B` are its fields and `i` its index. -/
def State.showSample (s : State) (V C Q B : Fld) (i code value : Nat) : State :=
  let s := if code = 0 then s.set V i value else s
  ((s.set C i code).bump Q i).set B i (bit (decide (code = 0)))

/-- A sensor takes a conversion (R410): STALE while its count runs; FAULT 16 times in a row raises event 492 and leaves the sensor out of the thermal state. Answers the sensor, the code and the value. -/
def convert (x : TelSensor) (filter code result : Nat) : TelSensor × Nat × Nat :=
  let hist := if result = 0 then (code % 4096 :: x.hist).take 8 else x.hist
  let x := { x with hist := hist, faults := runOf x.faults (result = 3) }
  if 0 < x.stale then ({ x with stale := x.stale - 1 }, 1, 0)
  else (x, result, meanOf hist (2 ^ filter))

/-- TELEMETRY_CONVERSION (R409 to R411): the reference is checked to 2 mV; a manual conversion is used where EN is 1; a sensor's updates its register, its runs and its events. -/
def telemetryConversion (c code result : Nat) (man : Bool) (s : State) : State :=
  let s := s.tallyChip 5
  if c = 96 then (if code < 2392 ∨ 2408 < code then s.cause 492 0 96 else s)
  else if man then
    if !s.flag PWR_TEL_MAN.EN 0 ∨ s.get PWR_TEL_MAN.CHANNEL 0 ≠ c then s
    else
      let (x, k, v) := convert (s.sensor 97) 0 code result
      (s.setSensor 97 x).showSample PWR_TEL_MRES.VALUE PWR_TEL_MRES.CODE PWR_TEL_MRES.SEQ PWR_TEL_MRES.VALID 0 k v
  else
    let was := s.sensor c
    let (x, k, v) := convert was (s.get PWR_TEL_CH.FILTER c) code result
    let x := if k = 0 then afterSample x (s.get PWR_TEL_CH.LOW c) (s.get PWR_TEL_CH.HIGH c) v else x
    let s := (s.setSensor c x).showSample PWR_TEL_SMP.VALUE PWR_TEL_SMP.CODE PWR_TEL_SMP.SEQ PWR_TEL_SMP.VALID c k v
    let s := if c < 64 then s.updHottest else s
    let s := s.limitEvent c
    if x.faults = 16 ∧ was.faults < 16 then ((s.setSensor c { s.sensor c with out := true }).cause 492 0 c).updThermal else s

/-! ### What a write of the telemetry registers restarts (R410) -/

/-- Channel `c` written from an older value: 3 conversions STALE after a change of GAIN, 8 after one of FILTER, one count of 8 for both. -/
def State.channelChanged (s : State) (c oldGain oldFilter : Nat) : State :=
  let g := decide (s.get PWR_TEL_CH.GAIN c ≠ oldGain)
  let f := decide (s.get PWR_TEL_CH.FILTER c ≠ oldFilter)
  let x := s.sensor c
  if f then s.setSensor c { x with stale := 8, hist := [] }
  else if g then s.setSensor c { x with stale := 3, hist := [] }
  else s

/-- PWR_TEL_MAN written: 3 manual conversions STALE after a change of CHANNEL or GAIN, a count of 8 for both. -/
def State.manualChanged (s : State) (oldChannel oldGain : Nat) : State :=
  let a := decide (s.get PWR_TEL_MAN.CHANNEL 0 ≠ oldChannel)
  let g := decide (s.get PWR_TEL_MAN.GAIN 0 ≠ oldGain)
  let x := s.sensor 97
  if a && g then s.setSensor 97 { x with stale := 8, hist := [] }
  else if a || g then s.setSensor 97 { x with stale := 3, hist := [] }
  else s

/-- In THROTTLE a port returns request link credits only during the first THR_DUTY % of each microsecond (R413). -/
def State.thermalWithholds (s : State) : Bool := s.get PWR_THERM_STAT.STATE 0 = 2 && decide (10 * s.get PWR_TEL_CFG.THR_DUTY 0 ≤ s.clk % 1000)

/-! ### Meanings -/

/-- TELEMETRY_CONVERSION: R409, R410, R411, R436. -/
def execTelemetryConversion (c : Nat) (code : Nat) (result : Nat) (man : Bool) (s : State) : Host.Outcome State Fault Refusal :=
  run (decide (c < 97)) (telemetryConversion c code result man s)

/-- THERMAL_STATE_CHANGE: R412, R413. -/
def execThermalStateChange (c : Nat) (s : State) : Host.Outcome State Fault Refusal :=
  run (decide (c < 64)) (thermalStateChange c s)

end Sys2Proof.Machine
end

