-- ==== Sys2Proof/Machine/Temper.lean ====
section
/-! DEFINITION. Temper (R172 to R190): flow contexts, the ingress policer, egress shapers, marks, and flow bindings. -/

namespace Sys2Proof.Machine

/-! ### Contexts and flow keys -/

/-- The overflow context (R172). -/
def overflowCtx : Nat := 65536

/-- The 2.0 GHz cycle (R17). -/
def State.cycle (s : State) : Nat := 2 * s.clk

/-- A bound context, or the overflow context. -/
def State.ctxBound (s : State) (c : Nat) : Bool := c = overflowCtx || s.flag TMP_CTX_00.BOUND c

/-- The context a key is bound to in a region (R172). -/
def State.findCtx (s : State) (r feid ld : Nat) : Option Nat :=
  (s.listed .TMP_CTX_00).find? fun c =>
    decide (c < overflowCtx) && s.flag TMP_CTX_00.BOUND c && decide (s.get TMP_CTX_00.SRC_FEID c = feid) && decide (s.get TMP_CTX_00.LD c = ld) &&
      decide (s.get TMP_CTX_00.REGION c = r)

/-- The context that polices a key in a region: its own, else the overflow context (R174). -/
def State.ctxFor (s : State) (r feid ld : Nat) : Nat := (s.findCtx r feid ld).getD overflowCtx

/-- The lowest context not in use. -/
def State.freeCtx (s : State) : Option Nat :=
  let used := (s.listed .TMP_CTX_00).filter fun c => s.flag TMP_CTX_00.BOUND c
  (List.range (min 65536 (used.length + 1))).find? fun c => !used.contains c

/-- The region that keeps a context's entry (R190). -/
def State.ctxRegion (s : State) (c : Nat) : Nat := s.get TMP_CTX_00.REGION c

/-- An action limited to one per `gap` nanoseconds may happen now. -/
def State.mayNow (s : State) (key gap : Nat) : Bool :=
  match Tbl.rd (fun _ => none) s.stamps key with
  | some t => decide (t + gap ≤ s.clk)
  | none => true

/-- The action happens now. -/
def State.stamp (s : State) (key : Nat) : State := { s with stamps := Tbl.wr (fun _ => none) s.stamps key (some s.clk) }

/-! ### Buckets (R176) -/

/-- A bucket pair. -/
def State.bucket (s : State) (k : Nat) : Bucket := Tbl.rd (fun _ => Bucket.full) s.buckets k

/-- A bucket pair replaced. -/
def State.setBucket (s : State) (k : Nat) (b : Bucket) : State := { s with buckets := Tbl.wr (fun _ => Bucket.full) s.buckets k b }

/-- One MB/s refills one unit per cycle, up to full. -/
def refill (b : Bucket) (cir pir t : Nat) : Bucket := ⟨b.lackC - (t - b.last) * cir, b.lackP - (t - b.last) * pir, t⟩

/-- Tokens in the committed bucket, in units. -/
def tokC (b : Bucket) (cbs : Nat) : Nat := cbs * 2000 - b.lackC

/-- Tokens in the peak bucket, in units. -/
def tokP (b : Bucket) (pbs : Nat) : Nat := pbs * 2000 - b.lackP

/-- A signed byte added to a length, with a floor of 0. -/
def withOverhead (bytes ovh : Nat) : Nat := if ovh < 128 then bytes + ovh else bytes + ovh - 256

/-- The charged length in bytes (R176): data bytes plus OVH, floor 0, cap PBS. -/
def chargedLen (bytes ovh pbs : Nat) : Nat := min (withOverhead bytes ovh) pbs

/-- The colour of a request of `l` units and the buckets after it (R176); they are refilled already. -/
def colourOf (b : Bucket) (cbs pbs l : Nat) : Colour × Bucket :=
  if tokP b pbs < l then (.red, b)
  else
    let b := { b with lackP := b.lackP + l }
    if tokC b cbs < l then (.yellow, b) else (.green, { b with lackC := b.lackC + l })

/-- A context polices (PIR ≠ 0). -/
def State.polices (s : State) (c : Nat) : Bool := s.get TMP_CTX_08.PIR c ≠ 0

/-- The length a context charges a request. -/
def State.ctxCharge (s : State) (c bytes : Nat) : Nat :=
  let n := withOverhead bytes (s.get TMP_CTX_10.OVH c)
  if s.polices c then min n (s.get TMP_CTX_10.PBS c) else n

/-- TOK_C and TOK_P show whole bytes. -/
def State.showTokens (s : State) (c : Nat) : State :=
  let b := refill (s.bucket c) (s.get TMP_CTX_08.CIR c) (s.get TMP_CTX_08.PIR c) s.cycle
  let s := s.set TMP_CTX_18.TOK_C c (tokC b (s.get TMP_CTX_10.CBS c) / 2000)
  s.set TMP_CTX_18.TOK_P c (tokP b (s.get TMP_CTX_10.PBS c) / 2000)

/-- A test of a request against a context's buckets, refilled to now (R176). -/
def State.testColour (s : State) (c bytes : Nat) : Colour × State :=
  if !s.polices c then (.green, s)
  else
    let b := refill (s.bucket c) (s.get TMP_CTX_08.CIR c) (s.get TMP_CTX_08.PIR c) s.cycle
    let (k, b) := colourOf b (s.get TMP_CTX_10.CBS c) (s.get TMP_CTX_10.PBS c) (s.ctxCharge c bytes * 2000)
    (k, (s.setBucket c b).showTokens c)

/-! ### Marks (R182 to R186) -/

/-- The number of a colour: 0 green, 1 yellow, 2 red. -/
def colourNumber (k : Colour) : Nat :=
  match k with
  | .green => 0
  | .yellow => 1
  | .red => 2

/-- The marks of profiles 0 to 2 (R186), as TMP_PROFILE3 packs them: colour c at band b in bits [16c+2b+1:16c+2b]. -/
def profileMap (n : Nat) : Nat :=
  match n with
  | 0 => 0xFFA5FA50E500
  | 1 => 0xFFFAFFA4FA50
  | _ => 0xFE94E9409400

/-- The band of a packet's destination as source NI n knows it (R182): a value older than 1 µs counts as 0. -/
def State.bandOf (s : State) (n : Nat) (p : Pkt) : Nat :=
  if p.dst < 64 then
    let x := Tbl.rd (fun _ => (0, 0)) s.bands (64 * n + p.dst)
    if s.clk ≤ x.2 + 1000 then x.1 else 0
  else s.egressBand (creditPoint p)

/-- The full scale class (R183) in a region. -/
def State.fullClass (s : State) (r : Nat) : Bool := s.flag TMP_CFG.CLASS r

/-- The mark of an admitted request (R184, R185): none in the compact class. -/
def State.markOf (s : State) (c : Nat) (q : FlowReq) (k : Nat) : Nat :=
  let r := niRegion q.ni
  if !s.fullClass r then 0
  else
    let prof := s.get TMP_CTX_10.PROFILE c
    let m := if prof = 3 then s.get TMP_PROFILE3.MAP r else profileMap prof
    m / 2 ^ (16 * k + 2 * s.bandOf q.ni q.pkt) % 4

/-- A mark kept with a request's tag. -/
def State.keepMark (s : State) (port param m : Nat) : State :=
  { s with marks := Tbl.wr (fun _ => 0) s.marks (2 ^ 32 * port + param % 2 ^ 32) m }

/-- The mark kept with a request's tag. -/
def State.markKept (s : State) (port param : Nat) : Nat := Tbl.rd (fun _ => 0) s.marks (2 ^ 32 * port + param % 2 ^ 32)

/-- A marked request is counted in its context (R185). -/
def State.countMark (s : State) (c m : Nat) : State :=
  match m with
  | 0 => s
  | 1 => s.count TMP_CTX_58.MARK1 c
  | 2 => s.count TMP_CTX_60.MARK2 c
  | _ => s.count TMP_CTX_68.MARK3 c

/-! ### Admission and holding (R177, R178) -/

/-- A request admitted with a colour and mark: charged bytes counted, the mark kept with its tag, the packet queued in its VOQ with the context's traffic class. -/
def State.takeIn (s : State) (c : Nat) (q : FlowReq) (k : Colour) (m : Nat) : State :=
  let n := s.ctxCharge c q.bytes
  let s := match k with
    | .green => s.count TMP_CTX_28.GREEN_B c n
    | .yellow => s.count TMP_CTX_30.YELLOW_B c n
    | .red => s.count TMP_CTX_38.RED_B c n
  let s := ((s.tallyPolicer (colourNumber k) q.port).fixed 68 (q.port / 32)).when (decide (0 < m)) fun t => t.tallyPolicer 5 q.port
  let s := ((s.countMark c m).keepMark q.port q.pkt.param m).keepTc q.port q.pkt.param (s.get TMP_CTX_10.TC c)
  s.enqueue q.ni { q.pkt with tc := s.get TMP_CTX_10.TC c }

/-- The hold queue of a context. -/
def State.held (s : State) (c : Nat) : List HeldReq := Tbl.rd (fun _ => []) s.holdQ c

/-- The hold queue of a context replaced, as HELD_NOW shows in flits. -/
def State.setHeld (s : State) (c : Nat) (l : List HeldReq) : State :=
  { s with holdQ := Tbl.wr (fun _ => []) s.holdQ c l }.set TMP_CTX_20.HELD_NOW c (l.map fun (h : HeldReq) => h.req.pkt.len).sum

/-- The queue has no room for one more 624-byte message (R178). -/
def State.isHoldFull (s : State) (c : Nat) : Bool :=
  decide (s.get TMP_CTX_20.HOLD_MAX c < ((s.held c).map fun (h : HeldReq) => h.req.pkt.len).sum + 5)

/-- A hold queue becomes full: its ports withhold request credits, and event 32 + 32r + 13 is raised at most once per 1 ms per region (R178). -/
def State.holdFullNow (s : State) (c : Nat) : State :=
  if s.isHoldFull c && (Tbl.rd (fun _ => none) s.holdFull c).isNone && !(s.held c).isEmpty then
    let s := { s with holdFull := Tbl.wr (fun _ => none) s.holdFull c (some s.clk) }
    let r := match s.held c with
      | h :: _ => niRegion h.req.ni
      | [] => 0
    if s.mayNow r 1000000 then (s.stamp r).notice (32 + 32 * r + 13) 0 c else s
  else s

/-- A hold queue is full no longer (R178). -/
def State.holdRoom (s : State) (c : Nat) : State :=
  if s.isHoldFull c then s else { s with holdFull := Tbl.wr (fun _ => none) s.holdFull c none }

/-- The writes that migration holds keep at a region's remap stage, across all slots (R251). -/
def State.heldParts (s : State) (r : Nat) : List Part := (List.range 32).flatMap fun k => Tbl.rd (fun _ => []) s.migHeld (32 * r + k)

/-- A port withholds request credits for its traffic (R178, R251, R413): a full queue, or a remap stage's full store of 256 held writes, has a request of it, or THROTTLE holds the
upstream and downstream ports back. -/
def State.withholds (s : State) (p : Nat) : Bool :=
  (s.holdQ.any fun e => s.isHoldFull e.1 && e.2.any fun (h : HeldReq) => h.req.port = p) ||
  (((s.heldParts (p / 32)).drop 256).any fun (x : Part) => match x.req.src with
    | .port q _ => q = p
    | _ => false) ||
  (decide (s.role p ≤ 1) && s.thermalWithholds)

/-- A request joins a hold queue behind the others, counted in HELD_CNT. -/
def State.hold (s : State) (c : Nat) (q : FlowReq) : State :=
  (((s.setHeld c (s.held c ++ [⟨q, s.cycle⟩])).count TMP_CTX_40.HELD_CNT c).tallyPolicer 3 q.port).holdFullNow c

/-- The head of a hold queue leaves it, its hold time counted in HELD_NS. -/
def State.unhold (s : State) (c : Nat) : State :=
  match s.held c with
  | [] => s
  | h :: rest =>
    (((s.setHeld c rest).count TMP_CTX_48.HELD_NS c ((s.cycle - h.since) / 2)).tallyPolicer 4 h.req.port (s.cycle - h.since)).holdRoom c

/-- Red requests of the context are held: HOLD_EN, never for a key from a fabric port (R177). -/
def State.holds (s : State) (c : Nat) (q : FlowReq) : Bool := s.flag TMP_CTX_10.HOLD_EN c && !q.fabric

/-- The resolved part that comes to the policer as a request (R191, R205): the oldest of its port with its tag. -/
def State.partOf (s : State) (q : FlowReq) : Option (Nat × Part) :=
  s.resolved.find? fun x => x.2.req.tag = q.pkt.param && match x.2.req.src with
    | .port p _ => p = q.port
    | _ => false

/-- A request as the policer of its port's block sees it (R172): its key is the port's FEID with the LD-ID that decode knows, or over a fabric port the source FEID of its fabric header. -/
def State.flowOf (s : State) (q : FlowReq) : FlowReq :=
  let fab := decide (s.role q.port = 2)
  let q := { q with ni := s.leadOf (q.port / 2), fabric := fab, feid := if fab then q.feid % 2 ^ 17 else s.localFeid q.port, ld := q.ld % 16 }
  match s.partOf q with
  | some x => { q with pkt := s.aimed q.pkt x.2, ld := match x.2.req.src with
      | .port _ l => l % 16
      | _ => q.ld }
  | none => q

/-- A request of a known key meets the policer (R176, R177): it joins its context's queue where others are held, is coloured and admitted, or is held where it is red. -/
def State.police (s : State) (q : FlowReq) : State :=
  let c := s.ctxFor (niRegion q.ni) q.feid q.ld
  if !(s.held c).isEmpty && !q.fabric then s.hold c q
  else
    let (k, s) := s.testColour c q.bytes
    if k = .red ∧ s.holds c q then s.hold c q else s.takeIn c q k (s.markOf c q (colourNumber k))

/-- A request reaches the policer of its port (R172, R176, R177), as the resolved part it was where there is one. -/
def requestColour (q : FlowReq) (s : State) : State :=
  let f := s.flowOf q
  (match s.partOf q with
   | some x => { s with resolved := s.resolved.erase x }
   | none => s).police f

/-- The head of a hold queue is tested again and admitted where it is not red, or red where its context holds no longer (R177, R179). -/
def holdQueueRetest (c : Nat) (s : State) : State :=
  match s.held c with
  | [] => s
  | h :: _ =>
    let (k, s) := s.testColour c h.req.bytes
    if k = .red ∧ s.holds c h.req then s else (s.unhold c).takeIn c h.req k (s.markOf c h.req (colourNumber k))

/-- A full hold queue (R178). -/
def holdQueueFull (c : Nat) (s : State) : State := s.holdFullNow c

/-- A head held for HOLD_BOUND in the full class (R185, R188): the test that admits it wins, else it is admitted as red with mark 0b11 and takes no tokens. -/
def holdBoundExpiry (c : Nat) (s : State) : State :=
  match s.held c with
  | [] => s
  | h :: _ =>
    if !s.fullClass (niRegion h.req.ni) then s
    else
      let (k, s) := s.testColour c h.req.bytes
      if k = .red then (s.unhold c).takeIn c h.req .red 3 else (s.unhold c).takeIn c h.req k (s.markOf c h.req (colourNumber k))

/-- Held requests over the bound leave at the head of each queue of a region (R185). -/
def State.expireHeads : Nat → Nat → Nat → State → State
  | 0, _, _, s => s
  | k + 1, c, bound, s =>
    match s.held c with
    | [] => s
    | h :: _ => if 2 * bound ≤ s.cycle - h.since then State.expireHeads k c bound ((s.unhold c).takeIn c h.req .red 3) else s

/-- A write of TMP_CFG with a HOLD_BOUND (R185, R189): at least 16 ns; requests already held as long as the new bound are admitted as red with mark 0b11. -/
def holdBoundWrite (r : Nat) (value : Word) (s : State) : State :=
  let bound := max 16 (value.field 47 32)
  let s := s.set TMP_CFG.AUTO_BIND r (value.field 1 1)
  let s := s.set TMP_CFG.TEMPLATE r (value.field 17 2)
  let s := s.set TMP_CFG.HOLD_BOUND r bound
  let s := s.set TMP_CFG.CLIENT_TC r (value.field 50 48)
  if !s.fullClass r then s
  else
    let mine := s.holdQ.filter fun e => e.2.any fun h => niRegion h.req.ni = r
    mine.foldl (fun t e => t.expireHeads e.2.length e.1 bound) s

/-! ### Rewrites (R179, R181) -/

/-- Rates and sizes that a write may set (R179, R181). -/
def ratesLegal (cir pir cbs pbs : Nat) : Bool := pir = 0 || (decide (cir ≤ pir) && decide (cbs ≤ pbs) && decide (256 ≤ pbs))

/-- Buckets after a rewrite: full, or zero where TOK_RST is 1. -/
def rewritten (zero : Bool) (cbs pbs t : Nat) : Bucket := if zero then ⟨cbs * 2000, pbs * 2000, t⟩ else ⟨0, 0, t⟩

/-- The context's key came from another chip's endpoint. -/
def State.fabricKey (s : State) (c : Nat) : Bool := s.flag TMP_CTX_00.BOUND c && s.get TMP_CTX_00.SRC_FEID c / 512 ≠ s.get MGT_CHIP_INFO.CHIP_ID 0

/-- A write of word 1 or 2 of a context (R179, R190): refused where the parameters break the limits; else the buckets are reset; HOLD_EN reads 0 for a fabric key. -/
def contextRewrite (c wordNo : Nat) (value : Word) (s : State) : State :=
  let t := if wordNo = 1 then (s.set TMP_CTX_08.CIR c (value.field 23 0)).set TMP_CTX_08.PIR c (value.field 47 24)
    else s.setReg .TMP_CTX_10 c (value.setField 63 63 0)
  let t := if t.fabricKey c then t.set TMP_CTX_10.HOLD_EN c 0 else t
  let cbs := t.get TMP_CTX_10.CBS c
  let pbs := t.get TMP_CTX_10.PBS c
  if !ratesLegal (t.get TMP_CTX_08.CIR c) (t.get TMP_CTX_08.PIR c) cbs pbs then
    s.refuseWrite (if wordNo = 1 then .TMP_CTX_08 else .TMP_CTX_10) c
  else (t.setBucket c (rewritten (t.flag TMP_CTX_10.TOK_RST c) cbs pbs s.cycle)).showTokens c

/-- The bucket number of a shaper. -/
def shaperKey (p queue : Nat) : Nat := 100000 + 8 * p + queue

/-- A write of a shaper (R181). -/
def shaperRewrite (p queue wordNo : Nat) (value : Word) (s : State) : State :=
  let i := 8 * p + queue
  let t := if wordNo = 0 then (s.set TMP_SHP_RATE.CIR i (value.field 23 0)).set TMP_SHP_RATE.PIR i (value.field 47 24)
    else s.setReg .TMP_SHP_SIZE i (value.setField 63 57 0)
  let cbs := t.get TMP_SHP_SIZE.CBS i
  let pbs := t.get TMP_SHP_SIZE.PBS i
  if !ratesLegal (t.get TMP_SHP_RATE.CIR i) (t.get TMP_SHP_RATE.PIR i) cbs pbs then
    s.refuseWrite (if wordNo = 0 then .TMP_SHP_RATE else .TMP_SHP_SIZE) i
  else t.setBucket (shaperKey p queue) (rewritten (t.flag TMP_SHP_SIZE.TOK_RST i) cbs pbs s.cycle)

/-- A response arrives with CMARK = 1 (R184, R185): ignored and counted in the compact class, else a remote mark of 0b10. -/
def cmarkReceived (p param c : Nat) (s : State) : State :=
  let s := s.tallyPolicer 6 p
  if s.fullClass (p / 32) then (s.keepMark p param (max 2 (s.markKept p param))).count TMP_CTX_60.MARK2 c
  else s.count TMP_STAT.CMARK_IGN (p / 32)

/-! ### Bindings (R173, R174, R188, R189) -/

/-- A context's counters cleared (R190). -/
def State.clearCtx (s : State) (c : Nat) : State :=
  [TMP_CTX_28.GREEN_B, TMP_CTX_30.YELLOW_B, TMP_CTX_38.RED_B, TMP_CTX_40.HELD_CNT, TMP_CTX_48.HELD_NS, TMP_CTX_50.STALL_NS, TMP_CTX_58.MARK1,
    TMP_CTX_60.MARK2, TMP_CTX_68.MARK3].foldl (fun t F => t.set F c 0) s

/-- TMP_STAT.FREE of every region, chip-wide. -/
def State.setFree (s : State) (n : Nat) : State := s.each (List.range 4) fun r t => t.set TMP_STAT.FREE r n

/-- A key bound to a context (R173, R190): counters cleared, buckets full. -/
def State.bindCtx (s : State) (r c feid ld : Nat) (auto : Bool) : State :=
  let s := s.set TMP_CTX_00.SRC_FEID c feid
  let s := s.set TMP_CTX_00.LD c ld
  let s := s.set TMP_CTX_00.REGION c r
  let s := s.set TMP_CTX_00.BOUND c 1
  let s := s.set TMP_CTX_00.AUTO c (bit auto)
  let s := if s.fabricKey c then s.set TMP_CTX_10.HOLD_EN c 0 else s
  let s := (s.clearCtx c).setBucket c ⟨0, 0, s.cycle⟩
  (s.showTokens c).setFree (s.get TMP_STAT.FREE r - 1)

/-- Words 1, 2 and the hold limit of a context copied to another (R173). -/
def State.copyCtx (s : State) (src dst : Nat) : State :=
  let s := s.setReg .TMP_CTX_08 dst (s.reg .TMP_CTX_08 src)
  let s := s.setReg .TMP_CTX_10 dst (s.reg .TMP_CTX_10 src)
  s.set TMP_CTX_20.HOLD_MAX dst (s.get TMP_CTX_20.HOLD_MAX src)

/-- An automatic binding (R173, R174): to the lowest free context with a template's parameters, or refused, counted, and reported at most once per 1 ms. -/
def State.bindAuto (s : State) (r feid ld template : Nat) : State :=
  match s.freeCtx with
  | some c => (s.copyCtx template c).bindCtx r c feid ld true
  | none =>
    let s := s.count TMP_STAT.BIND_REFUSED r
    if s.mayNow (8 + r) 1000000 then (s.stamp (8 + r)).notice (32 + 32 * r + 12) 0 feid else s

/-- A bind command (R188): recorded and not performed while one runs in the region; else `f` gives its effect, status and index. -/
def State.bindCommand (s : State) (r : Nat) (f : State → State × Nat × Nat) : State :=
  if (Tbl.rd (fun _ => none) s.bindRun r).isSome then s.refuseWrite .TMP_BIND_CMD r
  else
    let (t, st, i) := f (s.resultStart TMP_BIND_STAT.VALID r)
    { t with bindRun := Tbl.wr (fun _ => none) t.bindRun r (some ⟨st, i⟩) }

/-- TMP_BIND_CMD.BIND (R174, R188): OK, TABLE_FULL (counted), KEY_BOUND, BAD_INDEX or REGION_FENCED. -/
def bindFlow (r index feid ld : Nat) (s : State) : State :=
  let feid := feid % 2 ^ 17
  let ld := ld % 16
  s.bindCommand r fun s =>
    if !s.live r then (s, 6, index)
    else if (s.findCtx r feid ld).isSome then (s, 2, index)
    else match s.freeCtx with
      | none => (s.count TMP_STAT.BIND_REFUSED r, 1, index)
      | some c =>
        if index = 0x1FFFF then (s.bindCtx r c feid ld false, 0, c)
        else if 65536 ≤ index ∨ s.ctxBound index then (s, 4, index)
        else (s.bindCtx r index feid ld false, 0, index)

/-- Held requests of a context admitted at once as yellow, in order (R188). -/
def State.drainYellow (s : State) (c : Nat) : State :=
  (s.held c).foldl (fun t h => (t.unhold c).takeIn c h.req .yellow (t.markOf c h.req 1)) s

/-- TMP_BIND_CMD.UNBIND (R188): held requests are admitted as yellow, the counters cleared, the context free. -/
def unbindFlow (r feid ld : Nat) (s : State) : State :=
  s.bindCommand r fun s =>
    if !s.live r then (s, 6, 0x10000)
    else match s.findCtx r (feid % 2 ^ 17) (ld % 16) with
      | none => (s, 3, 0x10000)
      | some c =>
        let s := ((s.drainYellow c).clearCtx c).setReg .TMP_CTX_00 c 0
        (s.setFree (s.get TMP_STAT.FREE r + 1), 0, c)

/-- TMP_BIND_CMD.LOOKUP (R174): the key's context, or NOT_BOUND with index 0x1_0000. -/
def lookupFlow (r feid ld : Nat) (s : State) : State :=
  s.bindCommand r fun s =>
    match s.findCtx r (feid % 2 ^ 17) (ld % 16) with
    | none => (s, 3, 0x10000)
    | some c => (s, 0, c)

/-- The region's bind command completes (R189, R357). -/
def bindCommandComplete (r : Nat) (s : State) : State :=
  match Tbl.rd (fun _ => none) s.bindRun r with
  | none => s
  | some x =>
    let s := s.set TMP_BIND_STAT.STATUS r x.status
    let s := s.set TMP_BIND_STAT.INDEX r x.index
    let s := s.resultDone TMP_BIND_STAT.SEQ TMP_BIND_STAT.VALID r
    { s with bindRun := Tbl.wr (fun _ => none) s.bindRun r none }

/-- An unbound key arrives on a fabric port (R173, R188): AUTO_BIND copies the bound context that TEMPLATE names, at most once per 100 µs per region; a key from a chip of revision 1 is refused
(R316). -/
def autoBind (r feid ld : Nat) (s : State) : State :=
  let feid := feid % 2 ^ 17
  let ld := ld % 16
  let t := s.get TMP_CFG.TEMPLATE r
  if s.flag TMP_CFG.AUTO_BIND r && s.flag TMP_CTX_00.BOUND t && (s.findCtx r feid ld).isNone && s.mayNow (16 + r) 100000 then
    let s := s.stamp (16 + r)
    if s.get MGT_FAB_MEMBER.REV_MAX (feid / 512) = 1 then s.count TMP_STAT.BIND_REFUSED r else s.bindAuto r feid ld t
  else s

/-! ### Egress (R157, R180, R181) -/

/-- The data bytes a message carries. -/
def dataBytes (p : Pkt) : Nat :=
  match p.kind with
  | .memWr | .ioPosted | .dataResponse | .tongsWr | .mgmtWr | .weusk => p.body.length
  | _ => 0

/-- The data bytes a request moves (R176): those it carries, or those it asks for: a line by a CXL.mem read, what its body names by one of CXL.io (log entry 80). -/
def movedBytes (p : Pkt) : Nat :=
  match p.kind with
  | .memRd => 64
  | .ioNonPosted => Config.askedBytes p.opc p.body
  | _ => dataBytes p

/-- IDE_POL of a port's half. -/
def State.idePol (s : State) (p : Nat) : Nat := if p % 2 = 0 then s.get PRT_CXL_CFG.IDE_POL0 (p / 2) else s.get PRT_CXL_CFG.IDE_POL1 (p / 2)

/-- The port forwards CXL.cache and CXL.mem traffic (R85): with "require" only once its stream is secure. -/
def State.ideOpen (s : State) (p : Nat) : Bool := s.idePol p ≠ 2 || s.get PRT_CXL_STATUS.IDE_CM p ≠ 0

/-- A packet of CXL.io, the class of VC1 (R121, R141). -/
def isIo (p : Pkt) : Bool := p.cls = 1

/-- The head message of queue q of a port's egress: CXL.cache and CXL.mem wait for the port's IDE stream (R85), and a mirror copy goes out as a record (R168). -/
def State.egressHead (s : State) (p q : Nat) : Option Pkt :=
  (s.niAt (p / 2)).rx.find? fun x => x.half = p % 2 && x.tc = q && !x.mirror && (isIo x || s.ideOpen p)

/-- A shaper's buckets refilled to now. -/
def State.shaper (s : State) (p q : Nat) : Bucket :=
  refill (s.bucket (shaperKey p q)) (s.get TMP_SHP_RATE.CIR (8 * p + q)) (s.get TMP_SHP_RATE.PIR (8 * p + q)) s.cycle

/-- What the shaper charges a message, in units. -/
def State.shaperCharge (s : State) (p q : Nat) (x : Pkt) : Nat :=
  chargedLen (dataBytes x) (s.get TMP_SHP_SIZE.OVH (8 * p + q)) (s.get TMP_SHP_SIZE.PBS (8 * p + q)) * 2000

/-- Queue q's head conforms: to its peak bucket, and for step 1 to its committed bucket too; an unshaped queue always does (R181). -/
def State.conforms (s : State) (p q : Nat) (both : Bool) : Bool :=
  match s.egressHead p q with
  | none => false
  | some x =>
    if s.get TMP_SHP_RATE.PIR (8 * p + q) = 0 then true
    else
      let l := s.shaperCharge p q x
      let b := s.shaper p q
      decide (l ≤ tokP b (s.get TMP_SHP_SIZE.PBS (8 * p + q))) && (!both || decide (l ≤ tokC b (s.get TMP_SHP_SIZE.CBS (8 * p + q))))

/-- The queue the egress serves and whether by step 1 (R181). -/
def State.egressQueue (s : State) (p : Nat) : Option (Nat × Bool) :=
  let qs := (List.range 8).reverse
  match qs.find? fun q => s.conforms p q true with
  | some q => some (q, true)
  | none => (qs.find? fun q => s.conforms p q false).map fun q => (q, false)

/-- The outstanding requests of a port by kind. -/
def State.outstanding (s : State) (k : Nat) : List Nat := Tbl.rd (fun _ => []) s.outst k

/-- A request counts against the outstanding limit (R65): 8,192 CXL.mem, 4,096 CXL.io non-posted. -/
def outstKind (q : MemReq) : Option Nat :=
  match q.proto with
  | .mem => some 0
  | .io => if q.write then none else some 1
  | _ => none

/-- The messages kept at a port. -/
def State.keptAt (s : State) (p : Nat) : List PortMsg := Tbl.rd (fun _ => []) s.portHold p

/-- A port has as many requests of this kind outstanding as it tracks (R65, R66). -/
def State.atLimit (s : State) (p k : Nat) : Bool := decide ((if k = 0 then 8192 else 4096) ≤ (s.outstanding (2 * p + k)).length)

/-- A message must wait at its port (R66, R85, R224): CXL.cache and CXL.mem for its stream, a request for a place among those outstanding, a global persistent flush until the slices have written
their buffers to the expanders. -/
def State.mustWait (s : State) (p : Nat) (m : PortMsg) : Bool :=
  match m with
  | .request q => (q.proto ≠ .io && !s.ideOpen p) || (outstKind q).any (s.atLimit p)
  | .response x _ => !isIo x && !s.ideOpen p
  | .snoop _ => !s.ideOpen p
  | .gpf _ => !s.wbuf.isEmpty
  | .config _ _ _ _ => false

/-- A request handed to decode, its tag counted as outstanding. -/
def State.handOver (s : State) (p : Nat) (q : MemReq) : State :=
  let s := { s with decodeQ := s.decodeQ ++ [q] }
  match outstKind q with
  | some k => { s with outst := Tbl.wr (fun _ => []) s.outst (2 * p + k) (s.outstanding (2 * p + k) ++ [q.tag]) }
  | none => s

/-- A response to a request leaves on its port: the tag is no longer outstanding. -/
def State.answered (s : State) (p tag : Nat) : State :=
  let k := if (s.outstanding (2 * p)).contains tag then 2 * p else 2 * p + 1
  { s with outst := Tbl.wr (fun _ => []) s.outst k ((s.outstanding k).erase tag) }

/-- A response that has come from a port's device (R65, R87, R162): its request is no longer tracked, and it goes to the requester with its request's traffic class and its
DevLoad. What a host sends so, BIConflict too, travels in the RSP class, its data in the DATA class (R221, R222). -/
def State.takeResponse (s : State) (p : Nat) (x : Pkt) (devload : Nat) : State :=
  let y := s.niAt (p / 2)
  let s := s.setNi (p / 2) { y with tracker := y.tracker.filter fun t => t.param ≠ x.param }
  let s := if s.role p = 1 then s.set PRT_CXL_STATUS.DEVLOAD p devload else s
  let x := { s.withTc (p / 2) x with devload := devload % 4 }
  let x := if s.role p = 0 && !isIo x then { x with cls := if x.kind = .dataResponse then 3 else 2 } else x
  s.enqueue (p / 2) x

/-- The vPPBs of a VCS that are bound to a device. -/
def State.boundIn (s : State) (vcs : Nat) : List Nat :=
  (s.listed .VPPB_ENTRY).filter fun v => s.get VPPB_ENTRY.VCS v = vcs && !s.flag VPPB_ENTRY.USP v && (s.get VPPB_ENTRY.STATE v = 1 || s.get VPPB_ENTRY.STATE v = 2)

/-- A BISnp of a device goes to the host of the VCS that the device is bound to, and to no other (R65). -/
def State.takeSnoop (s : State) (p : Nat) (x : Pkt) : State :=
  match (s.boundTo p).find? fun v => s.get VPPB_ENTRY.STATE v = 1 || s.get VPPB_ENTRY.LD_ID v = x.ld with
  | none => s
  | some v =>
    let u := s.get VCS_ENTRY.USP_PORT (s.get VPPB_ENTRY.VCS v)
    s.enqueue (p / 2) { x with kind := .biSnp, dst := s.leadOf (u / 2), half := u % 2, src := p / 2, srcHalf := p % 2 }

/-- A global persistent flush of a host goes to every device bound in its VCS (R65), over the fabric to those of other chips. -/
def State.takeGpf (s : State) (p : Nat) (x : Pkt) : State :=
  match s.vcsOf p with
  | none => s
  | some vcs => (s.boundIn vcs).foldl (fun t v =>
      let f := t.get VPPB_ENTRY.TARGET v
      let x := { x with src := p / 2, srcHalf := p % 2, ld := t.get VPPB_ENTRY.LD_ID v }
      if t.flag VPPB_ENTRY.REMOTE v then { t with transit := t.transit ++ [(p / 2, ⟨f, t.localFeid p, t.get MGT_FAB_CFG.TTL 0, x⟩)] }
      else t.enqueue (p / 2) { x with dst := t.leadOf (f % 512 / 2), half := f % 2 }) s

/-- The options that every switch port shows a host (R65): payload, read request and tag limits, then for a downstream port ACS as SV, TB, RR, CR, UF and DT, DPC and its slot. -/
def portOptions (usp flit : Bool) : List Nat :=
  [512, 4096, if flit then 14 else 10, 1] ++ if usp then [] else [1, 1, 1, 1, 1, 1, 1, 1]

/-- What the host of a VCS reads of a vPPB (R69): nothing shows whether a target is local or remote, or its region. A POOL vPPB shows its pool device (R74). -/
def State.hostReads (s : State) (v : Nat) (reg : CfgReg) : List Nat :=
  let x := s.vppb v
  match reg with
  | .identity => [s.get VPPB_ENTRY.USP v, s.get VPPB_ENTRY.DEVNUM v]
  | .options => portOptions (s.flag VPPB_ENTRY.USP v) (s.flag PRT_LINK_STATUS.FLIT (s.get VCS_ENTRY.USP_PORT (s.get VPPB_ENTRY.VCS v)))
  | .slotStatus => [bit x.attn, bit x.dllsc, bit x.pdc, if s.get VPPB_ENTRY.STATE v = 3 then 1 else s.get VPPB_ENTRY.PRESENT v]
  | .slotControl =>
    match s.slotOf (s.get VPPB_ENTRY.TARGET v % 512) with
    | some n => [bit (s.slot n).attn, bit (s.slot n).pwrInd, bit x.powerOff]
    | none => [0, 0, bit x.powerOff]
  | .dpc => [bit x.dpcEn, bit x.dpc]
  | .aer => [x.aer]
  | .pool =>
    let vcs := s.get VPPB_ENTRY.VCS v
    if s.get VPPB_ENTRY.STATE v ≠ 3 then [] else [8, bit (Tbl.rd (fun _ => false) s.biDecoder vcs), 8, s.get RMP_POOL.SIZE_GIB vcs]

/-- What the host of a VCS writes of a vPPB: status bits are cleared by a 1 (bit 0 Attention Button Pressed, 1 Data Link Layer State Changed, 2 Presence Detect Changed); the slot's attention and
power indicators follow bits 0 and 1 of its control (R431), and bit 2 at 0 turns its power control on again, which HOST_POWER_OFF turns off (R70, R427); DPC is enabled by bit 0 and its trigger
cleared by bit 1, an AER status cleared. -/
def State.hostWrites (s : State) (v : Nat) (reg : CfgReg) (value : Nat) : State :=
  let x := s.vppb v
  match reg with
  | .slotStatus => s.setVppb v { x with attn := x.attn && !bitOf value 0, dllsc := x.dllsc && !bitOf value 1, pdc := x.pdc && !bitOf value 2 }
  | .slotControl =>
    let p := s.get VPPB_ENTRY.TARGET v % 512
    let s := s.setVppb v { x with powerOff := x.powerOff && bitOf value 2 }
    if (s.get VPPB_ENTRY.STATE v = 1 ∨ s.get VPPB_ENTRY.STATE v = 2) ∧ !s.flag VPPB_ENTRY.REMOTE v then
      match s.slotOf p with
      | some n => (s.setSlot n { s.slot n with attn := bitOf value 0, pwrInd := bitOf value 1 }).updHostOn p
      | none => s
    else s
  | .dpc => s.setVppb v { x with dpcEn := bitOf value 0, dpc := x.dpc && !bitOf value 1 }
  | .aer => s.setVppb v { x with aer := if value = 0 then x.aer else 0 }
  | _ => s

/-- A host's configuration request (R69): completed for a vPPB of its own VCS, Unsupported Request for any other. -/
def State.takeConfig (s : State) (p v : Nat) (reg : CfgReg) (value : Option Nat) (tag : Nat) : State :=
  if s.role p = 0 ∧ s.vcsOf p = some (s.get VPPB_ENTRY.VCS v) then
    match value with
    | some w => (s.hostWrites v reg w).emit (.config p tag (some []))
    | none => s.emit (.config p tag (some (s.hostReads v reg)))
  else s.emit (.config p tag none)

/-- A message whose flits have all come is taken (R158). -/
def State.takeMsg (s : State) (p : Nat) (m : PortMsg) : State :=
  match m with
  | .request q => s.handOver p q
  | .response x devload => s.takeResponse p x devload
  | .snoop x => s.takeSnoop p x
  | .gpf x => s.takeGpf p x
  | .config v reg value tag => s.takeConfig p v reg value tag

/-- The messages kept at a port go on in arrival order, until one must wait. -/
def State.releaseKept (s : State) (p : Nat) : State :=
  (s.keptAt p).foldl (fun t m =>
    match t.keptAt p with
    | x :: rest => if x = m ∧ !t.mustWait p m then ({ t with portHold := Tbl.wr (fun _ => []) t.portHold p rest }).takeMsg p m else t
    | [] => t) s

/-- The messages on the link that a packet becomes: a CXL.io read of more than 4,096 bytes is split (R65). -/
def linkPieces (x : Pkt) : List Pkt :=
  if x.kind = .ioNonPosted ∧ 4096 < movedBytes x then
    (List.range ((movedBytes x + 4095) / 4096)).map fun i => { x with body := Config.readPiece x.body i }
  else [x]

/-- The packet carries a DevLoad (R87): an S2M response, not one of CXL.io. -/
def hasDevLoad (x : Pkt) : Bool := (x.kind = .response || x.kind = .dataResponse) && !isIo x

/-- The egress sends a packet to the link at a message boundary (R157, R181, R182, R185): the highest conforming queue's head leaves the buffer and is charged; its slots are owed
back to its source; a response frees a place of its port's outstanding requests (R65, R66) and ends its access, as a posted write's leaving does (R243); to a host its DevLoad is the greatest of the device's value and the marks kept (R87). -/
def egressPacketSend (p : Nat) (s : State) : State :=
  if s.banked p then s
  else match s.egressQueue p with
  | none => s
  | some (q, both) =>
    match s.egressHead p q with
    | none => s
    | some x =>
      let b := s.shaper p q
      let l := s.shaperCharge p q x
      let b := if s.get TMP_SHP_RATE.PIR (8 * p + q) = 0 then b
        else { b with lackP := b.lackP + l, lackC := if both then b.lackC + l else b.lackC }
      let s := (s.setBucket (shaperKey p q) b).leaves (p / 2) x
      let dl := decide (s.role p = 0) && hasDevLoad x
      let y := if dl then { x with devload := max x.devload (s.markKept p x.param) } else x
      let s := if dl then (s.set PRT_CXL_STATUS.DEVLOAD p y.devload).keepMark p x.param 0 else s
      let s := (linkPieces y).foldl (fun t z => t.emit (.linkPacket p z)) s
      if x.kind = .response ∨ x.kind = .dataResponse then (((s.fixed 69 (p / 32)).answered p x.param).answerOver (fromPort p) x.param).releaseKept p
      else if x.kind = .ioPosted then s.accessDone fun a => a.pt < 4 && a.tag = x.param && (if s.role p = 2 then a.target / 512 ≠ s.localFeid p / 512 else a.target = s.localFeid p)
      else s

/-! ### Credit stalls (R66, R178, R413) -/

/-- The ports that may be withholding request credits: those with messages kept, with requests held, or, in THROTTLE, all. -/
def State.stallPorts (s : State) : List Nat :=
  let held := s.holdQ.flatMap fun e => e.2.map fun (h : HeldReq) => h.req.port
  let parts := s.migHeld.flatMap fun e => e.2.filterMap fun (x : Part) => match x.req.src with
    | .port p _ => some p
    | _ => none
  let l := (s.portHold.map (·.1) ++ held ++ parts ++ if s.thermalWithholds then List.range 128 else []).dedup
  l.filter fun p => s.withholds p || (List.range 2).any (s.atLimit p)

/-- The contexts with a request waiting at a port: held by the policer, or kept before decode (R66, R178). -/
def State.stalledCtxs (s : State) (p : Nat) : List Nat :=
  ((s.holdQ.filter fun e => e.2.any fun (h : HeldReq) => h.req.port = p).map (·.1)) ++
  (s.keptAt p).filterMap fun m => match m with
    | .request q => (match q.src with
      | .port _ ld => some (s.ctxFor (p / 32) (s.localFeid p) (ld % 16))
      | _ => none)
    | _ => none

/-- A nanosecond for which ports withhold request credits: counted in STALL_NS of every context with a request waiting there (R66, R178), and as two credit-stall cycles of the port (R413, R414; log entry 81). -/
def State.creditTick (s : State) : State :=
  let ports := s.stallPorts
  let s := s.each (ports.flatMap s.stalledCtxs).dedup fun c t => t.count TMP_CTX_50.STALL_NS c
  s.each ports fun p t => t.tallyPort 4 p 2

/-- What the chip does in a nanosecond with no command waiting (log entry 7): the clock goes on, and outside RESET the fabric time counter runs (R400) and is counted (R414), time in STALL
is (R118), and time without credits is (R66, R178, R413). -/
def idleTick (s : State) : State :=
  let s := { s with clk := s.clk + 1 }
  if s.phase = .reset then s else (s.timeCycle.tallyChip 0).stallTick.creditTick

/-! ### Meanings -/

/-- EGRESS_PACKET_SEND: R87, R157, R175, R180, R181, R185. -/
def execEgressPacketSend (p : Nat) (s : State) : Host.Outcome State Fault Refusal :=
  run (decide (p < 128)) (egressPacketSend p s)

/-- REQUEST_COLOUR: R73, R172, R174, R175, R176, R177, R178, R182, R184, R185, R186, R190, R291. -/
def execRequestColour (q : FlowReq) (s : State) : Host.Outcome State Fault Refusal :=
  run (decide (q.port < 128)) (requestColour q s)

/-- HOLD_QUEUE_RETEST: R176, R177, R178, R188. -/
def execHoldQueueRetest (c : Nat) (s : State) : Host.Outcome State Fault Refusal :=
  run (decide (c < 65537)) (holdQueueRetest c s)

/-- HOLD_QUEUE_FULL: R178. -/
def execHoldQueueFull (c : Nat) (s : State) : Host.Outcome State Fault Refusal :=
  run (decide (c < 65537)) (holdQueueFull c s)

/-- HOLD_BOUND_EXPIRY: R185. -/
def execHoldBoundExpiry (c : Nat) (s : State) : Host.Outcome State Fault Refusal :=
  run (decide (c < 65537)) (holdBoundExpiry c s)

/-- HOLD_BOUND_WRITE: R185. -/
def execHoldBoundWrite (r : Nat) (value : Word) (s : State) : Host.Outcome State Fault Refusal :=
  run (decide (r < 4)) (holdBoundWrite r value s)

/-- CONTEXT_REWRITE: R179, R188, R190. -/
def execContextRewrite (c : Nat) (wordNo : Nat) (value : Word) (s : State) : Host.Outcome State Fault Refusal :=
  run (decide (c < 65537)) (contextRewrite c wordNo value s)

/-- SHAPER_REWRITE: R181. -/
def execShaperRewrite (p : Nat) (queue : Nat) (wordNo : Nat) (value : Word) (s : State) : Host.Outcome State Fault Refusal :=
  run (decide (p < 128) && decide (queue < 8)) (shaperRewrite p queue wordNo value s)

/-- CMARK_RECEIVED: R184, R185. -/
def execCmarkReceived (p : Nat) (param : Nat) (c : Nat) (s : State) : Host.Outcome State Fault Refusal :=
  run (decide (p < 128) && decide (c < 65537)) (cmarkReceived p param c s)

/-- BIND: R172, R173, R174, R188, R189, R190. -/
def execBindFlow (r : Nat) (index : Nat) (feid : Nat) (ld : Nat) (s : State) : Host.Outcome State Fault Refusal :=
  run (decide (r < 4)) (bindFlow r index feid ld s)

/-- UNBIND: R188, R189. -/
def execUnbindFlow (r : Nat) (feid : Nat) (ld : Nat) (s : State) : Host.Outcome State Fault Refusal :=
  run (decide (r < 4)) (unbindFlow r feid ld s)

/-- LOOKUP: R174, R189. -/
def execLookupFlow (r : Nat) (feid : Nat) (ld : Nat) (s : State) : Host.Outcome State Fault Refusal :=
  run (decide (r < 4)) (lookupFlow r feid ld s)

/-- BIND_COMMAND_COMPLETE: R189, R357. -/
def execBindCommandComplete (r : Nat) (s : State) : Host.Outcome State Fault Refusal :=
  run (decide (r < 4)) (bindCommandComplete r s)

/-- AUTO_BIND: R173, R174, R316. -/
def execAutoBind (r : Nat) (feid : Nat) (ld : Nat) (s : State) : Host.Outcome State Fault Refusal :=
  run (decide (r < 4)) (autoBind r feid ld s)

end Sys2Proof.Machine
end

