-- ==== Sys2Proof/Machine/Engines.lean ====
section
/-! DEFINITION. The Tongs engines and clusters (R257 to R274, R282 to R288): local memory, coprocessor queue, far accesses and their order, jobs, and completion records. -/

namespace Sys2Proof.Machine

/-! ### Units -/

/-- Engine `e`. -/
def State.engine (s : State) (e : Nat) : Engine := Tbl.rd (fun _ => Engine.idle) s.engines e

/-- Engine `e` replaced. -/
def State.setEngine (s : State) (e : Nat) (x : Engine) : State := { s with engines := Tbl.wr (fun _ => Engine.idle) s.engines e x }

/-- Cluster `c`. -/
def State.cluster (s : State) (c : Nat) : Cluster := Tbl.rd (fun _ => Cluster.idle) s.clusters c

/-- Cluster `c` replaced. -/
def State.setCluster (s : State) (c : Nat) (x : Cluster) : State := { s with clusters := Tbl.wr (fun _ => Cluster.idle) s.clusters c x }

/-- An engine changed. -/
def State.modEngine (s : State) (e : Nat) (f : Engine → Engine) : State := s.setEngine e (f (s.engine e))

/-- A cluster changed. -/
def State.modCluster (s : State) (c : Nat) (f : Cluster → Cluster) : State := s.setCluster c (f (s.cluster c))

/-- The job an engine runs changed. -/
def State.modRun (s : State) (e : Nat) (f : JobRun → JobRun) : State := s.modEngine e fun x => { x with job := x.job.map f }

/-- The job an engine runs. -/
def State.jobRun (s : State) (e : Nat) : Option JobRun := (s.engine e).job

/-- TNG_ENG_STAT.STATE: 0 IDLE, 1 RUN, 2 RESET, 3 OUT_OF_SERVICE, 4 LOADING. -/
def State.engState (s : State) (e : Nat) : Nat := s.get TNG_ENG_STAT.STATE e

/-- The register that shows a kernel in a cluster. -/
def krnIdx (c svc : Nat) : Nat := 192 * c + (svc - 0x40)

/-- The program that the masks give an engine (R259): 0 the firmware program, else the kernel's service. -/
def State.programOf (s : State) (e : Nat) : Nat :=
  if bitOf (s.get TNG_CL_CFG.FW_MASK (e / 8)) (e % 8) then 0
  else (((List.range 192).find? fun k => s.flag TNG_KRN.VALID (192 * (e / 8) + k) && bitOf (s.get TNG_KRN.ENG_MASK (192 * (e / 8) + k)) (e % 8)).map (0x40 + ·)).getD 0

/-- The version in force of a program in a cluster. -/
def State.versionOf (s : State) (c program : Nat) : Nat := if program < 0x40 then s.fwVersion else s.get TNG_KRN.VERSION (krnIdx c program)

/-- LOADED_MASK of a cluster's kernels (R280, R281): the engines that hold each at its VERSION. -/
def State.showLoaded (s : State) (c : Nat) : State :=
  s.each (List.range 192) fun k t =>
    let i := 192 * c + k
    t.set TNG_KRN.LOADED_MASK i (((List.range 8).map fun j =>
      let x := t.engine (8 * c + j)
      if t.flag TNG_KRN.VALID i && bitOf (t.get TNG_KRN.ENG_MASK i) j && x.program = 0x40 + k && x.version = t.get TNG_KRN.VERSION i && t.engState (8 * c + j) ≠ 4 then 2 ^ j else 0).sum)

/-- The engines of a cluster that hold a service's program (R259, R269), one out of service holding none. -/
def State.holdersOf (s : State) (c svc : Nat) : Nat :=
  let m := if svc < 0x40 then s.get TNG_CL_CFG.FW_MASK c
    else if s.flag TNG_KRN.VALID (krnIdx c svc) then s.get TNG_KRN.ENG_MASK (krnIdx c svc) else 0
  Nat.land m (s.get TNG_CL_STAT.LIVE c)

/-- A word of a descriptor. -/
def Job.word (j : Job) (k : Nat) : Word := j.desc.getD k 0

/-- The service of a job. -/
def Job.service (j : Job) : Nat := (j.word 0).field 7 0

/-- A job's LEN in 64-byte lines. -/
def Job.total (j : Job) : Nat := (j.word 1).field 39 0 / 64

/-! ### Core and local memory (R257, R258) -/

/-- A core register written; x0 takes nothing. -/
def Engine.setX (x : Engine) (rd : Nat) (v : Word) : Engine := if rd % 32 = 0 then x else { x with x := Tbl.wr (fun _ => 0) x.x (rd % 32) v }

/-- Bytes of local memory. -/
def Engine.read (x : Engine) (off n : Nat) : List Byte := Memory.readBytes x.mem off n

/-- A local line holds poisoned data. -/
def Engine.poisoned (x : Engine) (off : Nat) : Bool := x.bad.contains (off / 64)

/-- A 64-byte line of local memory written with its poison. -/
def Engine.writeLine (x : Engine) (off : Nat) (d : List Byte) (p : Bool) : Engine :=
  let bad := x.bad.filter (· ≠ off / 64)
  { x with mem := Memory.writeBytes x.mem off d, bad := if p then bad ++ [off / 64] else bad }

/-! ### Far accesses (R260, R261, R282 to R284) -/

/-- SPACE of an ASD. -/
def asdSpace (a : Word) : Nat := a.field 1 0

/-- An ASD may be used: VALID, SPACE not reserved, and no reserved bit set (R260, R271). -/
def asdOk (a : Word) : Bool := a.field 29 29 = 1 && a.field 1 0 ≠ 3 && a.field 63 30 = 0

/-- The scratch window of the program an engine runs (R261): base and size. -/
def State.scratch (s : State) (e : Nat) : Nat × Nat :=
  match s.jobRun e with
  | some r =>
    let v := r.job.service
    if v < 0x40 then (s.scratchBase, hbmSize - s.scratchBase)
    else
      let i := krnIdx (e / 8) v
      (s.scratchBase + s.get TNG_KRN.SCR_BASE_64M i * 2 ^ 26, s.get TNG_KRN.SCR_SIZE_64M i * 2 ^ 26)
  | none => (s.scratchBase, hbmSize - s.scratchBase)

/-- A range lies in the scratch window. -/
def State.inScratch (s : State) (e off n : Nat) : Bool := decide (off + n ≤ (s.scratch e).2)

/-- A far access of an engine through an ASD. -/
def farAcc (e tag : Nat) (asd : Word) (addr len : Nat) (write : Bool) (data : List Byte) (poison spec : Bool) : FarAcc :=
  ⟨e, tag, write, none, asdSpace asd, if asdSpace asd = 1 then asd.field 18 2 else 0, if asdSpace asd = 1 then asd.field 22 19 else 0, addr, len, asd.field 28 23, data, poison, spec, false⟩

/-- Two accesses touch a common byte under one name (R283: space, FEID, LD and address). -/
def overlap (a b : FarAcc) : Bool :=
  a.space = b.space && a.feid = b.feid && a.ld = b.ld && decide (a.addr < b.addr + b.len) && decide (b.addr < a.addr + a.len)

/-- A write covers another access entirely, with data in hand. -/
def covers (w a : FarAcc) : Bool := w.write && w.amo.isNone && decide (w.addr ≤ a.addr) && decide (a.addr + a.len ≤ w.addr + w.len)

/-- The request of an access as it enters resolution (R260): an atomic carries its operand, its compare value and its function. -/
def accReq (a : FarAcc) : MemReq :=
  let data := match a.amo with
    | some (f, x, c) => toBytes 8 x.toNat ++ toBytes 8 c.toNat ++ [BitVec.ofNat 8 f]
    | none => a.data
  ⟨.engine a.engine, .internal, if a.space = 0 then .poa a.addr else .device a.feid a.ld a.addr, a.write, a.amo.isSome, a.len, data, 2 ^ a.len - 1, a.tag, a.poison, a.spec⟩

/-- An access's request has not left its engine's side: it waits for resolution, for its packet (R191), or in a hold (R251). -/
def State.unsent (s : State) (a : FarAcc) : Bool :=
  s.decodeQ.contains (accReq a) || s.resolved.any (fun x => x.2.req = accReq a) || s.hot.due.any (fun x => x.2.1.req = accReq a) ||
    s.migHeld.any fun e => e.2.any fun (p : Part) => p.req = accReq a

/-- A write is held in its cluster's ordering buffer (R284): it has entered and has not left onto Anvil. -/
def State.buffered (s : State) (a : FarAcc) : Bool := a.write && a.issued && s.unsent a

/-- The lines in a cluster's ordering buffer. -/
def State.bufUsed (s : State) (c : Nat) : Nat := (((s.cluster c).acc.filter s.buffered).map fun a => (a.len + 63) / 64).sum

/-- Accesses that wait to be issued, appended in order. -/
def State.addAcc (s : State) (c : Nat) (l : List FarAcc) : State := s.modCluster c fun x => { x with acc := x.acc ++ l }

/-- An access is performed: it leaves the list. -/
def State.dropAcc (s : State) (c : Nat) (e tag : Nat) : State :=
  s.modCluster c fun x => { x with acc := x.acc.eraseP fun a => a.engine = e && a.tag = tag }

/-- What is left of requests that are discarded before they have gone onto Anvil. -/
def State.forgetReqs (s : State) (gone : MemReq → Bool) : State :=
  { s with decodeQ := s.decodeQ.filter fun q => !gone q, resolved := s.resolved.filter fun x => !gone x.2.req, denials := s.denials.filter fun x => !gone x.1 }

/-- An engine's accesses at the remap stages are over (R243). -/
def State.engineOver (s : State) (e : Nat) (tag : Nat → Bool) : State :=
  { s with accesses := s.accesses.filter fun a => !(a.src = some (.engine e) && tag a.tag) }

/-- Accesses of an engine discarded with their requests that have not gone onto Anvil. -/
def State.discardAcc (s : State) (e : Nat) (f : FarAcc → Bool) : State :=
  let gone := (s.cluster (e / 8)).acc.filter fun a => a.engine = e && f a
  let s := s.modCluster (e / 8) fun x => { x with acc := x.acc.filter fun a => !(a.engine = e && f a) }
  (s.forgetReqs fun q => gone.any fun a => accReq a = q).engineOver e fun t => gone.any fun a => a.tag = t

/-- The old value's successor under an atomic (R262: 0 ADD, 1 SWAP, 2 AND, 3 OR, 4 CAS). -/
def amoResult (f : Nat) (old operand cmp : Word) : Word :=
  match f with
  | 0 => old + operand
  | 1 => operand
  | 2 => old &&& operand
  | 3 => old ||| operand
  | _ => if old = cmp then operand else old

/-! ### Tags: 8 × number + kind -/

/-- The tag of line `l` of a ticket: kind 0 a read, 1 a write, 2 an atomic. -/
def cpTag (ticket l kind : Nat) : Nat := 8 * (64 * ticket + l) + kind

/-- The tag of line `l` of a job's accesses: kind 3 a read of SRC, 4 a read of DST, 5 a write, 6 a sanitising write. -/
def svcTag (gen l kind : Nat) : Nat := 8 * (2 ^ 40 * gen + l) + kind

/-! ### Jobs and records (R268 to R274) -/

/-- Records that the running jobs of a cluster have reserved (R271). -/
def State.reservedRecs (s : State) (c : Nat) : Nat :=
  ((List.range 8).filter fun k => match s.jobRun (8 * c + k) with
    | some r => r.job.origin ≠ 2
    | none => false).length

/-- The completion queue has room, counting records already reserved. -/
def State.cqRoom (s : State) (c : Nat) : Bool := decide ((s.cluster c).fill + (s.cluster c).recs.length + s.reservedRecs c < 4096)

/-- A record written at the tail (R273): words 1 to 3, then word 0 with the lap's PHASE; the phase flips when the tail wraps. -/
def State.putRecord (s : State) (c : Nat) (w : List Word) : State :=
  let t := s.get TNG_CQ_PTR.TAIL c
  let at' := 16384 * c + 4 * t
  let s := s.setReg .TNG_CQ (at' + 1) (w.getD 1 0)
  let s := s.setReg .TNG_CQ (at' + 2) (w.getD 2 0)
  let s := s.setReg .TNG_CQ (at' + 3) (w.getD 3 0)
  let s := s.setReg .TNG_CQ at' (Word.setField (w.getD 0 0) 0 0 (s.get TNG_CQ_PTR.PHASE c))
  let s := s.modCluster c fun x => { x with fill := x.fill + 1 }
  let s := if t = 4095 then s.set TNG_CQ_PTR.PHASE c (1 - s.get TNG_CQ_PTR.PHASE c) else s
  (s.set TNG_CQ_PTR.TAIL c (t + 1)).count TNG_CL_CNT.DONE c

/-- The records that wait, as far as there is room. -/
def State.flushRecords (s : State) (c : Nat) : State :=
  (s.cluster c).recs.foldl (fun t w => if (t.cluster c).fill < 4096 then (t.modCluster c fun x => { x with recs := x.recs.drop 1 }).putRecord c w else t) s

/-- The words of a record (R273), PHASE left out. -/
def recordWords (engine status tag id r0 r1 cycles version : Nat) : List Word :=
  [word (engine % 128 * 2 + status % 256 * 2 ^ 8 + tag % 2 ^ 16 * 2 ^ 16 + id % 2 ^ 32 * 2 ^ 32), word r0, word r1, word (min cycles (2 ^ 48 - 1) + version % 256 * 2 ^ 48)]

/-- A NOTIFY job's record is sent once to the owner with its cluster, or dropped and counted (R359). -/
def State.jobNotice (s : State) (c : Nat) (w : List Word) : State :=
  if s.flag MGT_OWN_STAT.HELD 0 then
    s.emit (.weusk ⟨0x0B, s.get MGT_OWN_STAT.OWNER 0, .ok, freeTag, c, w.flatMap fun x => toBytes 8 x.toNat⟩)
  else s.count MGT_OWN_STAT.NOTICE_DROP 0

/-- The record of a job of the owner or an engine: written, or kept until there is room; with NOTIFY, noticed. -/
def State.record' (s : State) (c : Nat) (j : Job) (w : List Word) : State :=
  let w := w.set 0 (Word.setField (w.getD 0 0) 0 0 (s.get TNG_CQ_PTR.PHASE c))
  let s := if (s.cluster c).fill < 4096 ∧ (s.cluster c).recs.isEmpty then s.putRecord c w
    else s.modCluster c fun x => { x with recs := x.recs ++ [w] }
  if (j.word 0).field 8 8 = 1 then s.jobNotice c w else s

/-- JQ_USED. -/
def State.showQueue (s : State) (c : Nat) : State := s.set TNG_CL_STAT.JQ_USED c (s.cluster c).queue.length

/-- A MIGRATE that ends no longer counts as queued on its extent (R244). -/
def State.jobGone (s : State) (j : Job) : State :=
  if j.service = 5 then { s with migWait := s.migWait.erase ((j.word 4).field 15 0) } else s

/-- A job that never ran ends with a record whose ENGINE is 0x7F (R273, R275). -/
def State.endQueued (s : State) (c : Nat) (j : Job) (status : Nat) : State :=
  let s := (s.modCluster c fun x => { x with queue := x.queue.erase j }).showQueue c
  let s := s.jobGone j
  match j.id with
  | some id => s.record' c j (recordWords 0x7F status ((j.word 0).field 31 16) id 0 0 0 0)
  | none => s

/-- The outcome of the running job is known: status, RESULT0, RESULT1; the first one stands. -/
def State.finishJob (s : State) (e status r0 r1 : Nat) : State :=
  s.modRun e fun r => if r.outcome.isNone then { r with outcome := some (status, r0, r1) } else r

/-- The first failure a far access of the running job met. -/
def State.failJob (s : State) (e status : Nat) : State := s.modRun e fun r => if r.fail = 0 then { r with fail := status } else r

/-- The status of a failing far access (R267): 2 and 3 denied, 4 a read lost, 5 a write lost; SLAG code 2 is REGION_FENCED. -/
def farStatus (status slag : Nat) : Nat :=
  if status < 2 then 0 else if status < 4 then 0x07 else if slag = 2 then 0x0E else if status = 4 then 0x08 else 0x09

/-! ### Admission (R268, R269) -/

/-- A job is queued: it takes the next place and, unless it is the device's own, the next JOB_ID. -/
def State.queueJob (s : State) (c : Nat) (desc : List Word) (origin : Nat) : State :=
  let x := s.cluster c
  let j : Job := ⟨if origin = 2 then none else some x.nextId, x.nextSeq, desc, origin⟩
  let s := s.setCluster c { x with queue := x.queue ++ [j], nextSeq := x.nextSeq + 1, nextId := if origin = 2 then x.nextId else (x.nextId + 1) % 2 ^ 32 }
  let s := s.showQueue c
  if j.service = 5 then { s with migWait := s.migWait ++ [(j.word 4).field 15 0] } else s

/-- The admission status of a submission of the owner or an engine (R269), the causes in the table's order (log entry 28). -/
def State.admission (s : State) (c : Nat) (desc : List Word) : Nat :=
  let svc := (desc.getD 0 0).field 7 0
  if 16 ≤ c then 4
  else if 4032 ≤ (s.cluster c).queue.length then 1
  else if !((1 ≤ svc && svc ≤ 5) || svc = 7 || 0x40 ≤ svc) || s.holdersOf c svc = 0 then 2
  else if s.regionState (c / 4) ≠ 0 then 3
  else 0

/-- A submission (R269): refused with nothing queued and counted, or queued. -/
def State.submitJob (s : State) (c : Nat) (desc : List Word) (origin : Nat) : State :=
  match s.admission c desc with
  | 0 => s.queueJob c desc origin
  | 4 => s
  | _ => s.count TNG_CL_CNT.REFUSED c

end Sys2Proof.Machine
end

