-- ==== Sys2Proof/Machine/Hearth.lean ====
section
/-! DEFINITION. Hearth (R215 to R237): the home of a line, directory entries and their cache, transactions, snoops, agents and their removal. -/

namespace Sys2Proof.Machine

/-! ### Homes and directory entries (R216 to R219) -/

/-- The HBM address of a line's directory entry (R217), if the shared-capacity table covers the line. -/
def State.dirAddr (s : State) (line : Nat) : Option Nat :=
  ((List.range (8 * s.get MGT_HBM_PART.DIR_GIB 0)).find? fun d =>
      s.flag HRT_HOME.VALID d && decide (s.get HRT_HOME.L1_IDX d = line / 2 ^ 24)).map fun d =>
    dirBase + d * 0x8000000 + line % 2 ^ 24 * 8

/-- The stable states of a directory entry (R219). -/
inductive DirState where
  | i | s | o | t | p
  deriving DecidableEq, Repr

/-- A directory entry read out (R218): its state, the agents of a precise list, the groups of a coarse vector, and PCAUSE. -/
structure DirEntry where
  state : DirState
  coarse : Bool
  agents : List Nat
  groups : List Nat
  cause : Nat
  deriving DecidableEq, Repr

/-- An entry with no copy. -/
def dirI : DirEntry := ⟨.i, false, [], [], 0⟩
/-- An entry owned by an agent. -/
def dirO (a : Nat) : DirEntry := ⟨.o, false, [a], [], 0⟩
/-- An entry whose data is lost. -/
def dirP (cause : Nat) : DirEntry := ⟨.p, false, [], [], cause⟩

/-- A directory entry from its word. -/
def dirDecode (w : Word) : DirEntry :=
  let st := match w.field 2 0 with
    | 1 => DirState.s
    | 2 => DirState.o
    | 3 => DirState.t
    | 4 => DirState.p
    | _ => DirState.i
  let coarse := decide (w.field 3 3 = 1)
  ⟨st, coarse, if coarse then [] else (List.range (min 4 (w.field 6 4))).map fun j => w.field (17 + 11 * j) (7 + 11 * j),
    if coarse then (List.range 44).filter fun k => w.field (7 + k) (7 + k) = 1 else [], w.field 53 51⟩

/-- The word of a directory entry (R218). -/
def dirEncode (e : DirEntry) : Word :=
  let st := match e.state with
    | .i => 0
    | .s => 1
    | .o => 2
    | .t => 3
    | .p => 4
  let shr := if e.coarse then (e.groups.map fun k => 2 ^ (7 + k)).sum
    else ((e.agents.take 4).mapIdx fun j a => a % 2048 * 2 ^ (7 + 11 * j)).sum
  word (st + bit e.coarse * 8 + (if e.coarse then 0 else min 4 e.agents.length) * 16 + shr + e.cause % 8 * 2 ^ 51)

/-- An agent's group (R218). -/
def groupOf (a : Nat) : Nat := a / 47

/-- A sharer added to an entry: a fifth turns a precise list coarse (R219). -/
def addSharer (e : DirEntry) (a : Nat) : DirEntry :=
  if e.coarse then { e with state := .s, groups := if e.groups.contains (groupOf a) then e.groups else e.groups ++ [groupOf a] }
  else if e.agents.contains a then { e with state := .s }
  else if e.agents.length < 4 then { e with state := .s, agents := e.agents ++ [a] }
  else ⟨.s, true, [], ((e.agents ++ [a]).map groupOf).dedup, 0⟩

/-- The addition turns the entry coarse. -/
def turnsCoarse (e : DirEntry) (a : Nat) : Bool := !e.coarse && !e.agents.contains a && decide (4 ≤ e.agents.length)

/-- Agents removed from an entry (R219): an S list that empties leaves the line in I; coarse bits stay. -/
def dropAgents (e : DirEntry) (gone : List Nat) : DirEntry :=
  let l := e.agents.filter fun a => !gone.contains a
  match e.state with
  | .s => if e.coarse then e else if l.isEmpty then dirI else { e with agents := l }
  | .o => if l.isEmpty then dirI else e
  | _ => e

/-- The admitted agents an entry names: its list, or every admitted agent of its groups (R227). -/
def State.sharers (s : State) (e : DirEntry) : List Nat :=
  if e.coarse then e.groups.flatMap fun k => ((List.range 47).map (47 * k + ·)).filter fun a => decide (a < 2048) && s.flag HRT_AGENT.VALID a
  else e.agents

/-! ### The directory cache (R220) -/

/-- The set of a directory block in a slice's cache. -/
def dirSet (n addr : Nat) : Nat := 4096 * n + addr / 64 % 4096

/-- The blocks of a set, most recently used first. -/
def State.dirBlocks (s : State) (k : Nat) : List DirBlock := Tbl.rd (fun _ => []) s.dirCache k

/-- The blocks of a set replaced. -/
def State.setDirBlocks (s : State) (k : Nat) (l : List DirBlock) : State := { s with dirCache := Tbl.wr (fun _ => []) s.dirCache k l }

/-- The line with an entry at an HBM address is in T. -/
def State.inT (s : State) (addr : Nat) : Bool := s.txns.any fun t => s.dirAddr (t.req.poa / 64) = some addr

/-- A block may be evicted: it holds no entry in T. -/
def State.evictable (s : State) (b : DirBlock) : Bool := (List.range 8).all fun j => !s.inT (64 * b.addr + 8 * j)

/-- A block written back to HBM where it changed. -/
def State.writeBack (s : State) (b : DirBlock) : State :=
  if b.dirty then ((List.range 8).foldl (fun t j => t.setHbm64 (64 * b.addr + 8 * j) (b.entries.getD j 0)) s).hbmCount (64 * b.addr) true else s

/-- A block read from HBM into the cache, in place of the least recently used of sixteen that holds no entry in T (R220). -/
def State.dirFill (s : State) (n addr : Nat) : State :=
  let k := dirSet n addr
  let l := s.dirBlocks k
  let a := addr / 64
  if l.any fun b => b.addr = a then s
  else
    let new : DirBlock := ⟨a, (List.range 8).map fun j => s.hbm64 (64 * a + 8 * j), false⟩
    let s := (((s.count HRT_CNT0.DC_MISS n).tally 0x202 (n / 4) (n % 4) n).fixed 74 (n / 4)).hbmCount (64 * a) false
    if l.length < 16 then s.setDirBlocks k (new :: l)
    else match l.reverse.find? s.evictable with
      | some b => (s.writeBack b).setDirBlocks k (new :: l.erase b)
      | none => s.setDirBlocks k (new :: l)

/-- A directory access (R220): a hit is counted, a miss filled; the block becomes the most recently used. -/
def State.dirTouch (s : State) (n addr : Nat) : State :=
  let k := dirSet n addr
  match (s.dirBlocks k).find? fun b => b.addr = addr / 64 with
  | some b => (((s.count HRT_CNT0.DC_HIT n).tally 0x201 (n / 4) (n % 4) n).fixed 73 (n / 4)).setDirBlocks k (b :: (s.dirBlocks k).erase b)
  | none => s.dirFill n addr

/-- The entry at an HBM address as the cache or HBM holds it. -/
def State.dirWord (s : State) (n addr : Nat) : Word :=
  match (s.dirBlocks (dirSet n addr)).find? fun b => b.addr = addr / 64 with
  | some b => b.entries.getD (addr / 8 % 8) 0
  | none => s.hbm64 addr

/-- The ECC condition that a read of an entry meets in HBM; none where the block is cached (R234). -/
def State.dirEcc (s : State) (n addr : Nat) : Nat :=
  if (s.dirBlocks (dirSet n addr)).any fun b => b.addr = addr / 64 then 0 else Tbl.rd (fun _ => 0) s.hbmEcc (addr / 64)

/-- An entry written: in its cached block, else in HBM. -/
def State.setDir (s : State) (n addr : Nat) (w : Word) : State :=
  let k := dirSet n addr
  if (s.dirBlocks k).any fun b => b.addr = addr / 64 then
    s.setDirBlocks k ((s.dirBlocks k).map fun b => if b.addr = addr / 64 then { b with entries := b.entries.set (addr / 8 % 8) w, dirty := true } else b)
  else s.setHbm64 addr w

/-- An entry written through to HBM as well (R387). -/
def State.setDirThrough (s : State) (n addr : Nat) (w : Word) : State := ((s.setDir n addr w).setHbm64 addr w).hbmCount addr true

/-- A change adds a holder or enters P (R387): a new sharer or group, a new owner, P. -/
def addsHolder (old new : DirEntry) : Bool :=
  (new.state = .p && old.state ≠ .p) || (new.state = .o && old.state ≠ .o) ||
    (new.agents.any fun a => !old.agents.contains a) || (new.groups.any fun k => !old.groups.contains k)

/-- An entry updated: written through where R387 asks for it. -/
def State.updDir (s : State) (n addr : Nat) (new : DirEntry) : State :=
  if addsHolder (dirDecode (s.dirWord n addr)) new then s.setDirThrough n addr (dirEncode new) else s.setDir n addr (dirEncode new)

/-! ### Transactions -/

/-- The transaction of a line. -/
def State.txn (s : State) (line : Nat) : Option Txn := s.txns.find? fun t => t.req.poa / 64 = line

/-- A transaction replaced. -/
def State.setTxn (s : State) (line : Nat) (x : Txn) : State :=
  { s with txns := s.txns.map fun t => if t.req.poa / 64 = line then x else t }

/-- TRK_USED of a slice. -/
def State.showTrackers (s : State) (n : Nat) : State := s.set HRT_SLICE_STAT.TRK_USED n (s.txns.filter fun t => t.slice = n).length

/-- A transaction that has not started. -/
def newTxn (n : Nat) (q : HomeReq) (wait : List HomeReq) : Txn := ⟨n, q, 0, false, [], .none, none, 0, 0, false, wait⟩

/-- A slice event 160 + 4n + k. -/
def sliceEvent (n k : Nat) : Nat := 160 + 4 * n + k

/-- PROTO_ERR or LATE_RSP counted, event 160 + 4n + 1 (R228, R235). -/
def State.protoErr (s : State) (n : Nat) (F : Fld) (line : Nat) : State := (s.count F n).cause (sliceEvent n 1) 0 line

/-- A line becomes P (R219, R234 to R236): counted by cause, logged while PEND is 0, event 160 + 4n + 0, or + 2 for a directory error. -/
def State.poisonLine (s : State) (n line cause agent : Nat) : State :=
  let s := s.tally 0x208 (n / 4) (n % 4) n
  let s := match cause with
    | 1 => s.count HRT_CNT2.TMO_POISON n
    | 2 => s.count HRT_CNT2.HOST_POISON n
    | _ => s
  let s := if s.flag HRT_POISON_LOG.PEND n then s
    else
      let s := s.set HRT_POISON_LOG.LINE n line
      let s := s.set HRT_POISON_LOG.CAUSE n cause
      let s := s.set HRT_POISON_LOG.CAID n (if cause = 3 ∨ cause = 4 then 0 else agent)
      s.set HRT_POISON_LOG.PEND n 1
  if cause = 4 then s else s.cause (sliceEvent n 0) 1 line

/-- A message of a slice to an agent, or to the engine or session that asked. -/
def State.sendHome (s : State) (t : Txn) (m : HomeMsg) : State := s.emit (homeOut t.slice t.req.agent (t.req.poa / 64) t.req.tag m)

/-- A write in a slice's buffer until its expander answers (R224). -/
def State.keepWrite (s : State) (t : Txn) (d : List Byte) : State := { s with wbuf := s.wbuf ++ [(t.slice, t.req.poa / 64, t.req.tag, d)] }

/-- The data that a slice's buffer holds for a line: its newest whole line (R224). -/
def State.bufferedLine (s : State) (line : Nat) : Option (List Byte) :=
  ((s.wbuf.filter fun w => w.2.1 = line && decide (64 ≤ w.2.2.2.length)).getLast?).map (·.2.2.2)

/-- An access of a slice to its expander, at the target and device address the chip's own remap gives now (R242, R254): a write marks its blocks or joins the granule's hold;
one that remap does not map is answered as the Slag sink answers. -/
def State.expander (s : State) (t : Txn) (data : Option (List Byte)) : State × ExpStage :=
  let line := t.req.poa / 64
  let x := s.translate (s.sliceRegion t.slice) t.req.poa none true
  if x.cause ≠ 0 then (s, .slag)
  else
    match data with
    | none => ((s.access (4 + t.slice) t.req.tag x.target none).emit (homeOut t.slice none line t.req.tag (.hdmRead x.target x.ld x.dev)), .issued)
    | some d =>
      let s := s.keepWrite t d
      let send := fun (u : State) => ((u.access (4 + t.slice) t.req.tag x.target none).emit (homeOut t.slice none line t.req.tag (.hdmWrite x.target x.ld x.dev d)), ExpStage.issued)
      match x.l2, s.migSlot (t.req.poa / 2 ^ 30) (t.req.poa / 2 ^ 21 % 512) with
      | some w, some k =>
        if l2Hold w then
          let part : Part := ⟨⟨.session 0, .mem, .poa t.req.poa, true, false, 64, d, 2 ^ 64 - 1, t.req.tag, false, false⟩, 0, 0, 64, some t.req.poa, x.target, x.ld, x.dev, true⟩
          (s.migHold (4 + t.slice) k part, .issued)
        else if l2Mig w then send (s.migMark (4 + t.slice) k t.req.poa 64) else send s
      | _, _ => send s

/-- Every snoop is answered. -/
def allAnswered (t : Txn) : Bool :=
  t.snoops.all fun x => match x.stage with
    | .done _ => true
    | _ => false

/-- The request writes the line. -/
def reqWrites (q : HomeReq) : Bool :=
  match q.op with
  | .wr _ | .wbI | .wbS => true
  | _ => false

/-- Once every snoop is answered, the expander access that waited for them starts: none where the owner wrote back and the request reads (R227). -/
def State.advance (s : State) (line : Nat) : State :=
  match s.txn line with
  | none => s
  | some t =>
    if t.exp = .later ∧ allAnswered t then
      match t.req.op with
      | .wr _ => let (s, e) := s.expander t (some t.req.data); s.setTxn line { t with exp := e }
      | _ =>
        match t.wb with
        | some d => s.setTxn line { t with exp := .data d false }
        | none => let (s, e) := s.expander t none; s.setTxn line { t with exp := e }
    else s

/-- A snoop is answered (R228). -/
def State.answerSnoop (s : State) (line agent : Nat) (r : BiRsp) : State :=
  match s.txn line with
  | none => s
  | some t =>
    (s.setTxn line { t with snoops := t.snoops.map fun x => if x.agent = agent then { x with stage := .done r } else x }).advance line

/-- The owner's data is lost (R228): the transaction will leave the line in P. -/
def State.failTxn (s : State) (line cause agent : Nat) : State :=
  match s.txn line with
  | none => s
  | some t => if t.fail = 0 then s.setTxn line { t with fail := cause, failAgent := agent } else s

/-- A SNP_DEAD (R228): BIRspI for a sharer; the owner's line is lost. -/
def State.snpDead (s : State) (line agent : Nat) : State :=
  match s.txn line with
  | none => s
  | some t =>
    let e := dirDecode (word t.entry)
    let s := if e.state = .o && !t.noEntry && e.agents.contains agent then s.failTxn line 2 agent else s
    s.answerSnoop line agent .i

/-- The minimum hold applies (R225): never in PROVISION, RECOVERY or TEST. -/
def State.holdApplies (s : State) (n : Nat) : Bool := !s.classOrderMode (s.sliceRegion n)

/-- A snoop leaves the slice and its timeout starts (R226). -/
def State.sendSnoop (s : State) (t : Txn) (agent : Nat) (op : SnpOp) : State :=
  let line := t.req.poa / 64
  let s := s.setTxn line { t with snoops := t.snoops.map fun x => if x.agent = agent then { x with stage := .sent s.clk } else x }
  (((s.count HRT_CNT1.SNP_SENT t.slice).tally 0x203 (t.slice / 4) (t.slice % 4) t.slice).fixed 75 (t.slice / 4)).emit (homeOut t.slice (some agent) line 0 (.biSnp op))

/-- The snoops a transaction needs, each queued, deferred by a hold, or answered at once where its agent is gone (R225, R227, R230, R233). -/
def State.planSnoops (s : State) (line : Nat) (agents : List Nat) (op : SnpOp) : State :=
  agents.foldl (fun s a =>
    match s.txn line with
    | none => s
    | some t =>
      let held := s.homeHolds.contains (line, a)
      let s := s.setTxn line { t with snoops := t.snoops ++ [⟨a, op, if held then .deferred else .queued, false⟩] }
      if !s.flag HRT_AGENT.VALID a then s.answerSnoop line a .i
      else if s.flag HRT_AGENT.REMOVING a then s.snpDead line a
      else if held then (s.count HRT_CNT3.HOLD_DEFER t.slice).tally 0x205 (t.slice / 4) (t.slice % 4) t.slice else s) s

/-- The snoops and the expander access of a request in a state (R227): agents, snoop type, expander stage. -/
def State.plan (s : State) (e : DirEntry) (q : HomeReq) : List Nat × SnpOp × ExpStage :=
  let h := q.agent
  let mine := fun a => h = some a
  let others := (s.sharers e).filter fun a => !mine a
  match e.state, q.op with
  | .s, .rdA => (others, .inv, .issued)
  | .s, .invA => (others, .inv, if (s.sharers e).any mine then .none else .issued)
  | .s, .wr _ => (s.sharers e, .inv, .later)
  | .o, op =>
    if e.agents.any mine then
      ([], .inv, .issued)
    else match op with
      | .rdS => (e.agents, .data, .later)
      | .rdI => (e.agents, .cur, .later)
      | _ => (e.agents, .inv, .later)
  | _, _ => ([], .inv, .issued)

/-- The response without a grant: poisoned MemData, or Cmp for a write. The data is the device's where it answered, all ones from the sink (R163), else open. -/
def denied (t : Txn) : List HomeMsg :=
  if reqWrites t.req then [.cmp]
  else [.memData true (match t.exp with
    | .data d _ => d
    | .slag => List.replicate 64 255
    | _ => Config.lostLine (t.req.poa / 64))]

/-- The home of a slice number is lost: the NI that serves it is quenched, its region fenced or the slice out of service (R15, R387). -/
def State.homeDown (s : State) (n : Nat) : Bool :=
  match s.endpointNi (128 + n) with
  | some k => s.quenched k
  | none => true

/-- A request that meets a lost home is answered as the Slag sink of its region answers, with the entry not changed (R15, R163, R387). -/
def State.homeSlag (s : State) (t : Txn) : State :=
  let r := s.sliceRegion t.slice
  let s := (denied { t with exp := .slag }).foldl (fun u m => u.sendHome t m) s
  let s := if reqWrites t.req then s.count ANV_SLAG_CNT0.WR_DISC r else s.count ANV_SLAG_CNT0.RD_ANS r
  s.fixed 79 r

/-- A transaction's tracker is freed (R220, R224): the head of its wait list takes the line, or a request that waits for a tracker. -/
def State.freeLine (s : State) (t : Txn) : State :=
  let n := t.slice
  let rest := s.txns.filter fun x => x.req.poa / 64 ≠ t.req.poa / 64
  let s := match t.waiting with
    | q :: more => { s with txns := rest ++ [newTxn n q more] }
    | [] =>
      match s.trkWait.find? (fun (x : Nat × HomeReq) => x.1 = n && !(rest.any fun (y : Txn) => y.req.poa / 64 = x.2.poa / 64)) with
      | some x => { s with txns := rest ++ [newTxn n x.2 []], trkWait := s.trkWait.erase x }
      | none => { s with txns := rest }
  s.showTrackers n

/-- A request whose directory block lies in a fenced region's channel (R386): answered as the Slag sink answers, with the entry not changed (log entry 40). -/
def State.fencedTxn (s : State) (t : Txn) : State := (s.homeSlag t).freeLine t

/-- A transaction starts (R220, R224, R227, R234): its line goes to T, its directory entry is read (an uncorrectable one snoops every admitted agent), and its snoops and
expander access begin. A banked slice has it wait (R376). -/
def State.startTxn (s : State) (line : Nat) : State :=
  match s.txn line, s.dirAddr line with
  | some t, some addr =>
    if t.started || s.banked (144 + t.slice) || s.homeDown t.slice then s
    else if s.hbmFenced (s.sliceRegion t.slice) addr then s.fencedTxn t
    else
      let n := t.slice
      let bad := s.dirEcc n addr
      let s := s.dirTouch n addr
      let w := s.dirWord n addr
      let e := dirDecode w
      let s := if bad = 1 then ({ s with hbmEcc := Tbl.wr (fun _ => 0) s.hbmEcc (addr / 64) 0 }).cause (sliceEvent n 2) 0 line else s
      if bad = 2 then
        let s := { s with hbmEcc := Tbl.wr (fun _ => 0) s.hbmEcc (addr / 64) 0 }
        let s := (s.count HRT_CNT3.DIR_ECC n).cause (sliceEvent n 2) 1 line
        let s := s.setTxn line { t with started := true, entry := 0, noEntry := true, exp := .later }
        let all := (s.listed .HRT_AGENT).filter fun a => s.flag HRT_AGENT.VALID a
        (s.planSnoops line all .inv).advance line
      else
        let (agents, op, exp) := s.plan e t.req
        let t := { t with started := true, entry := w.toNat, exp := if exp = .later then .later else .none }
        let (s, t) :=
          if exp = .issued then
            let (s, x) := s.expander t (if (reqWrites t.req) then some t.req.data else none)
            (s, { t with exp := x })
          else (s, t)
        ((s.setTxn line t).planSnoops line agents op).advance line
  | _, _ => s

/-! ### Completion (R227, R228) -/

/-- What a transaction leaves (R227): the next entry and the response, from the entry it started in, with the snoop answers and any data. -/
structure Settled where
  next : DirEntry
  msgs : List HomeMsg
  grant : Bool
  deriving DecidableEq, Repr

/-- The answer of an owner's snoop. -/
def ownerAnswer (t : Txn) (o : Nat) : BiRsp :=
  match t.snoops.find? fun x => x.agent = o with
  | some x => match x.stage with
    | .done r => r
    | _ => .i
  | none => .i

/-- The grant of a read by requester `h`: data with its completion, or the completion alone where the requester held the line. -/
def reads (data : Option (List Byte)) (c : HomeMsg) : List HomeMsg :=
  match data with
  | some d => [.memData false d, c]
  | none => [c]

/-- R227 for answers that keep the data valid. -/
def settle (t : Txn) (e : DirEntry) (data : Option (List Byte)) : Settled :=
  let h := t.req.agent
  let own := fun (a : Option Nat) => match a with
    | some x => dirO x
    | none => dirI
  match e.state, t.req.op with
  | .p, .wr full => ⟨if full then dirI else e, [.cmp], false⟩
  | .p, _ => ⟨e, [.memData true (data.getD []), .cmp], false⟩
  | .o, op =>
    let o := e.agents.headD 0
    if h = some o then
      match op with
      | .rdS => ⟨⟨.s, false, [o], [], 0⟩, reads data .cmpS, true⟩
      | .rdA | .invA => ⟨dirO o, reads data .cmpE, true⟩
      | .rdI => ⟨e, reads data .cmp, false⟩
      | _ => ⟨e, [.cmp], false⟩
    else
      let r := ownerAnswer t o
      match op with
      | .rdS =>
        let kept := if r = .i then dirI else ⟨.s, false, [o], [], 0⟩
        ⟨match h with
          | some a => addSharer kept a
          | none => kept, reads data .cmpS, true⟩
      | .rdA | .invA => ⟨own h, reads data .cmpE, true⟩
      | .rdI => ⟨match r with
          | .e => e
          | .s => ⟨.s, false, [o], [], 0⟩
          | .i => dirI, reads data .cmp, false⟩
      | _ => ⟨dirI, [.cmp], false⟩
  | st, op =>
    let base := if st = .s then e else dirI
    match op with
    | .rdS => ⟨match h with
        | some a => addSharer base a
        | none => base, reads data .cmpS, true⟩
    | .rdA | .invA => ⟨own h, reads data .cmpE, true⟩
    | .rdI => ⟨base, reads data .cmp, false⟩
    | _ => ⟨dirI, [.cmp], false⟩

/-- The next entry with the requester's grant omitted (R228: a Slag answer). -/
def ungranted (t : Txn) (e : DirEntry) : DirEntry :=
  match e.state, t.req.op with
  | .p, _ => e
  | .s, .rdS => e
  | .s, .rdI => e
  | .s, _ => dirI
  | .o, op =>
    let o := e.agents.headD 0
    if t.req.agent = some o then e
    else match op, ownerAnswer t o with
      | .rdS, .i => dirI
      | .rdS, _ => ⟨.s, false, [o], [], 0⟩
      | .rdI, .e => e
      | .rdI, .s => ⟨.s, false, [o], [], 0⟩
      | _, _ => dirI
  | _, _ => dirI

/-- The outcome of a finished transaction, and the cause for which its line becomes P (0 none). -/
def finish (t : Txn) : Settled × Nat :=
  let e := if t.noEntry then (if t.wb.isSome then dirI else dirP 4) else dirDecode (word t.entry)
  let fresh := if t.noEntry && t.wb.isNone then 4 else 0
  if t.fail ≠ 0 then (⟨dirP t.fail, denied t, false⟩, t.fail)
  else match t.exp with
    | .slag => (⟨ungranted t e, denied t, false⟩, 0)
    | .data d true =>
      if e.state = .p then (settle t e (some d), fresh)
      else if (reqWrites t.req) then (settle t e none, fresh)
      else (⟨dirP 3, denied t, false⟩, 3)
    | .data d false => (settle t e (some d), fresh)
    | _ => (settle t e none, fresh)

/-- Every answer is in: the snoops', and the expander's. A write needs none: it is observed once the slice holds its data (R224). -/
def ready (t : Txn) : Bool :=
  t.started && allAnswered t && (match t.exp with
    | .issued => reqWrites t.req
    | .later => false
    | _ => true)

/-- A transaction completes (R225, R228): its response goes out, the entry is updated, a grant starts its hold, the tracker is freed and the head of the wait list
takes the line. -/
def State.completeTxn (s : State) (line : Nat) : State :=
  match s.txn line with
  | none => s
  | some t =>
    if !ready t || s.homeDown t.slice then s
    else
      let n := t.slice
      let (o, cause) := finish t
      let cause := if o.next.state = .p then cause else 0
      let s := match s.dirAddr line with
        | some a => s.updDir n a o.next
        | none => s
      let s := if o.next.coarse && !(dirDecode (word t.entry)).coarse then s.count HRT_CNT3.COARSE n else s
      let s := o.msgs.foldl (fun u m => u.sendHome t m) s
      let s := if cause ≠ 0 then s.poisonLine n line cause t.failAgent else s
      let s := match t.req.agent with
        | some a => if o.grant && s.holdApplies n then { s with homeHolds := s.homeHolds ++ [(line, a)] } else s
        | none => s
      s.freeLine t

/-! ### Commands -/

/-- A transaction starts (R227). -/
def transactionStart (line : Nat) (s : State) : State := s.startTxn line

/-- A block that misses is read from HBM (R220). -/
def directoryCacheMiss (line : Nat) (s : State) : State :=
  match s.dirAddr line with
  | some a => s.dirFill (homeSlice (64 * line)) a
  | none => s

/-- A grant's hold ends (R225): with the last for that agent on that line the snoops it deferred are sent. -/
def holdExpiry (line agent : Nat) (s : State) : State :=
  let s := { s with homeHolds := s.homeHolds.erase (line, agent) }
  match s.txn line with
  | none => s
  | some t =>
    if s.homeHolds.contains (line, agent) then s
    else match t.snoops.find? fun x => x.agent = agent && decide (x.stage = .deferred) with
    | some x => s.sendSnoop t agent x.op
    | none => s

/-- A snoop leaves the slice (R226), once a spare that took the slice over has let the holds it may have begun pass (R394). -/
def bisnpSend (line agent : Nat) (s : State) : State :=
  match s.txn line with
  | none => s
  | some t =>
    if s.clk < Tbl.rd (fun _ => 0) s.spareUntil t.slice then s
    else match t.snoops.find? fun x => x.agent = agent && decide (x.stage = .queued) with
    | some x => s.sendSnoop t agent x.op
    | none => s

/-- A snoop of an agent that is outstanding. -/
def outstanding (t : Txn) (agent : Nat) : Option Snoop :=
  t.snoops.find? fun x => x.agent = agent && (match x.stage with
    | .sent _ => true
    | _ => false)

/-- A BIRsp arrives (R228, R230): recorded, taken as BIRspI with PROTO_ERR where it is not valid for a BISnpInv, discarded with LATE_RSP where no snoop is outstanding; a BIRspI of an
agent that wrote nothing back is a stale entry. -/
def birspReceived (line agent : Nat) (rsp : BiRsp) (s : State) : State :=
  let n := homeSlice (64 * line)
  match s.txn line with
  | none => s.protoErr n HRT_CNT3.LATE_RSP line
  | some t =>
    match outstanding t agent with
    | none => s.protoErr n HRT_CNT3.LATE_RSP line
    | some x =>
      let bad := decide (x.op = .inv) && decide (rsp ≠ .i)
      let s := if bad then s.protoErr n HRT_CNT2.PROTO_ERR line else s
      let s := if rsp = .i && !x.wrote && !t.noEntry then (s.count HRT_CNT1.SNP_MISS n).tally 0x204 (n / 4) (n % 4) n else s
      s.answerSnoop line agent (if bad then .i else rsp)

/-- A SNP_DEAD arrives (R228). -/
def snpDeadReceived (line agent : Nat) (s : State) : State :=
  match s.txn line with
  | none => s
  | some t => if (outstanding t agent).isSome then s.snpDead line agent else s

/-- A snoop's timeout (R226, R228): every agent still outstanding is removed, and the line will be P with TIMEOUT. -/
def bisnpTimeout (line agent : Nat) (s : State) : State :=
  match s.txn line with
  | none => s
  | some t =>
    if (outstanding t agent).isNone then s
    else
      let out := (t.snoops.filter fun x => match x.stage with
        | .done _ => false
        | _ => true).map (·.agent)
      let s := (s.failTxn line 1 agent).each out fun a u => u.answerSnoop line a .i
      s.count HRT_AGENT.TMO_CNT agent

/-- A writeback arrives (R224, R227, R228): from a snooped agent it is performed and kept for the requester; from the owner of a stable line it is performed and leaves I or S; any other
is discarded with PROTO_ERR. Each is answered Cmp. -/
def writebackReceived (q : HomeReq) (s : State) : State :=
  let line := q.poa / 64
  let n := homeSlice q.poa
  let own : Txn := newTxn n q []
  let stray := fun (u : State) => (u.protoErr n HRT_CNT2.PROTO_ERR line).sendHome own .cmp
  match s.txn line, q.agent with
  | some t, some a =>
    if t.started && t.snoops.any fun x => x.agent = a then
      let (s, _) := s.expander own (some q.data)
      let s := s.setTxn line { t with wb := some q.data, snoops := t.snoops.map fun x => if x.agent = a then { x with wrote := true } else x }
      s.sendHome own .cmp
    else stray s
  | none, some a =>
    match s.dirAddr line with
    | none => stray s
    | some addr =>
      let s := s.dirTouch n addr
      let e := dirDecode (s.dirWord n addr)
      if e.state = .o ∧ e.agents = [a] then
        let (s, _) := s.expander own (some q.data)
        let e' : DirEntry := if q.op = .wbS then ⟨.s, false, [a], [], 0⟩ else dirI
        (s.setDir n addr (dirEncode e')).sendHome own .cmp
      else stray s
  | _, none => stray s

/-- A speculative read is served (R265): its entry hits in the directory cache in state I, S or P, with no transaction on the line. -/
def State.servesSpec (s : State) (n poa : Nat) : Bool :=
  match s.dirAddr (poa / 64) with
  | none => true
  | some a =>
    match (s.dirBlocks (dirSet n a)).find? fun b => b.addr = a / 64 with
    | none => false
    | some b =>
      let e := dirDecode (b.entries.getD (a / 8 % 8) 0)
      (s.txn (poa / 64)).isNone && (e.state = .i || e.state = .s || e.state = .p)

/-- A request reaches its home slice (R220, R224): its line goes to T at once, it joins the line's wait list, or it waits for a tracker; a
writeback is handled on arrival (R228); one to a lost home goes to the sink (R15). -/
def hearthRequestArrival (q : HomeReq) (s : State) : State :=
  let line := q.poa / 64
  let n := homeSlice q.poa
  let s := s.tally 0x200 (n / 4) (n % 4) n
  if s.homeDown n then s.homeSlag (newTxn n q [])
  else if q.op = .wbI ∨ q.op = .wbS then writebackReceived q s
  else if q.spec ∧ !s.servesSpec n q.poa then s.emit (homeOut n q.agent line q.tag .defer)
  else match s.txn line with
  | some t => (s.setTxn line { t with waiting := t.waiting ++ [q] }).tally 0x206 (n / 4) (n % 4) n
  | none =>
    if 1024 ≤ (s.txns.filter fun t => t.slice = n).length then { s with trkWait := s.trkWait ++ [(n, q)] }
    else ({ s with txns := s.txns ++ [newTxn n q []] }).showTrackers n

/-- A BIConflict arrives (R229): BIConflictAck goes out behind every completion already sent to the agent. -/
def biconflict (line agent tag : Nat) (s : State) : State :=
  let n := homeSlice (64 * line)
  (s.count HRT_CNT2.CONFLICT n).emit (homeOut n (some agent) line tag .biConflictAck)

/-- The expander answers (R224, R228): a write's completion, without data, empties its place in the write buffer, and a flush that waited for it goes on; a read's data, poisoned data, or the
Slag sink's answer in its place. Where the buffer still holds the line, the read returns that data. -/
def expanderResponse (line : Nat) (data : List Byte) (poison : Bool) (slag : Nat) (s : State) : State :=
  match if data.isEmpty then s.wbuf.find? (·.2.1 = line) else none with
  | some w =>
    let s := ({ s with wbuf := s.wbuf.erase w }).accessDone fun a => a.pt = 4 + w.1 && a.tag = w.2.2.1
    if s.wbuf.isEmpty then s.each (s.portHold.map (·.1)) fun p t => t.releaseKept p else s
  | none =>
    match s.txn line with
    | none => s
    | some t =>
      let s := s.accessDone (fun a => a.pt = 4 + t.slice && a.tag = t.req.tag)
      if t.exp = .issued then
        s.setTxn line { t with exp := if slag ≠ 0 then .slag else match s.bufferedLine line with
          | some d => .data d false
          | none => .data data poison }
      else s

/-- A transaction completes (R228). -/
def transactionComplete (line : Nat) (s : State) : State := s.completeTxn line

/-! ### Agents (R231 to R233) -/

/-- The chip allocates CAIDs itself: alone, or as acting manager (R231). -/
def State.allocates (s : State) : Bool := s.get MGT_FAB_STAT.ROLE_NOW 0 = 0 || s.get MGT_FAB_STAT.ROLE_NOW 0 = 3

/-- The lowest CAID neither admitted nor in removal. -/
def State.freeCaid (s : State) : Option Nat := (List.range 2048).find? fun c => !s.flag HRT_AGENT.VALID c && !s.flag HRT_AGENT.REMOVING c

/-- An admission refused (R232). -/
def State.admitRefused (s : State) (vcs : Nat) : State := (s.count HRT_ADMIT.ADMIT_REFUSED 0).notice (sliceEvent 0 3) 0 vcs

/-- A CAID admitted (R231): HRT_AGENT, the count in use, and for an agent of this chip its VCS entry. -/
def State.admitAgent (s : State) (c feid : Nat) : State :=
  let here := decide (feid / 512 = s.get MGT_CHIP_INFO.CHIP_ID 0)
  let s := s.set HRT_AGENT.PORT_FEID c feid
  let s := s.set HRT_AGENT.VALID c 1
  let s := s.set HRT_AGENT.REMOVING c 0
  let s := s.set HRT_AGENT.LOCAL c (bit here)
  let s := s.set HRT_AGENT.TMO_CNT c 0
  let s := s.set HRT_ADMIT.IN_USE 0 (s.get HRT_ADMIT.IN_USE 0 + 1)
  match (if here then s.vcsOf (feid % 512) else none) with
  | some v => ({ s with caidWait := s.caidWait.filter (· ≠ v) }).set VCS_ENTRY.CAID v c
  | none => s

/-- A VCS asks for a CAID (R231, R232): the chip takes the lowest free one itself, or refuses, or asks the manager. -/
def State.requestCaid (s : State) (vcs : Nat) : State :=
  if s.allocates then
    match s.freeCaid with
    | some c => (s.admitAgent c (s.localFeid (s.get VCS_ENTRY.USP_PORT vcs))).carryAgent c
    | none => s.admitRefused vcs
  else if s.caidWait.contains vcs then s
  else ({ s with caidWait := s.caidWait ++ [vcs] }).emit (.caidRequest vcs)

/-- The HDM-DB decoders of a VCS that wait for its CAID show Error Not Committed (R75, R232). -/
def State.failCommit (s : State) (vcs : Nat) : State :=
  let mine := fun (k : Nat) => decide (k / 16 = vcs)
  let s := (s.commitWait.filter mine).foldl (fun t k => t.setDecoder vcs (k % 16) { t.decoder vcs (k % 16) with error := true }) s
  { s with commitWait := s.commitWait.filter fun k => !mine k }

/-- A chip requests a CAID (R231). -/
def caidRequest (vcs : Nat) (s : State) : State := s.requestCaid vcs

/-- A CAID that no agent has is installed (R231), and the commits that waited for it take effect. -/
def State.installCaid (s : State) (agent feid : Nat) : State :=
  if s.flag HRT_AGENT.VALID agent then s
  else
    let v := if feid / 512 = s.get MGT_CHIP_INFO.CHIP_ID 0 then s.vcsOf (feid % 512) else none
    let s := s.admitAgent agent (feid % 2 ^ 17)
    match v with
    | some vcs =>
      let mine := fun (k : Nat) => decide (k / 16 = vcs)
      let s := (s.commitWait.filter mine).foldl (fun t k => t.setDecoder vcs (k % 16) { t.decoder vcs (k % 16) with committed := true, error := false }) s
      { s with commitWait := s.commitWait.filter fun k => !mine k }
    | none => s

/-- CAID_INSTALL (R231): the acting manager grants the lowest free CAID alone, and a generation carries it to every chip; another chip installs what it is told. -/
def caidInstall (agent feid : Nat) (s : State) : State :=
  if s.get MGT_FAB_STAT.ROLE_NOW 0 = 3 then
    if s.freeCaid = some agent then (s.installCaid agent feid).carryAgent agent else s
  else s.installCaid agent feid

/-- A CAID not granted within 1 s (R310): the decoder commit fails. -/
def caidRequestTimeout (vcs : Nat) (s : State) : State :=
  if s.caidWait.contains vcs then ({ s with caidWait := s.caidWait.filter (· ≠ vcs) }).failCommit vcs else s

/-- An agent's removal begins (R233): REMOVING is set, its outstanding snoops are answered SNP_DEAD, and a sweep of the directory starts. -/
def State.removeAgent (s : State) (c : Nat) : State :=
  if !s.flag HRT_AGENT.VALID c then s
  else
    let s := s.agentGone c
    let lines := (s.txns.filter fun t => t.snoops.any fun x => x.agent = c && (match x.stage with
      | .done _ => false
      | _ => true)).map fun t => t.req.poa / 64
    s.each lines fun l t => t.snpDead l c

/-- An agent is removed (R233). -/
def agentRemoval (agent : Nat) (s : State) : State := s.removeAgent agent

/-- The addresses of the directory entries that HBM or the cache lists. -/
def State.dirListed (s : State) : List Nat :=
  let top := s.l2Base
  let mem := (s.hbm.filter fun c => decide (dirBase ≤ c.1) && decide (c.1 < top)).map fun c => c.1 / 8 * 8
  let cached := s.dirCache.flatMap fun e => e.2.flatMap fun b => (List.range 8).map fun j => 64 * b.addr + 8 * j
  (mem ++ cached).dedup

/-- The line of a directory entry (R217). -/
def State.lineOf (s : State) (addr : Nat) : Nat :=
  let d := (addr - dirBase) / 0x8000000
  s.get HRT_HOME.L1_IDX d * 2 ^ 24 + (addr - dirBase) % 0x8000000 / 8

/-- The sweep of one entry (R233): the agent's O line becomes P with HOST_LOST; it leaves a precise list; lines in T are the transaction's. -/
def State.sweepEntry (s : State) (agent addr : Nat) : State :=
  let line := s.lineOf addr
  let n := homeSlice (64 * line)
  let e := dirDecode (s.dirWord n addr)
  if s.inT addr then s
  else if e.state = .o ∧ e.agents.contains agent then (s.setDirThrough n addr (dirEncode (dirP 2))).poisonLine n line 2 agent
  else if e.state = .s ∧ !e.coarse ∧ e.agents.contains agent then s.setDir n addr (dirEncode (dropAgents e [agent]))
  else s

/-- An agent's entry is given up (R233): the CAID is free. -/
def State.freeAgent (s : State) (agent : Nat) : State :=
  let s := s.setReg .HRT_AGENT agent 0
  let s := s.set HRT_ADMIT.IN_USE 0 (s.get HRT_ADMIT.IN_USE 0 - 1)
  let s := s.set HRT_ADMIT.REMOVING 0 (s.get HRT_ADMIT.REMOVING 0 - 1)
  { s with sweeping := s.sweeping.filter (· ≠ agent) }

/-- Every home chip has swept (R233): the CAID is free; event 160 + 4n + 3 on H0 of the chip that allocates. -/
def directorySweepComplete (agent : Nat) (s : State) : State :=
  if !s.flag HRT_AGENT.REMOVING agent then s
  else
    let s := s.dirListed.foldl (fun t a => t.sweepEntry agent a) s
    let s := (s.freeAgent agent).carryAgent agent
    if s.allocates then s.notice (sliceEvent 0 3) 0 agent else s

/-- HRT_CMD.READ_DIR (R237): the entry of a line as the cache or HBM holds it, T where a transaction holds the line; the result completes with the command (log entry 26). -/
def readDir (line : Nat) (s : State) : State :=
  let line := line % 2 ^ 40
  let n := homeSlice (64 * line)
  let s := s.resultStart HRT_RES.VALID 0
  let s := s.set HRT_RES.SLICE 0 n
  let s := match s.dirAddr line with
    | none => (s.set HRT_RES.STATUS 0 1).set HRT_RES_DATA.ENTRY 0 0
    | some a =>
      let w := s.dirWord n a
      let w := if (s.txn line).isSome then w.setField 2 0 3 else w
      (s.set HRT_RES.STATUS 0 (if s.dirEcc n a = 2 then 2 else 0)).setReg .HRT_RES_DATA 0 w
  s.resultDone HRT_RES.SEQ HRT_RES.VALID 0

/-- A write of HRT_CFG (R237): not performed outside its ranges. -/
def hrtCfgWrite (value : Word) (s : State) : State :=
  let hold := value.field 10 0
  let tmo := value.field 31 16
  if 32 ≤ hold ∧ hold ≤ 1024 ∧ 2 ≤ tmo then (s.set HRT_CFG.HOLD_NS 0 hold).set HRT_CFG.TMO_US 0 tmo
  else s.refuseWrite .HRT_CFG 0

/-- A W1C write of HRT_POISON_LOG.PEND (R236). -/
def poisonLogClear (n : Nat) (s : State) : State := s.set HRT_POISON_LOG.PEND n 0

/-! ### Meanings -/

/-- HEARTH_REQUEST_ARRIVAL: R196, R215, R216, R217, R220, R223, R224, R228, R234. -/
def execHearthRequestArrival (q : HomeReq) (s : State) : Host.Outcome State Fault Refusal :=
  .next (hearthRequestArrival q s)

/-- TRANSACTION_START: R219, R227, R242. -/
def execTransactionStart (line : Nat) (s : State) : Host.Outcome State Fault Refusal :=
  .next (transactionStart line s)

/-- DIRECTORY_CACHE_MISS: R220, R234, R235. -/
def execDirectoryCacheMiss (line : Nat) (s : State) : Host.Outcome State Fault Refusal :=
  .next (directoryCacheMiss line s)

/-- HOLD_EXPIRY: R225. -/
def execHoldExpiry (line : Nat) (agent : Nat) (s : State) : Host.Outcome State Fault Refusal :=
  run (decide (agent < 2048)) (holdExpiry line agent s)

/-- BISNP_SEND: R226. -/
def execBisnpSend (line : Nat) (agent : Nat) (s : State) : Host.Outcome State Fault Refusal :=
  run (decide (agent < 2048)) (bisnpSend line agent s)

/-- BIRSP_RECEIVED: R228, R230, R234. -/
def execBirspReceived (line : Nat) (agent : Nat) (rsp : BiRsp) (s : State) : Host.Outcome State Fault Refusal :=
  run (decide (agent < 2048)) (birspReceived line agent rsp s)

/-- SNP_DEAD_RECEIVED: R228. -/
def execSnpDeadReceived (line : Nat) (agent : Nat) (s : State) : Host.Outcome State Fault Refusal :=
  run (decide (agent < 2048)) (snpDeadReceived line agent s)

/-- BISNP_TIMEOUT: R226, R228, R234. -/
def execBisnpTimeout (line : Nat) (agent : Nat) (s : State) : Host.Outcome State Fault Refusal :=
  run (decide (agent < 2048)) (bisnpTimeout line agent s)

/-- WRITEBACK_RECEIVED: R224, R228, R234, R235, R254. -/
def execWritebackReceived (q : HomeReq) (s : State) : Host.Outcome State Fault Refusal :=
  .next (writebackReceived q s)

/-- BICONFLICT: R222, R228, R229. -/
def execBiconflict (line : Nat) (agent : Nat) (tag : Nat) (s : State) : Host.Outcome State Fault Refusal :=
  run (decide (agent < 2048)) (biconflict line agent tag s)

/-- EXPANDER_RESPONSE: R228. -/
def execExpanderResponse (line : Nat) (data : List Byte) (poison : Bool) (slag : Nat) (s : State) : Host.Outcome State Fault Refusal :=
  .next (expanderResponse line data poison slag s)

/-- TRANSACTION_COMPLETE: R218, R219, R220, R224, R225, R227, R228, R234, R235, R294, R387. -/
def execTransactionComplete (line : Nat) (s : State) : Host.Outcome State Fault Refusal :=
  .next (transactionComplete line s)

/-- CAID_REQUEST: R231, R232, R235. -/
def execCaidRequest (vcs : Nat) (s : State) : Host.Outcome State Fault Refusal :=
  run (decide (vcs < 64)) (caidRequest vcs s)

/-- CAID_INSTALL: R75, R231. -/
def execCaidInstall (agent : Nat) (feid : Nat) (s : State) : Host.Outcome State Fault Refusal :=
  run (decide (agent < 2048)) (caidInstall agent feid s)

/-- CAID_REQUEST_TIMEOUT: R310. -/
def execCaidRequestTimeout (vcs : Nat) (s : State) : Host.Outcome State Fault Refusal :=
  run (decide (vcs < 64)) (caidRequestTimeout vcs s)

/-- AGENT_REMOVAL: R233, R301. -/
def execAgentRemoval (agent : Nat) (s : State) : Host.Outcome State Fault Refusal :=
  run (decide (agent < 2048)) (agentRemoval agent s)

/-- DIRECTORY_SWEEP_COMPLETE: R233, R235. -/
def execDirectorySweepComplete (agent : Nat) (s : State) : Host.Outcome State Fault Refusal :=
  run (decide (agent < 2048)) (directorySweepComplete agent s)

/-- READ_DIR: R237, R357. -/
def execReadDir (line : Nat) (s : State) : Host.Outcome State Fault Refusal :=
  .next (readDir line s)

/-- HRT_CFG_WRITE: R234, R237. -/
def execHrtCfgWrite (value : Word) (s : State) : Host.Outcome State Fault Refusal :=
  .next (hrtCfgWrite value s)

/-- POISON_LOG_CLEAR: R236. -/
def execPoisonLogClear (n : Nat) (s : State) : Host.Outcome State Fault Refusal :=
  run (decide (n < 16)) (poisonLogClear n s)

end Sys2Proof.Machine
end

