-- ==== Sys2Proof/Machine/Mover.lean ====
section
/-! DEFINITION. The data mover: far accesses issued, answered and delivered (R265 to R267, R272, R283 to R288), and what ends a migration (R243, R250 to R252, R255). -/

namespace Sys2Proof.Machine

/-! ### Migrations -/

/-- The migration in slot k. -/
def State.mig (s : State) (k : Nat) : Option MigRun := Tbl.rd (fun _ => none) s.migs k

/-- The migration in slot k replaced. -/
def State.setMig (s : State) (k : Nat) (m : Option MigRun) : State := { s with migs := Tbl.wr (fun _ => none) s.migs k m }

/-- The migration in slot k changed. -/
def State.modMig (s : State) (k : Nat) (f : MigRun → MigRun) : State := s.setMig k ((s.mig k).map f)

/-- The slot of the migration that an engine runs. -/
def State.slotOfEngine (s : State) (e : Nat) : Option Nat :=
  (List.range 32).find? fun k => s.get RMP_MIG_SLOT0.PHASE k ≠ 0 && s.get RMP_MIG_SLOT0.ENGINE k = e

/-- The resolving points of a slot's granule (R242): the remap stages of the unfenced regions, or the slices for a shared extent. -/
def State.migPoints (s : State) (k : Nat) : List Nat :=
  if s.flag RMP_MIG_SLOT0.SHARED k then ((List.range 16).filter fun n => s.regionState (s.sliceRegion n) ≠ 1).map (4 + ·)
  else (List.range 4).filter fun r => s.regionState r ≠ 1

/-- The number of a slot's level-2 entry. -/
def State.migEntry (s : State) (k : Nat) : Nat := s.get L1_W0.L2PTR (s.get RMP_MIG_SLOT0.L1_IDX k) * 512 + s.get RMP_MIG_SLOT0.GRAN k

/-- MIG and HOLD of the granule's entry written. -/
def State.setMigBits (s : State) (k : Nat) (mig hold : Bool) : State :=
  s.setL2 (s.migEntry k) (((s.l2Entry (s.migEntry k)).setField 1 1 (bit mig)).setField 2 2 (bit hold))

/-- The union of a slot's dirty maps (R248). -/
def State.migDirty (s : State) (k : Nat) : List Nat :=
  ((List.range 20).flatMap fun pt => Tbl.rd (fun _ => []) s.migMaps (32 * pt + k)).dedup

/-- A slot's maps cleared. -/
def State.clearMaps (s : State) (k : Nat) : State :=
  { s with migMaps := s.migMaps.filter fun e => e.1 % 32 ≠ k }

/-- A drain asked of resolving points (R243): each flips its phase; one that has a drain pending joins it. -/
def State.requestDrain (s : State) (pts : List Nat) : State :=
  s.each (pts.filter fun p => !s.drains.contains p) fun p t =>
    { t with drains := t.drains ++ [p], drainPhase := Tbl.wr (fun _ => false) t.drainPhase p (!Tbl.rd (fun _ => false) t.drainPhase p) }

/-- A held write released (R251, R252): translated anew under the entry in force; a slice's goes to the expander. -/
def State.releasePart (s : State) (pt k : Nat) (p : Part) : State :=
  match p.poa with
  | none => s
  | some a =>
    let r := if pt < 4 then pt else s.sliceRegion (pt - 4)
    let x := s.translate r a none true
    let q : Part := { p with target := x.target, ld := x.ld, dev := x.dev }
    if pt < 4 then s.forward pt q x.l2
    else
      let s := match x.l2 with
        | some w => if l2Mig w then s.migMark pt k a p.len else s
        | none => s
      (s.access pt p.req.tag x.target none).emit (homeOut (pt - 4) none (a / 64) p.req.tag (.hdmWrite x.target x.ld x.dev p.req.data))

/-- The held writes of a slot released in arrival order at each point. -/
def State.releaseHeld (s : State) (k : Nat) : State :=
  let all := (List.range 20).flatMap fun pt => (Tbl.rd (fun _ => []) s.migHeld (32 * pt + k)).map fun p => (pt, p)
  let s := { s with migHeld := s.migHeld.filter fun e => e.1 % 32 ≠ k }
  all.foldl (fun t x => t.releasePart x.1 k x.2) s

/-- The slot is free. -/
def State.freeMig (s : State) (k : Nat) : State :=
  let s := ((s.setReg .RMP_MIG_SLOT0 k 0).setReg .RMP_MIG_SLOT1 k 0).setMig k none
  (s.clearMaps k).set RMP_MIG_STAT.SLOTS_USED 0 (s.get RMP_MIG_STAT.SLOTS_USED 0 - 1)

/-- The job of a slot's migration has its outcome, if its engine still runs it. -/
def State.migOutcome (s : State) (k status : Nat) : State :=
  match s.mig k with
  | none => s
  | some m =>
    let e := s.get RMP_MIG_SLOT0.ENGINE k
    if (s.engine e).gen = m.gen then s.finishJob e status m.lines m.bytes else s

/-- A migration ends with a status other than OK (R245, R255): unless the swap had been written, MIG and HOLD are cleared and the granule stays with its source; held writes are released;
the slot is freed. -/
def State.endMig (s : State) (k status : Nat) : State :=
  match s.mig k with
  | none => s
  | some m =>
    let s := if m.swapped then s else s.setMigBits k false false
    let s := s.releaseHeld k
    let s := if 7 ≤ status ∧ status ≤ 14 then s.count RMP_MIG_STAT.ABANDONED 0 else s
    let e := s.get RMP_MIG_SLOT0.ENGINE k
    let s := s.discardAcc e fun a => 3 ≤ a.tag % 8 && !a.issued
    (s.migOutcome k status).freeMig k

/-- A copy access of a migration answered (R246, R249, R255): a read's block is written to the target, poisoned where it came poisoned; a write's block is done; a failure before the swap ends the
migration, and none after it counts. -/
def State.migAnswer (s : State) (e k tag status slag : Nat) (data : List Byte) : State :=
  match s.mig k with
  | none => s
  | some m =>
    let n := tag / 8 % 2 ^ 40
    let blk := n % 2 ^ 14
    let kind := tag % 8
    if tag / 8 / 2 ^ 40 ≠ m.gen ∨ (n / 2 ^ 14 ≠ m.round) then s
    else if kind = 6 then s.modMig k fun m => { m with todo := m.todo.filter (· ≠ blk) }
    else if 2 ≤ status then
      if m.swapped then s else s.endMig k (farStatus status slag)
    else if kind = 3 then
      let w := s.reg .RMP_MIG_SLOT1 k
      s.addAcc (e / 8) [⟨e, svcTag m.gen n 5, true, none, 1, l2Target w, l2Ld w, l2Gran w * 2 ^ 21 + 256 * blk, 256, 0, data, status = 1, false, false⟩]
    else s.modMig k fun m => { m with todo := m.todo.filter (· ≠ blk), lines := m.lines + 4, bytes := m.bytes + 256 }

/-! ### The coprocessor queue -/

/-- An entry of the queue changed. -/
def Engine.modEntry (x : Engine) (ticket : Nat) (f : CpEntry → CpEntry) : Engine :=
  { x with queue := x.queue.map fun c => if c.ticket = ticket then f c else c }

/-- The entry of a ticket. -/
def Engine.entry (x : Engine) (ticket : Nat) : Option CpEntry := x.queue.find? fun c => c.ticket = ticket

/-- A committed entry has nothing left to do. -/
def CpEntry.finished (c : CpEntry) : Bool := c.committed && c.reads.isEmpty && c.writes.isEmpty

/-- Finished entries leave the queue; their statuses stay with their tickets, and the first that is not OK since the last clearing is in DM_ERR (R263, R267). -/
def Engine.retire (x : Engine) : Engine :=
  let gone := x.queue.filter CpEntry.finished
  let x := { x with queue := x.queue.filter fun c => !c.finished }
  gone.foldl (fun x c =>
    { x with results := Tbl.wr (fun _ => 0) x.results c.ticket c.status, dmErr := if x.dmErr = 0 then c.status else x.dmErr }) x

/-- The 64-byte lines of SIZE (R262). -/
def sizeLines (size : Nat) : Nat := 2 ^ size

/-- A read line of an entry that has committed: DM.LD delivers it to local memory, DM.COPY writes it to its destination. -/
def State.deliverLine (s : State) (e : Nat) (c : CpEntry) (l : Nat) (d : List Byte) (p : Bool) : State :=
  match c.op with
  | .ld _ _ _ off => s.modEngine e fun x => x.writeLine (off + 64 * l) d p
  | .copy _ _ das _ _ dst => s.addAcc (e / 8) [farAcc e (cpTag c.ticket l 1) das (dst + 64 * l) 64 true d p false]
  | _ => s

/-- An entry's answer (R267): its ticket status keeps the first that is not OK; a read line is delivered, or staged before commit; a write line is done and counted (R276); an atomic's old value goes
to rd. -/
def State.cpAnswer (s : State) (e tag status slag : Nat) (data : List Byte) : State :=
  let n := tag / 8
  match (s.engine e).entry (n / 64) with
  | none => s
  | some c =>
    let l := n % 64
    let st := status + (if 4 ≤ status then slag % 16 * 2 ^ 8 else 0)
    let d := if 2 ≤ status then List.replicate 64 255 else data
    let bad := decide (1 ≤ status)
    let s := s.modEngine e fun x => x.modEntry c.ticket fun c => { c with status := if c.status = 0 then st else c.status }
    let s :=
      if tag % 8 = 0 then
        let s := s.modEngine e fun x => x.modEntry c.ticket fun c => { c with
          reads := c.reads.filter (· ≠ l), staged := if c.committed then c.staged else Tbl.wr (fun _ => none) c.staged l (some (d, bad)) }
        if c.committed then s.deliverLine e c l d bad else s
      else if tag % 8 = 1 then (s.modEngine e fun x => x.modEntry c.ticket fun c => { c with writes := c.writes.filter (· ≠ l) }).modRun e fun r => { r with lines := r.lines + 1 }
      else (s.modRun e fun r => { r with lines := r.lines + 1 }).modEngine e fun x => (x.setX c.rd (word (ofBytes (data.take 8)))).modEntry c.ticket fun c => { c with writes := [] }
    s.modEngine e Engine.retire

/-! ### Services -/

/-- The write of a COPY service's next line, once every lower line has been written and it has been read (R272: ascending destination order). -/
def State.copyNext (s : State) (e : Nat) : State :=
  match s.jobRun e with
  | none => s
  | some r =>
    match Tbl.rd (fun _ => none) r.got r.wnext with
    | some (d, p) =>
      if r.fail ≠ 0 then s
      else
        let s := s.addAcc (e / 8) [farAcc e (svcTag (s.engine e).gen r.wnext 5) (r.job.word 7) ((r.job.word 3).toNat + 64 * r.wnext) 64 true d p false]
        s.modRun e fun r => { r with got := Tbl.wr (fun _ => none) r.got r.wnext none, wnext := r.wnext + 1 }
    | none => s

/-- The lines of the burst that runs. -/
def burst (r : JobRun) : List Nat := (List.range 64).map (r.wnext + ·)

/-- The CRC and COMPARE services take the lines of a burst once all of it has been read (R272). -/
def State.takeLines (s : State) (e : Nat) : State :=
  match s.jobRun e with
  | none => s
  | some r =>
    let ls := (List.range (r.next - r.wnext)).map (r.wnext + ·)
    let src := fun l => ((Tbl.rd (fun _ => none) r.got l).map Prod.fst).getD []
    let dst := fun l => ((Tbl.rd (fun _ => none) r.got2 l).map Prod.fst).getD []
    if r.job.service = 3 then
      s.modRun e fun r => { r with crc := ls.foldl (fun c l => crcRun c (src l)) r.crc, lines := r.lines + ls.length, wnext := r.next, got := [] }
    else if r.job.service = 4 then
      match ls.find? fun l => src l ≠ dst l with
      | some l =>
        let k := ((List.range 64).find? fun i => (src l).getD i 0 ≠ (dst l).getD i 0).getD 0
        s.finishJob e 0x12 (l + 1) (64 * l + k)
      | none => s.modRun e fun r => { r with lines := r.lines + ls.length, wnext := r.next, got := [], got2 := [] }
    else s

/-- The running service's state after an answer (R272, R275): with every access of a burst answered it ends with the failure it met, as CANCELLED where a cancel was delivered, or, after its
last line, with its results. -/
def State.settleJob (s : State) (e : Nat) : State :=
  match s.jobRun e with
  | none => s
  | some r =>
    let v := r.job.service
    if r.outcome.isSome || v = 0 || 5 ≤ v || (s.cluster (e / 8)).acc.any (fun a => a.engine = e) then s
    else
      let s := if r.fail = 0 then s.takeLines e else s
      match s.jobRun e with
      | none => s
      | some r =>
        let r1 := if v = 3 then Nat.xor r.crc 0xFFFFFFFF else 0
        if r.fail ≠ 0 then s.finishJob e r.fail r.lines (if v = 3 then r1 else 0)
        else if r.job.total ≤ r.next then s.finishJob e 0 r.lines r1
        else if r.cancel then s.finishJob e 0x0C r.lines r1
        else s

/-- A service's access answered: a read line is kept, a write line counted, a failure recorded; MIGRATE's go to its slot. -/
def State.svcAnswer (s : State) (e tag status slag : Nat) (data : List Byte) : State :=
  match s.jobRun e with
  | none => s
  | some r =>
    let l := tag / 8 % 2 ^ 40
    if tag / 8 / 2 ^ 40 ≠ (s.engine e).gen then s
    else if r.job.service = 5 then
      match s.slotOfEngine e with
      | some k => s.migAnswer e k tag status slag data
      | none => s
    else if 2 ≤ status then s.failJob e (farStatus status slag)
    else if tag % 8 = 3 then
      let s := s.modRun e fun r => { r with got := Tbl.wr (fun _ => none) r.got l (some (data, status = 1)) }
      if r.job.service = 1 then s.each (burst r) fun _ t => t.copyNext e else s
    else if tag % 8 = 4 then s.modRun e fun r => { r with got2 := Tbl.wr (fun _ => none) r.got2 l (some (data, status = 1)) }
    else s.modRun e fun r => { r with lines := r.lines + 1 }

/-- The bytes of a far access that was performed are counted (R414). -/
def State.farBytes (s : State) (c e tag status : Nat) : State :=
  match (s.cluster c).acc.find? fun a => a.engine = e && a.tag = tag with
  | some a => if status ≤ 1 then s.tallyEngine (4 + bit a.write) e a.len else s
  | none => s

/-- An answer reaches its engine: the access is performed, and whatever waited for it goes on. -/
def State.farAnswer (s : State) (c e tag status slag : Nat) (data : List Byte) : State :=
  let s := (s.farBytes c e tag status).dropAcc c e tag
  if tag % 8 < 3 then s.cpAnswer e tag status slag data else (s.svcAnswer e tag status slag data).settleJob e

/-! ### Issue -/

/-- A scratch access is performed at its HBM controller at once (R261, R282); one in a fenced region's channel is lost, with the sink's code (R386). -/
def State.scratchAcc (s : State) (c : Nat) (a : FarAcc) : State :=
  let at' := (s.scratch a.engine).1 + a.addr
  if s.hbmFenced (c / 4) at' then s.farAnswer c a.engine a.tag (if a.write then 5 else 4) 2 (List.replicate a.len 255)
  else
  let s := s.hbmCount at' a.write
  match a.amo with
  | some (f, x, cmp) =>
    let old := s.hbm64 at'
    (s.setHbm64 at' (amoResult f old x cmp)).farAnswer c a.engine a.tag 0 0 (toBytes 8 old.toNat)
  | none =>
    if a.write then (s.writeHbm at' a.data).farAnswer c a.engine a.tag 0 0 []
    else s.farAnswer c a.engine a.tag 0 0 (s.readHbm at' a.len)

/-- The accesses of a cluster that entered before one. -/
def olderAcc (l : List FarAcc) (a : FarAcc) : List FarAcc := l.takeWhile fun b => b ≠ a

/-- The bytes of an access taken out of a write that covers it. -/
def cut (w a : FarAcc) : List Byte := (w.data.drop (a.addr - w.addr)).take a.len

/-- One access of a cluster is tried (R283, R284): it waits for its engine's older writes to the same bytes unless one covers it; a read is served from such a write or from the ordering
buffer; a write enters the buffer while it has room; anything else is sent to resolution or performed in scratch. -/
def State.tryAcc (s : State) (c : Nat) (a : FarAcc) : State :=
  let l := (s.cluster c).acc
  if a.issued ∨ !l.contains a then s
  else
    let before := olderAcc l a
    let own := before.filter fun b => b.engine = a.engine && b.write && overlap a b
    let serve := match own.getLast? with
      | some w => if !a.write ∧ covers w a then some w else none
      | none => if a.write then none else (before.filter fun b => s.buffered b && overlap a b && covers b a).getLast?
    match serve with
    | some w => s.farAnswer c a.engine a.tag (bit w.poison) 0 (cut w a)
    | none =>
      if !own.isEmpty then s
      else if a.space = 2 then s.scratchAcc c a
      else if a.write ∧ 256 < s.bufUsed c + (a.len + 63) / 64 then s
      else
        let s := s.modCluster c fun x => { x with acc := x.acc.map fun b => if b = a then { b with issued := true } else b }
        { s with decodeQ := s.decodeQ ++ [accReq { a with issued := true }] }

/-- Every access of a cluster is tried in order, and again for those that the answers brought. -/
def State.pump (s : State) (c : Nat) : State :=
  let once := fun (s : State) => (s.cluster c).acc.foldl (fun t a => t.tryAcc c a) s
  once (once (once s))

end Sys2Proof.Machine
end

