-- ==== Sys2Proof/Machine/Cxl.lean ====
section
/-! DEFINITION. CXL and PCIe (R62 to R89): the FM API and its background operations, vPPB bindings, dynamic capacity, HDM decoders, surprise removal, IDE, and the
handing of messages to decode. -/

namespace Sys2Proof.Machine

/-! ### Requesters and responses (R82 to R84, R342, R353) -/

/-- The session of a port's CCI. -/
def State.cciSession (s : State) (p : Nat) : Option Nat :=
  (List.range 8).find? fun n => s.sesOpen n && decide (s.get MGT_SESS.PATH n = 0) && decide (s.get MGT_SESS.WHERE n = p)

/-- The number of a requester in the tables kept per CCI: its port, or 256 + session. -/
def requester (via : FmVia) : Nat :=
  match via with
  | .cci p _ => p
  | .ses n _ => 256 + n

/-- An FM API response (R84), kept as its session's last where it answers a Weusk message (R347). -/
def State.fmReply (s : State) (via : FmVia) (op : Nat) (rc : FmRc) (ext : FmExt) (data : List Nat) : State :=
  match via with
  | .cci _ _ => s.emit (.fm via op rc ext data)
  | .ses n tag => s.respond n tag (.fm via op rc ext data)

/-- A port presents a switch mailbox CCI (R82): one in upstream role. -/
def State.cciPort (s : State) (p : Nat) : Bool := s.role p = 0 && s.portExists p

/-- An FM API command (R82, R83, R342, R353): too long a payload, no session, or a state change by a session that is not the owner is refused; else it runs. A port with no CCI answers none. -/
def State.fm (s : State) (via : FmVia) (op : Nat) (readOnly : Bool) (f : State → State) : State :=
  match via with
  | .cci p len =>
    if !s.reachable 0 ∨ !s.cciPort p then s
    else if 4096 < len then s.fmReply via op .invalidPayloadLength .none []
    else match s.cciSession p with
      | none => if op = 1 then f s else s.fmReply via op .unsupported .noSession []
      | some n => if readOnly || s.owns n then f s else (s.count MGT_SESS.NOT_OWNER n).fmReply via op .unsupported .notOwner []
  | .ses n tag =>
    s.message n 0x0C tag false fun s =>
      if readOnly || s.owns n then f s else (s.count MGT_SESS.NOT_OWNER n).fmReply via op .unsupported .notOwner []

/-- The response message limit of a requester: 4,096 bytes until set. -/
def State.limitOf (s : State) (who : Nat) : Nat := 4096 - Tbl.rd (fun _ => 0) s.fmReq.limit who


/-- The entries of a list that a response has room for within its requester's limit (R83): a head and entries of these sizes (log entry 82). -/
def State.fitting (s : State) (via : FmVia) (head size : Nat) {α : Type} (l : List α) : List α := l.take ((s.limitOf (requester via) - head) / size)

/-- A refusal with Invalid Input. -/
def State.fmBad (s : State) (via : FmVia) (op : Nat) (ext : FmExt) : State := s.fmReply via op .invalidInput ext []

/-- A background operation accepted. -/
def State.fmStarted (s : State) (via : FmVia) (op : Nat) : State := s.fmReply via op .backgroundStarted .none []

/-- A background operation of a requester ended (R83). -/
def State.fmEnded (s : State) (who op : Nat) (rc : FmRc) (ext : FmExt) : State :=
  { s with fmReq.last := Tbl.wr (fun _ => none) s.fmReq.last who (some (op, rc, ext)) }

/-! ### Bind and Unbind (R70, R71, R73, R164) -/

/-- Two names of a target meet: the same port, and the same LD or the port as a whole. -/
def sameTarget (p q : Nat) (a b : Option Nat) : Bool := p = q && (a = b || a.isNone || b.isNone)

/-- A bind or unbind runs on a vPPB or on a target. -/
def State.bindingBusy (s : State) (v port : Nat) (ld : Option Nat) : Bool :=
  s.opsRunning.any fun x => x.1 = v || sameTarget x.2.target port x.2.ld ld

/-- A target is bound to some vPPB (R68). -/
def State.targetBound (s : State) (port : Nat) (ld : Option Nat) : Bool :=
  (s.boundTo port).any fun v => match ld with
    | none => true
    | some l => s.get VPPB_ENTRY.STATE v = 1 || decide (s.get VPPB_ENTRY.LD_ID v = l)

/-- A target's kind suits a bind (R68, R72): an LD of an MLD port that serves it, or a port that is no MLD; a port whose link is down may be an MLD where MLD_EN allows it. -/
def State.kindSuits (s : State) (port : Nat) (ld : Option Nat) : Bool :=
  let up := s.flag PRT_LINK_STATUS.DL_UP port
  let allowed := if port % 2 = 0 then s.flag PRT_CXL_CFG.MLD_EN0 (port / 2) else s.flag PRT_CXL_CFG.MLD_EN1 (port / 2)
  match ld with
  | some l => decide (l < 16) && if up then s.flag PRT_CXL_STATUS.MLD port && decide (l < s.get PRT_CXL_STATUS.LD_CNT port) else allowed
  | none => !(up && s.flag PRT_CXL_STATUS.MLD port)

/-- A VCS has a CXL.cache device more for one more of its kind to have an ID (R65): 16 in 256-byte mode, 1 in 68-byte mode. -/
def State.cacheFull (s : State) (v port : Nat) : Bool :=
  let vcs := s.get VPPB_ENTRY.VCS v
  let has := (s.boundIn vcs).filter fun w => !s.flag VPPB_ENTRY.REMOTE w && s.flag PRT_CXL_STATUS.CACHE (s.get VPPB_ENTRY.TARGET w % 512)
  s.flag PRT_CXL_STATUS.CACHE port && decide ((if s.get PRT_CXL_STATUS.PROTO (s.get VCS_ENTRY.USP_PORT vcs) = 1 then 1 else 16) ≤ has.length)

/-- Bind vPPB (R70, R71, R164), the conflicts in the order of log entry 51; a vPPB or port that does not exist is Invalid Input (log entry 43). -/
def fmBind (via : FmVia) (v port : Nat) (ld : Option Nat) (s : State) : State :=
  let op := 0x5201
  s.fm via op false fun s =>
    if 1024 ≤ v ∨ 128 ≤ port then s.fmBad via op .none
    else if s.bindingBusy v port ld then s.fmReply via op .busy .bindingBusy []
    else if s.role port ≠ 1 ∨ !s.portExists port ∨ s.flag VPPB_ENTRY.USP v ∨ s.get VPPB_ENTRY.STATE v = 3 ∨ !s.kindSuits port ld then
      s.fmBad via op .roleMismatch
    else if s.get VPPB_ENTRY.STATE v ≠ 0 then s.fmBad via op .vppbBound
    else if s.targetBound port ld then s.fmBad via op .targetBound
    else if !s.live (port / 32) then s.fmBad via op .regionFenced
    else if s.cacheFull v port then s.fmReply via op .resourcesExhausted .tableFull []
    else
      let s := s.setOp v (some ⟨true, 0, port, ld, requester via, false⟩)
      let s := (s.dropTriggers (port / 2) fun t => t.code = 1 && t.byUnbind).release (port / 2)
      s.fmStarted via op

/-- The first binding of an LD of a local port to a vPPB binds its flow key, with the parameters of the port's context (R73, R173). -/
def State.bindLd (s : State) (v : Nat) : State :=
  let feid := s.get VPPB_ENTRY.TARGET v
  let l := s.get VPPB_ENTRY.LD_ID v
  let r := feid % 512 / 32 % 4
  if s.get VPPB_ENTRY.STATE v ≠ 2 || s.flag VPPB_ENTRY.REMOTE v || (s.findCtx r feid l).isSome then s else s.bindAuto r feid l (s.ctxFor r feid 0)

/-- A binding in force: the vPPB's state and target; the first binding of an LD binds its flow key (R73, R173). -/
def State.setBinding (s : State) (v feid : Nat) (ld : Option Nat) (remote : Bool) : State :=
  let s := s.set VPPB_ENTRY.STATE v (if ld.isSome then 2 else 1)
  let s := s.set VPPB_ENTRY.REMOTE v (bit remote)
  let s := s.set VPPB_ENTRY.LD_ID v (ld.getD 0)
  let s := s.set VPPB_ENTRY.TARGET v feid
  let s := if remote then s else s.updHostOn (feid % 512)
  s.bindLd v

/-- A bind completes (R70, R71, R164): once the target's old Quench has cleared; the host sees a hot-add, or a removal where the link dropped meanwhile. -/
def bindComplete (v : Nat) (s : State) : State :=
  match (s.vppb v).op with
  | some o =>
    if !o.bind || ((s.niAt (o.target / 2)).triggers.isEmpty && s.quenched (o.target / 2)) then s
    else
      let s := (s.setBinding v (s.localFeid o.target) o.ld false).setOp v none
      let s := if s.flag PRT_LINK_STATUS.DL_UP o.target then s.hotAdd v else if o.dropped then s.surpriseRemoved v else s
      s.fmEnded o.cci 0x5201 .success .none
  | none => s

/-- The target that a binding names: the local port, or 512 + FEID of one on another chip. -/
def State.targetOf (s : State) (v : Nat) : Nat :=
  if s.flag VPPB_ENTRY.REMOTE v then 512 + s.get VPPB_ENTRY.TARGET v else s.get VPPB_ENTRY.TARGET v % 512

/-- Unbind vPPB (R70, R71); the upstream vPPB and a POOL vPPB have no binding to end (log entry 51). -/
def fmUnbind (via : FmVia) (v option : Nat) (s : State) : State :=
  let op := 0x5202
  s.fm via op false fun s =>
    let target := s.targetOf v
    let ld := if s.get VPPB_ENTRY.STATE v = 2 then some (s.get VPPB_ENTRY.LD_ID v) else none
    if 3 ≤ option ∨ 1024 ≤ v then s.fmBad via op .none
    else if (s.vppb v).op.isSome ∨ (s.get VPPB_ENTRY.STATE v ≠ 0 ∧ s.bindingBusy v target ld) then s.fmReply via op .busy .bindingBusy []
    else if s.flag VPPB_ENTRY.USP v ∨ s.get VPPB_ENTRY.STATE v = 3 then s.fmBad via op .roleMismatch
    else if s.get VPPB_ENTRY.STATE v = 0 then s.fmBad via op .notBound
    else
      let s := s.setOp v (some ⟨false, option, target, ld, requester via, false⟩)
      let s := if option = 1 then s.setVppb v { s.vppb v with attn := true, powerOff := false } else s
      s.fmStarted via op

/-- A packet is bound for a target of a local block: its half, and its LD where the target is one. -/
def forTarget (port : Nat) (ld : Option Nat) (p : Pkt) : Bool := p.half = port % 2 && ld.all fun l => p.ld = l

/-- The sink stage of an NI answers the packets it has absorbed, oldest first. -/
def State.answerAll (s : State) (n : Nat) : State := s.each (List.range (s.niAt n).absorbed.length) fun _ t => slagAnswer n t

/-- The requests outstanding through a binding are answered by the sink (R70): those sent on the target's link, and those waiting for it, whose slots go back. -/
def State.endRequests (s : State) (port : Nat) (ld : Option Nat) : State :=
  let n := port / 2
  let x := s.niAt n
  let mine := forTarget port ld
  let waiting := x.rx.filter mine
  let s := s.setNi n { x with absorbed := x.absorbed ++ (x.tracker.filter mine ++ waiting).map (slagged 1), tracker := x.tracker.filter (fun p => !mine p), rx := x.rx.filter fun p => !mine p }
  (waiting.foldl (fun u p => if looped p then u else (u.vacate n p).creditBack p) s).answerAll n

/-- An unbind completes (R70): its outstanding requests are answered, the vPPB is UNBOUND and its slot empty; option 2 isolates the target first and shows a surprise removal (R79). -/
def State.unbound (s : State) (v : Nat) (o : BindOp) : State :=
  let here := decide (o.target < 128)
  let s := if o.option = 2 then
      let s := if here then s.quench (o.target / 2) (if s.flag PRT_LINK_STATUS.DL_UP o.target then ⟨1, false, 1000 + v⟩ else ⟨1, true, 1 + o.target⟩) else s
      s.surpriseRemoved v
    else s
  let s := if here then s.endRequests o.target o.ld else s
  let s := s.set VPPB_ENTRY.STATE v 0
  let s := s.set VPPB_ENTRY.REMOTE v 0
  let s := (s.set VPPB_ENTRY.PRESENT v 0).updHostOn o.target
  (s.setOp v none).fmEnded o.cci 0x5202 .success .none

/-- A target's link is down, as an unbind with option 0 waits for it: of a target on another chip, that chip declared unreachable (R79). -/
def State.targetDown (s : State) (target : Nat) : Bool :=
  if target < 512 then !s.flag PRT_LINK_STATUS.DL_UP target else s.get MGT_FAB_MEMBER.STATE ((target - 512) / 512) = 3

/-- The running unbind of a vPPB completes: option 0 once the target's link is down, option 1 once the host has turned power control off, option 2 at once (R70). -/
def unbindComplete (v : Nat) (s : State) : State :=
  match (s.vppb v).op with
  | some o =>
    if o.bind then s
    else if (o.option = 0 ∧ !s.targetDown o.target) ∨ (o.option = 1 ∧ !(s.vppb v).powerOff) then s
    else s.unbound v o
  | none => s

/-- A managed hot-remove reaches HP_TMO (R70): Aborted with HOST_NO_ACK, the binding unchanged. -/
def hotRemoveTimeout (v : Nat) (s : State) : State :=
  match (s.vppb v).op with
  | some o => if !o.bind && o.option = 1 then (s.setOp v none).fmEnded o.cci 0x5202 .aborted .hostNoAck else s
  | none => s

/-- Request Abort Background Operation (R70, R83). -/
def fmAbort (via : FmVia) (s : State) : State :=
  s.fm via 0x0005 false fun s =>
    match s.opsRunning.find? fun x => !x.2.bind && decide (x.2.option < 2) && decide (x.2.cci = requester via) with
    | some x => ((s.setOp x.1 none).fmEnded x.2.cci 0x5202 .aborted .none).fmReply via 0x0005 .success .none []
    | none => s.fmBad via 0x0005 .none

/-! ### Commands that read (R83) -/

/-- Identify: the part and its stepping (R34). -/
def fmIdentify (via : FmVia) (s : State) : State :=
  s.fm via 0x0001 true fun s => s.fmReply via 0x0001 .success .none [s.get MGT_CHIP_INFO.PART 0, s.get MGT_CHIP_INFO.STEP_MAJOR 0, s.get MGT_CHIP_INFO.STEP_MINOR 0]

/-- The CXL encoding of a return code (R84; log entry 82). -/
def rcNumber (rc : FmRc) : Nat :=
  match rc with
  | .success => 0x00
  | .backgroundStarted => 0x01
  | .invalidInput => 0x02
  | .unsupported => 0x03
  | .busy => 0x06
  | .aborted => 0x12
  | .invalidPayloadLength => 0x16
  | .resourcesExhausted => 0x1D

/-- Background Operation Status: whether an operation of the requester runs, with its opcode and vPPB; else the last that ended, with its return code and extended status. -/
def fmBgStatus (via : FmVia) (s : State) : State :=
  s.fm via 0x0002 true fun s =>
    let who := requester via
    let data := match s.opsRunning.find? fun x => x.2.cci = who with
      | some x => [1, if x.2.bind then 0x5201 else 0x5202, x.1]
      | none =>
        match s.dcAdds.find? fun a => a.who = who with
        | some a => [1, 0x5604, a.vcs]
        | none => match s.dcReleases.find? fun a => a.who = who with
        | some a => [1, 0x5605, a.vcs]
        | none =>
          match Tbl.rd (fun _ => none) s.fmReq.last who with
          | some (op, rc, ext) => [0, op, rcNumber rc, FmExt.code ext]
          | none => [0]
    s.fmReply via 0x0002 .success .none data

/-- Get Response Message Limit. -/
def fmGetLimit (via : FmVia) (s : State) : State :=
  s.fm via 0x0003 true fun s => s.fmReply via 0x0003 .success .none [s.limitOf (requester via)]

/-- Set Response Message Limit: 256 to 4,096 bytes. -/
def fmSetLimit (via : FmVia) (bytes : Nat) (s : State) : State :=
  s.fm via 0x0004 false fun s =>
    if bytes < 256 ∨ 4096 < bytes then s.fmBad via 0x0004 .none
    else { s with fmReq.limit := Tbl.wr (fun _ => 0) s.fmReq.limit (requester via) (4096 - bytes) }.fmReply via 0x0004 .success .none [bytes]

/-- The event records a requester sees: those of its port's VCS over a CCI, all of them in a session. -/
def State.cxlSeen (s : State) (via : FmVia) (e : CxlEvent) : Bool :=
  match via with
  | .cci p _ => s.vcsOf p = some e.vcs
  | .ses _ _ => true

/-- Get Event Records: handle, kind, VCS and extents of each. -/
def fmGetEvents (via : FmVia) (s : State) : State :=
  s.fm via 0x0100 true fun s =>
    s.fmReply via 0x0100 .success .none ((s.fitting via 32 128 (s.cxlLog.filter (s.cxlSeen via))).flatMap fun e => [e.handle, bit e.media, e.vcs] ++ e.extents)

/-- Clear Event Records, by handle. -/
def fmClearEvents (via : FmVia) (handles : List Nat) (s : State) : State :=
  s.fm via 0x0101 false fun s =>
    ({ s with cxlLog := s.cxlLog.filter fun e => !(s.cxlSeen via e && handles.contains e.handle) }).fmReply via 0x0101 .success .none []

/-- Get Event Interrupt Policy. -/
def fmGetPolicy (via : FmVia) (s : State) : State :=
  s.fm via 0x0102 true fun s => s.fmReply via 0x0102 .success .none [Tbl.rd (fun _ => 0) s.fmReq.policy (requester via)]

/-- Set Event Interrupt Policy. -/
def fmSetPolicy (via : FmVia) (policy : Nat) (s : State) : State :=
  s.fm via 0x0103 false fun s =>
    ({ s with fmReq.policy := Tbl.wr (fun _ => 0) s.fmReq.policy (requester via) policy }).fmReply via 0x0103 .success .none []

/-- Get Timestamp: the fabric time counter, in nanoseconds. -/
def fmTimestamp (via : FmVia) (s : State) : State :=
  s.fm via 0x0300 true fun s => s.fmReply via 0x0300 .success .none [s.tim.sec * 1000000000 + s.tim.ns]

/-- The implemented opcodes, each with 1 where it changes state (R83): the Command Effects Log, with 0xC000 + TYPE for each Weusk type that a requester sends (R345), 1 where it is the owner's. -/
def effectsLog : List (Nat × Nat) :=
  [(0x0001, 0), (0x0002, 0), (0x0003, 0), (0x0004, 1), (0x0005, 1), (0x0100, 0), (0x0101, 1), (0x0102, 0), (0x0103, 1), (0x0300, 0), (0x0400, 0),
    (0x0401, 0), (0x5100, 0), (0x5101, 0), (0x5102, 1), (0x5103, 1), (0x5200, 0), (0x5201, 1), (0x5202, 1), (0x5203, 1), (0x5300, 1), (0x5301, 1),
    (0x5302, 1), (0x5600, 0), (0x5601, 0), (0x5602, 1), (0x5603, 0), (0x5604, 1), (0x5605, 1), (0xC001, 0), (0xC002, 0), (0xC003, 0), (0xC004, 1),
    (0xC005, 0), (0xC006, 1), (0xC007, 1), (0xC008, 1), (0xC00A, 1), (0xC00D, 0), (0xC00E, 1)]

/-- Get Supported Logs: one log, the Command Effects Log. -/
def fmGetLogs (via : FmVia) (s : State) : State :=
  s.fm via 0x0400 true fun s => s.fmReply via 0x0400 .success .none [1]

/-- Get Log: the Command Effects Log. -/
def fmGetLog (via : FmVia) (s : State) : State :=
  s.fm via 0x0401 true fun s => s.fmReply via 0x0401 .success .none ((s.fitting via 0 4 effectsLog).flatMap fun e => [e.1, e.2])

/-- Identify Switch Device: 128 ports, 64 VCSs, 1,024 vPPBs. -/
def fmIdentifySwitch (via : FmVia) (s : State) : State :=
  s.fm via 0x5100 true fun s => s.fmReply via 0x5100 .success .none [128, 64, 1024]

/-- Get Physical Port State: for each port its number, role, state, rate, width and protocol. -/
def fmPortState (via : FmVia) (ports : List Nat) (s : State) : State :=
  s.fm via 0x5101 true fun s =>
    if ports.any fun p => decide (128 ≤ p) then s.fmBad via 0x5101 .none
    else s.fmReply via 0x5101 .success .none ((s.fitting via 4 16 ports).flatMap fun p =>
      [p, s.role p, s.get PRT_LINK_STATUS.STATE p, s.get PRT_LINK_STATUS.RATE p, s.get PRT_LINK_STATUS.WIDTH p, s.get PRT_CXL_STATUS.PROTO p])

/-- Get Virtual CXL Switch Info: the VCS's entry and those of its vPPBs. -/
def fmVcsInfo (via : FmVia) (vcs : Nat) (s : State) : State :=
  s.fm via 0x5200 true fun s =>
    if 64 ≤ vcs ∨ !s.flag VCS_ENTRY.ACTIVE vcs then s.fmBad via 0x5200 .none
    else s.fmReply via 0x5200 .success .none ((s.reg .VCS_ENTRY vcs).toNat :: (s.fitting via 12 4 (List.range (s.get VCS_ENTRY.DSP_CNT vcs + 1))).map fun i =>
      (s.reg .VPPB_ENTRY (s.get VCS_ENTRY.FIRST_VPPB vcs + i)).toNat)

/-! ### Commands that act on ports and devices (R83) -/

/-- Physical Port Control: PERST or a reset of the PPB, on downstream ports only. -/
def fmPortControl (via : FmVia) (port op : Nat) (s : State) : State :=
  s.fm via 0x5102 false fun s =>
    if 128 ≤ port ∨ s.role port ≠ 1 ∨ 3 ≤ op then s.fmBad via 0x5102 (if 3 ≤ op then .none else .roleMismatch)
    else
      let s := match op with
        | 2 => (s.loseLink port true (s.partialsOf port)).emit (.linkReset port)
        | _ =>
          let s := match s.slotOf port with
            | some n => s.setSlot n { s.slot n with perstN := decide (op = 1) }
            | none => s
          s.emit (.perst port (decide (op = 0)))
      s.fmReply via 0x5102 .success .none []

/-- A request passed on to a port or LD, answered with what the device answered. -/
def State.passOn (s : State) (via : FmVia) (op target ld : Nat) (request answer : List Byte) : State :=
  (s.emit (.fmForward target ld request)).fmReply via op .success .none (answer.map (·.toNat))

/-- Send PPB CXL.io Configuration Request. -/
def fmPpbConfig (via : FmVia) (port : Nat) (request answer : List Byte) (s : State) : State :=
  s.fm via 0x5103 false fun s =>
    if 128 ≤ port ∨ !s.portExists port then s.fmBad via 0x5103 .none else s.passOn via 0x5103 (s.localFeid port) 0 request answer

/-- The port runs as an MLD port and serves an LD (R72). -/
def State.servesLd (s : State) (port ld : Nat) : Bool :=
  decide (port < 128) && s.flag PRT_CXL_STATUS.MLD port && decide (ld < s.get PRT_CXL_STATUS.LD_CNT port)

/-- Send LD CXL.io Configuration Request. -/
def fmLdConfig (via : FmVia) (port ld : Nat) (request answer : List Byte) (s : State) : State :=
  s.fm via 0x5301 false fun s =>
    if !s.servesLd port ld then s.fmBad via 0x5301 .roleMismatch else s.passOn via 0x5301 (s.localFeid port) ld request answer

/-- Send LD CXL.io Memory Request. -/
def fmLdMemory (via : FmVia) (port ld : Nat) (request answer : List Byte) (s : State) : State :=
  s.fm via 0x5302 false fun s =>
    if !s.servesLd port ld then s.fmBad via 0x5302 .roleMismatch else s.passOn via 0x5302 (s.localFeid port) ld request answer

/-- Generate AER Event on a vPPB. -/
def fmAer (via : FmVia) (v error : Nat) (s : State) : State :=
  s.fm via 0x5203 false fun s =>
    if 1024 ≤ v ∨ s.get VPPB_ENTRY.VCS v ≥ 64 then s.fmBad via 0x5203 .none
    else (s.setVppb v { s.vppb v with aer := error }).fmReply via 0x5203 .success .none []

/-- Tunnel Management Command (R72): to an MLD or to a remote port's CCI; Set LD Allocations is refused while an LD being reduced is bound. -/
def fmTunnel (via : FmVia) (target : Nat) (reduced : List Nat) (request answer : List Byte) (s : State) : State :=
  s.fm via 0x5300 false fun s =>
    let here := decide (target / 512 = s.get MGT_CHIP_INFO.CHIP_ID 0)
    let port := target % 512
    if here && !(decide (port < 128) && s.flag PRT_CXL_STATUS.MLD port) then s.fmBad via 0x5300 .roleMismatch
    else if here && reduced.any fun l => s.targetBound port (some l) then s.fmBad via 0x5300 .roleMismatch
    else s.passOn via 0x5300 target 0xFFFF request answer

/-! ### Dynamic capacity (R74, R76 to R78) -/

/-- The VCS has a pool device. -/
def State.hasPool (s : State) (vcs : Nat) : Bool := decide (vcs < 64) && s.flag VCS_ENTRY.ACTIVE vcs && s.flag VCS_ENTRY.POOL vcs

/-- Extents reserved by adds that wait. -/
def State.reserved (s : State) : List Nat := s.dcAdds.flatMap (·.extents)

/-- The free pool (R76): poolable extents no pool device holds, those in a VCS's own pool range first (log entry 27). -/
def State.freePool (s : State) (vcs : Nat) : List Nat :=
  let free := (s.listed .L1_W0).filter fun i =>
    s.flag L1_W0.POOLABLE i && !s.flag L1_W0.HELD i && !s.flag L1_W1.RELEASING i && !s.reserved.contains i
  let lo := s.get RMP_POOL.BASE_GIB vcs
  let hi := lo + s.get RMP_POOL.SIZE_GIB vcs
  let mine := fun i => decide (lo ≤ i) && decide (i < hi)
  free.filter mine ++ free.filter fun i => !mine i

/-- Get DCD Info: regions, extent size in GiB, and the free pool in extents. -/
def fmDcdInfo (via : FmVia) (s : State) : State :=
  s.fm via 0x5600 true fun s => s.fmReply via 0x5600 .success .none [8, 1, (s.freePool 0).length]

/-- Extents of a VCS's DC region. -/
def State.dcExtents (s : State) (vcs region : Nat) : List Nat :=
  s.dcRegion.filterMap fun e => if e.2 = some (8 * vcs + region) then some e.1 else none

/-- Get Host DC Region Config: for each region Sanitize on Release and the extents held. -/
def fmDcConfig (via : FmVia) (vcs : Nat) (s : State) : State :=
  s.fm via 0x5601 true fun s =>
    if !s.hasPool vcs then s.fmBad via 0x5601 .none
    else s.fmReply via 0x5601 .success .none ((List.range 8).flatMap fun k =>
      [bit (Tbl.rd (fun _ => false) s.dcSanitize (8 * vcs + k)), (s.dcExtents vcs k).length])

/-- Set DC Region Config: Sanitize on Release. -/
def fmSetDcConfig (via : FmVia) (vcs region : Nat) (sanitize : Bool) (s : State) : State :=
  s.fm via 0x5602 false fun s =>
    if !s.hasPool vcs ∨ 8 ≤ region then s.fmBad via 0x5602 .none
    else ({ s with dcSanitize := Tbl.wr (fun _ => false) s.dcSanitize (8 * vcs + region) sanitize }).fmReply via 0x5602 .success .none []

/-- Get DC Region Extent Lists: each extent of the VCS's regions with 1 where it is releasing. -/
def fmExtentLists (via : FmVia) (vcs : Nat) (s : State) : State :=
  s.fm via 0x5603 true fun s =>
    if !s.hasPool vcs then s.fmBad via 0x5603 .none
    else
      let all := (List.range 8).flatMap fun k => (s.dcExtents vcs k).map fun i => (k, i)
      s.fmReply via 0x5603 .success .none ((s.fitting via 16 40 all).flatMap fun x => [x.1, x.2, s.get L1_W1.RELEASING x.2])

/-- Initiate Dynamic Capacity Add (R76): all or nothing towards the free pool. An add of no extents is Invalid Input (log entry 83). -/
def fmDcAdd (via : FmVia) (vcs region count : Nat) (s : State) : State :=
  let op := 0x5604
  s.fm via op false fun s =>
    let free := s.freePool vcs
    if !s.hasPool vcs ∨ 8 ≤ region ∨ count = 0 then s.fmBad via op .none
    else if free.length < count then s.fmReply via op .resourcesExhausted .poolExhausted []
    else
      let got := free.take count
      let s := { s with dcAdds := s.dcAdds ++ [(⟨vcs, region, got, requester via, []⟩ : DcAdd)] }
      (s.logCxl false vcs got).fmStarted via op

/-- An extent of a running release has gone: the release ends with its last (R77, R83). -/
def State.extentGone (s : State) (i : Nat) : State :=
  let l := s.dcReleases.map fun (a : DcRelease) => { a with extents := a.extents.erase i }
  let done := l.filter fun a => a.extents.isEmpty
  done.foldl (fun t a => t.fmEnded a.who 0x5605 .success .none) { s with dcReleases := l.filter fun a => !a.extents.isEmpty }

/-- Held extents of a DC region begin their release (R77): RELEASING in one write of each entry, a zero-fill due where the region is to be sanitized; a migration of theirs in ARM or COPY is
abandoned (R255). -/
def State.startRelease (s : State) (extents : List Nat) : State :=
  let s := s.each extents fun i t => t.writeEntry .l1 i fun u => u.set L1_W1.RELEASING i 1
  let fill := extents.filter fun i => (Tbl.rd (fun _ => none) s.dcRegion i).any fun k => Tbl.rd (fun _ => false) s.dcSanitize k
  let s := { s with fillDue := s.fillDue ++ fill.filter fun i => !s.fillDue.contains i }
  s.each ((List.range 32).filter fun k => s.get RMP_MIG_SLOT0.PHASE k = 1 || s.get RMP_MIG_SLOT0.PHASE k = 2) fun k t =>
    if extents.contains (t.get RMP_MIG_SLOT0.L1_IDX k) then t.endMig k 0x0B else t

/-- An add ends with the extents its host accepts (R76, R78): those are written to remap level 1, the rest return to the free pool, and a release that named some of them meanwhile begins. -/
def State.endAdd (s : State) (a : DcAdd) (accepted : List Nat) (rc : FmRc) (ext : FmExt) : State :=
  let got := a.extents.filter fun i => accepted.contains i
  let s := s.each got fun i t =>
    let t := t.writeEntry .l1 i fun u => (u.set L1_W0.HELD i 1).set L1_W1.VCS i a.vcs
    { t with dcRegion := Tbl.wr (fun _ => none) t.dcRegion i (some (8 * a.vcs + a.region)) }
  let s := { s with dcAdds := s.dcAdds.erase a }
  let s := (s.fmEnded a.who 0x5604 rc ext).startRelease (a.later.filter fun i => got.contains i)
  (a.later.filter fun i => !got.contains i).foldl (fun t i => t.extentGone i) s

/-- The oldest add of a VCS's region that waits: the host answers them in order. -/
def State.dcAddOf (s : State) (vcs region : Nat) : Option DcAdd := s.dcAdds.find? fun a => a.vcs = vcs && a.region = region

/-- Add Dynamic Capacity Response (R76). -/
def dcAddResponse (vcs region : Nat) (accepted : List Nat) (s : State) : State :=
  match s.dcAddOf vcs region with
  | some a => s.endAdd a accepted .success .none
  | none => s

/-- 10 s without the host's response (R76): every reserved extent returns to the free pool, and the operation ends Aborted with HOST_NO_ACK (log entry 83). -/
def dcAddTimeout (vcs region : Nat) (s : State) : State :=
  match s.dcAddOf vcs region with
  | some a => s.endAdd a [] .aborted .hostNoAck
  | none => s

/-- Initiate Dynamic Capacity Release (R77, R78): of extents the region holds, or of extents an add before it still offers. A list that is empty or names an extent twice is Invalid Input
(log entry 83). -/
def fmDcRelease (via : FmVia) (vcs region : Nat) (extents : List Nat) (s : State) : State :=
  let op := 0x5605
  s.fm via op false fun s =>
    let held := fun i => decide (Tbl.rd (fun _ => none) s.dcRegion i = some (8 * vcs + region)) && !s.flag L1_W1.RELEASING i
    let offered := fun i => s.dcAdds.any fun a => a.vcs = vcs && a.region = region && a.extents.contains i
    if !s.hasPool vcs ∨ 8 ≤ region ∨ extents.isEmpty ∨ !extents.Nodup ∨ !(extents.all fun i => held i || offered i) then s.fmBad via op .none
    else
      let s := { s with dcReleases := s.dcReleases ++ [(⟨requester via, vcs, extents⟩ : DcRelease)] }
      let s := s.startRelease (extents.filter held)
      let later := fun (b : DcAdd) => extents.filter fun i => !held i && b.extents.contains i
      ({ s with dcAdds := s.dcAdds.map fun (b : DcAdd) => if b.vcs = vcs ∧ b.region = region then { b with later := b.later ++ later b } else b }).fmStarted via op

/-- The directory entries of an extent after its release's sweep (R77): every line I; a line in P stays unless the zero-fill wrote it. -/
def State.sweepExtent (s : State) (i : Nat) (filled : Bool) : State :=
  (s.dirListed.filter fun a => s.lineOf a / 2 ^ 24 = i).foldl (fun t a =>
    let n := homeSlice (64 * t.lineOf a)
    if (dirDecode (t.dirWord n a)).state = .p ∧ !filled then t else t.setDir n a 0) s

/-- A migration of an extent waits or runs in a slot (R244, R247). -/
def State.migrating (s : State) (i : Nat) : Bool :=
  s.migWait.contains i || (List.range 32).any fun k => s.get RMP_MIG_SLOT0.PHASE k ≠ 0 && s.get RMP_MIG_SLOT0.L1_IDX k = i

/-- An extent's migrations, sweep and zero-fill are complete (R77): it returns to the free pool, its level-2 table freed (R200). -/
def extentReleaseComplete (i : Nat) (s : State) : State :=
  if !s.flag L1_W1.RELEASING i || s.migrating i || s.fillDue.contains i then s
  else
    let filled := match Tbl.rd (fun _ => none) s.dcRegion i with
      | some k => Tbl.rd (fun _ => false) s.dcSanitize k
      | none => false
    let s := if s.flag L1_W0.SHARED i then s.sweepExtent i filled else s
    let s := s.freeExtent i fun t => ((t.set L1_W0.HELD i 0).set L1_W1.RELEASING i 0).set L1_W1.VCS i 0
    ({ s with dcRegion := Tbl.wr (fun _ => none) s.dcRegion i none }).extentGone i

/-! ### HDM decoders and BI enables (R75, R231) -/

/-- A commit that waits for a CAID, begun or ended. -/
def State.waitCommit (s : State) (vcs k : Nat) (on : Bool) : State :=
  let l := s.commitWait.filter (· ≠ 16 * vcs + k)
  { s with commitWait := if on then l ++ [16 * vcs + k] else l }

/-- A setting that the upstream decoders of VCS `vcs` support (R192): the ways listed, a granularity of 256 bytes to 16 KiB, and a target for each way among the VCS's own downstream vPPBs.
DEDUCED (log entry 88): a commit of another setting is Error Not Committed. -/
def State.decoderSupported (s : State) (vcs : Nat) (d : HdmDecoder) : Bool :=
  [1, 2, 3, 4, 6, 8, 12, 16].contains d.ways && [256, 512, 1024, 2048, 4096, 8192, 16384].contains d.gran &&
    decide (d.targets.length = d.ways) && d.targets.all fun n => (s.vppbAt vcs n).isSome

/-- A host asks to commit or uncommit an HDM decoder (R75): HDM-DB needs back-invalidate negotiated in CXL 256-byte mode, both BI enables and an admitted agent; else Error Not Committed. -/
def hdmDecoderCommit (vcs k : Nat) (d : HdmDecoder) (s : State) : State :=
  let k := k % 16
  let p := s.get VCS_ENTRY.USP_PORT vcs
  let s := s.waitCommit vcs k false
  if !d.committed then s.setDecoder vcs k { d with error := false }
  else if k < 8 ∧ !s.decoderSupported vcs d then s.setDecoder vcs k { d with committed := false, error := true }
  else if !d.db ∨ k < 8 then s.setDecoder vcs k { d with error := false }
  else if s.get PRT_CXL_STATUS.PROTO p ≠ 2 ∨ !s.flag PRT_CXL_STATUS.BI p ∨ !s.flag VCS_ENTRY.BI_EN vcs ∨ !(Tbl.rd (fun _ => false) s.biDecoder vcs) then
    s.setDecoder vcs k { d with committed := false, error := true }
  else if s.agentAdmitted vcs then s.setDecoder vcs k { d with error := false }
  else
    let s := s.requestCaid vcs
    if s.agentAdmitted vcs then s.setDecoder vcs k { d with error := false }
    else if s.allocates then s.setDecoder vcs k { d with committed := false, error := true }
    else (s.setDecoder vcs k { d with committed := false, error := false }).waitCommit vcs k true

/-- The host writes a BI enable (R75, R233): clearing one removes its agent and fails the commits that wait for a CAID; setting both while an HDM-DB decoder is committed asks for a CAID again. -/
def biEnableWrite (vcs : Nat) (route on : Bool) (s : State) : State :=
  let was := s.agentAdmitted vcs
  let c := s.get VCS_ENTRY.CAID vcs
  let s := if !on && was then s.removeAgent c else s
  let s := if on then s else ({ s with caidWait := s.caidWait.filter (· ≠ vcs) }).failCommit vcs
  let s := if route then s.set VCS_ENTRY.BI_EN vcs (bit on) else { s with biDecoder := Tbl.wr (fun _ => false) s.biDecoder vcs on }
  let both := s.flag VCS_ENTRY.BI_EN vcs && Tbl.rd (fun _ => false) s.biDecoder vcs
  let open' := (List.range 8).any fun k => (s.decoder vcs (8 + k)).db && (s.decoder vcs (8 + k)).committed
  if on && both && open' && !s.agentAdmitted vcs then s.requestCaid vcs else s

/-! ### Links (R79, R80, R85, R86) -/

/-- A bound target's link drops without an unbind (R71, R79, R80). -/
def targetSurpriseRemoval (p lost : Nat) (s : State) : State :=
  if s.flag PRT_LINK_STATUS.DL_UP p then s.loseLink p false lost else s

/-- An IDE integrity failure (R86): counted, event 353 + 2n, the stream insecure, the link taken down. -/
def ideIntegrityFailure (p lost : Nat) (s : State) : State :=
  let s := s.count PRT_CXL_STATUS.IDE_FAIL p
  let s := s.set PRT_CXL_STATUS.IDE_CM p 0
  let s := s.set PRT_CXL_STATUS.IDE_IO p 0
  let s := s.cause (353 + 2 * (p / 2)) 1 p
  s.loseLink p false lost

/-- IDE key set-up completes (R85): keys come from the TRNG, the streams are secure and kept traffic goes on; only on an upstream or downstream port in CXL 256-byte mode, with the TRNG ready
(R338) and a key record in force (R335). -/
def ideKeySetUp (p mode : Nat) (io : Bool) (s : State) : State :=
  if 1 < s.role p ∨ s.get PRT_CXL_STATUS.PROTO p ≠ 2 ∨ s.idePol p = 0 ∨ !s.flag KEY_TRNG_STAT.READY 0 ∨ !s.flag KEY_STAT.REC_VALID 0 then s
  else
    let s := { s with ideKeys := Tbl.wr (fun _ => none) s.ideKeys p (some (Config.trngOut s.freeCtr)) }.fresh
    ((s.set PRT_CXL_STATUS.IDE_CM p (min mode 2)).set PRT_CXL_STATUS.IDE_IO p (bit io)).releaseKept p

/-- A message whose flits have all come (R158): a flit whose CRC fails is counted and replayed, and its message held at the link; one that is whole goes on, or is kept while its port is at
its limit or its stream not secure (R66, R85), in arrival order. -/
def messageToDecode (p : Nat) (crcOk : Bool) (m : PortMsg) (s : State) : State :=
  let n := Tbl.rd (fun _ => 0) s.partials p
  if !crcOk then
    ({ s with partials := Tbl.wr (fun _ => 0) s.partials p (n + 1) }.count PRT_LINK_ERR.CRC_ERR p).tallyPort 7 p
  else
    let s := { s with partials := Tbl.wr (fun _ => 0) s.partials p (n - 1) }
    if s.mustWait p m || !(s.keptAt p).isEmpty then { s with portHold := Tbl.wr (fun _ => []) s.portHold p (s.keptAt p ++ [m]) } else s.takeMsg p m

/-! ### The FM API over its two paths -/

/-- Weusk over CCI (R82, R344): the opcode must equal 0xC000 + TYPE. -/
def fmWeusk (via : FmVia) (opcode type : Nat) (s : State) : State :=
  s.fm via opcode true fun s => if opcode = 0xC000 + type % 256 then s else s.fmBad via opcode .none

/-- An opcode the device does not implement (R83). -/
def fmOther (via : FmVia) (opcode : Nat) (s : State) : State :=
  s.fm via opcode true fun s => s.fmReply via opcode .unsupported .none []

/-- An FM API command by either path. -/
def fmRun (via : FmVia) (c : FmCmd) (s : State) : State :=
  match c with
  | .identify => fmIdentify via s
  | .backgroundStatus => fmBgStatus via s
  | .getLimit => fmGetLimit via s
  | .setLimit b => fmSetLimit via b s
  | .abort => fmAbort via s
  | .getEvents => fmGetEvents via s
  | .clearEvents h => fmClearEvents via h s
  | .getPolicy => fmGetPolicy via s
  | .setPolicy x => fmSetPolicy via x s
  | .getTimestamp => fmTimestamp via s
  | .getLogs => fmGetLogs via s
  | .getLog => fmGetLog via s
  | .identifySwitch => fmIdentifySwitch via s
  | .portState l => fmPortState via l s
  | .portControl q op => fmPortControl via q op s
  | .ppbConfig q r a => fmPpbConfig via q r a s
  | .vcsInfo v => fmVcsInfo via v s
  | .bind v q ld => fmBind via v q ld s
  | .unbind v o => fmUnbind via v o s
  | .aer v e => fmAer via v e s
  | .tunnel t l r a => fmTunnel via t l r a s
  | .ldConfig q ld r a => fmLdConfig via q ld r a s
  | .ldMemory q ld r a => fmLdMemory via q ld r a s
  | .dcdInfo => fmDcdInfo via s
  | .dcConfig v => fmDcConfig via v s
  | .setDcConfig v k x => fmSetDcConfig via v k x s
  | .extentLists v => fmExtentLists via v s
  | .dcAdd v k n => fmDcAdd via v k n s
  | .dcRelease v k l => fmDcRelease via v k l s
  | .weusk o t => fmWeusk via o t s
  | .other o => fmOther via o s

/-- Bind vPPB over a CCI. -/
def bindVppb (p len vppb target : Nat) (ld : Option Nat) (s : State) : State := fmBind (.cci p len) vppb target ld s
/-- Unbind vPPB over a CCI. -/
def unbindVppb (p len vppb option : Nat) (s : State) : State := fmUnbind (.cci p len) vppb option s
/-- Request Abort Background Operation over a CCI. -/
def abortBackground (p len : Nat) (s : State) : State := fmAbort (.cci p len) s
/-- Identify over a CCI. -/
def identify (p len : Nat) (s : State) : State := fmIdentify (.cci p len) s
/-- Background Operation Status over a CCI. -/
def backgroundStatus (p len : Nat) (s : State) : State := fmBgStatus (.cci p len) s
/-- Get Response Message Limit over a CCI. -/
def getResponseLimit (p len : Nat) (s : State) : State := fmGetLimit (.cci p len) s
/-- Set Response Message Limit over a CCI. -/
def setResponseLimit (p len bytes : Nat) (s : State) : State := fmSetLimit (.cci p len) bytes s
/-- Get Event Records over a CCI. -/
def getEventRecords (p len : Nat) (s : State) : State := fmGetEvents (.cci p len) s
/-- Clear Event Records over a CCI. -/
def clearEventRecords (p len : Nat) (handles : List Nat) (s : State) : State := fmClearEvents (.cci p len) handles s
/-- Get Event Interrupt Policy over a CCI. -/
def getEventPolicy (p len : Nat) (s : State) : State := fmGetPolicy (.cci p len) s
/-- Set Event Interrupt Policy over a CCI. -/
def setEventPolicy (p len policy : Nat) (s : State) : State := fmSetPolicy (.cci p len) policy s
/-- Get Timestamp over a CCI. -/
def getTimestamp (p len : Nat) (s : State) : State := fmTimestamp (.cci p len) s
/-- Get Supported Logs over a CCI. -/
def getSupportedLogs (p len : Nat) (s : State) : State := fmGetLogs (.cci p len) s
/-- Get Log over a CCI. -/
def getLog (p len : Nat) (s : State) : State := fmGetLog (.cci p len) s
/-- Identify Switch Device over a CCI. -/
def identifySwitch (p len : Nat) (s : State) : State := fmIdentifySwitch (.cci p len) s
/-- Get Physical Port State over a CCI. -/
def getPortState (p len : Nat) (ports : List Nat) (s : State) : State := fmPortState (.cci p len) ports s
/-- Physical Port Control over a CCI. -/
def portControl (p len target op : Nat) (s : State) : State := fmPortControl (.cci p len) target op s
/-- Send PPB CXL.io Configuration Request over a CCI. -/
def ppbConfig (p len target : Nat) (request answer : List Byte) (s : State) : State := fmPpbConfig (.cci p len) target request answer s
/-- Get Virtual CXL Switch Info over a CCI. -/
def vcsInfo (p len vcs : Nat) (s : State) : State := fmVcsInfo (.cci p len) vcs s
/-- Generate AER Event over a CCI. -/
def generateAer (p len vppb error : Nat) (s : State) : State := fmAer (.cci p len) vppb error s
/-- Tunnel Management Command over a CCI. -/
def tunnel (p len target : Nat) (reduced : List Nat) (request answer : List Byte) (s : State) : State := fmTunnel (.cci p len) target reduced request answer s
/-- Send LD CXL.io Configuration Request over a CCI. -/
def ldConfig (p len target ld : Nat) (request answer : List Byte) (s : State) : State := fmLdConfig (.cci p len) target ld request answer s
/-- Send LD CXL.io Memory Request over a CCI. -/
def ldMemory (p len target ld : Nat) (request answer : List Byte) (s : State) : State := fmLdMemory (.cci p len) target ld request answer s
/-- Get DCD Info over a CCI. -/
def dcdInfo (p len : Nat) (s : State) : State := fmDcdInfo (.cci p len) s
/-- Get Host DC Region Config over a CCI. -/
def dcConfig (p len vcs : Nat) (s : State) : State := fmDcConfig (.cci p len) vcs s
/-- Set DC Region Config over a CCI. -/
def setDcConfig (p len vcs region : Nat) (sanitize : Bool) (s : State) : State := fmSetDcConfig (.cci p len) vcs region sanitize s
/-- Get DC Region Extent Lists over a CCI. -/
def extentLists (p len vcs : Nat) (s : State) : State := fmExtentLists (.cci p len) vcs s
/-- Initiate Dynamic Capacity Add over a CCI. -/
def dcAdd (p len vcs region extents : Nat) (s : State) : State := fmDcAdd (.cci p len) vcs region extents s
/-- Initiate Dynamic Capacity Release over a CCI. -/
def dcRelease (p len vcs region : Nat) (extents : List Nat) (s : State) : State := fmDcRelease (.cci p len) vcs region extents s
/-- Weusk over a CCI. -/
def weuskOverCci (p len opcode type : Nat) (s : State) : State := fmWeusk (.cci p len) opcode type s
/-- An unimplemented opcode over a CCI. -/
def unsupportedOpcode (p len opcode : Nat) (s : State) : State := fmOther (.cci p len) opcode s

/-- FM_API (R345): an FM API command in a Weusk message. -/
def fmApi (ses tag : Nat) (c : FmCmd) (s : State) : State := fmRun (.ses ses tag) c s

/-- A binding to a target on another chip (R71, R81, R89, R310, R316): refused with MODE_WITHHELD for an LD while this chip or the target's is MIXED, with BUSY while no chip holds the lease,
and as R71 has it; `answer` is what the target's chip finds of its target, NONE where it may be bound. -/
def remoteBinding (ses tag vppb feid : Nat) (ld : Option Nat) (bind mixed : Bool) (answer : FmExt) (s : State) : State :=
  let via := FmVia.ses ses tag
  let op := if bind then 0x5201 else 0x5202
  let feid := feid % 2 ^ 17
  s.message ses 0x0C tag true fun s =>
    let bound := (s.listed .VPPB_ENTRY).any fun v =>
      (s.get VPPB_ENTRY.STATE v = 1 || s.get VPPB_ENTRY.STATE v = 2) && s.flag VPPB_ENTRY.REMOTE v && s.get VPPB_ENTRY.TARGET v = feid &&
        (s.get VPPB_ENTRY.STATE v = 1 || ld.all fun l => s.get VPPB_ENTRY.LD_ID v = l)
    if s.get MGT_FAB_STAT.ROLE_NOW 0 ≠ 3 ∧ s.get MGT_FAB_STAT.ACTING_MGR 0 = 0xFF then s.reply ses 0x0C tag .busy
    else if 1024 ≤ vppb then s.fmBad via op .none
    else if ld.isSome && bind && (mixed || s.flag MGT_FAB_STAT.MIXED 0) then
      (s.count MGT_FAB_CNT.WITHHELD 0).fmReply via op .unsupported .modeWithheld []
    else if (s.vppb vppb).op.isSome then s.fmReply via op .busy .bindingBusy []
    else if s.flag VPPB_ENTRY.USP vppb ∨ s.get VPPB_ENTRY.STATE vppb = 3 then s.fmBad via op .roleMismatch
    else if bind then
      if feid / 512 = s.get MGT_CHIP_INFO.CHIP_ID 0 ∨ 128 ≤ feid % 512 ∨ (ld.any fun l => 16 ≤ l) = true ∨ answer = .roleMismatch then s.fmBad via op .roleMismatch
      else if s.get VPPB_ENTRY.STATE vppb ≠ 0 then s.fmBad via op .vppbBound
      else if bound ∨ answer = .targetBound then s.fmBad via op .targetBound
      else if answer = .regionFenced then s.fmBad via op .regionFenced
      else ((s.setBinding vppb feid ld true).hotAdd vppb).fmReply via op .success .none []
    else if s.get VPPB_ENTRY.STATE vppb = 0 then s.fmBad via op .notBound
    else
      let s := s.set VPPB_ENTRY.STATE vppb 0
      let s := s.set VPPB_ENTRY.REMOTE vppb 0
      (s.set VPPB_ENTRY.PRESENT vppb 0).fmReply via op .success .none []

/-! ### Meanings -/

/-- BIND_VPPB: R68, R70, R71, R81, R82, R83, R84, R89, R164. -/
def execBindVppb (p : Nat) (len : Nat) (vppb : Nat) (target : Nat) (ld : Option Nat) (s : State) : Host.Outcome State Fault Refusal :=
  run (decide (p < 128)) (bindVppb p len vppb target ld s)

/-- BIND_COMPLETE: R68, R70, R73, R173. -/
def execBindComplete (v : Nat) (s : State) : Host.Outcome State Fault Refusal :=
  run (decide (v < 1024)) (bindComplete v s)

/-- UNBIND_VPPB: R70, R71, R79, R82, R83, R84, R89, R432. -/
def execUnbindVppb (p : Nat) (len : Nat) (vppb : Nat) (option : Nat) (s : State) : Host.Outcome State Fault Refusal :=
  run (decide (p < 128)) (unbindVppb p len vppb option s)

/-- UNBIND_COMPLETE: R70. -/
def execUnbindComplete (v : Nat) (s : State) : Host.Outcome State Fault Refusal :=
  run (decide (v < 1024)) (unbindComplete v s)

/-- HOT_REMOVE_TIMEOUT: R70, R84. -/
def execHotRemoveTimeout (v : Nat) (s : State) : Host.Outcome State Fault Refusal :=
  run (decide (v < 1024)) (hotRemoveTimeout v s)

/-- REQUEST_ABORT_BACKGROUND_OPERATION: R70, R83. -/
def execAbortBackground (p : Nat) (len : Nat) (s : State) : Host.Outcome State Fault Refusal :=
  run (decide (p < 128)) (abortBackground p len s)

/-- IDENTIFY: R82, R83, R342. -/
def execIdentify (p : Nat) (len : Nat) (s : State) : Host.Outcome State Fault Refusal :=
  run (decide (p < 128)) (identify p len s)

/-- BACKGROUND_OPERATION_STATUS: R83. -/
def execBackgroundStatus (p : Nat) (len : Nat) (s : State) : Host.Outcome State Fault Refusal :=
  run (decide (p < 128)) (backgroundStatus p len s)

/-- GET_RESPONSE_MESSAGE_LIMIT: R83. -/
def execGetResponseLimit (p : Nat) (len : Nat) (s : State) : Host.Outcome State Fault Refusal :=
  run (decide (p < 128)) (getResponseLimit p len s)

/-- SET_RESPONSE_MESSAGE_LIMIT: R83. -/
def execSetResponseLimit (p : Nat) (len : Nat) (bytes : Nat) (s : State) : Host.Outcome State Fault Refusal :=
  run (decide (p < 128)) (setResponseLimit p len bytes s)

/-- GET_EVENT_RECORDS: R83. -/
def execGetEventRecords (p : Nat) (len : Nat) (s : State) : Host.Outcome State Fault Refusal :=
  run (decide (p < 128)) (getEventRecords p len s)

/-- CLEAR_EVENT_RECORDS: R83. -/
def execClearEventRecords (p : Nat) (len : Nat) (handles : List Nat) (s : State) : Host.Outcome State Fault Refusal :=
  run (decide (p < 128)) (clearEventRecords p len handles s)

/-- GET_EVENT_INTERRUPT_POLICY: R83. -/
def execGetEventPolicy (p : Nat) (len : Nat) (s : State) : Host.Outcome State Fault Refusal :=
  run (decide (p < 128)) (getEventPolicy p len s)

/-- SET_EVENT_INTERRUPT_POLICY: R83. -/
def execSetEventPolicy (p : Nat) (len : Nat) (policy : Nat) (s : State) : Host.Outcome State Fault Refusal :=
  run (decide (p < 128)) (setEventPolicy p len policy s)

/-- GET_TIMESTAMP: R83. -/
def execGetTimestamp (p : Nat) (len : Nat) (s : State) : Host.Outcome State Fault Refusal :=
  run (decide (p < 128)) (getTimestamp p len s)

/-- GET_SUPPORTED_LOGS: R83. -/
def execGetSupportedLogs (p : Nat) (len : Nat) (s : State) : Host.Outcome State Fault Refusal :=
  run (decide (p < 128)) (getSupportedLogs p len s)

/-- GET_LOG: R83. -/
def execGetLog (p : Nat) (len : Nat) (s : State) : Host.Outcome State Fault Refusal :=
  run (decide (p < 128)) (getLog p len s)

/-- IDENTIFY_SWITCH_DEVICE: R83. -/
def execIdentifySwitch (p : Nat) (len : Nat) (s : State) : Host.Outcome State Fault Refusal :=
  run (decide (p < 128)) (identifySwitch p len s)

/-- GET_PHYSICAL_PORT_STATE: R83. -/
def execGetPortState (p : Nat) (len : Nat) (ports : List Nat) (s : State) : Host.Outcome State Fault Refusal :=
  run (decide (p < 128)) (getPortState p len ports s)

/-- PHYSICAL_PORT_CONTROL: R83. -/
def execPortControl (p : Nat) (len : Nat) (target : Nat) (op : Nat) (s : State) : Host.Outcome State Fault Refusal :=
  run (decide (p < 128)) (portControl p len target op s)

/-- SEND_PPB_CXL_IO_CONFIGURATION_REQUEST: R83. -/
def execPpbConfig (p : Nat) (len : Nat) (target : Nat) (request : List Byte) (answer : List Byte) (s : State) : Host.Outcome State Fault Refusal :=
  run (decide (p < 128)) (ppbConfig p len target request answer s)

/-- GET_VIRTUAL_CXL_SWITCH_INFO: R83. -/
def execVcsInfo (p : Nat) (len : Nat) (vcs : Nat) (s : State) : Host.Outcome State Fault Refusal :=
  run (decide (p < 128)) (vcsInfo p len vcs s)

/-- GENERATE_AER_EVENT: R83. -/
def execGenerateAer (p : Nat) (len : Nat) (vppb : Nat) (error : Nat) (s : State) : Host.Outcome State Fault Refusal :=
  run (decide (p < 128)) (generateAer p len vppb error s)

/-- TUNNEL_MANAGEMENT_COMMAND: R72, R83. -/
def execTunnel (p : Nat) (len : Nat) (target : Nat) (reduced : List Nat) (request : List Byte) (answer : List Byte) (s : State) : Host.Outcome State Fault Refusal :=
  run (decide (p < 128)) (tunnel p len target reduced request answer s)

/-- SEND_LD_CXL_IO_CONFIGURATION_REQUEST: R83. -/
def execLdConfig (p : Nat) (len : Nat) (target : Nat) (ld : Nat) (request : List Byte) (answer : List Byte) (s : State) : Host.Outcome State Fault Refusal :=
  run (decide (p < 128)) (ldConfig p len target ld request answer s)

/-- SEND_LD_CXL_IO_MEMORY_REQUEST: R83. -/
def execLdMemory (p : Nat) (len : Nat) (target : Nat) (ld : Nat) (request : List Byte) (answer : List Byte) (s : State) : Host.Outcome State Fault Refusal :=
  run (decide (p < 128)) (ldMemory p len target ld request answer s)

/-- GET_DCD_INFO: R83. -/
def execDcdInfo (p : Nat) (len : Nat) (s : State) : Host.Outcome State Fault Refusal :=
  run (decide (p < 128)) (dcdInfo p len s)

/-- GET_HOST_DC_REGION_CONFIG: R83. -/
def execDcConfig (p : Nat) (len : Nat) (vcs : Nat) (s : State) : Host.Outcome State Fault Refusal :=
  run (decide (p < 128)) (dcConfig p len vcs s)

/-- SET_DC_REGION_CONFIG: R83. -/
def execSetDcConfig (p : Nat) (len : Nat) (vcs : Nat) (region : Nat) (sanitize : Bool) (s : State) : Host.Outcome State Fault Refusal :=
  run (decide (p < 128)) (setDcConfig p len vcs region sanitize s)

/-- GET_DC_REGION_EXTENT_LISTS: R83. -/
def execExtentLists (p : Nat) (len : Nat) (vcs : Nat) (s : State) : Host.Outcome State Fault Refusal :=
  run (decide (p < 128)) (extentLists p len vcs s)

/-- INITIATE_DYNAMIC_CAPACITY_ADD: R76, R78, R83, R84. -/
def execDcAdd (p : Nat) (len : Nat) (vcs : Nat) (region : Nat) (extents : Nat) (s : State) : Host.Outcome State Fault Refusal :=
  run (decide (p < 128)) (dcAdd p len vcs region extents s)

/-- ADD_DYNAMIC_CAPACITY_RESPONSE: R76. -/
def execDcAddResponse (vcs : Nat) (region : Nat) (accepted : List Nat) (s : State) : Host.Outcome State Fault Refusal :=
  run (decide (vcs < 64) && decide (region < 8)) (dcAddResponse vcs region accepted s)

/-- DC_ADD_RESPONSE_TIMEOUT: R76. -/
def execDcAddTimeout (vcs : Nat) (region : Nat) (s : State) : Host.Outcome State Fault Refusal :=
  run (decide (vcs < 64) && decide (region < 8)) (dcAddTimeout vcs region s)

/-- INITIATE_DYNAMIC_CAPACITY_RELEASE: R77, R78, R83, R255. -/
def execDcRelease (p : Nat) (len : Nat) (vcs : Nat) (region : Nat) (extents : List Nat) (s : State) : Host.Outcome State Fault Refusal :=
  run (decide (p < 128)) (dcRelease p len vcs region extents s)

/-- EXTENT_RELEASE_COMPLETE: R77, R200. -/
def execExtentReleaseComplete (entry : Nat) (s : State) : Host.Outcome State Fault Refusal :=
  .next (extentReleaseComplete entry s)

/-- WEUSK_OVER_CCI: R82, R83, R342, R344. -/
def execWeuskOverCci (p : Nat) (len : Nat) (opcode : Nat) (type : Nat) (s : State) : Host.Outcome State Fault Refusal :=
  run (decide (p < 128)) (weuskOverCci p len opcode type s)

/-- UNSUPPORTED_OPCODE: R83, R84. -/
def execUnsupportedOpcode (p : Nat) (len : Nat) (opcode : Nat) (s : State) : Host.Outcome State Fault Refusal :=
  run (decide (p < 128)) (unsupportedOpcode p len opcode s)

/-- HDM_DECODER_COMMIT: R75, R192. -/
def execHdmDecoderCommit (vcs : Nat) (k : Nat) (d : HdmDecoder) (s : State) : Host.Outcome State Fault Refusal :=
  run (decide (vcs < 64)) (hdmDecoderCommit vcs k d s)

/-- BI_ENABLE_WRITE: R75. -/
def execBiEnableWrite (vcs : Nat) (route : Bool) (on : Bool) (s : State) : Host.Outcome State Fault Refusal :=
  run (decide (vcs < 64)) (biEnableWrite vcs route on s)

/-- TARGET_SURPRISE_REMOVAL: R79, R80. -/
def execTargetSurpriseRemoval (p : Nat) (lost : Nat) (s : State) : Host.Outcome State Fault Refusal :=
  run (decide (p < 128)) (targetSurpriseRemoval p lost s)

/-- IDE_INTEGRITY_FAILURE: R86. -/
def execIdeIntegrityFailure (p : Nat) (lost : Nat) (s : State) : Host.Outcome State Fault Refusal :=
  run (decide (p < 128)) (ideIntegrityFailure p lost s)

/-- MESSAGE_TO_DECODE: R65, R66, R85, R158, R222. -/
def execMessageToDecode (p : Nat) (crcOk : Bool) (m : PortMsg) (s : State) : Host.Outcome State Fault Refusal :=
  run (decide (p < 128)) (messageToDecode p crcOk m s)

/-- FM_API: R345. -/
def execFmApi (ses : Nat) (tag : Nat) (c : FmCmd) (s : State) : Host.Outcome State Fault Refusal :=
  run (decide (ses < 8)) (fmApi ses tag c s)

/-- IDE_KEY_SET_UP: R85, R335. -/
def execIdeKeySetUp (p : Nat) (mode : Nat) (io : Bool) (s : State) : Host.Outcome State Fault Refusal :=
  run (decide (p < 128)) (ideKeySetUp p mode io s)

/-- REMOTE_BINDING: R81, R89, R310, R316. -/
def execRemoteBinding (ses : Nat) (tag : Nat) (vppb : Nat) (feid : Nat) (ld : Option Nat) (bind : Bool) (mixed : Bool) (answer : FmExt) (s : State) : Host.Outcome State Fault Refusal :=
  run (decide (ses < 8)) (remoteBinding ses tag vppb feid ld bind mixed answer s)

end Sys2Proof.Machine
end

