-- ==== Sys2Proof/Machine/SflPhy.lean ====
section
/-! DEFINITION. The Shutus Fabric Link's physical layer (R90 to R110): marker hunt and lock, the decoder's counts, and training from DOWN to ACTIVE. -/

namespace Sys2Proof.Machine

/-! ### Marker hunt and lock (R96, R97, R101, R102) -/

/-- The lane ID of a marker: M3 [4:0]. -/
def markerLane (m : Word) : Nat := m.field 28 24

/-- The sequence of a marker: M3 [7:5]. -/
def markerSeq (m : Word) : Nat := m.field 31 29

/-- M7 is the exact complement of M3. -/
def markerComplement (m : Word) : Bool := m.field 31 24 + m.field 63 56 = 255

/-- How many of the 48 fixed bits differ. -/
def markerDistance (m : Word) : Nat :=
  let x := Nat.xor m.toNat markerFixed
  popCount 24 x + popCount 24 (x / 2 ^ 32)

/-- A lane ID that R97 gives a meaning. -/
def laneIdValid (i : Nat) : Bool := decide (i ≤ 0x11) || i = 0x1F

/-- A marker candidate (R101). -/
def isCandidate (m : Word) : Bool :=
  decide (markerDistance m ≤ 3) && markerComplement m && laneIdValid (markerLane m)

/-- The marker period in line bits (R98). -/
def markerPeriod : Nat := 1144710

/-- A lane in hunt sees a position of the stream (R94, R101, R102): the fourth candidate in a row with the right spacing, polarity, lane ID and sequence locks it, corrects its polarity
and fixes its block and codeword boundaries; one that breaks a condition starts the count again at itself. -/
def markerCandidate (b k : Nat) (m : Word) (spacing : Nat) (inverted : Bool) (s : State) : State :=
  let x := s.sflLane b k
  if !isCandidate m || s.flag SFL_LANE_STAT.LOCK (9 * b + k) then s
  else
    let id := markerLane m
    let follows := decide (0 < x.seen) && spacing = markerPeriod && inverted = x.inverted && id = x.laneId && markerSeq m = x.nextSeq
    let n := if follows then x.seen + 1 else 1
    let x : SflLane := { x with seen := n, laneId := id, nextSeq := (markerSeq m + 1) % 8, inverted := inverted, badMarkers := 0, badCodewords := 0 }
    if 4 ≤ n then
      let x := { x with
        home := if id < 16 then id else x.home, expId := id, scr := scrSeed id, blk := 1, cw := 0, ahead := false, bad := [], badNext := [] }
      ((s.setSflLane b k x).set SFL_LANE_STAT.LOCK (9 * b + k) 1).set SFL_LANE_STAT.LANE_ID (9 * b + k) id
    else s.setSflLane b k x

/-- The receiver past a marker (R95, R96): the descrambler is reseeded, the next block is the period's first, and the codewords marked bad are those of the new period. -/
def SflLane.newPeriod (x : SflLane) : SflLane :=
  { x with scr := scrSeed x.expId, blk := 1, cw := if x.ahead then x.cw else 1, ahead := false, bad := x.badNext, badNext := [] }

/-- A locked lane checks a marker after FEC (R102, R105, R129): exact pattern, the lane ID and sequence expected, and in ACTIVE its position; the third failure in a row returns it to
hunt. -/
def markerCheck (b k : Nat) (m : Word) (late : Bool) (s : State) : State :=
  let x := s.sflLane b k
  if !s.flag SFL_LANE_STAT.LOCK (9 * b + k) then s
  else
    let lateNow := late && s.get SFL_TRAIN_STATUS.STATE (s.leadOf b) = 7
    let ok := decide (markerDistance m = 0) && markerComplement m && markerLane m = x.expId && markerSeq m = x.nextSeq && !lateNow
    let y := { x.newPeriod with nextSeq := (x.nextSeq + 1) % 8 }
    if ok then
      (s.setSflLane b k { y with laneId := markerLane m, badMarkers := 0 }).set SFL_LANE_STAT.LANE_ID (9 * b + k) (markerLane m)
    else
      let s := s.count SFL_LANE_STAT.MARKER_ERR (9 * b + k)
      if 3 ≤ x.badMarkers + 1 then s.toHunt b k
      else s.setSflLane b k { y with badMarkers := x.badMarkers + 1 }

/-! ### The decoder (R99) -/

/-- Uncorrectable codewords of one second above FLT_WEAR_CFG.FEC_THR raise event 353 + 2n once (R380). -/
def State.fecSecond (s : State) (b : Nat) : State :=
  let x := s.train b
  let now := s.clk / 1000000000
  let n := if x.fec.1 = now then x.fec.2 + 1 else 1
  let s := s.setTrain b { x with fec := (now, n) }
  if n = s.get FLT_WEAR_CFG.FEC_THR 0 + 1 then s.cause (353 + 2 * b) 1 n else s

/-- The receiver past a codeword (R98, R99): the next one's number, 211 to a marker period; an uncorrectable one marks the blocks it overlaps bad. -/
def SflLane.nextCodeword (x : SflLane) (ok : Bool) : SflLane :=
  let x := if ok then { x with badCodewords := 0 }
    else if x.ahead then { x with badCodewords := x.badCodewords + 1, badNext := x.badNext ++ [x.cw] }
    else { x with badCodewords := x.badCodewords + 1, bad := x.bad ++ [x.cw] }
  { x with cw := (x.cw + 1) % 211, ahead := x.ahead || x.cw = 210 }

/-- The port a lane circuit serves now (R37): that of the pair it is switched to; the spare pair of a fabric block, its port. -/
def State.circuitPort (s : State) (b k : Nat) : Nat := s.pairPort b ((s.circuitPair b k).getD 0)

/-- Corrected symbols of a codeword counted on its circuit (R50, R99). -/
def State.countSymbols (s : State) (b k n : Nat) : State :=
  let i := 9 * b + k
  ((s.count PRT_LANE_STAT.SYM_WIN i n).count PRT_LANE_STAT.SYM_TOTAL i n).tallyPort 8 (s.circuitPort b k) n

/-- A codeword is decoded (R59, R98, R99, R102): on a locked fabric lane by RS(544,514) from the levels received, with 15 symbols corrected at most; corrected ones and their symbols are
counted, an uncorrectable one is counted and its blocks are bad, and eight in a row return the lane to hunt. In a PCIe role the outcome is the operand's. -/
def codewordDecode (b k : Nat) (ok : Bool) (symbols : Nat) (levels : List Nat) (s : State) : State :=
  let i := 9 * b + k
  let p := s.circuitPort b k
  if s.role p = 2 then
    let x := s.sflLane b k
    if !s.flag SFL_LANE_STAT.LOCK i then s
    else
      let word := rxSymbols x.inverted levels
      match (if word.length = cwData x.cw + 30 then rsDecode word else none) with
      | some (_, n) =>
        let s := s.setSflLane b k (x.nextCodeword true)
        if n = 0 then s else (s.count SFL_LANE_STAT.CW_CORR i).countSymbols b k n
      | none =>
        let s := (s.count SFL_LANE_STAT.CW_UNCORR i).fecSecond b
        if 8 ≤ x.badCodewords + 1 then s.toHunt b k else s.setSflLane b k (x.nextCodeword false)
  else if (s.circuitPair b k).isNone then s
  else if ok then (if symbols = 0 then s else s.countSymbols b k symbols)
  else (s.count PRT_LINK_ERR.UNCORR_FEC p).fecSecond b

/-! ### Training (R109) -/

/-- The port stands in a training state and no failure's wait runs (R109). -/
def State.inSfl (s : State) (b st : Nat) : Bool := s.get SFL_TRAIN_STATUS.STATE b = st && !(s.train b).backoff

/-- Calibration is done (R47, R109): pairs that failed are marked, IDLE and markers go out at 64 Gb/s, and the port waits for signal. -/
def calibrationDone (b failed : Nat) (s : State) : State :=
  if s.get SFL_TRAIN_STATUS.STATE b = 1 then
    let s := s.each ((List.range 8).filter fun k => bitOf failed k) fun k t => t.markPair b k
    (s.setPort (2 * b) PortState.idle).enterSigdet b
  else s

/-- A preset asked of the partner (R92): which one the receiver's adaptation asks for is open; 0 to 10. -/
def State.askPreset (s : State) (b : Nat) : State :=
  (s.setTrain b { s.train b with askPreset := (Config.freeWord s.freeCtr).toNat % 11 }).fresh

/-- TRAIN sent on every lane (R92): the preset asked of the partner, the one in use, DONE. -/
def State.sendTrain (s : State) (b : Nat) : State :=
  let x := s.train b
  let bits := x.askPreset % 16 + x.preset % 16 * 2 ^ 4 + bit x.doneSent * 2 ^ 8
  (s.emit (.trainBlock b bits)).sendControl b 0 (controlBlock 0x2D bits)

/-- ADAPT begins with a TRAIN block of this side's (R109). -/
def State.startAdapt (s : State) (b : Nat) : State := ((s.sflAdapt b).askPreset b).sendTrain b

/-- PAM4 signal on at least 4 pairs starts ADAPT at 64 Gb/s (R109). -/
def signalDetect (b pairs : Nat) (s : State) : State :=
  if s.inSfl b 2 ∧ 4 ≤ popCount 18 pairs then
    let s := s.each (s.portCircuits b) fun c t =>
      (t.setSflLane (c / 9) (c % 9) { SflLane.hunt with signal := bitOf pairs (c - 9 * b) }).set SFL_LANE_STAT.LOCK c 0
    let s := s.setTrain b { SflTrain.idle with fec := (s.train b).fec }
    (s.set SFL_TRAIN_STATUS.RATE b 0).startAdapt b
  else s

/-- A control block on a lane in ADAPT (R91, R92, R109): of a TRAIN block, the preset it asks for comes into use, the partner's is noted, and DONE; IDLE says nothing; an invalid sync header
or a type not listed is counted in SYNC_ERR. This side answers with its own TRAIN. -/
def trainBlockReceived (b k : Nat) (x : Block) (s : State) : State :=
  let lead := s.leadOf b
  if !s.inSfl lead 3 || !s.flag SFL_LANE_STAT.LOCK (9 * b + k) then s
  else
    let r := s.takeBlock (9 * b + k) x
    let s := r.1
    if r.2.2 || r.2.1.1 ≠ 2 || blockType r.2.1 ≠ 0x2D then s
    else
      let f := fun (hi lo : Nat) => r.2.1.2 / 2 ^ lo % 2 ^ (hi + 1 - lo)
      let y := s.train lead
      let s := s.setTrain lead { y with
        preset := if f 11 8 ≤ 10 then f 11 8 else y.preset, peerPreset := f 15 12, doneSeen := y.doneSeen || decide (f 16 16 = 1) }
      s.sendTrain lead

/-- DONE is sent (R109). -/
def State.sendDone (s : State) (b : Nat) : State :=
  if (s.train b).doneSent then s else (s.setTrain b { s.train b with doneSent := true }).sendTrain b

/-- ADAPT ends (R109): with every pair that has signal locked, DONE is sent, and with DONE from both sides the port enters DESKEW with the lanes locked; after the bound, with DONE sent
on the locked lanes, the partner's DONE is enough. -/
def adaptDone (b : Nat) (s : State) : State :=
  let x := s.train b
  if !s.inSfl b 3 then s
  else
    let all' := (s.portCircuits b).all fun c => !(s.sflLane (c / 9) (c % 9)).signal || s.flag SFL_LANE_STAT.LOCK c
    if all' || x.boundPassed then
      let s := s.sendDone b
      if x.doneSeen then
        (s.setTrain b { s.train b with adapted := (s.portCircuits b).filter fun c => s.flag SFL_LANE_STAT.LOCK c }).sflState b 4
      else s
    else s

/-- The ADAPT bound passes (R109): with at least 4 logical lanes locked DONE is sent on them, otherwise ADAPT_TIMEOUT. -/
def adaptBoundExceeded (b : Nat) (s : State) : State :=
  if !s.inSfl b 3 then s
  else if 4 ≤ (s.lockedLogical b).length then (s.setTrain b { s.train b with boundPassed := true }).sendDone b
  else s.sflFail b 1

/-- 1 ms after the bound without the partner's DONE (R109). -/
def adaptPartnerDoneTimeout (b : Nat) (s : State) : State :=
  let x := s.train b
  if s.inSfl b 3 ∧ x.boundPassed ∧ !x.doneSeen then s.sflFail b 1 else s

/-- This side's CAP block sent on every lane with a logical ID, after 63 others (R106); one with ACK counts once the partner's ACK has come. -/
def State.sendCap (s : State) (b : Nat) : State :=
  let x := s.train b
  let ack := decide (3 ≤ x.capSame)
  let bits := s.ownCap b ack
  let s := s.setTrain b { x with capSent := if ack && x.capAcked then x.capSent + 1 else x.capSent }
  (s.emit (.capBlock b bits)).sendControl b 63 (controlBlock 0x33 bits)

/-- Check unit s (R112, R113): KIND CHECK, unit byte j holding (j + s) mod 256, under the implicit value s. -/
def checkUnit (n : Nat) : List Byte :=
  sealUnit n (toBytes 4 2 ++ (List.range 248).map fun i => BitVec.ofNat 8 (i + 4 + n))

/-- CHECK begins (R103, R109): the link stream is striped wide the lanes agreed, and this side sends its 16 check units. -/
def State.enterCheck (s : State) (b : Nat) : State :=
  let mask := (s.train b).laneOk
  let s := s.setTrain b { s.train b with checkNext := 0 }
  let s := s.setLink b { s.link b with txMask := mask, rxMask := mask, txStripe := 0, rxStripe := 0 }
  ((List.range 16).foldl (fun t n => t.sendUnit b (checkUnit n)) s).sflState b 6

/-- Deskew (R104): once every lane that completed ADAPT is locked and has given the marker of one sequence, the skews are reported; a lane wide 250 ns (1,000 units) leaves the active
set, which with fewer than 4 left is SKEW_EXCESS; then CAPX, or CHECK where CAPX has completed in this attempt. SKEW shows 1,000 for a lane wide it, the end of the field's range (log
entry 75). -/
def deskewRelease (b : Nat) (skews : List Nat) (s : State) : State :=
  let x := s.train b
  let lane := fun (c : Nat) => s.sflLane (c / 9) (c % 9)
  if !s.inSfl b 4 || x.adapted.any (fun c => !s.flag SFL_LANE_STAT.LOCK c) ||
      x.adapted.any (fun c => (lane c).nextSeq ≠ (lane (x.adapted.headD c)).nextSeq) then s
  else
    let skew := fun (c : Nat) => skews.getD (c - 9 * b) 0
    let s := s.each x.adapted fun c t =>
      (t.setSflLane (c / 9) (c % 9) { t.sflLane (c / 9) (c % 9) with skew := skew c }).set SFL_LANE_STAT.SKEW c (min (skew c) 1000)
    let locked := s.lockedLogical b
    let wide := locked.filter fun l => (s.rxCircuit b l).any fun c => decide (1000 < skew c)
    let ok := locked.filter fun l => !wide.contains l && (!x.capxDone || bitOf x.agreed l)
    if !wide.isEmpty && decide (ok.length < 4) then s.sflFail b 2
    else
      let s := s.setTrain b { x with laneOk := laneMask ok, skewed := laneMask wide, capSame := 0, capAcked := false, capSent := 0 }
      if x.capxDone then s.enterCheck b else (s.sflState b 5).sendCap b

/-- SFL_PEER as a CAP block gives it (R110). -/
def State.showPeer (s : State) (b cap : Nat) : State := s.setReg .SFL_PEER b (word (cap % 2 ^ 38 + cap / 2 ^ 39 % 2 ^ 16 * 2 ^ 48))

/-- A CAP block in CAPX (R106, R109, R110): a change of content restarts the exchange, three identical blocks set this side's ACK, and this side sends its own CAP. SFL_PEER follows once a
CAPX has completed. -/
def capBlockReceived (b bits : Nat) (s : State) : State :=
  if !s.inSfl b 5 then s
  else
    let x := s.train b
    let ack := bitOf bits 38
    let content := withBit (bits % 2 ^ 56) 38 false
    let y := if content = x.cap ∧ 0 < x.capSame then { x with capSame := x.capSame + 1, capAcked := x.capAcked || ack }
      else { x with cap := content, capSame := 1, capAcked := ack, capSent := 0 }
    let s := if s.reg .SFL_PEER b = 0 then s else s.showPeer b content
    (s.setTrain b y).sendCap b

/-- The lane a block's spare takes over (R108): of the block's lanes without LANE_OK on both sides that are not excluded for skew here, the lowest (log entry 75). -/
def substLane (both skewed j : Nat) : List Nat :=
  (((List.range 8).map (8 * j + ·)).find? fun l => !bitOf both l && !bitOf skewed l).toList

/-- A substitution takes effect (R108, R129): the failed pair is marked and handed to the spare, whose transmitter and receiver bear the lane's ID from the next marker on. -/
def State.substitute (s : State) (b l : Nat) : State :=
  let d := b + l / 8
  let s := (s.markPair d (l % 8)).mapSpare d (l % 8) 1
  let s := match s.rxCircuit b l with
    | some c => s.setSflLane (c / 9) (c % 9) { s.sflLane (c / 9) (c % 9) with home := 31, expId := 0x1F }
    | none => s
  s.setSflLane d 8 { s.sflLane d 8 with home := l, expId := l }

/-- The lanes above an x8 link's are powered down (R108): the follower's circuits neither send nor hold lock. -/
def State.powerDown (s : State) (b : Nat) : State :=
  s.each (List.range 9) fun k t => ((t.setSflLane (b + 1) k SflLane.hunt).set SFL_LANE_STAT.LOCK (9 * (b + 1) + k) 0).setTx (9 * (b + 1) + k) none

/-- What CAPX settles (R106 to R109): SFL_PEER, revision, encryption, width, active lanes, substitution and rate; training goes on to ADAPT or CHECK. -/
def State.capxSettle (s : State) (b rev width both : Nat) (subst : List Nat) (enc fast : Bool) : State :=
  let s := s.showPeer b (s.train b).cap
  let s := (s.set SFL_TRAIN_STATUS.REV b rev).set SFL_ENC_STATUS.ACTIVE b (bit enc)
  let s := if width = 8 ∧ s.fabricWidth b = 16 then s.powerDown b else s
  let s := s.each subst fun l t => t.substitute b l
  let x := s.train b
  let agreed := both + laneMask subst
  let s := s.setTrain b { x with capxDone := true, subst := x.subst ++ subst, agreed := agreed, laneOk := both }
  let s := s.retag b agreed
  if fast ∧ !x.rate128 then
    let s := (s.setTrain b { s.train b with rate128 := true }).set SFL_TRAIN_STATUS.RATE b 1
    (((s.startTx b).retag b agreed).huntAll b).startAdapt b
  else if !subst.isEmpty then s.startAdapt b
  else s.enterCheck b

/-- What the two blocks of an exchange settle (R107 to R109): the revision, the lanes, the spares and the options, or the failure. -/
def State.capxDecide (s : State) (b own cap : Nat) (x : SflTrain) : State :=
  let f := fun (c hi lo : Nat) => c / 2 ^ lo % 2 ^ (hi + 1 - lo)
  let rev := min (f own 15 8) (f cap 15 8)
  let width := if f own 32 32 = 1 ∧ f cap 32 32 = 1 then 16 else 8
  let both := Nat.land (f own 54 39) (f cap 54 39) % 2 ^ width
  if rev < max (f own 7 0) (f cap 7 0) then s.sflFail b 3
  else if f cap 23 16 = f own 23 16 ∧ s.phase ≠ .test then s.sflFail b 4
  else if popCount 16 both < 4 then s.sflFail b 5
  else
    let spares := Nat.land (f own 34 33) (f cap 34 33)
    let subst := if !x.subst.isEmpty then [] else
      (if bitOf spares 0 then substLane both x.skewed 0 else []) ++ (if bitOf spares 1 ∧ width = 16 then substLane both x.skewed 1 else [])
    s.capxSettle b rev width both subst (decide (f own 35 35 = 1) && decide (f cap 35 35 = 1)) (decide (f own 31 31 = 1) && decide (f cap 31 31 = 1))

/-- CAPX completes (R106 to R109) once the partner's ACK has come and 16 CAP blocks with ACK have gone out since; `more` are those this side sends now. REV_MISMATCH, SELF_LINK and
WIDTH_SHORT, tested in this order (log entry 75), fail the attempt. -/
def capxComplete (b more : Nat) (s : State) : State :=
  if !s.inSfl b 5 then s
  else
    let s := (List.range (min more 16)).foldl (fun t _ => t.sendCap b) s
    let x := s.train b
    if !x.capAcked || decide (x.capSame < 3) || decide (x.capSent < 16) then s
    else s.capxDecide b (s.ownCap b true) x.cap x

/-- 200 µs of CAPX without completion (R109). -/
def capxTimeout (b : Nat) (s : State) : State :=
  if s.inSfl b 5 then s.sflFail b 7 else s

/-- 1 ms after a failure the port returns to SIGDET (R109). -/
def trainingFailBackoffEnd (b : Nat) (s : State) : State := if (s.train b).backoff then s.enterSigdet b else s

/-- A check unit (R103, R112), from its 32 blocks: the sixteenth clean one makes the link ACTIVE; a failure is a false lock, which sends every lane to hunt and the port to ADAPT, the
eighth in a row fails with CRC_CHECK. -/
def checkUnitReceived (b : Nat) (blocks : List Block) (s : State) : State :=
  if !s.inSfl b 6 then s
  else
    let r := s.takeUnit b blocks
    let s := r.1
    let x := s.train b
    if !r.2.2 && unitOk x.checkNext r.2.1 && unitField r.2.1 1 0 = 2 then
      if x.checkNext = 15 then (s.setTrain b { x with checkNext := 16, falseRun := 0 }).sflActive b
      else s.setTrain b { x with checkNext := x.checkNext + 1 }
    else
      let s := (s.count SFL_TRAIN_STATUS.FALSE_LOCK b).huntAll b
      if 8 ≤ x.falseRun + 1 then (s.setTrain b { x with falseRun := 0 }).sflFail b 6
      else (s.setTrain b { x with falseRun := x.falseRun + 1 }).startAdapt b

/-- Four consecutive TRAIN or CAP blocks on logical lane 0 in ACTIVE: the partner has retrained (R109, R131). -/
def partnerRetrainDetect (b run' : Nat) (s : State) : State :=
  if s.get SFL_TRAIN_STATUS.STATE b = 7 ∧ 4 ≤ run' then s.sflDeclareDown b else s

/-- SFL_PHY_CTL.RETRAIN written (R109): from any state but DOWN back to SIGDET with calibration kept; leaving ACTIVE declares the link down (R131). -/
def sflRetrainWrite (b : Nat) (s : State) : State :=
  if !s.isFabric b ∨ s.get SFL_TRAIN_STATUS.STATE b = 0 then s
  else if s.get SFL_TRAIN_STATUS.STATE b = 7 then s.sflDeclareDown b
  else (s.setPort (2 * b) PortState.idle).enterSigdet b

/-! ### Meanings -/

/-- MARKER_CANDIDATE: R96, R97, R101, R102. -/
def execMarkerCandidate (blk : Nat) (k : Nat) (marker : Word) (spacing : Nat) (inverted : Bool) (s : State) : Host.Outcome State Fault Refusal :=
  run (decide (blk < 64) && decide (k < 9)) (markerCandidate blk k marker spacing inverted s)

/-- MARKER_CHECK: R95, R96, R97, R102, R105, R129. -/
def execMarkerCheck (blk : Nat) (k : Nat) (marker : Word) (late : Bool) (s : State) : Host.Outcome State Fault Refusal :=
  run (decide (blk < 64) && decide (k < 9)) (markerCheck blk k marker late s)

/-- CODEWORD_DECODE: R60, R91, R98, R99, R102. -/
def execCodewordDecode (blk : Nat) (k : Nat) (ok : Bool) (symbols : Nat) (levels : List Nat) (s : State) : Host.Outcome State Fault Refusal :=
  run (decide (blk < 64) && decide (k < 9)) (codewordDecode blk k ok symbols levels s)

/-- CALIBRATION_DONE: R47, R109. -/
def execCalibrationDone (blk : Nat) (failed : Nat) (s : State) : Host.Outcome State Fault Refusal :=
  run (decide (blk < 64)) (calibrationDone blk failed s)

/-- SIGNAL_DETECT: R109. -/
def execSignalDetect (blk : Nat) (pairs : Nat) (s : State) : Host.Outcome State Fault Refusal :=
  run (decide (blk < 64)) (signalDetect blk pairs s)

/-- TRAIN_BLOCK_RECEIVED: R91, R92, R95. -/
def execTrainBlockReceived (blk : Nat) (k : Nat) (x : Block) (s : State) : Host.Outcome State Fault Refusal :=
  run (decide (blk < 64) && decide (k < 9)) (trainBlockReceived blk k x s)

/-- ADAPT_DONE: R94, R109. -/
def execAdaptDone (blk : Nat) (s : State) : Host.Outcome State Fault Refusal :=
  run (decide (blk < 64)) (adaptDone blk s)

/-- ADAPT_BOUND_EXCEEDED: R109. -/
def execAdaptBoundExceeded (blk : Nat) (s : State) : Host.Outcome State Fault Refusal :=
  run (decide (blk < 64)) (adaptBoundExceeded blk s)

/-- ADAPT_PARTNER_DONE_TIMEOUT: R109. -/
def execAdaptPartnerDoneTimeout (blk : Nat) (s : State) : Host.Outcome State Fault Refusal :=
  run (decide (blk < 64)) (adaptPartnerDoneTimeout blk s)

/-- DESKEW_RELEASE: R104, R109. -/
def execDeskewRelease (blk : Nat) (skews : List Nat) (s : State) : Host.Outcome State Fault Refusal :=
  run (decide (blk < 64)) (deskewRelease blk skews s)

/-- CAP_BLOCK_RECEIVED: R92, R106. -/
def execCapBlockReceived (blk : Nat) (bits : Nat) (s : State) : Host.Outcome State Fault Refusal :=
  run (decide (blk < 64)) (capBlockReceived blk bits s)

/-- CAPX_COMPLETE: R106, R107, R108, R109, R315. -/
def execCapxComplete (blk : Nat) (more : Nat) (s : State) : Host.Outcome State Fault Refusal :=
  run (decide (blk < 64)) (capxComplete blk more s)

/-- CAPX_TIMEOUT: R109. -/
def execCapxTimeout (blk : Nat) (s : State) : Host.Outcome State Fault Refusal :=
  run (decide (blk < 64)) (capxTimeout blk s)

/-- TRAINING_FAIL_BACKOFF_END: R109. -/
def execTrainingFailBackoffEnd (blk : Nat) (s : State) : Host.Outcome State Fault Refusal :=
  run (decide (blk < 64)) (trainingFailBackoffEnd blk s)

/-- CHECK_UNIT_RECEIVED: R103, R109, R112, R113, R114, R135. -/
def execCheckUnitReceived (blk : Nat) (blocks : List Block) (s : State) : Host.Outcome State Fault Refusal :=
  run (decide (blk < 64)) (checkUnitReceived blk blocks s)

/-- PARTNER_RETRAIN_DETECT: R109. -/
def execPartnerRetrainDetect (blk : Nat) (seen : Nat) (s : State) : Host.Outcome State Fault Refusal :=
  run (decide (blk < 64)) (partnerRetrainDetect blk seen s)

/-- SFL_RETRAIN_WRITE: R109, R110. -/
def execSflRetrainWrite (blk : Nat) (s : State) : Host.Outcome State Fault Refusal :=
  run (decide (blk < 64)) (sflRetrainWrite blk s)

end Sys2Proof.Machine
end

