-- ==== Sys2Proof/Machine/Aes.lean ====
section
/-! DEFINITION. AES-256 with its two uses here: GCM for the flow units of an encrypted link (R133) and key wrap for the identity key (R333, R335). The spec names the algorithms and does not
give them: they stand as their standards define them (FIPS 197, SP 800-38D, RFC 3394; log entry 20). -/

namespace Sys2Proof.Machine

/-! ### The field of bytes and the S-box -/

/-- The exclusive or of two lists of bytes, as long as the first. -/
def xorBytes (a b : List Nat) : List Nat := a.mapIdx fun i x => Nat.xor x (b.getD i 0)

/-- A byte times x. -/
def xtime (a : Nat) : Nat := if a < 128 then 2 * a else Nat.xor (2 * a % 256) 0x1B

/-- The product of two bytes. -/
def byteMul (a b : Nat) : Nat :=
  ((List.range 8).foldl (fun (p : Nat × Nat) i => (if bitOf b i then Nat.xor p.1 p.2 else p.1, xtime p.2)) (0, a)).1

/-- The inverse of a byte, its 254th power; 0 for 0. -/
def byteInv (a : Nat) : Nat :=
  let a2 := byteMul a a
  let a4 := byteMul a2 a2
  let a8 := byteMul a4 a4
  let a16 := byteMul a8 a8
  let a32 := byteMul a16 a16
  let a64 := byteMul a32 a32
  byteMul (byteMul (byteMul a2 a4) (byteMul a8 a16)) (byteMul (byteMul a32 a64) (byteMul a64 a64))

/-- A byte turned left by k bits. -/
def rotByte (a k : Nat) : Nat := a * 2 ^ k % 256 + a * 2 ^ k / 256

/-- The S-box. -/
def subByte (a : Nat) : Nat :=
  let b := byteInv a
  Nat.xor (Nat.xor (Nat.xor b (rotByte b 1)) (Nat.xor (rotByte b 2) (rotByte b 3))) (Nat.xor (rotByte b 4) 0x63)

/-- The inverse S-box. -/
def invSubByte (a : Nat) : Nat := byteInv (Nat.xor (Nat.xor (rotByte a 1) (rotByte a 3)) (Nat.xor (rotByte a 6) 0x05))

/-! ### The cipher -/

/-- Word i of the key schedule from the words before it. -/
def nextKeyWord (ws : List (List Nat)) (i : Nat) : List Nat :=
  let w := ws.getD (i - 1) []
  let t := if i % 8 = 0 then xorBytes ((w.drop 1 ++ w.take 1).map subByte) [2 ^ (i / 8 - 1)] else if i % 8 = 4 then w.map subByte else w
  xorBytes (ws.getD (i - 8) []) t

/-- The 15 round keys of a 32-byte key. -/
def roundKeys (key : List Nat) : List (List Nat) :=
  let first := (List.range 8).map fun i => (key.drop (4 * i)).take 4
  let ws := (List.range 52).foldl (fun ws i => ws ++ [nextKeyWord ws (i + 8)]) first
  (List.range 15).map fun r => ((ws.drop (4 * r)).take 4).flatten

/-- Row r of the state turned left by r columns, or right for the inverse; the state lies column by column. -/
def shiftRows (inv : Bool) (s : List Nat) : List Nat :=
  (List.range 16).map fun i => s.getD (i % 4 + 4 * ((i / 4 + if inv then 4 - i % 4 else i % 4) % 4)) 0

/-- Each column times a row of coefficients, turned with the row. -/
def mixColumns (c : List Nat) (s : List Nat) : List Nat :=
  (List.range 16).map fun i => (List.range 4).foldl (fun x j => Nat.xor x (byteMul (c.getD ((j + 4 - i % 4) % 4) 0) (s.getD (i / 4 * 4 + j) 0))) 0

/-- AES-256 of a 16-byte block under round keys. -/
def aesEncrypt (ks : List (List Nat)) (block : List Nat) : List Nat :=
  let s := (List.range 13).foldl (fun s r => xorBytes (mixColumns [2, 3, 1, 1] (shiftRows false (s.map subByte))) (ks.getD (r + 1) [])) (xorBytes block (ks.getD 0 []))
  xorBytes (shiftRows false (s.map subByte)) (ks.getD 14 [])

/-- The inverse cipher. -/
def aesDecrypt (ks : List (List Nat)) (block : List Nat) : List Nat :=
  let s := (List.range 13).foldl (fun s r => mixColumns [14, 11, 13, 9] (xorBytes ((shiftRows true s).map invSubByte) (ks.getD (13 - r) [])))
    (xorBytes block (ks.getD 14 []))
  xorBytes ((shiftRows true s).map invSubByte) (ks.getD 0 [])

/-! ### GCM (R133) -/

/-- Bytes as a number, the first byte most significant. -/
def bigEnd (l : List Nat) : Nat := l.foldl (fun n b => 256 * n + b) 0

/-- The low n bytes of a number, most significant first. -/
def bigBytes (n v : Nat) : List Nat := (List.range n).map fun i => v / 256 ^ (n - 1 - i) % 256

/-- The product in the field of GHASH: bit 127 of a number is the field's first. -/
def ghashMul (x y : Nat) : Nat :=
  ((List.range 128).foldl (fun (p : Nat × Nat) i =>
    (if bitOf x (127 - i) then Nat.xor p.1 p.2 else p.1, if bitOf p.2 0 then Nat.xor (p.2 / 2) (0xE1 * 2 ^ 120) else p.2 / 2)) (0, y)).1

/-- Bytes in blocks of 16, the last filled with zeros. -/
def blocks16 (l : List Nat) : List (List Nat) :=
  (List.range ((l.length + 15) / 16)).map fun i => let b := (l.drop (16 * i)).take 16; b ++ List.replicate (16 - b.length) 0

/-- GHASH over additional data and ciphertext under the hash key. -/
def ghash (h : Nat) (aad ct : List Nat) : Nat :=
  (blocks16 aad ++ blocks16 ct ++ [bigBytes 8 (8 * aad.length) ++ bigBytes 8 (8 * ct.length)]).foldl (fun y b => ghashMul (Nat.xor y (bigEnd b)) h) 0

/-- Bytes under the counter stream that starts at a count, for a 12-byte IV. -/
def gctr (ks : List (List Nat)) (iv : List Nat) (start : Nat) (l : List Nat) : List Nat :=
  xorBytes l ((List.range ((l.length + 15) / 16)).flatMap fun i => aesEncrypt ks (iv ++ bigBytes 4 (start + i)))

/-- The tag of ciphertext and additional data. -/
def gcmTag (ks : List (List Nat)) (iv aad ct : List Nat) : List Nat :=
  gctr ks iv 1 (bigBytes 16 (ghash (bigEnd (aesEncrypt ks (List.replicate 16 0))) aad ct))

/-- Bytes as numbers. -/
def natBytes (l : List Byte) : List Nat := l.map BitVec.toNat

/-- Numbers as bytes. -/
def byteList (l : List Nat) : List Byte := l.map (BitVec.ofNat 8)

/-- The round keys of a 256-bit key held as a number, its first byte least significant. -/
def keySchedule (key : Nat) : List (List Nat) := roundKeys (natBytes (toBytes 32 key))

/-- AES-256-GCM encryption (R133): the ciphertext and then the 16-byte tag. -/
def gcmSeal (key : Nat) (iv aad plain : List Byte) : List Byte :=
  let ks := keySchedule key
  let ct := gctr ks (natBytes iv) 2 (natBytes plain)
  byteList (ct ++ gcmTag ks (natBytes iv) (natBytes aad) ct)

/-- AES-256-GCM decryption (R133): the plaintext, or none where the tag, the last 16 bytes, fails. -/
def gcmOpen (key : Nat) (iv aad sealed : List Byte) : Option (List Byte) :=
  let ks := keySchedule key
  let n := sealed.length - 16
  let ct := natBytes (sealed.take n)
  if gcmTag ks (natBytes iv) (natBytes aad) ct = natBytes (sealed.drop n) then some (byteList (gctr ks (natBytes iv) 2 ct)) else none

/-! ### Key wrap (R333, R335) -/

/-- One step of the wrap over a list of 8-byte blocks, the first the check value: block i (from 1) with the count t. -/
def wrapStep (ks : List (List Nat)) (l : List (List Nat)) (i t : Nat) : List (List Nat) :=
  let b := aesEncrypt ks (l.getD 0 [] ++ l.getD i [])
  (l.set 0 (xorBytes (b.take 8) (bigBytes 8 t))).set i (b.drop 8)

/-- One step of the unwrap. -/
def unwrapStep (ks : List (List Nat)) (l : List (List Nat)) (i t : Nat) : List (List Nat) :=
  let b := aesDecrypt ks (xorBytes (l.getD 0 []) (bigBytes 8 t) ++ l.getD i [])
  (l.set 0 (b.take 8)).set i (b.drop 8)

/-- Bytes in blocks of 8. -/
def blocks8 (l : List Nat) : List (List Nat) := (List.range (l.length / 8)).map fun i => (l.drop (8 * i)).take 8

/-- AES key wrap of bytes, eight longer. -/
def wrapBytes (ks : List (List Nat)) (plain : List Nat) : List Nat :=
  let n := plain.length / 8
  ((List.range (6 * n)).foldl (fun l j => wrapStep ks l (j % n + 1) (j + 1)) (List.replicate 8 0xA6 :: blocks8 plain)).flatten

/-- AES key unwrap, none where the check value is not right. -/
def unwrapBytes (ks : List (List Nat)) (wrapped : List Nat) : Option (List Nat) :=
  let n := wrapped.length / 8 - 1
  let l := (List.range (6 * n)).foldl (fun l j => unwrapStep ks l ((6 * n - 1 - j) % n + 1) (6 * n - j)) (blocks8 wrapped)
  if l.getD 0 [] = List.replicate 8 0xA6 then some (l.drop 1).flatten else none

/-- The identity private key wrapped (R333, R335), under the key that the device-unique secret gives. -/
def keyWrap (key : Nat) : List Byte := byteList (wrapBytes (keySchedule Config.wrapKey) (natBytes (toBytes 48 key)))

/-- The private key that 56 wrapped bytes hold, none where the wrap does not verify. -/
def keyUnwrap (l : List Byte) : Option Nat := (unwrapBytes (keySchedule Config.wrapKey) (natBytes l)).map fun b => ofBytes (byteList b)

end Sys2Proof.Machine
end

