-- ==== Sys2Proof/Machine/SflLink.lean ====
section
/-! DEFINITION. The Shutus Fabric Link's link layer (R111 to R136): flow units, acknowledgement and replay, virtual channels and XOFF, timing slots, lane
changes in service, link down, encryption and its keys. -/

namespace Sys2Proof.Machine

/-- The link is ACTIVE. -/
def State.sflUp (s : State) (b : Nat) : Bool := s.get SFL_TRAIN_STATUS.STATE b = 7

/-! ### Sending (R112, R115, R117, R118, R122, R133, R135) -/

/-- The replay buffer's capacity (R115). -/
def State.replayCap (s : State) (b : Nat) : Nat := if s.fabricWidth b = 16 then 2048 else 1024

/-- AN and ASEQ of the next outgoing unit (R117, R119): a pending NAK first, then a due ACK, both naming the last accepted sequence number. -/
def SflLink.anBits (x : SflLink) : Nat :=
  let seq := (x.expSeq + 65535) % 4096
  if x.nakDue then 2 * 2 ^ 6 + seq * 2 ^ 8 else if x.ackDue then 2 ^ 6 + seq * 2 ^ 8 else 0

/-- The link after a unit carried its ACK or NAK and took a slot (R125). -/
def SflLink.sent (x : SflLink) : SflLink :=
  { x with slot := x.slot + 1, nakDue := false,
           ackDue := if x.nakDue then x.ackDue else false,
           sinceAck := if x.nakDue || x.ackDue then 0 else x.sinceAck }

/-- XOFF of every VC as this side asserts it (R123). -/
def State.xoffBits (s : State) (b : Nat) : Nat :=
  ((List.range 8).map fun v => s.get SFL_VC_STAT.XOFF_TX (8 * b + v) * 2 ^ (21 + v)).sum

/-- New DATA units may be encrypted now (R135): TX_SLOT holds a key whose count has not run out, and the partner holds it too. -/
def State.encReady (s : State) (b : Nat) : Bool :=
  let i := s.get SFL_ENC_CTL.TX_SLOT b
  let k := (s.link b).txKeys.getD i KeySlot.empty
  k.valid && decide (k.count < 2 ^ 48) && bitOf (s.get SFL_ENC_STATUS.PEER_RXV b) i

/-- A VC may start a new DATA unit (R122, R135): the partner does not stop it, and on an encrypted link that cannot encrypt yet only VC0 goes, in the clear. -/
def State.vcMayStart (s : State) (b v : Nat) : Bool :=
  !s.flag SFL_VC_STAT.XOFF_RX (8 * b + v) &&
    (!s.flag SFL_ENC_STATUS.ACTIVE b || s.encReady b ||
      (v = 0 && !((s.link b).txKeys.getD (s.get SFL_ENC_CTL.TX_SLOT b) KeySlot.empty).valid) ||
      (v = 0 && !bitOf (s.get SFL_ENC_STATUS.PEER_RXV b) (s.get SFL_ENC_CTL.TX_SLOT b)))

/-- The VCs that have a packet waiting and may start. -/
def State.eligible (s : State) (b : Nat) : List Nat :=
  (List.range 8).filter fun v => (s.link b).waiting.any (·.vc = v) && s.vcMayStart b v

/-- Deficit round robin over VC1 to VC7 in units (R122): from the turn's VC on, the first eligible one with deficit left; when none of them has any, each eligible
one is given its weight. Answers the VC, the deficits and the turn. -/
def drr (eligible deficit weights : List Nat) (turn : Nat) : Option (Nat × List Nat × Nat) :=
  let order := (List.range 7).map fun i => (turn - 1 + i) % 7 + 1
  let pick := fun (d : List Nat) => order.find? fun v => eligible.contains v && decide (0 < d.getD v 0)
  let take := fun (d : List Nat) (v : Nat) =>
    let d' := d.set v (d.getD v 0 - 1)
    (v, d', if d'.getD v 0 = 0 then v % 7 + 1 else v)
  match pick deficit with
  | some v => some (take deficit v)
  | none =>
    let d := deficit.mapIdx fun v n => if eligible.contains v then n + max 1 (weights.getD v 1) else 0
    (pick d).map (take d)

/-- The VC that sends next (R122): VC0 first, then the round robin. -/
def State.arbitrate (s : State) (b : Nat) : Option (Nat × List Nat × Nat) :=
  let x := s.link b
  let e := s.eligible b
  if e.contains 0 then some (0, x.deficit, x.turn)
  else drr e x.deficit ((List.range 8).map fun v => s.get SFL_VC_CFG.WEIGHT (8 * b + v)) x.turn

/-- The bytes of a DATA unit on a fabric port counted (R414, R416). -/
def State.linkBytes (s : State) (b : Nat) (sent : Bool) : State := (s.tallyPort (2 + bit sent) (2 * b) 256).fixed (70 + bit sent) (b / 16) 256

/-- A NULL unit (R112): no payload, the sequence number the next new DATA unit will take as implicit value. -/
def State.sendNull (s : State) (b : Nat) : State :=
  let x := s.link b
  let body := padTo 252 (toBytes 4 (1 + x.anBits + s.xoffBits b))
  ((s.setLink b x.sent).tallyBlock 0x381 b).sendUnit b (sealUnit x.nextSeq body)

/-- Packets of a VC packed back to back into a payload (R160): its bytes, its congestion mark, the packets that begin in it, and what is left waiting. The packets of a unit agree in their mark:
one that differs begins the next unit (R185). -/
def packVc (vc : Nat) : Option Bool → Nat → List WaitingPkt → List Byte × Bool × List Pkt × List WaitingPkt
  | _, _, [] => ([], false, [], [])
  | m, room, w :: ws =>
    if w.vc ≠ vc then
      let r := packVc vc m room ws
      (r.1, r.2.1, r.2.2.1, w :: r.2.2.2)
    else if room = 0 || m.any (· ≠ w.mark) then ([], false, [], w :: ws)
    else
      let fresh := if w.begun then [] else [w.pkt]
      if room < w.bytes.length then (w.bytes.take room, w.mark, fresh, { w with bytes := w.bytes.drop room, begun := true } :: ws)
      else
        let r := packVc vc (some w.mark) (room - w.bytes.length) ws
        (w.bytes ++ r.1, w.mark, fresh ++ r.2.2.1, r.2.2.2)

/-- A new DATA unit of a VC (R111, R133, R135, R160): its 252 bytes before the CRC, the slot it is encrypted under, the packets that begin in it, and what is left waiting. It holds 248
bytes of packets, or 232 encrypted. -/
def State.buildData (s : State) (b vc : Nat) : List Byte × Option Nat × List Pkt × List WaitingPkt :=
  let x := s.link b
  let enc := s.flag SFL_ENC_STATUS.ACTIVE b
  let slot := s.get SFL_ENC_CTL.TX_SLOT b
  let sealed := enc && s.encReady b
  let r := packVc vc none (if sealed then 232 else 248) x.waiting
  let cont := (x.waiting.find? (·.vc = vc)).any (·.begun)
  let base := vc * 2 ^ 2 + x.anBits + bit r.2.1 * 2 ^ 20 + s.xoffBits b + bit cont * 2 ^ 29
  if sealed then
    let k := x.txKeys.getD slot KeySlot.empty
    let ctl := base + slot * 2 ^ 5
    let body := gcmSeal k.key (toBytes 4 k.salt ++ toBytes 8 k.count) (toBytes 4 ctl ++ toBytes 2 x.nextSeq) (padTo 232 r.1)
    (toBytes 4 ctl ++ padTo 248 body, some slot, r.2.2)
  else (toBytes 4 (base + (if enc then 2 ^ 30 else 0)) ++ padTo 248 r.1, none, r.2.2)

/-- The transmit slot's count has run out (R134): nothing new goes under it until TX_SLOT changes. -/
def State.keySpent (s : State) (b : Nat) : Bool :=
  let k := (s.link b).txKeys.getD (s.get SFL_ENC_CTL.TX_SLOT b) KeySlot.empty
  s.flag SFL_ENC_STATUS.ACTIVE b && k.valid && decide (2 ^ 48 ≤ k.count)

/-- The sender must be in STALL (R115, R134): the replay buffer is full, or the key is spent. -/
def State.stalled (s : State) (b : Nat) : Bool := decide (s.replayCap b ≤ (s.link b).buf.length) || s.keySpent b

/-- A transmit slot's count goes up by one (R133). -/
def SflLink.countTx (x : SflLink) (slot : Option Nat) : SflLink :=
  match slot with
  | some i =>
    let k := x.txKeys.getD i KeySlot.empty
    { x with txKeys := x.txKeys.set i { k with count := k.count + 1 } }
  | none => x

/-- A unit slot in SEND or STALL that is not a TIMING slot (R112, R118, R122, R134): the next eligible DATA unit is sent, stored and takes the next sequence number; with the
buffer full or the key spent the sender is in STALL and sends NULL; with none eligible it sends NULL. -/
def dataUnitSend (b : Nat) (s : State) : State :=
  let x := s.link b
  if !s.sflUp b || x.timingSlot || s.get SFL_LINK_STAT.TX_STATE b = 1 then s
  else if s.stalled b then (s.setTxState b 2).sendNull b
  else
    let s := s.setTxState b 0
    match s.arbitrate b with
    | none => s.sendNull b
    | some (v, deficit, turn) =>
      let (bytes, slot, pkts, rest) := s.buildData b v
      let y := ({ s.link b with
        buf := x.buf ++ [StoredUnit.mk x.nextSeq slot v bytes pkts], nextSeq := (x.nextSeq + 1) % 65536,
        waiting := rest, deficit := deficit, turn := turn }.countTx slot).sent
      let s := s.setLink b y
      let s := s.set SFL_LINK_STAT.REPLAY_OCC b y.buf.length
      (((s.showTxCount b).tallyBlock 0x380 b).linkBytes b true).sendUnit b (sealUnit x.nextSeq bytes)

/-! ### Acknowledgement and replay (R116, R118) -/

/-- The place in the buffer just after the unit that ASEQ names; 0 when it names none of them (R116). -/
def SflLink.ackPoint (x : SflLink) (aseq : Nat) : Nat :=
  match x.buf.findIdx? fun u => u.seq % 4096 = aseq % 4096 with
  | some i => i + 1
  | none => 0

/-- Units freed through ASEQ; an advance clears the replay count and, with space and a key, ends STALL. -/
def State.ackFree (s : State) (b aseq : Nat) : State :=
  let x := s.link b
  let n := x.ackPoint aseq
  let s := s.setLink b { x with buf := x.buf.drop n, replayCnt := if n = 0 then x.replayCnt else 0,
                                replayAt := x.replayAt.map fun i => i - n }
  let s := s.set SFL_LINK_STAT.REPLAY_OCC b (s.link b).buf.length
  if s.get SFL_LINK_STAT.TX_STATE b = 2 ∧ !s.stalled b then s.setTxState b 0 else s

/-- A replay starts at the oldest stored unit (R118): counted, and the replay count goes up. -/
def State.startReplay (s : State) (b : Nat) : State :=
  let x := s.link b
  let s := s.setLink b { x with replayAt := some 0, replayCnt := x.replayCnt + 1 }
  let s := (s.count SFL_LINK_CNT.REPLAY b).tallyPort 6 (2 * b)
  (s.count PRT_LINK_ERR.REPLAY (2 * b)).setTxState b 1

/-- A cumulative ACK (R116, R118). -/
def ackReceived (b aseq : Nat) (s : State) : State := if s.sflUp b then s.ackFree b aseq else s

/-- A NAK (R116, R118): frees units through ASEQ and starts a replay at ASEQ + 1, also during a replay. -/
def nakReceived (b aseq : Nat) (s : State) : State :=
  if s.sflUp b then (s.ackFree b aseq).startReplay b else s

/-- The replay timer runs out with units outstanding (R118). -/
def replayTimeout (b : Nat) (s : State) : State :=
  if s.sflUp b ∧ s.get SFL_LINK_STAT.TX_STATE b ≠ 1 ∧ !(s.link b).buf.isEmpty then s.startReplay b else s

/-- A stored unit is resent unchanged; after the last the sender is in SEND, or STALL with the buffer full (R118). -/
def replayUnitResend (b : Nat) (s : State) : State :=
  let x := s.link b
  if !s.sflUp b || s.get SFL_LINK_STAT.TX_STATE b ≠ 1 || x.timingSlot then s
  else
    let done := fun (t : State) =>
      (t.setLink b { t.link b with replayAt := none }).setTxState b (if t.stalled b then 2 else 0)
    match x.replayAt.bind fun i => x.buf[i]? with
    | some u =>
      let i := x.replayAt.getD 0
      let s := s.setLink b { x with slot := x.slot + 1, replayAt := some (i + 1) }
      let s := ((s.tallyBlock 0x380 b).linkBytes b true).sendUnit b (sealUnit u.seq u.bytes)
      if x.buf.length ≤ i + 1 then done s else s
    | none => done s

/-- The link is declared down (R131), unless it is down already. -/
def sflLinkDown (b : Nat) (s : State) : State := if s.sflUp b then s.sflDeclareDown b else s

/-- The replay count exceeds REPLAY_MAX (R118, R131). -/
def replayMaxExceeded (b : Nat) (s : State) : State :=
  if s.sflUp b ∧ s.get SFL_LINK_CTL.REPLAY_MAX b < (s.link b).replayCnt then s.sflDeclareDown b else s

/-- DOWN_TMO passes with too few locked lanes or no unit passing its CRC (R131). -/
def downTmoExpiry (b : Nat) (s : State) : State := if s.sflUp b then s.sflDeclareDown b else s

/-! ### Receiving (R113, R119, R133, R135) -/

/-- AN and XOFF of a unit that passed its CRC are acted on (R112, R118, R123). -/
def State.actOn (s : State) (b : Nat) (unit : List Byte) : State :=
  let s := s.each (List.range 8) fun v t => t.set SFL_VC_STAT.XOFF_RX (8 * b + v) (unitField unit (21 + v) (21 + v))
  match unitField unit 7 6 with
  | 1 => s.ackFree b (unitField unit 19 8)
  | 2 => (s.ackFree b (unitField unit 19 8)).startReplay b
  | _ => s

/-- A unit is discarded: counted, a NAK for the last accepted sequence is due when the receiver enters DISCARD (R119). -/
def State.discardUnit (s : State) (b : Nat) (nak : Bool) : State :=
  let s := s.count SFL_LINK_CNT.DISCARD b
  let s := s.set SFL_LINK_STAT.RX_DISCARD b 1
  if nak then ((s.setLink b { s.link b with nakDue := true }).count SFL_LINK_CNT.NAK_SENT b).tallyBlock 0x385 b else s

/-- A tag failure or a forbidden clear unit (R133, R135): the unit is discarded, TAG_FAIL counted, event 353 + 2n raised and the link declared down. -/
def State.tagFail (s : State) (b : Nat) : State :=
  let s := s.count SFL_ENC_STATUS.TAG_FAIL b
  (s.cause (353 + 2 * b) 1 (b + 512)).sflDeclareDown b

/-- A DATA unit opened (R133, R135): its payload and the receive slot that opened it, or none for a tag failure. -/
def State.openData (s : State) (b : Nat) (unit : List Byte) : Option (List Byte × Option Nat) :=
  let x := s.link b
  let vc := unitField unit 4 2
  if !s.flag SFL_ENC_STATUS.ACTIVE b then some ((unit.drop 4).take 248, none)
  else if unitField unit 30 30 = 1 then
    if vc = 0 ∧ !x.encSeen then some ((unit.drop 4).take 248, none) else none
  else
    let i := unitField unit 5 5
    let k := x.rxKeys.getD i KeySlot.empty
    if k.valid then
      (gcmOpen k.key (toBytes 4 k.salt ++ toBytes 8 k.count) (unit.take 4 ++ toBytes 2 x.expSeq) ((unit.drop 4).take 248)).map
        fun p => (p, some i)
    else none

/-- A DATA unit with the expected sequence is delivered to its VC's buffer (R117, R119, R123, R136). A NAK that is due and not sent stays due. -/
def State.deliverUnit (s : State) (b : Nat) (unit payload : List Byte) (slot : Option Nat) : State :=
  let x := s.link b
  let vc := unitField unit 4 2
  let keys := match slot with
    | some i => let k := x.rxKeys.getD i KeySlot.empty; x.rxKeys.set i { k with count := k.count + 1 }
    | none => x.rxKeys
  let n := x.sinceAck + 1
  let s := s.setLink b { x with
    expSeq := (x.expSeq + 1) % 65536, sinceAck := n, ackDue := x.ackDue || decide (16 ≤ n),
    accepted := x.accepted ++ [⟨vc, unitField unit 29 29 = 1, unitField unit 20 20 = 1, payload⟩],
    rxKeys := keys, encSeen := x.encSeen || slot.isSome }
  let i := 8 * b + vc
  let s := (s.set SFL_VC_STAT.FREE i (s.get SFL_VC_STAT.FREE i - 1)).updXoff b vc
  let s := s.set SFL_LINK_STAT.RX_DISCARD b 0
  s.set SFL_ENC_STATUS.LAST_RX_KID b (slot.getD 0)

/-- 50 ns after the first unit not yet acknowledged, or after 16 accepted units (R117). -/
def ackTimer (b : Nat) (s : State) : State :=
  let x := s.link b
  if s.sflUp b ∧ 0 < x.sinceAck then s.setLink b { x with ackDue := true } else s

/-- No delivery in DISCARD for 2 × RTT + 100 ns: the NAK again (R119). -/
def nakResendTimer (b : Nat) (s : State) : State :=
  if s.sflUp b ∧ s.flag SFL_LINK_STAT.RX_DISCARD b then
    ((s.setLink b { s.link b with nakDue := true }).count SFL_LINK_CNT.NAK_SENT b).tallyBlock 0x385 b
  else s

/-- XOFF of a VC against its free space (R123). -/
def xoffUpdate (b v : Nat) (s : State) : State := if s.sflUp b then s.updXoff b v else s

/-! ### Timing slots (R125, R126, R407) -/

/-- The sender's discipline fields of a TIMING unit, bytes 40 to 51 (R407). -/
def State.disciplineBytes (s : State) : List Byte :=
  let root := s.flag TIM_STAT.ROOT 0
  let hops := if root then 0 else s.get TIM_STAT.HOPS 0
  let locked := root || s.get TIM_STAT.STATE 0 = 2
  let refOk := if root then s.get TIM_STAT.STATE 0 ≠ 3 else s.timRefOk
  toBytes 1 hops ++ toBytes 1 (bit locked + 2 * bit refOk) ++
    toBytes 1 (if root then s.get MGT_CHIP_INFO.CHIP_ID 0 else s.get TIM_STAT.ROOT_ID 0) ++ toBytes 1 0 ++
    toBytes 4 (s.get MGT_FAB_STAT.EPOCH 0) ++ toBytes 4 (s.get TIM_OFFSET.ERR 0)

/-- The slot with s mod 4,097 = 4,096 carries a TIMING unit whatever else is pending (R125, R126). -/
def timingSlot (b : Nat) (s : State) : State :=
  let x := s.link b
  if s.sflUp b && x.timingSlot then
    let ctl := toBytes 4 (3 + x.anBits + s.xoffBits b)
    let body := ctl ++ toBytes 12 s.time ++ toBytes 12 x.echoTx ++ toBytes 12 x.echoRx ++ s.disciplineBytes
    ((s.setLink b x.sent).sendUnit b (sealUnit 0xFFFF (padTo 252 body))).flushCommands b
  else s

/-! ### Lane changes (R127 to R130) -/

/-- This side asks for a lane set: LANE_SET under a new epoch, repeated until answered; while a change is being switched the request waits for its end. -/
def State.askLanes (s : State) (b mask subst blk : Nat) : State :=
  if !s.sflUp b then s
  else
    let x := s.link b
    let c : LaneChange := ⟨(x.epoch + 1) % 16, mask, subst, blk⟩
    if x.change.isSome && (x.txSwitched || x.rxSwitched) then s.setLink b { x with again := some c }
    else ((s.setLink b { x with asked := some c, epoch := c.epoch }).set SFL_LINK_STAT.LANE_BUSY b 1).sendCommand b (laneSetBits 1 c 0)

/-- Why a proposed set cannot be taken (R127, R129): 1 a lane not locked, 2 its skew over 250 ns, 3 fewer than 4 lanes. -/
def State.laneRefusal (s : State) (b : Nat) (c : LaneChange) : Option Nat :=
  let lanes := maskLanes c.mask
  let circuit := fun l => if c.subst = l then
      let d := 9 * (b + c.blk) + 8
      if s.flag SFL_LANE_STAT.LOCK d then some d else none
    else s.rxCircuit b l
  if lanes.length < 4 then some 3
  else if lanes.any fun l => (circuit l).isNone then some 1
  else if lanes.any fun l => (circuit l).any fun d => decide (1000 < (s.sflLane (d / 9) (d % 9)).skew) then some 2
  else none

/-- A LINK command received in ACTIVE is taken (R127): enough identical copies, the CMD its kind has, and of a lane change no SUBST value that is Rsvd. -/
def State.takesCommand (s : State) (b cmd bits copies : Nat) : Bool :=
  s.sflUp b && s.copiesEnough b copies && decide (bits % 16 = cmd) &&
    (cmd = 5 || decide (bits / 2 ^ 24 % 32 < 16) || decide (bits / 2 ^ 24 % 32 = 31))

/-- A LANE_SET received and taken (R128, R130): answered with LANE_ACK, or with LANE_NAK and its reason. When both sides ask for different sets, the higher CHIP_ID proceeds: it answers
busy, and the other side keeps its own request for later. A new epoch before SWITCH replaces the pending change, the same one is answered again; while a change is being switched the
answer is busy. -/
def State.answerSet (s : State) (b : Nat) (c : LaneChange) : State :=
  let x := s.link b
  let nak := fun (reason : Nat) => s.sendCommand b (laneSetBits 3 c reason)
  let ahead := decide (s.get SFL_PEER.CHIP_ID b < s.get MGT_CHIP_INFO.CHIP_ID 0)
  let clash := x.asked.any fun a => decide (a.mask ≠ c.mask) || decide (a.subst ≠ c.subst)
  if (clash && ahead) || (x.change.isSome && (x.txSwitched || x.rxSwitched)) then nak 0
  else
    match s.laneRefusal b c with
    | some reason => nak reason
    | none =>
      let s := s.setLink b { x with change := some c, epoch := c.epoch, txSwitched := false, rxSwitched := false,
                                    again := if clash then x.asked else x.again, asked := if clash then none else x.asked }
      (s.set SFL_LINK_STAT.LANE_BUSY b 1).sendCommand b (laneSetBits 2 c 0)

/-- A LANE_SET (R128): this side's own is repeated; the partner's is answered. -/
def laneSet (b : Nat) (received : Bool) (bits copies : Nat) (s : State) : State :=
  if !s.sflUp b then s
  else if !received then
    match (s.link b).asked with
    | some c => s.sendCommand b (laneSetBits 1 c 0)
    | none => s
  else
    let t := s.skipRow b
    if s.takesCommand b 1 bits copies then t.answerSet b (laneChangeOf bits) else t

/-- A LANE_ACK for this side's request (R128): the change stands, and each side sends SWITCH at its next unit boundary. -/
def laneAck (b bits copies : Nat) (s : State) : State :=
  let t := if s.sflUp b then s.skipRow b else s
  let x := t.link b
  match x.asked with
  | some c =>
    if s.takesCommand b 2 bits copies && c.epoch = (laneChangeOf bits).epoch then
      if x.change.any fun a => decide (a.mask = c.mask) && decide (a.subst = c.subst) then t.setLink b { x with asked := none }
      else t.setLink b { x with asked := none, change := some c, txSwitched := false, rxSwitched := false }
    else t
  | none => t

/-- A LANE_NAK with its reason (R127, R130): LANE_ERR shows it; a request refused as busy is repeated after the change. -/
def laneNak (b bits copies : Nat) (s : State) : State :=
  let t := if s.sflUp b then s.skipRow b else s
  let x := t.link b
  match x.asked with
  | some c =>
    if s.takesCommand b 3 bits copies && c.epoch = (laneChangeOf bits).epoch then
      let reason := bits / 2 ^ 30 % 8
      let t := t.setLink b { x with asked := none, again := if reason = 0 then some c else x.again }
      let t := t.set SFL_LINK_STAT.LANE_ERR b reason
      if x.change.isNone then t.set SFL_LINK_STAT.LANE_BUSY b 0 else t
    else t
  | none => t

/-- A lane change completed in both directions (R56, R128, R129): the set, the epoch and the width; the mark of a lane handed to the spare is cleared; a request that waited is
repeated. -/
def State.finishChange (s : State) (b : Nat) (c : LaneChange) : State :=
  let x := s.link b
  let n := popCount 16 c.mask
  let s := s.setLink b { x with change := none, again := none, txSwitched := false, rxSwitched := false }
  let s := s.set SFL_LINK_STAT.ACTIVE_MASK b c.mask
  let s := s.set SFL_LINK_STAT.EPOCH b c.epoch
  let s := s.set SFL_LINK_STAT.LANE_BUSY b (bit x.asked.isSome)
  let s := s.set SFL_TRAIN_STATUS.LANES b n
  let s := s.set PRT_LINK_STATUS.WIDTH (2 * b) n
  let s :=
    if c.subst < 16 then
      let d := b + c.blk
      let was := fun k => k = c.subst % 8 || ((s.sflLane d k).home = 31 && (s.sflLane d k).laneId = c.subst)
      (s.each ((List.range 8).filter fun k => s.marked d k && was k) fun k t => t.unmarkPair d k).updLanePool
    else s
  let s := s.updThresholds b
  match x.again with
  | some a => s.askLanes b a.mask a.subst a.blk
  | none => s

/-- This side's transmitter moves to a new set after the last SWITCH block (R93, R128, R129): a lane handed to the spare goes to LC8 and pair 8, striping starts at the lowest lane, and lanes
that leave or join say so from their next markers. -/
def State.switchTx (s : State) (b : Nat) (c : LaneChange) : State :=
  let d := b + c.blk
  let s := if c.subst < 16 ∧ s.spareFree d then s.mapSpare d (c.subst % 8) 1 else s
  (s.setLink b { s.link b with txMask := c.mask, txStripe := 0, txSwitched := true }).retag b c.mask

/-- This side's receiver follows the SWITCH it receives (R128, R129). -/
def State.switchRx (s : State) (b : Nat) (c : LaneChange) : State :=
  let d := b + c.blk
  let s :=
    if c.subst < 16 then
      let s := match s.rxCircuit b c.subst with
        | some o => s.setSflLane (o / 9) (o % 9) { s.sflLane (o / 9) (o % 9) with home := 31, expId := 0x1F }
        | none => s
      s.setSflLane d 8 { s.sflLane d 8 with home := c.subst, expId := c.subst }
    else s
  (s.setLink b { s.link b with rxMask := c.mask, rxStripe := 0, rxSwitched := true }).retagRx b c.mask

/-- SWITCH (R128): sent by this side at a unit boundary that no TIMING unit follows, or received from the partner; the change is complete once both directions have switched. -/
def switchLanes (b : Nat) (received : Bool) (bits copies : Nat) (s : State) : State :=
  let t := if s.sflUp b && received then s.skipRow b else s
  match (t.link b).change with
  | some c =>
    let done := fun (u : State) => if (u.link b).rxSwitched && (u.link b).txSwitched then u.finishChange b c else u
    if received then
      if s.takesCommand b 4 bits copies && c.epoch = (laneChangeOf bits).epoch && !(t.link b).rxSwitched then done (t.switchRx b c) else t
    else if !s.sflUp b || (t.link b).timingSlot || (t.link b).txSwitched then t
    else done ((t.sendCommand b (laneSetBits 4 c 0)).switchTx b c)
  | none => t

/-- An active lane leaves lock with at least 4 others locked (R130): LANE_SET without it. -/
def activeLaneLockLoss (b lane : Nat) (s : State) : State :=
  let mask := s.get SFL_LINK_STAT.ACTIVE_MASK b
  let others := (s.lockedLogical b).filter fun l => l ≠ lane && bitOf mask l
  if s.sflUp b ∧ bitOf mask lane ∧ 4 ≤ others.length then s.askLanes b (withBit mask lane false) 31 0 else s

/-- LANE_REQ written (R130). -/
def laneReqWrite (b : Nat) (s : State) : State :=
  s.askLanes b (s.get SFL_LINK_CTL.LANE_MASK b) 31 0

/-- The logical lane that a fabric circuit carries: what its markers say, else its own number (R94). -/
def State.laneOfCircuit (s : State) (b d k : Nat) : Nat := if (s.sflLane d k).home < 16 then (s.sflLane d k).home else 8 * (d - b) + k

/-- A marked fabric lane (R130): pair steering where the block's spare is locked on both sides, else the set without it. -/
def State.fabricMark (s : State) (d k : Nat) : State :=
  let b := s.leadOf d
  let l := s.laneOfCircuit b d k
  let mask := s.get SFL_LINK_STAT.ACTIVE_MASK b
  if !bitOf mask l then s
  else if s.spareFree d ∧ s.flag SFL_LANE_STAT.LOCK (9 * d + 8) ∧ bitOf (s.get SFL_PEER.SPARE b) (d - b) then
    s.askLanes b mask l (d - b)
  else s.askLanes b (withBit mask l false) 31 0

/-! ### Marked lanes (R50, R51, R130) -/

/-- A lane is marked (R50, R51, R130): in a PCIe role the block narrows by L0p to the widest width that excludes every marked lane, or enters Recovery at once when lane
0 is marked and L0_URGENT is 1. In fabric role a LANE_SET hands the lane to the spare or drops it. -/
def State.markLane (s : State) (b k : Nat) : State :=
  let s := s.markPair b k
  let p := s.pairPort b k
  if s.role p = 2 then s.fabricMark b k
  else if !s.flag PRT_SPARE_CTL.AUTO_L0P b then s
  else
    match s.l0pRuns p, widestWithout (s.get PRT_LINK_STATUS.NEG_WIDTH p) (s.markedLanes p) with
    | true, some w => if w < s.get PRT_LINK_STATUS.WIDTH p then s.askL0p p w true else s
    | _, _ =>
      if (s.markedLanes p).contains 0 && s.flag PRT_SPARE_CTL.L0_URGENT b then s.enterRecovery p else s

/-- LANE_MARK (R50, R51, R59, R61, R130): for corrected symbols, margin, loss of symbol lock in L0, which is a receiver error too, or a wear flag. -/
def laneMark (b k reason : Nat) (s : State) : State :=
  let s := if reason = 2 then
      let s := s.count PRT_LINK_ERR.RCV_ERR (s.pairPort b k)
      s.each ((List.range 9).filter fun c => s.circuitPair b c = some k) fun c t => t.set PRT_LANE_STAT.LOCK (9 * b + c) 0
    else s
  s.markLane b k

/-- The end of a symbol window (R50, R99): a lane whose corrected symbols exceed SYM_THR is marked, and the window's count starts again. -/
def symbolWindowEnd (b k symbols : Nat) (s : State) : State :=
  let i := 9 * b + k
  let n := s.get PRT_LANE_STAT.SYM_WIN i + symbols
  let s := s.count PRT_LANE_STAT.SYM_TOTAL i symbols
  let s := s.set PRT_LANE_STAT.SYM_WIN i 0
  match s.circuitPair b k with
  | some q => if s.get PRT_SPARE_CTL.SYM_THR b < n then s.markLane b q else s
  | none => s

/-! ### Receiving units (R99, R112, R119, R125) -/

/-- A unit slot has passed at the receiver (R99, R125): its slot count goes on, bad unit or not, and after 16,777,216 units the symbol window of every circuit of the port ends. -/
def State.slotTaken (s : State) (b : Nat) : State :=
  let x := s.link b
  let s := s.setLink b { x with rxSlot := x.rxSlot + 1, window := (x.window + 1) % 16777216 }
  if x.window + 1 = 16777216 then s.each (s.portCircuits b) fun c t => symbolWindowEnd (c / 9) (c % 9) 0 t else s

/-- A TIMING slot's unit at the receiver (R125, R126): one that fails is counted in TIMING_BAD and never answered; a good one's AN and XOFF are acted on. -/
def State.timingTaken (s : State) (b : Nat) (unit : List Byte) (bad : Bool) : State :=
  if bad || !unitOk 0xFFFF unit || unitField unit 1 0 ≠ 3 then s.count SFL_LINK_CNT2.TIMING_BAD b else s.actOn b unit

/-- This chip is a member of its fabric: until then its links carry VC0 only (R300). -/
def State.joined (s : State) : Bool := s.get MGT_FAB_MEMBER.STATE (s.get MGT_CHIP_INFO.CHIP_ID 0) = 2

/-- A DATA or NULL slot's unit at the receiver (R113, R114, R119): checked against the expected sequence; what fails, carries a bad block, finds no space or is of another VC than VC0 before the chip is a member (R300) is discarded with a NAK; in
DISCARD only the expected DATA unit is delivered. -/
def State.unitTaken (s : State) (b : Nat) (unit : List Byte) (bad : Bool) : State :=
  let x := s.link b
  let kind := unitField unit 1 0
  let disc := s.flag SFL_LINK_STAT.RX_DISCARD b
  let good := unitOk x.expSeq unit
  let s := if good then s else s.tallyPort 7 (2 * b)
  if bad || !good || 2 ≤ kind then s.discardUnit b (!disc)
  else if kind = 0 then
    match s.openData b unit with
    | none => s.tagFail b
    | some (payload, slot) =>
      let s := s.actOn b unit
      if s.get SFL_VC_STAT.FREE (8 * b + unitField unit 4 2) = 0 ∨ (unitField unit 4 2 ≠ 0 ∧ !s.joined) then
        (s.count SFL_VC_STAT.OVF (8 * b + unitField unit 4 2)).discardUnit b (!disc)
      else (s.deliverUnit b unit payload slot).linkBytes b false
  else if disc then s.discardUnit b false
  else s.actOn b unit

/-- A flow unit arrives, as 32 blocks in link order (R91, R93, R111, R119, R125): which kind a slot carries follows from the receiver's slot count. -/
def flowUnitReceived (b : Nat) (blocks : List Block) (s : State) : State :=
  if !s.sflUp b then s
  else
    let r := s.takeUnit b blocks
    let timing := (r.1.link b).rxSlot % 4097 = 4096
    let s := r.1.slotTaken b
    if timing then s.timingTaken b r.2.1 r.2.2 else s.unitTaken b r.2.1 r.2.2

/-! ### Keys (R133 to R135) -/

/-- A KEYSYNC command (R135): PEER_RXV is taken; the receive count of the slot rises to COUNT × 256 where that is not below it, and a lower value is counted in
SYNC_LOW. -/
def keysync (b bits copies : Nat) (s : State) : State :=
  let s' := if s.sflUp b then s.skipRow b else s
  if !s.takesCommand b 5 bits copies then s'
  else
    let slot := bits / 2 ^ 4 % 2
    let x := s'.link b
    let k := x.rxKeys.getD slot KeySlot.empty
    let n := bits / 2 ^ 8 % 2 ^ 40 * 256
    let s := s'.set SFL_ENC_STATUS.PEER_RXV b (bits / 2 ^ 6 % 4)
    if bits / 2 ^ 5 % 2 = 0 then s
    else if k.count ≤ n then s.setLink b { x with rxKeys := x.rxKeys.set slot { k with count := n } }
    else s.count SFL_ENC_STATUS.SYNC_LOW b

/-- SFL_KEY_CMD written with COMMIT (R134, R135): refused BUSY for the transmit slot in use or still referenced by a stored unit, or for the receive slot last used since
ACTIVE; otherwise the slot takes key and salt, its count starts at 0, SFL_KEY_DATA is cleared and KEYSYNC is sent. -/
def sflKeyCommit (b : Nat) (value : Word) (s : State) : State :=
  let fld := fun (F : Fld) => value.field F.hi F.lo
  if fld SFL_KEY_CMD.COMMIT = 0 ∨ !s.isFabric b then s
  else
    let i := fld SFL_KEY_CMD.SLOT
    let rx := decide (fld SFL_KEY_CMD.DIR = 1)
    let x := s.link b
    let busy :=
      if rx then x.encSeen && decide (i = s.get SFL_ENC_STATUS.LAST_RX_KID b)
      else (decide (i = s.get SFL_ENC_CTL.TX_SLOT b) && (x.txKeys.getD i KeySlot.empty).valid) || x.buf.any (·.slot = some i)
    if busy then s.set SFL_ENC_STATUS.KEY_ERR b 1
    else
      let key := ((List.range 4).map fun j => (s.reg .SFL_KEY_DATA (4 * b + j)).toNat * 2 ^ (64 * j)).sum
      let k : KeySlot := ⟨true, key, fld SFL_KEY_CMD.SALT, 0⟩
      let s := s.setLink b (if rx then { x with rxKeys := x.rxKeys.set i k } else { x with txKeys := x.txKeys.set i k })
      let s := if rx then s.setBit SFL_ENC_STATUS.RX_VALID b i true else s.setBit SFL_ENC_STATUS.TX_VALID b i true
      let s := s.set SFL_ENC_STATUS.KEY_ERR b 0
      let s := s.each (List.range 4) fun j t => t.setReg .SFL_KEY_DATA (4 * b + j) 0
      (s.showTxCount b).sendKeysync b

/-- SFL_ENC_CTL.TX_SLOT written (R134): a slot with no key is not taken and KEY_ERR reads NOT_VALID; a sender held in STALL by a spent slot goes on. -/
def txSlotWrite (b slot : Nat) (s : State) : State :=
  if !s.isFabric b then s
  else if ((s.link b).txKeys.getD slot KeySlot.empty).valid then
    let s := (s.set SFL_ENC_CTL.TX_SLOT b slot).showTxCount b
    if s.get SFL_LINK_STAT.TX_STATE b = 2 ∧ !s.stalled b then s.setTxState b 0 else s
  else s.set SFL_ENC_STATUS.KEY_ERR b 2

/-- A slot's count reaches 2⁴⁰ (event 353 + 2n) or 2⁴⁸, where the link stays in STALL until TX_SLOT changes (R134). -/
def keyCountLimit (b slot : Nat) (s : State) : State :=
  let n := ((s.link b).txKeys.getD slot KeySlot.empty).count
  if n = 2 ^ 40 then s.notice (353 + 2 * b) 1 (slot + 1024)
  else if s.keySpent b ∧ slot = s.get SFL_ENC_CTL.TX_SLOT b ∧ s.sflUp b ∧ s.get SFL_LINK_STAT.TX_STATE b ≠ 1 then s.setTxState b 2
  else s

/-! ### Meanings -/

/-- SYMBOL_WINDOW_END: R50, R99. -/
def execSymbolWindowEnd (blk : Nat) (k : Nat) (symbols : Nat) (s : State) : Host.Outcome State Fault Refusal :=
  run (decide (blk < 64) && decide (k < 9)) (symbolWindowEnd blk k symbols s)

/-- LANE_MARK: R49, R50, R51, R53, R60, R130, R316. -/
def execLaneMark (blk : Nat) (k : Nat) (reason : Nat) (s : State) : Host.Outcome State Fault Refusal :=
  run (decide (blk < 64) && decide (k < 8)) (laneMark blk k reason s)

/-- DATA_UNIT_SEND: R90, R93, R111, R112, R114, R115, R118, R122, R133, R135. -/
def execDataUnitSend (blk : Nat) (s : State) : Host.Outcome State Fault Refusal :=
  run (decide (blk < 64)) (dataUnitSend blk s)

/-- FLOW_UNIT_RECEIVED: R90, R91, R111, R113, R114, R117, R119, R121, R123, R131, R133, R135, R300. -/
def execFlowUnitReceived (blk : Nat) (blocks : List Block) (s : State) : Host.Outcome State Fault Refusal :=
  run (decide (blk < 64)) (flowUnitReceived blk blocks s)

/-- ACK_RECEIVED: R116, R118. -/
def execAckReceived (blk : Nat) (aseq : Nat) (s : State) : Host.Outcome State Fault Refusal :=
  run (decide (blk < 64)) (ackReceived blk aseq s)

/-- NAK_RECEIVED: R116, R118. -/
def execNakReceived (blk : Nat) (aseq : Nat) (s : State) : Host.Outcome State Fault Refusal :=
  run (decide (blk < 64)) (nakReceived blk aseq s)

/-- REPLAY_TIMEOUT: R118. -/
def execReplayTimeout (blk : Nat) (s : State) : Host.Outcome State Fault Refusal :=
  run (decide (blk < 64)) (replayTimeout blk s)

/-- REPLAY_UNIT_RESEND: R118. -/
def execReplayUnitResend (blk : Nat) (s : State) : Host.Outcome State Fault Refusal :=
  run (decide (blk < 64)) (replayUnitResend blk s)

/-- REPLAY_MAX_EXCEEDED: R118, R131. -/
def execReplayMaxExceeded (blk : Nat) (s : State) : Host.Outcome State Fault Refusal :=
  run (decide (blk < 64)) (replayMaxExceeded blk s)

/-- ACK_TIMER: R117. -/
def execAckTimer (blk : Nat) (s : State) : Host.Outcome State Fault Refusal :=
  run (decide (blk < 64)) (ackTimer blk s)

/-- NAK_RESEND_TIMER: R119. -/
def execNakResendTimer (blk : Nat) (s : State) : Host.Outcome State Fault Refusal :=
  run (decide (blk < 64)) (nakResendTimer blk s)

/-- XOFF_UPDATE: R123. -/
def execXoffUpdate (blk : Nat) (v : Nat) (s : State) : Host.Outcome State Fault Refusal :=
  run (decide (blk < 64) && decide (v < 8)) (xoffUpdate blk v s)

/-- TIMING_SLOT: R112, R125. -/
def execTimingSlot (blk : Nat) (s : State) : Host.Outcome State Fault Refusal :=
  run (decide (blk < 64)) (timingSlot blk s)

/-- LANE_SET: R37, R56, R92, R127, R128, R129, R130, R393. -/
def execLaneSet (blk : Nat) (received : Bool) (bits : Nat) (copies : Nat) (s : State) : Host.Outcome State Fault Refusal :=
  run (decide (blk < 64)) (laneSet blk received bits copies s)

/-- LANE_ACK: R127, R128. -/
def execLaneAck (blk : Nat) (bits : Nat) (copies : Nat) (s : State) : Host.Outcome State Fault Refusal :=
  run (decide (blk < 64)) (laneAck blk bits copies s)

/-- LANE_NAK: R127, R130. -/
def execLaneNak (blk : Nat) (bits : Nat) (copies : Nat) (s : State) : Host.Outcome State Fault Refusal :=
  run (decide (blk < 64)) (laneNak blk bits copies s)

/-- SWITCH: R56, R93, R127, R128. -/
def execSwitchLanes (blk : Nat) (received : Bool) (bits : Nat) (copies : Nat) (s : State) : Host.Outcome State Fault Refusal :=
  run (decide (blk < 64)) (switchLanes blk received bits copies s)

/-- KEYSYNC: R127, R135. -/
def execKeysync (blk : Nat) (bits : Nat) (copies : Nat) (s : State) : Host.Outcome State Fault Refusal :=
  run (decide (blk < 64)) (keysync blk bits copies s)

/-- ACTIVE_LANE_LOCK_LOSS: R130. -/
def execActiveLaneLockLoss (blk : Nat) (lane : Nat) (s : State) : Host.Outcome State Fault Refusal :=
  run (decide (blk < 64) && decide (lane < 16)) (activeLaneLockLoss blk lane s)

/-- LANE_REQ_WRITE: R130, R136. -/
def execLaneReqWrite (blk : Nat) (s : State) : Host.Outcome State Fault Refusal :=
  run (decide (blk < 64)) (laneReqWrite blk s)

/-- SFL_LINK_DOWN: R131, R159. -/
def execSflLinkDown (blk : Nat) (s : State) : Host.Outcome State Fault Refusal :=
  run (decide (blk < 64)) (sflLinkDown blk s)

/-- DOWN_TMO_EXPIRY: R131. -/
def execDownTmoExpiry (blk : Nat) (s : State) : Host.Outcome State Fault Refusal :=
  run (decide (blk < 64)) (downTmoExpiry blk s)

/-- SFL_KEY_COMMIT: R134, R135, R136. -/
def execSflKeyCommit (blk : Nat) (value : Word) (s : State) : Host.Outcome State Fault Refusal :=
  run (decide (blk < 64)) (sflKeyCommit blk value s)

/-- TX_SLOT_WRITE: R134, R136. -/
def execTxSlotWrite (blk : Nat) (slot : Nat) (s : State) : Host.Outcome State Fault Refusal :=
  run (decide (blk < 64) && decide (slot < 2)) (txSlotWrite blk slot s)

/-- KEY_COUNT_LIMIT: R134. -/
def execKeyCountLimit (blk : Nat) (slot : Nat) (s : State) : Host.Outcome State Fault Refusal :=
  run (decide (blk < 64) && decide (slot < 2)) (keyCountLimit blk slot s)

end Sys2Proof.Machine
end

