-- ==== Sys2Proof/Machine/Timing.lean ====
section
/-! DEFINITION. The discipline of the fabric time counter (R126, R400 to R407): the servo, the time root and its references, the upstream of a worker. -/

namespace Sys2Proof.Machine

/-! ### Times -/

/-- A time in the format of R126, in units of 2⁻¹⁶ ns. -/
def ptpUnits (t : Nat) : Int := ((t / 2 ^ 48 * 1000000000 + t / 2 ^ 16 % 2 ^ 32) * 2 ^ 16 + t % 2 ^ 16 : Nat)

/-- A signed 16-bit number. -/
def signed16 (n : Nat) : Int := if n < 2 ^ 15 then n else (n : Int) - 2 ^ 16

/-- A number as the 32 bits of a register. -/
def bits32 (n : Int) : Nat := (n % 2 ^ 32).toNat

/-- The servo changed. -/
def State.modServo (s : State) (f : Servo → Servo) : State := { s with servo := f s.servo }

/-- The counter steps by a number of 2⁻⁴⁸ ns (R403, R406): STEPS + 1 and event 481; the time since the last update is measured without the step. -/
def State.stepTime (s : State) (d : Int) : State :=
  let s := { s with tim := FabTime.ofTotal (s.tim.total + d) }
  let s := s.modServo fun x => { x with last := x.last + d }
  (s.count TIM_STAT.STEPS 0).cause 481 0 0

/-! ### The servo (R403, R404) -/

/-- The state of the servo. -/
def State.servoState (s : State) : Nat := s.get TIM_STAT.STATE 0

/-- The servo enters ACQUIRE: its next update is the first (log entry 37). -/
def State.acquire (s : State) : State := (s.set TIM_STAT.STATE 0 1).modServo fun x => { x with first := true, good := 0 }

/-- The reference is lost (R404): HOLDOVER with FREQ kept, and event 480. -/
def State.holdover (s : State) : State :=
  if s.servoState = 3 then s
  else (((s.set TIM_STAT.STATE 0 3).set TIM_FREQ.SLEW 0 0).modServo fun x => { x with due := none, sum := 0, n := 0 }).notice 480 0 0

/-- FREQ clamped to ±500 ppm (R400). -/
def clampFreq (f : Int) : Int := max (-2147484) (min 2147484 f)

/-- One update with mean offset θ in 2⁻¹⁶ ns (R403): a step on the first update or past STEP_NS, else the frequency and the slew for the next interval. -/
def State.correct (s : State) (theta : Int) : State :=
  if s.servo.first || decide ((s.get TIM_CFG.STEP_NS 0 : Int) * 2 ^ 16 < |theta|) then
    (s.stepTime (-theta * 2 ^ 32)).set TIM_FREQ.SLEW 0 0
  else
    let q := (theta * 2 ^ 64).tdiv (s.tim.total - s.servo.last)
    let f := clampFreq (signed32 (s.get TIM_FREQ.FREQ 0) - q.tdiv (2 ^ s.get TIM_CFG.KI_SHIFT 0))
    (s.set TIM_FREQ.FREQ 0 (bits32 f)).set TIM_FREQ.SLEW 0 (bits32 (-q))

/-- SERVO_UPDATE (R403, R404): the mean that is due corrects the counter; TIM_OFFSET shows it; 8 consecutive updates below 20 ns lock the servo, one above 100 ns returns it to ACQUIRE. A reference that was lost is regained with
event 480. -/
def servoUpdate (s : State) : State :=
  match s.servo.due with
  | none => s
  | some theta =>
    let s := if s.servoState = 3 then s.acquire.notice 480 0 0 else if s.servoState = 0 then s.acquire else s
    let s := s.correct theta
    let good := if |theta| < 20 * 2 ^ 16 then s.servo.good + 1 else 0
    let s := s.modServo fun x => { x with first := false, good := good, last := s.tim.total, due := none }
    let s := s.set TIM_OFFSET.THETA 0 (bits32 (theta.tdiv (2 ^ 12)))
    let s := s.resultDone TIM_OFFSET.SEQ TIM_OFFSET.VALID 0
    if s.servoState = 1 ∧ 8 ≤ good then s.set TIM_STAT.STATE 0 2
    else if s.servoState = 2 ∧ 100 * 2 ^ 16 < |theta| then s.acquire
    else s

/-! ### The time root (R405, R406) -/

/-- This chip is the acting manager, isolated or not, or stands alone (log entry 38). -/
def State.actsAsRoot (s : State) : Bool := let r := s.get MGT_FAB_STAT.ROLE_NOW 0; r = 0 || r = 3 || r = 5

/-- PTP is a valid reference: a Sync message has been accepted within LOSS_MS. -/
def State.ptpValid (s : State) : Bool :=
  match s.ptpAt with
  | some t => decide (s.clk < t + s.get TIM_CFG.LOSS_MS 0 * 1000000)
  | none => false

/-- The reference that the root's servo runs against is valid (R405): the reference clock for FREE, PTP, or PPS_IN. -/
def State.ownRefValid (s : State) : Bool :=
  match s.get TIM_CFG.SRC 0 with
  | 0 => true
  | 1 => s.ptpValid
  | _ => s.flag TIM_STAT.PPS_OK 0

/-- The chip becomes the root (R405, R406): HOPS 0, no upstream, its own ID; HOLDOVER unless its own reference is valid. -/
def State.becomeRoot (s : State) : State :=
  let s := (s.set TIM_STAT.ROOT 0 1).set TIM_STAT.HOPS 0 0
  let s := (s.set TIM_STAT.UP_PORT 0 0x7F).set TIM_STAT.ROOT_ID 0 (s.get MGT_CHIP_INFO.CHIP_ID 0)
  let s := (s.set TIM_OFFSET.ERR 0 0).modServo fun x => { x with sum := 0, n := 0, due := none }
  if !s.ownRefValid then s.holdover
  else if s.get TIM_CFG.SRC 0 = 0 then (s.set TIM_STAT.STATE 0 0).set TIM_FREQ.SLEW 0 0
  else s.acquire

/-! ### Workers (R407) -/

/-- The partner of block `b` may be the upstream (R407): its last good TIMING unit within 100 µs, LOCKED, of this chip's own epoch, on an ACTIVE link. -/
def State.upCandidate (s : State) (b : Nat) : Option TimePeer :=
  match s.timPeer b with
  | some t => if s.sflUp b && t.locked && decide (t.epoch = s.get MGT_FAB_STAT.EPOCH 0) && decide (s.clk ≤ t.heardAt + 100000) then some t else none
  | none => none

/-- The order in which a worker prefers its candidates: HOPS, then the partner's CHIP_ID, then the port. -/
def State.upRank (s : State) (b hops : Nat) : Nat := hops * 2 ^ 16 + s.get SFL_PEER.CHIP_ID b * 2 ^ 8 + 2 * b

/-- The block of the upstream that R407 chooses. -/
def State.bestUpstream (s : State) : Option (Nat × TimePeer) :=
  ((List.range 64).filterMap fun b => (s.upCandidate b).map fun t => (b, t)).foldl
    (fun best x => match best with
      | none => some x
      | some y => if s.upRank x.1 x.2.hops < s.upRank y.1 y.2.hops then some x else some y) none

/-- A worker's upstream brought up to date (R407): HOPS, ERR and the root's ID follow it; a change of upstream discards the partial mean. -/
def State.updUpstream (s : State) : State :=
  if s.flag TIM_STAT.ROOT 0 then s
  else
    let old := s.get TIM_STAT.UP_PORT 0
    let port := match s.bestUpstream with
      | some (b, _) => 2 * b
      | none => 0x7F
    let s := match s.bestUpstream with
      | some (_, t) =>
        let s := (s.set TIM_STAT.HOPS 0 (min 255 (t.hops + 1))).set TIM_STAT.ROOT_ID 0 t.rootId
        s.set TIM_OFFSET.ERR 0 (min 0xFFFF (t.err + 80))
      | none => s.set TIM_STAT.HOPS 0 255
    let s := s.set TIM_STAT.UP_PORT 0 port
    if port = old then s else s.modServo fun x => { x with sum := 0, n := 0 }

/-- The chip is no longer the root: it follows an upstream. -/
def State.leaveRoot (s : State) : State := ((s.set TIM_STAT.ROOT 0 0).set TIM_STAT.STATE 0 0).updUpstream

/-- The root follows the acting role (R405, R406). -/
def State.updRoot (s : State) : State :=
  if s.actsAsRoot && !s.flag TIM_STAT.ROOT 0 then s.becomeRoot
  else if !s.actsAsRoot && s.flag TIM_STAT.ROOT 0 then s.leaveRoot
  else s

/-- An accepted sample of the upstream (R403, R407): the mean of 16 is one update. -/
def State.timingSample (s : State) (offset : Int) : State :=
  let x := s.servo
  if x.n + 1 < 16 then { s with servo := { x with sum := x.sum + offset, n := x.n + 1 } }
  else { s with servo := { x with sum := 0, n := 0, due := some ((x.sum + offset).tdiv 16) } }

/-- 12 bytes of a unit as a time. -/
def unitTime (unit : List Byte) (k : Nat) : Nat := ofBytes ((unit.drop k).take 12)

/-- What the TIMING unit last received from the peer of block `b` said, or none. -/
def State.setPeer (s : State) (b : Nat) (p : Option TimePeer) : State := { s with timPeers := Tbl.wr (fun _ => none) s.timPeers b p }

/-- A TIMING unit is received (R126, R407): a bad one is only counted; a good one has its AN and XOFF acted on and gives RTT, what the partner says of time, and on the upstream's link a sample. -/
def timingUnitReceived (b : Nat) (blocks : List Block) (arr : Nat) (s : State) : State :=
  if !s.sflUp b then s
  else
    let r := s.takeUnit b blocks
    let unit := r.2.1
    let s := (r.1.slotTaken b).timingTaken b unit r.2.2
    if r.2.2 || !unitOk 0xFFFF unit || unitField unit 1 0 ≠ 3 then s
    else
      let tx := unitTime unit 4
      let rtt := (ptpUnits arr - ptpUnits (unitTime unit 16)) - (ptpUnits tx - ptpUnits (unitTime unit 28))
      let x := s.link b
      let s := s.setLink b { x with echoTx := tx, echoRx := arr }
      let s := (s.set SFL_LINK_STAT.RTT b (rtt.tdiv (2 ^ 16)).toNat).updThresholds b
      let flags := ofBytes ((unit.drop 41).take 1)
      let peer : TimePeer := ⟨s.clk, ofBytes ((unit.drop 40).take 1), bitOf flags 0, bitOf flags 1, ofBytes ((unit.drop 42).take 1),
        ofBytes ((unit.drop 44).take 4), ofBytes ((unit.drop 48).take 4)⟩
      let s := s.setPeer b (some peer)
      let s := (s.tally 0x384 (b / 16) (b % 16) b).updUpstream
      if s.flag TIM_STAT.ROOT 0 ∨ s.get TIM_STAT.UP_PORT 0 ≠ 2 * b then s
      else s.timingSample (ptpUnits arr - (ptpUnits tx + rtt.tdiv 2 + signed16 (s.get TIM_ASYM.ASYM (2 * b)) * 2 ^ 12))

/-- 100 µs without a good TIMING unit from the upstream (R407): it is no longer eligible, and another or none is chosen. -/
def upstreamTimeout (s : State) : State :=
  let p := s.get TIM_STAT.UP_PORT 0
  if s.flag TIM_STAT.ROOT 0 ∨ p = 0x7F then s
  else (s.setPeer (p / 2) none).updUpstream

/-! ### References and commands -/

/-- PPS_OUT at a whole second (R401): high for PPS_W_MS; never in RESET (R374). -/
def ppsOutEdge (s : State) : State :=
  if s.phase = .reset then s else { s with ppsUntil := s.clk + s.get TIM_CFG.PPS_W_MS 0 * 1000000 }

/-- The level of PPS_OUT. -/
def State.ppsOut (s : State) : Bool := decide (s.clk < s.ppsUntil) && s.phase ≠ .reset

/-- The order of the standard's dataset comparison (log entry 39): the first field that differs decides, the lower value being better. -/
def betterMaster (a b : PtpMaster) : Bool :=
  match ([(a.prio1, b.prio1), (a.cls, b.cls), (a.accuracy, b.accuracy), (a.variance, b.variance), (a.prio2, b.prio2), (a.identity, b.identity),
      (a.steps, b.steps), (a.sender, b.sender)].find? fun x => x.1 ≠ x.2) with
  | some x => decide (x.1 < x.2)
  | none => true

/-- PTP_ANNOUNCE (R405): in the client's domain, the best master by the dataset comparison is selected; a master's own later message replaces what it said. -/
def ptpAnnounce (m : PtpMaster) (s : State) : State :=
  let s := s.tallyChip 4
  if m.domain ≠ s.get TIM_CFG.PTP_DOMAIN 0 then s
  else
    let take := match s.ptpBest with
      | none => true
      | some b => decide (b.sender = m.sender) || betterMaster m b
    { s with ptpBest := if take then some m else s.ptpBest }.set TIM_STAT.PTP_OK 0 1

/-- Half the difference of two intervals, in 2⁻¹⁶ ns: the offset that the Delay Request-Response mechanism gives (log entry 39). -/
def ptpOffset (t1 t2 t3 t4 : Nat) : Int := ((ptpUnits t2 - ptpUnits t1) - (ptpUnits t4 - ptpUnits t3)).tdiv 2

/-- The whole seconds nearest to an offset in 2⁻¹⁶ ns. -/
def wholeSeconds (theta : Int) : Int := (theta + 500000000 * 2 ^ 16).fdiv (1000000000 * 2 ^ 16)

/-- PTP_SYNC (R404 to R406): timestamped to 1/16 ns; one of the selected master is a sample where SRC is PTP, and corrects the seconds where SRC is PTP_PPS. -/
def ptpSync (domain sender t1 t3 t4 : Nat) (s : State) : State :=
  let s := s.tallyChip 4
  match s.ptpBest with
  | none => s
  | some m =>
    if domain ≠ s.get TIM_CFG.PTP_DOMAIN 0 ∨ m.domain ≠ domain ∨ m.sender ≠ sender then s
    else
      let theta := ptpOffset t1 (s.time / 2 ^ 12 * 2 ^ 12) t3 t4
      let s := { s with ptpAt := some s.clk }
      if !s.flag TIM_STAT.ROOT 0 then s
      else match s.get TIM_CFG.SRC 0 with
        | 1 => s.modServo fun x => { x with due := some theta }
        | 3 => if wholeSeconds theta = 0 then s else s.stepTime (-(wholeSeconds theta * 1000000000 * 2 ^ 48))
        | _ => s

/-- PPS_IN_EDGE (R405): θ is the nanosecond field below half a second, and that field − 10⁹ otherwise. -/
def ppsInEdge (s : State) : State :=
  let n := s.tim.ns
  let theta : Int := (if n < 500000000 then (n : Int) else (n : Int) - 1000000000) * 2 ^ 16
  let s := s.set TIM_STAT.PPS_OK 0 1
  if s.flag TIM_STAT.ROOT 0 ∧ 2 ≤ s.get TIM_CFG.SRC 0 then s.modServo fun x => { x with due := some theta } else s

/-- TIME_REFERENCE_LOSS (R404): the source has given nothing for its time; the servo that runs against it enters HOLDOVER, a worker with event 482 as well. -/
def timeReferenceLoss (source : Nat) (s : State) : State :=
  let root := s.flag TIM_STAT.ROOT 0
  let src := s.get TIM_CFG.SRC 0
  if source = 0 then
    let s := { s with ptpAt := none }
    if root ∧ src = 1 then s.holdover else s
  else if source = 1 then
    let s := s.set TIM_STAT.PPS_OK 0 0
    if root ∧ 2 ≤ src then s.holdover else s
  else if root ∨ s.get TIM_STAT.UP_PORT 0 ≠ 0x7F ∨ s.servoState = 3 then s
  else s.holdover.cause 482 1 0

/-- SRC is written (R404, R405): the root's servo is FREE with SRC = FREE, and otherwise acquires its reference or holds over. -/
def State.sourceChanged (s : State) : State :=
  if !s.flag TIM_STAT.ROOT 0 then s
  else if s.get TIM_CFG.SRC 0 = 0 then ((s.set TIM_STAT.STATE 0 0).set TIM_FREQ.SLEW 0 0).modServo fun x => { x with due := none }
  else if s.ownRefValid then s.acquire
  else s.holdover

/-- TIM_SET as the counter would hold it. -/
def State.timSetValue (s : State) : FabTime :=
  let t := (s.reg .TIM_SET_LO 0).toNat + s.get TIM_SET_HI.VAL 0 * 2 ^ 64
  ⟨t / 2 ^ 48, t / 2 ^ 16 % 2 ^ 32, t % 2 ^ 16 * 2 ^ 32⟩

/-- TIM_CMD.SET (R406): the 96 bits of TIM_SET, on the acting manager and with a nanosecond field below 10⁹; otherwise not performed. -/
def timSet (s : State) : State :=
  let v := s.timSetValue
  if !s.actsAsRoot ∨ 1000000000 ≤ v.ns then s.refuseWrite .TIM_CMD 0
  else s.stepTime (v.total - s.tim.total)

/-- TIM_CMD.ADJ (R406): ADJ_NS is added with carry into the seconds, the fraction unchanged; one that would take the counter below zero is not performed. -/
def timAdj (adj : Nat) (s : State) : State :=
  let d := signed32 (adj % 2 ^ 32) * 2 ^ 48
  if !s.actsAsRoot ∨ s.tim.total + d < 0 then s.refuseWrite .TIM_CMD 0
  else s.stepTime d

/-! ### Meanings -/

/-- TIMING_UNIT_RECEIVED: R123, R124, R126, R407. -/
def execTimingUnitReceived (blk : Nat) (blocks : List Block) (arr : Nat) (s : State) : Host.Outcome State Fault Refusal :=
  run (decide (blk < 64)) (timingUnitReceived blk blocks arr s)

/-- PPS_OUT_EDGE: R400, R401. -/
def execPpsOutEdge (s : State) : Host.Outcome State Fault Refusal :=
  .next (ppsOutEdge s)

/-- SERVO_UPDATE: R403, R404. -/
def execServoUpdate (s : State) : Host.Outcome State Fault Refusal :=
  .next (servoUpdate s)

/-- PTP_SYNC: R404, R405. -/
def execPtpSync (domain : Nat) (sender : Nat) (t1 : Nat) (t3 : Nat) (t4 : Nat) (s : State) : Host.Outcome State Fault Refusal :=
  .next (ptpSync domain sender t1 t3 t4 s)

/-- PPS_IN_EDGE: R404, R405. -/
def execPpsInEdge (s : State) : Host.Outcome State Fault Refusal :=
  .next (ppsInEdge s)

/-- TIME_REFERENCE_LOSS: R404. -/
def execTimeReferenceLoss (source : Nat) (s : State) : Host.Outcome State Fault Refusal :=
  .next (timeReferenceLoss source s)

/-- SET: R406, R420. -/
def execTimSet (s : State) : Host.Outcome State Fault Refusal :=
  .next (timSet s)

/-- ADJ: R406, R420. -/
def execTimAdj (adj : Nat) (s : State) : Host.Outcome State Fault Refusal :=
  .next (timAdj adj s)

/-- PTP_ANNOUNCE: R405. -/
def execPtpAnnounce (m : PtpMaster) (s : State) : Host.Outcome State Fault Refusal :=
  .next (ptpAnnounce m s)

/-- UPSTREAM_TIMEOUT: R407. -/
def execUpstreamTimeout (s : State) : Host.Outcome State Fault Refusal :=
  .next (upstreamTimeout s)

end Sys2Proof.Machine
end

