-- ==== Sys2Proof/Machine/Fabric.lean ====
section
/-! DEFINITION. The fabric of chips (R160, R295 to R319): the fabric header, membership, distribution in generations, the lease, forwarding between chips, mixed revisions. -/

namespace Sys2Proof.Machine

/-! ### The chip and its members -/

/-- This chip's ID. -/
def State.chipId (s : State) : Nat := s.get MGT_CHIP_INFO.CHIP_ID 0

/-- The acting role (R298): 0 STANDALONE, 1 WORKER, 2 STANDBY, 3 MANAGER, 4 DEPOSED, 5 ISOLATED, 6 UNJOINED. -/
def State.roleNow (s : State) : Nat := s.get MGT_FAB_STAT.ROLE_NOW 0

/-- The lead blocks of fabric ports. -/
def State.fabricBlocks (s : State) : List Nat := (List.range 64).filter fun b => s.isFabric b

/-- The fabric ports' links that are ACTIVE. -/
def State.activeLinks (s : State) : List Nat := s.fabricBlocks.filter fun b => s.get SFL_TRAIN_STATUS.STATE b = 7

/-- The chip's revision: its REV_MAX (R315). -/
def State.ownRev (s : State) : Nat := (s.fabricBlocks.map fun b => s.get SFL_PHY_CFG.REV_MAX b).foldl max 0

/-- The chip's REV_MIN. -/
def State.ownRevMin (s : State) : Nat := (s.fabricBlocks.map fun b => s.get SFL_PHY_CFG.REV_MIN b).foldl max 0

/-- A chip is a MEMBER. -/
def State.isMember (s : State) (c : Nat) : Bool := s.get MGT_FAB_MEMBER.STATE c = 2

/-- The members other than this chip. -/
def State.others (s : State) : List Nat := (List.range 256).filter fun c => s.isMember c && c ≠ s.chipId

/-- The role that the fabric section gives a chip. -/
def State.sectionRole (s : State) (c : Nat) : Option Nat := (s.fab.roles.find? (·.1 = c)).map (·.2)

/-- The workers of the fabric section (R306). -/
def State.workers (s : State) : List Nat := (s.fab.roles.filter (·.2 = 1)).map (·.1)

/-- The quorum Q (R306). -/
def State.quorum (s : State) : Nat := if s.workers.isEmpty then 0 else s.workers.length / 2 + 1

/-- The highest epoch accepted. -/
def State.epoch (s : State) : Nat := s.get MGT_FAB_STAT.EPOCH 0

/-- A message of the fabric agent to a chip, counted. -/
def State.sendTo (s : State) (c : Nat) (m : FabMsg) : State := (s.tallyChip 3).emit (.fabric c m)

/-- A message of the fabric agent to each of some chips. -/
def State.sendAll (s : State) (l : List Nat) (m : FabMsg) : State := l.foldl (fun t c => t.sendTo c m) s

/-- The fabric agent changed. -/
def State.modFab (s : State) (f : FabState → FabState) : State := { s with fab := f s.fab }

/-- A chip has been heard: its message is counted. -/
def State.hear (s : State) (c : Nat) : State := (s.tallyChip 3).modFab fun x => { x with heard := Tbl.wr (fun _ => 0) x.heard c s.clk }

/-- This chip sends JOIN to the acting manager (R299). -/
def State.sendJoin (s : State) : State :=
  s.sendTo (s.get MGT_FAB_STAT.ACTING_MGR 0) (.join s.epoch ⟨s.chipId, s.get MGT_CHIP_INFO.ROLE 0, s.ownRevMin, s.ownRev, s.fab.hash, s.fab.scale⟩)

/-! ### MIXED (R315, R316) -/

/-- The MIXED condition (R315). -/
def State.mixedNow (s : State) : Bool :=
  decide (s.ownRev < s.get MGT_FAB_STAT.REV_TOP 0) || s.activeLinks.any fun b => decide (s.get SFL_TRAIN_STATUS.REV b < s.ownRev)

/-- MIXED shown with its event 22 at a change, and the mode that follows. -/
def State.updMixed (s : State) : State :=
  if bit s.mixedNow = s.get MGT_FAB_STAT.MIXED 0 then s
  else ((s.set MGT_FAB_STAT.MIXED 0 (bit s.mixedNow)).notice 22 0 (bit s.mixedNow)).updMode



/-! ### Table changes (R301, R302, R309) -/

/-- The chip that stands by for this one: the section's standby, or its manager while the standby acts (R298, R307, R308). -/
def State.standbyId (s : State) : Nat :=
  if s.get MGT_FAB_CFG.STBY_ID 0 = s.chipId then s.get MGT_FAB_CFG.MGR_ID 0 else s.get MGT_FAB_CFG.STBY_ID 0

/-- A chip is declared unreachable (R309): every vPPB bound to a target on it meets a surprise removal and from now on its requests are answered REMOTE_DOWN (R161, fabricForward), its expanders'
extents raise media events, its CAIDs are removed; a standby lost this way is no member. -/
def State.applyUnreachable (s : State) (c : Nat) : State :=
  let s := s.set MGT_FAB_MEMBER.STATE c 3
  let vs := (List.range 1024).filter fun v =>
    (s.get VPPB_ENTRY.STATE v = 1 || s.get VPPB_ENTRY.STATE v = 2) && s.get VPPB_ENTRY.TARGET v / 512 = c && c ≠ s.chipId
  let s := s.each vs fun v t => t.surpriseRemoved v
  let s := if c = s.chipId then s else s.mediaLost fun f => f / 512 = c
  let s := if s.roleNow = 3 ∧ c = s.standbyId then s.set MGT_FAB_STAT.NO_STANDBY 0 1 else s
  s.each ((List.range 2048).filter fun a => s.flag HRT_AGENT.VALID a && s.get HRT_AGENT.PORT_FEID a / 512 = c) fun a t => t.removeAgent a

/-- A change of an agent's entry (R231, R233): a grant is installed, a removal begins here too, and a CAID given up is free. -/
def State.applyAgent (s : State) (a : Nat) (w : Word) : State :=
  if w.field HRT_AGENT.VALID.hi HRT_AGENT.VALID.lo = 0 then (if s.flag HRT_AGENT.VALID a then s.freeAgent a else s)
  else
    let s := s.installCaid a (w.field HRT_AGENT.PORT_FEID.hi HRT_AGENT.PORT_FEID.lo)
    if w.field HRT_AGENT.REMOVING.hi HRT_AGENT.REMOVING.lo = 1 then s.removeAgent a else s

/-- A change takes effect on this chip. Every chip but a worker keeps the forwarding entries of all: the standby holds a copy of the manager's tables. -/
def State.applyChange (s : State) (x : FabChange) : State :=
  match x with
  | .member c w => s.setReg .MGT_FAB_MEMBER (c % 256) w
  | .fft chip d w =>
    let s := if s.roleNow = 1 then s else s.modFab fun y => { y with tables := Tbl.wr (fun _ => (0 : Word)) y.tables (256 * chip + d) w }
    if chip = s.chipId then s.setReg .MGT_FAB_FFT (d % 256) w else s
  | .agent a w => s.applyAgent (a % 2048) w
  | .unreachable c => s.applyUnreachable (c % 256)

/-- A generation commits on this chip (R302): every table in one step; a chip that is now a member takes its acting role, a former manager that of a standby (R298, R307). -/
def State.applyGen (s : State) (g : FabGen) : State :=
  let s := g.changes.foldl State.applyChange s
  let s := s.set MGT_FAB_GEN.GEN 0 g.gen
  let s := if g.whole then s.set MGT_FAB_GEN.RESYNC 0 0 else s
  let s := if s.isMember s.chipId ∧ (s.roleNow = 6 ∨ s.roleNow = 4) then
      s.set MGT_FAB_STAT.ROLE_NOW 0 (if s.get MGT_CHIP_INFO.ROLE 0 = 1 then 1 else 2)
    else s
  s.updMixed

/-! ### The manager's generations (R302, R303, R314) -/

/-- The acting standby that is in step: enabled, a member, and not behind. -/
def State.standby (s : State) : Option Nat :=
  let c := s.standbyId
  if s.flag MGT_FAB_CFG.STBY_EN 0 && s.isMember c && c ≠ s.chipId && !s.flag MGT_FAB_STAT.NO_STANDBY 0 then some c else none

/-- The standby that takes part in a generation (R303): the one in step, or the one that this generation brings back. -/
def State.stepOf (s : State) (r : FabRun) : Option Nat :=
  match s.standby with
  | some c => some c
  | none => if s.flag MGT_FAB_CFG.STBY_EN 0 && r.wholeTo.contains s.standbyId then some s.standbyId else none

/-- A chip that the running generation or one that waits declares unreachable: no phase waits for it. -/
def State.givenUp (s : State) (r : FabRun) (c : Nat) : Bool :=
  r.gen.changes.contains (.unreachable c) || s.fab.todo.any fun x => x.1.contains (.unreachable c)

/-- The manager's copy of a chip's forwarding entry. -/
def State.fftOf (s : State) (chip d : Nat) : Word := Tbl.rd (fun _ => 0) s.fab.tables (256 * chip + d)

/-- The ports of the valid alternatives of a forwarding entry. -/
def fftPorts (w : Word) : List Nat := (List.range 4).filterMap fun k => if w.field (8 * k + 7) (8 * k + 7) = 1 then some (w.field (8 * k + 6) (8 * k)) else none

/-- The partner chip of a chip's fabric port in its last LINK_REPORT. -/
def State.partnerOf (s : State) (chip port : Nat) : Option Nat :=
  ((Tbl.rd (fun _ => []) s.fab.reports chip).find? (·.1 = port)).map (·.2.1)

/-- The next chips that a chip's old and new entries towards a destination name. -/
def State.nextChips (s : State) (changes : List FabChange) (chip d : Nat) : List Nat :=
  let new := changes.flatMap fun x => match x with
    | .fft c e w => if c = chip ∧ e = d then fftPorts w else []
    | _ => []
  (fftPorts (s.fftOf chip d) ++ new).filterMap (s.partnerOf chip)

/-- The rule of R314 over the union of the tables before and after: a chip entered by a down hop towards d has only down hops towards d. -/
def State.fftLegal (s : State) (changes : List FabChange) : Bool :=
  (List.range 256).all fun d => (List.range 256).all fun m => (s.nextChips changes m d).all fun n =>
    decide (m ≤ n) || (s.nextChips changes n d).all fun q => decide (q < n)

/-- The whole state, as changes for one chip (R302). -/
def State.wholeState (s : State) : List FabChange :=
  ((List.range 256).map fun c => FabChange.member c (s.reg .MGT_FAB_MEMBER c)) ++
  (s.fab.tables.map fun e => FabChange.fft (e.1 / 256) (e.1 % 256) e.2) ++
  ((List.range 2048).map fun a => FabChange.agent a (s.reg .HRT_AGENT a))

/-- A generation as a chip is sent it: the whole state for a chip that needs it. -/
def State.genFor (s : State) (r : FabRun) (c : Nat) : FabGen :=
  if r.wholeTo.contains c then ⟨r.gen.gen, true, s.wholeState ++ r.gen.changes⟩ else r.gen

/-- The chips a phase waits for: the standby, or every member that is not UNREACHABLE and the chips sent the whole state. -/
def State.phaseChips (s : State) (r : FabRun) : List Nat :=
  if r.phase = 1 then (s.others ++ r.wholeTo.filter fun c => !s.others.contains c).filter fun c => !s.givenUp r c else (s.stepOf r).toList

/-- DIST_PREP of the running generation goes out, to the standby first where one takes part. -/
def State.sendPrep (s : State) (r : FabRun) : State :=
  let s := s.modFab fun x => { x with run := some r }
  (s.phaseChips r).foldl (fun t c => t.sendTo c (.distPrep t.epoch (t.genFor r c))) s

/-- The manager may send DIST_PREP: acting manager, not isolated, and every ACK names its epoch (R307). -/
def State.mayDistribute (s : State) : Bool := s.roleNow = 3 && !s.fab.reannounce && s.fab.run.isNone && !s.fab.handover

/-- The running generation is committed at the members and at this chip (R302); a standby that it brought back is in step (R303). A handover that waited for it goes to the standby. -/
def State.finishGen (s : State) (r : FabRun) : State :=
  let s := s.sendAll (s.phaseChips { r with phase := 1 }) (.distCommit s.epoch r.gen.gen)
  let s := (s.modFab fun x => { x with run := none }).applyGen r.gen
  if s.fab.handover then
    match s.standby with
    | some c => s.sendTo c (.handover s.epoch r.gen.gen)
    | none => s
  else s

/-- The next waiting change becomes a generation (R302, R314): one that breaks the rule of R314 is not sent, one that no other chip takes part in is committed at once. -/
def State.startGen : Nat → State → State
  | 0, s => s
  | n + 1, s =>
    if !s.mayDistribute then s
    else match s.fab.todo with
      | [] => s
      | (changes, whole) :: rest =>
        let s := s.modFab fun x => { x with todo := rest }
        if !s.fftLegal changes then State.startGen n s
        else
          let r : FabRun := ⟨⟨s.get MGT_FAB_GEN.GEN 0 + 1, false, changes⟩, 1, [], whole⟩
          if (s.stepOf r).isSome then s.sendPrep { r with phase := 0 }
          else if (s.phaseChips r).isEmpty then State.startGen n (s.finishGen r)
          else s.sendPrep r

/-- What waits goes on. -/
def State.nextGen (s : State) : State := State.startGen (s.fab.todo.length + 1) s

/-- A change of the distributed tables is asked of the manager. -/
def State.change (s : State) (changes : List FabChange) (whole : List Nat) : State :=
  (s.modFab fun x => { x with todo := x.todo ++ [(changes, whole)] }).nextGen

/-- The manager commits the running generation (R302), and goes on with what waits. -/
def State.commitGen (s : State) (r : FabRun) : State := (s.finishGen r).nextGen

/-- Every chip of a phase has acknowledged: the next phase. -/
def State.nextPhase (s : State) (r : FabRun) : State :=
  match r.phase with
  | 0 => s.sendPrep { r with phase := 1, acked := r.acked }
  | 1 =>
    match s.stepOf r with
    | some c => (s.modFab fun x => { x with run := some { r with phase := 2, acked := [] } }).sendTo c (.distCommit s.epoch r.gen.gen)
    | none => s.commitGen r
  | _ => (s.set MGT_FAB_STAT.NO_STANDBY 0 0).commitGen r

/-- The running phase is complete once every chip it waits for has acknowledged. -/
def State.checkPhase (s : State) : State :=
  match s.fab.run with
  | some r => if (s.phaseChips r).all r.acked.contains then s.nextPhase r else s
  | none => s

/-! ### MIXED across the fabric (R316) -/

/-- Some member is MIXED, as the manager knows it: this chip, a member below REV_TOP, or one that reports an ACTIVE link below its revision. -/
def State.anyMixed (s : State) : Bool :=
  s.flag MGT_FAB_STAT.MIXED 0 ||
  (List.range 256).any fun c => s.isMember c &&
    (decide (s.get MGT_FAB_MEMBER.REV_MAX c < s.get MGT_FAB_STAT.REV_TOP 0) ||
      (Tbl.rd (fun _ => []) s.fab.reports c).any fun l => l.2.2.1 && decide (l.2.2.2 < s.get MGT_FAB_MEMBER.REV_MAX c))

/-- NALT is at most 1 while a member is MIXED (R316). -/
def State.capNalt (s : State) (x : FabChange) : FabChange :=
  match x with
  | .fft chip d w => if s.anyMixed && decide (1 < w.field 33 32) then .fft chip d (w.setField 33 32 1) else x
  | _ => x

/-- While a member is MIXED the manager distributes NALT ≤ 1 for the entries that still hash over more (R316). -/
def State.capTables (s : State) : State :=
  let wide := s.fab.tables.filter fun e => decide (1 < e.2.field 33 32)
  if s.roleNow = 3 ∧ s.anyMixed ∧ !wide.isEmpty then s.change (wide.map fun e => s.capNalt (.fft (e.1 / 256) (e.1 % 256) e.2)) [] else s

/-- Entering or leaving MIXED (R315, R316): withheld features are withheld or restored, since each reads the condition where it is used; the manager withholds what is fabric-wide by a generation. -/
def mixedConditionChange (s : State) : State := s.updMixed.capTables

/-! ### Joining (R299, R300) -/

/-- The cause for which the manager refuses a JOIN (R299); 0 none. -/
def State.joinCause (s : State) (m : JoinMsg) : Nat :=
  let revs := m.revMax :: ((List.range 256).filter fun c => s.isMember c && c ≠ m.chip).map fun c => s.get MGT_FAB_MEMBER.REV_MAX c
  match s.sectionRole m.chip with
  | none => 1
  | some role =>
    if s.isMember m.chip then 2
    else if m.role ≠ role then 3
    else if m.hash ≠ s.fab.hash then 4
    else if m.scale ≠ s.fab.scale then 5
    else if revs.any fun a => revs.any fun b => decide (a + 1 < b) then 6
    else 0

/-- JOIN (R299): once per LEASE_MS a chip with an ACTIVE fabric link that is not a member sends it; the acting manager refuses it with the first cause that applies, or sends the chip the whole
state and records it as MEMBER. -/
def joinFabric (m : Option JoinMsg) (s : State) : State :=
  match m with
  | none => if s.get MGT_CHIP_INFO.ROLE 0 ≠ 0 ∧ !s.activeLinks.isEmpty ∧ (!s.isMember s.chipId ∨ s.roleNow = 6 ∨ s.roleNow = 4) ∧ s.roleNow ≠ 3 then s.sendJoin else s
  | some m =>
    if s.roleNow ≠ 3 then s
    else
      let s := s.hear m.chip
      match s.joinCause m with
      | 0 =>
        let w := word (2 + m.role % 4 * 2 ^ 3 + m.revMax % 256 * 2 ^ 8)
        let s := s.set MGT_FAB_MEMBER.STATE m.chip 1
        let s := s.set MGT_FAB_STAT.REV_TOP 0 (max (s.get MGT_FAB_STAT.REV_TOP 0) m.revMax)
        (s.change [.member m.chip w] [m.chip]).capTables
      | cause => (s.sendTo m.chip (.joinRefuse s.epoch cause)).notice 21 0 m.chip

/-- A refused chip records the cause for its own ID, with event 21, and keeps trying (R299, R319). -/
def joinRefuse (cause : Nat) (s : State) : State :=
  ((s.set MGT_FAB_MEMBER.STATE s.chipId 4).set MGT_FAB_MEMBER.REFUSE s.chipId cause).notice 21 0 s.chipId

/-! ### Distribution on a member (R302) -/

/-- DIST_PREP (R302): a generation in order is staged and acknowledged, one that the member has is acknowledged; one more than one above the member's own is answered with RESYNC; one of an epoch
below the member's is ignored. -/
def distPrep (sender epoch : Nat) (g : FabGen) (s : State) : State :=
  let s := s.hear sender
  let own := s.get MGT_FAB_GEN.GEN 0
  if epoch < s.epoch then s
  else if own + 1 < g.gen ∧ !g.whole then
    ((s.set MGT_FAB_GEN.RESYNC 0 1).count MGT_FAB_CNT.RESYNC 0).sendTo sender (.resync s.epoch own)
  else
    let s := if g.gen ≤ own ∧ !g.whole then s else s.modFab fun x => { x with staged := some g, prepAcked := some g.gen }
    s.sendTo sender (.ack s.epoch 0x24 g.gen s.epoch)

/-- DIST_COMMIT (R302): the staged generation takes effect, and is acknowledged; so is one that the member has already. -/
def distCommit (epoch gen : Nat) (s : State) : State :=
  if epoch < s.epoch then s
  else
    let ack := fun (s : State) => s.sendTo (s.get MGT_FAB_STAT.ACTING_MGR 0) (.ack s.epoch 0x25 gen s.epoch)
    match s.fab.staged with
    | some g =>
      if g.gen = gen then ack ((s.modFab fun x => { x with staged := none, commitAcked := some gen }).applyGen g)
      else s
    | none => if s.get MGT_FAB_GEN.GEN 0 = gen ∧ 0 < gen then ack s else s

/-- DIST_ABORT (R306): the prepared generation is discarded. -/
def distAbort (epoch gen : Nat) (s : State) : State :=
  if epoch < s.epoch then s
  else s.modFab fun x => { x with staged := x.staged.filter fun g => g.gen ≠ gen }

/-- RESYNC (R302): the manager sends the member the whole state in one generation. -/
def resync (chip _gen : Nat) (s : State) : State := if s.roleNow = 3 then (s.hear chip).change [] [chip] else s

/-! ### Announcing and acknowledging (R303, R305, R307) -/

/-- STBY_OK as ANNOUNCE carries it. -/
def State.stbyOk (s : State) : Bool := s.standby.isSome

/-- ANNOUNCE to every chip of the fabric section (R304, R305). -/
def State.sendAnnounce (s : State) : State :=
  s.sendAll ((s.fab.roles.map (·.1)).filter (· ≠ s.chipId))
    (.announce ⟨s.chipId, s.epoch, s.get MGT_FAB_GEN.GEN 0, s.get MGT_FAB_STAT.REV_TOP 0, s.flag MGT_FAB_STAT.MIXED 0, s.stbyOk⟩)

/-- Every LEASE_MS ÷ 8 (R305); an isolated manager goes on announcing, one that has sent HANDOVER does not (R307, R308). -/
def announceSend (s : State) : State :=
  if (s.roleNow = 3 ∧ (!s.fab.handover ∨ s.fab.run.isSome)) ∨ s.roleNow = 5 then s.sendAnnounce else s

/-- The acting manager that this chip knows, and that holds the lease; a change from one to another is counted, with event 20. -/
def State.newManager (s : State) (c : Nat) (known : Bool) : State :=
  let old := s.get MGT_FAB_STAT.ACTING_MGR 0
  let s := s.set MGT_FAB_MEMBER.ACTING_MGR old 0
  let s := (s.set MGT_FAB_STAT.ACTING_MGR 0 c).set MGT_FAB_MEMBER.ACTING_MGR c 1
  if known ∧ old ≠ c then (s.count MGT_FAB_CNT.TAKEOVER 0).notice 20 0 c else s

/-- A new manager re-issues the last generation it acknowledged (R306): DIST_ABORT for one that is staged, else DIST_COMMIT for one that it committed. -/
def State.reissue (s : State) (staged : Option FabGen) (acked : Option Nat) : State :=
  match staged, acked with
  | some g, _ => (s.sendAll s.others (.distAbort s.epoch g.gen)).modFab fun x => { x with staged := none }
  | none, some g => s.sendAll s.others (.distCommit s.epoch g)
  | none, none => s

/-- This chip becomes acting manager with an epoch (R306 to R308): it announces, and re-issues its last generation: DIST_COMMIT where it had acknowledged that, DIST_ABORT where only DIST_PREP.
A manager that did not hand over must join again (R307); without a member to stand by, NO_STANDBY is shown. -/
def State.becomeManager (s : State) (epoch : Nat) (handed : Bool) : State :=
  let known := decide (0 < s.epoch)
  let old := s.get MGT_FAB_STAT.ACTING_MGR 0
  let s := if known ∧ !handed ∧ old ≠ s.chipId ∧ s.isMember old then s.set MGT_FAB_MEMBER.STATE old 1 else s
  let s := (s.set MGT_FAB_STAT.EPOCH 0 epoch).set MGT_FAB_STAT.ROLE_NOW 0 3
  let s := (s.newManager s.chipId known).set MGT_FAB_MEMBER.STATE s.chipId 2
  let s := s.set MGT_FAB_STAT.REV_TOP 0 (max (s.get MGT_FAB_STAT.REV_TOP 0) s.ownRev)
  let s := s.set MGT_FAB_STAT.NO_STANDBY 0 (bit (!(s.flag MGT_FAB_CFG.STBY_EN 0 && s.isMember s.standbyId && s.standbyId ≠ s.chipId)))
  let s := s.modFab fun x => { x with lease := true, leaseAt := s.clk, run := none, votes := [], reannounce := false, handover := false }
  let s := s.sendAnnounce
  (s.reissue s.fab.staged s.fab.commitAcked).updMixed.updRoot

/-- ACK at the manager (R302, R305, R307): the chip is heard; one that names a higher epoch makes the manager announce again above it; one of the running phase completes it once every chip has
acknowledged. -/
def ackFabric (chip type gen highest : Nat) (s : State) : State :=
  let s := (s.hear chip).modFab fun x => { x with ackAt := Tbl.wr (fun _ => none) x.ackAt chip (some s.clk) }
  if s.roleNow ≠ 3 then s
  else if s.epoch < highest then
    ((s.set MGT_FAB_STAT.EPOCH 0 (highest + 1)).modFab fun x => { x with reannounce := true }).sendAnnounce
  else
    let s := if type = 0x20 ∧ highest = s.epoch then s.modFab fun x => { x with reannounce := false } else s
    match s.fab.run with
    | none => s.nextGen
    | some r =>
      if r.gen.gen = gen ∧ (type = 0x24 ∧ r.phase ≤ 1 ∨ type = 0x25 ∧ r.phase = 2) then
        (s.modFab fun x => { x with run := some { r with acked := r.acked ++ [chip] } }).checkPhase
      else s

/-- A handover that runs ends with a status (R308). -/
def State.endHandover (s : State) (status : Nat) : State :=
  if s.fab.handover then
    ((s.modFab fun x => { x with handover := false }).set MGT_FAB_RES.STATUS 0 status).resultDone MGT_FAB_RES.SEQ MGT_FAB_RES.VALID 0
  else s

/-- A generation without a chip that did not acknowledge it: no whole state for it, and no entry that makes it a member. -/
def FabRun.without (r : FabRun) (c : Nat) : FabRun :=
  { r with
    wholeTo := r.wholeTo.filter (· ≠ c),
    gen := { r.gen with changes := r.gen.changes.filter fun x => match x with
      | .member d _ => d ≠ c
      | _ => true } }

/-- The standby has not acknowledged within 2 ms (R303): NO_STANDBY, JOINING, and the generation goes on without it; a handover that waits for it is answered STANDBY_BEHIND (R308). -/
def standbyAckTimeout (s : State) : State :=
  match s.fab.run with
  | some r =>
    if s.roleNow ≠ 3 ∨ r.phase = 1 then s
    else
      let c := s.standbyId
      let s := ((s.set MGT_FAB_STAT.NO_STANDBY 0 1).set MGT_FAB_MEMBER.STATE c 1).endHandover 3
      if r.phase = 0 then s.sendPrep { r.without c with phase := 1 }
      else (s.commitGen { r with wholeTo := r.wholeTo.filter (· ≠ c) }).set MGT_FAB_MEMBER.STATE c 1
  | none => s

/-- An ANNOUNCE is accepted (R305): a higher epoch, or no lease in this chip's view, or none accepted yet; the acting manager's own epoch renews its lease (log entry 32). -/
def State.accepts (s : State) (m : AnnounceMsg) : Bool :=
  decide (s.epoch < m.epoch) || !s.fab.lease || s.epoch = 0 || (m.epoch = s.epoch && m.chip = s.get MGT_FAB_STAT.ACTING_MGR 0)

/-- A manager that sees a higher epoch (R307, R308): after a handover it is acting standby, otherwise DEPOSED with event 20. -/
def State.stepDown (s : State) (m : AnnounceMsg) : State :=
  if s.fab.handover then
    let ok := m.chip = s.standbyId && m.epoch = s.epoch + 1
    let s := (s.endHandover (if ok then 0 else 4)).modFab fun x => { x with run := none }
    (s.set MGT_FAB_STAT.ROLE_NOW 0 2).updRoot
  else (((s.set MGT_FAB_STAT.ROLE_NOW 0 4).modFab fun x => { x with run := none, todo := [] }).notice 20 0 m.chip).updRoot

/-- ANNOUNCE (R303, R305, R307): accepted or ignored, and always answered with an ACK that names the highest epoch accepted. -/
def announce (m : AnnounceMsg) (s : State) : State :=
  let s := s.hear m.chip
  let s :=
    if !s.accepts m then s
    else
      let s := if (s.roleNow = 3 ∨ s.roleNow = 5) ∧ s.epoch < m.epoch then s.stepDown m else s
      let known := decide (0 < s.epoch)
      let s := (s.set MGT_FAB_STAT.EPOCH 0 m.epoch).newManager m.chip known
      let s := s.set MGT_FAB_STAT.REV_TOP 0 m.revTop
      let s := s.modFab fun x => { x with lease := true, leaseAt := s.clk, stbyOk := m.stbyOk, heldVote := none }
      let s := if s.roleNow = 2 ∧ !m.stbyOk then s.sendJoin else s
      s.updMixed
  s.sendTo m.chip (.ack s.epoch 0x20 m.gen s.epoch)

/-- A worker answers a VOTE_REQ (R306): its own view of the lease has lapsed, it has not voted for that epoch, and the last ANNOUNCE it accepted carried STBY_OK. -/
def State.castVote (s : State) (chip proposed : Nat) : State :=
  if s.fab.lease ∨ !s.fab.stbyOk ∨ proposed ≤ s.fab.voted then s
  else (s.modFab fun x => { x with voted := proposed, heldVote := none }).sendTo chip (.vote s.epoch proposed s.epoch)

/-- The view of the lease lapses after LEASE_MS without an ANNOUNCE accepted (R305, R306): no chip holds it then; a standby in step asks for votes, or takes over where Q = 0; a worker answers the
request it has held for at most LEASE_MS. -/
def leaseLapse (s : State) : State :=
  let ms := s.get MGT_FAB_CFG.LEASE_MS 0 * 1000000
  if !s.fab.lease ∨ s.roleNow = 3 ∨ s.roleNow = 5 ∨ s.clk < s.fab.leaseAt + ms then s
  else
    let s := (s.modFab fun x => { x with lease := false }).set MGT_FAB_MEMBER.ACTING_MGR (s.get MGT_FAB_STAT.ACTING_MGR 0) 0
    if s.roleNow = 2 then
      if !s.fab.stbyOk then s
      else if s.quorum = 0 then s.becomeManager (s.epoch + 1) false
      else (s.modFab fun x => { x with proposed := s.epoch + 1, votes := [] }).sendAll s.workers (.voteReq s.epoch (s.epoch + 1))
    else match s.fab.heldVote with
      | some (c, e, at') => if s.clk ≤ at' + ms then s.castVote c e else s
      | none => s

/-- VOTE_REQ (R306): answered once the worker's own lease has lapsed, and held until then. -/
def voteReq (chip proposed : Nat) (s : State) : State :=
  let s := s.hear chip
  if s.roleNow ≠ 1 ∨ !s.fab.stbyOk then s
  else if s.fab.lease then s.modFab fun x => { x with heldVote := some (chip, proposed, s.clk) }
  else s.castVote chip proposed

/-- VOTE (R306): with Q votes the standby is acting manager, its epoch the greater of the one it proposed and one above the highest that any vote names. -/
def vote (chip proposed highest : Nat) (s : State) : State :=
  let s := s.hear chip
  if s.roleNow ≠ 2 ∨ s.fab.lease ∨ proposed ≠ s.fab.proposed ∨ proposed = 0 then s
  else
    let l := if s.fab.votes.any (·.1 = chip) then s.fab.votes else s.fab.votes ++ [(chip, highest)]
    let s := s.modFab fun x => { x with votes := l }
    if s.quorum ≤ l.length then s.becomeManager (max proposed ((l.map (·.2)).foldl max 0 + 1)) false else s

/-- ACKs from fewer than Q workers over the last LEASE_MS (R307): the manager is ISOLATED. -/
def managerIsolated (s : State) : State :=
  let window := s.get MGT_FAB_CFG.LEASE_MS 0 * 1000000
  let n := (s.workers.filter fun c => match Tbl.rd (fun _ => none) s.fab.ackAt c with
    | some t => decide (s.clk ≤ t + window)
    | none => false).length
  if s.roleNow = 3 ∧ n < s.quorum then ((s.set MGT_FAB_STAT.ROLE_NOW 0 5).modFab fun x => { x with run := none }).notice 20 0 s.chipId else s

/-- A chip strapped as manager has heard no ANNOUNCE for 2 × LEASE_MS (R307): it announces one above the highest epoch it has accepted. -/
def managerListenEnd (s : State) : State :=
  if s.get MGT_CHIP_INFO.ROLE 0 = 3 ∧ s.roleNow = 6 ∧ !s.fab.lease then s.becomeManager (s.epoch + 1) false else s

/-! ### Handover (R308) -/

/-- MGT_FAB_CTL.HANDOVER (R308): the status at once where it cannot start; else the running generation completes, HANDOVER goes to the standby and announcing stops. -/
def handoverWrite (value : Word) (s : State) : State :=
  if value.field 0 0 = 0 then s
  else
    let s := s.resultStart MGT_FAB_RES.VALID 0
    let fail := fun (st : Nat) => (s.set MGT_FAB_RES.STATUS 0 st).resultDone MGT_FAB_RES.SEQ MGT_FAB_RES.VALID 0
    if s.roleNow ≠ 3 then fail 1
    else match s.standby with
      | none => fail 2
      | some c =>
        if s.fab.handover then fail 4
        else match s.fab.run with
          | some _ => s.modFab fun x => { x with handover := true }
          | none => (s.modFab fun x => { x with handover := true }).sendTo c (.handover s.epoch (s.get MGT_FAB_GEN.GEN 0))

/-- HANDOVER at the standby (R308): it announces with epoch E + 1 without a vote. -/
def handoverMessage (epoch gen : Nat) (s : State) : State :=
  if s.roleNow = 2 ∧ epoch = s.epoch ∧ s.get MGT_FAB_GEN.GEN 0 = gen then s.becomeManager (s.epoch + 1) true else s

/-! ### Reachability (R304, R309) -/

/-- This chip's fabric ports as LINK_REPORT gives them. -/
def State.ownReport (s : State) : LinkReport :=
  ⟨s.chipId, s.fabricBlocks.map fun b => (2 * b, s.get SFL_PEER.CHIP_ID b, s.get SFL_TRAIN_STATUS.STATE b = 7, s.get SFL_TRAIN_STATUS.REV b)⟩

/-- LINK_REPORT (R304, R313): a member sends its own to the acting manager; the manager keeps one received, and distributes the forwarding entries it computes from the reports. -/
def linkReport (r : Option LinkReport) (tables : List FabChange) (s : State) : State :=
  let take := fun (s : State) (r : LinkReport) =>
    let s := s.modFab fun x => { x with reports := Tbl.wr (fun _ => []) x.reports r.chip r.links }
    let t := (tables.filter fun c => match c with
      | .fft .. => true
      | _ => false).map s.capNalt
    if t.isEmpty then s.capTables else s.change t []
  match r with
  | none =>
    if s.roleNow = 3 then take s s.ownReport
    else if s.isMember s.chipId then s.sendTo (s.get MGT_FAB_STAT.ACTING_MGR 0) (.linkReport s.epoch s.ownReport) else s
  | some r => if s.roleNow = 3 then take (s.hear r.chip) r else s

/-- A chip with no ACTIVE link in any member's report, unheard for UNREACH_MS, is declared unreachable by a generation, with event 21 (R309); no phase that runs waits for it any longer. -/
def chipUnreachable (chip : Nat) (s : State) : State :=
  let linked := (s.fab.reports.any fun e => e.1 ≠ chip && s.isMember e.1 && e.2.any fun l => l.2.1 = chip && l.2.2.1) ||
    s.activeLinks.any fun b => s.get SFL_PEER.CHIP_ID b = chip
  let heard := decide (s.clk < Tbl.rd (fun _ => 0) s.fab.heard chip + s.get MGT_FAB_CFG.UNREACH_MS 0 * 1000000)
  if s.roleNow ≠ 3 ∨ linked ∨ heard ∨ chip = s.chipId ∨ s.get MGT_FAB_MEMBER.STATE chip = 3 then s
  else ((s.notice 21 0 chip).change [.unreachable chip] []).checkPhase

/-! ### Routing between chips (R311 to R313) -/

/-- The hash of a stream to an endpoint (R311). -/
def fabricHash (stream feid : Nat) : Nat :=
  let fold := fun (v : Nat) => Nat.xor (Nat.xor (v % 16) (v / 16 % 16)) (Nat.xor (v / 256 % 16) (v / 4096 % 16))
  Nat.xor (Nat.xor (fold stream) (fold feid)) (feid / 65536 % 2)

/-- Alternative k of a forwarding entry is usable: valid, with its port's link ACTIVE (R311). -/
def State.altUsable (s : State) (w : Word) (k : Nat) : Bool :=
  w.field (8 * k + 7) (8 * k + 7) = 1 && s.get SFL_TRAIN_STATUS.STATE (s.leadOf (w.field (8 * k + 6) (8 * k) / 2)) = 7

/-- The fabric port a packet leaves by (R311): the hashed alternative, or the next usable one after it. -/
def State.fabricPort (s : State) (stream feid : Nat) : Option (Nat × Nat) :=
  let w := s.reg .MGT_FAB_FFT (feid / 512 % 256)
  let n := w.field 33 32 + 1
  let k := fabricHash stream feid % n
  ((List.range n).map fun i => (k + i) % n).find? (s.altUsable w) |>.map fun k => (k, w.field (8 * k + 6) (8 * k))

/-- The slot a packet belongs to: its destination chip and hash (R313). -/
def fabSlot (f : FabPkt) : Nat := 16 * (f.dst / 512 % 256) + fabricHash f.pkt.stream f.dst

/-- A packet sent on its slot's port: over Anvil to the port's NI, where it waits with its fabric fields to be converted, and counted in flight. -/
def State.forwardOn (s : State) (blk : Nat) (f : FabPkt) (port : Nat) : State :=
  let b := s.leadOf (port / 2)
  let i := fabSlot f
  let p := { f.pkt with dst := b, half := port % 2, src := blk }
  let s := { s with fabPath := Tbl.wr (fun _ => none) s.fabPath i (some port), fabFlight := Tbl.wr (fun _ => 0) s.fabFlight i (Tbl.rd (fun _ => 0) s.fabFlight i + 1),
                    transit := s.transit ++ [(b, { f with pkt := p })] }
  s.enqueue blk p

/-- A remote target that this chip does not serve (R300, R309): the chip is no member, or the target's chip has been declared unreachable. Weusk's class goes on. -/
def State.remoteDown (s : State) (f : FabPkt) : Bool :=
  f.pkt.cls ≠ 0 && (!s.joined || s.get MGT_FAB_MEMBER.STATE (f.dst / 512 % 256) = 3)

/-- A packet for another chip (R300, R311 to R313): TTL set where it starts and one less where it passes on; held while its slot's old path drains; before membership, for an unreachable chip or with
no usable alternative answered REMOTE_DOWN by the sink of the region where it stands. -/
def fabricForward (blk : Nat) (origin : Bool) (f : FabPkt) (s : State) : State :=
  let s := { s with transit := s.transit.filter fun x => x ≠ (blk, f) }
  if !origin ∧ f.ttl = 0 then s
  else
    let g := { f with ttl := if origin then s.get MGT_FAB_CFG.TTL 0 else f.ttl - 1 }
    let i := fabSlot g
    match (if s.remoteDown g then none else s.fabricPort g.pkt.stream g.dst) with
    | none => s.absorb blk g.pkt 4
    | some (_, port) =>
      match Tbl.rd (fun _ => none) s.fabPath i with
      | some old =>
        if old ≠ port ∧ 0 < Tbl.rd (fun _ => 0) s.fabFlight i then { s with fabHeld := s.fabHeld ++ [(i, blk, g)] }
        else s.forwardOn blk g port
      | none => s.forwardOn blk g port

/-- A packet for another chip arrives with TTL 0 (R312): the sink answers NO_ROUTE, counted. -/
def ttlExpired (blk : Nat) (f : FabPkt) (s : State) : State :=
  if f.ttl ≠ 0 ∨ f.dst / 512 = s.chipId then s
  else (({ s with transit := s.transit.filter fun x => x ≠ (blk, f) }).absorb blk f.pkt 6).count MGT_FAB_CNT.TTL_EXP 0

/-- A fabric link goes down or comes back (R313): the alternatives over it are shown so; once every packet sent on the old path has been delivered or answered, what was held goes on. -/
def fabricLinkLossReroute (p : Nat) (drained : Bool) (s : State) : State :=
  let up := decide (s.get SFL_TRAIN_STATUS.STATE (s.leadOf (p / 2)) = 7)
  let s := s.each (List.range 256) fun d t =>
    t.each (List.range 4) fun k u =>
      let w := u.reg .MGT_FAB_FFT d
      if w.field (8 * k + 7) (8 * k + 7) = 1 ∧ w.field (8 * k + 6) (8 * k) = p then u.setBit MGT_FAB_FFT.UP d k up else u
  if !drained then s
  else
    let via := fun (i : Nat) => decide (Tbl.rd (fun _ => none) s.fabPath i = some p)
    let go := s.fabHeld.filter fun h => via h.1
    let s := { s with fabFlight := s.fabFlight.filter fun e => !via e.1, fabHeld := s.fabHeld.filter fun h => !via h.1 }
    go.foldl (fun t h => match (if t.remoteDown h.2.2 then none else t.fabricPort h.2.2.pkt.stream h.2.2.dst) with
      | some (_, port) => t.forwardOn h.2.1 h.2.2 port
      | none => t.absorb h.2.1 h.2.2.pkt 4) s

/-- The manager retrains a link that both ends could run at a higher revision (R317): at the lower chip ID, one at a time, when every destination routed over it has another usable alternative at both ends. -/
def mixedRevisionRetrain (blk : Nat) (partnerOk : Bool) (s : State) : State :=
  let rev := s.get SFL_TRAIN_STATUS.REV blk
  let better := decide (rev < s.get SFL_PHY_CFG.REV_MAX blk) && decide (rev < s.get SFL_PEER.REV_MAX blk)
  let ok := (List.range 256).all fun d =>
    let w := s.reg .MGT_FAB_FFT d
    let via := fun (k : Nat) => w.field (8 * k + 7) (8 * k + 7) = 1 && s.leadOf (w.field (8 * k + 6) (8 * k) / 2) = blk
    !((List.range 4).any via) || (List.range 4).any fun k => !via k && s.altUsable w k
  let alone := s.fabricBlocks.all fun c => decide (s.get SFL_TRAIN_STATUS.STATE c = 7) || decide (s.get SFL_TRAIN_STATUS.STATE c = 0)
  if s.get SFL_TRAIN_STATUS.STATE blk = 7 ∧ better ∧ s.chipId < s.get SFL_PEER.CHIP_ID blk ∧ ok ∧ partnerOk ∧ alone then sflRetrainWrite blk s else s

/-! ### The fabric header (R160, R295) -/

/-- The 16 bytes of a fabric header (R160). -/
def fabHeader (f : FabPkt) : List Byte :=
  toBytes 16 (f.dst % 2 ^ 17 + f.src % 2 ^ 17 * 2 ^ 17 + f.pkt.stream % 2 ^ 16 * 2 ^ 34 + f.pkt.body.length % 2 ^ 10 * 2 ^ 50 + f.pkt.opc % 256 * 2 ^ 64 +
    f.pkt.slag % 16 * 2 ^ 72 + bit f.pkt.poison * 2 ^ 76 + bit f.pkt.mirror * 2 ^ 77 + bit f.pkt.trace * 2 ^ 78 + f.ttl % 256 * 2 ^ 80 + f.pkt.param % 2 ^ 32 * 2 ^ 96)

/-- A packet rebuilt from a fabric header and its body (R160, R312): PARAM, stream and marks as sent, the class that of its VC. -/
def fabParse (h : Nat) (cls : Nat) (body : List Byte) : FabPkt :=
  let opc := h / 2 ^ 64 % 256
  ⟨h % 2 ^ 17, h / 2 ^ 17 % 2 ^ 17, h / 2 ^ 80 % 256,
    { Pkt.blank with
      stream := h / 2 ^ 34 % 2 ^ 16, cls := cls, len := flitsOf body.length, opc := opc, kind := Config.pktKind opc, slag := h / 2 ^ 72 % 16, mirror := bitOf h 77,
      poison := bitOf h 76, trace := bitOf h 78, param := h / 2 ^ 96 % 2 ^ 32, body := body }⟩

/-- A packet waits behind those of its class for its VC's units (R160). -/
def State.packUnit (s : State) (b : Nat) (f : FabPkt) (mark : Bool) : State :=
  let x := s.link b
  s.setLink b { x with waiting := x.waiting ++ [⟨f.pkt.cls % 8, mark, fabHeader f ++ f.pkt.body, false, f.pkt⟩] }

/-- A packet that Temper polices (R175). -/
def isPoliced (k : PktKind) : Bool :=
  match k with
  | .memRd | .memWr | .ioNonPosted | .ioPosted => true
  | _ => false

/-- A rebuilt packet goes to its receiving NI, a request by way of the policer (R172, R175) and any other with the traffic class of what it answers; it waits to be forwarded, or is answered
NO_ROUTE at a reserved endpoint (R295, R312). -/
def State.arrived (s : State) (b : Nat) (f : FabPkt) : State :=
  if f.dst / 512 ≠ s.chipId then { s with transit := s.transit ++ [(b, f)] }
  else match s.endpointNi (f.dst % 512) with
    | some n =>
      let p := { f.pkt with dst := n, src := b, half := if f.dst % 512 < 128 then f.dst % 2 else 0 }
      if isPoliced p.kind then s.police ⟨b, 2 * b, f.src, 0, true, movedBytes p, p⟩ else s.enqueue b (s.withTc b p)
    | none => s.absorb b f.pkt 6

/-- The packets that bytes hold, one after another, with the bytes of one not complete: a header of zeros ends them. -/
def unpack (cls : Nat) : Nat → List Byte → List FabPkt × List Byte
  | 0, l => ([], l)
  | k + 1, l =>
    if l.length < 16 then ([], l)
    else
      let h := ofBytes (l.take 16)
      if h = 0 then ([], [])
      else
        let n := h / 2 ^ 50 % 2 ^ 10
        if l.length < 16 + n then ([], l)
        else
          let (ps, rest) := unpack cls k (l.drop (16 + n))
          (fabParse h cls ((l.drop 16).take n) :: ps, rest)

/-- A response that a unit with CMARK brings to a port of this chip carries a remote mark of 0b10 (R185), in the full class; its count is CMARK_RECEIVED's. -/
def State.keepRemoteMark (s : State) (f : FabPkt) : State :=
  let p := f.dst % 512
  if f.dst / 512 = s.chipId ∧ p < 128 ∧ hasDevLoad f.pkt ∧ s.fullClass (p / 32) then s.keepMark p f.pkt.param (max 2 (s.markKept p f.pkt.param)) else s

/-- A fabric NI converts (R160, R184, R316): a packet that leaves is given its fabric header and packed into its VC's units, with the greater of the device's DevLoad and this chip's mark (R185); a mark from 0b10 on is its congestion mark, withheld and counted on a link of revision 1; the
oldest unit accepted on a VC is unpacked, and its space is free again. -/
def fabricHeaderRebuild (b : Nat) (d : FabDir) (s : State) : State :=
  match d with
  | .leave f =>
    let s := { s with transit := s.transit.filter fun x => x ≠ (b, f) }
    let s := if (s.niAt b).rx.contains f.pkt then s.leaves b f.pkt else s
    let m := if hasDevLoad f.pkt then s.markKept (2 * b) f.pkt.param else 0
    let mark := decide (2 ≤ m)
    let low := mark && s.get SFL_TRAIN_STATUS.REV b = 1
    let s := if low then s.count MGT_FAB_CNT.WITHHELD 0 else s
    let g := { f with pkt := { f.pkt with devload := max f.pkt.devload m } }
    let port := (Config.freeWord s.freeCtr).toNat
    let s := if g.pkt.trace then s.fresh.noteTrace b 3 (port % 8) (port / 8 % 8) g.pkt (some g) else s
    s.packUnit b g (mark && !low)
  | .arrive vc =>
    let x := s.link b
    match x.accepted.find? fun (u : AcceptedUnit) => u.vc = vc with
    | none => s
    | some u =>
      let s := s.setLink b { x with accepted := x.accepted.erase u }
      let s := if u.payload.isEmpty then s
        else (s.set SFL_VC_STAT.FREE (8 * b + vc % 8) (s.get SFL_VC_STAT.FREE (8 * b + vc % 8) + 1)).updXoff b (vc % 8)
      let begun := Tbl.rd (fun _ => []) s.fabIn (8 * b + vc % 8)
      let s := if !u.cont && begun.any fun y => y ≠ 0 then s.count ANV_SLAG_CNT2.PARTIAL (b / 16) else s
      let old := if u.cont then begun else []
      let (ps, rest) := unpack (vc % 8) 64 (old ++ u.payload)
      let s := { s with fabIn := Tbl.wr (fun _ => []) s.fabIn (8 * b + vc % 8) rest }
      ps.foldl (fun t p => (if u.cmark then t.keepRemoteMark p else t).arrived b p) s

/-! ### Meanings -/

/-- FABRIC_HEADER_REBUILD: R160, R185, R295, R312. -/
def execFabricHeaderRebuild (blk : Nat) (d : FabDir) (s : State) : Host.Outcome State Fault Refusal :=
  run (decide (blk < 64)) (fabricHeaderRebuild blk d s)

/-- JOIN: R296, R299, R304. -/
def execJoinFabric (m : Option JoinMsg) (s : State) : Host.Outcome State Fault Refusal :=
  .next (joinFabric m s)

/-- JOIN_REFUSE: R299, R304, R319. -/
def execJoinRefuse (cause : Nat) (s : State) : Host.Outcome State Fault Refusal :=
  .next (joinRefuse cause s)

/-- DIST_PREP: R302, R304, R314. -/
def execDistPrep (sender : Nat) (epoch : Nat) (g : FabGen) (s : State) : Host.Outcome State Fault Refusal :=
  .next (distPrep sender epoch g s)

/-- DIST_COMMIT: R233, R301, R302, R304, R309. -/
def execDistCommit (epoch : Nat) (gen : Nat) (s : State) : Host.Outcome State Fault Refusal :=
  .next (distCommit epoch gen s)

/-- DIST_ABORT: R304, R306. -/
def execDistAbort (epoch : Nat) (gen : Nat) (s : State) : Host.Outcome State Fault Refusal :=
  .next (distAbort epoch gen s)

/-- ACK: R302, R303, R304, R305, R307. -/
def execAckFabric (chip : Nat) (type : Nat) (gen : Nat) (highest : Nat) (s : State) : Host.Outcome State Fault Refusal :=
  run (decide (chip < 256)) (ackFabric chip type gen highest s)

/-- RESYNC: R302, R304. -/
def execResync (chip : Nat) (gen : Nat) (s : State) : Host.Outcome State Fault Refusal :=
  run (decide (chip < 256)) (resync chip gen s)

/-- STANDBY_ACK_TIMEOUT: R303. -/
def execStandbyAckTimeout (s : State) : Host.Outcome State Fault Refusal :=
  .next (standbyAckTimeout s)

/-- ANNOUNCE_SEND: R305. -/
def execAnnounceSend (s : State) : Host.Outcome State Fault Refusal :=
  .next (announceSend s)

/-- ANNOUNCE: R298, R303, R304, R305, R307, R315, R319. -/
def execAnnounce (m : AnnounceMsg) (s : State) : Host.Outcome State Fault Refusal :=
  .next (announce m s)

/-- LEASE_LAPSE: R303, R305, R306, R310. -/
def execLeaseLapse (s : State) : Host.Outcome State Fault Refusal :=
  .next (leaseLapse s)

/-- VOTE_REQ: R303, R304, R306. -/
def execVoteReq (chip : Nat) (proposed : Nat) (s : State) : Host.Outcome State Fault Refusal :=
  run (decide (chip < 256)) (voteReq chip proposed s)

/-- VOTE: R298, R304, R306, R319, R406. -/
def execVote (chip : Nat) (proposed : Nat) (highest : Nat) (s : State) : Host.Outcome State Fault Refusal :=
  run (decide (chip < 256)) (vote chip proposed highest s)

/-- MANAGER_ISOLATED: R307, R319. -/
def execManagerIsolated (s : State) : Host.Outcome State Fault Refusal :=
  .next (managerIsolated s)

/-- MANAGER_LISTEN_END: R307. -/
def execManagerListenEnd (s : State) : Host.Outcome State Fault Refusal :=
  .next (managerListenEnd s)

/-- HANDOVER_WRITE: R308, R318. -/
def execHandoverWrite (value : Word) (s : State) : Host.Outcome State Fault Refusal :=
  .next (handoverWrite value s)

/-- HANDOVER: R298, R304, R308, R319. -/
def execHandoverMessage (epoch : Nat) (gen : Nat) (s : State) : Host.Outcome State Fault Refusal :=
  .next (handoverMessage epoch gen s)

/-- LINK_REPORT: R304. -/
def execLinkReport (r : Option LinkReport) (tables : List FabChange) (s : State) : Host.Outcome State Fault Refusal :=
  .next (linkReport r tables s)

/-- CHIP_UNREACHABLE: R79, R309, R319. -/
def execChipUnreachable (chip : Nat) (s : State) : Host.Outcome State Fault Refusal :=
  run (decide (chip < 256)) (chipUnreachable chip s)

/-- FABRIC_FORWARD: R290, R300, R311, R312. -/
def execFabricForward (blk : Nat) (origin : Bool) (f : FabPkt) (s : State) : Host.Outcome State Fault Refusal :=
  run (decide (blk < 64)) (fabricForward blk origin f s)

/-- TTL_EXPIRED: R312. -/
def execTtlExpired (blk : Nat) (f : FabPkt) (s : State) : Host.Outcome State Fault Refusal :=
  run (decide (blk < 64)) (ttlExpired blk f s)

/-- FABRIC_LINK_LOSS_REROUTE: R290, R313. -/
def execFabricLinkLossReroute (p : Nat) (drained : Bool) (s : State) : Host.Outcome State Fault Refusal :=
  run (decide (p < 128)) (fabricLinkLossReroute p drained s)

/-- MIXED_REVISION_RETRAIN: R317. -/
def execMixedRevisionRetrain (blk : Nat) (partnerOk : Bool) (s : State) : Host.Outcome State Fault Refusal :=
  run (decide (blk < 64)) (mixedRevisionRetrain blk partnerOk s)

/-- MIXED_CONDITION_CHANGE: R315, R316, R319, R361. -/
def execMixedConditionChange (s : State) : Host.Outcome State Fault Refusal :=
  .next (mixedConditionChange s)

end Sys2Proof.Machine
end

