-- ==== Sys2Proof/Machine/Tongs.lean ====
section
/-! DEFINITION. The commands of the Tongs engines (R257 to R288): dispatch, the custom instructions, the coprocessor queue, services, records, cancel, reset and loading. -/

namespace Sys2Proof.Machine

/-! ### Dispatch (R258, R271) -/

/-- An engine may take a job: IDLE, in service, and not waiting to be reloaded (R280). -/
def State.mayGrant (s : State) (e : Nat) : Bool := s.engState e = 0 && bitOf (s.get TNG_CL_STAT.LIVE (e / 8)) (e % 8) && !(s.engine e).reload

/-- The idle engine that takes a service's job: the lowest that holds its program (log entry 29). -/
def State.idleHolder (s : State) (c svc : Nat) : Option Nat :=
  let holds := fun (k : Nat) => (s.engine (8 * c + k)).program = if svc < 0x40 then 0 else svc
  ((List.range 8).find? fun k => bitOf (s.holdersOf c svc) k && holds k && s.mayGrant (8 * c + k)).map (8 * c + ·)

/-- A job of the cluster that was accepted before one and has not completed. -/
def State.olderJob (s : State) (c seq : Nat) : Bool :=
  (s.cluster c).queue.any (fun j => decide (j.seq < seq)) ||
  (List.range 8).any fun k => match s.jobRun (8 * c + k) with
    | some r => decide (r.job.seq < seq)
    | none => false

/-- Migration slots not free: those in use and those of MIGRATE jobs dispatched that have not claimed theirs (R244). -/
def State.migBusy (s : State) : Nat :=
  s.get RMP_MIG_STAT.SLOTS_USED 0 + ((List.range 128).filter fun e => match s.jobRun e with
    | some r => r.job.service = 5 && r.outcome.isNone && (s.slotOfEngine e).isNone
    | none => false).length

/-- A BARRIER holds a job (R270): its own or that of a job ahead of it in the queue, while an older job has not completed. -/
def State.barred (s : State) (c : Nat) (j : Job) : Bool :=
  (s.cluster c).queue.any fun b => decide (b.seq ≤ j.seq) && decide ((b.word 0).field 9 9 = 1) && s.olderJob c b.seq

/-- A job is eligible (R271), its program's holder aside. -/
def State.eligible' (s : State) (c : Nat) (j : Job) : Bool :=
  !s.barred c j && (j.origin = 2 || s.cqRoom c) && (j.service ≠ 5 || decide (s.migBusy < 32))

/-- The descriptor is invalid for its service (R270 to R272): a reserved bit set, an ASD that a service uses not valid, or LEN, SRC or DST not a multiple of 64. -/
def badDesc (j : Job) : Bool :=
  let v := j.service
  let src := asdOk (j.word 6) && (j.word 2).toNat % 64 = 0
  let dst := asdOk (j.word 7) && (j.word 3).toNat % 64 = 0
  let len := (j.word 1).field 39 0 % 64 = 0
  (j.word 0).field 15 12 ≠ 0 || (j.word 0).field 63 32 ≠ 0 || (j.word 1).field 63 40 ≠ 0 ||
    (match v with
     | 1 => !(len && src && dst)
     | 2 => !(len && dst)
     | 3 => !(len && src)
     | 4 => !(len && src && dst)
     | 5 => (j.word 4).field 63 28 ≠ 0
     | 7 => !dst || (j.word 4).field 63 29 ≠ 0 || decide ((j.word 4).field 19 0 < 10) || decide (1000000 < (j.word 4).field 19 0) ||
         decide ((j.word 4).field 28 24 < 12) || decide (30 < (j.word 4).field 28 24)
     | _ => false)

/-- The version of the program that an engine holds (R273, R280). -/
def State.programVersion (s : State) (e : Nat) : Nat := (s.engine e).version

/-- A job granted to an engine (R258, R271): its descriptor is copied to local memory, and the program starts at 0 with a0 and a1; a kernel in U-mode. -/
def State.grantJob (s : State) (c e : Nat) (j : Job) : State :=
  let s := (s.modCluster c fun x => { x with queue := x.queue.erase j }).showQueue c
  let v := j.service
  let id := j.id.getD 0
  let run : JobRun := ⟨j, s.clk, s.programVersion e, none, 0, 0, 0, 0, 0xFFFFFFFF, [], [], false, 0, 0⟩
  let s := s.modEngine e fun x =>
    let x := { x with job := some run, gen := x.gen + 1, pc := 0, user := decide (0x40 ≤ v), jobCancel := false,
                      mem := Memory.writeBytes x.mem 0x3BFC0 (j.desc.flatMap fun (w : Word) => toBytes 8 w.toNat) }
    (x.setX 10 (word 0x3BFC0)).setX 11 (word id)
  let s := s.set TNG_ENG_STAT.STATE e 1
  let s := s.set TNG_ENG_STAT.SERVICE e v
  let s := s.set TNG_ENG_STAT.JOB_ID e id
  let s := s.setBit TNG_CL_STAT.BUSY c (e % 8) true
  if badDesc j then s.finishJob e 0x10 0 0 else s

/-- The dispatcher grants the oldest eligible job (R271); a job whose program has been removed ends with BAD_SERVICE (R280). -/
def jobDispatch (c : Nat) (s : State) : State :=
  if s.regionState (c / 4) = 1 ∨ s.banked (128 + c) then s
  else
    match (s.cluster c).queue.find? fun j => s.eligible' c j && (s.holdersOf c j.service = 0 || (s.idleHolder c j.service).isSome) with
    | none => s
    | some j =>
      match s.idleHolder c j.service with
      | some e => s.grantJob c e j
      | none => s.endQueued c j 0x11

/-- TNG_SUB_CMD.GO (R269): the owner's descriptor is submitted, with its status and JOB_ID as one result. -/
def tngSubGo (c : Nat) (s : State) : State :=
  let desc := (List.range 8).map fun k => s.reg .TNG_SUB_DESC (8 * c + k)
  let st := s.admission c desc
  let id := (s.cluster c).nextId
  let s := (s.resultStart TNG_SUB_RES.VALID c).submitJob c desc 0
  let s := s.set TNG_SUB_RES.STATUS c st
  let s := if st = 0 then s.set TNG_SUB_ID.JOB_ID c id else s
  s.resultDone TNG_SUB_RES.SEQ TNG_SUB_RES.VALID c

/-- The device queues its own job in the reserved entries (R268): a directory sweep of an agent, or the zero-fill of an extent through its pool addresses (log entry 30); never refused while the
cluster's region is not fenced. -/
def deviceJobSubmit (c : Nat) (fill : Bool) (arg : Nat) (s : State) : State :=
  if s.regionState (c / 4) = 1 then s
  else if fill then s.queueJob c [2, word (2 ^ 30), 0, word (arg % 65536 * 2 ^ 30), 0, 0, 0, word (2 ^ 29)] 2
  else s.queueJob c [6, 0, 0, 0, word (arg % 2048), 0, 0, 0] 2

/-! ### The custom instructions at decode (R262, R264, R265) -/

/-- The engine runs a job whose outcome is not known. -/
def State.running (s : State) (e : Nat) : Bool :=
  match s.jobRun e with
  | some r => r.outcome.isNone && s.engState e = 1
  | none => false

/-- A range of local memory is not the program's to name (R258, R262): past 0x3_FFFF, or the monitor's from U-mode. -/
def badLocal (user : Bool) (off n : Nat) : Bool := decide (0x40000 < off + n) || (user && decide (0x3C000 < off + n))

/-- The exception of a far address (R262, log entry 31): misaligned, ASD not usable, or outside the scratch window; load or store causes. -/
def State.farFault (s : State) (e : Nat) (asd : Word) (addr len : Nat) (write : Bool) : Option (Nat × Nat) :=
  if addr % len ≠ 0 then some (if write then 6 else 4, addr)
  else if asd.field 29 29 = 0 ∨ asdSpace asd = 3 ∨ (asdSpace asd = 2 ∧ !s.inScratch e addr len) then some (if write then 7 else 5, addr)
  else none

/-- The exception of a local range (R262). -/
def localFault (user : Bool) (off n : Nat) (write : Bool) : Option (Nat × Nat) :=
  if off % 64 ≠ 0 then some (if write then 6 else 4, off) else if badLocal user off n then some (if write then 7 else 5, off) else none

/-- The exception an instruction raises at commit (R262): illegal instruction, address misaligned or access fault, with what mtval then holds (log entry 31). -/
def State.cpFault (s : State) (e : Nat) (op : CpOp) : Option (Nat × Nat) :=
  let user := (s.engine e).user
  let bytes := fun size => 64 * sizeLines size
  match op with
  | .ld asd size addr off => if 7 ≤ size then some (2, 0) else (s.farFault e asd addr (bytes size) false).or (localFault user off (bytes size) true)
  | .st asd size addr off => if 7 ≤ size then some (2, 0) else (s.farFault e asd addr (bytes size) true).or (localFault user off (bytes size) false)
  | .copy odd a b size src dst =>
    if 7 ≤ size ∨ odd then some (2, 0) else (s.farFault e a src (bytes size) false).or (s.farFault e b dst (bytes size) true)
  | .fill asd size addr _ => if 7 ≤ size then some (2, 0) else s.farFault e asd addr (bytes size) true
  | .amo asd f addr _ _ => if 5 ≤ f then some (2, 0) else s.farFault e asd addr 8 true
  | .wait _ => none
  | .fence scope => if 3 ≤ scope then some (2, 0) else none
  | .crc off len => localFault user off len false
  | .done _ off => localFault user off 16 false
  | .submit off _ => localFault user off 64 false

/-- The lines an instruction reads far away. -/
def opReads (op : CpOp) : List Nat :=
  match op with
  | .ld _ size _ _ => List.range (sizeLines size)
  | .copy _ _ _ size _ _ => List.range (sizeLines size)
  | _ => []

/-- The lines an instruction writes far away. -/
def opWrites (op : CpOp) : List Nat :=
  match op with
  | .st _ size _ _ => List.range (sizeLines size)
  | .copy _ _ _ size _ _ => List.range (sizeLines size)
  | .fill _ size _ _ => List.range (sizeLines size)
  | .amo .. => [0]
  | _ => []

/-- The source reads of an entry, with or without the speculative flag. -/
def readAccs (e : Nat) (c : CpEntry) (spec : Bool) : List FarAcc :=
  match c.op with
  | .ld asd _ addr _ => c.reads.map fun l => farAcc e (cpTag c.ticket l 0) asd (addr + 64 * l) 64 false [] false spec
  | .copy _ asd _ _ src _ => c.reads.map fun l => farAcc e (cpTag c.ticket l 0) asd (src + 64 * l) 64 false [] false spec
  | _ => []

/-- Staging space in use, in 64-byte lines of 256 (R257, R265): that of every entry whose reads have started. -/
def stagingUsed (x : Engine) : Nat := ((x.queue.filter fun c => c.started && !c.committed).map fun c => (opReads c.op).length).sum

/-- A fence in the queue has not completed (R287). -/
def fenced (x : Engine) : Bool := x.queue.any fun c => match c.op with
  | .fence _ => true
  | _ => false

/-- A DM or JOB instruction takes an entry at decode (R264): its ticket is the lowest free entry and that entry's next generation; a read that may start is issued with the speculative flag
(R265). With all 32 entries in use decode stalls. -/
def State.decodeOp (s : State) (e rd : Nat) (op : CpOp) : State :=
  let x := s.engine e
  if !s.running e then s
  else
    match (List.range 32).find? fun k => !(x.queue.any fun c => c.ticket % 32 = k) with
    | none => s
    | some k =>
      let g := Tbl.rd (fun _ => 0) x.gens k
      let may := !(opReads op).isEmpty && (s.cpFault e op).isNone && !fenced x && decide (stagingUsed x + (opReads op).length ≤ 256)
      let bad := (s.cpFault e op).isSome
      let c : CpEntry := ⟨k + 32 * g, rd, op, false, may, false, if bad then [] else opReads op, if bad then [] else opWrites op, [], 0⟩
      let s := s.setEngine e { x with queue := x.queue ++ [c], gens := Tbl.wr (fun _ => 0) x.gens k ((g + 1) % 8) }
      let s := s.tallyEngine 1 e
      if may then (s.addAcc (e / 8) (readAccs e c true)).pump (e / 8) else s

/-- ASR k of an engine. -/
def State.asr (s : State) (e k : Nat) : Word := Tbl.rd (fun _ => 0) (s.engine e).asr (k % 16)

/-- DM.LD (R262). -/
def dmLd (e rd asr size addr off : Nat) (s : State) : State := s.decodeOp e rd (.ld (s.asr e asr) (size % 8) addr off)
/-- DM.ST (R262). -/
def dmSt (e rd asr size addr off : Nat) (s : State) : State := s.decodeOp e rd (.st (s.asr e asr) (size % 8) addr off)
/-- DM.COPY (R262): ASR k for the source, k + 1 for the destination, k even. -/
def dmCopy (e rd asr size src dst : Nat) (s : State) : State :=
  s.decodeOp e rd (.copy (asr % 2 = 1) (s.asr e asr) (s.asr e (asr + 1)) (size % 8) src dst)
/-- DM.FILL (R262). -/
def dmFill (e rd asr size addr : Nat) (pattern : Word) (s : State) : State := s.decodeOp e rd (.fill (s.asr e asr) (size % 8) addr pattern)
/-- DM.AMO (R262): function 4 compares against DM_CMP. -/
def dmAmo (e rd asr f addr : Nat) (operand : Word) (s : State) : State := s.decodeOp e rd (.amo (s.asr e asr) (f % 8) addr operand (s.engine e).dmCmp)
/-- DM.WAIT (R263, R287). -/
def dmWait (e rd : Nat) (ticket : Option Nat) (s : State) : State := s.decodeOp e rd (.wait (ticket.map (· % 256)))
/-- DM.FENCE (R286, R287). -/
def dmFence (e scope : Nat) (s : State) : State := s.decodeOp e 0 (.fence (scope % 4))
/-- DM.CRC (R262). -/
def dmCrc (e rd off length : Nat) (s : State) : State := s.decodeOp e rd (.crc off length)
/-- JOB.DONE (R262, R274). -/
def jobDone (e status off : Nat) (s : State) : State := s.decodeOp e 0 (.done status off)
/-- JOB.SUBMIT (R262, R269). -/
def jobSubmit (e rd off target : Nat) (s : State) : State := s.decodeOp e rd (.submit off target)

/-! ### Commit, squash and answers (R264 to R267) -/

/-- Entries removed with their staged data and pending responses; `n` of them are counted as squashed (R266). -/
def State.removeEntries (s : State) (e : Nat) (gone : List CpEntry) (n : Nat) : State :=
  let s := s.discardAcc e fun a => decide (a.tag % 8 < 3) && gone.any fun c => c.ticket = a.tag / 8 / 64
  let s := s.modEngine e fun x => { x with queue := x.queue.filter fun c => !gone.contains c, dmSquash := x.dmSquash + word n }
  (s.count TNG_ENG_CNT.SQUASH e n).tallyEngine 2 e n

/-- A trap (R258, R262, R266): the instruction and every younger entry leave the queue, mcause and mtval tell why, and the monitor runs in M-mode. -/
def State.trap (s : State) (e : Nat) (c : CpEntry) (cause tval : Nat) : State :=
  let young := ((s.engine e).queue.dropWhile (· ≠ c)).drop 1
  let s := s.removeEntries e (c :: young) young.length
  s.modEngine e fun x => { x with mcause := cause, mtval := tval, user := false }

/-- A kernel ends its job (R274): with 0x00 or 0x80 to 0xFF and the two result words, or with KERNEL_FAULT and the status it gave. -/
def State.kernelDone (s : State) (e status off : Nat) : State :=
  let x := s.engine e
  if status = 0 ∨ (0x80 ≤ status ∧ status ≤ 0xFF) then s.finishJob e status (ofBytes (x.read off 8)) (ofBytes (x.read (off + 8) 8))
  else s.finishJob e 0x13 status x.mtval

/-- A committed entry's state: committed, with its ticket in rd. -/
def State.commitTicket (s : State) (e : Nat) (c : CpEntry) : State :=
  s.modEngine e fun x => (x.setX c.rd (word c.ticket)).modEntry c.ticket fun c => { c with committed := true }

/-- An instruction that ends at commit leaves the queue with a value in rd. -/
def State.commitValue (s : State) (e : Nat) (c : CpEntry) (v : Word) : State :=
  s.modEngine e fun x => { x.setX c.rd v with queue := x.queue.erase c }

/-- The staged lines of an entry that commits reach local memory, or their destination. -/
def State.unstage (s : State) (e : Nat) (c : CpEntry) : State :=
  let s := (opReads c.op).foldl (fun t l => match Tbl.rd (fun _ => none) c.staged l with
    | some (d, p) => t.deliverLine e c l d p
    | none => t) s
  s.modEngine e fun x => x.modEntry c.ticket fun c => { c with staged := [] }

/-- Reads that have not started, or were deferred, are issued without the flag at commit; a deferred one is counted (R265). -/
def State.startCommitted (s : State) (e : Nat) (c : CpEntry) : State :=
  if c.started then s
  else
    let s := if c.deferred then (s.count TNG_ENG_CNT.DEFER e).tallyEngine 3 e else s
    s.addAcc (e / 8) (readAccs e c false)

/-- The oldest entry that has not committed commits (R264): it takes the exception its encoding or operands call for, waits (nothing changes), or has its effect. -/
def coprocessorCommit (e : Nat) (s : State) : State :=
  let x := s.engine e
  match x.queue.find? fun c => !c.committed with
  | none => s
  | some c =>
    let older := x.queue.takeWhile (· ≠ c)
    let room := fun (n : Nat) => decide (s.bufUsed (e / 8) + n ≤ 256)
    match s.cpFault e c.op with
    | some (cause, tval) => s.trap e c cause tval
    | none =>
      match c.op with
      | .wait (some t) =>
        if older.any fun d => d.ticket = t then s else s.commitValue e c (word (Tbl.rd (fun _ => 0) x.results t))
      | .wait none =>
        if !older.isEmpty then s
        else (s.commitValue e c (word x.dmErr)).modEngine e fun x => { x with dmErr := 0 }
      | .fence scope =>
        if older.any (fun d => !d.reads.isEmpty || (scope = 2 && !d.writes.isEmpty)) || (s.cluster (e / 8)).acc.any (fun a => a.engine = e && a.write && !a.issued) then s
        else (s.modEngine e fun x => { x with queue := x.queue.erase c }).pump (e / 8)
      | .crc off len => s.commitValue e c (word (Nat.xor (crcRun (x.dmCrc.toNat % 2 ^ 32) (x.read off len)) 0xFFFFFFFF))
      | .done status off => (s.modEngine e fun x => { x with queue := x.queue.erase c }).kernelDone e status off
      | .submit off target =>
        let desc := (List.range 8).map fun k => word (ofBytes (x.read (off + 8 * k) 8))
        let st := s.admission target desc
        let id := (s.cluster target).nextId
        (s.submitJob target desc 1).commitValue e c (word (st + (if st = 0 then id * 2 ^ 32 else 0)))
      | .ld .. => (((s.commitTicket e c).unstage e c).startCommitted e c |>.modEngine e Engine.retire).pump (e / 8)
      | .copy .. =>
        if !room (opWrites c.op).length then s
        else (((s.commitTicket e c).unstage e c).startCommitted e c).pump (e / 8)
      | .st asd _ addr off =>
        if !room c.writes.length then s
        else
          let l := c.writes.map fun l => farAcc e (cpTag c.ticket l 1) asd (addr + 64 * l) 64 true (x.read (off + 64 * l) 64) (x.poisoned (off + 64 * l)) false
          ((s.commitTicket e c).addAcc (e / 8) l).pump (e / 8)
      | .fill asd _ addr pattern =>
        if !room c.writes.length then s
        else
          let d := (List.replicate 8 (toBytes 8 pattern.toNat)).flatten
          ((s.commitTicket e c).addAcc (e / 8) (c.writes.map fun l => farAcc e (cpTag c.ticket l 1) asd (addr + 64 * l) 64 true d false false)).pump (e / 8)
      | .amo asd f addr operand cmp =>
        if !room 1 then s
        else
          let a := { farAcc e (cpTag c.ticket 0 2) asd addr 8 true [] false false with amo := some (f, operand, cmp) }
          let s := s.modEngine e fun x => x.modEntry c.ticket fun c => { c with committed := true }
          (s.addAcc (e / 8) [a]).pump (e / 8)

/-- A speculative read is answered DEFER (R265): its entry's reads are issued again at commit, or at once where it has committed. -/
def speculativeReadDefer (e ticket : Nat) (s : State) : State :=
  match (s.engine e).entry ticket with
  | none => s
  | some c =>
    if !c.started then s
    else
      let s := s.discardAcc e fun a => a.tag % 8 = 0 && decide (a.tag / 8 / 64 = ticket)
      let s := s.modEngine e fun x => x.modEntry ticket fun c =>
        if c.committed then c else { c with started := false, deferred := true, reads := opReads c.op, staged := [] }
      if c.committed then (((s.count TNG_ENG_CNT.DEFER e).tallyEngine 3 e).addAcc (e / 8) (readAccs e c false)).pump (e / 8) else s

/-- A squash (R266): every younger entry that has not committed is removed with its staged data and pending responses, and only counted. -/
def coprocessorSquash (e kept : Nat) (s : State) : State :=
  let gone := ((s.engine e).queue.drop kept).filter fun c => !c.committed
  if gone.isEmpty then s else s.removeEntries e gone gone.length

/-- What an engine is answered where the chip itself failed its access (R206, R267): DENIED_RD or DENIED_WR, or LOST with the sink's code; failing parts read all-ones. -/
def failedAnswer (a : FarAcc) (x : ReqAnswer × Nat) (data : List Byte) : Nat × Nat × List Byte :=
  let status := (if x.2 = 0 then 2 else 4) + bit a.write
  match x.1 with
  | .someOnes failing => (status, x.2, (List.range a.len).map fun i =>
      let part := (a.addr % 64 + i) / 64
      if failing.contains part then 255 else data.getD i 0)
  | _ => (status, x.2, List.replicate a.len 255)

/-- A far access is answered (R263, R267): status 0 OK, 1 POISONED, 4 LOST_RD, 5 LOST_WR with its SLAG code; 2 DENIED_RD and 3 DENIED_WR, and an access lost in resolution, as the chip's own checks
found. Nothing comes for an access that has not been sent. -/
def farResponse (e tag status slag : Nat) (data : List Byte) (s : State) : State :=
  match (s.cluster (e / 8)).acc.find? fun a => a.engine = e && a.tag = tag && a.issued with
  | none => s
  | some a =>
    let sent := fun (x : Nat × Nat × List Byte) =>
      (((s.forgetReqs fun q => q = accReq a).engineOver e fun t => t = tag).farAnswer (e / 8) e tag x.1 x.2.1 x.2.2).pump (e / 8)
    match s.denials.find? fun x => x.1 = accReq a with
    | some (_, .defer, _) => s
    | some (_, x) => sent (failedAnswer a x data)
    | none => if s.unsent a || status = 2 || status = 3 then s else sent (min 5 status, slag, data)

/-! ### Services (R272) -/

/-- The next 4 KiB burst of a service: up to 64 lines from the next one, whose accesses `f` asks for; none while a burst runs, a failure or a cancel stands, or the last line has been asked for. -/
def State.serviceBurst (s : State) (e svc : Nat) (f : JobRun → Nat → List FarAcc) : State :=
  match s.jobRun e with
  | none => s
  | some r =>
    if r.job.service ≠ svc ∨ r.outcome.isSome ∨ (s.cluster (e / 8)).acc.any (fun a => a.engine = e) then s
    else if r.fail ≠ 0 ∨ r.cancel ∨ r.job.total ≤ r.next then s.settleJob e
    else
      let n := min 64 (r.job.total - r.next)
      let outside := fun (asd : Word) (a : Nat) => asdSpace asd = 2 && !s.inScratch e (a + 64 * r.next) (64 * n)
      let uses := fun (k : Nat) => decide (svc = 1 ∨ svc = 4 ∨ (svc = 2 ∧ k = 1) ∨ (svc = 3 ∧ k = 0))
      if (uses 0 && outside (r.job.word 6) (r.job.word 2).toNat) || (uses 1 && outside (r.job.word 7) (r.job.word 3).toNat) then s.finishJob e 0x07 r.lines 0
      else
        let s := s.modRun e fun r => { r with next := r.next + n, wnext := r.next }
        ((s.addAcc (e / 8) ((List.range n).flatMap fun i => f r (r.next + i))).pump (e / 8)).settleJob e

/-- The read of a line of SRC. -/
def srcRead (e gen : Nat) (r : JobRun) (l : Nat) : FarAcc := farAcc e (svcTag gen l 3) (r.job.word 6) ((r.job.word 2).toNat + 64 * l) 64 false [] false false

/-- COPY (R272): each line is written when it and every lower one have been read. -/
def jobCopy (e : Nat) (s : State) : State := s.serviceBurst e 1 fun r l => [srcRead e (s.engine e).gen r l]

/-- FILL (R272): the pattern P0. -/
def jobFill (e : Nat) (s : State) : State :=
  s.serviceBurst e 2 fun r l =>
    [farAcc e (svcTag (s.engine e).gen l 5) (r.job.word 7) ((r.job.word 3).toNat + 64 * l) 64 true ((List.replicate 8 (toBytes 8 (r.job.word 4).toNat)).flatten) false false]

/-- CRC (R272). -/
def jobCrc (e : Nat) (s : State) : State := s.serviceBurst e 3 fun r l => [srcRead e (s.engine e).gen r l]

/-- COMPARE (R272). -/
def jobCompare (e : Nat) (s : State) : State :=
  s.serviceBurst e 4 fun r l =>
    [srcRead e (s.engine e).gen r l, farAcc e (svcTag (s.engine e).gen l 4) (r.job.word 7) ((r.job.word 3).toNat + 64 * l) 64 false [] false false]

/-- DIR_SWEEP (R233, R272): every directory entry is swept for the agent; the results are the entries swept and the lines poisoned. -/
def dirSweep (e : Nat) (s : State) : State :=
  match s.jobRun e with
  | none => s
  | some r =>
    if r.job.service ≠ 6 ∨ r.outcome.isSome then s
    else
      let agent := (r.job.word 4).field 10 0
      let l := s.dirListed
      let lost := l.filter fun a =>
        let d := dirDecode (s.dirWord (homeSlice (64 * s.lineOf a)) a)
        d.state = .o && d.agents.contains agent && !s.inT a
      (l.foldl (fun t a => t.sweepEntry agent a) s).finishJob e 0 l.length lost.length

/-- A store of the core (R257, R258, R285): to local memory below the monitor; a line that it covers whole is no longer poisoned. -/
def Engine.store (x : Engine) (w : Nat × List Byte) : Engine :=
  if 0x3C000 < w.1 + w.2.length then x
  else { x with mem := Memory.writeBytes x.mem w.1 w.2, bad := x.bad.filter fun l => !(decide (w.1 ≤ 64 * l) && decide (64 * l + 64 ≤ w.1 + w.2.length)) }

/-- What ordinary instructions did takes effect (R257, R263). -/
def Engine.runCore (x : Engine) (c : CoreStep) : Engine :=
  let x := c.regs.foldl (fun y r => y.setX r.1 r.2) x
  let x := c.asrs.foldl (fun y r => { y with asr := Tbl.wr (fun _ => 0) y.asr (r.1 % 16) r.2 }) x
  c.stores.foldl Engine.store { x with pc := c.pc, dmCmp := c.dmCmp.getD x.dmCmp, dmCrc := c.dmCrc.getD x.dmCrc }

/-- A store meets the source range of a DM.ST that has not taken its data (R285): the core stalls. -/
def Engine.storeStalls (x : Engine) (c : CoreStep) : Bool :=
  x.queue.any fun d => !d.committed && match d.op with
    | .st _ size _ off => c.stores.any fun w => decide (w.1 < off + 64 * sizeLines size) && decide (off < w.1 + w.2.length)
    | _ => false

/-- A kernel runs on (R258, R272): in U-mode, its ordinary instructions up to the next event (log entry 90). -/
def kernelJob (e : Nat) (c : CoreStep) (s : State) : State :=
  match s.jobRun e with
  | none => s
  | some r =>
    if 0x40 ≤ r.job.service ∧ r.outcome.isNone ∧ (s.engine e).user ∧ !(s.engine e).storeStalls c then s.modEngine e fun x => x.runCore c else s

/-- A kernel traps (R258, R274): the monitor takes the trap, younger entries are squashed, and the job ends with KERNEL_FAULT. One that trapped at a commit (R262) has its cause already. -/
def kernelFault (e mcause mtval : Nat) (s : State) : State :=
  match s.jobRun e with
  | none => s
  | some r =>
    if r.job.service < 0x40 ∨ r.outcome.isSome then s
    else
      let gone := (s.engine e).queue.filter fun c => !c.committed
      let s := s.removeEntries e gone gone.length
      let (c, v) := if (s.engine e).user then (mcause, mtval) else ((s.engine e).mcause, (s.engine e).mtval)
      let s := s.modEngine e fun x => { x with mcause := c, mtval := v, user := false }
      s.finishJob e 0x13 c v

/-! ### Records, cancel and reset (R273 to R278) -/

/-- A cancel of a running job has its result (R275). -/
def State.cancelDone (s : State) (c status : Nat) : State :=
  let s := s.modCluster c fun x => { x with cancel := none }
  (s.set TNG_CANCEL_RES.STATUS c status).resultDone TNG_CANCEL_RES.SEQ TNG_CANCEL_RES.VALID c

/-- The job's FENCE is satisfied (R286, R288): reads delivered from scope 1, every write performed for scope 3; an ABORTED job's issued accesses have all been answered (R276). -/
def State.fenceMet (s : State) (e : Nat) (r : JobRun) (status : Nat) : Bool :=
  let mine := (s.cluster (e / 8)).acc.filter fun a => a.engine = e
  let f := (r.job.word 0).field 11 10
  if status = 0x0D ∨ f = 3 then mine.isEmpty else if f = 0 then true else mine.all fun a => a.write && a.issued

/-- What an engine does once its job is gone: out of service, loading after an abort or for a new program, or idle. -/
def State.engineNext (s : State) (e : Nat) (load : Bool) : State :=
  if !bitOf (s.get TNG_CL_STAT.LIVE (e / 8)) (e % 8) then s.set TNG_ENG_STAT.STATE e 3
  else if load || (s.engine e).reload then (s.set TNG_ENG_STAT.STATE e 4).showLoaded (e / 8)
  else s.set TNG_ENG_STAT.STATE e 0

/-- A job's record (R273 to R278): written after its fence at the tail, but for a device job, whose result the device takes (a zero-fill that a release waits for, R77); ABORTED and KERNEL_FAULT raise event 224 + e; a waiting cancel has its result. -/
def completionRecordWrite (e : Nat) (s : State) : State :=
  let c := e / 8
  match s.jobRun e with
  | none => s
  | some r =>
    match r.outcome with
    | none => s
    | some (st, r0, r1) =>
      if !s.fenceMet e r st then s
      else
        let s := s.modEngine e fun x => { x with job := none, jobCancel := false, queue := if st = 0x0D then [] else x.queue }
        let s := ((s.jobGone r.job).tallyEngine 7 e).fixed 76 (e / 32)
        let s := if r.job.id.isNone && r.job.service = 2 && st = 0 then { s with fillDue := s.fillDue.erase ((r.job.word 3).toNat / 2 ^ 30) } else s
        let s := match r.job.id with
          | some id => s.record' c r.job (recordWords e st ((r.job.word 0).field 31 16) id r0 r1 ((s.clk - r.grantedAt) * 5 / 2) r.version)
          | none => s
        let s := if st = 0x0D then s.count TNG_CL_CNT.ABORTED c else s
        let s := if st = 0x0D ∨ st = 0x13 then s.notice (224 + e) 1 (r.job.id.getD 0) else s
        let s := match (s.cluster c).cancel, r.job.id with
          | some k, some id => if k = id then s.cancelDone c (if st = 0x0C then 0 else 1) else s
          | _, _ => s
        let s := (s.setBit TNG_CL_STAT.BUSY c (e % 8) false).set TNG_ENG_STAT.SERVICE e 0
        (s.set TNG_ENG_STAT.JOB_ID e 0).engineNext e (st = 0x0D)

/-- TNG_CQ_PTR.HEAD written (R273): the records passed are consumed, and records that waited are written. -/
def cqHeadWrite (c : Nat) (value : Word) (s : State) : State :=
  let h := value.field 11 0
  let n := (h + 4096 - s.get TNG_CQ_PTR.HEAD c) % 4096
  let s := s.modCluster c fun x => { x with fill := x.fill - n }
  (s.set TNG_CQ_PTR.HEAD c h).flushRecords c

/-- The engine of a cluster that runs a JOB_ID. -/
def State.engineOf (s : State) (c id : Nat) : Option Nat :=
  ((List.range 8).find? fun k => match s.jobRun (8 * c + k) with
    | some r => r.job.id = some id
    | none => false).map (8 * c + ·)

/-- A cancel (R275): not performed and recorded while an earlier one waits; a queued job is removed; a running one is told, a MIGRATE before its swap ends at once (R255); one granted in this
cycle is too late; any other JOB_ID is not found. -/
def tngCancelGo (c job : Nat) (s : State) : State :=
  let id := job % 2 ^ 32
  if (s.cluster c).cancel.isSome then s.refuseWrite .TNG_CANCEL_CMD c
  else
    let s := s.resultStart TNG_CANCEL_RES.VALID c
    match (s.cluster c).queue.find? fun j => j.id = some id with
    | some j => (s.endQueued c j 0x0C).cancelDone c 0
    | none =>
      match s.engineOf c id with
      | none => s.cancelDone c 2
      | some e =>
        match s.jobRun e with
        | none => s
        | some r =>
          if r.grantedAt = s.clk then s.cancelDone c 1
          else
            let s := s.modCluster c fun x => { x with cancel := some id }
            let s := (s.modEngine e fun x => { x with jobCancel := true }).modRun e fun r => { r with cancel := true }
            let s := match s.slotOfEngine e with
              | some k => if s.get RMP_MIG_SLOT0.PHASE k < 4 then s.endMig k 0x0C else s
              | none => s
            s.settleJob e

/-- An engine reset (R255, R276): its queue and staging are discarded with every access that has not left its NI; its job ends ABORTED with the write parts that left and the cause, a migration with
the hardware actions of R255. A job whose end has committed stands; an engine with none loads at once. -/
def State.resetEngine (s : State) (e cause : Nat) : State :=
  if s.engState e = 3 then s
  else
    match s.jobRun e with
    | none => s.engineNext e true
    | some r =>
      if r.outcome.isSome then s.modEngine e fun x => { x with reload := true }
      else
        let s := s.discardAcc e fun a => !a.issued || s.unsent a
        let left := (((s.cluster (e / 8)).acc.filter fun a => a.engine = e && a.write).map fun a => (a.len + 63) / 64).sum
        let done := match s.slotOfEngine e with
          | some k => ((s.mig k).map MigRun.lines).getD 0
          | none => r.lines
        let s := s.finishJob e 0x0D (done + left) cause
        let s := match s.slotOfEngine e with
          | some k => s.endMig k 0x0D
          | none => s
        let s := s.modEngine e fun x => { x with queue := [], jobCancel := false }
        s.set TNG_ENG_STAT.STATE e 2

/-- An engine is reset by the owner or taken out of service (R276). -/
def engineReset (e cause : Nat) (s : State) : State := s.resetEngine e cause

/-- The watchdog (R276): a job runs longer than WDOG_MS. -/
def engineWatchdog (e : Nat) (s : State) : State :=
  match s.jobRun e with
  | none => s
  | some r => if s.get TNG_CL_CFG.WDOG_MS (e / 8) ≠ 0 ∧ r.outcome.isNone then s.resetEngine e 2 else s

/-- An engine has loaded its program (R276, R279, R280), whose bytes the firmware partition gives: it is IDLE at the version in force, and LOADED_MASK shows it for the kernel it holds. -/
def engineLoadComplete (e : Nat) (program : List Byte) (s : State) : State :=
  if s.engState e ≠ 4 then s
  else
    let p := s.programOf e
    let v := s.versionOf (e / 8) p
    let s := { s with reloadDue := s.reloadDue.filter (· ≠ e) }
    ((s.modEngine e fun x => { x with program := p, version := v, reload := false, mem := Memory.writeBytes x.mem 0 (program.take 0x3BFC0), bad := [] }).set TNG_ENG_STAT.STATE e 0).showLoaded (e / 8)

/-- A delta image's new program (R280): one engine of a cluster at a time takes no more jobs and loads once its job has ended. -/
def programReload (e : Nat) (s : State) : State :=
  let busy := (List.range 8).any fun k => 8 * (e / 8) + k ≠ e && ((s.engine (8 * (e / 8) + k)).reload || s.engState (8 * (e / 8) + k) = 4)
  if busy ∨ s.engState e = 3 ∨ s.engState e = 4 ∨ !s.reloadDue.contains e then s
  else
    let s := s.modEngine e fun x => { x with reload := true }
    if (s.jobRun e).isNone then s.engineNext e true else s

/-! ### Meanings -/

/-- JOB_DISPATCH: R244, R258, R270, R271, R280. -/
def execJobDispatch (c : Nat) (s : State) : Host.Outcome State Fault Refusal :=
  run (decide (c < 16)) (jobDispatch c s)

/-- DM_LD: R257, R260, R261, R262, R265, R283, R284, R285. -/
def execDmLd (e : Nat) (rd : Nat) (asr : Nat) (size : Nat) (addr : Nat) (off : Nat) (s : State) : Host.Outcome State Fault Refusal :=
  run (decide (e < 128)) (dmLd e rd asr size addr off s)

/-- DM_ST: R260, R261, R262, R283, R284, R285. -/
def execDmSt (e : Nat) (rd : Nat) (asr : Nat) (size : Nat) (addr : Nat) (off : Nat) (s : State) : Host.Outcome State Fault Refusal :=
  run (decide (e < 128)) (dmSt e rd asr size addr off s)

/-- DM_COPY: R260, R261, R262, R265, R285. -/
def execDmCopy (e : Nat) (rd : Nat) (asr : Nat) (size : Nat) (src : Nat) (dst : Nat) (s : State) : Host.Outcome State Fault Refusal :=
  run (decide (e < 128)) (dmCopy e rd asr size src dst s)

/-- DM_FILL: R260, R261, R262. -/
def execDmFill (e : Nat) (rd : Nat) (asr : Nat) (size : Nat) (addr : Nat) (pattern : Word) (s : State) : Host.Outcome State Fault Refusal :=
  run (decide (e < 128)) (dmFill e rd asr size addr pattern s)

/-- DM_AMO: R260, R262. -/
def execDmAmo (e : Nat) (rd : Nat) (asr : Nat) (f : Nat) (addr : Nat) (operand : Word) (s : State) : Host.Outcome State Fault Refusal :=
  run (decide (e < 128)) (dmAmo e rd asr f addr operand s)

/-- DM_WAIT: R262, R263, R287. -/
def execDmWait (e : Nat) (rd : Nat) (ticket : Option Nat) (s : State) : Host.Outcome State Fault Refusal :=
  run (decide (e < 128)) (dmWait e rd ticket s)

/-- DM_FENCE: R262, R286, R287. -/
def execDmFence (e : Nat) (scope : Nat) (s : State) : Host.Outcome State Fault Refusal :=
  run (decide (e < 128)) (dmFence e scope s)

/-- DM_CRC: R262. -/
def execDmCrc (e : Nat) (rd : Nat) (off : Nat) (length : Nat) (s : State) : Host.Outcome State Fault Refusal :=
  run (decide (e < 128)) (dmCrc e rd off length s)

/-- JOB_DONE: R262, R274. -/
def execJobDone (e : Nat) (status : Nat) (off : Nat) (s : State) : Host.Outcome State Fault Refusal :=
  run (decide (e < 128)) (jobDone e status off s)

/-- JOB_SUBMIT: R262, R268, R269. -/
def execJobSubmit (e : Nat) (rd : Nat) (off : Nat) (target : Nat) (s : State) : Host.Outcome State Fault Refusal :=
  run (decide (e < 128)) (jobSubmit e rd off target s)

/-- COPROCESSOR_COMMIT: R262, R264, R283. -/
def execCoprocessorCommit (e : Nat) (s : State) : Host.Outcome State Fault Refusal :=
  run (decide (e < 128)) (coprocessorCommit e s)

/-- SPECULATIVE_READ_DEFER: R265. -/
def execSpeculativeReadDefer (e : Nat) (ticket : Nat) (s : State) : Host.Outcome State Fault Refusal :=
  run (decide (e < 128)) (speculativeReadDefer e ticket s)

/-- COPROCESSOR_SQUASH: R266, R287. -/
def execCoprocessorSquash (e : Nat) (kept : Nat) (s : State) : Host.Outcome State Fault Refusal :=
  run (decide (e < 128)) (coprocessorSquash e kept s)

/-- FAR_RESPONSE: R263, R267, R282. -/
def execFarResponse (e : Nat) (tag : Nat) (status : Nat) (slag : Nat) (data : List Byte) (s : State) : Host.Outcome State Fault Refusal :=
  run (decide (e < 128)) (farResponse e tag status slag data s)

/-- TNG_SUB_GO: R268, R269, R281. -/
def execTngSubGo (c : Nat) (s : State) : Host.Outcome State Fault Refusal :=
  run (decide (c < 16)) (tngSubGo c s)

/-- DEVICE_JOB_SUBMIT: R268. -/
def execDeviceJobSubmit (c : Nat) (fill : Bool) (arg : Nat) (s : State) : Host.Outcome State Fault Refusal :=
  run (decide (c < 16)) (deviceJobSubmit c fill arg s)

/-- JOB_COPY: R272. -/
def execJobCopy (e : Nat) (s : State) : Host.Outcome State Fault Refusal :=
  run (decide (e < 128)) (jobCopy e s)

/-- JOB_FILL: R272. -/
def execJobFill (e : Nat) (s : State) : Host.Outcome State Fault Refusal :=
  run (decide (e < 128)) (jobFill e s)

/-- JOB_CRC: R272. -/
def execJobCrc (e : Nat) (s : State) : Host.Outcome State Fault Refusal :=
  run (decide (e < 128)) (jobCrc e s)

/-- JOB_COMPARE: R272. -/
def execJobCompare (e : Nat) (s : State) : Host.Outcome State Fault Refusal :=
  run (decide (e < 128)) (jobCompare e s)

/-- DIR_SWEEP: R233, R272. -/
def execDirSweep (e : Nat) (s : State) : Host.Outcome State Fault Refusal :=
  run (decide (e < 128)) (dirSweep e s)

/-- KERNEL_JOB: R272. -/
def execKernelJob (e : Nat) (c : CoreStep) (s : State) : Host.Outcome State Fault Refusal :=
  run (decide (e < 128)) (kernelJob e c s)

/-- KERNEL_FAULT: R257, R261, R274, R278. -/
def execKernelFault (e : Nat) (mcause : Nat) (mtval : Nat) (s : State) : Host.Outcome State Fault Refusal :=
  run (decide (e < 128)) (kernelFault e mcause mtval s)

/-- COMPLETION_RECORD_WRITE: R273, R274, R275, R286, R288, R345, R359. -/
def execCompletionRecordWrite (e : Nat) (s : State) : Host.Outcome State Fault Refusal :=
  run (decide (e < 128)) (completionRecordWrite e s)

/-- CQ_HEAD_WRITE: R273, R281. -/
def execCqHeadWrite (c : Nat) (value : Word) (s : State) : Host.Outcome State Fault Refusal :=
  run (decide (c < 16)) (cqHeadWrite c value s)

/-- TNG_CANCEL_GO: R245, R255, R275, R281. -/
def execTngCancelGo (c : Nat) (job : Nat) (s : State) : Host.Outcome State Fault Refusal :=
  run (decide (c < 16)) (tngCancelGo c job s)

/-- ENGINE_RESET: R245, R255, R276, R278, R281. -/
def execEngineReset (e : Nat) (cause : Nat) (s : State) : Host.Outcome State Fault Refusal :=
  run (decide (e < 128)) (engineReset e cause s)

/-- ENGINE_WATCHDOG: R276. -/
def execEngineWatchdog (e : Nat) (s : State) : Host.Outcome State Fault Refusal :=
  run (decide (e < 128)) (engineWatchdog e s)

/-- ENGINE_LOAD_COMPLETE: R276, R279, R280. -/
def execEngineLoadComplete (e : Nat) (program : List Byte) (s : State) : Host.Outcome State Fault Refusal :=
  run (decide (e < 128)) (engineLoadComplete e program s)

/-- PROGRAM_RELOAD: R280. -/
def execProgramReload (e : Nat) (s : State) : Host.Outcome State Fault Refusal :=
  run (decide (e < 128)) (programReload e s)

end Sys2Proof.Machine
end

