-- ==== Sys2Proof/Machine/Counters.lean ====
section
/-! DEFINITION. Counter snapshots, port bandwidth, the Velair trace and the TELEM service (R414 to R419). -/

namespace Sys2Proof.Machine

/-! ### Snapshots (R415) -/

/-- The counter groups that a SNAP or CLR of unit `u` acts on: a region's own, or the chip's with those of every unfenced region; a fenced region's counters hold. -/
def State.counterUnits (s : State) (u : Nat) : List Nat :=
  (if u = 4 then [4, 0, 1, 2, 3] else [u]).filter fun r => r = 4 || s.regionState r ≠ 1

/-- CNT_CTL.SNAP (R415): every counter of each group is copied at once, with the group's result. -/
def cntSnap (u : Nat) (s : State) : State :=
  s.each (s.counterUnits u) fun g t =>
    let t := t.resultStart CNT_SNAP_RES.VALID g
    let t := t.each (List.range 80) fun k t => t.setReg .CNT_SNAP (80 * g + k) (t.reg .CNT_VAL (80 * g + k))
    t.resultDone CNT_SNAP_RES.SEQ CNT_SNAP_RES.VALID g

/-- CNT_CTL.CLR (R415): every counter and SAT bit of each group is 0. -/
def cntClr (u : Nat) (s : State) : State :=
  s.each (s.counterUnits u) fun g t => t.each (List.range 80) fun k t => t.setReg .CNT_VAL (80 * g + k) 0

/-! ### Port bandwidth (R416) -/

/-- CNT_CTL.CLR_PEAK (R416). -/
def clrPeak (s : State) : State := s.each (List.range 128) fun p t => (t.set CNT_BW2.PEAK_IN p 0).set CNT_BW2.PEAK_OUT p 0

/-- A window ends at a port (R416): its byte counts, the highest rates, SEQ + 1 and VALID in one step. -/
def bwWindowEnd (p inB outB : Nat) (s : State) : State :=
  let win := max 1 (s.get CNT_BW_CFG.WIN_US 0)
  let peak := fun (old b : Nat) => min (2 ^ 24 - 1) (max old (b / win))
  let s := (s.set CNT_BW0.IN_B p (min inB (2 ^ 48 - 1))).set CNT_BW1.OUT_B p (min outB (2 ^ 48 - 1))
  let s := s.set CNT_BW2.PEAK_IN p (peak (s.get CNT_BW2.PEAK_IN p) inB)
  let s := s.set CNT_BW2.PEAK_OUT p (peak (s.get CNT_BW2.PEAK_OUT p) outB)
  s.resultDone CNT_BW3.SEQ CNT_BW3.VALID p

/-! ### The Velair trace (R417, R418) -/

/-- The 16 bytes of an Anvil header (R142). -/
def anvilHeader (p : Pkt) : List Byte :=
  toBytes 16 (p.dst % 256 + p.src % 256 * 2 ^ 8 + p.stream % 2 ^ 16 * 2 ^ 16 + p.cls % 16 * 2 ^ 32 + (p.order % 2 + 2 * bit p.dateline) * 2 ^ 36 + p.len % 8 * 2 ^ 38 +
    p.hopIdx % 16 * 2 ^ 41 + p.route % 2 ^ 16 * 2 ^ 45 + p.rlen % 16 * 2 ^ 61 + p.opc % 256 * 2 ^ 65 + p.slag % 16 * 2 ^ 73 + bit p.mirror * 2 ^ 77 +
    bit p.poison * 2 ^ 78 + bit p.trace * 2 ^ 79 + p.age % 256 * 2 ^ 80 + p.param % 2 ^ 32 * 2 ^ 96)

/-- Bytes cut or filled with zeros to a length. -/
def fitBytes (n : Nat) (l : List Byte) : List Byte := (l ++ List.replicate n 0).take n

/-- The 64 bytes of a Velair record (R417). -/
def State.velair (s : State) (d : TraceDue) : List Byte :=
  let dropped := Tbl.rd (fun _ => false) s.trcDrop (d.rt / 16)
  let head := match d.fab with
    | some f => fabHeader f
    | none => anvilHeader d.pkt
  toBytes 12 d.time ++ toBytes 1 s.chipId ++ toBytes 1 d.rt ++ toBytes 1 (d.kind % 4 + 4 * bit dropped) ++ toBytes 1 (d.input % 8 + d.output % 8 * 16) ++
    head ++ toBytes 4 s.trcSeq ++ List.replicate 4 0 ++ fitBytes 24 d.pkt.body

/-- How many records the destination holds: the trace partition, or the ring of the analysis port. -/
def State.traceCapacity (s : State) : Nat :=
  if s.flag CNT_TRC_CFG.DEST 0 then 2 ^ s.get CNT_TRC_RING_SZ.LOG2 0 / 64 else s.get MGT_HBM_PART.TRACE_256M 0 * 2 ^ 22

/-- A record is dropped (R418): counted, and marked in the region's next record. -/
def State.dropRecord (s : State) (r : Nat) : State :=
  { s with trcDrop := Tbl.wr (fun _ => false) s.trcDrop r true }.count CNT_TRC_DROP.DROP 0

/-- A record is written (R418): at its place in the partition, or into the partner's ring; a buffer that fills with WRAP = 0 shows FULL. -/
def State.putVelair (s : State) (rt n : Nat) (bytes : List Byte) : State :=
  let cap := s.traceCapacity
  let at' := 64 * (n % max 1 cap)
  let s := { s with trcSeq := (s.trcSeq + 1) % 2 ^ 32, trcDrop := Tbl.wr (fun _ => false) s.trcDrop (rt / 16) false }
  let s := s.set CNT_TRC_STAT.WREC 0 (n + 1)
  let s := if !s.flag CNT_TRC_CFG.WRAP 0 ∧ n + 1 = cap then s.set CNT_TRC_STAT.FULL 0 1 else s
  if s.flag CNT_TRC_CFG.DEST 0 then s.emit (.mirrorWrite (s.get CNT_TRC_CFG.PORT 0) (s.get CNT_TRC_RING.BASE 0 * 4096 + at') bytes)
  else (s.writeHbm (s.traceBase + at') bytes).hbmCount (s.traceBase + at') true

/-- TRACE_RECORD (R417, R418): the oldest record taken is written while capture runs, or dropped without credit, with the buffer full and WRAP = 0, or bound for a fenced channel. -/
def traceRecord (credit : Bool) (s : State) : State :=
  match s.trcDue with
  | [] => s
  | d :: rest =>
    let s := { s with trcDue := rest }
    if !s.flag CNT_TRC_STAT.RUN 0 then s
    else
      let n := s.get CNT_TRC_STAT.WREC 0
      let cap := s.traceCapacity
      let full := !s.flag CNT_TRC_CFG.WRAP 0 && decide (cap ≤ n)
      let shut := !s.flag CNT_TRC_CFG.DEST 0 && !s.live (hbmChannel (s.traceBase + 64 * (n % max 1 cap)) / 8)
      if !credit || full || shut then s.dropRecord (d.rt / 16)
      else s.putVelair d.rt n (s.velair d)

/-- CNT_TRC_CTL.START (R418): not performed with DEST = 0 and no trace partition; otherwise capture runs, FULL clears and WREC starts at 0. -/
def start (s : State) : State :=
  if !s.flag CNT_TRC_CFG.DEST 0 ∧ s.get MGT_HBM_PART.TRACE_256M 0 = 0 then s.refuseWrite .CNT_TRC_CTL 0
  else ((s.set CNT_TRC_STAT.RUN 0 1).set CNT_TRC_STAT.FULL 0 0).set CNT_TRC_STAT.WREC 0 0

/-- CNT_TRC_CTL.STOP. -/
def stop (s : State) : State := s.set CNT_TRC_STAT.RUN 0 0

/-! ### The TELEM service (R419) -/

/-- The words of some registers as bytes. -/
def State.regBytes (s : State) (l : List (RegKind × Nat)) : List Byte := l.flatMap fun x => toBytes 8 (s.reg x.1 x.2).toNat

/-- The body of a snapshot: the selected registers in address order, zeros for a fenced region. -/
def State.snapshotBody (s : State) (src : Nat) : List Byte :=
  (if bitOf src 0 then s.regBytes ((List.range 32).map fun k => (.CNT_VAL, 320 + k)) else []) ++
  (if bitOf src 2 then s.regBytes ((List.range 128).flatMap fun p => [(.CNT_BW0, p), (.CNT_BW1, p), (.CNT_BW2, p), (.CNT_BW3, p)]) else []) ++
  (if bitOf src 3 then s.regBytes ((List.range 96).map fun c => (.PWR_TEL_SMP, c)) else []) ++
  (if bitOf src 1 then (List.range 4).flatMap fun r =>
      if s.regionState r = 1 then List.replicate 640 0 else s.regBytes ((List.range 80).map fun k => (.CNT_VAL, 80 * r + k))
   else [])

/-- The running TELEM job of an engine that has nothing outstanding. -/
def State.telemRun (s : State) (e : Nat) : Option JobRun :=
  match s.jobRun e with
  | some r => if r.job.service = 7 ∧ r.outcome.isNone ∧ !(s.cluster (e / 8)).acc.any (fun a => a.engine = e) then some r else none
  | none => none

/-- All the snapshots that P1 asks for have been written. -/
def telemDone (r : JobRun) : Bool := decide ((r.job.word 5).toNat ≠ 0) && decide ((r.job.word 5).toNat ≤ r.snaps)

/-- TELEM (R419): the job ends with a failure it met, once its snapshots are written, or with its cancel; RESULT0 counts the snapshots. -/
def telem (e : Nat) (s : State) : State :=
  match s.telemRun e with
  | none => s
  | some r =>
    if r.fail ≠ 0 then s.finishJob e r.fail r.snaps 0
    else if telemDone r then s.finishJob e 0 r.snaps 0
    else if r.cancel then s.finishJob e 0x0C r.snaps 0
    else s

/-- TELEM_SNAPSHOT (R419): a 64-byte header and the selected registers, padded to 64 bytes, written at the ring's offset, or at its base where it would cross the end. -/
def telemSnapshot (e : Nat) (s : State) : State :=
  match s.telemRun e with
  | none => s
  | some r =>
    if r.fail ≠ 0 ∨ r.cancel ∨ telemDone r then telem e s
    else
      let p0 := r.job.word 4
      let body := s.snapshotBody (p0.field 23 20)
      let head := toBytes 12 s.time ++ toBytes 4 r.snaps ++ toBytes 4 body.length ++ List.replicate 44 0
      let bytes := head ++ fitBytes ((body.length + 63) / 64 * 64) body
      let off := if 2 ^ p0.field 28 24 < r.ring + bytes.length then 0 else r.ring
      let dst := (r.job.word 3).toNat + off
      if asdSpace (r.job.word 7) = 2 ∧ !s.inScratch e dst bytes.length then s.finishJob e 0x07 r.snaps 0
      else
        let s := s.modRun e fun r => { r with snaps := r.snaps + 1, ring := off + bytes.length }
        let line := fun (i : Nat) => farAcc e (svcTag (s.engine e).gen i 5) (r.job.word 7) (dst + 64 * i) 64 true ((bytes.drop (64 * i)).take 64) false false
        (s.addAcc (e / 8) ((List.range (bytes.length / 64)).map line)).pump (e / 8)

/-! ### Meanings -/

/-- TELEM: R272, R419. -/
def execTelem (e : Nat) (s : State) : Host.Outcome State Fault Refusal :=
  run (decide (e < 128)) (telem e s)

/-- TELEM_SNAPSHOT: R419. -/
def execTelemSnapshot (e : Nat) (s : State) : Host.Outcome State Fault Refusal :=
  run (decide (e < 128)) (telemSnapshot e s)

/-- CNT_SNAP: R357, R415, R422. -/
def execCntSnap (u : Nat) (s : State) : Host.Outcome State Fault Refusal :=
  run (decide (u < 5)) (cntSnap u s)

/-- CNT_CLR: R415, R422. -/
def execCntClr (u : Nat) (s : State) : Host.Outcome State Fault Refusal :=
  run (decide (u < 5)) (cntClr u s)

/-- CLR_PEAK: R416, R422. -/
def execClrPeak (s : State) : Host.Outcome State Fault Refusal :=
  .next (clrPeak s)

/-- BW_WINDOW_END: R357, R416. -/
def execBwWindowEnd (p : Nat) (inB : Nat) (outB : Nat) (s : State) : Host.Outcome State Fault Refusal :=
  run (decide (p < 128)) (bwWindowEnd p inB outB s)

/-- TRACE_RECORD: R417, R418. -/
def execTraceRecord (credit : Bool) (s : State) : Host.Outcome State Fault Refusal :=
  .next (traceRecord credit s)

/-- START: R418, R422. -/
def execStart (s : State) : Host.Outcome State Fault Refusal :=
  .next (start s)

/-- STOP: R418, R422. -/
def execStop (s : State) : Host.Outcome State Fault Refusal :=
  .next (stop s)

end Sys2Proof.Machine
end

