-- ==== Sys2Proof/Machine/Flash.lean ====
section
/-! DEFINITION. The two flash devices, the eFuse, and the verification of an image (R320 to R326, R331, R332, R451). -/

namespace Sys2Proof.Machine

/-! ### Flash (R320) -/

/-- What a byte of flash that nothing has programmed reads as (log entry 33). -/
def erasedByte (_ : Nat) : Byte := 0xFF

/-- The flash device of chip select 0 or 1. -/
def State.flash (s : State) (cs : Nat) : List Host.Cell := if cs = 0 then s.flashA else s.flashB

/-- The flash device of chip select 0 or 1 replaced. -/
def State.setFlash (s : State) (cs : Nat) (m : List Host.Cell) : State := if cs = 0 then { s with flashA := m } else { s with flashB := m }

/-- Consecutive bytes of a flash device. -/
def State.flashBytes (s : State) (cs a n : Nat) : List Byte := (List.range n).map fun i => Tbl.rd erasedByte (s.flash cs) (a + i)

/-- Consecutive bytes of a flash device as a number, least-significant byte first. -/
def State.flashNum (s : State) (cs a n : Nat) : Nat := ofBytes (s.flashBytes cs a n)

/-- Bytes stored in a flash memory. -/
def programBytes (m : List Host.Cell) (a : Nat) : List Byte → List Host.Cell
  | [] => m
  | b :: bs => programBytes (Tbl.wr erasedByte m a b) (a + 1) bs

/-- Bytes programmed into a flash device. -/
def State.program (s : State) (cs a : Nat) (bs : List Byte) : State := s.setFlash cs (programBytes (s.flash cs) a bs)

/-- A range of a flash device erased. -/
def State.eraseFlash (s : State) (cs a n : Nat) : State :=
  s.setFlash cs ((s.flash cs).filter fun c => !(decide (a ≤ c.1) && decide (c.1 < a + n)))

/-- Where the slot record stands. -/
def recordAt : Nat := 0x3FFF000
/-- Where the key record stands. -/
def keyAt : Nat := 0x4000000
/-- Where the commit record stands. -/
def commitAt : Nat := 0x4001000

/-! ### The eFuse (R331, R332) -/

/-- The hash of root slot `n`. -/
def State.rootHash (s : State) (n : Nat) : List Byte := Tbl.rd (fun _ => List.replicate 48 0) s.fuses.hash n

/-- The valid word of root slot `n`. -/
def State.validWord (s : State) (n : Nat) : Nat := Tbl.rd (fun _ => 0) s.fuses.valid n

/-- The revocation word of root slot `n`. -/
def State.revWord (s : State) (n : Nat) : Nat := Tbl.rd (fun _ => 0) s.fuses.rev n

/-- A root slot is valid when its valid word reads exactly 0xFF. -/
def State.rootValid (s : State) (n : Nat) : Bool := s.validWord n = 0xFF

/-- A root slot is revoked when its revocation word reads anything but 0. -/
def State.rootRevoked (s : State) (n : Nat) : Bool := s.revWord n ≠ 0

/-- A root slot is usable when it is valid and not revoked. -/
def State.rootUsable (s : State) (n : Nat) : Bool := s.rootValid n && !s.rootRevoked n

/-- A root slot is BLANK when no fuse of its hash or valid word is blown. -/
def State.rootBlank (s : State) (n : Nat) : Bool := s.validWord n = 0 && (s.rootHash n).all (· = 0)

/-- The SVN floor: the consecutive blown fuses from fuse 0. -/
def State.svnFloor (s : State) : Nat := ((List.range 64).takeWhile (bitOf s.fuses.svn)).length

/-- What the registers show of the eFuse. -/
def State.showFuses (s : State) : State :=
  let s := s.each (List.range 4) fun n t =>
    let t := t.set KEY_ROOT.VALID n (bit (t.rootValid n))
    let t := t.set KEY_ROOT.REVOKED n (bit (t.rootRevoked n))
    let t := t.set KEY_ROOT.BLANK n (bit (t.rootBlank n))
    let t := t.set KEY_ROOT.VALID_WORD n (t.validWord n)
    let t := t.set KEY_ROOT.REV_WORD n (t.revWord n)
    let t := t.setBit KEY_STAT.ROOT_OK 0 n (t.rootUsable n)
    let t := t.setBit KEY_STAT.ROOT_REV 0 n (t.rootRevoked n)
    t.each (List.range 6) fun k u => u.setReg .KEY_ROOT_HASH (6 * n + k) (word (ofBytes (((u.rootHash n).drop (8 * k)).take 8)))
  s.set KEY_STAT.SVN_FLOOR 0 s.svnFloor

/-! ### Slot records (R326) -/

/-- The bytes of a slot's header and section table. -/
def State.headerBytes (s : State) (sl : Nat) : List Byte := s.flashBytes sl 0 (0x40 + 64 * s.flashNum sl 7 1)

/-- A slot's record is valid: MAGIC, CRC and the hash of the slot's header and table. -/
def State.recordValid (s : State) (sl : Nat) : Bool :=
  s.flashNum sl recordAt 4 = 0x544C5344 && s.flashNum sl (recordAt + 64) 4 = crc32c (s.flashBytes sl recordAt 64) &&
    s.flashBytes sl (recordAt + 16) 48 = Config.sha384 (s.headerBytes sl)

/-- The SEQ of a slot's record; 0 if it is not valid (R340). -/
def State.slotSeq (s : State) (sl : Nat) : Nat := if s.recordValid sl then s.flashNum sl (recordAt + 4) 4 else 0

/-- The boot slot: the valid record with the higher SEQ, slot A when equal. -/
def State.bootSlot (s : State) : Option Nat :=
  match s.recordValid 0, s.recordValid 1 with
  | true, true => some (if s.slotSeq 0 < s.slotSeq 1 then 1 else 0)
  | true, false => some 0
  | false, true => some 1
  | false, false => none

/-- A slot is marked CHECKED (R328). -/
def State.slotChecked (s : State) (sl : Nat) : Option ImgContent := Tbl.rd (fun _ => none) s.checked sl

/-- What MGT_IMG_STAT and MGT_IMG_SEQ show of the slots (R330, R340). -/
def State.showSlots (s : State) : State :=
  let s := s.set MGT_IMG_SEQ.SEQ_A 0 (s.slotSeq 0)
  let s := s.set MGT_IMG_SEQ.SEQ_B 0 (s.slotSeq 1)
  let s := s.set MGT_IMG_STAT.SLOT_A 0 (bit (s.recordValid 0) + 2 * bit (s.slotChecked 0).isSome)
  let s := s.set MGT_IMG_STAT.SLOT_B 0 (bit (s.recordValid 1) + 2 * bit (s.slotChecked 1).isSome)
  match s.bootSlot with
  | some b =>
    let s := s.set MGT_IMG_STAT.BOOT_SLOT 0 b
    s.set MGT_IMG_STAT.DIVERGED 0 (bit (decide (s.get MGT_IMG_STAT.RUN_VER 0 ≠ s.flashNum b (recordAt + 8) 4)))
  | none => s

/-! ### The image format (R321 to R323) -/

/-- The length of the image in a slot. -/
def State.imgLen (s : State) (sl : Nat) : Nat := s.flashNum sl 0x18 4

/-- The sections of the image in a slot. -/
def State.nsec (s : State) (sl : Nat) : Nat := s.flashNum sl 7 1

/-- The image in a slot is a delta. -/
def State.isDelta (s : State) (sl : Nat) : Bool := s.flashNum sl 6 1 = 1

/-- The ID of section-table entry `i`. -/
def State.secId (s : State) (sl i : Nat) : Nat := s.flashNum sl (0x40 + 64 * i) 1
/-- The OFFSET of section-table entry `i`. -/
def State.secOff (s : State) (sl i : Nat) : Nat := s.flashNum sl (0x40 + 64 * i + 4) 4
/-- The LENGTH of section-table entry `i`. -/
def State.secLen (s : State) (sl i : Nat) : Nat := s.flashNum sl (0x40 + 64 * i + 8) 4

/-- Section-table entry `i` breaks R322. -/
def State.secBad (s : State) (sl i : Nat) : Bool :=
  let id := s.secId sl i
  let a := s.secOff sl i
  let n := s.secLen sl i
  id = 0 || decide (13 < id) || a % 64 ≠ 0 || decide (a < 0x40 + 64 * s.nsec sl) || decide (s.imgLen sl < a + n + 256) ||
    (s.isDelta sl && (id = 1 || id = 2)) ||
    (List.range i).any fun j =>
      s.secId sl j = id || (decide (s.secOff sl j < a + n) && decide (a < s.secOff sl j + s.secLen sl j))

/-- The byte offset of the first offending header field or section-table entry (R321, R322, R451). -/
def State.headerBad (s : State) (sl : Nat) : Option Nat :=
  if s.flashNum sl 0 4 ≠ 0x544D5244 then some 0
  else if s.flashNum sl 4 2 ≠ 1 then some 4
  else if 1 < s.flashNum sl 6 1 then some 6
  else if s.nsec sl = 0 ∨ 13 < s.nsec sl ∨ (!s.isDelta sl ∧ s.nsec sl ≠ 13) then some 7
  else if 67104768 < s.imgLen sl ∨ s.imgLen sl < 0x140 + 64 * s.nsec sl then some 0x18
  else ((List.range (s.nsec sl)).find? (s.secBad sl)).map fun i => 0x40 + 64 * i

/-- A signing key of the key record in force (R333). -/
def State.signingKey (s : State) (sel : Nat) : Option (List Byte) :=
  let k := s.get KEY_STAT.REC_SLOT 0
  if !s.flag KEY_STAT.REC_VALID 0 then none
  else
    ((List.range (min 4 (s.flashNum k (keyAt + 7) 1))).find? fun j => s.flashNum k (keyAt + 0x10 + 112 * j) 1 = sel).map fun j =>
      s.flashBytes k (keyAt + 0x20 + 112 * j) 96

/-- The root slot and the public key that KEY_SEL names (R323): none is KEY_UNKNOWN. -/
def State.signer (s : State) (sl : Nat) : Option (Nat × List Byte) :=
  let block := s.imgLen sl - 256
  let sel := s.flashNum sl block 1
  if sel < 4 then (s.signingKey sel).map fun k => (s.get KEY_STAT.SIGNER 0, k)
  else if 0x10 ≤ sel ∧ sel < 0x14 ∧ s.rootValid (sel - 0x10) then some (sel - 0x10, s.flashBytes sl (block + 32) 96)
  else none

/-- The signature of an image (R323, R325): for a root the SHA-384 of the embedded key equals the fused hash. -/
def State.signatureOk (s : State) (sl root : Nat) (key : List Byte) : Bool :=
  let block := s.imgLen sl - 256
  (decide (s.flashNum sl block 1 < 4) || decide (Config.sha384 key = s.rootHash root)) &&
    Config.ecdsaP384 key (Config.sha384 (s.headerBytes sl)) (s.flashBytes sl (block + 128) 96)

/-- The first section, in the order of the table, whose hash differs (R322, R325). -/
def State.hashBad (s : State) (sl : Nat) : Option Nat :=
  ((List.range (s.nsec sl)).find? fun i =>
    Config.sha384 (s.flashBytes sl (s.secOff sl i) (s.secLen sl i)) ≠ s.flashBytes sl (0x40 + 64 * i + 16) 48).map fun i => s.secId sl i

/-- The verification of the image in a slot (R325, R451): the first check that fails, as status, SECTION and DETAIL; `rule` is the first image rule broken, `boot` whether a delta may
not be offered. -/
def State.verify (s : State) (sl : Nat) (boot : Bool) (rule : Option RuleItem) : Nat × Nat × Nat :=
  match s.headerBad sl with
  | some o => (0x01, 0, o)
  | none =>
    match s.signer sl with
    | none => (0x02, 0, 0)
    | some (root, key) =>
      if s.rootRevoked root then (0x03, 0, 0)
      else if !s.signatureOk sl root key then (0x04, 0, 0)
      else if s.flashNum sl 0x10 1 < s.svnFloor then (0x05, 0, 0)
      else if s.flashNum sl 0x11 1 % 2 = 0 then (0x06, 0, 0)
      else if s.flashNum sl 0x13 1 % 4 ≠ s.get MGT_CHIP_INFO.ROLE 0 then (0x07, 0, 0)
      else
        match s.hashBad sl, rule with
        | some id, _ => (0x08, id, 0)
        | none, some r => (0x09, r.sec, r.item)
        | none, none => if s.isDelta sl ∧ (boot ∨ s.flashNum sl 0x0C 4 ≠ s.get MGT_IMG_STAT.RUN_VER 0) then (0x0A, 0, 0) else (0, 0, 0)

end Sys2Proof.Machine
end

