-- ==== Sys2Proof/Machine/Keys.lean ====
section
/-! DEFINITION. The key store and the random generator (R331 to R338, R341). -/

namespace Sys2Proof.Machine

/-! ### Key records (R333, R334) -/

/-- The CRC of the key record in a key slot is correct. -/
def State.keyRecordOk (s : State) (k : Nat) : Bool := s.flashNum k (keyAt + 0xFFC) 4 = crc32c (s.flashBytes k keyAt 0xFFC)

/-- The commit record in a key slot is correct. -/
def State.commitOk (s : State) (k : Nat) : Bool :=
  s.flashNum k commitAt 4 = 0x4D434B44 && s.flashNum k (commitAt + 12) 4 = crc32c (s.flashBytes k commitAt 12)

/-- The GEN of a key slot's commit record. -/
def State.genOf (s : State) (k : Nat) : Nat := s.flashNum k (commitAt + 4) 4

/-- A key slot may be taken at boot: its commit record is correct and matches the CRC of its correct key record. -/
def State.keyQualifies (s : State) (k : Nat) : Bool :=
  s.commitOk k && s.flashNum k (commitAt + 8) 4 = s.flashNum k (keyAt + 0xFFC) 4 && s.keyRecordOk k

/-- The key slot that boot takes: the higher GEN, slot 0 when equal. -/
def State.chooseKey (s : State) : Option Nat :=
  match s.keyQualifies 0, s.keyQualifies 1 with
  | true, true => some (if s.genOf 0 < s.genOf 1 then 1 else 0)
  | true, false => some 0
  | false, true => some 1
  | false, false => none

/-- Bytes of a key record. -/
def recBytes (r : List Byte) (a n : Nat) : List Byte := (r.drop a).take n

/-- The checks of a key record against the fuses (R334), as KEY_RES statuses: the root slot usable, the root key's hash, the signature. -/
def State.rootStatus (s : State) (r : List Byte) : Nat :=
  let n := ofBytes (recBytes r 6 1)
  if 4 ≤ n then 2
  else if s.rootRevoked n then 3
  else if !s.rootValid n then 2
  else if Config.sha384 (recBytes r 0xC30 96) ≠ s.rootHash n then 4
  else if !Config.ecdsaP384 (recBytes r 0xC30 96) (Config.sha384 (recBytes r 0 0xC90)) (recBytes r 0xC90 96) then 4
  else 0

/-- A key record has the form of R333. -/
def recFormed (r : List Byte) : Bool :=
  let n := ofBytes (recBytes r 7 1)
  ofBytes (recBytes r 0 4) = 0x43524B44 && ofBytes (recBytes r 4 2) = 1 && decide (n ≤ 4) && decide (ofBytes (recBytes r 8 2) ≤ 2560) &&
    (List.range n).all fun j => decide (ofBytes (recBytes r (0x10 + 112 * j) 1) < 4)

/-- What KEY_STAT and KEY_ID_PUB show of the identity keys (R341): the pending key, else the one in force. -/
def State.showId (s : State) : State :=
  let s := s.set KEY_STAT.ID_PEND 0 (bit s.pendingId.isSome)
  let pub := match s.pendingId with
    | some k => Config.p384Public k
    | none => match s.idKey with
      | some k => Config.p384Public k
      | none => List.replicate 96 0
  s.each (List.range 12) fun k t => t.setReg .KEY_ID_PUB k (word (ofBytes ((pub.drop (8 * k)).take 8)))

/-- The key record of a key slot is in force. -/
def State.recordInForce (s : State) (k : Nat) : State :=
  let key := keyUnwrap (s.flashBytes k (keyAt + 0xCF0) 56)
  let s := s.set KEY_STAT.REC_VALID 0 1
  let s := s.set KEY_STAT.REC_SLOT 0 k
  let s := s.set KEY_STAT.SIGNER 0 (s.flashNum k (keyAt + 6) 1)
  let s := s.set KEY_STAT.GEN 0 (s.genOf k)
  let s := s.set KEY_STAT.ID_VALID 0 (bit key.isSome)
  { s with idKey := key }.showId

/-- Boot takes a key record (R334): the chosen slot is checked, and where it fails or there is none no record is in force and event 506 is raised. -/
def State.bootKeys (s : State) : State :=
  match s.chooseKey with
  | none => s.notice 506 1 0
  | some k =>
    let s := { s with bootKey := some k }
    if s.rootStatus (s.flashBytes k keyAt 4096) = 0 then s.recordInForce k else s.notice 506 1 0

/-! ### Key commands (R328, R335) -/

/-- A key command starts, or is recorded while an image or key command runs. -/
def State.keyCommand (s : State) (r : KeyRun) : State :=
  if s.imgRun.isSome || s.keyRun.isSome then s.refuseWrite .KEY_CMD 0
  else { s.resultStart KEY_RES.VALID 0 with keyRun := some r }

/-- The first `n` bytes of MGT_IMG_BUF. -/
def State.bufBytes (s : State) (n : Nat) : List Byte := ((List.range 512).flatMap fun k => toBytes 8 (s.reg .MGT_IMG_BUF k).toNat).take n

/-- GEN_ID (R335, R338): NOT_READY while the TRNG is not ready; else 384 bits of its output make the pending identity key. -/
def keyGenId (s : State) : State :=
  if s.flag KEY_TRNG_STAT.READY 0 then
    let key := ((List.range 6).map fun k => (Config.trngOut (s.freeCtr + k)).toNat * 2 ^ (64 * k)).sum
    let t := s.keyCommand ⟨1, 0, 0, [], key, 0⟩
    if t.keyRun = s.keyRun then t else { t with freeCtr := s.freeCtr + 6 }
  else s.keyCommand ⟨1, 0, 0, [], 0, 1⟩

/-- The key record that a ROTATE programs (R335): MGT_IMG_BUF with the wrapped identity key and its CRC. -/
def sealRecord (r : List Byte) (key : Nat) : List Byte :=
  let body := recBytes r 0 0xCF0 ++ keyWrap key ++ recBytes r 0xD28 (0xFFC - 0xD28)
  body ++ toBytes 4 (crc32c body)

/-- ROTATE (R334, R335): BAD_RECORD, ROOT_REVOKED, BAD_SIG, or FLASH_ERR where the record does not read back. -/
def keyRotate (readBackOk : Bool) (s : State) : State :=
  let r := s.bufBytes 4096
  match s.pendingId.or s.idKey with
  | none => s.keyCommand ⟨2, 0, 0, [], 0, 2⟩
  | some key =>
    let st := if !recFormed r ∨ recBytes r 0x1D0 96 ≠ Config.p384Public key then 2 else s.rootStatus r
    let st := if st = 0 ∧ !readBackOk then 5 else st
    s.keyCommand ⟨2, 0, 0, sealRecord r key, key, st⟩

/-- REVOKE (R335): LAST_ROOT for the only usable slot, IN_USE for the root slot of the record in force. -/
def keyRevoke (n : Nat) (s : State) : State :=
  let last := s.rootUsable n && (List.range 4).all fun k => k = n || !s.rootUsable k
  let st := if last then 6 else if s.flag KEY_STAT.REC_VALID 0 ∧ s.get KEY_STAT.SIGNER 0 = n then 7 else 0
  s.keyCommand ⟨3, n, 0, [], 0, st⟩

/-- PROG_ROOT (R335): SLOT_USED unless the slot is BLANK. -/
def keyProgRoot (n : Nat) (s : State) : State := s.keyCommand ⟨4, n, 0, s.bufBytes 48, 0, if s.rootBlank n then 0 else 8⟩

/-- The SVN of the boot slot's image (R335). -/
def State.bootSvn (s : State) : Nat :=
  match s.bootSlot with
  | some b => s.flashNum b 0x10 1
  | none => 0

/-- RAISE_SVN (R335): SVN_HIGH above the SVN of the boot slot's image or 64. -/
def keyRaiseSvn (floor : Nat) (s : State) : State :=
  s.keyCommand ⟨5, 0, floor, [], 0, if s.bootSvn < floor ∨ 64 < floor then 9 else 0⟩

/-- The key slot that a ROTATE writes (R335): the one not in force; with none in force the one that boot did not choose, or slot 0. -/
def State.rotateSlot (s : State) : Nat :=
  if s.flag KEY_STAT.REC_VALID 0 then 1 - s.get KEY_STAT.REC_SLOT 0
  else match s.bootKey with
    | some k => 1 - k
    | none => 0

/-- The GEN that a ROTATE gives (R335). -/
def State.rotateGen (s : State) : Nat :=
  if s.flag KEY_STAT.REC_VALID 0 then s.get KEY_STAT.GEN 0 + 1
  else ((List.range 2).map fun k => if s.commitOk k then s.genOf k else 0).foldl max 0 + 1

/-- A commit record (R334). -/
def commitRecord (gen crc : Nat) : List Byte :=
  let body := toBytes 4 0x4D434B44 ++ toBytes 4 gen ++ toBytes 4 crc
  body ++ toBytes 4 (crc32c body)

/-- A record programmed by a ROTATE and its commit record (R335); it is then the record in force. -/
def State.storeRecord (s : State) (r : List Byte) : State :=
  let k := s.rotateSlot
  let gen := s.rotateGen
  let s := (s.eraseFlash k keyAt 4096).eraseFlash k commitAt 4096
  let s := s.program k keyAt r
  let s := s.program k commitAt (commitRecord gen (ofBytes (recBytes r 0xFFC 4)))
  { s with pendingId := none }.recordInForce k

/-- The effect of a key command that was not refused (R335). -/
def State.keyEffect (s : State) (r : KeyRun) : State :=
  match r.op with
  | 1 => { s with pendingId := some r.key }.showId
  | 2 => s.storeRecord r.body
  | 3 => { s with fuses := { s.fuses with rev := Tbl.wr (fun _ => 0) s.fuses.rev r.root 0xFF } }.showFuses
  | 4 =>
    { s with fuses := { s.fuses with hash := Tbl.wr (fun _ => List.replicate 48 0) s.fuses.hash r.root r.body,
                                     valid := Tbl.wr (fun _ => 0) s.fuses.valid r.root 0xFF } }.showFuses
  | _ => { s with fuses := { s.fuses with svn := s.fuses.svn ||| (2 ^ r.svn - 1) } }.showFuses

/-- The running key command completes (R335, R357). A ROTATE whose record did not read back leaves its slot erased and the previous record in force. -/
def keyCommandComplete (s : State) : State :=
  match s.keyRun with
  | none => s
  | some r =>
    let s := { s with keyRun := none }
    let s := if r.status = 0 then s.keyEffect r
      else if r.op = 2 ∧ r.status = 5 then (s.eraseFlash s.rotateSlot keyAt 4096).eraseFlash s.rotateSlot commitAt 4096
      else s
    (s.set KEY_RES.STATUS 0 r.status).resultDone KEY_RES.SEQ KEY_RES.VALID 0

/-! ### The random generator (R337, R338) -/

/-- The start-up sequence completes with a healthy source: READY. -/
def trngStartupComplete (s : State) : State :=
  if s.flag KEY_TRNG_STAT.FAILED 0 then s
  else (s.set KEY_TRNG_STAT.READY 0 1).set KEY_TRNG_STAT.STARTS 0 0

/-- A health test fails (R338): READY is cleared, the failure counted, event 504 raised and the start-up restarts; the fourth failed start-up in a row sets FAILED. -/
def trngHealthFailure (apt : Bool) (s : State) : State :=
  if s.flag KEY_TRNG_STAT.FAILED 0 then s
  else
    let starting := !s.flag KEY_TRNG_STAT.READY 0
    let s := s.set KEY_TRNG_STAT.READY 0 0
    let s := if apt then s.count KEY_TRNG_STAT.APT_FAIL 0 else s.count KEY_TRNG_STAT.RCT_FAIL 0
    let s := if !starting then s
      else if s.get KEY_TRNG_STAT.STARTS 0 = 3 then s.set KEY_TRNG_STAT.FAILED 0 1
      else s.set KEY_TRNG_STAT.STARTS 0 (s.get KEY_TRNG_STAT.STARTS 0 + 1)
    s.cause 504 1 0

/-- The DRBG is reseeded (R337): its next outputs are those of the new seed, and output continues. -/
def trngReseed (s : State) : State := if s.flag KEY_TRNG_STAT.READY 0 then s.fresh else s

/-- KEY_TRNG_CMD.NEXT (R338, R341): a new output, or DATA = 0 and READY = 0 while the generator is not ready. -/
def trngNext (s : State) : State :=
  let ok := s.flag KEY_TRNG_STAT.READY 0
  let s := s.resultStart KEY_TRNG_RES.VALID 0
  let s := s.set KEY_TRNG_RES.READY 0 (bit ok)
  let s := s.setReg .KEY_TRNG_OUT 0 (if ok then Config.trngOut s.freeCtr else 0)
  let s := if ok then s.fresh else s
  s.resultDone KEY_TRNG_RES.SEQ KEY_TRNG_RES.VALID 0

/-! ### Meanings -/

/-- GEN_ID: R335, R338. -/
def execKeyGenId (s : State) : Host.Outcome State Fault Refusal :=
  .next (keyGenId s)

/-- ROTATE: R320, R333, R334, R335. -/
def execKeyRotate (readBackOk : Bool) (s : State) : Host.Outcome State Fault Refusal :=
  .next (keyRotate readBackOk s)

/-- REVOKE: R331, R335. -/
def execKeyRevoke (n : Nat) (s : State) : Host.Outcome State Fault Refusal :=
  run (decide (n < 4)) (keyRevoke n s)

/-- PROG_ROOT: R331, R335, R336. -/
def execKeyProgRoot (n : Nat) (s : State) : Host.Outcome State Fault Refusal :=
  run (decide (n < 4)) (keyProgRoot n s)

/-- RAISE_SVN: R332, R335. -/
def execKeyRaiseSvn (floor : Nat) (s : State) : Host.Outcome State Fault Refusal :=
  .next (keyRaiseSvn floor s)

/-- KEY_COMMAND_COMPLETE: R341, R357. -/
def execKeyCommandComplete (s : State) : Host.Outcome State Fault Refusal :=
  .next (keyCommandComplete s)

/-- TRNG_STARTUP_COMPLETE: R337. -/
def execTrngStartupComplete (s : State) : Host.Outcome State Fault Refusal :=
  .next (trngStartupComplete s)

/-- TRNG_HEALTH_FAILURE: R338, R339. -/
def execTrngHealthFailure (apt : Bool) (s : State) : Host.Outcome State Fault Refusal :=
  .next (trngHealthFailure apt s)

/-- TRNG_RESEED: R337. -/
def execTrngReseed (s : State) : Host.Outcome State Fault Refusal :=
  .next (trngReseed s)

/-- NEXT: R338, R341, R357. -/
def execTrngNext (s : State) : Host.Outcome State Fault Refusal :=
  .next (trngNext s)

end Sys2Proof.Machine
end

