-- ==== Sys2Proof/Machine/ImageRules.lean ====
section
/-! DEFINITION. What the sections of an image state (R324, R450), and the rules that its values must meet to pass verification (R325, R451). -/

namespace Sys2Proof.Machine

/-! ### Stated values -/

/-- What a stated field holds now. -/
def State.cellNow (s : State) (c : ImgCell) : Nat := (s.reg c.reg c.idx).field c.hi c.lo

/-- A stated field differs from the configuration in force. -/
def State.cellDiffers (s : State) (c : ImgCell) : Bool := decide (s.cellNow c ≠ c.val % 2 ^ (c.hi + 1 - c.lo))

/-- A stated field takes its value. -/
def State.putCell (s : State) (c : ImgCell) : State := s.setReg c.reg c.idx ((s.reg c.reg c.idx).setField c.hi c.lo c.val)

/-- Stated fields take their values, in order. -/
def State.putCells (s : State) (l : List ImgCell) : State := l.foldl State.putCell s

/-- The stated fields of one register. -/
def cellsOf (img : ImgContent) (k : RegKind) : List ImgCell := img.cells.filter fun c => c.reg = k

/-- The indices of a register kind that an image names, each once, in order of first mention. -/
def named (img : ImgContent) (ks : List RegKind) : List Nat := ((img.cells.filter fun c => ks.contains c.reg).map (·.idx)).dedup

/-- A section differs from the configuration in force. -/
def State.sectionDiffers (s : State) (img : ImgContent) (sec : Nat) : Bool := img.cells.any fun c => c.sec = sec && s.cellDiffers c

/-! ### Rules of one section (R451)

Each is a test of one item of a section, against the configuration that applying the image would give (R325). -/

/-- A port block (R38 to R40, R107, R121, R297): its mode with its neighbour's, the widths of its mode, no fabric port in SPLIT, below 64 GT/s or on a standalone chip, the SFL revisions
1 and 2 in order, and the shares of a fabric port's VCs. -/
def State.blockBreaks (t : State) (role : Nat) (revs : Bool) (b : Nat) : Bool :=
  let m := t.get PRT_CFG.MODE b
  let w0 := t.get PRT_CFG.WIDTH0 b
  let fabric := decide (t.get PRT_CFG.ROLE0 b = 2)
  let modes := if b % 2 = 0 then m = 4 else m = 3 || decide (m = 4) != decide (t.get PRT_CFG.MODE (b - 1) = 3)
  let widths := match m with
    | 1 => decide (w0 ≠ 3)
    | 2 => decide (2 < w0) || decide (2 < t.get PRT_CFG.WIDTH1 b) || fabric || decide (t.get PRT_CFG.ROLE1 b = 2)
    | 3 => decide (w0 ≠ 4)
    | _ => decide (4 < m)
  let sfl := t.isFabric b &&
    (decide (role = 0) || decide (t.get PRT_CFG.MAX_RATE b < 5) ||
      (let shares := (List.range 8).map fun v => t.get SFL_VC_CFG.ALLOC (8 * b + v)
       decide ((if m = 3 then 8192 else 4096) < shares.sum) || shares.any (· < 32)))
  let lo := t.get SFL_PHY_CFG.REV_MIN b
  let hi := t.get SFL_PHY_CFG.REV_MAX b
  modes || widths || sfl || (revs && (decide (lo < 1) || decide (2 < hi) || decide (hi < lo)))

/-- A slot (R423): its port is in downstream role and named by no lower slot, and no lower slot shares its bus and address. -/
def State.slotBreaks (t : State) (n : Nat) : Bool :=
  let p := t.get SLT_CFG.PORT n
  t.flag SLT_CFG.VALID n &&
    (!t.portExists p || decide (t.role p ≠ 1) || (List.range n).any fun k =>
      t.flag SLT_CFG.VALID k && (decide (t.get SLT_CFG.PORT k = p) ||
        (decide (t.get SLT_CFG.BUS k = t.get SLT_CFG.BUS n) && decide (t.get SLT_CFG.ADDR k = t.get SLT_CFG.ADDR n))))

/-- The vPPBs that a VCS takes: its upstream one and its downstream ones (R67). -/
def State.vppbsOf (t : State) (v : Nat) : Nat := if t.flag VCS_ENTRY.ACTIVE v then 1 + t.get VCS_ENTRY.DSP_CNT v else 0

/-- A VCS (R67): no lower one binds its upstream port, and the vPPBs up to it are at most 1,024. -/
def State.vcsBreaks (t : State) (v : Nat) : Bool :=
  t.flag VCS_ENTRY.ACTIVE v &&
    (((List.range v).any fun u => t.flag VCS_ENTRY.ACTIVE u && decide (t.get VCS_ENTRY.USP_PORT u = t.get VCS_ENTRY.USP_PORT v)) ||
      decide (1024 < ((List.range (v + 1)).map t.vppbsOf).sum))

/-- A pool range (R192): it ends at 65,536 GiB at most and meets no lower one. -/
def State.poolBreaks (t : State) (v : Nat) : Bool :=
  let lo := t.get RMP_POOL.BASE_GIB v
  let hi := lo + t.get RMP_POOL.SIZE_GIB v
  decide (65536 < hi) || (List.range v).any fun u =>
    decide (t.get RMP_POOL.BASE_GIB u < hi) && decide (lo < t.get RMP_POOL.BASE_GIB u + t.get RMP_POOL.SIZE_GIB u) && decide (lo < hi) &&
      decide (0 < t.get RMP_POOL.SIZE_GIB u)

/-- A route entry (R144). -/
def State.routeBreaks (t : State) (i : Nat) : Bool :=
  t.flag ROUTE_ENTRY.VALID i && !routeLegal (i / 256) (i / 4 % 64) (t.reg .ROUTE_ENTRY i)

/-- An HRT_HOME entry (R217): no lower one names its extent. -/
def State.homeBreaks (t : State) (d : Nat) : Bool :=
  t.flag HRT_HOME.VALID d && (List.range d).any fun e => t.flag HRT_HOME.VALID e && decide (t.get HRT_HOME.L1_IDX e = t.get HRT_HOME.L1_IDX d)

/-- A shared extent of this chip without an HRT_HOME entry (R217). -/
def State.homeless (t : State) (chip : Nat) : Bool :=
  (t.listed .L1_W0).any fun i => t.flag L1_W0.SHARED i && decide (t.get L1_W0.TARGET i / 512 = chip) &&
    !(t.listed .HRT_HOME).any fun d => t.flag HRT_HOME.VALID d && decide (t.get HRT_HOME.L1_IDX d = i)

/-- A context's parameters (R179). -/
def State.ctxBreaks (t : State) (c : Nat) : Bool :=
  !ratesLegal (t.get TMP_CTX_08.CIR c) (t.get TMP_CTX_08.PIR c) (t.get TMP_CTX_10.CBS c) (t.get TMP_CTX_10.PBS c)

/-- A shaper's parameters (R181). -/
def State.shaperBreaks (t : State) (i : Nat) : Bool :=
  !ratesLegal (t.get TMP_SHP_RATE.CIR i) (t.get TMP_SHP_RATE.PIR i) (t.get TMP_SHP_SIZE.CBS i) (t.get TMP_SHP_SIZE.PBS i)

/-- The HBM partitions (R26, R27, R240), as items of R451: a size outside its range, a hotness area outside scratch, or sizes that leave less than 4 GiB of 48 GiB for scratch. -/
def State.hbmBreaks (t : State) (item : Nat) : Bool :=
  let dir := t.get MGT_HBM_PART.DIR_GIB 0
  let l2 := t.get MGT_HBM_PART.L2_64M 0
  let trace := t.get MGT_HBM_PART.TRACE_256M 0
  let scr := t.get MGT_HBM_PART.SCRATCH_64M 0
  match item with
  | 1 => decide (dir < 8) || decide (32 < dir)
  | 2 => decide (l2 < 1) || decide (4 < l2)
  | 3 => decide (32 < trace)
  | 5 => t.flag RMP_HOT_CFG.EN 0 && decide (scr < t.get RMP_HOT_CFG.BASE_64M 0 + 3)
  | 0x100 => decide (scr < 64) || decide (768 < 8 + 16 * dir + l2 + 4 * trace + scr)
  | _ => false

/-- The kernel of service k (R259, R261): an engine of it is named by another program of its cluster with a lower number, or its scratch window leaves the partition or meets the hotness
area. -/
def State.kernelBreaks (t : State) (k : Nat) : Bool :=
  (List.range 16).any fun c =>
    let i := krnIdx c k
    let lo := t.get TNG_KRN.SCR_BASE_64M i
    let hi := lo + t.get TNG_KRN.SCR_SIZE_64M i
    let hot := t.get RMP_HOT_CFG.BASE_64M 0
    t.flag TNG_KRN.VALID i &&
      (decide (Nat.land (t.get TNG_KRN.ENG_MASK i) (t.get TNG_CL_CFG.FW_MASK c) ≠ 0) ||
        ((List.range (k - 0x40)).any fun j => t.flag TNG_KRN.VALID (192 * c + j) &&
          decide (Nat.land (t.get TNG_KRN.ENG_MASK i) (t.get TNG_KRN.ENG_MASK (192 * c + j)) ≠ 0)) ||
        (decide (lo < hi) && (decide (t.get MGT_HBM_PART.SCRATCH_64M 0 < hi) ||
          (t.flag RMP_HOT_CFG.EN 0 && decide (lo < hot + 3) && decide (hot < hi)))))

/-- An entry of the fabric section (R297): this chip's with another role than its strap or a second time, or a second manager or standby. -/
def State.memberBreaks (t : State) (chip : Nat) (roles : List (Nat × Nat)) (c : Nat) : Bool :=
  let lower := fun (role : Nat) => roles.any fun x => x.2 = role && decide (x.1 < c)
  (decide (c = chip) && (roles.any (fun x => x.1 = c && decide (x.2 ≠ t.get MGT_CHIP_INFO.ROLE 0)) || decide (1 < (roles.filter (·.1 = c)).length))) ||
    roles.any fun x => x.1 = c && (x.2 = 2 || x.2 = 3) && lower x.2

/-- The fabric section's own values (R183, R296, R297): LEASE_MS, UNREACH_MS and TTL in range, UNREACH_MS over 2 × LEASE_MS, a manager where a port is in fabric role, and no more than 8 chips
in the compact class. -/
def State.fabricBreaks (t : State) (stated : Bool) (roles : List (Nat × Nat)) (scale : Nat) : Bool :=
  let lease := t.get MGT_FAB_CFG.LEASE_MS 0
  let gone := t.get MGT_FAB_CFG.UNREACH_MS 0
  (stated && (decide (lease < 2) || decide (gone < 5) || decide (gone ≤ 2 * lease) || decide (t.get MGT_FAB_CFG.TTL 0 = 0))) ||
    ((List.range 64).any t.isFabric && !roles.any fun x => x.2 = 3) || (decide (scale = 0) && decide (8 < ((roles.map (·.1)).dedup).length))

/-! ### The first rule broken (R325, R451) -/

/-- The first of a section's items that breaks a rule. -/
def firstItem (sec : Nat) (items : List Nat) (bad : Nat → Bool) : Option RuleItem := ((items.filter bad).min?).map fun i => ⟨sec, i⟩

/-- A rule that an image's values break, section by section in the order of R324; only what an image states is tested, since R450 has a full image state everything. `chip` is its chip ID. -/
def State.brokenRule (s : State) (chip : Nat) (img : ImgContent) : Option RuleItem :=
  let t := (s.putCells img.cells).set MGT_CHIP_INFO.CHIP_ID 0 chip
  let role := s.get MGT_CHIP_INFO.ROLE 0
  let on := fun (ks : List RegKind) (l : List Nat) => if (named img ks).isEmpty then [] else l
  let roles := ((img.fabric.map (·.1)).getD s.fab.roles)
  let blocks := named img [.PRT_CFG, .SFL_PHY_CFG] ++ (named img [.PRT_CFG]).map (fun b => b + 1 - 2 * (b % 2)) ++ (named img [.SFL_VC_CFG]).map (· / 8)
  let revs := fun (b : Nat) => (named img [.SFL_PHY_CFG]).contains b
  [ firstItem 2 (on [.MGT_HBM_PART] [1, 2]) t.hbmBreaks,
    firstItem 3 (on [.MGT_HBM_PART] [3, 0x100] ++ on [.MGT_HBM_PART, .RMP_HOT_CFG] [5]) t.hbmBreaks,
    firstItem 4 (blocks.filter (· < 64)) (fun b => t.blockBreaks role (revs b) b),
    firstItem 4 (on [.PRT_CFG, .SLT_CFG] ((List.range 64).map (0x100 + ·))) (fun i => t.slotBreaks (i - 0x100)),
    firstItem 5 (on [.VCS_ENTRY] (List.range 64)) t.vcsBreaks,
    firstItem 5 (on [.RMP_POOL] ((List.range 64).map (0x100 + ·))) (fun i => t.poolBreaks (i - 0x100)),
    firstItem 6 (named img [.ROUTE_ENTRY]) t.routeBreaks,
    firstItem 9 (on [.HRT_HOME] (List.range 256)) t.homeBreaks,
    firstItem 9 (on [.HRT_HOME, .L1_W0] [0x100]) (fun _ => t.homeless chip),
    firstItem 10 (named img [.TMP_CTX_08, .TMP_CTX_10]) t.ctxBreaks,
    firstItem 10 ((named img [.TMP_SHP_RATE, .TMP_SHP_SIZE]).map (0x20000 + ·)) (fun i => t.shaperBreaks (i - 0x20000)),
    firstItem 11 (named img [.TNG_CL_CFG]) (fun c => decide (t.get TNG_CL_CFG.FW_MASK c = 0)),
    firstItem 11 (on [.TNG_KRN, .TNG_CL_CFG, .RMP_HOT_CFG, .MGT_HBM_PART] ((List.range 192).map (0x140 + ·))) (fun i => t.kernelBreaks (i - 0x100)),
    firstItem 13 ((roles.map (·.1)).filter fun _ => img.fabric.isSome) (t.memberBreaks chip roles),
    firstItem 13 (if img.fabric.isSome || img.scale.isSome then [0x100] else on [.MGT_FAB_CFG, .PRT_CFG] [0x100])
      (fun _ => t.fabricBreaks (!(named img [.MGT_FAB_CFG]).isEmpty) roles (img.scale.getD s.fab.scale)) ].findSome? id

/-- The rule of an image that RULE reports: the first of those its values break and of those that the sections' bytes or other chips decide (R215, R314, R450), which `rule` names (log
entry 13). -/
def State.ruleOf (s : State) (chip : Nat) (img : ImgContent) (rule : Option RuleItem) : Option RuleItem :=
  match s.brokenRule chip img, rule with
  | some a, some b => if a.sec < b.sec ∨ (a.sec = b.sec ∧ a.item ≤ b.item) then some a else some b
  | some a, none => some a
  | none, r => r

end Sys2Proof.Machine
end

