-- ==== Sys2Proof/Machine/Images.lean ====
section
/-! DEFINITION. The image commands, the application of an image, and the boot selection (R324, R326 to R330, R366, R367). -/

namespace Sys2Proof.Machine

/-! ### What an applied image sets beside its fields -/

/-- The parts of an image that no register holds, and the free counts that follow from it: the fabric section, the scale class, the program version, chip ID, RUN_VER, the free level-2
tables and the free contexts. -/
def State.afterImage (s : State) (sl : Nat) (img : ImgContent) : State :=
  let s := match img.fabric with
    | some (roles, hash) => s.modFab fun x => { x with roles := roles, hash := hash }
    | none => s
  let s := match img.scale with
    | some c => s.modFab fun x => { x with scale := c }
    | none => s
  let s := match img.program with
    | some v => { s with fwVersion := v }
    | none => s
  let s := s.set MGT_CHIP_INFO.CHIP_ID 0 (s.flashNum sl 0x12 1)
  let s := s.set MGT_IMG_STAT.RUN_VER 0 (s.flashNum sl 0x08 4)
  let s := s.set MGT_HBM_PART.VALID 0 1
  let s := s.set RMP_STAT.L2_FREE 0 (s.l2Total - s.l2Used.length)
  (s.setFree (65536 - ((s.listed .TMP_CTX_00).filter fun c => c < 65536 && s.flag TMP_CTX_00.BOUND c).length)).showSlots

/-- The contexts that an image binds (R324). -/
def State.boundByImage (s : State) (img : ImgContent) : List Nat := (named img [.TMP_CTX_00]).filter fun c => s.flag TMP_CTX_00.BOUND c

/-- PROVISION applies a verified image as a full image (R367): every stated field, the chip copies and the replicas of every region, every directory entry at state I, the shared pools
(R153), and the flow keys of the LDs that it binds (R173). -/
def State.applyBoot (s : State) (sl : Nat) (img : ImgContent) : State :=
  let s := s.putCells img.cells
  let s := s.each (List.range 4) fun r t => t.reloadRegion r
  let s := s.afterImage sl img
  let s := s.clearHbm dirBase (s.get MGT_HBM_PART.DIR_GIB 0 * 2 ^ 30)
  let s := { s with imgCtx := s.boundByImage img }
  let s := s.each (named img [.ANV_CR_CFG]) fun b t => t.issuePool b
  (named img [.VPPB_ENTRY]).foldl (fun t v => t.bindLd v) s

/-! ### The pre-check of APPLY (R329) -/

/-- A running Tongs job holds scratch (R28): a kernel with a scratch window, or a service with a scratch address space. -/
def State.scratchHeld (s : State) : Bool :=
  (List.range 128).any fun e =>
    match s.jobRun e with
    | some r =>
      if r.job.service < 0x40 then asdSpace (r.job.word 6) = 2 || asdSpace (r.job.word 7) = 2
      else s.get TNG_KRN.SCR_SIZE_64M (krnIdx (e / 8) r.job.service) ≠ 0
    | none => false

/-- BOOT-class content differs (R324): the chip ID, the scale class, CHIP, HBM_FIXED, or an existing HRT_HOME entry. -/
def State.needsReset (s : State) (sl : Nat) (img : ImgContent) : Bool :=
  s.sectionDiffers img 1 || s.sectionDiffers img 2 || s.flashNum sl 0x12 1 ≠ s.chipId ||
    (match img.scale with
      | some c => c ≠ s.fab.scale
      | none => false) ||
    img.cells.any fun c => c.sec = 9 && c.reg = .HRT_HOME && s.flag HRT_HOME.VALID c.idx && s.cellDiffers c

/-- The image binds a context to another key than a binding made at run time holds (R330). -/
def State.bindingConflict (s : State) (img : ImgContent) : Bool :=
  let t := s.putCells (cellsOf img .TMP_CTX_00)
  (named img [.TMP_CTX_00]).any fun c =>
    s.flag TMP_CTX_00.BOUND c && !s.imgCtx.contains c && t.flag TMP_CTX_00.BOUND c &&
      (s.get TMP_CTX_00.SRC_FEID c ≠ t.get TMP_CTX_00.SRC_FEID c || s.get TMP_CTX_00.LD c ≠ t.get TMP_CTX_00.LD c)

/-- TONGS differs from the configuration in force. -/
def State.tongsDiffers (s : State) (img : ImgContent) : Bool :=
  s.sectionDiffers img 11 || (match img.program with
    | some v => v ≠ s.fwVersion
    | none => false)

/-- A change meets a busy section (R28, R280, R330). -/
def State.busySection (s : State) (img : ImgContent) : Bool :=
  (s.sectionDiffers img 3 && (!s.inService || s.flag CNT_TRC_STAT.RUN 0 || s.scratchHeld)) ||
    (s.tongsDiffers img && !s.reloadDue.isEmpty) || s.bindingConflict img

/-- A locked window would change (R208). -/
def State.lockedChange (s : State) (img : ImgContent) : Bool :=
  img.cells.any fun c => (c.reg = .WIN_W0 || c.reg = .WIN_W1 || c.reg = .WIN_W2) && s.flag WIN_W0.LOCK c.idx && s.cellDiffers c

/-- The pre-check (R329): the first condition that fails, as MGT_IMG_RES.STATUS. -/
def State.applyStatus (s : State) (sl : Nat) (img : ImgContent) : Nat :=
  if s.needsReset sl img then 0x0B
  else if s.busySection img then 0x0C
  else if s.lockedChange img then 0x0D
  else if s.isDelta sl ∧ s.flashNum sl 0x0C 4 ≠ s.get MGT_IMG_STAT.RUN_VER 0 then 0x0A
  else if (s.slotChecked sl).isNone then 0x0E
  else 0

/-! ### Switching sections (R329, R330) -/

/-- A remap level-1 entry that APPLY keeps as it stands (R330). -/
def State.keptExtent (s : State) (i : Nat) : Bool :=
  (Tbl.rd (fun _ => none) s.dcRegion i).isSome || s.flag L1_W0.FRACT i || s.flag L1_W1.RELEASING i ||
    (List.range 32).any fun k => s.get RMP_MIG_SLOT0.PHASE k ≠ 0 && s.get RMP_MIG_SLOT0.L1_IDX k = i

/-- One entry of a duplicated table switched from an image. -/
def State.switchEntry (s : State) (t : DupTable) (i : Nat) (img : ImgContent) : State :=
  let l := img.cells.filter fun c => c.idx = i && (entryWords t i).contains (c.reg, i)
  if l.any s.cellDiffers then s.writeEntry t i fun u => u.putCells l else s

/-- A changed route entry rewritten under R147. -/
def State.switchRoute (s : State) (i : Nat) (img : ImgContent) : State :=
  let l := (cellsOf img .ROUTE_ENTRY).filter fun c => c.idx = i
  if l.any s.cellDiffers then routeEntryWrite (i / 256) (i / 4 % 64) (i % 4) ((s.putCells l).reg .ROUTE_ENTRY i) s else s

/-- A vPPB from an image (R330): one whose binding changes is unbound under option 2 of R70 and then bound. -/
def State.switchVppb (s : State) (v : Nat) (img : ImgContent) : State :=
  let l := (cellsOf img .VPPB_ENTRY).filter fun c => c.idx = v
  let t := s.putCells l
  if s.reg .VPPB_ENTRY v = t.reg .VPPB_ENTRY v then s
  else
    let ld := if s.get VPPB_ENTRY.STATE v = 2 then some (s.get VPPB_ENTRY.LD_ID v) else none
    let s := if s.get VPPB_ENTRY.STATE v = 1 ∨ s.get VPPB_ENTRY.STATE v = 2 then
        s.unbound v ⟨false, 2, s.get VPPB_ENTRY.TARGET v % 512, ld, 0, false⟩
      else s
    let s := (s.putCells l).bindLd v
    let p := s.get VPPB_ENTRY.TARGET v % 512
    let bound := s.get VPPB_ENTRY.STATE v = 1 ∨ s.get VPPB_ENTRY.STATE v = 2
    if bound ∧ !s.flag VPPB_ENTRY.REMOTE v then
      let s := (s.dropTriggers (p / 2) fun t => t.code = 1 && t.byUnbind).release (p / 2)
      if s.flag PRT_LINK_STATUS.DL_UP p then s.hotAdd v else s
    else s

/-- A flow context from an image (R179, R330): its words rewritten with its buckets; a binding made at run time is kept. -/
def State.switchCtx (s : State) (c : Nat) (img : ImgContent) : State :=
  let l := img.cells.filter fun x => x.sec = 10 && x.idx = c && (x.reg = .TMP_CTX_08 || x.reg = .TMP_CTX_10 || x.reg = .TMP_CTX_00)
  let keep := s.flag TMP_CTX_00.BOUND c && !s.imgCtx.contains c
  let l := l.filter fun x => !(keep && decide (x.reg = .TMP_CTX_00))
  if l.any s.cellDiffers then
    let rekeyed := l.any fun x => x.reg = .TMP_CTX_00 && s.cellDiffers x
    let s := s.putCells l
    let s := if s.fabricKey c then s.set TMP_CTX_10.HOLD_EN c 0 else s
    let s := if rekeyed then s.clearCtx c else s
    (s.setBucket c (rewritten (s.flag TMP_CTX_10.TOK_RST c) (s.get TMP_CTX_10.CBS c) (s.get TMP_CTX_10.PBS c) s.cycle)).showTokens c
  else s

/-- A shaper from an image (R181). -/
def State.switchShaper (s : State) (i : Nat) (img : ImgContent) : State :=
  let l := img.cells.filter fun x => x.idx = i && (x.reg = .TMP_SHP_RATE || x.reg = .TMP_SHP_SIZE)
  if l.any s.cellDiffers then
    let s := s.putCells l
    s.setBucket (shaperKey (i / 8) (i % 8)) (rewritten (s.flag TMP_SHP_SIZE.TOK_RST i) (s.get TMP_SHP_SIZE.CBS i) (s.get TMP_SHP_SIZE.PBS i) s.cycle)
  else s

/-- The blocks whose PRT_CFG, PRT_CXL_CFG or SFL_VC_CFG an image changes, each with the lead of the port it serves. -/
def State.changedBlocks (s : State) (img : ImgContent) : List Nat :=
  let hit := (List.range 64).filter fun b => img.cells.any fun c => s.cellDiffers c &&
    ((c.reg = .PRT_CFG && c.idx = b) || (c.reg = .PRT_CXL_CFG && c.idx = b) || (c.reg = .SFL_VC_CFG && c.idx / 8 = b))
  (hit.flatMap fun b => [s.leadOf b, b]).dedup

/-- A block's links go down for a change (R330). -/
def State.dropForPorts (s : State) (b : Nat) : State :=
  let s := if s.isFabric b then s.sflDown b else s
  s.each [2 * b, 2 * b + 1] fun p t => t.takeDown p true

/-- The engines that an image has reloaded under R280: of a changed firmware program those of FW_MASK, of a changed kernel those that held it or now hold it. -/
def State.enginesToReload (s t : State) (img : ImgContent) : List Nat :=
  let fw := img.program.any fun v => v ≠ s.fwVersion
  (List.range 128).filter fun e => s.engState e ≠ 3 &&
    ((fw && t.programOf e = 0) || t.programOf e ≠ (s.engine e).program ||
      (0x40 ≤ t.programOf e && t.versionOf (e / 8) (t.programOf e) ≠ (s.engine e).version))

/-- Registers whose switch has a form of its own. -/
def specialReg (k : RegKind) : Bool :=
  [RegKind.ROUTE_ENTRY, .L1_W0, .L1_W1, .WIN_W0, .WIN_W1, .WIN_W2, .VPPB_ENTRY, .TMP_CTX_00, .TMP_CTX_08, .TMP_CTX_10, .TMP_SHP_RATE, .TMP_SHP_SIZE].contains k

/-- The region whose NIs or ports a REGION-class field belongs to, where no duplicated table holds it (R324). -/
def State.cellRegion (s : State) (c : ImgCell) : Option Nat :=
  match c.reg with
  | .PRT_CFG | .PRT_CXL_CFG | .SFL_PHY_CFG | .ANV_CR_CFG => some (c.idx / 16)
  | .SFL_VC_CFG => some (c.idx / 128)
  | .TMP_CFG | .TMP_PROFILE3 => some c.idx
  | .TMP_SHP_RATE | .TMP_SHP_SIZE => some (c.idx / 256)
  | .TMP_CTX_00 | .TMP_CTX_08 | .TMP_CTX_10 => some (s.ctxRegion c.idx)
  | _ => none

/-- A stated field of a register that no special form switches: fields that FLT_CFG.LOCK holds are kept, with the lock-violation event (R7). -/
def State.switchCell (s : State) (c : ImgCell) : State :=
  if c.reg = .FLT_CFG ∧ 4 ≤ c.idx ∧ s.flag FLT_CFG.LOCK c.idx then
    let keep := s.get FLT_CFG.INJ_EN c.idx
    let t := s.putCell c
    let changed := t.get FLT_CFG.INJ_EN c.idx ≠ keep ∨ !t.flag FLT_CFG.LOCK c.idx
    let t := (t.set FLT_CFG.INJ_EN c.idx keep).set FLT_CFG.LOCK c.idx 1
    if changed then t.notice 4 0 (drsAddr .FLT_CFG c.idx) else t
  else s.putCell c

/-- Stated fields switched, each section in its own form (R330): links of a changed port block go down and come up again, and a changed credit share gives its block a new pool. -/
def State.switchCells (s : State) (img : ImgContent) : State :=
  let s := (named img [.L1_W0, .L1_W1]).foldl (fun t i => if t.keptExtent i then t else t.switchEntry .l1 i img) s
  let s := (named img [.VPPB_ENTRY]).foldl (fun t v => t.switchVppb v img) s
  let hit := s.changedBlocks img
  let s := s.each hit fun b t => t.dropForPorts b
  let s := (img.cells.filter fun c => !specialReg c.reg).foldl State.switchCell s
  let s := s.each hit fun b t => (t.bringUpAlone (2 * b)).bringUpAlone (2 * b + 1)
  let s := s.each (named img [.ANV_CR_CFG]) fun b t => t.issuePool b
  let s := (named img [.ROUTE_ENTRY]).foldl (fun t i => t.switchRoute i img) s
  let s := (named img [.WIN_W0, .WIN_W1, .WIN_W2]).foldl (fun t i => t.switchEntry .window i img) s
  let s := (named img [.TMP_CTX_00, .TMP_CTX_08, .TMP_CTX_10]).foldl (fun t c => t.switchCtx c img) s
  (named img [.TMP_SHP_RATE, .TMP_SHP_SIZE]).foldl (fun t i => t.switchShaper i img) s

/-- The stated fields of regions that are fenced: APPLY skips them (R329). -/
def State.skips (s : State) (c : ImgCell) : Bool := (s.cellRegion c).any fun r => s.regionState r = 1

/-- A CHECKED image applied to the running chip (R329, R330): the CHIP-class sections on every region, then the REGION-class ones on every region not fenced. -/
def State.applyNow (s : State) (sl : Nat) (img : ImgContent) : State :=
  let later := img.cells.filter s.skips
  let t := s.switchCells { img with cells := img.cells.filter fun c => !s.skips c }
  let t := { t with reloadDue := if s.tongsDiffers img then s.enginesToReload t img else s.reloadDue, imgCtx := (t.imgCtx ++ t.boundByImage img).dedup, imgLater := t.imgLater ++ later }
  (t.afterImage sl img).each (List.range 16) fun c u => u.showLoaded c

/-- A region in RECOVERY takes what APPLY switched while it was fenced (R329, R369). -/
def State.takeLater (s : State) (r : Nat) : State :=
  let mine := s.imgLater.filter fun c => s.cellRegion c = some r
  ({ s with imgLater := s.imgLater.filter fun c => s.cellRegion c ≠ some r }).switchCells { ImgContent.empty with cells := mine }

/-- The regions that APPLY switches: those not fenced (R329). -/
def State.switchedRegions (s : State) : Nat := ((List.range 4).map fun r => if s.regionState r = 1 then 0 else 2 ^ r).sum

/-! ### Image commands (R328) -/

/-- An image command starts, or is recorded while an image or key command runs. -/
def State.imageCommand (s : State) (r : ImgRun) : State :=
  if s.imgRun.isSome || s.keyRun.isSome then s.refuseWrite .MGT_IMG_CMD 0
  else { s.resultStart MGT_IMG_RES.VALID 0 with imgRun := some r }

/-- A command on a slot with an outcome and nothing more. -/
def imgRunOf (op sl status : Nat) : ImgRun := ⟨op, sl, 0, [], status, 0, 0, .empty⟩

/-- ERASE: SLOT_IN_USE for the boot slot; the slot record is erased first (R336). -/
def imgErase (sl : Nat) (s : State) : State :=
  let used := s.bootSlot = some sl
  let t := s.imageCommand (imgRunOf 1 sl (if used then 0x0F else 0))
  if used ∨ t.imgRun = s.imgRun then t
  else { t.eraseFlash sl recordAt 4096 with checked := Tbl.wr (fun _ => none) t.checked sl none }.showSlots

/-- WRITE: SLOT_IN_USE; else the page takes what it reads back as, FLASH_ERR where that differs from MGT_IMG_BUF. An OFFSET that is not 4 KiB aligned or not below the slot record has
no stated result: nothing is written and STATUS is free (log entry 35). -/
def imgWrite (sl offset : Nat) (readBack : List Byte) (s : State) : State :=
  if s.bootSlot = some sl then s.imageCommand (imgRunOf 2 sl 0x0F)
  else if offset % 4096 ≠ 0 ∨ recordAt ≤ offset then
    (s.imageCommand (imgRunOf 2 sl ((Config.freeWord s.freeCtr).toNat % 256))).fresh
  else
    let want := s.bufBytes 4096
    let got := padTo 4096 readBack
    let bad := (List.range 4096).find? fun i => want.getD i 0 ≠ got.getD i 0
    let t := s.imageCommand ⟨2, sl, offset, got, if bad.isSome then 0x10 else 0, 0, match bad with | some i => offset + i | none => 0, .empty⟩
    if t.imgRun = s.imgRun then t else { t with checked := Tbl.wr (fun _ => none) t.checked sl none }.showSlots

/-- CHECK: the verification of R325, on what the sections are found to state. -/
def imgCheck (sl : Nat) (rule : Option RuleItem) (img : ImgContent) (s : State) : State :=
  let v := s.verify sl false (s.ruleOf (s.flashNum sl 0x12 1) img rule)
  s.imageCommand ⟨3, sl, 0, [], v.1, v.2.1, v.2.2, img⟩

/-- COMMIT: NOT_CHECKED, BASE_MISMATCH for a delta. -/
def imgCommit (sl : Nat) (s : State) : State :=
  s.imageCommand (imgRunOf 4 sl (if (s.slotChecked sl).isNone then 0x0E else if s.isDelta sl then 0x0A else 0))

/-- APPLY: the pre-check of R329, on the contents that CHECK found. -/
def imgApply (sl : Nat) (img : ImgContent) (s : State) : State :=
  let img := (s.slotChecked sl).getD img
  s.imageCommand ⟨5, sl, 0, [], s.applyStatus sl img, 0, 0, img⟩

/-- The slot record that COMMIT writes (R326): SEQ one above the highest valid SEQ, or 1. -/
def State.newRecord (s : State) (sl : Nat) : List Byte :=
  let body := toBytes 4 0x544C5344 ++ toBytes 4 (max (s.slotSeq 0) (s.slotSeq 1) + 1) ++ s.flashBytes sl 0x08 4 ++ s.flashBytes sl 0x18 4 ++
    Config.sha384 (s.headerBytes sl)
  body ++ toBytes 4 (crc32c body)

/-- The effect of an image command that was not refused (R328). -/
def State.imageEffect (s : State) (r : ImgRun) : State :=
  match r.op with
  | 1 => s.eraseFlash r.sl 0 recordAt
  | 2 => s.program r.sl r.offset r.page
  | 3 => { s with checked := Tbl.wr (fun _ => none) s.checked r.sl (some r.img) }
  | 4 => (s.eraseFlash r.sl recordAt 4096).program r.sl recordAt (s.newRecord r.sl)
  | _ => s.applyNow r.sl r.img

/-- The running image command completes (R328, R329, R357): an APPLY finds the conditions of its pre-check still met. -/
def imageCommandComplete (s : State) : State :=
  match s.imgRun with
  | none => s
  | some r =>
    let r := if r.op = 5 ∧ r.status = 0 then { r with status := s.applyStatus r.sl r.img } else r
    let regions := if r.op = 5 ∧ r.status = 0 then s.switchedRegions else 0
    let s := { s with imgRun := none }
    let s := if r.status = 0 then s.imageEffect r
      else if r.op = 2 ∧ r.status = 0x10 then s.program r.sl r.offset r.page
      else s
    let s := s.showSlots
    let s := s.set MGT_IMG_RES.STATUS 0 r.status
    let s := s.set MGT_IMG_RES.SECTION 0 r.sec
    let s := s.set MGT_IMG_RES.REGIONS 0 regions
    let s := s.set MGT_IMG_RES.DETAIL 0 r.detail
    s.resultDone MGT_IMG_RES.SEQ MGT_IMG_RES.VALID 0

/-! ### Boot (R327, R334, R364, R366) -/

/-- Entry to SAFE (R364, R368) with its cause. -/
def State.enterSafe (s : State) (cause : Nat) : State := ({ s with phase := .safe }.set PWR_MODE.SAFE_CAUSE 0 cause).updMode.updFaultN

/-- PROVISION begins once a slot has passed and HBM initialisation is complete (R364, R367): its image is applied. -/
def State.tryProvision (s : State) : State :=
  match s.staged with
  | some (sl, img) =>
    if s.phase = .verify ∧ s.hbmReady then
      let s := { s with phase := .provision, staged := none }.applyBoot sl img
      let s := s.each (List.range 64) fun n t => t.set ANV_RTR_STAT.LINK_UP n 0xF
      s.updMode
    else s
  | none => s

/-- BOOT has read the key and slot records (R326, R334, R364): VERIFY. -/
def bootRecordsRead (s : State) : State :=
  if s.phase = .boot then { s.bootKeys.showSlots with phase := .verify }.updMode else s

/-- The slots that boot tries, in descending SEQ (R327). -/
def State.bootOrder (s : State) : List Nat :=
  match s.bootSlot with
  | some b => if s.recordValid (1 - b) then [b, 1 - b] else [b]
  | none => []

/-- The verification of the slots ends (R327, R364): the first that passes is staged, with FALLBACK and event 505 where a higher SEQ failed; with none the chip enters SAFE. -/
def bootVerifyResult (ruleA : Option RuleItem) (imgA : ImgContent) (ruleB : Option RuleItem) (imgB : ImgContent) (s : State) : State :=
  if s.phase ≠ .verify ∨ s.staged.isSome then s
  else
    let img := fun sl => if sl = 0 then imgA else imgB
    let ok := fun sl => (s.verify sl true (s.ruleOf (s.flashNum sl 0x12 1) (img sl) (if sl = 0 then ruleA else ruleB))).1 = 0
    match s.bootOrder.find? fun sl => ok sl with
    | none => (s.notice 505 1 0).enterSafe 1
    | some sl =>
      let fell := s.bootSlot ≠ some sl
      let s := if fell then (s.set MGT_IMG_STAT.FALLBACK 0 1).notice 505 1 0 else s
      { s with staged := some (sl, img sl) }.tryProvision

/-! ### Meanings -/

/-- ERASE: R320, R328. -/
def execImgErase (sl : Nat) (s : State) : Host.Outcome State Fault Refusal :=
  run (decide (sl < 2)) (imgErase sl s)

/-- WRITE: R320, R328, R451. -/
def execImgWrite (sl : Nat) (offset : Nat) (readBack : List Byte) (s : State) : Host.Outcome State Fault Refusal :=
  run (decide (sl < 2)) (imgWrite sl offset readBack s)

/-- CHECK: R27, R38, R39, R40, R67, R107, R121, R144, R183, R215, R217, R259, R296, R297, R314, R321, R322, R323, R325, R328, R423, R450, R451. -/
def execImgCheck (sl : Nat) (rule : Option RuleItem) (img : ImgContent) (s : State) : Host.Outcome State Fault Refusal :=
  run (decide (sl < 2)) (imgCheck sl rule img s)

/-- COMMIT: R320, R326, R328. -/
def execImgCommit (sl : Nat) (s : State) : Host.Outcome State Fault Refusal :=
  run (decide (sl < 2)) (imgCommit sl s)

/-- APPLY: R28, R181, R208, R324, R328, R329, R330, R369. -/
def execImgApply (sl : Nat) (img : ImgContent) (s : State) : Host.Outcome State Fault Refusal :=
  run (decide (sl < 2)) (imgApply sl img s)

/-- IMAGE_COMMAND_COMPLETE: R340, R357. -/
def execImageCommandComplete (s : State) : Host.Outcome State Fault Refusal :=
  .next (imageCommandComplete s)

/-- BOOT_RECORDS_READ: R326, R331, R334, R336, R339, R364, R366. -/
def execBootRecordsRead (s : State) : Host.Outcome State Fault Refusal :=
  .next (bootRecordsRead s)

/-- BOOT_VERIFY_RESULT: R27, R325, R327, R336, R339, R364, R367, R368. -/
def execBootVerifyResult (ruleA : Option RuleItem) (imgA : ImgContent) (ruleB : Option RuleItem) (imgB : ImgContent) (s : State) : Host.Outcome State Fault Refusal :=
  .next (bootVerifyResult ruleA imgA ruleB imgB s)

end Sys2Proof.Machine
end

