-- ==== Sys2Proof/Machine/Faults.lean ====
section
/-! DEFINITION. Faults, injection, wear and spares (R379 to R399, R453). -/

namespace Sys2Proof.Machine

/-! ### Collectors (R382 to R390) -/

/-- The classes that an event's causes have (R380), each with whether it is a notice; a number not listed is never raised. -/
def causesOf (ev : Nat) : List (Nat × Bool) :=
  if ev < 32 then
    match ev with
    | 0 => [(2, false)]
    | 1 | 2 | 3 | 4 | 6 | 20 | 22 => [(0, true)]
    | 5 | 7 => [(0, false)]
    | 8 => [(1, false)]
    | 21 => [(1, true)]
    | _ => []
  else if ev < 160 then
    match ev % 32 with
    | 0 | 2 | 5 | 16 => [(0, false)]
    | 1 | 3 | 6 => [(1, false)]
    | 4 | 19 => [(2, false)]
    | 7 | 9 | 15 | 17 | 18 => [(0, false), (1, false)]
    | 8 | 11 | 12 | 13 => [(0, true)]
    | 10 | 14 => [(1, true)]
    | _ => []
  else if ev < 224 then
    match ev % 4 with
    | 0 => [(1, false)]
    | 1 => [(0, false)]
    | 2 => [(0, false), (1, false)]
    | _ => [(0, true)]
  else if ev < 352 then [(0, false), (1, false), (1, true)]
  else if ev < 480 then (if ev % 2 = 0 then [(0, false), (0, true)] else [(1, false), (1, true)])
  else
    match ev with
    | 480 | 488 | 498 => [(0, true)]
    | 481 | 492 | 499 | 507 => [(0, false)]
    | 482 | 489 | 491 | 497 | 504 => [(1, false)]
    | 490 => [(2, false)]
    | 496 | 505 | 506 => [(1, true)]
    | _ => []

/-- A unit reports a cause: one that is not a notice reaches its collector (R382, R383), a notice is only queued (R379), and a cause that R380 does not list is never raised. -/
def faultCause (ev cls detail : Nat) (inj : Bool) (s : State) : State :=
  if (causesOf ev).contains (cls, false) then s.recordCause ev cls detail inj
  else if (causesOf ev).contains (cls, true) then s.queueEvent ev cls detail
  else s

/-- The ACTIVE bit of an event (R384). -/
def State.active (s : State) (ev : Nat) : Bool := bitOf (s.get FLT_ACTIVE.ACTIVE (ev / 64)) (ev % 64)

/-- A 1 written to FLT_REC.PEND (R384): performed only while the recorded event is not active. -/
def fltPendClear (c : Nat) (s : State) : State :=
  if s.active (s.get FLT_REC0.EVENT c) then s else (s.set FLT_REC0.PEND c 0).updFaultN

/-- A 1 written to FLT_REG_STAT.FATAL (R384). -/
def fltFatalClear (r : Nat) (s : State) : State :=
  if s.active (s.get FLT_REG_STAT.FATAL_EVT r) then s else s.set FLT_REG_STAT.FATAL r 0

/-- Region control state is lost (R380, R385): event 32 + 32r + 4, fatal. -/
def regionFence (r : Nat) (s : State) : State := s.cause (32 + 32 * r + 4) 2 0

/-- A cause of class fatal with scope chip (R388). -/
def chipFatalCause (ev : Nat) (s : State) : State := (s.cause ev 2 0).chipFatal ev

/-- The lines of a lost home found in its retained trackers and write buffer become P with PCAUSE TIMEOUT (R387). -/
def State.scanHome (s : State) (n : Nat) : State :=
  let mine := (s.txns.filter fun t => t.slice = n).map fun t => (t.req.poa / 64, t.req.agent.getD 0)
  let held := (s.wbuf.filter fun w => w.1 = n && !mine.any fun x => x.1 = w.2.1).map fun w => (w.2.1, 0)
  let s := (mine ++ held.dedup).foldl (fun (u : State) x =>
    let u := match u.dirAddr x.1 with
      | some a => u.setDir n a (dirEncode (dirP 1))
      | none => u
    u.poisonLine n x.1 1 x.2) s
  let s := { s with txns := s.txns.filter fun t => t.slice ≠ n, wbuf := s.wbuf.filter fun w => w.1 ≠ n, trkWait := s.trkWait.filter fun w => w.1 ≠ n }
  s.showTrackers n

/-- A region's reload fails, or it is fenced again (R364, R387): FENCED, event 2. -/
def State.recoveryFails (s : State) (r : Nat) : State :=
  ((s.set FLT_REG_STAT.STATE r 1).notice 2 0 r).updMode.updFaultN

/-- The scan of a lost home (R387): an uncorrectable error fails the region's reload, or leaves the slice out of service. -/
def lostHomeScan (n : Nat) (ok : Bool) (s : State) : State :=
  let r := s.sliceRegion n
  if ok then (s.scanHome n).set FLT_REG_STAT.SCAN_FAIL r 0
  else
    let s := s.set FLT_REG_STAT.SCAN_FAIL r 1
    if s.regionState r = 2 then s.recoveryFails r else s

/-- EMBER (R389): high in the first half of each 1/1,024 s interval of fabric time; it holds its level once the chip is fatal, and is low in RESET. -/
def emberToggle (s : State) : State :=
  if s.flag FLT_STAT.EMBER_RUN 0 ∧ s.phase ≠ .reset then { s with ember := s.tim.ns * 2048 / 1000000000 % 2 = 0 } else s

/-! ### Fault injection (R391) -/

/-- The duplicated table, entry, register and index that a table-window word number names. -/
def dupWord (word' : Nat) : Option (DupTable × RegKind × Nat) :=
  let off := 8 * word'
  let at' := fun (k : RegKind) (i : Nat) => decide (drsAddr k i - 0x10000000 = off)
  let p := fun (k : RegKind) => k.place
  let idx := fun (k : RegKind) => (off - (p k).off) / (p k).stride1
  if off < 0x1000000 then
    let i := idx .ROUTE_ENTRY
    if i < 34304 ∧ at' .ROUTE_ENTRY i then some (.route, .ROUTE_ENTRY, i) else none
  else if off < 0x2000000 then
    [RegKind.WIN_W0, .WIN_W1, .WIN_W2].findSome? fun k =>
      let i := idx k
      if i < 4096 ∧ at' k i then some (.window, k, i) else none
  else if off < 0x3000000 then
    [RegKind.L1_W0, .L1_W1].findSome? fun k =>
      let i := idx k
      if i < 65536 ∧ at' k i then some (.l1, k, i) else none
  else none

/-- The regions adjacent to a region. -/
def adjacent (r : Nat) : List Nat := if r = 0 ∨ r = 3 then [1, 2] else [0, 3]

/-- UNIT and INDEX name something of a TARGET (R391). -/
def State.injTargetOk (s : State) (target unit index : Nat) : Bool :=
  match target with
  | 1 => decide (unit < 64) && decide (index < 16384)
  | 2 => decide (unit < 16) && decide (dirBase / 64 ≤ index) && decide (index < s.l2Base / 64)
  | 3 => decide (unit < 128) && decide (index < 32768)
  | 4 => decide (unit < 64) && decide (index < 4)
  | 5 => decide (unit < 4) && ((adjacent unit).contains index || index = 4 || index = 5)
  | 6 =>
    decide (unit < 4) &&
      match dupWord index with
      | some (.window, _, i) => i / 1024 = unit
      | some _ => true
      | none => false
  | 7 => decide (index < hbmSize / 64)
  | _ => false

/-- An injection's result (R398). -/
def State.injDone (s : State) (status : Nat) : State :=
  ({ s with inj := none }.set FLT_INJ_RES.STATUS 0 status).resultDone FLT_INJ_RES.SEQ FLT_INJ_RES.VALID 0

/-- A write of FLT_INJ_CTL (R391): refused while injection is not enabled or one is armed, or for GO with MODE 0; GO on nothing completes BAD_TARGET. -/
def fltInjGo (value : Word) (s : State) : State :=
  let mode := value.field 5 4
  let go := value.field 21 21 = 1
  let target := value.field 3 0
  let unit := value.field 19 12
  let index := value.field 63 24
  if !s.flag FLT_CFG.INJ_EN 4 ∨ s.inj.isSome ∨ (go ∧ mode = 0) then s.refuseWrite .FLT_INJ_CTL 0
  else if !go then s
  else
    let s := s.resultStart FLT_INJ_RES.VALID 0
    if s.injTargetOk target unit index then { s with inj := some ⟨target, unit, index, value.field 20 20, mode, value.field 11 6⟩ }
    else s.injDone 2

/-- The condition that a mode's inverted check bits give: 1 corrected, 2 uncorrectable. -/
def injCond (mode : Nat) : Nat := if mode = 1 then 1 else 2

/-- An armed injection's flit at a crossing (R391): the next through one of the inputs. -/
def State.injectCrossing (s : State) (places : List (Nat × Nat)) (c : Nat) : State :=
  match places.find? fun x => !(s.crossing x.1 x.2).isEmpty with
  | some x => crossingFlitArrival x.1 x.2 c true (s.injDone 0)
  | none => s

/-- The inputs of region r's routers that a crossing leads to: 0 to 3 from an adjacent region, 4 from the I/O die, 5 to it. -/
def crossingPlaces (r from' : Nat) : List (Nat × Nat) :=
  let rts := (List.range 16).map (16 * r + ·)
  if from' = 4 then rts.map fun n => (n, 4)
  else if from' = 5 then rts.map fun n => (n, 7)
  else (rts.flatMap fun n => (List.range 4).map fun i => (n, i)).filter fun x => neighbour x.1 x.2 / 16 = from'

/-- The armed injection meets its write or flit (R391): the check bits of that word are inverted. A stored word keeps its condition until it is read; a flit is checked as it moves, and with
none to move the injection stays armed. -/
def injectionApply (s : State) : State :=
  match s.inj with
  | none => s
  | some j =>
    let c := injCond j.mode
    match j.target with
    | 1 => (s.injDone 0).cause (32 + 32 * (j.unit / 16) + (c - 1)) (c - 1) j.index true
    | 2 =>
      let s := s.injDone 0
      let k := dirSet j.unit (64 * j.index)
      let s := match (s.dirBlocks k).find? fun b => b.addr = j.index with
        | some b => (s.writeBack b).setDirBlocks k ((s.dirBlocks k).filter fun x => x.addr ≠ j.index)
        | none => s
      { s with hbmEcc := Tbl.wr (fun _ => 0) s.hbmEcc j.index c }
    | 3 =>
      let s := s.injDone 0
      let s := if c = 2 then s.modEngine j.unit fun x => { x with bad := if x.bad.contains (j.index / 8) then x.bad else x.bad ++ [j.index / 8] } else s
      s.cause (32 + 32 * (j.unit / 32) + (c - 1)) (c - 1) j.index true
    | 4 =>
      let m := neighbour j.unit j.index
      if m / 16 ≠ j.unit / 16 then s.injectCrossing [(m, Nat.xor j.index 1)] c
      else if (s.grant j.unit j.index).isSome then (s.injDone 0).switchFlit j.unit j.index c 0 true
      else s
    | 5 => s.injectCrossing (crossingPlaces j.unit j.index) c
    | 6 =>
      let s := s.injDone 0
      match dupWord j.index with
      | some (_, k, i) => s.putCond j.unit j.copy k i c
      | none => s
    | _ => { s.injDone 0 with hbmEcc := Tbl.wr (fun _ => 0) s.hbmEcc j.index c }

/-- No write or flit reaches the target within 1 s (R391): NOT_APPLIED. -/
def injectionTimeout (s : State) : State := if s.inj.isSome then s.injDone 1 else s

/-! ### Spares (R393 to R397) -/

/-- A spare of a pool is in use. -/
def State.useSpare (s : State) (pool : Nat) : State := s.count FLT_POOL.USED pool

/-- The NI of the unit that serves slice n. -/
def State.sliceNi (s : State) (n : Nat) : Nat :=
  let p := s.get HRT_SLICE_STAT.PHYS n
  if p = 16 then 132 else if p = 17 then 133 else 64 + 16 * (p / 4) + [5, 6, 9, 10].getD (p % 4) 5

/-- The spare slices not in use, in regions that are LIVE (R14). -/
def State.freeSlices (s : State) : List Nat :=
  [16, 17].filter fun k => s.live (k - 15) && (List.range 16).all fun n => s.get HRT_SLICE_STAT.PHYS n ≠ k

/-- A spare takes a slice's number (R394): the cache blocks are written back, where the slice has not failed; every NI switches, the pool and the repair map show it, event 5; for HOLD_NS the
spare sends no BISnp. -/
def State.switchSlice (s : State) (n spare : Nat) (failed : Bool) : State :=
  let s := (List.range 4096).foldl (fun (t : State) k =>
    let l := t.dirBlocks (4096 * n + k)
    if l.isEmpty then t else ((if failed then [] else l).foldl (fun (u : State) b => u.writeBack b) t).setDirBlocks (4096 * n + k) []) s
  let s := s.set HRT_SLICE_STAT.PHYS n spare
  let s := s.set HRT_SLICE_STAT.SPARE n 1
  let s := { s with repairMap.slices := Tbl.wr (fun _ => none) s.repairMap.slices n (some spare), spareUntil := Tbl.wr (fun _ => 0) s.spareUntil n (s.clk + s.get HRT_CFG.HOLD_NS 0) }
  (s.useSpare 4).cause 5 0 n

/-- The slice's replacement is what a RETIRE_SLICE waits for. -/
def State.retireDone (s : State) (n status : Nat) : State :=
  if s.retiring = some n then
    ({ s with retiring := none }.set FLT_REPAIR_RES.STATUS 0 status).resultDone FLT_REPAIR_RES.SEQ FLT_REPAIR_RES.VALID 0
  else s

/-- A spare slice replaces Hn (R387, R394): proactively once its trackers have completed; on a fault its NI is quenched with UNIT_DOWN and the scan runs first, and with no spare, or a scan that
meets an uncorrectable error, the number stays quenched. -/
def spareSliceReplace (n : Nat) (fault scanOk : Bool) (s : State) : State :=
  let spare := s.freeSlices.head?
  if fault then
    let ni := s.sliceNi n
    let s := s.quench ni ⟨5, true, 0⟩
    if !scanOk then s.set FLT_REG_STAT.SCAN_FAIL (s.sliceRegion n) 1
    else
      let s := s.scanHome n
      match spare with
      | some k => ((s.switchSlice n k true).dropTriggers ni fun t => t.code = 5).retireDone n 0
      | none => s.unmet 4
  else if s.txns.any (fun t => t.slice = n) || s.wbuf.any fun w => w.1 = n then s
  else
    match spare with
    | some k => (s.switchSlice n k false).retireDone n 0
    | none => if s.retiring = some n then s.retireDone n 2 else s.unmet 4

/-- The spare of an engine's cluster pair is in use (R14). -/
def State.engineSpareUsed (s : State) (e : Nat) : Bool := s.repairMap.engines.any fun x => x / 16 = e / 16

/-- A spare takes an engine's number and program (R395): granting stops, a running job ends normally or, on a fault, ABORTED; then the engine loads. -/
def State.switchEngine (s : State) (e : Nat) (fault : Bool) : State :=
  let s := if fault then s.resetEngine e 3
    else
      let s := s.modEngine e fun x => { x with reload := true }
      if (s.jobRun e).isNone then s.engineNext e true else s
  let s := { s with repairMap.engines := s.repairMap.engines ++ [e] }
  ((s.useSpare 3).cause (32 + 32 * (e / 32) + 17) 0 e).cause (224 + e) 0 e

/-- A cluster with no engine left in service is out of service (R161): its NI is quenched with UNIT_DOWN (log entry 91). -/
def State.clusterOut (s : State) (c : Nat) : State :=
  match s.endpointNi (144 + c) with
  | some n => if s.get TNG_CL_STAT.LIVE c = 0 then s.quench n ⟨5, true, 0⟩ else s
  | none => s

/-- A spare engine replaces engine e, or the pool is exhausted (R393, R395): on a fault the engine is then out of service. -/
def spareEngineReplace (e : Nat) (fault : Bool) (s : State) : State :=
  if !s.engineSpareUsed e then s.switchEngine e fault
  else
    let s := (s.cause (32 + 32 * (e / 32) + 17) 1 e).unmet 3
    if fault then
      let s := s.setBit TNG_CL_STAT.LIVE (e / 8) (e % 8) false
      ((s.resetEngine e 3).clusterOut (e / 8)).cause (224 + e) 1 e
    else s

/-- A row repaired in a pool, or its pool exhausted (R393): the event, the pool, the repair map. -/
def State.rowRepair (s : State) (pool ev detail : Nat) (spare : Bool) : State :=
  if spare then
    let s := { s with repairMap.rows := Tbl.wr (fun _ => 0) s.repairMap.rows pool (Tbl.rd (fun _ => 0) s.repairMap.rows pool + 1) }
    (s.useSpare pool).cause ev 0 detail
  else (s.cause ev 1 detail).unmet pool

/-- An SRAM row copied to a spare and remapped, or retired (R393). -/
def sramSoftRepair (r : Nat) (spare : Bool) (s : State) : State := s.rowRepair 2 (32 + 32 * r + 18) r spare

/-- An HBM row repaired by soft PPR (R393): its contents are kept, and the correctable error goes with the row. -/
def hbmSoftPpr (ch line : Nat) (spare : Bool) (s : State) : State :=
  let s := s.rowRepair 5 (32 + 32 * (ch / 8) + 7) ch spare
  if spare ∧ Tbl.rd (fun _ => 0) s.hbmEcc line = 1 then { s with hbmEcc := Tbl.wr (fun _ => 0) s.hbmEcc line 0 } else s

/-- The slope of a lane's margin over its samples, as a fraction (R392): numerator, and a denominator that is not negative, of the least-squares fit. -/
def marginSlope (l : List (Nat × Nat)) : Int × Int :=
  let n : Int := l.length
  let t : Int := (l.map (·.1)).sum
  let m : Int := (l.map (·.2)).sum
  let tm : Nat := (l.map fun x => x.1 * x.2).sum
  let tt : Nat := (l.map fun x => x.1 * x.1).sum
  (n * tm - t * m, n * tt - t * t)

/-- The trend predicts that a margin not yet below MARGIN_THR crosses it within MARGIN_H hours of the last sample (R392; log entry 84). -/
def marginFalls (l : List (Nat × Nat)) (now thr hours : Nat) : Bool :=
  let k := marginSlope l
  decide (thr ≤ now) && decide (0 < k.2) && decide ((now : Int) * k.2 + k.1 * (3600 * hours) < thr * k.2)

/-- A margin sample of a lane circuit (R50, R61, R392): shown, kept with those of the last 24 h, and below MARGIN_THR its lane is marked. -/
def State.marginSample (s : State) (c m : Nat) : State :=
  let now := s.clk / 1000000000
  let l := (Tbl.rd (fun _ => []) s.margins c).filter (fun x => decide (now ≤ x.1 + 86400)) ++ [(now, m)]
  let s := { s.set PRT_LANE_STAT.MARGIN c m with margins := Tbl.wr (fun _ => []) s.margins c l }
  match s.circuitPair (c / 9) (c % 9) with
  | some k => if m < s.get PRT_SPARE_CTL.MARGIN_THR (c / 9) then s.markLane (c / 9) k else s
  | none => s

/-- The region of a monitored cell: 0 router, 1 engine, 2 slice, 3 port-block PHY, 4 HBM controller, 5 lane circuit, 6 SRAM row (its region in the low two bits), 7 wire. -/
def State.wearRegion (s : State) (what u : Nat) : Nat :=
  match what with
  | 1 => u / 32 % 4
  | 2 => s.sliceRegion (u % 16)
  | 4 => u / 8 % 4
  | 5 => u / 9 / 16 % 4
  | 6 => u % 4
  | 7 => u / 64 % 4
  | _ => u / 16 % 4

/-- What a monitor's sample leaves: the errors or the margin kept; and whether it triggers (R392): an aging sensor slow by more than AGE_PPM, a margin that falls, a row or wire over its errors
in an hour. -/
def State.wearMeet (s : State) (what u value : Nat) : State × Bool :=
  match what with
  | 5 =>
    let s := s.marginSample (u % 576) value
    (s, marginFalls (Tbl.rd (fun _ => []) s.margins (u % 576)) value (s.get PRT_SPARE_CTL.MARGIN_THR (u % 576 / 9)) (s.get FLT_WEAR_CFG.MARGIN_H 0))
  | 6 => let s := s.wearAdd 6 u value; (s, decide (s.get FLT_WEAR_CFG.SRAM_RATE 0 < s.wearCount 6 u))
  | 7 => let s := s.wearAdd 7 u value; (s, decide (s.get FLT_WEAR_CFG.WIRE_THR 0 < s.wearCount 7 u))
  | _ => (s, decide (s.get FLT_WEAR_CFG.AGE_PPM 0 < value))

/-- A wear monitor samples its cell (R392): `value` is the parts per million by which an aging sensor is slow, a lane's margin, or the corrected errors of a row or wire since the last sample.
A trigger raises event 32 + 32r + 16, counts, and where the pool's AUTO is 1 brings a spare in. -/
def wearSample (what u value : Nat) (s : State) : State :=
  let (s, trigger) := s.wearMeet what u value
  if !trigger then s
  else
    let r := s.wearRegion what u
    let s := s.cause (32 + 32 * r + 16) 0 u
    let s := s.count (match what with | 5 => FLT_WEAR_CNT.MARGIN | 6 => FLT_WEAR_CNT.SRAM | 7 => FLT_WEAR_CNT.WIRE | _ => FLT_WEAR_CNT.AGING) 0
    let auto := fun p => s.flag FLT_POOL.AUTO p
    match what with
    | 1 => if auto 3 then spareEngineReplace (u % 128) false s else s
    | 2 => if auto 4 then spareSliceReplace (u % 16) false true s else s
    | 5 =>
      match s.circuitPair (u % 576 / 9) (u % 9) with
      | some k => if auto 0 then s.markLane (u % 576 / 9) k else s
      | none => s
    | 6 => if auto 2 then sramSoftRepair r (decide (s.get FLT_POOL.USED 2 < s.get FLT_POOL.TOTAL 2)) s else s
    | 7 => linkWireSpare (u / 4 % 64) (u % 4) (u / 256) s
    | _ => s

/-! ### FLT_REPAIR_CMD (R393, R398, R453) -/

/-- A repair command with its status at once; one that runs makes a write not performed. -/
def State.repairCommand (s : State) (f : State → State × Nat) : State :=
  if s.retiring.isSome then s.refuseWrite .FLT_REPAIR_CMD 0
  else
    let (t, st) := f (s.resultStart FLT_REPAIR_RES.VALID 0)
    (t.set FLT_REPAIR_RES.STATUS 0 st).resultDone FLT_REPAIR_RES.SEQ FLT_REPAIR_RES.VALID 0

/-- CLEAR_LANE: NOT_DOWN unless both halves read DOWN; else the block's spare is free and its demand ends (R54, R396). -/
def clearLane (u : Nat) (s : State) : State :=
  s.repairCommand fun s =>
    if 64 ≤ u then (s, 3)
    else if s.get PRT_LINK_STATUS.STATE (2 * u) ≠ 0 ∨ s.get PRT_LINK_STATUS.STATE (2 * u + 1) ≠ 0 then (s, 1)
    else
      let s := if s.flag PRT_LANE_MAP.SPARE_USED u then s.set FLT_POOL.USED 0 (s.get FLT_POOL.USED 0 - 1) else s
      let s := s.set PRT_LANE_MAP.SPARE_USED u 0
      let s := s.set PRT_LANE_MAP.SPARE_LANE u 0
      let s := s.set PRT_LANE_MAP.SPARE_KIND u 0
      let s := { s with repairMap.lanes := Tbl.wr (fun _ => none) s.repairMap.lanes u none }
      (s.updLanePool, 0)

/-- RETIRE_ENGINE: NO_SPARE changes nothing (R453). -/
def retireEngine (u : Nat) (s : State) : State :=
  s.repairCommand fun s =>
    if 128 ≤ u then (s, 3) else if s.engineSpareUsed u then (s, 2) else (s.switchEngine u false, 0)

/-- RETIRE_SLICE: NO_SPARE changes nothing; else the spare takes over once the slice has drained (R394, R453). -/
def retireSlice (u : Nat) (s : State) : State :=
  if s.retiring.isNone ∧ u < 16 ∧ !s.freeSlices.isEmpty then
    spareSliceReplace u false true { s.resultStart FLT_REPAIR_RES.VALID 0 with retiring := some u }
  else s.repairCommand fun s => (s, if 16 ≤ u then 3 else 2)

/-! ### DEGRADED (R396) -/

/-- A 1 written to FLT_STAT.DEG: performed only while no pool has unmet demand; event 6. -/
def degClear (s : State) : State :=
  if s.flag FLT_STAT.DEG 0 ∧ (List.range 6).all fun p => !s.flag FLT_POOL.UNMET p then
    (((s.set FLT_STAT.DEG 0 0).notice 6 0 0).setActive 6 false).updMode.updFaultN
  else s

/-- A pool cannot meet a demand. -/
def poolUnmetDemand (p : Nat) (s : State) : State := s.unmet p

/-! ### Meanings -/

/-- FAULT_CAUSE: R13, R380, R381, R382, R383, R390. -/
def execFaultCause (ev : Nat) (cls : Nat) (detail : Nat) (inj : Bool) (s : State) : Host.Outcome State Fault Refusal :=
  run (decide (ev < 512)) (faultCause ev cls detail inj s)

/-- FLT_PEND_CLEAR: R384, R390, R398. -/
def execFltPendClear (c : Nat) (s : State) : Host.Outcome State Fault Refusal :=
  run (decide (c < 5)) (fltPendClear c s)

/-- FLT_FATAL_CLEAR: R384, R399. -/
def execFltFatalClear (r : Nat) (s : State) : Host.Outcome State Fault Refusal :=
  run (decide (r < 4)) (fltFatalClear r s)

/-- REGION_FENCE: R13, R15, R19, R44, R109, R156, R188, R277, R361, R363, R364, R385, R386, R387, R390, R426. -/
def execRegionFence (r : Nat) (s : State) : Host.Outcome State Fault Refusal :=
  run (decide (r < 4)) (regionFence r s)

/-- LOST_HOME_SCAN: R15, R387. -/
def execLostHomeScan (n : Nat) (ok : Bool) (s : State) : Host.Outcome State Fault Refusal :=
  run (decide (n < 16)) (lostHomeScan n ok s)

/-- CHIP_FATAL: R13, R363, R388, R389, R390. -/
def execChipFatalCause (ev : Nat) (s : State) : Host.Outcome State Fault Refusal :=
  run (decide (ev < 512)) (chipFatalCause ev s)

/-- EMBER_TOGGLE: R389. -/
def execEmberToggle (s : State) : Host.Outcome State Fault Refusal :=
  .next (emberToggle s)

/-- FLT_INJ_GO: R391, R398. -/
def execFltInjGo (value : Word) (s : State) : Host.Outcome State Fault Refusal :=
  .next (fltInjGo value s)

/-- INJECTION_APPLY: R391. -/
def execInjectionApply (s : State) : Host.Outcome State Fault Refusal :=
  .next (injectionApply s)

/-- INJECTION_TIMEOUT: R391. -/
def execInjectionTimeout (s : State) : Host.Outcome State Fault Refusal :=
  .next (injectionTimeout s)

/-- WEAR_SAMPLE: R50, R392, R393. -/
def execWearSample (what : Nat) (u : Nat) (value : Nat) (s : State) : Host.Outcome State Fault Refusal :=
  .next (wearSample what u value s)

/-- SPARE_SLICE_REPLACE: R14, R393, R394. -/
def execSpareSliceReplace (n : Nat) (fault : Bool) (scanOk : Bool) (s : State) : Host.Outcome State Fault Refusal :=
  run (decide (n < 16)) (spareSliceReplace n fault scanOk s)

/-- SPARE_ENGINE_REPLACE: R14, R259, R278, R393, R395. -/
def execSpareEngineReplace (e : Nat) (fault : Bool) (s : State) : Host.Outcome State Fault Refusal :=
  run (decide (e < 128)) (spareEngineReplace e fault s)

/-- SRAM_SOFT_REPAIR: R393. -/
def execSramSoftRepair (r : Nat) (spare : Bool) (s : State) : Host.Outcome State Fault Refusal :=
  run (decide (r < 4)) (sramSoftRepair r spare s)

/-- HBM_SOFT_PPR: R393. -/
def execHbmSoftPpr (ch : Nat) (line : Nat) (spare : Bool) (s : State) : Host.Outcome State Fault Refusal :=
  run (decide (ch < 32)) (hbmSoftPpr ch line spare s)

/-- CLEAR_LANE: R54, R396, R398. -/
def execClearLane (u : Nat) (s : State) : Host.Outcome State Fault Refusal :=
  .next (clearLane u s)

/-- RETIRE_ENGINE: R398, R453. -/
def execRetireEngine (u : Nat) (s : State) : Host.Outcome State Fault Refusal :=
  .next (retireEngine u s)

/-- RETIRE_SLICE: R398, R453. -/
def execRetireSlice (u : Nat) (s : State) : Host.Outcome State Fault Refusal :=
  .next (retireSlice u s)

/-- DEG_CLEAR: R390, R396, R398. -/
def execDegClear (s : State) : Host.Outcome State Fault Refusal :=
  .next (degClear s)

/-- POOL_UNMET_DEMAND: R361, R390, R396. -/
def execPoolUnmetDemand (p : Nat) (s : State) : Host.Outcome State Fault Refusal :=
  run (decide (p < 6)) (poolUnmetDemand p s)

end Sys2Proof.Machine
end

