-- ==== Sys2Proof/Machine/Slots.lean ====
section
/-! DEFINITION. The slot power policy (R423 to R432): polls, the slot chain, turning on and off, trips and retry, the pass FET, early warning, removal. -/

namespace Sys2Proof.Machine

/-! ### What the policy sees and drives -/

/-- Slot policy runs from entry to PROVISION on (R426), for the slots that the image defines. -/
def State.slotRuns (s : State) (n : Nat) : Bool := (s.phase = .provision || s.phase = .operating) && s.flag SLT_CFG.VALID n

/-- The record detail of events 496 to 499 (R433). -/
def State.slotDetail (s : State) (n : Nat) : Nat := n + s.get SLT_STAT.CAUSE n * 2 ^ 8

/-- The slot is commanded on (R427): ADMIN, HOST_ON, presence stable for 100 ms. -/
def State.commandedOn (s : State) (n : Nat) : Bool := s.flag SLT_CTL.ADMIN n && s.flag SLT_STAT.HOST_ON n && s.flag SLT_STAT.PRSNT n

/-- A field of the slot's profile. -/
def State.profile (s : State) (F : Fld) (n : Nat) : Nat := s.get F (s.get SLT_CFG.PROFILE n)

/-- The current limit written to the HSC. -/
def State.writeLimit (s : State) (n value : Nat) : State := (s.setSlot n { s.slot n with limit := value }).emit (.pmbus n (.limit value))

/-- The slot's vPPBs while its port is bound. -/
def State.slotBound (s : State) (n : Nat) : List Nat := s.boundTo (s.get SLT_CFG.PORT n)

/-- The output bits of a slot (R425, R431): the indicators follow the host while the port is bound, the state while it is not. -/
def State.slotOut (s : State) (n : Nat) : Nat :=
  let x := s.slot n
  let st := s.get SLT_STAT.STATE n
  let bound := !(s.slotBound n).isEmpty
  let attn := if bound then x.attn else decide (st = 5 ∨ st = 6)
  let pwr := if bound then x.pwrInd else decide (st = 3)
  bit x.pwrEn + 2 * bit x.perstN + 4 * bit x.pwrbrkN + 8 * bit attn + 16 * bit pwr

/-- Power removed at once (R428, R431): PERST_N and PWR_EN fall together. -/
def State.cutPower (s : State) (n : Nat) : State :=
  s.setSlot n { s.slot n with perstN := false, pwrEn := false, offPend := false, offAt := s.clk, voutHigh := 0, pgHigh := 0 }

/-- The power-on sequence begins (R427, R432): the inrush limit, CLEAR_FAULTS, PWR_EN; with presence lost in that frame PWR_EN stays 0. -/
def State.slotTurnOn (s : State) (n : Nat) (retry : Bool) : State :=
  if (s.slot n).absent ≠ 0 then s
  else
    let s := (s.writeLimit n (s.profile SLT_PROF.ILIM_INR n)).emit (.pmbus n .clearFaults)
    let s := s.setSlot n { s.slot n with pwrEn := true, offPend := false, perstN := false, retrying := retry, onAt := s.clk, pgLow := 0 }
    s.set SLT_STAT.STATE n 1

/-! ### Polls and frames -/

/-- A successful poll of a slot: one result under R357, and the runs of low VIN and of VOUT present while off. -/
def State.slotMeasured (s : State) (n vin vout iout pin energy : Nat) : State :=
  let s := (s.set SLT_MEAS0.VIN n vin).set SLT_MEAS0.VOUT n vout
  let s := (s.set SLT_MEAS0.IOUT n iout).set SLT_MEAS1.PIN n pin
  let s := s.set SLT_MEAS2.ENERGY n (s.get SLT_MEAS2.ENERGY n + energy)
  let s := (s.resultDone SLT_MEAS3.SEQ SLT_MEAS3.VALID n).set SLT_STAT.TEL_LOST n 0
  let x := s.slot n
  let off := s.get SLT_STAT.STATE n = 0 && !x.pwrEn && decide (x.offAt + 100000000 ≤ s.clk)
  s.setSlot n { x with
    badPolls := 0, vinOkAt := if s.get SLT_CFG.PWRBRK_MV n + 100 < vin then some (x.vinOkAt.getD s.clk) else none, vinLow := if vin < s.get SLT_CFG.PWRBRK_MV n then x.vinLow + 1 else 0,
    voutHigh := if off && decide (s.get SLT_CFG.FET_MV n < vout) then x.voutHigh + 1 else 0 }

/-- PMBUS_POLL (R424): a transaction that fails is retried once; if that fails too PMB_ERR and event 499, and TEL_LOST after 3 failed polls in a row. -/
def pmbusPoll (n : Nat) (first retry : Bool) (vin vout iout pin energy : Nat) (s : State) : State :=
  if !s.slotRuns n then s
  else if first || retry then s.slotMeasured n vin vout iout pin energy
  else
    let x := s.slot n
    let s := (s.setSlot n { x with badPolls := x.badPolls + 1 }).count SLT_STAT.PMB_ERR n
    let s := s.cause 499 0 (s.slotDetail n)
    if 3 ≤ x.badPolls + 1 then s.set SLT_STAT.TEL_LOST n 1 else s

/-- The input bits of a slot taken (R425, R427): presence stable for 100 ms, PGOOD, ALERT_N. -/
def State.slotIn (s : State) (n inp : Nat) : State :=
  let x := s.slot n
  let here := !bitOf inp 0
  let pg := bitOf inp 1
  let at' := if here then some (x.presentAt.getD s.clk) else none
  let off := s.get SLT_STAT.STATE n = 0 && !x.pwrEn && decide (x.offAt + 100000000 ≤ s.clk)
  let s := s.setSlot n { x with
    absent := if here then 0 else x.absent + 1, presentAt := at', alert := !bitOf inp 2,
    pgLow := if pg then 0 else x.pgLow + 1, pgHigh := if off && pg then x.pgHigh + 1 else 0 }
  let s := s.set SLT_STAT.PGOOD n (bit pg)
  match at' with
  | some t => if t + 100000000 ≤ s.clk then s.set SLT_STAT.PRSNT n 1 else s
  | none => s

/-- PWR_EN that was to fall at this frame falls (R427). -/
def State.slotFrameOut (s : State) (n : Nat) : State :=
  let x := s.slot n
  if x.offPend then s.setSlot n { x with pwrEn := false, offPend := false, offAt := s.clk, voutHigh := 0, pgHigh := 0 } else s

/-- SLOT_CHAIN_FRAME (R425, R426): the inputs of every slot are taken and the outputs shifted out; nothing while SLT_RST_N is low. -/
def slotChainFrame (inputs : List Nat) (s : State) : State :=
  if s.phase ≠ .provision ∧ s.phase ≠ .operating then s
  else
    let s := s.each ((List.range 64).filter s.slotRuns) fun n t => (t.slotIn n (inputs.getD n 5)).slotFrameOut n
    s.emit (.slotFrame ((List.range 64).map s.slotOut))

/-! ### Turning on and off (R427) -/

/-- SLOT_COMMANDED_ON (R427, R431): from OFF, once a cycle's wait is over. -/
def slotCommandedOn (n : Nat) (s : State) : State :=
  if s.slotRuns n && s.get SLT_STAT.STATE n = 0 && s.commandedOn n && decide ((s.slot n).waitUntil ≤ s.clk) then s.slotTurnOn n false else s

/-- SLOT_PGOOD (R427). -/
def slotPgood (n : Nat) (s : State) : State :=
  if s.get SLT_STAT.STATE n = 1 ∧ s.flag SLT_STAT.PGOOD n then s.set SLT_STAT.STATE n 2 else s

/-- SLOT_SETTLE_END (R427): the running limit. -/
def slotSettleEnd (n : Nat) (s : State) : State :=
  if s.get SLT_STAT.STATE n = 2 then (s.writeLimit n (s.profile SLT_PROF.ILIM_RUN n)).set SLT_STAT.STATE n 3 else s

/-- SLOT_PERST_RELEASE (R427, R44): PERST_N rises and bring-up begins. -/
def slotPerstRelease (n : Nat) (s : State) : State :=
  if s.get SLT_STAT.STATE n = 3 then (s.setSlot n { s.slot n with perstN := true }).bringUpAlone (s.get SLT_CFG.PORT n) else s

/-- SLOT_OFF_COMMAND (R427, R432): a powered slot no longer commanded on; ADMIN = 0 in RETRY_WAIT or LOCKOUT gives OFF with TRIES 0. -/
def slotOffCommand (n : Nat) (s : State) : State :=
  let st := s.get SLT_STAT.STATE n
  let on := s.flag SLT_CTL.ADMIN n && s.flag SLT_STAT.HOST_ON n
  if s.slotPowered n then (if on then s else s.slotTurnOff n)
  else if (st = 4 ∨ st = 5) ∧ !s.flag SLT_CTL.ADMIN n then (s.set SLT_STAT.STATE n 0).set SLT_STAT.TRIES n 0
  else s

/-- HOST_POWER_OFF (R70, R427): the vPPB's power control is off: the slot of its port turns off, and a managed hot-remove completes. -/
def hostPowerOff (v : Nat) (s : State) : State :=
  let st := s.get VPPB_ENTRY.STATE v
  let port := s.get VPPB_ENTRY.TARGET v % 512
  let s := s.setVppb v { s.vppb v with powerOff := true }
  let mine := (st = 1 || st = 2) && !s.flag VPPB_ENTRY.REMOTE v
  let s := if mine then s.updHostOn port else s
  let s := match s.slotOf port with
    | some n => if mine && !s.flag SLT_STAT.HOST_ON n then s.slotTurnOff n else s
    | none => s
  match (s.vppb v).op with
  | some o => if !o.bind ∧ o.option = 1 then s.unbound v o else s
  | none => s

/-! ### Trips and retry (R428, R432) -/

/-- What shows a trip of each cause. -/
def State.tripShown (s : State) (n why : Nat) : Bool :=
  let x := s.slot n
  match why with
  | 1 | 2 | 5 => x.alert
  | 3 => s.get SLT_STAT.STATE n = 1
  | 4 => decide (2 ≤ s.get SLT_STAT.STATE n) && decide (2 ≤ x.pgLow)
  | _ => false

/-- SLOT_TRIP (R428, R432): power is removed, the trip recorded with event 496; the slot waits to retry, enters LOCKOUT once RETRY_MAX retries have tripped, or goes to OFF with ADMIN = 0. -/
def slotTrip (n why : Nat) (s : State) : State :=
  if !s.slotPowered n || !s.tripShown n why then s
  else
    let x := s.slot n
    let s := ((s.cutPower n).slotLinkDown n true).emit (.pmbus n .operationOff)
    let s := (s.set SLT_STAT.CAUSE n why).count SLT_STAT.TRIPS n
    let s := s.notice 496 1 (s.slotDetail n)
    let tries := s.get SLT_STAT.TRIES n + bit x.retrying
    let s := s.set SLT_STAT.TRIES n tries
    let s := s.setSlot n { s.slot n with waitUntil := s.clk + max (s.get SLT_GCFG.RETRY_MIN_MS 0 * 1000000) (99 * (s.clk - x.onAt)) }
    if !s.flag SLT_CTL.ADMIN n then s.set SLT_STAT.STATE n 0
    else s.set SLT_STAT.STATE n (if s.get SLT_GCFG.RETRY_MAX 0 ≤ tries then 5 else 4)

/-- SLOT_RETRY (R428): the wait is over: the next attempt, or OFF where the slot is not commanded on. -/
def slotRetry (n : Nat) (s : State) : State :=
  if s.get SLT_STAT.STATE n ≠ 4 ∨ s.clk < (s.slot n).waitUntil then s
  else if s.commandedOn n then s.slotTurnOn n true
  else s.set SLT_STAT.STATE n 0

/-- SLOT_STABLE_RESET (R428): 10 s in ON. -/
def slotStableReset (n : Nat) (s : State) : State :=
  if s.get SLT_STAT.STATE n = 3 then (s.setSlot n { s.slot n with retrying := false }).set SLT_STAT.TRIES n 0 else s

/-! ### The pass FET and CLEAR (R428, R429, R432) -/

/-- FET_FAIL (R424, R429): VOUT in 3 polls or PGOOD in 2 frames of a slot that is off; suspended while telemetry is lost. -/
def fetFail (n : Nat) (s : State) : State :=
  let x := s.slot n
  if s.slotRuns n && s.get SLT_STAT.STATE n = 0 && !s.flag SLT_STAT.TEL_LOST n && (decide (3 ≤ x.voutHigh) || decide (2 ≤ x.pgHigh)) then
    let s := (s.setSlot n { x with perstN := false }).set SLT_STAT.STATE n 6
    (s.emit (.pmbus n .operationOff)).cause 497 1 (s.slotDetail n)
  else s

/-- SLT_CTL.CLEAR (R428, R429, R432): LOCKOUT ends, in OFF or, commanded on, with a new series; FET_FAIL ends only with VOUT at most FET_MV and PGOOD 0. -/
def slotClear (n : Nat) (s : State) : State :=
  match s.get SLT_STAT.STATE n with
  | 5 =>
    let s := (s.set SLT_STAT.STATE n 0).set SLT_STAT.TRIES n 0
    if s.commandedOn n then s.slotTurnOn n false else s
  | 6 =>
    if s.get SLT_MEAS0.VOUT n ≤ s.get SLT_CFG.FET_MV n ∧ !s.flag SLT_STAT.PGOOD n then
      (s.setSlot n { s.slot n with voutHigh := 0, pgHigh := 0 }).set SLT_STAT.STATE n 0
    else s
  | _ => s

/-! ### Early warning (R430) -/

/-- PWRBRK_ASSERT (R430): an input under-voltage warning with ALERT_N, VIN low in 2 polls, or SLT_CTL.PWRBRK, on a powered slot; event 498. -/
def pwrbrkAssert (n : Nat) (warning : Bool) (s : State) : State :=
  let x := s.slot n
  if s.slotPowered n && x.pwrbrkN && ((warning && x.alert) || decide (2 ≤ x.vinLow) || s.flag SLT_CTL.PWRBRK n) then
    let s := (s.setSlot n { x with pwrbrkN := false }).set SLT_STAT.PWRBRK n 1
    s.notice 498 0 (s.slotDetail n)
  else s

/-- PWRBRK_RELEASE (R430): VIN has stayed above PWRBRK_MV + 100 mV for 10 ms and SLT_CTL.PWRBRK is 0. -/
def pwrbrkRelease (n : Nat) (s : State) : State :=
  match (s.slot n).vinOkAt with
  | some t =>
    if s.flag SLT_CTL.PWRBRK n ∨ s.clk < t + 10000000 then s
    else (s.setSlot n { s.slot n with pwrbrkN := true }).set SLT_STAT.PWRBRK n 0
  | none => s

/-! ### Removal (R427, R431) -/

/-- Presence lost (R427, R431): PRSNT_N deasserted in 2 frames; a powered slot loses power with no trip, and its link as a surprise removal (R60, R79). -/
def slotPresenceLoss (n : Nat) (s : State) : State :=
  if (s.slot n).absent < 2 then s
  else
    let s := s.set SLT_STAT.PRSNT n 0
    if s.slotPowered n then
      let s := (s.cutPower n).set SLT_STAT.STATE n 0
      (s.setSlot n { s.slot n with retrying := false }).slotLinkDown n false
    else s

/-- SLT_CTL.CYCLE (R431). -/
def cycle (n : Nat) (s : State) : State := s.slotCycle n

/-- ATTENTION_BUTTON (R431): Attention Button Pressed in the slot status of the bound vPPB. -/
def attentionButton (n : Nat) (s : State) : State := s.each (s.slotBound n) fun v t => t.setVppb v { t.vppb v with attn := true }

/-! ### Meanings -/

/-- HOST_POWER_OFF: R70, R427, R432. -/
def execHostPowerOff (v : Nat) (s : State) : Host.Outcome State Fault Refusal :=
  run (decide (v < 1024)) (hostPowerOff v s)

/-- PMBUS_POLL: R357, R424, R429, R433. -/
def execPmbusPoll (n : Nat) (first : Bool) (retry : Bool) (vin : Nat) (vout : Nat) (iout : Nat) (pin : Nat) (energy : Nat) (s : State) : Host.Outcome State Fault Refusal :=
  run (decide (n < 64)) (pmbusPoll n first retry vin vout iout pin energy s)

/-- SLOT_CHAIN_FRAME: R425, R431. -/
def execSlotChainFrame (inputs : List Nat) (s : State) : Host.Outcome State Fault Refusal :=
  .next (slotChainFrame inputs s)

/-- SLOT_COMMANDED_ON: R427. -/
def execSlotCommandedOn (n : Nat) (s : State) : Host.Outcome State Fault Refusal :=
  run (decide (n < 64)) (slotCommandedOn n s)

/-- SLOT_PGOOD: R427. -/
def execSlotPgood (n : Nat) (s : State) : Host.Outcome State Fault Refusal :=
  run (decide (n < 64)) (slotPgood n s)

/-- SLOT_SETTLE_END: R427. -/
def execSlotSettleEnd (n : Nat) (s : State) : Host.Outcome State Fault Refusal :=
  run (decide (n < 64)) (slotSettleEnd n s)

/-- SLOT_PERST_RELEASE: R44, R427. -/
def execSlotPerstRelease (n : Nat) (s : State) : Host.Outcome State Fault Refusal :=
  run (decide (n < 64)) (slotPerstRelease n s)

/-- SLOT_OFF_COMMAND: R427, R432. -/
def execSlotOffCommand (n : Nat) (s : State) : Host.Outcome State Fault Refusal :=
  run (decide (n < 64)) (slotOffCommand n s)

/-- SLOT_TRIP: R427, R428, R432. -/
def execSlotTrip (n : Nat) (why : Nat) (s : State) : Host.Outcome State Fault Refusal :=
  run (decide (n < 64)) (slotTrip n why s)

/-- SLOT_RETRY: R428. -/
def execSlotRetry (n : Nat) (s : State) : Host.Outcome State Fault Refusal :=
  run (decide (n < 64)) (slotRetry n s)

/-- SLOT_STABLE_RESET: R428. -/
def execSlotStableReset (n : Nat) (s : State) : Host.Outcome State Fault Refusal :=
  run (decide (n < 64)) (slotStableReset n s)

/-- FET_FAIL: R429. -/
def execFetFail (n : Nat) (s : State) : Host.Outcome State Fault Refusal :=
  run (decide (n < 64)) (fetFail n s)

/-- SLOT_CLEAR: R428, R429, R432. -/
def execSlotClear (n : Nat) (s : State) : Host.Outcome State Fault Refusal :=
  run (decide (n < 64)) (slotClear n s)

/-- PWRBRK_ASSERT: R430. -/
def execPwrbrkAssert (n : Nat) (warning : Bool) (s : State) : Host.Outcome State Fault Refusal :=
  run (decide (n < 64)) (pwrbrkAssert n warning s)

/-- PWRBRK_RELEASE: R430. -/
def execPwrbrkRelease (n : Nat) (s : State) : Host.Outcome State Fault Refusal :=
  run (decide (n < 64)) (pwrbrkRelease n s)

/-- SLOT_PRESENCE_LOSS: R431, R432. -/
def execSlotPresenceLoss (n : Nat) (s : State) : Host.Outcome State Fault Refusal :=
  run (decide (n < 64)) (slotPresenceLoss n s)

/-- CYCLE: R431. -/
def execCycle (n : Nat) (s : State) : Host.Outcome State Fault Refusal :=
  run (decide (n < 64)) (cycle n s)

/-- ATTENTION_BUTTON: R431. -/
def execAttentionButton (n : Nat) (s : State) : Host.Outcome State Fault Refusal :=
  run (decide (n < 64)) (attentionButton n s)

end Sys2Proof.Machine
end

