-- ==== Sys2Proof/Machine/Modes.lean ====
section
/-! DEFINITION. Operating modes, resets, recovery of a region and the Banked state (R361 to R378). -/

namespace Sys2Proof.Machine

/-! ### Reset (R336, R364, R370, R371) -/

/-- What a reset leaves of the flash or key command it interrupts (R336): a COMMIT or ROTATE whose record is not complete, a revocation word that is nonzero, a root slot neither valid nor BLANK,
a floor between the old value and the new (log entry 36). -/
def State.interruptFlash (s : State) : State :=
  let s := match s.imgRun with
    | some r => if r.op = 4 ∧ r.status = 0 then s.eraseFlash r.sl recordAt 4096 else s
    | none => s
  match s.keyRun with
  | some r =>
    let free := (Config.freeWord s.freeCtr).toNat
    if r.status ≠ 0 then s
    else match r.op with
    | 2 => (s.eraseFlash s.rotateSlot keyAt 4096).eraseFlash s.rotateSlot commitAt 4096
    | 3 => { s.fresh with fuses := { s.fuses with rev := Tbl.wr (fun _ => 0) s.fuses.rev r.root (1 + free % 255) } }
    | 4 =>
      { s.fresh with fuses := { s.fuses with hash := Tbl.wr (fun _ => List.replicate 48 0) s.fuses.hash r.root r.body,
                                             valid := Tbl.wr (fun _ => 0) s.fuses.valid r.root (1 + free % 254) } }
    | 5 =>
      let old := s.svnFloor
      { s.fresh with fuses := { s.fuses with svn := s.fuses.svn ||| (2 ^ (old + free % (r.svn - old + 1)) - 1) } }
    | _ => s
  | none => s

/-- RESET (R370, R371): a first cause resets everything but the eFuse, the flash, the HBM firmware partition with its repair map, and what the outside holds; a further one extends the reset. -/
def State.enterReset (s : State) (cause rail : Nat) (lost : Bool) : State :=
  let s := if s.phase = .reset then { s with resetBy := if s.resetBy.contains cause then s.resetBy else s.resetBy ++ [cause] }
    else
      let s := s.interruptFlash
      let t := { State.reset with
        phase := .reset, out := s.out, freeCtr := s.freeCtr, pending := s.pending, flashA := s.flashA, flashB := s.flashB, fuses := s.fuses,
        hbm := s.hbm.filter (fun c => decide (c.1 < dirBase)), repairMap := s.repairMap, resetBy := [cause], clkLost := s.clkLost }
      ((t.set PWR_MODE.MODE 0 0).set PWR_RESET_STAT.CAUSE 0 cause).set PWR_RESET_STAT.RAIL 0 rail
  if lost then
    { s with hbm := [], repairMap := RepairMap.empty }.set PWR_RESET_STAT.CAUSE 0 0
  else s

/-- RESET_N low past its filter. -/
def resetNAssert (s : State) : State := s.enterReset 1 0 false

/-- A rail below its low limit for 1 µs, or power lost (R370). -/
def brownOut (rail : Nat) (lost : Bool) (s : State) : State := s.enterReset 3 rail lost

/-- PWR_CTL.REBOOT (R370). -/
def reboot (s : State) : State := s.enterReset 2 0 false

/-- RESET is left (R364 to R366): the straps are sampled and the chip enters BOOT, and from it SAFE where BOOT_SRC = 1. An eFuse slot found neither usable nor BLANK raises event 507 (R339). -/
def State.leaveReset (s : State) (role : Nat) (bootSrc : Bool) (pins : Word) : State :=
  let s := { s with resetBy := [], phase := .boot, clk := 0, tim := ⟨0, 0, 0⟩ }
  let s := s.set PWR_MODE.MODE 0 1
  let s := s.set PWR_MODE.BOOT_SRC 0 (bit bootSrc)
  let s := s.set MGT_CHIP_INFO.ROLE 0 role
  let s := s.setReg .PWR_PERST 0 pins
  let s := s.showFuses
  let s := s.each ((List.range 4).filter fun n => !s.rootUsable n && !s.rootBlank n) fun n t => t.cause 507 0 n
  if bootSrc then s.enterSafe 2 else s

/-- A cause of the reset ends (R370): with the last one the chip leaves RESET, unless SFL_REFCLK is lost, which extends the reset (R444). -/
def resetEnd (cause role : Nat) (bootSrc : Bool) (pins : Word) (s : State) : State :=
  if s.phase ≠ .reset then s
  else
    let left := s.resetBy.filter (· ≠ cause)
    if !left.isEmpty || s.clkLost.contains 16 then { s with resetBy := left } else s.leaveReset role bootSrc pins

/-! ### Reference clocks (R444) -/

/-- The ports in PCIe roles that a PCIE_REFCLK serves. -/
def State.clockPorts (s : State) (k : Nat) : List Nat := ((List.range 8).map (8 * k + ·)).filter fun p => s.portExists p && s.role p ≠ 2

/-- REFCLK_LOSS (R444): a PCIE_REFCLK takes the links of its blocks down as unplanned losses; SFL_REFCLK makes the chip fatal with event 0; no effect during RESET. -/
def refclkLoss (k : Nat) (s : State) : State :=
  let s := { s with clkLost := if s.clkLost.contains k then s.clkLost else s.clkLost ++ [k] }
  if s.phase = .reset then s
  else if k = 16 then s.cause 0 2 0
  else s.each (s.clockPorts k) fun p t =>
    t.takeDown p false

/-- REFCLK_RESTORE (R444): within limits for 100 µs: the links retrain, and a reset that waited for SFL_REFCLK alone ends. -/
def refclkRestore (k role : Nat) (bootSrc : Bool) (pins : Word) (s : State) : State :=
  let s := { s with clkLost := s.clkLost.filter (· ≠ k) }
  if k = 16 then (if s.phase = .reset ∧ s.resetBy.isEmpty then s.leaveReset role bootSrc pins else s)
  else s.each (s.clockPorts k) fun p t => t.bringUpAlone p

/-! ### TEST (R364) -/

/-- The chip is in TEST: ports whose block runs PRBS show test (R61), and the mode follows. -/
def State.inTest (s : State) : State :=
  let s := { s with phase := .test }
  (s.each ((s.listed .PRT_PRBS_CTL).filter (· < 64)) fun b t => t.showTest b).updMode.updFaultN

/-- PWR_CTL.TEST: from SAFE only; elsewhere it is not performed and is recorded. -/
def enterTest (s : State) : State := if s.phase = .safe then s.inTest else s.refuseWrite .PWR_CTL 0

/-- SLT_RST_N is driven low (R426): every slot at its reset levels, OFF. -/
def State.slotsReset (s : State) : State :=
  let s := s.each (List.range 64) fun n t => ((t.set SLT_STAT.STATE n 0).set SLT_STAT.PWRBRK n 0).set SLT_STAT.PRSNT n 0
  { s with slots := [] }

/-- EXTEST, INTEST or CLAMP loaded: every link down, and TEST, from any mode but RESET. -/
def boundaryScanTest (s : State) : State :=
  if s.phase = .reset then s
  else
    let s := s.each (List.range 64) fun b t => if t.isFabric b then t.sflDown b else t
    let s := s.each (List.range 128) fun p t => t.takeDown p false
    s.slotsReset.inTest

/-! ### BOOT to SERVICE (R366, R367, R371, R397) -/

/-- The repair map reapplied after a reset that keeps the firmware partition (R397). -/
def State.reapply (s : State) : State :=
  let s := s.repairMap.lanes.foldl (fun (t : State) x =>
    match x.2 with
    | some (k, kind) =>
      (((t.set PRT_LANE_MAP.SPARE_USED x.1 1).set PRT_LANE_MAP.SPARE_LANE x.1 k).set PRT_LANE_MAP.SPARE_KIND x.1 kind).useSpare 0
    | none => t) s
  let s := s.repairMap.wires.foldl (fun (t : State) x =>
    (t.set ANV_RTR_STAT.SPARE_USED x.1 x.2).count FLT_POOL.USED 1 (popCount 16 x.2)) s
  let s := s.repairMap.slices.foldl (fun (t : State) x =>
    match x.2 with
    | some k => ((t.set HRT_SLICE_STAT.PHYS x.1 k).set HRT_SLICE_STAT.SPARE x.1 1).useSpare 4
    | none => t) s
  let s := s.count FLT_POOL.USED 3 s.repairMap.engines.length
  s.repairMap.rows.foldl (fun (t : State) x => t.count FLT_POOL.USED x.1 x.2) s

/-- HBM initialisation completes or fails (R364, R366, R371, R453): a failure enters SAFE; the firmware partition is reused where its check passes and power was held. -/
def hbmInitDone (ok kept : Bool) (sram hbm : Nat) (s : State) : State :=
  if s.phase = .reset ∨ s.hbmReady then s
  else if !ok then (if s.phase = .boot ∨ s.phase = .verify then s.enterSafe 3 else s)
  else
    let reuse := kept && decide (s.get PWR_RESET_STAT.CAUSE 0 ≠ 0)
    let s := s.set FLT_POOL.TOTAL 2 sram
    let s := s.set FLT_POOL.TOTAL 5 hbm
    let s := s.set PWR_RESET_STAT.HBM_KEPT 0 (bit reuse)
    let s := if reuse then s.reapply
      else { s with hbm := [], repairMap := RepairMap.empty }
    { s with hbmReady := true }.tryProvision

/-- PROVISION ends (R367): every section is applied and the directory initialised at its start, so it waits for every engine to be loaded. A standalone chip has role 0 in the fabric, any
other starts unjoined (R297, R300). -/
def provisionComplete (s : State) : State :=
  if s.phase ≠ .provision ∨ (List.range 128).any fun e => s.engState e = 4 then s
  else
    let s := { s with phase := .operating }
    let s := s.set PWR_RESET_STAT.BOOT_MS 0 (min (s.clk / 1000000) 0xFFFF)
    let s := s.set MGT_FAB_STAT.ROLE_NOW 0 (if s.get MGT_CHIP_INFO.ROLE 0 = 0 then 0 else 6)
    s.updRoot.updMode.updFaultN

/-! ### Recovery of a region (R369) -/

/-- RECOVER is performed for region r. -/
def State.mayRecover (s : State) (r : Nat) : Bool := s.regionState r = 1 && !s.flag FLT_REG_STAT.FATAL r && !s.flag PWR_MODE.FATAL 0

/-- PWR_CTL.RECOVER: each bit on its own; a write with a bit that is not performed is recorded once. -/
def recoverRegions (mask : Nat) (s : State) : State :=
  let asked := (List.range 4).filter (bitOf mask)
  let go := asked.filter s.mayRecover
  let t := (s.each go fun r u => u.set FLT_REG_STAT.STATE r 2)
  let t := if go.isEmpty then t else t.updMode.updFaultN
  if go.length = asked.length then t else t.refuseWrite .PWR_CTL 0

/-- The hotness buffers of a region's remap stage and of its slices start empty. -/
def State.resetHot (s : State) (r : Nat) : HotState :=
  { s.hot with coalesce := s.hot.coalesce.filter fun e => e.1 ≠ r, waiting := s.hot.waiting.filter fun e => e.1 ≠ r, sample := s.hot.sample.filter fun e => e.1 ≠ r,
               due := s.hot.due.filter fun x => x.1 ≠ r, combine := s.hot.combine.filter fun e => s.sliceRegion e.1 ≠ r, old := s.hot.old.filter fun e => s.sliceRegion e.1 ≠ r }

/-- The units of a region reset (R369, step 1): its NIs, routers, ports, engines and slices start empty, its counters at zero (R415); its credit points have their shared pools whole (R156); a
slice of the region found with trackers is scanned first (R387). -/
def State.resetUnits (s : State) (r : Nat) : State :=
  let s := s.each ((List.range 16).filter fun n => s.sliceRegion n = r) fun n t => t.scanHome n
  let nis := regionNis r
  let mine := fun (n : Nat) => decide (niRegion n = r)
  let point := fun (e : Nat) => mine (pointNi e)
  let s := s.each nis fun n t => t.setNi n { t.niAt n with held := [], holds := [], notices := [], rx := [], tracker := [], lastVoq := [] }
  let s := { s with
    regs := s.regs.filter (fun e => !(e.1 % 256 = RegKind.CNT_VAL.ctorIdx && e.1 / 256 / 80 = r)),
    voq := s.voq.filter (fun e => !mine (e.1 / 1024)), crQueue := s.crQueue.filter (fun e => !point e.1),
    ledger := s.ledger.filter (fun e => !point (e.1 / 256) && !mine (e.1 % 256)),
    rtr := s.rtr.filter (fun e => e.1 / 16 ≠ r), xing := s.xing.filter (fun e => e.1 / 8 / 16 ≠ r), inflight := s.inflight.filter (fun e => !mine (e.1 / 256)),
    outst := s.outst.filter (fun e => e.1 / 64 ≠ r), portHold := s.portHold.filter (fun e => e.1 / 32 ≠ r), partials := s.partials.filter (fun e => e.1 / 32 ≠ r),
    decodeQ := s.decodeQ.filter (fun q => sourceRegion q.src ≠ r), resolved := s.resolved.filter (fun p => p.1 ≠ r),
    transit := s.transit.filter (fun e => e.1 / 16 ≠ r), fabHeld := s.fabHeld.filter (fun e => e.2.1 / 16 ≠ r),
    denials := s.denials.filter (fun x => sourceRegion x.1.src ≠ r), accesses := s.accesses.filter (fun a => s.pointRegion a.pt ≠ r),
    drains := s.drains.filter (fun pt => s.pointRegion pt ≠ r), migMaps := s.migMaps.filter (fun e => s.pointRegion (e.1 / 32) ≠ r),
    migHeld := s.migHeld.filter (fun e => s.pointRegion (e.1 / 32) ≠ r), hot := s.resetHot r,
    l2Cache := s.l2Cache.filter (fun e => e.1 / 1024 ≠ r), bindRun := s.bindRun.filter (fun e => e.1 ≠ r) }
  let s := s.each (List.range 16) fun i t => (t.set ANV_CR_STAT.OCC (16 * r + i) 0).issuePool (16 * r + i)
  let s := s.each (List.range 32) fun i t =>
    let e := 32 * r + i
    let x := t.engine e
    let t := t.setEngine e { Engine.idle with gen := x.gen + 1, gens := x.gens, dmSquash := x.dmSquash, program := t.programOf e, version := t.versionOf (e / 8) (t.programOf e) }
    if t.engState e = 3 then t else t.set TNG_ENG_STAT.STATE e 0
  let s := { s with reloadDue := s.reloadDue.filter fun e => e / 32 ≠ r }
  s.each (List.range 4) fun i t =>
    let c := 4 * r + i
    let t := t.showLoaded c
    let t := t.modCluster c fun x => { Cluster.idle with nextId := x.nextId, nextSeq := x.nextSeq }
    let t := t.setReg .TNG_CQ_PTR c (RegKind.resetOf .TNG_CQ_PTR c)
    t.set TNG_CL_STAT.LOST_GEN c (t.get TNG_CL_STAT.LOST_GEN c + 1)

/-- The Temper contexts of a region resume with full buckets, and its blocks hold no request (R188, R369). -/
def State.resumeContexts (s : State) (r : Nat) : State :=
  let own := fun (k : Nat) => if k < 100000 then decide (s.ctxRegion k = r) else decide ((k - 100000) / 8 / 32 = r)
  let s := { s with buckets := s.buckets.filter (fun e => !own e.1) }
  (s.holdQ.map (·.1)).foldl (fun t c => (t.setHeld c ((t.held c).filter fun h => niRegion h.req.ni ≠ r)).holdRoom c) s

/-- A region's RECOVERY ends (R364, R369): with its tables reloaded, what an APPLY switched meanwhile taken, and its gate open it is LIVE; or it is FENCED again; event 2. -/
def regionRecoveryEnd (r : Nat) (ok : Bool) (s : State) : State :=
  if s.regionState r ≠ 2 then s
  else if !ok || !s.reloads r then s.recoveryFails r
  else
    let s := (((s.resetUnits r).reloadRegion r).takeLater r).resumeContexts r
    let s := { s with dirCache := s.dirCache.filter fun e => s.sliceRegion (e.1 / 4096) ≠ r }
    let s := (s.setBit MGT_CHIP_INFO.REGION_LIVE 0 r true).setBit FLT_STAT.FENCED 0 r false
    let s := s.set FLT_REG_STAT.STATE r 0
    let s := s.each (regionNis r) fun n t => (t.dropTriggers n fun x => x.code = 2).release n
    (s.notice 2 0 r).updMode.updFaultN

/-! ### PERST_N (R372) -/

/-- The upstream ports that a block's PERST_N acts on: none on a follower. -/
def State.perstPorts (s : State) (b : Nat) : List Nat := [2 * b, 2 * b + 1].filter fun p => s.portExists p && s.role p = 0

/-- A VCS's host-visible configuration back at its reset values (R372): decoders uncommitted, BI enables and slot controls clear; bindings stay. -/
def State.resetVcs (s : State) (vcs : Nat) : State :=
  let s := if s.agentAdmitted vcs then s.removeAgent (s.get VCS_ENTRY.CAID vcs) else s
  let s := s.set VCS_ENTRY.BI_EN vcs 0
  let s := { s with decoders := s.decoders.filter (fun e => e.1 / 16 ≠ vcs), biDecoder := Tbl.wr (fun _ => false) s.biDecoder vcs false,
                    commitWait := s.commitWait.filter (fun k => k / 16 ≠ vcs), caidWait := s.caidWait.filter (fun v => v ≠ vcs) }
  s.each ((s.vppbs.map (·.1)).filter fun v => s.get VPPB_ENTRY.VCS v = vcs) fun v t =>
    (t.setVppb v { Vppb.idle with op := (t.vppb v).op }).updHostOn (t.get VPPB_ENTRY.TARGET v % 512)

/-- PERST_N asserted past its filter (R372); ignored outside PROVISION and the operating group but for its level. -/
def perstAssert (b : Nat) (s : State) : State :=
  if s.phase = .reset then s
  else
    let s := s.setBit PWR_PERST.LEVEL 0 b false
    if s.phase ≠ .provision ∧ s.phase ≠ .operating then s
    else
      s.each (s.perstPorts b) fun p t =>
        let t := t.takeDown p true
        match t.vcsOf p with
        | some vcs => t.resetVcs vcs
        | none => t

/-- PERST_N deasserted (R372): bring-up starts, in PROVISION or later. -/
def perstDeassert (b : Nat) (s : State) : State :=
  if s.phase = .reset then s
  else
    let s := s.setBit PWR_PERST.LEVEL 0 b true
    if s.phase ≠ .provision ∧ s.phase ≠ .operating then s
    else s.each (s.perstPorts b) fun p t => t.bringUpAlone p

/-! ### Banked (R375 to R377) -/

/-- The region that holds a unit that can be banked. -/
def State.bankRegion (s : State) (u : Nat) : Nat := if u < 128 then u / 32 else if u < 144 then (u - 128) / 4 else s.sliceRegion (u - 144)

/-- The unit's bank bit. -/
def State.bankBit (s : State) (u : Nat) : Bool :=
  if u < 128 then bitOf (s.get PWR_BANK_PORT.BANK (u / 64)) (u % 64)
  else if u < 144 then bitOf (s.get PWR_BANK_UNIT.CLUSTER 0) (u - 128)
  else bitOf (s.get PWR_BANK_UNIT.SLICE 0) (u - 144)

/-- The unit shown banked or not. -/
def State.showBanked (s : State) (u : Nat) (b : Bool) : State :=
  if u < 128 then s.setBit PWR_BANK_PSTAT.BANKED (u / 64) (u % 64) b
  else if u < 144 then s.setBit PWR_BANK_USTAT.CLUSTER 0 (u - 128) b
  else s.setBit PWR_BANK_USTAT.SLICE 0 (u - 144) b

/-- The unit exists: a port under its block's mode, every cluster and slice. -/
def State.bankable (s : State) (u : Nat) : Bool := decide (128 ≤ u) || s.portExists u

/-- BANKED holds once BANK_ALL has banked every unit outside fenced regions (R377). -/
def State.updBanked (s : State) : State :=
  let all := s.flag PWR_CTL.BANK_ALL 0 &&
    (List.range 160).all fun u => !s.bankable u || !s.live (s.bankRegion u) || s.banked u
  if all = s.flag PWR_MODE.BANKED_C 0 ∨ s.flag PWR_MODE.FATAL 0 then s else (s.set PWR_MODE.BANKED_C 0 (bit all)).updMode

/-- A write of PWR_BANK_PORT, PWR_BANK_UNIT or BANK_ALL (R375, R377); the bit of an unused port number is ignored. -/
def bankWrite (which : Nat) (value : Word) (s : State) : State :=
  if which < 2 then
    let mask := ((List.range 64).map fun k => if bitOf value.toNat k && s.portExists (64 * which + k) then 2 ^ k else 0).sum
    let keep := s.get PWR_BANK_PDENY.DENY which
    (s.set PWR_BANK_PORT.BANK which mask).set PWR_BANK_PDENY.DENY which (keep &&& mask)
  else if which = 2 then (s.set PWR_BANK_UNIT.CLUSTER 0 (value.field 15 0)).set PWR_BANK_UNIT.SLICE 0 (value.field 31 16)
  else (s.set PWR_CTL.BANK_ALL 0 (value.field 2 2)).updBanked

/-- A port has drained: no request or message of its own is outstanding either way. -/
def State.portDrained (s : State) (p : Nat) : Bool :=
  let x := s.niAt (s.leadOf (p / 2))
  let own := fun (q : Pkt) => decide (q.half = p % 2)
  (s.outstanding (2 * p)).isEmpty && (s.outstanding (2 * p + 1)).isEmpty && (s.keptAt p).isEmpty && !x.tracker.any own && !x.rx.any own

/-- A unit whose bank bit is 1 drains and enters Banked (R375): a port by L1, or it stays in L0 with PDENY set; a fabric link by a lane set of lanes 0 to 3; a cluster with no job running; a
slice with no entry in T, its changed blocks written back. -/
def unitBanked (u : Nat) (l1 : Bool) (s : State) : State :=
  if !(s.bankBit u || s.flag PWR_CTL.BANK_ALL 0) || s.banked u || !s.bankable u || !s.live (s.bankRegion u) then s
  else if u < 128 then
    if s.role u = 2 then
      if !s.sflUp (u / 2) ∨ s.get SFL_LINK_STAT.ACTIVE_MASK (u / 2) = 0xF then (s.showBanked u true).updBanked
      else s.askLanes (u / 2) 0xF 0x1F (u / 2)
    else if !s.flag PRT_LINK_STATUS.DL_UP u then (s.showBanked u true).updBanked
    else if !s.portDrained u then s
    else if !l1 then s.setBit PWR_BANK_PDENY.DENY (u / 64) (u % 64) true
    else ((s.showBanked u true).set PRT_LINK_STATUS.STATE u 8).updBanked
  else if u < 144 then
    if (List.range 8).any fun k => (s.jobRun (8 * (u - 128) + k)).isSome then s else (s.showBanked u true).updBanked
  else
    let n := u - 144
    if s.txns.any (fun t => t.slice = n) || s.wbuf.any fun w => w.1 = n then s
    else
      let s := (List.range 4096).foldl (fun (t : State) k =>
        let l := t.dirBlocks (4096 * n + k)
        if l.isEmpty then t else (l.foldl (fun (w : State) b => w.writeBack b) t).setDirBlocks (4096 * n + k) []) s
      (s.showBanked u true).updBanked

/-- Demand wakes a banked unit, whatever its bank bit (R376). -/
def bankDemandWake (u : Nat) (s : State) : State :=
  if !s.banked u then s
  else
    let s := (s.showBanked u false).count PWR_BANK_USTAT.WAKES 0
    let s := if u < 128 then
        if s.role u = 2 then s.askLanes (u / 2) (2 ^ s.fabricWidth (u / 2) - 1) 0x1F (u / 2)
        else if s.get PRT_LINK_STATUS.STATE u = 8 then s.set PRT_LINK_STATUS.STATE u 6 else s
      else s
    s.updBanked

/-- A unit idle for IDLE_US with its bank bit set banks again; IDLE_US = 0 never (R376). -/
def bankIdleRebank (u : Nat) (l1 : Bool) (s : State) : State := if s.get PWR_BANK_CFG.IDLE_US 0 = 0 then s else unitBanked u l1 s

/-! ### Meanings -/

/-- RESET_N_ASSERT: R364, R370, R374, R426. -/
def execResetNAssert (s : State) : Host.Outcome State Fault Refusal :=
  .next (resetNAssert s)

/-- RESET_END: R54, R297, R361, R364, R365, R366, R368, R370, R371, R373, R374, R397, R400, R453. -/
def execResetEnd (cause : Nat) (role : Nat) (bootSrc : Bool) (pins : Word) (s : State) : Host.Outcome State Fault Refusal :=
  .next (resetEnd cause role bootSrc pins s)

/-- BROWN_OUT: R364, R370, R435. -/
def execBrownOut (rail : Nat) (lost : Bool) (s : State) : Host.Outcome State Fault Refusal :=
  .next (brownOut rail lost s)

/-- REBOOT: R364, R370, R378. -/
def execReboot (s : State) : Host.Outcome State Fault Refusal :=
  .next (reboot s)

/-- TEST: R361, R364, R368, R378. -/
def execEnterTest (s : State) : Host.Outcome State Fault Refusal :=
  .next (enterTest s)

/-- BOUNDARY_SCAN_TEST: R364. -/
def execBoundaryScanTest (s : State) : Host.Outcome State Fault Refusal :=
  .next (boundaryScanTest s)

/-- HBM_INIT_DONE: R364, R366, R371, R397. -/
def execHbmInitDone (ok : Bool) (kept : Bool) (sram : Nat) (hbm : Nat) (s : State) : Host.Outcome State Fault Refusal :=
  .next (hbmInitDone ok kept sram hbm s)

/-- PROVISION_COMPLETE: R26, R34, R173, R279, R361, R364, R367, R426. -/
def execProvisionComplete (s : State) : Host.Outcome State Fault Refusal :=
  .next (provisionComplete s)

/-- RECOVER: R16, R44, R209, R363, R364, R369, R378, R386, R415. -/
def execRecoverRegions (mask : Nat) (s : State) : Host.Outcome State Fault Refusal :=
  .next (recoverRegions mask s)

/-- REGION_RECOVERY_END: R16, R19, R156, R181, R277, R363, R364, R369, R390. -/
def execRegionRecoveryEnd (r : Nat) (ok : Bool) (s : State) : Host.Outcome State Fault Refusal :=
  run (decide (r < 4)) (regionRecoveryEnd r ok s)

/-- PERST_N_ASSERT: R53, R372. -/
def execPerstAssert (blk : Nat) (s : State) : Host.Outcome State Fault Refusal :=
  run (decide (blk < 64)) (perstAssert blk s)

/-- PERST_N_DEASSERT: R44, R372. -/
def execPerstDeassert (blk : Nat) (s : State) : Host.Outcome State Fault Refusal :=
  run (decide (blk < 64)) (perstDeassert blk s)

/-- BANK_WRITE: R364, R375, R377, R378. -/
def execBankWrite (which : Nat) (value : Word) (s : State) : Host.Outcome State Fault Refusal :=
  .next (bankWrite which value s)

/-- UNIT_BANKED: R361, R364, R375, R377. -/
def execUnitBanked (u : Nat) (l1 : Bool) (s : State) : Host.Outcome State Fault Refusal :=
  run (decide (u < 160)) (unitBanked u l1 s)

/-- BANK_DEMAND_WAKE: R364, R376. -/
def execBankDemandWake (u : Nat) (s : State) : Host.Outcome State Fault Refusal :=
  run (decide (u < 160)) (bankDemandWake u s)

/-- BANK_IDLE_REBANK: R376. -/
def execBankIdleRebank (u : Nat) (l1 : Bool) (s : State) : Host.Outcome State Fault Refusal :=
  run (decide (u < 160)) (bankIdleRebank u l1 s)

/-- REFCLK_LOSS: R444. -/
def execRefclkLoss (k : Nat) (s : State) : Host.Outcome State Fault Refusal :=
  run (decide (k < 17)) (refclkLoss k s)

/-- REFCLK_RESTORE: R444. -/
def execRefclkRestore (k : Nat) (role : Nat) (bootSrc : Bool) (pins : Word) (s : State) : Host.Outcome State Fault Refusal :=
  run (decide (k < 17)) (refclkRestore k role bootSrc pins s)

end Sys2Proof.Machine
end

