-- ==== Sys2Proof/Machine/Tiering.lean ====
section
/-! DEFINITION. Hotness counting and live migration (R238 to R256). -/

namespace Sys2Proof.Machine

/-! ### Hotness (R238 to R241) -/

/-- The HBM address of a granule's count in a bank (R240). -/
def State.hotAddr (s : State) (bank granule : Nat) : Nat :=
  s.scratchBase + s.get RMP_HOT_CFG.BASE_64M 0 * 2 ^ 26 + bank * 2 ^ 26 + 2 * granule

/-- A count added in HBM by a slice: 16 bits, holding at 0xFFFF; one in a fenced region's channel is lost (R386). -/
def State.addHot (s : State) (slice bank : Nat) (x : Nat × Nat) : State :=
  let a := s.hotAddr bank x.1
  if s.hbmFenced (s.sliceRegion slice) a then s else s.writeHbm a (toBytes 2 (min 0xFFFF (ofBytes (s.readHbm a 2) + x.2)))

/-- A granule's count merged into a list of counts. -/
def mergeHot (l : List (Nat × Nat)) (g n : Nat) : List (Nat × Nat) :=
  if l.any (·.1 = g) then l.map fun x => if x.1 = g then (g, x.2 + n) else x else l ++ [(g, n)]

/-- A notice reaches its slice's combining buffer of 512 entries: a full one first adds its oldest entry into the active bank (R239). The sink of a quenched slice discards it. -/
def State.hotArrive (s : State) (slice g n : Nat) : State :=
  if s.homeDown slice then s
  else
    let l := Tbl.rd (fun _ => []) s.hot.combine slice
    let put := fun (t : State) (l : List (Nat × Nat)) => { t with hot := { t.hot with combine := Tbl.wr (fun _ => []) t.hot.combine slice l } }
    if l.length < 512 ∨ l.any (·.1 = g) then put s (mergeHot l g n)
    else put ((l.take 1).foldl (fun t x => t.addHot slice t.hot.act x) s) (mergeHot (l.drop 1) g n)

/-- A region's coalescing buffer: (16 × granule + slice of its first part, count). -/
def State.coalescing (s : State) (r : Nat) : List (Nat × Nat) := Tbl.rd (fun _ => []) s.hot.coalesce r

/-- A part that waited for its notice goes on to the policer (R239). -/
def State.freePart (s : State) (r : Nat) (p : Part) : State := { s with resolved := s.resolved ++ [(r, p)] }

/-- The granule of a part's POA. -/
def partGranule (p : Part) : Nat := p.poa.getD 0 % 2 ^ 46 / 2 ^ 21

/-- An exact notice enters its region's buffer of 64 entries and its part goes on, or the part waits until it can (R239), since `at'`. -/
def State.hotExact (s : State) (r : Nat) (p : Part) (at' : Nat) : State :=
  let l := s.coalescing r
  let g := partGranule p
  if l.any (·.1 / 16 = g) then
    ({ s with hot := { s.hot with coalesce := Tbl.wr (fun _ => []) s.hot.coalesce r (l.map fun (x : Nat × Nat) => if x.1 / 16 = g then (x.1, x.2 + 1) else x) } } : State).freePart r p
  else if l.length < 64 then
    ({ s with hot := { s.hot with coalesce := Tbl.wr (fun _ => []) s.hot.coalesce r (l ++ [(16 * g + homeSlice (p.poa.getD 0 % 2 ^ 46), 1)]) } } : State).freePart r p
  else
    let w := Tbl.rd (fun _ => []) s.hot.waiting r
    { s with hot := { s.hot with waiting := Tbl.wr (fun _ => []) s.hot.waiting r (w ++ [(p, at')]) } }

/-- A sampled part (R238, R239): one in 2^SAMPLE_LOG2 of a region counts that many, or is dropped without a class-7 credit. -/
def State.hotSample (s : State) (r : Nat) (p : Part) (credit : Bool) : State :=
  let n := 2 ^ s.get RMP_HOT_CFG.SAMPLE_LOG2 0
  let c := Tbl.rd (fun _ => 0) s.hot.sample r + 1
  if c < n then { s with hot := { s.hot with sample := Tbl.wr (fun _ => 0) s.hot.sample r c } }
  else
    let s := { s with hot := { s.hot with sample := Tbl.wr (fun _ => 0) s.hot.sample r 0 } }
    if credit then (s.tally 0x186 r 0 0).hotArrive (homeSlice (p.poa.getD 0 % 2 ^ 46)) (partGranule p) n else (s.count RMP_HOT_CNT.DROP 0).tally 0x187 r 0 0

/-- The oldest counted part of a region has its notice (R238, R239): exact on a fractured extent, sampled on any other. -/
def hotnessNotice (r : Nat) (credit : Bool) (s : State) : State :=
  match s.hot.due.find? fun x => x.1 = r with
  | none => s
  | some x =>
    let s := { s with hot := { s.hot with due := s.hot.due.erase x } }
    if x.2.2 then s.hotExact r x.2.1 s.clk else s.hotSample r x.2.1 credit

/-- After 256 ns an exact notice is sent with its count, and the first part that waited takes its place, its wait counted (R239). -/
def hotnessCoalesceFlush (r granule : Nat) (s : State) : State :=
  match (s.coalescing r).find? fun x => x.1 / 16 = granule with
  | none => s
  | some x =>
    let s := { s with hot := { s.hot with coalesce := Tbl.wr (fun _ => []) s.hot.coalesce r ((s.coalescing r).erase x) } }
    let s := (s.tally 0x186 r 0 0).hotArrive (x.1 % 16) granule x.2
    match Tbl.rd (fun _ => []) s.hot.waiting r with
    | [] => s
    | w :: rest =>
      let s := { s with hot := { s.hot with waiting := Tbl.wr (fun _ => []) s.hot.waiting r rest } }
      (s.count RMP_HOT_CNT.WAIT_NS 0 (s.clk - w.2)).hotExact r w.1 s.clk

/-- The banks change roles (R241): the clearing bank becomes active, the active one retires while the slices flush into it, the retired one is zero-filled; RMP_HOT_STAT is not valid. -/
def hotnessEpochChange (s : State) : State :=
  if !s.flag RMP_HOT_CFG.EN 0 || !s.hot.ready || s.hot.flushing then s
  else
    let a := (s.hot.act + 1) % 3
    let s := s.set RMP_HOT_STAT.VALID 0 0
    let s := { s with hot := { s.hot with act := a, flushing := true, old := s.hot.combine, combine := [] } }
    s.clearHbm (s.hotAddr ((a + 1) % 3) 0) (2 ^ 26)

/-- The combining buffers are flushed into the retiring bank and RMP_HOT_STAT shows the epoch (R241). -/
def hotnessFlushComplete (s : State) : State :=
  if !s.hot.flushing then s
  else
    let ret := (s.hot.act + 2) % 3
    let s := s.hot.old.foldl (fun t e => e.2.foldl (fun u x => u.addHot e.1 ret x) t) s
    let s := { s with hot := { s.hot with flushing := false, old := [] } }
    let s := s.set RMP_HOT_STAT.RET_BANK 0 ret
    let s := s.set RMP_HOT_STAT.ACT_BANK 0 s.hot.act
    let s := s.bump RMP_HOT_STAT.EPOCH 0
    s.resultDone RMP_HOT_STAT.SEQ RMP_HOT_STAT.VALID 0

/-- Notices stop at once (R241): parts that waited for one go on, their wait counted. -/
def State.stopNotices (s : State) : State :=
  let due := s.hot.due.filter fun x => x.2.2
  let late := s.hot.waiting.flatMap fun e => e.2.map fun x => (e.1, x)
  let s := late.foldl (fun t x => (t.count RMP_HOT_CNT.WAIT_NS 0 (t.clk - x.2.2)).freePart x.1 x.2.1) s
  let s := due.foldl (fun t x => t.freePart x.1 x.2.1) s
  { s with hot := { s.hot with due := [], waiting := [], ready := false } }

/-- A write of RMP_HOT_CFG (R241, R256): SAMPLE_LOG2 above 12 sets 12 and EPOCH_MS below 10 sets 10; EN = 0 stops notices at once; EN = 1 after 0 starts the zero-fill of all three banks. -/
def hotEnWrite (value : Word) (s : State) : State :=
  let was := s.flag RMP_HOT_CFG.EN 0
  let s := s.set RMP_HOT_CFG.EN 0 (value.field 0 0)
  let s := s.set RMP_HOT_CFG.SAMPLE_LOG2 0 (min 12 (value.field 4 1))
  let s := s.set RMP_HOT_CFG.EPOCH_MS 0 (max 10 (value.field 23 8))
  if value.field 0 0 = 0 then s.stopNotices
  else if was then s
  else
    let s := s.set RMP_HOT_STAT.VALID 0 0
    let s := { s with hot := { HotState.idle with act := s.hot.act } }
    s.clearHbm (s.hotAddr 0 0) (3 * 2 ^ 26)

/-- The zero-fill that EN = 1 started completes (R241): counting resumes. -/
def hotnessZeroFillComplete (s : State) : State :=
  if s.flag RMP_HOT_CFG.EN 0 then { s with hot := { s.hot with ready := true } } else s

/-! ### Migration (R243 to R255) -/

/-- A target of a migration (R245): a downstream port of this chip in a region that is not fenced; for an extent that is not shared also a port of another member chip, whose role only that chip
knows (log entry 89). -/
def State.migTarget (s : State) (feid : Nat) (shared : Bool) : Bool :=
  let p := feid % 512
  if feid / 512 = s.get MGT_CHIP_INFO.CHIP_ID 0 then decide (p < 128) && s.role p = 1 && s.portExists p && s.regionState (p / 32) ≠ 1
  else !shared && decide (p < 128) && s.get MGT_FAB_MEMBER.STATE (feid / 512 % 256) = 2

/-- The granule's mapping now: its level-2 entry, or one made of the extent's (R244). -/
def State.migSource (s : State) (i g : Nat) : Word :=
  if s.flag L1_W0.FRACT i then s.l2Entry (s.get L1_W0.L2PTR i * 512 + g)
  else l2Word true (s.get L1_W0.TARGET i) (s.get L1_W0.LD i) (s.get L1_W0.DEV_EXT i * 512 + g)

/-- The checks of R245 in its order; 0 when all pass. -/
def State.migCheck (s : State) (p0 p1 : Word) : Nat :=
  let i := p0.field 15 0
  let g := p0.field 24 16
  let src := s.migSource i g
  if !s.flag L1_W0.VALID i || s.flag L1_W1.RELEASING i || !l2Valid src then 1
  else if s.flag L1_W0.SHARED i ∧ s.get L1_W0.TARGET i / 512 ≠ s.get MGT_CHIP_INFO.CHIP_ID 0 then 2
  else if !s.flag L1_W0.FRACT i && p0.field 25 25 = 0 then 3
  else if !s.flag L1_W0.FRACT i && s.l2FreeTable.isNone then 4
  else if !l2Valid p1 || p1.field 3 1 ≠ 0 || p1.field 63 56 ≠ 0 || (l2Target p1 = l2Target src && l2Ld p1 = l2Ld src && l2Gran p1 = l2Gran src) ||
    !s.migTarget (l2Target p1) (s.flag L1_W0.SHARED i) then 5
  else if (s.migSlot i g).isSome then 6
  else 0

/-- A dispatched MIGRATE (R244, R247): the first failing check ends the job; with no slot free it waits for one; else the lowest free slot is claimed, the extent fractured where AUTO_FRACT requires it, MIG set, and a drain asked of
every resolving point. -/
def migrate (e : Nat) (s : State) : State :=
  match s.jobRun e with
  | none => s
  | some r =>
    if r.job.service ≠ 5 ∨ r.outcome.isSome ∨ (s.slotOfEngine e).isSome then s
    else
      let p0 := r.job.word 4
      let p1 := r.job.word 5
      let i := p0.field 15 0
      match s.migCheck p0 p1, (List.range 32).find? fun k => s.get RMP_MIG_SLOT0.PHASE k = 0 with
      | 0, some k =>
        let src := s.migSource i (p0.field 24 16)
        let s := if s.flag L1_W0.FRACT i then s else s.fractureExtent i
        let s := s.setReg .RMP_MIG_SLOT0 k 0
        let s := s.set RMP_MIG_SLOT0.L1_IDX k i
        let s := s.set RMP_MIG_SLOT0.GRAN k (p0.field 24 16)
        let s := s.set RMP_MIG_SLOT0.PHASE k 1
        let s := s.set RMP_MIG_SLOT0.ENGINE k e
        let s := s.set RMP_MIG_SLOT0.SHARED k (s.get L1_W0.SHARED i)
        let s := s.setReg .RMP_MIG_SLOT1 k p1
        let s := s.set RMP_MIG_STAT.SLOTS_USED 0 (s.get RMP_MIG_STAT.SLOTS_USED 0 + 1)
        let s := (s.clearMaps k).setMigBits k true false
        let pts := s.migPoints k
        (s.setMig k (some ⟨(s.engine e).gen, src, p0.field 26 26 = 1, p0.field 27 27 = 1, pts, false, [], 0, 0, 0, 0, 0, false, false, s.reg .RMP_MIG_CFG 0⟩)).requestDrain pts
      | 0, none => s
      | st, _ => s.finishJob e st 0 0

/-- A field of RMP_MIG_CFG as it stood when the migration's phase began (R256). -/
def MigRun.bound (m : MigRun) (F : Fld) : Nat := m.cfg.field F.hi F.lo

/-- A pass begins (R247): read-and-clear of the dirty maps, and a drain; the first pass copies all 8,192 blocks, a later one those marked and `more`. -/
def State.startPass (s : State) (k : Nat) (first : Bool) (more : List Nat) : State :=
  let blocks := if first then List.range 8192 else (s.migDirty k ++ more).dedup
  let begins := s.get RMP_MIG_SLOT0.PHASE k ≠ 2
  let s := (s.clearMaps k).set RMP_MIG_SLOT0.PHASE k 2
  let pts := s.migPoints k
  (s.modMig k fun m => { m with todo := blocks, issued := false, round := m.round + 1, waiting := pts, cfg := if begins then s.reg .RMP_MIG_CFG 0 else m.cfg }).requestDrain pts

/-- The copy accesses of the blocks to do (R246): device-space reads of the source by the engine. -/
def State.copyBlocks (s : State) (k : Nat) : State :=
  match s.mig k with
  | none => s
  | some m =>
    let e := s.get RMP_MIG_SLOT0.ENGINE k
    let s := s.modMig k fun m => { m with issued := true }
    (s.addAcc (e / 8) (m.todo.map fun b =>
      ⟨e, svcTag m.gen (m.round * 2 ^ 14 + b) 3, false, none, 1, l2Target m.src, l2Ld m.src, l2Gran m.src * 2 ^ 21 + 256 * b, 256, 0, [], false, false, false⟩)).pump (e / 8)

/-- The sanitising writes of the source granule (R247): zero-fill before completion. -/
def State.sanitizeBlocks (s : State) (k : Nat) : State :=
  match s.mig k with
  | none => s
  | some m =>
    let e := s.get RMP_MIG_SLOT0.ENGINE k
    let s := s.modMig k fun m => { m with issued := true, todo := List.range 8192 }
    (s.addAcc (e / 8) ((List.range 8192).map fun b =>
      ⟨e, svcTag m.gen (m.round * 2 ^ 14 + b) 6, true, none, 1, l2Target m.src, l2Ld m.src, l2Gran m.src * 2 ^ 21 + 256 * b, 256, 0, List.replicate 256 0, false, false, false⟩)).pump (e / 8)

/-- A migration goes on once every drain it waits for is complete (R247): ARM to the first pass; a pass or a hold copies its blocks, a hold's after a read-and-clear; FINISH sanitises. -/
def State.drained (s : State) (k : Nat) : State :=
  match s.mig k with
  | none => s
  | some m =>
    if !m.waiting.isEmpty then s
    else match s.get RMP_MIG_SLOT0.PHASE k with
      | 1 => s.startPass k true []
      | 2 => if m.issued then s else s.copyBlocks k
      | 3 =>
        if m.issued then s
        else
          let blocks := s.migDirty k
          let s := (s.clearMaps k).set RMP_MIG_SLOT0.DIRTY k blocks.length
          (s.modMig k fun m => { m with todo := blocks, round := m.round + 1 }).copyBlocks k
      | 5 => if m.issued || !m.sanitize || m.srcLost then s else s.sanitizeBlocks k
      | _ => s

/-- A resolving point's old phase has no accesses left (R243): its drain completes for every migration that waits for it. Nothing happens while one is left. -/
def drainComplete (pt : Nat) (s : State) : State :=
  if !s.drains.contains pt then s
  else
    let now := Tbl.rd (fun _ => false) s.drainPhase pt
    if s.accesses.any fun a => a.pt = pt && a.phase ≠ now then s
    else
    let s := { s with drains := s.drains.erase pt }
    let ks := (List.range 32).filter fun k => match s.mig k with
      | some m => m.waiting.contains pt
      | none => false
    let s := s.each ks fun k t => t.modMig k fun m => { m with waiting := m.waiting.erase pt }
    s.each ks fun k t => t.drained k

/-- A copy pass ends (R249): the dirty count, read without clearing, decides between HOLD, CONVERGE_FAIL after MAX_PASSES, and another pass. -/
def copyPassComplete (k : Nat) (s : State) : State :=
  match s.mig k with
  | none => s
  | some m =>
    if s.get RMP_MIG_SLOT0.PHASE k ≠ 2 ∨ !m.issued ∨ !m.todo.isEmpty then s
    else
      let n := (s.migDirty k).length
      let p := s.get RMP_MIG_SLOT0.PASS k + 1
      let s := (s.set RMP_MIG_SLOT0.DIRTY k n).set RMP_MIG_SLOT0.PASS k (min 15 p)
      if n ≤ m.bound RMP_MIG_CFG.HOLD_BLKS then s.set RMP_MIG_SLOT0.PHASE k 3 |>.modMig k fun m => { m with issued := false, holdAt := 0, cfg := s.reg .RMP_MIG_CFG 0 }
      else if m.bound RMP_MIG_CFG.MAX_PASSES ≤ p then s.endMig k 0x0A
      else s.startPass k false []

/-- HOLD is set (R247, R250, R251): writes to the granule are held from now on, and a drain precedes the final copy. -/
def migrationHold (k : Nat) (s : State) : State :=
  match s.mig k with
  | none => s
  | some m =>
    if s.get RMP_MIG_SLOT0.PHASE k ≠ 3 ∨ m.holdAt ≠ 0 then s
    else
      let pts := s.migPoints k
      let s := s.setMigBits k true true
      (s.modMig k fun m => { m with holdAt := s.clk + 1, waiting := pts, issued := false, todo := [] }).requestDrain pts

/-- The final copy misses its bound (R250): HOLD is cleared, held writes go to the source, and copying goes on with a read-and-clear; after MAX_HOLDS of them it ends. -/
def holdAbort (k : Nat) (s : State) : State :=
  match s.mig k with
  | none => s
  | some m =>
    if s.get RMP_MIG_SLOT0.PHASE k ≠ 3 ∨ m.holdAt = 0 ∨ (m.issued ∧ m.todo.isEmpty) then s
    else
      let s := (s.setMigBits k true false).releaseHeld k
      let s := s.count RMP_MIG_STAT.HOLD_ABORT 0
      let s := s.modMig k fun m => { m with holds := m.holds + 1, holdAt := 0 }
      if m.bound RMP_MIG_CFG.MAX_HOLDS ≤ m.holds + 1 then s.endMig k 0x0A else s.startPass k false m.todo

/-- The swap (R247, R252): one write of the level-2 entry with its invalidation in every unfenced region, then the held writes go to the target, and FINISH drains. -/
def migrationSwap (k : Nat) (s : State) : State :=
  match s.mig k with
  | none => s
  | some m =>
    if s.get RMP_MIG_SLOT0.PHASE k ≠ 3 ∨ m.holdAt = 0 ∨ !m.issued ∨ !m.todo.isEmpty then s
    else
      let new := ((s.reg .RMP_MIG_SLOT1 k).setField 1 1 0).setField 2 2 0
      let s := ((s.setL2 (s.migEntry k) new).clearMaps k).releaseHeld k
      let s := s.set RMP_MIG_SLOT0.PHASE k 5
      let pts := s.migPoints k
      (s.modMig k fun m => { m with swapped := true, waiting := pts, issued := false }).requestDrain pts

/-- Another slot holds the extent of slot k (R255). -/
def State.extentShared (s : State) (k : Nat) : Bool :=
  (List.range 32).any fun j => j ≠ k && s.get RMP_MIG_SLOT0.PHASE j ≠ 0 && s.get RMP_MIG_SLOT0.L1_IDX j = s.get RMP_MIG_SLOT0.L1_IDX k

/-- A migration ends OK (R247, R255): drained and sanitised, UNFRACTURE run if asked and its test passes with no other MIGRATE on the extent, the slot freed and the job's outcome known. -/
def migrationFinish (k : Nat) (s : State) : State :=
  match s.mig k with
  | none => s
  | some m =>
    let i := s.get RMP_MIG_SLOT0.L1_IDX k
    let sanitized := !m.sanitize || m.srcLost || (m.issued && m.todo.isEmpty)
    if s.get RMP_MIG_SLOT0.PHASE k ≠ 5 || !m.waiting.isEmpty || !sanitized || (m.autoUnfract && s.extentShared k) then s
    else
      let s := if m.autoUnfract && s.flag L1_W0.FRACT i && decide ((s.migWait.filter (· = i)).length ≤ 1) && contiguous (s.extentEntries i) then s.unfractureExtent i else s
      ((s.count RMP_MIG_STAT.DONE 0).migOutcome k 0).freeMig k

/-- A target is lost (R255): a port of this chip without its link or behind a quenched NI, or a chip that is unreachable. -/
def State.targetLost (s : State) (f : Nat) : Bool :=
  if f / 512 = s.get MGT_CHIP_INFO.CHIP_ID 0 then !s.flag PRT_LINK_STATUS.DL_UP (f % 512) || s.quenched (s.leadOf (f % 512 / 2)) else s.get MGT_FAB_MEMBER.STATE (f / 512 % 256) = 3

/-- A region is fenced under a migration (R255, R277): that of its engine ends it as an engine loss does; that of a resolving point with accesses to the source outstanding as a target loss, with
REGION_FENCED; with none outstanding the migration goes on without that region. -/
def State.migFence (s : State) (k : Nat) (m : MigRun) : State :=
  if s.regionState (s.get RMP_MIG_SLOT0.ENGINE k / 32) = 1 then s.endMig k 0x0D
  else
    let gone := m.waiting.filter fun pt => s.regionState (s.pointRegion pt) = 1
    if !m.swapped && s.accesses.any fun a => s.regionState (s.pointRegion a.pt) = 1 && a.target = l2Target m.src then s.endMig k 0x0E
    else if gone.isEmpty then s
    else (s.modMig k fun m => { m with waiting := m.waiting.filter fun pt => !gone.contains pt }).drained k

/-- A loss, or the release of the extent (R255): 0 the source lost, 1 the target lost, 2 a region fenced, 3 the release. Before the swap a loss ends the migration with its status, a release only
during ARM or COPY; after the swap it stands, and a lost source is not sanitised. -/
def migrationLoss (k what : Nat) (s : State) : State :=
  match s.mig k with
  | none => s
  | some m =>
    match what with
    | 0 =>
      if !s.targetLost (l2Target m.src) then s
      else if m.swapped then s.modMig k fun m => { m with srcLost := true } else s.endMig k 0x08
    | 1 => if m.swapped || !s.targetLost (l2Target (s.reg .RMP_MIG_SLOT1 k)) then s else s.endMig k 0x09
    | 2 => s.migFence k m
    | _ => if s.get RMP_MIG_SLOT0.PHASE k ≤ 2 ∧ s.flag L1_W1.RELEASING (s.get RMP_MIG_SLOT0.L1_IDX k) then s.endMig k 0x0B else s

/-- A write of RMP_MIG_CFG (R256): not performed and recorded where a field is out of range. -/
def migCfgWrite (value : Word) (s : State) : State :=
  let blks := value.field 7 0
  let ns := value.field 21 8
  let passes := value.field 25 22
  let holds := value.field 29 26
  if blks = 0 ∨ ns < 250 ∨ 10000 < ns ∨ passes < 2 ∨ holds = 0 then s.refuseWrite .RMP_MIG_CFG 0
  else s.setReg .RMP_MIG_CFG 0 (value.setField 63 33 0)

/-! ### Meanings -/

/-- HOTNESS_NOTICE: R238, R239. -/
def execHotnessNotice (r : Nat) (credit : Bool) (s : State) : Host.Outcome State Fault Refusal :=
  run (decide (r < 4)) (hotnessNotice r credit s)

/-- HOTNESS_COALESCE_FLUSH: R239. -/
def execHotnessCoalesceFlush (r : Nat) (granule : Nat) (s : State) : Host.Outcome State Fault Refusal :=
  run (decide (r < 4)) (hotnessCoalesceFlush r granule s)

/-- HOTNESS_EPOCH_CHANGE: R241. -/
def execHotnessEpochChange (s : State) : Host.Outcome State Fault Refusal :=
  .next (hotnessEpochChange s)

/-- HOTNESS_FLUSH_COMPLETE: R241. -/
def execHotnessFlushComplete (s : State) : Host.Outcome State Fault Refusal :=
  .next (hotnessFlushComplete s)

/-- HOT_EN_WRITE: R241, R256. -/
def execHotEnWrite (value : Word) (s : State) : Host.Outcome State Fault Refusal :=
  .next (hotEnWrite value s)

/-- MIGRATE: R243, R244, R245, R246, R247, R255, R272. -/
def execMigrate (e : Nat) (s : State) : Host.Outcome State Fault Refusal :=
  run (decide (e < 128)) (migrate e s)

/-- DRAIN_COMPLETE: R243, R247, R248. -/
def execDrainComplete (pt : Nat) (s : State) : Host.Outcome State Fault Refusal :=
  run (decide (pt < 20)) (drainComplete pt s)

/-- COPY_PASS_COMPLETE: R245, R246, R247, R249. -/
def execCopyPassComplete (k : Nat) (s : State) : Host.Outcome State Fault Refusal :=
  run (decide (k < 32)) (copyPassComplete k s)

/-- MIGRATION_HOLD: R247, R251. -/
def execMigrationHold (k : Nat) (s : State) : Host.Outcome State Fault Refusal :=
  run (decide (k < 32)) (migrationHold k s)

/-- HOLD_ABORT: R250. -/
def execHoldAbort (k : Nat) (s : State) : Host.Outcome State Fault Refusal :=
  run (decide (k < 32)) (holdAbort k s)

/-- MIGRATION_SWAP: R194, R247, R248, R251, R252, R293. -/
def execMigrationSwap (k : Nat) (s : State) : Host.Outcome State Fault Refusal :=
  run (decide (k < 32)) (migrationSwap k s)

/-- MIGRATION_FINISH: R245, R247. -/
def execMigrationFinish (k : Nat) (s : State) : Host.Outcome State Fault Refusal :=
  run (decide (k < 32)) (migrationFinish k s)

/-- MIGRATION_LOSS: R245, R255. -/
def execMigrationLoss (k : Nat) (what : Nat) (s : State) : Host.Outcome State Fault Refusal :=
  run (decide (k < 32)) (migrationLoss k what s)

/-- MIG_CFG_WRITE: R256. -/
def execMigCfgWrite (value : Word) (s : State) : Host.Outcome State Fault Refusal :=
  .next (migCfgWrite value s)

/-- HOTNESS_ZERO_FILL_COMPLETE: R241. -/
def execHotnessZeroFillComplete (s : State) : Host.Outcome State Fault Refusal :=
  .next (hotnessZeroFillComplete s)

end Sys2Proof.Machine
end

