-- ==== Sys2Proof/Machine/Registers.lean ====
section
/-! DEFINITION. Register access (R7 to R9, R29 to R35, R353 to R356, R402) and the memory requests of sessions (R345). -/

namespace Sys2Proof.Machine

/-! ### Where an address leads (R29 to R33) -/

/-- What a DRS address names: a register with the offset of the byte in it, a byte of the debug view, or nothing (a reserved range). -/
inductive DrsLoc where
  | reg (k : RegKind) (i : Nat)
  | view (x : Nat)
  | reserved
  deriving DecidableEq, Repr

/-- The units that may hold a register at an 8-byte aligned address: class, unit number, offset (R29 to R32). -/
def drsUnits (a : Nat) : List (UnitClass × Nat × Nat) :=
  if a < 0x1000000 then
    [(.chip, 0, a)] ++ (if 0x100000 ≤ a ∧ a < 0x200000 then [(.collector, 4, a - 0x100000)] else []) ++
      (if 0x300000 ≤ a ∧ a < 0x400000 then [(.counter, 4, a - 0x300000)] else [])
  else if a < 0x2000000 then
    let n := (a - 0x1000000) / 0x100000
    let o := a % 0x100000
    (.slice, n, o) :: (if n = 0 then [(.hearth, 0, o)] else [])
  else if a < 0x3000000 then
    let c := (a - 0x2000000) / 0x100000
    let o := a % 0x100000
    (.cluster, c, o) :: (if 0x10000 ≤ o ∧ o < 0x10800 then [(.engine, 8 * c + (o - 0x10000) / 0x100, o % 0x100)] else [])
  else if a < 0x4000000 then []
  else if a < 0x8000000 then
    let r := a / 0x1000000 - 4
    let o := a % 0x1000000
    [(.region, r, o)] ++
      (if o < 0x800000 then [(.block, 16 * r + o / 0x80000, o % 0x80000)]
       else if o < 0x810000 then [(.router, 16 * r + o % 0x10000 / 0x1000, o % 0x1000)]
       else if 0xB00000 ≤ o ∧ o < 0xC00000 then [(.collector, r, o - 0xB00000)]
       else if 0xC00000 ≤ o ∧ o < 0xD00000 then [(.counter, r, o - 0xC00000)] else [])
  else if 0x10000000 ≤ a ∧ a < 0x15000000 then [(.table, 0, a - 0x10000000)]
  else []

/-- The index within its unit of the register of a place that stands at an offset. -/
def placeIndex (p : Place) (o : Nat) : Option Nat :=
  let d := o - p.off
  let i := d / p.stride1
  let j := d % p.stride1 / p.stride2
  if p.off ≤ o ∧ i < p.n1 ∧ j < p.n2 ∧ d % p.stride1 % p.stride2 = 0 then some (i * p.n2 + j) else none

/-- The register of a class that stands at an offset of a unit. -/
def findReg (u : UnitClass × Nat × Nat) : Option (RegKind × Nat) :=
  RegKind.all.findSome? fun k =>
    let p := k.place
    if p.cls = u.1 then
      match placeIndex p u.2.2 with
      | some j => if u.2.1 * (p.n1 * p.n2) + j < k.count then some (k, u.2.1 * (p.n1 * p.n2) + j) else none
      | none => none
    else none

/-- What stands at an address; every register is 64 bits wide. In SAFE the chip-level range alone is served (R30, R368). -/
def State.locate (s : State) (a : Nat) : DrsLoc :=
  if s.phase = .safe ∧ 0x1000000 ≤ a then .reserved
  else if 0x20000000 ≤ a ∧ a < 0x40000000 then .view (a - 0x20000000)
  else match (drsUnits (a / 8 * 8)).findSome? findReg with
    | some (k, i) => .reg k i
    | none => .reserved

/-! ### What a register reads as -/

/-- The fields of a type in a register. -/
def fieldsOf (k : RegKind) (acc : Acc) : List Fld := k.fields.filter fun F => F.acc = acc

/-- An SFL_ register (R31). -/
def isSflReg (k : RegKind) : Bool := decide (k.place.cls = .block) && decide (0x40000 ≤ k.place.off)

/-- The block that a register of a block belongs to. -/
def blockOfReg (k : RegKind) (i : Nat) : Nat := i / (k.place.n1 * k.place.n2)

/-- An SFL_ register of a block that is not in fabric role: it reads 0 and ignores writes (R31). -/
def State.sflAbsent (s : State) (k : RegKind) (i : Nat) : Bool := isSflReg k && !s.isFabric (s.leadOf (blockOfReg k i))

/-- A word of a duplicated table as a window reads it (R210): the replica of the lowest-numbered unfenced region, a window's from its own region, after comparison and repair. -/
def State.readEntry (s : State) (t : DupTable) (entry : Nat) (k : RegKind) (i : Nat) : State × Word :=
  let r := if t = .window then i / 1024 else s.firstLive
  let s := s.repair r t entry
  (s, s.lookup r k i)

/-- The job that entry `j` of a cluster's queue holds. -/
def State.queuedAt (s : State) (c j : Nat) : Option Job := (s.cluster c).queue.find? fun x => x.seq % 4096 = j

/-- A register's current value, with the state that reading it leaves (a table entry may be repaired): fields that follow the machine are computed here. -/
def State.regView (s : State) (k : RegKind) (i : Nat) : State × Word :=
  let w := s.reg k i
  let put := fun (F : Fld) (v : Nat) => w.setField F.hi F.lo v
  match k with
  | .ROUTE_ENTRY => s.readEntry .route i k i
  | .L1_W0 | .L1_W1 => s.readEntry .l1 i k i
  | .WIN_W0 | .WIN_W1 | .WIN_W2 => s.readEntry .window i k i
  | .MGT_OWN_STAT => (s, put MGT_OWN_STAT.LEASE_LEFT (if s.flag MGT_OWN_STAT.HELD 0 then (2000000000 - (s.clk - s.leaseAt)) / 1000000 else 0))
  | .TMP_CTX_18 => (s, (s.showTokens i).reg k i)
  | .MGT_FAB_FFT =>
    let up := ((List.range 4).map fun n => if s.altUsable w n then 2 ^ n else 0).sum
    (s, (put MGT_FAB_FFT.UP up).setField MGT_FAB_FFT.LOCAL.hi MGT_FAB_FFT.LOCAL.lo (bit (i = s.chipId)))
  | .MGT_FAB_MEMBER => (s, put MGT_FAB_MEMBER.AGE_MS (min 0xFFFF ((s.clk - Tbl.rd (fun _ => 0) s.fab.heard i) / 1000000)))
  | .TNG_JQ =>
    (s, match s.queuedAt (i / 32768) (i % 32768 / 8) with
        | some j => j.desc.getD (i % 8) 0
        | none => Config.freeWord s.freeCtr)
  | .PRT_CXL_STATUS => (s, put PRT_CXL_STATUS.VCS ((s.vcsOf i).getD 0x7F))
  | .PWR_THERM_STAT => (s, put PWR_THERM_STAT.THR_MS s.throttleMs)
  | .TIM_NOW_LO => (s, word (s.time % 2 ^ 64))
  | .TIM_NOW_HI => (s, word (s.time / 2 ^ 64))
  | _ => (s, if s.sflAbsent k i then 0 else w)

/-- The bits of a register that a list of fields covers. -/
def fieldMask (l : List Fld) : Nat := (l.map fun F => (2 ^ (F.hi + 1) - 2 ^ F.lo)).sum

/-- What a read returns (R7, R9): WO fields and Rsvd bits read 0. -/
def readable (k : RegKind) (w : Word) : Word := word (Nat.land w.toNat (fieldMask (k.fields.filter fun F => F.acc ≠ .WO)))

/-- The RC fields of a register that lie within bits [hi:lo] cleared (R7, R354). -/
def State.clearRC (s : State) (k : RegKind) (i hi lo : Nat) : State :=
  ((fieldsOf k .RC).filter fun F => decide (lo ≤ F.lo) && decide (F.hi ≤ hi)).foldl (fun t F => t.set F i 0) s

/-! ### One read (R354, R355, R402) -/

/-- An access that is refused: recorded (R29, R35). -/
def State.refuseRead (s : State) (n a size : Nat) : State × Option Nat := (s.refuse a size false n, none)

/-- The latch a read leaves: a 32-bit read of a low half holds the high half, a 64-bit read of TIM_NOW_LO the upper seconds; keyed by the address the latch answers. -/
def latchOf (s : State) (k : RegKind) (a size : Nat) (w : Word) : Option (Nat × Nat) :=
  if k = .TIM_NOW_LO ∧ size = 3 then some (a + 8, s.time / 2 ^ 64)
  else if size = 2 ∧ a % 8 = 0 then some (a + 4, w.toNat / 2 ^ 32)
  else none

/-- The RC fields that a read by the owner clears (R354): 64 bits or a low half clears all, a latched high half none, a live high half its own, 8 and 16 bits none. -/
def State.readClears (s : State) (k : RegKind) (i a size : Nat) (latched : Bool) : State :=
  if size = 3 ∨ (size = 2 ∧ a % 8 = 0) then s.clearRC k i 63 0
  else if size = 2 ∧ !latched then s.clearRC k i 63 32
  else s

/-- One read of 2^size bytes at an address by session `n`: its value, none for an access error. Every access takes the session's latch and discards its held half. -/
def State.readAccess (s : State) (n a size : Nat) : State × Option Nat :=
  let latch := (s.sesAt n).latch
  let s := s.setSes n { s.sesAt n with latch := none, held := none }
  if a % 2 ^ size ≠ 0 then s.refuseRead n a size
  else match s.locate a with
    | .reserved => s.refuseRead n a size
    | .view x =>
      let at' := s.get MGT_HBM_DBG_BASE.WINDOW 0 * 0x20000000 + x
      if s.hbmFenced 0 at' then (s.slagRequest 0 ⟨.session n, .internal, .poa 0, false, false, 0, [], 0, 0, false, false⟩, some (2 ^ (8 * 2 ^ size) - 1))
      else (s.hbmCount at' false, some (ofBytes (s.readHbm at' (2 ^ size))))
    | .reg k i =>
      let kept := latch.filter fun l => l.1 = a && (size = 2 || k = .TIM_NOW_HI)
      let v := s.regView k i
      let s := v.1
      let w := readable k v.2
      let s := match latchOf s k a size w with
        | some l => s.setSes n { s.sesAt n with latch := some l }
        | none => s
      let s := if s.owns n then s.readClears k i a size kept.isSome else s
      let live := w.toNat / 2 ^ (8 * (a % 8)) % 2 ^ (8 * 2 ^ size)
      (s, some (match kept with
        | some l => l.2 % 2 ^ (8 * 2 ^ size)
        | none => live))

/-- The accesses of a REG_READ in address order, up to the first that fails (R354): the state, the data, how many completed. -/
def State.readAccesses (n size : Nat) : Nat → Nat → State → List Byte → Nat → State × List Byte × Nat × Bool
  | 0, _, s, data, done => (s, data, done, true)
  | k + 1, a, s, data, done =>
    match s.readAccess n a size with
    | (t, some v) => State.readAccesses n size k (a + 2 ^ size) t (data ++ toBytes (2 ^ size) v) (done + 1)
    | (t, none) => (t, data, done, false)

/-- PARAM of a register response: the request's address and size, with the accesses completed in [40:32] (R345, R354). -/
def regParam (addr size done : Nat) : Nat := addr % 2 ^ 30 + size % 4 * 2 ^ 30 + done * 2 ^ 32

/-- An ACCESS_ERROR response, counted in the session's ACC_ERR. -/
def State.accessError (s : State) (n type tag param : Nat) (data : List Byte) : State :=
  (s.count MGT_SESS.ACC_ERR n).reply n type tag .accessError param data

/-- REG_READ (R345, R353, R354): the accesses in order; one that fails alone reads all-ones, and a message of several returns the completed ones' data (log entry 42). -/
def regRead (ses tag addr size count : Nat) (s : State) : State :=
  s.message ses 0x03 tag false fun s =>
    if count = 0 ∨ 256 < count then s.accessError ses 0x03 tag (regParam addr size 0) []
    else
      let z := size % 4
      match State.readAccesses ses z count (addr % 2 ^ 30) s [] 0 with
      | (t, data, done, true) => t.reply ses 0x03 tag .ok (regParam addr z done) data
      | (t, data, done, false) => t.accessError ses 0x03 tag (regParam addr z done) (if count = 1 then List.replicate (2 ^ z) 255 else data)

/-- TIM_NOW_READ (R402): a 64-bit read of TIM_NOW_LO. -/
def timNowRead (ses tag : Nat) (s : State) : State := regRead ses tag (drsAddr .TIM_NOW_LO 0) 3 1 s

/-! ### What a written register does -/

/-- The window of the debug view (R34): 96 to 127 is ignored. -/
def hbmDbgWindowWrite (value : Word) (s : State) : State :=
  let w := value.field 35 29
  if 96 ≤ w then s else s.set MGT_HBM_DBG_BASE.WINDOW 0 w

/-- A 1 written to MGT_DRS_ERR.PEND (R35): PEND and COUNT cleared; a refused access of the same cycle is recorded as a first access. -/
def drsErrPendClear (together : Option RefusedAccess) (s : State) : State :=
  let s := (s.set MGT_DRS_ERR.PEND 0 0).set MGT_DRS_ERR.COUNT 0 0
  match together with
  | some x => s.refuse x.addr x.size x.write x.session
  | none => s

/-- The RW fields of a register set and its W1C bits cleared, with nothing else to do (R7). -/
def State.writeFields (s : State) (k : RegKind) (i : Nat) (v : Word) : State :=
  let s := (fieldsOf k .RW).foldl (fun t F => t.set F i (v.field F.hi F.lo)) s
  (fieldsOf k .W1C).foldl (fun t F => t.set F i (Nat.land (t.get F i) (Nat.xor (v.field F.hi F.lo) (2 ^ F.width - 1)))) s

/-- A field of a written word. -/
def written (v : Word) (F : Fld) : Nat := v.field F.hi F.lo

/-- Nothing where a bit of the written word is 0. -/
def State.onBit (s : State) (v : Word) (F : Fld) (f : State → State) : State := if written v F = 1 then f s else s

/-- TIM_, CNT_ and SLT_ registers. -/
def State.writeTime (s : State) (k : RegKind) (i : Nat) (v : Word) : State :=
  match k with
  | .TIM_CFG =>
    let src := s.get TIM_CFG.SRC 0
    let t := s.writeFields k i v
    if t.get TIM_CFG.SRC 0 = src then t else t.sourceChanged
  | .TIM_CMD =>
    if written v TIM_CMD.SET = 1 ∧ written v TIM_CMD.ADJ = 1 then s.refuseWrite .TIM_CMD 0
    else (s.onBit v TIM_CMD.SET timSet).onBit v TIM_CMD.ADJ (timAdj (written v TIM_CMD.ADJ_NS))
  | .CNT_CTL => ((s.onBit v CNT_CTL.SNAP (cntSnap i)).onBit v CNT_CTL.CLR (cntClr i)).when (i = 4) fun t => t.onBit v CNT_CTL.CLR_PEAK clrPeak
  | .CNT_BW_CFG => (s.writeFields k i v).each (List.range 128) fun p t => t.set CNT_BW3.VALID p 0
  | .CNT_TRC_CFG => if s.flag CNT_TRC_STAT.RUN 0 then s.refuseWrite k i else s.writeFields k i v
  | .CNT_TRC_CTL => (s.onBit v CNT_TRC_CTL.START start).onBit v CNT_TRC_CTL.STOP stop
  | .SLT_CTL => ((s.writeFields k i v).onBit v SLT_CTL.CLEAR (slotClear i)).onBit v SLT_CTL.CYCLE (Sys2Proof.Machine.cycle i)
  | _ => s.writeFields k i v

/-- FLT_CFG (R392, R398, R399, R7): a region collector holds SECOND alone; in the chip collector's INJ_EN and LOCK are locked by LOCK, and a write to them then raises the lock-violation event. -/
def State.writeFltCfg (s : State) (c : Nat) (v : Word) : State :=
  if c < 4 then s.set FLT_CFG.SECOND c (written v FLT_CFG.SECOND)
  else
    let s := s.writeFields .FLT_CFG c v
    let s := if s.flag FLT_CFG.LOCK c then s.notice 4 0 (drsAddr .FLT_CFG c)
      else (s.set FLT_CFG.INJ_EN c (written v FLT_CFG.INJ_EN)).set FLT_CFG.LOCK c (written v FLT_CFG.LOCK)
    s.updFaultN

/-- FLT_REPAIR_CMD: an OP of R398, else ignored. -/
def State.writeRepair (s : State) (v : Word) : State :=
  let u := written v FLT_REPAIR_CMD.UNIT
  match written v FLT_REPAIR_CMD.OP with
  | 1 => clearLane u s
  | 2 => retireEngine u s
  | 3 => retireSlice u s
  | _ => s

/-- PWR_ and FLT_ registers. -/
def State.writePower (s : State) (k : RegKind) (i : Nat) (v : Word) : State :=
  match k with
  | .PWR_CTL =>
    let s := bankWrite 3 v s
    let s := if written v PWR_CTL.RECOVER = 0 then s else recoverRegions (written v PWR_CTL.RECOVER) s
    let s := s.onBit v PWR_CTL.TEST enterTest
    s.onBit v PWR_CTL.REBOOT reboot
  | .PWR_BANK_PORT => bankWrite i v s
  | .PWR_BANK_UNIT => bankWrite 2 v s
  | .FLT_CFG => s.writeFltCfg i v
  | .FLT_STAT => s.onBit v FLT_STAT.DEG degClear
  | .FLT_REC0 => s.onBit v FLT_REC0.PEND (fltPendClear i)
  | .FLT_INJ_CTL => fltInjGo v s
  | .FLT_REPAIR_CMD => s.writeRepair v
  | .FLT_REG_STAT => s.onBit v FLT_REG_STAT.FATAL (fltFatalClear i)
  | .PWR_TEL_MAN =>
    let c := s.get PWR_TEL_MAN.CHANNEL 0
    let g := s.get PWR_TEL_MAN.GAIN 0
    (s.writeFields k i v).manualChanged c g
  | .PWR_TEL_CH =>
    let g := s.get PWR_TEL_CH.GAIN i
    let f := s.get PWR_TEL_CH.FILTER i
    let t := s.writeFields k i v
    (if i < 64 then t.set PWR_TEL_CH.GAIN i 0 else t).channelChanged i g f
  | _ => s.writeTime k i v

/-- MGT_IMG_CMD and KEY_CMD: an OP of R328 and R335, else ignored. -/
def State.writeImage (s : State) (k : RegKind) (v : Word) (env : WriteEnv) : State :=
  let sl := written v MGT_IMG_CMD.SLOT
  match k, v.field 3 0 with
  | .MGT_IMG_CMD, 1 => imgErase sl s
  | .MGT_IMG_CMD, 2 => imgWrite sl (written v MGT_IMG_CMD.OFFSET) env.readBack s
  | .MGT_IMG_CMD, 3 => imgCheck sl env.rule env.img s
  | .MGT_IMG_CMD, 4 => imgCommit sl s
  | .MGT_IMG_CMD, 5 => imgApply sl env.img s
  | .KEY_CMD, 1 => keyGenId s
  | .KEY_CMD, 2 => keyRotate env.readBackOk s
  | .KEY_CMD, 3 => keyRevoke (written v KEY_CMD.ROOT) s
  | .KEY_CMD, 4 => keyProgRoot (written v KEY_CMD.ROOT) s
  | .KEY_CMD, 5 => keyRaiseSvn (written v KEY_CMD.SVN) s
  | _, _ => s

/-- MGT_ and KEY_ registers and the VCS and vPPB window, which is read-only (R89). A table that the acting manager writes is read-only on a member (R301). -/
def State.writeChip (s : State) (k : RegKind) (i : Nat) (v : Word) (env : WriteEnv) : State :=
  match k with
  | .MGT_HBM_DBG_BASE => hbmDbgWindowWrite v s
  | .MGT_DRS_ERR => s.onBit v MGT_DRS_ERR.PEND (drsErrPendClear none)
  | .VPPB_ENTRY | .VCS_ENTRY => s.refuseWrite k i
  | .MGT_FAB_CTL => handoverWrite v s
  | .MGT_FAB_MEMBER | .MGT_FAB_FFT | .HRT_AGENT =>
    if s.isMember (s.get MGT_CHIP_INFO.CHIP_ID 0) && decide (s.roleNow ≠ 3) then s.refuseWrite k i else s
  | .MGT_IMG_CMD | .KEY_CMD => s.writeImage k v env
  | .KEY_TRNG_CMD => s.onBit v KEY_TRNG_CMD.NEXT trngNext
  | .MGT_EVT_ACK => evtAckWrite v s
  | _ => s.writePower k i v

/-- TNG_ registers; the queue views are read-only (R281). -/
def State.writeTongs (s : State) (k : RegKind) (i : Nat) (v : Word) (env : WriteEnv) : State :=
  match k with
  | .TNG_JQ | .TNG_CQ => s.refuseWrite k i
  | .TNG_SUB_CMD => s.onBit v TNG_SUB_CMD.GO (tngSubGo i)
  | .TNG_CANCEL_CMD => s.onBit v TNG_CANCEL_CMD.GO (tngCancelGo i (written v TNG_CANCEL_CMD.JOB_ID))
  | .TNG_CQ_PTR => cqHeadWrite i v s
  | .TNG_ENG_CTL => s.onBit v TNG_ENG_CTL.RESET (engineReset i 1)
  | _ => s.writeChip k i v env

/-- RMP_CMD: an OP of R200, else ignored. -/
def State.writeRmp (s : State) (v : Word) : State :=
  let e := written v RMP_CMD.L1_IDX
  let g := written v RMP_CMD.GRAN
  match written v RMP_CMD.OP with
  | 1 => fracture e s
  | 2 => unfracture e s
  | 3 => writeL2 e g s
  | 4 => readL2 e g s
  | _ => s

/-- ACU_, RMP_ and HRT_ registers, remap level 1 and the ACU windows. -/
def State.writeMemory (s : State) (k : RegKind) (i : Nat) (v : Word) (env : WriteEnv) : State :=
  match k with
  | .L1_W0 => l1EntryWrite i 0 v s
  | .L1_W1 => l1EntryWrite i 1 v s
  | .WIN_W0 => acuWindowWrite i 0 v s
  | .WIN_W1 => acuWindowWrite i 1 v s
  | .ACU_CFG => s.set ACU_CFG.SCRUB_NS i (max 8 (written v ACU_CFG.SCRUB_NS))
  | .ACU_ERR_INFO => s.onBit v ACU_ERR_INFO.PEND (acuErrPendClear i)
  | .RMP_CMD => s.writeRmp v
  | .HRT_POISON_LOG => s.onBit v HRT_POISON_LOG.PEND (poisonLogClear i)
  | .HRT_CFG => hrtCfgWrite v s
  | .HRT_CMD => s.onBit v HRT_CMD.READ_DIR (readDir (written v HRT_CMD.LINE))
  | .RMP_HOT_CFG => hotEnWrite v s
  | .RMP_MIG_CFG => migCfgWrite v s
  | _ => s.writeTongs k i v env

/-- TMP_BIND_CMD: exactly one of BIND, UNBIND and LOOKUP, else ignored. -/
def State.writeBind (s : State) (r : Nat) (v : Word) : State :=
  let feid := written v TMP_BIND_CMD.SRC_FEID
  let ld := written v TMP_BIND_CMD.LD
  match written v TMP_BIND_CMD.BIND, written v TMP_BIND_CMD.UNBIND, written v TMP_BIND_CMD.LOOKUP with
  | 1, 0, 0 => bindFlow r (written v TMP_BIND_CMD.INDEX) feid ld s
  | 0, 1, 0 => unbindFlow r feid ld s
  | 0, 0, 1 => lookupFlow r feid ld s
  | _, _, _ => s

/-- TMP_ registers and the context window. -/
def State.writeTemper (s : State) (k : RegKind) (i : Nat) (v : Word) (env : WriteEnv) : State :=
  match k with
  | .TMP_CFG => holdBoundWrite i v s
  | .TMP_BIND_CMD => s.writeBind i v
  | .TMP_SHP_RATE => shaperRewrite (i / 8) (i % 8) 0 v s
  | .TMP_SHP_SIZE => shaperRewrite (i / 8) (i % 8) 1 v s
  | .TMP_CTX_08 => contextRewrite i 1 v s
  | .TMP_CTX_10 => contextRewrite i 2 v s
  | .TMP_CTX_20 => ((s.set TMP_CTX_20.HOLD_MAX i (max 16 (written v TMP_CTX_20.HOLD_MAX))).holdRoom i).holdFullNow i
  | _ => s.writeMemory k i v env

/-- ANV_ registers and the route window. -/
def State.writeAnvil (s : State) (k : RegKind) (i : Nat) (v : Word) (env : WriteEnv) : State :=
  match k with
  | .ROUTE_ENTRY => routeEntryWrite (i / 256) (i / 4 % 64) (i % 4) v s
  | .ANV_PRB_CTL => (s.writeFields k i v).onBit v ANV_PRB_CTL.SNAP (probeSnap i)
  | .ANV_QUENCH_CMD =>
    let ni := written v ANV_QUENCH_CMD.NI
    if written v ANV_QUENCH_CMD.SET = written v ANV_QUENCH_CMD.CLEAR then s
    else if written v ANV_QUENCH_CMD.SET = 1 then quenchSet i ni s
    else quenchClear i ni s
  | .ANV_MIR_CFG => mirrorEnWrite i v s
  | _ => s.writeTemper k i v env

/-- PRT_ and SFL_ registers. -/
def State.writePort (s : State) (k : RegKind) (i : Nat) (v : Word) (env : WriteEnv) : State :=
  match k with
  | .PRT_LINK_CTL =>
    let s := (s.set PRT_LINK_CTL.RATE_CAP0 i (written v PRT_LINK_CTL.RATE_CAP0)).set PRT_LINK_CTL.RATE_CAP1 i (written v PRT_LINK_CTL.RATE_CAP1)
    let s := adminWrite i (written v PRT_LINK_CTL.ADMIN0 = 1) (written v PRT_LINK_CTL.ADMIN1 = 1) s
    let s := l0pTgtWrite i 1 (written v PRT_LINK_CTL.L0P_TGT1) (l0pTgtWrite i 0 (written v PRT_LINK_CTL.L0P_TGT0) s)
    retrainWrite i (written v PRT_LINK_CTL.RETRAIN0 = 1) (written v PRT_LINK_CTL.RETRAIN1 = 1) s
  | .PRT_LANE_MAP => markClear i (written v PRT_LANE_MAP.MARK) s
  | .PRT_PRBS_CTL => (prbsEnWrite i v s).onBit v PRT_PRBS_CTL.SNAP (prbsSnap i env.bitsK env.errs)
  | .SFL_PHY_CTL => (s.writeFields k i v).onBit v SFL_PHY_CTL.RETRAIN (sflRetrainWrite i)
  | .SFL_LINK_CTL =>
    let keep := s.get SFL_LINK_CTL.DOWN_TMO i
    let s := s.writeFields k i v
    let s := if written v SFL_LINK_CTL.DOWN_TMO = 0 then s.set SFL_LINK_CTL.DOWN_TMO i keep else s
    s.onBit v SFL_LINK_CTL.LANE_REQ (laneReqWrite i)
  | .SFL_ENC_CTL => txSlotWrite i (written v SFL_ENC_CTL.TX_SLOT) s
  | .SFL_KEY_DATA => s.setReg k i v
  | .SFL_KEY_CMD => sflKeyCommit i v s
  | _ => s.writeAnvil k i v env

/-- A 64-bit write of a register (R7 to R9): an SFL_ register of a block that is not in fabric role ignores it (R31). -/
def State.writeReg (s : State) (k : RegKind) (i : Nat) (v : Word) (env : WriteEnv) : State := if s.sflAbsent k i then s else s.writePort k i v env

/-! ### One write (R354, R356) -/

/-- The register holds a W1C or WO field. -/
def hasAction (k : RegKind) : Bool := k.fields.any fun F => F.acc = .W1C || F.acc = .WO

/-- A write refused at the access: recorded (R29, R35). -/
def State.refuseStore (s : State) (n a size : Nat) : State × Bool := (s.refuse a size true n, false)

/-- A register written whole, with whether the write was performed: one that is recorded in MGT_DRS_ERR was not (log entry 42). -/
def State.perform (s : State) (n a size : Nat) (k : RegKind) (i : Nat) (v : Word) (env : WriteEnv) : State × Bool :=
  let t := { ({ s with accessing := some (a, size, n) }.writeReg k i v env) with accessing := none }
  (t, t.phase = .reset || t.refusals = s.refusals)

/-- A register's word with 2^size bytes at an address replaced; the other bits keep their values, W1C and WO bits written as 0. -/
def merged (old : Word) (a size v : Nat) : Word :=
  let lo := 8 * (a % 8)
  old.setField (lo + 8 * 2 ^ size - 1) lo v

/-- One write of 2^size bytes at an address by the owner's session `n` (R33, R354, R356): its effect, and whether it was performed. -/
def State.writeAccess (s : State) (n a size v : Nat) (env : WriteEnv) : State × Bool :=
  let held := (s.sesAt n).held
  let s := s.setSes n { s.sesAt n with latch := none, held := none }
  if a % 2 ^ size ≠ 0 then s.refuseStore n a size
  else match s.locate a with
    | .reserved => s.refuseStore n a size
    | .view x =>
      if s.phase ≠ .test then s.refuseStore n a size
      else
        let at' := s.get MGT_HBM_DBG_BASE.WINDOW 0 * 0x20000000 + x
        ((s.writeHbm at' (toBytes (2 ^ size) v)).hbmCount at' true, true)
    | .reg k i =>
      if size = 3 then s.perform n a size k i (word v) env
      else if size = 2 ∧ a % 8 = 0 then (s.setSes n { s.sesAt n with held := some (a, v) }, true)
      else if size = 2 ∧ held.any (fun h => h.1 + 4 = a) then
        s.perform n a size k i (word ((held.getD (0, 0)).2 % 2 ^ 32 + v % 2 ^ 32 * 2 ^ 32)) env
      else if size = 2 ∧ hasAction k then s.perform n a size k i (word (v % 2 ^ 32 * 2 ^ 32)) env
      else if size ≠ 2 ∧ (hasAction k ∨ k = .WIN_W0) then s.refuseStore n a size
      else if k = .FLT_CFG ∧ a % 8 ≠ 0 then (s, true)
      else s.perform n a size k i (merged (s.reg k i) a size v) env

/-- The accesses of a REG_WRITE in address order, up to the first that fails or a reset (R354): the state, how many completed, and whether all did. -/
def State.writeAccesses (n size : Nat) (env : WriteEnv) : Nat → Nat → List Byte → State → Nat → State × Nat × Bool
  | 0, _, _, s, done => (s, done, true)
  | k + 1, a, data, s, done =>
    match s.writeAccess n a size (ofBytes (data.take (2 ^ size))) env with
    | (t, true) => if t.phase = .reset then (t, done + 1, true) else State.writeAccesses n size env k (a + 2 ^ size) (data.drop (2 ^ size)) t (done + 1)
    | (t, false) => (t, done, false)

/-- REG_WRITE (R345, R353, R354, R356): owner only; BAD_LENGTH where the payload is not the data of its accesses; nothing answers once a write has reset the chip (R374). -/
def regWrite (ses tag addr size count : Nat) (data : List Byte) (env : WriteEnv) (s : State) : State :=
  s.message ses 0x04 tag true fun s =>
    let z := size % 4
    if count = 0 ∨ 256 < count then s.accessError ses 0x04 tag (regParam addr size 0) []
    else if data.length ≠ count * 2 ^ z then s.reply ses 0x04 tag .badLength
    else match State.writeAccesses ses z env count (addr % 2 ^ 30) data s 0 with
      | (t, done, ok) =>
        if t.phase = .reset then t
        else if ok then t.reply ses 0x04 tag .ok (regParam addr z done)
        else t.accessError ses 0x04 tag (regParam addr z done) []

/-- DEBUG_VIEW_ACCESS (R33): an access of 2^size bytes at offset `x` of the view by a session. -/
def debugViewAccess (ses tag x size : Nat) (write : Bool) (value : Word) (s : State) : State :=
  let a := 0x20000000 + x % 0x20000000
  if write then regWrite ses tag a size 1 (toBytes (2 ^ (size % 4)) value.toNat) WriteEnv.none s else regRead ses tag a size 1 s

/-! ### Memory requests of sessions (R191, R203, R345) -/

/-- The address that a descriptor gives a session (R204, R260): a pool address, or a device address; none for a descriptor that is not usable or names scratch, which only a Tongs program has
(log entry 41). -/
def sessionAddr (asd : Word) (addr : Nat) : Option ReqAddr :=
  if asd.field 29 29 = 0 then none
  else match asd.field 1 0 with
    | 0 => some (.poa addr)
    | 1 => some (.device (asd.field 18 2) (asd.field 22 19) addr)
    | _ => none

/-- A memory request of a session: it waits for its parts while the request is resolved in region A (R191). -/
def State.memRequest (s : State) (ses tag type : Nat) (asd : Word) (addr len : Nat) (write : Bool) (data : List Byte) : State :=
  if len = 0 ∨ 4064 < len then s.reply ses type tag .badLength
  else if s.phase = .safe then s.accessError ses type tag 0 []
  else match sessionAddr asd addr with
    | none => s.accessError ses type tag 0 []
    | some a =>
      let lens := (splitParts addr len).map (·.2)
      { s with
        memRuns := s.memRuns ++ [⟨ses, tag % 2 ^ 16, write, lens, lens.map fun _ => none, none⟩],
        decodeQ := s.decodeQ ++ [⟨.session ses, .internal, a, write, false, len, data, 2 ^ len - 1, tag % 2 ^ 16 + 2 ^ 16 * ses, false, false⟩] }

/-- MEM_READ (R345): up to 4,064 bytes at an address of a descriptor's space. -/
def memRead (ses tag : Nat) (asd : Word) (addr len : Nat) (s : State) : State :=
  s.message ses 0x0D tag false fun s => s.memRequest ses tag 0x0D asd addr len false []

/-- MEM_WRITE (R345): owner only. -/
def memWrite (ses tag : Nat) (asd : Word) (addr : Nat) (data : List Byte) (s : State) : State :=
  s.message ses 0x0E tag true fun s => s.memRequest ses tag 0x0E asd addr data.length true data

/-! ### Meanings -/

/-- DRS_ERR_PEND_CLEAR: R35. -/
def execDrsErrPendClear (together : Option RefusedAccess) (s : State) : Host.Outcome State Fault Refusal :=
  .next (drsErrPendClear together s)

/-- DEBUG_VIEW_ACCESS: R33. -/
def execDebugViewAccess (ses : Nat) (tag : Nat) (x : Nat) (size : Nat) (write : Bool) (value : Word) (s : State) : Host.Outcome State Fault Refusal :=
  run (decide (ses < 8)) (debugViewAccess ses tag x size write value s)

/-- HBM_DBG_WINDOW_WRITE: R34. -/
def execHbmDbgWindowWrite (value : Word) (s : State) : Host.Outcome State Fault Refusal :=
  .next (hbmDbgWindowWrite value s)

/-- REG_READ: R7, R8, R9, R29, R31, R35, R59, R88, R110, R136, R143, R171, R210, R213, R236, R256, R281, R318, R341, R345, R353, R354, R355, R360, R378, R399, R402, R420, R421, R422, R433. -/
def execRegRead (ses : Nat) (tag : Nat) (addr : Nat) (size : Nat) (count : Nat) (s : State) : Host.Outcome State Fault Refusal :=
  run (decide (ses < 8)) (regRead ses tag addr size count s)

/-- REG_WRITE: R7, R9, R29, R31, R35, R61, R89, R110, R136, R171, R188, R189, R200, R213, R214, R281, R301, R328, R340, R345, R352, R353, R354, R356, R378, R398, R416, R418, R420, R421, R422, R433. -/
def execRegWrite (ses : Nat) (tag : Nat) (addr : Nat) (size : Nat) (count : Nat) (data : List Byte) (env : WriteEnv) (s : State) : Host.Outcome State Fault Refusal :=
  run (decide (ses < 8)) (regWrite ses tag addr size count data env s)

/-- MEM_READ: R345. -/
def execMemRead (ses : Nat) (tag : Nat) (asd : Word) (addr : Nat) (len : Nat) (s : State) : Host.Outcome State Fault Refusal :=
  run (decide (ses < 8)) (memRead ses tag asd addr len s)

/-- MEM_WRITE: R345, R353. -/
def execMemWrite (ses : Nat) (tag : Nat) (asd : Word) (addr : Nat) (data : List Byte) (s : State) : Host.Outcome State Fault Refusal :=
  run (decide (ses < 8)) (memWrite ses tag asd addr data s)

/-- TIM_NOW_READ: R402. -/
def execTimNowRead (ses : Nat) (tag : Nat) (s : State) : Host.Outcome State Fault Refusal :=
  run (decide (ses < 8)) (timNowRead ses tag s)

end Sys2Proof.Machine
end

