-- ==== Sys2Proof/Machine/Dispatch.lean ====
section
/-! DEFINITION. One arm per command: a direct call of its meaning. -/

namespace Sys2Proof.Machine

def exec (i : Instr) (s : State) : Host.Outcome State Fault Refusal :=
  match i with
  | .crossingFlitArrival rt input ecc injected => Sys2Proof.Machine.execCrossingFlitArrival rt input ecc injected s
  | .drsErrPendClear together => Sys2Proof.Machine.execDrsErrPendClear together s
  | .debugViewAccess ses tag x size write value => Sys2Proof.Machine.execDebugViewAccess ses tag x size write value s
  | .hbmDbgWindowWrite value => Sys2Proof.Machine.execHbmDbgWindowWrite value s
  | .bringUpStart p bitsK errs => Sys2Proof.Machine.execBringUpStart p bitsK errs s
  | .trainingStageEnd p passed partner lanes => Sys2Proof.Machine.execTrainingStageEnd p passed partner lanes s
  | .adminWrite blk a0 a1 => Sys2Proof.Machine.execAdminWrite blk a0 a1 s
  | .symbolWindowEnd blk k symbols => Sys2Proof.Machine.execSymbolWindowEnd blk k symbols s
  | .laneMark blk k reason => Sys2Proof.Machine.execLaneMark blk k reason s
  | .l0pRequestPartner p width => Sys2Proof.Machine.execL0pRequestPartner p width s
  | .l0pTgtWrite blk h tgt => Sys2Proof.Machine.execL0pTgtWrite blk h tgt s
  | .l0pChangeComplete p => Sys2Proof.Machine.execL0pChangeComplete p s
  | .retrainWrite blk r0 r1 => Sys2Proof.Machine.execRetrainWrite blk r0 r1 s
  | .recoveryEntry p => Sys2Proof.Machine.execRecoveryEntry p s
  | .recoveryComplete p spareOk => Sys2Proof.Machine.execRecoveryComplete p spareOk s
  | .markClear blk mask => Sys2Proof.Machine.execMarkClear blk mask s
  | .spareSelfCheck blk ok => Sys2Proof.Machine.execSpareSelfCheck blk ok s
  | .prbsEnWrite blk value => Sys2Proof.Machine.execPrbsEnWrite blk value s
  | .prbsSnap blk bitsK errs => Sys2Proof.Machine.execPrbsSnap blk bitsK errs s
  | .prbsCheckerLock blk k clean => Sys2Proof.Machine.execPrbsCheckerLock blk k clean s
  | .prbsCheckerLoseLock blk k errors counted => Sys2Proof.Machine.execPrbsCheckerLoseLock blk k errors counted s
  | .dlUpLoss p planned partials => Sys2Proof.Machine.execDlUpLoss p planned partials s
  | .bindVppb p len vppb target ld => Sys2Proof.Machine.execBindVppb p len vppb target ld s
  | .bindComplete v => Sys2Proof.Machine.execBindComplete v s
  | .unbindVppb p len vppb option => Sys2Proof.Machine.execUnbindVppb p len vppb option s
  | .unbindComplete v => Sys2Proof.Machine.execUnbindComplete v s
  | .hotRemoveTimeout v => Sys2Proof.Machine.execHotRemoveTimeout v s
  | .hostPowerOff v => Sys2Proof.Machine.execHostPowerOff v s
  | .abortBackground p len => Sys2Proof.Machine.execAbortBackground p len s
  | .identify p len => Sys2Proof.Machine.execIdentify p len s
  | .backgroundStatus p len => Sys2Proof.Machine.execBackgroundStatus p len s
  | .getResponseLimit p len => Sys2Proof.Machine.execGetResponseLimit p len s
  | .setResponseLimit p len bytes => Sys2Proof.Machine.execSetResponseLimit p len bytes s
  | .getEventRecords p len => Sys2Proof.Machine.execGetEventRecords p len s
  | .clearEventRecords p len handles => Sys2Proof.Machine.execClearEventRecords p len handles s
  | .getEventPolicy p len => Sys2Proof.Machine.execGetEventPolicy p len s
  | .setEventPolicy p len policy => Sys2Proof.Machine.execSetEventPolicy p len policy s
  | .getTimestamp p len => Sys2Proof.Machine.execGetTimestamp p len s
  | .getSupportedLogs p len => Sys2Proof.Machine.execGetSupportedLogs p len s
  | .getLog p len => Sys2Proof.Machine.execGetLog p len s
  | .identifySwitch p len => Sys2Proof.Machine.execIdentifySwitch p len s
  | .getPortState p len ports => Sys2Proof.Machine.execGetPortState p len ports s
  | .portControl p len target op => Sys2Proof.Machine.execPortControl p len target op s
  | .ppbConfig p len target request answer => Sys2Proof.Machine.execPpbConfig p len target request answer s
  | .vcsInfo p len vcs => Sys2Proof.Machine.execVcsInfo p len vcs s
  | .generateAer p len vppb error => Sys2Proof.Machine.execGenerateAer p len vppb error s
  | .tunnel p len target reduced request answer => Sys2Proof.Machine.execTunnel p len target reduced request answer s
  | .ldConfig p len target ld request answer => Sys2Proof.Machine.execLdConfig p len target ld request answer s
  | .ldMemory p len target ld request answer => Sys2Proof.Machine.execLdMemory p len target ld request answer s
  | .dcdInfo p len => Sys2Proof.Machine.execDcdInfo p len s
  | .dcConfig p len vcs => Sys2Proof.Machine.execDcConfig p len vcs s
  | .setDcConfig p len vcs region sanitize => Sys2Proof.Machine.execSetDcConfig p len vcs region sanitize s
  | .extentLists p len vcs => Sys2Proof.Machine.execExtentLists p len vcs s
  | .dcAdd p len vcs region extents => Sys2Proof.Machine.execDcAdd p len vcs region extents s
  | .dcAddResponse vcs region accepted => Sys2Proof.Machine.execDcAddResponse vcs region accepted s
  | .dcAddTimeout vcs region => Sys2Proof.Machine.execDcAddTimeout vcs region s
  | .dcRelease p len vcs region extents => Sys2Proof.Machine.execDcRelease p len vcs region extents s
  | .extentReleaseComplete entry => Sys2Proof.Machine.execExtentReleaseComplete entry s
  | .weuskOverCci p len opcode type => Sys2Proof.Machine.execWeuskOverCci p len opcode type s
  | .unsupportedOpcode p len opcode => Sys2Proof.Machine.execUnsupportedOpcode p len opcode s
  | .hdmDecoderCommit vcs k d => Sys2Proof.Machine.execHdmDecoderCommit vcs k d s
  | .biEnableWrite vcs route on => Sys2Proof.Machine.execBiEnableWrite vcs route on s
  | .targetSurpriseRemoval p lost => Sys2Proof.Machine.execTargetSurpriseRemoval p lost s
  | .ideIntegrityFailure p lost => Sys2Proof.Machine.execIdeIntegrityFailure p lost s
  | .markerCandidate blk k marker spacing inverted => Sys2Proof.Machine.execMarkerCandidate blk k marker spacing inverted s
  | .markerCheck blk k marker late => Sys2Proof.Machine.execMarkerCheck blk k marker late s
  | .codewordDecode blk k ok symbols levels => Sys2Proof.Machine.execCodewordDecode blk k ok symbols levels s
  | .calibrationDone blk failed => Sys2Proof.Machine.execCalibrationDone blk failed s
  | .signalDetect blk pairs => Sys2Proof.Machine.execSignalDetect blk pairs s
  | .trainBlockReceived blk k x => Sys2Proof.Machine.execTrainBlockReceived blk k x s
  | .adaptDone blk => Sys2Proof.Machine.execAdaptDone blk s
  | .adaptBoundExceeded blk => Sys2Proof.Machine.execAdaptBoundExceeded blk s
  | .adaptPartnerDoneTimeout blk => Sys2Proof.Machine.execAdaptPartnerDoneTimeout blk s
  | .deskewRelease blk skews => Sys2Proof.Machine.execDeskewRelease blk skews s
  | .capBlockReceived blk bits => Sys2Proof.Machine.execCapBlockReceived blk bits s
  | .capxComplete blk more => Sys2Proof.Machine.execCapxComplete blk more s
  | .capxTimeout blk => Sys2Proof.Machine.execCapxTimeout blk s
  | .trainingFailBackoffEnd blk => Sys2Proof.Machine.execTrainingFailBackoffEnd blk s
  | .checkUnitReceived blk blocks => Sys2Proof.Machine.execCheckUnitReceived blk blocks s
  | .partnerRetrainDetect blk seen => Sys2Proof.Machine.execPartnerRetrainDetect blk seen s
  | .sflRetrainWrite blk => Sys2Proof.Machine.execSflRetrainWrite blk s
  | .dataUnitSend blk => Sys2Proof.Machine.execDataUnitSend blk s
  | .flowUnitReceived blk blocks => Sys2Proof.Machine.execFlowUnitReceived blk blocks s
  | .ackReceived blk aseq => Sys2Proof.Machine.execAckReceived blk aseq s
  | .nakReceived blk aseq => Sys2Proof.Machine.execNakReceived blk aseq s
  | .replayTimeout blk => Sys2Proof.Machine.execReplayTimeout blk s
  | .replayUnitResend blk => Sys2Proof.Machine.execReplayUnitResend blk s
  | .replayMaxExceeded blk => Sys2Proof.Machine.execReplayMaxExceeded blk s
  | .ackTimer blk => Sys2Proof.Machine.execAckTimer blk s
  | .nakResendTimer blk => Sys2Proof.Machine.execNakResendTimer blk s
  | .xoffUpdate blk v => Sys2Proof.Machine.execXoffUpdate blk v s
  | .timingSlot blk => Sys2Proof.Machine.execTimingSlot blk s
  | .timingUnitReceived blk blocks arr => Sys2Proof.Machine.execTimingUnitReceived blk blocks arr s
  | .laneSet blk received bits copies => Sys2Proof.Machine.execLaneSet blk received bits copies s
  | .laneAck blk bits copies => Sys2Proof.Machine.execLaneAck blk bits copies s
  | .laneNak blk bits copies => Sys2Proof.Machine.execLaneNak blk bits copies s
  | .switchLanes blk received bits copies => Sys2Proof.Machine.execSwitchLanes blk received bits copies s
  | .keysync blk bits copies => Sys2Proof.Machine.execKeysync blk bits copies s
  | .activeLaneLockLoss blk lane => Sys2Proof.Machine.execActiveLaneLockLoss blk lane s
  | .laneReqWrite blk => Sys2Proof.Machine.execLaneReqWrite blk s
  | .sflLinkDown blk => Sys2Proof.Machine.execSflLinkDown blk s
  | .downTmoExpiry blk => Sys2Proof.Machine.execDownTmoExpiry blk s
  | .sflKeyCommit blk value => Sys2Proof.Machine.execSflKeyCommit blk value s
  | .txSlotWrite blk slot => Sys2Proof.Machine.execTxSlotWrite blk slot s
  | .keyCountLimit blk slot => Sys2Proof.Machine.execKeyCountLimit blk slot s
  | .packetInject n src p => Sys2Proof.Machine.execPacketInject n src p s
  | .routeEntryWrite n d a value => Sys2Proof.Machine.execRouteEntryWrite n d a value s
  | .routeChangeResume n d => Sys2Proof.Machine.execRouteChangeResume n d s
  | .flitSwitch rt out ecc wire => Sys2Proof.Machine.execFlitSwitch rt out ecc wire s
  | .linkWireSpare rt d wire => Sys2Proof.Machine.execLinkWireSpare rt d wire s
  | .voqInject n => Sys2Proof.Machine.execVoqInject n s
  | .creditRequest n e => Sys2Proof.Machine.execCreditRequest n e s
  | .creditGrant e => Sys2Proof.Machine.execCreditGrant e s
  | .creditReturn e n => Sys2Proof.Machine.execCreditReturn e n s
  | .sharedGrantRelease n e => Sys2Proof.Machine.execSharedGrantRelease n e s
  | .egressPacketSend p => Sys2Proof.Machine.execEgressPacketSend p s
  | .messageToDecode p crcOk m => Sys2Proof.Machine.execMessageToDecode p crcOk m s
  | .fabricHeaderRebuild blk d => Sys2Proof.Machine.execFabricHeaderRebuild blk d s
  | .quenchTrigger n code => Sys2Proof.Machine.execQuenchTrigger n code s
  | .quenchNoticeArrival n target code => Sys2Proof.Machine.execQuenchNoticeArrival n target code s
  | .quenchSet r n => Sys2Proof.Machine.execQuenchSet r n s
  | .quenchClear r n => Sys2Proof.Machine.execQuenchClear r n s
  | .slagAnswer n => Sys2Proof.Machine.execSlagAnswer n s
  | .unquench n => Sys2Proof.Machine.execUnquench n s
  | .unquenchNoticeArrival n target => Sys2Proof.Machine.execUnquenchNoticeArrival n target s
  | .mirrorCopy m port egress poison flow msg => Sys2Proof.Machine.execMirrorCopy m port egress poison flow msg s
  | .mirrorRecordWrite m => Sys2Proof.Machine.execMirrorRecordWrite m s
  | .probeMatch rt input p => Sys2Proof.Machine.execProbeMatch rt input p s
  | .probeSnap rt => Sys2Proof.Machine.execProbeSnap rt s
  | .mirrorEnWrite m value => Sys2Proof.Machine.execMirrorEnWrite m value s
  | .requestColour q => Sys2Proof.Machine.execRequestColour q s
  | .holdQueueRetest c => Sys2Proof.Machine.execHoldQueueRetest c s
  | .holdQueueFull c => Sys2Proof.Machine.execHoldQueueFull c s
  | .holdBoundExpiry c => Sys2Proof.Machine.execHoldBoundExpiry c s
  | .holdBoundWrite r value => Sys2Proof.Machine.execHoldBoundWrite r value s
  | .contextRewrite c wordNo value => Sys2Proof.Machine.execContextRewrite c wordNo value s
  | .shaperRewrite p queue wordNo value => Sys2Proof.Machine.execShaperRewrite p queue wordNo value s
  | .cmarkReceived p param c => Sys2Proof.Machine.execCmarkReceived p param c s
  | .bindFlow r index feid ld => Sys2Proof.Machine.execBindFlow r index feid ld s
  | .unbindFlow r feid ld => Sys2Proof.Machine.execUnbindFlow r feid ld s
  | .lookupFlow r feid ld => Sys2Proof.Machine.execLookupFlow r feid ld s
  | .bindCommandComplete r => Sys2Proof.Machine.execBindCommandComplete r s
  | .autoBind r feid ld => Sys2Proof.Machine.execAutoBind r feid ld s
  | .requestResolve q => Sys2Proof.Machine.execRequestResolve q s
  | .acuErrPendClear r => Sys2Proof.Machine.execAcuErrPendClear r s
  | .l2CacheFill r entry => Sys2Proof.Machine.execL2CacheFill r entry s
  | .acuWindowWrite win wordNo value => Sys2Proof.Machine.execAcuWindowWrite win wordNo value s
  | .l1EntryWrite entry wordNo value => Sys2Proof.Machine.execL1EntryWrite entry wordNo value s
  | .duplicateMismatch r t entry copy flip ecc => Sys2Proof.Machine.execDuplicateMismatch r t entry copy flip ecc s
  | .duplicateRepair r t entry => Sys2Proof.Machine.execDuplicateRepair r t entry s
  | .tableScrubStep r => Sys2Proof.Machine.execTableScrubStep r s
  | .fracture idx => Sys2Proof.Machine.execFracture idx s
  | .unfracture idx => Sys2Proof.Machine.execUnfracture idx s
  | .writeL2 idx gran => Sys2Proof.Machine.execWriteL2 idx gran s
  | .readL2 idx gran => Sys2Proof.Machine.execReadL2 idx gran s
  | .remapCommandComplete => Sys2Proof.Machine.execRemapCommandComplete s
  | .hearthRequestArrival q => Sys2Proof.Machine.execHearthRequestArrival q s
  | .transactionStart line => Sys2Proof.Machine.execTransactionStart line s
  | .directoryCacheMiss line => Sys2Proof.Machine.execDirectoryCacheMiss line s
  | .holdExpiry line agent => Sys2Proof.Machine.execHoldExpiry line agent s
  | .bisnpSend line agent => Sys2Proof.Machine.execBisnpSend line agent s
  | .birspReceived line agent rsp => Sys2Proof.Machine.execBirspReceived line agent rsp s
  | .snpDeadReceived line agent => Sys2Proof.Machine.execSnpDeadReceived line agent s
  | .bisnpTimeout line agent => Sys2Proof.Machine.execBisnpTimeout line agent s
  | .writebackReceived q => Sys2Proof.Machine.execWritebackReceived q s
  | .biconflict line agent tag => Sys2Proof.Machine.execBiconflict line agent tag s
  | .expanderResponse line data poison slag => Sys2Proof.Machine.execExpanderResponse line data poison slag s
  | .transactionComplete line => Sys2Proof.Machine.execTransactionComplete line s
  | .caidRequest vcs => Sys2Proof.Machine.execCaidRequest vcs s
  | .caidInstall agent feid => Sys2Proof.Machine.execCaidInstall agent feid s
  | .caidRequestTimeout vcs => Sys2Proof.Machine.execCaidRequestTimeout vcs s
  | .agentRemoval agent => Sys2Proof.Machine.execAgentRemoval agent s
  | .directorySweepComplete agent => Sys2Proof.Machine.execDirectorySweepComplete agent s
  | .readDir line => Sys2Proof.Machine.execReadDir line s
  | .hrtCfgWrite value => Sys2Proof.Machine.execHrtCfgWrite value s
  | .poisonLogClear n => Sys2Proof.Machine.execPoisonLogClear n s
  | .hotnessNotice r credit => Sys2Proof.Machine.execHotnessNotice r credit s
  | .hotnessCoalesceFlush r granule => Sys2Proof.Machine.execHotnessCoalesceFlush r granule s
  | .hotnessEpochChange => Sys2Proof.Machine.execHotnessEpochChange s
  | .hotnessFlushComplete => Sys2Proof.Machine.execHotnessFlushComplete s
  | .hotEnWrite value => Sys2Proof.Machine.execHotEnWrite value s
  | .migrate e => Sys2Proof.Machine.execMigrate e s
  | .drainComplete pt => Sys2Proof.Machine.execDrainComplete pt s
  | .copyPassComplete k => Sys2Proof.Machine.execCopyPassComplete k s
  | .migrationHold k => Sys2Proof.Machine.execMigrationHold k s
  | .holdAbort k => Sys2Proof.Machine.execHoldAbort k s
  | .migrationSwap k => Sys2Proof.Machine.execMigrationSwap k s
  | .migrationFinish k => Sys2Proof.Machine.execMigrationFinish k s
  | .migrationLoss k what => Sys2Proof.Machine.execMigrationLoss k what s
  | .migCfgWrite value => Sys2Proof.Machine.execMigCfgWrite value s
  | .jobDispatch c => Sys2Proof.Machine.execJobDispatch c s
  | .dmLd e rd asr size addr off => Sys2Proof.Machine.execDmLd e rd asr size addr off s
  | .dmSt e rd asr size addr off => Sys2Proof.Machine.execDmSt e rd asr size addr off s
  | .dmCopy e rd asr size src dst => Sys2Proof.Machine.execDmCopy e rd asr size src dst s
  | .dmFill e rd asr size addr pattern => Sys2Proof.Machine.execDmFill e rd asr size addr pattern s
  | .dmAmo e rd asr f addr operand => Sys2Proof.Machine.execDmAmo e rd asr f addr operand s
  | .dmWait e rd ticket => Sys2Proof.Machine.execDmWait e rd ticket s
  | .dmFence e scope => Sys2Proof.Machine.execDmFence e scope s
  | .dmCrc e rd off length => Sys2Proof.Machine.execDmCrc e rd off length s
  | .jobDone e status off => Sys2Proof.Machine.execJobDone e status off s
  | .jobSubmit e rd off target => Sys2Proof.Machine.execJobSubmit e rd off target s
  | .coprocessorCommit e => Sys2Proof.Machine.execCoprocessorCommit e s
  | .speculativeReadDefer e ticket => Sys2Proof.Machine.execSpeculativeReadDefer e ticket s
  | .coprocessorSquash e kept => Sys2Proof.Machine.execCoprocessorSquash e kept s
  | .farResponse e tag status slag data => Sys2Proof.Machine.execFarResponse e tag status slag data s
  | .tngSubGo c => Sys2Proof.Machine.execTngSubGo c s
  | .deviceJobSubmit c fill arg => Sys2Proof.Machine.execDeviceJobSubmit c fill arg s
  | .jobCopy e => Sys2Proof.Machine.execJobCopy e s
  | .jobFill e => Sys2Proof.Machine.execJobFill e s
  | .jobCrc e => Sys2Proof.Machine.execJobCrc e s
  | .jobCompare e => Sys2Proof.Machine.execJobCompare e s
  | .dirSweep e => Sys2Proof.Machine.execDirSweep e s
  | .telem e => Sys2Proof.Machine.execTelem e s
  | .telemSnapshot e => Sys2Proof.Machine.execTelemSnapshot e s
  | .kernelJob e c => Sys2Proof.Machine.execKernelJob e c s
  | .kernelFault e mcause mtval => Sys2Proof.Machine.execKernelFault e mcause mtval s
  | .completionRecordWrite e => Sys2Proof.Machine.execCompletionRecordWrite e s
  | .cqHeadWrite c value => Sys2Proof.Machine.execCqHeadWrite c value s
  | .tngCancelGo c job => Sys2Proof.Machine.execTngCancelGo c job s
  | .engineReset e cause => Sys2Proof.Machine.execEngineReset e cause s
  | .engineWatchdog e => Sys2Proof.Machine.execEngineWatchdog e s
  | .engineLoadComplete e program => Sys2Proof.Machine.execEngineLoadComplete e program s
  | .programReload e => Sys2Proof.Machine.execProgramReload e s
  | .joinFabric m => Sys2Proof.Machine.execJoinFabric m s
  | .joinRefuse cause => Sys2Proof.Machine.execJoinRefuse cause s
  | .distPrep sender epoch g => Sys2Proof.Machine.execDistPrep sender epoch g s
  | .distCommit epoch gen => Sys2Proof.Machine.execDistCommit epoch gen s
  | .distAbort epoch gen => Sys2Proof.Machine.execDistAbort epoch gen s
  | .ackFabric chip type gen highest => Sys2Proof.Machine.execAckFabric chip type gen highest s
  | .resync chip gen => Sys2Proof.Machine.execResync chip gen s
  | .standbyAckTimeout => Sys2Proof.Machine.execStandbyAckTimeout s
  | .announceSend => Sys2Proof.Machine.execAnnounceSend s
  | .announce m => Sys2Proof.Machine.execAnnounce m s
  | .leaseLapse => Sys2Proof.Machine.execLeaseLapse s
  | .voteReq chip proposed => Sys2Proof.Machine.execVoteReq chip proposed s
  | .vote chip proposed highest => Sys2Proof.Machine.execVote chip proposed highest s
  | .managerIsolated => Sys2Proof.Machine.execManagerIsolated s
  | .managerListenEnd => Sys2Proof.Machine.execManagerListenEnd s
  | .handoverWrite value => Sys2Proof.Machine.execHandoverWrite value s
  | .handoverMessage epoch gen => Sys2Proof.Machine.execHandoverMessage epoch gen s
  | .linkReport r tables => Sys2Proof.Machine.execLinkReport r tables s
  | .chipUnreachable chip => Sys2Proof.Machine.execChipUnreachable chip s
  | .fabricForward blk origin f => Sys2Proof.Machine.execFabricForward blk origin f s
  | .ttlExpired blk f => Sys2Proof.Machine.execTtlExpired blk f s
  | .fabricLinkLossReroute p drained => Sys2Proof.Machine.execFabricLinkLossReroute p drained s
  | .mixedRevisionRetrain blk partnerOk => Sys2Proof.Machine.execMixedRevisionRetrain blk partnerOk s
  | .mixedConditionChange => Sys2Proof.Machine.execMixedConditionChange s
  | .imgErase sl => Sys2Proof.Machine.execImgErase sl s
  | .imgWrite sl offset readBack => Sys2Proof.Machine.execImgWrite sl offset readBack s
  | .imgCheck sl rule img => Sys2Proof.Machine.execImgCheck sl rule img s
  | .imgCommit sl => Sys2Proof.Machine.execImgCommit sl s
  | .imgApply sl img => Sys2Proof.Machine.execImgApply sl img s
  | .imageCommandComplete => Sys2Proof.Machine.execImageCommandComplete s
  | .keyGenId => Sys2Proof.Machine.execKeyGenId s
  | .keyRotate readBackOk => Sys2Proof.Machine.execKeyRotate readBackOk s
  | .keyRevoke n => Sys2Proof.Machine.execKeyRevoke n s
  | .keyProgRoot n => Sys2Proof.Machine.execKeyProgRoot n s
  | .keyRaiseSvn floor => Sys2Proof.Machine.execKeyRaiseSvn floor s
  | .keyCommandComplete => Sys2Proof.Machine.execKeyCommandComplete s
  | .trngStartupComplete => Sys2Proof.Machine.execTrngStartupComplete s
  | .trngHealthFailure apt => Sys2Proof.Machine.execTrngHealthFailure apt s
  | .trngReseed => Sys2Proof.Machine.execTrngReseed s
  | .trngNext => Sys2Proof.Machine.execTrngNext s
  | .bootRecordsRead => Sys2Proof.Machine.execBootRecordsRead s
  | .bootVerifyResult ruleA imgA ruleB imgB => Sys2Proof.Machine.execBootVerifyResult ruleA imgA ruleB imgB s
  | .openSession path place peer tag => Sys2Proof.Machine.execOpenSession path place peer tag s
  | .closeSession ses tag => Sys2Proof.Machine.execCloseSession ses tag s
  | .sessionIdleTimeout ses => Sys2Proof.Machine.execSessionIdleTimeout ses s
  | .sessionPathLoss ses => Sys2Proof.Machine.execSessionPathLoss ses s
  | .regRead ses tag addr size count => Sys2Proof.Machine.execRegRead ses tag addr size count s
  | .regWrite ses tag addr size count data env => Sys2Proof.Machine.execRegWrite ses tag addr size count data env s
  | .claim ses tag prio => Sys2Proof.Machine.execClaim ses tag prio s
  | .electionWindowClose => Sys2Proof.Machine.execElectionWindowClose s
  | .renew ses tag => Sys2Proof.Machine.execRenew ses tag s
  | .ownerLeaseLapse => Sys2Proof.Machine.execOwnerLeaseLapse s
  | .ownHandover ses tag successor => Sys2Proof.Machine.execOwnHandover ses tag successor s
  | .releaseOwnership ses tag => Sys2Proof.Machine.execReleaseOwnership ses tag s
  | .eventQueue ev cls detail => Sys2Proof.Machine.execEventQueue ev cls detail s
  | .eventSend => Sys2Proof.Machine.execEventSend s
  | .eventAck ses tag seq => Sys2Proof.Machine.execEventAck ses tag seq s
  | .evtAckWrite value => Sys2Proof.Machine.execEvtAckWrite value s
  | .eventResendTimeout => Sys2Proof.Machine.execEventResendTimeout s
  | .fmApi ses tag c => Sys2Proof.Machine.execFmApi ses tag c s
  | .memRead ses tag asd addr len => Sys2Proof.Machine.execMemRead ses tag asd addr len s
  | .memWrite ses tag asd addr data => Sys2Proof.Machine.execMemWrite ses tag asd addr data s
  | .unknownTypeMessage ses tag ver type length bytes => Sys2Proof.Machine.execUnknownTypeMessage ses tag ver type length bytes s
  | .udpDuplicateRequest ses tag => Sys2Proof.Machine.execUdpDuplicateRequest ses tag s
  | .resetNAssert => Sys2Proof.Machine.execResetNAssert s
  | .resetEnd cause role bootSrc pins => Sys2Proof.Machine.execResetEnd cause role bootSrc pins s
  | .brownOut rail lost => Sys2Proof.Machine.execBrownOut rail lost s
  | .reboot => Sys2Proof.Machine.execReboot s
  | .enterTest => Sys2Proof.Machine.execEnterTest s
  | .boundaryScanTest => Sys2Proof.Machine.execBoundaryScanTest s
  | .hbmInitDone ok kept sram hbm => Sys2Proof.Machine.execHbmInitDone ok kept sram hbm s
  | .provisionComplete => Sys2Proof.Machine.execProvisionComplete s
  | .recoverRegions mask => Sys2Proof.Machine.execRecoverRegions mask s
  | .regionRecoveryEnd r ok => Sys2Proof.Machine.execRegionRecoveryEnd r ok s
  | .perstAssert blk => Sys2Proof.Machine.execPerstAssert blk s
  | .perstDeassert blk => Sys2Proof.Machine.execPerstDeassert blk s
  | .bankWrite which value => Sys2Proof.Machine.execBankWrite which value s
  | .unitBanked u l1 => Sys2Proof.Machine.execUnitBanked u l1 s
  | .bankDemandWake u => Sys2Proof.Machine.execBankDemandWake u s
  | .bankIdleRebank u l1 => Sys2Proof.Machine.execBankIdleRebank u l1 s
  | .faultCause ev cls detail inj => Sys2Proof.Machine.execFaultCause ev cls detail inj s
  | .fltPendClear c => Sys2Proof.Machine.execFltPendClear c s
  | .fltFatalClear r => Sys2Proof.Machine.execFltFatalClear r s
  | .regionFence r => Sys2Proof.Machine.execRegionFence r s
  | .lostHomeScan n ok => Sys2Proof.Machine.execLostHomeScan n ok s
  | .chipFatalCause ev => Sys2Proof.Machine.execChipFatalCause ev s
  | .emberToggle => Sys2Proof.Machine.execEmberToggle s
  | .fltInjGo value => Sys2Proof.Machine.execFltInjGo value s
  | .injectionApply => Sys2Proof.Machine.execInjectionApply s
  | .injectionTimeout => Sys2Proof.Machine.execInjectionTimeout s
  | .wearSample what u value => Sys2Proof.Machine.execWearSample what u value s
  | .spareSliceReplace n fault scanOk => Sys2Proof.Machine.execSpareSliceReplace n fault scanOk s
  | .spareEngineReplace e fault => Sys2Proof.Machine.execSpareEngineReplace e fault s
  | .sramSoftRepair r spare => Sys2Proof.Machine.execSramSoftRepair r spare s
  | .hbmSoftPpr ch line spare => Sys2Proof.Machine.execHbmSoftPpr ch line spare s
  | .clearLane u => Sys2Proof.Machine.execClearLane u s
  | .retireEngine u => Sys2Proof.Machine.execRetireEngine u s
  | .retireSlice u => Sys2Proof.Machine.execRetireSlice u s
  | .degClear => Sys2Proof.Machine.execDegClear s
  | .poolUnmetDemand p => Sys2Proof.Machine.execPoolUnmetDemand p s
  | .ppsOutEdge => Sys2Proof.Machine.execPpsOutEdge s
  | .timNowRead ses tag => Sys2Proof.Machine.execTimNowRead ses tag s
  | .servoUpdate => Sys2Proof.Machine.execServoUpdate s
  | .ptpSync domain sender t1 t3 t4 => Sys2Proof.Machine.execPtpSync domain sender t1 t3 t4 s
  | .ppsInEdge => Sys2Proof.Machine.execPpsInEdge s
  | .timeReferenceLoss source => Sys2Proof.Machine.execTimeReferenceLoss source s
  | .timSet => Sys2Proof.Machine.execTimSet s
  | .timAdj adj => Sys2Proof.Machine.execTimAdj adj s
  | .telemetryConversion c code result man => Sys2Proof.Machine.execTelemetryConversion c code result man s
  | .thermalStateChange c => Sys2Proof.Machine.execThermalStateChange c s
  | .cntSnap u => Sys2Proof.Machine.execCntSnap u s
  | .cntClr u => Sys2Proof.Machine.execCntClr u s
  | .clrPeak => Sys2Proof.Machine.execClrPeak s
  | .bwWindowEnd p inB outB => Sys2Proof.Machine.execBwWindowEnd p inB outB s
  | .traceRecord credit => Sys2Proof.Machine.execTraceRecord credit s
  | .start => Sys2Proof.Machine.execStart s
  | .stop => Sys2Proof.Machine.execStop s
  | .pmbusPoll n first retry vin vout iout pin energy => Sys2Proof.Machine.execPmbusPoll n first retry vin vout iout pin energy s
  | .slotChainFrame inputs => Sys2Proof.Machine.execSlotChainFrame inputs s
  | .slotCommandedOn n => Sys2Proof.Machine.execSlotCommandedOn n s
  | .slotPgood n => Sys2Proof.Machine.execSlotPgood n s
  | .slotSettleEnd n => Sys2Proof.Machine.execSlotSettleEnd n s
  | .slotPerstRelease n => Sys2Proof.Machine.execSlotPerstRelease n s
  | .slotOffCommand n => Sys2Proof.Machine.execSlotOffCommand n s
  | .slotTrip n why => Sys2Proof.Machine.execSlotTrip n why s
  | .slotRetry n => Sys2Proof.Machine.execSlotRetry n s
  | .slotStableReset n => Sys2Proof.Machine.execSlotStableReset n s
  | .fetFail n => Sys2Proof.Machine.execFetFail n s
  | .slotClear n => Sys2Proof.Machine.execSlotClear n s
  | .pwrbrkAssert n warning => Sys2Proof.Machine.execPwrbrkAssert n warning s
  | .pwrbrkRelease n => Sys2Proof.Machine.execPwrbrkRelease n s
  | .slotPresenceLoss n => Sys2Proof.Machine.execSlotPresenceLoss n s
  | .cycle n => Sys2Proof.Machine.execCycle n s
  | .attentionButton n => Sys2Proof.Machine.execAttentionButton n s
  | .refclkLoss k => Sys2Proof.Machine.execRefclkLoss k s
  | .refclkRestore k role bootSrc pins => Sys2Proof.Machine.execRefclkRestore k role bootSrc pins s
  | .ideKeySetUp p mode io => Sys2Proof.Machine.execIdeKeySetUp p mode io s
  | .remoteBinding ses tag vppb feid ld bind mixed answer => Sys2Proof.Machine.execRemoteBinding ses tag vppb feid ld bind mixed answer s
  | .hotnessZeroFillComplete => Sys2Proof.Machine.execHotnessZeroFillComplete s
  | .ptpAnnounce m => Sys2Proof.Machine.execPtpAnnounce m s
  | .upstreamTimeout => Sys2Proof.Machine.execUpstreamTimeout s

end Sys2Proof.Machine
end

