-- ==== Sys2Proof/Safety.lean ====
section
/-! DEFINITION. What counts as a safe run, in the terms that statements use: states whose memories are in canonical form, queues that name only
units that exist, and the parts of the state that a command leaves alone. -/

namespace Sys2Proof.Machine

/-- The register file, the HBM and the two flash devices are in their canonical form. -/
def State.Canonical (s : State) : Prop :=
  Tbl.wf regReset s.regs = true ∧ Memory.wf s.hbm = true ∧ Tbl.wf erasedByte s.flashA = true ∧ Tbl.wf erasedByte s.flashB = true

/-- Every command that waits names only units that exist. -/
def State.Queued (s : State) : Prop := ∀ c ∈ s.pending, c.wf = true

/-- A step that does not stop. -/
def State.Goes (s : State) : Prop := ∃ t, step s = .next t

/-- A port's CCI is session `n`, open and within its payload limit (R82, R342). -/
abbrev State.CciOpen (s : State) (p len n : Nat) : Prop := p < 128 ∧ len ≤ 4096 ∧ s.reachable 0 = true ∧ s.cciPort p = true ∧ s.cciSession p = some n

/-- The same, with the session the chip's owner (R353). -/
abbrev State.CciOwner (s : State) (p len n : Nat) : Prop := s.CciOpen p len n ∧ s.owns n = true

/-- The fields of State beside the register file. -/
inductive StateField where
  | phase | clk | tim | freeCtr | out | hbm | hbmEcc | blocks | prbs | ports | partials | vppbs | fmReq | cxlLog | cxlHandle | dcAdds
  | dcReleases | fillDue | dcRegion | dcSanitize | biDecoder | outst | decodeQ | portHold | sflLanes | sflTx | sflTrain | sfl | ni | voq
  | ledger | crQueue | inflight | rtr | prb | mir | xing | gateDrops | wear | margins | bands | buckets | holdQ | holdFull | marks | tcs
  | bindRun | stamps | rep | repEcc | chipEcc | wtag | scrubAt | l2Cache | rmpRun | decoders | commitWait | ideKeys | resolved | denials
  | dirCache | txns | wbuf | trkWait | homeHolds | spareUntil | sweeping | caidWait | migWait | migMaps | migHeld | accesses | drainPhase
  | drains | migs | hot | engines | clusters | fwVersion | fab | fabIn | transit | fabPath | fabFlight | fabHeld | flashA | flashB | fuses
  | checked | imgRun | keyRun | pendingId | idKey | bootKey | hbmReady | staged | resetBy | imgCtx | reloadDue | imgLater | sess | claims
  | leaseAt | evtSent | memRuns | refusals | accessing | inj | ember | repairMap | retiring | timPeers | servo | ptpBest | ptpAt | ppsUntil
  | tel | throttleNs | throttleAt | trcDue | trcSeq | trcDrop | slots | clkLost | pending
  deriving DecidableEq, Repr

/-- A part of the state: every register of one kind, or one of the fields beside the register file. -/
inductive StatePart where
  | reg (k : RegKind)
  | field (f : StateField)
  deriving DecidableEq, Repr

/-- A part is the same in two states. -/
def Same (p : StatePart) (s t : State) : Prop :=
  match p with
  | .reg k => ∀ i, t.reg k i = s.reg k i
  | .field .phase => t.phase = s.phase
  | .field .clk => t.clk = s.clk
  | .field .tim => t.tim = s.tim
  | .field .freeCtr => t.freeCtr = s.freeCtr
  | .field .out => t.out = s.out
  | .field .hbm => t.hbm = s.hbm
  | .field .hbmEcc => t.hbmEcc = s.hbmEcc
  | .field .blocks => t.blocks = s.blocks
  | .field .prbs => t.prbs = s.prbs
  | .field .ports => t.ports = s.ports
  | .field .partials => t.partials = s.partials
  | .field .vppbs => t.vppbs = s.vppbs
  | .field .fmReq => t.fmReq = s.fmReq
  | .field .cxlLog => t.cxlLog = s.cxlLog
  | .field .cxlHandle => t.cxlHandle = s.cxlHandle
  | .field .dcAdds => t.dcAdds = s.dcAdds
  | .field .dcReleases => t.dcReleases = s.dcReleases
  | .field .fillDue => t.fillDue = s.fillDue
  | .field .dcRegion => t.dcRegion = s.dcRegion
  | .field .dcSanitize => t.dcSanitize = s.dcSanitize
  | .field .biDecoder => t.biDecoder = s.biDecoder
  | .field .outst => t.outst = s.outst
  | .field .decodeQ => t.decodeQ = s.decodeQ
  | .field .portHold => t.portHold = s.portHold
  | .field .sflLanes => t.sflLanes = s.sflLanes
  | .field .sflTx => t.sflTx = s.sflTx
  | .field .sflTrain => t.sflTrain = s.sflTrain
  | .field .sfl => t.sfl = s.sfl
  | .field .ni => t.ni = s.ni
  | .field .voq => t.voq = s.voq
  | .field .ledger => t.ledger = s.ledger
  | .field .crQueue => t.crQueue = s.crQueue
  | .field .inflight => t.inflight = s.inflight
  | .field .rtr => t.rtr = s.rtr
  | .field .prb => t.prb = s.prb
  | .field .mir => t.mir = s.mir
  | .field .xing => t.xing = s.xing
  | .field .gateDrops => t.gateDrops = s.gateDrops
  | .field .wear => t.wear = s.wear
  | .field .margins => t.margins = s.margins
  | .field .bands => t.bands = s.bands
  | .field .buckets => t.buckets = s.buckets
  | .field .holdQ => t.holdQ = s.holdQ
  | .field .holdFull => t.holdFull = s.holdFull
  | .field .marks => t.marks = s.marks
  | .field .tcs => t.tcs = s.tcs
  | .field .bindRun => t.bindRun = s.bindRun
  | .field .stamps => t.stamps = s.stamps
  | .field .rep => t.rep = s.rep
  | .field .repEcc => t.repEcc = s.repEcc
  | .field .chipEcc => t.chipEcc = s.chipEcc
  | .field .wtag => t.wtag = s.wtag
  | .field .scrubAt => t.scrubAt = s.scrubAt
  | .field .l2Cache => t.l2Cache = s.l2Cache
  | .field .rmpRun => t.rmpRun = s.rmpRun
  | .field .decoders => t.decoders = s.decoders
  | .field .commitWait => t.commitWait = s.commitWait
  | .field .ideKeys => t.ideKeys = s.ideKeys
  | .field .resolved => t.resolved = s.resolved
  | .field .denials => t.denials = s.denials
  | .field .dirCache => t.dirCache = s.dirCache
  | .field .txns => t.txns = s.txns
  | .field .wbuf => t.wbuf = s.wbuf
  | .field .trkWait => t.trkWait = s.trkWait
  | .field .homeHolds => t.homeHolds = s.homeHolds
  | .field .spareUntil => t.spareUntil = s.spareUntil
  | .field .sweeping => t.sweeping = s.sweeping
  | .field .caidWait => t.caidWait = s.caidWait
  | .field .migWait => t.migWait = s.migWait
  | .field .migMaps => t.migMaps = s.migMaps
  | .field .migHeld => t.migHeld = s.migHeld
  | .field .accesses => t.accesses = s.accesses
  | .field .drainPhase => t.drainPhase = s.drainPhase
  | .field .drains => t.drains = s.drains
  | .field .migs => t.migs = s.migs
  | .field .hot => t.hot = s.hot
  | .field .engines => t.engines = s.engines
  | .field .clusters => t.clusters = s.clusters
  | .field .fwVersion => t.fwVersion = s.fwVersion
  | .field .fab => t.fab = s.fab
  | .field .fabIn => t.fabIn = s.fabIn
  | .field .transit => t.transit = s.transit
  | .field .fabPath => t.fabPath = s.fabPath
  | .field .fabFlight => t.fabFlight = s.fabFlight
  | .field .fabHeld => t.fabHeld = s.fabHeld
  | .field .flashA => t.flashA = s.flashA
  | .field .flashB => t.flashB = s.flashB
  | .field .fuses => t.fuses = s.fuses
  | .field .checked => t.checked = s.checked
  | .field .imgRun => t.imgRun = s.imgRun
  | .field .keyRun => t.keyRun = s.keyRun
  | .field .pendingId => t.pendingId = s.pendingId
  | .field .idKey => t.idKey = s.idKey
  | .field .bootKey => t.bootKey = s.bootKey
  | .field .hbmReady => t.hbmReady = s.hbmReady
  | .field .staged => t.staged = s.staged
  | .field .resetBy => t.resetBy = s.resetBy
  | .field .imgCtx => t.imgCtx = s.imgCtx
  | .field .reloadDue => t.reloadDue = s.reloadDue
  | .field .imgLater => t.imgLater = s.imgLater
  | .field .sess => t.sess = s.sess
  | .field .claims => t.claims = s.claims
  | .field .leaseAt => t.leaseAt = s.leaseAt
  | .field .evtSent => t.evtSent = s.evtSent
  | .field .memRuns => t.memRuns = s.memRuns
  | .field .refusals => t.refusals = s.refusals
  | .field .accessing => t.accessing = s.accessing
  | .field .inj => t.inj = s.inj
  | .field .ember => t.ember = s.ember
  | .field .repairMap => t.repairMap = s.repairMap
  | .field .retiring => t.retiring = s.retiring
  | .field .timPeers => t.timPeers = s.timPeers
  | .field .servo => t.servo = s.servo
  | .field .ptpBest => t.ptpBest = s.ptpBest
  | .field .ptpAt => t.ptpAt = s.ptpAt
  | .field .ppsUntil => t.ppsUntil = s.ppsUntil
  | .field .tel => t.tel = s.tel
  | .field .throttleNs => t.throttleNs = s.throttleNs
  | .field .throttleAt => t.throttleAt = s.throttleAt
  | .field .trcDue => t.trcDue = s.trcDue
  | .field .trcSeq => t.trcSeq = s.trcSeq
  | .field .trcDrop => t.trcDrop = s.trcDrop
  | .field .slots => t.slots = s.slots
  | .field .clkLost => t.clkLost = s.clkLost
  | .field .pending => t.pending = s.pending

end Sys2Proof.Machine
end

