-- ==== Sys2Proof/Changes.lean ====
section
/-! DEFINITION. The frame of each command: the parts of the state that it may change; every other part is to stay as it was. -/

namespace Sys2Proof

open Machine

/-- Every register: what an image may set. -/
def allRegs : List StatePart := (List.range 223).map fun k => .reg (RegKind.ofNat k)

/-- What a reset may change: everything but the queue, the messages sent and the clocks that are lost. -/
def resetParts : List StatePart := allRegs ++ [
  .field .phase, .field .clk, .field .tim, .field .freeCtr, .field .hbm, .field .hbmEcc, .field .blocks, .field .prbs, .field .ports,
  .field .partials, .field .vppbs, .field .fmReq, .field .cxlLog, .field .cxlHandle, .field .dcAdds, .field .dcReleases, .field .fillDue,
  .field .dcRegion, .field .dcSanitize, .field .biDecoder, .field .outst, .field .decodeQ, .field .portHold, .field .sflLanes, .field .sflTx,
  .field .sflTrain, .field .sfl, .field .ni, .field .voq, .field .ledger, .field .crQueue, .field .inflight, .field .rtr, .field .prb, .field .mir,
  .field .xing, .field .gateDrops, .field .wear, .field .margins, .field .bands, .field .buckets, .field .holdQ, .field .holdFull, .field .marks,
  .field .tcs, .field .bindRun, .field .stamps, .field .rep, .field .repEcc, .field .chipEcc, .field .wtag, .field .scrubAt, .field .l2Cache,
  .field .rmpRun, .field .decoders, .field .commitWait, .field .ideKeys, .field .resolved, .field .denials, .field .dirCache, .field .txns,
  .field .wbuf, .field .trkWait, .field .homeHolds, .field .spareUntil, .field .sweeping, .field .caidWait, .field .migWait, .field .migMaps,
  .field .migHeld, .field .accesses, .field .drainPhase, .field .drains, .field .migs, .field .hot, .field .engines, .field .clusters,
  .field .fwVersion, .field .fab, .field .fabIn, .field .transit, .field .fabPath, .field .fabFlight, .field .fabHeld, .field .flashA, .field .flashB,
  .field .fuses, .field .checked, .field .imgRun, .field .keyRun, .field .pendingId, .field .idKey, .field .bootKey, .field .hbmReady, .field .staged,
  .field .resetBy, .field .imgCtx, .field .reloadDue, .field .imgLater, .field .sess, .field .claims, .field .leaseAt, .field .evtSent,
  .field .memRuns, .field .refusals, .field .accessing, .field .inj, .field .ember, .field .repairMap, .field .retiring, .field .timPeers,
  .field .servo, .field .ptpBest, .field .ptpAt, .field .ppsUntil, .field .tel, .field .throttleNs, .field .throttleAt, .field .trcDue,
  .field .trcSeq, .field .trcDrop, .field .slots]

/-- What a cause reported to the fault collectors may change (R379 to R384). -/
def causeParts : List StatePart := [
  .reg .MGT_CHIP_INFO, .reg .PRT_LINK_STATUS, .reg .PRT_LANE_STAT, .reg .PRT_CXL_STATUS, .reg .VPPB_ENTRY, .reg .SFL_TRAIN_STATUS,
  .reg .SFL_LANE_STAT, .reg .SFL_LINK_STAT, .reg .SFL_LINK_CNT2, .reg .ANV_CR_STAT, .reg .ANV_QUENCH_STAT, .reg .ANV_SLAG_CNT2, .reg .HRT_ADMIT,
  .reg .HRT_AGENT, .reg .TNG_CL_STAT, .reg .MGT_EVT_STAT, .reg .PWR_MODE, .reg .FLT_STAT, .reg .FLT_REC0, .reg .FLT_REC1, .reg .FLT_REC2,
  .reg .FLT_REC3, .reg .FLT_REG_STAT, .reg .CNT_VAL, .reg .MGT_EVT_REC, .field .out, .field .ports, .field .vppbs, .field .cxlLog, .field .cxlHandle,
  .field .sflLanes, .field .sflTx, .field .sflTrain, .field .sfl, .field .ni, .field .ledger, .field .ideKeys, .field .sweeping, .field .migWait,
  .field .engines, .field .clusters, .field .fab, .field .fabIn]

/-- What the end of a migration may change. -/
def endMigParts : List StatePart := [
  .reg .RMP_MIG_STAT, .reg .RMP_MIG_SLOT0, .reg .RMP_MIG_SLOT1, .reg .CNT_VAL, .field .out, .field .hbm, .field .decodeQ, .field .l2Cache,
  .field .resolved, .field .denials, .field .migMaps, .field .migHeld, .field .accesses, .field .migs, .field .hot, .field .engines, .field .clusters]

/-- What a refused access may change (R35). -/
def refuseParts : List StatePart := [
  .reg .MGT_DRS_ERR, .reg .MGT_EVT_STAT, .reg .CNT_VAL, .reg .MGT_EVT_REC, .field .refusals]

/-- What the answer to a message may change (R345). -/
def answerParts : List StatePart := [
  .reg .MGT_SESS, .reg .CNT_VAL, .field .out, .field .sess]

/-- What a fabric link declared down may change. -/
def sflDownParts : List StatePart := [
  .reg .PRT_LINK_STATUS, .reg .PRT_LANE_STAT, .reg .PRT_CXL_STATUS, .reg .VPPB_ENTRY, .reg .SFL_TRAIN_STATUS, .reg .SFL_LINK_STAT,
  .reg .SFL_LINK_CNT2, .reg .ANV_CR_STAT, .reg .ANV_QUENCH_STAT, .reg .ANV_SLAG_CNT2, .reg .HRT_ADMIT, .reg .HRT_AGENT, .reg .MGT_EVT_STAT,
  .reg .CNT_VAL, .reg .MGT_EVT_REC, .field .out, .field .ports, .field .vppbs, .field .cxlLog, .field .cxlHandle, .field .sflTx, .field .sflTrain,
  .field .sfl, .field .ni, .field .ledger, .field .ideKeys, .field .sweeping, .field .fab, .field .fabIn]

/-- What the commit of a generation may change. -/
def commitParts : List StatePart := [
  .reg .VPPB_ENTRY, .reg .VCS_ENTRY, .reg .HRT_ADMIT, .reg .HRT_AGENT, .reg .MGT_FAB_STAT, .reg .MGT_FAB_GEN, .reg .MGT_FAB_MEMBER, .reg .MGT_FAB_FFT,
  .reg .MGT_EVT_STAT, .reg .PWR_MODE, .reg .CNT_VAL, .reg .MGT_EVT_REC, .field .out, .field .vppbs, .field .cxlLog, .field .cxlHandle,
  .field .decoders, .field .commitWait, .field .txns, .field .wbuf, .field .sweeping, .field .caidWait, .field .migMaps, .field .migHeld,
  .field .accesses, .field .fab]

/-- What the write of a duplicated table entry may change (R210). -/
def tableParts : List StatePart := [
  .reg .ROUTE_ENTRY, .reg .L1_W1, .reg .WIN_W2, .field .rep, .field .repEcc, .field .wtag]

/-- What becoming acting manager may change. -/
def managerParts : List StatePart := [
  .reg .MGT_FAB_STAT, .reg .MGT_FAB_CNT, .reg .MGT_FAB_MEMBER, .reg .MGT_EVT_STAT, .reg .PWR_MODE, .reg .TIM_FREQ, .reg .TIM_STAT, .reg .TIM_OFFSET,
  .reg .CNT_VAL, .reg .MGT_EVT_REC, .field .out, .field .fab, .field .servo]

/-- What the loss of a port link may change. -/
def linkDownParts : List StatePart := [
  .reg .PRT_LINK_STATUS, .reg .PRT_LANE_STAT, .reg .PRT_CXL_STATUS, .reg .VPPB_ENTRY, .reg .ANV_CR_STAT, .reg .ANV_QUENCH_STAT, .reg .ANV_SLAG_CNT2,
  .reg .HRT_ADMIT, .reg .HRT_AGENT, .reg .MGT_EVT_STAT, .reg .CNT_VAL, .reg .SLT_STAT, .reg .MGT_EVT_REC, .field .out, .field .ports,
  .field .partials, .field .vppbs, .field .cxlLog, .field .cxlHandle, .field .ni, .field .ledger, .field .ideKeys, .field .sweeping, .field .fab,
  .field .slots]

/-- What the automatic binding of a context may change. -/
def bindParts : List StatePart := [
  .reg .TMP_STAT, .reg .TMP_CTX_00, .reg .TMP_CTX_08, .reg .TMP_CTX_10, .reg .TMP_CTX_18, .reg .TMP_CTX_20, .reg .TMP_CTX_28, .reg .TMP_CTX_30,
  .reg .TMP_CTX_38, .reg .TMP_CTX_40, .reg .TMP_CTX_48, .reg .TMP_CTX_50, .reg .TMP_CTX_58, .reg .TMP_CTX_60, .reg .TMP_CTX_68, .reg .MGT_EVT_STAT,
  .reg .CNT_VAL, .reg .MGT_EVT_REC, .field .buckets, .field .stamps]

/-- What a read of a register may change. -/
def readParts : List StatePart := [
  .reg .MGT_CHIP_INFO, .reg .MGT_DRS_ERR, .reg .PRT_LINK_STATUS, .reg .PRT_LINK_ERR, .reg .PRT_LANE_STAT, .reg .PRT_CXL_STATUS, .reg .VPPB_ENTRY,
  .reg .SFL_TRAIN_STATUS, .reg .SFL_LANE_STAT, .reg .SFL_LINK_STAT, .reg .SFL_LINK_CNT, .reg .SFL_LINK_CNT2, .reg .SFL_VC_STAT, .reg .ANV_CR_STAT,
  .reg .ANV_RTR_ERR, .reg .ANV_QUENCH_STAT, .reg .ANV_SLAG_CNT0, .reg .ANV_SLAG_CNT1, .reg .ANV_SLAG_CNT2, .reg .TMP_STAT, .reg .ACU_CNT,
  .reg .ACU_DUP_STAT, .reg .HRT_CNT0, .reg .HRT_CNT1, .reg .HRT_CNT2, .reg .HRT_CNT3, .reg .HRT_ADMIT, .reg .HRT_AGENT, .reg .RMP_HOT_CNT,
  .reg .RMP_MIG_STAT, .reg .TNG_CL_STAT, .reg .TNG_CL_CNT, .reg .TNG_ENG_CNT, .reg .MGT_FAB_CNT, .reg .MGT_SESS, .reg .MGT_OWN_STAT,
  .reg .MGT_EVT_STAT, .reg .PWR_MODE, .reg .PWR_BANK_USTAT, .reg .FLT_STAT, .reg .FLT_REC0, .reg .FLT_REC1, .reg .FLT_REC2, .reg .FLT_REC3,
  .reg .FLT_WEAR_CNT, .reg .FLT_REG_STAT, .reg .CNT_VAL, .reg .CNT_TRC_DROP, .reg .SLT_STAT, .reg .MGT_EVT_REC, .field .out, .field .ports,
  .field .vppbs, .field .cxlLog, .field .cxlHandle, .field .sflLanes, .field .sflTx, .field .sflTrain, .field .sfl, .field .ni, .field .ledger,
  .field .rep, .field .repEcc, .field .wtag, .field .ideKeys, .field .sweeping, .field .migWait, .field .engines, .field .clusters, .field .fab,
  .field .fabIn, .field .sess, .field .refusals]

/-- What the power of a slot turned off may change. -/
def slotParts : List StatePart := [
  .reg .PRT_LINK_STATUS, .reg .PRT_LANE_STAT, .reg .PRT_CXL_STATUS, .reg .VPPB_ENTRY, .reg .ANV_CR_STAT, .reg .ANV_QUENCH_STAT, .reg .ANV_SLAG_CNT2,
  .reg .HRT_ADMIT, .reg .HRT_AGENT, .reg .MGT_EVT_STAT, .reg .CNT_VAL, .reg .SLT_STAT, .reg .MGT_EVT_REC, .field .out, .field .ports,
  .field .partials, .field .vppbs, .field .cxlLog, .field .cxlHandle, .field .ni, .field .ledger, .field .ideKeys, .field .sweeping, .field .fab,
  .field .slots]

/-- What an applied generation may change. -/
def generationParts : List StatePart := [
  .reg .VPPB_ENTRY, .reg .VCS_ENTRY, .reg .HRT_ADMIT, .reg .HRT_AGENT, .reg .MGT_FAB_STAT, .reg .MGT_FAB_GEN, .reg .MGT_FAB_MEMBER, .reg .MGT_FAB_FFT,
  .reg .MGT_EVT_STAT, .reg .PWR_MODE, .reg .CNT_VAL, .reg .MGT_EVT_REC, .field .out, .field .vppbs, .field .cxlLog, .field .cxlHandle,
  .field .decoders, .field .commitWait, .field .txns, .field .wbuf, .field .sweeping, .field .caidWait, .field .migMaps, .field .migHeld,
  .field .accesses, .field .fab]

/-- What admission at a policer may change. -/
def policerParts : List StatePart := [
  .reg .TMP_CTX_20, .reg .TMP_CTX_28, .reg .TMP_CTX_30, .reg .TMP_CTX_38, .reg .TMP_CTX_48, .reg .TMP_CTX_58, .reg .TMP_CTX_60, .reg .TMP_CTX_68,
  .reg .CNT_VAL, .field .voq, .field .holdQ, .field .holdFull, .field .marks, .field .tcs]

/-- The parts of the state that a command may change. -/
def Instr.changes (i : Instr) : List StatePart :=
  match i with
  | .crossingFlitArrival .. =>
    causeParts ++ [
      .reg .ANV_RTR_ERR, .field .freeCtr, .field .voq, .field .inflight, .field .rtr, .field .xing, .field .accesses, .field .sess, .field .memRuns,
      .field .trcDue]
  | .drsErrPendClear .. => refuseParts
  | .debugViewAccess .. => resetParts ++ [.field .out]
  | .hbmDbgWindowWrite .. => [.reg .MGT_HBM_DBG_BASE]
  | .bringUpStart .. =>
    [
      .reg .PRT_LINK_STATUS, .reg .PRT_PRBS_CTL, .reg .PRT_PRBS_BITS, .reg .PRT_PRBS_RES, .reg .SFL_TRAIN_STATUS, .field .blocks, .field .prbs,
      .field .ports, .field .sflTrain]
  | .trainingStageEnd .. => causeParts ++ [.reg .PRT_LANE_MAP, .reg .FLT_ACTIVE, .reg .FLT_POOL, .field .blocks, .field .repairMap]
  | .adminWrite .. => sflDownParts ++ linkDownParts ++ [.reg .PRT_LINK_CTL, .reg .SFL_LANE_STAT, .field .sflLanes]
  | .symbolWindowEnd .. => causeParts ++ [.reg .PRT_LANE_MAP, .reg .FLT_ACTIVE, .reg .FLT_POOL, .field .blocks, .field .repairMap]
  | .laneMark .. => causeParts ++ [.reg .PRT_LANE_MAP, .reg .PRT_LINK_ERR, .reg .FLT_ACTIVE, .reg .FLT_POOL, .field .blocks, .field .repairMap]
  | .l0pRequestPartner .. => [.field .ports]
  | .l0pTgtWrite .. => [.reg .PRT_LINK_CTL, .field .ports]
  | .l0pChangeComplete .. => [.reg .PRT_LINK_STATUS, .reg .MGT_EVT_STAT, .reg .CNT_VAL, .reg .MGT_EVT_REC, .field .ports]
  | .retrainWrite .. => causeParts ++ [.reg .PRT_LANE_MAP, .reg .FLT_POOL, .field .blocks, .field .repairMap]
  | .recoveryEntry .. => causeParts ++ [.reg .PRT_LANE_MAP, .reg .FLT_POOL, .field .blocks, .field .repairMap]
  | .recoveryComplete .. =>
    [
      .reg .PRT_LINK_STATUS, .reg .PRT_LANE_MAP, .reg .PRT_LINK_ERR, .reg .PRT_LANE_STAT, .reg .MGT_EVT_STAT, .reg .PWR_MODE, .reg .FLT_STAT,
      .reg .FLT_ACTIVE, .reg .FLT_POOL, .reg .CNT_VAL, .reg .MGT_EVT_REC, .field .blocks]
  | .markClear .. =>
    [
      .reg .PRT_LINK_STATUS, .reg .PRT_LANE_MAP, .reg .MGT_EVT_STAT, .reg .PWR_MODE, .reg .FLT_STAT, .reg .FLT_ACTIVE, .reg .FLT_POOL, .reg .CNT_VAL,
      .reg .MGT_EVT_REC, .field .blocks, .field .ports]
  | .spareSelfCheck .. => causeParts ++ [.reg .PRT_LANE_MAP, .reg .FLT_ACTIVE, .reg .FLT_POOL]
  | .prbsEnWrite .. => [.reg .PRT_LINK_STATUS, .reg .PRT_PRBS_CTL, .field .blocks, .field .prbs]
  | .prbsSnap .. => [.reg .PRT_PRBS_BITS, .reg .PRT_PRBS_RES, .field .blocks, .field .prbs]
  | .prbsCheckerLock .. => [.field .prbs]
  | .prbsCheckerLoseLock .. => [.field .prbs]
  | .dlUpLoss .. => linkDownParts
  | .bindVppb .. => answerParts ++ [.reg .VPPB_ENTRY, .reg .ANV_QUENCH_STAT, .reg .MGT_EVT_STAT, .reg .MGT_EVT_REC, .field .vppbs, .field .ni]
  | .bindComplete .. => bindParts ++ [.reg .VPPB_ENTRY, .reg .SLT_STAT, .field .vppbs, .field .fmReq]
  | .unbindVppb .. => answerParts ++ [.reg .VPPB_ENTRY, .field .vppbs]
  | .unbindComplete .. =>
    [
      .reg .VPPB_ENTRY, .reg .ANV_CR_STAT, .reg .ANV_QUENCH_STAT, .reg .ANV_SLAG_CNT0, .reg .ANV_SLAG_CNT1, .reg .MGT_EVT_STAT, .reg .CNT_VAL,
      .reg .SLT_STAT, .reg .MGT_EVT_REC, .field .freeCtr, .field .out, .field .vppbs, .field .fmReq, .field .ni, .field .voq, .field .ledger,
      .field .accesses, .field .sess, .field .memRuns]
  | .hotRemoveTimeout .. => [.reg .VPPB_ENTRY, .field .vppbs, .field .fmReq]
  | .hostPowerOff .. =>
    linkDownParts ++ [
      .reg .ANV_SLAG_CNT0, .reg .ANV_SLAG_CNT1, .field .freeCtr, .field .fmReq, .field .voq, .field .accesses, .field .sess, .field .memRuns]
  | .abortBackground .. => answerParts ++ [.reg .VPPB_ENTRY, .field .vppbs, .field .fmReq]
  | .identify .. => answerParts
  | .backgroundStatus .. => answerParts
  | .getResponseLimit .. => answerParts
  | .setResponseLimit .. => answerParts ++ [.field .fmReq]
  | .getEventRecords .. => answerParts
  | .clearEventRecords .. => answerParts ++ [.field .cxlLog]
  | .getEventPolicy .. => answerParts
  | .setEventPolicy .. => answerParts ++ [.field .fmReq]
  | .getTimestamp .. => answerParts
  | .getSupportedLogs .. => answerParts
  | .getLog .. => answerParts
  | .identifySwitch .. => answerParts
  | .getPortState .. => answerParts
  | .portControl .. => linkDownParts ++ [.reg .MGT_SESS, .field .sess]
  | .ppbConfig .. => answerParts
  | .vcsInfo .. => answerParts
  | .generateAer .. => answerParts ++ [.field .vppbs]
  | .tunnel .. => answerParts
  | .ldConfig .. => answerParts
  | .ldMemory .. => answerParts
  | .dcdInfo .. => answerParts
  | .dcConfig .. => answerParts
  | .setDcConfig .. => answerParts ++ [.field .dcSanitize]
  | .extentLists .. => answerParts
  | .dcAdd .. => answerParts ++ [.field .cxlLog, .field .cxlHandle, .field .dcAdds]
  | .dcAddResponse .. =>
    endMigParts ++ tableParts ++ [
      .reg .L1_W0, .field .fmReq, .field .dcAdds, .field .dcReleases, .field .fillDue, .field .dcRegion]
  | .dcAddTimeout .. =>
    endMigParts ++ tableParts ++ [
      .reg .L1_W0, .field .fmReq, .field .dcAdds, .field .dcReleases, .field .fillDue, .field .dcRegion]
  | .dcRelease .. => endMigParts ++ tableParts ++ [.reg .MGT_SESS, .field .dcAdds, .field .dcReleases, .field .fillDue, .field .sess]
  | .extentReleaseComplete .. =>
    tableParts ++ [
      .reg .L1_W0, .reg .RMP_STAT, .field .hbm, .field .fmReq, .field .dcReleases, .field .dcRegion, .field .dirCache]
  | .weuskOverCci .. => answerParts
  | .unsupportedOpcode .. => answerParts
  | .hdmDecoderCommit .. =>
    [
      .reg .VCS_ENTRY, .reg .HRT_ADMIT, .reg .HRT_AGENT, .reg .MGT_EVT_STAT, .reg .CNT_VAL, .reg .MGT_EVT_REC, .field .out, .field .decoders,
      .field .commitWait, .field .caidWait, .field .fab]
  | .biEnableWrite .. =>
    [
      .reg .VCS_ENTRY, .reg .HRT_ADMIT, .reg .HRT_AGENT, .reg .MGT_EVT_STAT, .reg .CNT_VAL, .reg .MGT_EVT_REC, .field .out, .field .biDecoder,
      .field .decoders, .field .commitWait, .field .txns, .field .wbuf, .field .sweeping, .field .caidWait, .field .migMaps, .field .migHeld,
      .field .accesses, .field .fab]
  | .targetSurpriseRemoval .. => linkDownParts
  | .ideIntegrityFailure .. => causeParts ++ linkDownParts
  | .markerCandidate .. => [.reg .SFL_LANE_STAT, .field .sflLanes]
  | .markerCheck .. => [.reg .SFL_LANE_STAT, .field .sflLanes]
  | .codewordDecode .. => causeParts ++ [.reg .PRT_LINK_ERR]
  | .calibrationDone .. => causeParts ++ [.reg .PRT_LANE_MAP, .reg .FLT_ACTIVE, .reg .FLT_POOL, .field .blocks]
  | .signalDetect .. => [.reg .SFL_TRAIN_STATUS, .reg .SFL_LANE_STAT, .field .freeCtr, .field .out, .field .sflLanes, .field .sflTx, .field .sflTrain]
  | .trainBlockReceived .. => [.reg .SFL_LANE_STAT, .field .out, .field .sflLanes, .field .sflTx, .field .sflTrain]
  | .adaptDone .. => [.reg .SFL_TRAIN_STATUS, .field .out, .field .sflTx, .field .sflTrain]
  | .adaptBoundExceeded .. =>
    [
      .reg .SFL_TRAIN_STATUS, .reg .MGT_EVT_STAT, .reg .CNT_VAL, .reg .MGT_EVT_REC, .field .out, .field .sflTx, .field .sflTrain]
  | .adaptPartnerDoneTimeout .. => [.reg .SFL_TRAIN_STATUS, .reg .MGT_EVT_STAT, .reg .CNT_VAL, .reg .MGT_EVT_REC, .field .sflTrain]
  | .deskewRelease .. =>
    [
      .reg .SFL_TRAIN_STATUS, .reg .SFL_LANE_STAT, .reg .MGT_EVT_STAT, .reg .CNT_VAL, .reg .MGT_EVT_REC, .field .out, .field .sflLanes, .field .sflTx,
      .field .sflTrain, .field .sfl]
  | .capBlockReceived .. => [.reg .SFL_PEER, .field .out, .field .sflTx, .field .sflTrain]
  | .capxComplete .. =>
    causeParts ++ [
      .reg .PRT_LANE_MAP, .reg .SFL_PEER, .reg .SFL_ENC_STATUS, .reg .FLT_ACTIVE, .reg .FLT_POOL, .field .freeCtr, .field .blocks, .field .repairMap]
  | .capxTimeout .. => [.reg .SFL_TRAIN_STATUS, .reg .MGT_EVT_STAT, .reg .CNT_VAL, .reg .MGT_EVT_REC, .field .sflTrain]
  | .trainingFailBackoffEnd .. => [.reg .PRT_LINK_STATUS, .reg .SFL_TRAIN_STATUS, .field .out, .field .sflTx, .field .sflTrain]
  | .checkUnitReceived .. =>
    [
      .reg .PRT_LINK_STATUS, .reg .VPPB_ENTRY, .reg .SFL_TRAIN_STATUS, .reg .SFL_LANE_STAT, .reg .SFL_LINK_STAT, .reg .SFL_VC_STAT,
      .reg .SFL_ENC_STATUS, .reg .ANV_QUENCH_STAT, .reg .MGT_EVT_STAT, .reg .CNT_VAL, .reg .MGT_EVT_REC, .field .freeCtr, .field .out, .field .ports,
      .field .vppbs, .field .sflLanes, .field .sflTx, .field .sflTrain, .field .sfl, .field .ni]
  | .partnerRetrainDetect .. => sflDownParts
  | .sflRetrainWrite .. => sflDownParts
  | .dataUnitSend .. => [.reg .SFL_LINK_STAT, .reg .SFL_ENC_STATUS, .reg .CNT_VAL, .field .out, .field .sflTx, .field .sfl]
  | .flowUnitReceived .. =>
    causeParts ++ [
      .reg .PRT_LANE_MAP, .reg .PRT_LINK_ERR, .reg .SFL_LINK_CNT, .reg .SFL_VC_STAT, .reg .SFL_ENC_STATUS, .reg .FLT_ACTIVE, .reg .FLT_POOL,
      .field .blocks, .field .repairMap]
  | .ackReceived .. => [.reg .SFL_LINK_STAT, .field .sfl]
  | .nakReceived .. => [.reg .PRT_LINK_ERR, .reg .SFL_LINK_STAT, .reg .SFL_LINK_CNT, .reg .CNT_VAL, .field .sfl]
  | .replayTimeout .. => [.reg .PRT_LINK_ERR, .reg .SFL_LINK_STAT, .reg .SFL_LINK_CNT, .reg .CNT_VAL, .field .sfl]
  | .replayUnitResend .. => [.reg .SFL_LINK_STAT, .reg .CNT_VAL, .field .out, .field .sflTx, .field .sfl]
  | .replayMaxExceeded .. => sflDownParts
  | .ackTimer .. => [.field .sfl]
  | .nakResendTimer .. => [.reg .SFL_LINK_CNT, .reg .CNT_VAL, .field .sfl]
  | .xoffUpdate .. => [.reg .SFL_VC_STAT]
  | .timingSlot .. => [.field .out, .field .sflTx, .field .sfl]
  | .timingUnitReceived .. =>
    causeParts ++ [
      .reg .PRT_LANE_MAP, .reg .PRT_LINK_ERR, .reg .SFL_LINK_CNT, .reg .SFL_VC_STAT, .reg .FLT_ACTIVE, .reg .FLT_POOL, .reg .TIM_STAT,
      .reg .TIM_OFFSET, .field .blocks, .field .repairMap, .field .timPeers, .field .servo]
  | .laneSet .. => [.reg .SFL_LINK_STAT, .field .out, .field .sflLanes, .field .sflTx, .field .sfl]
  | .laneAck .. => [.field .sflLanes, .field .sfl]
  | .laneNak .. => [.reg .SFL_LINK_STAT, .field .sflLanes, .field .sfl]
  | .switchLanes .. => causeParts ++ [.reg .PRT_LANE_MAP, .reg .SFL_VC_STAT, .reg .FLT_ACTIVE, .reg .FLT_POOL, .field .blocks, .field .repairMap]
  | .keysync .. => [.reg .SFL_ENC_STATUS, .field .sflLanes, .field .sfl]
  | .activeLaneLockLoss .. => [.reg .SFL_LINK_STAT, .field .out, .field .sflTx, .field .sfl]
  | .laneReqWrite .. => [.reg .SFL_LINK_STAT, .field .out, .field .sflTx, .field .sfl]
  | .sflLinkDown .. => sflDownParts
  | .downTmoExpiry .. => sflDownParts
  | .sflKeyCommit .. => [.reg .SFL_ENC_STATUS, .reg .SFL_KEY_DATA, .field .out, .field .sflTx, .field .sfl]
  | .txSlotWrite .. => [.reg .SFL_LINK_STAT, .reg .SFL_ENC_CTL, .reg .SFL_ENC_STATUS, .field .sfl]
  | .keyCountLimit .. => [.reg .SFL_LINK_STAT, .reg .MGT_EVT_STAT, .reg .CNT_VAL, .reg .MGT_EVT_REC, .field .sfl]
  | .packetInject .. =>
    causeParts ++ [
      .reg .ANV_RTR_ERR, .reg .ACU_DUP_STAT, .field .voq, .field .inflight, .field .rtr, .field .xing, .field .rep, .field .repEcc, .field .wtag,
      .field .resolved]
  | .routeEntryWrite .. => tableParts ++ refuseParts ++ [.field .ni]
  | .routeChangeResume .. => [.field .ni, .field .voq]
  | .flitSwitch .. =>
    causeParts ++ [
      .reg .ANV_RTR_STAT, .reg .ANV_RTR_ERR, .reg .FLT_ACTIVE, .reg .FLT_POOL, .field .freeCtr, .field .inflight, .field .rtr, .field .xing,
      .field .gateDrops, .field .wear, .field .accesses, .field .sess, .field .memRuns, .field .trcDue]
  | .linkWireSpare .. => causeParts ++ [.reg .ANV_RTR_STAT, .reg .FLT_POOL, .field .wear, .field .repairMap]
  | .voqInject .. =>
    causeParts ++ [
      .reg .ANV_RTR_ERR, .reg .ACU_DUP_STAT, .field .voq, .field .inflight, .field .rtr, .field .xing, .field .rep, .field .repEcc, .field .wtag]
  | .creditRequest .. => [.reg .ANV_CR_STAT, .reg .CNT_VAL, .field .ledger, .field .crQueue, .field .bands]
  | .creditGrant .. => [.reg .ANV_CR_STAT, .field .ledger, .field .crQueue, .field .bands]
  | .creditReturn .. => [.field .ledger, .field .bands]
  | .sharedGrantRelease .. => [.reg .ANV_CR_STAT, .field .ledger]
  | .egressPacketSend .. =>
    [
      .reg .PRT_CXL_STATUS, .reg .ANV_CR_STAT, .reg .CNT_VAL, .reg .SLT_STAT, .field .out, .field .vppbs, .field .outst, .field .decodeQ,
      .field .portHold, .field .ni, .field .voq, .field .ledger, .field .buckets, .field .marks, .field .accesses, .field .transit, .field .slots]
  | .messageToDecode .. =>
    [
      .reg .PRT_LINK_ERR, .reg .PRT_CXL_STATUS, .reg .CNT_VAL, .reg .SLT_STAT, .field .out, .field .partials, .field .vppbs, .field .outst,
      .field .decodeQ, .field .portHold, .field .ni, .field .voq, .field .transit, .field .slots]
  | .fabricHeaderRebuild .. =>
    [
      .reg .SFL_VC_STAT, .reg .ANV_CR_STAT, .reg .ANV_SLAG_CNT2, .reg .TMP_CTX_18, .reg .TMP_CTX_20, .reg .TMP_CTX_28, .reg .TMP_CTX_30,
      .reg .TMP_CTX_38, .reg .TMP_CTX_40, .reg .TMP_CTX_58, .reg .TMP_CTX_60, .reg .TMP_CTX_68, .reg .MGT_FAB_CNT, .reg .MGT_EVT_STAT, .reg .CNT_VAL,
      .reg .MGT_EVT_REC, .field .freeCtr, .field .sfl, .field .ni, .field .voq, .field .ledger, .field .buckets, .field .holdQ, .field .holdFull,
      .field .marks, .field .tcs, .field .stamps, .field .fabIn, .field .transit, .field .trcDue]
  | .quenchTrigger .. =>
    [
      .reg .ANV_CR_STAT, .reg .ANV_QUENCH_STAT, .reg .MGT_EVT_STAT, .reg .CNT_VAL, .reg .MGT_EVT_REC, .field .out, .field .ni, .field .ledger]
  | .quenchNoticeArrival .. => [.field .ni]
  | .quenchSet .. => refuseParts ++ [.reg .ANV_CR_STAT, .reg .ANV_QUENCH_STAT, .field .out, .field .ni, .field .ledger]
  | .quenchClear .. => refuseParts ++ [.reg .ANV_QUENCH_STAT, .field .out, .field .ni]
  | .slagAnswer .. =>
    [
      .reg .ANV_SLAG_CNT0, .reg .ANV_SLAG_CNT1, .reg .CNT_VAL, .field .freeCtr, .field .out, .field .ni, .field .voq, .field .accesses, .field .sess,
      .field .memRuns]
  | .unquench .. => [.reg .ANV_QUENCH_STAT, .reg .MGT_EVT_STAT, .reg .CNT_VAL, .reg .MGT_EVT_REC, .field .out, .field .ni]
  | .unquenchNoticeArrival .. => [.field .ni]
  | .mirrorCopy .. =>
    causeParts ++ [
      .reg .ANV_RTR_ERR, .reg .ANV_MIR_STAT, .reg .ACU_DUP_STAT, .field .inflight, .field .rtr, .field .mir, .field .xing, .field .rep,
      .field .repEcc, .field .wtag]
  | .mirrorRecordWrite .. => [.reg .ANV_CR_STAT, .reg .ANV_MIR_RING_SZ, .field .out, .field .ni, .field .ledger, .field .mir]
  | .probeMatch .. => [.reg .MGT_EVT_STAT, .reg .CNT_VAL, .reg .MGT_EVT_REC, .field .rtr, .field .prb, .field .xing, .field .trcDue]
  | .probeSnap .. => [.reg .ANV_PRB_RES, .reg .ANV_PRB_RES2]
  | .mirrorEnWrite .. => [.reg .ANV_MIR_CFG, .reg .ANV_MIR_RING_SZ]
  | .requestColour .. =>
    [
      .reg .TMP_CTX_18, .reg .TMP_CTX_20, .reg .TMP_CTX_28, .reg .TMP_CTX_30, .reg .TMP_CTX_38, .reg .TMP_CTX_40, .reg .TMP_CTX_58, .reg .TMP_CTX_60,
      .reg .TMP_CTX_68, .reg .MGT_EVT_STAT, .reg .CNT_VAL, .reg .MGT_EVT_REC, .field .voq, .field .buckets, .field .holdQ, .field .holdFull,
      .field .marks, .field .tcs, .field .stamps, .field .resolved]
  | .holdQueueRetest .. => policerParts ++ [.reg .TMP_CTX_18, .field .buckets]
  | .holdQueueFull .. => [.reg .MGT_EVT_STAT, .reg .CNT_VAL, .reg .MGT_EVT_REC, .field .holdFull, .field .stamps]
  | .holdBoundExpiry .. => policerParts ++ [.reg .TMP_CTX_18, .field .buckets]
  | .holdBoundWrite .. => policerParts ++ [.reg .TMP_CFG]
  | .contextRewrite .. => refuseParts ++ [.reg .TMP_CTX_08, .reg .TMP_CTX_10, .reg .TMP_CTX_18, .field .buckets]
  | .shaperRewrite .. => refuseParts ++ [.reg .TMP_SHP_RATE, .reg .TMP_SHP_SIZE, .field .buckets]
  | .cmarkReceived .. => [.reg .TMP_STAT, .reg .TMP_CTX_60, .reg .CNT_VAL, .field .marks]
  | .bindFlow .. =>
    refuseParts ++ [
      .reg .TMP_BIND_STAT, .reg .TMP_STAT, .reg .TMP_CTX_00, .reg .TMP_CTX_10, .reg .TMP_CTX_18, .reg .TMP_CTX_28, .reg .TMP_CTX_30, .reg .TMP_CTX_38,
      .reg .TMP_CTX_40, .reg .TMP_CTX_48, .reg .TMP_CTX_50, .reg .TMP_CTX_58, .reg .TMP_CTX_60, .reg .TMP_CTX_68, .field .buckets, .field .bindRun]
  | .unbindFlow .. =>
    policerParts ++ refuseParts ++ [
      .reg .TMP_BIND_STAT, .reg .TMP_STAT, .reg .TMP_CTX_00, .reg .TMP_CTX_40, .reg .TMP_CTX_50, .field .bindRun]
  | .lookupFlow .. => refuseParts ++ [.reg .TMP_BIND_STAT, .field .bindRun]
  | .bindCommandComplete .. => [.reg .TMP_BIND_STAT, .field .bindRun]
  | .autoBind .. => bindParts
  | .requestResolve .. =>
    causeParts ++ [
      .reg .ANV_SLAG_CNT0, .reg .ANV_SLAG_CNT1, .reg .ACU_ERR_ADDR, .reg .ACU_ERR_INFO, .reg .ACU_CNT, .reg .ACU_DUP_STAT, .field .freeCtr,
      .field .decodeQ, .field .rep, .field .repEcc, .field .wtag, .field .l2Cache, .field .resolved, .field .denials, .field .migMaps,
      .field .migHeld, .field .accesses, .field .hot, .field .sess, .field .memRuns]
  | .acuErrPendClear .. => [.reg .ACU_ERR_INFO]
  | .l2CacheFill .. => [.reg .CNT_VAL, .field .l2Cache]
  | .acuWindowWrite .. => tableParts ++ refuseParts ++ [.reg .WIN_W0, .reg .WIN_W1]
  | .l1EntryWrite .. => tableParts ++ refuseParts ++ [.reg .L1_W0]
  | .duplicateMismatch .. => causeParts ++ [.reg .ACU_DUP_STAT, .field .rep, .field .repEcc, .field .wtag]
  | .duplicateRepair .. => causeParts ++ [.reg .ACU_DUP_STAT, .field .rep, .field .repEcc, .field .wtag]
  | .tableScrubStep .. => causeParts ++ [.reg .ACU_DUP_STAT, .field .rep, .field .repEcc, .field .wtag, .field .scrubAt]
  | .fracture .. => tableParts ++ refuseParts ++ [.reg .L1_W0, .reg .RMP_RES, .reg .RMP_STAT, .field .hbm, .field .l2Cache, .field .rmpRun]
  | .unfracture .. => tableParts ++ refuseParts ++ [.reg .L1_W0, .reg .RMP_RES, .reg .RMP_STAT, .field .rmpRun]
  | .writeL2 .. => refuseParts ++ [.reg .RMP_RES, .field .hbm, .field .l2Cache, .field .rmpRun]
  | .readL2 .. => refuseParts ++ [.reg .RMP_RES, .field .rmpRun]
  | .remapCommandComplete => [.reg .RMP_RES, .reg .RMP_RES_DATA, .field .rmpRun]
  | .hearthRequestArrival .. =>
    causeParts ++ [
      .reg .ANV_SLAG_CNT0, .reg .HRT_SLICE_STAT, .reg .HRT_CNT0, .reg .HRT_CNT2, .field .hbm, .field .dirCache, .field .txns, .field .wbuf,
      .field .trkWait, .field .migMaps, .field .migHeld, .field .accesses]
  | .transactionStart .. =>
    causeParts ++ [
      .reg .ANV_SLAG_CNT0, .reg .HRT_SLICE_STAT, .reg .HRT_CNT0, .reg .HRT_CNT3, .field .hbm, .field .hbmEcc, .field .dirCache, .field .txns,
      .field .wbuf, .field .trkWait, .field .migMaps, .field .migHeld, .field .accesses]
  | .directoryCacheMiss .. => [.reg .HRT_CNT0, .reg .CNT_VAL, .field .hbm, .field .dirCache]
  | .holdExpiry .. => [.reg .HRT_CNT1, .reg .CNT_VAL, .field .out, .field .txns, .field .homeHolds]
  | .bisnpSend .. => [.reg .HRT_CNT1, .reg .CNT_VAL, .field .out, .field .txns]
  | .birspReceived .. =>
    causeParts ++ [
      .reg .HRT_CNT1, .reg .HRT_CNT2, .reg .HRT_CNT3, .field .txns, .field .wbuf, .field .migMaps, .field .migHeld, .field .accesses]
  | .snpDeadReceived .. => [.field .out, .field .txns, .field .wbuf, .field .migMaps, .field .migHeld, .field .accesses]
  | .bisnpTimeout .. => [.reg .HRT_AGENT, .field .out, .field .txns, .field .wbuf, .field .migMaps, .field .migHeld, .field .accesses]
  | .writebackReceived .. =>
    causeParts ++ [
      .reg .HRT_CNT0, .reg .HRT_CNT2, .field .hbm, .field .dirCache, .field .txns, .field .wbuf, .field .migMaps, .field .migHeld, .field .accesses]
  | .biconflict .. => [.reg .HRT_CNT2, .field .out]
  | .expanderResponse .. =>
    [
      .reg .PRT_CXL_STATUS, .reg .SLT_STAT, .field .out, .field .vppbs, .field .outst, .field .decodeQ, .field .portHold, .field .ni, .field .voq,
      .field .txns, .field .wbuf, .field .accesses, .field .transit, .field .slots]
  | .transactionComplete .. =>
    causeParts ++ [
      .reg .HRT_SLICE_STAT, .reg .HRT_CNT2, .reg .HRT_CNT3, .reg .HRT_POISON_LOG, .field .hbm, .field .dirCache, .field .txns, .field .trkWait,
      .field .homeHolds]
  | .caidRequest .. =>
    [
      .reg .VCS_ENTRY, .reg .HRT_ADMIT, .reg .HRT_AGENT, .reg .MGT_EVT_STAT, .reg .CNT_VAL, .reg .MGT_EVT_REC, .field .out, .field .caidWait,
      .field .fab]
  | .caidInstall .. => [.reg .VCS_ENTRY, .reg .HRT_ADMIT, .reg .HRT_AGENT, .field .decoders, .field .commitWait, .field .caidWait, .field .fab]
  | .caidRequestTimeout .. => [.field .decoders, .field .commitWait, .field .caidWait]
  | .agentRemoval .. =>
    [
      .reg .HRT_ADMIT, .reg .HRT_AGENT, .field .out, .field .txns, .field .wbuf, .field .sweeping, .field .migMaps, .field .migHeld, .field .accesses,
      .field .fab]
  | .directorySweepComplete .. => causeParts ++ [.reg .HRT_CNT2, .reg .HRT_POISON_LOG, .field .hbm, .field .dirCache]
  | .readDir .. => [.reg .HRT_RES, .reg .HRT_RES_DATA]
  | .hrtCfgWrite .. => refuseParts ++ [.reg .HRT_CFG]
  | .poisonLogClear .. => [.reg .HRT_POISON_LOG]
  | .hotnessNotice .. => [.reg .RMP_HOT_CNT, .reg .CNT_VAL, .field .hbm, .field .resolved, .field .hot]
  | .hotnessCoalesceFlush .. => [.reg .RMP_HOT_CNT, .reg .CNT_VAL, .field .hbm, .field .resolved, .field .hot]
  | .hotnessEpochChange => [.reg .RMP_HOT_STAT, .field .hbm, .field .hot]
  | .hotnessFlushComplete => [.reg .RMP_HOT_STAT, .field .hbm, .field .hot]
  | .hotEnWrite .. => [.reg .RMP_HOT_CFG, .reg .RMP_HOT_STAT, .reg .RMP_HOT_CNT, .field .hbm, .field .resolved, .field .hot]
  | .migrate .. =>
    tableParts ++ [
      .reg .L1_W0, .reg .RMP_STAT, .reg .RMP_MIG_STAT, .reg .RMP_MIG_SLOT0, .reg .RMP_MIG_SLOT1, .field .hbm, .field .l2Cache, .field .migMaps,
      .field .drainPhase, .field .drains, .field .migs, .field .engines]
  | .drainComplete .. => endMigParts ++ [.field .drainPhase, .field .drains]
  | .copyPassComplete .. => endMigParts ++ [.field .drainPhase, .field .drains]
  | .migrationHold .. => [.field .hbm, .field .l2Cache, .field .drainPhase, .field .drains, .field .migs]
  | .holdAbort .. => endMigParts ++ [.field .drainPhase, .field .drains]
  | .migrationSwap .. =>
    [
      .reg .RMP_MIG_SLOT0, .reg .CNT_VAL, .field .out, .field .hbm, .field .l2Cache, .field .resolved, .field .migMaps, .field .migHeld,
      .field .accesses, .field .drainPhase, .field .drains, .field .migs, .field .hot]
  | .migrationFinish .. =>
    tableParts ++ [
      .reg .L1_W0, .reg .RMP_STAT, .reg .RMP_MIG_STAT, .reg .RMP_MIG_SLOT0, .reg .RMP_MIG_SLOT1, .field .migMaps, .field .migs, .field .engines]
  | .migrationLoss .. => endMigParts ++ [.field .drainPhase, .field .drains]
  | .migCfgWrite .. => refuseParts ++ [.reg .RMP_MIG_CFG]
  | .jobDispatch .. =>
    [
      .reg .TNG_CL_STAT, .reg .TNG_CQ_PTR, .reg .TNG_CL_CNT, .reg .TNG_ENG_STAT, .reg .MGT_OWN_STAT, .reg .TNG_CQ, .field .out, .field .migWait,
      .field .engines, .field .clusters]
  | .dmLd .. => endMigParts
  | .dmSt .. => endMigParts
  | .dmCopy .. => endMigParts
  | .dmFill .. => endMigParts
  | .dmAmo .. => endMigParts
  | .dmWait .. => endMigParts
  | .dmFence .. => endMigParts
  | .dmCrc .. => endMigParts
  | .jobDone .. => endMigParts
  | .jobSubmit .. => endMigParts
  | .coprocessorCommit .. => endMigParts ++ [.reg .TNG_CL_STAT, .reg .TNG_CL_CNT, .reg .TNG_ENG_CNT, .field .migWait]
  | .speculativeReadDefer .. => endMigParts ++ [.reg .TNG_ENG_CNT]
  | .coprocessorSquash .. =>
    [
      .reg .TNG_ENG_CNT, .reg .CNT_VAL, .field .decodeQ, .field .resolved, .field .denials, .field .accesses, .field .engines, .field .clusters]
  | .farResponse .. => endMigParts
  | .tngSubGo .. => [.reg .TNG_CL_STAT, .reg .TNG_SUB_RES, .reg .TNG_SUB_ID, .reg .TNG_CL_CNT, .field .migWait, .field .clusters]
  | .deviceJobSubmit .. => [.reg .TNG_CL_STAT, .field .migWait, .field .clusters]
  | .jobCopy .. => endMigParts
  | .jobFill .. => endMigParts
  | .jobCrc .. => endMigParts
  | .jobCompare .. => endMigParts
  | .dirSweep .. => causeParts ++ [.reg .HRT_CNT2, .reg .HRT_POISON_LOG, .field .hbm, .field .dirCache]
  | .telem .. => [.field .engines]
  | .telemSnapshot .. => endMigParts
  | .kernelJob .. => [.field .engines]
  | .kernelFault .. =>
    [
      .reg .TNG_ENG_CNT, .reg .CNT_VAL, .field .decodeQ, .field .resolved, .field .denials, .field .accesses, .field .engines, .field .clusters]
  | .completionRecordWrite .. =>
    [
      .reg .TNG_CL_STAT, .reg .TNG_CANCEL_RES, .reg .TNG_CQ_PTR, .reg .TNG_CL_CNT, .reg .TNG_KRN, .reg .TNG_ENG_STAT, .reg .MGT_OWN_STAT,
      .reg .MGT_EVT_STAT, .reg .CNT_VAL, .reg .MGT_EVT_REC, .reg .TNG_CQ, .field .out, .field .fillDue, .field .migWait, .field .engines,
      .field .clusters]
  | .cqHeadWrite .. => [.reg .TNG_CQ_PTR, .reg .TNG_CL_CNT, .reg .TNG_CQ, .field .clusters]
  | .tngCancelGo .. =>
    endMigParts ++ refuseParts ++ [
      .reg .TNG_CL_STAT, .reg .TNG_CANCEL_RES, .reg .TNG_CQ_PTR, .reg .TNG_CL_CNT, .reg .MGT_OWN_STAT, .reg .TNG_CQ, .field .migWait]
  | .engineReset .. => endMigParts ++ [.reg .TNG_KRN, .reg .TNG_ENG_STAT]
  | .engineWatchdog .. => endMigParts ++ [.reg .TNG_KRN, .reg .TNG_ENG_STAT]
  | .engineLoadComplete .. => [.reg .TNG_KRN, .reg .TNG_ENG_STAT, .field .engines, .field .reloadDue]
  | .programReload .. => [.reg .TNG_KRN, .reg .TNG_ENG_STAT, .field .engines]
  | .joinFabric .. => commitParts
  | .joinRefuse .. => [.reg .MGT_FAB_MEMBER, .reg .MGT_EVT_STAT, .reg .CNT_VAL, .reg .MGT_EVT_REC]
  | .distPrep .. => [.reg .MGT_FAB_GEN, .reg .MGT_FAB_CNT, .reg .CNT_VAL, .field .out, .field .fab]
  | .distCommit .. => commitParts
  | .distAbort .. => [.field .fab]
  | .ackFabric .. => commitParts
  | .resync .. => commitParts
  | .standbyAckTimeout => commitParts ++ [.reg .MGT_FAB_RES]
  | .announceSend => [.reg .CNT_VAL, .field .out]
  | .announce .. => managerParts ++ [.reg .MGT_FAB_RES]
  | .leaseLapse => managerParts
  | .voteReq .. => [.reg .CNT_VAL, .field .out, .field .fab]
  | .vote .. => managerParts
  | .managerIsolated => [.reg .MGT_FAB_STAT, .reg .MGT_EVT_STAT, .reg .CNT_VAL, .reg .MGT_EVT_REC, .field .fab]
  | .managerListenEnd => managerParts
  | .handoverWrite .. => [.reg .MGT_FAB_RES, .reg .CNT_VAL, .field .out, .field .fab]
  | .handoverMessage .. => managerParts
  | .linkReport .. => commitParts
  | .chipUnreachable .. => commitParts
  | .fabricForward .. => [.field .ni, .field .voq, .field .transit, .field .fabPath, .field .fabFlight, .field .fabHeld]
  | .ttlExpired .. => [.reg .MGT_FAB_CNT, .field .ni, .field .transit]
  | .fabricLinkLossReroute .. => [.reg .MGT_FAB_FFT, .field .ni, .field .voq, .field .transit, .field .fabPath, .field .fabFlight, .field .fabHeld]
  | .mixedRevisionRetrain .. => sflDownParts
  | .mixedConditionChange => commitParts
  | .imgErase .. =>
    refuseParts ++ [
      .reg .MGT_IMG_STAT, .reg .MGT_IMG_SEQ, .reg .MGT_IMG_RES, .field .flashA, .field .flashB, .field .checked, .field .imgRun]
  | .imgWrite .. => refuseParts ++ [.reg .MGT_IMG_STAT, .reg .MGT_IMG_SEQ, .reg .MGT_IMG_RES, .field .freeCtr, .field .checked, .field .imgRun]
  | .imgCheck .. => refuseParts ++ [.reg .MGT_IMG_RES, .field .imgRun]
  | .imgCommit .. => refuseParts ++ [.reg .MGT_IMG_RES, .field .imgRun]
  | .imgApply .. => refuseParts ++ [.reg .MGT_IMG_RES, .field .imgRun]
  | .imageCommandComplete =>
    allRegs ++ sflDownParts ++ tableParts ++ [
      .field .freeCtr, .field .blocks, .field .prbs, .field .partials, .field .fmReq, .field .sflLanes, .field .voq, .field .buckets, .field .stamps,
      .field .accesses, .field .fwVersion, .field .flashA, .field .flashB, .field .checked, .field .imgRun, .field .imgCtx, .field .reloadDue,
      .field .imgLater, .field .sess, .field .memRuns, .field .refusals, .field .slots]
  | .keyGenId => refuseParts ++ [.reg .KEY_RES, .field .freeCtr, .field .keyRun]
  | .keyRotate .. => refuseParts ++ [.reg .KEY_RES, .field .keyRun]
  | .keyRevoke .. => refuseParts ++ [.reg .KEY_RES, .field .keyRun]
  | .keyProgRoot .. => refuseParts ++ [.reg .KEY_RES, .field .keyRun]
  | .keyRaiseSvn .. => refuseParts ++ [.reg .KEY_RES, .field .keyRun]
  | .keyCommandComplete =>
    [
      .reg .KEY_STAT, .reg .KEY_RES, .reg .KEY_ROOT, .reg .KEY_ROOT_HASH, .reg .KEY_ID_PUB, .field .flashA, .field .flashB, .field .fuses,
      .field .keyRun, .field .pendingId, .field .idKey]
  | .trngStartupComplete => [.reg .KEY_TRNG_STAT]
  | .trngHealthFailure .. => causeParts ++ [.reg .KEY_TRNG_STAT]
  | .trngReseed => [.field .freeCtr]
  | .trngNext => [.reg .KEY_TRNG_RES, .reg .KEY_TRNG_OUT, .field .freeCtr]
  | .bootRecordsRead =>
    [
      .reg .MGT_IMG_STAT, .reg .MGT_IMG_SEQ, .reg .KEY_STAT, .reg .MGT_EVT_STAT, .reg .PWR_MODE, .reg .CNT_VAL, .reg .KEY_ID_PUB, .reg .MGT_EVT_REC,
      .field .phase, .field .idKey, .field .bootKey]
  | .bootVerifyResult .. =>
    allRegs ++ [
      .field .phase, .field .hbm, .field .buckets, .field .stamps, .field .rep, .field .repEcc, .field .fwVersion, .field .fab, .field .staged,
      .field .imgCtx]
  | .openSession .. => [.reg .MGT_SESS, .field .out, .field .sess]
  | .closeSession .. => answerParts ++ [.reg .MGT_OWN_STAT, .reg .MGT_OWN_CLAIM, .field .claims, .field .memRuns]
  | .sessionIdleTimeout .. => [.reg .MGT_SESS, .reg .MGT_OWN_STAT, .reg .MGT_OWN_CLAIM, .field .sess, .field .claims, .field .memRuns]
  | .sessionPathLoss .. => [.reg .MGT_SESS, .reg .MGT_OWN_STAT, .reg .MGT_OWN_CLAIM, .field .sess, .field .claims, .field .memRuns]
  | .regRead .. => readParts
  | .regWrite .. => resetParts ++ [.field .out]
  | .claim .. => answerParts ++ [.reg .MGT_OWN_STAT, .field .freeCtr, .field .claims]
  | .electionWindowClose =>
    [
      .reg .MGT_SESS, .reg .MGT_OWN_STAT, .reg .MGT_OWN_CLAIM, .field .out, .field .sess, .field .claims, .field .leaseAt, .field .evtSent]
  | .renew .. => answerParts ++ [.reg .MGT_OWN_STAT, .field .leaseAt]
  | .ownerLeaseLapse => [.reg .MGT_SESS, .reg .MGT_OWN_STAT, .reg .MGT_OWN_CLAIM]
  | .ownHandover .. => answerParts ++ [.reg .MGT_OWN_STAT, .field .leaseAt, .field .evtSent]
  | .releaseOwnership .. => answerParts ++ [.reg .MGT_OWN_STAT, .reg .MGT_OWN_CLAIM]
  | .eventQueue .. => [.reg .MGT_EVT_STAT, .reg .CNT_VAL, .reg .MGT_EVT_REC]
  | .eventSend => [.field .out, .field .evtSent]
  | .eventAck .. => answerParts ++ [.reg .MGT_EVT_STAT, .field .evtSent]
  | .evtAckWrite .. => [.reg .MGT_EVT_STAT, .field .evtSent]
  | .eventResendTimeout => [.field .out, .field .evtSent]
  | .fmApi .. =>
    linkDownParts ++ endMigParts ++ tableParts ++ [
      .reg .MGT_SESS, .field .fmReq, .field .dcAdds, .field .dcReleases, .field .fillDue, .field .dcSanitize, .field .sess]
  | .memRead .. => answerParts ++ [.field .decodeQ, .field .memRuns]
  | .memWrite .. => answerParts ++ [.field .decodeQ, .field .memRuns]
  | .unknownTypeMessage .. => answerParts
  | .udpDuplicateRequest .. => [.field .out]
  | .resetNAssert => resetParts
  | .resetEnd .. =>
    causeParts ++ [
      .reg .KEY_STAT, .reg .KEY_ROOT, .reg .PWR_PERST, .reg .KEY_ROOT_HASH, .field .phase, .field .clk, .field .tim, .field .resetBy]
  | .brownOut .. => resetParts
  | .reboot => resetParts
  | .enterTest => refuseParts ++ [.reg .PRT_LINK_STATUS, .reg .PWR_MODE, .reg .FLT_STAT, .field .phase]
  | .boundaryScanTest => sflDownParts ++ linkDownParts ++ [.reg .SFL_LANE_STAT, .reg .PWR_MODE, .reg .FLT_STAT, .field .phase, .field .sflLanes]
  | .hbmInitDone .. =>
    allRegs ++ [
      .field .phase, .field .hbm, .field .buckets, .field .stamps, .field .rep, .field .repEcc, .field .fwVersion, .field .fab, .field .hbmReady,
      .field .staged, .field .imgCtx, .field .repairMap]
  | .provisionComplete =>
    [
      .reg .MGT_FAB_STAT, .reg .MGT_EVT_STAT, .reg .PWR_MODE, .reg .PWR_RESET_STAT, .reg .FLT_STAT, .reg .TIM_FREQ, .reg .TIM_STAT, .reg .TIM_OFFSET,
      .reg .CNT_VAL, .reg .MGT_EVT_REC, .field .phase, .field .servo]
  | .recoverRegions .. => refuseParts ++ [.reg .PWR_MODE, .reg .FLT_STAT, .reg .FLT_REG_STAT]
  | .regionRecoveryEnd .. =>
    allRegs ++ readParts ++ [
      .field .freeCtr, .field .hbm, .field .blocks, .field .prbs, .field .partials, .field .fmReq, .field .outst, .field .decodeQ, .field .portHold,
      .field .voq, .field .crQueue, .field .inflight, .field .rtr, .field .xing, .field .buckets, .field .holdQ, .field .holdFull, .field .bindRun,
      .field .stamps, .field .l2Cache, .field .resolved, .field .denials, .field .dirCache, .field .txns, .field .wbuf, .field .trkWait,
      .field .migMaps, .field .migHeld, .field .accesses, .field .drains, .field .hot, .field .transit, .field .fabHeld, .field .reloadDue,
      .field .imgLater, .field .memRuns, .field .slots]
  | .perstAssert .. =>
    linkDownParts ++ [
      .reg .VCS_ENTRY, .reg .PWR_PERST, .field .biDecoder, .field .decoders, .field .commitWait, .field .txns, .field .wbuf, .field .caidWait,
      .field .migMaps, .field .migHeld, .field .accesses]
  | .perstDeassert .. =>
    [
      .reg .PRT_LINK_STATUS, .reg .PRT_PRBS_CTL, .reg .PRT_PRBS_BITS, .reg .PRT_PRBS_RES, .reg .SFL_TRAIN_STATUS, .reg .PWR_PERST, .field .blocks,
      .field .prbs, .field .ports, .field .sflTrain]
  | .bankWrite .. =>
    [
      .reg .MGT_EVT_STAT, .reg .PWR_MODE, .reg .PWR_CTL, .reg .PWR_BANK_PORT, .reg .PWR_BANK_PDENY, .reg .PWR_BANK_UNIT, .reg .CNT_VAL,
      .reg .MGT_EVT_REC]
  | .unitBanked .. =>
    [
      .reg .PRT_LINK_STATUS, .reg .SFL_LINK_STAT, .reg .MGT_EVT_STAT, .reg .PWR_MODE, .reg .PWR_BANK_PSTAT, .reg .PWR_BANK_PDENY,
      .reg .PWR_BANK_USTAT, .reg .CNT_VAL, .reg .MGT_EVT_REC, .field .out, .field .hbm, .field .sflTx, .field .sfl, .field .dirCache]
  | .bankDemandWake .. =>
    [
      .reg .PRT_LINK_STATUS, .reg .SFL_LINK_STAT, .reg .MGT_EVT_STAT, .reg .PWR_MODE, .reg .PWR_BANK_PSTAT, .reg .PWR_BANK_USTAT, .reg .CNT_VAL,
      .reg .MGT_EVT_REC, .field .out, .field .sflTx, .field .sfl]
  | .bankIdleRebank .. =>
    [
      .reg .PRT_LINK_STATUS, .reg .SFL_LINK_STAT, .reg .MGT_EVT_STAT, .reg .PWR_MODE, .reg .PWR_BANK_PSTAT, .reg .PWR_BANK_PDENY,
      .reg .PWR_BANK_USTAT, .reg .CNT_VAL, .reg .MGT_EVT_REC, .field .out, .field .hbm, .field .sflTx, .field .sfl, .field .dirCache]
  | .faultCause .. => causeParts
  | .fltPendClear .. => [.reg .FLT_STAT, .reg .FLT_REC0]
  | .fltFatalClear .. => [.reg .FLT_REG_STAT]
  | .regionFence .. => causeParts
  | .lostHomeScan .. =>
    causeParts ++ [
      .reg .HRT_SLICE_STAT, .reg .HRT_CNT2, .reg .HRT_POISON_LOG, .field .hbm, .field .dirCache, .field .txns, .field .wbuf, .field .trkWait]
  | .chipFatalCause .. => causeParts
  | .emberToggle => [.field .ember]
  | .fltInjGo .. => refuseParts ++ [.reg .FLT_INJ_RES, .field .inj]
  | .injectionApply =>
    causeParts ++ [
      .reg .ANV_RTR_STAT, .reg .ANV_RTR_ERR, .reg .FLT_ACTIVE, .reg .FLT_INJ_RES, .reg .FLT_POOL, .field .freeCtr, .field .hbm, .field .hbmEcc,
      .field .voq, .field .inflight, .field .rtr, .field .xing, .field .gateDrops, .field .wear, .field .repEcc, .field .dirCache, .field .accesses,
      .field .sess, .field .memRuns, .field .inj, .field .trcDue]
  | .injectionTimeout => [.reg .FLT_INJ_RES, .field .inj]
  | .wearSample .. =>
    causeParts ++ endMigParts ++ [
      .reg .PRT_LANE_MAP, .reg .ANV_RTR_STAT, .reg .HRT_SLICE_STAT, .reg .HRT_CNT2, .reg .HRT_POISON_LOG, .reg .TNG_KRN, .reg .TNG_ENG_STAT,
      .reg .FLT_ACTIVE, .reg .FLT_REPAIR_RES, .reg .FLT_POOL, .reg .FLT_WEAR_CNT, .field .blocks, .field .wear, .field .margins, .field .dirCache,
      .field .txns, .field .wbuf, .field .trkWait, .field .spareUntil, .field .repairMap, .field .retiring]
  | .spareSliceReplace .. =>
    causeParts ++ [
      .reg .HRT_SLICE_STAT, .reg .HRT_CNT2, .reg .HRT_POISON_LOG, .reg .FLT_ACTIVE, .reg .FLT_REPAIR_RES, .reg .FLT_POOL, .field .hbm,
      .field .dirCache, .field .txns, .field .wbuf, .field .trkWait, .field .spareUntil, .field .repairMap, .field .retiring]
  | .spareEngineReplace .. => causeParts ++ endMigParts ++ [.reg .TNG_KRN, .reg .TNG_ENG_STAT, .reg .FLT_ACTIVE, .reg .FLT_POOL, .field .repairMap]
  | .sramSoftRepair .. => causeParts ++ [.reg .FLT_ACTIVE, .reg .FLT_POOL, .field .repairMap]
  | .hbmSoftPpr .. => causeParts ++ [.reg .FLT_ACTIVE, .reg .FLT_POOL, .field .hbmEcc, .field .repairMap]
  | .clearLane .. =>
    refuseParts ++ [
      .reg .PRT_LANE_MAP, .reg .PWR_MODE, .reg .FLT_STAT, .reg .FLT_ACTIVE, .reg .FLT_REPAIR_RES, .reg .FLT_POOL, .field .repairMap]
  | .retireEngine .. =>
    causeParts ++ endMigParts ++ [
      .reg .MGT_DRS_ERR, .reg .TNG_KRN, .reg .TNG_ENG_STAT, .reg .FLT_REPAIR_RES, .reg .FLT_POOL, .field .refusals, .field .repairMap]
  | .retireSlice .. =>
    causeParts ++ [
      .reg .MGT_DRS_ERR, .reg .HRT_SLICE_STAT, .reg .HRT_CNT2, .reg .HRT_POISON_LOG, .reg .FLT_ACTIVE, .reg .FLT_REPAIR_RES, .reg .FLT_POOL,
      .field .hbm, .field .dirCache, .field .txns, .field .wbuf, .field .trkWait, .field .spareUntil, .field .refusals, .field .repairMap,
      .field .retiring]
  | .degClear => [.reg .MGT_EVT_STAT, .reg .PWR_MODE, .reg .FLT_STAT, .reg .FLT_ACTIVE, .reg .CNT_VAL, .reg .MGT_EVT_REC]
  | .poolUnmetDemand .. => [.reg .MGT_EVT_STAT, .reg .PWR_MODE, .reg .FLT_STAT, .reg .FLT_ACTIVE, .reg .FLT_POOL, .reg .CNT_VAL, .reg .MGT_EVT_REC]
  | .ppsOutEdge => [.field .ppsUntil]
  | .timNowRead .. => readParts
  | .servoUpdate => causeParts ++ [.reg .TIM_FREQ, .reg .TIM_STAT, .reg .TIM_OFFSET, .field .tim, .field .servo]
  | .ptpSync .. => causeParts ++ [.reg .TIM_STAT, .field .tim, .field .servo, .field .ptpAt]
  | .ppsInEdge => [.reg .TIM_STAT, .field .servo]
  | .timeReferenceLoss .. => causeParts ++ [.reg .TIM_FREQ, .reg .TIM_STAT, .field .servo, .field .ptpAt]
  | .timSet => causeParts ++ [.reg .MGT_DRS_ERR, .reg .TIM_STAT, .field .tim, .field .refusals, .field .servo]
  | .timAdj .. => causeParts ++ [.reg .MGT_DRS_ERR, .reg .TIM_STAT, .field .tim, .field .refusals, .field .servo]
  | .telemetryConversion .. =>
    causeParts ++ [
      .reg .FLT_ACTIVE, .reg .PWR_THERM_STAT, .reg .PWR_TEL_MRES, .reg .PWR_TEL_SMP, .field .tel, .field .throttleNs, .field .throttleAt]
  | .thermalStateChange .. => causeParts ++ [.reg .FLT_ACTIVE, .reg .PWR_THERM_STAT, .field .tel, .field .throttleNs, .field .throttleAt]
  | .cntSnap .. => [.reg .CNT_SNAP_RES, .reg .CNT_SNAP]
  | .cntClr .. => [.reg .CNT_VAL]
  | .clrPeak => [.reg .CNT_BW2]
  | .bwWindowEnd .. => [.reg .CNT_BW0, .reg .CNT_BW1, .reg .CNT_BW2, .reg .CNT_BW3]
  | .traceRecord .. =>
    [
      .reg .CNT_VAL, .reg .CNT_TRC_STAT, .reg .CNT_TRC_DROP, .field .out, .field .hbm, .field .trcDue, .field .trcSeq, .field .trcDrop]
  | .start => refuseParts ++ [.reg .CNT_TRC_STAT]
  | .stop => [.reg .CNT_TRC_STAT]
  | .pmbusPoll .. => causeParts ++ [.reg .SLT_STAT, .reg .SLT_MEAS0, .reg .SLT_MEAS1, .reg .SLT_MEAS2, .reg .SLT_MEAS3, .field .slots]
  | .slotChainFrame .. => [.reg .SLT_STAT, .field .out, .field .slots]
  | .slotCommandedOn .. => [.reg .SLT_STAT, .field .out, .field .slots]
  | .slotPgood .. => [.reg .SLT_STAT]
  | .slotSettleEnd .. => [.reg .SLT_STAT, .field .out, .field .slots]
  | .slotPerstRelease .. =>
    [
      .reg .PRT_LINK_STATUS, .reg .PRT_PRBS_CTL, .reg .PRT_PRBS_BITS, .reg .PRT_PRBS_RES, .reg .SFL_TRAIN_STATUS, .field .blocks, .field .prbs,
      .field .ports, .field .sflTrain, .field .slots]
  | .slotOffCommand .. => linkDownParts
  | .slotTrip .. => linkDownParts
  | .slotRetry .. => [.reg .SLT_STAT, .field .out, .field .slots]
  | .slotStableReset .. => [.reg .SLT_STAT, .field .slots]
  | .fetFail .. => causeParts ++ [.reg .SLT_STAT, .field .slots]
  | .slotClear .. => [.reg .SLT_STAT, .field .out, .field .slots]
  | .pwrbrkAssert .. => [.reg .MGT_EVT_STAT, .reg .CNT_VAL, .reg .SLT_STAT, .reg .MGT_EVT_REC, .field .slots]
  | .pwrbrkRelease .. => [.reg .SLT_STAT, .field .slots]
  | .slotPresenceLoss .. => linkDownParts
  | .cycle .. => linkDownParts
  | .attentionButton .. => [.field .vppbs]
  | .refclkLoss .. => causeParts ++ linkDownParts ++ [.field .clkLost]
  | .refclkRestore .. =>
    causeParts ++ [
      .reg .PRT_PRBS_CTL, .reg .PRT_PRBS_BITS, .reg .PRT_PRBS_RES, .reg .KEY_STAT, .reg .KEY_ROOT, .reg .PWR_PERST, .reg .KEY_ROOT_HASH,
      .field .phase, .field .clk, .field .tim, .field .blocks, .field .prbs, .field .resetBy, .field .clkLost]
  | .ideKeySetUp .. =>
    [
      .reg .PRT_CXL_STATUS, .reg .SLT_STAT, .field .freeCtr, .field .out, .field .vppbs, .field .outst, .field .decodeQ, .field .portHold, .field .ni,
      .field .voq, .field .ideKeys, .field .transit, .field .slots]
  | .remoteBinding .. => bindParts ++ answerParts ++ [.reg .VPPB_ENTRY, .reg .MGT_FAB_CNT, .reg .SLT_STAT, .field .vppbs]
  | .hotnessZeroFillComplete => [.field .hot]
  | .ptpAnnounce .. => [.reg .TIM_STAT, .reg .CNT_VAL, .field .ptpBest]
  | .upstreamTimeout => [.reg .TIM_STAT, .reg .TIM_OFFSET, .field .timPeers, .field .servo]

/-- A command completes where every unit that it names exists, with every part that it is not named to change as it was; and so it is wherever it completes. -/
def Instr.Framed (i : Instr) : Prop := ∀ s,
  (i.wf = true → ∃ t, exec i s = .next t ∧ ∀ p, p ∉ i.changes → Same p s t) ∧ ∀ t, exec i s = .next t → ∀ p, p ∉ i.changes → Same p s t

end Sys2Proof
end

