-- ==== Sys2Proof/Certificates/Slice0/Obligations.lean ====
section
/-! DEFINITION. The statements for the provers. -/

open Sys2Proof Sys2Proof.Machine

/-- Bring-up of a port (R44, R45, R60, R109): each command completes, with the state it leaves the port in. -/
def Obligations.BringUpRuns : Prop :=
  -- BRING_UP_START: with the conditions of R44 a DOWN port starts stage 1, and a fabric block its training; without them nothing changes.
  (∀ s p n l, p < 128 → s.bringUpReady p = true → s.get PRT_LINK_STATUS.STATE p = 0 →
    ∃ t, exec (.bringUpStart p n l) s = .next t ∧ t.get PRT_LINK_STATUS.STATE p = 1 ∧ (t.port p).stage = 1 ∧
      (s.role p = 2 → t.get SFL_TRAIN_STATUS.STATE (p / 2) = 1)) ∧
  (∀ s p n l, p < 128 → s.bringUpReady p = false → exec (.bringUpStart p n l) s = .next s) ∧
  -- TRAINING_STAGE_END: calibration done leads to Detect, Detect to Polling, link active to L0 with DL_UP; a failure goes back to Detect.
  (∀ s p q lanes, p < 128 → s.role p ≠ 2 → (s.port p).stage = 1 →
    ∃ t, exec (.trainingStageEnd p true q lanes) s = .next t ∧ t.get PRT_LINK_STATUS.STATE p = 2 ∧ (t.port p).stage = 2) ∧
  (∀ s p q lanes, p < 128 → s.role p ≠ 2 → (s.port p).stage = 2 →
    ∃ t, exec (.trainingStageEnd p true q lanes) s = .next t ∧ t.get PRT_LINK_STATUS.STATE p = 3 ∧ (t.port p).stage = 3) ∧
  (∀ s p q lanes, p < 128 → s.role p ≠ 2 → (s.port p).stage = 9 →
    ∃ t, exec (.trainingStageEnd p true q lanes) s = .next t ∧ t.get PRT_LINK_STATUS.STATE p = 6 ∧ t.get PRT_LINK_STATUS.DL_UP p = 1 ∧
      (t.port p).stage = 0) ∧
  (∀ s p q lanes, p < 128 → s.role p ≠ 2 → (s.port p).stage ≠ 0 →
    ∃ t, exec (.trainingStageEnd p false q lanes) s = .next t ∧ t.get PRT_LINK_STATUS.STATE p = 2 ∧ (t.port p).stage = 2) ∧
  -- ADMIN_WRITE: both bits take the written values; a half turned off reads DOWN, unless the block follows an x16 lead.
  (∀ s b a0 a1, b < 64 →
    ∃ t, exec (.adminWrite b a0 a1) s = .next t ∧ t.get PRT_LINK_CTL.ADMIN0 b = bit a0 ∧ t.get PRT_LINK_CTL.ADMIN1 b = bit a1 ∧
      (s.get PRT_CFG.MODE b ≠ 4 → a0 = false → t.get PRT_LINK_STATUS.STATE (2 * b) = 0) ∧
      (s.get PRT_CFG.MODE b ≠ 4 → a1 = false → t.get PRT_LINK_STATUS.STATE (2 * b + 1) = 0)) ∧
  -- DL_UP_LOSS: the port reads DOWN with DL_UP = 0, partly received messages are counted, and its block's NI holds a TARGET_DOWN trigger.
  (∀ s p planned n, p < 128 → s.flag PRT_LINK_STATUS.DL_UP p = true →
    ∃ t, exec (.dlUpLoss p planned n) s = .next t ∧ t.get PRT_LINK_STATUS.STATE p = 0 ∧ t.get PRT_LINK_STATUS.DL_UP p = 0 ∧
      t.get ANV_SLAG_CNT2.PARTIAL (p / 32) = satAdd ANV_SLAG_CNT2.PARTIAL.width (s.get ANV_SLAG_CNT2.PARTIAL (p / 32)) n ∧
      (t.niAt (p / 2)).triggers.any (fun u => u.code = 1) = true) ∧
  (∀ s p planned n, p < 128 → s.flag PRT_LINK_STATUS.DL_UP p = false → exec (.dlUpLoss p planned n) s = .next s)

/-- L0p and Recovery (R48, R49, R52): widths asked for, taken and left. -/
def Obligations.WidthAndRecovery : Prop :=
  -- L0P_REQUEST_PARTNER: a width no wider than the present one is accepted.
  (∀ s p w, p < 128 → s.l0pRuns p = true → w ∈ [16, 8, 4, 2, 1] → w ≤ s.get PRT_LINK_STATUS.NEG_WIDTH p → w < s.get PRT_LINK_STATUS.WIDTH p →
    ∃ t, exec (.l0pRequestPartner p w) s = .next t ∧ (t.port p).l0pTo = some w) ∧
  -- L0P_REQUEST_PARTNER: an increase over a marked lane is refused.
  (∀ s p w l, p < 128 → s.get PRT_LINK_STATUS.WIDTH p < w → l ∈ s.markedLanes p → l < w → exec (.l0pRequestPartner p w) s = .next s) ∧
  -- L0P_TGT_WRITE: the half's target takes the written value.
  (∀ s b tgt, b < 64 → tgt < 8 → ∃ t, exec (.l0pTgtWrite b 0 tgt) s = .next t ∧ t.get PRT_LINK_CTL.L0P_TGT0 b = tgt) ∧
  (∀ s b tgt, b < 64 → tgt < 8 → ∃ t, exec (.l0pTgtWrite b 1 tgt) s = .next t ∧ t.get PRT_LINK_CTL.L0P_TGT1 b = tgt) ∧
  -- L0P_CHANGE_COMPLETE: the link takes the width asked for; L0p while it is narrower than negotiated, L0 otherwise.
  (∀ s p w, p < 128 → (s.port p).l0pTo = some w → w < 32 → s.inL0 p = true →
    ∃ t, exec (.l0pChangeComplete p) s = .next t ∧ t.get PRT_LINK_STATUS.WIDTH p = w ∧ (t.port p).l0pTo = none ∧
      t.get PRT_LINK_STATUS.STATE p = if w < s.get PRT_LINK_STATUS.NEG_WIDTH p then 7 else 6) ∧
  -- RETRAIN_WRITE and RECOVERY_ENTRY: a link in L0 or L0p in a PCIe role goes to Recovery with no lanes in use; on a fabric port neither does anything.
  (∀ s b, b < 64 → s.inL0 (2 * b) = true → s.role (2 * b) ≠ 2 →
    ∃ t, exec (.retrainWrite b true false) s = .next t ∧ t.get PRT_LINK_STATUS.STATE (2 * b) = 5 ∧ t.get PRT_LINK_STATUS.WIDTH (2 * b) = 0) ∧
  (∀ s b, b < 64 → exec (.retrainWrite b false false) s = .next s) ∧
  (∀ s p, p < 128 → s.inL0 p = true → s.role p ≠ 2 →
    ∃ t, exec (.recoveryEntry p) s = .next t ∧ t.get PRT_LINK_STATUS.STATE p = 5 ∧ t.get PRT_LINK_STATUS.WIDTH p = 0) ∧
  (∀ s p, p < 128 → s.inL0 p = false ∨ s.role p = 2 → exec (.recoveryEntry p) s = .next s) ∧
  -- RECOVERY_COMPLETE: the link is in L0 or L0p again.
  (∀ s p ok, p < 128 → s.get PRT_LINK_STATUS.STATE p = 5 → (s.port p).stage = 0 →
    ∃ t, exec (.recoveryComplete p ok) s = .next t ∧ t.inL0 p = true)

/-- Lane marks, the spare's self-check and the PRBS checks of a port block (R53, R55, R57, R58). -/
def Obligations.LanesAndPrbs : Prop :=
  -- MARK_CLEAR: every pair named is unmarked.
  (∀ s b mask k, b < 64 → k < 8 → bitOf mask k = true → ∃ t, exec (.markClear b mask) s = .next t ∧ t.marked b k = false) ∧
  -- SPARE_SELF_CHECK: a failure while LC8 is not in use sets SPARE_BAD; a pass changes nothing.
  (∀ s b, b < 64 → s.flag PRT_LANE_MAP.SPARE_USED b = false →
    ∃ t, exec (.spareSelfCheck b false) s = .next t ∧ t.get PRT_LANE_MAP.SPARE_BAD b = 1) ∧
  (∀ s b, b < 64 → exec (.spareSelfCheck b true) s = .next s) ∧
  -- PRBS_EN_WRITE: EN reads 1 only where PRBS may run; the pattern is taken either way.
  (∀ s b v, b < 64 →
    ∃ t, exec (.prbsEnWrite b v) s = .next t ∧
      t.get PRT_PRBS_CTL.EN b = bit (decide (v.field PRT_PRBS_CTL.EN.hi PRT_PRBS_CTL.EN.lo = 1) && s.prbsAllowed b) ∧
      t.get PRT_PRBS_CTL.PATTERN b = v.field PRT_PRBS_CTL.PATTERN.hi PRT_PRBS_CTL.PATTERN.lo) ∧
  -- PRBS_SNAP: the bit count is shown, SEQ goes up by one modulo 256 and VALID is 1.
  (∀ s b n errs, b < 64 →
    ∃ t, exec (.prbsSnap b n errs) s = .next t ∧ t.get PRT_PRBS_BITS.SEQ b = (s.get PRT_PRBS_BITS.SEQ b + 1) % 256 ∧ t.get PRT_PRBS_BITS.VALID b = 1 ∧
      (t.blockAt b).prbsBitsK = satAdd 48 (s.blockAt b).prbsBitsK n) ∧
  -- PRBS_CHECKER_LOCK: 256 error-free bits on an enabled lane lock its checker.
  (∀ s b k n, b < 64 → k < 9 → 256 ≤ n → s.flag PRT_PRBS_CTL.EN b = true → bitOf (s.get PRT_PRBS_CTL.LANES b) k = true →
    ∃ t, exec (.prbsCheckerLock b k n) s = .next t ∧ (t.prbsLane b k).locked = true ∧ (t.prbsLane b k).err = (s.prbsLane b k).err) ∧
  -- PRBS_CHECKER_LOSE_LOCK: more than 256 errors lose the lock; ERR keeps its value, with what was counted while the lane was locked.
  (∀ s b k n c, b < 64 → k < 9 → 256 < n →
    ∃ t, exec (.prbsCheckerLoseLock b k n c) s = .next t ∧ (t.prbsLane b k).locked = false ∧
      (t.prbsLane b k).err = if (s.prbsLane b k).locked then satAdd 40 (s.prbsLane b k).err c else (s.prbsLane b k).err) ∧
  (∀ s b k n c, b < 64 → k < 9 → n ≤ 256 → exec (.prbsCheckerLoseLock b k n c) s = .next s)

/-- The duplicated tables (R210 to R212): a lookup's repair leaves both copies of an entry alike, and the scrub moves on. -/
def Obligations.TablesRepaired : Prop :=
  -- DUPLICATE_MISMATCH: an uncorrectable copy of an entry whose other copy is good is rewritten from it.
  (∀ s r k i copy flip, r < 4 → i < tableSize k → copy < 2 →
    (∀ x ∈ entryWords k i, s.repCond r 0 x.1 x.2 = 0 ∧ s.repCond r 1 x.1 x.2 = 0 ∧ s.repWord r 1 x.1 x.2 = s.repWord r 0 x.1 x.2) →
    ∃ t, exec (.duplicateMismatch r k i copy flip 2) s = .next t ∧
      ∀ x ∈ entryWords k i, ∀ c ∈ ([0, 1] : List Nat), t.repWord r c x.1 x.2 = s.repWord r 0 x.1 x.2 ∧ t.repCond r c x.1 x.2 = 0) ∧
  -- DUPLICATE_REPAIR: copies that agree and read clean are left alone; of two clean copies the newer one stands.
  (∀ s r k i, r < 4 →
    (∀ x ∈ entryWords k i, s.repCond r 0 x.1 x.2 = 0 ∧ s.repCond r 1 x.1 x.2 = 0 ∧ s.repWord r 1 x.1 x.2 = s.repWord r 0 x.1 x.2) →
    exec (.duplicateRepair r k i) s = .next s) ∧
  (∀ s r k i, r < 4 → i < tableSize k → (∀ x ∈ entryWords k i, s.repCond r 0 x.1 x.2 = 0 ∧ s.repCond r 1 x.1 x.2 = 0) →
    newer (s.copyTag r 0 k i) (s.copyTag r 1 k i) = true →
    ∃ t, exec (.duplicateRepair r k i) s = .next t ∧ ∀ x ∈ entryWords k i, ∀ c ∈ ([0, 1] : List Nat), t.repWord r c x.1 x.2 = s.repWord r 0 x.1 x.2) ∧
  -- TABLE_SCRUB_STEP: in a LIVE region each of the three scrubs moves to its next entry; elsewhere it stands still.
  (∀ s r, r < 4 → s.live r = true →
    ∃ t, exec (.tableScrubStep r) s = .next t ∧
      Tbl.rd (fun _ => 0) t.scrubAt (4 * r) = (Tbl.rd (fun _ => 0) s.scrubAt (4 * r) + 1) % 34304 ∧
      Tbl.rd (fun _ => 0) t.scrubAt (4 * r + 1) = (Tbl.rd (fun _ => 0) s.scrubAt (4 * r + 1) + 1) % 65536 ∧
      Tbl.rd (fun _ => 0) t.scrubAt (4 * r + 2) = (Tbl.rd (fun _ => 0) s.scrubAt (4 * r + 2) + 1) % 1024) ∧
  (∀ s r, r < 4 → s.live r = false → exec (.tableScrubStep r) s = .next s)

/-- A fabric lane's marker hunt and lock, and the decoder's counts (R99, R101, R102): every command completes with the effect the rules give. -/
def Obligations.MarkersAndCodewords : Prop :=
  -- MARKER_CANDIDATE: the fourth candidate in a row with the right spacing, lane ID and sequence locks the lane; one out of place counts as the first.
  (∀ s b k m, b < 64 → k < 9 → isCandidate m = true → s.flag SFL_LANE_STAT.LOCK (9 * b + k) = false → 3 ≤ (s.sflLane b k).seen →
    markerLane m = (s.sflLane b k).laneId → markerSeq m = (s.sflLane b k).nextSeq →
    ∃ t, exec (.markerCandidate b k m markerPeriod (s.sflLane b k).inverted) s = .next t ∧ t.get SFL_LANE_STAT.LOCK (9 * b + k) = 1 ∧
      t.get SFL_LANE_STAT.LANE_ID (9 * b + k) = markerLane m ∧ (t.sflLane b k).nextSeq = (markerSeq m + 1) % 8) ∧
  (∀ s b k m spacing inv, b < 64 → k < 9 → isCandidate m = true → s.flag SFL_LANE_STAT.LOCK (9 * b + k) = false → spacing ≠ markerPeriod →
    ∃ t, exec (.markerCandidate b k m spacing inv) s = .next t ∧ (t.sflLane b k).seen = 1 ∧ t.get SFL_LANE_STAT.LOCK (9 * b + k) = 0) ∧
  -- MARKER_CHECK: an exact marker is accepted; a failure is counted, and the third in a row returns the lane to hunt.
  (∀ s b k m, b < 64 → k < 9 → s.flag SFL_LANE_STAT.LOCK (9 * b + k) = true → markerDistance m = 0 → markerComplement m = true →
    markerLane m = (s.sflLane b k).expId → markerSeq m = (s.sflLane b k).nextSeq →
    ∃ t, exec (.markerCheck b k m false) s = .next t ∧ (t.sflLane b k).badMarkers = 0 ∧
      (t.sflLane b k).nextSeq = ((s.sflLane b k).nextSeq + 1) % 8 ∧ t.get SFL_LANE_STAT.LOCK (9 * b + k) = 1) ∧
  (∀ s b k m late, b < 64 → k < 9 → s.flag SFL_LANE_STAT.LOCK (9 * b + k) = true → 0 < markerDistance m → 2 ≤ (s.sflLane b k).badMarkers →
    ∃ t, exec (.markerCheck b k m late) s = .next t ∧ t.get SFL_LANE_STAT.LOCK (9 * b + k) = 0 ∧ (t.sflLane b k).seen = 0 ∧
      t.get SFL_LANE_STAT.MARKER_ERR (9 * b + k) = satAdd 8 (s.get SFL_LANE_STAT.MARKER_ERR (9 * b + k)) 1) ∧
  -- CODEWORD_DECODE in a PCIe role: corrected symbols go into the totals of the circuit; an uncorrectable codeword is counted.
  (∀ s b k n l, b < 64 → k < 9 → s.role (s.circuitPort b k) ≠ 2 → (s.circuitPair b k).isSome = true → 0 < n →
    ∃ t, exec (.codewordDecode b k true n l) s = .next t ∧
      t.get PRT_LANE_STAT.SYM_TOTAL (9 * b + k) = satAdd 32 (s.get PRT_LANE_STAT.SYM_TOTAL (9 * b + k)) n ∧
      t.get PRT_LANE_STAT.SYM_WIN (9 * b + k) = satAdd 16 (s.get PRT_LANE_STAT.SYM_WIN (9 * b + k)) n) ∧
  (∀ s b k n l, b < 64 → k < 9 → s.role (s.circuitPort b k) ≠ 2 → (s.circuitPair b k).isSome = true →
    ∃ t, exec (.codewordDecode b k false n l) s = .next t ∧
      t.get PRT_LINK_ERR.UNCORR_FEC (s.circuitPort b k) = satAdd PRT_LINK_ERR.UNCORR_FEC.width (s.get PRT_LINK_ERR.UNCORR_FEC (s.circuitPort b k)) 1) ∧
  -- CODEWORD_DECODE on a locked fabric lane: the levels that are no codeword within 15 symbols are uncorrectable; the eighth in a row returns the lane to hunt. Those of a codeword with errors are corrected.
  (∀ s b k ok n l, b < 64 → k < 9 → s.role (s.circuitPort b k) = 2 → s.flag SFL_LANE_STAT.LOCK (9 * b + k) = true →
    (rxSymbols (s.sflLane b k).inverted l).length ≠ cwData (s.sflLane b k).cw + 30 ∨ rsDecode (rxSymbols (s.sflLane b k).inverted l) = none →
    ∃ t, exec (.codewordDecode b k ok n l) s = .next t ∧
      t.get SFL_LANE_STAT.CW_UNCORR (9 * b + k) = satAdd SFL_LANE_STAT.CW_UNCORR.width (s.get SFL_LANE_STAT.CW_UNCORR (9 * b + k)) 1 ∧
      t.get SFL_LANE_STAT.LOCK (9 * b + k) = bit (decide ((s.sflLane b k).badCodewords < 7))) ∧
  (∀ s b k ok n l w c, b < 64 → k < 9 → s.role (s.circuitPort b k) = 2 → s.flag SFL_LANE_STAT.LOCK (9 * b + k) = true →
    (rxSymbols (s.sflLane b k).inverted l).length = cwData (s.sflLane b k).cw + 30 → rsDecode (rxSymbols (s.sflLane b k).inverted l) = some (w, c) → 0 < c →
    ∃ t, exec (.codewordDecode b k ok n l) s = .next t ∧
      t.get SFL_LANE_STAT.CW_CORR (9 * b + k) = satAdd SFL_LANE_STAT.CW_CORR.width (s.get SFL_LANE_STAT.CW_CORR (9 * b + k)) 1 ∧
      t.get PRT_LANE_STAT.SYM_TOTAL (9 * b + k) = satAdd 32 (s.get PRT_LANE_STAT.SYM_TOTAL (9 * b + k)) c ∧ (t.sflLane b k).badCodewords = 0) ∧
  -- SYMBOL_WINDOW_END: a window at or below SYM_THR starts again at 0 and marks nothing.
  (∀ s b k n, b < 64 → k < 9 → s.get PRT_LANE_STAT.SYM_WIN (9 * b + k) + n ≤ s.get PRT_SPARE_CTL.SYM_THR b →
    ∃ t, exec (.symbolWindowEnd b k n) s = .next t ∧ t.get PRT_LANE_STAT.SYM_WIN (9 * b + k) = 0 ∧
      t.get PRT_LANE_STAT.SYM_TOTAL (9 * b + k) = satAdd 32 (s.get PRT_LANE_STAT.SYM_TOTAL (9 * b + k)) n ∧
      t.get PRT_LANE_MAP.MARK b = s.get PRT_LANE_MAP.MARK b) ∧
  -- LANE_MARK: the pair is marked, and it is the last in the order of marks if it was not marked before.
  (∀ s b k reason, b < 64 → k < 8 → s.role (s.pairPort b k) ≠ 2 → s.flag PRT_SPARE_CTL.AUTO_L0P b = false → k ∉ (s.blockAt b).marks →
    ∃ t, exec (.laneMark b k reason) s = .next t ∧ t.marked b k = true ∧ (t.blockAt b).marks = (s.blockAt b).marks ++ [k])

/-- Training of a fabric block up to CHECK (R92, R104, R106 to R109): what each command of the training machine does in the state it belongs to. -/
def Obligations.FabricTrains : Prop :=
  -- CALIBRATION_DONE: CAL goes to SIGDET, and the port shows its fabric training state.
  (∀ s b failed, b < 64 → s.get SFL_TRAIN_STATUS.STATE b = 1 →
    ∃ t, exec (.calibrationDone b failed) s = .next t ∧ t.get SFL_TRAIN_STATUS.STATE b = 2 ∧ t.get PRT_LINK_STATUS.STATE (2 * b) = 9) ∧
  -- SIGNAL_DETECT: signal on at least 4 pairs starts ADAPT at 64 Gb/s; on fewer nothing happens.
  (∀ s b pairs, b < 64 → s.inSfl b 2 = true → 4 ≤ popCount 18 pairs →
    ∃ t, exec (.signalDetect b pairs) s = .next t ∧ t.get SFL_TRAIN_STATUS.STATE b = 3 ∧ t.get SFL_TRAIN_STATUS.RATE b = 0) ∧
  (∀ s b pairs, b < 64 → popCount 18 pairs < 4 → exec (.signalDetect b pairs) s = .next s) ∧
  -- TRAIN_BLOCK_RECEIVED: in ADAPT the preset a TRAIN block asks for comes into use where it is one of the eleven, DONE is noted, and this side answers with its own block; a block that is
  -- not valid is counted and answered by nothing.
  (∀ s b k x v, b < 64 → k < 9 → s.inSfl (s.leadOf b) 3 = true → s.flag SFL_LANE_STAT.LOCK (9 * b + k) = true → (s.takeBlock (9 * b + k) x).2 = ((2, v), false) →
    v % 256 = 0x2D → v / 2 ^ 8 % 16 ≤ 10 →
    ∃ t, exec (.trainBlockReceived b k x) s = .next t ∧ (t.train (s.leadOf b)).preset = v / 2 ^ 8 % 16 ∧
      (t.train (s.leadOf b)).doneSeen = ((s.train (s.leadOf b)).doneSeen || decide (v / 2 ^ 16 % 2 = 1)) ∧
      t.out[s.out.length]? = some (Out.trainBlock (s.leadOf b) ((s.train (s.leadOf b)).askPreset % 16 + v / 2 ^ 8 % 16 * 2 ^ 4 + bit (s.train (s.leadOf b)).doneSent * 2 ^ 8))) ∧
  (∀ s b k x, b < 64 → k < 9 → s.inSfl (s.leadOf b) 3 = true → s.flag SFL_LANE_STAT.LOCK (9 * b + k) = true → blockInvalid (s.takeBlock (9 * b + k) x).2.1 = true →
    ∃ t, exec (.trainBlockReceived b k x) s = .next t ∧ t.out = s.out ∧ t.train (s.leadOf b) = s.train (s.leadOf b) ∧
      t.get SFL_LANE_STAT.SYNC_ERR (9 * b + k) = satAdd SFL_LANE_STAT.SYNC_ERR.width (s.get SFL_LANE_STAT.SYNC_ERR (9 * b + k)) 1) ∧
  -- ADAPT_DONE: past the bound, with DONE from both sides, the port enters DESKEW.
  (∀ s b, b < 64 → s.inSfl b 3 = true → (s.train b).boundPassed = true → (s.train b).doneSeen = true →
    ∃ t, exec (.adaptDone b) s = .next t ∧ t.get SFL_TRAIN_STATUS.STATE b = 4) ∧
  -- ADAPT_BOUND_EXCEEDED: with 4 logical lanes locked DONE is sent on them; with fewer the attempt fails with ADAPT_TIMEOUT.
  (∀ s b, b < 64 → s.inSfl b 3 = true → 4 ≤ (s.lockedLogical b).length →
    ∃ t, exec (.adaptBoundExceeded b) s = .next t ∧ (t.train b).boundPassed = true ∧ (t.train b).doneSent = true) ∧
  (∀ s b, b < 64 → s.inSfl b 3 = true → (s.lockedLogical b).length < 4 →
    ∃ t, exec (.adaptBoundExceeded b) s = .next t ∧ t.get SFL_TRAIN_STATUS.FAIL b = 1 ∧ (t.train b).backoff = true ∧
      t.get SFL_TRAIN_STATUS.TRAIN_CNT b = satAdd 16 (s.get SFL_TRAIN_STATUS.TRAIN_CNT b) 1) ∧
  -- ADAPT_PARTNER_DONE_TIMEOUT: without the partner's DONE the attempt fails with ADAPT_TIMEOUT.
  (∀ s b, b < 64 → s.inSfl b 3 = true → (s.train b).boundPassed = true → (s.train b).doneSeen = false →
    ∃ t, exec (.adaptPartnerDoneTimeout b) s = .next t ∧ t.get SFL_TRAIN_STATUS.FAIL b = 1 ∧ (t.train b).backoff = true) ∧
  -- DESKEW_RELEASE: with the lanes that completed ADAPT locked and at one sequence, training goes on to CAPX, or to CHECK after CAPX; a lane over 1,000 units leaves, and fewer than 4 left
  -- is SKEW_EXCESS; with one of those lanes not locked nothing happens.
  (∀ s b, b < 64 → s.inSfl b 4 = true → (s.train b).adapted.all (fun c => s.flag SFL_LANE_STAT.LOCK c) = true →
    (s.train b).adapted.all (fun c => decide ((s.sflLane (c / 9) (c % 9)).nextSeq = (s.sflLane ((s.train b).adapted.headD c / 9) ((s.train b).adapted.headD c % 9)).nextSeq)) = true →
    ∃ t, exec (.deskewRelease b []) s = .next t ∧ t.get SFL_TRAIN_STATUS.STATE b = (if (s.train b).capxDone then 6 else 5) ∧
      (t.train b).laneOk = laneMask ((s.lockedLogical b).filter fun l => !(s.train b).capxDone || bitOf (s.train b).agreed l)) ∧
  (∀ s b skews, b < 64 → s.inSfl b 4 = true → (s.train b).adapted.all (fun c => s.flag SFL_LANE_STAT.LOCK c) = true →
    (s.train b).adapted.all (fun c => decide ((s.sflLane (c / 9) (c % 9)).nextSeq = (s.sflLane ((s.train b).adapted.headD c / 9) ((s.train b).adapted.headD c % 9)).nextSeq)) = true →
    (s.train b).adapted.any (fun c => decide (1000 < skews.getD (c - 9 * b) 0)) = true →
    (s.lockedLogical b).all (fun l => (s.rxCircuit b l).any fun c => (s.train b).adapted.contains c) = true →
    ((s.lockedLogical b).any fun l => (s.rxCircuit b l).any fun c => decide (1000 < skews.getD (c - 9 * b) 0)) = true →
    ((s.lockedLogical b).filter fun l => (s.rxCircuit b l).all fun c => decide (skews.getD (c - 9 * b) 0 ≤ 1000)).length < 4 →
    ∃ t, exec (.deskewRelease b skews) s = .next t ∧ t.get SFL_TRAIN_STATUS.FAIL b = 2 ∧ (t.train b).backoff = true) ∧
  (∀ s b skews c, b < 64 → c ∈ (s.train b).adapted → s.flag SFL_LANE_STAT.LOCK c = false → exec (.deskewRelease b skews) s = .next s) ∧
  -- CAP_BLOCK_RECEIVED: the partner's content is kept without its ACK bit, and a change of content starts the count of identical blocks again.
  (∀ s b bits, b < 64 → s.inSfl b 5 = true → withBit (bits % 2 ^ 56) 38 false ≠ (s.train b).cap →
    ∃ t, exec (.capBlockReceived b bits) s = .next t ∧ (t.train b).cap = withBit (bits % 2 ^ 56) 38 false ∧ (t.train b).capSame = 1 ∧
      (t.train b).capAcked = bitOf bits 38 ∧ Out.capBlock b (s.ownCap b false) ∈ t.out) ∧
  -- CAPX_COMPLETE: with no common revision the attempt fails with REV_MISMATCH.
  (∀ s b n, b < 64 → s.inSfl b 5 = true → (s.train b).capAcked = true → 3 ≤ (s.train b).capSame → 16 ≤ (s.train b).capSent + min n 16 →
    min (s.get SFL_PHY_CFG.REV_MAX b) ((s.train b).cap / 256 % 256) < max (s.get SFL_PHY_CFG.REV_MIN b) ((s.train b).cap % 256) →
    ∃ t, exec (.capxComplete b n) s = .next t ∧ t.get SFL_TRAIN_STATUS.FAIL b = 3 ∧ (t.train b).backoff = true) ∧
  -- CAPX_COMPLETE: at 64 Gb/s, with a spare already given or not needed, it goes on to CHECK with the common revision.
  (∀ s b n, b < 64 → s.inSfl b 5 = true → (s.train b).capAcked = true → 3 ≤ (s.train b).capSame → 16 ≤ (s.train b).capSent + min n 16 →
    max (s.get SFL_PHY_CFG.REV_MIN b) ((s.train b).cap % 256) ≤ min (s.get SFL_PHY_CFG.REV_MAX b) ((s.train b).cap / 256 % 256) →
    (s.train b).cap / 2 ^ 16 % 256 ≠ s.get MGT_CHIP_INFO.CHIP_ID 0 → (s.train b).subst ≠ [] → s.get SFL_PHY_CFG.RATE128 b = 0 →
    4 ≤ popCount 8 (Nat.land (s.train b).laneOk ((s.train b).cap / 2 ^ 39)) →
    ∃ t, exec (.capxComplete b n) s = .next t ∧ t.get SFL_TRAIN_STATUS.STATE b = 6 ∧ (t.train b).capxDone = true ∧
      t.get SFL_TRAIN_STATUS.REV b = min (s.get SFL_PHY_CFG.REV_MAX b) ((s.train b).cap / 256 % 256)) ∧
  -- CAPX_TIMEOUT: the attempt fails with CAP_TIMEOUT.
  (∀ s b, b < 64 → s.inSfl b 5 = true →
    ∃ t, exec (.capxTimeout b) s = .next t ∧ t.get SFL_TRAIN_STATUS.FAIL b = 7 ∧ (t.train b).backoff = true) ∧
  -- TRAINING_FAIL_BACKOFF_END: after the wait the port is in SIGDET and no longer waits.
  (∀ s b, b < 64 → (s.train b).backoff = true →
    ∃ t, exec (.trainingFailBackoffEnd b) s = .next t ∧ t.get SFL_TRAIN_STATUS.STATE b = 2 ∧ (t.train b).backoff = false) ∧
  -- CHECK_UNIT_RECEIVED: the sixteenth clean unit makes the link ACTIVE with DL_UP; a bad one is a false lock and returns to ADAPT.
  (∀ s b blocks unit, b < 64 → s.inSfl b 6 = true → (s.train b).checkNext = 15 → (s.takeUnit b blocks).2 = (unit, false) → unitOk 15 unit = true → unitField unit 1 0 = 2 →
    ∃ t, exec (.checkUnitReceived b blocks) s = .next t ∧ t.get SFL_TRAIN_STATUS.STATE b = 7 ∧ t.get PRT_LINK_STATUS.DL_UP (2 * b) = 1) ∧
  (∀ s b blocks, b < 64 → s.inSfl b 6 = true → (s.train b).falseRun < 7 → (s.takeUnit b blocks).2.2 = true →
    ∃ t, exec (.checkUnitReceived b blocks) s = .next t ∧ t.get SFL_TRAIN_STATUS.STATE b = 3 ∧
      t.get SFL_TRAIN_STATUS.FALSE_LOCK b = satAdd 16 (s.get SFL_TRAIN_STATUS.FALSE_LOCK b) 1 ∧ (t.train b).falseRun = (s.train b).falseRun + 1) ∧
  -- SFL_RETRAIN_WRITE: from any state but DOWN and ACTIVE the port goes back to SIGDET; leaving ACTIVE declares the link down.
  (∀ s b, b < 64 → s.isFabric b = true → s.get SFL_TRAIN_STATUS.STATE b ≠ 0 → s.get SFL_TRAIN_STATUS.STATE b ≠ 7 →
    ∃ t, exec (.sflRetrainWrite b) s = .next t ∧ t.get SFL_TRAIN_STATUS.STATE b = 2) ∧
  (∀ s b, b < 64 → s.isFabric b = true → s.get SFL_TRAIN_STATUS.STATE b = 7 →
    ∃ t, exec (.sflRetrainWrite b) s = .next t ∧ t.get SFL_TRAIN_STATUS.STATE b = 2 ∧
      t.get SFL_LINK_CNT2.DOWN_CNT b = satAdd SFL_LINK_CNT2.DOWN_CNT.width (s.get SFL_LINK_CNT2.DOWN_CNT b) 1)

/-- A fabric link declared down (R109, R118, R131): each of the commands that do it leaves training at SIGDET, no lanes active, the fall counted and DL_UP at 0. -/
def Obligations.FabricLinkFalls : Prop :=
  -- PARTNER_RETRAIN_DETECT: four TRAIN or CAP blocks in a row on an ACTIVE link.
  (∀ s b n, b < 64 → s.get SFL_TRAIN_STATUS.STATE b = 7 → 4 ≤ n →
    ∃ t, exec (.partnerRetrainDetect b n) s = .next t ∧ t.get SFL_TRAIN_STATUS.STATE b = 2 ∧ t.get SFL_TRAIN_STATUS.LANES b = 0 ∧
      t.get SFL_LINK_CNT2.DOWN_CNT b = satAdd SFL_LINK_CNT2.DOWN_CNT.width (s.get SFL_LINK_CNT2.DOWN_CNT b) 1 ∧
      t.get PRT_LINK_STATUS.DL_UP (2 * b) = 0 ∧ (t.link b).buf = []) ∧
  (∀ s b n, b < 64 → n < 4 → exec (.partnerRetrainDetect b n) s = .next s) ∧
  -- SFL_LINK_DOWN
  (∀ s b, b < 64 → s.get SFL_TRAIN_STATUS.STATE b = 7 →
    ∃ t, exec (.sflLinkDown b) s = .next t ∧ t.get SFL_TRAIN_STATUS.STATE b = 2 ∧ t.get SFL_TRAIN_STATUS.LANES b = 0 ∧
      t.get SFL_LINK_CNT2.DOWN_CNT b = satAdd SFL_LINK_CNT2.DOWN_CNT.width (s.get SFL_LINK_CNT2.DOWN_CNT b) 1 ∧
      t.get PRT_LINK_STATUS.DL_UP (2 * b) = 0 ∧ (t.link b).buf = []) ∧
  -- DOWN_TMO_EXPIRY
  (∀ s b, b < 64 → s.get SFL_TRAIN_STATUS.STATE b = 7 →
    ∃ t, exec (.downTmoExpiry b) s = .next t ∧ t.get SFL_TRAIN_STATUS.STATE b = 2 ∧ t.get SFL_TRAIN_STATUS.LANES b = 0 ∧
      t.get SFL_LINK_CNT2.DOWN_CNT b = satAdd SFL_LINK_CNT2.DOWN_CNT.width (s.get SFL_LINK_CNT2.DOWN_CNT b) 1 ∧
      t.get PRT_LINK_STATUS.DL_UP (2 * b) = 0) ∧
  -- REPLAY_MAX_EXCEEDED: more replays in a row than REPLAY_MAX; not before.
  (∀ s b, b < 64 → s.get SFL_TRAIN_STATUS.STATE b = 7 → s.get SFL_LINK_CTL.REPLAY_MAX b < (s.link b).replayCnt →
    ∃ t, exec (.replayMaxExceeded b) s = .next t ∧ t.get SFL_TRAIN_STATUS.STATE b = 2 ∧
      t.get SFL_LINK_CNT2.LOST b = satAdd SFL_LINK_CNT2.LOST.width (s.get SFL_LINK_CNT2.LOST b) (s.link b).buf.length) ∧
  (∀ s b, b < 64 → (s.link b).replayCnt ≤ s.get SFL_LINK_CTL.REPLAY_MAX b → exec (.replayMaxExceeded b) s = .next s)

/-- The fabric link layer's units (R112 to R126): what an ACTIVE link sends, accepts, acknowledges and replays. -/
def Obligations.UnitsAcknowledged : Prop :=
  -- DATA_UNIT_SEND: with no packet waiting a NULL unit is sent in the slot, under the next sequence number, with the AN field and the XOFF bits of this side.
  (∀ s b, b < 64 → s.sflUp b = true → (s.link b).timingSlot = false → s.get SFL_LINK_STAT.TX_STATE b ≠ 1 → s.stalled b = false → (s.link b).waiting = [] →
    ∃ t, exec (.dataUnitSend b) s = .next t ∧ (t.link b).slot = (s.link b).slot + 1 ∧ (t.link b).nextSeq = (s.link b).nextSeq ∧
      t.out[s.out.length]? = some (Out.flowUnit b (sealUnit (s.link b).nextSeq (padTo 252 (toBytes 4 (1 + (s.link b).anBits + s.xoffBits b)))))) ∧
  -- DATA_UNIT_SEND: a waiting packet of VC0 is sent in the clear with the next sequence number and kept for replay.
  (∀ s b w, b < 64 → s.sflUp b = true → (s.link b).timingSlot = false → s.get SFL_LINK_STAT.TX_STATE b ≠ 1 → s.stalled b = false →
    (s.link b).waiting = [w] → w.vc = 0 → w.bytes.length ≤ 248 → s.flag SFL_ENC_STATUS.ACTIVE b = false → s.flag SFL_VC_STAT.XOFF_RX (8 * b) = false →
    ∃ t, exec (.dataUnitSend b) s = .next t ∧ (t.link b).slot = (s.link b).slot + 1 ∧ (t.link b).nextSeq = ((s.link b).nextSeq + 1) % 65536 ∧
      (t.link b).waiting = [] ∧ (t.link b).buf.length = (s.link b).buf.length + 1 ∧
      t.out[s.out.length]? = some (Out.flowUnit b (sealUnit (s.link b).nextSeq
        (toBytes 4 ((s.link b).anBits + bit w.mark * 2 ^ 20 + s.xoffBits b + bit w.begun * 2 ^ 29) ++ padTo 248 w.bytes)))) ∧
  -- DATA_UNIT_SEND: with the replay buffer full or the key spent the sender is in STALL and keeps what it has.
  (∀ s b, b < 64 → s.sflUp b = true → (s.link b).timingSlot = false → s.get SFL_LINK_STAT.TX_STATE b ≠ 1 → s.stalled b = true →
    ∃ t, exec (.dataUnitSend b) s = .next t ∧ t.get SFL_LINK_STAT.TX_STATE b = 2 ∧ (t.link b).buf = (s.link b).buf ∧ (t.link b).waiting = (s.link b).waiting) ∧
  -- FLOW_UNIT_RECEIVED: a DATA unit with the expected sequence and space in its VC is accepted; before the chip is a member, of VC0 only.
  (∀ s b blocks unit, b < 64 → s.sflUp b = true → (s.takeUnit b blocks).2 = (unit, false) → (s.link b).rxSlot % 4097 ≠ 4096 → (s.link b).window + 1 ≠ 16777216 →
    s.flag SFL_ENC_STATUS.ACTIVE b = false → unitOk (s.link b).expSeq unit = true → unitField unit 1 0 = 0 → unitField unit 7 6 = 0 →
    s.get SFL_VC_STAT.FREE (8 * b + unitField unit 4 2) ≠ 0 → s.joined = true ∨ unitField unit 4 2 = 0 →
    ∃ t, exec (.flowUnitReceived b blocks) s = .next t ∧ (t.link b).expSeq = ((s.link b).expSeq + 1) % 65536 ∧
      t.get SFL_VC_STAT.FREE (8 * b + unitField unit 4 2) = s.get SFL_VC_STAT.FREE (8 * b + unitField unit 4 2) - 1 ∧
      t.get SFL_LINK_STAT.RX_DISCARD b = 0 ∧ (t.link b).rxSlot = (s.link b).rxSlot + 1 ∧
      (t.link b).accepted = (s.link b).accepted ++ [AcceptedUnit.mk (unitField unit 4 2) (decide (unitField unit 29 29 = 1)) (decide (unitField unit 20 20 = 1)) ((unit.drop 4).take 248)]) ∧
  -- FLOW_UNIT_RECEIVED: one that is bad is discarded and a NAK is due; the expected sequence stays. In a TIMING slot it is counted and never answered.
  (∀ s b blocks, b < 64 → s.sflUp b = true → (s.takeUnit b blocks).2.2 = true → (s.link b).rxSlot % 4097 ≠ 4096 → (s.link b).window + 1 ≠ 16777216 →
    s.flag SFL_LINK_STAT.RX_DISCARD b = false →
    ∃ t, exec (.flowUnitReceived b blocks) s = .next t ∧ t.get SFL_LINK_STAT.RX_DISCARD b = 1 ∧ (t.link b).nakDue = true ∧
      (t.link b).expSeq = (s.link b).expSeq ∧ t.get SFL_LINK_CNT.DISCARD b = satAdd SFL_LINK_CNT.DISCARD.width (s.get SFL_LINK_CNT.DISCARD b) 1) ∧
  (∀ s b blocks, b < 64 → s.sflUp b = true → (s.takeUnit b blocks).2.2 = true → (s.link b).rxSlot % 4097 = 4096 → (s.link b).window + 1 ≠ 16777216 →
    ∃ t, exec (.flowUnitReceived b blocks) s = .next t ∧ t.get SFL_LINK_STAT.RX_DISCARD b = s.get SFL_LINK_STAT.RX_DISCARD b ∧ (t.link b).nakDue = (s.link b).nakDue ∧
      (t.link b).expSeq = (s.link b).expSeq ∧ t.get SFL_LINK_CNT2.TIMING_BAD b = satAdd SFL_LINK_CNT2.TIMING_BAD.width (s.get SFL_LINK_CNT2.TIMING_BAD b) 1) ∧
  -- ACK_RECEIVED: the stored units up to and with the one named are freed.
  (∀ s b aseq, b < 64 → s.sflUp b = true →
    ∃ t, exec (.ackReceived b aseq) s = .next t ∧ (t.link b).buf = (s.link b).buf.drop ((s.link b).ackPoint aseq)) ∧
  -- NAK_RECEIVED: the units named are freed and a replay of the others starts.
  (∀ s b aseq, b < 64 → s.sflUp b = true →
    ∃ t, exec (.nakReceived b aseq) s = .next t ∧ t.get SFL_LINK_STAT.TX_STATE b = 1 ∧ (t.link b).replayAt = some 0 ∧
      (t.link b).buf = (s.link b).buf.drop ((s.link b).ackPoint aseq)) ∧
  -- REPLAY_TIMEOUT: with units outstanding a replay starts and is counted.
  (∀ s b, b < 64 → s.sflUp b = true → s.get SFL_LINK_STAT.TX_STATE b ≠ 1 → (s.link b).buf ≠ [] →
    ∃ t, exec (.replayTimeout b) s = .next t ∧ t.get SFL_LINK_STAT.TX_STATE b = 1 ∧ (t.link b).replayAt = some 0 ∧
      (t.link b).replayCnt = (s.link b).replayCnt + 1 ∧ t.get SFL_LINK_CNT.REPLAY b = satAdd SFL_LINK_CNT.REPLAY.width (s.get SFL_LINK_CNT.REPLAY b) 1) ∧
  -- REPLAY_UNIT_RESEND: the stored unit goes out unchanged with its own sequence number.
  (∀ s b i u, b < 64 → s.sflUp b = true → s.get SFL_LINK_STAT.TX_STATE b = 1 → (s.link b).timingSlot = false → (s.link b).replayAt = some i → (s.link b).buf[i]? = some u →
    i + 1 < (s.link b).buf.length →
    ∃ t, exec (.replayUnitResend b) s = .next t ∧ t.out[s.out.length]? = some (Out.flowUnit b (sealUnit u.seq u.bytes)) ∧ (t.link b).replayAt = some (i + 1) ∧
      (t.link b).buf = (s.link b).buf) ∧
  -- ACK_TIMER: an ACK is due where a unit has been accepted since the last.
  (∀ s b, b < 64 → s.sflUp b = true → 0 < (s.link b).sinceAck → ∃ t, exec (.ackTimer b) s = .next t ∧ (t.link b).ackDue = true) ∧
  -- NAK_RESEND_TIMER: in DISCARD the NAK is due again.
  (∀ s b, b < 64 → s.sflUp b = true → s.flag SFL_LINK_STAT.RX_DISCARD b = true →
    ∃ t, exec (.nakResendTimer b) s = .next t ∧ (t.link b).nakDue = true ∧ t.get SFL_LINK_CNT.NAK_SENT b = satAdd SFL_LINK_CNT.NAK_SENT.width (s.get SFL_LINK_CNT.NAK_SENT b) 1) ∧
  -- XOFF_UPDATE: XOFF is asserted at THR and released at THR + 32.
  (∀ s b v, b < 64 → v < 8 → s.sflUp b = true → s.get SFL_VC_STAT.FREE (8 * b + v) ≤ s.get SFL_VC_STAT.THR (8 * b + v) →
    ∃ t, exec (.xoffUpdate b v) s = .next t ∧ t.get SFL_VC_STAT.XOFF_TX (8 * b + v) = 1) ∧
  (∀ s b v, b < 64 → v < 8 → s.sflUp b = true → s.get SFL_VC_STAT.THR (8 * b + v) + 32 ≤ s.get SFL_VC_STAT.FREE (8 * b + v) →
    ∃ t, exec (.xoffUpdate b v) s = .next t ∧ t.get SFL_VC_STAT.XOFF_TX (8 * b + v) = 0) ∧
  -- TIMING_SLOT: the slot with number 4,096 modulo 4,097 carries one TIMING unit.
  (∀ s b, b < 64 → s.sflUp b = true → (s.link b).slot % 4097 = 4096 →
    ∃ t, exec (.timingSlot b) s = .next t ∧ (t.link b).slot = (s.link b).slot + 1 ∧
      t.out[s.out.length]? = some (Out.flowUnit b (sealUnit 0xFFFF (padTo 252 (toBytes 4 (3 + (s.link b).anBits + s.xoffBits b) ++ toBytes 12 s.time ++
        toBytes 12 (s.link b).echoTx ++ toBytes 12 (s.link b).echoRx ++ s.disciplineBytes)))))

/-- Lane changes in service (R127 to R130): asked for, refused, acknowledged and switched. -/
def Obligations.LaneSetsChange : Prop :=
  -- LANE_SET: a request not yet answered is repeated.
  (∀ s b bits copies c, b < 64 → s.sflUp b = true → (s.link b).asked = some c →
    exec (.laneSet b false bits copies) s = .next (s.sendCommand b (laneSetBits 1 c 0))) ∧
  -- LANE_SET: the partner's acceptable request is taken, and BUSY is shown until it completes.
  (∀ s b bits copies, b < 64 → s.takesCommand b 1 bits copies = true → (s.link b).asked = none → (s.link b).change = none → s.laneRefusal b (laneChangeOf bits) = none →
    ∃ t, exec (.laneSet b true bits copies) s = .next t ∧ (t.link b).change = some (laneChangeOf bits) ∧ (t.link b).epoch = bits / 16 % 16 ∧ t.get SFL_LINK_STAT.LANE_BUSY b = 1) ∧
  -- LANE_SET: a set of fewer than 4 lanes is answered with LANE_NAK and reason 3.
  (∀ s b bits copies, b < 64 → s.takesCommand b 1 bits copies = true → (s.link b).asked = none → (s.link b).change = none → (maskLanes (laneChangeOf bits).mask).length < 4 →
    exec (.laneSet b true bits copies) s = .next ((s.skipRow b).sendCommand b (laneSetBits 3 (laneChangeOf bits) 3))) ∧
  -- LANE_ACK: the acknowledged change is under way.
  (∀ s b bits copies c, b < 64 → s.takesCommand b 2 bits copies = true → (s.link b).asked = some c → (s.link b).change = none → c.epoch = bits / 16 % 16 →
    ∃ t, exec (.laneAck b bits copies) s = .next t ∧ (t.link b).change = some c ∧ (t.link b).asked = none) ∧
  -- LANE_NAK: the request is withdrawn and LANE_ERR shows the reason.
  (∀ s b bits copies c, b < 64 → s.takesCommand b 3 bits copies = true → (s.link b).asked = some c → c.epoch = bits / 16 % 16 →
    ∃ t, exec (.laneNak b bits copies) s = .next t ∧ t.get SFL_LINK_STAT.LANE_ERR b = bits / 2 ^ 30 % 8 ∧ (t.link b).asked = none) ∧
  -- SWITCH received or sent: one direction's switch is noted; with the second the set, the epoch and the width are the new ones.
  (∀ s b c bits copies, b < 64 → s.takesCommand b 4 bits copies = true → (s.link b).change = some c → c.epoch = bits / 16 % 16 → (s.link b).rxSwitched = false → (s.link b).txSwitched = false →
    ∃ t, exec (.switchLanes b true bits copies) s = .next t ∧ (t.link b).rxSwitched = true ∧ (t.link b).rxMask = c.mask ∧ (t.link b).change = some c ∧
      t.get SFL_LINK_STAT.ACTIVE_MASK b = s.get SFL_LINK_STAT.ACTIVE_MASK b) ∧
  (∀ s b c bits copies, b < 64 → s.sflUp b = true → (s.link b).timingSlot = false → (s.link b).change = some c → (s.link b).rxSwitched = false → (s.link b).txSwitched = false →
    ∃ t, exec (.switchLanes b false bits copies) s = .next t ∧ (t.link b).txSwitched = true ∧ (t.link b).txMask = c.mask ∧ (t.link b).txStripe = 0 ∧ (t.link b).change = some c ∧
      t.out[s.out.length]? = some (Out.linkCommand b (laneSetBits 4 c 0))) ∧
  (∀ s b c bits copies, b < 64 → s.takesCommand b 4 bits copies = true → (s.link b).change = some c → c.epoch = bits / 16 % 16 → (s.link b).rxSwitched = false → (s.link b).txSwitched = true →
    (s.link b).again = none → (s.link b).asked = none → c.subst = 31 → c.mask < 2 ^ 16 → c.epoch < 16 →
    ∃ t, exec (.switchLanes b true bits copies) s = .next t ∧ t.get SFL_LINK_STAT.ACTIVE_MASK b = c.mask ∧ t.get SFL_LINK_STAT.EPOCH b = c.epoch ∧
      t.get SFL_LINK_STAT.LANE_BUSY b = 0 ∧ t.get SFL_TRAIN_STATUS.LANES b = popCount 16 c.mask ∧ t.get PRT_LINK_STATUS.WIDTH (2 * b) = popCount 16 c.mask ∧ (t.link b).change = none) ∧
  -- ACTIVE_LANE_LOCK_LOSS: with 4 other active lanes locked this side asks for the set without the lane, under the next epoch.
  (∀ s b lane, b < 64 → lane < 16 → s.sflUp b = true → (s.link b).change = none → bitOf (s.get SFL_LINK_STAT.ACTIVE_MASK b) lane = true →
    4 ≤ ((s.lockedLogical b).filter fun l => l ≠ lane && bitOf (s.get SFL_LINK_STAT.ACTIVE_MASK b) l).length →
    ∃ t, exec (.activeLaneLockLoss b lane) s = .next t ∧ t.get SFL_LINK_STAT.LANE_BUSY b = 1 ∧
      (t.link b).asked = some (LaneChange.mk (((s.link b).epoch + 1) % 16) (withBit (s.get SFL_LINK_STAT.ACTIVE_MASK b) lane false) 31 0)) ∧
  -- LANE_REQ_WRITE: this side asks for LANE_MASK with the next epoch.
  (∀ s b, b < 64 → s.sflUp b = true → (s.link b).change = none →
    ∃ t, exec (.laneReqWrite b) s = .next t ∧ t.get SFL_LINK_STAT.LANE_BUSY b = 1 ∧
      (t.link b).asked = some (LaneChange.mk (((s.link b).epoch + 1) % 16) (s.get SFL_LINK_CTL.LANE_MASK b) 31 0))

/-- Keys of a fabric link (R133 to R135): commit, slot choice, KEYSYNC and the limits of a count. -/
def Obligations.LinkKeysKept : Prop :=
  -- KEYSYNC: PEER_RXV is taken from a command with enough copies; the receive count rises where it is not above, and is never lowered.
  (∀ s b bits copies, b < 64 → s.takesCommand b 5 bits copies = true →
    ∃ t, exec (.keysync b bits copies) s = .next t ∧ t.get SFL_ENC_STATUS.PEER_RXV b = bits / 2 ^ 6 % 4) ∧
  (∀ s b bits copies, b < 64 → s.takesCommand b 5 bits copies = true → bits / 2 ^ 5 % 2 = 1 → (s.link b).rxKeys.length = 2 →
    ∃ t, exec (.keysync b bits copies) s = .next t ∧
      ((t.link b).rxKeys.getD (bits / 16 % 2) KeySlot.empty).count = max ((s.link b).rxKeys.getD (bits / 16 % 2) KeySlot.empty).count (bits / 2 ^ 8 % 2 ^ 40 * 256)) ∧
  (∀ s b bits copies, b < 64 → s.sflUp b = true → s.takesCommand b 5 bits copies = false → exec (.keysync b bits copies) s = .next (s.skipRow b)) ∧
  -- SFL_KEY_COMMIT: a receive key: the slot is valid, KEY_ERR reads 0 and SFL_KEY_DATA is cleared.
  (∀ s b v, b < 64 → s.isFabric b = true → v.field SFL_KEY_CMD.COMMIT.hi SFL_KEY_CMD.COMMIT.lo = 1 → v.field SFL_KEY_CMD.DIR.hi SFL_KEY_CMD.DIR.lo = 1 → (s.link b).encSeen = false →
    ∃ t, exec (.sflKeyCommit b v) s = .next t ∧ t.get SFL_ENC_STATUS.KEY_ERR b = 0 ∧
      bitOf (t.get SFL_ENC_STATUS.RX_VALID b) (v.field SFL_KEY_CMD.SLOT.hi SFL_KEY_CMD.SLOT.lo) = true ∧ ∀ j ∈ List.range 4, t.reg .SFL_KEY_DATA (4 * b + j) = 0) ∧
  -- SFL_KEY_COMMIT: refused as BUSY for the transmit slot in use.
  (∀ s b v, b < 64 → s.isFabric b = true → v.field SFL_KEY_CMD.COMMIT.hi SFL_KEY_CMD.COMMIT.lo = 1 → v.field SFL_KEY_CMD.DIR.hi SFL_KEY_CMD.DIR.lo = 0 →
    v.field SFL_KEY_CMD.SLOT.hi SFL_KEY_CMD.SLOT.lo = s.get SFL_ENC_CTL.TX_SLOT b → ((s.link b).txKeys.getD (s.get SFL_ENC_CTL.TX_SLOT b) KeySlot.empty).valid = true →
    ∃ t, exec (.sflKeyCommit b v) s = .next t ∧ t.get SFL_ENC_STATUS.KEY_ERR b = 1 ∧ t.link b = s.link b) ∧
  -- TX_SLOT_WRITE: a slot with a key is taken; one without leaves TX_SLOT and shows NOT_VALID.
  (∀ s b i, b < 64 → i < 2 → s.isFabric b = true → ((s.link b).txKeys.getD i KeySlot.empty).valid = true →
    ∃ t, exec (.txSlotWrite b i) s = .next t ∧ t.get SFL_ENC_CTL.TX_SLOT b = i) ∧
  (∀ s b i, b < 64 → i < 2 → s.isFabric b = true → ((s.link b).txKeys.getD i KeySlot.empty).valid = false →
    ∃ t, exec (.txSlotWrite b i) s = .next t ∧ t.get SFL_ENC_STATUS.KEY_ERR b = 2 ∧ t.get SFL_ENC_CTL.TX_SLOT b = s.get SFL_ENC_CTL.TX_SLOT b) ∧
  -- KEY_COUNT_LIMIT: at 2⁴⁰ the event is raised; a spent slot in use holds the sender in STALL.
  (∀ s b i, b < 64 → i < 2 → ((s.link b).txKeys.getD i KeySlot.empty).count = 2 ^ 40 → exec (.keyCountLimit b i) s = .next (s.notice (353 + 2 * b) 1 (i + 1024))) ∧
  (∀ s b i, b < 64 → i < 2 → s.sflUp b = true → i = s.get SFL_ENC_CTL.TX_SLOT b → s.keySpent b = true → s.get SFL_LINK_STAT.TX_STATE b ≠ 1 →
    ∃ t, exec (.keyCountLimit b i) s = .next t ∧ t.get SFL_LINK_STAT.TX_STATE b = 2)

/-- The discipline of the fabric time counter (R126, R400 to R407): every command completes, with what it leaves of the servo, the references and the counter. -/
def Obligations.TimeIsDisciplined : Prop :=
  -- TIMING_UNIT_RECEIVED: a unit with a bad block or a bad CRC is only counted; a good one gives the echo times and what the partner says of time.
  (∀ s b blocks arr unit bad, b < 64 → s.sflUp b = true → (s.takeUnit b blocks).2 = (unit, bad) → bad = true ∨ unitOk 0xFFFF unit = false →
    ∃ t, exec (.timingUnitReceived b blocks arr) s = .next t ∧ t.get SFL_LINK_CNT2.TIMING_BAD b = satAdd SFL_LINK_CNT2.TIMING_BAD.width (s.get SFL_LINK_CNT2.TIMING_BAD b) 1 ∧
      (t.link b).echoTx = (s.link b).echoTx ∧ (t.link b).nakDue = (s.link b).nakDue ∧ t.timPeer b = s.timPeer b) ∧
  (∀ s b blocks unit arr, b < 64 → s.sflUp b = true → (s.takeUnit b blocks).2 = (unit, false) → unitOk 0xFFFF unit = true → unitField unit 1 0 = 3 →
    ∃ t, exec (.timingUnitReceived b blocks arr) s = .next t ∧ (t.link b).echoTx = unitTime unit 4 ∧ (t.link b).echoRx = arr ∧
      (t.timPeer b).map TimePeer.heardAt = some s.clk ∧ (t.timPeer b).map TimePeer.hops = some (ofBytes ((unit.drop 40).take 1))) ∧
  -- PPS_OUT_EDGE: outside RESET the pulse lasts PPS_W_MS.
  (∀ s, s.phase ≠ .reset → exec .ppsOutEdge s = .next { s with ppsUntil := s.clk + s.get TIM_CFG.PPS_W_MS 0 * 1000000 }) ∧
  -- SERVO_UPDATE: a mean that is due is used up, and TIM_OFFSET shows it as a new result; the first update since ACQUIRE leaves no slew.
  (∀ s theta, s.servo.due = some theta →
    ∃ t, exec .servoUpdate s = .next t ∧ t.servo.due = none ∧ t.get TIM_OFFSET.THETA 0 = bits32 (theta.tdiv (2 ^ 12)) ∧
      t.get TIM_OFFSET.SEQ 0 = (s.get TIM_OFFSET.SEQ 0 + 1) % 256 ∧ t.get TIM_OFFSET.VALID 0 = 1 ∧ (s.servo.first = true → t.get TIM_FREQ.SLEW 0 = 0)) ∧
  (∀ s, s.servo.due = none → exec .servoUpdate s = .next s) ∧
  -- SERVO_UPDATE: the eighth update in a row below 20 ns locks the servo.
  (∀ s theta, s.servo.due = some theta → s.servoState = 1 → 7 ≤ s.servo.good → |theta| < 20 * 2 ^ 16 → ∃ t, exec .servoUpdate s = .next t ∧ t.get TIM_STAT.STATE 0 = 2) ∧
  -- PTP_SYNC: counted; from the selected master, on a root with SRC = PTP, its offset is the next update.
  (∀ s d x t1 t3 t4, s.ptpBest = none → exec (.ptpSync d x t1 t3 t4) s = .next (s.tallyChip 4)) ∧
  (∀ s m t1 t3 t4, s.ptpBest = some m → m.domain = s.get TIM_CFG.PTP_DOMAIN 0 → s.flag TIM_STAT.ROOT 0 = true → s.get TIM_CFG.SRC 0 = 1 →
    ∃ t, exec (.ptpSync m.domain m.sender t1 t3 t4) s = .next t ∧ t.servo.due = some (ptpOffset t1 (s.time / 2 ^ 12 * 2 ^ 12) t3 t4) ∧ t.ptpAt = some s.clk) ∧
  -- PPS_IN_EDGE: PPS_OK is set; on a root whose SRC uses it the offset is the nanosecond field, taken to the nearest second.
  (∀ s, ∃ t, exec .ppsInEdge s = .next t ∧ t.get TIM_STAT.PPS_OK 0 = 1 ∧
      (s.flag TIM_STAT.ROOT 0 = true → 2 ≤ s.get TIM_CFG.SRC 0 →
        t.servo.due = some ((if s.tim.ns < 500000000 then (s.tim.ns : Int) else (s.tim.ns : Int) - 1000000000) * 2 ^ 16))) ∧
  -- TIME_REFERENCE_LOSS: a root that ran against the lost source goes to HOLDOVER.
  (∀ s, s.flag TIM_STAT.ROOT 0 = true → s.get TIM_CFG.SRC 0 = 1 →
    ∃ t, exec (.timeReferenceLoss 0) s = .next t ∧ t.ptpAt = none ∧ t.get TIM_STAT.STATE 0 = 3) ∧
  (∀ s, s.flag TIM_STAT.ROOT 0 = true → 2 ≤ s.get TIM_CFG.SRC 0 →
    ∃ t, exec (.timeReferenceLoss 1) s = .next t ∧ t.get TIM_STAT.PPS_OK 0 = 0 ∧ t.get TIM_STAT.STATE 0 = 3) ∧
  -- TIM_SET: on the acting manager the counter takes TIM_SET, as a counted step; elsewhere the write is recorded as refused.
  (∀ s, s.actsAsRoot = true → s.timSetValue.ns < 1000000000 →
    ∃ t, exec .timSet s = .next t ∧ t.tim = s.timSetValue ∧ t.get TIM_STAT.STEPS 0 = satAdd 16 (s.get TIM_STAT.STEPS 0) 1) ∧
  (∀ s, s.actsAsRoot = false → exec .timSet s = .next (s.refuseWrite .TIM_CMD 0)) ∧
  -- TIM_ADJ: the signed number of nanoseconds is added; a step below zero is refused.
  (∀ s adj, s.actsAsRoot = true → 0 ≤ s.tim.total + signed32 (adj % 2 ^ 32) * 2 ^ 48 →
    ∃ t, exec (.timAdj adj) s = .next t ∧ t.tim = FabTime.ofTotal (s.tim.total + signed32 (adj % 2 ^ 32) * 2 ^ 48) ∧
      t.get TIM_STAT.STEPS 0 = satAdd 16 (s.get TIM_STAT.STEPS 0) 1) ∧
  (∀ s adj, s.tim.total + signed32 (adj % 2 ^ 32) * 2 ^ 48 < 0 → exec (.timAdj adj) s = .next (s.refuseWrite .TIM_CMD 0)) ∧
  -- PTP_ANNOUNCE: the first master heard in the domain is selected; another domain's is only counted.
  (∀ s m, m.domain = s.get TIM_CFG.PTP_DOMAIN 0 → s.ptpBest = none →
    ∃ t, exec (.ptpAnnounce m) s = .next t ∧ t.ptpBest = some m ∧ t.get TIM_STAT.PTP_OK 0 = 1) ∧
  (∀ s m, m.domain ≠ s.get TIM_CFG.PTP_DOMAIN 0 → exec (.ptpAnnounce m) s = .next (s.tallyChip 4)) ∧
  -- UPSTREAM_TIMEOUT: a worker's upstream is dropped and not chosen again.
  (∀ s p, s.flag TIM_STAT.ROOT 0 = false → s.get TIM_STAT.UP_PORT 0 = 2 * p → p < 63 →
    ∃ t, exec .upstreamTimeout s = .next t ∧ t.timPeer p = none ∧ t.get TIM_STAT.UP_PORT 0 ≠ 2 * p)

/-- The telemetry converter (R409 to R413): a conversion's result register and the thermal state of a sensor. -/
def Obligations.SensorsConverted : Prop :=
  -- TELEMETRY_CONVERSION: a valid, unfiltered conversion of a sensor shows its code with the next SEQ and VALID.
  (∀ s c code, c < 96 → (s.sensor c).stale = 0 → s.get PWR_TEL_CH.FILTER c = 0 →
    ∃ t, exec (.telemetryConversion c code 0 false) s = .next t ∧ t.get PWR_TEL_SMP.VALUE c = code % 4096 ∧ t.get PWR_TEL_SMP.CODE c = 0 ∧
      t.get PWR_TEL_SMP.SEQ c = (s.get PWR_TEL_SMP.SEQ c + 1) % 256 ∧ t.get PWR_TEL_SMP.VALID c = 1) ∧
  -- TELEMETRY_CONVERSION: the first conversions after a change are STALE and leave VALUE.
  (∀ s c code result, c < 96 → 0 < (s.sensor c).stale →
    ∃ t, exec (.telemetryConversion c code result false) s = .next t ∧ t.get PWR_TEL_SMP.CODE c = 1 ∧ t.get PWR_TEL_SMP.VALID c = 0 ∧
      t.get PWR_TEL_SMP.VALUE c = s.get PWR_TEL_SMP.VALUE c ∧ (t.sensor c).stale = (s.sensor c).stale - 1) ∧
  -- TELEMETRY_CONVERSION: a reference within 2 mV is only counted.
  (∀ s code result man, 2392 ≤ code → code ≤ 2408 → exec (.telemetryConversion 96 code result man) s = .next (s.tallyChip 5)) ∧
  -- THERMAL_STATE_CHANGE: 16 samples in a row past a threshold move a sensor that counts; one left out does not move.
  (∀ s c, c < 64 → (s.sensor c).out = false →
    ∃ t, exec (.thermalStateChange c) s = .next t ∧ (t.sensor c).st = nextThermal (s.sensor c)) ∧
  (∀ s c, c < 64 → (s.sensor c).out = false → (s.sensor c).st = 0 → 16 ≤ (s.sensor c).ge95 → (s.sensor c).ge100 < 16 → (s.sensor c).ge110 < 16 →
    ∃ t, exec (.thermalStateChange c) s = .next t ∧ (t.sensor c).st = 1) ∧
  (∀ s c, c < 64 → (s.sensor c).out = true → exec (.thermalStateChange c) s = .next s)

/-- The key store and the random generator (R331 to R338, R357): what each key command starts, what its completion does, and the TRNG's commands. -/
def Obligations.KeysAndRandom : Prop :=
  -- GEN_ID: accepted; NOT_READY while the generator is not ready.
  (∀ s, s.imgRun = none → s.keyRun = none → s.flag KEY_TRNG_STAT.READY 0 = true →
    ∃ t, exec .keyGenId s = .next t ∧ (t.keyRun.map fun r : KeyRun => (r.op, r.status)) = some (1, 0) ∧ t.get KEY_RES.VALID 0 = 0) ∧
  (∀ s, s.imgRun = none → s.keyRun = none → s.flag KEY_TRNG_STAT.READY 0 = false →
    ∃ t, exec .keyGenId s = .next t ∧ (t.keyRun.map fun r : KeyRun => (r.op, r.status)) = some (1, 1)) ∧
  -- ROTATE: the record in the buffer is sealed with the identity key; its status is the first check that fails.
  (∀ s key ok, s.imgRun = none → s.keyRun = none → s.pendingId = some key →
    ∃ t, exec (.keyRotate ok) s = .next t ∧ t.keyRun = some (KeyRun.mk 2 0 0 (sealRecord (s.bufBytes 4096) key) key
      (if !recFormed (s.bufBytes 4096) ∨ recBytes (s.bufBytes 4096) 0x1D0 96 ≠ Config.p384Public key then 2
      else if s.rootStatus (s.bufBytes 4096) ≠ 0 then s.rootStatus (s.bufBytes 4096) else if ok then 0 else 5))) ∧
  -- REVOKE: LAST_ROOT for the only usable slot; otherwise accepted while no record is in force.
  (∀ s n, n < 4 → s.imgRun = none → s.keyRun = none → s.rootUsable n = false → s.get KEY_STAT.REC_VALID 0 = 0 →
    ∃ t, exec (.keyRevoke n) s = .next t ∧ t.keyRun = some (KeyRun.mk 3 n 0 [] 0 0)) ∧
  (∀ s n, n < 4 → s.imgRun = none → s.keyRun = none → s.rootUsable n = true → (∀ k ∈ List.range 4, k ≠ n → s.rootUsable k = false) →
    ∃ t, exec (.keyRevoke n) s = .next t ∧ t.keyRun = some (KeyRun.mk 3 n 0 [] 0 6)) ∧
  (∀ s n, n < 4 → s.keyRun.isSome = true → exec (.keyRevoke n) s = .next (s.refuseWrite .KEY_CMD 0)) ∧
  -- PROG_ROOT: SLOT_USED unless the slot is BLANK.
  (∀ s n, n < 4 → s.imgRun = none → s.keyRun = none →
    ∃ t, exec (.keyProgRoot n) s = .next t ∧ t.keyRun = some (KeyRun.mk 4 n 0 (s.bufBytes 48) 0 (if s.rootBlank n then 0 else 8))) ∧
  -- RAISE_SVN: SVN_HIGH above the boot image's SVN or 64.
  (∀ s f, s.imgRun = none → s.keyRun = none →
    ∃ t, exec (.keyRaiseSvn f) s = .next t ∧ t.keyRun = some (KeyRun.mk 5 0 f [] 0 (if s.bootSvn < f ∨ 64 < f then 9 else 0))) ∧
  -- KEY_COMMAND_COMPLETE: the result is shown; a REVOKE has blown the slot's revocation word, a GEN_ID has made the pending key.
  (∀ s n, s.keyRun = some (KeyRun.mk 3 n 0 [] 0 0) →
    ∃ t, exec .keyCommandComplete s = .next t ∧ t.keyRun = none ∧ t.get KEY_RES.STATUS 0 = 0 ∧ t.get KEY_RES.VALID 0 = 1 ∧
      t.get KEY_RES.SEQ 0 = (s.get KEY_RES.SEQ 0 + 1) % 256 ∧ t.rootRevoked n = true) ∧
  (∀ s key, s.keyRun = some (KeyRun.mk 1 0 0 [] key 0) →
    ∃ t, exec .keyCommandComplete s = .next t ∧ t.pendingId = some key ∧ t.get KEY_STAT.ID_PEND 0 = 1 ∧ t.get KEY_RES.VALID 0 = 1) ∧
  -- TRNG_STARTUP_COMPLETE: READY, unless the generator has FAILED.
  (∀ s, s.flag KEY_TRNG_STAT.FAILED 0 = false →
    ∃ t, exec .trngStartupComplete s = .next t ∧ t.get KEY_TRNG_STAT.READY 0 = 1 ∧ t.get KEY_TRNG_STAT.STARTS 0 = 0) ∧
  (∀ s, s.flag KEY_TRNG_STAT.FAILED 0 = true → exec .trngStartupComplete s = .next s) ∧
  -- TRNG_HEALTH_FAILURE: READY falls and the failure is counted; the fourth failed start-up in a row sets FAILED.
  (∀ s, s.flag KEY_TRNG_STAT.FAILED 0 = false →
    ∃ t, exec (.trngHealthFailure true) s = .next t ∧ t.get KEY_TRNG_STAT.READY 0 = 0 ∧
      t.get KEY_TRNG_STAT.APT_FAIL 0 = satAdd 16 (s.get KEY_TRNG_STAT.APT_FAIL 0) 1 ∧
      (s.get KEY_TRNG_STAT.READY 0 = 0 → s.get KEY_TRNG_STAT.STARTS 0 = 3 → t.get KEY_TRNG_STAT.FAILED 0 = 1)) ∧
  (∀ s, s.flag KEY_TRNG_STAT.FAILED 0 = false →
    ∃ t, exec (.trngHealthFailure false) s = .next t ∧ t.get KEY_TRNG_STAT.READY 0 = 0 ∧
      t.get KEY_TRNG_STAT.RCT_FAIL 0 = satAdd 16 (s.get KEY_TRNG_STAT.RCT_FAIL 0) 1) ∧
  -- TRNG_RESEED: the outputs that follow are new ones (the free values' counter moves, log entry 8).
  (∀ s, s.flag KEY_TRNG_STAT.READY 0 = true → exec .trngReseed s = .next s.fresh) ∧
  -- TRNG_NEXT: a ready generator gives an output with the next SEQ; one that is not ready gives 0 with READY = 0.
  (∀ s, s.flag KEY_TRNG_STAT.READY 0 = true →
    ∃ t, exec .trngNext s = .next t ∧ t.reg .KEY_TRNG_OUT 0 = Config.trngOut s.freeCtr ∧ t.get KEY_TRNG_RES.READY 0 = 1 ∧
      t.get KEY_TRNG_RES.SEQ 0 = (s.get KEY_TRNG_RES.SEQ 0 + 1) % 256 ∧ t.get KEY_TRNG_RES.VALID 0 = 1) ∧
  (∀ s, s.flag KEY_TRNG_STAT.READY 0 = false →
    ∃ t, exec .trngNext s = .next t ∧ t.reg .KEY_TRNG_OUT 0 = 0 ∧ t.get KEY_TRNG_RES.READY 0 = 0 ∧ t.get KEY_TRNG_RES.VALID 0 = 1)

/-- Counters, bandwidth, the Velair trace and the TELEM service (R414 to R419). -/
def Obligations.CountersShown : Prop :=
  -- CNT_SNAP: every counter of the group is copied, with a new result; a fenced region's hold.
  (∀ s u, u < 5 → (u = 4 ∨ s.regionState u ≠ 1) →
    ∃ t, exec (.cntSnap u) s = .next t ∧ (∀ k ∈ List.range 80, t.reg .CNT_SNAP (80 * u + k) = s.reg .CNT_VAL (80 * u + k)) ∧
      t.get CNT_SNAP_RES.SEQ u = (s.get CNT_SNAP_RES.SEQ u + 1) % 256 ∧ t.get CNT_SNAP_RES.VALID u = 1) ∧
  (∀ s u, u < 4 → s.regionState u = 1 → exec (.cntSnap u) s = .next s) ∧
  -- CNT_CLR: every counter of the group is 0.
  (∀ s u, u < 5 → (u = 4 ∨ s.regionState u ≠ 1) → ∃ t, exec (.cntClr u) s = .next t ∧ ∀ k ∈ List.range 80, t.reg .CNT_VAL (80 * u + k) = 0) ∧
  -- CLR_PEAK: the peaks of every port are 0.
  (∀ s, ∃ t, exec .clrPeak s = .next t ∧ ∀ p ∈ List.range 128, t.get CNT_BW2.PEAK_IN p = 0 ∧ t.get CNT_BW2.PEAK_OUT p = 0) ∧
  -- BW_WINDOW_END: the window's byte counts are shown with the next SEQ.
  (∀ s p i o, p < 128 →
    ∃ t, exec (.bwWindowEnd p i o) s = .next t ∧ t.get CNT_BW0.IN_B p = min i (2 ^ 48 - 1) ∧ t.get CNT_BW1.OUT_B p = min o (2 ^ 48 - 1) ∧
      t.get CNT_BW3.SEQ p = (s.get CNT_BW3.SEQ p + 1) % 256 ∧ t.get CNT_BW3.VALID p = 1 ∧ s.get CNT_BW2.PEAK_IN p ≤ t.get CNT_BW2.PEAK_IN p) ∧
  -- TRACE_RECORD: nothing with no record due; a record due while capture does not run is not written, one without credit is dropped, and otherwise it is written and numbered.
  (∀ s credit, s.trcDue = [] → exec (.traceRecord credit) s = .next s) ∧
  (∀ s credit d rest, s.trcDue = d :: rest → s.flag CNT_TRC_STAT.RUN 0 = false → exec (.traceRecord credit) s = .next { s with trcDue := rest }) ∧
  (∀ s d rest, s.trcDue = d :: rest → s.flag CNT_TRC_STAT.RUN 0 = true → exec (.traceRecord false) s = .next ({ s with trcDue := rest }.dropRecord (d.rt / 16))) ∧
  (∀ s d rest, s.trcDue = d :: rest → s.flag CNT_TRC_STAT.RUN 0 = true → s.flag CNT_TRC_CFG.DEST 0 = true → s.flag CNT_TRC_CFG.WRAP 0 = true →
    ∃ t, exec (.traceRecord true) s = .next t ∧ t.trcDue = rest ∧ t.get CNT_TRC_STAT.WREC 0 = (s.get CNT_TRC_STAT.WREC 0 + 1) % 2 ^ 32 ∧
      t.trcSeq = (s.trcSeq + 1) % 2 ^ 32 ∧ t.out.length = s.out.length + 1) ∧
  -- START: capture runs from record 0; with no trace partition and DEST = 0 the write is recorded as refused.
  (∀ s, s.flag CNT_TRC_CFG.DEST 0 = true →
    ∃ t, exec .start s = .next t ∧ t.get CNT_TRC_STAT.RUN 0 = 1 ∧ t.get CNT_TRC_STAT.FULL 0 = 0 ∧ t.get CNT_TRC_STAT.WREC 0 = 0) ∧
  (∀ s, s.flag CNT_TRC_CFG.DEST 0 = false → s.get MGT_HBM_PART.TRACE_256M 0 = 0 → exec .start s = .next (s.refuseWrite .CNT_TRC_CTL 0)) ∧
  -- STOP
  (∀ s, ∃ t, exec .stop s = .next t ∧ t.get CNT_TRC_STAT.RUN 0 = 0) ∧
  -- TELEM: with its snapshots written the job has its outcome; with none due and no cancel it goes on.
  (∀ s e r, e < 128 → s.telemRun e = some r → r.fail = 0 → telemDone r = true →
    ∃ t, exec (.telem e) s = .next t ∧ (t.jobRun e).map JobRun.outcome = some (some (0, r.snaps, 0))) ∧
  (∀ s e r, e < 128 → s.telemRun e = some r → r.fail = 0 → telemDone r = false → r.cancel = false → exec (.telem e) s = .next s) ∧
  -- TELEM_SNAPSHOT: a snapshot due is counted and its lines are handed to the far-access engine.
  (∀ s e r, e < 128 → s.telemRun e = some r → r.fail = 0 → r.cancel = false → telemDone r = false → asdSpace (r.job.word 7) ≠ 2 →
    ∃ u : State, exec (.telemSnapshot e) s = .next (u.pump (e / 8)) ∧ (u.jobRun e).map JobRun.snaps = some (r.snaps + 1) ∧
      (s.cluster (e / 8)).acc.length < (u.cluster (e / 8)).acc.length)

/-- Packets through Anvil (R20, R139, R143 to R152): injection, route writes, the routers and the crossings. -/
def Obligations.AnvilCarriesPackets : Prop :=
  -- PACKET_INJECT: the packet formed joins the queue of its destination and traffic class behind those before it; as the next its source sends, it spends credit and its flits set out for the NI's router.
  (∀ s n q p r rest, n < 134 → p.body.length ≤ 624 → s.carried n p = none → Tbl.rd (fun _ => []) s.voq (voqKey n (s.packetOf n q p)) = r :: rest →
    exec (.packetInject n q p) s = .next (s.enqueue n (s.packetOf n q p))) ∧
  (∀ s n q p w k a, n < 64 → p.body.length ≤ 624 → w = s.packetOf n q p → (s.enqueue n w).nextQueue n = some (k, w) → 1024 * n + k = voqKey n w →
    Tbl.rd (fun _ => []) (s.enqueue n w).voq (voqKey n w) = [w] → (s.niAt n).notices = [] → s.isHeld n (niRouter w.dst) 4 = false → w.cls ≠ 8 →
    (s.ensureRoutes n (niRouter w.dst)).pickRoute n (niRouter w.dst) w.stream = some a → (s.ensureRoutes n (niRouter w.dst)).isHeld n (niRouter w.dst) a = false →
    ∃ t, exec (.packetInject n q p) s = .next t ∧ (t.crossing n 4).length = (s.crossing n 4).length + w.len ∧ t.allowance n (creditPoint w) + w.len = s.allowance n (creditPoint w) ∧
      t.inFlight n (niRouter w.dst) a = s.inFlight n (niRouter w.dst) a + 1) ∧
  (∀ s n q p, n < 134 → 624 < p.body.length → exec (.packetInject n q p) s = .next s) ∧
  -- ROUTE_ENTRY_WRITE: one that breaks the route rules is refused; a legal one is in the chip copy and in both copies of every LIVE region.
  (∀ s n d a w, n < 134 → d < 64 → a < 4 → w.field 0 0 = 1 → routeLegal n d w = false →
    exec (.routeEntryWrite n d a w) s = .next (s.refuseWrite .ROUTE_ENTRY (routeIdx n d a))) ∧
  (∀ s n d a w, n < 134 → d < 64 → a < 4 → (w.field 0 0 = 0 ∨ routeLegal n d w = true) →
    ∃ t, exec (.routeEntryWrite n d a w) s = .next t ∧ t.get ROUTE_ENTRY.VALID (routeIdx n d a) = w.field 0 0 ∧
      t.get ROUTE_ENTRY.HOPS (routeIdx n d a) = w.field 23 8 ∧ t.get ROUTE_ENTRY.LEN (routeIdx n d a) = w.field 5 2 ∧
      ∀ r ∈ List.range 4, s.live r = true → t.repWord r 0 .ROUTE_ENTRY (routeIdx n d a) = t.reg .ROUTE_ENTRY (routeIdx n d a) ∧
        t.repWord r 1 .ROUTE_ENTRY (routeIdx n d a) = t.reg .ROUTE_ENTRY (routeIdx n d a)) ∧
  -- ROUTE_CHANGE_RESUME: a hold whose packets have all been ejected ends.
  (∀ s n d a, n < 134 → d < 64 → a < 4 → (s.niAt n).holds = [(d, a)] → (s.niAt n).held = [] → s.inFlight n d a = 0 →
    ∃ t, exec (.routeChangeResume n d) s = .next t ∧ (t.niAt n).holds = []) ∧
  (∀ s n d, n < 134 → d < 64 → (s.niAt n).holds = [] → exec (.routeChangeResume n d) s = .next s) ∧
  -- FLIT_SWITCH: a granted flit crosses an open link of its region to the neighbour's input with its header advanced, and a link between two regions by way of the crossing; a flit for the block crosses to the I/O die, one for a client reaches it.
  (∀ s rt out wire f turn, rt < 64 → out < 4 → s.grant rt out = some (f, turn) → neighbour rt out / 16 = rt / 16 → bitOf (s.get ANV_RTR_STAT.LINK_UP rt) out = true →
    ∃ t, exec (.flitSwitch rt out 0 wire) s = .next t ∧
      (t.rtrState (neighbour rt out)).flits = (s.rtrState (neighbour rt out)).flits ++ [Flit.mk (Nat.xor out 1) (afterHop rt out f.pkt) f.idx f.waited]) ∧
  (∀ s rt out ecc wire f turn, rt < 64 → out < 4 → s.grant rt out = some (f, turn) → neighbour rt out / 16 ≠ rt / 16 → s.gateOpen (rt / 16) = true → s.gateOpen (neighbour rt out / 16) = true →
    bitOf (s.get ANV_RTR_STAT.LINK_UP rt) out = true →
    ∃ t, exec (.flitSwitch rt out ecc wire) s = .next t ∧
      t.crossing (neighbour rt out) (Nat.xor out 1) = s.crossing (neighbour rt out) (Nat.xor out 1) ++ [Flit.mk (Nat.xor out 1) (afterHop rt out f.pkt) f.idx f.waited]) ∧
  (∀ s rt ecc wire f turn, rt < 64 → s.grant rt 4 = some (f, turn) → ∃ t, exec (.flitSwitch rt 4 ecc wire) s = .next t ∧ t.crossing rt 7 = s.crossing rt 7 ++ [f]) ∧
  (∀ s rt out ecc wire f turn, rt < 64 → 4 < out → out < 7 → s.grant rt out = some (f, turn) → f.pkt.len ≤ f.idx + 1 →
    ∃ t, exec (.flitSwitch rt out ecc wire) s = .next t ∧
      t.inFlight f.pkt.src (niRouter f.pkt.dst) f.pkt.alt = s.inFlight f.pkt.src (niRouter f.pkt.dst) f.pkt.alt - 1) ∧
  (∀ s rt out ecc wire, rt < 64 → out < 7 → s.grant rt out = none → s.wants rt out = false → exec (.flitSwitch rt out ecc wire) s = .next s) ∧
  -- FLIT_SWITCH: a flit that leaves a fenced region is discarded.
  (∀ s rt out ecc wire f turn, rt < 64 → out < 4 → s.grant rt out = some (f, turn) → neighbour rt out / 16 ≠ rt / 16 → s.gateOpen (rt / 16) = false →
    ∃ t, exec (.flitSwitch rt out ecc wire) s = .next t ∧ t.crossing (neighbour rt out) (Nat.xor out 1) = s.crossing (neighbour rt out) (Nat.xor out 1)) ∧
  -- LINK_WIRE_SPARE: a wire over its wear threshold takes the lowest free spare of its link; one below it keeps its own.
  (∀ s rt d wire j, rt < 64 → d < 4 → s.get FLT_WEAR_CFG.WIRE_THR 0 < s.wearCount 7 (wireCell rt d wire) → s.flag FLT_POOL.AUTO 1 = true →
    (List.range 4).find? (fun i => !bitOf (s.get ANV_RTR_STAT.SPARE_USED rt / 16 ^ d % 16) i) = some j →
    ∃ t, exec (.linkWireSpare rt d wire) s = .next t ∧ bitOf (t.get ANV_RTR_STAT.SPARE_USED rt) (4 * d + j) = true ∧
      t.get FLT_POOL.USED 1 = satAdd FLT_POOL.USED.width (s.get FLT_POOL.USED 1) 1) ∧
  (∀ s rt d wire, rt < 64 → d < 4 → s.wearCount 7 (wireCell rt d wire) ≤ s.get FLT_WEAR_CFG.WIRE_THR 0 → exec (.linkWireSpare rt d wire) s = .next s) ∧
  -- VOQ_INJECT: the queue that is next loses its head, which is injected; with none ready nothing happens.
  (∀ s n k p, n < 134 → s.nextQueue n = some (k, p) →
    ∃ u : State, exec (.voqInject n) s = .next (u.inject n p) ∧ Tbl.rd (fun _ => []) u.voq (1024 * n + k) = (Tbl.rd (fun _ => []) s.voq (1024 * n + k)).tail) ∧
  (∀ s n, n < 134 → s.nextQueue n = none → exec (.voqInject n) s = .next s) ∧
  -- CROSSING_FLIT_ARRIVAL: a clean or corrected flit goes on: the last of a packet delivers it to its block, one at a router enters its input.
  (∀ s rt ecc f inj, rt < 64 → s.crossing rt 7 = [f] → ecc < 2 → f.pkt.len ≤ f.idx + 1 → f.pkt.void = false → f.pkt.cls ≠ 8 → f.pkt.kind ≠ .biSnp → f.pkt.dst < 64 → s.quenched f.pkt.dst = false →
    ∃ t, exec (.crossingFlitArrival rt 7 ecc inj) s = .next t ∧ t.crossing rt 7 = [] ∧ (t.niAt f.pkt.dst).rx = (s.niAt f.pkt.dst).rx ++ [{ f.pkt with age := ageOf f }]) ∧
  (∀ s rt i ecc f inj, rt < 64 → i < 7 → s.crossing rt i = [f] → roomAt (s.rtrState rt) i f.pkt = true → ecc < 2 →
    ∃ t, exec (.crossingFlitArrival rt i ecc inj) s = .next t ∧ t.crossing rt i = [] ∧ (t.rtrState rt).flits = (s.rtrState rt).flits ++ [f]) ∧
  -- CROSSING_FLIT_ARRIVAL: an uncorrectable header flit's packet does not arrive.
  (∀ s rt f inj, rt < 64 → s.crossing rt 7 = [f] → f.idx = 0 → f.pkt.len = 1 → f.pkt.dst < 64 → s.quenched f.pkt.dst = false →
    ∃ t, exec (.crossingFlitArrival rt 7 3 inj) s = .next t ∧ t.crossing rt 7 = [] ∧ (t.niAt f.pkt.dst).rx = (s.niAt f.pkt.dst).rx)

/-- End-to-end credit, Quench and the sink (R153, R154, R161 to R165). -/
def Obligations.CreditAndQuench : Prop :=
  -- CREDIT_REQUEST: a source short of credit is granted CHUNK from the pool when nothing waits and it can be; otherwise it is queued behind the others; one that is not short asks for nothing.
  (∀ s n e, n < 134 → e < 64 → isSource n = true → s.isShort n e = true → s.requests e = [] → s.canGrant e n = true →
    ∃ t, exec (.creditRequest n e) s = .next t ∧ (t.ledgerAt e n).shared = (s.ledgerAt e n).shared + s.get ANV_CR_CFG.CHUNK e ∧
      t.get ANV_CR_STAT.SHARED_FREE e = s.get ANV_CR_STAT.SHARED_FREE e - s.get ANV_CR_CFG.CHUNK e) ∧
  (∀ s n e, n < 134 → 64 ≤ e → e < 694 → s.isShort n e = true → s.requests e = [] → s.canGrant e n = true →
    ∃ t, exec (.creditRequest n e) s = .next t ∧ (t.ledgerAt e n).shared = (s.ledgerAt e n).shared + s.chunk e) ∧
  (∀ s n e, n < 134 → e < 64 → isSource n = true → s.isShort n e = true → s.canGrant e n = false → ∃ t, exec (.creditRequest n e) s = .next t ∧ t.requests e = s.requests e ++ [n]) ∧
  (∀ s n e, n < 134 → e < 694 → s.isShort n e = false → exec (.creditRequest n e) s = .next s) ∧
  -- CREDIT_GRANT: the oldest queued request.
  (∀ s n e rest, e < 694 → s.requests e = n :: rest → s.canGrant e n = true →
    ∃ t, exec (.creditGrant e) s = .next t ∧ t.requests e = rest ∧ (t.ledgerAt e n).shared = (s.ledgerAt e n).shared + s.chunk e) ∧
  (∀ s e, e < 694 → s.requests e = [] → exec (.creditGrant e) s = .next s) ∧
  -- CREDIT_RETURN: nothing is owed any more, the slots are the source's again, and it has learned an egress block's congestion band.
  (∀ s n e, n < 134 → e < 694 →
    ∃ t, exec (.creditReturn e n) s = .next t ∧ (t.ledgerAt e n).owed = 0 ∧ (t.ledgerAt e n).standSpent = (s.ledgerAt e n).standSpent - (s.ledgerAt e n).owed ∧
      (e < 64 → Tbl.rd (fun _ => (0, 0)) t.bands (64 * n + e) = (s.egressBand e, s.clk))) ∧
  -- SHARED_GRANT_RELEASE: the unused part of the shared grant goes back to the pool.
  (∀ s n e, n < 134 → e < 694 → (s.ledgerAt e n).sharedSpent ≤ (s.ledgerAt e n).shared →
    ∃ t, exec (.sharedGrantRelease n e) s = .next t ∧ (t.ledgerAt e n).shared = (s.ledgerAt e n).sharedSpent ∧
      (e < 64 → t.get ANV_CR_STAT.SHARED_FREE e = (s.get ANV_CR_STAT.SHARED_FREE e + ((s.ledgerAt e n).shared - (s.ledgerAt e n).sharedSpent)) % 2 ^ ANV_CR_STAT.SHARED_FREE.width)) ∧
  -- QUENCH_TRIGGER: the first trigger quenches the NI with its code and tells every NI.
  (∀ s n code, n < 134 → (s.niAt n).triggers = [] →
    ∃ t, exec (.quenchTrigger n code) s = .next t ∧ (t.niAt n).code = code ∧ (t.niAt n).triggers = [Trigger.mk code true 0] ∧ (t.niAt n).rx = [] ∧
      t.out = s.out ++ [Out.quenchNotice n code]) ∧
  -- QUENCH_NOTICE_ARRIVAL and UNQUENCH_NOTICE_ARRIVAL.
  (∀ s n target code, n < 134 → target < 134 →
    ∃ t, exec (.quenchNoticeArrival n target code) s = .next t ∧ (t.niAt n).notices = (s.niAt n).notices.filter (fun x : Nat × Nat => x.1 ≠ target) ++ [(target, code)]) ∧
  (∀ s n target, n < 134 → target < 134 →
    ∃ t, exec (.unquenchNoticeArrival n target) s = .next t ∧ (t.niAt n).notices = (s.niAt n).notices.filter (fun x : Nat × Nat => x.1 ≠ target)) ∧
  -- QUENCH_SET: by command with code 3, for an NI of the region; another NI is a refused write.
  (∀ s r n, r < 4 → n < 134 → niRegion n = r → (s.niAt n).triggers = [] → ∃ t, exec (.quenchSet r n) s = .next t ∧ (t.niAt n).code = 3) ∧
  (∀ s r n, r < 4 → (134 ≤ n ∨ niRegion n ≠ r) → exec (.quenchSet r n) s = .next (s.refuseWrite .ANV_QUENCH_CMD r)) ∧
  -- QUENCH_CLEAR: ignored while a trigger persists; otherwise an NI with nothing left to answer accepts packets again.
  (∀ s r n, r < 4 → n < 134 → niRegion n = r → (s.niAt n).triggers.any (fun x => x.persists) = true → exec (.quenchClear r n) s = .next s) ∧
  (∀ s r n, r < 4 → n < 134 → niRegion n = r → (s.niAt n).triggers.any (fun x => x.persists) = false → (s.niAt n).absorbed = [] → (s.niAt n).code ≠ 0 →
    ∃ t, exec (.quenchClear r n) s = .next t ∧ t.quenched n = false ∧ (t.niAt n).triggers = [] ∧ t.out = s.out ++ [Out.unquenchNotice n]) ∧
  -- SLAG_ANSWER: the oldest absorbed packet is answered as its type asks.
  (∀ s n p rest, n < 134 → (s.niAt n).absorbed = p :: rest → ∃ t, exec (.slagAnswer n) s = .next t ∧ (t.niAt n).absorbed = rest) ∧
  (∀ s n p q rest, n < 134 → (s.niAt n).absorbed = p :: rest → slagReply n p = some q → q.dst ≠ n →
    ∃ t, exec (.slagAnswer n) s = .next t ∧ (Tbl.rd (fun _ => []) t.voq (voqKey n (s.withTc n q))).getLast? = some (s.withTc n q)) ∧
  -- UNQUENCH: once its triggers are gone and everything is answered the NI accepts packets again.
  (∀ s n, n < 134 → (s.niAt n).code ≠ 0 → (s.niAt n).triggers = [] → (s.niAt n).absorbed = [] →
    ∃ t, exec (.unquench n) s = .next t ∧ t.quenched n = false ∧ t.out = s.out ++ [Out.unquenchNotice n]) ∧
  (∀ s n, n < 134 → (s.niAt n).triggers ≠ [] → exec (.unquench n) s = .next s)

/-- Mirror sessions and probes (R166 to R171). -/
def Obligations.MirrorsAndProbes : Prop :=
  -- MIRROR_COPY: a message the session does not select is not touched; one that is not sampled is only counted; one without a way out is dropped; the others become records.
  (∀ s m port eg po fl msg, m < 16 → port < 128 → s.mirrored m port eg fl = false → exec (.mirrorCopy m port eg po fl msg) s = .next s) ∧
  (∀ s m port eg po fl msg, m < 16 → port < 128 → s.mirrored m port eg fl = true → (s.mirror m).skipped + 1 < s.get ANV_MIR_CFG.SAMPLE m →
    ∃ t, exec (.mirrorCopy m port eg po fl msg) s = .next t ∧ (t.mirror m).skipped = (s.mirror m).skipped + 1 ∧ (t.mirror m).queue = (s.mirror m).queue) ∧
  (∀ s m port eg po fl msg, m < 16 → port < 128 → s.mirrored m port eg fl = true → s.get ANV_MIR_CFG.SAMPLE m ≤ (s.mirror m).skipped + 1 →
    s.quenched (s.get ANV_MIR_CFG.DST_PORT m / 2) = true →
    ∃ t, exec (.mirrorCopy m port eg po fl msg) s = .next t ∧ t.get ANV_MIR_STAT.DROP m = satAdd ANV_MIR_STAT.DROP.width (s.get ANV_MIR_STAT.DROP m) 1 ∧
      (t.mirror m).dropped = true) ∧
  (∀ s m port eg po fl msg, m < 16 → port < 128 → s.mirrored m port eg fl = true → s.get ANV_MIR_CFG.SAMPLE m ≤ (s.mirror m).skipped + 1 →
    s.quenched (s.get ANV_MIR_CFG.DST_PORT m / 2) = false → (s.niAt (port / 2)).notices = [] →
    flitsOf (min 624 (msg.take (s.truncTo m msg.length)).length) ≤ s.allowance (port / 2) (s.get ANV_MIR_CFG.DST_PORT m / 2) →
    ∃ t, exec (.mirrorCopy m port eg po fl msg) s = .next t ∧ (t.mirror m).skipped = 0 ∧
      (t.mirror m).queue = (s.mirror m).queue ++ [MirRec.mk (s.mirror m).seq s.time port eg po (s.mirror m).dropped msg.length (msg.take (s.truncTo m msg.length))]) ∧
  -- MIRROR_RECORD_WRITE: the oldest copy that has arrived leaves for the ring.
  (∀ s m p r rest, m < 16 → (s.niAt (s.get ANV_MIR_CFG.DST_PORT m / 2)).rx.find? (fun x => x.mirror && decide (x.param % 16 = m)) = some p → (s.mirror m).queue = r :: rest →
    r.seq % 2 ^ 28 = p.param / 16 →
    ∃ t, exec (.mirrorRecordWrite m) s = .next t ∧ (t.mirror m).queue = rest ∧ t.out.length = s.out.length + 1 ∧
      (t.niAt (s.get ANV_MIR_CFG.DST_PORT m / 2)).rx = (s.niAt (s.get ANV_MIR_CFG.DST_PORT m / 2)).rx.erase p) ∧
  (∀ s m, m < 16 → (s.niAt (s.get ANV_MIR_CFG.DST_PORT m / 2)).rx = [] → exec (.mirrorRecordWrite m) s = .next s) ∧
  -- MIRROR_EN_WRITE: EN reads 1 only with a destination in analysis role.
  (∀ s m v, m < 16 →
    ∃ t, exec (.mirrorEnWrite m v) s = .next t ∧
      t.get ANV_MIR_CFG.EN m = bit (decide (v.field 0 0 = 1) && (s.portExists (v.field ANV_MIR_CFG.DST_PORT.hi ANV_MIR_CFG.DST_PORT.lo) &&
        decide (s.role (v.field ANV_MIR_CFG.DST_PORT.hi ANV_MIR_CFG.DST_PORT.lo) = 3))) ∧
      t.get ANV_MIR_CFG.DST_PORT m = v.field ANV_MIR_CFG.DST_PORT.hi ANV_MIR_CFG.DST_PORT.lo) ∧
  -- PROBE_MATCH: with an empty mask every packet at the probed input is counted.
  (∀ s rt i p, rt < 64 → s.flag ANV_PRB_CTL.EN rt = true → s.get ANV_PRB_CTL.PORT rt = i → s.reg .ANV_PRB_MASK rt = 0 →
    ∃ t, exec (.probeMatch rt i p) s = .next t ∧ (t.probe rt).pkts = satAdd 48 (s.probe rt).pkts 1 ∧ (t.probe rt).flits = satAdd 48 (s.probe rt).flits p.len) ∧
  (∀ s rt i p, rt < 64 → s.get ANV_PRB_CTL.PORT rt ≠ i → exec (.probeMatch rt i p) s = .next s) ∧
  -- PROBE_SNAP: both counts are shown with the next SEQ.
  (∀ s rt, rt < 64 → (s.probe rt).pkts < 2 ^ 48 → (s.probe rt).flits < 2 ^ 48 →
    ∃ t, exec (.probeSnap rt) s = .next t ∧ t.get ANV_PRB_RES.COUNT rt = (s.probe rt).pkts ∧ t.get ANV_PRB_RES2.COUNT rt = (s.probe rt).flits ∧
      t.get ANV_PRB_RES.SEQ rt = (s.get ANV_PRB_RES.SEQ rt + 1) % 256 ∧ t.get ANV_PRB_RES.VALID rt = 1 ∧ t.get ANV_PRB_RES2.VALID rt = 1)

/-- Causes and what they stop (R380 to R390): a record started, a fence, chip fatal, and the clearing of records. -/
def Obligations.FaultsRecorded : Prop :=
  -- FAULT_CAUSE: the first cause at a collector starts its record.
  (∀ s ev detail inj, ev < 512 → (causesOf ev).contains (0, false) = true → s.flag FLT_REC0.PEND (s.collectorOf ev) = false →
    ∃ t, exec (.faultCause ev 0 detail inj) s = .next t ∧ t.get FLT_REC0.PEND (s.collectorOf ev) = 1 ∧ t.get FLT_REC0.EVENT (s.collectorOf ev) = ev ∧
      t.get FLT_REC0.CLASS (s.collectorOf ev) = 0 ∧ t.get FLT_REC0.COUNT (s.collectorOf ev) = 1 ∧ t.get FLT_REC0.INJ (s.collectorOf ev) = bit inj ∧
      t.reg .FLT_REC1 (s.collectorOf ev) = word detail) ∧
  (∀ s ev detail inj, ev < 512 → (causesOf ev).contains (1, false) = true → s.flag FLT_REC0.PEND (s.collectorOf ev) = false →
    ∃ t, exec (.faultCause ev 1 detail inj) s = .next t ∧ t.get FLT_REC0.PEND (s.collectorOf ev) = 1 ∧ t.get FLT_REC0.EVENT (s.collectorOf ev) = ev ∧
      t.get FLT_REC0.CLASS (s.collectorOf ev) = 1 ∧ t.get FLT_REC0.COUNT (s.collectorOf ev) = 1) ∧
  -- FAULT_CAUSE: a notice is only queued, and what R380 does not list is no cause.
  (∀ s ev cls detail inj, ev < 512 → (causesOf ev).contains (cls, false) = false → (causesOf ev).contains (cls, true) = true →
    exec (.faultCause ev cls detail inj) s = .next (s.queueEvent ev cls detail)) ∧
  (∀ s ev cls detail inj, ev < 512 → (causesOf ev).contains (cls, false) = false → (causesOf ev).contains (cls, true) = false →
    exec (.faultCause ev cls detail inj) s = .next s) ∧
  -- FAULT_CAUSE: a later one of a lower class merges: it is counted and the record keeps its event and class.
  (∀ s ev detail inj, ev < 512 → (causesOf ev).contains (0, false) = true → s.flag FLT_REC0.PEND (s.collectorOf ev) = true → 0 < s.get FLT_REC0.CLASS (s.collectorOf ev) →
    ∃ t, exec (.faultCause ev 0 detail inj) s = .next t ∧ t.get FLT_REC0.MULTI (s.collectorOf ev) = 1 ∧
      t.get FLT_REC0.COUNT (s.collectorOf ev) = satAdd FLT_REC0.COUNT.width (s.get FLT_REC0.COUNT (s.collectorOf ev)) 1 ∧
      t.get FLT_REC0.EVENT (s.collectorOf ev) = s.get FLT_REC0.EVENT (s.collectorOf ev) ∧ t.get FLT_REC0.CLASS (s.collectorOf ev) = s.get FLT_REC0.CLASS (s.collectorOf ev)) ∧
  -- FLT_PEND_CLEAR: only while the recorded event is not active.
  (∀ s c, c < 5 → s.active (s.get FLT_REC0.EVENT c) = false → ∃ t, exec (.fltPendClear c) s = .next t ∧ t.get FLT_REC0.PEND c = 0) ∧
  (∀ s c, c < 5 → s.active (s.get FLT_REC0.EVENT c) = true → exec (.fltPendClear c) s = .next s) ∧
  -- FLT_FATAL_CLEAR: only while the fatal event is not active.
  (∀ s r, r < 4 → s.active (s.get FLT_REG_STAT.FATAL_EVT r) = false → ∃ t, exec (.fltFatalClear r) s = .next t ∧ t.get FLT_REG_STAT.FATAL r = 0) ∧
  (∀ s r, r < 4 → s.active (s.get FLT_REG_STAT.FATAL_EVT r) = true → exec (.fltFatalClear r) s = .next s) ∧
  -- REGION_FENCE: while another region is not FENCED the region is FENCED with its gate closed; the last one makes the chip fatal.
  (∀ s r, r < 4 → s.regionState r = 0 → (∃ q ∈ List.range 4, q ≠ r ∧ s.regionState q ≠ 1) →
    ∃ t, exec (.regionFence r) s = .next t ∧ t.regionState r = 1 ∧ t.gateOpen r = false ∧ (∀ n ∈ regionNis r, t.quenched n = true ∨ s.quenched n = false → (t.niAt n).triggers ≠ [])) ∧
  (∀ s r, r < 4 → (∀ q ∈ List.range 4, q ≠ r → s.regionState q = 1) → ∃ t, exec (.regionFence r) s = .next t ∧ t.get PWR_MODE.FATAL 0 = 1) ∧
  -- CHIP_FATAL_CAUSE: the chip is fatal.
  (∀ s ev, ev < 512 → ∃ t, exec (.chipFatalCause ev) s = .next t ∧ t.get PWR_MODE.FATAL 0 = 1) ∧
  -- LOST_HOME_SCAN: the result is shown in SCAN_FAIL.
  (∀ s n, n < 16 → s.regionState (s.sliceRegion n) ≠ 2 → ∃ t, exec (.lostHomeScan n false) s = .next t ∧ t.get FLT_REG_STAT.SCAN_FAIL (s.sliceRegion n) = 1) ∧
  (∀ s n, n < 16 → (∀ x ∈ s.txns, x.slice ≠ n) → ∃ t, exec (.lostHomeScan n true) s = .next t ∧ t.get FLT_REG_STAT.SCAN_FAIL (s.sliceRegion n) = 0) ∧
  -- EMBER_TOGGLE: high in the first half of each 1/1,024 s of fabric time, while it runs.
  (∀ s, s.flag FLT_STAT.EMBER_RUN 0 = true → s.phase ≠ .reset → exec .emberToggle s = .next { s with ember := s.tim.ns * 2048 / 1000000000 % 2 = 0 }) ∧
  (∀ s, s.flag FLT_STAT.EMBER_RUN 0 = false → exec .emberToggle s = .next s)

/-- Fault injection, wear, spares and the repair commands (R391 to R398, R453). -/
def Obligations.SparesAndInjection : Prop :=
  -- FLT_INJ_GO: refused while injection is not enabled; a target that exists is armed; one that does not completes with BAD_TARGET.
  (∀ s v, s.flag FLT_CFG.INJ_EN 4 = false → exec (.fltInjGo v) s = .next (s.refuseWrite .FLT_INJ_CTL 0)) ∧
  (∀ s v, s.flag FLT_CFG.INJ_EN 4 = true → s.inj = none → v.field 5 4 ≠ 0 → v.field 21 21 = 1 → s.injTargetOk (v.field 3 0) (v.field 19 12) (v.field 63 24) = true →
    ∃ t, exec (.fltInjGo v) s = .next t ∧ t.inj = some (Injection.mk (v.field 3 0) (v.field 19 12) (v.field 63 24) (v.field 20 20) (v.field 5 4) (v.field 11 6)) ∧
      t.get FLT_INJ_RES.VALID 0 = 0) ∧
  (∀ s v, s.flag FLT_CFG.INJ_EN 4 = true → s.inj = none → v.field 5 4 ≠ 0 → v.field 21 21 = 1 → s.injTargetOk (v.field 3 0) (v.field 19 12) (v.field 63 24) = false →
    ∃ t, exec (.fltInjGo v) s = .next t ∧ t.inj = none ∧ t.get FLT_INJ_RES.STATUS 0 = 2 ∧ t.get FLT_INJ_RES.VALID 0 = 1) ∧
  -- INJECTION_APPLY: an armed HBM block takes the condition of the mode, and the result is APPLIED.
  (∀ s j, s.inj = some j → j.target = 7 →
    ∃ t, exec .injectionApply s = .next t ∧ t.inj = none ∧ Tbl.rd (fun _ => 0) t.hbmEcc j.index = injCond j.mode ∧ t.get FLT_INJ_RES.STATUS 0 = 0 ∧
      t.get FLT_INJ_RES.VALID 0 = 1) ∧
  (∀ s, s.inj = none → exec .injectionApply s = .next s) ∧
  -- INJECTION_TIMEOUT: NOT_APPLIED.
  (∀ s j, s.inj = some j → ∃ t, exec .injectionTimeout s = .next t ∧ t.inj = none ∧ t.get FLT_INJ_RES.STATUS 0 = 1) ∧
  -- WEAR_SAMPLE: a sensor that is slow by no more than AGE_PPM triggers nothing; a trigger of an aging monitor is counted; a lane's margin is shown; a wire's errors of the hour add up.
  (∀ s u v, v ≤ s.get FLT_WEAR_CFG.AGE_PPM 0 → exec (.wearSample 0 u v) s = .next s) ∧
  (∀ s u v, s.get FLT_WEAR_CFG.AGE_PPM 0 < v → ∃ t, exec (.wearSample 0 u v) s = .next t ∧ t.get FLT_WEAR_CNT.AGING 0 = satAdd FLT_WEAR_CNT.AGING.width (s.get FLT_WEAR_CNT.AGING 0) 1) ∧
  (∀ s u m, u < 576 → m < 2 ^ PRT_LANE_STAT.MARGIN.width → ∃ t, exec (.wearSample 5 u m) s = .next t ∧ t.get PRT_LANE_STAT.MARGIN u = m) ∧
  (∀ s u v, s.wearCount 7 u + v ≤ s.get FLT_WEAR_CFG.WIRE_THR 0 → ∃ t, exec (.wearSample 7 u v) s = .next t ∧ t.wearCount 7 u = s.wearCount 7 u + v) ∧
  -- SPARE_SLICE_REPLACE: a free spare takes over a slice that has drained.
  (∀ s n k rest ok, n < 16 → (∀ x ∈ s.txns, x.slice ≠ n) → s.freeSlices = k :: rest →
    ∃ t, exec (.spareSliceReplace n false ok) s = .next t ∧ t.get HRT_SLICE_STAT.PHYS n = k ∧ t.get HRT_SLICE_STAT.SPARE n = 1) ∧
  -- SPARE_ENGINE_REPLACE: the free spare of the pair takes the engine's number.
  (∀ s e, e < 128 → s.engineSpareUsed e = false → ∃ t, exec (.spareEngineReplace e false) s = .next t ∧ t.repairMap.engines = s.repairMap.engines ++ [e]) ∧
  -- SRAM_SOFT_REPAIR and HBM_SOFT_PPR: a spare row is used and recorded; a pool with none has unmet demand.
  (∀ s r, r < 4 →
    ∃ t, exec (.sramSoftRepair r true) s = .next t ∧ t.get FLT_POOL.USED 2 = satAdd FLT_POOL.USED.width (s.get FLT_POOL.USED 2) 1 ∧
      Tbl.rd (fun _ => 0) t.repairMap.rows 2 = Tbl.rd (fun _ => 0) s.repairMap.rows 2 + 1) ∧
  (∀ s r, r < 4 → ∃ t, exec (.sramSoftRepair r false) s = .next t ∧ t.get FLT_POOL.UNMET 2 = 1) ∧
  (∀ s ch line, ch < 32 → Tbl.rd (fun _ => 0) s.hbmEcc line = 1 →
    ∃ t, exec (.hbmSoftPpr ch line true) s = .next t ∧ t.get FLT_POOL.USED 5 = satAdd FLT_POOL.USED.width (s.get FLT_POOL.USED 5) 1 ∧
      Tbl.rd (fun _ => 0) t.hbmEcc line = 0) ∧
  -- CLEAR_LANE: a block that is down gives its spare back.
  (∀ s u, u < 64 → s.retiring = none → s.get PRT_LINK_STATUS.STATE (2 * u) = 0 → s.get PRT_LINK_STATUS.STATE (2 * u + 1) = 0 →
    ∃ t, exec (.clearLane u) s = .next t ∧ t.get PRT_LANE_MAP.SPARE_USED u = 0 ∧ t.get FLT_REPAIR_RES.STATUS 0 = 0 ∧ t.get FLT_REPAIR_RES.VALID 0 = 1) ∧
  (∀ s u, u < 64 → s.retiring = none → s.get PRT_LINK_STATUS.STATE (2 * u) ≠ 0 →
    ∃ t, exec (.clearLane u) s = .next t ∧ t.get FLT_REPAIR_RES.STATUS 0 = 1 ∧ t.get PRT_LANE_MAP.SPARE_USED u = s.get PRT_LANE_MAP.SPARE_USED u) ∧
  -- RETIRE_ENGINE: the spare takes over with status OK; NO_SPARE changes no engine.
  (∀ s u, u < 128 → s.retiring = none → s.engineSpareUsed u = false →
    ∃ t, exec (.retireEngine u) s = .next t ∧ t.repairMap.engines = s.repairMap.engines ++ [u] ∧ t.get FLT_REPAIR_RES.STATUS 0 = 0 ∧ t.get FLT_REPAIR_RES.VALID 0 = 1) ∧
  (∀ s u, u < 128 → s.retiring = none → s.engineSpareUsed u = true →
    ∃ t, exec (.retireEngine u) s = .next t ∧ t.engines = s.engines ∧ t.get FLT_REPAIR_RES.STATUS 0 = 2) ∧
  -- RETIRE_SLICE: the spare takes over a slice that has drained.
  (∀ s u k rest, u < 16 → s.retiring = none → (∀ x ∈ s.txns, x.slice ≠ u) → s.freeSlices = k :: rest →
    ∃ t, exec (.retireSlice u) s = .next t ∧ t.get HRT_SLICE_STAT.PHYS u = k ∧ t.retiring = none ∧ t.get FLT_REPAIR_RES.STATUS 0 = 0) ∧
  (∀ s u, 16 ≤ u → s.retiring = none → ∃ t, exec (.retireSlice u) s = .next t ∧ t.get FLT_REPAIR_RES.STATUS 0 = 3) ∧
  -- DEG_CLEAR: only while no pool has unmet demand.
  (∀ s, s.flag FLT_STAT.DEG 0 = true → (∀ p ∈ List.range 6, s.flag FLT_POOL.UNMET p = false) → ∃ t, exec .degClear s = .next t ∧ t.get FLT_STAT.DEG 0 = 0) ∧
  (∀ s p, p < 6 → s.flag FLT_POOL.UNMET p = true → exec .degClear s = .next s) ∧
  -- POOL_UNMET_DEMAND
  (∀ s p, p < 6 → ∃ t, exec (.poolUnmetDemand p) s = .next t ∧ t.get FLT_POOL.UNMET p = 1 ∧ t.get FLT_STAT.DEG 0 = 1)

/-- Management sessions, the owner's election and lease, and the event ring's delivery (R342 to R359). -/
def Obligations.SessionsAndOwner : Prop :=
  -- OPEN: the lowest free session takes the path; with none free the answer is SESSIONS_FULL.
  (∀ s path place peer tag n, s.phase = .operating → s.pathExists path place = true → (∀ k ∈ List.range 8, s.sesOpen k = true → s.get MGT_SESS.PATH k ≠ path) →
    (List.range 8).find? (fun k => !s.sesOpen k) = some n →
    ∃ t, exec (.openSession path place peer tag) s = .next t ∧ t.sesOpen n = true ∧ t.get MGT_SESS.PATH n = path ∧ (t.sesAt n).peer = peer ∧
      t.out = s.out ++ [Out.weusk ⟨1, n, .ok, tag, freeParam 1 tag, []⟩]) ∧
  (∀ s path place peer tag, s.phase = .operating → s.pathExists path place = true → (∀ k ∈ List.range 8, s.sesOpen k = true ∧ s.get MGT_SESS.PATH k ≠ path) →
    exec (.openSession path place peer tag) s = .next (s.emit (.weusk ⟨1, 0xFF, .sessionsFull, tag, freeParam 1 tag, []⟩))) ∧
  -- OPEN: a path instance that the chip has not reaches no session.
  (∀ s path place peer tag, s.pathExists path place = false → exec (.openSession path place peer tag) s = .next s) ∧
  -- CLOSE, SESSION_IDLE_TIMEOUT and SESSION_PATH_LOSS: the session is closed.
  (∀ s n tag, n < 8 → s.phase = .operating → s.sesOpen n = true → (s.sesAt n).last = none →
    ∃ t, exec (.closeSession n tag) s = .next t ∧ t.sesOpen n = false ∧ t.sesAt n = Session.idle ∧ t.out = s.out ++ [Out.weusk ⟨2, n, .ok, tag, freeParam 2 tag, []⟩]) ∧
  (∀ s n, n < 8 → s.sesOpen n = true → s.get MGT_SESS_CFG.IDLE_S 0 ≠ 0 →
    ∃ t, exec (.sessionIdleTimeout n) s = .next t ∧ t.sesOpen n = false ∧ (s.owns n = true → t.get MGT_OWN_STAT.HELD 0 = 0)) ∧
  (∀ s n, n < 8 → s.sesOpen n = true → ∃ t, exec (.sessionPathLoss n) s = .next t ∧ t.sesOpen n = false ∧ t.sesAt n = Session.idle) ∧
  -- CLAIM: with a ready TRNG and no lease the first claim opens the election with its value.
  (∀ s n tag prio, n < 8 → s.phase = .operating → s.sesOpen n = true → (s.sesAt n).last = none → s.flag KEY_TRNG_STAT.READY 0 = true →
    s.flag MGT_OWN_STAT.HELD 0 = false → s.flag MGT_OWN_STAT.ELECT 0 = false →
    ∃ t, exec (.claim n tag prio) s = .next t ∧ t.get MGT_OWN_STAT.ELECT 0 = 1 ∧
      t.claims = [(n, prio % 256 * 2 ^ 56 + (Config.trngOut s.freeCtr).toNat % 2 ^ 56, tag)]) ∧
  -- ELECTION_WINDOW_CLOSE: the highest claim owns the chip.
  (∀ s w, s.flag MGT_OWN_STAT.ELECT 0 = true → winner s.claims = some w → w.1 < 8 → w.2.1 < 2 ^ 64 →
    ∃ t, exec .electionWindowClose s = .next t ∧ t.get MGT_OWN_STAT.OWNER 0 = w.1 ∧ t.get MGT_OWN_STAT.HELD 0 = 1 ∧ t.get MGT_OWN_STAT.ELECT 0 = 0 ∧
      t.get MGT_OWN_STAT.PRIO 0 = w.2.1 / 2 ^ 56 ∧ t.get MGT_OWN_CLAIM.CLAIM 0 = w.2.1 ∧ t.claims = [] ∧ t.evtSent = 0) ∧
  -- RENEW: the owner's lease starts again; another session's is refused with NOT_OWNER and counted.
  (∀ s n tag, n < 8 → s.phase = .operating → s.sesOpen n = true → (s.sesAt n).last = none → s.owns n = true →
    ∃ t, exec (.renew n tag) s = .next t ∧ t.leaseAt = s.clk ∧ t.get MGT_OWN_STAT.LEASE_LEFT 0 = 2000) ∧
  (∀ s n tag, n < 8 → s.phase = .operating → s.sesOpen n = true → (s.sesAt n).last = none → s.owns n = false →
    ∃ t, exec (.renew n tag) s = .next t ∧ t.get MGT_SESS.NOT_OWNER n = satAdd 16 (s.get MGT_SESS.NOT_OWNER n) 1 ∧
      t.out = s.out ++ [Out.weusk ⟨6, n, .notOwner, tag, freeParam 6 tag, []⟩] ∧ t.leaseAt = s.leaseAt) ∧
  -- OWNER_LEASE_LAPSE
  (∀ s, s.flag MGT_OWN_STAT.HELD 0 = true → ∃ t, exec .ownerLeaseLapse s = .next t ∧ t.get MGT_OWN_STAT.HELD 0 = 0) ∧
  -- OWN_HANDOVER: an open successor becomes the owner and is told so.
  (∀ s n tag k, n < 8 → k < 8 → k ≠ n → s.phase = .operating → s.sesOpen n = true → s.sesOpen k = true → (s.sesAt n).last = none → s.owns n = true →
    ∃ t, exec (.ownHandover n tag k) s = .next t ∧ t.get MGT_OWN_STAT.OWNER 0 = k ∧ t.get MGT_OWN_STAT.HELD 0 = 1 ∧ t.leaseAt = s.clk ∧
      t.out = s.out ++ [Out.weusk ⟨7, n, .ok, tag, freeParam 7 tag, []⟩, Out.weusk ⟨5, k, .ok, freeTag, freeParam 5 freeTag, []⟩]) ∧
  -- RELEASE
  (∀ s n tag, n < 8 → s.phase = .operating → s.sesOpen n = true → (s.sesAt n).last = none → s.owns n = true →
    ∃ t, exec (.releaseOwnership n tag) s = .next t ∧ t.get MGT_OWN_STAT.HELD 0 = 0) ∧
  -- EVENT_QUEUE: a free place takes the record with the next SEQ; with none the event is counted.
  (∀ s ev cls detail, ev < 512 → 0 < cls → s.get MGT_EVT_STAT.COUNT 0 < 1024 →
    ∃ t, exec (.eventQueue ev cls detail) s = .next t ∧ t.get MGT_EVT_STAT.COUNT 0 = s.get MGT_EVT_STAT.COUNT 0 + 1 ∧
      t.get MGT_EVT_STAT.NEXT_SEQ 0 = (s.get MGT_EVT_STAT.NEXT_SEQ 0 + 1) % 2 ^ 32 ∧
      t.reg .MGT_EVT_REC (4 * (s.get MGT_EVT_STAT.NEXT_SEQ 0 % 1024) + 2) = word (ev + cls % 256 * 2 ^ 16 + detail % 2 ^ 32 * 2 ^ 32)) ∧
  (∀ s ev cls detail, ev < 512 → 1024 ≤ s.get MGT_EVT_STAT.COUNT 0 → exec (.eventQueue ev cls detail) s = .next (s.count MGT_EVT_STAT.OVF 0)) ∧
  -- EVENT_SEND: up to 64 records not yet sent go to the owner; with no owner they wait.
  (∀ s, s.flag MGT_OWN_STAT.HELD 0 = true → s.evtSent < s.get MGT_EVT_STAT.COUNT 0 →
    ∃ t, exec .eventSend s = .next t ∧ t.evtSent = s.evtSent + min 64 (s.get MGT_EVT_STAT.COUNT 0 - s.evtSent) ∧ t.out.length = s.out.length + 1) ∧
  (∀ s, s.flag MGT_OWN_STAT.HELD 0 = false → exec .eventSend s = .next s) ∧
  -- EVENT_ACK and EVT_ACK_WRITE: naming the oldest record frees it.
  (∀ s n tag, n < 8 → s.phase = .operating → s.sesOpen n = true → (s.sesAt n).last = none → s.owns n = true → 0 < s.get MGT_EVT_STAT.COUNT 0 →
    ∃ t, exec (.eventAck n tag s.oldestSeq) s = .next t ∧ t.get MGT_EVT_STAT.COUNT 0 = s.get MGT_EVT_STAT.COUNT 0 - 1 ∧
      t.out = s.out ++ [Out.weusk ⟨10, n, .ok, tag, freeParam 10 tag, []⟩]) ∧
  (∀ s v, v.field 31 0 = s.oldestSeq → 0 < s.get MGT_EVT_STAT.COUNT 0 →
    ∃ t, exec (.evtAckWrite v) s = .next t ∧ t.get MGT_EVT_STAT.COUNT 0 = s.get MGT_EVT_STAT.COUNT 0 - 1 ∧ t.evtSent = s.evtSent - 1) ∧
  -- EVENT_RESEND_TIMEOUT: the records are sent again from the oldest.
  (∀ s, s.flag MGT_OWN_STAT.HELD 0 = true → 0 < s.get MGT_EVT_STAT.COUNT 0 →
    ∃ t, exec .eventResendTimeout s = .next t ∧ t.evtSent = min 64 (s.get MGT_EVT_STAT.COUNT 0) ∧ t.out.length = s.out.length + 1) ∧
  -- UNKNOWN_TYPE_MESSAGE: a type not listed, and a wrong version.
  (∀ s n tag type len, n < 8 → s.phase = .operating → s.sesOpen n = true → (s.sesAt n).last = none → len ≤ 4080 → knownType type = false →
    ∃ t, exec (.unknownTypeMessage n tag 1 type len len) s = .next t ∧ t.out = s.out ++ [Out.weusk ⟨type, n, .unknownType, tag, freeParam type tag, []⟩]) ∧
  (∀ s n tag ver type len bytes, n < 8 → s.phase = .operating → s.sesOpen n = true → (s.sesAt n).last = none → ver ≠ 1 →
    ∃ t, exec (.unknownTypeMessage n tag ver type len bytes) s = .next t ∧ t.out = s.out ++ [Out.weusk ⟨type, n, .badVersion, tag, freeParam type tag, []⟩]) ∧
  -- UDP_DUPLICATE_REQUEST: the kept response goes out again.
  (∀ s n tag o, n < 8 → (s.sesAt n).last = some (tag, o) → s.sesOpen n = true → s.get MGT_SESS.PATH n = 2 → exec (.udpDuplicateRequest n tag) s = .next (s.emit o)) ∧
  (∀ s n tag, n < 8 → (s.sesAt n).last = none → exec (.udpDuplicateRequest n tag) s = .next s)

/-- Remap, the access windows and the resolution of a request (R191 to R214). -/
def Obligations.RemapAndResolve : Prop :=
  -- ACU_ERR_PEND_CLEAR
  (∀ s r, r < 4 → ∃ t, exec (.acuErrPendClear r) s = .next t ∧ t.get ACU_ERR_INFO.PEND r = 0) ∧
  -- L2_CACHE_FILL: the entry is the most recently used of its set.
  (∀ s r e, r < 4 → ∃ t, exec (.l2CacheFill r e) s = .next t ∧ (Tbl.rd (fun _ => []) t.l2Cache (l2Set r e)).head? = some (e, s.l2Look r e) ∧
      (Tbl.rd (fun _ => []) t.l2Cache (l2Set r e)).length ≤ 8) ∧
  -- ACU_WINDOW_WRITE: a locked window keeps its words and raises event 4; a window that is not valid takes word 1, and word 0 of a good size.
  (∀ s w v, w < 4096 → s.flag WIN_W0.LOCK w = true → exec (.acuWindowWrite w 0 v) s = .next (s.notice 4 0 (drsAddr .WIN_W0 w))) ∧
  (∀ s w v, w < 4096 → s.flag WIN_W0.LOCK w = false → s.flag WIN_W0.VALID w = false →
    ∃ t, exec (.acuWindowWrite w 1 v) s = .next t ∧ t.get WIN_W1.TARGET w = v.field 16 0 ∧ t.get WIN_W1.MID w = v.field 37 17 ∧ t.get WIN_W1.MID_MASK w = v.field 58 38) ∧
  (∀ s w v, w < 4096 → s.flag WIN_W0.LOCK w = false → s.flag WIN_W0.VALID w = true → exec (.acuWindowWrite w 1 v) s = .next (s.refuseWrite .WIN_W1 w)) ∧
  (∀ s w v, w < 4096 → s.flag WIN_W0.LOCK w = false → v.field 1 1 = 1 → 12 ≤ v.field 11 6 → v.field 11 6 ≤ 52 → v.field 51 12 * 2 ^ 12 % 2 ^ v.field 11 6 = 0 →
    ∃ t, exec (.acuWindowWrite w 0 v) s = .next t ∧ t.reg .WIN_W0 w = v.setField 63 53 0) ∧
  -- L1_ENTRY_WRITE: an entry that nothing uses takes the written mapping; a locked one is refused.
  (∀ s i v, i < 65536 → s.l1Locked i = false → s.flag L1_W0.HELD i = false →
    ∃ t, exec (.l1EntryWrite i 0 v) s = .next t ∧ t.get L1_W0.VALID i = v.field 0 0 ∧ t.get L1_W0.TARGET i = v.field 21 5 ∧ t.get L1_W0.LD i = v.field 25 22 ∧
      t.get L1_W0.DEV_EXT i = v.field 47 26 ∧ t.get L1_W0.FRACT i = 0) ∧
  (∀ s i v, i < 65536 → s.l1Locked i = true → exec (.l1EntryWrite i 0 v) s = .next (s.refuseWrite .L1_W0 i)) ∧
  -- FRACTURE: the lowest free table is taken, and FRACT and L2PTR show it; the command runs with status OK.
  (∀ s i p, i < 65536 → s.rmpRun = none → s.fractureStatus i = 0 → s.l2FreeTable = some p → p < 65536 →
    ∃ t, exec (.fracture i) s = .next t ∧ t.get L1_W0.FRACT i = 1 ∧ t.get L1_W0.L2PTR i = p ∧ t.rmpRun = some (RmpRun.mk i 0 p none) ∧ t.get RMP_RES.VALID 0 = 0) ∧
  (∀ s i, i < 65536 → s.rmpRun.isSome = true → exec (.fracture i) s = .next (s.refuseWrite .RMP_CMD 0)) ∧
  -- UNFRACTURE: the extent's mapping is its entries', and its table is free.
  (∀ s i, i < 65536 → s.rmpRun = none → s.unfractureStatus i = 0 →
    ∃ t, exec (.unfracture i) s = .next t ∧ t.get L1_W0.FRACT i = 0 ∧ t.get L1_W0.TARGET i = l2Target (s.l2Entry (s.get L1_W0.L2PTR i * 512)) ∧
      t.rmpRun = some (RmpRun.mk i 0 (s.get L1_W0.L2PTR i) none)) ∧
  -- WRITE_L2: the entry in HBM holds RMP_CMD_DATA.
  (∀ s i g, i < 65536 → g < 512 → s.rmpRun = none → s.flag L1_W0.VALID i = true → s.flag L1_W0.FRACT i = true → s.extentBusy i = false →
    (s.reg .RMP_CMD_DATA 0).field 3 1 = 0 → (s.reg .RMP_CMD_DATA 0).field 63 56 = 0 →
    ∃ t, exec (.writeL2 i g) s = .next t ∧ t.l2Entry (s.get L1_W0.L2PTR i * 512 + g) = s.reg .RMP_CMD_DATA 0 ∧
      t.rmpRun = some (RmpRun.mk i 0 (s.get L1_W0.L2PTR i) none)) ∧
  -- READ_L2: the running command holds the entry.
  (∀ s i g, i < 65536 → g < 512 → s.rmpRun = none → s.flag L1_W0.VALID i = true → s.flag L1_W0.FRACT i = true →
    ∃ t, exec (.readL2 i g) s = .next t ∧ t.rmpRun = some (RmpRun.mk i 0 (s.get L1_W0.L2PTR i) (some (s.l2Entry (s.get L1_W0.L2PTR i * 512 + g)).toNat))) ∧
  -- REMAP_COMMAND_COMPLETE: the result is shown with the next SEQ.
  (∀ s x, s.rmpRun = some x → x.status < 16 → x.l2ptr < 65536 →
    ∃ t, exec .remapCommandComplete s = .next t ∧ t.rmpRun = none ∧ t.get RMP_RES.STATUS 0 = x.status ∧ t.get RMP_RES.L2PTR 0 = x.l2ptr ∧
      t.get RMP_RES.SEQ 0 = (s.get RMP_RES.SEQ 0 + 1) % 256 ∧ t.get RMP_RES.VALID 0 = 1 ∧ ∀ d ∈ x.data, t.get RMP_RES_DATA.ENTRY 0 = d % 2 ^ 64) ∧
  (∀ s, s.rmpRun = none → exec .remapCommandComplete s = .next s) ∧
  -- REQUEST_RESOLVE: a request that no decoder takes is recorded, counted and denied.
  (∀ s q, s.decode q = .miss → s.flag ACU_ERR_INFO.PEND (sourceRegion q.src % 4) = false →
    ∃ t, exec (.requestResolve q) s = .next t ∧ t.get ACU_ERR_INFO.PEND (sourceRegion q.src % 4) = 1 ∧ t.get ACU_ERR_INFO.CAUSE (sourceRegion q.src % 4) = 1 ∧
      t.get ACU_CNT.DECODE_MISS (sourceRegion q.src % 4) = satAdd 16 (s.get ACU_CNT.DECODE_MISS (sourceRegion q.src % 4)) 1 ∧
      Out.denied q (wholeAnswer q) ∈ t.out) ∧
  -- REQUEST_RESOLVE: one part towards a device that the region's only window admits goes on with its translation.
  (∀ s q tg ld a n w, s.decode q = .device tg ld a → splitParts a q.len = [(0, n)] → s.listedWindows (sourceRegion q.src % 4) = [w] →
    (∀ x ∈ entryWords .window w, s.repCond (sourceRegion q.src % 4) 0 x.1 x.2 = 0 ∧ s.repCond (sourceRegion q.src % 4) 1 x.1 x.2 = 0 ∧
      s.repWord (sourceRegion q.src % 4) 1 x.1 x.2 = s.repWord (sourceRegion q.src % 4) 0 x.1 x.2) →
    s.windowAdmits (sourceRegion q.src % 4) w 1 tg a n (s.master q.src).1 (s.master q.src).2 (!q.write || q.atomic) (q.write || q.atomic) = true →
    ∃ t, exec (.requestResolve q) s = .next t ∧ t.resolved = s.resolved ++ [(sourceRegion q.src % 4, Sys2Proof.Part.mk q 0 0 n none tg ld a false)] ∧
      t.decodeQ = s.decodeQ.erase q)

/-- Temper: colours, hold queues, shapers, marks and flow bindings (R172 to R190). -/
def Obligations.FlowsPoliced : Prop :=
  -- EGRESS_PACKET_SEND: the head of the queue that conforms leaves, and its slots are owed back to its source.
  (∀ s p k both x, p < 128 → s.banked p = false → s.egressQueue p = some (k, both) → s.egressHead p k = some x → s.role p ≠ 0 → x.kind ≠ .response → x.kind ≠ .dataResponse → looped x = false →
    ∃ t, exec (.egressPacketSend p) s = .next t ∧ t.out = s.out ++ (linkPieces x).map (Out.linkPacket p) ∧ (t.niAt (p / 2)).rx = (s.niAt (p / 2)).rx.erase x ∧
      t.get ANV_CR_STAT.OCC (p / 2) = s.get ANV_CR_STAT.OCC (p / 2) - x.len ∧
      (x.cls ≠ 8 → (t.ledgerAt (p / 2) x.src).owed = (s.ledgerAt (p / 2) x.src).owed + x.len)) ∧
  -- EGRESS_PACKET_SEND: a host's response carries the greatest of the device's DevLoad and the mark kept with its request.
  (∀ s p k both x, p < 128 → s.banked p = false → s.egressQueue p = some (k, both) → s.egressHead p k = some x → s.role p = 0 →
    x.kind = .response ∨ x.kind = .dataResponse → hasDevLoad x = true → x.devload < 4 →
    ∃ t, exec (.egressPacketSend p) s = .next t ∧ t.get PRT_CXL_STATUS.DEVLOAD p = max x.devload (s.markKept p x.param) % 4 ∧ t.markKept p x.param = 0 ∧
      s.out ++ (linkPieces { x with devload := max x.devload (s.markKept p x.param) }).map (Out.linkPacket p) <+: t.out) ∧
  (∀ s p, p < 128 → s.banked p = true ∨ s.egressQueue p = none → exec (.egressPacketSend p) s = .next s) ∧
  -- REQUEST_COLOUR: without policing a request is green; by its colour it is counted and queued in the context's traffic class.
  (∀ s q c, q.port < 128 → s.ctxFor (niRegion (s.flowOf q).ni) (s.flowOf q).feid (s.flowOf q).ld = c → s.held c = [] → s.get TMP_CTX_08.PIR c = 0 →
    ∃ t, exec (.requestColour q) s = .next t ∧ t.get TMP_CTX_28.GREEN_B c = satAdd TMP_CTX_28.GREEN_B.width (s.get TMP_CTX_28.GREEN_B c) (s.ctxCharge c q.bytes) ∧
      (Tbl.rd (fun _ => []) t.voq (voqKey (s.flowOf q).ni { (s.flowOf q).pkt with tc := s.get TMP_CTX_10.TC c })).getLast? = some { (s.flowOf q).pkt with tc := s.get TMP_CTX_10.TC c }) ∧
  (∀ s q c, q.port < 128 → s.ctxFor (niRegion (s.flowOf q).ni) (s.flowOf q).feid (s.flowOf q).ld = c → s.held c = [] → (s.testColour c q.bytes).1 = .yellow →
    ∃ t, exec (.requestColour q) s = .next t ∧ t.get TMP_CTX_30.YELLOW_B c = satAdd TMP_CTX_30.YELLOW_B.width (s.get TMP_CTX_30.YELLOW_B c) (s.ctxCharge c q.bytes) ∧
      t.get TMP_CTX_28.GREEN_B c = s.get TMP_CTX_28.GREEN_B c) ∧
  (∀ s q c, q.port < 128 → s.ctxFor (niRegion (s.flowOf q).ni) (s.flowOf q).feid (s.flowOf q).ld = c → s.held c = [] → (s.testColour c q.bytes).1 = .red → s.holds c (s.flowOf q) = false →
    ∃ t, exec (.requestColour q) s = .next t ∧ t.get TMP_CTX_38.RED_B c = satAdd TMP_CTX_38.RED_B.width (s.get TMP_CTX_38.RED_B c) (s.ctxCharge c q.bytes) ∧
      t.held c = []) ∧
  -- A red request is held where HOLD_EN is 1, behind the others, and so is any request behind held ones.
  (∀ s q c, q.port < 128 → s.ctxFor (niRegion (s.flowOf q).ni) (s.flowOf q).feid (s.flowOf q).ld = c → s.holds c (s.flowOf q) = true → s.held c ≠ [] ∨ (s.testColour c q.bytes).1 = .red →
    ∃ t, exec (.requestColour q) s = .next t ∧ t.held c = s.held c ++ [HeldReq.mk (s.flowOf q) s.cycle] ∧ t.voq = s.voq ∧
      t.get TMP_CTX_40.HELD_CNT c = satAdd TMP_CTX_40.HELD_CNT.width (s.get TMP_CTX_40.HELD_CNT c) 1) ∧
  -- HOLD_QUEUE_RETEST: the head is admitted where it is not red.
  (∀ s c h rest, c < 65537 → s.held c = h :: rest → (s.testColour c h.req.bytes).1 ≠ .red →
    ∃ t, exec (.holdQueueRetest c) s = .next t ∧ t.held c = rest ∧
      (Tbl.rd (fun _ => []) t.voq (voqKey h.req.ni { h.req.pkt with tc := s.get TMP_CTX_10.TC c })).getLast? = some { h.req.pkt with tc := s.get TMP_CTX_10.TC c }) ∧
  (∀ s c h rest, c < 65537 → s.held c = h :: rest → (s.testColour c h.req.bytes).1 = .red → s.holds c h.req = true →
    ∃ t, exec (.holdQueueRetest c) s = .next t ∧ t.held c = s.held c ∧ t.voq = s.voq) ∧
  -- HOLD_QUEUE_RETEST: a red head whose context holds no longer is admitted as red (R179).
  (∀ s c h rest, c < 65537 → s.held c = h :: rest → (s.testColour c h.req.bytes).1 = .red → s.holds c h.req = false →
    ∃ t, exec (.holdQueueRetest c) s = .next t ∧ t.held c = rest ∧ t.get TMP_CTX_38.RED_B c = satAdd TMP_CTX_38.RED_B.width (s.get TMP_CTX_38.RED_B c) (s.ctxCharge c h.req.bytes)) ∧
  (∀ s c, c < 65537 → s.held c = [] → exec (.holdQueueRetest c) s = .next s) ∧
  -- HOLD_QUEUE_FULL: the time from which its ports withhold credits is kept.
  (∀ s c h rest, c < 65537 → s.held c = h :: rest → s.isHoldFull c = true → Tbl.rd (fun _ => none) s.holdFull c = none →
    ∃ t, exec (.holdQueueFull c) s = .next t ∧ Tbl.rd (fun _ => none) t.holdFull c = some s.clk) ∧
  (∀ s c, c < 65537 → s.isHoldFull c = false → exec (.holdQueueFull c) s = .next s) ∧
  -- HOLD_BOUND_EXPIRY: the full class admits a red head as red with the mark 0b11; the compact class has no bound.
  (∀ s c h rest, c < 65537 → s.held c = h :: rest → s.fullClass (niRegion h.req.ni) = true → (s.testColour c h.req.bytes).1 = .red →
    ∃ t, exec (.holdBoundExpiry c) s = .next t ∧ t.held c = rest ∧ t.markKept h.req.port h.req.pkt.param = 3 ∧
      t.get TMP_CTX_38.RED_B c = satAdd TMP_CTX_38.RED_B.width (s.get TMP_CTX_38.RED_B c) (s.ctxCharge c h.req.bytes) ∧
      t.get TMP_CTX_68.MARK3 c = satAdd TMP_CTX_68.MARK3.width (s.get TMP_CTX_68.MARK3 c) 1) ∧
  (∀ s c h rest, c < 65537 → s.held c = h :: rest → s.fullClass (niRegion h.req.ni) = false → exec (.holdBoundExpiry c) s = .next s) ∧
  -- HOLD_BOUND_WRITE: a bound under 16 ns is taken as 16.
  (∀ s r v, r < 4 →
    ∃ t, exec (.holdBoundWrite r v) s = .next t ∧ t.get TMP_CFG.HOLD_BOUND r = max 16 (v.field 47 32) ∧ t.get TMP_CFG.AUTO_BIND r = v.field 1 1 ∧
      t.get TMP_CFG.TEMPLATE r = v.field 17 2) ∧
  -- CONTEXT_REWRITE: legal rates and sizes take effect and reset the buckets; others are not performed.
  (∀ s c v, c < 65537 → ratesLegal (v.field 23 0) (v.field 47 24) (s.get TMP_CTX_10.CBS c) (s.get TMP_CTX_10.PBS c) = true →
    ∃ t, exec (.contextRewrite c 1 v) s = .next t ∧ t.get TMP_CTX_08.CIR c = v.field 23 0 ∧ t.get TMP_CTX_08.PIR c = v.field 47 24 ∧
      t.bucket c = rewritten (s.flag TMP_CTX_10.TOK_RST c) (s.get TMP_CTX_10.CBS c) (s.get TMP_CTX_10.PBS c) s.cycle) ∧
  (∀ s c v, c < 65537 → ratesLegal (s.get TMP_CTX_08.CIR c) (s.get TMP_CTX_08.PIR c) (v.field 23 0) (v.field 47 24) = true →
    ∃ t, exec (.contextRewrite c 2 v) s = .next t ∧ t.get TMP_CTX_10.CBS c = v.field 23 0 ∧ t.get TMP_CTX_10.PBS c = v.field 47 24 ∧
      t.get TMP_CTX_10.OVH c = v.field 55 48 ∧ t.get TMP_CTX_10.TC c = v.field 58 56 ∧ t.get TMP_CTX_10.PROFILE c = v.field 60 59 ∧
      t.get TMP_CTX_10.HOLD_EN c = (if s.fabricKey c then 0 else v.field 62 62)) ∧
  (∀ s c v, c < 65537 → ratesLegal (v.field 23 0) (v.field 47 24) (s.get TMP_CTX_10.CBS c) (s.get TMP_CTX_10.PBS c) = false →
    exec (.contextRewrite c 1 v) s = .next (s.refuseWrite .TMP_CTX_08 c)) ∧
  (∀ s c v, c < 65537 → ratesLegal (s.get TMP_CTX_08.CIR c) (s.get TMP_CTX_08.PIR c) (v.field 23 0) (v.field 47 24) = false →
    exec (.contextRewrite c 2 v) s = .next (s.refuseWrite .TMP_CTX_10 c)) ∧
  -- SHAPER_REWRITE: the same limits.
  (∀ s p k v, p < 128 → k < 8 → ratesLegal (v.field 23 0) (v.field 47 24) (s.get TMP_SHP_SIZE.CBS (8 * p + k)) (s.get TMP_SHP_SIZE.PBS (8 * p + k)) = true →
    ∃ t, exec (.shaperRewrite p k 0 v) s = .next t ∧ t.get TMP_SHP_RATE.CIR (8 * p + k) = v.field 23 0 ∧ t.get TMP_SHP_RATE.PIR (8 * p + k) = v.field 47 24 ∧
      t.bucket (shaperKey p k) =
        rewritten (s.flag TMP_SHP_SIZE.TOK_RST (8 * p + k)) (s.get TMP_SHP_SIZE.CBS (8 * p + k)) (s.get TMP_SHP_SIZE.PBS (8 * p + k)) s.cycle) ∧
  (∀ s p k v, p < 128 → k < 8 → ratesLegal (s.get TMP_SHP_RATE.CIR (8 * p + k)) (s.get TMP_SHP_RATE.PIR (8 * p + k)) (v.field 23 0) (v.field 47 24) = true →
    ∃ t, exec (.shaperRewrite p k 1 v) s = .next t ∧ t.get TMP_SHP_SIZE.CBS (8 * p + k) = v.field 23 0 ∧ t.get TMP_SHP_SIZE.PBS (8 * p + k) = v.field 47 24 ∧
      t.bucket (shaperKey p k) = rewritten (decide (v.field 56 56 = 1)) (v.field 23 0) (v.field 47 24) s.cycle) ∧
  (∀ s p k v, p < 128 → k < 8 → ratesLegal (v.field 23 0) (v.field 47 24) (s.get TMP_SHP_SIZE.CBS (8 * p + k)) (s.get TMP_SHP_SIZE.PBS (8 * p + k)) = false →
    exec (.shaperRewrite p k 0 v) s = .next (s.refuseWrite .TMP_SHP_RATE (8 * p + k))) ∧
  -- CMARK_RECEIVED: a remote mark of 0b10 in the full class; ignored and counted in the compact class.
  (∀ s p param c, p < 128 → c < 65537 → s.fullClass (p / 32) = true →
    ∃ t, exec (.cmarkReceived p param c) s = .next t ∧ t.markKept p param = max 2 (s.markKept p param) ∧
      t.get TMP_CTX_60.MARK2 c = satAdd TMP_CTX_60.MARK2.width (s.get TMP_CTX_60.MARK2 c) 1) ∧
  (∀ s p param c, p < 128 → c < 65537 → s.fullClass (p / 32) = false →
    ∃ t, exec (.cmarkReceived p param c) s = .next t ∧ t.get TMP_STAT.CMARK_IGN (p / 32) = satAdd TMP_STAT.CMARK_IGN.width (s.get TMP_STAT.CMARK_IGN (p / 32)) 1 ∧
      t.marks = s.marks) ∧
  -- BIND: the lowest free context, a named one, and the answers of a bind that is not made.
  (∀ s r feid ld c, r < 4 → Tbl.rd (fun _ => none) s.bindRun r = none → s.live r = true → s.findCtx r (feid % 2 ^ 17) (ld % 16) = none → s.freeCtx = some c →
    ∃ t, exec (.bindFlow r 0x1FFFF feid ld) s = .next t ∧ t.get TMP_CTX_00.BOUND c = 1 ∧ t.get TMP_CTX_00.SRC_FEID c = feid % 2 ^ 17 ∧
      t.get TMP_CTX_00.LD c = ld % 16 ∧ t.get TMP_CTX_00.REGION c = r ∧ Tbl.rd (fun _ => none) t.bindRun r = some (BindRun.mk 0 c) ∧ t.get TMP_BIND_STAT.VALID r = 0) ∧
  (∀ s r index feid ld c, r < 4 → Tbl.rd (fun _ => none) s.bindRun r = none → s.live r = true → s.findCtx r (feid % 2 ^ 17) (ld % 16) = none → s.freeCtx = some c →
    index < 65536 → s.ctxBound index = false →
    ∃ t, exec (.bindFlow r index feid ld) s = .next t ∧ t.get TMP_CTX_00.BOUND index = 1 ∧ Tbl.rd (fun _ => none) t.bindRun r = some (BindRun.mk 0 index)) ∧
  (∀ s r index feid ld c, r < 4 → Tbl.rd (fun _ => none) s.bindRun r = none → s.live r = true → s.findCtx r (feid % 2 ^ 17) (ld % 16) = none → s.freeCtx = some c →
    index ≠ 0x1FFFF → 65536 ≤ index ∨ s.ctxBound index = true →
    ∃ t, exec (.bindFlow r index feid ld) s = .next t ∧ Tbl.rd (fun _ => none) t.bindRun r = some (BindRun.mk 4 index)) ∧
  (∀ s r index feid ld c, r < 4 → Tbl.rd (fun _ => none) s.bindRun r = none → s.live r = true → s.findCtx r (feid % 2 ^ 17) (ld % 16) = some c →
    ∃ t, exec (.bindFlow r index feid ld) s = .next t ∧ Tbl.rd (fun _ => none) t.bindRun r = some (BindRun.mk 2 index)) ∧
  (∀ s r index feid ld x, r < 4 → Tbl.rd (fun _ => none) s.bindRun r = some x → exec (.bindFlow r index feid ld) s = .next (s.refuseWrite .TMP_BIND_CMD r)) ∧
  -- UNBIND: the context is free, with nothing held; NOT_BOUND otherwise.
  (∀ s r feid ld c, r < 4 → Tbl.rd (fun _ => none) s.bindRun r = none → s.live r = true → s.findCtx r (feid % 2 ^ 17) (ld % 16) = some c →
    ∃ t, exec (.unbindFlow r feid ld) s = .next t ∧ t.get TMP_CTX_00.BOUND c = 0 ∧ t.held c = [] ∧ t.get TMP_CTX_28.GREEN_B c = 0 ∧
      t.get TMP_CTX_30.YELLOW_B c = 0 ∧ Tbl.rd (fun _ => none) t.bindRun r = some (BindRun.mk 0 c)) ∧
  (∀ s r feid ld, r < 4 → Tbl.rd (fun _ => none) s.bindRun r = none → s.live r = true → s.findCtx r (feid % 2 ^ 17) (ld % 16) = none →
    ∃ t, exec (.unbindFlow r feid ld) s = .next t ∧ Tbl.rd (fun _ => none) t.bindRun r = some (BindRun.mk 3 0x10000)) ∧
  -- LOOKUP
  (∀ s r feid ld c, r < 4 → Tbl.rd (fun _ => none) s.bindRun r = none → s.findCtx r (feid % 2 ^ 17) (ld % 16) = some c →
    ∃ t, exec (.lookupFlow r feid ld) s = .next t ∧ Tbl.rd (fun _ => none) t.bindRun r = some (BindRun.mk 0 c)) ∧
  (∀ s r feid ld, r < 4 → Tbl.rd (fun _ => none) s.bindRun r = none → s.findCtx r (feid % 2 ^ 17) (ld % 16) = none →
    ∃ t, exec (.lookupFlow r feid ld) s = .next t ∧ Tbl.rd (fun _ => none) t.bindRun r = some (BindRun.mk 3 0x10000)) ∧
  -- BIND_COMMAND_COMPLETE: the result register shows the outcome.
  (∀ s r x, r < 4 → Tbl.rd (fun _ => none) s.bindRun r = some x →
    ∃ t, exec (.bindCommandComplete r) s = .next t ∧ t.get TMP_BIND_STAT.STATUS r = x.status % 16 ∧ t.get TMP_BIND_STAT.INDEX r = x.index % 2 ^ 17 ∧
      t.get TMP_BIND_STAT.SEQ r = (s.get TMP_BIND_STAT.SEQ r + 1) % 256 ∧ t.get TMP_BIND_STAT.VALID r = 1 ∧ Tbl.rd (fun _ => none) t.bindRun r = none) ∧
  (∀ s r, r < 4 → Tbl.rd (fun _ => none) s.bindRun r = none → exec (.bindCommandComplete r) s = .next s) ∧
  -- AUTO_BIND: an unbound key takes a free context with the template's parameters.
  (∀ s r feid ld c, r < 4 → s.flag TMP_CFG.AUTO_BIND r = true → s.flag TMP_CTX_00.BOUND (s.get TMP_CFG.TEMPLATE r) = true →
    s.findCtx r (feid % 2 ^ 17) (ld % 16) = none → s.mayNow (16 + r) 100000 = true → s.freeCtx = some c → s.get MGT_FAB_MEMBER.REV_MAX (feid % 2 ^ 17 / 512) ≠ 1 →
    ∃ t, exec (.autoBind r feid ld) s = .next t ∧ t.get TMP_CTX_00.BOUND c = 1 ∧ t.get TMP_CTX_00.AUTO c = 1 ∧ t.get TMP_CTX_00.SRC_FEID c = feid % 2 ^ 17 ∧
      t.reg .TMP_CTX_08 c = s.reg .TMP_CTX_08 (s.get TMP_CFG.TEMPLATE r)) ∧
  -- AUTO_BIND: a key from a chip of revision 1 is refused and counted.
  (∀ s r feid ld, r < 4 → s.flag TMP_CFG.AUTO_BIND r = true → s.flag TMP_CTX_00.BOUND (s.get TMP_CFG.TEMPLATE r) = true →
    s.findCtx r (feid % 2 ^ 17) (ld % 16) = none → s.mayNow (16 + r) 100000 = true → s.get MGT_FAB_MEMBER.REV_MAX (feid % 2 ^ 17 / 512) = 1 →
    ∃ t, exec (.autoBind r feid ld) s = .next t ∧ t.freeCtx = s.freeCtx ∧ t.get TMP_STAT.BIND_REFUSED r = satAdd TMP_STAT.BIND_REFUSED.width (s.get TMP_STAT.BIND_REFUSED r) 1) ∧
  (∀ s r feid ld, r < 4 → s.flag TMP_CFG.AUTO_BIND r = false ∨ s.flag TMP_CTX_00.BOUND (s.get TMP_CFG.TEMPLATE r) = false ∨ s.mayNow (16 + r) 100000 = false →
    exec (.autoBind r feid ld) s = .next s)

/-- Hearth: requests at a home slice, snoops and their answers, completion, agents and the directory's commands (R215 to R237). -/
def Obligations.HomesKeepLines : Prop :=
  -- HEARTH_REQUEST_ARRIVAL: the line goes to T, the request joins the line's wait list, or waits for a tracker.
  (∀ s q, q.op ≠ .wbI → q.op ≠ .wbS → s.homeDown (homeSlice q.poa) = false → q.spec = false → s.txn (q.poa / 64) = none → (s.txns.filter (fun y => y.slice = homeSlice q.poa)).length < 1024 →
    ∃ t, exec (.hearthRequestArrival q) s = .next t ∧ t.txns = s.txns ++ [newTxn (homeSlice q.poa) q []]) ∧
  (∀ s q x, q.op ≠ .wbI → q.op ≠ .wbS → s.homeDown (homeSlice q.poa) = false → q.spec = false → s.txn (q.poa / 64) = some x →
    ∃ t, exec (.hearthRequestArrival q) s = .next t ∧ t.txn (q.poa / 64) = some { x with waiting := x.waiting ++ [q] }) ∧
  (∀ s q, q.op ≠ .wbI → q.op ≠ .wbS → s.homeDown (homeSlice q.poa) = false → q.spec = false → s.txn (q.poa / 64) = none → 1024 ≤ (s.txns.filter (fun y => y.slice = homeSlice q.poa)).length →
    ∃ t, exec (.hearthRequestArrival q) s = .next t ∧ t.trkWait = s.trkWait ++ [(homeSlice q.poa, q)] ∧ t.txns = s.txns) ∧
  (∀ s q, q.op ≠ .wbI → q.op ≠ .wbS → s.homeDown (homeSlice q.poa) = false → q.spec = true → s.servesSpec (homeSlice q.poa) q.poa = false →
    ∃ t, exec (.hearthRequestArrival q) s = .next t ∧ t.out = s.out ++ [homeOut (homeSlice q.poa) q.agent (q.poa / 64) q.tag .defer] ∧ t.txns = s.txns) ∧
  -- HEARTH_REQUEST_ARRIVAL: one to a lost home is answered as the sink answers, poisoned with all ones.
  (∀ s q, s.homeDown (homeSlice q.poa) = true → reqWrites q = false →
    ∃ t, exec (.hearthRequestArrival q) s = .next t ∧ t.txns = s.txns ∧ t.out = s.out ++ [homeOut (homeSlice q.poa) q.agent (q.poa / 64) q.tag (.memData true (List.replicate 64 255))]) ∧
  -- TRANSACTION_START: the transaction starts unless its slice is banked.
  (∀ s line x a, s.txn line = some x → s.dirAddr line = some a → x.started = false → s.banked (144 + x.slice) = false → s.homeDown x.slice = false → s.hbmFenced (s.sliceRegion x.slice) a = false →
    ∃ t, exec (.transactionStart line) s = .next t ∧ (t.txn line).map Txn.started = some true) ∧
  (∀ s line x, s.txn line = some x → x.started = true ∨ s.banked (144 + x.slice) = true ∨ s.homeDown x.slice = true → exec (.transactionStart line) s = .next s) ∧
  -- DIRECTORY_CACHE_MISS: the block is filled and the miss counted.
  (∀ s line a, s.dirAddr line = some a → (s.dirBlocks (dirSet (homeSlice (64 * line)) a)).any (fun b => b.addr = a / 64) = false →
    ∃ t, exec (.directoryCacheMiss line) s = .next t ∧ (t.dirBlocks (dirSet (homeSlice (64 * line)) a)).any (fun b => b.addr = a / 64) = true ∧
      t.get HRT_CNT0.DC_MISS (homeSlice (64 * line)) = satAdd HRT_CNT0.DC_MISS.width (s.get HRT_CNT0.DC_MISS (homeSlice (64 * line))) 1) ∧
  (∀ s line a, s.dirAddr line = some a → (s.dirBlocks (dirSet (homeSlice (64 * line)) a)).any (fun b => b.addr = a / 64) = true →
    exec (.directoryCacheMiss line) s = .next s) ∧
  -- HOLD_EXPIRY and BISNP_SEND: with the last hold of that agent on that line a deferred snoop leaves the slice; a queued one leaves and is counted.
  (∀ s line agent x sp, agent < 2048 → s.txn line = some x → x.snoops.find? (fun y => y.agent = agent && decide (y.stage = .deferred)) = some sp → s.homeHolds.count (line, agent) ≤ 1 →
    ∃ t, exec (.holdExpiry line agent) s = .next t ∧ t.out = s.out ++ [homeOut x.slice (some agent) (x.req.poa / 64) 0 (.biSnp sp.op)] ∧
      t.homeHolds.contains (line, agent) = false) ∧
  (∀ s line agent, agent < 2048 → s.txn line = none →
    exec (.holdExpiry line agent) s = .next { s with homeHolds := s.homeHolds.erase (line, agent) }) ∧
  (∀ s line agent x, agent < 2048 → s.txn line = some x → 2 ≤ s.homeHolds.count (line, agent) →
    exec (.holdExpiry line agent) s = .next { s with homeHolds := s.homeHolds.erase (line, agent) }) ∧
  (∀ s line agent x sp, agent < 2048 → s.txn line = some x → x.snoops.find? (fun y => y.agent = agent && decide (y.stage = .queued)) = some sp → Tbl.rd (fun _ => 0) s.spareUntil x.slice ≤ s.clk →
    ∃ t, exec (.bisnpSend line agent) s = .next t ∧ t.out = s.out ++ [homeOut x.slice (some agent) (x.req.poa / 64) 0 (.biSnp sp.op)] ∧
      t.get HRT_CNT1.SNP_SENT x.slice = satAdd HRT_CNT1.SNP_SENT.width (s.get HRT_CNT1.SNP_SENT x.slice) 1) ∧
  -- BIRSP_RECEIVED: recorded; invalid for a BISnpInv it counts in PROTO_ERR; with no snoop outstanding it counts in LATE_RSP.
  (∀ s line agent rsp x sp, agent < 2048 → s.txn line = some x → outstanding x agent = some sp → sp.op ≠ .inv ∨ rsp = .i → x.exp ≠ .later →
    ∃ t, exec (.birspReceived line agent rsp) s = .next t ∧
      t.txn line = some { x with snoops := x.snoops.map (fun y : Snoop => if y.agent = agent then { y with stage := .done rsp } else y) }) ∧
  (∀ s line agent rsp x sp, agent < 2048 → s.txn line = some x → outstanding x agent = some sp → sp.op = .inv → rsp ≠ .i →
    ∃ t, exec (.birspReceived line agent rsp) s = .next t ∧
      t.get HRT_CNT2.PROTO_ERR (homeSlice (64 * line)) = satAdd HRT_CNT2.PROTO_ERR.width (s.get HRT_CNT2.PROTO_ERR (homeSlice (64 * line))) 1) ∧
  (∀ s line agent rsp, agent < 2048 → s.txn line = none →
    ∃ t, exec (.birspReceived line agent rsp) s = .next t ∧
      t.get HRT_CNT3.LATE_RSP (homeSlice (64 * line)) = satAdd HRT_CNT3.LATE_RSP.width (s.get HRT_CNT3.LATE_RSP (homeSlice (64 * line))) 1) ∧
  -- SNP_DEAD_RECEIVED and BISNP_TIMEOUT: an owner's line is lost.
  (∀ s line agent x sp, agent < 2048 → s.txn line = some x → outstanding x agent = some sp → (dirDecode (word x.entry)).state = .o → x.noEntry = false →
    (dirDecode (word x.entry)).agents.contains agent = true → x.fail = 0 →
    ∃ t, exec (.snpDeadReceived line agent) s = .next t ∧ (t.txn line).map Txn.fail = some 2 ∧ (t.txn line).map Txn.failAgent = some agent) ∧
  (∀ s line agent x, agent < 2048 → s.txn line = some x → outstanding x agent = none → exec (.snpDeadReceived line agent) s = .next s) ∧
  (∀ s line agent x sp, agent < 2048 → s.txn line = some x → outstanding x agent = some sp → x.fail = 0 →
    ∃ t, exec (.bisnpTimeout line agent) s = .next t ∧ (t.txn line).map Txn.fail = some 1 ∧
      t.get HRT_AGENT.TMO_CNT agent = satAdd HRT_AGENT.TMO_CNT.width (s.get HRT_AGENT.TMO_CNT agent) 1) ∧
  (∀ s line agent x, agent < 2048 → s.txn line = some x → outstanding x agent = none → exec (.bisnpTimeout line agent) s = .next s) ∧
  -- WRITEBACK_RECEIVED: a snooped agent's data is kept for the requester; the owner's ends its ownership; any other is a protocol error. Each is answered Cmp.
  (∀ s q a x, q.agent = some a → s.txn (q.poa / 64) = some x → x.started = true → x.snoops.any (fun y => y.agent = a) = true →
    ∃ t, exec (.writebackReceived q) s = .next t ∧ (t.txn (q.poa / 64)).map Txn.wb = some (some q.data) ∧
      t.out.getLast? = some (homeOut (homeSlice q.poa) q.agent (q.poa / 64) q.tag .cmp)) ∧
  (∀ s q a d, q.agent = some a → s.txn (q.poa / 64) = none → s.dirAddr (q.poa / 64) = some d → (dirDecode (s.dirWord (homeSlice q.poa) d)).state = .o →
    (dirDecode (s.dirWord (homeSlice q.poa) d)).agents = [a] → q.op = .wbI → (∀ b ∈ s.dirBlocks (dirSet (homeSlice q.poa) d), b.entries.length = 8) →
    ∃ t, exec (.writebackReceived q) s = .next t ∧ t.dirWord (homeSlice q.poa) d = 0 ∧
      t.out.getLast? = some (homeOut (homeSlice q.poa) q.agent (q.poa / 64) q.tag .cmp) ∧
      t.get HRT_CNT2.PROTO_ERR (homeSlice q.poa) = s.get HRT_CNT2.PROTO_ERR (homeSlice q.poa)) ∧
  (∀ s q, q.agent = none ∨ s.txn (q.poa / 64) = none ∧ s.dirAddr (q.poa / 64) = none →
    ∃ t, exec (.writebackReceived q) s = .next t ∧ t.out.getLast? = some (homeOut (homeSlice q.poa) q.agent (q.poa / 64) q.tag .cmp) ∧
      t.get HRT_CNT2.PROTO_ERR (homeSlice q.poa) = satAdd HRT_CNT2.PROTO_ERR.width (s.get HRT_CNT2.PROTO_ERR (homeSlice q.poa)) 1) ∧
  -- BICONFLICT
  (∀ s line agent tag, agent < 2048 →
    ∃ t, exec (.biconflict line agent tag) s = .next t ∧ t.out = s.out ++ [homeOut (homeSlice (64 * line)) (some agent) line tag .biConflictAck] ∧
      t.get HRT_CNT2.CONFLICT (homeSlice (64 * line)) = satAdd HRT_CNT2.CONFLICT.width (s.get HRT_CNT2.CONFLICT (homeSlice (64 * line))) 1) ∧
  -- EXPANDER_RESPONSE: a read's data, or the Slag sink's answer in its place; the slice's buffer gives a line it still holds; a write's completion empties its place in the buffer.
  (∀ s line d po x, s.txn line = some x → x.exp = .issued → d ≠ [] → s.bufferedLine line = none →
    ∃ t, exec (.expanderResponse line d po 0) s = .next t ∧ t.txn line = some { x with exp := .data d po }) ∧
  (∀ s line d po x w, s.txn line = some x → x.exp = .issued → d ≠ [] → s.bufferedLine line = some w →
    ∃ t, exec (.expanderResponse line d po 0) s = .next t ∧ t.txn line = some { x with exp := .data w false }) ∧
  (∀ s line d po code x, s.txn line = some x → x.exp = .issued → code ≠ 0 → d ≠ [] →
    ∃ t, exec (.expanderResponse line d po code) s = .next t ∧ t.txn line = some { x with exp := .slag }) ∧
  (∀ s line po code w, s.wbuf.find? (fun y => decide (y.2.1 = line)) = some w → ∃ t, exec (.expanderResponse line [] po code) s = .next t ∧ t.wbuf = s.wbuf.erase w ∧ t.txns = s.txns) ∧
  -- TRANSACTION_COMPLETE: not before every answer is in; then the responses go out and the line's next request takes it.
  (∀ s line x, s.txn line = some x → ready x = false ∨ s.homeDown x.slice = true → exec (.transactionComplete line) s = .next s) ∧
  (∀ s line x y rest, s.txn line = some x → ready x = true → s.homeDown x.slice = false → (finish x).2 = 0 → x.waiting = y :: rest →
    ∃ t, exec (.transactionComplete line) s = .next t ∧ t.out = s.out ++ (finish x).1.msgs.map (fun m => homeOut x.slice x.req.agent (x.req.poa / 64) x.req.tag m) ∧
      t.txns = s.txns.filter (fun z : Txn => z.req.poa / 64 ≠ line) ++ [newTxn x.slice y rest]) ∧
  (∀ s line x a, s.txn line = some x → ready x = true → s.homeDown x.slice = false → (finish x).1.grant = true → x.req.agent = some a → s.holdApplies x.slice = true → (finish x).2 = 0 →
    ∃ t, exec (.transactionComplete line) s = .next t ∧ t.homeHolds.contains (line, a) = true) ∧
  -- A lost line is logged while PEND is 0.
  (∀ s line x, s.txn line = some x → ready x = true → s.homeDown x.slice = false → (finish x).2 ≠ 0 → (finish x).1.next.state = .p → s.get HRT_POISON_LOG.PEND x.slice = 0 →
    ∃ t, exec (.transactionComplete line) s = .next t ∧ t.get HRT_POISON_LOG.PEND x.slice = 1 ∧ t.get HRT_POISON_LOG.LINE x.slice = line % 2 ^ 40 ∧
      t.get HRT_POISON_LOG.CAUSE x.slice = (finish x).2 % 8) ∧
  -- CAID_REQUEST: the chip that allocates admits with its lowest free CAID; another asks the manager.
  (∀ s vcs c, vcs < 64 → s.allocates = true → s.freeCaid = some c →
    ∃ t, exec (.caidRequest vcs) s = .next t ∧ t.get HRT_AGENT.VALID c = 1 ∧ t.get HRT_AGENT.REMOVING c = 0 ∧
      t.get HRT_AGENT.PORT_FEID c = s.localFeid (s.get VCS_ENTRY.USP_PORT vcs) % 2 ^ 17) ∧
  (∀ s vcs, vcs < 64 → s.allocates = false → s.caidWait.contains vcs = false →
    exec (.caidRequest vcs) s = .next ({ s with caidWait := s.caidWait ++ [vcs] }.emit (Out.caidRequest vcs))) ∧
  (∀ s vcs, vcs < 64 → s.allocates = false → s.caidWait.contains vcs = true → exec (.caidRequest vcs) s = .next s) ∧
  -- CAID_INSTALL and CAID_REQUEST_TIMEOUT.
  (∀ s agent feid, agent < 2048 → s.flag HRT_AGENT.VALID agent = false → s.get MGT_FAB_STAT.ROLE_NOW 0 ≠ 3 →
    ∃ t, exec (.caidInstall agent feid) s = .next t ∧ t.get HRT_AGENT.VALID agent = 1 ∧ t.get HRT_AGENT.PORT_FEID agent = feid % 2 ^ 17 ∧
      t.get HRT_ADMIT.IN_USE 0 = (s.get HRT_ADMIT.IN_USE 0 + 1) % 2 ^ HRT_ADMIT.IN_USE.width) ∧
  (∀ s agent feid, agent < 2048 → s.freeCaid = some agent → s.get MGT_FAB_STAT.ROLE_NOW 0 = 3 →
    ∃ t, exec (.caidInstall agent feid) s = .next t ∧ t.get HRT_AGENT.VALID agent = 1 ∧ t.get HRT_AGENT.PORT_FEID agent = feid % 2 ^ 17) ∧
  (∀ s agent feid, agent < 2048 → s.freeCaid ≠ some agent → s.get MGT_FAB_STAT.ROLE_NOW 0 = 3 → exec (.caidInstall agent feid) s = .next s) ∧
  (∀ s agent feid, agent < 2048 → s.flag HRT_AGENT.VALID agent = true → s.get MGT_FAB_STAT.ROLE_NOW 0 ≠ 3 → exec (.caidInstall agent feid) s = .next s) ∧
  (∀ s vcs, vcs < 64 → s.caidWait.contains vcs = true → ∃ t, exec (.caidRequestTimeout vcs) s = .next t ∧ t.caidWait.contains vcs = false) ∧
  (∀ s vcs, vcs < 64 → s.caidWait.contains vcs = false → exec (.caidRequestTimeout vcs) s = .next s) ∧
  -- AGENT_REMOVAL and DIRECTORY_SWEEP_COMPLETE.
  (∀ s agent, agent < 2048 → s.flag HRT_AGENT.VALID agent = true → s.flag HRT_AGENT.REMOVING agent = false →
    ∃ t, exec (.agentRemoval agent) s = .next t ∧ t.get HRT_AGENT.REMOVING agent = 1 ∧ t.sweeping = s.sweeping ++ [agent] ∧
      t.get HRT_ADMIT.REMOVING 0 = (s.get HRT_ADMIT.REMOVING 0 + 1) % 2 ^ HRT_ADMIT.REMOVING.width) ∧
  (∀ s agent, agent < 2048 → s.flag HRT_AGENT.VALID agent = false ∨ s.flag HRT_AGENT.REMOVING agent = true → exec (.agentRemoval agent) s = .next s) ∧
  (∀ s agent, agent < 2048 → s.flag HRT_AGENT.REMOVING agent = true →
    ∃ t, exec (.directorySweepComplete agent) s = .next t ∧ t.reg .HRT_AGENT agent = 0 ∧ t.sweeping.contains agent = false) ∧
  (∀ s agent, agent < 2048 → s.flag HRT_AGENT.REMOVING agent = false → exec (.directorySweepComplete agent) s = .next s) ∧
  -- READ_DIR: the entry, T while a transaction holds the line; STATUS 1 where no table entry covers the line.
  (∀ s line a, s.dirAddr (line % 2 ^ 40) = some a → s.txn (line % 2 ^ 40) = none → Tbl.rd (fun _ => 0) s.hbmEcc (a / 64) = 0 →
    ∃ t, exec (.readDir line) s = .next t ∧ t.reg .HRT_RES_DATA 0 = s.dirWord (homeSlice (64 * (line % 2 ^ 40))) a ∧ t.get HRT_RES.STATUS 0 = 0 ∧
      t.get HRT_RES.SLICE 0 = homeSlice (64 * (line % 2 ^ 40)) ∧ t.get HRT_RES.SEQ 0 = (s.get HRT_RES.SEQ 0 + 1) % 256 ∧ t.get HRT_RES.VALID 0 = 1) ∧
  (∀ s line, s.dirAddr (line % 2 ^ 40) = none →
    ∃ t, exec (.readDir line) s = .next t ∧ t.get HRT_RES.STATUS 0 = 1 ∧ t.get HRT_RES_DATA.ENTRY 0 = 0 ∧ t.get HRT_RES.VALID 0 = 1) ∧
  -- HRT_CFG_WRITE: HOLD_NS 32 to 1,024 and TMO_US of at least 2; any other write is refused.
  (∀ s v, 32 ≤ v.field 10 0 → v.field 10 0 ≤ 1024 → 2 ≤ v.field 31 16 →
    ∃ t, exec (.hrtCfgWrite v) s = .next t ∧ t.get HRT_CFG.HOLD_NS 0 = v.field 10 0 ∧ t.get HRT_CFG.TMO_US 0 = v.field 31 16) ∧
  (∀ s v, v.field 10 0 < 32 ∨ 1024 < v.field 10 0 ∨ v.field 31 16 < 2 → exec (.hrtCfgWrite v) s = .next (s.refuseWrite .HRT_CFG 0)) ∧
  -- POISON_LOG_CLEAR
  (∀ s n, n < 16 → ∃ t, exec (.poisonLogClear n) s = .next t ∧ t.get HRT_POISON_LOG.PEND n = 0 ∧ t.get HRT_POISON_LOG.LINE n = s.get HRT_POISON_LOG.LINE n)

/-- The FM API over a CCI (R82 to R84): the commands that read, the refusals that every command shares, and the commands that act on ports and devices. -/
def Obligations.FmApiAnswers : Prop :=
  -- A payload over 4,096 bytes; a port with no session; a state change by a session that is not the owner.
  (∀ s p len x y z q l a b ld, p < 128 → s.reachable 0 = true → s.cciPort p = true → 4096 < len →
    exec (.identify p len) s = .next (s.emit (Out.fm (.cci p len) 1 .invalidPayloadLength .none [])) ∧
      exec (.backgroundStatus p len) s = .next (s.emit (Out.fm (.cci p len) 2 .invalidPayloadLength .none [])) ∧
      exec (.getResponseLimit p len) s = .next (s.emit (Out.fm (.cci p len) 3 .invalidPayloadLength .none [])) ∧
      exec (.getEventRecords p len) s = .next (s.emit (Out.fm (.cci p len) 256 .invalidPayloadLength .none [])) ∧
      exec (.getEventPolicy p len) s = .next (s.emit (Out.fm (.cci p len) 258 .invalidPayloadLength .none [])) ∧
      exec (.getTimestamp p len) s = .next (s.emit (Out.fm (.cci p len) 768 .invalidPayloadLength .none [])) ∧
      exec (.getSupportedLogs p len) s = .next (s.emit (Out.fm (.cci p len) 1024 .invalidPayloadLength .none [])) ∧
      exec (.getLog p len) s = .next (s.emit (Out.fm (.cci p len) 1025 .invalidPayloadLength .none [])) ∧
      exec (.identifySwitch p len) s = .next (s.emit (Out.fm (.cci p len) 20736 .invalidPayloadLength .none [])) ∧
      exec (.dcdInfo p len) s = .next (s.emit (Out.fm (.cci p len) 22016 .invalidPayloadLength .none [])) ∧
      exec (.abortBackground p len) s = .next (s.emit (Out.fm (.cci p len) 5 .invalidPayloadLength .none [])) ∧
      exec (.setResponseLimit p len x) s = .next (s.emit (Out.fm (.cci p len) 4 .invalidPayloadLength .none [])) ∧
      exec (.clearEventRecords p len l) s = .next (s.emit (Out.fm (.cci p len) 257 .invalidPayloadLength .none [])) ∧
      exec (.setEventPolicy p len x) s = .next (s.emit (Out.fm (.cci p len) 259 .invalidPayloadLength .none [])) ∧
      exec (.getPortState p len l) s = .next (s.emit (Out.fm (.cci p len) 20737 .invalidPayloadLength .none [])) ∧
      exec (.portControl p len x y) s = .next (s.emit (Out.fm (.cci p len) 20738 .invalidPayloadLength .none [])) ∧
      exec (.ppbConfig p len x a b) s = .next (s.emit (Out.fm (.cci p len) 20739 .invalidPayloadLength .none [])) ∧
      exec (.vcsInfo p len x) s = .next (s.emit (Out.fm (.cci p len) 20992 .invalidPayloadLength .none [])) ∧
      exec (.bindVppb p len x y ld) s = .next (s.emit (Out.fm (.cci p len) 20993 .invalidPayloadLength .none [])) ∧
      exec (.unbindVppb p len x y) s = .next (s.emit (Out.fm (.cci p len) 20994 .invalidPayloadLength .none [])) ∧
      exec (.generateAer p len x y) s = .next (s.emit (Out.fm (.cci p len) 20995 .invalidPayloadLength .none [])) ∧
      exec (.tunnel p len x l a b) s = .next (s.emit (Out.fm (.cci p len) 21248 .invalidPayloadLength .none [])) ∧
      exec (.ldConfig p len x y a b) s = .next (s.emit (Out.fm (.cci p len) 21249 .invalidPayloadLength .none [])) ∧
      exec (.ldMemory p len x y a b) s = .next (s.emit (Out.fm (.cci p len) 21250 .invalidPayloadLength .none [])) ∧
      exec (.dcConfig p len x) s = .next (s.emit (Out.fm (.cci p len) 22017 .invalidPayloadLength .none [])) ∧
      exec (.setDcConfig p len x y q) s = .next (s.emit (Out.fm (.cci p len) 22018 .invalidPayloadLength .none [])) ∧
      exec (.extentLists p len x) s = .next (s.emit (Out.fm (.cci p len) 22019 .invalidPayloadLength .none [])) ∧
      exec (.dcAdd p len x y z) s = .next (s.emit (Out.fm (.cci p len) 22020 .invalidPayloadLength .none [])) ∧
      exec (.dcRelease p len x y l) s = .next (s.emit (Out.fm (.cci p len) 22021 .invalidPayloadLength .none [])) ∧
      exec (.unsupportedOpcode p len x) s = .next (s.emit (Out.fm (.cci p len) x .invalidPayloadLength .none [])) ∧
      exec (.weuskOverCci p len x y) s = .next (s.emit (Out.fm (.cci p len) x .invalidPayloadLength .none []))) ∧
  (∀ s p len x y z q l a b ld, p < 128 → s.reachable 0 = true → s.cciPort p = true → len ≤ 4096 → s.cciSession p = none →
    exec (.backgroundStatus p len) s = .next (s.emit (Out.fm (.cci p len) 2 .unsupported .noSession [])) ∧
      exec (.getResponseLimit p len) s = .next (s.emit (Out.fm (.cci p len) 3 .unsupported .noSession [])) ∧
      exec (.getEventRecords p len) s = .next (s.emit (Out.fm (.cci p len) 256 .unsupported .noSession [])) ∧
      exec (.getEventPolicy p len) s = .next (s.emit (Out.fm (.cci p len) 258 .unsupported .noSession [])) ∧
      exec (.getTimestamp p len) s = .next (s.emit (Out.fm (.cci p len) 768 .unsupported .noSession [])) ∧
      exec (.getSupportedLogs p len) s = .next (s.emit (Out.fm (.cci p len) 1024 .unsupported .noSession [])) ∧
      exec (.getLog p len) s = .next (s.emit (Out.fm (.cci p len) 1025 .unsupported .noSession [])) ∧
      exec (.identifySwitch p len) s = .next (s.emit (Out.fm (.cci p len) 20736 .unsupported .noSession [])) ∧
      exec (.dcdInfo p len) s = .next (s.emit (Out.fm (.cci p len) 22016 .unsupported .noSession [])) ∧
      exec (.abortBackground p len) s = .next (s.emit (Out.fm (.cci p len) 5 .unsupported .noSession [])) ∧
      exec (.setResponseLimit p len x) s = .next (s.emit (Out.fm (.cci p len) 4 .unsupported .noSession [])) ∧
      exec (.clearEventRecords p len l) s = .next (s.emit (Out.fm (.cci p len) 257 .unsupported .noSession [])) ∧
      exec (.setEventPolicy p len x) s = .next (s.emit (Out.fm (.cci p len) 259 .unsupported .noSession [])) ∧
      exec (.getPortState p len l) s = .next (s.emit (Out.fm (.cci p len) 20737 .unsupported .noSession [])) ∧
      exec (.portControl p len x y) s = .next (s.emit (Out.fm (.cci p len) 20738 .unsupported .noSession [])) ∧
      exec (.ppbConfig p len x a b) s = .next (s.emit (Out.fm (.cci p len) 20739 .unsupported .noSession [])) ∧
      exec (.vcsInfo p len x) s = .next (s.emit (Out.fm (.cci p len) 20992 .unsupported .noSession [])) ∧
      exec (.bindVppb p len x y ld) s = .next (s.emit (Out.fm (.cci p len) 20993 .unsupported .noSession [])) ∧
      exec (.unbindVppb p len x y) s = .next (s.emit (Out.fm (.cci p len) 20994 .unsupported .noSession [])) ∧
      exec (.generateAer p len x y) s = .next (s.emit (Out.fm (.cci p len) 20995 .unsupported .noSession [])) ∧
      exec (.tunnel p len x l a b) s = .next (s.emit (Out.fm (.cci p len) 21248 .unsupported .noSession [])) ∧
      exec (.ldConfig p len x y a b) s = .next (s.emit (Out.fm (.cci p len) 21249 .unsupported .noSession [])) ∧
      exec (.ldMemory p len x y a b) s = .next (s.emit (Out.fm (.cci p len) 21250 .unsupported .noSession [])) ∧
      exec (.dcConfig p len x) s = .next (s.emit (Out.fm (.cci p len) 22017 .unsupported .noSession [])) ∧
      exec (.setDcConfig p len x y q) s = .next (s.emit (Out.fm (.cci p len) 22018 .unsupported .noSession [])) ∧
      exec (.extentLists p len x) s = .next (s.emit (Out.fm (.cci p len) 22019 .unsupported .noSession [])) ∧
      exec (.dcAdd p len x y z) s = .next (s.emit (Out.fm (.cci p len) 22020 .unsupported .noSession [])) ∧
      exec (.dcRelease p len x y l) s = .next (s.emit (Out.fm (.cci p len) 22021 .unsupported .noSession []))) ∧
  (∀ s p len n x y z q l a b ld, s.CciOpen p len n → s.owns n = false →
    exec (.abortBackground p len) s = .next ((s.count MGT_SESS.NOT_OWNER n).emit (Out.fm (.cci p len) 5 .unsupported .notOwner [])) ∧
      exec (.setResponseLimit p len x) s = .next ((s.count MGT_SESS.NOT_OWNER n).emit (Out.fm (.cci p len) 4 .unsupported .notOwner [])) ∧
      exec (.clearEventRecords p len l) s = .next ((s.count MGT_SESS.NOT_OWNER n).emit (Out.fm (.cci p len) 257 .unsupported .notOwner [])) ∧
      exec (.setEventPolicy p len x) s = .next ((s.count MGT_SESS.NOT_OWNER n).emit (Out.fm (.cci p len) 259 .unsupported .notOwner [])) ∧
      exec (.portControl p len x y) s = .next ((s.count MGT_SESS.NOT_OWNER n).emit (Out.fm (.cci p len) 20738 .unsupported .notOwner [])) ∧
      exec (.ppbConfig p len x a b) s = .next ((s.count MGT_SESS.NOT_OWNER n).emit (Out.fm (.cci p len) 20739 .unsupported .notOwner [])) ∧
      exec (.bindVppb p len x y ld) s = .next ((s.count MGT_SESS.NOT_OWNER n).emit (Out.fm (.cci p len) 20993 .unsupported .notOwner [])) ∧
      exec (.unbindVppb p len x y) s = .next ((s.count MGT_SESS.NOT_OWNER n).emit (Out.fm (.cci p len) 20994 .unsupported .notOwner [])) ∧
      exec (.generateAer p len x y) s = .next ((s.count MGT_SESS.NOT_OWNER n).emit (Out.fm (.cci p len) 20995 .unsupported .notOwner [])) ∧
      exec (.tunnel p len x l a b) s = .next ((s.count MGT_SESS.NOT_OWNER n).emit (Out.fm (.cci p len) 21248 .unsupported .notOwner [])) ∧
      exec (.ldConfig p len x y a b) s = .next ((s.count MGT_SESS.NOT_OWNER n).emit (Out.fm (.cci p len) 21249 .unsupported .notOwner [])) ∧
      exec (.ldMemory p len x y a b) s = .next ((s.count MGT_SESS.NOT_OWNER n).emit (Out.fm (.cci p len) 21250 .unsupported .notOwner [])) ∧
      exec (.setDcConfig p len x y q) s = .next ((s.count MGT_SESS.NOT_OWNER n).emit (Out.fm (.cci p len) 22018 .unsupported .notOwner [])) ∧
      exec (.dcAdd p len x y z) s = .next ((s.count MGT_SESS.NOT_OWNER n).emit (Out.fm (.cci p len) 22020 .unsupported .notOwner [])) ∧
      exec (.dcRelease p len x y l) s = .next ((s.count MGT_SESS.NOT_OWNER n).emit (Out.fm (.cci p len) 22021 .unsupported .notOwner []))) ∧
  -- IDENTIFY is answered before a session opens.
  (∀ s p len, p < 128 → s.reachable 0 = true → s.cciPort p = true → len ≤ 4096 →
    exec (.identify p len) s = .next (s.emit (Out.fm (.cci p len) 1 .success .none
      [s.get MGT_CHIP_INFO.PART 0, s.get MGT_CHIP_INFO.STEP_MAJOR 0, s.get MGT_CHIP_INFO.STEP_MINOR 0]))) ∧
  -- The commands that read change nothing but what they send.
  (∀ s p len n, s.CciOpen p len n →
    exec (.getResponseLimit p len) s = .next (s.emit (Out.fm (.cci p len) 3 .success .none [s.limitOf p])) ∧
      exec (.getEventPolicy p len) s = .next (s.emit (Out.fm (.cci p len) 0x102 .success .none [Tbl.rd (fun _ => 0) s.fmReq.policy p])) ∧
      exec (.getTimestamp p len) s = .next (s.emit (Out.fm (.cci p len) 0x300 .success .none [s.tim.sec * 1000000000 + s.tim.ns])) ∧
      exec (.getSupportedLogs p len) s = .next (s.emit (Out.fm (.cci p len) 0x400 .success .none [1])) ∧
      exec (.getLog p len) s = .next (s.emit (Out.fm (.cci p len) 0x401 .success .none ((s.fitting (.cci p len) 0 4 effectsLog).flatMap fun e => [e.1, e.2]))) ∧
      exec (.identifySwitch p len) s = .next (s.emit (Out.fm (.cci p len) 0x5100 .success .none [128, 64, 1024])) ∧
      exec (.dcdInfo p len) s = .next (s.emit (Out.fm (.cci p len) 0x5600 .success .none [8, 1, (s.freePool 0).length])) ∧
      exec (.getEventRecords p len) s = .next (s.emit (Out.fm (.cci p len) 0x100 .success .none ((s.fitting (.cci p len) 32 128 (s.cxlLog.filter fun e : CxlEvent => s.vcsOf p = some e.vcs)).flatMap fun e => [e.handle, bit e.media, e.vcs] ++ e.extents)))) ∧
  -- BACKGROUND_OPERATION_STATUS: the running operation of the requester, else the last that ended.
  (∀ s p len n v o, s.CciOpen p len n → s.opsRunning.find? (fun x => x.2.cci = p) = some (v, o) →
    exec (.backgroundStatus p len) s = .next (s.emit (Out.fm (.cci p len) 2 .success .none [1, if o.bind then 0x5201 else 0x5202, v]))) ∧
  (∀ s p len n op rc ext, s.CciOpen p len n → s.opsRunning.find? (fun x => x.2.cci = p) = none → s.dcAdds.find? (fun x => x.who = p) = none → s.dcReleases.find? (fun x => x.who = p) = none →
    Tbl.rd (fun _ => none) s.fmReq.last p = some (op, rc, ext) →
    exec (.backgroundStatus p len) s = .next (s.emit (Out.fm (.cci p len) 2 .success .none [0, op, rcNumber rc, FmExt.code ext]))) ∧
  -- GET_PHYSICAL_PORT_STATE and GET_VIRTUAL_CXL_SWITCH_INFO
  (∀ s p len n k, s.CciOpen p len n → k < 128 → 20 ≤ s.limitOf p →
    exec (.getPortState p len [k]) s = .next (s.emit (Out.fm (.cci p len) 0x5101 .success .none
      [k, s.role k, s.get PRT_LINK_STATUS.STATE k, s.get PRT_LINK_STATUS.RATE k, s.get PRT_LINK_STATUS.WIDTH k, s.get PRT_CXL_STATUS.PROTO k]))) ∧
  (∀ s p len n l, s.CciOpen p len n → l.any (fun k => decide (128 ≤ k)) = true →
    exec (.getPortState p len l) s = .next (s.emit (Out.fm (.cci p len) 0x5101 .invalidInput .none []))) ∧
  (∀ s p len n v, s.CciOpen p len n → v < 64 → s.flag VCS_ENTRY.ACTIVE v = true →
    exec (.vcsInfo p len v) s = .next (s.emit (Out.fm (.cci p len) 0x5200 .success .none ((s.reg .VCS_ENTRY v).toNat ::
      (s.fitting (.cci p len) 12 4 (List.range (s.get VCS_ENTRY.DSP_CNT v + 1))).map fun i => (s.reg .VPPB_ENTRY (s.get VCS_ENTRY.FIRST_VPPB v + i)).toNat)))) ∧
  (∀ s p len n v, s.CciOpen p len n → 64 ≤ v ∨ s.flag VCS_ENTRY.ACTIVE v = false →
    exec (.vcsInfo p len v) s = .next (s.emit (Out.fm (.cci p len) 0x5200 .invalidInput .none []))) ∧
  -- SET_RESPONSE_MESSAGE_LIMIT takes 256 to 4,096 bytes.
  (∀ s p len n x, s.CciOwner p len n → 256 ≤ x → x ≤ 4096 →
    ∃ t, exec (.setResponseLimit p len x) s = .next t ∧ t.limitOf p = x ∧ t.out = s.out ++ [Out.fm (.cci p len) 4 .success .none [x]]) ∧
  (∀ s p len n x, s.CciOwner p len n → x < 256 ∨ 4096 < x →
    exec (.setResponseLimit p len x) s = .next (s.emit (Out.fm (.cci p len) 4 .invalidInput .none []))) ∧
  -- SET_EVENT_INTERRUPT_POLICY and CLEAR_EVENT_RECORDS
  (∀ s p len n x, s.CciOwner p len n →
    ∃ t, exec (.setEventPolicy p len x) s = .next t ∧ Tbl.rd (fun _ => 0) t.fmReq.policy p = x ∧ t.out = s.out ++ [Out.fm (.cci p len) 0x103 .success .none []]) ∧
  (∀ s p len n l, s.CciOwner p len n →
    ∃ t, exec (.clearEventRecords p len l) s = .next t ∧ t.cxlLog = s.cxlLog.filter (fun e : CxlEvent => !(decide (s.vcsOf p = some e.vcs) && l.contains e.handle)) ∧
      t.out = s.out ++ [Out.fm (.cci p len) 0x101 .success .none []]) ∧
  -- REQUEST_ABORT_BACKGROUND_OPERATION ends a wait of unbind option 0 or 1.
  (∀ s p len n v o, s.CciOwner p len n → s.opsRunning.find? (fun x => !x.2.bind && decide (x.2.option < 2) && decide (x.2.cci = p)) = some (v, o) →
    ∃ t, exec (.abortBackground p len) s = .next t ∧ (t.vppb v).op = none ∧ t.get VPPB_ENTRY.BUSY v = 0 ∧ t.get VPPB_ENTRY.STATE v = s.get VPPB_ENTRY.STATE v ∧
      Tbl.rd (fun _ => none) t.fmReq.last o.cci = some (0x5202, FmRc.aborted, FmExt.none) ∧ t.out = s.out ++ [Out.fm (.cci p len) 5 .success .none []]) ∧
  (∀ s p len n, s.CciOwner p len n → s.opsRunning.find? (fun x => !x.2.bind && decide (x.2.option < 2) && decide (x.2.cci = p)) = none →
    exec (.abortBackground p len) s = .next (s.emit (Out.fm (.cci p len) 5 .invalidInput .none []))) ∧
  -- PHYSICAL_PORT_CONTROL acts on downstream ports only.
  (∀ s p len n k x, s.CciOwner p len n → k < 128 → s.role k = 1 → x < 2 →
    ∃ t, exec (.portControl p len k x) s = .next t ∧ t.out = s.out ++ [Out.perst k (decide (x = 0)), Out.fm (.cci p len) 0x5102 .success .none []]) ∧
  (∀ s p len n k, s.CciOwner p len n → k < 128 → s.role k = 1 →
    ∃ t, exec (.portControl p len k 2) s = .next t ∧ t.get PRT_LINK_STATUS.DL_UP k = 0 ∧ t.out.getLast? = some (Out.fm (.cci p len) 0x5102 .success .none [])) ∧
  (∀ s p len n k x, s.CciOwner p len n → x < 3 → 128 ≤ k ∨ s.role k ≠ 1 →
    exec (.portControl p len k x) s = .next (s.emit (Out.fm (.cci p len) 0x5102 .invalidInput .roleMismatch []))) ∧
  -- Requests passed on to a port, an LD or a remote CCI, with the device's answer.
  (∀ s p len n k a b, s.CciOwner p len n → k < 128 → s.portExists k = true →
    exec (.ppbConfig p len k a b) s = .next ((s.emit (Out.fmForward (s.localFeid k) 0 a)).emit (Out.fm (.cci p len) 0x5103 .success .none (b.map (·.toNat))))) ∧
  (∀ s p len n k ld a b, s.CciOwner p len n → s.servesLd k ld = true →
    exec (.ldConfig p len k ld a b) s = .next ((s.emit (Out.fmForward (s.localFeid k) ld a)).emit (Out.fm (.cci p len) 0x5301 .success .none (b.map (·.toNat)))) ∧
      exec (.ldMemory p len k ld a b) s = .next ((s.emit (Out.fmForward (s.localFeid k) ld a)).emit (Out.fm (.cci p len) 0x5302 .success .none (b.map (·.toNat))))) ∧
  (∀ s p len n k ld a b, s.CciOwner p len n → s.servesLd k ld = false →
    exec (.ldConfig p len k ld a b) s = .next (s.emit (Out.fm (.cci p len) 0x5301 .invalidInput .roleMismatch [])) ∧
      exec (.ldMemory p len k ld a b) s = .next (s.emit (Out.fm (.cci p len) 0x5302 .invalidInput .roleMismatch []))) ∧
  (∀ s p len n k l a b, s.CciOwner p len n → k / 512 = s.get MGT_CHIP_INFO.CHIP_ID 0 → k % 512 < 128 → s.flag PRT_CXL_STATUS.MLD (k % 512) = true →
    l.any (fun x => s.targetBound (k % 512) (some x)) = false →
    exec (.tunnel p len k l a b) s = .next ((s.emit (Out.fmForward k 0xFFFF a)).emit (Out.fm (.cci p len) 0x5300 .success .none (b.map (·.toNat))))) ∧
  (∀ s p len n k l a b, s.CciOwner p len n → k / 512 = s.get MGT_CHIP_INFO.CHIP_ID 0 → l.any (fun x => s.targetBound (k % 512) (some x)) = true →
    exec (.tunnel p len k l a b) s = .next (s.emit (Out.fm (.cci p len) 0x5300 .invalidInput .roleMismatch []))) ∧
  -- GENERATE_AER_EVENT
  (∀ s p len n v x, s.CciOwner p len n → v < 1024 →
    ∃ t, exec (.generateAer p len v x) s = .next t ∧ (t.vppb v).aer = x ∧ t.out = s.out ++ [Out.fm (.cci p len) 0x5203 .success .none []]) ∧
  -- An opcode that is not implemented, and Weusk with an opcode that does not match its TYPE.
  (∀ s p len n x, s.CciOpen p len n → exec (.unsupportedOpcode p len x) s = .next (s.emit (Out.fm (.cci p len) x .unsupported .none []))) ∧
  (∀ s p len n y, s.CciOpen p len n → exec (.weuskOverCci p len (0xC000 + y % 256) y) s = .next s) ∧
  (∀ s p len n x y, s.CciOpen p len n → x ≠ 0xC000 + y % 256 → exec (.weuskOverCci p len x y) s = .next (s.emit (Out.fm (.cci p len) x .invalidInput .none []))) ∧
  -- FM_API: the same commands in a Weusk message, answered as its session's response.
  (∀ s n tag, n < 8 → s.reachable (s.get MGT_SESS.PATH n) = true → s.sesOpen n = true → (s.sesAt n).last = none →
    ∃ t, exec (.fmApi n tag .identifySwitch) s = .next t ∧ t.out = s.out ++ [Out.fm (.ses n tag) 0x5100 .success .none [128, 64, 1024]] ∧
      (t.sesAt n).last = some (tag, Out.fm (.ses n tag) 0x5100 .success .none [128, 64, 1024])) ∧
  (∀ s n tag x, n < 8 → s.reachable (s.get MGT_SESS.PATH n) = true → s.sesOpen n = true → (s.sesAt n).last = none → s.owns n = false →
    ∃ t, exec (.fmApi n tag (.setPolicy x)) s = .next t ∧ t.get MGT_SESS.NOT_OWNER n = satAdd 16 (s.get MGT_SESS.NOT_OWNER n) 1 ∧
      t.out = s.out ++ [Out.fm (.ses n tag) 0x103 .unsupported .notOwner []] ∧ t.fmReq.policy = s.fmReq.policy)

/-- Bind and Unbind vPPB, their completion and conflicts, and bindings to another chip (R70, R71, R81, R89, R164). -/
def Obligations.BindingsFollow : Prop :=
  -- BIND_VPPB: accepted as a background operation.
  (∀ s p len n v k ld, s.CciOwner p len n → v < 1024 → k < 128 → s.bindingBusy v k ld = false → s.role k = 1 → s.portExists k = true → s.flag VPPB_ENTRY.USP v = false →
    s.get VPPB_ENTRY.STATE v = 0 → s.kindSuits k ld = true → s.targetBound k ld = false → s.live (k / 32) = true → s.cacheFull v k = false →
    ∃ t, exec (.bindVppb p len v k ld) s = .next t ∧ (t.vppb v).op = some (BindOp.mk true 0 k ld p false) ∧ t.get VPPB_ENTRY.BUSY v = 1 ∧
      t.get VPPB_ENTRY.STATE v = 0 ∧ t.out.getLast? = some (Out.fm (.cci p len) 0x5201 .backgroundStarted .none [])) ∧
  -- The conflicts, in their order.
  (∀ s p len n v k ld, s.CciOwner p len n → 1024 ≤ v ∨ 128 ≤ k →
    exec (.bindVppb p len v k ld) s = .next (s.emit (Out.fm (.cci p len) 0x5201 .invalidInput .none []))) ∧
  (∀ s p len n v k ld, s.CciOwner p len n → v < 1024 → k < 128 → s.bindingBusy v k ld = true →
    exec (.bindVppb p len v k ld) s = .next (s.emit (Out.fm (.cci p len) 0x5201 .busy .bindingBusy []))) ∧
  (∀ s p len n v k ld, s.CciOwner p len n → v < 1024 → k < 128 → s.bindingBusy v k ld = false → s.role k ≠ 1 ∨ s.get VPPB_ENTRY.STATE v = 3 ∨ s.flag VPPB_ENTRY.USP v = true ∨ s.kindSuits k ld = false →
    exec (.bindVppb p len v k ld) s = .next (s.emit (Out.fm (.cci p len) 0x5201 .invalidInput .roleMismatch []))) ∧
  (∀ s p len n v k, s.CciOwner p len n → v < 1024 → k < 128 → s.bindingBusy v k none = false → s.role k = 1 → s.portExists k = true → s.flag VPPB_ENTRY.USP v = false → s.kindSuits k none = true →
    s.get VPPB_ENTRY.STATE v = 1 ∨ s.get VPPB_ENTRY.STATE v = 2 →
    exec (.bindVppb p len v k none) s = .next (s.emit (Out.fm (.cci p len) 0x5201 .invalidInput .vppbBound []))) ∧
  (∀ s p len n v k, s.CciOwner p len n → v < 1024 → k < 128 → s.bindingBusy v k none = false → s.role k = 1 → s.portExists k = true → s.flag VPPB_ENTRY.USP v = false → s.kindSuits k none = true →
    s.get VPPB_ENTRY.STATE v = 0 → s.targetBound k none = true →
    exec (.bindVppb p len v k none) s = .next (s.emit (Out.fm (.cci p len) 0x5201 .invalidInput .targetBound []))) ∧
  (∀ s p len n v k, s.CciOwner p len n → v < 1024 → k < 128 → s.bindingBusy v k none = false → s.role k = 1 → s.portExists k = true → s.flag VPPB_ENTRY.USP v = false → s.kindSuits k none = true →
    s.get VPPB_ENTRY.STATE v = 0 → s.targetBound k none = false → s.live (k / 32) = false →
    exec (.bindVppb p len v k none) s = .next (s.emit (Out.fm (.cci p len) 0x5201 .invalidInput .regionFenced []))) ∧
  (∀ s p len n v k, s.CciOwner p len n → v < 1024 → k < 128 → s.bindingBusy v k none = false → s.role k = 1 → s.portExists k = true → s.flag VPPB_ENTRY.USP v = false → s.kindSuits k none = true →
    s.get VPPB_ENTRY.STATE v = 0 → s.targetBound k none = false → s.live (k / 32) = true → s.cacheFull v k = true →
    exec (.bindVppb p len v k none) s = .next (s.emit (Out.fm (.cci p len) 0x5201 .resourcesExhausted .tableFull []))) ∧
  -- BIND_COMPLETE: the binding is in force, and the host sees a hot-add where the link is up; it waits for the target's old Quench.
  (∀ s v o, v < 1024 → (s.vppb v).op = some o → o.bind = true → ((s.niAt (o.target / 2)).triggers.isEmpty && s.quenched (o.target / 2)) = false →
    ∃ t, exec (.bindComplete v) s = .next t ∧ t.get VPPB_ENTRY.STATE v = (if o.ld.isSome then 2 else 1) ∧
      t.get VPPB_ENTRY.TARGET v = s.localFeid o.target % 2 ^ 17 ∧ t.get VPPB_ENTRY.BUSY v = 0 ∧ (t.vppb v).op = none ∧ t.get VPPB_ENTRY.REMOTE v = 0) ∧
  (∀ s v o, v < 1024 → (s.vppb v).op = some o → o.bind = true → ((s.niAt (o.target / 2)).triggers.isEmpty && s.quenched (o.target / 2)) = false →
    s.flag PRT_LINK_STATUS.DL_UP o.target = true →
    ∃ t, exec (.bindComplete v) s = .next t ∧ t.get VPPB_ENTRY.PRESENT v = 1 ∧ (t.vppb v).pdc = true ∧ (t.vppb v).dllsc = true) ∧
  (∀ s v o, v < 1024 → (s.vppb v).op = some o → o.bind = false ∨ ((s.niAt (o.target / 2)).triggers.isEmpty && s.quenched (o.target / 2)) = true →
    exec (.bindComplete v) s = .next s) ∧
  -- UNBIND_VPPB: accepted; option 1 presses the Attention Button.
  (∀ s p len n v x, s.CciOwner p len n → v < 1024 → x < 3 → s.flag VPPB_ENTRY.USP v = false → s.get VPPB_ENTRY.STATE v = 1 → (s.vppb v).op = none →
    s.bindingBusy v (s.targetOf v) none = false →
    ∃ t, exec (.unbindVppb p len v x) s = .next t ∧ (t.vppb v).op = some (BindOp.mk false x (s.targetOf v) none p false) ∧
      t.get VPPB_ENTRY.BUSY v = 1 ∧ t.get VPPB_ENTRY.STATE v = 1 ∧ (x = 1 → (t.vppb v).attn = true) ∧
      t.out = s.out ++ [Out.fm (.cci p len) 0x5202 .backgroundStarted .none []]) ∧
  (∀ s p len n v x, s.CciOwner p len n → v < 1024 → x < 3 → s.flag VPPB_ENTRY.USP v = false → s.get VPPB_ENTRY.STATE v = 0 → (s.vppb v).op = none →
    exec (.unbindVppb p len v x) s = .next (s.emit (Out.fm (.cci p len) 0x5202 .invalidInput .notBound []))) ∧
  (∀ s p len n v x, s.CciOwner p len n → v < 1024 → x < 3 → (s.vppb v).op.isSome = true →
    exec (.unbindVppb p len v x) s = .next (s.emit (Out.fm (.cci p len) 0x5202 .busy .bindingBusy []))) ∧
  -- UNBIND_COMPLETE: the vPPB becomes UNBOUND once its option's condition holds; option 2 isolates the target and shows a surprise removal.
  (∀ s v o, v < 1024 → (s.vppb v).op = some o → o.bind = false → o.option = 2 ∨ o.option = 0 ∧ s.targetDown o.target = true ∨
    o.option = 1 ∧ (s.vppb v).powerOff = true →
    ∃ t, exec (.unbindComplete v) s = .next t ∧ t.get VPPB_ENTRY.STATE v = 0 ∧ t.get VPPB_ENTRY.BUSY v = 0 ∧ t.get VPPB_ENTRY.PRESENT v = 0 ∧ (t.vppb v).op = none ∧
      Tbl.rd (fun _ => none) t.fmReq.last o.cci = some (0x5202, FmRc.success, FmExt.none)) ∧
  (∀ s v o, v < 1024 → (s.vppb v).op = some o → o.bind = false → o.option = 2 → o.target < 128 →
    ∃ t, exec (.unbindComplete v) s = .next t ∧ (t.niAt (o.target / 2)).triggers.any (fun x : Trigger => x.code = 1) = true) ∧
  (∀ s v o, v < 1024 → (s.vppb v).op = some o → o.bind = false → o.option = 0 ∧ s.targetDown o.target = false ∨ o.option = 1 ∧ (s.vppb v).powerOff = false →
    exec (.unbindComplete v) s = .next s) ∧
  -- HOT_REMOVE_TIMEOUT: Aborted with HOST_NO_ACK, the binding unchanged.
  (∀ s v o, v < 1024 → (s.vppb v).op = some o → o.bind = false → o.option = 1 →
    ∃ t, exec (.hotRemoveTimeout v) s = .next t ∧ (t.vppb v).op = none ∧ t.get VPPB_ENTRY.BUSY v = 0 ∧ t.get VPPB_ENTRY.STATE v = s.get VPPB_ENTRY.STATE v ∧
      Tbl.rd (fun _ => none) t.fmReq.last o.cci = some (0x5202, FmRc.aborted, FmExt.hostNoAck)) ∧
  (∀ s v, v < 1024 → (s.vppb v).op = none → exec (.hotRemoveTimeout v) s = .next s ∧ exec (.unbindComplete v) s = .next s) ∧
  -- REMOTE_BINDING: made and shown as a hot-add, or ended; withheld for an LD while MIXED; refused with what the target's chip answers; BUSY while no chip holds the lease.
  (∀ s n tag v feid ld, n < 8 → v < 1024 → s.reachable (s.get MGT_SESS.PATH n) = true → s.sesOpen n = true → (s.sesAt n).last = none → s.owns n = true →
    s.get MGT_FAB_STAT.ACTING_MGR 0 ≠ 0xFF → s.get MGT_FAB_STAT.MIXED 0 = 0 → (s.vppb v).op = none → s.flag VPPB_ENTRY.USP v = false → s.get VPPB_ENTRY.STATE v = 0 → feid % 2 ^ 17 / 512 ≠ s.get MGT_CHIP_INFO.CHIP_ID 0 → feid % 512 < 128 →
    (ld.any fun l => decide (16 ≤ l)) = false → (∀ w ∈ s.listed .VPPB_ENTRY, s.flag VPPB_ENTRY.REMOTE w = true → s.get VPPB_ENTRY.TARGET w ≠ feid % 2 ^ 17) →
    ∃ t, exec (.remoteBinding n tag v feid ld true false .none) s = .next t ∧ t.get VPPB_ENTRY.STATE v = (if ld.isSome then 2 else 1) ∧ t.get VPPB_ENTRY.REMOTE v = 1 ∧
      t.get VPPB_ENTRY.TARGET v = feid % 2 ^ 17 ∧ t.get VPPB_ENTRY.PRESENT v = 1 ∧ t.out = s.out ++ [Out.fm (.ses n tag) 0x5201 .success .none []]) ∧
  (∀ s n tag v feid ld answer, n < 8 → v < 1024 → s.reachable (s.get MGT_SESS.PATH n) = true → s.sesOpen n = true → (s.sesAt n).last = none → s.owns n = true →
    s.get MGT_FAB_STAT.ACTING_MGR 0 ≠ 0xFF → s.get MGT_FAB_STAT.MIXED 0 = 0 → (s.vppb v).op = none → s.flag VPPB_ENTRY.USP v = false → s.get VPPB_ENTRY.STATE v = 0 → feid % 2 ^ 17 / 512 ≠ s.get MGT_CHIP_INFO.CHIP_ID 0 → feid % 512 < 128 →
    (ld.any fun l => decide (16 ≤ l)) = false → (∀ w ∈ s.listed .VPPB_ENTRY, s.flag VPPB_ENTRY.REMOTE w = true → s.get VPPB_ENTRY.TARGET w ≠ feid % 2 ^ 17) →
    answer = .roleMismatch ∨ answer = .targetBound ∨ answer = .regionFenced →
    ∃ t, exec (.remoteBinding n tag v feid ld true false answer) s = .next t ∧ t.get VPPB_ENTRY.STATE v = 0 ∧ t.out = s.out ++ [Out.fm (.ses n tag) 0x5201 .invalidInput answer []]) ∧
  (∀ s n tag v feid ld m answer, n < 8 → v < 1024 → s.reachable (s.get MGT_SESS.PATH n) = true → s.sesOpen n = true → (s.sesAt n).last = none → s.owns n = true →
    s.get MGT_FAB_STAT.ACTING_MGR 0 ≠ 0xFF → (s.vppb v).op = none → s.flag VPPB_ENTRY.USP v = false → s.get VPPB_ENTRY.STATE v = 1 ∨ s.get VPPB_ENTRY.STATE v = 2 →
    ∃ t, exec (.remoteBinding n tag v feid ld false m answer) s = .next t ∧ t.get VPPB_ENTRY.STATE v = 0 ∧ t.get VPPB_ENTRY.REMOTE v = 0 ∧ t.get VPPB_ENTRY.PRESENT v = 0 ∧
      t.out = s.out ++ [Out.fm (.ses n tag) 0x5202 .success .none []]) ∧
  (∀ s n tag v feid l answer, n < 8 → v < 1024 → s.reachable (s.get MGT_SESS.PATH n) = true → s.sesOpen n = true → (s.sesAt n).last = none → s.owns n = true →
    s.get MGT_FAB_STAT.ACTING_MGR 0 ≠ 0xFF →
    ∃ t, exec (.remoteBinding n tag v feid (some l) true true answer) s = .next t ∧ t.get MGT_FAB_CNT.WITHHELD 0 = satAdd MGT_FAB_CNT.WITHHELD.width (s.get MGT_FAB_CNT.WITHHELD 0) 1 ∧
      t.out = s.out ++ [Out.fm (.ses n tag) 0x5201 .unsupported .modeWithheld []] ∧ t.get VPPB_ENTRY.STATE v = s.get VPPB_ENTRY.STATE v) ∧
  (∀ s n tag v feid ld b mixed answer, n < 8 → v < 1024 → s.reachable (s.get MGT_SESS.PATH n) = true → s.sesOpen n = true → (s.sesAt n).last = none → s.owns n = true →
    s.get MGT_FAB_STAT.ACTING_MGR 0 = 0xFF → s.get MGT_FAB_STAT.ROLE_NOW 0 ≠ 3 →
    ∃ t, exec (.remoteBinding n tag v feid ld b mixed answer) s = .next t ∧ t.out = s.out ++ [Out.weusk ⟨0x0C, n, .busy, tag, freeParam 0x0C tag, []⟩] ∧ t.get VPPB_ENTRY.STATE v = s.get VPPB_ENTRY.STATE v)

/-- Dynamic capacity (R74 to R78), HDM decoders and BI enables (R75, R231), surprise removal (R79, R80), IDE (R85, R86) and messages handed to decode (R158). -/
def Obligations.CapacityAndLinks : Prop :=
  -- GET_HOST_DC_REGION_CONFIG, GET_DC_REGION_EXTENT_LISTS and SET_DC_REGION_CONFIG
  (∀ s p len n v, s.CciOpen p len n → s.hasPool v = true →
    exec (.dcConfig p len v) s = .next (s.emit (Out.fm (.cci p len) 0x5601 .success .none ((List.range 8).flatMap fun k =>
      [bit (Tbl.rd (fun _ => false) s.dcSanitize (8 * v + k)), (s.dcExtents v k).length]))) ∧
    exec (.extentLists p len v) s = .next (s.emit (Out.fm (.cci p len) 0x5603 .success .none ((s.fitting (.cci p len) 16 40 ((List.range 8).flatMap fun k => (s.dcExtents v k).map fun i => (k, i))).flatMap fun x =>
      [x.1, x.2, s.get L1_W1.RELEASING x.2])))) ∧
  (∀ s p len n v, s.CciOpen p len n → s.hasPool v = false →
    exec (.dcConfig p len v) s = .next (s.emit (Out.fm (.cci p len) 0x5601 .invalidInput .none [])) ∧
    exec (.extentLists p len v) s = .next (s.emit (Out.fm (.cci p len) 0x5603 .invalidInput .none []))) ∧
  (∀ s p len n v k x, s.CciOwner p len n → s.hasPool v = true → k < 8 →
    ∃ t, exec (.setDcConfig p len v k x) s = .next t ∧ Tbl.rd (fun _ => false) t.dcSanitize (8 * v + k) = x ∧ t.out = s.out ++ [Out.fm (.cci p len) 0x5602 .success .none []]) ∧
  -- INITIATE_DYNAMIC_CAPACITY_ADD: all or nothing towards the free pool.
  (∀ s p len n v k x, s.CciOwner p len n → s.hasPool v = true → k < 8 → 0 < x → x ≤ (s.freePool v).length →
    ∃ t, exec (.dcAdd p len v k x) s = .next t ∧ t.dcAdds = s.dcAdds ++ [DcAdd.mk v k ((s.freePool v).take x) p []] ∧ t.cxlLog.length = s.cxlLog.length + 1 ∧
      t.out = s.out ++ [Out.fm (.cci p len) 0x5604 .backgroundStarted .none []]) ∧
  (∀ s p len n v k x, s.CciOwner p len n → s.hasPool v = true → k < 8 → 0 < x → (s.freePool v).length < x →
    exec (.dcAdd p len v k x) s = .next (s.emit (Out.fm (.cci p len) 0x5604 .resourcesExhausted .poolExhausted []))) ∧
  -- ADD_DYNAMIC_CAPACITY_RESPONSE and DC_ADD_TIMEOUT: the accepted extents are held, the rest return to the free pool.
  (∀ s v k l a, v < 64 → k < 8 → s.dcAddOf v k = some a → a.later = [] →
    ∃ t, exec (.dcAddResponse v k l) s = .next t ∧ t.dcAdds = s.dcAdds.erase a ∧ (∀ i ∈ a.extents, l.contains i = true → t.get L1_W0.HELD i = 1 ∧ t.get L1_W1.VCS i = a.vcs % 64) ∧
      Tbl.rd (fun _ => none) t.fmReq.last a.who = some (0x5604, FmRc.success, FmExt.none)) ∧
  (∀ s v k a, v < 64 → k < 8 → s.dcAddOf v k = some a → a.later = [] →
    ∃ t, exec (.dcAddTimeout v k) s = .next t ∧ t.dcAdds = s.dcAdds.erase a ∧ Tbl.rd (fun _ => none) t.fmReq.last a.who = some (0x5604, FmRc.aborted, FmExt.hostNoAck)) ∧
  (∀ s v k l, v < 64 → k < 8 → s.dcAddOf v k = none → exec (.dcAddResponse v k l) s = .next s ∧ exec (.dcAddTimeout v k) s = .next s) ∧
  -- INITIATE_DYNAMIC_CAPACITY_RELEASE: every named extent is marked RELEASING.
  (∀ s p len n v k l, s.CciOwner p len n → s.hasPool v = true → k < 8 → l ≠ [] → l.Nodup →
    (∀ i ∈ l, Tbl.rd (fun _ => none) s.dcRegion i = some (8 * v + k) ∧ s.flag L1_W1.RELEASING i = false) →
    ∃ t, exec (.dcRelease p len v k l) s = .next t ∧ (∀ i ∈ l, t.get L1_W1.RELEASING i = 1) ∧ t.dcReleases = s.dcReleases ++ [DcRelease.mk p v l] ∧ t.out.getLast? = some (Out.fm (.cci p len) 0x5605 .backgroundStarted .none [])) ∧
  (∀ s p len n v k l, s.CciOwner p len n → s.hasPool v = false ∨ 8 ≤ k ∨ l = [] →
    exec (.dcRelease p len v k l) s = .next (s.emit (Out.fm (.cci p len) 0x5605 .invalidInput .none []))) ∧
  -- EXTENT_RELEASE_COMPLETE: the extent is in the free pool again.
  (∀ s i, s.flag L1_W1.RELEASING i = true → s.migrating i = false → s.fillDue.contains i = false →
    ∃ t, exec (.extentReleaseComplete i) s = .next t ∧ t.get L1_W0.HELD i = 0 ∧ t.get L1_W1.RELEASING i = 0 ∧ t.get L1_W0.FRACT i = 0 ∧
      Tbl.rd (fun _ => none) t.dcRegion i = none) ∧
  (∀ s i, s.flag L1_W1.RELEASING i = false ∨ s.migrating i = true ∨ s.fillDue.contains i = true → exec (.extentReleaseComplete i) s = .next s) ∧
  -- HDM_DECODER_COMMIT: in force, or Error Not Committed; an HDM-DB decoder of the pool device needs CXL 256-byte mode, both BI enables and an admitted agent.
  (∀ s v k d, v < 64 → k < 16 → d.committed = false ∨ 8 ≤ k ∧ d.db = false ∨ k < 8 ∧ s.decoderSupported v d = true →
    exec (.hdmDecoderCommit v k d) s = .next ((s.waitCommit v k false).setDecoder v k { d with error := false })) ∧
  (∀ s v k d, v < 64 → k < 8 → d.committed = true → s.decoderSupported v d = false →
    exec (.hdmDecoderCommit v k d) s = .next ((s.waitCommit v k false).setDecoder v k { d with committed := false, error := true })) ∧
  (∀ s v k d, v < 64 → 8 ≤ k → k < 16 → d.committed = true → d.db = true → s.get PRT_CXL_STATUS.PROTO (s.get VCS_ENTRY.USP_PORT v) ≠ 2 →
    exec (.hdmDecoderCommit v k d) s = .next ((s.waitCommit v k false).setDecoder v k { d with committed := false, error := true })) ∧
  (∀ s v k d, v < 64 → 8 ≤ k → k < 16 → d.committed = true → d.db = true → s.get PRT_CXL_STATUS.PROTO (s.get VCS_ENTRY.USP_PORT v) = 2 →
    s.flag PRT_CXL_STATUS.BI (s.get VCS_ENTRY.USP_PORT v) = true → s.flag VCS_ENTRY.BI_EN v = true → Tbl.rd (fun _ => false) s.biDecoder v = true → s.agentAdmitted v = true →
    exec (.hdmDecoderCommit v k d) s = .next ((s.waitCommit v k false).setDecoder v k { d with error := false })) ∧
  -- BI_ENABLE_WRITE
  (∀ s v x, v < 64 → ∃ t, exec (.biEnableWrite v true x) s = .next t ∧ t.get VCS_ENTRY.BI_EN v = bit x) ∧
  (∀ s v x, v < 64 → ∃ t, exec (.biEnableWrite v false x) s = .next t ∧ Tbl.rd (fun _ => false) t.biDecoder v = x) ∧
  -- TARGET_SURPRISE_REMOVAL: the link goes down and every host bound to the target sees its removal.
  (∀ s p lost, p < 128 → s.role p = 1 → s.flag PRT_LINK_STATUS.DL_UP p = true →
    ∃ t, exec (.targetSurpriseRemoval p lost) s = .next t ∧ t.get PRT_LINK_STATUS.DL_UP p = 0 ∧
      (∀ v ∈ s.boundTo p, (s.vppb v).op = none → t.get VPPB_ENTRY.PRESENT v = 0 ∧ (t.vppb v).pdc = true)) ∧
  (∀ s p lost, p < 128 → s.flag PRT_LINK_STATUS.DL_UP p = false → exec (.targetSurpriseRemoval p lost) s = .next s) ∧
  -- IDE_INTEGRITY_FAILURE: counted, the stream insecure, the link down.
  (∀ s p lost, p < 128 →
    ∃ t, exec (.ideIntegrityFailure p lost) s = .next t ∧ t.get PRT_CXL_STATUS.IDE_FAIL p = satAdd PRT_CXL_STATUS.IDE_FAIL.width (s.get PRT_CXL_STATUS.IDE_FAIL p) 1 ∧
      t.get PRT_CXL_STATUS.IDE_CM p = 0 ∧ t.get PRT_CXL_STATUS.IDE_IO p = 0 ∧ t.get PRT_LINK_STATUS.DL_UP p = 0) ∧
  -- IDE_KEY_SET_UP: only in CXL 256-byte mode, with a policy, a ready TRNG and a key record in force.
  (∀ s p m x, p < 128 → s.role p ≤ 1 → s.get PRT_CXL_STATUS.PROTO p = 2 → s.idePol p ≠ 0 → s.flag KEY_TRNG_STAT.READY 0 = true → s.flag KEY_STAT.REC_VALID 0 = true →
    ∃ t, exec (.ideKeySetUp p m x) s = .next t ∧ Tbl.rd (fun _ => none) t.ideKeys p = some (Config.trngOut s.freeCtr) ∧ t.get PRT_CXL_STATUS.IDE_CM p = min m 2 ∧ t.get PRT_CXL_STATUS.IDE_IO p = bit x) ∧
  (∀ s p m x, p < 128 → 1 < s.role p ∨ s.get PRT_CXL_STATUS.PROTO p ≠ 2 ∨ s.idePol p = 0 ∨ s.flag KEY_TRNG_STAT.READY 0 = false ∨ s.flag KEY_STAT.REC_VALID 0 = false →
    exec (.ideKeySetUp p m x) s = .next s) ∧
  -- MESSAGE_TO_DECODE: a request goes on, or is kept at its port; a device's response goes to its requester; a message with a flit outstanding is held.
  (∀ s p q, p < 128 → s.mustWait p (.request q) = false → s.keptAt p = [] →
    ∃ t, exec (.messageToDecode p true (.request q)) s = .next t ∧ t.decodeQ = s.decodeQ ++ [q] ∧ t.portHold = s.portHold) ∧
  (∀ s p m, p < 128 → s.mustWait p m = true ∨ s.keptAt p ≠ [] →
    ∃ t, exec (.messageToDecode p true m) s = .next t ∧ t.keptAt p = s.keptAt p ++ [m] ∧ t.decodeQ = s.decodeQ) ∧
  (∀ s p x dv, p < 128 → s.role p = 1 → s.mustWait p (.response x dv) = false → s.keptAt p = [] →
    ∃ t, exec (.messageToDecode p true (.response x dv)) s = .next t ∧ t.get PRT_CXL_STATUS.DEVLOAD p = dv % 4 ∧
      (Tbl.rd (fun _ => []) t.voq (voqKey (p / 2) (s.withTc (p / 2) x))).getLast? = some { s.withTc (p / 2) x with devload := dv % 4 }) ∧
  (∀ s p m, p < 128 → ∃ t, exec (.messageToDecode p false m) s = .next t ∧ t.decodeQ = s.decodeQ ∧ t.portHold = s.portHold ∧
      t.get PRT_LINK_ERR.CRC_ERR p = satAdd PRT_LINK_ERR.CRC_ERR.width (s.get PRT_LINK_ERR.CRC_ERR p) 1)

/-- Hotness counting (R238 to R241) and live migration (R243 to R256). -/
def Obligations.GranulesMove : Prop :=
  -- HOTNESS_NOTICE: the oldest counted part of a region has its notice: exact on a fractured extent, and sampled on any other; with none due nothing happens.
  (∀ s r c, r < 4 → s.hot.due.find? (fun y => y.1 = r) = none → exec (.hotnessNotice r c) s = .next s) ∧
  (∀ s r x c, r < 4 → s.hot.due.find? (fun y => y.1 = r) = some (r, x, true) → (s.coalescing r).any (fun y => y.1 / 16 = partGranule x) = false → (s.coalescing r).length < 64 →
    ∃ t, exec (.hotnessNotice r c) s = .next t ∧ t.coalescing r = s.coalescing r ++ [(16 * partGranule x + homeSlice (x.poa.getD 0 % 2 ^ 46), 1)] ∧ t.resolved = s.resolved ++ [(r, x)]) ∧
  (∀ s r x c, r < 4 → s.hot.due.find? (fun y => y.1 = r) = some (r, x, true) → (s.coalescing r).any (fun y => y.1 / 16 = partGranule x) = false → 64 ≤ (s.coalescing r).length →
    ∃ t, exec (.hotnessNotice r c) s = .next t ∧ t.resolved = s.resolved ∧ Tbl.rd (fun _ => []) t.hot.waiting r = Tbl.rd (fun _ => []) s.hot.waiting r ++ [(x, s.clk)]) ∧
  (∀ s r x, r < 4 → s.hot.due.find? (fun y => y.1 = r) = some (r, x, false) → 2 ^ s.get RMP_HOT_CFG.SAMPLE_LOG2 0 ≤ Tbl.rd (fun _ => 0) s.hot.sample r + 1 →
    ∃ t, exec (.hotnessNotice r false) s = .next t ∧ t.get RMP_HOT_CNT.DROP 0 = satAdd RMP_HOT_CNT.DROP.width (s.get RMP_HOT_CNT.DROP 0) 1 ∧
      t.hot.combine = s.hot.combine ∧ Tbl.rd (fun _ => 0) t.hot.sample r = 0) ∧
  (∀ s r x, r < 4 → s.hot.due.find? (fun y => y.1 = r) = some (r, x, false) → 2 ^ s.get RMP_HOT_CFG.SAMPLE_LOG2 0 ≤ Tbl.rd (fun _ => 0) s.hot.sample r + 1 →
    s.homeDown (homeSlice (x.poa.getD 0 % 2 ^ 46)) = false → Tbl.rd (fun _ => []) s.hot.combine (homeSlice (x.poa.getD 0 % 2 ^ 46)) = [] →
    ∃ t, exec (.hotnessNotice r true) s = .next t ∧
      Tbl.rd (fun _ => []) t.hot.combine (homeSlice (x.poa.getD 0 % 2 ^ 46)) = [(partGranule x, 2 ^ s.get RMP_HOT_CFG.SAMPLE_LOG2 0)]) ∧
  -- HOTNESS_COALESCE_FLUSH: the granule's notice is sent with its count.
  (∀ s r g x, r < 4 → (s.coalescing r).find? (fun y => y.1 / 16 = g) = some x → Tbl.rd (fun _ => []) s.hot.waiting r = [] →
    ∃ t, exec (.hotnessCoalesceFlush r g) s = .next t ∧ t.coalescing r = (s.coalescing r).erase x) ∧
  (∀ s r g, r < 4 → (s.coalescing r).find? (fun x => x.1 / 16 = g) = none → exec (.hotnessCoalesceFlush r g) s = .next s) ∧
  -- HOTNESS_EPOCH_CHANGE and HOTNESS_FLUSH_COMPLETE: the banks change roles, and the status shows the new epoch.
  (∀ s g, s.flag RMP_HOT_CFG.EN 0 = true → s.hot.ready = true → s.hot.flushing = false → g < 2 ^ 25 →
    ∃ t, exec .hotnessEpochChange s = .next t ∧ t.hot.act = (s.hot.act + 1) % 3 ∧ t.hot.flushing = true ∧ t.hot.old = s.hot.combine ∧ t.hot.combine = [] ∧
      t.get RMP_HOT_STAT.VALID 0 = 0 ∧ t.readHbm (t.hotAddr ((t.hot.act + 1) % 3) g) 2 = [0, 0]) ∧
  (∀ s, s.flag RMP_HOT_CFG.EN 0 = false ∨ s.hot.ready = false ∨ s.hot.flushing = true → exec .hotnessEpochChange s = .next s) ∧
  (∀ s, s.hot.flushing = true →
    ∃ t, exec .hotnessFlushComplete s = .next t ∧ t.hot.flushing = false ∧ t.hot.old = [] ∧ t.get RMP_HOT_STAT.RET_BANK 0 = (s.hot.act + 2) % 3 ∧
      t.get RMP_HOT_STAT.ACT_BANK 0 = s.hot.act % 4 ∧ t.get RMP_HOT_STAT.EPOCH 0 = (s.get RMP_HOT_STAT.EPOCH 0 + 1) % 2 ^ 32 ∧
      t.get RMP_HOT_STAT.SEQ 0 = (s.get RMP_HOT_STAT.SEQ 0 + 1) % 256 ∧ t.get RMP_HOT_STAT.VALID 0 = 1) ∧
  (∀ s, s.hot.flushing = false → exec .hotnessFlushComplete s = .next s) ∧
  -- HOT_EN_WRITE and HOTNESS_ZERO_FILL_COMPLETE
  (∀ s v, ∃ t, exec (.hotEnWrite v) s = .next t ∧ t.get RMP_HOT_CFG.EN 0 = v.field 0 0 ∧ t.get RMP_HOT_CFG.SAMPLE_LOG2 0 = min 12 (v.field 4 1) ∧
    t.get RMP_HOT_CFG.EPOCH_MS 0 = max 10 (v.field 23 8) ∧ (v.field 0 0 = 0 → t.hot.ready = false)) ∧
  (∀ s, s.flag RMP_HOT_CFG.EN 0 = true → ∃ t, exec .hotnessZeroFillComplete s = .next t ∧ t.hot.ready = true) ∧
  (∀ s, s.flag RMP_HOT_CFG.EN 0 = false → exec .hotnessZeroFillComplete s = .next s) ∧
  -- MIGRATE: the lowest free slot takes the granule; the first failing check ends the job with its status.
  (∀ s e x k, e < 128 → s.jobRun e = some x → x.job.service = 5 → x.outcome = none → s.slotOfEngine e = none → s.migCheck (x.job.word 4) (x.job.word 5) = 0 →
    (List.range 32).find? (fun j => s.get RMP_MIG_SLOT0.PHASE j = 0) = some k →
    ∃ t, exec (.migrate e) s = .next t ∧ t.get RMP_MIG_SLOT0.PHASE k = 1 ∧ t.get RMP_MIG_SLOT0.L1_IDX k = (x.job.word 4).field 15 0 ∧
      t.get RMP_MIG_SLOT0.GRAN k = (x.job.word 4).field 24 16 ∧ t.get RMP_MIG_SLOT0.ENGINE k = e ∧ t.reg .RMP_MIG_SLOT1 k = x.job.word 5 ∧ (t.mig k).isSome = true ∧
      t.get RMP_MIG_STAT.SLOTS_USED 0 = (s.get RMP_MIG_STAT.SLOTS_USED 0 + 1) % 2 ^ RMP_MIG_STAT.SLOTS_USED.width) ∧
  (∀ s e x, e < 128 → s.jobRun e = some x → x.job.service = 5 → x.outcome = none → s.slotOfEngine e = none → s.migCheck (x.job.word 4) (x.job.word 5) ≠ 0 →
    ∃ t, exec (.migrate e) s = .next t ∧ (t.jobRun e).map JobRun.outcome = some (some (s.migCheck (x.job.word 4) (x.job.word 5), 0, 0)) ∧
      t.get RMP_MIG_STAT.SLOTS_USED 0 = s.get RMP_MIG_STAT.SLOTS_USED 0) ∧
  -- DRAIN_COMPLETE: a slot in ARM that waited for this point alone starts its first pass over all 8,192 blocks.
  (∀ s pt, pt < 20 → s.drains.contains pt = false → exec (.drainComplete pt) s = .next s) ∧
  (∀ s pt, pt < 20 → (s.accesses.any fun a => a.pt = pt && a.phase ≠ Tbl.rd (fun _ => false) s.drainPhase pt) = true → exec (.drainComplete pt) s = .next s) ∧
  (∀ s pt k m, pt < 20 → k < 32 → s.drains.contains pt = true → (∀ a ∈ s.accesses, a.pt = pt → a.phase = Tbl.rd (fun _ => false) s.drainPhase pt) → s.mig k = some m → m.waiting = [pt] → s.get RMP_MIG_SLOT0.PHASE k = 1 → (∀ j ∈ List.range 32, j ≠ k → s.mig j = none) →
    ∃ t, exec (.drainComplete pt) s = .next t ∧ t.get RMP_MIG_SLOT0.PHASE k = 2 ∧ (t.mig k).map MigRun.todo = some (List.range 8192) ∧ (t.mig k).map MigRun.round = some (m.round + 1)) ∧
  -- COPY_PASS_COMPLETE: HOLD where few blocks are dirty, CONVERGE_FAIL after MAX_PASSES, else another pass.
  (∀ s k m, k < 32 → s.mig k = some m → s.get RMP_MIG_SLOT0.PHASE k = 2 → m.issued = true → m.todo = [] → (s.migDirty k).length ≤ m.bound RMP_MIG_CFG.HOLD_BLKS →
    ∃ t, exec (.copyPassComplete k) s = .next t ∧ t.get RMP_MIG_SLOT0.PHASE k = 3 ∧ t.get RMP_MIG_SLOT0.PASS k = min 15 (s.get RMP_MIG_SLOT0.PASS k + 1)) ∧
  (∀ s k m, k < 32 → s.mig k = some m → s.get RMP_MIG_SLOT0.PHASE k = 2 → m.issued = true → m.todo = [] → m.bound RMP_MIG_CFG.HOLD_BLKS < (s.migDirty k).length →
    m.bound RMP_MIG_CFG.MAX_PASSES ≤ s.get RMP_MIG_SLOT0.PASS k + 1 →
    ∃ t, exec (.copyPassComplete k) s = .next t ∧ t.get RMP_MIG_SLOT0.PHASE k = 0 ∧ t.mig k = none ∧
      t.get RMP_MIG_STAT.ABANDONED 0 = satAdd RMP_MIG_STAT.ABANDONED.width (s.get RMP_MIG_STAT.ABANDONED 0) 1) ∧
  (∀ s k m, k < 32 → s.mig k = some m → s.get RMP_MIG_SLOT0.PHASE k = 2 → m.issued = true → m.todo = [] → m.bound RMP_MIG_CFG.HOLD_BLKS < (s.migDirty k).length →
    s.get RMP_MIG_SLOT0.PASS k + 1 < m.bound RMP_MIG_CFG.MAX_PASSES →
    ∃ t, exec (.copyPassComplete k) s = .next t ∧ t.get RMP_MIG_SLOT0.PHASE k = 2 ∧ (t.mig k).map MigRun.todo = some (s.migDirty k) ∧ t.migDirty k = []) ∧
  -- MIGRATION_HOLD: HOLD is set in the granule's entry.
  (∀ s k m, k < 32 → s.mig k = some m → s.get RMP_MIG_SLOT0.PHASE k = 3 → m.holdAt = 0 →
    ∃ t, exec (.migrationHold k) s = .next t ∧ l2Hold (t.l2Entry (t.migEntry k)) = true ∧ l2Mig (t.l2Entry (t.migEntry k)) = true ∧ (t.mig k).map MigRun.holdAt = some (s.clk + 1)) ∧
  -- HOLD_ABORT: counted; copying goes on, or ends after MAX_HOLDS.
  (∀ s k m, k < 32 → s.mig k = some m → s.get RMP_MIG_SLOT0.PHASE k = 3 → m.holdAt ≠ 0 → m.issued = false → m.holds + 1 < m.bound RMP_MIG_CFG.MAX_HOLDS →
    ∃ t, exec (.holdAbort k) s = .next t ∧ t.get RMP_MIG_SLOT0.PHASE k = 2 ∧ (t.mig k).map MigRun.holds = some (m.holds + 1) ∧
      t.get RMP_MIG_STAT.HOLD_ABORT 0 = satAdd RMP_MIG_STAT.HOLD_ABORT.width (s.get RMP_MIG_STAT.HOLD_ABORT 0) 1) ∧
  (∀ s k m, k < 32 → s.mig k = some m → s.get RMP_MIG_SLOT0.PHASE k = 3 → m.holdAt ≠ 0 → m.issued = false → m.bound RMP_MIG_CFG.MAX_HOLDS ≤ m.holds + 1 →
    ∃ t, exec (.holdAbort k) s = .next t ∧ t.get RMP_MIG_SLOT0.PHASE k = 0 ∧ t.mig k = none) ∧
  -- MIGRATION_SWAP: the level-2 entry names the new place, with MIG and HOLD clear.
  (∀ s k m, k < 32 → s.mig k = some m → s.get RMP_MIG_SLOT0.PHASE k = 3 → m.holdAt ≠ 0 → m.issued = true → m.todo = [] →
    ∃ t, exec (.migrationSwap k) s = .next t ∧ t.l2Entry (s.migEntry k) = ((s.reg .RMP_MIG_SLOT1 k).setField 1 1 0).setField 2 2 0 ∧ t.get RMP_MIG_SLOT0.PHASE k = 5 ∧
      (t.mig k).map MigRun.swapped = some true ∧ t.migDirty k = []) ∧
  -- MIGRATION_FINISH: the slot is free.
  (∀ s k m, k < 32 → s.mig k = some m → s.get RMP_MIG_SLOT0.PHASE k = 5 → m.waiting = [] → m.sanitize = false → m.autoUnfract = false →
    ∃ t, exec (.migrationFinish k) s = .next t ∧ t.get RMP_MIG_SLOT0.PHASE k = 0 ∧ t.mig k = none ∧ t.get RMP_MIG_STAT.DONE 0 = satAdd RMP_MIG_STAT.DONE.width (s.get RMP_MIG_STAT.DONE 0) 1 ∧
      t.get RMP_MIG_STAT.SLOTS_USED 0 = s.get RMP_MIG_STAT.SLOTS_USED 0 - 1) ∧
  -- MIGRATION_LOSS: before the swap a lost source or target ends the migration; after it, it stands; a fenced region of its engine ends it.
  (∀ s k m, k < 32 → s.mig k = some m → m.swapped = false → s.targetLost (l2Target m.src) = true →
    ∃ t, exec (.migrationLoss k 0) s = .next t ∧ t.get RMP_MIG_SLOT0.PHASE k = 0 ∧ t.mig k = none) ∧
  (∀ s k m, k < 32 → s.mig k = some m → m.swapped = false → s.targetLost (l2Target (s.reg .RMP_MIG_SLOT1 k)) = true →
    ∃ t, exec (.migrationLoss k 1) s = .next t ∧ t.get RMP_MIG_SLOT0.PHASE k = 0 ∧ t.mig k = none) ∧
  (∀ s k m, k < 32 → s.mig k = some m → s.regionState (s.get RMP_MIG_SLOT0.ENGINE k / 32) = 1 →
    ∃ t, exec (.migrationLoss k 2) s = .next t ∧ t.get RMP_MIG_SLOT0.PHASE k = 0 ∧ t.mig k = none) ∧
  (∀ s k m w, k < 32 → s.mig k = some m → s.targetLost (l2Target m.src) = false → s.targetLost (l2Target (s.reg .RMP_MIG_SLOT1 k)) = false → w < 2 → exec (.migrationLoss k w) s = .next s) ∧
  (∀ s k m, k < 32 → s.mig k = some m → m.swapped = true → s.targetLost (l2Target m.src) = true →
    exec (.migrationLoss k 0) s = .next (s.modMig k fun x => { x with srcLost := true }) ∧ exec (.migrationLoss k 1) s = .next s) ∧
  (∀ s k m, k < 32 → s.mig k = some m → s.get RMP_MIG_SLOT0.PHASE k ≤ 2 → s.flag L1_W1.RELEASING (s.get RMP_MIG_SLOT0.L1_IDX k) = true →
    ∃ t, exec (.migrationLoss k 3) s = .next t ∧ t.get RMP_MIG_SLOT0.PHASE k = 0 ∧ t.mig k = none) ∧
  -- A slot with no migration: nothing happens.
  (∀ s k w, k < 32 → s.mig k = none → exec (.copyPassComplete k) s = .next s ∧ exec (.migrationHold k) s = .next s ∧ exec (.holdAbort k) s = .next s ∧
    exec (.migrationSwap k) s = .next s ∧ exec (.migrationFinish k) s = .next s ∧ exec (.migrationLoss k w) s = .next s) ∧
  -- MIG_CFG_WRITE: out of range it is not performed.
  (∀ s v, v.field 7 0 ≠ 0 → 250 ≤ v.field 21 8 → v.field 21 8 ≤ 10000 → 2 ≤ v.field 25 22 → v.field 29 26 ≠ 0 →
    ∃ t, exec (.migCfgWrite v) s = .next t ∧ t.get RMP_MIG_CFG.HOLD_BLKS 0 = v.field 7 0 ∧ t.get RMP_MIG_CFG.HOLD_MAX_NS 0 = v.field 21 8 ∧
      t.get RMP_MIG_CFG.MAX_PASSES 0 = v.field 25 22 ∧ t.get RMP_MIG_CFG.MAX_HOLDS 0 = v.field 29 26 ∧ t.get RMP_MIG_CFG.TC 0 = v.field 32 30) ∧
  (∀ s v, v.field 7 0 = 0 ∨ v.field 21 8 < 250 ∨ 10000 < v.field 21 8 ∨ v.field 25 22 < 2 ∨ v.field 29 26 = 0 → exec (.migCfgWrite v) s = .next (s.refuseWrite .RMP_MIG_CFG 0))

/-- The custom instructions (R262 to R267, R287): an entry at decode, its commit, squash, deferral and answers. -/
def Obligations.CoprocessorQueue : Prop :=
  -- Each instruction takes the lowest free entry, with that entry's next generation in its ticket.
  (∀ s e rd a sz ad off k, e < 128 → s.running e = true → (List.range 32).find? (fun i => !((s.engine e).queue.any fun c => c.ticket % 32 = i)) = some k →
    ∃ t, exec (.dmLd e rd a sz ad off) s = .next t ∧
      ((t.engine e).entry (k + 32 * Tbl.rd (fun _ => 0) (s.engine e).gens k)).map CpEntry.op = some (CpOp.ld (s.asr e a) (sz % 8) ad off)) ∧
  (∀ s e rd a sz ad off k, e < 128 → s.running e = true → (List.range 32).find? (fun i => !((s.engine e).queue.any fun c => c.ticket % 32 = i)) = some k →
    ∃ t, exec (.dmSt e rd a sz ad off) s = .next t ∧
      ((t.engine e).entry (k + 32 * Tbl.rd (fun _ => 0) (s.engine e).gens k)).map CpEntry.op = some (CpOp.st (s.asr e a) (sz % 8) ad off)) ∧
  (∀ s e rd a sz ad off k, e < 128 → s.running e = true → (List.range 32).find? (fun i => !((s.engine e).queue.any fun c => c.ticket % 32 = i)) = some k →
    ∃ t, exec (.dmCopy e rd a sz ad off) s = .next t ∧
      ((t.engine e).entry (k + 32 * Tbl.rd (fun _ => 0) (s.engine e).gens k)).map CpEntry.op = some (CpOp.copy (a % 2 = 1) (s.asr e a) (s.asr e (a + 1)) (sz % 8) ad off)) ∧
  (∀ s e rd a sz ad w k, e < 128 → s.running e = true → (List.range 32).find? (fun i => !((s.engine e).queue.any fun c => c.ticket % 32 = i)) = some k →
    ∃ t, exec (.dmFill e rd a sz ad w) s = .next t ∧
      ((t.engine e).entry (k + 32 * Tbl.rd (fun _ => 0) (s.engine e).gens k)).map CpEntry.op = some (CpOp.fill (s.asr e a) (sz % 8) ad w)) ∧
  (∀ s e rd a sz ad w k, e < 128 → s.running e = true → (List.range 32).find? (fun i => !((s.engine e).queue.any fun c => c.ticket % 32 = i)) = some k →
    ∃ t, exec (.dmAmo e rd a sz ad w) s = .next t ∧
      ((t.engine e).entry (k + 32 * Tbl.rd (fun _ => 0) (s.engine e).gens k)).map CpEntry.op = some (CpOp.amo (s.asr e a) (sz % 8) ad w (s.engine e).dmCmp)) ∧
  (∀ s e rd tk k, e < 128 → s.running e = true → (List.range 32).find? (fun i => !((s.engine e).queue.any fun c => c.ticket % 32 = i)) = some k →
    ∃ t, exec (.dmWait e rd tk) s = .next t ∧
      ((t.engine e).entry (k + 32 * Tbl.rd (fun _ => 0) (s.engine e).gens k)).map CpEntry.op = some (CpOp.wait (tk.map (· % 256)))) ∧
  (∀ s e sz k, e < 128 → s.running e = true → (List.range 32).find? (fun i => !((s.engine e).queue.any fun c => c.ticket % 32 = i)) = some k →
    ∃ t, exec (.dmFence e sz) s = .next t ∧
      ((t.engine e).entry (k + 32 * Tbl.rd (fun _ => 0) (s.engine e).gens k)).map CpEntry.op = some (CpOp.fence (sz % 4))) ∧
  (∀ s e rd ad off k, e < 128 → s.running e = true → (List.range 32).find? (fun i => !((s.engine e).queue.any fun c => c.ticket % 32 = i)) = some k →
    ∃ t, exec (.dmCrc e rd ad off) s = .next t ∧
      ((t.engine e).entry (k + 32 * Tbl.rd (fun _ => 0) (s.engine e).gens k)).map CpEntry.op = some (CpOp.crc ad off)) ∧
  (∀ s e sz off k, e < 128 → s.running e = true → (List.range 32).find? (fun i => !((s.engine e).queue.any fun c => c.ticket % 32 = i)) = some k →
    ∃ t, exec (.jobDone e sz off) s = .next t ∧
      ((t.engine e).entry (k + 32 * Tbl.rd (fun _ => 0) (s.engine e).gens k)).map CpEntry.op = some (CpOp.done sz off)) ∧
  (∀ s e rd off sz k, e < 128 → s.running e = true → (List.range 32).find? (fun i => !((s.engine e).queue.any fun c => c.ticket % 32 = i)) = some k →
    ∃ t, exec (.jobSubmit e rd off sz) s = .next t ∧
      ((t.engine e).entry (k + 32 * Tbl.rd (fun _ => 0) (s.engine e).gens k)).map CpEntry.op = some (CpOp.submit off sz)) ∧
  -- Decode stalls while all 32 entries are in use, and an engine that runs nothing decodes nothing.
  (∀ s e rd a sz ad off w tk, e < 128 → s.running e = false ∨ (List.range 32).find? (fun i => !((s.engine e).queue.any fun c => c.ticket % 32 = i)) = none →
    exec (.dmLd e rd a sz ad off) s = .next s ∧ exec (.dmSt e rd a sz ad off) s = .next s ∧ exec (.dmCopy e rd a sz ad off) s = .next s ∧ exec (.dmFill e rd a sz ad w) s = .next s ∧ exec (.dmAmo e rd a sz ad w) s = .next s ∧ exec (.dmWait e rd tk) s = .next s ∧ exec (.dmFence e sz) s = .next s ∧ exec (.dmCrc e rd ad off) s = .next s ∧ exec (.jobDone e sz off) s = .next s ∧ exec (.jobSubmit e rd off sz) s = .next s) ∧
  -- COPROCESSOR_COMMIT: nothing to commit; an exception; WAIT, FENCE, CRC, JOB.DONE, JOB.SUBMIT and a store.
  (∀ s e, e < 128 → (s.engine e).queue.find? (fun c => !c.committed) = none → exec (.coprocessorCommit e) s = .next s) ∧
  (∀ s e x cause tval, e < 128 → (s.engine e).queue.find? (fun c => !c.committed) = some x → s.cpFault e x.op = some (cause, tval) →
    ∃ t, exec (.coprocessorCommit e) s = .next t ∧ (t.engine e).mcause = cause ∧ (t.engine e).mtval = tval ∧ (t.engine e).user = false ∧ (t.engine e).queue.contains x = false) ∧
  (∀ s e x k, e < 128 → (s.engine e).queue.find? (fun c => !c.committed) = some x → s.cpFault e x.op = none → x.op = .wait (some k) → ((s.engine e).queue.takeWhile (fun d => d ≠ x)).any (fun d => d.ticket = k) = false → x.rd % 32 ≠ 0 →
    ∃ t, exec (.coprocessorCommit e) s = .next t ∧ Tbl.rd (fun _ => 0) (t.engine e).x (x.rd % 32) = word (Tbl.rd (fun _ => 0) (s.engine e).results k) ∧
      (t.engine e).queue = (s.engine e).queue.erase x) ∧
  (∀ s e x, e < 128 → (s.engine e).queue.find? (fun c => !c.committed) = some x → s.cpFault e x.op = none → x.op = .wait none → (s.engine e).queue.takeWhile (fun d => d ≠ x) = [] → x.rd % 32 ≠ 0 →
    ∃ t, exec (.coprocessorCommit e) s = .next t ∧ Tbl.rd (fun _ => 0) (t.engine e).x (x.rd % 32) = word (s.engine e).dmErr ∧ (t.engine e).dmErr = 0) ∧
  (∀ s e x, e < 128 → (s.engine e).queue.find? (fun c => !c.committed) = some x → s.cpFault e x.op = none → x.op = .wait none → (s.engine e).queue.takeWhile (fun d => d ≠ x) ≠ [] → exec (.coprocessorCommit e) s = .next s) ∧
  (∀ s e x k, e < 128 → (s.engine e).queue.find? (fun c => !c.committed) = some x → s.cpFault e x.op = none → x.op = .fence k → ((s.engine e).queue.takeWhile (fun d => d ≠ x)).any (fun d => !d.reads.isEmpty || (decide (k = 2) && !d.writes.isEmpty)) = true →
    exec (.coprocessorCommit e) s = .next s) ∧
  (∀ s e x k len, e < 128 → (s.engine e).queue.find? (fun c => !c.committed) = some x → s.cpFault e x.op = none → x.op = .crc k len → x.rd % 32 ≠ 0 →
    ∃ t, exec (.coprocessorCommit e) s = .next t ∧ (t.engine e).queue = (s.engine e).queue.erase x ∧
      Tbl.rd (fun _ => 0) (t.engine e).x (x.rd % 32) = word (Nat.xor (crcRun ((s.engine e).dmCrc.toNat % 2 ^ 32) ((s.engine e).read k len)) 0xFFFFFFFF)) ∧
  (∀ s e x k off r, e < 128 → (s.engine e).queue.find? (fun c => !c.committed) = some x → s.cpFault e x.op = none → x.op = .done k off → s.jobRun e = some r → r.outcome = none → k = 0 ∨ 0x80 ≤ k ∧ k ≤ 0xFF →
    ∃ t, exec (.coprocessorCommit e) s = .next t ∧
      (t.jobRun e).map JobRun.outcome = some (some (k, ofBytes ((s.engine e).read off 8), ofBytes ((s.engine e).read (off + 8) 8)))) ∧
  (∀ s e x off k, e < 128 → (s.engine e).queue.find? (fun c => !c.committed) = some x → s.cpFault e x.op = none → x.op = .submit off k → x.rd % 32 ≠ 0 → 16 ≤ k →
    ∃ t, exec (.coprocessorCommit e) s = .next t ∧ Tbl.rd (fun _ => 0) (t.engine e).x (x.rd % 32) = 4 ∧ t.clusters = s.clusters) ∧
  (∀ s e x asd sz ad off, e < 128 → (s.engine e).queue.find? (fun c => !c.committed) = some x → s.cpFault e x.op = none → x.op = .st asd sz ad off → (s.cluster (e / 8)).acc = [] → x.writes.length ≤ 256 → x.rd % 32 ≠ 0 →
    ∃ t, exec (.coprocessorCommit e) s = .next t ∧ Tbl.rd (fun _ => 0) (t.engine e).x (x.rd % 32) = word x.ticket) ∧
  -- SPECULATIVE_READ_DEFER: the entry's reads are issued again at commit.
  (∀ s e k, e < 128 → (s.engine e).entry k = none → exec (.speculativeReadDefer e k) s = .next s) ∧
  (∀ s e k x, e < 128 → (s.engine e).entry k = some x → x.started = true → x.committed = false →
    ∃ t, exec (.speculativeReadDefer e k) s = .next t ∧ (t.engine e).entry k = some { x with started := false, deferred := true, reads := opReads x.op, staged := [] }) ∧
  -- COPROCESSOR_SQUASH: younger entries that have not committed go, and are only counted.
  (∀ s e k, e < 128 → ((s.engine e).queue.drop k).filter (fun c => !c.committed) = [] → exec (.coprocessorSquash e k) s = .next s) ∧
  (∀ s e k l, e < 128 → ((s.engine e).queue.drop k).filter (fun c => !c.committed) = l → l ≠ [] →
    ∃ t, exec (.coprocessorSquash e k) s = .next t ∧ (t.engine e).queue = (s.engine e).queue.filter (fun c => !l.contains c) ∧
      (t.engine e).dmSquash = (s.engine e).dmSquash + word l.length ∧ t.get TNG_ENG_CNT.SQUASH e = satAdd TNG_ENG_CNT.SQUASH.width (s.get TNG_ENG_CNT.SQUASH e) l.length) ∧
  -- FAR_RESPONSE: nothing comes for an access that has not been sent; what the chip's own checks denied is answered so; a write's answer ends its entry, whose status stays with its ticket.
  (∀ s e tag st sl d, e < 128 → (s.cluster (e / 8)).acc.find? (fun a => a.engine = e && a.tag = tag && a.issued) = none → exec (.farResponse e tag st sl d) s = .next s) ∧
  (∀ s e tg st sl d a, e < 128 → (s.cluster (e / 8)).acc.find? (fun y => y.engine = e && y.tag = tg && y.issued) = some a → s.denials.find? (fun y => y.1 = accReq a) = none →
    s.unsent a = true ∨ st = 2 ∨ st = 3 → exec (.farResponse e tg st sl d) s = .next s) ∧
  (∀ s e st sl d a x, e < 128 → (s.cluster (e / 8)).acc = [a] → a.engine = e → a.tag = cpTag x.ticket 0 1 → a.issued = true → (s.engine e).queue = [x] → x.committed = true → x.reads = [] →
    x.writes = [0] → x.status = 0 → s.unsent a = false → s.denials.find? (fun y => y.1 = accReq a) = none → st < 6 → st ≠ 2 → st ≠ 3 →
    ∃ t, exec (.farResponse e (cpTag x.ticket 0 1) st sl d) s = .next t ∧ (t.engine e).queue = [] ∧ Tbl.rd (fun _ => 0) (t.engine e).results x.ticket = st + (if 4 ≤ st then sl % 16 * 256 else 0) ∧
      (t.cluster (e / 8)).acc = [] ∧ t.decodeQ = s.decodeQ)

/-- Jobs of the Tongs clusters (R268 to R280): submission, dispatch, the services, kernels, records, cancel, engine reset and loading. -/
def Obligations.JobsRun : Prop :=
  -- TNG_SUB_GO: an admitted job is queued and has its JOB_ID; a refused one is answered with its status.
  (∀ s c, c < 16 → s.admission c ((List.range 8).map fun k => s.reg .TNG_SUB_DESC (8 * c + k)) = 0 →
    ∃ t, exec (.tngSubGo c) s = .next t ∧ t.get TNG_SUB_RES.STATUS c = 0 ∧ t.get TNG_SUB_ID.JOB_ID c = (s.cluster c).nextId % 2 ^ 32 ∧ t.get TNG_SUB_RES.VALID c = 1 ∧
      t.get TNG_SUB_RES.SEQ c = (s.get TNG_SUB_RES.SEQ c + 1) % 256 ∧
      (t.cluster c).queue = (s.cluster c).queue ++ [Job.mk (some (s.cluster c).nextId) (s.cluster c).nextSeq ((List.range 8).map fun k => s.reg .TNG_SUB_DESC (8 * c + k)) 0]) ∧
  (∀ s c, c < 16 → s.admission c ((List.range 8).map fun k => s.reg .TNG_SUB_DESC (8 * c + k)) ≠ 0 →
    ∃ t, exec (.tngSubGo c) s = .next t ∧ t.get TNG_SUB_RES.STATUS c = s.admission c ((List.range 8).map fun k => s.reg .TNG_SUB_DESC (8 * c + k)) ∧
      t.get TNG_SUB_RES.VALID c = 1 ∧ t.clusters = s.clusters) ∧
  -- DEVICE_JOB_SUBMIT: a directory sweep or a zero-fill of the device's own, with no JOB_ID.
  (∀ s c a, c < 16 → s.regionState (c / 4) ≠ 1 →
    ∃ t, exec (.deviceJobSubmit c false a) s = .next t ∧ (t.cluster c).queue = (s.cluster c).queue ++ [Job.mk none (s.cluster c).nextSeq [6, 0, 0, 0, word (a % 2048), 0, 0, 0] 2]) ∧
  (∀ s c f a, c < 16 → s.regionState (c / 4) = 1 → exec (.deviceJobSubmit c f a) s = .next s) ∧
  -- JOB_DISPATCH: the oldest eligible job goes to the lowest idle engine that holds its program.
  (∀ s c, c < 16 → s.regionState (c / 4) = 1 ∨ s.banked (128 + c) = true → exec (.jobDispatch c) s = .next s) ∧
  (∀ s c j e, c < 16 → s.regionState (c / 4) ≠ 1 → s.banked (128 + c) = false →
    (s.cluster c).queue.find? (fun y => s.eligible' c y && (decide (s.holdersOf c y.service = 0) || (s.idleHolder c y.service).isSome)) = some j → s.idleHolder c j.service = some e →
    ∃ t, exec (.jobDispatch c) s = .next t ∧ (t.jobRun e).map JobRun.job = some j ∧ (t.cluster c).queue = (s.cluster c).queue.erase j ∧ t.engState e = 1 ∧
      t.get TNG_ENG_STAT.SERVICE e = j.service % 256 ∧ t.get TNG_ENG_STAT.JOB_ID e = j.id.getD 0 % 2 ^ 32) ∧
  -- The four line services ask for the next 4 KiB of lines, and end once the last has been done.
  (∀ s e r, e < 128 → s.jobRun e = some r → r.job.service = 1 → r.outcome = none → (s.cluster (e / 8)).acc.any (fun a => a.engine = e) = false → r.fail = 0 → r.cancel = false →
    r.next < r.job.total → asdSpace (r.job.word 6) ≠ 2 → asdSpace (r.job.word 7) ≠ 2 →
    ∃ t, exec (.jobCopy e) s = .next t ∧ (t.jobRun e).map JobRun.next = some (r.next + min 64 (r.job.total - r.next))) ∧
  (∀ s e r, e < 128 → s.jobRun e = some r → r.job.service = 1 → r.outcome = none → (s.cluster (e / 8)).acc.any (fun a => a.engine = e) = false → r.fail = 0 → r.job.total ≤ r.next →
    ∃ t, exec (.jobCopy e) s = .next t ∧ (t.jobRun e).map (fun y : JobRun => y.outcome.isSome) = some true) ∧
  (∀ s e r, e < 128 → s.jobRun e = some r → r.job.service = 2 → r.outcome = none → (s.cluster (e / 8)).acc.any (fun a => a.engine = e) = false → r.fail = 0 → r.cancel = false →
    r.next < r.job.total → asdSpace (r.job.word 6) ≠ 2 → asdSpace (r.job.word 7) ≠ 2 →
    ∃ t, exec (.jobFill e) s = .next t ∧ (t.jobRun e).map JobRun.next = some (r.next + min 64 (r.job.total - r.next))) ∧
  (∀ s e r, e < 128 → s.jobRun e = some r → r.job.service = 2 → r.outcome = none → (s.cluster (e / 8)).acc.any (fun a => a.engine = e) = false → r.fail = 0 → r.job.total ≤ r.next →
    ∃ t, exec (.jobFill e) s = .next t ∧ (t.jobRun e).map (fun y : JobRun => y.outcome.isSome) = some true) ∧
  (∀ s e r, e < 128 → s.jobRun e = some r → r.job.service = 3 → r.outcome = none → (s.cluster (e / 8)).acc.any (fun a => a.engine = e) = false → r.fail = 0 → r.cancel = false →
    r.next < r.job.total → asdSpace (r.job.word 6) ≠ 2 → asdSpace (r.job.word 7) ≠ 2 →
    ∃ t, exec (.jobCrc e) s = .next t ∧ (t.jobRun e).map JobRun.next = some (r.next + min 64 (r.job.total - r.next))) ∧
  (∀ s e r, e < 128 → s.jobRun e = some r → r.job.service = 3 → r.outcome = none → (s.cluster (e / 8)).acc.any (fun a => a.engine = e) = false → r.fail = 0 → r.job.total ≤ r.next →
    ∃ t, exec (.jobCrc e) s = .next t ∧ (t.jobRun e).map (fun y : JobRun => y.outcome.isSome) = some true) ∧
  (∀ s e r, e < 128 → s.jobRun e = some r → r.job.service = 4 → r.outcome = none → (s.cluster (e / 8)).acc.any (fun a => a.engine = e) = false → r.fail = 0 → r.cancel = false →
    r.next < r.job.total → asdSpace (r.job.word 6) ≠ 2 → asdSpace (r.job.word 7) ≠ 2 →
    ∃ t, exec (.jobCompare e) s = .next t ∧ (t.jobRun e).map JobRun.next = some (r.next + min 64 (r.job.total - r.next))) ∧
  (∀ s e r, e < 128 → s.jobRun e = some r → r.job.service = 4 → r.outcome = none → (s.cluster (e / 8)).acc.any (fun a => a.engine = e) = false → r.fail = 0 → r.job.total ≤ r.next →
    ∃ t, exec (.jobCompare e) s = .next t ∧ (t.jobRun e).map (fun y : JobRun => y.outcome.isSome) = some true) ∧
  (∀ s e c, e < 128 → s.jobRun e = none → exec (.jobCopy e) s = .next s ∧ exec (.jobFill e) s = .next s ∧ exec (.jobCrc e) s = .next s ∧ exec (.jobCompare e) s = .next s ∧
    exec (.dirSweep e) s = .next s ∧ exec (.kernelJob e c) s = .next s ∧ exec (.completionRecordWrite e) s = .next s ∧ exec (.engineWatchdog e) s = .next s) ∧
  -- DIR_SWEEP, KERNEL_JOB and KERNEL_FAULT
  (∀ s e r, e < 128 → s.jobRun e = some r → r.job.service = 6 → r.outcome = none → s.dirListed = [] →
    ∃ t, exec (.dirSweep e) s = .next t ∧ (t.jobRun e).map JobRun.outcome = some (some (0, 0, 0))) ∧
  (∀ s e r c, e < 128 → s.jobRun e = some r → 0x40 ≤ r.job.service → r.outcome = none → (s.engine e).user = true → (s.engine e).storeStalls c = false →
    ∃ t, exec (.kernelJob e c) s = .next t ∧ t.engine e = (s.engine e).runCore c ∧ (t.engine e).user = true ∧ (t.engine e).pc = c.pc ∧ t.jobRun e = some r) ∧
  (∀ s e c, e < 128 → (s.engine e).storeStalls c = true → exec (.kernelJob e c) s = .next s) ∧
  (∀ s e r a b, e < 128 → s.jobRun e = some r → 0x40 ≤ r.job.service → r.outcome = none → (s.engine e).user = true →
    ∃ t, exec (.kernelFault e a b) s = .next t ∧ (t.jobRun e).map JobRun.outcome = some (some (0x13, a, b)) ∧ (t.engine e).mcause = a ∧ (t.engine e).mtval = b ∧ (t.engine e).user = false) ∧
  (∀ s e r a b, e < 128 → s.jobRun e = some r → 0x40 ≤ r.job.service → r.outcome = none → (s.engine e).user = false →
    ∃ t, exec (.kernelFault e a b) s = .next t ∧ (t.jobRun e).map JobRun.outcome = some (some (0x13, (s.engine e).mcause, (s.engine e).mtval)) ∧ (t.engine e).user = false) ∧
  -- COMPLETION_RECORD_WRITE: the record goes to the tail, and the engine is idle; without an outcome nothing happens.
  (∀ s e r, e < 128 → s.jobRun e = some r → r.outcome = none → exec (.completionRecordWrite e) s = .next s) ∧
  (∀ s e r a b k, e < 128 → s.jobRun e = some r → r.outcome = some (0, a, b) → s.fenceMet e r 0 = true → r.job.id = some k → (r.job.word 0).field 8 8 = 0 →
    (s.cluster (e / 8)).fill < 4096 → (s.cluster (e / 8)).recs = [] → (s.cluster (e / 8)).cancel = none → bitOf (s.get TNG_CL_STAT.LIVE (e / 8)) (e % 8) = true → (s.engine e).reload = false →
    ∃ t, exec (.completionRecordWrite e) s = .next t ∧ t.jobRun e = none ∧ t.engState e = 0 ∧ t.get TNG_CQ_PTR.TAIL (e / 8) = (s.get TNG_CQ_PTR.TAIL (e / 8) + 1) % 4096 ∧
      t.get TNG_CL_CNT.DONE (e / 8) = satAdd TNG_CL_CNT.DONE.width (s.get TNG_CL_CNT.DONE (e / 8)) 1 ∧ (t.cluster (e / 8)).fill = (s.cluster (e / 8)).fill + 1 ∧
      t.reg .TNG_CQ (16384 * (e / 8) + 4 * s.get TNG_CQ_PTR.TAIL (e / 8) + 1) = word a ∧ t.reg .TNG_CQ (16384 * (e / 8) + 4 * s.get TNG_CQ_PTR.TAIL (e / 8) + 2) = word b) ∧
  -- CQ_HEAD_WRITE: the records passed are consumed.
  (∀ s c v, c < 16 → (s.cluster c).recs = [] →
    ∃ t, exec (.cqHeadWrite c v) s = .next t ∧ t.get TNG_CQ_PTR.HEAD c = v.field 11 0 ∧
      (t.cluster c).fill = (s.cluster c).fill - (v.field 11 0 + 4096 - s.get TNG_CQ_PTR.HEAD c) % 4096) ∧
  -- TNG_CANCEL_GO: a queued job is removed, a running one is told, another JOB_ID is not found; one cancel at a time.
  (∀ s c k x, c < 16 → (s.cluster c).cancel = some x → exec (.tngCancelGo c k) s = .next (s.refuseWrite .TNG_CANCEL_CMD c)) ∧
  (∀ s c k j, c < 16 → (s.cluster c).cancel = none → (s.cluster c).queue.find? (fun y => y.id = some (k % 2 ^ 32)) = some j →
    ∃ t, exec (.tngCancelGo c k) s = .next t ∧ t.get TNG_CANCEL_RES.STATUS c = 0 ∧ t.get TNG_CANCEL_RES.VALID c = 1 ∧ (t.cluster c).queue = (s.cluster c).queue.erase j) ∧
  (∀ s c k, c < 16 → (s.cluster c).cancel = none → (s.cluster c).queue.find? (fun y => y.id = some (k % 2 ^ 32)) = none → s.engineOf c (k % 2 ^ 32) = none →
    ∃ t, exec (.tngCancelGo c k) s = .next t ∧ t.get TNG_CANCEL_RES.STATUS c = 2 ∧ t.get TNG_CANCEL_RES.VALID c = 1 ∧ (t.cluster c).queue = (s.cluster c).queue) ∧
  (∀ s c k e r, c < 16 → (s.cluster c).cancel = none → (s.cluster c).queue.find? (fun y => y.id = some (k % 2 ^ 32)) = none → s.engineOf c (k % 2 ^ 32) = some e → s.jobRun e = some r →
    r.grantedAt ≠ s.clk → s.slotOfEngine e = none →
    ∃ t, exec (.tngCancelGo c k) s = .next t ∧ (t.engine e).jobCancel = true ∧ (t.cluster c).cancel = some (k % 2 ^ 32) ∧ t.get TNG_CANCEL_RES.VALID c = 0) ∧
  -- ENGINE_RESET and ENGINE_WATCHDOG: the job ends ABORTED with the cause.
  (∀ s e x, e < 128 → s.engState e = 3 → exec (.engineReset e x) s = .next s) ∧
  (∀ s e x r, e < 128 → s.engState e ≠ 3 → s.jobRun e = some r → r.outcome = none → s.slotOfEngine e = none →
    ∃ t, exec (.engineReset e x) s = .next t ∧ t.engState e = 2 ∧ (t.engine e).queue = [] ∧ (t.jobRun e).map (fun y : JobRun => y.outcome.map fun z : Nat × Nat × Nat => (z.1, z.2.2)) = some (some (0x0D, x))) ∧
  (∀ s e r, e < 128 → s.engState e ≠ 3 → s.jobRun e = some r → r.outcome = none → s.slotOfEngine e = none → s.get TNG_CL_CFG.WDOG_MS (e / 8) ≠ 0 →
    ∃ t, exec (.engineWatchdog e) s = .next t ∧ t.engState e = 2 ∧ (t.jobRun e).map (fun y : JobRun => y.outcome.map fun z : Nat × Nat × Nat => (z.1, z.2.2)) = some (some (0x0D, 2))) ∧
  (∀ s e r, e < 128 → s.jobRun e = some r → s.get TNG_CL_CFG.WDOG_MS (e / 8) = 0 → exec (.engineWatchdog e) s = .next s) ∧
  -- ENGINE_LOAD_COMPLETE and PROGRAM_RELOAD
  (∀ s e l, e < 128 → s.engState e = 4 →
    ∃ t, exec (.engineLoadComplete e l) s = .next t ∧ t.engState e = 0 ∧ (t.engine e).program = s.programOf e ∧ (t.engine e).version = s.versionOf (e / 8) (s.programOf e) ∧ (t.engine e).reload = false ∧
      (t.engine e).mem = Memory.writeBytes (s.engine e).mem 0 (l.take 0x3BFC0) ∧ t.reloadDue.contains e = false) ∧
  (∀ s e l, e < 128 → s.engState e ≠ 4 → exec (.engineLoadComplete e l) s = .next s) ∧
  (∀ s e r, e < 128 → (∀ k ∈ List.range 8, 8 * (e / 8) + k ≠ e → (s.engine (8 * (e / 8) + k)).reload = false ∧ s.engState (8 * (e / 8) + k) ≠ 4) → s.engState e ≠ 3 → s.engState e ≠ 4 → s.reloadDue.contains e = true →
    s.jobRun e = some r → ∃ t, exec (.programReload e) s = .next t ∧ (t.engine e).reload = true ∧ t.jobRun e = some r) ∧
  (∀ s e, e < 128 → (∀ k ∈ List.range 8, 8 * (e / 8) + k ≠ e → (s.engine (8 * (e / 8) + k)).reload = false ∧ s.engState (8 * (e / 8) + k) ≠ 4) → s.engState e ≠ 3 → s.engState e ≠ 4 → s.reloadDue.contains e = true →
    s.jobRun e = none → bitOf (s.get TNG_CL_STAT.LIVE (e / 8)) (e % 8) = true → ∃ t, exec (.programReload e) s = .next t ∧ t.engState e = 4) ∧
  (∀ s e, e < 128 → s.engState e = 3 ∨ s.engState e = 4 ∨ s.reloadDue.contains e = false → exec (.programReload e) s = .next s)

/-- The slot power policy (R424 to R432): polls and frames, the power-on sequence, turning off, trips and retry, the pass FET, early warning and removal.
The instants that end a timer are commands: each takes effect in the slot's state that the rules name (log entry 7). -/
def Obligations.SlotsPowered : Prop :=
  -- PMBUS_POLL: a poll that succeeds shows its values; one that fails twice is counted, and the third in a row loses telemetry.
  (∀ s n retry vin vout iout pin energy, n < 64 → s.slotRuns n = true →
    ∃ t, exec (.pmbusPoll n true retry vin vout iout pin energy) s = .next t ∧ t.get SLT_MEAS0.VIN n = vin % 65536 ∧ t.get SLT_MEAS0.VOUT n = vout % 65536 ∧
      t.get SLT_MEAS0.IOUT n = iout % 65536 ∧ t.get SLT_MEAS1.PIN n = pin % 2 ^ 32 ∧ t.get SLT_MEAS2.ENERGY n = (s.get SLT_MEAS2.ENERGY n + energy) % 2 ^ 64 ∧
      t.get SLT_MEAS3.SEQ n = (s.get SLT_MEAS3.SEQ n + 1) % 256 ∧ t.get SLT_MEAS3.VALID n = 1 ∧ t.get SLT_STAT.TEL_LOST n = 0) ∧
  (∀ s n vin vout iout pin energy, n < 64 → s.slotRuns n = true → 2 ≤ (s.slot n).badPolls →
    ∃ t, exec (.pmbusPoll n false false vin vout iout pin energy) s = .next t ∧ t.get SLT_STAT.TEL_LOST n = 1 ∧ t.get SLT_STAT.STATE n = s.get SLT_STAT.STATE n ∧
      t.get SLT_STAT.PMB_ERR n = satAdd 16 (s.get SLT_STAT.PMB_ERR n) 1) ∧
  (∀ s n first retry vin vout iout pin energy, n < 64 → s.slotRuns n = false → exec (.pmbusPoll n first retry vin vout iout pin energy) s = .next s) ∧
  -- SLOT_CHAIN_FRAME: nothing while SLT_RST_N is low; else each defined slot's inputs are taken and 64 output groups are shifted out.
  (∀ s inputs, s.phase ≠ .provision → s.phase ≠ .operating → exec (.slotChainFrame inputs) s = .next s) ∧
  (∀ s inputs n, s.phase = .operating → (List.range 64).filter s.slotRuns = [n] →
    ∃ t, exec (.slotChainFrame inputs) s = .next t ∧ t.get SLT_STAT.PGOOD n = inputs.getD n 5 / 2 % 2 ∧ (t.slot n).absent = (if inputs.getD n 5 % 2 = 0 then 0 else (s.slot n).absent + 1) ∧
      (t.slot n).pwrEn = ((s.slot n).pwrEn && !(s.slot n).offPend) ∧ t.out.length = s.out.length + 1) ∧
  -- SLOT_COMMANDED_ON: OFF, commanded on and past any wait: the inrush limit is written and PWR_EN rises; not otherwise.
  (∀ s n, n < 64 → s.slotRuns n = true → s.get SLT_STAT.STATE n = 0 → s.commandedOn n = true → (s.slot n).waitUntil ≤ s.clk → (s.slot n).absent = 0 →
    ∃ t, exec (.slotCommandedOn n) s = .next t ∧ t.get SLT_STAT.STATE n = 1 ∧ (t.slot n).pwrEn = true ∧ (t.slot n).perstN = false ∧
      (t.slot n).limit = s.get SLT_PROF.ILIM_INR (s.get SLT_CFG.PROFILE n)) ∧
  (∀ s n, n < 64 → s.get SLT_STAT.STATE n = 0 → 0 < (s.slot n).absent → exec (.slotCommandedOn n) s = .next s) ∧
  (∀ s n, n < 64 → s.commandedOn n = false → exec (.slotCommandedOn n) s = .next s) ∧
  -- SLOT_PGOOD, SLOT_SETTLE_END, SLOT_PERST_RELEASE, SLOT_STABLE_RESET: each in its state.
  (∀ s n, n < 64 → s.get SLT_STAT.STATE n = 1 → s.flag SLT_STAT.PGOOD n = true → exec (.slotPgood n) s = .next (s.set SLT_STAT.STATE n 2)) ∧
  (∀ s n, n < 64 → s.get SLT_STAT.STATE n = 2 →
    ∃ t, exec (.slotSettleEnd n) s = .next t ∧ t.get SLT_STAT.STATE n = 3 ∧ (t.slot n).limit = s.get SLT_PROF.ILIM_RUN (s.get SLT_CFG.PROFILE n)) ∧
  (∀ s n, n < 64 → s.get SLT_STAT.STATE n = 3 → ∃ t, exec (.slotPerstRelease n) s = .next t ∧ (t.slot n).perstN = true ∧ t.get SLT_STAT.STATE n = 3) ∧
  (∀ s n, n < 64 → s.get SLT_STAT.STATE n = 3 → ∃ t, exec (.slotStableReset n) s = .next t ∧ t.get SLT_STAT.TRIES n = 0 ∧ (t.slot n).retrying = false) ∧
  (∀ s n, n < 64 → s.get SLT_STAT.STATE n = 0 →
    exec (.slotPgood n) s = .next s ∧ exec (.slotSettleEnd n) s = .next s ∧ exec (.slotPerstRelease n) s = .next s ∧ exec (.slotStableReset n) s = .next s ∧
      exec (.slotRetry n) s = .next s ∧ exec (.cycle n) s = .next s ∧ exec (.slotClear n) s = .next s) ∧
  -- SLOT_OFF_COMMAND: a powered slot no longer commanded on: PERST_N falls at once and PWR_EN with the next frame; ADMIN = 0 ends RETRY_WAIT and LOCKOUT.
  (∀ s n, n < 64 → s.slotPowered n = true → s.flag SLT_CTL.ADMIN n = false ∨ s.flag SLT_STAT.HOST_ON n = false →
    ∃ t, exec (.slotOffCommand n) s = .next t ∧ t.get SLT_STAT.STATE n = 0 ∧ (t.slot n).perstN = false ∧ (t.slot n).offPend = true ∧ (t.slot n).pwrEn = (s.slot n).pwrEn) ∧
  (∀ s n, n < 64 → s.slotPowered n = true → s.flag SLT_CTL.ADMIN n = true → s.flag SLT_STAT.HOST_ON n = true → exec (.slotOffCommand n) s = .next s) ∧
  (∀ s n, n < 64 → s.get SLT_STAT.STATE n = 4 ∨ s.get SLT_STAT.STATE n = 5 → s.flag SLT_CTL.ADMIN n = false →
    ∃ t, exec (.slotOffCommand n) s = .next t ∧ t.get SLT_STAT.STATE n = 0 ∧ t.get SLT_STAT.TRIES n = 0) ∧
  -- HOST_POWER_OFF: the vPPB's power control is off; with an Unbind of option 1 waiting on it, the vPPB is unbound.
  (∀ s v, v < 1024 → (s.vppb v).op = none → s.slotOf (s.get VPPB_ENTRY.TARGET v % 512) = none →
    ∃ t, exec (.hostPowerOff v) s = .next t ∧ (t.vppb v).powerOff = true) ∧
  (∀ s v n, v < 1024 → (s.vppb v).op = none → s.get VPPB_ENTRY.STATE v = 1 ∨ s.get VPPB_ENTRY.STATE v = 2 → s.flag VPPB_ENTRY.REMOTE v = false →
      s.slotOf (s.get VPPB_ENTRY.TARGET v % 512) = some n → s.slotPowered n = true →
    ∃ t, exec (.hostPowerOff v) s = .next t ∧ (t.vppb v).powerOff = true ∧ t.get SLT_STAT.HOST_ON n = 0 ∧ t.get SLT_STAT.STATE n = 0 ∧ (t.slot n).offPend = true) ∧
  -- SLOT_TRIP: power is removed, the cause and the trip are recorded; the slot waits at least 99 times its time on, and ADMIN = 0 leaves it OFF.
  (∀ s n why, n < 64 → s.slotPowered n = true → s.tripShown n why = true → s.flag SLT_CTL.ADMIN n = true → (s.slot n).retrying = false →
      s.get SLT_STAT.TRIES n < s.get SLT_GCFG.RETRY_MAX 0 →
    ∃ t, exec (.slotTrip n why) s = .next t ∧ t.get SLT_STAT.STATE n = 4 ∧ t.get SLT_STAT.CAUSE n = why ∧ t.get SLT_STAT.TRIPS n = satAdd 16 (s.get SLT_STAT.TRIPS n) 1 ∧
      (t.slot n).pwrEn = false ∧ (t.slot n).perstN = false ∧ (t.slot n).waitUntil = s.clk + max (s.get SLT_GCFG.RETRY_MIN_MS 0 * 1000000) (99 * (s.clk - (s.slot n).onAt))) ∧
  (∀ s n why, n < 64 → s.slotPowered n = true → s.tripShown n why = true → s.flag SLT_CTL.ADMIN n = true → (s.slot n).retrying = true →
      s.get SLT_GCFG.RETRY_MAX 0 ≤ s.get SLT_STAT.TRIES n + 1 → ∃ t, exec (.slotTrip n why) s = .next t ∧ t.get SLT_STAT.STATE n = 5) ∧
  (∀ s n why, n < 64 → s.slotPowered n = true → s.tripShown n why = true → s.flag SLT_CTL.ADMIN n = false →
    ∃ t, exec (.slotTrip n why) s = .next t ∧ t.get SLT_STAT.STATE n = 0 ∧ t.get SLT_STAT.CAUSE n = why) ∧
  (∀ s n why, n < 64 → s.slotPowered n = false ∨ s.tripShown n why = false → exec (.slotTrip n why) s = .next s) ∧
  -- SLOT_RETRY: past the wait, the next attempt, or OFF where the slot is not commanded on.
  (∀ s n, n < 64 → s.get SLT_STAT.STATE n = 4 → (s.slot n).waitUntil ≤ s.clk → s.commandedOn n = true → (s.slot n).absent = 0 →
    ∃ t, exec (.slotRetry n) s = .next t ∧ t.get SLT_STAT.STATE n = 1 ∧ (t.slot n).pwrEn = true ∧ (t.slot n).retrying = true) ∧
  (∀ s n, n < 64 → s.get SLT_STAT.STATE n = 4 → (s.slot n).waitUntil ≤ s.clk → s.commandedOn n = false →
    ∃ t, exec (.slotRetry n) s = .next t ∧ t.get SLT_STAT.STATE n = 0) ∧
  (∀ s n, n < 64 → s.clk < (s.slot n).waitUntil → exec (.slotRetry n) s = .next s) ∧
  -- FET_FAIL: an OFF slot whose output stays up; not while telemetry is lost.
  (∀ s n, n < 64 → s.slotRuns n = true → s.get SLT_STAT.STATE n = 0 → s.flag SLT_STAT.TEL_LOST n = false → 3 ≤ (s.slot n).voutHigh ∨ 2 ≤ (s.slot n).pgHigh → s.flag FLT_REC0.PEND 4 = false →
    ∃ t, exec (.fetFail n) s = .next t ∧ t.get SLT_STAT.STATE n = 6 ∧ (t.slot n).perstN = false ∧ t.get FLT_REC0.EVENT 4 = 497) ∧
  (∀ s n, n < 64 → s.flag SLT_STAT.TEL_LOST n = true → exec (.fetFail n) s = .next s) ∧
  -- SLOT_CLEAR: LOCKOUT ends; FET_FAIL ends only with the output down.
  (∀ s n, n < 64 → s.get SLT_STAT.STATE n = 5 → s.commandedOn n = false → ∃ t, exec (.slotClear n) s = .next t ∧ t.get SLT_STAT.STATE n = 0 ∧ t.get SLT_STAT.TRIES n = 0) ∧
  (∀ s n, n < 64 → s.get SLT_STAT.STATE n = 6 → s.get SLT_MEAS0.VOUT n ≤ s.get SLT_CFG.FET_MV n → s.flag SLT_STAT.PGOOD n = false →
    ∃ t, exec (.slotClear n) s = .next t ∧ t.get SLT_STAT.STATE n = 0) ∧
  (∀ s n, n < 64 → s.get SLT_STAT.STATE n = 6 → s.get SLT_CFG.FET_MV n < s.get SLT_MEAS0.VOUT n ∨ s.flag SLT_STAT.PGOOD n = true → exec (.slotClear n) s = .next s) ∧
  -- PWRBRK_ASSERT and PWRBRK_RELEASE.
  (∀ s n warning, n < 64 → s.slotPowered n = true → (s.slot n).pwrbrkN = true → (warning = true ∧ (s.slot n).alert = true) ∨ 2 ≤ (s.slot n).vinLow ∨ s.flag SLT_CTL.PWRBRK n = true →
    ∃ t, exec (.pwrbrkAssert n warning) s = .next t ∧ (t.slot n).pwrbrkN = false ∧ t.get SLT_STAT.PWRBRK n = 1 ∧ t.get SLT_STAT.STATE n = s.get SLT_STAT.STATE n) ∧
  (∀ s n warning, n < 64 → s.slotPowered n = false ∨ (s.slot n).pwrbrkN = false → exec (.pwrbrkAssert n warning) s = .next s) ∧
  (∀ s n k, n < 64 → s.flag SLT_CTL.PWRBRK n = false → (s.slot n).vinOkAt = some k → k + 10000000 ≤ s.clk →
    ∃ t, exec (.pwrbrkRelease n) s = .next t ∧ (t.slot n).pwrbrkN = true ∧ t.get SLT_STAT.PWRBRK n = 0) ∧
  (∀ s n, n < 64 → s.flag SLT_CTL.PWRBRK n = true ∨ (s.slot n).vinOkAt = none ∨ (∃ k, (s.slot n).vinOkAt = some k ∧ s.clk < k + 10000000) → exec (.pwrbrkRelease n) s = .next s) ∧
  -- VIN above the release level, from when: what PWRBRK_RELEASE waits 10 ms on.
  (∀ s n retry vin vout iout pin energy, n < 64 → s.slotRuns n = true → vin < 65536 →
    ∃ t, exec (.pmbusPoll n true retry vin vout iout pin energy) s = .next t ∧
      (t.slot n).vinOkAt = (if s.get SLT_CFG.PWRBRK_MV n + 100 < vin then some ((s.slot n).vinOkAt.getD s.clk) else none)) ∧
  -- SLOT_PRESENCE_LOSS: two frames without presence: a powered slot is OFF with no trip recorded.
  (∀ s n, n < 64 → 2 ≤ (s.slot n).absent → s.slotPowered n = true →
    ∃ t, exec (.slotPresenceLoss n) s = .next t ∧ t.get SLT_STAT.PRSNT n = 0 ∧ t.get SLT_STAT.STATE n = 0 ∧ (t.slot n).pwrEn = false ∧ (t.slot n).perstN = false ∧
      t.get SLT_STAT.TRIPS n = s.get SLT_STAT.TRIPS n) ∧
  (∀ s n, n < 64 → (s.slot n).absent < 2 → exec (.slotPresenceLoss n) s = .next s) ∧
  -- CYCLE: off, and not on again before RETRY_MIN_MS.
  (∀ s n, n < 64 → s.slotPowered n = true →
    ∃ t, exec (.cycle n) s = .next t ∧ t.get SLT_STAT.STATE n = 0 ∧ (t.slot n).offPend = true ∧ (t.slot n).waitUntil = s.clk + s.get SLT_GCFG.RETRY_MIN_MS 0 * 1000000) ∧
  -- ATTENTION_BUTTON: Attention Button Pressed in the bound vPPB.
  (∀ s n v, n < 64 → s.slotBound n = [v] → ∃ t, exec (.attentionButton n) s = .next t ∧ (t.vppb v).attn = true) ∧
  (∀ s n, n < 64 → s.slotBound n = [] → exec (.attentionButton n) s = .next s)

/-- Resets and modes (R364 to R371, R444): entering and leaving RESET, SAFE, TEST and SERVICE, the recovery of a region, and reference clocks.
What a reset interrupts may differ in values the spec leaves open (log entry 36): nothing here rests on one. -/
def Obligations.ResetsAndModes : Prop :=
  -- RESET_N_ASSERT, BROWN_OUT, REBOOT: a first cause resets the chip; the queue, the messages sent, the repair map and the firmware partition stay.
  (∀ s, s.phase ≠ .reset →
    ∃ t, exec .resetNAssert s = .next t ∧ t.phase = Phase.reset ∧ t.get PWR_RESET_STAT.CAUSE 0 = 1 ∧ t.get PWR_MODE.MODE 0 = 0 ∧ t.resetBy = [1] ∧ t.pending = s.pending ∧
      t.out = s.out ∧ t.repairMap.lanes = s.repairMap.lanes ∧ t.reg .MGT_OWN_STAT 0 = State.reset.reg .MGT_OWN_STAT 0 ∧ t.hbm = s.hbm.filter (fun c : Host.Cell => decide (c.1 < dirBase))) ∧
  (∀ s, s.phase ≠ .reset →
    ∃ t, exec .reboot s = .next t ∧ t.phase = Phase.reset ∧ t.get PWR_RESET_STAT.CAUSE 0 = 2 ∧ t.resetBy = [2] ∧ t.pending = s.pending ∧ t.repairMap.lanes = s.repairMap.lanes) ∧
  (∀ s rail, s.phase ≠ .reset →
    ∃ t, exec (.brownOut rail false) s = .next t ∧ t.phase = Phase.reset ∧ t.get PWR_RESET_STAT.CAUSE 0 = 3 ∧ t.get PWR_RESET_STAT.RAIL 0 = rail % 16 ∧ t.pending = s.pending) ∧
  (∀ s rail, ∃ t, exec (.brownOut rail true) s = .next t ∧ t.phase = Phase.reset ∧ t.get PWR_RESET_STAT.CAUSE 0 = 0 ∧ t.hbm = [] ∧ t.repairMap.lanes = [] ∧ t.repairMap.rows = []) ∧
  -- A further cause extends the reset.
  (∀ s, s.phase = .reset → s.resetBy.contains 1 = false → exec .resetNAssert s = .next { s with resetBy := s.resetBy ++ [1] }) ∧
  -- RESET_END: the last cause to end samples the straps and enters BOOT, or SAFE where BOOT_SRC is 1; while a cause or a lost SFL_REFCLK is left, RESET goes on.
  (∀ s cause role pins, s.phase = .reset → s.resetBy.filter (fun c : Nat => decide (c ≠ cause)) = [] → s.clkLost.contains 16 = false →
    ∃ t, exec (.resetEnd cause role false pins) s = .next t ∧ t.phase = Phase.boot ∧ t.clk = 0 ∧ t.tim = FabTime.mk 0 0 0 ∧ t.reg .PWR_PERST 0 = pins ∧ t.resetBy = []) ∧
  (∀ s cause role pins, s.phase = .reset → s.resetBy.filter (fun c : Nat => decide (c ≠ cause)) = [] → s.clkLost.contains 16 = false →
    ∃ t, exec (.resetEnd cause role true pins) s = .next t ∧ t.phase = Phase.safe ∧ t.get PWR_MODE.SAFE_CAUSE 0 = 2) ∧
  (∀ s cause role bootSrc pins, s.phase = .reset → s.resetBy.filter (fun c : Nat => decide (c ≠ cause)) ≠ [] ∨ s.clkLost.contains 16 = true →
    exec (.resetEnd cause role bootSrc pins) s = .next { s with resetBy := s.resetBy.filter (fun c : Nat => decide (c ≠ cause)) }) ∧
  (∀ s cause role bootSrc pins, s.phase ≠ .reset → exec (.resetEnd cause role bootSrc pins) s = .next s) ∧
  -- ENTER_TEST from SAFE only; BOUNDARY_SCAN_TEST from any mode but RESET, with every link down.
  (∀ s, s.phase = .safe → ∃ t, exec .enterTest s = .next t ∧ t.phase = Phase.test) ∧
  (∀ s, s.phase ≠ .safe → ∃ t, exec .enterTest s = .next t ∧ t.phase = s.phase ∧ t.refusals = s.refusals + 1) ∧
  (∀ s p, s.phase ≠ .reset → p < 128 → ∃ t, exec .boundaryScanTest s = .next t ∧ t.phase = Phase.test ∧ t.get PRT_LINK_STATUS.STATE p = 0 ∧ t.slots = []) ∧
  (∀ s, s.phase = .reset → exec .boundaryScanTest s = .next s) ∧
  -- HBM_INIT_DONE: a failure in BOOT or VERIFY enters SAFE; success with a slot staged in VERIFY enters PROVISION.
  (∀ s kept sram hbm, s.phase = .boot ∨ s.phase = .verify → s.hbmReady = false →
    ∃ t, exec (.hbmInitDone false kept sram hbm) s = .next t ∧ t.phase = Phase.safe ∧ t.get PWR_MODE.SAFE_CAUSE 0 = 3) ∧
  (∀ s kept sram hbm, s.phase ≠ .reset → s.hbmReady = false → s.staged = none →
    ∃ t, exec (.hbmInitDone true kept sram hbm) s = .next t ∧ t.hbmReady = true ∧ t.phase = s.phase ∧
      t.get PWR_RESET_STAT.HBM_KEPT 0 = (if kept ∧ s.get PWR_RESET_STAT.CAUSE 0 ≠ 0 then 1 else 0)) ∧
  (∀ s kept sram hbm x, s.phase = .verify → s.hbmReady = false → s.staged = some x →
    ∃ t, exec (.hbmInitDone true kept sram hbm) s = .next t ∧ t.hbmReady = true ∧ t.phase = Phase.provision ∧ t.staged = none) ∧
  (∀ s ok kept sram hbm, s.phase = .reset ∨ s.hbmReady = true → exec (.hbmInitDone ok kept sram hbm) s = .next s) ∧
  -- PROVISION_COMPLETE: with every engine loaded, SERVICE begins; a standalone chip has fabric role 0, any other is unjoined.
  (∀ s, s.phase = .provision → (List.range 128).any (fun e => decide (s.engState e = 4)) = false →
    ∃ t, exec .provisionComplete s = .next t ∧ t.phase = Phase.operating ∧ t.get PWR_RESET_STAT.BOOT_MS 0 = min (s.clk / 1000000) 65535 ∧
      t.get MGT_FAB_STAT.ROLE_NOW 0 = (if s.get MGT_CHIP_INFO.ROLE 0 = 0 then 0 else 6)) ∧
  (∀ s, s.phase ≠ .provision ∨ (List.range 128).any (fun e => decide (s.engState e = 4)) = true → exec .provisionComplete s = .next s) ∧
  -- RECOVER: each bit on its own; a write with a bit not performed is recorded once.
  (∀ s mask r, r < 4 → bitOf mask r = true → s.mayRecover r = true → ∃ t, exec (.recoverRegions mask) s = .next t ∧ t.regionState r = 2) ∧
  (∀ s mask r, r < 4 → bitOf mask r = true → s.mayRecover r = false →
    ∃ t, exec (.recoverRegions mask) s = .next t ∧ t.regionState r = s.regionState r ∧ t.refusals = s.refusals + 1) ∧
  (∀ s mask, mask % 16 = 0 → exec (.recoverRegions mask) s = .next s) ∧
  -- REGION_RECOVERY_END.
  (∀ s r, r < 4 → s.regionState r = 2 →
    ∃ t, exec (.regionRecoveryEnd r true) s = .next t ∧ t.regionState r = 0 ∧ bitOf (t.get MGT_CHIP_INFO.REGION_LIVE 0) r = true ∧ bitOf (t.get FLT_STAT.FENCED 0) r = false) ∧
  (∀ s r, r < 4 → s.regionState r = 2 → ∃ t, exec (.regionRecoveryEnd r false) s = .next t ∧ t.regionState r = 1) ∧
  (∀ s r ok, r < 4 → s.regionState r ≠ 2 → exec (.regionRecoveryEnd r ok) s = .next s) ∧
  -- REFCLK_LOSS: SFL_REFCLK makes the chip fatal, a PCIE_REFCLK takes its blocks' links down; in RESET a loss has no effect but on the clock itself.
  (∀ s, s.phase ≠ .reset → ∃ t, exec (.refclkLoss 16) s = .next t ∧ t.flag PWR_MODE.FATAL 0 = true ∧ t.clkLost.contains 16 = true) ∧
  (∀ s k p, k < 16 → s.phase ≠ .reset → p / 8 = k → s.portExists p = true → s.role p ≠ 2 →
    ∃ t, exec (.refclkLoss k) s = .next t ∧ t.get PRT_LINK_STATUS.STATE p = 0 ∧ t.clkLost.contains k = true) ∧
  (∀ s k, k < 17 → s.phase = .reset → s.clkLost.contains k = false → exec (.refclkLoss k) s = .next { s with clkLost := s.clkLost ++ [k] }) ∧
  -- REFCLK_RESTORE: links retrain; a reset that waited for SFL_REFCLK alone ends.
  (∀ s k p role bootSrc pins, k < 16 → p / 8 = k → s.role p ≠ 2 → ({ s with clkLost := s.clkLost.filter (fun c : Nat => decide (c ≠ k)) } : State).bringUpReady p = true → s.get PRT_LINK_STATUS.STATE p = 0 →
    ∃ t, exec (.refclkRestore k role bootSrc pins) s = .next t ∧ t.get PRT_LINK_STATUS.STATE p = 1 ∧ t.clkLost = s.clkLost.filter (fun c : Nat => decide (c ≠ k))) ∧
  (∀ s role pins, s.phase = .reset → s.resetBy = [] → ∃ t, exec (.refclkRestore 16 role false pins) s = .next t ∧ t.phase = Phase.boot ∧ t.reg .PWR_PERST 0 = pins) ∧
  (∀ s role bootSrc pins, s.phase ≠ .reset ∨ s.resetBy ≠ [] → exec (.refclkRestore 16 role bootSrc pins) s = .next { s with clkLost := s.clkLost.filter (fun c : Nat => decide (c ≠ 16)) })

/-- PERST_N and the Banked state (R372, R375 to R377). -/
def Obligations.PerstAndBanking : Prop :=
  -- PERST_ASSERT: the links of the block's upstream halves go down and their VCS's BI enables are reset; before PROVISION the level alone is shown.
  (∀ s b p, b < 64 → s.phase = .provision ∨ s.phase = .operating → p ∈ s.perstPorts b →
    ∃ t, exec (.perstAssert b) s = .next t ∧ t.get PRT_LINK_STATUS.STATE p = 0 ∧ bitOf (t.get PWR_PERST.LEVEL 0) b = false) ∧
  (∀ s b p vcs, b < 64 → s.phase = .provision ∨ s.phase = .operating → p ∈ s.perstPorts b → s.vcsOf p = some vcs →
    ∃ t, exec (.perstAssert b) s = .next t ∧ t.get VCS_ENTRY.BI_EN vcs = 0) ∧
  (∀ s b, b < 64 → s.phase = .boot ∨ s.phase = .verify ∨ s.phase = .safe ∨ s.phase = .test → exec (.perstAssert b) s = .next (s.setBit PWR_PERST.LEVEL 0 b false)) ∧
  -- PERST_DEASSERT: bring-up starts on the block's upstream halves that are ready.
  (∀ s b p, b < 64 → s.phase ≠ .reset → p ∈ s.perstPorts b → (s.setBit PWR_PERST.LEVEL 0 b true).bringUpReady p = true → s.get PRT_LINK_STATUS.STATE p = 0 →
    ∃ t, exec (.perstDeassert b) s = .next t ∧ t.get PRT_LINK_STATUS.STATE p = 1 ∧ bitOf (t.get PWR_PERST.LEVEL 0) b = true) ∧
  (∀ s b, b < 64 → s.phase = .reset → exec (.perstAssert b) s = .next s ∧ exec (.perstDeassert b) s = .next s) ∧
  -- BANK_WRITE: the bit of an unused port number is ignored.
  (∀ s which value k, which < 2 → k < 64 →
    ∃ t, exec (.bankWrite which value) s = .next t ∧ bitOf (t.get PWR_BANK_PORT.BANK which) k = (bitOf value.toNat k && s.portExists (64 * which + k))) ∧
  (∀ s value, ∃ t, exec (.bankWrite 2 value) s = .next t ∧ t.get PWR_BANK_UNIT.CLUSTER 0 = value.toNat % 65536 ∧ t.get PWR_BANK_UNIT.SLICE 0 = value.toNat / 65536 % 65536) ∧
  (∀ s value, ∃ t, exec (.bankWrite 3 value) s = .next t ∧ t.get PWR_CTL.BANK_ALL 0 = value.toNat / 4 % 2) ∧
  -- UNIT_BANKED: a cluster with no job running, a slice with no transaction, a drained port by L1; a port that stays in L0 shows it; nothing without a bank bit.
  (∀ s u l1, 128 ≤ u → u < 144 → s.bankBit u = true → s.banked u = false → s.live (s.bankRegion u) = true → (List.range 8).any (fun k => (s.jobRun (8 * (u - 128) + k)).isSome) = false →
    ∃ t, exec (.unitBanked u l1) s = .next t ∧ t.banked u = true) ∧
  (∀ s u l1, 144 ≤ u → u < 160 → s.bankBit u = true → s.banked u = false → s.live (s.bankRegion u) = true → s.txns.any (fun w => decide (w.slice = u - 144)) = false →
    ∃ t, exec (.unitBanked u l1) s = .next t ∧ t.banked u = true) ∧
  (∀ s u, u < 128 → s.bankBit u = true → s.banked u = false → s.portExists u = true → s.live (s.bankRegion u) = true → s.role u ≠ 2 → s.flag PRT_LINK_STATUS.DL_UP u = true → s.portDrained u = true →
    ∃ t, exec (.unitBanked u true) s = .next t ∧ t.banked u = true ∧ t.get PRT_LINK_STATUS.STATE u = 8) ∧
  (∀ s u, u < 128 → s.bankBit u = true → s.banked u = false → s.portExists u = true → s.live (s.bankRegion u) = true → s.role u ≠ 2 → s.flag PRT_LINK_STATUS.DL_UP u = true → s.portDrained u = true →
    ∃ t, exec (.unitBanked u false) s = .next t ∧ t.banked u = false ∧ bitOf (t.get PWR_BANK_PDENY.DENY (u / 64)) (u % 64) = true) ∧
  (∀ s u l1, u < 160 → (s.bankBit u = false ∧ s.flag PWR_CTL.BANK_ALL 0 = false) ∨ s.banked u = true → exec (.unitBanked u l1) s = .next s) ∧
  -- BANK_DEMAND_WAKE: counted; a port in L1 retrains.
  (∀ s u, u < 160 → s.banked u = true →
    ∃ t, exec (.bankDemandWake u) s = .next t ∧ t.banked u = false ∧ t.get PWR_BANK_USTAT.WAKES 0 = satAdd 32 (s.get PWR_BANK_USTAT.WAKES 0) 1) ∧
  (∀ s u, u < 128 → s.banked u = true → s.role u ≠ 2 → s.get PRT_LINK_STATUS.STATE u = 8 → ∃ t, exec (.bankDemandWake u) s = .next t ∧ t.get PRT_LINK_STATUS.STATE u = 6) ∧
  (∀ s u, u < 160 → s.banked u = false → exec (.bankDemandWake u) s = .next s) ∧
  -- BANK_IDLE_REBANK: as UNIT_BANKED, and never with IDLE_US = 0.
  (∀ s u l1, 128 ≤ u → u < 144 → s.get PWR_BANK_CFG.IDLE_US 0 ≠ 0 → s.bankBit u = true → s.banked u = false → s.live (s.bankRegion u) = true →
      (List.range 8).any (fun k => (s.jobRun (8 * (u - 128) + k)).isSome) = false → ∃ t, exec (.bankIdleRebank u l1) s = .next t ∧ t.banked u = true) ∧
  (∀ s u l1, u < 160 → s.get PWR_BANK_CFG.IDLE_US 0 = 0 → exec (.bankIdleRebank u l1) s = .next s)

/-- Register access and memory requests of sessions (R7, R33 to R35, R345, R353 to R356, R402). The codes of the answers to a failing access follow log entry 42,
those of a descriptor that a session cannot use log entry 41. -/
def Obligations.RegisterAccess : Prop :=
  -- REG_READ: a 64-bit read answers with the register's readable bits; RC fields are cleared for the owner alone.
  (∀ s n tag a k i, n < 8 → a < 2 ^ 30 → a % 8 = 0 → s.reachable (s.get MGT_SESS.PATH n) = true → s.sesOpen n = true → (s.sesAt n).last = none → s.locate a = .reg k i →
      k ∈ [RegKind.PRT_CFG, .SLT_GCFG, .TIM_CFG, .PWR_MODE, .FLT_CFG, .MGT_CHIP_INFO, .TMP_CFG] →
    ∃ t, exec (.regRead n tag a 3 1) s = .next t ∧ t.out = s.out ++ [Out.weusk ⟨3, n, .ok, tag, regParam a 3 1, toBytes 8 (readable k (s.reg k i)).toNat⟩] ∧ t.refusals = s.refusals) ∧
  (∀ s n tag a i, n < 8 → a < 2 ^ 30 → a % 8 = 0 → s.reachable (s.get MGT_SESS.PATH n) = true → s.sesOpen n = true → (s.sesAt n).last = none → s.locate a = .reg .SLT_STAT i →
    ∃ t, exec (.regRead n tag a 3 1) s = .next t ∧ t.get SLT_STAT.PMB_ERR i = (if s.owns n then 0 else s.get SLT_STAT.PMB_ERR i) ∧ t.get SLT_STAT.TRIPS i = s.get SLT_STAT.TRIPS i) ∧
  -- An access that is not aligned or names nothing is recorded and answered ACCESS_ERROR with all-ones.
  (∀ s n tag a z, n < 8 → z < 4 → a < 2 ^ 30 → s.reachable (s.get MGT_SESS.PATH n) = true → s.sesOpen n = true → (s.sesAt n).last = none → a % 2 ^ z ≠ 0 ∨ s.locate a = .reserved →
    ∃ t, exec (.regRead n tag a z 1) s = .next t ∧ t.refusals = s.refusals + 1 ∧ t.get MGT_DRS_ERR.PEND 0 = 1 ∧
      t.out = s.out ++ [Out.weusk ⟨3, n, .accessError, tag, regParam a z 0, List.replicate (2 ^ z) 255⟩]) ∧
  (∀ s n tag a z c, n < 8 → c = 0 ∨ 256 < c → s.reachable (s.get MGT_SESS.PATH n) = true → s.sesOpen n = true → (s.sesAt n).last = none →
    ∃ t, exec (.regRead n tag a z c) s = .next t ∧ t.refusals = s.refusals ∧ t.out = s.out ++ [Out.weusk ⟨3, n, .accessError, tag, regParam a z 0, []⟩]) ∧
  (∀ s n tag a z c, n < 8 → s.reachable (s.get MGT_SESS.PATH n) = true → s.sesOpen n = false →
    ∃ t, exec (.regRead n tag a z c) s = .next t ∧ t.out = s.out ++ [Out.weusk ⟨3, 255, .noSession, tag, freeParam 3 tag, []⟩] ∧ t.refusals = s.refusals) ∧
  -- REG_WRITE: the owner's 64-bit write sets every RW field; another session's changes nothing and is counted; a payload of another length is BAD_LENGTH.
  (∀ s n tag a k i v env F, n < 8 → a < 2 ^ 30 → a % 8 = 0 → s.reachable (s.get MGT_SESS.PATH n) = true → s.sesOpen n = true → (s.sesAt n).last = none → s.owns n = true →
      s.phase ≠ .reset → s.locate a = .reg k i → k ∈ [RegKind.SLT_GCFG, .SLT_CFG, .PWR_BANK_CFG, .PRT_SPARE_CTL] → F ∈ fieldsOf k .RW →
    ∃ t, exec (.regWrite n tag a 3 1 (toBytes 8 (BitVec.toNat (w := 64) v)) env) s = .next t ∧ t.get F i = BitVec.toNat v / 2 ^ F.lo % 2 ^ F.width ∧
      t.out = s.out ++ [Out.weusk ⟨4, n, .ok, tag, regParam a 3 1, []⟩]) ∧
  (∀ s n tag a z c d env, n < 8 → s.reachable (s.get MGT_SESS.PATH n) = true → s.sesOpen n = true → (s.sesAt n).last = none → s.owns n = false →
    ∃ t, exec (.regWrite n tag a z c d env) s = .next t ∧ t.get MGT_SESS.NOT_OWNER n = satAdd 16 (s.get MGT_SESS.NOT_OWNER n) 1 ∧
      t.out = s.out ++ [Out.weusk ⟨4, n, .notOwner, tag, freeParam 4 tag, []⟩] ∧ t.hbm = s.hbm) ∧
  (∀ s n tag a z c d env, n < 8 → z < 4 → 1 ≤ c → c ≤ 256 → d.length ≠ c * 2 ^ z → s.reachable (s.get MGT_SESS.PATH n) = true → s.sesOpen n = true → (s.sesAt n).last = none → s.owns n = true →
    ∃ t, exec (.regWrite n tag a z c d env) s = .next t ∧ t.out = s.out ++ [Out.weusk ⟨4, n, .badLength, tag, freeParam 4 tag, []⟩] ∧ t.refusals = s.refusals) ∧
  -- A 32-bit write of a low half is held and changes no register.
  (∀ s n tag a k i v env, n < 8 → a < 2 ^ 30 → a % 8 = 0 → s.reachable (s.get MGT_SESS.PATH n) = true → s.sesOpen n = true → (s.sesAt n).last = none → s.owns n = true → s.phase ≠ .reset → s.locate a = .reg k i →
    ∃ t, exec (.regWrite n tag a 2 1 (toBytes 4 v) env) s = .next t ∧ (t.sesAt n).held = some (a, v % 2 ^ 32) ∧ t.refusals = s.refusals) ∧
  -- DEBUG_VIEW_ACCESS: a read answers with the bytes of HBM; a write is performed in TEST alone.
  (∀ s n tag x w, n < 8 → x < 2 ^ 29 → x % 8 = 0 → s.phase ≠ .safe → s.reachable (s.get MGT_SESS.PATH n) = true → s.sesOpen n = true → (s.sesAt n).last = none →
      s.hbmFenced 0 (s.get MGT_HBM_DBG_BASE.WINDOW 0 * 2 ^ 29 + x) = false →
    ∃ t, exec (.debugViewAccess n tag x 3 false w) s = .next t ∧ t.hbm = s.hbm ∧
      t.out = s.out ++ [Out.weusk ⟨3, n, .ok, tag, regParam (2 ^ 29 + x) 3 1, toBytes 8 (ofBytes (s.readHbm (s.get MGT_HBM_DBG_BASE.WINDOW 0 * 2 ^ 29 + x) 8))⟩]) ∧
  (∀ s n tag x w, n < 8 → x < 2 ^ 29 → x % 8 = 0 → s.phase = .test → s.sesOpen n = true → (s.sesAt n).last = none → s.owns n = true →
    ∃ t, exec (.debugViewAccess n tag x 3 true w) s = .next t ∧ t.hbm = Memory.writeBytes s.hbm (s.get MGT_HBM_DBG_BASE.WINDOW 0 * 2 ^ 29 + x) (toBytes 8 (BitVec.toNat w))) ∧
  (∀ s n tag x z w, n < 8 → z < 4 → x < 2 ^ 29 → x % 2 ^ z = 0 → s.phase = .operating → s.sesOpen n = true → (s.sesAt n).last = none → s.owns n = true →
    ∃ t, exec (.debugViewAccess n tag x z true w) s = .next t ∧ t.hbm = s.hbm ∧ t.refusals = s.refusals + 1) ∧
  -- HBM_DBG_WINDOW_WRITE: 96 to 127 is ignored.
  (∀ s v, BitVec.toNat (w := 64) v / 2 ^ 29 % 128 < 96 → ∃ t, exec (.hbmDbgWindowWrite v) s = .next t ∧ t.get MGT_HBM_DBG_BASE.WINDOW 0 = BitVec.toNat v / 2 ^ 29 % 128) ∧
  (∀ s v, 96 ≤ BitVec.toNat (w := 64) v / 2 ^ 29 % 128 → exec (.hbmDbgWindowWrite v) s = .next s) ∧
  -- DRS_ERR_PEND_CLEAR: a refused access of the same cycle is recorded as a first access.
  (∀ s, ∃ t, exec (.drsErrPendClear none) s = .next t ∧ t.get MGT_DRS_ERR.PEND 0 = 0 ∧ t.get MGT_DRS_ERR.COUNT 0 = 0) ∧
  (∀ s x, ∃ t, exec (.drsErrPendClear (some x)) s = .next t ∧ t.get MGT_DRS_ERR.PEND 0 = 1 ∧ t.get MGT_DRS_ERR.ADDR 0 = x.addr % 2 ^ MGT_DRS_ERR.ADDR.width ∧ t.get MGT_DRS_ERR.COUNT 0 = 1) ∧
  -- MEM_READ and MEM_WRITE: up to 4,064 bytes at an address of a descriptor's space; MEM_WRITE is the owner's.
  (∀ s n tag asd addr len u, n < 8 → 1 ≤ len → len ≤ 4064 → s.reachable (s.get MGT_SESS.PATH n) = true → s.phase ≠ .safe → s.sesOpen n = true → (s.sesAt n).last = none → sessionAddr asd addr = some u →
    ∃ t, exec (.memRead n tag asd addr len) s = .next t ∧ t.out = s.out ∧
      t.memRuns = s.memRuns ++ [MemRun.mk n (tag % 65536) false ((splitParts addr len).map Prod.snd) ((splitParts addr len).map fun _ => none) none]) ∧
  (∀ s n tag asd addr d u, n < 8 → 1 ≤ d.length → d.length ≤ 4064 → s.reachable (s.get MGT_SESS.PATH n) = true → s.phase ≠ .safe → s.sesOpen n = true → (s.sesAt n).last = none → s.owns n = true → sessionAddr asd addr = some u →
    ∃ t, exec (.memWrite n tag asd addr d) s = .next t ∧ t.out = s.out ∧
      t.memRuns = s.memRuns ++ [MemRun.mk n (tag % 65536) true ((splitParts addr d.length).map Prod.snd) ((splitParts addr d.length).map fun _ => none) none]) ∧
  (∀ s n tag asd addr len, n < 8 → len = 0 ∨ 4064 < len → s.reachable (s.get MGT_SESS.PATH n) = true → s.sesOpen n = true → (s.sesAt n).last = none →
    ∃ t, exec (.memRead n tag asd addr len) s = .next t ∧ t.out = s.out ++ [Out.weusk ⟨13, n, .badLength, tag, freeParam 13 tag, []⟩] ∧ t.memRuns = s.memRuns) ∧
  (∀ s n tag asd addr len, n < 8 → 1 ≤ len → len ≤ 4064 → s.reachable (s.get MGT_SESS.PATH n) = true → s.phase ≠ .safe → s.sesOpen n = true → (s.sesAt n).last = none → sessionAddr asd addr = none →
    ∃ t, exec (.memRead n tag asd addr len) s = .next t ∧ t.out = s.out ++ [Out.weusk ⟨13, n, .accessError, tag, freeParam 13 tag, []⟩] ∧ t.memRuns = s.memRuns) ∧
  (∀ s n tag asd addr d, n < 8 → s.reachable (s.get MGT_SESS.PATH n) = true → s.sesOpen n = true → (s.sesAt n).last = none → s.owns n = false →
    ∃ t, exec (.memWrite n tag asd addr d) s = .next t ∧ t.out = s.out ++ [Out.weusk ⟨14, n, .notOwner, tag, freeParam 14 tag, []⟩] ∧ t.memRuns = s.memRuns) ∧
  -- TIM_NOW_READ: the time of the read, with its upper part held for the read of TIM_NOW_HI.
  (∀ s n tag, n < 8 → s.reachable (s.get MGT_SESS.PATH n) = true → s.sesOpen n = true → (s.sesAt n).last = none →
    ∃ t, exec (.timNowRead n tag) s = .next t ∧ (t.sesAt n).latch = some (drsAddr .TIM_NOW_LO 0 + 8, s.time / 2 ^ 64) ∧
      t.out = s.out ++ [Out.weusk ⟨3, n, .ok, tag, regParam (drsAddr .TIM_NOW_LO 0) 3 1, toBytes 8 (s.time % 2 ^ 64)⟩])

/-- The fabric of chips (R299 to R309): joining, distribution of tables in generations, announcing and the lease, votes, isolation and handover. -/
def Obligations.FabricManaged : Prop :=
  -- JOIN: a chip that is not a member sends it; the acting manager refuses with the first cause that applies, or records the chip as joining.
  (∀ s, s.get MGT_CHIP_INFO.ROLE 0 ≠ 0 → s.activeLinks ≠ [] → s.roleNow = 6 →
    ∃ t, exec (.joinFabric none) s = .next t ∧
      t.out = s.out ++ [Out.fabric (s.get MGT_FAB_STAT.ACTING_MGR 0) (.join s.epoch ⟨s.chipId, s.get MGT_CHIP_INFO.ROLE 0, s.ownRevMin, s.ownRev, s.fab.hash, s.fab.scale⟩)]) ∧
  (∀ s, s.activeLinks = [] → exec (.joinFabric none) s = .next s) ∧
  (∀ s m, s.roleNow = 3 → s.joinCause m ≠ 0 →
    ∃ t, exec (.joinFabric (some m)) s = .next t ∧ t.out = s.out ++ [Out.fabric m.chip (.joinRefuse s.epoch (s.joinCause m))] ∧ t.fab.todo = s.fab.todo ∧ t.fab.run = s.fab.run) ∧
  (∀ s m, s.roleNow = 3 → s.joinCause m = 0 → ∃ t, exec (.joinFabric (some m)) s = .next t ∧ t.get MGT_FAB_MEMBER.STATE m.chip = 1) ∧
  (∀ s m, s.roleNow ≠ 3 → exec (.joinFabric (some m)) s = .next s) ∧
  -- JOIN_REFUSE: recorded for the chip's own ID.
  (∀ s cause, ∃ t, exec (.joinRefuse cause) s = .next t ∧ t.get MGT_FAB_MEMBER.STATE s.chipId = 4 ∧ t.get MGT_FAB_MEMBER.REFUSE s.chipId = cause % 16) ∧
  -- DIST_PREP: staged and acknowledged; ahead of the member's generation it is answered with RESYNC; of an old epoch it is ignored.
  (∀ s c e g, s.epoch ≤ e → g.gen = s.get MGT_FAB_GEN.GEN 0 + 1 ∨ g.whole = true →
    ∃ t, exec (.distPrep c e g) s = .next t ∧ t.fab.staged = some g ∧ t.out = s.out ++ [Out.fabric c (.ack s.epoch 0x24 g.gen s.epoch)]) ∧
  (∀ s c e g, s.epoch ≤ e → g.gen ≤ s.get MGT_FAB_GEN.GEN 0 → g.whole = false →
    ∃ t, exec (.distPrep c e g) s = .next t ∧ t.fab.staged = s.fab.staged ∧ t.out = s.out ++ [Out.fabric c (.ack s.epoch 0x24 g.gen s.epoch)]) ∧
  (∀ s c e g, s.epoch ≤ e → s.get MGT_FAB_GEN.GEN 0 + 1 < g.gen → g.whole = false →
    ∃ t, exec (.distPrep c e g) s = .next t ∧ t.fab.staged = s.fab.staged ∧ t.get MGT_FAB_GEN.RESYNC 0 = 1 ∧ t.out = s.out ++ [Out.fabric c (.resync s.epoch (s.get MGT_FAB_GEN.GEN 0))]) ∧
  (∀ s c e g, e < s.epoch → ∃ t, exec (.distPrep c e g) s = .next t ∧ t.fab.staged = s.fab.staged ∧ t.out = s.out) ∧
  -- DIST_COMMIT: the staged generation takes effect; another number or an old epoch changes nothing.
  (∀ s e n c w, s.epoch ≤ e → s.fab.staged = some ⟨n, false, [.member c w]⟩ → c < 256 →
    ∃ t, exec (.distCommit e n) s = .next t ∧ t.reg .MGT_FAB_MEMBER c = w ∧ t.get MGT_FAB_GEN.GEN 0 = n % 2 ^ 32 ∧ t.fab.staged = none) ∧
  (∀ s e n d w, s.epoch ≤ e → s.fab.staged = some ⟨n, false, [.fft s.chipId d w]⟩ → d < 256 →
    ∃ t, exec (.distCommit e n) s = .next t ∧ t.reg .MGT_FAB_FFT d = w ∧ t.get MGT_FAB_GEN.GEN 0 = n % 2 ^ 32) ∧
  (∀ s e n, s.epoch ≤ e → s.fab.staged = none → 0 < n → s.get MGT_FAB_GEN.GEN 0 = n →
    ∃ t, exec (.distCommit e n) s = .next t ∧ t.fab = s.fab ∧ t.out = s.out ++ [Out.fabric (s.get MGT_FAB_STAT.ACTING_MGR 0) (.ack s.epoch 0x25 n s.epoch)]) ∧
  (∀ s e n, e < s.epoch ∨ s.fab.staged = none ∧ (n = 0 ∨ s.get MGT_FAB_GEN.GEN 0 ≠ n) → exec (.distCommit e n) s = .next s) ∧
  -- DIST_ABORT.
  (∀ s e n g, s.epoch ≤ e → s.fab.staged = some g → g.gen = n → ∃ t, exec (.distAbort e n) s = .next t ∧ t.fab.staged = none) ∧
  (∀ s e n, e < s.epoch → exec (.distAbort e n) s = .next s) ∧
  -- ACK: the chip is heard; a higher epoch makes the manager announce above it; the last chip of a phase completes it.
  (∀ s c type g e, c < 256 → ∃ t, exec (.ackFabric c type g e) s = .next t ∧ Tbl.rd (fun _ => none) t.fab.ackAt c = some s.clk ∧ Tbl.rd (fun _ => 0) t.fab.heard c = s.clk) ∧
  (∀ s c type g e, c < 256 → s.roleNow = 3 → s.epoch < e → ∃ t, exec (.ackFabric c type g e) s = .next t ∧ t.epoch = (e + 1) % 2 ^ 32 ∧ t.fab.reannounce = true) ∧
  (∀ s c e r, c < 256 → s.roleNow = 3 → e ≤ s.epoch → s.fab.run = some r → r.phase = 2 → r.acked = [] → r.gen.changes = [] → s.phaseChips r = [c] → s.fab.todo = [] → s.fab.handover = false →
    ∃ t, exec (.ackFabric c 0x25 r.gen.gen e) s = .next t ∧ t.fab.run = none ∧ t.get MGT_FAB_GEN.GEN 0 = r.gen.gen % 2 ^ 32) ∧
  -- RESYNC at the manager: the whole state waits for the chip behind the generation that runs.
  (∀ s c g r, c < 256 → s.roleNow = 3 → s.fab.run = some r → ∃ t, exec (.resync c g) s = .next t ∧ t.fab.todo = s.fab.todo ++ [([], [c])]) ∧
  (∀ s c g, c < 256 → s.roleNow ≠ 3 → exec (.resync c g) s = .next s) ∧
  -- STANDBY_ACK_TIMEOUT: the generation goes on without the standby.
  (∀ s r, s.fab.run = some r → s.roleNow = 3 → r.phase = 0 →
    ∃ t, exec .standbyAckTimeout s = .next t ∧ t.get MGT_FAB_STAT.NO_STANDBY 0 = 1 ∧ t.get MGT_FAB_MEMBER.STATE s.standbyId = 1 ∧ t.fab.run = some { r.without s.standbyId with phase := 1 }) ∧
  (∀ s, s.fab.run = none → exec .standbyAckTimeout s = .next s) ∧
  -- ANNOUNCE_SEND: to every other chip of the fabric section; an isolated manager goes on announcing.
  (∀ s, (s.roleNow = 3 ∧ (s.fab.handover = false ∨ s.fab.run.isSome = true)) ∨ s.roleNow = 5 →
    ∃ t, exec .announceSend s = .next t ∧ t.out = s.out ++ ((s.fab.roles.map Prod.fst).filter fun c : Nat => decide (c ≠ s.chipId)).map fun c : Nat =>
        Out.fabric c (.announce ⟨s.chipId, s.epoch, s.get MGT_FAB_GEN.GEN 0, s.get MGT_FAB_STAT.REV_TOP 0, s.flag MGT_FAB_STAT.MIXED 0, s.stbyOk⟩)) ∧
  (∀ s, (s.roleNow ≠ 3 ∧ s.roleNow ≠ 5) ∨ (s.roleNow = 3 ∧ s.fab.handover = true ∧ s.fab.run = none) → exec .announceSend s = .next s) ∧
  -- ANNOUNCE: accepted, or ignored, and always answered.
  (∀ s m, s.accepts m = true → ∃ t, exec (.announce m) s = .next t ∧ t.epoch = m.epoch % 2 ^ 32 ∧ t.fab.lease = true ∧ t.fab.leaseAt = s.clk ∧ t.fab.stbyOk = m.stbyOk) ∧
  (∀ s m, s.accepts m = false →
    ∃ t, exec (.announce m) s = .next t ∧ t.epoch = s.epoch ∧ t.fab.leaseAt = s.fab.leaseAt ∧ t.roleNow = s.roleNow ∧ t.out = s.out ++ [Out.fabric m.chip (.ack s.epoch 0x20 m.gen s.epoch)]) ∧
  (∀ s m, s.roleNow = 3 → s.epoch < m.epoch → s.fab.handover = false → ∃ t, exec (.announce m) s = .next t ∧ t.roleNow = 4 ∧ t.fab.run = none) ∧
  -- LEASE_LAPSE: a standby in step takes over where Q = 0, else it asks the workers.
  (∀ s, s.fab.lease = true → s.fab.leaseAt + s.get MGT_FAB_CFG.LEASE_MS 0 * 1000000 ≤ s.clk → s.roleNow = 2 → s.fab.stbyOk = true → s.quorum = 0 →
    ∃ t, exec .leaseLapse s = .next t ∧ t.roleNow = 3 ∧ t.epoch = (s.epoch + 1) % 2 ^ 32 ∧ t.get MGT_FAB_STAT.ACTING_MGR 0 = s.chipId % 256) ∧
  (∀ s, s.fab.lease = true → s.fab.leaseAt + s.get MGT_FAB_CFG.LEASE_MS 0 * 1000000 ≤ s.clk → s.roleNow = 2 → s.fab.stbyOk = true → 0 < s.quorum →
    ∃ t, exec .leaseLapse s = .next t ∧ t.fab.lease = false ∧ t.fab.proposed = s.epoch + 1 ∧ t.roleNow = 2 ∧ t.out = s.out ++ s.workers.map fun c : Nat => Out.fabric c (.voteReq s.epoch (s.epoch + 1))) ∧
  (∀ s, s.fab.lease = false ∨ s.roleNow = 3 ∨ s.roleNow = 5 ∨ s.clk < s.fab.leaseAt + s.get MGT_FAB_CFG.LEASE_MS 0 * 1000000 → exec .leaseLapse s = .next s) ∧
  -- VOTE_REQ: held while the worker's own lease holds, else answered once for an epoch.
  (∀ s c e, c < 256 → s.roleNow = 1 → s.fab.stbyOk = true → s.fab.lease = true → ∃ t, exec (.voteReq c e) s = .next t ∧ t.fab.heldVote = some (c, e, s.clk) ∧ t.out = s.out) ∧
  (∀ s c e, c < 256 → s.roleNow = 1 → s.fab.stbyOk = true → s.fab.lease = false → s.fab.voted < e →
    ∃ t, exec (.voteReq c e) s = .next t ∧ t.fab.voted = e ∧ t.out = s.out ++ [Out.fabric c (.vote s.epoch e s.epoch)]) ∧
  (∀ s c e, c < 256 → s.fab.lease = false → e ≤ s.fab.voted → ∃ t, exec (.voteReq c e) s = .next t ∧ t.fab.voted = s.fab.voted ∧ t.out = s.out) ∧
  -- VOTE: Q votes make the standby acting manager.
  (∀ s c e h, c < 256 → s.roleNow = 2 → s.fab.lease = false → e = s.fab.proposed → 0 < e → s.fab.votes = [] → s.quorum = 1 →
    ∃ t, exec (.vote c e h) s = .next t ∧ t.roleNow = 3 ∧ t.epoch = max e (h + 1) % 2 ^ 32) ∧
  (∀ s c e h, c < 256 → s.roleNow = 2 → s.fab.lease = false → e = s.fab.proposed → 0 < e → s.fab.votes = [] → 1 < s.quorum →
    ∃ t, exec (.vote c e h) s = .next t ∧ t.roleNow = 2 ∧ t.fab.votes = [(c, h)]) ∧
  -- MANAGER_ISOLATED and MANAGER_LISTEN_END.
  (∀ s, s.roleNow = 3 → s.quorum = 1 → s.fab.ackAt = [] → ∃ t, exec .managerIsolated s = .next t ∧ t.roleNow = 5 ∧ t.fab.run = none) ∧
  (∀ s, s.roleNow ≠ 3 ∨ s.quorum = 0 → exec .managerIsolated s = .next s) ∧
  (∀ s, s.get MGT_CHIP_INFO.ROLE 0 = 3 → s.roleNow = 6 → s.fab.lease = false → ∃ t, exec .managerListenEnd s = .next t ∧ t.roleNow = 3 ∧ t.epoch = (s.epoch + 1) % 2 ^ 32) ∧
  (∀ s, s.roleNow ≠ 6 ∨ s.fab.lease = true → exec .managerListenEnd s = .next s) ∧
  -- HANDOVER, written and received.
  (∀ s v, s.roleNow ≠ 3 → BitVec.toNat (w := 64) v % 2 = 1 →
    ∃ t, exec (.handoverWrite v) s = .next t ∧ t.get MGT_FAB_RES.STATUS 0 = 1 ∧ t.get MGT_FAB_RES.VALID 0 = 1 ∧ t.get MGT_FAB_RES.SEQ 0 = (s.get MGT_FAB_RES.SEQ 0 + 1) % 256) ∧
  (∀ s v, s.roleNow = 3 → s.standby = none → BitVec.toNat (w := 64) v % 2 = 1 → ∃ t, exec (.handoverWrite v) s = .next t ∧ t.get MGT_FAB_RES.STATUS 0 = 2 ∧ t.get MGT_FAB_RES.VALID 0 = 1) ∧
  (∀ s v c, s.roleNow = 3 → s.standby = some c → s.fab.handover = false → s.fab.run = none → BitVec.toNat (w := 64) v % 2 = 1 →
    ∃ t, exec (.handoverWrite v) s = .next t ∧ t.fab.handover = true ∧ t.get MGT_FAB_RES.VALID 0 = 0 ∧ t.out = s.out ++ [Out.fabric c (.handover s.epoch (s.get MGT_FAB_GEN.GEN 0))]) ∧
  (∀ s v, BitVec.toNat (w := 64) v % 2 = 0 → exec (.handoverWrite v) s = .next s) ∧
  (∀ s, s.roleNow = 2 → ∃ t, exec (.handoverMessage s.epoch (s.get MGT_FAB_GEN.GEN 0)) s = .next t ∧ t.roleNow = 3 ∧ t.epoch = (s.epoch + 1) % 2 ^ 32) ∧
  (∀ s e g, s.roleNow ≠ 2 ∨ e ≠ s.epoch ∨ s.get MGT_FAB_GEN.GEN 0 ≠ g → exec (.handoverMessage e g) s = .next s) ∧
  -- LINK_REPORT: a member sends its own; the manager keeps one received.
  (∀ s l, s.roleNow ≠ 3 → s.isMember s.chipId = true → ∃ t, exec (.linkReport none l) s = .next t ∧ t.out = s.out ++ [Out.fabric (s.get MGT_FAB_STAT.ACTING_MGR 0) (.linkReport s.epoch s.ownReport)]) ∧
  (∀ s r, s.roleNow = 3 → ∃ t, exec (.linkReport (some r) []) s = .next t ∧ Tbl.rd (fun _ => []) t.fab.reports r.chip = r.links) ∧
  (∀ s r l, s.roleNow ≠ 3 → exec (.linkReport (some r) l) s = .next s) ∧
  -- CHIP_UNREACHABLE: a chip with no ACTIVE link in any report.
  (∀ s c r d, c < 256 → s.roleNow = 3 → s.fab.reports = [] → s.activeLinks = [] → Tbl.rd (fun _ => 0) s.fab.heard c + s.get MGT_FAB_CFG.UNREACH_MS 0 * 1000000 ≤ s.clk → c ≠ s.chipId →
      s.get MGT_FAB_MEMBER.STATE c ≠ 3 → s.fab.run = some r → r.phase = 0 → s.stepOf r = some d → r.acked = [] →
    ∃ t, exec (.chipUnreachable c) s = .next t ∧ t.fab.todo = s.fab.todo ++ [([FabChange.unreachable c], [])] ∧ t.fab.run = some r) ∧
  (∀ s c, c < 256 → s.clk < Tbl.rd (fun _ => 0) s.fab.heard c + s.get MGT_FAB_CFG.UNREACH_MS 0 * 1000000 → exec (.chipUnreachable c) s = .next s) ∧
  (∀ s c, c < 256 → s.roleNow ≠ 3 ∨ s.get MGT_FAB_MEMBER.STATE c = 3 → exec (.chipUnreachable c) s = .next s)

/-- Packets between chips (R160, R311 to R317). -/
def Obligations.FabricForwards : Prop :=
  -- FABRIC_HEADER_REBUILD: a packet that leaves is packed, its mark withheld and counted on a link of revision 1; an accepted unit is unpacked and frees its space.
  (∀ s b f, b < 64 → ∃ t, exec (.fabricHeaderRebuild b (.leave f)) s = .next t ∧
      (t.link b).waiting.map (fun y : WaitingPkt => (y.vc, y.bytes)) = (s.link b).waiting.map (fun y : WaitingPkt => (y.vc, y.bytes)) ++
        [(f.pkt.cls % 8, fabHeader f ++ f.pkt.body)] ∧
      t.get MGT_FAB_CNT.WITHHELD 0 = satAdd 16 (s.get MGT_FAB_CNT.WITHHELD 0) (if hasDevLoad f.pkt = true ∧ 2 ≤ s.markKept (2 * b) f.pkt.param ∧ s.get SFL_TRAIN_STATUS.REV b = 1 then 1 else 0)) ∧
  (∀ s b vc u, b < 64 → (s.link b).accepted.find? (fun y : AcceptedUnit => decide (y.vc = vc)) = some u → u.payload ≠ [] →
    ∃ t, exec (.fabricHeaderRebuild b (.arrive vc)) s = .next t ∧ (t.link b).accepted = (s.link b).accepted.erase u ∧
      t.get SFL_VC_STAT.FREE (8 * b + vc % 8) = (s.get SFL_VC_STAT.FREE (8 * b + vc % 8) + 1) % 2 ^ 14) ∧
  (∀ s b vc, b < 64 → (s.link b).accepted = [] → exec (.fabricHeaderRebuild b (.arrive vc)) s = .next s) ∧
  -- FABRIC_FORWARD: before membership or to an unreachable chip answered REMOTE_DOWN; else sent on the usable alternative's port, held while its slot's old path drains, dropped with TTL 0 where it only
  -- passes.
  (∀ s b f k port, b < 64 → 0 < f.ttl → s.joined = true → s.get MGT_FAB_MEMBER.STATE (f.dst / 512 % 256) ≠ 3 → s.fabricPort f.pkt.stream f.dst = some (k, port) →
      Tbl.rd (fun _ => none) s.fabPath (fabSlot f) = none →
    ∃ t, exec (.fabricForward b false f) s = .next t ∧ Tbl.rd (fun _ => none) t.fabPath (fabSlot f) = some port ∧
      Tbl.rd (fun _ => 0) t.fabFlight (fabSlot f) = Tbl.rd (fun _ => 0) s.fabFlight (fabSlot f) + 1 ∧ (t.transit.getLast?.map fun y : Nat × FabPkt => (y.1, y.2.ttl)) = some (s.leadOf (port / 2), f.ttl - 1)) ∧
  (∀ s b f k port, b < 64 → s.joined = true → s.get MGT_FAB_MEMBER.STATE (f.dst / 512 % 256) ≠ 3 → s.fabricPort f.pkt.stream f.dst = some (k, port) → Tbl.rd (fun _ => none) s.fabPath (fabSlot f) = none →
    ∃ t, exec (.fabricForward b true f) s = .next t ∧ (t.transit.getLast?.map fun y : Nat × FabPkt => (y.1, y.2.ttl)) = some (s.leadOf (port / 2), s.get MGT_FAB_CFG.TTL 0)) ∧
  (∀ s b f k port old, b < 64 → 0 < f.ttl → s.joined = true → s.get MGT_FAB_MEMBER.STATE (f.dst / 512 % 256) ≠ 3 → s.fabricPort f.pkt.stream f.dst = some (k, port) →
      Tbl.rd (fun _ => none) s.fabPath (fabSlot f) = some old → old ≠ port → 0 < Tbl.rd (fun _ => 0) s.fabFlight (fabSlot f) →
    ∃ t, exec (.fabricForward b false f) s = .next t ∧ t.fabHeld = s.fabHeld ++ [(fabSlot f, b, { f with ttl := f.ttl - 1 })] ∧ t.fabFlight = s.fabFlight) ∧
  (∀ s b f, b < 64 → f.ttl = 0 → exec (.fabricForward b false f) s = .next { s with transit := s.transit.filter fun y => decide (y ≠ (b, f)) }) ∧
  (∀ s b f, b < 64 → 0 < f.ttl → s.joined = false → f.pkt.cls ≠ 0 →
    exec (.fabricForward b false f) s = .next (({ s with transit := s.transit.filter fun y => decide (y ≠ (b, f)) } : State).absorb b f.pkt 4)) ∧
  -- TTL_EXPIRED: answered NO_ROUTE and counted.
  (∀ s b f, b < 64 → f.ttl = 0 → f.dst / 512 ≠ s.chipId → ∃ t, exec (.ttlExpired b f) s = .next t ∧ t.get MGT_FAB_CNT.TTL_EXP 0 = satAdd 16 (s.get MGT_FAB_CNT.TTL_EXP 0) 1) ∧
  (∀ s b f, b < 64 → 0 < f.ttl ∨ f.dst / 512 = s.chipId → exec (.ttlExpired b f) s = .next s) ∧
  -- FABRIC_LINK_LOSS_REROUTE: the alternatives over the port are shown unusable.
  (∀ s p d k, p < 128 → d < 256 → k < 4 → s.get SFL_TRAIN_STATUS.STATE (s.leadOf (p / 2)) ≠ 7 → (s.reg .MGT_FAB_FFT d).toNat / 2 ^ (8 * k) % 256 = 128 + p →
    ∃ t, exec (.fabricLinkLossReroute p false) s = .next t ∧ bitOf (t.get MGT_FAB_FFT.UP d) k = false) ∧
  (∀ s p d k, p < 128 → d < 256 → k < 4 → s.get SFL_TRAIN_STATUS.STATE (s.leadOf (p / 2)) = 7 → (s.reg .MGT_FAB_FFT d).toNat / 2 ^ (8 * k) % 256 = 128 + p →
    ∃ t, exec (.fabricLinkLossReroute p false) s = .next t ∧ bitOf (t.get MGT_FAB_FFT.UP d) k = true) ∧
  -- Once what was sent on the port has been delivered, its slots have nothing in flight, and a packet held for one goes on by the usable alternative.
  (∀ s p i, p < 128 → i < 4096 → Tbl.rd (fun _ => none) s.fabPath i = some p → s.fabHeld = [] →
    ∃ t, exec (.fabricLinkLossReroute p true) s = .next t ∧ Tbl.rd (fun _ => 0) t.fabFlight i = 0) ∧
  (∀ s p h, p < 128 → s.fabHeld = [h] → Tbl.rd (fun _ => none) s.fabPath h.1 = some p →
    ∃ t, exec (.fabricLinkLossReroute p true) s = .next t ∧ t.fabHeld = []) ∧
  -- MIXED_REVISION_RETRAIN: the lower chip ID declares down a link that could run a higher revision, where nothing is routed over it.
  (∀ s b, b < 64 → s.isFabric b = true → s.get SFL_TRAIN_STATUS.STATE b = 7 → s.get SFL_TRAIN_STATUS.REV b < s.get SFL_PHY_CFG.REV_MAX b → s.get SFL_TRAIN_STATUS.REV b < s.get SFL_PEER.REV_MAX b →
      s.chipId < s.get SFL_PEER.CHIP_ID b → (∀ d ∈ List.range 256, s.reg .MGT_FAB_FFT d = 0) → (∀ c ∈ s.fabricBlocks, s.get SFL_TRAIN_STATUS.STATE c = 7 ∨ s.get SFL_TRAIN_STATUS.STATE c = 0) →
    ∃ t, exec (.mixedRevisionRetrain b true) s = .next t ∧ t.get SFL_TRAIN_STATUS.STATE b = 2) ∧
  (∀ s b c, b < 64 → c ∈ s.fabricBlocks → s.get SFL_TRAIN_STATUS.STATE c ≠ 7 → s.get SFL_TRAIN_STATUS.STATE c ≠ 0 → exec (.mixedRevisionRetrain b true) s = .next s) ∧
  (∀ s b ok, b < 64 → s.get SFL_TRAIN_STATUS.STATE b ≠ 7 ∨ s.get SFL_PEER.CHIP_ID b ≤ s.chipId ∨ s.get SFL_PHY_CFG.REV_MAX b ≤ s.get SFL_TRAIN_STATUS.REV b → exec (.mixedRevisionRetrain b ok) s = .next s) ∧
  -- MIXED_CONDITION_CHANGE.
  (∀ s, ∃ t, exec .mixedConditionChange s = .next t ∧ t.get MGT_FAB_STAT.MIXED 0 = bit s.mixedNow)

/-- Image commands (R328, R329, R336) and boot (R327, R364). The outcome of a verification is written with the function that the commands use, since hashes and signatures are constants that
nothing evaluates (log entry 34). -/
def Obligations.ImagesKept : Prop :=
  -- ERASE: SLOT_IN_USE for the boot slot; else the slot record is erased first and the slot is not CHECKED any more.
  (∀ s sl, sl < 2 → s.imgRun = none → s.keyRun = none →
    ∃ t, exec (.imgErase sl) s = .next t ∧ t.imgRun = some (imgRunOf 1 sl (if s.bootSlot = some sl then 0x0F else 0)) ∧ t.get MGT_IMG_RES.VALID 0 = 0) ∧
  (∀ s sl k, sl < 2 → s.imgRun = none → s.keyRun = none → s.bootSlot ≠ some sl → k < 4096 →
    ∃ t, exec (.imgErase sl) s = .next t ∧ Tbl.rd erasedByte (t.flash sl) (recordAt + k) = 0xFF ∧ t.slotChecked sl = none) ∧
  -- WRITE: the page takes what it reads back as; an OFFSET that the rules do not allow has a free status (log entry 35).
  (∀ s sl off d, sl < 2 → s.imgRun = none → s.keyRun = none → off % 4096 = 0 → off < recordAt →
    ∃ t, exec (.imgWrite sl off d) s = .next t ∧
      t.imgRun.map ImgRun.status = some (if s.bootSlot = some sl then 0x0F else if padTo 4096 d = s.bufBytes 4096 then 0 else 0x10) ∧ t.flashA = s.flashA ∧ t.flashB = s.flashB) ∧
  (∀ s sl off d, sl < 2 → s.imgRun = none → s.keyRun = none → s.bootSlot ≠ some sl → off % 4096 ≠ 0 ∨ recordAt ≤ off →
    ∃ t, exec (.imgWrite sl off d) s = .next t ∧ t.imgRun.map ImgRun.page = some [] ∧ t.freeCtr = s.freeCtr + 1 ∧ t.flashA = s.flashA ∧ t.flashB = s.flashB) ∧
  -- CHECK, COMMIT and APPLY start with the outcome that their rules give.
  (∀ s sl rule img, sl < 2 → s.imgRun = none → s.keyRun = none →
    ∃ t, exec (.imgCheck sl rule img) s = .next t ∧
      t.imgRun = some (ImgRun.mk 3 sl 0 [] (s.verify sl false (s.ruleOf (s.flashNum sl 0x12 1) img rule)).1 (s.verify sl false (s.ruleOf (s.flashNum sl 0x12 1) img rule)).2.1 (s.verify sl false (s.ruleOf (s.flashNum sl 0x12 1) img rule)).2.2 img) ∧ t.get MGT_IMG_RES.VALID 0 = 0) ∧
  (∀ s sl, sl < 2 → s.imgRun = none → s.keyRun = none →
    ∃ t, exec (.imgCommit sl) s = .next t ∧ t.imgRun.map ImgRun.status = some (if s.slotChecked sl = none then 0x0E else if s.isDelta sl = true then 0x0A else 0)) ∧
  (∀ s sl img, sl < 2 → s.imgRun = none → s.keyRun = none →
    ∃ t, exec (.imgApply sl img) s = .next t ∧ t.imgRun.map ImgRun.status = some (s.applyStatus sl ((s.slotChecked sl).getD img))) ∧
  -- While an image or key command runs, another is recorded and starts nothing.
  (∀ s sl, sl < 2 → s.imgRun.isSome = true ∨ s.keyRun.isSome = true → ∃ t, exec (.imgErase sl) s = .next t ∧ t.imgRun = s.imgRun ∧ t.refusals = s.refusals + 1 ∧ t.flashA = s.flashA ∧ t.flashB = s.flashB) ∧
  (∀ s sl off d, sl < 2 → s.imgRun.isSome = true ∨ s.keyRun.isSome = true → ∃ t, exec (.imgWrite sl off d) s = .next t ∧ t.imgRun = s.imgRun ∧ t.refusals = s.refusals + 1) ∧
  (∀ s sl rule img, sl < 2 → s.imgRun.isSome = true ∨ s.keyRun.isSome = true → ∃ t, exec (.imgCheck sl rule img) s = .next t ∧ t.imgRun = s.imgRun ∧ t.refusals = s.refusals + 1) ∧
  (∀ s sl, sl < 2 → s.imgRun.isSome = true ∨ s.keyRun.isSome = true → ∃ t, exec (.imgCommit sl) s = .next t ∧ t.imgRun = s.imgRun ∧ t.refusals = s.refusals + 1) ∧
  (∀ s sl img, sl < 2 → s.imgRun.isSome = true ∨ s.keyRun.isSome = true → ∃ t, exec (.imgApply sl img) s = .next t ∧ t.imgRun = s.imgRun ∧ t.refusals = s.refusals + 1) ∧
  -- IMAGE_COMMAND_COMPLETE: the result is shown; the slot is erased, the page programmed, the contents CHECKED, only where the command was not refused.
  (∀ s r, s.imgRun = some r → r.op = 5 → r.status = 0 →
    ∃ t, exec .imageCommandComplete s = .next t ∧ t.imgRun = none ∧ t.get MGT_IMG_RES.STATUS 0 = s.applyStatus r.sl r.img % 256 ∧ t.get MGT_IMG_RES.VALID 0 = 1 ∧
      (s.applyStatus r.sl r.img = 0 ∨ t.flashA = s.flashA ∧ t.flashB = s.flashB ∧ t.get MGT_IMG_RES.REGIONS 0 = 0)) ∧
  (∀ s r, s.imgRun = some r → r.op ≠ 5 ∨ r.status ≠ 0 → ∃ t, exec .imageCommandComplete s = .next t ∧ t.imgRun = none ∧ t.get MGT_IMG_RES.STATUS 0 = r.status % 256 ∧ t.get MGT_IMG_RES.VALID 0 = 1) ∧
  (∀ s r k, s.imgRun = some r → r.op = 1 → r.sl < 2 → r.status = 0 → k < recordAt → ∃ t, exec .imageCommandComplete s = .next t ∧ Tbl.rd erasedByte (t.flash r.sl) k = 0xFF) ∧
  (∀ s r, s.imgRun = some r → r.op = 2 → r.sl < 2 → r.status = 0 ∨ r.status = 0x10 → ∃ t, exec .imageCommandComplete s = .next t ∧ t.flashBytes r.sl r.offset r.page.length = r.page) ∧
  (∀ s r, s.imgRun = some r → r.op = 3 → r.status = 0 → ∃ t, exec .imageCommandComplete s = .next t ∧ t.slotChecked r.sl = some r.img ∧ t.flashA = s.flashA ∧ t.flashB = s.flashB) ∧
  (∀ s r, s.imgRun = some r → r.status ≠ 0 → r.op ≠ 2 →
    ∃ t, exec .imageCommandComplete s = .next t ∧ t.flashA = s.flashA ∧ t.flashB = s.flashB ∧ t.checked = s.checked ∧ t.get MGT_IMG_RES.REGIONS 0 = 0 ∧
      t.get MGT_IMG_RES.SEQ 0 = (s.get MGT_IMG_RES.SEQ 0 + 1) % 256) ∧
  (∀ s, s.imgRun = none → exec .imageCommandComplete s = .next s) ∧
  -- BOOT_RECORDS_READ and BOOT_VERIFY_RESULT: the first slot in descending SEQ that passes is staged; with none the chip enters SAFE.
  (∀ s, s.phase = .boot → ∃ t, exec .bootRecordsRead s = .next t ∧ t.phase = Phase.verify) ∧
  (∀ s, s.phase ≠ .boot → exec .bootRecordsRead s = .next s) ∧
  (∀ s ra rb ia ib, s.phase = .verify → s.staged = none → s.hbmReady = false →
    ∃ t, exec (.bootVerifyResult ra ia rb ib) s = .next t ∧
      t.staged = (s.bootOrder.find? fun y : Nat => decide ((s.verify y true (s.ruleOf (s.flashNum y 0x12 1) (if y = 0 then ia else ib) (if y = 0 then ra else rb))).1 = 0)).map (fun y : Nat => (y, if y = 0 then ia else ib)) ∧
      t.phase = (if (s.bootOrder.find? fun y : Nat => decide ((s.verify y true (s.ruleOf (s.flashNum y 0x12 1) (if y = 0 then ia else ib) (if y = 0 then ra else rb))).1 = 0)).isSome then Phase.verify else Phase.safe)) ∧
  (∀ s ra rb ia ib, s.phase = .verify → s.staged = none → s.bootOrder = [] →
    ∃ t, exec (.bootVerifyResult ra ia rb ib) s = .next t ∧ t.phase = Phase.safe ∧ t.get PWR_MODE.SAFE_CAUSE 0 = 1) ∧
  (∀ s ra rb ia ib, s.phase ≠ .verify ∨ s.staged ≠ none → exec (.bootVerifyResult ra ia rb ib) s = .next s)

/-- Refused register accesses (R35): the first is recorded with event 3, later ones are counted only, a 1 written to PEND clears PEND and COUNT, an access refused in the cycle of that write is
a first access, and a refusal under R353 is counted in MGT_SESS.NOT_OWNER instead. `State.refuse` is what every refused access does. -/
def Obligations.RefusedAccessesRecorded : Prop :=
  (∀ s n tag a z, n < 8 → z < 4 → a < 2 ^ 30 → s.reachable (s.get MGT_SESS.PATH n) = true → s.sesOpen n = true → (s.sesAt n).last = none → a % 2 ^ z ≠ 0 ∨ s.locate a = .reserved →
      s.flag MGT_DRS_ERR.PEND 0 = false → s.get MGT_EVT_STAT.COUNT 0 < 960 →
    ∃ t, exec (.regRead n tag a z 1) s = .next t ∧ t.get MGT_DRS_ERR.ADDR 0 = a ∧ t.get MGT_DRS_ERR.SIZE 0 = z ∧ t.get MGT_DRS_ERR.WRITE 0 = 0 ∧ t.get MGT_DRS_ERR.SESSION 0 = n ∧
      t.get MGT_DRS_ERR.PEND 0 = 1 ∧ t.get MGT_DRS_ERR.COUNT 0 = 1 ∧ t.get MGT_EVT_STAT.NEXT_SEQ 0 = (s.get MGT_EVT_STAT.NEXT_SEQ 0 + 1) % 2 ^ 32 ∧
      (t.reg .MGT_EVT_REC (4 * (s.get MGT_EVT_STAT.NEXT_SEQ 0 % 1024) + 2)).toNat % 2 ^ 16 = 3) ∧
  (∀ s n tag a z d env, n < 8 → z < 4 → a < 2 ^ 30 → d.length = 2 ^ z → s.reachable (s.get MGT_SESS.PATH n) = true → s.phase ≠ .reset → s.sesOpen n = true → (s.sesAt n).last = none → s.owns n = true →
      a % 2 ^ z ≠ 0 ∨ s.locate a = .reserved → s.flag MGT_DRS_ERR.PEND 0 = false → s.get MGT_EVT_STAT.COUNT 0 < 960 →
    ∃ t, exec (.regWrite n tag a z 1 d env) s = .next t ∧ t.get MGT_DRS_ERR.ADDR 0 = a ∧ t.get MGT_DRS_ERR.SIZE 0 = z ∧ t.get MGT_DRS_ERR.WRITE 0 = 1 ∧ t.get MGT_DRS_ERR.SESSION 0 = n ∧
      t.get MGT_DRS_ERR.PEND 0 = 1 ∧ t.get MGT_DRS_ERR.COUNT 0 = 1 ∧ t.get MGT_EVT_STAT.NEXT_SEQ 0 = (s.get MGT_EVT_STAT.NEXT_SEQ 0 + 1) % 2 ^ 32) ∧
  (∀ s n tag a z, n < 8 → z < 4 → a < 2 ^ 30 → s.reachable (s.get MGT_SESS.PATH n) = true → s.sesOpen n = true → (s.sesAt n).last = none → a % 2 ^ z ≠ 0 ∨ s.locate a = .reserved →
      s.flag MGT_DRS_ERR.PEND 0 = true →
    ∃ t, exec (.regRead n tag a z 1) s = .next t ∧ t.get MGT_DRS_ERR.COUNT 0 = satAdd 16 (s.get MGT_DRS_ERR.COUNT 0) 1 ∧ t.get MGT_DRS_ERR.ADDR 0 = s.get MGT_DRS_ERR.ADDR 0 ∧
      t.get MGT_DRS_ERR.SIZE 0 = s.get MGT_DRS_ERR.SIZE 0 ∧ t.get MGT_DRS_ERR.WRITE 0 = s.get MGT_DRS_ERR.WRITE 0 ∧ t.get MGT_DRS_ERR.SESSION 0 = s.get MGT_DRS_ERR.SESSION 0 ∧
      t.get MGT_DRS_ERR.PEND 0 = 1 ∧ t.reg .MGT_EVT_STAT 0 = s.reg .MGT_EVT_STAT 0) ∧
  (∀ s n tag a z d env, n < 8 → z < 4 → a < 2 ^ 30 → d.length = 2 ^ z → s.reachable (s.get MGT_SESS.PATH n) = true → s.phase ≠ .reset → s.sesOpen n = true → (s.sesAt n).last = none → s.owns n = true →
      a % 2 ^ z ≠ 0 ∨ s.locate a = .reserved → s.flag MGT_DRS_ERR.PEND 0 = true →
    ∃ t, exec (.regWrite n tag a z 1 d env) s = .next t ∧ t.get MGT_DRS_ERR.COUNT 0 = satAdd 16 (s.get MGT_DRS_ERR.COUNT 0) 1 ∧ t.get MGT_DRS_ERR.ADDR 0 = s.get MGT_DRS_ERR.ADDR 0 ∧
      t.get MGT_DRS_ERR.SIZE 0 = s.get MGT_DRS_ERR.SIZE 0 ∧ t.get MGT_DRS_ERR.WRITE 0 = s.get MGT_DRS_ERR.WRITE 0 ∧ t.get MGT_DRS_ERR.SESSION 0 = s.get MGT_DRS_ERR.SESSION 0 ∧
      t.get MGT_DRS_ERR.PEND 0 = 1 ∧ t.reg .MGT_EVT_STAT 0 = s.reg .MGT_EVT_STAT 0) ∧
  (∀ (s : State) a z w n, a < 2 ^ 30 → z < 4 → n < 8 → s.flag MGT_DRS_ERR.PEND 0 = false → s.get MGT_EVT_STAT.COUNT 0 < 960 →
    (s.refuse a z w n).get MGT_DRS_ERR.ADDR 0 = a ∧ (s.refuse a z w n).get MGT_DRS_ERR.SIZE 0 = z ∧ (s.refuse a z w n).get MGT_DRS_ERR.WRITE 0 = bit w ∧
      (s.refuse a z w n).get MGT_DRS_ERR.SESSION 0 = n ∧ (s.refuse a z w n).get MGT_DRS_ERR.PEND 0 = 1 ∧ (s.refuse a z w n).get MGT_DRS_ERR.COUNT 0 = 1 ∧
      ((s.refuse a z w n).reg .MGT_EVT_REC (4 * (s.get MGT_EVT_STAT.NEXT_SEQ 0 % 1024) + 2)).toNat % 2 ^ 16 = 3) ∧
  (∀ (s : State) a z w n, s.flag MGT_DRS_ERR.PEND 0 = true →
    (s.refuse a z w n).get MGT_DRS_ERR.COUNT 0 = satAdd 16 (s.get MGT_DRS_ERR.COUNT 0) 1 ∧ (s.refuse a z w n).get MGT_DRS_ERR.ADDR 0 = s.get MGT_DRS_ERR.ADDR 0 ∧
      (s.refuse a z w n).get MGT_DRS_ERR.SIZE 0 = s.get MGT_DRS_ERR.SIZE 0 ∧ (s.refuse a z w n).get MGT_DRS_ERR.WRITE 0 = s.get MGT_DRS_ERR.WRITE 0 ∧
      (s.refuse a z w n).get MGT_DRS_ERR.SESSION 0 = s.get MGT_DRS_ERR.SESSION 0 ∧ (s.refuse a z w n).reg .MGT_EVT_STAT 0 = s.reg .MGT_EVT_STAT 0) ∧
  (∀ s, ∃ t, exec (.drsErrPendClear none) s = .next t ∧ t.get MGT_DRS_ERR.PEND 0 = 0 ∧ t.get MGT_DRS_ERR.COUNT 0 = 0) ∧
  (∀ s x, x.addr < 2 ^ 30 → x.size < 4 → x.session < 8 → s.get MGT_EVT_STAT.COUNT 0 < 960 →
    ∃ t, exec (.drsErrPendClear (some x)) s = .next t ∧ t.get MGT_DRS_ERR.ADDR 0 = x.addr ∧ t.get MGT_DRS_ERR.SIZE 0 = x.size ∧ t.get MGT_DRS_ERR.WRITE 0 = bit x.write ∧
      t.get MGT_DRS_ERR.SESSION 0 = x.session ∧ t.get MGT_DRS_ERR.PEND 0 = 1 ∧ t.get MGT_DRS_ERR.COUNT 0 = 1 ∧
      (t.reg .MGT_EVT_REC (4 * (s.get MGT_EVT_STAT.NEXT_SEQ 0 % 1024) + 2)).toNat % 2 ^ 16 = 3) ∧
  (∀ s n tag a z c d env, n < 8 → s.reachable (s.get MGT_SESS.PATH n) = true → s.sesOpen n = true → (s.sesAt n).last = none → s.owns n = false →
    ∃ t, exec (.regWrite n tag a z c d env) s = .next t ∧ t.reg .MGT_DRS_ERR 0 = s.reg .MGT_DRS_ERR 0 ∧ t.get MGT_SESS.NOT_OWNER n = satAdd 16 (s.get MGT_SESS.NOT_OWNER n) 1)

/-- A cause that finds its collector's record free fills it in one step with EVENT, CLASS, the detail, the fabric time and COUNT = 1, and sets PEND (R382). -/
def Obligations.FirstCauseRecorded : Prop :=
  (∀ s ev cls detail inj, ev < 512 → cls < 3 → (causesOf ev).contains (cls, false) = true → s.flag FLT_REC0.PEND (s.collectorOf ev) = false →
    ∃ t, exec (.faultCause ev cls detail inj) s = .next t ∧ t.get FLT_REC0.EVENT (s.collectorOf ev) = ev ∧ t.get FLT_REC0.CLASS (s.collectorOf ev) = cls ∧
      t.reg .FLT_REC1 (s.collectorOf ev) = word detail ∧ t.reg .FLT_REC2 (s.collectorOf ev) = word s.time ∧ t.get FLT_REC3.TIME_HI (s.collectorOf ev) = s.time / 2 ^ 64 % 2 ^ 32 ∧
      t.get FLT_REC0.COUNT (s.collectorOf ev) = 1 ∧ t.get FLT_REC0.PEND (s.collectorOf ev) = 1) ∧
  (∀ (s : State) ev cls detail inj, ev < 512 → cls < 3 → s.flag FLT_REC0.PEND (s.collectorOf ev) = false →
    (s.recordCause ev cls detail inj).get FLT_REC0.EVENT (s.collectorOf ev) = ev ∧ (s.recordCause ev cls detail inj).get FLT_REC0.CLASS (s.collectorOf ev) = cls ∧
      (s.recordCause ev cls detail inj).reg .FLT_REC1 (s.collectorOf ev) = word detail ∧ (s.recordCause ev cls detail inj).reg .FLT_REC2 (s.collectorOf ev) = word s.time ∧
      (s.recordCause ev cls detail inj).get FLT_REC3.TIME_HI (s.collectorOf ev) = s.time / 2 ^ 64 % 2 ^ 32 ∧ (s.recordCause ev cls detail inj).get FLT_REC0.COUNT (s.collectorOf ev) = 1 ∧
      (s.recordCause ev cls detail inj).get FLT_REC0.PEND (s.collectorOf ev) = 1)

/-- OWN_HANDOVER and RELEASE (R351). -/
def Obligations.OwnershipHandedOver : Prop :=
  (∀ s n tag k, n < 8 → k < 8 → s.reachable (s.get MGT_SESS.PATH n) = true → s.sesOpen n = true → (s.sesAt n).last = none → s.owns n = true → s.sesOpen k = true → k ≠ n →
    ∃ t, exec (.ownHandover n tag k) s = .next t ∧ t.owns k = true ∧ t.leaseAt = s.clk ∧ t.get MGT_OWN_STAT.LEASE_LEFT 0 = 2000 ∧
      t.out = s.out ++ [Out.weusk ⟨7, n, .ok, tag, freeParam 7 tag, []⟩, Out.weusk ⟨5, k, .ok, freeTag, freeParam 5 freeTag, []⟩]) ∧
  (∀ s n tag k, n < 8 → k < 8 → s.reachable (s.get MGT_SESS.PATH n) = true → s.sesOpen n = true → (s.sesAt n).last = none → s.owns n = true → s.sesOpen k = false ∨ k = n →
    ∃ t, exec (.ownHandover n tag k) s = .next t ∧ t.reg .MGT_OWN_STAT 0 = s.reg .MGT_OWN_STAT 0 ∧ t.leaseAt = s.leaseAt ∧ t.out = s.out ++ [Out.weusk ⟨7, n, .noSession, tag, freeParam 7 tag, []⟩]) ∧
  (∀ s n tag, n < 8 → s.reachable (s.get MGT_SESS.PATH n) = true → s.sesOpen n = true → (s.sesAt n).last = none → s.owns n = true →
    ∃ t, exec (.releaseOwnership n tag) s = .next t ∧ t.flag MGT_OWN_STAT.HELD 0 = false)

/-- A claim's value (R348): the session's priority above a nonce drawn from the TRNG, whose output is a free value (log entry 8); no election opens while the TRNG is not ready. -/
def Obligations.ClaimsValued : Prop :=
  (∀ s n tag prio, n < 8 → prio < 256 → s.reachable (s.get MGT_SESS.PATH n) = true → s.sesOpen n = true → (s.sesAt n).last = none → s.flag KEY_TRNG_STAT.READY 0 = true →
      s.flag MGT_OWN_STAT.HELD 0 = false → s.flag MGT_OWN_STAT.ELECT 0 = false →
    ∃ t, exec (.claim n tag prio) s = .next t ∧ t.flag MGT_OWN_STAT.ELECT 0 = true ∧ t.claims.map (fun y : Nat × Nat × Nat => (y.1, y.2.1 / 2 ^ 56, y.2.1 % 2 ^ 56)) =
      [(n, prio, (Config.trngOut s.freeCtr).toNat % 2 ^ 56)]) ∧
  (∀ s n tag prio, n < 8 → prio < 256 → s.reachable (s.get MGT_SESS.PATH n) = true → s.sesOpen n = true → (s.sesAt n).last = none → s.flag KEY_TRNG_STAT.READY 0 = true →
      s.flag MGT_OWN_STAT.HELD 0 = false → s.flag MGT_OWN_STAT.ELECT 0 = true → s.claims.any (fun y => y.1 = n) = false →
    ∃ t, exec (.claim n tag prio) s = .next t ∧ t.claims.map (fun y : Nat × Nat × Nat => (y.1, y.2.1 / 2 ^ 56, y.2.1 % 2 ^ 56)) =
      s.claims.map (fun y : Nat × Nat × Nat => (y.1, y.2.1 / 2 ^ 56, y.2.1 % 2 ^ 56)) ++ [(n, prio, (Config.trngOut s.freeCtr).toNat % 2 ^ 56)]) ∧
  (∀ s n tag prio, n < 8 → s.reachable (s.get MGT_SESS.PATH n) = true → s.sesOpen n = true → (s.sesAt n).last = none → s.flag KEY_TRNG_STAT.READY 0 = false →
    ∃ t, exec (.claim n tag prio) s = .next t ∧ t.reg .MGT_OWN_STAT 0 = s.reg .MGT_OWN_STAT 0 ∧ t.claims = s.claims ∧ t.out = s.out ++ [Out.weusk ⟨5, n, .notReady, tag, freeParam 5 tag, []⟩])

/-- The ring of event records (R358): the 32 bytes of a record, the 64 places kept for classes 1 and 2, and what OVF counts. MGT_EVT_REC shows record j as four words (R360). -/
def Obligations.EventsQueued : Prop :=
  (∀ s ev cls detail j, ev < 512 → cls < 3 → s.get MGT_EVT_STAT.COUNT 0 < 960 ∨ (0 < cls ∧ s.get MGT_EVT_STAT.COUNT 0 < 1024) → j = s.get MGT_EVT_STAT.NEXT_SEQ 0 % 1024 →
    ∃ t, exec (.eventQueue ev cls detail) s = .next t ∧ t.reg .MGT_EVT_REC (4 * j) = word (s.time % 2 ^ 64) ∧
      (t.reg .MGT_EVT_REC (4 * j + 1)).toNat = s.time / 2 ^ 64 % 2 ^ 32 + s.get MGT_EVT_STAT.NEXT_SEQ 0 * 2 ^ 32 ∧
      (t.reg .MGT_EVT_REC (4 * j + 2)).toNat = ev + cls * 2 ^ 16 + detail % 2 ^ 32 * 2 ^ 32 ∧ (t.reg .MGT_EVT_REC (4 * j + 3)).toNat = detail / 2 ^ 32 % 2 ^ 32 ∧
      t.get MGT_EVT_STAT.COUNT 0 = s.get MGT_EVT_STAT.COUNT 0 + 1 ∧ t.get MGT_EVT_STAT.NEXT_SEQ 0 = (s.get MGT_EVT_STAT.NEXT_SEQ 0 + 1) % 2 ^ 32 ∧
      t.get MGT_EVT_STAT.OVF 0 = s.get MGT_EVT_STAT.OVF 0 ∧ t.cxlLog = s.cxlLog) ∧
  (∀ s ev cls detail, ev < 512 → (cls = 0 ∧ 960 ≤ s.get MGT_EVT_STAT.COUNT 0) ∨ 1024 ≤ s.get MGT_EVT_STAT.COUNT 0 →
    ∃ t, exec (.eventQueue ev cls detail) s = .next t ∧ t.get MGT_EVT_STAT.OVF 0 = satAdd MGT_EVT_STAT.OVF.width (s.get MGT_EVT_STAT.OVF 0) 1 ∧
      t.get MGT_EVT_STAT.COUNT 0 = s.get MGT_EVT_STAT.COUNT 0 ∧ t.get MGT_EVT_STAT.NEXT_SEQ 0 = s.get MGT_EVT_STAT.NEXT_SEQ 0 ∧ t.cxlLog = s.cxlLog)

/-- The collectors of the regions (R399): their addresses, fields and reset values, and SECOND alone written in FLT_CFG. -/
def Obligations.RegionCollectorsPlaced : Prop :=
  (∀ r, r < 4 → drsAddr .FLT_CFG r = 0x4000000 + r * 0x1000000 + 0xB00000 ∧ drsAddr .FLT_REG_STAT r = 0x4000000 + r * 0x1000000 + 0xB00008 ∧
    drsAddr .FLT_REC0 r = 0x4000000 + r * 0x1000000 + 0xB00010 ∧ drsAddr .FLT_REC1 r = 0x4000000 + r * 0x1000000 + 0xB00018 ∧
    drsAddr .FLT_REC2 r = 0x4000000 + r * 0x1000000 + 0xB00020 ∧ drsAddr .FLT_REC3 r = 0x4000000 + r * 0x1000000 + 0xB00028) ∧
  (∀ (s : State) r, r < 4 → s.locate (0x4000000 + r * 0x1000000 + 0xB00008) = (if s.phase = .safe then .reserved else .reg .FLT_REG_STAT r)) ∧
  FLT_CFG.SECOND = ⟨.FLT_CFG, 0, 0, .RW⟩ ∧ FLT_REG_STAT.FATAL = ⟨.FLT_REG_STAT, 0, 0, .W1C⟩ ∧ FLT_REG_STAT.STATE = ⟨.FLT_REG_STAT, 2, 1, .RO⟩ ∧
    FLT_REG_STAT.SCAN_FAIL = ⟨.FLT_REG_STAT, 3, 3, .RO⟩ ∧ FLT_REG_STAT.FATAL_EVT = ⟨.FLT_REG_STAT, 24, 16, .RO⟩ ∧
  FLT_REC0.EVENT = ⟨.FLT_REC0, 8, 0, .RO⟩ ∧ FLT_REC0.CLASS = ⟨.FLT_REC0, 10, 9, .RO⟩ ∧ FLT_REC0.MULTI = ⟨.FLT_REC0, 11, 11, .RO⟩ ∧ FLT_REC0.ESC = ⟨.FLT_REC0, 12, 12, .RO⟩ ∧
    FLT_REC0.INJ = ⟨.FLT_REC0, 13, 13, .RO⟩ ∧ FLT_REC0.COUNT = ⟨.FLT_REC0, 31, 16, .RO⟩ ∧ FLT_REC0.PEND = ⟨.FLT_REC0, 63, 63, .W1C⟩ ∧ FLT_REC1.DETAIL = ⟨.FLT_REC1, 63, 0, .RO⟩ ∧
    FLT_REC2.TIME_LO = ⟨.FLT_REC2, 63, 0, .RO⟩ ∧ FLT_REC3.TIME_HI = ⟨.FLT_REC3, 31, 0, .RO⟩ ∧
  (∀ r, r < 4 → State.reset.reg .FLT_REG_STAT r = 0 ∧ State.reset.reg .FLT_CFG r = 0 ∧ State.reset.reg .FLT_REC0 r = 0) ∧
  (∀ (s : State) r v, r < 4 → (s.writeFltCfg r v).reg .FLT_CFG r = (s.reg .FLT_CFG r).setField 0 0 (v.field 0 0))

/-- A step takes the command at the front of the queue and runs it with the queue's rest. -/
def Obligations.StepRunsTheFront : Prop :=
  (∀ (s : State) c cs, s.pending = c :: cs → step s = exec c { s with pending := cs })

/-- With no command waiting a step lets one nanosecond of the model's clock pass (the model's choice, log entry 7): nothing leaves the device and no memory changes. -/
def Obligations.IdleStepTicks : Prop :=
  (∀ (s : State), s.pending = [] →
    ∃ t, step s = .next t ∧ t.clk = s.clk + 1 ∧ t.phase = s.phase ∧ t.pending = [] ∧ t.out = s.out ∧ t.hbm = s.hbm ∧ t.flashA = s.flashA ∧ t.flashB = s.flashB ∧ t.fuses = s.fuses)

/-- Right after reset the memories are in canonical form, no command waits, the chip is in BOOT with MODE = BOOT and CHANGES = 0, and no session owns it. -/
def Obligations.ResetIsCanonical : Prop :=
  State.reset.Canonical ∧ State.reset.Queued ∧ State.reset.phase = .boot ∧ State.reset.pending = [] ∧ State.reset.get PWR_MODE.MODE 0 = 1 ∧ State.reset.get PWR_MODE.CHANGES 0 = 0 ∧
    State.reset.get MGT_OWN_STAT.HELD 0 = 0 ∧ State.reset.get MGT_EVT_STAT.COUNT 0 = 0 ∧ State.reset.time = 0

/-- A command whose units all exist completes in every state; any other stops, and the fault says so (log entry 2). -/
def Obligations.StopsNameMissingUnits : Prop :=
  (∀ (i : Instr) s, i.wf = true → ∃ t, exec i s = .next t) ∧
  (∀ (i : Instr) s, i.wf = false → exec i s = .fault .noSuchUnit)

/-- Every step keeps the register file, the HBM and both flash devices in canonical form: addresses strictly rising, and nothing listed that an unlisted place reads as. -/
def Obligations.StepsKeepCanonicalForm : Prop :=
  (∀ (s t : State), s.Canonical → step s = .next t → t.Canonical)

/-- A queue of commands whose units exist is served from its front, one a step, and no command, a reset among them, adds to it, reorders it or stops it. -/
def Obligations.QueueServedInOrder : Prop :=
  (∀ (s : State), s.Queued → ∃ t, step s = .next t ∧ t.pending = s.pending.tail ∧ t.Queued)

/-- The phase of the chip changes only as R364 gives: to RESET from any; from RESET to BOOT or SAFE; from BOOT to VERIFY or SAFE; from VERIFY to PROVISION or SAFE; from PROVISION to the operating
group; to TEST from any but RESET. SAFE and TEST are therefore left only by a reset (R368), but for SAFE to TEST. -/
def Obligations.PhasesChangeByTheTable : Prop :=
  (∀ (i : Instr) s t, exec i s = .next t →
    t.phase = s.phase ∨ t.phase = .reset ∨ (s.phase = .reset ∧ (t.phase = .boot ∨ t.phase = .safe)) ∨ (s.phase = .boot ∧ (t.phase = .verify ∨ t.phase = .safe)) ∨
      (s.phase = .verify ∧ (t.phase = .provision ∨ t.phase = .safe)) ∨ (s.phase = .provision ∧ t.phase = .operating) ∨ (s.phase ≠ .reset ∧ t.phase = .test))

/-- No command, an interrupted one among them, makes a revoked root slot usable again or lowers the SVN floor (R331, R332, R336). -/
def Obligations.FusesOnlyBlow : Prop :=
  (∀ (i : Instr) s t, exec i s = .next t → (∀ n, s.rootRevoked n = true → t.rootRevoked n = true) ∧ s.svnFloor ≤ t.svnFloor)

/-- A slot command changes no other slot's registers, pins or timers; a register or memory request changes nothing that another session holds. -/
def Obligations.UnitsKeptApart : Prop :=
  (∀ n m why (s t : State), m ≠ n → exec (.slotTrip n why) s = .next t → t.reg .SLT_STAT m = s.reg .SLT_STAT m ∧ t.slot m = s.slot m) ∧
  (∀ n m (s t : State), m ≠ n → exec (.slotRetry n) s = .next t → t.reg .SLT_STAT m = s.reg .SLT_STAT m ∧ t.slot m = s.slot m) ∧
  (∀ n m (s t : State), m ≠ n → exec (.slotCommandedOn n) s = .next t → t.reg .SLT_STAT m = s.reg .SLT_STAT m ∧ t.slot m = s.slot m) ∧
  (∀ n m (s t : State), m ≠ n → exec (.slotOffCommand n) s = .next t → t.reg .SLT_STAT m = s.reg .SLT_STAT m ∧ t.slot m = s.slot m) ∧
  (∀ n m (s t : State), m ≠ n → exec (.slotPresenceLoss n) s = .next t → t.reg .SLT_STAT m = s.reg .SLT_STAT m ∧ t.slot m = s.slot m) ∧
  (∀ n m (s t : State), m ≠ n → exec (.fetFail n) s = .next t → t.reg .SLT_STAT m = s.reg .SLT_STAT m ∧ t.slot m = s.slot m) ∧
  (∀ n m (s t : State), m ≠ n → exec (.slotClear n) s = .next t → t.reg .SLT_STAT m = s.reg .SLT_STAT m ∧ t.slot m = s.slot m) ∧
  (∀ n m w (s t : State), m ≠ n → exec (.pwrbrkAssert n w) s = .next t → t.reg .SLT_STAT m = s.reg .SLT_STAT m ∧ t.slot m = s.slot m) ∧
  (∀ n m (s t : State), m ≠ n → exec (.cycle n) s = .next t → t.reg .SLT_STAT m = s.reg .SLT_STAT m ∧ t.slot m = s.slot m) ∧
  (∀ n m tag a z c (s t : State), m ≠ n → exec (.regRead n tag a z c) s = .next t → t.sesAt m = s.sesAt m) ∧
  (∀ n m tag asd addr len (s t : State), m ≠ n → exec (.memRead n tag asd addr len) s = .next t → t.sesAt m = s.sesAt m) ∧
  (∀ n m tag asd addr d (s t : State), m ≠ n → exec (.memWrite n tag asd addr d) s = .next t → t.sesAt m = s.sesAt m)

/-- Where a command stores to HBM: the debug view (R33), a level-2 entry (R194, R201), the level-2 table of a fractured extent (R200) and a trace record (R418): every other byte of HBM is as it was. -/
def Obligations.StoresKeepOtherBytes : Prop :=
  (∀ n tag x z w (s t : State) a, exec (.debugViewAccess n tag x z true w) s = .next t →
    a < s.get MGT_HBM_DBG_BASE.WINDOW 0 * 2 ^ 29 + x % 2 ^ 29 ∨ s.get MGT_HBM_DBG_BASE.WINDOW 0 * 2 ^ 29 + x % 2 ^ 29 + 2 ^ (z % 4) ≤ a → Memory.read t.hbm a = Memory.read s.hbm a) ∧
  (∀ n tag x z w (s t : State) a, exec (.debugViewAccess n tag x z false w) s = .next t → Memory.read t.hbm a = Memory.read s.hbm a) ∧
  (∀ idx g (s t : State) a, exec (.writeL2 idx g) s = .next t →
    a < s.l2Addr (s.get L1_W0.L2PTR (idx % 65536) * 512 + g % 512) ∨ s.l2Addr (s.get L1_W0.L2PTR (idx % 65536) * 512 + g % 512) + 8 ≤ a → Memory.read t.hbm a = Memory.read s.hbm a) ∧
  (∀ idx (s t : State) a p, exec (.fracture idx) s = .next t → s.l2FreeTable = some p → a < s.l2Addr (p * 512) ∨ s.l2Addr (p * 512) + 4096 ≤ a → Memory.read t.hbm a = Memory.read s.hbm a) ∧
  (∀ idx (s t : State) a, exec (.fracture idx) s = .next t → s.l2FreeTable = none → Memory.read t.hbm a = Memory.read s.hbm a) ∧
  (∀ credit (s t : State) a, exec (.traceRecord credit) s = .next t →
    a < s.traceBase + 64 * (s.get CNT_TRC_STAT.WREC 0 % max 1 s.traceCapacity) ∨ s.traceBase + 64 * (s.get CNT_TRC_STAT.WREC 0 % max 1 s.traceCapacity) + 64 ≤ a →
    Memory.read t.hbm a = Memory.read s.hbm a)

/-- Completion and frames of the port and fabric-link commands: each of these commands completes in every state in which the units that it names exist, and every part of the state that
its list in Sys2Proof/Changes.lean does not name is then as it was: every register of every other kind, all of the HBM, both flash devices, the eFuse and every queue and table. -/
def Obligations.LinkCommandsFramed : Prop :=
  (∀ p bitsK errs, (Instr.bringUpStart p bitsK errs).Framed) ∧
  (∀ p passed partner lanes, (Instr.trainingStageEnd p passed partner lanes).Framed) ∧
  (∀ blk a0 a1, (Instr.adminWrite blk a0 a1).Framed) ∧
  (∀ blk k symbols, (Instr.symbolWindowEnd blk k symbols).Framed) ∧
  (∀ blk k reason, (Instr.laneMark blk k reason).Framed) ∧
  (∀ p width, (Instr.l0pRequestPartner p width).Framed) ∧
  (∀ blk h tgt, (Instr.l0pTgtWrite blk h tgt).Framed) ∧
  (∀ p, (Instr.l0pChangeComplete p).Framed) ∧
  (∀ blk r0 r1, (Instr.retrainWrite blk r0 r1).Framed) ∧
  (∀ p, (Instr.recoveryEntry p).Framed) ∧
  (∀ p spareOk, (Instr.recoveryComplete p spareOk).Framed) ∧
  (∀ blk mask, (Instr.markClear blk mask).Framed) ∧
  (∀ blk ok, (Instr.spareSelfCheck blk ok).Framed) ∧
  (∀ blk value, (Instr.prbsEnWrite blk value).Framed) ∧
  (∀ blk bitsK errs, (Instr.prbsSnap blk bitsK errs).Framed) ∧
  (∀ blk k clean, (Instr.prbsCheckerLock blk k clean).Framed) ∧
  (∀ blk k errors counted, (Instr.prbsCheckerLoseLock blk k errors counted).Framed) ∧
  (∀ p planned partials, (Instr.dlUpLoss p planned partials).Framed) ∧
  (∀ blk k marker spacing inverted, (Instr.markerCandidate blk k marker spacing inverted).Framed) ∧
  (∀ blk k marker late, (Instr.markerCheck blk k marker late).Framed) ∧
  (∀ blk k ok symbols levels, (Instr.codewordDecode blk k ok symbols levels).Framed) ∧
  (∀ blk failed, (Instr.calibrationDone blk failed).Framed) ∧
  (∀ blk pairs, (Instr.signalDetect blk pairs).Framed) ∧
  (∀ blk k x, (Instr.trainBlockReceived blk k x).Framed) ∧
  (∀ blk, (Instr.adaptDone blk).Framed) ∧
  (∀ blk, (Instr.adaptBoundExceeded blk).Framed) ∧
  (∀ blk, (Instr.adaptPartnerDoneTimeout blk).Framed) ∧
  (∀ blk skews, (Instr.deskewRelease blk skews).Framed) ∧
  (∀ blk bits, (Instr.capBlockReceived blk bits).Framed) ∧
  (∀ blk more, (Instr.capxComplete blk more).Framed) ∧
  (∀ blk, (Instr.capxTimeout blk).Framed) ∧
  (∀ blk, (Instr.trainingFailBackoffEnd blk).Framed) ∧
  (∀ blk blocks, (Instr.checkUnitReceived blk blocks).Framed) ∧
  (∀ blk seen, (Instr.partnerRetrainDetect blk seen).Framed) ∧
  (∀ blk, (Instr.sflRetrainWrite blk).Framed) ∧
  (∀ blk, (Instr.dataUnitSend blk).Framed) ∧
  (∀ blk blocks, (Instr.flowUnitReceived blk blocks).Framed) ∧
  (∀ blk aseq, (Instr.ackReceived blk aseq).Framed) ∧
  (∀ blk aseq, (Instr.nakReceived blk aseq).Framed) ∧
  (∀ blk, (Instr.replayTimeout blk).Framed) ∧
  (∀ blk, (Instr.replayUnitResend blk).Framed) ∧
  (∀ blk, (Instr.replayMaxExceeded blk).Framed) ∧
  (∀ blk, (Instr.ackTimer blk).Framed) ∧
  (∀ blk, (Instr.nakResendTimer blk).Framed) ∧
  (∀ blk v, (Instr.xoffUpdate blk v).Framed) ∧
  (∀ blk, (Instr.timingSlot blk).Framed) ∧
  (∀ blk received bits copies, (Instr.laneSet blk received bits copies).Framed) ∧
  (∀ blk bits copies, (Instr.laneAck blk bits copies).Framed) ∧
  (∀ blk bits copies, (Instr.laneNak blk bits copies).Framed) ∧
  (∀ blk received bits copies, (Instr.switchLanes blk received bits copies).Framed) ∧
  (∀ blk bits copies, (Instr.keysync blk bits copies).Framed) ∧
  (∀ blk lane, (Instr.activeLaneLockLoss blk lane).Framed) ∧
  (∀ blk, (Instr.laneReqWrite blk).Framed) ∧
  (∀ blk, (Instr.sflLinkDown blk).Framed) ∧
  (∀ blk, (Instr.downTmoExpiry blk).Framed) ∧
  (∀ blk value, (Instr.sflKeyCommit blk value).Framed) ∧
  (∀ blk slot, (Instr.txSlotWrite blk slot).Framed) ∧
  (∀ blk slot, (Instr.keyCountLimit blk slot).Framed)

/-- Completion and frames of the switching core, resolution and Temper: each of these commands completes in every state in which the units that it names exist, and every part of the state that
its list in Sys2Proof/Changes.lean does not name is then as it was: every register of every other kind, all of the HBM, both flash devices, the eFuse and every queue and table. -/
def Obligations.AnvilCommandsFramed : Prop :=
  (∀ rt input ecc injected, (Instr.crossingFlitArrival rt input ecc injected).Framed) ∧
  (∀ n src p, (Instr.packetInject n src p).Framed) ∧
  (∀ n d a value, (Instr.routeEntryWrite n d a value).Framed) ∧
  (∀ n d, (Instr.routeChangeResume n d).Framed) ∧
  (∀ rt out ecc wire, (Instr.flitSwitch rt out ecc wire).Framed) ∧
  (∀ rt d wire, (Instr.linkWireSpare rt d wire).Framed) ∧
  (∀ n, (Instr.voqInject n).Framed) ∧
  (∀ n e, (Instr.creditRequest n e).Framed) ∧
  (∀ e, (Instr.creditGrant e).Framed) ∧
  (∀ e n, (Instr.creditReturn e n).Framed) ∧
  (∀ n e, (Instr.sharedGrantRelease n e).Framed) ∧
  (∀ p, (Instr.egressPacketSend p).Framed) ∧
  (∀ n code, (Instr.quenchTrigger n code).Framed) ∧
  (∀ n target code, (Instr.quenchNoticeArrival n target code).Framed) ∧
  (∀ r n, (Instr.quenchSet r n).Framed) ∧
  (∀ r n, (Instr.quenchClear r n).Framed) ∧
  (∀ n, (Instr.slagAnswer n).Framed) ∧
  (∀ n, (Instr.unquench n).Framed) ∧
  (∀ n target, (Instr.unquenchNoticeArrival n target).Framed) ∧
  (∀ m port egress poison flow msg, (Instr.mirrorCopy m port egress poison flow msg).Framed) ∧
  (∀ m, (Instr.mirrorRecordWrite m).Framed) ∧
  (∀ rt input p, (Instr.probeMatch rt input p).Framed) ∧
  (∀ rt, (Instr.probeSnap rt).Framed) ∧
  (∀ m value, (Instr.mirrorEnWrite m value).Framed) ∧
  (∀ q, (Instr.requestColour q).Framed) ∧
  (∀ c, (Instr.holdQueueRetest c).Framed) ∧
  (∀ c, (Instr.holdQueueFull c).Framed) ∧
  (∀ c, (Instr.holdBoundExpiry c).Framed) ∧
  (∀ r value, (Instr.holdBoundWrite r value).Framed) ∧
  (∀ c wordNo value, (Instr.contextRewrite c wordNo value).Framed) ∧
  (∀ p queue wordNo value, (Instr.shaperRewrite p queue wordNo value).Framed) ∧
  (∀ p param c, (Instr.cmarkReceived p param c).Framed) ∧
  (∀ r index feid ld, (Instr.bindFlow r index feid ld).Framed) ∧
  (∀ r feid ld, (Instr.unbindFlow r feid ld).Framed) ∧
  (∀ r feid ld, (Instr.lookupFlow r feid ld).Framed) ∧
  (∀ r, (Instr.bindCommandComplete r).Framed) ∧
  (∀ r feid ld, (Instr.autoBind r feid ld).Framed) ∧
  (∀ q, (Instr.requestResolve q).Framed)

/-- Completion and frames of the home slices, the remap stage and the duplicated tables: each of these commands completes in every state in which the units that it names exist, and every part of the state that
its list in Sys2Proof/Changes.lean does not name is then as it was: every register of every other kind, all of the HBM, both flash devices, the eFuse and every queue and table. -/
def Obligations.CoherenceCommandsFramed : Prop :=
  (∀ r, (Instr.acuErrPendClear r).Framed) ∧
  (∀ r entry, (Instr.l2CacheFill r entry).Framed) ∧
  (∀ win wordNo value, (Instr.acuWindowWrite win wordNo value).Framed) ∧
  (∀ entry wordNo value, (Instr.l1EntryWrite entry wordNo value).Framed) ∧
  (∀ r t entry copy flip ecc, (Instr.duplicateMismatch r t entry copy flip ecc).Framed) ∧
  (∀ r t entry, (Instr.duplicateRepair r t entry).Framed) ∧
  (∀ r, (Instr.tableScrubStep r).Framed) ∧
  (∀ idx, (Instr.fracture idx).Framed) ∧
  (∀ idx, (Instr.unfracture idx).Framed) ∧
  (∀ idx gran, (Instr.writeL2 idx gran).Framed) ∧
  (∀ idx gran, (Instr.readL2 idx gran).Framed) ∧
  Instr.remapCommandComplete.Framed ∧
  (∀ q, (Instr.hearthRequestArrival q).Framed) ∧
  (∀ line, (Instr.transactionStart line).Framed) ∧
  (∀ line, (Instr.directoryCacheMiss line).Framed) ∧
  (∀ line agent, (Instr.holdExpiry line agent).Framed) ∧
  (∀ line agent, (Instr.bisnpSend line agent).Framed) ∧
  (∀ line agent rsp, (Instr.birspReceived line agent rsp).Framed) ∧
  (∀ line agent, (Instr.snpDeadReceived line agent).Framed) ∧
  (∀ line agent, (Instr.bisnpTimeout line agent).Framed) ∧
  (∀ q, (Instr.writebackReceived q).Framed) ∧
  (∀ line agent tag, (Instr.biconflict line agent tag).Framed) ∧
  (∀ line data poison slag, (Instr.expanderResponse line data poison slag).Framed) ∧
  (∀ line, (Instr.transactionComplete line).Framed) ∧
  (∀ vcs, (Instr.caidRequest vcs).Framed) ∧
  (∀ agent feid, (Instr.caidInstall agent feid).Framed) ∧
  (∀ vcs, (Instr.caidRequestTimeout vcs).Framed) ∧
  (∀ agent, (Instr.agentRemoval agent).Framed) ∧
  (∀ agent, (Instr.directorySweepComplete agent).Framed) ∧
  (∀ line, (Instr.readDir line).Framed) ∧
  (∀ value, (Instr.hrtCfgWrite value).Framed) ∧
  (∀ n, (Instr.poisonLogClear n).Framed)

/-- Completion and frames of the CXL switch and its fabric-manager commands: each of these commands completes in every state in which the units that it names exist, and every part of the state that
its list in Sys2Proof/Changes.lean does not name is then as it was: every register of every other kind, all of the HBM, both flash devices, the eFuse and every queue and table. -/
def Obligations.SwitchCommandsFramed : Prop :=
  (∀ p len vppb target ld, (Instr.bindVppb p len vppb target ld).Framed) ∧
  (∀ v, (Instr.bindComplete v).Framed) ∧
  (∀ p len vppb option, (Instr.unbindVppb p len vppb option).Framed) ∧
  (∀ v, (Instr.unbindComplete v).Framed) ∧
  (∀ v, (Instr.hotRemoveTimeout v).Framed) ∧
  (∀ p len, (Instr.abortBackground p len).Framed) ∧
  (∀ p len, (Instr.identify p len).Framed) ∧
  (∀ p len, (Instr.backgroundStatus p len).Framed) ∧
  (∀ p len, (Instr.getResponseLimit p len).Framed) ∧
  (∀ p len bytes, (Instr.setResponseLimit p len bytes).Framed) ∧
  (∀ p len, (Instr.getEventRecords p len).Framed) ∧
  (∀ p len handles, (Instr.clearEventRecords p len handles).Framed) ∧
  (∀ p len, (Instr.getEventPolicy p len).Framed) ∧
  (∀ p len policy, (Instr.setEventPolicy p len policy).Framed) ∧
  (∀ p len, (Instr.getTimestamp p len).Framed) ∧
  (∀ p len, (Instr.getSupportedLogs p len).Framed) ∧
  (∀ p len, (Instr.getLog p len).Framed) ∧
  (∀ p len, (Instr.identifySwitch p len).Framed) ∧
  (∀ p len ports, (Instr.getPortState p len ports).Framed) ∧
  (∀ p len target op, (Instr.portControl p len target op).Framed) ∧
  (∀ p len target request answer, (Instr.ppbConfig p len target request answer).Framed) ∧
  (∀ p len vcs, (Instr.vcsInfo p len vcs).Framed) ∧
  (∀ p len vppb error, (Instr.generateAer p len vppb error).Framed) ∧
  (∀ p len target reduced request answer, (Instr.tunnel p len target reduced request answer).Framed) ∧
  (∀ p len target ld request answer, (Instr.ldConfig p len target ld request answer).Framed) ∧
  (∀ p len target ld request answer, (Instr.ldMemory p len target ld request answer).Framed) ∧
  (∀ p len, (Instr.dcdInfo p len).Framed) ∧
  (∀ p len vcs, (Instr.dcConfig p len vcs).Framed) ∧
  (∀ p len vcs region sanitize, (Instr.setDcConfig p len vcs region sanitize).Framed) ∧
  (∀ p len vcs, (Instr.extentLists p len vcs).Framed) ∧
  (∀ p len vcs region extents, (Instr.dcAdd p len vcs region extents).Framed) ∧
  (∀ vcs region accepted, (Instr.dcAddResponse vcs region accepted).Framed) ∧
  (∀ vcs region, (Instr.dcAddTimeout vcs region).Framed) ∧
  (∀ p len vcs region extents, (Instr.dcRelease p len vcs region extents).Framed) ∧
  (∀ entry, (Instr.extentReleaseComplete entry).Framed) ∧
  (∀ p len opcode type, (Instr.weuskOverCci p len opcode type).Framed) ∧
  (∀ p len opcode, (Instr.unsupportedOpcode p len opcode).Framed) ∧
  (∀ vcs k d, (Instr.hdmDecoderCommit vcs k d).Framed) ∧
  (∀ vcs route on, (Instr.biEnableWrite vcs route on).Framed) ∧
  (∀ p lost, (Instr.targetSurpriseRemoval p lost).Framed) ∧
  (∀ p lost, (Instr.ideIntegrityFailure p lost).Framed) ∧
  (∀ p crcOk m, (Instr.messageToDecode p crcOk m).Framed) ∧
  (∀ ses tag c, (Instr.fmApi ses tag c).Framed) ∧
  (∀ p mode io, (Instr.ideKeySetUp p mode io).Framed) ∧
  (∀ ses tag vppb feid ld bind mixed answer, (Instr.remoteBinding ses tag vppb feid ld bind mixed answer).Framed)

/-- Completion and frames of the engines, jobs, migration and hotness: each of these commands completes in every state in which the units that it names exist, and every part of the state that
its list in Sys2Proof/Changes.lean does not name is then as it was: every register of every other kind, all of the HBM, both flash devices, the eFuse and every queue and table. -/
def Obligations.TongsCommandsFramed : Prop :=
  (∀ r credit, (Instr.hotnessNotice r credit).Framed) ∧
  (∀ r granule, (Instr.hotnessCoalesceFlush r granule).Framed) ∧
  Instr.hotnessEpochChange.Framed ∧
  Instr.hotnessFlushComplete.Framed ∧
  (∀ value, (Instr.hotEnWrite value).Framed) ∧
  (∀ e, (Instr.migrate e).Framed) ∧
  (∀ pt, (Instr.drainComplete pt).Framed) ∧
  (∀ k, (Instr.copyPassComplete k).Framed) ∧
  (∀ k, (Instr.migrationHold k).Framed) ∧
  (∀ k, (Instr.holdAbort k).Framed) ∧
  (∀ k, (Instr.migrationSwap k).Framed) ∧
  (∀ k, (Instr.migrationFinish k).Framed) ∧
  (∀ k what, (Instr.migrationLoss k what).Framed) ∧
  (∀ value, (Instr.migCfgWrite value).Framed) ∧
  (∀ c, (Instr.jobDispatch c).Framed) ∧
  (∀ e rd asr size addr off, (Instr.dmLd e rd asr size addr off).Framed) ∧
  (∀ e rd asr size addr off, (Instr.dmSt e rd asr size addr off).Framed) ∧
  (∀ e rd asr size src dst, (Instr.dmCopy e rd asr size src dst).Framed) ∧
  (∀ e rd asr size addr pattern, (Instr.dmFill e rd asr size addr pattern).Framed) ∧
  (∀ e rd asr f addr operand, (Instr.dmAmo e rd asr f addr operand).Framed) ∧
  (∀ e rd ticket, (Instr.dmWait e rd ticket).Framed) ∧
  (∀ e scope, (Instr.dmFence e scope).Framed) ∧
  (∀ e rd off length, (Instr.dmCrc e rd off length).Framed) ∧
  (∀ e status off, (Instr.jobDone e status off).Framed) ∧
  (∀ e rd off target, (Instr.jobSubmit e rd off target).Framed) ∧
  (∀ e, (Instr.coprocessorCommit e).Framed) ∧
  (∀ e ticket, (Instr.speculativeReadDefer e ticket).Framed) ∧
  (∀ e kept, (Instr.coprocessorSquash e kept).Framed) ∧
  (∀ e tag status slag data, (Instr.farResponse e tag status slag data).Framed) ∧
  (∀ c, (Instr.tngSubGo c).Framed) ∧
  (∀ c fill arg, (Instr.deviceJobSubmit c fill arg).Framed) ∧
  (∀ e, (Instr.jobCopy e).Framed) ∧
  (∀ e, (Instr.jobFill e).Framed) ∧
  (∀ e, (Instr.jobCrc e).Framed) ∧
  (∀ e, (Instr.jobCompare e).Framed) ∧
  (∀ e, (Instr.dirSweep e).Framed) ∧
  (∀ e c, (Instr.kernelJob e c).Framed) ∧
  (∀ e mcause mtval, (Instr.kernelFault e mcause mtval).Framed) ∧
  (∀ e, (Instr.completionRecordWrite e).Framed) ∧
  (∀ c value, (Instr.cqHeadWrite c value).Framed) ∧
  (∀ c job, (Instr.tngCancelGo c job).Framed) ∧
  (∀ e cause, (Instr.engineReset e cause).Framed) ∧
  (∀ e, (Instr.engineWatchdog e).Framed) ∧
  (∀ e program, (Instr.engineLoadComplete e program).Framed) ∧
  (∀ e, (Instr.programReload e).Framed) ∧
  Instr.hotnessZeroFillComplete.Framed

/-- Completion and frames of fault, telemetry, counter and timing commands: each of these commands completes in every state in which the units that it names exist, and every part of the state that
its list in Sys2Proof/Changes.lean does not name is then as it was: every register of every other kind, all of the HBM, both flash devices, the eFuse and every queue and table. -/
def Obligations.ServiceCommandsFramed : Prop :=
  (∀ blk blocks arr, (Instr.timingUnitReceived blk blocks arr).Framed) ∧
  (∀ e, (Instr.telem e).Framed) ∧
  (∀ e, (Instr.telemSnapshot e).Framed) ∧
  (∀ ev cls detail inj, (Instr.faultCause ev cls detail inj).Framed) ∧
  (∀ c, (Instr.fltPendClear c).Framed) ∧
  (∀ r, (Instr.fltFatalClear r).Framed) ∧
  (∀ r, (Instr.regionFence r).Framed) ∧
  (∀ n ok, (Instr.lostHomeScan n ok).Framed) ∧
  (∀ ev, (Instr.chipFatalCause ev).Framed) ∧
  Instr.emberToggle.Framed ∧
  (∀ value, (Instr.fltInjGo value).Framed) ∧
  Instr.injectionApply.Framed ∧
  Instr.injectionTimeout.Framed ∧
  (∀ what u value, (Instr.wearSample what u value).Framed) ∧
  (∀ n fault scanOk, (Instr.spareSliceReplace n fault scanOk).Framed) ∧
  (∀ e fault, (Instr.spareEngineReplace e fault).Framed) ∧
  (∀ r spare, (Instr.sramSoftRepair r spare).Framed) ∧
  (∀ ch line spare, (Instr.hbmSoftPpr ch line spare).Framed) ∧
  (∀ u, (Instr.clearLane u).Framed) ∧
  (∀ u, (Instr.retireEngine u).Framed) ∧
  (∀ u, (Instr.retireSlice u).Framed) ∧
  Instr.degClear.Framed ∧
  (∀ p, (Instr.poolUnmetDemand p).Framed) ∧
  Instr.ppsOutEdge.Framed ∧
  Instr.servoUpdate.Framed ∧
  (∀ domain sender t1 t3 t4, (Instr.ptpSync domain sender t1 t3 t4).Framed) ∧
  Instr.ppsInEdge.Framed ∧
  (∀ source, (Instr.timeReferenceLoss source).Framed) ∧
  Instr.timSet.Framed ∧
  (∀ adj, (Instr.timAdj adj).Framed) ∧
  (∀ c code result man, (Instr.telemetryConversion c code result man).Framed) ∧
  (∀ c, (Instr.thermalStateChange c).Framed) ∧
  (∀ u, (Instr.cntSnap u).Framed) ∧
  (∀ u, (Instr.cntClr u).Framed) ∧
  Instr.clrPeak.Framed ∧
  (∀ p inB outB, (Instr.bwWindowEnd p inB outB).Framed) ∧
  (∀ credit, (Instr.traceRecord credit).Framed) ∧
  Instr.start.Framed ∧
  Instr.stop.Framed ∧
  (∀ m, (Instr.ptpAnnounce m).Framed) ∧
  Instr.upstreamTimeout.Framed

/-- Completion and frames of the fabric, image and key commands: each of these commands completes in every state in which the units that it names exist, and every part of the state that
its list in Sys2Proof/Changes.lean does not name is then as it was: every register of every other kind, all of the HBM, both flash devices, the eFuse and every queue and table. -/
def Obligations.FabricCommandsFramed : Prop :=
  (∀ blk d, (Instr.fabricHeaderRebuild blk d).Framed) ∧
  (∀ m, (Instr.joinFabric m).Framed) ∧
  (∀ cause, (Instr.joinRefuse cause).Framed) ∧
  (∀ sender epoch g, (Instr.distPrep sender epoch g).Framed) ∧
  (∀ epoch gen, (Instr.distCommit epoch gen).Framed) ∧
  (∀ epoch gen, (Instr.distAbort epoch gen).Framed) ∧
  (∀ chip type gen highest, (Instr.ackFabric chip type gen highest).Framed) ∧
  (∀ chip gen, (Instr.resync chip gen).Framed) ∧
  Instr.standbyAckTimeout.Framed ∧
  Instr.announceSend.Framed ∧
  (∀ m, (Instr.announce m).Framed) ∧
  Instr.leaseLapse.Framed ∧
  (∀ chip proposed, (Instr.voteReq chip proposed).Framed) ∧
  (∀ chip proposed highest, (Instr.vote chip proposed highest).Framed) ∧
  Instr.managerIsolated.Framed ∧
  Instr.managerListenEnd.Framed ∧
  (∀ value, (Instr.handoverWrite value).Framed) ∧
  (∀ epoch gen, (Instr.handoverMessage epoch gen).Framed) ∧
  (∀ r tables, (Instr.linkReport r tables).Framed) ∧
  (∀ chip, (Instr.chipUnreachable chip).Framed) ∧
  (∀ blk origin f, (Instr.fabricForward blk origin f).Framed) ∧
  (∀ blk f, (Instr.ttlExpired blk f).Framed) ∧
  (∀ p drained, (Instr.fabricLinkLossReroute p drained).Framed) ∧
  (∀ blk partnerOk, (Instr.mixedRevisionRetrain blk partnerOk).Framed) ∧
  Instr.mixedConditionChange.Framed ∧
  (∀ sl, (Instr.imgErase sl).Framed) ∧
  (∀ sl offset readBack, (Instr.imgWrite sl offset readBack).Framed) ∧
  (∀ sl rule img, (Instr.imgCheck sl rule img).Framed) ∧
  (∀ sl, (Instr.imgCommit sl).Framed) ∧
  (∀ sl img, (Instr.imgApply sl img).Framed) ∧
  Instr.imageCommandComplete.Framed ∧
  Instr.keyGenId.Framed ∧
  (∀ readBackOk, (Instr.keyRotate readBackOk).Framed) ∧
  (∀ n, (Instr.keyRevoke n).Framed) ∧
  (∀ n, (Instr.keyProgRoot n).Framed) ∧
  (∀ floor, (Instr.keyRaiseSvn floor).Framed) ∧
  Instr.keyCommandComplete.Framed ∧
  Instr.trngStartupComplete.Framed ∧
  (∀ apt, (Instr.trngHealthFailure apt).Framed) ∧
  Instr.trngReseed.Framed ∧
  Instr.trngNext.Framed ∧
  Instr.bootRecordsRead.Framed ∧
  (∀ ruleA imgA ruleB imgB, (Instr.bootVerifyResult ruleA imgA ruleB imgB).Framed)

/-- Completion and frames of the session, register, slot and mode commands: each of these commands completes in every state in which the units that it names exist, and every part of the state that
its list in Sys2Proof/Changes.lean does not name is then as it was: every register of every other kind, all of the HBM, both flash devices, the eFuse and every queue and table. -/
def Obligations.ChipCommandsFramed : Prop :=
  (∀ together, (Instr.drsErrPendClear together).Framed) ∧
  (∀ ses tag x size write value, (Instr.debugViewAccess ses tag x size write value).Framed) ∧
  (∀ value, (Instr.hbmDbgWindowWrite value).Framed) ∧
  (∀ v, (Instr.hostPowerOff v).Framed) ∧
  (∀ path place peer tag, (Instr.openSession path place peer tag).Framed) ∧
  (∀ ses tag, (Instr.closeSession ses tag).Framed) ∧
  (∀ ses, (Instr.sessionIdleTimeout ses).Framed) ∧
  (∀ ses, (Instr.sessionPathLoss ses).Framed) ∧
  (∀ ses tag addr size count, (Instr.regRead ses tag addr size count).Framed) ∧
  (∀ ses tag addr size count data env, (Instr.regWrite ses tag addr size count data env).Framed) ∧
  (∀ ses tag prio, (Instr.claim ses tag prio).Framed) ∧
  Instr.electionWindowClose.Framed ∧
  (∀ ses tag, (Instr.renew ses tag).Framed) ∧
  Instr.ownerLeaseLapse.Framed ∧
  (∀ ses tag successor, (Instr.ownHandover ses tag successor).Framed) ∧
  (∀ ses tag, (Instr.releaseOwnership ses tag).Framed) ∧
  (∀ ev cls detail, (Instr.eventQueue ev cls detail).Framed) ∧
  Instr.eventSend.Framed ∧
  (∀ ses tag seq, (Instr.eventAck ses tag seq).Framed) ∧
  (∀ value, (Instr.evtAckWrite value).Framed) ∧
  Instr.eventResendTimeout.Framed ∧
  (∀ ses tag asd addr len, (Instr.memRead ses tag asd addr len).Framed) ∧
  (∀ ses tag asd addr data, (Instr.memWrite ses tag asd addr data).Framed) ∧
  (∀ ses tag ver type length bytes, (Instr.unknownTypeMessage ses tag ver type length bytes).Framed) ∧
  (∀ ses tag, (Instr.udpDuplicateRequest ses tag).Framed) ∧
  Instr.resetNAssert.Framed ∧
  (∀ cause role bootSrc pins, (Instr.resetEnd cause role bootSrc pins).Framed) ∧
  (∀ rail lost, (Instr.brownOut rail lost).Framed) ∧
  Instr.reboot.Framed ∧
  Instr.enterTest.Framed ∧
  Instr.boundaryScanTest.Framed ∧
  (∀ ok kept sram hbm, (Instr.hbmInitDone ok kept sram hbm).Framed) ∧
  Instr.provisionComplete.Framed ∧
  (∀ mask, (Instr.recoverRegions mask).Framed) ∧
  (∀ r ok, (Instr.regionRecoveryEnd r ok).Framed) ∧
  (∀ blk, (Instr.perstAssert blk).Framed) ∧
  (∀ blk, (Instr.perstDeassert blk).Framed) ∧
  (∀ which value, (Instr.bankWrite which value).Framed) ∧
  (∀ u l1, (Instr.unitBanked u l1).Framed) ∧
  (∀ u, (Instr.bankDemandWake u).Framed) ∧
  (∀ u l1, (Instr.bankIdleRebank u l1).Framed) ∧
  (∀ ses tag, (Instr.timNowRead ses tag).Framed) ∧
  (∀ n first retry vin vout iout pin energy, (Instr.pmbusPoll n first retry vin vout iout pin energy).Framed) ∧
  (∀ inputs, (Instr.slotChainFrame inputs).Framed) ∧
  (∀ n, (Instr.slotCommandedOn n).Framed) ∧
  (∀ n, (Instr.slotPgood n).Framed) ∧
  (∀ n, (Instr.slotSettleEnd n).Framed) ∧
  (∀ n, (Instr.slotPerstRelease n).Framed) ∧
  (∀ n, (Instr.slotOffCommand n).Framed) ∧
  (∀ n why, (Instr.slotTrip n why).Framed) ∧
  (∀ n, (Instr.slotRetry n).Framed) ∧
  (∀ n, (Instr.slotStableReset n).Framed) ∧
  (∀ n, (Instr.fetFail n).Framed) ∧
  (∀ n, (Instr.slotClear n).Framed) ∧
  (∀ n warning, (Instr.pwrbrkAssert n warning).Framed) ∧
  (∀ n, (Instr.pwrbrkRelease n).Framed) ∧
  (∀ n, (Instr.slotPresenceLoss n).Framed) ∧
  (∀ n, (Instr.cycle n).Framed) ∧
  (∀ n, (Instr.attentionButton n).Framed) ∧
  (∀ k, (Instr.refclkLoss k).Framed) ∧
  (∀ k role bootSrc pins, (Instr.refclkRestore k role bootSrc pins).Framed)
end

