-- ==== Sys2Proof/Laws/Table.lean ====
section
/-! SUPPORT. What a sparse table's operations can do: a write is read back, leaves every other key alone and keeps the canonical form. -/

namespace Sys2Proof.Machine

variable {α : Type}

theorem Tbl.find_put_self (m : Tbl α) (k : Nat) (v : α) : (m.put k v).find k = some v := by
  induction m with
  | nil => simp [Tbl.put, Tbl.find]
  | cons e m ih =>
    obtain ⟨a, b⟩ := e
    by_cases h1 : k < a
    · simp [Tbl.put, Tbl.find, h1]
    · by_cases h2 : a = k
      · simp [Tbl.put, Tbl.find, h2]
      · simp [Tbl.put, Tbl.find, h1, h2, ih]

theorem Tbl.find_put_other (m : Tbl α) {k j : Nat} (v : α) (h : j ≠ k) : (m.put k v).find j = m.find j := by
  induction m with
  | nil => simp [Tbl.put, Tbl.find, Ne.symm h]
  | cons e m ih =>
    obtain ⟨a, b⟩ := e
    by_cases h1 : k < a
    · simp [Tbl.put, Tbl.find, h1, Ne.symm h]
    · by_cases h2 : a = k
      · subst h2
        simp [Tbl.put, Tbl.find, Ne.symm h]
      · simp [Tbl.put, Tbl.find, h1, h2, ih]

theorem Tbl.find_del_self (m : Tbl α) (k : Nat) : (m.del k).find k = none := by
  induction m with
  | nil => rfl
  | cons e m ih =>
    obtain ⟨a, b⟩ := e
    by_cases h : a = k
    · simp [Tbl.del, h, ih]
    · simp [Tbl.del, Tbl.find, h, ih]

theorem Tbl.find_del_other (m : Tbl α) {k j : Nat} (h : j ≠ k) : (m.del k).find j = m.find j := by
  induction m with
  | nil => rfl
  | cons e m ih =>
    obtain ⟨a, b⟩ := e
    by_cases h1 : a = k
    · subst h1
      simp [Tbl.del, Tbl.find, Ne.symm h, ih]
    · simp [Tbl.del, Tbl.find, h1, ih]

/-- A read after a write of the same key. -/
@[simp] theorem Tbl.rd_wr_self [DecidableEq α] (d : Nat → α) (m : Tbl α) (k : Nat) (v : α) : Tbl.rd d (Tbl.wr d m k v) k = v := by
  unfold Tbl.wr Tbl.rd
  split
  · rename_i h; simp [Tbl.find_del_self, h]
  · simp [Tbl.find_put_self]

/-- A write leaves every other key alone. -/
theorem Tbl.rd_wr_other [DecidableEq α] (d : Nat → α) (m : Tbl α) {k j : Nat} (v : α) (h : j ≠ k) : Tbl.rd d (Tbl.wr d m k v) j = Tbl.rd d m j := by
  unfold Tbl.wr Tbl.rd
  split
  · rw [Tbl.find_del_other m h]
  · rw [Tbl.find_put_other m v h]

theorem Tbl.sortedFrom_mono {m : Tbl α} {lo lo' : Nat} (h : lo' ≤ lo) (hm : Tbl.sortedFrom lo m = true) : Tbl.sortedFrom lo' m = true := by
  cases m with
  | nil => rfl
  | cons e m =>
    obtain ⟨a, b⟩ := e
    simp only [Tbl.sortedFrom, Bool.and_eq_true, decide_eq_true_eq] at *
    exact ⟨by omega, hm.2⟩

theorem Tbl.sortedFrom_put {m : Tbl α} {lo k : Nat} (v : α) (hk : lo ≤ k) (hm : Tbl.sortedFrom lo m = true) : Tbl.sortedFrom lo (m.put k v) = true := by
  induction m generalizing lo with
  | nil => simp [Tbl.put, Tbl.sortedFrom, hk]
  | cons e m ih =>
    obtain ⟨a, b⟩ := e
    simp only [Tbl.sortedFrom, Bool.and_eq_true, decide_eq_true_eq] at hm
    unfold Tbl.put
    split
    · simp only [Tbl.sortedFrom, Bool.and_eq_true, decide_eq_true_eq]
      exact ⟨hk, by omega, hm.2⟩
    · split
      · rename_i h; subst h
        simp only [Tbl.sortedFrom, Bool.and_eq_true, decide_eq_true_eq]
        exact ⟨hk, hm.2⟩
      · simp only [Tbl.sortedFrom, Bool.and_eq_true, decide_eq_true_eq]
        exact ⟨hm.1, ih (by omega) hm.2⟩

theorem Tbl.sortedFrom_del {m : Tbl α} {lo : Nat} (k : Nat) (hm : Tbl.sortedFrom lo m = true) : Tbl.sortedFrom lo (m.del k) = true := by
  induction m generalizing lo with
  | nil => rfl
  | cons e m ih =>
    obtain ⟨a, b⟩ := e
    simp only [Tbl.sortedFrom, Bool.and_eq_true, decide_eq_true_eq] at hm
    unfold Tbl.del
    split
    · exact Tbl.sortedFrom_mono (by omega) (ih hm.2)
    · simp only [Tbl.sortedFrom, Bool.and_eq_true, decide_eq_true_eq]
      exact ⟨hm.1, ih hm.2⟩

theorem Tbl.sortedFrom_filter {m : Tbl α} {lo : Nat} (f : Nat × α → Bool) (hm : Tbl.sortedFrom lo m = true) : Tbl.sortedFrom lo (m.filter f) = true := by
  induction m generalizing lo with
  | nil => rfl
  | cons e m ih =>
    obtain ⟨a, b⟩ := e
    simp only [Tbl.sortedFrom, Bool.and_eq_true, decide_eq_true_eq] at hm
    rw [List.filter_cons]
    split
    · simp only [Tbl.sortedFrom, Bool.and_eq_true, decide_eq_true_eq]
      exact ⟨hm.1, ih hm.2⟩
    · exact Tbl.sortedFrom_mono (by omega) (ih hm.2)

theorem Tbl.mem_put {m : Tbl α} {k : Nat} {v : α} {e : Nat × α} (h : e ∈ m.put k v) : e = (k, v) ∨ e ∈ m := by
  induction m with
  | nil => simpa [Tbl.put] using h
  | cons x m ih =>
    obtain ⟨a, b⟩ := x
    unfold Tbl.put at h
    split at h
    · rcases List.mem_cons.1 h with h | h
      · exact Or.inl h
      · exact Or.inr h
    · split at h
      · rcases List.mem_cons.1 h with h | h
        · exact Or.inl h
        · exact Or.inr (List.mem_cons_of_mem _ h)
      · rcases List.mem_cons.1 h with h | h
        · exact Or.inr (by simp [h])
        · rcases ih h with h | h
          · exact Or.inl h
          · exact Or.inr (List.mem_cons_of_mem _ h)

theorem Tbl.mem_del {m : Tbl α} {k : Nat} {e : Nat × α} (h : e ∈ m.del k) : e ∈ m := by
  induction m with
  | nil => exact h
  | cons x m ih =>
    obtain ⟨a, b⟩ := x
    unfold Tbl.del at h
    split at h
    · exact List.mem_cons_of_mem _ (ih h)
    · rcases List.mem_cons.1 h with h | h
      · simp [h]
      · exact List.mem_cons_of_mem _ (ih h)

/-- A write keeps the canonical form. -/
theorem Tbl.wf_wr [DecidableEq α] (d : Nat → α) {m : Tbl α} (k : Nat) (v : α) (h : Tbl.wf d m = true) : Tbl.wf d (Tbl.wr d m k v) = true := by
  unfold Tbl.wf at *
  simp only [Bool.and_eq_true, List.all_eq_true] at *
  unfold Tbl.wr
  split
  · exact ⟨Tbl.sortedFrom_del k h.1, fun e he => h.2 e (Tbl.mem_del he)⟩
  · rename_i hv
    refine ⟨Tbl.sortedFrom_put v (Nat.zero_le k) h.1, fun e he => ?_⟩
    rcases Tbl.mem_put he with he | he
    · subst he; simpa using hv
    · exact h.2 e he

/-- Taking entries out keeps the canonical form. -/
theorem Tbl.wf_filter [DecidableEq α] (d : Nat → α) {m : Tbl α} (f : Nat × α → Bool) (h : Tbl.wf d m = true) : Tbl.wf d (m.filter f) = true := by
  unfold Tbl.wf at *
  simp only [Bool.and_eq_true, List.all_eq_true] at *
  exact ⟨Tbl.sortedFrom_filter f h.1, fun e he => h.2 e (List.mem_of_mem_filter he)⟩

end Sys2Proof.Machine
end

