-- ==== Sys2Proof/Laws/Memory.lean ====
section
/-! SUPPORT. What the operations on HBM can do. -/

namespace Sys2Proof.Machine

@[simp] theorem Memory.read_write_self (m : Memory) (a : Nat) (b : Byte) : (m.write a b).read a = b := Tbl.rd_wr_self _ _ _ _

theorem Memory.read_write_other (m : Memory) {a c : Nat} (b : Byte) (h : c ≠ a) : (m.write a b).read c = m.read c := Tbl.rd_wr_other _ _ _ h

theorem Memory.write_wf {m : Memory} (a : Nat) (b : Byte) (h : m.wf = true) : (m.write a b).wf = true := Tbl.wf_wr _ _ _ h

theorem Memory.writeBytes_wf {m : Memory} (a : Nat) (bs : List Byte) (h : m.wf = true) : (m.writeBytes a bs).wf = true := by
  induction bs generalizing m a with
  | nil => exact h
  | cons b bs ih => exact ih (a + 1) (Memory.write_wf a b h)

theorem Memory.clear_wf {m : Memory} (a n : Nat) (h : m.wf = true) : (m.clear a n).wf = true := Tbl.wf_filter _ _ h

/-- Bytes outside those written read as before. -/
theorem Memory.read_writeBytes_other (m : Memory) (a c : Nat) (bs : List Byte) (h : c < a ∨ a + bs.length ≤ c) : (m.writeBytes a bs).read c = m.read c := by
  induction bs generalizing m a with
  | nil => rfl
  | cons b bs ih =>
    simp only [List.length_cons] at h
    unfold Memory.writeBytes
    rw [ih (m.write a b) (a + 1) (by omega), Memory.read_write_other m b (by omega)]

/-- A byte written reads back. -/
theorem Memory.read_writeBytes_self (m : Memory) (a i : Nat) (bs : List Byte) (h : i < bs.length) : (m.writeBytes a bs).read (a + i) = bs[i] := by
  induction bs generalizing m a i with
  | nil => simp at h
  | cons b bs ih =>
    unfold Memory.writeBytes
    cases i with
    | zero => simp [Memory.read_writeBytes_other (m.write a b) (a + 1) a bs (Or.inl (by omega))]
    | succ i =>
      have := ih (m.write a b) (a + 1) i (by simpa using h)
      simpa [Nat.add_comm, Nat.add_left_comm, Nat.add_assoc] using this

end Sys2Proof.Machine
end

