-- ==== Sys2Proof/Laws/Registers.lean ====
section
/-! SUPPORT. What the named operations over registers and their fields can do. -/

namespace Sys2Proof

theorem Word.setField_toNat (w : Word) {hi lo : Nat} (v : Nat) (h : lo ≤ hi) (h64 : hi < 64) :
    (w.setField hi lo v).toNat = w.toNat % 2 ^ lo + (v % 2 ^ (hi + 1 - lo)) * 2 ^ lo + w.toNat / 2 ^ (hi + 1) * 2 ^ (hi + 1) := by
  unfold Word.setField
  rw [BitVec.toNat_ofNat]
  apply Nat.mod_eq_of_lt
  have hw : w.toNat < 2 ^ 64 := w.isLt
  have e : (2 : Nat) ^ (hi + 1) = 2 ^ (hi + 1 - lo) * 2 ^ lo := by rw [← Nat.pow_add]; congr 1; omega
  have e64 : (2 : Nat) ^ 64 = 2 ^ (64 - (hi + 1)) * 2 ^ (hi + 1) := by rw [← Nat.pow_add]; congr 1; omega
  have p1 : (0 : Nat) < 2 ^ lo := Nat.two_pow_pos _
  have p2 : (0 : Nat) < 2 ^ (hi + 1 - lo) := Nat.two_pow_pos _
  have a1 : w.toNat % 2 ^ lo < 2 ^ lo := Nat.mod_lt _ p1
  have a2 : v % 2 ^ (hi + 1 - lo) + 1 ≤ 2 ^ (hi + 1 - lo) := Nat.mod_lt _ p2
  have a3 : w.toNat / 2 ^ (hi + 1) + 1 ≤ 2 ^ (64 - (hi + 1)) := by
    apply Nat.div_lt_of_lt_mul
    rw [Nat.mul_comm, ← e64]; exact hw
  have b2 := Nat.mul_le_mul_right (2 ^ lo) a2
  have b3 := Nat.mul_le_mul_right (2 ^ (hi + 1)) a3
  rw [← e64] at b3
  rw [← e] at b2
  rw [Nat.add_mul] at b2 b3
  omega

theorem Word.field_setField_self (w : Word) {hi lo : Nat} (v : Nat) (h : lo ≤ hi) (h64 : hi < 64) :
    (w.setField hi lo v).field hi lo = v % 2 ^ (hi + 1 - lo) := by
  unfold Word.field
  rw [Word.setField_toNat w v h h64]
  have e : (2 : Nat) ^ (hi + 1) = 2 ^ (hi + 1 - lo) * 2 ^ lo := by rw [← Nat.pow_add]; congr 1; omega
  have p1 : (0 : Nat) < 2 ^ lo := Nat.two_pow_pos _
  have a1 : w.toNat % 2 ^ lo < 2 ^ lo := Nat.mod_lt _ p1
  have : w.toNat % 2 ^ lo + (v % 2 ^ (hi + 1 - lo)) * 2 ^ lo + w.toNat / 2 ^ (hi + 1) * 2 ^ (hi + 1)
      = w.toNat % 2 ^ lo + 2 ^ lo * (v % 2 ^ (hi + 1 - lo) + w.toNat / 2 ^ (hi + 1) * 2 ^ (hi + 1 - lo)) := by rw [e]; ring
  rw [this, Nat.add_mul_div_left _ _ p1, Nat.div_eq_of_lt a1, Nat.zero_add, Nat.add_mul_mod_self_right, Nat.mod_mod]

theorem Word.testBit_field (w : Word) (hi lo j : Nat) : (w.field hi lo).testBit j = (decide (j < hi + 1 - lo) && w.toNat.testBit (lo + j)) := by
  unfold Word.field
  rw [Nat.testBit_mod_two_pow, Nat.testBit_div_two_pow, Nat.add_comm j lo]

theorem Word.testBit_setField (w : Word) {hi lo : Nat} (v j : Nat) (h : lo ≤ hi) (h64 : hi < 64) :
    (w.setField hi lo v).toNat.testBit j = if j < lo ∨ hi < j then w.toNat.testBit j else v.testBit (j - lo) := by
  have e1 : (w.setField hi lo v).toNat = 2 ^ (hi + 1) * (w.toNat / 2 ^ (hi + 1)) + (2 ^ lo * (v % 2 ^ (hi + 1 - lo)) + w.toNat % 2 ^ lo) := by
    rw [Word.setField_toNat w v h h64]; ring
  have p1 : (0 : Nat) < 2 ^ lo := Nat.two_pow_pos _
  have p2 : (0 : Nat) < 2 ^ (hi + 1 - lo) := Nat.two_pow_pos _
  have a1 : w.toNat % 2 ^ lo < 2 ^ lo := Nat.mod_lt _ p1
  have lt : 2 ^ lo * (v % 2 ^ (hi + 1 - lo)) + w.toNat % 2 ^ lo < 2 ^ (hi + 1) := by
    have a2 : v % 2 ^ (hi + 1 - lo) + 1 ≤ 2 ^ (hi + 1 - lo) := Nat.mod_lt _ p2
    have b := Nat.mul_le_mul_left (2 ^ lo) a2
    rw [← Nat.pow_add, show lo + (hi + 1 - lo) = hi + 1 by omega, Nat.mul_add] at b
    omega
  rw [e1, Nat.testBit_two_pow_mul_add _ lt, Nat.testBit_two_pow_mul_add _ a1]
  by_cases h1 : j < lo
  · have h2 : j < hi + 1 := by omega
    simp [h1, h2, Nat.testBit_mod_two_pow]
  · by_cases h2 : j < hi + 1
    · have h3 : ¬ hi < j := by omega
      have h4 : j - lo < hi + 1 - lo := by omega
      simp [h1, h2, h3, h4, Nat.testBit_mod_two_pow]
    · have h3 : hi < j := by omega
      simp [h2, h3, Nat.testBit_div_two_pow]

/-- A write of a field leaves a field of other bits alone. -/
theorem Word.field_setField_other (w : Word) {hi lo hi' lo' : Nat} (v : Nat) (h : lo ≤ hi) (h64 : hi < 64) (hd : hi' < lo ∨ hi < lo') :
    (w.setField hi lo v).field hi' lo' = w.field hi' lo' := by
  apply Nat.eq_of_testBit_eq
  intro j
  rw [Word.testBit_field, Word.testBit_field, Word.testBit_setField w v _ h h64]
  by_cases hj : j < hi' + 1 - lo'
  · have : lo' + j < lo ∨ hi < lo' + j := by omega
    simp [this]
  · simp [hj]

namespace Machine

theorem RegKind.ctorIdx_lt (k : RegKind) : k.ctorIdx < 256 := by cases k <;> decide

theorem RegKind.key_inj {k k' : RegKind} {i i' : Nat} (h : k.key i = k'.key i') : k = k' ∧ i = i' := by
  unfold RegKind.key at h
  have h1 := k.ctorIdx_lt
  have h2 := k'.ctorIdx_lt
  have e : k.ctorIdx = k'.ctorIdx := by omega
  refine ⟨?_, by omega⟩
  rw [← RegKind.ofNat_ctorIdx k, e, RegKind.ofNat_ctorIdx]

@[simp] theorem State.reg_setReg_self (s : State) (k : RegKind) (i : Nat) (w : Word) : (s.setReg k i w).reg k i = w := Tbl.rd_wr_self _ _ _ _

theorem State.reg_setReg_other (s : State) {k k' : RegKind} {i i' : Nat} (w : Word) (h : k' ≠ k ∨ i' ≠ i) : (s.setReg k i w).reg k' i' = s.reg k' i' := by
  apply Tbl.rd_wr_other
  intro e
  have := RegKind.key_inj e
  rcases h with h | h
  · exact h this.1
  · exact h this.2

/-- A field written reads back its low bits. -/
theorem State.get_set_self (s : State) {F : Fld} (i v : Nat) (h : F.lo ≤ F.hi) (h64 : F.hi < 64) : (s.set F i v).get F i = v % 2 ^ F.width := by
  unfold State.get State.set Fld.width
  rw [State.reg_setReg_self]
  exact Word.field_setField_self _ v h h64

/-- A field written leaves every field of other bits and every other register alone. -/
theorem State.get_set_other (s : State) {F G : Fld} (i j v : Nat) (h : F.lo ≤ F.hi) (h64 : F.hi < 64)
    (hd : G.reg ≠ F.reg ∨ j ≠ i ∨ G.hi < F.lo ∨ F.hi < G.lo) : (s.set F i v).get G j = s.get G j := by
  unfold State.get State.set
  by_cases hk : G.reg = F.reg ∧ j = i
  · obtain ⟨hk, hj⟩ := hk
    rw [hk, hj, State.reg_setReg_self]
    exact Word.field_setField_other _ v h h64 (by
      rcases hd with hd | hd | hd
      · exact absurd hk hd
      · exact absurd hj hd
      · exact hd)
  · rw [State.reg_setReg_other s _ (by by_cases e : G.reg = F.reg <;> by_cases f : j = i <;> simp_all)]

theorem State.reg_set_other (s : State) {F : Fld} {k : RegKind} {i j : Nat} (v : Nat) (h : k ≠ F.reg ∨ j ≠ i) : (s.set F i v).reg k j = s.reg k j :=
  State.reg_setReg_other s _ h

/-- Register writes keep the register file in its canonical form. -/
theorem State.regs_wf_setReg {s : State} (k : RegKind) (i : Nat) (w : Word) (h : Tbl.wf regReset s.regs = true) : Tbl.wf regReset (s.setReg k i w).regs = true :=
  Tbl.wf_wr _ _ _ h

theorem State.regs_wf_set {s : State} (F : Fld) (i v : Nat) (h : Tbl.wf regReset s.regs = true) : Tbl.wf regReset (s.set F i v).regs = true :=
  Tbl.wf_wr _ _ _ h

end Machine

end Sys2Proof
end

