-- ==== Sys2Proof/Laws/Frame.lean ====
section
/-! SUPPORT. Frames: the parts of the state that a function may change, as a set of bits, and the steps from which the frame of every function is put together. -/

set_option exponentiation.threshold 500

namespace Sys2Proof.Machine

/-- The place of a part in a set of parts. -/
def StatePart.place (p : StatePart) : Nat :=
  match p with
  | .reg k => k.ctorIdx
  | .field f => 256 + f.ctorIdx

/-- The set of the registers of one kind. -/
def RegKind.mask (k : RegKind) : Nat := 2 ^ k.ctorIdx

/-- The set of the registers that hold a field. -/
def Fld.mask (F : Fld) : Nat := F.reg.mask

/-- The set of one field of the state. -/
def StateField.mask (f : StateField) : Nat := 2 ^ (256 + f.ctorIdx)

/-- One set of parts lies in another. -/
abbrev Sub (a b : Nat) : Prop := a &&& b = a

theorem Sub.of {a b c : Nat} (h : Sub b c) (h' : Sub a b) : Sub a c := by
  unfold Sub at *
  rw [← h', Nat.and_assoc, h]

theorem Sub.bit {n G : Nat} (h : Sub (2 ^ n) G) : G.testBit n = true := by
  have := congrArg (fun x => x.testBit n) h
  simpa using this

/-- From `s0` to `s` only parts of `G` have changed, and a canonical state has stayed so. -/
def Only (G : Nat) (s0 s : State) : Prop := (s0.Canonical → s.Canonical) ∧ ∀ p, G.testBit p.place = false → Same p s0 s

theorem Same.refl (p : StatePart) (s : State) : Same p s s := by
  cases p with
  | reg k => exact fun _ => rfl
  | field f => cases f <;> rfl

theorem Only.refl (G : Nat) (s : State) : Only G s s := ⟨id, fun p _ => Same.refl p s⟩

section Steps

variable {G : Nat} {s0 s t : State}

theorem Only.ite {c : Prop} [Decidable c] (h1 : Only G s0 s) (h2 : Only G s0 t) : Only G s0 (if c then s else t) := by
  split
  · exact h1
  · exact h2

theorem Only.fold {β : Type} {f : State → β → State} {l : List β} (hf : ∀ u b, Only G s0 u → Only G s0 (f u b)) (h : Only G s0 s) :
    Only G s0 (l.foldl f s) := by
  induction l generalizing s with
  | nil => exact h
  | cons b l ih => exact ih (hf s b h)

theorem Only.fold_fst {β γ : Type} {f : State × γ → β → State × γ} {x : State × γ} {l : List β} (hf : ∀ u b, Only G s0 u.1 → Only G s0 (f u b).1)
    (h : Only G s0 x.1) : Only G s0 (l.foldl f x).1 := by
  induction l generalizing x with
  | nil => exact h
  | cons b l ih => exact ih (hf x b h)

theorem Only.fold_mem {β : Type} {f : State → β → State} {l : List β} (hf : ∀ u, ∀ b ∈ l, Only G s0 u → Only G s0 (f u b)) (h : Only G s0 s) :
    Only G s0 (l.foldl f s) := by
  induction l generalizing s with
  | nil => exact h
  | cons b l ih => exact ih (fun u c hc => hf u c (List.mem_cons_of_mem b hc)) (hf s b List.mem_cons_self h)

theorem Only.fold_fld {M : Nat} {f : State → Fld → State} {l : List Fld} (hl : ∀ F ∈ l, Sub F.mask M) (hG : Sub M G)
    (hf : ∀ u F, Sub F.mask G → Only G s0 u → Only G s0 (f u F)) (h : Only G s0 s) : Only G s0 (l.foldl f s) :=
  Only.fold_mem (fun u F hF hu => hf u F (hG.of (hl F hF)) hu) h

theorem Same.setReg {p : StatePart} {k : RegKind} (i : Nat) (w : Word) (h : Same p s0 s) (hp : p ≠ .reg k) : Same p s0 (s.setReg k i w) := by
  cases p with
  | reg j => exact fun i' => (State.reg_setReg_other s w (Or.inl fun e => hp (congrArg StatePart.reg e))).trans (h i')
  | field f => cases f <;> exact h

theorem StatePart.eq_reg {p : StatePart} {k : RegKind} (h : p.place = k.ctorIdx) : p = .reg k := by
  cases p with
  | reg j => rw [← RegKind.ofNat_ctorIdx j, show j.ctorIdx = k.ctorIdx from h, RegKind.ofNat_ctorIdx]
  | field f => have := k.ctorIdx_lt; simp only [StatePart.place] at h; omega

theorem StatePart.eq_field {p : StatePart} {f : StateField} (h : p.place = 256 + f.ctorIdx) : p = .field f := by
  cases p with
  | reg j => have := j.ctorIdx_lt; simp only [StatePart.place] at h; omega
  | field g =>
    have e : g.ctorIdx = f.ctorIdx := by simpa [StatePart.place] using h
    rw [← StateField.ofNat_ctorIdx g, e, StateField.ofNat_ctorIdx]

theorem Only.ne_reg {p : StatePart} {k : RegKind} (hG : Sub k.mask G) (hp : G.testBit p.place = false) : p ≠ .reg k := by
  rintro rfl
  rw [show (StatePart.reg k).place = k.ctorIdx from rfl, Sub.bit hG] at hp
  exact Bool.noConfusion hp

theorem Only.ne_field {p : StatePart} {f : StateField} (hG : Sub f.mask G) (hp : G.testBit p.place = false) : p ≠ .field f := by
  rintro rfl
  rw [show (StatePart.field f).place = 256 + f.ctorIdx from rfl, Sub.bit hG] at hp
  exact Bool.noConfusion hp

theorem State.setReg_only {k : RegKind} {i : Nat} {w : Word} (hG : Sub k.mask G) (h : Only G s0 s) : Only G s0 (s.setReg k i w) :=
  ⟨fun c => ⟨State.regs_wf_setReg k i w (h.1 c).1, (h.1 c).2⟩, fun p hp => (h.2 p hp).setReg i w (Only.ne_reg hG hp)⟩

theorem State.set_only {F : Fld} {i v : Nat} (hG : Sub F.mask G) (h : Only G s0 s) : Only G s0 (s.set F i v) := State.setReg_only hG h

theorem State.each_only {l : List Nat} {f : Nat → State → State} (hf : ∀ i u, Only G s0 u → Only G s0 (f i u)) (h : Only G s0 s) : Only G s0 (s.each l f) :=
  Only.fold (fun u b hu => hf b u hu) h

theorem State.when_only {c : Bool} {f : State → State} (hf : ∀ u, Only G s0 u → Only G s0 (f u)) (h : Only G s0 s) : Only G s0 (s.when c f) := by
  unfold State.when
  split
  · exact hf _ h
  · exact h

theorem Only.of_hbm {m : Memory} (hG : Sub (StateField.mask .hbm) G) (hm : Memory.wf s.hbm = true → Memory.wf m = true) (h : Only G s0 s) :
    Only G s0 { s with hbm := m } := by
  refine ⟨fun c => ⟨(h.1 c).1, hm (h.1 c).2.1, (h.1 c).2.2⟩, fun p hp => ?_⟩
  have hne := Only.ne_field hG hp
  have hs := h.2 p hp
  cases p with
  | reg k => exact hs
  | field f => cases f <;> first | exact hs | exact absurd rfl hne

theorem Tbl.rd_filter {α : Type} (d : Nat → α) (m : Tbl α) (f : Nat × α → Bool) (j : Nat) (hf : ∀ v, f (j, v) = true) : Tbl.rd d (m.filter f) j = Tbl.rd d m j := by
  induction m with
  | nil => rfl
  | cons e m ih =>
    obtain ⟨a, b⟩ := e
    rw [List.filter_cons]
    by_cases h : a = j
    · subst h
      simp [hf, Tbl.rd, Tbl.find]
    · have hr : ∀ l : Tbl α, Tbl.rd d ((a, b) :: l) j = Tbl.rd d l j := fun l => by simp [Tbl.rd, Tbl.find, h]
      split
      · rw [hr, hr, ih]
      · rw [hr, ih]

theorem Only.of_regs_filter {k : RegKind} {f : Nat × Word → Bool} (hG : Sub k.mask G) (hf : ∀ e : Nat × Word, e.1 % 256 ≠ k.ctorIdx → f e = true)
    (h : Only G s0 s) : Only G s0 { s with regs := s.regs.filter f } := by
  refine ⟨fun c => ⟨Tbl.wf_filter _ _ (h.1 c).1, (h.1 c).2⟩, fun p hp => ?_⟩
  have hne := Only.ne_reg hG hp
  have hs := h.2 p hp
  cases p with
  | reg j =>
    intro i
    refine (Tbl.rd_filter regReset s.regs f (j.key i) fun v => hf _ ?_).trans (hs i)
    intro e
    have := j.ctorIdx_lt
    apply hne
    rw [← RegKind.ofNat_ctorIdx j, ← RegKind.ofNat_ctorIdx k]
    congr 2
    have e' : (j.ctorIdx + 256 * i) % 256 = k.ctorIdx := e
    omega
  | field f => cases f <;> exact hs

theorem RegKind.mask_all (k : RegKind) : Sub k.mask 0x7fffffffffffffffffffffffffffffffffffffffffffffffffffffff := by cases k <;> decide +kernel

theorem Sub.kind {k : RegKind} (h : Sub 0x7fffffffffffffffffffffffffffffffffffffffffffffffffffffff G) : Sub k.mask G := h.of (RegKind.mask_all k)

theorem State.writeHbm_only {a : Nat} {bs : List Byte} (hG : Sub 0x200000000000000000000000000000000000000000000000000000000000000000 G) (h : Only G s0 s) : Only G s0 (s.writeHbm a bs) :=
  Only.of_hbm (hG.of rfl) (Memory.writeBytes_wf a bs) h

theorem State.clearHbm_only {a n : Nat} (hG : Sub 0x200000000000000000000000000000000000000000000000000000000000000000 G) (h : Only G s0 s) : Only G s0 (s.clearHbm a n) :=
  Only.of_hbm (hG.of rfl) (Memory.clear_wf a n) h

theorem State.setFlash_only {cs : Nat} {m : List Host.Cell} (hG : Sub 0x60000000000000000000000000000000000000000000000000000000000000000000000000000000000000 G)
    (hm : Tbl.wf erasedByte (s.flash cs) = true → Tbl.wf erasedByte m = true) (h : Only G s0 s) : Only G s0 (s.setFlash cs m) := by
  unfold State.setFlash
  unfold State.flash at hm
  have hA : Sub (StateField.mask .flashA) G := hG.of rfl
  have hB : Sub (StateField.mask .flashB) G := hG.of rfl
  split
  · rename_i hc
    rw [if_pos hc] at hm
    refine ⟨fun c => ⟨(h.1 c).1, (h.1 c).2.1, hm (h.1 c).2.2.1, (h.1 c).2.2.2⟩, fun p hp => ?_⟩
    have hne := Only.ne_field hA hp
    have hs := h.2 p hp
    cases p with
    | reg k => exact hs
    | field f => cases f <;> first | exact hs | exact absurd rfl hne
  · rename_i hc
    rw [if_neg hc] at hm
    refine ⟨fun c => ⟨(h.1 c).1, (h.1 c).2.1, (h.1 c).2.2.1, hm (h.1 c).2.2.2⟩, fun p hp => ?_⟩
    have hne := Only.ne_field hB hp
    have hs := h.2 p hp
    cases p with
    | reg k => exact hs
    | field f => cases f <;> first | exact hs | exact absurd rfl hne

theorem Only.at_phase (hG : Sub (StateField.mask .phase) G) {w : _} (h : Only G s0 { t with phase := w }) : Only G s0 t := by
  refine ⟨h.1, fun p hp => ?_⟩
  have hne := Only.ne_field hG hp
  have hs := h.2 p hp
  cases p with
  | reg k => exact hs
  | field f => cases f <;> first | exact hs | exact absurd rfl hne

theorem Only.at_clk (hG : Sub (StateField.mask .clk) G) {w : _} (h : Only G s0 { t with clk := w }) : Only G s0 t := by
  refine ⟨h.1, fun p hp => ?_⟩
  have hne := Only.ne_field hG hp
  have hs := h.2 p hp
  cases p with
  | reg k => exact hs
  | field f => cases f <;> first | exact hs | exact absurd rfl hne

theorem Only.at_tim (hG : Sub (StateField.mask .tim) G) {w : _} (h : Only G s0 { t with tim := w }) : Only G s0 t := by
  refine ⟨h.1, fun p hp => ?_⟩
  have hne := Only.ne_field hG hp
  have hs := h.2 p hp
  cases p with
  | reg k => exact hs
  | field f => cases f <;> first | exact hs | exact absurd rfl hne

theorem Only.at_freeCtr (hG : Sub (StateField.mask .freeCtr) G) {w : _} (h : Only G s0 { t with freeCtr := w }) : Only G s0 t := by
  refine ⟨h.1, fun p hp => ?_⟩
  have hne := Only.ne_field hG hp
  have hs := h.2 p hp
  cases p with
  | reg k => exact hs
  | field f => cases f <;> first | exact hs | exact absurd rfl hne

theorem Only.at_out (hG : Sub (StateField.mask .out) G) {w : _} (h : Only G s0 { t with out := w }) : Only G s0 t := by
  refine ⟨h.1, fun p hp => ?_⟩
  have hne := Only.ne_field hG hp
  have hs := h.2 p hp
  cases p with
  | reg k => exact hs
  | field f => cases f <;> first | exact hs | exact absurd rfl hne

theorem Only.at_hbmEcc (hG : Sub (StateField.mask .hbmEcc) G) {w : _} (h : Only G s0 { t with hbmEcc := w }) : Only G s0 t := by
  refine ⟨h.1, fun p hp => ?_⟩
  have hne := Only.ne_field hG hp
  have hs := h.2 p hp
  cases p with
  | reg k => exact hs
  | field f => cases f <;> first | exact hs | exact absurd rfl hne

theorem Only.at_blocks (hG : Sub (StateField.mask .blocks) G) {w : _} (h : Only G s0 { t with blocks := w }) : Only G s0 t := by
  refine ⟨h.1, fun p hp => ?_⟩
  have hne := Only.ne_field hG hp
  have hs := h.2 p hp
  cases p with
  | reg k => exact hs
  | field f => cases f <;> first | exact hs | exact absurd rfl hne

theorem Only.at_prbs (hG : Sub (StateField.mask .prbs) G) {w : _} (h : Only G s0 { t with prbs := w }) : Only G s0 t := by
  refine ⟨h.1, fun p hp => ?_⟩
  have hne := Only.ne_field hG hp
  have hs := h.2 p hp
  cases p with
  | reg k => exact hs
  | field f => cases f <;> first | exact hs | exact absurd rfl hne

theorem Only.at_ports (hG : Sub (StateField.mask .ports) G) {w : _} (h : Only G s0 { t with ports := w }) : Only G s0 t := by
  refine ⟨h.1, fun p hp => ?_⟩
  have hne := Only.ne_field hG hp
  have hs := h.2 p hp
  cases p with
  | reg k => exact hs
  | field f => cases f <;> first | exact hs | exact absurd rfl hne

theorem Only.at_partials (hG : Sub (StateField.mask .partials) G) {w : _} (h : Only G s0 { t with partials := w }) : Only G s0 t := by
  refine ⟨h.1, fun p hp => ?_⟩
  have hne := Only.ne_field hG hp
  have hs := h.2 p hp
  cases p with
  | reg k => exact hs
  | field f => cases f <;> first | exact hs | exact absurd rfl hne

theorem Only.at_vppbs (hG : Sub (StateField.mask .vppbs) G) {w : _} (h : Only G s0 { t with vppbs := w }) : Only G s0 t := by
  refine ⟨h.1, fun p hp => ?_⟩
  have hne := Only.ne_field hG hp
  have hs := h.2 p hp
  cases p with
  | reg k => exact hs
  | field f => cases f <;> first | exact hs | exact absurd rfl hne

theorem Only.at_fmReq (hG : Sub (StateField.mask .fmReq) G) {w : _} (h : Only G s0 { t with fmReq := w }) : Only G s0 t := by
  refine ⟨h.1, fun p hp => ?_⟩
  have hne := Only.ne_field hG hp
  have hs := h.2 p hp
  cases p with
  | reg k => exact hs
  | field f => cases f <;> first | exact hs | exact absurd rfl hne

theorem Only.at_cxlLog (hG : Sub (StateField.mask .cxlLog) G) {w : _} (h : Only G s0 { t with cxlLog := w }) : Only G s0 t := by
  refine ⟨h.1, fun p hp => ?_⟩
  have hne := Only.ne_field hG hp
  have hs := h.2 p hp
  cases p with
  | reg k => exact hs
  | field f => cases f <;> first | exact hs | exact absurd rfl hne

theorem Only.at_cxlHandle (hG : Sub (StateField.mask .cxlHandle) G) {w : _} (h : Only G s0 { t with cxlHandle := w }) : Only G s0 t := by
  refine ⟨h.1, fun p hp => ?_⟩
  have hne := Only.ne_field hG hp
  have hs := h.2 p hp
  cases p with
  | reg k => exact hs
  | field f => cases f <;> first | exact hs | exact absurd rfl hne

theorem Only.at_dcAdds (hG : Sub (StateField.mask .dcAdds) G) {w : _} (h : Only G s0 { t with dcAdds := w }) : Only G s0 t := by
  refine ⟨h.1, fun p hp => ?_⟩
  have hne := Only.ne_field hG hp
  have hs := h.2 p hp
  cases p with
  | reg k => exact hs
  | field f => cases f <;> first | exact hs | exact absurd rfl hne

theorem Only.at_dcReleases (hG : Sub (StateField.mask .dcReleases) G) {w : _} (h : Only G s0 { t with dcReleases := w }) : Only G s0 t := by
  refine ⟨h.1, fun p hp => ?_⟩
  have hne := Only.ne_field hG hp
  have hs := h.2 p hp
  cases p with
  | reg k => exact hs
  | field f => cases f <;> first | exact hs | exact absurd rfl hne

theorem Only.at_fillDue (hG : Sub (StateField.mask .fillDue) G) {w : _} (h : Only G s0 { t with fillDue := w }) : Only G s0 t := by
  refine ⟨h.1, fun p hp => ?_⟩
  have hne := Only.ne_field hG hp
  have hs := h.2 p hp
  cases p with
  | reg k => exact hs
  | field f => cases f <;> first | exact hs | exact absurd rfl hne

theorem Only.at_dcRegion (hG : Sub (StateField.mask .dcRegion) G) {w : _} (h : Only G s0 { t with dcRegion := w }) : Only G s0 t := by
  refine ⟨h.1, fun p hp => ?_⟩
  have hne := Only.ne_field hG hp
  have hs := h.2 p hp
  cases p with
  | reg k => exact hs
  | field f => cases f <;> first | exact hs | exact absurd rfl hne

theorem Only.at_dcSanitize (hG : Sub (StateField.mask .dcSanitize) G) {w : _} (h : Only G s0 { t with dcSanitize := w }) : Only G s0 t := by
  refine ⟨h.1, fun p hp => ?_⟩
  have hne := Only.ne_field hG hp
  have hs := h.2 p hp
  cases p with
  | reg k => exact hs
  | field f => cases f <;> first | exact hs | exact absurd rfl hne

theorem Only.at_biDecoder (hG : Sub (StateField.mask .biDecoder) G) {w : _} (h : Only G s0 { t with biDecoder := w }) : Only G s0 t := by
  refine ⟨h.1, fun p hp => ?_⟩
  have hne := Only.ne_field hG hp
  have hs := h.2 p hp
  cases p with
  | reg k => exact hs
  | field f => cases f <;> first | exact hs | exact absurd rfl hne

theorem Only.at_outst (hG : Sub (StateField.mask .outst) G) {w : _} (h : Only G s0 { t with outst := w }) : Only G s0 t := by
  refine ⟨h.1, fun p hp => ?_⟩
  have hne := Only.ne_field hG hp
  have hs := h.2 p hp
  cases p with
  | reg k => exact hs
  | field f => cases f <;> first | exact hs | exact absurd rfl hne

theorem Only.at_decodeQ (hG : Sub (StateField.mask .decodeQ) G) {w : _} (h : Only G s0 { t with decodeQ := w }) : Only G s0 t := by
  refine ⟨h.1, fun p hp => ?_⟩
  have hne := Only.ne_field hG hp
  have hs := h.2 p hp
  cases p with
  | reg k => exact hs
  | field f => cases f <;> first | exact hs | exact absurd rfl hne

theorem Only.at_portHold (hG : Sub (StateField.mask .portHold) G) {w : _} (h : Only G s0 { t with portHold := w }) : Only G s0 t := by
  refine ⟨h.1, fun p hp => ?_⟩
  have hne := Only.ne_field hG hp
  have hs := h.2 p hp
  cases p with
  | reg k => exact hs
  | field f => cases f <;> first | exact hs | exact absurd rfl hne

theorem Only.at_sflLanes (hG : Sub (StateField.mask .sflLanes) G) {w : _} (h : Only G s0 { t with sflLanes := w }) : Only G s0 t := by
  refine ⟨h.1, fun p hp => ?_⟩
  have hne := Only.ne_field hG hp
  have hs := h.2 p hp
  cases p with
  | reg k => exact hs
  | field f => cases f <;> first | exact hs | exact absurd rfl hne

theorem Only.at_sflTx (hG : Sub (StateField.mask .sflTx) G) {w : _} (h : Only G s0 { t with sflTx := w }) : Only G s0 t := by
  refine ⟨h.1, fun p hp => ?_⟩
  have hne := Only.ne_field hG hp
  have hs := h.2 p hp
  cases p with
  | reg k => exact hs
  | field f => cases f <;> first | exact hs | exact absurd rfl hne

theorem Only.at_sflTrain (hG : Sub (StateField.mask .sflTrain) G) {w : _} (h : Only G s0 { t with sflTrain := w }) : Only G s0 t := by
  refine ⟨h.1, fun p hp => ?_⟩
  have hne := Only.ne_field hG hp
  have hs := h.2 p hp
  cases p with
  | reg k => exact hs
  | field f => cases f <;> first | exact hs | exact absurd rfl hne

theorem Only.at_sfl (hG : Sub (StateField.mask .sfl) G) {w : _} (h : Only G s0 { t with sfl := w }) : Only G s0 t := by
  refine ⟨h.1, fun p hp => ?_⟩
  have hne := Only.ne_field hG hp
  have hs := h.2 p hp
  cases p with
  | reg k => exact hs
  | field f => cases f <;> first | exact hs | exact absurd rfl hne

theorem Only.at_ni (hG : Sub (StateField.mask .ni) G) {w : _} (h : Only G s0 { t with ni := w }) : Only G s0 t := by
  refine ⟨h.1, fun p hp => ?_⟩
  have hne := Only.ne_field hG hp
  have hs := h.2 p hp
  cases p with
  | reg k => exact hs
  | field f => cases f <;> first | exact hs | exact absurd rfl hne

theorem Only.at_voq (hG : Sub (StateField.mask .voq) G) {w : _} (h : Only G s0 { t with voq := w }) : Only G s0 t := by
  refine ⟨h.1, fun p hp => ?_⟩
  have hne := Only.ne_field hG hp
  have hs := h.2 p hp
  cases p with
  | reg k => exact hs
  | field f => cases f <;> first | exact hs | exact absurd rfl hne

theorem Only.at_ledger (hG : Sub (StateField.mask .ledger) G) {w : _} (h : Only G s0 { t with ledger := w }) : Only G s0 t := by
  refine ⟨h.1, fun p hp => ?_⟩
  have hne := Only.ne_field hG hp
  have hs := h.2 p hp
  cases p with
  | reg k => exact hs
  | field f => cases f <;> first | exact hs | exact absurd rfl hne

theorem Only.at_crQueue (hG : Sub (StateField.mask .crQueue) G) {w : _} (h : Only G s0 { t with crQueue := w }) : Only G s0 t := by
  refine ⟨h.1, fun p hp => ?_⟩
  have hne := Only.ne_field hG hp
  have hs := h.2 p hp
  cases p with
  | reg k => exact hs
  | field f => cases f <;> first | exact hs | exact absurd rfl hne

theorem Only.at_inflight (hG : Sub (StateField.mask .inflight) G) {w : _} (h : Only G s0 { t with inflight := w }) : Only G s0 t := by
  refine ⟨h.1, fun p hp => ?_⟩
  have hne := Only.ne_field hG hp
  have hs := h.2 p hp
  cases p with
  | reg k => exact hs
  | field f => cases f <;> first | exact hs | exact absurd rfl hne

theorem Only.at_rtr (hG : Sub (StateField.mask .rtr) G) {w : _} (h : Only G s0 { t with rtr := w }) : Only G s0 t := by
  refine ⟨h.1, fun p hp => ?_⟩
  have hne := Only.ne_field hG hp
  have hs := h.2 p hp
  cases p with
  | reg k => exact hs
  | field f => cases f <;> first | exact hs | exact absurd rfl hne

theorem Only.at_prb (hG : Sub (StateField.mask .prb) G) {w : _} (h : Only G s0 { t with prb := w }) : Only G s0 t := by
  refine ⟨h.1, fun p hp => ?_⟩
  have hne := Only.ne_field hG hp
  have hs := h.2 p hp
  cases p with
  | reg k => exact hs
  | field f => cases f <;> first | exact hs | exact absurd rfl hne

theorem Only.at_mir (hG : Sub (StateField.mask .mir) G) {w : _} (h : Only G s0 { t with mir := w }) : Only G s0 t := by
  refine ⟨h.1, fun p hp => ?_⟩
  have hne := Only.ne_field hG hp
  have hs := h.2 p hp
  cases p with
  | reg k => exact hs
  | field f => cases f <;> first | exact hs | exact absurd rfl hne

theorem Only.at_xing (hG : Sub (StateField.mask .xing) G) {w : _} (h : Only G s0 { t with xing := w }) : Only G s0 t := by
  refine ⟨h.1, fun p hp => ?_⟩
  have hne := Only.ne_field hG hp
  have hs := h.2 p hp
  cases p with
  | reg k => exact hs
  | field f => cases f <;> first | exact hs | exact absurd rfl hne

theorem Only.at_gateDrops (hG : Sub (StateField.mask .gateDrops) G) {w : _} (h : Only G s0 { t with gateDrops := w }) : Only G s0 t := by
  refine ⟨h.1, fun p hp => ?_⟩
  have hne := Only.ne_field hG hp
  have hs := h.2 p hp
  cases p with
  | reg k => exact hs
  | field f => cases f <;> first | exact hs | exact absurd rfl hne

theorem Only.at_wear (hG : Sub (StateField.mask .wear) G) {w : _} (h : Only G s0 { t with wear := w }) : Only G s0 t := by
  refine ⟨h.1, fun p hp => ?_⟩
  have hne := Only.ne_field hG hp
  have hs := h.2 p hp
  cases p with
  | reg k => exact hs
  | field f => cases f <;> first | exact hs | exact absurd rfl hne

theorem Only.at_margins (hG : Sub (StateField.mask .margins) G) {w : _} (h : Only G s0 { t with margins := w }) : Only G s0 t := by
  refine ⟨h.1, fun p hp => ?_⟩
  have hne := Only.ne_field hG hp
  have hs := h.2 p hp
  cases p with
  | reg k => exact hs
  | field f => cases f <;> first | exact hs | exact absurd rfl hne

theorem Only.at_bands (hG : Sub (StateField.mask .bands) G) {w : _} (h : Only G s0 { t with bands := w }) : Only G s0 t := by
  refine ⟨h.1, fun p hp => ?_⟩
  have hne := Only.ne_field hG hp
  have hs := h.2 p hp
  cases p with
  | reg k => exact hs
  | field f => cases f <;> first | exact hs | exact absurd rfl hne

theorem Only.at_buckets (hG : Sub (StateField.mask .buckets) G) {w : _} (h : Only G s0 { t with buckets := w }) : Only G s0 t := by
  refine ⟨h.1, fun p hp => ?_⟩
  have hne := Only.ne_field hG hp
  have hs := h.2 p hp
  cases p with
  | reg k => exact hs
  | field f => cases f <;> first | exact hs | exact absurd rfl hne

theorem Only.at_holdQ (hG : Sub (StateField.mask .holdQ) G) {w : _} (h : Only G s0 { t with holdQ := w }) : Only G s0 t := by
  refine ⟨h.1, fun p hp => ?_⟩
  have hne := Only.ne_field hG hp
  have hs := h.2 p hp
  cases p with
  | reg k => exact hs
  | field f => cases f <;> first | exact hs | exact absurd rfl hne

theorem Only.at_holdFull (hG : Sub (StateField.mask .holdFull) G) {w : _} (h : Only G s0 { t with holdFull := w }) : Only G s0 t := by
  refine ⟨h.1, fun p hp => ?_⟩
  have hne := Only.ne_field hG hp
  have hs := h.2 p hp
  cases p with
  | reg k => exact hs
  | field f => cases f <;> first | exact hs | exact absurd rfl hne

theorem Only.at_marks (hG : Sub (StateField.mask .marks) G) {w : _} (h : Only G s0 { t with marks := w }) : Only G s0 t := by
  refine ⟨h.1, fun p hp => ?_⟩
  have hne := Only.ne_field hG hp
  have hs := h.2 p hp
  cases p with
  | reg k => exact hs
  | field f => cases f <;> first | exact hs | exact absurd rfl hne

theorem Only.at_tcs (hG : Sub (StateField.mask .tcs) G) {w : _} (h : Only G s0 { t with tcs := w }) : Only G s0 t := by
  refine ⟨h.1, fun p hp => ?_⟩
  have hne := Only.ne_field hG hp
  have hs := h.2 p hp
  cases p with
  | reg k => exact hs
  | field f => cases f <;> first | exact hs | exact absurd rfl hne

theorem Only.at_bindRun (hG : Sub (StateField.mask .bindRun) G) {w : _} (h : Only G s0 { t with bindRun := w }) : Only G s0 t := by
  refine ⟨h.1, fun p hp => ?_⟩
  have hne := Only.ne_field hG hp
  have hs := h.2 p hp
  cases p with
  | reg k => exact hs
  | field f => cases f <;> first | exact hs | exact absurd rfl hne

theorem Only.at_stamps (hG : Sub (StateField.mask .stamps) G) {w : _} (h : Only G s0 { t with stamps := w }) : Only G s0 t := by
  refine ⟨h.1, fun p hp => ?_⟩
  have hne := Only.ne_field hG hp
  have hs := h.2 p hp
  cases p with
  | reg k => exact hs
  | field f => cases f <;> first | exact hs | exact absurd rfl hne

theorem Only.at_rep (hG : Sub (StateField.mask .rep) G) {w : _} (h : Only G s0 { t with rep := w }) : Only G s0 t := by
  refine ⟨h.1, fun p hp => ?_⟩
  have hne := Only.ne_field hG hp
  have hs := h.2 p hp
  cases p with
  | reg k => exact hs
  | field f => cases f <;> first | exact hs | exact absurd rfl hne

theorem Only.at_repEcc (hG : Sub (StateField.mask .repEcc) G) {w : _} (h : Only G s0 { t with repEcc := w }) : Only G s0 t := by
  refine ⟨h.1, fun p hp => ?_⟩
  have hne := Only.ne_field hG hp
  have hs := h.2 p hp
  cases p with
  | reg k => exact hs
  | field f => cases f <;> first | exact hs | exact absurd rfl hne

theorem Only.at_wtag (hG : Sub (StateField.mask .wtag) G) {w : _} (h : Only G s0 { t with wtag := w }) : Only G s0 t := by
  refine ⟨h.1, fun p hp => ?_⟩
  have hne := Only.ne_field hG hp
  have hs := h.2 p hp
  cases p with
  | reg k => exact hs
  | field f => cases f <;> first | exact hs | exact absurd rfl hne

theorem Only.at_scrubAt (hG : Sub (StateField.mask .scrubAt) G) {w : _} (h : Only G s0 { t with scrubAt := w }) : Only G s0 t := by
  refine ⟨h.1, fun p hp => ?_⟩
  have hne := Only.ne_field hG hp
  have hs := h.2 p hp
  cases p with
  | reg k => exact hs
  | field f => cases f <;> first | exact hs | exact absurd rfl hne

theorem Only.at_l2Cache (hG : Sub (StateField.mask .l2Cache) G) {w : _} (h : Only G s0 { t with l2Cache := w }) : Only G s0 t := by
  refine ⟨h.1, fun p hp => ?_⟩
  have hne := Only.ne_field hG hp
  have hs := h.2 p hp
  cases p with
  | reg k => exact hs
  | field f => cases f <;> first | exact hs | exact absurd rfl hne

theorem Only.at_rmpRun (hG : Sub (StateField.mask .rmpRun) G) {w : _} (h : Only G s0 { t with rmpRun := w }) : Only G s0 t := by
  refine ⟨h.1, fun p hp => ?_⟩
  have hne := Only.ne_field hG hp
  have hs := h.2 p hp
  cases p with
  | reg k => exact hs
  | field f => cases f <;> first | exact hs | exact absurd rfl hne

theorem Only.at_decoders (hG : Sub (StateField.mask .decoders) G) {w : _} (h : Only G s0 { t with decoders := w }) : Only G s0 t := by
  refine ⟨h.1, fun p hp => ?_⟩
  have hne := Only.ne_field hG hp
  have hs := h.2 p hp
  cases p with
  | reg k => exact hs
  | field f => cases f <;> first | exact hs | exact absurd rfl hne

theorem Only.at_commitWait (hG : Sub (StateField.mask .commitWait) G) {w : _} (h : Only G s0 { t with commitWait := w }) : Only G s0 t := by
  refine ⟨h.1, fun p hp => ?_⟩
  have hne := Only.ne_field hG hp
  have hs := h.2 p hp
  cases p with
  | reg k => exact hs
  | field f => cases f <;> first | exact hs | exact absurd rfl hne

theorem Only.at_ideKeys (hG : Sub (StateField.mask .ideKeys) G) {w : _} (h : Only G s0 { t with ideKeys := w }) : Only G s0 t := by
  refine ⟨h.1, fun p hp => ?_⟩
  have hne := Only.ne_field hG hp
  have hs := h.2 p hp
  cases p with
  | reg k => exact hs
  | field f => cases f <;> first | exact hs | exact absurd rfl hne

theorem Only.at_resolved (hG : Sub (StateField.mask .resolved) G) {w : _} (h : Only G s0 { t with resolved := w }) : Only G s0 t := by
  refine ⟨h.1, fun p hp => ?_⟩
  have hne := Only.ne_field hG hp
  have hs := h.2 p hp
  cases p with
  | reg k => exact hs
  | field f => cases f <;> first | exact hs | exact absurd rfl hne

theorem Only.at_denials (hG : Sub (StateField.mask .denials) G) {w : _} (h : Only G s0 { t with denials := w }) : Only G s0 t := by
  refine ⟨h.1, fun p hp => ?_⟩
  have hne := Only.ne_field hG hp
  have hs := h.2 p hp
  cases p with
  | reg k => exact hs
  | field f => cases f <;> first | exact hs | exact absurd rfl hne

theorem Only.at_dirCache (hG : Sub (StateField.mask .dirCache) G) {w : _} (h : Only G s0 { t with dirCache := w }) : Only G s0 t := by
  refine ⟨h.1, fun p hp => ?_⟩
  have hne := Only.ne_field hG hp
  have hs := h.2 p hp
  cases p with
  | reg k => exact hs
  | field f => cases f <;> first | exact hs | exact absurd rfl hne

theorem Only.at_txns (hG : Sub (StateField.mask .txns) G) {w : _} (h : Only G s0 { t with txns := w }) : Only G s0 t := by
  refine ⟨h.1, fun p hp => ?_⟩
  have hne := Only.ne_field hG hp
  have hs := h.2 p hp
  cases p with
  | reg k => exact hs
  | field f => cases f <;> first | exact hs | exact absurd rfl hne

theorem Only.at_wbuf (hG : Sub (StateField.mask .wbuf) G) {w : _} (h : Only G s0 { t with wbuf := w }) : Only G s0 t := by
  refine ⟨h.1, fun p hp => ?_⟩
  have hne := Only.ne_field hG hp
  have hs := h.2 p hp
  cases p with
  | reg k => exact hs
  | field f => cases f <;> first | exact hs | exact absurd rfl hne

theorem Only.at_trkWait (hG : Sub (StateField.mask .trkWait) G) {w : _} (h : Only G s0 { t with trkWait := w }) : Only G s0 t := by
  refine ⟨h.1, fun p hp => ?_⟩
  have hne := Only.ne_field hG hp
  have hs := h.2 p hp
  cases p with
  | reg k => exact hs
  | field f => cases f <;> first | exact hs | exact absurd rfl hne

theorem Only.at_homeHolds (hG : Sub (StateField.mask .homeHolds) G) {w : _} (h : Only G s0 { t with homeHolds := w }) : Only G s0 t := by
  refine ⟨h.1, fun p hp => ?_⟩
  have hne := Only.ne_field hG hp
  have hs := h.2 p hp
  cases p with
  | reg k => exact hs
  | field f => cases f <;> first | exact hs | exact absurd rfl hne

theorem Only.at_spareUntil (hG : Sub (StateField.mask .spareUntil) G) {w : _} (h : Only G s0 { t with spareUntil := w }) : Only G s0 t := by
  refine ⟨h.1, fun p hp => ?_⟩
  have hne := Only.ne_field hG hp
  have hs := h.2 p hp
  cases p with
  | reg k => exact hs
  | field f => cases f <;> first | exact hs | exact absurd rfl hne

theorem Only.at_sweeping (hG : Sub (StateField.mask .sweeping) G) {w : _} (h : Only G s0 { t with sweeping := w }) : Only G s0 t := by
  refine ⟨h.1, fun p hp => ?_⟩
  have hne := Only.ne_field hG hp
  have hs := h.2 p hp
  cases p with
  | reg k => exact hs
  | field f => cases f <;> first | exact hs | exact absurd rfl hne

theorem Only.at_caidWait (hG : Sub (StateField.mask .caidWait) G) {w : _} (h : Only G s0 { t with caidWait := w }) : Only G s0 t := by
  refine ⟨h.1, fun p hp => ?_⟩
  have hne := Only.ne_field hG hp
  have hs := h.2 p hp
  cases p with
  | reg k => exact hs
  | field f => cases f <;> first | exact hs | exact absurd rfl hne

theorem Only.at_migWait (hG : Sub (StateField.mask .migWait) G) {w : _} (h : Only G s0 { t with migWait := w }) : Only G s0 t := by
  refine ⟨h.1, fun p hp => ?_⟩
  have hne := Only.ne_field hG hp
  have hs := h.2 p hp
  cases p with
  | reg k => exact hs
  | field f => cases f <;> first | exact hs | exact absurd rfl hne

theorem Only.at_migMaps (hG : Sub (StateField.mask .migMaps) G) {w : _} (h : Only G s0 { t with migMaps := w }) : Only G s0 t := by
  refine ⟨h.1, fun p hp => ?_⟩
  have hne := Only.ne_field hG hp
  have hs := h.2 p hp
  cases p with
  | reg k => exact hs
  | field f => cases f <;> first | exact hs | exact absurd rfl hne

theorem Only.at_migHeld (hG : Sub (StateField.mask .migHeld) G) {w : _} (h : Only G s0 { t with migHeld := w }) : Only G s0 t := by
  refine ⟨h.1, fun p hp => ?_⟩
  have hne := Only.ne_field hG hp
  have hs := h.2 p hp
  cases p with
  | reg k => exact hs
  | field f => cases f <;> first | exact hs | exact absurd rfl hne

theorem Only.at_accesses (hG : Sub (StateField.mask .accesses) G) {w : _} (h : Only G s0 { t with accesses := w }) : Only G s0 t := by
  refine ⟨h.1, fun p hp => ?_⟩
  have hne := Only.ne_field hG hp
  have hs := h.2 p hp
  cases p with
  | reg k => exact hs
  | field f => cases f <;> first | exact hs | exact absurd rfl hne

theorem Only.at_drainPhase (hG : Sub (StateField.mask .drainPhase) G) {w : _} (h : Only G s0 { t with drainPhase := w }) : Only G s0 t := by
  refine ⟨h.1, fun p hp => ?_⟩
  have hne := Only.ne_field hG hp
  have hs := h.2 p hp
  cases p with
  | reg k => exact hs
  | field f => cases f <;> first | exact hs | exact absurd rfl hne

theorem Only.at_drains (hG : Sub (StateField.mask .drains) G) {w : _} (h : Only G s0 { t with drains := w }) : Only G s0 t := by
  refine ⟨h.1, fun p hp => ?_⟩
  have hne := Only.ne_field hG hp
  have hs := h.2 p hp
  cases p with
  | reg k => exact hs
  | field f => cases f <;> first | exact hs | exact absurd rfl hne

theorem Only.at_migs (hG : Sub (StateField.mask .migs) G) {w : _} (h : Only G s0 { t with migs := w }) : Only G s0 t := by
  refine ⟨h.1, fun p hp => ?_⟩
  have hne := Only.ne_field hG hp
  have hs := h.2 p hp
  cases p with
  | reg k => exact hs
  | field f => cases f <;> first | exact hs | exact absurd rfl hne

theorem Only.at_hot (hG : Sub (StateField.mask .hot) G) {w : _} (h : Only G s0 { t with hot := w }) : Only G s0 t := by
  refine ⟨h.1, fun p hp => ?_⟩
  have hne := Only.ne_field hG hp
  have hs := h.2 p hp
  cases p with
  | reg k => exact hs
  | field f => cases f <;> first | exact hs | exact absurd rfl hne

theorem Only.at_engines (hG : Sub (StateField.mask .engines) G) {w : _} (h : Only G s0 { t with engines := w }) : Only G s0 t := by
  refine ⟨h.1, fun p hp => ?_⟩
  have hne := Only.ne_field hG hp
  have hs := h.2 p hp
  cases p with
  | reg k => exact hs
  | field f => cases f <;> first | exact hs | exact absurd rfl hne

theorem Only.at_clusters (hG : Sub (StateField.mask .clusters) G) {w : _} (h : Only G s0 { t with clusters := w }) : Only G s0 t := by
  refine ⟨h.1, fun p hp => ?_⟩
  have hne := Only.ne_field hG hp
  have hs := h.2 p hp
  cases p with
  | reg k => exact hs
  | field f => cases f <;> first | exact hs | exact absurd rfl hne

theorem Only.at_fwVersion (hG : Sub (StateField.mask .fwVersion) G) {w : _} (h : Only G s0 { t with fwVersion := w }) : Only G s0 t := by
  refine ⟨h.1, fun p hp => ?_⟩
  have hne := Only.ne_field hG hp
  have hs := h.2 p hp
  cases p with
  | reg k => exact hs
  | field f => cases f <;> first | exact hs | exact absurd rfl hne

theorem Only.at_fab (hG : Sub (StateField.mask .fab) G) {w : _} (h : Only G s0 { t with fab := w }) : Only G s0 t := by
  refine ⟨h.1, fun p hp => ?_⟩
  have hne := Only.ne_field hG hp
  have hs := h.2 p hp
  cases p with
  | reg k => exact hs
  | field f => cases f <;> first | exact hs | exact absurd rfl hne

theorem Only.at_fabIn (hG : Sub (StateField.mask .fabIn) G) {w : _} (h : Only G s0 { t with fabIn := w }) : Only G s0 t := by
  refine ⟨h.1, fun p hp => ?_⟩
  have hne := Only.ne_field hG hp
  have hs := h.2 p hp
  cases p with
  | reg k => exact hs
  | field f => cases f <;> first | exact hs | exact absurd rfl hne

theorem Only.at_transit (hG : Sub (StateField.mask .transit) G) {w : _} (h : Only G s0 { t with transit := w }) : Only G s0 t := by
  refine ⟨h.1, fun p hp => ?_⟩
  have hne := Only.ne_field hG hp
  have hs := h.2 p hp
  cases p with
  | reg k => exact hs
  | field f => cases f <;> first | exact hs | exact absurd rfl hne

theorem Only.at_fabPath (hG : Sub (StateField.mask .fabPath) G) {w : _} (h : Only G s0 { t with fabPath := w }) : Only G s0 t := by
  refine ⟨h.1, fun p hp => ?_⟩
  have hne := Only.ne_field hG hp
  have hs := h.2 p hp
  cases p with
  | reg k => exact hs
  | field f => cases f <;> first | exact hs | exact absurd rfl hne

theorem Only.at_fabFlight (hG : Sub (StateField.mask .fabFlight) G) {w : _} (h : Only G s0 { t with fabFlight := w }) : Only G s0 t := by
  refine ⟨h.1, fun p hp => ?_⟩
  have hne := Only.ne_field hG hp
  have hs := h.2 p hp
  cases p with
  | reg k => exact hs
  | field f => cases f <;> first | exact hs | exact absurd rfl hne

theorem Only.at_fabHeld (hG : Sub (StateField.mask .fabHeld) G) {w : _} (h : Only G s0 { t with fabHeld := w }) : Only G s0 t := by
  refine ⟨h.1, fun p hp => ?_⟩
  have hne := Only.ne_field hG hp
  have hs := h.2 p hp
  cases p with
  | reg k => exact hs
  | field f => cases f <;> first | exact hs | exact absurd rfl hne

theorem Only.at_fuses (hG : Sub (StateField.mask .fuses) G) {w : _} (h : Only G s0 { t with fuses := w }) : Only G s0 t := by
  refine ⟨h.1, fun p hp => ?_⟩
  have hne := Only.ne_field hG hp
  have hs := h.2 p hp
  cases p with
  | reg k => exact hs
  | field f => cases f <;> first | exact hs | exact absurd rfl hne

theorem Only.at_checked (hG : Sub (StateField.mask .checked) G) {w : _} (h : Only G s0 { t with checked := w }) : Only G s0 t := by
  refine ⟨h.1, fun p hp => ?_⟩
  have hne := Only.ne_field hG hp
  have hs := h.2 p hp
  cases p with
  | reg k => exact hs
  | field f => cases f <;> first | exact hs | exact absurd rfl hne

theorem Only.at_imgRun (hG : Sub (StateField.mask .imgRun) G) {w : _} (h : Only G s0 { t with imgRun := w }) : Only G s0 t := by
  refine ⟨h.1, fun p hp => ?_⟩
  have hne := Only.ne_field hG hp
  have hs := h.2 p hp
  cases p with
  | reg k => exact hs
  | field f => cases f <;> first | exact hs | exact absurd rfl hne

theorem Only.at_keyRun (hG : Sub (StateField.mask .keyRun) G) {w : _} (h : Only G s0 { t with keyRun := w }) : Only G s0 t := by
  refine ⟨h.1, fun p hp => ?_⟩
  have hne := Only.ne_field hG hp
  have hs := h.2 p hp
  cases p with
  | reg k => exact hs
  | field f => cases f <;> first | exact hs | exact absurd rfl hne

theorem Only.at_pendingId (hG : Sub (StateField.mask .pendingId) G) {w : _} (h : Only G s0 { t with pendingId := w }) : Only G s0 t := by
  refine ⟨h.1, fun p hp => ?_⟩
  have hne := Only.ne_field hG hp
  have hs := h.2 p hp
  cases p with
  | reg k => exact hs
  | field f => cases f <;> first | exact hs | exact absurd rfl hne

theorem Only.at_idKey (hG : Sub (StateField.mask .idKey) G) {w : _} (h : Only G s0 { t with idKey := w }) : Only G s0 t := by
  refine ⟨h.1, fun p hp => ?_⟩
  have hne := Only.ne_field hG hp
  have hs := h.2 p hp
  cases p with
  | reg k => exact hs
  | field f => cases f <;> first | exact hs | exact absurd rfl hne

theorem Only.at_bootKey (hG : Sub (StateField.mask .bootKey) G) {w : _} (h : Only G s0 { t with bootKey := w }) : Only G s0 t := by
  refine ⟨h.1, fun p hp => ?_⟩
  have hne := Only.ne_field hG hp
  have hs := h.2 p hp
  cases p with
  | reg k => exact hs
  | field f => cases f <;> first | exact hs | exact absurd rfl hne

theorem Only.at_hbmReady (hG : Sub (StateField.mask .hbmReady) G) {w : _} (h : Only G s0 { t with hbmReady := w }) : Only G s0 t := by
  refine ⟨h.1, fun p hp => ?_⟩
  have hne := Only.ne_field hG hp
  have hs := h.2 p hp
  cases p with
  | reg k => exact hs
  | field f => cases f <;> first | exact hs | exact absurd rfl hne

theorem Only.at_staged (hG : Sub (StateField.mask .staged) G) {w : _} (h : Only G s0 { t with staged := w }) : Only G s0 t := by
  refine ⟨h.1, fun p hp => ?_⟩
  have hne := Only.ne_field hG hp
  have hs := h.2 p hp
  cases p with
  | reg k => exact hs
  | field f => cases f <;> first | exact hs | exact absurd rfl hne

theorem Only.at_resetBy (hG : Sub (StateField.mask .resetBy) G) {w : _} (h : Only G s0 { t with resetBy := w }) : Only G s0 t := by
  refine ⟨h.1, fun p hp => ?_⟩
  have hne := Only.ne_field hG hp
  have hs := h.2 p hp
  cases p with
  | reg k => exact hs
  | field f => cases f <;> first | exact hs | exact absurd rfl hne

theorem Only.at_imgCtx (hG : Sub (StateField.mask .imgCtx) G) {w : _} (h : Only G s0 { t with imgCtx := w }) : Only G s0 t := by
  refine ⟨h.1, fun p hp => ?_⟩
  have hne := Only.ne_field hG hp
  have hs := h.2 p hp
  cases p with
  | reg k => exact hs
  | field f => cases f <;> first | exact hs | exact absurd rfl hne

theorem Only.at_reloadDue (hG : Sub (StateField.mask .reloadDue) G) {w : _} (h : Only G s0 { t with reloadDue := w }) : Only G s0 t := by
  refine ⟨h.1, fun p hp => ?_⟩
  have hne := Only.ne_field hG hp
  have hs := h.2 p hp
  cases p with
  | reg k => exact hs
  | field f => cases f <;> first | exact hs | exact absurd rfl hne

theorem Only.at_imgLater (hG : Sub (StateField.mask .imgLater) G) {w : _} (h : Only G s0 { t with imgLater := w }) : Only G s0 t := by
  refine ⟨h.1, fun p hp => ?_⟩
  have hne := Only.ne_field hG hp
  have hs := h.2 p hp
  cases p with
  | reg k => exact hs
  | field f => cases f <;> first | exact hs | exact absurd rfl hne

theorem Only.at_sess (hG : Sub (StateField.mask .sess) G) {w : _} (h : Only G s0 { t with sess := w }) : Only G s0 t := by
  refine ⟨h.1, fun p hp => ?_⟩
  have hne := Only.ne_field hG hp
  have hs := h.2 p hp
  cases p with
  | reg k => exact hs
  | field f => cases f <;> first | exact hs | exact absurd rfl hne

theorem Only.at_claims (hG : Sub (StateField.mask .claims) G) {w : _} (h : Only G s0 { t with claims := w }) : Only G s0 t := by
  refine ⟨h.1, fun p hp => ?_⟩
  have hne := Only.ne_field hG hp
  have hs := h.2 p hp
  cases p with
  | reg k => exact hs
  | field f => cases f <;> first | exact hs | exact absurd rfl hne

theorem Only.at_leaseAt (hG : Sub (StateField.mask .leaseAt) G) {w : _} (h : Only G s0 { t with leaseAt := w }) : Only G s0 t := by
  refine ⟨h.1, fun p hp => ?_⟩
  have hne := Only.ne_field hG hp
  have hs := h.2 p hp
  cases p with
  | reg k => exact hs
  | field f => cases f <;> first | exact hs | exact absurd rfl hne

theorem Only.at_evtSent (hG : Sub (StateField.mask .evtSent) G) {w : _} (h : Only G s0 { t with evtSent := w }) : Only G s0 t := by
  refine ⟨h.1, fun p hp => ?_⟩
  have hne := Only.ne_field hG hp
  have hs := h.2 p hp
  cases p with
  | reg k => exact hs
  | field f => cases f <;> first | exact hs | exact absurd rfl hne

theorem Only.at_memRuns (hG : Sub (StateField.mask .memRuns) G) {w : _} (h : Only G s0 { t with memRuns := w }) : Only G s0 t := by
  refine ⟨h.1, fun p hp => ?_⟩
  have hne := Only.ne_field hG hp
  have hs := h.2 p hp
  cases p with
  | reg k => exact hs
  | field f => cases f <;> first | exact hs | exact absurd rfl hne

theorem Only.at_refusals (hG : Sub (StateField.mask .refusals) G) {w : _} (h : Only G s0 { t with refusals := w }) : Only G s0 t := by
  refine ⟨h.1, fun p hp => ?_⟩
  have hne := Only.ne_field hG hp
  have hs := h.2 p hp
  cases p with
  | reg k => exact hs
  | field f => cases f <;> first | exact hs | exact absurd rfl hne

theorem Only.at_accessing (hG : Sub (StateField.mask .accessing) G) {w : _} (h : Only G s0 { t with accessing := w }) : Only G s0 t := by
  refine ⟨h.1, fun p hp => ?_⟩
  have hne := Only.ne_field hG hp
  have hs := h.2 p hp
  cases p with
  | reg k => exact hs
  | field f => cases f <;> first | exact hs | exact absurd rfl hne

theorem Only.at_inj (hG : Sub (StateField.mask .inj) G) {w : _} (h : Only G s0 { t with inj := w }) : Only G s0 t := by
  refine ⟨h.1, fun p hp => ?_⟩
  have hne := Only.ne_field hG hp
  have hs := h.2 p hp
  cases p with
  | reg k => exact hs
  | field f => cases f <;> first | exact hs | exact absurd rfl hne

theorem Only.at_ember (hG : Sub (StateField.mask .ember) G) {w : _} (h : Only G s0 { t with ember := w }) : Only G s0 t := by
  refine ⟨h.1, fun p hp => ?_⟩
  have hne := Only.ne_field hG hp
  have hs := h.2 p hp
  cases p with
  | reg k => exact hs
  | field f => cases f <;> first | exact hs | exact absurd rfl hne

theorem Only.at_repairMap (hG : Sub (StateField.mask .repairMap) G) {w : _} (h : Only G s0 { t with repairMap := w }) : Only G s0 t := by
  refine ⟨h.1, fun p hp => ?_⟩
  have hne := Only.ne_field hG hp
  have hs := h.2 p hp
  cases p with
  | reg k => exact hs
  | field f => cases f <;> first | exact hs | exact absurd rfl hne

theorem Only.at_retiring (hG : Sub (StateField.mask .retiring) G) {w : _} (h : Only G s0 { t with retiring := w }) : Only G s0 t := by
  refine ⟨h.1, fun p hp => ?_⟩
  have hne := Only.ne_field hG hp
  have hs := h.2 p hp
  cases p with
  | reg k => exact hs
  | field f => cases f <;> first | exact hs | exact absurd rfl hne

theorem Only.at_timPeers (hG : Sub (StateField.mask .timPeers) G) {w : _} (h : Only G s0 { t with timPeers := w }) : Only G s0 t := by
  refine ⟨h.1, fun p hp => ?_⟩
  have hne := Only.ne_field hG hp
  have hs := h.2 p hp
  cases p with
  | reg k => exact hs
  | field f => cases f <;> first | exact hs | exact absurd rfl hne

theorem Only.at_servo (hG : Sub (StateField.mask .servo) G) {w : _} (h : Only G s0 { t with servo := w }) : Only G s0 t := by
  refine ⟨h.1, fun p hp => ?_⟩
  have hne := Only.ne_field hG hp
  have hs := h.2 p hp
  cases p with
  | reg k => exact hs
  | field f => cases f <;> first | exact hs | exact absurd rfl hne

theorem Only.at_ptpBest (hG : Sub (StateField.mask .ptpBest) G) {w : _} (h : Only G s0 { t with ptpBest := w }) : Only G s0 t := by
  refine ⟨h.1, fun p hp => ?_⟩
  have hne := Only.ne_field hG hp
  have hs := h.2 p hp
  cases p with
  | reg k => exact hs
  | field f => cases f <;> first | exact hs | exact absurd rfl hne

theorem Only.at_ptpAt (hG : Sub (StateField.mask .ptpAt) G) {w : _} (h : Only G s0 { t with ptpAt := w }) : Only G s0 t := by
  refine ⟨h.1, fun p hp => ?_⟩
  have hne := Only.ne_field hG hp
  have hs := h.2 p hp
  cases p with
  | reg k => exact hs
  | field f => cases f <;> first | exact hs | exact absurd rfl hne

theorem Only.at_ppsUntil (hG : Sub (StateField.mask .ppsUntil) G) {w : _} (h : Only G s0 { t with ppsUntil := w }) : Only G s0 t := by
  refine ⟨h.1, fun p hp => ?_⟩
  have hne := Only.ne_field hG hp
  have hs := h.2 p hp
  cases p with
  | reg k => exact hs
  | field f => cases f <;> first | exact hs | exact absurd rfl hne

theorem Only.at_tel (hG : Sub (StateField.mask .tel) G) {w : _} (h : Only G s0 { t with tel := w }) : Only G s0 t := by
  refine ⟨h.1, fun p hp => ?_⟩
  have hne := Only.ne_field hG hp
  have hs := h.2 p hp
  cases p with
  | reg k => exact hs
  | field f => cases f <;> first | exact hs | exact absurd rfl hne

theorem Only.at_throttleNs (hG : Sub (StateField.mask .throttleNs) G) {w : _} (h : Only G s0 { t with throttleNs := w }) : Only G s0 t := by
  refine ⟨h.1, fun p hp => ?_⟩
  have hne := Only.ne_field hG hp
  have hs := h.2 p hp
  cases p with
  | reg k => exact hs
  | field f => cases f <;> first | exact hs | exact absurd rfl hne

theorem Only.at_throttleAt (hG : Sub (StateField.mask .throttleAt) G) {w : _} (h : Only G s0 { t with throttleAt := w }) : Only G s0 t := by
  refine ⟨h.1, fun p hp => ?_⟩
  have hne := Only.ne_field hG hp
  have hs := h.2 p hp
  cases p with
  | reg k => exact hs
  | field f => cases f <;> first | exact hs | exact absurd rfl hne

theorem Only.at_trcDue (hG : Sub (StateField.mask .trcDue) G) {w : _} (h : Only G s0 { t with trcDue := w }) : Only G s0 t := by
  refine ⟨h.1, fun p hp => ?_⟩
  have hne := Only.ne_field hG hp
  have hs := h.2 p hp
  cases p with
  | reg k => exact hs
  | field f => cases f <;> first | exact hs | exact absurd rfl hne

theorem Only.at_trcSeq (hG : Sub (StateField.mask .trcSeq) G) {w : _} (h : Only G s0 { t with trcSeq := w }) : Only G s0 t := by
  refine ⟨h.1, fun p hp => ?_⟩
  have hne := Only.ne_field hG hp
  have hs := h.2 p hp
  cases p with
  | reg k => exact hs
  | field f => cases f <;> first | exact hs | exact absurd rfl hne

theorem Only.at_trcDrop (hG : Sub (StateField.mask .trcDrop) G) {w : _} (h : Only G s0 { t with trcDrop := w }) : Only G s0 t := by
  refine ⟨h.1, fun p hp => ?_⟩
  have hne := Only.ne_field hG hp
  have hs := h.2 p hp
  cases p with
  | reg k => exact hs
  | field f => cases f <;> first | exact hs | exact absurd rfl hne

theorem Only.at_slots (hG : Sub (StateField.mask .slots) G) {w : _} (h : Only G s0 { t with slots := w }) : Only G s0 t := by
  refine ⟨h.1, fun p hp => ?_⟩
  have hne := Only.ne_field hG hp
  have hs := h.2 p hp
  cases p with
  | reg k => exact hs
  | field f => cases f <;> first | exact hs | exact absurd rfl hne

theorem Only.at_clkLost (hG : Sub (StateField.mask .clkLost) G) {w : _} (h : Only G s0 { t with clkLost := w }) : Only G s0 t := by
  refine ⟨h.1, fun p hp => ?_⟩
  have hne := Only.ne_field hG hp
  have hs := h.2 p hp
  cases p with
  | reg k => exact hs
  | field f => cases f <;> first | exact hs | exact absurd rfl hne

theorem Only.set_accesses (hG : Sub 0x8000000000000000000000000000000000000000000000000000000000000000000000000000000000 G) {w0 : _} (h : Only G s0 s) :
    Only G s0 { s with accesses := w0 } :=
  Only.at_accesses (hG.of rfl) h

theorem Only.set_accessing (hG : Sub 0x4000000000000000000000000000000000000000000000000000000000000000000000000000000000000000000 G) {w0 : _} (h : Only G s0 s) :
    Only G s0 { s with accessing := w0 } :=
  Only.at_accessing (hG.of rfl) h

theorem Only.set_bands (hG : Sub 0x100000000000000000000000000000000000000000000000000000000000000000000000000 G) {w0 : _} (h : Only G s0 s) :
    Only G s0 { s with bands := w0 } :=
  Only.at_bands (hG.of rfl) h

theorem Only.set_biDecoder (hG : Sub 0x1000000000000000000000000000000000000000000000000000000000000000000000 G) {w0 : _} (h : Only G s0 s) :
    Only G s0 { s with biDecoder := w0 } :=
  Only.at_biDecoder (hG.of rfl) h

theorem Only.set_bindRun (hG : Sub 0x4000000000000000000000000000000000000000000000000000000000000000000000000000 G) {w0 : _} (h : Only G s0 s) :
    Only G s0 { s with bindRun := w0 } :=
  Only.at_bindRun (hG.of rfl) h

theorem Only.set_blocks (hG : Sub 0x800000000000000000000000000000000000000000000000000000000000000000 G) {w0 : _} (h : Only G s0 s) :
    Only G s0 { s with blocks := w0 } :=
  Only.at_blocks (hG.of rfl) h

theorem Only.set_bootKey (hG : Sub 0x2000000000000000000000000000000000000000000000000000000000000000000000000000000000000000 G) {w0 : _} (h : Only G s0 s) :
    Only G s0 { s with bootKey := w0 } :=
  Only.at_bootKey (hG.of rfl) h

theorem Only.set_buckets (hG : Sub 0x200000000000000000000000000000000000000000000000000000000000000000000000000 G) {w0 : _} (h : Only G s0 s) :
    Only G s0 { s with buckets := w0 } :=
  Only.at_buckets (hG.of rfl) h

theorem Only.set_caidWait (hG : Sub 0x800000000000000000000000000000000000000000000000000000000000000000000000000000000 G) {w0 : _} (h : Only G s0 s) :
    Only G s0 { s with caidWait := w0 } :=
  Only.at_caidWait (hG.of rfl) h

theorem Only.set_checked (hG : Sub 0x100000000000000000000000000000000000000000000000000000000000000000000000000000000000000 G) {w0 : _} (h : Only G s0 s) :
    Only G s0 { s with checked := w0 } :=
  Only.at_checked (hG.of rfl) h

theorem Only.set_claims (hG : Sub 0x200000000000000000000000000000000000000000000000000000000000000000000000000000000000000000 G) {w0 : _} (h : Only G s0 s) :
    Only G s0 { s with claims := w0 } :=
  Only.at_claims (hG.of rfl) h

theorem Only.set_clk (hG : Sub 0x20000000000000000000000000000000000000000000000000000000000000000 G) {w0 : _} (h : Only G s0 s) :
    Only G s0 { s with clk := w0 } :=
  Only.at_clk (hG.of rfl) h

theorem Only.set_clkLost (hG : Sub 0x80000000000000000000000000000000000000000000000000000000000000000000000000000000000000000000000 G) {w0 : _} (h : Only G s0 s) :
    Only G s0 { s with clkLost := w0 } :=
  Only.at_clkLost (hG.of rfl) h

theorem Only.set_clusters (hG : Sub 0x200000000000000000000000000000000000000000000000000000000000000000000000000000000000 G) {w0 : _} (h : Only G s0 s) :
    Only G s0 { s with clusters := w0 } :=
  Only.at_clusters (hG.of rfl) h

theorem Only.set_commitWait (hG : Sub 0x1000000000000000000000000000000000000000000000000000000000000000000000000000000 G) {w0 : _} (h : Only G s0 s) :
    Only G s0 { s with commitWait := w0 } :=
  Only.at_commitWait (hG.of rfl) h

theorem Only.set_crQueue (hG : Sub 0x800000000000000000000000000000000000000000000000000000000000000000000000 G) {w0 : _} (h : Only G s0 s) :
    Only G s0 { s with crQueue := w0 } :=
  Only.at_crQueue (hG.of rfl) h

theorem Only.set_cxlHandle (hG : Sub 0x40000000000000000000000000000000000000000000000000000000000000000000 G) {w0 : _} (h : Only G s0 s) :
    Only G s0 { s with cxlHandle := w0 } :=
  Only.at_cxlHandle (hG.of rfl) h

theorem Only.set_cxlLog (hG : Sub 0x20000000000000000000000000000000000000000000000000000000000000000000 G) {w0 : _} (h : Only G s0 s) :
    Only G s0 { s with cxlLog := w0 } :=
  Only.at_cxlLog (hG.of rfl) h

theorem Only.set_dcAdds (hG : Sub 0x80000000000000000000000000000000000000000000000000000000000000000000 G) {w0 : _} (h : Only G s0 s) :
    Only G s0 { s with dcAdds := w0 } :=
  Only.at_dcAdds (hG.of rfl) h

theorem Only.set_dcRegion (hG : Sub 0x400000000000000000000000000000000000000000000000000000000000000000000 G) {w0 : _} (h : Only G s0 s) :
    Only G s0 { s with dcRegion := w0 } :=
  Only.at_dcRegion (hG.of rfl) h

theorem Only.set_dcReleases (hG : Sub 0x100000000000000000000000000000000000000000000000000000000000000000000 G) {w0 : _} (h : Only G s0 s) :
    Only G s0 { s with dcReleases := w0 } :=
  Only.at_dcReleases (hG.of rfl) h

theorem Only.set_dcSanitize (hG : Sub 0x800000000000000000000000000000000000000000000000000000000000000000000 G) {w0 : _} (h : Only G s0 s) :
    Only G s0 { s with dcSanitize := w0 } :=
  Only.at_dcSanitize (hG.of rfl) h

theorem Only.set_decodeQ (hG : Sub 0x4000000000000000000000000000000000000000000000000000000000000000000000 G) {w0 : _} (h : Only G s0 s) :
    Only G s0 { s with decodeQ := w0 } :=
  Only.at_decodeQ (hG.of rfl) h

theorem Only.set_decoders (hG : Sub 0x800000000000000000000000000000000000000000000000000000000000000000000000000000 G) {w0 : _} (h : Only G s0 s) :
    Only G s0 { s with decoders := w0 } :=
  Only.at_decoders (hG.of rfl) h

theorem Only.set_denials (hG : Sub 0x8000000000000000000000000000000000000000000000000000000000000000000000000000000 G) {w0 : _} (h : Only G s0 s) :
    Only G s0 { s with denials := w0 } :=
  Only.at_denials (hG.of rfl) h

theorem Only.set_dirCache (hG : Sub 0x10000000000000000000000000000000000000000000000000000000000000000000000000000000 G) {w0 : _} (h : Only G s0 s) :
    Only G s0 { s with dirCache := w0 } :=
  Only.at_dirCache (hG.of rfl) h

theorem Only.set_drainPhase (hG : Sub 0x10000000000000000000000000000000000000000000000000000000000000000000000000000000000 G) {w0 : _} (h : Only G s0 s) :
    Only G s0 { s with drainPhase := w0 } :=
  Only.at_drainPhase (hG.of rfl) h

theorem Only.set_drains (hG : Sub 0x20000000000000000000000000000000000000000000000000000000000000000000000000000000000 G) {w0 : _} (h : Only G s0 s) :
    Only G s0 { s with drains := w0 } :=
  Only.at_drains (hG.of rfl) h

theorem Only.set_ember (hG : Sub 0x10000000000000000000000000000000000000000000000000000000000000000000000000000000000000000000 G) {w0 : _} (h : Only G s0 s) :
    Only G s0 { s with ember := w0 } :=
  Only.at_ember (hG.of rfl) h

theorem Only.set_engines (hG : Sub 0x100000000000000000000000000000000000000000000000000000000000000000000000000000000000 G) {w0 : _} (h : Only G s0 s) :
    Only G s0 { s with engines := w0 } :=
  Only.at_engines (hG.of rfl) h

theorem Only.set_evtSent (hG : Sub 0x800000000000000000000000000000000000000000000000000000000000000000000000000000000000000000 G) {w0 : _} (h : Only G s0 s) :
    Only G s0 { s with evtSent := w0 } :=
  Only.at_evtSent (hG.of rfl) h

theorem Only.set_fab (hG : Sub 0x800000000000000000000000000000000000000000000000000000000000000000000000000000000000 G) {w0 : _} (h : Only G s0 s) :
    Only G s0 { s with fab := w0 } :=
  Only.at_fab (hG.of rfl) h

theorem Only.set_fabFlight (hG : Sub 0x8000000000000000000000000000000000000000000000000000000000000000000000000000000000000 G) {w0 : _} (h : Only G s0 s) :
    Only G s0 { s with fabFlight := w0 } :=
  Only.at_fabFlight (hG.of rfl) h

theorem Only.set_fabHeld (hG : Sub 0x10000000000000000000000000000000000000000000000000000000000000000000000000000000000000 G) {w0 : _} (h : Only G s0 s) :
    Only G s0 { s with fabHeld := w0 } :=
  Only.at_fabHeld (hG.of rfl) h

theorem Only.set_fabIn (hG : Sub 0x1000000000000000000000000000000000000000000000000000000000000000000000000000000000000 G) {w0 : _} (h : Only G s0 s) :
    Only G s0 { s with fabIn := w0 } :=
  Only.at_fabIn (hG.of rfl) h

theorem Only.set_fabPath (hG : Sub 0x4000000000000000000000000000000000000000000000000000000000000000000000000000000000000 G) {w0 : _} (h : Only G s0 s) :
    Only G s0 { s with fabPath := w0 } :=
  Only.at_fabPath (hG.of rfl) h

theorem Only.set_fillDue (hG : Sub 0x200000000000000000000000000000000000000000000000000000000000000000000 G) {w0 : _} (h : Only G s0 s) :
    Only G s0 { s with fillDue := w0 } :=
  Only.at_fillDue (hG.of rfl) h

theorem Only.set_fmReq (hG : Sub 0x10000000000000000000000000000000000000000000000000000000000000000000 G) {w0 : _} (h : Only G s0 s) :
    Only G s0 { s with fmReq := w0 } :=
  Only.at_fmReq (hG.of rfl) h

theorem Only.set_freeCtr (hG : Sub 0x80000000000000000000000000000000000000000000000000000000000000000 G) {w0 : _} (h : Only G s0 s) :
    Only G s0 { s with freeCtr := w0 } :=
  Only.at_freeCtr (hG.of rfl) h

theorem Only.set_fuses (hG : Sub 0x80000000000000000000000000000000000000000000000000000000000000000000000000000000000000 G) {w0 : _} (h : Only G s0 s) :
    Only G s0 { s with fuses := w0 } :=
  Only.at_fuses (hG.of rfl) h

theorem Only.set_fwVersion (hG : Sub 0x400000000000000000000000000000000000000000000000000000000000000000000000000000000000 G) {w0 : _} (h : Only G s0 s) :
    Only G s0 { s with fwVersion := w0 } :=
  Only.at_fwVersion (hG.of rfl) h

theorem Only.set_gateDrops (hG : Sub 0x20000000000000000000000000000000000000000000000000000000000000000000000000 G) {w0 : _} (h : Only G s0 s) :
    Only G s0 { s with gateDrops := w0 } :=
  Only.at_gateDrops (hG.of rfl) h

theorem Only.set_hbmEcc (hG : Sub 0x400000000000000000000000000000000000000000000000000000000000000000 G) {w0 : _} (h : Only G s0 s) :
    Only G s0 { s with hbmEcc := w0 } :=
  Only.at_hbmEcc (hG.of rfl) h

theorem Only.set_hbmReady (hG : Sub 0x4000000000000000000000000000000000000000000000000000000000000000000000000000000000000000 G) {w0 : _} (h : Only G s0 s) :
    Only G s0 { s with hbmReady := w0 } :=
  Only.at_hbmReady (hG.of rfl) h

theorem Only.set_holdFull (hG : Sub 0x800000000000000000000000000000000000000000000000000000000000000000000000000 G) {w0 : _} (h : Only G s0 s) :
    Only G s0 { s with holdFull := w0 } :=
  Only.at_holdFull (hG.of rfl) h

theorem Only.set_holdQ (hG : Sub 0x400000000000000000000000000000000000000000000000000000000000000000000000000 G) {w0 : _} (h : Only G s0 s) :
    Only G s0 { s with holdQ := w0 } :=
  Only.at_holdQ (hG.of rfl) h

theorem Only.set_homeHolds (hG : Sub 0x100000000000000000000000000000000000000000000000000000000000000000000000000000000 G) {w0 : _} (h : Only G s0 s) :
    Only G s0 { s with homeHolds := w0 } :=
  Only.at_homeHolds (hG.of rfl) h

theorem Only.set_hot (hG : Sub 0x80000000000000000000000000000000000000000000000000000000000000000000000000000000000 G) {w0 : _} (h : Only G s0 s) :
    Only G s0 { s with hot := w0 } :=
  Only.at_hot (hG.of rfl) h

theorem Only.set_idKey (hG : Sub 0x1000000000000000000000000000000000000000000000000000000000000000000000000000000000000000 G) {w0 : _} (h : Only G s0 s) :
    Only G s0 { s with idKey := w0 } :=
  Only.at_idKey (hG.of rfl) h

theorem Only.set_ideKeys (hG : Sub 0x2000000000000000000000000000000000000000000000000000000000000000000000000000000 G) {w0 : _} (h : Only G s0 s) :
    Only G s0 { s with ideKeys := w0 } :=
  Only.at_ideKeys (hG.of rfl) h

theorem Only.set_imgCtx (hG : Sub 0x20000000000000000000000000000000000000000000000000000000000000000000000000000000000000000 G) {w0 : _} (h : Only G s0 s) :
    Only G s0 { s with imgCtx := w0 } :=
  Only.at_imgCtx (hG.of rfl) h

theorem Only.set_imgLater (hG : Sub 0x80000000000000000000000000000000000000000000000000000000000000000000000000000000000000000 G) {w0 : _} (h : Only G s0 s) :
    Only G s0 { s with imgLater := w0 } :=
  Only.at_imgLater (hG.of rfl) h

theorem Only.set_imgRun (hG : Sub 0x200000000000000000000000000000000000000000000000000000000000000000000000000000000000000 G) {w0 : _} (h : Only G s0 s) :
    Only G s0 { s with imgRun := w0 } :=
  Only.at_imgRun (hG.of rfl) h

theorem Only.set_inflight (hG : Sub 0x1000000000000000000000000000000000000000000000000000000000000000000000000 G) {w0 : _} (h : Only G s0 s) :
    Only G s0 { s with inflight := w0 } :=
  Only.at_inflight (hG.of rfl) h

theorem Only.set_inj (hG : Sub 0x8000000000000000000000000000000000000000000000000000000000000000000000000000000000000000000 G) {w0 : _} (h : Only G s0 s) :
    Only G s0 { s with inj := w0 } :=
  Only.at_inj (hG.of rfl) h

theorem Only.set_keyRun (hG : Sub 0x400000000000000000000000000000000000000000000000000000000000000000000000000000000000000 G) {w0 : _} (h : Only G s0 s) :
    Only G s0 { s with keyRun := w0 } :=
  Only.at_keyRun (hG.of rfl) h

theorem Only.set_l2Cache (hG : Sub 0x200000000000000000000000000000000000000000000000000000000000000000000000000000 G) {w0 : _} (h : Only G s0 s) :
    Only G s0 { s with l2Cache := w0 } :=
  Only.at_l2Cache (hG.of rfl) h

theorem Only.set_leaseAt (hG : Sub 0x400000000000000000000000000000000000000000000000000000000000000000000000000000000000000000 G) {w0 : _} (h : Only G s0 s) :
    Only G s0 { s with leaseAt := w0 } :=
  Only.at_leaseAt (hG.of rfl) h

theorem Only.set_ledger (hG : Sub 0x400000000000000000000000000000000000000000000000000000000000000000000000 G) {w0 : _} (h : Only G s0 s) :
    Only G s0 { s with ledger := w0 } :=
  Only.at_ledger (hG.of rfl) h

theorem Only.set_margins (hG : Sub 0x80000000000000000000000000000000000000000000000000000000000000000000000000 G) {w0 : _} (h : Only G s0 s) :
    Only G s0 { s with margins := w0 } :=
  Only.at_margins (hG.of rfl) h

theorem Only.set_marks (hG : Sub 0x1000000000000000000000000000000000000000000000000000000000000000000000000000 G) {w0 : _} (h : Only G s0 s) :
    Only G s0 { s with marks := w0 } :=
  Only.at_marks (hG.of rfl) h

theorem Only.set_memRuns (hG : Sub 0x1000000000000000000000000000000000000000000000000000000000000000000000000000000000000000000 G) {w0 : _} (h : Only G s0 s) :
    Only G s0 { s with memRuns := w0 } :=
  Only.at_memRuns (hG.of rfl) h

theorem Only.set_migHeld (hG : Sub 0x4000000000000000000000000000000000000000000000000000000000000000000000000000000000 G) {w0 : _} (h : Only G s0 s) :
    Only G s0 { s with migHeld := w0 } :=
  Only.at_migHeld (hG.of rfl) h

theorem Only.set_migMaps (hG : Sub 0x2000000000000000000000000000000000000000000000000000000000000000000000000000000000 G) {w0 : _} (h : Only G s0 s) :
    Only G s0 { s with migMaps := w0 } :=
  Only.at_migMaps (hG.of rfl) h

theorem Only.set_migWait (hG : Sub 0x1000000000000000000000000000000000000000000000000000000000000000000000000000000000 G) {w0 : _} (h : Only G s0 s) :
    Only G s0 { s with migWait := w0 } :=
  Only.at_migWait (hG.of rfl) h

theorem Only.set_migs (hG : Sub 0x40000000000000000000000000000000000000000000000000000000000000000000000000000000000 G) {w0 : _} (h : Only G s0 s) :
    Only G s0 { s with migs := w0 } :=
  Only.at_migs (hG.of rfl) h

theorem Only.set_mir (hG : Sub 0x8000000000000000000000000000000000000000000000000000000000000000000000000 G) {w0 : _} (h : Only G s0 s) :
    Only G s0 { s with mir := w0 } :=
  Only.at_mir (hG.of rfl) h

theorem Only.set_ni (hG : Sub 0x100000000000000000000000000000000000000000000000000000000000000000000000 G) {w0 : _} (h : Only G s0 s) :
    Only G s0 { s with ni := w0 } :=
  Only.at_ni (hG.of rfl) h

theorem Only.set_out (hG : Sub 0x100000000000000000000000000000000000000000000000000000000000000000 G) {w0 : _} (h : Only G s0 s) :
    Only G s0 { s with out := w0 } :=
  Only.at_out (hG.of rfl) h

theorem Only.set_outst (hG : Sub 0x2000000000000000000000000000000000000000000000000000000000000000000000 G) {w0 : _} (h : Only G s0 s) :
    Only G s0 { s with outst := w0 } :=
  Only.at_outst (hG.of rfl) h

theorem Only.set_partials (hG : Sub 0x4000000000000000000000000000000000000000000000000000000000000000000 G) {w0 : _} (h : Only G s0 s) :
    Only G s0 { s with partials := w0 } :=
  Only.at_partials (hG.of rfl) h

theorem Only.set_pendingId (hG : Sub 0x800000000000000000000000000000000000000000000000000000000000000000000000000000000000000 G) {w0 : _} (h : Only G s0 s) :
    Only G s0 { s with pendingId := w0 } :=
  Only.at_pendingId (hG.of rfl) h

theorem Only.set_phase (hG : Sub 0x10000000000000000000000000000000000000000000000000000000000000000 G) {w0 : _} (h : Only G s0 s) :
    Only G s0 { s with phase := w0 } :=
  Only.at_phase (hG.of rfl) h

theorem Only.set_portHold (hG : Sub 0x8000000000000000000000000000000000000000000000000000000000000000000000 G) {w0 : _} (h : Only G s0 s) :
    Only G s0 { s with portHold := w0 } :=
  Only.at_portHold (hG.of rfl) h

theorem Only.set_ports (hG : Sub 0x2000000000000000000000000000000000000000000000000000000000000000000 G) {w0 : _} (h : Only G s0 s) :
    Only G s0 { s with ports := w0 } :=
  Only.at_ports (hG.of rfl) h

theorem Only.set_ppsUntil (hG : Sub 0x800000000000000000000000000000000000000000000000000000000000000000000000000000000000000000000 G) {w0 : _} (h : Only G s0 s) :
    Only G s0 { s with ppsUntil := w0 } :=
  Only.at_ppsUntil (hG.of rfl) h

theorem Only.set_prb (hG : Sub 0x4000000000000000000000000000000000000000000000000000000000000000000000000 G) {w0 : _} (h : Only G s0 s) :
    Only G s0 { s with prb := w0 } :=
  Only.at_prb (hG.of rfl) h

theorem Only.set_prbs (hG : Sub 0x1000000000000000000000000000000000000000000000000000000000000000000 G) {w0 : _} (h : Only G s0 s) :
    Only G s0 { s with prbs := w0 } :=
  Only.at_prbs (hG.of rfl) h

theorem Only.set_ptpAt (hG : Sub 0x400000000000000000000000000000000000000000000000000000000000000000000000000000000000000000000 G) {w0 : _} (h : Only G s0 s) :
    Only G s0 { s with ptpAt := w0 } :=
  Only.at_ptpAt (hG.of rfl) h

theorem Only.set_ptpBest (hG : Sub 0x200000000000000000000000000000000000000000000000000000000000000000000000000000000000000000000 G) {w0 : _} (h : Only G s0 s) :
    Only G s0 { s with ptpBest := w0 } :=
  Only.at_ptpBest (hG.of rfl) h

theorem Only.set_refusals (hG : Sub 0x2000000000000000000000000000000000000000000000000000000000000000000000000000000000000000000 G) {w0 : _} (h : Only G s0 s) :
    Only G s0 { s with refusals := w0 } :=
  Only.at_refusals (hG.of rfl) h

theorem Only.set_reloadDue (hG : Sub 0x40000000000000000000000000000000000000000000000000000000000000000000000000000000000000000 G) {w0 : _} (h : Only G s0 s) :
    Only G s0 { s with reloadDue := w0 } :=
  Only.at_reloadDue (hG.of rfl) h

theorem Only.set_rep (hG : Sub 0x10000000000000000000000000000000000000000000000000000000000000000000000000000 G) {w0 : _} (h : Only G s0 s) :
    Only G s0 { s with rep := w0 } :=
  Only.at_rep (hG.of rfl) h

theorem Only.set_repEcc (hG : Sub 0x20000000000000000000000000000000000000000000000000000000000000000000000000000 G) {w0 : _} (h : Only G s0 s) :
    Only G s0 { s with repEcc := w0 } :=
  Only.at_repEcc (hG.of rfl) h

theorem Only.set_repairMap (hG : Sub 0x20000000000000000000000000000000000000000000000000000000000000000000000000000000000000000000 G) {w0 : _} (h : Only G s0 s) :
    Only G s0 { s with repairMap := w0 } :=
  Only.at_repairMap (hG.of rfl) h

theorem Only.set_resetBy (hG : Sub 0x10000000000000000000000000000000000000000000000000000000000000000000000000000000000000000 G) {w0 : _} (h : Only G s0 s) :
    Only G s0 { s with resetBy := w0 } :=
  Only.at_resetBy (hG.of rfl) h

theorem Only.set_resolved (hG : Sub 0x4000000000000000000000000000000000000000000000000000000000000000000000000000000 G) {w0 : _} (h : Only G s0 s) :
    Only G s0 { s with resolved := w0 } :=
  Only.at_resolved (hG.of rfl) h

theorem Only.set_retiring (hG : Sub 0x40000000000000000000000000000000000000000000000000000000000000000000000000000000000000000000 G) {w0 : _} (h : Only G s0 s) :
    Only G s0 { s with retiring := w0 } :=
  Only.at_retiring (hG.of rfl) h

theorem Only.set_rmpRun (hG : Sub 0x400000000000000000000000000000000000000000000000000000000000000000000000000000 G) {w0 : _} (h : Only G s0 s) :
    Only G s0 { s with rmpRun := w0 } :=
  Only.at_rmpRun (hG.of rfl) h

theorem Only.set_rtr (hG : Sub 0x2000000000000000000000000000000000000000000000000000000000000000000000000 G) {w0 : _} (h : Only G s0 s) :
    Only G s0 { s with rtr := w0 } :=
  Only.at_rtr (hG.of rfl) h

theorem Only.set_scrubAt (hG : Sub 0x100000000000000000000000000000000000000000000000000000000000000000000000000000 G) {w0 : _} (h : Only G s0 s) :
    Only G s0 { s with scrubAt := w0 } :=
  Only.at_scrubAt (hG.of rfl) h

theorem Only.set_servo (hG : Sub 0x100000000000000000000000000000000000000000000000000000000000000000000000000000000000000000000 G) {w0 : _} (h : Only G s0 s) :
    Only G s0 { s with servo := w0 } :=
  Only.at_servo (hG.of rfl) h

theorem Only.set_sess (hG : Sub 0x100000000000000000000000000000000000000000000000000000000000000000000000000000000000000000 G) {w0 : _} (h : Only G s0 s) :
    Only G s0 { s with sess := w0 } :=
  Only.at_sess (hG.of rfl) h

theorem Only.set_sfl (hG : Sub 0x80000000000000000000000000000000000000000000000000000000000000000000000 G) {w0 : _} (h : Only G s0 s) :
    Only G s0 { s with sfl := w0 } :=
  Only.at_sfl (hG.of rfl) h

theorem Only.set_sflLanes (hG : Sub 0x10000000000000000000000000000000000000000000000000000000000000000000000 G) {w0 : _} (h : Only G s0 s) :
    Only G s0 { s with sflLanes := w0 } :=
  Only.at_sflLanes (hG.of rfl) h

theorem Only.set_sflTrain (hG : Sub 0x40000000000000000000000000000000000000000000000000000000000000000000000 G) {w0 : _} (h : Only G s0 s) :
    Only G s0 { s with sflTrain := w0 } :=
  Only.at_sflTrain (hG.of rfl) h

theorem Only.set_sflTx (hG : Sub 0x20000000000000000000000000000000000000000000000000000000000000000000000 G) {w0 : _} (h : Only G s0 s) :
    Only G s0 { s with sflTx := w0 } :=
  Only.at_sflTx (hG.of rfl) h

theorem Only.set_slots (hG : Sub 0x40000000000000000000000000000000000000000000000000000000000000000000000000000000000000000000000 G) {w0 : _} (h : Only G s0 s) :
    Only G s0 { s with slots := w0 } :=
  Only.at_slots (hG.of rfl) h

theorem Only.set_spareUntil (hG : Sub 0x200000000000000000000000000000000000000000000000000000000000000000000000000000000 G) {w0 : _} (h : Only G s0 s) :
    Only G s0 { s with spareUntil := w0 } :=
  Only.at_spareUntil (hG.of rfl) h

theorem Only.set_staged (hG : Sub 0x8000000000000000000000000000000000000000000000000000000000000000000000000000000000000000 G) {w0 : _} (h : Only G s0 s) :
    Only G s0 { s with staged := w0 } :=
  Only.at_staged (hG.of rfl) h

theorem Only.set_stamps (hG : Sub 0x8000000000000000000000000000000000000000000000000000000000000000000000000000 G) {w0 : _} (h : Only G s0 s) :
    Only G s0 { s with stamps := w0 } :=
  Only.at_stamps (hG.of rfl) h

theorem Only.set_sweeping (hG : Sub 0x400000000000000000000000000000000000000000000000000000000000000000000000000000000 G) {w0 : _} (h : Only G s0 s) :
    Only G s0 { s with sweeping := w0 } :=
  Only.at_sweeping (hG.of rfl) h

theorem Only.set_tcs (hG : Sub 0x2000000000000000000000000000000000000000000000000000000000000000000000000000 G) {w0 : _} (h : Only G s0 s) :
    Only G s0 { s with tcs := w0 } :=
  Only.at_tcs (hG.of rfl) h

theorem Only.set_tel (hG : Sub 0x1000000000000000000000000000000000000000000000000000000000000000000000000000000000000000000000 G) {w0 : _} (h : Only G s0 s) :
    Only G s0 { s with tel := w0 } :=
  Only.at_tel (hG.of rfl) h

theorem Only.set_throttleAt (hG : Sub 0x4000000000000000000000000000000000000000000000000000000000000000000000000000000000000000000000 G) {w0 : _} (h : Only G s0 s) :
    Only G s0 { s with throttleAt := w0 } :=
  Only.at_throttleAt (hG.of rfl) h

theorem Only.set_throttleNs (hG : Sub 0x2000000000000000000000000000000000000000000000000000000000000000000000000000000000000000000000 G) {w0 : _} (h : Only G s0 s) :
    Only G s0 { s with throttleNs := w0 } :=
  Only.at_throttleNs (hG.of rfl) h

theorem Only.set_tim (hG : Sub 0x40000000000000000000000000000000000000000000000000000000000000000 G) {w0 : _} (h : Only G s0 s) :
    Only G s0 { s with tim := w0 } :=
  Only.at_tim (hG.of rfl) h

theorem Only.set_timPeers (hG : Sub 0x80000000000000000000000000000000000000000000000000000000000000000000000000000000000000000000 G) {w0 : _} (h : Only G s0 s) :
    Only G s0 { s with timPeers := w0 } :=
  Only.at_timPeers (hG.of rfl) h

theorem Only.set_transit (hG : Sub 0x2000000000000000000000000000000000000000000000000000000000000000000000000000000000000 G) {w0 : _} (h : Only G s0 s) :
    Only G s0 { s with transit := w0 } :=
  Only.at_transit (hG.of rfl) h

theorem Only.set_trcDrop (hG : Sub 0x20000000000000000000000000000000000000000000000000000000000000000000000000000000000000000000000 G) {w0 : _} (h : Only G s0 s) :
    Only G s0 { s with trcDrop := w0 } :=
  Only.at_trcDrop (hG.of rfl) h

theorem Only.set_trcDue (hG : Sub 0x8000000000000000000000000000000000000000000000000000000000000000000000000000000000000000000000 G) {w0 : _} (h : Only G s0 s) :
    Only G s0 { s with trcDue := w0 } :=
  Only.at_trcDue (hG.of rfl) h

theorem Only.set_trcSeq (hG : Sub 0x10000000000000000000000000000000000000000000000000000000000000000000000000000000000000000000000 G) {w0 : _} (h : Only G s0 s) :
    Only G s0 { s with trcSeq := w0 } :=
  Only.at_trcSeq (hG.of rfl) h

theorem Only.set_trkWait (hG : Sub 0x80000000000000000000000000000000000000000000000000000000000000000000000000000000 G) {w0 : _} (h : Only G s0 s) :
    Only G s0 { s with trkWait := w0 } :=
  Only.at_trkWait (hG.of rfl) h

theorem Only.set_txns (hG : Sub 0x20000000000000000000000000000000000000000000000000000000000000000000000000000000 G) {w0 : _} (h : Only G s0 s) :
    Only G s0 { s with txns := w0 } :=
  Only.at_txns (hG.of rfl) h

theorem Only.set_voq (hG : Sub 0x200000000000000000000000000000000000000000000000000000000000000000000000 G) {w0 : _} (h : Only G s0 s) :
    Only G s0 { s with voq := w0 } :=
  Only.at_voq (hG.of rfl) h

theorem Only.set_vppbs (hG : Sub 0x8000000000000000000000000000000000000000000000000000000000000000000 G) {w0 : _} (h : Only G s0 s) :
    Only G s0 { s with vppbs := w0 } :=
  Only.at_vppbs (hG.of rfl) h

theorem Only.set_wbuf (hG : Sub 0x40000000000000000000000000000000000000000000000000000000000000000000000000000000 G) {w0 : _} (h : Only G s0 s) :
    Only G s0 { s with wbuf := w0 } :=
  Only.at_wbuf (hG.of rfl) h

theorem Only.set_wear (hG : Sub 0x40000000000000000000000000000000000000000000000000000000000000000000000000 G) {w0 : _} (h : Only G s0 s) :
    Only G s0 { s with wear := w0 } :=
  Only.at_wear (hG.of rfl) h

theorem Only.set_wtag (hG : Sub 0x80000000000000000000000000000000000000000000000000000000000000000000000000000 G) {w0 : _} (h : Only G s0 s) :
    Only G s0 { s with wtag := w0 } :=
  Only.at_wtag (hG.of rfl) h

theorem Only.set_xing (hG : Sub 0x10000000000000000000000000000000000000000000000000000000000000000000000000 G) {w0 : _} (h : Only G s0 s) :
    Only G s0 { s with xing := w0 } :=
  Only.at_xing (hG.of rfl) h

theorem Only.set_biDecoder_decoders_commitWait_caidWait (hG : Sub 0x801800000001000000000000000000000000000000000000000000000000000000000000000000000 G) {w0 : _} {w1 : _} {w2 : _} {w3 : _} (h : Only G s0 s) :
    Only G s0 { s with biDecoder := w0, decoders := w1, commitWait := w2, caidWait := w3 } :=
  have h0 : Only G s0 { s with biDecoder := w0 } := Only.set_biDecoder (s := s) (hG.of rfl) h
  have h1 : Only G s0 { s with biDecoder := w0, decoders := w1 } := Only.set_decoders (s := { s with biDecoder := w0 }) (hG.of rfl) h0
  have h2 : Only G s0 { s with biDecoder := w0, decoders := w1, commitWait := w2 } := Only.set_commitWait (s := { s with biDecoder := w0, decoders := w1 }) (hG.of rfl) h1
  Only.set_caidWait (s := { s with biDecoder := w0, decoders := w1, commitWait := w2 }) (hG.of rfl) h2

theorem Only.set_claims_memRuns (hG : Sub 0x1200000000000000000000000000000000000000000000000000000000000000000000000000000000000000000 G) {w0 : _} {w1 : _} (h : Only G s0 s) :
    Only G s0 { s with claims := w0, memRuns := w1 } :=
  have h0 : Only G s0 { s with claims := w0 } := Only.set_claims (s := s) (hG.of rfl) h
  Only.set_memRuns (s := { s with claims := w0 }) (hG.of rfl) h0

theorem Only.set_cxlLog_cxlHandle (hG : Sub 0x60000000000000000000000000000000000000000000000000000000000000000000 G) {w0 : _} {w1 : _} (h : Only G s0 s) :
    Only G s0 { s with cxlLog := w0, cxlHandle := w1 } :=
  have h0 : Only G s0 { s with cxlLog := w0 } := Only.set_cxlLog (s := s) (hG.of rfl) h
  Only.set_cxlHandle (s := { s with cxlLog := w0 }) (hG.of rfl) h0

theorem Only.set_decodeQ_memRuns (hG : Sub 0x1000000000000000000004000000000000000000000000000000000000000000000000000000000000000000000 G) {w0 : _} {w1 : _} (h : Only G s0 s) :
    Only G s0 { s with decodeQ := w0, memRuns := w1 } :=
  have h0 : Only G s0 { s with decodeQ := w0 } := Only.set_decodeQ (s := s) (hG.of rfl) h
  Only.set_memRuns (s := { s with decodeQ := w0 }) (hG.of rfl) h0

theorem Only.set_decodeQ_resolved_denials (hG : Sub 0xc000000004000000000000000000000000000000000000000000000000000000000000000000000 G) {w0 : _} {w1 : _} {w2 : _} (h : Only G s0 s) :
    Only G s0 { s with decodeQ := w0, resolved := w1, denials := w2 } :=
  have h0 : Only G s0 { s with decodeQ := w0 } := Only.set_decodeQ (s := s) (hG.of rfl) h
  have h1 : Only G s0 { s with decodeQ := w0, resolved := w1 } := Only.set_resolved (s := { s with decodeQ := w0 }) (hG.of rfl) h0
  Only.set_denials (s := { s with decodeQ := w0, resolved := w1 }) (hG.of rfl) h1

theorem Only.set_drainPhase_drains (hG : Sub 0x30000000000000000000000000000000000000000000000000000000000000000000000000000000000 G) {w0 : _} {w1 : _} (h : Only G s0 s) :
    Only G s0 { s with drainPhase := w0, drains := w1 } :=
  have h0 : Only G s0 { s with drainPhase := w0 } := Only.set_drainPhase (s := s) (hG.of rfl) h
  Only.set_drains (s := { s with drainPhase := w0 }) (hG.of rfl) h0

theorem Only.set_fabFlight_fabHeld (hG : Sub 0x18000000000000000000000000000000000000000000000000000000000000000000000000000000000000 G) {w0 : _} {w1 : _} (h : Only G s0 s) :
    Only G s0 { s with fabFlight := w0, fabHeld := w1 } :=
  have h0 : Only G s0 { s with fabFlight := w0 } := Only.set_fabFlight (s := s) (hG.of rfl) h
  Only.set_fabHeld (s := { s with fabFlight := w0 }) (hG.of rfl) h0

theorem Only.set_hbm_repairMap (hG : Sub 0x20000000000000000000000000200000000000000000000000000000000000000000000000000000000000000000 G) {w0 : _} (h : Only G s0 s) :
    Only G s0 { s with hbm := [], repairMap := w0 } :=
  have h0 : Only G s0 { s with repairMap := w0 } := Only.set_repairMap (s := s) (hG.of rfl) h
  Only.of_hbm (s := { s with repairMap := w0 }) (hG.of rfl) (fun _ => rfl) h0

theorem Only.set_imgCtx_reloadDue_imgLater (hG : Sub 0xe0000000000000000000000000000000000000000000000000000000000000000000000000000000000000000 G) {w0 : _} {w1 : _} {w2 : _} (h : Only G s0 s) :
    Only G s0 { s with imgCtx := w0, reloadDue := w1, imgLater := w2 } :=
  have h0 : Only G s0 { s with imgCtx := w0 } := Only.set_imgCtx (s := s) (hG.of rfl) h
  have h1 : Only G s0 { s with imgCtx := w0, reloadDue := w1 } := Only.set_reloadDue (s := { s with imgCtx := w0 }) (hG.of rfl) h0
  Only.set_imgLater (s := { s with imgCtx := w0, reloadDue := w1 }) (hG.of rfl) h1

theorem Only.set_phase_clk_tim_resetBy (hG : Sub 0x10000000000000000000000070000000000000000000000000000000000000000000000000000000000000000 G) {w0 : _} {w1 : _} {w2 : _} {w3 : _} (h : Only G s0 s) :
    Only G s0 { s with phase := w0, clk := w1, tim := w2, resetBy := w3 } :=
  have h0 : Only G s0 { s with phase := w0 } := Only.set_phase (s := s) (hG.of rfl) h
  have h1 : Only G s0 { s with phase := w0, clk := w1 } := Only.set_clk (s := { s with phase := w0 }) (hG.of rfl) h0
  have h2 : Only G s0 { s with phase := w0, clk := w1, tim := w2 } := Only.set_tim (s := { s with phase := w0, clk := w1 }) (hG.of rfl) h1
  Only.set_resetBy (s := { s with phase := w0, clk := w1, tim := w2 }) (hG.of rfl) h2

theorem Only.set_phase_staged (hG : Sub 0x8000000000000000000000010000000000000000000000000000000000000000000000000000000000000000 G) {w0 : _} {w1 : _} (h : Only G s0 s) :
    Only G s0 { s with phase := w0, staged := w1 } :=
  have h0 : Only G s0 { s with phase := w0 } := Only.set_phase (s := s) (hG.of rfl) h
  Only.set_staged (s := { s with phase := w0 }) (hG.of rfl) h0

theorem Only.set_regs_partials_outst_decodeQ_portHold_voq_ledger_crQueue_inflight_rtr_xing_bindRun_l2Cache_resolved_denials_migMaps_migHeld_accesses_drains_hot_transit_fabHeld (hG : Sub 0x120ae00c204013e0e004000000000000000000000000000000000000000000000000000000000000000000 G) {k : RegKind} {f : Nat × Word → Bool} (hk : Sub k.mask G) (hf : ∀ e : Nat × Word, e.1 % 256 ≠ k.ctorIdx → f e = true) {w0 : _} {w1 : _} {w2 : _} {w3 : _} {w4 : _} {w5 : _} {w6 : _} {w7 : _} {w8 : _} {w9 : _} {w10 : _} {w11 : _} {w12 : _} {w13 : _} {w14 : _} {w15 : _} {w16 : _} {w17 : _} {w18 : _} {w19 : _} {w20 : _} (h : Only G s0 s) :
    Only G s0 { s with regs := s.regs.filter f, partials := w0, outst := w1, decodeQ := w2, portHold := w3, voq := w4, ledger := w5, crQueue := w6, inflight := w7, rtr := w8, xing := w9, bindRun := w10, l2Cache := w11, resolved := w12, denials := w13, migMaps := w14, migHeld := w15, accesses := w16, drains := w17, hot := w18, transit := w19, fabHeld := w20 } :=
  have h0 : Only G s0 { s with partials := w0 } := Only.set_partials (s := s) (hG.of rfl) h
  have h1 : Only G s0 { s with partials := w0, outst := w1 } := Only.set_outst (s := { s with partials := w0 }) (hG.of rfl) h0
  have h2 : Only G s0 { s with partials := w0, outst := w1, decodeQ := w2 } := Only.set_decodeQ (s := { s with partials := w0, outst := w1 }) (hG.of rfl) h1
  have h3 : Only G s0 { s with partials := w0, outst := w1, decodeQ := w2, portHold := w3 } := Only.set_portHold (s := { s with partials := w0, outst := w1, decodeQ := w2 }) (hG.of rfl) h2
  have h4 : Only G s0 { s with partials := w0, outst := w1, decodeQ := w2, portHold := w3, voq := w4 } := Only.set_voq (s := { s with partials := w0, outst := w1, decodeQ := w2, portHold := w3 }) (hG.of rfl) h3
  have h5 : Only G s0 { s with partials := w0, outst := w1, decodeQ := w2, portHold := w3, voq := w4, ledger := w5 } := Only.set_ledger (s := { s with partials := w0, outst := w1, decodeQ := w2, portHold := w3, voq := w4 }) (hG.of rfl) h4
  have h6 : Only G s0 { s with partials := w0, outst := w1, decodeQ := w2, portHold := w3, voq := w4, ledger := w5, crQueue := w6 } := Only.set_crQueue (s := { s with partials := w0, outst := w1, decodeQ := w2, portHold := w3, voq := w4, ledger := w5 }) (hG.of rfl) h5
  have h7 : Only G s0 { s with partials := w0, outst := w1, decodeQ := w2, portHold := w3, voq := w4, ledger := w5, crQueue := w6, inflight := w7 } := Only.set_inflight (s := { s with partials := w0, outst := w1, decodeQ := w2, portHold := w3, voq := w4, ledger := w5, crQueue := w6 }) (hG.of rfl) h6
  have h8 : Only G s0 { s with partials := w0, outst := w1, decodeQ := w2, portHold := w3, voq := w4, ledger := w5, crQueue := w6, inflight := w7, rtr := w8 } := Only.set_rtr (s := { s with partials := w0, outst := w1, decodeQ := w2, portHold := w3, voq := w4, ledger := w5, crQueue := w6, inflight := w7 }) (hG.of rfl) h7
  have h9 : Only G s0 { s with partials := w0, outst := w1, decodeQ := w2, portHold := w3, voq := w4, ledger := w5, crQueue := w6, inflight := w7, rtr := w8, xing := w9 } := Only.set_xing (s := { s with partials := w0, outst := w1, decodeQ := w2, portHold := w3, voq := w4, ledger := w5, crQueue := w6, inflight := w7, rtr := w8 }) (hG.of rfl) h8
  have h10 : Only G s0 { s with partials := w0, outst := w1, decodeQ := w2, portHold := w3, voq := w4, ledger := w5, crQueue := w6, inflight := w7, rtr := w8, xing := w9, bindRun := w10 } := Only.set_bindRun (s := { s with partials := w0, outst := w1, decodeQ := w2, portHold := w3, voq := w4, ledger := w5, crQueue := w6, inflight := w7, rtr := w8, xing := w9 }) (hG.of rfl) h9
  have h11 : Only G s0 { s with partials := w0, outst := w1, decodeQ := w2, portHold := w3, voq := w4, ledger := w5, crQueue := w6, inflight := w7, rtr := w8, xing := w9, bindRun := w10, l2Cache := w11 } := Only.set_l2Cache (s := { s with partials := w0, outst := w1, decodeQ := w2, portHold := w3, voq := w4, ledger := w5, crQueue := w6, inflight := w7, rtr := w8, xing := w9, bindRun := w10 }) (hG.of rfl) h10
  have h12 : Only G s0 { s with partials := w0, outst := w1, decodeQ := w2, portHold := w3, voq := w4, ledger := w5, crQueue := w6, inflight := w7, rtr := w8, xing := w9, bindRun := w10, l2Cache := w11, resolved := w12 } := Only.set_resolved (s := { s with partials := w0, outst := w1, decodeQ := w2, portHold := w3, voq := w4, ledger := w5, crQueue := w6, inflight := w7, rtr := w8, xing := w9, bindRun := w10, l2Cache := w11 }) (hG.of rfl) h11
  have h13 : Only G s0 { s with partials := w0, outst := w1, decodeQ := w2, portHold := w3, voq := w4, ledger := w5, crQueue := w6, inflight := w7, rtr := w8, xing := w9, bindRun := w10, l2Cache := w11, resolved := w12, denials := w13 } := Only.set_denials (s := { s with partials := w0, outst := w1, decodeQ := w2, portHold := w3, voq := w4, ledger := w5, crQueue := w6, inflight := w7, rtr := w8, xing := w9, bindRun := w10, l2Cache := w11, resolved := w12 }) (hG.of rfl) h12
  have h14 : Only G s0 { s with partials := w0, outst := w1, decodeQ := w2, portHold := w3, voq := w4, ledger := w5, crQueue := w6, inflight := w7, rtr := w8, xing := w9, bindRun := w10, l2Cache := w11, resolved := w12, denials := w13, migMaps := w14 } := Only.set_migMaps (s := { s with partials := w0, outst := w1, decodeQ := w2, portHold := w3, voq := w4, ledger := w5, crQueue := w6, inflight := w7, rtr := w8, xing := w9, bindRun := w10, l2Cache := w11, resolved := w12, denials := w13 }) (hG.of rfl) h13
  have h15 : Only G s0 { s with partials := w0, outst := w1, decodeQ := w2, portHold := w3, voq := w4, ledger := w5, crQueue := w6, inflight := w7, rtr := w8, xing := w9, bindRun := w10, l2Cache := w11, resolved := w12, denials := w13, migMaps := w14, migHeld := w15 } := Only.set_migHeld (s := { s with partials := w0, outst := w1, decodeQ := w2, portHold := w3, voq := w4, ledger := w5, crQueue := w6, inflight := w7, rtr := w8, xing := w9, bindRun := w10, l2Cache := w11, resolved := w12, denials := w13, migMaps := w14 }) (hG.of rfl) h14
  have h16 : Only G s0 { s with partials := w0, outst := w1, decodeQ := w2, portHold := w3, voq := w4, ledger := w5, crQueue := w6, inflight := w7, rtr := w8, xing := w9, bindRun := w10, l2Cache := w11, resolved := w12, denials := w13, migMaps := w14, migHeld := w15, accesses := w16 } := Only.set_accesses (s := { s with partials := w0, outst := w1, decodeQ := w2, portHold := w3, voq := w4, ledger := w5, crQueue := w6, inflight := w7, rtr := w8, xing := w9, bindRun := w10, l2Cache := w11, resolved := w12, denials := w13, migMaps := w14, migHeld := w15 }) (hG.of rfl) h15
  have h17 : Only G s0 { s with partials := w0, outst := w1, decodeQ := w2, portHold := w3, voq := w4, ledger := w5, crQueue := w6, inflight := w7, rtr := w8, xing := w9, bindRun := w10, l2Cache := w11, resolved := w12, denials := w13, migMaps := w14, migHeld := w15, accesses := w16, drains := w17 } := Only.set_drains (s := { s with partials := w0, outst := w1, decodeQ := w2, portHold := w3, voq := w4, ledger := w5, crQueue := w6, inflight := w7, rtr := w8, xing := w9, bindRun := w10, l2Cache := w11, resolved := w12, denials := w13, migMaps := w14, migHeld := w15, accesses := w16 }) (hG.of rfl) h16
  have h18 : Only G s0 { s with partials := w0, outst := w1, decodeQ := w2, portHold := w3, voq := w4, ledger := w5, crQueue := w6, inflight := w7, rtr := w8, xing := w9, bindRun := w10, l2Cache := w11, resolved := w12, denials := w13, migMaps := w14, migHeld := w15, accesses := w16, drains := w17, hot := w18 } := Only.set_hot (s := { s with partials := w0, outst := w1, decodeQ := w2, portHold := w3, voq := w4, ledger := w5, crQueue := w6, inflight := w7, rtr := w8, xing := w9, bindRun := w10, l2Cache := w11, resolved := w12, denials := w13, migMaps := w14, migHeld := w15, accesses := w16, drains := w17 }) (hG.of rfl) h17
  have h19 : Only G s0 { s with partials := w0, outst := w1, decodeQ := w2, portHold := w3, voq := w4, ledger := w5, crQueue := w6, inflight := w7, rtr := w8, xing := w9, bindRun := w10, l2Cache := w11, resolved := w12, denials := w13, migMaps := w14, migHeld := w15, accesses := w16, drains := w17, hot := w18, transit := w19 } := Only.set_transit (s := { s with partials := w0, outst := w1, decodeQ := w2, portHold := w3, voq := w4, ledger := w5, crQueue := w6, inflight := w7, rtr := w8, xing := w9, bindRun := w10, l2Cache := w11, resolved := w12, denials := w13, migMaps := w14, migHeld := w15, accesses := w16, drains := w17, hot := w18 }) (hG.of rfl) h18
  have h20 : Only G s0 { s with partials := w0, outst := w1, decodeQ := w2, portHold := w3, voq := w4, ledger := w5, crQueue := w6, inflight := w7, rtr := w8, xing := w9, bindRun := w10, l2Cache := w11, resolved := w12, denials := w13, migMaps := w14, migHeld := w15, accesses := w16, drains := w17, hot := w18, transit := w19, fabHeld := w20 } := Only.set_fabHeld (s := { s with partials := w0, outst := w1, decodeQ := w2, portHold := w3, voq := w4, ledger := w5, crQueue := w6, inflight := w7, rtr := w8, xing := w9, bindRun := w10, l2Cache := w11, resolved := w12, denials := w13, migMaps := w14, migHeld := w15, accesses := w16, drains := w17, hot := w18, transit := w19 }) (hG.of rfl) h19
  Only.of_regs_filter (s := { s with partials := w0, outst := w1, decodeQ := w2, portHold := w3, voq := w4, ledger := w5, crQueue := w6, inflight := w7, rtr := w8, xing := w9, bindRun := w10, l2Cache := w11, resolved := w12, denials := w13, migMaps := w14, migHeld := w15, accesses := w16, drains := w17, hot := w18, transit := w19, fabHeld := w20 }) hk hf h20

theorem Only.set_rep_repEcc (hG : Sub 0x30000000000000000000000000000000000000000000000000000000000000000000000000000 G) {w0 : _} {w1 : _} (h : Only G s0 s) :
    Only G s0 { s with rep := w0, repEcc := w1 } :=
  have h0 : Only G s0 { s with rep := w0 } := Only.set_rep (s := s) (hG.of rfl) h
  Only.set_repEcc (s := { s with rep := w0 }) (hG.of rfl) h0

theorem Only.set_rtr_xing (hG : Sub 0x12000000000000000000000000000000000000000000000000000000000000000000000000 G) {w0 : _} {w1 : _} (h : Only G s0 s) :
    Only G s0 { s with rtr := w0, xing := w1 } :=
  have h0 : Only G s0 { s with rtr := w0 } := Only.set_rtr (s := s) (hG.of rfl) h
  Only.set_xing (s := { s with rtr := w0 }) (hG.of rfl) h0

theorem Only.set_spareUntil_repairMap (hG : Sub 0x20000000000200000000000000000000000000000000000000000000000000000000000000000000000000000000 G) {w0 : _} {w1 : _} (h : Only G s0 s) :
    Only G s0 { s with spareUntil := w0, repairMap := w1 } :=
  have h0 : Only G s0 { s with spareUntil := w0 } := Only.set_spareUntil (s := s) (hG.of rfl) h
  Only.set_repairMap (s := { s with spareUntil := w0 }) (hG.of rfl) h0

theorem Only.set_throttleNs_throttleAt (hG : Sub 0x6000000000000000000000000000000000000000000000000000000000000000000000000000000000000000000000 G) {w0 : _} {w1 : _} (h : Only G s0 s) :
    Only G s0 { s with throttleNs := w0, throttleAt := w1 } :=
  have h0 : Only G s0 { s with throttleNs := w0 } := Only.set_throttleNs (s := s) (hG.of rfl) h
  Only.set_throttleAt (s := { s with throttleNs := w0 }) (hG.of rfl) h0

theorem Only.set_transit_fabPath_fabFlight (hG : Sub 0xe000000000000000000000000000000000000000000000000000000000000000000000000000000000000 G) {w0 : _} {w1 : _} {w2 : _} (h : Only G s0 s) :
    Only G s0 { s with transit := w0, fabPath := w1, fabFlight := w2 } :=
  have h0 : Only G s0 { s with transit := w0 } := Only.set_transit (s := s) (hG.of rfl) h
  have h1 : Only G s0 { s with transit := w0, fabPath := w1 } := Only.set_fabPath (s := { s with transit := w0 }) (hG.of rfl) h0
  Only.set_fabFlight (s := { s with transit := w0, fabPath := w1 }) (hG.of rfl) h1

theorem Only.set_trcSeq_trcDrop (hG : Sub 0x30000000000000000000000000000000000000000000000000000000000000000000000000000000000000000000000 G) {w0 : _} {w1 : _} (h : Only G s0 s) :
    Only G s0 { s with trcSeq := w0, trcDrop := w1 } :=
  have h0 : Only G s0 { s with trcSeq := w0 } := Only.set_trcSeq (s := s) (hG.of rfl) h
  Only.set_trcDrop (s := { s with trcSeq := w0 }) (hG.of rfl) h0

theorem Only.set_txns_trkWait (hG : Sub 0xa0000000000000000000000000000000000000000000000000000000000000000000000000000000 G) {w0 : _} {w1 : _} (h : Only G s0 s) :
    Only G s0 { s with txns := w0, trkWait := w1 } :=
  have h0 : Only G s0 { s with txns := w0 } := Only.set_txns (s := s) (hG.of rfl) h
  Only.set_trkWait (s := { s with txns := w0 }) (hG.of rfl) h0

theorem Only.set_txns_wbuf_trkWait (hG : Sub 0xe0000000000000000000000000000000000000000000000000000000000000000000000000000000 G) {w0 : _} {w1 : _} {w2 : _} (h : Only G s0 s) :
    Only G s0 { s with txns := w0, wbuf := w1, trkWait := w2 } :=
  have h0 : Only G s0 { s with txns := w0 } := Only.set_txns (s := s) (hG.of rfl) h
  have h1 : Only G s0 { s with txns := w0, wbuf := w1 } := Only.set_wbuf (s := { s with txns := w0 }) (hG.of rfl) h0
  Only.set_trkWait (s := { s with txns := w0, wbuf := w1 }) (hG.of rfl) h1

end Steps

end Sys2Proof.Machine
end

