-- ==== Sys2Proof/Laws/FrameOps.lean ====
section
/-! SUPPORT. The frame of each function of Machine/Ops.lean: the parts of the state that it may change, as a set of bits (StatePart.place), with the canonical form kept. -/

namespace Sys2Proof.Machine

variable {G : Nat} {s0 : State}

theorem State.count_only {s : State} {F : Fld} {i : Nat} {n : Nat} (hF : Sub F.mask G) (hS : Only G s0 s) :
    Only G s0 (State.count s F i n) := by
  unfold State.count
  exact State.set_only hF hS

theorem State.bump_only {s : State} {F : Fld} {i : Nat} (hF : Sub F.mask G) (hS : Only G s0 s) :
    Only G s0 (State.bump s F i) := by
  unfold State.bump
  exact State.set_only hF hS

theorem State.setBit_only {s : State} {F : Fld} {i : Nat} {j : Nat} {b : Bool} (hF : Sub F.mask G) (hS : Only G s0 s) :
    Only G s0 (State.setBit s F i j b) := by
  unfold State.setBit
  exact State.set_only hF hS

theorem State.emit_only {s : State} {o : Out} (hG : Sub 0x100000000000000000000000000000000000000000000000000000000000000000 G) (hS : Only G s0 s) :
    Only G s0 (State.emit s o) := by
  unfold State.emit
  exact Only.set_out (hG.of rfl) hS

theorem State.fresh_only {s : State} (hG : Sub 0x80000000000000000000000000000000000000000000000000000000000000000 G) (hS : Only G s0 s) :
    Only G s0 (State.fresh s) := by
  unfold State.fresh
  exact Only.set_freeCtr (hG.of rfl) hS

theorem State.resultStart_only {s : State} {valid : Fld} {i : Nat} (hvalid : Sub valid.mask G) (hS : Only G s0 s) :
    Only G s0 (State.resultStart s valid i) := by
  unfold State.resultStart
  exact State.set_only hvalid hS

theorem State.resultDone_only {s : State} {seq : Fld} {valid : Fld} {i : Nat} (hseq : Sub seq.mask G) (hvalid : Sub valid.mask G) (hS : Only G s0 s) :
    Only G s0 (State.resultDone s seq valid i) := by
  unfold State.resultDone
  refine State.set_only hvalid ?_
  exact State.bump_only hseq hS

theorem State.cntAdd_only {s : State} {i : Nat} {n : Nat} (hG : Sub 0x8000000000000000000000000000000000000000000000000 G) (hS : Only G s0 s) :
    Only G s0 (State.cntAdd s i n) := by
  unfold State.cntAdd
  extract_lets +onlyGivenNames -underBinder -merge v_1
  extract_lets +onlyGivenNames -underBinder -merge s_2
  have h3 : Only G s0 s_2 := by
    subst s_2
    exact State.set_only (hG.of rfl) hS
  try clear_value s_2
  refine Only.ite ?_ ?_
  · exact State.set_only (hG.of rfl) h3
  · exact h3

theorem State.tally_only {s : State} {ev : Nat} {r : Nat} {u : Nat} {chipU : Nat} {n : Nat} (hG : Sub 0x8000000000000000000000000000000000000000000000000 G) (hS : Only G s0 s) :
    Only G s0 (State.tally s ev r u chipU n) := by
  unfold State.tally
  refine Only.fold ?_ hS
  intro u1 y3 hu2
  try beta_reduce
  exact State.cntAdd_only (hG.of rfl) hu2

theorem State.tallyChip_only {s : State} {ev : Nat} {n : Nat} (hG : Sub 0x8000000000000000000000000000000000000000000000000 G) (hS : Only G s0 s) :
    Only G s0 (State.tallyChip s ev n) := by
  unfold State.tallyChip
  exact State.tally_only (hG.of rfl) hS

theorem State.tallyBlock_only {s : State} {ev : Nat} {b : Nat} {n : Nat} (hG : Sub 0x8000000000000000000000000000000000000000000000000 G) (hS : Only G s0 s) :
    Only G s0 (State.tallyBlock s ev b n) := by
  unfold State.tallyBlock
  exact State.tally_only (hG.of rfl) hS

theorem State.tallyPort_only {s : State} {ev : Nat} {p : Nat} {n : Nat} (hG : Sub 0x8000000000000000000000000000000000000000000000000 G) (hS : Only G s0 s) :
    Only G s0 (State.tallyPort s ev p n) := by
  unfold State.tallyPort
  exact State.tallyBlock_only (hG.of rfl) hS

theorem State.tallyPolicer_only {s : State} {ev : Nat} {p : Nat} {n : Nat} (hG : Sub 0x8000000000000000000000000000000000000000000000000 G) (hS : Only G s0 s) :
    Only G s0 (State.tallyPolicer s ev p n) := by
  unfold State.tallyPolicer
  exact State.tally_only (hG.of rfl) hS

theorem State.tallyEngine_only {s : State} {ev : Nat} {e : Nat} {n : Nat} (hG : Sub 0x8000000000000000000000000000000000000000000000000 G) (hS : Only G s0 s) :
    Only G s0 (State.tallyEngine s ev e n) := by
  unfold State.tallyEngine
  exact State.tally_only (hG.of rfl) hS

theorem State.fixed_only {s : State} {k : Nat} {r : Nat} {n : Nat} (hG : Sub 0x8000000000000000000000000000000000000000000000000 G) (hS : Only G s0 s) :
    Only G s0 (State.fixed s k r n) := by
  unfold State.fixed
  refine Only.ite ?_ ?_
  · exact hS
  · exact State.cntAdd_only (hG.of rfl) hS

theorem State.timeCycle_only {s : State} (hG : Sub 0x40000000000000000000000000000000000000000000000000000000000000000 G) (hS : Only G s0 s) :
    Only G s0 (State.timeCycle s) := by
  unfold State.timeCycle
  extract_lets +onlyGivenNames -underBinder -merge rate_1
  exact Only.set_tim (hG.of rfl) hS

theorem State.stallTick_only {s : State} (hG : Sub 0x2000000 G) (hS : Only G s0 s) :
    Only G s0 (State.stallTick s) := by
  unfold State.stallTick
  refine State.each_only ?_ hS
  intro y1 u2 hu3
  try beta_reduce
  exact State.count_only (hG.of rfl) hu3

theorem State.queueEvent_only {s : State} {ev : Nat} {cls : Nat} {detail : Nat} (hG : Sub 0x10000008000000000010000000000000000000000000000000000000 G) (hS : Only G s0 s) :
    Only G s0 (State.queueEvent s ev cls detail) := by
  unfold State.queueEvent
  extract_lets +onlyGivenNames -underBinder -merge free_1
  extract_lets +onlyGivenNames -underBinder -merge seq_2
  extract_lets +onlyGivenNames -underBinder -merge j_3
  extract_lets +onlyGivenNames -underBinder -merge t_4
  extract_lets +onlyGivenNames -underBinder -merge s_5
  have h6 : Only G s0 s_5 := by
    subst s_5
    exact State.setReg_only (hG.of rfl) hS
  try clear_value s_5
  extract_lets +onlyGivenNames -underBinder -merge s_7
  have h8 : Only G s0 s_7 := by
    subst s_7
    exact State.setReg_only (hG.of rfl) h6
  try clear_value s_7
  extract_lets +onlyGivenNames -underBinder -merge s_9
  have h10 : Only G s0 s_9 := by
    subst s_9
    exact State.setReg_only (hG.of rfl) h8
  try clear_value s_9
  extract_lets +onlyGivenNames -underBinder -merge s_11
  have h12 : Only G s0 s_11 := by
    subst s_11
    exact State.setReg_only (hG.of rfl) h10
  try clear_value s_11
  extract_lets +onlyGivenNames -underBinder -merge s_13
  have h14 : Only G s0 s_13 := by
    subst s_13
    exact State.set_only (hG.of rfl) h12
  try clear_value s_13
  refine Only.ite ?_ ?_
  · exact State.count_only (hG.of rfl) hS
  · refine State.tallyChip_only (hG.of rfl) ?_
    exact State.set_only (hG.of rfl) h14

theorem State.notice_only {s : State} {ev : Nat} {cls : Nat} {what : Nat} (hG : Sub 0x10000008000000000010000000000000000000000000000000000000 G) (hS : Only G s0 s) :
    Only G s0 (State.notice s ev cls what) := by
  unfold State.notice
  exact State.queueEvent_only (hG.of rfl) hS

theorem State.setActive_only {s : State} {ev : Nat} {b : Bool} (hG : Sub 0x400000000000000000000000000000000000000000 G) (hS : Only G s0 s) :
    Only G s0 (State.setActive s ev b) := by
  unfold State.setActive
  exact State.setBit_only (hG.of rfl) hS

theorem State.conditions_only {s : State} (hG : Sub 0x40000000000000000000000000000000000000 G) (hS : Only G s0 s) :
    Only G s0 (State.conditions s) := by
  unfold State.conditions
  extract_lets +onlyGivenNames -underBinder -merge st_1
  extract_lets +onlyGivenNames -underBinder -merge any_2
  extract_lets +onlyGivenNames -underBinder -merge s_3
  have h4 : Only G s0 s_3 := by
    subst s_3
    exact State.set_only (hG.of rfl) hS
  try clear_value s_3
  extract_lets +onlyGivenNames -underBinder -merge s_5
  have h6 : Only G s0 s_5 := by
    subst s_5
    exact State.set_only (hG.of rfl) h4
  try clear_value s_5
  extract_lets +onlyGivenNames -underBinder -merge s_7
  have h8 : Only G s0 s_7 := by
    subst s_7
    exact State.set_only (hG.of rfl) h6
  try clear_value s_7
  extract_lets +onlyGivenNames -underBinder -merge s_9
  have h10 : Only G s0 s_9 := by
    subst s_9
    exact State.set_only (hG.of rfl) h8
  try clear_value s_9
  exact State.set_only (hG.of rfl) h10

theorem State.updMode_only {s : State} (hG : Sub 0x10000008000000000050000000000000000000000000000000000000 G) (hS : Only G s0 s) :
    Only G s0 (State.updMode s) := by
  unfold State.updMode
  extract_lets +onlyGivenNames -underBinder -merge s_1
  have h2 : Only G s0 s_1 := by
    subst s_1
    exact State.conditions_only (hG.of rfl) hS
  try clear_value s_1
  refine Only.ite ?_ ?_
  · exact hS
  · refine Only.ite ?_ ?_
    · exact h2
    · refine State.notice_only (hG.of rfl) ?_
      refine State.count_only (hG.of rfl) ?_
      exact State.set_only (hG.of rfl) h2

theorem State.updFaultN_only {s : State} (hG : Sub 0x20000000000000000000000000000000000000000 G) (hS : Only G s0 s) :
    Only G s0 (State.updFaultN s) := by
  unfold State.updFaultN
  exact State.set_only (hG.of rfl) hS

theorem State.refuse_only {s : State} {addr : Nat} {size : Nat} {write : Bool} {session : Nat} (hG : Sub 0x2000000000000000000000000000000000010000008000000000010000000000000000000000000000000000008 G) (hS : Only G s0 s) :
    Only G s0 (State.refuse s addr size write session) := by
  unfold State.refuse
  extract_lets +onlyGivenNames -underBinder -merge s_1
  have h2 : Only G s0 s_1 := by
    subst s_1
    exact Only.set_refusals (hG.of rfl) hS
  try clear_value s_1
  extract_lets +onlyGivenNames -underBinder -merge s_3
  have h4 : Only G s0 s_3 := by
    subst s_3
    exact State.set_only (hG.of rfl) h2
  try clear_value s_3
  extract_lets +onlyGivenNames -underBinder -merge s_5
  have h6 : Only G s0 s_5 := by
    subst s_5
    exact State.set_only (hG.of rfl) h4
  try clear_value s_5
  extract_lets +onlyGivenNames -underBinder -merge s_7
  have h8 : Only G s0 s_7 := by
    subst s_7
    exact State.set_only (hG.of rfl) h6
  try clear_value s_7
  extract_lets +onlyGivenNames -underBinder -merge s_9
  have h10 : Only G s0 s_9 := by
    subst s_9
    exact State.set_only (hG.of rfl) h8
  try clear_value s_9
  extract_lets +onlyGivenNames -underBinder -merge s_11
  have h12 : Only G s0 s_11 := by
    subst s_11
    exact State.set_only (hG.of rfl) h10
  try clear_value s_11
  extract_lets +onlyGivenNames -underBinder -merge s_13
  have h14 : Only G s0 s_13 := by
    subst s_13
    exact State.set_only (hG.of rfl) h12
  try clear_value s_13
  refine Only.ite ?_ ?_
  · exact State.count_only (hG.of rfl) h2
  · exact State.notice_only (hG.of rfl) h14

theorem State.refuseWrite_only {s : State} {k : RegKind} {i : Nat} (hG : Sub 0x2000000000000000000000000000000000010000008000000000010000000000000000000000000000000000008 G) (hS : Only G s0 s) :
    Only G s0 (State.refuseWrite s k i) := by
  unfold State.refuseWrite
  split
  · exact State.refuse_only (hG.of rfl) hS
  · exact State.refuse_only (hG.of rfl) hS

theorem State.setSes_only {s : State} {n : Nat} {x : Session} (hG : Sub 0x100000000000000000000000000000000000000000000000000000000000000000000000000000000000000000 G) (hS : Only G s0 s) :
    Only G s0 (State.setSes s n x) := by
  unfold State.setSes
  exact Only.set_sess (hG.of rfl) hS

theorem State.respond_only {s : State} {n : Nat} {tag : Nat} {o : Out} (hG : Sub 0x100000000000000000000000100000000000000000000000000000000000000000000000000000000000000000 G) (hS : Only G s0 s) :
    Only G s0 (State.respond s n tag o) := by
  unfold State.respond
  extract_lets +onlyGivenNames -underBinder -merge __src_1
  refine State.emit_only (hG.of rfl) ?_
  exact State.setSes_only (hG.of rfl) hS

theorem State.reply_only {s : State} {n : Nat} {type : Nat} {tag : Nat} {st : WStatus} {param : Nat} {payload : List Byte} (hG : Sub 0x100000000000000000000000100000000000000000000000000000000000000000000000000000000000000000 G) (hS : Only G s0 s) :
    Only G s0 (State.reply s n type tag st param payload) := by
  unfold State.reply
  exact State.respond_only (hG.of rfl) hS

theorem State.memDone_only {s : State} {m : MemRun} (hG : Sub 0x1100000000000000000000000180000000000000000000000000000000000000000000000000000000000000000 G) (hS : Only G s0 s) :
    Only G s0 (State.memDone s m) := by
  unfold State.memDone
  extract_lets +onlyGivenNames -underBinder -merge s_1
  have h2 : Only G s0 s_1 := by
    subst s_1
    exact Only.set_memRuns (hG.of rfl) hS
  try clear_value s_1
  extract_lets +onlyGivenNames -underBinder -merge data_3
  extract_lets +onlyGivenNames -underBinder -merge type_4
  refine Only.ite ?_ ?_
  · split
    · exact State.reply_only (hG.of rfl) h2
    · refine State.fresh_only (hG.of rfl) ?_
      exact State.reply_only (hG.of rfl) h2
  · exact hS

theorem State.memPart_only {s : State} {ses : Nat} {tag : Nat} {part : Nat} {bytes : List Byte} {denied : Bool} (hG : Sub 0x1100000000000000000000000180000000000000000000000000000000000000000000000000000000000000000 G) (hS : Only G s0 s) :
    Only G s0 (State.memPart s ses tag part bytes denied) := by
  unfold State.memPart
  split
  · exact hS
  · extract_lets +onlyGivenNames -underBinder -merge n_1
    refine State.memDone_only (hG.of rfl) ?_
    exact Only.set_memRuns (hG.of rfl) hS

theorem State.memAnswer_only {s : State} {p : Pkt} (hG : Sub 0x1100000000000000000000000180000000000000000000000000000000000000000000000000000000000000000 G) (hS : Only G s0 s) :
    Only G s0 (State.memAnswer s p) := by
  unfold State.memAnswer
  refine Only.ite ?_ ?_
  · exact State.memPart_only (hG.of rfl) hS
  · exact hS

theorem State.memDenied_only {s : State} {q : MemReq} {failing : Option (List Nat)} (hG : Sub 0x1100000000000000000000000180000000000000000000000000000000000000000000000000000000000000000 G) (hS : Only G s0 s) :
    Only G s0 (State.memDenied s q failing) := by
  unfold State.memDenied
  split
  · split
    · exact hS
    · refine Only.fold ?_ hS
      intro u1 y3 hu2
      try beta_reduce
      exact State.memPart_only (hG.of rfl) hu2
  · exact hS

theorem State.accessDone_only {s : State} {f : Access → Bool} (hG : Sub 0x8000000000000000000000000000000000000000000000000000000000000000000000000000000000 G) (hS : Only G s0 s) :
    Only G s0 (State.accessDone s f) := by
  unfold State.accessDone
  exact Only.set_accesses (hG.of rfl) hS

theorem State.answerOver_only {s : State} {who : ReqSource → Bool} {tag : Nat} (hG : Sub 0x8000000000000000000000000000000000000000000000000000000000000000000000000000000000 G) (hS : Only G s0 s) :
    Only G s0 (State.answerOver s who tag) := by
  unfold State.answerOver
  exact State.accessDone_only (hG.of rfl) hS

theorem State.deny_only {s : State} {q : MemReq} {a : ReqAnswer} {failing : Option (List Nat)} {slag : Nat} (hG : Sub 0x1100000000008000000000000180000000000000000000000000000000000000000000000000000000000000000 G) (hS : Only G s0 s) :
    Only G s0 (State.deny s q a failing slag) := by
  unfold State.deny
  extract_lets +onlyGivenNames -underBinder -merge s_1
  have h2 : Only G s0 s_1 := by
    subst s_1
    refine State.memDenied_only (hG.of rfl) ?_
    exact State.emit_only (hG.of rfl) hS
  try clear_value s_1
  split
  · exact Only.set_denials (hG.of rfl) h2
  · exact h2

end Sys2Proof.Machine
end

