-- ==== Sys2Proof/Laws/FrameMemory.lean ====
section
/-! SUPPORT. The frame of each function of Machine/Memory.lean: the parts of the state that it may change, as a set of bits (StatePart.place), with the canonical form kept. -/

namespace Sys2Proof.Machine

variable {G : Nat} {s0 : State}

theorem State.setHbm64_only {s : State} {a : Nat} {w : Word} (hG : Sub 0x200000000000000000000000000000000000000000000000000000000000000000 G) (hS : Only G s0 s) :
    Only G s0 (State.setHbm64 s a w) := by
  unfold State.setHbm64
  exact State.writeHbm_only (hG.of rfl) hS

theorem State.hbmCount_only {s : State} {a : Nat} {write : Bool} (hG : Sub 0x8000000000000000000000000000000000000000000000000 G) (hS : Only G s0 s) :
    Only G s0 (State.hbmCount s a write) := by
  unfold State.hbmCount
  extract_lets +onlyGivenNames -underBinder -merge ch_1
  refine State.fixed_only (hG.of rfl) ?_
  exact State.tally_only (hG.of rfl) hS

end Sys2Proof.Machine
end

