-- ==== Sys2Proof/Laws/FrameHosts.lean ====
section
/-! SUPPORT. The frame of each function of Machine/Hosts.lean: the parts of the state that it may change, as a set of bits (StatePart.place), with the canonical form kept. -/

namespace Sys2Proof.Machine

variable {G : Nat} {s0 : State}

theorem State.setPort_only {s : State} {p : Nat} {x : PortState} (hG : Sub 0x2000000000000000000000000000000000000000000000000000000000000000000 G) (hS : Only G s0 s) :
    Only G s0 (State.setPort s p x) := by
  unfold State.setPort
  exact Only.set_ports (hG.of rfl) hS

theorem State.setBlock_only {s : State} {b : Nat} {x : BlockState} (hG : Sub 0x800000000000000000000000000000000000000000000000000000000000000000 G) (hS : Only G s0 s) :
    Only G s0 (State.setBlock s b x) := by
  unfold State.setBlock
  exact Only.set_blocks (hG.of rfl) hS

theorem State.setVppb_only {s : State} {v : Nat} {x : Vppb} (hG : Sub 0x8000000000000000000000000000000000000000000000000000000000000000000 G) (hS : Only G s0 s) :
    Only G s0 (State.setVppb s v x) := by
  unfold State.setVppb
  exact Only.set_vppbs (hG.of rfl) hS

theorem State.hotAdd_only {s : State} {v : Nat} (hG : Sub 0x8000000000000000000000000000000000000000000000000000000000000010000 G) (hS : Only G s0 s) :
    Only G s0 (State.hotAdd s v) := by
  unfold State.hotAdd
  extract_lets +onlyGivenNames -underBinder -merge __src_1
  extract_lets +onlyGivenNames -underBinder -merge s_2
  have h3 : Only G s0 s_2 := by
    subst s_2
    exact State.setVppb_only (hG.of rfl) hS
  try clear_value s_2
  exact State.set_only (hG.of rfl) h3

theorem State.setOp_only {s : State} {v : Nat} {op : Option BindOp} (hG : Sub 0x8000000000000000000000000000000000000000000000000000000000000010000 G) (hS : Only G s0 s) :
    Only G s0 (State.setOp s v op) := by
  unfold State.setOp
  extract_lets +onlyGivenNames -underBinder -merge __src_1
  refine State.set_only (hG.of rfl) ?_
  exact State.setVppb_only (hG.of rfl) hS

theorem State.surpriseRemoved_only {s : State} {v : Nat} (hG : Sub 0x8000000000000000000000000000000000000000000000000000000000000010000 G) (hS : Only G s0 s) :
    Only G s0 (State.surpriseRemoved s v) := by
  unfold State.surpriseRemoved
  extract_lets +onlyGivenNames -underBinder -merge x_1
  extract_lets +onlyGivenNames -underBinder -merge s_2
  have h3 : Only G s0 s_2 := by
    subst s_2
    exact State.setVppb_only (hG.of rfl) hS
  try clear_value s_2
  exact State.set_only (hG.of rfl) h3

theorem State.logCxl_only {s : State} {media : Bool} {vcs : Nat} {extents : List Nat} (hG : Sub 0x60000000000000000000000000000000000000000000000000000000000000000000 G) (hS : Only G s0 s) :
    Only G s0 (State.logCxl s media vcs extents) := by
  unfold State.logCxl
  exact Only.set_cxlLog_cxlHandle (hG.of rfl) hS

theorem State.mediaLost_only {s : State} {target : Nat → Bool} (hG : Sub 0x60000000000000000000000000000000000000000000000000000000000000000000 G) (hS : Only G s0 s) :
    Only G s0 (State.mediaLost s target) := by
  unfold State.mediaLost
  extract_lets +onlyGivenNames -underBinder -merge hit_1
  refine State.each_only ?_ hS
  intro y2 u3 hu4
  try beta_reduce
  exact State.logCxl_only (hG.of rfl) hu4

theorem State.carryAgent_only {s : State} {c : Nat} (hG : Sub 0x800000000000000000000000000000000000000000000000000000000000000000000000000000000000 G) (hS : Only G s0 s) :
    Only G s0 (State.carryAgent s c) := by
  unfold State.carryAgent
  extract_lets +onlyGivenNames -underBinder -merge __src_1
  refine Only.ite ?_ ?_
  · exact Only.set_fab (hG.of rfl) hS
  · exact hS

theorem State.agentGone_only {s : State} {c : Nat} (hG : Sub 0x800400000000000000000000000000000000000000000000000000000084000000000000000000000000 G) (hS : Only G s0 s) :
    Only G s0 (State.agentGone s c) := by
  unfold State.agentGone
  extract_lets +onlyGivenNames -underBinder -merge s_1
  have h2 : Only G s0 s_1 := by
    subst s_1
    exact State.set_only (hG.of rfl) hS
  try clear_value s_1
  extract_lets +onlyGivenNames -underBinder -merge s_3
  have h4 : Only G s0 s_3 := by
    subst s_3
    exact State.set_only (hG.of rfl) h2
  try clear_value s_3
  refine Only.ite ?_ ?_
  · exact hS
  · refine State.carryAgent_only (hG.of rfl) ?_
    exact Only.set_sweeping (hG.of rfl) h4

theorem State.targetLostAt_only {s : State} {v : Nat} (hG : Sub 0x8000000000000000000000000000000000000000000000000000000000000010000 G) (hS : Only G s0 s) :
    Only G s0 (State.targetLostAt s v) := by
  unfold State.targetLostAt
  split
  · refine Only.ite ?_ ?_
    · exact hS
    · exact State.surpriseRemoved_only (hG.of rfl) hS
  · exact State.surpriseRemoved_only (hG.of rfl) hS

theorem State.lostAtHosts_only {s : State} {p : Nat} (hG : Sub 0x800400000000000068000000000000000000000000000000000000000084000000000000000000010000 G) (hS : Only G s0 s) :
    Only G s0 (State.lostAtHosts s p) := by
  unfold State.lostAtHosts
  extract_lets +onlyGivenNames -underBinder -merge s_1
  have h2 : Only G s0 s_1 := by
    subst s_1
    refine State.each_only ?_ hS
    intro y3 u4 hu5
    try beta_reduce
    exact State.targetLostAt_only (hG.of rfl) hu5
  try clear_value s_1
  extract_lets +onlyGivenNames -underBinder -merge s_6
  have h7 : Only G s0 s_6 := by
    subst s_6
    refine Only.fold ?_ h2
    intro u8 y10 hu9
    try beta_reduce
    extract_lets +onlyGivenNames -underBinder -merge __src_12
    refine Only.ite ?_ ?_
    · exact State.setOp_only (hG.of rfl) hu9
    · exact hu9
  try clear_value s_6
  refine Only.ite ?_ ?_
  · exact State.mediaLost_only (hG.of rfl) h7
  · refine Only.ite ?_ ?_
    · refine State.each_only ?_ hS
      intro y13 u14 hu15
      try beta_reduce
      exact State.agentGone_only (hG.of rfl) hu15
    · exact hS

end Sys2Proof.Machine
end

