-- ==== Sys2Proof/Laws/FrameFence.lean ====
section
/-! SUPPORT. The frame of each function of Machine/Fence.lean: the parts of the state that it may change, as a set of bits (StatePart.place), with the canonical form kept. -/

namespace Sys2Proof.Machine

variable {G : Nat} {s0 : State}

theorem State.setNi_only {s : State} {n : Nat} {x : NiState} (hG : Sub 0x100000000000000000000000000000000000000000000000000000000000000000000000 G) (hS : Only G s0 s) :
    Only G s0 (State.setNi s n x) := by
  unfold State.setNi
  exact Only.set_ni (hG.of rfl) hS

theorem State.setTrain_only {s : State} {b : Nat} {x : SflTrain} (hG : Sub 0x40000000000000000000000000000000000000000000000000000000000000000000000 G) (hS : Only G s0 s) :
    Only G s0 (State.setTrain s b x) := by
  unfold State.setTrain
  exact Only.set_sflTrain (hG.of rfl) hS

theorem State.setLink_only {s : State} {b : Nat} {x : SflLink} (hG : Sub 0x80000000000000000000000000000000000000000000000000000000000000000000000 G) (hS : Only G s0 s) :
    Only G s0 (State.setLink s b x) := by
  unfold State.setLink
  exact Only.set_sfl (hG.of rfl) hS

theorem State.setSflLane_only {s : State} {b : Nat} {k : Nat} {x : SflLane} (hG : Sub 0x10000000000000000000000000000000000000000000000000000000000000000000000 G) (hS : Only G s0 s) :
    Only G s0 (State.setSflLane s b k x) := by
  unfold State.setSflLane
  exact Only.set_sflLanes (hG.of rfl) hS

theorem State.setLedger_only {s : State} {e : Nat} {src : Nat} {x : Ledger} (hG : Sub 0x400000000000000000000000000000000000000000000000000000000000000000000000 G) (hS : Only G s0 s) :
    Only G s0 (State.setLedger s e src x) := by
  unfold State.setLedger
  exact Only.set_ledger (hG.of rfl) hS

theorem State.restore_only {s : State} {e : Nat} {n : Nat} {flits : Nat} (hG : Sub 0x400000000000000000000000000000000000000000000000000000000000000000000000 G) (hS : Only G s0 s) :
    Only G s0 (State.restore s e n flits) := by
  unfold State.restore
  extract_lets +onlyGivenNames -underBinder -merge l_1
  extract_lets +onlyGivenNames -underBinder -merge a_2
  exact State.setLedger_only (hG.of rfl) hS

theorem State.creditBack_only {s : State} {p : Pkt} (hG : Sub 0x400000000000000000000000000000000000000000000000000000000000000000000000 G) (hS : Only G s0 s) :
    Only G s0 (State.creditBack s p) := by
  unfold State.creditBack
  refine Only.ite ?_ ?_
  · exact hS
  · exact State.restore_only (hG.of rfl) hS

theorem State.vacate_only {s : State} {n : Nat} {p : Pkt} (hG : Sub 0x800000000 G) (hS : Only G s0 s) :
    Only G s0 (State.vacate s n p) := by
  unfold State.vacate
  refine Only.ite ?_ ?_
  · exact hS
  · exact State.set_only (hG.of rfl) hS

theorem State.showQuench_only {s : State} {n : Nat} {b : Bool} (hG : Sub 0x200000000000 G) (hS : Only G s0 s) :
    Only G s0 (State.showQuench s n b) := by
  unfold State.showQuench
  extract_lets +onlyGivenNames -underBinder -merge r_1
  refine Only.ite ?_ ?_
  · exact State.setBit_only (hG.of rfl) hS
  · refine Only.ite ?_ ?_
    · exact State.setBit_only (hG.of rfl) hS
    · refine Only.ite ?_ ?_
      · exact State.set_only (hG.of rfl) hS
      · exact State.set_only (hG.of rfl) hS

theorem State.absorb_only {s : State} {n : Nat} {p : Pkt} {code : Nat} (hG : Sub 0x100000000000000000000000000000000000000000000000000000000000000000000000 G) (hS : Only G s0 s) :
    Only G s0 (State.absorb s n p code) := by
  unfold State.absorb
  extract_lets +onlyGivenNames -underBinder -merge x_1
  exact State.setNi_only (hG.of rfl) hS

theorem State.quench_only {s : State} {n : Nat} {t : Trigger} (hG : Sub 0x500000100000000010000008000000000010000000000000000000000000200800000000 G) (hS : Only G s0 s) :
    Only G s0 (State.quench s n t) := by
  unfold State.quench
  extract_lets +onlyGivenNames -underBinder -merge x_1
  extract_lets +onlyGivenNames -underBinder -merge s_2
  have h3 : Only G s0 s_2 := by
    subst s_2
    exact State.setNi_only (hG.of rfl) hS
  try clear_value s_2
  extract_lets +onlyGivenNames -underBinder -merge s_4
  have h5 : Only G s0 s_4 := by
    subst s_4
    refine Only.fold ?_ h3
    intro u6 y8 hu7
    try beta_reduce
    refine Only.ite ?_ ?_
    · exact hu7
    · refine State.creditBack_only (hG.of rfl) ?_
      exact State.vacate_only (hG.of rfl) hu7
  try clear_value s_4
  extract_lets +onlyGivenNames -underBinder -merge s_10
  have h11 : Only G s0 s_10 := by
    subst s_10
    exact State.showQuench_only (hG.of rfl) h5
  try clear_value s_10
  extract_lets +onlyGivenNames -underBinder -merge s_12
  have h13 : Only G s0 s_12 := by
    subst s_12
    exact State.emit_only (hG.of rfl) h11
  try clear_value s_12
  refine Only.ite ?_ ?_
  · exact State.notice_only (hG.of rfl) h13
  · refine Only.ite ?_ ?_
    · exact State.setNi_only (hG.of rfl) hS
    · refine State.notice_only (hG.of rfl) ?_
      exact State.setNi_only (hG.of rfl) hS

theorem State.dropTriggers_only {s : State} {n : Nat} {gone : Trigger → Bool} (hG : Sub 0x100000000000000000000000000000000000000000000000000000000000000000000000 G) (hS : Only G s0 s) :
    Only G s0 (State.dropTriggers s n gone) := by
  unfold State.dropTriggers
  extract_lets +onlyGivenNames -underBinder -merge x_1
  exact State.setNi_only (hG.of rfl) hS

theorem State.release_only {s : State} {n : Nat} (hG : Sub 0x100000100000000010000008000000000010000000000000000000000000200000000000 G) (hS : Only G s0 s) :
    Only G s0 (State.release s n) := by
  unfold State.release
  extract_lets +onlyGivenNames -underBinder -merge x_1
  extract_lets +onlyGivenNames -underBinder -merge s_2
  have h3 : Only G s0 s_2 := by
    subst s_2
    refine State.showQuench_only (hG.of rfl) ?_
    exact State.setNi_only (hG.of rfl) hS
  try clear_value s_2
  refine Only.ite ?_ ?_
  · refine State.notice_only (hG.of rfl) ?_
    exact State.emit_only (hG.of rfl) h3
  · exact hS

theorem State.portDown_only {s : State} {p : Nat} (hG : Sub 0x80040200000000006a000000000000000000000000000000000000000084000000000000000000018440 G) (hS : Only G s0 s) :
    Only G s0 (State.portDown s p) := by
  unfold State.portDown
  extract_lets +onlyGivenNames -underBinder -merge up_1
  extract_lets +onlyGivenNames -underBinder -merge s_2
  have h3 : Only G s0 s_2 := by
    subst s_2
    exact State.setPort_only (hG.of rfl) hS
  try clear_value s_2
  extract_lets +onlyGivenNames -underBinder -merge s_4
  have h5 : Only G s0 s_4 := by
    subst s_4
    exact State.set_only (hG.of rfl) h3
  try clear_value s_4
  extract_lets +onlyGivenNames -underBinder -merge s_6
  have h7 : Only G s0 s_6 := by
    subst s_6
    exact State.set_only (hG.of rfl) h5
  try clear_value s_6
  extract_lets +onlyGivenNames -underBinder -merge s_8
  have h9 : Only G s0 s_8 := by
    subst s_8
    exact State.set_only (hG.of rfl) h7
  try clear_value s_8
  extract_lets +onlyGivenNames -underBinder -merge s_10
  have h11 : Only G s0 s_10 := by
    subst s_10
    exact State.set_only (hG.of rfl) h9
  try clear_value s_10
  extract_lets +onlyGivenNames -underBinder -merge s_12
  have h13 : Only G s0 s_12 := by
    subst s_12
    exact State.set_only (hG.of rfl) h11
  try clear_value s_12
  extract_lets +onlyGivenNames -underBinder -merge s_14
  have h15 : Only G s0 s_14 := by
    subst s_14
    exact State.set_only (hG.of rfl) h13
  try clear_value s_14
  extract_lets +onlyGivenNames -underBinder -merge s_16
  have h17 : Only G s0 s_16 := by
    subst s_16
    exact State.set_only (hG.of rfl) h15
  try clear_value s_16
  extract_lets +onlyGivenNames -underBinder -merge s_18
  have h19 : Only G s0 s_18 := by
    subst s_18
    exact State.set_only (hG.of rfl) h17
  try clear_value s_18
  extract_lets +onlyGivenNames -underBinder -merge s_20
  have h21 : Only G s0 s_20 := by
    subst s_20
    exact Only.set_ideKeys (hG.of rfl) h19
  try clear_value s_20
  extract_lets +onlyGivenNames -underBinder -merge s_22
  have h23 : Only G s0 s_22 := by
    subst s_22
    refine State.each_only ?_ h21
    intro y24 u25 hu26
    try beta_reduce
    exact State.set_only (hG.of rfl) hu26
  try clear_value s_22
  refine Only.ite ?_ ?_
  · exact State.lostAtHosts_only (hG.of rfl) h23
  · exact h23

theorem State.sflLost_only {s : State} {b : Nat} (hG : Sub 0x100000000000000000000000000000000000000000000000000000000000000000000000 G) (hS : Only G s0 s) :
    Only G s0 (State.sflLost s b) := by
  unfold State.sflLost
  extract_lets +onlyGivenNames -underBinder -merge x_1
  exact State.setNi_only (hG.of rfl) hS

theorem State.endVc_only {s : State} {b : Nat} {v : Nat} (hG : Sub 0x1000000000000080000000000000000000000000000000000000000000000000000000001000000000000 G) (hS : Only G s0 s) :
    Only G s0 (State.endVc s b v) := by
  unfold State.endVc
  extract_lets +onlyGivenNames -underBinder -merge i_1
  extract_lets +onlyGivenNames -underBinder -merge x_2
  refine Only.ite ?_ ?_
  · exact State.setLink_only (hG.of rfl) hS
  · refine Only.ite ?_ ?_
    · refine State.count_only (hG.of rfl) ?_
      exact Only.set_fabIn (hG.of rfl) hS
    · exact Only.set_fabIn (hG.of rfl) hS

theorem State.sflDrop_only {s : State} {b : Nat} (hG : Sub 0x1000000000000080000000000000000000000000000000000000000000000000000000001000005000000 G) (hS : Only G s0 s) :
    Only G s0 (State.sflDrop s b) := by
  unfold State.sflDrop
  extract_lets +onlyGivenNames -underBinder -merge x_1
  extract_lets +onlyGivenNames -underBinder -merge s_2
  have h3 : Only G s0 s_2 := by
    subst s_2
    exact State.count_only (hG.of rfl) hS
  try clear_value s_2
  extract_lets +onlyGivenNames -underBinder -merge s_4
  have h5 : Only G s0 s_4 := by
    subst s_4
    exact State.set_only (hG.of rfl) h3
  try clear_value s_4
  extract_lets +onlyGivenNames -underBinder -merge s_6
  have h7 : Only G s0 s_6 := by
    subst s_6
    exact State.set_only (hG.of rfl) h5
  try clear_value s_6
  extract_lets +onlyGivenNames -underBinder -merge s_8
  have h9 : Only G s0 s_8 := by
    subst s_8
    exact State.set_only (hG.of rfl) h7
  try clear_value s_8
  extract_lets +onlyGivenNames -underBinder -merge s_10
  have h11 : Only G s0 s_10 := by
    subst s_10
    exact State.set_only (hG.of rfl) h9
  try clear_value s_10
  extract_lets +onlyGivenNames -underBinder -merge s_12
  have h13 : Only G s0 s_12 := by
    subst s_12
    exact State.set_only (hG.of rfl) h11
  try clear_value s_12
  extract_lets +onlyGivenNames -underBinder -merge __src_14
  extract_lets +onlyGivenNames -underBinder -merge s_15
  have h16 : Only G s0 s_15 := by
    subst s_15
    exact State.setLink_only (hG.of rfl) h13
  try clear_value s_15
  refine State.each_only ?_ h16
  intro y17 u18 hu19
  try beta_reduce
  exact State.endVc_only (hG.of rfl) hu19

theorem State.sflEnds_only {s : State} {b : Nat} (hG : Sub 0x100000000000000000000000000000000000000000000000000000000000000004000000 G) (hS : Only G s0 s) :
    Only G s0 (State.sflEnds s b) := by
  unfold State.sflEnds
  refine Only.ite ?_ ?_
  · refine State.sflLost_only (hG.of rfl) ?_
    exact State.count_only (hG.of rfl) hS
  · exact hS

theorem State.sflDown_only {s : State} {b : Nat} (hG : Sub 0x10000000000001f0000000000000000000000000000000000000000000000000000000001000005500000 G) (hS : Only G s0 s) :
    Only G s0 (State.sflDown s b) := by
  unfold State.sflDown
  extract_lets +onlyGivenNames -underBinder -merge s_1
  have h2 : Only G s0 s_1 := by
    subst s_1
    refine State.sflDrop_only (hG.of rfl) ?_
    exact State.sflEnds_only (hG.of rfl) hS
  try clear_value s_1
  extract_lets +onlyGivenNames -underBinder -merge s_3
  have h4 : Only G s0 s_3 := by
    subst s_3
    exact State.setTrain_only (hG.of rfl) h2
  try clear_value s_3
  extract_lets +onlyGivenNames -underBinder -merge s_5
  have h6 : Only G s0 s_5 := by
    subst s_5
    refine State.each_only ?_ h4
    intro y7 u8 hu9
    try beta_reduce
    refine State.each_only ?_ hu9
    intro y10 u11 hu12
    try beta_reduce
    extract_lets +onlyGivenNames -underBinder -merge u_13
    have h14 : Only G s0 u_13 := by
      subst u_13
      refine State.set_only (hG.of rfl) ?_
      exact State.setSflLane_only (hG.of rfl) hu12
    try clear_value u_13
    exact Only.set_sflTx (hG.of rfl) h14
  try clear_value s_5
  extract_lets +onlyGivenNames -underBinder -merge s_15
  have h16 : Only G s0 s_15 := by
    subst s_15
    refine State.set_only (hG.of rfl) ?_
    exact State.set_only (hG.of rfl) h6
  try clear_value s_15
  refine State.set_only (hG.of rfl) ?_
  exact State.set_only (hG.of rfl) h16

theorem State.blockSilent_only {s : State} {b : Nat} (hG : Sub 0x18004020000001f006a000000000000000000000000000000000000000084000000000001000005518440 G) (hS : Only G s0 s) :
    Only G s0 (State.blockSilent s b) := by
  unfold State.blockSilent
  extract_lets +onlyGivenNames -underBinder -merge s_1
  have h2 : Only G s0 s_1 := by
    subst s_1
    exact State.portDown_only (hG.of rfl) hS
  try clear_value s_1
  extract_lets +onlyGivenNames -underBinder -merge s_3
  have h4 : Only G s0 s_3 := by
    subst s_3
    exact State.portDown_only (hG.of rfl) h2
  try clear_value s_3
  refine Only.ite ?_ ?_
  · exact State.sflDown_only (hG.of rfl) h4
  · exact h4

theorem State.fenceCredits_only {s : State} {r : Nat} (hG : Sub 0x400000000000000000000000000000000000000000000000000000000000000800000000 G) (hS : Only G s0 s) :
    Only G s0 (State.fenceCredits s r) := by
  unfold State.fenceCredits
  extract_lets +onlyGivenNames -underBinder -merge mine_1
  extract_lets +onlyGivenNames -underBinder -merge back_2
  extract_lets +onlyGivenNames -underBinder -merge s_3
  have h4 : Only G s0 s_3 := by
    subst s_3
    refine State.each_only ?_ hS
    intro y5 u6 hu7
    try beta_reduce
    exact State.set_only (hG.of rfl) hu7
  try clear_value s_3
  exact Only.set_ledger (hG.of rfl) h4

theorem State.closeGate_only {s : State} {r : Nat} (hG : Sub 0x20000000000000000000000000000000000000001 G) (hS : Only G s0 s) :
    Only G s0 (State.closeGate s r) := by
  unfold State.closeGate
  refine State.setBit_only (hG.of rfl) ?_
  exact State.setBit_only (hG.of rfl) hS

theorem State.silence_only {s : State} {r : Nat} (hG : Sub 0x18004020000005f006a100000000010000008000000000010000000000084000000000001200805518440 G) (hS : Only G s0 s) :
    Only G s0 (State.silence s r) := by
  unfold State.silence
  extract_lets +onlyGivenNames -underBinder -merge s_1
  have h2 : Only G s0 s_1 := by
    subst s_1
    refine State.each_only ?_ hS
    intro y3 u4 hu5
    try beta_reduce
    exact State.quench_only (hG.of rfl) hu5
  try clear_value s_1
  extract_lets +onlyGivenNames -underBinder -merge s_6
  have h7 : Only G s0 s_6 := by
    subst s_6
    refine State.each_only ?_ h2
    intro y8 u9 hu10
    try beta_reduce
    exact State.blockSilent_only (hG.of rfl) hu10
  try clear_value s_6
  exact State.fenceCredits_only (hG.of rfl) h7

theorem State.loseMigrate_only {s : State} {j : Job} (hG : Sub 0x1000000000000000000000000000000000000000000000000000000000000000000000000000000000 G) (hS : Only G s0 s) :
    Only G s0 (State.loseMigrate s j) := by
  unfold State.loseMigrate
  refine Only.ite ?_ ?_
  · exact Only.set_migWait (hG.of rfl) hS
  · exact hS

theorem State.loseQueues_only {s : State} {r : Nat} (hG : Sub 0x301000000000000000000000000000000000000000000000000000010000000000000000000000000000 G) (hS : Only G s0 s) :
    Only G s0 (State.loseQueues s r) := by
  unfold State.loseQueues
  extract_lets +onlyGivenNames -underBinder -merge s_1
  have h2 : Only G s0 s_1 := by
    subst s_1
    refine State.each_only ?_ hS
    intro y3 u4 hu5
    try beta_reduce
    extract_lets +onlyGivenNames -underBinder -merge x_6
    extract_lets +onlyGivenNames -underBinder -merge t_7
    have h8 : Only G s0 t_7 := by
      subst t_7
      split
      · exact State.loseMigrate_only (hG.of rfl) hu5
      · exact hu5
    try clear_value t_7
    exact Only.set_engines (hG.of rfl) h8
  try clear_value s_1
  refine State.each_only ?_ h2
  intro y9 u10 hu11
  try beta_reduce
  extract_lets +onlyGivenNames -underBinder -merge c_12
  extract_lets +onlyGivenNames -underBinder -merge x_13
  extract_lets +onlyGivenNames -underBinder -merge t_14
  have h15 : Only G s0 t_14 := by
    subst t_14
    refine Only.fold ?_ hu11
    intro u16 y18 hu17
    try beta_reduce
    exact State.loseMigrate_only (hG.of rfl) hu17
  try clear_value t_14
  extract_lets +onlyGivenNames -underBinder -merge __src_20
  extract_lets +onlyGivenNames -underBinder -merge t_21
  have h22 : Only G s0 t_21 := by
    subst t_21
    exact Only.set_clusters (hG.of rfl) h15
  try clear_value t_21
  refine State.set_only (hG.of rfl) ?_
  exact State.set_only (hG.of rfl) h22

theorem State.chipFatal_only {s : State} {ev : Nat} (hG : Sub 0x1b014020000005f006a100000000010000008000000020050000000010084000000000001200805518441 G) (hS : Only G s0 s) :
    Only G s0 (State.chipFatal s ev) := by
  unfold State.chipFatal
  extract_lets +onlyGivenNames -underBinder -merge s_1
  have h2 : Only G s0 s_1 := by
    subst s_1
    exact State.set_only (hG.of rfl) hS
  try clear_value s_1
  extract_lets +onlyGivenNames -underBinder -merge s_3
  have h4 : Only G s0 s_3 := by
    subst s_3
    exact State.set_only (hG.of rfl) h2
  try clear_value s_3
  extract_lets +onlyGivenNames -underBinder -merge s_5
  have h6 : Only G s0 s_5 := by
    subst s_5
    exact State.set_only (hG.of rfl) h4
  try clear_value s_5
  extract_lets +onlyGivenNames -underBinder -merge s_7
  have h8 : Only G s0 s_7 := by
    subst s_7
    exact State.set_only (hG.of rfl) h6
  try clear_value s_7
  extract_lets +onlyGivenNames -underBinder -merge s_9
  have h10 : Only G s0 s_9 := by
    subst s_9
    refine State.each_only ?_ h8
    intro y11 u12 hu13
    try beta_reduce
    refine Only.ite ?_ ?_
    · refine State.loseQueues_only (hG.of rfl) ?_
      refine State.silence_only (hG.of rfl) ?_
      exact State.closeGate_only (hG.of rfl) hu13
    · exact hu13
  try clear_value s_9
  refine Only.ite ?_ ?_
  · exact hS
  · exact State.updFaultN_only (hG.of rfl) h10

theorem State.fence_only {s : State} {r : Nat} {ev : Nat} (hG : Sub 0x1b014020000005f006a100000000010000008000040020050000000010084000000000001200805518441 G) (hS : Only G s0 s) :
    Only G s0 (State.fence s r ev) := by
  unfold State.fence
  extract_lets +onlyGivenNames -underBinder -merge was_1
  extract_lets +onlyGivenNames -underBinder -merge s_2
  have h3 : Only G s0 s_2 := by
    subst s_2
    refine Only.ite ?_ ?_
    · exact hS
    · refine State.set_only (hG.of rfl) ?_
      exact State.set_only (hG.of rfl) hS
  try clear_value s_2
  extract_lets +onlyGivenNames -underBinder -merge s_4
  have h5 : Only G s0 s_4 := by
    subst s_4
    refine State.loseQueues_only (hG.of rfl) ?_
    refine State.silence_only (hG.of rfl) ?_
    exact State.closeGate_only (hG.of rfl) h3
  try clear_value s_4
  extract_lets +onlyGivenNames -underBinder -merge s_6
  have h7 : Only G s0 s_6 := by
    subst s_6
    exact State.set_only (hG.of rfl) h5
  try clear_value s_6
  extract_lets +onlyGivenNames -underBinder -merge s_8
  have h9 : Only G s0 s_8 := by
    subst s_8
    refine Only.ite ?_ ?_
    · exact State.notice_only (hG.of rfl) h7
    · exact h7
  try clear_value s_8
  refine Only.ite ?_ ?_
  · exact State.chipFatal_only (hG.of rfl) hS
  · refine Only.ite ?_ ?_
    · exact h3
    · refine State.updFaultN_only (hG.of rfl) ?_
      exact State.updMode_only (hG.of rfl) h9

theorem State.fatal_only {s : State} {ev : Nat} (hG : Sub 0x1b014020000005f006a100000000010000008000040020050000000010084000000000001200805518441 G) (hS : Only G s0 s) :
    Only G s0 (State.fatal s ev) := by
  unfold State.fatal
  refine Only.ite ?_ ?_
  · exact State.fence_only (hG.of rfl) hS
  · exact State.chipFatal_only (hG.of rfl) hS

theorem State.fillRecord_only {s : State} {c : Nat} {ev : Nat} {cls : Nat} {detail : Nat} {inj : Bool} (hG : Sub 0x3c0000000000000000000000000000000000000000 G) (hS : Only G s0 s) :
    Only G s0 (State.fillRecord s c ev cls detail inj) := by
  unfold State.fillRecord
  extract_lets +onlyGivenNames -underBinder -merge s_1
  have h2 : Only G s0 s_1 := by
    subst s_1
    exact State.set_only (hG.of rfl) hS
  try clear_value s_1
  extract_lets +onlyGivenNames -underBinder -merge s_3
  have h4 : Only G s0 s_3 := by
    subst s_3
    exact State.set_only (hG.of rfl) h2
  try clear_value s_3
  extract_lets +onlyGivenNames -underBinder -merge s_5
  have h6 : Only G s0 s_5 := by
    subst s_5
    exact State.set_only (hG.of rfl) h4
  try clear_value s_5
  extract_lets +onlyGivenNames -underBinder -merge s_7
  have h8 : Only G s0 s_7 := by
    subst s_7
    exact State.set_only (hG.of rfl) h6
  try clear_value s_7
  extract_lets +onlyGivenNames -underBinder -merge s_9
  have h10 : Only G s0 s_9 := by
    subst s_9
    exact State.set_only (hG.of rfl) h8
  try clear_value s_9
  extract_lets +onlyGivenNames -underBinder -merge s_11
  have h12 : Only G s0 s_11 := by
    subst s_11
    exact State.set_only (hG.of rfl) h10
  try clear_value s_11
  extract_lets +onlyGivenNames -underBinder -merge s_13
  have h14 : Only G s0 s_13 := by
    subst s_13
    exact State.set_only (hG.of rfl) h12
  try clear_value s_13
  extract_lets +onlyGivenNames -underBinder -merge s_15
  have h16 : Only G s0 s_15 := by
    subst s_15
    exact State.setReg_only (hG.of rfl) h14
  try clear_value s_15
  extract_lets +onlyGivenNames -underBinder -merge s_17
  have h18 : Only G s0 s_17 := by
    subst s_17
    exact State.setReg_only (hG.of rfl) h16
  try clear_value s_17
  exact State.set_only (hG.of rfl) h18

theorem State.recordCause_only {s : State} {ev : Nat} {cls : Nat} {detail : Nat} {inj : Bool} (hG : Sub 0x1b014020000005f006a1000000000100000080000403e0050000000010084000000000001200805518441 G) (hS : Only G s0 s) :
    Only G s0 (State.recordCause s ev cls detail inj) := by
  unfold State.recordCause
  extract_lets +onlyGivenNames -underBinder -merge c_1
  extract_lets +onlyGivenNames -underBinder -merge s_2
  have h3 : Only G s0 s_2 := by
    subst s_2
    refine State.queueEvent_only (hG.of rfl) ?_
    exact State.fillRecord_only (hG.of rfl) hS
  try clear_value s_2
  extract_lets +onlyGivenNames -underBinder -merge s_4
  have h5 : Only G s0 s_4 := by
    subst s_4
    exact State.count_only (hG.of rfl) hS
  try clear_value s_4
  extract_lets +onlyGivenNames -underBinder -merge s_6
  have h7 : Only G s0 s_6 := by
    subst s_6
    exact State.set_only (hG.of rfl) h5
  try clear_value s_6
  extract_lets +onlyGivenNames -underBinder -merge s_8
  have h9 : Only G s0 s_8 := by
    subst s_8
    exact State.set_only (hG.of rfl) h7
  try clear_value s_8
  extract_lets +onlyGivenNames -underBinder -merge s_10
  have h11 : Only G s0 s_10 := by
    subst s_10
    exact State.queueEvent_only (hG.of rfl) h9
  try clear_value s_10
  extract_lets +onlyGivenNames -underBinder -merge s_12
  have h13 : Only G s0 s_12 := by
    subst s_12
    exact State.count_only (hG.of rfl) hS
  try clear_value s_12
  extract_lets +onlyGivenNames -underBinder -merge s_14
  have h15 : Only G s0 s_14 := by
    subst s_14
    exact State.set_only (hG.of rfl) h13
  try clear_value s_14
  extract_lets +onlyGivenNames -underBinder -merge s_16
  have h17 : Only G s0 s_16 := by
    subst s_16
    exact State.set_only (hG.of rfl) h15
  try clear_value s_16
  extract_lets +onlyGivenNames -underBinder -merge s_18
  have h19 : Only G s0 s_18 := by
    subst s_18
    exact State.queueEvent_only (hG.of rfl) h17
  try clear_value s_18
  extract_lets +onlyGivenNames -underBinder -merge s_20
  have h21 : Only G s0 s_20 := by
    subst s_20
    refine Only.ite ?_ ?_
    · refine Only.ite ?_ ?_
      · exact State.fatal_only (hG.of rfl) h3
      · exact h3
    · refine Only.ite ?_ ?_
      · refine Only.ite ?_ ?_
        · refine Only.ite ?_ ?_
          · refine State.fence_only (hG.of rfl) ?_
            exact State.notice_only (hG.of rfl) h11
          · exact State.chipFatal_only (hG.of rfl) h11
        · exact h11
      · refine Only.ite ?_ ?_
        · exact State.fatal_only (hG.of rfl) h19
        · exact h19
  try clear_value s_20
  exact State.updFaultN_only (hG.of rfl) h21

theorem State.cause_only {s : State} {ev : Nat} {cls : Nat} {what : Nat} {inj : Bool} (hG : Sub 0x1b014020000005f006a1000000000100000080000403e0050000000010084000000000001200805518441 G) (hS : Only G s0 s) :
    Only G s0 (State.cause s ev cls what inj) := by
  unfold State.cause
  exact State.recordCause_only (hG.of rfl) hS

theorem State.unmet_only {s : State} {pool : Nat} (hG : Sub 0x10000008000008420050000000000000000000000000000000000000 G) (hS : Only G s0 s) :
    Only G s0 (State.unmet s pool) := by
  unfold State.unmet
  extract_lets +onlyGivenNames -underBinder -merge s_1
  have h2 : Only G s0 s_1 := by
    subst s_1
    exact State.set_only (hG.of rfl) hS
  try clear_value s_1
  refine Only.ite ?_ ?_
  · exact h2
  · refine State.updFaultN_only (hG.of rfl) ?_
    refine State.updMode_only (hG.of rfl) ?_
    refine State.setActive_only (hG.of rfl) ?_
    refine State.notice_only (hG.of rfl) ?_
    exact State.set_only (hG.of rfl) h2

end Sys2Proof.Machine
end

