-- ==== Sys2Proof/Laws/FrameTables.lean ====
section
/-! SUPPORT. The frame of each function of Machine/Tables.lean: the parts of the state that it may change, as a set of bits (StatePart.place), with the canonical form kept. -/

namespace Sys2Proof.Machine

variable {G : Nat} {s0 : State}

theorem State.putRep_only {s : State} {r : Nat} {copy : Nat} {k : RegKind} {i : Nat} {w : Word} (hG : Sub 0x30000000000000000000000000000000000000000000000000000000000000000000000000000 G) (hS : Only G s0 s) :
    Only G s0 (State.putRep s r copy k i w) := by
  unfold State.putRep
  exact Only.set_rep_repEcc (hG.of rfl) hS

theorem State.putCond_only {s : State} {r : Nat} {copy : Nat} {k : RegKind} {i : Nat} {c : Nat} (hG : Sub 0x20000000000000000000000000000000000000000000000000000000000000000000000000000 G) (hS : Only G s0 s) :
    Only G s0 (State.putCond s r copy k i c) := by
  unfold State.putCond
  exact Only.set_repEcc (hG.of rfl) hS

theorem State.loadEntry_only {s : State} {r : Nat} {ws : List ((RegKind × Nat) × Word)} (hG : Sub 0x30000000000000000000000000000000000000000000000000000000000000000000000000000 G) (hS : Only G s0 s) :
    Only G s0 (State.loadEntry s r ws) := by
  unfold State.loadEntry
  refine Only.fold ?_ hS
  intro u1 y3 hu2
  try beta_reduce
  refine State.putRep_only (hG.of rfl) ?_
  exact State.putRep_only (hG.of rfl) hu2

theorem State.nextTag_only {s : State} (hG : Sub 0x80000000000000000000000000000000000000000000000000000000000000000000000000000 G) (hS : Only G s0 s) :
    Only G s0 (State.nextTag s) := by
  unfold State.nextTag
  exact Only.set_wtag (hG.of rfl) hS

theorem State.writeEntry_only {s : State} {t : DupTable} {i : Nat} {f : State → State} (hG : Sub 0xb0000000000000000000000000000000000000000000000000000000048000000000200000000 G) (hf : (∀ x0, Only G s0 x0 → Only G s0 (f x0))) (hS : Only G s0 s) :
    Only G s0 (State.writeEntry s t i f) := by
  unfold State.writeEntry
  extract_lets +onlyGivenNames -underBinder -merge s_1
  have h2 : Only G s0 s_1 := by
    subst s_1
    refine State.nextTag_only (hG.of rfl) ?_
    exact hf _ hS
  try clear_value s_1
  extract_lets +onlyGivenNames -underBinder -merge s_3
  have h4 : Only G s0 s_3 := by
    subst s_3
    exact State.set_only (by cases t <;> exact hG.of rfl) h2
  try clear_value s_3
  extract_lets +onlyGivenNames -underBinder -merge ws_5
  refine State.each_only ?_ h4
  intro y6 u7 hu8
  try beta_reduce
  exact State.loadEntry_only (hG.of rfl) hu8

theorem State.reportRepair_only {s : State} {r : Nat} {t : DupTable} (hG : Sub 0x1b014020000005f006a1000000000100000080000403e0050000000010084001000000001200805518441 G) (hS : Only G s0 s) :
    Only G s0 (State.reportRepair s r t) := by
  unfold State.reportRepair
  extract_lets +onlyGivenNames -underBinder -merge s_1
  have h2 : Only G s0 s_1 := by
    subst s_1
    split
    · exact State.count_only (hG.of rfl) hS
    · exact State.count_only (hG.of rfl) hS
    · exact State.count_only (hG.of rfl) hS
  try clear_value s_1
  exact State.cause_only (hG.of rfl) h2

theorem State.correctCopy_only {s : State} {r : Nat} {copy : Nat} {t : DupTable} {i : Nat} (hG : Sub 0x1b014020200005f006a1000000000100000080000403e0050000000010084001000000001200805518441 G) (hS : Only G s0 s) :
    Only G s0 (State.correctCopy s r copy t i) := by
  unfold State.correctCopy
  extract_lets +onlyGivenNames -underBinder -merge s_1
  have h2 : Only G s0 s_1 := by
    subst s_1
    refine Only.fold ?_ hS
    intro u3 y5 hu4
    try beta_reduce
    exact State.putCond_only (hG.of rfl) hu4
  try clear_value s_1
  refine Only.ite ?_ ?_
  · exact State.reportRepair_only (hG.of rfl) h2
  · exact hS

theorem State.reloadEntry_only {s : State} {r : Nat} {t : DupTable} {i : Nat} (hG : Sub 0x1b014020b00005f006a1000000000100000080000403e0050000000010084001000000001200805518441 G) (hS : Only G s0 s) :
    Only G s0 (State.reloadEntry s r t i) := by
  unfold State.reloadEntry
  extract_lets +onlyGivenNames -underBinder -merge lock_1
  extract_lets +onlyGivenNames -underBinder -merge s_2
  have h3 : Only G s0 s_2 := by
    subst s_2
    exact State.nextTag_only (hG.of rfl) hS
  try clear_value s_2
  extract_lets +onlyGivenNames -underBinder -merge F_4
  extract_lets +onlyGivenNames -underBinder -merge ws_5
  extract_lets +onlyGivenNames -underBinder -merge s_6
  have h7 : Only G s0 s_6 := by
    subst s_6
    refine State.count_only (hG.of rfl) ?_
    exact State.loadEntry_only (hG.of rfl) h3
  try clear_value s_6
  refine Only.ite ?_ ?_
  · refine State.reportRepair_only (hG.of rfl) ?_
    exact State.loadEntry_only (hG.of rfl) hS
  · exact State.cause_only (hG.of rfl) h7

theorem State.repair_only {s : State} {r : Nat} {t : DupTable} {i : Nat} (hG : Sub 0x1b014020b00005f006a1000000000100000080000403e0050000000010084001000000001200805518441 G) (hS : Only G s0 s) :
    Only G s0 (State.repair s r t i) := by
  unfold State.repair
  extract_lets +onlyGivenNames -underBinder -merge s_1
  have h2 : Only G s0 s_1 := by
    subst s_1
    refine State.correctCopy_only (hG.of rfl) ?_
    exact State.correctCopy_only (hG.of rfl) hS
  try clear_value s_1
  extract_lets +onlyGivenNames -underBinder -merge badA_3
  extract_lets +onlyGivenNames -underBinder -merge badB_4
  extract_lets +onlyGivenNames -underBinder -merge a_5
  extract_lets +onlyGivenNames -underBinder -merge b_6
  extract_lets +onlyGivenNames -underBinder -merge ta_7
  extract_lets +onlyGivenNames -underBinder -merge tb_8
  refine Only.ite ?_ ?_
  · exact State.reloadEntry_only (hG.of rfl) h2
  · refine Only.ite ?_ ?_
    · refine State.reportRepair_only (hG.of rfl) ?_
      exact State.loadEntry_only (hG.of rfl) h2
    · refine Only.ite ?_ ?_
      · refine State.reportRepair_only (hG.of rfl) ?_
        exact State.loadEntry_only (hG.of rfl) h2
      · refine Only.ite ?_ ?_
        · exact h2
        · refine Only.ite ?_ ?_
          · refine State.reportRepair_only (hG.of rfl) ?_
            exact State.loadEntry_only (hG.of rfl) h2
          · refine Only.ite ?_ ?_
            · refine State.reportRepair_only (hG.of rfl) ?_
              exact State.loadEntry_only (hG.of rfl) h2
            · exact State.reloadEntry_only (hG.of rfl) h2

theorem State.reloadRegion_only {s : State} {r : Nat} (hG : Sub 0x30000000000000000000000000000000000000000000000000000000000000000000000000000 G) (hS : Only G s0 s) :
    Only G s0 (State.reloadRegion s r) := by
  unfold State.reloadRegion
  extract_lets +onlyGivenNames -underBinder -merge mine_1
  extract_lets +onlyGivenNames -underBinder -merge s_2
  have h3 : Only G s0 s_2 := by
    subst s_2
    exact Only.set_rep_repEcc (hG.of rfl) hS
  try clear_value s_2
  extract_lets +onlyGivenNames -underBinder -merge load_4
  have h5 : ∀ y6, ∀ u7, Only G s0 u7 → Only G s0 (load_4 y6 u7) := by
    subst load_4
    intro y6 u7 hu8
    try beta_reduce
    refine Only.fold ?_ hu8
    intro u9 y11 hu10
    try beta_reduce
    extract_lets +onlyGivenNames -underBinder -merge i_13
    refine Only.ite ?_ ?_
    · exact hu10
    · refine State.putRep_only (hG.of rfl) ?_
      exact State.putRep_only (hG.of rfl) hu10
  try clear_value load_4
  refine h5 _ _ ?_
  refine h5 _ _ ?_
  refine h5 _ _ ?_
  refine h5 _ _ ?_
  refine h5 _ _ ?_
  exact h5 _ _ h3

theorem duplicateMismatch_only {r : Nat} {t : DupTable} {i : Nat} {copy : Nat} {flip : Word} {ecc : Nat} {s : State} (hG : Sub 0x1b014020b00005f006a1000000000100000080000403e0050000000010084001000000001200805518441 G) (hS : Only G s0 s) :
    Only G s0 (duplicateMismatch r t i copy flip ecc s) := by
  unfold duplicateMismatch
  split
  · extract_lets +onlyGivenNames -underBinder -merge s_1
    have h2 : Only G s0 s_1 := by
      subst s_1
      exact State.putRep_only (hG.of rfl) hS
    try clear_value s_1
    extract_lets +onlyGivenNames -underBinder -merge s_3
    have h4 : Only G s0 s_3 := by
      subst s_3
      exact State.putCond_only (hG.of rfl) h2
    try clear_value s_3
    exact State.repair_only (hG.of rfl) h4
  · exact hS

theorem duplicateRepair_only {r : Nat} {t : DupTable} {i : Nat} {s : State} (hG : Sub 0x1b014020b00005f006a1000000000100000080000403e0050000000010084001000000001200805518441 G) (hS : Only G s0 s) :
    Only G s0 (duplicateRepair r t i s) := by
  unfold duplicateRepair
  exact State.repair_only (hG.of rfl) hS

theorem tableScrubStep_only {r : Nat} {s : State} (hG : Sub 0x1b014021b00005f006a1000000000100000080000403e0050000000010084001000000001200805518441 G) (hS : Only G s0 s) :
    Only G s0 (tableScrubStep r s) := by
  unfold tableScrubStep
  extract_lets +onlyGivenNames -underBinder -merge one_1
  have h2 : ∀ y3, ∀ y4, ∀ y5, ∀ y6, ∀ u7, Only G s0 u7 → Only G s0 (one_1 y3 y4 y5 y6 u7) := by
    subst one_1
    intro y3 y4 y5 y6 u7 hu8
    try beta_reduce
    extract_lets +onlyGivenNames -underBinder -merge at'_9
    extract_lets +onlyGivenNames -underBinder -merge u_10
    have h11 : Only G s0 u_10 := by
      subst u_10
      exact State.repair_only (hG.of rfl) hu8
    try clear_value u_10
    exact Only.set_scrubAt (hG.of rfl) h11
  try clear_value one_1
  refine Only.ite ?_ ?_
  · exact hS
  · refine h2 _ _ _ _ _ ?_
    refine h2 _ _ _ _ _ ?_
    exact h2 _ _ _ _ _ hS

end Sys2Proof.Machine
end

