-- ==== Sys2Proof/Laws/FramePorts.lean ====
section
/-! SUPPORT. The frame of each function of Machine/Ports.lean: the parts of the state that it may change, as a set of bits (StatePart.place), with the canonical form kept. -/

namespace Sys2Proof.Machine

variable {G : Nat} {s0 : State}

theorem State.askL0p_only {s : State} {p : Nat} {w : Nat} {byBlock : Bool} (hG : Sub 0x2000000000000000000000000000000000000000000000000000000000000000000 G) (hS : Only G s0 s) :
    Only G s0 (State.askL0p s p w byBlock) := by
  unfold State.askL0p
  extract_lets +onlyGivenNames -underBinder -merge __src_1
  refine Only.ite ?_ ?_
  · exact hS
  · exact State.setPort_only (hG.of rfl) hS

theorem State.updLanePool_only {s : State} (hG : Sub 0x10000008000008420050000000000000000000000000000000000000 G) (hS : Only G s0 s) :
    Only G s0 (State.updLanePool s) := by
  unfold State.updLanePool
  refine Only.ite ?_ ?_
  · refine Only.ite ?_ ?_
    · exact hS
    · exact State.unmet_only (hG.of rfl) hS
  · exact State.set_only (hG.of rfl) hS

theorem State.updPend_only {s : State} {b : Nat} (hG : Sub 0x40 G) (hS : Only G s0 s) :
    Only G s0 (State.updPend s b) := by
  unfold State.updPend
  refine State.each_only ?_ hS
  intro y1 u2 hu3
  try beta_reduce
  exact State.set_only (hG.of rfl) hu3

theorem State.dropIncrease_only {s : State} {p : Nat} (hG : Sub 0x2000000000000000000000000000000000000000000000000000000000000000000 G) (hS : Only G s0 s) :
    Only G s0 (State.dropIncrease s p) := by
  unfold State.dropIncrease
  split
  · extract_lets +onlyGivenNames -underBinder -merge __src_1
    refine Only.ite ?_ ?_
    · exact State.setPort_only (hG.of rfl) hS
    · exact hS
  · exact hS

theorem State.markPair_only {s : State} {b : Nat} {k : Nat} (hG : Sub 0x1b014020000005f006a9000000000100000080000487e00500000000100840000000000012008055184c1 G) (hS : Only G s0 s) :
    Only G s0 (State.markPair s b k) := by
  unfold State.markPair
  extract_lets +onlyGivenNames -underBinder -merge s_1
  have h2 : Only G s0 s_1 := by
    subst s_1
    exact State.setBit_only (hG.of rfl) hS
  try clear_value s_1
  extract_lets +onlyGivenNames -underBinder -merge x_3
  extract_lets +onlyGivenNames -underBinder -merge s_4
  have h5 : Only G s0 s_4 := by
    subst s_4
    exact State.setBlock_only (hG.of rfl) h2
  try clear_value s_4
  extract_lets +onlyGivenNames -underBinder -merge s_6
  have h7 : Only G s0 s_6 := by
    subst s_6
    refine State.dropIncrease_only (hG.of rfl) ?_
    exact State.updPend_only (hG.of rfl) h5
  try clear_value s_6
  extract_lets +onlyGivenNames -underBinder -merge s_8
  have h9 : Only G s0 s_8 := by
    subst s_8
    exact State.cause_only (hG.of rfl) h7
  try clear_value s_8
  refine Only.ite ?_ ?_
  · exact h9
  · refine State.updLanePool_only (hG.of rfl) ?_
    exact State.cause_only (hG.of rfl) h9

theorem State.unmarkPair_only {s : State} {b : Nat} {k : Nat} (hG : Sub 0x800000000000000000000000000000000000000000000000000000000000000080 G) (hS : Only G s0 s) :
    Only G s0 (State.unmarkPair s b k) := by
  unfold State.unmarkPair
  extract_lets +onlyGivenNames -underBinder -merge s_1
  have h2 : Only G s0 s_1 := by
    subst s_1
    exact State.setBit_only (hG.of rfl) hS
  try clear_value s_1
  extract_lets +onlyGivenNames -underBinder -merge x_3
  exact State.setBlock_only (hG.of rfl) h2

theorem State.recordSpare_only {s : State} {b : Nat} {k : Nat} {kind : Nat} (hG : Sub 0x20000000000000000000000000000000000000000000000000000000000000000000000000000000000000000000 G) (hS : Only G s0 s) :
    Only G s0 (State.recordSpare s b k kind) := by
  unfold State.recordSpare
  extract_lets +onlyGivenNames -underBinder -merge __src_1
  exact Only.set_repairMap (hG.of rfl) hS

theorem State.mapSpare_only {s : State} {b : Nat} {k : Nat} {kind : Nat} (hG : Sub 0x20000001b014020000005f006a1000000000100000080000483e00500000000100840000000000012008055184c1 G) (hS : Only G s0 s) :
    Only G s0 (State.mapSpare s b k kind) := by
  unfold State.mapSpare
  extract_lets +onlyGivenNames -underBinder -merge s_1
  have h2 : Only G s0 s_1 := by
    subst s_1
    exact State.set_only (hG.of rfl) hS
  try clear_value s_1
  extract_lets +onlyGivenNames -underBinder -merge s_3
  have h4 : Only G s0 s_3 := by
    subst s_3
    exact State.set_only (hG.of rfl) h2
  try clear_value s_3
  extract_lets +onlyGivenNames -underBinder -merge s_5
  have h6 : Only G s0 s_5 := by
    subst s_5
    exact State.set_only (hG.of rfl) h4
  try clear_value s_5
  extract_lets +onlyGivenNames -underBinder -merge s_7
  have h8 : Only G s0 s_7 := by
    subst s_7
    exact State.count_only (hG.of rfl) h6
  try clear_value s_7
  extract_lets +onlyGivenNames -underBinder -merge s_9
  have h10 : Only G s0 s_9 := by
    subst s_9
    exact State.recordSpare_only (hG.of rfl) h8
  try clear_value s_9
  exact State.cause_only (hG.of rfl) h10

theorem State.steer_only {s : State} {p : Nat} (hG : Sub 0x20000001b014020000005f006a9000000000100000080000483e00500000000100840000000000012008055184c1 G) (hS : Only G s0 s) :
    Only G s0 (State.steer s p) := by
  unfold State.steer
  refine Only.ite ?_ ?_
  · exact hS
  · refine State.each_only ?_ hS
    intro y1 u2 hu3
    try beta_reduce
    extract_lets +onlyGivenNames -underBinder -merge __src_4
    extract_lets +onlyGivenNames -underBinder -merge t_5
    have h6 : Only G s0 t_5 := by
      subst t_5
      exact State.setBlock_only (hG.of rfl) hu3
    try clear_value t_5
    split
    · extract_lets +onlyGivenNames -underBinder -merge t_7
      have h8 : Only G s0 t_7 := by
        subst t_7
        exact State.mapSpare_only (hG.of rfl) h6
      try clear_value t_7
      extract_lets +onlyGivenNames -underBinder -merge __src_9
      refine Only.ite ?_ ?_
      · refine State.updPend_only (hG.of rfl) ?_
        exact State.setBlock_only (hG.of rfl) h8
      · exact h6
    · exact h6

theorem State.spareTrained_only {s : State} {p : Nat} {trained : Nat → Nat → Bool} (hG : Sub 0x8000000000100000080000084200500000000000000000000000000000000000c0 G) (hS : Only G s0 s) :
    Only G s0 (State.spareTrained s p trained) := by
  unfold State.spareTrained
  refine State.updLanePool_only (hG.of rfl) ?_
  refine State.each_only ?_ hS
  intro y1 u2 hu3
  try beta_reduce
  extract_lets +onlyGivenNames -underBinder -merge k_4
  refine Only.ite ?_ ?_
  · refine State.updPend_only (hG.of rfl) ?_
    exact State.unmarkPair_only (hG.of rfl) hu3
  · exact hu3

theorem State.inRecovery_only {s : State} {p : Nat} (hG : Sub 0x20000001b014020000005f006a9000000000100000080000483e00500000000100840000000000012008055184c1 G) (hS : Only G s0 s) :
    Only G s0 (State.inRecovery s p) := by
  unfold State.inRecovery
  extract_lets +onlyGivenNames -underBinder -merge s_1
  have h2 : Only G s0 s_1 := by
    subst s_1
    exact State.set_only (hG.of rfl) hS
  try clear_value s_1
  refine State.steer_only (hG.of rfl) ?_
  refine State.tallyPort_only (hG.of rfl) ?_
  exact State.count_only (hG.of rfl) h2

theorem State.enterRecovery_only {s : State} {p : Nat} (hG : Sub 0x20000001b014020000005f006a9000000000100000080000483e00500000000100840000000000012008055184c1 G) (hS : Only G s0 s) :
    Only G s0 (State.enterRecovery s p) := by
  unfold State.enterRecovery
  extract_lets +onlyGivenNames -underBinder -merge s_1
  have h2 : Only G s0 s_1 := by
    subst s_1
    exact State.set_only (hG.of rfl) hS
  try clear_value s_1
  extract_lets +onlyGivenNames -underBinder -merge __src_3
  refine Only.ite ?_ ?_
  · refine State.inRecovery_only (hG.of rfl) ?_
    exact State.setPort_only (hG.of rfl) h2
  · exact hS

theorem State.setPrbsLane_only {s : State} {b : Nat} {k : Nat} {x : PrbsLane} (hG : Sub 0x1000000000000000000000000000000000000000000000000000000000000000000 G) (hS : Only G s0 s) :
    Only G s0 (State.setPrbsLane s b k x) := by
  unfold State.setPrbsLane
  exact Only.set_prbs (hG.of rfl) hS

theorem State.prbsSnapshot_only {s : State} {b : Nat} {bitsK : Nat} {errs : List Nat} (hG : Sub 0x1800000000000000000000000000000000000000000000000000000000000003000 G) (hS : Only G s0 s) :
    Only G s0 (State.prbsSnapshot s b bitsK errs) := by
  unfold State.prbsSnapshot
  extract_lets +onlyGivenNames -underBinder -merge x_1
  extract_lets +onlyGivenNames -underBinder -merge s_2
  have h3 : Only G s0 s_2 := by
    subst s_2
    exact State.setBlock_only (hG.of rfl) hS
  try clear_value s_2
  extract_lets +onlyGivenNames -underBinder -merge s_4
  have h5 : Only G s0 s_4 := by
    subst s_4
    exact State.set_only (hG.of rfl) h3
  try clear_value s_4
  extract_lets +onlyGivenNames -underBinder -merge s_6
  have h7 : Only G s0 s_6 := by
    subst s_6
    exact State.resultDone_only (hG.of rfl) (hG.of rfl) h5
  try clear_value s_6
  extract_lets +onlyGivenNames -underBinder -merge seq_8
  refine State.each_only ?_ h7
  intro y9 u10 hu11
  try beta_reduce
  extract_lets +onlyGivenNames -underBinder -merge y_12
  extract_lets +onlyGivenNames -underBinder -merge t_13
  have h14 : Only G s0 t_13 := by
    subst t_13
    exact State.setPrbsLane_only (hG.of rfl) hu11
  try clear_value t_13
  extract_lets +onlyGivenNames -underBinder -merge t_15
  have h16 : Only G s0 t_15 := by
    subst t_15
    exact State.set_only (hG.of rfl) h14
  try clear_value t_15
  extract_lets +onlyGivenNames -underBinder -merge t_17
  have h18 : Only G s0 t_17 := by
    subst t_17
    exact State.set_only (hG.of rfl) h16
  try clear_value t_17
  extract_lets +onlyGivenNames -underBinder -merge t_19
  have h20 : Only G s0 t_19 := by
    subst t_19
    exact State.set_only (hG.of rfl) h18
  try clear_value t_19
  extract_lets +onlyGivenNames -underBinder -merge t_21
  have h22 : Only G s0 t_21 := by
    subst t_21
    exact State.set_only (hG.of rfl) h20
  try clear_value t_21
  exact State.set_only (hG.of rfl) h22

theorem State.prbsStop_only {s : State} {b : Nat} {bitsK : Nat} {errs : List Nat} (hG : Sub 0x1800000000000000000000000000000000000000000000000000000000000003800 G) (hS : Only G s0 s) :
    Only G s0 (State.prbsStop s b bitsK errs) := by
  unfold State.prbsStop
  refine Only.ite ?_ ?_
  · refine State.set_only (hG.of rfl) ?_
    exact State.prbsSnapshot_only (hG.of rfl) hS
  · exact hS

theorem State.setSlot_only {s : State} {n : Nat} {x : SlotState} (hG : Sub 0x40000000000000000000000000000000000000000000000000000000000000000000000000000000000000000000000 G) (hS : Only G s0 s) :
    Only G s0 (State.setSlot s n x) := by
  unfold State.setSlot
  exact Only.set_slots (hG.of rfl) hS

theorem bringUpStart_only {p : Nat} {bitsK : Nat} {errs : List Nat} {s : State} (hG : Sub 0x40003800000000000000000000000000000000000000000000000000000000000103840 G) (hS : Only G s0 s) :
    Only G s0 (bringUpStart p bitsK errs s) := by
  unfold bringUpStart
  extract_lets +onlyGivenNames -underBinder -merge s_1
  have h2 : Only G s0 s_1 := by
    subst s_1
    refine State.each_only ?_ hS
    intro y3 u4 hu5
    try beta_reduce
    exact State.prbsStop_only (hG.of rfl) hu5
  try clear_value s_1
  extract_lets +onlyGivenNames -underBinder -merge s_6
  have h7 : Only G s0 s_6 := by
    subst s_6
    exact State.set_only (hG.of rfl) h2
  try clear_value s_6
  extract_lets +onlyGivenNames -underBinder -merge __src_8
  extract_lets +onlyGivenNames -underBinder -merge s_9
  have h10 : Only G s0 s_9 := by
    subst s_9
    exact State.setPort_only (hG.of rfl) h7
  try clear_value s_9
  refine Only.ite ?_ ?_
  · refine Only.ite ?_ ?_
    · refine State.set_only (hG.of rfl) ?_
      exact State.setTrain_only (hG.of rfl) h10
    · exact h10
  · exact hS

theorem State.bringUpAlone_only {s : State} {p : Nat} (hG : Sub 0x40003800000000000000000000000000000000000000000000000000000000000103840 G) (hS : Only G s0 s) :
    Only G s0 (State.bringUpAlone s p) := by
  unfold State.bringUpAlone
  refine Only.ite ?_ ?_
  · exact hS
  · exact bringUpStart_only (hG.of rfl) hS

theorem State.showProtocol_only {s : State} {p : Nat} {proto : Nat} {q : Partner} (hG : Sub 0x10000008000000000010000000000000000000000000000000008000 G) (hS : Only G s0 s) :
    Only G s0 (State.showProtocol s p proto q) := by
  unfold State.showProtocol
  extract_lets +onlyGivenNames -underBinder -merge h0_1
  extract_lets +onlyGivenNames -underBinder -merge cacheEn_2
  extract_lets +onlyGivenNames -underBinder -merge mldEn_3
  extract_lets +onlyGivenNames -underBinder -merge cxl_4
  extract_lets +onlyGivenNames -underBinder -merge mld_5
  extract_lets +onlyGivenNames -underBinder -merge s_6
  have h7 : Only G s0 s_6 := by
    subst s_6
    exact State.set_only (hG.of rfl) hS
  try clear_value s_6
  extract_lets +onlyGivenNames -underBinder -merge s_8
  have h9 : Only G s0 s_8 := by
    subst s_8
    exact State.set_only (hG.of rfl) h7
  try clear_value s_8
  extract_lets +onlyGivenNames -underBinder -merge s_10
  have h11 : Only G s0 s_10 := by
    subst s_10
    exact State.set_only (hG.of rfl) h9
  try clear_value s_10
  extract_lets +onlyGivenNames -underBinder -merge s_12
  have h13 : Only G s0 s_12 := by
    subst s_12
    exact State.set_only (hG.of rfl) h11
  try clear_value s_12
  extract_lets +onlyGivenNames -underBinder -merge s_14
  have h15 : Only G s0 s_14 := by
    subst s_14
    exact State.set_only (hG.of rfl) h13
  try clear_value s_14
  extract_lets +onlyGivenNames -underBinder -merge s_16
  have h17 : Only G s0 s_16 := by
    subst s_16
    exact State.set_only (hG.of rfl) h15
  try clear_value s_16
  refine Only.ite ?_ ?_
  · exact State.notice_only (hG.of rfl) h17
  · exact h17

theorem State.markFailed_only {s : State} {p : Nat} {lanes : Nat} (hG : Sub 0x1b014020000005f006a9000000000100000080000487e00500000000100840000000000012008055184c1 G) (hS : Only G s0 s) :
    Only G s0 (State.markFailed s p lanes) := by
  unfold State.markFailed
  extract_lets +onlyGivenNames -underBinder -merge missing_1
  refine Only.ite ?_ ?_
  · exact hS
  · refine State.each_only ?_ hS
    intro y2 u3 hu4
    try beta_reduce
    refine Only.ite ?_ ?_
    · exact State.markPair_only (hG.of rfl) hu4
    · exact hu4

theorem State.showLock_only {s : State} {p : Nat} {lanes : Nat} (hG : Sub 0x400 G) (hS : Only G s0 s) :
    Only G s0 (State.showLock s p lanes) := by
  unfold State.showLock
  refine State.each_only ?_ hS
  intro y1 u2 hu3
  try beta_reduce
  split
  · exact State.set_only (hG.of rfl) hu3
  · exact hu3

theorem State.linkWidth_only {s : State} {p : Nat} {lanes : Nat} (hG : Sub 0x1b014020000005f006a9000000000100000080000487e00500000000100840000000000012008055184c1 G) (hS : Only G s0 s) :
    Only G s0 (State.linkWidth s p lanes) := by
  unfold State.linkWidth
  extract_lets +onlyGivenNames -underBinder -merge s_1
  have h2 : Only G s0 s_1 := by
    subst s_1
    exact State.spareTrained_only (hG.of rfl) hS
  try clear_value s_1
  extract_lets +onlyGivenNames -underBinder -merge s_3
  have h4 : Only G s0 s_3 := by
    subst s_3
    refine State.showLock_only (hG.of rfl) ?_
    exact State.markFailed_only (hG.of rfl) h2
  try clear_value s_3
  extract_lets +onlyGivenNames -underBinder -merge v_5
  extract_lets +onlyGivenNames -underBinder -merge s_6
  have h7 : Only G s0 s_6 := by
    subst s_6
    exact State.set_only (hG.of rfl) h4
  try clear_value s_6
  exact State.set_only (hG.of rfl) h7

theorem State.retried_only {s : State} {p : Nat} {lanes : Nat} (hG : Sub 0x8000000000100000080000084200500000000000000000000000000000000004c0 G) (hS : Only G s0 s) :
    Only G s0 (State.retried s p lanes) := by
  unfold State.retried
  extract_lets +onlyGivenNames -underBinder -merge t_1
  have h2 : Only G s0 t_1 := by
    subst t_1
    exact State.spareTrained_only (hG.of rfl) hS
  try clear_value t_1
  extract_lets +onlyGivenNames -underBinder -merge v_3
  extract_lets +onlyGivenNames -underBinder -merge t_4
  have h5 : Only G s0 t_4 := by
    subst t_4
    exact State.showLock_only (hG.of rfl) h2
  try clear_value t_4
  refine Only.ite ?_ ?_
  · refine State.set_only (hG.of rfl) ?_
    exact State.set_only (hG.of rfl) h5
  · exact h2

theorem State.reachDlUp_only {s : State} {p : Nat} (hG : Sub 0x10000a100000000010000008000000000010000000000000000000000000200000010040 G) (hS : Only G s0 s) :
    Only G s0 (State.reachDlUp s p) := by
  unfold State.reachDlUp
  extract_lets +onlyGivenNames -underBinder -merge s_1
  have h2 : Only G s0 s_1 := by
    subst s_1
    exact State.set_only (hG.of rfl) hS
  try clear_value s_1
  extract_lets +onlyGivenNames -underBinder -merge s_3
  have h4 : Only G s0 s_3 := by
    subst s_3
    exact State.set_only (hG.of rfl) h2
  try clear_value s_3
  extract_lets +onlyGivenNames -underBinder -merge __src_5
  extract_lets +onlyGivenNames -underBinder -merge s_6
  have h7 : Only G s0 s_6 := by
    subst s_6
    exact State.setPort_only (hG.of rfl) h4
  try clear_value s_6
  extract_lets +onlyGivenNames -underBinder -merge bound_8
  extract_lets +onlyGivenNames -underBinder -merge x_9
  extract_lets +onlyGivenNames -underBinder -merge s_10
  have h11 : Only G s0 s_10 := by
    subst s_10
    refine Only.ite ?_ ?_
    · refine State.release_only (hG.of rfl) ?_
      exact State.dropTriggers_only (hG.of rfl) h7
    · exact State.setNi_only (hG.of rfl) h7
  try clear_value s_10
  refine State.each_only ?_ h11
  intro y12 u13 hu14
  try beta_reduce
  exact State.hotAdd_only (hG.of rfl) hu14

theorem State.beginStage_only {s : State} {p : Nat} (hG : Sub 0x20000001b014020000005f006a9000000000100000080000483e00500000000100840000000000012008055184c1 G) (hS : Only G s0 s) :
    Only G s0 (State.beginStage s p) := by
  unfold State.beginStage
  refine Only.ite ?_ ?_
  · exact State.set_only (hG.of rfl) hS
  · exact State.inRecovery_only (hG.of rfl) hS

theorem trainingStageEnd_only {p : Nat} {passed : Bool} {q : Partner} {lanes : Nat} {s : State} (hG : Sub 0x20000001b014020000005f006a9000000000100000080000487e00500000000100840000000000012008055184c1 G) (hS : Only G s0 s) :
    Only G s0 (trainingStageEnd p passed q lanes s) := by
  unfold trainingStageEnd
  extract_lets +onlyGivenNames -underBinder -merge x_1
  extract_lets +onlyGivenNames -underBinder -merge s_2
  have h3 : Only G s0 s_2 := by
    subst s_2
    refine Only.ite ?_ ?_
    · exact State.notice_only (hG.of rfl) hS
    · exact hS
  try clear_value s_2
  extract_lets +onlyGivenNames -underBinder -merge s_4
  have h5 : Only G s0 s_4 := by
    subst s_4
    refine Only.ite ?_ ?_
    · exact State.markFailed_only (hG.of rfl) h3
    · exact h3
  try clear_value s_4
  extract_lets +onlyGivenNames -underBinder -merge s_6
  have h7 : Only G s0 s_6 := by
    subst s_6
    refine State.showLock_only (hG.of rfl) ?_
    exact State.steer_only (hG.of rfl) h5
  try clear_value s_6
  extract_lets +onlyGivenNames -underBinder -merge s_8
  have h9 : Only G s0 s_8 := by
    subst s_8
    refine State.set_only (hG.of rfl) ?_
    exact State.set_only (hG.of rfl) h7
  try clear_value s_8
  extract_lets +onlyGivenNames -underBinder -merge s_10
  have h11 : Only G s0 s_10 := by
    subst s_10
    refine State.set_only (hG.of rfl) ?_
    exact State.set_only (hG.of rfl) h9
  try clear_value s_10
  refine Only.ite ?_ ?_
  · exact hS
  · refine Only.ite ?_ ?_
    · refine State.set_only (hG.of rfl) ?_
      exact State.setPort_only (hG.of rfl) h11
    · split
      · refine State.set_only (hG.of rfl) ?_
        refine State.setPort_only (hG.of rfl) ?_
        exact State.steer_only (hG.of rfl) hS
      · refine State.set_only (hG.of rfl) ?_
        exact State.setPort_only (hG.of rfl) hS
      · extract_lets +onlyGivenNames -underBinder -merge cxlEn_12
        split
        · extract_lets +onlyGivenNames -underBinder -merge bypass_13
          extract_lets +onlyGivenNames -underBinder -merge st_14
          extract_lets +onlyGivenNames -underBinder -merge s_15
          have h16 : Only G s0 s_15 := by
            subst s_15
            exact State.setPort_only (hG.of rfl) hS
          try clear_value s_15
          extract_lets +onlyGivenNames -underBinder -merge s_17
          have h18 : Only G s0 s_17 := by
            subst s_17
            exact State.linkWidth_only (hG.of rfl) h16
          try clear_value s_17
          extract_lets +onlyGivenNames -underBinder -merge s_19
          have h20 : Only G s0 s_19 := by
            subst s_19
            exact State.set_only (hG.of rfl) h18
          try clear_value s_19
          extract_lets +onlyGivenNames -underBinder -merge s_21
          have h22 : Only G s0 s_21 := by
            subst s_21
            exact State.set_only (hG.of rfl) h20
          try clear_value s_21
          refine State.beginStage_only (hG.of rfl) ?_
          exact State.showProtocol_only (hG.of rfl) h22
      · exact State.reachDlUp_only (hG.of rfl) hS
      · extract_lets +onlyGivenNames -underBinder -merge s_23
        have h24 : Only G s0 s_23 := by
          subst s_23
          refine State.set_only (hG.of rfl) ?_
          exact State.retried_only (hG.of rfl) hS
        try clear_value s_23
        extract_lets +onlyGivenNames -underBinder -merge __src_25
        refine State.beginStage_only (hG.of rfl) ?_
        exact State.setPort_only (hG.of rfl) h24

theorem State.updHostOn_only {s : State} {p : Nat} (hG : Sub 0x80000000000000000000000000000000000000000000000000000 G) (hS : Only G s0 s) :
    Only G s0 (State.updHostOn s p) := by
  unfold State.updHostOn
  split
  · exact hS
  · extract_lets +onlyGivenNames -underBinder -merge bound_1
    exact State.set_only (hG.of rfl) hS

theorem State.setPartials_only {s : State} {p : Nat} {n : Nat} (hG : Sub 0x4000000000000000000000000000000000000000000000000000000000000000000 G) (hS : Only G s0 s) :
    Only G s0 (State.setPartials s p n) := by
  unfold State.setPartials
  exact Only.set_partials (hG.of rfl) hS

theorem State.dropLink_only {s : State} {p : Nat} {planned : Bool} {partial' : Nat} (hG : Sub 0x80040200000050006e100000000010000008000000000010000000000084000000000001200800018440 G) (hS : Only G s0 s) :
    Only G s0 (State.dropLink s p planned partial') := by
  unfold State.dropLink
  extract_lets +onlyGivenNames -underBinder -merge up_1
  extract_lets +onlyGivenNames -underBinder -merge s_2
  have h3 : Only G s0 s_2 := by
    subst s_2
    refine State.setPartials_only (hG.of rfl) ?_
    exact State.portDown_only (hG.of rfl) hS
  try clear_value s_2
  extract_lets +onlyGivenNames -underBinder -merge s_4
  have h5 : Only G s0 s_4 := by
    subst s_4
    exact State.count_only (hG.of rfl) h3
  try clear_value s_4
  extract_lets +onlyGivenNames -underBinder -merge s_6
  have h7 : Only G s0 s_6 := by
    subst s_6
    exact State.quench_only (hG.of rfl) h5
  try clear_value s_6
  refine Only.ite ?_ ?_
  · exact State.notice_only (hG.of rfl) h7
  · exact h7

theorem State.slotLinkDown_only {s : State} {n : Nat} {planned : Bool} (hG : Sub 0x80040200000050006e100000000010000008000000000010000000000084000000000001200800018440 G) (hS : Only G s0 s) :
    Only G s0 (State.slotLinkDown s n planned) := by
  unfold State.slotLinkDown
  extract_lets +onlyGivenNames -underBinder -merge p_1
  refine Only.ite ?_ ?_
  · exact State.dropLink_only (hG.of rfl) hS
  · exact hS

theorem State.slotOff_only {s : State} {n : Nat} (hG : Sub 0x40000000000000000000000000000000000000000080000000000000000000000000000000000000000000000000000 G) (hS : Only G s0 s) :
    Only G s0 (State.slotOff s n) := by
  unfold State.slotOff
  extract_lets +onlyGivenNames -underBinder -merge __src_1
  refine State.set_only (hG.of rfl) ?_
  exact State.setSlot_only (hG.of rfl) hS

theorem State.slotTurnOff_only {s : State} {n : Nat} (hG : Sub 0x4000000000080040200000050006e100000000010080008000000000010000000000084000000000001200800018440 G) (hS : Only G s0 s) :
    Only G s0 (State.slotTurnOff s n) := by
  unfold State.slotTurnOff
  refine Only.ite ?_ ?_
  · refine State.slotLinkDown_only (hG.of rfl) ?_
    exact State.slotOff_only (hG.of rfl) hS
  · exact hS

theorem State.slotCycle_only {s : State} {n : Nat} (hG : Sub 0x4000000000080040200000050006e100000000010080008000000000010000000000084000000000001200800018440 G) (hS : Only G s0 s) :
    Only G s0 (State.slotCycle s n) := by
  unfold State.slotCycle
  extract_lets +onlyGivenNames -underBinder -merge s_1
  have h2 : Only G s0 s_1 := by
    subst s_1
    exact State.slotOff_only (hG.of rfl) hS
  try clear_value s_1
  extract_lets +onlyGivenNames -underBinder -merge __src_3
  refine Only.ite ?_ ?_
  · refine State.slotLinkDown_only (hG.of rfl) ?_
    exact State.setSlot_only (hG.of rfl) h2
  · exact hS

theorem State.slotLinkLoss_only {s : State} {p : Nat} (hG : Sub 0x4000000000080040200000050006e100000000010080008000000000010000000000084000000000001200800018440 G) (hS : Only G s0 s) :
    Only G s0 (State.slotLinkLoss s p) := by
  unfold State.slotLinkLoss
  split
  · refine Only.ite ?_ ?_
    · exact State.slotCycle_only (hG.of rfl) hS
    · exact hS
  · exact hS

theorem State.loseLink_only {s : State} {p : Nat} {planned : Bool} {partial' : Nat} (hG : Sub 0x4000000000080040200000050006e100000000010080008000000000010000000000084000000000001200800018440 G) (hS : Only G s0 s) :
    Only G s0 (State.loseLink s p planned partial') := by
  unfold State.loseLink
  extract_lets +onlyGivenNames -underBinder -merge up_1
  extract_lets +onlyGivenNames -underBinder -merge s_2
  have h3 : Only G s0 s_2 := by
    subst s_2
    exact State.dropLink_only (hG.of rfl) hS
  try clear_value s_2
  refine Only.ite ?_ ?_
  · exact State.slotLinkLoss_only (hG.of rfl) h3
  · exact h3

theorem State.takeDown_only {s : State} {p : Nat} {planned : Bool} (hG : Sub 0x4000000000080040200000050006e100000000010080008000000000010000000000084000000000001200800018440 G) (hS : Only G s0 s) :
    Only G s0 (State.takeDown s p planned) := by
  unfold State.takeDown
  refine Only.ite ?_ ?_
  · exact hS
  · exact State.loseLink_only (hG.of rfl) hS

theorem adminWrite_only {b : Nat} {a0 : Bool} {a1 : Bool} {s : State} (hG : Sub 0x400000000018004020000005f006e100000000010080008000000000010000000000084000000000001200805518460 G) (hS : Only G s0 s) :
    Only G s0 (adminWrite b a0 a1 s) := by
  unfold adminWrite
  extract_lets +onlyGivenNames -underBinder -merge s_1
  have h2 : Only G s0 s_1 := by
    subst s_1
    refine State.set_only (hG.of rfl) ?_
    exact State.set_only (hG.of rfl) hS
  try clear_value s_1
  extract_lets +onlyGivenNames -underBinder -merge off_3
  have h4 : ∀ y5, ∀ y6, ∀ u7, Only G s0 u7 → Only G s0 (off_3 y5 y6 u7) := by
    subst off_3
    intro y5 y6 u7 hu8
    try beta_reduce
    refine Only.ite ?_ ?_
    · exact hu8
    · refine State.takeDown_only (hG.of rfl) ?_
      refine Only.ite ?_ ?_
      · exact State.sflDown_only (hG.of rfl) hu8
      · exact hu8
  try clear_value off_3
  refine Only.ite ?_ ?_
  · exact h2
  · refine h4 _ _ _ ?_
    exact h4 _ _ _ h2

theorem dlUpLoss_only {p : Nat} {planned : Bool} {partial' : Nat} {s : State} (hG : Sub 0x4000000000080040200000050006e100000000010080008000000000010000000000084000000000001200800018440 G) (hS : Only G s0 s) :
    Only G s0 (dlUpLoss p planned partial' s) := by
  unfold dlUpLoss
  refine Only.ite ?_ ?_
  · exact State.loseLink_only (hG.of rfl) hS
  · exact hS

theorem l0pRequestPartner_only {p : Nat} {w : Nat} {s : State} (hG : Sub 0x2000000000000000000000000000000000000000000000000000000000000000000 G) (hS : Only G s0 s) :
    Only G s0 (l0pRequestPartner p w s) := by
  unfold l0pRequestPartner
  refine Only.ite ?_ ?_
  · refine Only.ite ?_ ?_
    · exact State.askL0p_only (hG.of rfl) hS
    · refine Only.ite ?_ ?_
      · exact State.askL0p_only (hG.of rfl) hS
      · exact hS
  · exact hS

theorem State.followTarget_only {s : State} {p : Nat} {byBlock : Bool} (hG : Sub 0x2000000000000000000000000000000000000000000000000000000000000000000 G) (hS : Only G s0 s) :
    Only G s0 (State.followTarget s p byBlock) := by
  unfold State.followTarget
  refine Only.ite ?_ ?_
  · split
    · refine Only.ite ?_ ?_
      · exact hS
      · exact State.askL0p_only (hG.of rfl) hS
    · refine Only.ite ?_ ?_
      · exact hS
      · exact State.askL0p_only (hG.of rfl) hS
  · exact hS

theorem l0pTgtWrite_only {b : Nat} {h : Nat} {tgt : Nat} {s : State} (hG : Sub 0x2000000000000000000000000000000000000000000000000000000000000000020 G) (hS : Only G s0 s) :
    Only G s0 (l0pTgtWrite b h tgt s) := by
  unfold l0pTgtWrite
  extract_lets +onlyGivenNames -underBinder -merge s_1
  have h2 : Only G s0 s_1 := by
    subst s_1
    refine Only.ite ?_ ?_
    · exact State.set_only (hG.of rfl) hS
    · exact State.set_only (hG.of rfl) hS
  try clear_value s_1
  exact State.followTarget_only (hG.of rfl) h2

theorem l0pChangeComplete_only {p : Nat} {s : State} (hG : Sub 0x2000000000010000008000000000010000000000000000000000000000000000040 G) (hS : Only G s0 s) :
    Only G s0 (l0pChangeComplete p s) := by
  unfold l0pChangeComplete
  split
  · extract_lets +onlyGivenNames -underBinder -merge by'_1
    extract_lets +onlyGivenNames -underBinder -merge __src_2
    extract_lets +onlyGivenNames -underBinder -merge s_3
    have h4 : Only G s0 s_3 := by
      subst s_3
      exact State.setPort_only (hG.of rfl) hS
    try clear_value s_3
    extract_lets +onlyGivenNames -underBinder -merge s_5
    have h6 : Only G s0 s_5 := by
      subst s_5
      refine State.tallyPort_only (hG.of rfl) ?_
      exact State.set_only (hG.of rfl) h4
    try clear_value s_5
    extract_lets +onlyGivenNames -underBinder -merge s_7
    have h8 : Only G s0 s_7 := by
      subst s_7
      exact State.set_only (hG.of rfl) h6
    try clear_value s_7
    refine Only.ite ?_ ?_
    · refine Only.ite ?_ ?_
      · exact State.notice_only (hG.of rfl) h8
      · exact h8
    · exact hS
  · exact hS

theorem retrainWrite_only {b : Nat} {r0 : Bool} {r1 : Bool} {s : State} (hG : Sub 0x20000001b014020000005f006a9000000000100000080000483e00500000000100840000000000012008055184c1 G) (hS : Only G s0 s) :
    Only G s0 (retrainWrite b r0 r1 s) := by
  unfold retrainWrite
  extract_lets +onlyGivenNames -underBinder -merge s_1
  have h2 : Only G s0 s_1 := by
    subst s_1
    refine Only.ite ?_ ?_
    · exact State.enterRecovery_only (hG.of rfl) hS
    · exact hS
  try clear_value s_1
  refine Only.ite ?_ ?_
  · exact State.enterRecovery_only (hG.of rfl) h2
  · exact h2

theorem recoveryEntry_only {p : Nat} {s : State} (hG : Sub 0x20000001b014020000005f006a9000000000100000080000483e00500000000100840000000000012008055184c1 G) (hS : Only G s0 s) :
    Only G s0 (recoveryEntry p s) := by
  unfold recoveryEntry
  exact State.enterRecovery_only (hG.of rfl) hS

theorem recoveryComplete_only {p : Nat} {spareOk : Bool} {s : State} (hG : Sub 0x8000000000100000080000084200500000000000000000000000000000000006c0 G) (hS : Only G s0 s) :
    Only G s0 (recoveryComplete p spareOk s) := by
  unfold recoveryComplete
  extract_lets +onlyGivenNames -underBinder -merge s_1
  have h2 : Only G s0 s_1 := by
    subst s_1
    refine Only.ite ?_ ?_
    · exact State.spareTrained_only (hG.of rfl) hS
    · exact State.updLanePool_only (hG.of rfl) hS
  try clear_value s_1
  extract_lets +onlyGivenNames -underBinder -merge w_3
  extract_lets +onlyGivenNames -underBinder -merge s_4
  have h5 : Only G s0 s_4 := by
    subst s_4
    refine State.showLock_only (hG.of rfl) ?_
    exact State.set_only (hG.of rfl) h2
  try clear_value s_4
  extract_lets +onlyGivenNames -underBinder -merge s_6
  have h7 : Only G s0 s_6 := by
    subst s_6
    exact State.set_only (hG.of rfl) h5
  try clear_value s_6
  refine Only.ite ?_ ?_
  · refine Only.ite ?_ ?_
    · exact State.count_only (hG.of rfl) h7
    · exact h7
  · exact hS

theorem markClear_only {b : Nat} {mask : Nat} {s : State} (hG : Sub 0x28000000000100000080000084200500000000000000000000000000000000000c0 G) (hS : Only G s0 s) :
    Only G s0 (markClear b mask s) := by
  unfold markClear
  extract_lets +onlyGivenNames -underBinder -merge s_1
  have h2 : Only G s0 s_1 := by
    subst s_1
    refine State.each_only ?_ hS
    intro y3 u4 hu5
    try beta_reduce
    exact State.unmarkPair_only (hG.of rfl) hu5
  try clear_value s_1
  extract_lets +onlyGivenNames -underBinder -merge s_6
  have h7 : Only G s0 s_6 := by
    subst s_6
    exact State.updPend_only (hG.of rfl) h2
  try clear_value s_6
  extract_lets +onlyGivenNames -underBinder -merge ports_8
  refine State.updLanePool_only (hG.of rfl) ?_
  refine State.each_only ?_ h7
  intro y9 u10 hu11
  try beta_reduce
  exact State.followTarget_only (hG.of rfl) hu11

theorem spareSelfCheck_only {b : Nat} {ok : Bool} {s : State} (hG : Sub 0x1b014020000005f006a1000000000100000080000487e00500000000100840000000000012008055184c1 G) (hS : Only G s0 s) :
    Only G s0 (spareSelfCheck b ok s) := by
  unfold spareSelfCheck
  extract_lets +onlyGivenNames -underBinder -merge s_1
  have h2 : Only G s0 s_1 := by
    subst s_1
    refine State.updPend_only (hG.of rfl) ?_
    exact State.set_only (hG.of rfl) hS
  try clear_value s_1
  refine Only.ite ?_ ?_
  · exact hS
  · refine State.updLanePool_only (hG.of rfl) ?_
    exact State.cause_only (hG.of rfl) h2

theorem State.showTest_only {s : State} {b : Nat} (hG : Sub 0x40 G) (hS : Only G s0 s) :
    Only G s0 (State.showTest s b) := by
  unfold State.showTest
  refine Only.ite ?_ ?_
  · refine State.each_only ?_ hS
    intro y1 u2 hu3
    try beta_reduce
    exact State.set_only (hG.of rfl) hu3
  · exact hS

theorem prbsEnWrite_only {b : Nat} {value : Word} {s : State} (hG : Sub 0x1800000000000000000000000000000000000000000000000000000000000000840 G) (hS : Only G s0 s) :
    Only G s0 (prbsEnWrite b value s) := by
  unfold prbsEnWrite
  extract_lets +onlyGivenNames -underBinder -merge was_1
  extract_lets +onlyGivenNames -underBinder -merge fld_2
  extract_lets +onlyGivenNames -underBinder -merge s_3
  have h4 : Only G s0 s_3 := by
    subst s_3
    exact State.set_only (hG.of rfl) hS
  try clear_value s_3
  extract_lets +onlyGivenNames -underBinder -merge s_5
  have h6 : Only G s0 s_5 := by
    subst s_5
    exact State.set_only (hG.of rfl) h4
  try clear_value s_5
  extract_lets +onlyGivenNames -underBinder -merge s_7
  have h8 : Only G s0 s_7 := by
    subst s_7
    exact State.set_only (hG.of rfl) h6
  try clear_value s_7
  extract_lets +onlyGivenNames -underBinder -merge s_9
  have h10 : Only G s0 s_9 := by
    subst s_9
    exact State.set_only (hG.of rfl) h8
  try clear_value s_9
  extract_lets +onlyGivenNames -underBinder -merge s_11
  have h12 : Only G s0 s_11 := by
    subst s_11
    exact State.set_only (hG.of rfl) h10
  try clear_value s_11
  extract_lets +onlyGivenNames -underBinder -merge on_13
  extract_lets +onlyGivenNames -underBinder -merge s_14
  have h15 : Only G s0 s_14 := by
    subst s_14
    refine State.showTest_only (hG.of rfl) ?_
    exact State.set_only (hG.of rfl) h12
  try clear_value s_14
  extract_lets +onlyGivenNames -underBinder -merge __src_16
  extract_lets +onlyGivenNames -underBinder -merge s_17
  have h18 : Only G s0 s_17 := by
    subst s_17
    exact State.setBlock_only (hG.of rfl) h15
  try clear_value s_17
  refine Only.ite ?_ ?_
  · refine State.each_only ?_ h18
    intro y19 u20 hu21
    try beta_reduce
    exact State.setPrbsLane_only (hG.of rfl) hu21
  · exact h15

theorem prbsSnap_only {b : Nat} {bitsK : Nat} {errs : List Nat} {s : State} (hG : Sub 0x1800000000000000000000000000000000000000000000000000000000000003000 G) (hS : Only G s0 s) :
    Only G s0 (prbsSnap b bitsK errs s) := by
  unfold prbsSnap
  exact State.prbsSnapshot_only (hG.of rfl) hS

theorem prbsCheckerLock_only {b : Nat} {k : Nat} {clean : Nat} {s : State} (hG : Sub 0x1000000000000000000000000000000000000000000000000000000000000000000 G) (hS : Only G s0 s) :
    Only G s0 (prbsCheckerLock b k clean s) := by
  unfold prbsCheckerLock
  extract_lets +onlyGivenNames -underBinder -merge __src_1
  refine Only.ite ?_ ?_
  · exact State.setPrbsLane_only (hG.of rfl) hS
  · exact hS

theorem prbsCheckerLoseLock_only {b : Nat} {k : Nat} {errors : Nat} {counted : Nat} {s : State} (hG : Sub 0x1000000000000000000000000000000000000000000000000000000000000000000 G) (hS : Only G s0 s) :
    Only G s0 (prbsCheckerLoseLock b k errors counted s) := by
  unfold prbsCheckerLoseLock
  extract_lets +onlyGivenNames -underBinder -merge __src_1
  refine Only.ite ?_ ?_
  · exact State.setPrbsLane_only (hG.of rfl) hS
  · exact hS

end Sys2Proof.Machine
end

