-- ==== Sys2Proof/Laws/FrameSflLine.lean ====
section
/-! SUPPORT. The frame of each function of Machine/SflLine.lean: the parts of the state that it may change, as a set of bits (StatePart.place), with the canonical form kept. -/

namespace Sys2Proof.Machine

variable {G : Nat} {s0 : State}

theorem State.setTx_only {s : State} {c : Nat} {x : Option TxLane} (hG : Sub 0x20000000000000000000000000000000000000000000000000000000000000000000000 G) (hS : Only G s0 s) :
    Only G s0 (State.setTx s c x) := by
  unfold State.setTx
  exact Only.set_sflTx (hG.of rfl) hS

theorem State.sendOn_only {s : State} {c : Nat} {b : Block} (hG : Sub 0x20000100000000000000000000000000000000000000000000000000000000000000000 G) (hS : Only G s0 s) :
    Only G s0 (State.sendOn s c b) := by
  unfold State.sendOn
  split
  · exact hS
  · refine State.emit_only (hG.of rfl) ?_
    exact State.setTx_only (hG.of rfl) hS

theorem State.sendBlock_only {s : State} {b : Nat} {x : Block} (hG : Sub 0xa0000100000000000000000000000000000000000000000000000000000000000000000 G) (hS : Only G s0 s) :
    Only G s0 (State.sendBlock s b x) := by
  unfold State.sendBlock
  extract_lets +onlyGivenNames -underBinder -merge lanes_1
  extract_lets +onlyGivenNames -underBinder -merge i_2
  split
  · exact hS
  · extract_lets +onlyGivenNames -underBinder -merge s_3
    have h4 : Only G s0 s_3 := by
      subst s_3
      exact State.sendOn_only (hG.of rfl) hS
    try clear_value s_3
    extract_lets +onlyGivenNames -underBinder -merge last_5
    extract_lets +onlyGivenNames -underBinder -merge s_6
    have h7 : Only G s0 s_6 := by
      subst s_6
      refine Only.ite ?_ ?_
      · refine State.each_only ?_ h4
        intro y8 u9 hu10
        try beta_reduce
        exact State.sendOn_only (hG.of rfl) hu10
      · exact h4
    try clear_value s_6
    extract_lets +onlyGivenNames -underBinder -merge __src_11
    exact State.setLink_only (hG.of rfl) h7

theorem State.sendStream_only {s : State} {b : Nat} {l : List Block} (hG : Sub 0xa0000100000000000000000000000000000000000000000000000000000000000000000 G) (hS : Only G s0 s) :
    Only G s0 (State.sendStream s b l) := by
  unfold State.sendStream
  refine Only.fold ?_ hS
  intro u1 y3 hu2
  try beta_reduce
  exact State.sendBlock_only (hG.of rfl) hu2

theorem State.sendUnit_only {s : State} {b : Nat} {unit : List Byte} (hG : Sub 0xa0000100000000000000000000000000000000000000000000000000000000000000000 G) (hS : Only G s0 s) :
    Only G s0 (State.sendUnit s b unit) := by
  unfold State.sendUnit
  refine State.sendStream_only (hG.of rfl) ?_
  exact State.emit_only (hG.of rfl) hS

theorem State.sendControl_only {s : State} {b : Nat} {n : Nat} {x : Block} (hG : Sub 0x20000100000000000000000000000000000000000000000000000000000000000000000 G) (hS : Only G s0 s) :
    Only G s0 (State.sendControl s b n x) := by
  unfold State.sendControl
  refine State.each_only ?_ hS
  intro y1 u2 hu3
  try beta_reduce
  extract_lets +onlyGivenNames -underBinder -merge t_4
  have h5 : Only G s0 t_4 := by
    subst t_4
    refine Only.fold ?_ hu3
    intro u6 y8 hu7
    try beta_reduce
    exact State.sendOn_only (hG.of rfl) hu7
  try clear_value t_4
  exact State.sendOn_only (hG.of rfl) h5

theorem State.startTx_only {s : State} {b : Nat} (hG : Sub 0x20000000000000000000000000000000000000000000000000000000000000000000000 G) (hS : Only G s0 s) :
    Only G s0 (State.startTx s b) := by
  unfold State.startTx
  refine State.each_only ?_ hS
  intro y1 u2 hu3
  try beta_reduce
  exact State.setTx_only (hG.of rfl) hu3

theorem State.retag_only {s : State} {b : Nat} {mask : Nat} (hG : Sub 0x20000000000000000000000000000000000000000000000000000000000000000000000 G) (hS : Only G s0 s) :
    Only G s0 (State.retag s b mask) := by
  unfold State.retag
  refine State.each_only ?_ hS
  intro y1 u2 hu3
  try beta_reduce
  split
  · exact State.setTx_only (hG.of rfl) hu3
  · exact hu3

theorem State.takeBlock_only {s : State} {c : Nat} {x : Block} (hG : Sub 0x10000000000000000000000000000000000000000000000000000000000000000400000 G) (hS : Only G s0 s) :
    Only G s0 (State.takeBlock s c x).1 := by
  unfold State.takeBlock
  extract_lets +onlyGivenNames -underBinder -merge y_1
  extract_lets +onlyGivenNames -underBinder -merge p_2
  extract_lets +onlyGivenNames -underBinder -merge b_3
  extract_lets +onlyGivenNames -underBinder -merge s_4
  have h5 : Only G s0 s_4 := by
    subst s_4
    exact State.setSflLane_only (hG.of rfl) hS
  try clear_value s_4
  extract_lets +onlyGivenNames -underBinder -merge s_6
  have h7 : Only G s0 s_6 := by
    subst s_6
    refine Only.ite ?_ ?_
    · exact State.count_only (hG.of rfl) h5
    · exact h5
  try clear_value s_6
  exact h7

theorem State.takeNext_only {s : State} {b : Nat} {x : Block} (hG : Sub 0x90000000000000000000000000000000000000000000000000000000000000000400000 G) (hS : Only G s0 s) :
    Only G s0 (State.takeNext s b x).1 := by
  unfold State.takeNext
  extract_lets +onlyGivenNames -underBinder -merge lanes_1
  extract_lets +onlyGivenNames -underBinder -merge i_2
  extract_lets +onlyGivenNames -underBinder -merge __src_3
  extract_lets +onlyGivenNames -underBinder -merge s_4
  have h5 : Only G s0 s_4 := by
    subst s_4
    exact State.setLink_only (hG.of rfl) hS
  try clear_value s_4
  split
  · exact State.takeBlock_only (hG.of rfl) h5
  · exact h5

theorem State.takeUnit_only {s : State} {b : Nat} {blocks : List Block} (hG : Sub 0x90000000000000000000000000000000000000000000000000000000000000000400000 G) (hS : Only G s0 s) :
    Only G s0 (State.takeUnit s b blocks).1 := by
  unfold State.takeUnit
  refine Only.fold_fst ?_ ?_
  · intro u1 y3 hu2
    try beta_reduce
    extract_lets +onlyGivenNames -underBinder -merge r_5
    have h6 : Only G s0 r_5.1 := by
      subst r_5
      refine State.takeNext_only (hG.of rfl) ?_
      exact hu2
    try clear_value r_5
    exact h6
  · exact hS

theorem State.skipRow_only {s : State} {b : Nat} (hG : Sub 0x10000000000000000000000000000000000000000000000000000000000000000000000 G) (hS : Only G s0 s) :
    Only G s0 (State.skipRow s b) := by
  unfold State.skipRow
  refine State.each_only ?_ hS
  intro y1 u2 hu3
  try beta_reduce
  extract_lets +onlyGivenNames -underBinder -merge y_4
  exact State.setSflLane_only (hG.of rfl) hu3

end Sys2Proof.Machine
end

