-- ==== Sys2Proof/Laws/FrameSflOps.lean ====
section
/-! SUPPORT. The frame of each function of Machine/SflOps.lean: the parts of the state that it may change, as a set of bits (StatePart.place), with the canonical form kept. -/

namespace Sys2Proof.Machine

variable {G : Nat} {s0 : State}

theorem State.sflState_only {s : State} {b : Nat} {st : Nat} (hG : Sub 0x100000 G) (hS : Only G s0 s) :
    Only G s0 (State.sflState s b st) := by
  unfold State.sflState
  exact State.set_only (hG.of rfl) hS

theorem State.toHunt_only {s : State} {b : Nat} {k : Nat} (hG : Sub 0x10000000000000000000000000000000000000000000000000000000000000000400000 G) (hS : Only G s0 s) :
    Only G s0 (State.toHunt s b k) := by
  unfold State.toHunt
  extract_lets +onlyGivenNames -underBinder -merge x_1
  extract_lets +onlyGivenNames -underBinder -merge __src_2
  refine State.set_only (hG.of rfl) ?_
  exact State.setSflLane_only (hG.of rfl) hS

theorem State.huntAll_only {s : State} {b : Nat} (hG : Sub 0x10000000000000000000000000000000000000000000000000000000000000000400000 G) (hS : Only G s0 s) :
    Only G s0 (State.huntAll s b) := by
  unfold State.huntAll
  refine State.each_only ?_ hS
  intro y1 u2 hu3
  try beta_reduce
  exact State.toHunt_only (hG.of rfl) hu3

theorem State.sflAdapt_only {s : State} {b : Nat} (hG : Sub 0x40000000000000000000000000000000000000000000000000000000000000000100000 G) (hS : Only G s0 s) :
    Only G s0 (State.sflAdapt s b) := by
  unfold State.sflAdapt
  extract_lets +onlyGivenNames -underBinder -merge __src_1
  refine State.sflState_only (hG.of rfl) ?_
  exact State.setTrain_only (hG.of rfl) hS

theorem State.enterSigdet_only {s : State} {b : Nat} (hG : Sub 0x60000100000000000000000000000000000000000000000000000000000000000100040 G) (hS : Only G s0 s) :
    Only G s0 (State.enterSigdet s b) := by
  unfold State.enterSigdet
  extract_lets +onlyGivenNames -underBinder -merge __src_1
  extract_lets +onlyGivenNames -underBinder -merge s_2
  have h3 : Only G s0 s_2 := by
    subst s_2
    exact State.setTrain_only (hG.of rfl) hS
  try clear_value s_2
  extract_lets +onlyGivenNames -underBinder -merge s_4
  have h5 : Only G s0 s_4 := by
    subst s_4
    refine State.set_only (hG.of rfl) ?_
    exact State.set_only (hG.of rfl) h3
  try clear_value s_4
  extract_lets +onlyGivenNames -underBinder -merge s_6
  have h7 : Only G s0 s_6 := by
    subst s_6
    refine State.set_only (hG.of rfl) ?_
    exact State.set_only (hG.of rfl) h5
  try clear_value s_6
  refine State.sflState_only (hG.of rfl) ?_
  refine State.sendControl_only (hG.of rfl) ?_
  exact State.startTx_only (hG.of rfl) h7

theorem State.sflFail_only {s : State} {b : Nat} {code : Nat} (hG : Sub 0x40000000000000010000008000000000010000000000000000000000000000000100000 G) (hS : Only G s0 s) :
    Only G s0 (State.sflFail s b code) := by
  unfold State.sflFail
  extract_lets +onlyGivenNames -underBinder -merge s_1
  have h2 : Only G s0 s_1 := by
    subst s_1
    exact State.set_only (hG.of rfl) hS
  try clear_value s_1
  extract_lets +onlyGivenNames -underBinder -merge s_3
  have h4 : Only G s0 s_3 := by
    subst s_3
    exact State.count_only (hG.of rfl) h2
  try clear_value s_3
  extract_lets +onlyGivenNames -underBinder -merge __src_5
  extract_lets +onlyGivenNames -underBinder -merge s_6
  have h7 : Only G s0 s_6 := by
    subst s_6
    exact State.setTrain_only (hG.of rfl) h4
  try clear_value s_6
  exact State.notice_only (hG.of rfl) h7

theorem State.updXoff_only {s : State} {b : Nat} {v : Nat} (hG : Sub 0x10000000 G) (hS : Only G s0 s) :
    Only G s0 (State.updXoff s b v) := by
  unfold State.updXoff
  extract_lets +onlyGivenNames -underBinder -merge i_1
  extract_lets +onlyGivenNames -underBinder -merge free_2
  extract_lets +onlyGivenNames -underBinder -merge thr_3
  refine Only.ite ?_ ?_
  · refine Only.ite ?_ ?_
    · exact hS
    · refine State.count_only (hG.of rfl) ?_
      exact State.set_only (hG.of rfl) hS
  · refine Only.ite ?_ ?_
    · exact State.set_only (hG.of rfl) hS
    · exact hS

theorem State.updThresholds_only {s : State} {b : Nat} (hG : Sub 0x10000008000000000010000000000000000000000000000010000000 G) (hS : Only G s0 s) :
    Only G s0 (State.updThresholds s b) := by
  unfold State.updThresholds
  extract_lets +onlyGivenNames -underBinder -merge thr_1
  refine State.each_only ?_ hS
  intro y2 u3 hu4
  try beta_reduce
  extract_lets +onlyGivenNames -underBinder -merge i_5
  extract_lets +onlyGivenNames -underBinder -merge short_6
  extract_lets +onlyGivenNames -underBinder -merge was_7
  extract_lets +onlyGivenNames -underBinder -merge t_8
  have h9 : Only G s0 t_8 := by
    subst t_8
    refine State.updXoff_only (hG.of rfl) ?_
    refine State.set_only (hG.of rfl) ?_
    exact State.set_only (hG.of rfl) hu4
  try clear_value t_8
  refine Only.ite ?_ ?_
  · exact State.notice_only (hG.of rfl) h9
  · exact h9

theorem State.emitCommand_only {s : State} {b : Nat} {bits : Nat} (hG : Sub 0xa0000100000000000000000000000000000000000000000000000000000000000000000 G) (hS : Only G s0 s) :
    Only G s0 (State.emitCommand s b bits) := by
  unfold State.emitCommand
  refine State.sendStream_only (hG.of rfl) ?_
  exact State.emit_only (hG.of rfl) hS

theorem State.sendCommand_only {s : State} {b : Nat} {bits : Nat} (hG : Sub 0xa0000100000000000000000000000000000000000000000000000000000000000000000 G) (hS : Only G s0 s) :
    Only G s0 (State.sendCommand s b bits) := by
  unfold State.sendCommand
  extract_lets +onlyGivenNames -underBinder -merge x_1
  refine Only.ite ?_ ?_
  · exact State.setLink_only (hG.of rfl) hS
  · exact State.emitCommand_only (hG.of rfl) hS

theorem State.flushCommands_only {s : State} {b : Nat} (hG : Sub 0xa0000100000000000000000000000000000000000000000000000000000000000000000 G) (hS : Only G s0 s) :
    Only G s0 (State.flushCommands s b) := by
  unfold State.flushCommands
  extract_lets +onlyGivenNames -underBinder -merge x_1
  refine Only.fold ?_ ?_
  · intro u2 y4 hu3
    try beta_reduce
    exact State.emitCommand_only (hG.of rfl) hu3
  · exact State.setLink_only (hG.of rfl) hS

theorem State.sendKeysync_only {s : State} {b : Nat} (hG : Sub 0xa0000100000000000000000000000000000000000000000000000000000000000000000 G) (hS : Only G s0 s) :
    Only G s0 (State.sendKeysync s b) := by
  unfold State.sendKeysync
  refine Only.ite ?_ ?_
  · refine State.sendCommand_only (hG.of rfl) ?_
    exact State.sendCommand_only (hG.of rfl) hS
  · exact hS

theorem State.showTxCount_only {s : State} {b : Nat} (hG : Sub 0x40000000 G) (hS : Only G s0 s) :
    Only G s0 (State.showTxCount s b) := by
  unfold State.showTxCount
  extract_lets +onlyGivenNames -underBinder -merge k_1
  exact State.set_only (hG.of rfl) hS

theorem State.setTxState_only {s : State} {b : Nat} {st : Nat} (hG : Sub 0x80000000000000000000000000000000000000000000000000000000000000001000000 G) (hS : Only G s0 s) :
    Only G s0 (State.setTxState s b st) := by
  unfold State.setTxState
  extract_lets +onlyGivenNames -underBinder -merge x_1
  refine State.set_only (hG.of rfl) ?_
  exact State.setLink_only (hG.of rfl) hS

theorem State.retagRx_only {s : State} {b : Nat} {mask : Nat} (hG : Sub 0x10000000000000000000000000000000000000000000000000000000000000000000000 G) (hS : Only G s0 s) :
    Only G s0 (State.retagRx s b mask) := by
  unfold State.retagRx
  refine State.each_only ?_ hS
  intro y1 u2 hu3
  try beta_reduce
  extract_lets +onlyGivenNames -underBinder -merge x_4
  refine Only.ite ?_ ?_
  · exact State.setSflLane_only (hG.of rfl) hu3
  · exact hu3

theorem State.sflActive_only {s : State} {b : Nat} (hG : Sub 0x1b000a100000000010000008000000000010000000000000000000000000200051110040 G) (hS : Only G s0 s) :
    Only G s0 (State.sflActive s b) := by
  unfold State.sflActive
  extract_lets +onlyGivenNames -underBinder -merge x_1
  extract_lets +onlyGivenNames -underBinder -merge mask_2
  extract_lets +onlyGivenNames -underBinder -merge n_3
  extract_lets +onlyGivenNames -underBinder -merge up_4
  extract_lets +onlyGivenNames -underBinder -merge enc_5
  extract_lets +onlyGivenNames -underBinder -merge __src_6
  extract_lets +onlyGivenNames -underBinder -merge s_7
  have h8 : Only G s0 s_7 := by
    subst s_7
    exact State.setLink_only (hG.of rfl) hS
  try clear_value s_7
  extract_lets +onlyGivenNames -underBinder -merge s_9
  have h10 : Only G s0 s_9 := by
    subst s_9
    refine State.set_only (hG.of rfl) ?_
    exact State.sflState_only (hG.of rfl) h8
  try clear_value s_9
  extract_lets +onlyGivenNames -underBinder -merge s_11
  have h12 : Only G s0 s_11 := by
    subst s_11
    exact State.set_only (hG.of rfl) h10
  try clear_value s_11
  extract_lets +onlyGivenNames -underBinder -merge s_13
  have h14 : Only G s0 s_13 := by
    subst s_13
    exact State.set_only (hG.of rfl) h12
  try clear_value s_13
  extract_lets +onlyGivenNames -underBinder -merge s_15
  have h16 : Only G s0 s_15 := by
    subst s_15
    exact State.set_only (hG.of rfl) h14
  try clear_value s_15
  extract_lets +onlyGivenNames -underBinder -merge s_17
  have h18 : Only G s0 s_17 := by
    subst s_17
    exact State.set_only (hG.of rfl) h16
  try clear_value s_17
  extract_lets +onlyGivenNames -underBinder -merge s_19
  have h20 : Only G s0 s_19 := by
    subst s_19
    refine State.each_only ?_ h18
    intro y21 u22 hu23
    try beta_reduce
    extract_lets +onlyGivenNames -underBinder -merge i_24
    extract_lets +onlyGivenNames -underBinder -merge kept_25
    refine State.set_only (hG.of rfl) ?_
    exact State.set_only (hG.of rfl) hu23
  try clear_value s_19
  extract_lets +onlyGivenNames -underBinder -merge s_26
  have h27 : Only G s0 s_26 := by
    subst s_26
    refine State.showTxCount_only (hG.of rfl) ?_
    exact State.updThresholds_only (hG.of rfl) h20
  try clear_value s_26
  extract_lets +onlyGivenNames -underBinder -merge s_28
  have h29 : Only G s0 s_28 := by
    subst s_28
    refine State.retagRx_only (hG.of rfl) ?_
    exact State.retag_only (hG.of rfl) h27
  try clear_value s_28
  extract_lets +onlyGivenNames -underBinder -merge s_30
  have h31 : Only G s0 s_30 := by
    subst s_30
    exact State.set_only (hG.of rfl) h29
  try clear_value s_30
  extract_lets +onlyGivenNames -underBinder -merge s_32
  have h33 : Only G s0 s_32 := by
    subst s_32
    exact State.set_only (hG.of rfl) h31
  try clear_value s_32
  extract_lets +onlyGivenNames -underBinder -merge s_34
  have h35 : Only G s0 s_34 := by
    subst s_34
    exact State.set_only (hG.of rfl) h33
  try clear_value s_34
  refine State.sendKeysync_only (hG.of rfl) ?_
  exact State.reachDlUp_only (hG.of rfl) h35

theorem State.sflDeclareDown_only {s : State} {b : Nat} (hG : Sub 0x18004020000005e006a100000000010000008000000000010000000000084000000000001200805118440 G) (hS : Only G s0 s) :
    Only G s0 (State.sflDeclareDown s b) := by
  unfold State.sflDeclareDown
  extract_lets +onlyGivenNames -underBinder -merge s_1
  have h2 : Only G s0 s_1 := by
    subst s_1
    exact State.count_only (hG.of rfl) hS
  try clear_value s_1
  extract_lets +onlyGivenNames -underBinder -merge s_3
  have h4 : Only G s0 s_3 := by
    subst s_3
    exact State.notice_only (hG.of rfl) h2
  try clear_value s_3
  extract_lets +onlyGivenNames -underBinder -merge s_5
  have h6 : Only G s0 s_5 := by
    subst s_5
    refine State.sflDrop_only (hG.of rfl) ?_
    exact State.sflLost_only (hG.of rfl) h4
  try clear_value s_5
  extract_lets +onlyGivenNames -underBinder -merge s_7
  have h8 : Only G s0 s_7 := by
    subst s_7
    exact State.portDown_only (hG.of rfl) h6
  try clear_value s_7
  refine State.enterSigdet_only (hG.of rfl) ?_
  exact State.quench_only (hG.of rfl) h8

end Sys2Proof.Machine
end

