-- ==== Sys2Proof/Laws/FrameSflPhy.lean ====
section
/-! SUPPORT. The frame of each function of Machine/SflPhy.lean: the parts of the state that it may change, as a set of bits (StatePart.place), with the canonical form kept. -/

namespace Sys2Proof.Machine

variable {G : Nat} {s0 : State}

theorem markerCandidate_only {b : Nat} {k : Nat} {m : Word} {spacing : Nat} {inverted : Bool} {s : State} (hG : Sub 0x10000000000000000000000000000000000000000000000000000000000000000400000 G) (hS : Only G s0 s) :
    Only G s0 (markerCandidate b k m spacing inverted s) := by
  unfold markerCandidate
  extract_lets +onlyGivenNames -underBinder -merge x_1
  extract_lets +onlyGivenNames -underBinder -merge id_2
  extract_lets +onlyGivenNames -underBinder -merge follows_3
  extract_lets +onlyGivenNames -underBinder -merge n_4
  extract_lets +onlyGivenNames -underBinder -merge x_5
  extract_lets +onlyGivenNames -underBinder -merge x_6
  refine Only.ite ?_ ?_
  · exact hS
  · refine Only.ite ?_ ?_
    · refine State.set_only (hG.of rfl) ?_
      refine State.set_only (hG.of rfl) ?_
      exact State.setSflLane_only (hG.of rfl) hS
    · exact State.setSflLane_only (hG.of rfl) hS

theorem markerCheck_only {b : Nat} {k : Nat} {m : Word} {late : Bool} {s : State} (hG : Sub 0x10000000000000000000000000000000000000000000000000000000000000000400000 G) (hS : Only G s0 s) :
    Only G s0 (markerCheck b k m late s) := by
  unfold markerCheck
  extract_lets +onlyGivenNames -underBinder -merge x_1
  extract_lets +onlyGivenNames -underBinder -merge lateNow_2
  extract_lets +onlyGivenNames -underBinder -merge ok_3
  extract_lets +onlyGivenNames -underBinder -merge __src_4
  extract_lets +onlyGivenNames -underBinder -merge y_5
  extract_lets +onlyGivenNames -underBinder -merge s_6
  have h7 : Only G s0 s_6 := by
    subst s_6
    exact State.count_only (hG.of rfl) hS
  try clear_value s_6
  refine Only.ite ?_ ?_
  · exact hS
  · refine Only.ite ?_ ?_
    · refine State.set_only (hG.of rfl) ?_
      exact State.setSflLane_only (hG.of rfl) hS
    · refine Only.ite ?_ ?_
      · exact State.toHunt_only (hG.of rfl) h7
      · exact State.setSflLane_only (hG.of rfl) h7

theorem State.fecSecond_only {s : State} {b : Nat} (hG : Sub 0x1b014020000005f006a1000000000100000080000403e0050000000010084000000000001200805518441 G) (hS : Only G s0 s) :
    Only G s0 (State.fecSecond s b) := by
  unfold State.fecSecond
  extract_lets +onlyGivenNames -underBinder -merge x_1
  extract_lets +onlyGivenNames -underBinder -merge now_2
  extract_lets +onlyGivenNames -underBinder -merge n_3
  extract_lets +onlyGivenNames -underBinder -merge s_4
  have h5 : Only G s0 s_4 := by
    subst s_4
    exact State.setTrain_only (hG.of rfl) hS
  try clear_value s_4
  refine Only.ite ?_ ?_
  · exact State.cause_only (hG.of rfl) h5
  · exact h5

theorem State.countSymbols_only {s : State} {b : Nat} {k : Nat} {n : Nat} (hG : Sub 0x8000000000000000000000000000000000000000000000400 G) (hS : Only G s0 s) :
    Only G s0 (State.countSymbols s b k n) := by
  unfold State.countSymbols
  extract_lets +onlyGivenNames -underBinder -merge i_1
  refine State.tallyPort_only (hG.of rfl) ?_
  refine State.count_only (hG.of rfl) ?_
  exact State.count_only (hG.of rfl) hS

theorem codewordDecode_only {b : Nat} {k : Nat} {ok : Bool} {symbols : Nat} {levels : List Nat} {s : State} (hG : Sub 0x1b014020000005f006a1000000000100000080000403e0050000000010084000000000001200805518641 G) (hS : Only G s0 s) :
    Only G s0 (codewordDecode b k ok symbols levels s) := by
  unfold codewordDecode
  extract_lets +onlyGivenNames -underBinder -merge i_1
  extract_lets +onlyGivenNames -underBinder -merge p_2
  extract_lets +onlyGivenNames -underBinder -merge x_3
  extract_lets +onlyGivenNames -underBinder -merge word_4
  refine Only.ite ?_ ?_
  · refine Only.ite ?_ ?_
    · exact hS
    · split
      · extract_lets +onlyGivenNames -underBinder -merge s_5
        have h6 : Only G s0 s_5 := by
          subst s_5
          exact State.setSflLane_only (hG.of rfl) hS
        try clear_value s_5
        refine Only.ite ?_ ?_
        · exact h6
        · refine State.countSymbols_only (hG.of rfl) ?_
          exact State.count_only (hG.of rfl) h6
      · extract_lets +onlyGivenNames -underBinder -merge s_7
        have h8 : Only G s0 s_7 := by
          subst s_7
          refine State.fecSecond_only (hG.of rfl) ?_
          exact State.count_only (hG.of rfl) hS
        try clear_value s_7
        refine Only.ite ?_ ?_
        · exact State.toHunt_only (hG.of rfl) h8
        · exact State.setSflLane_only (hG.of rfl) h8
  · refine Only.ite ?_ ?_
    · exact hS
    · refine Only.ite ?_ ?_
      · refine Only.ite ?_ ?_
        · exact hS
        · exact State.countSymbols_only (hG.of rfl) hS
      · refine State.fecSecond_only (hG.of rfl) ?_
        exact State.count_only (hG.of rfl) hS

theorem calibrationDone_only {b : Nat} {failed : Nat} {s : State} (hG : Sub 0x1b014020000005f006a9000000000100000080000487e00500000000100840000000000012008055184c1 G) (hS : Only G s0 s) :
    Only G s0 (calibrationDone b failed s) := by
  unfold calibrationDone
  extract_lets +onlyGivenNames -underBinder -merge s_1
  have h2 : Only G s0 s_1 := by
    subst s_1
    refine State.each_only ?_ hS
    intro y3 u4 hu5
    try beta_reduce
    exact State.markPair_only (hG.of rfl) hu5
  try clear_value s_1
  refine Only.ite ?_ ?_
  · refine State.enterSigdet_only (hG.of rfl) ?_
    exact State.setPort_only (hG.of rfl) h2
  · exact hS

theorem State.askPreset_only {s : State} {b : Nat} (hG : Sub 0x40000080000000000000000000000000000000000000000000000000000000000000000 G) (hS : Only G s0 s) :
    Only G s0 (State.askPreset s b) := by
  unfold State.askPreset
  extract_lets +onlyGivenNames -underBinder -merge __src_1
  refine State.fresh_only (hG.of rfl) ?_
  exact State.setTrain_only (hG.of rfl) hS

theorem State.sendTrain_only {s : State} {b : Nat} (hG : Sub 0x20000100000000000000000000000000000000000000000000000000000000000000000 G) (hS : Only G s0 s) :
    Only G s0 (State.sendTrain s b) := by
  unfold State.sendTrain
  extract_lets +onlyGivenNames -underBinder -merge x_1
  extract_lets +onlyGivenNames -underBinder -merge bits_2
  refine State.sendControl_only (hG.of rfl) ?_
  exact State.emit_only (hG.of rfl) hS

theorem State.startAdapt_only {s : State} {b : Nat} (hG : Sub 0x60000180000000000000000000000000000000000000000000000000000000000100000 G) (hS : Only G s0 s) :
    Only G s0 (State.startAdapt s b) := by
  unfold State.startAdapt
  refine State.sendTrain_only (hG.of rfl) ?_
  refine State.askPreset_only (hG.of rfl) ?_
  exact State.sflAdapt_only (hG.of rfl) hS

theorem signalDetect_only {b : Nat} {pairs : Nat} {s : State} (hG : Sub 0x70000180000000000000000000000000000000000000000000000000000000000500000 G) (hS : Only G s0 s) :
    Only G s0 (signalDetect b pairs s) := by
  unfold signalDetect
  extract_lets +onlyGivenNames -underBinder -merge s_1
  have h2 : Only G s0 s_1 := by
    subst s_1
    refine State.each_only ?_ hS
    intro y3 u4 hu5
    try beta_reduce
    extract_lets +onlyGivenNames -underBinder -merge __src_6
    refine State.set_only (hG.of rfl) ?_
    exact State.setSflLane_only (hG.of rfl) hu5
  try clear_value s_1
  extract_lets +onlyGivenNames -underBinder -merge __src_7
  extract_lets +onlyGivenNames -underBinder -merge s_8
  have h9 : Only G s0 s_8 := by
    subst s_8
    exact State.setTrain_only (hG.of rfl) h2
  try clear_value s_8
  refine Only.ite ?_ ?_
  · refine State.startAdapt_only (hG.of rfl) ?_
    exact State.set_only (hG.of rfl) h9
  · exact hS

theorem trainBlockReceived_only {b : Nat} {k : Nat} {x : Block} {s : State} (hG : Sub 0x70000100000000000000000000000000000000000000000000000000000000000400000 G) (hS : Only G s0 s) :
    Only G s0 (trainBlockReceived b k x s) := by
  unfold trainBlockReceived
  extract_lets +onlyGivenNames -underBinder -merge lead_1
  extract_lets +onlyGivenNames -underBinder -merge r_2
  have h3 : Only G s0 r_2.1 := by
    subst r_2
    exact State.takeBlock_only (hG.of rfl) hS
  try clear_value r_2
  extract_lets +onlyGivenNames -underBinder -merge s_4
  have h5 : Only G s0 s_4 := by
    subst s_4
    exact h3
  try clear_value s_4
  extract_lets +onlyGivenNames -underBinder -merge f_6
  extract_lets +onlyGivenNames -underBinder -merge y_7
  extract_lets +onlyGivenNames -underBinder -merge s_8
  have h9 : Only G s0 s_8 := by
    subst s_8
    exact State.setTrain_only (hG.of rfl) h5
  try clear_value s_8
  refine Only.ite ?_ ?_
  · exact hS
  · refine Only.ite ?_ ?_
    · exact h5
    · exact State.sendTrain_only (hG.of rfl) h9

theorem State.sendDone_only {s : State} {b : Nat} (hG : Sub 0x60000100000000000000000000000000000000000000000000000000000000000000000 G) (hS : Only G s0 s) :
    Only G s0 (State.sendDone s b) := by
  unfold State.sendDone
  extract_lets +onlyGivenNames -underBinder -merge __src_1
  refine Only.ite ?_ ?_
  · exact hS
  · refine State.sendTrain_only (hG.of rfl) ?_
    exact State.setTrain_only (hG.of rfl) hS

theorem adaptDone_only {b : Nat} {s : State} (hG : Sub 0x60000100000000000000000000000000000000000000000000000000000000000100000 G) (hS : Only G s0 s) :
    Only G s0 (adaptDone b s) := by
  unfold adaptDone
  extract_lets +onlyGivenNames -underBinder -merge x_1
  extract_lets +onlyGivenNames -underBinder -merge all'_2
  extract_lets +onlyGivenNames -underBinder -merge s_3
  have h4 : Only G s0 s_3 := by
    subst s_3
    exact State.sendDone_only (hG.of rfl) hS
  try clear_value s_3
  extract_lets +onlyGivenNames -underBinder -merge __src_5
  refine Only.ite ?_ ?_
  · exact hS
  · refine Only.ite ?_ ?_
    · refine Only.ite ?_ ?_
      · refine State.sflState_only (hG.of rfl) ?_
        exact State.setTrain_only (hG.of rfl) h4
      · exact h4
    · exact hS

theorem adaptBoundExceeded_only {b : Nat} {s : State} (hG : Sub 0x60000100000000010000008000000000010000000000000000000000000000000100000 G) (hS : Only G s0 s) :
    Only G s0 (adaptBoundExceeded b s) := by
  unfold adaptBoundExceeded
  extract_lets +onlyGivenNames -underBinder -merge __src_1
  refine Only.ite ?_ ?_
  · exact hS
  · refine Only.ite ?_ ?_
    · refine State.sendDone_only (hG.of rfl) ?_
      exact State.setTrain_only (hG.of rfl) hS
    · exact State.sflFail_only (hG.of rfl) hS

theorem adaptPartnerDoneTimeout_only {b : Nat} {s : State} (hG : Sub 0x40000000000000010000008000000000010000000000000000000000000000000100000 G) (hS : Only G s0 s) :
    Only G s0 (adaptPartnerDoneTimeout b s) := by
  unfold adaptPartnerDoneTimeout
  extract_lets +onlyGivenNames -underBinder -merge x_1
  refine Only.ite ?_ ?_
  · exact State.sflFail_only (hG.of rfl) hS
  · exact hS

theorem State.sendCap_only {s : State} {b : Nat} (hG : Sub 0x60000100000000000000000000000000000000000000000000000000000000000000000 G) (hS : Only G s0 s) :
    Only G s0 (State.sendCap s b) := by
  unfold State.sendCap
  extract_lets +onlyGivenNames -underBinder -merge x_1
  extract_lets +onlyGivenNames -underBinder -merge ack_2
  extract_lets +onlyGivenNames -underBinder -merge bits_3
  extract_lets +onlyGivenNames -underBinder -merge s_4
  have h5 : Only G s0 s_4 := by
    subst s_4
    exact State.setTrain_only (hG.of rfl) hS
  try clear_value s_4
  refine State.sendControl_only (hG.of rfl) ?_
  exact State.emit_only (hG.of rfl) h5

theorem State.enterCheck_only {s : State} {b : Nat} (hG : Sub 0xe0000100000000000000000000000000000000000000000000000000000000000100000 G) (hS : Only G s0 s) :
    Only G s0 (State.enterCheck s b) := by
  unfold State.enterCheck
  extract_lets +onlyGivenNames -underBinder -merge mask_1
  extract_lets +onlyGivenNames -underBinder -merge __src_2
  extract_lets +onlyGivenNames -underBinder -merge s_3
  have h4 : Only G s0 s_3 := by
    subst s_3
    exact State.setTrain_only (hG.of rfl) hS
  try clear_value s_3
  extract_lets +onlyGivenNames -underBinder -merge __src_5
  extract_lets +onlyGivenNames -underBinder -merge s_6
  have h7 : Only G s0 s_6 := by
    subst s_6
    exact State.setLink_only (hG.of rfl) h4
  try clear_value s_6
  refine State.sflState_only (hG.of rfl) ?_
  refine Only.fold ?_ h7
  intro u8 y10 hu9
  try beta_reduce
  exact State.sendUnit_only (hG.of rfl) hu9

theorem deskewRelease_only {b : Nat} {skews : List Nat} {s : State} (hG : Sub 0xf0000100000000010000008000000000010000000000000000000000000000000500000 G) (hS : Only G s0 s) :
    Only G s0 (deskewRelease b skews s) := by
  unfold deskewRelease
  extract_lets +onlyGivenNames -underBinder -merge x_1
  extract_lets +onlyGivenNames -underBinder -merge lane_2
  extract_lets +onlyGivenNames -underBinder -merge skew_3
  extract_lets +onlyGivenNames -underBinder -merge s_4
  have h5 : Only G s0 s_4 := by
    subst s_4
    refine State.each_only ?_ hS
    intro y6 u7 hu8
    try beta_reduce
    extract_lets +onlyGivenNames -underBinder -merge __src_9
    refine State.set_only (hG.of rfl) ?_
    exact State.setSflLane_only (hG.of rfl) hu8
  try clear_value s_4
  extract_lets +onlyGivenNames -underBinder -merge locked_10
  extract_lets +onlyGivenNames -underBinder -merge wide_11
  extract_lets +onlyGivenNames -underBinder -merge ok_12
  extract_lets +onlyGivenNames -underBinder -merge s_13
  have h14 : Only G s0 s_13 := by
    subst s_13
    exact State.setTrain_only (hG.of rfl) h5
  try clear_value s_13
  refine Only.ite ?_ ?_
  · exact hS
  · refine Only.ite ?_ ?_
    · exact State.sflFail_only (hG.of rfl) h5
    · refine Only.ite ?_ ?_
      · exact State.enterCheck_only (hG.of rfl) h14
      · refine State.sendCap_only (hG.of rfl) ?_
        exact State.sflState_only (hG.of rfl) h14

theorem State.showPeer_only {s : State} {b : Nat} {cap : Nat} (hG : Sub 0x200000 G) (hS : Only G s0 s) :
    Only G s0 (State.showPeer s b cap) := by
  unfold State.showPeer
  exact State.setReg_only (hG.of rfl) hS

theorem capBlockReceived_only {b : Nat} {bits : Nat} {s : State} (hG : Sub 0x60000100000000000000000000000000000000000000000000000000000000000200000 G) (hS : Only G s0 s) :
    Only G s0 (capBlockReceived b bits s) := by
  unfold capBlockReceived
  extract_lets +onlyGivenNames -underBinder -merge x_1
  extract_lets +onlyGivenNames -underBinder -merge ack_2
  extract_lets +onlyGivenNames -underBinder -merge content_3
  extract_lets +onlyGivenNames -underBinder -merge y_4
  extract_lets +onlyGivenNames -underBinder -merge s_5
  have h6 : Only G s0 s_5 := by
    subst s_5
    refine Only.ite ?_ ?_
    · exact hS
    · exact State.showPeer_only (hG.of rfl) hS
  try clear_value s_5
  refine Only.ite ?_ ?_
  · exact hS
  · refine State.sendCap_only (hG.of rfl) ?_
    exact State.setTrain_only (hG.of rfl) h6

theorem State.substitute_only {s : State} {b : Nat} {l : Nat} (hG : Sub 0x20000001b014020000005f006a9000000000100000080000487e00500000000100840000000000012008055184c1 G) (hS : Only G s0 s) :
    Only G s0 (State.substitute s b l) := by
  unfold State.substitute
  extract_lets +onlyGivenNames -underBinder -merge d_1
  extract_lets +onlyGivenNames -underBinder -merge s_2
  have h3 : Only G s0 s_2 := by
    subst s_2
    refine State.mapSpare_only (hG.of rfl) ?_
    exact State.markPair_only (hG.of rfl) hS
  try clear_value s_2
  extract_lets +onlyGivenNames -underBinder -merge s_4
  have h5 : Only G s0 s_4 := by
    subst s_4
    split
    · extract_lets +onlyGivenNames -underBinder -merge __src_6
      exact State.setSflLane_only (hG.of rfl) h3
    · exact h3
  try clear_value s_4
  extract_lets +onlyGivenNames -underBinder -merge __src_7
  exact State.setSflLane_only (hG.of rfl) h5

theorem State.powerDown_only {s : State} {b : Nat} (hG : Sub 0x30000000000000000000000000000000000000000000000000000000000000000400000 G) (hS : Only G s0 s) :
    Only G s0 (State.powerDown s b) := by
  unfold State.powerDown
  refine State.each_only ?_ hS
  intro y1 u2 hu3
  try beta_reduce
  refine State.setTx_only (hG.of rfl) ?_
  refine State.set_only (hG.of rfl) ?_
  exact State.setSflLane_only (hG.of rfl) hu3

theorem State.capxSettle_only {s : State} {b : Nat} {rev : Nat} {width : Nat} {both : Nat} {subst : List Nat} {enc : Bool} {fast : Bool} (hG : Sub 0x20000001b014020000005f006a9800000000100000080000487e00500000000100840000000000012008457184c1 G) (hS : Only G s0 s) :
    Only G s0 (State.capxSettle s b rev width both subst enc fast) := by
  unfold State.capxSettle
  extract_lets +onlyGivenNames -underBinder -merge s_1
  have h2 : Only G s0 s_1 := by
    subst s_1
    exact State.showPeer_only (hG.of rfl) hS
  try clear_value s_1
  extract_lets +onlyGivenNames -underBinder -merge s_3
  have h4 : Only G s0 s_3 := by
    subst s_3
    refine State.set_only (hG.of rfl) ?_
    exact State.set_only (hG.of rfl) h2
  try clear_value s_3
  extract_lets +onlyGivenNames -underBinder -merge s_5
  have h6 : Only G s0 s_5 := by
    subst s_5
    refine Only.ite ?_ ?_
    · exact State.powerDown_only (hG.of rfl) h4
    · exact h4
  try clear_value s_5
  extract_lets +onlyGivenNames -underBinder -merge s_7
  have h8 : Only G s0 s_7 := by
    subst s_7
    refine State.each_only ?_ h6
    intro y9 u10 hu11
    try beta_reduce
    exact State.substitute_only (hG.of rfl) hu11
  try clear_value s_7
  extract_lets +onlyGivenNames -underBinder -merge x_12
  extract_lets +onlyGivenNames -underBinder -merge agreed_13
  extract_lets +onlyGivenNames -underBinder -merge s_14
  have h15 : Only G s0 s_14 := by
    subst s_14
    exact State.setTrain_only (hG.of rfl) h8
  try clear_value s_14
  extract_lets +onlyGivenNames -underBinder -merge s_16
  have h17 : Only G s0 s_16 := by
    subst s_16
    exact State.retag_only (hG.of rfl) h15
  try clear_value s_16
  extract_lets +onlyGivenNames -underBinder -merge __src_18
  extract_lets +onlyGivenNames -underBinder -merge s_19
  have h20 : Only G s0 s_19 := by
    subst s_19
    refine State.set_only (hG.of rfl) ?_
    exact State.setTrain_only (hG.of rfl) h17
  try clear_value s_19
  refine Only.ite ?_ ?_
  · refine State.startAdapt_only (hG.of rfl) ?_
    refine State.huntAll_only (hG.of rfl) ?_
    refine State.retag_only (hG.of rfl) ?_
    exact State.startTx_only (hG.of rfl) h20
  · refine Only.ite ?_ ?_
    · exact State.startAdapt_only (hG.of rfl) h17
    · exact State.enterCheck_only (hG.of rfl) h17

theorem State.capxDecide_only {s : State} {b : Nat} {own : Nat} {cap : Nat} {x : SflTrain} (hG : Sub 0x20000001b014020000005f006a9800000000100000080000487e00500000000100840000000000012008457184c1 G) (hS : Only G s0 s) :
    Only G s0 (State.capxDecide s b own cap x) := by
  unfold State.capxDecide
  extract_lets +onlyGivenNames -underBinder -merge f_1
  extract_lets +onlyGivenNames -underBinder -merge rev_2
  extract_lets +onlyGivenNames -underBinder -merge width_3
  extract_lets +onlyGivenNames -underBinder -merge both_4
  extract_lets +onlyGivenNames -underBinder -merge spares_5
  extract_lets +onlyGivenNames -underBinder -merge subst_6
  refine Only.ite ?_ ?_
  · exact State.sflFail_only (hG.of rfl) hS
  · refine Only.ite ?_ ?_
    · exact State.sflFail_only (hG.of rfl) hS
    · refine Only.ite ?_ ?_
      · exact State.sflFail_only (hG.of rfl) hS
      · exact State.capxSettle_only (hG.of rfl) hS

theorem capxComplete_only {b : Nat} {more : Nat} {s : State} (hG : Sub 0x20000001b014020000005f006a9800000000100000080000487e00500000000100840000000000012008457184c1 G) (hS : Only G s0 s) :
    Only G s0 (capxComplete b more s) := by
  unfold capxComplete
  extract_lets +onlyGivenNames -underBinder -merge s_1
  have h2 : Only G s0 s_1 := by
    subst s_1
    refine Only.fold ?_ hS
    intro u3 y5 hu4
    try beta_reduce
    exact State.sendCap_only (hG.of rfl) hu4
  try clear_value s_1
  extract_lets +onlyGivenNames -underBinder -merge x_7
  refine Only.ite ?_ ?_
  · exact hS
  · refine Only.ite ?_ ?_
    · exact h2
    · exact State.capxDecide_only (hG.of rfl) h2

theorem capxTimeout_only {b : Nat} {s : State} (hG : Sub 0x40000000000000010000008000000000010000000000000000000000000000000100000 G) (hS : Only G s0 s) :
    Only G s0 (capxTimeout b s) := by
  unfold capxTimeout
  refine Only.ite ?_ ?_
  · exact State.sflFail_only (hG.of rfl) hS
  · exact hS

theorem trainingFailBackoffEnd_only {b : Nat} {s : State} (hG : Sub 0x60000100000000000000000000000000000000000000000000000000000000000100040 G) (hS : Only G s0 s) :
    Only G s0 (trainingFailBackoffEnd b s) := by
  unfold trainingFailBackoffEnd
  refine Only.ite ?_ ?_
  · exact State.enterSigdet_only (hG.of rfl) hS
  · exact hS

theorem checkUnitReceived_only {b : Nat} {blocks : List Block} {s : State} (hG : Sub 0x1f000a180000000010000008000000000010000000000000000000000000200051510040 G) (hS : Only G s0 s) :
    Only G s0 (checkUnitReceived b blocks s) := by
  unfold checkUnitReceived
  extract_lets +onlyGivenNames -underBinder -merge r_1
  have h2 : Only G s0 r_1.1 := by
    subst r_1
    exact State.takeUnit_only (hG.of rfl) hS
  try clear_value r_1
  extract_lets +onlyGivenNames -underBinder -merge s_3
  have h4 : Only G s0 s_3 := by
    subst s_3
    exact h2
  try clear_value s_3
  extract_lets +onlyGivenNames -underBinder -merge x_5
  extract_lets +onlyGivenNames -underBinder -merge s_6
  have h7 : Only G s0 s_6 := by
    subst s_6
    refine State.huntAll_only (hG.of rfl) ?_
    exact State.count_only (hG.of rfl) h4
  try clear_value s_6
  refine Only.ite ?_ ?_
  · exact hS
  · refine Only.ite ?_ ?_
    · refine Only.ite ?_ ?_
      · refine State.sflActive_only (hG.of rfl) ?_
        exact State.setTrain_only (hG.of rfl) h4
      · exact State.setTrain_only (hG.of rfl) h4
    · refine Only.ite ?_ ?_
      · refine State.sflFail_only (hG.of rfl) ?_
        exact State.setTrain_only (hG.of rfl) h7
      · refine State.startAdapt_only (hG.of rfl) ?_
        exact State.setTrain_only (hG.of rfl) h7

theorem partnerRetrainDetect_only {b : Nat} {run' : Nat} {s : State} (hG : Sub 0x18004020000005e006a100000000010000008000000000010000000000084000000000001200805118440 G) (hS : Only G s0 s) :
    Only G s0 (partnerRetrainDetect b run' s) := by
  unfold partnerRetrainDetect
  refine Only.ite ?_ ?_
  · exact State.sflDeclareDown_only (hG.of rfl) hS
  · exact hS

theorem sflRetrainWrite_only {b : Nat} {s : State} (hG : Sub 0x18004020000005e006a100000000010000008000000000010000000000084000000000001200805118440 G) (hS : Only G s0 s) :
    Only G s0 (sflRetrainWrite b s) := by
  unfold sflRetrainWrite
  refine Only.ite ?_ ?_
  · exact hS
  · refine Only.ite ?_ ?_
    · exact State.sflDeclareDown_only (hG.of rfl) hS
    · refine State.enterSigdet_only (hG.of rfl) ?_
      exact State.setPort_only (hG.of rfl) hS

end Sys2Proof.Machine
end

