-- ==== Sys2Proof/Laws/FrameSflLink.lean ====
section
/-! SUPPORT. The frame of each function of Machine/SflLink.lean: the parts of the state that it may change, as a set of bits (StatePart.place), with the canonical form kept. -/

namespace Sys2Proof.Machine

variable {G : Nat} {s0 : State}

theorem State.linkBytes_only {s : State} {b : Nat} {sent : Bool} (hG : Sub 0x8000000000000000000000000000000000000000000000000 G) (hS : Only G s0 s) :
    Only G s0 (State.linkBytes s b sent) := by
  unfold State.linkBytes
  refine State.fixed_only (hG.of rfl) ?_
  exact State.tallyPort_only (hG.of rfl) hS

theorem State.sendNull_only {s : State} {b : Nat} (hG : Sub 0xa0000100000000000000008000000000000000000000000000000000000000000000000 G) (hS : Only G s0 s) :
    Only G s0 (State.sendNull s b) := by
  unfold State.sendNull
  extract_lets +onlyGivenNames -underBinder -merge x_1
  extract_lets +onlyGivenNames -underBinder -merge body_2
  refine State.sendUnit_only (hG.of rfl) ?_
  refine State.tallyBlock_only (hG.of rfl) ?_
  exact State.setLink_only (hG.of rfl) hS

theorem dataUnitSend_only {b : Nat} {s : State} (hG : Sub 0xa0000100000000000000008000000000000000000000000000000000000000041000000 G) (hS : Only G s0 s) :
    Only G s0 (dataUnitSend b s) := by
  unfold dataUnitSend
  extract_lets +onlyGivenNames -underBinder -merge x_1
  extract_lets +onlyGivenNames -underBinder -merge s_2
  have h3 : Only G s0 s_2 := by
    subst s_2
    exact State.setTxState_only (hG.of rfl) hS
  try clear_value s_2
  refine Only.ite ?_ ?_
  · exact hS
  · refine Only.ite ?_ ?_
    · refine State.sendNull_only (hG.of rfl) ?_
      exact State.setTxState_only (hG.of rfl) hS
    · split
      · exact State.sendNull_only (hG.of rfl) h3
      · split
        · extract_lets +onlyGivenNames -underBinder -merge __src_4
          extract_lets +onlyGivenNames -underBinder -merge y_5
          extract_lets +onlyGivenNames -underBinder -merge s_6
          have h7 : Only G s0 s_6 := by
            subst s_6
            exact State.setLink_only (hG.of rfl) h3
          try clear_value s_6
          extract_lets +onlyGivenNames -underBinder -merge s_8
          have h9 : Only G s0 s_8 := by
            subst s_8
            exact State.set_only (hG.of rfl) h7
          try clear_value s_8
          refine State.sendUnit_only (hG.of rfl) ?_
          refine State.linkBytes_only (hG.of rfl) ?_
          refine State.tallyBlock_only (hG.of rfl) ?_
          exact State.showTxCount_only (hG.of rfl) h9

theorem State.ackFree_only {s : State} {b : Nat} {aseq : Nat} (hG : Sub 0x80000000000000000000000000000000000000000000000000000000000000001000000 G) (hS : Only G s0 s) :
    Only G s0 (State.ackFree s b aseq) := by
  unfold State.ackFree
  extract_lets +onlyGivenNames -underBinder -merge x_1
  extract_lets +onlyGivenNames -underBinder -merge n_2
  extract_lets +onlyGivenNames -underBinder -merge s_3
  have h4 : Only G s0 s_3 := by
    subst s_3
    exact State.setLink_only (hG.of rfl) hS
  try clear_value s_3
  extract_lets +onlyGivenNames -underBinder -merge s_5
  have h6 : Only G s0 s_5 := by
    subst s_5
    exact State.set_only (hG.of rfl) h4
  try clear_value s_5
  refine Only.ite ?_ ?_
  · exact State.setTxState_only (hG.of rfl) h6
  · exact h6

theorem State.startReplay_only {s : State} {b : Nat} (hG : Sub 0x80000000000000000000008000000000000000000000000000000000000000003000200 G) (hS : Only G s0 s) :
    Only G s0 (State.startReplay s b) := by
  unfold State.startReplay
  extract_lets +onlyGivenNames -underBinder -merge x_1
  extract_lets +onlyGivenNames -underBinder -merge s_2
  have h3 : Only G s0 s_2 := by
    subst s_2
    exact State.setLink_only (hG.of rfl) hS
  try clear_value s_2
  extract_lets +onlyGivenNames -underBinder -merge s_4
  have h5 : Only G s0 s_4 := by
    subst s_4
    refine State.tallyPort_only (hG.of rfl) ?_
    exact State.count_only (hG.of rfl) h3
  try clear_value s_4
  refine State.setTxState_only (hG.of rfl) ?_
  exact State.count_only (hG.of rfl) h5

theorem ackReceived_only {b : Nat} {aseq : Nat} {s : State} (hG : Sub 0x80000000000000000000000000000000000000000000000000000000000000001000000 G) (hS : Only G s0 s) :
    Only G s0 (ackReceived b aseq s) := by
  unfold ackReceived
  refine Only.ite ?_ ?_
  · exact State.ackFree_only (hG.of rfl) hS
  · exact hS

theorem nakReceived_only {b : Nat} {aseq : Nat} {s : State} (hG : Sub 0x80000000000000000000008000000000000000000000000000000000000000003000200 G) (hS : Only G s0 s) :
    Only G s0 (nakReceived b aseq s) := by
  unfold nakReceived
  refine Only.ite ?_ ?_
  · refine State.startReplay_only (hG.of rfl) ?_
    exact State.ackFree_only (hG.of rfl) hS
  · exact hS

theorem replayTimeout_only {b : Nat} {s : State} (hG : Sub 0x80000000000000000000008000000000000000000000000000000000000000003000200 G) (hS : Only G s0 s) :
    Only G s0 (replayTimeout b s) := by
  unfold replayTimeout
  refine Only.ite ?_ ?_
  · exact State.startReplay_only (hG.of rfl) hS
  · exact hS

theorem replayUnitResend_only {b : Nat} {s : State} (hG : Sub 0xa0000100000000000000008000000000000000000000000000000000000000001000000 G) (hS : Only G s0 s) :
    Only G s0 (replayUnitResend b s) := by
  unfold replayUnitResend
  extract_lets +onlyGivenNames -underBinder -merge x_1
  extract_lets +onlyGivenNames -underBinder -merge done_2
  have h3 : ∀ u4, Only G s0 u4 → Only G s0 (done_2 u4) := by
    subst done_2
    intro u4 hu5
    try beta_reduce
    extract_lets +onlyGivenNames -underBinder -merge __src_6
    refine State.setTxState_only (hG.of rfl) ?_
    exact State.setLink_only (hG.of rfl) hu5
  try clear_value done_2
  refine Only.ite ?_ ?_
  · exact hS
  · split
    · extract_lets +onlyGivenNames -underBinder -merge i_7
      extract_lets +onlyGivenNames -underBinder -merge s_8
      have h9 : Only G s0 s_8 := by
        subst s_8
        exact State.setLink_only (hG.of rfl) hS
      try clear_value s_8
      extract_lets +onlyGivenNames -underBinder -merge s_10
      have h11 : Only G s0 s_10 := by
        subst s_10
        refine State.sendUnit_only (hG.of rfl) ?_
        refine State.linkBytes_only (hG.of rfl) ?_
        exact State.tallyBlock_only (hG.of rfl) h9
      try clear_value s_10
      refine Only.ite ?_ ?_
      · exact h3 _ h11
      · exact h11
    · exact h3 _ hS

theorem sflLinkDown_only {b : Nat} {s : State} (hG : Sub 0x18004020000005e006a100000000010000008000000000010000000000084000000000001200805118440 G) (hS : Only G s0 s) :
    Only G s0 (sflLinkDown b s) := by
  unfold sflLinkDown
  refine Only.ite ?_ ?_
  · exact State.sflDeclareDown_only (hG.of rfl) hS
  · exact hS

theorem replayMaxExceeded_only {b : Nat} {s : State} (hG : Sub 0x18004020000005e006a100000000010000008000000000010000000000084000000000001200805118440 G) (hS : Only G s0 s) :
    Only G s0 (replayMaxExceeded b s) := by
  unfold replayMaxExceeded
  refine Only.ite ?_ ?_
  · exact State.sflDeclareDown_only (hG.of rfl) hS
  · exact hS

theorem downTmoExpiry_only {b : Nat} {s : State} (hG : Sub 0x18004020000005e006a100000000010000008000000000010000000000084000000000001200805118440 G) (hS : Only G s0 s) :
    Only G s0 (downTmoExpiry b s) := by
  unfold downTmoExpiry
  refine Only.ite ?_ ?_
  · exact State.sflDeclareDown_only (hG.of rfl) hS
  · exact hS

theorem State.actOn_only {s : State} {b : Nat} {unit : List Byte} (hG : Sub 0x80000000000000000000008000000000000000000000000000000000000000013000200 G) (hS : Only G s0 s) :
    Only G s0 (State.actOn s b unit) := by
  unfold State.actOn
  extract_lets +onlyGivenNames -underBinder -merge s_1
  have h2 : Only G s0 s_1 := by
    subst s_1
    refine State.each_only ?_ hS
    intro y3 u4 hu5
    try beta_reduce
    exact State.set_only (hG.of rfl) hu5
  try clear_value s_1
  split
  · exact State.ackFree_only (hG.of rfl) h2
  · refine State.startReplay_only (hG.of rfl) ?_
    exact State.ackFree_only (hG.of rfl) h2
  · exact h2

theorem State.discardUnit_only {s : State} {b : Nat} {nak : Bool} (hG : Sub 0x80000000000000000000008000000000000000000000000000000000000000003000000 G) (hS : Only G s0 s) :
    Only G s0 (State.discardUnit s b nak) := by
  unfold State.discardUnit
  extract_lets +onlyGivenNames -underBinder -merge s_1
  have h2 : Only G s0 s_1 := by
    subst s_1
    exact State.count_only (hG.of rfl) hS
  try clear_value s_1
  extract_lets +onlyGivenNames -underBinder -merge s_3
  have h4 : Only G s0 s_3 := by
    subst s_3
    exact State.set_only (hG.of rfl) h2
  try clear_value s_3
  extract_lets +onlyGivenNames -underBinder -merge __src_5
  refine Only.ite ?_ ?_
  · refine State.tallyBlock_only (hG.of rfl) ?_
    refine State.count_only (hG.of rfl) ?_
    exact State.setLink_only (hG.of rfl) h4
  · exact h4

theorem State.tagFail_only {s : State} {b : Nat} (hG : Sub 0x1b014020000005f006a1000000000100000080000403e0050000000010084000000000001200845518441 G) (hS : Only G s0 s) :
    Only G s0 (State.tagFail s b) := by
  unfold State.tagFail
  extract_lets +onlyGivenNames -underBinder -merge s_1
  have h2 : Only G s0 s_1 := by
    subst s_1
    exact State.count_only (hG.of rfl) hS
  try clear_value s_1
  refine State.sflDeclareDown_only (hG.of rfl) ?_
  exact State.cause_only (hG.of rfl) h2

theorem State.deliverUnit_only {s : State} {b : Nat} {unit : List Byte} {payload : List Byte} {slot : Option Nat} (hG : Sub 0x80000000000000000000000000000000000000000000000000000000000000051000000 G) (hS : Only G s0 s) :
    Only G s0 (State.deliverUnit s b unit payload slot) := by
  unfold State.deliverUnit
  extract_lets +onlyGivenNames -underBinder -merge x_1
  extract_lets +onlyGivenNames -underBinder -merge vc_2
  extract_lets +onlyGivenNames -underBinder -merge keys_3
  extract_lets +onlyGivenNames -underBinder -merge n_4
  extract_lets +onlyGivenNames -underBinder -merge s_5
  have h6 : Only G s0 s_5 := by
    subst s_5
    exact State.setLink_only (hG.of rfl) hS
  try clear_value s_5
  extract_lets +onlyGivenNames -underBinder -merge i_7
  extract_lets +onlyGivenNames -underBinder -merge s_8
  have h9 : Only G s0 s_8 := by
    subst s_8
    refine State.updXoff_only (hG.of rfl) ?_
    exact State.set_only (hG.of rfl) h6
  try clear_value s_8
  extract_lets +onlyGivenNames -underBinder -merge s_10
  have h11 : Only G s0 s_10 := by
    subst s_10
    exact State.set_only (hG.of rfl) h9
  try clear_value s_10
  exact State.set_only (hG.of rfl) h11

theorem ackTimer_only {b : Nat} {s : State} (hG : Sub 0x80000000000000000000000000000000000000000000000000000000000000000000000 G) (hS : Only G s0 s) :
    Only G s0 (ackTimer b s) := by
  unfold ackTimer
  extract_lets +onlyGivenNames -underBinder -merge x_1
  refine Only.ite ?_ ?_
  · exact State.setLink_only (hG.of rfl) hS
  · exact hS

theorem nakResendTimer_only {b : Nat} {s : State} (hG : Sub 0x80000000000000000000008000000000000000000000000000000000000000002000000 G) (hS : Only G s0 s) :
    Only G s0 (nakResendTimer b s) := by
  unfold nakResendTimer
  extract_lets +onlyGivenNames -underBinder -merge __src_1
  refine Only.ite ?_ ?_
  · refine State.tallyBlock_only (hG.of rfl) ?_
    refine State.count_only (hG.of rfl) ?_
    exact State.setLink_only (hG.of rfl) hS
  · exact hS

theorem xoffUpdate_only {b : Nat} {v : Nat} {s : State} (hG : Sub 0x10000000 G) (hS : Only G s0 s) :
    Only G s0 (xoffUpdate b v s) := by
  unfold xoffUpdate
  refine Only.ite ?_ ?_
  · exact State.updXoff_only (hG.of rfl) hS
  · exact hS

theorem timingSlot_only {b : Nat} {s : State} (hG : Sub 0xa0000100000000000000000000000000000000000000000000000000000000000000000 G) (hS : Only G s0 s) :
    Only G s0 (timingSlot b s) := by
  unfold timingSlot
  extract_lets +onlyGivenNames -underBinder -merge x_1
  extract_lets +onlyGivenNames -underBinder -merge ctl_2
  extract_lets +onlyGivenNames -underBinder -merge body_3
  refine Only.ite ?_ ?_
  · refine State.flushCommands_only (hG.of rfl) ?_
    refine State.sendUnit_only (hG.of rfl) ?_
    exact State.setLink_only (hG.of rfl) hS
  · exact hS

theorem State.askLanes_only {s : State} {b : Nat} {mask : Nat} {subst : Nat} {blk : Nat} (hG : Sub 0xa0000100000000000000000000000000000000000000000000000000000000001000000 G) (hS : Only G s0 s) :
    Only G s0 (State.askLanes s b mask subst blk) := by
  unfold State.askLanes
  extract_lets +onlyGivenNames -underBinder -merge x_1
  extract_lets +onlyGivenNames -underBinder -merge c_2
  refine Only.ite ?_ ?_
  · exact hS
  · refine Only.ite ?_ ?_
    · exact State.setLink_only (hG.of rfl) hS
    · refine State.sendCommand_only (hG.of rfl) ?_
      refine State.set_only (hG.of rfl) ?_
      exact State.setLink_only (hG.of rfl) hS

theorem State.answerSet_only {s : State} {b : Nat} {c : LaneChange} (hG : Sub 0xa0000100000000000000000000000000000000000000000000000000000000001000000 G) (hS : Only G s0 s) :
    Only G s0 (State.answerSet s b c) := by
  unfold State.answerSet
  extract_lets +onlyGivenNames -underBinder -merge x_1
  extract_lets +onlyGivenNames -underBinder -merge nak_2
  have h3 : ∀ y4, Only G s0 (nak_2 y4) := by
    subst nak_2
    intro y4
    try beta_reduce
    exact State.sendCommand_only (hG.of rfl) hS
  try clear_value nak_2
  extract_lets +onlyGivenNames -underBinder -merge ahead_5
  extract_lets +onlyGivenNames -underBinder -merge clash_6
  refine Only.ite ?_ ?_
  · exact h3 _
  · split
    · exact h3 _
    · extract_lets +onlyGivenNames -underBinder -merge s_7
      have h8 : Only G s0 s_7 := by
        subst s_7
        exact State.setLink_only (hG.of rfl) hS
      try clear_value s_7
      refine State.sendCommand_only (hG.of rfl) ?_
      exact State.set_only (hG.of rfl) h8

theorem laneSet_only {b : Nat} {received : Bool} {bits : Nat} {copies : Nat} {s : State} (hG : Sub 0xb0000100000000000000000000000000000000000000000000000000000000001000000 G) (hS : Only G s0 s) :
    Only G s0 (laneSet b received bits copies s) := by
  unfold laneSet
  extract_lets +onlyGivenNames -underBinder -merge t_1
  have h2 : Only G s0 t_1 := by
    subst t_1
    exact State.skipRow_only (hG.of rfl) hS
  try clear_value t_1
  refine Only.ite ?_ ?_
  · exact hS
  · refine Only.ite ?_ ?_
    · split
      · exact State.sendCommand_only (hG.of rfl) hS
      · exact hS
    · refine Only.ite ?_ ?_
      · exact State.answerSet_only (hG.of rfl) h2
      · exact h2

theorem laneAck_only {b : Nat} {bits : Nat} {copies : Nat} {s : State} (hG : Sub 0x90000000000000000000000000000000000000000000000000000000000000000000000 G) (hS : Only G s0 s) :
    Only G s0 (laneAck b bits copies s) := by
  unfold laneAck
  extract_lets +onlyGivenNames -underBinder -merge t_1
  have h2 : Only G s0 t_1 := by
    subst t_1
    refine Only.ite ?_ ?_
    · exact State.skipRow_only (hG.of rfl) hS
    · exact hS
  try clear_value t_1
  extract_lets +onlyGivenNames -underBinder -merge x_3
  split
  · refine Only.ite ?_ ?_
    · refine Only.ite ?_ ?_
      · exact State.setLink_only (hG.of rfl) h2
      · exact State.setLink_only (hG.of rfl) h2
    · exact h2
  · exact h2

theorem laneNak_only {b : Nat} {bits : Nat} {copies : Nat} {s : State} (hG : Sub 0x90000000000000000000000000000000000000000000000000000000000000001000000 G) (hS : Only G s0 s) :
    Only G s0 (laneNak b bits copies s) := by
  unfold laneNak
  extract_lets +onlyGivenNames -underBinder -merge t_1
  have h2 : Only G s0 t_1 := by
    subst t_1
    refine Only.ite ?_ ?_
    · exact State.skipRow_only (hG.of rfl) hS
    · exact hS
  try clear_value t_1
  extract_lets +onlyGivenNames -underBinder -merge x_3
  split
  · extract_lets +onlyGivenNames -underBinder -merge reason_4
    extract_lets +onlyGivenNames -underBinder -merge t_5
    have h6 : Only G s0 t_5 := by
      subst t_5
      exact State.setLink_only (hG.of rfl) h2
    try clear_value t_5
    extract_lets +onlyGivenNames -underBinder -merge t_7
    have h8 : Only G s0 t_7 := by
      subst t_7
      exact State.set_only (hG.of rfl) h6
    try clear_value t_7
    refine Only.ite ?_ ?_
    · refine Only.ite ?_ ?_
      · exact State.set_only (hG.of rfl) h8
      · exact h8
    · exact h2
  · exact h2

theorem State.finishChange_only {s : State} {b : Nat} {c : LaneChange} (hG : Sub 0xa00009000000000100000080000084200500000000000000000000000000000111000c0 G) (hS : Only G s0 s) :
    Only G s0 (State.finishChange s b c) := by
  unfold State.finishChange
  extract_lets +onlyGivenNames -underBinder -merge x_1
  extract_lets +onlyGivenNames -underBinder -merge n_2
  extract_lets +onlyGivenNames -underBinder -merge s_3
  have h4 : Only G s0 s_3 := by
    subst s_3
    exact State.setLink_only (hG.of rfl) hS
  try clear_value s_3
  extract_lets +onlyGivenNames -underBinder -merge s_5
  have h6 : Only G s0 s_5 := by
    subst s_5
    exact State.set_only (hG.of rfl) h4
  try clear_value s_5
  extract_lets +onlyGivenNames -underBinder -merge s_7
  have h8 : Only G s0 s_7 := by
    subst s_7
    exact State.set_only (hG.of rfl) h6
  try clear_value s_7
  extract_lets +onlyGivenNames -underBinder -merge s_9
  have h10 : Only G s0 s_9 := by
    subst s_9
    exact State.set_only (hG.of rfl) h8
  try clear_value s_9
  extract_lets +onlyGivenNames -underBinder -merge s_11
  have h12 : Only G s0 s_11 := by
    subst s_11
    exact State.set_only (hG.of rfl) h10
  try clear_value s_11
  extract_lets +onlyGivenNames -underBinder -merge s_13
  have h14 : Only G s0 s_13 := by
    subst s_13
    exact State.set_only (hG.of rfl) h12
  try clear_value s_13
  extract_lets +onlyGivenNames -underBinder -merge d_15
  extract_lets +onlyGivenNames -underBinder -merge was_16
  extract_lets +onlyGivenNames -underBinder -merge s_17
  have h18 : Only G s0 s_17 := by
    subst s_17
    refine Only.ite ?_ ?_
    · refine State.updLanePool_only (hG.of rfl) ?_
      refine State.each_only ?_ h14
      intro y19 u20 hu21
      try beta_reduce
      exact State.unmarkPair_only (hG.of rfl) hu21
    · exact h14
  try clear_value s_17
  extract_lets +onlyGivenNames -underBinder -merge s_22
  have h23 : Only G s0 s_22 := by
    subst s_22
    exact State.updThresholds_only (hG.of rfl) h18
  try clear_value s_22
  split
  · exact State.askLanes_only (hG.of rfl) h23
  · exact h23

theorem State.switchTx_only {s : State} {b : Nat} {c : LaneChange} (hG : Sub 0x20000001b014020000005f006a1000000000100000080000483e00500000000100840000000000012008055184c1 G) (hS : Only G s0 s) :
    Only G s0 (State.switchTx s b c) := by
  unfold State.switchTx
  extract_lets +onlyGivenNames -underBinder -merge d_1
  extract_lets +onlyGivenNames -underBinder -merge s_2
  have h3 : Only G s0 s_2 := by
    subst s_2
    refine Only.ite ?_ ?_
    · exact State.mapSpare_only (hG.of rfl) hS
    · exact hS
  try clear_value s_2
  extract_lets +onlyGivenNames -underBinder -merge __src_4
  refine State.retag_only (hG.of rfl) ?_
  exact State.setLink_only (hG.of rfl) h3

theorem State.switchRx_only {s : State} {b : Nat} {c : LaneChange} (hG : Sub 0x90000000000000000000000000000000000000000000000000000000000000000000000 G) (hS : Only G s0 s) :
    Only G s0 (State.switchRx s b c) := by
  unfold State.switchRx
  extract_lets +onlyGivenNames -underBinder -merge d_1
  extract_lets +onlyGivenNames -underBinder -merge s_2
  have h3 : Only G s0 s_2 := by
    subst s_2
    split
    · extract_lets +onlyGivenNames -underBinder -merge __src_4
      exact State.setSflLane_only (hG.of rfl) hS
    · exact hS
  try clear_value s_2
  extract_lets +onlyGivenNames -underBinder -merge __src_5
  extract_lets +onlyGivenNames -underBinder -merge s_6
  have h7 : Only G s0 s_6 := by
    subst s_6
    refine Only.ite ?_ ?_
    · exact State.setSflLane_only (hG.of rfl) h3
    · exact hS
  try clear_value s_6
  extract_lets +onlyGivenNames -underBinder -merge __src_8
  refine State.retagRx_only (hG.of rfl) ?_
  exact State.setLink_only (hG.of rfl) h7

theorem switchLanes_only {b : Nat} {received : Bool} {bits : Nat} {copies : Nat} {s : State} (hG : Sub 0x20000001b014020000005f006a9000000000100000080000487e00500000000100840000000000012008155184c1 G) (hS : Only G s0 s) :
    Only G s0 (switchLanes b received bits copies s) := by
  unfold switchLanes
  extract_lets +onlyGivenNames -underBinder -merge t_1
  have h2 : Only G s0 t_1 := by
    subst t_1
    refine Only.ite ?_ ?_
    · exact State.skipRow_only (hG.of rfl) hS
    · exact hS
  try clear_value t_1
  split
  · extract_lets +onlyGivenNames -underBinder -merge done_3
    have h4 : ∀ u5, Only G s0 u5 → Only G s0 (done_3 u5) := by
      subst done_3
      intro u5 hu6
      try beta_reduce
      refine Only.ite ?_ ?_
      · exact State.finishChange_only (hG.of rfl) hu6
      · exact hu6
    try clear_value done_3
    refine Only.ite ?_ ?_
    · refine Only.ite ?_ ?_
      · refine h4 _ ?_
        exact State.switchRx_only (hG.of rfl) h2
      · exact h2
    · refine Only.ite ?_ ?_
      · exact h2
      · refine h4 _ ?_
        refine State.switchTx_only (hG.of rfl) ?_
        exact State.sendCommand_only (hG.of rfl) h2
  · exact h2

theorem activeLaneLockLoss_only {b : Nat} {lane : Nat} {s : State} (hG : Sub 0xa0000100000000000000000000000000000000000000000000000000000000001000000 G) (hS : Only G s0 s) :
    Only G s0 (activeLaneLockLoss b lane s) := by
  unfold activeLaneLockLoss
  extract_lets +onlyGivenNames -underBinder -merge mask_1
  extract_lets +onlyGivenNames -underBinder -merge others_2
  refine Only.ite ?_ ?_
  · exact State.askLanes_only (hG.of rfl) hS
  · exact hS

theorem laneReqWrite_only {b : Nat} {s : State} (hG : Sub 0xa0000100000000000000000000000000000000000000000000000000000000001000000 G) (hS : Only G s0 s) :
    Only G s0 (laneReqWrite b s) := by
  unfold laneReqWrite
  exact State.askLanes_only (hG.of rfl) hS

theorem State.fabricMark_only {s : State} {d : Nat} {k : Nat} (hG : Sub 0xa0000100000000000000000000000000000000000000000000000000000000001000000 G) (hS : Only G s0 s) :
    Only G s0 (State.fabricMark s d k) := by
  unfold State.fabricMark
  extract_lets +onlyGivenNames -underBinder -merge b_1
  extract_lets +onlyGivenNames -underBinder -merge l_2
  extract_lets +onlyGivenNames -underBinder -merge mask_3
  refine Only.ite ?_ ?_
  · exact hS
  · refine Only.ite ?_ ?_
    · exact State.askLanes_only (hG.of rfl) hS
    · exact State.askLanes_only (hG.of rfl) hS

theorem State.markLane_only {s : State} {b : Nat} {k : Nat} (hG : Sub 0x20000001b014020000005f006a9000000000100000080000487e00500000000100840000000000012008055184c1 G) (hS : Only G s0 s) :
    Only G s0 (State.markLane s b k) := by
  unfold State.markLane
  extract_lets +onlyGivenNames -underBinder -merge s_1
  have h2 : Only G s0 s_1 := by
    subst s_1
    exact State.markPair_only (hG.of rfl) hS
  try clear_value s_1
  extract_lets +onlyGivenNames -underBinder -merge p_3
  refine Only.ite ?_ ?_
  · exact State.fabricMark_only (hG.of rfl) h2
  · refine Only.ite ?_ ?_
    · exact h2
    · split
      · refine Only.ite ?_ ?_
        · exact State.askL0p_only (hG.of rfl) h2
        · exact h2
      · refine Only.ite ?_ ?_
        · exact State.enterRecovery_only (hG.of rfl) h2
        · exact h2

theorem laneMark_only {b : Nat} {k : Nat} {reason : Nat} {s : State} (hG : Sub 0x20000001b014020000005f006a9000000000100000080000487e00500000000100840000000000012008055186c1 G) (hS : Only G s0 s) :
    Only G s0 (laneMark b k reason s) := by
  unfold laneMark
  extract_lets +onlyGivenNames -underBinder -merge s_1
  have h2 : Only G s0 s_1 := by
    subst s_1
    exact State.count_only (hG.of rfl) hS
  try clear_value s_1
  extract_lets +onlyGivenNames -underBinder -merge s_3
  have h4 : Only G s0 s_3 := by
    subst s_3
    refine Only.ite ?_ ?_
    · refine State.each_only ?_ h2
      intro y5 u6 hu7
      try beta_reduce
      exact State.set_only (hG.of rfl) hu7
    · exact hS
  try clear_value s_3
  exact State.markLane_only (hG.of rfl) h4

theorem symbolWindowEnd_only {b : Nat} {k : Nat} {symbols : Nat} {s : State} (hG : Sub 0x20000001b014020000005f006a9000000000100000080000487e00500000000100840000000000012008055184c1 G) (hS : Only G s0 s) :
    Only G s0 (symbolWindowEnd b k symbols s) := by
  unfold symbolWindowEnd
  extract_lets +onlyGivenNames -underBinder -merge i_1
  extract_lets +onlyGivenNames -underBinder -merge n_2
  extract_lets +onlyGivenNames -underBinder -merge s_3
  have h4 : Only G s0 s_3 := by
    subst s_3
    exact State.count_only (hG.of rfl) hS
  try clear_value s_3
  extract_lets +onlyGivenNames -underBinder -merge s_5
  have h6 : Only G s0 s_5 := by
    subst s_5
    exact State.set_only (hG.of rfl) h4
  try clear_value s_5
  split
  · refine Only.ite ?_ ?_
    · exact State.markLane_only (hG.of rfl) h6
    · exact h6
  · exact h6

theorem State.slotTaken_only {s : State} {b : Nat} (hG : Sub 0x20000001b014020000005f006a9000000000100000080000487e00500000000100840000000000012008055184c1 G) (hS : Only G s0 s) :
    Only G s0 (State.slotTaken s b) := by
  unfold State.slotTaken
  extract_lets +onlyGivenNames -underBinder -merge x_1
  extract_lets +onlyGivenNames -underBinder -merge s_2
  have h3 : Only G s0 s_2 := by
    subst s_2
    exact State.setLink_only (hG.of rfl) hS
  try clear_value s_2
  refine Only.ite ?_ ?_
  · refine State.each_only ?_ h3
    intro y4 u5 hu6
    try beta_reduce
    exact symbolWindowEnd_only (hG.of rfl) hu6
  · exact h3

theorem State.timingTaken_only {s : State} {b : Nat} {unit : List Byte} {bad : Bool} (hG : Sub 0x80000000000000000000008000000000000000000000000000000000000000017000200 G) (hS : Only G s0 s) :
    Only G s0 (State.timingTaken s b unit bad) := by
  unfold State.timingTaken
  refine Only.ite ?_ ?_
  · exact State.count_only (hG.of rfl) hS
  · exact State.actOn_only (hG.of rfl) hS

theorem State.unitTaken_only {s : State} {b : Nat} {unit : List Byte} {bad : Bool} (hG : Sub 0x1b014020000005f006a1000000000100000080000403e0050000000010084000000000001200857518641 G) (hS : Only G s0 s) :
    Only G s0 (State.unitTaken s b unit bad) := by
  unfold State.unitTaken
  extract_lets +onlyGivenNames -underBinder -merge x_1
  extract_lets +onlyGivenNames -underBinder -merge kind_2
  extract_lets +onlyGivenNames -underBinder -merge disc_3
  extract_lets +onlyGivenNames -underBinder -merge good_4
  extract_lets +onlyGivenNames -underBinder -merge s_5
  have h6 : Only G s0 s_5 := by
    subst s_5
    refine Only.ite ?_ ?_
    · exact hS
    · exact State.tallyPort_only (hG.of rfl) hS
  try clear_value s_5
  refine Only.ite ?_ ?_
  · exact State.discardUnit_only (hG.of rfl) h6
  · refine Only.ite ?_ ?_
    · split
      · exact State.tagFail_only (hG.of rfl) h6
      · extract_lets +onlyGivenNames -underBinder -merge s_7
        have h8 : Only G s0 s_7 := by
          subst s_7
          exact State.actOn_only (hG.of rfl) h6
        try clear_value s_7
        refine Only.ite ?_ ?_
        · refine State.discardUnit_only (hG.of rfl) ?_
          exact State.count_only (hG.of rfl) h8
        · refine State.linkBytes_only (hG.of rfl) ?_
          exact State.deliverUnit_only (hG.of rfl) h8
    · refine Only.ite ?_ ?_
      · exact State.discardUnit_only (hG.of rfl) h6
      · exact State.actOn_only (hG.of rfl) h6

theorem flowUnitReceived_only {b : Nat} {blocks : List Block} {s : State} (hG : Sub 0x20000001b014020000005f006a9000000000100000080000487e00500000000100840000000000012008575186c1 G) (hS : Only G s0 s) :
    Only G s0 (flowUnitReceived b blocks s) := by
  unfold flowUnitReceived
  extract_lets +onlyGivenNames -underBinder -merge r_1
  have h2 : Only G s0 r_1.1 := by
    subst r_1
    exact State.takeUnit_only (hG.of rfl) hS
  try clear_value r_1
  extract_lets +onlyGivenNames -underBinder -merge timing_3
  extract_lets +onlyGivenNames -underBinder -merge s_4
  have h5 : Only G s0 s_4 := by
    subst s_4
    refine State.slotTaken_only (hG.of rfl) ?_
    exact h2
  try clear_value s_4
  refine Only.ite ?_ ?_
  · exact hS
  · refine Only.ite ?_ ?_
    · exact State.timingTaken_only (hG.of rfl) h5
    · exact State.unitTaken_only (hG.of rfl) h5

theorem keysync_only {b : Nat} {bits : Nat} {copies : Nat} {s : State} (hG : Sub 0x90000000000000000000000000000000000000000000000000000000000000040000000 G) (hS : Only G s0 s) :
    Only G s0 (keysync b bits copies s) := by
  unfold keysync
  extract_lets +onlyGivenNames -underBinder -merge s'_1
  have h2 : Only G s0 s'_1 := by
    subst s'_1
    refine Only.ite ?_ ?_
    · exact State.skipRow_only (hG.of rfl) hS
    · exact hS
  try clear_value s'_1
  extract_lets +onlyGivenNames -underBinder -merge slot_3
  extract_lets +onlyGivenNames -underBinder -merge x_4
  extract_lets +onlyGivenNames -underBinder -merge k_5
  extract_lets +onlyGivenNames -underBinder -merge n_6
  extract_lets +onlyGivenNames -underBinder -merge s_7
  have h8 : Only G s0 s_7 := by
    subst s_7
    exact State.set_only (hG.of rfl) h2
  try clear_value s_7
  refine Only.ite ?_ ?_
  · exact h2
  · refine Only.ite ?_ ?_
    · exact h8
    · refine Only.ite ?_ ?_
      · exact State.setLink_only (hG.of rfl) h8
      · exact State.count_only (hG.of rfl) h8

theorem sflKeyCommit_only {b : Nat} {value : Word} {s : State} (hG : Sub 0xa00001000000000000000000000000000000000000000000000000000000000c0000000 G) (hS : Only G s0 s) :
    Only G s0 (sflKeyCommit b value s) := by
  unfold sflKeyCommit
  extract_lets +onlyGivenNames -underBinder -merge fld_1
  extract_lets +onlyGivenNames -underBinder -merge i_2
  extract_lets +onlyGivenNames -underBinder -merge rx_3
  extract_lets +onlyGivenNames -underBinder -merge x_4
  extract_lets +onlyGivenNames -underBinder -merge busy_5
  extract_lets +onlyGivenNames -underBinder -merge key_6
  extract_lets +onlyGivenNames -underBinder -merge k_7
  extract_lets +onlyGivenNames -underBinder -merge s_8
  have h9 : Only G s0 s_8 := by
    subst s_8
    exact State.setLink_only (hG.of rfl) hS
  try clear_value s_8
  extract_lets +onlyGivenNames -underBinder -merge s_10
  have h11 : Only G s0 s_10 := by
    subst s_10
    refine Only.ite ?_ ?_
    · exact State.setBit_only (hG.of rfl) h9
    · exact State.setBit_only (hG.of rfl) h9
  try clear_value s_10
  extract_lets +onlyGivenNames -underBinder -merge s_12
  have h13 : Only G s0 s_12 := by
    subst s_12
    exact State.set_only (hG.of rfl) h11
  try clear_value s_12
  extract_lets +onlyGivenNames -underBinder -merge s_14
  have h15 : Only G s0 s_14 := by
    subst s_14
    refine State.each_only ?_ h13
    intro y16 u17 hu18
    try beta_reduce
    exact State.setReg_only (hG.of rfl) hu18
  try clear_value s_14
  refine Only.ite ?_ ?_
  · exact hS
  · refine Only.ite ?_ ?_
    · exact State.set_only (hG.of rfl) hS
    · refine State.sendKeysync_only (hG.of rfl) ?_
      exact State.showTxCount_only (hG.of rfl) h15

theorem txSlotWrite_only {b : Nat} {slot : Nat} {s : State} (hG : Sub 0x80000000000000000000000000000000000000000000000000000000000000061000000 G) (hS : Only G s0 s) :
    Only G s0 (txSlotWrite b slot s) := by
  unfold txSlotWrite
  extract_lets +onlyGivenNames -underBinder -merge s_1
  have h2 : Only G s0 s_1 := by
    subst s_1
    refine State.showTxCount_only (hG.of rfl) ?_
    exact State.set_only (hG.of rfl) hS
  try clear_value s_1
  refine Only.ite ?_ ?_
  · exact hS
  · refine Only.ite ?_ ?_
    · refine Only.ite ?_ ?_
      · exact State.setTxState_only (hG.of rfl) h2
      · exact h2
    · exact State.set_only (hG.of rfl) hS

theorem keyCountLimit_only {b : Nat} {slot : Nat} {s : State} (hG : Sub 0x80000000000000010000008000000000010000000000000000000000000000001000000 G) (hS : Only G s0 s) :
    Only G s0 (keyCountLimit b slot s) := by
  unfold keyCountLimit
  extract_lets +onlyGivenNames -underBinder -merge n_1
  refine Only.ite ?_ ?_
  · exact State.notice_only (hG.of rfl) hS
  · refine Only.ite ?_ ?_
    · exact State.setTxState_only (hG.of rfl) hS
    · exact hS

end Sys2Proof.Machine
end

