-- ==== Sys2Proof/Laws/FrameTiming.lean ====
section
/-! SUPPORT. The frame of each function of Machine/Timing.lean: the parts of the state that it may change, as a set of bits (StatePart.place), with the canonical form kept. -/

namespace Sys2Proof.Machine

variable {G : Nat} {s0 : State}

theorem State.modServo_only {s : State} {f : Servo → Servo} (hG : Sub 0x100000000000000000000000000000000000000000000000000000000000000000000000000000000000000000000 G) (hS : Only G s0 s) :
    Only G s0 (State.modServo s f) := by
  unfold State.modServo
  exact Only.set_servo (hG.of rfl) hS

theorem State.stepTime_only {s : State} {d : ℤ} (hG : Sub 0x100000001b014020000005f006a1400000000100000080040403e0050000000010084000000000001200805518441 G) (hS : Only G s0 s) :
    Only G s0 (State.stepTime s d) := by
  unfold State.stepTime
  extract_lets +onlyGivenNames -underBinder -merge s_1
  have h2 : Only G s0 s_1 := by
    subst s_1
    exact Only.set_tim (hG.of rfl) hS
  try clear_value s_1
  extract_lets +onlyGivenNames -underBinder -merge s_3
  have h4 : Only G s0 s_3 := by
    subst s_3
    exact State.modServo_only (hG.of rfl) h2
  try clear_value s_3
  refine State.cause_only (hG.of rfl) ?_
  exact State.count_only (hG.of rfl) h4

theorem State.acquire_only {s : State} (hG : Sub 0x100000000000000000000000000000000000000000000004000000000000000000000000000000000000000000000 G) (hS : Only G s0 s) :
    Only G s0 (State.acquire s) := by
  unfold State.acquire
  refine State.modServo_only (hG.of rfl) ?_
  exact State.set_only (hG.of rfl) hS

theorem State.holdover_only {s : State} (hG : Sub 0x100000000000000000000000000000000000010000008006000000010000000000000000000000000000000000000 G) (hS : Only G s0 s) :
    Only G s0 (State.holdover s) := by
  unfold State.holdover
  refine Only.ite ?_ ?_
  · exact hS
  · refine State.notice_only (hG.of rfl) ?_
    refine State.modServo_only (hG.of rfl) ?_
    refine State.set_only (hG.of rfl) ?_
    exact State.set_only (hG.of rfl) hS

theorem State.correct_only {s : State} {theta : ℤ} (hG : Sub 0x100000001b014020000005f006a1400000000100000080060403e0050000000010084000000000001200805518441 G) (hS : Only G s0 s) :
    Only G s0 (State.correct s theta) := by
  unfold State.correct
  extract_lets +onlyGivenNames -underBinder -merge q_1
  extract_lets +onlyGivenNames -underBinder -merge f_2
  refine Only.ite ?_ ?_
  · refine State.set_only (hG.of rfl) ?_
    exact State.stepTime_only (hG.of rfl) hS
  · refine State.set_only (hG.of rfl) ?_
    exact State.set_only (hG.of rfl) hS

theorem servoUpdate_only {s : State} (hG : Sub 0x100000001b014020000005f006a14000000001000000800e0403e0050000000010084000000000001200805518441 G) (hS : Only G s0 s) :
    Only G s0 (servoUpdate s) := by
  unfold servoUpdate
  split
  · exact hS
  · extract_lets +onlyGivenNames -underBinder -merge s_1
    have h2 : Only G s0 s_1 := by
      subst s_1
      refine Only.ite ?_ ?_
      · refine State.notice_only (hG.of rfl) ?_
        exact State.acquire_only (hG.of rfl) hS
      · refine Only.ite ?_ ?_
        · exact State.acquire_only (hG.of rfl) hS
        · exact hS
    try clear_value s_1
    extract_lets +onlyGivenNames -underBinder -merge s_3
    have h4 : Only G s0 s_3 := by
      subst s_3
      exact State.correct_only (hG.of rfl) h2
    try clear_value s_3
    extract_lets +onlyGivenNames -underBinder -merge good_5
    extract_lets +onlyGivenNames -underBinder -merge s_6
    have h7 : Only G s0 s_6 := by
      subst s_6
      exact State.modServo_only (hG.of rfl) h4
    try clear_value s_6
    extract_lets +onlyGivenNames -underBinder -merge s_8
    have h9 : Only G s0 s_8 := by
      subst s_8
      exact State.set_only (hG.of rfl) h7
    try clear_value s_8
    extract_lets +onlyGivenNames -underBinder -merge s_10
    have h11 : Only G s0 s_10 := by
      subst s_10
      exact State.resultDone_only (hG.of rfl) (hG.of rfl) h9
    try clear_value s_10
    refine Only.ite ?_ ?_
    · exact State.set_only (hG.of rfl) h11
    · refine Only.ite ?_ ?_
      · exact State.acquire_only (hG.of rfl) h11
      · exact h11

theorem State.becomeRoot_only {s : State} (hG : Sub 0x10000000000000000000000000000000000001000000800e000000010000000000000000000000000000000000000 G) (hS : Only G s0 s) :
    Only G s0 (State.becomeRoot s) := by
  unfold State.becomeRoot
  extract_lets +onlyGivenNames -underBinder -merge s_1
  have h2 : Only G s0 s_1 := by
    subst s_1
    refine State.set_only (hG.of rfl) ?_
    exact State.set_only (hG.of rfl) hS
  try clear_value s_1
  extract_lets +onlyGivenNames -underBinder -merge s_3
  have h4 : Only G s0 s_3 := by
    subst s_3
    refine State.set_only (hG.of rfl) ?_
    exact State.set_only (hG.of rfl) h2
  try clear_value s_3
  extract_lets +onlyGivenNames -underBinder -merge s_5
  have h6 : Only G s0 s_5 := by
    subst s_5
    refine State.modServo_only (hG.of rfl) ?_
    exact State.set_only (hG.of rfl) h4
  try clear_value s_5
  refine Only.ite ?_ ?_
  · exact State.holdover_only (hG.of rfl) h6
  · refine Only.ite ?_ ?_
    · refine State.set_only (hG.of rfl) ?_
      exact State.set_only (hG.of rfl) h6
    · exact State.acquire_only (hG.of rfl) h6

theorem State.updUpstream_only {s : State} (hG : Sub 0x10000000000000000000000000000000000000000000000c000000000000000000000000000000000000000000000 G) (hS : Only G s0 s) :
    Only G s0 (State.updUpstream s) := by
  unfold State.updUpstream
  extract_lets +onlyGivenNames -underBinder -merge old_1
  extract_lets +onlyGivenNames -underBinder -merge port_2
  extract_lets +onlyGivenNames -underBinder -merge s_3
  have h4 : Only G s0 s_3 := by
    subst s_3
    split
    · extract_lets +onlyGivenNames -underBinder -merge s_5
      have h6 : Only G s0 s_5 := by
        subst s_5
        refine State.set_only (hG.of rfl) ?_
        exact State.set_only (hG.of rfl) hS
      try clear_value s_5
      exact State.set_only (hG.of rfl) h6
    · exact State.set_only (hG.of rfl) hS
  try clear_value s_3
  extract_lets +onlyGivenNames -underBinder -merge s_7
  have h8 : Only G s0 s_7 := by
    subst s_7
    exact State.set_only (hG.of rfl) h4
  try clear_value s_7
  refine Only.ite ?_ ?_
  · exact hS
  · refine Only.ite ?_ ?_
    · exact h8
    · exact State.modServo_only (hG.of rfl) h8

theorem State.leaveRoot_only {s : State} (hG : Sub 0x10000000000000000000000000000000000000000000000c000000000000000000000000000000000000000000000 G) (hS : Only G s0 s) :
    Only G s0 (State.leaveRoot s) := by
  unfold State.leaveRoot
  refine State.updUpstream_only (hG.of rfl) ?_
  refine State.set_only (hG.of rfl) ?_
  exact State.set_only (hG.of rfl) hS

theorem State.updRoot_only {s : State} (hG : Sub 0x10000000000000000000000000000000000001000000800e000000010000000000000000000000000000000000000 G) (hS : Only G s0 s) :
    Only G s0 (State.updRoot s) := by
  unfold State.updRoot
  refine Only.ite ?_ ?_
  · exact State.becomeRoot_only (hG.of rfl) hS
  · refine Only.ite ?_ ?_
    · exact State.leaveRoot_only (hG.of rfl) hS
    · exact hS

theorem State.timingSample_only {s : State} {offset : ℤ} (hG : Sub 0x100000000000000000000000000000000000000000000000000000000000000000000000000000000000000000000 G) (hS : Only G s0 s) :
    Only G s0 (State.timingSample s offset) := by
  unfold State.timingSample
  extract_lets +onlyGivenNames -underBinder -merge x_1
  refine Only.ite ?_ ?_
  · exact Only.set_servo (hG.of rfl) hS
  · exact Only.set_servo (hG.of rfl) hS

theorem State.setPeer_only {s : State} {b : Nat} {p : Option TimePeer} (hG : Sub 0x80000000000000000000000000000000000000000000000000000000000000000000000000000000000000000000 G) (hS : Only G s0 s) :
    Only G s0 (State.setPeer s b p) := by
  unfold State.setPeer
  exact Only.set_timPeers (hG.of rfl) hS

theorem timingUnitReceived_only {b : Nat} {blocks : List Block} {arr : Nat} {s : State} (hG : Sub 0x1a0000001b014020000005f006a90000000001000000800c0487e00500000000100840000000000012008175186c1 G) (hS : Only G s0 s) :
    Only G s0 (timingUnitReceived b blocks arr s) := by
  unfold timingUnitReceived
  extract_lets +onlyGivenNames -underBinder -merge r_1
  have h2 : Only G s0 r_1.1 := by
    subst r_1
    exact State.takeUnit_only (hG.of rfl) hS
  try clear_value r_1
  extract_lets +onlyGivenNames -underBinder -merge unit_3
  extract_lets +onlyGivenNames -underBinder -merge s_4
  have h5 : Only G s0 s_4 := by
    subst s_4
    refine State.timingTaken_only (hG.of rfl) ?_
    refine State.slotTaken_only (hG.of rfl) ?_
    exact h2
  try clear_value s_4
  extract_lets +onlyGivenNames -underBinder -merge tx_6
  extract_lets +onlyGivenNames -underBinder -merge rtt_7
  extract_lets +onlyGivenNames -underBinder -merge x_8
  extract_lets +onlyGivenNames -underBinder -merge s_9
  have h10 : Only G s0 s_9 := by
    subst s_9
    exact State.setLink_only (hG.of rfl) h5
  try clear_value s_9
  extract_lets +onlyGivenNames -underBinder -merge s_11
  have h12 : Only G s0 s_11 := by
    subst s_11
    refine State.updThresholds_only (hG.of rfl) ?_
    exact State.set_only (hG.of rfl) h10
  try clear_value s_11
  extract_lets +onlyGivenNames -underBinder -merge flags_13
  extract_lets +onlyGivenNames -underBinder -merge peer_14
  extract_lets +onlyGivenNames -underBinder -merge s_15
  have h16 : Only G s0 s_15 := by
    subst s_15
    exact State.setPeer_only (hG.of rfl) h12
  try clear_value s_15
  extract_lets +onlyGivenNames -underBinder -merge s_17
  have h18 : Only G s0 s_17 := by
    subst s_17
    refine State.updUpstream_only (hG.of rfl) ?_
    exact State.tally_only (hG.of rfl) h16
  try clear_value s_17
  refine Only.ite ?_ ?_
  · exact hS
  · refine Only.ite ?_ ?_
    · exact h5
    · refine Only.ite ?_ ?_
      · exact h18
      · exact State.timingSample_only (hG.of rfl) h18

theorem upstreamTimeout_only {s : State} (hG : Sub 0x18000000000000000000000000000000000000000000000c000000000000000000000000000000000000000000000 G) (hS : Only G s0 s) :
    Only G s0 (upstreamTimeout s) := by
  unfold upstreamTimeout
  extract_lets +onlyGivenNames -underBinder -merge p_1
  refine Only.ite ?_ ?_
  · exact hS
  · refine State.updUpstream_only (hG.of rfl) ?_
    exact State.setPeer_only (hG.of rfl) hS

theorem ppsOutEdge_only {s : State} (hG : Sub 0x800000000000000000000000000000000000000000000000000000000000000000000000000000000000000000000 G) (hS : Only G s0 s) :
    Only G s0 (ppsOutEdge s) := by
  unfold ppsOutEdge
  refine Only.ite ?_ ?_
  · exact hS
  · exact Only.set_ppsUntil (hG.of rfl) hS

theorem ptpAnnounce_only {m : PtpMaster} {s : State} (hG : Sub 0x200000000000000000000000000000000000000000008004000000000000000000000000000000000000000000000 G) (hS : Only G s0 s) :
    Only G s0 (ptpAnnounce m s) := by
  unfold ptpAnnounce
  extract_lets +onlyGivenNames -underBinder -merge s_1
  have h2 : Only G s0 s_1 := by
    subst s_1
    exact State.tallyChip_only (hG.of rfl) hS
  try clear_value s_1
  extract_lets +onlyGivenNames -underBinder -merge take_3
  refine Only.ite ?_ ?_
  · exact h2
  · refine State.set_only (hG.of rfl) ?_
    exact Only.set_ptpBest (hG.of rfl) h2

theorem ptpSync_only {domain : Nat} {sender : Nat} {t1 : Nat} {t3 : Nat} {t4 : Nat} {s : State} (hG : Sub 0x500000001b014020000005f006a1400000000100000080040403e0050000000010084000000000001200805518441 G) (hS : Only G s0 s) :
    Only G s0 (ptpSync domain sender t1 t3 t4 s) := by
  unfold ptpSync
  extract_lets +onlyGivenNames -underBinder -merge s_1
  have h2 : Only G s0 s_1 := by
    subst s_1
    exact State.tallyChip_only (hG.of rfl) hS
  try clear_value s_1
  split
  · exact h2
  · extract_lets +onlyGivenNames -underBinder -merge theta_3
    extract_lets +onlyGivenNames -underBinder -merge s_4
    have h5 : Only G s0 s_4 := by
      subst s_4
      exact Only.set_ptpAt (hG.of rfl) h2
    try clear_value s_4
    refine Only.ite ?_ ?_
    · exact h2
    · refine Only.ite ?_ ?_
      · exact h5
      · split
        · exact State.modServo_only (hG.of rfl) h5
        · refine Only.ite ?_ ?_
          · exact h5
          · exact State.stepTime_only (hG.of rfl) h5
        · exact h5

theorem ppsInEdge_only {s : State} (hG : Sub 0x100000000000000000000000000000000000000000000004000000000000000000000000000000000000000000000 G) (hS : Only G s0 s) :
    Only G s0 (ppsInEdge s) := by
  unfold ppsInEdge
  extract_lets +onlyGivenNames -underBinder -merge n_1
  extract_lets +onlyGivenNames -underBinder -merge theta_2
  extract_lets +onlyGivenNames -underBinder -merge s_3
  have h4 : Only G s0 s_3 := by
    subst s_3
    exact State.set_only (hG.of rfl) hS
  try clear_value s_3
  refine Only.ite ?_ ?_
  · exact State.modServo_only (hG.of rfl) h4
  · exact h4

theorem timeReferenceLoss_only {source : Nat} {s : State} (hG : Sub 0x500000001b014020000005f006a1000000000100000080060403e0050000000010084000000000001200805518441 G) (hS : Only G s0 s) :
    Only G s0 (timeReferenceLoss source s) := by
  unfold timeReferenceLoss
  extract_lets +onlyGivenNames -underBinder -merge root_1
  extract_lets +onlyGivenNames -underBinder -merge src_2
  extract_lets +onlyGivenNames -underBinder -merge s_3
  have h4 : Only G s0 s_3 := by
    subst s_3
    exact Only.set_ptpAt (hG.of rfl) hS
  try clear_value s_3
  extract_lets +onlyGivenNames -underBinder -merge s_5
  have h6 : Only G s0 s_5 := by
    subst s_5
    exact State.set_only (hG.of rfl) hS
  try clear_value s_5
  refine Only.ite ?_ ?_
  · refine Only.ite ?_ ?_
    · exact State.holdover_only (hG.of rfl) h4
    · exact h4
  · refine Only.ite ?_ ?_
    · refine Only.ite ?_ ?_
      · exact State.holdover_only (hG.of rfl) h6
      · exact h6
    · refine Only.ite ?_ ?_
      · exact hS
      · refine State.cause_only (hG.of rfl) ?_
        exact State.holdover_only (hG.of rfl) hS

theorem State.sourceChanged_only {s : State} (hG : Sub 0x100000000000000000000000000000000000010000008006000000010000000000000000000000000000000000000 G) (hS : Only G s0 s) :
    Only G s0 (State.sourceChanged s) := by
  unfold State.sourceChanged
  refine Only.ite ?_ ?_
  · exact hS
  · refine Only.ite ?_ ?_
    · refine State.modServo_only (hG.of rfl) ?_
      refine State.set_only (hG.of rfl) ?_
      exact State.set_only (hG.of rfl) hS
    · refine Only.ite ?_ ?_
      · exact State.acquire_only (hG.of rfl) hS
      · exact State.holdover_only (hG.of rfl) hS

theorem timSet_only {s : State} (hG : Sub 0x102000001b014020000005f006a1400000000100000080040403e0050000000010084000000000001200805518449 G) (hS : Only G s0 s) :
    Only G s0 (timSet s) := by
  unfold timSet
  extract_lets +onlyGivenNames -underBinder -merge v_1
  refine Only.ite ?_ ?_
  · exact State.refuseWrite_only (hG.of rfl) hS
  · exact State.stepTime_only (hG.of rfl) hS

theorem timAdj_only {adj : Nat} {s : State} (hG : Sub 0x102000001b014020000005f006a1400000000100000080040403e0050000000010084000000000001200805518449 G) (hS : Only G s0 s) :
    Only G s0 (timAdj adj s) := by
  unfold timAdj
  extract_lets +onlyGivenNames -underBinder -merge d_1
  refine Only.ite ?_ ?_
  · exact State.refuseWrite_only (hG.of rfl) hS
  · exact State.stepTime_only (hG.of rfl) hS

end Sys2Proof.Machine
end

