-- ==== Sys2Proof/Laws/FrameTelemetry.lean ====
section
/-! SUPPORT. The frame of each function of Machine/Telemetry.lean: the parts of the state that it may change, as a set of bits (StatePart.place), with the canonical form kept. -/

namespace Sys2Proof.Machine

variable {G : Nat} {s0 : State}

theorem State.setSensor_only {s : State} {c : Nat} {x : TelSensor} (hG : Sub 0x1000000000000000000000000000000000000000000000000000000000000000000000000000000000000000000000 G) (hS : Only G s0 s) :
    Only G s0 (State.setSensor s c x) := by
  unfold State.setSensor
  exact Only.set_tel (hG.of rfl) hS

theorem State.whileEvent_only {s : State} {ev : Nat} {now : Bool} {was : Bool} {raise : State → State} (hG : Sub 0x400000000000000000000000000000000000000000 G) (hraise : (∀ x0, Only G s0 x0 → Only G s0 (raise x0))) (hS : Only G s0 s) :
    Only G s0 (State.whileEvent s ev now was raise) := by
  unfold State.whileEvent
  extract_lets +onlyGivenNames -underBinder -merge s_1
  have h2 : Only G s0 s_1 := by
    subst s_1
    refine Only.ite ?_ ?_
    · exact hraise _ hS
    · exact hS
  try clear_value s_1
  exact State.setActive_only (hG.of rfl) h2

theorem State.updThermal_only {s : State} (hG : Sub 0x6000000001b014020000005f006a1000000000100000080200407e0050000000010084000000000001200805518441 G) (hS : Only G s0 s) :
    Only G s0 (State.updThermal s) := by
  unfold State.updThermal
  extract_lets +onlyGivenNames -underBinder -merge was_1
  extract_lets +onlyGivenNames -underBinder -merge now_2
  extract_lets +onlyGivenNames -underBinder -merge s_3
  have h4 : Only G s0 s_3 := by
    subst s_3
    exact State.set_only (hG.of rfl) hS
  try clear_value s_3
  extract_lets +onlyGivenNames -underBinder -merge s_5
  have h6 : Only G s0 s_5 := by
    subst s_5
    refine State.whileEvent_only (hG.of rfl) ?_ h4
    intro u7 hu8
    try beta_reduce
    exact State.notice_only (hG.of rfl) hu8
  try clear_value s_5
  extract_lets +onlyGivenNames -underBinder -merge s_9
  have h10 : Only G s0 s_9 := by
    subst s_9
    refine State.whileEvent_only (hG.of rfl) ?_ h6
    intro u11 hu12
    try beta_reduce
    exact State.cause_only (hG.of rfl) hu12
  try clear_value s_9
  extract_lets +onlyGivenNames -underBinder -merge s_13
  have h14 : Only G s0 s_13 := by
    subst s_13
    split
    · refine Only.ite ?_ ?_
      · exact h10
      · exact Only.set_throttleNs_throttleAt (hG.of rfl) h10
    · refine Only.ite ?_ ?_
      · exact Only.set_throttleAt (hG.of rfl) h10
      · exact h10
  try clear_value s_13
  refine Only.ite ?_ ?_
  · exact State.cause_only (hG.of rfl) h14
  · exact h14

theorem thermalStateChange_only {c : Nat} {s : State} (hG : Sub 0x7000000001b014020000005f006a1000000000100000080200407e0050000000010084000000000001200805518441 G) (hS : Only G s0 s) :
    Only G s0 (thermalStateChange c s) := by
  unfold thermalStateChange
  extract_lets +onlyGivenNames -underBinder -merge x_1
  refine Only.ite ?_ ?_
  · exact hS
  · refine State.updThermal_only (hG.of rfl) ?_
    exact State.setSensor_only (hG.of rfl) hS

theorem State.updHottest_only {s : State} (hG : Sub 0x20000000000000000000000000000000000000000000000 G) (hS : Only G s0 s) :
    Only G s0 (State.updHottest s) := by
  unfold State.updHottest
  extract_lets +onlyGivenNames -underBinder -merge valid_1
  split
  · refine State.set_only (hG.of rfl) ?_
    exact State.set_only (hG.of rfl) hS
  · exact hS

theorem State.limitEvent_only {s : State} {c : Nat} (hG : Sub 0x1000000001b014020000005f006a1000000000100000080000407e0050000000010084000000000001200805518441 G) (hS : Only G s0 s) :
    Only G s0 (State.limitEvent s c) := by
  unfold State.limitEvent
  extract_lets +onlyGivenNames -underBinder -merge x_1
  extract_lets +onlyGivenNames -underBinder -merge s_2
  have h3 : Only G s0 s_2 := by
    subst s_2
    exact State.setSensor_only (hG.of rfl) hS
  try clear_value s_2
  refine Only.ite ?_ ?_
  · refine Only.ite ?_ ?_
    · exact State.setActive_only (hG.of rfl) h3
    · exact hS
  · refine Only.ite ?_ ?_
    · refine State.cause_only (hG.of rfl) ?_
      refine State.setActive_only (hG.of rfl) ?_
      exact State.setSensor_only (hG.of rfl) hS
    · exact hS

theorem State.showSample_only {s : State} {V : Fld} {C : Fld} {Q : Fld} {B : Fld} {i : Nat} {code : Nat} {value : Nat} (hV : Sub V.mask G) (hC : Sub C.mask G) (hQ : Sub Q.mask G) (hB : Sub B.mask G) (hS : Only G s0 s) :
    Only G s0 (State.showSample s V C Q B i code value) := by
  unfold State.showSample
  extract_lets +onlyGivenNames -underBinder -merge s_1
  have h2 : Only G s0 s_1 := by
    subst s_1
    refine Only.ite ?_ ?_
    · exact State.set_only hV hS
    · exact hS
  try clear_value s_1
  refine State.set_only hB ?_
  refine State.bump_only hQ ?_
  exact State.set_only hC h2

theorem telemetryConversion_only {c : Nat} {code : Nat} {result : Nat} {man : Bool} {s : State} (hG : Sub 0x7000000001b014020000005f006a1000000000100000083200407e0050000000010084000000000001200805518441 G) (hS : Only G s0 s) :
    Only G s0 (telemetryConversion c code result man s) := by
  unfold telemetryConversion
  extract_lets +onlyGivenNames -underBinder -merge s_1
  have h2 : Only G s0 s_1 := by
    subst s_1
    exact State.tallyChip_only (hG.of rfl) hS
  try clear_value s_1
  extract_lets +onlyGivenNames -underBinder -merge was_3
  refine Only.ite ?_ ?_
  · refine Only.ite ?_ ?_
    · exact State.cause_only (hG.of rfl) h2
    · exact h2
  · refine Only.ite ?_ ?_
    · refine Only.ite ?_ ?_
      · exact h2
      · split
        · refine State.showSample_only (hG.of rfl) (hG.of rfl) (hG.of rfl) (hG.of rfl) ?_
          exact State.setSensor_only (hG.of rfl) h2
    · split
      · extract_lets +onlyGivenNames -underBinder -merge x_4
        extract_lets +onlyGivenNames -underBinder -merge s_5
        have h6 : Only G s0 s_5 := by
          subst s_5
          refine State.showSample_only (hG.of rfl) (hG.of rfl) (hG.of rfl) (hG.of rfl) ?_
          exact State.setSensor_only (hG.of rfl) h2
        try clear_value s_5
        extract_lets +onlyGivenNames -underBinder -merge s_7
        have h8 : Only G s0 s_7 := by
          subst s_7
          refine Only.ite ?_ ?_
          · exact State.updHottest_only (hG.of rfl) h6
          · exact h6
        try clear_value s_7
        extract_lets +onlyGivenNames -underBinder -merge s_9
        have h10 : Only G s0 s_9 := by
          subst s_9
          exact State.limitEvent_only (hG.of rfl) h8
        try clear_value s_9
        extract_lets +onlyGivenNames -underBinder -merge __src_11
        refine Only.ite ?_ ?_
        · refine State.updThermal_only (hG.of rfl) ?_
          refine State.cause_only (hG.of rfl) ?_
          exact State.setSensor_only (hG.of rfl) h10
        · exact h10

theorem State.channelChanged_only {s : State} {c : Nat} {oldGain : Nat} {oldFilter : Nat} (hG : Sub 0x1000000000000000000000000000000000000000000000000000000000000000000000000000000000000000000000 G) (hS : Only G s0 s) :
    Only G s0 (State.channelChanged s c oldGain oldFilter) := by
  unfold State.channelChanged
  extract_lets +onlyGivenNames -underBinder -merge g_1
  extract_lets +onlyGivenNames -underBinder -merge f_2
  extract_lets +onlyGivenNames -underBinder -merge x_3
  refine Only.ite ?_ ?_
  · exact State.setSensor_only (hG.of rfl) hS
  · refine Only.ite ?_ ?_
    · exact State.setSensor_only (hG.of rfl) hS
    · exact hS

theorem State.manualChanged_only {s : State} {oldChannel : Nat} {oldGain : Nat} (hG : Sub 0x1000000000000000000000000000000000000000000000000000000000000000000000000000000000000000000000 G) (hS : Only G s0 s) :
    Only G s0 (State.manualChanged s oldChannel oldGain) := by
  unfold State.manualChanged
  extract_lets +onlyGivenNames -underBinder -merge a_1
  extract_lets +onlyGivenNames -underBinder -merge g_2
  extract_lets +onlyGivenNames -underBinder -merge x_3
  refine Only.ite ?_ ?_
  · exact State.setSensor_only (hG.of rfl) hS
  · refine Only.ite ?_ ?_
    · exact State.setSensor_only (hG.of rfl) hS
    · exact hS

end Sys2Proof.Machine
end

