-- ==== Sys2Proof/Laws/FrameFlash.lean ====
section
/-! SUPPORT. The frame of each function of Machine/Flash.lean: the parts of the state that it may change, as a set of bits (StatePart.place), with the canonical form kept. -/

namespace Sys2Proof.Machine

variable {G : Nat} {s0 : State}

theorem programBytes_wf {m : List Host.Cell} {a : Nat} (bs : List Byte) (h : Tbl.wf erasedByte m = true) : Tbl.wf erasedByte (programBytes m a bs) = true := by
  induction bs generalizing m a with
  | nil => exact h
  | cons b bs ih => exact ih (Tbl.wf_wr _ _ _ h)

theorem State.program_only {s : State} {cs : Nat} {a : Nat} {bs : List Byte} (hG : Sub 0x60000000000000000000000000000000000000000000000000000000000000000000000000000000000000 G) (h : Only G s0 s) : Only G s0 (State.program s cs a bs) :=
  State.setFlash_only (hG.of rfl) (programBytes_wf bs) h
theorem State.eraseFlash_only {s : State} {cs : Nat} {a : Nat} {n : Nat} (hG : Sub 0x60000000000000000000000000000000000000000000000000000000000000000000000000000000000000 G) (h : Only G s0 s) : Only G s0 (State.eraseFlash s cs a n) :=
  State.setFlash_only (hG.of rfl) (Tbl.wf_filter _ _) h
theorem State.showFuses_only {s : State} (hG : Sub 0x4000000000000000000090000000000000000000000000000000000 G) (hS : Only G s0 s) :
    Only G s0 (State.showFuses s) := by
  unfold State.showFuses
  extract_lets +onlyGivenNames -underBinder -merge s_1
  have h2 : Only G s0 s_1 := by
    subst s_1
    refine State.each_only ?_ hS
    intro y3 u4 hu5
    try beta_reduce
    extract_lets +onlyGivenNames -underBinder -merge t_6
    have h7 : Only G s0 t_6 := by
      subst t_6
      exact State.set_only (hG.of rfl) hu5
    try clear_value t_6
    extract_lets +onlyGivenNames -underBinder -merge t_8
    have h9 : Only G s0 t_8 := by
      subst t_8
      exact State.set_only (hG.of rfl) h7
    try clear_value t_8
    extract_lets +onlyGivenNames -underBinder -merge t_10
    have h11 : Only G s0 t_10 := by
      subst t_10
      exact State.set_only (hG.of rfl) h9
    try clear_value t_10
    extract_lets +onlyGivenNames -underBinder -merge t_12
    have h13 : Only G s0 t_12 := by
      subst t_12
      exact State.set_only (hG.of rfl) h11
    try clear_value t_12
    extract_lets +onlyGivenNames -underBinder -merge t_14
    have h15 : Only G s0 t_14 := by
      subst t_14
      exact State.set_only (hG.of rfl) h13
    try clear_value t_14
    extract_lets +onlyGivenNames -underBinder -merge t_16
    have h17 : Only G s0 t_16 := by
      subst t_16
      exact State.setBit_only (hG.of rfl) h15
    try clear_value t_16
    extract_lets +onlyGivenNames -underBinder -merge t_18
    have h19 : Only G s0 t_18 := by
      subst t_18
      exact State.setBit_only (hG.of rfl) h17
    try clear_value t_18
    refine State.each_only ?_ h19
    intro y20 u21 hu22
    try beta_reduce
    exact State.setReg_only (hG.of rfl) hu22
  try clear_value s_1
  exact State.set_only (hG.of rfl) h2

theorem State.showSlots_only {s : State} (hG : Sub 0x3000000000000000000000000000000000 G) (hS : Only G s0 s) :
    Only G s0 (State.showSlots s) := by
  unfold State.showSlots
  extract_lets +onlyGivenNames -underBinder -merge s_1
  have h2 : Only G s0 s_1 := by
    subst s_1
    exact State.set_only (hG.of rfl) hS
  try clear_value s_1
  extract_lets +onlyGivenNames -underBinder -merge s_3
  have h4 : Only G s0 s_3 := by
    subst s_3
    exact State.set_only (hG.of rfl) h2
  try clear_value s_3
  extract_lets +onlyGivenNames -underBinder -merge s_5
  have h6 : Only G s0 s_5 := by
    subst s_5
    exact State.set_only (hG.of rfl) h4
  try clear_value s_5
  extract_lets +onlyGivenNames -underBinder -merge s_7
  have h8 : Only G s0 s_7 := by
    subst s_7
    exact State.set_only (hG.of rfl) h6
  try clear_value s_7
  split
  · extract_lets +onlyGivenNames -underBinder -merge s_9
    have h10 : Only G s0 s_9 := by
      subst s_9
      exact State.set_only (hG.of rfl) h8
    try clear_value s_9
    exact State.set_only (hG.of rfl) h10
  · exact h8

end Sys2Proof.Machine
end

