-- ==== Sys2Proof/Laws/FrameKeys.lean ====
section
/-! SUPPORT. The frame of each function of Machine/Keys.lean: the parts of the state that it may change, as a set of bits (StatePart.place), with the canonical form kept. -/

namespace Sys2Proof.Machine

variable {G : Nat} {s0 : State}

theorem State.showId_only {s : State} (hG : Sub 0x8000000000000000000010000000000000000000000000000000000 G) (hS : Only G s0 s) :
    Only G s0 (State.showId s) := by
  unfold State.showId
  extract_lets +onlyGivenNames -underBinder -merge s_1
  have h2 : Only G s0 s_1 := by
    subst s_1
    exact State.set_only (hG.of rfl) hS
  try clear_value s_1
  extract_lets +onlyGivenNames -underBinder -merge pub_3
  refine State.each_only ?_ h2
  intro y4 u5 hu6
  try beta_reduce
  exact State.setReg_only (hG.of rfl) hu6

theorem State.recordInForce_only {s : State} {k : Nat} (hG : Sub 0x1000000000000000000000000000000008000000000000000000010000000000000000000000000000000000 G) (hS : Only G s0 s) :
    Only G s0 (State.recordInForce s k) := by
  unfold State.recordInForce
  extract_lets +onlyGivenNames -underBinder -merge key_1
  extract_lets +onlyGivenNames -underBinder -merge s_2
  have h3 : Only G s0 s_2 := by
    subst s_2
    exact State.set_only (hG.of rfl) hS
  try clear_value s_2
  extract_lets +onlyGivenNames -underBinder -merge s_4
  have h5 : Only G s0 s_4 := by
    subst s_4
    exact State.set_only (hG.of rfl) h3
  try clear_value s_4
  extract_lets +onlyGivenNames -underBinder -merge s_6
  have h7 : Only G s0 s_6 := by
    subst s_6
    exact State.set_only (hG.of rfl) h5
  try clear_value s_6
  extract_lets +onlyGivenNames -underBinder -merge s_8
  have h9 : Only G s0 s_8 := by
    subst s_8
    exact State.set_only (hG.of rfl) h7
  try clear_value s_8
  extract_lets +onlyGivenNames -underBinder -merge s_10
  have h11 : Only G s0 s_10 := by
    subst s_10
    exact State.set_only (hG.of rfl) h9
  try clear_value s_10
  refine State.showId_only (hG.of rfl) ?_
  exact Only.set_idKey (hG.of rfl) h11

theorem State.bootKeys_only {s : State} (hG : Sub 0x3000000000000000000000000000000018000008000000000010010000000000000000000000000000000000 G) (hS : Only G s0 s) :
    Only G s0 (State.bootKeys s) := by
  unfold State.bootKeys
  split
  · exact State.notice_only (hG.of rfl) hS
  · extract_lets +onlyGivenNames -underBinder -merge s_1
    have h2 : Only G s0 s_1 := by
      subst s_1
      exact Only.set_bootKey (hG.of rfl) hS
    refine Only.ite ?_ ?_
    · exact State.recordInForce_only (hG.of rfl) h2
    · exact State.notice_only (hG.of rfl) h2

theorem State.keyCommand_only {s : State} {r : KeyRun} (hG : Sub 0x2000400000000000000000000000000000010000008000000000010040000000000000000000000000000000008 G) (hS : Only G s0 s) :
    Only G s0 (State.keyCommand s r) := by
  unfold State.keyCommand
  extract_lets +onlyGivenNames -underBinder -merge __src_1
  have h2 : Only G s0 __src_1 := by
    subst __src_1
    exact State.resultStart_only (hG.of rfl) hS
  try clear_value __src_1
  refine Only.ite ?_ ?_
  · exact State.refuseWrite_only (hG.of rfl) hS
  · exact Only.set_keyRun (hG.of rfl) h2

theorem keyGenId_only {s : State} (hG : Sub 0x2000400000000000000000000080000000010000008000000000010040000000000000000000000000000000008 G) (hS : Only G s0 s) :
    Only G s0 (keyGenId s) := by
  unfold keyGenId
  extract_lets +onlyGivenNames -underBinder -merge key_1
  extract_lets +onlyGivenNames -underBinder -merge t_2
  have h3 : Only G s0 t_2 := by
    subst t_2
    exact State.keyCommand_only (hG.of rfl) hS
  try clear_value t_2
  refine Only.ite ?_ ?_
  · refine Only.ite ?_ ?_
    · exact h3
    · exact Only.set_freeCtr (hG.of rfl) h3
  · exact State.keyCommand_only (hG.of rfl) hS

theorem keyRotate_only {readBackOk : Bool} {s : State} (hG : Sub 0x2000400000000000000000000000000000010000008000000000010040000000000000000000000000000000008 G) (hS : Only G s0 s) :
    Only G s0 (keyRotate readBackOk s) := by
  unfold keyRotate
  extract_lets +onlyGivenNames -underBinder -merge r_1
  split
  · exact State.keyCommand_only (hG.of rfl) hS
  · extract_lets +onlyGivenNames -underBinder -merge st_2
    extract_lets +onlyGivenNames -underBinder -merge st_3
    exact State.keyCommand_only (hG.of rfl) hS

theorem keyRevoke_only {n : Nat} {s : State} (hG : Sub 0x2000400000000000000000000000000000010000008000000000010040000000000000000000000000000000008 G) (hS : Only G s0 s) :
    Only G s0 (keyRevoke n s) := by
  unfold keyRevoke
  extract_lets +onlyGivenNames -underBinder -merge last_1
  extract_lets +onlyGivenNames -underBinder -merge st_2
  exact State.keyCommand_only (hG.of rfl) hS

theorem keyProgRoot_only {n : Nat} {s : State} (hG : Sub 0x2000400000000000000000000000000000010000008000000000010040000000000000000000000000000000008 G) (hS : Only G s0 s) :
    Only G s0 (keyProgRoot n s) := by
  unfold keyProgRoot
  exact State.keyCommand_only (hG.of rfl) hS

theorem keyRaiseSvn_only {floor : Nat} {s : State} (hG : Sub 0x2000400000000000000000000000000000010000008000000000010040000000000000000000000000000000008 G) (hS : Only G s0 s) :
    Only G s0 (keyRaiseSvn floor s) := by
  unfold keyRaiseSvn
  exact State.keyCommand_only (hG.of rfl) hS

theorem State.storeRecord_only {s : State} {r : List Byte} (hG : Sub 0x1860000000000000000000000000000008000000000000000000010000000000000000000000000000000000 G) (hS : Only G s0 s) :
    Only G s0 (State.storeRecord s r) := by
  unfold State.storeRecord
  extract_lets +onlyGivenNames -underBinder -merge k_1
  extract_lets +onlyGivenNames -underBinder -merge gen_2
  extract_lets +onlyGivenNames -underBinder -merge s_3
  have h4 : Only G s0 s_3 := by
    subst s_3
    refine State.eraseFlash_only (hG.of rfl) ?_
    exact State.eraseFlash_only (hG.of rfl) hS
  try clear_value s_3
  extract_lets +onlyGivenNames -underBinder -merge s_5
  have h6 : Only G s0 s_5 := by
    subst s_5
    exact State.program_only (hG.of rfl) h4
  try clear_value s_5
  extract_lets +onlyGivenNames -underBinder -merge s_7
  have h8 : Only G s0 s_7 := by
    subst s_7
    exact State.program_only (hG.of rfl) h6
  try clear_value s_7
  refine State.recordInForce_only (hG.of rfl) ?_
  exact Only.set_pendingId (hG.of rfl) h8

theorem State.keyEffect_only {s : State} {r : KeyRun} (hG : Sub 0x18e000000000000000000000000000000c000000000000000000090000000000000000000000000000000000 G) (hS : Only G s0 s) :
    Only G s0 (State.keyEffect s r) := by
  unfold State.keyEffect
  split
  · refine State.showId_only (hG.of rfl) ?_
    exact Only.set_pendingId (hG.of rfl) hS
  · exact State.storeRecord_only (hG.of rfl) hS
  · extract_lets +onlyGivenNames -underBinder -merge __src_1
    refine State.showFuses_only (hG.of rfl) ?_
    exact Only.set_fuses (hG.of rfl) hS
  · extract_lets +onlyGivenNames -underBinder -merge __src_2
    refine State.showFuses_only (hG.of rfl) ?_
    exact Only.set_fuses (hG.of rfl) hS
  · extract_lets +onlyGivenNames -underBinder -merge __src_3
    refine State.showFuses_only (hG.of rfl) ?_
    exact Only.set_fuses (hG.of rfl) hS

theorem keyCommandComplete_only {s : State} (hG : Sub 0x1ce000000000000000000000000000000c0000000000000000000d0000000000000000000000000000000000 G) (hS : Only G s0 s) :
    Only G s0 (keyCommandComplete s) := by
  unfold keyCommandComplete
  split
  · exact hS
  · extract_lets +onlyGivenNames -underBinder -merge s_1
    have h2 : Only G s0 s_1 := by
      subst s_1
      exact Only.set_keyRun (hG.of rfl) hS
    try clear_value s_1
    extract_lets +onlyGivenNames -underBinder -merge s_3
    have h4 : Only G s0 s_3 := by
      subst s_3
      refine Only.ite ?_ ?_
      · exact State.keyEffect_only (hG.of rfl) h2
      · refine Only.ite ?_ ?_
        · refine State.eraseFlash_only (hG.of rfl) ?_
          exact State.eraseFlash_only (hG.of rfl) h2
        · exact h2
    try clear_value s_3
    refine State.resultDone_only (hG.of rfl) (hG.of rfl) ?_
    exact State.set_only (hG.of rfl) h4

theorem trngStartupComplete_only {s : State} (hG : Sub 0x100000000000000000000000000000000000 G) (hS : Only G s0 s) :
    Only G s0 (trngStartupComplete s) := by
  unfold trngStartupComplete
  refine Only.ite ?_ ?_
  · exact hS
  · refine State.set_only (hG.of rfl) ?_
    exact State.set_only (hG.of rfl) hS

theorem trngHealthFailure_only {apt : Bool} {s : State} (hG : Sub 0x1b014020000005f006a1000000000100000080000403e0050100000010084000000000001200805518441 G) (hS : Only G s0 s) :
    Only G s0 (trngHealthFailure apt s) := by
  unfold trngHealthFailure
  extract_lets +onlyGivenNames -underBinder -merge starting_1
  extract_lets +onlyGivenNames -underBinder -merge s_2
  have h3 : Only G s0 s_2 := by
    subst s_2
    exact State.set_only (hG.of rfl) hS
  try clear_value s_2
  extract_lets +onlyGivenNames -underBinder -merge s_4
  have h5 : Only G s0 s_4 := by
    subst s_4
    refine Only.ite ?_ ?_
    · exact State.count_only (hG.of rfl) h3
    · exact State.count_only (hG.of rfl) h3
  try clear_value s_4
  extract_lets +onlyGivenNames -underBinder -merge s_6
  have h7 : Only G s0 s_6 := by
    subst s_6
    refine Only.ite ?_ ?_
    · exact h5
    · refine Only.ite ?_ ?_
      · exact State.set_only (hG.of rfl) h5
      · exact State.set_only (hG.of rfl) h5
  try clear_value s_6
  refine Only.ite ?_ ?_
  · exact hS
  · exact State.cause_only (hG.of rfl) h7

theorem trngReseed_only {s : State} (hG : Sub 0x80000000000000000000000000000000000000000000000000000000000000000 G) (hS : Only G s0 s) :
    Only G s0 (trngReseed s) := by
  unfold trngReseed
  refine Only.ite ?_ ?_
  · exact State.fresh_only (hG.of rfl) hS
  · exact hS

theorem trngNext_only {s : State} (hG : Sub 0x80000000000000000000000000000c00000000000000000000000000000000000 G) (hS : Only G s0 s) :
    Only G s0 (trngNext s) := by
  unfold trngNext
  extract_lets +onlyGivenNames -underBinder -merge ok_1
  extract_lets +onlyGivenNames -underBinder -merge s_2
  have h3 : Only G s0 s_2 := by
    subst s_2
    exact State.resultStart_only (hG.of rfl) hS
  try clear_value s_2
  extract_lets +onlyGivenNames -underBinder -merge s_4
  have h5 : Only G s0 s_4 := by
    subst s_4
    exact State.set_only (hG.of rfl) h3
  try clear_value s_4
  extract_lets +onlyGivenNames -underBinder -merge s_6
  have h7 : Only G s0 s_6 := by
    subst s_6
    exact State.setReg_only (hG.of rfl) h5
  try clear_value s_6
  extract_lets +onlyGivenNames -underBinder -merge s_8
  have h9 : Only G s0 s_8 := by
    subst s_8
    refine Only.ite ?_ ?_
    · exact State.fresh_only (hG.of rfl) h7
    · exact h7
  try clear_value s_8
  exact State.resultDone_only (hG.of rfl) (hG.of rfl) h9

end Sys2Proof.Machine
end

