-- ==== Sys2Proof/Laws/FrameAnvil.lean ====
section
/-! SUPPORT. The frame of each function of Machine/Anvil.lean: the parts of the state that it may change, as a set of bits (StatePart.place), with the canonical form kept. -/

namespace Sys2Proof.Machine

variable {G : Nat} {s0 : State}

theorem State.ensureRoutes_only {s : State} {n : Nat} {d : Nat} (hG : Sub 0x1b014020b00005f006a1000000000100000080000403e0050000000010084001000000001200805518441 G) (hS : Only G s0 s) :
    Only G s0 (State.ensureRoutes s n d) := by
  unfold State.ensureRoutes
  refine State.each_only ?_ hS
  intro y1 u2 hu3
  try beta_reduce
  exact State.repair_only (hG.of rfl) hu3

theorem State.setInFlight_only {s : State} {n : Nat} {d : Nat} {a : Nat} {v : Nat} (hG : Sub 0x1000000000000000000000000000000000000000000000000000000000000000000000000 G) (hS : Only G s0 s) :
    Only G s0 (State.setInFlight s n d a v) := by
  unfold State.setInFlight
  exact Only.set_inflight (hG.of rfl) hS

theorem State.setRtr_only {s : State} {n : Nat} {x : RtrState} (hG : Sub 0x2000000000000000000000000000000000000000000000000000000000000000000000000 G) (hS : Only G s0 s) :
    Only G s0 (State.setRtr s n x) := by
  unfold State.setRtr
  exact Only.set_rtr (hG.of rfl) hS

theorem State.enqueue_only {s : State} {n : Nat} {p : Pkt} (hG : Sub 0x200000000000000000000000000000000000000000000000000000000000000000000000 G) (hS : Only G s0 s) :
    Only G s0 (State.enqueue s n p) := by
  unfold State.enqueue
  exact Only.set_voq (hG.of rfl) hS

theorem State.spend_only {s : State} {n : Nat} {p : Pkt} (hG : Sub 0x400000000000000000000000000000000000000000000000000000000000000000000000 G) (hS : Only G s0 s) :
    Only G s0 (State.spend s n p) := by
  unfold State.spend
  extract_lets +onlyGivenNames -underBinder -merge e_1
  extract_lets +onlyGivenNames -underBinder -merge l_2
  extract_lets +onlyGivenNames -underBinder -merge a_3
  refine Only.ite ?_ ?_
  · exact hS
  · exact State.setLedger_only (hG.of rfl) hS

theorem State.owe_only {s : State} {e : Nat} {p : Pkt} (hG : Sub 0x400000000000000000000000000000000000000000000000000000000000000000000000 G) (hS : Only G s0 s) :
    Only G s0 (State.owe s e p) := by
  unfold State.owe
  extract_lets +onlyGivenNames -underBinder -merge l_1
  refine Only.ite ?_ ?_
  · exact hS
  · exact State.setLedger_only (hG.of rfl) hS

theorem State.leaves_only {s : State} {n : Nat} {p : Pkt} (hG : Sub 0x500000000000000000000000000000000000000000000000000000000000000800000000 G) (hS : Only G s0 s) :
    Only G s0 (State.leaves s n p) := by
  unfold State.leaves
  extract_lets +onlyGivenNames -underBinder -merge x_1
  refine State.owe_only (hG.of rfl) ?_
  refine State.vacate_only (hG.of rfl) ?_
  exact State.setNi_only (hG.of rfl) hS

theorem State.consume_only {s : State} {n : Nat} {p : Pkt} (hG : Sub 0x1100000008000000000000000180000000000000000000000000000000000000000000000000000000000000000 G) (hS : Only G s0 s) :
    Only G s0 (State.consume s n p) := by
  unfold State.consume
  refine State.when_only ?_ ?_
  · intro u1 hu2
    try beta_reduce
    refine State.when_only ?_ ?_
    · intro u3 hu4
      try beta_reduce
      exact State.answerOver_only (hG.of rfl) hu4
    · exact State.memAnswer_only (hG.of rfl) hu2
  · exact State.emit_only (hG.of rfl) hS

theorem State.deliver_only {s : State} {n : Nat} {p : Pkt} (hG : Sub 0x1100000008000000000500000180000000000000008000000000000000000000000000000000000000800000000 G) (hS : Only G s0 s) :
    Only G s0 (State.deliver s n p) := by
  unfold State.deliver
  extract_lets +onlyGivenNames -underBinder -merge x_1
  extract_lets +onlyGivenNames -underBinder -merge s_2
  have h3 : Only G s0 s_2 := by
    subst s_2
    exact State.setNi_only (hG.of rfl) hS
  try clear_value s_2
  extract_lets +onlyGivenNames -underBinder -merge occ_4
  extract_lets +onlyGivenNames -underBinder -merge s_5
  have h6 : Only G s0 s_5 := by
    subst s_5
    refine State.fixed_only (hG.of rfl) ?_
    exact State.set_only (hG.of rfl) h3
  try clear_value s_5
  refine Only.ite ?_ ?_
  · exact hS
  · refine Only.ite ?_ ?_
    · refine State.creditBack_only (hG.of rfl) ?_
      exact State.absorb_only (hG.of rfl) hS
    · refine Only.ite ?_ ?_
      · refine State.creditBack_only (hG.of rfl) ?_
        exact State.absorb_only (hG.of rfl) hS
      · refine Only.ite ?_ ?_
        · exact State.set_only (hG.of rfl) h6
        · refine State.consume_only (hG.of rfl) ?_
          refine State.owe_only (hG.of rfl) ?_
          exact State.fixed_only (hG.of rfl) hS

theorem State.keepTc_only {s : State} {port : Nat} {param : Nat} {tc : Nat} (hG : Sub 0x2000000000000000000000000000000000000000000000000000000000000000000000000000 G) (hS : Only G s0 s) :
    Only G s0 (State.keepTc s port param tc) := by
  unfold State.keepTc
  exact Only.set_tcs (hG.of rfl) hS

theorem State.noRoute_only {s : State} {n : Nat} {p : Pkt} (hG : Sub 0x100000000000000010000008000000000010000000000000000000000001002000000000 G) (hS : Only G s0 s) :
    Only G s0 (State.noRoute s n p) := by
  unfold State.noRoute
  extract_lets +onlyGivenNames -underBinder -merge r_1
  extract_lets +onlyGivenNames -underBinder -merge s_2
  have h3 : Only G s0 s_2 := by
    subst s_2
    exact State.absorb_only (hG.of rfl) hS
  try clear_value s_2
  extract_lets +onlyGivenNames -underBinder -merge s_4
  have h5 : Only G s0 s_4 := by
    subst s_4
    exact State.count_only (hG.of rfl) h3
  try clear_value s_4
  extract_lets +onlyGivenNames -underBinder -merge s_6
  have h7 : Only G s0 s_6 := by
    subst s_6
    exact State.count_only (hG.of rfl) h5
  try clear_value s_6
  exact State.notice_only (hG.of rfl) h7

theorem State.setCrossing_only {s : State} {rt : Nat} {i : Nat} {l : List Flit} (hG : Sub 0x10000000000000000000000000000000000000000000000000000000000000000000000000 G) (hS : Only G s0 s) :
    Only G s0 (State.setCrossing s rt i l) := by
  unfold State.setCrossing
  exact Only.set_xing (hG.of rfl) hS

theorem State.fillLocal_only {s : State} {rt : Nat} (hG : Sub 0x12000000000000000000000000000000000000000000000000000000000000000000000000 G) (hS : Only G s0 s) :
    Only G s0 (State.fillLocal s rt) := by
  unfold State.fillLocal
  refine State.each_only ?_ hS
  intro y1 u2 hu3
  try beta_reduce
  extract_lets +onlyGivenNames -underBinder -merge r_4
  refine State.setCrossing_only (hG.of rfl) ?_
  exact State.setRtr_only (hG.of rfl) hu3

theorem State.launch_only {s : State} {n : Nat} {a : Nat} {p : Pkt} (hG : Sub 0x13400000000000000000000008000000000000000000000000000000000000000000000000 G) (hS : Only G s0 s) :
    Only G s0 (State.launch s n a p) := by
  unfold State.launch
  extract_lets +onlyGivenNames -underBinder -merge d_1
  extract_lets +onlyGivenNames -underBinder -merge w_2
  extract_lets +onlyGivenNames -underBinder -merge p_3
  extract_lets +onlyGivenNames -underBinder -merge s_4
  have h5 : Only G s0 s_4 := by
    subst s_4
    refine State.fixed_only (hG.of rfl) ?_
    refine State.setInFlight_only (hG.of rfl) ?_
    exact State.spend_only (hG.of rfl) hS
  try clear_value s_4
  extract_lets +onlyGivenNames -underBinder -merge l_6
  refine State.fillLocal_only (hG.of rfl) ?_
  exact State.setCrossing_only (hG.of rfl) h5

theorem State.inject_only {s : State} {n : Nat} {p : Pkt} (hG : Sub 0x1b014020b00135f006a1000000000100000080000403e0050000000010084001000000001202805518441 G) (hS : Only G s0 s) :
    Only G s0 (State.inject s n p) := by
  unfold State.inject
  split
  · exact State.absorb_only (hG.of rfl) hS
  · extract_lets +onlyGivenNames -underBinder -merge d_1
    extract_lets +onlyGivenNames -underBinder -merge wait_2
    have h3 : ∀ u4, Only G s0 u4 → Only G s0 (wait_2 u4) := by
      subst wait_2
      intro u4 hu5
      try beta_reduce
      extract_lets +onlyGivenNames -underBinder -merge x_6
      exact State.setNi_only (hG.of rfl) hu5
    try clear_value wait_2
    extract_lets +onlyGivenNames -underBinder -merge s_7
    have h8 : Only G s0 s_7 := by
      subst s_7
      exact State.ensureRoutes_only (hG.of rfl) hS
    try clear_value s_7
    refine Only.ite ?_ ?_
    · exact h3 _ hS
    · split
      · exact State.noRoute_only (hG.of rfl) h8
      · refine Only.ite ?_ ?_
        · exact h3 _ h8
        · exact State.launch_only (hG.of rfl) h8

theorem voqInject_only {n : Nat} {s : State} (hG : Sub 0x1b014020b00137f006a1000000000100000080000403e0050000000010084001000000001202805518441 G) (hS : Only G s0 s) :
    Only G s0 (voqInject n s) := by
  unfold voqInject
  split
  · exact hS
  · extract_lets +onlyGivenNames -underBinder -merge q_1
    extract_lets +onlyGivenNames -underBinder -merge s_2
    have h3 : Only G s0 s_2 := by
      subst s_2
      exact Only.set_voq (hG.of rfl) hS
    try clear_value s_2
    extract_lets +onlyGivenNames -underBinder -merge x_4
    extract_lets +onlyGivenNames -underBinder -merge last_5
    refine State.inject_only (hG.of rfl) ?_
    exact State.setNi_only (hG.of rfl) h3

theorem packetInject_only {n : Nat} {src : StreamSrc} {p : Pkt} {s : State} (hG : Sub 0x1b014060b00137f006a1000000000100000080000403e0050000000010084001000000001202805518441 G) (hS : Only G s0 s) :
    Only G s0 (packetInject n src p s) := by
  unfold packetInject
  extract_lets +onlyGivenNames -underBinder -merge w_1
  extract_lets +onlyGivenNames -underBinder -merge s_2
  have h3 : Only G s0 s_2 := by
    subst s_2
    split
    · exact Only.set_resolved (hG.of rfl) hS
    · exact hS
  try clear_value s_2
  extract_lets +onlyGivenNames -underBinder -merge t_4
  have h5 : Only G s0 t_4 := by
    subst t_4
    exact State.enqueue_only (hG.of rfl) h3
  try clear_value t_4
  refine Only.ite ?_ ?_
  · exact hS
  · split
    · refine Only.ite ?_ ?_
      · exact voqInject_only (hG.of rfl) h5
      · exact h5
    · exact h5

theorem routeEntryWrite_only {n : Nat} {d : Nat} {a : Nat} {w : Word} {s : State} (hG : Sub 0x20000000000000b0000100000000000000010000008000000000010000000000000000048000000000200000008 G) (hS : Only G s0 s) :
    Only G s0 (routeEntryWrite n d a w s) := by
  unfold routeEntryWrite
  extract_lets +onlyGivenNames -underBinder -merge i_1
  extract_lets +onlyGivenNames -underBinder -merge was_2
  extract_lets +onlyGivenNames -underBinder -merge s_3
  have h4 : Only G s0 s_3 := by
    subst s_3
    refine State.writeEntry_only (hG.of rfl) ?_ hS
    intro u5 hu6
    try beta_reduce
    extract_lets +onlyGivenNames -underBinder -merge t_7
    have h8 : Only G s0 t_7 := by
      subst t_7
      exact State.set_only (hG.of rfl) hu6
    try clear_value t_7
    extract_lets +onlyGivenNames -underBinder -merge t_9
    have h10 : Only G s0 t_9 := by
      subst t_9
      exact State.set_only (hG.of rfl) h8
    try clear_value t_9
    extract_lets +onlyGivenNames -underBinder -merge t_11
    have h12 : Only G s0 t_11 := by
      subst t_11
      exact State.set_only (hG.of rfl) h10
    try clear_value t_11
    exact State.set_only (hG.of rfl) h12
  try clear_value s_3
  extract_lets +onlyGivenNames -underBinder -merge hold_13
  extract_lets +onlyGivenNames -underBinder -merge busy_14
  extract_lets +onlyGivenNames -underBinder -merge x_15
  refine Only.ite ?_ ?_
  · exact State.refuseWrite_only (hG.of rfl) hS
  · refine Only.ite ?_ ?_
    · exact State.setNi_only (hG.of rfl) h4
    · exact h4

theorem State.putFirst_only {s : State} {n : Nat} {p : Pkt} (hG : Sub 0x200000000000000000000000000000000000000000000000000000000000000000000000 G) (hS : Only G s0 s) :
    Only G s0 (State.putFirst s n p) := by
  unfold State.putFirst
  exact Only.set_voq (hG.of rfl) hS

theorem routeChangeResume_only {n : Nat} {d : Nat} {s : State} (hG : Sub 0x300000000000000000000000000000000000000000000000000000000000000000000000 G) (hS : Only G s0 s) :
    Only G s0 (routeChangeResume n d s) := by
  unfold routeChangeResume
  extract_lets +onlyGivenNames -underBinder -merge x_1
  extract_lets +onlyGivenNames -underBinder -merge free_2
  extract_lets +onlyGivenNames -underBinder -merge go_3
  extract_lets +onlyGivenNames -underBinder -merge s_4
  have h5 : Only G s0 s_4 := by
    subst s_4
    exact State.setNi_only (hG.of rfl) hS
  try clear_value s_4
  refine Only.ite ?_ ?_
  · refine Only.fold ?_ h5
    intro u6 y8 hu7
    try beta_reduce
    exact State.putFirst_only (hG.of rfl) hu7
  · exact hS

theorem State.landed_only {s : State} {p : Pkt} (hG : Sub 0x1000000000000000000000000000000000000000000000000000000000000000000000000 G) (hS : Only G s0 s) :
    Only G s0 (State.landed s p) := by
  unfold State.landed
  exact State.setInFlight_only (hG.of rfl) hS

theorem State.switched_only {s : State} {rt : Nat} {out : Nat} {f : Flit} (hG : Sub 0x8000000000000000000000000000000000000000000000000 G) (hS : Only G s0 s) :
    Only G s0 (State.switched s rt out f) := by
  unfold State.switched
  extract_lets +onlyGivenNames -underBinder -merge t_1
  have h2 : ∀ u3, Only G s0 u3 → ∀ y5, Only G s0 (t_1 u3 y5) := by
    subst t_1
    intro u3 hu4 y5
    try beta_reduce
    exact State.tally_only (hG.of rfl) hu4
  try clear_value t_1
  extract_lets +onlyGivenNames -underBinder -merge aged_6
  extract_lets +onlyGivenNames -underBinder -merge s_7
  have h8 : Only G s0 s_7 := by
    subst s_7
    exact h2 _ hS _
  try clear_value s_7
  extract_lets +onlyGivenNames -underBinder -merge s_9
  have h10 : Only G s0 s_9 := by
    subst s_9
    refine Only.ite ?_ ?_
    · exact h2 _ h8 _
    · exact h8
  try clear_value s_9
  extract_lets +onlyGivenNames -underBinder -merge s_11
  have h12 : Only G s0 s_11 := by
    subst s_11
    exact h2 _ h10 _
  try clear_value s_11
  refine Only.ite ?_ ?_
  · exact h2 _ h12 _
  · exact h12

theorem State.mapFlits_only {s : State} {p : Pkt} {g : Pkt → Pkt} (hG : Sub 0x12000000000000000000000000000000000000000000000000000000000000000000000000 G) (hS : Only G s0 s) :
    Only G s0 (State.mapFlits s p g) := by
  unfold State.mapFlits
  extract_lets +onlyGivenNames -underBinder -merge h_1
  exact Only.set_rtr_xing (hG.of rfl) hS

theorem State.voidPkt_only {s : State} {p : Pkt} (hG : Sub 0x12400000000000000000000000000000000000000000000000000000000000000000000000 G) (hS : Only G s0 s) :
    Only G s0 (State.voidPkt s p) := by
  unfold State.voidPkt
  refine Only.ite ?_ ?_
  · exact hS
  · refine State.creditBack_only (hG.of rfl) ?_
    exact State.mapFlits_only (hG.of rfl) hS

theorem State.dropped_only {s : State} {p : Pkt} (hG : Sub 0x1400000000000000000000000000000000000000000000000000000000000000000000000 G) (hS : Only G s0 s) :
    Only G s0 (State.dropped s p) := by
  unfold State.dropped
  refine Only.ite ?_ ?_
  · exact State.landed_only (hG.of rfl) hS
  · refine State.creditBack_only (hG.of rfl) ?_
    exact State.landed_only (hG.of rfl) hS

theorem State.noteTrace_only {s : State} {rt : Nat} {kind : Nat} {input : Nat} {output : Nat} {p : Pkt} {fab : Option FabPkt} (hG : Sub 0x8000000000000000000000000000000000000000000000000000000000000000000000000000000000000000000000 G) (hS : Only G s0 s) :
    Only G s0 (State.noteTrace s rt kind input output p fab) := by
  unfold State.noteTrace
  refine Only.ite ?_ ?_
  · exact Only.set_trcDue (hG.of rfl) hS
  · exact hS

theorem State.ejects_only {s : State} {f : Flit} (hG : Sub 0x8001100000008000000001500000180000000000000008000000000000000000000000000000000000000800000000 G) (hS : Only G s0 s) :
    Only G s0 (State.ejects s f) := by
  unfold State.ejects
  extract_lets +onlyGivenNames -underBinder -merge __src_1
  refine Only.ite ?_ ?_
  · exact State.landed_only (hG.of rfl) hS
  · refine State.noteTrace_only (hG.of rfl) ?_
    refine State.deliver_only (hG.of rfl) ?_
    exact State.landed_only (hG.of rfl) hS

theorem State.wearAdd_only {s : State} {monitor : Nat} {cell : Nat} {n : Nat} (hG : Sub 0x40000000000000000000000000000000000000000000000000000000000000000000000000 G) (hS : Only G s0 s) :
    Only G s0 (State.wearAdd s monitor cell n) := by
  unfold State.wearAdd
  extract_lets +onlyGivenNames -underBinder -merge k_1
  extract_lets +onlyGivenNames -underBinder -merge h_2
  extract_lets +onlyGivenNames -underBinder -merge x_3
  exact Only.set_wear (hG.of rfl) hS

theorem State.linkCheck_only {s : State} {rt : Nat} {out : Nat} {m : Nat} {ecc : Nat} {wire : Nat} {inj : Bool} {p : Pkt} (hG : Sub 0x1b014020000525f006a1000000000100000080000487e0050000000010084000000000001203805518441 G) (hS : Only G s0 s) :
    Only G s0 (State.linkCheck s rt out m ecc wire inj p) := by
  unfold State.linkCheck
  split
  · exact hS
  · refine State.wearAdd_only (hG.of rfl) ?_
    exact State.count_only (hG.of rfl) hS
  · extract_lets +onlyGivenNames -underBinder -merge s_1
    have h2 : Only G s0 s_1 := by
      subst s_1
      refine State.cause_only (hG.of rfl) ?_
      refine State.count_only (hG.of rfl) ?_
      exact State.voidPkt_only (hG.of rfl) hS
    try clear_value s_1
    refine Only.ite ?_ ?_
    · refine State.unmet_only (hG.of rfl) ?_
      exact State.setBit_only (hG.of rfl) h2
    · exact h2

theorem State.waitAll_only {s : State} {rt : Nat} {out : Nat} (hG : Sub 0x2000000000000000000000000000000000000000000000000000000000000000000000000 G) (hS : Only G s0 s) :
    Only G s0 (State.waitAll s rt out) := by
  unfold State.waitAll
  extract_lets +onlyGivenNames -underBinder -merge x_1
  exact State.setRtr_only (hG.of rfl) hS

theorem State.switchFlit_only {s : State} {rt : Nat} {out : Nat} {ecc : Nat} {wire : Nat} {inj : Bool} (hG : Sub 0x8001100001b094020000735f006a1800000000100000080000487e0050000000010084000000000001203805518441 G) (hS : Only G s0 s) :
    Only G s0 (State.switchFlit s rt out ecc wire inj) := by
  unfold State.switchFlit
  split
  · refine Only.ite ?_ ?_
    · refine State.tally_only (hG.of rfl) ?_
      exact State.waitAll_only (hG.of rfl) hS
    · exact hS
  · extract_lets +onlyGivenNames -underBinder -merge s_1
    have h2 : Only G s0 s_1 := by
      subst s_1
      refine State.when_only ?_ ?_
      · intro u3 hu4
        try beta_reduce
        exact State.noteTrace_only (hG.of rfl) hu4
      · exact State.switched_only (hG.of rfl) hS
    try clear_value s_1
    extract_lets +onlyGivenNames -underBinder -merge q_5
    extract_lets +onlyGivenNames -underBinder -merge last_6
    extract_lets +onlyGivenNames -underBinder -merge s_7
    have h8 : Only G s0 s_7 := by
      subst s_7
      refine State.fillLocal_only (hG.of rfl) ?_
      exact State.setRtr_only (hG.of rfl) h2
    try clear_value s_7
    extract_lets +onlyGivenNames -underBinder -merge m_9
    extract_lets +onlyGivenNames -underBinder -merge cross_10
    extract_lets +onlyGivenNames -underBinder -merge g_11
    extract_lets +onlyGivenNames -underBinder -merge __src_12
    have h13 : Only G s0 __src_12 := by
      subst __src_12
      exact State.dropped_only (hG.of rfl) h8
    try clear_value __src_12
    extract_lets +onlyGivenNames -underBinder -merge y_14
    refine Only.ite ?_ ?_
    · exact State.setCrossing_only (hG.of rfl) h8
    · refine Only.ite ?_ ?_
      · refine Only.ite ?_ ?_
        · exact State.ejects_only (hG.of rfl) h8
        · exact h8
      · refine Only.ite ?_ ?_
        · refine Only.ite ?_ ?_
          · exact Only.set_gateDrops (hG.of rfl) h13
          · exact h8
        · refine Only.ite ?_ ?_
          · refine Only.ite ?_ ?_
            · refine State.when_only ?_ ?_
              · intro u15 hu16
                try beta_reduce
                exact State.absorb_only (hG.of rfl) hu16
              · exact State.dropped_only (hG.of rfl) h8
            · exact h8
          · refine Only.ite ?_ ?_
            · refine Only.ite ?_ ?_
              · refine State.when_only ?_ ?_
                · intro u17 hu18
                  try beta_reduce
                  exact State.noRoute_only (hG.of rfl) hu18
                · exact State.dropped_only (hG.of rfl) h8
              · exact h8
            · refine Only.ite ?_ ?_
              · exact State.setCrossing_only (hG.of rfl) h8
              · refine State.linkCheck_only (hG.of rfl) ?_
                exact State.setRtr_only (hG.of rfl) h8

theorem flitSwitch_only {rt : Nat} {out : Nat} {ecc : Nat} {wire : Nat} {s : State} (hG : Sub 0x8001100001b094020000735f006a1800000000100000080000487e0050000000010084000000000001203805518441 G) (hS : Only G s0 s) :
    Only G s0 (flitSwitch rt out ecc wire s) := by
  unfold flitSwitch
  exact State.switchFlit_only (hG.of rfl) hS

theorem linkWireSpare_only {rt : Nat} {d : Nat} {wire : Nat} {s : State} (hG : Sub 0x20000001b014020000405f006a1000000000100000080000483e0050000000010084000000000001201805518441 G) (hS : Only G s0 s) :
    Only G s0 (linkWireSpare rt d wire s) := by
  unfold linkWireSpare
  extract_lets +onlyGivenNames -underBinder -merge used_1
  refine Only.ite ?_ ?_
  · exact hS
  · split
    · extract_lets +onlyGivenNames -underBinder -merge s_2
      have h3 : Only G s0 s_2 := by
        subst s_2
        exact Only.set_wear (hG.of rfl) hS
      try clear_value s_2
      extract_lets +onlyGivenNames -underBinder -merge s_4
      have h5 : Only G s0 s_4 := by
        subst s_4
        exact State.setBit_only (hG.of rfl) h3
      try clear_value s_4
      extract_lets +onlyGivenNames -underBinder -merge s_6
      have h7 : Only G s0 s_6 := by
        subst s_6
        refine State.cause_only (hG.of rfl) ?_
        exact State.count_only (hG.of rfl) h5
      try clear_value s_6
      extract_lets +onlyGivenNames -underBinder -merge __src_8
      exact Only.set_repairMap (hG.of rfl) h7
    · exact hS

theorem State.setFreeSlots_only {s : State} {e : Nat} {n : Nat} (hG : Sub 0x800000000 G) (hS : Only G s0 s) :
    Only G s0 (State.setFreeSlots s e n) := by
  unfold State.setFreeSlots
  refine Only.ite ?_ ?_
  · exact State.set_only (hG.of rfl) hS
  · exact hS

theorem State.issuePool_only {s : State} {e : Nat} (hG : Sub 0x800000000 G) (hS : Only G s0 s) :
    Only G s0 (State.issuePool s e) := by
  unfold State.issuePool
  exact State.setFreeSlots_only (hG.of rfl) hS

theorem State.learnBand_only {s : State} {e : Nat} {n : Nat} (hG : Sub 0x100000000000000000000000000000000000000000000000000000000000000000000000000 G) (hS : Only G s0 s) :
    Only G s0 (State.learnBand s e n) := by
  unfold State.learnBand
  refine Only.ite ?_ ?_
  · exact Only.set_bands (hG.of rfl) hS
  · exact hS

theorem State.grantShared_only {s : State} {e : Nat} {n : Nat} (hG : Sub 0x100400000000000000000000000000000000000000000000000000000000000000800000000 G) (hS : Only G s0 s) :
    Only G s0 (State.grantShared s e n) := by
  unfold State.grantShared
  extract_lets +onlyGivenNames -underBinder -merge k_1
  extract_lets +onlyGivenNames -underBinder -merge free_2
  extract_lets +onlyGivenNames -underBinder -merge l_3
  refine State.learnBand_only (hG.of rfl) ?_
  refine State.setFreeSlots_only (hG.of rfl) ?_
  exact State.setLedger_only (hG.of rfl) hS

theorem creditRequest_only {n : Nat} {e : Nat} {s : State} (hG : Sub 0x100c00000000000000000000008000000000000000000000000000000000000000800000000 G) (hS : Only G s0 s) :
    Only G s0 (creditRequest n e s) := by
  unfold creditRequest
  extract_lets +onlyGivenNames -underBinder -merge s_1
  have h2 : Only G s0 s_1 := by
    subst s_1
    exact Only.set_crQueue (hG.of rfl) hS
  try clear_value s_1
  refine Only.ite ?_ ?_
  · exact hS
  · refine Only.ite ?_ ?_
    · exact State.grantShared_only (hG.of rfl) hS
    · refine Only.ite ?_ ?_
      · exact State.tally_only (hG.of rfl) h2
      · exact h2

theorem creditGrant_only {e : Nat} {s : State} (hG : Sub 0x100c00000000000000000000000000000000000000000000000000000000000000800000000 G) (hS : Only G s0 s) :
    Only G s0 (creditGrant e s) := by
  unfold creditGrant
  split
  · refine Only.ite ?_ ?_
    · refine State.grantShared_only (hG.of rfl) ?_
      exact Only.set_crQueue (hG.of rfl) hS
    · exact hS
  · exact hS

theorem creditReturn_only {e : Nat} {n : Nat} {s : State} (hG : Sub 0x100400000000000000000000000000000000000000000000000000000000000000000000000 G) (hS : Only G s0 s) :
    Only G s0 (creditReturn e n s) := by
  unfold creditReturn
  extract_lets +onlyGivenNames -underBinder -merge k_1
  extract_lets +onlyGivenNames -underBinder -merge s_2
  have h3 : Only G s0 s_2 := by
    subst s_2
    exact State.restore_only (hG.of rfl) hS
  try clear_value s_2
  extract_lets +onlyGivenNames -underBinder -merge __src_4
  extract_lets +onlyGivenNames -underBinder -merge s_5
  have h6 : Only G s0 s_5 := by
    subst s_5
    exact State.setLedger_only (hG.of rfl) h3
  try clear_value s_5
  exact State.learnBand_only (hG.of rfl) h6

theorem sharedGrantRelease_only {n : Nat} {e : Nat} {s : State} (hG : Sub 0x400000000000000000000000000000000000000000000000000000000000000800000000 G) (hS : Only G s0 s) :
    Only G s0 (sharedGrantRelease n e s) := by
  unfold sharedGrantRelease
  extract_lets +onlyGivenNames -underBinder -merge l_1
  extract_lets +onlyGivenNames -underBinder -merge k_2
  extract_lets +onlyGivenNames -underBinder -merge free_3
  refine State.setFreeSlots_only (hG.of rfl) ?_
  exact State.setLedger_only (hG.of rfl) hS

theorem quenchTrigger_only {n : Nat} {code : Nat} {s : State} (hG : Sub 0x500000100000000010000008000000000010000000000000000000000000200800000000 G) (hS : Only G s0 s) :
    Only G s0 (quenchTrigger n code s) := by
  unfold quenchTrigger
  exact State.quench_only (hG.of rfl) hS

theorem quenchNoticeArrival_only {n : Nat} {target : Nat} {code : Nat} {s : State} (hG : Sub 0x100000000000000000000000000000000000000000000000000000000000000000000000 G) (hS : Only G s0 s) :
    Only G s0 (quenchNoticeArrival n target code s) := by
  unfold quenchNoticeArrival
  extract_lets +onlyGivenNames -underBinder -merge x_1
  exact State.setNi_only (hG.of rfl) hS

theorem quenchSet_only {r : Nat} {n : Nat} {s : State} (hG : Sub 0x2000000000000000000500000100000000010000008000000000010000000000000000000000000200800000008 G) (hS : Only G s0 s) :
    Only G s0 (quenchSet r n s) := by
  unfold quenchSet
  refine Only.ite ?_ ?_
  · exact State.quench_only (hG.of rfl) hS
  · exact State.refuseWrite_only (hG.of rfl) hS

theorem quenchClear_only {r : Nat} {n : Nat} {s : State} (hG : Sub 0x2000000000000000000100000100000000010000008000000000010000000000000000000000000200000000008 G) (hS : Only G s0 s) :
    Only G s0 (quenchClear r n s) := by
  unfold quenchClear
  refine Only.ite ?_ ?_
  · refine Only.ite ?_ ?_
    · exact hS
    · refine State.release_only (hG.of rfl) ?_
      exact State.dropTriggers_only (hG.of rfl) hS
  · exact State.refuseWrite_only (hG.of rfl) hS

theorem State.countSlag_only {s : State} {r : Nat} {k : PktKind} (hG : Sub 0xc00000000000 G) (hS : Only G s0 s) :
    Only G s0 (State.countSlag s r k) := by
  unfold State.countSlag
  split
  · exact State.count_only (hG.of rfl) hS
  · exact State.count_only (hG.of rfl) hS
  · exact State.count_only (hG.of rfl) hS
  · exact State.count_only (hG.of rfl) hS
  · exact State.count_only (hG.of rfl) hS
  · exact State.count_only (hG.of rfl) hS
  · exact State.count_only (hG.of rfl) hS
  · exact State.count_only (hG.of rfl) hS
  · exact State.count_only (hG.of rfl) hS
  · exact State.count_only (hG.of rfl) hS
  · exact State.count_only (hG.of rfl) hS
  · exact State.count_only (hG.of rfl) hS
  · exact State.count_only (hG.of rfl) hS
  · exact hS

theorem State.loopBack_only {s : State} {n : Nat} {q : Pkt} (hG : Sub 0x1100000008000000000100000180000000000000000000000000000000000000000000000000000000000000000 G) (hS : Only G s0 s) :
    Only G s0 (State.loopBack s n q) := by
  unfold State.loopBack
  extract_lets +onlyGivenNames -underBinder -merge y_1
  refine Only.ite ?_ ?_
  · exact State.setNi_only (hG.of rfl) hS
  · exact State.consume_only (hG.of rfl) hS

theorem slagAnswer_only {n : Nat} {s : State} (hG : Sub 0x1100000008000000000300000180000000000000008000000000000000000000000000000000000c00000000000 G) (hS : Only G s0 s) :
    Only G s0 (slagAnswer n s) := by
  unfold slagAnswer
  extract_lets +onlyGivenNames -underBinder -merge x_1
  split
  · exact hS
  · extract_lets +onlyGivenNames -underBinder -merge s_2
    have h3 : Only G s0 s_2 := by
      subst s_2
      refine State.fixed_only (hG.of rfl) ?_
      refine State.countSlag_only (hG.of rfl) ?_
      exact State.setNi_only (hG.of rfl) hS
    try clear_value s_2
    extract_lets +onlyGivenNames -underBinder -merge s_4
    have h5 : Only G s0 s_4 := by
      subst s_4
      refine State.when_only ?_ h3
      intro u6 hu7
      try beta_reduce
      exact State.answerOver_only (hG.of rfl) hu7
    try clear_value s_4
    extract_lets +onlyGivenNames -underBinder -merge s_8
    have h9 : Only G s0 s_8 := by
      subst s_8
      refine State.when_only ?_ h5
      intro u10 hu11
      try beta_reduce
      exact State.accessDone_only (hG.of rfl) hu11
    try clear_value s_8
    split
    · refine Only.ite ?_ ?_
      · exact State.loopBack_only (hG.of rfl) h9
      · exact State.enqueue_only (hG.of rfl) h9
    · exact h9

theorem unquench_only {n : Nat} {s : State} (hG : Sub 0x100000100000000010000008000000000010000000000000000000000000200000000000 G) (hS : Only G s0 s) :
    Only G s0 (unquench n s) := by
  unfold unquench
  exact State.release_only (hG.of rfl) hS

theorem unquenchNoticeArrival_only {n : Nat} {target : Nat} {s : State} (hG : Sub 0x100000000000000000000000000000000000000000000000000000000000000000000000 G) (hS : Only G s0 s) :
    Only G s0 (unquenchNoticeArrival n target s) := by
  unfold unquenchNoticeArrival
  extract_lets +onlyGivenNames -underBinder -merge x_1
  exact State.setNi_only (hG.of rfl) hS

theorem State.reCheck_only {s : State} {rt : Nat} {f : Flit} {ecc : Nat} {injected : Bool} (hG : Sub 0x1b014020000127f006a1000000000100000080000403e0050000000010084000000000001200805518441 G) (hS : Only G s0 s) :
    Only G s0 (State.reCheck s rt f ecc injected) := by
  unfold State.reCheck
  extract_lets +onlyGivenNames -underBinder -merge p_1
  extract_lets +onlyGivenNames -underBinder -merge ev_2
  split
  · exact hS
  · exact State.cause_only (hG.of rfl) hS
  · extract_lets +onlyGivenNames -underBinder -merge header_3
    extract_lets +onlyGivenNames -underBinder -merge s_4
    have h5 : Only G s0 s_4 := by
      subst s_4
      exact State.cause_only (hG.of rfl) hS
    try clear_value s_4
    refine Only.ite ?_ ?_
    · exact h5
    · refine Only.ite ?_ ?_
      · exact State.voidPkt_only (hG.of rfl) h5
      · refine Only.ite ?_ ?_
        · split
          · refine State.enqueue_only (hG.of rfl) ?_
            exact State.voidPkt_only (hG.of rfl) h5
          · exact State.voidPkt_only (hG.of rfl) h5
        · split
          · exact State.mapFlits_only (hG.of rfl) h5
          · exact h5
          · exact h5
          · exact State.voidPkt_only (hG.of rfl) h5

theorem crossingFlitArrival_only {rt : Nat} {i : Nat} {ecc : Nat} {injected : Bool} {s : State} (hG : Sub 0x8001100001b094020000137f006a1800000000100000080000403e0050000000010084000000000001202805518441 G) (hS : Only G s0 s) :
    Only G s0 (crossingFlitArrival rt i ecc injected s) := by
  unfold crossingFlitArrival
  split
  · exact hS
  · extract_lets +onlyGivenNames -underBinder -merge s_1
    have h2 : Only G s0 s_1 := by
      subst s_1
      refine Only.ite ?_ ?_
      · exact State.count_only (hG.of rfl) hS
      · exact hS
    try clear_value s_1
    extract_lets +onlyGivenNames -underBinder -merge s_3
    have h4 : Only G s0 s_3 := by
      subst s_3
      exact State.reCheck_only (hG.of rfl) h2
    try clear_value s_3
    split
    · exact h4
    · extract_lets +onlyGivenNames -underBinder -merge s_5
      have h6 : Only G s0 s_5 := by
        subst s_5
        exact State.setCrossing_only (hG.of rfl) h4
      try clear_value s_5
      extract_lets +onlyGivenNames -underBinder -merge x_7
      refine Only.ite ?_ ?_
      · refine Only.ite ?_ ?_
        · exact State.ejects_only (hG.of rfl) h6
        · exact h6
      · exact State.setRtr_only (hG.of rfl) h6

theorem State.setMirror_only {s : State} {m : Nat} {x : MirState} (hG : Sub 0x8000000000000000000000000000000000000000000000000000000000000000000000000 G) (hS : Only G s0 s) :
    Only G s0 (State.setMirror s m x) := by
  unfold State.setMirror
  exact Only.set_mir (hG.of rfl) hS

theorem mirrorCopy_only {m : Nat} {port : Nat} {egress : Bool} {poison : Bool} {flow : Nat} {msg : List Byte} {s : State} (hG : Sub 0x1b014020b001b5f006a1000000000100000080000403e0050000000010084001000000011202805518441 G) (hS : Only G s0 s) :
    Only G s0 (mirrorCopy m port egress poison flow msg s) := by
  unfold mirrorCopy
  extract_lets +onlyGivenNames -underBinder -merge x_1
  extract_lets +onlyGivenNames -underBinder -merge sample_2
  extract_lets +onlyGivenNames -underBinder -merge data_3
  extract_lets +onlyGivenNames -underBinder -merge e_4
  extract_lets +onlyGivenNames -underBinder -merge n_5
  extract_lets +onlyGivenNames -underBinder -merge seq_6
  extract_lets +onlyGivenNames -underBinder -merge s_7
  have h8 : Only G s0 s_7 := by
    subst s_7
    exact State.set_only (hG.of rfl) hS
  try clear_value s_7
  extract_lets +onlyGivenNames -underBinder -merge __src_9
  extract_lets +onlyGivenNames -underBinder -merge p_10
  extract_lets +onlyGivenNames -underBinder -merge r_11
  refine Only.ite ?_ ?_
  · exact hS
  · refine Only.ite ?_ ?_
    · exact State.setMirror_only (hG.of rfl) hS
    · refine Only.ite ?_ ?_
      · refine State.count_only (hG.of rfl) ?_
        exact State.setMirror_only (hG.of rfl) h8
      · refine State.inject_only (hG.of rfl) ?_
        exact State.setMirror_only (hG.of rfl) h8

theorem mirrorRecordWrite_only {m : Nat} {s : State} (hG : Sub 0x8500000100000000000000000000000000000000000000000000000000008000800000000 G) (hS : Only G s0 s) :
    Only G s0 (mirrorRecordWrite m s) := by
  unfold mirrorRecordWrite
  extract_lets +onlyGivenNames -underBinder -merge x_1
  extract_lets +onlyGivenNames -underBinder -merge e_2
  split
  · exact hS
  · extract_lets +onlyGivenNames -underBinder -merge s_3
    have h4 : Only G s0 s_3 := by
      subst s_3
      exact State.leaves_only (hG.of rfl) hS
    try clear_value s_3
    split
    · exact h4
    · extract_lets +onlyGivenNames -underBinder -merge bytes_5
      extract_lets +onlyGivenNames -underBinder -merge size_6
      extract_lets +onlyGivenNames -underBinder -merge off_7
      extract_lets +onlyGivenNames -underBinder -merge off_8
      extract_lets +onlyGivenNames -underBinder -merge s_9
      have h10 : Only G s0 s_9 := by
        subst s_9
        exact State.setMirror_only (hG.of rfl) h4
      try clear_value s_9
      extract_lets +onlyGivenNames -underBinder -merge s_11
      have h12 : Only G s0 s_11 := by
        subst s_11
        exact State.set_only (hG.of rfl) h10
      try clear_value s_11
      exact State.emit_only (hG.of rfl) h12

theorem mirrorEnWrite_only {m : Nat} {value : Word} {s : State} (hG : Sub 0xa000000000000 G) (hS : Only G s0 s) :
    Only G s0 (mirrorEnWrite m value s) := by
  unfold mirrorEnWrite
  extract_lets +onlyGivenNames -underBinder -merge was_1
  extract_lets +onlyGivenNames -underBinder -merge dst_2
  extract_lets +onlyGivenNames -underBinder -merge ok_3
  extract_lets +onlyGivenNames -underBinder -merge on_4
  extract_lets +onlyGivenNames -underBinder -merge s_5
  have h6 : Only G s0 s_5 := by
    subst s_5
    refine State.each_only ?_ hS
    intro y7 u8 hu9
    try beta_reduce
    refine Only.fold_fld (M := 0x2000000000000) (by decide +kernel) (hG.of rfl) ?_ hu9
    intro u10 y12 hy13 hu11
    try beta_reduce
    exact State.set_only hy13 hu11
  try clear_value s_5
  extract_lets +onlyGivenNames -underBinder -merge s_14
  have h15 : Only G s0 s_14 := by
    subst s_14
    exact State.set_only (hG.of rfl) h6
  try clear_value s_14
  refine Only.ite ?_ ?_
  · exact State.set_only (hG.of rfl) h15
  · exact h15

theorem State.setProbe_only {s : State} {n : Nat} {x : PrbState} (hG : Sub 0x4000000000000000000000000000000000000000000000000000000000000000000000000 G) (hS : Only G s0 s) :
    Only G s0 (State.setProbe s n x) := by
  unfold State.setProbe
  exact Only.set_prb (hG.of rfl) hS

theorem probeMatch_only {rt : Nat} {input : Nat} {p : Pkt} {s : State} (hG : Sub 0x8000000000000000000016000000000000000010000008000000000010000000000000000000000000000000000000 G) (hS : Only G s0 s) :
    Only G s0 (probeMatch rt input p s) := by
  unfold probeMatch
  extract_lets +onlyGivenNames -underBinder -merge mask_1
  extract_lets +onlyGivenNames -underBinder -merge hit_2
  extract_lets +onlyGivenNames -underBinder -merge x_3
  extract_lets +onlyGivenNames -underBinder -merge y_4
  extract_lets +onlyGivenNames -underBinder -merge s_5
  have h6 : Only G s0 s_5 := by
    subst s_5
    exact State.setProbe_only (hG.of rfl) hS
  try clear_value s_5
  extract_lets +onlyGivenNames -underBinder -merge s_7
  have h8 : Only G s0 s_7 := by
    subst s_7
    refine Only.ite ?_ ?_
    · refine State.noteTrace_only (hG.of rfl) ?_
      exact State.mapFlits_only (hG.of rfl) h6
    · exact h6
  try clear_value s_7
  refine Only.ite ?_ ?_
  · exact hS
  · refine Only.ite ?_ ?_
    · refine State.notice_only (hG.of rfl) ?_
      exact State.setProbe_only (hG.of rfl) h8
    · exact h8

theorem probeSnap_only {rt : Nat} {s : State} (hG : Sub 0x60000000000 G) (hS : Only G s0 s) :
    Only G s0 (probeSnap rt s) := by
  unfold probeSnap
  extract_lets +onlyGivenNames -underBinder -merge x_1
  extract_lets +onlyGivenNames -underBinder -merge s_2
  have h3 : Only G s0 s_2 := by
    subst s_2
    refine State.resultDone_only (hG.of rfl) (hG.of rfl) ?_
    exact State.set_only (hG.of rfl) hS
  try clear_value s_2
  refine State.resultDone_only (hG.of rfl) (hG.of rfl) ?_
  exact State.set_only (hG.of rfl) h3

end Sys2Proof.Machine
end

