-- ==== Sys2Proof/Laws/FrameSessions.lean ====
section
/-! SUPPORT. The frame of each function of Machine/Sessions.lean: the parts of the state that it may change, as a set of bits (StatePart.place), with the canonical form kept. -/

namespace Sys2Proof.Machine

variable {G : Nat} {s0 : State}

theorem State.notOwner_only {s : State} {n : Nat} {type : Nat} {tag : Nat} (hG : Sub 0x100000000000000000000000100000000000000000000000000001000000000000000000000000000000000000 G) (hS : Only G s0 s) :
    Only G s0 (State.notOwner s n type tag) := by
  unfold State.notOwner
  refine State.reply_only (hG.of rfl) ?_
  exact State.count_only (hG.of rfl) hS

theorem State.message_only {s : State} {n : Nat} {type : Nat} {tag : Nat} {ownerOnly : Bool} {f : State → State} (hG : Sub 0x100000000000000000000000100000000000000008000000000001000000000000000000000000000000000000 G) (hf : (∀ x0, Only G s0 x0 → Only G s0 (f x0))) (hS : Only G s0 s) :
    Only G s0 (State.message s n type tag ownerOnly f) := by
  unfold State.message
  extract_lets +onlyGivenNames -underBinder -merge s_1
  have h2 : Only G s0 s_1 := by
    subst s_1
    exact State.tallyChip_only (hG.of rfl) hS
  try clear_value s_1
  refine Only.ite ?_ ?_
  · exact h2
  · refine Only.ite ?_ ?_
    · exact State.emit_only (hG.of rfl) h2
    · split
      · refine Only.ite ?_ ?_
        · exact State.emit_only (hG.of rfl) h2
        · refine Only.ite ?_ ?_
          · exact State.notOwner_only (hG.of rfl) h2
          · exact hf _ h2
      · refine Only.ite ?_ ?_
        · exact State.notOwner_only (hG.of rfl) h2
        · exact hf _ h2

theorem State.noOwner_only {s : State} (hG : Sub 0x7000000000000000000000000000000000000 G) (hS : Only G s0 s) :
    Only G s0 (State.noOwner s) := by
  unfold State.noOwner
  extract_lets +onlyGivenNames -underBinder -merge s_1
  have h2 : Only G s0 s_1 := by
    subst s_1
    exact State.set_only (hG.of rfl) hS
  try clear_value s_1
  extract_lets +onlyGivenNames -underBinder -merge s_3
  have h4 : Only G s0 s_3 := by
    subst s_3
    exact State.set_only (hG.of rfl) h2
  try clear_value s_3
  extract_lets +onlyGivenNames -underBinder -merge s_5
  have h6 : Only G s0 s_5 := by
    subst s_5
    exact State.set_only (hG.of rfl) h4
  try clear_value s_5
  extract_lets +onlyGivenNames -underBinder -merge s_7
  have h8 : Only G s0 s_7 := by
    subst s_7
    exact State.set_only (hG.of rfl) h6
  try clear_value s_7
  exact State.set_only (hG.of rfl) h8

theorem State.lease_only {s : State} (hG : Sub 0x400000000000000000000000000000000000000000000000000002000000000000000000000000000000000000 G) (hS : Only G s0 s) :
    Only G s0 (State.lease s) := by
  unfold State.lease
  extract_lets +onlyGivenNames -underBinder -merge __src_1
  have h2 : Only G s0 __src_1 := by
    subst __src_1
    exact State.set_only (hG.of rfl) hS
  try clear_value __src_1
  exact Only.set_leaseAt (hG.of rfl) h2

theorem State.becomeOwner_only {s : State} {n : Nat} (hG : Sub 0xc00000000000000000000000000000000000000000000000000003000000000000000000000000000000000000 G) (hS : Only G s0 s) :
    Only G s0 (State.becomeOwner s n) := by
  unfold State.becomeOwner
  extract_lets +onlyGivenNames -underBinder -merge s_1
  have h2 : Only G s0 s_1 := by
    subst s_1
    exact State.set_only (hG.of rfl) hS
  try clear_value s_1
  extract_lets +onlyGivenNames -underBinder -merge s_3
  have h4 : Only G s0 s_3 := by
    subst s_3
    exact State.set_only (hG.of rfl) h2
  try clear_value s_3
  extract_lets +onlyGivenNames -underBinder -merge s_5
  have h6 : Only G s0 s_5 := by
    subst s_5
    exact State.set_only (hG.of rfl) h4
  try clear_value s_5
  extract_lets +onlyGivenNames -underBinder -merge s_7
  have h8 : Only G s0 s_7 := by
    subst s_7
    exact State.set_only (hG.of rfl) h6
  try clear_value s_7
  extract_lets +onlyGivenNames -underBinder -merge __src_9
  have h10 : Only G s0 __src_9 := by
    subst __src_9
    exact State.lease_only (hG.of rfl) h8
  try clear_value __src_9
  exact Only.set_evtSent (hG.of rfl) h10

theorem State.closeSes_only {s : State} {n : Nat} (hG : Sub 0x1300000000000000000000000000000000000000000000000000007000000000000000000000000000000000000 G) (hS : Only G s0 s) :
    Only G s0 (State.closeSes s n) := by
  unfold State.closeSes
  extract_lets +onlyGivenNames -underBinder -merge s_1
  have h2 : Only G s0 s_1 := by
    subst s_1
    refine Only.ite ?_ ?_
    · exact State.noOwner_only (hG.of rfl) hS
    · exact hS
  try clear_value s_1
  extract_lets +onlyGivenNames -underBinder -merge s_3
  have h4 : Only G s0 s_3 := by
    subst s_3
    exact State.set_only (hG.of rfl) h2
  try clear_value s_3
  extract_lets +onlyGivenNames -underBinder -merge s_5
  have h6 : Only G s0 s_5 := by
    subst s_5
    exact State.set_only (hG.of rfl) h4
  try clear_value s_5
  extract_lets +onlyGivenNames -underBinder -merge __src_7
  have h8 : Only G s0 __src_7 := by
    subst __src_7
    exact State.setSes_only (hG.of rfl) h6
  try clear_value __src_7
  exact Only.set_claims_memRuns (hG.of rfl) h8

theorem openSession_only {path : Nat} {place : Nat} {peer : Nat} {tag : Nat} {s : State} (hG : Sub 0x100000000000000000000000100000000000000000000000000001000000000000000000000000000000000000 G) (hS : Only G s0 s) :
    Only G s0 (openSession path place peer tag s) := by
  unfold openSession
  extract_lets +onlyGivenNames -underBinder -merge mine_1
  refine Only.ite ?_ ?_
  · exact hS
  · split
    · exact State.reply_only (hG.of rfl) hS
    · split
      · exact State.emit_only (hG.of rfl) hS
      · extract_lets +onlyGivenNames -underBinder -merge s_2
        have h3 : Only G s0 s_2 := by
          subst s_2
          exact State.set_only (hG.of rfl) hS
        try clear_value s_2
        extract_lets +onlyGivenNames -underBinder -merge s_4
        have h5 : Only G s0 s_4 := by
          subst s_4
          exact State.set_only (hG.of rfl) h3
        try clear_value s_4
        extract_lets +onlyGivenNames -underBinder -merge s_6
        have h7 : Only G s0 s_6 := by
          subst s_6
          exact State.set_only (hG.of rfl) h5
        try clear_value s_6
        extract_lets +onlyGivenNames -underBinder -merge __src_8
        refine State.reply_only (hG.of rfl) ?_
        exact State.setSes_only (hG.of rfl) h7

theorem closeSession_only {ses : Nat} {tag : Nat} {s : State} (hG : Sub 0x1300000000000000000000000100000000000000008000000000007000000000000000000000000000000000000 G) (hS : Only G s0 s) :
    Only G s0 (closeSession ses tag s) := by
  unfold closeSession
  refine State.message_only (hG.of rfl) ?_ hS
  intro u1 hu2
  try beta_reduce
  refine State.closeSes_only (hG.of rfl) ?_
  exact State.reply_only (hG.of rfl) hu2

theorem sessionIdleTimeout_only {ses : Nat} {s : State} (hG : Sub 0x1300000000000000000000000000000000000000000000000000007000000000000000000000000000000000000 G) (hS : Only G s0 s) :
    Only G s0 (sessionIdleTimeout ses s) := by
  unfold sessionIdleTimeout
  refine Only.ite ?_ ?_
  · exact State.closeSes_only (hG.of rfl) hS
  · exact hS

theorem sessionPathLoss_only {ses : Nat} {s : State} (hG : Sub 0x1300000000000000000000000000000000000000000000000000007000000000000000000000000000000000000 G) (hS : Only G s0 s) :
    Only G s0 (sessionPathLoss ses s) := by
  unfold sessionPathLoss
  refine Only.ite ?_ ?_
  · exact State.closeSes_only (hG.of rfl) hS
  · exact hS

theorem claim_only {ses : Nat} {tag : Nat} {prio : Nat} {s : State} (hG : Sub 0x300000000000000000000000180000000000000008000000000003000000000000000000000000000000000000 G) (hS : Only G s0 s) :
    Only G s0 (claim ses tag prio s) := by
  unfold claim
  refine State.message_only (hG.of rfl) ?_ hS
  intro u1 hu2
  try beta_reduce
  extract_lets +onlyGivenNames -underBinder -merge value_3
  extract_lets +onlyGivenNames -underBinder -merge old_4
  extract_lets +onlyGivenNames -underBinder -merge __src_5
  have h6 : Only G s0 __src_5 := by
    subst __src_5
    refine State.fresh_only (hG.of rfl) ?_
    exact State.set_only (hG.of rfl) hu2
  try clear_value __src_5
  refine Only.ite ?_ ?_
  · exact State.reply_only (hG.of rfl) hu2
  · refine Only.ite ?_ ?_
    · exact State.reply_only (hG.of rfl) hu2
    · refine Only.ite ?_ ?_
      · exact State.reply_only (hG.of rfl) hu2
      · exact Only.set_claims (hG.of rfl) h6

theorem electionWindowClose_only {s : State} (hG : Sub 0xf00000000000000000000000100000000000000000000000000007000000000000000000000000000000000000 G) (hS : Only G s0 s) :
    Only G s0 (electionWindowClose s) := by
  unfold electionWindowClose
  extract_lets +onlyGivenNames -underBinder -merge l_1
  extract_lets +onlyGivenNames -underBinder -merge __src_2
  have h3 : Only G s0 __src_2 := by
    subst __src_2
    exact State.set_only (hG.of rfl) hS
  try clear_value __src_2
  extract_lets +onlyGivenNames -underBinder -merge s_4
  have h5 : Only G s0 s_4 := by
    subst s_4
    exact Only.set_claims (hG.of rfl) h3
  try clear_value s_4
  refine Only.ite ?_ ?_
  · exact hS
  · split
    · exact h5
    · extract_lets +onlyGivenNames -underBinder -merge s_6
      have h7 : Only G s0 s_6 := by
        subst s_6
        refine State.count_only (hG.of rfl) ?_
        exact State.becomeOwner_only (hG.of rfl) h5
      try clear_value s_6
      extract_lets +onlyGivenNames -underBinder -merge s_8
      have h9 : Only G s0 s_8 := by
        subst s_8
        exact State.set_only (hG.of rfl) h7
      try clear_value s_8
      extract_lets +onlyGivenNames -underBinder -merge s_10
      have h11 : Only G s0 s_10 := by
        subst s_10
        exact State.set_only (hG.of rfl) h9
      try clear_value s_10
      refine Only.fold ?_ h11
      intro u12 y14 hu13
      try beta_reduce
      exact State.reply_only (hG.of rfl) hu13

theorem renew_only {ses : Nat} {tag : Nat} {s : State} (hG : Sub 0x500000000000000000000000100000000000000008000000000003000000000000000000000000000000000000 G) (hS : Only G s0 s) :
    Only G s0 (renew ses tag s) := by
  unfold renew
  refine State.message_only (hG.of rfl) ?_ hS
  intro u1 hu2
  try beta_reduce
  refine State.reply_only (hG.of rfl) ?_
  exact State.lease_only (hG.of rfl) hu2

theorem ownerLeaseLapse_only {s : State} (hG : Sub 0x7000000000000000000000000000000000000 G) (hS : Only G s0 s) :
    Only G s0 (ownerLeaseLapse s) := by
  unfold ownerLeaseLapse
  refine Only.ite ?_ ?_
  · exact State.noOwner_only (hG.of rfl) hS
  · exact hS

theorem ownHandover_only {ses : Nat} {tag : Nat} {successor : Nat} {s : State} (hG : Sub 0xd00000000000000000000000100000000000000008000000000003000000000000000000000000000000000000 G) (hS : Only G s0 s) :
    Only G s0 (ownHandover ses tag successor s) := by
  unfold ownHandover
  refine State.message_only (hG.of rfl) ?_ hS
  intro u1 hu2
  try beta_reduce
  extract_lets +onlyGivenNames -underBinder -merge k_3
  extract_lets +onlyGivenNames -underBinder -merge s_4
  have h5 : Only G s0 s_4 := by
    subst s_4
    refine State.reply_only (hG.of rfl) ?_
    exact State.becomeOwner_only (hG.of rfl) hu2
  try clear_value s_4
  refine Only.ite ?_ ?_
  · exact State.emit_only (hG.of rfl) h5
  · exact State.reply_only (hG.of rfl) hu2

theorem releaseOwnership_only {ses : Nat} {tag : Nat} {s : State} (hG : Sub 0x100000000000000000000000100000000000000008000000000007000000000000000000000000000000000000 G) (hS : Only G s0 s) :
    Only G s0 (releaseOwnership ses tag s) := by
  unfold releaseOwnership
  refine State.message_only (hG.of rfl) ?_ hS
  intro u1 hu2
  try beta_reduce
  refine State.reply_only (hG.of rfl) ?_
  exact State.noOwner_only (hG.of rfl) hu2

theorem eventQueue_only {ev : Nat} {cls : Nat} {detail : Nat} {s : State} (hG : Sub 0x10000008000000000010000000000000000000000000000000000000 G) (hS : Only G s0 s) :
    Only G s0 (eventQueue ev cls detail s) := by
  unfold eventQueue
  exact State.queueEvent_only (hG.of rfl) hS

theorem eventSend_only {s : State} (hG : Sub 0x800000000000000000000000100000000000000000000000000000000000000000000000000000000000000000 G) (hS : Only G s0 s) :
    Only G s0 (eventSend s) := by
  unfold eventSend
  extract_lets +onlyGivenNames -underBinder -merge k_1
  extract_lets +onlyGivenNames -underBinder -merge payload_2
  extract_lets +onlyGivenNames -underBinder -merge __src_3
  have h4 : Only G s0 __src_3 := by
    subst __src_3
    exact State.emit_only (hG.of rfl) hS
  try clear_value __src_3
  refine Only.ite ?_ ?_
  · exact Only.set_evtSent (hG.of rfl) h4
  · exact hS

theorem State.ackThrough_only {s : State} {seq : Nat} (hG : Sub 0x800000000000000000000000000000000000000000000000000010000000000000000000000000000000000000 G) (hS : Only G s0 s) :
    Only G s0 (State.ackThrough s seq) := by
  unfold State.ackThrough
  extract_lets +onlyGivenNames -underBinder -merge pos_1
  extract_lets +onlyGivenNames -underBinder -merge n_2
  extract_lets +onlyGivenNames -underBinder -merge __src_3
  have h4 : Only G s0 __src_3 := by
    subst __src_3
    exact State.set_only (hG.of rfl) hS
  try clear_value __src_3
  refine Only.ite ?_ ?_
  · exact Only.set_evtSent (hG.of rfl) h4
  · exact hS

theorem eventAck_only {ses : Nat} {tag : Nat} {seq : Nat} {s : State} (hG : Sub 0x900000000000000000000000100000000000000008000000000011000000000000000000000000000000000000 G) (hS : Only G s0 s) :
    Only G s0 (eventAck ses tag seq s) := by
  unfold eventAck
  refine State.message_only (hG.of rfl) ?_ hS
  intro u1 hu2
  try beta_reduce
  refine State.reply_only (hG.of rfl) ?_
  exact State.ackThrough_only (hG.of rfl) hu2

theorem evtAckWrite_only {value : Word} {s : State} (hG : Sub 0x800000000000000000000000000000000000000000000000000010000000000000000000000000000000000000 G) (hS : Only G s0 s) :
    Only G s0 (evtAckWrite value s) := by
  unfold evtAckWrite
  exact State.ackThrough_only (hG.of rfl) hS

theorem eventResendTimeout_only {s : State} (hG : Sub 0x800000000000000000000000100000000000000000000000000000000000000000000000000000000000000000 G) (hS : Only G s0 s) :
    Only G s0 (eventResendTimeout s) := by
  unfold eventResendTimeout
  refine eventSend_only (hG.of rfl) ?_
  exact Only.set_evtSent (hG.of rfl) hS

theorem unknownTypeMessage_only {ses : Nat} {tag : Nat} {ver : Nat} {type : Nat} {length : Nat} {bytes : Nat} {s : State} (hG : Sub 0x100000000000000000000000100000000000000008000000000001000000000000000000000000000000000000 G) (hS : Only G s0 s) :
    Only G s0 (unknownTypeMessage ses tag ver type length bytes s) := by
  unfold unknownTypeMessage
  refine State.message_only (hG.of rfl) ?_ hS
  intro u1 hu2
  try beta_reduce
  refine Only.ite ?_ ?_
  · exact State.reply_only (hG.of rfl) hu2
  · refine Only.ite ?_ ?_
    · exact State.reply_only (hG.of rfl) hu2
    · refine Only.ite ?_ ?_
      · exact hu2
      · exact State.reply_only (hG.of rfl) hu2

theorem udpDuplicateRequest_only {ses : Nat} {tag : Nat} {s : State} (hG : Sub 0x100000000000000000000000000000000000000000000000000000000000000000 G) (hS : Only G s0 s) :
    Only G s0 (udpDuplicateRequest ses tag s) := by
  unfold udpDuplicateRequest
  split
  · refine Only.ite ?_ ?_
    · exact State.emit_only (hG.of rfl) hS
    · exact hS
  · exact hS

end Sys2Proof.Machine
end

