-- ==== Sys2Proof/Laws/FrameRemap.lean ====
section
/-! SUPPORT. The frame of each function of Machine/Remap.lean: the parts of the state that it may change, as a set of bits (StatePart.place), with the canonical form kept. -/

namespace Sys2Proof.Machine

variable {G : Nat} {s0 : State}

theorem State.setL2_only {s : State} {e : Nat} {w : Word} (hG : Sub 0x200000000000200000000000000000000000000000000000000000000000000000000000000000 G) (hS : Only G s0 s) :
    Only G s0 (State.setL2 s e w) := by
  unfold State.setL2
  extract_lets +onlyGivenNames -underBinder -merge s_1
  have h2 : Only G s0 s_1 := by
    subst s_1
    exact State.setHbm64_only (hG.of rfl) hS
  try clear_value s_1
  refine State.each_only ?_ h2
  intro y3 u4 hu5
  try beta_reduce
  extract_lets +onlyGivenNames -underBinder -merge c_6
  exact Only.set_l2Cache (hG.of rfl) hu5

theorem State.l2Touch_only {s : State} {r : Nat} {e : Nat} (hG : Sub 0x200000000000000000000000000008000000000000000000000000000000000000000000000000 G) (hS : Only G s0 s) :
    Only G s0 (State.l2Touch s r e) := by
  unfold State.l2Touch
  extract_lets +onlyGivenNames -underBinder -merge c_1
  extract_lets +onlyGivenNames -underBinder -merge hit_2
  extract_lets +onlyGivenNames -underBinder -merge s_3
  have h4 : Only G s0 s_3 := by
    subst s_3
    refine Only.ite ?_ ?_
    · exact State.tally_only (hG.of rfl) hS
    · refine State.hbmCount_only (hG.of rfl) ?_
      exact State.tally_only (hG.of rfl) hS
  try clear_value s_3
  extract_lets +onlyGivenNames -underBinder -merge c_5
  exact Only.set_l2Cache (hG.of rfl) h4

theorem State.countFract_only {s : State} {taken : Bool} (hG : Sub 0x20000000000000000000000 G) (hS : Only G s0 s) :
    Only G s0 (State.countFract s taken) := by
  unfold State.countFract
  extract_lets +onlyGivenNames -underBinder -merge f_1
  extract_lets +onlyGivenNames -underBinder -merge c_2
  refine Only.ite ?_ ?_
  · refine State.set_only (hG.of rfl) ?_
    exact State.set_only (hG.of rfl) hS
  · refine State.set_only (hG.of rfl) ?_
    exact State.set_only (hG.of rfl) hS

theorem State.freeExtent_only {s : State} {i : Nat} {f : State → State} (hG : Sub 0xb000000000000000000000000000000000000000000000000000002004c000000000200000000 G) (hf : (∀ x0, Only G s0 x0 → Only G s0 (f x0))) (hS : Only G s0 s) :
    Only G s0 (State.freeExtent s i f) := by
  unfold State.freeExtent
  extract_lets +onlyGivenNames -underBinder -merge fract_1
  extract_lets +onlyGivenNames -underBinder -merge s_2
  have h3 : Only G s0 s_2 := by
    subst s_2
    refine State.writeEntry_only (hG.of rfl) ?_ hS
    intro u4 hu5
    try beta_reduce
    refine State.set_only (hG.of rfl) ?_
    refine State.set_only (hG.of rfl) ?_
    exact hf _ hu5
  try clear_value s_2
  refine Only.ite ?_ ?_
  · exact State.countFract_only (hG.of rfl) h3
  · exact h3

theorem State.migMark_only {s : State} {pt : Nat} {slot : Nat} {poa : Nat} {len : Nat} (hG : Sub 0x2000000000000000000000000000000000000000000000000000000000000000000000000000000000 G) (hS : Only G s0 s) :
    Only G s0 (State.migMark s pt slot poa len) := by
  unfold State.migMark
  extract_lets +onlyGivenNames -underBinder -merge k_1
  extract_lets +onlyGivenNames -underBinder -merge m_2
  exact Only.set_migMaps (hG.of rfl) hS

theorem State.migHold_only {s : State} {pt : Nat} {slot : Nat} {p : Part} (hG : Sub 0x4000000000000000000000000000000000000000000000000000000000000000000000000000000000 G) (hS : Only G s0 s) :
    Only G s0 (State.migHold s pt slot p) := by
  unfold State.migHold
  extract_lets +onlyGivenNames -underBinder -merge k_1
  exact Only.set_migHeld (hG.of rfl) hS

theorem State.fractureExtent_only {s : State} {i : Nat} (hG : Sub 0x2b000000000020000000000000000000000000000000000000000002004c000000000200000000 G) (hS : Only G s0 s) :
    Only G s0 (State.fractureExtent s i) := by
  unfold State.fractureExtent
  split
  · exact hS
  · extract_lets +onlyGivenNames -underBinder -merge t_1
    extract_lets +onlyGivenNames -underBinder -merge ld_2
    extract_lets +onlyGivenNames -underBinder -merge d_3
    extract_lets +onlyGivenNames -underBinder -merge s_4
    have h5 : Only G s0 s_4 := by
      subst s_4
      refine State.each_only ?_ hS
      intro y6 u7 hu8
      try beta_reduce
      exact State.setL2_only (hG.of rfl) hu8
    try clear_value s_4
    extract_lets +onlyGivenNames -underBinder -merge s_9
    have h10 : Only G s0 s_9 := by
      subst s_9
      refine State.writeEntry_only (hG.of rfl) ?_ h5
      intro u11 hu12
      try beta_reduce
      refine State.set_only (hG.of rfl) ?_
      exact State.set_only (hG.of rfl) hu12
    try clear_value s_9
    exact State.countFract_only (hG.of rfl) h10

theorem State.unfractureExtent_only {s : State} {i : Nat} (hG : Sub 0xb000000000000000000000000000000000000000000000000000002004c000000000200000000 G) (hS : Only G s0 s) :
    Only G s0 (State.unfractureExtent s i) := by
  unfold State.unfractureExtent
  extract_lets +onlyGivenNames -underBinder -merge w_1
  extract_lets +onlyGivenNames -underBinder -merge s_2
  have h3 : Only G s0 s_2 := by
    subst s_2
    refine State.writeEntry_only (hG.of rfl) ?_ hS
    intro u4 hu5
    try beta_reduce
    extract_lets +onlyGivenNames -underBinder -merge u_6
    have h7 : Only G s0 u_6 := by
      subst u_6
      exact State.set_only (hG.of rfl) hu5
    try clear_value u_6
    extract_lets +onlyGivenNames -underBinder -merge u_8
    have h9 : Only G s0 u_8 := by
      subst u_8
      exact State.set_only (hG.of rfl) h7
    try clear_value u_8
    extract_lets +onlyGivenNames -underBinder -merge u_10
    have h11 : Only G s0 u_10 := by
      subst u_10
      exact State.set_only (hG.of rfl) h9
    try clear_value u_10
    refine State.set_only (hG.of rfl) ?_
    exact State.set_only (hG.of rfl) h11
  try clear_value s_2
  exact State.countFract_only (hG.of rfl) h3

theorem State.remapCommand_only {s : State} {f : State → State × RmpRun} (hG : Sub 0x2000000000000400000000000000000000010000008000000000010000000000000008000000000000000000008 G) (hf : (∀ x0, Only G s0 x0 → Only G s0 (f x0).1)) (hS : Only G s0 s) :
    Only G s0 (State.remapCommand s f) := by
  unfold State.remapCommand
  refine Only.ite ?_ ?_
  · exact State.refuseWrite_only (hG.of rfl) hS
  · split
    · rename_i z2 z4 e1
      have h3 : Only G s0 z2 := by
        have e0 := congrArg Prod.fst e1
        change _ = z2 at e0
        rw [← e0]
        refine hf _ ?_
        exact State.resultStart_only (hG.of rfl) hS
      exact Only.set_rmpRun (hG.of rfl) h3

theorem acuErrPendClear_only {r : Nat} {s : State} (hG : Sub 0x400000000000000000000 G) (hS : Only G s0 s) :
    Only G s0 (acuErrPendClear r s) := by
  unfold acuErrPendClear
  exact State.set_only (hG.of rfl) hS

theorem l2CacheFill_only {r : Nat} {entry : Nat} {s : State} (hG : Sub 0x200000000000000000000000000008000000000000000000000000000000000000000000000000 G) (hS : Only G s0 s) :
    Only G s0 (l2CacheFill r entry s) := by
  unfold l2CacheFill
  exact State.l2Touch_only (hG.of rfl) hS

theorem acuWindowWrite_only {win : Nat} {wordNo : Nat} {value : Word} {s : State} (hG : Sub 0x20000000000000b0000000000000000000010000008000000000010000000000000000078000000000200000008 G) (hS : Only G s0 s) :
    Only G s0 (acuWindowWrite win wordNo value s) := by
  unfold acuWindowWrite
  extract_lets +onlyGivenNames -underBinder -merge w_1
  extract_lets +onlyGivenNames -underBinder -merge size_2
  extract_lets +onlyGivenNames -underBinder -merge pool_3
  extract_lets +onlyGivenNames -underBinder -merge base_4
  refine Only.ite ?_ ?_
  · exact hS
  · refine Only.ite ?_ ?_
    · exact State.notice_only (hG.of rfl) hS
    · refine Only.ite ?_ ?_
      · refine Only.ite ?_ ?_
        · exact State.refuseWrite_only (hG.of rfl) hS
        · refine State.writeEntry_only (hG.of rfl) ?_ hS
          intro u5 hu6
          try beta_reduce
          extract_lets +onlyGivenNames -underBinder -merge t_7
          have h8 : Only G s0 t_7 := by
            subst t_7
            exact State.set_only (hG.of rfl) hu6
          try clear_value t_7
          extract_lets +onlyGivenNames -underBinder -merge t_9
          have h10 : Only G s0 t_9 := by
            subst t_9
            exact State.set_only (hG.of rfl) h8
          try clear_value t_9
          exact State.set_only (hG.of rfl) h10
      · refine Only.ite ?_ ?_
        · exact State.refuseWrite_only (hG.of rfl) hS
        · refine State.writeEntry_only (hG.of rfl) ?_ hS
          intro u11 hu12
          try beta_reduce
          exact State.setReg_only (hG.of rfl) hu12

theorem l1EntryWrite_only {i : Nat} {wordNo : Nat} {value : Word} {s : State} (hG : Sub 0x20000000000000b000000000000000000001000000800000000001000000000000000004c000000000200000008 G) (hS : Only G s0 s) :
    Only G s0 (l1EntryWrite i wordNo value s) := by
  unfold l1EntryWrite
  extract_lets +onlyGivenNames -underBinder -merge i_1
  refine Only.ite ?_ ?_
  · exact hS
  · refine Only.ite ?_ ?_
    · exact State.refuseWrite_only (hG.of rfl) hS
    · refine State.writeEntry_only (hG.of rfl) ?_ hS
      intro u2 hu3
      try beta_reduce
      extract_lets +onlyGivenNames -underBinder -merge t_4
      have h5 : Only G s0 t_4 := by
        subst t_4
        exact State.set_only (hG.of rfl) hu3
      try clear_value t_4
      extract_lets +onlyGivenNames -underBinder -merge t_6
      have h7 : Only G s0 t_6 := by
        subst t_6
        exact State.set_only (hG.of rfl) h5
      try clear_value t_6
      extract_lets +onlyGivenNames -underBinder -merge t_8
      have h9 : Only G s0 t_8 := by
        subst t_8
        exact State.set_only (hG.of rfl) h7
      try clear_value t_8
      extract_lets +onlyGivenNames -underBinder -merge t_10
      have h11 : Only G s0 t_10 := by
        subst t_10
        exact State.set_only (hG.of rfl) h9
      try clear_value t_10
      exact State.set_only (hG.of rfl) h11

theorem fracture_only {idx : Nat} {s : State} (hG : Sub 0x20000000000006b000000000020000000001000000800000000001000000000000002804c000000000200000008 G) (hS : Only G s0 s) :
    Only G s0 (fracture idx s) := by
  unfold fracture
  extract_lets +onlyGivenNames -underBinder -merge i_1
  refine State.remapCommand_only (hG.of rfl) ?_ hS
  intro u2 hu3
  try beta_reduce
  extract_lets +onlyGivenNames -underBinder -merge st_4
  extract_lets +onlyGivenNames -underBinder -merge p_5
  change Only G s0 _
  refine Only.ite ?_ ?_
  · exact State.fractureExtent_only (hG.of rfl) hu3
  · exact hu3

theorem unfracture_only {idx : Nat} {s : State} (hG : Sub 0x20000000000004b000000000000000000001000000800000000001000000000000002804c000000000200000008 G) (hS : Only G s0 s) :
    Only G s0 (unfracture idx s) := by
  unfold unfracture
  extract_lets +onlyGivenNames -underBinder -merge i_1
  refine State.remapCommand_only (hG.of rfl) ?_ hS
  intro u2 hu3
  try beta_reduce
  extract_lets +onlyGivenNames -underBinder -merge st_4
  change Only G s0 _
  refine Only.ite ?_ ?_
  · exact State.unfractureExtent_only (hG.of rfl) hu3
  · exact hu3

theorem writeL2_only {idx : Nat} {gran : Nat} {s : State} (hG : Sub 0x2000000000000600000000000200000000010000008000000000010000000000000008000000000000000000008 G) (hS : Only G s0 s) :
    Only G s0 (writeL2 idx gran s) := by
  unfold writeL2
  extract_lets +onlyGivenNames -underBinder -merge i_1
  refine State.remapCommand_only (hG.of rfl) ?_ hS
  intro u2 hu3
  try beta_reduce
  extract_lets +onlyGivenNames -underBinder -merge w_4
  extract_lets +onlyGivenNames -underBinder -merge st_5
  extract_lets +onlyGivenNames -underBinder -merge p_6
  change Only G s0 _
  refine Only.ite ?_ ?_
  · exact State.setL2_only (hG.of rfl) hu3
  · exact hu3

theorem readL2_only {idx : Nat} {gran : Nat} {s : State} (hG : Sub 0x2000000000000400000000000000000000010000008000000000010000000000000008000000000000000000008 G) (hS : Only G s0 s) :
    Only G s0 (readL2 idx gran s) := by
  unfold readL2
  extract_lets +onlyGivenNames -underBinder -merge i_1
  refine State.remapCommand_only (hG.of rfl) ?_ hS
  intro u2 hu3
  try beta_reduce
  extract_lets +onlyGivenNames -underBinder -merge st_4
  extract_lets +onlyGivenNames -underBinder -merge p_5
  exact hu3

theorem remapCommandComplete_only {s : State} (hG : Sub 0x400000000000000000000000000000000000000000000000000000018000000000000000000000 G) (hS : Only G s0 s) :
    Only G s0 (remapCommandComplete s) := by
  unfold remapCommandComplete
  split
  · exact hS
  · extract_lets +onlyGivenNames -underBinder -merge s_1
    have h2 : Only G s0 s_1 := by
      subst s_1
      exact State.set_only (hG.of rfl) hS
    try clear_value s_1
    extract_lets +onlyGivenNames -underBinder -merge s_3
    have h4 : Only G s0 s_3 := by
      subst s_3
      exact State.set_only (hG.of rfl) h2
    try clear_value s_3
    extract_lets +onlyGivenNames -underBinder -merge s_5
    have h6 : Only G s0 s_5 := by
      subst s_5
      split
      · exact State.set_only (hG.of rfl) h4
      · exact h4
    try clear_value s_5
    extract_lets +onlyGivenNames -underBinder -merge __src_7
    have h8 : Only G s0 __src_7 := by
      subst __src_7
      exact State.resultDone_only (hG.of rfl) (hG.of rfl) h6
    try clear_value __src_7
    exact Only.set_rmpRun (hG.of rfl) h8

end Sys2Proof.Machine
end

