-- ==== Sys2Proof/Laws/FrameResolve.lean ====
section
/-! SUPPORT. The frame of each function of Machine/Resolve.lean: the parts of the state that it may change, as a set of bits (StatePart.place), with the canonical form kept. -/

namespace Sys2Proof.Machine

variable {G : Nat} {s0 : State}

theorem State.setDecoder_only {s : State} {vcs : Nat} {k : Nat} {d : HdmDecoder} (hG : Sub 0x800000000000000000000000000000000000000000000000000000000000000000000000000000 G) (hS : Only G s0 s) :
    Only G s0 (State.setDecoder s vcs k d) := by
  unfold State.setDecoder
  exact Only.set_decoders (hG.of rfl) hS

theorem State.acuRecord_only {s : State} {r : Nat} {cause : Nat} {addr : Nat} {space : Nat} {write : Bool} {m : Nat × Nat} {target : Nat} (hG : Sub 0x10000008000000000010000000000000000600000000000000000000 G) (hS : Only G s0 s) :
    Only G s0 (State.acuRecord s r cause addr space write m target) := by
  unfold State.acuRecord
  extract_lets +onlyGivenNames -underBinder -merge s_1
  have h2 : Only G s0 s_1 := by
    subst s_1
    exact State.set_only (hG.of rfl) hS
  try clear_value s_1
  extract_lets +onlyGivenNames -underBinder -merge s_3
  have h4 : Only G s0 s_3 := by
    subst s_3
    exact State.set_only (hG.of rfl) h2
  try clear_value s_3
  extract_lets +onlyGivenNames -underBinder -merge s_5
  have h6 : Only G s0 s_5 := by
    subst s_5
    exact State.set_only (hG.of rfl) h4
  try clear_value s_5
  extract_lets +onlyGivenNames -underBinder -merge s_7
  have h8 : Only G s0 s_7 := by
    subst s_7
    exact State.set_only (hG.of rfl) h6
  try clear_value s_7
  extract_lets +onlyGivenNames -underBinder -merge s_9
  have h10 : Only G s0 s_9 := by
    subst s_9
    exact State.set_only (hG.of rfl) h8
  try clear_value s_9
  extract_lets +onlyGivenNames -underBinder -merge s_11
  have h12 : Only G s0 s_11 := by
    subst s_11
    exact State.set_only (hG.of rfl) h10
  try clear_value s_11
  extract_lets +onlyGivenNames -underBinder -merge s_13
  have h14 : Only G s0 s_13 := by
    subst s_13
    exact State.set_only (hG.of rfl) h12
  try clear_value s_13
  extract_lets +onlyGivenNames -underBinder -merge s_15
  have h16 : Only G s0 s_15 := by
    subst s_15
    exact State.set_only (hG.of rfl) h14
  try clear_value s_15
  refine Only.ite ?_ ?_
  · exact hS
  · exact State.notice_only (hG.of rfl) h16

theorem State.access_only {s : State} {pt : Nat} {tag : Nat} {target : Nat} {src : Option ReqSource} (hG : Sub 0x8000000000000000000000000000000000000000000000000000000000000000000000000000000000 G) (hS : Only G s0 s) :
    Only G s0 (State.access s pt tag target src) := by
  unfold State.access
  exact Only.set_accesses (hG.of rfl) hS

theorem State.sendPart_only {s : State} {r : Nat} {p : Part} {exact : Bool} (hG : Sub 0x80004000000000000000000000000000000000000000000000000000000000000000000000000000000 G) (hS : Only G s0 s) :
    Only G s0 (State.sendPart s r p exact) := by
  unfold State.sendPart
  extract_lets +onlyGivenNames -underBinder -merge __src_1
  extract_lets +onlyGivenNames -underBinder -merge s_2
  have h3 : Only G s0 s_2 := by
    subst s_2
    refine Only.ite ?_ ?_
    · exact Only.set_hot (hG.of rfl) hS
    · exact hS
  try clear_value s_2
  refine Only.ite ?_ ?_
  · exact h3
  · exact Only.set_resolved (hG.of rfl) h3

theorem State.forward_only {s : State} {r : Nat} {p : Part} {l2 : Option Word} (hG : Sub 0x8e004000000000000000000000000000008000000000000000000000000000000000000000000000000 G) (hS : Only G s0 s) :
    Only G s0 (State.forward s r p l2) := by
  unfold State.forward
  extract_lets +onlyGivenNames -underBinder -merge go_1
  have h2 : ∀ u3, Only G s0 u3 → Only G s0 (go_1 u3) := by
    subst go_1
    intro u3 hu4
    try beta_reduce
    refine State.sendPart_only (hG.of rfl) ?_
    refine Only.ite ?_ ?_
    · exact State.access_only (hG.of rfl) hu4
    · exact hu4
  try clear_value go_1
  split
  · refine Only.ite ?_ ?_
    · split
      · exact h2 _ hS
      · refine Only.ite ?_ ?_
        · refine State.tally_only (hG.of rfl) ?_
          exact State.migHold_only (hG.of rfl) hS
        · refine Only.ite ?_ ?_
          · refine h2 _ ?_
            exact State.migMark_only (hG.of rfl) hS
          · exact h2 _ hS
    · exact h2 _ hS
  · exact h2 _ hS

theorem State.slagRequest_only {s : State} {r : Nat} {q : MemReq} (hG : Sub 0x8000000000000000000000000000000000000c00000000000 G) (hS : Only G s0 s) :
    Only G s0 (State.slagRequest s r q) := by
  unfold State.slagRequest
  extract_lets +onlyGivenNames -underBinder -merge s_1
  have h2 : Only G s0 s_1 := by
    subst s_1
    exact State.fixed_only (hG.of rfl) hS
  try clear_value s_1
  refine Only.ite ?_ ?_
  · exact State.count_only (hG.of rfl) h2
  · refine Only.ite ?_ ?_
    · exact State.count_only (hG.of rfl) h2
    · exact State.count_only (hG.of rfl) h2

theorem State.resolveParts_only {s : State} {r : Nat} {q : MemReq} {addr : Nat} {pool : Bool} {vcs : Option Nat} {target : Nat} {ld : Nat} (hG : Sub 0x1100001b8f40e2b00005f006a1800000000100000080000403e0050000000010084001e00000001e00805518441 G) (hS : Only G s0 s) :
    Only G s0 (State.resolveParts s r q addr pool vcs target ld) := by
  unfold State.resolveParts
  extract_lets +onlyGivenNames -underBinder -merge m_1
  extract_lets +onlyGivenNames -underBinder -merge w_2
  extract_lets +onlyGivenNames -underBinder -merge rd_3
  extract_lets +onlyGivenNames -underBinder -merge ps_4
  extract_lets +onlyGivenNames -underBinder -merge own_5
  extract_lets +onlyGivenNames -underBinder -merge s_6
  have h7 : Only G s0 s_6 := by
    subst s_6
    refine Only.fold ?_ hS
    intro u8 y10 hu9
    try beta_reduce
    exact State.repair_only (hG.of rfl) hu9
  try clear_value s_6
  extract_lets +onlyGivenNames -underBinder -merge s_12
  have h13 : Only G s0 s_12 := by
    subst s_12
    refine Only.ite ?_ ?_
    · refine Only.fold ?_ h7
      intro u14 y16 hu15
      try beta_reduce
      exact State.repair_only (hG.of rfl) hu15
    · exact h7
  try clear_value s_12
  extract_lets +onlyGivenNames -underBinder -merge s_18
  have h19 : Only G s0 s_18 := by
    subst s_18
    refine Only.ite ?_ ?_
    · refine Only.fold ?_ h13
      intro u20 y22 hu21
      try beta_reduce
      extract_lets +onlyGivenNames -underBinder -merge a_24
      extract_lets +onlyGivenNames -underBinder -merge e_25
      refine Only.ite ?_ ?_
      · exact State.l2Touch_only (hG.of rfl) hu21
      · exact hu21
    · exact h13
  try clear_value s_18
  extract_lets +onlyGivenNames -underBinder -merge one_26
  extract_lets +onlyGivenNames -underBinder -merge done_27
  refine Only.ite ?_ ?_
  · exact State.deny_only (hG.of rfl) hS
  · refine Only.ite ?_ ?_
    · refine State.deny_only (hG.of rfl) ?_
      exact State.slagRequest_only (hG.of rfl) hS
    · split
      · extract_lets +onlyGivenNames -underBinder -merge s_28
        have h29 : Only G s0 s_28 := by
          subst s_28
          exact State.acuRecord_only (hG.of rfl) h19
        try clear_value s_28
        refine State.deny_only (hG.of rfl) ?_
        refine State.tally_only (hG.of rfl) ?_
        exact State.count_only (hG.of rfl) h29
      · extract_lets +onlyGivenNames -underBinder -merge failing_30
        extract_lets +onlyGivenNames -underBinder -merge s_31
        have h32 : Only G s0 s_31 := by
          subst s_31
          refine Only.fold ?_ h19
          intro u33 y35 hu34
          try beta_reduce
          refine Only.ite ?_ ?_
          · exact State.forward_only (hG.of rfl) hu34
          · exact hu34
        try clear_value s_31
        try clear_value failing_30
        split
        · exact h32
        · extract_lets +onlyGivenNames -underBinder -merge s_37
          have h38 : Only G s0 s_37 := by
            subst s_37
            exact State.acuRecord_only (hG.of rfl) h32
          try clear_value s_37
          extract_lets +onlyGivenNames -underBinder -merge s_39
          have h40 : Only G s0 s_39 := by
            subst s_39
            refine Only.ite ?_ ?_
            · exact State.count_only (hG.of rfl) h38
            · exact State.count_only (hG.of rfl) h38
          try clear_value s_39
          extract_lets +onlyGivenNames -underBinder -merge s_41
          have h42 : Only G s0 s_41 := by
            subst s_41
            exact State.tally_only (hG.of rfl) h40
          try clear_value s_41
          exact State.deny_only (hG.of rfl) h42

theorem requestResolve_only {q : MemReq} {s : State} (hG : Sub 0x1100001b8f40e2b00005f406a1800000000100000080000403e0050000000010084001e00000001e00805518441 G) (hS : Only G s0 s) :
    Only G s0 (requestResolve q s) := by
  unfold requestResolve
  extract_lets +onlyGivenNames -underBinder -merge r_1
  extract_lets +onlyGivenNames -underBinder -merge s_2
  have h3 : Only G s0 s_2 := by
    subst s_2
    refine State.tally_only (hG.of rfl) ?_
    exact Only.set_decodeQ (hG.of rfl) hS
  try clear_value s_2
  split
  · extract_lets +onlyGivenNames -underBinder -merge s_4
    have h5 : Only G s0 s_4 := by
      subst s_4
      exact State.acuRecord_only (hG.of rfl) h3
    try clear_value s_4
    refine State.deny_only (hG.of rfl) ?_
    refine State.tally_only (hG.of rfl) ?_
    exact State.count_only (hG.of rfl) h5
  · exact State.resolveParts_only (hG.of rfl) h3
  · exact State.resolveParts_only (hG.of rfl) h3
  · exact State.resolveParts_only (hG.of rfl) h3

end Sys2Proof.Machine
end

