-- ==== Sys2Proof/Laws/FrameTemper.lean ====
section
/-! SUPPORT. The frame of each function of Machine/Temper.lean: the parts of the state that it may change, as a set of bits (StatePart.place), with the canonical form kept. -/

namespace Sys2Proof.Machine

variable {G : Nat} {s0 : State}

theorem State.stamp_only {s : State} {key : Nat} (hG : Sub 0x8000000000000000000000000000000000000000000000000000000000000000000000000000 G) (hS : Only G s0 s) :
    Only G s0 (State.stamp s key) := by
  unfold State.stamp
  exact Only.set_stamps (hG.of rfl) hS

theorem State.setBucket_only {s : State} {k : Nat} {b : Bucket} (hG : Sub 0x200000000000000000000000000000000000000000000000000000000000000000000000000 G) (hS : Only G s0 s) :
    Only G s0 (State.setBucket s k b) := by
  unfold State.setBucket
  exact Only.set_buckets (hG.of rfl) hS

theorem State.showTokens_only {s : State} {c : Nat} (hG : Sub 0x8000000000000000 G) (hS : Only G s0 s) :
    Only G s0 (State.showTokens s c) := by
  unfold State.showTokens
  extract_lets +onlyGivenNames -underBinder -merge b_1
  extract_lets +onlyGivenNames -underBinder -merge s_2
  have h3 : Only G s0 s_2 := by
    subst s_2
    exact State.set_only (hG.of rfl) hS
  try clear_value s_2
  exact State.set_only (hG.of rfl) h3

theorem State.testColour_only {s : State} {c : Nat} {bytes : Nat} (hG : Sub 0x200000000000000000000000000000000000000000000000000000000008000000000000000 G) (hS : Only G s0 s) :
    Only G s0 (State.testColour s c bytes).2 := by
  unfold State.testColour
  extract_lets +onlyGivenNames -underBinder -merge b_1
  split
  · exact hS
  · split
    · change Only G s0 _
      refine State.showTokens_only (hG.of rfl) ?_
      exact State.setBucket_only (hG.of rfl) hS

theorem State.keepMark_only {s : State} {port : Nat} {param : Nat} {m : Nat} (hG : Sub 0x1000000000000000000000000000000000000000000000000000000000000000000000000000 G) (hS : Only G s0 s) :
    Only G s0 (State.keepMark s port param m) := by
  unfold State.keepMark
  exact Only.set_marks (hG.of rfl) hS

theorem State.countMark_only {s : State} {c : Nat} {m : Nat} (hG : Sub 0x3800000000000000000 G) (hS : Only G s0 s) :
    Only G s0 (State.countMark s c m) := by
  unfold State.countMark
  split
  · exact hS
  · exact State.count_only (hG.of rfl) hS
  · exact State.count_only (hG.of rfl) hS
  · exact State.count_only (hG.of rfl) hS

theorem State.takeIn_only {s : State} {c : Nat} {q : FlowReq} {k : Colour} {m : Nat} (hG : Sub 0x30002000000000000000000000080000000000000000000000000000038e0000000000000000 G) (hS : Only G s0 s) :
    Only G s0 (State.takeIn s c q k m) := by
  unfold State.takeIn
  extract_lets +onlyGivenNames -underBinder -merge n_1
  extract_lets +onlyGivenNames -underBinder -merge s_2
  have h3 : Only G s0 s_2 := by
    subst s_2
    split
    · exact State.count_only (hG.of rfl) hS
    · exact State.count_only (hG.of rfl) hS
    · exact State.count_only (hG.of rfl) hS
  try clear_value s_2
  extract_lets +onlyGivenNames -underBinder -merge s_4
  have h5 : Only G s0 s_4 := by
    subst s_4
    refine State.when_only ?_ ?_
    · intro u6 hu7
      try beta_reduce
      exact State.tallyPolicer_only (hG.of rfl) hu7
    · refine State.fixed_only (hG.of rfl) ?_
      exact State.tallyPolicer_only (hG.of rfl) h3
  try clear_value s_4
  extract_lets +onlyGivenNames -underBinder -merge s_8
  have h9 : Only G s0 s_8 := by
    subst s_8
    refine State.keepTc_only (hG.of rfl) ?_
    refine State.keepMark_only (hG.of rfl) ?_
    exact State.countMark_only (hG.of rfl) h5
  try clear_value s_8
  extract_lets +onlyGivenNames -underBinder -merge __src_10
  exact State.enqueue_only (hG.of rfl) h9

theorem State.setHeld_only {s : State} {c : Nat} {l : List HeldReq} (hG : Sub 0x400000000000000000000000000000000000000000000000000000000010000000000000000 G) (hS : Only G s0 s) :
    Only G s0 (State.setHeld s c l) := by
  unfold State.setHeld
  refine State.set_only (hG.of rfl) ?_
  exact Only.set_holdQ (hG.of rfl) hS

theorem State.holdFullNow_only {s : State} {c : Nat} (hG : Sub 0x8800000000000000000010000008000000000010000000000000000000000000000000000000 G) (hS : Only G s0 s) :
    Only G s0 (State.holdFullNow s c) := by
  unfold State.holdFullNow
  extract_lets +onlyGivenNames -underBinder -merge s_1
  have h2 : Only G s0 s_1 := by
    subst s_1
    exact Only.set_holdFull (hG.of rfl) hS
  try clear_value s_1
  extract_lets +onlyGivenNames -underBinder -merge r_3
  refine Only.ite ?_ ?_
  · refine Only.ite ?_ ?_
    · refine State.notice_only (hG.of rfl) ?_
      exact State.stamp_only (hG.of rfl) h2
    · exact h2
  · exact hS

theorem State.holdRoom_only {s : State} {c : Nat} (hG : Sub 0x800000000000000000000000000000000000000000000000000000000000000000000000000 G) (hS : Only G s0 s) :
    Only G s0 (State.holdRoom s c) := by
  unfold State.holdRoom
  refine Only.ite ?_ ?_
  · exact hS
  · exact Only.set_holdFull (hG.of rfl) hS

theorem State.hold_only {s : State} {c : Nat} {q : FlowReq} (hG : Sub 0x8c00000000000000000010000008000000000010000000000000000000110000000000000000 G) (hS : Only G s0 s) :
    Only G s0 (State.hold s c q) := by
  unfold State.hold
  refine State.holdFullNow_only (hG.of rfl) ?_
  refine State.tallyPolicer_only (hG.of rfl) ?_
  refine State.count_only (hG.of rfl) ?_
  exact State.setHeld_only (hG.of rfl) hS

theorem State.unhold_only {s : State} {c : Nat} (hG : Sub 0xc00000000000000000000000008000000000000000000000000000000210000000000000000 G) (hS : Only G s0 s) :
    Only G s0 (State.unhold s c) := by
  unfold State.unhold
  split
  · exact hS
  · refine State.holdRoom_only (hG.of rfl) ?_
    refine State.tallyPolicer_only (hG.of rfl) ?_
    refine State.count_only (hG.of rfl) ?_
    exact State.setHeld_only (hG.of rfl) hS

theorem State.police_only {s : State} {q : FlowReq} (hG : Sub 0xbe002000000000000000100000080000000000100000000000000000039f8000000000000000 G) (hS : Only G s0 s) :
    Only G s0 (State.police s q) := by
  unfold State.police
  extract_lets +onlyGivenNames -underBinder -merge c_1
  refine Only.ite ?_ ?_
  · exact State.hold_only (hG.of rfl) hS
  · split
    · rename_i z3 z4 e2
      have h5 : Only G s0 z4 := by
        have e0 := congrArg Prod.snd e2
        change _ = z4 at e0
        rw [← e0]
        exact State.testColour_only (hG.of rfl) hS
      refine Only.ite ?_ ?_
      · exact State.hold_only (hG.of rfl) h5
      · exact State.takeIn_only (hG.of rfl) h5

theorem requestColour_only {q : FlowReq} {s : State} (hG : Sub 0x400be002000000000000000100000080000000000100000000000000000039f8000000000000000 G) (hS : Only G s0 s) :
    Only G s0 (requestColour q s) := by
  unfold requestColour
  extract_lets +onlyGivenNames -underBinder -merge f_1
  refine State.police_only (hG.of rfl) ?_
  split
  · exact Only.set_resolved (hG.of rfl) hS
  · exact hS

theorem holdQueueRetest_only {c : Nat} {s : State} (hG : Sub 0x3e00200000000000000000000008000000000000000000000000000003af8000000000000000 G) (hS : Only G s0 s) :
    Only G s0 (holdQueueRetest c s) := by
  unfold holdQueueRetest
  split
  · exact hS
  · split
    · rename_i z2 z3 e1
      have h4 : Only G s0 z3 := by
        have e0 := congrArg Prod.snd e1
        change _ = z3 at e0
        rw [← e0]
        exact State.testColour_only (hG.of rfl) hS
      refine Only.ite ?_ ?_
      · exact h4
      · refine State.takeIn_only (hG.of rfl) ?_
        exact State.unhold_only (hG.of rfl) h4

theorem holdQueueFull_only {c : Nat} {s : State} (hG : Sub 0x8800000000000000000010000008000000000010000000000000000000000000000000000000 G) (hS : Only G s0 s) :
    Only G s0 (holdQueueFull c s) := by
  unfold holdQueueFull
  exact State.holdFullNow_only (hG.of rfl) hS

theorem holdBoundExpiry_only {c : Nat} {s : State} (hG : Sub 0x3e00200000000000000000000008000000000000000000000000000003af8000000000000000 G) (hS : Only G s0 s) :
    Only G s0 (holdBoundExpiry c s) := by
  unfold holdBoundExpiry
  split
  · exact hS
  · refine Only.ite ?_ ?_
    · exact hS
    · split
      · rename_i z2 z3 e1
        have h4 : Only G s0 z3 := by
          have e0 := congrArg Prod.snd e1
          change _ = z3 at e0
          rw [← e0]
          exact State.testColour_only (hG.of rfl) hS
        refine Only.ite ?_ ?_
        · refine State.takeIn_only (hG.of rfl) ?_
          exact State.unhold_only (hG.of rfl) h4
        · refine State.takeIn_only (hG.of rfl) ?_
          exact State.unhold_only (hG.of rfl) h4

theorem State.expireHeads_only {k : Nat} {c : Nat} {bound : Nat} {s : State} (hG : Sub 0x3c00200000000000000000000008000000000000000000000000000003af0000000000000000 G) (h : Only G s0 s) : Only G s0 (State.expireHeads k c bound s) := by
  induction k generalizing s with
  | zero => exact h
  | succ k ih =>
    unfold State.expireHeads
    split
    · exact h
    · split
      · exact ih (State.takeIn_only (hG.of rfl) (State.unhold_only (hG.of rfl) h))
      · exact h
theorem holdBoundWrite_only {r : Nat} {value : Word} {s : State} (hG : Sub 0x3c00200000000000000000000008000000000000000000000000000003af0020000000000000 G) (hS : Only G s0 s) :
    Only G s0 (holdBoundWrite r value s) := by
  unfold holdBoundWrite
  extract_lets +onlyGivenNames -underBinder -merge bound_1
  extract_lets +onlyGivenNames -underBinder -merge s_2
  have h3 : Only G s0 s_2 := by
    subst s_2
    exact State.set_only (hG.of rfl) hS
  try clear_value s_2
  extract_lets +onlyGivenNames -underBinder -merge s_4
  have h5 : Only G s0 s_4 := by
    subst s_4
    exact State.set_only (hG.of rfl) h3
  try clear_value s_4
  extract_lets +onlyGivenNames -underBinder -merge s_6
  have h7 : Only G s0 s_6 := by
    subst s_6
    exact State.set_only (hG.of rfl) h5
  try clear_value s_6
  extract_lets +onlyGivenNames -underBinder -merge s_8
  have h9 : Only G s0 s_8 := by
    subst s_8
    exact State.set_only (hG.of rfl) h7
  try clear_value s_8
  extract_lets +onlyGivenNames -underBinder -merge mine_10
  refine Only.ite ?_ ?_
  · exact h9
  · refine Only.fold ?_ h9
    intro u11 y13 hu12
    try beta_reduce
    exact State.expireHeads_only (hG.of rfl) hu12

theorem contextRewrite_only {c : Nat} {wordNo : Nat} {value : Word} {s : State} (hG : Sub 0x200000000000000020000000000000000001000000800000000001000000000000000000000e000000000000008 G) (hS : Only G s0 s) :
    Only G s0 (contextRewrite c wordNo value s) := by
  unfold contextRewrite
  extract_lets +onlyGivenNames -underBinder -merge t_1
  have h2 : Only G s0 t_1 := by
    subst t_1
    refine Only.ite ?_ ?_
    · refine State.set_only (hG.of rfl) ?_
      exact State.set_only (hG.of rfl) hS
    · exact State.setReg_only (hG.of rfl) hS
  try clear_value t_1
  extract_lets +onlyGivenNames -underBinder -merge t_3
  have h4 : Only G s0 t_3 := by
    subst t_3
    refine Only.ite ?_ ?_
    · exact State.set_only (hG.of rfl) h2
    · exact h2
  try clear_value t_3
  extract_lets +onlyGivenNames -underBinder -merge cbs_5
  extract_lets +onlyGivenNames -underBinder -merge pbs_6
  refine Only.ite ?_ ?_
  · exact State.refuseWrite_only (hG.of rfl) hS
  · refine State.showTokens_only (hG.of rfl) ?_
    exact State.setBucket_only (hG.of rfl) h4

theorem shaperRewrite_only {p : Nat} {queue : Nat} {wordNo : Nat} {value : Word} {s : State} (hG : Sub 0x2000000000000000200000000000000000010000008000000000010000000000000000000000c00000000000008 G) (hS : Only G s0 s) :
    Only G s0 (shaperRewrite p queue wordNo value s) := by
  unfold shaperRewrite
  extract_lets +onlyGivenNames -underBinder -merge i_1
  extract_lets +onlyGivenNames -underBinder -merge t_2
  have h3 : Only G s0 t_2 := by
    subst t_2
    refine Only.ite ?_ ?_
    · refine State.set_only (hG.of rfl) ?_
      exact State.set_only (hG.of rfl) hS
    · exact State.setReg_only (hG.of rfl) hS
  try clear_value t_2
  extract_lets +onlyGivenNames -underBinder -merge cbs_4
  extract_lets +onlyGivenNames -underBinder -merge pbs_5
  refine Only.ite ?_ ?_
  · exact State.refuseWrite_only (hG.of rfl) hS
  · exact State.setBucket_only (hG.of rfl) h3

theorem cmarkReceived_only {p : Nat} {param : Nat} {c : Nat} {s : State} (hG : Sub 0x1000000000000000000000000008000000000000000000000000000001000200000000000000 G) (hS : Only G s0 s) :
    Only G s0 (cmarkReceived p param c s) := by
  unfold cmarkReceived
  extract_lets +onlyGivenNames -underBinder -merge s_1
  have h2 : Only G s0 s_1 := by
    subst s_1
    exact State.tallyPolicer_only (hG.of rfl) hS
  try clear_value s_1
  refine Only.ite ?_ ?_
  · refine State.count_only (hG.of rfl) ?_
    exact State.keepMark_only (hG.of rfl) h2
  · exact State.count_only (hG.of rfl) h2

theorem State.clearCtx_only {s : State} {c : Nat} (hG : Sub 0x3fe0000000000000000 G) (h : Only G s0 s) : Only G s0 (State.clearCtx s c) :=
  Only.fold_fld (M := 0x3fe0000000000000000) (by decide +kernel) hG (fun _ _ hF hu => State.set_only hF hu) h
theorem State.setFree_only {s : State} {n : Nat} (hG : Sub 0x200000000000000 G) (hS : Only G s0 s) :
    Only G s0 (State.setFree s n) := by
  unfold State.setFree
  refine State.each_only ?_ hS
  intro y1 u2 hu3
  try beta_reduce
  exact State.set_only (hG.of rfl) hu3

theorem State.bindCtx_only {s : State} {r : Nat} {c : Nat} {feid : Nat} {ld : Nat} {auto : Bool} (hG : Sub 0x200000000000000000000000000000000000000000000000000000003fed200000000000000 G) (hS : Only G s0 s) :
    Only G s0 (State.bindCtx s r c feid ld auto) := by
  unfold State.bindCtx
  extract_lets +onlyGivenNames -underBinder -merge s_1
  have h2 : Only G s0 s_1 := by
    subst s_1
    exact State.set_only (hG.of rfl) hS
  try clear_value s_1
  extract_lets +onlyGivenNames -underBinder -merge s_3
  have h4 : Only G s0 s_3 := by
    subst s_3
    exact State.set_only (hG.of rfl) h2
  try clear_value s_3
  extract_lets +onlyGivenNames -underBinder -merge s_5
  have h6 : Only G s0 s_5 := by
    subst s_5
    exact State.set_only (hG.of rfl) h4
  try clear_value s_5
  extract_lets +onlyGivenNames -underBinder -merge s_7
  have h8 : Only G s0 s_7 := by
    subst s_7
    exact State.set_only (hG.of rfl) h6
  try clear_value s_7
  extract_lets +onlyGivenNames -underBinder -merge s_9
  have h10 : Only G s0 s_9 := by
    subst s_9
    exact State.set_only (hG.of rfl) h8
  try clear_value s_9
  extract_lets +onlyGivenNames -underBinder -merge s_11
  have h12 : Only G s0 s_11 := by
    subst s_11
    refine Only.ite ?_ ?_
    · exact State.set_only (hG.of rfl) h10
    · exact h10
  try clear_value s_11
  extract_lets +onlyGivenNames -underBinder -merge s_13
  have h14 : Only G s0 s_13 := by
    subst s_13
    refine State.setBucket_only (hG.of rfl) ?_
    exact State.clearCtx_only (hG.of rfl) h12
  try clear_value s_13
  refine State.setFree_only (hG.of rfl) ?_
  exact State.showTokens_only (hG.of rfl) h14

theorem State.copyCtx_only {s : State} {src : Nat} {dst : Nat} (hG : Sub 0x16000000000000000 G) (hS : Only G s0 s) :
    Only G s0 (State.copyCtx s src dst) := by
  unfold State.copyCtx
  extract_lets +onlyGivenNames -underBinder -merge s_1
  have h2 : Only G s0 s_1 := by
    subst s_1
    exact State.setReg_only (hG.of rfl) hS
  try clear_value s_1
  extract_lets +onlyGivenNames -underBinder -merge s_3
  have h4 : Only G s0 s_3 := by
    subst s_3
    exact State.setReg_only (hG.of rfl) h2
  try clear_value s_3
  exact State.set_only (hG.of rfl) h4

theorem State.bindAuto_only {s : State} {r : Nat} {feid : Nat} {ld : Nat} {template : Nat} (hG : Sub 0x8200000000000000000010000008000000000010000000000000000003fff200000000000000 G) (hS : Only G s0 s) :
    Only G s0 (State.bindAuto s r feid ld template) := by
  unfold State.bindAuto
  split
  · refine State.bindCtx_only (hG.of rfl) ?_
    exact State.copyCtx_only (hG.of rfl) hS
  · extract_lets +onlyGivenNames -underBinder -merge s_1
    have h2 : Only G s0 s_1 := by
      subst s_1
      exact State.count_only (hG.of rfl) hS
    try clear_value s_1
    refine Only.ite ?_ ?_
    · refine State.notice_only (hG.of rfl) ?_
      exact State.stamp_only (hG.of rfl) h2
    · exact h2

theorem State.bindCommand_only {s : State} {r : Nat} {f : State → State × Nat × Nat} (hG : Sub 0x2000000000000004000000000000000000010000008000000000010000000000000000000000100000000000008 G) (hf : (∀ x0, Only G s0 x0 → Only G s0 (f x0).1)) (hS : Only G s0 s) :
    Only G s0 (State.bindCommand s r f) := by
  unfold State.bindCommand
  refine Only.ite ?_ ?_
  · exact State.refuseWrite_only (hG.of rfl) hS
  · split
    · rename_i z2 z4 z5 e1
      have h3 : Only G s0 z2 := by
        have e0 := congrArg Prod.fst e1
        change _ = z2 at e0
        rw [← e0]
        refine hf _ ?_
        exact State.resultStart_only (hG.of rfl) hS
      exact Only.set_bindRun (hG.of rfl) h3

theorem bindFlow_only {r : Nat} {index : Nat} {feid : Nat} {ld : Nat} {s : State} (hG : Sub 0x2000000000000004200000000000000000010000008000000000010000000000000000003fed300000000000008 G) (hS : Only G s0 s) :
    Only G s0 (bindFlow r index feid ld s) := by
  unfold bindFlow
  extract_lets +onlyGivenNames -underBinder -merge feid_1
  extract_lets +onlyGivenNames -underBinder -merge ld_2
  refine State.bindCommand_only (hG.of rfl) ?_ hS
  intro u3 hu4
  try beta_reduce
  split
  · exact hu4
  · split
    · exact hu4
    · split
      · exact State.count_only (hG.of rfl) hu4
      · split
        · exact State.bindCtx_only (hG.of rfl) hu4
        · split
          · exact hu4
          · exact State.bindCtx_only (hG.of rfl) hu4

theorem State.drainYellow_only {s : State} {c : Nat} (hG : Sub 0x3c00200000000000000000000008000000000000000000000000000003af0000000000000000 G) (hS : Only G s0 s) :
    Only G s0 (State.drainYellow s c) := by
  unfold State.drainYellow
  refine Only.fold ?_ hS
  intro u1 y3 hu2
  try beta_reduce
  refine State.takeIn_only (hG.of rfl) ?_
  exact State.unhold_only (hG.of rfl) hu2

theorem unbindFlow_only {r : Nat} {feid : Nat} {ld : Nat} {s : State} (hG : Sub 0x2000000000000007c00200000000000000010000008000000000010000000000000000003ff1300000000000008 G) (hS : Only G s0 s) :
    Only G s0 (unbindFlow r feid ld s) := by
  unfold unbindFlow
  refine State.bindCommand_only (hG.of rfl) ?_ hS
  intro u1 hu2
  try beta_reduce
  split
  · exact hu2
  · split
    · exact hu2
    · extract_lets +onlyGivenNames -underBinder -merge s_3
      have h4 : Only G s0 s_3 := by
        subst s_3
        refine State.setReg_only (hG.of rfl) ?_
        refine State.clearCtx_only (hG.of rfl) ?_
        exact State.drainYellow_only (hG.of rfl) hu2
      try clear_value s_3
      exact State.setFree_only (hG.of rfl) h4

theorem lookupFlow_only {r : Nat} {feid : Nat} {ld : Nat} {s : State} (hG : Sub 0x2000000000000004000000000000000000010000008000000000010000000000000000000000100000000000008 G) (hS : Only G s0 s) :
    Only G s0 (lookupFlow r feid ld s) := by
  unfold lookupFlow
  refine State.bindCommand_only (hG.of rfl) ?_ hS
  intro u1 hu2
  try beta_reduce
  split
  · exact hu2
  · exact hu2

theorem bindCommandComplete_only {r : Nat} {s : State} (hG : Sub 0x4000000000000000000000000000000000000000000000000000000000000100000000000000 G) (hS : Only G s0 s) :
    Only G s0 (bindCommandComplete r s) := by
  unfold bindCommandComplete
  split
  · exact hS
  · extract_lets +onlyGivenNames -underBinder -merge s_1
    have h2 : Only G s0 s_1 := by
      subst s_1
      exact State.set_only (hG.of rfl) hS
    try clear_value s_1
    extract_lets +onlyGivenNames -underBinder -merge s_3
    have h4 : Only G s0 s_3 := by
      subst s_3
      exact State.set_only (hG.of rfl) h2
    try clear_value s_3
    extract_lets +onlyGivenNames -underBinder -merge s_5
    have h6 : Only G s0 s_5 := by
      subst s_5
      exact State.resultDone_only (hG.of rfl) (hG.of rfl) h4
    try clear_value s_5
    exact Only.set_bindRun (hG.of rfl) h6

theorem autoBind_only {r : Nat} {feid : Nat} {ld : Nat} {s : State} (hG : Sub 0x8200000000000000000010000008000000000010000000000000000003fff200000000000000 G) (hS : Only G s0 s) :
    Only G s0 (autoBind r feid ld s) := by
  unfold autoBind
  extract_lets +onlyGivenNames -underBinder -merge feid_1
  extract_lets +onlyGivenNames -underBinder -merge ld_2
  extract_lets +onlyGivenNames -underBinder -merge t_3
  extract_lets +onlyGivenNames -underBinder -merge s_4
  have h5 : Only G s0 s_4 := by
    subst s_4
    exact State.stamp_only (hG.of rfl) hS
  try clear_value s_4
  refine Only.ite ?_ ?_
  · refine Only.ite ?_ ?_
    · exact State.count_only (hG.of rfl) h5
    · exact State.bindAuto_only (hG.of rfl) h5
  · exact hS

theorem State.handOver_only {s : State} {p : Nat} {q : MemReq} (hG : Sub 0x6000000000000000000000000000000000000000000000000000000000000000000000 G) (hS : Only G s0 s) :
    Only G s0 (State.handOver s p q) := by
  unfold State.handOver
  extract_lets +onlyGivenNames -underBinder -merge s_1
  have h2 : Only G s0 s_1 := by
    subst s_1
    exact Only.set_decodeQ (hG.of rfl) hS
  try clear_value s_1
  split
  · exact Only.set_outst (hG.of rfl) h2
  · exact h2

theorem State.answered_only {s : State} {p : Nat} {tag : Nat} (hG : Sub 0x2000000000000000000000000000000000000000000000000000000000000000000000 G) (hS : Only G s0 s) :
    Only G s0 (State.answered s p tag) := by
  unfold State.answered
  extract_lets +onlyGivenNames -underBinder -merge k_1
  exact Only.set_outst (hG.of rfl) hS

theorem State.takeResponse_only {s : State} {p : Nat} {x : Pkt} {devload : Nat} (hG : Sub 0x300000000000000000000000000000000000000000000000000000000000000000008000 G) (hS : Only G s0 s) :
    Only G s0 (State.takeResponse s p x devload) := by
  unfold State.takeResponse
  extract_lets +onlyGivenNames -underBinder -merge y_1
  extract_lets +onlyGivenNames -underBinder -merge s_2
  have h3 : Only G s0 s_2 := by
    subst s_2
    exact State.setNi_only (hG.of rfl) hS
  try clear_value s_2
  extract_lets +onlyGivenNames -underBinder -merge s_4
  have h5 : Only G s0 s_4 := by
    subst s_4
    refine Only.ite ?_ ?_
    · exact State.set_only (hG.of rfl) h3
    · exact h3
  try clear_value s_4
  extract_lets +onlyGivenNames -underBinder -merge __src_6
  extract_lets +onlyGivenNames -underBinder -merge x_7
  extract_lets +onlyGivenNames -underBinder -merge x_8
  exact State.enqueue_only (hG.of rfl) h5

theorem State.takeSnoop_only {s : State} {p : Nat} {x : Pkt} (hG : Sub 0x200000000000000000000000000000000000000000000000000000000000000000000000 G) (hS : Only G s0 s) :
    Only G s0 (State.takeSnoop s p x) := by
  unfold State.takeSnoop
  split
  · exact hS
  · extract_lets +onlyGivenNames -underBinder -merge u_1
    exact State.enqueue_only (hG.of rfl) hS

theorem State.takeGpf_only {s : State} {p : Nat} {x : Pkt} (hG : Sub 0x2000000000000200000000000000000000000000000000000000000000000000000000000000000000000 G) (hS : Only G s0 s) :
    Only G s0 (State.takeGpf s p x) := by
  unfold State.takeGpf
  split
  · exact hS
  · refine Only.fold ?_ hS
    intro u1 y3 hu2
    try beta_reduce
    extract_lets +onlyGivenNames -underBinder -merge f_5
    extract_lets +onlyGivenNames -underBinder -merge x_6
    refine Only.ite ?_ ?_
    · exact Only.set_transit (hG.of rfl) hu2
    · exact State.enqueue_only (hG.of rfl) hu2

theorem State.hostWrites_only {s : State} {v : Nat} {reg : CfgReg} {value : Nat} (hG : Sub 0x40000000000000000000000000008000000000000080000000000000000000000000000000000000000000000000000 G) (hS : Only G s0 s) :
    Only G s0 (State.hostWrites s v reg value) := by
  unfold State.hostWrites
  extract_lets +onlyGivenNames -underBinder -merge x_1
  split
  · exact State.setVppb_only (hG.of rfl) hS
  · extract_lets +onlyGivenNames -underBinder -merge p_2
    extract_lets +onlyGivenNames -underBinder -merge s_3
    have h4 : Only G s0 s_3 := by
      subst s_3
      exact State.setVppb_only (hG.of rfl) hS
    try clear_value s_3
    refine Only.ite ?_ ?_
    · split
      · extract_lets +onlyGivenNames -underBinder -merge __src_5
        refine State.updHostOn_only (hG.of rfl) ?_
        exact State.setSlot_only (hG.of rfl) h4
      · exact h4
    · exact h4
  · exact State.setVppb_only (hG.of rfl) hS
  · exact State.setVppb_only (hG.of rfl) hS
  · exact hS

theorem State.takeConfig_only {s : State} {p : Nat} {v : Nat} {reg : CfgReg} {value : Option Nat} {tag : Nat} (hG : Sub 0x40000000000000000000000000008100000000000080000000000000000000000000000000000000000000000000000 G) (hS : Only G s0 s) :
    Only G s0 (State.takeConfig s p v reg value tag) := by
  unfold State.takeConfig
  refine Only.ite ?_ ?_
  · split
    · refine State.emit_only (hG.of rfl) ?_
      exact State.hostWrites_only (hG.of rfl) hS
    · exact State.emit_only (hG.of rfl) hS
  · exact State.emit_only (hG.of rfl) hS

theorem State.takeMsg_only {s : State} {p : Nat} {m : PortMsg} (hG : Sub 0x40000000002000000000000306008100000000000080000000000000000000000000000000000000000000000008000 G) (hS : Only G s0 s) :
    Only G s0 (State.takeMsg s p m) := by
  unfold State.takeMsg
  split
  · exact State.handOver_only (hG.of rfl) hS
  · exact State.takeResponse_only (hG.of rfl) hS
  · exact State.takeSnoop_only (hG.of rfl) hS
  · exact State.takeGpf_only (hG.of rfl) hS
  · exact State.takeConfig_only (hG.of rfl) hS

theorem State.releaseKept_only {s : State} {p : Nat} (hG : Sub 0x4000000000200000000000030e008100000000000080000000000000000000000000000000000000000000000008000 G) (hS : Only G s0 s) :
    Only G s0 (State.releaseKept s p) := by
  unfold State.releaseKept
  refine Only.fold ?_ hS
  intro u1 y3 hu2
  try beta_reduce
  split
  · refine Only.ite ?_ ?_
    · refine State.takeMsg_only (hG.of rfl) ?_
      exact Only.set_portHold (hG.of rfl) hu2
    · exact hu2
  · exact hu2

theorem egressPacketSend_only {p : Nat} {s : State} (hG : Sub 0x4000000000200800000120070e008100000000000080008000000000000000000000000000000000000000800008000 G) (hS : Only G s0 s) :
    Only G s0 (egressPacketSend p s) := by
  unfold egressPacketSend
  refine Only.ite ?_ ?_
  · exact hS
  · split
    · exact hS
    · split
      · exact hS
      · extract_lets +onlyGivenNames -underBinder -merge b_1
        extract_lets +onlyGivenNames -underBinder -merge l_2
        extract_lets +onlyGivenNames -underBinder -merge b_3
        extract_lets +onlyGivenNames -underBinder -merge s_4
        have h5 : Only G s0 s_4 := by
          subst s_4
          refine State.leaves_only (hG.of rfl) ?_
          exact State.setBucket_only (hG.of rfl) hS
        try clear_value s_4
        extract_lets +onlyGivenNames -underBinder -merge dl_6
        extract_lets +onlyGivenNames -underBinder -merge y_7
        extract_lets +onlyGivenNames -underBinder -merge s_8
        have h9 : Only G s0 s_8 := by
          subst s_8
          refine Only.ite ?_ ?_
          · refine State.keepMark_only (hG.of rfl) ?_
            exact State.set_only (hG.of rfl) h5
          · exact h5
        try clear_value s_8
        extract_lets +onlyGivenNames -underBinder -merge s_10
        have h11 : Only G s0 s_10 := by
          subst s_10
          refine Only.fold ?_ h9
          intro u12 y14 hu13
          try beta_reduce
          exact State.emit_only (hG.of rfl) hu13
        try clear_value s_10
        refine Only.ite ?_ ?_
        · refine State.releaseKept_only (hG.of rfl) ?_
          refine State.answerOver_only (hG.of rfl) ?_
          refine State.answered_only (hG.of rfl) ?_
          exact State.fixed_only (hG.of rfl) h11
        · refine Only.ite ?_ ?_
          · exact State.accessDone_only (hG.of rfl) h11
          · exact h11

theorem State.creditTick_only {s : State} (hG : Sub 0x8000000000000000000000000000000400000000000000000 G) (hS : Only G s0 s) :
    Only G s0 (State.creditTick s) := by
  unfold State.creditTick
  extract_lets +onlyGivenNames -underBinder -merge ports_1
  extract_lets +onlyGivenNames -underBinder -merge s_2
  have h3 : Only G s0 s_2 := by
    subst s_2
    refine State.each_only ?_ hS
    intro y4 u5 hu6
    try beta_reduce
    exact State.count_only (hG.of rfl) hu6
  try clear_value s_2
  refine State.each_only ?_ h3
  intro y7 u8 hu9
  try beta_reduce
  exact State.tallyPort_only (hG.of rfl) hu9

theorem idleTick_only {s : State} (hG : Sub 0x60000000000000008000000000000000000000000000000400000000002000000 G) (hS : Only G s0 s) :
    Only G s0 (idleTick s) := by
  unfold idleTick
  extract_lets +onlyGivenNames -underBinder -merge s_1
  have h2 : Only G s0 s_1 := by
    subst s_1
    exact Only.set_clk (hG.of rfl) hS
  try clear_value s_1
  refine Only.ite ?_ ?_
  · exact h2
  · refine State.creditTick_only (hG.of rfl) ?_
    refine State.stallTick_only (hG.of rfl) ?_
    refine State.tallyChip_only (hG.of rfl) ?_
    exact State.timeCycle_only (hG.of rfl) h2

end Sys2Proof.Machine
end

