-- ==== Sys2Proof/Laws/FrameHearth.lean ====
section
/-! SUPPORT. The frame of each function of Machine/Hearth.lean: the parts of the state that it may change, as a set of bits (StatePart.place), with the canonical form kept. -/

namespace Sys2Proof.Machine

variable {G : Nat} {s0 : State}

theorem State.setDirBlocks_only {s : State} {k : Nat} {l : List DirBlock} (hG : Sub 0x10000000000000000000000000000000000000000000000000000000000000000000000000000000 G) (hS : Only G s0 s) :
    Only G s0 (State.setDirBlocks s k l) := by
  unfold State.setDirBlocks
  exact Only.set_dirCache (hG.of rfl) hS

theorem State.writeBack_only {s : State} {b : DirBlock} (hG : Sub 0x200000000000000008000000000000000000000000000000000000000000000000 G) (hS : Only G s0 s) :
    Only G s0 (State.writeBack s b) := by
  unfold State.writeBack
  refine Only.ite ?_ ?_
  · refine State.hbmCount_only (hG.of rfl) ?_
    refine Only.fold ?_ hS
    intro u1 y3 hu2
    try beta_reduce
    exact State.setHbm64_only (hG.of rfl) hu2
  · exact hS

theorem State.dirFill_only {s : State} {n : Nat} {addr : Nat} (hG : Sub 0x10000000000000200000000000000008000000000000000000000000100000000000000000000000 G) (hS : Only G s0 s) :
    Only G s0 (State.dirFill s n addr) := by
  unfold State.dirFill
  extract_lets +onlyGivenNames -underBinder -merge k_1
  extract_lets +onlyGivenNames -underBinder -merge l_2
  extract_lets +onlyGivenNames -underBinder -merge a_3
  extract_lets +onlyGivenNames -underBinder -merge new_4
  extract_lets +onlyGivenNames -underBinder -merge s_5
  have h6 : Only G s0 s_5 := by
    subst s_5
    refine State.hbmCount_only (hG.of rfl) ?_
    refine State.fixed_only (hG.of rfl) ?_
    refine State.tally_only (hG.of rfl) ?_
    exact State.count_only (hG.of rfl) hS
  try clear_value s_5
  refine Only.ite ?_ ?_
  · exact hS
  · refine Only.ite ?_ ?_
    · exact State.setDirBlocks_only (hG.of rfl) h6
    · split
      · refine State.setDirBlocks_only (hG.of rfl) ?_
        exact State.writeBack_only (hG.of rfl) h6
      · exact State.setDirBlocks_only (hG.of rfl) h6

theorem State.dirTouch_only {s : State} {n : Nat} {addr : Nat} (hG : Sub 0x10000000000000200000000000000008000000000000000000000000100000000000000000000000 G) (hS : Only G s0 s) :
    Only G s0 (State.dirTouch s n addr) := by
  unfold State.dirTouch
  extract_lets +onlyGivenNames -underBinder -merge k_1
  split
  · refine State.setDirBlocks_only (hG.of rfl) ?_
    refine State.fixed_only (hG.of rfl) ?_
    refine State.tally_only (hG.of rfl) ?_
    exact State.count_only (hG.of rfl) hS
  · exact State.dirFill_only (hG.of rfl) hS

theorem State.setDir_only {s : State} {n : Nat} {addr : Nat} {w : Word} (hG : Sub 0x10000000000000200000000000000000000000000000000000000000000000000000000000000000 G) (hS : Only G s0 s) :
    Only G s0 (State.setDir s n addr w) := by
  unfold State.setDir
  extract_lets +onlyGivenNames -underBinder -merge k_1
  refine Only.ite ?_ ?_
  · exact State.setDirBlocks_only (hG.of rfl) hS
  · exact State.setHbm64_only (hG.of rfl) hS

theorem State.setDirThrough_only {s : State} {n : Nat} {addr : Nat} {w : Word} (hG : Sub 0x10000000000000200000000000000008000000000000000000000000000000000000000000000000 G) (hS : Only G s0 s) :
    Only G s0 (State.setDirThrough s n addr w) := by
  unfold State.setDirThrough
  refine State.hbmCount_only (hG.of rfl) ?_
  refine State.setHbm64_only (hG.of rfl) ?_
  exact State.setDir_only (hG.of rfl) hS

theorem State.updDir_only {s : State} {n : Nat} {addr : Nat} {new : DirEntry} (hG : Sub 0x10000000000000200000000000000008000000000000000000000000000000000000000000000000 G) (hS : Only G s0 s) :
    Only G s0 (State.updDir s n addr new) := by
  unfold State.updDir
  refine Only.ite ?_ ?_
  · exact State.setDirThrough_only (hG.of rfl) hS
  · exact State.setDir_only (hG.of rfl) hS

theorem State.setTxn_only {s : State} {line : Nat} {x : Txn} (hG : Sub 0x20000000000000000000000000000000000000000000000000000000000000000000000000000000 G) (hS : Only G s0 s) :
    Only G s0 (State.setTxn s line x) := by
  unfold State.setTxn
  exact Only.set_txns (hG.of rfl) hS

theorem State.showTrackers_only {s : State} {n : Nat} (hG : Sub 0x80000000000000000000000 G) (hS : Only G s0 s) :
    Only G s0 (State.showTrackers s n) := by
  unfold State.showTrackers
  exact State.set_only (hG.of rfl) hS

theorem State.protoErr_only {s : State} {n : Nat} {F : Fld} {line : Nat} (hG : Sub 0x1b014020000005f006a1000000000100000080000403e0050000000010084000000000001200805518441 G) (hF : Sub F.mask G) (hS : Only G s0 s) :
    Only G s0 (State.protoErr s n F line) := by
  unfold State.protoErr
  refine State.cause_only (hG.of rfl) ?_
  exact State.count_only hF hS

theorem State.poisonLine_only {s : State} {n : Nat} {line : Nat} {cause : Nat} {agent : Nat} (hG : Sub 0x1b014020000005f006a1000000000100000080000403e0050000000010085400000000001200805518441 G) (hS : Only G s0 s) :
    Only G s0 (State.poisonLine s n line cause agent) := by
  unfold State.poisonLine
  extract_lets +onlyGivenNames -underBinder -merge s_1
  have h2 : Only G s0 s_1 := by
    subst s_1
    exact State.tally_only (hG.of rfl) hS
  try clear_value s_1
  extract_lets +onlyGivenNames -underBinder -merge s_3
  have h4 : Only G s0 s_3 := by
    subst s_3
    split
    · exact State.count_only (hG.of rfl) h2
    · exact State.count_only (hG.of rfl) h2
    · exact h2
  try clear_value s_3
  extract_lets +onlyGivenNames -underBinder -merge s_5
  have h6 : Only G s0 s_5 := by
    subst s_5
    exact State.set_only (hG.of rfl) h4
  try clear_value s_5
  extract_lets +onlyGivenNames -underBinder -merge s_7
  have h8 : Only G s0 s_7 := by
    subst s_7
    exact State.set_only (hG.of rfl) h6
  try clear_value s_7
  extract_lets +onlyGivenNames -underBinder -merge s_9
  have h10 : Only G s0 s_9 := by
    subst s_9
    exact State.set_only (hG.of rfl) h8
  try clear_value s_9
  extract_lets +onlyGivenNames -underBinder -merge s_11
  have h12 : Only G s0 s_11 := by
    subst s_11
    refine Only.ite ?_ ?_
    · exact h4
    · exact State.set_only (hG.of rfl) h10
  try clear_value s_11
  refine Only.ite ?_ ?_
  · exact h12
  · exact State.cause_only (hG.of rfl) h12

theorem State.sendHome_only {s : State} {t : Txn} {m : HomeMsg} (hG : Sub 0x100000000000000000000000000000000000000000000000000000000000000000 G) (hS : Only G s0 s) :
    Only G s0 (State.sendHome s t m) := by
  unfold State.sendHome
  exact State.emit_only (hG.of rfl) hS

theorem State.keepWrite_only {s : State} {t : Txn} {d : List Byte} (hG : Sub 0x40000000000000000000000000000000000000000000000000000000000000000000000000000000 G) (hS : Only G s0 s) :
    Only G s0 (State.keepWrite s t d) := by
  unfold State.keepWrite
  exact Only.set_wbuf (hG.of rfl) hS

theorem State.expander_only {s : State} {t : Txn} {data : Option (List Byte)} (hG : Sub 0xe040000000000000100000000000000000000000000000000000000000000000000000000000000000 G) (hS : Only G s0 s) :
    Only G s0 (State.expander s t data).1 := by
  unfold State.expander
  extract_lets +onlyGivenNames -underBinder -merge line_1
  extract_lets +onlyGivenNames -underBinder -merge x_2
  split
  · exact hS
  · split
    · change Only G s0 _
      refine State.emit_only (hG.of rfl) ?_
      exact State.access_only (hG.of rfl) hS
    · extract_lets +onlyGivenNames -underBinder -merge s_3
      have h4 : Only G s0 s_3 := by
        subst s_3
        exact State.keepWrite_only (hG.of rfl) hS
      try clear_value s_3
      extract_lets +onlyGivenNames -underBinder -merge send_5
      have h6 : ∀ u7, Only G s0 u7 → Only G s0 (send_5 u7).1 := by
        subst send_5
        intro u7 hu8
        try beta_reduce
        change Only G s0 _
        refine State.emit_only (hG.of rfl) ?_
        exact State.access_only (hG.of rfl) hu8
      try clear_value send_5
      split
      · extract_lets +onlyGivenNames -underBinder -merge part_9
        split
        · exact State.migHold_only (hG.of rfl) h4
        · split
          · refine h6 _ ?_
            exact State.migMark_only (hG.of rfl) h4
          · exact h6 _ h4
      · exact h6 _ h4

theorem State.advance_only {s : State} {line : Nat} (hG : Sub 0xe060000000000000100000000000000000000000000000000000000000000000000000000000000000 G) (hS : Only G s0 s) :
    Only G s0 (State.advance s line) := by
  unfold State.advance
  split
  · exact hS
  · refine Only.ite ?_ ?_
    · split
      · split
        · rename_i z2 z4 e1
          have h3 : Only G s0 z2 := by
            have e0 := congrArg Prod.fst e1
            change _ = z2 at e0
            rw [← e0]
            exact State.expander_only (hG.of rfl) hS
          exact State.setTxn_only (hG.of rfl) h3
      · split
        · exact State.setTxn_only (hG.of rfl) hS
        · split
          · rename_i z6 z8 e5
            have h7 : Only G s0 z6 := by
              have e0 := congrArg Prod.fst e5
              change _ = z6 at e0
              rw [← e0]
              exact State.expander_only (hG.of rfl) hS
            exact State.setTxn_only (hG.of rfl) h7
    · exact hS

theorem State.answerSnoop_only {s : State} {line : Nat} {agent : Nat} {r : BiRsp} (hG : Sub 0xe060000000000000100000000000000000000000000000000000000000000000000000000000000000 G) (hS : Only G s0 s) :
    Only G s0 (State.answerSnoop s line agent r) := by
  unfold State.answerSnoop
  split
  · exact hS
  · refine State.advance_only (hG.of rfl) ?_
    exact State.setTxn_only (hG.of rfl) hS

theorem State.failTxn_only {s : State} {line : Nat} {cause : Nat} {agent : Nat} (hG : Sub 0x20000000000000000000000000000000000000000000000000000000000000000000000000000000 G) (hS : Only G s0 s) :
    Only G s0 (State.failTxn s line cause agent) := by
  unfold State.failTxn
  split
  · exact hS
  · refine Only.ite ?_ ?_
    · exact State.setTxn_only (hG.of rfl) hS
    · exact hS

theorem State.snpDead_only {s : State} {line : Nat} {agent : Nat} (hG : Sub 0xe060000000000000100000000000000000000000000000000000000000000000000000000000000000 G) (hS : Only G s0 s) :
    Only G s0 (State.snpDead s line agent) := by
  unfold State.snpDead
  split
  · exact hS
  · extract_lets +onlyGivenNames -underBinder -merge e_1
    extract_lets +onlyGivenNames -underBinder -merge s_2
    have h3 : Only G s0 s_2 := by
      subst s_2
      refine Only.ite ?_ ?_
      · exact State.failTxn_only (hG.of rfl) hS
      · exact hS
    try clear_value s_2
    exact State.answerSnoop_only (hG.of rfl) h3

theorem State.sendSnoop_only {s : State} {t : Txn} {agent : Nat} {op : SnpOp} (hG : Sub 0x20000000000000100000000000000008000000000000000000000000200000000000000000000000 G) (hS : Only G s0 s) :
    Only G s0 (State.sendSnoop s t agent op) := by
  unfold State.sendSnoop
  extract_lets +onlyGivenNames -underBinder -merge line_1
  extract_lets +onlyGivenNames -underBinder -merge s_2
  have h3 : Only G s0 s_2 := by
    subst s_2
    exact State.setTxn_only (hG.of rfl) hS
  try clear_value s_2
  refine State.emit_only (hG.of rfl) ?_
  refine State.fixed_only (hG.of rfl) ?_
  refine State.tally_only (hG.of rfl) ?_
  exact State.count_only (hG.of rfl) h3

theorem State.planSnoops_only {s : State} {line : Nat} {agents : List Nat} {op : SnpOp} (hG : Sub 0xe060000000000000100000000000000008000000000000000000000000800000000000000000000000 G) (hS : Only G s0 s) :
    Only G s0 (State.planSnoops s line agents op) := by
  unfold State.planSnoops
  refine Only.fold ?_ hS
  intro u1 y3 hu2
  try beta_reduce
  split
  · exact hu2
  · extract_lets +onlyGivenNames -underBinder -merge held_5
    extract_lets +onlyGivenNames -underBinder -merge s_6
    have h7 : Only G s0 s_6 := by
      subst s_6
      exact State.setTxn_only (hG.of rfl) hu2
    try clear_value s_6
    refine Only.ite ?_ ?_
    · exact State.answerSnoop_only (hG.of rfl) h7
    · refine Only.ite ?_ ?_
      · exact State.snpDead_only (hG.of rfl) h7
      · refine Only.ite ?_ ?_
        · refine State.tally_only (hG.of rfl) ?_
          exact State.count_only (hG.of rfl) h7
        · exact h7

theorem State.homeSlag_only {s : State} {t : Txn} (hG : Sub 0x100000000000000008000000000000000000000000000000000000400000000000 G) (hS : Only G s0 s) :
    Only G s0 (State.homeSlag s t) := by
  unfold State.homeSlag
  extract_lets +onlyGivenNames -underBinder -merge r_1
  extract_lets +onlyGivenNames -underBinder -merge s_2
  have h3 : Only G s0 s_2 := by
    subst s_2
    refine Only.fold ?_ hS
    intro u4 y6 hu5
    try beta_reduce
    exact State.sendHome_only (hG.of rfl) hu5
  try clear_value s_2
  extract_lets +onlyGivenNames -underBinder -merge s_8
  have h9 : Only G s0 s_8 := by
    subst s_8
    refine Only.ite ?_ ?_
    · exact State.count_only (hG.of rfl) h3
    · exact State.count_only (hG.of rfl) h3
  try clear_value s_8
  exact State.fixed_only (hG.of rfl) h9

theorem State.freeLine_only {s : State} {t : Txn} (hG : Sub 0xa0000000000000000000000000000000000000000000000000000000080000000000000000000000 G) (hS : Only G s0 s) :
    Only G s0 (State.freeLine s t) := by
  unfold State.freeLine
  extract_lets +onlyGivenNames -underBinder -merge n_1
  extract_lets +onlyGivenNames -underBinder -merge rest_2
  extract_lets +onlyGivenNames -underBinder -merge s_3
  have h4 : Only G s0 s_3 := by
    subst s_3
    split
    · exact Only.set_txns (hG.of rfl) hS
    · split
      · exact Only.set_txns_trkWait (hG.of rfl) hS
      · exact Only.set_txns (hG.of rfl) hS
  try clear_value s_3
  exact State.showTrackers_only (hG.of rfl) h4

theorem State.fencedTxn_only {s : State} {t : Txn} (hG : Sub 0xa0000000000000100000000000000008000000000000000000000000080000000000400000000000 G) (hS : Only G s0 s) :
    Only G s0 (State.fencedTxn s t) := by
  unfold State.fencedTxn
  refine State.freeLine_only (hG.of rfl) ?_
  exact State.homeSlag_only (hG.of rfl) hS

theorem State.startTxn_only {s : State} {line : Nat} (hG : Sub 0x1b0f4f20000005f006a7000000000100000080000403e0050000000010084980000000001600805518441 G) (hS : Only G s0 s) :
    Only G s0 (State.startTxn s line) := by
  unfold State.startTxn
  split
  · extract_lets +onlyGivenNames -underBinder -merge n_1
    extract_lets +onlyGivenNames -underBinder -merge bad_2
    extract_lets +onlyGivenNames -underBinder -merge s_3
    have h4 : Only G s0 s_3 := by
      subst s_3
      exact State.dirTouch_only (hG.of rfl) hS
    try clear_value s_3
    extract_lets +onlyGivenNames -underBinder -merge w_5
    extract_lets +onlyGivenNames -underBinder -merge e_6
    extract_lets +onlyGivenNames -underBinder -merge s_7
    have h8 : Only G s0 s_7 := by
      subst s_7
      refine Only.ite ?_ ?_
      · refine State.cause_only (hG.of rfl) ?_
        exact Only.set_hbmEcc (hG.of rfl) h4
      · exact h4
    try clear_value s_7
    extract_lets +onlyGivenNames -underBinder -merge s_9
    have h10 : Only G s0 s_9 := by
      subst s_9
      exact Only.set_hbmEcc (hG.of rfl) h8
    try clear_value s_9
    extract_lets +onlyGivenNames -underBinder -merge s_11
    have h12 : Only G s0 s_11 := by
      subst s_11
      refine State.cause_only (hG.of rfl) ?_
      exact State.count_only (hG.of rfl) h10
    try clear_value s_11
    extract_lets +onlyGivenNames -underBinder -merge s_13
    have h14 : Only G s0 s_13 := by
      subst s_13
      exact State.setTxn_only (hG.of rfl) h12
    try clear_value s_13
    extract_lets +onlyGivenNames -underBinder -merge all_15
    refine Only.ite ?_ ?_
    · exact hS
    · refine Only.ite ?_ ?_
      · exact State.fencedTxn_only (hG.of rfl) hS
      · refine Only.ite ?_ ?_
        · refine State.advance_only (hG.of rfl) ?_
          exact State.planSnoops_only (hG.of rfl) h14
        · split
          · extract_lets +onlyGivenNames -underBinder -merge t_16
            split
            · rename_i z18 z24 e17
              have h19 : Only G s0 z18 := by
                have e0 := congrArg Prod.fst e17
                change _ = z18 at e0
                rw [← e0]
                split
                · split
                  · rename_i z21 z23 e20
                    have h22 : Only G s0 z21 := by
                      have e0 := congrArg Prod.fst e20
                      change _ = z21 at e0
                      rw [← e0]
                      exact State.expander_only (hG.of rfl) h8
                    exact h22
                · exact h8
              refine State.advance_only (hG.of rfl) ?_
              refine State.planSnoops_only (hG.of rfl) ?_
              exact State.setTxn_only (hG.of rfl) h19
  · exact hS

theorem State.completeTxn_only {s : State} {line : Nat} (hG : Sub 0x1b015b20000005f006a3000000000100000080000403e0050000000010085c80000000001200805518441 G) (hS : Only G s0 s) :
    Only G s0 (State.completeTxn s line) := by
  unfold State.completeTxn
  split
  · exact hS
  · extract_lets +onlyGivenNames -underBinder -merge n_1
    refine Only.ite ?_ ?_
    · exact hS
    · split
      · extract_lets +onlyGivenNames -underBinder -merge cause_2
        extract_lets +onlyGivenNames -underBinder -merge s_3
        have h4 : Only G s0 s_3 := by
          subst s_3
          split
          · exact State.updDir_only (hG.of rfl) hS
          · exact hS
        try clear_value s_3
        extract_lets +onlyGivenNames -underBinder -merge s_5
        have h6 : Only G s0 s_5 := by
          subst s_5
          refine Only.ite ?_ ?_
          · exact State.count_only (hG.of rfl) h4
          · exact h4
        try clear_value s_5
        extract_lets +onlyGivenNames -underBinder -merge s_7
        have h8 : Only G s0 s_7 := by
          subst s_7
          refine Only.fold ?_ h6
          intro u9 y11 hu10
          try beta_reduce
          exact State.sendHome_only (hG.of rfl) hu10
        try clear_value s_7
        extract_lets +onlyGivenNames -underBinder -merge s_13
        have h14 : Only G s0 s_13 := by
          subst s_13
          refine Only.ite ?_ ?_
          · exact State.poisonLine_only (hG.of rfl) h8
          · exact h8
        try clear_value s_13
        extract_lets +onlyGivenNames -underBinder -merge s_15
        have h16 : Only G s0 s_15 := by
          subst s_15
          split
          · refine Only.ite ?_ ?_
            · exact Only.set_homeHolds (hG.of rfl) h14
            · exact h14
          · exact h14
        try clear_value s_15
        exact State.freeLine_only (hG.of rfl) h16

theorem transactionStart_only {line : Nat} {s : State} (hG : Sub 0x1b0f4f20000005f006a7000000000100000080000403e0050000000010084980000000001600805518441 G) (hS : Only G s0 s) :
    Only G s0 (transactionStart line s) := by
  unfold transactionStart
  exact State.startTxn_only (hG.of rfl) hS

theorem directoryCacheMiss_only {line : Nat} {s : State} (hG : Sub 0x10000000000000200000000000000008000000000000000000000000100000000000000000000000 G) (hS : Only G s0 s) :
    Only G s0 (directoryCacheMiss line s) := by
  unfold directoryCacheMiss
  split
  · exact State.dirFill_only (hG.of rfl) hS
  · exact hS

theorem holdExpiry_only {line : Nat} {agent : Nat} {s : State} (hG : Sub 0x120000000000000100000000000000008000000000000000000000000200000000000000000000000 G) (hS : Only G s0 s) :
    Only G s0 (holdExpiry line agent s) := by
  unfold holdExpiry
  extract_lets +onlyGivenNames -underBinder -merge s_1
  have h2 : Only G s0 s_1 := by
    subst s_1
    exact Only.set_homeHolds (hG.of rfl) hS
  try clear_value s_1
  split
  · exact h2
  · refine Only.ite ?_ ?_
    · exact h2
    · split
      · exact State.sendSnoop_only (hG.of rfl) h2
      · exact h2

theorem bisnpSend_only {line : Nat} {agent : Nat} {s : State} (hG : Sub 0x20000000000000100000000000000008000000000000000000000000200000000000000000000000 G) (hS : Only G s0 s) :
    Only G s0 (bisnpSend line agent s) := by
  unfold bisnpSend
  split
  · exact hS
  · refine Only.ite ?_ ?_
    · exact hS
    · split
      · exact State.sendSnoop_only (hG.of rfl) hS
      · exact hS

theorem birspReceived_only {line : Nat} {agent : Nat} {rsp : BiRsp} {s : State} (hG : Sub 0x1b0f4620000005f006a1000000000100000080000403e0050000000010084e00000000001200805518441 G) (hS : Only G s0 s) :
    Only G s0 (birspReceived line agent rsp s) := by
  unfold birspReceived
  extract_lets +onlyGivenNames -underBinder -merge n_1
  split
  · exact State.protoErr_only (hG.of rfl) (hG.of rfl) hS
  · split
    · exact State.protoErr_only (hG.of rfl) (hG.of rfl) hS
    · extract_lets +onlyGivenNames -underBinder -merge bad_2
      extract_lets +onlyGivenNames -underBinder -merge s_3
      have h4 : Only G s0 s_3 := by
        subst s_3
        refine Only.ite ?_ ?_
        · exact State.protoErr_only (hG.of rfl) (hG.of rfl) hS
        · exact hS
      try clear_value s_3
      extract_lets +onlyGivenNames -underBinder -merge s_5
      have h6 : Only G s0 s_5 := by
        subst s_5
        refine Only.ite ?_ ?_
        · refine State.tally_only (hG.of rfl) ?_
          exact State.count_only (hG.of rfl) h4
        · exact h4
      try clear_value s_5
      exact State.answerSnoop_only (hG.of rfl) h6

theorem snpDeadReceived_only {line : Nat} {agent : Nat} {s : State} (hG : Sub 0xe060000000000000100000000000000000000000000000000000000000000000000000000000000000 G) (hS : Only G s0 s) :
    Only G s0 (snpDeadReceived line agent s) := by
  unfold snpDeadReceived
  split
  · exact hS
  · refine Only.ite ?_ ?_
    · exact State.snpDead_only (hG.of rfl) hS
    · exact hS

theorem bisnpTimeout_only {line : Nat} {agent : Nat} {s : State} (hG : Sub 0xe060000000000000100000000000000000000000000000000000000080000000000000000000000000 G) (hS : Only G s0 s) :
    Only G s0 (bisnpTimeout line agent s) := by
  unfold bisnpTimeout
  split
  · exact hS
  · extract_lets +onlyGivenNames -underBinder -merge out_1
    extract_lets +onlyGivenNames -underBinder -merge s_2
    have h3 : Only G s0 s_2 := by
      subst s_2
      refine State.each_only ?_ ?_
      · intro y4 u5 hu6
        try beta_reduce
        exact State.answerSnoop_only (hG.of rfl) hu6
      · exact State.failTxn_only (hG.of rfl) hS
    try clear_value s_2
    refine Only.ite ?_ ?_
    · exact hS
    · exact State.count_only (hG.of rfl) h3

theorem writebackReceived_only {q : HomeReq} {s : State} (hG : Sub 0x1b0f4720000005f006a3000000000100000080000403e0050000000010084500000000001200805518441 G) (hS : Only G s0 s) :
    Only G s0 (writebackReceived q s) := by
  unfold writebackReceived
  extract_lets +onlyGivenNames -underBinder -merge line_1
  extract_lets +onlyGivenNames -underBinder -merge n_2
  extract_lets +onlyGivenNames -underBinder -merge own_3
  extract_lets +onlyGivenNames -underBinder -merge stray_4
  have h5 : ∀ u6, Only G s0 u6 → Only G s0 (stray_4 u6) := by
    subst stray_4
    intro u6 hu7
    try beta_reduce
    refine State.sendHome_only (hG.of rfl) ?_
    exact State.protoErr_only (hG.of rfl) (hG.of rfl) hu7
  try clear_value stray_4
  split
  · refine Only.ite ?_ ?_
    · split
      · rename_i z9 z11 e8
        have h10 : Only G s0 z9 := by
          have e0 := congrArg Prod.fst e8
          change _ = z9 at e0
          rw [← e0]
          exact State.expander_only (hG.of rfl) hS
        extract_lets +onlyGivenNames -underBinder -merge s_12
        have h13 : Only G s0 s_12 := by
          subst s_12
          exact State.setTxn_only (hG.of rfl) h10
        try clear_value s_12
        exact State.sendHome_only (hG.of rfl) h13
    · exact h5 _ hS
  · split
    · exact h5 _ hS
    · extract_lets +onlyGivenNames -underBinder -merge s_14
      have h15 : Only G s0 s_14 := by
        subst s_14
        exact State.dirTouch_only (hG.of rfl) hS
      try clear_value s_14
      extract_lets +onlyGivenNames -underBinder -merge e_16
      refine Only.ite ?_ ?_
      · split
        · rename_i z18 z20 e17
          have h19 : Only G s0 z18 := by
            have e0 := congrArg Prod.fst e17
            change _ = z18 at e0
            rw [← e0]
            exact State.expander_only (hG.of rfl) h15
          extract_lets +onlyGivenNames -underBinder -merge e'_21
          refine State.sendHome_only (hG.of rfl) ?_
          exact State.setDir_only (hG.of rfl) h19
      · exact h5 _ h15
  · exact h5 _ hS

theorem hearthRequestArrival_only {q : HomeReq} {s : State} (hG : Sub 0x1b0f4f20000005f006a3000000000100000080000403e0050000000010084580000000001600805518441 G) (hS : Only G s0 s) :
    Only G s0 (hearthRequestArrival q s) := by
  unfold hearthRequestArrival
  extract_lets +onlyGivenNames -underBinder -merge line_1
  extract_lets +onlyGivenNames -underBinder -merge n_2
  extract_lets +onlyGivenNames -underBinder -merge s_3
  have h4 : Only G s0 s_3 := by
    subst s_3
    exact State.tally_only (hG.of rfl) hS
  try clear_value s_3
  refine Only.ite ?_ ?_
  · exact State.homeSlag_only (hG.of rfl) h4
  · refine Only.ite ?_ ?_
    · exact writebackReceived_only (hG.of rfl) h4
    · refine Only.ite ?_ ?_
      · exact State.emit_only (hG.of rfl) h4
      · split
        · refine State.tally_only (hG.of rfl) ?_
          exact State.setTxn_only (hG.of rfl) h4
        · refine Only.ite ?_ ?_
          · exact Only.set_trkWait (hG.of rfl) h4
          · refine State.showTrackers_only (hG.of rfl) ?_
            exact Only.set_txns (hG.of rfl) h4

theorem biconflict_only {line : Nat} {agent : Nat} {tag : Nat} {s : State} (hG : Sub 0x100000000000000000000000000000000000000000400000000000000000000000 G) (hS : Only G s0 s) :
    Only G s0 (biconflict line agent tag s) := by
  unfold biconflict
  extract_lets +onlyGivenNames -underBinder -merge n_1
  refine State.emit_only (hG.of rfl) ?_
  exact State.count_only (hG.of rfl) hS

theorem expanderResponse_only {line : Nat} {data : List Byte} {poison : Bool} {slag : Nat} {s : State} (hG : Sub 0x4000000000200806000000030e008100000000000080000000000000000000000000000000000000000000000008000 G) (hS : Only G s0 s) :
    Only G s0 (expanderResponse line data poison slag s) := by
  unfold expanderResponse
  split
  · extract_lets +onlyGivenNames -underBinder -merge s_1
    have h2 : Only G s0 s_1 := by
      subst s_1
      refine State.accessDone_only (hG.of rfl) ?_
      exact Only.set_wbuf (hG.of rfl) hS
    try clear_value s_1
    refine Only.ite ?_ ?_
    · refine State.each_only ?_ h2
      intro y3 u4 hu5
      try beta_reduce
      exact State.releaseKept_only (hG.of rfl) hu5
    · exact h2
  · split
    · exact hS
    · extract_lets +onlyGivenNames -underBinder -merge s_6
      have h7 : Only G s0 s_6 := by
        subst s_6
        exact State.accessDone_only (hG.of rfl) hS
      try clear_value s_6
      refine Only.ite ?_ ?_
      · exact State.setTxn_only (hG.of rfl) h7
      · exact h7

theorem transactionComplete_only {line : Nat} {s : State} (hG : Sub 0x1b015b20000005f006a3000000000100000080000403e0050000000010085c80000000001200805518441 G) (hS : Only G s0 s) :
    Only G s0 (transactionComplete line s) := by
  unfold transactionComplete
  exact State.completeTxn_only (hG.of rfl) hS

theorem State.admitRefused_only {s : State} {vcs : Nat} (hG : Sub 0x10000008000000000010000000000004000000000000000000000000 G) (hS : Only G s0 s) :
    Only G s0 (State.admitRefused s vcs) := by
  unfold State.admitRefused
  refine State.notice_only (hG.of rfl) ?_
  exact State.count_only (hG.of rfl) hS

theorem State.admitAgent_only {s : State} {c : Nat} {feid : Nat} (hG : Sub 0x800000000000000000000000000000000000000000000000000000084000000000000000000020000 G) (hS : Only G s0 s) :
    Only G s0 (State.admitAgent s c feid) := by
  unfold State.admitAgent
  extract_lets +onlyGivenNames -underBinder -merge here_1
  extract_lets +onlyGivenNames -underBinder -merge s_2
  have h3 : Only G s0 s_2 := by
    subst s_2
    exact State.set_only (hG.of rfl) hS
  try clear_value s_2
  extract_lets +onlyGivenNames -underBinder -merge s_4
  have h5 : Only G s0 s_4 := by
    subst s_4
    exact State.set_only (hG.of rfl) h3
  try clear_value s_4
  extract_lets +onlyGivenNames -underBinder -merge s_6
  have h7 : Only G s0 s_6 := by
    subst s_6
    exact State.set_only (hG.of rfl) h5
  try clear_value s_6
  extract_lets +onlyGivenNames -underBinder -merge s_8
  have h9 : Only G s0 s_8 := by
    subst s_8
    exact State.set_only (hG.of rfl) h7
  try clear_value s_8
  extract_lets +onlyGivenNames -underBinder -merge s_10
  have h11 : Only G s0 s_10 := by
    subst s_10
    exact State.set_only (hG.of rfl) h9
  try clear_value s_10
  extract_lets +onlyGivenNames -underBinder -merge s_12
  have h13 : Only G s0 s_12 := by
    subst s_12
    exact State.set_only (hG.of rfl) h11
  try clear_value s_12
  split
  · refine State.set_only (hG.of rfl) ?_
    exact Only.set_caidWait (hG.of rfl) h13
  · exact h13

theorem State.requestCaid_only {s : State} {vcs : Nat} (hG : Sub 0x800800000000000000100000000010000008000000000010000000000084000000000000000000020000 G) (hS : Only G s0 s) :
    Only G s0 (State.requestCaid s vcs) := by
  unfold State.requestCaid
  refine Only.ite ?_ ?_
  · split
    · refine State.carryAgent_only (hG.of rfl) ?_
      exact State.admitAgent_only (hG.of rfl) hS
    · exact State.admitRefused_only (hG.of rfl) hS
  · refine Only.ite ?_ ?_
    · exact hS
    · refine State.emit_only (hG.of rfl) ?_
      exact Only.set_caidWait (hG.of rfl) hS

theorem State.failCommit_only {s : State} {vcs : Nat} (hG : Sub 0x1800000000000000000000000000000000000000000000000000000000000000000000000000000 G) (hS : Only G s0 s) :
    Only G s0 (State.failCommit s vcs) := by
  unfold State.failCommit
  extract_lets +onlyGivenNames -underBinder -merge mine_1
  extract_lets +onlyGivenNames -underBinder -merge s_2
  have h3 : Only G s0 s_2 := by
    subst s_2
    refine Only.fold ?_ hS
    intro u4 y6 hu5
    try beta_reduce
    extract_lets +onlyGivenNames -underBinder -merge __src_8
    exact State.setDecoder_only (hG.of rfl) hu5
  try clear_value s_2
  exact Only.set_commitWait (hG.of rfl) h3

theorem caidRequest_only {vcs : Nat} {s : State} (hG : Sub 0x800800000000000000100000000010000008000000000010000000000084000000000000000000020000 G) (hS : Only G s0 s) :
    Only G s0 (caidRequest vcs s) := by
  unfold caidRequest
  exact State.requestCaid_only (hG.of rfl) hS

theorem State.installCaid_only {s : State} {agent : Nat} {feid : Nat} (hG : Sub 0x801800000000000000000000000000000000000000000000000000084000000000000000000020000 G) (hS : Only G s0 s) :
    Only G s0 (State.installCaid s agent feid) := by
  unfold State.installCaid
  extract_lets +onlyGivenNames -underBinder -merge v_1
  extract_lets +onlyGivenNames -underBinder -merge s_2
  have h3 : Only G s0 s_2 := by
    subst s_2
    exact State.admitAgent_only (hG.of rfl) hS
  try clear_value s_2
  refine Only.ite ?_ ?_
  · exact hS
  · try clear_value v_1
    split
    · extract_lets +onlyGivenNames -underBinder -merge mine_4
      extract_lets +onlyGivenNames -underBinder -merge s_5
      have h6 : Only G s0 s_5 := by
        subst s_5
        refine Only.fold ?_ h3
        intro u7 y9 hu8
        try beta_reduce
        extract_lets +onlyGivenNames -underBinder -merge __src_11
        exact State.setDecoder_only (hG.of rfl) hu8
      try clear_value s_5
      exact Only.set_commitWait (hG.of rfl) h6
    · exact h3

theorem caidInstall_only {agent : Nat} {feid : Nat} {s : State} (hG : Sub 0x800801800000000000000000000000000000000000000000000000000084000000000000000000020000 G) (hS : Only G s0 s) :
    Only G s0 (caidInstall agent feid s) := by
  unfold caidInstall
  refine Only.ite ?_ ?_
  · refine Only.ite ?_ ?_
    · refine State.carryAgent_only (hG.of rfl) ?_
      exact State.installCaid_only (hG.of rfl) hS
    · exact hS
  · exact State.installCaid_only (hG.of rfl) hS

theorem caidRequestTimeout_only {vcs : Nat} {s : State} (hG : Sub 0x801800000000000000000000000000000000000000000000000000000000000000000000000000000 G) (hS : Only G s0 s) :
    Only G s0 (caidRequestTimeout vcs s) := by
  unfold caidRequestTimeout
  refine Only.ite ?_ ?_
  · refine State.failCommit_only (hG.of rfl) ?_
    exact Only.set_caidWait (hG.of rfl) hS
  · exact hS

theorem State.removeAgent_only {s : State} {c : Nat} (hG : Sub 0x80e460000000000000100000000000000000000000000000000000000084000000000000000000000000 G) (hS : Only G s0 s) :
    Only G s0 (State.removeAgent s c) := by
  unfold State.removeAgent
  extract_lets +onlyGivenNames -underBinder -merge s_1
  have h2 : Only G s0 s_1 := by
    subst s_1
    exact State.agentGone_only (hG.of rfl) hS
  try clear_value s_1
  extract_lets +onlyGivenNames -underBinder -merge lines_3
  refine Only.ite ?_ ?_
  · exact hS
  · refine State.each_only ?_ h2
    intro y4 u5 hu6
    try beta_reduce
    exact State.snpDead_only (hG.of rfl) hu6

theorem agentRemoval_only {agent : Nat} {s : State} (hG : Sub 0x80e460000000000000100000000000000000000000000000000000000084000000000000000000000000 G) (hS : Only G s0 s) :
    Only G s0 (agentRemoval agent s) := by
  unfold agentRemoval
  exact State.removeAgent_only (hG.of rfl) hS

theorem State.sweepEntry_only {s : State} {agent : Nat} {addr : Nat} (hG : Sub 0x1b014120000005f006a3000000000100000080000403e0050000000010085400000000001200805518441 G) (hS : Only G s0 s) :
    Only G s0 (State.sweepEntry s agent addr) := by
  unfold State.sweepEntry
  extract_lets +onlyGivenNames -underBinder -merge line_1
  extract_lets +onlyGivenNames -underBinder -merge n_2
  extract_lets +onlyGivenNames -underBinder -merge e_3
  refine Only.ite ?_ ?_
  · exact hS
  · refine Only.ite ?_ ?_
    · refine State.poisonLine_only (hG.of rfl) ?_
      exact State.setDirThrough_only (hG.of rfl) hS
    · refine Only.ite ?_ ?_
      · exact State.setDir_only (hG.of rfl) hS
      · exact hS

theorem State.freeAgent_only {s : State} {agent : Nat} (hG : Sub 0x400000000000000000000000000000000000000000000000000000084000000000000000000000000 G) (hS : Only G s0 s) :
    Only G s0 (State.freeAgent s agent) := by
  unfold State.freeAgent
  extract_lets +onlyGivenNames -underBinder -merge s_1
  have h2 : Only G s0 s_1 := by
    subst s_1
    exact State.setReg_only (hG.of rfl) hS
  try clear_value s_1
  extract_lets +onlyGivenNames -underBinder -merge s_3
  have h4 : Only G s0 s_3 := by
    subst s_3
    exact State.set_only (hG.of rfl) h2
  try clear_value s_3
  extract_lets +onlyGivenNames -underBinder -merge s_5
  have h6 : Only G s0 s_5 := by
    subst s_5
    exact State.set_only (hG.of rfl) h4
  try clear_value s_5
  exact Only.set_sweeping (hG.of rfl) h6

theorem directorySweepComplete_only {agent : Nat} {s : State} (hG : Sub 0x1b014120000005f006a3000000000100000080000403e0050000000010085400000000001200805518441 G) (hS : Only G s0 s) :
    Only G s0 (directorySweepComplete agent s) := by
  unfold directorySweepComplete
  extract_lets +onlyGivenNames -underBinder -merge s_1
  have h2 : Only G s0 s_1 := by
    subst s_1
    refine Only.fold ?_ hS
    intro u3 y5 hu4
    try beta_reduce
    exact State.sweepEntry_only (hG.of rfl) hu4
  try clear_value s_1
  extract_lets +onlyGivenNames -underBinder -merge s_7
  have h8 : Only G s0 s_7 := by
    subst s_7
    refine State.carryAgent_only (hG.of rfl) ?_
    exact State.freeAgent_only (hG.of rfl) h2
  try clear_value s_7
  refine Only.ite ?_ ?_
  · exact hS
  · refine Only.ite ?_ ?_
    · exact State.notice_only (hG.of rfl) h8
    · exact h8

theorem readDir_only {line : Nat} {s : State} (hG : Sub 0x30000000000000000000000000 G) (hS : Only G s0 s) :
    Only G s0 (readDir line s) := by
  unfold readDir
  extract_lets +onlyGivenNames -underBinder -merge line_1
  extract_lets +onlyGivenNames -underBinder -merge n_2
  extract_lets +onlyGivenNames -underBinder -merge s_3
  have h4 : Only G s0 s_3 := by
    subst s_3
    exact State.resultStart_only (hG.of rfl) hS
  try clear_value s_3
  extract_lets +onlyGivenNames -underBinder -merge s_5
  have h6 : Only G s0 s_5 := by
    subst s_5
    exact State.set_only (hG.of rfl) h4
  try clear_value s_5
  extract_lets +onlyGivenNames -underBinder -merge s_7
  have h8 : Only G s0 s_7 := by
    subst s_7
    split
    · refine State.set_only (hG.of rfl) ?_
      exact State.set_only (hG.of rfl) h6
    · extract_lets +onlyGivenNames -underBinder -merge w_9
      extract_lets +onlyGivenNames -underBinder -merge w_10
      refine State.setReg_only (hG.of rfl) ?_
      exact State.set_only (hG.of rfl) h6
  try clear_value s_7
  exact State.resultDone_only (hG.of rfl) (hG.of rfl) h8

theorem hrtCfgWrite_only {value : Word} {s : State} (hG : Sub 0x2000000000000000000000000000000000010000008000000000010000000000002000000000000000000000008 G) (hS : Only G s0 s) :
    Only G s0 (hrtCfgWrite value s) := by
  unfold hrtCfgWrite
  extract_lets +onlyGivenNames -underBinder -merge hold_1
  extract_lets +onlyGivenNames -underBinder -merge tmo_2
  refine Only.ite ?_ ?_
  · refine State.set_only (hG.of rfl) ?_
    exact State.set_only (hG.of rfl) hS
  · exact State.refuseWrite_only (hG.of rfl) hS

theorem poisonLogClear_only {n : Nat} {s : State} (hG : Sub 0x1000000000000000000000000 G) (hS : Only G s0 s) :
    Only G s0 (poisonLogClear n s) := by
  unfold poisonLogClear
  exact State.set_only (hG.of rfl) hS

end Sys2Proof.Machine
end

