-- ==== Sys2Proof/Laws/FrameEngines.lean ====
section
/-! SUPPORT. The frame of each function of Machine/Engines.lean: the parts of the state that it may change, as a set of bits (StatePart.place), with the canonical form kept. -/

namespace Sys2Proof.Machine

variable {G : Nat} {s0 : State}

theorem State.setEngine_only {s : State} {e : Nat} {x : Engine} (hG : Sub 0x100000000000000000000000000000000000000000000000000000000000000000000000000000000000 G) (hS : Only G s0 s) :
    Only G s0 (State.setEngine s e x) := by
  unfold State.setEngine
  exact Only.set_engines (hG.of rfl) hS

theorem State.setCluster_only {s : State} {c : Nat} {x : Cluster} (hG : Sub 0x200000000000000000000000000000000000000000000000000000000000000000000000000000000000 G) (hS : Only G s0 s) :
    Only G s0 (State.setCluster s c x) := by
  unfold State.setCluster
  exact Only.set_clusters (hG.of rfl) hS

theorem State.modEngine_only {s : State} {e : Nat} {f : Engine → Engine} (hG : Sub 0x100000000000000000000000000000000000000000000000000000000000000000000000000000000000 G) (hS : Only G s0 s) :
    Only G s0 (State.modEngine s e f) := by
  unfold State.modEngine
  exact State.setEngine_only (hG.of rfl) hS

theorem State.modCluster_only {s : State} {c : Nat} {f : Cluster → Cluster} (hG : Sub 0x200000000000000000000000000000000000000000000000000000000000000000000000000000000000 G) (hS : Only G s0 s) :
    Only G s0 (State.modCluster s c f) := by
  unfold State.modCluster
  exact State.setCluster_only (hG.of rfl) hS

theorem State.modRun_only {s : State} {e : Nat} {f : JobRun → JobRun} (hG : Sub 0x100000000000000000000000000000000000000000000000000000000000000000000000000000000000 G) (hS : Only G s0 s) :
    Only G s0 (State.modRun s e f) := by
  unfold State.modRun
  exact State.modEngine_only (hG.of rfl) hS

theorem State.showLoaded_only {s : State} {c : Nat} (hG : Sub 0x1000000000000000000000000000000 G) (hS : Only G s0 s) :
    Only G s0 (State.showLoaded s c) := by
  unfold State.showLoaded
  refine State.each_only ?_ hS
  intro y1 u2 hu3
  try beta_reduce
  extract_lets +onlyGivenNames -underBinder -merge i_4
  exact State.set_only (hG.of rfl) hu3

theorem State.addAcc_only {s : State} {c : Nat} {l : List FarAcc} (hG : Sub 0x200000000000000000000000000000000000000000000000000000000000000000000000000000000000 G) (hS : Only G s0 s) :
    Only G s0 (State.addAcc s c l) := by
  unfold State.addAcc
  exact State.modCluster_only (hG.of rfl) hS

theorem State.dropAcc_only {s : State} {c : Nat} {e : Nat} {tag : Nat} (hG : Sub 0x200000000000000000000000000000000000000000000000000000000000000000000000000000000000 G) (hS : Only G s0 s) :
    Only G s0 (State.dropAcc s c e tag) := by
  unfold State.dropAcc
  exact State.modCluster_only (hG.of rfl) hS

theorem State.forgetReqs_only {s : State} {gone : MemReq → Bool} (hG : Sub 0xc000000004000000000000000000000000000000000000000000000000000000000000000000000 G) (hS : Only G s0 s) :
    Only G s0 (State.forgetReqs s gone) := by
  unfold State.forgetReqs
  exact Only.set_decodeQ_resolved_denials (hG.of rfl) hS

theorem State.engineOver_only {s : State} {e : Nat} {tag : Nat → Bool} (hG : Sub 0x8000000000000000000000000000000000000000000000000000000000000000000000000000000000 G) (hS : Only G s0 s) :
    Only G s0 (State.engineOver s e tag) := by
  unfold State.engineOver
  exact Only.set_accesses (hG.of rfl) hS

theorem State.discardAcc_only {s : State} {e : Nat} {f : FarAcc → Bool} (hG : Sub 0x20800c000000004000000000000000000000000000000000000000000000000000000000000000000000 G) (hS : Only G s0 s) :
    Only G s0 (State.discardAcc s e f) := by
  unfold State.discardAcc
  extract_lets +onlyGivenNames -underBinder -merge gone_1
  extract_lets +onlyGivenNames -underBinder -merge s_2
  have h3 : Only G s0 s_2 := by
    subst s_2
    exact State.modCluster_only (hG.of rfl) hS
  try clear_value s_2
  refine State.engineOver_only (hG.of rfl) ?_
  exact State.forgetReqs_only (hG.of rfl) h3

theorem State.putRecord_only {s : State} {c : Nat} {w : List Word} (hG : Sub 0x200000000000000000000000000040000000000000000000000000c00000000000000000000000000000 G) (hS : Only G s0 s) :
    Only G s0 (State.putRecord s c w) := by
  unfold State.putRecord
  extract_lets +onlyGivenNames -underBinder -merge t_1
  extract_lets +onlyGivenNames -underBinder -merge at'_2
  extract_lets +onlyGivenNames -underBinder -merge s_3
  have h4 : Only G s0 s_3 := by
    subst s_3
    exact State.setReg_only (hG.of rfl) hS
  try clear_value s_3
  extract_lets +onlyGivenNames -underBinder -merge s_5
  have h6 : Only G s0 s_5 := by
    subst s_5
    exact State.setReg_only (hG.of rfl) h4
  try clear_value s_5
  extract_lets +onlyGivenNames -underBinder -merge s_7
  have h8 : Only G s0 s_7 := by
    subst s_7
    exact State.setReg_only (hG.of rfl) h6
  try clear_value s_7
  extract_lets +onlyGivenNames -underBinder -merge s_9
  have h10 : Only G s0 s_9 := by
    subst s_9
    exact State.setReg_only (hG.of rfl) h8
  try clear_value s_9
  extract_lets +onlyGivenNames -underBinder -merge s_11
  have h12 : Only G s0 s_11 := by
    subst s_11
    exact State.modCluster_only (hG.of rfl) h10
  try clear_value s_11
  extract_lets +onlyGivenNames -underBinder -merge s_13
  have h14 : Only G s0 s_13 := by
    subst s_13
    refine Only.ite ?_ ?_
    · exact State.set_only (hG.of rfl) h12
    · exact h12
  try clear_value s_13
  refine State.count_only (hG.of rfl) ?_
  exact State.set_only (hG.of rfl) h14

theorem State.flushRecords_only {s : State} {c : Nat} (hG : Sub 0x200000000000000000000000000040000000000000000000000000c00000000000000000000000000000 G) (hS : Only G s0 s) :
    Only G s0 (State.flushRecords s c) := by
  unfold State.flushRecords
  refine Only.fold ?_ hS
  intro u1 y3 hu2
  try beta_reduce
  refine Only.ite ?_ ?_
  · refine State.putRecord_only (hG.of rfl) ?_
    exact State.modCluster_only (hG.of rfl) hu2
  · exact hu2

theorem State.jobNotice_only {s : State} {c : Nat} {w : List Word} (hG : Sub 0x100000000000000000000000000002000000000000000000000000000000000000 G) (hS : Only G s0 s) :
    Only G s0 (State.jobNotice s c w) := by
  unfold State.jobNotice
  refine Only.ite ?_ ?_
  · exact State.emit_only (hG.of rfl) hS
  · exact State.count_only (hG.of rfl) hS

theorem State.record'_only {s : State} {c : Nat} {j : Job} {w : List Word} (hG : Sub 0x200000000000000000100000000040000000000000000002000000c00000000000000000000000000000 G) (hS : Only G s0 s) :
    Only G s0 (State.record' s c j w) := by
  unfold State.record'
  extract_lets +onlyGivenNames -underBinder -merge w_1
  extract_lets +onlyGivenNames -underBinder -merge s_2
  have h3 : Only G s0 s_2 := by
    subst s_2
    refine Only.ite ?_ ?_
    · exact State.putRecord_only (hG.of rfl) hS
    · exact State.modCluster_only (hG.of rfl) hS
  try clear_value s_2
  refine Only.ite ?_ ?_
  · exact State.jobNotice_only (hG.of rfl) h3
  · exact h3

theorem State.showQueue_only {s : State} {c : Nat} (hG : Sub 0x10000000000000000000000000000 G) (hS : Only G s0 s) :
    Only G s0 (State.showQueue s c) := by
  unfold State.showQueue
  exact State.set_only (hG.of rfl) hS

theorem State.jobGone_only {s : State} {j : Job} (hG : Sub 0x1000000000000000000000000000000000000000000000000000000000000000000000000000000000 G) (hS : Only G s0 s) :
    Only G s0 (State.jobGone s j) := by
  unfold State.jobGone
  refine Only.ite ?_ ?_
  · exact Only.set_migWait (hG.of rfl) hS
  · exact hS

theorem State.endQueued_only {s : State} {c : Nat} {j : Job} {status : Nat} (hG : Sub 0x201000000000000000100000000040000000000000000002000000c10000000000000000000000000000 G) (hS : Only G s0 s) :
    Only G s0 (State.endQueued s c j status) := by
  unfold State.endQueued
  extract_lets +onlyGivenNames -underBinder -merge s_1
  have h2 : Only G s0 s_1 := by
    subst s_1
    refine State.showQueue_only (hG.of rfl) ?_
    exact State.modCluster_only (hG.of rfl) hS
  try clear_value s_1
  extract_lets +onlyGivenNames -underBinder -merge s_3
  have h4 : Only G s0 s_3 := by
    subst s_3
    exact State.jobGone_only (hG.of rfl) h2
  try clear_value s_3
  split
  · exact State.record'_only (hG.of rfl) h4
  · exact h4

theorem State.finishJob_only {s : State} {e : Nat} {status : Nat} {r0 : Nat} {r1 : Nat} (hG : Sub 0x100000000000000000000000000000000000000000000000000000000000000000000000000000000000 G) (hS : Only G s0 s) :
    Only G s0 (State.finishJob s e status r0 r1) := by
  unfold State.finishJob
  exact State.modRun_only (hG.of rfl) hS

theorem State.failJob_only {s : State} {e : Nat} {status : Nat} (hG : Sub 0x100000000000000000000000000000000000000000000000000000000000000000000000000000000000 G) (hS : Only G s0 s) :
    Only G s0 (State.failJob s e status) := by
  unfold State.failJob
  exact State.modRun_only (hG.of rfl) hS

theorem State.queueJob_only {s : State} {c : Nat} {desc : List Word} {origin : Nat} (hG : Sub 0x201000000000000000000000000000000000000000000000000000010000000000000000000000000000 G) (hS : Only G s0 s) :
    Only G s0 (State.queueJob s c desc origin) := by
  unfold State.queueJob
  extract_lets +onlyGivenNames -underBinder -merge x_1
  extract_lets +onlyGivenNames -underBinder -merge j_2
  extract_lets +onlyGivenNames -underBinder -merge s_3
  have h4 : Only G s0 s_3 := by
    subst s_3
    exact State.setCluster_only (hG.of rfl) hS
  try clear_value s_3
  extract_lets +onlyGivenNames -underBinder -merge s_5
  have h6 : Only G s0 s_5 := by
    subst s_5
    exact State.showQueue_only (hG.of rfl) h4
  try clear_value s_5
  refine Only.ite ?_ ?_
  · exact Only.set_migWait (hG.of rfl) h6
  · exact h6

theorem State.submitJob_only {s : State} {c : Nat} {desc : List Word} {origin : Nat} (hG : Sub 0x201000000000000000000000000000000000000000000000000000810000000000000000000000000000 G) (hS : Only G s0 s) :
    Only G s0 (State.submitJob s c desc origin) := by
  unfold State.submitJob
  split
  · exact State.queueJob_only (hG.of rfl) hS
  · exact hS
  · exact State.count_only (hG.of rfl) hS

end Sys2Proof.Machine
end

