-- ==== Sys2Proof/Laws/FrameMover.lean ====
section
/-! SUPPORT. The frame of each function of Machine/Mover.lean: the parts of the state that it may change, as a set of bits (StatePart.place), with the canonical form kept. -/

namespace Sys2Proof.Machine

variable {G : Nat} {s0 : State}

theorem State.setMig_only {s : State} {k : Nat} {m : Option MigRun} (hG : Sub 0x40000000000000000000000000000000000000000000000000000000000000000000000000000000000 G) (hS : Only G s0 s) :
    Only G s0 (State.setMig s k m) := by
  unfold State.setMig
  exact Only.set_migs (hG.of rfl) hS

theorem State.modMig_only {s : State} {k : Nat} {f : MigRun → MigRun} (hG : Sub 0x40000000000000000000000000000000000000000000000000000000000000000000000000000000000 G) (hS : Only G s0 s) :
    Only G s0 (State.modMig s k f) := by
  unfold State.modMig
  exact State.setMig_only (hG.of rfl) hS

theorem State.setMigBits_only {s : State} {k : Nat} {mig : Bool} {hold : Bool} (hG : Sub 0x200000000000200000000000000000000000000000000000000000000000000000000000000000 G) (hS : Only G s0 s) :
    Only G s0 (State.setMigBits s k mig hold) := by
  unfold State.setMigBits
  exact State.setL2_only (hG.of rfl) hS

theorem State.clearMaps_only {s : State} {k : Nat} (hG : Sub 0x2000000000000000000000000000000000000000000000000000000000000000000000000000000000 G) (hS : Only G s0 s) :
    Only G s0 (State.clearMaps s k) := by
  unfold State.clearMaps
  exact Only.set_migMaps (hG.of rfl) hS

theorem State.requestDrain_only {s : State} {pts : List Nat} (hG : Sub 0x30000000000000000000000000000000000000000000000000000000000000000000000000000000000 G) (hS : Only G s0 s) :
    Only G s0 (State.requestDrain s pts) := by
  unfold State.requestDrain
  refine State.each_only ?_ hS
  intro y1 u2 hu3
  try beta_reduce
  exact Only.set_drainPhase_drains (hG.of rfl) hu3

theorem State.releasePart_only {s : State} {pt : Nat} {k : Nat} {p : Part} (hG : Sub 0x8e004000000000000100000000000000008000000000000000000000000000000000000000000000000 G) (hS : Only G s0 s) :
    Only G s0 (State.releasePart s pt k p) := by
  unfold State.releasePart
  split
  · exact hS
  · extract_lets +onlyGivenNames -underBinder -merge r_1
    extract_lets +onlyGivenNames -underBinder -merge x_2
    extract_lets +onlyGivenNames -underBinder -merge q_3
    extract_lets +onlyGivenNames -underBinder -merge s_4
    have h5 : Only G s0 s_4 := by
      subst s_4
      split
      · refine Only.ite ?_ ?_
        · exact State.migMark_only (hG.of rfl) hS
        · exact hS
      · exact hS
    try clear_value s_4
    refine Only.ite ?_ ?_
    · exact State.forward_only (hG.of rfl) hS
    · refine State.emit_only (hG.of rfl) ?_
      exact State.access_only (hG.of rfl) h5

theorem State.releaseHeld_only {s : State} {k : Nat} (hG : Sub 0x8e004000000000000100000000000000008000000000000000000000000000000000000000000000000 G) (hS : Only G s0 s) :
    Only G s0 (State.releaseHeld s k) := by
  unfold State.releaseHeld
  extract_lets +onlyGivenNames -underBinder -merge all_1
  extract_lets +onlyGivenNames -underBinder -merge s_2
  have h3 : Only G s0 s_2 := by
    subst s_2
    exact Only.set_migHeld (hG.of rfl) hS
  try clear_value s_2
  refine Only.fold ?_ h3
  intro u4 y6 hu5
  try beta_reduce
  exact State.releasePart_only (hG.of rfl) hu5

theorem State.freeMig_only {s : State} {k : Nat} (hG : Sub 0x42000000000000000000000000000000000000000000000000000007000000000000000000000000000 G) (hS : Only G s0 s) :
    Only G s0 (State.freeMig s k) := by
  unfold State.freeMig
  extract_lets +onlyGivenNames -underBinder -merge s_1
  have h2 : Only G s0 s_1 := by
    subst s_1
    refine State.setMig_only (hG.of rfl) ?_
    refine State.setReg_only (hG.of rfl) ?_
    exact State.setReg_only (hG.of rfl) hS
  try clear_value s_1
  refine State.set_only (hG.of rfl) ?_
  exact State.clearMaps_only (hG.of rfl) h2

theorem State.migOutcome_only {s : State} {k : Nat} {status : Nat} (hG : Sub 0x100000000000000000000000000000000000000000000000000000000000000000000000000000000000 G) (hS : Only G s0 s) :
    Only G s0 (State.migOutcome s k status) := by
  unfold State.migOutcome
  split
  · exact hS
  · extract_lets +onlyGivenNames -underBinder -merge e_1
    refine Only.ite ?_ ?_
    · exact State.finishJob_only (hG.of rfl) hS
    · exact hS

theorem State.endMig_only {s : State} {k : Nat} {status : Nat} (hG : Sub 0x3ce00c200000004000300000000000000008000000000000000000007000000000000000000000000000 G) (hS : Only G s0 s) :
    Only G s0 (State.endMig s k status) := by
  unfold State.endMig
  split
  · exact hS
  · extract_lets +onlyGivenNames -underBinder -merge s_1
    have h2 : Only G s0 s_1 := by
      subst s_1
      refine Only.ite ?_ ?_
      · exact hS
      · exact State.setMigBits_only (hG.of rfl) hS
    try clear_value s_1
    extract_lets +onlyGivenNames -underBinder -merge s_3
    have h4 : Only G s0 s_3 := by
      subst s_3
      exact State.releaseHeld_only (hG.of rfl) h2
    try clear_value s_3
    extract_lets +onlyGivenNames -underBinder -merge s_5
    have h6 : Only G s0 s_5 := by
      subst s_5
      refine Only.ite ?_ ?_
      · exact State.count_only (hG.of rfl) h4
      · exact h4
    try clear_value s_5
    extract_lets +onlyGivenNames -underBinder -merge e_7
    extract_lets +onlyGivenNames -underBinder -merge s_8
    have h9 : Only G s0 s_8 := by
      subst s_8
      exact State.discardAcc_only (hG.of rfl) h6
    try clear_value s_8
    refine State.freeMig_only (hG.of rfl) ?_
    exact State.migOutcome_only (hG.of rfl) h9

theorem State.migAnswer_only {s : State} {e : Nat} {k : Nat} {tag : Nat} {status : Nat} {slag : Nat} {data : List Byte} (hG : Sub 0x3ce00c200000004000300000000000000008000000000000000000007000000000000000000000000000 G) (hS : Only G s0 s) :
    Only G s0 (State.migAnswer s e k tag status slag data) := by
  unfold State.migAnswer
  split
  · exact hS
  · extract_lets +onlyGivenNames -underBinder -merge n_1
    extract_lets +onlyGivenNames -underBinder -merge blk_2
    extract_lets +onlyGivenNames -underBinder -merge kind_3
    extract_lets +onlyGivenNames -underBinder -merge w_4
    refine Only.ite ?_ ?_
    · exact hS
    · refine Only.ite ?_ ?_
      · exact State.modMig_only (hG.of rfl) hS
      · refine Only.ite ?_ ?_
        · refine Only.ite ?_ ?_
          · exact hS
          · exact State.endMig_only (hG.of rfl) hS
        · refine Only.ite ?_ ?_
          · exact State.addAcc_only (hG.of rfl) hS
          · exact State.modMig_only (hG.of rfl) hS

theorem State.deliverLine_only {s : State} {e : Nat} {c : CpEntry} {l : Nat} {d : List Byte} {p : Bool} (hG : Sub 0x300000000000000000000000000000000000000000000000000000000000000000000000000000000000 G) (hS : Only G s0 s) :
    Only G s0 (State.deliverLine s e c l d p) := by
  unfold State.deliverLine
  split
  · exact State.modEngine_only (hG.of rfl) hS
  · exact State.addAcc_only (hG.of rfl) hS
  · exact hS

theorem State.cpAnswer_only {s : State} {e : Nat} {tag : Nat} {status : Nat} {slag : Nat} {data : List Byte} (hG : Sub 0x300000000000000000000000000000000000000000000000000000000000000000000000000000000000 G) (hS : Only G s0 s) :
    Only G s0 (State.cpAnswer s e tag status slag data) := by
  unfold State.cpAnswer
  extract_lets +onlyGivenNames -underBinder -merge n_1
  split
  · exact hS
  · extract_lets +onlyGivenNames -underBinder -merge l_2
    extract_lets +onlyGivenNames -underBinder -merge st_3
    extract_lets +onlyGivenNames -underBinder -merge d_4
    extract_lets +onlyGivenNames -underBinder -merge bad_5
    extract_lets +onlyGivenNames -underBinder -merge s_6
    have h7 : Only G s0 s_6 := by
      subst s_6
      exact State.modEngine_only (hG.of rfl) hS
    try clear_value s_6
    extract_lets +onlyGivenNames -underBinder -merge s_8
    have h9 : Only G s0 s_8 := by
      subst s_8
      exact State.modEngine_only (hG.of rfl) h7
    try clear_value s_8
    extract_lets +onlyGivenNames -underBinder -merge s_10
    have h11 : Only G s0 s_10 := by
      subst s_10
      refine Only.ite ?_ ?_
      · refine Only.ite ?_ ?_
        · exact State.deliverLine_only (hG.of rfl) h9
        · exact h9
      · refine Only.ite ?_ ?_
        · refine State.modRun_only (hG.of rfl) ?_
          exact State.modEngine_only (hG.of rfl) h7
        · refine State.modEngine_only (hG.of rfl) ?_
          exact State.modRun_only (hG.of rfl) h7
    try clear_value s_10
    exact State.modEngine_only (hG.of rfl) h11

theorem State.copyNext_only {s : State} {e : Nat} (hG : Sub 0x300000000000000000000000000000000000000000000000000000000000000000000000000000000000 G) (hS : Only G s0 s) :
    Only G s0 (State.copyNext s e) := by
  unfold State.copyNext
  split
  · exact hS
  · split
    · extract_lets +onlyGivenNames -underBinder -merge s_1
      have h2 : Only G s0 s_1 := by
        subst s_1
        exact State.addAcc_only (hG.of rfl) hS
      try clear_value s_1
      refine Only.ite ?_ ?_
      · exact hS
      · exact State.modRun_only (hG.of rfl) h2
    · exact hS

theorem State.takeLines_only {s : State} {e : Nat} (hG : Sub 0x100000000000000000000000000000000000000000000000000000000000000000000000000000000000 G) (hS : Only G s0 s) :
    Only G s0 (State.takeLines s e) := by
  unfold State.takeLines
  split
  · exact hS
  · extract_lets +onlyGivenNames -underBinder -merge ls_1
    extract_lets +onlyGivenNames -underBinder -merge src_2
    extract_lets +onlyGivenNames -underBinder -merge dst_3
    refine Only.ite ?_ ?_
    · exact State.modRun_only (hG.of rfl) hS
    · refine Only.ite ?_ ?_
      · split
        · extract_lets +onlyGivenNames -underBinder -merge k_4
          exact State.finishJob_only (hG.of rfl) hS
        · exact State.modRun_only (hG.of rfl) hS
      · exact hS

theorem State.settleJob_only {s : State} {e : Nat} (hG : Sub 0x100000000000000000000000000000000000000000000000000000000000000000000000000000000000 G) (hS : Only G s0 s) :
    Only G s0 (State.settleJob s e) := by
  unfold State.settleJob
  split
  · exact hS
  · extract_lets +onlyGivenNames -underBinder -merge v_1
    extract_lets +onlyGivenNames -underBinder -merge s_2
    have h3 : Only G s0 s_2 := by
      subst s_2
      refine Only.ite ?_ ?_
      · exact State.takeLines_only (hG.of rfl) hS
      · exact hS
    try clear_value s_2
    refine Only.ite ?_ ?_
    · exact hS
    · split
      · exact h3
      · extract_lets +onlyGivenNames -underBinder -merge r1_4
        refine Only.ite ?_ ?_
        · exact State.finishJob_only (hG.of rfl) h3
        · refine Only.ite ?_ ?_
          · exact State.finishJob_only (hG.of rfl) h3
          · refine Only.ite ?_ ?_
            · exact State.finishJob_only (hG.of rfl) h3
            · exact h3

theorem State.svcAnswer_only {s : State} {e : Nat} {tag : Nat} {status : Nat} {slag : Nat} {data : List Byte} (hG : Sub 0x3ce00c200000004000300000000000000008000000000000000000007000000000000000000000000000 G) (hS : Only G s0 s) :
    Only G s0 (State.svcAnswer s e tag status slag data) := by
  unfold State.svcAnswer
  split
  · exact hS
  · extract_lets +onlyGivenNames -underBinder -merge l_1
    extract_lets +onlyGivenNames -underBinder -merge s_2
    have h3 : Only G s0 s_2 := by
      subst s_2
      exact State.modRun_only (hG.of rfl) hS
    try clear_value s_2
    refine Only.ite ?_ ?_
    · exact hS
    · refine Only.ite ?_ ?_
      · split
        · exact State.migAnswer_only (hG.of rfl) hS
        · exact hS
      · refine Only.ite ?_ ?_
        · exact State.failJob_only (hG.of rfl) hS
        · refine Only.ite ?_ ?_
          · refine Only.ite ?_ ?_
            · refine State.each_only ?_ h3
              intro y4 u5 hu6
              try beta_reduce
              exact State.copyNext_only (hG.of rfl) hu6
            · exact h3
          · refine Only.ite ?_ ?_
            · exact State.modRun_only (hG.of rfl) hS
            · exact State.modRun_only (hG.of rfl) hS

theorem State.farBytes_only {s : State} {c : Nat} {e : Nat} {tag : Nat} {status : Nat} (hG : Sub 0x8000000000000000000000000000000000000000000000000 G) (hS : Only G s0 s) :
    Only G s0 (State.farBytes s c e tag status) := by
  unfold State.farBytes
  split
  · refine Only.ite ?_ ?_
    · exact State.tallyEngine_only (hG.of rfl) hS
    · exact hS
  · exact hS

theorem State.farAnswer_only {s : State} {c : Nat} {e : Nat} {tag : Nat} {status : Nat} {slag : Nat} {data : List Byte} (hG : Sub 0x3ce00c200000004000300000000000000008000000000000000000007000000000000000000000000000 G) (hS : Only G s0 s) :
    Only G s0 (State.farAnswer s c e tag status slag data) := by
  unfold State.farAnswer
  extract_lets +onlyGivenNames -underBinder -merge s_1
  have h2 : Only G s0 s_1 := by
    subst s_1
    refine State.dropAcc_only (hG.of rfl) ?_
    exact State.farBytes_only (hG.of rfl) hS
  try clear_value s_1
  refine Only.ite ?_ ?_
  · exact State.cpAnswer_only (hG.of rfl) h2
  · refine State.settleJob_only (hG.of rfl) ?_
    exact State.svcAnswer_only (hG.of rfl) h2

theorem State.scratchAcc_only {s : State} {c : Nat} {a : FarAcc} (hG : Sub 0x3ce00c200000004000300000000000000008000000000000000000007000000000000000000000000000 G) (hS : Only G s0 s) :
    Only G s0 (State.scratchAcc s c a) := by
  unfold State.scratchAcc
  extract_lets +onlyGivenNames -underBinder -merge at'_1
  extract_lets +onlyGivenNames -underBinder -merge s_2
  have h3 : Only G s0 s_2 := by
    subst s_2
    exact State.hbmCount_only (hG.of rfl) hS
  try clear_value s_2
  refine Only.ite ?_ ?_
  · exact State.farAnswer_only (hG.of rfl) hS
  · split
    · extract_lets +onlyGivenNames -underBinder -merge old_4
      refine State.farAnswer_only (hG.of rfl) ?_
      exact State.setHbm64_only (hG.of rfl) h3
    · refine Only.ite ?_ ?_
      · refine State.farAnswer_only (hG.of rfl) ?_
        exact State.writeHbm_only (hG.of rfl) h3
      · exact State.farAnswer_only (hG.of rfl) h3

theorem State.tryAcc_only {s : State} {c : Nat} {a : FarAcc} (hG : Sub 0x3ce00c200000004000300000000000000008000000000000000000007000000000000000000000000000 G) (hS : Only G s0 s) :
    Only G s0 (State.tryAcc s c a) := by
  unfold State.tryAcc
  extract_lets +onlyGivenNames -underBinder -merge l_1
  extract_lets +onlyGivenNames -underBinder -merge before_2
  extract_lets +onlyGivenNames -underBinder -merge own_3
  extract_lets +onlyGivenNames -underBinder -merge serve_4
  refine Only.ite ?_ ?_
  · exact hS
  · try clear_value serve_4
    split
    · exact State.farAnswer_only (hG.of rfl) hS
    · extract_lets +onlyGivenNames -underBinder -merge s_5
      have h6 : Only G s0 s_5 := by
        subst s_5
        exact State.modCluster_only (hG.of rfl) hS
      try clear_value s_5
      refine Only.ite ?_ ?_
      · exact hS
      · refine Only.ite ?_ ?_
        · exact State.scratchAcc_only (hG.of rfl) hS
        · refine Only.ite ?_ ?_
          · exact hS
          · exact Only.set_decodeQ (hG.of rfl) h6

theorem State.pump_only {s : State} {c : Nat} (hG : Sub 0x3ce00c200000004000300000000000000008000000000000000000007000000000000000000000000000 G) (hS : Only G s0 s) :
    Only G s0 (State.pump s c) := by
  unfold State.pump
  extract_lets +onlyGivenNames -underBinder -merge once_1
  have h2 : ∀ u3, Only G s0 u3 → Only G s0 (once_1 u3) := by
    subst once_1
    intro u3 hu4
    try beta_reduce
    refine Only.fold ?_ hu4
    intro u5 y7 hu6
    try beta_reduce
    exact State.tryAcc_only (hG.of rfl) hu6
  try clear_value once_1
  refine h2 _ ?_
  refine h2 _ ?_
  exact h2 _ hS

end Sys2Proof.Machine
end

