-- ==== Sys2Proof/Laws/FrameCxl.lean ====
section
/-! SUPPORT. The frame of each function of Machine/Cxl.lean: the parts of the state that it may change, as a set of bits (StatePart.place), with the canonical form kept. -/

namespace Sys2Proof.Machine

variable {G : Nat} {s0 : State}

theorem State.fmReply_only {s : State} {via : FmVia} {op : Nat} {rc : FmRc} {ext : FmExt} {data : List Nat} (hG : Sub 0x100000000000000000000000100000000000000000000000000000000000000000000000000000000000000000 G) (hS : Only G s0 s) :
    Only G s0 (State.fmReply s via op rc ext data) := by
  unfold State.fmReply
  split
  · exact State.emit_only (hG.of rfl) hS
  · exact State.respond_only (hG.of rfl) hS

theorem State.fm_only {s : State} {via : FmVia} {op : Nat} {readOnly : Bool} {f : State → State} (hG : Sub 0x100000000000000000000000100000000000000008000000000001000000000000000000000000000000000000 G) (hf : (∀ x0, Only G s0 x0 → Only G s0 (f x0))) (hS : Only G s0 s) :
    Only G s0 (State.fm s via op readOnly f) := by
  unfold State.fm
  split
  · refine Only.ite ?_ ?_
    · exact hS
    · refine Only.ite ?_ ?_
      · exact State.fmReply_only (hG.of rfl) hS
      · split
        · refine Only.ite ?_ ?_
          · exact hf _ hS
          · exact State.fmReply_only (hG.of rfl) hS
        · refine Only.ite ?_ ?_
          · exact hf _ hS
          · refine State.fmReply_only (hG.of rfl) ?_
            exact State.count_only (hG.of rfl) hS
  · refine State.message_only (hG.of rfl) ?_ hS
    intro u1 hu2
    try beta_reduce
    refine Only.ite ?_ ?_
    · exact hf _ hu2
    · refine State.fmReply_only (hG.of rfl) ?_
      exact State.count_only (hG.of rfl) hu2

theorem State.fmBad_only {s : State} {via : FmVia} {op : Nat} {ext : FmExt} (hG : Sub 0x100000000000000000000000100000000000000000000000000000000000000000000000000000000000000000 G) (hS : Only G s0 s) :
    Only G s0 (State.fmBad s via op ext) := by
  unfold State.fmBad
  exact State.fmReply_only (hG.of rfl) hS

theorem State.fmStarted_only {s : State} {via : FmVia} {op : Nat} (hG : Sub 0x100000000000000000000000100000000000000000000000000000000000000000000000000000000000000000 G) (hS : Only G s0 s) :
    Only G s0 (State.fmStarted s via op) := by
  unfold State.fmStarted
  exact State.fmReply_only (hG.of rfl) hS

theorem State.fmEnded_only {s : State} {who : Nat} {op : Nat} {rc : FmRc} {ext : FmExt} (hG : Sub 0x10000000000000000000000000000000000000000000000000000000000000000000 G) (hS : Only G s0 s) :
    Only G s0 (State.fmEnded s who op rc ext) := by
  unfold State.fmEnded
  extract_lets +onlyGivenNames -underBinder -merge __src_1
  exact Only.set_fmReq (hG.of rfl) hS

theorem fmBind_only {via : FmVia} {v : Nat} {port : Nat} {ld : Option Nat} {s : State} (hG : Sub 0x100000000000000000100008100000000010000008000000000011000000000000000000000000200000010000 G) (hS : Only G s0 s) :
    Only G s0 (fmBind via v port ld s) := by
  unfold fmBind
  extract_lets +onlyGivenNames -underBinder -merge op_1
  refine State.fm_only (hG.of rfl) ?_ hS
  intro u2 hu3
  try beta_reduce
  extract_lets +onlyGivenNames -underBinder -merge s_4
  have h5 : Only G s0 s_4 := by
    subst s_4
    exact State.setOp_only (hG.of rfl) hu3
  try clear_value s_4
  extract_lets +onlyGivenNames -underBinder -merge s_6
  have h7 : Only G s0 s_6 := by
    subst s_6
    refine State.release_only (hG.of rfl) ?_
    exact State.dropTriggers_only (hG.of rfl) h5
  try clear_value s_6
  refine Only.ite ?_ ?_
  · exact State.fmBad_only (hG.of rfl) hu3
  · refine Only.ite ?_ ?_
    · exact State.fmReply_only (hG.of rfl) hu3
    · refine Only.ite ?_ ?_
      · exact State.fmBad_only (hG.of rfl) hu3
      · refine Only.ite ?_ ?_
        · exact State.fmBad_only (hG.of rfl) hu3
        · refine Only.ite ?_ ?_
          · exact State.fmBad_only (hG.of rfl) hu3
          · refine Only.ite ?_ ?_
            · exact State.fmBad_only (hG.of rfl) hu3
            · refine Only.ite ?_ ?_
              · exact State.fmReply_only (hG.of rfl) hu3
              · exact State.fmStarted_only (hG.of rfl) h7

theorem State.bindLd_only {s : State} {v : Nat} (hG : Sub 0x8200000000000000000010000008000000000010000000000000000003fff200000000000000 G) (hS : Only G s0 s) :
    Only G s0 (State.bindLd s v) := by
  unfold State.bindLd
  extract_lets +onlyGivenNames -underBinder -merge feid_1
  extract_lets +onlyGivenNames -underBinder -merge l_2
  extract_lets +onlyGivenNames -underBinder -merge r_3
  refine Only.ite ?_ ?_
  · exact hS
  · exact State.bindAuto_only (hG.of rfl) hS

theorem State.setBinding_only {s : State} {v : Nat} {feid : Nat} {ld : Option Nat} {remote : Bool} (hG : Sub 0x8200000000000000000010080008000000000010000000000000000003fff200000000010000 G) (hS : Only G s0 s) :
    Only G s0 (State.setBinding s v feid ld remote) := by
  unfold State.setBinding
  extract_lets +onlyGivenNames -underBinder -merge s_1
  have h2 : Only G s0 s_1 := by
    subst s_1
    exact State.set_only (hG.of rfl) hS
  try clear_value s_1
  extract_lets +onlyGivenNames -underBinder -merge s_3
  have h4 : Only G s0 s_3 := by
    subst s_3
    exact State.set_only (hG.of rfl) h2
  try clear_value s_3
  extract_lets +onlyGivenNames -underBinder -merge s_5
  have h6 : Only G s0 s_5 := by
    subst s_5
    exact State.set_only (hG.of rfl) h4
  try clear_value s_5
  extract_lets +onlyGivenNames -underBinder -merge s_7
  have h8 : Only G s0 s_7 := by
    subst s_7
    exact State.set_only (hG.of rfl) h6
  try clear_value s_7
  extract_lets +onlyGivenNames -underBinder -merge s_9
  have h10 : Only G s0 s_9 := by
    subst s_9
    refine Only.ite ?_ ?_
    · exact h8
    · exact State.updHostOn_only (hG.of rfl) h8
  try clear_value s_9
  exact State.bindLd_only (hG.of rfl) h10

theorem bindComplete_only {v : Nat} {s : State} (hG : Sub 0x8200000018000000000010080008000000000010000000000000000003fff200000000010000 G) (hS : Only G s0 s) :
    Only G s0 (bindComplete v s) := by
  unfold bindComplete
  split
  · extract_lets +onlyGivenNames -underBinder -merge s_1
    have h2 : Only G s0 s_1 := by
      subst s_1
      refine State.setOp_only (hG.of rfl) ?_
      exact State.setBinding_only (hG.of rfl) hS
    try clear_value s_1
    extract_lets +onlyGivenNames -underBinder -merge s_3
    have h4 : Only G s0 s_3 := by
      subst s_3
      refine Only.ite ?_ ?_
      · exact State.hotAdd_only (hG.of rfl) h2
      · refine Only.ite ?_ ?_
        · exact State.surpriseRemoved_only (hG.of rfl) h2
        · exact h2
    try clear_value s_3
    refine Only.ite ?_ ?_
    · exact hS
    · exact State.fmEnded_only (hG.of rfl) h4
  · exact hS

theorem fmUnbind_only {via : FmVia} {v : Nat} {option : Nat} {s : State} (hG : Sub 0x100000000000000000000008100000000000000008000000000001000000000000000000000000000000010000 G) (hS : Only G s0 s) :
    Only G s0 (fmUnbind via v option s) := by
  unfold fmUnbind
  extract_lets +onlyGivenNames -underBinder -merge op_1
  refine State.fm_only (hG.of rfl) ?_ hS
  intro u2 hu3
  try beta_reduce
  extract_lets +onlyGivenNames -underBinder -merge target_4
  extract_lets +onlyGivenNames -underBinder -merge ld_5
  extract_lets +onlyGivenNames -underBinder -merge s_6
  have h7 : Only G s0 s_6 := by
    subst s_6
    exact State.setOp_only (hG.of rfl) hu3
  try clear_value s_6
  extract_lets +onlyGivenNames -underBinder -merge __src_8
  extract_lets +onlyGivenNames -underBinder -merge s_9
  have h10 : Only G s0 s_9 := by
    subst s_9
    refine Only.ite ?_ ?_
    · exact State.setVppb_only (hG.of rfl) h7
    · exact h7
  try clear_value s_9
  refine Only.ite ?_ ?_
  · exact State.fmBad_only (hG.of rfl) hu3
  · refine Only.ite ?_ ?_
    · exact State.fmReply_only (hG.of rfl) hu3
    · refine Only.ite ?_ ?_
      · exact State.fmBad_only (hG.of rfl) hu3
      · refine Only.ite ?_ ?_
        · exact State.fmBad_only (hG.of rfl) hu3
        · exact State.fmStarted_only (hG.of rfl) h10

theorem State.answerAll_only {s : State} {n : Nat} (hG : Sub 0x1100000008000000000300000180000000000000008000000000000000000000000000000000000c00000000000 G) (hS : Only G s0 s) :
    Only G s0 (State.answerAll s n) := by
  unfold State.answerAll
  refine State.each_only ?_ hS
  intro y1 u2 hu3
  try beta_reduce
  exact slagAnswer_only (hG.of rfl) hu3

theorem State.endRequests_only {s : State} {port : Nat} {ld : Option Nat} (hG : Sub 0x1100000008000000000700000180000000000000008000000000000000000000000000000000000c00800000000 G) (hS : Only G s0 s) :
    Only G s0 (State.endRequests s port ld) := by
  unfold State.endRequests
  extract_lets +onlyGivenNames -underBinder -merge n_1
  extract_lets +onlyGivenNames -underBinder -merge x_2
  extract_lets +onlyGivenNames -underBinder -merge mine_3
  extract_lets +onlyGivenNames -underBinder -merge waiting_4
  extract_lets +onlyGivenNames -underBinder -merge s_5
  have h6 : Only G s0 s_5 := by
    subst s_5
    exact State.setNi_only (hG.of rfl) hS
  try clear_value s_5
  refine State.answerAll_only (hG.of rfl) ?_
  refine Only.fold ?_ h6
  intro u7 y9 hu8
  try beta_reduce
  refine Only.ite ?_ ?_
  · exact hu8
  · refine State.creditBack_only (hG.of rfl) ?_
    exact State.vacate_only (hG.of rfl) hu8

theorem State.unbound_only {s : State} {v : Nat} {o : BindOp} (hG : Sub 0x1100000008000000000700018180000000010080008000000000010000000000000000000000000e00800010000 G) (hS : Only G s0 s) :
    Only G s0 (State.unbound s v o) := by
  unfold State.unbound
  extract_lets +onlyGivenNames -underBinder -merge here_1
  extract_lets +onlyGivenNames -underBinder -merge s_2
  have h3 : Only G s0 s_2 := by
    subst s_2
    refine Only.ite ?_ ?_
    · exact State.quench_only (hG.of rfl) hS
    · exact hS
  try clear_value s_2
  extract_lets +onlyGivenNames -underBinder -merge s_4
  have h5 : Only G s0 s_4 := by
    subst s_4
    refine Only.ite ?_ ?_
    · exact State.surpriseRemoved_only (hG.of rfl) h3
    · exact hS
  try clear_value s_4
  extract_lets +onlyGivenNames -underBinder -merge s_6
  have h7 : Only G s0 s_6 := by
    subst s_6
    refine Only.ite ?_ ?_
    · exact State.endRequests_only (hG.of rfl) h5
    · exact h5
  try clear_value s_6
  extract_lets +onlyGivenNames -underBinder -merge s_8
  have h9 : Only G s0 s_8 := by
    subst s_8
    exact State.set_only (hG.of rfl) h7
  try clear_value s_8
  extract_lets +onlyGivenNames -underBinder -merge s_10
  have h11 : Only G s0 s_10 := by
    subst s_10
    exact State.set_only (hG.of rfl) h9
  try clear_value s_10
  extract_lets +onlyGivenNames -underBinder -merge s_12
  have h13 : Only G s0 s_12 := by
    subst s_12
    refine State.updHostOn_only (hG.of rfl) ?_
    exact State.set_only (hG.of rfl) h11
  try clear_value s_12
  refine State.fmEnded_only (hG.of rfl) ?_
  exact State.setOp_only (hG.of rfl) h13

theorem unbindComplete_only {v : Nat} {s : State} (hG : Sub 0x1100000008000000000700018180000000010080008000000000010000000000000000000000000e00800010000 G) (hS : Only G s0 s) :
    Only G s0 (unbindComplete v s) := by
  unfold unbindComplete
  split
  · refine Only.ite ?_ ?_
    · exact hS
    · refine Only.ite ?_ ?_
      · exact hS
      · exact State.unbound_only (hG.of rfl) hS
  · exact hS

theorem hotRemoveTimeout_only {v : Nat} {s : State} (hG : Sub 0x18000000000000000000000000000000000000000000000000000000000000010000 G) (hS : Only G s0 s) :
    Only G s0 (hotRemoveTimeout v s) := by
  unfold hotRemoveTimeout
  split
  · refine Only.ite ?_ ?_
    · refine State.fmEnded_only (hG.of rfl) ?_
      exact State.setOp_only (hG.of rfl) hS
    · exact hS
  · exact hS

theorem fmAbort_only {via : FmVia} {s : State} (hG : Sub 0x100000000000000000000018100000000000000008000000000001000000000000000000000000000000010000 G) (hS : Only G s0 s) :
    Only G s0 (fmAbort via s) := by
  unfold fmAbort
  refine State.fm_only (hG.of rfl) ?_ hS
  intro u1 hu2
  try beta_reduce
  split
  · refine State.fmReply_only (hG.of rfl) ?_
    refine State.fmEnded_only (hG.of rfl) ?_
    exact State.setOp_only (hG.of rfl) hu2
  · exact State.fmBad_only (hG.of rfl) hu2

theorem fmIdentify_only {via : FmVia} {s : State} (hG : Sub 0x100000000000000000000000100000000000000008000000000001000000000000000000000000000000000000 G) (hS : Only G s0 s) :
    Only G s0 (fmIdentify via s) := by
  unfold fmIdentify
  refine State.fm_only (hG.of rfl) ?_ hS
  intro u1 hu2
  try beta_reduce
  exact State.fmReply_only (hG.of rfl) hu2

theorem fmBgStatus_only {via : FmVia} {s : State} (hG : Sub 0x100000000000000000000000100000000000000008000000000001000000000000000000000000000000000000 G) (hS : Only G s0 s) :
    Only G s0 (fmBgStatus via s) := by
  unfold fmBgStatus
  refine State.fm_only (hG.of rfl) ?_ hS
  intro u1 hu2
  try beta_reduce
  extract_lets +onlyGivenNames -underBinder -merge who_3
  extract_lets +onlyGivenNames -underBinder -merge data_4
  exact State.fmReply_only (hG.of rfl) hu2

theorem fmGetLimit_only {via : FmVia} {s : State} (hG : Sub 0x100000000000000000000000100000000000000008000000000001000000000000000000000000000000000000 G) (hS : Only G s0 s) :
    Only G s0 (fmGetLimit via s) := by
  unfold fmGetLimit
  refine State.fm_only (hG.of rfl) ?_ hS
  intro u1 hu2
  try beta_reduce
  exact State.fmReply_only (hG.of rfl) hu2

theorem fmSetLimit_only {via : FmVia} {bytes : Nat} {s : State} (hG : Sub 0x100000000000000000000010100000000000000008000000000001000000000000000000000000000000000000 G) (hS : Only G s0 s) :
    Only G s0 (fmSetLimit via bytes s) := by
  unfold fmSetLimit
  refine State.fm_only (hG.of rfl) ?_ hS
  intro u1 hu2
  try beta_reduce
  extract_lets +onlyGivenNames -underBinder -merge __src_3
  refine Only.ite ?_ ?_
  · exact State.fmBad_only (hG.of rfl) hu2
  · refine State.fmReply_only (hG.of rfl) ?_
    exact Only.set_fmReq (hG.of rfl) hu2

theorem fmGetEvents_only {via : FmVia} {s : State} (hG : Sub 0x100000000000000000000000100000000000000008000000000001000000000000000000000000000000000000 G) (hS : Only G s0 s) :
    Only G s0 (fmGetEvents via s) := by
  unfold fmGetEvents
  refine State.fm_only (hG.of rfl) ?_ hS
  intro u1 hu2
  try beta_reduce
  exact State.fmReply_only (hG.of rfl) hu2

theorem fmClearEvents_only {via : FmVia} {handles : List Nat} {s : State} (hG : Sub 0x100000000000000000000020100000000000000008000000000001000000000000000000000000000000000000 G) (hS : Only G s0 s) :
    Only G s0 (fmClearEvents via handles s) := by
  unfold fmClearEvents
  refine State.fm_only (hG.of rfl) ?_ hS
  intro u1 hu2
  try beta_reduce
  refine State.fmReply_only (hG.of rfl) ?_
  exact Only.set_cxlLog (hG.of rfl) hu2

theorem fmGetPolicy_only {via : FmVia} {s : State} (hG : Sub 0x100000000000000000000000100000000000000008000000000001000000000000000000000000000000000000 G) (hS : Only G s0 s) :
    Only G s0 (fmGetPolicy via s) := by
  unfold fmGetPolicy
  refine State.fm_only (hG.of rfl) ?_ hS
  intro u1 hu2
  try beta_reduce
  exact State.fmReply_only (hG.of rfl) hu2

theorem fmSetPolicy_only {via : FmVia} {policy : Nat} {s : State} (hG : Sub 0x100000000000000000000010100000000000000008000000000001000000000000000000000000000000000000 G) (hS : Only G s0 s) :
    Only G s0 (fmSetPolicy via policy s) := by
  unfold fmSetPolicy
  refine State.fm_only (hG.of rfl) ?_ hS
  intro u1 hu2
  try beta_reduce
  extract_lets +onlyGivenNames -underBinder -merge __src_3
  refine State.fmReply_only (hG.of rfl) ?_
  exact Only.set_fmReq (hG.of rfl) hu2

theorem fmTimestamp_only {via : FmVia} {s : State} (hG : Sub 0x100000000000000000000000100000000000000008000000000001000000000000000000000000000000000000 G) (hS : Only G s0 s) :
    Only G s0 (fmTimestamp via s) := by
  unfold fmTimestamp
  refine State.fm_only (hG.of rfl) ?_ hS
  intro u1 hu2
  try beta_reduce
  exact State.fmReply_only (hG.of rfl) hu2

theorem fmGetLogs_only {via : FmVia} {s : State} (hG : Sub 0x100000000000000000000000100000000000000008000000000001000000000000000000000000000000000000 G) (hS : Only G s0 s) :
    Only G s0 (fmGetLogs via s) := by
  unfold fmGetLogs
  refine State.fm_only (hG.of rfl) ?_ hS
  intro u1 hu2
  try beta_reduce
  exact State.fmReply_only (hG.of rfl) hu2

theorem fmGetLog_only {via : FmVia} {s : State} (hG : Sub 0x100000000000000000000000100000000000000008000000000001000000000000000000000000000000000000 G) (hS : Only G s0 s) :
    Only G s0 (fmGetLog via s) := by
  unfold fmGetLog
  refine State.fm_only (hG.of rfl) ?_ hS
  intro u1 hu2
  try beta_reduce
  exact State.fmReply_only (hG.of rfl) hu2

theorem fmIdentifySwitch_only {via : FmVia} {s : State} (hG : Sub 0x100000000000000000000000100000000000000008000000000001000000000000000000000000000000000000 G) (hS : Only G s0 s) :
    Only G s0 (fmIdentifySwitch via s) := by
  unfold fmIdentifySwitch
  refine State.fm_only (hG.of rfl) ?_ hS
  intro u1 hu2
  try beta_reduce
  exact State.fmReply_only (hG.of rfl) hu2

theorem fmPortState_only {via : FmVia} {ports : List Nat} {s : State} (hG : Sub 0x100000000000000000000000100000000000000008000000000001000000000000000000000000000000000000 G) (hS : Only G s0 s) :
    Only G s0 (fmPortState via ports s) := by
  unfold fmPortState
  refine State.fm_only (hG.of rfl) ?_ hS
  intro u1 hu2
  try beta_reduce
  refine Only.ite ?_ ?_
  · exact State.fmBad_only (hG.of rfl) hu2
  · exact State.fmReply_only (hG.of rfl) hu2

theorem fmVcsInfo_only {via : FmVia} {vcs : Nat} {s : State} (hG : Sub 0x100000000000000000000000100000000000000008000000000001000000000000000000000000000000000000 G) (hS : Only G s0 s) :
    Only G s0 (fmVcsInfo via vcs s) := by
  unfold fmVcsInfo
  refine State.fm_only (hG.of rfl) ?_ hS
  intro u1 hu2
  try beta_reduce
  refine Only.ite ?_ ?_
  · exact State.fmBad_only (hG.of rfl) hu2
  · exact State.fmReply_only (hG.of rfl) hu2

theorem fmPortControl_only {via : FmVia} {port : Nat} {op : Nat} {s : State} (hG : Sub 0x4000010000080040200000050006e100000000010080008000000000011000000000084000000000001200800018440 G) (hS : Only G s0 s) :
    Only G s0 (fmPortControl via port op s) := by
  unfold fmPortControl
  refine State.fm_only (hG.of rfl) ?_ hS
  intro u1 hu2
  try beta_reduce
  extract_lets +onlyGivenNames -underBinder -merge s_3
  have h4 : Only G s0 s_3 := by
    subst s_3
    split
    · refine State.emit_only (hG.of rfl) ?_
      exact State.loseLink_only (hG.of rfl) hu2
    · extract_lets +onlyGivenNames -underBinder -merge s_5
      have h6 : Only G s0 s_5 := by
        subst s_5
        split
        · extract_lets +onlyGivenNames -underBinder -merge __src_7
          exact State.setSlot_only (hG.of rfl) hu2
        · exact hu2
      try clear_value s_5
      exact State.emit_only (hG.of rfl) h6
  try clear_value s_3
  refine Only.ite ?_ ?_
  · exact State.fmBad_only (hG.of rfl) hu2
  · exact State.fmReply_only (hG.of rfl) h4

theorem State.passOn_only {s : State} {via : FmVia} {op : Nat} {target : Nat} {ld : Nat} {request : List Byte} {answer : List Byte} (hG : Sub 0x100000000000000000000000100000000000000000000000000000000000000000000000000000000000000000 G) (hS : Only G s0 s) :
    Only G s0 (State.passOn s via op target ld request answer) := by
  unfold State.passOn
  refine State.fmReply_only (hG.of rfl) ?_
  exact State.emit_only (hG.of rfl) hS

theorem fmPpbConfig_only {via : FmVia} {port : Nat} {request : List Byte} {answer : List Byte} {s : State} (hG : Sub 0x100000000000000000000000100000000000000008000000000001000000000000000000000000000000000000 G) (hS : Only G s0 s) :
    Only G s0 (fmPpbConfig via port request answer s) := by
  unfold fmPpbConfig
  refine State.fm_only (hG.of rfl) ?_ hS
  intro u1 hu2
  try beta_reduce
  refine Only.ite ?_ ?_
  · exact State.fmBad_only (hG.of rfl) hu2
  · exact State.passOn_only (hG.of rfl) hu2

theorem fmLdConfig_only {via : FmVia} {port : Nat} {ld : Nat} {request : List Byte} {answer : List Byte} {s : State} (hG : Sub 0x100000000000000000000000100000000000000008000000000001000000000000000000000000000000000000 G) (hS : Only G s0 s) :
    Only G s0 (fmLdConfig via port ld request answer s) := by
  unfold fmLdConfig
  refine State.fm_only (hG.of rfl) ?_ hS
  intro u1 hu2
  try beta_reduce
  refine Only.ite ?_ ?_
  · exact State.fmBad_only (hG.of rfl) hu2
  · exact State.passOn_only (hG.of rfl) hu2

theorem fmLdMemory_only {via : FmVia} {port : Nat} {ld : Nat} {request : List Byte} {answer : List Byte} {s : State} (hG : Sub 0x100000000000000000000000100000000000000008000000000001000000000000000000000000000000000000 G) (hS : Only G s0 s) :
    Only G s0 (fmLdMemory via port ld request answer s) := by
  unfold fmLdMemory
  refine State.fm_only (hG.of rfl) ?_ hS
  intro u1 hu2
  try beta_reduce
  refine Only.ite ?_ ?_
  · exact State.fmBad_only (hG.of rfl) hu2
  · exact State.passOn_only (hG.of rfl) hu2

theorem fmAer_only {via : FmVia} {v : Nat} {error : Nat} {s : State} (hG : Sub 0x100000000000000000000008100000000000000008000000000001000000000000000000000000000000000000 G) (hS : Only G s0 s) :
    Only G s0 (fmAer via v error s) := by
  unfold fmAer
  refine State.fm_only (hG.of rfl) ?_ hS
  intro u1 hu2
  try beta_reduce
  extract_lets +onlyGivenNames -underBinder -merge __src_3
  refine Only.ite ?_ ?_
  · exact State.fmBad_only (hG.of rfl) hu2
  · refine State.fmReply_only (hG.of rfl) ?_
    exact State.setVppb_only (hG.of rfl) hu2

theorem fmTunnel_only {via : FmVia} {target : Nat} {reduced : List Nat} {request : List Byte} {answer : List Byte} {s : State} (hG : Sub 0x100000000000000000000000100000000000000008000000000001000000000000000000000000000000000000 G) (hS : Only G s0 s) :
    Only G s0 (fmTunnel via target reduced request answer s) := by
  unfold fmTunnel
  refine State.fm_only (hG.of rfl) ?_ hS
  intro u1 hu2
  try beta_reduce
  extract_lets +onlyGivenNames -underBinder -merge here_3
  extract_lets +onlyGivenNames -underBinder -merge port_4
  refine Only.ite ?_ ?_
  · exact State.fmBad_only (hG.of rfl) hu2
  · refine Only.ite ?_ ?_
    · exact State.fmBad_only (hG.of rfl) hu2
    · exact State.passOn_only (hG.of rfl) hu2

theorem fmDcdInfo_only {via : FmVia} {s : State} (hG : Sub 0x100000000000000000000000100000000000000008000000000001000000000000000000000000000000000000 G) (hS : Only G s0 s) :
    Only G s0 (fmDcdInfo via s) := by
  unfold fmDcdInfo
  refine State.fm_only (hG.of rfl) ?_ hS
  intro u1 hu2
  try beta_reduce
  exact State.fmReply_only (hG.of rfl) hu2

theorem fmDcConfig_only {via : FmVia} {vcs : Nat} {s : State} (hG : Sub 0x100000000000000000000000100000000000000008000000000001000000000000000000000000000000000000 G) (hS : Only G s0 s) :
    Only G s0 (fmDcConfig via vcs s) := by
  unfold fmDcConfig
  refine State.fm_only (hG.of rfl) ?_ hS
  intro u1 hu2
  try beta_reduce
  refine Only.ite ?_ ?_
  · exact State.fmBad_only (hG.of rfl) hu2
  · exact State.fmReply_only (hG.of rfl) hu2

theorem fmSetDcConfig_only {via : FmVia} {vcs : Nat} {region : Nat} {sanitize : Bool} {s : State} (hG : Sub 0x100000000000000000000800100000000000000008000000000001000000000000000000000000000000000000 G) (hS : Only G s0 s) :
    Only G s0 (fmSetDcConfig via vcs region sanitize s) := by
  unfold fmSetDcConfig
  refine State.fm_only (hG.of rfl) ?_ hS
  intro u1 hu2
  try beta_reduce
  refine Only.ite ?_ ?_
  · exact State.fmBad_only (hG.of rfl) hu2
  · refine State.fmReply_only (hG.of rfl) ?_
    exact Only.set_dcSanitize (hG.of rfl) hu2

theorem fmExtentLists_only {via : FmVia} {vcs : Nat} {s : State} (hG : Sub 0x100000000000000000000000100000000000000008000000000001000000000000000000000000000000000000 G) (hS : Only G s0 s) :
    Only G s0 (fmExtentLists via vcs s) := by
  unfold fmExtentLists
  refine State.fm_only (hG.of rfl) ?_ hS
  intro u1 hu2
  try beta_reduce
  extract_lets +onlyGivenNames -underBinder -merge all_3
  refine Only.ite ?_ ?_
  · exact State.fmBad_only (hG.of rfl) hu2
  · exact State.fmReply_only (hG.of rfl) hu2

theorem fmDcAdd_only {via : FmVia} {vcs : Nat} {region : Nat} {count : Nat} {s : State} (hG : Sub 0x1000000000000000000000e0100000000000000008000000000001000000000000000000000000000000000000 G) (hS : Only G s0 s) :
    Only G s0 (fmDcAdd via vcs region count s) := by
  unfold fmDcAdd
  extract_lets +onlyGivenNames -underBinder -merge op_1
  refine State.fm_only (hG.of rfl) ?_ hS
  intro u2 hu3
  try beta_reduce
  extract_lets +onlyGivenNames -underBinder -merge free_4
  extract_lets +onlyGivenNames -underBinder -merge got_5
  extract_lets +onlyGivenNames -underBinder -merge s_6
  have h7 : Only G s0 s_6 := by
    subst s_6
    exact Only.set_dcAdds (hG.of rfl) hu3
  try clear_value s_6
  refine Only.ite ?_ ?_
  · exact State.fmBad_only (hG.of rfl) hu3
  · refine Only.ite ?_ ?_
    · exact State.fmReply_only (hG.of rfl) hu3
    · refine State.fmStarted_only (hG.of rfl) ?_
      exact State.logCxl_only (hG.of rfl) h7

theorem State.extentGone_only {s : State} {i : Nat} (hG : Sub 0x110000000000000000000000000000000000000000000000000000000000000000000 G) (hS : Only G s0 s) :
    Only G s0 (State.extentGone s i) := by
  unfold State.extentGone
  extract_lets +onlyGivenNames -underBinder -merge l_1
  extract_lets +onlyGivenNames -underBinder -merge done_2
  refine Only.fold ?_ ?_
  · intro u3 y5 hu4
    try beta_reduce
    exact State.fmEnded_only (hG.of rfl) hu4
  · exact Only.set_dcReleases (hG.of rfl) hS

theorem State.startRelease_only {s : State} {extents : List Nat} (hG : Sub 0x3ce00c2b0000004200300000000000000008000000000000000000007000000048000000000200000000 G) (hS : Only G s0 s) :
    Only G s0 (State.startRelease s extents) := by
  unfold State.startRelease
  extract_lets +onlyGivenNames -underBinder -merge s_1
  have h2 : Only G s0 s_1 := by
    subst s_1
    refine State.each_only ?_ hS
    intro y3 u4 hu5
    try beta_reduce
    refine State.writeEntry_only (hG.of rfl) ?_ hu5
    intro u6 hu7
    try beta_reduce
    exact State.set_only (hG.of rfl) hu7
  try clear_value s_1
  extract_lets +onlyGivenNames -underBinder -merge fill_8
  extract_lets +onlyGivenNames -underBinder -merge s_9
  have h10 : Only G s0 s_9 := by
    subst s_9
    exact Only.set_fillDue (hG.of rfl) h2
  try clear_value s_9
  refine State.each_only ?_ h10
  intro y11 u12 hu13
  try beta_reduce
  refine Only.ite ?_ ?_
  · exact State.endMig_only (hG.of rfl) hu13
  · exact hu13

theorem State.endAdd_only {s : State} {a : DcAdd} {accepted : List Nat} {rc : FmRc} {ext : FmExt} (hG : Sub 0x3ce00c2b000000479030000000000000000800000000000000000000700000004c000000000200000000 G) (hS : Only G s0 s) :
    Only G s0 (State.endAdd s a accepted rc ext) := by
  unfold State.endAdd
  extract_lets +onlyGivenNames -underBinder -merge got_1
  extract_lets +onlyGivenNames -underBinder -merge s_2
  have h3 : Only G s0 s_2 := by
    subst s_2
    refine State.each_only ?_ hS
    intro y4 u5 hu6
    try beta_reduce
    extract_lets +onlyGivenNames -underBinder -merge t_7
    have h8 : Only G s0 t_7 := by
      subst t_7
      refine State.writeEntry_only (hG.of rfl) ?_ hu6
      intro u9 hu10
      try beta_reduce
      refine State.set_only (hG.of rfl) ?_
      exact State.set_only (hG.of rfl) hu10
    try clear_value t_7
    exact Only.set_dcRegion (hG.of rfl) h8
  try clear_value s_2
  extract_lets +onlyGivenNames -underBinder -merge s_11
  have h12 : Only G s0 s_11 := by
    subst s_11
    exact Only.set_dcAdds (hG.of rfl) h3
  try clear_value s_11
  extract_lets +onlyGivenNames -underBinder -merge s_13
  have h14 : Only G s0 s_13 := by
    subst s_13
    refine State.startRelease_only (hG.of rfl) ?_
    exact State.fmEnded_only (hG.of rfl) h12
  try clear_value s_13
  refine Only.fold ?_ h14
  intro u15 y17 hu16
  try beta_reduce
  exact State.extentGone_only (hG.of rfl) hu16

theorem dcAddResponse_only {vcs : Nat} {region : Nat} {accepted : List Nat} {s : State} (hG : Sub 0x3ce00c2b000000479030000000000000000800000000000000000000700000004c000000000200000000 G) (hS : Only G s0 s) :
    Only G s0 (dcAddResponse vcs region accepted s) := by
  unfold dcAddResponse
  split
  · exact State.endAdd_only (hG.of rfl) hS
  · exact hS

theorem dcAddTimeout_only {vcs : Nat} {region : Nat} {s : State} (hG : Sub 0x3ce00c2b000000479030000000000000000800000000000000000000700000004c000000000200000000 G) (hS : Only G s0 s) :
    Only G s0 (dcAddTimeout vcs region s) := by
  unfold dcAddTimeout
  split
  · exact State.endAdd_only (hG.of rfl) hS
  · exact hS

theorem fmDcRelease_only {via : FmVia} {vcs : Nat} {region : Nat} {extents : List Nat} {s : State} (hG : Sub 0x1000003ce00c2b0000004380300000000000000008000000000001000000007000000048000000000200000000 G) (hS : Only G s0 s) :
    Only G s0 (fmDcRelease via vcs region extents s) := by
  unfold fmDcRelease
  extract_lets +onlyGivenNames -underBinder -merge op_1
  refine State.fm_only (hG.of rfl) ?_ hS
  intro u2 hu3
  try beta_reduce
  extract_lets +onlyGivenNames -underBinder -merge held_4
  extract_lets +onlyGivenNames -underBinder -merge offered_5
  extract_lets +onlyGivenNames -underBinder -merge s_6
  have h7 : Only G s0 s_6 := by
    subst s_6
    exact Only.set_dcReleases (hG.of rfl) hu3
  try clear_value s_6
  extract_lets +onlyGivenNames -underBinder -merge s_8
  have h9 : Only G s0 s_8 := by
    subst s_8
    exact State.startRelease_only (hG.of rfl) h7
  try clear_value s_8
  extract_lets +onlyGivenNames -underBinder -merge later_10
  refine Only.ite ?_ ?_
  · exact State.fmBad_only (hG.of rfl) hu3
  · refine State.fmStarted_only (hG.of rfl) ?_
    exact Only.set_dcAdds (hG.of rfl) h9

theorem State.sweepExtent_only {s : State} {i : Nat} {filled : Bool} (hG : Sub 0x10000000000000200000000000000000000000000000000000000000000000000000000000000000 G) (hS : Only G s0 s) :
    Only G s0 (State.sweepExtent s i filled) := by
  unfold State.sweepExtent
  refine Only.fold ?_ hS
  intro u1 y3 hu2
  try beta_reduce
  extract_lets +onlyGivenNames -underBinder -merge n_5
  refine Only.ite ?_ ?_
  · exact hu2
  · exact State.setDir_only (hG.of rfl) hu2

theorem extentReleaseComplete_only {i : Nat} {s : State} (hG : Sub 0x100b000000051020000000000000000000000000000000000000000002004c000000000200000000 G) (hS : Only G s0 s) :
    Only G s0 (extentReleaseComplete i s) := by
  unfold extentReleaseComplete
  extract_lets +onlyGivenNames -underBinder -merge filled_1
  extract_lets +onlyGivenNames -underBinder -merge s_2
  have h3 : Only G s0 s_2 := by
    subst s_2
    refine Only.ite ?_ ?_
    · exact State.sweepExtent_only (hG.of rfl) hS
    · exact hS
  try clear_value s_2
  extract_lets +onlyGivenNames -underBinder -merge s_4
  have h5 : Only G s0 s_4 := by
    subst s_4
    refine State.freeExtent_only (hG.of rfl) ?_ h3
    intro u6 hu7
    try beta_reduce
    refine State.set_only (hG.of rfl) ?_
    refine State.set_only (hG.of rfl) ?_
    exact State.set_only (hG.of rfl) hu7
  try clear_value s_4
  refine Only.ite ?_ ?_
  · exact hS
  · refine State.extentGone_only (hG.of rfl) ?_
    exact Only.set_dcRegion (hG.of rfl) h5

theorem State.waitCommit_only {s : State} {vcs : Nat} {k : Nat} {on : Bool} (hG : Sub 0x1000000000000000000000000000000000000000000000000000000000000000000000000000000 G) (hS : Only G s0 s) :
    Only G s0 (State.waitCommit s vcs k on) := by
  unfold State.waitCommit
  extract_lets +onlyGivenNames -underBinder -merge l_1
  exact Only.set_commitWait (hG.of rfl) hS

theorem hdmDecoderCommit_only {vcs : Nat} {k : Nat} {d : HdmDecoder} {s : State} (hG : Sub 0x800801800000000000100000000010000008000000000010000000000084000000000000000000020000 G) (hS : Only G s0 s) :
    Only G s0 (hdmDecoderCommit vcs k d s) := by
  unfold hdmDecoderCommit
  extract_lets +onlyGivenNames -underBinder -merge k_1
  extract_lets +onlyGivenNames -underBinder -merge p_2
  extract_lets +onlyGivenNames -underBinder -merge s_3
  have h4 : Only G s0 s_3 := by
    subst s_3
    exact State.waitCommit_only (hG.of rfl) hS
  try clear_value s_3
  extract_lets +onlyGivenNames -underBinder -merge s_5
  have h6 : Only G s0 s_5 := by
    subst s_5
    exact State.requestCaid_only (hG.of rfl) h4
  try clear_value s_5
  refine Only.ite ?_ ?_
  · exact State.setDecoder_only (hG.of rfl) h4
  · refine Only.ite ?_ ?_
    · exact State.setDecoder_only (hG.of rfl) h4
    · refine Only.ite ?_ ?_
      · exact State.setDecoder_only (hG.of rfl) h4
      · refine Only.ite ?_ ?_
        · exact State.setDecoder_only (hG.of rfl) h4
        · refine Only.ite ?_ ?_
          · exact State.setDecoder_only (hG.of rfl) h4
          · refine Only.ite ?_ ?_
            · exact State.setDecoder_only (hG.of rfl) h6
            · refine Only.ite ?_ ?_
              · exact State.setDecoder_only (hG.of rfl) h6
              · refine State.waitCommit_only (hG.of rfl) ?_
                exact State.setDecoder_only (hG.of rfl) h6

theorem biEnableWrite_only {vcs : Nat} {route : Bool} {on : Bool} {s : State} (hG : Sub 0x80ec61800000001000100000000010000008000000000010000000000084000000000000000000020000 G) (hS : Only G s0 s) :
    Only G s0 (biEnableWrite vcs route on s) := by
  unfold biEnableWrite
  extract_lets +onlyGivenNames -underBinder -merge was_1
  extract_lets +onlyGivenNames -underBinder -merge c_2
  extract_lets +onlyGivenNames -underBinder -merge s_3
  have h4 : Only G s0 s_3 := by
    subst s_3
    refine Only.ite ?_ ?_
    · exact State.removeAgent_only (hG.of rfl) hS
    · exact hS
  try clear_value s_3
  extract_lets +onlyGivenNames -underBinder -merge s_5
  have h6 : Only G s0 s_5 := by
    subst s_5
    refine Only.ite ?_ ?_
    · exact h4
    · refine State.failCommit_only (hG.of rfl) ?_
      exact Only.set_caidWait (hG.of rfl) h4
  try clear_value s_5
  extract_lets +onlyGivenNames -underBinder -merge s_7
  have h8 : Only G s0 s_7 := by
    subst s_7
    refine Only.ite ?_ ?_
    · exact State.set_only (hG.of rfl) h6
    · exact Only.set_biDecoder (hG.of rfl) h6
  try clear_value s_7
  extract_lets +onlyGivenNames -underBinder -merge both_9
  extract_lets +onlyGivenNames -underBinder -merge open'_10
  refine Only.ite ?_ ?_
  · exact State.requestCaid_only (hG.of rfl) h8
  · exact h8

theorem targetSurpriseRemoval_only {p : Nat} {lost : Nat} {s : State} (hG : Sub 0x4000000000080040200000050006e100000000010080008000000000010000000000084000000000001200800018440 G) (hS : Only G s0 s) :
    Only G s0 (targetSurpriseRemoval p lost s) := by
  unfold targetSurpriseRemoval
  refine Only.ite ?_ ?_
  · exact State.loseLink_only (hG.of rfl) hS
  · exact hS

theorem ideIntegrityFailure_only {p : Nat} {lost : Nat} {s : State} (hG : Sub 0x40000000001b014020000005f006e1000000000100800080000403e0050000000010084000000000001200805518441 G) (hS : Only G s0 s) :
    Only G s0 (ideIntegrityFailure p lost s) := by
  unfold ideIntegrityFailure
  extract_lets +onlyGivenNames -underBinder -merge s_1
  have h2 : Only G s0 s_1 := by
    subst s_1
    exact State.count_only (hG.of rfl) hS
  try clear_value s_1
  extract_lets +onlyGivenNames -underBinder -merge s_3
  have h4 : Only G s0 s_3 := by
    subst s_3
    exact State.set_only (hG.of rfl) h2
  try clear_value s_3
  extract_lets +onlyGivenNames -underBinder -merge s_5
  have h6 : Only G s0 s_5 := by
    subst s_5
    exact State.set_only (hG.of rfl) h4
  try clear_value s_5
  extract_lets +onlyGivenNames -underBinder -merge s_7
  have h8 : Only G s0 s_7 := by
    subst s_7
    exact State.cause_only (hG.of rfl) h6
  try clear_value s_7
  exact State.loseLink_only (hG.of rfl) h8

theorem ideKeySetUp_only {p : Nat} {mode : Nat} {io : Bool} {s : State} (hG : Sub 0x4000000000200000200000030e008180000000000080000000000000000000000000000000000000000000000008000 G) (hS : Only G s0 s) :
    Only G s0 (ideKeySetUp p mode io s) := by
  unfold ideKeySetUp
  extract_lets +onlyGivenNames -underBinder -merge s_1
  have h2 : Only G s0 s_1 := by
    subst s_1
    refine State.fresh_only (hG.of rfl) ?_
    exact Only.set_ideKeys (hG.of rfl) hS
  try clear_value s_1
  refine Only.ite ?_ ?_
  · exact hS
  · refine State.releaseKept_only (hG.of rfl) ?_
    refine State.set_only (hG.of rfl) ?_
    exact State.set_only (hG.of rfl) h2

theorem messageToDecode_only {p : Nat} {crcOk : Bool} {m : PortMsg} {s : State} (hG : Sub 0x4000000000200000000000030e00c100000000000080008000000000000000000000000000000000000000000008200 G) (hS : Only G s0 s) :
    Only G s0 (messageToDecode p crcOk m s) := by
  unfold messageToDecode
  extract_lets +onlyGivenNames -underBinder -merge n_1
  extract_lets +onlyGivenNames -underBinder -merge s_2
  have h3 : Only G s0 s_2 := by
    subst s_2
    exact Only.set_partials (hG.of rfl) hS
  try clear_value s_2
  refine Only.ite ?_ ?_
  · refine State.tallyPort_only (hG.of rfl) ?_
    refine State.count_only (hG.of rfl) ?_
    exact Only.set_partials (hG.of rfl) hS
  · refine Only.ite ?_ ?_
    · exact Only.set_portHold (hG.of rfl) h3
    · exact State.takeMsg_only (hG.of rfl) h3

theorem fmWeusk_only {via : FmVia} {opcode : Nat} {type : Nat} {s : State} (hG : Sub 0x100000000000000000000000100000000000000008000000000001000000000000000000000000000000000000 G) (hS : Only G s0 s) :
    Only G s0 (fmWeusk via opcode type s) := by
  unfold fmWeusk
  refine State.fm_only (hG.of rfl) ?_ hS
  intro u1 hu2
  try beta_reduce
  refine Only.ite ?_ ?_
  · exact hu2
  · exact State.fmBad_only (hG.of rfl) hu2

theorem fmOther_only {via : FmVia} {opcode : Nat} {s : State} (hG : Sub 0x100000000000000000000000100000000000000008000000000001000000000000000000000000000000000000 G) (hS : Only G s0 s) :
    Only G s0 (fmOther via opcode s) := by
  unfold fmOther
  refine State.fm_only (hG.of rfl) ?_ hS
  intro u1 hu2
  try beta_reduce
  exact State.fmReply_only (hG.of rfl) hu2

theorem fmRun_only {via : FmVia} {c : FmCmd} {s : State} (hG : Sub 0x40000100000bce40e2b0000504bfe300000000010080008000000000011000000007084000048000001200a00018440 G) (hS : Only G s0 s) :
    Only G s0 (fmRun via c s) := by
  unfold fmRun
  split
  · exact fmIdentify_only (hG.of rfl) hS
  · exact fmBgStatus_only (hG.of rfl) hS
  · exact fmGetLimit_only (hG.of rfl) hS
  · exact fmSetLimit_only (hG.of rfl) hS
  · exact fmAbort_only (hG.of rfl) hS
  · exact fmGetEvents_only (hG.of rfl) hS
  · exact fmClearEvents_only (hG.of rfl) hS
  · exact fmGetPolicy_only (hG.of rfl) hS
  · exact fmSetPolicy_only (hG.of rfl) hS
  · exact fmTimestamp_only (hG.of rfl) hS
  · exact fmGetLogs_only (hG.of rfl) hS
  · exact fmGetLog_only (hG.of rfl) hS
  · exact fmIdentifySwitch_only (hG.of rfl) hS
  · exact fmPortState_only (hG.of rfl) hS
  · exact fmPortControl_only (hG.of rfl) hS
  · exact fmPpbConfig_only (hG.of rfl) hS
  · exact fmVcsInfo_only (hG.of rfl) hS
  · exact fmBind_only (hG.of rfl) hS
  · exact fmUnbind_only (hG.of rfl) hS
  · exact fmAer_only (hG.of rfl) hS
  · exact fmTunnel_only (hG.of rfl) hS
  · exact fmLdConfig_only (hG.of rfl) hS
  · exact fmLdMemory_only (hG.of rfl) hS
  · exact fmDcdInfo_only (hG.of rfl) hS
  · exact fmDcConfig_only (hG.of rfl) hS
  · exact fmSetDcConfig_only (hG.of rfl) hS
  · exact fmExtentLists_only (hG.of rfl) hS
  · exact fmDcAdd_only (hG.of rfl) hS
  · exact fmDcRelease_only (hG.of rfl) hS
  · exact fmWeusk_only (hG.of rfl) hS
  · exact fmOther_only (hG.of rfl) hS

theorem bindVppb_only {p : Nat} {len : Nat} {vppb : Nat} {target : Nat} {ld : Option Nat} {s : State} (hG : Sub 0x100000000000000000100008100000000010000008000000000011000000000000000000000000200000010000 G) (hS : Only G s0 s) :
    Only G s0 (bindVppb p len vppb target ld s) := by
  unfold bindVppb
  exact fmBind_only (hG.of rfl) hS

theorem unbindVppb_only {p : Nat} {len : Nat} {vppb : Nat} {option : Nat} {s : State} (hG : Sub 0x100000000000000000000008100000000000000008000000000001000000000000000000000000000000010000 G) (hS : Only G s0 s) :
    Only G s0 (unbindVppb p len vppb option s) := by
  unfold unbindVppb
  exact fmUnbind_only (hG.of rfl) hS

theorem abortBackground_only {p : Nat} {len : Nat} {s : State} (hG : Sub 0x100000000000000000000018100000000000000008000000000001000000000000000000000000000000010000 G) (hS : Only G s0 s) :
    Only G s0 (abortBackground p len s) := by
  unfold abortBackground
  exact fmAbort_only (hG.of rfl) hS

theorem identify_only {p : Nat} {len : Nat} {s : State} (hG : Sub 0x100000000000000000000000100000000000000008000000000001000000000000000000000000000000000000 G) (hS : Only G s0 s) :
    Only G s0 (identify p len s) := by
  unfold identify
  exact fmIdentify_only (hG.of rfl) hS

theorem backgroundStatus_only {p : Nat} {len : Nat} {s : State} (hG : Sub 0x100000000000000000000000100000000000000008000000000001000000000000000000000000000000000000 G) (hS : Only G s0 s) :
    Only G s0 (backgroundStatus p len s) := by
  unfold backgroundStatus
  exact fmBgStatus_only (hG.of rfl) hS

theorem getResponseLimit_only {p : Nat} {len : Nat} {s : State} (hG : Sub 0x100000000000000000000000100000000000000008000000000001000000000000000000000000000000000000 G) (hS : Only G s0 s) :
    Only G s0 (getResponseLimit p len s) := by
  unfold getResponseLimit
  exact fmGetLimit_only (hG.of rfl) hS

theorem setResponseLimit_only {p : Nat} {len : Nat} {bytes : Nat} {s : State} (hG : Sub 0x100000000000000000000010100000000000000008000000000001000000000000000000000000000000000000 G) (hS : Only G s0 s) :
    Only G s0 (setResponseLimit p len bytes s) := by
  unfold setResponseLimit
  exact fmSetLimit_only (hG.of rfl) hS

theorem getEventRecords_only {p : Nat} {len : Nat} {s : State} (hG : Sub 0x100000000000000000000000100000000000000008000000000001000000000000000000000000000000000000 G) (hS : Only G s0 s) :
    Only G s0 (getEventRecords p len s) := by
  unfold getEventRecords
  exact fmGetEvents_only (hG.of rfl) hS

theorem clearEventRecords_only {p : Nat} {len : Nat} {handles : List Nat} {s : State} (hG : Sub 0x100000000000000000000020100000000000000008000000000001000000000000000000000000000000000000 G) (hS : Only G s0 s) :
    Only G s0 (clearEventRecords p len handles s) := by
  unfold clearEventRecords
  exact fmClearEvents_only (hG.of rfl) hS

theorem getEventPolicy_only {p : Nat} {len : Nat} {s : State} (hG : Sub 0x100000000000000000000000100000000000000008000000000001000000000000000000000000000000000000 G) (hS : Only G s0 s) :
    Only G s0 (getEventPolicy p len s) := by
  unfold getEventPolicy
  exact fmGetPolicy_only (hG.of rfl) hS

theorem setEventPolicy_only {p : Nat} {len : Nat} {policy : Nat} {s : State} (hG : Sub 0x100000000000000000000010100000000000000008000000000001000000000000000000000000000000000000 G) (hS : Only G s0 s) :
    Only G s0 (setEventPolicy p len policy s) := by
  unfold setEventPolicy
  exact fmSetPolicy_only (hG.of rfl) hS

theorem getTimestamp_only {p : Nat} {len : Nat} {s : State} (hG : Sub 0x100000000000000000000000100000000000000008000000000001000000000000000000000000000000000000 G) (hS : Only G s0 s) :
    Only G s0 (getTimestamp p len s) := by
  unfold getTimestamp
  exact fmTimestamp_only (hG.of rfl) hS

theorem getSupportedLogs_only {p : Nat} {len : Nat} {s : State} (hG : Sub 0x100000000000000000000000100000000000000008000000000001000000000000000000000000000000000000 G) (hS : Only G s0 s) :
    Only G s0 (getSupportedLogs p len s) := by
  unfold getSupportedLogs
  exact fmGetLogs_only (hG.of rfl) hS

theorem getLog_only {p : Nat} {len : Nat} {s : State} (hG : Sub 0x100000000000000000000000100000000000000008000000000001000000000000000000000000000000000000 G) (hS : Only G s0 s) :
    Only G s0 (getLog p len s) := by
  unfold getLog
  exact fmGetLog_only (hG.of rfl) hS

theorem identifySwitch_only {p : Nat} {len : Nat} {s : State} (hG : Sub 0x100000000000000000000000100000000000000008000000000001000000000000000000000000000000000000 G) (hS : Only G s0 s) :
    Only G s0 (identifySwitch p len s) := by
  unfold identifySwitch
  exact fmIdentifySwitch_only (hG.of rfl) hS

theorem getPortState_only {p : Nat} {len : Nat} {ports : List Nat} {s : State} (hG : Sub 0x100000000000000000000000100000000000000008000000000001000000000000000000000000000000000000 G) (hS : Only G s0 s) :
    Only G s0 (getPortState p len ports s) := by
  unfold getPortState
  exact fmPortState_only (hG.of rfl) hS

theorem portControl_only {p : Nat} {len : Nat} {target : Nat} {op : Nat} {s : State} (hG : Sub 0x4000010000080040200000050006e100000000010080008000000000011000000000084000000000001200800018440 G) (hS : Only G s0 s) :
    Only G s0 (portControl p len target op s) := by
  unfold portControl
  exact fmPortControl_only (hG.of rfl) hS

theorem ppbConfig_only {p : Nat} {len : Nat} {target : Nat} {request : List Byte} {answer : List Byte} {s : State} (hG : Sub 0x100000000000000000000000100000000000000008000000000001000000000000000000000000000000000000 G) (hS : Only G s0 s) :
    Only G s0 (ppbConfig p len target request answer s) := by
  unfold ppbConfig
  exact fmPpbConfig_only (hG.of rfl) hS

theorem vcsInfo_only {p : Nat} {len : Nat} {vcs : Nat} {s : State} (hG : Sub 0x100000000000000000000000100000000000000008000000000001000000000000000000000000000000000000 G) (hS : Only G s0 s) :
    Only G s0 (vcsInfo p len vcs s) := by
  unfold vcsInfo
  exact fmVcsInfo_only (hG.of rfl) hS

theorem generateAer_only {p : Nat} {len : Nat} {vppb : Nat} {error : Nat} {s : State} (hG : Sub 0x100000000000000000000008100000000000000008000000000001000000000000000000000000000000000000 G) (hS : Only G s0 s) :
    Only G s0 (generateAer p len vppb error s) := by
  unfold generateAer
  exact fmAer_only (hG.of rfl) hS

theorem tunnel_only {p : Nat} {len : Nat} {target : Nat} {reduced : List Nat} {request : List Byte} {answer : List Byte} {s : State} (hG : Sub 0x100000000000000000000000100000000000000008000000000001000000000000000000000000000000000000 G) (hS : Only G s0 s) :
    Only G s0 (tunnel p len target reduced request answer s) := by
  unfold tunnel
  exact fmTunnel_only (hG.of rfl) hS

theorem ldConfig_only {p : Nat} {len : Nat} {target : Nat} {ld : Nat} {request : List Byte} {answer : List Byte} {s : State} (hG : Sub 0x100000000000000000000000100000000000000008000000000001000000000000000000000000000000000000 G) (hS : Only G s0 s) :
    Only G s0 (ldConfig p len target ld request answer s) := by
  unfold ldConfig
  exact fmLdConfig_only (hG.of rfl) hS

theorem ldMemory_only {p : Nat} {len : Nat} {target : Nat} {ld : Nat} {request : List Byte} {answer : List Byte} {s : State} (hG : Sub 0x100000000000000000000000100000000000000008000000000001000000000000000000000000000000000000 G) (hS : Only G s0 s) :
    Only G s0 (ldMemory p len target ld request answer s) := by
  unfold ldMemory
  exact fmLdMemory_only (hG.of rfl) hS

theorem dcdInfo_only {p : Nat} {len : Nat} {s : State} (hG : Sub 0x100000000000000000000000100000000000000008000000000001000000000000000000000000000000000000 G) (hS : Only G s0 s) :
    Only G s0 (dcdInfo p len s) := by
  unfold dcdInfo
  exact fmDcdInfo_only (hG.of rfl) hS

theorem dcConfig_only {p : Nat} {len : Nat} {vcs : Nat} {s : State} (hG : Sub 0x100000000000000000000000100000000000000008000000000001000000000000000000000000000000000000 G) (hS : Only G s0 s) :
    Only G s0 (dcConfig p len vcs s) := by
  unfold dcConfig
  exact fmDcConfig_only (hG.of rfl) hS

theorem setDcConfig_only {p : Nat} {len : Nat} {vcs : Nat} {region : Nat} {sanitize : Bool} {s : State} (hG : Sub 0x100000000000000000000800100000000000000008000000000001000000000000000000000000000000000000 G) (hS : Only G s0 s) :
    Only G s0 (setDcConfig p len vcs region sanitize s) := by
  unfold setDcConfig
  exact fmSetDcConfig_only (hG.of rfl) hS

theorem extentLists_only {p : Nat} {len : Nat} {vcs : Nat} {s : State} (hG : Sub 0x100000000000000000000000100000000000000008000000000001000000000000000000000000000000000000 G) (hS : Only G s0 s) :
    Only G s0 (extentLists p len vcs s) := by
  unfold extentLists
  exact fmExtentLists_only (hG.of rfl) hS

theorem dcAdd_only {p : Nat} {len : Nat} {vcs : Nat} {region : Nat} {extents : Nat} {s : State} (hG : Sub 0x1000000000000000000000e0100000000000000008000000000001000000000000000000000000000000000000 G) (hS : Only G s0 s) :
    Only G s0 (dcAdd p len vcs region extents s) := by
  unfold dcAdd
  exact fmDcAdd_only (hG.of rfl) hS

theorem dcRelease_only {p : Nat} {len : Nat} {vcs : Nat} {region : Nat} {extents : List Nat} {s : State} (hG : Sub 0x1000003ce00c2b0000004380300000000000000008000000000001000000007000000048000000000200000000 G) (hS : Only G s0 s) :
    Only G s0 (dcRelease p len vcs region extents s) := by
  unfold dcRelease
  exact fmDcRelease_only (hG.of rfl) hS

theorem weuskOverCci_only {p : Nat} {len : Nat} {opcode : Nat} {type : Nat} {s : State} (hG : Sub 0x100000000000000000000000100000000000000008000000000001000000000000000000000000000000000000 G) (hS : Only G s0 s) :
    Only G s0 (weuskOverCci p len opcode type s) := by
  unfold weuskOverCci
  exact fmWeusk_only (hG.of rfl) hS

theorem unsupportedOpcode_only {p : Nat} {len : Nat} {opcode : Nat} {s : State} (hG : Sub 0x100000000000000000000000100000000000000008000000000001000000000000000000000000000000000000 G) (hS : Only G s0 s) :
    Only G s0 (unsupportedOpcode p len opcode s) := by
  unfold unsupportedOpcode
  exact fmOther_only (hG.of rfl) hS

theorem fmApi_only {ses : Nat} {tag : Nat} {c : FmCmd} {s : State} (hG : Sub 0x40000100000bce40e2b0000504bfe300000000010080008000000000011000000007084000048000001200a00018440 G) (hS : Only G s0 s) :
    Only G s0 (fmApi ses tag c s) := by
  unfold fmApi
  exact fmRun_only (hG.of rfl) hS

theorem remoteBinding_only {ses : Nat} {tag : Nat} {vppb : Nat} {feid : Nat} {ld : Option Nat} {bind : Bool} {mixed : Bool} {answer : FmExt} {s : State} (hG : Sub 0x100000000000008200000008100000000010080008000000000011000200000000000003fff200000000010000 G) (hS : Only G s0 s) :
    Only G s0 (remoteBinding ses tag vppb feid ld bind mixed answer s) := by
  unfold remoteBinding
  extract_lets +onlyGivenNames -underBinder -merge via_1
  extract_lets +onlyGivenNames -underBinder -merge op_2
  extract_lets +onlyGivenNames -underBinder -merge feid_3
  refine State.message_only (hG.of rfl) ?_ hS
  intro u4 hu5
  try beta_reduce
  extract_lets +onlyGivenNames -underBinder -merge bound_6
  extract_lets +onlyGivenNames -underBinder -merge s_7
  have h8 : Only G s0 s_7 := by
    subst s_7
    exact State.set_only (hG.of rfl) hu5
  try clear_value s_7
  extract_lets +onlyGivenNames -underBinder -merge s_9
  have h10 : Only G s0 s_9 := by
    subst s_9
    exact State.set_only (hG.of rfl) h8
  try clear_value s_9
  refine Only.ite ?_ ?_
  · exact State.reply_only (hG.of rfl) hu5
  · refine Only.ite ?_ ?_
    · exact State.fmBad_only (hG.of rfl) hu5
    · refine Only.ite ?_ ?_
      · refine State.fmReply_only (hG.of rfl) ?_
        exact State.count_only (hG.of rfl) hu5
      · refine Only.ite ?_ ?_
        · exact State.fmReply_only (hG.of rfl) hu5
        · refine Only.ite ?_ ?_
          · exact State.fmBad_only (hG.of rfl) hu5
          · refine Only.ite ?_ ?_
            · refine Only.ite ?_ ?_
              · exact State.fmBad_only (hG.of rfl) hu5
              · refine Only.ite ?_ ?_
                · exact State.fmBad_only (hG.of rfl) hu5
                · refine Only.ite ?_ ?_
                  · exact State.fmBad_only (hG.of rfl) hu5
                  · refine Only.ite ?_ ?_
                    · exact State.fmBad_only (hG.of rfl) hu5
                    · refine State.fmReply_only (hG.of rfl) ?_
                      refine State.hotAdd_only (hG.of rfl) ?_
                      exact State.setBinding_only (hG.of rfl) hu5
            · refine Only.ite ?_ ?_
              · exact State.fmBad_only (hG.of rfl) hu5
              · refine State.fmReply_only (hG.of rfl) ?_
                exact State.set_only (hG.of rfl) h10

end Sys2Proof.Machine
end

