-- ==== Sys2Proof/Laws/FrameTiering.lean ====
section
/-! SUPPORT. The frame of each function of Machine/Tiering.lean: the parts of the state that it may change, as a set of bits (StatePart.place), with the canonical form kept. -/

namespace Sys2Proof.Machine

variable {G : Nat} {s0 : State}

theorem State.addHot_only {s : State} {slice : Nat} {bank : Nat} {x : Nat × Nat} (hG : Sub 0x200000000000000000000000000000000000000000000000000000000000000000 G) (hS : Only G s0 s) :
    Only G s0 (State.addHot s slice bank x) := by
  unfold State.addHot
  extract_lets +onlyGivenNames -underBinder -merge a_1
  refine Only.ite ?_ ?_
  · exact hS
  · exact State.writeHbm_only (hG.of rfl) hS

theorem State.hotArrive_only {s : State} {slice : Nat} {g : Nat} {n : Nat} (hG : Sub 0x80000000000000000200000000000000000000000000000000000000000000000000000000000000000 G) (hS : Only G s0 s) :
    Only G s0 (State.hotArrive s slice g n) := by
  unfold State.hotArrive
  extract_lets +onlyGivenNames -underBinder -merge l_1
  extract_lets +onlyGivenNames -underBinder -merge put_2
  have h3 : ∀ u4, Only G s0 u4 → ∀ y6, Only G s0 (put_2 u4 y6) := by
    subst put_2
    intro u4 hu5 y6
    try beta_reduce
    extract_lets +onlyGivenNames -underBinder -merge __src_7
    exact Only.set_hot (hG.of rfl) hu5
  try clear_value put_2
  refine Only.ite ?_ ?_
  · exact hS
  · refine Only.ite ?_ ?_
    · exact h3 _ hS _
    · refine h3 _ ?_ _
      refine Only.fold ?_ hS
      intro u8 y10 hu9
      try beta_reduce
      exact State.addHot_only (hG.of rfl) hu9

theorem State.freePart_only {s : State} {r : Nat} {p : Part} (hG : Sub 0x4000000000000000000000000000000000000000000000000000000000000000000000000000000 G) (hS : Only G s0 s) :
    Only G s0 (State.freePart s r p) := by
  unfold State.freePart
  exact Only.set_resolved (hG.of rfl) hS

theorem State.hotExact_only {s : State} {r : Nat} {p : Part} {at' : Nat} (hG : Sub 0x80004000000000000000000000000000000000000000000000000000000000000000000000000000000 G) (hS : Only G s0 s) :
    Only G s0 (State.hotExact s r p at') := by
  unfold State.hotExact
  extract_lets +onlyGivenNames -underBinder -merge l_1
  extract_lets +onlyGivenNames -underBinder -merge g_2
  extract_lets +onlyGivenNames -underBinder -merge __src_3
  extract_lets +onlyGivenNames -underBinder -merge __src_4
  extract_lets +onlyGivenNames -underBinder -merge w_5
  extract_lets +onlyGivenNames -underBinder -merge __src_6
  refine Only.ite ?_ ?_
  · refine State.freePart_only (hG.of rfl) ?_
    exact Only.set_hot (hG.of rfl) hS
  · refine Only.ite ?_ ?_
    · refine State.freePart_only (hG.of rfl) ?_
      exact Only.set_hot (hG.of rfl) hS
    · exact Only.set_hot (hG.of rfl) hS

theorem State.hotSample_only {s : State} {r : Nat} {p : Part} {credit : Bool} (hG : Sub 0x80000000000000000200000000000000008000000000000000000000400000000000000000000000000 G) (hS : Only G s0 s) :
    Only G s0 (State.hotSample s r p credit) := by
  unfold State.hotSample
  extract_lets +onlyGivenNames -underBinder -merge n_1
  extract_lets +onlyGivenNames -underBinder -merge c_2
  extract_lets +onlyGivenNames -underBinder -merge __src_3
  extract_lets +onlyGivenNames -underBinder -merge __src_4
  extract_lets +onlyGivenNames -underBinder -merge s_5
  have h6 : Only G s0 s_5 := by
    subst s_5
    exact Only.set_hot (hG.of rfl) hS
  try clear_value s_5
  refine Only.ite ?_ ?_
  · exact Only.set_hot (hG.of rfl) hS
  · refine Only.ite ?_ ?_
    · refine State.hotArrive_only (hG.of rfl) ?_
      exact State.tally_only (hG.of rfl) h6
    · refine State.tally_only (hG.of rfl) ?_
      exact State.count_only (hG.of rfl) h6

theorem hotnessNotice_only {r : Nat} {credit : Bool} {s : State} (hG : Sub 0x80004000000000000200000000000000008000000000000000000000400000000000000000000000000 G) (hS : Only G s0 s) :
    Only G s0 (hotnessNotice r credit s) := by
  unfold hotnessNotice
  split
  · exact hS
  · extract_lets +onlyGivenNames -underBinder -merge __src_1
    extract_lets +onlyGivenNames -underBinder -merge s_2
    have h3 : Only G s0 s_2 := by
      subst s_2
      exact Only.set_hot (hG.of rfl) hS
    try clear_value s_2
    refine Only.ite ?_ ?_
    · exact State.hotExact_only (hG.of rfl) h3
    · exact State.hotSample_only (hG.of rfl) h3

theorem hotnessCoalesceFlush_only {r : Nat} {granule : Nat} {s : State} (hG : Sub 0x80004000000000000200000000000000008000000000000000000000400000000000000000000000000 G) (hS : Only G s0 s) :
    Only G s0 (hotnessCoalesceFlush r granule s) := by
  unfold hotnessCoalesceFlush
  split
  · exact hS
  · extract_lets +onlyGivenNames -underBinder -merge __src_1
    extract_lets +onlyGivenNames -underBinder -merge s_2
    have h3 : Only G s0 s_2 := by
      subst s_2
      exact Only.set_hot (hG.of rfl) hS
    try clear_value s_2
    extract_lets +onlyGivenNames -underBinder -merge s_4
    have h5 : Only G s0 s_4 := by
      subst s_4
      refine State.hotArrive_only (hG.of rfl) ?_
      exact State.tally_only (hG.of rfl) h3
    try clear_value s_4
    split
    · exact h5
    · extract_lets +onlyGivenNames -underBinder -merge __src_6
      extract_lets +onlyGivenNames -underBinder -merge s_7
      have h8 : Only G s0 s_7 := by
        subst s_7
        exact Only.set_hot (hG.of rfl) h5
      try clear_value s_7
      refine State.hotExact_only (hG.of rfl) ?_
      exact State.count_only (hG.of rfl) h8

theorem hotnessEpochChange_only {s : State} (hG : Sub 0x80000000000000000200000000000000000000000000000000000000200000000000000000000000000 G) (hS : Only G s0 s) :
    Only G s0 (hotnessEpochChange s) := by
  unfold hotnessEpochChange
  extract_lets +onlyGivenNames -underBinder -merge a_1
  extract_lets +onlyGivenNames -underBinder -merge s_2
  have h3 : Only G s0 s_2 := by
    subst s_2
    exact State.set_only (hG.of rfl) hS
  try clear_value s_2
  extract_lets +onlyGivenNames -underBinder -merge __src_4
  extract_lets +onlyGivenNames -underBinder -merge s_5
  have h6 : Only G s0 s_5 := by
    subst s_5
    exact Only.set_hot (hG.of rfl) h3
  try clear_value s_5
  refine Only.ite ?_ ?_
  · exact hS
  · exact State.clearHbm_only (hG.of rfl) h6

theorem hotnessFlushComplete_only {s : State} (hG : Sub 0x80000000000000000200000000000000000000000000000000000000200000000000000000000000000 G) (hS : Only G s0 s) :
    Only G s0 (hotnessFlushComplete s) := by
  unfold hotnessFlushComplete
  extract_lets +onlyGivenNames -underBinder -merge ret_1
  extract_lets +onlyGivenNames -underBinder -merge s_2
  have h3 : Only G s0 s_2 := by
    subst s_2
    refine Only.fold ?_ hS
    intro u4 y6 hu5
    try beta_reduce
    refine Only.fold ?_ hu5
    intro u8 y10 hu9
    try beta_reduce
    exact State.addHot_only (hG.of rfl) hu9
  try clear_value s_2
  extract_lets +onlyGivenNames -underBinder -merge __src_12
  extract_lets +onlyGivenNames -underBinder -merge s_13
  have h14 : Only G s0 s_13 := by
    subst s_13
    exact Only.set_hot (hG.of rfl) h3
  try clear_value s_13
  extract_lets +onlyGivenNames -underBinder -merge s_15
  have h16 : Only G s0 s_15 := by
    subst s_15
    exact State.set_only (hG.of rfl) h14
  try clear_value s_15
  extract_lets +onlyGivenNames -underBinder -merge s_17
  have h18 : Only G s0 s_17 := by
    subst s_17
    exact State.set_only (hG.of rfl) h16
  try clear_value s_17
  extract_lets +onlyGivenNames -underBinder -merge s_19
  have h20 : Only G s0 s_19 := by
    subst s_19
    exact State.bump_only (hG.of rfl) h18
  try clear_value s_19
  refine Only.ite ?_ ?_
  · exact hS
  · exact State.resultDone_only (hG.of rfl) (hG.of rfl) h20

theorem State.stopNotices_only {s : State} (hG : Sub 0x80004000000000000000000000000000000000000000000000000000400000000000000000000000000 G) (hS : Only G s0 s) :
    Only G s0 (State.stopNotices s) := by
  unfold State.stopNotices
  extract_lets +onlyGivenNames -underBinder -merge due_1
  extract_lets +onlyGivenNames -underBinder -merge late_2
  extract_lets +onlyGivenNames -underBinder -merge s_3
  have h4 : Only G s0 s_3 := by
    subst s_3
    refine Only.fold ?_ hS
    intro u5 y7 hu6
    try beta_reduce
    refine State.freePart_only (hG.of rfl) ?_
    exact State.count_only (hG.of rfl) hu6
  try clear_value s_3
  extract_lets +onlyGivenNames -underBinder -merge s_9
  have h10 : Only G s0 s_9 := by
    subst s_9
    refine Only.fold ?_ h4
    intro u11 y13 hu12
    try beta_reduce
    exact State.freePart_only (hG.of rfl) hu12
  try clear_value s_9
  extract_lets +onlyGivenNames -underBinder -merge __src_15
  exact Only.set_hot (hG.of rfl) h10

theorem hotEnWrite_only {value : Word} {s : State} (hG : Sub 0x80004000000000000200000000000000000000000000000000000000700000000000000000000000000 G) (hS : Only G s0 s) :
    Only G s0 (hotEnWrite value s) := by
  unfold hotEnWrite
  extract_lets +onlyGivenNames -underBinder -merge was_1
  extract_lets +onlyGivenNames -underBinder -merge s_2
  have h3 : Only G s0 s_2 := by
    subst s_2
    exact State.set_only (hG.of rfl) hS
  try clear_value s_2
  extract_lets +onlyGivenNames -underBinder -merge s_4
  have h5 : Only G s0 s_4 := by
    subst s_4
    exact State.set_only (hG.of rfl) h3
  try clear_value s_4
  extract_lets +onlyGivenNames -underBinder -merge s_6
  have h7 : Only G s0 s_6 := by
    subst s_6
    exact State.set_only (hG.of rfl) h5
  try clear_value s_6
  extract_lets +onlyGivenNames -underBinder -merge s_8
  have h9 : Only G s0 s_8 := by
    subst s_8
    exact State.set_only (hG.of rfl) h7
  try clear_value s_8
  extract_lets +onlyGivenNames -underBinder -merge __src_10
  extract_lets +onlyGivenNames -underBinder -merge s_11
  have h12 : Only G s0 s_11 := by
    subst s_11
    exact Only.set_hot (hG.of rfl) h9
  try clear_value s_11
  refine Only.ite ?_ ?_
  · exact State.stopNotices_only (hG.of rfl) h7
  · refine Only.ite ?_ ?_
    · exact h7
    · exact State.clearHbm_only (hG.of rfl) h12

theorem hotnessZeroFillComplete_only {s : State} (hG : Sub 0x80000000000000000000000000000000000000000000000000000000000000000000000000000000000 G) (hS : Only G s0 s) :
    Only G s0 (hotnessZeroFillComplete s) := by
  unfold hotnessZeroFillComplete
  extract_lets +onlyGivenNames -underBinder -merge __src_1
  refine Only.ite ?_ ?_
  · exact Only.set_hot (hG.of rfl) hS
  · exact hS

theorem migrate_only {e : Nat} {s : State} (hG : Sub 0x1720002b000000000020000000000000000000000000000000000000700002004c000000000200000000 G) (hS : Only G s0 s) :
    Only G s0 (migrate e s) := by
  unfold migrate
  split
  · exact hS
  · extract_lets +onlyGivenNames -underBinder -merge p0_1
    extract_lets +onlyGivenNames -underBinder -merge p1_2
    extract_lets +onlyGivenNames -underBinder -merge i_3
    refine Only.ite ?_ ?_
    · exact hS
    · split
      · extract_lets +onlyGivenNames -underBinder -merge src_4
        extract_lets +onlyGivenNames -underBinder -merge s_5
        have h6 : Only G s0 s_5 := by
          subst s_5
          refine Only.ite ?_ ?_
          · exact hS
          · exact State.fractureExtent_only (hG.of rfl) hS
        try clear_value s_5
        extract_lets +onlyGivenNames -underBinder -merge s_7
        have h8 : Only G s0 s_7 := by
          subst s_7
          exact State.setReg_only (hG.of rfl) h6
        try clear_value s_7
        extract_lets +onlyGivenNames -underBinder -merge s_9
        have h10 : Only G s0 s_9 := by
          subst s_9
          exact State.set_only (hG.of rfl) h8
        try clear_value s_9
        extract_lets +onlyGivenNames -underBinder -merge s_11
        have h12 : Only G s0 s_11 := by
          subst s_11
          exact State.set_only (hG.of rfl) h10
        try clear_value s_11
        extract_lets +onlyGivenNames -underBinder -merge s_13
        have h14 : Only G s0 s_13 := by
          subst s_13
          exact State.set_only (hG.of rfl) h12
        try clear_value s_13
        extract_lets +onlyGivenNames -underBinder -merge s_15
        have h16 : Only G s0 s_15 := by
          subst s_15
          exact State.set_only (hG.of rfl) h14
        try clear_value s_15
        extract_lets +onlyGivenNames -underBinder -merge s_17
        have h18 : Only G s0 s_17 := by
          subst s_17
          exact State.set_only (hG.of rfl) h16
        try clear_value s_17
        extract_lets +onlyGivenNames -underBinder -merge s_19
        have h20 : Only G s0 s_19 := by
          subst s_19
          exact State.setReg_only (hG.of rfl) h18
        try clear_value s_19
        extract_lets +onlyGivenNames -underBinder -merge s_21
        have h22 : Only G s0 s_21 := by
          subst s_21
          exact State.set_only (hG.of rfl) h20
        try clear_value s_21
        extract_lets +onlyGivenNames -underBinder -merge s_23
        have h24 : Only G s0 s_23 := by
          subst s_23
          refine State.setMigBits_only (hG.of rfl) ?_
          exact State.clearMaps_only (hG.of rfl) h22
        try clear_value s_23
        extract_lets +onlyGivenNames -underBinder -merge pts_25
        refine State.requestDrain_only (hG.of rfl) ?_
        exact State.setMig_only (hG.of rfl) h24
      · exact hS
      · exact State.finishJob_only (hG.of rfl) hS

theorem State.startPass_only {s : State} {k : Nat} {first : Bool} {more : List Nat} (hG : Sub 0x72000000000000000000000000000000000000000000000000000002000000000000000000000000000 G) (hS : Only G s0 s) :
    Only G s0 (State.startPass s k first more) := by
  unfold State.startPass
  extract_lets +onlyGivenNames -underBinder -merge blocks_1
  extract_lets +onlyGivenNames -underBinder -merge begins_2
  extract_lets +onlyGivenNames -underBinder -merge s_3
  have h4 : Only G s0 s_3 := by
    subst s_3
    refine State.set_only (hG.of rfl) ?_
    exact State.clearMaps_only (hG.of rfl) hS
  try clear_value s_3
  extract_lets +onlyGivenNames -underBinder -merge pts_5
  refine State.requestDrain_only (hG.of rfl) ?_
  exact State.modMig_only (hG.of rfl) h4

theorem State.copyBlocks_only {s : State} {k : Nat} (hG : Sub 0x3ce00c200000004000300000000000000008000000000000000000007000000000000000000000000000 G) (hS : Only G s0 s) :
    Only G s0 (State.copyBlocks s k) := by
  unfold State.copyBlocks
  split
  · exact hS
  · extract_lets +onlyGivenNames -underBinder -merge e_1
    extract_lets +onlyGivenNames -underBinder -merge s_2
    have h3 : Only G s0 s_2 := by
      subst s_2
      exact State.modMig_only (hG.of rfl) hS
    try clear_value s_2
    refine State.pump_only (hG.of rfl) ?_
    exact State.addAcc_only (hG.of rfl) h3

theorem State.sanitizeBlocks_only {s : State} {k : Nat} (hG : Sub 0x3ce00c200000004000300000000000000008000000000000000000007000000000000000000000000000 G) (hS : Only G s0 s) :
    Only G s0 (State.sanitizeBlocks s k) := by
  unfold State.sanitizeBlocks
  split
  · exact hS
  · extract_lets +onlyGivenNames -underBinder -merge e_1
    extract_lets +onlyGivenNames -underBinder -merge s_2
    have h3 : Only G s0 s_2 := by
      subst s_2
      exact State.modMig_only (hG.of rfl) hS
    try clear_value s_2
    refine State.pump_only (hG.of rfl) ?_
    exact State.addAcc_only (hG.of rfl) h3

theorem State.drained_only {s : State} {k : Nat} (hG : Sub 0x3fe00c200000004000300000000000000008000000000000000000007000000000000000000000000000 G) (hS : Only G s0 s) :
    Only G s0 (State.drained s k) := by
  unfold State.drained
  split
  · exact hS
  · refine Only.ite ?_ ?_
    · exact hS
    · split
      · exact State.startPass_only (hG.of rfl) hS
      · refine Only.ite ?_ ?_
        · exact hS
        · exact State.copyBlocks_only (hG.of rfl) hS
      · extract_lets +onlyGivenNames -underBinder -merge blocks_1
        extract_lets +onlyGivenNames -underBinder -merge s_2
        have h3 : Only G s0 s_2 := by
          subst s_2
          refine State.set_only (hG.of rfl) ?_
          exact State.clearMaps_only (hG.of rfl) hS
        try clear_value s_2
        refine Only.ite ?_ ?_
        · exact hS
        · refine State.copyBlocks_only (hG.of rfl) ?_
          exact State.modMig_only (hG.of rfl) h3
      · refine Only.ite ?_ ?_
        · exact hS
        · exact State.sanitizeBlocks_only (hG.of rfl) hS
      · exact hS

theorem drainComplete_only {pt : Nat} {s : State} (hG : Sub 0x3fe00c200000004000300000000000000008000000000000000000007000000000000000000000000000 G) (hS : Only G s0 s) :
    Only G s0 (drainComplete pt s) := by
  unfold drainComplete
  extract_lets +onlyGivenNames -underBinder -merge now_1
  extract_lets +onlyGivenNames -underBinder -merge s_2
  have h3 : Only G s0 s_2 := by
    subst s_2
    exact Only.set_drains (hG.of rfl) hS
  try clear_value s_2
  extract_lets +onlyGivenNames -underBinder -merge ks_4
  extract_lets +onlyGivenNames -underBinder -merge s_5
  have h6 : Only G s0 s_5 := by
    subst s_5
    refine State.each_only ?_ h3
    intro y7 u8 hu9
    try beta_reduce
    exact State.modMig_only (hG.of rfl) hu9
  try clear_value s_5
  refine Only.ite ?_ ?_
  · exact hS
  · refine Only.ite ?_ ?_
    · exact hS
    · refine State.each_only ?_ h6
      intro y10 u11 hu12
      try beta_reduce
      exact State.drained_only (hG.of rfl) hu12

theorem copyPassComplete_only {k : Nat} {s : State} (hG : Sub 0x3fe00c200000004000300000000000000008000000000000000000007000000000000000000000000000 G) (hS : Only G s0 s) :
    Only G s0 (copyPassComplete k s) := by
  unfold copyPassComplete
  split
  · exact hS
  · extract_lets +onlyGivenNames -underBinder -merge n_1
    extract_lets +onlyGivenNames -underBinder -merge p_2
    extract_lets +onlyGivenNames -underBinder -merge s_3
    have h4 : Only G s0 s_3 := by
      subst s_3
      refine State.set_only (hG.of rfl) ?_
      exact State.set_only (hG.of rfl) hS
    try clear_value s_3
    refine Only.ite ?_ ?_
    · exact hS
    · refine Only.ite ?_ ?_
      · refine State.modMig_only (hG.of rfl) ?_
        exact State.set_only (hG.of rfl) h4
      · refine Only.ite ?_ ?_
        · exact State.endMig_only (hG.of rfl) h4
        · exact State.startPass_only (hG.of rfl) h4

theorem migrationHold_only {k : Nat} {s : State} (hG : Sub 0x70000200000000000200000000000000000000000000000000000000000000000000000000000000000 G) (hS : Only G s0 s) :
    Only G s0 (migrationHold k s) := by
  unfold migrationHold
  split
  · exact hS
  · extract_lets +onlyGivenNames -underBinder -merge pts_1
    extract_lets +onlyGivenNames -underBinder -merge s_2
    have h3 : Only G s0 s_2 := by
      subst s_2
      exact State.setMigBits_only (hG.of rfl) hS
    try clear_value s_2
    refine Only.ite ?_ ?_
    · exact hS
    · refine State.requestDrain_only (hG.of rfl) ?_
      exact State.modMig_only (hG.of rfl) h3

theorem holdAbort_only {k : Nat} {s : State} (hG : Sub 0x3fe00c200000004000300000000000000008000000000000000000007000000000000000000000000000 G) (hS : Only G s0 s) :
    Only G s0 (holdAbort k s) := by
  unfold holdAbort
  split
  · exact hS
  · extract_lets +onlyGivenNames -underBinder -merge s_1
    have h2 : Only G s0 s_1 := by
      subst s_1
      refine State.releaseHeld_only (hG.of rfl) ?_
      exact State.setMigBits_only (hG.of rfl) hS
    try clear_value s_1
    extract_lets +onlyGivenNames -underBinder -merge s_3
    have h4 : Only G s0 s_3 := by
      subst s_3
      exact State.count_only (hG.of rfl) h2
    try clear_value s_3
    extract_lets +onlyGivenNames -underBinder -merge s_5
    have h6 : Only G s0 s_5 := by
      subst s_5
      exact State.modMig_only (hG.of rfl) h4
    try clear_value s_5
    refine Only.ite ?_ ?_
    · exact hS
    · refine Only.ite ?_ ?_
      · exact State.endMig_only (hG.of rfl) h6
      · exact State.startPass_only (hG.of rfl) h6

theorem migrationSwap_only {k : Nat} {s : State} (hG : Sub 0xfe004200000000000300000000000000008000000000000000000002000000000000000000000000000 G) (hS : Only G s0 s) :
    Only G s0 (migrationSwap k s) := by
  unfold migrationSwap
  split
  · exact hS
  · extract_lets +onlyGivenNames -underBinder -merge new_1
    extract_lets +onlyGivenNames -underBinder -merge s_2
    have h3 : Only G s0 s_2 := by
      subst s_2
      refine State.releaseHeld_only (hG.of rfl) ?_
      refine State.clearMaps_only (hG.of rfl) ?_
      exact State.setL2_only (hG.of rfl) hS
    try clear_value s_2
    extract_lets +onlyGivenNames -underBinder -merge s_4
    have h5 : Only G s0 s_4 := by
      subst s_4
      exact State.set_only (hG.of rfl) h3
    try clear_value s_4
    extract_lets +onlyGivenNames -underBinder -merge pts_6
    refine Only.ite ?_ ?_
    · exact hS
    · refine State.requestDrain_only (hG.of rfl) ?_
      exact State.modMig_only (hG.of rfl) h5

theorem migrationFinish_only {k : Nat} {s : State} (hG : Sub 0x1420000b000000000000000000000000000000000000000000000000700002004c000000000200000000 G) (hS : Only G s0 s) :
    Only G s0 (migrationFinish k s) := by
  unfold migrationFinish
  split
  · exact hS
  · extract_lets +onlyGivenNames -underBinder -merge i_1
    extract_lets +onlyGivenNames -underBinder -merge sanitized_2
    extract_lets +onlyGivenNames -underBinder -merge s_3
    have h4 : Only G s0 s_3 := by
      subst s_3
      refine Only.ite ?_ ?_
      · exact State.unfractureExtent_only (hG.of rfl) hS
      · exact hS
    try clear_value s_3
    refine Only.ite ?_ ?_
    · exact hS
    · refine State.freeMig_only (hG.of rfl) ?_
      refine State.migOutcome_only (hG.of rfl) ?_
      exact State.count_only (hG.of rfl) h4

theorem State.migFence_only {s : State} {k : Nat} {m : MigRun} (hG : Sub 0x3fe00c200000004000300000000000000008000000000000000000007000000000000000000000000000 G) (hS : Only G s0 s) :
    Only G s0 (State.migFence s k m) := by
  unfold State.migFence
  extract_lets +onlyGivenNames -underBinder -merge gone_1
  refine Only.ite ?_ ?_
  · exact State.endMig_only (hG.of rfl) hS
  · refine Only.ite ?_ ?_
    · exact State.endMig_only (hG.of rfl) hS
    · refine Only.ite ?_ ?_
      · exact hS
      · refine State.drained_only (hG.of rfl) ?_
        exact State.modMig_only (hG.of rfl) hS

theorem migrationLoss_only {k : Nat} {what : Nat} {s : State} (hG : Sub 0x3fe00c200000004000300000000000000008000000000000000000007000000000000000000000000000 G) (hS : Only G s0 s) :
    Only G s0 (migrationLoss k what s) := by
  unfold migrationLoss
  split
  · exact hS
  · split
    · refine Only.ite ?_ ?_
      · exact hS
      · refine Only.ite ?_ ?_
        · exact State.modMig_only (hG.of rfl) hS
        · exact State.endMig_only (hG.of rfl) hS
    · refine Only.ite ?_ ?_
      · exact hS
      · exact State.endMig_only (hG.of rfl) hS
    · exact State.migFence_only (hG.of rfl) hS
    · refine Only.ite ?_ ?_
      · exact State.endMig_only (hG.of rfl) hS
      · exact hS

theorem migCfgWrite_only {value : Word} {s : State} (hG : Sub 0x2000000000000000000000000000000000010000008000000000010000000000800000000000000000000000008 G) (hS : Only G s0 s) :
    Only G s0 (migCfgWrite value s) := by
  unfold migCfgWrite
  extract_lets +onlyGivenNames -underBinder -merge blks_1
  extract_lets +onlyGivenNames -underBinder -merge ns_2
  extract_lets +onlyGivenNames -underBinder -merge passes_3
  extract_lets +onlyGivenNames -underBinder -merge holds_4
  refine Only.ite ?_ ?_
  · exact State.refuseWrite_only (hG.of rfl) hS
  · exact State.setReg_only (hG.of rfl) hS

end Sys2Proof.Machine
end

