-- ==== Sys2Proof/Laws/FrameTongs.lean ====
section
/-! SUPPORT. The frame of each function of Machine/Tongs.lean: the parts of the state that it may change, as a set of bits (StatePart.place), with the canonical form kept. -/

namespace Sys2Proof.Machine

variable {G : Nat} {s0 : State}

theorem State.grantJob_only {s : State} {c : Nat} {e : Nat} {j : Job} (hG : Sub 0x300000000000000000000000000000000000000000000000000004010000000000000000000000000000 G) (hS : Only G s0 s) :
    Only G s0 (State.grantJob s c e j) := by
  unfold State.grantJob
  extract_lets +onlyGivenNames -underBinder -merge s_1
  have h2 : Only G s0 s_1 := by
    subst s_1
    refine State.showQueue_only (hG.of rfl) ?_
    exact State.modCluster_only (hG.of rfl) hS
  try clear_value s_1
  extract_lets +onlyGivenNames -underBinder -merge v_3
  extract_lets +onlyGivenNames -underBinder -merge id_4
  extract_lets +onlyGivenNames -underBinder -merge run_5
  extract_lets +onlyGivenNames -underBinder -merge s_6
  have h7 : Only G s0 s_6 := by
    subst s_6
    exact State.modEngine_only (hG.of rfl) h2
  try clear_value s_6
  extract_lets +onlyGivenNames -underBinder -merge s_8
  have h9 : Only G s0 s_8 := by
    subst s_8
    exact State.set_only (hG.of rfl) h7
  try clear_value s_8
  extract_lets +onlyGivenNames -underBinder -merge s_10
  have h11 : Only G s0 s_10 := by
    subst s_10
    exact State.set_only (hG.of rfl) h9
  try clear_value s_10
  extract_lets +onlyGivenNames -underBinder -merge s_12
  have h13 : Only G s0 s_12 := by
    subst s_12
    exact State.set_only (hG.of rfl) h11
  try clear_value s_12
  extract_lets +onlyGivenNames -underBinder -merge s_14
  have h15 : Only G s0 s_14 := by
    subst s_14
    exact State.setBit_only (hG.of rfl) h13
  try clear_value s_14
  refine Only.ite ?_ ?_
  · exact State.finishJob_only (hG.of rfl) h15
  · exact h15

theorem jobDispatch_only {c : Nat} {s : State} (hG : Sub 0x301000000000000000100000000040000000000000000002000004c10000000000000000000000000000 G) (hS : Only G s0 s) :
    Only G s0 (jobDispatch c s) := by
  unfold jobDispatch
  refine Only.ite ?_ ?_
  · exact hS
  · split
    · exact hS
    · split
      · exact State.grantJob_only (hG.of rfl) hS
      · exact State.endQueued_only (hG.of rfl) hS

theorem tngSubGo_only {c : Nat} {s : State} (hG : Sub 0x2010000000000000000000000000000000000000000000000000008d0000000000000000000000000000 G) (hS : Only G s0 s) :
    Only G s0 (tngSubGo c s) := by
  unfold tngSubGo
  extract_lets +onlyGivenNames -underBinder -merge desc_1
  extract_lets +onlyGivenNames -underBinder -merge st_2
  extract_lets +onlyGivenNames -underBinder -merge id_3
  extract_lets +onlyGivenNames -underBinder -merge s_4
  have h5 : Only G s0 s_4 := by
    subst s_4
    refine State.submitJob_only (hG.of rfl) ?_
    exact State.resultStart_only (hG.of rfl) hS
  try clear_value s_4
  extract_lets +onlyGivenNames -underBinder -merge s_6
  have h7 : Only G s0 s_6 := by
    subst s_6
    exact State.set_only (hG.of rfl) h5
  try clear_value s_6
  extract_lets +onlyGivenNames -underBinder -merge s_8
  have h9 : Only G s0 s_8 := by
    subst s_8
    refine Only.ite ?_ ?_
    · exact State.set_only (hG.of rfl) h7
    · exact h7
  try clear_value s_8
  exact State.resultDone_only (hG.of rfl) (hG.of rfl) h9

theorem deviceJobSubmit_only {c : Nat} {fill : Bool} {arg : Nat} {s : State} (hG : Sub 0x201000000000000000000000000000000000000000000000000000010000000000000000000000000000 G) (hS : Only G s0 s) :
    Only G s0 (deviceJobSubmit c fill arg s) := by
  unfold deviceJobSubmit
  refine Only.ite ?_ ?_
  · exact hS
  · refine Only.ite ?_ ?_
    · exact State.queueJob_only (hG.of rfl) hS
    · exact State.queueJob_only (hG.of rfl) hS

theorem State.decodeOp_only {s : State} {e : Nat} {rd : Nat} {op : CpOp} (hG : Sub 0x3ce00c200000004000300000000000000008000000000000000000007000000000000000000000000000 G) (hS : Only G s0 s) :
    Only G s0 (State.decodeOp s e rd op) := by
  unfold State.decodeOp
  extract_lets +onlyGivenNames -underBinder -merge x_1
  refine Only.ite ?_ ?_
  · exact hS
  · split
    · exact hS
    · extract_lets +onlyGivenNames -underBinder -merge g_2
      extract_lets +onlyGivenNames -underBinder -merge may_3
      extract_lets +onlyGivenNames -underBinder -merge bad_4
      extract_lets +onlyGivenNames -underBinder -merge c_5
      extract_lets +onlyGivenNames -underBinder -merge s_6
      have h7 : Only G s0 s_6 := by
        subst s_6
        exact State.setEngine_only (hG.of rfl) hS
      try clear_value s_6
      extract_lets +onlyGivenNames -underBinder -merge s_8
      have h9 : Only G s0 s_8 := by
        subst s_8
        exact State.tallyEngine_only (hG.of rfl) h7
      try clear_value s_8
      refine Only.ite ?_ ?_
      · refine State.pump_only (hG.of rfl) ?_
        exact State.addAcc_only (hG.of rfl) h9
      · exact h9

theorem dmLd_only {e : Nat} {rd : Nat} {asr : Nat} {size : Nat} {addr : Nat} {off : Nat} {s : State} (hG : Sub 0x3ce00c200000004000300000000000000008000000000000000000007000000000000000000000000000 G) (hS : Only G s0 s) :
    Only G s0 (dmLd e rd asr size addr off s) := by
  unfold dmLd
  exact State.decodeOp_only (hG.of rfl) hS

theorem dmSt_only {e : Nat} {rd : Nat} {asr : Nat} {size : Nat} {addr : Nat} {off : Nat} {s : State} (hG : Sub 0x3ce00c200000004000300000000000000008000000000000000000007000000000000000000000000000 G) (hS : Only G s0 s) :
    Only G s0 (dmSt e rd asr size addr off s) := by
  unfold dmSt
  exact State.decodeOp_only (hG.of rfl) hS

theorem dmCopy_only {e : Nat} {rd : Nat} {asr : Nat} {size : Nat} {src : Nat} {dst : Nat} {s : State} (hG : Sub 0x3ce00c200000004000300000000000000008000000000000000000007000000000000000000000000000 G) (hS : Only G s0 s) :
    Only G s0 (dmCopy e rd asr size src dst s) := by
  unfold dmCopy
  exact State.decodeOp_only (hG.of rfl) hS

theorem dmFill_only {e : Nat} {rd : Nat} {asr : Nat} {size : Nat} {addr : Nat} {pattern : Word} {s : State} (hG : Sub 0x3ce00c200000004000300000000000000008000000000000000000007000000000000000000000000000 G) (hS : Only G s0 s) :
    Only G s0 (dmFill e rd asr size addr pattern s) := by
  unfold dmFill
  exact State.decodeOp_only (hG.of rfl) hS

theorem dmAmo_only {e : Nat} {rd : Nat} {asr : Nat} {f : Nat} {addr : Nat} {operand : Word} {s : State} (hG : Sub 0x3ce00c200000004000300000000000000008000000000000000000007000000000000000000000000000 G) (hS : Only G s0 s) :
    Only G s0 (dmAmo e rd asr f addr operand s) := by
  unfold dmAmo
  exact State.decodeOp_only (hG.of rfl) hS

theorem dmWait_only {e : Nat} {rd : Nat} {ticket : Option Nat} {s : State} (hG : Sub 0x3ce00c200000004000300000000000000008000000000000000000007000000000000000000000000000 G) (hS : Only G s0 s) :
    Only G s0 (dmWait e rd ticket s) := by
  unfold dmWait
  exact State.decodeOp_only (hG.of rfl) hS

theorem dmFence_only {e : Nat} {scope : Nat} {s : State} (hG : Sub 0x3ce00c200000004000300000000000000008000000000000000000007000000000000000000000000000 G) (hS : Only G s0 s) :
    Only G s0 (dmFence e scope s) := by
  unfold dmFence
  exact State.decodeOp_only (hG.of rfl) hS

theorem dmCrc_only {e : Nat} {rd : Nat} {off : Nat} {length : Nat} {s : State} (hG : Sub 0x3ce00c200000004000300000000000000008000000000000000000007000000000000000000000000000 G) (hS : Only G s0 s) :
    Only G s0 (dmCrc e rd off length s) := by
  unfold dmCrc
  exact State.decodeOp_only (hG.of rfl) hS

theorem jobDone_only {e : Nat} {status : Nat} {off : Nat} {s : State} (hG : Sub 0x3ce00c200000004000300000000000000008000000000000000000007000000000000000000000000000 G) (hS : Only G s0 s) :
    Only G s0 (jobDone e status off s) := by
  unfold jobDone
  exact State.decodeOp_only (hG.of rfl) hS

theorem jobSubmit_only {e : Nat} {rd : Nat} {off : Nat} {target : Nat} {s : State} (hG : Sub 0x3ce00c200000004000300000000000000008000000000000000000007000000000000000000000000000 G) (hS : Only G s0 s) :
    Only G s0 (jobSubmit e rd off target s) := by
  unfold jobSubmit
  exact State.decodeOp_only (hG.of rfl) hS

theorem State.removeEntries_only {s : State} {e : Nat} {gone : List CpEntry} {n : Nat} (hG : Sub 0x30800c000000004000000000000000000008000000000000000008000000000000000000000000000000 G) (hS : Only G s0 s) :
    Only G s0 (State.removeEntries s e gone n) := by
  unfold State.removeEntries
  extract_lets +onlyGivenNames -underBinder -merge s_1
  have h2 : Only G s0 s_1 := by
    subst s_1
    exact State.discardAcc_only (hG.of rfl) hS
  try clear_value s_1
  extract_lets +onlyGivenNames -underBinder -merge s_3
  have h4 : Only G s0 s_3 := by
    subst s_3
    exact State.modEngine_only (hG.of rfl) h2
  try clear_value s_3
  refine State.tallyEngine_only (hG.of rfl) ?_
  exact State.count_only (hG.of rfl) h4

theorem State.trap_only {s : State} {e : Nat} {c : CpEntry} {cause : Nat} {tval : Nat} (hG : Sub 0x30800c000000004000000000000000000008000000000000000008000000000000000000000000000000 G) (hS : Only G s0 s) :
    Only G s0 (State.trap s e c cause tval) := by
  unfold State.trap
  extract_lets +onlyGivenNames -underBinder -merge young_1
  extract_lets +onlyGivenNames -underBinder -merge s_2
  have h3 : Only G s0 s_2 := by
    subst s_2
    exact State.removeEntries_only (hG.of rfl) hS
  try clear_value s_2
  exact State.modEngine_only (hG.of rfl) h3

theorem State.kernelDone_only {s : State} {e : Nat} {status : Nat} {off : Nat} (hG : Sub 0x100000000000000000000000000000000000000000000000000000000000000000000000000000000000 G) (hS : Only G s0 s) :
    Only G s0 (State.kernelDone s e status off) := by
  unfold State.kernelDone
  extract_lets +onlyGivenNames -underBinder -merge x_1
  refine Only.ite ?_ ?_
  · exact State.finishJob_only (hG.of rfl) hS
  · exact State.finishJob_only (hG.of rfl) hS

theorem State.commitTicket_only {s : State} {e : Nat} {c : CpEntry} (hG : Sub 0x100000000000000000000000000000000000000000000000000000000000000000000000000000000000 G) (hS : Only G s0 s) :
    Only G s0 (State.commitTicket s e c) := by
  unfold State.commitTicket
  exact State.modEngine_only (hG.of rfl) hS

theorem State.commitValue_only {s : State} {e : Nat} {c : CpEntry} {v : Word} (hG : Sub 0x100000000000000000000000000000000000000000000000000000000000000000000000000000000000 G) (hS : Only G s0 s) :
    Only G s0 (State.commitValue s e c v) := by
  unfold State.commitValue
  exact State.modEngine_only (hG.of rfl) hS

theorem State.unstage_only {s : State} {e : Nat} {c : CpEntry} (hG : Sub 0x300000000000000000000000000000000000000000000000000000000000000000000000000000000000 G) (hS : Only G s0 s) :
    Only G s0 (State.unstage s e c) := by
  unfold State.unstage
  extract_lets +onlyGivenNames -underBinder -merge s_1
  have h2 : Only G s0 s_1 := by
    subst s_1
    refine Only.fold ?_ hS
    intro u3 y5 hu4
    try beta_reduce
    split
    · exact State.deliverLine_only (hG.of rfl) hu4
    · exact hu4
  try clear_value s_1
  exact State.modEngine_only (hG.of rfl) h2

theorem State.startCommitted_only {s : State} {e : Nat} {c : CpEntry} (hG : Sub 0x200000000000000000000000000000000008000000000000000008000000000000000000000000000000 G) (hS : Only G s0 s) :
    Only G s0 (State.startCommitted s e c) := by
  unfold State.startCommitted
  extract_lets +onlyGivenNames -underBinder -merge s_1
  have h2 : Only G s0 s_1 := by
    subst s_1
    refine Only.ite ?_ ?_
    · refine State.tallyEngine_only (hG.of rfl) ?_
      exact State.count_only (hG.of rfl) hS
    · exact hS
  try clear_value s_1
  refine Only.ite ?_ ?_
  · exact hS
  · exact State.addAcc_only (hG.of rfl) h2

theorem coprocessorCommit_only {e : Nat} {s : State} (hG : Sub 0x3cf00c200000004000300000000000000008000000000000000008817000000000000000000000000000 G) (hS : Only G s0 s) :
    Only G s0 (coprocessorCommit e s) := by
  unfold coprocessorCommit
  extract_lets +onlyGivenNames -underBinder -merge x_1
  split
  · exact hS
  · extract_lets +onlyGivenNames -underBinder -merge older_2
    extract_lets +onlyGivenNames -underBinder -merge room_3
    split
    · exact State.trap_only (hG.of rfl) hS
    · split
      · refine Only.ite ?_ ?_
        · exact hS
        · exact State.commitValue_only (hG.of rfl) hS
      · refine Only.ite ?_ ?_
        · exact hS
        · refine State.modEngine_only (hG.of rfl) ?_
          exact State.commitValue_only (hG.of rfl) hS
      · refine Only.ite ?_ ?_
        · exact hS
        · refine State.pump_only (hG.of rfl) ?_
          exact State.modEngine_only (hG.of rfl) hS
      · exact State.commitValue_only (hG.of rfl) hS
      · refine State.kernelDone_only (hG.of rfl) ?_
        exact State.modEngine_only (hG.of rfl) hS
      · extract_lets +onlyGivenNames -underBinder -merge desc_4
        extract_lets +onlyGivenNames -underBinder -merge st_5
        extract_lets +onlyGivenNames -underBinder -merge id_6
        refine State.commitValue_only (hG.of rfl) ?_
        exact State.submitJob_only (hG.of rfl) hS
      · refine State.pump_only (hG.of rfl) ?_
        refine State.modEngine_only (hG.of rfl) ?_
        refine State.startCommitted_only (hG.of rfl) ?_
        refine State.unstage_only (hG.of rfl) ?_
        exact State.commitTicket_only (hG.of rfl) hS
      · refine Only.ite ?_ ?_
        · exact hS
        · refine State.pump_only (hG.of rfl) ?_
          refine State.startCommitted_only (hG.of rfl) ?_
          refine State.unstage_only (hG.of rfl) ?_
          exact State.commitTicket_only (hG.of rfl) hS
      · extract_lets +onlyGivenNames -underBinder -merge l_7
        refine Only.ite ?_ ?_
        · exact hS
        · refine State.pump_only (hG.of rfl) ?_
          refine State.addAcc_only (hG.of rfl) ?_
          exact State.commitTicket_only (hG.of rfl) hS
      · extract_lets +onlyGivenNames -underBinder -merge d_8
        refine Only.ite ?_ ?_
        · exact hS
        · refine State.pump_only (hG.of rfl) ?_
          refine State.addAcc_only (hG.of rfl) ?_
          exact State.commitTicket_only (hG.of rfl) hS
      · extract_lets +onlyGivenNames -underBinder -merge __src_9
        extract_lets +onlyGivenNames -underBinder -merge a_10
        extract_lets +onlyGivenNames -underBinder -merge s_11
        have h12 : Only G s0 s_11 := by
          subst s_11
          exact State.modEngine_only (hG.of rfl) hS
        try clear_value s_11
        refine Only.ite ?_ ?_
        · exact hS
        · refine State.pump_only (hG.of rfl) ?_
          exact State.addAcc_only (hG.of rfl) h12

theorem speculativeReadDefer_only {e : Nat} {ticket : Nat} {s : State} (hG : Sub 0x3ce00c200000004000300000000000000008000000000000000008007000000000000000000000000000 G) (hS : Only G s0 s) :
    Only G s0 (speculativeReadDefer e ticket s) := by
  unfold speculativeReadDefer
  split
  · exact hS
  · extract_lets +onlyGivenNames -underBinder -merge s_1
    have h2 : Only G s0 s_1 := by
      subst s_1
      exact State.discardAcc_only (hG.of rfl) hS
    try clear_value s_1
    extract_lets +onlyGivenNames -underBinder -merge s_3
    have h4 : Only G s0 s_3 := by
      subst s_3
      exact State.modEngine_only (hG.of rfl) h2
    try clear_value s_3
    refine Only.ite ?_ ?_
    · exact hS
    · refine Only.ite ?_ ?_
      · refine State.pump_only (hG.of rfl) ?_
        refine State.addAcc_only (hG.of rfl) ?_
        refine State.tallyEngine_only (hG.of rfl) ?_
        exact State.count_only (hG.of rfl) h4
      · exact h4

theorem coprocessorSquash_only {e : Nat} {kept : Nat} {s : State} (hG : Sub 0x30800c000000004000000000000000000008000000000000000008000000000000000000000000000000 G) (hS : Only G s0 s) :
    Only G s0 (coprocessorSquash e kept s) := by
  unfold coprocessorSquash
  extract_lets +onlyGivenNames -underBinder -merge gone_1
  refine Only.ite ?_ ?_
  · exact hS
  · exact State.removeEntries_only (hG.of rfl) hS

theorem farResponse_only {e : Nat} {tag : Nat} {status : Nat} {slag : Nat} {data : List Byte} {s : State} (hG : Sub 0x3ce00c200000004000300000000000000008000000000000000000007000000000000000000000000000 G) (hS : Only G s0 s) :
    Only G s0 (farResponse e tag status slag data s) := by
  unfold farResponse
  split
  · exact hS
  · extract_lets +onlyGivenNames -underBinder -merge sent_1
    have h2 : ∀ y3, Only G s0 (sent_1 y3) := by
      subst sent_1
      intro y3
      try beta_reduce
      refine State.pump_only (hG.of rfl) ?_
      refine State.farAnswer_only (hG.of rfl) ?_
      refine State.engineOver_only (hG.of rfl) ?_
      exact State.forgetReqs_only (hG.of rfl) hS
    try clear_value sent_1
    split
    · exact hS
    · exact h2 _
    · refine Only.ite ?_ ?_
      · exact hS
      · exact h2 _

theorem State.serviceBurst_only {s : State} {e : Nat} {svc : Nat} {f : JobRun → Nat → List FarAcc} (hG : Sub 0x3ce00c200000004000300000000000000008000000000000000000007000000000000000000000000000 G) (hS : Only G s0 s) :
    Only G s0 (State.serviceBurst s e svc f) := by
  unfold State.serviceBurst
  split
  · exact hS
  · extract_lets +onlyGivenNames -underBinder -merge n_1
    extract_lets +onlyGivenNames -underBinder -merge outside_2
    extract_lets +onlyGivenNames -underBinder -merge uses_3
    extract_lets +onlyGivenNames -underBinder -merge s_4
    have h5 : Only G s0 s_4 := by
      subst s_4
      exact State.modRun_only (hG.of rfl) hS
    try clear_value s_4
    refine Only.ite ?_ ?_
    · exact hS
    · refine Only.ite ?_ ?_
      · exact State.settleJob_only (hG.of rfl) hS
      · refine Only.ite ?_ ?_
        · exact State.finishJob_only (hG.of rfl) hS
        · refine State.settleJob_only (hG.of rfl) ?_
          refine State.pump_only (hG.of rfl) ?_
          exact State.addAcc_only (hG.of rfl) h5

theorem jobCopy_only {e : Nat} {s : State} (hG : Sub 0x3ce00c200000004000300000000000000008000000000000000000007000000000000000000000000000 G) (hS : Only G s0 s) :
    Only G s0 (jobCopy e s) := by
  unfold jobCopy
  exact State.serviceBurst_only (hG.of rfl) hS

theorem jobFill_only {e : Nat} {s : State} (hG : Sub 0x3ce00c200000004000300000000000000008000000000000000000007000000000000000000000000000 G) (hS : Only G s0 s) :
    Only G s0 (jobFill e s) := by
  unfold jobFill
  exact State.serviceBurst_only (hG.of rfl) hS

theorem jobCrc_only {e : Nat} {s : State} (hG : Sub 0x3ce00c200000004000300000000000000008000000000000000000007000000000000000000000000000 G) (hS : Only G s0 s) :
    Only G s0 (jobCrc e s) := by
  unfold jobCrc
  exact State.serviceBurst_only (hG.of rfl) hS

theorem jobCompare_only {e : Nat} {s : State} (hG : Sub 0x3ce00c200000004000300000000000000008000000000000000000007000000000000000000000000000 G) (hS : Only G s0 s) :
    Only G s0 (jobCompare e s) := by
  unfold jobCompare
  exact State.serviceBurst_only (hG.of rfl) hS

theorem dirSweep_only {e : Nat} {s : State} (hG : Sub 0x1b014120000005f006a3000000000100000080000403e0050000000010085400000000001200805518441 G) (hS : Only G s0 s) :
    Only G s0 (dirSweep e s) := by
  unfold dirSweep
  split
  · exact hS
  · extract_lets +onlyGivenNames -underBinder -merge agent_1
    extract_lets +onlyGivenNames -underBinder -merge l_2
    extract_lets +onlyGivenNames -underBinder -merge lost_3
    refine Only.ite ?_ ?_
    · exact hS
    · refine State.finishJob_only (hG.of rfl) ?_
      refine Only.fold ?_ hS
      intro u4 y6 hu5
      try beta_reduce
      exact State.sweepEntry_only (hG.of rfl) hu5

theorem kernelJob_only {e : Nat} {c : CoreStep} {s : State} (hG : Sub 0x100000000000000000000000000000000000000000000000000000000000000000000000000000000000 G) (hS : Only G s0 s) :
    Only G s0 (kernelJob e c s) := by
  unfold kernelJob
  split
  · exact hS
  · refine Only.ite ?_ ?_
    · exact State.modEngine_only (hG.of rfl) hS
    · exact hS

theorem kernelFault_only {e : Nat} {mcause : Nat} {mtval : Nat} {s : State} (hG : Sub 0x30800c000000004000000000000000000008000000000000000008000000000000000000000000000000 G) (hS : Only G s0 s) :
    Only G s0 (kernelFault e mcause mtval s) := by
  unfold kernelFault
  split
  · exact hS
  · extract_lets +onlyGivenNames -underBinder -merge gone_1
    extract_lets +onlyGivenNames -underBinder -merge s_2
    have h3 : Only G s0 s_2 := by
      subst s_2
      exact State.removeEntries_only (hG.of rfl) hS
    try clear_value s_2
    refine Only.ite ?_ ?_
    · exact hS
    · split
      · extract_lets +onlyGivenNames -underBinder -merge s_4
        have h5 : Only G s0 s_4 := by
          subst s_4
          exact State.modEngine_only (hG.of rfl) h3
        try clear_value s_4
        exact State.finishJob_only (hG.of rfl) h5

theorem State.cancelDone_only {s : State} {c : Nat} {status : Nat} (hG : Sub 0x200000000000000000000000000000000000000000000000000000200000000000000000000000000000 G) (hS : Only G s0 s) :
    Only G s0 (State.cancelDone s c status) := by
  unfold State.cancelDone
  extract_lets +onlyGivenNames -underBinder -merge s_1
  have h2 : Only G s0 s_1 := by
    subst s_1
    exact State.modCluster_only (hG.of rfl) hS
  try clear_value s_1
  refine State.resultDone_only (hG.of rfl) (hG.of rfl) ?_
  exact State.set_only (hG.of rfl) h2

theorem State.engineNext_only {s : State} {e : Nat} {load : Bool} (hG : Sub 0x5000000000000000000000000000000 G) (hS : Only G s0 s) :
    Only G s0 (State.engineNext s e load) := by
  unfold State.engineNext
  refine Only.ite ?_ ?_
  · exact State.set_only (hG.of rfl) hS
  · refine Only.ite ?_ ?_
    · refine State.showLoaded_only (hG.of rfl) ?_
      exact State.set_only (hG.of rfl) hS
    · exact State.set_only (hG.of rfl) hS

theorem completionRecordWrite_only {e : Nat} {s : State} (hG : Sub 0x301000000000000200100000000050000008000000000012000005e10000000000000000000000000000 G) (hS : Only G s0 s) :
    Only G s0 (completionRecordWrite e s) := by
  unfold completionRecordWrite
  extract_lets +onlyGivenNames -underBinder -merge c_1
  split
  · exact hS
  · split
    · exact hS
    · extract_lets +onlyGivenNames -underBinder -merge s_2
      have h3 : Only G s0 s_2 := by
        subst s_2
        exact State.modEngine_only (hG.of rfl) hS
      try clear_value s_2
      extract_lets +onlyGivenNames -underBinder -merge s_4
      have h5 : Only G s0 s_4 := by
        subst s_4
        refine State.fixed_only (hG.of rfl) ?_
        refine State.tallyEngine_only (hG.of rfl) ?_
        exact State.jobGone_only (hG.of rfl) h3
      try clear_value s_4
      extract_lets +onlyGivenNames -underBinder -merge s_6
      have h7 : Only G s0 s_6 := by
        subst s_6
        refine Only.ite ?_ ?_
        · exact Only.set_fillDue (hG.of rfl) h5
        · exact h5
      try clear_value s_6
      extract_lets +onlyGivenNames -underBinder -merge s_8
      have h9 : Only G s0 s_8 := by
        subst s_8
        split
        · exact State.record'_only (hG.of rfl) h7
        · exact h7
      try clear_value s_8
      extract_lets +onlyGivenNames -underBinder -merge s_10
      have h11 : Only G s0 s_10 := by
        subst s_10
        refine Only.ite ?_ ?_
        · exact State.count_only (hG.of rfl) h9
        · exact h9
      try clear_value s_10
      extract_lets +onlyGivenNames -underBinder -merge s_12
      have h13 : Only G s0 s_12 := by
        subst s_12
        refine Only.ite ?_ ?_
        · exact State.notice_only (hG.of rfl) h11
        · exact h11
      try clear_value s_12
      extract_lets +onlyGivenNames -underBinder -merge s_14
      have h15 : Only G s0 s_14 := by
        subst s_14
        split
        · refine Only.ite ?_ ?_
          · exact State.cancelDone_only (hG.of rfl) h13
          · exact h13
        · exact h13
      try clear_value s_14
      extract_lets +onlyGivenNames -underBinder -merge s_16
      have h17 : Only G s0 s_16 := by
        subst s_16
        refine State.set_only (hG.of rfl) ?_
        exact State.setBit_only (hG.of rfl) h15
      try clear_value s_16
      refine Only.ite ?_ ?_
      · exact hS
      · refine State.engineNext_only (hG.of rfl) ?_
        exact State.set_only (hG.of rfl) h17

theorem cqHeadWrite_only {c : Nat} {value : Word} {s : State} (hG : Sub 0x200000000000000000000000000040000000000000000000000000c00000000000000000000000000000 G) (hS : Only G s0 s) :
    Only G s0 (cqHeadWrite c value s) := by
  unfold cqHeadWrite
  extract_lets +onlyGivenNames -underBinder -merge h_1
  extract_lets +onlyGivenNames -underBinder -merge n_2
  extract_lets +onlyGivenNames -underBinder -merge s_3
  have h4 : Only G s0 s_3 := by
    subst s_3
    exact State.modCluster_only (hG.of rfl) hS
  try clear_value s_3
  refine State.flushRecords_only (hG.of rfl) ?_
  exact State.set_only (hG.of rfl) h4

theorem tngCancelGo_only {c : Nat} {job : Nat} {s : State} (hG : Sub 0x20000003cf00c200000004000300000000050000008000000000012000000e17000000000000000000000000008 G) (hS : Only G s0 s) :
    Only G s0 (tngCancelGo c job s) := by
  unfold tngCancelGo
  extract_lets +onlyGivenNames -underBinder -merge id_1
  extract_lets +onlyGivenNames -underBinder -merge s_2
  have h3 : Only G s0 s_2 := by
    subst s_2
    exact State.resultStart_only (hG.of rfl) hS
  try clear_value s_2
  refine Only.ite ?_ ?_
  · exact State.refuseWrite_only (hG.of rfl) hS
  · split
    · refine State.cancelDone_only (hG.of rfl) ?_
      exact State.endQueued_only (hG.of rfl) h3
    · split
      · exact State.cancelDone_only (hG.of rfl) h3
      · split
        · exact h3
        · extract_lets +onlyGivenNames -underBinder -merge s_4
          have h5 : Only G s0 s_4 := by
            subst s_4
            exact State.modCluster_only (hG.of rfl) h3
          try clear_value s_4
          extract_lets +onlyGivenNames -underBinder -merge s_6
          have h7 : Only G s0 s_6 := by
            subst s_6
            refine State.modRun_only (hG.of rfl) ?_
            exact State.modEngine_only (hG.of rfl) h5
          try clear_value s_6
          extract_lets +onlyGivenNames -underBinder -merge s_8
          have h9 : Only G s0 s_8 := by
            subst s_8
            split
            · refine Only.ite ?_ ?_
              · exact State.endMig_only (hG.of rfl) h7
              · exact h7
            · exact h7
          try clear_value s_8
          refine Only.ite ?_ ?_
          · exact State.cancelDone_only (hG.of rfl) h3
          · exact State.settleJob_only (hG.of rfl) h9

theorem State.resetEngine_only {s : State} {e : Nat} {cause : Nat} (hG : Sub 0x3ce00c200000004000300000000000000008000000000000000005007000000000000000000000000000 G) (hS : Only G s0 s) :
    Only G s0 (State.resetEngine s e cause) := by
  unfold State.resetEngine
  refine Only.ite ?_ ?_
  · exact hS
  · split
    · exact State.engineNext_only (hG.of rfl) hS
    · extract_lets +onlyGivenNames -underBinder -merge s_1
      have h2 : Only G s0 s_1 := by
        subst s_1
        exact State.discardAcc_only (hG.of rfl) hS
      try clear_value s_1
      extract_lets +onlyGivenNames -underBinder -merge left_3
      extract_lets +onlyGivenNames -underBinder -merge done_4
      extract_lets +onlyGivenNames -underBinder -merge s_5
      have h6 : Only G s0 s_5 := by
        subst s_5
        exact State.finishJob_only (hG.of rfl) h2
      try clear_value s_5
      extract_lets +onlyGivenNames -underBinder -merge s_7
      have h8 : Only G s0 s_7 := by
        subst s_7
        split
        · exact State.endMig_only (hG.of rfl) h6
        · exact h6
      try clear_value s_7
      extract_lets +onlyGivenNames -underBinder -merge s_9
      have h10 : Only G s0 s_9 := by
        subst s_9
        exact State.modEngine_only (hG.of rfl) h8
      try clear_value s_9
      refine Only.ite ?_ ?_
      · exact State.modEngine_only (hG.of rfl) hS
      · exact State.set_only (hG.of rfl) h10

theorem engineReset_only {e : Nat} {cause : Nat} {s : State} (hG : Sub 0x3ce00c200000004000300000000000000008000000000000000005007000000000000000000000000000 G) (hS : Only G s0 s) :
    Only G s0 (engineReset e cause s) := by
  unfold engineReset
  exact State.resetEngine_only (hG.of rfl) hS

theorem engineWatchdog_only {e : Nat} {s : State} (hG : Sub 0x3ce00c200000004000300000000000000008000000000000000005007000000000000000000000000000 G) (hS : Only G s0 s) :
    Only G s0 (engineWatchdog e s) := by
  unfold engineWatchdog
  split
  · exact hS
  · refine Only.ite ?_ ?_
    · exact State.resetEngine_only (hG.of rfl) hS
    · exact hS

theorem engineLoadComplete_only {e : Nat} {program : List Byte} {s : State} (hG : Sub 0x40000100000000000000000000000000000000000000000000000000005000000000000000000000000000000 G) (hS : Only G s0 s) :
    Only G s0 (engineLoadComplete e program s) := by
  unfold engineLoadComplete
  extract_lets +onlyGivenNames -underBinder -merge p_1
  extract_lets +onlyGivenNames -underBinder -merge v_2
  extract_lets +onlyGivenNames -underBinder -merge s_3
  have h4 : Only G s0 s_3 := by
    subst s_3
    exact Only.set_reloadDue (hG.of rfl) hS
  try clear_value s_3
  refine Only.ite ?_ ?_
  · exact hS
  · refine State.showLoaded_only (hG.of rfl) ?_
    refine State.set_only (hG.of rfl) ?_
    exact State.modEngine_only (hG.of rfl) h4

theorem programReload_only {e : Nat} {s : State} (hG : Sub 0x100000000000000000000000000000000000000000000000000005000000000000000000000000000000 G) (hS : Only G s0 s) :
    Only G s0 (programReload e s) := by
  unfold programReload
  extract_lets +onlyGivenNames -underBinder -merge busy_1
  extract_lets +onlyGivenNames -underBinder -merge s_2
  have h3 : Only G s0 s_2 := by
    subst s_2
    exact State.modEngine_only (hG.of rfl) hS
  try clear_value s_2
  refine Only.ite ?_ ?_
  · exact hS
  · refine Only.ite ?_ ?_
    · exact State.engineNext_only (hG.of rfl) h3
    · exact h3

end Sys2Proof.Machine
end

