-- ==== Sys2Proof/Laws/FrameFabric.lean ====
section
/-! SUPPORT. The frame of each function of Machine/Fabric.lean: the parts of the state that it may change, as a set of bits (StatePart.place), with the canonical form kept. -/

namespace Sys2Proof.Machine

variable {G : Nat} {s0 : State}

theorem State.sendTo_only {s : State} {c : Nat} {m : FabMsg} (hG : Sub 0x100000000000000008000000000000000000000000000000000000000000000000 G) (hS : Only G s0 s) :
    Only G s0 (State.sendTo s c m) := by
  unfold State.sendTo
  refine State.emit_only (hG.of rfl) ?_
  exact State.tallyChip_only (hG.of rfl) hS

theorem State.sendAll_only {s : State} {l : List Nat} {m : FabMsg} (hG : Sub 0x100000000000000008000000000000000000000000000000000000000000000000 G) (hS : Only G s0 s) :
    Only G s0 (State.sendAll s l m) := by
  unfold State.sendAll
  refine Only.fold ?_ hS
  intro u1 y3 hu2
  try beta_reduce
  exact State.sendTo_only (hG.of rfl) hu2

theorem State.modFab_only {s : State} {f : FabState → FabState} (hG : Sub 0x800000000000000000000000000000000000000000000000000000000000000000000000000000000000 G) (hS : Only G s0 s) :
    Only G s0 (State.modFab s f) := by
  unfold State.modFab
  exact Only.set_fab (hG.of rfl) hS

theorem State.hear_only {s : State} {c : Nat} (hG : Sub 0x800000000000000000000000000000000008000000000000000000000000000000000000000000000000 G) (hS : Only G s0 s) :
    Only G s0 (State.hear s c) := by
  unfold State.hear
  refine State.modFab_only (hG.of rfl) ?_
  exact State.tallyChip_only (hG.of rfl) hS

theorem State.sendJoin_only {s : State} (hG : Sub 0x100000000000000008000000000000000000000000000000000000000000000000 G) (hS : Only G s0 s) :
    Only G s0 (State.sendJoin s) := by
  unfold State.sendJoin
  exact State.sendTo_only (hG.of rfl) hS

theorem State.updMixed_only {s : State} (hG : Sub 0x10000008000000000050000020000000000000000000000000000000 G) (hS : Only G s0 s) :
    Only G s0 (State.updMixed s) := by
  unfold State.updMixed
  refine Only.ite ?_ ?_
  · exact hS
  · refine State.updMode_only (hG.of rfl) ?_
    refine State.notice_only (hG.of rfl) ?_
    exact State.set_only (hG.of rfl) hS

theorem State.applyUnreachable_only {s : State} {c : Nat} (hG : Sub 0x80e460000000000068100000000000000000000000000000000420000084000000000000000000010000 G) (hS : Only G s0 s) :
    Only G s0 (State.applyUnreachable s c) := by
  unfold State.applyUnreachable
  extract_lets +onlyGivenNames -underBinder -merge s_1
  have h2 : Only G s0 s_1 := by
    subst s_1
    exact State.set_only (hG.of rfl) hS
  try clear_value s_1
  extract_lets +onlyGivenNames -underBinder -merge vs_3
  extract_lets +onlyGivenNames -underBinder -merge s_4
  have h5 : Only G s0 s_4 := by
    subst s_4
    refine State.each_only ?_ h2
    intro y6 u7 hu8
    try beta_reduce
    exact State.surpriseRemoved_only (hG.of rfl) hu8
  try clear_value s_4
  extract_lets +onlyGivenNames -underBinder -merge s_9
  have h10 : Only G s0 s_9 := by
    subst s_9
    refine Only.ite ?_ ?_
    · exact h5
    · exact State.mediaLost_only (hG.of rfl) h5
  try clear_value s_9
  extract_lets +onlyGivenNames -underBinder -merge s_11
  have h12 : Only G s0 s_11 := by
    subst s_11
    refine Only.ite ?_ ?_
    · exact State.set_only (hG.of rfl) h10
    · exact h10
  try clear_value s_11
  refine State.each_only ?_ h12
  intro y13 u14 hu15
  try beta_reduce
  exact State.removeAgent_only (hG.of rfl) hu15

theorem State.applyAgent_only {s : State} {a : Nat} {w : Word} (hG : Sub 0x80ec61800000000000100000000000000000000000000000000000000084000000000000000000020000 G) (hS : Only G s0 s) :
    Only G s0 (State.applyAgent s a w) := by
  unfold State.applyAgent
  extract_lets +onlyGivenNames -underBinder -merge s_1
  have h2 : Only G s0 s_1 := by
    subst s_1
    exact State.installCaid_only (hG.of rfl) hS
  try clear_value s_1
  refine Only.ite ?_ ?_
  · refine Only.ite ?_ ?_
    · exact State.freeAgent_only (hG.of rfl) hS
    · exact hS
  · refine Only.ite ?_ ?_
    · exact State.removeAgent_only (hG.of rfl) h2
    · exact h2

theorem State.applyChange_only {s : State} {x : FabChange} (hG : Sub 0x80ec61800000000068100000000000000000000000000000000c20000084000000000000000000030000 G) (hS : Only G s0 s) :
    Only G s0 (State.applyChange s x) := by
  unfold State.applyChange
  split
  · exact State.setReg_only (hG.of rfl) hS
  · extract_lets +onlyGivenNames -underBinder -merge s_1
    have h2 : Only G s0 s_1 := by
      subst s_1
      refine Only.ite ?_ ?_
      · exact hS
      · exact State.modFab_only (hG.of rfl) hS
    try clear_value s_1
    refine Only.ite ?_ ?_
    · exact State.setReg_only (hG.of rfl) h2
    · exact h2
  · exact State.applyAgent_only (hG.of rfl) hS
  · exact State.applyUnreachable_only (hG.of rfl) hS

theorem State.applyGen_only {s : State} {g : FabGen} (hG : Sub 0x80ec61800000000068100000000010000008000000000050000c60000084000000000000000000030000 G) (hS : Only G s0 s) :
    Only G s0 (State.applyGen s g) := by
  unfold State.applyGen
  extract_lets +onlyGivenNames -underBinder -merge s_1
  have h2 : Only G s0 s_1 := by
    subst s_1
    refine Only.fold ?_ hS
    intro u3 y5 hu4
    try beta_reduce
    exact State.applyChange_only (hG.of rfl) hu4
  try clear_value s_1
  extract_lets +onlyGivenNames -underBinder -merge s_7
  have h8 : Only G s0 s_7 := by
    subst s_7
    exact State.set_only (hG.of rfl) h2
  try clear_value s_7
  extract_lets +onlyGivenNames -underBinder -merge s_9
  have h10 : Only G s0 s_9 := by
    subst s_9
    refine Only.ite ?_ ?_
    · exact State.set_only (hG.of rfl) h8
    · exact h8
  try clear_value s_9
  extract_lets +onlyGivenNames -underBinder -merge s_11
  have h12 : Only G s0 s_11 := by
    subst s_11
    refine Only.ite ?_ ?_
    · exact State.set_only (hG.of rfl) h10
    · exact h10
  try clear_value s_11
  exact State.updMixed_only (hG.of rfl) h12

theorem State.sendPrep_only {s : State} {r : FabRun} (hG : Sub 0x800000000000000000100000000000000008000000000000000000000000000000000000000000000000 G) (hS : Only G s0 s) :
    Only G s0 (State.sendPrep s r) := by
  unfold State.sendPrep
  extract_lets +onlyGivenNames -underBinder -merge s_1
  have h2 : Only G s0 s_1 := by
    subst s_1
    exact State.modFab_only (hG.of rfl) hS
  try clear_value s_1
  refine Only.fold ?_ h2
  intro u3 y5 hu4
  try beta_reduce
  exact State.sendTo_only (hG.of rfl) hu4

theorem State.finishGen_only {s : State} {r : FabRun} (hG : Sub 0x80ec61800000000068100000000010000008000000000050000c60000084000000000000000000030000 G) (hS : Only G s0 s) :
    Only G s0 (State.finishGen s r) := by
  unfold State.finishGen
  extract_lets +onlyGivenNames -underBinder -merge s_1
  have h2 : Only G s0 s_1 := by
    subst s_1
    exact State.sendAll_only (hG.of rfl) hS
  try clear_value s_1
  extract_lets +onlyGivenNames -underBinder -merge s_3
  have h4 : Only G s0 s_3 := by
    subst s_3
    refine State.applyGen_only (hG.of rfl) ?_
    exact State.modFab_only (hG.of rfl) h2
  try clear_value s_3
  refine Only.ite ?_ ?_
  · split
    · exact State.sendTo_only (hG.of rfl) h4
    · exact h4
  · exact h4

theorem State.startGen_only {n : Nat} {s : State} (hG : Sub 0x80ec61800000000068100000000010000008000000000050000c60000084000000000000000000030000 G) (h : Only G s0 s) : Only G s0 (State.startGen n s) := by
  induction n generalizing s with
  | zero => exact h
  | succ n ih =>
    unfold State.startGen
    refine Only.ite h ?_
    split
    · exact h
    · extract_lets s_1
      have h1 : Only G s0 s_1 := State.modFab_only (hG.of rfl) h
      refine Only.ite (ih h1) ?_
      extract_lets r
      refine Only.ite (State.sendPrep_only (hG.of rfl) h1) (Only.ite (ih (State.finishGen_only (hG.of rfl) h1)) (State.sendPrep_only (hG.of rfl) h1))
theorem State.nextGen_only {s : State} (hG : Sub 0x80ec61800000000068100000000010000008000000000050000c60000084000000000000000000030000 G) (hS : Only G s0 s) :
    Only G s0 (State.nextGen s) := by
  unfold State.nextGen
  exact State.startGen_only (hG.of rfl) hS

theorem State.change_only {s : State} {changes : List FabChange} {whole : List Nat} (hG : Sub 0x80ec61800000000068100000000010000008000000000050000c60000084000000000000000000030000 G) (hS : Only G s0 s) :
    Only G s0 (State.change s changes whole) := by
  unfold State.change
  refine State.nextGen_only (hG.of rfl) ?_
  exact State.modFab_only (hG.of rfl) hS

theorem State.commitGen_only {s : State} {r : FabRun} (hG : Sub 0x80ec61800000000068100000000010000008000000000050000c60000084000000000000000000030000 G) (hS : Only G s0 s) :
    Only G s0 (State.commitGen s r) := by
  unfold State.commitGen
  refine State.nextGen_only (hG.of rfl) ?_
  exact State.finishGen_only (hG.of rfl) hS

theorem State.nextPhase_only {s : State} {r : FabRun} (hG : Sub 0x80ec61800000000068100000000010000008000000000050000c60000084000000000000000000030000 G) (hS : Only G s0 s) :
    Only G s0 (State.nextPhase s r) := by
  unfold State.nextPhase
  split
  · exact State.sendPrep_only (hG.of rfl) hS
  · split
    · refine State.sendTo_only (hG.of rfl) ?_
      exact State.modFab_only (hG.of rfl) hS
    · exact State.commitGen_only (hG.of rfl) hS
  · refine State.commitGen_only (hG.of rfl) ?_
    exact State.set_only (hG.of rfl) hS

theorem State.checkPhase_only {s : State} (hG : Sub 0x80ec61800000000068100000000010000008000000000050000c60000084000000000000000000030000 G) (hS : Only G s0 s) :
    Only G s0 (State.checkPhase s) := by
  unfold State.checkPhase
  split
  · refine Only.ite ?_ ?_
    · exact State.nextPhase_only (hG.of rfl) hS
    · exact hS
  · exact hS

theorem State.capTables_only {s : State} (hG : Sub 0x80ec61800000000068100000000010000008000000000050000c60000084000000000000000000030000 G) (hS : Only G s0 s) :
    Only G s0 (State.capTables s) := by
  unfold State.capTables
  extract_lets +onlyGivenNames -underBinder -merge wide_1
  refine Only.ite ?_ ?_
  · exact State.change_only (hG.of rfl) hS
  · exact hS

theorem mixedConditionChange_only {s : State} (hG : Sub 0x80ec61800000000068100000000010000008000000000050000c60000084000000000000000000030000 G) (hS : Only G s0 s) :
    Only G s0 (mixedConditionChange s) := by
  unfold mixedConditionChange
  refine State.capTables_only (hG.of rfl) ?_
  exact State.updMixed_only (hG.of rfl) hS

theorem joinFabric_only {m : Option JoinMsg} {s : State} (hG : Sub 0x80ec61800000000068100000000010000008000000000050000c60000084000000000000000000030000 G) (hS : Only G s0 s) :
    Only G s0 (joinFabric m s) := by
  unfold joinFabric
  split
  · refine Only.ite ?_ ?_
    · exact State.sendJoin_only (hG.of rfl) hS
    · exact hS
  · extract_lets +onlyGivenNames -underBinder -merge s_1
    have h2 : Only G s0 s_1 := by
      subst s_1
      exact State.hear_only (hG.of rfl) hS
    try clear_value s_1
    refine Only.ite ?_ ?_
    · exact hS
    · split
      · extract_lets +onlyGivenNames -underBinder -merge w_3
        extract_lets +onlyGivenNames -underBinder -merge s_4
        have h5 : Only G s0 s_4 := by
          subst s_4
          exact State.set_only (hG.of rfl) h2
        try clear_value s_4
        extract_lets +onlyGivenNames -underBinder -merge s_6
        have h7 : Only G s0 s_6 := by
          subst s_6
          exact State.set_only (hG.of rfl) h5
        try clear_value s_6
        refine State.capTables_only (hG.of rfl) ?_
        exact State.change_only (hG.of rfl) h7
      · refine State.notice_only (hG.of rfl) ?_
        exact State.sendTo_only (hG.of rfl) h2

theorem joinRefuse_only {cause : Nat} {s : State} (hG : Sub 0x10000008000000000010000400000000000000000000000000000000 G) (hS : Only G s0 s) :
    Only G s0 (joinRefuse cause s) := by
  unfold joinRefuse
  refine State.notice_only (hG.of rfl) ?_
  refine State.set_only (hG.of rfl) ?_
  exact State.set_only (hG.of rfl) hS

theorem distPrep_only {sender : Nat} {epoch : Nat} {g : FabGen} {s : State} (hG : Sub 0x800000000000000000100000000000000008000000000000000240000000000000000000000000000000 G) (hS : Only G s0 s) :
    Only G s0 (distPrep sender epoch g s) := by
  unfold distPrep
  extract_lets +onlyGivenNames -underBinder -merge s_1
  have h2 : Only G s0 s_1 := by
    subst s_1
    exact State.hear_only (hG.of rfl) hS
  try clear_value s_1
  extract_lets +onlyGivenNames -underBinder -merge own_3
  extract_lets +onlyGivenNames -underBinder -merge s_4
  have h5 : Only G s0 s_4 := by
    subst s_4
    refine Only.ite ?_ ?_
    · exact h2
    · exact State.modFab_only (hG.of rfl) h2
  try clear_value s_4
  refine Only.ite ?_ ?_
  · exact h2
  · refine Only.ite ?_ ?_
    · refine State.sendTo_only (hG.of rfl) ?_
      refine State.count_only (hG.of rfl) ?_
      exact State.set_only (hG.of rfl) h2
    · exact State.sendTo_only (hG.of rfl) h5

theorem distCommit_only {epoch : Nat} {gen : Nat} {s : State} (hG : Sub 0x80ec61800000000068100000000010000008000000000050000c60000084000000000000000000030000 G) (hS : Only G s0 s) :
    Only G s0 (distCommit epoch gen s) := by
  unfold distCommit
  extract_lets +onlyGivenNames -underBinder -merge ack_1
  have h2 : ∀ u3, Only G s0 u3 → Only G s0 (ack_1 u3) := by
    subst ack_1
    intro u3 hu4
    try beta_reduce
    exact State.sendTo_only (hG.of rfl) hu4
  try clear_value ack_1
  refine Only.ite ?_ ?_
  · exact hS
  · split
    · refine Only.ite ?_ ?_
      · refine h2 _ ?_
        refine State.applyGen_only (hG.of rfl) ?_
        exact State.modFab_only (hG.of rfl) hS
      · exact hS
    · refine Only.ite ?_ ?_
      · exact h2 _ hS
      · exact hS

theorem distAbort_only {epoch : Nat} {gen : Nat} {s : State} (hG : Sub 0x800000000000000000000000000000000000000000000000000000000000000000000000000000000000 G) (hS : Only G s0 s) :
    Only G s0 (distAbort epoch gen s) := by
  unfold distAbort
  refine Only.ite ?_ ?_
  · exact hS
  · exact State.modFab_only (hG.of rfl) hS

theorem resync_only {chip : Nat} {a1 : Nat} {s : State} (hG : Sub 0x80ec61800000000068100000000010000008000000000050000c60000084000000000000000000030000 G) (hS : Only G s0 s) :
    Only G s0 (resync chip a1 s) := by
  unfold resync
  refine Only.ite ?_ ?_
  · refine State.change_only (hG.of rfl) ?_
    exact State.hear_only (hG.of rfl) hS
  · exact hS

theorem State.sendAnnounce_only {s : State} (hG : Sub 0x100000000000000008000000000000000000000000000000000000000000000000 G) (hS : Only G s0 s) :
    Only G s0 (State.sendAnnounce s) := by
  unfold State.sendAnnounce
  exact State.sendAll_only (hG.of rfl) hS

theorem announceSend_only {s : State} (hG : Sub 0x100000000000000008000000000000000000000000000000000000000000000000 G) (hS : Only G s0 s) :
    Only G s0 (announceSend s) := by
  unfold announceSend
  refine Only.ite ?_ ?_
  · exact State.sendAnnounce_only (hG.of rfl) hS
  · exact hS

theorem State.newManager_only {s : State} {c : Nat} {known : Bool} (hG : Sub 0x10000008000000000010000620000000000000000000000000000000 G) (hS : Only G s0 s) :
    Only G s0 (State.newManager s c known) := by
  unfold State.newManager
  extract_lets +onlyGivenNames -underBinder -merge old_1
  extract_lets +onlyGivenNames -underBinder -merge s_2
  have h3 : Only G s0 s_2 := by
    subst s_2
    exact State.set_only (hG.of rfl) hS
  try clear_value s_2
  extract_lets +onlyGivenNames -underBinder -merge s_4
  have h5 : Only G s0 s_4 := by
    subst s_4
    refine State.set_only (hG.of rfl) ?_
    exact State.set_only (hG.of rfl) h3
  try clear_value s_4
  refine Only.ite ?_ ?_
  · refine State.notice_only (hG.of rfl) ?_
    exact State.count_only (hG.of rfl) h5
  · exact h5

theorem State.reissue_only {s : State} {staged : Option FabGen} {acked : Option Nat} (hG : Sub 0x800000000000000000100000000000000008000000000000000000000000000000000000000000000000 G) (hS : Only G s0 s) :
    Only G s0 (State.reissue s staged acked) := by
  unfold State.reissue
  split
  · refine State.modFab_only (hG.of rfl) ?_
    exact State.sendAll_only (hG.of rfl) hS
  · exact State.sendAll_only (hG.of rfl) hS
  · exact hS

theorem State.becomeManager_only {s : State} {epoch : Nat} {handed : Bool} (hG : Sub 0x10000000080000000000000000010000000001000000800e000000050000620000000000000000000000000000000 G) (hS : Only G s0 s) :
    Only G s0 (State.becomeManager s epoch handed) := by
  unfold State.becomeManager
  extract_lets +onlyGivenNames -underBinder -merge known_1
  extract_lets +onlyGivenNames -underBinder -merge old_2
  extract_lets +onlyGivenNames -underBinder -merge s_3
  have h4 : Only G s0 s_3 := by
    subst s_3
    refine Only.ite ?_ ?_
    · exact State.set_only (hG.of rfl) hS
    · exact hS
  try clear_value s_3
  extract_lets +onlyGivenNames -underBinder -merge s_5
  have h6 : Only G s0 s_5 := by
    subst s_5
    refine State.set_only (hG.of rfl) ?_
    exact State.set_only (hG.of rfl) h4
  try clear_value s_5
  extract_lets +onlyGivenNames -underBinder -merge s_7
  have h8 : Only G s0 s_7 := by
    subst s_7
    refine State.set_only (hG.of rfl) ?_
    exact State.newManager_only (hG.of rfl) h6
  try clear_value s_7
  extract_lets +onlyGivenNames -underBinder -merge s_9
  have h10 : Only G s0 s_9 := by
    subst s_9
    exact State.set_only (hG.of rfl) h8
  try clear_value s_9
  extract_lets +onlyGivenNames -underBinder -merge s_11
  have h12 : Only G s0 s_11 := by
    subst s_11
    exact State.set_only (hG.of rfl) h10
  try clear_value s_11
  extract_lets +onlyGivenNames -underBinder -merge s_13
  have h14 : Only G s0 s_13 := by
    subst s_13
    exact State.modFab_only (hG.of rfl) h12
  try clear_value s_13
  extract_lets +onlyGivenNames -underBinder -merge s_15
  have h16 : Only G s0 s_15 := by
    subst s_15
    exact State.sendAnnounce_only (hG.of rfl) h14
  try clear_value s_15
  refine State.updRoot_only (hG.of rfl) ?_
  refine State.updMixed_only (hG.of rfl) ?_
  exact State.reissue_only (hG.of rfl) h16

theorem ackFabric_only {chip : Nat} {type : Nat} {gen : Nat} {highest : Nat} {s : State} (hG : Sub 0x80ec61800000000068100000000010000008000000000050000c60000084000000000000000000030000 G) (hS : Only G s0 s) :
    Only G s0 (ackFabric chip type gen highest s) := by
  unfold ackFabric
  extract_lets +onlyGivenNames -underBinder -merge s_1
  have h2 : Only G s0 s_1 := by
    subst s_1
    refine State.modFab_only (hG.of rfl) ?_
    exact State.hear_only (hG.of rfl) hS
  try clear_value s_1
  extract_lets +onlyGivenNames -underBinder -merge s_3
  have h4 : Only G s0 s_3 := by
    subst s_3
    refine Only.ite ?_ ?_
    · exact State.modFab_only (hG.of rfl) h2
    · exact h2
  try clear_value s_3
  refine Only.ite ?_ ?_
  · exact h2
  · refine Only.ite ?_ ?_
    · refine State.sendAnnounce_only (hG.of rfl) ?_
      refine State.modFab_only (hG.of rfl) ?_
      exact State.set_only (hG.of rfl) h2
    · split
      · exact State.nextGen_only (hG.of rfl) h4
      · refine Only.ite ?_ ?_
        · refine State.checkPhase_only (hG.of rfl) ?_
          exact State.modFab_only (hG.of rfl) h4
        · exact h4

theorem State.endHandover_only {s : State} {status : Nat} (hG : Sub 0x800000000000000000000000000000000000000000000000000100000000000000000000000000000000 G) (hS : Only G s0 s) :
    Only G s0 (State.endHandover s status) := by
  unfold State.endHandover
  refine Only.ite ?_ ?_
  · refine State.resultDone_only (hG.of rfl) (hG.of rfl) ?_
    refine State.set_only (hG.of rfl) ?_
    exact State.modFab_only (hG.of rfl) hS
  · exact hS

theorem standbyAckTimeout_only {s : State} (hG : Sub 0x80ec61800000000068100000000010000008000000000050000d60000084000000000000000000030000 G) (hS : Only G s0 s) :
    Only G s0 (standbyAckTimeout s) := by
  unfold standbyAckTimeout
  split
  · extract_lets +onlyGivenNames -underBinder -merge c_1
    extract_lets +onlyGivenNames -underBinder -merge s_2
    have h3 : Only G s0 s_2 := by
      subst s_2
      refine State.endHandover_only (hG.of rfl) ?_
      refine State.set_only (hG.of rfl) ?_
      exact State.set_only (hG.of rfl) hS
    try clear_value s_2
    extract_lets +onlyGivenNames -underBinder -merge __src_4
    refine Only.ite ?_ ?_
    · exact hS
    · refine Only.ite ?_ ?_
      · exact State.sendPrep_only (hG.of rfl) h3
      · refine State.set_only (hG.of rfl) ?_
        exact State.commitGen_only (hG.of rfl) h3
  · exact hS

theorem State.stepDown_only {s : State} {m : AnnounceMsg} (hG : Sub 0x10000000080000000000000000000000000001000000800e000000010000120000000000000000000000000000000 G) (hS : Only G s0 s) :
    Only G s0 (State.stepDown s m) := by
  unfold State.stepDown
  extract_lets +onlyGivenNames -underBinder -merge ok_1
  extract_lets +onlyGivenNames -underBinder -merge s_2
  have h3 : Only G s0 s_2 := by
    subst s_2
    refine State.modFab_only (hG.of rfl) ?_
    exact State.endHandover_only (hG.of rfl) hS
  try clear_value s_2
  refine Only.ite ?_ ?_
  · refine State.updRoot_only (hG.of rfl) ?_
    exact State.set_only (hG.of rfl) h3
  · refine State.updRoot_only (hG.of rfl) ?_
    refine State.notice_only (hG.of rfl) ?_
    refine State.modFab_only (hG.of rfl) ?_
    exact State.set_only (hG.of rfl) hS

theorem announce_only {m : AnnounceMsg} {s : State} (hG : Sub 0x10000000080000000000000000010000000001000000800e000000050000720000000000000000000000000000000 G) (hS : Only G s0 s) :
    Only G s0 (announce m s) := by
  unfold announce
  extract_lets +onlyGivenNames -underBinder -merge s_1
  have h2 : Only G s0 s_1 := by
    subst s_1
    exact State.hear_only (hG.of rfl) hS
  try clear_value s_1
  extract_lets +onlyGivenNames -underBinder -merge s_3
  have h4 : Only G s0 s_3 := by
    subst s_3
    refine Only.ite ?_ ?_
    · exact State.stepDown_only (hG.of rfl) h2
    · exact h2
  try clear_value s_3
  extract_lets +onlyGivenNames -underBinder -merge known_5
  extract_lets +onlyGivenNames -underBinder -merge s_6
  have h7 : Only G s0 s_6 := by
    subst s_6
    refine State.newManager_only (hG.of rfl) ?_
    exact State.set_only (hG.of rfl) h4
  try clear_value s_6
  extract_lets +onlyGivenNames -underBinder -merge s_8
  have h9 : Only G s0 s_8 := by
    subst s_8
    exact State.set_only (hG.of rfl) h7
  try clear_value s_8
  extract_lets +onlyGivenNames -underBinder -merge s_10
  have h11 : Only G s0 s_10 := by
    subst s_10
    exact State.modFab_only (hG.of rfl) h9
  try clear_value s_10
  extract_lets +onlyGivenNames -underBinder -merge s_12
  have h13 : Only G s0 s_12 := by
    subst s_12
    refine Only.ite ?_ ?_
    · exact State.sendJoin_only (hG.of rfl) h11
    · exact h11
  try clear_value s_12
  extract_lets +onlyGivenNames -underBinder -merge s_14
  have h15 : Only G s0 s_14 := by
    subst s_14
    refine Only.ite ?_ ?_
    · exact h2
    · exact State.updMixed_only (hG.of rfl) h13
  try clear_value s_14
  exact State.sendTo_only (hG.of rfl) h15

theorem State.castVote_only {s : State} {chip : Nat} {proposed : Nat} (hG : Sub 0x800000000000000000100000000000000008000000000000000000000000000000000000000000000000 G) (hS : Only G s0 s) :
    Only G s0 (State.castVote s chip proposed) := by
  unfold State.castVote
  refine Only.ite ?_ ?_
  · exact hS
  · refine State.sendTo_only (hG.of rfl) ?_
    exact State.modFab_only (hG.of rfl) hS

theorem leaseLapse_only {s : State} (hG : Sub 0x10000000080000000000000000010000000001000000800e000000050000620000000000000000000000000000000 G) (hS : Only G s0 s) :
    Only G s0 (leaseLapse s) := by
  unfold leaseLapse
  extract_lets +onlyGivenNames -underBinder -merge ms_1
  extract_lets +onlyGivenNames -underBinder -merge s_2
  have h3 : Only G s0 s_2 := by
    subst s_2
    refine State.set_only (hG.of rfl) ?_
    exact State.modFab_only (hG.of rfl) hS
  try clear_value s_2
  refine Only.ite ?_ ?_
  · exact hS
  · refine Only.ite ?_ ?_
    · refine Only.ite ?_ ?_
      · exact h3
      · refine Only.ite ?_ ?_
        · exact State.becomeManager_only (hG.of rfl) h3
        · refine State.sendAll_only (hG.of rfl) ?_
          exact State.modFab_only (hG.of rfl) h3
    · split
      · refine Only.ite ?_ ?_
        · exact State.castVote_only (hG.of rfl) h3
        · exact h3
      · exact h3

theorem voteReq_only {chip : Nat} {proposed : Nat} {s : State} (hG : Sub 0x800000000000000000100000000000000008000000000000000000000000000000000000000000000000 G) (hS : Only G s0 s) :
    Only G s0 (voteReq chip proposed s) := by
  unfold voteReq
  extract_lets +onlyGivenNames -underBinder -merge s_1
  have h2 : Only G s0 s_1 := by
    subst s_1
    exact State.hear_only (hG.of rfl) hS
  try clear_value s_1
  refine Only.ite ?_ ?_
  · exact h2
  · refine Only.ite ?_ ?_
    · exact State.modFab_only (hG.of rfl) h2
    · exact State.castVote_only (hG.of rfl) h2

theorem vote_only {chip : Nat} {proposed : Nat} {highest : Nat} {s : State} (hG : Sub 0x10000000080000000000000000010000000001000000800e000000050000620000000000000000000000000000000 G) (hS : Only G s0 s) :
    Only G s0 (vote chip proposed highest s) := by
  unfold vote
  extract_lets +onlyGivenNames -underBinder -merge s_1
  have h2 : Only G s0 s_1 := by
    subst s_1
    exact State.hear_only (hG.of rfl) hS
  try clear_value s_1
  extract_lets +onlyGivenNames -underBinder -merge l_3
  extract_lets +onlyGivenNames -underBinder -merge s_4
  have h5 : Only G s0 s_4 := by
    subst s_4
    exact State.modFab_only (hG.of rfl) h2
  try clear_value s_4
  refine Only.ite ?_ ?_
  · exact h2
  · refine Only.ite ?_ ?_
    · exact State.becomeManager_only (hG.of rfl) h5
    · exact h5

theorem managerIsolated_only {s : State} (hG : Sub 0x800000000000000000000000000010000008000000000010000020000000000000000000000000000000 G) (hS : Only G s0 s) :
    Only G s0 (managerIsolated s) := by
  unfold managerIsolated
  extract_lets +onlyGivenNames -underBinder -merge window_1
  extract_lets +onlyGivenNames -underBinder -merge n_2
  refine Only.ite ?_ ?_
  · refine State.notice_only (hG.of rfl) ?_
    refine State.modFab_only (hG.of rfl) ?_
    exact State.set_only (hG.of rfl) hS
  · exact hS

theorem managerListenEnd_only {s : State} (hG : Sub 0x10000000080000000000000000010000000001000000800e000000050000620000000000000000000000000000000 G) (hS : Only G s0 s) :
    Only G s0 (managerListenEnd s) := by
  unfold managerListenEnd
  refine Only.ite ?_ ?_
  · exact State.becomeManager_only (hG.of rfl) hS
  · exact hS

theorem handoverWrite_only {value : Word} {s : State} (hG : Sub 0x800000000000000000100000000000000008000000000000000100000000000000000000000000000000 G) (hS : Only G s0 s) :
    Only G s0 (handoverWrite value s) := by
  unfold handoverWrite
  extract_lets +onlyGivenNames -underBinder -merge s_1
  have h2 : Only G s0 s_1 := by
    subst s_1
    exact State.resultStart_only (hG.of rfl) hS
  try clear_value s_1
  extract_lets +onlyGivenNames -underBinder -merge fail_3
  have h4 : ∀ y5, Only G s0 (fail_3 y5) := by
    subst fail_3
    intro y5
    try beta_reduce
    refine State.resultDone_only (hG.of rfl) (hG.of rfl) ?_
    exact State.set_only (hG.of rfl) h2
  try clear_value fail_3
  refine Only.ite ?_ ?_
  · exact hS
  · refine Only.ite ?_ ?_
    · exact h4 _
    · split
      · exact h4 _
      · refine Only.ite ?_ ?_
        · exact h4 _
        · split
          · exact State.modFab_only (hG.of rfl) h2
          · refine State.sendTo_only (hG.of rfl) ?_
            exact State.modFab_only (hG.of rfl) h2

theorem handoverMessage_only {epoch : Nat} {gen : Nat} {s : State} (hG : Sub 0x10000000080000000000000000010000000001000000800e000000050000620000000000000000000000000000000 G) (hS : Only G s0 s) :
    Only G s0 (handoverMessage epoch gen s) := by
  unfold handoverMessage
  refine Only.ite ?_ ?_
  · exact State.becomeManager_only (hG.of rfl) hS
  · exact hS

theorem linkReport_only {r : Option LinkReport} {tables : List FabChange} {s : State} (hG : Sub 0x80ec61800000000068100000000010000008000000000050000c60000084000000000000000000030000 G) (hS : Only G s0 s) :
    Only G s0 (linkReport r tables s) := by
  unfold linkReport
  extract_lets +onlyGivenNames -underBinder -merge take_1
  have h2 : ∀ u3, Only G s0 u3 → ∀ y5, Only G s0 (take_1 u3 y5) := by
    subst take_1
    intro u3 hu4 y5
    try beta_reduce
    extract_lets +onlyGivenNames -underBinder -merge s_6
    have h7 : Only G s0 s_6 := by
      subst s_6
      exact State.modFab_only (hG.of rfl) hu4
    try clear_value s_6
    extract_lets +onlyGivenNames -underBinder -merge t_8
    refine Only.ite ?_ ?_
    · exact State.capTables_only (hG.of rfl) h7
    · exact State.change_only (hG.of rfl) h7
  try clear_value take_1
  split
  · refine Only.ite ?_ ?_
    · exact h2 _ hS _
    · refine Only.ite ?_ ?_
      · exact State.sendTo_only (hG.of rfl) hS
      · exact hS
  · refine Only.ite ?_ ?_
    · refine h2 _ ?_ _
      exact State.hear_only (hG.of rfl) hS
    · exact hS

theorem chipUnreachable_only {chip : Nat} {s : State} (hG : Sub 0x80ec61800000000068100000000010000008000000000050000c60000084000000000000000000030000 G) (hS : Only G s0 s) :
    Only G s0 (chipUnreachable chip s) := by
  unfold chipUnreachable
  extract_lets +onlyGivenNames -underBinder -merge linked_1
  extract_lets +onlyGivenNames -underBinder -merge heard_2
  refine Only.ite ?_ ?_
  · exact hS
  · refine State.checkPhase_only (hG.of rfl) ?_
    refine State.change_only (hG.of rfl) ?_
    exact State.notice_only (hG.of rfl) hS

theorem State.forwardOn_only {s : State} {blk : Nat} {f : FabPkt} {port : Nat} (hG : Sub 0xe000000000000200000000000000000000000000000000000000000000000000000000000000000000000 G) (hS : Only G s0 s) :
    Only G s0 (State.forwardOn s blk f port) := by
  unfold State.forwardOn
  extract_lets +onlyGivenNames -underBinder -merge b_1
  extract_lets +onlyGivenNames -underBinder -merge i_2
  extract_lets +onlyGivenNames -underBinder -merge __src_3
  extract_lets +onlyGivenNames -underBinder -merge p_4
  extract_lets +onlyGivenNames -underBinder -merge s_5
  have h6 : Only G s0 s_5 := by
    subst s_5
    exact Only.set_transit_fabPath_fabFlight (hG.of rfl) hS
  try clear_value s_5
  exact State.enqueue_only (hG.of rfl) h6

theorem fabricForward_only {blk : Nat} {origin : Bool} {f : FabPkt} {s : State} (hG : Sub 0x1e000000000000300000000000000000000000000000000000000000000000000000000000000000000000 G) (hS : Only G s0 s) :
    Only G s0 (fabricForward blk origin f s) := by
  unfold fabricForward
  extract_lets +onlyGivenNames -underBinder -merge s_1
  have h2 : Only G s0 s_1 := by
    subst s_1
    exact Only.set_transit (hG.of rfl) hS
  try clear_value s_1
  extract_lets +onlyGivenNames -underBinder -merge g_3
  extract_lets +onlyGivenNames -underBinder -merge i_4
  refine Only.ite ?_ ?_
  · exact h2
  · split
    · exact State.absorb_only (hG.of rfl) h2
    · split
      · refine Only.ite ?_ ?_
        · exact Only.set_fabHeld (hG.of rfl) h2
        · exact State.forwardOn_only (hG.of rfl) h2
      · exact State.forwardOn_only (hG.of rfl) h2

theorem ttlExpired_only {blk : Nat} {f : FabPkt} {s : State} (hG : Sub 0x2000000000000100000000000000000000000000000000000000200000000000000000000000000000000 G) (hS : Only G s0 s) :
    Only G s0 (ttlExpired blk f s) := by
  unfold ttlExpired
  refine Only.ite ?_ ?_
  · exact hS
  · refine State.count_only (hG.of rfl) ?_
    refine State.absorb_only (hG.of rfl) ?_
    exact Only.set_transit (hG.of rfl) hS

theorem fabricLinkLossReroute_only {p : Nat} {drained : Bool} {s : State} (hG : Sub 0x1e000000000000300000000000000000000000000000000000000800000000000000000000000000000000 G) (hS : Only G s0 s) :
    Only G s0 (fabricLinkLossReroute p drained s) := by
  unfold fabricLinkLossReroute
  extract_lets +onlyGivenNames -underBinder -merge up_1
  extract_lets +onlyGivenNames -underBinder -merge s_2
  have h3 : Only G s0 s_2 := by
    subst s_2
    refine State.each_only ?_ hS
    intro y4 u5 hu6
    try beta_reduce
    refine State.each_only ?_ hu6
    intro y7 u8 hu9
    try beta_reduce
    extract_lets +onlyGivenNames -underBinder -merge w_10
    refine Only.ite ?_ ?_
    · exact State.setBit_only (hG.of rfl) hu9
    · exact hu9
  try clear_value s_2
  extract_lets +onlyGivenNames -underBinder -merge via_11
  extract_lets +onlyGivenNames -underBinder -merge go_12
  extract_lets +onlyGivenNames -underBinder -merge s_13
  have h14 : Only G s0 s_13 := by
    subst s_13
    exact Only.set_fabFlight_fabHeld (hG.of rfl) h3
  try clear_value s_13
  refine Only.ite ?_ ?_
  · exact h3
  · refine Only.fold ?_ h14
    intro u15 y17 hu16
    try beta_reduce
    split
    · exact State.forwardOn_only (hG.of rfl) hu16
    · exact State.absorb_only (hG.of rfl) hu16

theorem mixedRevisionRetrain_only {blk : Nat} {partnerOk : Bool} {s : State} (hG : Sub 0x18004020000005e006a100000000010000008000000000010000000000084000000000001200805118440 G) (hS : Only G s0 s) :
    Only G s0 (mixedRevisionRetrain blk partnerOk s) := by
  unfold mixedRevisionRetrain
  extract_lets +onlyGivenNames -underBinder -merge rev_1
  extract_lets +onlyGivenNames -underBinder -merge better_2
  extract_lets +onlyGivenNames -underBinder -merge ok_3
  extract_lets +onlyGivenNames -underBinder -merge alone_4
  refine Only.ite ?_ ?_
  · exact sflRetrainWrite_only (hG.of rfl) hS
  · exact hS

theorem State.packUnit_only {s : State} {b : Nat} {f : FabPkt} {mark : Bool} (hG : Sub 0x80000000000000000000000000000000000000000000000000000000000000000000000 G) (hS : Only G s0 s) :
    Only G s0 (State.packUnit s b f mark) := by
  unfold State.packUnit
  extract_lets +onlyGivenNames -underBinder -merge x_1
  exact State.setLink_only (hG.of rfl) hS

theorem State.arrived_only {s : State} {b : Nat} {f : FabPkt} (hG : Sub 0x200000000be003000000000000000100000080000000000100000000000000000039f8000000000000000 G) (hS : Only G s0 s) :
    Only G s0 (State.arrived s b f) := by
  unfold State.arrived
  refine Only.ite ?_ ?_
  · exact Only.set_transit (hG.of rfl) hS
  · split
    · extract_lets +onlyGivenNames -underBinder -merge __src_1
      extract_lets +onlyGivenNames -underBinder -merge p_2
      refine Only.ite ?_ ?_
      · exact State.police_only (hG.of rfl) hS
      · exact State.enqueue_only (hG.of rfl) hS
    · exact State.absorb_only (hG.of rfl) hS

theorem State.keepRemoteMark_only {s : State} {f : FabPkt} (hG : Sub 0x1000000000000000000000000000000000000000000000000000000000000000000000000000 G) (hS : Only G s0 s) :
    Only G s0 (State.keepRemoteMark s f) := by
  unfold State.keepRemoteMark
  extract_lets +onlyGivenNames -underBinder -merge p_1
  refine Only.ite ?_ ?_
  · exact State.keepMark_only (hG.of rfl) hS
  · exact hS

theorem fabricHeaderRebuild_only {b : Nat} {d : FabDir} {s : State} (hG : Sub 0x800000000300000000be007800000800000000100000080000000000100002000000000000039f8001000810000000 G) (hS : Only G s0 s) :
    Only G s0 (fabricHeaderRebuild b d s) := by
  unfold fabricHeaderRebuild
  split
  · extract_lets +onlyGivenNames -underBinder -merge s_1
    have h2 : Only G s0 s_1 := by
      subst s_1
      exact Only.set_transit (hG.of rfl) hS
    try clear_value s_1
    extract_lets +onlyGivenNames -underBinder -merge s_3
    have h4 : Only G s0 s_3 := by
      subst s_3
      refine Only.ite ?_ ?_
      · exact State.leaves_only (hG.of rfl) h2
      · exact h2
    try clear_value s_3
    extract_lets +onlyGivenNames -underBinder -merge m_5
    extract_lets +onlyGivenNames -underBinder -merge mark_6
    extract_lets +onlyGivenNames -underBinder -merge low_7
    extract_lets +onlyGivenNames -underBinder -merge s_8
    have h9 : Only G s0 s_8 := by
      subst s_8
      refine Only.ite ?_ ?_
      · exact State.count_only (hG.of rfl) h4
      · exact h4
    try clear_value s_8
    extract_lets +onlyGivenNames -underBinder -merge __src_10
    extract_lets +onlyGivenNames -underBinder -merge g_11
    extract_lets +onlyGivenNames -underBinder -merge port_12
    extract_lets +onlyGivenNames -underBinder -merge s_13
    have h14 : Only G s0 s_13 := by
      subst s_13
      refine Only.ite ?_ ?_
      · refine State.noteTrace_only (hG.of rfl) ?_
        exact State.fresh_only (hG.of rfl) h9
      · exact h9
    try clear_value s_13
    exact State.packUnit_only (hG.of rfl) h14
  · extract_lets +onlyGivenNames -underBinder -merge x_15
    split
    · exact hS
    · extract_lets +onlyGivenNames -underBinder -merge s_16
      have h17 : Only G s0 s_16 := by
        subst s_16
        exact State.setLink_only (hG.of rfl) hS
      try clear_value s_16
      extract_lets +onlyGivenNames -underBinder -merge s_18
      have h19 : Only G s0 s_18 := by
        subst s_18
        refine Only.ite ?_ ?_
        · exact h17
        · refine State.updXoff_only (hG.of rfl) ?_
          exact State.set_only (hG.of rfl) h17
      try clear_value s_18
      extract_lets +onlyGivenNames -underBinder -merge begun_20
      extract_lets +onlyGivenNames -underBinder -merge s_21
      have h22 : Only G s0 s_21 := by
        subst s_21
        refine Only.ite ?_ ?_
        · exact State.count_only (hG.of rfl) h19
        · exact h19
      try clear_value s_21
      extract_lets +onlyGivenNames -underBinder -merge old_23
      split
      · extract_lets +onlyGivenNames -underBinder -merge s_24
        have h25 : Only G s0 s_24 := by
          subst s_24
          exact Only.set_fabIn (hG.of rfl) h22
        try clear_value s_24
        refine Only.fold ?_ h25
        intro u26 y28 hu27
        try beta_reduce
        refine State.arrived_only (hG.of rfl) ?_
        refine Only.ite ?_ ?_
        · exact State.keepRemoteMark_only (hG.of rfl) hu27
        · exact hu27

end Sys2Proof.Machine
end

