-- ==== Sys2Proof/Laws/FrameCounters.lean ====
section
/-! SUPPORT. The frame of each function of Machine/Counters.lean: the parts of the state that it may change, as a set of bits (StatePart.place), with the canonical form kept. -/

namespace Sys2Proof.Machine

variable {G : Nat} {s0 : State}

theorem cntSnap_only {u : Nat} {s : State} (hG : Sub 0x11000000000000000000000000000000000000000000000000 G) (hS : Only G s0 s) :
    Only G s0 (cntSnap u s) := by
  unfold cntSnap
  refine State.each_only ?_ hS
  intro y1 u2 hu3
  try beta_reduce
  extract_lets +onlyGivenNames -underBinder -merge t_4
  have h5 : Only G s0 t_4 := by
    subst t_4
    exact State.resultStart_only (hG.of rfl) hu3
  try clear_value t_4
  extract_lets +onlyGivenNames -underBinder -merge t_6
  have h7 : Only G s0 t_6 := by
    subst t_6
    refine State.each_only ?_ h5
    intro y8 u9 hu10
    try beta_reduce
    exact State.setReg_only (hG.of rfl) hu10
  try clear_value t_6
  exact State.resultDone_only (hG.of rfl) (hG.of rfl) h7

theorem cntClr_only {u : Nat} {s : State} (hG : Sub 0x8000000000000000000000000000000000000000000000000 G) (hS : Only G s0 s) :
    Only G s0 (cntClr u s) := by
  unfold cntClr
  refine State.each_only ?_ hS
  intro y1 u2 hu3
  try beta_reduce
  refine State.each_only ?_ hu3
  intro y4 u5 hu6
  try beta_reduce
  exact State.setReg_only (hG.of rfl) hu6

theorem clrPeak_only {s : State} (hG : Sub 0x80000000000000000000000000000000000000000000000000 G) (hS : Only G s0 s) :
    Only G s0 (clrPeak s) := by
  unfold clrPeak
  refine State.each_only ?_ hS
  intro y1 u2 hu3
  try beta_reduce
  refine State.set_only (hG.of rfl) ?_
  exact State.set_only (hG.of rfl) hu3

theorem bwWindowEnd_only {p : Nat} {inB : Nat} {outB : Nat} {s : State} (hG : Sub 0x1e0000000000000000000000000000000000000000000000000 G) (hS : Only G s0 s) :
    Only G s0 (bwWindowEnd p inB outB s) := by
  unfold bwWindowEnd
  extract_lets +onlyGivenNames -underBinder -merge win_1
  extract_lets +onlyGivenNames -underBinder -merge peak_2
  extract_lets +onlyGivenNames -underBinder -merge s_3
  have h4 : Only G s0 s_3 := by
    subst s_3
    refine State.set_only (hG.of rfl) ?_
    exact State.set_only (hG.of rfl) hS
  try clear_value s_3
  extract_lets +onlyGivenNames -underBinder -merge s_5
  have h6 : Only G s0 s_5 := by
    subst s_5
    exact State.set_only (hG.of rfl) h4
  try clear_value s_5
  extract_lets +onlyGivenNames -underBinder -merge s_7
  have h8 : Only G s0 s_7 := by
    subst s_7
    exact State.set_only (hG.of rfl) h6
  try clear_value s_7
  exact State.resultDone_only (hG.of rfl) (hG.of rfl) h8

theorem State.dropRecord_only {s : State} {r : Nat} (hG : Sub 0x20000000000000000000000000000000000000000004000000000000000000000000000000000000000000000000000 G) (hS : Only G s0 s) :
    Only G s0 (State.dropRecord s r) := by
  unfold State.dropRecord
  refine State.count_only (hG.of rfl) ?_
  exact Only.set_trcDrop (hG.of rfl) hS

theorem State.putVelair_only {s : State} {rt : Nat} {n : Nat} {bytes : List Byte} (hG : Sub 0x30000000000000000000000000000300000000000002008000000000000000000000000000000000000000000000000 G) (hS : Only G s0 s) :
    Only G s0 (State.putVelair s rt n bytes) := by
  unfold State.putVelair
  extract_lets +onlyGivenNames -underBinder -merge cap_1
  extract_lets +onlyGivenNames -underBinder -merge at'_2
  extract_lets +onlyGivenNames -underBinder -merge s_3
  have h4 : Only G s0 s_3 := by
    subst s_3
    exact Only.set_trcSeq_trcDrop (hG.of rfl) hS
  try clear_value s_3
  extract_lets +onlyGivenNames -underBinder -merge s_5
  have h6 : Only G s0 s_5 := by
    subst s_5
    exact State.set_only (hG.of rfl) h4
  try clear_value s_5
  extract_lets +onlyGivenNames -underBinder -merge s_7
  have h8 : Only G s0 s_7 := by
    subst s_7
    refine Only.ite ?_ ?_
    · exact State.set_only (hG.of rfl) h6
    · exact h6
  try clear_value s_7
  refine Only.ite ?_ ?_
  · exact State.emit_only (hG.of rfl) h8
  · refine State.hbmCount_only (hG.of rfl) ?_
    exact State.writeHbm_only (hG.of rfl) h8

theorem traceRecord_only {credit : Bool} {s : State} (hG : Sub 0x38000000000000000000000000000300000000000006008000000000000000000000000000000000000000000000000 G) (hS : Only G s0 s) :
    Only G s0 (traceRecord credit s) := by
  unfold traceRecord
  split
  · exact hS
  · extract_lets +onlyGivenNames -underBinder -merge s_1
    have h2 : Only G s0 s_1 := by
      subst s_1
      exact Only.set_trcDue (hG.of rfl) hS
    try clear_value s_1
    extract_lets +onlyGivenNames -underBinder -merge n_3
    extract_lets +onlyGivenNames -underBinder -merge cap_4
    extract_lets +onlyGivenNames -underBinder -merge full_5
    extract_lets +onlyGivenNames -underBinder -merge shut_6
    refine Only.ite ?_ ?_
    · exact h2
    · refine Only.ite ?_ ?_
      · exact State.dropRecord_only (hG.of rfl) h2
      · exact State.putVelair_only (hG.of rfl) h2

theorem start_only {s : State} (hG : Sub 0x2000000000000000000000000000000000010002008000000000010000000000000000000000000000000000008 G) (hS : Only G s0 s) :
    Only G s0 (start s) := by
  unfold start
  refine Only.ite ?_ ?_
  · exact State.refuseWrite_only (hG.of rfl) hS
  · refine State.set_only (hG.of rfl) ?_
    refine State.set_only (hG.of rfl) ?_
    exact State.set_only (hG.of rfl) hS

theorem stop_only {s : State} (hG : Sub 0x2000000000000000000000000000000000000000000000000000 G) (hS : Only G s0 s) :
    Only G s0 (stop s) := by
  unfold stop
  exact State.set_only (hG.of rfl) hS

theorem telem_only {e : Nat} {s : State} (hG : Sub 0x100000000000000000000000000000000000000000000000000000000000000000000000000000000000 G) (hS : Only G s0 s) :
    Only G s0 (telem e s) := by
  unfold telem
  split
  · exact hS
  · refine Only.ite ?_ ?_
    · exact State.finishJob_only (hG.of rfl) hS
    · refine Only.ite ?_ ?_
      · exact State.finishJob_only (hG.of rfl) hS
      · refine Only.ite ?_ ?_
        · exact State.finishJob_only (hG.of rfl) hS
        · exact hS

theorem telemSnapshot_only {e : Nat} {s : State} (hG : Sub 0x3ce00c200000004000300000000000000008000000000000000000007000000000000000000000000000 G) (hS : Only G s0 s) :
    Only G s0 (telemSnapshot e s) := by
  unfold telemSnapshot
  split
  · exact hS
  · extract_lets +onlyGivenNames -underBinder -merge p0_1
    extract_lets +onlyGivenNames -underBinder -merge body_2
    extract_lets +onlyGivenNames -underBinder -merge head_3
    extract_lets +onlyGivenNames -underBinder -merge bytes_4
    extract_lets +onlyGivenNames -underBinder -merge off_5
    extract_lets +onlyGivenNames -underBinder -merge dst_6
    extract_lets +onlyGivenNames -underBinder -merge s_7
    have h8 : Only G s0 s_7 := by
      subst s_7
      exact State.modRun_only (hG.of rfl) hS
    try clear_value s_7
    extract_lets +onlyGivenNames -underBinder -merge line_9
    refine Only.ite ?_ ?_
    · exact telem_only (hG.of rfl) hS
    · refine Only.ite ?_ ?_
      · exact State.finishJob_only (hG.of rfl) hS
      · refine State.pump_only (hG.of rfl) ?_
        exact State.addAcc_only (hG.of rfl) h8

end Sys2Proof.Machine
end

