-- ==== Sys2Proof/Laws/FrameImageRules.lean ====
section
/-! SUPPORT. The frame of each function of Machine/ImageRules.lean: the parts of the state that it may change, as a set of bits (StatePart.place), with the canonical form kept. -/

namespace Sys2Proof.Machine

variable {G : Nat} {s0 : State}

theorem State.putCell_only {s : State} {c : ImgCell} (hG : Sub 0x7fffffffffffffffffffffffffffffffffffffffffffffffffffffff G) (h : Only G s0 s) : Only G s0 (State.putCell s c) :=
  State.setReg_only (Sub.kind (hG.of rfl)) h
theorem State.putCells_only {s : State} {l : List ImgCell} (hG : Sub 0x7fffffffffffffffffffffffffffffffffffffffffffffffffffffff G) (hS : Only G s0 s) :
    Only G s0 (State.putCells s l) := by
  unfold State.putCells
  refine Only.fold ?_ hS
  intro u1 y3 hu2
  try beta_reduce
  exact State.putCell_only (hG.of rfl) hu2

end Sys2Proof.Machine
end

