-- ==== Sys2Proof/Laws/FrameImages.lean ====
section
/-! SUPPORT. The frame of each function of Machine/Images.lean: the parts of the state that it may change, as a set of bits (StatePart.place), with the canonical form kept. -/

namespace Sys2Proof.Machine

variable {G : Nat} {s0 : State}

theorem State.afterImage_only {s : State} {sl : Nat} {img : ImgContent} (hG : Sub 0xc00000000000000000000000000000000000000000000000003000000000020000000200000000000003 G) (hS : Only G s0 s) :
    Only G s0 (State.afterImage s sl img) := by
  unfold State.afterImage
  extract_lets +onlyGivenNames -underBinder -merge s_1
  have h2 : Only G s0 s_1 := by
    subst s_1
    split
    · exact State.modFab_only (hG.of rfl) hS
    · exact hS
  try clear_value s_1
  extract_lets +onlyGivenNames -underBinder -merge s_3
  have h4 : Only G s0 s_3 := by
    subst s_3
    split
    · exact State.modFab_only (hG.of rfl) h2
    · exact h2
  try clear_value s_3
  extract_lets +onlyGivenNames -underBinder -merge s_5
  have h6 : Only G s0 s_5 := by
    subst s_5
    split
    · exact Only.set_fwVersion (hG.of rfl) h4
    · exact h4
  try clear_value s_5
  extract_lets +onlyGivenNames -underBinder -merge s_7
  have h8 : Only G s0 s_7 := by
    subst s_7
    exact State.set_only (hG.of rfl) h6
  try clear_value s_7
  extract_lets +onlyGivenNames -underBinder -merge s_9
  have h10 : Only G s0 s_9 := by
    subst s_9
    exact State.set_only (hG.of rfl) h8
  try clear_value s_9
  extract_lets +onlyGivenNames -underBinder -merge s_11
  have h12 : Only G s0 s_11 := by
    subst s_11
    exact State.set_only (hG.of rfl) h10
  try clear_value s_11
  extract_lets +onlyGivenNames -underBinder -merge s_13
  have h14 : Only G s0 s_13 := by
    subst s_13
    exact State.set_only (hG.of rfl) h12
  try clear_value s_13
  refine State.showSlots_only (hG.of rfl) ?_
  exact State.setFree_only (hG.of rfl) h14

theorem State.applyBoot_only {s : State} {sl : Nat} {img : ImgContent} (hG : Sub 0x20000c0000003820000000020000000007fffffffffffffffffffffffffffffffffffffffffffffffffffffff G) (hS : Only G s0 s) :
    Only G s0 (State.applyBoot s sl img) := by
  unfold State.applyBoot
  extract_lets +onlyGivenNames -underBinder -merge s_1
  have h2 : Only G s0 s_1 := by
    subst s_1
    exact State.putCells_only (hG.of rfl) hS
  try clear_value s_1
  extract_lets +onlyGivenNames -underBinder -merge s_3
  have h4 : Only G s0 s_3 := by
    subst s_3
    refine State.each_only ?_ h2
    intro y5 u6 hu7
    try beta_reduce
    exact State.reloadRegion_only (hG.of rfl) hu7
  try clear_value s_3
  extract_lets +onlyGivenNames -underBinder -merge s_8
  have h9 : Only G s0 s_8 := by
    subst s_8
    exact State.afterImage_only (hG.of rfl) h4
  try clear_value s_8
  extract_lets +onlyGivenNames -underBinder -merge s_10
  have h11 : Only G s0 s_10 := by
    subst s_10
    exact State.clearHbm_only (hG.of rfl) h9
  try clear_value s_10
  extract_lets +onlyGivenNames -underBinder -merge s_12
  have h13 : Only G s0 s_12 := by
    subst s_12
    exact Only.set_imgCtx (hG.of rfl) h11
  try clear_value s_12
  extract_lets +onlyGivenNames -underBinder -merge s_14
  have h15 : Only G s0 s_14 := by
    subst s_14
    refine State.each_only ?_ h13
    intro y16 u17 hu18
    try beta_reduce
    exact State.issuePool_only (hG.of rfl) hu18
  try clear_value s_14
  refine Only.fold ?_ h15
  intro u19 y21 hu20
  try beta_reduce
  exact State.bindLd_only (hG.of rfl) hu20

theorem State.switchEntry_only {s : State} {t : DupTable} {i : Nat} {img : ImgContent} (hG : Sub 0xb000000000000000000007fffffffffffffffffffffffffffffffffffffffffffffffffffffff G) (hS : Only G s0 s) :
    Only G s0 (State.switchEntry s t i img) := by
  unfold State.switchEntry
  extract_lets +onlyGivenNames -underBinder -merge l_1
  refine Only.ite ?_ ?_
  · refine State.writeEntry_only (hG.of rfl) ?_ hS
    intro u2 hu3
    try beta_reduce
    exact State.putCells_only (hG.of rfl) hu3
  · exact hS

theorem State.switchRoute_only {s : State} {i : Nat} {img : ImgContent} (hG : Sub 0x20000000000000b0000100000000000000010000008000000000010000000000000000048000000000200000008 G) (hS : Only G s0 s) :
    Only G s0 (State.switchRoute s i img) := by
  unfold State.switchRoute
  extract_lets +onlyGivenNames -underBinder -merge l_1
  refine Only.ite ?_ ?_
  · exact routeEntryWrite_only (hG.of rfl) hS
  · exact hS

theorem State.switchVppb_only {s : State} {v : Nat} {img : ImgContent} (hG : Sub 0x110000000800000820070001818000000007fffffffffffffffffffffffffffffffffffffffffffffffffffffff G) (hS : Only G s0 s) :
    Only G s0 (State.switchVppb s v img) := by
  unfold State.switchVppb
  extract_lets +onlyGivenNames -underBinder -merge l_1
  extract_lets +onlyGivenNames -underBinder -merge t_2
  have h3 : Only G s0 t_2 := by
    subst t_2
    exact State.putCells_only (hG.of rfl) hS
  try clear_value t_2
  extract_lets +onlyGivenNames -underBinder -merge ld_4
  extract_lets +onlyGivenNames -underBinder -merge s_5
  have h6 : Only G s0 s_5 := by
    subst s_5
    refine Only.ite ?_ ?_
    · exact State.unbound_only (hG.of rfl) hS
    · exact hS
  try clear_value s_5
  extract_lets +onlyGivenNames -underBinder -merge s_7
  have h8 : Only G s0 s_7 := by
    subst s_7
    refine State.bindLd_only (hG.of rfl) ?_
    exact State.putCells_only (hG.of rfl) h6
  try clear_value s_7
  extract_lets +onlyGivenNames -underBinder -merge p_9
  extract_lets +onlyGivenNames -underBinder -merge bound_10
  extract_lets +onlyGivenNames -underBinder -merge s_11
  have h12 : Only G s0 s_11 := by
    subst s_11
    refine State.release_only (hG.of rfl) ?_
    exact State.dropTriggers_only (hG.of rfl) h8
  try clear_value s_11
  refine Only.ite ?_ ?_
  · exact hS
  · refine Only.ite ?_ ?_
    · refine Only.ite ?_ ?_
      · exact State.hotAdd_only (hG.of rfl) h12
      · exact h12
    · exact h8

theorem State.switchCtx_only {s : State} {c : Nat} {img : ImgContent} (hG : Sub 0x20000000000000000007fffffffffffffffffffffffffffffffffffffffffffffffffffffff G) (hS : Only G s0 s) :
    Only G s0 (State.switchCtx s c img) := by
  unfold State.switchCtx
  extract_lets +onlyGivenNames -underBinder -merge l_1
  extract_lets +onlyGivenNames -underBinder -merge keep_2
  extract_lets +onlyGivenNames -underBinder -merge l_3
  extract_lets +onlyGivenNames -underBinder -merge rekeyed_4
  extract_lets +onlyGivenNames -underBinder -merge s_5
  have h6 : Only G s0 s_5 := by
    subst s_5
    exact State.putCells_only (hG.of rfl) hS
  try clear_value s_5
  extract_lets +onlyGivenNames -underBinder -merge s_7
  have h8 : Only G s0 s_7 := by
    subst s_7
    refine Only.ite ?_ ?_
    · exact State.set_only (hG.of rfl) h6
    · exact h6
  try clear_value s_7
  extract_lets +onlyGivenNames -underBinder -merge s_9
  have h10 : Only G s0 s_9 := by
    subst s_9
    refine Only.ite ?_ ?_
    · exact State.clearCtx_only (hG.of rfl) h8
    · exact h8
  try clear_value s_9
  refine Only.ite ?_ ?_
  · refine State.showTokens_only (hG.of rfl) ?_
    exact State.setBucket_only (hG.of rfl) h10
  · exact hS

theorem State.switchShaper_only {s : State} {i : Nat} {img : ImgContent} (hG : Sub 0x20000000000000000007fffffffffffffffffffffffffffffffffffffffffffffffffffffff G) (hS : Only G s0 s) :
    Only G s0 (State.switchShaper s i img) := by
  unfold State.switchShaper
  extract_lets +onlyGivenNames -underBinder -merge l_1
  extract_lets +onlyGivenNames -underBinder -merge s_2
  have h3 : Only G s0 s_2 := by
    subst s_2
    exact State.putCells_only (hG.of rfl) hS
  try clear_value s_2
  refine Only.ite ?_ ?_
  · exact State.setBucket_only (hG.of rfl) h3
  · exact hS

theorem State.dropForPorts_only {s : State} {b : Nat} (hG : Sub 0x400000000018004020000005f006e100000000010080008000000000010000000000084000000000001200805518440 G) (hS : Only G s0 s) :
    Only G s0 (State.dropForPorts s b) := by
  unfold State.dropForPorts
  extract_lets +onlyGivenNames -underBinder -merge s_1
  have h2 : Only G s0 s_1 := by
    subst s_1
    refine Only.ite ?_ ?_
    · exact State.sflDown_only (hG.of rfl) hS
    · exact hS
  try clear_value s_1
  refine State.each_only ?_ h2
  intro y3 u4 hu5
  try beta_reduce
  exact State.takeDown_only (hG.of rfl) hu5

theorem State.switchCell_only {s : State} {c : ImgCell} (hG : Sub 0x7fffffffffffffffffffffffffffffffffffffffffffffffffffffff G) (hS : Only G s0 s) :
    Only G s0 (State.switchCell s c) := by
  unfold State.switchCell
  extract_lets +onlyGivenNames -underBinder -merge keep_1
  extract_lets +onlyGivenNames -underBinder -merge t_2
  have h3 : Only G s0 t_2 := by
    subst t_2
    exact State.putCell_only (hG.of rfl) hS
  try clear_value t_2
  extract_lets +onlyGivenNames -underBinder -merge changed_4
  extract_lets +onlyGivenNames -underBinder -merge t_5
  have h6 : Only G s0 t_5 := by
    subst t_5
    refine State.set_only (hG.of rfl) ?_
    exact State.set_only (hG.of rfl) h3
  try clear_value t_5
  refine Only.ite ?_ ?_
  · refine Only.ite ?_ ?_
    · exact State.notice_only (hG.of rfl) h6
    · exact h6
  · exact State.putCell_only (hG.of rfl) hS

theorem State.switchCells_only {s : State} {img : ImgContent} (hG : Sub 0x400031000018084020b82007f007f98000000007fffffffffffffffffffffffffffffffffffffffffffffffffffffff G) (hS : Only G s0 s) :
    Only G s0 (State.switchCells s img) := by
  unfold State.switchCells
  extract_lets +onlyGivenNames -underBinder -merge s_1
  have h2 : Only G s0 s_1 := by
    subst s_1
    refine Only.fold ?_ hS
    intro u3 y5 hu4
    try beta_reduce
    refine Only.ite ?_ ?_
    · exact hu4
    · exact State.switchEntry_only (hG.of rfl) hu4
  try clear_value s_1
  extract_lets +onlyGivenNames -underBinder -merge s_7
  have h8 : Only G s0 s_7 := by
    subst s_7
    refine Only.fold ?_ h2
    intro u9 y11 hu10
    try beta_reduce
    exact State.switchVppb_only (hG.of rfl) hu10
  try clear_value s_7
  extract_lets +onlyGivenNames -underBinder -merge hit_13
  extract_lets +onlyGivenNames -underBinder -merge s_14
  have h15 : Only G s0 s_14 := by
    subst s_14
    refine State.each_only ?_ h8
    intro y16 u17 hu18
    try beta_reduce
    exact State.dropForPorts_only (hG.of rfl) hu18
  try clear_value s_14
  extract_lets +onlyGivenNames -underBinder -merge s_19
  have h20 : Only G s0 s_19 := by
    subst s_19
    refine Only.fold ?_ h15
    intro u21 y23 hu22
    try beta_reduce
    exact State.switchCell_only (hG.of rfl) hu22
  try clear_value s_19
  extract_lets +onlyGivenNames -underBinder -merge s_25
  have h26 : Only G s0 s_25 := by
    subst s_25
    refine State.each_only ?_ h20
    intro y27 u28 hu29
    try beta_reduce
    refine State.bringUpAlone_only (hG.of rfl) ?_
    exact State.bringUpAlone_only (hG.of rfl) hu29
  try clear_value s_25
  extract_lets +onlyGivenNames -underBinder -merge s_30
  have h31 : Only G s0 s_30 := by
    subst s_30
    refine State.each_only ?_ h26
    intro y32 u33 hu34
    try beta_reduce
    exact State.issuePool_only (hG.of rfl) hu34
  try clear_value s_30
  extract_lets +onlyGivenNames -underBinder -merge s_35
  have h36 : Only G s0 s_35 := by
    subst s_35
    refine Only.fold ?_ h31
    intro u37 y39 hu38
    try beta_reduce
    exact State.switchRoute_only (hG.of rfl) hu38
  try clear_value s_35
  extract_lets +onlyGivenNames -underBinder -merge s_41
  have h42 : Only G s0 s_41 := by
    subst s_41
    refine Only.fold ?_ h36
    intro u43 y45 hu44
    try beta_reduce
    exact State.switchEntry_only (hG.of rfl) hu44
  try clear_value s_41
  extract_lets +onlyGivenNames -underBinder -merge s_47
  have h48 : Only G s0 s_47 := by
    subst s_47
    refine Only.fold ?_ h42
    intro u49 y51 hu50
    try beta_reduce
    exact State.switchCtx_only (hG.of rfl) hu50
  try clear_value s_47
  refine Only.fold ?_ h48
  intro u53 y55 hu54
  try beta_reduce
  exact State.switchShaper_only (hG.of rfl) hu54

theorem State.applyNow_only {s : State} {sl : Nat} {img : ImgContent} (hG : Sub 0x400031e0001c084020b82007f007f98000000007fffffffffffffffffffffffffffffffffffffffffffffffffffffff G) (hS : Only G s0 s) :
    Only G s0 (State.applyNow s sl img) := by
  unfold State.applyNow
  extract_lets +onlyGivenNames -underBinder -merge later_1
  extract_lets +onlyGivenNames -underBinder -merge t_2
  have h3 : Only G s0 t_2 := by
    subst t_2
    exact State.switchCells_only (hG.of rfl) hS
  try clear_value t_2
  extract_lets +onlyGivenNames -underBinder -merge t_4
  have h5 : Only G s0 t_4 := by
    subst t_4
    exact Only.set_imgCtx_reloadDue_imgLater (hG.of rfl) h3
  try clear_value t_4
  refine State.each_only ?_ ?_
  · intro y6 u7 hu8
    try beta_reduce
    exact State.showLoaded_only (hG.of rfl) hu8
  · exact State.afterImage_only (hG.of rfl) h5

theorem State.takeLater_only {s : State} {r : Nat} (hG : Sub 0x400031800018084020b82007f007f98000000007fffffffffffffffffffffffffffffffffffffffffffffffffffffff G) (hS : Only G s0 s) :
    Only G s0 (State.takeLater s r) := by
  unfold State.takeLater
  extract_lets +onlyGivenNames -underBinder -merge mine_1
  extract_lets +onlyGivenNames -underBinder -merge __src_2
  refine State.switchCells_only (hG.of rfl) ?_
  exact Only.set_imgLater (hG.of rfl) hS

theorem State.imageCommand_only {s : State} {r : ImgRun} (hG : Sub 0x2000200000000000000000000000000000010000008000000000010008000000000000000000000000000000008 G) (hS : Only G s0 s) :
    Only G s0 (State.imageCommand s r) := by
  unfold State.imageCommand
  extract_lets +onlyGivenNames -underBinder -merge __src_1
  have h2 : Only G s0 __src_1 := by
    subst __src_1
    exact State.resultStart_only (hG.of rfl) hS
  try clear_value __src_1
  refine Only.ite ?_ ?_
  · exact State.refuseWrite_only (hG.of rfl) hS
  · exact Only.set_imgRun (hG.of rfl) h2

theorem imgErase_only {sl : Nat} {s : State} (hG : Sub 0x200036000000000000000000000000000001000000800000000001000b000000000000000000000000000000008 G) (hS : Only G s0 s) :
    Only G s0 (imgErase sl s) := by
  unfold imgErase
  extract_lets +onlyGivenNames -underBinder -merge used_1
  extract_lets +onlyGivenNames -underBinder -merge t_2
  have h3 : Only G s0 t_2 := by
    subst t_2
    exact State.imageCommand_only (hG.of rfl) hS
  try clear_value t_2
  extract_lets +onlyGivenNames -underBinder -merge __src_4
  have h5 : Only G s0 __src_4 := by
    subst __src_4
    exact State.eraseFlash_only (hG.of rfl) h3
  try clear_value __src_4
  refine Only.ite ?_ ?_
  · exact h3
  · refine State.showSlots_only (hG.of rfl) ?_
    exact Only.set_checked (hG.of rfl) h5

theorem imgWrite_only {sl : Nat} {offset : Nat} {readBack : List Byte} {s : State} (hG : Sub 0x200030000000000000000000008000000001000000800000000001000b000000000000000000000000000000008 G) (hS : Only G s0 s) :
    Only G s0 (imgWrite sl offset readBack s) := by
  unfold imgWrite
  extract_lets +onlyGivenNames -underBinder -merge want_1
  extract_lets +onlyGivenNames -underBinder -merge got_2
  extract_lets +onlyGivenNames -underBinder -merge bad_3
  extract_lets +onlyGivenNames -underBinder -merge t_4
  have h5 : Only G s0 t_4 := by
    subst t_4
    exact State.imageCommand_only (hG.of rfl) hS
  try clear_value t_4
  refine Only.ite ?_ ?_
  · exact State.imageCommand_only (hG.of rfl) hS
  · refine Only.ite ?_ ?_
    · refine State.fresh_only (hG.of rfl) ?_
      exact State.imageCommand_only (hG.of rfl) hS
    · refine Only.ite ?_ ?_
      · exact h5
      · refine State.showSlots_only (hG.of rfl) ?_
        exact Only.set_checked (hG.of rfl) h5

theorem imgCheck_only {sl : Nat} {rule : Option RuleItem} {img : ImgContent} {s : State} (hG : Sub 0x2000200000000000000000000000000000010000008000000000010008000000000000000000000000000000008 G) (hS : Only G s0 s) :
    Only G s0 (imgCheck sl rule img s) := by
  unfold imgCheck
  extract_lets +onlyGivenNames -underBinder -merge v_1
  exact State.imageCommand_only (hG.of rfl) hS

theorem imgCommit_only {sl : Nat} {s : State} (hG : Sub 0x2000200000000000000000000000000000010000008000000000010008000000000000000000000000000000008 G) (hS : Only G s0 s) :
    Only G s0 (imgCommit sl s) := by
  unfold imgCommit
  exact State.imageCommand_only (hG.of rfl) hS

theorem imgApply_only {sl : Nat} {img : ImgContent} {s : State} (hG : Sub 0x2000200000000000000000000000000000010000008000000000010008000000000000000000000000000000008 G) (hS : Only G s0 s) :
    Only G s0 (imgApply sl img s) := by
  unfold imgApply
  extract_lets +onlyGivenNames -underBinder -merge img_1
  exact State.imageCommand_only (hG.of rfl) hS

theorem State.imageEffect_only {s : State} {r : ImgRun} (hG : Sub 0x400031e0161c084020b82007f007f98000000007fffffffffffffffffffffffffffffffffffffffffffffffffffffff G) (hS : Only G s0 s) :
    Only G s0 (State.imageEffect s r) := by
  unfold State.imageEffect
  split
  · exact State.eraseFlash_only (hG.of rfl) hS
  · exact State.program_only (hG.of rfl) hS
  · exact Only.set_checked (hG.of rfl) hS
  · refine State.program_only (hG.of rfl) ?_
    exact State.eraseFlash_only (hG.of rfl) hS
  · exact State.applyNow_only (hG.of rfl) hS

theorem imageCommandComplete_only {s : State} (hG : Sub 0x400031e0361c084020b82007f007f98000000007fffffffffffffffffffffffffffffffffffffffffffffffffffffff G) (hS : Only G s0 s) :
    Only G s0 (imageCommandComplete s) := by
  unfold imageCommandComplete
  split
  · exact hS
  · extract_lets +onlyGivenNames -underBinder -merge r_1
    extract_lets +onlyGivenNames -underBinder -merge regions_2
    extract_lets +onlyGivenNames -underBinder -merge s_3
    have h4 : Only G s0 s_3 := by
      subst s_3
      exact Only.set_imgRun (hG.of rfl) hS
    try clear_value s_3
    extract_lets +onlyGivenNames -underBinder -merge s_5
    have h6 : Only G s0 s_5 := by
      subst s_5
      refine Only.ite ?_ ?_
      · exact State.imageEffect_only (hG.of rfl) h4
      · refine Only.ite ?_ ?_
        · exact State.program_only (hG.of rfl) h4
        · exact h4
    try clear_value s_5
    extract_lets +onlyGivenNames -underBinder -merge s_7
    have h8 : Only G s0 s_7 := by
      subst s_7
      exact State.showSlots_only (hG.of rfl) h6
    try clear_value s_7
    extract_lets +onlyGivenNames -underBinder -merge s_9
    have h10 : Only G s0 s_9 := by
      subst s_9
      exact State.set_only (hG.of rfl) h8
    try clear_value s_9
    extract_lets +onlyGivenNames -underBinder -merge s_11
    have h12 : Only G s0 s_11 := by
      subst s_11
      exact State.set_only (hG.of rfl) h10
    try clear_value s_11
    extract_lets +onlyGivenNames -underBinder -merge s_13
    have h14 : Only G s0 s_13 := by
      subst s_13
      exact State.set_only (hG.of rfl) h12
    try clear_value s_13
    extract_lets +onlyGivenNames -underBinder -merge s_15
    have h16 : Only G s0 s_15 := by
      subst s_15
      exact State.set_only (hG.of rfl) h14
    try clear_value s_15
    exact State.resultDone_only (hG.of rfl) (hG.of rfl) h16

theorem State.enterSafe_only {s : State} {cause : Nat} (hG : Sub 0x10000000010000008000000020050000000000000000000000000000000000000 G) (hS : Only G s0 s) :
    Only G s0 (State.enterSafe s cause) := by
  unfold State.enterSafe
  refine State.updFaultN_only (hG.of rfl) ?_
  refine State.updMode_only (hG.of rfl) ?_
  refine State.set_only (hG.of rfl) ?_
  exact Only.set_phase (hG.of rfl) hS

theorem State.tryProvision_only {s : State} (hG : Sub 0x28000c0000003820000000021000000007fffffffffffffffffffffffffffffffffffffffffffffffffffffff G) (hS : Only G s0 s) :
    Only G s0 (State.tryProvision s) := by
  unfold State.tryProvision
  split
  · extract_lets +onlyGivenNames -underBinder -merge s_1
    have h2 : Only G s0 s_1 := by
      subst s_1
      refine State.applyBoot_only (hG.of rfl) ?_
      exact Only.set_phase_staged (hG.of rfl) hS
    try clear_value s_1
    extract_lets +onlyGivenNames -underBinder -merge s_3
    have h4 : Only G s0 s_3 := by
      subst s_3
      refine State.each_only ?_ h2
      intro y5 u6 hu7
      try beta_reduce
      exact State.set_only (hG.of rfl) hu7
    try clear_value s_3
    refine Only.ite ?_ ?_
    · exact State.updMode_only (hG.of rfl) h4
    · exact hS
  · exact hS

theorem bootRecordsRead_only {s : State} (hG : Sub 0x3000000000000000000000010000000018000008000000000050013000000000000000000000000000000000 G) (hS : Only G s0 s) :
    Only G s0 (bootRecordsRead s) := by
  unfold bootRecordsRead
  extract_lets +onlyGivenNames -underBinder -merge __src_1
  have h2 : Only G s0 __src_1 := by
    subst __src_1
    refine State.showSlots_only (hG.of rfl) ?_
    exact State.bootKeys_only (hG.of rfl) hS
  try clear_value __src_1
  refine Only.ite ?_ ?_
  · refine State.updMode_only (hG.of rfl) ?_
    exact Only.set_phase (hG.of rfl) h2
  · exact hS

theorem bootVerifyResult_only {ruleA : Option RuleItem} {imgA : ImgContent} {ruleB : Option RuleItem} {imgB : ImgContent} {s : State} (hG : Sub 0x28000c0000003820000000021000000007fffffffffffffffffffffffffffffffffffffffffffffffffffffff G) (hS : Only G s0 s) :
    Only G s0 (bootVerifyResult ruleA imgA ruleB imgB s) := by
  unfold bootVerifyResult
  extract_lets +onlyGivenNames -underBinder -merge img_1
  extract_lets +onlyGivenNames -underBinder -merge ok_2
  refine Only.ite ?_ ?_
  · exact hS
  · split
    · refine State.enterSafe_only (hG.of rfl) ?_
      exact State.notice_only (hG.of rfl) hS
    · extract_lets +onlyGivenNames -underBinder -merge fell_3
      extract_lets +onlyGivenNames -underBinder -merge s_4
      have h5 : Only G s0 s_4 := by
        subst s_4
        refine Only.ite ?_ ?_
        · refine State.notice_only (hG.of rfl) ?_
          exact State.set_only (hG.of rfl) hS
        · exact hS
      try clear_value s_4
      refine State.tryProvision_only (hG.of rfl) ?_
      exact Only.set_staged (hG.of rfl) h5

end Sys2Proof.Machine
end

