-- ==== Sys2Proof/Laws/FrameFaults.lean ====
section
/-! SUPPORT. The frame of each function of Machine/Faults.lean: the parts of the state that it may change, as a set of bits (StatePart.place), with the canonical form kept. -/

namespace Sys2Proof.Machine

variable {G : Nat} {s0 : State}

theorem faultCause_only {ev : Nat} {cls : Nat} {detail : Nat} {inj : Bool} {s : State} (hG : Sub 0x1b014020000005f006a1000000000100000080000403e0050000000010084000000000001200805518441 G) (hS : Only G s0 s) :
    Only G s0 (faultCause ev cls detail inj s) := by
  unfold faultCause
  refine Only.ite ?_ ?_
  · exact State.recordCause_only (hG.of rfl) hS
  · refine Only.ite ?_ ?_
    · exact State.queueEvent_only (hG.of rfl) hS
    · exact hS

theorem fltPendClear_only {c : Nat} {s : State} (hG : Sub 0x60000000000000000000000000000000000000000 G) (hS : Only G s0 s) :
    Only G s0 (fltPendClear c s) := by
  unfold fltPendClear
  refine Only.ite ?_ ?_
  · exact hS
  · refine State.updFaultN_only (hG.of rfl) ?_
    exact State.set_only (hG.of rfl) hS

theorem fltFatalClear_only {r : Nat} {s : State} (hG : Sub 0x40000000000000000000000000000000000000000000 G) (hS : Only G s0 s) :
    Only G s0 (fltFatalClear r s) := by
  unfold fltFatalClear
  refine Only.ite ?_ ?_
  · exact hS
  · exact State.set_only (hG.of rfl) hS

theorem regionFence_only {r : Nat} {s : State} (hG : Sub 0x1b014020000005f006a1000000000100000080000403e0050000000010084000000000001200805518441 G) (hS : Only G s0 s) :
    Only G s0 (regionFence r s) := by
  unfold regionFence
  exact State.cause_only (hG.of rfl) hS

theorem chipFatalCause_only {ev : Nat} {s : State} (hG : Sub 0x1b014020000005f006a1000000000100000080000403e0050000000010084000000000001200805518441 G) (hS : Only G s0 s) :
    Only G s0 (chipFatalCause ev s) := by
  unfold chipFatalCause
  refine State.chipFatal_only (hG.of rfl) ?_
  exact State.cause_only (hG.of rfl) hS

theorem State.scanHome_only {s : State} {n : Nat} (hG : Sub 0x1b014f20000005f006a3000000000100000080000403e0050000000010085480000000001200805518441 G) (hS : Only G s0 s) :
    Only G s0 (State.scanHome s n) := by
  unfold State.scanHome
  extract_lets +onlyGivenNames -underBinder -merge mine_1
  extract_lets +onlyGivenNames -underBinder -merge held_2
  extract_lets +onlyGivenNames -underBinder -merge s_3
  have h4 : Only G s0 s_3 := by
    subst s_3
    refine Only.fold ?_ hS
    intro u5 y7 hu6
    try beta_reduce
    extract_lets +onlyGivenNames -underBinder -merge u_9
    have h10 : Only G s0 u_9 := by
      subst u_9
      split
      · exact State.setDir_only (hG.of rfl) hu6
      · exact hu6
    try clear_value u_9
    exact State.poisonLine_only (hG.of rfl) h10
  try clear_value s_3
  extract_lets +onlyGivenNames -underBinder -merge s_11
  have h12 : Only G s0 s_11 := by
    subst s_11
    exact Only.set_txns_wbuf_trkWait (hG.of rfl) h4
  try clear_value s_11
  exact State.showTrackers_only (hG.of rfl) h12

theorem State.recoveryFails_only {s : State} {r : Nat} (hG : Sub 0x10000008000040020050000000000000000000000000000000000000 G) (hS : Only G s0 s) :
    Only G s0 (State.recoveryFails s r) := by
  unfold State.recoveryFails
  refine State.updFaultN_only (hG.of rfl) ?_
  refine State.updMode_only (hG.of rfl) ?_
  refine State.notice_only (hG.of rfl) ?_
  exact State.set_only (hG.of rfl) hS

theorem lostHomeScan_only {n : Nat} {ok : Bool} {s : State} (hG : Sub 0x1b014f20000005f006a3000000000100000080000403e0050000000010085480000000001200805518441 G) (hS : Only G s0 s) :
    Only G s0 (lostHomeScan n ok s) := by
  unfold lostHomeScan
  extract_lets +onlyGivenNames -underBinder -merge r_1
  extract_lets +onlyGivenNames -underBinder -merge s_2
  have h3 : Only G s0 s_2 := by
    subst s_2
    exact State.set_only (hG.of rfl) hS
  try clear_value s_2
  refine Only.ite ?_ ?_
  · refine State.set_only (hG.of rfl) ?_
    exact State.scanHome_only (hG.of rfl) hS
  · refine Only.ite ?_ ?_
    · exact State.recoveryFails_only (hG.of rfl) h3
    · exact h3

theorem emberToggle_only {s : State} (hG : Sub 0x10000000000000000000000000000000000000000000000000000000000000000000000000000000000000000000 G) (hS : Only G s0 s) :
    Only G s0 (emberToggle s) := by
  unfold emberToggle
  refine Only.ite ?_ ?_
  · exact Only.set_ember (hG.of rfl) hS
  · exact hS

theorem State.injDone_only {s : State} {status : Nat} (hG : Sub 0x8000000000000000000000000000000000000000000000001000000000000000000000000000000000000000000 G) (hS : Only G s0 s) :
    Only G s0 (State.injDone s status) := by
  unfold State.injDone
  refine State.resultDone_only (hG.of rfl) (hG.of rfl) ?_
  refine State.set_only (hG.of rfl) ?_
  exact Only.set_inj (hG.of rfl) hS

theorem fltInjGo_only {value : Word} {s : State} (hG : Sub 0xa000000000000000000000000000000000010000008000001000010000000000000000000000000000000000008 G) (hS : Only G s0 s) :
    Only G s0 (fltInjGo value s) := by
  unfold fltInjGo
  extract_lets +onlyGivenNames -underBinder -merge mode_1
  extract_lets +onlyGivenNames -underBinder -merge go_2
  extract_lets +onlyGivenNames -underBinder -merge target_3
  extract_lets +onlyGivenNames -underBinder -merge unit_4
  extract_lets +onlyGivenNames -underBinder -merge index_5
  extract_lets +onlyGivenNames -underBinder -merge s_6
  have h7 : Only G s0 s_6 := by
    subst s_6
    exact State.resultStart_only (hG.of rfl) hS
  try clear_value s_6
  refine Only.ite ?_ ?_
  · exact State.refuseWrite_only (hG.of rfl) hS
  · refine Only.ite ?_ ?_
    · exact hS
    · refine Only.ite ?_ ?_
      · exact Only.set_inj (hG.of rfl) h7
      · exact State.injDone_only (hG.of rfl) h7

theorem State.injectCrossing_only {s : State} {places : List (ℕ × Nat)} {c : Nat} (hG : Sub 0x8009100001b094020000137f006a1800000000100000080000413e0050000000010084000000000001202805518441 G) (hS : Only G s0 s) :
    Only G s0 (State.injectCrossing s places c) := by
  unfold State.injectCrossing
  split
  · refine crossingFlitArrival_only (hG.of rfl) ?_
    exact State.injDone_only (hG.of rfl) hS
  · exact hS

theorem injectionApply_only {s : State} (hG : Sub 0x8009100001b094120200737f006a7800000000100000080000497e0050000000010084000000000001203805518441 G) (hS : Only G s0 s) :
    Only G s0 (injectionApply s) := by
  unfold injectionApply
  split
  · exact hS
  · extract_lets +onlyGivenNames -underBinder -merge c_1
    split
    · refine State.cause_only (hG.of rfl) ?_
      exact State.injDone_only (hG.of rfl) hS
    · extract_lets +onlyGivenNames -underBinder -merge s_2
      have h3 : Only G s0 s_2 := by
        subst s_2
        exact State.injDone_only (hG.of rfl) hS
      try clear_value s_2
      extract_lets +onlyGivenNames -underBinder -merge k_4
      extract_lets +onlyGivenNames -underBinder -merge s_5
      have h6 : Only G s0 s_5 := by
        subst s_5
        split
        · refine State.setDirBlocks_only (hG.of rfl) ?_
          exact State.writeBack_only (hG.of rfl) h3
        · exact h3
      try clear_value s_5
      exact Only.set_hbmEcc (hG.of rfl) h6
    · extract_lets +onlyGivenNames -underBinder -merge s_7
      have h8 : Only G s0 s_7 := by
        subst s_7
        exact State.injDone_only (hG.of rfl) hS
      try clear_value s_7
      extract_lets +onlyGivenNames -underBinder -merge s_9
      have h10 : Only G s0 s_9 := by
        subst s_9
        refine Only.ite ?_ ?_
        · exact State.modEngine_only (hG.of rfl) h8
        · exact h8
      try clear_value s_9
      exact State.cause_only (hG.of rfl) h10
    · extract_lets +onlyGivenNames -underBinder -merge m_11
      refine Only.ite ?_ ?_
      · exact State.injectCrossing_only (hG.of rfl) hS
      · refine Only.ite ?_ ?_
        · refine State.switchFlit_only (hG.of rfl) ?_
          exact State.injDone_only (hG.of rfl) hS
        · exact hS
    · exact State.injectCrossing_only (hG.of rfl) hS
    · extract_lets +onlyGivenNames -underBinder -merge s_12
      have h13 : Only G s0 s_12 := by
        subst s_12
        exact State.injDone_only (hG.of rfl) hS
      try clear_value s_12
      split
      · exact State.putCond_only (hG.of rfl) h13
      · exact h13
    · extract_lets +onlyGivenNames -underBinder -merge __src_14
      have h15 : Only G s0 __src_14 := by
        subst __src_14
        exact State.injDone_only (hG.of rfl) hS
      try clear_value __src_14
      exact Only.set_hbmEcc (hG.of rfl) h15

theorem injectionTimeout_only {s : State} (hG : Sub 0x8000000000000000000000000000000000000000000000001000000000000000000000000000000000000000000 G) (hS : Only G s0 s) :
    Only G s0 (injectionTimeout s) := by
  unfold injectionTimeout
  refine Only.ite ?_ ?_
  · exact State.injDone_only (hG.of rfl) hS
  · exact hS

theorem State.useSpare_only {s : State} {pool : Nat} (hG : Sub 0x8000000000000000000000000000000000000000000 G) (hS : Only G s0 s) :
    Only G s0 (State.useSpare s pool) := by
  unfold State.useSpare
  exact State.count_only (hG.of rfl) hS

theorem State.switchSlice_only {s : State} {n : Nat} {spare : Nat} {failed : Bool} (hG : Sub 0x20000001b016120000005f006a3000000000100000080000483e0050000000010084080000000001200805518441 G) (hS : Only G s0 s) :
    Only G s0 (State.switchSlice s n spare failed) := by
  unfold State.switchSlice
  extract_lets +onlyGivenNames -underBinder -merge s_1
  have h2 : Only G s0 s_1 := by
    subst s_1
    refine Only.fold ?_ hS
    intro u3 y5 hu4
    try beta_reduce
    extract_lets +onlyGivenNames -underBinder -merge l_7
    refine Only.ite ?_ ?_
    · exact hu4
    · refine State.setDirBlocks_only (hG.of rfl) ?_
      refine Only.fold ?_ hu4
      intro u8 y10 hu9
      try beta_reduce
      exact State.writeBack_only (hG.of rfl) hu9
  try clear_value s_1
  extract_lets +onlyGivenNames -underBinder -merge s_12
  have h13 : Only G s0 s_12 := by
    subst s_12
    exact State.set_only (hG.of rfl) h2
  try clear_value s_12
  extract_lets +onlyGivenNames -underBinder -merge s_14
  have h15 : Only G s0 s_14 := by
    subst s_14
    exact State.set_only (hG.of rfl) h13
  try clear_value s_14
  extract_lets +onlyGivenNames -underBinder -merge __src_16
  extract_lets +onlyGivenNames -underBinder -merge s_17
  have h18 : Only G s0 s_17 := by
    subst s_17
    exact Only.set_spareUntil_repairMap (hG.of rfl) h15
  try clear_value s_17
  refine State.cause_only (hG.of rfl) ?_
  exact State.useSpare_only (hG.of rfl) h18

theorem State.retireDone_only {s : State} {n : Nat} {status : Nat} (hG : Sub 0x40000000000000000000000000000000000000000000000002000000000000000000000000000000000000000000 G) (hS : Only G s0 s) :
    Only G s0 (State.retireDone s n status) := by
  unfold State.retireDone
  refine Only.ite ?_ ?_
  · refine State.resultDone_only (hG.of rfl) (hG.of rfl) ?_
    refine State.set_only (hG.of rfl) ?_
    exact Only.set_retiring (hG.of rfl) hS
  · exact hS

theorem spareSliceReplace_only {n : Nat} {fault : Bool} {scanOk : Bool} {s : State} (hG : Sub 0x60000001b016f20000005f006a30000000001000000800004a7e0050000000010085480000000001200805518441 G) (hS : Only G s0 s) :
    Only G s0 (spareSliceReplace n fault scanOk s) := by
  unfold spareSliceReplace
  extract_lets +onlyGivenNames -underBinder -merge spare_1
  extract_lets +onlyGivenNames -underBinder -merge ni_2
  extract_lets +onlyGivenNames -underBinder -merge s_3
  have h4 : Only G s0 s_3 := by
    subst s_3
    exact State.quench_only (hG.of rfl) hS
  try clear_value s_3
  extract_lets +onlyGivenNames -underBinder -merge s_5
  have h6 : Only G s0 s_5 := by
    subst s_5
    exact State.scanHome_only (hG.of rfl) h4
  try clear_value s_5
  refine Only.ite ?_ ?_
  · refine Only.ite ?_ ?_
    · exact State.set_only (hG.of rfl) h4
    · try clear_value spare_1
      split
      · refine State.retireDone_only (hG.of rfl) ?_
        refine State.dropTriggers_only (hG.of rfl) ?_
        exact State.switchSlice_only (hG.of rfl) h6
      · exact State.unmet_only (hG.of rfl) h6
  · refine Only.ite ?_ ?_
    · exact hS
    · try clear_value spare_1
      split
      · refine State.retireDone_only (hG.of rfl) ?_
        exact State.switchSlice_only (hG.of rfl) hS
      · refine Only.ite ?_ ?_
        · exact State.retireDone_only (hG.of rfl) hS
        · exact State.unmet_only (hG.of rfl) hS

theorem State.switchEngine_only {s : State} {e : Nat} {fault : Bool} (hG : Sub 0x20000001bcf40e2000005f406a3000000000100000080000483e0050000005017084000000000001200805518441 G) (hS : Only G s0 s) :
    Only G s0 (State.switchEngine s e fault) := by
  unfold State.switchEngine
  extract_lets +onlyGivenNames -underBinder -merge s_1
  have h2 : Only G s0 s_1 := by
    subst s_1
    exact State.modEngine_only (hG.of rfl) hS
  try clear_value s_1
  extract_lets +onlyGivenNames -underBinder -merge s_3
  have h4 : Only G s0 s_3 := by
    subst s_3
    refine Only.ite ?_ ?_
    · exact State.resetEngine_only (hG.of rfl) hS
    · refine Only.ite ?_ ?_
      · exact State.engineNext_only (hG.of rfl) h2
      · exact h2
  try clear_value s_3
  extract_lets +onlyGivenNames -underBinder -merge __src_5
  extract_lets +onlyGivenNames -underBinder -merge s_6
  have h7 : Only G s0 s_6 := by
    subst s_6
    exact Only.set_repairMap (hG.of rfl) h4
  try clear_value s_6
  refine State.cause_only (hG.of rfl) ?_
  refine State.cause_only (hG.of rfl) ?_
  exact State.useSpare_only (hG.of rfl) h7

theorem State.clusterOut_only {s : State} {c : Nat} (hG : Sub 0x500000100000000010000008000000000010000000000000000000000000200800000000 G) (hS : Only G s0 s) :
    Only G s0 (State.clusterOut s c) := by
  unfold State.clusterOut
  split
  · refine Only.ite ?_ ?_
    · exact State.quench_only (hG.of rfl) hS
    · exact hS
  · exact hS

theorem spareEngineReplace_only {e : Nat} {fault : Bool} {s : State} (hG : Sub 0x20000001bcf40e2000005f406a3000000000100000080000487e0050000005017084000000000001200805518441 G) (hS : Only G s0 s) :
    Only G s0 (spareEngineReplace e fault s) := by
  unfold spareEngineReplace
  extract_lets +onlyGivenNames -underBinder -merge s_1
  have h2 : Only G s0 s_1 := by
    subst s_1
    refine State.unmet_only (hG.of rfl) ?_
    exact State.cause_only (hG.of rfl) hS
  try clear_value s_1
  extract_lets +onlyGivenNames -underBinder -merge s_3
  have h4 : Only G s0 s_3 := by
    subst s_3
    exact State.setBit_only (hG.of rfl) h2
  try clear_value s_3
  refine Only.ite ?_ ?_
  · exact State.switchEngine_only (hG.of rfl) hS
  · refine Only.ite ?_ ?_
    · refine State.cause_only (hG.of rfl) ?_
      refine State.clusterOut_only (hG.of rfl) ?_
      exact State.resetEngine_only (hG.of rfl) h4
    · exact h2

theorem State.rowRepair_only {s : State} {pool : Nat} {ev : Nat} {detail : Nat} {spare : Bool} (hG : Sub 0x20000001b014020000005f006a1000000000100000080000487e0050000000010084000000000001200805518441 G) (hS : Only G s0 s) :
    Only G s0 (State.rowRepair s pool ev detail spare) := by
  unfold State.rowRepair
  extract_lets +onlyGivenNames -underBinder -merge __src_1
  extract_lets +onlyGivenNames -underBinder -merge s_2
  have h3 : Only G s0 s_2 := by
    subst s_2
    exact Only.set_repairMap (hG.of rfl) hS
  try clear_value s_2
  refine Only.ite ?_ ?_
  · refine State.cause_only (hG.of rfl) ?_
    exact State.useSpare_only (hG.of rfl) h3
  · refine State.unmet_only (hG.of rfl) ?_
    exact State.cause_only (hG.of rfl) hS

theorem sramSoftRepair_only {r : Nat} {spare : Bool} {s : State} (hG : Sub 0x20000001b014020000005f006a1000000000100000080000487e0050000000010084000000000001200805518441 G) (hS : Only G s0 s) :
    Only G s0 (sramSoftRepair r spare s) := by
  unfold sramSoftRepair
  exact State.rowRepair_only (hG.of rfl) hS

theorem hbmSoftPpr_only {ch : Nat} {line : Nat} {spare : Bool} {s : State} (hG : Sub 0x20000001b014020000005f006a5000000000100000080000487e0050000000010084000000000001200805518441 G) (hS : Only G s0 s) :
    Only G s0 (hbmSoftPpr ch line spare s) := by
  unfold hbmSoftPpr
  extract_lets +onlyGivenNames -underBinder -merge s_1
  have h2 : Only G s0 s_1 := by
    subst s_1
    exact State.rowRepair_only (hG.of rfl) hS
  try clear_value s_1
  refine Only.ite ?_ ?_
  · exact Only.set_hbmEcc (hG.of rfl) h2
  · exact h2

theorem State.marginSample_only {s : State} {c : Nat} {m : Nat} (hG : Sub 0x20000001b014020000805f006a9000000000100000080000487e00500000000100840000000000012008055184c1 G) (hS : Only G s0 s) :
    Only G s0 (State.marginSample s c m) := by
  unfold State.marginSample
  extract_lets +onlyGivenNames -underBinder -merge now_1
  extract_lets +onlyGivenNames -underBinder -merge l_2
  extract_lets +onlyGivenNames -underBinder -merge __src_3
  have h4 : Only G s0 __src_3 := by
    subst __src_3
    exact State.set_only (hG.of rfl) hS
  try clear_value __src_3
  extract_lets +onlyGivenNames -underBinder -merge s_5
  have h6 : Only G s0 s_5 := by
    subst s_5
    exact Only.set_margins (hG.of rfl) h4
  try clear_value s_5
  split
  · refine Only.ite ?_ ?_
    · exact State.markLane_only (hG.of rfl) h6
    · exact h6
  · exact h6

theorem State.wearMeet_only {s : State} {what : Nat} {u : Nat} {value : Nat} (hG : Sub 0x20000001b014020000c05f006a9000000000100000080000487e00500000000100840000000000012008055184c1 G) (hS : Only G s0 s) :
    Only G s0 (State.wearMeet s what u value).1 := by
  unfold State.wearMeet
  split
  · extract_lets +onlyGivenNames -underBinder -merge s_1
    have h2 : Only G s0 s_1 := by
      subst s_1
      exact State.marginSample_only (hG.of rfl) hS
    try clear_value s_1
    exact h2
  · extract_lets +onlyGivenNames -underBinder -merge s_3
    have h4 : Only G s0 s_3 := by
      subst s_3
      exact State.wearAdd_only (hG.of rfl) hS
    try clear_value s_3
    exact h4
  · extract_lets +onlyGivenNames -underBinder -merge s_5
    have h6 : Only G s0 s_5 := by
      subst s_5
      exact State.wearAdd_only (hG.of rfl) hS
    try clear_value s_5
    exact h6
  · exact hS

theorem wearSample_only {what : Nat} {u : Nat} {value : Nat} {s : State} (hG : Sub 0x60000001bcf6fe2000c05f406ab0000000001000000800006a7e00500000050170854800000000012018055184c1 G) (hS : Only G s0 s) :
    Only G s0 (wearSample what u value s) := by
  unfold wearSample
  split
  · rename_i z2 z4 e1
    have h3 : Only G s0 z2 := by
      have e0 := congrArg Prod.fst e1
      change _ = z2 at e0
      rw [← e0]
      exact State.wearMeet_only (hG.of rfl) hS
    extract_lets +onlyGivenNames -underBinder -merge r_5
    extract_lets +onlyGivenNames -underBinder -merge s_6
    have h7 : Only G s0 s_6 := by
      subst s_6
      exact State.cause_only (hG.of rfl) h3
    try clear_value s_6
    extract_lets +onlyGivenNames -underBinder -merge s_8
    have h9 : Only G s0 s_8 := by
      subst s_8
      exact State.count_only (by split <;> exact hG.of rfl) h7
    try clear_value s_8
    extract_lets +onlyGivenNames -underBinder -merge auto_10
    refine Only.ite ?_ ?_
    · exact h3
    · split
      · refine Only.ite ?_ ?_
        · exact spareEngineReplace_only (hG.of rfl) h9
        · exact h9
      · refine Only.ite ?_ ?_
        · exact spareSliceReplace_only (hG.of rfl) h9
        · exact h9
      · split
        · refine Only.ite ?_ ?_
          · exact State.markLane_only (hG.of rfl) h9
          · exact h9
        · exact h9
      · refine Only.ite ?_ ?_
        · exact sramSoftRepair_only (hG.of rfl) h9
        · exact h9
      · exact linkWireSpare_only (hG.of rfl) h9
      · exact h9

theorem State.repairCommand_only {s : State} {f : State → State × Nat} (hG : Sub 0x2000000000000000000000000000000000010000008000002000010000000000000000000000000000000000008 G) (hf : (∀ x0, Only G s0 x0 → Only G s0 (f x0).1)) (hS : Only G s0 s) :
    Only G s0 (State.repairCommand s f) := by
  unfold State.repairCommand
  refine Only.ite ?_ ?_
  · exact State.refuseWrite_only (hG.of rfl) hS
  · split
    · rename_i z2 z4 e1
      have h3 : Only G s0 z2 := by
        have e0 := congrArg Prod.fst e1
        change _ = z2 at e0
        rw [← e0]
        refine hf _ ?_
        exact State.resultStart_only (hG.of rfl) hS
      refine State.resultDone_only (hG.of rfl) (hG.of rfl) ?_
      exact State.set_only (hG.of rfl) h3

theorem clearLane_only {u : Nat} {s : State} (hG : Sub 0x2200000000000000000000000000000000001000000800000a420050000000000000000000000000000000000088 G) (hS : Only G s0 s) :
    Only G s0 (clearLane u s) := by
  unfold clearLane
  refine State.repairCommand_only (hG.of rfl) ?_ hS
  intro u1 hu2
  try beta_reduce
  extract_lets +onlyGivenNames -underBinder -merge s_3
  have h4 : Only G s0 s_3 := by
    subst s_3
    refine Only.ite ?_ ?_
    · exact State.set_only (hG.of rfl) hu2
    · exact hu2
  try clear_value s_3
  extract_lets +onlyGivenNames -underBinder -merge s_5
  have h6 : Only G s0 s_5 := by
    subst s_5
    exact State.set_only (hG.of rfl) h4
  try clear_value s_5
  extract_lets +onlyGivenNames -underBinder -merge s_7
  have h8 : Only G s0 s_7 := by
    subst s_7
    exact State.set_only (hG.of rfl) h6
  try clear_value s_7
  extract_lets +onlyGivenNames -underBinder -merge s_9
  have h10 : Only G s0 s_9 := by
    subst s_9
    exact State.set_only (hG.of rfl) h8
  try clear_value s_9
  extract_lets +onlyGivenNames -underBinder -merge __src_11
  extract_lets +onlyGivenNames -underBinder -merge s_12
  have h13 : Only G s0 s_12 := by
    subst s_12
    exact Only.set_repairMap (hG.of rfl) h10
  try clear_value s_12
  split
  · exact hu2
  · split
    · exact hu2
    · exact State.updLanePool_only (hG.of rfl) h13

theorem retireEngine_only {u : Nat} {s : State} (hG : Sub 0x22000001bcf40e2000005f406a30000000001000000800004a3e0050000005017084000000000001200805518449 G) (hS : Only G s0 s) :
    Only G s0 (retireEngine u s) := by
  unfold retireEngine
  refine State.repairCommand_only (hG.of rfl) ?_ hS
  intro u1 hu2
  try beta_reduce
  split
  · exact hu2
  · split
    · exact hu2
    · exact State.switchEngine_only (hG.of rfl) hu2

theorem retireSlice_only {u : Nat} {s : State} (hG : Sub 0x62000001b016f20000005f006a30000000001000000800004a7e0050000000010085480000000001200805518449 G) (hS : Only G s0 s) :
    Only G s0 (retireSlice u s) := by
  unfold retireSlice
  extract_lets +onlyGivenNames -underBinder -merge __src_1
  have h2 : Only G s0 __src_1 := by
    subst __src_1
    exact State.resultStart_only (hG.of rfl) hS
  try clear_value __src_1
  refine Only.ite ?_ ?_
  · refine spareSliceReplace_only (hG.of rfl) ?_
    exact Only.set_retiring (hG.of rfl) h2
  · refine State.repairCommand_only (hG.of rfl) ?_ hS
    intro u3 hu4
    try beta_reduce
    exact hu4

theorem degClear_only {s : State} (hG : Sub 0x10000008000000420050000000000000000000000000000000000000 G) (hS : Only G s0 s) :
    Only G s0 (degClear s) := by
  unfold degClear
  refine Only.ite ?_ ?_
  · refine State.updFaultN_only (hG.of rfl) ?_
    refine State.updMode_only (hG.of rfl) ?_
    refine State.setActive_only (hG.of rfl) ?_
    refine State.notice_only (hG.of rfl) ?_
    exact State.set_only (hG.of rfl) hS
  · exact hS

theorem poolUnmetDemand_only {p : Nat} {s : State} (hG : Sub 0x10000008000008420050000000000000000000000000000000000000 G) (hS : Only G s0 s) :
    Only G s0 (poolUnmetDemand p s) := by
  unfold poolUnmetDemand
  exact State.unmet_only (hG.of rfl) hS

end Sys2Proof.Machine
end

