-- ==== Sys2Proof/Laws/FrameSlots.lean ====
section
/-! SUPPORT. The frame of each function of Machine/Slots.lean: the parts of the state that it may change, as a set of bits (StatePart.place), with the canonical form kept. -/

namespace Sys2Proof.Machine

variable {G : Nat} {s0 : State}

theorem State.writeLimit_only {s : State} {n : Nat} {value : Nat} (hG : Sub 0x40000000000000000000000000000100000000000000000000000000000000000000000000000000000000000000000 G) (hS : Only G s0 s) :
    Only G s0 (State.writeLimit s n value) := by
  unfold State.writeLimit
  extract_lets +onlyGivenNames -underBinder -merge __src_1
  refine State.emit_only (hG.of rfl) ?_
  exact State.setSlot_only (hG.of rfl) hS

theorem State.cutPower_only {s : State} {n : Nat} (hG : Sub 0x40000000000000000000000000000000000000000000000000000000000000000000000000000000000000000000000 G) (hS : Only G s0 s) :
    Only G s0 (State.cutPower s n) := by
  unfold State.cutPower
  extract_lets +onlyGivenNames -underBinder -merge __src_1
  exact State.setSlot_only (hG.of rfl) hS

theorem State.slotTurnOn_only {s : State} {n : Nat} {retry : Bool} (hG : Sub 0x40000000000000000000000000000100000000000080000000000000000000000000000000000000000000000000000 G) (hS : Only G s0 s) :
    Only G s0 (State.slotTurnOn s n retry) := by
  unfold State.slotTurnOn
  extract_lets +onlyGivenNames -underBinder -merge s_1
  have h2 : Only G s0 s_1 := by
    subst s_1
    refine State.emit_only (hG.of rfl) ?_
    exact State.writeLimit_only (hG.of rfl) hS
  try clear_value s_1
  extract_lets +onlyGivenNames -underBinder -merge __src_3
  extract_lets +onlyGivenNames -underBinder -merge s_4
  have h5 : Only G s0 s_4 := by
    subst s_4
    exact State.setSlot_only (hG.of rfl) h2
  try clear_value s_4
  refine Only.ite ?_ ?_
  · exact hS
  · exact State.set_only (hG.of rfl) h5

theorem State.slotMeasured_only {s : State} {n : Nat} {vin : Nat} {vout : Nat} {iout : Nat} {pin : Nat} {energy : Nat} (hG : Sub 0x40000000000000000000000000000000000000000f80000000000000000000000000000000000000000000000000000 G) (hS : Only G s0 s) :
    Only G s0 (State.slotMeasured s n vin vout iout pin energy) := by
  unfold State.slotMeasured
  extract_lets +onlyGivenNames -underBinder -merge s_1
  have h2 : Only G s0 s_1 := by
    subst s_1
    refine State.set_only (hG.of rfl) ?_
    exact State.set_only (hG.of rfl) hS
  try clear_value s_1
  extract_lets +onlyGivenNames -underBinder -merge s_3
  have h4 : Only G s0 s_3 := by
    subst s_3
    refine State.set_only (hG.of rfl) ?_
    exact State.set_only (hG.of rfl) h2
  try clear_value s_3
  extract_lets +onlyGivenNames -underBinder -merge s_5
  have h6 : Only G s0 s_5 := by
    subst s_5
    exact State.set_only (hG.of rfl) h4
  try clear_value s_5
  extract_lets +onlyGivenNames -underBinder -merge s_7
  have h8 : Only G s0 s_7 := by
    subst s_7
    refine State.set_only (hG.of rfl) ?_
    exact State.resultDone_only (hG.of rfl) (hG.of rfl) h6
  try clear_value s_7
  extract_lets +onlyGivenNames -underBinder -merge x_9
  extract_lets +onlyGivenNames -underBinder -merge off_10
  exact State.setSlot_only (hG.of rfl) h8

theorem pmbusPoll_only {n : Nat} {first : Bool} {retry : Bool} {vin : Nat} {vout : Nat} {iout : Nat} {pin : Nat} {energy : Nat} {s : State} (hG : Sub 0x40000000001b014020000005f006a100000000010f800080000403e0050000000010084000000000001200805518441 G) (hS : Only G s0 s) :
    Only G s0 (pmbusPoll n first retry vin vout iout pin energy s) := by
  unfold pmbusPoll
  extract_lets +onlyGivenNames -underBinder -merge x_1
  extract_lets +onlyGivenNames -underBinder -merge s_2
  have h3 : Only G s0 s_2 := by
    subst s_2
    refine State.count_only (hG.of rfl) ?_
    exact State.setSlot_only (hG.of rfl) hS
  try clear_value s_2
  extract_lets +onlyGivenNames -underBinder -merge s_4
  have h5 : Only G s0 s_4 := by
    subst s_4
    exact State.cause_only (hG.of rfl) h3
  try clear_value s_4
  refine Only.ite ?_ ?_
  · exact hS
  · refine Only.ite ?_ ?_
    · exact State.slotMeasured_only (hG.of rfl) hS
    · refine Only.ite ?_ ?_
      · exact State.set_only (hG.of rfl) h5
      · exact h5

theorem State.slotIn_only {s : State} {n : Nat} {inp : Nat} (hG : Sub 0x40000000000000000000000000000000000000000080000000000000000000000000000000000000000000000000000 G) (hS : Only G s0 s) :
    Only G s0 (State.slotIn s n inp) := by
  unfold State.slotIn
  extract_lets +onlyGivenNames -underBinder -merge x_1
  extract_lets +onlyGivenNames -underBinder -merge here_2
  extract_lets +onlyGivenNames -underBinder -merge pg_3
  extract_lets +onlyGivenNames -underBinder -merge at'_4
  extract_lets +onlyGivenNames -underBinder -merge off_5
  extract_lets +onlyGivenNames -underBinder -merge s_6
  have h7 : Only G s0 s_6 := by
    subst s_6
    exact State.setSlot_only (hG.of rfl) hS
  try clear_value s_6
  extract_lets +onlyGivenNames -underBinder -merge s_8
  have h9 : Only G s0 s_8 := by
    subst s_8
    exact State.set_only (hG.of rfl) h7
  try clear_value s_8
  try clear_value at'_4
  split
  · refine Only.ite ?_ ?_
    · exact State.set_only (hG.of rfl) h9
    · exact h9
  · exact h9

theorem State.slotFrameOut_only {s : State} {n : Nat} (hG : Sub 0x40000000000000000000000000000000000000000000000000000000000000000000000000000000000000000000000 G) (hS : Only G s0 s) :
    Only G s0 (State.slotFrameOut s n) := by
  unfold State.slotFrameOut
  extract_lets +onlyGivenNames -underBinder -merge x_1
  refine Only.ite ?_ ?_
  · exact State.setSlot_only (hG.of rfl) hS
  · exact hS

theorem slotChainFrame_only {inputs : List Nat} {s : State} (hG : Sub 0x40000000000000000000000000000100000000000080000000000000000000000000000000000000000000000000000 G) (hS : Only G s0 s) :
    Only G s0 (slotChainFrame inputs s) := by
  unfold slotChainFrame
  extract_lets +onlyGivenNames -underBinder -merge s_1
  have h2 : Only G s0 s_1 := by
    subst s_1
    refine State.each_only ?_ hS
    intro y3 u4 hu5
    try beta_reduce
    refine State.slotFrameOut_only (hG.of rfl) ?_
    exact State.slotIn_only (hG.of rfl) hu5
  try clear_value s_1
  refine Only.ite ?_ ?_
  · exact hS
  · exact State.emit_only (hG.of rfl) h2

theorem slotCommandedOn_only {n : Nat} {s : State} (hG : Sub 0x40000000000000000000000000000100000000000080000000000000000000000000000000000000000000000000000 G) (hS : Only G s0 s) :
    Only G s0 (slotCommandedOn n s) := by
  unfold slotCommandedOn
  refine Only.ite ?_ ?_
  · exact State.slotTurnOn_only (hG.of rfl) hS
  · exact hS

theorem slotPgood_only {n : Nat} {s : State} (hG : Sub 0x80000000000000000000000000000000000000000000000000000 G) (hS : Only G s0 s) :
    Only G s0 (slotPgood n s) := by
  unfold slotPgood
  refine Only.ite ?_ ?_
  · exact State.set_only (hG.of rfl) hS
  · exact hS

theorem slotSettleEnd_only {n : Nat} {s : State} (hG : Sub 0x40000000000000000000000000000100000000000080000000000000000000000000000000000000000000000000000 G) (hS : Only G s0 s) :
    Only G s0 (slotSettleEnd n s) := by
  unfold slotSettleEnd
  refine Only.ite ?_ ?_
  · refine State.set_only (hG.of rfl) ?_
    exact State.writeLimit_only (hG.of rfl) hS
  · exact hS

theorem slotPerstRelease_only {n : Nat} {s : State} (hG : Sub 0x40000000000000000000000040003800000000000000000000000000000000000000000000000000000000000103840 G) (hS : Only G s0 s) :
    Only G s0 (slotPerstRelease n s) := by
  unfold slotPerstRelease
  extract_lets +onlyGivenNames -underBinder -merge __src_1
  refine Only.ite ?_ ?_
  · refine State.bringUpAlone_only (hG.of rfl) ?_
    exact State.setSlot_only (hG.of rfl) hS
  · exact hS

theorem slotOffCommand_only {n : Nat} {s : State} (hG : Sub 0x4000000000080040200000050006e100000000010080008000000000010000000000084000000000001200800018440 G) (hS : Only G s0 s) :
    Only G s0 (slotOffCommand n s) := by
  unfold slotOffCommand
  extract_lets +onlyGivenNames -underBinder -merge st_1
  extract_lets +onlyGivenNames -underBinder -merge on_2
  refine Only.ite ?_ ?_
  · refine Only.ite ?_ ?_
    · exact hS
    · exact State.slotTurnOff_only (hG.of rfl) hS
  · refine Only.ite ?_ ?_
    · refine State.set_only (hG.of rfl) ?_
      exact State.set_only (hG.of rfl) hS
    · exact hS

theorem hostPowerOff_only {v : Nat} {s : State} (hG : Sub 0x4000110000080840200000070007e180000000010080008000000000010000000000084000000000001e00800018440 G) (hS : Only G s0 s) :
    Only G s0 (hostPowerOff v s) := by
  unfold hostPowerOff
  extract_lets +onlyGivenNames -underBinder -merge st_1
  extract_lets +onlyGivenNames -underBinder -merge port_2
  extract_lets +onlyGivenNames -underBinder -merge __src_3
  extract_lets +onlyGivenNames -underBinder -merge s_4
  have h5 : Only G s0 s_4 := by
    subst s_4
    exact State.setVppb_only (hG.of rfl) hS
  try clear_value s_4
  extract_lets +onlyGivenNames -underBinder -merge mine_6
  extract_lets +onlyGivenNames -underBinder -merge s_7
  have h8 : Only G s0 s_7 := by
    subst s_7
    refine Only.ite ?_ ?_
    · exact State.updHostOn_only (hG.of rfl) h5
    · exact h5
  try clear_value s_7
  extract_lets +onlyGivenNames -underBinder -merge s_9
  have h10 : Only G s0 s_9 := by
    subst s_9
    split
    · refine Only.ite ?_ ?_
      · exact State.slotTurnOff_only (hG.of rfl) h8
      · exact h8
    · exact h8
  try clear_value s_9
  split
  · refine Only.ite ?_ ?_
    · exact State.unbound_only (hG.of rfl) h10
    · exact h10
  · exact h10

theorem slotTrip_only {n : Nat} {why : Nat} {s : State} (hG : Sub 0x4000000000080040200000050006e100000000010080008000000000010000000000084000000000001200800018440 G) (hS : Only G s0 s) :
    Only G s0 (slotTrip n why s) := by
  unfold slotTrip
  extract_lets +onlyGivenNames -underBinder -merge x_1
  extract_lets +onlyGivenNames -underBinder -merge s_2
  have h3 : Only G s0 s_2 := by
    subst s_2
    refine State.emit_only (hG.of rfl) ?_
    refine State.slotLinkDown_only (hG.of rfl) ?_
    exact State.cutPower_only (hG.of rfl) hS
  try clear_value s_2
  extract_lets +onlyGivenNames -underBinder -merge s_4
  have h5 : Only G s0 s_4 := by
    subst s_4
    refine State.count_only (hG.of rfl) ?_
    exact State.set_only (hG.of rfl) h3
  try clear_value s_4
  extract_lets +onlyGivenNames -underBinder -merge s_6
  have h7 : Only G s0 s_6 := by
    subst s_6
    exact State.notice_only (hG.of rfl) h5
  try clear_value s_6
  extract_lets +onlyGivenNames -underBinder -merge tries_8
  extract_lets +onlyGivenNames -underBinder -merge s_9
  have h10 : Only G s0 s_9 := by
    subst s_9
    exact State.set_only (hG.of rfl) h7
  try clear_value s_9
  extract_lets +onlyGivenNames -underBinder -merge __src_11
  extract_lets +onlyGivenNames -underBinder -merge s_12
  have h13 : Only G s0 s_12 := by
    subst s_12
    exact State.setSlot_only (hG.of rfl) h10
  try clear_value s_12
  refine Only.ite ?_ ?_
  · exact hS
  · refine Only.ite ?_ ?_
    · exact State.set_only (hG.of rfl) h13
    · exact State.set_only (hG.of rfl) h13

theorem slotRetry_only {n : Nat} {s : State} (hG : Sub 0x40000000000000000000000000000100000000000080000000000000000000000000000000000000000000000000000 G) (hS : Only G s0 s) :
    Only G s0 (slotRetry n s) := by
  unfold slotRetry
  refine Only.ite ?_ ?_
  · exact hS
  · refine Only.ite ?_ ?_
    · exact State.slotTurnOn_only (hG.of rfl) hS
    · exact State.set_only (hG.of rfl) hS

theorem slotStableReset_only {n : Nat} {s : State} (hG : Sub 0x40000000000000000000000000000000000000000080000000000000000000000000000000000000000000000000000 G) (hS : Only G s0 s) :
    Only G s0 (slotStableReset n s) := by
  unfold slotStableReset
  extract_lets +onlyGivenNames -underBinder -merge __src_1
  refine Only.ite ?_ ?_
  · refine State.set_only (hG.of rfl) ?_
    exact State.setSlot_only (hG.of rfl) hS
  · exact hS

theorem fetFail_only {n : Nat} {s : State} (hG : Sub 0x40000000001b014020000005f006a1000000000100800080000403e0050000000010084000000000001200805518441 G) (hS : Only G s0 s) :
    Only G s0 (fetFail n s) := by
  unfold fetFail
  extract_lets +onlyGivenNames -underBinder -merge x_1
  extract_lets +onlyGivenNames -underBinder -merge s_2
  have h3 : Only G s0 s_2 := by
    subst s_2
    refine State.set_only (hG.of rfl) ?_
    exact State.setSlot_only (hG.of rfl) hS
  try clear_value s_2
  refine Only.ite ?_ ?_
  · refine State.cause_only (hG.of rfl) ?_
    exact State.emit_only (hG.of rfl) h3
  · exact hS

theorem slotClear_only {n : Nat} {s : State} (hG : Sub 0x40000000000000000000000000000100000000000080000000000000000000000000000000000000000000000000000 G) (hS : Only G s0 s) :
    Only G s0 (slotClear n s) := by
  unfold slotClear
  split
  · extract_lets +onlyGivenNames -underBinder -merge s_1
    have h2 : Only G s0 s_1 := by
      subst s_1
      refine State.set_only (hG.of rfl) ?_
      exact State.set_only (hG.of rfl) hS
    try clear_value s_1
    refine Only.ite ?_ ?_
    · exact State.slotTurnOn_only (hG.of rfl) h2
    · exact h2
  · extract_lets +onlyGivenNames -underBinder -merge __src_3
    refine Only.ite ?_ ?_
    · refine State.set_only (hG.of rfl) ?_
      exact State.setSlot_only (hG.of rfl) hS
    · exact hS
  · exact hS

theorem pwrbrkAssert_only {n : Nat} {warning : Bool} {s : State} (hG : Sub 0x40000000000000000000000000000000000000010080008000000000010000000000000000000000000000000000000 G) (hS : Only G s0 s) :
    Only G s0 (pwrbrkAssert n warning s) := by
  unfold pwrbrkAssert
  extract_lets +onlyGivenNames -underBinder -merge x_1
  extract_lets +onlyGivenNames -underBinder -merge s_2
  have h3 : Only G s0 s_2 := by
    subst s_2
    refine State.set_only (hG.of rfl) ?_
    exact State.setSlot_only (hG.of rfl) hS
  try clear_value s_2
  refine Only.ite ?_ ?_
  · exact State.notice_only (hG.of rfl) h3
  · exact hS

theorem pwrbrkRelease_only {n : Nat} {s : State} (hG : Sub 0x40000000000000000000000000000000000000000080000000000000000000000000000000000000000000000000000 G) (hS : Only G s0 s) :
    Only G s0 (pwrbrkRelease n s) := by
  unfold pwrbrkRelease
  split
  · extract_lets +onlyGivenNames -underBinder -merge __src_1
    refine Only.ite ?_ ?_
    · exact hS
    · refine State.set_only (hG.of rfl) ?_
      exact State.setSlot_only (hG.of rfl) hS
  · exact hS

theorem slotPresenceLoss_only {n : Nat} {s : State} (hG : Sub 0x4000000000080040200000050006e100000000010080008000000000010000000000084000000000001200800018440 G) (hS : Only G s0 s) :
    Only G s0 (slotPresenceLoss n s) := by
  unfold slotPresenceLoss
  extract_lets +onlyGivenNames -underBinder -merge s_1
  have h2 : Only G s0 s_1 := by
    subst s_1
    exact State.set_only (hG.of rfl) hS
  try clear_value s_1
  extract_lets +onlyGivenNames -underBinder -merge s_3
  have h4 : Only G s0 s_3 := by
    subst s_3
    refine State.set_only (hG.of rfl) ?_
    exact State.cutPower_only (hG.of rfl) h2
  try clear_value s_3
  extract_lets +onlyGivenNames -underBinder -merge __src_5
  refine Only.ite ?_ ?_
  · exact hS
  · refine Only.ite ?_ ?_
    · refine State.slotLinkDown_only (hG.of rfl) ?_
      exact State.setSlot_only (hG.of rfl) h4
    · exact h2

theorem cycle_only {n : Nat} {s : State} (hG : Sub 0x4000000000080040200000050006e100000000010080008000000000010000000000084000000000001200800018440 G) (hS : Only G s0 s) :
    Only G s0 (cycle n s) := by
  unfold cycle
  exact State.slotCycle_only (hG.of rfl) hS

theorem attentionButton_only {n : Nat} {s : State} (hG : Sub 0x8000000000000000000000000000000000000000000000000000000000000000000 G) (hS : Only G s0 s) :
    Only G s0 (attentionButton n s) := by
  unfold attentionButton
  refine State.each_only ?_ hS
  intro y1 u2 hu3
  try beta_reduce
  extract_lets +onlyGivenNames -underBinder -merge __src_4
  exact State.setVppb_only (hG.of rfl) hu3

end Sys2Proof.Machine
end

