-- ==== Sys2Proof/Laws/FrameModes.lean ====
section
/-! SUPPORT. The frame of each function of Machine/Modes.lean: the parts of the state that it may change, as a set of bits (StatePart.place), with the canonical form kept. -/

namespace Sys2Proof.Machine

variable {G : Nat} {s0 : State}

theorem State.interruptFlash_only {s : State} (hG : Sub 0xe0000000000000000000080000000000000000000000000000000000000000000000000000000000000000 G) (hS : Only G s0 s) :
    Only G s0 (State.interruptFlash s) := by
  unfold State.interruptFlash
  extract_lets +onlyGivenNames -underBinder -merge s_1
  have h2 : Only G s0 s_1 := by
    subst s_1
    split
    · refine Only.ite ?_ ?_
      · exact State.eraseFlash_only (hG.of rfl) hS
      · exact hS
    · exact hS
  try clear_value s_1
  split
  · extract_lets +onlyGivenNames -underBinder -merge free_3
    refine Only.ite ?_ ?_
    · exact h2
    · split
      · refine State.eraseFlash_only (hG.of rfl) ?_
        exact State.eraseFlash_only (hG.of rfl) h2
      · extract_lets +onlyGivenNames -underBinder -merge __src_4
        have h5 : Only G s0 __src_4 := by
          subst __src_4
          exact State.fresh_only (hG.of rfl) h2
        try clear_value __src_4
        extract_lets +onlyGivenNames -underBinder -merge __src_6
        exact Only.set_fuses (hG.of rfl) h5
      · extract_lets +onlyGivenNames -underBinder -merge __src_7
        have h8 : Only G s0 __src_7 := by
          subst __src_7
          exact State.fresh_only (hG.of rfl) h2
        try clear_value __src_7
        extract_lets +onlyGivenNames -underBinder -merge __src_9
        exact Only.set_fuses (hG.of rfl) h8
      · extract_lets +onlyGivenNames -underBinder -merge old_10
        extract_lets +onlyGivenNames -underBinder -merge __src_11
        have h12 : Only G s0 __src_11 := by
          subst __src_11
          exact State.fresh_only (hG.of rfl) h2
        try clear_value __src_11
        extract_lets +onlyGivenNames -underBinder -merge __src_13
        exact Only.set_fuses (hG.of rfl) h12
      · exact h2
  · exact h2

/-- What a reset sets up in place of a state changes no field that it keeps. -/
theorem Only.restart {s t : State} (hG : Sub 0x7ffffffffffffffffffffffffffffef000000007fffffffffffffffffffffffffffffffffffffffffffffffffffffff G) (hw : s.Canonical → t.Canonical) (ho : t.out = s.out) (hp : t.pending = s.pending)
    (hc : t.clkLost = s.clkLost) (h : Only G s0 s) : Only G s0 t := by
  refine ⟨fun c => hw (h.1 c), fun p hn => ?_⟩
  have hs := h.2 p hn
  have hf : ∀ f : StateField, Sub f.mask 0x7ffffffffffffffffffffffffffffef000000007fffffffffffffffffffffffffffffffffffffffffffffffffffffff → StatePart.field f ≠ p := fun f hm e => Only.ne_field (hG.of hm) (e ▸ hn) rfl
  cases p with
  | reg k => exact absurd rfl (Only.ne_reg (Sub.kind (hG.of rfl)) hn)
  | field f =>
    cases f with
    | out => exact ho.trans hs
    | pending => exact hp.trans hs
    | clkLost => exact hc.trans hs
    | _ => exact absurd rfl (hf _ (by decide +kernel))

theorem State.enterReset_only {s : State} {cause : Nat} {rail : Nat} {lost : Bool} (hG : Sub 0x7ffffffffffffffffffffffffffffef000000007fffffffffffffffffffffffffffffffffffffffffffffffffffffff G) (hS : Only G s0 s) :
    Only G s0 (State.enterReset s cause rail lost) := by
  unfold State.enterReset
  extract_lets +onlyGivenNames -underBinder -merge s_1
  have h1 : Only G s0 s_1 := by
    subst s_1
    exact State.interruptFlash_only (hG.of rfl) hS
  clear_value s_1
  extract_lets +onlyGivenNames -underBinder -merge src
  subst src
  extract_lets +onlyGivenNames -underBinder -merge t_2
  have h2 : Only G s0 t_2 := by
    subst t_2
    exact Only.restart hG (fun c => ⟨rfl, Tbl.wf_filter _ _ c.2.1, c.2.2⟩) rfl rfl rfl h1
  clear_value t_2
  extract_lets +onlyGivenNames -underBinder -merge s_3
  have h3 : Only G s0 s_3 := by
    subst s_3
    refine Only.ite (Only.set_resetBy (hG.of rfl) hS) ?_
    exact State.set_only (hG.of rfl) (State.set_only (hG.of rfl) (State.set_only (hG.of rfl) h2))
  clear_value s_3
  refine Only.ite (State.set_only (hG.of rfl) ?_) h3
  exact Only.set_hbm_repairMap (hG.of rfl) h3
theorem resetNAssert_only {s : State} (hG : Sub 0x7ffffffffffffffffffffffffffffef000000007fffffffffffffffffffffffffffffffffffffffffffffffffffffff G) (hS : Only G s0 s) :
    Only G s0 (resetNAssert s) := by
  unfold resetNAssert
  exact State.enterReset_only (hG.of rfl) hS

theorem brownOut_only {rail : Nat} {lost : Bool} {s : State} (hG : Sub 0x7ffffffffffffffffffffffffffffef000000007fffffffffffffffffffffffffffffffffffffffffffffffffffffff G) (hS : Only G s0 s) :
    Only G s0 (brownOut rail lost s) := by
  unfold brownOut
  exact State.enterReset_only (hG.of rfl) hS

theorem reboot_only {s : State} (hG : Sub 0x7ffffffffffffffffffffffffffffef000000007fffffffffffffffffffffffffffffffffffffffffffffffffffffff G) (hS : Only G s0 s) :
    Only G s0 (reboot s) := by
  unfold reboot
  exact State.enterReset_only (hG.of rfl) hS

theorem State.leaveReset_only {s : State} {role : Nat} {bootSrc : Bool} {pins : Word} (hG : Sub 0x10001b014020000005f006a1700000000140000080000403e8050090000010084000000000001200805518441 G) (hS : Only G s0 s) :
    Only G s0 (State.leaveReset s role bootSrc pins) := by
  unfold State.leaveReset
  extract_lets +onlyGivenNames -underBinder -merge s_1
  have h2 : Only G s0 s_1 := by
    subst s_1
    exact Only.set_phase_clk_tim_resetBy (hG.of rfl) hS
  try clear_value s_1
  extract_lets +onlyGivenNames -underBinder -merge s_3
  have h4 : Only G s0 s_3 := by
    subst s_3
    exact State.set_only (hG.of rfl) h2
  try clear_value s_3
  extract_lets +onlyGivenNames -underBinder -merge s_5
  have h6 : Only G s0 s_5 := by
    subst s_5
    exact State.set_only (hG.of rfl) h4
  try clear_value s_5
  extract_lets +onlyGivenNames -underBinder -merge s_7
  have h8 : Only G s0 s_7 := by
    subst s_7
    exact State.set_only (hG.of rfl) h6
  try clear_value s_7
  extract_lets +onlyGivenNames -underBinder -merge s_9
  have h10 : Only G s0 s_9 := by
    subst s_9
    exact State.setReg_only (hG.of rfl) h8
  try clear_value s_9
  extract_lets +onlyGivenNames -underBinder -merge s_11
  have h12 : Only G s0 s_11 := by
    subst s_11
    exact State.showFuses_only (hG.of rfl) h10
  try clear_value s_11
  extract_lets +onlyGivenNames -underBinder -merge s_13
  have h14 : Only G s0 s_13 := by
    subst s_13
    refine State.each_only ?_ h12
    intro y15 u16 hu17
    try beta_reduce
    exact State.cause_only (hG.of rfl) hu17
  try clear_value s_13
  refine Only.ite ?_ ?_
  · exact State.enterSafe_only (hG.of rfl) h14
  · exact h14

theorem resetEnd_only {cause : Nat} {role : Nat} {bootSrc : Bool} {pins : Word} {s : State} (hG : Sub 0x10001b014020000005f006a1700000000140000080000403e8050090000010084000000000001200805518441 G) (hS : Only G s0 s) :
    Only G s0 (resetEnd cause role bootSrc pins s) := by
  unfold resetEnd
  extract_lets +onlyGivenNames -underBinder -merge left_1
  refine Only.ite ?_ ?_
  · exact hS
  · refine Only.ite ?_ ?_
    · exact Only.set_resetBy (hG.of rfl) hS
    · exact State.leaveReset_only (hG.of rfl) hS

theorem refclkLoss_only {k : Nat} {s : State} (hG : Sub 0xc0000000001b014020000005f006e1000000000100800080000403e0050000000010084000000000001200805518441 G) (hS : Only G s0 s) :
    Only G s0 (refclkLoss k s) := by
  unfold refclkLoss
  extract_lets +onlyGivenNames -underBinder -merge s_1
  have h2 : Only G s0 s_1 := by
    subst s_1
    exact Only.set_clkLost (hG.of rfl) hS
  try clear_value s_1
  refine Only.ite ?_ ?_
  · exact h2
  · refine Only.ite ?_ ?_
    · exact State.cause_only (hG.of rfl) h2
    · refine State.each_only ?_ h2
      intro y3 u4 hu5
      try beta_reduce
      exact State.takeDown_only (hG.of rfl) hu5

theorem refclkRestore_only {k : Nat} {role : Nat} {bootSrc : Bool} {pins : Word} {s : State} (hG : Sub 0x80000010001b014020000005f006b9700000000140000080000403e805009000001008400000000000120080551bc41 G) (hS : Only G s0 s) :
    Only G s0 (refclkRestore k role bootSrc pins s) := by
  unfold refclkRestore
  extract_lets +onlyGivenNames -underBinder -merge s_1
  have h2 : Only G s0 s_1 := by
    subst s_1
    exact Only.set_clkLost (hG.of rfl) hS
  try clear_value s_1
  refine Only.ite ?_ ?_
  · refine Only.ite ?_ ?_
    · exact State.leaveReset_only (hG.of rfl) h2
    · exact h2
  · refine State.each_only ?_ h2
    intro y3 u4 hu5
    try beta_reduce
    exact State.bringUpAlone_only (hG.of rfl) hu5

theorem State.inTest_only {s : State} (hG : Sub 0x10000000010000008000000020050000000000000000000000000000000000040 G) (hS : Only G s0 s) :
    Only G s0 (State.inTest s) := by
  unfold State.inTest
  extract_lets +onlyGivenNames -underBinder -merge s_1
  have h2 : Only G s0 s_1 := by
    subst s_1
    exact Only.set_phase (hG.of rfl) hS
  try clear_value s_1
  refine State.updFaultN_only (hG.of rfl) ?_
  refine State.updMode_only (hG.of rfl) ?_
  refine State.each_only ?_ h2
  intro y3 u4 hu5
  try beta_reduce
  exact State.showTest_only (hG.of rfl) hu5

theorem enterTest_only {s : State} (hG : Sub 0x2000000000000000000000000010000000010000008000000020050000000000000000000000000000000000048 G) (hS : Only G s0 s) :
    Only G s0 (enterTest s) := by
  unfold enterTest
  refine Only.ite ?_ ?_
  · exact State.inTest_only (hG.of rfl) hS
  · exact State.refuseWrite_only (hG.of rfl) hS

theorem State.slotsReset_only {s : State} (hG : Sub 0x40000000000000000000000000000000000000000080000000000000000000000000000000000000000000000000000 G) (hS : Only G s0 s) :
    Only G s0 (State.slotsReset s) := by
  unfold State.slotsReset
  extract_lets +onlyGivenNames -underBinder -merge s_1
  have h2 : Only G s0 s_1 := by
    subst s_1
    refine State.each_only ?_ hS
    intro y3 u4 hu5
    try beta_reduce
    refine State.set_only (hG.of rfl) ?_
    refine State.set_only (hG.of rfl) ?_
    exact State.set_only (hG.of rfl) hu5
  try clear_value s_1
  exact Only.set_slots (hG.of rfl) h2

theorem boundaryScanTest_only {s : State} (hG : Sub 0x400000000018004020000005f006e110000000010080008000000020050000000000084000000000001200805518440 G) (hS : Only G s0 s) :
    Only G s0 (boundaryScanTest s) := by
  unfold boundaryScanTest
  extract_lets +onlyGivenNames -underBinder -merge s_1
  have h2 : Only G s0 s_1 := by
    subst s_1
    refine State.each_only ?_ hS
    intro y3 u4 hu5
    try beta_reduce
    refine Only.ite ?_ ?_
    · exact State.sflDown_only (hG.of rfl) hu5
    · exact hu5
  try clear_value s_1
  extract_lets +onlyGivenNames -underBinder -merge s_6
  have h7 : Only G s0 s_6 := by
    subst s_6
    refine State.each_only ?_ h2
    intro y8 u9 hu10
    try beta_reduce
    exact State.takeDown_only (hG.of rfl) hu10
  try clear_value s_6
  refine Only.ite ?_ ?_
  · exact hS
  · refine State.inTest_only (hG.of rfl) ?_
    exact State.slotsReset_only (hG.of rfl) h7

theorem State.reapply_only {s : State} (hG : Sub 0x8000000000000000000080000000000001000000080 G) (hS : Only G s0 s) :
    Only G s0 (State.reapply s) := by
  unfold State.reapply
  extract_lets +onlyGivenNames -underBinder -merge s_1
  have h2 : Only G s0 s_1 := by
    subst s_1
    refine Only.fold ?_ hS
    intro u3 y5 hu4
    try beta_reduce
    split
    · refine State.useSpare_only (hG.of rfl) ?_
      refine State.set_only (hG.of rfl) ?_
      refine State.set_only (hG.of rfl) ?_
      exact State.set_only (hG.of rfl) hu4
    · exact hu4
  try clear_value s_1
  extract_lets +onlyGivenNames -underBinder -merge s_7
  have h8 : Only G s0 s_7 := by
    subst s_7
    refine Only.fold ?_ h2
    intro u9 y11 hu10
    try beta_reduce
    refine State.count_only (hG.of rfl) ?_
    exact State.set_only (hG.of rfl) hu10
  try clear_value s_7
  extract_lets +onlyGivenNames -underBinder -merge s_13
  have h14 : Only G s0 s_13 := by
    subst s_13
    refine Only.fold ?_ h8
    intro u15 y17 hu16
    try beta_reduce
    split
    · refine State.useSpare_only (hG.of rfl) ?_
      refine State.set_only (hG.of rfl) ?_
      exact State.set_only (hG.of rfl) hu16
    · exact hu16
  try clear_value s_13
  extract_lets +onlyGivenNames -underBinder -merge s_19
  have h20 : Only G s0 s_19 := by
    subst s_19
    exact State.count_only (hG.of rfl) h14
  try clear_value s_19
  refine Only.fold ?_ h20
  intro u21 y23 hu22
  try beta_reduce
  exact State.count_only (hG.of rfl) hu22

theorem hbmInitDone_only {ok : Bool} {kept : Bool} {sram : Nat} {hbm : Nat} {s : State} (hG : Sub 0x2002c000c0000003820000000021000000007fffffffffffffffffffffffffffffffffffffffffffffffffffffff G) (hS : Only G s0 s) :
    Only G s0 (hbmInitDone ok kept sram hbm s) := by
  unfold hbmInitDone
  extract_lets +onlyGivenNames -underBinder -merge reuse_1
  extract_lets +onlyGivenNames -underBinder -merge s_2
  have h3 : Only G s0 s_2 := by
    subst s_2
    exact State.set_only (hG.of rfl) hS
  try clear_value s_2
  extract_lets +onlyGivenNames -underBinder -merge s_4
  have h5 : Only G s0 s_4 := by
    subst s_4
    exact State.set_only (hG.of rfl) h3
  try clear_value s_4
  extract_lets +onlyGivenNames -underBinder -merge s_6
  have h7 : Only G s0 s_6 := by
    subst s_6
    exact State.set_only (hG.of rfl) h5
  try clear_value s_6
  extract_lets +onlyGivenNames -underBinder -merge s_8
  have h9 : Only G s0 s_8 := by
    subst s_8
    refine Only.ite ?_ ?_
    · exact State.reapply_only (hG.of rfl) h7
    · exact Only.set_hbm_repairMap (hG.of rfl) h7
  try clear_value s_8
  refine Only.ite ?_ ?_
  · exact hS
  · refine Only.ite ?_ ?_
    · refine Only.ite ?_ ?_
      · exact State.enterSafe_only (hG.of rfl) hS
      · exact hS
    · refine State.tryProvision_only (hG.of rfl) ?_
      exact Only.set_hbmReady (hG.of rfl) h9

theorem provisionComplete_only {s : State} (hG : Sub 0x10000000000000000000000000001000000001000000800e000020150000020000000000000000000000000000000 G) (hS : Only G s0 s) :
    Only G s0 (provisionComplete s) := by
  unfold provisionComplete
  extract_lets +onlyGivenNames -underBinder -merge s_1
  have h2 : Only G s0 s_1 := by
    subst s_1
    exact Only.set_phase (hG.of rfl) hS
  try clear_value s_1
  extract_lets +onlyGivenNames -underBinder -merge s_3
  have h4 : Only G s0 s_3 := by
    subst s_3
    exact State.set_only (hG.of rfl) h2
  try clear_value s_3
  extract_lets +onlyGivenNames -underBinder -merge s_5
  have h6 : Only G s0 s_5 := by
    subst s_5
    exact State.set_only (hG.of rfl) h4
  try clear_value s_5
  refine Only.ite ?_ ?_
  · exact hS
  · refine State.updFaultN_only (hG.of rfl) ?_
    refine State.updMode_only (hG.of rfl) ?_
    exact State.updRoot_only (hG.of rfl) h6

theorem recoverRegions_only {mask : Nat} {s : State} (hG : Sub 0x2000000000000000000000000000000000010000008000040020050000000000000000000000000000000000008 G) (hS : Only G s0 s) :
    Only G s0 (recoverRegions mask s) := by
  unfold recoverRegions
  extract_lets +onlyGivenNames -underBinder -merge asked_1
  extract_lets +onlyGivenNames -underBinder -merge go_2
  extract_lets +onlyGivenNames -underBinder -merge t_3
  have h4 : Only G s0 t_3 := by
    subst t_3
    refine State.each_only ?_ hS
    intro y5 u6 hu7
    try beta_reduce
    exact State.set_only (hG.of rfl) hu7
  try clear_value t_3
  extract_lets +onlyGivenNames -underBinder -merge t_8
  have h9 : Only G s0 t_8 := by
    subst t_8
    refine Only.ite ?_ ?_
    · exact h4
    · refine State.updFaultN_only (hG.of rfl) ?_
      exact State.updMode_only (hG.of rfl) h4
  try clear_value t_8
  refine Only.ite ?_ ?_
  · exact h9
  · exact State.refuseWrite_only (hG.of rfl) h9

theorem State.resetUnits_only {s : State} {r : Nat} (hG : Sub 0x40013baf4fe204013ffe06e3000000000100000080000403e0050000005410085480000000001200805518441 G) (hS : Only G s0 s) :
    Only G s0 (State.resetUnits s r) := by
  unfold State.resetUnits
  extract_lets +onlyGivenNames -underBinder -merge s_1
  have h2 : Only G s0 s_1 := by
    subst s_1
    refine State.each_only ?_ hS
    intro y3 u4 hu5
    try beta_reduce
    exact State.scanHome_only (hG.of rfl) hu5
  try clear_value s_1
  extract_lets +onlyGivenNames -underBinder -merge nis_6
  extract_lets +onlyGivenNames -underBinder -merge mine_7
  extract_lets +onlyGivenNames -underBinder -merge point_8
  extract_lets +onlyGivenNames -underBinder -merge s_9
  have h10 : Only G s0 s_9 := by
    subst s_9
    refine State.each_only ?_ h2
    intro y11 u12 hu13
    try beta_reduce
    extract_lets +onlyGivenNames -underBinder -merge __src_14
    exact State.setNi_only (hG.of rfl) hu13
  try clear_value s_9
  extract_lets +onlyGivenNames -underBinder -merge s_15
  have h16 : Only G s0 s_15 := by
    subst s_15
    exact Only.set_regs_partials_outst_decodeQ_portHold_voq_ledger_crQueue_inflight_rtr_xing_bindRun_l2Cache_resolved_denials_migMaps_migHeld_accesses_drains_hot_transit_fabHeld (hG.of rfl) (k := .CNT_VAL) (hG.of rfl) (by intro e he; simp [he]) h10
  try clear_value s_15
  extract_lets +onlyGivenNames -underBinder -merge s_17
  have h18 : Only G s0 s_17 := by
    subst s_17
    refine State.each_only ?_ h16
    intro y19 u20 hu21
    try beta_reduce
    refine State.issuePool_only (hG.of rfl) ?_
    exact State.set_only (hG.of rfl) hu21
  try clear_value s_17
  extract_lets +onlyGivenNames -underBinder -merge s_22
  have h23 : Only G s0 s_22 := by
    subst s_22
    refine State.each_only ?_ h18
    intro y24 u25 hu26
    try beta_reduce
    extract_lets +onlyGivenNames -underBinder -merge e_27
    extract_lets +onlyGivenNames -underBinder -merge x_28
    extract_lets +onlyGivenNames -underBinder -merge __src_29
    extract_lets +onlyGivenNames -underBinder -merge t_30
    have h31 : Only G s0 t_30 := by
      subst t_30
      exact State.setEngine_only (hG.of rfl) hu26
    try clear_value t_30
    refine Only.ite ?_ ?_
    · exact h31
    · exact State.set_only (hG.of rfl) h31
  try clear_value s_22
  extract_lets +onlyGivenNames -underBinder -merge s_32
  have h33 : Only G s0 s_32 := by
    subst s_32
    exact Only.set_reloadDue (hG.of rfl) h23
  try clear_value s_32
  refine State.each_only ?_ h33
  intro y34 u35 hu36
  try beta_reduce
  extract_lets +onlyGivenNames -underBinder -merge c_37
  extract_lets +onlyGivenNames -underBinder -merge t_38
  have h39 : Only G s0 t_38 := by
    subst t_38
    exact State.showLoaded_only (hG.of rfl) hu36
  try clear_value t_38
  extract_lets +onlyGivenNames -underBinder -merge t_40
  have h41 : Only G s0 t_40 := by
    subst t_40
    exact State.modCluster_only (hG.of rfl) h39
  try clear_value t_40
  extract_lets +onlyGivenNames -underBinder -merge t_42
  have h43 : Only G s0 t_42 := by
    subst t_42
    exact State.setReg_only (hG.of rfl) h41
  try clear_value t_42
  exact State.set_only (hG.of rfl) h43

theorem State.resumeContexts_only {s : State} {r : Nat} (hG : Sub 0xe00000000000000000000000000000000000000000000000000000000010000000000000000 G) (hS : Only G s0 s) :
    Only G s0 (State.resumeContexts s r) := by
  unfold State.resumeContexts
  extract_lets +onlyGivenNames -underBinder -merge own_1
  extract_lets +onlyGivenNames -underBinder -merge s_2
  have h3 : Only G s0 s_2 := by
    subst s_2
    exact Only.set_buckets (hG.of rfl) hS
  try clear_value s_2
  refine Only.fold ?_ h3
  intro u4 y6 hu5
  try beta_reduce
  refine State.holdRoom_only (hG.of rfl) ?_
  exact State.setHeld_only (hG.of rfl) hu5

theorem regionRecoveryEnd_only {r : Nat} {ok : Bool} {s : State} (hG : Sub 0x400031c0013baf4fe2bce13ffe07fb8000000007fffffffffffffffffffffffffffffffffffffffffffffffffffffff G) (hS : Only G s0 s) :
    Only G s0 (regionRecoveryEnd r ok s) := by
  unfold regionRecoveryEnd
  extract_lets +onlyGivenNames -underBinder -merge s_1
  have h2 : Only G s0 s_1 := by
    subst s_1
    refine State.resumeContexts_only (hG.of rfl) ?_
    refine State.takeLater_only (hG.of rfl) ?_
    refine State.reloadRegion_only (hG.of rfl) ?_
    exact State.resetUnits_only (hG.of rfl) hS
  try clear_value s_1
  extract_lets +onlyGivenNames -underBinder -merge s_3
  have h4 : Only G s0 s_3 := by
    subst s_3
    exact Only.set_dirCache (hG.of rfl) h2
  try clear_value s_3
  extract_lets +onlyGivenNames -underBinder -merge s_5
  have h6 : Only G s0 s_5 := by
    subst s_5
    refine State.setBit_only (hG.of rfl) ?_
    exact State.setBit_only (hG.of rfl) h4
  try clear_value s_5
  extract_lets +onlyGivenNames -underBinder -merge s_7
  have h8 : Only G s0 s_7 := by
    subst s_7
    exact State.set_only (hG.of rfl) h6
  try clear_value s_7
  extract_lets +onlyGivenNames -underBinder -merge s_9
  have h10 : Only G s0 s_9 := by
    subst s_9
    refine State.each_only ?_ h8
    intro y11 u12 hu13
    try beta_reduce
    refine State.release_only (hG.of rfl) ?_
    exact State.dropTriggers_only (hG.of rfl) hu13
  try clear_value s_9
  refine Only.ite ?_ ?_
  · exact hS
  · refine Only.ite ?_ ?_
    · exact State.recoveryFails_only (hG.of rfl) hS
    · refine State.updFaultN_only (hG.of rfl) ?_
      refine State.updMode_only (hG.of rfl) ?_
      exact State.notice_only (hG.of rfl) h10

theorem State.resetVcs_only {s : State} {vcs : Nat} (hG : Sub 0x80ec61800000001008100000000000080000000000000000000000000084000000000000000000020000 G) (hS : Only G s0 s) :
    Only G s0 (State.resetVcs s vcs) := by
  unfold State.resetVcs
  extract_lets +onlyGivenNames -underBinder -merge s_1
  have h2 : Only G s0 s_1 := by
    subst s_1
    refine Only.ite ?_ ?_
    · exact State.removeAgent_only (hG.of rfl) hS
    · exact hS
  try clear_value s_1
  extract_lets +onlyGivenNames -underBinder -merge s_3
  have h4 : Only G s0 s_3 := by
    subst s_3
    exact State.set_only (hG.of rfl) h2
  try clear_value s_3
  extract_lets +onlyGivenNames -underBinder -merge s_5
  have h6 : Only G s0 s_5 := by
    subst s_5
    exact Only.set_biDecoder_decoders_commitWait_caidWait (hG.of rfl) h4
  try clear_value s_5
  refine State.each_only ?_ h6
  intro y7 u8 hu9
  try beta_reduce
  extract_lets +onlyGivenNames -underBinder -merge __src_10
  refine State.updHostOn_only (hG.of rfl) ?_
  exact State.setVppb_only (hG.of rfl) hu9

theorem perstAssert_only {b : Nat} {s : State} (hG : Sub 0x4000000000080ec6380000050106e100000000010080008000000008010000000000084000000000001200800038440 G) (hS : Only G s0 s) :
    Only G s0 (perstAssert b s) := by
  unfold perstAssert
  extract_lets +onlyGivenNames -underBinder -merge s_1
  have h2 : Only G s0 s_1 := by
    subst s_1
    exact State.setBit_only (hG.of rfl) hS
  try clear_value s_1
  refine Only.ite ?_ ?_
  · exact hS
  · refine Only.ite ?_ ?_
    · exact h2
    · refine State.each_only ?_ h2
      intro y3 u4 hu5
      try beta_reduce
      extract_lets +onlyGivenNames -underBinder -merge t_6
      have h7 : Only G s0 t_6 := by
        subst t_6
        exact State.takeDown_only (hG.of rfl) hu5
      try clear_value t_6
      split
      · exact State.resetVcs_only (hG.of rfl) h7
      · exact h7

theorem perstDeassert_only {b : Nat} {s : State} (hG : Sub 0x40003800000000000000000000000008000000000000000000000000000000000103840 G) (hS : Only G s0 s) :
    Only G s0 (perstDeassert b s) := by
  unfold perstDeassert
  extract_lets +onlyGivenNames -underBinder -merge s_1
  have h2 : Only G s0 s_1 := by
    subst s_1
    exact State.setBit_only (hG.of rfl) hS
  try clear_value s_1
  refine Only.ite ?_ ?_
  · exact hS
  · refine Only.ite ?_ ?_
    · exact h2
    · refine State.each_only ?_ h2
      intro y3 u4 hu5
      try beta_reduce
      exact State.bringUpAlone_only (hG.of rfl) hu5

theorem State.showBanked_only {s : State} {u : Nat} {b : Bool} (hG : Sub 0x4800000000000000000000000000000000000000 G) (hS : Only G s0 s) :
    Only G s0 (State.showBanked s u b) := by
  unfold State.showBanked
  refine Only.ite ?_ ?_
  · exact State.setBit_only (hG.of rfl) hS
  · refine Only.ite ?_ ?_
    · exact State.setBit_only (hG.of rfl) hS
    · exact State.setBit_only (hG.of rfl) hS

theorem State.updBanked_only {s : State} (hG : Sub 0x10000008000000000050000000000000000000000000000000000000 G) (hS : Only G s0 s) :
    Only G s0 (State.updBanked s) := by
  unfold State.updBanked
  extract_lets +onlyGivenNames -underBinder -merge all_1
  refine Only.ite ?_ ?_
  · exact hS
  · refine State.updMode_only (hG.of rfl) ?_
    exact State.set_only (hG.of rfl) hS

theorem bankWrite_only {which : Nat} {value : Word} {s : State} (hG : Sub 0x100000080000000034d0000000000000000000000000000000000000 G) (hS : Only G s0 s) :
    Only G s0 (bankWrite which value s) := by
  unfold bankWrite
  extract_lets +onlyGivenNames -underBinder -merge mask_1
  extract_lets +onlyGivenNames -underBinder -merge keep_2
  refine Only.ite ?_ ?_
  · refine State.set_only (hG.of rfl) ?_
    exact State.set_only (hG.of rfl) hS
  · refine Only.ite ?_ ?_
    · refine State.set_only (hG.of rfl) ?_
      exact State.set_only (hG.of rfl) hS
    · refine State.updBanked_only (hG.of rfl) ?_
      exact State.set_only (hG.of rfl) hS

theorem unitBanked_only {u : Nat} {l1 : Bool} {s : State} (hG : Sub 0x100000000a0000300000000010000008000000005850000000000000000000000000000001000040 G) (hS : Only G s0 s) :
    Only G s0 (unitBanked u l1 s) := by
  unfold unitBanked
  extract_lets +onlyGivenNames -underBinder -merge n_1
  extract_lets +onlyGivenNames -underBinder -merge s_2
  have h3 : Only G s0 s_2 := by
    subst s_2
    refine Only.fold ?_ hS
    intro u4 y6 hu5
    try beta_reduce
    extract_lets +onlyGivenNames -underBinder -merge l_8
    refine Only.ite ?_ ?_
    · exact hu5
    · refine State.setDirBlocks_only (hG.of rfl) ?_
      refine Only.fold ?_ hu5
      intro u9 y11 hu10
      try beta_reduce
      exact State.writeBack_only (hG.of rfl) hu10
  try clear_value s_2
  refine Only.ite ?_ ?_
  · exact hS
  · refine Only.ite ?_ ?_
    · refine Only.ite ?_ ?_
      · refine Only.ite ?_ ?_
        · refine State.updBanked_only (hG.of rfl) ?_
          exact State.showBanked_only (hG.of rfl) hS
        · exact State.askLanes_only (hG.of rfl) hS
      · refine Only.ite ?_ ?_
        · refine State.updBanked_only (hG.of rfl) ?_
          exact State.showBanked_only (hG.of rfl) hS
        · refine Only.ite ?_ ?_
          · exact hS
          · refine Only.ite ?_ ?_
            · exact State.setBit_only (hG.of rfl) hS
            · refine State.updBanked_only (hG.of rfl) ?_
              refine State.set_only (hG.of rfl) ?_
              exact State.showBanked_only (hG.of rfl) hS
    · refine Only.ite ?_ ?_
      · refine Only.ite ?_ ?_
        · exact hS
        · refine State.updBanked_only (hG.of rfl) ?_
          exact State.showBanked_only (hG.of rfl) hS
      · refine Only.ite ?_ ?_
        · exact hS
        · refine State.updBanked_only (hG.of rfl) ?_
          exact State.showBanked_only (hG.of rfl) h3

theorem bankDemandWake_only {u : Nat} {s : State} (hG : Sub 0xa0000100000000010000008000000004850000000000000000000000000000001000040 G) (hS : Only G s0 s) :
    Only G s0 (bankDemandWake u s) := by
  unfold bankDemandWake
  extract_lets +onlyGivenNames -underBinder -merge s_1
  have h2 : Only G s0 s_1 := by
    subst s_1
    refine State.count_only (hG.of rfl) ?_
    exact State.showBanked_only (hG.of rfl) hS
  try clear_value s_1
  extract_lets +onlyGivenNames -underBinder -merge s_3
  have h4 : Only G s0 s_3 := by
    subst s_3
    refine Only.ite ?_ ?_
    · refine Only.ite ?_ ?_
      · exact State.askLanes_only (hG.of rfl) h2
      · refine Only.ite ?_ ?_
        · exact State.set_only (hG.of rfl) h2
        · exact h2
    · exact h2
  try clear_value s_3
  refine Only.ite ?_ ?_
  · exact hS
  · exact State.updBanked_only (hG.of rfl) h4

theorem bankIdleRebank_only {u : Nat} {l1 : Bool} {s : State} (hG : Sub 0x100000000a0000300000000010000008000000005850000000000000000000000000000001000040 G) (hS : Only G s0 s) :
    Only G s0 (bankIdleRebank u l1 s) := by
  unfold bankIdleRebank
  refine Only.ite ?_ ?_
  · exact hS
  · exact unitBanked_only (hG.of rfl) hS

end Sys2Proof.Machine
end

