-- ==== Sys2Proof/Laws/FrameRegisters.lean ====
section
/-! SUPPORT. The frame of each function of Machine/Registers.lean: the parts of the state that it may change, as a set of bits (StatePart.place), with the canonical form kept. -/

namespace Sys2Proof.Machine

variable {G : Nat} {s0 : State}

theorem State.readEntry_only {s : State} {t : DupTable} {entry : Nat} {k : RegKind} {i : Nat} (hG : Sub 0x1b014020b00005f006a1000000000100000080000403e0050000000010084001000000001200805518441 G) (hS : Only G s0 s) :
    Only G s0 (State.readEntry s t entry k i).1 := by
  unfold State.readEntry
  extract_lets +onlyGivenNames -underBinder -merge r_1
  extract_lets +onlyGivenNames -underBinder -merge s_2
  have h3 : Only G s0 s_2 := by
    subst s_2
    exact State.repair_only (hG.of rfl) hS
  try clear_value s_2
  exact h3

theorem State.regView_only {s : State} {k : RegKind} {i : Nat} (hG : Sub 0x1b014020b00005f006a1000000000100000080000403e0050000000010084001000000001200805518441 G) (hS : Only G s0 s) :
    Only G s0 (State.regView s k i).1 := by
  unfold State.regView
  extract_lets +onlyGivenNames -underBinder -merge w_1
  extract_lets +onlyGivenNames -underBinder -merge put_2
  split
  · exact State.readEntry_only (hG.of rfl) hS
  · exact State.readEntry_only (hG.of rfl) hS
  · exact State.readEntry_only (hG.of rfl) hS
  · exact State.readEntry_only (hG.of rfl) hS
  · exact State.readEntry_only (hG.of rfl) hS
  · exact State.readEntry_only (hG.of rfl) hS
  · exact hS
  · exact hS
  · extract_lets +onlyGivenNames -underBinder -merge up_3
    exact hS
  · exact hS
  · exact hS
  · exact hS
  · exact hS
  · exact hS
  · exact hS
  · exact hS

theorem State.clearRC_only {s : State} {k : RegKind} {i : Nat} {hi : Nat} {lo : Nat} (hG : Sub 0x84000000020004013000208801404f01800000200002816400200 G) (h : Only G s0 s) : Only G s0 (State.clearRC s k i hi lo) := by
  have hr : ∀ F ∈ fieldsOf k .RC, Sub F.mask 0x84000000020004013000208801404f01800000200002816400200 := by cases k <;> decide +kernel
  exact Only.fold_mem (fun u F hF hu => State.set_only (hG.of (hr F (List.mem_of_mem_filter hF))) hu) h
theorem State.refuseRead_only {s : State} {n : Nat} {a : Nat} {size : Nat} (hG : Sub 0x2000000000000000000000000000000000010000008000000000010000000000000000000000000000000000008 G) (hS : Only G s0 s) :
    Only G s0 (State.refuseRead s n a size).1 := by
  unfold State.refuseRead
  exact State.refuse_only (hG.of rfl) hS

theorem State.readClears_only {s : State} {k : RegKind} {i : Nat} {a : Nat} {size : Nat} {latched : Bool} (hG : Sub 0x84000000020004013000208801404f01800000200002816400200 G) (hS : Only G s0 s) :
    Only G s0 (State.readClears s k i a size latched) := by
  unfold State.readClears
  refine Only.ite ?_ ?_
  · exact State.clearRC_only (hG.of rfl) hS
  · refine Only.ite ?_ ?_
    · exact State.clearRC_only (hG.of rfl) hS
    · exact hS

theorem State.readAccess_only {s : State} {n : Nat} {a : Nat} {size : Nat} (hG : Sub 0x2100001b014020b00005f006a1000000000100840080000603e4053000208811484f01800000201e02817518649 G) (hS : Only G s0 s) :
    Only G s0 (State.readAccess s n a size).1 := by
  unfold State.readAccess
  extract_lets +onlyGivenNames -underBinder -merge latch_1
  extract_lets +onlyGivenNames -underBinder -merge __src_2
  extract_lets +onlyGivenNames -underBinder -merge s_3
  have h4 : Only G s0 s_3 := by
    subst s_3
    exact State.setSes_only (hG.of rfl) hS
  try clear_value s_3
  split
  · exact State.refuseRead_only (hG.of rfl) h4
  · split
    · exact State.refuseRead_only (hG.of rfl) h4
    · extract_lets +onlyGivenNames -underBinder -merge at'_5
      split
      · exact State.slagRequest_only (hG.of rfl) h4
      · exact State.hbmCount_only (hG.of rfl) h4
    · extract_lets +onlyGivenNames -underBinder -merge kept_6
      extract_lets +onlyGivenNames -underBinder -merge v_7
      have h8 : Only G s0 v_7.1 := by
        subst v_7
        exact State.regView_only (hG.of rfl) h4
      try clear_value v_7
      extract_lets +onlyGivenNames -underBinder -merge s_9
      have h10 : Only G s0 s_9 := by
        subst s_9
        exact h8
      try clear_value s_9
      extract_lets +onlyGivenNames -underBinder -merge w_11
      extract_lets +onlyGivenNames -underBinder -merge s_12
      have h13 : Only G s0 s_12 := by
        subst s_12
        split
        · extract_lets +onlyGivenNames -underBinder -merge __src_14
          exact State.setSes_only (hG.of rfl) h10
        · exact h10
      try clear_value s_12
      extract_lets +onlyGivenNames -underBinder -merge s_15
      have h16 : Only G s0 s_15 := by
        subst s_15
        refine Only.ite ?_ ?_
        · exact State.readClears_only (hG.of rfl) h13
        · exact h13
      try clear_value s_15
      extract_lets +onlyGivenNames -underBinder -merge live_17
      exact h16

theorem State.readAccesses_only {n size k a : Nat} {s : State} {data : List Byte} {done : Nat} (hG : Sub 0x2100001b014020b00005f006a1000000000100840080000603e4053000208811484f01800000201e02817518649 G) (h : Only G s0 s) :
    Only G s0 (State.readAccesses n size k a s data done).1 := by
  induction k generalizing s a data done with
  | zero => exact h
  | succ k ih =>
    unfold State.readAccesses
    have ha := State.readAccess_only (n := n) (a := a) (size := size) (hG.of rfl) h
    split
    · rename_i t v e
      rw [e] at ha
      exact ih ha
    · rename_i t e
      rw [e] at ha
      exact ha
theorem State.accessError_only {s : State} {n : Nat} {type : Nat} {tag : Nat} {param : Nat} {data : List Byte} (hG : Sub 0x100000000000000000000000100000000000000000000000000001000000000000000000000000000000000000 G) (hS : Only G s0 s) :
    Only G s0 (State.accessError s n type tag param data) := by
  unfold State.accessError
  refine State.reply_only (hG.of rfl) ?_
  exact State.count_only (hG.of rfl) hS

theorem regRead_only {ses : Nat} {tag : Nat} {addr : Nat} {size : Nat} {count : Nat} {s : State} (hG : Sub 0x2100001b014020b00005f006a1000000000100840080000603e4053000208811484f01800000201e02817518649 G) (hS : Only G s0 s) :
    Only G s0 (regRead ses tag addr size count s) := by
  unfold regRead
  refine State.message_only (hG.of rfl) ?_ hS
  intro u1 hu2
  try beta_reduce
  extract_lets +onlyGivenNames -underBinder -merge z_3
  refine Only.ite ?_ ?_
  · exact State.accessError_only (hG.of rfl) hu2
  · split
    · rename_i z5 z7 z8 e4
      have h6 : Only G s0 z5 := by
        have e0 := congrArg Prod.fst e4
        change _ = z5 at e0
        rw [← e0]
        exact State.readAccesses_only (hG.of rfl) hu2
      exact State.reply_only (hG.of rfl) h6
    · rename_i z10 z12 z13 e9
      have h11 : Only G s0 z10 := by
        have e0 := congrArg Prod.fst e9
        change _ = z10 at e0
        rw [← e0]
        exact State.readAccesses_only (hG.of rfl) hu2
      exact State.accessError_only (hG.of rfl) h11

theorem timNowRead_only {ses : Nat} {tag : Nat} {s : State} (hG : Sub 0x2100001b014020b00005f006a1000000000100840080000603e4053000208811484f01800000201e02817518649 G) (hS : Only G s0 s) :
    Only G s0 (timNowRead ses tag s) := by
  unfold timNowRead
  exact regRead_only (hG.of rfl) hS

theorem hbmDbgWindowWrite_only {value : Word} {s : State} (hG : Sub 0x4 G) (hS : Only G s0 s) :
    Only G s0 (hbmDbgWindowWrite value s) := by
  unfold hbmDbgWindowWrite
  extract_lets +onlyGivenNames -underBinder -merge w_1
  refine Only.ite ?_ ?_
  · exact hS
  · exact State.set_only (hG.of rfl) hS

theorem drsErrPendClear_only {together : Option RefusedAccess} {s : State} (hG : Sub 0x2000000000000000000000000000000000010000008000000000010000000000000000000000000000000000008 G) (hS : Only G s0 s) :
    Only G s0 (drsErrPendClear together s) := by
  unfold drsErrPendClear
  extract_lets +onlyGivenNames -underBinder -merge s_1
  have h2 : Only G s0 s_1 := by
    subst s_1
    refine State.set_only (hG.of rfl) ?_
    exact State.set_only (hG.of rfl) hS
  try clear_value s_1
  split
  · exact State.refuse_only (hG.of rfl) h2
  · exact h2

theorem State.writeFields_only {s : State} {k : RegKind} {i : Nat} {v : Word} (hk : Sub k.mask G) (h : Only G s0 s) : Only G s0 (State.writeFields s k i v) := by
  have hr : ∀ F ∈ k.fields, F.reg = k := by cases k <;> decide +kernel
  have hf : ∀ acc, ∀ F ∈ fieldsOf k acc, Sub F.mask G := fun acc F hF => by
    rw [show F.mask = k.mask from congrArg RegKind.mask (hr F (List.mem_of_mem_filter hF))]; exact hk
  unfold State.writeFields
  refine Only.fold_mem (fun u F hF hu => State.set_only (hf _ F hF) hu) ?_
  exact Only.fold_mem (fun u F hF hu => State.set_only (hf _ F hF) hu) h
theorem State.onBit_only {s : State} {v : Word} {F : Fld} {f : State → State} (hf : (∀ x0, Only G s0 x0 → Only G s0 (f x0))) (hS : Only G s0 s) :
    Only G s0 (State.onBit s v F f) := by
  unfold State.onBit
  refine Only.ite ?_ ?_
  · exact hf _ hS
  · exact hS

theorem State.writeTime_only {s : State} {k : RegKind} {i : Nat} {v : Word} (hG : Sub 0x40102000001b014020000005f006e1400000000100821990060403e0050000000010084000000000001200805518449 G) (hk : Sub k.mask G) (hS : Only G s0 s) :
    Only G s0 (State.writeTime s k i v) := by
  unfold State.writeTime
  split
  · extract_lets +onlyGivenNames -underBinder -merge src_1
    extract_lets +onlyGivenNames -underBinder -merge t_2
    have h3 : Only G s0 t_2 := by
      subst t_2
      exact State.writeFields_only hk hS
    try clear_value t_2
    refine Only.ite ?_ ?_
    · exact h3
    · exact State.sourceChanged_only (hG.of rfl) h3
  · refine Only.ite ?_ ?_
    · exact State.refuseWrite_only (hG.of rfl) hS
    · refine State.onBit_only ?_ ?_
      · intro u4 hu5
        try beta_reduce
        exact timAdj_only (hG.of rfl) hu5
      · refine State.onBit_only ?_ hS
        intro u6 hu7
        try beta_reduce
        exact timSet_only (hG.of rfl) hu7
  · refine State.when_only ?_ ?_
    · intro u8 hu9
      try beta_reduce
      refine State.onBit_only ?_ hu9
      intro u10 hu11
      try beta_reduce
      exact clrPeak_only (hG.of rfl) hu11
    · refine State.onBit_only ?_ ?_
      · intro u12 hu13
        try beta_reduce
        exact cntClr_only (hG.of rfl) hu13
      · refine State.onBit_only ?_ hS
        intro u14 hu15
        try beta_reduce
        exact cntSnap_only (hG.of rfl) hu15
  · refine State.each_only ?_ ?_
    · intro y16 u17 hu18
      try beta_reduce
      exact State.set_only (hG.of rfl) hu18
    · exact State.writeFields_only hk hS
  · refine Only.ite ?_ ?_
    · exact State.refuseWrite_only (hG.of rfl) hS
    · exact State.writeFields_only hk hS
  · refine State.onBit_only ?_ ?_
    · intro u19 hu20
      try beta_reduce
      exact stop_only (hG.of rfl) hu20
    · refine State.onBit_only ?_ hS
      intro u21 hu22
      try beta_reduce
      exact start_only (hG.of rfl) hu22
  · refine State.onBit_only ?_ ?_
    · intro u23 hu24
      try beta_reduce
      exact cycle_only (hG.of rfl) hu24
    · refine State.onBit_only ?_ ?_
      · intro u25 hu26
        try beta_reduce
        exact slotClear_only (hG.of rfl) hu26
      · exact State.writeFields_only hk hS
  · exact State.writeFields_only hk hS

theorem State.writeFltCfg_only {s : State} {c : Nat} {v : Word} (hG : Sub 0x10000008000000030010000000000000000000000000000000000000 G) (hS : Only G s0 s) :
    Only G s0 (State.writeFltCfg s c v) := by
  unfold State.writeFltCfg
  extract_lets +onlyGivenNames -underBinder -merge s_1
  have h2 : Only G s0 s_1 := by
    subst s_1
    exact State.writeFields_only (hG.of rfl) hS
  try clear_value s_1
  extract_lets +onlyGivenNames -underBinder -merge s_3
  have h4 : Only G s0 s_3 := by
    subst s_3
    refine Only.ite ?_ ?_
    · exact State.notice_only (hG.of rfl) h2
    · refine State.set_only (hG.of rfl) ?_
      exact State.set_only (hG.of rfl) h2
  try clear_value s_3
  refine Only.ite ?_ ?_
  · exact State.set_only (hG.of rfl) hS
  · exact State.updFaultN_only (hG.of rfl) h4

theorem State.writeRepair_only {s : State} {v : Word} (hG : Sub 0x62000001bcf6fe2000005f406a30000000001000000800004a7e00500000050170854800000000012008055184c9 G) (hS : Only G s0 s) :
    Only G s0 (State.writeRepair s v) := by
  unfold State.writeRepair
  extract_lets +onlyGivenNames -underBinder -merge u_1
  split
  · exact clearLane_only (hG.of rfl) hS
  · exact retireEngine_only (hG.of rfl) hS
  · exact retireSlice_only (hG.of rfl) hS
  · exact hS

theorem State.writePower_only {s : State} {k : RegKind} {i : Nat} {v : Word} (hG : Sub 0x7ffffffffffffffffffffffffffffff000000007fffffffffffffffffffffffffffffffffffffffffffffffffffffff G) (hk : Sub k.mask G) (hS : Only G s0 s) :
    Only G s0 (State.writePower s k i v) := by
  unfold State.writePower
  split
  · extract_lets +onlyGivenNames -underBinder -merge s_1
    have h2 : Only G s0 s_1 := by
      subst s_1
      exact bankWrite_only (hG.of rfl) hS
    try clear_value s_1
    extract_lets +onlyGivenNames -underBinder -merge s_3
    have h4 : Only G s0 s_3 := by
      subst s_3
      refine Only.ite ?_ ?_
      · exact h2
      · exact recoverRegions_only (hG.of rfl) h2
    try clear_value s_3
    extract_lets +onlyGivenNames -underBinder -merge s_5
    have h6 : Only G s0 s_5 := by
      subst s_5
      refine State.onBit_only ?_ h4
      intro u7 hu8
      try beta_reduce
      exact enterTest_only (hG.of rfl) hu8
    try clear_value s_5
    refine State.onBit_only ?_ h6
    intro u9 hu10
    try beta_reduce
    exact reboot_only (hG.of rfl) hu10
  · exact bankWrite_only (hG.of rfl) hS
  · exact bankWrite_only (hG.of rfl) hS
  · exact State.writeFltCfg_only (hG.of rfl) hS
  · refine State.onBit_only ?_ hS
    intro u11 hu12
    try beta_reduce
    exact degClear_only (hG.of rfl) hu12
  · refine State.onBit_only ?_ hS
    intro u13 hu14
    try beta_reduce
    exact fltPendClear_only (hG.of rfl) hu14
  · exact fltInjGo_only (hG.of rfl) hS
  · exact State.writeRepair_only (hG.of rfl) hS
  · refine State.onBit_only ?_ hS
    intro u15 hu16
    try beta_reduce
    exact fltFatalClear_only (hG.of rfl) hu16
  · extract_lets +onlyGivenNames -underBinder -merge c_17
    extract_lets +onlyGivenNames -underBinder -merge g_18
    refine State.manualChanged_only (hG.of rfl) ?_
    exact State.writeFields_only hk hS
  · extract_lets +onlyGivenNames -underBinder -merge g_19
    extract_lets +onlyGivenNames -underBinder -merge f_20
    extract_lets +onlyGivenNames -underBinder -merge t_21
    have h22 : Only G s0 t_21 := by
      subst t_21
      exact State.writeFields_only hk hS
    try clear_value t_21
    refine State.channelChanged_only (hG.of rfl) ?_
    refine Only.ite ?_ ?_
    · exact State.set_only (hG.of rfl) h22
    · exact h22
  · exact State.writeTime_only (hG.of rfl) hk hS

theorem State.writeImage_only {s : State} {k : RegKind} {v : Word} {env : WriteEnv} (hG : Sub 0x200076000000000000000000008000000001000000800000000001004b000000000000000000000000000000008 G) (hS : Only G s0 s) :
    Only G s0 (State.writeImage s k v env) := by
  unfold State.writeImage
  extract_lets +onlyGivenNames -underBinder -merge sl_1
  split
  · exact imgErase_only (hG.of rfl) hS
  · exact imgWrite_only (hG.of rfl) hS
  · exact imgCheck_only (hG.of rfl) hS
  · exact imgCommit_only (hG.of rfl) hS
  · exact imgApply_only (hG.of rfl) hS
  · exact keyGenId_only (hG.of rfl) hS
  · exact keyRotate_only (hG.of rfl) hS
  · exact keyRevoke_only (hG.of rfl) hS
  · exact keyProgRoot_only (hG.of rfl) hS
  · exact keyRaiseSvn_only (hG.of rfl) hS
  · exact hS

theorem State.writeChip_only {s : State} {k : RegKind} {i : Nat} {v : Word} {env : WriteEnv} (hG : Sub 0x7ffffffffffffffffffffffffffffff000000007fffffffffffffffffffffffffffffffffffffffffffffffffffffff G) (hk : Sub k.mask G) (hS : Only G s0 s) :
    Only G s0 (State.writeChip s k i v env) := by
  unfold State.writeChip
  split
  · exact hbmDbgWindowWrite_only (hG.of rfl) hS
  · refine State.onBit_only ?_ hS
    intro u1 hu2
    try beta_reduce
    exact drsErrPendClear_only (hG.of rfl) hu2
  · exact State.refuseWrite_only (hG.of rfl) hS
  · exact State.refuseWrite_only (hG.of rfl) hS
  · exact handoverWrite_only (hG.of rfl) hS
  · refine Only.ite ?_ ?_
    · exact State.refuseWrite_only (hG.of rfl) hS
    · exact hS
  · refine Only.ite ?_ ?_
    · exact State.refuseWrite_only (hG.of rfl) hS
    · exact hS
  · refine Only.ite ?_ ?_
    · exact State.refuseWrite_only (hG.of rfl) hS
    · exact hS
  · exact State.writeImage_only (hG.of rfl) hS
  · exact State.writeImage_only (hG.of rfl) hS
  · refine State.onBit_only ?_ hS
    intro u3 hu4
    try beta_reduce
    exact trngNext_only (hG.of rfl) hu4
  · exact evtAckWrite_only (hG.of rfl) hS
  · exact State.writePower_only (hG.of rfl) hk hS

theorem State.writeTongs_only {s : State} {k : RegKind} {i : Nat} {v : Word} {env : WriteEnv} (hG : Sub 0x7ffffffffffffffffffffffffffffff000000007fffffffffffffffffffffffffffffffffffffffffffffffffffffff G) (hk : Sub k.mask G) (hS : Only G s0 s) :
    Only G s0 (State.writeTongs s k i v env) := by
  unfold State.writeTongs
  split
  · exact State.refuseWrite_only (hG.of rfl) hS
  · exact State.refuseWrite_only (hG.of rfl) hS
  · refine State.onBit_only ?_ hS
    intro u1 hu2
    try beta_reduce
    exact tngSubGo_only (hG.of rfl) hu2
  · refine State.onBit_only ?_ hS
    intro u3 hu4
    try beta_reduce
    exact tngCancelGo_only (hG.of rfl) hu4
  · exact cqHeadWrite_only (hG.of rfl) hS
  · refine State.onBit_only ?_ hS
    intro u5 hu6
    try beta_reduce
    exact engineReset_only (hG.of rfl) hu6
  · exact State.writeChip_only (hG.of rfl) hk hS

theorem State.writeRmp_only {s : State} {v : Word} (hG : Sub 0x20000000000006b000000000020000000001000000800000000001000000000000002804c000000000200000008 G) (hS : Only G s0 s) :
    Only G s0 (State.writeRmp s v) := by
  unfold State.writeRmp
  extract_lets +onlyGivenNames -underBinder -merge e_1
  extract_lets +onlyGivenNames -underBinder -merge g_2
  split
  · exact fracture_only (hG.of rfl) hS
  · exact unfracture_only (hG.of rfl) hS
  · exact writeL2_only (hG.of rfl) hS
  · exact readL2_only (hG.of rfl) hS
  · exact hS

theorem State.writeMemory_only {s : State} {k : RegKind} {i : Nat} {v : Word} {env : WriteEnv} (hG : Sub 0x7ffffffffffffffffffffffffffffff000000007fffffffffffffffffffffffffffffffffffffffffffffffffffffff G) (hk : Sub k.mask G) (hS : Only G s0 s) :
    Only G s0 (State.writeMemory s k i v env) := by
  unfold State.writeMemory
  split
  · exact l1EntryWrite_only (hG.of rfl) hS
  · exact l1EntryWrite_only (hG.of rfl) hS
  · exact acuWindowWrite_only (hG.of rfl) hS
  · exact acuWindowWrite_only (hG.of rfl) hS
  · exact State.set_only (hG.of rfl) hS
  · refine State.onBit_only ?_ hS
    intro u1 hu2
    try beta_reduce
    exact acuErrPendClear_only (hG.of rfl) hu2
  · exact State.writeRmp_only (hG.of rfl) hS
  · refine State.onBit_only ?_ hS
    intro u3 hu4
    try beta_reduce
    exact poisonLogClear_only (hG.of rfl) hu4
  · exact hrtCfgWrite_only (hG.of rfl) hS
  · refine State.onBit_only ?_ hS
    intro u5 hu6
    try beta_reduce
    exact readDir_only (hG.of rfl) hu6
  · exact hotEnWrite_only (hG.of rfl) hS
  · exact migCfgWrite_only (hG.of rfl) hS
  · exact State.writeTongs_only (hG.of rfl) hk hS

theorem State.writeBind_only {s : State} {r : Nat} {v : Word} (hG : Sub 0x2000000000000007e00200000000000000010000008000000000010000000000000000003ffd300000000000008 G) (hS : Only G s0 s) :
    Only G s0 (State.writeBind s r v) := by
  unfold State.writeBind
  extract_lets +onlyGivenNames -underBinder -merge feid_1
  extract_lets +onlyGivenNames -underBinder -merge ld_2
  split
  · exact bindFlow_only (hG.of rfl) hS
  · exact unbindFlow_only (hG.of rfl) hS
  · exact lookupFlow_only (hG.of rfl) hS
  · exact hS

theorem State.writeTemper_only {s : State} {k : RegKind} {i : Nat} {v : Word} {env : WriteEnv} (hG : Sub 0x7ffffffffffffffffffffffffffffff000000007fffffffffffffffffffffffffffffffffffffffffffffffffffffff G) (hk : Sub k.mask G) (hS : Only G s0 s) :
    Only G s0 (State.writeTemper s k i v env) := by
  unfold State.writeTemper
  split
  · exact holdBoundWrite_only (hG.of rfl) hS
  · exact State.writeBind_only (hG.of rfl) hS
  · exact shaperRewrite_only (hG.of rfl) hS
  · exact shaperRewrite_only (hG.of rfl) hS
  · exact contextRewrite_only (hG.of rfl) hS
  · exact contextRewrite_only (hG.of rfl) hS
  · refine State.holdFullNow_only (hG.of rfl) ?_
    refine State.holdRoom_only (hG.of rfl) ?_
    exact State.set_only (hG.of rfl) hS
  · exact State.writeMemory_only (hG.of rfl) hk hS

theorem State.writeAnvil_only {s : State} {k : RegKind} {i : Nat} {v : Word} {env : WriteEnv} (hG : Sub 0x7ffffffffffffffffffffffffffffff000000007fffffffffffffffffffffffffffffffffffffffffffffffffffffff G) (hk : Sub k.mask G) (hS : Only G s0 s) :
    Only G s0 (State.writeAnvil s k i v env) := by
  unfold State.writeAnvil
  split
  · exact routeEntryWrite_only (hG.of rfl) hS
  · refine State.onBit_only ?_ ?_
    · intro u1 hu2
      try beta_reduce
      exact probeSnap_only (hG.of rfl) hu2
    · exact State.writeFields_only hk hS
  · extract_lets +onlyGivenNames -underBinder -merge ni_3
    refine Only.ite ?_ ?_
    · exact hS
    · refine Only.ite ?_ ?_
      · exact quenchSet_only (hG.of rfl) hS
      · exact quenchClear_only (hG.of rfl) hS
  · exact mirrorEnWrite_only (hG.of rfl) hS
  · exact State.writeTemper_only (hG.of rfl) hk hS

theorem State.writePort_only {s : State} {k : RegKind} {i : Nat} {v : Word} {env : WriteEnv} (hG : Sub 0x7ffffffffffffffffffffffffffffff000000007fffffffffffffffffffffffffffffffffffffffffffffffffffffff G) (hk : Sub k.mask G) (hS : Only G s0 s) :
    Only G s0 (State.writePort s k i v env) := by
  unfold State.writePort
  split
  · extract_lets +onlyGivenNames -underBinder -merge s_1
    have h2 : Only G s0 s_1 := by
      subst s_1
      refine State.set_only (hG.of rfl) ?_
      exact State.set_only (hG.of rfl) hS
    try clear_value s_1
    extract_lets +onlyGivenNames -underBinder -merge s_3
    have h4 : Only G s0 s_3 := by
      subst s_3
      exact adminWrite_only (hG.of rfl) h2
    try clear_value s_3
    extract_lets +onlyGivenNames -underBinder -merge s_5
    have h6 : Only G s0 s_5 := by
      subst s_5
      refine l0pTgtWrite_only (hG.of rfl) ?_
      exact l0pTgtWrite_only (hG.of rfl) h4
    try clear_value s_5
    exact retrainWrite_only (hG.of rfl) h6
  · exact markClear_only (hG.of rfl) hS
  · refine State.onBit_only ?_ ?_
    · intro u7 hu8
      try beta_reduce
      exact prbsSnap_only (hG.of rfl) hu8
    · exact prbsEnWrite_only (hG.of rfl) hS
  · refine State.onBit_only ?_ ?_
    · intro u9 hu10
      try beta_reduce
      exact sflRetrainWrite_only (hG.of rfl) hu10
    · exact State.writeFields_only hk hS
  · extract_lets +onlyGivenNames -underBinder -merge keep_11
    extract_lets +onlyGivenNames -underBinder -merge s_12
    have h13 : Only G s0 s_12 := by
      subst s_12
      exact State.writeFields_only hk hS
    try clear_value s_12
    extract_lets +onlyGivenNames -underBinder -merge s_14
    have h15 : Only G s0 s_14 := by
      subst s_14
      refine Only.ite ?_ ?_
      · exact State.set_only (hG.of rfl) h13
      · exact h13
    try clear_value s_14
    refine State.onBit_only ?_ h15
    intro u16 hu17
    try beta_reduce
    exact laneReqWrite_only (hG.of rfl) hu17
  · exact txSlotWrite_only (hG.of rfl) hS
  · exact State.setReg_only hk hS
  · exact sflKeyCommit_only (hG.of rfl) hS
  · exact State.writeAnvil_only (hG.of rfl) hk hS

theorem State.writeReg_only {s : State} {k : RegKind} {i : Nat} {v : Word} {env : WriteEnv} (hG : Sub 0x7ffffffffffffffffffffffffffffff000000007fffffffffffffffffffffffffffffffffffffffffffffffffffffff G) (hk : Sub k.mask G) (hS : Only G s0 s) :
    Only G s0 (State.writeReg s k i v env) := by
  unfold State.writeReg
  refine Only.ite ?_ ?_
  · exact hS
  · exact State.writePort_only (hG.of rfl) hk hS

theorem State.refuseStore_only {s : State} {n : Nat} {a : Nat} {size : Nat} (hG : Sub 0x2000000000000000000000000000000000010000008000000000010000000000000000000000000000000000008 G) (hS : Only G s0 s) :
    Only G s0 (State.refuseStore s n a size).1 := by
  unfold State.refuseStore
  exact State.refuse_only (hG.of rfl) hS

theorem State.perform_only {s : State} {n : Nat} {a : Nat} {size : Nat} {k : RegKind} {i : Nat} {v : Word} {env : WriteEnv} (hG : Sub 0x7ffffffffffffffffffffffffffffff000000007fffffffffffffffffffffffffffffffffffffffffffffffffffffff G) (hk : Sub k.mask G) (hS : Only G s0 s) :
    Only G s0 (State.perform s n a size k i v env).1 := by
  unfold State.perform
  extract_lets +onlyGivenNames -underBinder -merge __src_1
  have h2 : Only G s0 __src_1 := by
    subst __src_1
    refine State.writeReg_only (hG.of rfl) hk ?_
    exact Only.set_accessing (hG.of rfl) hS
  try clear_value __src_1
  extract_lets +onlyGivenNames -underBinder -merge t_3
  have h4 : Only G s0 t_3 := by
    subst t_3
    exact Only.set_accessing (hG.of rfl) h2
  try clear_value t_3
  exact h4

theorem State.writeAccess_only {s : State} {n : Nat} {a : Nat} {size : Nat} {v : Nat} {env : WriteEnv} (hG : Sub 0x7ffffffffffffffffffffffffffffff000000007fffffffffffffffffffffffffffffffffffffffffffffffffffffff G) (hS : Only G s0 s) :
    Only G s0 (State.writeAccess s n a size v env).1 := by
  unfold State.writeAccess
  extract_lets +onlyGivenNames -underBinder -merge held_1
  extract_lets +onlyGivenNames -underBinder -merge __src_2
  extract_lets +onlyGivenNames -underBinder -merge s_3
  have h4 : Only G s0 s_3 := by
    subst s_3
    exact State.setSes_only (hG.of rfl) hS
  try clear_value s_3
  split
  · exact State.refuseStore_only (hG.of rfl) h4
  · split
    · exact State.refuseStore_only (hG.of rfl) h4
    · extract_lets +onlyGivenNames -underBinder -merge at'_5
      split
      · exact State.refuseStore_only (hG.of rfl) h4
      · change Only G s0 _
        refine State.hbmCount_only (hG.of rfl) ?_
        exact State.writeHbm_only (hG.of rfl) h4
    · extract_lets +onlyGivenNames -underBinder -merge __src_6
      split
      · exact State.perform_only (hG.of rfl) (Sub.kind (hG.of rfl)) h4
      · split
        · exact State.setSes_only (hG.of rfl) h4
        · split
          · exact State.perform_only (hG.of rfl) (Sub.kind (hG.of rfl)) h4
          · split
            · exact State.perform_only (hG.of rfl) (Sub.kind (hG.of rfl)) h4
            · split
              · exact State.refuseStore_only (hG.of rfl) h4
              · split
                · exact h4
                · exact State.perform_only (hG.of rfl) (Sub.kind (hG.of rfl)) h4

theorem State.writeAccesses_only {n size : Nat} {env : WriteEnv} {k a : Nat} {data : List Byte} {s : State} {done : Nat} (hG : Sub 0x7ffffffffffffffffffffffffffffff000000007fffffffffffffffffffffffffffffffffffffffffffffffffffffff G) (h : Only G s0 s) :
    Only G s0 (State.writeAccesses n size env k a data s done).1 := by
  induction k generalizing s a data done with
  | zero => exact h
  | succ k ih =>
    unfold State.writeAccesses
    have ha := State.writeAccess_only (n := n) (a := a) (size := size) (v := ofBytes (data.take (2 ^ size))) (env := env) (hG.of rfl) h
    split
    · rename_i t e
      rw [e] at ha
      split
      · exact ha
      · exact ih ha
    · rename_i t e
      rw [e] at ha
      exact ha
theorem regWrite_only {ses : Nat} {tag : Nat} {addr : Nat} {size : Nat} {count : Nat} {data : List Byte} {env : WriteEnv} {s : State} (hG : Sub 0x7ffffffffffffffffffffffffffffff000000007fffffffffffffffffffffffffffffffffffffffffffffffffffffff G) (hS : Only G s0 s) :
    Only G s0 (regWrite ses tag addr size count data env s) := by
  unfold regWrite
  refine State.message_only (hG.of rfl) ?_ hS
  intro u1 hu2
  try beta_reduce
  extract_lets +onlyGivenNames -underBinder -merge z_3
  refine Only.ite ?_ ?_
  · exact State.accessError_only (hG.of rfl) hu2
  · refine Only.ite ?_ ?_
    · exact State.reply_only (hG.of rfl) hu2
    · split
      · rename_i z5 z7 z8 e4
        have h6 : Only G s0 z5 := by
          have e0 := congrArg Prod.fst e4
          change _ = z5 at e0
          rw [← e0]
          exact State.writeAccesses_only (hG.of rfl) hu2
        refine Only.ite ?_ ?_
        · exact h6
        · refine Only.ite ?_ ?_
          · exact State.reply_only (hG.of rfl) h6
          · exact State.accessError_only (hG.of rfl) h6

theorem debugViewAccess_only {ses : Nat} {tag : Nat} {x : Nat} {size : Nat} {write : Bool} {value : Word} {s : State} (hG : Sub 0x7ffffffffffffffffffffffffffffff000000007fffffffffffffffffffffffffffffffffffffffffffffffffffffff G) (hS : Only G s0 s) :
    Only G s0 (debugViewAccess ses tag x size write value s) := by
  unfold debugViewAccess
  extract_lets +onlyGivenNames -underBinder -merge a_1
  refine Only.ite ?_ ?_
  · exact regWrite_only (hG.of rfl) hS
  · exact regRead_only (hG.of rfl) hS

theorem State.memRequest_only {s : State} {ses : Nat} {tag : Nat} {type : Nat} {asd : Word} {addr : Nat} {len : Nat} {write : Bool} {data : List Byte} (hG : Sub 0x1100000000000000000004000100000000000000000000000000001000000000000000000000000000000000000 G) (hS : Only G s0 s) :
    Only G s0 (State.memRequest s ses tag type asd addr len write data) := by
  unfold State.memRequest
  refine Only.ite ?_ ?_
  · exact State.reply_only (hG.of rfl) hS
  · refine Only.ite ?_ ?_
    · exact State.accessError_only (hG.of rfl) hS
    · split
      · exact State.accessError_only (hG.of rfl) hS
      · extract_lets +onlyGivenNames -underBinder -merge lens_1
        exact Only.set_decodeQ_memRuns (hG.of rfl) hS

theorem memRead_only {ses : Nat} {tag : Nat} {asd : Word} {addr : Nat} {len : Nat} {s : State} (hG : Sub 0x1100000000000000000004000100000000000000008000000000001000000000000000000000000000000000000 G) (hS : Only G s0 s) :
    Only G s0 (memRead ses tag asd addr len s) := by
  unfold memRead
  refine State.message_only (hG.of rfl) ?_ hS
  intro u1 hu2
  try beta_reduce
  exact State.memRequest_only (hG.of rfl) hu2

theorem memWrite_only {ses : Nat} {tag : Nat} {asd : Word} {addr : Nat} {data : List Byte} {s : State} (hG : Sub 0x1100000000000000000004000100000000000000008000000000001000000000000000000000000000000000000 G) (hS : Only G s0 s) :
    Only G s0 (memWrite ses tag asd addr data s) := by
  unfold memWrite
  refine State.message_only (hG.of rfl) ?_ hS
  intro u1 hu2
  try beta_reduce
  exact State.memRequest_only (hG.of rfl) hu2

end Sys2Proof.Machine
end

