-- ==== Sys2Proof/Laws/Changes.lean ====
section
/-! SUPPORT. From the frame of a meaning to the parts that a command may change. -/

namespace Sys2Proof.Machine

/-- The set of a list of parts. -/
def partsMask (l : List StatePart) : Nat :=
  match l with
  | [] => 0
  | p :: l => 2 ^ p.place ||| partsMask l

theorem StatePart.place_inj {p q : StatePart} (h : p.place = q.place) : p = q := by
  cases q with
  | reg k => exact StatePart.eq_reg h
  | field f => exact StatePart.eq_field h

theorem partsMask_testBit {l : List StatePart} {p : StatePart} (h : p ∉ l) : (partsMask l).testBit p.place = false := by
  induction l with
  | nil => simp [partsMask]
  | cons q l ih =>
    simp only [List.mem_cons, not_or] at h
    have hne : q.place ≠ p.place := fun e => h.1 (StatePart.place_inj e).symm
    simp [partsMask, ih h.2, hne]

/-- A part outside a list that covers the frame is as it was. -/
theorem Only.same {s t : State} {p : StatePart} {l : List StatePart} {M : Nat} (h : Only M s t) (hM : Sub M (partsMask l)) (hp : p ∉ l) : Same p s t := by
  apply h.2
  have h1 := partsMask_testBit hp
  have h2 := congrArg (fun x => x.testBit p.place) hM
  simpa [h1] using h2.symm

/-- A command that completes has had its meaning's effect. -/
theorem run_next {c : Bool} {t u : State} (h : run c t = .next u) : c = true ∧ t = u := by
  cases c with
  | true => exact ⟨rfl, by injection h⟩
  | false => simp [run] at h

theorem run_true {c : Bool} {t : State} (h : c = true) : run c t = .next t := by subst h; rfl

theorem Sub.refl (a : Nat) : Sub a a := Nat.and_self a

/-- A command whose meaning has a frame that its list covers is framed. -/
theorem framed_of {i : Instr} {f : State → State} {M : Nat} (he : ∀ s, exec i s = run i.wf (f s)) (hf : ∀ s, Only M s (f s))
    (hM : Sub M (partsMask i.changes)) : i.Framed := by
  intro s
  have hS : ∀ p, p ∉ i.changes → Same p s (f s) := fun p hp => (hf s).same hM hp
  refine ⟨fun h => ⟨f s, by rw [he, h]; rfl, hS⟩, fun t h p hp => ?_⟩
  rw [he] at h
  rw [← (run_next h).2]
  exact hS p hp

theorem run_only {c : Bool} {s t u : State} {M : Nat} (h : run c t = .next u) (ht : Only M s t) : Only M s u := (run_next h).2 ▸ ht

end Sys2Proof.Machine
end

