-- ==== Sys2Proof/Laws/PerInstr.lean ====
section
/-! SUPPORT. A property of every command as syntax, one lemma per constructor: the list of what the command may change never names the queue of waiting commands. -/

set_option maxRecDepth 4096

/-- No command names the queue among the parts of the state that it may change. -/
def Sys2Proof.Laws.QueueKept.Statement (i : Sys2Proof.Instr) : Prop := i.changes.contains (.field .pending) = false

theorem Sys2Proof.Laws.QueueKept.crossingFlitArrival (rt : _) (input : _) (ecc : _) (injected : _) : Sys2Proof.Laws.QueueKept.Statement (.crossingFlitArrival rt input ecc injected) := rfl

theorem Sys2Proof.Laws.QueueKept.drsErrPendClear (together : _) : Sys2Proof.Laws.QueueKept.Statement (.drsErrPendClear together) := rfl

theorem Sys2Proof.Laws.QueueKept.debugViewAccess (ses : _) (tag : _) (x : _) (size : _) (write : _) (value : _) : Sys2Proof.Laws.QueueKept.Statement (.debugViewAccess ses tag x size write value) := rfl

theorem Sys2Proof.Laws.QueueKept.hbmDbgWindowWrite (value : _) : Sys2Proof.Laws.QueueKept.Statement (.hbmDbgWindowWrite value) := rfl

theorem Sys2Proof.Laws.QueueKept.bringUpStart (p : _) (bitsK : _) (errs : _) : Sys2Proof.Laws.QueueKept.Statement (.bringUpStart p bitsK errs) := rfl

theorem Sys2Proof.Laws.QueueKept.trainingStageEnd (p : _) (passed : _) (partner : _) (lanes : _) : Sys2Proof.Laws.QueueKept.Statement (.trainingStageEnd p passed partner lanes) := rfl

theorem Sys2Proof.Laws.QueueKept.adminWrite (blk : _) (a0 : _) (a1 : _) : Sys2Proof.Laws.QueueKept.Statement (.adminWrite blk a0 a1) := rfl

theorem Sys2Proof.Laws.QueueKept.symbolWindowEnd (blk : _) (k : _) (symbols : _) : Sys2Proof.Laws.QueueKept.Statement (.symbolWindowEnd blk k symbols) := rfl

theorem Sys2Proof.Laws.QueueKept.laneMark (blk : _) (k : _) (reason : _) : Sys2Proof.Laws.QueueKept.Statement (.laneMark blk k reason) := rfl

theorem Sys2Proof.Laws.QueueKept.l0pRequestPartner (p : _) (width : _) : Sys2Proof.Laws.QueueKept.Statement (.l0pRequestPartner p width) := rfl

theorem Sys2Proof.Laws.QueueKept.l0pTgtWrite (blk : _) (h : _) (tgt : _) : Sys2Proof.Laws.QueueKept.Statement (.l0pTgtWrite blk h tgt) := rfl

theorem Sys2Proof.Laws.QueueKept.l0pChangeComplete (p : _) : Sys2Proof.Laws.QueueKept.Statement (.l0pChangeComplete p) := rfl

theorem Sys2Proof.Laws.QueueKept.retrainWrite (blk : _) (r0 : _) (r1 : _) : Sys2Proof.Laws.QueueKept.Statement (.retrainWrite blk r0 r1) := rfl

theorem Sys2Proof.Laws.QueueKept.recoveryEntry (p : _) : Sys2Proof.Laws.QueueKept.Statement (.recoveryEntry p) := rfl

theorem Sys2Proof.Laws.QueueKept.recoveryComplete (p : _) (spareOk : _) : Sys2Proof.Laws.QueueKept.Statement (.recoveryComplete p spareOk) := rfl

theorem Sys2Proof.Laws.QueueKept.markClear (blk : _) (mask : _) : Sys2Proof.Laws.QueueKept.Statement (.markClear blk mask) := rfl

theorem Sys2Proof.Laws.QueueKept.spareSelfCheck (blk : _) (ok : _) : Sys2Proof.Laws.QueueKept.Statement (.spareSelfCheck blk ok) := rfl

theorem Sys2Proof.Laws.QueueKept.prbsEnWrite (blk : _) (value : _) : Sys2Proof.Laws.QueueKept.Statement (.prbsEnWrite blk value) := rfl

theorem Sys2Proof.Laws.QueueKept.prbsSnap (blk : _) (bitsK : _) (errs : _) : Sys2Proof.Laws.QueueKept.Statement (.prbsSnap blk bitsK errs) := rfl

theorem Sys2Proof.Laws.QueueKept.prbsCheckerLock (blk : _) (k : _) (clean : _) : Sys2Proof.Laws.QueueKept.Statement (.prbsCheckerLock blk k clean) := rfl

theorem Sys2Proof.Laws.QueueKept.prbsCheckerLoseLock (blk : _) (k : _) (errors : _) (counted : _) : Sys2Proof.Laws.QueueKept.Statement (.prbsCheckerLoseLock blk k errors counted) := rfl

theorem Sys2Proof.Laws.QueueKept.dlUpLoss (p : _) (planned : _) (partials : _) : Sys2Proof.Laws.QueueKept.Statement (.dlUpLoss p planned partials) := rfl

theorem Sys2Proof.Laws.QueueKept.bindVppb (p : _) (len : _) (vppb : _) (target : _) (ld : _) : Sys2Proof.Laws.QueueKept.Statement (.bindVppb p len vppb target ld) := rfl

theorem Sys2Proof.Laws.QueueKept.bindComplete (v : _) : Sys2Proof.Laws.QueueKept.Statement (.bindComplete v) := rfl

theorem Sys2Proof.Laws.QueueKept.unbindVppb (p : _) (len : _) (vppb : _) (option : _) : Sys2Proof.Laws.QueueKept.Statement (.unbindVppb p len vppb option) := rfl

theorem Sys2Proof.Laws.QueueKept.unbindComplete (v : _) : Sys2Proof.Laws.QueueKept.Statement (.unbindComplete v) := rfl

theorem Sys2Proof.Laws.QueueKept.hotRemoveTimeout (v : _) : Sys2Proof.Laws.QueueKept.Statement (.hotRemoveTimeout v) := rfl

theorem Sys2Proof.Laws.QueueKept.hostPowerOff (v : _) : Sys2Proof.Laws.QueueKept.Statement (.hostPowerOff v) := rfl

theorem Sys2Proof.Laws.QueueKept.abortBackground (p : _) (len : _) : Sys2Proof.Laws.QueueKept.Statement (.abortBackground p len) := rfl

theorem Sys2Proof.Laws.QueueKept.identify (p : _) (len : _) : Sys2Proof.Laws.QueueKept.Statement (.identify p len) := rfl

theorem Sys2Proof.Laws.QueueKept.backgroundStatus (p : _) (len : _) : Sys2Proof.Laws.QueueKept.Statement (.backgroundStatus p len) := rfl

theorem Sys2Proof.Laws.QueueKept.getResponseLimit (p : _) (len : _) : Sys2Proof.Laws.QueueKept.Statement (.getResponseLimit p len) := rfl

theorem Sys2Proof.Laws.QueueKept.setResponseLimit (p : _) (len : _) (bytes : _) : Sys2Proof.Laws.QueueKept.Statement (.setResponseLimit p len bytes) := rfl

theorem Sys2Proof.Laws.QueueKept.getEventRecords (p : _) (len : _) : Sys2Proof.Laws.QueueKept.Statement (.getEventRecords p len) := rfl

theorem Sys2Proof.Laws.QueueKept.clearEventRecords (p : _) (len : _) (handles : _) : Sys2Proof.Laws.QueueKept.Statement (.clearEventRecords p len handles) := rfl

theorem Sys2Proof.Laws.QueueKept.getEventPolicy (p : _) (len : _) : Sys2Proof.Laws.QueueKept.Statement (.getEventPolicy p len) := rfl

theorem Sys2Proof.Laws.QueueKept.setEventPolicy (p : _) (len : _) (policy : _) : Sys2Proof.Laws.QueueKept.Statement (.setEventPolicy p len policy) := rfl

theorem Sys2Proof.Laws.QueueKept.getTimestamp (p : _) (len : _) : Sys2Proof.Laws.QueueKept.Statement (.getTimestamp p len) := rfl

theorem Sys2Proof.Laws.QueueKept.getSupportedLogs (p : _) (len : _) : Sys2Proof.Laws.QueueKept.Statement (.getSupportedLogs p len) := rfl

theorem Sys2Proof.Laws.QueueKept.getLog (p : _) (len : _) : Sys2Proof.Laws.QueueKept.Statement (.getLog p len) := rfl

theorem Sys2Proof.Laws.QueueKept.identifySwitch (p : _) (len : _) : Sys2Proof.Laws.QueueKept.Statement (.identifySwitch p len) := rfl

theorem Sys2Proof.Laws.QueueKept.getPortState (p : _) (len : _) (ports : _) : Sys2Proof.Laws.QueueKept.Statement (.getPortState p len ports) := rfl

theorem Sys2Proof.Laws.QueueKept.portControl (p : _) (len : _) (target : _) (op : _) : Sys2Proof.Laws.QueueKept.Statement (.portControl p len target op) := rfl

theorem Sys2Proof.Laws.QueueKept.ppbConfig (p : _) (len : _) (target : _) (request : _) (answer : _) : Sys2Proof.Laws.QueueKept.Statement (.ppbConfig p len target request answer) := rfl

theorem Sys2Proof.Laws.QueueKept.vcsInfo (p : _) (len : _) (vcs : _) : Sys2Proof.Laws.QueueKept.Statement (.vcsInfo p len vcs) := rfl

theorem Sys2Proof.Laws.QueueKept.generateAer (p : _) (len : _) (vppb : _) (error : _) : Sys2Proof.Laws.QueueKept.Statement (.generateAer p len vppb error) := rfl

theorem Sys2Proof.Laws.QueueKept.tunnel (p : _) (len : _) (target : _) (reduced : _) (request : _) (answer : _) : Sys2Proof.Laws.QueueKept.Statement (.tunnel p len target reduced request answer) := rfl

theorem Sys2Proof.Laws.QueueKept.ldConfig (p : _) (len : _) (target : _) (ld : _) (request : _) (answer : _) : Sys2Proof.Laws.QueueKept.Statement (.ldConfig p len target ld request answer) := rfl

theorem Sys2Proof.Laws.QueueKept.ldMemory (p : _) (len : _) (target : _) (ld : _) (request : _) (answer : _) : Sys2Proof.Laws.QueueKept.Statement (.ldMemory p len target ld request answer) := rfl

theorem Sys2Proof.Laws.QueueKept.dcdInfo (p : _) (len : _) : Sys2Proof.Laws.QueueKept.Statement (.dcdInfo p len) := rfl

theorem Sys2Proof.Laws.QueueKept.dcConfig (p : _) (len : _) (vcs : _) : Sys2Proof.Laws.QueueKept.Statement (.dcConfig p len vcs) := rfl

theorem Sys2Proof.Laws.QueueKept.setDcConfig (p : _) (len : _) (vcs : _) (region : _) (sanitize : _) : Sys2Proof.Laws.QueueKept.Statement (.setDcConfig p len vcs region sanitize) := rfl

theorem Sys2Proof.Laws.QueueKept.extentLists (p : _) (len : _) (vcs : _) : Sys2Proof.Laws.QueueKept.Statement (.extentLists p len vcs) := rfl

theorem Sys2Proof.Laws.QueueKept.dcAdd (p : _) (len : _) (vcs : _) (region : _) (extents : _) : Sys2Proof.Laws.QueueKept.Statement (.dcAdd p len vcs region extents) := rfl

theorem Sys2Proof.Laws.QueueKept.dcAddResponse (vcs : _) (region : _) (accepted : _) : Sys2Proof.Laws.QueueKept.Statement (.dcAddResponse vcs region accepted) := rfl

theorem Sys2Proof.Laws.QueueKept.dcAddTimeout (vcs : _) (region : _) : Sys2Proof.Laws.QueueKept.Statement (.dcAddTimeout vcs region) := rfl

theorem Sys2Proof.Laws.QueueKept.dcRelease (p : _) (len : _) (vcs : _) (region : _) (extents : _) : Sys2Proof.Laws.QueueKept.Statement (.dcRelease p len vcs region extents) := rfl

theorem Sys2Proof.Laws.QueueKept.extentReleaseComplete (entry : _) : Sys2Proof.Laws.QueueKept.Statement (.extentReleaseComplete entry) := rfl

theorem Sys2Proof.Laws.QueueKept.weuskOverCci (p : _) (len : _) (opcode : _) (type : _) : Sys2Proof.Laws.QueueKept.Statement (.weuskOverCci p len opcode type) := rfl

theorem Sys2Proof.Laws.QueueKept.unsupportedOpcode (p : _) (len : _) (opcode : _) : Sys2Proof.Laws.QueueKept.Statement (.unsupportedOpcode p len opcode) := rfl

theorem Sys2Proof.Laws.QueueKept.hdmDecoderCommit (vcs : _) (k : _) (d : _) : Sys2Proof.Laws.QueueKept.Statement (.hdmDecoderCommit vcs k d) := rfl

theorem Sys2Proof.Laws.QueueKept.biEnableWrite (vcs : _) (route : _) (on : _) : Sys2Proof.Laws.QueueKept.Statement (.biEnableWrite vcs route on) := rfl

theorem Sys2Proof.Laws.QueueKept.targetSurpriseRemoval (p : _) (lost : _) : Sys2Proof.Laws.QueueKept.Statement (.targetSurpriseRemoval p lost) := rfl

theorem Sys2Proof.Laws.QueueKept.ideIntegrityFailure (p : _) (lost : _) : Sys2Proof.Laws.QueueKept.Statement (.ideIntegrityFailure p lost) := rfl

theorem Sys2Proof.Laws.QueueKept.markerCandidate (blk : _) (k : _) (marker : _) (spacing : _) (inverted : _) : Sys2Proof.Laws.QueueKept.Statement (.markerCandidate blk k marker spacing inverted) := rfl

theorem Sys2Proof.Laws.QueueKept.markerCheck (blk : _) (k : _) (marker : _) (late : _) : Sys2Proof.Laws.QueueKept.Statement (.markerCheck blk k marker late) := rfl

theorem Sys2Proof.Laws.QueueKept.codewordDecode (blk : _) (k : _) (ok : _) (symbols : _) (levels : _) : Sys2Proof.Laws.QueueKept.Statement (.codewordDecode blk k ok symbols levels) := rfl

theorem Sys2Proof.Laws.QueueKept.calibrationDone (blk : _) (failed : _) : Sys2Proof.Laws.QueueKept.Statement (.calibrationDone blk failed) := rfl

theorem Sys2Proof.Laws.QueueKept.signalDetect (blk : _) (pairs : _) : Sys2Proof.Laws.QueueKept.Statement (.signalDetect blk pairs) := rfl

theorem Sys2Proof.Laws.QueueKept.trainBlockReceived (blk : _) (k : _) (x : _) : Sys2Proof.Laws.QueueKept.Statement (.trainBlockReceived blk k x) := rfl

theorem Sys2Proof.Laws.QueueKept.adaptDone (blk : _) : Sys2Proof.Laws.QueueKept.Statement (.adaptDone blk) := rfl

theorem Sys2Proof.Laws.QueueKept.adaptBoundExceeded (blk : _) : Sys2Proof.Laws.QueueKept.Statement (.adaptBoundExceeded blk) := rfl

theorem Sys2Proof.Laws.QueueKept.adaptPartnerDoneTimeout (blk : _) : Sys2Proof.Laws.QueueKept.Statement (.adaptPartnerDoneTimeout blk) := rfl

theorem Sys2Proof.Laws.QueueKept.deskewRelease (blk : _) (skews : _) : Sys2Proof.Laws.QueueKept.Statement (.deskewRelease blk skews) := rfl

theorem Sys2Proof.Laws.QueueKept.capBlockReceived (blk : _) (bits : _) : Sys2Proof.Laws.QueueKept.Statement (.capBlockReceived blk bits) := rfl

theorem Sys2Proof.Laws.QueueKept.capxComplete (blk : _) (more : _) : Sys2Proof.Laws.QueueKept.Statement (.capxComplete blk more) := rfl

theorem Sys2Proof.Laws.QueueKept.capxTimeout (blk : _) : Sys2Proof.Laws.QueueKept.Statement (.capxTimeout blk) := rfl

theorem Sys2Proof.Laws.QueueKept.trainingFailBackoffEnd (blk : _) : Sys2Proof.Laws.QueueKept.Statement (.trainingFailBackoffEnd blk) := rfl

theorem Sys2Proof.Laws.QueueKept.checkUnitReceived (blk : _) (blocks : _) : Sys2Proof.Laws.QueueKept.Statement (.checkUnitReceived blk blocks) := rfl

theorem Sys2Proof.Laws.QueueKept.partnerRetrainDetect (blk : _) (seen : _) : Sys2Proof.Laws.QueueKept.Statement (.partnerRetrainDetect blk seen) := rfl

theorem Sys2Proof.Laws.QueueKept.sflRetrainWrite (blk : _) : Sys2Proof.Laws.QueueKept.Statement (.sflRetrainWrite blk) := rfl

theorem Sys2Proof.Laws.QueueKept.dataUnitSend (blk : _) : Sys2Proof.Laws.QueueKept.Statement (.dataUnitSend blk) := rfl

theorem Sys2Proof.Laws.QueueKept.flowUnitReceived (blk : _) (blocks : _) : Sys2Proof.Laws.QueueKept.Statement (.flowUnitReceived blk blocks) := rfl

theorem Sys2Proof.Laws.QueueKept.ackReceived (blk : _) (aseq : _) : Sys2Proof.Laws.QueueKept.Statement (.ackReceived blk aseq) := rfl

theorem Sys2Proof.Laws.QueueKept.nakReceived (blk : _) (aseq : _) : Sys2Proof.Laws.QueueKept.Statement (.nakReceived blk aseq) := rfl

theorem Sys2Proof.Laws.QueueKept.replayTimeout (blk : _) : Sys2Proof.Laws.QueueKept.Statement (.replayTimeout blk) := rfl

theorem Sys2Proof.Laws.QueueKept.replayUnitResend (blk : _) : Sys2Proof.Laws.QueueKept.Statement (.replayUnitResend blk) := rfl

theorem Sys2Proof.Laws.QueueKept.replayMaxExceeded (blk : _) : Sys2Proof.Laws.QueueKept.Statement (.replayMaxExceeded blk) := rfl

theorem Sys2Proof.Laws.QueueKept.ackTimer (blk : _) : Sys2Proof.Laws.QueueKept.Statement (.ackTimer blk) := rfl

theorem Sys2Proof.Laws.QueueKept.nakResendTimer (blk : _) : Sys2Proof.Laws.QueueKept.Statement (.nakResendTimer blk) := rfl

theorem Sys2Proof.Laws.QueueKept.xoffUpdate (blk : _) (v : _) : Sys2Proof.Laws.QueueKept.Statement (.xoffUpdate blk v) := rfl

theorem Sys2Proof.Laws.QueueKept.timingSlot (blk : _) : Sys2Proof.Laws.QueueKept.Statement (.timingSlot blk) := rfl

theorem Sys2Proof.Laws.QueueKept.timingUnitReceived (blk : _) (blocks : _) (arr : _) : Sys2Proof.Laws.QueueKept.Statement (.timingUnitReceived blk blocks arr) := rfl

theorem Sys2Proof.Laws.QueueKept.laneSet (blk : _) (received : _) (bits : _) (copies : _) : Sys2Proof.Laws.QueueKept.Statement (.laneSet blk received bits copies) := rfl

theorem Sys2Proof.Laws.QueueKept.laneAck (blk : _) (bits : _) (copies : _) : Sys2Proof.Laws.QueueKept.Statement (.laneAck blk bits copies) := rfl

theorem Sys2Proof.Laws.QueueKept.laneNak (blk : _) (bits : _) (copies : _) : Sys2Proof.Laws.QueueKept.Statement (.laneNak blk bits copies) := rfl

theorem Sys2Proof.Laws.QueueKept.switchLanes (blk : _) (received : _) (bits : _) (copies : _) : Sys2Proof.Laws.QueueKept.Statement (.switchLanes blk received bits copies) := rfl

theorem Sys2Proof.Laws.QueueKept.keysync (blk : _) (bits : _) (copies : _) : Sys2Proof.Laws.QueueKept.Statement (.keysync blk bits copies) := rfl

theorem Sys2Proof.Laws.QueueKept.activeLaneLockLoss (blk : _) (lane : _) : Sys2Proof.Laws.QueueKept.Statement (.activeLaneLockLoss blk lane) := rfl

theorem Sys2Proof.Laws.QueueKept.laneReqWrite (blk : _) : Sys2Proof.Laws.QueueKept.Statement (.laneReqWrite blk) := rfl

theorem Sys2Proof.Laws.QueueKept.sflLinkDown (blk : _) : Sys2Proof.Laws.QueueKept.Statement (.sflLinkDown blk) := rfl

theorem Sys2Proof.Laws.QueueKept.downTmoExpiry (blk : _) : Sys2Proof.Laws.QueueKept.Statement (.downTmoExpiry blk) := rfl

theorem Sys2Proof.Laws.QueueKept.sflKeyCommit (blk : _) (value : _) : Sys2Proof.Laws.QueueKept.Statement (.sflKeyCommit blk value) := rfl

theorem Sys2Proof.Laws.QueueKept.txSlotWrite (blk : _) (slot : _) : Sys2Proof.Laws.QueueKept.Statement (.txSlotWrite blk slot) := rfl

theorem Sys2Proof.Laws.QueueKept.keyCountLimit (blk : _) (slot : _) : Sys2Proof.Laws.QueueKept.Statement (.keyCountLimit blk slot) := rfl

theorem Sys2Proof.Laws.QueueKept.packetInject (n : _) (src : _) (p : _) : Sys2Proof.Laws.QueueKept.Statement (.packetInject n src p) := rfl

theorem Sys2Proof.Laws.QueueKept.routeEntryWrite (n : _) (d : _) (a : _) (value : _) : Sys2Proof.Laws.QueueKept.Statement (.routeEntryWrite n d a value) := rfl

theorem Sys2Proof.Laws.QueueKept.routeChangeResume (n : _) (d : _) : Sys2Proof.Laws.QueueKept.Statement (.routeChangeResume n d) := rfl

theorem Sys2Proof.Laws.QueueKept.flitSwitch (rt : _) (out : _) (ecc : _) (wire : _) : Sys2Proof.Laws.QueueKept.Statement (.flitSwitch rt out ecc wire) := rfl

theorem Sys2Proof.Laws.QueueKept.linkWireSpare (rt : _) (d : _) (wire : _) : Sys2Proof.Laws.QueueKept.Statement (.linkWireSpare rt d wire) := rfl

theorem Sys2Proof.Laws.QueueKept.voqInject (n : _) : Sys2Proof.Laws.QueueKept.Statement (.voqInject n) := rfl

theorem Sys2Proof.Laws.QueueKept.creditRequest (n : _) (e : _) : Sys2Proof.Laws.QueueKept.Statement (.creditRequest n e) := rfl

theorem Sys2Proof.Laws.QueueKept.creditGrant (e : _) : Sys2Proof.Laws.QueueKept.Statement (.creditGrant e) := rfl

theorem Sys2Proof.Laws.QueueKept.creditReturn (e : _) (n : _) : Sys2Proof.Laws.QueueKept.Statement (.creditReturn e n) := rfl

theorem Sys2Proof.Laws.QueueKept.sharedGrantRelease (n : _) (e : _) : Sys2Proof.Laws.QueueKept.Statement (.sharedGrantRelease n e) := rfl

theorem Sys2Proof.Laws.QueueKept.egressPacketSend (p : _) : Sys2Proof.Laws.QueueKept.Statement (.egressPacketSend p) := rfl

theorem Sys2Proof.Laws.QueueKept.messageToDecode (p : _) (crcOk : _) (m : _) : Sys2Proof.Laws.QueueKept.Statement (.messageToDecode p crcOk m) := rfl

theorem Sys2Proof.Laws.QueueKept.fabricHeaderRebuild (blk : _) (d : _) : Sys2Proof.Laws.QueueKept.Statement (.fabricHeaderRebuild blk d) := rfl

theorem Sys2Proof.Laws.QueueKept.quenchTrigger (n : _) (code : _) : Sys2Proof.Laws.QueueKept.Statement (.quenchTrigger n code) := rfl

theorem Sys2Proof.Laws.QueueKept.quenchNoticeArrival (n : _) (target : _) (code : _) : Sys2Proof.Laws.QueueKept.Statement (.quenchNoticeArrival n target code) := rfl

theorem Sys2Proof.Laws.QueueKept.quenchSet (r : _) (n : _) : Sys2Proof.Laws.QueueKept.Statement (.quenchSet r n) := rfl

theorem Sys2Proof.Laws.QueueKept.quenchClear (r : _) (n : _) : Sys2Proof.Laws.QueueKept.Statement (.quenchClear r n) := rfl

theorem Sys2Proof.Laws.QueueKept.slagAnswer (n : _) : Sys2Proof.Laws.QueueKept.Statement (.slagAnswer n) := rfl

theorem Sys2Proof.Laws.QueueKept.unquench (n : _) : Sys2Proof.Laws.QueueKept.Statement (.unquench n) := rfl

theorem Sys2Proof.Laws.QueueKept.unquenchNoticeArrival (n : _) (target : _) : Sys2Proof.Laws.QueueKept.Statement (.unquenchNoticeArrival n target) := rfl

theorem Sys2Proof.Laws.QueueKept.mirrorCopy (m : _) (port : _) (egress : _) (poison : _) (flow : _) (msg : _) : Sys2Proof.Laws.QueueKept.Statement (.mirrorCopy m port egress poison flow msg) := rfl

theorem Sys2Proof.Laws.QueueKept.mirrorRecordWrite (m : _) : Sys2Proof.Laws.QueueKept.Statement (.mirrorRecordWrite m) := rfl

theorem Sys2Proof.Laws.QueueKept.probeMatch (rt : _) (input : _) (p : _) : Sys2Proof.Laws.QueueKept.Statement (.probeMatch rt input p) := rfl

theorem Sys2Proof.Laws.QueueKept.probeSnap (rt : _) : Sys2Proof.Laws.QueueKept.Statement (.probeSnap rt) := rfl

theorem Sys2Proof.Laws.QueueKept.mirrorEnWrite (m : _) (value : _) : Sys2Proof.Laws.QueueKept.Statement (.mirrorEnWrite m value) := rfl

theorem Sys2Proof.Laws.QueueKept.requestColour (q : _) : Sys2Proof.Laws.QueueKept.Statement (.requestColour q) := rfl

theorem Sys2Proof.Laws.QueueKept.holdQueueRetest (c : _) : Sys2Proof.Laws.QueueKept.Statement (.holdQueueRetest c) := rfl

theorem Sys2Proof.Laws.QueueKept.holdQueueFull (c : _) : Sys2Proof.Laws.QueueKept.Statement (.holdQueueFull c) := rfl

theorem Sys2Proof.Laws.QueueKept.holdBoundExpiry (c : _) : Sys2Proof.Laws.QueueKept.Statement (.holdBoundExpiry c) := rfl

theorem Sys2Proof.Laws.QueueKept.holdBoundWrite (r : _) (value : _) : Sys2Proof.Laws.QueueKept.Statement (.holdBoundWrite r value) := rfl

theorem Sys2Proof.Laws.QueueKept.contextRewrite (c : _) (wordNo : _) (value : _) : Sys2Proof.Laws.QueueKept.Statement (.contextRewrite c wordNo value) := rfl

theorem Sys2Proof.Laws.QueueKept.shaperRewrite (p : _) (queue : _) (wordNo : _) (value : _) : Sys2Proof.Laws.QueueKept.Statement (.shaperRewrite p queue wordNo value) := rfl

theorem Sys2Proof.Laws.QueueKept.cmarkReceived (p : _) (param : _) (c : _) : Sys2Proof.Laws.QueueKept.Statement (.cmarkReceived p param c) := rfl

theorem Sys2Proof.Laws.QueueKept.bindFlow (r : _) (index : _) (feid : _) (ld : _) : Sys2Proof.Laws.QueueKept.Statement (.bindFlow r index feid ld) := rfl

theorem Sys2Proof.Laws.QueueKept.unbindFlow (r : _) (feid : _) (ld : _) : Sys2Proof.Laws.QueueKept.Statement (.unbindFlow r feid ld) := rfl

theorem Sys2Proof.Laws.QueueKept.lookupFlow (r : _) (feid : _) (ld : _) : Sys2Proof.Laws.QueueKept.Statement (.lookupFlow r feid ld) := rfl

theorem Sys2Proof.Laws.QueueKept.bindCommandComplete (r : _) : Sys2Proof.Laws.QueueKept.Statement (.bindCommandComplete r) := rfl

theorem Sys2Proof.Laws.QueueKept.autoBind (r : _) (feid : _) (ld : _) : Sys2Proof.Laws.QueueKept.Statement (.autoBind r feid ld) := rfl

theorem Sys2Proof.Laws.QueueKept.requestResolve (q : _) : Sys2Proof.Laws.QueueKept.Statement (.requestResolve q) := rfl

theorem Sys2Proof.Laws.QueueKept.acuErrPendClear (r : _) : Sys2Proof.Laws.QueueKept.Statement (.acuErrPendClear r) := rfl

theorem Sys2Proof.Laws.QueueKept.l2CacheFill (r : _) (entry : _) : Sys2Proof.Laws.QueueKept.Statement (.l2CacheFill r entry) := rfl

theorem Sys2Proof.Laws.QueueKept.acuWindowWrite (win : _) (wordNo : _) (value : _) : Sys2Proof.Laws.QueueKept.Statement (.acuWindowWrite win wordNo value) := rfl

theorem Sys2Proof.Laws.QueueKept.l1EntryWrite (entry : _) (wordNo : _) (value : _) : Sys2Proof.Laws.QueueKept.Statement (.l1EntryWrite entry wordNo value) := rfl

theorem Sys2Proof.Laws.QueueKept.duplicateMismatch (r : _) (t : _) (entry : _) (copy : _) (flip : _) (ecc : _) : Sys2Proof.Laws.QueueKept.Statement (.duplicateMismatch r t entry copy flip ecc) := rfl

theorem Sys2Proof.Laws.QueueKept.duplicateRepair (r : _) (t : _) (entry : _) : Sys2Proof.Laws.QueueKept.Statement (.duplicateRepair r t entry) := rfl

theorem Sys2Proof.Laws.QueueKept.tableScrubStep (r : _) : Sys2Proof.Laws.QueueKept.Statement (.tableScrubStep r) := rfl

theorem Sys2Proof.Laws.QueueKept.fracture (idx : _) : Sys2Proof.Laws.QueueKept.Statement (.fracture idx) := rfl

theorem Sys2Proof.Laws.QueueKept.unfracture (idx : _) : Sys2Proof.Laws.QueueKept.Statement (.unfracture idx) := rfl

theorem Sys2Proof.Laws.QueueKept.writeL2 (idx : _) (gran : _) : Sys2Proof.Laws.QueueKept.Statement (.writeL2 idx gran) := rfl

theorem Sys2Proof.Laws.QueueKept.readL2 (idx : _) (gran : _) : Sys2Proof.Laws.QueueKept.Statement (.readL2 idx gran) := rfl

theorem Sys2Proof.Laws.QueueKept.remapCommandComplete : Sys2Proof.Laws.QueueKept.Statement (.remapCommandComplete) := rfl

theorem Sys2Proof.Laws.QueueKept.hearthRequestArrival (q : _) : Sys2Proof.Laws.QueueKept.Statement (.hearthRequestArrival q) := rfl

theorem Sys2Proof.Laws.QueueKept.transactionStart (line : _) : Sys2Proof.Laws.QueueKept.Statement (.transactionStart line) := rfl

theorem Sys2Proof.Laws.QueueKept.directoryCacheMiss (line : _) : Sys2Proof.Laws.QueueKept.Statement (.directoryCacheMiss line) := rfl

theorem Sys2Proof.Laws.QueueKept.holdExpiry (line : _) (agent : _) : Sys2Proof.Laws.QueueKept.Statement (.holdExpiry line agent) := rfl

theorem Sys2Proof.Laws.QueueKept.bisnpSend (line : _) (agent : _) : Sys2Proof.Laws.QueueKept.Statement (.bisnpSend line agent) := rfl

theorem Sys2Proof.Laws.QueueKept.birspReceived (line : _) (agent : _) (rsp : _) : Sys2Proof.Laws.QueueKept.Statement (.birspReceived line agent rsp) := rfl

theorem Sys2Proof.Laws.QueueKept.snpDeadReceived (line : _) (agent : _) : Sys2Proof.Laws.QueueKept.Statement (.snpDeadReceived line agent) := rfl

theorem Sys2Proof.Laws.QueueKept.bisnpTimeout (line : _) (agent : _) : Sys2Proof.Laws.QueueKept.Statement (.bisnpTimeout line agent) := rfl

theorem Sys2Proof.Laws.QueueKept.writebackReceived (q : _) : Sys2Proof.Laws.QueueKept.Statement (.writebackReceived q) := rfl

theorem Sys2Proof.Laws.QueueKept.biconflict (line : _) (agent : _) (tag : _) : Sys2Proof.Laws.QueueKept.Statement (.biconflict line agent tag) := rfl

theorem Sys2Proof.Laws.QueueKept.expanderResponse (line : _) (data : _) (poison : _) (slag : _) : Sys2Proof.Laws.QueueKept.Statement (.expanderResponse line data poison slag) := rfl

theorem Sys2Proof.Laws.QueueKept.transactionComplete (line : _) : Sys2Proof.Laws.QueueKept.Statement (.transactionComplete line) := rfl

theorem Sys2Proof.Laws.QueueKept.caidRequest (vcs : _) : Sys2Proof.Laws.QueueKept.Statement (.caidRequest vcs) := rfl

theorem Sys2Proof.Laws.QueueKept.caidInstall (agent : _) (feid : _) : Sys2Proof.Laws.QueueKept.Statement (.caidInstall agent feid) := rfl

theorem Sys2Proof.Laws.QueueKept.caidRequestTimeout (vcs : _) : Sys2Proof.Laws.QueueKept.Statement (.caidRequestTimeout vcs) := rfl

theorem Sys2Proof.Laws.QueueKept.agentRemoval (agent : _) : Sys2Proof.Laws.QueueKept.Statement (.agentRemoval agent) := rfl

theorem Sys2Proof.Laws.QueueKept.directorySweepComplete (agent : _) : Sys2Proof.Laws.QueueKept.Statement (.directorySweepComplete agent) := rfl

theorem Sys2Proof.Laws.QueueKept.readDir (line : _) : Sys2Proof.Laws.QueueKept.Statement (.readDir line) := rfl

theorem Sys2Proof.Laws.QueueKept.hrtCfgWrite (value : _) : Sys2Proof.Laws.QueueKept.Statement (.hrtCfgWrite value) := rfl

theorem Sys2Proof.Laws.QueueKept.poisonLogClear (n : _) : Sys2Proof.Laws.QueueKept.Statement (.poisonLogClear n) := rfl

theorem Sys2Proof.Laws.QueueKept.hotnessNotice (r : _) (credit : _) : Sys2Proof.Laws.QueueKept.Statement (.hotnessNotice r credit) := rfl

theorem Sys2Proof.Laws.QueueKept.hotnessCoalesceFlush (r : _) (granule : _) : Sys2Proof.Laws.QueueKept.Statement (.hotnessCoalesceFlush r granule) := rfl

theorem Sys2Proof.Laws.QueueKept.hotnessEpochChange : Sys2Proof.Laws.QueueKept.Statement (.hotnessEpochChange) := rfl

theorem Sys2Proof.Laws.QueueKept.hotnessFlushComplete : Sys2Proof.Laws.QueueKept.Statement (.hotnessFlushComplete) := rfl

theorem Sys2Proof.Laws.QueueKept.hotEnWrite (value : _) : Sys2Proof.Laws.QueueKept.Statement (.hotEnWrite value) := rfl

theorem Sys2Proof.Laws.QueueKept.migrate (e : _) : Sys2Proof.Laws.QueueKept.Statement (.migrate e) := rfl

theorem Sys2Proof.Laws.QueueKept.drainComplete (pt : _) : Sys2Proof.Laws.QueueKept.Statement (.drainComplete pt) := rfl

theorem Sys2Proof.Laws.QueueKept.copyPassComplete (k : _) : Sys2Proof.Laws.QueueKept.Statement (.copyPassComplete k) := rfl

theorem Sys2Proof.Laws.QueueKept.migrationHold (k : _) : Sys2Proof.Laws.QueueKept.Statement (.migrationHold k) := rfl

theorem Sys2Proof.Laws.QueueKept.holdAbort (k : _) : Sys2Proof.Laws.QueueKept.Statement (.holdAbort k) := rfl

theorem Sys2Proof.Laws.QueueKept.migrationSwap (k : _) : Sys2Proof.Laws.QueueKept.Statement (.migrationSwap k) := rfl

theorem Sys2Proof.Laws.QueueKept.migrationFinish (k : _) : Sys2Proof.Laws.QueueKept.Statement (.migrationFinish k) := rfl

theorem Sys2Proof.Laws.QueueKept.migrationLoss (k : _) (what : _) : Sys2Proof.Laws.QueueKept.Statement (.migrationLoss k what) := rfl

theorem Sys2Proof.Laws.QueueKept.migCfgWrite (value : _) : Sys2Proof.Laws.QueueKept.Statement (.migCfgWrite value) := rfl

theorem Sys2Proof.Laws.QueueKept.jobDispatch (c : _) : Sys2Proof.Laws.QueueKept.Statement (.jobDispatch c) := rfl

theorem Sys2Proof.Laws.QueueKept.dmLd (e : _) (rd : _) (asr : _) (size : _) (addr : _) (off : _) : Sys2Proof.Laws.QueueKept.Statement (.dmLd e rd asr size addr off) := rfl

theorem Sys2Proof.Laws.QueueKept.dmSt (e : _) (rd : _) (asr : _) (size : _) (addr : _) (off : _) : Sys2Proof.Laws.QueueKept.Statement (.dmSt e rd asr size addr off) := rfl

theorem Sys2Proof.Laws.QueueKept.dmCopy (e : _) (rd : _) (asr : _) (size : _) (src : _) (dst : _) : Sys2Proof.Laws.QueueKept.Statement (.dmCopy e rd asr size src dst) := rfl

theorem Sys2Proof.Laws.QueueKept.dmFill (e : _) (rd : _) (asr : _) (size : _) (addr : _) (pattern : _) : Sys2Proof.Laws.QueueKept.Statement (.dmFill e rd asr size addr pattern) := rfl

theorem Sys2Proof.Laws.QueueKept.dmAmo (e : _) (rd : _) (asr : _) (f : _) (addr : _) (operand : _) : Sys2Proof.Laws.QueueKept.Statement (.dmAmo e rd asr f addr operand) := rfl

theorem Sys2Proof.Laws.QueueKept.dmWait (e : _) (rd : _) (ticket : _) : Sys2Proof.Laws.QueueKept.Statement (.dmWait e rd ticket) := rfl

theorem Sys2Proof.Laws.QueueKept.dmFence (e : _) (scope : _) : Sys2Proof.Laws.QueueKept.Statement (.dmFence e scope) := rfl

theorem Sys2Proof.Laws.QueueKept.dmCrc (e : _) (rd : _) (off : _) (length : _) : Sys2Proof.Laws.QueueKept.Statement (.dmCrc e rd off length) := rfl

theorem Sys2Proof.Laws.QueueKept.jobDone (e : _) (status : _) (off : _) : Sys2Proof.Laws.QueueKept.Statement (.jobDone e status off) := rfl

theorem Sys2Proof.Laws.QueueKept.jobSubmit (e : _) (rd : _) (off : _) (target : _) : Sys2Proof.Laws.QueueKept.Statement (.jobSubmit e rd off target) := rfl

theorem Sys2Proof.Laws.QueueKept.coprocessorCommit (e : _) : Sys2Proof.Laws.QueueKept.Statement (.coprocessorCommit e) := rfl

theorem Sys2Proof.Laws.QueueKept.speculativeReadDefer (e : _) (ticket : _) : Sys2Proof.Laws.QueueKept.Statement (.speculativeReadDefer e ticket) := rfl

theorem Sys2Proof.Laws.QueueKept.coprocessorSquash (e : _) (kept : _) : Sys2Proof.Laws.QueueKept.Statement (.coprocessorSquash e kept) := rfl

theorem Sys2Proof.Laws.QueueKept.farResponse (e : _) (tag : _) (status : _) (slag : _) (data : _) : Sys2Proof.Laws.QueueKept.Statement (.farResponse e tag status slag data) := rfl

theorem Sys2Proof.Laws.QueueKept.tngSubGo (c : _) : Sys2Proof.Laws.QueueKept.Statement (.tngSubGo c) := rfl

theorem Sys2Proof.Laws.QueueKept.deviceJobSubmit (c : _) (fill : _) (arg : _) : Sys2Proof.Laws.QueueKept.Statement (.deviceJobSubmit c fill arg) := rfl

theorem Sys2Proof.Laws.QueueKept.jobCopy (e : _) : Sys2Proof.Laws.QueueKept.Statement (.jobCopy e) := rfl

theorem Sys2Proof.Laws.QueueKept.jobFill (e : _) : Sys2Proof.Laws.QueueKept.Statement (.jobFill e) := rfl

theorem Sys2Proof.Laws.QueueKept.jobCrc (e : _) : Sys2Proof.Laws.QueueKept.Statement (.jobCrc e) := rfl

theorem Sys2Proof.Laws.QueueKept.jobCompare (e : _) : Sys2Proof.Laws.QueueKept.Statement (.jobCompare e) := rfl

theorem Sys2Proof.Laws.QueueKept.dirSweep (e : _) : Sys2Proof.Laws.QueueKept.Statement (.dirSweep e) := rfl

theorem Sys2Proof.Laws.QueueKept.telem (e : _) : Sys2Proof.Laws.QueueKept.Statement (.telem e) := rfl

theorem Sys2Proof.Laws.QueueKept.telemSnapshot (e : _) : Sys2Proof.Laws.QueueKept.Statement (.telemSnapshot e) := rfl

theorem Sys2Proof.Laws.QueueKept.kernelJob (e : _) (c : _) : Sys2Proof.Laws.QueueKept.Statement (.kernelJob e c) := rfl

theorem Sys2Proof.Laws.QueueKept.kernelFault (e : _) (mcause : _) (mtval : _) : Sys2Proof.Laws.QueueKept.Statement (.kernelFault e mcause mtval) := rfl

theorem Sys2Proof.Laws.QueueKept.completionRecordWrite (e : _) : Sys2Proof.Laws.QueueKept.Statement (.completionRecordWrite e) := rfl

theorem Sys2Proof.Laws.QueueKept.cqHeadWrite (c : _) (value : _) : Sys2Proof.Laws.QueueKept.Statement (.cqHeadWrite c value) := rfl

theorem Sys2Proof.Laws.QueueKept.tngCancelGo (c : _) (job : _) : Sys2Proof.Laws.QueueKept.Statement (.tngCancelGo c job) := rfl

theorem Sys2Proof.Laws.QueueKept.engineReset (e : _) (cause : _) : Sys2Proof.Laws.QueueKept.Statement (.engineReset e cause) := rfl

theorem Sys2Proof.Laws.QueueKept.engineWatchdog (e : _) : Sys2Proof.Laws.QueueKept.Statement (.engineWatchdog e) := rfl

theorem Sys2Proof.Laws.QueueKept.engineLoadComplete (e : _) (program : _) : Sys2Proof.Laws.QueueKept.Statement (.engineLoadComplete e program) := rfl

theorem Sys2Proof.Laws.QueueKept.programReload (e : _) : Sys2Proof.Laws.QueueKept.Statement (.programReload e) := rfl

theorem Sys2Proof.Laws.QueueKept.joinFabric (m : _) : Sys2Proof.Laws.QueueKept.Statement (.joinFabric m) := rfl

theorem Sys2Proof.Laws.QueueKept.joinRefuse (cause : _) : Sys2Proof.Laws.QueueKept.Statement (.joinRefuse cause) := rfl

theorem Sys2Proof.Laws.QueueKept.distPrep (sender : _) (epoch : _) (g : _) : Sys2Proof.Laws.QueueKept.Statement (.distPrep sender epoch g) := rfl

theorem Sys2Proof.Laws.QueueKept.distCommit (epoch : _) (gen : _) : Sys2Proof.Laws.QueueKept.Statement (.distCommit epoch gen) := rfl

theorem Sys2Proof.Laws.QueueKept.distAbort (epoch : _) (gen : _) : Sys2Proof.Laws.QueueKept.Statement (.distAbort epoch gen) := rfl

theorem Sys2Proof.Laws.QueueKept.ackFabric (chip : _) (type : _) (gen : _) (highest : _) : Sys2Proof.Laws.QueueKept.Statement (.ackFabric chip type gen highest) := rfl

theorem Sys2Proof.Laws.QueueKept.resync (chip : _) (gen : _) : Sys2Proof.Laws.QueueKept.Statement (.resync chip gen) := rfl

theorem Sys2Proof.Laws.QueueKept.standbyAckTimeout : Sys2Proof.Laws.QueueKept.Statement (.standbyAckTimeout) := rfl

theorem Sys2Proof.Laws.QueueKept.announceSend : Sys2Proof.Laws.QueueKept.Statement (.announceSend) := rfl

theorem Sys2Proof.Laws.QueueKept.announce (m : _) : Sys2Proof.Laws.QueueKept.Statement (.announce m) := rfl

theorem Sys2Proof.Laws.QueueKept.leaseLapse : Sys2Proof.Laws.QueueKept.Statement (.leaseLapse) := rfl

theorem Sys2Proof.Laws.QueueKept.voteReq (chip : _) (proposed : _) : Sys2Proof.Laws.QueueKept.Statement (.voteReq chip proposed) := rfl

theorem Sys2Proof.Laws.QueueKept.vote (chip : _) (proposed : _) (highest : _) : Sys2Proof.Laws.QueueKept.Statement (.vote chip proposed highest) := rfl

theorem Sys2Proof.Laws.QueueKept.managerIsolated : Sys2Proof.Laws.QueueKept.Statement (.managerIsolated) := rfl

theorem Sys2Proof.Laws.QueueKept.managerListenEnd : Sys2Proof.Laws.QueueKept.Statement (.managerListenEnd) := rfl

theorem Sys2Proof.Laws.QueueKept.handoverWrite (value : _) : Sys2Proof.Laws.QueueKept.Statement (.handoverWrite value) := rfl

theorem Sys2Proof.Laws.QueueKept.handoverMessage (epoch : _) (gen : _) : Sys2Proof.Laws.QueueKept.Statement (.handoverMessage epoch gen) := rfl

theorem Sys2Proof.Laws.QueueKept.linkReport (r : _) (tables : _) : Sys2Proof.Laws.QueueKept.Statement (.linkReport r tables) := rfl

theorem Sys2Proof.Laws.QueueKept.chipUnreachable (chip : _) : Sys2Proof.Laws.QueueKept.Statement (.chipUnreachable chip) := rfl

theorem Sys2Proof.Laws.QueueKept.fabricForward (blk : _) (origin : _) (f : _) : Sys2Proof.Laws.QueueKept.Statement (.fabricForward blk origin f) := rfl

theorem Sys2Proof.Laws.QueueKept.ttlExpired (blk : _) (f : _) : Sys2Proof.Laws.QueueKept.Statement (.ttlExpired blk f) := rfl

theorem Sys2Proof.Laws.QueueKept.fabricLinkLossReroute (p : _) (drained : _) : Sys2Proof.Laws.QueueKept.Statement (.fabricLinkLossReroute p drained) := rfl

theorem Sys2Proof.Laws.QueueKept.mixedRevisionRetrain (blk : _) (partnerOk : _) : Sys2Proof.Laws.QueueKept.Statement (.mixedRevisionRetrain blk partnerOk) := rfl

theorem Sys2Proof.Laws.QueueKept.mixedConditionChange : Sys2Proof.Laws.QueueKept.Statement (.mixedConditionChange) := rfl

theorem Sys2Proof.Laws.QueueKept.imgErase (sl : _) : Sys2Proof.Laws.QueueKept.Statement (.imgErase sl) := rfl

theorem Sys2Proof.Laws.QueueKept.imgWrite (sl : _) (offset : _) (readBack : _) : Sys2Proof.Laws.QueueKept.Statement (.imgWrite sl offset readBack) := rfl

theorem Sys2Proof.Laws.QueueKept.imgCheck (sl : _) (rule : _) (img : _) : Sys2Proof.Laws.QueueKept.Statement (.imgCheck sl rule img) := rfl

theorem Sys2Proof.Laws.QueueKept.imgCommit (sl : _) : Sys2Proof.Laws.QueueKept.Statement (.imgCommit sl) := rfl

theorem Sys2Proof.Laws.QueueKept.imgApply (sl : _) (img : _) : Sys2Proof.Laws.QueueKept.Statement (.imgApply sl img) := rfl

theorem Sys2Proof.Laws.QueueKept.imageCommandComplete : Sys2Proof.Laws.QueueKept.Statement (.imageCommandComplete) := rfl

theorem Sys2Proof.Laws.QueueKept.keyGenId : Sys2Proof.Laws.QueueKept.Statement (.keyGenId) := rfl

theorem Sys2Proof.Laws.QueueKept.keyRotate (readBackOk : _) : Sys2Proof.Laws.QueueKept.Statement (.keyRotate readBackOk) := rfl

theorem Sys2Proof.Laws.QueueKept.keyRevoke (n : _) : Sys2Proof.Laws.QueueKept.Statement (.keyRevoke n) := rfl

theorem Sys2Proof.Laws.QueueKept.keyProgRoot (n : _) : Sys2Proof.Laws.QueueKept.Statement (.keyProgRoot n) := rfl

theorem Sys2Proof.Laws.QueueKept.keyRaiseSvn (floor : _) : Sys2Proof.Laws.QueueKept.Statement (.keyRaiseSvn floor) := rfl

theorem Sys2Proof.Laws.QueueKept.keyCommandComplete : Sys2Proof.Laws.QueueKept.Statement (.keyCommandComplete) := rfl

theorem Sys2Proof.Laws.QueueKept.trngStartupComplete : Sys2Proof.Laws.QueueKept.Statement (.trngStartupComplete) := rfl

theorem Sys2Proof.Laws.QueueKept.trngHealthFailure (apt : _) : Sys2Proof.Laws.QueueKept.Statement (.trngHealthFailure apt) := rfl

theorem Sys2Proof.Laws.QueueKept.trngReseed : Sys2Proof.Laws.QueueKept.Statement (.trngReseed) := rfl

theorem Sys2Proof.Laws.QueueKept.trngNext : Sys2Proof.Laws.QueueKept.Statement (.trngNext) := rfl

theorem Sys2Proof.Laws.QueueKept.bootRecordsRead : Sys2Proof.Laws.QueueKept.Statement (.bootRecordsRead) := rfl

theorem Sys2Proof.Laws.QueueKept.bootVerifyResult (ruleA : _) (imgA : _) (ruleB : _) (imgB : _) : Sys2Proof.Laws.QueueKept.Statement (.bootVerifyResult ruleA imgA ruleB imgB) := rfl

theorem Sys2Proof.Laws.QueueKept.openSession (path : _) (place : _) (peer : _) (tag : _) : Sys2Proof.Laws.QueueKept.Statement (.openSession path place peer tag) := rfl

theorem Sys2Proof.Laws.QueueKept.closeSession (ses : _) (tag : _) : Sys2Proof.Laws.QueueKept.Statement (.closeSession ses tag) := rfl

theorem Sys2Proof.Laws.QueueKept.sessionIdleTimeout (ses : _) : Sys2Proof.Laws.QueueKept.Statement (.sessionIdleTimeout ses) := rfl

theorem Sys2Proof.Laws.QueueKept.sessionPathLoss (ses : _) : Sys2Proof.Laws.QueueKept.Statement (.sessionPathLoss ses) := rfl

theorem Sys2Proof.Laws.QueueKept.regRead (ses : _) (tag : _) (addr : _) (size : _) (count : _) : Sys2Proof.Laws.QueueKept.Statement (.regRead ses tag addr size count) := rfl

theorem Sys2Proof.Laws.QueueKept.regWrite (ses : _) (tag : _) (addr : _) (size : _) (count : _) (data : _) (env : _) : Sys2Proof.Laws.QueueKept.Statement (.regWrite ses tag addr size count data env) := rfl

theorem Sys2Proof.Laws.QueueKept.claim (ses : _) (tag : _) (prio : _) : Sys2Proof.Laws.QueueKept.Statement (.claim ses tag prio) := rfl

theorem Sys2Proof.Laws.QueueKept.electionWindowClose : Sys2Proof.Laws.QueueKept.Statement (.electionWindowClose) := rfl

theorem Sys2Proof.Laws.QueueKept.renew (ses : _) (tag : _) : Sys2Proof.Laws.QueueKept.Statement (.renew ses tag) := rfl

theorem Sys2Proof.Laws.QueueKept.ownerLeaseLapse : Sys2Proof.Laws.QueueKept.Statement (.ownerLeaseLapse) := rfl

theorem Sys2Proof.Laws.QueueKept.ownHandover (ses : _) (tag : _) (successor : _) : Sys2Proof.Laws.QueueKept.Statement (.ownHandover ses tag successor) := rfl

theorem Sys2Proof.Laws.QueueKept.releaseOwnership (ses : _) (tag : _) : Sys2Proof.Laws.QueueKept.Statement (.releaseOwnership ses tag) := rfl

theorem Sys2Proof.Laws.QueueKept.eventQueue (ev : _) (cls : _) (detail : _) : Sys2Proof.Laws.QueueKept.Statement (.eventQueue ev cls detail) := rfl

theorem Sys2Proof.Laws.QueueKept.eventSend : Sys2Proof.Laws.QueueKept.Statement (.eventSend) := rfl

theorem Sys2Proof.Laws.QueueKept.eventAck (ses : _) (tag : _) (seq : _) : Sys2Proof.Laws.QueueKept.Statement (.eventAck ses tag seq) := rfl

theorem Sys2Proof.Laws.QueueKept.evtAckWrite (value : _) : Sys2Proof.Laws.QueueKept.Statement (.evtAckWrite value) := rfl

theorem Sys2Proof.Laws.QueueKept.eventResendTimeout : Sys2Proof.Laws.QueueKept.Statement (.eventResendTimeout) := rfl

theorem Sys2Proof.Laws.QueueKept.fmApi (ses : _) (tag : _) (c : _) : Sys2Proof.Laws.QueueKept.Statement (.fmApi ses tag c) := rfl

theorem Sys2Proof.Laws.QueueKept.memRead (ses : _) (tag : _) (asd : _) (addr : _) (len : _) : Sys2Proof.Laws.QueueKept.Statement (.memRead ses tag asd addr len) := rfl

theorem Sys2Proof.Laws.QueueKept.memWrite (ses : _) (tag : _) (asd : _) (addr : _) (data : _) : Sys2Proof.Laws.QueueKept.Statement (.memWrite ses tag asd addr data) := rfl

theorem Sys2Proof.Laws.QueueKept.unknownTypeMessage (ses : _) (tag : _) (ver : _) (type : _) (length : _) (bytes : _) : Sys2Proof.Laws.QueueKept.Statement (.unknownTypeMessage ses tag ver type length bytes) := rfl

theorem Sys2Proof.Laws.QueueKept.udpDuplicateRequest (ses : _) (tag : _) : Sys2Proof.Laws.QueueKept.Statement (.udpDuplicateRequest ses tag) := rfl

theorem Sys2Proof.Laws.QueueKept.resetNAssert : Sys2Proof.Laws.QueueKept.Statement (.resetNAssert) := rfl

theorem Sys2Proof.Laws.QueueKept.resetEnd (cause : _) (role : _) (bootSrc : _) (pins : _) : Sys2Proof.Laws.QueueKept.Statement (.resetEnd cause role bootSrc pins) := rfl

theorem Sys2Proof.Laws.QueueKept.brownOut (rail : _) (lost : _) : Sys2Proof.Laws.QueueKept.Statement (.brownOut rail lost) := rfl

theorem Sys2Proof.Laws.QueueKept.reboot : Sys2Proof.Laws.QueueKept.Statement (.reboot) := rfl

theorem Sys2Proof.Laws.QueueKept.enterTest : Sys2Proof.Laws.QueueKept.Statement (.enterTest) := rfl

theorem Sys2Proof.Laws.QueueKept.boundaryScanTest : Sys2Proof.Laws.QueueKept.Statement (.boundaryScanTest) := rfl

theorem Sys2Proof.Laws.QueueKept.hbmInitDone (ok : _) (kept : _) (sram : _) (hbm : _) : Sys2Proof.Laws.QueueKept.Statement (.hbmInitDone ok kept sram hbm) := rfl

theorem Sys2Proof.Laws.QueueKept.provisionComplete : Sys2Proof.Laws.QueueKept.Statement (.provisionComplete) := rfl

theorem Sys2Proof.Laws.QueueKept.recoverRegions (mask : _) : Sys2Proof.Laws.QueueKept.Statement (.recoverRegions mask) := rfl

theorem Sys2Proof.Laws.QueueKept.regionRecoveryEnd (r : _) (ok : _) : Sys2Proof.Laws.QueueKept.Statement (.regionRecoveryEnd r ok) := rfl

theorem Sys2Proof.Laws.QueueKept.perstAssert (blk : _) : Sys2Proof.Laws.QueueKept.Statement (.perstAssert blk) := rfl

theorem Sys2Proof.Laws.QueueKept.perstDeassert (blk : _) : Sys2Proof.Laws.QueueKept.Statement (.perstDeassert blk) := rfl

theorem Sys2Proof.Laws.QueueKept.bankWrite (which : _) (value : _) : Sys2Proof.Laws.QueueKept.Statement (.bankWrite which value) := rfl

theorem Sys2Proof.Laws.QueueKept.unitBanked (u : _) (l1 : _) : Sys2Proof.Laws.QueueKept.Statement (.unitBanked u l1) := rfl

theorem Sys2Proof.Laws.QueueKept.bankDemandWake (u : _) : Sys2Proof.Laws.QueueKept.Statement (.bankDemandWake u) := rfl

theorem Sys2Proof.Laws.QueueKept.bankIdleRebank (u : _) (l1 : _) : Sys2Proof.Laws.QueueKept.Statement (.bankIdleRebank u l1) := rfl

theorem Sys2Proof.Laws.QueueKept.faultCause (ev : _) (cls : _) (detail : _) (inj : _) : Sys2Proof.Laws.QueueKept.Statement (.faultCause ev cls detail inj) := rfl

theorem Sys2Proof.Laws.QueueKept.fltPendClear (c : _) : Sys2Proof.Laws.QueueKept.Statement (.fltPendClear c) := rfl

theorem Sys2Proof.Laws.QueueKept.fltFatalClear (r : _) : Sys2Proof.Laws.QueueKept.Statement (.fltFatalClear r) := rfl

theorem Sys2Proof.Laws.QueueKept.regionFence (r : _) : Sys2Proof.Laws.QueueKept.Statement (.regionFence r) := rfl

theorem Sys2Proof.Laws.QueueKept.lostHomeScan (n : _) (ok : _) : Sys2Proof.Laws.QueueKept.Statement (.lostHomeScan n ok) := rfl

theorem Sys2Proof.Laws.QueueKept.chipFatalCause (ev : _) : Sys2Proof.Laws.QueueKept.Statement (.chipFatalCause ev) := rfl

theorem Sys2Proof.Laws.QueueKept.emberToggle : Sys2Proof.Laws.QueueKept.Statement (.emberToggle) := rfl

theorem Sys2Proof.Laws.QueueKept.fltInjGo (value : _) : Sys2Proof.Laws.QueueKept.Statement (.fltInjGo value) := rfl

theorem Sys2Proof.Laws.QueueKept.injectionApply : Sys2Proof.Laws.QueueKept.Statement (.injectionApply) := rfl

theorem Sys2Proof.Laws.QueueKept.injectionTimeout : Sys2Proof.Laws.QueueKept.Statement (.injectionTimeout) := rfl

theorem Sys2Proof.Laws.QueueKept.wearSample (what : _) (u : _) (value : _) : Sys2Proof.Laws.QueueKept.Statement (.wearSample what u value) := rfl

theorem Sys2Proof.Laws.QueueKept.spareSliceReplace (n : _) (fault : _) (scanOk : _) : Sys2Proof.Laws.QueueKept.Statement (.spareSliceReplace n fault scanOk) := rfl

theorem Sys2Proof.Laws.QueueKept.spareEngineReplace (e : _) (fault : _) : Sys2Proof.Laws.QueueKept.Statement (.spareEngineReplace e fault) := rfl

theorem Sys2Proof.Laws.QueueKept.sramSoftRepair (r : _) (spare : _) : Sys2Proof.Laws.QueueKept.Statement (.sramSoftRepair r spare) := rfl

theorem Sys2Proof.Laws.QueueKept.hbmSoftPpr (ch : _) (line : _) (spare : _) : Sys2Proof.Laws.QueueKept.Statement (.hbmSoftPpr ch line spare) := rfl

theorem Sys2Proof.Laws.QueueKept.clearLane (u : _) : Sys2Proof.Laws.QueueKept.Statement (.clearLane u) := rfl

theorem Sys2Proof.Laws.QueueKept.retireEngine (u : _) : Sys2Proof.Laws.QueueKept.Statement (.retireEngine u) := rfl

theorem Sys2Proof.Laws.QueueKept.retireSlice (u : _) : Sys2Proof.Laws.QueueKept.Statement (.retireSlice u) := rfl

theorem Sys2Proof.Laws.QueueKept.degClear : Sys2Proof.Laws.QueueKept.Statement (.degClear) := rfl

theorem Sys2Proof.Laws.QueueKept.poolUnmetDemand (p : _) : Sys2Proof.Laws.QueueKept.Statement (.poolUnmetDemand p) := rfl

theorem Sys2Proof.Laws.QueueKept.ppsOutEdge : Sys2Proof.Laws.QueueKept.Statement (.ppsOutEdge) := rfl

theorem Sys2Proof.Laws.QueueKept.timNowRead (ses : _) (tag : _) : Sys2Proof.Laws.QueueKept.Statement (.timNowRead ses tag) := rfl

theorem Sys2Proof.Laws.QueueKept.servoUpdate : Sys2Proof.Laws.QueueKept.Statement (.servoUpdate) := rfl

theorem Sys2Proof.Laws.QueueKept.ptpSync (domain : _) (sender : _) (t1 : _) (t3 : _) (t4 : _) : Sys2Proof.Laws.QueueKept.Statement (.ptpSync domain sender t1 t3 t4) := rfl

theorem Sys2Proof.Laws.QueueKept.ppsInEdge : Sys2Proof.Laws.QueueKept.Statement (.ppsInEdge) := rfl

theorem Sys2Proof.Laws.QueueKept.timeReferenceLoss (source : _) : Sys2Proof.Laws.QueueKept.Statement (.timeReferenceLoss source) := rfl

theorem Sys2Proof.Laws.QueueKept.timSet : Sys2Proof.Laws.QueueKept.Statement (.timSet) := rfl

theorem Sys2Proof.Laws.QueueKept.timAdj (adj : _) : Sys2Proof.Laws.QueueKept.Statement (.timAdj adj) := rfl

theorem Sys2Proof.Laws.QueueKept.telemetryConversion (c : _) (code : _) (result : _) (man : _) : Sys2Proof.Laws.QueueKept.Statement (.telemetryConversion c code result man) := rfl

theorem Sys2Proof.Laws.QueueKept.thermalStateChange (c : _) : Sys2Proof.Laws.QueueKept.Statement (.thermalStateChange c) := rfl

theorem Sys2Proof.Laws.QueueKept.cntSnap (u : _) : Sys2Proof.Laws.QueueKept.Statement (.cntSnap u) := rfl

theorem Sys2Proof.Laws.QueueKept.cntClr (u : _) : Sys2Proof.Laws.QueueKept.Statement (.cntClr u) := rfl

theorem Sys2Proof.Laws.QueueKept.clrPeak : Sys2Proof.Laws.QueueKept.Statement (.clrPeak) := rfl

theorem Sys2Proof.Laws.QueueKept.bwWindowEnd (p : _) (inB : _) (outB : _) : Sys2Proof.Laws.QueueKept.Statement (.bwWindowEnd p inB outB) := rfl

theorem Sys2Proof.Laws.QueueKept.traceRecord (credit : _) : Sys2Proof.Laws.QueueKept.Statement (.traceRecord credit) := rfl

theorem Sys2Proof.Laws.QueueKept.start : Sys2Proof.Laws.QueueKept.Statement (.start) := rfl

theorem Sys2Proof.Laws.QueueKept.stop : Sys2Proof.Laws.QueueKept.Statement (.stop) := rfl

theorem Sys2Proof.Laws.QueueKept.pmbusPoll (n : _) (first : _) (retry : _) (vin : _) (vout : _) (iout : _) (pin : _) (energy : _) : Sys2Proof.Laws.QueueKept.Statement (.pmbusPoll n first retry vin vout iout pin energy) := rfl

theorem Sys2Proof.Laws.QueueKept.slotChainFrame (inputs : _) : Sys2Proof.Laws.QueueKept.Statement (.slotChainFrame inputs) := rfl

theorem Sys2Proof.Laws.QueueKept.slotCommandedOn (n : _) : Sys2Proof.Laws.QueueKept.Statement (.slotCommandedOn n) := rfl

theorem Sys2Proof.Laws.QueueKept.slotPgood (n : _) : Sys2Proof.Laws.QueueKept.Statement (.slotPgood n) := rfl

theorem Sys2Proof.Laws.QueueKept.slotSettleEnd (n : _) : Sys2Proof.Laws.QueueKept.Statement (.slotSettleEnd n) := rfl

theorem Sys2Proof.Laws.QueueKept.slotPerstRelease (n : _) : Sys2Proof.Laws.QueueKept.Statement (.slotPerstRelease n) := rfl

theorem Sys2Proof.Laws.QueueKept.slotOffCommand (n : _) : Sys2Proof.Laws.QueueKept.Statement (.slotOffCommand n) := rfl

theorem Sys2Proof.Laws.QueueKept.slotTrip (n : _) (why : _) : Sys2Proof.Laws.QueueKept.Statement (.slotTrip n why) := rfl

theorem Sys2Proof.Laws.QueueKept.slotRetry (n : _) : Sys2Proof.Laws.QueueKept.Statement (.slotRetry n) := rfl

theorem Sys2Proof.Laws.QueueKept.slotStableReset (n : _) : Sys2Proof.Laws.QueueKept.Statement (.slotStableReset n) := rfl

theorem Sys2Proof.Laws.QueueKept.fetFail (n : _) : Sys2Proof.Laws.QueueKept.Statement (.fetFail n) := rfl

theorem Sys2Proof.Laws.QueueKept.slotClear (n : _) : Sys2Proof.Laws.QueueKept.Statement (.slotClear n) := rfl

theorem Sys2Proof.Laws.QueueKept.pwrbrkAssert (n : _) (warning : _) : Sys2Proof.Laws.QueueKept.Statement (.pwrbrkAssert n warning) := rfl

theorem Sys2Proof.Laws.QueueKept.pwrbrkRelease (n : _) : Sys2Proof.Laws.QueueKept.Statement (.pwrbrkRelease n) := rfl

theorem Sys2Proof.Laws.QueueKept.slotPresenceLoss (n : _) : Sys2Proof.Laws.QueueKept.Statement (.slotPresenceLoss n) := rfl

theorem Sys2Proof.Laws.QueueKept.cycle (n : _) : Sys2Proof.Laws.QueueKept.Statement (.cycle n) := rfl

theorem Sys2Proof.Laws.QueueKept.attentionButton (n : _) : Sys2Proof.Laws.QueueKept.Statement (.attentionButton n) := rfl

theorem Sys2Proof.Laws.QueueKept.refclkLoss (k : _) : Sys2Proof.Laws.QueueKept.Statement (.refclkLoss k) := rfl

theorem Sys2Proof.Laws.QueueKept.refclkRestore (k : _) (role : _) (bootSrc : _) (pins : _) : Sys2Proof.Laws.QueueKept.Statement (.refclkRestore k role bootSrc pins) := rfl

theorem Sys2Proof.Laws.QueueKept.ideKeySetUp (p : _) (mode : _) (io : _) : Sys2Proof.Laws.QueueKept.Statement (.ideKeySetUp p mode io) := rfl

theorem Sys2Proof.Laws.QueueKept.remoteBinding (ses : _) (tag : _) (vppb : _) (feid : _) (ld : _) (bind : _) (mixed : _) (answer : _) : Sys2Proof.Laws.QueueKept.Statement (.remoteBinding ses tag vppb feid ld bind mixed answer) := rfl

theorem Sys2Proof.Laws.QueueKept.hotnessZeroFillComplete : Sys2Proof.Laws.QueueKept.Statement (.hotnessZeroFillComplete) := rfl

theorem Sys2Proof.Laws.QueueKept.ptpAnnounce (m : _) : Sys2Proof.Laws.QueueKept.Statement (.ptpAnnounce m) := rfl

theorem Sys2Proof.Laws.QueueKept.upstreamTimeout : Sys2Proof.Laws.QueueKept.Statement (.upstreamTimeout) := rfl
end

