-- ==== Sys2Proof/Laws/State.lean ====
section
/-! SUPPORT. What the named updates of the state leave alone, field by field. -/

namespace Sys2Proof.Machine

@[simp] theorem State.setReg_phase (s : State) (k : RegKind) (i : Nat) (w : Word) : (s.setReg k i w).phase = s.phase := rfl
@[simp] theorem State.setReg_clk (s : State) (k : RegKind) (i : Nat) (w : Word) : (s.setReg k i w).clk = s.clk := rfl
@[simp] theorem State.setReg_tim (s : State) (k : RegKind) (i : Nat) (w : Word) : (s.setReg k i w).tim = s.tim := rfl
@[simp] theorem State.setReg_freeCtr (s : State) (k : RegKind) (i : Nat) (w : Word) : (s.setReg k i w).freeCtr = s.freeCtr := rfl
@[simp] theorem State.setReg_out (s : State) (k : RegKind) (i : Nat) (w : Word) : (s.setReg k i w).out = s.out := rfl
@[simp] theorem State.setReg_hbm (s : State) (k : RegKind) (i : Nat) (w : Word) : (s.setReg k i w).hbm = s.hbm := rfl
@[simp] theorem State.setReg_hbmEcc (s : State) (k : RegKind) (i : Nat) (w : Word) : (s.setReg k i w).hbmEcc = s.hbmEcc := rfl
@[simp] theorem State.setReg_blocks (s : State) (k : RegKind) (i : Nat) (w : Word) : (s.setReg k i w).blocks = s.blocks := rfl
@[simp] theorem State.setReg_prbs (s : State) (k : RegKind) (i : Nat) (w : Word) : (s.setReg k i w).prbs = s.prbs := rfl
@[simp] theorem State.setReg_ports (s : State) (k : RegKind) (i : Nat) (w : Word) : (s.setReg k i w).ports = s.ports := rfl
@[simp] theorem State.setReg_partials (s : State) (k : RegKind) (i : Nat) (w : Word) : (s.setReg k i w).partials = s.partials := rfl
@[simp] theorem State.setReg_vppbs (s : State) (k : RegKind) (i : Nat) (w : Word) : (s.setReg k i w).vppbs = s.vppbs := rfl
@[simp] theorem State.setReg_fmReq (s : State) (k : RegKind) (i : Nat) (w : Word) : (s.setReg k i w).fmReq = s.fmReq := rfl
@[simp] theorem State.setReg_cxlLog (s : State) (k : RegKind) (i : Nat) (w : Word) : (s.setReg k i w).cxlLog = s.cxlLog := rfl
@[simp] theorem State.setReg_cxlHandle (s : State) (k : RegKind) (i : Nat) (w : Word) : (s.setReg k i w).cxlHandle = s.cxlHandle := rfl
@[simp] theorem State.setReg_dcAdds (s : State) (k : RegKind) (i : Nat) (w : Word) : (s.setReg k i w).dcAdds = s.dcAdds := rfl
@[simp] theorem State.setReg_dcReleases (s : State) (k : RegKind) (i : Nat) (w : Word) : (s.setReg k i w).dcReleases = s.dcReleases := rfl
@[simp] theorem State.setReg_fillDue (s : State) (k : RegKind) (i : Nat) (w : Word) : (s.setReg k i w).fillDue = s.fillDue := rfl
@[simp] theorem State.setReg_dcRegion (s : State) (k : RegKind) (i : Nat) (w : Word) : (s.setReg k i w).dcRegion = s.dcRegion := rfl
@[simp] theorem State.setReg_dcSanitize (s : State) (k : RegKind) (i : Nat) (w : Word) : (s.setReg k i w).dcSanitize = s.dcSanitize := rfl
@[simp] theorem State.setReg_biDecoder (s : State) (k : RegKind) (i : Nat) (w : Word) : (s.setReg k i w).biDecoder = s.biDecoder := rfl
@[simp] theorem State.setReg_outst (s : State) (k : RegKind) (i : Nat) (w : Word) : (s.setReg k i w).outst = s.outst := rfl
@[simp] theorem State.setReg_decodeQ (s : State) (k : RegKind) (i : Nat) (w : Word) : (s.setReg k i w).decodeQ = s.decodeQ := rfl
@[simp] theorem State.setReg_portHold (s : State) (k : RegKind) (i : Nat) (w : Word) : (s.setReg k i w).portHold = s.portHold := rfl
@[simp] theorem State.setReg_sflLanes (s : State) (k : RegKind) (i : Nat) (w : Word) : (s.setReg k i w).sflLanes = s.sflLanes := rfl
@[simp] theorem State.setReg_sflTx (s : State) (k : RegKind) (i : Nat) (w : Word) : (s.setReg k i w).sflTx = s.sflTx := rfl
@[simp] theorem State.setReg_sflTrain (s : State) (k : RegKind) (i : Nat) (w : Word) : (s.setReg k i w).sflTrain = s.sflTrain := rfl
@[simp] theorem State.setReg_sfl (s : State) (k : RegKind) (i : Nat) (w : Word) : (s.setReg k i w).sfl = s.sfl := rfl
@[simp] theorem State.setReg_ni (s : State) (k : RegKind) (i : Nat) (w : Word) : (s.setReg k i w).ni = s.ni := rfl
@[simp] theorem State.setReg_voq (s : State) (k : RegKind) (i : Nat) (w : Word) : (s.setReg k i w).voq = s.voq := rfl
@[simp] theorem State.setReg_ledger (s : State) (k : RegKind) (i : Nat) (w : Word) : (s.setReg k i w).ledger = s.ledger := rfl
@[simp] theorem State.setReg_crQueue (s : State) (k : RegKind) (i : Nat) (w : Word) : (s.setReg k i w).crQueue = s.crQueue := rfl
@[simp] theorem State.setReg_inflight (s : State) (k : RegKind) (i : Nat) (w : Word) : (s.setReg k i w).inflight = s.inflight := rfl
@[simp] theorem State.setReg_rtr (s : State) (k : RegKind) (i : Nat) (w : Word) : (s.setReg k i w).rtr = s.rtr := rfl
@[simp] theorem State.setReg_prb (s : State) (k : RegKind) (i : Nat) (w : Word) : (s.setReg k i w).prb = s.prb := rfl
@[simp] theorem State.setReg_mir (s : State) (k : RegKind) (i : Nat) (w : Word) : (s.setReg k i w).mir = s.mir := rfl
@[simp] theorem State.setReg_xing (s : State) (k : RegKind) (i : Nat) (w : Word) : (s.setReg k i w).xing = s.xing := rfl
@[simp] theorem State.setReg_gateDrops (s : State) (k : RegKind) (i : Nat) (w : Word) : (s.setReg k i w).gateDrops = s.gateDrops := rfl
@[simp] theorem State.setReg_wear (s : State) (k : RegKind) (i : Nat) (w : Word) : (s.setReg k i w).wear = s.wear := rfl
@[simp] theorem State.setReg_margins (s : State) (k : RegKind) (i : Nat) (w : Word) : (s.setReg k i w).margins = s.margins := rfl
@[simp] theorem State.setReg_bands (s : State) (k : RegKind) (i : Nat) (w : Word) : (s.setReg k i w).bands = s.bands := rfl
@[simp] theorem State.setReg_buckets (s : State) (k : RegKind) (i : Nat) (w : Word) : (s.setReg k i w).buckets = s.buckets := rfl
@[simp] theorem State.setReg_holdQ (s : State) (k : RegKind) (i : Nat) (w : Word) : (s.setReg k i w).holdQ = s.holdQ := rfl
@[simp] theorem State.setReg_holdFull (s : State) (k : RegKind) (i : Nat) (w : Word) : (s.setReg k i w).holdFull = s.holdFull := rfl
@[simp] theorem State.setReg_marks (s : State) (k : RegKind) (i : Nat) (w : Word) : (s.setReg k i w).marks = s.marks := rfl
@[simp] theorem State.setReg_tcs (s : State) (k : RegKind) (i : Nat) (w : Word) : (s.setReg k i w).tcs = s.tcs := rfl
@[simp] theorem State.setReg_bindRun (s : State) (k : RegKind) (i : Nat) (w : Word) : (s.setReg k i w).bindRun = s.bindRun := rfl
@[simp] theorem State.setReg_stamps (s : State) (k : RegKind) (i : Nat) (w : Word) : (s.setReg k i w).stamps = s.stamps := rfl
@[simp] theorem State.setReg_rep (s : State) (k : RegKind) (i : Nat) (w : Word) : (s.setReg k i w).rep = s.rep := rfl
@[simp] theorem State.setReg_repEcc (s : State) (k : RegKind) (i : Nat) (w : Word) : (s.setReg k i w).repEcc = s.repEcc := rfl
@[simp] theorem State.setReg_chipEcc (s : State) (k : RegKind) (i : Nat) (w : Word) : (s.setReg k i w).chipEcc = s.chipEcc := rfl
@[simp] theorem State.setReg_wtag (s : State) (k : RegKind) (i : Nat) (w : Word) : (s.setReg k i w).wtag = s.wtag := rfl
@[simp] theorem State.setReg_scrubAt (s : State) (k : RegKind) (i : Nat) (w : Word) : (s.setReg k i w).scrubAt = s.scrubAt := rfl
@[simp] theorem State.setReg_l2Cache (s : State) (k : RegKind) (i : Nat) (w : Word) : (s.setReg k i w).l2Cache = s.l2Cache := rfl
@[simp] theorem State.setReg_rmpRun (s : State) (k : RegKind) (i : Nat) (w : Word) : (s.setReg k i w).rmpRun = s.rmpRun := rfl
@[simp] theorem State.setReg_decoders (s : State) (k : RegKind) (i : Nat) (w : Word) : (s.setReg k i w).decoders = s.decoders := rfl
@[simp] theorem State.setReg_commitWait (s : State) (k : RegKind) (i : Nat) (w : Word) : (s.setReg k i w).commitWait = s.commitWait := rfl
@[simp] theorem State.setReg_ideKeys (s : State) (k : RegKind) (i : Nat) (w : Word) : (s.setReg k i w).ideKeys = s.ideKeys := rfl
@[simp] theorem State.setReg_resolved (s : State) (k : RegKind) (i : Nat) (w : Word) : (s.setReg k i w).resolved = s.resolved := rfl
@[simp] theorem State.setReg_denials (s : State) (k : RegKind) (i : Nat) (w : Word) : (s.setReg k i w).denials = s.denials := rfl
@[simp] theorem State.setReg_dirCache (s : State) (k : RegKind) (i : Nat) (w : Word) : (s.setReg k i w).dirCache = s.dirCache := rfl
@[simp] theorem State.setReg_txns (s : State) (k : RegKind) (i : Nat) (w : Word) : (s.setReg k i w).txns = s.txns := rfl
@[simp] theorem State.setReg_wbuf (s : State) (k : RegKind) (i : Nat) (w : Word) : (s.setReg k i w).wbuf = s.wbuf := rfl
@[simp] theorem State.setReg_trkWait (s : State) (k : RegKind) (i : Nat) (w : Word) : (s.setReg k i w).trkWait = s.trkWait := rfl
@[simp] theorem State.setReg_homeHolds (s : State) (k : RegKind) (i : Nat) (w : Word) : (s.setReg k i w).homeHolds = s.homeHolds := rfl
@[simp] theorem State.setReg_spareUntil (s : State) (k : RegKind) (i : Nat) (w : Word) : (s.setReg k i w).spareUntil = s.spareUntil := rfl
@[simp] theorem State.setReg_sweeping (s : State) (k : RegKind) (i : Nat) (w : Word) : (s.setReg k i w).sweeping = s.sweeping := rfl
@[simp] theorem State.setReg_caidWait (s : State) (k : RegKind) (i : Nat) (w : Word) : (s.setReg k i w).caidWait = s.caidWait := rfl
@[simp] theorem State.setReg_migWait (s : State) (k : RegKind) (i : Nat) (w : Word) : (s.setReg k i w).migWait = s.migWait := rfl
@[simp] theorem State.setReg_migMaps (s : State) (k : RegKind) (i : Nat) (w : Word) : (s.setReg k i w).migMaps = s.migMaps := rfl
@[simp] theorem State.setReg_migHeld (s : State) (k : RegKind) (i : Nat) (w : Word) : (s.setReg k i w).migHeld = s.migHeld := rfl
@[simp] theorem State.setReg_accesses (s : State) (k : RegKind) (i : Nat) (w : Word) : (s.setReg k i w).accesses = s.accesses := rfl
@[simp] theorem State.setReg_drainPhase (s : State) (k : RegKind) (i : Nat) (w : Word) : (s.setReg k i w).drainPhase = s.drainPhase := rfl
@[simp] theorem State.setReg_drains (s : State) (k : RegKind) (i : Nat) (w : Word) : (s.setReg k i w).drains = s.drains := rfl
@[simp] theorem State.setReg_migs (s : State) (k : RegKind) (i : Nat) (w : Word) : (s.setReg k i w).migs = s.migs := rfl
@[simp] theorem State.setReg_hot (s : State) (k : RegKind) (i : Nat) (w : Word) : (s.setReg k i w).hot = s.hot := rfl
@[simp] theorem State.setReg_engines (s : State) (k : RegKind) (i : Nat) (w : Word) : (s.setReg k i w).engines = s.engines := rfl
@[simp] theorem State.setReg_clusters (s : State) (k : RegKind) (i : Nat) (w : Word) : (s.setReg k i w).clusters = s.clusters := rfl
@[simp] theorem State.setReg_fwVersion (s : State) (k : RegKind) (i : Nat) (w : Word) : (s.setReg k i w).fwVersion = s.fwVersion := rfl
@[simp] theorem State.setReg_fab (s : State) (k : RegKind) (i : Nat) (w : Word) : (s.setReg k i w).fab = s.fab := rfl
@[simp] theorem State.setReg_fabIn (s : State) (k : RegKind) (i : Nat) (w : Word) : (s.setReg k i w).fabIn = s.fabIn := rfl
@[simp] theorem State.setReg_transit (s : State) (k : RegKind) (i : Nat) (w : Word) : (s.setReg k i w).transit = s.transit := rfl
@[simp] theorem State.setReg_fabPath (s : State) (k : RegKind) (i : Nat) (w : Word) : (s.setReg k i w).fabPath = s.fabPath := rfl
@[simp] theorem State.setReg_fabFlight (s : State) (k : RegKind) (i : Nat) (w : Word) : (s.setReg k i w).fabFlight = s.fabFlight := rfl
@[simp] theorem State.setReg_fabHeld (s : State) (k : RegKind) (i : Nat) (w : Word) : (s.setReg k i w).fabHeld = s.fabHeld := rfl
@[simp] theorem State.setReg_flashA (s : State) (k : RegKind) (i : Nat) (w : Word) : (s.setReg k i w).flashA = s.flashA := rfl
@[simp] theorem State.setReg_flashB (s : State) (k : RegKind) (i : Nat) (w : Word) : (s.setReg k i w).flashB = s.flashB := rfl
@[simp] theorem State.setReg_fuses (s : State) (k : RegKind) (i : Nat) (w : Word) : (s.setReg k i w).fuses = s.fuses := rfl
@[simp] theorem State.setReg_checked (s : State) (k : RegKind) (i : Nat) (w : Word) : (s.setReg k i w).checked = s.checked := rfl
@[simp] theorem State.setReg_imgRun (s : State) (k : RegKind) (i : Nat) (w : Word) : (s.setReg k i w).imgRun = s.imgRun := rfl
@[simp] theorem State.setReg_keyRun (s : State) (k : RegKind) (i : Nat) (w : Word) : (s.setReg k i w).keyRun = s.keyRun := rfl
@[simp] theorem State.setReg_pendingId (s : State) (k : RegKind) (i : Nat) (w : Word) : (s.setReg k i w).pendingId = s.pendingId := rfl
@[simp] theorem State.setReg_idKey (s : State) (k : RegKind) (i : Nat) (w : Word) : (s.setReg k i w).idKey = s.idKey := rfl
@[simp] theorem State.setReg_bootKey (s : State) (k : RegKind) (i : Nat) (w : Word) : (s.setReg k i w).bootKey = s.bootKey := rfl
@[simp] theorem State.setReg_hbmReady (s : State) (k : RegKind) (i : Nat) (w : Word) : (s.setReg k i w).hbmReady = s.hbmReady := rfl
@[simp] theorem State.setReg_staged (s : State) (k : RegKind) (i : Nat) (w : Word) : (s.setReg k i w).staged = s.staged := rfl
@[simp] theorem State.setReg_resetBy (s : State) (k : RegKind) (i : Nat) (w : Word) : (s.setReg k i w).resetBy = s.resetBy := rfl
@[simp] theorem State.setReg_imgCtx (s : State) (k : RegKind) (i : Nat) (w : Word) : (s.setReg k i w).imgCtx = s.imgCtx := rfl
@[simp] theorem State.setReg_reloadDue (s : State) (k : RegKind) (i : Nat) (w : Word) : (s.setReg k i w).reloadDue = s.reloadDue := rfl
@[simp] theorem State.setReg_imgLater (s : State) (k : RegKind) (i : Nat) (w : Word) : (s.setReg k i w).imgLater = s.imgLater := rfl
@[simp] theorem State.setReg_sess (s : State) (k : RegKind) (i : Nat) (w : Word) : (s.setReg k i w).sess = s.sess := rfl
@[simp] theorem State.setReg_claims (s : State) (k : RegKind) (i : Nat) (w : Word) : (s.setReg k i w).claims = s.claims := rfl
@[simp] theorem State.setReg_leaseAt (s : State) (k : RegKind) (i : Nat) (w : Word) : (s.setReg k i w).leaseAt = s.leaseAt := rfl
@[simp] theorem State.setReg_evtSent (s : State) (k : RegKind) (i : Nat) (w : Word) : (s.setReg k i w).evtSent = s.evtSent := rfl
@[simp] theorem State.setReg_memRuns (s : State) (k : RegKind) (i : Nat) (w : Word) : (s.setReg k i w).memRuns = s.memRuns := rfl
@[simp] theorem State.setReg_refusals (s : State) (k : RegKind) (i : Nat) (w : Word) : (s.setReg k i w).refusals = s.refusals := rfl
@[simp] theorem State.setReg_accessing (s : State) (k : RegKind) (i : Nat) (w : Word) : (s.setReg k i w).accessing = s.accessing := rfl
@[simp] theorem State.setReg_inj (s : State) (k : RegKind) (i : Nat) (w : Word) : (s.setReg k i w).inj = s.inj := rfl
@[simp] theorem State.setReg_ember (s : State) (k : RegKind) (i : Nat) (w : Word) : (s.setReg k i w).ember = s.ember := rfl
@[simp] theorem State.setReg_repairMap (s : State) (k : RegKind) (i : Nat) (w : Word) : (s.setReg k i w).repairMap = s.repairMap := rfl
@[simp] theorem State.setReg_retiring (s : State) (k : RegKind) (i : Nat) (w : Word) : (s.setReg k i w).retiring = s.retiring := rfl
@[simp] theorem State.setReg_timPeers (s : State) (k : RegKind) (i : Nat) (w : Word) : (s.setReg k i w).timPeers = s.timPeers := rfl
@[simp] theorem State.setReg_servo (s : State) (k : RegKind) (i : Nat) (w : Word) : (s.setReg k i w).servo = s.servo := rfl
@[simp] theorem State.setReg_ptpBest (s : State) (k : RegKind) (i : Nat) (w : Word) : (s.setReg k i w).ptpBest = s.ptpBest := rfl
@[simp] theorem State.setReg_ptpAt (s : State) (k : RegKind) (i : Nat) (w : Word) : (s.setReg k i w).ptpAt = s.ptpAt := rfl
@[simp] theorem State.setReg_ppsUntil (s : State) (k : RegKind) (i : Nat) (w : Word) : (s.setReg k i w).ppsUntil = s.ppsUntil := rfl
@[simp] theorem State.setReg_tel (s : State) (k : RegKind) (i : Nat) (w : Word) : (s.setReg k i w).tel = s.tel := rfl
@[simp] theorem State.setReg_throttleNs (s : State) (k : RegKind) (i : Nat) (w : Word) : (s.setReg k i w).throttleNs = s.throttleNs := rfl
@[simp] theorem State.setReg_throttleAt (s : State) (k : RegKind) (i : Nat) (w : Word) : (s.setReg k i w).throttleAt = s.throttleAt := rfl
@[simp] theorem State.setReg_trcDue (s : State) (k : RegKind) (i : Nat) (w : Word) : (s.setReg k i w).trcDue = s.trcDue := rfl
@[simp] theorem State.setReg_trcSeq (s : State) (k : RegKind) (i : Nat) (w : Word) : (s.setReg k i w).trcSeq = s.trcSeq := rfl
@[simp] theorem State.setReg_trcDrop (s : State) (k : RegKind) (i : Nat) (w : Word) : (s.setReg k i w).trcDrop = s.trcDrop := rfl
@[simp] theorem State.setReg_slots (s : State) (k : RegKind) (i : Nat) (w : Word) : (s.setReg k i w).slots = s.slots := rfl
@[simp] theorem State.setReg_clkLost (s : State) (k : RegKind) (i : Nat) (w : Word) : (s.setReg k i w).clkLost = s.clkLost := rfl
@[simp] theorem State.setReg_pending (s : State) (k : RegKind) (i : Nat) (w : Word) : (s.setReg k i w).pending = s.pending := rfl

@[simp] theorem State.set_phase (s : State) (F : Fld) (i v : Nat) : (s.set F i v).phase = s.phase := rfl
@[simp] theorem State.set_clk (s : State) (F : Fld) (i v : Nat) : (s.set F i v).clk = s.clk := rfl
@[simp] theorem State.set_tim (s : State) (F : Fld) (i v : Nat) : (s.set F i v).tim = s.tim := rfl
@[simp] theorem State.set_freeCtr (s : State) (F : Fld) (i v : Nat) : (s.set F i v).freeCtr = s.freeCtr := rfl
@[simp] theorem State.set_out (s : State) (F : Fld) (i v : Nat) : (s.set F i v).out = s.out := rfl
@[simp] theorem State.set_hbm (s : State) (F : Fld) (i v : Nat) : (s.set F i v).hbm = s.hbm := rfl
@[simp] theorem State.set_hbmEcc (s : State) (F : Fld) (i v : Nat) : (s.set F i v).hbmEcc = s.hbmEcc := rfl
@[simp] theorem State.set_blocks (s : State) (F : Fld) (i v : Nat) : (s.set F i v).blocks = s.blocks := rfl
@[simp] theorem State.set_prbs (s : State) (F : Fld) (i v : Nat) : (s.set F i v).prbs = s.prbs := rfl
@[simp] theorem State.set_ports (s : State) (F : Fld) (i v : Nat) : (s.set F i v).ports = s.ports := rfl
@[simp] theorem State.set_partials (s : State) (F : Fld) (i v : Nat) : (s.set F i v).partials = s.partials := rfl
@[simp] theorem State.set_vppbs (s : State) (F : Fld) (i v : Nat) : (s.set F i v).vppbs = s.vppbs := rfl
@[simp] theorem State.set_fmReq (s : State) (F : Fld) (i v : Nat) : (s.set F i v).fmReq = s.fmReq := rfl
@[simp] theorem State.set_cxlLog (s : State) (F : Fld) (i v : Nat) : (s.set F i v).cxlLog = s.cxlLog := rfl
@[simp] theorem State.set_cxlHandle (s : State) (F : Fld) (i v : Nat) : (s.set F i v).cxlHandle = s.cxlHandle := rfl
@[simp] theorem State.set_dcAdds (s : State) (F : Fld) (i v : Nat) : (s.set F i v).dcAdds = s.dcAdds := rfl
@[simp] theorem State.set_dcReleases (s : State) (F : Fld) (i v : Nat) : (s.set F i v).dcReleases = s.dcReleases := rfl
@[simp] theorem State.set_fillDue (s : State) (F : Fld) (i v : Nat) : (s.set F i v).fillDue = s.fillDue := rfl
@[simp] theorem State.set_dcRegion (s : State) (F : Fld) (i v : Nat) : (s.set F i v).dcRegion = s.dcRegion := rfl
@[simp] theorem State.set_dcSanitize (s : State) (F : Fld) (i v : Nat) : (s.set F i v).dcSanitize = s.dcSanitize := rfl
@[simp] theorem State.set_biDecoder (s : State) (F : Fld) (i v : Nat) : (s.set F i v).biDecoder = s.biDecoder := rfl
@[simp] theorem State.set_outst (s : State) (F : Fld) (i v : Nat) : (s.set F i v).outst = s.outst := rfl
@[simp] theorem State.set_decodeQ (s : State) (F : Fld) (i v : Nat) : (s.set F i v).decodeQ = s.decodeQ := rfl
@[simp] theorem State.set_portHold (s : State) (F : Fld) (i v : Nat) : (s.set F i v).portHold = s.portHold := rfl
@[simp] theorem State.set_sflLanes (s : State) (F : Fld) (i v : Nat) : (s.set F i v).sflLanes = s.sflLanes := rfl
@[simp] theorem State.set_sflTx (s : State) (F : Fld) (i v : Nat) : (s.set F i v).sflTx = s.sflTx := rfl
@[simp] theorem State.set_sflTrain (s : State) (F : Fld) (i v : Nat) : (s.set F i v).sflTrain = s.sflTrain := rfl
@[simp] theorem State.set_sfl (s : State) (F : Fld) (i v : Nat) : (s.set F i v).sfl = s.sfl := rfl
@[simp] theorem State.set_ni (s : State) (F : Fld) (i v : Nat) : (s.set F i v).ni = s.ni := rfl
@[simp] theorem State.set_voq (s : State) (F : Fld) (i v : Nat) : (s.set F i v).voq = s.voq := rfl
@[simp] theorem State.set_ledger (s : State) (F : Fld) (i v : Nat) : (s.set F i v).ledger = s.ledger := rfl
@[simp] theorem State.set_crQueue (s : State) (F : Fld) (i v : Nat) : (s.set F i v).crQueue = s.crQueue := rfl
@[simp] theorem State.set_inflight (s : State) (F : Fld) (i v : Nat) : (s.set F i v).inflight = s.inflight := rfl
@[simp] theorem State.set_rtr (s : State) (F : Fld) (i v : Nat) : (s.set F i v).rtr = s.rtr := rfl
@[simp] theorem State.set_prb (s : State) (F : Fld) (i v : Nat) : (s.set F i v).prb = s.prb := rfl
@[simp] theorem State.set_mir (s : State) (F : Fld) (i v : Nat) : (s.set F i v).mir = s.mir := rfl
@[simp] theorem State.set_xing (s : State) (F : Fld) (i v : Nat) : (s.set F i v).xing = s.xing := rfl
@[simp] theorem State.set_gateDrops (s : State) (F : Fld) (i v : Nat) : (s.set F i v).gateDrops = s.gateDrops := rfl
@[simp] theorem State.set_wear (s : State) (F : Fld) (i v : Nat) : (s.set F i v).wear = s.wear := rfl
@[simp] theorem State.set_margins (s : State) (F : Fld) (i v : Nat) : (s.set F i v).margins = s.margins := rfl
@[simp] theorem State.set_bands (s : State) (F : Fld) (i v : Nat) : (s.set F i v).bands = s.bands := rfl
@[simp] theorem State.set_buckets (s : State) (F : Fld) (i v : Nat) : (s.set F i v).buckets = s.buckets := rfl
@[simp] theorem State.set_holdQ (s : State) (F : Fld) (i v : Nat) : (s.set F i v).holdQ = s.holdQ := rfl
@[simp] theorem State.set_holdFull (s : State) (F : Fld) (i v : Nat) : (s.set F i v).holdFull = s.holdFull := rfl
@[simp] theorem State.set_marks (s : State) (F : Fld) (i v : Nat) : (s.set F i v).marks = s.marks := rfl
@[simp] theorem State.set_tcs (s : State) (F : Fld) (i v : Nat) : (s.set F i v).tcs = s.tcs := rfl
@[simp] theorem State.set_bindRun (s : State) (F : Fld) (i v : Nat) : (s.set F i v).bindRun = s.bindRun := rfl
@[simp] theorem State.set_stamps (s : State) (F : Fld) (i v : Nat) : (s.set F i v).stamps = s.stamps := rfl
@[simp] theorem State.set_rep (s : State) (F : Fld) (i v : Nat) : (s.set F i v).rep = s.rep := rfl
@[simp] theorem State.set_repEcc (s : State) (F : Fld) (i v : Nat) : (s.set F i v).repEcc = s.repEcc := rfl
@[simp] theorem State.set_chipEcc (s : State) (F : Fld) (i v : Nat) : (s.set F i v).chipEcc = s.chipEcc := rfl
@[simp] theorem State.set_wtag (s : State) (F : Fld) (i v : Nat) : (s.set F i v).wtag = s.wtag := rfl
@[simp] theorem State.set_scrubAt (s : State) (F : Fld) (i v : Nat) : (s.set F i v).scrubAt = s.scrubAt := rfl
@[simp] theorem State.set_l2Cache (s : State) (F : Fld) (i v : Nat) : (s.set F i v).l2Cache = s.l2Cache := rfl
@[simp] theorem State.set_rmpRun (s : State) (F : Fld) (i v : Nat) : (s.set F i v).rmpRun = s.rmpRun := rfl
@[simp] theorem State.set_decoders (s : State) (F : Fld) (i v : Nat) : (s.set F i v).decoders = s.decoders := rfl
@[simp] theorem State.set_commitWait (s : State) (F : Fld) (i v : Nat) : (s.set F i v).commitWait = s.commitWait := rfl
@[simp] theorem State.set_ideKeys (s : State) (F : Fld) (i v : Nat) : (s.set F i v).ideKeys = s.ideKeys := rfl
@[simp] theorem State.set_resolved (s : State) (F : Fld) (i v : Nat) : (s.set F i v).resolved = s.resolved := rfl
@[simp] theorem State.set_denials (s : State) (F : Fld) (i v : Nat) : (s.set F i v).denials = s.denials := rfl
@[simp] theorem State.set_dirCache (s : State) (F : Fld) (i v : Nat) : (s.set F i v).dirCache = s.dirCache := rfl
@[simp] theorem State.set_txns (s : State) (F : Fld) (i v : Nat) : (s.set F i v).txns = s.txns := rfl
@[simp] theorem State.set_wbuf (s : State) (F : Fld) (i v : Nat) : (s.set F i v).wbuf = s.wbuf := rfl
@[simp] theorem State.set_trkWait (s : State) (F : Fld) (i v : Nat) : (s.set F i v).trkWait = s.trkWait := rfl
@[simp] theorem State.set_homeHolds (s : State) (F : Fld) (i v : Nat) : (s.set F i v).homeHolds = s.homeHolds := rfl
@[simp] theorem State.set_spareUntil (s : State) (F : Fld) (i v : Nat) : (s.set F i v).spareUntil = s.spareUntil := rfl
@[simp] theorem State.set_sweeping (s : State) (F : Fld) (i v : Nat) : (s.set F i v).sweeping = s.sweeping := rfl
@[simp] theorem State.set_caidWait (s : State) (F : Fld) (i v : Nat) : (s.set F i v).caidWait = s.caidWait := rfl
@[simp] theorem State.set_migWait (s : State) (F : Fld) (i v : Nat) : (s.set F i v).migWait = s.migWait := rfl
@[simp] theorem State.set_migMaps (s : State) (F : Fld) (i v : Nat) : (s.set F i v).migMaps = s.migMaps := rfl
@[simp] theorem State.set_migHeld (s : State) (F : Fld) (i v : Nat) : (s.set F i v).migHeld = s.migHeld := rfl
@[simp] theorem State.set_accesses (s : State) (F : Fld) (i v : Nat) : (s.set F i v).accesses = s.accesses := rfl
@[simp] theorem State.set_drainPhase (s : State) (F : Fld) (i v : Nat) : (s.set F i v).drainPhase = s.drainPhase := rfl
@[simp] theorem State.set_drains (s : State) (F : Fld) (i v : Nat) : (s.set F i v).drains = s.drains := rfl
@[simp] theorem State.set_migs (s : State) (F : Fld) (i v : Nat) : (s.set F i v).migs = s.migs := rfl
@[simp] theorem State.set_hot (s : State) (F : Fld) (i v : Nat) : (s.set F i v).hot = s.hot := rfl
@[simp] theorem State.set_engines (s : State) (F : Fld) (i v : Nat) : (s.set F i v).engines = s.engines := rfl
@[simp] theorem State.set_clusters (s : State) (F : Fld) (i v : Nat) : (s.set F i v).clusters = s.clusters := rfl
@[simp] theorem State.set_fwVersion (s : State) (F : Fld) (i v : Nat) : (s.set F i v).fwVersion = s.fwVersion := rfl
@[simp] theorem State.set_fab (s : State) (F : Fld) (i v : Nat) : (s.set F i v).fab = s.fab := rfl
@[simp] theorem State.set_fabIn (s : State) (F : Fld) (i v : Nat) : (s.set F i v).fabIn = s.fabIn := rfl
@[simp] theorem State.set_transit (s : State) (F : Fld) (i v : Nat) : (s.set F i v).transit = s.transit := rfl
@[simp] theorem State.set_fabPath (s : State) (F : Fld) (i v : Nat) : (s.set F i v).fabPath = s.fabPath := rfl
@[simp] theorem State.set_fabFlight (s : State) (F : Fld) (i v : Nat) : (s.set F i v).fabFlight = s.fabFlight := rfl
@[simp] theorem State.set_fabHeld (s : State) (F : Fld) (i v : Nat) : (s.set F i v).fabHeld = s.fabHeld := rfl
@[simp] theorem State.set_flashA (s : State) (F : Fld) (i v : Nat) : (s.set F i v).flashA = s.flashA := rfl
@[simp] theorem State.set_flashB (s : State) (F : Fld) (i v : Nat) : (s.set F i v).flashB = s.flashB := rfl
@[simp] theorem State.set_fuses (s : State) (F : Fld) (i v : Nat) : (s.set F i v).fuses = s.fuses := rfl
@[simp] theorem State.set_checked (s : State) (F : Fld) (i v : Nat) : (s.set F i v).checked = s.checked := rfl
@[simp] theorem State.set_imgRun (s : State) (F : Fld) (i v : Nat) : (s.set F i v).imgRun = s.imgRun := rfl
@[simp] theorem State.set_keyRun (s : State) (F : Fld) (i v : Nat) : (s.set F i v).keyRun = s.keyRun := rfl
@[simp] theorem State.set_pendingId (s : State) (F : Fld) (i v : Nat) : (s.set F i v).pendingId = s.pendingId := rfl
@[simp] theorem State.set_idKey (s : State) (F : Fld) (i v : Nat) : (s.set F i v).idKey = s.idKey := rfl
@[simp] theorem State.set_bootKey (s : State) (F : Fld) (i v : Nat) : (s.set F i v).bootKey = s.bootKey := rfl
@[simp] theorem State.set_hbmReady (s : State) (F : Fld) (i v : Nat) : (s.set F i v).hbmReady = s.hbmReady := rfl
@[simp] theorem State.set_staged (s : State) (F : Fld) (i v : Nat) : (s.set F i v).staged = s.staged := rfl
@[simp] theorem State.set_resetBy (s : State) (F : Fld) (i v : Nat) : (s.set F i v).resetBy = s.resetBy := rfl
@[simp] theorem State.set_imgCtx (s : State) (F : Fld) (i v : Nat) : (s.set F i v).imgCtx = s.imgCtx := rfl
@[simp] theorem State.set_reloadDue (s : State) (F : Fld) (i v : Nat) : (s.set F i v).reloadDue = s.reloadDue := rfl
@[simp] theorem State.set_imgLater (s : State) (F : Fld) (i v : Nat) : (s.set F i v).imgLater = s.imgLater := rfl
@[simp] theorem State.set_sess (s : State) (F : Fld) (i v : Nat) : (s.set F i v).sess = s.sess := rfl
@[simp] theorem State.set_claims (s : State) (F : Fld) (i v : Nat) : (s.set F i v).claims = s.claims := rfl
@[simp] theorem State.set_leaseAt (s : State) (F : Fld) (i v : Nat) : (s.set F i v).leaseAt = s.leaseAt := rfl
@[simp] theorem State.set_evtSent (s : State) (F : Fld) (i v : Nat) : (s.set F i v).evtSent = s.evtSent := rfl
@[simp] theorem State.set_memRuns (s : State) (F : Fld) (i v : Nat) : (s.set F i v).memRuns = s.memRuns := rfl
@[simp] theorem State.set_refusals (s : State) (F : Fld) (i v : Nat) : (s.set F i v).refusals = s.refusals := rfl
@[simp] theorem State.set_accessing (s : State) (F : Fld) (i v : Nat) : (s.set F i v).accessing = s.accessing := rfl
@[simp] theorem State.set_inj (s : State) (F : Fld) (i v : Nat) : (s.set F i v).inj = s.inj := rfl
@[simp] theorem State.set_ember (s : State) (F : Fld) (i v : Nat) : (s.set F i v).ember = s.ember := rfl
@[simp] theorem State.set_repairMap (s : State) (F : Fld) (i v : Nat) : (s.set F i v).repairMap = s.repairMap := rfl
@[simp] theorem State.set_retiring (s : State) (F : Fld) (i v : Nat) : (s.set F i v).retiring = s.retiring := rfl
@[simp] theorem State.set_timPeers (s : State) (F : Fld) (i v : Nat) : (s.set F i v).timPeers = s.timPeers := rfl
@[simp] theorem State.set_servo (s : State) (F : Fld) (i v : Nat) : (s.set F i v).servo = s.servo := rfl
@[simp] theorem State.set_ptpBest (s : State) (F : Fld) (i v : Nat) : (s.set F i v).ptpBest = s.ptpBest := rfl
@[simp] theorem State.set_ptpAt (s : State) (F : Fld) (i v : Nat) : (s.set F i v).ptpAt = s.ptpAt := rfl
@[simp] theorem State.set_ppsUntil (s : State) (F : Fld) (i v : Nat) : (s.set F i v).ppsUntil = s.ppsUntil := rfl
@[simp] theorem State.set_tel (s : State) (F : Fld) (i v : Nat) : (s.set F i v).tel = s.tel := rfl
@[simp] theorem State.set_throttleNs (s : State) (F : Fld) (i v : Nat) : (s.set F i v).throttleNs = s.throttleNs := rfl
@[simp] theorem State.set_throttleAt (s : State) (F : Fld) (i v : Nat) : (s.set F i v).throttleAt = s.throttleAt := rfl
@[simp] theorem State.set_trcDue (s : State) (F : Fld) (i v : Nat) : (s.set F i v).trcDue = s.trcDue := rfl
@[simp] theorem State.set_trcSeq (s : State) (F : Fld) (i v : Nat) : (s.set F i v).trcSeq = s.trcSeq := rfl
@[simp] theorem State.set_trcDrop (s : State) (F : Fld) (i v : Nat) : (s.set F i v).trcDrop = s.trcDrop := rfl
@[simp] theorem State.set_slots (s : State) (F : Fld) (i v : Nat) : (s.set F i v).slots = s.slots := rfl
@[simp] theorem State.set_clkLost (s : State) (F : Fld) (i v : Nat) : (s.set F i v).clkLost = s.clkLost := rfl
@[simp] theorem State.set_pending (s : State) (F : Fld) (i v : Nat) : (s.set F i v).pending = s.pending := rfl

@[simp] theorem State.emit_regs (s : State) (o : Out) : (s.emit o).regs = s.regs := rfl
@[simp] theorem State.emit_phase (s : State) (o : Out) : (s.emit o).phase = s.phase := rfl
@[simp] theorem State.emit_clk (s : State) (o : Out) : (s.emit o).clk = s.clk := rfl
@[simp] theorem State.emit_tim (s : State) (o : Out) : (s.emit o).tim = s.tim := rfl
@[simp] theorem State.emit_freeCtr (s : State) (o : Out) : (s.emit o).freeCtr = s.freeCtr := rfl
@[simp] theorem State.emit_hbm (s : State) (o : Out) : (s.emit o).hbm = s.hbm := rfl
@[simp] theorem State.emit_hbmEcc (s : State) (o : Out) : (s.emit o).hbmEcc = s.hbmEcc := rfl
@[simp] theorem State.emit_blocks (s : State) (o : Out) : (s.emit o).blocks = s.blocks := rfl
@[simp] theorem State.emit_prbs (s : State) (o : Out) : (s.emit o).prbs = s.prbs := rfl
@[simp] theorem State.emit_ports (s : State) (o : Out) : (s.emit o).ports = s.ports := rfl
@[simp] theorem State.emit_partials (s : State) (o : Out) : (s.emit o).partials = s.partials := rfl
@[simp] theorem State.emit_vppbs (s : State) (o : Out) : (s.emit o).vppbs = s.vppbs := rfl
@[simp] theorem State.emit_fmReq (s : State) (o : Out) : (s.emit o).fmReq = s.fmReq := rfl
@[simp] theorem State.emit_cxlLog (s : State) (o : Out) : (s.emit o).cxlLog = s.cxlLog := rfl
@[simp] theorem State.emit_cxlHandle (s : State) (o : Out) : (s.emit o).cxlHandle = s.cxlHandle := rfl
@[simp] theorem State.emit_dcAdds (s : State) (o : Out) : (s.emit o).dcAdds = s.dcAdds := rfl
@[simp] theorem State.emit_dcReleases (s : State) (o : Out) : (s.emit o).dcReleases = s.dcReleases := rfl
@[simp] theorem State.emit_fillDue (s : State) (o : Out) : (s.emit o).fillDue = s.fillDue := rfl
@[simp] theorem State.emit_dcRegion (s : State) (o : Out) : (s.emit o).dcRegion = s.dcRegion := rfl
@[simp] theorem State.emit_dcSanitize (s : State) (o : Out) : (s.emit o).dcSanitize = s.dcSanitize := rfl
@[simp] theorem State.emit_biDecoder (s : State) (o : Out) : (s.emit o).biDecoder = s.biDecoder := rfl
@[simp] theorem State.emit_outst (s : State) (o : Out) : (s.emit o).outst = s.outst := rfl
@[simp] theorem State.emit_decodeQ (s : State) (o : Out) : (s.emit o).decodeQ = s.decodeQ := rfl
@[simp] theorem State.emit_portHold (s : State) (o : Out) : (s.emit o).portHold = s.portHold := rfl
@[simp] theorem State.emit_sflLanes (s : State) (o : Out) : (s.emit o).sflLanes = s.sflLanes := rfl
@[simp] theorem State.emit_sflTx (s : State) (o : Out) : (s.emit o).sflTx = s.sflTx := rfl
@[simp] theorem State.emit_sflTrain (s : State) (o : Out) : (s.emit o).sflTrain = s.sflTrain := rfl
@[simp] theorem State.emit_sfl (s : State) (o : Out) : (s.emit o).sfl = s.sfl := rfl
@[simp] theorem State.emit_ni (s : State) (o : Out) : (s.emit o).ni = s.ni := rfl
@[simp] theorem State.emit_voq (s : State) (o : Out) : (s.emit o).voq = s.voq := rfl
@[simp] theorem State.emit_ledger (s : State) (o : Out) : (s.emit o).ledger = s.ledger := rfl
@[simp] theorem State.emit_crQueue (s : State) (o : Out) : (s.emit o).crQueue = s.crQueue := rfl
@[simp] theorem State.emit_inflight (s : State) (o : Out) : (s.emit o).inflight = s.inflight := rfl
@[simp] theorem State.emit_rtr (s : State) (o : Out) : (s.emit o).rtr = s.rtr := rfl
@[simp] theorem State.emit_prb (s : State) (o : Out) : (s.emit o).prb = s.prb := rfl
@[simp] theorem State.emit_mir (s : State) (o : Out) : (s.emit o).mir = s.mir := rfl
@[simp] theorem State.emit_xing (s : State) (o : Out) : (s.emit o).xing = s.xing := rfl
@[simp] theorem State.emit_gateDrops (s : State) (o : Out) : (s.emit o).gateDrops = s.gateDrops := rfl
@[simp] theorem State.emit_wear (s : State) (o : Out) : (s.emit o).wear = s.wear := rfl
@[simp] theorem State.emit_margins (s : State) (o : Out) : (s.emit o).margins = s.margins := rfl
@[simp] theorem State.emit_bands (s : State) (o : Out) : (s.emit o).bands = s.bands := rfl
@[simp] theorem State.emit_buckets (s : State) (o : Out) : (s.emit o).buckets = s.buckets := rfl
@[simp] theorem State.emit_holdQ (s : State) (o : Out) : (s.emit o).holdQ = s.holdQ := rfl
@[simp] theorem State.emit_holdFull (s : State) (o : Out) : (s.emit o).holdFull = s.holdFull := rfl
@[simp] theorem State.emit_marks (s : State) (o : Out) : (s.emit o).marks = s.marks := rfl
@[simp] theorem State.emit_tcs (s : State) (o : Out) : (s.emit o).tcs = s.tcs := rfl
@[simp] theorem State.emit_bindRun (s : State) (o : Out) : (s.emit o).bindRun = s.bindRun := rfl
@[simp] theorem State.emit_stamps (s : State) (o : Out) : (s.emit o).stamps = s.stamps := rfl
@[simp] theorem State.emit_rep (s : State) (o : Out) : (s.emit o).rep = s.rep := rfl
@[simp] theorem State.emit_repEcc (s : State) (o : Out) : (s.emit o).repEcc = s.repEcc := rfl
@[simp] theorem State.emit_chipEcc (s : State) (o : Out) : (s.emit o).chipEcc = s.chipEcc := rfl
@[simp] theorem State.emit_wtag (s : State) (o : Out) : (s.emit o).wtag = s.wtag := rfl
@[simp] theorem State.emit_scrubAt (s : State) (o : Out) : (s.emit o).scrubAt = s.scrubAt := rfl
@[simp] theorem State.emit_l2Cache (s : State) (o : Out) : (s.emit o).l2Cache = s.l2Cache := rfl
@[simp] theorem State.emit_rmpRun (s : State) (o : Out) : (s.emit o).rmpRun = s.rmpRun := rfl
@[simp] theorem State.emit_decoders (s : State) (o : Out) : (s.emit o).decoders = s.decoders := rfl
@[simp] theorem State.emit_commitWait (s : State) (o : Out) : (s.emit o).commitWait = s.commitWait := rfl
@[simp] theorem State.emit_ideKeys (s : State) (o : Out) : (s.emit o).ideKeys = s.ideKeys := rfl
@[simp] theorem State.emit_resolved (s : State) (o : Out) : (s.emit o).resolved = s.resolved := rfl
@[simp] theorem State.emit_denials (s : State) (o : Out) : (s.emit o).denials = s.denials := rfl
@[simp] theorem State.emit_dirCache (s : State) (o : Out) : (s.emit o).dirCache = s.dirCache := rfl
@[simp] theorem State.emit_txns (s : State) (o : Out) : (s.emit o).txns = s.txns := rfl
@[simp] theorem State.emit_wbuf (s : State) (o : Out) : (s.emit o).wbuf = s.wbuf := rfl
@[simp] theorem State.emit_trkWait (s : State) (o : Out) : (s.emit o).trkWait = s.trkWait := rfl
@[simp] theorem State.emit_homeHolds (s : State) (o : Out) : (s.emit o).homeHolds = s.homeHolds := rfl
@[simp] theorem State.emit_spareUntil (s : State) (o : Out) : (s.emit o).spareUntil = s.spareUntil := rfl
@[simp] theorem State.emit_sweeping (s : State) (o : Out) : (s.emit o).sweeping = s.sweeping := rfl
@[simp] theorem State.emit_caidWait (s : State) (o : Out) : (s.emit o).caidWait = s.caidWait := rfl
@[simp] theorem State.emit_migWait (s : State) (o : Out) : (s.emit o).migWait = s.migWait := rfl
@[simp] theorem State.emit_migMaps (s : State) (o : Out) : (s.emit o).migMaps = s.migMaps := rfl
@[simp] theorem State.emit_migHeld (s : State) (o : Out) : (s.emit o).migHeld = s.migHeld := rfl
@[simp] theorem State.emit_accesses (s : State) (o : Out) : (s.emit o).accesses = s.accesses := rfl
@[simp] theorem State.emit_drainPhase (s : State) (o : Out) : (s.emit o).drainPhase = s.drainPhase := rfl
@[simp] theorem State.emit_drains (s : State) (o : Out) : (s.emit o).drains = s.drains := rfl
@[simp] theorem State.emit_migs (s : State) (o : Out) : (s.emit o).migs = s.migs := rfl
@[simp] theorem State.emit_hot (s : State) (o : Out) : (s.emit o).hot = s.hot := rfl
@[simp] theorem State.emit_engines (s : State) (o : Out) : (s.emit o).engines = s.engines := rfl
@[simp] theorem State.emit_clusters (s : State) (o : Out) : (s.emit o).clusters = s.clusters := rfl
@[simp] theorem State.emit_fwVersion (s : State) (o : Out) : (s.emit o).fwVersion = s.fwVersion := rfl
@[simp] theorem State.emit_fab (s : State) (o : Out) : (s.emit o).fab = s.fab := rfl
@[simp] theorem State.emit_fabIn (s : State) (o : Out) : (s.emit o).fabIn = s.fabIn := rfl
@[simp] theorem State.emit_transit (s : State) (o : Out) : (s.emit o).transit = s.transit := rfl
@[simp] theorem State.emit_fabPath (s : State) (o : Out) : (s.emit o).fabPath = s.fabPath := rfl
@[simp] theorem State.emit_fabFlight (s : State) (o : Out) : (s.emit o).fabFlight = s.fabFlight := rfl
@[simp] theorem State.emit_fabHeld (s : State) (o : Out) : (s.emit o).fabHeld = s.fabHeld := rfl
@[simp] theorem State.emit_flashA (s : State) (o : Out) : (s.emit o).flashA = s.flashA := rfl
@[simp] theorem State.emit_flashB (s : State) (o : Out) : (s.emit o).flashB = s.flashB := rfl
@[simp] theorem State.emit_fuses (s : State) (o : Out) : (s.emit o).fuses = s.fuses := rfl
@[simp] theorem State.emit_checked (s : State) (o : Out) : (s.emit o).checked = s.checked := rfl
@[simp] theorem State.emit_imgRun (s : State) (o : Out) : (s.emit o).imgRun = s.imgRun := rfl
@[simp] theorem State.emit_keyRun (s : State) (o : Out) : (s.emit o).keyRun = s.keyRun := rfl
@[simp] theorem State.emit_pendingId (s : State) (o : Out) : (s.emit o).pendingId = s.pendingId := rfl
@[simp] theorem State.emit_idKey (s : State) (o : Out) : (s.emit o).idKey = s.idKey := rfl
@[simp] theorem State.emit_bootKey (s : State) (o : Out) : (s.emit o).bootKey = s.bootKey := rfl
@[simp] theorem State.emit_hbmReady (s : State) (o : Out) : (s.emit o).hbmReady = s.hbmReady := rfl
@[simp] theorem State.emit_staged (s : State) (o : Out) : (s.emit o).staged = s.staged := rfl
@[simp] theorem State.emit_resetBy (s : State) (o : Out) : (s.emit o).resetBy = s.resetBy := rfl
@[simp] theorem State.emit_imgCtx (s : State) (o : Out) : (s.emit o).imgCtx = s.imgCtx := rfl
@[simp] theorem State.emit_reloadDue (s : State) (o : Out) : (s.emit o).reloadDue = s.reloadDue := rfl
@[simp] theorem State.emit_imgLater (s : State) (o : Out) : (s.emit o).imgLater = s.imgLater := rfl
@[simp] theorem State.emit_sess (s : State) (o : Out) : (s.emit o).sess = s.sess := rfl
@[simp] theorem State.emit_claims (s : State) (o : Out) : (s.emit o).claims = s.claims := rfl
@[simp] theorem State.emit_leaseAt (s : State) (o : Out) : (s.emit o).leaseAt = s.leaseAt := rfl
@[simp] theorem State.emit_evtSent (s : State) (o : Out) : (s.emit o).evtSent = s.evtSent := rfl
@[simp] theorem State.emit_memRuns (s : State) (o : Out) : (s.emit o).memRuns = s.memRuns := rfl
@[simp] theorem State.emit_refusals (s : State) (o : Out) : (s.emit o).refusals = s.refusals := rfl
@[simp] theorem State.emit_accessing (s : State) (o : Out) : (s.emit o).accessing = s.accessing := rfl
@[simp] theorem State.emit_inj (s : State) (o : Out) : (s.emit o).inj = s.inj := rfl
@[simp] theorem State.emit_ember (s : State) (o : Out) : (s.emit o).ember = s.ember := rfl
@[simp] theorem State.emit_repairMap (s : State) (o : Out) : (s.emit o).repairMap = s.repairMap := rfl
@[simp] theorem State.emit_retiring (s : State) (o : Out) : (s.emit o).retiring = s.retiring := rfl
@[simp] theorem State.emit_timPeers (s : State) (o : Out) : (s.emit o).timPeers = s.timPeers := rfl
@[simp] theorem State.emit_servo (s : State) (o : Out) : (s.emit o).servo = s.servo := rfl
@[simp] theorem State.emit_ptpBest (s : State) (o : Out) : (s.emit o).ptpBest = s.ptpBest := rfl
@[simp] theorem State.emit_ptpAt (s : State) (o : Out) : (s.emit o).ptpAt = s.ptpAt := rfl
@[simp] theorem State.emit_ppsUntil (s : State) (o : Out) : (s.emit o).ppsUntil = s.ppsUntil := rfl
@[simp] theorem State.emit_tel (s : State) (o : Out) : (s.emit o).tel = s.tel := rfl
@[simp] theorem State.emit_throttleNs (s : State) (o : Out) : (s.emit o).throttleNs = s.throttleNs := rfl
@[simp] theorem State.emit_throttleAt (s : State) (o : Out) : (s.emit o).throttleAt = s.throttleAt := rfl
@[simp] theorem State.emit_trcDue (s : State) (o : Out) : (s.emit o).trcDue = s.trcDue := rfl
@[simp] theorem State.emit_trcSeq (s : State) (o : Out) : (s.emit o).trcSeq = s.trcSeq := rfl
@[simp] theorem State.emit_trcDrop (s : State) (o : Out) : (s.emit o).trcDrop = s.trcDrop := rfl
@[simp] theorem State.emit_slots (s : State) (o : Out) : (s.emit o).slots = s.slots := rfl
@[simp] theorem State.emit_clkLost (s : State) (o : Out) : (s.emit o).clkLost = s.clkLost := rfl
@[simp] theorem State.emit_pending (s : State) (o : Out) : (s.emit o).pending = s.pending := rfl

@[simp] theorem State.fresh_regs (s : State) : (s.fresh).regs = s.regs := rfl
@[simp] theorem State.fresh_phase (s : State) : (s.fresh).phase = s.phase := rfl
@[simp] theorem State.fresh_clk (s : State) : (s.fresh).clk = s.clk := rfl
@[simp] theorem State.fresh_tim (s : State) : (s.fresh).tim = s.tim := rfl
@[simp] theorem State.fresh_out (s : State) : (s.fresh).out = s.out := rfl
@[simp] theorem State.fresh_hbm (s : State) : (s.fresh).hbm = s.hbm := rfl
@[simp] theorem State.fresh_hbmEcc (s : State) : (s.fresh).hbmEcc = s.hbmEcc := rfl
@[simp] theorem State.fresh_blocks (s : State) : (s.fresh).blocks = s.blocks := rfl
@[simp] theorem State.fresh_prbs (s : State) : (s.fresh).prbs = s.prbs := rfl
@[simp] theorem State.fresh_ports (s : State) : (s.fresh).ports = s.ports := rfl
@[simp] theorem State.fresh_partials (s : State) : (s.fresh).partials = s.partials := rfl
@[simp] theorem State.fresh_vppbs (s : State) : (s.fresh).vppbs = s.vppbs := rfl
@[simp] theorem State.fresh_fmReq (s : State) : (s.fresh).fmReq = s.fmReq := rfl
@[simp] theorem State.fresh_cxlLog (s : State) : (s.fresh).cxlLog = s.cxlLog := rfl
@[simp] theorem State.fresh_cxlHandle (s : State) : (s.fresh).cxlHandle = s.cxlHandle := rfl
@[simp] theorem State.fresh_dcAdds (s : State) : (s.fresh).dcAdds = s.dcAdds := rfl
@[simp] theorem State.fresh_dcReleases (s : State) : (s.fresh).dcReleases = s.dcReleases := rfl
@[simp] theorem State.fresh_fillDue (s : State) : (s.fresh).fillDue = s.fillDue := rfl
@[simp] theorem State.fresh_dcRegion (s : State) : (s.fresh).dcRegion = s.dcRegion := rfl
@[simp] theorem State.fresh_dcSanitize (s : State) : (s.fresh).dcSanitize = s.dcSanitize := rfl
@[simp] theorem State.fresh_biDecoder (s : State) : (s.fresh).biDecoder = s.biDecoder := rfl
@[simp] theorem State.fresh_outst (s : State) : (s.fresh).outst = s.outst := rfl
@[simp] theorem State.fresh_decodeQ (s : State) : (s.fresh).decodeQ = s.decodeQ := rfl
@[simp] theorem State.fresh_portHold (s : State) : (s.fresh).portHold = s.portHold := rfl
@[simp] theorem State.fresh_sflLanes (s : State) : (s.fresh).sflLanes = s.sflLanes := rfl
@[simp] theorem State.fresh_sflTx (s : State) : (s.fresh).sflTx = s.sflTx := rfl
@[simp] theorem State.fresh_sflTrain (s : State) : (s.fresh).sflTrain = s.sflTrain := rfl
@[simp] theorem State.fresh_sfl (s : State) : (s.fresh).sfl = s.sfl := rfl
@[simp] theorem State.fresh_ni (s : State) : (s.fresh).ni = s.ni := rfl
@[simp] theorem State.fresh_voq (s : State) : (s.fresh).voq = s.voq := rfl
@[simp] theorem State.fresh_ledger (s : State) : (s.fresh).ledger = s.ledger := rfl
@[simp] theorem State.fresh_crQueue (s : State) : (s.fresh).crQueue = s.crQueue := rfl
@[simp] theorem State.fresh_inflight (s : State) : (s.fresh).inflight = s.inflight := rfl
@[simp] theorem State.fresh_rtr (s : State) : (s.fresh).rtr = s.rtr := rfl
@[simp] theorem State.fresh_prb (s : State) : (s.fresh).prb = s.prb := rfl
@[simp] theorem State.fresh_mir (s : State) : (s.fresh).mir = s.mir := rfl
@[simp] theorem State.fresh_xing (s : State) : (s.fresh).xing = s.xing := rfl
@[simp] theorem State.fresh_gateDrops (s : State) : (s.fresh).gateDrops = s.gateDrops := rfl
@[simp] theorem State.fresh_wear (s : State) : (s.fresh).wear = s.wear := rfl
@[simp] theorem State.fresh_margins (s : State) : (s.fresh).margins = s.margins := rfl
@[simp] theorem State.fresh_bands (s : State) : (s.fresh).bands = s.bands := rfl
@[simp] theorem State.fresh_buckets (s : State) : (s.fresh).buckets = s.buckets := rfl
@[simp] theorem State.fresh_holdQ (s : State) : (s.fresh).holdQ = s.holdQ := rfl
@[simp] theorem State.fresh_holdFull (s : State) : (s.fresh).holdFull = s.holdFull := rfl
@[simp] theorem State.fresh_marks (s : State) : (s.fresh).marks = s.marks := rfl
@[simp] theorem State.fresh_tcs (s : State) : (s.fresh).tcs = s.tcs := rfl
@[simp] theorem State.fresh_bindRun (s : State) : (s.fresh).bindRun = s.bindRun := rfl
@[simp] theorem State.fresh_stamps (s : State) : (s.fresh).stamps = s.stamps := rfl
@[simp] theorem State.fresh_rep (s : State) : (s.fresh).rep = s.rep := rfl
@[simp] theorem State.fresh_repEcc (s : State) : (s.fresh).repEcc = s.repEcc := rfl
@[simp] theorem State.fresh_chipEcc (s : State) : (s.fresh).chipEcc = s.chipEcc := rfl
@[simp] theorem State.fresh_wtag (s : State) : (s.fresh).wtag = s.wtag := rfl
@[simp] theorem State.fresh_scrubAt (s : State) : (s.fresh).scrubAt = s.scrubAt := rfl
@[simp] theorem State.fresh_l2Cache (s : State) : (s.fresh).l2Cache = s.l2Cache := rfl
@[simp] theorem State.fresh_rmpRun (s : State) : (s.fresh).rmpRun = s.rmpRun := rfl
@[simp] theorem State.fresh_decoders (s : State) : (s.fresh).decoders = s.decoders := rfl
@[simp] theorem State.fresh_commitWait (s : State) : (s.fresh).commitWait = s.commitWait := rfl
@[simp] theorem State.fresh_ideKeys (s : State) : (s.fresh).ideKeys = s.ideKeys := rfl
@[simp] theorem State.fresh_resolved (s : State) : (s.fresh).resolved = s.resolved := rfl
@[simp] theorem State.fresh_denials (s : State) : (s.fresh).denials = s.denials := rfl
@[simp] theorem State.fresh_dirCache (s : State) : (s.fresh).dirCache = s.dirCache := rfl
@[simp] theorem State.fresh_txns (s : State) : (s.fresh).txns = s.txns := rfl
@[simp] theorem State.fresh_wbuf (s : State) : (s.fresh).wbuf = s.wbuf := rfl
@[simp] theorem State.fresh_trkWait (s : State) : (s.fresh).trkWait = s.trkWait := rfl
@[simp] theorem State.fresh_homeHolds (s : State) : (s.fresh).homeHolds = s.homeHolds := rfl
@[simp] theorem State.fresh_spareUntil (s : State) : (s.fresh).spareUntil = s.spareUntil := rfl
@[simp] theorem State.fresh_sweeping (s : State) : (s.fresh).sweeping = s.sweeping := rfl
@[simp] theorem State.fresh_caidWait (s : State) : (s.fresh).caidWait = s.caidWait := rfl
@[simp] theorem State.fresh_migWait (s : State) : (s.fresh).migWait = s.migWait := rfl
@[simp] theorem State.fresh_migMaps (s : State) : (s.fresh).migMaps = s.migMaps := rfl
@[simp] theorem State.fresh_migHeld (s : State) : (s.fresh).migHeld = s.migHeld := rfl
@[simp] theorem State.fresh_accesses (s : State) : (s.fresh).accesses = s.accesses := rfl
@[simp] theorem State.fresh_drainPhase (s : State) : (s.fresh).drainPhase = s.drainPhase := rfl
@[simp] theorem State.fresh_drains (s : State) : (s.fresh).drains = s.drains := rfl
@[simp] theorem State.fresh_migs (s : State) : (s.fresh).migs = s.migs := rfl
@[simp] theorem State.fresh_hot (s : State) : (s.fresh).hot = s.hot := rfl
@[simp] theorem State.fresh_engines (s : State) : (s.fresh).engines = s.engines := rfl
@[simp] theorem State.fresh_clusters (s : State) : (s.fresh).clusters = s.clusters := rfl
@[simp] theorem State.fresh_fwVersion (s : State) : (s.fresh).fwVersion = s.fwVersion := rfl
@[simp] theorem State.fresh_fab (s : State) : (s.fresh).fab = s.fab := rfl
@[simp] theorem State.fresh_fabIn (s : State) : (s.fresh).fabIn = s.fabIn := rfl
@[simp] theorem State.fresh_transit (s : State) : (s.fresh).transit = s.transit := rfl
@[simp] theorem State.fresh_fabPath (s : State) : (s.fresh).fabPath = s.fabPath := rfl
@[simp] theorem State.fresh_fabFlight (s : State) : (s.fresh).fabFlight = s.fabFlight := rfl
@[simp] theorem State.fresh_fabHeld (s : State) : (s.fresh).fabHeld = s.fabHeld := rfl
@[simp] theorem State.fresh_flashA (s : State) : (s.fresh).flashA = s.flashA := rfl
@[simp] theorem State.fresh_flashB (s : State) : (s.fresh).flashB = s.flashB := rfl
@[simp] theorem State.fresh_fuses (s : State) : (s.fresh).fuses = s.fuses := rfl
@[simp] theorem State.fresh_checked (s : State) : (s.fresh).checked = s.checked := rfl
@[simp] theorem State.fresh_imgRun (s : State) : (s.fresh).imgRun = s.imgRun := rfl
@[simp] theorem State.fresh_keyRun (s : State) : (s.fresh).keyRun = s.keyRun := rfl
@[simp] theorem State.fresh_pendingId (s : State) : (s.fresh).pendingId = s.pendingId := rfl
@[simp] theorem State.fresh_idKey (s : State) : (s.fresh).idKey = s.idKey := rfl
@[simp] theorem State.fresh_bootKey (s : State) : (s.fresh).bootKey = s.bootKey := rfl
@[simp] theorem State.fresh_hbmReady (s : State) : (s.fresh).hbmReady = s.hbmReady := rfl
@[simp] theorem State.fresh_staged (s : State) : (s.fresh).staged = s.staged := rfl
@[simp] theorem State.fresh_resetBy (s : State) : (s.fresh).resetBy = s.resetBy := rfl
@[simp] theorem State.fresh_imgCtx (s : State) : (s.fresh).imgCtx = s.imgCtx := rfl
@[simp] theorem State.fresh_reloadDue (s : State) : (s.fresh).reloadDue = s.reloadDue := rfl
@[simp] theorem State.fresh_imgLater (s : State) : (s.fresh).imgLater = s.imgLater := rfl
@[simp] theorem State.fresh_sess (s : State) : (s.fresh).sess = s.sess := rfl
@[simp] theorem State.fresh_claims (s : State) : (s.fresh).claims = s.claims := rfl
@[simp] theorem State.fresh_leaseAt (s : State) : (s.fresh).leaseAt = s.leaseAt := rfl
@[simp] theorem State.fresh_evtSent (s : State) : (s.fresh).evtSent = s.evtSent := rfl
@[simp] theorem State.fresh_memRuns (s : State) : (s.fresh).memRuns = s.memRuns := rfl
@[simp] theorem State.fresh_refusals (s : State) : (s.fresh).refusals = s.refusals := rfl
@[simp] theorem State.fresh_accessing (s : State) : (s.fresh).accessing = s.accessing := rfl
@[simp] theorem State.fresh_inj (s : State) : (s.fresh).inj = s.inj := rfl
@[simp] theorem State.fresh_ember (s : State) : (s.fresh).ember = s.ember := rfl
@[simp] theorem State.fresh_repairMap (s : State) : (s.fresh).repairMap = s.repairMap := rfl
@[simp] theorem State.fresh_retiring (s : State) : (s.fresh).retiring = s.retiring := rfl
@[simp] theorem State.fresh_timPeers (s : State) : (s.fresh).timPeers = s.timPeers := rfl
@[simp] theorem State.fresh_servo (s : State) : (s.fresh).servo = s.servo := rfl
@[simp] theorem State.fresh_ptpBest (s : State) : (s.fresh).ptpBest = s.ptpBest := rfl
@[simp] theorem State.fresh_ptpAt (s : State) : (s.fresh).ptpAt = s.ptpAt := rfl
@[simp] theorem State.fresh_ppsUntil (s : State) : (s.fresh).ppsUntil = s.ppsUntil := rfl
@[simp] theorem State.fresh_tel (s : State) : (s.fresh).tel = s.tel := rfl
@[simp] theorem State.fresh_throttleNs (s : State) : (s.fresh).throttleNs = s.throttleNs := rfl
@[simp] theorem State.fresh_throttleAt (s : State) : (s.fresh).throttleAt = s.throttleAt := rfl
@[simp] theorem State.fresh_trcDue (s : State) : (s.fresh).trcDue = s.trcDue := rfl
@[simp] theorem State.fresh_trcSeq (s : State) : (s.fresh).trcSeq = s.trcSeq := rfl
@[simp] theorem State.fresh_trcDrop (s : State) : (s.fresh).trcDrop = s.trcDrop := rfl
@[simp] theorem State.fresh_slots (s : State) : (s.fresh).slots = s.slots := rfl
@[simp] theorem State.fresh_clkLost (s : State) : (s.fresh).clkLost = s.clkLost := rfl
@[simp] theorem State.fresh_pending (s : State) : (s.fresh).pending = s.pending := rfl

@[simp] theorem State.emit_out (s : State) (o : Out) : (s.emit o).out = s.out ++ [o] := rfl
@[simp] theorem State.fresh_freeCtr (s : State) : s.fresh.freeCtr = s.freeCtr + 1 := rfl
@[simp] theorem State.setReg_regs (s : State) (k : RegKind) (i : Nat) (w : Word) : (s.setReg k i w).regs = Tbl.wr regReset s.regs (k.key i) w := rfl
@[simp] theorem State.emit_reg (s : State) (o : Out) (k : RegKind) (i : Nat) : (s.emit o).reg k i = s.reg k i := rfl
@[simp] theorem State.emit_get (s : State) (o : Out) (F : Fld) (i : Nat) : (s.emit o).get F i = s.get F i := rfl
@[simp] theorem State.fresh_reg (s : State) (k : RegKind) (i : Nat) : s.fresh.reg k i = s.reg k i := rfl
@[simp] theorem State.fresh_get (s : State) (F : Fld) (i : Nat) : s.fresh.get F i = s.get F i := rfl
@[simp] theorem State.writeHbm_regs (s : State) (a : Nat) (bs : List Byte) : (s.writeHbm a bs).regs = s.regs := rfl
@[simp] theorem State.writeHbm_pending (s : State) (a : Nat) (bs : List Byte) : (s.writeHbm a bs).pending = s.pending := rfl
@[simp] theorem State.writeHbm_hbm (s : State) (a : Nat) (bs : List Byte) : (s.writeHbm a bs).hbm = Memory.writeBytes s.hbm a bs := rfl
@[simp] theorem State.clearHbm_regs (s : State) (a n : Nat) : (s.clearHbm a n).regs = s.regs := rfl
@[simp] theorem State.clearHbm_pending (s : State) (a n : Nat) : (s.clearHbm a n).pending = s.pending := rfl
@[simp] theorem State.clearHbm_hbm (s : State) (a n : Nat) : (s.clearHbm a n).hbm = Memory.clear s.hbm a n := rfl

end Sys2Proof.Machine
end

