-- ==== Sys2Proof/Tests/Slice0.lean ====
section
/-! SUPPORT. Tests: commands that the check of form refuses, effects whose values the spec's own examples give, and for every statement about some states a state and operands that meet what it asks. -/

namespace Sys2Proof.Tests

open Sys2Proof Sys2Proof.Machine

set_option Elab.async false

/-! ### States and operands -/

/-- A packet for the witnesses. -/
def samplePkt : Pkt := { Pkt.blank with src := 1, rlen := 1 }

/-- A running job of a service, for the witnesses: eight descriptor words, word 0 the service. -/
def sampleRun (ws : List Word) : JobRun := ⟨⟨some 1, 0, ws, 0⟩, 0, 0, none, 0, 0, 0, 0, 0, [], [], false, 0, 0⟩

/-- A memory request for the witnesses. -/
def sampleReq : MemReq := ⟨.session 0, .internal, .poa 0, false, false, 64, [], 0, 0, false, false⟩

/-- A part of a request for the witnesses: the last line of the POA space. -/
def samplePart : Part := ⟨sampleReq, 0, 0, 64, some (2 ^ 46 - 64), 0, 0, 0, false⟩

/-- The memory that holds some bytes from an address on, in canonical form. -/
def image (a : Nat) : List Byte → Memory
  | [] => []
  | b :: bs => if b = 0 then image (a + 1) bs else (a, b) :: image (a + 1) bs

theorem image_below (bs : List Byte) (a k : Nat) (h : k < a) : Tbl.find (image a bs) k = none := by
  induction bs generalizing a with
  | nil => rfl
  | cons b bs ih =>
    unfold image
    split
    · exact ih (a + 1) (by omega)
    · simp [Tbl.find, ih (a + 1) (by omega), show a ≠ k by omega]

theorem image_read (bs : List Byte) (a k : Nat) : (image a bs).read (a + k) = bs.getD k 0 := by
  induction bs generalizing a k with
  | nil => rfl
  | cons b bs ih =>
    unfold image
    cases k with
    | zero =>
      split
      · rename_i h
        simp [Memory.read, Tbl.rd, image_below bs (a + 1) a (by omega), Memory.unlisted, h]
      · simp [Memory.read, Tbl.rd, Tbl.find]
    | succ k =>
      have := ih (a + 1) k
      rw [show a + 1 + k = a + (k + 1) by omega] at this
      split
      · simpa using this
      · simpa [Memory.read, Tbl.rd, Tbl.find] using this

/-- Byte k of a level-2 table whose entries map one contiguous extent at device extent 0. -/
def tableByte (k : Nat) : Byte := BitVec.ofNat 8 ((1 + k / 8 * 2 ^ 25) / 256 ^ (k % 8))

/-- The bytes of that table. -/
def tableBytes : List Byte := (List.range 4096).map tableByte

theorem tableBytes_getD (k : Nat) (h : k < 4096) : tableBytes.getD k 0 = tableByte k := by
  simp [tableBytes, List.getD, h]

/-- Entry g of that table. -/
def tableEntry (g : Nat) : Word := word (1 + g * 2 ^ 25)

theorem tableByte_entry : ∀ g : Fin 512, word (ofBytes ((List.range 8).map fun i => tableByte (8 * g + i))) = tableEntry g := by
  decide +kernel

/-- A state whose extent 5 is fractured into that table. -/
def wUnfr : State := ({ (((State.reset.set L1_W0.VALID 5 1).set L1_W0.FRACT 5 1).set MGT_HBM_PART.L2_64M 0 1) with hbm := image 0x20000000 tableBytes } : State)

theorem wUnfr_entry (g : Nat) (h : g < 512) : wUnfr.l2Entry g = tableEntry g := by
  have e : wUnfr.l2Addr g = 0x20000000 + 8 * g := by
    have : wUnfr.l2Base = 0x20000000 := by decide +kernel
    simp [State.l2Addr, this, Nat.mul_comm]
  have b : wUnfr.hbm = image 0x20000000 tableBytes := by simp only [wUnfr]
  rw [State.l2Entry, e, State.hbm64, State.readHbm, Memory.readBytes, b]
  refine (congrArg (fun l => word (ofBytes l)) (List.map_congr_left fun i hi => ?_)).trans (tableByte_entry ⟨g, h⟩)
  rw [Nat.add_assoc, image_read, tableBytes_getD _ (by simp at hi; omega)]

theorem wUnfr_status : wUnfr.unfractureStatus 5 = 0 := by
  have e : wUnfr.extentEntries 5 = (List.range 512).map fun g => tableEntry g := by
    apply List.map_congr_left
    intro g hg
    rw [show wUnfr.get L1_W0.L2PTR 5 = 0 by decide +kernel, Nat.zero_mul, Nat.zero_add, wUnfr_entry g (by simpa using hg)]
  have h1 : wUnfr.flag L1_W0.VALID 5 = true := by decide +kernel
  have h2 : wUnfr.flag L1_W0.FRACT 5 = true := by decide +kernel
  have h4 : contiguous ((List.range 512).map fun g => tableEntry g) = true := by
    have c : ∀ g : Fin 512, (let v := tableEntry g; let w := tableEntry 0; let d := l2Gran w / 512
        (l2Valid v && !l2Mig v && !l2Hold v && decide (l2Target v = l2Target w) && decide (l2Ld v = l2Ld w) && decide (l2Gran v = d * 512 + g)) = true) := by
      decide +kernel
    rw [show (512 : Nat) = 511 + 1 from rfl, List.range_succ_eq_map, List.map_cons]
    unfold contiguous
    simp only [List.all_eq_true]
    intro g hg
    have hg : g < 512 := by simpa using hg
    rw [← List.map_cons (f := fun g => tableEntry g), ← List.range_succ_eq_map,
      show ((List.range (511 + 1)).map fun g => tableEntry g).getD g 0 = tableEntry g by simp [List.getD, hg]]
    exact c ⟨g, hg⟩
  have h3 : wUnfr.extentBusy 5 = false := by
    have c : ∀ g : Fin 512, (l2Mig (tableEntry g) || l2Hold (tableEntry g)) = false := by decide +kernel
    rw [State.extentBusy, e, show wUnfr.migWait.contains 5 = false by decide +kernel, Bool.false_or, Bool.and_eq_false_iff]
    right
    simp only [List.any_eq_false, List.mem_map, List.mem_range]
    rintro _ ⟨g, hg, rfl⟩
    simpa using c ⟨g, hg⟩
  simp [State.unfractureStatus, h1, h2, h3, e, h4]


/-- An operating chip whose owner is session 7, the CCI of port 127. -/
def wOwner : State :=
  (((((({ State.reset with phase := .operating }.set MGT_SESS.OPEN 7 1).set MGT_SESS.PATH 7 0).set MGT_SESS.WHERE 7 127).set MGT_OWN_STAT.HELD 0 1).set
    MGT_OWN_STAT.OWNER 0 7).set PRT_CFG.MODE 63 2).set PRT_CFG.ROLE1 63 0

/-- A PTP master, for the samples. -/
def sampleMaster : PtpMaster := ⟨0, 0, 0, 0, 0, 0, 0, 0, 0⟩

/-- A command completes. -/
def completes (o : Host.Outcome State Fault Refusal) : Bool :=
  match o with
  | .next _ => true
  | _ => false

/-- A command stops, naming a unit that does not exist. -/
def stops (o : Host.Outcome State Fault Refusal) : Bool :=
  match o with
  | .fault .noSuchUnit => true
  | _ => false

/-! ### Form: one command for each check, one past the last unit that exists -/


/-- Commands that name a unit which does not exist, part 0. -/
theorem test_ill_formed_0 :
    ([.crossingFlitArrival 64 7 1 true,
      .crossingFlitArrival 63 8 1 true,
      .debugViewAccess 8 1 1 1 true 1,
      .bringUpStart 128 1 [],
      .trainingStageEnd 128 true ⟨0, false, none, none, false, false, false, false, 0, false, false, false⟩ 1,
      .adminWrite 64 true true,
      .symbolWindowEnd 64 8 1,
      .symbolWindowEnd 63 9 1,
      .laneMark 64 7 1,
      .laneMark 63 8 1,
      .l0pRequestPartner 128 1,
      .l0pTgtWrite 64 1 1,
      .l0pTgtWrite 63 2 1,
      .l0pChangeComplete 128,
      .retrainWrite 64 true true,
      .recoveryEntry 128,
      .recoveryComplete 128 true,
      .markClear 64 1,
      .spareSelfCheck 64 true,
      .prbsEnWrite 64 1,
      .prbsSnap 64 1 [],
      .prbsCheckerLock 64 8 1,
      .prbsCheckerLock 63 9 1,
      .prbsCheckerLoseLock 64 8 1 1,
      .prbsCheckerLoseLock 63 9 1 1,
      .dlUpLoss 128 true 1,
      .bindVppb 128 1 1 1 none,
      .bindComplete 1024,
      .unbindVppb 128 1 1 1,
      .unbindComplete 1024,
      .hotRemoveTimeout 1024,
      .hostPowerOff 1024,
      .abortBackground 128 1,
      .identify 128 1,
      .backgroundStatus 128 1,
      .getResponseLimit 128 1,
      .setResponseLimit 128 1 1,
      .getEventRecords 128 1,
      .clearEventRecords 128 1 [],
      .getEventPolicy 128 1] : List Instr).all (fun i => !i.wf && stops (exec i State.reset)) = true := by
  decide +kernel

/-- Commands that name a unit which does not exist, part 1. -/
theorem test_ill_formed_1 :
    ([.setEventPolicy 128 1 1,
      .getTimestamp 128 1,
      .getSupportedLogs 128 1,
      .getLog 128 1,
      .identifySwitch 128 1,
      .getPortState 128 1 [],
      .portControl 128 1 1 1,
      .ppbConfig 128 1 1 [] [],
      .vcsInfo 128 1 1,
      .generateAer 128 1 1 1,
      .tunnel 128 1 1 [] [] [],
      .ldConfig 128 1 1 1 [] [],
      .ldMemory 128 1 1 1 [] [],
      .dcdInfo 128 1,
      .dcConfig 128 1 1,
      .setDcConfig 128 1 1 1 true,
      .extentLists 128 1 1,
      .dcAdd 128 1 1 1 1,
      .dcAddResponse 64 7 [],
      .dcAddResponse 63 8 [],
      .dcAddTimeout 64 7,
      .dcAddTimeout 63 8,
      .dcRelease 128 1 1 1 [],
      .weuskOverCci 128 1 1 1,
      .unsupportedOpcode 128 1 1,
      .hdmDecoderCommit 64 1 HdmDecoder.off,
      .biEnableWrite 64 true true,
      .targetSurpriseRemoval 128 1,
      .ideIntegrityFailure 128 1,
      .markerCandidate 64 8 1 1 true,
      .markerCandidate 63 9 1 1 true,
      .markerCheck 64 8 1 true,
      .markerCheck 63 9 1 true,
      .codewordDecode 64 8 true 1 [],
      .codewordDecode 63 9 true 1 [],
      .calibrationDone 64 1,
      .signalDetect 64 1,
      .trainBlockReceived 64 8 ⟨2, 0⟩,
      .trainBlockReceived 63 9 ⟨2, 0⟩,
      .adaptDone 64] : List Instr).all (fun i => !i.wf && stops (exec i State.reset)) = true := by
  decide +kernel

/-- Commands that name a unit which does not exist, part 2. -/
theorem test_ill_formed_2 :
    ([.adaptBoundExceeded 64,
      .adaptPartnerDoneTimeout 64,
      .deskewRelease 64 [],
      .capBlockReceived 64 1,
      .capxComplete 64 1,
      .capxTimeout 64,
      .trainingFailBackoffEnd 64,
      .checkUnitReceived 64 [],
      .partnerRetrainDetect 64 1,
      .sflRetrainWrite 64,
      .dataUnitSend 64,
      .flowUnitReceived 64 [],
      .ackReceived 64 1,
      .nakReceived 64 1,
      .replayTimeout 64,
      .replayUnitResend 64,
      .replayMaxExceeded 64,
      .ackTimer 64,
      .nakResendTimer 64,
      .xoffUpdate 64 7,
      .xoffUpdate 63 8,
      .timingSlot 64,
      .timingUnitReceived 64 [] 1,
      .laneSet 64 true 1 1,
      .laneAck 64 1 1,
      .laneNak 64 1 1,
      .switchLanes 64 true 1 1,
      .keysync 64 1 1,
      .activeLaneLockLoss 64 15,
      .activeLaneLockLoss 63 16,
      .laneReqWrite 64,
      .sflLinkDown 64,
      .downTmoExpiry 64,
      .sflKeyCommit 64 1,
      .txSlotWrite 64 1,
      .txSlotWrite 63 2,
      .keyCountLimit 64 1,
      .keyCountLimit 63 2,
      .packetInject 134 (.answer 0) samplePkt,
      .routeEntryWrite 134 63 3 1] : List Instr).all (fun i => !i.wf && stops (exec i State.reset)) = true := by
  decide +kernel

/-- Commands that name a unit which does not exist, part 3. -/
theorem test_ill_formed_3 :
    ([.routeEntryWrite 133 64 3 1,
      .routeEntryWrite 133 63 4 1,
      .routeChangeResume 134 63,
      .routeChangeResume 133 64,
      .flitSwitch 64 6 1 1,
      .flitSwitch 63 7 1 1,
      .linkWireSpare 64 3 1,
      .linkWireSpare 63 4 1,
      .voqInject 134,
      .creditRequest 134 693,
      .creditRequest 133 694,
      .creditGrant 694,
      .creditReturn 694 133,
      .creditReturn 693 134,
      .sharedGrantRelease 134 693,
      .sharedGrantRelease 133 694,
      .egressPacketSend 128,
      .messageToDecode 128 true (.request sampleReq),
      .fabricHeaderRebuild 64 (.arrive 0),
      .quenchTrigger 134 1,
      .quenchNoticeArrival 134 133 1,
      .quenchNoticeArrival 133 134 1,
      .quenchSet 4 1,
      .quenchClear 4 1,
      .slagAnswer 134,
      .unquench 134,
      .unquenchNoticeArrival 134 133,
      .unquenchNoticeArrival 133 134,
      .mirrorCopy 16 127 true true 1 [],
      .mirrorCopy 15 128 true true 1 [],
      .mirrorRecordWrite 16,
      .probeMatch 64 1 samplePkt,
      .probeSnap 64,
      .mirrorEnWrite 16 1,
      .requestColour ⟨0, 128, 0, 0, false, 0, samplePkt⟩,
      .holdQueueRetest 65537,
      .holdQueueFull 65537,
      .holdBoundExpiry 65537,
      .holdBoundWrite 4 1,
      .contextRewrite 65537 1 1] : List Instr).all (fun i => !i.wf && stops (exec i State.reset)) = true := by
  decide +kernel

/-- Commands that name a unit which does not exist, part 4. -/
theorem test_ill_formed_4 :
    ([.shaperRewrite 128 7 1 1,
      .shaperRewrite 127 8 1 1,
      .cmarkReceived 128 1 65536,
      .cmarkReceived 127 1 65537,
      .bindFlow 4 1 1 1,
      .unbindFlow 4 1 1,
      .lookupFlow 4 1 1,
      .bindCommandComplete 4,
      .autoBind 4 1 1,
      .acuErrPendClear 4,
      .l2CacheFill 4 1,
      .duplicateMismatch 4 .route 1 1 1 1,
      .duplicateRepair 4 .route 1,
      .tableScrubStep 4,
      .holdExpiry 1 2048,
      .bisnpSend 1 2048,
      .birspReceived 1 2048 .i,
      .snpDeadReceived 1 2048,
      .bisnpTimeout 1 2048,
      .biconflict 1 2048 1,
      .caidRequest 64,
      .caidInstall 2048 1,
      .caidRequestTimeout 64,
      .agentRemoval 2048,
      .directorySweepComplete 2048,
      .poisonLogClear 16,
      .hotnessNotice 4 true,
      .hotnessCoalesceFlush 4 1,
      .migrate 128,
      .drainComplete 20,
      .copyPassComplete 32,
      .migrationHold 32,
      .holdAbort 32,
      .migrationSwap 32,
      .migrationFinish 32,
      .migrationLoss 32 1,
      .jobDispatch 16,
      .dmLd 128 1 1 1 1 1,
      .dmSt 128 1 1 1 1 1,
      .dmCopy 128 1 1 1 1 1] : List Instr).all (fun i => !i.wf && stops (exec i State.reset)) = true := by
  decide +kernel

/-- Commands that name a unit which does not exist, part 5. -/
theorem test_ill_formed_5 :
    ([.dmFill 128 1 1 1 1 1,
      .dmAmo 128 1 1 1 1 1,
      .dmWait 128 1 none,
      .dmFence 128 1,
      .dmCrc 128 1 1 1,
      .jobDone 128 1 1,
      .jobSubmit 128 1 1 1,
      .coprocessorCommit 128,
      .speculativeReadDefer 128 1,
      .coprocessorSquash 128 1,
      .farResponse 128 1 1 1 [],
      .tngSubGo 16,
      .deviceJobSubmit 16 true 1,
      .jobCopy 128,
      .jobFill 128,
      .jobCrc 128,
      .jobCompare 128,
      .dirSweep 128,
      .telem 128,
      .telemSnapshot 128,
      .kernelJob 128 ⟨0, [], [], none, none, []⟩,
      .kernelFault 128 1 1,
      .completionRecordWrite 128,
      .cqHeadWrite 16 1,
      .tngCancelGo 16 1,
      .engineReset 128 1,
      .engineWatchdog 128,
      .engineLoadComplete 128 [],
      .programReload 128,
      .ackFabric 256 1 1 1,
      .resync 256 1,
      .voteReq 256 1,
      .vote 256 1 1,
      .chipUnreachable 256,
      .fabricForward 64 true ⟨0, 0, 0, samplePkt⟩,
      .ttlExpired 64 ⟨0, 0, 0, samplePkt⟩,
      .fabricLinkLossReroute 128 true,
      .mixedRevisionRetrain 64 true,
      .imgErase 2,
      .imgWrite 2 1 []] : List Instr).all (fun i => !i.wf && stops (exec i State.reset)) = true := by
  decide +kernel

/-- Commands that name a unit which does not exist, part 6. -/
theorem test_ill_formed_6 :
    ([.imgCheck 2 none ImgContent.empty,
      .imgCommit 2,
      .imgApply 2 ImgContent.empty,
      .keyRevoke 4,
      .keyProgRoot 4,
      .closeSession 8 1,
      .sessionIdleTimeout 8,
      .sessionPathLoss 8,
      .regRead 8 1 1 1 1,
      .regWrite 8 1 1 1 1 [] .none,
      .claim 8 1 1,
      .renew 8 1,
      .ownHandover 8 1 1,
      .releaseOwnership 8 1,
      .eventQueue 512 1 1,
      .eventAck 8 1 1,
      .fmApi 8 1 .identify,
      .memRead 8 1 1 1 1,
      .memWrite 8 1 1 1 [],
      .unknownTypeMessage 8 1 1 1 1 1,
      .udpDuplicateRequest 8 1,
      .regionRecoveryEnd 4 true,
      .perstAssert 64,
      .perstDeassert 64,
      .unitBanked 160 true,
      .bankDemandWake 160,
      .bankIdleRebank 160 true,
      .faultCause 512 1 1 true,
      .fltPendClear 5,
      .fltFatalClear 4,
      .regionFence 4,
      .lostHomeScan 16 true,
      .chipFatalCause 512,
      .spareSliceReplace 16 true true,
      .spareEngineReplace 128 true,
      .sramSoftRepair 4 true,
      .hbmSoftPpr 32 1 true,
      .poolUnmetDemand 6,
      .timNowRead 8 1,
      .telemetryConversion 97 1 1 true] : List Instr).all (fun i => !i.wf && stops (exec i State.reset)) = true := by
  decide +kernel

/-- Commands that name a unit which does not exist, part 7. -/
theorem test_ill_formed_7 :
    ([.thermalStateChange 64,
      .cntSnap 5,
      .cntClr 5,
      .bwWindowEnd 128 1 1,
      .pmbusPoll 64 true true 1 1 1 1 1,
      .slotCommandedOn 64,
      .slotPgood 64,
      .slotSettleEnd 64,
      .slotPerstRelease 64,
      .slotOffCommand 64,
      .slotTrip 64 1,
      .slotRetry 64,
      .slotStableReset 64,
      .fetFail 64,
      .slotClear 64,
      .pwrbrkAssert 64 true,
      .pwrbrkRelease 64,
      .slotPresenceLoss 64,
      .cycle 64,
      .attentionButton 64,
      .refclkLoss 17,
      .refclkRestore 17 1 true 1,
      .ideKeySetUp 128 1 true,
      .remoteBinding 8 1 1 1 none true true .none] : List Instr).all (fun i => !i.wf && stops (exec i State.reset)) = true := by
  decide +kernel


/-! ### Form: every command at the last units that exist completes -/


/-- Hypotheses of LinkCommandsFramed met: each of its commands completes, and parts of the state are outside its list. -/
theorem witness_LinkCommandsFramed :
    (([.bringUpStart 127 1 [],
      .trainingStageEnd 127 true ⟨0, false, none, none, false, false, false, false, 0, false, false, false⟩ 1,
      .adminWrite 63 true true,
      .symbolWindowEnd 63 8 1,
      .laneMark 63 7 1,
      .l0pRequestPartner 127 1,
      .l0pTgtWrite 63 1 1,
      .l0pChangeComplete 127,
      .retrainWrite 63 true true,
      .recoveryEntry 127,
      .recoveryComplete 127 true,
      .markClear 63 1,
      .spareSelfCheck 63 true,
      .prbsEnWrite 63 1,
      .prbsSnap 63 1 [],
      .prbsCheckerLock 63 8 1,
      .prbsCheckerLoseLock 63 8 1 1,
      .dlUpLoss 127 true 1,
      .markerCandidate 63 8 1 1 true,
      .markerCheck 63 8 1 true,
      .codewordDecode 63 8 true 1 [],
      .calibrationDone 63 1,
      .signalDetect 63 1,
      .trainBlockReceived 63 8 ⟨2, 0⟩,
      .adaptDone 63,
      .adaptBoundExceeded 63,
      .adaptPartnerDoneTimeout 63,
      .deskewRelease 63 [],
      .capBlockReceived 63 1,
      .capxComplete 63 1,
      .capxTimeout 63,
      .trainingFailBackoffEnd 63,
      .checkUnitReceived 63 [],
      .partnerRetrainDetect 63 1,
      .sflRetrainWrite 63,
      .dataUnitSend 63,
      .flowUnitReceived 63 [],
      .ackReceived 63 1,
      .nakReceived 63 1,
      .replayTimeout 63] : List Instr) ++ ([.replayUnitResend 63,
      .replayMaxExceeded 63,
      .ackTimer 63,
      .nakResendTimer 63,
      .xoffUpdate 63 7,
      .timingSlot 63,
      .laneSet 63 true 1 1,
      .laneAck 63 1 1,
      .laneNak 63 1 1,
      .switchLanes 63 true 1 1,
      .keysync 63 1 1,
      .activeLaneLockLoss 63 15,
      .laneReqWrite 63,
      .sflLinkDown 63,
      .downTmoExpiry 63,
      .sflKeyCommit 63 1,
      .txSlotWrite 63 1,
      .keyCountLimit 63 1] : List Instr)).all (fun i => i.wf && completes (exec i State.reset) && !i.changes.contains (.field .pending)) = true := by
  decide +kernel


/-- Hypotheses of AnvilCommandsFramed met: each of its commands completes, and parts of the state are outside its list. -/
theorem witness_AnvilCommandsFramed :
    (([.crossingFlitArrival 63 7 1 true,
      .packetInject 133 (.answer 0) samplePkt,
      .routeEntryWrite 133 63 3 1,
      .routeChangeResume 133 63,
      .flitSwitch 63 6 1 1,
      .linkWireSpare 63 3 1,
      .voqInject 133,
      .creditRequest 133 693,
      .creditGrant 693,
      .creditReturn 693 133,
      .sharedGrantRelease 133 693,
      .egressPacketSend 127,
      .quenchTrigger 133 1,
      .quenchNoticeArrival 133 133 1,
      .quenchSet 3 1,
      .quenchClear 3 1,
      .slagAnswer 133,
      .unquench 133,
      .unquenchNoticeArrival 133 133,
      .mirrorCopy 15 127 true true 1 [],
      .mirrorRecordWrite 15,
      .probeMatch 63 1 samplePkt,
      .probeSnap 63,
      .mirrorEnWrite 15 1,
      .requestColour ⟨0, 127, 0, 0, false, 0, samplePkt⟩,
      .holdQueueRetest 65536,
      .holdQueueFull 65536,
      .holdBoundExpiry 65536,
      .holdBoundWrite 3 1,
      .contextRewrite 65536 1 1,
      .shaperRewrite 127 7 1 1,
      .cmarkReceived 127 1 65536,
      .bindFlow 3 1 1 1,
      .unbindFlow 3 1 1,
      .lookupFlow 3 1 1,
      .bindCommandComplete 3,
      .autoBind 3 1 1,
      .requestResolve sampleReq] : List Instr)).all (fun i => i.wf && completes (exec i State.reset) && !i.changes.contains (.field .pending)) = true := by
  decide +kernel


/-- Hypotheses of CoherenceCommandsFramed met: each of its commands completes, and parts of the state are outside its list. -/
theorem witness_CoherenceCommandsFramed :
    (([.acuErrPendClear 3,
      .l2CacheFill 3 1,
      .acuWindowWrite 1 1 1,
      .l1EntryWrite 1 1 1,
      .duplicateMismatch 3 .route 1 1 1 1,
      .duplicateRepair 3 .route 1,
      .tableScrubStep 3,
      .fracture 1,
      .unfracture 1,
      .writeL2 1 1,
      .readL2 1 1,
      .remapCommandComplete,
      .hearthRequestArrival ⟨.rdS, none, 0, [], 0, false⟩,
      .transactionStart 1,
      .directoryCacheMiss 1,
      .holdExpiry 1 2047,
      .bisnpSend 1 2047,
      .birspReceived 1 2047 .i,
      .snpDeadReceived 1 2047,
      .bisnpTimeout 1 2047,
      .writebackReceived ⟨.rdS, none, 0, [], 0, false⟩,
      .biconflict 1 2047 1,
      .expanderResponse 1 [] true 1,
      .transactionComplete 1,
      .caidRequest 63,
      .caidInstall 2047 1,
      .caidRequestTimeout 63,
      .agentRemoval 2047,
      .directorySweepComplete 2047,
      .readDir 1,
      .hrtCfgWrite 1,
      .poisonLogClear 15] : List Instr)).all (fun i => i.wf && completes (exec i State.reset) && !i.changes.contains (.field .pending)) = true := by
  decide +kernel


/-- Hypotheses of SwitchCommandsFramed met: each of its commands completes, and parts of the state are outside its list. -/
theorem witness_SwitchCommandsFramed :
    (([.bindVppb 127 1 1 1 none,
      .bindComplete 1023,
      .unbindVppb 127 1 1 1,
      .unbindComplete 1023,
      .hotRemoveTimeout 1023,
      .abortBackground 127 1,
      .identify 127 1,
      .backgroundStatus 127 1,
      .getResponseLimit 127 1,
      .setResponseLimit 127 1 1,
      .getEventRecords 127 1,
      .clearEventRecords 127 1 [],
      .getEventPolicy 127 1,
      .setEventPolicy 127 1 1,
      .getTimestamp 127 1,
      .getSupportedLogs 127 1,
      .getLog 127 1,
      .identifySwitch 127 1,
      .getPortState 127 1 [],
      .portControl 127 1 1 1,
      .ppbConfig 127 1 1 [] [],
      .vcsInfo 127 1 1,
      .generateAer 127 1 1 1,
      .tunnel 127 1 1 [] [] [],
      .ldConfig 127 1 1 1 [] [],
      .ldMemory 127 1 1 1 [] [],
      .dcdInfo 127 1,
      .dcConfig 127 1 1,
      .setDcConfig 127 1 1 1 true,
      .extentLists 127 1 1,
      .dcAdd 127 1 1 1 1,
      .dcAddResponse 63 7 [],
      .dcAddTimeout 63 7,
      .dcRelease 127 1 1 1 [],
      .extentReleaseComplete 1,
      .weuskOverCci 127 1 1 1,
      .unsupportedOpcode 127 1 1,
      .hdmDecoderCommit 63 1 HdmDecoder.off,
      .biEnableWrite 63 true true,
      .targetSurpriseRemoval 127 1] : List Instr) ++ ([.ideIntegrityFailure 127 1,
      .messageToDecode 127 true (.request sampleReq),
      .fmApi 7 1 .identify,
      .ideKeySetUp 127 1 true,
      .remoteBinding 7 1 1 1 none true true .none] : List Instr)).all (fun i => i.wf && completes (exec i State.reset) && !i.changes.contains (.field .pending)) = true := by
  decide +kernel


/-- Hypotheses of TongsCommandsFramed met: each of its commands completes, and parts of the state are outside its list. -/
theorem witness_TongsCommandsFramed :
    (([.hotnessNotice 3 true,
      .hotnessCoalesceFlush 3 1,
      .hotnessEpochChange,
      .hotnessFlushComplete,
      .hotEnWrite 1,
      .migrate 127,
      .drainComplete 19,
      .copyPassComplete 31,
      .migrationHold 31,
      .holdAbort 31,
      .migrationSwap 31,
      .migrationFinish 31,
      .migrationLoss 31 1,
      .migCfgWrite 1,
      .jobDispatch 15,
      .dmLd 127 1 1 1 1 1,
      .dmSt 127 1 1 1 1 1,
      .dmCopy 127 1 1 1 1 1,
      .dmFill 127 1 1 1 1 1,
      .dmAmo 127 1 1 1 1 1,
      .dmWait 127 1 none,
      .dmFence 127 1,
      .dmCrc 127 1 1 1,
      .jobDone 127 1 1,
      .jobSubmit 127 1 1 1,
      .coprocessorCommit 127,
      .speculativeReadDefer 127 1,
      .coprocessorSquash 127 1,
      .farResponse 127 1 1 1 [],
      .tngSubGo 15,
      .deviceJobSubmit 15 true 1,
      .jobCopy 127,
      .jobFill 127,
      .jobCrc 127,
      .jobCompare 127,
      .dirSweep 127,
      .kernelJob 127 ⟨0, [], [], none, none, []⟩,
      .kernelFault 127 1 1,
      .completionRecordWrite 127,
      .cqHeadWrite 15 1] : List Instr) ++ ([.tngCancelGo 15 1,
      .engineReset 127 1,
      .engineWatchdog 127,
      .engineLoadComplete 127 [],
      .programReload 127,
      .hotnessZeroFillComplete] : List Instr)).all (fun i => i.wf && completes (exec i State.reset) && !i.changes.contains (.field .pending)) = true := by
  decide +kernel


/-- Hypotheses of ServiceCommandsFramed met: each of its commands completes, and parts of the state are outside its list. -/
theorem witness_ServiceCommandsFramed :
    (([.timingUnitReceived 63 [] 1,
      .telem 127,
      .telemSnapshot 127,
      .faultCause 511 1 1 true,
      .fltPendClear 4,
      .fltFatalClear 3,
      .regionFence 3,
      .lostHomeScan 15 true,
      .chipFatalCause 511,
      .emberToggle,
      .fltInjGo 1,
      .injectionApply,
      .injectionTimeout,
      .wearSample 1 1 1,
      .spareSliceReplace 15 true true,
      .spareEngineReplace 127 true,
      .sramSoftRepair 3 true,
      .hbmSoftPpr 31 1 true,
      .clearLane 1,
      .retireEngine 1,
      .retireSlice 1,
      .degClear,
      .poolUnmetDemand 5,
      .ppsOutEdge,
      .servoUpdate,
      .ptpSync 1 1 1 1 1,
      .ppsInEdge,
      .timeReferenceLoss 1,
      .timSet,
      .timAdj 1,
      .telemetryConversion 96 1 1 true,
      .thermalStateChange 63,
      .cntSnap 4,
      .cntClr 4,
      .clrPeak,
      .bwWindowEnd 127 1 1,
      .traceRecord true,
      .start,
      .stop,
      .ptpAnnounce sampleMaster] : List Instr) ++ ([.upstreamTimeout] : List Instr)).all (fun i => i.wf && completes (exec i State.reset) && !i.changes.contains (.field .pending)) = true := by
  decide +kernel


/-- Hypotheses of FabricCommandsFramed met: each of its commands completes, and parts of the state are outside its list. -/
theorem witness_FabricCommandsFramed :
    (([.fabricHeaderRebuild 63 (.arrive 0),
      .joinFabric none,
      .joinRefuse 1,
      .distPrep 1 1 ⟨0, false, []⟩,
      .distCommit 1 1,
      .distAbort 1 1,
      .ackFabric 255 1 1 1,
      .resync 255 1,
      .standbyAckTimeout,
      .announceSend,
      .announce ⟨0, 0, 0, 0, false, false⟩,
      .leaseLapse,
      .voteReq 255 1,
      .vote 255 1 1,
      .managerIsolated,
      .managerListenEnd,
      .handoverWrite 1,
      .handoverMessage 1 1,
      .linkReport none [],
      .chipUnreachable 255,
      .fabricForward 63 true ⟨0, 0, 0, samplePkt⟩,
      .ttlExpired 63 ⟨0, 0, 0, samplePkt⟩,
      .fabricLinkLossReroute 127 true,
      .mixedRevisionRetrain 63 true,
      .mixedConditionChange,
      .imgErase 1,
      .imgWrite 1 1 [],
      .imgCheck 1 none ImgContent.empty,
      .imgCommit 1,
      .imgApply 1 ImgContent.empty,
      .imageCommandComplete,
      .keyGenId,
      .keyRotate true,
      .keyRevoke 3,
      .keyProgRoot 3,
      .keyRaiseSvn 1,
      .keyCommandComplete,
      .trngStartupComplete,
      .trngHealthFailure true,
      .trngReseed] : List Instr) ++ ([.trngNext,
      .bootRecordsRead,
      .bootVerifyResult none ImgContent.empty none ImgContent.empty] : List Instr)).all (fun i => i.wf && completes (exec i State.reset) && !i.changes.contains (.field .pending)) = true := by
  decide +kernel


/-- Hypotheses of ChipCommandsFramed met: each of its commands completes, and parts of the state are outside its list. -/
theorem witness_ChipCommandsFramed :
    (([.drsErrPendClear none,
      .debugViewAccess 7 1 1 1 true 1,
      .hbmDbgWindowWrite 1,
      .hostPowerOff 1023,
      .openSession 1 1 1 1,
      .closeSession 7 1,
      .sessionIdleTimeout 7,
      .sessionPathLoss 7,
      .regRead 7 1 1 1 1,
      .regWrite 7 1 1 1 1 [] .none,
      .claim 7 1 1,
      .electionWindowClose,
      .renew 7 1,
      .ownerLeaseLapse,
      .ownHandover 7 1 1,
      .releaseOwnership 7 1,
      .eventQueue 511 1 1,
      .eventSend,
      .eventAck 7 1 1,
      .evtAckWrite 1,
      .eventResendTimeout,
      .memRead 7 1 1 1 1,
      .memWrite 7 1 1 1 [],
      .unknownTypeMessage 7 1 1 1 1 1,
      .udpDuplicateRequest 7 1,
      .resetNAssert,
      .resetEnd 1 1 true 1,
      .brownOut 1 true,
      .reboot,
      .enterTest,
      .boundaryScanTest,
      .hbmInitDone true true 1 1,
      .provisionComplete,
      .recoverRegions 1,
      .regionRecoveryEnd 3 true,
      .perstAssert 63,
      .perstDeassert 63,
      .bankWrite 1 1,
      .unitBanked 159 true,
      .bankDemandWake 159] : List Instr) ++ ([.bankIdleRebank 159 true,
      .timNowRead 7 1,
      .pmbusPoll 63 true true 1 1 1 1 1,
      .slotChainFrame [],
      .slotCommandedOn 63,
      .slotPgood 63,
      .slotSettleEnd 63,
      .slotPerstRelease 63,
      .slotOffCommand 63,
      .slotTrip 63 1,
      .slotRetry 63,
      .slotStableReset 63,
      .fetFail 63,
      .slotClear 63,
      .pwrbrkAssert 63 true,
      .pwrbrkRelease 63,
      .slotPresenceLoss 63,
      .cycle 63,
      .attentionButton 63,
      .refclkLoss 16,
      .refclkRestore 16 1 true 1] : List Instr)).all (fun i => i.wf && completes (exec i State.reset) && !i.changes.contains (.field .pending)) = true := by
  decide +kernel

/-! ### Values from the spec's examples -/

/-- The partition layout of R28's example: a directory of 16 GiB, level 2 of 256 MiB, a trace buffer of 1 GiB. -/
def layoutState : State := ((State.reset.set MGT_HBM_PART.DIR_GIB 0 16).set MGT_HBM_PART.L2_64M 0 4).set MGT_HBM_PART.TRACE_256M 0 4

/-- R28's example. -/
theorem test_partitions : layoutState.l2Base = 0x420000000 ∧ layoutState.traceBase = 0x430000000 ∧ layoutState.scratchBase = 0x470000000 := by decide +kernel

/-- R31's example: block B37 begins at 0x0628_0000 and its SFL_ registers at 0x062C_0000. -/
theorem test_block_base : unitBase .block 37 = 0x6280000 ∧ drsAddr .SFL_PHY_CFG 37 / 0x40000 * 0x40000 = 0x62C0000 := by decide +kernel

/-- The example of R143 and R144: NI 2 to router 41, XY order, one hop in -X and two in -Y. -/
theorem test_route_entry : drsAddr .ROUTE_ENTRY (routeIdx 2 41 0) = 0x10001520 ∧ routeLegal 2 41 (word 0x3D0D) = true ∧ routeLegal 2 41 (word 0x3D0F) = false := by decide +kernel

/-- The example of R145 and R146: port 4, line 0x12_3456_5680. -/
theorem test_stream : streamId (.mem 4 0x1234565680) = 0x425A ∧ routeHash 0x425A = 9 ∧ 9 % 3 = 0 ∧ 9 % 4 = 1 := by decide +kernel

/-- The example of R123: an RTT of 220 ns on x8 at 128 Gb/s gives THR = 105. -/
theorem test_threshold :
    (((State.reset.set SFL_LINK_STAT.RTT 5 220).set SFL_TRAIN_STATUS.LANES 5 8).set SFL_TRAIN_STATUS.RATE 5 1).xoffThr 5 = 105 := by decide +kernel

/-- The state of the fractured read's example (R191 to R197). -/
def fracturedState : State :=
  (layoutState.writeEntry .l1 0x800 fun s =>
    ((((s.set L1_W0.VALID 0x800 1).set L1_W0.HELD 0x800 1).set L1_W1.VCS 0x800 5).set L1_W0.FRACT 0x800 1).set L1_W0.L2PTR 0x800 0x37).setHbm64 0x420037488
    (word (1 + 0x12 * 2 ^ 4 + 0x12345 * 2 ^ 25))

/-- The entry of granule 0x91 lies at 0x4_2003_7488. -/
theorem test_entry_address : fracturedState.l2Addr (0x37 * 512 + 0x20012345680 / 2 ^ 21 % 512) = 0x420037488 := by decide +kernel

/-- The request of that example reaches device address 0x24_68B4_5680 at FEID 0x0_0012. -/
theorem test_fractured_read :
    ((fracturedState.translate 0 0x20012345680 (some 5)).target, (fracturedState.translate 0 0x20012345680 (some 5)).dev) = (0x12, 0x2468B45680) := by decide +kernel

/-- The directory example of R217: entry 3, POA 0x200_9234_5680. -/
theorem test_directory_entry :
    ((layoutState.set HRT_HOME.VALID 3 1).set HRT_HOME.L1_IDX 3 0x802).dirAddr (0x20092345680 / 64) = some 0x3A468AD0 ∧ homeSlice 0x20092345680 = 2 := by decide +kernel

/-- Request 3 of the policer's example, at 116 and 392 tokens, is green. -/
theorem test_policer_green : colourOf ⟨140 * 2000, 120 * 2000, 0⟩ 256 512 (80 * 2000) = (.green, ⟨220 * 2000, 200 * 2000, 0⟩) := by decide +kernel

/-- Request 4, at 46 and 332, is yellow and takes nothing from the committed bucket. -/
theorem test_policer_yellow : colourOf ⟨210 * 2000, 180 * 2000, 0⟩ 256 512 (80 * 2000) = (.yellow, ⟨210 * 2000, 260 * 2000, 0⟩) := by decide +kernel

/-- Request 9, at 16 and 32, is red and takes nothing. -/
theorem test_policer_red : colourOf ⟨240 * 2000, 480 * 2000, 0⟩ 256 512 (80 * 2000) = (.red, ⟨240 * 2000, 480 * 2000, 0⟩) := by decide +kernel

/-- Between two requests 10 ns apart the buckets gain 10 and 20 bytes. -/
theorem test_policer_refill : refill ⟨80 * 2000, 80 * 2000, 0⟩ 1000 2000 20 = ⟨70 * 2000, 60 * 2000, 20⟩ := by decide +kernel

/-- The worker of R407's example, 7.5 ns ahead after an update interval of 143,090 ns. -/
def workerState : State :=
  { ((State.reset.set TIM_STAT.STATE 0 2).set TIM_CFG.STEP_NS 0 1000).set TIM_CFG.KI_SHIFT 0 4 with
    tim := ⟨5, 143090, 0⟩, servo := ⟨false, 0, 5000000000 * 2 ^ 48, some (15 * 2 ^ 15), 0, 0⟩ }

/-- The update gives SLEW = -225,118, FREQ lower by 14,069 and THETA = 120. -/
theorem test_servo :
    ((servoUpdate workerState).get TIM_FREQ.SLEW 0, (servoUpdate workerState).get TIM_FREQ.FREQ 0, (servoUpdate workerState).get TIM_OFFSET.THETA 0) =
      (2 ^ 32 - 225118, 2 ^ 32 - 14069, 120) := by decide +kernel

/-- Slot 12 of the shorted card's example, 30 ms into an attempt with so many tries and trips behind it. -/
def shortedState (tries trips : Nat) (retrying : Bool) : State :=
  { ((((((State.reset.set SLT_CFG.VALID 12 1).set SLT_CTL.ADMIN 12 1).set SLT_STAT.STATE 12 1).set SLT_STAT.TRIES 12 tries).set SLT_STAT.TRIPS 12 trips).set
      SLT_GCFG.RETRY_MIN_MS 0 1000).set SLT_GCFG.RETRY_MAX 0 2 with phase := .operating, clk := 30000000 }.setSlot 12
    { SlotState.idle with pwrEn := true, retrying := retrying }

/-- The first trip: RETRY_WAIT for 2,970 ms. -/
theorem test_first_trip :
    ((slotTrip 12 3 (shortedState 0 0 false)).get SLT_STAT.STATE 12, ((slotTrip 12 3 (shortedState 0 0 false)).slot 12).waitUntil) = (4, 3000000000) := by decide +kernel

/-- The third trip: LOCKOUT with TRIES 2 and TRIPS 3. -/
theorem test_third_trip :
    ((slotTrip 12 3 (shortedState 1 2 true)).get SLT_STAT.STATE 12, (slotTrip 12 3 (shortedState 1 2 true)).get SLT_STAT.TRIES 12,
      (slotTrip 12 3 (shortedState 1 2 true)).get SLT_STAT.TRIPS 12) = (5, 2, 3) := by decide +kernel

/-- No row of the table has bits. -/
theorem test_no_bits : decodeTableWord 32 0x1234 = none := by decide +kernel

/-! ### Hypotheses met, where the state is written by hand -/

/-- Hypotheses of StepRunsTheFront met. -/
theorem witness_StepRunsTheFront : ({ State.reset with pending := [.resetNAssert] } : State).pending = .resetNAssert :: [] := rfl

/-- Hypotheses of IdleStepTicks met. -/
theorem witness_IdleStepTicks : State.reset.pending = [] := rfl

/-- Hypotheses of RegionCollectorsPlaced met. -/
theorem witness_RegionCollectorsPlaced : 3 < 4 := by decide

/-- Hypotheses of StopsNameMissingUnits met. -/
theorem witness_StopsNameMissingUnits : (Instr.slotRetry 63).wf = true ∧ (Instr.slotRetry 64).wf = false := by decide

/-- Hypotheses of StepsKeepCanonicalForm met. -/
theorem witness_StepsKeepCanonicalForm :
    ({ State.reset with pending := [.slotTrip 63 3] } : State).Canonical ∧ ∃ t, step { State.reset with pending := [.slotTrip 63 3] } = .next t :=
  ⟨⟨by decide +kernel, by decide +kernel, by decide +kernel, by decide +kernel⟩, _, rfl⟩

/-- Hypotheses of QueueServedInOrder met: a reset waits in front of a trip. -/
theorem witness_QueueServedInOrder : ({ State.reset with pending := [.resetNAssert, .slotTrip 63 3] } : State).Queued := by
  show ∀ c ∈ [Instr.resetNAssert, .slotTrip 63 3], c.wf = true
  decide +kernel

/-- Hypotheses of PhasesChangeByTheTable met. -/
theorem witness_PhasesChangeByTheTable : ∃ t, exec .resetNAssert State.reset = .next t := ⟨_, rfl⟩

/-- A state whose root slot 0 is revoked. -/
def revokedState : State := { State.reset with fuses := { State.reset.fuses with rev := [(0, 0xFF)] } }

/-- Hypotheses of FusesOnlyBlow met. -/
theorem witness_FusesOnlyBlow : (∃ t, exec (.keyRevoke 3) revokedState = .next t) ∧ revokedState.rootRevoked 0 = true := ⟨⟨_, rfl⟩, by decide +kernel⟩

/-- Hypotheses of UnitsKeptApart met. -/
theorem witness_UnitsKeptApart :
    62 ≠ 63 ∧ 6 ≠ 7 ∧ (∃ t, exec (.slotTrip 63 3) State.reset = .next t) ∧ (∃ t, exec (.slotRetry 63) State.reset = .next t) ∧
    (∃ t, exec (.slotCommandedOn 63) State.reset = .next t) ∧ (∃ t, exec (.slotOffCommand 63) State.reset = .next t) ∧
    (∃ t, exec (.slotPresenceLoss 63) State.reset = .next t) ∧ (∃ t, exec (.fetFail 63) State.reset = .next t) ∧
    (∃ t, exec (.slotClear 63) State.reset = .next t) ∧ (∃ t, exec (.pwrbrkAssert 63 true) State.reset = .next t) ∧
    (∃ t, exec (.cycle 63) State.reset = .next t) ∧ (∃ t, exec (.regRead 7 1 0 3 1) State.reset = .next t) ∧
    (∃ t, exec (.memRead 7 1 0 0 64) State.reset = .next t) ∧ (∃ t, exec (.memWrite 7 1 0 0 [1]) State.reset = .next t) :=
  ⟨by decide, by decide, ⟨_, rfl⟩, ⟨_, rfl⟩, ⟨_, rfl⟩, ⟨_, rfl⟩, ⟨_, rfl⟩, ⟨_, rfl⟩, ⟨_, rfl⟩, ⟨_, rfl⟩, ⟨_, rfl⟩, ⟨_, rfl⟩, ⟨_, rfl⟩, ⟨_, rfl⟩⟩

/-- Hypotheses of StoresKeepOtherBytes met. -/
theorem witness_StoresKeepOtherBytes :
    (∃ t, exec (.debugViewAccess 7 1 8 3 true 1) State.reset = .next t) ∧ (7 < State.reset.get MGT_HBM_DBG_BASE.WINDOW 0 * 2 ^ 29 + 8 % 2 ^ 29) ∧
    (∃ t, exec (.debugViewAccess 7 1 8 3 false 1) State.reset = .next t) ∧
    (∃ t, exec (.writeL2 65535 511) State.reset = .next t) ∧
    (0 < State.reset.l2Addr (State.reset.get L1_W0.L2PTR (65535 % 65536) * 512 + 511 % 512)) ∧
    (∃ t, exec (.fracture 65535) layoutState = .next t) ∧ layoutState.l2FreeTable = some 0 ∧ 0 < layoutState.l2Addr (0 * 512) ∧
    (∃ t, exec (.fracture 65535) State.reset = .next t) ∧ State.reset.l2FreeTable = none ∧
    (∃ t, exec (.traceRecord true) State.reset = .next t) ∧
    0 < State.reset.traceBase + 64 * (State.reset.get CNT_TRC_STAT.WREC 0 % max 1 State.reset.traceCapacity) := by
  refine ⟨⟨_, rfl⟩, ?_, ⟨_, rfl⟩, ⟨_, rfl⟩, ?_, ⟨_, rfl⟩, ?_, ?_, ⟨_, rfl⟩, ?_, ⟨_, rfl⟩, ?_⟩ <;> decide +kernel

/-! ### Hypotheses met -/

def wBringUpRuns0 : State := ({ (((State.reset.set PRT_CFG.MODE 0 1).set PRT_CFG.ROLE0 0 1).set PRT_LINK_CTL.ADMIN0 0 1) with phase := .operating } : State)
def wBringUpRuns2 : State := (State.reset.setPort 5 { PortState.idle with stage := 1 })
def wBringUpRuns3 : State := (State.reset.setPort 5 { PortState.idle with stage := 2 })
def wBringUpRuns4 : State := (State.reset.setPort 127 { PortState.idle with stage := 9 })
def wBringUpRuns5 : State := (State.reset.setPort 127 { PortState.idle with stage := 4 })
def wBringUpRuns6 : State := ((State.reset.set PRT_LINK_STATUS.STATE 126 6).set PRT_LINK_STATUS.STATE 127 6)
def wBringUpRuns7 : State := ((State.reset.set PRT_LINK_STATUS.STATE 127 6).set PRT_LINK_STATUS.DL_UP 127 1)
/-- Hypotheses of BringUpRuns met. -/
theorem witness_BringUpRuns :
    0 < 128 ∧ wBringUpRuns0.bringUpReady 0 = true ∧ wBringUpRuns0.get PRT_LINK_STATUS.STATE 0 = 0 ∧
    127 < 128 ∧ State.reset.bringUpReady 127 = false ∧
    5 < 128 ∧ wBringUpRuns2.role 5 ≠ 2 ∧ (wBringUpRuns2.port 5).stage = 1 ∧
    5 < 128 ∧ wBringUpRuns3.role 5 ≠ 2 ∧ (wBringUpRuns3.port 5).stage = 2 ∧
    127 < 128 ∧ wBringUpRuns4.role 127 ≠ 2 ∧ (wBringUpRuns4.port 127).stage = 9 ∧
    127 < 128 ∧ wBringUpRuns5.role 127 ≠ 2 ∧ (wBringUpRuns5.port 127).stage ≠ 0 ∧
    63 < 64 ∧
    127 < 128 ∧ wBringUpRuns7.flag PRT_LINK_STATUS.DL_UP 127 = true ∧
    127 < 128 ∧ State.reset.flag PRT_LINK_STATUS.DL_UP 127 = false := by
  and_intros <;> decide +kernel

def wWidthAndRecovery0 : State := ((((((State.reset.set PRT_LINK_STATUS.STATE 127 6).set PRT_LINK_STATUS.FLIT 127 1).set PRT_CFG.L0P_EN 63 1).set PRT_LINK_STATUS.NEG_WIDTH 127 8).set PRT_LINK_STATUS.WIDTH 127 8).setPort 127 { PortState.idle with l0p := true })
def wWidthAndRecovery1 : State := (((State.reset.set PRT_CFG.MODE 63 1).set PRT_LINK_STATUS.WIDTH 126 2).set PRT_LANE_MAP.MARK 63 8)
def wWidthAndRecovery4 : State := ((State.reset.set PRT_LINK_STATUS.STATE 127 6).setPort 127 { PortState.idle with l0pTo := some 4 })
def wWidthAndRecovery5 : State := (State.reset.set PRT_LINK_STATUS.STATE 126 7)
def wWidthAndRecovery7 : State := (State.reset.set PRT_LINK_STATUS.STATE 127 7)
def wWidthAndRecovery9 : State := (State.reset.set PRT_LINK_STATUS.STATE 127 5)
/-- Hypotheses of WidthAndRecovery met. -/
theorem witness_WidthAndRecovery :
    127 < 128 ∧ wWidthAndRecovery0.l0pRuns 127 = true ∧ 4 ∈ [16, 8, 4, 2, 1] ∧ 4 ≤ wWidthAndRecovery0.get PRT_LINK_STATUS.NEG_WIDTH 127 ∧ 4 < wWidthAndRecovery0.get PRT_LINK_STATUS.WIDTH 127 ∧
    126 < 128 ∧ wWidthAndRecovery1.get PRT_LINK_STATUS.WIDTH 126 < 8 ∧ 3 ∈ wWidthAndRecovery1.markedLanes 126 ∧ 3 < 8 ∧
    63 < 64 ∧ 7 < 8 ∧
    63 < 64 ∧ 7 < 8 ∧
    127 < 128 ∧ (wWidthAndRecovery4.port 127).l0pTo = some 4 ∧ 4 < 32 ∧ wWidthAndRecovery4.inL0 127 = true ∧
    63 < 64 ∧ wWidthAndRecovery5.inL0 (2 * 63) = true ∧ wWidthAndRecovery5.role (2 * 63) ≠ 2 ∧
    63 < 64 ∧
    127 < 128 ∧ wWidthAndRecovery7.inL0 127 = true ∧ wWidthAndRecovery7.role 127 ≠ 2 ∧
    127 < 128 ∧ (State.reset.inL0 127 = false ∨ State.reset.role 127 = 2) ∧
    127 < 128 ∧ wWidthAndRecovery9.get PRT_LINK_STATUS.STATE 127 = 5 ∧ (wWidthAndRecovery9.port 127).stage = 0 := by
  and_intros <;> decide +kernel

def wLanesAndPrbs0 : State := (State.reset.set PRT_LANE_MAP.MARK 63 128)
def wLanesAndPrbs5 : State := ((State.reset.set PRT_PRBS_CTL.EN 63 1).set PRT_PRBS_CTL.LANES 63 256)
def wLanesAndPrbs6 : State := (State.reset.setPrbsLane 63 8 ⟨5, false, true⟩)
/-- Hypotheses of LanesAndPrbs met. -/
theorem witness_LanesAndPrbs :
    63 < 64 ∧ 7 < 8 ∧ bitOf 128 7 = true ∧
    63 < 64 ∧ State.reset.flag PRT_LANE_MAP.SPARE_USED 63 = false ∧
    63 < 64 ∧
    63 < 64 ∧
    63 < 64 ∧
    63 < 64 ∧ 8 < 9 ∧ 256 ≤ 256 ∧ wLanesAndPrbs5.flag PRT_PRBS_CTL.EN 63 = true ∧ bitOf (wLanesAndPrbs5.get PRT_PRBS_CTL.LANES 63) 8 = true ∧
    63 < 64 ∧ 8 < 9 ∧ 256 < 257 ∧
    63 < 64 ∧ 8 < 9 ∧ 256 ≤ 256 := by
  and_intros <;> decide +kernel

def wTablesRepaired1 : State := ((State.reset.putRep 3 0 .L1_W0 5 (word 7)).putRep 3 1 .L1_W0 5 (word 7))
def wTablesRepaired2 : State := (State.reset.putRep 3 0 .L1_W1 65535 ((0 : Word).setField L1_W1.WTAG.hi L1_W1.WTAG.lo 3))
def wTablesRepaired4 : State := (State.reset.set FLT_REG_STAT.STATE 3 1)
/-- Hypotheses of TablesRepaired met. -/
theorem witness_TablesRepaired :
    3 < 4 ∧ 4095 < tableSize (.window) ∧ 1 < 2 ∧ ((∀ x ∈ entryWords (.window) 4095, State.reset.repCond 3 0 x.1 x.2 = 0 ∧ State.reset.repCond 3 1 x.1 x.2 = 0 ∧ State.reset.repWord 3 1 x.1 x.2 = State.reset.repWord 3 0 x.1 x.2)) ∧
    3 < 4 ∧ ((∀ x ∈ entryWords (.l1) 5, wTablesRepaired1.repCond 3 0 x.1 x.2 = 0 ∧ wTablesRepaired1.repCond 3 1 x.1 x.2 = 0 ∧ wTablesRepaired1.repWord 3 1 x.1 x.2 = wTablesRepaired1.repWord 3 0 x.1 x.2)) ∧
    3 < 4 ∧ 65535 < tableSize (.l1) ∧ ((∀ x ∈ entryWords (.l1) 65535, wTablesRepaired2.repCond 3 0 x.1 x.2 = 0 ∧ wTablesRepaired2.repCond 3 1 x.1 x.2 = 0)) ∧ newer (wTablesRepaired2.copyTag 3 0 (.l1) 65535) (wTablesRepaired2.copyTag 3 1 (.l1) 65535) = true ∧
    3 < 4 ∧ State.reset.live 3 = true ∧
    3 < 4 ∧ wTablesRepaired4.live 3 = false := by
  and_intros <;> decide +kernel

def wMarkersAndCodewords0 : State := (State.reset.setSflLane 63 8 { SflLane.hunt with seen := 3, nextSeq := 1, signal := true })
def wMarkersAndCodewords1 : State := (State.reset.setSflLane 63 8 { SflLane.hunt with seen := 3, nextSeq := 1, signal := true })
def wMarkersAndCodewords2 : State := ((State.reset.setSflLane 63 8 { SflLane.hunt with seen := 4, nextSeq := 1, badMarkers := 2, signal := true }).set SFL_LANE_STAT.LOCK 575 1)
def wMarkersAndCodewords3 : State := (((State.reset.setSflLane 63 8 { SflLane.hunt with seen := 4, nextSeq := 1, badMarkers := 2, signal := true }).set SFL_LANE_STAT.LOCK 575 1).set SFL_LANE_STAT.MARKER_ERR 575 255)
def wMarkersAndCodewords4 : State := (State.reset.set PRT_LANE_STAT.SYM_WIN 574 65530)
def wMarkersAndCodewords6 : State := ((((State.reset.set PRT_CFG.MODE 63 1).set PRT_CFG.ROLE0 63 2).set SFL_LANE_STAT.LOCK 571 1).setSflLane 63 4 { SflLane.hunt with badCodewords := 7 })
def wMarkersAndCodewords6b : State := ((((State.reset.set PRT_CFG.MODE 63 1).set PRT_CFG.ROLE0 63 2).set SFL_LANE_STAT.LOCK 571 1).setSflLane 63 4 { SflLane.hunt with badCodewords := 6 })
def wMarkersAndCodewords7 : State := ((((State.reset.set PRT_CFG.MODE 63 1).set PRT_CFG.ROLE0 63 2).set SFL_LANE_STAT.LOCK 571 1).setSflLane 63 4 { SflLane.hunt with cw := 210, badCodewords := 7 })
def wMarkersAndCodewords8 : State := ((State.reset.set PRT_SPARE_CTL.SYM_THR 63 7).set PRT_LANE_STAT.SYM_WIN 574 3)
def wMarkersAndCodewords9 : State := ((State.reset.setBlock 63 ⟨[3], 0, false⟩).set PRT_SPARE_CTL.AUTO_L0P 63 0)
set_option maxRecDepth 1000000 in
/-- Hypotheses of MarkersAndCodewords met. -/
theorem witness_MarkersAndCodewords :
    63 < 64 ∧ 8 < 9 ∧ isCandidate (word (0xC5 + 0x3A * 2 ^ 8 + 0x9E * 2 ^ 16 + 0x20 * 2 ^ 24 + 0x3A * 2 ^ 32 + 0xC5 * 2 ^ 40 + 0x61 * 2 ^ 48 + 0xDF * 2 ^ 56)) = true ∧ wMarkersAndCodewords0.flag SFL_LANE_STAT.LOCK (9 * 63 + 8) = false ∧ 3 ≤ (wMarkersAndCodewords0.sflLane 63 8).seen ∧ markerLane (word (0xC5 + 0x3A * 2 ^ 8 + 0x9E * 2 ^ 16 + 0x20 * 2 ^ 24 + 0x3A * 2 ^ 32 + 0xC5 * 2 ^ 40 + 0x61 * 2 ^ 48 + 0xDF * 2 ^ 56)) = (wMarkersAndCodewords0.sflLane 63 8).laneId ∧ markerSeq (word (0xC5 + 0x3A * 2 ^ 8 + 0x9E * 2 ^ 16 + 0x20 * 2 ^ 24 + 0x3A * 2 ^ 32 + 0xC5 * 2 ^ 40 + 0x61 * 2 ^ 48 + 0xDF * 2 ^ 56)) = (wMarkersAndCodewords0.sflLane 63 8).nextSeq ∧
    63 < 64 ∧ 8 < 9 ∧ isCandidate (word (0xC5 + 0x3A * 2 ^ 8 + 0x9E * 2 ^ 16 + 0x20 * 2 ^ 24 + 0x3A * 2 ^ 32 + 0xC5 * 2 ^ 40 + 0x61 * 2 ^ 48 + 0xDF * 2 ^ 56)) = true ∧ wMarkersAndCodewords1.flag SFL_LANE_STAT.LOCK (9 * 63 + 8) = false ∧ 5 ≠ markerPeriod ∧
    63 < 64 ∧ 8 < 9 ∧ wMarkersAndCodewords2.flag SFL_LANE_STAT.LOCK (9 * 63 + 8) = true ∧ markerDistance (word (0xC5 + 0x3A * 2 ^ 8 + 0x9E * 2 ^ 16 + 0x20 * 2 ^ 24 + 0x3A * 2 ^ 32 + 0xC5 * 2 ^ 40 + 0x61 * 2 ^ 48 + 0xDF * 2 ^ 56)) = 0 ∧ markerComplement (word (0xC5 + 0x3A * 2 ^ 8 + 0x9E * 2 ^ 16 + 0x20 * 2 ^ 24 + 0x3A * 2 ^ 32 + 0xC5 * 2 ^ 40 + 0x61 * 2 ^ 48 + 0xDF * 2 ^ 56)) = true ∧ markerLane (word (0xC5 + 0x3A * 2 ^ 8 + 0x9E * 2 ^ 16 + 0x20 * 2 ^ 24 + 0x3A * 2 ^ 32 + 0xC5 * 2 ^ 40 + 0x61 * 2 ^ 48 + 0xDF * 2 ^ 56)) = (wMarkersAndCodewords2.sflLane 63 8).expId ∧ markerSeq (word (0xC5 + 0x3A * 2 ^ 8 + 0x9E * 2 ^ 16 + 0x20 * 2 ^ 24 + 0x3A * 2 ^ 32 + 0xC5 * 2 ^ 40 + 0x61 * 2 ^ 48 + 0xDF * 2 ^ 56)) = (wMarkersAndCodewords2.sflLane 63 8).nextSeq ∧
    63 < 64 ∧ 8 < 9 ∧ wMarkersAndCodewords3.flag SFL_LANE_STAT.LOCK (9 * 63 + 8) = true ∧ 0 < markerDistance ((0 : Word)) ∧ 2 ≤ (wMarkersAndCodewords3.sflLane 63 8).badMarkers ∧
    63 < 64 ∧ 7 < 9 ∧ wMarkersAndCodewords4.role (wMarkersAndCodewords4.circuitPort 63 7) ≠ 2 ∧ (wMarkersAndCodewords4.circuitPair 63 7).isSome = true ∧ 0 < 15 ∧
    63 < 64 ∧ 7 < 9 ∧ State.reset.role (State.reset.circuitPort 63 7) ≠ 2 ∧ (State.reset.circuitPair 63 7).isSome = true ∧
    63 < 64 ∧ 4 < 9 ∧ wMarkersAndCodewords6.role (wMarkersAndCodewords6.circuitPort 63 4) = 2 ∧ wMarkersAndCodewords6.flag SFL_LANE_STAT.LOCK (9 * 63 + 4) = true ∧ ((rxSymbols (wMarkersAndCodewords6.sflLane 63 4).inverted ([1])).length ≠ cwData (wMarkersAndCodewords6.sflLane 63 4).cw + 30 ∨ rsDecode (rxSymbols (wMarkersAndCodewords6.sflLane 63 4).inverted ([1])) = none) ∧
    63 < 64 ∧ 4 < 9 ∧ wMarkersAndCodewords6b.role (wMarkersAndCodewords6b.circuitPort 63 4) = 2 ∧ wMarkersAndCodewords6b.flag SFL_LANE_STAT.LOCK (9 * 63 + 4) = true ∧ ((rxSymbols (wMarkersAndCodewords6b.sflLane 63 4).inverted ([1])).length ≠ cwData (wMarkersAndCodewords6b.sflLane 63 4).cw + 30 ∨ rsDecode (rxSymbols (wMarkersAndCodewords6b.sflLane 63 4).inverted ([1])) = none) ∧
    63 < 64 ∧ 4 < 9 ∧ wMarkersAndCodewords7.role (wMarkersAndCodewords7.circuitPort 63 4) = 2 ∧ wMarkersAndCodewords7.flag SFL_LANE_STAT.LOCK (9 * 63 + 4) = true ∧ (rxSymbols (wMarkersAndCodewords7.sflLane 63 4).inverted (List.replicate 1154 0 ++ [3])).length = cwData (wMarkersAndCodewords7.sflLane 63 4).cw + 30 ∧ rsDecode (rxSymbols (wMarkersAndCodewords7.sflLane 63 4).inverted (List.replicate 1154 0 ++ [3])) = some ((List.replicate 231 0), 1) ∧ 0 < 1 ∧
    63 < 64 ∧ 7 < 9 ∧ wMarkersAndCodewords8.get PRT_LANE_STAT.SYM_WIN (9 * 63 + 7) + 4 ≤ wMarkersAndCodewords8.get PRT_SPARE_CTL.SYM_THR 63 ∧
    63 < 64 ∧ 7 < 8 ∧ wMarkersAndCodewords9.role (wMarkersAndCodewords9.pairPort 63 7) ≠ 2 ∧ wMarkersAndCodewords9.flag PRT_SPARE_CTL.AUTO_L0P 63 = false ∧ 7 ∉ (wMarkersAndCodewords9.blockAt 63).marks := by
  and_intros <;> decide +kernel

def wFabricTrains0 : State := (State.reset.set SFL_TRAIN_STATUS.STATE 63 1)
def wFabricTrains1 : State := ((State.reset.set SFL_TRAIN_STATUS.STATE 63 2).set SFL_TRAIN_STATUS.RATE 63 1)
def wFabricTrains3 : State := ((State.reset.set SFL_TRAIN_STATUS.STATE 63 3).set SFL_LANE_STAT.LOCK 571 1)
def wFabricTrains4 : State := ((State.reset.set SFL_TRAIN_STATUS.STATE 63 3).set SFL_LANE_STAT.LOCK 571 1)
def wFabricTrains5 : State := ((State.reset.set SFL_TRAIN_STATUS.STATE 63 3).setTrain 63 { SflTrain.idle with boundPassed := true, doneSeen := true })
def wFabricTrains6 : State := (((((((((State.reset.set SFL_TRAIN_STATUS.STATE 63 3).setSflLane 63 0 { SflLane.hunt with home := 0 }).set SFL_LANE_STAT.LOCK 567 1).setSflLane 63 1 { SflLane.hunt with home := 1 }).set SFL_LANE_STAT.LOCK 568 1).setSflLane 63 2 { SflLane.hunt with home := 2 }).set SFL_LANE_STAT.LOCK 569 1).setSflLane 63 7 { SflLane.hunt with home := 7 }).set SFL_LANE_STAT.LOCK 574 1)
def wFabricTrains7 : State := (((((((State.reset.set SFL_TRAIN_STATUS.STATE 63 3).setSflLane 63 0 { SflLane.hunt with home := 0 }).set SFL_LANE_STAT.LOCK 567 1).setSflLane 63 1 { SflLane.hunt with home := 1 }).set SFL_LANE_STAT.LOCK 568 1).setSflLane 63 2 { SflLane.hunt with home := 2 }).set SFL_LANE_STAT.LOCK 569 1)
def wFabricTrains8 : State := ((State.reset.set SFL_TRAIN_STATUS.STATE 63 3).setTrain 63 { SflTrain.idle with boundPassed := true })
def wFabricTrains9 : State := ((((((((((State.reset.set SFL_TRAIN_STATUS.STATE 63 4).setSflLane 63 0 { SflLane.hunt with home := 0 }).set SFL_LANE_STAT.LOCK 567 1).setSflLane 63 1 { SflLane.hunt with home := 1 }).set SFL_LANE_STAT.LOCK 568 1).setSflLane 63 2 { SflLane.hunt with home := 2 }).set SFL_LANE_STAT.LOCK 569 1).setSflLane 63 7 { SflLane.hunt with home := 7 }).set SFL_LANE_STAT.LOCK 574 1).setTrain 63 { SflTrain.idle with adapted := [567, 568, 569, 574] })
def wFabricTrains10 : State := ((((((((((State.reset.set SFL_TRAIN_STATUS.STATE 63 4).setSflLane 63 0 { SflLane.hunt with home := 0 }).set SFL_LANE_STAT.LOCK 567 1).setSflLane 63 1 { SflLane.hunt with home := 1 }).set SFL_LANE_STAT.LOCK 568 1).setSflLane 63 2 { SflLane.hunt with home := 2 }).set SFL_LANE_STAT.LOCK 569 1).setSflLane 63 7 { SflLane.hunt with home := 7 }).set SFL_LANE_STAT.LOCK 574 1).setTrain 63 { SflTrain.idle with adapted := [567, 568, 569, 574] })
def wFabricTrains11 : State := ((((((((State.reset.set SFL_TRAIN_STATUS.STATE 63 4).setSflLane 63 0 { SflLane.hunt with home := 0 }).set SFL_LANE_STAT.LOCK 567 1).setSflLane 63 1 { SflLane.hunt with home := 1 }).set SFL_LANE_STAT.LOCK 568 1).setSflLane 63 2 { SflLane.hunt with home := 2 }).set SFL_LANE_STAT.LOCK 569 1).setTrain 63 { SflTrain.idle with adapted := [567, 568, 569, 574] })
def wFabricTrains12 : State := (State.reset.set SFL_TRAIN_STATUS.STATE 63 5)
def wFabricTrains13 : State := ((((State.reset.set SFL_TRAIN_STATUS.STATE 63 5).set SFL_PHY_CFG.REV_MIN 63 2).set SFL_PHY_CFG.REV_MAX 63 3).setTrain 63 { SflTrain.idle with capAcked := true, capSame := 3, cap := 0x101 })
def wFabricTrains14 : State := ((((((State.reset.set SFL_TRAIN_STATUS.STATE 63 5).set SFL_PHY_CFG.REV_MIN 63 1).set SFL_PHY_CFG.REV_MAX 63 3).set SFL_PHY_CFG.RATE128 63 0).set MGT_CHIP_INFO.CHIP_ID 0 4).setTrain 63 { SflTrain.idle with capAcked := true, capSame := 3, cap := 0x0201 + 0x0F * 2 ^ 39, laneOk := 0xFF, subst := [6] })
def wFabricTrains15 : State := (State.reset.set SFL_TRAIN_STATUS.STATE 63 5)
def wFabricTrains16 : State := (State.reset.setTrain 63 { SflTrain.idle with backoff := true })
def wFabricTrains17 : State := (((((State.reset.set SFL_TRAIN_STATUS.STATE 63 6).setTrain 63 { SflTrain.idle with checkNext := 15 }).setLink 63 { SflLink.idle with rxMask := 1 }).setSflLane 63 0 { SflLane.hunt with home := 0 }).set SFL_LANE_STAT.LOCK 567 1)
def wFabricTrains18 : State := ((State.reset.set SFL_TRAIN_STATUS.STATE 63 6).setTrain 63 { SflTrain.idle with falseRun := 6 })
def wFabricTrains19 : State := (((State.reset.set PRT_CFG.MODE 63 1).set PRT_CFG.ROLE0 63 2).set SFL_TRAIN_STATUS.STATE 63 6)
def wFabricTrains19b : State := (((State.reset.set PRT_CFG.MODE 63 1).set PRT_CFG.ROLE0 63 2).set SFL_TRAIN_STATUS.STATE 63 1)
def wFabricTrains20 : State := (((State.reset.set PRT_CFG.MODE 63 1).set PRT_CFG.ROLE0 63 2).set SFL_TRAIN_STATUS.STATE 63 7)
set_option maxRecDepth 1000000 in
/-- Hypotheses of FabricTrains met. -/
theorem witness_FabricTrains :
    63 < 64 ∧ wFabricTrains0.get SFL_TRAIN_STATUS.STATE 63 = 1 ∧
    63 < 64 ∧ wFabricTrains1.inSfl 63 2 = true ∧ 4 ≤ popCount 18 15 ∧
    63 < 64 ∧ popCount 18 7 < 4 ∧
    63 < 64 ∧ 4 < 9 ∧ wFabricTrains3.inSfl (wFabricTrains3.leadOf 63) 3 = true ∧ wFabricTrains3.flag SFL_LANE_STAT.LOCK (9 * 63 + 4) = true ∧ (wFabricTrains3.takeBlock (9 * 63 + 4) ((2, 0x10A2D))).2 = ((2, 0x10A2D), false) ∧ 0x10A2D % 256 = 0x2D ∧ 0x10A2D / 2 ^ 8 % 16 ≤ 10 ∧
    63 < 64 ∧ 4 < 9 ∧ wFabricTrains4.inSfl (wFabricTrains4.leadOf 63) 3 = true ∧ wFabricTrains4.flag SFL_LANE_STAT.LOCK (9 * 63 + 4) = true ∧ blockInvalid (wFabricTrains4.takeBlock (9 * 63 + 4) ((3, 0x10A2D))).2.1 = true ∧
    63 < 64 ∧ wFabricTrains5.inSfl 63 3 = true ∧ (wFabricTrains5.train 63).boundPassed = true ∧ (wFabricTrains5.train 63).doneSeen = true ∧
    63 < 64 ∧ wFabricTrains6.inSfl 63 3 = true ∧ 4 ≤ (wFabricTrains6.lockedLogical 63).length ∧
    63 < 64 ∧ wFabricTrains7.inSfl 63 3 = true ∧ (wFabricTrains7.lockedLogical 63).length < 4 ∧
    63 < 64 ∧ wFabricTrains8.inSfl 63 3 = true ∧ (wFabricTrains8.train 63).boundPassed = true ∧ (wFabricTrains8.train 63).doneSeen = false ∧
    63 < 64 ∧ wFabricTrains9.inSfl 63 4 = true ∧ (wFabricTrains9.train 63).adapted.all (fun c => wFabricTrains9.flag SFL_LANE_STAT.LOCK c) = true ∧ (wFabricTrains9.train 63).adapted.all (fun c => decide ((wFabricTrains9.sflLane (c / 9) (c % 9)).nextSeq = (wFabricTrains9.sflLane ((wFabricTrains9.train 63).adapted.headD c / 9) ((wFabricTrains9.train 63).adapted.headD c % 9)).nextSeq)) = true ∧
    63 < 64 ∧ wFabricTrains10.inSfl 63 4 = true ∧ (wFabricTrains10.train 63).adapted.all (fun c => wFabricTrains10.flag SFL_LANE_STAT.LOCK c) = true ∧ (wFabricTrains10.train 63).adapted.all (fun c => decide ((wFabricTrains10.sflLane (c / 9) (c % 9)).nextSeq = (wFabricTrains10.sflLane ((wFabricTrains10.train 63).adapted.headD c / 9) ((wFabricTrains10.train 63).adapted.headD c % 9)).nextSeq)) = true ∧ (wFabricTrains10.train 63).adapted.any (fun c => decide (1000 < ([3, 1001]).getD (c - 9 * 63) 0)) = true ∧ (wFabricTrains10.lockedLogical 63).all (fun l => (wFabricTrains10.rxCircuit 63 l).any fun c => (wFabricTrains10.train 63).adapted.contains c) = true ∧ ((wFabricTrains10.lockedLogical 63).any fun l => (wFabricTrains10.rxCircuit 63 l).any fun c => decide (1000 < ([3, 1001]).getD (c - 9 * 63) 0)) = true ∧ ((wFabricTrains10.lockedLogical 63).filter fun l => (wFabricTrains10.rxCircuit 63 l).all fun c => decide (([3, 1001]).getD (c - 9 * 63) 0 ≤ 1000)).length < 4 ∧
    63 < 64 ∧ 574 ∈ (wFabricTrains11.train 63).adapted ∧ wFabricTrains11.flag SFL_LANE_STAT.LOCK 574 = false ∧
    63 < 64 ∧ wFabricTrains12.inSfl 63 5 = true ∧ withBit ((2 ^ 38 + 5) % 2 ^ 56) 38 false ≠ (wFabricTrains12.train 63).cap ∧
    63 < 64 ∧ wFabricTrains13.inSfl 63 5 = true ∧ (wFabricTrains13.train 63).capAcked = true ∧ 3 ≤ (wFabricTrains13.train 63).capSame ∧ 16 ≤ (wFabricTrains13.train 63).capSent + min 16 16 ∧ min (wFabricTrains13.get SFL_PHY_CFG.REV_MAX 63) ((wFabricTrains13.train 63).cap / 256 % 256) < max (wFabricTrains13.get SFL_PHY_CFG.REV_MIN 63) ((wFabricTrains13.train 63).cap % 256) ∧
    63 < 64 ∧ wFabricTrains14.inSfl 63 5 = true ∧ (wFabricTrains14.train 63).capAcked = true ∧ 3 ≤ (wFabricTrains14.train 63).capSame ∧ 16 ≤ (wFabricTrains14.train 63).capSent + min 16 16 ∧ max (wFabricTrains14.get SFL_PHY_CFG.REV_MIN 63) ((wFabricTrains14.train 63).cap % 256) ≤ min (wFabricTrains14.get SFL_PHY_CFG.REV_MAX 63) ((wFabricTrains14.train 63).cap / 256 % 256) ∧ (wFabricTrains14.train 63).cap / 2 ^ 16 % 256 ≠ wFabricTrains14.get MGT_CHIP_INFO.CHIP_ID 0 ∧ (wFabricTrains14.train 63).subst ≠ [] ∧ wFabricTrains14.get SFL_PHY_CFG.RATE128 63 = 0 ∧ 4 ≤ popCount 8 (Nat.land (wFabricTrains14.train 63).laneOk ((wFabricTrains14.train 63).cap / 2 ^ 39)) ∧
    63 < 64 ∧ wFabricTrains15.inSfl 63 5 = true ∧
    63 < 64 ∧ (wFabricTrains16.train 63).backoff = true ∧
    63 < 64 ∧ wFabricTrains17.inSfl 63 6 = true ∧ (wFabricTrains17.train 63).checkNext = 15 ∧ (wFabricTrains17.takeUnit 63 (unitBlocks (checkUnit 15))).2 = ((checkUnit 15), false) ∧ unitOk 15 (checkUnit 15) = true ∧ unitField (checkUnit 15) 1 0 = 2 ∧
    63 < 64 ∧ wFabricTrains18.inSfl 63 6 = true ∧ (wFabricTrains18.train 63).falseRun < 7 ∧ (wFabricTrains18.takeUnit 63 ([])).2.2 = true ∧
    63 < 64 ∧ wFabricTrains19.isFabric 63 = true ∧ wFabricTrains19.get SFL_TRAIN_STATUS.STATE 63 ≠ 0 ∧ wFabricTrains19.get SFL_TRAIN_STATUS.STATE 63 ≠ 7 ∧
    63 < 64 ∧ wFabricTrains19b.isFabric 63 = true ∧ wFabricTrains19b.get SFL_TRAIN_STATUS.STATE 63 ≠ 0 ∧ wFabricTrains19b.get SFL_TRAIN_STATUS.STATE 63 ≠ 7 ∧
    63 < 64 ∧ wFabricTrains20.isFabric 63 = true ∧ wFabricTrains20.get SFL_TRAIN_STATUS.STATE 63 = 7 := by
  and_intros <;> decide +kernel

def wFabricLinkFalls0 : State := ((State.reset.set SFL_TRAIN_STATUS.STATE 63 7).set PRT_LINK_STATUS.DL_UP 126 1)
def wFabricLinkFalls2 : State := ((State.reset.set SFL_TRAIN_STATUS.STATE 63 7).set PRT_LINK_STATUS.DL_UP 126 1)
def wFabricLinkFalls3 : State := ((State.reset.set SFL_TRAIN_STATUS.STATE 63 7).set PRT_LINK_STATUS.DL_UP 126 1)
def wFabricLinkFalls4 : State := ((State.reset.set SFL_TRAIN_STATUS.STATE 63 7).setLink 63 { SflLink.idle with replayCnt := 300, buf := [⟨0, none, 0, [], []⟩] })
/-- Hypotheses of FabricLinkFalls met. -/
theorem witness_FabricLinkFalls :
    63 < 64 ∧ wFabricLinkFalls0.get SFL_TRAIN_STATUS.STATE 63 = 7 ∧ 4 ≤ 4 ∧
    63 < 64 ∧ 3 < 4 ∧
    63 < 64 ∧ wFabricLinkFalls2.get SFL_TRAIN_STATUS.STATE 63 = 7 ∧
    63 < 64 ∧ wFabricLinkFalls3.get SFL_TRAIN_STATUS.STATE 63 = 7 ∧
    63 < 64 ∧ wFabricLinkFalls4.get SFL_TRAIN_STATUS.STATE 63 = 7 ∧ wFabricLinkFalls4.get SFL_LINK_CTL.REPLAY_MAX 63 < (wFabricLinkFalls4.link 63).replayCnt ∧
    63 < 64 ∧ (State.reset.link 63).replayCnt ≤ State.reset.get SFL_LINK_CTL.REPLAY_MAX 63 := by
  and_intros <;> decide +kernel

def wUnitsAcknowledged0 : State := (State.reset.set SFL_TRAIN_STATUS.STATE 63 7)
def wUnitsAcknowledged1 : State := ((State.reset.set SFL_TRAIN_STATUS.STATE 63 7).setLink 63 { SflLink.idle with waiting := [⟨0, true, [1, 2], true, Pkt.blank⟩], nextSeq := 65535 })
def wUnitsAcknowledged2 : State := ((State.reset.set SFL_TRAIN_STATUS.STATE 63 7).setLink 63 { SflLink.idle with buf := List.replicate 1024 ⟨0, none, 0, [], []⟩ })
def wUnitsAcknowledged3 : State := ((((((State.reset.set SFL_TRAIN_STATUS.STATE 63 7).set SFL_VC_STAT.FREE 511 1).set MGT_FAB_MEMBER.STATE 0 2).setLink 63 { SflLink.idle with expSeq := 65535, rxMask := 1 }).setSflLane 63 0 { SflLane.hunt with home := 0 }).set SFL_LANE_STAT.LOCK 567 1)
def wUnitsAcknowledged4 : State := (State.reset.set SFL_TRAIN_STATUS.STATE 63 7)
def wUnitsAcknowledged5 : State := ((State.reset.set SFL_TRAIN_STATUS.STATE 63 7).setLink 63 { SflLink.idle with rxSlot := 4096 })
def wUnitsAcknowledged6 : State := ((State.reset.set SFL_TRAIN_STATUS.STATE 63 7).setLink 63 { SflLink.idle with buf := [⟨4, none, 0, [], []⟩, ⟨5, none, 0, [], []⟩] })
def wUnitsAcknowledged7 : State := ((State.reset.set SFL_TRAIN_STATUS.STATE 63 7).setLink 63 { SflLink.idle with buf := [⟨4, none, 0, [], []⟩, ⟨5, none, 0, [], []⟩] })
def wUnitsAcknowledged8 : State := ((State.reset.set SFL_TRAIN_STATUS.STATE 63 7).setLink 63 { SflLink.idle with buf := [⟨4, none, 0, [], []⟩] })
def wUnitsAcknowledged9 : State := (((State.reset.set SFL_TRAIN_STATUS.STATE 63 7).set SFL_LINK_STAT.TX_STATE 63 1).setLink 63 { SflLink.idle with buf := [⟨4, none, 0, [], []⟩, ⟨5, none, 0, [], []⟩], replayAt := some 0 })
def wUnitsAcknowledged10 : State := ((State.reset.set SFL_TRAIN_STATUS.STATE 63 7).setLink 63 { SflLink.idle with sinceAck := 1 })
def wUnitsAcknowledged11 : State := ((State.reset.set SFL_TRAIN_STATUS.STATE 63 7).set SFL_LINK_STAT.RX_DISCARD 63 1)
def wUnitsAcknowledged12 : State := (State.reset.set SFL_TRAIN_STATUS.STATE 63 7)
def wUnitsAcknowledged13 : State := (((State.reset.set SFL_TRAIN_STATUS.STATE 63 7).set SFL_VC_STAT.FREE 511 42).set SFL_VC_STAT.THR 511 10)
def wUnitsAcknowledged14 : State := ((State.reset.set SFL_TRAIN_STATUS.STATE 63 7).setLink 63 { SflLink.idle with slot := 4096 })
set_option maxRecDepth 1000000 in
/-- Hypotheses of UnitsAcknowledged met. -/
theorem witness_UnitsAcknowledged :
    63 < 64 ∧ wUnitsAcknowledged0.sflUp 63 = true ∧ (wUnitsAcknowledged0.link 63).timingSlot = false ∧ wUnitsAcknowledged0.get SFL_LINK_STAT.TX_STATE 63 ≠ 1 ∧ wUnitsAcknowledged0.stalled 63 = false ∧ (wUnitsAcknowledged0.link 63).waiting = [] ∧
    63 < 64 ∧ wUnitsAcknowledged1.sflUp 63 = true ∧ (wUnitsAcknowledged1.link 63).timingSlot = false ∧ wUnitsAcknowledged1.get SFL_LINK_STAT.TX_STATE 63 ≠ 1 ∧ wUnitsAcknowledged1.stalled 63 = false ∧ (wUnitsAcknowledged1.link 63).waiting = [((⟨0, true, [1, 2], true, Pkt.blank⟩ : WaitingPkt))] ∧ ((⟨0, true, [1, 2], true, Pkt.blank⟩ : WaitingPkt)).vc = 0 ∧ ((⟨0, true, [1, 2], true, Pkt.blank⟩ : WaitingPkt)).bytes.length ≤ 248 ∧ wUnitsAcknowledged1.flag SFL_ENC_STATUS.ACTIVE 63 = false ∧ wUnitsAcknowledged1.flag SFL_VC_STAT.XOFF_RX (8 * 63) = false ∧
    63 < 64 ∧ wUnitsAcknowledged2.sflUp 63 = true ∧ (wUnitsAcknowledged2.link 63).timingSlot = false ∧ wUnitsAcknowledged2.get SFL_LINK_STAT.TX_STATE 63 ≠ 1 ∧ wUnitsAcknowledged2.stalled 63 = true ∧
    63 < 64 ∧ wUnitsAcknowledged3.sflUp 63 = true ∧ (wUnitsAcknowledged3.takeUnit 63 (unitBlocks (sealUnit 65535 (padTo 252 (toBytes 4 28))))).2 = ((sealUnit 65535 (padTo 252 (toBytes 4 28))), false) ∧ (wUnitsAcknowledged3.link 63).rxSlot % 4097 ≠ 4096 ∧ (wUnitsAcknowledged3.link 63).window + 1 ≠ 16777216 ∧ wUnitsAcknowledged3.flag SFL_ENC_STATUS.ACTIVE 63 = false ∧ unitOk (wUnitsAcknowledged3.link 63).expSeq (sealUnit 65535 (padTo 252 (toBytes 4 28))) = true ∧ unitField (sealUnit 65535 (padTo 252 (toBytes 4 28))) 1 0 = 0 ∧ unitField (sealUnit 65535 (padTo 252 (toBytes 4 28))) 7 6 = 0 ∧ wUnitsAcknowledged3.get SFL_VC_STAT.FREE (8 * 63 + unitField (sealUnit 65535 (padTo 252 (toBytes 4 28))) 4 2) ≠ 0 ∧ (wUnitsAcknowledged3.joined = true ∨ unitField (sealUnit 65535 (padTo 252 (toBytes 4 28))) 4 2 = 0) ∧
    63 < 64 ∧ wUnitsAcknowledged4.sflUp 63 = true ∧ (wUnitsAcknowledged4.takeUnit 63 ([])).2.2 = true ∧ (wUnitsAcknowledged4.link 63).rxSlot % 4097 ≠ 4096 ∧ (wUnitsAcknowledged4.link 63).window + 1 ≠ 16777216 ∧ wUnitsAcknowledged4.flag SFL_LINK_STAT.RX_DISCARD 63 = false ∧
    63 < 64 ∧ wUnitsAcknowledged5.sflUp 63 = true ∧ (wUnitsAcknowledged5.takeUnit 63 ([])).2.2 = true ∧ (wUnitsAcknowledged5.link 63).rxSlot % 4097 = 4096 ∧ (wUnitsAcknowledged5.link 63).window + 1 ≠ 16777216 ∧
    63 < 64 ∧ wUnitsAcknowledged6.sflUp 63 = true ∧
    63 < 64 ∧ wUnitsAcknowledged7.sflUp 63 = true ∧
    63 < 64 ∧ wUnitsAcknowledged8.sflUp 63 = true ∧ wUnitsAcknowledged8.get SFL_LINK_STAT.TX_STATE 63 ≠ 1 ∧ (wUnitsAcknowledged8.link 63).buf ≠ [] ∧
    63 < 64 ∧ wUnitsAcknowledged9.sflUp 63 = true ∧ wUnitsAcknowledged9.get SFL_LINK_STAT.TX_STATE 63 = 1 ∧ (wUnitsAcknowledged9.link 63).timingSlot = false ∧ (wUnitsAcknowledged9.link 63).replayAt = some 0 ∧ (wUnitsAcknowledged9.link 63).buf[0]? = some ((⟨4, none, 0, [], []⟩ : StoredUnit)) ∧ 0 + 1 < (wUnitsAcknowledged9.link 63).buf.length ∧
    63 < 64 ∧ wUnitsAcknowledged10.sflUp 63 = true ∧ 0 < (wUnitsAcknowledged10.link 63).sinceAck ∧
    63 < 64 ∧ wUnitsAcknowledged11.sflUp 63 = true ∧ wUnitsAcknowledged11.flag SFL_LINK_STAT.RX_DISCARD 63 = true ∧
    63 < 64 ∧ 7 < 8 ∧ wUnitsAcknowledged12.sflUp 63 = true ∧ wUnitsAcknowledged12.get SFL_VC_STAT.FREE (8 * 63 + 7) ≤ wUnitsAcknowledged12.get SFL_VC_STAT.THR (8 * 63 + 7) ∧
    63 < 64 ∧ 7 < 8 ∧ wUnitsAcknowledged13.sflUp 63 = true ∧ wUnitsAcknowledged13.get SFL_VC_STAT.THR (8 * 63 + 7) + 32 ≤ wUnitsAcknowledged13.get SFL_VC_STAT.FREE (8 * 63 + 7) ∧
    63 < 64 ∧ wUnitsAcknowledged14.sflUp 63 = true ∧ (wUnitsAcknowledged14.link 63).slot % 4097 = 4096 := by
  and_intros <;> decide +kernel

def wLaneSetsChange0 : State := ((State.reset.set SFL_TRAIN_STATUS.STATE 63 7).setLink 63 { SflLink.idle with asked := some ⟨1, 15, 31, 0⟩ })
def wLaneSetsChange1 : State := ((((((((((State.reset.set SFL_TRAIN_STATUS.STATE 63 7).set SFL_TRAIN_STATUS.LANES 63 8).setSflLane 63 0 { SflLane.hunt with home := 0 }).set SFL_LANE_STAT.LOCK 567 1).setSflLane 63 1 { SflLane.hunt with home := 1 }).set SFL_LANE_STAT.LOCK 568 1).setSflLane 63 2 { SflLane.hunt with home := 2 }).set SFL_LANE_STAT.LOCK 569 1).setSflLane 63 7 { SflLane.hunt with home := 7 }).set SFL_LANE_STAT.LOCK 574 1)
def wLaneSetsChange2 : State := (State.reset.set SFL_TRAIN_STATUS.STATE 63 7)
def wLaneSetsChange3 : State := ((State.reset.set SFL_TRAIN_STATUS.STATE 63 7).setLink 63 { SflLink.idle with asked := some ⟨1, 15, 31, 0⟩ })
def wLaneSetsChange4 : State := ((State.reset.set SFL_TRAIN_STATUS.STATE 63 7).setLink 63 { SflLink.idle with asked := some ⟨1, 15, 31, 0⟩ })
def wLaneSetsChange5 : State := ((State.reset.set SFL_TRAIN_STATUS.STATE 63 7).setLink 63 { SflLink.idle with change := some ⟨1, 15, 31, 0⟩ })
def wLaneSetsChange6 : State := ((State.reset.set SFL_TRAIN_STATUS.STATE 63 7).setLink 63 { SflLink.idle with change := some ⟨1, 15, 31, 0⟩ })
def wLaneSetsChange7 : State := ((State.reset.set SFL_TRAIN_STATUS.STATE 63 7).setLink 63 { SflLink.idle with change := some ⟨15, 0xFFFF, 31, 0⟩, txSwitched := true })
def wLaneSetsChange8 : State := ((((((((((State.reset.set SFL_TRAIN_STATUS.STATE 63 7).set SFL_LINK_STAT.ACTIVE_MASK 63 0xFF).setSflLane 63 0 { SflLane.hunt with home := 0 }).set SFL_LANE_STAT.LOCK 567 1).setSflLane 63 1 { SflLane.hunt with home := 1 }).set SFL_LANE_STAT.LOCK 568 1).setSflLane 63 2 { SflLane.hunt with home := 2 }).set SFL_LANE_STAT.LOCK 569 1).setSflLane 63 7 { SflLane.hunt with home := 7 }).set SFL_LANE_STAT.LOCK 574 1)
def wLaneSetsChange9 : State := ((State.reset.set SFL_TRAIN_STATUS.STATE 63 7).setLink 63 { SflLink.idle with epoch := 15 })
/-- Hypotheses of LaneSetsChange met. -/
theorem witness_LaneSetsChange :
    63 < 64 ∧ wLaneSetsChange0.sflUp 63 = true ∧ (wLaneSetsChange0.link 63).asked = some ((⟨1, 15, 31, 0⟩ : LaneChange)) ∧
    63 < 64 ∧ wLaneSetsChange1.takesCommand 63 1 (1 + 1 * 16 + 0x87 * 256 + 31 * 2 ^ 24) 4 = true ∧ (wLaneSetsChange1.link 63).asked = none ∧ (wLaneSetsChange1.link 63).change = none ∧ wLaneSetsChange1.laneRefusal 63 (laneChangeOf (1 + 1 * 16 + 0x87 * 256 + 31 * 2 ^ 24)) = none ∧
    63 < 64 ∧ wLaneSetsChange2.takesCommand 63 1 (1 + 7 * 256) 4 = true ∧ (wLaneSetsChange2.link 63).asked = none ∧ (wLaneSetsChange2.link 63).change = none ∧ (maskLanes (laneChangeOf (1 + 7 * 256)).mask).length < 4 ∧
    63 < 64 ∧ wLaneSetsChange3.takesCommand 63 2 18 4 = true ∧ (wLaneSetsChange3.link 63).asked = some ((⟨1, 15, 31, 0⟩ : LaneChange)) ∧ (wLaneSetsChange3.link 63).change = none ∧ ((⟨1, 15, 31, 0⟩ : LaneChange)).epoch = 18 / 16 % 16 ∧
    63 < 64 ∧ wLaneSetsChange4.takesCommand 63 3 (3 + 16 + 2 * 2 ^ 30) 4 = true ∧ (wLaneSetsChange4.link 63).asked = some ((⟨1, 15, 31, 0⟩ : LaneChange)) ∧ ((⟨1, 15, 31, 0⟩ : LaneChange)).epoch = (3 + 16 + 2 * 2 ^ 30) / 16 % 16 ∧
    63 < 64 ∧ wLaneSetsChange5.takesCommand 63 4 20 4 = true ∧ (wLaneSetsChange5.link 63).change = some ((⟨1, 15, 31, 0⟩ : LaneChange)) ∧ ((⟨1, 15, 31, 0⟩ : LaneChange)).epoch = 20 / 16 % 16 ∧ (wLaneSetsChange5.link 63).rxSwitched = false ∧ (wLaneSetsChange5.link 63).txSwitched = false ∧
    63 < 64 ∧ wLaneSetsChange6.sflUp 63 = true ∧ (wLaneSetsChange6.link 63).timingSlot = false ∧ (wLaneSetsChange6.link 63).change = some ((⟨1, 15, 31, 0⟩ : LaneChange)) ∧ (wLaneSetsChange6.link 63).rxSwitched = false ∧ (wLaneSetsChange6.link 63).txSwitched = false ∧
    63 < 64 ∧ wLaneSetsChange7.takesCommand 63 4 0xF4 8 = true ∧ (wLaneSetsChange7.link 63).change = some ((⟨15, 0xFFFF, 31, 0⟩ : LaneChange)) ∧ ((⟨15, 0xFFFF, 31, 0⟩ : LaneChange)).epoch = 0xF4 / 16 % 16 ∧ (wLaneSetsChange7.link 63).rxSwitched = false ∧ (wLaneSetsChange7.link 63).txSwitched = true ∧ (wLaneSetsChange7.link 63).again = none ∧ (wLaneSetsChange7.link 63).asked = none ∧ ((⟨15, 0xFFFF, 31, 0⟩ : LaneChange)).subst = 31 ∧ ((⟨15, 0xFFFF, 31, 0⟩ : LaneChange)).mask < 2 ^ 16 ∧ ((⟨15, 0xFFFF, 31, 0⟩ : LaneChange)).epoch < 16 ∧
    63 < 64 ∧ 5 < 16 ∧ wLaneSetsChange8.sflUp 63 = true ∧ (wLaneSetsChange8.link 63).change = none ∧ bitOf (wLaneSetsChange8.get SFL_LINK_STAT.ACTIVE_MASK 63) 5 = true ∧ 4 ≤ ((wLaneSetsChange8.lockedLogical 63).filter fun l => l ≠ 5 && bitOf (wLaneSetsChange8.get SFL_LINK_STAT.ACTIVE_MASK 63) l).length ∧
    63 < 64 ∧ wLaneSetsChange9.sflUp 63 = true ∧ (wLaneSetsChange9.link 63).change = none := by
  and_intros <;> decide +kernel

def wLinkKeysKept0 : State := (State.reset.set SFL_TRAIN_STATUS.STATE 63 7)
def wLinkKeysKept1 : State := ((State.reset.set SFL_TRAIN_STATUS.STATE 63 7).setLink 63 { SflLink.idle with rxKeys := [⟨true, 1, 2, 300⟩, ⟨true, 1, 2, 300⟩] })
def wLinkKeysKept1b : State := ((State.reset.set SFL_TRAIN_STATUS.STATE 63 7).setLink 63 { SflLink.idle with rxKeys := [⟨true, 1, 2, 300⟩, ⟨true, 1, 2, 300⟩] })
def wLinkKeysKept2 : State := ((State.reset.set SFL_TRAIN_STATUS.STATE 63 7).set SFL_TRAIN_STATUS.LANES 63 8)
def wLinkKeysKept3 : State := (((State.reset.set PRT_CFG.MODE 63 1).set PRT_CFG.ROLE0 63 2).set SFL_KEY_DATA.KEY 255 77)
def wLinkKeysKept4 : State := (((State.reset.set PRT_CFG.MODE 63 1).set PRT_CFG.ROLE0 63 2).setLink 63 { SflLink.idle with txKeys := [⟨true, 5, 6, 7⟩, KeySlot.empty] })
def wLinkKeysKept5 : State := (((State.reset.set PRT_CFG.MODE 63 1).set PRT_CFG.ROLE0 63 2).setLink 63 { SflLink.idle with txKeys := [KeySlot.empty, ⟨true, 5, 6, 7⟩] })
def wLinkKeysKept6 : State := ((State.reset.set PRT_CFG.MODE 63 1).set PRT_CFG.ROLE0 63 2)
def wLinkKeysKept7 : State := (State.reset.setLink 63 { SflLink.idle with txKeys := [⟨true, 5, 6, 2 ^ 40⟩, KeySlot.empty] })
def wLinkKeysKept8 : State := (((State.reset.set SFL_TRAIN_STATUS.STATE 63 7).set SFL_ENC_STATUS.ACTIVE 63 1).setLink 63 { SflLink.idle with txKeys := [⟨true, 5, 6, 2 ^ 48⟩, KeySlot.empty] })
/-- Hypotheses of LinkKeysKept met. -/
theorem witness_LinkKeysKept :
    63 < 64 ∧ wLinkKeysKept0.takesCommand 63 5 0xF5 8 = true ∧
    63 < 64 ∧ wLinkKeysKept1.takesCommand 63 5 0x1F5 8 = true ∧ 0x1F5 / 2 ^ 5 % 2 = 1 ∧ (wLinkKeysKept1.link 63).rxKeys.length = 2 ∧
    63 < 64 ∧ wLinkKeysKept1b.takesCommand 63 5 0x2F5 8 = true ∧ 0x2F5 / 2 ^ 5 % 2 = 1 ∧ (wLinkKeysKept1b.link 63).rxKeys.length = 2 ∧
    63 < 64 ∧ wLinkKeysKept2.sflUp 63 = true ∧ wLinkKeysKept2.takesCommand 63 5 0xF5 3 = false ∧
    63 < 64 ∧ wLinkKeysKept3.isFabric 63 = true ∧ ((7 : Word)).field SFL_KEY_CMD.COMMIT.hi SFL_KEY_CMD.COMMIT.lo = 1 ∧ ((7 : Word)).field SFL_KEY_CMD.DIR.hi SFL_KEY_CMD.DIR.lo = 1 ∧ (wLinkKeysKept3.link 63).encSeen = false ∧
    63 < 64 ∧ wLinkKeysKept4.isFabric 63 = true ∧ ((4 : Word)).field SFL_KEY_CMD.COMMIT.hi SFL_KEY_CMD.COMMIT.lo = 1 ∧ ((4 : Word)).field SFL_KEY_CMD.DIR.hi SFL_KEY_CMD.DIR.lo = 0 ∧ ((4 : Word)).field SFL_KEY_CMD.SLOT.hi SFL_KEY_CMD.SLOT.lo = wLinkKeysKept4.get SFL_ENC_CTL.TX_SLOT 63 ∧ ((wLinkKeysKept4.link 63).txKeys.getD (wLinkKeysKept4.get SFL_ENC_CTL.TX_SLOT 63) KeySlot.empty).valid = true ∧
    63 < 64 ∧ 1 < 2 ∧ wLinkKeysKept5.isFabric 63 = true ∧ ((wLinkKeysKept5.link 63).txKeys.getD 1 KeySlot.empty).valid = true ∧
    63 < 64 ∧ 1 < 2 ∧ wLinkKeysKept6.isFabric 63 = true ∧ ((wLinkKeysKept6.link 63).txKeys.getD 1 KeySlot.empty).valid = false ∧
    63 < 64 ∧ 0 < 2 ∧ ((wLinkKeysKept7.link 63).txKeys.getD 0 KeySlot.empty).count = 2 ^ 40 ∧
    63 < 64 ∧ 0 < 2 ∧ wLinkKeysKept8.sflUp 63 = true ∧ 0 = wLinkKeysKept8.get SFL_ENC_CTL.TX_SLOT 63 ∧ wLinkKeysKept8.keySpent 63 = true ∧ wLinkKeysKept8.get SFL_LINK_STAT.TX_STATE 63 ≠ 1 := by
  and_intros <;> decide +kernel

def wTimeIsDisciplined0 : State := (State.reset.set SFL_TRAIN_STATUS.STATE 63 7)
def wTimeIsDisciplined1 : State := (((({ (State.reset.set SFL_TRAIN_STATUS.STATE 63 7) with clk := 77 } : State).setLink 63 { SflLink.idle with rxMask := 1 }).setSflLane 63 0 { SflLane.hunt with home := 0 }).set SFL_LANE_STAT.LOCK 567 1)
def wTimeIsDisciplined3 : State := (({ State.reset with servo := { Servo.idle with due := some (-5000) } } : State).set TIM_OFFSET.SEQ 0 255)
def wTimeIsDisciplined3b : State := ({ State.reset with servo := { Servo.idle with due := some 5000000, first := false, last := -50 } } : State)
def wTimeIsDisciplined5 : State := ({ (State.reset.set TIM_STAT.STATE 0 1) with servo := { Servo.idle with due := some (-5000), good := 7 } } : State)
def wTimeIsDisciplined7 : State := ({ ((State.reset.set TIM_STAT.ROOT 0 1).set TIM_CFG.SRC 0 1) with ptpBest := some ⟨0, 1, 2, 3, 4, 5, 6, 7, 8⟩ } : State)
def wTimeIsDisciplined8 : State := ({ ((State.reset.set TIM_STAT.ROOT 0 1).set TIM_CFG.SRC 0 3) with tim := ⟨1, 500000000, 0⟩ } : State)
def wTimeIsDisciplined9 : State := ((State.reset.set TIM_STAT.ROOT 0 1).set TIM_CFG.SRC 0 1)
def wTimeIsDisciplined10 : State := (((State.reset.set TIM_STAT.ROOT 0 1).set TIM_CFG.SRC 0 2).set TIM_STAT.STATE 0 2)
def wTimeIsDisciplined11 : State := ({ (((State.reset.set MGT_FAB_STAT.ROLE_NOW 0 3).set TIM_SET_LO.VAL 0 (999999999 * 2 ^ 16 + 7)).set TIM_SET_HI.VAL 0 5) with tim := ⟨9, 8, 7⟩ } : State)
def wTimeIsDisciplined12 : State := (State.reset.set MGT_FAB_STAT.ROLE_NOW 0 2)
def wTimeIsDisciplined13 : State := ({ (State.reset.set MGT_FAB_STAT.ROLE_NOW 0 5) with tim := ⟨1, 2, 3⟩ } : State)
def wTimeIsDisciplined17 : State := (((State.reset.set TIM_STAT.UP_PORT 0 124).set SFL_TRAIN_STATUS.STATE 62 7).setPeer 62 (some ⟨0, 1, true, true, 3, 0, 5⟩))
set_option maxRecDepth 1000000 in
/-- Hypotheses of TimeIsDisciplined met. -/
theorem witness_TimeIsDisciplined :
    63 < 64 ∧ wTimeIsDisciplined0.sflUp 63 = true ∧ (wTimeIsDisciplined0.takeUnit 63 (([] : List Block))).2 = ((([] : List Byte)), true) ∧ (true = true ∨ unitOk 0xFFFF (([] : List Byte)) = false) ∧
    63 < 64 ∧ wTimeIsDisciplined1.sflUp 63 = true ∧ (wTimeIsDisciplined1.takeUnit 63 (unitBlocks (sealUnit 0xFFFF (padTo 252 (toBytes 4 3 ++ toBytes 12 (2 ^ 50)))))).2 = ((sealUnit 0xFFFF (padTo 252 (toBytes 4 3 ++ toBytes 12 (2 ^ 50)))), false) ∧ unitOk 0xFFFF (sealUnit 0xFFFF (padTo 252 (toBytes 4 3 ++ toBytes 12 (2 ^ 50)))) = true ∧ unitField (sealUnit 0xFFFF (padTo 252 (toBytes 4 3 ++ toBytes 12 (2 ^ 50)))) 1 0 = 3 ∧
    State.reset.phase ≠ .reset ∧
    wTimeIsDisciplined3.servo.due = some ((-5000 : Int)) ∧
    wTimeIsDisciplined3b.servo.due = some ((5000000 : Int)) ∧
    State.reset.servo.due = none ∧
    wTimeIsDisciplined5.servo.due = some ((-5000 : Int)) ∧ wTimeIsDisciplined5.servoState = 1 ∧ 7 ≤ wTimeIsDisciplined5.servo.good ∧ |((-5000 : Int))| < 20 * 2 ^ 16 ∧
    State.reset.ptpBest = none ∧
    wTimeIsDisciplined7.ptpBest = some ((⟨0, 1, 2, 3, 4, 5, 6, 7, 8⟩ : PtpMaster)) ∧ ((⟨0, 1, 2, 3, 4, 5, 6, 7, 8⟩ : PtpMaster)).domain = wTimeIsDisciplined7.get TIM_CFG.PTP_DOMAIN 0 ∧ wTimeIsDisciplined7.flag TIM_STAT.ROOT 0 = true ∧ wTimeIsDisciplined7.get TIM_CFG.SRC 0 = 1 ∧
    wTimeIsDisciplined9.flag TIM_STAT.ROOT 0 = true ∧ wTimeIsDisciplined9.get TIM_CFG.SRC 0 = 1 ∧
    wTimeIsDisciplined10.flag TIM_STAT.ROOT 0 = true ∧ 2 ≤ wTimeIsDisciplined10.get TIM_CFG.SRC 0 ∧
    wTimeIsDisciplined11.actsAsRoot = true ∧ wTimeIsDisciplined11.timSetValue.ns < 1000000000 ∧
    wTimeIsDisciplined12.actsAsRoot = false ∧
    wTimeIsDisciplined13.actsAsRoot = true ∧ 0 ≤ wTimeIsDisciplined13.tim.total + signed32 ((2 ^ 32 - 5) % 2 ^ 32) * 2 ^ 48 ∧
    State.reset.tim.total + signed32 ((2 ^ 32 - 1) % 2 ^ 32) * 2 ^ 48 < 0 ∧
    ((⟨0, 1, 2, 3, 4, 5, 6, 7, 8⟩ : PtpMaster)).domain = State.reset.get TIM_CFG.PTP_DOMAIN 0 ∧ State.reset.ptpBest = none ∧
    ((⟨1, 1, 2, 3, 4, 5, 6, 7, 8⟩ : PtpMaster)).domain ≠ State.reset.get TIM_CFG.PTP_DOMAIN 0 ∧
    wTimeIsDisciplined17.flag TIM_STAT.ROOT 0 = false ∧ wTimeIsDisciplined17.get TIM_STAT.UP_PORT 0 = 2 * 62 ∧ 62 < 63 := by
  and_intros <;> decide +kernel

def wSensorsConverted0 : State := (State.reset.set PWR_TEL_SMP.SEQ 95 255)
def wSensorsConverted1 : State := ((State.reset.setSensor 0 { TelSensor.idle with stale := 3 }).set PWR_TEL_SMP.VALUE 0 9)
def wSensorsConverted3 : State := (State.reset.setSensor 63 { TelSensor.idle with ge95 := 16, ge100 := 16, ge110 := 16 })
def wSensorsConverted4 : State := (State.reset.setSensor 63 { TelSensor.idle with ge95 := 16, ge100 := 15 })
def wSensorsConverted5 : State := (State.reset.setSensor 63 { TelSensor.idle with ge95 := 16, out := true })
/-- Hypotheses of SensorsConverted met. -/
theorem witness_SensorsConverted :
    95 < 96 ∧ (wSensorsConverted0.sensor 95).stale = 0 ∧ wSensorsConverted0.get PWR_TEL_CH.FILTER 95 = 0 ∧
    63 < 96 ∧ (State.reset.sensor 63).stale = 0 ∧ State.reset.get PWR_TEL_CH.FILTER 63 = 0 ∧
    0 < 96 ∧ 0 < (wSensorsConverted1.sensor 0).stale ∧
    2392 ≤ 2408 ∧ 2408 ≤ 2408 ∧
    63 < 64 ∧ (wSensorsConverted3.sensor 63).out = false ∧
    63 < 64 ∧ (wSensorsConverted4.sensor 63).out = false ∧ (wSensorsConverted4.sensor 63).st = 0 ∧ 16 ≤ (wSensorsConverted4.sensor 63).ge95 ∧ (wSensorsConverted4.sensor 63).ge100 < 16 ∧ (wSensorsConverted4.sensor 63).ge110 < 16 ∧
    63 < 64 ∧ (wSensorsConverted5.sensor 63).out = true := by
  and_intros <;> decide +kernel

def wKeysAndRandom0 : State := ((State.reset.set KEY_TRNG_STAT.READY 0 1).set KEY_RES.VALID 0 1)
def wKeysAndRandom2 : State := ({ State.reset with pendingId := some 9 } : State)
def wKeysAndRandom4 : State := ({ State.reset with fuses := ⟨[], [(2, 0xFF)], [], 0⟩ } : State)
def wKeysAndRandom5 : State := ({ State.reset with keyRun := some ⟨1, 0, 0, [], 0, 0⟩ } : State)
def wKeysAndRandom6 : State := ({ State.reset with fuses := ⟨[], [(2, 0xFF)], [], 0⟩ } : State)
def wKeysAndRandom8 : State := ({ State.reset with keyRun := some ⟨3, 2, 0, [], 0, 0⟩ } : State)
def wKeysAndRandom9 : State := ({ State.reset with keyRun := some ⟨1, 0, 0, [], 77, 0⟩ } : State)
def wKeysAndRandom10 : State := (State.reset.set KEY_TRNG_STAT.STARTS 0 2)
def wKeysAndRandom11 : State := (State.reset.set KEY_TRNG_STAT.FAILED 0 1)
def wKeysAndRandom12 : State := (State.reset.set KEY_TRNG_STAT.STARTS 0 3)
def wKeysAndRandom13 : State := (State.reset.set KEY_TRNG_STAT.READY 0 1)
def wKeysAndRandom14 : State := (State.reset.set KEY_TRNG_STAT.READY 0 1)
def wKeysAndRandom15 : State := (State.reset.set KEY_TRNG_STAT.READY 0 1)
/-- Hypotheses of KeysAndRandom met. -/
theorem witness_KeysAndRandom :
    wKeysAndRandom0.imgRun = none ∧ wKeysAndRandom0.keyRun = none ∧ wKeysAndRandom0.flag KEY_TRNG_STAT.READY 0 = true ∧
    State.reset.imgRun = none ∧ State.reset.keyRun = none ∧ State.reset.flag KEY_TRNG_STAT.READY 0 = false ∧
    wKeysAndRandom2.imgRun = none ∧ wKeysAndRandom2.keyRun = none ∧ wKeysAndRandom2.pendingId = some 9 ∧
    3 < 4 ∧ State.reset.imgRun = none ∧ State.reset.keyRun = none ∧ State.reset.rootUsable 3 = false ∧ State.reset.get KEY_STAT.REC_VALID 0 = 0 ∧
    2 < 4 ∧ wKeysAndRandom4.imgRun = none ∧ wKeysAndRandom4.keyRun = none ∧ wKeysAndRandom4.rootUsable 2 = true ∧ ((∀ k ∈ List.range 4, k ≠ 2 → wKeysAndRandom4.rootUsable k = false)) ∧
    0 < 4 ∧ wKeysAndRandom5.keyRun.isSome = true ∧
    2 < 4 ∧ wKeysAndRandom6.imgRun = none ∧ wKeysAndRandom6.keyRun = none ∧
    State.reset.imgRun = none ∧ State.reset.keyRun = none ∧
    wKeysAndRandom8.keyRun = some (KeyRun.mk 3 2 0 [] 0 0) ∧
    wKeysAndRandom9.keyRun = some (KeyRun.mk 1 0 0 [] 77 0) ∧
    wKeysAndRandom10.flag KEY_TRNG_STAT.FAILED 0 = false ∧
    wKeysAndRandom11.flag KEY_TRNG_STAT.FAILED 0 = true ∧
    wKeysAndRandom12.flag KEY_TRNG_STAT.FAILED 0 = false ∧
    wKeysAndRandom13.flag KEY_TRNG_STAT.FAILED 0 = false ∧
    wKeysAndRandom14.flag KEY_TRNG_STAT.READY 0 = true ∧
    wKeysAndRandom15.flag KEY_TRNG_STAT.READY 0 = true ∧
    State.reset.flag KEY_TRNG_STAT.READY 0 = false := by
  and_intros <;> decide +kernel

def wCountersShown0 : State := ((State.reset.set CNT_VAL.COUNT 320 5).set CNT_VAL.COUNT 399 6)
def wCountersShown0b : State := (State.reset.set CNT_VAL.COUNT 240 5)
def wCountersShown1 : State := (State.reset.set FLT_REG_STAT.STATE 3 1)
def wCountersShown2 : State := ((State.reset.set CNT_VAL.COUNT 320 5).set CNT_VAL.SAT 399 1)
def wCountersShown3 : State := ((State.reset.set CNT_BW2.PEAK_IN 127 5).set CNT_BW2.PEAK_OUT 0 6)
def wCountersShown4 : State := (State.reset.set CNT_BW2.PEAK_IN 127 5)
def wCountersShown6 : State := ({ State.reset with trcDue := [⟨5, 63, 0, 0, 0, samplePkt, none⟩] } : State)
def wCountersShown7 : State := ({ (State.reset.set CNT_TRC_STAT.RUN 0 1) with trcDue := [⟨5, 63, 0, 0, 0, samplePkt, none⟩] } : State)
def wCountersShown8 : State := ({ ((((State.reset.set CNT_TRC_STAT.RUN 0 1).set CNT_TRC_CFG.DEST 0 1).set CNT_TRC_CFG.WRAP 0 1).set CNT_TRC_STAT.WREC 0 (2 ^ 32 - 1)) with trcDue := [⟨5, 63, 0, 0, 0, samplePkt, none⟩] } : State)
def wCountersShown9 : State := ((State.reset.set CNT_TRC_CFG.DEST 0 1).set CNT_TRC_STAT.FULL 0 1)
def wCountersShown10 : State := (State.reset.set MGT_HBM_PART.TRACE_256M 0 0)
def wCountersShown11 : State := (State.reset.set CNT_TRC_STAT.RUN 0 1)
def wCountersShown12 : State := (State.reset.setEngine 127 { Engine.idle with job := some { (sampleRun [7, 0, 0, 0, 0, 2, 0, 0]) with snaps := 3 } })
def wCountersShown13 : State := (State.reset.setEngine 127 { Engine.idle with job := some (sampleRun [7, 0, 0, 0, 0, 0, 0, 0]) })
def wCountersShown14 : State := (State.reset.setEngine 127 { Engine.idle with job := some (sampleRun [7, 0, 0, 0, 0, 0, 0, 0]) })
/-- Hypotheses of CountersShown met. -/
theorem witness_CountersShown :
    4 < 5 ∧ ((4 = 4 ∨ wCountersShown0.regionState 4 ≠ 1)) ∧
    3 < 5 ∧ ((3 = 4 ∨ wCountersShown0b.regionState 3 ≠ 1)) ∧
    3 < 4 ∧ wCountersShown1.regionState 3 = 1 ∧
    4 < 5 ∧ ((4 = 4 ∨ wCountersShown2.regionState 4 ≠ 1)) ∧
    127 < 128 ∧
    State.reset.trcDue = [] ∧
    wCountersShown6.trcDue = ((⟨5, 63, 0, 0, 0, samplePkt, none⟩ : TraceDue)) :: (([] : List TraceDue)) ∧ wCountersShown6.flag CNT_TRC_STAT.RUN 0 = false ∧
    wCountersShown7.trcDue = ((⟨5, 63, 0, 0, 0, samplePkt, none⟩ : TraceDue)) :: (([] : List TraceDue)) ∧ wCountersShown7.flag CNT_TRC_STAT.RUN 0 = true ∧
    wCountersShown8.trcDue = ((⟨5, 63, 0, 0, 0, samplePkt, none⟩ : TraceDue)) :: (([] : List TraceDue)) ∧ wCountersShown8.flag CNT_TRC_STAT.RUN 0 = true ∧ wCountersShown8.flag CNT_TRC_CFG.DEST 0 = true ∧ wCountersShown8.flag CNT_TRC_CFG.WRAP 0 = true ∧
    wCountersShown9.flag CNT_TRC_CFG.DEST 0 = true ∧
    wCountersShown10.flag CNT_TRC_CFG.DEST 0 = false ∧ wCountersShown10.get MGT_HBM_PART.TRACE_256M 0 = 0 ∧
    127 < 128 ∧ wCountersShown12.telemRun 127 = some ({ (sampleRun [7, 0, 0, 0, 0, 2, 0, 0]) with snaps := 3 }) ∧ ({ (sampleRun [7, 0, 0, 0, 0, 2, 0, 0]) with snaps := 3 }).fail = 0 ∧ telemDone ({ (sampleRun [7, 0, 0, 0, 0, 2, 0, 0]) with snaps := 3 }) = true ∧
    127 < 128 ∧ wCountersShown13.telemRun 127 = some ((sampleRun [7, 0, 0, 0, 0, 0, 0, 0])) ∧ ((sampleRun [7, 0, 0, 0, 0, 0, 0, 0])).fail = 0 ∧ telemDone ((sampleRun [7, 0, 0, 0, 0, 0, 0, 0])) = false ∧ ((sampleRun [7, 0, 0, 0, 0, 0, 0, 0])).cancel = false ∧
    127 < 128 ∧ wCountersShown14.telemRun 127 = some ((sampleRun [7, 0, 0, 0, 0, 0, 0, 0])) ∧ ((sampleRun [7, 0, 0, 0, 0, 0, 0, 0])).fail = 0 ∧ ((sampleRun [7, 0, 0, 0, 0, 0, 0, 0])).cancel = false ∧ telemDone ((sampleRun [7, 0, 0, 0, 0, 0, 0, 0])) = false ∧ asdSpace (((sampleRun [7, 0, 0, 0, 0, 0, 0, 0])).job.word 7) ≠ 2 := by
  and_intros <;> decide +kernel

def wAnvilCarriesPackets0 : State := ((State.reset.set TMP_CFG.CLIENT_TC 3 0).enqueue 133 { samplePkt with dst := 63, len := 3 })
def wAnvilCarriesPackets1 : State := ((State.reset.writeEntry .route 0 (fun t => t.set ROUTE_ENTRY.VALID 0 1)).set ANV_CR_CFG.STAND 0 8)
def wAnvilCarriesPackets5 : State := (State.reset.setNi 133 { NiState.idle with holds := [(63, 3)] })
def wAnvilCarriesPackets7 : State := ((State.reset.set ANV_RTR_STAT.LINK_UP 62 15).setRtr 62 { RtrState.idle with flits := [⟨4, { samplePkt with dst := 63, len := 1, rlen := 1, route := 0 }, 0, 3⟩] })
def wAnvilCarriesPackets8 : State := ((State.reset.set ANV_RTR_STAT.LINK_UP 63 15).setRtr 63 { RtrState.idle with flits := [⟨4, { samplePkt with dst := 0, len := 1, rlen := 2, route := 2 }, 0, 3⟩] })
def wAnvilCarriesPackets9 : State := (State.reset.setRtr 63 { RtrState.idle with flits := [⟨0, { samplePkt with dst := 63, len := 2, rlen := 0 }, 0, 3⟩] })
def wAnvilCarriesPackets10 : State := ((State.reset.setInFlight 1 63 0 5).setRtr 63 { RtrState.idle with flits := [⟨0, { samplePkt with dst := 127, len := 1, rlen := 0 }, 0, 3⟩] })
def wAnvilCarriesPackets12 : State := ((State.reset.set FLT_STAT.FENCED 0 8).setRtr 63 { RtrState.idle with flits := [⟨4, { samplePkt with dst := 0, len := 1, rlen := 2, route := 2 }, 0, 3⟩] })
def wAnvilCarriesPackets13 : State := ((((State.reset.set ANV_RTR_STAT.SPARE_USED 63 0x7000).set FLT_WEAR_CFG.WIRE_THR 0 2).set FLT_POOL.AUTO 1 1).wearAdd 7 (wireCell 63 3 5) 3)
def wAnvilCarriesPackets15 : State := ((State.reset.set ANV_CR_CFG.STAND 0 8).enqueue 133 { samplePkt with dst := 0, len := 3 })
def wAnvilCarriesPackets17 : State := (State.reset.setCrossing 63 7 [⟨0, { samplePkt with dst := 63, len := 3 }, 2, 5⟩])
def wAnvilCarriesPackets18 : State := (State.reset.setCrossing 63 4 [⟨4, { samplePkt with dst := 0, len := 3 }, 2, 5⟩])
def wAnvilCarriesPackets19 : State := (State.reset.setCrossing 63 7 [⟨0, { samplePkt with dst := 63, len := 1 }, 0, 5⟩])
/-- Hypotheses of AnvilCarriesPackets met. -/
theorem witness_AnvilCarriesPackets :
    133 < 134 ∧ (({ samplePkt with dst := 63, kind := PktKind.response } : Pkt)).body.length ≤ 624 ∧ wAnvilCarriesPackets0.carried 133 (({ samplePkt with dst := 63, kind := PktKind.response } : Pkt)) = none ∧ Tbl.rd (fun _ => []) wAnvilCarriesPackets0.voq (voqKey 133 (wAnvilCarriesPackets0.packetOf 133 ((StreamSrc.io 0 0 0)) (({ samplePkt with dst := 63, kind := PktKind.response } : Pkt)))) = (({ samplePkt with dst := 63, len := 3 } : Pkt)) :: (([] : List Pkt)) ∧
    0 < 64 ∧ (({ samplePkt with dst := 0, body := List.replicate 200 7 } : Pkt)).body.length ≤ 624 ∧ ((((State.reset.writeEntry .route 0 (fun t => t.set ROUTE_ENTRY.VALID 0 1)).set ANV_CR_CFG.STAND 0 8).packetOf 0 (StreamSrc.io 0 0 0) { samplePkt with dst := 0, body := List.replicate 200 7 })) = wAnvilCarriesPackets1.packetOf 0 ((StreamSrc.io 0 0 0)) (({ samplePkt with dst := 0, body := List.replicate 200 7 } : Pkt)) ∧ (wAnvilCarriesPackets1.enqueue 0 ((((State.reset.writeEntry .route 0 (fun t => t.set ROUTE_ENTRY.VALID 0 1)).set ANV_CR_CFG.STAND 0 8).packetOf 0 (StreamSrc.io 0 0 0) { samplePkt with dst := 0, body := List.replicate 200 7 }))).nextQueue 0 = some (0, ((((State.reset.writeEntry .route 0 (fun t => t.set ROUTE_ENTRY.VALID 0 1)).set ANV_CR_CFG.STAND 0 8).packetOf 0 (StreamSrc.io 0 0 0) { samplePkt with dst := 0, body := List.replicate 200 7 }))) ∧ 1024 * 0 + 0 = voqKey 0 ((((State.reset.writeEntry .route 0 (fun t => t.set ROUTE_ENTRY.VALID 0 1)).set ANV_CR_CFG.STAND 0 8).packetOf 0 (StreamSrc.io 0 0 0) { samplePkt with dst := 0, body := List.replicate 200 7 })) ∧ Tbl.rd (fun _ => []) (wAnvilCarriesPackets1.enqueue 0 ((((State.reset.writeEntry .route 0 (fun t => t.set ROUTE_ENTRY.VALID 0 1)).set ANV_CR_CFG.STAND 0 8).packetOf 0 (StreamSrc.io 0 0 0) { samplePkt with dst := 0, body := List.replicate 200 7 }))).voq (voqKey 0 ((((State.reset.writeEntry .route 0 (fun t => t.set ROUTE_ENTRY.VALID 0 1)).set ANV_CR_CFG.STAND 0 8).packetOf 0 (StreamSrc.io 0 0 0) { samplePkt with dst := 0, body := List.replicate 200 7 }))) = [((((State.reset.writeEntry .route 0 (fun t => t.set ROUTE_ENTRY.VALID 0 1)).set ANV_CR_CFG.STAND 0 8).packetOf 0 (StreamSrc.io 0 0 0) { samplePkt with dst := 0, body := List.replicate 200 7 }))] ∧ (wAnvilCarriesPackets1.niAt 0).notices = [] ∧ wAnvilCarriesPackets1.isHeld 0 (niRouter ((((State.reset.writeEntry .route 0 (fun t => t.set ROUTE_ENTRY.VALID 0 1)).set ANV_CR_CFG.STAND 0 8).packetOf 0 (StreamSrc.io 0 0 0) { samplePkt with dst := 0, body := List.replicate 200 7 })).dst) 4 = false ∧ ((((State.reset.writeEntry .route 0 (fun t => t.set ROUTE_ENTRY.VALID 0 1)).set ANV_CR_CFG.STAND 0 8).packetOf 0 (StreamSrc.io 0 0 0) { samplePkt with dst := 0, body := List.replicate 200 7 })).cls ≠ 8 ∧ (wAnvilCarriesPackets1.ensureRoutes 0 (niRouter ((((State.reset.writeEntry .route 0 (fun t => t.set ROUTE_ENTRY.VALID 0 1)).set ANV_CR_CFG.STAND 0 8).packetOf 0 (StreamSrc.io 0 0 0) { samplePkt with dst := 0, body := List.replicate 200 7 })).dst)).pickRoute 0 (niRouter ((((State.reset.writeEntry .route 0 (fun t => t.set ROUTE_ENTRY.VALID 0 1)).set ANV_CR_CFG.STAND 0 8).packetOf 0 (StreamSrc.io 0 0 0) { samplePkt with dst := 0, body := List.replicate 200 7 })).dst) ((((State.reset.writeEntry .route 0 (fun t => t.set ROUTE_ENTRY.VALID 0 1)).set ANV_CR_CFG.STAND 0 8).packetOf 0 (StreamSrc.io 0 0 0) { samplePkt with dst := 0, body := List.replicate 200 7 })).stream = some 0 ∧ (wAnvilCarriesPackets1.ensureRoutes 0 (niRouter ((((State.reset.writeEntry .route 0 (fun t => t.set ROUTE_ENTRY.VALID 0 1)).set ANV_CR_CFG.STAND 0 8).packetOf 0 (StreamSrc.io 0 0 0) { samplePkt with dst := 0, body := List.replicate 200 7 })).dst)).isHeld 0 (niRouter ((((State.reset.writeEntry .route 0 (fun t => t.set ROUTE_ENTRY.VALID 0 1)).set ANV_CR_CFG.STAND 0 8).packetOf 0 (StreamSrc.io 0 0 0) { samplePkt with dst := 0, body := List.replicate 200 7 })).dst) 0 = false ∧
    133 < 134 ∧ 624 < (({ samplePkt with body := List.replicate 625 7 } : Pkt)).body.length ∧
    133 < 134 ∧ 63 < 64 ∧ 3 < 4 ∧ ((1 : Word)).field 0 0 = 1 ∧ routeLegal 133 63 ((1 : Word)) = false ∧
    63 < 134 ∧ 63 < 64 ∧ 3 < 4 ∧ ((((1 : Word)).field 0 0 = 0 ∨ routeLegal 63 63 ((1 : Word)) = true)) ∧
    133 < 134 ∧ 62 < 64 ∧ 3 < 4 ∧ ((((0xABCD00 : Word)).field 0 0 = 0 ∨ routeLegal 133 62 ((0xABCD00 : Word)) = true)) ∧
    133 < 134 ∧ 63 < 64 ∧ 3 < 4 ∧ (wAnvilCarriesPackets5.niAt 133).holds = [(63, 3)] ∧ (wAnvilCarriesPackets5.niAt 133).held = [] ∧ wAnvilCarriesPackets5.inFlight 133 63 3 = 0 ∧
    133 < 134 ∧ 63 < 64 ∧ (State.reset.niAt 133).holds = [] ∧
    62 < 64 ∧ 0 < 4 ∧ wAnvilCarriesPackets7.grant 62 0 = some (((⟨4, { samplePkt with dst := 63, len := 1, rlen := 1, route := 0 }, 0, 3⟩ : Flit)), ((none : Option (Nat × Nat)))) ∧ neighbour 62 0 / 16 = 62 / 16 ∧ bitOf (wAnvilCarriesPackets7.get ANV_RTR_STAT.LINK_UP 62) 0 = true ∧
    63 < 64 ∧ 2 < 4 ∧ wAnvilCarriesPackets8.grant 63 2 = some (((⟨4, { samplePkt with dst := 0, len := 1, rlen := 2, route := 2 }, 0, 3⟩ : Flit)), ((none : Option (Nat × Nat)))) ∧ neighbour 63 2 / 16 ≠ 63 / 16 ∧ wAnvilCarriesPackets8.gateOpen (63 / 16) = true ∧ wAnvilCarriesPackets8.gateOpen (neighbour 63 2 / 16) = true ∧ bitOf (wAnvilCarriesPackets8.get ANV_RTR_STAT.LINK_UP 63) 2 = true ∧
    63 < 64 ∧ wAnvilCarriesPackets9.grant 63 4 = some (((⟨0, { samplePkt with dst := 63, len := 2, rlen := 0 }, 0, 3⟩ : Flit)), ((none : Option (Nat × Nat)))) ∧
    63 < 64 ∧ 4 < 5 ∧ 5 < 7 ∧ wAnvilCarriesPackets10.grant 63 5 = some (((⟨0, { samplePkt with dst := 127, len := 1, rlen := 0 }, 0, 3⟩ : Flit)), ((none : Option (Nat × Nat)))) ∧ ((⟨0, { samplePkt with dst := 127, len := 1, rlen := 0 }, 0, 3⟩ : Flit)).pkt.len ≤ ((⟨0, { samplePkt with dst := 127, len := 1, rlen := 0 }, 0, 3⟩ : Flit)).idx + 1 ∧
    63 < 64 ∧ 6 < 7 ∧ State.reset.grant 63 6 = none ∧ State.reset.wants 63 6 = false ∧
    63 < 64 ∧ 2 < 4 ∧ wAnvilCarriesPackets12.grant 63 2 = some (((⟨4, { samplePkt with dst := 0, len := 1, rlen := 2, route := 2 }, 0, 3⟩ : Flit)), ((none : Option (Nat × Nat)))) ∧ neighbour 63 2 / 16 ≠ 63 / 16 ∧ wAnvilCarriesPackets12.gateOpen (63 / 16) = false ∧
    63 < 64 ∧ 3 < 4 ∧ wAnvilCarriesPackets13.get FLT_WEAR_CFG.WIRE_THR 0 < wAnvilCarriesPackets13.wearCount 7 (wireCell 63 3 5) ∧ wAnvilCarriesPackets13.flag FLT_POOL.AUTO 1 = true ∧ (List.range 4).find? (fun i => !bitOf (wAnvilCarriesPackets13.get ANV_RTR_STAT.SPARE_USED 63 / 16 ^ 3 % 16) i) = some 3 ∧
    63 < 64 ∧ 3 < 4 ∧ State.reset.wearCount 7 (wireCell 63 3 5) ≤ State.reset.get FLT_WEAR_CFG.WIRE_THR 0 ∧
    133 < 134 ∧ wAnvilCarriesPackets15.nextQueue 133 = some (0, (({ samplePkt with dst := 0, len := 3 } : Pkt))) ∧
    133 < 134 ∧ State.reset.nextQueue 133 = none ∧
    63 < 64 ∧ wAnvilCarriesPackets17.crossing 63 7 = [((⟨0, { samplePkt with dst := 63, len := 3 }, 2, 5⟩ : Flit))] ∧ 1 < 2 ∧ ((⟨0, { samplePkt with dst := 63, len := 3 }, 2, 5⟩ : Flit)).pkt.len ≤ ((⟨0, { samplePkt with dst := 63, len := 3 }, 2, 5⟩ : Flit)).idx + 1 ∧ ((⟨0, { samplePkt with dst := 63, len := 3 }, 2, 5⟩ : Flit)).pkt.void = false ∧ ((⟨0, { samplePkt with dst := 63, len := 3 }, 2, 5⟩ : Flit)).pkt.cls ≠ 8 ∧ ((⟨0, { samplePkt with dst := 63, len := 3 }, 2, 5⟩ : Flit)).pkt.kind ≠ .biSnp ∧ ((⟨0, { samplePkt with dst := 63, len := 3 }, 2, 5⟩ : Flit)).pkt.dst < 64 ∧ wAnvilCarriesPackets17.quenched ((⟨0, { samplePkt with dst := 63, len := 3 }, 2, 5⟩ : Flit)).pkt.dst = false ∧
    63 < 64 ∧ 4 < 7 ∧ wAnvilCarriesPackets18.crossing 63 4 = [((⟨4, { samplePkt with dst := 0, len := 3 }, 2, 5⟩ : Flit))] ∧ roomAt (wAnvilCarriesPackets18.rtrState 63) 4 ((⟨4, { samplePkt with dst := 0, len := 3 }, 2, 5⟩ : Flit)).pkt = true ∧ 1 < 2 ∧
    63 < 64 ∧ wAnvilCarriesPackets19.crossing 63 7 = [((⟨0, { samplePkt with dst := 63, len := 1 }, 0, 5⟩ : Flit))] ∧ ((⟨0, { samplePkt with dst := 63, len := 1 }, 0, 5⟩ : Flit)).idx = 0 ∧ ((⟨0, { samplePkt with dst := 63, len := 1 }, 0, 5⟩ : Flit)).pkt.len = 1 ∧ ((⟨0, { samplePkt with dst := 63, len := 1 }, 0, 5⟩ : Flit)).pkt.dst < 64 ∧ wAnvilCarriesPackets19.quenched ((⟨0, { samplePkt with dst := 63, len := 1 }, 0, 5⟩ : Flit)).pkt.dst = false := by
  and_intros <;> decide +kernel

def wCreditAndQuench0 : State := (((((State.reset.set ANV_CR_CFG.STAND 63 2).set ANV_CR_CFG.CHUNK 63 8).set ANV_CR_CFG.MAX_SHARED 63 8).set ANV_CR_STAT.SHARED_FREE 63 8).enqueue 133 { samplePkt with dst := 63, len := 3 })
def wCreditAndQuench1 : State := (State.reset.enqueue 133 { samplePkt with dst := 133, len := 3 })
def wCreditAndQuench2 : State := ((((State.reset.set ANV_CR_CFG.STAND 63 2).set ANV_CR_CFG.CHUNK 63 8).set ANV_CR_STAT.SHARED_FREE 63 0).enqueue 133 { samplePkt with dst := 63, len := 3 })
def wCreditAndQuench4 : State := ({ (((State.reset.set ANV_CR_CFG.CHUNK 63 8).set ANV_CR_CFG.MAX_SHARED 63 8).set ANV_CR_STAT.SHARED_FREE 63 8) with crQueue := [(63, [5, 6])] } : State)
def wCreditAndQuench6 : State := ((State.reset.set ANV_CR_STAT.OCC 63 3072).setLedger 63 133 ⟨5, 8, 8, 7⟩)
def wCreditAndQuench6b : State := (State.reset.setLedger 693 133 ⟨5, 8, 8, 7⟩)
def wCreditAndQuench7 : State := (State.reset.setLedger 63 133 ⟨5, 8, 2, 7⟩)
def wCreditAndQuench7b : State := (State.reset.setLedger 693 133 ⟨5, 8, 2, 7⟩)
def wCreditAndQuench8 : State := (State.reset.setNi 133 { NiState.idle with rx := [samplePkt] })
def wCreditAndQuench9 : State := (State.reset.setNi 133 { NiState.idle with notices := [(133, 2), (7, 1)] })
def wCreditAndQuench10 : State := (State.reset.setNi 133 { NiState.idle with notices := [(133, 2), (7, 1)] })
def wCreditAndQuench13 : State := (State.reset.setNi 63 { NiState.idle with triggers := [⟨1, true, 0⟩], code := 1 })
def wCreditAndQuench14 : State := (State.reset.setNi 63 { NiState.idle with triggers := [⟨3, false, 0⟩], code := 3 })
def wCreditAndQuench15 : State := (State.reset.setNi 133 { NiState.idle with absorbed := [samplePkt] })
def wCreditAndQuench16 : State := (State.reset.setNi 133 { NiState.idle with absorbed := [{ samplePkt with kind := .memRd }] })
def wCreditAndQuench17 : State := (State.reset.setNi 133 { NiState.idle with code := 3 })
def wCreditAndQuench18 : State := (State.reset.setNi 133 { NiState.idle with triggers := [⟨3, false, 0⟩], code := 3 })
/-- Hypotheses of CreditAndQuench met. -/
theorem witness_CreditAndQuench :
    133 < 134 ∧ 63 < 64 ∧ isSource 133 = true ∧ wCreditAndQuench0.isShort 133 63 = true ∧ wCreditAndQuench0.requests 63 = [] ∧ wCreditAndQuench0.canGrant 63 133 = true ∧
    133 < 134 ∧ 64 ≤ 685 ∧ 685 < 694 ∧ wCreditAndQuench1.isShort 133 685 = true ∧ wCreditAndQuench1.requests 685 = [] ∧ wCreditAndQuench1.canGrant 685 133 = true ∧
    133 < 134 ∧ 63 < 64 ∧ isSource 133 = true ∧ wCreditAndQuench2.isShort 133 63 = true ∧ wCreditAndQuench2.canGrant 63 133 = false ∧
    133 < 134 ∧ 693 < 694 ∧ State.reset.isShort 133 693 = false ∧
    63 < 694 ∧ wCreditAndQuench4.requests 63 = 5 :: ([6]) ∧ wCreditAndQuench4.canGrant 63 5 = true ∧
    693 < 694 ∧ State.reset.requests 693 = [] ∧
    133 < 134 ∧ 63 < 694 ∧
    133 < 134 ∧ 693 < 694 ∧
    133 < 134 ∧ 63 < 694 ∧ (wCreditAndQuench7.ledgerAt 63 133).sharedSpent ≤ (wCreditAndQuench7.ledgerAt 63 133).shared ∧
    133 < 134 ∧ 693 < 694 ∧ (wCreditAndQuench7b.ledgerAt 693 133).sharedSpent ≤ (wCreditAndQuench7b.ledgerAt 693 133).shared ∧
    133 < 134 ∧ (wCreditAndQuench8.niAt 133).triggers = [] ∧
    133 < 134 ∧ 133 < 134 ∧
    133 < 134 ∧ 133 < 134 ∧
    3 < 4 ∧ 63 < 134 ∧ niRegion 63 = 3 ∧ (State.reset.niAt 63).triggers = [] ∧
    3 < 4 ∧ ((134 ≤ 134 ∨ niRegion 134 ≠ 3)) ∧
    3 < 4 ∧ ((134 ≤ 133 ∨ niRegion 133 ≠ 3)) ∧
    3 < 4 ∧ 63 < 134 ∧ niRegion 63 = 3 ∧ (wCreditAndQuench13.niAt 63).triggers.any (fun x => x.persists) = true ∧
    3 < 4 ∧ 63 < 134 ∧ niRegion 63 = 3 ∧ (wCreditAndQuench14.niAt 63).triggers.any (fun x => x.persists) = false ∧ (wCreditAndQuench14.niAt 63).absorbed = [] ∧ (wCreditAndQuench14.niAt 63).code ≠ 0 ∧
    133 < 134 ∧ (wCreditAndQuench15.niAt 133).absorbed = samplePkt :: (([] : List Pkt)) ∧
    133 < 134 ∧ (wCreditAndQuench16.niAt 133).absorbed = (({ samplePkt with kind := PktKind.memRd } : Pkt)) :: (([] : List Pkt)) ∧ slagReply 133 (({ samplePkt with kind := PktKind.memRd } : Pkt)) = some (((slagReply 133 { samplePkt with kind := .memRd }).getD samplePkt)) ∧ (((slagReply 133 { samplePkt with kind := .memRd }).getD samplePkt)).dst ≠ 133 ∧
    133 < 134 ∧ (wCreditAndQuench17.niAt 133).code ≠ 0 ∧ (wCreditAndQuench17.niAt 133).triggers = [] ∧ (wCreditAndQuench17.niAt 133).absorbed = [] ∧
    133 < 134 ∧ (wCreditAndQuench18.niAt 133).triggers ≠ [] := by
  and_intros <;> first | decide +kernel | rfl

def wMirrorsAndProbes1 : State := ((((State.reset.set ANV_MIR_CFG.EN 15 1).set ANV_MIR_CFG.EGR 15 1).set ANV_MIR_CFG.SRC 15 127).set ANV_MIR_CFG.SAMPLE 15 2)
def wMirrorsAndProbes2 : State := ((((State.reset.set ANV_MIR_CFG.EN 15 1).set ANV_MIR_CFG.EGR 15 1).set ANV_MIR_CFG.SRC 15 127).setNi 0 { NiState.idle with code := 1 })
def wMirrorsAndProbes3 : State := ((((State.reset.set ANV_MIR_CFG.EN 15 1).set ANV_MIR_CFG.EGR 15 1).set ANV_MIR_CFG.SRC 15 127).set ANV_CR_CFG.STAND 0 1)
def wMirrorsAndProbes4 : State := (((State.reset.setMirror 15 ⟨1, 0, false, [⟨0, 5, 127, true, false, false, 1, [1]⟩]⟩).set ANV_MIR_CFG.DST_PORT 15 127).setNi 63 { NiState.idle with rx := [samplePkt, { samplePkt with dst := 63, mirror := true, param := 15 }] })
def wMirrorsAndProbes6 : State := ((State.reset.set PRT_CFG.MODE 0 1).set PRT_CFG.ROLE0 0 3)
def wMirrorsAndProbes7 : State := (((State.reset.set ANV_PRB_CTL.EN 63 1).set ANV_PRB_CTL.PORT 63 4).set ANV_PRB_CTL.EVT_EN 63 1)
def wMirrorsAndProbes9 : State := (State.reset.setProbe 63 ⟨2 ^ 48 - 1, 5, false⟩)
/-- Hypotheses of MirrorsAndProbes met. -/
theorem witness_MirrorsAndProbes :
    15 < 16 ∧ 127 < 128 ∧ State.reset.mirrored 15 127 true 0 = false ∧
    15 < 16 ∧ 127 < 128 ∧ wMirrorsAndProbes1.mirrored 15 127 true 0 = true ∧ (wMirrorsAndProbes1.mirror 15).skipped + 1 < wMirrorsAndProbes1.get ANV_MIR_CFG.SAMPLE 15 ∧
    15 < 16 ∧ 127 < 128 ∧ wMirrorsAndProbes2.mirrored 15 127 true 0 = true ∧ wMirrorsAndProbes2.get ANV_MIR_CFG.SAMPLE 15 ≤ (wMirrorsAndProbes2.mirror 15).skipped + 1 ∧ wMirrorsAndProbes2.quenched (wMirrorsAndProbes2.get ANV_MIR_CFG.DST_PORT 15 / 2) = true ∧
    15 < 16 ∧ 127 < 128 ∧ wMirrorsAndProbes3.mirrored 15 127 true 0 = true ∧ wMirrorsAndProbes3.get ANV_MIR_CFG.SAMPLE 15 ≤ (wMirrorsAndProbes3.mirror 15).skipped + 1 ∧ wMirrorsAndProbes3.quenched (wMirrorsAndProbes3.get ANV_MIR_CFG.DST_PORT 15 / 2) = false ∧ (wMirrorsAndProbes3.niAt (127 / 2)).notices = [] ∧ flitsOf (min 624 (([1]).take (wMirrorsAndProbes3.truncTo 15 ([1]).length)).length) ≤ wMirrorsAndProbes3.allowance (127 / 2) (wMirrorsAndProbes3.get ANV_MIR_CFG.DST_PORT 15 / 2) ∧
    15 < 16 ∧ (wMirrorsAndProbes4.niAt (wMirrorsAndProbes4.get ANV_MIR_CFG.DST_PORT 15 / 2)).rx.find? (fun x => x.mirror && decide (x.param % 16 = 15)) = some (({ samplePkt with dst := 63, mirror := true, param := 15 } : Pkt)) ∧ (wMirrorsAndProbes4.mirror 15).queue = ((⟨0, 5, 127, true, false, false, 1, [1]⟩ : MirRec)) :: (([] : List MirRec)) ∧ ((⟨0, 5, 127, true, false, false, 1, [1]⟩ : MirRec)).seq % 2 ^ 28 = (({ samplePkt with dst := 63, mirror := true, param := 15 } : Pkt)).param / 16 ∧
    15 < 16 ∧ (State.reset.niAt (State.reset.get ANV_MIR_CFG.DST_PORT 15 / 2)).rx = [] ∧
    15 < 16 ∧
    15 < 16 ∧
    63 < 64 ∧ wMirrorsAndProbes7.flag ANV_PRB_CTL.EN 63 = true ∧ wMirrorsAndProbes7.get ANV_PRB_CTL.PORT 63 = 4 ∧ wMirrorsAndProbes7.reg .ANV_PRB_MASK 63 = 0 ∧
    63 < 64 ∧ State.reset.get ANV_PRB_CTL.PORT 63 ≠ 4 ∧
    63 < 64 ∧ (wMirrorsAndProbes9.probe 63).pkts < 2 ^ 48 ∧ (wMirrorsAndProbes9.probe 63).flits < 2 ^ 48 := by
  and_intros <;> decide +kernel

def wFaultsRecorded4 : State := (((State.reset.set FLT_REC0.PEND 4 1).set FLT_REC0.CLASS 4 1).set FLT_REC0.EVENT 4 9)
def wFaultsRecorded5 : State := (State.reset.set FLT_REC0.PEND 4 1)
def wFaultsRecorded6 : State := (((State.reset.set FLT_REC0.PEND 4 1).set FLT_REC0.EVENT 4 511).setActive 511 true)
def wFaultsRecorded7 : State := (State.reset.set FLT_REG_STAT.FATAL 3 1)
def wFaultsRecorded8 : State := ((State.reset.set FLT_REG_STAT.FATAL_EVT 3 36).setActive 36 true)
def wFaultsRecorded10 : State := (((State.reset.set FLT_REG_STAT.STATE 0 1).set FLT_REG_STAT.STATE 1 1).set FLT_REG_STAT.STATE 3 1)
def wFaultsRecorded13 : State := (State.reset.set FLT_REG_STAT.SCAN_FAIL 3 1)
def wFaultsRecorded14 : State := (State.reset.set FLT_STAT.EMBER_RUN 0 1)
def wFaultsRecorded15 : State := (State.reset.set FLT_STAT.EMBER_RUN 0 0)
/-- Hypotheses of FaultsRecorded met. -/
theorem witness_FaultsRecorded :
    507 < 512 ∧ (causesOf 507).contains (0, false) = true ∧ State.reset.flag FLT_REC0.PEND (State.reset.collectorOf 507) = false ∧
    478 < 512 ∧ (causesOf 478).contains (0, false) = true ∧ State.reset.flag FLT_REC0.PEND (State.reset.collectorOf 478) = false ∧
    479 < 512 ∧ (causesOf 479).contains (1, false) = true ∧ State.reset.flag FLT_REC0.PEND (State.reset.collectorOf 479) = false ∧
    506 < 512 ∧ (causesOf 506).contains (1, false) = false ∧ (causesOf 506).contains (1, true) = true ∧
    511 < 512 ∧ (causesOf 511).contains (0, false) = false ∧ (causesOf 511).contains (0, true) = false ∧
    507 < 512 ∧ (causesOf 507).contains (0, false) = true ∧ wFaultsRecorded4.flag FLT_REC0.PEND (wFaultsRecorded4.collectorOf 507) = true ∧ 0 < wFaultsRecorded4.get FLT_REC0.CLASS (wFaultsRecorded4.collectorOf 507) ∧
    4 < 5 ∧ wFaultsRecorded5.active (wFaultsRecorded5.get FLT_REC0.EVENT 4) = false ∧
    4 < 5 ∧ wFaultsRecorded6.active (wFaultsRecorded6.get FLT_REC0.EVENT 4) = true ∧
    3 < 4 ∧ wFaultsRecorded7.active (wFaultsRecorded7.get FLT_REG_STAT.FATAL_EVT 3) = false ∧
    3 < 4 ∧ wFaultsRecorded8.active (wFaultsRecorded8.get FLT_REG_STAT.FATAL_EVT 3) = true ∧
    3 < 4 ∧ State.reset.regionState 3 = 0 ∧ ((∃ q ∈ List.range 4, q ≠ 3 ∧ State.reset.regionState q ≠ 1)) ∧
    2 < 4 ∧ ((∀ q ∈ List.range 4, q ≠ 2 → wFaultsRecorded10.regionState q = 1)) ∧
    511 < 512 ∧
    15 < 16 ∧ State.reset.regionState (State.reset.sliceRegion 15) ≠ 2 ∧
    15 < 16 ∧ ((∀ x ∈ wFaultsRecorded13.txns, x.slice ≠ 15)) ∧
    wFaultsRecorded14.flag FLT_STAT.EMBER_RUN 0 = true ∧ wFaultsRecorded14.phase ≠ .reset ∧
    wFaultsRecorded15.flag FLT_STAT.EMBER_RUN 0 = false := by
  and_intros <;> decide +kernel

def wSparesAndInjection1 : State := (State.reset.set FLT_CFG.INJ_EN 4 1)
def wSparesAndInjection2 : State := (State.reset.set FLT_CFG.INJ_EN 4 1)
def wSparesAndInjection3 : State := ({ State.reset with inj := some ⟨7, 0, 5, 0, 2, 0⟩ } : State)
def wSparesAndInjection5 : State := ({ State.reset with inj := some ⟨7, 0, 5, 0, 2, 0⟩ } : State)
def wSparesAndInjection6 : State := (State.reset.set FLT_WEAR_CFG.AGE_PPM 0 9)
def wSparesAndInjection7 : State := (State.reset.set FLT_WEAR_CFG.AGE_PPM 0 9)
def wSparesAndInjection9 : State := ((State.reset.set FLT_WEAR_CFG.WIRE_THR 0 200).wearAdd 7 255 3)
def wSparesAndInjection11 : State := ({ State.reset with repairMap.engines := [3] } : State)
def wSparesAndInjection14 : State := ({ State.reset with hbmEcc := [(9, 1)] } : State)
def wSparesAndInjection15 : State := (State.reset.set PRT_LANE_MAP.SPARE_USED 63 1)
def wSparesAndInjection16 : State := ((State.reset.set PRT_LINK_STATUS.STATE 126 6).set PRT_LANE_MAP.SPARE_USED 63 1)
def wSparesAndInjection18 : State := ({ State.reset with repairMap.engines := [120] } : State)
def wSparesAndInjection21 : State := (State.reset.set FLT_STAT.DEG 0 1)
def wSparesAndInjection22 : State := ((State.reset.set FLT_STAT.DEG 0 1).set FLT_POOL.UNMET 5 1)
/-- Hypotheses of SparesAndInjection met. -/
theorem witness_SparesAndInjection :
    State.reset.flag FLT_CFG.INJ_EN 4 = false ∧
    wSparesAndInjection1.flag FLT_CFG.INJ_EN 4 = true ∧ wSparesAndInjection1.inj = none ∧ ((0x5020_0017 : Word)).field 5 4 ≠ 0 ∧ ((0x5020_0017 : Word)).field 21 21 = 1 ∧ wSparesAndInjection1.injTargetOk (((0x5020_0017 : Word)).field 3 0) (((0x5020_0017 : Word)).field 19 12) (((0x5020_0017 : Word)).field 63 24) = true ∧
    wSparesAndInjection2.flag FLT_CFG.INJ_EN 4 = true ∧ wSparesAndInjection2.inj = none ∧ ((0x20001F : Word)).field 5 4 ≠ 0 ∧ ((0x20001F : Word)).field 21 21 = 1 ∧ wSparesAndInjection2.injTargetOk (((0x20001F : Word)).field 3 0) (((0x20001F : Word)).field 19 12) (((0x20001F : Word)).field 63 24) = false ∧
    wSparesAndInjection3.inj = some ((⟨7, 0, 5, 0, 2, 0⟩ : Injection)) ∧ ((⟨7, 0, 5, 0, 2, 0⟩ : Injection)).target = 7 ∧
    State.reset.inj = none ∧
    wSparesAndInjection5.inj = some ((⟨7, 0, 5, 0, 2, 0⟩ : Injection)) ∧
    9 ≤ wSparesAndInjection6.get FLT_WEAR_CFG.AGE_PPM 0 ∧
    wSparesAndInjection7.get FLT_WEAR_CFG.AGE_PPM 0 < 10 ∧
    575 < 576 ∧ 31 < 2 ^ PRT_LANE_STAT.MARGIN.width ∧
    wSparesAndInjection9.wearCount 7 255 + 5 ≤ wSparesAndInjection9.get FLT_WEAR_CFG.WIRE_THR 0 ∧
    15 < 16 ∧ ((∀ x ∈ State.reset.txns, x.slice ≠ 15)) ∧ State.reset.freeSlices = 16 :: ([17]) ∧
    127 < 128 ∧ wSparesAndInjection11.engineSpareUsed 127 = false ∧
    3 < 4 ∧
    3 < 4 ∧
    31 < 32 ∧ Tbl.rd (fun _ => 0) wSparesAndInjection14.hbmEcc 9 = 1 ∧
    63 < 64 ∧ wSparesAndInjection15.retiring = none ∧ wSparesAndInjection15.get PRT_LINK_STATUS.STATE (2 * 63) = 0 ∧ wSparesAndInjection15.get PRT_LINK_STATUS.STATE (2 * 63 + 1) = 0 ∧
    63 < 64 ∧ wSparesAndInjection16.retiring = none ∧ wSparesAndInjection16.get PRT_LINK_STATUS.STATE (2 * 63) ≠ 0 ∧
    127 < 128 ∧ State.reset.retiring = none ∧ State.reset.engineSpareUsed 127 = false ∧
    127 < 128 ∧ wSparesAndInjection18.retiring = none ∧ wSparesAndInjection18.engineSpareUsed 127 = true ∧
    15 < 16 ∧ State.reset.retiring = none ∧ ((∀ x ∈ State.reset.txns, x.slice ≠ 15)) ∧ State.reset.freeSlices = 16 :: ([17]) ∧
    16 ≤ 16 ∧ State.reset.retiring = none ∧
    wSparesAndInjection21.flag FLT_STAT.DEG 0 = true ∧ ((∀ p ∈ List.range 6, wSparesAndInjection21.flag FLT_POOL.UNMET p = false)) ∧
    5 < 6 ∧ wSparesAndInjection22.flag FLT_POOL.UNMET 5 = true ∧
    5 < 6 := by
  and_intros <;> decide +kernel

def wSessionsAndOwner0 : State := ((({ State.reset with phase := .operating } : State).set MGT_SESS.OPEN 0 1).set MGT_SESS.PATH 0 2)
def wSessionsAndOwner1 : State := ((((((((({ State.reset with phase := .operating } : State).set MGT_SESS.OPEN 0 1).set MGT_SESS.OPEN 1 1).set MGT_SESS.OPEN 2 1).set MGT_SESS.OPEN 3 1).set MGT_SESS.OPEN 4 1).set MGT_SESS.OPEN 5 1).set MGT_SESS.OPEN 6 1).set MGT_SESS.OPEN 7 1)
def wSessionsAndOwner3 : State := (({ State.reset with phase := .operating } : State).set MGT_SESS.OPEN 7 1)
def wSessionsAndOwner4 : State := ((((State.reset.set MGT_SESS.OPEN 7 1).set MGT_OWN_STAT.HELD 0 1).set MGT_OWN_STAT.OWNER 0 7).set MGT_SESS_CFG.IDLE_S 0 1)
def wSessionsAndOwner5 : State := (State.reset.set MGT_SESS.OPEN 7 1)
def wSessionsAndOwner6 : State := ((({ State.reset with phase := .operating } : State).set MGT_SESS.OPEN 7 1).set KEY_TRNG_STAT.READY 0 1)
def wSessionsAndOwner7 : State := ({ (State.reset.set MGT_OWN_STAT.ELECT 0 1) with claims := [(5, 2 ^ 63, 1), (7, 2 ^ 63 + 1, 2), (3, 9, 3)] } : State)
def wSessionsAndOwner8 : State := (((({ State.reset with phase := .operating, clk := 9 } : State).set MGT_SESS.OPEN 7 1).set MGT_OWN_STAT.HELD 0 1).set MGT_OWN_STAT.OWNER 0 7)
def wSessionsAndOwner9 : State := (((({ State.reset with phase := .operating, clk := 9 } : State).set MGT_SESS.OPEN 7 1).set MGT_OWN_STAT.HELD 0 1).set MGT_OWN_STAT.OWNER 0 6)
def wSessionsAndOwner10 : State := (State.reset.set MGT_OWN_STAT.HELD 0 1)
def wSessionsAndOwner11 : State := ((((({ State.reset with phase := .operating, clk := 9 } : State).set MGT_SESS.OPEN 7 1).set MGT_SESS.OPEN 0 1).set MGT_OWN_STAT.HELD 0 1).set MGT_OWN_STAT.OWNER 0 7)
def wSessionsAndOwner12 : State := (((({ State.reset with phase := .operating } : State).set MGT_SESS.OPEN 7 1).set MGT_OWN_STAT.HELD 0 1).set MGT_OWN_STAT.OWNER 0 7)
def wSessionsAndOwner13 : State := ((State.reset.set MGT_EVT_STAT.COUNT 0 1023).set MGT_EVT_STAT.NEXT_SEQ 0 (2 ^ 32 - 1))
def wSessionsAndOwner14 : State := (State.reset.set MGT_EVT_STAT.COUNT 0 1024)
def wSessionsAndOwner15 : State := ({ ((State.reset.set MGT_OWN_STAT.HELD 0 1).set MGT_EVT_STAT.COUNT 0 65) with evtSent := 1 } : State)
def wSessionsAndOwner17 : State := (((((({ State.reset with phase := .operating } : State).set MGT_SESS.OPEN 7 1).set MGT_OWN_STAT.HELD 0 1).set MGT_OWN_STAT.OWNER 0 7).set MGT_EVT_STAT.COUNT 0 3).set MGT_EVT_STAT.NEXT_SEQ 0 2)
def wSessionsAndOwner18 : State := ((State.reset.set MGT_EVT_STAT.COUNT 0 3).set MGT_EVT_STAT.NEXT_SEQ 0 2)
def wSessionsAndOwner19 : State := ({ ((State.reset.set MGT_OWN_STAT.HELD 0 1).set MGT_EVT_STAT.COUNT 0 65) with evtSent := 65 } : State)
def wSessionsAndOwner20 : State := (({ State.reset with phase := .operating } : State).set MGT_SESS.OPEN 7 1)
def wSessionsAndOwner21 : State := (({ State.reset with phase := .operating } : State).set MGT_SESS.OPEN 7 1)
def wSessionsAndOwner22 : State := (((State.reset.set MGT_SESS.OPEN 7 1).set MGT_SESS.PATH 7 2).setSes 7 { Session.idle with last := some (5, .linkReset 3) })
/-- Hypotheses of SessionsAndOwner met. -/
theorem witness_SessionsAndOwner :
    wSessionsAndOwner0.phase = .operating ∧ wSessionsAndOwner0.pathExists 1 1 = true ∧ ((∀ k ∈ List.range 8, wSessionsAndOwner0.sesOpen k = true → wSessionsAndOwner0.get MGT_SESS.PATH k ≠ 1)) ∧ (List.range 8).find? (fun k => !wSessionsAndOwner0.sesOpen k) = some 1 ∧
    wSessionsAndOwner1.phase = .operating ∧ wSessionsAndOwner1.pathExists 1 1 = true ∧ ((∀ k ∈ List.range 8, wSessionsAndOwner1.sesOpen k = true ∧ wSessionsAndOwner1.get MGT_SESS.PATH k ≠ 1)) ∧
    State.reset.pathExists 1 2 = false ∧
    7 < 8 ∧ wSessionsAndOwner3.phase = .operating ∧ wSessionsAndOwner3.sesOpen 7 = true ∧ (wSessionsAndOwner3.sesAt 7).last = none ∧
    7 < 8 ∧ wSessionsAndOwner4.sesOpen 7 = true ∧ wSessionsAndOwner4.get MGT_SESS_CFG.IDLE_S 0 ≠ 0 ∧
    7 < 8 ∧ wSessionsAndOwner5.sesOpen 7 = true ∧
    7 < 8 ∧ wSessionsAndOwner6.phase = .operating ∧ wSessionsAndOwner6.sesOpen 7 = true ∧ (wSessionsAndOwner6.sesAt 7).last = none ∧ wSessionsAndOwner6.flag KEY_TRNG_STAT.READY 0 = true ∧ wSessionsAndOwner6.flag MGT_OWN_STAT.HELD 0 = false ∧ wSessionsAndOwner6.flag MGT_OWN_STAT.ELECT 0 = false ∧
    wSessionsAndOwner7.flag MGT_OWN_STAT.ELECT 0 = true ∧ winner wSessionsAndOwner7.claims = some (((7, 2 ^ 63 + 1, 2) : Nat × Nat × Nat)) ∧ (((7, 2 ^ 63 + 1, 2) : Nat × Nat × Nat)).1 < 8 ∧ (((7, 2 ^ 63 + 1, 2) : Nat × Nat × Nat)).2.1 < 2 ^ 64 ∧
    7 < 8 ∧ wSessionsAndOwner8.phase = .operating ∧ wSessionsAndOwner8.sesOpen 7 = true ∧ (wSessionsAndOwner8.sesAt 7).last = none ∧ wSessionsAndOwner8.owns 7 = true ∧
    7 < 8 ∧ wSessionsAndOwner9.phase = .operating ∧ wSessionsAndOwner9.sesOpen 7 = true ∧ (wSessionsAndOwner9.sesAt 7).last = none ∧ wSessionsAndOwner9.owns 7 = false ∧
    wSessionsAndOwner10.flag MGT_OWN_STAT.HELD 0 = true ∧
    7 < 8 ∧ 0 < 8 ∧ 0 ≠ 7 ∧ wSessionsAndOwner11.phase = .operating ∧ wSessionsAndOwner11.sesOpen 7 = true ∧ wSessionsAndOwner11.sesOpen 0 = true ∧ (wSessionsAndOwner11.sesAt 7).last = none ∧ wSessionsAndOwner11.owns 7 = true ∧
    7 < 8 ∧ wSessionsAndOwner12.phase = .operating ∧ wSessionsAndOwner12.sesOpen 7 = true ∧ (wSessionsAndOwner12.sesAt 7).last = none ∧ wSessionsAndOwner12.owns 7 = true ∧
    511 < 512 ∧ 0 < 1 ∧ wSessionsAndOwner13.get MGT_EVT_STAT.COUNT 0 < 1024 ∧
    511 < 512 ∧ 1024 ≤ wSessionsAndOwner14.get MGT_EVT_STAT.COUNT 0 ∧
    wSessionsAndOwner15.flag MGT_OWN_STAT.HELD 0 = true ∧ wSessionsAndOwner15.evtSent < wSessionsAndOwner15.get MGT_EVT_STAT.COUNT 0 ∧
    State.reset.flag MGT_OWN_STAT.HELD 0 = false ∧
    7 < 8 ∧ wSessionsAndOwner17.phase = .operating ∧ wSessionsAndOwner17.sesOpen 7 = true ∧ (wSessionsAndOwner17.sesAt 7).last = none ∧ wSessionsAndOwner17.owns 7 = true ∧ 0 < wSessionsAndOwner17.get MGT_EVT_STAT.COUNT 0 ∧
    ((0xFFFFFFFF : Word)).field 31 0 = wSessionsAndOwner18.oldestSeq ∧ 0 < wSessionsAndOwner18.get MGT_EVT_STAT.COUNT 0 ∧
    wSessionsAndOwner19.flag MGT_OWN_STAT.HELD 0 = true ∧ 0 < wSessionsAndOwner19.get MGT_EVT_STAT.COUNT 0 ∧
    7 < 8 ∧ wSessionsAndOwner20.phase = .operating ∧ wSessionsAndOwner20.sesOpen 7 = true ∧ (wSessionsAndOwner20.sesAt 7).last = none ∧ 4080 ≤ 4080 ∧ knownType 0x0F = false ∧
    7 < 8 ∧ wSessionsAndOwner21.phase = .operating ∧ wSessionsAndOwner21.sesOpen 7 = true ∧ (wSessionsAndOwner21.sesAt 7).last = none ∧ 2 ≠ 1 ∧
    7 < 8 ∧ (wSessionsAndOwner22.sesAt 7).last = some (5, ((Out.linkReset 3))) ∧ wSessionsAndOwner22.sesOpen 7 = true ∧ wSessionsAndOwner22.get MGT_SESS.PATH 7 = 2 ∧
    7 < 8 ∧ (State.reset.sesAt 7).last = none := by
  and_intros <;> decide +kernel

def wRemapAndResolve0 : State := (State.reset.set ACU_ERR_INFO.PEND 3 1)
def wRemapAndResolve1 : State := ({ State.reset with hbm := [(0x20000000, 7)] } : State)
def wRemapAndResolve2 : State := (State.reset.set WIN_W0.LOCK 4095 1)
def wRemapAndResolve4 : State := (State.reset.set WIN_W0.VALID 4095 1)
def wRemapAndResolve7 : State := (State.reset.set L1_W0.FRACT 65535 1)
def wRemapAndResolve8 : State := ((State.reset.set L1_W0.VALID 5 1).set MGT_HBM_PART.L2_64M 0 1)
def wRemapAndResolve9 : State := ({ State.reset with rmpRun := some ⟨5, 0, 0, none⟩ } : State)
def wRemapAndResolve11 : State := ((((State.reset.set L1_W0.VALID 5 1).set L1_W0.FRACT 5 1).set L1_W0.L2PTR 5 3).set RMP_CMD_DATA.ENTRY 0 0xAB00000000CD01)
def wRemapAndResolve12 : State := ({ (((State.reset.set L1_W0.VALID 5 1).set L1_W0.FRACT 5 1).set L1_W0.L2PTR 5 0) with hbm := [(0x20000000 + 511 * 8, 7)] } : State)
def wRemapAndResolve13 : State := (({ State.reset with rmpRun := some ⟨5, 7, 65535, some 9⟩ } : State).set RMP_RES.SEQ 0 255)
def wRemapAndResolve16 : State := (State.reset.writeEntry .window 0 (fun t => t.setReg .WIN_W0 0 (word (1 + 2 + 4 + 3 * 16 + 12 * 64))))
/-- Hypotheses of RemapAndResolve met. -/
theorem witness_RemapAndResolve :
    3 < 4 ∧
    3 < 4 ∧
    4095 < 4096 ∧ wRemapAndResolve2.flag WIN_W0.LOCK 4095 = true ∧
    4095 < 4096 ∧ State.reset.flag WIN_W0.LOCK 4095 = false ∧ State.reset.flag WIN_W0.VALID 4095 = false ∧
    4095 < 4096 ∧ wRemapAndResolve4.flag WIN_W0.LOCK 4095 = false ∧ wRemapAndResolve4.flag WIN_W0.VALID 4095 = true ∧
    4095 < 4096 ∧ State.reset.flag WIN_W0.LOCK 4095 = false ∧ ((0x0000000000124343 : Word)).field 1 1 = 1 ∧ 12 ≤ ((0x0000000000124343 : Word)).field 11 6 ∧ ((0x0000000000124343 : Word)).field 11 6 ≤ 52 ∧ ((0x0000000000124343 : Word)).field 51 12 * 2 ^ 12 % 2 ^ ((0x0000000000124343 : Word)).field 11 6 = 0 ∧
    65535 < 65536 ∧ State.reset.l1Locked 65535 = false ∧ State.reset.flag L1_W0.HELD 65535 = false ∧
    65535 < 65536 ∧ wRemapAndResolve7.l1Locked 65535 = true ∧
    5 < 65536 ∧ wRemapAndResolve8.rmpRun = none ∧ wRemapAndResolve8.fractureStatus 5 = 0 ∧ wRemapAndResolve8.l2FreeTable = some 0 ∧ 0 < 65536 ∧
    5 < 65536 ∧ wRemapAndResolve9.rmpRun.isSome = true ∧
    5 < 65536 ∧ wUnfr.rmpRun = none ∧ wUnfr.unfractureStatus 5 = 0 ∧
    5 < 65536 ∧ 511 < 512 ∧ wRemapAndResolve11.rmpRun = none ∧ wRemapAndResolve11.flag L1_W0.VALID 5 = true ∧ wRemapAndResolve11.flag L1_W0.FRACT 5 = true ∧ wRemapAndResolve11.extentBusy 5 = false ∧ (wRemapAndResolve11.reg .RMP_CMD_DATA 0).field 3 1 = 0 ∧ (wRemapAndResolve11.reg .RMP_CMD_DATA 0).field 63 56 = 0 ∧
    5 < 65536 ∧ 511 < 512 ∧ wRemapAndResolve12.rmpRun = none ∧ wRemapAndResolve12.flag L1_W0.VALID 5 = true ∧ wRemapAndResolve12.flag L1_W0.FRACT 5 = true ∧
    wRemapAndResolve13.rmpRun = some ((⟨5, 7, 65535, some 9⟩ : RmpRun)) ∧ ((⟨5, 7, 65535, some 9⟩ : RmpRun)).status < 16 ∧ ((⟨5, 7, 65535, some 9⟩ : RmpRun)).l2ptr < 65536 ∧
    State.reset.rmpRun = none ∧
    State.reset.decode (({ sampleReq with src := .port 127 0, addr := .hpa 64 } : MemReq)) = .miss ∧ State.reset.flag ACU_ERR_INFO.PEND (sourceRegion (({ sampleReq with src := .port 127 0, addr := .hpa 64 } : MemReq)).src % 4) = false ∧
    wRemapAndResolve16.decode (({ sampleReq with src := .session 0, addr := .device 0 0 64, len := 32 } : MemReq)) = .device 0 0 64 ∧ splitParts 64 (({ sampleReq with src := .session 0, addr := .device 0 0 64, len := 32 } : MemReq)).len = [(0, 32)] ∧ wRemapAndResolve16.listedWindows (sourceRegion (({ sampleReq with src := .session 0, addr := .device 0 0 64, len := 32 } : MemReq)).src % 4) = [0] ∧ ((∀ x ∈ entryWords .window 0, wRemapAndResolve16.repCond (sourceRegion (({ sampleReq with src := .session 0, addr := .device 0 0 64, len := 32 } : MemReq)).src % 4) 0 x.1 x.2 = 0 ∧ wRemapAndResolve16.repCond (sourceRegion (({ sampleReq with src := .session 0, addr := .device 0 0 64, len := 32 } : MemReq)).src % 4) 1 x.1 x.2 = 0 ∧ wRemapAndResolve16.repWord (sourceRegion (({ sampleReq with src := .session 0, addr := .device 0 0 64, len := 32 } : MemReq)).src % 4) 1 x.1 x.2 = wRemapAndResolve16.repWord (sourceRegion (({ sampleReq with src := .session 0, addr := .device 0 0 64, len := 32 } : MemReq)).src % 4) 0 x.1 x.2)) ∧ wRemapAndResolve16.windowAdmits (sourceRegion (({ sampleReq with src := .session 0, addr := .device 0 0 64, len := 32 } : MemReq)).src % 4) 0 1 0 64 32 (wRemapAndResolve16.master (({ sampleReq with src := .session 0, addr := .device 0 0 64, len := 32 } : MemReq)).src).1 (wRemapAndResolve16.master (({ sampleReq with src := .session 0, addr := .device 0 0 64, len := 32 } : MemReq)).src).2 (!(({ sampleReq with src := .session 0, addr := .device 0 0 64, len := 32 } : MemReq)).write || (({ sampleReq with src := .session 0, addr := .device 0 0 64, len := 32 } : MemReq)).atomic) ((({ sampleReq with src := .session 0, addr := .device 0 0 64, len := 32 } : MemReq)).write || (({ sampleReq with src := .session 0, addr := .device 0 0 64, len := 32 } : MemReq)).atomic) = true := by
  and_intros <;> first | with_reducible exact wUnfr_status | decide +kernel

def wFlowsPoliced0 : State := (((State.reset.setNi 63 { NiState.idle with rx := [{ samplePkt with half := 1, tc := 7, len := 3, dst := 63 }] }).set ANV_CR_STAT.OCC 63 3).set PRT_CFG.ROLE1 63 1)
def wFlowsPoliced1 : State := (((State.reset.setNi 63 { NiState.idle with rx := [{ samplePkt with half := 1, tc := 7, kind := .response, param := 9, cls := 6, devload := 1 }] }).keepMark 127 9 3).set PRT_CFG.ROLE1 63 0)
def wFlowsPoliced2 : State := (State.reset.set PWR_BANK_PSTAT.BANKED 1 (2 ^ 63))
def wFlowsPoliced3 : State := ((State.reset.set TMP_CTX_10.TC 65536 7).set TMP_CTX_10.OVH 65536 200)
def wFlowsPoliced4 : State := ((State.reset.set TMP_CTX_08.PIR 65536 1).set TMP_CTX_10.PBS 65536 256)
def wFlowsPoliced5 : State := (((((State.reset.set TMP_CTX_08.PIR 65536 1).set TMP_CTX_10.PBS 65536 256).set TMP_CTX_10.HOLD_EN 65536 1).setBucket 65536 ⟨0, 512000, 0⟩).set PRT_CFG.ROLE1 63 2)
def wFlowsPoliced6 : State := ((((State.reset.set TMP_CTX_08.PIR 65536 1).set TMP_CTX_10.PBS 65536 256).set TMP_CTX_10.HOLD_EN 65536 1).setBucket 65536 ⟨0, 512000, 0⟩)
def wFlowsPoliced6b : State := ((State.reset.set TMP_CTX_10.HOLD_EN 65536 1).setHeld 65536 [⟨⟨133, 127, 5, 0, false, 64, samplePkt⟩, 0⟩])
def wFlowsPoliced7 : State := (State.reset.setHeld 65536 [⟨⟨133, 127, 5, 0, false, 64, samplePkt⟩, 0⟩])
def wFlowsPoliced8 : State := (((((State.reset.set TMP_CTX_08.PIR 65536 1).set TMP_CTX_10.PBS 65536 256).set TMP_CTX_10.HOLD_EN 65536 1).setBucket 65536 ⟨0, 512000, 0⟩).setHeld 65536 [⟨⟨133, 127, 5, 0, false, 64, samplePkt⟩, 0⟩])
def wFlowsPoliced9 : State := (((((State.reset.set TMP_CTX_08.PIR 65536 1).set TMP_CTX_10.PBS 65536 256).set TMP_CTX_10.HOLD_EN 65536 0).setBucket 65536 ⟨0, 512000, 0⟩).setHeld 65536 [⟨⟨133, 127, 5, 0, false, 64, samplePkt⟩, 0⟩])
def wFlowsPoliced11 : State := ((State.reset.setHeld 65536 [⟨⟨133, 127, 5, 0, false, 64, samplePkt⟩, 0⟩]).set TMP_CTX_20.HOLD_MAX 65536 0)
def wFlowsPoliced12 : State := (State.reset.set TMP_CTX_20.HOLD_MAX 65536 256)
def wFlowsPoliced13 : State := (((((State.reset.set TMP_CTX_08.PIR 65536 1).set TMP_CTX_10.PBS 65536 256).setBucket 65536 ⟨0, 512000, 0⟩).setHeld 65536 [⟨⟨63, 127, 5, 0, false, 64, samplePkt⟩, 0⟩]).set TMP_CFG.CLASS 3 1)
def wFlowsPoliced14 : State := ((State.reset.setHeld 65536 [⟨⟨63, 127, 5, 0, false, 64, samplePkt⟩, 0⟩]).set TMP_CFG.CLASS 3 0)
def wFlowsPoliced15 : State := ({ ((State.reset.set TMP_CFG.CLASS 3 1).setHeld 65536 [⟨⟨63, 127, 5, 0, false, 64, samplePkt⟩, 0⟩]) with clk := 40 } : State)
def wFlowsPoliced16 : State := (((State.reset.set TMP_CTX_10.CBS 65536 256).set TMP_CTX_10.PBS 65536 256).set TMP_CTX_10.TOK_RST 65536 1)
def wFlowsPoliced17 : State := (((State.reset.set TMP_CTX_08.PIR 65535 9).set TMP_CTX_00.BOUND 65535 1).set TMP_CTX_00.SRC_FEID 65535 1024)
def wFlowsPoliced17b : State := (State.reset.set TMP_CTX_08.PIR 65535 9)
def wFlowsPoliced18 : State := (State.reset.set TMP_CTX_10.PBS 65536 255)
def wFlowsPoliced19 : State := (State.reset.set TMP_CTX_08.PIR 65536 9)
def wFlowsPoliced20 : State := ((State.reset.set TMP_SHP_SIZE.PBS 1023 256).set TMP_SHP_SIZE.TOK_RST 1023 1)
def wFlowsPoliced21 : State := (State.reset.set TMP_SHP_RATE.PIR 1023 256)
def wFlowsPoliced22 : State := (State.reset.set TMP_SHP_SIZE.PBS 1023 255)
def wFlowsPoliced23 : State := (State.reset.set TMP_CFG.CLASS 3 1)
def wFlowsPoliced24 : State := (State.reset.set TMP_CFG.CLASS 3 0)
def wFlowsPoliced25 : State := (State.reset.set TMP_CTX_00.BOUND 0 1)
def wFlowsPoliced28 : State := ((((State.reset.set TMP_CTX_00.BOUND 65535 1).set TMP_CTX_00.SRC_FEID 65535 131071).set TMP_CTX_00.LD 65535 15).set TMP_CTX_00.REGION 65535 3)
def wFlowsPoliced29 : State := ({ State.reset with bindRun := [(3, some ⟨0, 0⟩)] } : State)
def wFlowsPoliced30 : State := (((((State.reset.set TMP_CTX_00.BOUND 65535 1).set TMP_CTX_00.SRC_FEID 65535 131071).set TMP_CTX_00.LD 65535 15).set TMP_CTX_00.REGION 65535 3).setHeld 65535 [⟨⟨63, 127, 5, 0, false, 64, samplePkt⟩, 0⟩, ⟨⟨63, 127, 5, 0, false, 64, samplePkt⟩, 0⟩])
def wFlowsPoliced32 : State := ((((State.reset.set TMP_CTX_00.BOUND 65535 1).set TMP_CTX_00.SRC_FEID 65535 131071).set TMP_CTX_00.LD 65535 15).set TMP_CTX_00.REGION 65535 3)
def wFlowsPoliced34 : State := (({ State.reset with bindRun := [(3, some ⟨4, 0x1FFFE⟩)] } : State).set TMP_BIND_STAT.SEQ 3 255)
def wFlowsPoliced36 : State := ((((State.reset.set TMP_CFG.AUTO_BIND 3 1).set TMP_CFG.TEMPLATE 3 1).set TMP_CTX_00.BOUND 1 1).set TMP_CTX_08.PIR 1 7)
def wFlowsPoliced37 : State := ((((State.reset.set TMP_CFG.AUTO_BIND 3 1).set TMP_CFG.TEMPLATE 3 1).set TMP_CTX_00.BOUND 1 1).set MGT_FAB_MEMBER.REV_MAX 255 1)
/-- Hypotheses of FlowsPoliced met. -/
theorem witness_FlowsPoliced :
    127 < 128 ∧ wFlowsPoliced0.banked 127 = false ∧ wFlowsPoliced0.egressQueue 127 = some (7, true) ∧ wFlowsPoliced0.egressHead 127 7 = some (({ samplePkt with half := 1, tc := 7, len := 3, dst := 63 } : Pkt)) ∧ wFlowsPoliced0.role 127 ≠ 0 ∧ (({ samplePkt with half := 1, tc := 7, len := 3, dst := 63 } : Pkt)).kind ≠ .response ∧ (({ samplePkt with half := 1, tc := 7, len := 3, dst := 63 } : Pkt)).kind ≠ .dataResponse ∧ looped (({ samplePkt with half := 1, tc := 7, len := 3, dst := 63 } : Pkt)) = false ∧
    127 < 128 ∧ wFlowsPoliced1.banked 127 = false ∧ wFlowsPoliced1.egressQueue 127 = some (7, true) ∧ wFlowsPoliced1.egressHead 127 7 = some (({ samplePkt with half := 1, tc := 7, kind := PktKind.response, param := 9, cls := 6, devload := 1 } : Pkt)) ∧ wFlowsPoliced1.role 127 = 0 ∧ ((({ samplePkt with half := 1, tc := 7, kind := PktKind.response, param := 9, cls := 6, devload := 1 } : Pkt)).kind = .response ∨ (({ samplePkt with half := 1, tc := 7, kind := PktKind.response, param := 9, cls := 6, devload := 1 } : Pkt)).kind = .dataResponse) ∧ hasDevLoad (({ samplePkt with half := 1, tc := 7, kind := PktKind.response, param := 9, cls := 6, devload := 1 } : Pkt)) = true ∧ (({ samplePkt with half := 1, tc := 7, kind := PktKind.response, param := 9, cls := 6, devload := 1 } : Pkt)).devload < 4 ∧
    127 < 128 ∧ (wFlowsPoliced2.banked 127 = true ∨ wFlowsPoliced2.egressQueue 127 = none) ∧
    127 < 128 ∧ (State.reset.banked 127 = true ∨ State.reset.egressQueue 127 = none) ∧
    ((⟨133, 127, 5, 0, false, 64, samplePkt⟩ : FlowReq)).port < 128 ∧ wFlowsPoliced3.ctxFor (niRegion (wFlowsPoliced3.flowOf ((⟨133, 127, 5, 0, false, 64, samplePkt⟩ : FlowReq))).ni) (wFlowsPoliced3.flowOf ((⟨133, 127, 5, 0, false, 64, samplePkt⟩ : FlowReq))).feid (wFlowsPoliced3.flowOf ((⟨133, 127, 5, 0, false, 64, samplePkt⟩ : FlowReq))).ld = 65536 ∧ wFlowsPoliced3.held 65536 = [] ∧ wFlowsPoliced3.get TMP_CTX_08.PIR 65536 = 0 ∧
    ((⟨133, 127, 5, 0, false, 64, samplePkt⟩ : FlowReq)).port < 128 ∧ wFlowsPoliced4.ctxFor (niRegion (wFlowsPoliced4.flowOf ((⟨133, 127, 5, 0, false, 64, samplePkt⟩ : FlowReq))).ni) (wFlowsPoliced4.flowOf ((⟨133, 127, 5, 0, false, 64, samplePkt⟩ : FlowReq))).feid (wFlowsPoliced4.flowOf ((⟨133, 127, 5, 0, false, 64, samplePkt⟩ : FlowReq))).ld = 65536 ∧ wFlowsPoliced4.held 65536 = [] ∧ (wFlowsPoliced4.testColour 65536 ((⟨133, 127, 5, 0, false, 64, samplePkt⟩ : FlowReq)).bytes).1 = .yellow ∧
    ((⟨133, 127, 5, 0, true, 64, samplePkt⟩ : FlowReq)).port < 128 ∧ wFlowsPoliced5.ctxFor (niRegion (wFlowsPoliced5.flowOf ((⟨133, 127, 5, 0, true, 64, samplePkt⟩ : FlowReq))).ni) (wFlowsPoliced5.flowOf ((⟨133, 127, 5, 0, true, 64, samplePkt⟩ : FlowReq))).feid (wFlowsPoliced5.flowOf ((⟨133, 127, 5, 0, true, 64, samplePkt⟩ : FlowReq))).ld = 65536 ∧ wFlowsPoliced5.held 65536 = [] ∧ (wFlowsPoliced5.testColour 65536 ((⟨133, 127, 5, 0, true, 64, samplePkt⟩ : FlowReq)).bytes).1 = .red ∧ wFlowsPoliced5.holds 65536 (wFlowsPoliced5.flowOf ((⟨133, 127, 5, 0, true, 64, samplePkt⟩ : FlowReq))) = false ∧
    ((⟨133, 127, 5, 0, false, 64, samplePkt⟩ : FlowReq)).port < 128 ∧ wFlowsPoliced6.ctxFor (niRegion (wFlowsPoliced6.flowOf ((⟨133, 127, 5, 0, false, 64, samplePkt⟩ : FlowReq))).ni) (wFlowsPoliced6.flowOf ((⟨133, 127, 5, 0, false, 64, samplePkt⟩ : FlowReq))).feid (wFlowsPoliced6.flowOf ((⟨133, 127, 5, 0, false, 64, samplePkt⟩ : FlowReq))).ld = 65536 ∧ wFlowsPoliced6.holds 65536 (wFlowsPoliced6.flowOf ((⟨133, 127, 5, 0, false, 64, samplePkt⟩ : FlowReq))) = true ∧ (wFlowsPoliced6.held 65536 ≠ [] ∨ (wFlowsPoliced6.testColour 65536 ((⟨133, 127, 5, 0, false, 64, samplePkt⟩ : FlowReq)).bytes).1 = .red) ∧
    ((⟨133, 127, 5, 0, false, 64, samplePkt⟩ : FlowReq)).port < 128 ∧ wFlowsPoliced6b.ctxFor (niRegion (wFlowsPoliced6b.flowOf ((⟨133, 127, 5, 0, false, 64, samplePkt⟩ : FlowReq))).ni) (wFlowsPoliced6b.flowOf ((⟨133, 127, 5, 0, false, 64, samplePkt⟩ : FlowReq))).feid (wFlowsPoliced6b.flowOf ((⟨133, 127, 5, 0, false, 64, samplePkt⟩ : FlowReq))).ld = 65536 ∧ wFlowsPoliced6b.holds 65536 (wFlowsPoliced6b.flowOf ((⟨133, 127, 5, 0, false, 64, samplePkt⟩ : FlowReq))) = true ∧ (wFlowsPoliced6b.held 65536 ≠ [] ∨ (wFlowsPoliced6b.testColour 65536 ((⟨133, 127, 5, 0, false, 64, samplePkt⟩ : FlowReq)).bytes).1 = .red) ∧
    65536 < 65537 ∧ wFlowsPoliced7.held 65536 = ((⟨⟨133, 127, 5, 0, false, 64, samplePkt⟩, 0⟩ : HeldReq)) :: (([] : List HeldReq)) ∧ (wFlowsPoliced7.testColour 65536 ((⟨⟨133, 127, 5, 0, false, 64, samplePkt⟩, 0⟩ : HeldReq)).req.bytes).1 ≠ .red ∧
    65536 < 65537 ∧ wFlowsPoliced8.held 65536 = ((⟨⟨133, 127, 5, 0, false, 64, samplePkt⟩, 0⟩ : HeldReq)) :: (([] : List HeldReq)) ∧ (wFlowsPoliced8.testColour 65536 ((⟨⟨133, 127, 5, 0, false, 64, samplePkt⟩, 0⟩ : HeldReq)).req.bytes).1 = .red ∧ wFlowsPoliced8.holds 65536 ((⟨⟨133, 127, 5, 0, false, 64, samplePkt⟩, 0⟩ : HeldReq)).req = true ∧
    65536 < 65537 ∧ wFlowsPoliced9.held 65536 = ((⟨⟨133, 127, 5, 0, false, 64, samplePkt⟩, 0⟩ : HeldReq)) :: (([] : List HeldReq)) ∧ (wFlowsPoliced9.testColour 65536 ((⟨⟨133, 127, 5, 0, false, 64, samplePkt⟩, 0⟩ : HeldReq)).req.bytes).1 = .red ∧ wFlowsPoliced9.holds 65536 ((⟨⟨133, 127, 5, 0, false, 64, samplePkt⟩, 0⟩ : HeldReq)).req = false ∧
    65536 < 65537 ∧ State.reset.held 65536 = [] ∧
    65536 < 65537 ∧ wFlowsPoliced11.held 65536 = ((⟨⟨133, 127, 5, 0, false, 64, samplePkt⟩, 0⟩ : HeldReq)) :: (([] : List HeldReq)) ∧ wFlowsPoliced11.isHoldFull 65536 = true ∧ Tbl.rd (fun _ => none) wFlowsPoliced11.holdFull 65536 = none ∧
    65536 < 65537 ∧ wFlowsPoliced12.isHoldFull 65536 = false ∧
    65536 < 65537 ∧ wFlowsPoliced13.held 65536 = ((⟨⟨63, 127, 5, 0, false, 64, samplePkt⟩, 0⟩ : HeldReq)) :: (([] : List HeldReq)) ∧ wFlowsPoliced13.fullClass (niRegion ((⟨⟨63, 127, 5, 0, false, 64, samplePkt⟩, 0⟩ : HeldReq)).req.ni) = true ∧ (wFlowsPoliced13.testColour 65536 ((⟨⟨63, 127, 5, 0, false, 64, samplePkt⟩, 0⟩ : HeldReq)).req.bytes).1 = .red ∧
    65536 < 65537 ∧ wFlowsPoliced14.held 65536 = ((⟨⟨63, 127, 5, 0, false, 64, samplePkt⟩, 0⟩ : HeldReq)) :: (([] : List HeldReq)) ∧ wFlowsPoliced14.fullClass (niRegion ((⟨⟨63, 127, 5, 0, false, 64, samplePkt⟩, 0⟩ : HeldReq)).req.ni) = false ∧
    3 < 4 ∧
    65536 < 65537 ∧ ratesLegal (((0x000005000005 : Word)).field 23 0) (((0x000005000005 : Word)).field 47 24) (wFlowsPoliced16.get TMP_CTX_10.CBS 65536) (wFlowsPoliced16.get TMP_CTX_10.PBS 65536) = true ∧
    65535 < 65537 ∧ ratesLegal (wFlowsPoliced17.get TMP_CTX_08.CIR 65535) (wFlowsPoliced17.get TMP_CTX_08.PIR 65535) (((0x7FFF000100000100 : Word)).field 23 0) (((0x7FFF000100000100 : Word)).field 47 24) = true ∧
    65535 < 65537 ∧ ratesLegal (wFlowsPoliced17b.get TMP_CTX_08.CIR 65535) (wFlowsPoliced17b.get TMP_CTX_08.PIR 65535) (((0x7FFF000100000100 : Word)).field 23 0) (((0x7FFF000100000100 : Word)).field 47 24) = true ∧
    65536 < 65537 ∧ ratesLegal (((0x000005000005 : Word)).field 23 0) (((0x000005000005 : Word)).field 47 24) (wFlowsPoliced18.get TMP_CTX_10.CBS 65536) (wFlowsPoliced18.get TMP_CTX_10.PBS 65536) = false ∧
    65536 < 65537 ∧ ratesLegal (wFlowsPoliced19.get TMP_CTX_08.CIR 65536) (wFlowsPoliced19.get TMP_CTX_08.PIR 65536) (((0x7FFF0000FF000100 : Word)).field 23 0) (((0x7FFF0000FF000100 : Word)).field 47 24) = false ∧
    127 < 128 ∧ 7 < 8 ∧ ratesLegal (((0x000005000005 : Word)).field 23 0) (((0x000005000005 : Word)).field 47 24) (wFlowsPoliced20.get TMP_SHP_SIZE.CBS (8 * 127 + 7)) (wFlowsPoliced20.get TMP_SHP_SIZE.PBS (8 * 127 + 7)) = true ∧
    127 < 128 ∧ 7 < 8 ∧ ratesLegal (wFlowsPoliced21.get TMP_SHP_RATE.CIR (8 * 127 + 7)) (wFlowsPoliced21.get TMP_SHP_RATE.PIR (8 * 127 + 7)) (((0x0100000200000100 : Word)).field 23 0) (((0x0100000200000100 : Word)).field 47 24) = true ∧
    127 < 128 ∧ 7 < 8 ∧ ratesLegal (((0x000005000005 : Word)).field 23 0) (((0x000005000005 : Word)).field 47 24) (wFlowsPoliced22.get TMP_SHP_SIZE.CBS (8 * 127 + 7)) (wFlowsPoliced22.get TMP_SHP_SIZE.PBS (8 * 127 + 7)) = false ∧
    127 < 128 ∧ 65536 < 65537 ∧ wFlowsPoliced23.fullClass (127 / 32) = true ∧
    127 < 128 ∧ 65536 < 65537 ∧ wFlowsPoliced24.fullClass (127 / 32) = false ∧
    3 < 4 ∧ Tbl.rd (fun _ => none) wFlowsPoliced25.bindRun 3 = none ∧ wFlowsPoliced25.live 3 = true ∧ wFlowsPoliced25.findCtx 3 (131071 % 2 ^ 17) (15 % 16) = none ∧ wFlowsPoliced25.freeCtx = some 1 ∧
    3 < 4 ∧ Tbl.rd (fun _ => none) State.reset.bindRun 3 = none ∧ State.reset.live 3 = true ∧ State.reset.findCtx 3 (131071 % 2 ^ 17) (15 % 16) = none ∧ State.reset.freeCtx = some 0 ∧ 65535 < 65536 ∧ State.reset.ctxBound 65535 = false ∧
    3 < 4 ∧ Tbl.rd (fun _ => none) State.reset.bindRun 3 = none ∧ State.reset.live 3 = true ∧ State.reset.findCtx 3 (131071 % 2 ^ 17) (15 % 16) = none ∧ State.reset.freeCtx = some 0 ∧ 65536 ≠ 0x1FFFF ∧ (65536 ≤ 65536 ∨ State.reset.ctxBound 65536 = true) ∧
    3 < 4 ∧ Tbl.rd (fun _ => none) wFlowsPoliced28.bindRun 3 = none ∧ wFlowsPoliced28.live 3 = true ∧ wFlowsPoliced28.findCtx 3 (131071 % 2 ^ 17) (15 % 16) = some 65535 ∧
    3 < 4 ∧ Tbl.rd (fun _ => none) wFlowsPoliced29.bindRun 3 = some ((⟨0, 0⟩ : BindRun)) ∧
    3 < 4 ∧ Tbl.rd (fun _ => none) wFlowsPoliced30.bindRun 3 = none ∧ wFlowsPoliced30.live 3 = true ∧ wFlowsPoliced30.findCtx 3 (131071 % 2 ^ 17) (15 % 16) = some 65535 ∧
    3 < 4 ∧ Tbl.rd (fun _ => none) State.reset.bindRun 3 = none ∧ State.reset.live 3 = true ∧ State.reset.findCtx 3 (131071 % 2 ^ 17) (15 % 16) = none ∧
    3 < 4 ∧ Tbl.rd (fun _ => none) wFlowsPoliced32.bindRun 3 = none ∧ wFlowsPoliced32.findCtx 3 (131071 % 2 ^ 17) (15 % 16) = some 65535 ∧
    3 < 4 ∧ Tbl.rd (fun _ => none) State.reset.bindRun 3 = none ∧ State.reset.findCtx 3 (131071 % 2 ^ 17) (15 % 16) = none ∧
    3 < 4 ∧ Tbl.rd (fun _ => none) wFlowsPoliced34.bindRun 3 = some ((⟨4, 0x1FFFE⟩ : BindRun)) ∧
    3 < 4 ∧ Tbl.rd (fun _ => none) State.reset.bindRun 3 = none ∧
    3 < 4 ∧ wFlowsPoliced36.flag TMP_CFG.AUTO_BIND 3 = true ∧ wFlowsPoliced36.flag TMP_CTX_00.BOUND (wFlowsPoliced36.get TMP_CFG.TEMPLATE 3) = true ∧ wFlowsPoliced36.findCtx 3 (131071 % 2 ^ 17) (15 % 16) = none ∧ wFlowsPoliced36.mayNow (16 + 3) 100000 = true ∧ wFlowsPoliced36.freeCtx = some 0 ∧ wFlowsPoliced36.get MGT_FAB_MEMBER.REV_MAX (131071 % 2 ^ 17 / 512) ≠ 1 ∧
    3 < 4 ∧ wFlowsPoliced37.flag TMP_CFG.AUTO_BIND 3 = true ∧ wFlowsPoliced37.flag TMP_CTX_00.BOUND (wFlowsPoliced37.get TMP_CFG.TEMPLATE 3) = true ∧ wFlowsPoliced37.findCtx 3 (131071 % 2 ^ 17) (15 % 16) = none ∧ wFlowsPoliced37.mayNow (16 + 3) 100000 = true ∧ wFlowsPoliced37.get MGT_FAB_MEMBER.REV_MAX (131071 % 2 ^ 17 / 512) = 1 ∧
    3 < 4 ∧ (State.reset.flag TMP_CFG.AUTO_BIND 3 = false ∨ State.reset.flag TMP_CTX_00.BOUND (State.reset.get TMP_CFG.TEMPLATE 3) = false ∨ State.reset.mayNow (16 + 3) 100000 = false) := by
  and_intros <;> decide +kernel

def wHomesKeepLines1 : State := ({ State.reset with txns := [newTxn 0 ⟨.rdS, some 0, 0, [], 1, false⟩ []] } : State)
def wHomesKeepLines2 : State := ({ State.reset with txns := List.replicate 1024 (newTxn 0 ⟨.rdS, some 0, 0, [], 1, false⟩ []) } : State)
def wHomesKeepLines3 : State := (((State.reset.set MGT_HBM_PART.DIR_GIB 0 1).set HRT_HOME.VALID 7 1).set HRT_HOME.L1_IDX 7 5)
def wHomesKeepLines4 : State := (State.reset.setNi 69 { NiState.idle with code := 2 })
def wHomesKeepLines5 : State := ({ (((State.reset.set MGT_HBM_PART.DIR_GIB 0 1).set HRT_HOME.VALID 7 1).set HRT_HOME.L1_IDX 7 5) with txns := [newTxn 5 ⟨.rdS, some 2047, 5 * 2 ^ 30, [], 9, false⟩ []] } : State)
def wHomesKeepLines6 : State := ({ (State.reset.set PWR_BANK_USTAT.SLICE 0 32) with txns := [newTxn 5 ⟨.rdS, some 2047, 5 * 2 ^ 30, [], 9, false⟩ []] } : State)
def wHomesKeepLines7 : State := (((State.reset.set MGT_HBM_PART.DIR_GIB 0 1).set HRT_HOME.VALID 7 1).set HRT_HOME.L1_IDX 7 5)
def wHomesKeepLines8 : State := ((((State.reset.set MGT_HBM_PART.DIR_GIB 0 1).set HRT_HOME.VALID 7 1).set HRT_HOME.L1_IDX 7 5).setDirBlocks (dirSet (homeSlice (5 * 2 ^ 30)) (0x20000000 + 7 * 0x8000000)) [⟨(0x20000000 + 7 * 0x8000000) / 64, [], false⟩])
def wHomesKeepLines9 : State := ({ State.reset with homeHolds := [(0, 2047)], txns := [{ newTxn 0 ⟨.rdS, some 0, 0, [], 1, false⟩ [] with snoops := [⟨2047, .data, .deferred, false⟩] }] } : State)
def wHomesKeepLines10 : State := ({ State.reset with homeHolds := [(0, 2047), (0, 3)] } : State)
def wHomesKeepLines11 : State := ({ State.reset with homeHolds := [(0, 2047), (0, 2047)], txns := [{ newTxn 0 ⟨.rdS, some 0, 0, [], 1, false⟩ [] with snoops := [⟨2047, .data, .deferred, false⟩] }] } : State)
def wHomesKeepLines12 : State := ({ State.reset with txns := [{ newTxn 0 ⟨.rdS, some 0, 0, [], 1, false⟩ [] with snoops := [⟨2047, .data, .queued, false⟩] }] } : State)
def wHomesKeepLines13 : State := ({ State.reset with txns := [{ newTxn 0 ⟨.rdS, some 0, 0, [], 1, false⟩ [] with snoops := [⟨2047, .data, .sent 0, false⟩] }] } : State)
def wHomesKeepLines14 : State := ({ State.reset with txns := [{ newTxn 0 ⟨.rdS, some 0, 0, [], 1, false⟩ [] with snoops := [⟨2047, .inv, .sent 0, false⟩] }] } : State)
def wHomesKeepLines16 : State := ({ State.reset with txns := [{ newTxn 0 ⟨.rdS, some 0, 0, [], 1, false⟩ [] with entry := (dirEncode (dirO 2047)).toNat, snoops := [⟨2047, .data, .sent 0, false⟩] }] } : State)
def wHomesKeepLines17 : State := ({ State.reset with txns := [newTxn 0 ⟨.rdS, some 0, 0, [], 1, false⟩ []] } : State)
def wHomesKeepLines18 : State := ({ State.reset with txns := [{ newTxn 0 ⟨.rdS, some 0, 0, [], 1, false⟩ [] with snoops := [⟨2047, .data, .sent 0, false⟩] }] } : State)
def wHomesKeepLines19 : State := ({ State.reset with txns := [newTxn 0 ⟨.rdS, some 0, 0, [], 1, false⟩ []] } : State)
def wHomesKeepLines20 : State := ({ State.reset with txns := [{ newTxn 0 ⟨.rdS, some 0, 0, [], 1, false⟩ [] with started := true, snoops := [⟨2047, .data, .sent 0, false⟩] }] } : State)
def wHomesKeepLines21 : State := ((((State.reset.set MGT_HBM_PART.DIR_GIB 0 1).set HRT_HOME.VALID 7 1).set HRT_HOME.L1_IDX 7 5).setHbm64 (0x20000000 + 7 * 0x8000000) (dirEncode (dirO 2047)))
def wHomesKeepLines24 : State := ({ State.reset with txns := [{ newTxn 0 ⟨.rdS, some 0, 0, [], 1, false⟩ [] with exp := .issued }] } : State)
def wHomesKeepLines25 : State := ({ State.reset with txns := [{ newTxn 0 ⟨.rdS, some 0, 0, [], 1, false⟩ [] with exp := .issued }], wbuf := [(0, 0, 3, List.replicate 64 9)] } : State)
def wHomesKeepLines26 : State := ({ State.reset with txns := [{ newTxn 0 ⟨.rdS, some 0, 0, [], 1, false⟩ [] with exp := .issued }] } : State)
def wHomesKeepLines27 : State := ({ State.reset with wbuf := [(0, 0, 3, List.replicate 64 9)] } : State)
def wHomesKeepLines28 : State := ({ State.reset with txns := [{ newTxn 0 ⟨.rdS, some 0, 0, [], 1, false⟩ [] with exp := .issued }] } : State)
def wHomesKeepLines29 : State := ({ State.reset with txns := [{ newTxn 0 ⟨.rdS, some 0, 0, [], 1, false⟩ [⟨.rdA, some 7, 0, [], 1, false⟩] with started := true, exp := .data [1] false }] } : State)
def wHomesKeepLines30 : State := ({ State.reset with txns := [{ newTxn 0 ⟨.rdS, some 0, 0, [], 1, false⟩ [] with started := true, exp := .data [1] false }], phase := .operating } : State)
def wHomesKeepLines31 : State := ({ State.reset with txns := [{ newTxn 0 ⟨.rdS, some 0, 0, [], 1, false⟩ [] with started := true, exp := .data [1] false, fail := 2, failAgent := 7 }], phase := .operating } : State)
def wHomesKeepLines32 : State := ((((State.reset.set MGT_FAB_STAT.ROLE_NOW 0 3).set HRT_AGENT.VALID 0 1).set VCS_ENTRY.USP_PORT 63 127).set MGT_CHIP_INFO.CHIP_ID 0 200)
def wHomesKeepLines33 : State := (State.reset.set MGT_FAB_STAT.ROLE_NOW 0 1)
def wHomesKeepLines34 : State := ({ (State.reset.set MGT_FAB_STAT.ROLE_NOW 0 1) with caidWait := [63] } : State)
def wHomesKeepLines35 : State := (State.reset.set HRT_ADMIT.IN_USE 0 7)
def wHomesKeepLines36 : State := ((State.reset.set MGT_FAB_STAT.ROLE_NOW 0 3).set HRT_AGENT.VALID 0 1)
def wHomesKeepLines37 : State := (State.reset.set MGT_FAB_STAT.ROLE_NOW 0 3)
def wHomesKeepLines38 : State := (State.reset.set HRT_AGENT.VALID 2047 1)
def wHomesKeepLines39 : State := ({ State.reset with caidWait := [63] } : State)
def wHomesKeepLines40 : State := ({ State.reset with caidWait := [62] } : State)
def wHomesKeepLines41 : State := (State.reset.set HRT_AGENT.VALID 2047 1)
def wHomesKeepLines43 : State := ({ ((State.reset.set HRT_AGENT.VALID 2047 1).set HRT_AGENT.REMOVING 2047 1) with sweeping := [2047] } : State)
def wHomesKeepLines45 : State := (((((State.reset.set MGT_HBM_PART.DIR_GIB 0 1).set HRT_HOME.VALID 7 1).set HRT_HOME.L1_IDX 7 5).set HRT_RES.SEQ 0 255).setHbm64 (0x20000000 + 7 * 0x8000000) (dirEncode (dirO 2047)))
def wHomesKeepLines49 : State := ((State.reset.set HRT_POISON_LOG.PEND 15 1).set HRT_POISON_LOG.LINE 15 9)
/-- Hypotheses of HomesKeepLines met. -/
theorem witness_HomesKeepLines :
    ((⟨.rdS, some 2047, 2 ^ 46 - 64, [], 9, false⟩ : HomeReq)).op ≠ .wbI ∧ ((⟨.rdS, some 2047, 2 ^ 46 - 64, [], 9, false⟩ : HomeReq)).op ≠ .wbS ∧ State.reset.homeDown (homeSlice ((⟨.rdS, some 2047, 2 ^ 46 - 64, [], 9, false⟩ : HomeReq)).poa) = false ∧ ((⟨.rdS, some 2047, 2 ^ 46 - 64, [], 9, false⟩ : HomeReq)).spec = false ∧ State.reset.txn (((⟨.rdS, some 2047, 2 ^ 46 - 64, [], 9, false⟩ : HomeReq)).poa / 64) = none ∧ (State.reset.txns.filter (fun y => y.slice = homeSlice ((⟨.rdS, some 2047, 2 ^ 46 - 64, [], 9, false⟩ : HomeReq)).poa)).length < 1024 ∧
    ((⟨.rdA, some 2047, 0, [], 9, false⟩ : HomeReq)).op ≠ .wbI ∧ ((⟨.rdA, some 2047, 0, [], 9, false⟩ : HomeReq)).op ≠ .wbS ∧ wHomesKeepLines1.homeDown (homeSlice ((⟨.rdA, some 2047, 0, [], 9, false⟩ : HomeReq)).poa) = false ∧ ((⟨.rdA, some 2047, 0, [], 9, false⟩ : HomeReq)).spec = false ∧ wHomesKeepLines1.txn (((⟨.rdA, some 2047, 0, [], 9, false⟩ : HomeReq)).poa / 64) = some ((newTxn 0 ⟨.rdS, some 0, 0, [], 1, false⟩ [])) ∧
    ((⟨.rdA, some 2047, 2 ^ 40, [], 9, false⟩ : HomeReq)).op ≠ .wbI ∧ ((⟨.rdA, some 2047, 2 ^ 40, [], 9, false⟩ : HomeReq)).op ≠ .wbS ∧ wHomesKeepLines2.homeDown (homeSlice ((⟨.rdA, some 2047, 2 ^ 40, [], 9, false⟩ : HomeReq)).poa) = false ∧ ((⟨.rdA, some 2047, 2 ^ 40, [], 9, false⟩ : HomeReq)).spec = false ∧ wHomesKeepLines2.txn (((⟨.rdA, some 2047, 2 ^ 40, [], 9, false⟩ : HomeReq)).poa / 64) = none ∧ 1024 ≤ (wHomesKeepLines2.txns.filter (fun y => y.slice = homeSlice ((⟨.rdA, some 2047, 2 ^ 40, [], 9, false⟩ : HomeReq)).poa)).length ∧
    ((⟨.rdI, some 2047, 5 * 2 ^ 30, [], 9, true⟩ : HomeReq)).op ≠ .wbI ∧ ((⟨.rdI, some 2047, 5 * 2 ^ 30, [], 9, true⟩ : HomeReq)).op ≠ .wbS ∧ wHomesKeepLines3.homeDown (homeSlice ((⟨.rdI, some 2047, 5 * 2 ^ 30, [], 9, true⟩ : HomeReq)).poa) = false ∧ ((⟨.rdI, some 2047, 5 * 2 ^ 30, [], 9, true⟩ : HomeReq)).spec = true ∧ wHomesKeepLines3.servesSpec (homeSlice ((⟨.rdI, some 2047, 5 * 2 ^ 30, [], 9, true⟩ : HomeReq)).poa) ((⟨.rdI, some 2047, 5 * 2 ^ 30, [], 9, true⟩ : HomeReq)).poa = false ∧
    wHomesKeepLines4.homeDown (homeSlice ((⟨.rdI, some 2047, 0, [], 9, false⟩ : HomeReq)).poa) = true ∧ reqWrites ((⟨.rdI, some 2047, 0, [], 9, false⟩ : HomeReq)) = false ∧
    wHomesKeepLines5.txn (5 * 2 ^ 24) = some ((newTxn 5 ⟨.rdS, some 2047, 5 * 2 ^ 30, [], 9, false⟩ [])) ∧ wHomesKeepLines5.dirAddr (5 * 2 ^ 24) = some (0x20000000 + 7 * 0x8000000) ∧ ((newTxn 5 ⟨.rdS, some 2047, 5 * 2 ^ 30, [], 9, false⟩ [])).started = false ∧ wHomesKeepLines5.banked (144 + ((newTxn 5 ⟨.rdS, some 2047, 5 * 2 ^ 30, [], 9, false⟩ [])).slice) = false ∧ wHomesKeepLines5.homeDown ((newTxn 5 ⟨.rdS, some 2047, 5 * 2 ^ 30, [], 9, false⟩ [])).slice = false ∧ wHomesKeepLines5.hbmFenced (wHomesKeepLines5.sliceRegion ((newTxn 5 ⟨.rdS, some 2047, 5 * 2 ^ 30, [], 9, false⟩ [])).slice) (0x20000000 + 7 * 0x8000000) = false ∧
    wHomesKeepLines6.txn (5 * 2 ^ 24) = some ((newTxn 5 ⟨.rdS, some 2047, 5 * 2 ^ 30, [], 9, false⟩ [])) ∧ (((newTxn 5 ⟨.rdS, some 2047, 5 * 2 ^ 30, [], 9, false⟩ [])).started = true ∨ wHomesKeepLines6.banked (144 + ((newTxn 5 ⟨.rdS, some 2047, 5 * 2 ^ 30, [], 9, false⟩ [])).slice) = true ∨ wHomesKeepLines6.homeDown ((newTxn 5 ⟨.rdS, some 2047, 5 * 2 ^ 30, [], 9, false⟩ [])).slice = true) ∧
    wHomesKeepLines7.dirAddr (5 * 2 ^ 24) = some (0x20000000 + 7 * 0x8000000) ∧ (wHomesKeepLines7.dirBlocks (dirSet (homeSlice (64 * (5 * 2 ^ 24))) (0x20000000 + 7 * 0x8000000))).any (fun b => b.addr = (0x20000000 + 7 * 0x8000000) / 64) = false ∧
    wHomesKeepLines8.dirAddr (5 * 2 ^ 24) = some (0x20000000 + 7 * 0x8000000) ∧ (wHomesKeepLines8.dirBlocks (dirSet (homeSlice (64 * (5 * 2 ^ 24))) (0x20000000 + 7 * 0x8000000))).any (fun b => b.addr = (0x20000000 + 7 * 0x8000000) / 64) = true ∧
    2047 < 2048 ∧ wHomesKeepLines9.txn 0 = some (({ newTxn 0 ⟨.rdS, some 0, 0, [], 1, false⟩ [] with snoops := [⟨2047, .data, .deferred, false⟩] } : Txn)) ∧ (({ newTxn 0 ⟨.rdS, some 0, 0, [], 1, false⟩ [] with snoops := [⟨2047, .data, .deferred, false⟩] } : Txn)).snoops.find? (fun y => y.agent = 2047 && decide (y.stage = .deferred)) = some ((⟨2047, .data, .deferred, false⟩ : Snoop)) ∧ wHomesKeepLines9.homeHolds.count (0, 2047) ≤ 1 ∧
    2047 < 2048 ∧ wHomesKeepLines10.txn 0 = none ∧
    2047 < 2048 ∧ wHomesKeepLines11.txn 0 = some (({ newTxn 0 ⟨.rdS, some 0, 0, [], 1, false⟩ [] with snoops := [⟨2047, .data, .deferred, false⟩] } : Txn)) ∧ 2 ≤ wHomesKeepLines11.homeHolds.count (0, 2047) ∧
    2047 < 2048 ∧ wHomesKeepLines12.txn 0 = some (({ newTxn 0 ⟨.rdS, some 0, 0, [], 1, false⟩ [] with snoops := [⟨2047, .data, .queued, false⟩] } : Txn)) ∧ (({ newTxn 0 ⟨.rdS, some 0, 0, [], 1, false⟩ [] with snoops := [⟨2047, .data, .queued, false⟩] } : Txn)).snoops.find? (fun y => y.agent = 2047 && decide (y.stage = .queued)) = some ((⟨2047, .data, .queued, false⟩ : Snoop)) ∧ Tbl.rd (fun _ => 0) wHomesKeepLines12.spareUntil (({ newTxn 0 ⟨.rdS, some 0, 0, [], 1, false⟩ [] with snoops := [⟨2047, .data, .queued, false⟩] } : Txn)).slice ≤ wHomesKeepLines12.clk ∧
    2047 < 2048 ∧ wHomesKeepLines13.txn 0 = some (({ newTxn 0 ⟨.rdS, some 0, 0, [], 1, false⟩ [] with snoops := [⟨2047, .data, .sent 0, false⟩] } : Txn)) ∧ outstanding (({ newTxn 0 ⟨.rdS, some 0, 0, [], 1, false⟩ [] with snoops := [⟨2047, .data, .sent 0, false⟩] } : Txn)) 2047 = some ((⟨2047, .data, .sent 0, false⟩ : Snoop)) ∧ (((⟨2047, .data, .sent 0, false⟩ : Snoop)).op ≠ .inv ∨ (BiRsp.s) = .i) ∧ (({ newTxn 0 ⟨.rdS, some 0, 0, [], 1, false⟩ [] with snoops := [⟨2047, .data, .sent 0, false⟩] } : Txn)).exp ≠ .later ∧
    2047 < 2048 ∧ wHomesKeepLines14.txn 0 = some (({ newTxn 0 ⟨.rdS, some 0, 0, [], 1, false⟩ [] with snoops := [⟨2047, .inv, .sent 0, false⟩] } : Txn)) ∧ outstanding (({ newTxn 0 ⟨.rdS, some 0, 0, [], 1, false⟩ [] with snoops := [⟨2047, .inv, .sent 0, false⟩] } : Txn)) 2047 = some ((⟨2047, .inv, .sent 0, false⟩ : Snoop)) ∧ ((⟨2047, .inv, .sent 0, false⟩ : Snoop)).op = .inv ∧ (BiRsp.s) ≠ .i ∧
    2047 < 2048 ∧ State.reset.txn 7 = none ∧
    2047 < 2048 ∧ wHomesKeepLines16.txn 0 = some (({ newTxn 0 ⟨.rdS, some 0, 0, [], 1, false⟩ [] with entry := (dirEncode (dirO 2047)).toNat, snoops := [⟨2047, .data, .sent 0, false⟩] } : Txn)) ∧ outstanding (({ newTxn 0 ⟨.rdS, some 0, 0, [], 1, false⟩ [] with entry := (dirEncode (dirO 2047)).toNat, snoops := [⟨2047, .data, .sent 0, false⟩] } : Txn)) 2047 = some ((⟨2047, .data, .sent 0, false⟩ : Snoop)) ∧ (dirDecode (word (({ newTxn 0 ⟨.rdS, some 0, 0, [], 1, false⟩ [] with entry := (dirEncode (dirO 2047)).toNat, snoops := [⟨2047, .data, .sent 0, false⟩] } : Txn)).entry)).state = .o ∧ (({ newTxn 0 ⟨.rdS, some 0, 0, [], 1, false⟩ [] with entry := (dirEncode (dirO 2047)).toNat, snoops := [⟨2047, .data, .sent 0, false⟩] } : Txn)).noEntry = false ∧ (dirDecode (word (({ newTxn 0 ⟨.rdS, some 0, 0, [], 1, false⟩ [] with entry := (dirEncode (dirO 2047)).toNat, snoops := [⟨2047, .data, .sent 0, false⟩] } : Txn)).entry)).agents.contains 2047 = true ∧ (({ newTxn 0 ⟨.rdS, some 0, 0, [], 1, false⟩ [] with entry := (dirEncode (dirO 2047)).toNat, snoops := [⟨2047, .data, .sent 0, false⟩] } : Txn)).fail = 0 ∧
    2047 < 2048 ∧ wHomesKeepLines17.txn 0 = some ((newTxn 0 ⟨.rdS, some 0, 0, [], 1, false⟩ [])) ∧ outstanding ((newTxn 0 ⟨.rdS, some 0, 0, [], 1, false⟩ [])) 2047 = none ∧
    2047 < 2048 ∧ wHomesKeepLines18.txn 0 = some (({ newTxn 0 ⟨.rdS, some 0, 0, [], 1, false⟩ [] with snoops := [⟨2047, .data, .sent 0, false⟩] } : Txn)) ∧ outstanding (({ newTxn 0 ⟨.rdS, some 0, 0, [], 1, false⟩ [] with snoops := [⟨2047, .data, .sent 0, false⟩] } : Txn)) 2047 = some ((⟨2047, .data, .sent 0, false⟩ : Snoop)) ∧ (({ newTxn 0 ⟨.rdS, some 0, 0, [], 1, false⟩ [] with snoops := [⟨2047, .data, .sent 0, false⟩] } : Txn)).fail = 0 ∧
    2047 < 2048 ∧ wHomesKeepLines19.txn 0 = some ((newTxn 0 ⟨.rdS, some 0, 0, [], 1, false⟩ [])) ∧ outstanding ((newTxn 0 ⟨.rdS, some 0, 0, [], 1, false⟩ [])) 2047 = none ∧
    ((⟨.wbI, some 2047, 0, [1], 9, false⟩ : HomeReq)).agent = some 2047 ∧ wHomesKeepLines20.txn (((⟨.wbI, some 2047, 0, [1], 9, false⟩ : HomeReq)).poa / 64) = some (({ newTxn 0 ⟨.rdS, some 0, 0, [], 1, false⟩ [] with started := true, snoops := [⟨2047, .data, .sent 0, false⟩] } : Txn)) ∧ (({ newTxn 0 ⟨.rdS, some 0, 0, [], 1, false⟩ [] with started := true, snoops := [⟨2047, .data, .sent 0, false⟩] } : Txn)).started = true ∧ (({ newTxn 0 ⟨.rdS, some 0, 0, [], 1, false⟩ [] with started := true, snoops := [⟨2047, .data, .sent 0, false⟩] } : Txn)).snoops.any (fun y => y.agent = 2047) = true ∧
    ((⟨.wbI, some 2047, 5 * 2 ^ 30, [1], 9, false⟩ : HomeReq)).agent = some 2047 ∧ wHomesKeepLines21.txn (((⟨.wbI, some 2047, 5 * 2 ^ 30, [1], 9, false⟩ : HomeReq)).poa / 64) = none ∧ wHomesKeepLines21.dirAddr (((⟨.wbI, some 2047, 5 * 2 ^ 30, [1], 9, false⟩ : HomeReq)).poa / 64) = some (0x20000000 + 7 * 0x8000000) ∧ (dirDecode (wHomesKeepLines21.dirWord (homeSlice ((⟨.wbI, some 2047, 5 * 2 ^ 30, [1], 9, false⟩ : HomeReq)).poa) (0x20000000 + 7 * 0x8000000))).state = .o ∧ (dirDecode (wHomesKeepLines21.dirWord (homeSlice ((⟨.wbI, some 2047, 5 * 2 ^ 30, [1], 9, false⟩ : HomeReq)).poa) (0x20000000 + 7 * 0x8000000))).agents = [2047] ∧ ((⟨.wbI, some 2047, 5 * 2 ^ 30, [1], 9, false⟩ : HomeReq)).op = .wbI ∧ ((∀ b ∈ wHomesKeepLines21.dirBlocks (dirSet (homeSlice ((⟨.wbI, some 2047, 5 * 2 ^ 30, [1], 9, false⟩ : HomeReq)).poa) (0x20000000 + 7 * 0x8000000)), b.entries.length = 8)) ∧
    (((⟨.wbI, some 2047, 5 * 2 ^ 30, [1], 9, false⟩ : HomeReq)).agent = none ∨ State.reset.txn (((⟨.wbI, some 2047, 5 * 2 ^ 30, [1], 9, false⟩ : HomeReq)).poa / 64) = none ∧ State.reset.dirAddr (((⟨.wbI, some 2047, 5 * 2 ^ 30, [1], 9, false⟩ : HomeReq)).poa / 64) = none) ∧
    2047 < 2048 ∧
    wHomesKeepLines24.txn 0 = some (({ newTxn 0 ⟨.rdS, some 0, 0, [], 1, false⟩ [] with exp := .issued } : Txn)) ∧ (({ newTxn 0 ⟨.rdS, some 0, 0, [], 1, false⟩ [] with exp := .issued } : Txn)).exp = .issued ∧ (([1] : List Byte)) ≠ [] ∧ wHomesKeepLines24.bufferedLine 0 = none ∧
    wHomesKeepLines25.txn 0 = some (({ newTxn 0 ⟨.rdS, some 0, 0, [], 1, false⟩ [] with exp := .issued } : Txn)) ∧ (({ newTxn 0 ⟨.rdS, some 0, 0, [], 1, false⟩ [] with exp := .issued } : Txn)).exp = .issued ∧ (([1] : List Byte)) ≠ [] ∧ wHomesKeepLines25.bufferedLine 0 = some ((List.replicate 64 9 : List Byte)) ∧
    wHomesKeepLines26.txn 0 = some (({ newTxn 0 ⟨.rdS, some 0, 0, [], 1, false⟩ [] with exp := .issued } : Txn)) ∧ (({ newTxn 0 ⟨.rdS, some 0, 0, [], 1, false⟩ [] with exp := .issued } : Txn)).exp = .issued ∧ 4 ≠ 0 ∧ (([1] : List Byte)) ≠ [] ∧
    wHomesKeepLines27.wbuf.find? (fun y => decide (y.2.1 = 0)) = some (((0, 0, 3, List.replicate 64 9) : Nat × Nat × Nat × List Byte)) ∧
    wHomesKeepLines28.txn 0 = some (({ newTxn 0 ⟨.rdS, some 0, 0, [], 1, false⟩ [] with exp := .issued } : Txn)) ∧ (ready (({ newTxn 0 ⟨.rdS, some 0, 0, [], 1, false⟩ [] with exp := .issued } : Txn)) = false ∨ wHomesKeepLines28.homeDown (({ newTxn 0 ⟨.rdS, some 0, 0, [], 1, false⟩ [] with exp := .issued } : Txn)).slice = true) ∧
    wHomesKeepLines29.txn 0 = some (({ newTxn 0 ⟨.rdS, some 0, 0, [], 1, false⟩ [⟨.rdA, some 7, 0, [], 1, false⟩] with started := true, exp := .data [1] false } : Txn)) ∧ ready (({ newTxn 0 ⟨.rdS, some 0, 0, [], 1, false⟩ [⟨.rdA, some 7, 0, [], 1, false⟩] with started := true, exp := .data [1] false } : Txn)) = true ∧ wHomesKeepLines29.homeDown (({ newTxn 0 ⟨.rdS, some 0, 0, [], 1, false⟩ [⟨.rdA, some 7, 0, [], 1, false⟩] with started := true, exp := .data [1] false } : Txn)).slice = false ∧ (finish (({ newTxn 0 ⟨.rdS, some 0, 0, [], 1, false⟩ [⟨.rdA, some 7, 0, [], 1, false⟩] with started := true, exp := .data [1] false } : Txn))).2 = 0 ∧ (({ newTxn 0 ⟨.rdS, some 0, 0, [], 1, false⟩ [⟨.rdA, some 7, 0, [], 1, false⟩] with started := true, exp := .data [1] false } : Txn)).waiting = ((⟨.rdA, some 7, 0, [], 1, false⟩ : HomeReq)) :: (([] : List HomeReq)) ∧
    wHomesKeepLines30.txn 0 = some (({ newTxn 0 ⟨.rdS, some 0, 0, [], 1, false⟩ [] with started := true, exp := .data [1] false } : Txn)) ∧ ready (({ newTxn 0 ⟨.rdS, some 0, 0, [], 1, false⟩ [] with started := true, exp := .data [1] false } : Txn)) = true ∧ wHomesKeepLines30.homeDown (({ newTxn 0 ⟨.rdS, some 0, 0, [], 1, false⟩ [] with started := true, exp := .data [1] false } : Txn)).slice = false ∧ (finish (({ newTxn 0 ⟨.rdS, some 0, 0, [], 1, false⟩ [] with started := true, exp := .data [1] false } : Txn))).1.grant = true ∧ (({ newTxn 0 ⟨.rdS, some 0, 0, [], 1, false⟩ [] with started := true, exp := .data [1] false } : Txn)).req.agent = some 0 ∧ wHomesKeepLines30.holdApplies (({ newTxn 0 ⟨.rdS, some 0, 0, [], 1, false⟩ [] with started := true, exp := .data [1] false } : Txn)).slice = true ∧ (finish (({ newTxn 0 ⟨.rdS, some 0, 0, [], 1, false⟩ [] with started := true, exp := .data [1] false } : Txn))).2 = 0 ∧
    wHomesKeepLines31.txn 0 = some (({ newTxn 0 ⟨.rdS, some 0, 0, [], 1, false⟩ [] with started := true, exp := .data [1] false, fail := 2, failAgent := 7 } : Txn)) ∧ ready (({ newTxn 0 ⟨.rdS, some 0, 0, [], 1, false⟩ [] with started := true, exp := .data [1] false, fail := 2, failAgent := 7 } : Txn)) = true ∧ wHomesKeepLines31.homeDown (({ newTxn 0 ⟨.rdS, some 0, 0, [], 1, false⟩ [] with started := true, exp := .data [1] false, fail := 2, failAgent := 7 } : Txn)).slice = false ∧ (finish (({ newTxn 0 ⟨.rdS, some 0, 0, [], 1, false⟩ [] with started := true, exp := .data [1] false, fail := 2, failAgent := 7 } : Txn))).2 ≠ 0 ∧ (finish (({ newTxn 0 ⟨.rdS, some 0, 0, [], 1, false⟩ [] with started := true, exp := .data [1] false, fail := 2, failAgent := 7 } : Txn))).1.next.state = .p ∧ wHomesKeepLines31.get HRT_POISON_LOG.PEND (({ newTxn 0 ⟨.rdS, some 0, 0, [], 1, false⟩ [] with started := true, exp := .data [1] false, fail := 2, failAgent := 7 } : Txn)).slice = 0 ∧
    63 < 64 ∧ wHomesKeepLines32.allocates = true ∧ wHomesKeepLines32.freeCaid = some 1 ∧
    63 < 64 ∧ wHomesKeepLines33.allocates = false ∧ wHomesKeepLines33.caidWait.contains 63 = false ∧
    63 < 64 ∧ wHomesKeepLines34.allocates = false ∧ wHomesKeepLines34.caidWait.contains 63 = true ∧
    2047 < 2048 ∧ wHomesKeepLines35.flag HRT_AGENT.VALID 2047 = false ∧ wHomesKeepLines35.get MGT_FAB_STAT.ROLE_NOW 0 ≠ 3 ∧
    1 < 2048 ∧ wHomesKeepLines36.freeCaid = some 1 ∧ wHomesKeepLines36.get MGT_FAB_STAT.ROLE_NOW 0 = 3 ∧
    2047 < 2048 ∧ wHomesKeepLines37.freeCaid ≠ some 2047 ∧ wHomesKeepLines37.get MGT_FAB_STAT.ROLE_NOW 0 = 3 ∧
    2047 < 2048 ∧ wHomesKeepLines38.flag HRT_AGENT.VALID 2047 = true ∧ wHomesKeepLines38.get MGT_FAB_STAT.ROLE_NOW 0 ≠ 3 ∧
    63 < 64 ∧ wHomesKeepLines39.caidWait.contains 63 = true ∧
    63 < 64 ∧ wHomesKeepLines40.caidWait.contains 63 = false ∧
    2047 < 2048 ∧ wHomesKeepLines41.flag HRT_AGENT.VALID 2047 = true ∧ wHomesKeepLines41.flag HRT_AGENT.REMOVING 2047 = false ∧
    2047 < 2048 ∧ (State.reset.flag HRT_AGENT.VALID 2047 = false ∨ State.reset.flag HRT_AGENT.REMOVING 2047 = true) ∧
    2047 < 2048 ∧ wHomesKeepLines43.flag HRT_AGENT.REMOVING 2047 = true ∧
    2047 < 2048 ∧ State.reset.flag HRT_AGENT.REMOVING 2047 = false ∧
    wHomesKeepLines45.dirAddr ((5 * 2 ^ 24) % 2 ^ 40) = some (0x20000000 + 7 * 0x8000000) ∧ wHomesKeepLines45.txn ((5 * 2 ^ 24) % 2 ^ 40) = none ∧ Tbl.rd (fun _ => 0) wHomesKeepLines45.hbmEcc ((0x20000000 + 7 * 0x8000000) / 64) = 0 ∧
    State.reset.dirAddr ((5 * 2 ^ 24) % 2 ^ 40) = none ∧
    32 ≤ ((0x20020 : Word)).field 10 0 ∧ ((0x20020 : Word)).field 10 0 ≤ 1024 ∧ 2 ≤ ((0x20020 : Word)).field 31 16 ∧
    32 ≤ ((0x20400 : Word)).field 10 0 ∧ ((0x20400 : Word)).field 10 0 ≤ 1024 ∧ 2 ≤ ((0x20400 : Word)).field 31 16 ∧
    (((0x2001F : Word)).field 10 0 < 32 ∨ 1024 < ((0x2001F : Word)).field 10 0 ∨ ((0x2001F : Word)).field 31 16 < 2) ∧
    (((0x20401 : Word)).field 10 0 < 32 ∨ 1024 < ((0x20401 : Word)).field 10 0 ∨ ((0x20401 : Word)).field 31 16 < 2) ∧
    (((0x10020 : Word)).field 10 0 < 32 ∨ 1024 < ((0x10020 : Word)).field 10 0 ∨ ((0x10020 : Word)).field 31 16 < 2) ∧
    15 < 16 := by
  and_intros <;> decide +kernel

def wFmApiAnswers0 : State := wOwner
def wFmApiAnswers1 : State := (wOwner.set PRT_CFG.ROLE0 63 0)
def wFmApiAnswers2 : State := (wOwner.set MGT_OWN_STAT.HELD 0 0)
def wFmApiAnswers3 : State := (wOwner.set PRT_CFG.ROLE0 63 0)
def wFmApiAnswers4 : State := wOwner
def wFmApiAnswers5 : State := (wOwner.setOp 1023 (some ⟨false, 0, 5, none, 127, false⟩))
def wFmApiAnswers6 : State := (wOwner.fmEnded 127 0x5202 .aborted .hostNoAck)
def wFmApiAnswers7 : State := wOwner
def wFmApiAnswers8 : State := wOwner
def wFmApiAnswers9 : State := ((wOwner.set VCS_ENTRY.ACTIVE 63 1).set VCS_ENTRY.DSP_CNT 63 2)
def wFmApiAnswers10 : State := wOwner
def wFmApiAnswers10b : State := wOwner
def wFmApiAnswers11 : State := wOwner
def wFmApiAnswers11b : State := wOwner
def wFmApiAnswers12 : State := wOwner
def wFmApiAnswers12b : State := wOwner
def wFmApiAnswers13 : State := wOwner
def wFmApiAnswers14 : State := (((((wOwner.set VCS_ENTRY.ACTIVE 63 1).set VCS_ENTRY.USP_PORT 63 127).logCxl true 63 [1]).logCxl true 63 [2]).logCxl true 62 [2])
def wFmApiAnswers15 : State := ((wOwner.set VPPB_ENTRY.STATE 1023 1).setOp 1023 (some ⟨false, 1, 5, none, 127, false⟩))
def wFmApiAnswers16 : State := (wOwner.setOp 1023 (some ⟨false, 2, 5, none, 127, false⟩))
def wFmApiAnswers17 : State := (wOwner.set PRT_CFG.ROLE0 63 1)
def wFmApiAnswers18 : State := ((wOwner.set PRT_CFG.ROLE0 63 1).set PRT_LINK_STATUS.DL_UP 126 1)
def wFmApiAnswers19 : State := wOwner
def wFmApiAnswers19b : State := (wOwner.set PRT_CFG.ROLE0 63 0)
def wFmApiAnswers20 : State := wOwner
def wFmApiAnswers21 : State := ((wOwner.set PRT_CXL_STATUS.MLD 126 1).set PRT_CXL_STATUS.LD_CNT 126 16)
def wFmApiAnswers22 : State := ((wOwner.set PRT_CXL_STATUS.MLD 126 1).set PRT_CXL_STATUS.LD_CNT 126 15)
def wFmApiAnswers23 : State := ((wOwner.set MGT_CHIP_INFO.CHIP_ID 0 3).set PRT_CXL_STATUS.MLD 126 1)
def wFmApiAnswers24 : State := (((((wOwner.set MGT_CHIP_INFO.CHIP_ID 0 3).set PRT_CXL_STATUS.MLD 126 1).set VPPB_ENTRY.STATE 1023 2).set VPPB_ENTRY.LD_ID 1023 15).set VPPB_ENTRY.TARGET 1023 (3 * 512 + 126))
def wFmApiAnswers25 : State := wOwner
def wFmApiAnswers26 : State := wOwner
def wFmApiAnswers27 : State := wOwner
def wFmApiAnswers28 : State := wOwner
def wFmApiAnswers29 : State := wOwner
def wFmApiAnswers30 : State := (wOwner.set MGT_OWN_STAT.HELD 0 0)
/-- Hypotheses of FmApiAnswers met. -/
theorem witness_FmApiAnswers :
    127 < 128 ∧ wFmApiAnswers0.reachable 0 = true ∧ wFmApiAnswers0.cciPort 127 = true ∧ 4096 < 4097 ∧
    126 < 128 ∧ wFmApiAnswers1.reachable 0 = true ∧ wFmApiAnswers1.cciPort 126 = true ∧ 4096 ≤ 4096 ∧ wFmApiAnswers1.cciSession 126 = none ∧
    wFmApiAnswers2.CciOpen 127 0 7 ∧ wFmApiAnswers2.owns 7 = false ∧
    126 < 128 ∧ wFmApiAnswers3.reachable 0 = true ∧ wFmApiAnswers3.cciPort 126 = true ∧ 4096 ≤ 4096 ∧
    wFmApiAnswers4.CciOpen 127 4096 7 ∧
    wFmApiAnswers5.CciOpen 127 4096 7 ∧ wFmApiAnswers5.opsRunning.find? (fun x => x.2.cci = 127) = some (1023, ((⟨false, 0, 5, none, 127, false⟩ : BindOp))) ∧
    wFmApiAnswers6.CciOpen 127 4096 7 ∧ wFmApiAnswers6.opsRunning.find? (fun x => x.2.cci = 127) = none ∧ wFmApiAnswers6.dcAdds.find? (fun x => x.who = 127) = none ∧ wFmApiAnswers6.dcReleases.find? (fun x => x.who = 127) = none ∧ Tbl.rd (fun _ => none) wFmApiAnswers6.fmReq.last 127 = some (0x5202, (FmRc.aborted), (FmExt.hostNoAck)) ∧
    wFmApiAnswers7.CciOpen 127 4096 7 ∧ 126 < 128 ∧ 20 ≤ wFmApiAnswers7.limitOf 127 ∧
    wFmApiAnswers8.CciOpen 127 4096 7 ∧ ([3, 128]).any (fun k => decide (128 ≤ k)) = true ∧
    wFmApiAnswers9.CciOpen 127 4096 7 ∧ 63 < 64 ∧ wFmApiAnswers9.flag VCS_ENTRY.ACTIVE 63 = true ∧
    wFmApiAnswers10.CciOpen 127 4096 7 ∧ (64 ≤ 64 ∨ wFmApiAnswers10.flag VCS_ENTRY.ACTIVE 64 = false) ∧
    wFmApiAnswers10b.CciOpen 127 4096 7 ∧ (64 ≤ 63 ∨ wFmApiAnswers10b.flag VCS_ENTRY.ACTIVE 63 = false) ∧
    wFmApiAnswers11.CciOwner 127 4096 7 ∧ 256 ≤ 256 ∧ 256 ≤ 4096 ∧
    wFmApiAnswers11b.CciOwner 127 4096 7 ∧ 256 ≤ 4096 ∧ 4096 ≤ 4096 ∧
    wFmApiAnswers12.CciOwner 127 4096 7 ∧ (255 < 256 ∨ 4096 < 255) ∧
    wFmApiAnswers12b.CciOwner 127 4096 7 ∧ (4097 < 256 ∨ 4096 < 4097) ∧
    wFmApiAnswers13.CciOwner 127 4096 7 ∧
    wFmApiAnswers14.CciOwner 127 4096 7 ∧
    wFmApiAnswers15.CciOwner 127 4096 7 ∧ wFmApiAnswers15.opsRunning.find? (fun x => !x.2.bind && decide (x.2.option < 2) && decide (x.2.cci = 127)) = some (1023, ((⟨false, 1, 5, none, 127, false⟩ : BindOp))) ∧
    wFmApiAnswers16.CciOwner 127 4096 7 ∧ wFmApiAnswers16.opsRunning.find? (fun x => !x.2.bind && decide (x.2.option < 2) && decide (x.2.cci = 127)) = none ∧
    wFmApiAnswers17.CciOwner 127 4096 7 ∧ 126 < 128 ∧ wFmApiAnswers17.role 126 = 1 ∧ 0 < 2 ∧
    wFmApiAnswers18.CciOwner 127 4096 7 ∧ 126 < 128 ∧ wFmApiAnswers18.role 126 = 1 ∧
    wFmApiAnswers19.CciOwner 127 4096 7 ∧ 2 < 3 ∧ (128 ≤ 128 ∨ wFmApiAnswers19.role 128 ≠ 1) ∧
    wFmApiAnswers19b.CciOwner 127 4096 7 ∧ 2 < 3 ∧ (128 ≤ 126 ∨ wFmApiAnswers19b.role 126 ≠ 1) ∧
    wFmApiAnswers20.CciOwner 127 4096 7 ∧ 126 < 128 ∧ wFmApiAnswers20.portExists 126 = true ∧
    wFmApiAnswers21.CciOwner 127 4096 7 ∧ wFmApiAnswers21.servesLd 126 15 = true ∧
    wFmApiAnswers22.CciOwner 127 4096 7 ∧ wFmApiAnswers22.servesLd 126 15 = false ∧
    wFmApiAnswers23.CciOwner 127 4096 7 ∧ (3 * 512 + 126) / 512 = wFmApiAnswers23.get MGT_CHIP_INFO.CHIP_ID 0 ∧ (3 * 512 + 126) % 512 < 128 ∧ wFmApiAnswers23.flag PRT_CXL_STATUS.MLD ((3 * 512 + 126) % 512) = true ∧ ([15]).any (fun x => wFmApiAnswers23.targetBound ((3 * 512 + 126) % 512) (some x)) = false ∧
    wFmApiAnswers24.CciOwner 127 4096 7 ∧ (3 * 512 + 126) / 512 = wFmApiAnswers24.get MGT_CHIP_INFO.CHIP_ID 0 ∧ ([15]).any (fun x => wFmApiAnswers24.targetBound ((3 * 512 + 126) % 512) (some x)) = true ∧
    wFmApiAnswers25.CciOwner 127 4096 7 ∧ 1023 < 1024 ∧
    wFmApiAnswers26.CciOpen 127 4096 7 ∧
    wFmApiAnswers27.CciOpen 127 4096 7 ∧
    wFmApiAnswers28.CciOpen 127 4096 7 ∧ 0xC009 ≠ 0xC000 + 10 % 256 ∧
    7 < 8 ∧ wFmApiAnswers29.reachable (wFmApiAnswers29.get MGT_SESS.PATH 7) = true ∧ wFmApiAnswers29.sesOpen 7 = true ∧ (wFmApiAnswers29.sesAt 7).last = none ∧
    7 < 8 ∧ wFmApiAnswers30.reachable (wFmApiAnswers30.get MGT_SESS.PATH 7) = true ∧ wFmApiAnswers30.sesOpen 7 = true ∧ (wFmApiAnswers30.sesAt 7).last = none ∧ wFmApiAnswers30.owns 7 = false := by
  and_intros <;> decide +kernel

def wBindingsFollow0 : State := ((wOwner.set PRT_CXL_CFG.MLD_EN0 63 1).set PRT_CFG.ROLE0 63 1)
def wBindingsFollow1 : State := wOwner
def wBindingsFollow1b : State := wOwner
def wBindingsFollow2 : State := (wOwner.setOp 1023 (some ⟨false, 0, 5, none, 127, false⟩))
def wBindingsFollow2b : State := (wOwner.setOp 1022 (some ⟨false, 0, 126, none, 127, false⟩))
def wBindingsFollow3 : State := (wOwner.set PRT_CFG.ROLE0 63 0)
def wBindingsFollow3b : State := ((wOwner.set PRT_CFG.ROLE0 63 1).set VPPB_ENTRY.STATE 1023 3)
def wBindingsFollow4 : State := ((wOwner.set PRT_CFG.ROLE0 63 1).set VPPB_ENTRY.STATE 1023 2)
def wBindingsFollow5 : State := (((wOwner.set PRT_CFG.ROLE0 63 1).set VPPB_ENTRY.STATE 1022 2).set VPPB_ENTRY.TARGET 1022 126)
def wBindingsFollow6 : State := ((wOwner.set PRT_CFG.ROLE0 63 1).set FLT_REG_STAT.STATE 3 1)
def wBindingsFollow7 : State := ((((((((wOwner.set PRT_CFG.ROLE0 63 1).set VPPB_ENTRY.VCS 1023 5).set VPPB_ENTRY.VCS 1022 5).set VPPB_ENTRY.STATE 1022 1).set VPPB_ENTRY.TARGET 1022 125).set PRT_CXL_STATUS.CACHE 125 1).set PRT_CXL_STATUS.CACHE 126 1).set PRT_CXL_STATUS.PROTO 127 1)
def wBindingsFollow8 : State := (State.reset.setOp 1023 (some ⟨true, 0, 126, some 15, 127, false⟩))
def wBindingsFollow9 : State := ((State.reset.setOp 1023 (some ⟨true, 0, 126, none, 127, false⟩)).set PRT_LINK_STATUS.DL_UP 126 1)
def wBindingsFollow10 : State := ((State.reset.setOp 1023 (some ⟨true, 0, 126, none, 127, false⟩)).setNi 63 { NiState.idle with code := 3 })
def wBindingsFollow11 : State := ((wOwner.set VPPB_ENTRY.STATE 1023 1).set VPPB_ENTRY.TARGET 1023 126)
def wBindingsFollow11b : State := (((wOwner.set VPPB_ENTRY.STATE 1023 1).set VPPB_ENTRY.TARGET 1023 1126).set VPPB_ENTRY.REMOTE 1023 1)
def wBindingsFollow12 : State := wOwner
def wBindingsFollow13 : State := (wOwner.setOp 1023 (some ⟨false, 0, 5, none, 127, false⟩))
def wBindingsFollow14 : State := ((State.reset.set VPPB_ENTRY.STATE 1023 1).setOp 1023 (some ⟨false, 2, 126, none, 127, false⟩))
def wBindingsFollow14b : State := ((State.reset.set VPPB_ENTRY.STATE 1023 1).setOp 1023 (some ⟨false, 0, 126, none, 127, false⟩))
def wBindingsFollow14c : State := (((State.reset.set VPPB_ENTRY.STATE 1023 1).setOp 1023 (some ⟨false, 1, 126, none, 127, false⟩)).setVppb 1023 { Vppb.idle with powerOff := true, op := some ⟨false, 1, 126, none, 127, false⟩ })
def wBindingsFollow15 : State := ((State.reset.set VPPB_ENTRY.STATE 1023 1).setOp 1023 (some ⟨false, 2, 126, none, 127, false⟩))
def wBindingsFollow16 : State := (((State.reset.set VPPB_ENTRY.STATE 1023 1).set PRT_LINK_STATUS.DL_UP 126 1).setOp 1023 (some ⟨false, 0, 126, none, 127, false⟩))
def wBindingsFollow17 : State := ((State.reset.set VPPB_ENTRY.STATE 1023 1).setOp 1023 (some ⟨false, 1, 126, none, 127, false⟩))
def wBindingsFollow19 : State := (wOwner.set MGT_FAB_STAT.ACTING_MGR 0 1)
def wBindingsFollow20 : State := (wOwner.set MGT_FAB_STAT.ACTING_MGR 0 1)
def wBindingsFollow21 : State := (((wOwner.set MGT_FAB_STAT.ACTING_MGR 0 1).set VPPB_ENTRY.STATE 1023 2).set VPPB_ENTRY.REMOTE 1023 1)
def wBindingsFollow22 : State := (wOwner.set MGT_FAB_STAT.ACTING_MGR 0 1)
def wBindingsFollow23 : State := (wOwner.set MGT_FAB_STAT.ACTING_MGR 0 255)
/-- Hypotheses of BindingsFollow met. -/
theorem witness_BindingsFollow :
    wBindingsFollow0.CciOwner 127 4096 7 ∧ 1023 < 1024 ∧ 126 < 128 ∧ wBindingsFollow0.bindingBusy 1023 126 ((some 15 : Option Nat)) = false ∧ wBindingsFollow0.role 126 = 1 ∧ wBindingsFollow0.portExists 126 = true ∧ wBindingsFollow0.flag VPPB_ENTRY.USP 1023 = false ∧ wBindingsFollow0.get VPPB_ENTRY.STATE 1023 = 0 ∧ wBindingsFollow0.kindSuits 126 ((some 15 : Option Nat)) = true ∧ wBindingsFollow0.targetBound 126 ((some 15 : Option Nat)) = false ∧ wBindingsFollow0.live (126 / 32) = true ∧ wBindingsFollow0.cacheFull 1023 126 = false ∧
    wBindingsFollow1.CciOwner 127 4096 7 ∧ (1024 ≤ 1024 ∨ 128 ≤ 126) ∧
    wBindingsFollow1b.CciOwner 127 4096 7 ∧ (1024 ≤ 1023 ∨ 128 ≤ 128) ∧
    wBindingsFollow2.CciOwner 127 4096 7 ∧ 1023 < 1024 ∧ 126 < 128 ∧ wBindingsFollow2.bindingBusy 1023 126 ((none : Option Nat)) = true ∧
    wBindingsFollow2b.CciOwner 127 4096 7 ∧ 1023 < 1024 ∧ 126 < 128 ∧ wBindingsFollow2b.bindingBusy 1023 126 ((none : Option Nat)) = true ∧
    wBindingsFollow3.CciOwner 127 4096 7 ∧ 1023 < 1024 ∧ 126 < 128 ∧ wBindingsFollow3.bindingBusy 1023 126 ((none : Option Nat)) = false ∧ (wBindingsFollow3.role 126 ≠ 1 ∨ wBindingsFollow3.get VPPB_ENTRY.STATE 1023 = 3 ∨ wBindingsFollow3.flag VPPB_ENTRY.USP 1023 = true ∨ wBindingsFollow3.kindSuits 126 ((none : Option Nat)) = false) ∧
    wBindingsFollow3b.CciOwner 127 4096 7 ∧ 1023 < 1024 ∧ 126 < 128 ∧ wBindingsFollow3b.bindingBusy 1023 126 ((none : Option Nat)) = false ∧ (wBindingsFollow3b.role 126 ≠ 1 ∨ wBindingsFollow3b.get VPPB_ENTRY.STATE 1023 = 3 ∨ wBindingsFollow3b.flag VPPB_ENTRY.USP 1023 = true ∨ wBindingsFollow3b.kindSuits 126 ((none : Option Nat)) = false) ∧
    wBindingsFollow4.CciOwner 127 4096 7 ∧ 1023 < 1024 ∧ 126 < 128 ∧ wBindingsFollow4.bindingBusy 1023 126 none = false ∧ wBindingsFollow4.role 126 = 1 ∧ wBindingsFollow4.portExists 126 = true ∧ wBindingsFollow4.flag VPPB_ENTRY.USP 1023 = false ∧ wBindingsFollow4.kindSuits 126 none = true ∧ (wBindingsFollow4.get VPPB_ENTRY.STATE 1023 = 1 ∨ wBindingsFollow4.get VPPB_ENTRY.STATE 1023 = 2) ∧
    wBindingsFollow5.CciOwner 127 4096 7 ∧ 1023 < 1024 ∧ 126 < 128 ∧ wBindingsFollow5.bindingBusy 1023 126 none = false ∧ wBindingsFollow5.role 126 = 1 ∧ wBindingsFollow5.portExists 126 = true ∧ wBindingsFollow5.flag VPPB_ENTRY.USP 1023 = false ∧ wBindingsFollow5.kindSuits 126 none = true ∧ wBindingsFollow5.get VPPB_ENTRY.STATE 1023 = 0 ∧ wBindingsFollow5.targetBound 126 none = true ∧
    wBindingsFollow6.CciOwner 127 4096 7 ∧ 1023 < 1024 ∧ 126 < 128 ∧ wBindingsFollow6.bindingBusy 1023 126 none = false ∧ wBindingsFollow6.role 126 = 1 ∧ wBindingsFollow6.portExists 126 = true ∧ wBindingsFollow6.flag VPPB_ENTRY.USP 1023 = false ∧ wBindingsFollow6.kindSuits 126 none = true ∧ wBindingsFollow6.get VPPB_ENTRY.STATE 1023 = 0 ∧ wBindingsFollow6.targetBound 126 none = false ∧ wBindingsFollow6.live (126 / 32) = false ∧
    wBindingsFollow7.CciOwner 127 4096 7 ∧ 1023 < 1024 ∧ 126 < 128 ∧ wBindingsFollow7.bindingBusy 1023 126 none = false ∧ wBindingsFollow7.role 126 = 1 ∧ wBindingsFollow7.portExists 126 = true ∧ wBindingsFollow7.flag VPPB_ENTRY.USP 1023 = false ∧ wBindingsFollow7.kindSuits 126 none = true ∧ wBindingsFollow7.get VPPB_ENTRY.STATE 1023 = 0 ∧ wBindingsFollow7.targetBound 126 none = false ∧ wBindingsFollow7.live (126 / 32) = true ∧ wBindingsFollow7.cacheFull 1023 126 = true ∧
    1023 < 1024 ∧ (wBindingsFollow8.vppb 1023).op = some ((⟨true, 0, 126, some 15, 127, false⟩ : BindOp)) ∧ ((⟨true, 0, 126, some 15, 127, false⟩ : BindOp)).bind = true ∧ ((wBindingsFollow8.niAt (((⟨true, 0, 126, some 15, 127, false⟩ : BindOp)).target / 2)).triggers.isEmpty && wBindingsFollow8.quenched (((⟨true, 0, 126, some 15, 127, false⟩ : BindOp)).target / 2)) = false ∧
    1023 < 1024 ∧ (wBindingsFollow9.vppb 1023).op = some ((⟨true, 0, 126, none, 127, false⟩ : BindOp)) ∧ ((⟨true, 0, 126, none, 127, false⟩ : BindOp)).bind = true ∧ ((wBindingsFollow9.niAt (((⟨true, 0, 126, none, 127, false⟩ : BindOp)).target / 2)).triggers.isEmpty && wBindingsFollow9.quenched (((⟨true, 0, 126, none, 127, false⟩ : BindOp)).target / 2)) = false ∧ wBindingsFollow9.flag PRT_LINK_STATUS.DL_UP ((⟨true, 0, 126, none, 127, false⟩ : BindOp)).target = true ∧
    1023 < 1024 ∧ (wBindingsFollow10.vppb 1023).op = some ((⟨true, 0, 126, none, 127, false⟩ : BindOp)) ∧ (((⟨true, 0, 126, none, 127, false⟩ : BindOp)).bind = false ∨ ((wBindingsFollow10.niAt (((⟨true, 0, 126, none, 127, false⟩ : BindOp)).target / 2)).triggers.isEmpty && wBindingsFollow10.quenched (((⟨true, 0, 126, none, 127, false⟩ : BindOp)).target / 2)) = true) ∧
    wBindingsFollow11.CciOwner 127 4096 7 ∧ 1023 < 1024 ∧ 1 < 3 ∧ wBindingsFollow11.flag VPPB_ENTRY.USP 1023 = false ∧ wBindingsFollow11.get VPPB_ENTRY.STATE 1023 = 1 ∧ (wBindingsFollow11.vppb 1023).op = none ∧ wBindingsFollow11.bindingBusy 1023 (wBindingsFollow11.targetOf 1023) none = false ∧
    wBindingsFollow11b.CciOwner 127 4096 7 ∧ 1023 < 1024 ∧ 0 < 3 ∧ wBindingsFollow11b.flag VPPB_ENTRY.USP 1023 = false ∧ wBindingsFollow11b.get VPPB_ENTRY.STATE 1023 = 1 ∧ (wBindingsFollow11b.vppb 1023).op = none ∧ wBindingsFollow11b.bindingBusy 1023 (wBindingsFollow11b.targetOf 1023) none = false ∧
    wBindingsFollow12.CciOwner 127 4096 7 ∧ 1023 < 1024 ∧ 2 < 3 ∧ wBindingsFollow12.flag VPPB_ENTRY.USP 1023 = false ∧ wBindingsFollow12.get VPPB_ENTRY.STATE 1023 = 0 ∧ (wBindingsFollow12.vppb 1023).op = none ∧
    wBindingsFollow13.CciOwner 127 4096 7 ∧ 1023 < 1024 ∧ 2 < 3 ∧ (wBindingsFollow13.vppb 1023).op.isSome = true ∧
    1023 < 1024 ∧ (wBindingsFollow14.vppb 1023).op = some ((⟨false, 2, 126, none, 127, false⟩ : BindOp)) ∧ ((⟨false, 2, 126, none, 127, false⟩ : BindOp)).bind = false ∧ (((⟨false, 2, 126, none, 127, false⟩ : BindOp)).option = 2 ∨ ((⟨false, 2, 126, none, 127, false⟩ : BindOp)).option = 0 ∧ wBindingsFollow14.targetDown ((⟨false, 2, 126, none, 127, false⟩ : BindOp)).target = true ∨ ((⟨false, 2, 126, none, 127, false⟩ : BindOp)).option = 1 ∧ (wBindingsFollow14.vppb 1023).powerOff = true) ∧
    1023 < 1024 ∧ (wBindingsFollow14b.vppb 1023).op = some ((⟨false, 0, 126, none, 127, false⟩ : BindOp)) ∧ ((⟨false, 0, 126, none, 127, false⟩ : BindOp)).bind = false ∧ (((⟨false, 0, 126, none, 127, false⟩ : BindOp)).option = 2 ∨ ((⟨false, 0, 126, none, 127, false⟩ : BindOp)).option = 0 ∧ wBindingsFollow14b.targetDown ((⟨false, 0, 126, none, 127, false⟩ : BindOp)).target = true ∨ ((⟨false, 0, 126, none, 127, false⟩ : BindOp)).option = 1 ∧ (wBindingsFollow14b.vppb 1023).powerOff = true) ∧
    1023 < 1024 ∧ (wBindingsFollow14c.vppb 1023).op = some ((⟨false, 1, 126, none, 127, false⟩ : BindOp)) ∧ ((⟨false, 1, 126, none, 127, false⟩ : BindOp)).bind = false ∧ (((⟨false, 1, 126, none, 127, false⟩ : BindOp)).option = 2 ∨ ((⟨false, 1, 126, none, 127, false⟩ : BindOp)).option = 0 ∧ wBindingsFollow14c.targetDown ((⟨false, 1, 126, none, 127, false⟩ : BindOp)).target = true ∨ ((⟨false, 1, 126, none, 127, false⟩ : BindOp)).option = 1 ∧ (wBindingsFollow14c.vppb 1023).powerOff = true) ∧
    1023 < 1024 ∧ (wBindingsFollow15.vppb 1023).op = some ((⟨false, 2, 126, none, 127, false⟩ : BindOp)) ∧ ((⟨false, 2, 126, none, 127, false⟩ : BindOp)).bind = false ∧ ((⟨false, 2, 126, none, 127, false⟩ : BindOp)).option = 2 ∧ ((⟨false, 2, 126, none, 127, false⟩ : BindOp)).target < 128 ∧
    1023 < 1024 ∧ (wBindingsFollow16.vppb 1023).op = some ((⟨false, 0, 126, none, 127, false⟩ : BindOp)) ∧ ((⟨false, 0, 126, none, 127, false⟩ : BindOp)).bind = false ∧ (((⟨false, 0, 126, none, 127, false⟩ : BindOp)).option = 0 ∧ wBindingsFollow16.targetDown ((⟨false, 0, 126, none, 127, false⟩ : BindOp)).target = false ∨ ((⟨false, 0, 126, none, 127, false⟩ : BindOp)).option = 1 ∧ (wBindingsFollow16.vppb 1023).powerOff = false) ∧
    1023 < 1024 ∧ (wBindingsFollow17.vppb 1023).op = some ((⟨false, 1, 126, none, 127, false⟩ : BindOp)) ∧ ((⟨false, 1, 126, none, 127, false⟩ : BindOp)).bind = false ∧ ((⟨false, 1, 126, none, 127, false⟩ : BindOp)).option = 1 ∧
    1023 < 1024 ∧ (State.reset.vppb 1023).op = none ∧
    7 < 8 ∧ 1023 < 1024 ∧ wBindingsFollow19.reachable (wBindingsFollow19.get MGT_SESS.PATH 7) = true ∧ wBindingsFollow19.sesOpen 7 = true ∧ (wBindingsFollow19.sesAt 7).last = none ∧ wBindingsFollow19.owns 7 = true ∧ wBindingsFollow19.get MGT_FAB_STAT.ACTING_MGR 0 ≠ 0xFF ∧ wBindingsFollow19.get MGT_FAB_STAT.MIXED 0 = 0 ∧ (wBindingsFollow19.vppb 1023).op = none ∧ wBindingsFollow19.flag VPPB_ENTRY.USP 1023 = false ∧ wBindingsFollow19.get VPPB_ENTRY.STATE 1023 = 0 ∧ (131071 - 384) % 2 ^ 17 / 512 ≠ wBindingsFollow19.get MGT_CHIP_INFO.CHIP_ID 0 ∧ (131071 - 384) % 512 < 128 ∧ (((some 15 : Option Nat)).any fun l => decide (16 ≤ l)) = false ∧ ((∀ w ∈ wBindingsFollow19.listed .VPPB_ENTRY, wBindingsFollow19.flag VPPB_ENTRY.REMOTE w = true → wBindingsFollow19.get VPPB_ENTRY.TARGET w ≠ (131071 - 384) % 2 ^ 17)) ∧
    7 < 8 ∧ 1023 < 1024 ∧ wBindingsFollow20.reachable (wBindingsFollow20.get MGT_SESS.PATH 7) = true ∧ wBindingsFollow20.sesOpen 7 = true ∧ (wBindingsFollow20.sesAt 7).last = none ∧ wBindingsFollow20.owns 7 = true ∧ wBindingsFollow20.get MGT_FAB_STAT.ACTING_MGR 0 ≠ 0xFF ∧ wBindingsFollow20.get MGT_FAB_STAT.MIXED 0 = 0 ∧ (wBindingsFollow20.vppb 1023).op = none ∧ wBindingsFollow20.flag VPPB_ENTRY.USP 1023 = false ∧ wBindingsFollow20.get VPPB_ENTRY.STATE 1023 = 0 ∧ (131071 - 384) % 2 ^ 17 / 512 ≠ wBindingsFollow20.get MGT_CHIP_INFO.CHIP_ID 0 ∧ (131071 - 384) % 512 < 128 ∧ (((some 15 : Option Nat)).any fun l => decide (16 ≤ l)) = false ∧ ((∀ w ∈ wBindingsFollow20.listed .VPPB_ENTRY, wBindingsFollow20.flag VPPB_ENTRY.REMOTE w = true → wBindingsFollow20.get VPPB_ENTRY.TARGET w ≠ (131071 - 384) % 2 ^ 17)) ∧ ((FmExt.targetBound) = .roleMismatch ∨ (FmExt.targetBound) = .targetBound ∨ (FmExt.targetBound) = .regionFenced) ∧
    7 < 8 ∧ 1023 < 1024 ∧ wBindingsFollow21.reachable (wBindingsFollow21.get MGT_SESS.PATH 7) = true ∧ wBindingsFollow21.sesOpen 7 = true ∧ (wBindingsFollow21.sesAt 7).last = none ∧ wBindingsFollow21.owns 7 = true ∧ wBindingsFollow21.get MGT_FAB_STAT.ACTING_MGR 0 ≠ 0xFF ∧ (wBindingsFollow21.vppb 1023).op = none ∧ wBindingsFollow21.flag VPPB_ENTRY.USP 1023 = false ∧ (wBindingsFollow21.get VPPB_ENTRY.STATE 1023 = 1 ∨ wBindingsFollow21.get VPPB_ENTRY.STATE 1023 = 2) ∧
    7 < 8 ∧ 1023 < 1024 ∧ wBindingsFollow22.reachable (wBindingsFollow22.get MGT_SESS.PATH 7) = true ∧ wBindingsFollow22.sesOpen 7 = true ∧ (wBindingsFollow22.sesAt 7).last = none ∧ wBindingsFollow22.owns 7 = true ∧ wBindingsFollow22.get MGT_FAB_STAT.ACTING_MGR 0 ≠ 0xFF ∧
    7 < 8 ∧ 1023 < 1024 ∧ wBindingsFollow23.reachable (wBindingsFollow23.get MGT_SESS.PATH 7) = true ∧ wBindingsFollow23.sesOpen 7 = true ∧ (wBindingsFollow23.sesAt 7).last = none ∧ wBindingsFollow23.owns 7 = true ∧ wBindingsFollow23.get MGT_FAB_STAT.ACTING_MGR 0 = 0xFF ∧ wBindingsFollow23.get MGT_FAB_STAT.ROLE_NOW 0 ≠ 3 := by
  and_intros <;> decide +kernel

def wCapacityAndLinks0 : State := ({ ((wOwner.set VCS_ENTRY.ACTIVE 63 1).set VCS_ENTRY.POOL 63 1) with dcRegion := [(9, some 511)] } : State)
def wCapacityAndLinks1 : State := wOwner
def wCapacityAndLinks2 : State := ((wOwner.set VCS_ENTRY.ACTIVE 63 1).set VCS_ENTRY.POOL 63 1)
def wCapacityAndLinks3 : State := ((((wOwner.set VCS_ENTRY.ACTIVE 63 1).set VCS_ENTRY.POOL 63 1).set L1_W0.POOLABLE 9 1).set L1_W0.POOLABLE 7 1)
def wCapacityAndLinks4 : State := (((wOwner.set VCS_ENTRY.ACTIVE 63 1).set VCS_ENTRY.POOL 63 1).set L1_W0.POOLABLE 9 1)
def wCapacityAndLinks5 : State := ({ State.reset with dcAdds := [⟨63, 7, [9, 10], 127, []⟩] } : State)
def wCapacityAndLinks6 : State := ({ State.reset with dcAdds := [⟨63, 7, [9, 10], 127, []⟩] } : State)
def wCapacityAndLinks8 : State := ({ ((wOwner.set VCS_ENTRY.ACTIVE 63 1).set VCS_ENTRY.POOL 63 1) with dcRegion := [(7, some 511), (9, some 511)] } : State)
def wCapacityAndLinks9 : State := ((wOwner.set VCS_ENTRY.ACTIVE 63 1).set VCS_ENTRY.POOL 63 1)
def wCapacityAndLinks10 : State := ({ (((State.reset.set L1_W1.RELEASING 65535 1).set L1_W0.HELD 65535 1).set L1_W0.FRACT 65535 1) with dcRegion := [(65535, some 511)] } : State)
def wCapacityAndLinks11 : State := ({ (State.reset.set L1_W1.RELEASING 65535 1) with migWait := [65535] } : State)
def wCapacityAndLinks15 : State := (((((({ ((((State.reset.set VCS_ENTRY.USP_PORT 63 126).set PRT_CXL_STATUS.PROTO 126 2).set PRT_CXL_STATUS.BI 126 1).set VCS_ENTRY.BI_EN 63 1) with biDecoder := [(63, true)] } : State).set VCS_ENTRY.ACTIVE 63 1).set HRT_AGENT.VALID 5 1).set VCS_ENTRY.CAID 63 5).set HRT_AGENT.LOCAL 5 1).set HRT_AGENT.PORT_FEID 5 126)
def wCapacityAndLinks18 : State := ((((((State.reset.set PRT_CFG.MODE 63 2).set PRT_CFG.ROLE0 63 1).set PRT_LINK_STATUS.DL_UP 126 1).set VPPB_ENTRY.STATE 1023 1).set VPPB_ENTRY.TARGET 1023 126).set VPPB_ENTRY.PRESENT 1023 1)
def wCapacityAndLinks20 : State := ((State.reset.set PRT_LINK_STATUS.DL_UP 126 1).set PRT_CXL_STATUS.IDE_CM 126 2)
def wCapacityAndLinks21 : State := ((((State.reset.set PRT_CXL_STATUS.PROTO 126 2).set PRT_CXL_CFG.IDE_POL0 63 2).set KEY_TRNG_STAT.READY 0 1).set KEY_STAT.REC_VALID 0 1)
def wCapacityAndLinks24 : State := ({ State.reset with portHold := [(127, [PortMsg.request sampleReq])] } : State)
def wCapacityAndLinks24b : State := (State.reset.set PRT_CXL_CFG.IDE_POL1 63 2)
def wCapacityAndLinks25 : State := (State.reset.set PRT_CFG.ROLE1 63 1)
/-- Hypotheses of CapacityAndLinks met. -/
theorem witness_CapacityAndLinks :
    wCapacityAndLinks0.CciOpen 127 4096 7 ∧ wCapacityAndLinks0.hasPool 63 = true ∧
    wCapacityAndLinks1.CciOpen 127 4096 7 ∧ wCapacityAndLinks1.hasPool 64 = false ∧
    wCapacityAndLinks2.CciOwner 127 4096 7 ∧ wCapacityAndLinks2.hasPool 63 = true ∧ 7 < 8 ∧
    wCapacityAndLinks3.CciOwner 127 4096 7 ∧ wCapacityAndLinks3.hasPool 63 = true ∧ 7 < 8 ∧ 0 < 2 ∧ 2 ≤ (wCapacityAndLinks3.freePool 63).length ∧
    wCapacityAndLinks4.CciOwner 127 4096 7 ∧ wCapacityAndLinks4.hasPool 63 = true ∧ 7 < 8 ∧ 0 < 2 ∧ (wCapacityAndLinks4.freePool 63).length < 2 ∧
    63 < 64 ∧ 7 < 8 ∧ wCapacityAndLinks5.dcAddOf 63 7 = some ((⟨63, 7, [9, 10], 127, []⟩ : DcAdd)) ∧ ((⟨63, 7, [9, 10], 127, []⟩ : DcAdd)).later = [] ∧
    63 < 64 ∧ 7 < 8 ∧ wCapacityAndLinks6.dcAddOf 63 7 = some ((⟨63, 7, [9, 10], 127, []⟩ : DcAdd)) ∧ ((⟨63, 7, [9, 10], 127, []⟩ : DcAdd)).later = [] ∧
    63 < 64 ∧ 7 < 8 ∧ State.reset.dcAddOf 63 7 = none ∧
    wCapacityAndLinks8.CciOwner 127 4096 7 ∧ wCapacityAndLinks8.hasPool 63 = true ∧ 7 < 8 ∧ (([9, 7] : List Nat)) ≠ [] ∧ (([9, 7] : List Nat)).Nodup ∧ ((∀ i ∈ (([9, 7] : List Nat)), Tbl.rd (fun _ => none) wCapacityAndLinks8.dcRegion i = some (8 * 63 + 7) ∧ wCapacityAndLinks8.flag L1_W1.RELEASING i = false)) ∧
    wCapacityAndLinks9.CciOwner 127 4096 7 ∧ (wCapacityAndLinks9.hasPool 63 = false ∨ 8 ≤ 7 ∨ (([] : List Nat)) = []) ∧
    wCapacityAndLinks10.flag L1_W1.RELEASING 65535 = true ∧ wCapacityAndLinks10.migrating 65535 = false ∧ wCapacityAndLinks10.fillDue.contains 65535 = false ∧
    (wCapacityAndLinks11.flag L1_W1.RELEASING 65535 = false ∨ wCapacityAndLinks11.migrating 65535 = true ∨ wCapacityAndLinks11.fillDue.contains 65535 = true) ∧
    63 < 64 ∧ 15 < 16 ∧ (((⟨0, 1, 1, 0, [], 0, false, true, true⟩ : HdmDecoder)).committed = false ∨ 8 ≤ 15 ∧ ((⟨0, 1, 1, 0, [], 0, false, true, true⟩ : HdmDecoder)).db = false ∨ 15 < 8 ∧ State.reset.decoderSupported 63 ((⟨0, 1, 1, 0, [], 0, false, true, true⟩ : HdmDecoder)) = true) ∧
    63 < 64 ∧ 8 < 16 ∧ (((⟨0, 1, 1, 0, [], 0, false, true, true⟩ : HdmDecoder)).committed = false ∨ 8 ≤ 8 ∧ ((⟨0, 1, 1, 0, [], 0, false, true, true⟩ : HdmDecoder)).db = false ∨ 8 < 8 ∧ State.reset.decoderSupported 63 ((⟨0, 1, 1, 0, [], 0, false, true, true⟩ : HdmDecoder)) = true) ∧
    63 < 64 ∧ 7 < 8 ∧ ((⟨0, 1, 5, 0, [], 0, false, true, false⟩ : HdmDecoder)).committed = true ∧ State.reset.decoderSupported 63 ((⟨0, 1, 5, 0, [], 0, false, true, false⟩ : HdmDecoder)) = false ∧
    63 < 64 ∧ 8 ≤ 15 ∧ 15 < 16 ∧ ((⟨0, 1, 1, 0, [], 0, true, true, false⟩ : HdmDecoder)).committed = true ∧ ((⟨0, 1, 1, 0, [], 0, true, true, false⟩ : HdmDecoder)).db = true ∧ State.reset.get PRT_CXL_STATUS.PROTO (State.reset.get VCS_ENTRY.USP_PORT 63) ≠ 2 ∧
    63 < 64 ∧ 8 ≤ 15 ∧ 15 < 16 ∧ ((⟨0, 1, 1, 0, [], 0, true, true, true⟩ : HdmDecoder)).committed = true ∧ ((⟨0, 1, 1, 0, [], 0, true, true, true⟩ : HdmDecoder)).db = true ∧ wCapacityAndLinks15.get PRT_CXL_STATUS.PROTO (wCapacityAndLinks15.get VCS_ENTRY.USP_PORT 63) = 2 ∧ wCapacityAndLinks15.flag PRT_CXL_STATUS.BI (wCapacityAndLinks15.get VCS_ENTRY.USP_PORT 63) = true ∧ wCapacityAndLinks15.flag VCS_ENTRY.BI_EN 63 = true ∧ Tbl.rd (fun _ => false) wCapacityAndLinks15.biDecoder 63 = true ∧ wCapacityAndLinks15.agentAdmitted 63 = true ∧
    63 < 64 ∧
    63 < 64 ∧
    126 < 128 ∧ wCapacityAndLinks18.role 126 = 1 ∧ wCapacityAndLinks18.flag PRT_LINK_STATUS.DL_UP 126 = true ∧
    126 < 128 ∧ State.reset.flag PRT_LINK_STATUS.DL_UP 126 = false ∧
    126 < 128 ∧
    126 < 128 ∧ wCapacityAndLinks21.role 126 ≤ 1 ∧ wCapacityAndLinks21.get PRT_CXL_STATUS.PROTO 126 = 2 ∧ wCapacityAndLinks21.idePol 126 ≠ 0 ∧ wCapacityAndLinks21.flag KEY_TRNG_STAT.READY 0 = true ∧ wCapacityAndLinks21.flag KEY_STAT.REC_VALID 0 = true ∧
    126 < 128 ∧ (1 < State.reset.role 126 ∨ State.reset.get PRT_CXL_STATUS.PROTO 126 ≠ 2 ∨ State.reset.idePol 126 = 0 ∨ State.reset.flag KEY_TRNG_STAT.READY 0 = false ∨ State.reset.flag KEY_STAT.REC_VALID 0 = false) ∧
    127 < 128 ∧ State.reset.mustWait 127 (.request (({ sampleReq with proto := .mem, tag := 9 } : MemReq))) = false ∧ State.reset.keptAt 127 = [] ∧
    127 < 128 ∧ (wCapacityAndLinks24.mustWait 127 ((PortMsg.request { sampleReq with proto := .mem, tag := 9 })) = true ∨ wCapacityAndLinks24.keptAt 127 ≠ []) ∧
    127 < 128 ∧ (wCapacityAndLinks24b.mustWait 127 ((PortMsg.response { samplePkt with cls := 2 } 7)) = true ∨ wCapacityAndLinks24b.keptAt 127 ≠ []) ∧
    127 < 128 ∧ wCapacityAndLinks25.role 127 = 1 ∧ wCapacityAndLinks25.mustWait 127 (.response samplePkt 7) = false ∧ wCapacityAndLinks25.keptAt 127 = [] ∧
    127 < 128 := by
  and_intros <;> decide +kernel

def wGranulesMove0 : State := ({ State.reset with hot := { HotState.idle with due := [(2, samplePart, true)] } } : State)
def wGranulesMove1 : State := ({ State.reset with hot := { HotState.idle with due := [(3, samplePart, true)] } } : State)
def wGranulesMove2 : State := ({ State.reset with hot := { HotState.idle with coalesce := [(3, List.replicate 64 (5, 1))], due := [(3, samplePart, true)] } } : State)
def wGranulesMove3 : State := (({ State.reset with hot := { HotState.idle with due := [(3, samplePart, false)] } } : State).set RMP_HOT_CFG.SAMPLE_LOG2 0 0)
def wGranulesMove4 : State := (({ State.reset with hot := { HotState.idle with sample := [(3, 7)], due := [(3, samplePart, false)] } } : State).set RMP_HOT_CFG.SAMPLE_LOG2 0 3)
def wGranulesMove5 : State := ({ State.reset with hot := { HotState.idle with coalesce := [(3, [(16 * 9 + 5, 2)])] } } : State)
def wGranulesMove7 : State := ((({ State.reset with hot := { HotState.idle with ready := true, act := 2 } } : State).set RMP_HOT_CFG.EN 0 1).addHot 0 1 (9, 3))
def wGranulesMove8 : State := (({ State.reset with hot := { HotState.idle with ready := true, flushing := true } } : State).set RMP_HOT_CFG.EN 0 1)
def wGranulesMove9 : State := (({ State.reset with hot := { HotState.idle with ready := true, flushing := true, act := 2, old := [(5, [(9, 3), (10, 2)])] } } : State).set RMP_HOT_STAT.EPOCH 0 (2 ^ 32 - 1))
def wGranulesMove12 : State := (State.reset.set RMP_HOT_CFG.EN 0 1)
def wGranulesMove14 : State := ({ (((((State.reset.set L1_W0.VALID 0 1).set L1_W0.FRACT 0 1).setL2 0 (l2Word true 5 0 9)).set PRT_CFG.MODE 63 1).set PRT_CFG.ROLE0 63 1) with engines := [(127, { Engine.idle with job := some (sampleRun [5, 0, 0, 0, 0, l2Word true 126 0 7]) })] } : State)
def wGranulesMove15 : State := ({ State.reset with engines := [(127, { Engine.idle with job := some (sampleRun [5, 0, 0, 0, 0, l2Word true 126 0 7]) })] } : State)
def wGranulesMove16 : State := ({ State.reset with drains := [18] } : State)
def wGranulesMove17 : State := ({ State.reset with drains := [19], accesses := [⟨19, true, 0, 0, none⟩] } : State)
def wGranulesMove18 : State := (({ State.reset with drains := [19], migs := [(31, some ⟨0, 0, false, false, [19], false, [], 0, 0, 0, 0, 0, false, false, 0⟩)] } : State).set RMP_MIG_SLOT0.PHASE 31 1)
def wGranulesMove19 : State := ((({ State.reset with migs := [(31, some ⟨0, 0, false, false, [], true, [], 0, 0, 0, 0, 0, false, false, 0⟩)] } : State).set RMP_MIG_SLOT0.PHASE 31 2).set RMP_MIG_SLOT0.PASS 31 15)
def wGranulesMove20 : State := ((({ State.reset with migs := [(31, some ⟨0, 0, false, false, [], true, [], 0, 0, 0, 0, 0, false, false, (word (1 + 2 * 2 ^ 22))⟩)], migMaps := [(31, [5, 6])] } : State).set RMP_MIG_SLOT0.PHASE 31 2).set RMP_MIG_SLOT0.PASS 31 15)
def wGranulesMove21 : State := ((({ State.reset with migs := [(31, some ⟨0, 0, false, false, [], true, [], 0, 0, 0, 0, 0, false, false, (word (1 + 2 * 2 ^ 22))⟩)], migMaps := [(31, [5, 6])] } : State).set RMP_MIG_SLOT0.PHASE 31 2).set RMP_MIG_SLOT0.PASS 31 0)
def wGranulesMove22 : State := (({ State.reset with migs := [(31, some ⟨0, 0, false, false, [], true, [], 0, 0, 0, 0, 0, false, false, 0⟩)] } : State).set RMP_MIG_SLOT0.PHASE 31 3)
def wGranulesMove23 : State := (({ State.reset with migs := [(31, some ⟨0, 0, false, false, [], false, [], 0, 0, 7, 0, 0, false, false, (word (2 * 2 ^ 26))⟩)] } : State).set RMP_MIG_SLOT0.PHASE 31 3)
def wGranulesMove24 : State := (({ State.reset with migs := [(31, some ⟨0, 0, false, false, [], false, [], 0, 1, 7, 0, 0, false, false, (word (2 * 2 ^ 26))⟩)] } : State).set RMP_MIG_SLOT0.PHASE 31 3)
def wGranulesMove25 : State := ((({ State.reset with migs := [(31, some ⟨0, 0, false, false, [], true, [], 0, 1, 7, 0, 0, false, false, 0⟩)] } : State).set RMP_MIG_SLOT0.PHASE 31 3).setReg .RMP_MIG_SLOT1 31 (l2Word true 126 0 7))
def wGranulesMove26 : State := ((({ State.reset with migs := [(31, some ⟨0, 0, false, false, [], true, [], 0, 1, 7, 0, 0, true, false, 0⟩)] } : State).set RMP_MIG_SLOT0.PHASE 31 5).set RMP_MIG_STAT.SLOTS_USED 0 1)
def wGranulesMove27 : State := (({ State.reset with migs := [(31, some ⟨0, 0, false, false, [], true, [], 0, 1, 7, 0, 0, false, false, 0⟩)] } : State).set RMP_MIG_SLOT0.PHASE 31 2)
def wGranulesMove28 : State := (({ State.reset with migs := [(31, some ⟨0, 0, false, false, [], true, [], 0, 1, 7, 0, 0, false, false, 0⟩)] } : State).set RMP_MIG_SLOT0.PHASE 31 2)
def wGranulesMove29 : State := (((({ State.reset with migs := [(31, some ⟨0, 0, false, false, [], true, [], 0, 1, 7, 0, 0, false, false, 0⟩)] } : State).set RMP_MIG_SLOT0.PHASE 31 2).set RMP_MIG_SLOT0.ENGINE 31 127).set FLT_REG_STAT.STATE 3 1)
def wGranulesMove30 : State := ((({ State.reset with migs := [(31, some ⟨0, 0, false, false, [], true, [], 0, 1, 7, 0, 0, false, false, 0⟩)] } : State).set RMP_MIG_SLOT0.PHASE 31 2).set PRT_LINK_STATUS.DL_UP 0 1)
def wGranulesMove31 : State := (({ State.reset with migs := [(31, some ⟨0, 0, false, false, [], true, [], 0, 1, 7, 0, 0, true, false, 0⟩)] } : State).set RMP_MIG_SLOT0.PHASE 31 5)
def wGranulesMove32 : State := (((({ State.reset with migs := [(31, some ⟨0, 0, false, false, [], true, [], 0, 1, 7, 0, 0, false, false, 0⟩)] } : State).set RMP_MIG_SLOT0.PHASE 31 2).set RMP_MIG_SLOT0.L1_IDX 31 9).set L1_W1.RELEASING 9 1)
/-- Hypotheses of GranulesMove met. -/
theorem witness_GranulesMove :
    3 < 4 ∧ wGranulesMove0.hot.due.find? (fun y => y.1 = 3) = none ∧
    3 < 4 ∧ wGranulesMove1.hot.due.find? (fun y => y.1 = 3) = some (3, samplePart, true) ∧ (wGranulesMove1.coalescing 3).any (fun y => y.1 / 16 = partGranule samplePart) = false ∧ (wGranulesMove1.coalescing 3).length < 64 ∧
    3 < 4 ∧ wGranulesMove2.hot.due.find? (fun y => y.1 = 3) = some (3, samplePart, true) ∧ (wGranulesMove2.coalescing 3).any (fun y => y.1 / 16 = partGranule samplePart) = false ∧ 64 ≤ (wGranulesMove2.coalescing 3).length ∧
    3 < 4 ∧ wGranulesMove3.hot.due.find? (fun y => y.1 = 3) = some (3, samplePart, false) ∧ 2 ^ wGranulesMove3.get RMP_HOT_CFG.SAMPLE_LOG2 0 ≤ Tbl.rd (fun _ => 0) wGranulesMove3.hot.sample 3 + 1 ∧
    3 < 4 ∧ wGranulesMove4.hot.due.find? (fun y => y.1 = 3) = some (3, samplePart, false) ∧ 2 ^ wGranulesMove4.get RMP_HOT_CFG.SAMPLE_LOG2 0 ≤ Tbl.rd (fun _ => 0) wGranulesMove4.hot.sample 3 + 1 ∧ wGranulesMove4.homeDown (homeSlice (samplePart.poa.getD 0 % 2 ^ 46)) = false ∧ Tbl.rd (fun _ => []) wGranulesMove4.hot.combine (homeSlice (samplePart.poa.getD 0 % 2 ^ 46)) = [] ∧
    3 < 4 ∧ (wGranulesMove5.coalescing 3).find? (fun y => y.1 / 16 = 9) = some (((16 * 9 + 5, 2) : Nat × Nat)) ∧ Tbl.rd (fun _ => []) wGranulesMove5.hot.waiting 3 = [] ∧
    3 < 4 ∧ (State.reset.coalescing 3).find? (fun x => x.1 / 16 = 9) = none ∧
    wGranulesMove7.flag RMP_HOT_CFG.EN 0 = true ∧ wGranulesMove7.hot.ready = true ∧ wGranulesMove7.hot.flushing = false ∧ 9 < 2 ^ 25 ∧
    (wGranulesMove8.flag RMP_HOT_CFG.EN 0 = false ∨ wGranulesMove8.hot.ready = false ∨ wGranulesMove8.hot.flushing = true) ∧
    wGranulesMove9.hot.flushing = true ∧
    State.reset.hot.flushing = false ∧
    wGranulesMove12.flag RMP_HOT_CFG.EN 0 = true ∧
    State.reset.flag RMP_HOT_CFG.EN 0 = false ∧
    127 < 128 ∧ wGranulesMove14.jobRun 127 = some ((sampleRun [5, 0, 0, 0, 0, l2Word true 126 0 7])) ∧ ((sampleRun [5, 0, 0, 0, 0, l2Word true 126 0 7])).job.service = 5 ∧ ((sampleRun [5, 0, 0, 0, 0, l2Word true 126 0 7])).outcome = none ∧ wGranulesMove14.slotOfEngine 127 = none ∧ wGranulesMove14.migCheck (((sampleRun [5, 0, 0, 0, 0, l2Word true 126 0 7])).job.word 4) (((sampleRun [5, 0, 0, 0, 0, l2Word true 126 0 7])).job.word 5) = 0 ∧ (List.range 32).find? (fun j => wGranulesMove14.get RMP_MIG_SLOT0.PHASE j = 0) = some 0 ∧
    127 < 128 ∧ wGranulesMove15.jobRun 127 = some ((sampleRun [5, 0, 0, 0, 0, l2Word true 126 0 7])) ∧ ((sampleRun [5, 0, 0, 0, 0, l2Word true 126 0 7])).job.service = 5 ∧ ((sampleRun [5, 0, 0, 0, 0, l2Word true 126 0 7])).outcome = none ∧ wGranulesMove15.slotOfEngine 127 = none ∧ wGranulesMove15.migCheck (((sampleRun [5, 0, 0, 0, 0, l2Word true 126 0 7])).job.word 4) (((sampleRun [5, 0, 0, 0, 0, l2Word true 126 0 7])).job.word 5) ≠ 0 ∧
    19 < 20 ∧ wGranulesMove16.drains.contains 19 = false ∧
    19 < 20 ∧ (wGranulesMove17.accesses.any fun a => a.pt = 19 && a.phase ≠ Tbl.rd (fun _ => false) wGranulesMove17.drainPhase 19) = true ∧
    19 < 20 ∧ 31 < 32 ∧ wGranulesMove18.drains.contains 19 = true ∧ ((∀ a ∈ wGranulesMove18.accesses, a.pt = 19 → a.phase = Tbl.rd (fun _ => false) wGranulesMove18.drainPhase 19)) ∧ wGranulesMove18.mig 31 = some ((⟨0, 0, false, false, [19], false, [], 0, 0, 0, 0, 0, false, false, 0⟩ : MigRun)) ∧ ((⟨0, 0, false, false, [19], false, [], 0, 0, 0, 0, 0, false, false, 0⟩ : MigRun)).waiting = [19] ∧ wGranulesMove18.get RMP_MIG_SLOT0.PHASE 31 = 1 ∧ ((∀ j ∈ List.range 32, j ≠ 31 → wGranulesMove18.mig j = none)) ∧
    31 < 32 ∧ wGranulesMove19.mig 31 = some ((⟨0, 0, false, false, [], true, [], 0, 0, 0, 0, 0, false, false, 0⟩ : MigRun)) ∧ wGranulesMove19.get RMP_MIG_SLOT0.PHASE 31 = 2 ∧ ((⟨0, 0, false, false, [], true, [], 0, 0, 0, 0, 0, false, false, 0⟩ : MigRun)).issued = true ∧ ((⟨0, 0, false, false, [], true, [], 0, 0, 0, 0, 0, false, false, 0⟩ : MigRun)).todo = [] ∧ (wGranulesMove19.migDirty 31).length ≤ ((⟨0, 0, false, false, [], true, [], 0, 0, 0, 0, 0, false, false, 0⟩ : MigRun)).bound RMP_MIG_CFG.HOLD_BLKS ∧
    31 < 32 ∧ wGranulesMove20.mig 31 = some ((⟨0, 0, false, false, [], true, [], 0, 0, 0, 0, 0, false, false, (word (1 + 2 * 2 ^ 22))⟩ : MigRun)) ∧ wGranulesMove20.get RMP_MIG_SLOT0.PHASE 31 = 2 ∧ ((⟨0, 0, false, false, [], true, [], 0, 0, 0, 0, 0, false, false, (word (1 + 2 * 2 ^ 22))⟩ : MigRun)).issued = true ∧ ((⟨0, 0, false, false, [], true, [], 0, 0, 0, 0, 0, false, false, (word (1 + 2 * 2 ^ 22))⟩ : MigRun)).todo = [] ∧ ((⟨0, 0, false, false, [], true, [], 0, 0, 0, 0, 0, false, false, (word (1 + 2 * 2 ^ 22))⟩ : MigRun)).bound RMP_MIG_CFG.HOLD_BLKS < (wGranulesMove20.migDirty 31).length ∧ ((⟨0, 0, false, false, [], true, [], 0, 0, 0, 0, 0, false, false, (word (1 + 2 * 2 ^ 22))⟩ : MigRun)).bound RMP_MIG_CFG.MAX_PASSES ≤ wGranulesMove20.get RMP_MIG_SLOT0.PASS 31 + 1 ∧
    31 < 32 ∧ wGranulesMove21.mig 31 = some ((⟨0, 0, false, false, [], true, [], 0, 0, 0, 0, 0, false, false, (word (1 + 2 * 2 ^ 22))⟩ : MigRun)) ∧ wGranulesMove21.get RMP_MIG_SLOT0.PHASE 31 = 2 ∧ ((⟨0, 0, false, false, [], true, [], 0, 0, 0, 0, 0, false, false, (word (1 + 2 * 2 ^ 22))⟩ : MigRun)).issued = true ∧ ((⟨0, 0, false, false, [], true, [], 0, 0, 0, 0, 0, false, false, (word (1 + 2 * 2 ^ 22))⟩ : MigRun)).todo = [] ∧ ((⟨0, 0, false, false, [], true, [], 0, 0, 0, 0, 0, false, false, (word (1 + 2 * 2 ^ 22))⟩ : MigRun)).bound RMP_MIG_CFG.HOLD_BLKS < (wGranulesMove21.migDirty 31).length ∧ wGranulesMove21.get RMP_MIG_SLOT0.PASS 31 + 1 < ((⟨0, 0, false, false, [], true, [], 0, 0, 0, 0, 0, false, false, (word (1 + 2 * 2 ^ 22))⟩ : MigRun)).bound RMP_MIG_CFG.MAX_PASSES ∧
    31 < 32 ∧ wGranulesMove22.mig 31 = some ((⟨0, 0, false, false, [], true, [], 0, 0, 0, 0, 0, false, false, 0⟩ : MigRun)) ∧ wGranulesMove22.get RMP_MIG_SLOT0.PHASE 31 = 3 ∧ ((⟨0, 0, false, false, [], true, [], 0, 0, 0, 0, 0, false, false, 0⟩ : MigRun)).holdAt = 0 ∧
    31 < 32 ∧ wGranulesMove23.mig 31 = some ((⟨0, 0, false, false, [], false, [], 0, 0, 7, 0, 0, false, false, (word (2 * 2 ^ 26))⟩ : MigRun)) ∧ wGranulesMove23.get RMP_MIG_SLOT0.PHASE 31 = 3 ∧ ((⟨0, 0, false, false, [], false, [], 0, 0, 7, 0, 0, false, false, (word (2 * 2 ^ 26))⟩ : MigRun)).holdAt ≠ 0 ∧ ((⟨0, 0, false, false, [], false, [], 0, 0, 7, 0, 0, false, false, (word (2 * 2 ^ 26))⟩ : MigRun)).issued = false ∧ ((⟨0, 0, false, false, [], false, [], 0, 0, 7, 0, 0, false, false, (word (2 * 2 ^ 26))⟩ : MigRun)).holds + 1 < ((⟨0, 0, false, false, [], false, [], 0, 0, 7, 0, 0, false, false, (word (2 * 2 ^ 26))⟩ : MigRun)).bound RMP_MIG_CFG.MAX_HOLDS ∧
    31 < 32 ∧ wGranulesMove24.mig 31 = some ((⟨0, 0, false, false, [], false, [], 0, 1, 7, 0, 0, false, false, (word (2 * 2 ^ 26))⟩ : MigRun)) ∧ wGranulesMove24.get RMP_MIG_SLOT0.PHASE 31 = 3 ∧ ((⟨0, 0, false, false, [], false, [], 0, 1, 7, 0, 0, false, false, (word (2 * 2 ^ 26))⟩ : MigRun)).holdAt ≠ 0 ∧ ((⟨0, 0, false, false, [], false, [], 0, 1, 7, 0, 0, false, false, (word (2 * 2 ^ 26))⟩ : MigRun)).issued = false ∧ ((⟨0, 0, false, false, [], false, [], 0, 1, 7, 0, 0, false, false, (word (2 * 2 ^ 26))⟩ : MigRun)).bound RMP_MIG_CFG.MAX_HOLDS ≤ ((⟨0, 0, false, false, [], false, [], 0, 1, 7, 0, 0, false, false, (word (2 * 2 ^ 26))⟩ : MigRun)).holds + 1 ∧
    31 < 32 ∧ wGranulesMove25.mig 31 = some ((⟨0, 0, false, false, [], true, [], 0, 1, 7, 0, 0, false, false, 0⟩ : MigRun)) ∧ wGranulesMove25.get RMP_MIG_SLOT0.PHASE 31 = 3 ∧ ((⟨0, 0, false, false, [], true, [], 0, 1, 7, 0, 0, false, false, 0⟩ : MigRun)).holdAt ≠ 0 ∧ ((⟨0, 0, false, false, [], true, [], 0, 1, 7, 0, 0, false, false, 0⟩ : MigRun)).issued = true ∧ ((⟨0, 0, false, false, [], true, [], 0, 1, 7, 0, 0, false, false, 0⟩ : MigRun)).todo = [] ∧
    31 < 32 ∧ wGranulesMove26.mig 31 = some ((⟨0, 0, false, false, [], true, [], 0, 1, 7, 0, 0, true, false, 0⟩ : MigRun)) ∧ wGranulesMove26.get RMP_MIG_SLOT0.PHASE 31 = 5 ∧ ((⟨0, 0, false, false, [], true, [], 0, 1, 7, 0, 0, true, false, 0⟩ : MigRun)).waiting = [] ∧ ((⟨0, 0, false, false, [], true, [], 0, 1, 7, 0, 0, true, false, 0⟩ : MigRun)).sanitize = false ∧ ((⟨0, 0, false, false, [], true, [], 0, 1, 7, 0, 0, true, false, 0⟩ : MigRun)).autoUnfract = false ∧
    31 < 32 ∧ wGranulesMove27.mig 31 = some ((⟨0, 0, false, false, [], true, [], 0, 1, 7, 0, 0, false, false, 0⟩ : MigRun)) ∧ ((⟨0, 0, false, false, [], true, [], 0, 1, 7, 0, 0, false, false, 0⟩ : MigRun)).swapped = false ∧ wGranulesMove27.targetLost (l2Target ((⟨0, 0, false, false, [], true, [], 0, 1, 7, 0, 0, false, false, 0⟩ : MigRun)).src) = true ∧
    31 < 32 ∧ wGranulesMove28.mig 31 = some ((⟨0, 0, false, false, [], true, [], 0, 1, 7, 0, 0, false, false, 0⟩ : MigRun)) ∧ ((⟨0, 0, false, false, [], true, [], 0, 1, 7, 0, 0, false, false, 0⟩ : MigRun)).swapped = false ∧ wGranulesMove28.targetLost (l2Target (wGranulesMove28.reg .RMP_MIG_SLOT1 31)) = true ∧
    31 < 32 ∧ wGranulesMove29.mig 31 = some ((⟨0, 0, false, false, [], true, [], 0, 1, 7, 0, 0, false, false, 0⟩ : MigRun)) ∧ wGranulesMove29.regionState (wGranulesMove29.get RMP_MIG_SLOT0.ENGINE 31 / 32) = 1 ∧
    31 < 32 ∧ wGranulesMove30.mig 31 = some ((⟨0, 0, false, false, [], true, [], 0, 1, 7, 0, 0, false, false, 0⟩ : MigRun)) ∧ wGranulesMove30.targetLost (l2Target ((⟨0, 0, false, false, [], true, [], 0, 1, 7, 0, 0, false, false, 0⟩ : MigRun)).src) = false ∧ wGranulesMove30.targetLost (l2Target (wGranulesMove30.reg .RMP_MIG_SLOT1 31)) = false ∧ 1 < 2 ∧
    31 < 32 ∧ wGranulesMove31.mig 31 = some ((⟨0, 0, false, false, [], true, [], 0, 1, 7, 0, 0, true, false, 0⟩ : MigRun)) ∧ ((⟨0, 0, false, false, [], true, [], 0, 1, 7, 0, 0, true, false, 0⟩ : MigRun)).swapped = true ∧ wGranulesMove31.targetLost (l2Target ((⟨0, 0, false, false, [], true, [], 0, 1, 7, 0, 0, true, false, 0⟩ : MigRun)).src) = true ∧
    31 < 32 ∧ wGranulesMove32.mig 31 = some ((⟨0, 0, false, false, [], true, [], 0, 1, 7, 0, 0, false, false, 0⟩ : MigRun)) ∧ wGranulesMove32.get RMP_MIG_SLOT0.PHASE 31 ≤ 2 ∧ wGranulesMove32.flag L1_W1.RELEASING (wGranulesMove32.get RMP_MIG_SLOT0.L1_IDX 31) = true ∧
    31 < 32 ∧ State.reset.mig 31 = none ∧
    (word (1 + 250 * 2 ^ 8 + 2 * 2 ^ 22 + 1 * 2 ^ 26 + 7 * 2 ^ 30)).field 7 0 ≠ 0 ∧ 250 ≤ (word (1 + 250 * 2 ^ 8 + 2 * 2 ^ 22 + 1 * 2 ^ 26 + 7 * 2 ^ 30)).field 21 8 ∧ (word (1 + 250 * 2 ^ 8 + 2 * 2 ^ 22 + 1 * 2 ^ 26 + 7 * 2 ^ 30)).field 21 8 ≤ 10000 ∧ 2 ≤ (word (1 + 250 * 2 ^ 8 + 2 * 2 ^ 22 + 1 * 2 ^ 26 + 7 * 2 ^ 30)).field 25 22 ∧ (word (1 + 250 * 2 ^ 8 + 2 * 2 ^ 22 + 1 * 2 ^ 26 + 7 * 2 ^ 30)).field 29 26 ≠ 0 ∧
    ((word (1 + 10001 * 2 ^ 8 + 2 * 2 ^ 22 + 1 * 2 ^ 26)).field 7 0 = 0 ∨ (word (1 + 10001 * 2 ^ 8 + 2 * 2 ^ 22 + 1 * 2 ^ 26)).field 21 8 < 250 ∨ 10000 < (word (1 + 10001 * 2 ^ 8 + 2 * 2 ^ 22 + 1 * 2 ^ 26)).field 21 8 ∨ (word (1 + 10001 * 2 ^ 8 + 2 * 2 ^ 22 + 1 * 2 ^ 26)).field 25 22 < 2 ∨ (word (1 + 10001 * 2 ^ 8 + 2 * 2 ^ 22 + 1 * 2 ^ 26)).field 29 26 = 0) ∧
    ((word (1 + 249 * 2 ^ 8 + 2 * 2 ^ 22 + 1 * 2 ^ 26)).field 7 0 = 0 ∨ (word (1 + 249 * 2 ^ 8 + 2 * 2 ^ 22 + 1 * 2 ^ 26)).field 21 8 < 250 ∨ 10000 < (word (1 + 249 * 2 ^ 8 + 2 * 2 ^ 22 + 1 * 2 ^ 26)).field 21 8 ∨ (word (1 + 249 * 2 ^ 8 + 2 * 2 ^ 22 + 1 * 2 ^ 26)).field 25 22 < 2 ∨ (word (1 + 249 * 2 ^ 8 + 2 * 2 ^ 22 + 1 * 2 ^ 26)).field 29 26 = 0) := by
  and_intros <;> decide +kernel

def wCoprocessorQueue0 : State := ((State.reset.set TNG_ENG_STAT.STATE 127 1).setEngine 127 { Engine.idle with job := some (sampleRun [64, 0, 0, 0, 0, 0, 0, 0]), gens := [(0, 7)] })
def wCoprocessorQueue1 : State := ((State.reset.set TNG_ENG_STAT.STATE 127 1).setEngine 127 { Engine.idle with job := some (sampleRun [64, 0, 0, 0, 0, 0, 0, 0]), gens := [(0, 7)] })
def wCoprocessorQueue2 : State := ((State.reset.set TNG_ENG_STAT.STATE 127 1).setEngine 127 { Engine.idle with job := some (sampleRun [64, 0, 0, 0, 0, 0, 0, 0]), gens := [(0, 7)] })
def wCoprocessorQueue3 : State := ((State.reset.set TNG_ENG_STAT.STATE 127 1).setEngine 127 { Engine.idle with job := some (sampleRun [64, 0, 0, 0, 0, 0, 0, 0]), gens := [(0, 7)] })
def wCoprocessorQueue4 : State := ((State.reset.set TNG_ENG_STAT.STATE 127 1).setEngine 127 { Engine.idle with job := some (sampleRun [64, 0, 0, 0, 0, 0, 0, 0]), gens := [(0, 7)] })
def wCoprocessorQueue5 : State := ((State.reset.set TNG_ENG_STAT.STATE 127 1).setEngine 127 { Engine.idle with job := some (sampleRun [64, 0, 0, 0, 0, 0, 0, 0]), gens := [(0, 7)] })
def wCoprocessorQueue6 : State := ((State.reset.set TNG_ENG_STAT.STATE 127 1).setEngine 127 { Engine.idle with job := some (sampleRun [64, 0, 0, 0, 0, 0, 0, 0]), gens := [(0, 7)] })
def wCoprocessorQueue7 : State := ((State.reset.set TNG_ENG_STAT.STATE 127 1).setEngine 127 { Engine.idle with job := some (sampleRun [64, 0, 0, 0, 0, 0, 0, 0]), gens := [(0, 7)] })
def wCoprocessorQueue8 : State := ((State.reset.set TNG_ENG_STAT.STATE 127 1).setEngine 127 { Engine.idle with job := some (sampleRun [64, 0, 0, 0, 0, 0, 0, 0]), gens := [(0, 7)] })
def wCoprocessorQueue9 : State := ((State.reset.set TNG_ENG_STAT.STATE 127 1).setEngine 127 { Engine.idle with job := some (sampleRun [64, 0, 0, 0, 0, 0, 0, 0]), gens := [(0, 7)] })
def wCoprocessorQueue10b : State := ((State.reset.set TNG_ENG_STAT.STATE 127 1).setEngine 127 { Engine.idle with job := some (sampleRun [64, 0, 0, 0, 0, 0, 0, 0]), queue := (List.range 32).map fun k => ⟨k, 0, .fence 0, false, false, false, [], [], [], 0⟩ })
def wCoprocessorQueue12 : State := (State.reset.setEngine 127 { Engine.idle with job := some (sampleRun [64, 0, 0, 0, 0, 0, 0, 0]), queue := [⟨5, 31, .fence 3, false, false, false, [], [], [], 0⟩] })
def wCoprocessorQueue13 : State := (State.reset.setEngine 127 { Engine.idle with job := some (sampleRun [64, 0, 0, 0, 0, 0, 0, 0]), queue := [⟨5, 31, .wait (some 7), false, false, false, [], [], [], 0⟩], results := [(7, 0x305)] })
def wCoprocessorQueue14 : State := (State.reset.setEngine 127 { Engine.idle with job := some (sampleRun [64, 0, 0, 0, 0, 0, 0, 0]), queue := [⟨5, 31, .wait none, false, false, false, [], [], [], 0⟩], dmErr := 9 })
def wCoprocessorQueue15 : State := (State.reset.setEngine 127 { Engine.idle with queue := [⟨4, 0, .fence 0, true, false, false, [], [1], [], 0⟩, ⟨5, 31, .wait none, false, false, false, [], [], [], 0⟩] })
def wCoprocessorQueue16 : State := (State.reset.setEngine 127 { Engine.idle with queue := [⟨4, 0, .fence 0, true, false, false, [], [1], [], 0⟩, ⟨5, 31, .fence 2, false, false, false, [], [], [], 0⟩] })
def wCoprocessorQueue17 : State := (State.reset.setEngine 127 { Engine.idle with job := some (sampleRun [64, 0, 0, 0, 0, 0, 0, 0]), queue := [⟨5, 31, .crc 64 4, false, false, false, [], [], [], 0⟩], dmCrc := 0xFFFFFFFF })
def wCoprocessorQueue18 : State := (State.reset.setEngine 127 { Engine.idle with job := some (sampleRun [64, 0, 0, 0, 0, 0, 0, 0]), queue := [⟨5, 31, .done 128 64, false, false, false, [], [], [], 0⟩], mem := [(64, 3), (73, 1)] })
def wCoprocessorQueue19 : State := (State.reset.setEngine 127 { Engine.idle with job := some (sampleRun [64, 0, 0, 0, 0, 0, 0, 0]), queue := [⟨5, 31, .submit 64 16, false, false, false, [], [], [], 0⟩] })
def wCoprocessorQueue20 : State := (State.reset.setEngine 127 { Engine.idle with queue := [⟨5, 31, .st 0x20000000 0 64 0, false, false, false, [], [0], [], 0⟩] })
def wCoprocessorQueue22 : State := (State.reset.setEngine 127 { Engine.idle with queue := [⟨5, 31, .ld 0x20000000 1 64 0, false, true, false, [1], [], [], 0⟩] })
def wCoprocessorQueue23 : State := (State.reset.setEngine 127 { Engine.idle with job := some (sampleRun [64, 0, 0, 0, 0, 0, 0, 0]), queue := [⟨5, 31, .fence 0, false, false, false, [], [], [], 0⟩] })
def wCoprocessorQueue24 : State := (State.reset.setEngine 127 { Engine.idle with job := some (sampleRun [64, 0, 0, 0, 0, 0, 0, 0]), queue := [⟨5, 31, .fence 0, false, false, false, [], [], [], 0⟩] })
def wCoprocessorQueue26 : State := (State.reset.setCluster 15 { Cluster.idle with acc := [⟨127, cpTag 5 0 1, true, none, 0, 0, 0, 64, 64, 0, [], false, false, true⟩] })
def wCoprocessorQueue27 : State := ((State.reset.setEngine 127 { Engine.idle with queue := [⟨5, 31, .st 0x20000000 0 64 0, true, false, false, [], [0], [], 0⟩] }).setCluster 15 { Cluster.idle with acc := [⟨127, cpTag 5 0 1, true, none, 0, 0, 0, 64, 64, 0, [], false, false, true⟩] })
/-- Hypotheses of CoprocessorQueue met. -/
theorem witness_CoprocessorQueue :
    127 < 128 ∧ wCoprocessorQueue0.running 127 = true ∧ (List.range 32).find? (fun i => !((wCoprocessorQueue0.engine 127).queue.any fun c => c.ticket % 32 = i)) = some 0 ∧
    127 < 128 ∧ wCoprocessorQueue1.running 127 = true ∧ (List.range 32).find? (fun i => !((wCoprocessorQueue1.engine 127).queue.any fun c => c.ticket % 32 = i)) = some 0 ∧
    127 < 128 ∧ wCoprocessorQueue2.running 127 = true ∧ (List.range 32).find? (fun i => !((wCoprocessorQueue2.engine 127).queue.any fun c => c.ticket % 32 = i)) = some 0 ∧
    127 < 128 ∧ wCoprocessorQueue3.running 127 = true ∧ (List.range 32).find? (fun i => !((wCoprocessorQueue3.engine 127).queue.any fun c => c.ticket % 32 = i)) = some 0 ∧
    127 < 128 ∧ wCoprocessorQueue4.running 127 = true ∧ (List.range 32).find? (fun i => !((wCoprocessorQueue4.engine 127).queue.any fun c => c.ticket % 32 = i)) = some 0 ∧
    127 < 128 ∧ wCoprocessorQueue5.running 127 = true ∧ (List.range 32).find? (fun i => !((wCoprocessorQueue5.engine 127).queue.any fun c => c.ticket % 32 = i)) = some 0 ∧
    127 < 128 ∧ wCoprocessorQueue6.running 127 = true ∧ (List.range 32).find? (fun i => !((wCoprocessorQueue6.engine 127).queue.any fun c => c.ticket % 32 = i)) = some 0 ∧
    127 < 128 ∧ wCoprocessorQueue7.running 127 = true ∧ (List.range 32).find? (fun i => !((wCoprocessorQueue7.engine 127).queue.any fun c => c.ticket % 32 = i)) = some 0 ∧
    127 < 128 ∧ wCoprocessorQueue8.running 127 = true ∧ (List.range 32).find? (fun i => !((wCoprocessorQueue8.engine 127).queue.any fun c => c.ticket % 32 = i)) = some 0 ∧
    127 < 128 ∧ wCoprocessorQueue9.running 127 = true ∧ (List.range 32).find? (fun i => !((wCoprocessorQueue9.engine 127).queue.any fun c => c.ticket % 32 = i)) = some 0 ∧
    127 < 128 ∧ (State.reset.running 127 = false ∨ (List.range 32).find? (fun i => !((State.reset.engine 127).queue.any fun c => c.ticket % 32 = i)) = none) ∧
    127 < 128 ∧ (wCoprocessorQueue10b.running 127 = false ∨ (List.range 32).find? (fun i => !((wCoprocessorQueue10b.engine 127).queue.any fun c => c.ticket % 32 = i)) = none) ∧
    127 < 128 ∧ (State.reset.engine 127).queue.find? (fun c => !c.committed) = none ∧
    127 < 128 ∧ (wCoprocessorQueue12.engine 127).queue.find? (fun c => !c.committed) = some ((⟨5, 31, .fence 3, false, false, false, [], [], [], 0⟩ : CpEntry)) ∧ wCoprocessorQueue12.cpFault 127 ((⟨5, 31, .fence 3, false, false, false, [], [], [], 0⟩ : CpEntry)).op = some (2, 0) ∧
    127 < 128 ∧ (wCoprocessorQueue13.engine 127).queue.find? (fun c => !c.committed) = some ((⟨5, 31, .wait (some 7), false, false, false, [], [], [], 0⟩ : CpEntry)) ∧ wCoprocessorQueue13.cpFault 127 ((⟨5, 31, .wait (some 7), false, false, false, [], [], [], 0⟩ : CpEntry)).op = none ∧ ((⟨5, 31, .wait (some 7), false, false, false, [], [], [], 0⟩ : CpEntry)).op = .wait (some 7) ∧ ((wCoprocessorQueue13.engine 127).queue.takeWhile (fun d => d ≠ ((⟨5, 31, .wait (some 7), false, false, false, [], [], [], 0⟩ : CpEntry)))).any (fun d => d.ticket = 7) = false ∧ ((⟨5, 31, .wait (some 7), false, false, false, [], [], [], 0⟩ : CpEntry)).rd % 32 ≠ 0 ∧
    127 < 128 ∧ (wCoprocessorQueue14.engine 127).queue.find? (fun c => !c.committed) = some ((⟨5, 31, .wait none, false, false, false, [], [], [], 0⟩ : CpEntry)) ∧ wCoprocessorQueue14.cpFault 127 ((⟨5, 31, .wait none, false, false, false, [], [], [], 0⟩ : CpEntry)).op = none ∧ ((⟨5, 31, .wait none, false, false, false, [], [], [], 0⟩ : CpEntry)).op = .wait none ∧ (wCoprocessorQueue14.engine 127).queue.takeWhile (fun d => d ≠ ((⟨5, 31, .wait none, false, false, false, [], [], [], 0⟩ : CpEntry))) = [] ∧ ((⟨5, 31, .wait none, false, false, false, [], [], [], 0⟩ : CpEntry)).rd % 32 ≠ 0 ∧
    127 < 128 ∧ (wCoprocessorQueue15.engine 127).queue.find? (fun c => !c.committed) = some ((⟨5, 31, .wait none, false, false, false, [], [], [], 0⟩ : CpEntry)) ∧ wCoprocessorQueue15.cpFault 127 ((⟨5, 31, .wait none, false, false, false, [], [], [], 0⟩ : CpEntry)).op = none ∧ ((⟨5, 31, .wait none, false, false, false, [], [], [], 0⟩ : CpEntry)).op = .wait none ∧ (wCoprocessorQueue15.engine 127).queue.takeWhile (fun d => d ≠ ((⟨5, 31, .wait none, false, false, false, [], [], [], 0⟩ : CpEntry))) ≠ [] ∧
    127 < 128 ∧ (wCoprocessorQueue16.engine 127).queue.find? (fun c => !c.committed) = some ((⟨5, 31, .fence 2, false, false, false, [], [], [], 0⟩ : CpEntry)) ∧ wCoprocessorQueue16.cpFault 127 ((⟨5, 31, .fence 2, false, false, false, [], [], [], 0⟩ : CpEntry)).op = none ∧ ((⟨5, 31, .fence 2, false, false, false, [], [], [], 0⟩ : CpEntry)).op = .fence 2 ∧ ((wCoprocessorQueue16.engine 127).queue.takeWhile (fun d => d ≠ ((⟨5, 31, .fence 2, false, false, false, [], [], [], 0⟩ : CpEntry)))).any (fun d => !d.reads.isEmpty || (decide (2 = 2) && !d.writes.isEmpty)) = true ∧
    127 < 128 ∧ (wCoprocessorQueue17.engine 127).queue.find? (fun c => !c.committed) = some ((⟨5, 31, .crc 64 4, false, false, false, [], [], [], 0⟩ : CpEntry)) ∧ wCoprocessorQueue17.cpFault 127 ((⟨5, 31, .crc 64 4, false, false, false, [], [], [], 0⟩ : CpEntry)).op = none ∧ ((⟨5, 31, .crc 64 4, false, false, false, [], [], [], 0⟩ : CpEntry)).op = .crc 64 4 ∧ ((⟨5, 31, .crc 64 4, false, false, false, [], [], [], 0⟩ : CpEntry)).rd % 32 ≠ 0 ∧
    127 < 128 ∧ (wCoprocessorQueue18.engine 127).queue.find? (fun c => !c.committed) = some ((⟨5, 31, .done 128 64, false, false, false, [], [], [], 0⟩ : CpEntry)) ∧ wCoprocessorQueue18.cpFault 127 ((⟨5, 31, .done 128 64, false, false, false, [], [], [], 0⟩ : CpEntry)).op = none ∧ ((⟨5, 31, .done 128 64, false, false, false, [], [], [], 0⟩ : CpEntry)).op = .done 128 64 ∧ wCoprocessorQueue18.jobRun 127 = some ((sampleRun [64, 0, 0, 0, 0, 0, 0, 0])) ∧ ((sampleRun [64, 0, 0, 0, 0, 0, 0, 0])).outcome = none ∧ (128 = 0 ∨ 0x80 ≤ 128 ∧ 128 ≤ 0xFF) ∧
    127 < 128 ∧ (wCoprocessorQueue19.engine 127).queue.find? (fun c => !c.committed) = some ((⟨5, 31, .submit 64 16, false, false, false, [], [], [], 0⟩ : CpEntry)) ∧ wCoprocessorQueue19.cpFault 127 ((⟨5, 31, .submit 64 16, false, false, false, [], [], [], 0⟩ : CpEntry)).op = none ∧ ((⟨5, 31, .submit 64 16, false, false, false, [], [], [], 0⟩ : CpEntry)).op = .submit 64 16 ∧ ((⟨5, 31, .submit 64 16, false, false, false, [], [], [], 0⟩ : CpEntry)).rd % 32 ≠ 0 ∧ 16 ≤ 16 ∧
    127 < 128 ∧ (wCoprocessorQueue20.engine 127).queue.find? (fun c => !c.committed) = some ((⟨5, 31, .st 0x20000000 0 64 0, false, false, false, [], [0], [], 0⟩ : CpEntry)) ∧ wCoprocessorQueue20.cpFault 127 ((⟨5, 31, .st 0x20000000 0 64 0, false, false, false, [], [0], [], 0⟩ : CpEntry)).op = none ∧ ((⟨5, 31, .st 0x20000000 0 64 0, false, false, false, [], [0], [], 0⟩ : CpEntry)).op = .st ((0x20000000 : Word)) 0 64 0 ∧ (wCoprocessorQueue20.cluster (127 / 8)).acc = [] ∧ ((⟨5, 31, .st 0x20000000 0 64 0, false, false, false, [], [0], [], 0⟩ : CpEntry)).writes.length ≤ 256 ∧ ((⟨5, 31, .st 0x20000000 0 64 0, false, false, false, [], [0], [], 0⟩ : CpEntry)).rd % 32 ≠ 0 ∧
    127 < 128 ∧ (State.reset.engine 127).entry 5 = none ∧
    127 < 128 ∧ (wCoprocessorQueue22.engine 127).entry 5 = some ((⟨5, 31, .ld 0x20000000 1 64 0, false, true, false, [1], [], [], 0⟩ : CpEntry)) ∧ ((⟨5, 31, .ld 0x20000000 1 64 0, false, true, false, [1], [], [], 0⟩ : CpEntry)).started = true ∧ ((⟨5, 31, .ld 0x20000000 1 64 0, false, true, false, [1], [], [], 0⟩ : CpEntry)).committed = false ∧
    127 < 128 ∧ ((wCoprocessorQueue23.engine 127).queue.drop 1).filter (fun c => !c.committed) = [] ∧
    127 < 128 ∧ ((wCoprocessorQueue24.engine 127).queue.drop 0).filter (fun c => !c.committed) = ([(⟨5, 31, .fence 0, false, false, false, [], [], [], 0⟩ : CpEntry)]) ∧ ([(⟨5, 31, .fence 0, false, false, false, [], [], [], 0⟩ : CpEntry)]) ≠ [] ∧
    127 < 128 ∧ (State.reset.cluster (127 / 8)).acc.find? (fun a => a.engine = 127 && a.tag = 9 && a.issued) = none ∧
    127 < 128 ∧ (wCoprocessorQueue26.cluster (127 / 8)).acc.find? (fun y => y.engine = 127 && y.tag = (cpTag 5 0 1) && y.issued) = some ((⟨127, cpTag 5 0 1, true, none, 0, 0, 0, 64, 64, 0, [], false, false, true⟩ : FarAcc)) ∧ wCoprocessorQueue26.denials.find? (fun y => y.1 = accReq ((⟨127, cpTag 5 0 1, true, none, 0, 0, 0, 64, 64, 0, [], false, false, true⟩ : FarAcc))) = none ∧ (wCoprocessorQueue26.unsent ((⟨127, cpTag 5 0 1, true, none, 0, 0, 0, 64, 64, 0, [], false, false, true⟩ : FarAcc)) = true ∨ 3 = 2 ∨ 3 = 3) ∧
    127 < 128 ∧ (wCoprocessorQueue27.cluster (127 / 8)).acc = [((⟨127, cpTag 5 0 1, true, none, 0, 0, 0, 64, 64, 0, [], false, false, true⟩ : FarAcc))] ∧ ((⟨127, cpTag 5 0 1, true, none, 0, 0, 0, 64, 64, 0, [], false, false, true⟩ : FarAcc)).engine = 127 ∧ ((⟨127, cpTag 5 0 1, true, none, 0, 0, 0, 64, 64, 0, [], false, false, true⟩ : FarAcc)).tag = cpTag ((⟨5, 31, .st 0x20000000 0 64 0, true, false, false, [], [0], [], 0⟩ : CpEntry)).ticket 0 1 ∧ ((⟨127, cpTag 5 0 1, true, none, 0, 0, 0, 64, 64, 0, [], false, false, true⟩ : FarAcc)).issued = true ∧ (wCoprocessorQueue27.engine 127).queue = [((⟨5, 31, .st 0x20000000 0 64 0, true, false, false, [], [0], [], 0⟩ : CpEntry))] ∧ ((⟨5, 31, .st 0x20000000 0 64 0, true, false, false, [], [0], [], 0⟩ : CpEntry)).committed = true ∧ ((⟨5, 31, .st 0x20000000 0 64 0, true, false, false, [], [0], [], 0⟩ : CpEntry)).reads = [] ∧ ((⟨5, 31, .st 0x20000000 0 64 0, true, false, false, [], [0], [], 0⟩ : CpEntry)).writes = [0] ∧ ((⟨5, 31, .st 0x20000000 0 64 0, true, false, false, [], [0], [], 0⟩ : CpEntry)).status = 0 ∧ wCoprocessorQueue27.unsent ((⟨127, cpTag 5 0 1, true, none, 0, 0, 0, 64, 64, 0, [], false, false, true⟩ : FarAcc)) = false ∧ wCoprocessorQueue27.denials.find? (fun y => y.1 = accReq ((⟨127, cpTag 5 0 1, true, none, 0, 0, 0, 64, 64, 0, [], false, false, true⟩ : FarAcc))) = none ∧ 5 < 6 ∧ 5 ≠ 2 ∧ 5 ≠ 3 := by
  and_intros <;> decide +kernel

def wJobsRun0 : State := ((((State.reset.set TNG_CL_CFG.FW_MASK 15 255).set TNG_CL_STAT.LIVE 15 255).setReg .TNG_SUB_DESC 120 5).set TNG_SUB_RES.SEQ 15 255)
def wJobsRun1 : State := (State.reset.setReg .TNG_SUB_DESC 120 6)
def wJobsRun3 : State := (State.reset.set FLT_REG_STAT.STATE 3 1)
def wJobsRun4 : State := (State.reset.set FLT_REG_STAT.STATE 3 1)
def wJobsRun5 : State := ((((State.reset.set TNG_ENG_STAT.STATE 127 0).set TNG_CL_CFG.FW_MASK 15 128).set TNG_CL_STAT.LIVE 15 255).setCluster 15 { Cluster.idle with queue := [⟨some 9, 3, [1, 0, 0, 0, 0, 0, 0, 0], 0⟩] })
def wJobsRun6 : State := (State.reset.setEngine 127 { Engine.idle with job := some (sampleRun [1, 0x1040, 0, 0, 7, 0, 0x20000000, 0x20000000]) })
def wJobsRun7 : State := (State.reset.setEngine 127 { Engine.idle with job := some (sampleRun [1, 0, 0, 0, 7, 0, 0x20000000, 0x20000000]) })
def wJobsRun8 : State := (State.reset.setEngine 127 { Engine.idle with job := some (sampleRun [2, 0x1040, 0, 0, 7, 0, 0x20000000, 0x20000000]) })
def wJobsRun9 : State := (State.reset.setEngine 127 { Engine.idle with job := some (sampleRun [2, 0, 0, 0, 7, 0, 0x20000000, 0x20000000]) })
def wJobsRun10 : State := (State.reset.setEngine 127 { Engine.idle with job := some (sampleRun [3, 0x1040, 0, 0, 7, 0, 0x20000000, 0x20000000]) })
def wJobsRun11 : State := (State.reset.setEngine 127 { Engine.idle with job := some (sampleRun [3, 0, 0, 0, 7, 0, 0x20000000, 0x20000000]) })
def wJobsRun12 : State := (State.reset.setEngine 127 { Engine.idle with job := some (sampleRun [4, 0x1040, 0, 0, 7, 0, 0x20000000, 0x20000000]) })
def wJobsRun13 : State := (State.reset.setEngine 127 { Engine.idle with job := some (sampleRun [4, 0, 0, 0, 7, 0, 0x20000000, 0x20000000]) })
def wJobsRun15 : State := (State.reset.setEngine 127 { Engine.idle with job := some (sampleRun [6, 0, 0, 0, 0, 0, 0, 0]) })
def wJobsRun16 : State := (State.reset.setEngine 127 { Engine.idle with user := true, job := some (sampleRun [255, 0, 0, 0, 0, 0, 0, 0]) })
def wJobsRun17 : State := (State.reset.setEngine 127 { Engine.idle with user := true, job := some (sampleRun [255, 0, 0, 0, 0, 0, 0, 0]), queue := [⟨5, 31, .st 0x20000000 0 64 64, false, false, false, [], [0], [], 0⟩] })
def wJobsRun18 : State := (State.reset.setEngine 127 { Engine.idle with user := true, job := some (sampleRun [255, 0, 0, 0, 0, 0, 0, 0]) })
def wJobsRun19 : State := (State.reset.setEngine 127 { Engine.idle with mcause := 5, mtval := 64, job := some (sampleRun [255, 0, 0, 0, 0, 0, 0, 0]) })
def wJobsRun20 : State := (State.reset.setEngine 127 { Engine.idle with job := some (sampleRun [255, 0, 0, 0, 0, 0, 0, 0]) })
def wJobsRun21 : State := (((State.reset.set TNG_CL_STAT.LIVE 15 255).set TNG_CQ_PTR.TAIL 15 4095).setEngine 127 { Engine.idle with job := some { (sampleRun [255, 0, 0, 0, 0, 0, 0, 0]) with outcome := some (0, 7, 9) } })
def wJobsRun22 : State := ((State.reset.set TNG_CQ_PTR.HEAD 15 4090).setCluster 15 { Cluster.idle with fill := 9 })
def wJobsRun23 : State := (State.reset.setCluster 15 { Cluster.idle with cancel := some 9 })
def wJobsRun24 : State := (State.reset.setCluster 15 { Cluster.idle with queue := [⟨some 9, 3, [1, 0, 0, 0, 0, 0, 0, 0], 0⟩] })
def wJobsRun26 : State := (({ State.reset with clk := 5 } : State).setEngine 127 { Engine.idle with job := some (sampleRun [255, 0, 0, 0, 0, 0, 0, 0]) })
def wJobsRun27 : State := (State.reset.set TNG_ENG_STAT.STATE 127 3)
def wJobsRun28 : State := ((State.reset.set TNG_ENG_STAT.STATE 127 1).setEngine 127 { Engine.idle with job := some (sampleRun [255, 0, 0, 0, 0, 0, 0, 0]) })
def wJobsRun29 : State := (((State.reset.set TNG_CL_CFG.WDOG_MS 15 9).set TNG_ENG_STAT.STATE 127 1).setEngine 127 { Engine.idle with job := some (sampleRun [255, 0, 0, 0, 0, 0, 0, 0]) })
def wJobsRun30 : State := (((State.reset.set TNG_CL_CFG.WDOG_MS 15 0).set TNG_ENG_STAT.STATE 127 1).setEngine 127 { Engine.idle with job := some (sampleRun [255, 0, 0, 0, 0, 0, 0, 0]) })
def wJobsRun31 : State := ({ ((((State.reset.set TNG_ENG_STAT.STATE 127 4).set TNG_KRN.VALID 2880 1).set TNG_KRN.ENG_MASK 2880 255).set TNG_KRN.VERSION 2880 9) with reloadDue := [3, 127] } : State)
def wJobsRun32 : State := (State.reset.set TNG_ENG_STAT.STATE 127 1)
def wJobsRun33 : State := ({ (((((((((State.reset.set TNG_ENG_STAT.STATE 120 0).set TNG_ENG_STAT.STATE 121 0).set TNG_ENG_STAT.STATE 122 0).set TNG_ENG_STAT.STATE 123 0).set TNG_ENG_STAT.STATE 124 0).set TNG_ENG_STAT.STATE 125 0).set TNG_ENG_STAT.STATE 126 0).set TNG_ENG_STAT.STATE 127 1).setEngine 127 { Engine.idle with job := some (sampleRun [255, 0, 0, 0, 0, 0, 0, 0]) }) with reloadDue := [127] } : State)
def wJobsRun34 : State := ({ (((((((((State.reset.set TNG_ENG_STAT.STATE 120 0).set TNG_ENG_STAT.STATE 121 0).set TNG_ENG_STAT.STATE 122 0).set TNG_ENG_STAT.STATE 123 0).set TNG_ENG_STAT.STATE 124 0).set TNG_ENG_STAT.STATE 125 0).set TNG_ENG_STAT.STATE 126 0).set TNG_ENG_STAT.STATE 127 0).set TNG_CL_STAT.LIVE 15 255) with reloadDue := [127] } : State)
def wJobsRun35 : State := (State.reset.set TNG_ENG_STAT.STATE 127 3)
/-- Hypotheses of JobsRun met. -/
theorem witness_JobsRun :
    15 < 16 ∧ wJobsRun0.admission 15 ((List.range 8).map fun k => wJobsRun0.reg .TNG_SUB_DESC (8 * 15 + k)) = 0 ∧
    15 < 16 ∧ wJobsRun1.admission 15 ((List.range 8).map fun k => wJobsRun1.reg .TNG_SUB_DESC (8 * 15 + k)) ≠ 0 ∧
    15 < 16 ∧ State.reset.regionState (15 / 4) ≠ 1 ∧
    15 < 16 ∧ wJobsRun3.regionState (15 / 4) = 1 ∧
    15 < 16 ∧ (wJobsRun4.regionState (15 / 4) = 1 ∨ wJobsRun4.banked (128 + 15) = true) ∧
    15 < 16 ∧ wJobsRun5.regionState (15 / 4) ≠ 1 ∧ wJobsRun5.banked (128 + 15) = false ∧ (wJobsRun5.cluster 15).queue.find? (fun y => wJobsRun5.eligible' 15 y && (decide (wJobsRun5.holdersOf 15 y.service = 0) || (wJobsRun5.idleHolder 15 y.service).isSome)) = some ((⟨some 9, 3, [1, 0, 0, 0, 0, 0, 0, 0], 0⟩ : Job)) ∧ wJobsRun5.idleHolder 15 ((⟨some 9, 3, [1, 0, 0, 0, 0, 0, 0, 0], 0⟩ : Job)).service = some 127 ∧
    127 < 128 ∧ wJobsRun6.jobRun 127 = some ((sampleRun [1, 0x1040, 0, 0, 7, 0, 0x20000000, 0x20000000])) ∧ ((sampleRun [1, 0x1040, 0, 0, 7, 0, 0x20000000, 0x20000000])).job.service = 1 ∧ ((sampleRun [1, 0x1040, 0, 0, 7, 0, 0x20000000, 0x20000000])).outcome = none ∧ (wJobsRun6.cluster (127 / 8)).acc.any (fun a => a.engine = 127) = false ∧ ((sampleRun [1, 0x1040, 0, 0, 7, 0, 0x20000000, 0x20000000])).fail = 0 ∧ ((sampleRun [1, 0x1040, 0, 0, 7, 0, 0x20000000, 0x20000000])).cancel = false ∧ ((sampleRun [1, 0x1040, 0, 0, 7, 0, 0x20000000, 0x20000000])).next < ((sampleRun [1, 0x1040, 0, 0, 7, 0, 0x20000000, 0x20000000])).job.total ∧ asdSpace (((sampleRun [1, 0x1040, 0, 0, 7, 0, 0x20000000, 0x20000000])).job.word 6) ≠ 2 ∧ asdSpace (((sampleRun [1, 0x1040, 0, 0, 7, 0, 0x20000000, 0x20000000])).job.word 7) ≠ 2 ∧
    127 < 128 ∧ wJobsRun7.jobRun 127 = some ((sampleRun [1, 0, 0, 0, 7, 0, 0x20000000, 0x20000000])) ∧ ((sampleRun [1, 0, 0, 0, 7, 0, 0x20000000, 0x20000000])).job.service = 1 ∧ ((sampleRun [1, 0, 0, 0, 7, 0, 0x20000000, 0x20000000])).outcome = none ∧ (wJobsRun7.cluster (127 / 8)).acc.any (fun a => a.engine = 127) = false ∧ ((sampleRun [1, 0, 0, 0, 7, 0, 0x20000000, 0x20000000])).fail = 0 ∧ ((sampleRun [1, 0, 0, 0, 7, 0, 0x20000000, 0x20000000])).job.total ≤ ((sampleRun [1, 0, 0, 0, 7, 0, 0x20000000, 0x20000000])).next ∧
    127 < 128 ∧ wJobsRun8.jobRun 127 = some ((sampleRun [2, 0x1040, 0, 0, 7, 0, 0x20000000, 0x20000000])) ∧ ((sampleRun [2, 0x1040, 0, 0, 7, 0, 0x20000000, 0x20000000])).job.service = 2 ∧ ((sampleRun [2, 0x1040, 0, 0, 7, 0, 0x20000000, 0x20000000])).outcome = none ∧ (wJobsRun8.cluster (127 / 8)).acc.any (fun a => a.engine = 127) = false ∧ ((sampleRun [2, 0x1040, 0, 0, 7, 0, 0x20000000, 0x20000000])).fail = 0 ∧ ((sampleRun [2, 0x1040, 0, 0, 7, 0, 0x20000000, 0x20000000])).cancel = false ∧ ((sampleRun [2, 0x1040, 0, 0, 7, 0, 0x20000000, 0x20000000])).next < ((sampleRun [2, 0x1040, 0, 0, 7, 0, 0x20000000, 0x20000000])).job.total ∧ asdSpace (((sampleRun [2, 0x1040, 0, 0, 7, 0, 0x20000000, 0x20000000])).job.word 6) ≠ 2 ∧ asdSpace (((sampleRun [2, 0x1040, 0, 0, 7, 0, 0x20000000, 0x20000000])).job.word 7) ≠ 2 ∧
    127 < 128 ∧ wJobsRun9.jobRun 127 = some ((sampleRun [2, 0, 0, 0, 7, 0, 0x20000000, 0x20000000])) ∧ ((sampleRun [2, 0, 0, 0, 7, 0, 0x20000000, 0x20000000])).job.service = 2 ∧ ((sampleRun [2, 0, 0, 0, 7, 0, 0x20000000, 0x20000000])).outcome = none ∧ (wJobsRun9.cluster (127 / 8)).acc.any (fun a => a.engine = 127) = false ∧ ((sampleRun [2, 0, 0, 0, 7, 0, 0x20000000, 0x20000000])).fail = 0 ∧ ((sampleRun [2, 0, 0, 0, 7, 0, 0x20000000, 0x20000000])).job.total ≤ ((sampleRun [2, 0, 0, 0, 7, 0, 0x20000000, 0x20000000])).next ∧
    127 < 128 ∧ wJobsRun10.jobRun 127 = some ((sampleRun [3, 0x1040, 0, 0, 7, 0, 0x20000000, 0x20000000])) ∧ ((sampleRun [3, 0x1040, 0, 0, 7, 0, 0x20000000, 0x20000000])).job.service = 3 ∧ ((sampleRun [3, 0x1040, 0, 0, 7, 0, 0x20000000, 0x20000000])).outcome = none ∧ (wJobsRun10.cluster (127 / 8)).acc.any (fun a => a.engine = 127) = false ∧ ((sampleRun [3, 0x1040, 0, 0, 7, 0, 0x20000000, 0x20000000])).fail = 0 ∧ ((sampleRun [3, 0x1040, 0, 0, 7, 0, 0x20000000, 0x20000000])).cancel = false ∧ ((sampleRun [3, 0x1040, 0, 0, 7, 0, 0x20000000, 0x20000000])).next < ((sampleRun [3, 0x1040, 0, 0, 7, 0, 0x20000000, 0x20000000])).job.total ∧ asdSpace (((sampleRun [3, 0x1040, 0, 0, 7, 0, 0x20000000, 0x20000000])).job.word 6) ≠ 2 ∧ asdSpace (((sampleRun [3, 0x1040, 0, 0, 7, 0, 0x20000000, 0x20000000])).job.word 7) ≠ 2 ∧
    127 < 128 ∧ wJobsRun11.jobRun 127 = some ((sampleRun [3, 0, 0, 0, 7, 0, 0x20000000, 0x20000000])) ∧ ((sampleRun [3, 0, 0, 0, 7, 0, 0x20000000, 0x20000000])).job.service = 3 ∧ ((sampleRun [3, 0, 0, 0, 7, 0, 0x20000000, 0x20000000])).outcome = none ∧ (wJobsRun11.cluster (127 / 8)).acc.any (fun a => a.engine = 127) = false ∧ ((sampleRun [3, 0, 0, 0, 7, 0, 0x20000000, 0x20000000])).fail = 0 ∧ ((sampleRun [3, 0, 0, 0, 7, 0, 0x20000000, 0x20000000])).job.total ≤ ((sampleRun [3, 0, 0, 0, 7, 0, 0x20000000, 0x20000000])).next ∧
    127 < 128 ∧ wJobsRun12.jobRun 127 = some ((sampleRun [4, 0x1040, 0, 0, 7, 0, 0x20000000, 0x20000000])) ∧ ((sampleRun [4, 0x1040, 0, 0, 7, 0, 0x20000000, 0x20000000])).job.service = 4 ∧ ((sampleRun [4, 0x1040, 0, 0, 7, 0, 0x20000000, 0x20000000])).outcome = none ∧ (wJobsRun12.cluster (127 / 8)).acc.any (fun a => a.engine = 127) = false ∧ ((sampleRun [4, 0x1040, 0, 0, 7, 0, 0x20000000, 0x20000000])).fail = 0 ∧ ((sampleRun [4, 0x1040, 0, 0, 7, 0, 0x20000000, 0x20000000])).cancel = false ∧ ((sampleRun [4, 0x1040, 0, 0, 7, 0, 0x20000000, 0x20000000])).next < ((sampleRun [4, 0x1040, 0, 0, 7, 0, 0x20000000, 0x20000000])).job.total ∧ asdSpace (((sampleRun [4, 0x1040, 0, 0, 7, 0, 0x20000000, 0x20000000])).job.word 6) ≠ 2 ∧ asdSpace (((sampleRun [4, 0x1040, 0, 0, 7, 0, 0x20000000, 0x20000000])).job.word 7) ≠ 2 ∧
    127 < 128 ∧ wJobsRun13.jobRun 127 = some ((sampleRun [4, 0, 0, 0, 7, 0, 0x20000000, 0x20000000])) ∧ ((sampleRun [4, 0, 0, 0, 7, 0, 0x20000000, 0x20000000])).job.service = 4 ∧ ((sampleRun [4, 0, 0, 0, 7, 0, 0x20000000, 0x20000000])).outcome = none ∧ (wJobsRun13.cluster (127 / 8)).acc.any (fun a => a.engine = 127) = false ∧ ((sampleRun [4, 0, 0, 0, 7, 0, 0x20000000, 0x20000000])).fail = 0 ∧ ((sampleRun [4, 0, 0, 0, 7, 0, 0x20000000, 0x20000000])).job.total ≤ ((sampleRun [4, 0, 0, 0, 7, 0, 0x20000000, 0x20000000])).next ∧
    127 < 128 ∧ State.reset.jobRun 127 = none ∧
    127 < 128 ∧ wJobsRun15.jobRun 127 = some ((sampleRun [6, 0, 0, 0, 0, 0, 0, 0])) ∧ ((sampleRun [6, 0, 0, 0, 0, 0, 0, 0])).job.service = 6 ∧ ((sampleRun [6, 0, 0, 0, 0, 0, 0, 0])).outcome = none ∧ wJobsRun15.dirListed = [] ∧
    127 < 128 ∧ wJobsRun16.jobRun 127 = some ((sampleRun [255, 0, 0, 0, 0, 0, 0, 0])) ∧ 0x40 ≤ ((sampleRun [255, 0, 0, 0, 0, 0, 0, 0])).job.service ∧ ((sampleRun [255, 0, 0, 0, 0, 0, 0, 0])).outcome = none ∧ (wJobsRun16.engine 127).user = true ∧ (wJobsRun16.engine 127).storeStalls ((⟨8, [(5, 9)], [], none, none, [(64, [7])]⟩ : CoreStep)) = false ∧
    127 < 128 ∧ (wJobsRun17.engine 127).storeStalls ((⟨8, [(5, 9)], [], none, none, [(64, [7])]⟩ : CoreStep)) = true ∧
    127 < 128 ∧ wJobsRun18.jobRun 127 = some ((sampleRun [255, 0, 0, 0, 0, 0, 0, 0])) ∧ 0x40 ≤ ((sampleRun [255, 0, 0, 0, 0, 0, 0, 0])).job.service ∧ ((sampleRun [255, 0, 0, 0, 0, 0, 0, 0])).outcome = none ∧ (wJobsRun18.engine 127).user = true ∧
    127 < 128 ∧ wJobsRun19.jobRun 127 = some ((sampleRun [255, 0, 0, 0, 0, 0, 0, 0])) ∧ 0x40 ≤ ((sampleRun [255, 0, 0, 0, 0, 0, 0, 0])).job.service ∧ ((sampleRun [255, 0, 0, 0, 0, 0, 0, 0])).outcome = none ∧ (wJobsRun19.engine 127).user = false ∧
    127 < 128 ∧ wJobsRun20.jobRun 127 = some ((sampleRun [255, 0, 0, 0, 0, 0, 0, 0])) ∧ ((sampleRun [255, 0, 0, 0, 0, 0, 0, 0])).outcome = none ∧
    127 < 128 ∧ wJobsRun21.jobRun 127 = some ({ (sampleRun [255, 0, 0, 0, 0, 0, 0, 0]) with outcome := some (0, 7, 9) }) ∧ ({ (sampleRun [255, 0, 0, 0, 0, 0, 0, 0]) with outcome := some (0, 7, 9) }).outcome = some (0, 7, 9) ∧ wJobsRun21.fenceMet 127 ({ (sampleRun [255, 0, 0, 0, 0, 0, 0, 0]) with outcome := some (0, 7, 9) }) 0 = true ∧ ({ (sampleRun [255, 0, 0, 0, 0, 0, 0, 0]) with outcome := some (0, 7, 9) }).job.id = some 1 ∧ (({ (sampleRun [255, 0, 0, 0, 0, 0, 0, 0]) with outcome := some (0, 7, 9) }).job.word 0).field 8 8 = 0 ∧ (wJobsRun21.cluster (127 / 8)).fill < 4096 ∧ (wJobsRun21.cluster (127 / 8)).recs = [] ∧ (wJobsRun21.cluster (127 / 8)).cancel = none ∧ bitOf (wJobsRun21.get TNG_CL_STAT.LIVE (127 / 8)) (127 % 8) = true ∧ (wJobsRun21.engine 127).reload = false ∧
    15 < 16 ∧ (wJobsRun22.cluster 15).recs = [] ∧
    15 < 16 ∧ (wJobsRun23.cluster 15).cancel = some 9 ∧
    15 < 16 ∧ (wJobsRun24.cluster 15).cancel = none ∧ (wJobsRun24.cluster 15).queue.find? (fun y => y.id = some (9 % 2 ^ 32)) = some ((⟨some 9, 3, [1, 0, 0, 0, 0, 0, 0, 0], 0⟩ : Job)) ∧
    15 < 16 ∧ (State.reset.cluster 15).cancel = none ∧ (State.reset.cluster 15).queue.find? (fun y => y.id = some (9 % 2 ^ 32)) = none ∧ State.reset.engineOf 15 (9 % 2 ^ 32) = none ∧
    15 < 16 ∧ (wJobsRun26.cluster 15).cancel = none ∧ (wJobsRun26.cluster 15).queue.find? (fun y => y.id = some (1 % 2 ^ 32)) = none ∧ wJobsRun26.engineOf 15 (1 % 2 ^ 32) = some 127 ∧ wJobsRun26.jobRun 127 = some ((sampleRun [255, 0, 0, 0, 0, 0, 0, 0])) ∧ ((sampleRun [255, 0, 0, 0, 0, 0, 0, 0])).grantedAt ≠ wJobsRun26.clk ∧ wJobsRun26.slotOfEngine 127 = none ∧
    127 < 128 ∧ wJobsRun27.engState 127 = 3 ∧
    127 < 128 ∧ wJobsRun28.engState 127 ≠ 3 ∧ wJobsRun28.jobRun 127 = some ((sampleRun [255, 0, 0, 0, 0, 0, 0, 0])) ∧ ((sampleRun [255, 0, 0, 0, 0, 0, 0, 0])).outcome = none ∧ wJobsRun28.slotOfEngine 127 = none ∧
    127 < 128 ∧ wJobsRun29.engState 127 ≠ 3 ∧ wJobsRun29.jobRun 127 = some ((sampleRun [255, 0, 0, 0, 0, 0, 0, 0])) ∧ ((sampleRun [255, 0, 0, 0, 0, 0, 0, 0])).outcome = none ∧ wJobsRun29.slotOfEngine 127 = none ∧ wJobsRun29.get TNG_CL_CFG.WDOG_MS (127 / 8) ≠ 0 ∧
    127 < 128 ∧ wJobsRun30.jobRun 127 = some ((sampleRun [255, 0, 0, 0, 0, 0, 0, 0])) ∧ wJobsRun30.get TNG_CL_CFG.WDOG_MS (127 / 8) = 0 ∧
    127 < 128 ∧ wJobsRun31.engState 127 = 4 ∧
    127 < 128 ∧ wJobsRun32.engState 127 ≠ 4 ∧
    127 < 128 ∧ ((∀ k ∈ List.range 8, 8 * (127 / 8) + k ≠ 127 → (wJobsRun33.engine (8 * (127 / 8) + k)).reload = false ∧ wJobsRun33.engState (8 * (127 / 8) + k) ≠ 4)) ∧ wJobsRun33.engState 127 ≠ 3 ∧ wJobsRun33.engState 127 ≠ 4 ∧ wJobsRun33.reloadDue.contains 127 = true ∧ wJobsRun33.jobRun 127 = some ((sampleRun [255, 0, 0, 0, 0, 0, 0, 0])) ∧
    127 < 128 ∧ ((∀ k ∈ List.range 8, 8 * (127 / 8) + k ≠ 127 → (wJobsRun34.engine (8 * (127 / 8) + k)).reload = false ∧ wJobsRun34.engState (8 * (127 / 8) + k) ≠ 4)) ∧ wJobsRun34.engState 127 ≠ 3 ∧ wJobsRun34.engState 127 ≠ 4 ∧ wJobsRun34.reloadDue.contains 127 = true ∧ wJobsRun34.jobRun 127 = none ∧ bitOf (wJobsRun34.get TNG_CL_STAT.LIVE (127 / 8)) (127 % 8) = true ∧
    127 < 128 ∧ (wJobsRun35.engState 127 = 3 ∨ wJobsRun35.engState 127 = 4 ∨ wJobsRun35.reloadDue.contains 127 = false) := by
  and_intros <;> decide +kernel

def wSlotsPowered0 : State := ({ ((((State.reset.set SLT_CFG.VALID 63 1).set SLT_STAT.TEL_LOST 63 1).set SLT_MEAS3.SEQ 63 255).set SLT_MEAS2.ENERGY 63 9) with phase := .operating } : State)
def wSlotsPowered1 : State := (({ ((State.reset.set SLT_CFG.VALID 63 1).set SLT_STAT.STATE 63 3) with phase := .operating } : State).setSlot 63 { SlotState.idle with badPolls := 2 })
def wSlotsPowered4 : State := (({ (State.reset.set SLT_CFG.VALID 63 1) with phase := .operating } : State).setSlot 63 { SlotState.idle with pwrEn := true, offPend := true })
def wSlotsPowered5 : State := ({ ((((((State.reset.set SLT_CFG.VALID 63 1).set SLT_CFG.PROFILE 63 3).set SLT_PROF.ILIM_INR 3 77).set SLT_CTL.ADMIN 63 1).set SLT_STAT.HOST_ON 63 1).set SLT_STAT.PRSNT 63 1) with phase := .operating } : State)
def wSlotsPowered6 : State := (State.reset.setSlot 63 { SlotState.idle with absent := 1 })
def wSlotsPowered8 : State := ((State.reset.set SLT_STAT.STATE 63 1).set SLT_STAT.PGOOD 63 1)
def wSlotsPowered9 : State := (((State.reset.set SLT_STAT.STATE 63 2).set SLT_CFG.PROFILE 63 2).set SLT_PROF.ILIM_RUN 2 99)
def wSlotsPowered10 : State := (State.reset.set SLT_STAT.STATE 63 3)
def wSlotsPowered11 : State := (((State.reset.set SLT_STAT.STATE 63 3).set SLT_STAT.TRIES 63 2).setSlot 63 { SlotState.idle with retrying := true })
def wSlotsPowered13 : State := ((((State.reset.set SLT_STAT.STATE 63 2).set SLT_CTL.ADMIN 63 1).set SLT_STAT.HOST_ON 63 0).setSlot 63 { SlotState.idle with pwrEn := true, perstN := true })
def wSlotsPowered14 : State := (((State.reset.set SLT_STAT.STATE 63 1).set SLT_CTL.ADMIN 63 1).set SLT_STAT.HOST_ON 63 1)
def wSlotsPowered15 : State := (((State.reset.set SLT_STAT.STATE 63 5).set SLT_STAT.TRIES 63 2).set SLT_CTL.ADMIN 63 0)
def wSlotsPowered17 : State := (((((State.reset.set SLT_CFG.VALID 63 1).set SLT_CFG.PORT 63 127).set VPPB_ENTRY.STATE 1023 2).set VPPB_ENTRY.TARGET 1023 127).set SLT_STAT.STATE 63 3)
def wSlotsPowered18 : State := (({ ((((State.reset.set SLT_STAT.STATE 63 1).set SLT_CTL.ADMIN 63 1).set SLT_GCFG.RETRY_MAX 0 2).set SLT_GCFG.RETRY_MIN_MS 0 1000) with clk := 30000000 } : State).setSlot 63 { SlotState.idle with pwrEn := true })
def wSlotsPowered19 : State := (((((State.reset.set SLT_STAT.STATE 63 3).set SLT_STAT.TRIES 63 1).set SLT_CTL.ADMIN 63 1).set SLT_GCFG.RETRY_MAX 0 2).setSlot 63 { SlotState.idle with pgLow := 2, retrying := true })
def wSlotsPowered20 : State := (((State.reset.set SLT_STAT.STATE 63 3).set SLT_CTL.ADMIN 63 0).setSlot 63 { SlotState.idle with alert := true })
def wSlotsPowered21b : State := (State.reset.set SLT_STAT.STATE 63 3)
def wSlotsPowered22 : State := ({ ((((State.reset.set SLT_STAT.STATE 63 4).set SLT_CTL.ADMIN 63 1).set SLT_STAT.HOST_ON 63 1).set SLT_STAT.PRSNT 63 1) with clk := 5 } : State)
def wSlotsPowered23 : State := (State.reset.set SLT_STAT.STATE 63 4)
def wSlotsPowered24 : State := ((State.reset.set SLT_STAT.STATE 63 4).setSlot 63 { SlotState.idle with waitUntil := 1 })
def wSlotsPowered25 : State := (({ (State.reset.set SLT_CFG.VALID 63 1) with phase := .operating } : State).setSlot 63 { SlotState.idle with pgHigh := 2 })
def wSlotsPowered26 : State := (((State.reset.set SLT_CFG.VALID 63 1).set SLT_STAT.TEL_LOST 63 1).setSlot 63 { SlotState.idle with pgHigh := 2 })
def wSlotsPowered27 : State := ((State.reset.set SLT_STAT.STATE 63 5).set SLT_STAT.TRIES 63 3)
def wSlotsPowered28 : State := (((State.reset.set SLT_STAT.STATE 63 6).set SLT_CFG.FET_MV 63 9).set SLT_MEAS0.VOUT 63 9)
def wSlotsPowered29 : State := (((State.reset.set SLT_STAT.STATE 63 6).set SLT_CFG.FET_MV 63 9).set SLT_MEAS0.VOUT 63 10)
def wSlotsPowered30 : State := ((State.reset.set SLT_STAT.STATE 63 3).set SLT_CTL.PWRBRK 63 1)
def wSlotsPowered32 : State := ({ ((State.reset.set SLT_STAT.PWRBRK 63 1).setSlot 63 { SlotState.idle with pwrbrkN := false, vinOkAt := some 5 }) with clk := 10000005 } : State)
def wSlotsPowered34 : State := ({ ({ ((State.reset.set SLT_CFG.VALID 63 1).set SLT_CFG.PWRBRK_MV 63 10000) with phase := .operating } : State) with clk := 77 } : State)
def wSlotsPowered35 : State := ((((State.reset.set SLT_STAT.STATE 63 3).set SLT_STAT.PRSNT 63 1).set SLT_STAT.TRIPS 63 4).setSlot 63 { SlotState.idle with absent := 2, pwrEn := true, perstN := true })
def wSlotsPowered36 : State := ((State.reset.set SLT_STAT.STATE 63 3).setSlot 63 { SlotState.idle with absent := 1 })
def wSlotsPowered37 : State := ((State.reset.set SLT_STAT.STATE 63 3).set SLT_GCFG.RETRY_MIN_MS 0 1000)
def wSlotsPowered38 : State := (((State.reset.set SLT_CFG.PORT 63 127).set VPPB_ENTRY.STATE 1023 2).set VPPB_ENTRY.TARGET 1023 127)
/-- Hypotheses of SlotsPowered met. -/
theorem witness_SlotsPowered :
    63 < 64 ∧ wSlotsPowered0.slotRuns 63 = true ∧
    63 < 64 ∧ wSlotsPowered1.slotRuns 63 = true ∧ 2 ≤ (wSlotsPowered1.slot 63).badPolls ∧
    63 < 64 ∧ State.reset.slotRuns 63 = false ∧
    State.reset.phase ≠ .provision ∧ State.reset.phase ≠ .operating ∧
    wSlotsPowered4.phase = .operating ∧ (List.range 64).filter wSlotsPowered4.slotRuns = [63] ∧
    63 < 64 ∧ wSlotsPowered5.slotRuns 63 = true ∧ wSlotsPowered5.get SLT_STAT.STATE 63 = 0 ∧ wSlotsPowered5.commandedOn 63 = true ∧ (wSlotsPowered5.slot 63).waitUntil ≤ wSlotsPowered5.clk ∧ (wSlotsPowered5.slot 63).absent = 0 ∧
    63 < 64 ∧ wSlotsPowered6.get SLT_STAT.STATE 63 = 0 ∧ 0 < (wSlotsPowered6.slot 63).absent ∧
    63 < 64 ∧ State.reset.commandedOn 63 = false ∧
    63 < 64 ∧ wSlotsPowered8.get SLT_STAT.STATE 63 = 1 ∧ wSlotsPowered8.flag SLT_STAT.PGOOD 63 = true ∧
    63 < 64 ∧ wSlotsPowered9.get SLT_STAT.STATE 63 = 2 ∧
    63 < 64 ∧ wSlotsPowered10.get SLT_STAT.STATE 63 = 3 ∧
    63 < 64 ∧ wSlotsPowered11.get SLT_STAT.STATE 63 = 3 ∧
    63 < 64 ∧ State.reset.get SLT_STAT.STATE 63 = 0 ∧
    63 < 64 ∧ wSlotsPowered13.slotPowered 63 = true ∧ (wSlotsPowered13.flag SLT_CTL.ADMIN 63 = false ∨ wSlotsPowered13.flag SLT_STAT.HOST_ON 63 = false) ∧
    63 < 64 ∧ wSlotsPowered14.slotPowered 63 = true ∧ wSlotsPowered14.flag SLT_CTL.ADMIN 63 = true ∧ wSlotsPowered14.flag SLT_STAT.HOST_ON 63 = true ∧
    63 < 64 ∧ (wSlotsPowered15.get SLT_STAT.STATE 63 = 4 ∨ wSlotsPowered15.get SLT_STAT.STATE 63 = 5) ∧ wSlotsPowered15.flag SLT_CTL.ADMIN 63 = false ∧
    1023 < 1024 ∧ (State.reset.vppb 1023).op = none ∧ State.reset.slotOf (State.reset.get VPPB_ENTRY.TARGET 1023 % 512) = none ∧
    1023 < 1024 ∧ (wSlotsPowered17.vppb 1023).op = none ∧ (wSlotsPowered17.get VPPB_ENTRY.STATE 1023 = 1 ∨ wSlotsPowered17.get VPPB_ENTRY.STATE 1023 = 2) ∧ wSlotsPowered17.flag VPPB_ENTRY.REMOTE 1023 = false ∧ wSlotsPowered17.slotOf (wSlotsPowered17.get VPPB_ENTRY.TARGET 1023 % 512) = some 63 ∧ wSlotsPowered17.slotPowered 63 = true ∧
    63 < 64 ∧ wSlotsPowered18.slotPowered 63 = true ∧ wSlotsPowered18.tripShown 63 3 = true ∧ wSlotsPowered18.flag SLT_CTL.ADMIN 63 = true ∧ (wSlotsPowered18.slot 63).retrying = false ∧ wSlotsPowered18.get SLT_STAT.TRIES 63 < wSlotsPowered18.get SLT_GCFG.RETRY_MAX 0 ∧
    63 < 64 ∧ wSlotsPowered19.slotPowered 63 = true ∧ wSlotsPowered19.tripShown 63 4 = true ∧ wSlotsPowered19.flag SLT_CTL.ADMIN 63 = true ∧ (wSlotsPowered19.slot 63).retrying = true ∧ wSlotsPowered19.get SLT_GCFG.RETRY_MAX 0 ≤ wSlotsPowered19.get SLT_STAT.TRIES 63 + 1 ∧
    63 < 64 ∧ wSlotsPowered20.slotPowered 63 = true ∧ wSlotsPowered20.tripShown 63 5 = true ∧ wSlotsPowered20.flag SLT_CTL.ADMIN 63 = false ∧
    63 < 64 ∧ (State.reset.slotPowered 63 = false ∨ State.reset.tripShown 63 3 = false) ∧
    63 < 64 ∧ (wSlotsPowered21b.slotPowered 63 = false ∨ wSlotsPowered21b.tripShown 63 3 = false) ∧
    63 < 64 ∧ wSlotsPowered22.get SLT_STAT.STATE 63 = 4 ∧ (wSlotsPowered22.slot 63).waitUntil ≤ wSlotsPowered22.clk ∧ wSlotsPowered22.commandedOn 63 = true ∧ (wSlotsPowered22.slot 63).absent = 0 ∧
    63 < 64 ∧ wSlotsPowered23.get SLT_STAT.STATE 63 = 4 ∧ (wSlotsPowered23.slot 63).waitUntil ≤ wSlotsPowered23.clk ∧ wSlotsPowered23.commandedOn 63 = false ∧
    63 < 64 ∧ wSlotsPowered24.clk < (wSlotsPowered24.slot 63).waitUntil ∧
    63 < 64 ∧ wSlotsPowered25.slotRuns 63 = true ∧ wSlotsPowered25.get SLT_STAT.STATE 63 = 0 ∧ wSlotsPowered25.flag SLT_STAT.TEL_LOST 63 = false ∧ (3 ≤ (wSlotsPowered25.slot 63).voutHigh ∨ 2 ≤ (wSlotsPowered25.slot 63).pgHigh) ∧ wSlotsPowered25.flag FLT_REC0.PEND 4 = false ∧
    63 < 64 ∧ wSlotsPowered26.flag SLT_STAT.TEL_LOST 63 = true ∧
    63 < 64 ∧ wSlotsPowered27.get SLT_STAT.STATE 63 = 5 ∧ wSlotsPowered27.commandedOn 63 = false ∧
    63 < 64 ∧ wSlotsPowered28.get SLT_STAT.STATE 63 = 6 ∧ wSlotsPowered28.get SLT_MEAS0.VOUT 63 ≤ wSlotsPowered28.get SLT_CFG.FET_MV 63 ∧ wSlotsPowered28.flag SLT_STAT.PGOOD 63 = false ∧
    63 < 64 ∧ wSlotsPowered29.get SLT_STAT.STATE 63 = 6 ∧ (wSlotsPowered29.get SLT_CFG.FET_MV 63 < wSlotsPowered29.get SLT_MEAS0.VOUT 63 ∨ wSlotsPowered29.flag SLT_STAT.PGOOD 63 = true) ∧
    63 < 64 ∧ wSlotsPowered30.slotPowered 63 = true ∧ (wSlotsPowered30.slot 63).pwrbrkN = true ∧ ((false = true ∧ (wSlotsPowered30.slot 63).alert = true) ∨ 2 ≤ (wSlotsPowered30.slot 63).vinLow ∨ wSlotsPowered30.flag SLT_CTL.PWRBRK 63 = true) ∧
    63 < 64 ∧ (State.reset.slotPowered 63 = false ∨ (State.reset.slot 63).pwrbrkN = false) ∧
    63 < 64 ∧ wSlotsPowered32.flag SLT_CTL.PWRBRK 63 = false ∧ (wSlotsPowered32.slot 63).vinOkAt = some 5 ∧ 5 + 10000000 ≤ wSlotsPowered32.clk ∧
    63 < 64 ∧ (State.reset.flag SLT_CTL.PWRBRK 63 = true ∨ (State.reset.slot 63).vinOkAt = none ∨ (∃ k, (State.reset.slot 63).vinOkAt = some k ∧ State.reset.clk < k + 10000000)) ∧
    63 < 64 ∧ wSlotsPowered34.slotRuns 63 = true ∧ 10101 < 65536 ∧
    63 < 64 ∧ 2 ≤ (wSlotsPowered35.slot 63).absent ∧ wSlotsPowered35.slotPowered 63 = true ∧
    63 < 64 ∧ (wSlotsPowered36.slot 63).absent < 2 ∧
    63 < 64 ∧ wSlotsPowered37.slotPowered 63 = true ∧
    63 < 64 ∧ wSlotsPowered38.slotBound 63 = [1023] ∧
    63 < 64 ∧ State.reset.slotBound 63 = [] := by
  and_intros <;> decide +kernel

def wResetsAndModes0 : State := ({ ({ ({ (State.reset.set MGT_OWN_STAT.HELD 0 1) with phase := .operating } : State) with hbm := [(5, 1), (40000000000, 2)] } : State) with repairMap.lanes := [(1, some (2, 3))] } : State)
def wResetsAndModes1 : State := ({ State.reset with phase := .safe } : State)
def wResetsAndModes3 : State := ({ State.reset with hbm := [(5, 1)] } : State)
def wResetsAndModes4 : State := ({ ({ State.reset with phase := .reset } : State) with resetBy := [3] } : State)
def wResetsAndModes5 : State := ({ ({ ({ ({ State.reset with phase := .reset } : State) with resetBy := [3] } : State) with clk := 9 } : State) with clkLost := [15] } : State)
def wResetsAndModes6 : State := ({ ({ State.reset with phase := .reset } : State) with resetBy := [3] } : State)
def wResetsAndModes7 : State := ({ ({ State.reset with phase := .reset } : State) with resetBy := [3, 1] } : State)
def wResetsAndModes9 : State := ({ State.reset with phase := .safe } : State)
def wResetsAndModes11 : State := ({ (State.reset.set PRT_LINK_STATUS.STATE 127 6) with phase := .operating } : State)
def wResetsAndModes12 : State := ({ State.reset with phase := .reset } : State)
def wResetsAndModes13 : State := ({ State.reset with phase := .verify } : State)
def wResetsAndModes14 : State := (State.reset.set PWR_RESET_STAT.CAUSE 0 3)
def wResetsAndModes15 : State := ({ ({ State.reset with phase := .verify } : State) with staged := some (1, ImgContent.empty) } : State)
def wResetsAndModes16 : State := ({ State.reset with phase := .reset } : State)
def wResetsAndModes17 : State := ({ ({ ((List.range 128).foldl (fun u e => u.set TNG_ENG_STAT.STATE e 0) (State.reset.set MGT_CHIP_INFO.ROLE 0 1)) with phase := .provision } : State) with clk := 120000000 } : State)
def wResetsAndModes18b : State := ({ State.reset with phase := .provision } : State)
def wResetsAndModes19 : State := (State.reset.set FLT_REG_STAT.STATE 3 1)
def wResetsAndModes20 : State := (State.reset.set FLT_REG_STAT.STATE 3 1)
def wResetsAndModes22 : State := (((State.reset.set FLT_REG_STAT.STATE 3 2).set MGT_CHIP_INFO.REGION_LIVE 0 7).set FLT_STAT.FENCED 0 8)
def wResetsAndModes23 : State := (State.reset.set FLT_REG_STAT.STATE 3 2)
def wResetsAndModes26 : State := ((((State.reset.set PRT_CFG.MODE 63 2).set PRT_CFG.ROLE1 63 1).set PRT_LINK_STATUS.STATE 127 6).set PRT_LINK_STATUS.DL_UP 127 1)
def wResetsAndModes27 : State := ({ State.reset with phase := .reset } : State)
def wResetsAndModes28 : State := ({ ({ (((State.reset.set PRT_CFG.MODE 63 2).set PRT_CFG.ROLE1 63 1).set PRT_LINK_CTL.ADMIN1 63 1) with phase := .operating } : State) with clkLost := [15, 3] } : State)
def wResetsAndModes29 : State := ({ ({ State.reset with phase := .reset } : State) with clkLost := [16] } : State)
def wResetsAndModes30 : State := ({ State.reset with clkLost := [16] } : State)
/-- Hypotheses of ResetsAndModes met. -/
theorem witness_ResetsAndModes :
    wResetsAndModes0.phase ≠ .reset ∧
    wResetsAndModes1.phase ≠ .reset ∧
    State.reset.phase ≠ .reset ∧
    wResetsAndModes4.phase = .reset ∧ wResetsAndModes4.resetBy.contains 1 = false ∧
    wResetsAndModes5.phase = .reset ∧ wResetsAndModes5.resetBy.filter (fun c : Nat => decide (c ≠ 3)) = [] ∧ wResetsAndModes5.clkLost.contains 16 = false ∧
    wResetsAndModes6.phase = .reset ∧ wResetsAndModes6.resetBy.filter (fun c : Nat => decide (c ≠ 3)) = [] ∧ wResetsAndModes6.clkLost.contains 16 = false ∧
    wResetsAndModes7.phase = .reset ∧ (wResetsAndModes7.resetBy.filter (fun c : Nat => decide (c ≠ 3)) ≠ [] ∨ wResetsAndModes7.clkLost.contains 16 = true) ∧
    State.reset.phase ≠ .reset ∧
    wResetsAndModes9.phase = .safe ∧
    State.reset.phase ≠ .safe ∧
    wResetsAndModes11.phase ≠ .reset ∧ 127 < 128 ∧
    wResetsAndModes12.phase = .reset ∧
    (wResetsAndModes13.phase = .boot ∨ wResetsAndModes13.phase = .verify) ∧ wResetsAndModes13.hbmReady = false ∧
    wResetsAndModes14.phase ≠ .reset ∧ wResetsAndModes14.hbmReady = false ∧ wResetsAndModes14.staged = none ∧
    wResetsAndModes15.phase = .verify ∧ wResetsAndModes15.hbmReady = false ∧ wResetsAndModes15.staged = some ((1, ImgContent.empty)) ∧
    (wResetsAndModes16.phase = .reset ∨ wResetsAndModes16.hbmReady = true) ∧
    wResetsAndModes17.phase = .provision ∧ (List.range 128).any (fun e => decide (wResetsAndModes17.engState e = 4)) = false ∧
    (State.reset.phase ≠ .provision ∨ (List.range 128).any (fun e => decide (State.reset.engState e = 4)) = true) ∧
    (wResetsAndModes18b.phase ≠ .provision ∨ (List.range 128).any (fun e => decide (wResetsAndModes18b.engState e = 4)) = true) ∧
    3 < 4 ∧ bitOf 15 3 = true ∧ wResetsAndModes19.mayRecover 3 = true ∧
    0 < 4 ∧ bitOf 15 0 = true ∧ wResetsAndModes20.mayRecover 0 = false ∧
    16 % 16 = 0 ∧
    3 < 4 ∧ wResetsAndModes22.regionState 3 = 2 ∧
    3 < 4 ∧ wResetsAndModes23.regionState 3 = 2 ∧
    3 < 4 ∧ State.reset.regionState 3 ≠ 2 ∧
    State.reset.phase ≠ .reset ∧
    15 < 16 ∧ wResetsAndModes26.phase ≠ .reset ∧ 127 / 8 = 15 ∧ wResetsAndModes26.portExists 127 = true ∧ wResetsAndModes26.role 127 ≠ 2 ∧
    16 < 17 ∧ wResetsAndModes27.phase = .reset ∧ wResetsAndModes27.clkLost.contains 16 = false ∧
    15 < 16 ∧ 127 / 8 = 15 ∧ wResetsAndModes28.role 127 ≠ 2 ∧ ({ wResetsAndModes28 with clkLost := wResetsAndModes28.clkLost.filter (fun c : Nat => decide (c ≠ 15)) } : State).bringUpReady 127 = true ∧ wResetsAndModes28.get PRT_LINK_STATUS.STATE 127 = 0 ∧
    wResetsAndModes29.phase = .reset ∧ wResetsAndModes29.resetBy = [] ∧
    (wResetsAndModes30.phase ≠ .reset ∨ wResetsAndModes30.resetBy ≠ []) := by
  and_intros <;> decide +kernel

def wPerstAndBanking0 : State := ({ ((((State.reset.set PRT_CFG.MODE 63 2).set PRT_LINK_STATUS.STATE 127 6).set PRT_LINK_STATUS.DL_UP 127 1).set PWR_PERST.LEVEL 0 9223372036854775808) with phase := .operating } : State)
def wPerstAndBanking1 : State := ({ ((((State.reset.set PRT_CFG.MODE 63 2).set VCS_ENTRY.ACTIVE 63 1).set VCS_ENTRY.USP_PORT 63 127).set VCS_ENTRY.BI_EN 63 1) with phase := .operating } : State)
def wPerstAndBanking2 : State := (State.reset.set PWR_PERST.LEVEL 0 9223372036854775808)
def wPerstAndBanking3 : State := ({ ((State.reset.set PRT_CFG.MODE 63 2).set PRT_LINK_CTL.ADMIN1 63 1) with phase := .operating } : State)
def wPerstAndBanking4 : State := ({ State.reset with phase := .reset } : State)
def wPerstAndBanking5 : State := (State.reset.set PRT_CFG.MODE 63 2)
def wPerstAndBanking5b : State := (State.reset.set PRT_CFG.MODE 63 1)
def wPerstAndBanking8 : State := (State.reset.set PWR_BANK_UNIT.CLUSTER 0 32768)
def wPerstAndBanking9 : State := (State.reset.set PWR_BANK_UNIT.SLICE 0 32768)
def wPerstAndBanking10 : State := ((((State.reset.set PRT_CFG.MODE 63 2).set PWR_BANK_PORT.BANK 1 9223372036854775808).set PRT_LINK_STATUS.DL_UP 127 1).set PRT_LINK_STATUS.STATE 127 6)
def wPerstAndBanking11 : State := ((((State.reset.set PRT_CFG.MODE 63 2).set PWR_BANK_PORT.BANK 1 9223372036854775808).set PRT_LINK_STATUS.DL_UP 127 1).set PRT_LINK_STATUS.STATE 127 6)
def wPerstAndBanking13 : State := (State.reset.set PWR_BANK_USTAT.SLICE 0 32768)
def wPerstAndBanking14 : State := ((State.reset.set PWR_BANK_PSTAT.BANKED 1 9223372036854775808).set PRT_LINK_STATUS.STATE 127 8)
def wPerstAndBanking16 : State := ((State.reset.set PWR_BANK_UNIT.CLUSTER 0 32768).set PWR_BANK_CFG.IDLE_US 0 5)
def wPerstAndBanking17 : State := ((State.reset.set PWR_BANK_UNIT.CLUSTER 0 32768).set PWR_BANK_CFG.IDLE_US 0 0)
/-- Hypotheses of PerstAndBanking met. -/
theorem witness_PerstAndBanking :
    63 < 64 ∧ (wPerstAndBanking0.phase = .provision ∨ wPerstAndBanking0.phase = .operating) ∧ 127 ∈ wPerstAndBanking0.perstPorts 63 ∧
    63 < 64 ∧ (wPerstAndBanking1.phase = .provision ∨ wPerstAndBanking1.phase = .operating) ∧ 127 ∈ wPerstAndBanking1.perstPorts 63 ∧ wPerstAndBanking1.vcsOf 127 = some 63 ∧
    63 < 64 ∧ (wPerstAndBanking2.phase = .boot ∨ wPerstAndBanking2.phase = .verify ∨ wPerstAndBanking2.phase = .safe ∨ wPerstAndBanking2.phase = .test) ∧
    63 < 64 ∧ wPerstAndBanking3.phase ≠ .reset ∧ 127 ∈ wPerstAndBanking3.perstPorts 63 ∧ (wPerstAndBanking3.setBit PWR_PERST.LEVEL 0 63 true).bringUpReady 127 = true ∧ wPerstAndBanking3.get PRT_LINK_STATUS.STATE 127 = 0 ∧
    63 < 64 ∧ wPerstAndBanking4.phase = .reset ∧
    1 < 2 ∧ 63 < 64 ∧
    1 < 2 ∧ 63 < 64 ∧
    128 ≤ 143 ∧ 143 < 144 ∧ wPerstAndBanking8.bankBit 143 = true ∧ wPerstAndBanking8.banked 143 = false ∧ wPerstAndBanking8.live (wPerstAndBanking8.bankRegion 143) = true ∧ (List.range 8).any (fun k => (wPerstAndBanking8.jobRun (8 * (143 - 128) + k)).isSome) = false ∧
    144 ≤ 159 ∧ 159 < 160 ∧ wPerstAndBanking9.bankBit 159 = true ∧ wPerstAndBanking9.banked 159 = false ∧ wPerstAndBanking9.live (wPerstAndBanking9.bankRegion 159) = true ∧ wPerstAndBanking9.txns.any (fun w => decide (w.slice = 159 - 144)) = false ∧
    127 < 128 ∧ wPerstAndBanking10.bankBit 127 = true ∧ wPerstAndBanking10.banked 127 = false ∧ wPerstAndBanking10.portExists 127 = true ∧ wPerstAndBanking10.live (wPerstAndBanking10.bankRegion 127) = true ∧ wPerstAndBanking10.role 127 ≠ 2 ∧ wPerstAndBanking10.flag PRT_LINK_STATUS.DL_UP 127 = true ∧ wPerstAndBanking10.portDrained 127 = true ∧
    127 < 128 ∧ wPerstAndBanking11.bankBit 127 = true ∧ wPerstAndBanking11.banked 127 = false ∧ wPerstAndBanking11.portExists 127 = true ∧ wPerstAndBanking11.live (wPerstAndBanking11.bankRegion 127) = true ∧ wPerstAndBanking11.role 127 ≠ 2 ∧ wPerstAndBanking11.flag PRT_LINK_STATUS.DL_UP 127 = true ∧ wPerstAndBanking11.portDrained 127 = true ∧
    159 < 160 ∧ ((State.reset.bankBit 159 = false ∧ State.reset.flag PWR_CTL.BANK_ALL 0 = false) ∨ State.reset.banked 159 = true) ∧
    159 < 160 ∧ wPerstAndBanking13.banked 159 = true ∧
    127 < 128 ∧ wPerstAndBanking14.banked 127 = true ∧ wPerstAndBanking14.role 127 ≠ 2 ∧ wPerstAndBanking14.get PRT_LINK_STATUS.STATE 127 = 8 ∧
    159 < 160 ∧ State.reset.banked 159 = false ∧
    128 ≤ 143 ∧ 143 < 144 ∧ wPerstAndBanking16.get PWR_BANK_CFG.IDLE_US 0 ≠ 0 ∧ wPerstAndBanking16.bankBit 143 = true ∧ wPerstAndBanking16.banked 143 = false ∧ wPerstAndBanking16.live (wPerstAndBanking16.bankRegion 143) = true ∧ (List.range 8).any (fun k => (wPerstAndBanking16.jobRun (8 * (143 - 128) + k)).isSome) = false ∧
    143 < 160 ∧ wPerstAndBanking17.get PWR_BANK_CFG.IDLE_US 0 = 0 := by
  and_intros <;> decide +kernel

def wRegisterAccess0 : State := ((({ State.reset with phase := .operating } : State).set MGT_SESS.OPEN 7 1).set SLT_GCFG.RETRY_MAX 0 9)
def wRegisterAccess1 : State := ((wOwner.set SLT_STAT.PMB_ERR 63 9).set SLT_STAT.TRIPS 63 3)
def wRegisterAccess1b : State := ((({ State.reset with phase := .operating } : State).set MGT_SESS.OPEN 7 1).set SLT_STAT.PMB_ERR 63 9)
def wRegisterAccess2 : State := (({ State.reset with phase := .operating } : State).set MGT_SESS.OPEN 7 1)
def wRegisterAccess2b : State := (({ State.reset with phase := .operating } : State).set MGT_SESS.OPEN 7 1)
def wRegisterAccess3 : State := (({ State.reset with phase := .operating } : State).set MGT_SESS.OPEN 7 1)
def wRegisterAccess4 : State := ({ State.reset with phase := .operating } : State)
def wRegisterAccess5 : State := wOwner
def wRegisterAccess6 : State := (({ State.reset with phase := .operating } : State).set MGT_SESS.OPEN 7 1)
def wRegisterAccess7 : State := wOwner
def wRegisterAccess8 : State := wOwner
def wRegisterAccess9 : State := ({ ((({ State.reset with phase := .operating } : State).set MGT_SESS.OPEN 7 1).set MGT_HBM_DBG_BASE.WINDOW 0 95) with hbm := [(51539607544, 5)] } : State)
def wRegisterAccess10 : State := ({ wOwner with phase := .test } : State)
def wRegisterAccess11 : State := wOwner
def wRegisterAccess14 : State := ((State.reset.set MGT_DRS_ERR.PEND 0 1).set MGT_DRS_ERR.COUNT 0 5)
def wRegisterAccess15 : State := ((State.reset.set MGT_DRS_ERR.PEND 0 1).set MGT_DRS_ERR.COUNT 0 5)
def wRegisterAccess16 : State := (({ State.reset with phase := .operating } : State).set MGT_SESS.OPEN 7 1)
def wRegisterAccess17 : State := wOwner
def wRegisterAccess18 : State := (({ State.reset with phase := .operating } : State).set MGT_SESS.OPEN 7 1)
def wRegisterAccess19 : State := (({ State.reset with phase := .operating } : State).set MGT_SESS.OPEN 7 1)
def wRegisterAccess20 : State := (({ State.reset with phase := .operating } : State).set MGT_SESS.OPEN 7 1)
def wRegisterAccess21 : State := ({ ((({ State.reset with phase := .safe } : State).set MGT_SESS.OPEN 7 1).set MGT_SESS.PATH 7 1) with tim := ⟨7, 8, 9⟩ } : State)
/-- Hypotheses of RegisterAccess met. -/
theorem witness_RegisterAccess :
    7 < 8 ∧ (drsAddr .SLT_GCFG 0) < 2 ^ 30 ∧ (drsAddr .SLT_GCFG 0) % 8 = 0 ∧ wRegisterAccess0.reachable (wRegisterAccess0.get MGT_SESS.PATH 7) = true ∧ wRegisterAccess0.sesOpen 7 = true ∧ (wRegisterAccess0.sesAt 7).last = none ∧ wRegisterAccess0.locate (drsAddr .SLT_GCFG 0) = .reg ((RegKind.SLT_GCFG)) 0 ∧ ((RegKind.SLT_GCFG)) ∈ [RegKind.PRT_CFG, .SLT_GCFG, .TIM_CFG, .PWR_MODE, .FLT_CFG, .MGT_CHIP_INFO, .TMP_CFG] ∧
    7 < 8 ∧ (drsAddr .SLT_STAT 63) < 2 ^ 30 ∧ (drsAddr .SLT_STAT 63) % 8 = 0 ∧ wRegisterAccess1.reachable (wRegisterAccess1.get MGT_SESS.PATH 7) = true ∧ wRegisterAccess1.sesOpen 7 = true ∧ (wRegisterAccess1.sesAt 7).last = none ∧ wRegisterAccess1.locate (drsAddr .SLT_STAT 63) = .reg .SLT_STAT 63 ∧
    7 < 8 ∧ (drsAddr .SLT_STAT 63) < 2 ^ 30 ∧ (drsAddr .SLT_STAT 63) % 8 = 0 ∧ wRegisterAccess1b.reachable (wRegisterAccess1b.get MGT_SESS.PATH 7) = true ∧ wRegisterAccess1b.sesOpen 7 = true ∧ (wRegisterAccess1b.sesAt 7).last = none ∧ wRegisterAccess1b.locate (drsAddr .SLT_STAT 63) = .reg .SLT_STAT 63 ∧
    7 < 8 ∧ 3 < 4 ∧ 1073741823 < 2 ^ 30 ∧ wRegisterAccess2.reachable (wRegisterAccess2.get MGT_SESS.PATH 7) = true ∧ wRegisterAccess2.sesOpen 7 = true ∧ (wRegisterAccess2.sesAt 7).last = none ∧ (1073741823 % 2 ^ 3 ≠ 0 ∨ wRegisterAccess2.locate 1073741823 = .reserved) ∧
    7 < 8 ∧ 0 < 4 ∧ 0x15000000 < 2 ^ 30 ∧ wRegisterAccess2b.reachable (wRegisterAccess2b.get MGT_SESS.PATH 7) = true ∧ wRegisterAccess2b.sesOpen 7 = true ∧ (wRegisterAccess2b.sesAt 7).last = none ∧ (0x15000000 % 2 ^ 0 ≠ 0 ∨ wRegisterAccess2b.locate 0x15000000 = .reserved) ∧
    7 < 8 ∧ (257 = 0 ∨ 256 < 257) ∧ wRegisterAccess3.reachable (wRegisterAccess3.get MGT_SESS.PATH 7) = true ∧ wRegisterAccess3.sesOpen 7 = true ∧ (wRegisterAccess3.sesAt 7).last = none ∧
    7 < 8 ∧ wRegisterAccess4.reachable (wRegisterAccess4.get MGT_SESS.PATH 7) = true ∧ wRegisterAccess4.sesOpen 7 = false ∧
    7 < 8 ∧ (drsAddr .SLT_GCFG 0) < 2 ^ 30 ∧ (drsAddr .SLT_GCFG 0) % 8 = 0 ∧ wRegisterAccess5.reachable (wRegisterAccess5.get MGT_SESS.PATH 7) = true ∧ wRegisterAccess5.sesOpen 7 = true ∧ (wRegisterAccess5.sesAt 7).last = none ∧ wRegisterAccess5.owns 7 = true ∧ wRegisterAccess5.phase ≠ .reset ∧ wRegisterAccess5.locate (drsAddr .SLT_GCFG 0) = .reg ((RegKind.SLT_GCFG)) 0 ∧ ((RegKind.SLT_GCFG)) ∈ [RegKind.SLT_GCFG, .SLT_CFG, .PWR_BANK_CFG, .PRT_SPARE_CTL] ∧ (SLT_GCFG.RETRY_MAX) ∈ fieldsOf ((RegKind.SLT_GCFG)) .RW ∧
    7 < 8 ∧ wRegisterAccess6.reachable (wRegisterAccess6.get MGT_SESS.PATH 7) = true ∧ wRegisterAccess6.sesOpen 7 = true ∧ (wRegisterAccess6.sesAt 7).last = none ∧ wRegisterAccess6.owns 7 = false ∧
    7 < 8 ∧ 3 < 4 ∧ 1 ≤ 1 ∧ 1 ≤ 256 ∧ (([1] : List Byte)).length ≠ 1 * 2 ^ 3 ∧ wRegisterAccess7.reachable (wRegisterAccess7.get MGT_SESS.PATH 7) = true ∧ wRegisterAccess7.sesOpen 7 = true ∧ (wRegisterAccess7.sesAt 7).last = none ∧ wRegisterAccess7.owns 7 = true ∧
    7 < 8 ∧ (drsAddr .SLT_GCFG 0) < 2 ^ 30 ∧ (drsAddr .SLT_GCFG 0) % 8 = 0 ∧ wRegisterAccess8.reachable (wRegisterAccess8.get MGT_SESS.PATH 7) = true ∧ wRegisterAccess8.sesOpen 7 = true ∧ (wRegisterAccess8.sesAt 7).last = none ∧ wRegisterAccess8.owns 7 = true ∧ wRegisterAccess8.phase ≠ .reset ∧ wRegisterAccess8.locate (drsAddr .SLT_GCFG 0) = .reg ((RegKind.SLT_GCFG)) 0 ∧
    7 < 8 ∧ 536870904 < 2 ^ 29 ∧ 536870904 % 8 = 0 ∧ wRegisterAccess9.phase ≠ .safe ∧ wRegisterAccess9.reachable (wRegisterAccess9.get MGT_SESS.PATH 7) = true ∧ wRegisterAccess9.sesOpen 7 = true ∧ (wRegisterAccess9.sesAt 7).last = none ∧ wRegisterAccess9.hbmFenced 0 (wRegisterAccess9.get MGT_HBM_DBG_BASE.WINDOW 0 * 2 ^ 29 + 536870904) = false ∧
    7 < 8 ∧ 536870904 < 2 ^ 29 ∧ 536870904 % 8 = 0 ∧ wRegisterAccess10.phase = .test ∧ wRegisterAccess10.sesOpen 7 = true ∧ (wRegisterAccess10.sesAt 7).last = none ∧ wRegisterAccess10.owns 7 = true ∧
    7 < 8 ∧ 3 < 4 ∧ 536870904 < 2 ^ 29 ∧ 536870904 % 2 ^ 3 = 0 ∧ wRegisterAccess11.phase = .operating ∧ wRegisterAccess11.sesOpen 7 = true ∧ (wRegisterAccess11.sesAt 7).last = none ∧ wRegisterAccess11.owns 7 = true ∧
    BitVec.toNat (w := 64) ((0xBE0000000 : Word)) / 2 ^ 29 % 128 < 96 ∧
    96 ≤ BitVec.toNat (w := 64) ((0xC00000000 : Word)) / 2 ^ 29 % 128 ∧
    7 < 8 ∧ 1 ≤ 4064 ∧ 4064 ≤ 4064 ∧ wRegisterAccess16.reachable (wRegisterAccess16.get MGT_SESS.PATH 7) = true ∧ wRegisterAccess16.phase ≠ .safe ∧ wRegisterAccess16.sesOpen 7 = true ∧ (wRegisterAccess16.sesAt 7).last = none ∧ sessionAddr ((0x20000000 : Word)) 100 = some (ReqAddr.poa 100) ∧
    7 < 8 ∧ 1 ≤ (([1, 2] : List Byte)).length ∧ (([1, 2] : List Byte)).length ≤ 4064 ∧ wRegisterAccess17.reachable (wRegisterAccess17.get MGT_SESS.PATH 7) = true ∧ wRegisterAccess17.phase ≠ .safe ∧ wRegisterAccess17.sesOpen 7 = true ∧ (wRegisterAccess17.sesAt 7).last = none ∧ wRegisterAccess17.owns 7 = true ∧ sessionAddr ((0x20000000 : Word)) 100 = some (ReqAddr.poa 100) ∧
    7 < 8 ∧ (4065 = 0 ∨ 4064 < 4065) ∧ wRegisterAccess18.reachable (wRegisterAccess18.get MGT_SESS.PATH 7) = true ∧ wRegisterAccess18.sesOpen 7 = true ∧ (wRegisterAccess18.sesAt 7).last = none ∧
    7 < 8 ∧ 1 ≤ 64 ∧ 64 ≤ 4064 ∧ wRegisterAccess19.reachable (wRegisterAccess19.get MGT_SESS.PATH 7) = true ∧ wRegisterAccess19.phase ≠ .safe ∧ wRegisterAccess19.sesOpen 7 = true ∧ (wRegisterAccess19.sesAt 7).last = none ∧ sessionAddr ((0 : Word)) 100 = none ∧
    7 < 8 ∧ wRegisterAccess20.reachable (wRegisterAccess20.get MGT_SESS.PATH 7) = true ∧ wRegisterAccess20.sesOpen 7 = true ∧ (wRegisterAccess20.sesAt 7).last = none ∧ wRegisterAccess20.owns 7 = false ∧
    7 < 8 ∧ wRegisterAccess21.reachable (wRegisterAccess21.get MGT_SESS.PATH 7) = true ∧ wRegisterAccess21.sesOpen 7 = true ∧ (wRegisterAccess21.sesAt 7).last = none := by
  and_intros <;> decide +kernel

def wFabricManaged0 : State := (((((State.reset.set MGT_CHIP_INFO.ROLE 0 1).set MGT_FAB_STAT.ROLE_NOW 0 6).set PRT_CFG.MODE 63 1).set PRT_CFG.ROLE0 63 2).set SFL_TRAIN_STATUS.STATE 63 7)
def wFabricManaged2 : State := (State.reset.set MGT_FAB_STAT.ROLE_NOW 0 3)
def wFabricManaged3 : State := ({ (State.reset.set MGT_FAB_STAT.ROLE_NOW 0 3) with fab := { FabState.idle with roles := [(9, 1)], reannounce := true } } : State)
def wFabricManaged5 : State := (State.reset.set MGT_CHIP_INFO.CHIP_ID 0 255)
def wFabricManaged6 : State := (State.reset.set MGT_FAB_STAT.EPOCH 0 5)
def wFabricManaged7 : State := ((State.reset.set MGT_FAB_STAT.EPOCH 0 5).set MGT_FAB_GEN.GEN 0 9)
def wFabricManaged9 : State := (State.reset.set MGT_FAB_STAT.EPOCH 0 5)
def wFabricManaged10 : State := ({ State.reset with fab := { FabState.idle with staged := some ⟨7, false, [.member 255 2]⟩ } } : State)
def wFabricManaged11 : State := ({ State.reset with fab := { FabState.idle with staged := some ⟨7, false, [.fft 0 255 0x87]⟩ } } : State)
def wFabricManaged12 : State := ((State.reset.set MGT_FAB_GEN.GEN 0 7).set MGT_FAB_STAT.ACTING_MGR 0 255)
def wFabricManaged14 : State := ({ State.reset with fab := { FabState.idle with staged := some ⟨7, false, []⟩ } } : State)
def wFabricManaged15 : State := (State.reset.set MGT_FAB_STAT.EPOCH 0 5)
def wFabricManaged16 : State := ({ State.reset with clk := 77 } : State)
def wFabricManaged17 : State := (State.reset.set MGT_FAB_STAT.ROLE_NOW 0 3)
def wFabricManaged18 : State := ({ ((((State.reset.set MGT_FAB_STAT.ROLE_NOW 0 3).set MGT_FAB_CFG.STBY_EN 0 1).set MGT_FAB_CFG.STBY_ID 0 255).set MGT_FAB_MEMBER.STATE 255 2) with fab := { FabState.idle with run := some ⟨⟨7, false, []⟩, 2, [], []⟩ } } : State)
def wFabricManaged19 : State := ({ (State.reset.set MGT_FAB_STAT.ROLE_NOW 0 3) with fab := { FabState.idle with run := some ⟨⟨7, false, []⟩, 2, [], []⟩ } } : State)
def wFabricManaged21 : State := ({ ((State.reset.set MGT_FAB_STAT.ROLE_NOW 0 3).set MGT_FAB_CFG.STBY_ID 0 255) with fab := { FabState.idle with run := some ⟨⟨7, false, []⟩, 0, [], []⟩ } } : State)
def wFabricManaged23 : State := ({ (State.reset.set MGT_FAB_STAT.ROLE_NOW 0 5) with fab := { FabState.idle with roles := [(0, 3), (9, 1), (255, 2)] } } : State)
def wFabricManaged24b : State := ({ (State.reset.set MGT_FAB_STAT.ROLE_NOW 0 3) with fab := { FabState.idle with handover := true, roles := [(0, 3), (9, 1), (255, 2)] } } : State)
def wFabricManaged25 : State := ({ ({ ((State.reset.set MGT_FAB_STAT.EPOCH 0 5).set MGT_FAB_STAT.ROLE_NOW 0 3) with fab := { FabState.idle with lease := true } } : State) with clk := 9 } : State)
def wFabricManaged26 : State := ({ (State.reset.set MGT_FAB_STAT.EPOCH 0 5) with fab := { FabState.idle with lease := true } } : State)
def wFabricManaged27 : State := (State.reset.set MGT_FAB_STAT.ROLE_NOW 0 3)
def wFabricManaged28 : State := ({ ({ ((State.reset.set MGT_FAB_STAT.ROLE_NOW 0 2).set MGT_CHIP_INFO.CHIP_ID 0 255) with fab := { FabState.idle with lease := true, stbyOk := true } } : State) with clk := 1000000000000 } : State)
def wFabricManaged29 : State := ({ ({ (State.reset.set MGT_FAB_STAT.ROLE_NOW 0 2) with fab := { FabState.idle with lease := true, stbyOk := true, roles := [(7, 1), (8, 1), (9, 2)] } } : State) with clk := 1000000000000 } : State)
def wFabricManaged31 : State := ({ (State.reset.set MGT_FAB_STAT.ROLE_NOW 0 1) with fab := { FabState.idle with lease := true, stbyOk := true } } : State)
def wFabricManaged32 : State := ({ (State.reset.set MGT_FAB_STAT.ROLE_NOW 0 1) with fab := { FabState.idle with stbyOk := true, voted := 5 } } : State)
def wFabricManaged33 : State := ({ (State.reset.set MGT_FAB_STAT.ROLE_NOW 0 1) with fab := { FabState.idle with stbyOk := true, voted := 6 } } : State)
def wFabricManaged34 : State := ({ (State.reset.set MGT_FAB_STAT.ROLE_NOW 0 2) with fab := { FabState.idle with proposed := 6, roles := [(255, 1)] } } : State)
def wFabricManaged35 : State := ({ (State.reset.set MGT_FAB_STAT.ROLE_NOW 0 2) with fab := { FabState.idle with proposed := 6, roles := [(255, 1), (254, 1), (253, 1)] } } : State)
def wFabricManaged36 : State := ({ (State.reset.set MGT_FAB_STAT.ROLE_NOW 0 3) with fab := { FabState.idle with roles := [(255, 1)] } } : State)
def wFabricManaged38 : State := ((State.reset.set MGT_CHIP_INFO.ROLE 0 3).set MGT_FAB_STAT.ROLE_NOW 0 6)
def wFabricManaged39 : State := (State.reset.set MGT_FAB_STAT.ROLE_NOW 0 3)
def wFabricManaged40 : State := (State.reset.set MGT_FAB_RES.SEQ 0 255)
def wFabricManaged41 : State := (State.reset.set MGT_FAB_STAT.ROLE_NOW 0 3)
def wFabricManaged42 : State := ((((State.reset.set MGT_FAB_STAT.ROLE_NOW 0 3).set MGT_FAB_CFG.STBY_EN 0 1).set MGT_FAB_CFG.STBY_ID 0 255).set MGT_FAB_MEMBER.STATE 255 2)
def wFabricManaged44 : State := (((State.reset.set MGT_FAB_STAT.ROLE_NOW 0 2).set MGT_FAB_STAT.EPOCH 0 5).set MGT_FAB_GEN.GEN 0 9)
def wFabricManaged46 : State := ((State.reset.set MGT_FAB_MEMBER.STATE 0 2).set MGT_FAB_STAT.ROLE_NOW 0 1)
def wFabricManaged47 : State := (State.reset.set MGT_FAB_STAT.ROLE_NOW 0 3)
def wFabricManaged49 : State := ({ ({ ((((State.reset.set MGT_FAB_STAT.ROLE_NOW 0 3).set MGT_FAB_CFG.STBY_EN 0 1).set MGT_FAB_CFG.STBY_ID 0 9).set MGT_FAB_MEMBER.STATE 9 2) with fab := { FabState.idle with run := some ⟨⟨7, false, []⟩, 0, [], []⟩ } } : State) with clk := 1000000000000 } : State)
def wFabricManaged50 : State := ((State.reset.set MGT_FAB_STAT.ROLE_NOW 0 3).set MGT_FAB_CFG.UNREACH_MS 0 5)
/-- Hypotheses of FabricManaged met. -/
theorem witness_FabricManaged :
    wFabricManaged0.get MGT_CHIP_INFO.ROLE 0 ≠ 0 ∧ wFabricManaged0.activeLinks ≠ [] ∧ wFabricManaged0.roleNow = 6 ∧
    State.reset.activeLinks = [] ∧
    wFabricManaged2.roleNow = 3 ∧ wFabricManaged2.joinCause ((⟨9, 1, 1, 1, 0, 0⟩ : JoinMsg)) ≠ 0 ∧
    wFabricManaged3.roleNow = 3 ∧ wFabricManaged3.joinCause ((⟨9, 1, 1, 1, 0, 0⟩ : JoinMsg)) = 0 ∧
    State.reset.roleNow ≠ 3 ∧
    wFabricManaged6.epoch ≤ 5 ∧ (((⟨1, false, [.member 3 7]⟩ : FabGen)).gen = wFabricManaged6.get MGT_FAB_GEN.GEN 0 + 1 ∨ ((⟨1, false, [.member 3 7]⟩ : FabGen)).whole = true) ∧
    wFabricManaged7.epoch ≤ 5 ∧ ((⟨9, false, [.member 3 7]⟩ : FabGen)).gen ≤ wFabricManaged7.get MGT_FAB_GEN.GEN 0 ∧ ((⟨9, false, [.member 3 7]⟩ : FabGen)).whole = false ∧
    State.reset.epoch ≤ 0 ∧ State.reset.get MGT_FAB_GEN.GEN 0 + 1 < ((⟨2, false, []⟩ : FabGen)).gen ∧ ((⟨2, false, []⟩ : FabGen)).whole = false ∧
    4 < wFabricManaged9.epoch ∧
    wFabricManaged10.epoch ≤ 0 ∧ wFabricManaged10.fab.staged = some ⟨7, false, [.member 255 ((2 : Word))]⟩ ∧ 255 < 256 ∧
    wFabricManaged11.epoch ≤ 0 ∧ wFabricManaged11.fab.staged = some ⟨7, false, [.fft wFabricManaged11.chipId 255 ((0x87 : Word))]⟩ ∧ 255 < 256 ∧
    wFabricManaged12.epoch ≤ 0 ∧ wFabricManaged12.fab.staged = none ∧ 0 < 7 ∧ wFabricManaged12.get MGT_FAB_GEN.GEN 0 = 7 ∧
    (0 < State.reset.epoch ∨ State.reset.fab.staged = none ∧ (7 = 0 ∨ State.reset.get MGT_FAB_GEN.GEN 0 ≠ 7)) ∧
    wFabricManaged14.epoch ≤ 0 ∧ wFabricManaged14.fab.staged = some ((⟨7, false, []⟩ : FabGen)) ∧ ((⟨7, false, []⟩ : FabGen)).gen = 7 ∧
    4 < wFabricManaged15.epoch ∧
    255 < 256 ∧
    255 < 256 ∧ wFabricManaged17.roleNow = 3 ∧ wFabricManaged17.epoch < 9 ∧
    255 < 256 ∧ wFabricManaged18.roleNow = 3 ∧ 0 ≤ wFabricManaged18.epoch ∧ wFabricManaged18.fab.run = some ((⟨⟨7, false, []⟩, 2, [], []⟩ : FabRun)) ∧ ((⟨⟨7, false, []⟩, 2, [], []⟩ : FabRun)).phase = 2 ∧ ((⟨⟨7, false, []⟩, 2, [], []⟩ : FabRun)).acked = [] ∧ ((⟨⟨7, false, []⟩, 2, [], []⟩ : FabRun)).gen.changes = [] ∧ wFabricManaged18.phaseChips ((⟨⟨7, false, []⟩, 2, [], []⟩ : FabRun)) = [255] ∧ wFabricManaged18.fab.todo = [] ∧ wFabricManaged18.fab.handover = false ∧
    255 < 256 ∧ wFabricManaged19.roleNow = 3 ∧ wFabricManaged19.fab.run = some ((⟨⟨7, false, []⟩, 2, [], []⟩ : FabRun)) ∧
    255 < 256 ∧ State.reset.roleNow ≠ 3 ∧
    wFabricManaged21.fab.run = some ((⟨⟨7, false, []⟩, 0, [], []⟩ : FabRun)) ∧ wFabricManaged21.roleNow = 3 ∧ ((⟨⟨7, false, []⟩, 0, [], []⟩ : FabRun)).phase = 0 ∧
    State.reset.fab.run = none ∧
    ((wFabricManaged23.roleNow = 3 ∧ (wFabricManaged23.fab.handover = false ∨ wFabricManaged23.fab.run.isSome = true)) ∨ wFabricManaged23.roleNow = 5) ∧
    ((State.reset.roleNow ≠ 3 ∧ State.reset.roleNow ≠ 5) ∨ (State.reset.roleNow = 3 ∧ State.reset.fab.handover = true ∧ State.reset.fab.run = none)) ∧
    ((wFabricManaged24b.roleNow ≠ 3 ∧ wFabricManaged24b.roleNow ≠ 5) ∨ (wFabricManaged24b.roleNow = 3 ∧ wFabricManaged24b.fab.handover = true ∧ wFabricManaged24b.fab.run = none)) ∧
    wFabricManaged25.accepts ((⟨255, 6, 1, 1, false, true⟩ : AnnounceMsg)) = true ∧
    wFabricManaged26.accepts ((⟨255, 4, 1, 1, false, true⟩ : AnnounceMsg)) = false ∧
    wFabricManaged27.roleNow = 3 ∧ wFabricManaged27.epoch < ((⟨255, 6, 1, 1, false, true⟩ : AnnounceMsg)).epoch ∧ wFabricManaged27.fab.handover = false ∧
    wFabricManaged28.fab.lease = true ∧ wFabricManaged28.fab.leaseAt + wFabricManaged28.get MGT_FAB_CFG.LEASE_MS 0 * 1000000 ≤ wFabricManaged28.clk ∧ wFabricManaged28.roleNow = 2 ∧ wFabricManaged28.fab.stbyOk = true ∧ wFabricManaged28.quorum = 0 ∧
    wFabricManaged29.fab.lease = true ∧ wFabricManaged29.fab.leaseAt + wFabricManaged29.get MGT_FAB_CFG.LEASE_MS 0 * 1000000 ≤ wFabricManaged29.clk ∧ wFabricManaged29.roleNow = 2 ∧ wFabricManaged29.fab.stbyOk = true ∧ 0 < wFabricManaged29.quorum ∧
    (State.reset.fab.lease = false ∨ State.reset.roleNow = 3 ∨ State.reset.roleNow = 5 ∨ State.reset.clk < State.reset.fab.leaseAt + State.reset.get MGT_FAB_CFG.LEASE_MS 0 * 1000000) ∧
    255 < 256 ∧ wFabricManaged31.roleNow = 1 ∧ wFabricManaged31.fab.stbyOk = true ∧ wFabricManaged31.fab.lease = true ∧
    255 < 256 ∧ wFabricManaged32.roleNow = 1 ∧ wFabricManaged32.fab.stbyOk = true ∧ wFabricManaged32.fab.lease = false ∧ wFabricManaged32.fab.voted < 6 ∧
    255 < 256 ∧ wFabricManaged33.fab.lease = false ∧ 6 ≤ wFabricManaged33.fab.voted ∧
    255 < 256 ∧ wFabricManaged34.roleNow = 2 ∧ wFabricManaged34.fab.lease = false ∧ 6 = wFabricManaged34.fab.proposed ∧ 0 < 6 ∧ wFabricManaged34.fab.votes = [] ∧ wFabricManaged34.quorum = 1 ∧
    255 < 256 ∧ wFabricManaged35.roleNow = 2 ∧ wFabricManaged35.fab.lease = false ∧ 6 = wFabricManaged35.fab.proposed ∧ 0 < 6 ∧ wFabricManaged35.fab.votes = [] ∧ 1 < wFabricManaged35.quorum ∧
    wFabricManaged36.roleNow = 3 ∧ wFabricManaged36.quorum = 1 ∧ wFabricManaged36.fab.ackAt = [] ∧
    (State.reset.roleNow ≠ 3 ∨ State.reset.quorum = 0) ∧
    wFabricManaged38.get MGT_CHIP_INFO.ROLE 0 = 3 ∧ wFabricManaged38.roleNow = 6 ∧ wFabricManaged38.fab.lease = false ∧
    (wFabricManaged39.roleNow ≠ 6 ∨ wFabricManaged39.fab.lease = true) ∧
    wFabricManaged40.roleNow ≠ 3 ∧ BitVec.toNat (w := 64) ((1 : Word)) % 2 = 1 ∧
    wFabricManaged41.roleNow = 3 ∧ wFabricManaged41.standby = none ∧ BitVec.toNat (w := 64) ((1 : Word)) % 2 = 1 ∧
    wFabricManaged42.roleNow = 3 ∧ wFabricManaged42.standby = some 255 ∧ wFabricManaged42.fab.handover = false ∧ wFabricManaged42.fab.run = none ∧ BitVec.toNat (w := 64) ((1 : Word)) % 2 = 1 ∧
    BitVec.toNat (w := 64) ((2 : Word)) % 2 = 0 ∧
    wFabricManaged44.roleNow = 2 ∧
    (State.reset.roleNow ≠ 2 ∨ 4 ≠ State.reset.epoch ∨ State.reset.get MGT_FAB_GEN.GEN 0 ≠ 9) ∧
    wFabricManaged46.roleNow ≠ 3 ∧ wFabricManaged46.isMember wFabricManaged46.chipId = true ∧
    wFabricManaged47.roleNow = 3 ∧
    State.reset.roleNow ≠ 3 ∧
    255 < 256 ∧ wFabricManaged49.roleNow = 3 ∧ wFabricManaged49.fab.reports = [] ∧ wFabricManaged49.activeLinks = [] ∧ Tbl.rd (fun _ => 0) wFabricManaged49.fab.heard 255 + wFabricManaged49.get MGT_FAB_CFG.UNREACH_MS 0 * 1000000 ≤ wFabricManaged49.clk ∧ 255 ≠ wFabricManaged49.chipId ∧ wFabricManaged49.get MGT_FAB_MEMBER.STATE 255 ≠ 3 ∧ wFabricManaged49.fab.run = some ((⟨⟨7, false, []⟩, 0, [], []⟩ : FabRun)) ∧ ((⟨⟨7, false, []⟩, 0, [], []⟩ : FabRun)).phase = 0 ∧ wFabricManaged49.stepOf ((⟨⟨7, false, []⟩, 0, [], []⟩ : FabRun)) = some 9 ∧ ((⟨⟨7, false, []⟩, 0, [], []⟩ : FabRun)).acked = [] ∧
    255 < 256 ∧ wFabricManaged50.clk < Tbl.rd (fun _ => 0) wFabricManaged50.fab.heard 255 + wFabricManaged50.get MGT_FAB_CFG.UNREACH_MS 0 * 1000000 ∧
    255 < 256 ∧ (State.reset.roleNow ≠ 3 ∨ State.reset.get MGT_FAB_MEMBER.STATE 255 = 3) := by
  and_intros <;> decide +kernel

def wFabricForwards0 : State := (State.reset.set SFL_TRAIN_STATUS.REV 63 1)
def wFabricForwards1 : State := (State.reset.setLink 63 { State.reset.link 63 with accepted := [⟨7, false, false, List.replicate 16 0⟩] })
def wFabricForwards3 : State := (((State.reset.set MGT_FAB_MEMBER.STATE 0 2).setReg .MGT_FAB_FFT 1 (0x80 + 126)).set SFL_TRAIN_STATUS.STATE 63 7)
def wFabricForwards4 : State := ((((State.reset.set MGT_FAB_MEMBER.STATE 0 2).setReg .MGT_FAB_FFT 1 (0x80 + 126)).set SFL_TRAIN_STATUS.STATE 63 7).set MGT_FAB_CFG.TTL 0 9)
def wFabricForwards5 : State := ({ (((State.reset.set MGT_FAB_MEMBER.STATE 0 2).setReg .MGT_FAB_FFT 1 (0x80 + 126)).set SFL_TRAIN_STATUS.STATE 63 7) with fabPath := [(16 + fabricHash 0 513, some 1)], fabFlight := [(16 + fabricHash 0 513, 2)] } : State)
def wFabricForwards7 : State := ((State.reset.set MGT_CHIP_INFO.ROLE 0 1).set MGT_FAB_STAT.ROLE_NOW 0 6)
def wFabricForwards8 : State := (State.reset.set MGT_FAB_CNT.TTL_EXP 0 65535)
def wFabricForwards10 : State := (State.reset.setReg .MGT_FAB_FFT 255 (0xFE000000 + 0xF * 2 ^ 36))
def wFabricForwards11 : State := ((State.reset.set SFL_TRAIN_STATUS.STATE 63 7).setReg .MGT_FAB_FFT 255 0xFE000000)
def wFabricForwards12 : State := ({ State.reset with fabPath := [(4095, some 126)], fabFlight := [(4095, 2)] } : State)
def wFabricForwards13 : State := ({ State.reset with fabPath := [(4095, some 126)], fabFlight := [(4095, 2)], fabHeld := [(4095, 5, ⟨513, 1, 8, samplePkt⟩)] } : State)
def wFabricForwards14 : State := (((((((State.reset.set PRT_CFG.MODE 63 1).set PRT_CFG.ROLE0 63 2).set SFL_TRAIN_STATUS.STATE 63 7).set SFL_TRAIN_STATUS.REV 63 1).set SFL_PHY_CFG.REV_MAX 63 2).set SFL_PEER.REV_MAX 63 2).set SFL_PEER.CHIP_ID 63 9)
def wFabricForwards15 : State := ((((((((((State.reset.set PRT_CFG.MODE 63 1).set PRT_CFG.ROLE0 63 2).set SFL_TRAIN_STATUS.STATE 63 7).set PRT_CFG.MODE 62 1).set PRT_CFG.ROLE0 62 2).set SFL_TRAIN_STATUS.STATE 62 3).set SFL_TRAIN_STATUS.REV 63 1).set SFL_PHY_CFG.REV_MAX 63 2).set SFL_PEER.REV_MAX 63 2).set SFL_PEER.CHIP_ID 63 9)
def wFabricForwards17 : State := (State.reset.set MGT_FAB_STAT.REV_TOP 0 200)
/-- Hypotheses of FabricForwards met. -/
theorem witness_FabricForwards :
    63 < 64 ∧
    63 < 64 ∧ (wFabricForwards1.link 63).accepted.find? (fun y : AcceptedUnit => decide (y.vc = 7)) = some ((⟨7, false, false, List.replicate 16 0⟩ : AcceptedUnit)) ∧ ((⟨7, false, false, List.replicate 16 0⟩ : AcceptedUnit)).payload ≠ [] ∧
    63 < 64 ∧ (State.reset.link 63).accepted = [] ∧
    5 < 64 ∧ 0 < ((⟨513, 1, 8, { samplePkt with body := [1, 2] }⟩ : FabPkt)).ttl ∧ wFabricForwards3.joined = true ∧ wFabricForwards3.get MGT_FAB_MEMBER.STATE (((⟨513, 1, 8, { samplePkt with body := [1, 2] }⟩ : FabPkt)).dst / 512 % 256) ≠ 3 ∧ wFabricForwards3.fabricPort ((⟨513, 1, 8, { samplePkt with body := [1, 2] }⟩ : FabPkt)).pkt.stream ((⟨513, 1, 8, { samplePkt with body := [1, 2] }⟩ : FabPkt)).dst = some (0, 126) ∧ Tbl.rd (fun _ => none) wFabricForwards3.fabPath (fabSlot ((⟨513, 1, 8, { samplePkt with body := [1, 2] }⟩ : FabPkt))) = none ∧
    5 < 64 ∧ wFabricForwards4.joined = true ∧ wFabricForwards4.get MGT_FAB_MEMBER.STATE (((⟨513, 1, 8, { samplePkt with body := [1, 2] }⟩ : FabPkt)).dst / 512 % 256) ≠ 3 ∧ wFabricForwards4.fabricPort ((⟨513, 1, 8, { samplePkt with body := [1, 2] }⟩ : FabPkt)).pkt.stream ((⟨513, 1, 8, { samplePkt with body := [1, 2] }⟩ : FabPkt)).dst = some (0, 126) ∧ Tbl.rd (fun _ => none) wFabricForwards4.fabPath (fabSlot ((⟨513, 1, 8, { samplePkt with body := [1, 2] }⟩ : FabPkt))) = none ∧
    5 < 64 ∧ 0 < ((⟨513, 1, 8, { samplePkt with body := [1, 2], stream := 0 }⟩ : FabPkt)).ttl ∧ wFabricForwards5.joined = true ∧ wFabricForwards5.get MGT_FAB_MEMBER.STATE (((⟨513, 1, 8, { samplePkt with body := [1, 2], stream := 0 }⟩ : FabPkt)).dst / 512 % 256) ≠ 3 ∧ wFabricForwards5.fabricPort ((⟨513, 1, 8, { samplePkt with body := [1, 2], stream := 0 }⟩ : FabPkt)).pkt.stream ((⟨513, 1, 8, { samplePkt with body := [1, 2], stream := 0 }⟩ : FabPkt)).dst = some (0, 126) ∧ Tbl.rd (fun _ => none) wFabricForwards5.fabPath (fabSlot ((⟨513, 1, 8, { samplePkt with body := [1, 2], stream := 0 }⟩ : FabPkt))) = some 1 ∧ 1 ≠ 126 ∧ 0 < Tbl.rd (fun _ => 0) wFabricForwards5.fabFlight (fabSlot ((⟨513, 1, 8, { samplePkt with body := [1, 2], stream := 0 }⟩ : FabPkt))) ∧
    5 < 64 ∧ ((⟨513, 1, 0, samplePkt⟩ : FabPkt)).ttl = 0 ∧
    5 < 64 ∧ 0 < ((⟨513, 1, 8, { samplePkt with cls := 4 }⟩ : FabPkt)).ttl ∧ wFabricForwards7.joined = false ∧ ((⟨513, 1, 8, { samplePkt with cls := 4 }⟩ : FabPkt)).pkt.cls ≠ 0 ∧
    5 < 64 ∧ ((⟨513, 1, 0, samplePkt⟩ : FabPkt)).ttl = 0 ∧ ((⟨513, 1, 0, samplePkt⟩ : FabPkt)).dst / 512 ≠ wFabricForwards8.chipId ∧
    5 < 64 ∧ (0 < ((⟨513, 1, 1, samplePkt⟩ : FabPkt)).ttl ∨ ((⟨513, 1, 1, samplePkt⟩ : FabPkt)).dst / 512 = State.reset.chipId) ∧
    126 < 128 ∧ 255 < 256 ∧ 3 < 4 ∧ wFabricForwards10.get SFL_TRAIN_STATUS.STATE (wFabricForwards10.leadOf (126 / 2)) ≠ 7 ∧ (wFabricForwards10.reg .MGT_FAB_FFT 255).toNat / 2 ^ (8 * 3) % 256 = 128 + 126 ∧
    126 < 128 ∧ 255 < 256 ∧ 3 < 4 ∧ wFabricForwards11.get SFL_TRAIN_STATUS.STATE (wFabricForwards11.leadOf (126 / 2)) = 7 ∧ (wFabricForwards11.reg .MGT_FAB_FFT 255).toNat / 2 ^ (8 * 3) % 256 = 128 + 126 ∧
    126 < 128 ∧ 4095 < 4096 ∧ Tbl.rd (fun _ => none) wFabricForwards12.fabPath 4095 = some 126 ∧ wFabricForwards12.fabHeld = [] ∧
    126 < 128 ∧ wFabricForwards13.fabHeld = [(((4095, 5, ⟨513, 1, 8, samplePkt⟩) : Nat × Nat × FabPkt))] ∧ Tbl.rd (fun _ => none) wFabricForwards13.fabPath (((4095, 5, ⟨513, 1, 8, samplePkt⟩) : Nat × Nat × FabPkt)).1 = some 126 ∧
    63 < 64 ∧ wFabricForwards14.isFabric 63 = true ∧ wFabricForwards14.get SFL_TRAIN_STATUS.STATE 63 = 7 ∧ wFabricForwards14.get SFL_TRAIN_STATUS.REV 63 < wFabricForwards14.get SFL_PHY_CFG.REV_MAX 63 ∧ wFabricForwards14.get SFL_TRAIN_STATUS.REV 63 < wFabricForwards14.get SFL_PEER.REV_MAX 63 ∧ wFabricForwards14.chipId < wFabricForwards14.get SFL_PEER.CHIP_ID 63 ∧ ((∀ d ∈ List.range 256, wFabricForwards14.reg .MGT_FAB_FFT d = 0)) ∧ ((∀ c ∈ wFabricForwards14.fabricBlocks, wFabricForwards14.get SFL_TRAIN_STATUS.STATE c = 7 ∨ wFabricForwards14.get SFL_TRAIN_STATUS.STATE c = 0)) ∧
    63 < 64 ∧ 62 ∈ wFabricForwards15.fabricBlocks ∧ wFabricForwards15.get SFL_TRAIN_STATUS.STATE 62 ≠ 7 ∧ wFabricForwards15.get SFL_TRAIN_STATUS.STATE 62 ≠ 0 ∧
    63 < 64 ∧ (State.reset.get SFL_TRAIN_STATUS.STATE 63 ≠ 7 ∨ State.reset.get SFL_PEER.CHIP_ID 63 ≤ State.reset.chipId ∨ State.reset.get SFL_PHY_CFG.REV_MAX 63 ≤ State.reset.get SFL_TRAIN_STATUS.REV 63) := by
  and_intros <;> decide +kernel

def wImagesKept0 : State := (State.reset.set MGT_IMG_RES.VALID 0 1)
def wImagesKept1 : State := ({ State.reset with flashB := [(67104768, 5)], checked := [(1, some ImgContent.empty)] } : State)
def wImagesKept5b : State := ({ State.reset with checked := [(1, some ImgContent.empty)] } : State)
def wImagesKept7 : State := ({ State.reset with imgRun := some (imgRunOf 1 0 0) } : State)
def wImagesKept8 : State := ({ State.reset with imgRun := some (imgRunOf 1 0 0) } : State)
def wImagesKept9 : State := ({ State.reset with imgRun := some (imgRunOf 1 0 0) } : State)
def wImagesKept10 : State := ({ State.reset with imgRun := some (imgRunOf 1 0 0) } : State)
def wImagesKept11 : State := ({ State.reset with imgRun := some (imgRunOf 1 0 0) } : State)
def wImagesKept12 : State := ({ State.reset with imgRun := some (imgRunOf 5 1 0) } : State)
def wImagesKept13 : State := ({ State.reset with imgRun := some (imgRunOf 4 1 14) } : State)
def wImagesKept14 : State := ({ State.reset with flashB := [(67104767, 5)], imgRun := some (imgRunOf 1 1 0) } : State)
def wImagesKept15 : State := ({ State.reset with imgRun := some ⟨2, 1, 4096, [1, 2, 3], 16, 0, 0, ImgContent.empty⟩ } : State)
def wImagesKept16 : State := ({ State.reset with imgRun := some (imgRunOf 3 1 0) } : State)
def wImagesKept17 : State := ({ (State.reset.set MGT_IMG_RES.SEQ 0 255) with imgRun := some (imgRunOf 5 1 14) } : State)
def wImagesKept20 : State := ({ State.reset with phase := .safe } : State)
def wImagesKept21 : State := ({ State.reset with phase := .verify } : State)
def wImagesKept22 : State := ({ State.reset with phase := .verify } : State)
/-- Hypotheses of ImagesKept met. -/
theorem witness_ImagesKept :
    1 < 2 ∧ wImagesKept0.imgRun = none ∧ wImagesKept0.keyRun = none ∧
    1 < 2 ∧ wImagesKept1.imgRun = none ∧ wImagesKept1.keyRun = none ∧ wImagesKept1.bootSlot ≠ some 1 ∧ 0 < 4096 ∧
    1 < 2 ∧ State.reset.imgRun = none ∧ State.reset.keyRun = none ∧ 4096 % 4096 = 0 ∧ 4096 < recordAt ∧
    1 < 2 ∧ State.reset.imgRun = none ∧ State.reset.keyRun = none ∧ State.reset.bootSlot ≠ some 1 ∧ (67104768 % 4096 ≠ 0 ∨ recordAt ≤ 67104768) ∧
    1 < 2 ∧ State.reset.imgRun = none ∧ State.reset.keyRun = none ∧
    1 < 2 ∧ State.reset.imgRun = none ∧ State.reset.keyRun = none ∧
    1 < 2 ∧ wImagesKept5b.imgRun = none ∧ wImagesKept5b.keyRun = none ∧
    1 < 2 ∧ State.reset.imgRun = none ∧ State.reset.keyRun = none ∧
    1 < 2 ∧ (wImagesKept7.imgRun.isSome = true ∨ wImagesKept7.keyRun.isSome = true) ∧
    1 < 2 ∧ (wImagesKept8.imgRun.isSome = true ∨ wImagesKept8.keyRun.isSome = true) ∧
    1 < 2 ∧ (wImagesKept9.imgRun.isSome = true ∨ wImagesKept9.keyRun.isSome = true) ∧
    1 < 2 ∧ (wImagesKept10.imgRun.isSome = true ∨ wImagesKept10.keyRun.isSome = true) ∧
    1 < 2 ∧ (wImagesKept11.imgRun.isSome = true ∨ wImagesKept11.keyRun.isSome = true) ∧
    wImagesKept12.imgRun = some ((imgRunOf 5 1 0)) ∧ ((imgRunOf 5 1 0)).op = 5 ∧ ((imgRunOf 5 1 0)).status = 0 ∧
    wImagesKept13.imgRun = some ((imgRunOf 4 1 14)) ∧ (((imgRunOf 4 1 14)).op ≠ 5 ∨ ((imgRunOf 4 1 14)).status ≠ 0) ∧
    wImagesKept14.imgRun = some ((imgRunOf 1 1 0)) ∧ ((imgRunOf 1 1 0)).op = 1 ∧ ((imgRunOf 1 1 0)).sl < 2 ∧ ((imgRunOf 1 1 0)).status = 0 ∧ 67104767 < recordAt ∧
    wImagesKept15.imgRun = some ((⟨2, 1, 4096, [1, 2, 3], 16, 0, 0, ImgContent.empty⟩ : ImgRun)) ∧ ((⟨2, 1, 4096, [1, 2, 3], 16, 0, 0, ImgContent.empty⟩ : ImgRun)).op = 2 ∧ ((⟨2, 1, 4096, [1, 2, 3], 16, 0, 0, ImgContent.empty⟩ : ImgRun)).sl < 2 ∧ (((⟨2, 1, 4096, [1, 2, 3], 16, 0, 0, ImgContent.empty⟩ : ImgRun)).status = 0 ∨ ((⟨2, 1, 4096, [1, 2, 3], 16, 0, 0, ImgContent.empty⟩ : ImgRun)).status = 0x10) ∧
    wImagesKept16.imgRun = some ((imgRunOf 3 1 0)) ∧ ((imgRunOf 3 1 0)).op = 3 ∧ ((imgRunOf 3 1 0)).status = 0 ∧
    wImagesKept17.imgRun = some ((imgRunOf 5 1 14)) ∧ ((imgRunOf 5 1 14)).status ≠ 0 ∧ ((imgRunOf 5 1 14)).op ≠ 2 ∧
    State.reset.imgRun = none ∧
    State.reset.phase = .boot ∧
    wImagesKept20.phase ≠ .boot ∧
    wImagesKept21.phase = .verify ∧ wImagesKept21.staged = none ∧ wImagesKept21.hbmReady = false ∧
    wImagesKept22.phase = .verify ∧ wImagesKept22.staged = none ∧ wImagesKept22.bootOrder = [] ∧
    (State.reset.phase ≠ .verify ∨ State.reset.staged ≠ none) := by
  and_intros <;> decide +kernel

def wRefusedAccessesRecorded0 : State := (((({ State.reset with phase := .operating } : State).set MGT_SESS.OPEN 7 1).set MGT_EVT_STAT.COUNT 0 959).set MGT_EVT_STAT.NEXT_SEQ 0 4294967295)
def wRefusedAccessesRecorded1 : State := wOwner
def wRefusedAccessesRecorded2 : State := ((((({ State.reset with phase := .operating } : State).set MGT_SESS.OPEN 7 1).set MGT_DRS_ERR.PEND 0 1).set MGT_DRS_ERR.COUNT 0 65535).set MGT_DRS_ERR.ADDR 0 77)
def wRefusedAccessesRecorded3 : State := ((wOwner.set MGT_DRS_ERR.PEND 0 1).set MGT_DRS_ERR.COUNT 0 9)
def wRefusedAccessesRecorded4 : State := (State.reset.set MGT_EVT_STAT.COUNT 0 959)
def wRefusedAccessesRecorded5 : State := (State.reset.set MGT_DRS_ERR.PEND 0 1)
def wRefusedAccessesRecorded6 : State := ((State.reset.set MGT_DRS_ERR.PEND 0 1).set MGT_DRS_ERR.COUNT 0 5)
def wRefusedAccessesRecorded7 : State := ((State.reset.set MGT_DRS_ERR.PEND 0 1).set MGT_DRS_ERR.COUNT 0 5)
def wRefusedAccessesRecorded8 : State := (({ State.reset with phase := .operating } : State).set MGT_SESS.OPEN 7 1)
/-- Hypotheses of RefusedAccessesRecorded met. -/
theorem witness_RefusedAccessesRecorded :
    7 < 8 ∧ 3 < 4 ∧ 1073741823 < 2 ^ 30 ∧ wRefusedAccessesRecorded0.reachable (wRefusedAccessesRecorded0.get MGT_SESS.PATH 7) = true ∧ wRefusedAccessesRecorded0.sesOpen 7 = true ∧ (wRefusedAccessesRecorded0.sesAt 7).last = none ∧ (1073741823 % 2 ^ 3 ≠ 0 ∨ wRefusedAccessesRecorded0.locate 1073741823 = .reserved) ∧ wRefusedAccessesRecorded0.flag MGT_DRS_ERR.PEND 0 = false ∧ wRefusedAccessesRecorded0.get MGT_EVT_STAT.COUNT 0 < 960 ∧
    7 < 8 ∧ 0 < 4 ∧ 0x15000000 < 2 ^ 30 ∧ (([1] : List Byte)).length = 2 ^ 0 ∧ wRefusedAccessesRecorded1.reachable (wRefusedAccessesRecorded1.get MGT_SESS.PATH 7) = true ∧ wRefusedAccessesRecorded1.phase ≠ .reset ∧ wRefusedAccessesRecorded1.sesOpen 7 = true ∧ (wRefusedAccessesRecorded1.sesAt 7).last = none ∧ wRefusedAccessesRecorded1.owns 7 = true ∧ (0x15000000 % 2 ^ 0 ≠ 0 ∨ wRefusedAccessesRecorded1.locate 0x15000000 = .reserved) ∧ wRefusedAccessesRecorded1.flag MGT_DRS_ERR.PEND 0 = false ∧ wRefusedAccessesRecorded1.get MGT_EVT_STAT.COUNT 0 < 960 ∧
    7 < 8 ∧ 1 < 4 ∧ 1 < 2 ^ 30 ∧ wRefusedAccessesRecorded2.reachable (wRefusedAccessesRecorded2.get MGT_SESS.PATH 7) = true ∧ wRefusedAccessesRecorded2.sesOpen 7 = true ∧ (wRefusedAccessesRecorded2.sesAt 7).last = none ∧ (1 % 2 ^ 1 ≠ 0 ∨ wRefusedAccessesRecorded2.locate 1 = .reserved) ∧ wRefusedAccessesRecorded2.flag MGT_DRS_ERR.PEND 0 = true ∧
    7 < 8 ∧ 0 < 4 ∧ 0x15000000 < 2 ^ 30 ∧ (([1] : List Byte)).length = 2 ^ 0 ∧ wRefusedAccessesRecorded3.reachable (wRefusedAccessesRecorded3.get MGT_SESS.PATH 7) = true ∧ wRefusedAccessesRecorded3.phase ≠ .reset ∧ wRefusedAccessesRecorded3.sesOpen 7 = true ∧ (wRefusedAccessesRecorded3.sesAt 7).last = none ∧ wRefusedAccessesRecorded3.owns 7 = true ∧ (0x15000000 % 2 ^ 0 ≠ 0 ∨ wRefusedAccessesRecorded3.locate 0x15000000 = .reserved) ∧ wRefusedAccessesRecorded3.flag MGT_DRS_ERR.PEND 0 = true ∧
    1073741823 < 2 ^ 30 ∧ 3 < 4 ∧ 7 < 8 ∧ wRefusedAccessesRecorded4.flag MGT_DRS_ERR.PEND 0 = false ∧ wRefusedAccessesRecorded4.get MGT_EVT_STAT.COUNT 0 < 960 ∧
    wRefusedAccessesRecorded5.flag MGT_DRS_ERR.PEND 0 = true ∧
    ((⟨1073741823, 3, true, 7⟩ : RefusedAccess)).addr < 2 ^ 30 ∧ ((⟨1073741823, 3, true, 7⟩ : RefusedAccess)).size < 4 ∧ ((⟨1073741823, 3, true, 7⟩ : RefusedAccess)).session < 8 ∧ wRefusedAccessesRecorded7.get MGT_EVT_STAT.COUNT 0 < 960 ∧
    7 < 8 ∧ wRefusedAccessesRecorded8.reachable (wRefusedAccessesRecorded8.get MGT_SESS.PATH 7) = true ∧ wRefusedAccessesRecorded8.sesOpen 7 = true ∧ (wRefusedAccessesRecorded8.sesAt 7).last = none ∧ wRefusedAccessesRecorded8.owns 7 = false := by
  and_intros <;> decide +kernel

def wFirstCauseRecorded0 : State := ({ State.reset with tim := ⟨7, 8, 9⟩ } : State)
def wFirstCauseRecorded0b : State := ({ State.reset with phase := .operating } : State)
def wFirstCauseRecorded1 : State := ({ State.reset with phase := .operating } : State)
/-- Hypotheses of FirstCauseRecorded met. -/
theorem witness_FirstCauseRecorded :
    36 < 512 ∧ 2 < 3 ∧ (causesOf 36).contains (2, false) = true ∧ wFirstCauseRecorded0.flag FLT_REC0.PEND (wFirstCauseRecorded0.collectorOf 36) = false ∧
    507 < 512 ∧ 0 < 3 ∧ (causesOf 507).contains (0, false) = true ∧ wFirstCauseRecorded0b.flag FLT_REC0.PEND (wFirstCauseRecorded0b.collectorOf 507) = false ∧
    511 < 512 ∧ 1 < 3 ∧ wFirstCauseRecorded1.flag FLT_REC0.PEND (wFirstCauseRecorded1.collectorOf 511) = false := by
  and_intros <;> decide +kernel

def wOwnershipHandedOver0 : State := ({ (wOwner.set MGT_SESS.OPEN 0 1) with clk := 9 } : State)
def wOwnershipHandedOver1 : State := wOwner
def wOwnershipHandedOver1b : State := wOwner
def wOwnershipHandedOver2 : State := wOwner
/-- Hypotheses of OwnershipHandedOver met. -/
theorem witness_OwnershipHandedOver :
    7 < 8 ∧ 0 < 8 ∧ wOwnershipHandedOver0.reachable (wOwnershipHandedOver0.get MGT_SESS.PATH 7) = true ∧ wOwnershipHandedOver0.sesOpen 7 = true ∧ (wOwnershipHandedOver0.sesAt 7).last = none ∧ wOwnershipHandedOver0.owns 7 = true ∧ wOwnershipHandedOver0.sesOpen 0 = true ∧ 0 ≠ 7 ∧
    7 < 8 ∧ 0 < 8 ∧ wOwnershipHandedOver1.reachable (wOwnershipHandedOver1.get MGT_SESS.PATH 7) = true ∧ wOwnershipHandedOver1.sesOpen 7 = true ∧ (wOwnershipHandedOver1.sesAt 7).last = none ∧ wOwnershipHandedOver1.owns 7 = true ∧ (wOwnershipHandedOver1.sesOpen 0 = false ∨ 0 = 7) ∧
    7 < 8 ∧ 7 < 8 ∧ wOwnershipHandedOver1b.reachable (wOwnershipHandedOver1b.get MGT_SESS.PATH 7) = true ∧ wOwnershipHandedOver1b.sesOpen 7 = true ∧ (wOwnershipHandedOver1b.sesAt 7).last = none ∧ wOwnershipHandedOver1b.owns 7 = true ∧ (wOwnershipHandedOver1b.sesOpen 7 = false ∨ 7 = 7) ∧
    7 < 8 ∧ wOwnershipHandedOver2.reachable (wOwnershipHandedOver2.get MGT_SESS.PATH 7) = true ∧ wOwnershipHandedOver2.sesOpen 7 = true ∧ (wOwnershipHandedOver2.sesAt 7).last = none ∧ wOwnershipHandedOver2.owns 7 = true := by
  and_intros <;> decide +kernel

def wClaimsValued0 : State := ((({ State.reset with phase := .operating } : State).set MGT_SESS.OPEN 7 1).set KEY_TRNG_STAT.READY 0 1)
def wClaimsValued1 : State := ({ (((({ State.reset with phase := .operating } : State).set MGT_SESS.OPEN 7 1).set KEY_TRNG_STAT.READY 0 1).set MGT_OWN_STAT.ELECT 0 1) with claims := [(6, 2 ^ 56, 4)] } : State)
def wClaimsValued2 : State := ((({ State.reset with phase := .operating } : State).set MGT_SESS.OPEN 7 1).set KEY_TRNG_STAT.READY 0 0)
/-- Hypotheses of ClaimsValued met. -/
theorem witness_ClaimsValued :
    7 < 8 ∧ 255 < 256 ∧ wClaimsValued0.reachable (wClaimsValued0.get MGT_SESS.PATH 7) = true ∧ wClaimsValued0.sesOpen 7 = true ∧ (wClaimsValued0.sesAt 7).last = none ∧ wClaimsValued0.flag KEY_TRNG_STAT.READY 0 = true ∧ wClaimsValued0.flag MGT_OWN_STAT.HELD 0 = false ∧ wClaimsValued0.flag MGT_OWN_STAT.ELECT 0 = false ∧
    7 < 8 ∧ 255 < 256 ∧ wClaimsValued1.reachable (wClaimsValued1.get MGT_SESS.PATH 7) = true ∧ wClaimsValued1.sesOpen 7 = true ∧ (wClaimsValued1.sesAt 7).last = none ∧ wClaimsValued1.flag KEY_TRNG_STAT.READY 0 = true ∧ wClaimsValued1.flag MGT_OWN_STAT.HELD 0 = false ∧ wClaimsValued1.flag MGT_OWN_STAT.ELECT 0 = true ∧ wClaimsValued1.claims.any (fun y => y.1 = 7) = false ∧
    7 < 8 ∧ wClaimsValued2.reachable (wClaimsValued2.get MGT_SESS.PATH 7) = true ∧ wClaimsValued2.sesOpen 7 = true ∧ (wClaimsValued2.sesAt 7).last = none ∧ wClaimsValued2.flag KEY_TRNG_STAT.READY 0 = false := by
  and_intros <;> decide +kernel

def wEventsQueued0 : State := ({ ((State.reset.set MGT_EVT_STAT.COUNT 0 959).set MGT_EVT_STAT.NEXT_SEQ 0 4294967295) with tim := ⟨5, 6, 7⟩ } : State)
def wEventsQueued0b : State := (State.reset.set MGT_EVT_STAT.COUNT 0 1023)
def wEventsQueued1 : State := (State.reset.set MGT_EVT_STAT.COUNT 0 960)
def wEventsQueued1b : State := (State.reset.set MGT_EVT_STAT.COUNT 0 1024)
/-- Hypotheses of EventsQueued met. -/
theorem witness_EventsQueued :
    511 < 512 ∧ 0 < 3 ∧ (wEventsQueued0.get MGT_EVT_STAT.COUNT 0 < 960 ∨ (0 < 0 ∧ wEventsQueued0.get MGT_EVT_STAT.COUNT 0 < 1024)) ∧ 1023 = wEventsQueued0.get MGT_EVT_STAT.NEXT_SEQ 0 % 1024 ∧
    511 < 512 ∧ 2 < 3 ∧ (wEventsQueued0b.get MGT_EVT_STAT.COUNT 0 < 960 ∨ (0 < 2 ∧ wEventsQueued0b.get MGT_EVT_STAT.COUNT 0 < 1024)) ∧ 0 = wEventsQueued0b.get MGT_EVT_STAT.NEXT_SEQ 0 % 1024 ∧
    511 < 512 ∧ ((0 = 0 ∧ 960 ≤ wEventsQueued1.get MGT_EVT_STAT.COUNT 0) ∨ 1024 ≤ wEventsQueued1.get MGT_EVT_STAT.COUNT 0) ∧
    511 < 512 ∧ ((2 = 0 ∧ 960 ≤ wEventsQueued1b.get MGT_EVT_STAT.COUNT 0) ∨ 1024 ≤ wEventsQueued1b.get MGT_EVT_STAT.COUNT 0) := by
  and_intros <;> decide +kernel


end Sys2Proof.Tests
end

namespace Sys2Proof.Machine

/-! ### Completing and stopping (log entry 2) -/

/-- A command with a unit that does not exist stops and says so, whatever its meaning would have done. -/
theorem run_false {c : Bool} (t : State) (h : c = false) : run c t = .fault .noSuchUnit := by subst h; rfl

/-- Every arm of `exec` is guarded by exactly the units that `Instr.wf` asks for: its outcome is `run` of the command's meaning, one meaning per constructor. -/
theorem exec_eq_run_wf (i : Instr) (s : State) : ∃ t, exec i s = run i.wf t := by
  cases i with
  | _ => exact ⟨_, rfl⟩

/-- Settles O46: `exec` is guarded by `Instr.wf` in every arm, so the guard alone decides between completing and stopping. -/
theorem stopsNameMissingUnits : Obligations.StopsNameMissingUnits := by
  refine ⟨fun i s hwf => ?_, fun i s hwf => ?_⟩
  · obtain ⟨t, ht⟩ := exec_eq_run_wf i s
    exact ⟨t, ht.trans (run_true hwf)⟩
  · obtain ⟨t, ht⟩ := exec_eq_run_wf i s
    exact ht.trans (run_false t hwf)

end Sys2Proof.Machine

namespace Sys2Proof.Machine

/-! ### A crossing error that fences its region (R20, R383, R385) -/

/-- A read request of one flit from block 0 to itself. -/
def oneFlitRead : Pkt := { Pkt.blank with len := 1, kind := .memRd }

/-- A state whose block 0 has one packet in its egress buffer, and whose crossing to that block holds the only flit of another. -/
abbrev AtCrossing : Type :=
  { s : State // s.crossing 0 7 = [⟨4, oneFlitRead, 0, 0⟩] ∧ (s.niAt 0).rx = [oneFlitRead] ∧ s.quenched 0 = false }

/-- Such a state in which region 0's collector holds a record of class 1 with SECOND set, so a further class 1 cause there becomes fatal (R383). The event ring is full: no event detail,
a free value, is stored, and the effect can be computed. -/
def escalating : AtCrossing :=
  ⟨(((((State.reset.set FLT_REC0.PEND 0 1).set FLT_REC0.CLASS 0 1).set FLT_CFG.SECOND 0 1).set MGT_EVT_STAT.COUNT 0 1024).setNi 0
    { NiState.idle with rx := [oneFlitRead] }).setCrossing 0 7 [⟨4, oneFlitRead, 0, 0⟩], by decide +kernel⟩

/-- An uncorrectable header flit at that crossing is a second class 1 cause: the region is fenced, and the NI of block 0, quenched with it, has handed its buffered packet to its sink
stage (R162). -/
theorem escalating_arrival :
    (crossingFlitArrival 0 7 3 false escalating.1).regionState 0 = 1 ∧ ((crossingFlitArrival 0 7 3 false escalating.1).niAt 0).rx = [] := by decide +kernel

/-- Refutes O15: its last clause has the buffer of the discarded packet's destination kept, but where the error escalates (R383) the region is fenced (R385) and the buffer empties into
the sink stage. -/
theorem not_anvilCarriesPackets : ¬ Obligations.AnvilCarriesPackets := by
  unfold Obligations.AnvilCarriesPackets
  rintro ⟨-, -, -, -, -, -, -, -, -, -, -, -, -, -, -, -, -, -, -, uncorrectableHeader⟩
  obtain ⟨hcrossing, hbefore, hopen⟩ := escalating.2
  obtain ⟨t, ht, -, hkept⟩ := uncorrectableHeader escalating.1 0 ⟨4, oneFlitRead, 0, 0⟩ false (by decide) hcrossing rfl rfl (by decide) hopen
  have he : exec (.crossingFlitArrival 0 7 3 false) escalating.1 = .next (crossingFlitArrival 0 7 3 false escalating.1) := rfl
  obtain rfl : crossingFlitArrival 0 7 3 false escalating.1 = t := Host.Outcome.next.inj (he.symm.trans ht)
  exact absurd (escalating_arrival.2.symm.trans (hkept.trans hbefore)) (by decide)

end Sys2Proof.Machine

namespace Sys2Proof.Machine

/-! ### What one command changes, and the canonical form of the memories -/

/-- A guarded command whose meaning has the frame `M` has every frame that covers `M`; that a command's list covers it is checked by computation. -/
theorem run_within {c : Bool} {s t u : State} {M G : Nat} (h : run c t = .next u) (hf : Sub M G → Only G s s → Only G s t)
    (hM : Sub M G := by dsimp only [Instr.changes]; decide +kernel) : Only G s u :=
  run_only h (hf hM (Only.refl G s))

/-- The same for a command that names no unit and so always completes. -/
theorem next_within {s t u : State} {M G : Nat} (h : (.next t : Host.Outcome State Fault Refusal) = .next u) (hf : Sub M G → Only G s s → Only G s t)
    (hM : Sub M G := by dsimp only [Instr.changes]; decide +kernel) : Only G s u :=
  run_within (c := true) h hf hM

/-- A command that completes has changed only the parts of the state that its list in `Instr.changes` names, and has kept the memories in canonical form. -/
theorem exec_only {i : Instr} {s t : State} (h : exec i s = .next t) : Only (partsMask i.changes) s t := by
  cases i with
  | crossingFlitArrival => exact run_within h crossingFlitArrival_only
  | drsErrPendClear => exact next_within h drsErrPendClear_only
  | debugViewAccess => exact run_within h debugViewAccess_only
  | hbmDbgWindowWrite => exact next_within h hbmDbgWindowWrite_only
  | bringUpStart => exact run_within h bringUpStart_only
  | trainingStageEnd => exact run_within h trainingStageEnd_only
  | adminWrite => exact run_within h adminWrite_only
  | symbolWindowEnd => exact run_within h symbolWindowEnd_only
  | laneMark => exact run_within h laneMark_only
  | l0pRequestPartner => exact run_within h l0pRequestPartner_only
  | l0pTgtWrite => exact run_within h l0pTgtWrite_only
  | l0pChangeComplete => exact run_within h l0pChangeComplete_only
  | retrainWrite => exact run_within h retrainWrite_only
  | recoveryEntry => exact run_within h recoveryEntry_only
  | recoveryComplete => exact run_within h recoveryComplete_only
  | markClear => exact run_within h markClear_only
  | spareSelfCheck => exact run_within h spareSelfCheck_only
  | prbsEnWrite => exact run_within h prbsEnWrite_only
  | prbsSnap => exact run_within h prbsSnap_only
  | prbsCheckerLock => exact run_within h prbsCheckerLock_only
  | prbsCheckerLoseLock => exact run_within h prbsCheckerLoseLock_only
  | dlUpLoss => exact run_within h dlUpLoss_only
  | bindVppb => exact run_within h bindVppb_only
  | bindComplete => exact run_within h bindComplete_only
  | unbindVppb => exact run_within h unbindVppb_only
  | unbindComplete => exact run_within h unbindComplete_only
  | hotRemoveTimeout => exact run_within h hotRemoveTimeout_only
  | hostPowerOff => exact run_within h hostPowerOff_only
  | abortBackground => exact run_within h abortBackground_only
  | identify => exact run_within h identify_only
  | backgroundStatus => exact run_within h backgroundStatus_only
  | getResponseLimit => exact run_within h getResponseLimit_only
  | setResponseLimit => exact run_within h setResponseLimit_only
  | getEventRecords => exact run_within h getEventRecords_only
  | clearEventRecords => exact run_within h clearEventRecords_only
  | getEventPolicy => exact run_within h getEventPolicy_only
  | setEventPolicy => exact run_within h setEventPolicy_only
  | getTimestamp => exact run_within h getTimestamp_only
  | getSupportedLogs => exact run_within h getSupportedLogs_only
  | getLog => exact run_within h getLog_only
  | identifySwitch => exact run_within h identifySwitch_only
  | getPortState => exact run_within h getPortState_only
  | portControl => exact run_within h portControl_only
  | ppbConfig => exact run_within h ppbConfig_only
  | vcsInfo => exact run_within h vcsInfo_only
  | generateAer => exact run_within h generateAer_only
  | tunnel => exact run_within h tunnel_only
  | ldConfig => exact run_within h ldConfig_only
  | ldMemory => exact run_within h ldMemory_only
  | dcdInfo => exact run_within h dcdInfo_only
  | dcConfig => exact run_within h dcConfig_only
  | setDcConfig => exact run_within h setDcConfig_only
  | extentLists => exact run_within h extentLists_only
  | dcAdd => exact run_within h dcAdd_only
  | dcAddResponse => exact run_within h dcAddResponse_only
  | dcAddTimeout => exact run_within h dcAddTimeout_only
  | dcRelease => exact run_within h dcRelease_only
  | extentReleaseComplete => exact next_within h extentReleaseComplete_only
  | weuskOverCci => exact run_within h weuskOverCci_only
  | unsupportedOpcode => exact run_within h unsupportedOpcode_only
  | hdmDecoderCommit => exact run_within h hdmDecoderCommit_only
  | biEnableWrite => exact run_within h biEnableWrite_only
  | targetSurpriseRemoval => exact run_within h targetSurpriseRemoval_only
  | ideIntegrityFailure => exact run_within h ideIntegrityFailure_only
  | markerCandidate => exact run_within h markerCandidate_only
  | markerCheck => exact run_within h markerCheck_only
  | codewordDecode => exact run_within h codewordDecode_only
  | calibrationDone => exact run_within h calibrationDone_only
  | signalDetect => exact run_within h signalDetect_only
  | trainBlockReceived => exact run_within h trainBlockReceived_only
  | adaptDone => exact run_within h adaptDone_only
  | adaptBoundExceeded => exact run_within h adaptBoundExceeded_only
  | adaptPartnerDoneTimeout => exact run_within h adaptPartnerDoneTimeout_only
  | deskewRelease => exact run_within h deskewRelease_only
  | capBlockReceived => exact run_within h capBlockReceived_only
  | capxComplete => exact run_within h capxComplete_only
  | capxTimeout => exact run_within h capxTimeout_only
  | trainingFailBackoffEnd => exact run_within h trainingFailBackoffEnd_only
  | checkUnitReceived => exact run_within h checkUnitReceived_only
  | partnerRetrainDetect => exact run_within h partnerRetrainDetect_only
  | sflRetrainWrite => exact run_within h sflRetrainWrite_only
  | dataUnitSend => exact run_within h dataUnitSend_only
  | flowUnitReceived => exact run_within h flowUnitReceived_only
  | ackReceived => exact run_within h ackReceived_only
  | nakReceived => exact run_within h nakReceived_only
  | replayTimeout => exact run_within h replayTimeout_only
  | replayUnitResend => exact run_within h replayUnitResend_only
  | replayMaxExceeded => exact run_within h replayMaxExceeded_only
  | ackTimer => exact run_within h ackTimer_only
  | nakResendTimer => exact run_within h nakResendTimer_only
  | xoffUpdate => exact run_within h xoffUpdate_only
  | timingSlot => exact run_within h timingSlot_only
  | timingUnitReceived => exact run_within h timingUnitReceived_only
  | laneSet => exact run_within h laneSet_only
  | laneAck => exact run_within h laneAck_only
  | laneNak => exact run_within h laneNak_only
  | switchLanes => exact run_within h switchLanes_only
  | keysync => exact run_within h keysync_only
  | activeLaneLockLoss => exact run_within h activeLaneLockLoss_only
  | laneReqWrite => exact run_within h laneReqWrite_only
  | sflLinkDown => exact run_within h sflLinkDown_only
  | downTmoExpiry => exact run_within h downTmoExpiry_only
  | sflKeyCommit => exact run_within h sflKeyCommit_only
  | txSlotWrite => exact run_within h txSlotWrite_only
  | keyCountLimit => exact run_within h keyCountLimit_only
  | packetInject => exact run_within h packetInject_only
  | routeEntryWrite => exact run_within h routeEntryWrite_only
  | routeChangeResume => exact run_within h routeChangeResume_only
  | flitSwitch => exact run_within h flitSwitch_only
  | linkWireSpare => exact run_within h linkWireSpare_only
  | voqInject => exact run_within h voqInject_only
  | creditRequest => exact run_within h creditRequest_only
  | creditGrant => exact run_within h creditGrant_only
  | creditReturn => exact run_within h creditReturn_only
  | sharedGrantRelease => exact run_within h sharedGrantRelease_only
  | egressPacketSend => exact run_within h egressPacketSend_only
  | messageToDecode => exact run_within h messageToDecode_only
  | fabricHeaderRebuild => exact run_within h fabricHeaderRebuild_only
  | quenchTrigger => exact run_within h quenchTrigger_only
  | quenchNoticeArrival => exact run_within h quenchNoticeArrival_only
  | quenchSet => exact run_within h quenchSet_only
  | quenchClear => exact run_within h quenchClear_only
  | slagAnswer => exact run_within h slagAnswer_only
  | unquench => exact run_within h unquench_only
  | unquenchNoticeArrival => exact run_within h unquenchNoticeArrival_only
  | mirrorCopy => exact run_within h mirrorCopy_only
  | mirrorRecordWrite => exact run_within h mirrorRecordWrite_only
  | probeMatch => exact run_within h probeMatch_only
  | probeSnap => exact run_within h probeSnap_only
  | mirrorEnWrite => exact run_within h mirrorEnWrite_only
  | requestColour => exact run_within h requestColour_only
  | holdQueueRetest => exact run_within h holdQueueRetest_only
  | holdQueueFull => exact run_within h holdQueueFull_only
  | holdBoundExpiry => exact run_within h holdBoundExpiry_only
  | holdBoundWrite => exact run_within h holdBoundWrite_only
  | contextRewrite => exact run_within h contextRewrite_only
  | shaperRewrite => exact run_within h shaperRewrite_only
  | cmarkReceived => exact run_within h cmarkReceived_only
  | bindFlow => exact run_within h bindFlow_only
  | unbindFlow => exact run_within h unbindFlow_only
  | lookupFlow => exact run_within h lookupFlow_only
  | bindCommandComplete => exact run_within h bindCommandComplete_only
  | autoBind => exact run_within h autoBind_only
  | requestResolve => exact next_within h requestResolve_only
  | acuErrPendClear => exact run_within h acuErrPendClear_only
  | l2CacheFill => exact run_within h l2CacheFill_only
  | acuWindowWrite => exact next_within h acuWindowWrite_only
  | l1EntryWrite => exact next_within h l1EntryWrite_only
  | duplicateMismatch => exact run_within h duplicateMismatch_only
  | duplicateRepair => exact run_within h duplicateRepair_only
  | tableScrubStep => exact run_within h tableScrubStep_only
  | fracture => exact next_within h fracture_only
  | unfracture => exact next_within h unfracture_only
  | writeL2 => exact next_within h writeL2_only
  | readL2 => exact next_within h readL2_only
  | remapCommandComplete => exact next_within h remapCommandComplete_only
  | hearthRequestArrival => exact next_within h hearthRequestArrival_only
  | transactionStart => exact next_within h transactionStart_only
  | directoryCacheMiss => exact next_within h directoryCacheMiss_only
  | holdExpiry => exact run_within h holdExpiry_only
  | bisnpSend => exact run_within h bisnpSend_only
  | birspReceived => exact run_within h birspReceived_only
  | snpDeadReceived => exact run_within h snpDeadReceived_only
  | bisnpTimeout => exact run_within h bisnpTimeout_only
  | writebackReceived => exact next_within h writebackReceived_only
  | biconflict => exact run_within h biconflict_only
  | expanderResponse => exact next_within h expanderResponse_only
  | transactionComplete => exact next_within h transactionComplete_only
  | caidRequest => exact run_within h caidRequest_only
  | caidInstall => exact run_within h caidInstall_only
  | caidRequestTimeout => exact run_within h caidRequestTimeout_only
  | agentRemoval => exact run_within h agentRemoval_only
  | directorySweepComplete => exact run_within h directorySweepComplete_only
  | readDir => exact next_within h readDir_only
  | hrtCfgWrite => exact next_within h hrtCfgWrite_only
  | poisonLogClear => exact run_within h poisonLogClear_only
  | hotnessNotice => exact run_within h hotnessNotice_only
  | hotnessCoalesceFlush => exact run_within h hotnessCoalesceFlush_only
  | hotnessEpochChange => exact next_within h hotnessEpochChange_only
  | hotnessFlushComplete => exact next_within h hotnessFlushComplete_only
  | hotEnWrite => exact next_within h hotEnWrite_only
  | migrate => exact run_within h migrate_only
  | drainComplete => exact run_within h drainComplete_only
  | copyPassComplete => exact run_within h copyPassComplete_only
  | migrationHold => exact run_within h migrationHold_only
  | holdAbort => exact run_within h holdAbort_only
  | migrationSwap => exact run_within h migrationSwap_only
  | migrationFinish => exact run_within h migrationFinish_only
  | migrationLoss => exact run_within h migrationLoss_only
  | migCfgWrite => exact next_within h migCfgWrite_only
  | jobDispatch => exact run_within h jobDispatch_only
  | dmLd => exact run_within h dmLd_only
  | dmSt => exact run_within h dmSt_only
  | dmCopy => exact run_within h dmCopy_only
  | dmFill => exact run_within h dmFill_only
  | dmAmo => exact run_within h dmAmo_only
  | dmWait => exact run_within h dmWait_only
  | dmFence => exact run_within h dmFence_only
  | dmCrc => exact run_within h dmCrc_only
  | jobDone => exact run_within h jobDone_only
  | jobSubmit => exact run_within h jobSubmit_only
  | coprocessorCommit => exact run_within h coprocessorCommit_only
  | speculativeReadDefer => exact run_within h speculativeReadDefer_only
  | coprocessorSquash => exact run_within h coprocessorSquash_only
  | farResponse => exact run_within h farResponse_only
  | tngSubGo => exact run_within h tngSubGo_only
  | deviceJobSubmit => exact run_within h deviceJobSubmit_only
  | jobCopy => exact run_within h jobCopy_only
  | jobFill => exact run_within h jobFill_only
  | jobCrc => exact run_within h jobCrc_only
  | jobCompare => exact run_within h jobCompare_only
  | dirSweep => exact run_within h dirSweep_only
  | telem => exact run_within h telem_only
  | telemSnapshot => exact run_within h telemSnapshot_only
  | kernelJob => exact run_within h kernelJob_only
  | kernelFault => exact run_within h kernelFault_only
  | completionRecordWrite => exact run_within h completionRecordWrite_only
  | cqHeadWrite => exact run_within h cqHeadWrite_only
  | tngCancelGo => exact run_within h tngCancelGo_only
  | engineReset => exact run_within h engineReset_only
  | engineWatchdog => exact run_within h engineWatchdog_only
  | engineLoadComplete => exact run_within h engineLoadComplete_only
  | programReload => exact run_within h programReload_only
  | joinFabric => exact next_within h joinFabric_only
  | joinRefuse => exact next_within h joinRefuse_only
  | distPrep => exact next_within h distPrep_only
  | distCommit => exact next_within h distCommit_only
  | distAbort => exact next_within h distAbort_only
  | ackFabric => exact run_within h ackFabric_only
  | resync => exact run_within h resync_only
  | standbyAckTimeout => exact next_within h standbyAckTimeout_only
  | announceSend => exact next_within h announceSend_only
  | announce => exact next_within h announce_only
  | leaseLapse => exact next_within h leaseLapse_only
  | voteReq => exact run_within h voteReq_only
  | vote => exact run_within h vote_only
  | managerIsolated => exact next_within h managerIsolated_only
  | managerListenEnd => exact next_within h managerListenEnd_only
  | handoverWrite => exact next_within h handoverWrite_only
  | handoverMessage => exact next_within h handoverMessage_only
  | linkReport => exact next_within h linkReport_only
  | chipUnreachable => exact run_within h chipUnreachable_only
  | fabricForward => exact run_within h fabricForward_only
  | ttlExpired => exact run_within h ttlExpired_only
  | fabricLinkLossReroute => exact run_within h fabricLinkLossReroute_only
  | mixedRevisionRetrain => exact run_within h mixedRevisionRetrain_only
  | mixedConditionChange => exact next_within h mixedConditionChange_only
  | imgErase => exact run_within h imgErase_only
  | imgWrite => exact run_within h imgWrite_only
  | imgCheck => exact run_within h imgCheck_only
  | imgCommit => exact run_within h imgCommit_only
  | imgApply => exact run_within h imgApply_only
  | imageCommandComplete => exact next_within h imageCommandComplete_only
  | keyGenId => exact next_within h keyGenId_only
  | keyRotate => exact next_within h keyRotate_only
  | keyRevoke => exact run_within h keyRevoke_only
  | keyProgRoot => exact run_within h keyProgRoot_only
  | keyRaiseSvn => exact next_within h keyRaiseSvn_only
  | keyCommandComplete => exact next_within h keyCommandComplete_only
  | trngStartupComplete => exact next_within h trngStartupComplete_only
  | trngHealthFailure => exact next_within h trngHealthFailure_only
  | trngReseed => exact next_within h trngReseed_only
  | trngNext => exact next_within h trngNext_only
  | bootRecordsRead => exact next_within h bootRecordsRead_only
  | bootVerifyResult => exact next_within h bootVerifyResult_only
  | openSession => exact next_within h openSession_only
  | closeSession => exact run_within h closeSession_only
  | sessionIdleTimeout => exact run_within h sessionIdleTimeout_only
  | sessionPathLoss => exact run_within h sessionPathLoss_only
  | regRead => exact run_within h regRead_only
  | regWrite => exact run_within h regWrite_only
  | claim => exact run_within h claim_only
  | electionWindowClose => exact next_within h electionWindowClose_only
  | renew => exact run_within h renew_only
  | ownerLeaseLapse => exact next_within h ownerLeaseLapse_only
  | ownHandover => exact run_within h ownHandover_only
  | releaseOwnership => exact run_within h releaseOwnership_only
  | eventQueue => exact run_within h eventQueue_only
  | eventSend => exact next_within h eventSend_only
  | eventAck => exact run_within h eventAck_only
  | evtAckWrite => exact next_within h evtAckWrite_only
  | eventResendTimeout => exact next_within h eventResendTimeout_only
  | fmApi => exact run_within h fmApi_only
  | memRead => exact run_within h memRead_only
  | memWrite => exact run_within h memWrite_only
  | unknownTypeMessage => exact run_within h unknownTypeMessage_only
  | udpDuplicateRequest => exact run_within h udpDuplicateRequest_only
  | resetNAssert => exact next_within h resetNAssert_only
  | resetEnd => exact next_within h resetEnd_only
  | brownOut => exact next_within h brownOut_only
  | reboot => exact next_within h reboot_only
  | enterTest => exact next_within h enterTest_only
  | boundaryScanTest => exact next_within h boundaryScanTest_only
  | hbmInitDone => exact next_within h hbmInitDone_only
  | provisionComplete => exact next_within h provisionComplete_only
  | recoverRegions => exact next_within h recoverRegions_only
  | regionRecoveryEnd => exact run_within h regionRecoveryEnd_only
  | perstAssert => exact run_within h perstAssert_only
  | perstDeassert => exact run_within h perstDeassert_only
  | bankWrite => exact next_within h bankWrite_only
  | unitBanked => exact run_within h unitBanked_only
  | bankDemandWake => exact run_within h bankDemandWake_only
  | bankIdleRebank => exact run_within h bankIdleRebank_only
  | faultCause => exact run_within h faultCause_only
  | fltPendClear => exact run_within h fltPendClear_only
  | fltFatalClear => exact run_within h fltFatalClear_only
  | regionFence => exact run_within h regionFence_only
  | lostHomeScan => exact run_within h lostHomeScan_only
  | chipFatalCause => exact run_within h chipFatalCause_only
  | emberToggle => exact next_within h emberToggle_only
  | fltInjGo => exact next_within h fltInjGo_only
  | injectionApply => exact next_within h injectionApply_only
  | injectionTimeout => exact next_within h injectionTimeout_only
  | wearSample => exact next_within h wearSample_only
  | spareSliceReplace => exact run_within h spareSliceReplace_only
  | spareEngineReplace => exact run_within h spareEngineReplace_only
  | sramSoftRepair => exact run_within h sramSoftRepair_only
  | hbmSoftPpr => exact run_within h hbmSoftPpr_only
  | clearLane => exact next_within h clearLane_only
  | retireEngine => exact next_within h retireEngine_only
  | retireSlice => exact next_within h retireSlice_only
  | degClear => exact next_within h degClear_only
  | poolUnmetDemand => exact run_within h poolUnmetDemand_only
  | ppsOutEdge => exact next_within h ppsOutEdge_only
  | timNowRead => exact run_within h timNowRead_only
  | servoUpdate => exact next_within h servoUpdate_only
  | ptpSync => exact next_within h ptpSync_only
  | ppsInEdge => exact next_within h ppsInEdge_only
  | timeReferenceLoss => exact next_within h timeReferenceLoss_only
  | timSet => exact next_within h timSet_only
  | timAdj => exact next_within h timAdj_only
  | telemetryConversion => exact run_within h telemetryConversion_only
  | thermalStateChange => exact run_within h thermalStateChange_only
  | cntSnap => exact run_within h cntSnap_only
  | cntClr => exact run_within h cntClr_only
  | clrPeak => exact next_within h clrPeak_only
  | bwWindowEnd => exact run_within h bwWindowEnd_only
  | traceRecord => exact next_within h traceRecord_only
  | start => exact next_within h start_only
  | stop => exact next_within h stop_only
  | pmbusPoll => exact run_within h pmbusPoll_only
  | slotChainFrame => exact next_within h slotChainFrame_only
  | slotCommandedOn => exact run_within h slotCommandedOn_only
  | slotPgood => exact run_within h slotPgood_only
  | slotSettleEnd => exact run_within h slotSettleEnd_only
  | slotPerstRelease => exact run_within h slotPerstRelease_only
  | slotOffCommand => exact run_within h slotOffCommand_only
  | slotTrip => exact run_within h slotTrip_only
  | slotRetry => exact run_within h slotRetry_only
  | slotStableReset => exact run_within h slotStableReset_only
  | fetFail => exact run_within h fetFail_only
  | slotClear => exact run_within h slotClear_only
  | pwrbrkAssert => exact run_within h pwrbrkAssert_only
  | pwrbrkRelease => exact run_within h pwrbrkRelease_only
  | slotPresenceLoss => exact run_within h slotPresenceLoss_only
  | cycle => exact run_within h cycle_only
  | attentionButton => exact run_within h attentionButton_only
  | refclkLoss => exact run_within h refclkLoss_only
  | refclkRestore => exact run_within h refclkRestore_only
  | ideKeySetUp => exact run_within h ideKeySetUp_only
  | remoteBinding => exact run_within h remoteBinding_only
  | hotnessZeroFillComplete => exact next_within h hotnessZeroFillComplete_only
  | ptpAnnounce => exact next_within h ptpAnnounce_only
  | upstreamTimeout => exact next_within h upstreamTimeout_only

/-- A step, a command's or an idle one, keeps the memories in canonical form. -/
theorem step_keeps_canonical {s t : State} (hc : s.Canonical) (h : step s = .next t) : t.Canonical := by
  unfold step at h
  split at h
  case h_1 =>
    injection h with h
    exact h ▸ (idleTick_only (Sub.refl _) (Only.refl _ s)).1 hc
  case h_2 c cs _ =>
    have hc' : State.Canonical { s with pending := cs } := hc
    exact (exec_only h).1 hc'

/-- Settles O47: each meaning's frame carries the canonical form along, and so does the idle nanosecond. -/
theorem stepsKeepCanonicalForm : Obligations.StepsKeepCanonicalForm := fun _ _ => step_keeps_canonical

end Sys2Proof.Machine

namespace Sys2Proof.Machine

/-! ### What a frame says of one part -/

/-- A register of a kind outside the frame reads as before. -/
theorem Only.reg_eq {G : Nat} {s t : State} (h : Only G s t) (k : RegKind) (i : Nat) (hG : G.testBit k.ctorIdx = false := by decide) : t.reg k i = s.reg k i :=
  h.2 (.reg k) hG i

/-- A field of a register outside the frame reads as before. -/
theorem Only.get_eq {G : Nat} {s t : State} (h : Only G s t) (F : Fld) (i : Nat) (hG : G.testBit F.reg.ctorIdx = false := by decide) : t.get F i = s.get F i :=
  congrArg (fun w => w.field F.hi F.lo) (h.reg_eq F.reg i hG)

/-- A function whose frame leaves HBM out stores nothing. -/
theorem Only.hbm_eq {G : Nat} {s t : State} (h : Only G s t) (hG : G.testBit (256 + StateField.ctorIdx .hbm) = false := by decide) : t.hbm = s.hbm :=
  h.2 (.field .hbm) hG

/-! ### Bytes of HBM that a store leaves alone -/

@[simp] theorem length_toBytes (k n : Nat) : (toBytes k n).length = k := by
  induction k generalizing n with
  | zero => rfl
  | succ k ih => simp [toBytes, ih]

/-- From `s` to `t` no byte of HBM has changed but the `n` at address `b`. -/
def StoresWithin (b n : Nat) (s t : State) : Prop := ∀ a, a < b ∨ b + n ≤ a → Memory.read t.hbm a = Memory.read s.hbm a

section StoresWithin

variable {b n : Nat} {s t u : State}

theorem StoresWithin.of_hbm_eq (h : t.hbm = s.hbm) : StoresWithin b n s t := fun _ _ => by rw [h]

theorem StoresWithin.trans (h : StoresWithin b n s t) (h' : StoresWithin b n t u) : StoresWithin b n s u := fun a ha => (h' a ha).trans (h a ha)

theorem StoresWithin.mono {b' n' : Nat} (h : StoresWithin b' n' s t) (hb : b ≤ b') (hn : b' + n' ≤ b + n) : StoresWithin b n s t :=
  fun a ha => h a (by omega)

theorem StoresWithin.ite {c : Prop} [Decidable c] (ht : StoresWithin b n s t) (hu : StoresWithin b n s u) : StoresWithin b n s (if c then t else u) := by
  split
  · exact ht
  · exact hu

theorem State.writeHbm_storesWithin (s : State) (b : Nat) (bs : List Byte) : StoresWithin b bs.length s (s.writeHbm b bs) :=
  fun a ha => Memory.read_writeBytes_other s.hbm b a bs ha

/-- A message of a session whose effect is kept out by none of the checks has it right after the message is counted; any other stores nothing. -/
theorem State.message_cases (s : State) (n type tag : Nat) (ownerOnly : Bool) (f : State → State) :
    (s.message n type tag ownerOnly f).hbm = s.hbm ∨ s.message n type tag ownerOnly f = f (s.tallyChip 1) := by
  have hs : (s.tallyChip 1).hbm = s.hbm := (State.tallyChip_only (Sub.refl _) (Only.refl _ s)).hbm_eq
  have hno : ((s.tallyChip 1).notOwner n type tag).hbm = s.hbm :=
    (State.notOwner_only (Sub.refl _) (Only.refl _ (s.tallyChip 1))).hbm_eq.trans hs
  unfold State.message
  dsimp only
  split
  · exact .inl hs
  split
  · exact .inl hs
  split
  · split
    · exact .inl hs
    split
    · exact .inl hno
    · exact .inr rfl
  · split
    · exact .inl hno
    · exact .inr rfl

theorem State.message_storesWithin {k type tag : Nat} {ownerOnly : Bool} {f : State → State}
    (hf : StoresWithin b n (s.tallyChip 1) (f (s.tallyChip 1))) : StoresWithin b n s (s.message k type tag ownerOnly f) := by
  rcases s.message_cases k type tag ownerOnly f with h | h
  · exact .of_hbm_eq h
  · rw [h]
    exact (StoresWithin.of_hbm_eq (State.tallyChip_only (Sub.refl _) (Only.refl _ s)).hbm_eq).trans hf

/-! ### The debug view (R33) -/

/-- An address of the debug view leads to its byte of the view, or in SAFE to nothing. -/
theorem State.locate_view (s : State) {x : Nat} (hx : x < 0x20000000) : s.locate (0x20000000 + x) = .reserved ∨ s.locate (0x20000000 + x) = .view x := by
  unfold State.locate
  split_ifs with h1 h2
  · exact .inl rfl
  · exact .inr (congrArg DrsLoc.view (Nat.add_sub_cancel_left ..))
  · omega

/-- A write at an address of the debug view stores no byte but its own. -/
theorem State.writeAccess_view_storesWithin (s : State) (n z v : Nat) (env : WriteEnv) {x : Nat} (hx : x < 0x20000000) :
    StoresWithin (s.get MGT_HBM_DBG_BASE.WINDOW 0 * 2 ^ 29 + x) (2 ^ z) s (s.writeAccess n (0x20000000 + x) z v env).1 := by
  unfold State.writeAccess
  extract_lets held
  set u := s.setSes n { s.sesAt n with latch := none, held := none }
  have refused : StoresWithin (s.get MGT_HBM_DBG_BASE.WINDOW 0 * 2 ^ 29 + x) (2 ^ z) s (u.refuseStore n (0x20000000 + x) z).1 :=
    .of_hbm_eq (State.refuse_only (Sub.refl _) (Only.refl _ u)).hbm_eq
  rcases u.locate_view hx with h | h <;> rw [h] <;> dsimp only
  · split_ifs <;> exact refused
  · split_ifs
    · exact refused
    · exact refused
    · have hw := u.writeHbm_storesWithin (u.get MGT_HBM_DBG_BASE.WINDOW 0 * 2 ^ 29 + x) (toBytes (2 ^ z) v)
      rw [length_toBytes] at hw
      exact StoresWithin.trans hw (.of_hbm_eq (State.hbmCount_only (Sub.refl _) (Only.refl _ _)).hbm_eq)

/-- A REG_WRITE of one access makes that access. -/
theorem State.writeAccesses_one (n z a done : Nat) (env : WriteEnv) (data : List Byte) (s : State) :
    (State.writeAccesses n z env 1 a data s done).1 = (s.writeAccess n a z (ofBytes (data.take (2 ^ z))) env).1 := by
  unfold State.writeAccesses
  split
  · rename_i h
    rw [h]
    split
    · rfl
    · rfl
  · rename_i h
    rw [h]

/-- A REG_WRITE of one access in the debug view stores no byte but those of the access. -/
theorem regWrite_view_storesWithin (n tag z : Nat) (data : List Byte) (env : WriteEnv) (s : State) {x : Nat} (hx : x < 0x20000000) :
    StoresWithin (s.get MGT_HBM_DBG_BASE.WINDOW 0 * 2 ^ 29 + x) (2 ^ (z % 4)) s (regWrite n tag (0x20000000 + x) z 1 data env s) := by
  refine State.message_storesWithin ?_
  have hw : (s.tallyChip 1).get MGT_HBM_DBG_BASE.WINDOW 0 = s.get MGT_HBM_DBG_BASE.WINDOW 0 :=
    (State.tallyChip_only (Sub.refl _) (Only.refl _ s)).get_eq _ _
  have ha : (0x20000000 + x) % 2 ^ 30 = 0x20000000 + x := Nat.mod_eq_of_lt (by omega)
  dsimp only
  rw [← hw, ha]
  generalize s.tallyChip 1 = u
  have hr := u.writeAccess_view_storesWithin n (z % 4) (ofBytes (data.take (2 ^ (z % 4)))) env hx
  rw [← State.writeAccesses_one n (z % 4) _ 0] at hr
  generalize State.writeAccesses n (z % 4) env 1 (0x20000000 + x) data u 0 = r at hr ⊢
  have answered : ∀ {v : State}, v.hbm = r.1.hbm → StoresWithin (u.get MGT_HBM_DBG_BASE.WINDOW 0 * 2 ^ 29 + x) (2 ^ (z % 4)) u v :=
    fun hv => hr.trans (.of_hbm_eq hv)
  rw [if_neg (by decide)]
  split_ifs
  · exact .of_hbm_eq (State.reply_only (Sub.refl _) (Only.refl _ u)).hbm_eq
  · exact hr
  · exact answered (State.reply_only (Sub.refl _) (Only.refl _ r.1)).hbm_eq
  · exact answered (State.accessError_only (Sub.refl _) (Only.refl _ r.1)).hbm_eq

/-- A read through the debug view (R33) stores nothing. -/
theorem debugViewAccess_read_hbm (n tag x z : Nat) (w : Word) (s : State) : (debugViewAccess n tag x z false w s).hbm = s.hbm :=
  (regRead_only (Sub.refl _) (Only.refl _ s)).hbm_eq

/-- A write through the debug view (R33) stores no byte but those it names. -/
theorem debugViewAccess_write_storesWithin (n tag x z : Nat) (w : Word) (s : State) :
    StoresWithin (s.get MGT_HBM_DBG_BASE.WINDOW 0 * 2 ^ 29 + x % 2 ^ 29) (2 ^ (z % 4)) s (debugViewAccess n tag x z true w s) :=
  regWrite_view_storesWithin n tag z _ _ s (Nat.mod_lt x (by decide))

/-! ### Level 2 (R194, R200, R201) -/

/-- What each of a list of changes leaves alone, all of them do. -/
theorem State.each_keeps {α : Type} (g : State → α) (l : List Nat) {f : Nat → State → State} (hf : ∀ i u, g (f i u) = g u) : g (s.each l f) = g s := by
  induction l generalizing s with
  | nil => rfl
  | cons i l ih => exact (ih (s := f i s)).trans (hf i s)

/-- A level-2 entry written (R194) stores no byte but its eight. -/
theorem State.setL2_storesWithin (s : State) (e : Nat) (w : Word) : StoresWithin (s.l2Addr e) 8 s (s.setL2 e w) := by
  have hw := s.writeHbm_storesWithin (s.l2Addr e) (toBytes 8 w.toNat)
  rw [length_toBytes] at hw
  exact hw.trans (.of_hbm_eq (State.each_keeps State.hbm _ fun _ _ => rfl))

/-- What leaves the partition register alone leaves the addresses of level-2 entries alone. -/
theorem Only.l2Addr_eq {G : Nat} (h : Only G s t) (e : Nat) (hG : G.testBit (RegKind.ctorIdx .MGT_HBM_PART) = false := by decide) : t.l2Addr e = s.l2Addr e := by
  unfold State.l2Addr State.l2Base
  rw [h.get_eq MGT_HBM_PART.DIR_GIB 0 hG]

/-- A run of level-2 entries written stores no byte but theirs. -/
theorem State.each_setL2_storesWithin (s : State) (e : Nat) (w : Nat → Word) (l : List Nat) (k : Nat) (hl : ∀ g ∈ l, g < k) :
    StoresWithin (s.l2Addr e) (8 * k) s (s.each l fun g u => u.setL2 (e + g) (w g)) := by
  induction l generalizing s with
  | nil => exact .of_hbm_eq rfl
  | cons g l ih =>
    have ha : ∀ e', (s.setL2 (e + g) (w g)).l2Addr e' = s.l2Addr e' :=
      (State.setL2_only (Sub.refl _) (Only.refl _ s)).l2Addr_eq
    have hg : g < k := hl g List.mem_cons_self
    have first : StoresWithin (s.l2Addr e) (8 * k) s (s.setL2 (e + g) (w g)) :=
      (s.setL2_storesWithin (e + g) (w g)).mono (by unfold State.l2Addr; omega) (by unfold State.l2Addr; omega)
    have rest := ih (s.setL2 (e + g) (w g)) fun g' hg' => hl g' (List.mem_cons_of_mem _ hg')
    rw [ha] at rest
    exact first.trans rest

/-- FRACTURE's effect (R200) stores no byte but those of the lowest free table. -/
theorem State.fractureExtent_storesWithin (s : State) (i p : Nat) (hp : s.l2FreeTable = some p) :
    StoresWithin (s.l2Addr (p * 512)) 4096 s (s.fractureExtent i) := by
  have hw : StoresWithin (s.l2Addr (p * 512)) 4096 s _ :=
    (s.each_setL2_storesWithin (p * 512) (fun g => l2Word true (s.get L1_W0.TARGET i) (s.get L1_W0.LD i) (s.get L1_W0.DEV_EXT i * 512 + g))
      (List.range 512) 512 fun _ hg => List.mem_range.1 hg).mono le_rfl (by omega)
  unfold State.fractureExtent
  rw [hp]
  dsimp only
  -- What follows the stores has the frame of a table entry's write and of RMP_STAT, which HBM is not in.
  refine hw.trans (.of_hbm_eq (Only.hbm_eq (G := 0xb000000000000000000000000000000000000000000000000000002004c000000000200000000) ?_))
  exact State.countFract_only rfl (State.writeEntry_only rfl (fun _ hv => State.set_only rfl (State.set_only rfl hv)) (Only.refl _ _))

/-- A write of RMP_CMD is refused, and then stores nothing, or stores what its effect does once its result is no longer valid. -/
theorem State.remapCommand_storesWithin {f : State → State × RmpRun}
    (hf : StoresWithin b n (s.resultStart RMP_RES.VALID 0) (f (s.resultStart RMP_RES.VALID 0)).1) : StoresWithin b n s (s.remapCommand f) := by
  unfold State.remapCommand
  split
  · exact .of_hbm_eq (State.refuseWrite_only (Sub.refl _) (Only.refl _ s)).hbm_eq
  · exact (StoresWithin.of_hbm_eq (State.set_hbm s RMP_RES.VALID 0 0)).trans (hf.trans (.of_hbm_eq rfl))

/-- The start of a remap command's result leaves every field outside RMP_RES alone. -/
theorem State.get_resultStart_rmp (s : State) (F : Fld) (i : Nat) (hF : F.reg ≠ .RMP_RES) : (s.resultStart RMP_RES.VALID 0).get F i = s.get F i := by
  unfold State.get
  rw [State.resultStart, State.reg_set_other s 0 (.inl hF)]

theorem State.l2Addr_resultStart_rmp (s : State) (e : Nat) : (s.resultStart RMP_RES.VALID 0).l2Addr e = s.l2Addr e := by
  unfold State.l2Addr State.l2Base
  rw [s.get_resultStart_rmp MGT_HBM_PART.DIR_GIB 0 (by decide)]

/-- WRITE_L2 (R200, R201) stores no byte but the eight of the entry it names. -/
theorem writeL2_storesWithin (idx g : Nat) (s : State) :
    StoresWithin (s.l2Addr (s.get L1_W0.L2PTR (idx % 65536) * 512 + g % 512)) 8 s (writeL2 idx g s) := by
  refine State.remapCommand_storesWithin ?_
  have hp := s.get_resultStart_rmp L1_W0.L2PTR (idx % 65536) (by decide)
  rw [← hp, ← s.l2Addr_resultStart_rmp]
  exact StoresWithin.ite (State.setL2_storesWithin _ _ _) (.of_hbm_eq rfl)

/-- A value that a filter skips at a key may be written there without any change of what the filter gives. -/
theorem Tbl.filterMap_wr {α β : Type} [DecidableEq α] (d : Nat → α) (m : Tbl α) (k : Nat) (v : α) (f : Nat × α → Option β) (hf : ∀ w, f (k, w) = none) :
    (Tbl.wr d m k v).filterMap f = m.filterMap f := by
  have hdel : (m.del k).filterMap f = m.filterMap f := by
    induction m with
    | nil => rfl
    | cons e m ih =>
      obtain ⟨a, b⟩ := e
      unfold Tbl.del
      split
      · rename_i h
        rw [ih, List.filterMap_cons_none (h ▸ hf b)]
      · rw [List.filterMap_cons, List.filterMap_cons, ih]
  have hput : (m.put k v).filterMap f = m.filterMap f := by
    clear hdel
    induction m with
    | nil => exact List.filterMap_cons_none (hf v)
    | cons e m ih =>
      obtain ⟨a, b⟩ := e
      unfold Tbl.put
      split
      · exact List.filterMap_cons_none (hf v)
      split
      · rename_i h
        rw [List.filterMap_cons_none (hf v), List.filterMap_cons_none (h ▸ hf b)]
      · rw [List.filterMap_cons, List.filterMap_cons, ih]
  unfold Tbl.wr
  split
  · exact hdel
  · exact hput

theorem State.l2FreeTable_resultStart_rmp (s : State) : (s.resultStart RMP_RES.VALID 0).l2FreeTable = s.l2FreeTable := by
  have hused : (s.resultStart RMP_RES.VALID 0).l2Used = s.l2Used :=
    Tbl.filterMap_wr _ _ _ _ _ fun w => if_neg fun h => absurd (show RMP_RES.VALID.reg.key 0 % 256 = _ from h.1) (by decide)
  unfold State.l2FreeTable State.l2Total
  rw [hused, s.get_resultStart_rmp MGT_HBM_PART.L2_64M 0 (by decide)]

/-- FRACTURE (R200) stores no byte but those of the lowest free table. -/
theorem fracture_storesWithin (idx p : Nat) (s : State) (hp : s.l2FreeTable = some p) : StoresWithin (s.l2Addr (p * 512)) 4096 s (fracture idx s) := by
  refine State.remapCommand_storesWithin ?_
  rw [← s.l2Addr_resultStart_rmp]
  exact StoresWithin.ite (State.fractureExtent_storesWithin _ _ p (s.l2FreeTable_resultStart_rmp.trans hp)) (.of_hbm_eq rfl)

/-- Without a free table FRACTURE has no effect on the extent. -/
theorem State.fractureExtent_of_full (s : State) (i : Nat) (hp : s.l2FreeTable = none) : s.fractureExtent i = s := by
  unfold State.fractureExtent
  rw [hp]

/-- Without a free table FRACTURE stores nothing. -/
theorem fracture_storesWithin_of_full (idx : Nat) (s : State) (hp : s.l2FreeTable = none) : StoresWithin b 0 s (fracture idx s) := by
  refine State.remapCommand_storesWithin (StoresWithin.ite (.of_hbm_eq ?_) (.of_hbm_eq rfl))
  rw [State.fractureExtent_of_full _ _ (s.l2FreeTable_resultStart_rmp.trans hp)]

/-! ### The Velair trace (R417, R418) -/

theorem length_fitBytes (n : Nat) (l : List Byte) : (fitBytes n l).length = n := by
  simp [fitBytes]

/-- A Velair record has 64 bytes (R417). -/
theorem State.length_velair (s : State) (d : TraceDue) : (s.velair d).length = 64 := by
  cases h : d.fab <;> simp [State.velair, h, length_fitBytes, fabHeader, anvilHeader]

/-- A record written (R418) stores no byte but those of its place in the trace partition. -/
theorem State.putVelair_storesWithin (s : State) (rt k : Nat) (bytes : List Byte) :
    StoresWithin (s.traceBase + 64 * (k % max 1 s.traceCapacity)) bytes.length s (s.putVelair rt k bytes) := by
  unfold State.putVelair
  extract_lets cap at' u1 u2 u3
  -- Up to the store TRACE_RECORD's own fields and CNT_TRC_STAT alone have changed.
  have hu : Only 0x30000000000000000000000000000000000000000002008000000000000000000000000000000000000000000000000 s u3 := by
    have h1 : Only 0x30000000000000000000000000000000000000000002008000000000000000000000000000000000000000000000000 s u1 :=
      Only.set_trcSeq_trcDrop rfl (Only.refl _ s)
    have h2 : Only 0x30000000000000000000000000000000000000000002008000000000000000000000000000000000000000000000000 s u2 := State.set_only rfl h1
    exact Only.ite (State.set_only rfl h2) h2
  have hw : StoresWithin (s.traceBase + at') bytes.length u3 (u3.writeHbm (u3.traceBase + at') bytes) := by
    have hb : u3.traceBase = s.traceBase := by
      unfold State.traceBase State.l2Base
      rw [hu.get_eq MGT_HBM_PART.DIR_GIB 0, hu.get_eq MGT_HBM_PART.L2_64M 0]
    rw [← hb]
    exact u3.writeHbm_storesWithin _ _
  split
  · exact .of_hbm_eq ((State.emit_hbm ..).trans hu.hbm_eq)
  · exact ((StoresWithin.of_hbm_eq hu.hbm_eq).trans hw).trans (.of_hbm_eq (State.hbmCount_only (Sub.refl _) (Only.refl _ _)).hbm_eq)

/-- TRACE_RECORD (R417, R418) stores no byte but those of the record's place in the trace partition. -/
theorem traceRecord_storesWithin (credit : Bool) (s : State) :
    StoresWithin (s.traceBase + 64 * (s.get CNT_TRC_STAT.WREC 0 % max 1 s.traceCapacity)) 64 s (traceRecord credit s) := by
  unfold traceRecord
  split
  · exact .of_hbm_eq rfl
  · rename_i d rest _
    refine StoresWithin.ite (.of_hbm_eq rfl) (StoresWithin.ite (.of_hbm_eq ?_) ?_)
    · exact (State.dropRecord_only (Sub.refl _) (Only.refl _ { s with trcDue := rest })).hbm_eq
    · have hput := State.putVelair_storesWithin { s with trcDue := rest } d.rt (s.get CNT_TRC_STAT.WREC 0) (State.velair { s with trcDue := rest } d)
      rw [State.length_velair] at hput
      exact hput

end StoresWithin

/-- Settles O52: each storing command writes one run of bytes, and the rest of what it does stores nothing. -/
theorem storesKeepOtherBytes : Obligations.StoresKeepOtherBytes := by
  refine ⟨?view, ?read, ?writeL2, ?fracture, ?full, ?trace⟩
  case view =>
    intro n tag x z w s t a h ha
    exact (run_next h).2 ▸ debugViewAccess_write_storesWithin n tag x z w s a ha
  case read =>
    intro n tag x z w s t a h
    exact (run_next h).2 ▸ congrArg (Memory.read · a) (debugViewAccess_read_hbm n tag x z w s)
  case writeL2 =>
    intro idx g s t a h ha
    injection h with h
    exact h ▸ writeL2_storesWithin idx g s a ha
  case fracture =>
    intro idx s t a p h hp ha
    injection h with h
    exact h ▸ fracture_storesWithin idx p s hp a ha
  case full =>
    intro idx s t a h hp
    injection h with h
    exact h ▸ fracture_storesWithin_of_full (b := a) idx s hp a (Or.inr le_rfl)
  case trace =>
    intro credit s t a h ha
    injection h with h
    exact h ▸ traceRecord_storesWithin credit s a ha

end Sys2Proof.Machine

namespace Sys2Proof.Machine

-- Proofs are elaborated one after another: each proof thread costs the check 256 MB of stack.
set_option Elab.async false

/-! ### Completion and frame of every command -/

/-- Every command completes where the units that it names exist, and leaves alone what its list does not name. -/
theorem exec_framed (i : Instr) : i.Framed := by
  intro s
  have keeps : ∀ t, exec i s = .next t → ∀ p, p ∉ i.changes → Same p s t := fun t ht p hp => (exec_only ht).same (Sub.refl _) hp
  refine ⟨fun hwf => ?_, keeps⟩
  obtain ⟨t, ht⟩ := exec_eq_run_wf i s
  have hnext : exec i s = .next t := ht.trans (run_true hwf)
  exact ⟨t, hnext, keeps t hnext⟩

/-- Settles O53: completion and frame hold of every command, those of ports and fabric links among them. -/
theorem linkCommandsFramed : Obligations.LinkCommandsFramed := by
  unfold Obligations.LinkCommandsFramed
  and_intros <;> intros <;> exact exec_framed _

/-! ### Fields of registers after a write -/

/-- The bits of a field lie in the register's word. -/
abbrev Fld.Fits (F : Fld) : Prop := F.lo ≤ F.hi ∧ F.hi < 64

section Fields

variable (s : State) {F G : Fld} (i j : Nat)

theorem State.get_lt (F : Fld) : s.get F i < 2 ^ F.width := Nat.mod_lt _ (Nat.two_pow_pos _)

/-- A field written with a value of its width reads it. -/
theorem State.get_set_fits {v : Nat} (hF : Fld.Fits F) (hv : v < 2 ^ F.width) : (s.set F i v).get F i = v :=
  (s.get_set_self i v hF.1 hF.2).trans (Nat.mod_eq_of_lt hv)

/-- A bit written into a field reads as written. -/
theorem State.get_set_bit (c : Bool) (hF : Fld.Fits F) : (s.set F i (bit c)).get F i = bit c := by
  refine s.get_set_fits i hF (lt_of_lt_of_le (show bit c < 2 ^ 1 by cases c <;> decide) (Nat.pow_le_pow_right (by decide) ?_))
  unfold Fld.width
  omega

/-- A write leaves the registers of other kinds alone. -/
theorem State.get_set_kind (v : Nat) (h : G.reg ≠ F.reg) : (s.set F i v).get G j = s.get G j := by
  unfold State.get
  rw [s.reg_set_other v (.inl h)]

/-- A write leaves the fields of other bits alone. -/
theorem State.get_set_bits (v : Nat) (hF : Fld.Fits F) (h : G.hi < F.lo ∨ F.hi < G.lo) : (s.set F i v).get G j = s.get G j :=
  s.get_set_other i j v hF.1 hF.2 (.inr (.inr h))

/-- A write leaves the registers of other indices alone. -/
theorem State.get_set_index {i j : Nat} (v : Nat) (h : j ≠ i) : (s.set F i v).get G j = s.get G j := by
  unfold State.get
  rw [s.reg_set_other v (.inr h)]

/-- A count reads one saturating addition more. -/
theorem State.get_count (n : Nat) (hF : Fld.Fits F) : (s.count F i n).get F i = satAdd F.width (s.get F i) n :=
  s.get_set_fits i hF (lt_of_le_of_lt (Nat.min_le_right _ _) (Nat.sub_lt (Nat.two_pow_pos _) Nat.one_pos))

end Fields

/-! ### Units after a write of a unit -/

section Units

variable (s : State)

@[simp] theorem State.port_setPort (p : Nat) (x : PortState) : (s.setPort p x).port p = x := Tbl.rd_wr_self ..
@[simp] theorem State.train_setTrain (b : Nat) (x : SflTrain) : (s.setTrain b x).train b = x := Tbl.rd_wr_self ..
@[simp] theorem State.niAt_setNi (n : Nat) (x : NiState) : (s.setNi n x).niAt n = x := Tbl.rd_wr_self ..

/-! A register reads through the write of a unit as before, and a unit through the write of a register. -/

@[simp] theorem State.get_setPort (p : Nat) (x : PortState) (F : Fld) (i : Nat) : (s.setPort p x).get F i = s.get F i := (rfl)
@[simp] theorem State.get_setTrain (b : Nat) (x : SflTrain) (F : Fld) (i : Nat) : (s.setTrain b x).get F i = s.get F i := (rfl)
@[simp] theorem State.get_setSflLane (b k : Nat) (x : SflLane) (F : Fld) (i : Nat) : (s.setSflLane b k x).get F i = s.get F i := (rfl)
@[simp] theorem State.train_set (F : Fld) (i v b : Nat) : (s.set F i v).train b = s.train b := (rfl)
@[simp] theorem State.sflLane_set (F : Fld) (i v b k : Nat) : (s.set F i v).sflLane b k = s.sflLane b k := (rfl)

end Units

/-! ### What a frame says of a unit -/

/-- The registers that an event or notice changes (R358, R414). -/
abbrev eventParts : Nat := partsMask [.reg .MGT_EVT_STAT, .reg .CNT_VAL, .reg .MGT_EVT_REC]

section OnlyUnits

variable {G : Nat} {s t : State}

/-- A frame of state fields alone leaves every register as it was. -/
theorem Only.get_eq_of_fields (h : Only G s t) (F : Fld) (i : Nat) (hG : G % 2 ^ 256 = 0 := by decide) : t.get F i = s.get F i := by
  refine h.get_eq F i ?_
  have hm : (G % 2 ^ 256).testBit F.reg.ctorIdx = false := by rw [hG, Nat.zero_testBit]
  rw [Nat.testBit_mod_two_pow, decide_eq_true F.reg.ctorIdx_lt] at hm
  exact hm

theorem Only.train_eq (h : Only G s t) (b : Nat) (hG : G.testBit (256 + StateField.ctorIdx .sflTrain) = false := by decide) : t.train b = s.train b :=
  congrArg (Tbl.rd (fun _ => SflTrain.idle) · b) (h.2 (.field .sflTrain) hG)

theorem Only.port_eq (h : Only G s t) (p : Nat) (hG : G.testBit (256 + StateField.ctorIdx .ports) = false := by decide) : t.port p = s.port p :=
  congrArg (Tbl.rd (fun _ => PortState.idle) · p) (h.2 (.field .ports) hG)

theorem Only.niAt_eq (h : Only G s t) (n : Nat) (hG : G.testBit (256 + StateField.ctorIdx .ni) = false := by decide) : t.niAt n = s.niAt n :=
  congrArg (Tbl.rd (fun _ => NiState.idle) · n) (h.2 (.field .ni) hG)

theorem Only.out_eq (h : Only G s t) (hG : G.testBit (256 + StateField.ctorIdx .out) = false := by decide) : t.out = s.out :=
  h.2 (.field .out) hG

theorem Only.role_eq (h : Only G s t) (p : Nat) (hG : G.testBit (RegKind.ctorIdx .PRT_CFG) = false := by decide) : t.role p = s.role p := by
  unfold State.role
  rw [h.get_eq PRT_CFG.ROLE0 _ hG, h.get_eq PRT_CFG.ROLE1 _ hG]

end OnlyUnits

end Sys2Proof.Machine

namespace Sys2Proof.Machine

-- Proofs are elaborated one after another: each proof thread costs the check 256 MB of stack.
set_option Elab.async false

set_option exponentiation.threshold 500

/-! ### The parts that the steps of bring-up and of a link's loss may change -/

/-- What a port that reaches DL_UP changes of NIs, hosts and events. -/
abbrev unquenchParts : Nat :=
  partsMask [.reg .VPPB_ENTRY, .reg .ANV_QUENCH_STAT, .reg .MGT_EVT_STAT, .reg .CNT_VAL, .reg .MGT_EVT_REC, .field .out, .field .vppbs, .field .ni]

/-- A slot's state and what shows it. -/
abbrev slotParts : Nat :=
  partsMask [.reg .SLT_STAT, .field .slots]

/-- What taking a link down changes, training of a fabric block included. -/
abbrev adminOffParts : Nat :=
  partsMask [.reg .PRT_LINK_STATUS, .reg .PRT_LANE_STAT, .reg .PRT_CXL_STATUS, .reg .VPPB_ENTRY, .reg .SFL_TRAIN_STATUS, .reg .SFL_LANE_STAT,
    .reg .SFL_LINK_STAT, .reg .SFL_LINK_CNT2, .reg .ANV_CR_STAT, .reg .ANV_QUENCH_STAT, .reg .ANV_SLAG_CNT2, .reg .HRT_ADMIT, .reg .HRT_AGENT,
    .reg .MGT_EVT_STAT, .reg .CNT_VAL, .reg .SLT_STAT, .reg .MGT_EVT_REC, .field .out, .field .ports, .field .partials, .field .vppbs,
    .field .cxlLog, .field .cxlHandle, .field .sflLanes, .field .sflTx, .field .sflTrain, .field .sfl, .field .ni, .field .ledger, .field .ideKeys,
    .field .sweeping, .field .fab, .field .fabIn, .field .slots]

/-- What a port's loss changes besides the port's own status. -/
abbrev hostLossParts : Nat :=
  partsMask [.reg .PRT_LANE_STAT, .reg .PRT_CXL_STATUS, .reg .VPPB_ENTRY, .reg .HRT_ADMIT, .reg .HRT_AGENT, .field .ports, .field .vppbs,
    .field .cxlLog, .field .cxlHandle, .field .ideKeys, .field .sweeping, .field .fab]

/-! ### Bring-up of a port (R44, R45) -/

/-- Without the conditions of R44 nothing starts. -/
theorem bringUpStart_of_not_ready (n : Nat) (l : List Nat) {s : State} {p : Nat} (h : s.bringUpReady p = false) : bringUpStart p n l s = s := by
  unfold bringUpStart
  rw [h, if_neg fun hc => Bool.false_ne_true hc.1]

/-- With the conditions of R44 a port that reads DOWN starts calibration, and a fabric block its training (R109). -/
theorem bringUpStart_starts (n : Nat) (l : List Nat) {s : State} {p : Nat} (hready : s.bringUpReady p = true) (hdown : s.get PRT_LINK_STATUS.STATE p = 0) :
    (bringUpStart p n l s).get PRT_LINK_STATUS.STATE p = 1 ∧ ((bringUpStart p n l s).port p).stage = 1 ∧
      (s.role p = 2 → (bringUpStart p n l s).get SFL_TRAIN_STATUS.STATE (p / 2) = 1) := by
  unfold bringUpStart
  rw [if_pos ⟨hready, hdown⟩]
  extract_lets u1 u2 _ u3
  have hkept : Only (partsMask [.reg .PRT_LINK_STATUS, .reg .PRT_PRBS_CTL, .reg .PRT_PRBS_BITS, .reg .PRT_PRBS_RES, .field .blocks, .field .prbs,
      .field .ports]) s u3 :=
    State.setPort_only rfl (State.set_only rfl (State.each_only (fun _ _ hu => State.prbsStop_only rfl hu) (Only.refl _ s)))
  have hstate : u3.get PRT_LINK_STATUS.STATE p = 1 := (u2.get_setPort ..).trans <| u1.get_set_fits p (by decide) (by decide)
  have hstage : (u3.port p).stage = 1 := by rw [u2.port_setPort]
  split_ifs with hrole
  · exact ⟨(State.get_set_kind _ _ _ _ (by decide)).trans hstate, hstage, fun _ => State.get_set_fits _ _ (by decide) (by decide)⟩
  · exact ⟨hstate, hstage, fun h => absurd ((hkept.role_eq p).trans h) hrole⟩

/-- A stage of bring-up shown: the port's stage and its STATE. -/
theorem State.showsStage (u : State) (p : Nat) (x : PortState) {v : Nat} (hv : v < 16) :
    ((u.setPort p x).set PRT_LINK_STATUS.STATE p v).get PRT_LINK_STATUS.STATE p = v ∧
      (((u.setPort p x).set PRT_LINK_STATUS.STATE p v).port p).stage = x.stage :=
  ⟨State.get_set_fits _ _ (by decide) hv, congrArg PortState.stage (u.port_setPort p x)⟩

section Stages

variable (q : Partner) (lanes : Nat) {s : State} {p : Nat}

theorem trainingStageEnd_of_stage1 (hrole : s.role p ≠ 2) (hx : (s.port p).stage = 1) :
    trainingStageEnd p true q lanes s = ((s.steer p).setPort p { s.port p with stage := 2 }).set PRT_LINK_STATUS.STATE p 2 := by
  simp [trainingStageEnd, hrole, hx]

theorem trainingStageEnd_of_stage2 (hrole : s.role p ≠ 2) (hx : (s.port p).stage = 2) :
    trainingStageEnd p true q lanes s = (s.setPort p { s.port p with stage := 3 }).set PRT_LINK_STATUS.STATE p 3 := by
  simp [trainingStageEnd, hrole, hx]

theorem trainingStageEnd_of_stage9 (hrole : s.role p ≠ 2) (hx : (s.port p).stage = 9) : trainingStageEnd p true q lanes s = s.reachDlUp p := by
  simp [trainingStageEnd, hrole, hx]

/-- A stage that fails leads back to Detect (R45; log entry 46). -/
theorem trainingStageEnd_of_failed (hrole : s.role p ≠ 2) (hx : (s.port p).stage ≠ 0) :
    ∃ u : State, trainingStageEnd p false q lanes s = (u.setPort p { s.port p with stage := 2 }).set PRT_LINK_STATUS.STATE p 2 := by
  unfold trainingStageEnd
  rw [if_neg (not_or.2 ⟨hx, hrole⟩), if_pos (Or.inl (show (!false) = true from rfl))]
  exact ⟨_, rfl⟩

end Stages

/-- A link that reaches DL_UP reads L0 with DL_UP set, and its port is no longer in bring-up: what the NI and the hosts then see leaves that alone (R45, R79, R164). -/
theorem State.reachDlUp_shows (s : State) (p : Nat) :
    (s.reachDlUp p).get PRT_LINK_STATUS.STATE p = 6 ∧ (s.reachDlUp p).get PRT_LINK_STATUS.DL_UP p = 1 ∧ ((s.reachDlUp p).port p).stage = 0 := by
  unfold State.reachDlUp
  extract_lets u1 u2 _ u3 bound _ u5
  have hstate : u3.get PRT_LINK_STATUS.STATE p = 6 :=
    (u2.get_setPort ..).trans ((u1.get_set_bits p p 1 (by decide) (by decide)).trans (s.get_set_fits p (by decide) (by decide)))
  have hup : u3.get PRT_LINK_STATUS.DL_UP p = 1 := (u2.get_setPort ..).trans (u1.get_set_fits p (by decide) (by decide))
  have hstage : (u3.port p).stage = 0 := by rw [u2.port_setPort]
  have hsink : Only unquenchParts u3 u5 :=
    Only.ite (State.release_only rfl (State.dropTriggers_only rfl (Only.refl _ u3))) (State.setNi_only rfl (Only.refl _ u3))
  have hkept : Only unquenchParts u3 (u5.each bound fun v t => t.hotAdd v) :=
    State.each_only (fun _ _ ht => State.hotAdd_only rfl ht) hsink
  exact ⟨(hkept.get_eq _ p).trans hstate, (hkept.get_eq _ p).trans hup, (congrArg PortState.stage (hkept.port_eq p)).trans hstage⟩

/-! ### A link taken down (R60, R159, R161) -/

/-- STATE and DL_UP, the two fields that say whether a link is up. -/
def linkShown : List Fld := [PRT_LINK_STATUS.STATE, PRT_LINK_STATUS.DL_UP]

theorem linkShown_reg {F : Fld} (hF : F ∈ linkShown) : F.reg = .PRT_LINK_STATUS := by
  simp only [linkShown, List.mem_cons, List.not_mem_nil, or_false] at hF
  rcases hF with rfl | rfl <;> rfl

section LinkDown

variable {F : Fld} (s : State) (p q : Nat)

/-- A link taken down reads 0 in STATE and DL_UP, and every other port's read as before. -/
theorem State.portDown_get (hF : F ∈ linkShown) : (s.portDown p).get F q = if q = p then 0 else s.get F q := by
  unfold State.portDown
  extract_lets up u1 u2 u3 u4 u5 u6 u7 u8 u9 u10 u11
  have htail : Only hostLossParts u7 (if up = true then u11.lostAtHosts p else u11) := by
    have h11 : Only hostLossParts u7 u11 :=
      State.each_only (fun _ _ ht => State.set_only rfl ht) (Only.set_ideKeys rfl (State.set_only rfl (State.set_only rfl (Only.refl _ u7))))
    exact Only.ite (State.lostAtHosts_only rfl h11) h11
  have hsets : u7.get F q = if q = p then 0 else s.get F q := by
    have hF' : F = PRT_LINK_STATUS.STATE ∨ F = PRT_LINK_STATUS.DL_UP := by simpa [linkShown] using hF
    split_ifs with hq
    · subst hq
      rcases hF' with rfl | rfl
      · simp (disch := decide) only [u7, u6, u5, u4, u3, u2, State.get_set_bits, State.get_set_fits]
      · exact State.get_set_fits _ _ (by decide) (by decide)
    · simp only [u7, u6, u5, u4, u3, u2, State.get_set_index _ _ hq]
      rfl
  rw [htail.get_eq F q (by rw [linkShown_reg hF]; decide), hsets]

/-- A lost link is taken down, its partial messages are counted and its NI is quenched; what may follow is an event. -/
theorem State.dropLink_only_events (planned : Bool) (n : Nat) :
    Only eventParts ((((s.portDown p).setPartials p 0).count ANV_SLAG_CNT2.PARTIAL (p / 32) n).quench (p / 2) ⟨1, true, 1 + p⟩) (s.dropLink p planned n) := by
  unfold State.dropLink
  exact Only.ite (State.notice_only rfl (Only.refl _ _)) (Only.refl _ _)

theorem State.dropLink_get (planned : Bool) (n : Nat) (hF : F ∈ linkShown) : (s.dropLink p planned n).get F q = if q = p then 0 else s.get F q := by
  have hreg := linkShown_reg hF
  rw [(s.dropLink_only_events p planned n).get_eq F q (by rw [hreg]; decide),
    (State.quench_only (Sub.refl _) (Only.refl _ _)).get_eq F q (by rw [hreg]; decide)]
  unfold State.count
  rw [State.get_set_kind _ _ _ _ (by rw [hreg]; decide), (State.setPartials_only (Sub.refl _) (Only.refl _ _)).get_eq_of_fields, s.portDown_get p q hF]

/-- A slot's policy (R431) about a port whose link is already down takes no link down: only the slot's own state may change. -/
theorem State.slotLinkLoss_only_of_down (h : s.get PRT_LINK_STATUS.DL_UP p = 0) :
    Only slotParts s (s.slotLinkLoss p) := by
  unfold State.slotLinkLoss
  split
  case h_2 => exact Only.refl _ s
  case h_1 n hn =>
    have hport : s.get SLT_CFG.PORT n = p := by
      have hnamed := List.find?_some (p := fun n => s.flag SLT_CFG.VALID n && decide (s.get SLT_CFG.PORT n = p)) hn
      exact of_decide_eq_true (Bool.and_eq_true_iff.1 hnamed).2
    have hnone : ∀ u, Only slotParts s u → u.slotLinkDown n true = u := by
      intro u hu
      unfold State.slotLinkDown State.flag
      dsimp only
      rw [hu.get_eq SLT_CFG.PORT n, hport, hu.get_eq PRT_LINK_STATUS.DL_UP p, h]
      rfl
    refine Only.ite ?_ (Only.refl _ s)
    unfold State.slotCycle
    refine Only.ite ?_ (Only.refl _ s)
    have hoff : ∀ x, Only slotParts s ((s.slotOff n).setSlot n x) := fun x => State.setSlot_only rfl (State.slotOff_only rfl (Only.refl _ s))
    rw [hnone _ (hoff _)]
    exact hoff _

/-- What a lost link's slot adds to the loss. -/
theorem State.loseLink_only_slot (planned : Bool) (n : Nat) :
    Only slotParts (s.dropLink p planned n) (s.loseLink p planned n) := by
  have hdown : (s.dropLink p planned n).get PRT_LINK_STATUS.DL_UP p = 0 := by
    rw [s.dropLink_get p p planned n (by decide), if_pos rfl]
  unfold State.loseLink
  exact Only.ite (State.slotLinkLoss_only_of_down _ p hdown) (Only.refl _ _)

theorem State.loseLink_get (planned : Bool) (n : Nat) (hF : F ∈ linkShown) : (s.loseLink p planned n).get F q = if q = p then 0 else s.get F q := by
  rw [(s.loseLink_only_slot p planned n).get_eq F q (by rw [linkShown_reg hF]; decide), s.dropLink_get p q planned n hF]

theorem State.takeDown_get (planned : Bool) :
    (s.takeDown p planned).get PRT_LINK_STATUS.STATE q = if q = p then 0 else s.get PRT_LINK_STATUS.STATE q := by
  unfold State.takeDown
  split_ifs with hdown hq hq
  · exact hq ▸ hdown
  · rfl
  · rw [s.loseLink_get p q planned _ (by decide), if_pos hq]
  · rw [s.loseLink_get p q planned _ (by decide), if_neg hq]

end LinkDown

/-! ### ADMIN0 and ADMIN1 (R44, R61) -/

/-- What a value of ADMIN does to port `p` of block `b`: a 0 takes the port's link down, a fabric block's training with it. -/
def State.adminOff (b p : Nat) (on : Bool) (s : State) : State :=
  if on || s.get PRT_LINK_STATUS.STATE p = 0 then s else (if p % 2 = 0 && s.isFabric b then s.sflDown b else s).takeDown p true

/-- ADMIN_WRITE stores both bits, and has their effect where the block does not follow an x16 lead (R39). -/
theorem adminWrite_eq (b : Nat) (a0 a1 : Bool) (s : State) : adminWrite b a0 a1 s =
    if ((s.set PRT_LINK_CTL.ADMIN0 b (bit a0)).set PRT_LINK_CTL.ADMIN1 b (bit a1)).get PRT_CFG.MODE b = 4 then
      (s.set PRT_LINK_CTL.ADMIN0 b (bit a0)).set PRT_LINK_CTL.ADMIN1 b (bit a1)
    else (((s.set PRT_LINK_CTL.ADMIN0 b (bit a0)).set PRT_LINK_CTL.ADMIN1 b (bit a1)).adminOff b (2 * b) a0).adminOff b (2 * b + 1) a1 := rfl

section AdminOff

variable (s : State) (b p q : Nat) (on : Bool)

theorem State.adminOff_only : Only adminOffParts s (s.adminOff b p on) :=
  Only.ite (Only.refl _ s) (State.takeDown_only rfl (Only.ite (State.sflDown_only rfl (Only.refl _ s)) (Only.refl _ s)))

theorem State.adminOff_get : (s.adminOff b p on).get PRT_LINK_STATUS.STATE q = if on = false ∧ q = p then 0 else s.get PRT_LINK_STATUS.STATE q := by
  have hfab : (if p % 2 = 0 && s.isFabric b then s.sflDown b else s).get PRT_LINK_STATUS.STATE q = s.get PRT_LINK_STATUS.STATE q := by
    split_ifs
    · exact (State.sflDown_only (Sub.refl _) (Only.refl _ s)).get_eq _ q
    · rfl
  unfold State.adminOff
  cases on with
  | true => simp
  | false =>
    by_cases hdown : s.get PRT_LINK_STATUS.STATE p = 0
    · rw [if_pos (by simp [hdown])]
      split_ifs with hq
      · exact hq.2 ▸ hdown
      · rfl
    · rw [if_neg (by simp [hdown]), State.takeDown_get, hfab]
      simp

end AdminOff

/-- ADMIN_WRITE leaves both bits as written, and the half of a bit written 0 at DOWN unless the block follows an x16 lead. -/
theorem adminWrite_shows (b : Nat) (a0 a1 : Bool) (s : State) :
    (adminWrite b a0 a1 s).get PRT_LINK_CTL.ADMIN0 b = bit a0 ∧ (adminWrite b a0 a1 s).get PRT_LINK_CTL.ADMIN1 b = bit a1 ∧
      (s.get PRT_CFG.MODE b ≠ 4 → a0 = false → (adminWrite b a0 a1 s).get PRT_LINK_STATUS.STATE (2 * b) = 0) ∧
      (s.get PRT_CFG.MODE b ≠ 4 → a1 = false → (adminWrite b a0 a1 s).get PRT_LINK_STATUS.STATE (2 * b + 1) = 0) := by
  rw [adminWrite_eq]
  have h0 : ((s.set PRT_LINK_CTL.ADMIN0 b (bit a0)).set PRT_LINK_CTL.ADMIN1 b (bit a1)).get PRT_LINK_CTL.ADMIN0 b = bit a0 :=
    (State.get_set_bits _ _ _ _ (by decide) (by decide)).trans (s.get_set_bit b a0 (by decide))
  have h1 : ((s.set PRT_LINK_CTL.ADMIN0 b (bit a0)).set PRT_LINK_CTL.ADMIN1 b (bit a1)).get PRT_LINK_CTL.ADMIN1 b = bit a1 :=
    State.get_set_bit _ _ a1 (by decide)
  have hmode : ((s.set PRT_LINK_CTL.ADMIN0 b (bit a0)).set PRT_LINK_CTL.ADMIN1 b (bit a1)).get PRT_CFG.MODE b = s.get PRT_CFG.MODE b := by
    rw [State.get_set_kind _ _ _ _ (by decide), State.get_set_kind _ _ _ _ (by decide)]
  rw [hmode]
  generalize (s.set PRT_LINK_CTL.ADMIN0 b (bit a0)).set PRT_LINK_CTL.ADMIN1 b (bit a1) = u at h0 h1
  split_ifs with hm
  · exact ⟨h0, h1, fun h => absurd hm h, fun h => absurd hm h⟩
  · have hoff := State.adminOff_only u b (2 * b) a0
    have hoff' := State.adminOff_only (u.adminOff b (2 * b) a0) b (2 * b + 1) a1
    refine ⟨?_, ?_, fun _ h => ?_, fun _ h => ?_⟩
    · rw [hoff'.get_eq PRT_LINK_CTL.ADMIN0 b, hoff.get_eq PRT_LINK_CTL.ADMIN0 b, h0]
    · rw [hoff'.get_eq PRT_LINK_CTL.ADMIN1 b, hoff.get_eq PRT_LINK_CTL.ADMIN1 b, h1]
    · rw [State.adminOff_get, State.adminOff_get, if_neg (by omega), if_pos ⟨h, rfl⟩]
    · rw [State.adminOff_get, if_pos ⟨h, rfl⟩]

/-! ### The loss of DL_UP (R60, R159, R161) -/

/-- An NI that a trigger quenches holds a trigger of its code (R161, R165). -/
theorem State.quench_triggers (s : State) (n : Nat) (t : Trigger) : ((s.quench n t).niAt n).triggers.any (fun u => u.code = t.code) = true := by
  unfold State.quench
  extract_lets x u1 u2 u3 u4
  split_ifs with hnone hsame
  · have hkept : Only (partsMask [.reg .ANV_CR_STAT, .reg .ANV_QUENCH_STAT, .reg .MGT_EVT_STAT, .reg .CNT_VAL, .reg .MGT_EVT_REC, .field .out,
        .field .ledger]) u1 (u4.notice (32 + 32 * niRegion n + 8) 0 n) :=
      State.notice_only rfl (State.emit_only rfl (State.showQuench_only rfl
        (Only.fold (fun _ _ hu => Only.ite hu (State.creditBack_only rfl (State.vacate_only rfl hu))) (Only.refl _ u1))))
    rw [hkept.niAt_eq, State.niAt_setNi]
    simp
  · rw [State.niAt_setNi]
    obtain ⟨u, hu, hut⟩ := List.any_eq_true.1 hsame
    exact List.any_eq_true.2 ⟨t, List.mem_map.2 ⟨u, hu, if_pos (by simpa using hut)⟩, decide_eq_true rfl⟩
  · rw [(State.notice_only (Sub.refl _) (Only.refl _ _)).niAt_eq, State.niAt_setNi]
    simp

/-- A lost link counts the messages partly received (R159). -/
theorem State.dropLink_partial (s : State) (p : Nat) (planned : Bool) (n : Nat) : (s.dropLink p planned n).get ANV_SLAG_CNT2.PARTIAL (p / 32) =
    satAdd ANV_SLAG_CNT2.PARTIAL.width (s.get ANV_SLAG_CNT2.PARTIAL (p / 32)) n := by
  rw [(s.dropLink_only_events p planned n).get_eq ANV_SLAG_CNT2.PARTIAL,
    (State.quench_only (Sub.refl _) (Only.refl _ _)).get_eq ANV_SLAG_CNT2.PARTIAL, State.get_count _ _ _ (by decide),
    (State.setPartials_only (Sub.refl _) (Only.refl _ _)).get_eq_of_fields, (State.portDown_only (Sub.refl _) (Only.refl _ s)).get_eq ANV_SLAG_CNT2.PARTIAL]

/-- A lost link leaves a TARGET_DOWN trigger at its block's NI (R161). -/
theorem State.dropLink_triggers (s : State) (p : Nat) (planned : Bool) (n : Nat) :
    ((s.dropLink p planned n).niAt (p / 2)).triggers.any (fun u => u.code = 1) = true := by
  rw [(s.dropLink_only_events p planned n).niAt_eq]
  exact State.quench_triggers _ (p / 2) ⟨1, true, 1 + p⟩

/-- The loss of DL_UP reads DOWN with DL_UP = 0, counts the messages partly received, and leaves a TARGET_DOWN trigger at the block's NI. -/
theorem dlUpLoss_shows (planned : Bool) (n : Nat) {s : State} {p : Nat} (hup : s.flag PRT_LINK_STATUS.DL_UP p = true) :
    (dlUpLoss p planned n s).get PRT_LINK_STATUS.STATE p = 0 ∧ (dlUpLoss p planned n s).get PRT_LINK_STATUS.DL_UP p = 0 ∧
      (dlUpLoss p planned n s).get ANV_SLAG_CNT2.PARTIAL (p / 32) = satAdd ANV_SLAG_CNT2.PARTIAL.width (s.get ANV_SLAG_CNT2.PARTIAL (p / 32)) n ∧
      ((dlUpLoss p planned n s).niAt (p / 2)).triggers.any (fun u => u.code = 1) = true := by
  unfold dlUpLoss
  rw [if_pos hup]
  have hslot := s.loseLink_only_slot p planned n
  refine ⟨?_, ?_, ?_, ?_⟩
  · rw [s.loseLink_get p p planned n (by decide), if_pos rfl]
  · rw [s.loseLink_get p p planned n (by decide), if_pos rfl]
  · rw [hslot.get_eq ANV_SLAG_CNT2.PARTIAL, s.dropLink_partial]
  · rw [hslot.niAt_eq, s.dropLink_triggers]

theorem dlUpLoss_of_down (planned : Bool) (n : Nat) {s : State} {p : Nat} (hdown : s.flag PRT_LINK_STATUS.DL_UP p = false) : dlUpLoss p planned n s = s := by
  unfold dlUpLoss
  rw [hdown]
  rfl

/-- Settles O1: each command's meaning, where its port or block exists, leaves the port as the rules say. -/
theorem bringUpRuns : Obligations.BringUpRuns := by
  unfold Obligations.BringUpRuns
  refine ⟨?start, ?notReady, ?calibrated, ?detected, ?linkActive, ?failed, ?admin, ?loss, ?noLoss⟩
  case start => exact fun s p n l hp hready hdown => ⟨_, run_true (decide_eq_true hp), bringUpStart_starts n l hready hdown⟩
  case notReady =>
    intro s p n l hp hready
    exact (run_true (decide_eq_true hp)).trans (congrArg _ (bringUpStart_of_not_ready n l hready))
  case calibrated =>
    intro s p q lanes hp hrole hx
    refine ⟨_, run_true (decide_eq_true hp), ?_⟩
    rw [trainingStageEnd_of_stage1 q lanes hrole hx]
    exact State.showsStage _ p _ (by decide)
  case detected =>
    intro s p q lanes hp hrole hx
    refine ⟨_, run_true (decide_eq_true hp), ?_⟩
    rw [trainingStageEnd_of_stage2 q lanes hrole hx]
    exact State.showsStage _ p _ (by decide)
  case linkActive =>
    intro s p q lanes hp hrole hx
    refine ⟨_, run_true (decide_eq_true hp), ?_⟩
    rw [trainingStageEnd_of_stage9 q lanes hrole hx]
    exact s.reachDlUp_shows p
  case failed =>
    intro s p q lanes hp hrole hx
    refine ⟨_, run_true (decide_eq_true hp), ?_⟩
    obtain ⟨u, hu⟩ := trainingStageEnd_of_failed q lanes hrole hx
    rw [hu]
    exact u.showsStage p _ (by decide)
  case admin => exact fun s b a0 a1 hb => ⟨_, run_true (decide_eq_true hb), adminWrite_shows b a0 a1 s⟩
  case loss => exact fun s p planned n hp hup => ⟨_, run_true (decide_eq_true hp), dlUpLoss_shows planned n hup⟩
  case noLoss =>
    intro s p planned n hp hdown
    exact (run_true (decide_eq_true hp)).trans (congrArg _ (dlUpLoss_of_down planned n hdown))

end Sys2Proof.Machine

namespace Sys2Proof.Machine

-- Proofs are elaborated one after another: each proof thread costs the check 256 MB of stack.
set_option Elab.async false

set_option exponentiation.threshold 500

/-! ### What training sends leaves every register alone (R90 to R93) -/

section Sending

variable (s : State) (b c n : Nat) (x : Block) (F : Fld) (i : Nat)

@[simp] theorem State.get_sendControl : (s.sendControl b n x).get F i = s.get F i :=
  (State.sendControl_only (Sub.refl _) (Only.refl _ s)).get_eq_of_fields F i

@[simp] theorem State.get_startTx : (s.startTx b).get F i = s.get F i :=
  (State.startTx_only (Sub.refl _) (Only.refl _ s)).get_eq_of_fields F i

@[simp] theorem State.get_askPreset : (s.askPreset b).get F i = s.get F i :=
  (State.askPreset_only (Sub.refl _) (Only.refl _ s)).get_eq_of_fields F i

@[simp] theorem State.get_sendTrain : (s.sendTrain b).get F i = s.get F i :=
  (State.sendTrain_only (Sub.refl _) (Only.refl _ s)).get_eq_of_fields F i

@[simp] theorem State.get_sendCap : (s.sendCap b).get F i = s.get F i :=
  (State.sendCap_only (Sub.refl _) (Only.refl _ s)).get_eq_of_fields F i

@[simp] theorem State.train_sendControl : (s.sendControl b n x).train c = s.train c :=
  (State.sendControl_only (Sub.refl _) (Only.refl _ s)).train_eq c

@[simp] theorem State.train_startTx : (s.startTx b).train c = s.train c :=
  (State.startTx_only (Sub.refl _) (Only.refl _ s)).train_eq c

@[simp] theorem State.train_sendTrain : (s.sendTrain b).train c = s.train c :=
  (State.sendTrain_only (Sub.refl _) (Only.refl _ s)).train_eq c

@[simp] theorem State.train_emit (o : Out) : (s.emit o).train c = s.train c := (rfl)
@[simp] theorem State.train_fresh : s.fresh.train c = s.train c := (rfl)

end Sending

/-! ### What has left the device stays, in its order -/

section Out

variable (s : State)

/-- Changes that each only add to what has left the device do so together. -/
theorem State.out_prefix_foldl {β : Type} (f : State → β → State) (hf : ∀ u y, u.out <+: (f u y).out) (l : List β) : s.out <+: (l.foldl f s).out := by
  induction l generalizing s with
  | nil => exact List.prefix_rfl
  | cons y l ih => exact (hf s y).trans (ih (f s y))

theorem State.out_prefix_sendOn (c : Nat) (x : Block) : s.out <+: (s.sendOn c x).out := by
  unfold State.sendOn
  split
  · exact List.prefix_rfl
  · exact List.prefix_append ..

theorem State.out_prefix_sendControl (b n : Nat) (x : Block) : s.out <+: (s.sendControl b n x).out :=
  s.out_prefix_foldl _ (fun u _ => (u.out_prefix_foldl _ (fun v y => v.out_prefix_sendOn _ y) _).trans (State.out_prefix_sendOn ..)) _

/-- A TRAIN block sent is the first of what then leaves the device. -/
theorem State.sendTrain_out (b : Nat) : (s.sendTrain b).out[s.out.length]? =
    some (Out.trainBlock b ((s.train b).askPreset % 16 + (s.train b).preset % 16 * 2 ^ 4 + bit (s.train b).doneSent * 2 ^ 8)) := by
  unfold State.sendTrain
  extract_lets x bits
  obtain ⟨l, hl⟩ := (s.emit (.trainBlock b bits)).out_prefix_sendControl b 0 (controlBlock 0x2D bits)
  rw [← hl, State.emit_out, List.append_assoc, List.getElem?_append_right le_rfl, Nat.sub_self]
  rfl

/-- A CAP block sent leaves the device. -/
theorem State.sendCap_out (b : Nat) : Out.capBlock b (s.ownCap b (decide (3 ≤ (s.train b).capSame))) ∈ (s.sendCap b).out := by
  unfold State.sendCap
  extract_lets x ack bits u
  refine (State.out_prefix_sendControl (u.emit (.capBlock b bits)) b 63 _).subset ?_
  rw [State.emit_out]
  exact List.mem_append_right _ List.mem_cons_self

end Out

/-! ### The shared steps of training (R109) -/

section Training

variable (s : State) (b : Nat)

/-! Training put back to SIGDET: both status registers show it, and the new attempt waits for nothing. -/

theorem State.enterSigdet_state : (s.enterSigdet b).get SFL_TRAIN_STATUS.STATE b = 2 := by
  unfold State.enterSigdet State.sflState
  exact State.get_set_fits _ _ (by decide) (by decide)

theorem State.enterSigdet_portState : (s.enterSigdet b).get PRT_LINK_STATUS.STATE (2 * b) = 9 := by
  unfold State.enterSigdet State.sflState
  extract_lets _ u1 u2 u3
  have hport : u3.get PRT_LINK_STATUS.STATE (2 * b) = 9 := State.get_set_fits _ _ (by decide) (by decide)
  clear_value u3
  rw [State.get_set_kind _ _ _ _ (by decide), State.get_sendControl, State.get_startTx, hport]

theorem State.enterSigdet_backoff : ((s.enterSigdet b).train b).backoff = false := by
  unfold State.enterSigdet State.sflState
  extract_lets _ u1 u2 u3
  rw [State.train_set, State.train_sendControl, State.train_startTx]
  simp only [u3, u2, State.train_set, u1, State.train_setTrain]
  rfl

/-- A failed attempt: FAIL shows the code, TRAIN_CNT counts it, and the wait of 1 ms begins. -/
theorem State.sflFail_shows {code : Nat} (hcode : code < 16) : (s.sflFail b code).get SFL_TRAIN_STATUS.FAIL b = code ∧
    (s.sflFail b code).get SFL_TRAIN_STATUS.TRAIN_CNT b = satAdd 16 (s.get SFL_TRAIN_STATUS.TRAIN_CNT b) 1 ∧ ((s.sflFail b code).train b).backoff = true := by
  unfold State.sflFail
  extract_lets u1 u2 _ u3
  have hkept : Only eventParts u3 (u3.notice (353 + 2 * b) 1 code) :=
    State.notice_only rfl (Only.refl _ u3)
  have hfail : u1.get SFL_TRAIN_STATUS.FAIL b = code := s.get_set_fits b (by decide) hcode
  have hcnt : u1.get SFL_TRAIN_STATUS.TRAIN_CNT b = s.get SFL_TRAIN_STATUS.TRAIN_CNT b := s.get_set_bits b b code (by decide) (by decide)
  refine ⟨?_, ?_, ?_⟩
  · rw [hkept.get_eq SFL_TRAIN_STATUS.FAIL, State.get_setTrain]
    exact (u1.get_set_bits b b _ (by decide) (by decide)).trans hfail
  · rw [hkept.get_eq SFL_TRAIN_STATUS.TRAIN_CNT, State.get_setTrain, State.get_count _ _ _ (by decide), hcnt]
    rfl
  · rw [hkept.train_eq, State.train_setTrain]

/-- ADAPT begins: STATE shows it, and no other field of a register changes. -/
theorem State.startAdapt_get (F : Fld) (i : Nat) : (s.startAdapt b).get F i = (s.set SFL_TRAIN_STATUS.STATE b 3).get F i := by
  unfold State.startAdapt State.sflAdapt State.sflState
  rw [State.get_sendTrain, State.get_askPreset]
  rfl

theorem State.startAdapt_state : (s.startAdapt b).get SFL_TRAIN_STATUS.STATE b = 3 :=
  (s.startAdapt_get b _ b).trans (s.get_set_fits b (by decide) (by decide))

theorem State.startAdapt_falseRun : ((s.startAdapt b).train b).falseRun = (s.train b).falseRun := by
  unfold State.startAdapt
  rw [State.train_sendTrain]
  unfold State.askPreset State.sflAdapt State.sflState
  simp only [State.train_fresh, State.train_setTrain, State.train_set]

/-- DONE sent: the port notes it, and its bound as before. -/
theorem State.sendDone_train : ((s.sendDone b).train b).doneSent = true ∧ ((s.sendDone b).train b).boundPassed = (s.train b).boundPassed := by
  unfold State.sendDone
  split_ifs with hsent
  · exact ⟨hsent, rfl⟩
  · rw [State.train_sendTrain, State.train_setTrain]
    exact ⟨rfl, rfl⟩

/-- A CAP block sent changes the count of those sent with ACK and nothing else of training. -/
theorem State.sendCap_train : (s.sendCap b).train b =
    { s.train b with capSent := if decide (3 ≤ (s.train b).capSame) && (s.train b).capAcked then (s.train b).capSent + 1 else (s.train b).capSent } := by
  unfold State.sendCap
  rw [State.train_sendControl, State.train_emit, State.train_setTrain]

/-! CHECK begins: STATE shows it, and nothing else of the port's training changes but the next check unit. -/

theorem State.enterCheck_state : (s.enterCheck b).get SFL_TRAIN_STATUS.STATE b = 6 := by
  unfold State.enterCheck State.sflState
  exact State.get_set_fits _ _ (by decide) (by decide)

theorem State.enterCheck_rev : (s.enterCheck b).get SFL_TRAIN_STATUS.REV b = s.get SFL_TRAIN_STATUS.REV b := by
  unfold State.enterCheck State.sflState
  extract_lets mask _ u1 _ u2
  have hsent : Only (partsMask [.field .out, .field .sflTx, .field .sfl, .field .sflTrain]) s ((List.range 16).foldl (fun t n => t.sendUnit b (checkUnit n)) u2) :=
    Only.fold (fun _ _ hu => State.sendUnit_only rfl hu) (State.setLink_only rfl (State.setTrain_only rfl (Only.refl _ s)))
  rw [State.get_set_bits _ _ _ _ (by decide) (by decide), hsent.get_eq_of_fields]

theorem State.enterCheck_train : (s.enterCheck b).train b = { s.train b with checkNext := 0 } := by
  unfold State.enterCheck State.sflState
  extract_lets mask _ u1 _ u2
  have hsent : Only (partsMask [.field .out, .field .sflTx, .field .sfl]) u1 ((List.range 16).foldl (fun t n => t.sendUnit b (checkUnit n)) u2) :=
    Only.fold (fun _ _ hu => State.sendUnit_only rfl hu) (State.setLink_only rfl (Only.refl _ u1))
  rw [State.train_set, hsent.train_eq]
  exact s.train_setTrain b _

end Training

/-! ### CAL, SIGDET and ADAPT (R92, R109) -/

/-- Calibration done: the port waits for signal and shows its training. -/
theorem calibrationDone_shows (failed : Nat) {s : State} {b : Nat} (hcal : s.get SFL_TRAIN_STATUS.STATE b = 1) :
    (calibrationDone b failed s).get SFL_TRAIN_STATUS.STATE b = 2 ∧ (calibrationDone b failed s).get PRT_LINK_STATUS.STATE (2 * b) = 9 := by
  unfold calibrationDone
  rw [if_pos hcal]
  exact ⟨State.enterSigdet_state _ b, State.enterSigdet_portState _ b⟩

theorem signalDetect_of_few {s : State} {b pairs : Nat} (h : popCount 18 pairs < 4) : signalDetect b pairs s = s := by
  unfold signalDetect
  rw [if_neg fun hc => Nat.not_le.2 h hc.2]

/-- Signal on at least 4 pairs begins ADAPT at 64 Gb/s. -/
theorem signalDetect_adapts {s : State} {b pairs : Nat} (hin : s.inSfl b 2 = true) (h : 4 ≤ popCount 18 pairs) :
    (signalDetect b pairs s).get SFL_TRAIN_STATUS.STATE b = 3 ∧ (signalDetect b pairs s).get SFL_TRAIN_STATUS.RATE b = 0 := by
  unfold signalDetect
  rw [if_pos ⟨hin, h⟩]
  refine ⟨State.startAdapt_state _ b, ?_⟩
  rw [State.startAdapt_get, State.get_set_bits _ _ _ _ (by decide) (by decide)]
  exact State.get_set_fits _ b (by decide) (by decide)

/-- An invalid block taken is bad, and counted in SYNC_ERR (R91). -/
theorem State.takeBlock_of_invalid {s : State} {c : Nat} {x : Block} (h : blockInvalid (s.takeBlock c x).2.1 = true) : (s.takeBlock c x).2.2 = true ∧
    (s.takeBlock c x).1.get SFL_LANE_STAT.SYNC_ERR c = satAdd SFL_LANE_STAT.SYNC_ERR.width (s.get SFL_LANE_STAT.SYNC_ERR c) 1 := by
  unfold State.takeBlock at h ⊢
  dsimp only at h ⊢
  rw [h, if_pos rfl, State.get_count _ _ _ (by decide), State.get_setSflLane]
  exact ⟨rfl, rfl⟩

/-- A block taken from a lane leaves training and what has left the device alone. -/
theorem State.takeBlock_keeps (s : State) (c : Nat) (x : Block) :
    (∀ b, (s.takeBlock c x).1.train b = s.train b) ∧ (s.takeBlock c x).1.out = s.out :=
  have h := State.takeBlock_only (c := c) (x := x) (Sub.refl _) (Only.refl _ s)
  ⟨h.train_eq, h.out_eq⟩

section TrainBlock

variable {s : State} {b k : Nat} {x : Block} (hin : s.inSfl (s.leadOf b) 3 = true) (hlock : s.flag SFL_LANE_STAT.LOCK (9 * b + k) = true)
include hin hlock

/-- A bad block on a locked lane in ADAPT has no effect but being taken. -/
theorem trainBlockReceived_of_bad (hbad : (s.takeBlock (9 * b + k) x).2.2 = true) : trainBlockReceived b k x s = (s.takeBlock (9 * b + k) x).1 := by
  unfold trainBlockReceived
  dsimp only
  rw [if_neg (by simp [hin, hlock]), if_pos (by simp [hbad])]

/-- A TRAIN block on a locked lane in ADAPT brings the preset it asks for into use, and is answered by one of this side's. -/
theorem trainBlockReceived_answers {v : Nat} (hx : (s.takeBlock (9 * b + k) x).2 = ((2, v), false)) (htype : v % 256 = 0x2D)
    (hpreset : v / 2 ^ 8 % 16 ≤ 10) : ((trainBlockReceived b k x s).train (s.leadOf b)).preset = v / 2 ^ 8 % 16 ∧
      ((trainBlockReceived b k x s).train (s.leadOf b)).doneSeen = ((s.train (s.leadOf b)).doneSeen || decide (v / 2 ^ 16 % 2 = 1)) ∧
      (trainBlockReceived b k x s).out[s.out.length]? = some (Out.trainBlock (s.leadOf b)
        ((s.train (s.leadOf b)).askPreset % 16 + v / 2 ^ 8 % 16 * 2 ^ 4 + bit (s.train (s.leadOf b)).doneSent * 2 ^ 8)) := by
  obtain ⟨htrain, hout⟩ := s.takeBlock_keeps (9 * b + k) x
  unfold trainBlockReceived
  dsimp only
  rw [if_neg (by simp [hin, hlock]), hx, if_neg (by simp [blockType, htype]), htrain, ← hout]
  change v / 2 ^ 8 % 2 ^ (11 + 1 - 8) ≤ 10 at hpreset
  refine ⟨?_, ?_, ?_⟩
  · rw [State.train_sendTrain, State.train_setTrain]
    exact if_pos hpreset
  · rw [State.train_sendTrain, State.train_setTrain]
    rfl
  · refine (State.sendTrain_out _ _).trans ?_
    rw [State.train_setTrain]
    dsimp only
    rw [if_pos hpreset, show 2 ^ (11 + 1 - 8) = 16 from rfl, Nat.mod_mod]

end TrainBlock

/-- Past the bound, with DONE from the partner, ADAPT ends in DESKEW. -/
theorem adaptDone_enters {s : State} {b : Nat} (hin : s.inSfl b 3 = true) (hbound : (s.train b).boundPassed = true) (hseen : (s.train b).doneSeen = true) :
    (adaptDone b s).get SFL_TRAIN_STATUS.STATE b = 4 := by
  unfold adaptDone
  extract_lets y all' u
  rw [if_neg (by simp [hin]), if_pos (by simp [y, hbound]), if_pos hseen]
  exact State.get_set_fits _ _ (by decide) (by decide)

theorem adaptBoundExceeded_sends {s : State} {b : Nat} (hin : s.inSfl b 3 = true) (h : 4 ≤ (s.lockedLogical b).length) :
    ((adaptBoundExceeded b s).train b).boundPassed = true ∧ ((adaptBoundExceeded b s).train b).doneSent = true := by
  unfold adaptBoundExceeded
  rw [if_neg (by simp [hin]), if_pos h]
  obtain ⟨hsent, hbound⟩ := State.sendDone_train (s.setTrain b { s.train b with boundPassed := true }) b
  exact ⟨hbound.trans (by rw [State.train_setTrain]), hsent⟩

theorem adaptBoundExceeded_fails {s : State} {b : Nat} (hin : s.inSfl b 3 = true) (h : (s.lockedLogical b).length < 4) :
    adaptBoundExceeded b s = s.sflFail b 1 := by
  unfold adaptBoundExceeded
  rw [if_neg (by simp [hin]), if_neg (Nat.not_le.2 h)]

theorem adaptPartnerDoneTimeout_fails {s : State} {b : Nat} (hin : s.inSfl b 3 = true) (hbound : (s.train b).boundPassed = true)
    (hseen : (s.train b).doneSeen = false) : adaptPartnerDoneTimeout b s = s.sflFail b 1 := by
  unfold adaptPartnerDoneTimeout
  rw [if_pos ⟨hin, hbound, by simp [hseen]⟩]

end Sys2Proof.Machine

namespace Sys2Proof.Machine

-- Proofs are elaborated one after another: each proof thread costs the check 256 MB of stack.
set_option Elab.async false

set_option exponentiation.threshold 500

/-! ### Deskew (R104) -/

section Locked

variable {s t : State} (b : Nat) (hmode : t.get PRT_CFG.MODE b = s.get PRT_CFG.MODE b)
  (hlock : ∀ c, t.get SFL_LANE_STAT.LOCK c = s.get SFL_LANE_STAT.LOCK c) (hhome : ∀ d k, (t.sflLane d k).home = (s.sflLane d k).home)
include hmode hlock hhome

/-- The circuit that receives a lane follows the port's width, the circuits' locks and the lanes they carry. -/
theorem State.rxCircuit_congr (l : Nat) : t.rxCircuit b l = s.rxCircuit b l := by
  unfold State.rxCircuit State.portCircuits State.fabricWidth State.flag
  simp only [hmode, hlock, hhome]

theorem State.lockedLogical_congr : t.lockedLogical b = s.lockedLogical b := by
  unfold State.lockedLogical
  simp only [State.rxCircuit_congr b hmode hlock hhome]
  unfold State.fabricWidth
  rw [hmode]

end Locked

/-- The skew of a circuit noted (R104). -/
def State.noteSkew (skew : Nat → Nat) (c : Nat) (s : State) : State :=
  (s.setSflLane (c / 9) (c % 9) { s.sflLane (c / 9) (c % 9) with skew := skew c }).set SFL_LANE_STAT.SKEW c (min (skew c) 1000)

section NoteSkew

variable (s : State) (skew : Nat → Nat) (c : Nat)

theorem State.noteSkew_lock (i : Nat) : (s.noteSkew skew c).get SFL_LANE_STAT.LOCK i = s.get SFL_LANE_STAT.LOCK i := by
  unfold State.noteSkew
  rw [State.get_set_bits _ _ _ _ (by decide) (by decide), State.get_setSflLane]

theorem State.noteSkew_home (d k : Nat) : ((s.noteSkew skew c).sflLane d k).home = (s.sflLane d k).home := by
  unfold State.noteSkew
  rw [State.sflLane_set]
  unfold State.setSflLane State.sflLane
  by_cases hc : 9 * d + k = 9 * (c / 9) + c % 9
  · rw [hc]
    dsimp only
    rw [Tbl.rd_wr_self]
  · dsimp only
    rw [Tbl.rd_wr_other _ _ _ hc]

theorem State.noteSkew_mode (i : Nat) : (s.noteSkew skew c).get PRT_CFG.MODE i = s.get PRT_CFG.MODE i := by
  unfold State.noteSkew
  rw [State.get_set_kind _ _ _ _ (by decide), State.get_setSflLane]

variable (l : List Nat) (b : Nat)

/-- Skews noted leave every lane received where it is. -/
theorem State.each_noteSkew_rxCircuit (n : Nat) : (s.each l (State.noteSkew skew)).rxCircuit b n = s.rxCircuit b n :=
  State.each_keeps (State.rxCircuit · b n) l fun c u => State.rxCircuit_congr b (u.noteSkew_mode skew c b) (u.noteSkew_lock skew c) (u.noteSkew_home skew c) n

theorem State.each_noteSkew_lockedLogical : (s.each l (State.noteSkew skew)).lockedLogical b = s.lockedLogical b :=
  State.each_keeps (State.lockedLogical · b) l fun c u => State.lockedLogical_congr b (u.noteSkew_mode skew c b) (u.noteSkew_lock skew c) (u.noteSkew_home skew c)

end NoteSkew

section Deskew

variable {s : State} {b : Nat} (skews : List Nat)

/-- The locked lanes that skew excludes. -/
def State.wideLanes (s : State) (b : Nat) (skews : List Nat) : List Nat :=
  (s.lockedLogical b).filter fun l => (s.rxCircuit b l).any fun c => decide (1000 < skews.getD (c - 9 * b) 0)

/-- The locked lanes that stay in the active set. -/
def State.deskewedLanes (s : State) (b : Nat) (skews : List Nat) : List Nat :=
  (s.lockedLogical b).filter fun l => !(s.wideLanes b skews).contains l && (!(s.train b).capxDone || bitOf (s.train b).agreed l)

/-- Training once deskew has decided on the lanes: the exchange of CAPX starts anew. -/
def State.deskewedTrain (s : State) (b : Nat) (skews : List Nat) : SflTrain :=
  { s.train b with laneOk := laneMask (s.deskewedLanes b skews), skewed := laneMask (s.wideLanes b skews), capSame := 0, capAcked := false, capSent := 0 }

/-- With a lane that completed ADAPT not locked, deskew waits. -/
theorem deskewRelease_waits {c : Nat} (hc : c ∈ (s.train b).adapted) (hlock : s.flag SFL_LANE_STAT.LOCK c = false) : deskewRelease b skews s = s := by
  unfold deskewRelease
  extract_lets x lane
  have hany : x.adapted.any (fun c => !s.flag SFL_LANE_STAT.LOCK c) = true := List.any_eq_true.2 ⟨c, hc, by simp [hlock]⟩
  rw [if_pos (by simp only [hany, Bool.or_true, Bool.true_or])]

variable (hin : s.inSfl b 4 = true) (hlocks : (s.train b).adapted.all (fun c => s.flag SFL_LANE_STAT.LOCK c) = true)
  (hseq : (s.train b).adapted.all (fun c => decide ((s.sflLane (c / 9) (c % 9)).nextSeq =
    (s.sflLane ((s.train b).adapted.headD c / 9) ((s.train b).adapted.headD c % 9)).nextSeq)) = true)
include hin hlocks hseq

/-- With every lane that completed ADAPT locked and at one sequence, deskew decides on the lanes by their skews. -/
theorem deskewRelease_eq : ∃ u : State, deskewRelease b skews s =
    if !(s.wideLanes b skews).isEmpty && decide ((s.deskewedLanes b skews).length < 4) then u.sflFail b 2
    else if (s.train b).capxDone then (u.setTrain b (s.deskewedTrain b skews)).enterCheck b
    else ((u.setTrain b (s.deskewedTrain b skews)).sflState b 5).sendCap b := by
  have hlocks' : (s.train b).adapted.any (fun c => !s.flag SFL_LANE_STAT.LOCK c) = false := by
    rw [List.all_eq_true] at hlocks
    exact List.any_eq_false.2 fun c hc => by simp [hlocks c hc]
  have hseq' : (s.train b).adapted.any (fun c => decide ((s.sflLane (c / 9) (c % 9)).nextSeq ≠
      (s.sflLane ((s.train b).adapted.headD c / 9) ((s.train b).adapted.headD c % 9)).nextSeq)) = false := by
    rw [List.all_eq_true] at hseq
    exact List.any_eq_false.2 fun c hc => by simpa using hseq c hc
  have hlanes := s.each_noteSkew_lockedLogical (fun c => skews.getD (c - 9 * b) 0) (s.train b).adapted b
  have hcircuits := s.each_noteSkew_rxCircuit (fun c => skews.getD (c - 9 * b) 0) (s.train b).adapted b
  refine ⟨s.each (s.train b).adapted (State.noteSkew fun c => skews.getD (c - 9 * b) 0), ?_⟩
  unfold deskewRelease
  dsimp only
  rw [if_neg (by rw [hin, hlocks', hseq']; decide)]
  unfold State.deskewedTrain State.deskewedLanes State.wideLanes
  rw [← hlanes]
  simp only [← hcircuits]
  rfl

/-- With no lane wide, training goes on to CAPX, or to CHECK after CAPX, on the lanes locked and agreed. -/
theorem deskewRelease_goes_on (hskews : skews = []) :
    (deskewRelease b skews s).get SFL_TRAIN_STATUS.STATE b = (if (s.train b).capxDone then 6 else 5) ∧
      ((deskewRelease b skews s).train b).laneOk = laneMask ((s.lockedLogical b).filter fun l => !(s.train b).capxDone || bitOf (s.train b).agreed l) := by
  have hwide : s.wideLanes b skews = [] := by
    unfold State.wideLanes
    simp [hskews]
  have hlanes : s.deskewedLanes b skews = (s.lockedLogical b).filter fun l => !(s.train b).capxDone || bitOf (s.train b).agreed l := by
    unfold State.deskewedLanes
    simp [hwide]
  obtain ⟨u, hu⟩ := deskewRelease_eq skews hin hlocks hseq
  have hok : (s.deskewedTrain b skews).laneOk = laneMask ((s.lockedLogical b).filter fun l => !(s.train b).capxDone || bitOf (s.train b).agreed l) := by
    rw [← hlanes]
    rfl
  rw [hu, hwide, if_neg (by simp)]
  split_ifs with hdone
  · rw [State.enterCheck_state, State.enterCheck_train, State.train_setTrain]
    exact ⟨rfl, hok⟩
  · rw [State.get_sendCap, State.sendCap_train]
    unfold State.sflState
    rw [State.train_set, State.train_setTrain]
    exact ⟨State.get_set_fits _ _ (by decide) (by decide), hok⟩

/-- A lane wide of the bound with fewer than 4 lanes within it is SKEW_EXCESS. -/
theorem deskewRelease_skewExcess
    (hwide : ((s.lockedLogical b).any fun l => (s.rxCircuit b l).any fun c => decide (1000 < skews.getD (c - 9 * b) 0)) = true)
    (hfew : ((s.lockedLogical b).filter fun l => (s.rxCircuit b l).all fun c => decide (skews.getD (c - 9 * b) 0 ≤ 1000)).length < 4) :
    (deskewRelease b skews s).get SFL_TRAIN_STATUS.FAIL b = 2 ∧ ((deskewRelease b skews s).train b).backoff = true := by
  obtain ⟨l, hl, hlw⟩ := List.any_eq_true.1 hwide
  have hsome : (s.wideLanes b skews).isEmpty = false := List.isEmpty_eq_false_iff_exists_mem.2 ⟨l, List.mem_filter.2 ⟨hl, hlw⟩⟩
  have hle : (s.deskewedLanes b skews).length < 4 := by
    unfold State.deskewedLanes
    rw [← List.countP_eq_length_filter] at hfew ⊢
    refine lt_of_le_of_lt (List.countP_mono_left fun l' hl' hkept => ?_) hfew
    have hnot : l' ∉ s.wideLanes b skews := by
      simp only [Bool.and_eq_true, Bool.not_eq_true', List.contains_eq_mem, decide_eq_false_iff_not] at hkept
      exact hkept.1
    cases hc : s.rxCircuit b l' with
    | none => rfl
    | some c => simpa [State.wideLanes, hl', hc] using hnot
  obtain ⟨u, hu⟩ := deskewRelease_eq skews hin hlocks hseq
  rw [hu, hsome, if_pos (by simp [hle])]
  obtain ⟨hfail, -, hwait⟩ := u.sflFail_shows b (code := 2) (by decide)
  exact ⟨hfail, hwait⟩

end Deskew

/-! ### CAPX (R106 to R109) -/

/-- This side's CAP content follows registers other than SFL_PEER and the lanes that it offers. -/
theorem State.ownCap_congr {s t : State} {b : Nat} (hget : ∀ (F : Fld) i, F.reg ≠ .SFL_PEER → t.get F i = s.get F i)
    (hlanes : (t.train b).laneOk = (s.train b).laneOk) (ack : Bool) : t.ownCap b ack = s.ownCap b ack := by
  unfold State.ownCap State.spareFree State.fabricWidth State.flag
  simp (disch := decide) only [hget, hlanes]

/-- A CAP block with a new content in CAPX: the content is kept without its ACK bit, counted as the first of its kind, and answered by this side's own without ACK. -/
theorem capBlockReceived_restarts {s : State} {b bits : Nat} (hin : s.inSfl b 5 = true) (hnew : withBit (bits % 2 ^ 56) 38 false ≠ (s.train b).cap) :
    ((capBlockReceived b bits s).train b).cap = withBit (bits % 2 ^ 56) 38 false ∧ ((capBlockReceived b bits s).train b).capSame = 1 ∧
      ((capBlockReceived b bits s).train b).capAcked = bitOf bits 38 ∧ Out.capBlock b (s.ownCap b false) ∈ (capBlockReceived b bits s).out := by
  unfold capBlockReceived
  rw [if_neg (by simp [hin])]
  extract_lets x ack content y u
  have hy : y = { x with cap := content, capSame := 1, capAcked := ack, capSent := 0 } := if_neg fun h => hnew h.1
  have hget : ∀ (F : Fld) i, F.reg ≠ .SFL_PEER → (u.setTrain b y).get F i = s.get F i := by
    intro F i hF
    rw [State.get_setTrain]
    unfold u
    split
    · rfl
    · unfold State.get
      rw [State.showPeer, State.reg_setReg_other _ _ (.inl hF)]
  have hown : (u.setTrain b y).ownCap b false = s.ownCap b false :=
    State.ownCap_congr hget (by rw [State.train_setTrain, hy]) false
  have hout := (u.setTrain b y).sendCap_out b
  have hsame : decide (3 ≤ ((u.setTrain b y).train b).capSame) = false := by
    rw [State.train_setTrain, hy]
    rfl
  rw [hsame, hown] at hout
  rw [State.sendCap_train, State.train_setTrain]
  refine ⟨?_, ?_, ?_, hout⟩
  · rw [hy]
  · rw [hy]
  · rw [hy]

/-- CAP blocks that go out with ACK after the partner's are each counted. -/
theorem State.sendCaps_train {s : State} {b : Nat} (hacked : (s.train b).capAcked = true) (hsame : 3 ≤ (s.train b).capSame) (n : Nat) :
    ((List.range n).foldl (fun t _ => t.sendCap b) s).train b = { s.train b with capSent := (s.train b).capSent + n } := by
  induction n with
  | zero => rfl
  | succ n ih =>
    rw [List.range_succ, List.foldl_append, List.foldl_cons, List.foldl_nil, State.sendCap_train, ih]
    simp [hacked, hsame, Nat.add_assoc]

theorem State.sendCaps_get (s : State) (b n : Nat) (F : Fld) (i : Nat) : ((List.range n).foldl (fun t _ => t.sendCap b) s).get F i = s.get F i :=
  (Only.fold (fun _ _ hu => State.sendCap_only (Sub.refl _) hu) (Only.refl _ s)).get_eq_of_fields F i

/-- CAPX decides once the partner's ACK has come and 16 CAP blocks with ACK have gone out since. -/
theorem capxComplete_decides {s : State} {b n : Nat} (hin : s.inSfl b 5 = true) (hacked : (s.train b).capAcked = true) (hsame : 3 ≤ (s.train b).capSame)
    (hsent : 16 ≤ (s.train b).capSent + min n 16) : ∃ u : State,
      u.train b = { s.train b with capSent := (s.train b).capSent + min n 16 } ∧
      capxComplete b n s = u.capxDecide b (s.ownCap b true) (s.train b).cap (u.train b) := by
  refine ⟨(List.range (min n 16)).foldl (fun t _ => t.sendCap b) s, State.sendCaps_train hacked hsame _, ?_⟩
  have htrain := State.sendCaps_train hacked hsame (min n 16)
  have hget := s.sendCaps_get b (min n 16)
  unfold capxComplete
  rw [if_neg (by simp [hin])]
  dsimp only
  generalize (List.range (min n 16)).foldl (fun t _ => t.sendCap b) s = u at htrain hget ⊢
  rw [if_neg (by rw [htrain]; simp [hacked, hsame]; omega), State.ownCap_congr (fun F i _ => hget F i) (by rw [htrain]), htrain]

/-- The fields of this side's CAP content (R106). -/
theorem State.ownCap_fields (s : State) (b : Nat) (ack : Bool) : s.ownCap b ack % 2 ^ 8 = s.get SFL_PHY_CFG.REV_MIN b ∧
    s.ownCap b ack / 2 ^ 8 % 2 ^ 8 = s.get SFL_PHY_CFG.REV_MAX b ∧ s.ownCap b ack / 2 ^ 16 % 2 ^ 8 = s.get MGT_CHIP_INFO.CHIP_ID 0 ∧
      s.ownCap b ack / 2 ^ 31 % 2 = min (s.get SFL_PHY_CFG.RATE128 b) (s.get SFL_PHY_CTL.RATE_CAP b) ∧ s.ownCap b ack / 2 ^ 39 = (s.train b).laneOk := by
  have hmin : s.get SFL_PHY_CFG.REV_MIN b < 2 ^ 8 := s.get_lt b _
  have hmax : s.get SFL_PHY_CFG.REV_MAX b < 2 ^ 8 := s.get_lt b _
  have hid : s.get MGT_CHIP_INFO.CHIP_ID 0 < 2 ^ 8 := s.get_lt 0 _
  have hrate : min (s.get SFL_PHY_CFG.RATE128 b) (s.get SFL_PHY_CTL.RATE_CAP b) < 2 := lt_of_le_of_lt (Nat.min_le_left _ _) (s.get_lt b SFL_PHY_CFG.RATE128)
  have henc : s.get SFL_PHY_CFG.ENC_EN b < 2 := s.get_lt b _
  have hrole : s.get MGT_CHIP_INFO.ROLE 0 < 4 := s.get_lt 0 _
  have hbit : ∀ c, bit c < 2 := by decide
  unfold State.ownCap
  extract_lets spare wide
  have hspare : ∀ d, spare d < 2 := fun d => hbit _
  have hspares : spare b + (if wide = true then 2 * spare (b + 1) else 0) < 4 := by
    have h0 := hspare b
    have h1 := hspare (b + 1)
    split <;> omega
  have hwide := hbit wide
  have hack := hbit ack
  generalize min (s.get SFL_PHY_CFG.RATE128 b) (s.get SFL_PHY_CTL.RATE_CAP b) = rate at hrate ⊢
  generalize spare b + (if wide = true then 2 * spare (b + 1) else 0) = spares at hspares ⊢
  refine ⟨?_, ?_, ?_, ?_, ?_⟩ <;> omega

/-- A number with more bits, and more places to count them at, has more of them. -/
theorem popCount_le {v w m n : Nat} (hw : v ≤ w) (hbits : ∀ i < v, m.testBit i = true → n.testBit i = true) : popCount v m ≤ popCount w n := by
  induction v generalizing w m n with
  | zero => exact Nat.zero_le _
  | succ v ih =>
    obtain ⟨w, rfl⟩ := Nat.exists_eq_add_of_le' (Nat.one_le_of_lt hw)
    have hlow : m % 2 ≤ n % 2 := by
      have h0 := hbits 0 (Nat.succ_pos v)
      simp only [Nat.testBit_zero, decide_eq_true_eq] at h0
      omega
    have hrest : popCount v (m / 2) ≤ popCount w (n / 2) := by
      refine ih (by omega) fun i hi hm => ?_
      rw [Nat.testBit_div_two] at hm ⊢
      exact hbits (i + 1) (by omega) hm
    exact Nat.add_le_add hlow hrest

section Decide

variable {s : State} {b own cap : Nat} {x : SflTrain}

/-- With no common revision the exchange fails with REV_MISMATCH (R107). -/
theorem State.capxDecide_fails (hrev : min (own / 2 ^ 8 % 2 ^ 8) (cap / 256 % 256) < max (own % 2 ^ 8) (cap % 256)) :
    s.capxDecide b own cap x = s.sflFail b 3 := by
  unfold State.capxDecide
  extract_lets f rev
  have hlow : ∀ c, f c 7 0 = c % 2 ^ 8 := fun c => congrArg (· % 2 ^ 8) (Nat.div_one c)
  have hnone : rev < max (own % 2 ^ 8) (cap % 2 ^ 8) := hrev
  rw [hlow, hlow, if_pos hnone]

/-- With a common revision, another chip as partner, 4 lanes good on both sides, a spare given before and 64 Gb/s on this side, the exchange settles with no
new spare and no change of rate (R107 to R109). -/
theorem State.capxDecide_settles (hrev : max (own % 2 ^ 8) (cap % 256) ≤ min (own / 2 ^ 8 % 2 ^ 8) (cap / 256 % 256))
    (hself : cap / 2 ^ 16 % 256 ≠ own / 2 ^ 16 % 2 ^ 8) (hrate : own / 2 ^ 31 % 2 = 0) (hlanes : 4 ≤ popCount 8 (Nat.land (own / 2 ^ 39) (cap / 2 ^ 39)))
    (hsubst : x.subst ≠ []) : ∃ width both enc,
      s.capxDecide b own cap x = s.capxSettle b (min (own / 2 ^ 8 % 2 ^ 8) (cap / 256 % 256)) width both [] enc false := by
  unfold State.capxDecide
  extract_lets f rev width both spares subst
  have hlow : ∀ c, f c 7 0 = c % 2 ^ 8 := fun c => congrArg (· % 2 ^ 8) (Nat.div_one c)
  have h8 : 8 ≤ width := by
    unfold width
    split <;> decide
  have hboth : popCount 8 (Nat.land (own / 2 ^ 39) (cap / 2 ^ 39)) ≤ popCount 16 both := by
    refine popCount_le (by decide) fun i hi h => ?_
    have hand : (own / 2 ^ 39).testBit i = true ∧ (cap / 2 ^ 39).testBit i = true := by
      rw [← Bool.and_eq_true, ← Nat.testBit_and]
      exact h
    have hfield : ∀ c, (f c 54 39).testBit i = (c / 2 ^ 39).testBit i := fun c =>
      (Nat.testBit_mod_two_pow (c / 2 ^ 39) 16 i).trans (by rw [decide_eq_true (show i < 16 by omega), Bool.true_and])
    rw [Nat.testBit_mod_two_pow, decide_eq_true (show i < width by omega), Bool.true_and]
    refine (Nat.testBit_and (f own 54 39) (f cap 54 39) i).trans ?_
    rw [hfield, hfield, hand.1, hand.2]
    rfl
  have hfast : (decide (f own 31 31 = 1) && decide (f cap 31 31 = 1)) = false := by
    have h0 : f own 31 31 = 0 := hrate
    rw [h0]
    rfl
  have hgiven : subst = [] := if_pos (by simpa using hsubst)
  have hcommon : ¬ rev < max (own % 2 ^ 8) (cap % 2 ^ 8) := Nat.not_lt.2 hrev
  rw [hlow, hlow, if_neg hcommon, if_neg fun h => hself h.1, if_neg (Nat.not_lt.2 (hlanes.trans hboth)), hgiven, hfast]
  exact ⟨width, both, _, rfl⟩

/-- With no new spare and no change of rate, what CAPX settles begins CHECK under the common revision. -/
theorem State.capxSettle_checks (s : State) (b width both : Nat) (enc : Bool) {rev : Nat} (hrev : rev < 256) :
    (s.capxSettle b rev width both [] enc false).get SFL_TRAIN_STATUS.STATE b = 6 ∧ ((s.capxSettle b rev width both [] enc false).train b).capxDone = true ∧
      (s.capxSettle b rev width both [] enc false).get SFL_TRAIN_STATUS.REV b = rev := by
  unfold State.capxSettle
  extract_lets u1 u2 u3 u4 y agreed u5 u6
  rw [if_neg fun h => Bool.false_ne_true h.1, if_neg (by decide), State.enterCheck_state, State.enterCheck_train, State.enterCheck_rev]
  have h3 : Only (partsMask [.reg .SFL_LANE_STAT, .field .sflLanes, .field .sflTx, .field .sflTrain]) u2 u3 :=
    Only.ite (State.powerDown_only rfl (Only.refl _ u2)) (Only.refl _ u2)
  have h6 : Only (partsMask [.reg .SFL_LANE_STAT, .field .sflLanes, .field .sflTx, .field .sflTrain]) u2 u6 :=
    State.retag_only rfl (State.setTrain_only rfl h3)
  refine ⟨rfl, ?_, ?_⟩
  · rw [(State.retag_only (Sub.refl _) (Only.refl _ u5)).train_eq, State.train_setTrain]
  · rw [h6.get_eq SFL_TRAIN_STATUS.REV, State.get_set_kind _ _ _ _ (by decide)]
    exact u1.get_set_fits b (by decide) hrev

end Decide

section Complete

variable {s : State} {b n : Nat} (hin : s.inSfl b 5 = true) (hacked : (s.train b).capAcked = true) (hsame : 3 ≤ (s.train b).capSame)
  (hsent : 16 ≤ (s.train b).capSent + min n 16)
include hin hacked hsame hsent

theorem capxComplete_revMismatch (hrev : min (s.get SFL_PHY_CFG.REV_MAX b) ((s.train b).cap / 256 % 256) <
    max (s.get SFL_PHY_CFG.REV_MIN b) ((s.train b).cap % 256)) :
    (capxComplete b n s).get SFL_TRAIN_STATUS.FAIL b = 3 ∧ ((capxComplete b n s).train b).backoff = true := by
  obtain ⟨u, -, hu⟩ := capxComplete_decides hin hacked hsame hsent
  obtain ⟨hmin, hmax, -, -, -⟩ := s.ownCap_fields b true
  rw [hu, State.capxDecide_fails (by rw [hmin, hmax]; exact hrev)]
  obtain ⟨hfail, -, hwait⟩ := u.sflFail_shows b (code := 3) (by decide)
  exact ⟨hfail, hwait⟩

theorem capxComplete_checks (hrev : max (s.get SFL_PHY_CFG.REV_MIN b) ((s.train b).cap % 256) ≤
      min (s.get SFL_PHY_CFG.REV_MAX b) ((s.train b).cap / 256 % 256))
    (hself : (s.train b).cap / 2 ^ 16 % 256 ≠ s.get MGT_CHIP_INFO.CHIP_ID 0) (hsubst : (s.train b).subst ≠ []) (hrate : s.get SFL_PHY_CFG.RATE128 b = 0)
    (hlanes : 4 ≤ popCount 8 (Nat.land (s.train b).laneOk ((s.train b).cap / 2 ^ 39))) :
    (capxComplete b n s).get SFL_TRAIN_STATUS.STATE b = 6 ∧ ((capxComplete b n s).train b).capxDone = true ∧
      (capxComplete b n s).get SFL_TRAIN_STATUS.REV b = min (s.get SFL_PHY_CFG.REV_MAX b) ((s.train b).cap / 256 % 256) := by
  obtain ⟨u, htrain, hu⟩ := capxComplete_decides hin hacked hsame hsent
  obtain ⟨hmin, hmax, hid, hfast, hok⟩ := s.ownCap_fields b true
  obtain ⟨width, both, enc, hsettle⟩ := State.capxDecide_settles (s := u) (b := b) (own := s.ownCap b true) (cap := (s.train b).cap) (x := u.train b)
    (by rw [hmin, hmax]; exact hrev) (by rw [hid]; exact hself) (by rw [hfast, hrate, Nat.zero_min]) (by rw [hok]; exact hlanes) (by rw [htrain]; exact hsubst)
  rw [hu, hsettle, hmax]
  exact u.capxSettle_checks b width both enc (lt_of_le_of_lt (Nat.min_le_right _ _) (Nat.mod_lt _ (by decide)))

end Complete

theorem capxTimeout_fails {s : State} {b : Nat} (hin : s.inSfl b 5 = true) : capxTimeout b s = s.sflFail b 7 := if_pos hin

theorem trainingFailBackoffEnd_eq {s : State} {b : Nat} (hwait : (s.train b).backoff = true) : trainingFailBackoffEnd b s = s.enterSigdet b := if_pos hwait

end Sys2Proof.Machine

namespace Sys2Proof.Machine

-- Proofs are elaborated one after another: each proof thread costs the check 256 MB of stack.
set_option Elab.async false

set_option exponentiation.threshold 500

/-! ### CHECK (R103) -/

/-- What the entry to ACTIVE changes once STATE shows it. -/
abbrev activeParts : Nat :=
  partsMask [.reg .PRT_LINK_STATUS, .reg .VPPB_ENTRY, .reg .SFL_LINK_STAT, .reg .SFL_VC_STAT, .reg .SFL_ENC_STATUS, .reg .ANV_QUENCH_STAT, .reg .MGT_EVT_STAT,
    .reg .CNT_VAL, .reg .MGT_EVT_REC, .field .out, .field .ports, .field .vppbs, .field .sflLanes, .field .sflTx, .field .sfl, .field .ni]

section Check

variable {s : State} {b : Nat}

/-! ACTIVE entered (R103): STATE shows it, and the port reaches DL_UP. -/

theorem State.sflActive_state (s : State) (b : Nat) : (s.sflActive b).get SFL_TRAIN_STATUS.STATE b = 7 := by
  unfold State.sflActive
  extract_lets x mask n up enc _ u1 u2 u3 u4 u5 u6 u7 u8 u9 u10 u11 u12
  have hstate : u2.get SFL_TRAIN_STATUS.STATE b = 7 :=
    (State.get_set_bits _ _ _ _ (by decide) (by decide)).trans (u1.get_set_fits b (by decide) (by decide))
  have h6 : Only activeParts u2 u6 := State.set_only rfl (State.set_only rfl (State.set_only rfl (State.set_only rfl (Only.refl _ u2))))
  have h9 : Only activeParts u2 u9 :=
    State.retagRx_only rfl (State.retag_only rfl (State.showTxCount_only rfl (State.updThresholds_only rfl
      (State.each_only (fun _ _ hu => State.set_only rfl (State.set_only rfl hu)) h6))))
  have h12 : Only activeParts u2 u12 := State.set_only rfl (State.set_only rfl (State.set_only rfl h9))
  have hend : Only activeParts u2 ((u12.reachDlUp (2 * b)).sendKeysync b) := State.sendKeysync_only rfl (State.reachDlUp_only rfl h12)
  rw [hend.get_eq SFL_TRAIN_STATUS.STATE, hstate]

theorem State.sflActive_dlUp (s : State) (b : Nat) : (s.sflActive b).get PRT_LINK_STATUS.DL_UP (2 * b) = 1 := by
  unfold State.sflActive
  dsimp only
  rw [(State.sendKeysync_only (Sub.refl _) (Only.refl _ _)).get_eq_of_fields]
  exact (State.reachDlUp_shows _ _).2.1

/-- A unit taken leaves training and the counts of training alone. -/
theorem State.takeUnit_keeps (s : State) (b : Nat) (blocks : List Block) :
    (s.takeUnit b blocks).1.train b = s.train b ∧ ∀ i, (s.takeUnit b blocks).1.get SFL_TRAIN_STATUS.FALSE_LOCK i = s.get SFL_TRAIN_STATUS.FALSE_LOCK i :=
  have h := State.takeUnit_only (b := b) (blocks := blocks) (Sub.refl _) (Only.refl _ s)
  ⟨h.train_eq b, fun i => h.get_eq SFL_TRAIN_STATUS.FALSE_LOCK i⟩

variable {blocks : List Block} (hin : s.inSfl b 6 = true)
include hin

/-- The sixteenth clean check unit makes the link ACTIVE. -/
theorem checkUnitReceived_activates {unit : List Byte} (hnext : (s.train b).checkNext = 15) (hunit : (s.takeUnit b blocks).2 = (unit, false))
    (hok : unitOk 15 unit = true) (hkind : unitField unit 1 0 = 2) : (checkUnitReceived b blocks s).get SFL_TRAIN_STATUS.STATE b = 7 ∧
      (checkUnitReceived b blocks s).get PRT_LINK_STATUS.DL_UP (2 * b) = 1 := by
  unfold checkUnitReceived
  dsimp only
  rw [if_neg (by simp [hin]), (s.takeUnit_keeps b blocks).1, hunit, hnext, if_pos (by simp [hok, hkind]), if_pos rfl]
  exact ⟨State.sflActive_state _ b, State.sflActive_dlUp _ b⟩

/-- A bad unit is a false lock: counted, and training returns to ADAPT while it is not the eighth in a row. -/
theorem checkUnitReceived_falseLock (hrun : (s.train b).falseRun < 7) (hbad : (s.takeUnit b blocks).2.2 = true) :
    (checkUnitReceived b blocks s).get SFL_TRAIN_STATUS.STATE b = 3 ∧
      (checkUnitReceived b blocks s).get SFL_TRAIN_STATUS.FALSE_LOCK b = satAdd 16 (s.get SFL_TRAIN_STATUS.FALSE_LOCK b) 1 ∧
      ((checkUnitReceived b blocks s).train b).falseRun = (s.train b).falseRun + 1 := by
  obtain ⟨htrain, hcount⟩ := s.takeUnit_keeps b blocks
  unfold checkUnitReceived
  dsimp only
  rw [if_neg (by simp [hin]), htrain, if_neg (by simp [hbad]), if_neg (by omega)]
  refine ⟨State.startAdapt_state _ b, ?_, ?_⟩
  · rw [State.startAdapt_get, State.get_set_bits _ _ _ _ (by decide) (by decide), State.get_setTrain,
      (State.huntAll_only (Sub.refl _) (Only.refl _ _)).get_eq SFL_TRAIN_STATUS.FALSE_LOCK, State.get_count _ _ _ (by decide), hcount]
    rfl
  · rw [State.startAdapt_falseRun, State.train_setTrain]

end Check

/-! ### Training restarted (R109, R131) -/

section Retrain

variable {s : State} {b : Nat}

/-- The units lost with a link (R131) are counted beside its falls. -/
theorem State.sflDrop_downCnt (s : State) (b i : Nat) : (s.sflDrop b).get SFL_LINK_CNT2.DOWN_CNT i = s.get SFL_LINK_CNT2.DOWN_CNT i := by
  unfold State.sflDrop
  extract_lets x u1 u2 u3 u4 u5 u6 _ u7
  have hrest : Only (partsMask [.reg .SFL_LINK_STAT, .reg .ANV_SLAG_CNT2, .field .sfl, .field .fabIn]) u1 (u7.each (List.range 8) fun v t => t.endVc b v) :=
    State.each_only (fun _ _ hu => State.endVc_only rfl hu) (State.setLink_only rfl (State.set_only rfl (State.set_only rfl (State.set_only rfl
      (State.set_only rfl (State.set_only rfl (Only.refl _ u1)))))))
  exact (hrest.get_eq _ i).trans (s.get_set_bits b i _ (by decide) (by decide))

/-- A link declared down: the fall is counted, and training stands at SIGDET. -/
theorem State.sflDeclareDown_shows (s : State) (b : Nat) : (s.sflDeclareDown b).get SFL_TRAIN_STATUS.STATE b = 2 ∧
    (s.sflDeclareDown b).get SFL_LINK_CNT2.DOWN_CNT b = satAdd SFL_LINK_CNT2.DOWN_CNT.width (s.get SFL_LINK_CNT2.DOWN_CNT b) 1 := by
  unfold State.sflDeclareDown
  extract_lets u1 u2 u3 u4
  refine ⟨State.enterSigdet_state _ b, ?_⟩
  rw [(State.enterSigdet_only (Sub.refl _) (Only.refl _ _)).get_eq SFL_LINK_CNT2.DOWN_CNT,
    (State.quench_only (Sub.refl _) (Only.refl _ _)).get_eq SFL_LINK_CNT2.DOWN_CNT,
    (State.portDown_only (Sub.refl _) (Only.refl _ u3)).get_eq SFL_LINK_CNT2.DOWN_CNT, State.sflDrop_downCnt,
    (State.sflLost_only (Sub.refl _) (Only.refl _ u2)).get_eq SFL_LINK_CNT2.DOWN_CNT,
    (State.notice_only (Sub.refl _) (Only.refl _ u1)).get_eq SFL_LINK_CNT2.DOWN_CNT, State.get_count _ _ _ (by decide)]

theorem sflRetrainWrite_of_active (hfab : s.isFabric b = true) (hact : s.get SFL_TRAIN_STATUS.STATE b = 7) : sflRetrainWrite b s = s.sflDeclareDown b := by
  unfold sflRetrainWrite
  rw [if_neg (by simp [hfab, hact]), if_pos hact]

theorem sflRetrainWrite_of_training (hfab : s.isFabric b = true) (hdown : s.get SFL_TRAIN_STATUS.STATE b ≠ 0) (hact : s.get SFL_TRAIN_STATUS.STATE b ≠ 7) :
    sflRetrainWrite b s = (s.setPort (2 * b) PortState.idle).enterSigdet b := by
  unfold sflRetrainWrite
  rw [if_neg (by simp [hfab, hdown]), if_neg hact]

end Retrain

/-- Settles O6: each command's meaning, in the training state it belongs to, does what the rules say. -/
theorem fabricTrains : Obligations.FabricTrains := by
  unfold Obligations.FabricTrains
  refine ⟨?calibration, ?signal, ?noSignal, ?trainBlock, ?badBlock, ?adaptDone, ?bound, ?boundFails, ?noDone, ?deskew, ?skewExcess, ?deskewWaits, ?capBlock,
    ?revMismatch, ?capx, ?capxTimeout, ?backoffEnd, ?checked, ?falseLock, ?retrain, ?retrainActive⟩
  case calibration => exact fun s b failed hb hcal => ⟨_, run_true (decide_eq_true hb), calibrationDone_shows failed hcal⟩
  case signal => exact fun s b pairs hb hin h => ⟨_, run_true (decide_eq_true hb), signalDetect_adapts hin h⟩
  case noSignal => exact fun s b pairs hb h => (run_true (decide_eq_true hb)).trans (congrArg _ (signalDetect_of_few h))
  case trainBlock =>
    intro s b k x v hb hk hin hlock hx htype hpreset
    exact ⟨_, run_true (by simp [hb, hk]), trainBlockReceived_answers hin hlock hx htype hpreset⟩
  case badBlock =>
    intro s b k x hb hk hin hlock hinvalid
    obtain ⟨htrain, hout⟩ := s.takeBlock_keeps (9 * b + k) x
    obtain ⟨hbad, hcount⟩ := State.takeBlock_of_invalid hinvalid
    refine ⟨_, run_true (by simp [hb, hk]), ?_⟩
    rw [trainBlockReceived_of_bad hin hlock hbad]
    exact ⟨hout, htrain _, hcount⟩
  case adaptDone => exact fun s b hb hin hbound hseen => ⟨_, run_true (decide_eq_true hb), adaptDone_enters hin hbound hseen⟩
  case bound => exact fun s b hb hin h => ⟨_, run_true (decide_eq_true hb), adaptBoundExceeded_sends hin h⟩
  case boundFails =>
    intro s b hb hin h
    refine ⟨_, run_true (decide_eq_true hb), ?_⟩
    obtain ⟨hfail, hcount, hwait⟩ := s.sflFail_shows b (code := 1) (by decide)
    rw [adaptBoundExceeded_fails hin h]
    exact ⟨hfail, hwait, hcount⟩
  case noDone =>
    intro s b hb hin hbound hseen
    refine ⟨_, run_true (decide_eq_true hb), ?_⟩
    obtain ⟨hfail, -, hwait⟩ := s.sflFail_shows b (code := 1) (by decide)
    rw [adaptPartnerDoneTimeout_fails hin hbound hseen]
    exact ⟨hfail, hwait⟩
  case deskew => exact fun s b hb hin hlocks hseq => ⟨_, run_true (decide_eq_true hb), deskewRelease_goes_on [] hin hlocks hseq rfl⟩
  case skewExcess =>
    intro s b skews hb hin hlocks hseq _ _ hwide hfew
    exact ⟨_, run_true (decide_eq_true hb), deskewRelease_skewExcess skews hin hlocks hseq hwide hfew⟩
  case deskewWaits => exact fun s b skews c hb hc hlock => (run_true (decide_eq_true hb)).trans (congrArg _ (deskewRelease_waits skews hc hlock))
  case capBlock => exact fun s b bits hb hin hnew => ⟨_, run_true (decide_eq_true hb), capBlockReceived_restarts hin hnew⟩
  case revMismatch =>
    intro s b n hb hin hacked hsame hsent hrev
    exact ⟨_, run_true (decide_eq_true hb), capxComplete_revMismatch hin hacked hsame hsent hrev⟩
  case capx =>
    intro s b n hb hin hacked hsame hsent hrev hself hsubst hrate hlanes
    exact ⟨_, run_true (decide_eq_true hb), capxComplete_checks hin hacked hsame hsent hrev hself hsubst hrate hlanes⟩
  case capxTimeout =>
    intro s b hb hin
    refine ⟨_, run_true (decide_eq_true hb), ?_⟩
    obtain ⟨hfail, -, hwait⟩ := s.sflFail_shows b (code := 7) (by decide)
    rw [capxTimeout_fails hin]
    exact ⟨hfail, hwait⟩
  case backoffEnd =>
    intro s b hb hwait
    refine ⟨_, run_true (decide_eq_true hb), ?_⟩
    rw [trainingFailBackoffEnd_eq hwait]
    exact ⟨s.enterSigdet_state b, s.enterSigdet_backoff b⟩
  case checked =>
    intro s b blocks unit hb hin hnext hunit hok hkind
    exact ⟨_, run_true (decide_eq_true hb), checkUnitReceived_activates hin hnext hunit hok hkind⟩
  case falseLock => exact fun s b blocks hb hin hrun hbad => ⟨_, run_true (decide_eq_true hb), checkUnitReceived_falseLock hin hrun hbad⟩
  case retrain =>
    intro s b hb hfab hdown hact
    refine ⟨_, run_true (decide_eq_true hb), ?_⟩
    rw [sflRetrainWrite_of_training hfab hdown hact]
    exact State.enterSigdet_state _ b
  case retrainActive =>
    intro s b hb hfab hact
    refine ⟨_, run_true (decide_eq_true hb), ?_⟩
    rw [sflRetrainWrite_of_active hfab hact]
    exact s.sflDeclareDown_shows b

end Sys2Proof.Machine

namespace Sys2Proof.Machine

-- Proofs are elaborated one after another: each proof thread costs the check 256 MB of stack.
set_option Elab.async false

/-- Settles O56: completion and frame hold of every command, those of the CXL switch and its fabric manager among them. -/
theorem switchCommandsFramed : Obligations.SwitchCommandsFramed := by
  unfold Obligations.SwitchCommandsFramed
  and_intros <;> intros <;> exact exec_framed _

end Sys2Proof.Machine

namespace Sys2Proof.Machine

-- Proofs are elaborated one after another: each proof thread costs the check 256 MB of stack.
set_option Elab.async false

set_option exponentiation.threshold 500

/-! ### The FM API over a CCI (R82 to R84, R342, R353) -/

section Cci

variable {s : State} {p len n op : Nat} {f : State → State}

/-- A command that changes state runs for the owner's session. -/
theorem State.fm_of_owner {readOnly : Bool} (h : s.CciOwner p len n) : s.fm (.cci p len) op readOnly f = f s := by
  obtain ⟨⟨-, hlen, hreach, hport, hses⟩, howner⟩ := h
  simp [State.fm, hreach, hport, Nat.not_lt.2 hlen, hses, howner]

/-- A command that only reads runs for any open session. -/
theorem State.fm_of_open (h : s.CciOpen p len n) : s.fm (.cci p len) op true f = f s := by
  obtain ⟨-, hlen, hreach, hport, hses⟩ := h
  simp [State.fm, hreach, hport, Nat.not_lt.2 hlen, hses]

end Cci

/-! ### What every step of a series keeps, and what one of them brings about -/

/-- What one step of a series brings about and every other keeps holds after the series. -/
theorem State.each_reaches {P Q : State → Prop} {f : Nat → State → State} {l : List Nat} {v : Nat} (hv : v ∈ l) (hstart : ∀ u, Q u → P (f v u))
    (hQ : ∀ i u, Q u → Q (f i u)) (hP : ∀ i u, P u → P (f i u)) {s : State} (h : Q s) : P (s.each l f) := by
  induction l generalizing s with
  | nil => cases hv
  | cons i l ih =>
    rcases List.mem_cons.1 hv with rfl | hv
    · exact List.foldlRecOn l _ (hstart s h) fun u hu j _ => hP j u hu
    · exact ih hv (hQ i s h)

/-! ### Entries of remap level 1 written (R16, R210) -/

/-- Reloading the copies of an entry leaves every register alone, so an entry written holds what `f` wrote, but for its write tag. -/
theorem State.get_writeEntry (s : State) (i j : Nat) (f : State → State) {F : Fld} (h : F.reg ≠ L1_W1.WTAG.reg ∨ L1_W1.WTAG.hi < F.lo) :
    (s.writeEntry .l1 i f).get F j = (f s).get F j := by
  unfold State.writeEntry
  extract_lets u v ws
  have hcopies : Only 0x30000000000000000000000000000000000000000000000000000000000000000000000000000 v
      (v.each ((holders .l1 i).filter fun r => v.live r) fun r t => t.loadEntry r ws) :=
    State.each_only (fun _ _ ht => State.loadEntry_only rfl ht) (Only.refl _ v)
  rw [hcopies.get_eq_of_fields]
  refine (State.get_set_other u i j u.wtag (by decide) (by decide) ?_).trans rfl
  exact h.imp_right fun hbits => .inr (.inr hbits)

/-- What a write of an entry changes, besides what `f` does (R16, R210). -/
abbrev l1EntryParts : Nat := partsMask [.reg .ROUTE_ENTRY, .reg .L1_W0, .reg .L1_W1, .reg .WIN_W2, .field .rep, .field .repEcc, .field .wtag]

theorem State.writeEntry_l1_only (s : State) (i : Nat) {f : State → State} (hf : ∀ u, Only l1EntryParts s u → Only l1EntryParts s (f u)) :
    Only l1EntryParts s (s.writeEntry .l1 i f) :=
  State.writeEntry_only rfl hf (Only.refl _ s)

/-! ### Dynamic capacity (R74 to R78) -/

/-- The zero-fills due are in no register. -/
theorem State.get_of_fills (s : State) (l : List Nat) (F : Fld) (j : Nat) : State.get { s with fillDue := l } F j = s.get F j := (rfl)

/-- An extent put into a DC region, or into none. -/
def State.putInRegion (s : State) (i : Nat) (k : Option Nat) : State := { s with dcRegion := Tbl.wr (fun _ => none) s.dcRegion i k }

@[simp] theorem State.get_putInRegion (s : State) (i : Nat) (k : Option Nat) (F : Fld) (j : Nat) : (s.putInRegion i k).get F j = s.get F j := (rfl)
@[simp] theorem State.dcAdds_putInRegion (s : State) (i : Nat) (k : Option Nat) : (s.putInRegion i k).dcAdds = s.dcAdds := (rfl)
@[simp] theorem State.dcRegion_putInRegion (s : State) (i : Nat) (k : Option Nat) : Tbl.rd (fun _ => none) (s.putInRegion i k).dcRegion i = k := Tbl.rd_wr_self ..

/-- What makes extent `i` its host's where add `a` offers it (R76): HELD and the VCS in its entry, and its place in the region. -/
def State.holdExtent (a : DcAdd) (i : Nat) (s : State) : State :=
  (s.writeEntry .l1 i fun u => (u.set L1_W0.HELD i 1).set L1_W1.VCS i a.vcs).putInRegion i (some (8 * a.vcs + a.region))

section HoldExtent

variable (s : State) (a : DcAdd) (i j : Nat)

theorem State.get_holdExtent {F : Fld} (h : F.reg ≠ L1_W1.WTAG.reg ∨ L1_W1.WTAG.hi < F.lo) :
    (s.holdExtent a i).get F j = ((s.set L1_W0.HELD i 1).set L1_W1.VCS i a.vcs).get F j :=
  (State.get_putInRegion ..).trans (s.get_writeEntry i j _ h)

theorem State.holdExtent_held : (s.holdExtent a i).get L1_W0.HELD j = if j = i then 1 else s.get L1_W0.HELD j := by
  rw [s.get_holdExtent a i j (.inl (by decide)), State.get_set_kind _ _ _ _ (by decide)]
  split_ifs with h
  · exact h ▸ s.get_set_fits j (by decide) (by decide)
  · exact s.get_set_index 1 h

theorem State.holdExtent_vcs : (s.holdExtent a i).get L1_W1.VCS j = if j = i then a.vcs % 64 else s.get L1_W1.VCS j := by
  rw [s.get_holdExtent a i j (.inr (by decide))]
  split_ifs with h
  · exact h ▸ State.get_set_self _ j a.vcs (by decide) (by decide)
  · rw [State.get_set_index _ _ h, State.get_set_kind _ _ _ _ (by decide)]

theorem State.holdExtent_dcAdds : (s.holdExtent a i).dcAdds = s.dcAdds :=
  (State.dcAdds_putInRegion ..).trans ((s.writeEntry_l1_only i fun _ hu => State.set_only rfl (State.set_only rfl hu)).2 (.field .dcAdds) (by decide))

end HoldExtent

/-- The release of no extents changes nothing. -/
theorem State.startRelease_nil (s : State) : s.startRelease [] = s := by
  unfold State.startRelease State.each
  simp

/-- An add that no release has named ends (R76): its accepted extents are held, and its operation has ended. -/
theorem State.endAdd_eq (s : State) {a : DcAdd} (l : List Nat) (rc : FmRc) (ext : FmExt) (hlater : a.later = []) : s.endAdd a l rc ext =
    State.fmEnded { s.each (a.extents.filter fun i => l.contains i) (State.holdExtent a) with dcAdds := s.dcAdds.erase a } a.who 0x5604 rc ext := by
  have hadds := s.each_keeps State.dcAdds (a.extents.filter fun i => l.contains i) fun i u => u.holdExtent_dcAdds a i
  rw [← hadds]
  unfold State.endAdd
  rw [hlater]
  exact State.startRelease_nil _

/-- A requester sees how its last background operation ended. -/
theorem State.last_fmEnded (s : State) (who op : Nat) (rc : FmRc) (ext : FmExt) : Tbl.rd (fun _ => none) (s.fmEnded who op rc ext).fmReq.last who = some (op, rc, ext) := by
  simp [State.fmEnded]

/-- What an add's end shows: it waits no longer, every extent its host accepts is held by its VCS, and its requester sees how it ended. -/
theorem State.endAdd_shows (s : State) {a : DcAdd} (l : List Nat) (rc : FmRc) (ext : FmExt) (hlater : a.later = []) :
    (s.endAdd a l rc ext).dcAdds = s.dcAdds.erase a ∧
      (∀ i ∈ a.extents, l.contains i = true → (s.endAdd a l rc ext).get L1_W0.HELD i = 1 ∧ (s.endAdd a l rc ext).get L1_W1.VCS i = a.vcs % 64) ∧
      Tbl.rd (fun _ => none) (s.endAdd a l rc ext).fmReq.last a.who = some (0x5604, rc, ext) := by
  rw [s.endAdd_eq l rc ext hlater]
  refine ⟨rfl, fun i hi hl => ?_, State.last_fmEnded ..⟩
  have hgot : i ∈ a.extents.filter fun i => l.contains i := List.mem_filter.2 ⟨hi, hl⟩
  refine State.each_reaches (P := fun u => u.get L1_W0.HELD i = 1 ∧ u.get L1_W1.VCS i = a.vcs % 64) (Q := fun _ => True) hgot (fun u _ => ?_) (fun _ _ _ => trivial)
    (fun j u hu => ?_) trivial
  · rw [u.holdExtent_held, u.holdExtent_vcs, if_pos rfl, if_pos rfl]
    exact ⟨rfl, rfl⟩
  · rw [u.holdExtent_held, u.holdExtent_vcs, hu.1, hu.2, ite_self, ite_self]
    exact ⟨rfl, rfl⟩

/-- The end of a migration leaves the marks of a release alone. -/
theorem State.get_endMig_releasing (s : State) (k status i : Nat) : (s.endMig k status).get L1_W1.RELEASING i = s.get L1_W1.RELEASING i :=
  (State.endMig_only (Sub.refl _) (Only.refl _ s)).get_eq L1_W1.RELEASING i

/-- Each extent whose release starts is marked RELEASING: the entries that follow and the migrations that end leave the mark alone. -/
theorem State.startRelease_releasing (s : State) {l : List Nat} {i : Nat} (hi : i ∈ l) : (s.startRelease l).get L1_W1.RELEASING i = 1 := by
  unfold State.startRelease
  extract_lets u fill v
  have hmarked : u.get L1_W1.RELEASING i = 1 := by
    refine State.each_reaches (P := fun u => u.get L1_W1.RELEASING i = 1) (Q := fun _ => True) hi (fun t _ => ?_) (fun _ _ _ => trivial) (fun j t ht => ?_) trivial
    · rw [State.get_writeEntry _ _ _ _ (.inr (by decide))]
      exact t.get_set_fits i (by decide) (by decide)
    · rw [State.get_writeEntry _ _ _ _ (.inr (by decide))]
      by_cases hj : i = j
      · exact hj ▸ t.get_set_fits i (by decide) (by decide)
      · exact (t.get_set_index 1 hj).trans ht
  refine (State.each_keeps (fun t => t.get L1_W1.RELEASING i) _ fun k t => ?_).trans ((u.get_of_fills _ _ i).trans hmarked)
  split_ifs
  · exact t.get_endMig_releasing k _ i
  · rfl

theorem State.startRelease_dcReleases (s : State) (l : List Nat) : (s.startRelease l).dcReleases = s.dcReleases :=
  (State.startRelease_only (Sub.refl _) (Only.refl _ s)).2 (.field .dcReleases) (by decide)

section DcCommands

variable {s : State} {p len n v k x : Nat} {l : List Nat}

theorem dcConfig_of_pool (h : s.CciOpen p len n) (hpool : s.hasPool v = true) :
    dcConfig p len v s = s.emit (Out.fm (.cci p len) 0x5601 .success .none ((List.range 8).flatMap fun k =>
      [bit (Tbl.rd (fun _ => false) s.dcSanitize (8 * v + k)), (s.dcExtents v k).length])) := by
  unfold dcConfig fmDcConfig
  rw [State.fm_of_open h, hpool]
  rfl

theorem extentLists_of_pool (h : s.CciOpen p len n) (hpool : s.hasPool v = true) :
    extentLists p len v s = s.emit (Out.fm (.cci p len) 0x5603 .success .none ((s.fitting (.cci p len) 16 40 ((List.range 8).flatMap fun k =>
      (s.dcExtents v k).map fun i => (k, i))).flatMap fun x => [x.1, x.2, s.get L1_W1.RELEASING x.2])) := by
  unfold extentLists fmExtentLists
  rw [State.fm_of_open h, hpool]
  rfl

theorem dcConfig_of_no_pool (h : s.CciOpen p len n) (hpool : s.hasPool v = false) : dcConfig p len v s = s.emit (Out.fm (.cci p len) 0x5601 .invalidInput .none []) := by
  unfold dcConfig fmDcConfig
  rw [State.fm_of_open h, hpool]
  rfl

theorem extentLists_of_no_pool (h : s.CciOpen p len n) (hpool : s.hasPool v = false) :
    extentLists p len v s = s.emit (Out.fm (.cci p len) 0x5603 .invalidInput .none []) := by
  unfold extentLists fmExtentLists
  rw [State.fm_of_open h, hpool]
  rfl

theorem setDcConfig_of_pool (sanitize : Bool) (h : s.CciOwner p len n) (hpool : s.hasPool v = true) (hk : k < 8) : setDcConfig p len v k sanitize s =
    State.emit { s with dcSanitize := Tbl.wr (fun _ => false) s.dcSanitize (8 * v + k) sanitize } (Out.fm (.cci p len) 0x5602 .success .none []) := by
  unfold setDcConfig fmSetDcConfig
  rw [State.fm_of_owner h, hpool, if_neg (by simp [hk])]
  rfl

/-- An add that the free pool covers is offered to the host, whose log names the extents (R76). -/
theorem dcAdd_of_pool (h : s.CciOwner p len n) (hpool : s.hasPool v = true) (hk : k < 8) (hx : 0 < x) (hfree : x ≤ (s.freePool v).length) : dcAdd p len v k x s =
    (State.logCxl { s with dcAdds := s.dcAdds ++ [⟨v, k, (s.freePool v).take x, p, []⟩] } false v ((s.freePool v).take x)).emit
      (Out.fm (.cci p len) 0x5604 .backgroundStarted .none []) := by
  unfold dcAdd fmDcAdd
  dsimp only
  rw [State.fm_of_owner h, hpool, if_neg (by simp [hk, hx.ne']), if_neg (Nat.not_lt.2 hfree)]
  rfl

theorem dcAdd_of_short_pool (h : s.CciOwner p len n) (hpool : s.hasPool v = true) (hk : k < 8) (hx : 0 < x) (hfree : (s.freePool v).length < x) :
    dcAdd p len v k x s = s.emit (Out.fm (.cci p len) 0x5604 .resourcesExhausted .poolExhausted []) := by
  unfold dcAdd fmDcAdd
  dsimp only
  rw [State.fm_of_owner h, hpool, if_neg (by simp [hk, hx.ne']), if_pos hfree]
  rfl

/-- A release of extents that the region holds starts the release of all of them; what it tells adds that wait does not matter here. -/
theorem dcRelease_of_held (h : s.CciOwner p len n) (hpool : s.hasPool v = true) (hk : k < 8) (hl : l ≠ []) (hnodup : l.Nodup)
    (hheld : ∀ i ∈ l, Tbl.rd (fun _ => none) s.dcRegion i = some (8 * v + k) ∧ s.flag L1_W1.RELEASING i = false) :
    ∃ adds, dcRelease p len v k l s = State.emit
      { State.startRelease { s with dcReleases := s.dcReleases ++ [⟨p, v, l⟩] } l with dcAdds := adds } (Out.fm (.cci p len) 0x5605 .backgroundStarted .none []) := by
  have hall : ∀ i ∈ l, (decide (Tbl.rd (fun _ => none) s.dcRegion i = some (8 * v + k)) && !s.flag L1_W1.RELEASING i) = true := by
    intro i hi
    obtain ⟨hregion, hrel⟩ := hheld i hi
    simp [hregion, hrel]
  unfold dcRelease fmDcRelease
  dsimp only
  rw [State.fm_of_owner h, hpool, if_neg, List.filter_eq_self.2 hall]
  · exact ⟨_, rfl⟩
  · have hoffered : ∀ g : Nat → Bool, (l.all fun i => (decide (Tbl.rd (fun _ => none) s.dcRegion i = some (8 * v + k)) && !s.flag L1_W1.RELEASING i) || g i) = true :=
      fun g => List.all_eq_true.2 fun i hi => by rw [hall i hi, Bool.true_or]
    rw [hoffered]
    simp [hk, hl, hnodup]

theorem dcRelease_of_bad (h : s.CciOwner p len n) (hbad : s.hasPool v = false ∨ 8 ≤ k ∨ l = []) :
    dcRelease p len v k l s = s.emit (Out.fm (.cci p len) 0x5605 .invalidInput .none []) := by
  unfold dcRelease fmDcRelease
  dsimp only
  rw [State.fm_of_owner h, if_pos]
  · rfl
  · rcases hbad with hpool | hk | rfl
    · exact .inl (by simp [hpool])
    · exact .inr (.inl hk)
    · exact .inr (.inr (.inl rfl))

theorem dcAddResponse_of_none (h : s.dcAddOf v k = none) : dcAddResponse v k l s = s := by
  unfold dcAddResponse
  rw [h]

theorem dcAddTimeout_of_none (h : s.dcAddOf v k = none) : dcAddTimeout v k s = s := by
  unfold dcAddTimeout
  rw [h]

theorem dcAddResponse_of_some {a : DcAdd} (h : s.dcAddOf v k = some a) : dcAddResponse v k l s = s.endAdd a l .success .none := by
  unfold dcAddResponse
  rw [h]

theorem dcAddTimeout_of_some {a : DcAdd} (h : s.dcAddOf v k = some a) : dcAddTimeout v k s = s.endAdd a [] .aborted .hostNoAck := by
  unfold dcAddTimeout
  rw [h]

end DcCommands

/-- An extent freed reads what `f` wrote of its entry with FRACT and L2PTR at 0. -/
theorem State.get_freeExtent (s : State) (i j : Nat) (f : State → State) {F : Fld} (hF : F.reg ≠ .RMP_STAT) (htag : F.reg ≠ L1_W1.WTAG.reg ∨ L1_W1.WTAG.hi < F.lo) :
    (s.freeExtent i f).get F j = (((f s).set L1_W0.FRACT i 0).set L1_W0.L2PTR i 0).get F j := by
  rw [← s.get_writeEntry i j (fun t => ((f t).set L1_W0.FRACT i 0).set L1_W0.L2PTR i 0) htag]
  unfold State.freeExtent
  extract_lets fract u
  split_ifs
  · exact (State.get_set_kind _ _ _ _ hF).trans (State.get_set_kind _ _ _ _ hF)
  · rfl

/-- A release's end leaves the extent free: not held, not releasing, not fractured and in no DC region. -/
theorem extentReleaseComplete_frees {s : State} {i : Nat} (hrel : s.flag L1_W1.RELEASING i = true) (hmig : s.migrating i = false) (hfill : s.fillDue.contains i = false) :
    (extentReleaseComplete i s).get L1_W0.HELD i = 0 ∧ (extentReleaseComplete i s).get L1_W1.RELEASING i = 0 ∧
      (extentReleaseComplete i s).get L1_W0.FRACT i = 0 ∧ Tbl.rd (fun _ => none) (extentReleaseComplete i s).dcRegion i = none := by
  unfold extentReleaseComplete
  rw [hrel, hmig, hfill, if_neg (by simp)]
  extract_lets filled u w
  have hgone := State.extentGone_only (i := i) (Sub.refl _) (Only.refl _ (w.putInRegion i none))
  have hw : ∀ {F : Fld}, F.reg ≠ .RMP_STAT → (F.reg ≠ L1_W1.WTAG.reg ∨ L1_W1.WTAG.hi < F.lo) →
      w.get F i = (((((u.set L1_W0.HELD i 0).set L1_W1.RELEASING i 0).set L1_W1.VCS i 0).set L1_W0.FRACT i 0).set L1_W0.L2PTR i 0).get F i :=
    fun hF htag => u.get_freeExtent i i _ hF htag
  refine ⟨(hgone.get_eq_of_fields _ i).trans ((hw (by decide) (.inl (by decide))).trans ?_),
    (hgone.get_eq_of_fields _ i).trans ((hw (by decide) (.inr (by decide))).trans ?_),
    (hgone.get_eq_of_fields _ i).trans ((hw (by decide) (.inl (by decide))).trans ?_), ?_⟩
  · simp (disch := decide) only [State.get_set_bits, State.get_set_fits]
  · simp (disch := decide) only [State.get_set_bits, State.get_set_fits]
  · simp (disch := decide) only [State.get_set_bits, State.get_set_fits]
  · exact (congrArg (Tbl.rd (fun _ => none) · i) (hgone.2 (.field .dcRegion) (by decide))).trans (w.dcRegion_putInRegion i none)

theorem extentReleaseComplete_waits {s : State} {i : Nat} (h : s.flag L1_W1.RELEASING i = false ∨ s.migrating i = true ∨ s.fillDue.contains i = true) :
    extentReleaseComplete i s = s := by
  unfold extentReleaseComplete
  rw [if_pos]
  rcases h with h | h | h
  · rw [h]; rfl
  · rw [h, Bool.or_true, Bool.true_or]
  · rw [h, Bool.or_true]

end Sys2Proof.Machine

namespace Sys2Proof.Machine

-- Proofs are elaborated one after another: each proof thread costs the check 256 MB of stack.
set_option Elab.async false

set_option exponentiation.threshold 500

/-! ### HDM decoders and BI enables (R75, R231) -/

section Decoders

variable {s : State} {v k : Nat} {d : HdmDecoder}

/-! What a commit that waits for a CAID leaves as it was. -/

@[simp] theorem State.get_waitCommit (s : State) (v k : Nat) (on : Bool) (F : Fld) (i : Nat) : (s.waitCommit v k on).get F i = s.get F i := (rfl)
@[simp] theorem State.flag_waitCommit (s : State) (v k : Nat) (on : Bool) (F : Fld) (i : Nat) : (s.waitCommit v k on).flag F i = s.flag F i := (rfl)
@[simp] theorem State.biDecoder_waitCommit (s : State) (v k : Nat) (on : Bool) : (s.waitCommit v k on).biDecoder = s.biDecoder := (rfl)
@[simp] theorem State.agentAdmitted_waitCommit (s : State) (v k w : Nat) (on : Bool) : (s.waitCommit v k on).agentAdmitted w = s.agentAdmitted w := (rfl)
@[simp] theorem State.decoderSupported_waitCommit (s : State) (v k w : Nat) (on : Bool) (d : HdmDecoder) :
    (s.waitCommit v k on).decoderSupported w d = s.decoderSupported w d := (rfl)

/-- An uncommit, and a commit of what the VCS's decoders support, are in force at once. -/
theorem hdmDecoderCommit_in_force (hk : k < 16) (h : d.committed = false ∨ 8 ≤ k ∧ d.db = false ∨ k < 8 ∧ s.decoderSupported v d = true) :
    hdmDecoderCommit v k d s = (s.waitCommit v k false).setDecoder v k { d with error := false } := by
  rcases h with hc | ⟨hpool, hdb⟩ | ⟨hup, hsup⟩
  · simp [hdmDecoderCommit, Nat.mod_eq_of_lt hk, hc]
  · simp [hdmDecoderCommit, Nat.mod_eq_of_lt hk, Nat.not_lt.2 hpool, hdb]
  · simp [hdmDecoderCommit, Nat.mod_eq_of_lt hk, hup, hsup]

theorem hdmDecoderCommit_unsupported (hk : k < 8) (hc : d.committed = true) (hsup : s.decoderSupported v d = false) :
    hdmDecoderCommit v k d s = (s.waitCommit v k false).setDecoder v k { d with committed := false, error := true } := by
  simp [hdmDecoderCommit, Nat.mod_eq_of_lt (hk.trans (by decide : 8 < 16)), hc, hk, hsup]

/-- An HDM-DB decoder of the pool device needs CXL 256-byte mode. -/
theorem hdmDecoderCommit_other_mode (hpool : 8 ≤ k) (hk : k < 16) (hc : d.committed = true) (hdb : d.db = true)
    (hmode : s.get PRT_CXL_STATUS.PROTO (s.get VCS_ENTRY.USP_PORT v) ≠ 2) :
    hdmDecoderCommit v k d s = (s.waitCommit v k false).setDecoder v k { d with committed := false, error := true } := by
  simp [hdmDecoderCommit, Nat.mod_eq_of_lt hk, hc, Nat.not_lt.2 hpool, hdb, hmode]

/-- An HDM-DB decoder of the pool device is in force with back-invalidate in CXL 256-byte mode, both BI enables and an admitted agent. -/
theorem hdmDecoderCommit_of_agent (hpool : 8 ≤ k) (hk : k < 16) (hc : d.committed = true) (hdb : d.db = true)
    (hmode : s.get PRT_CXL_STATUS.PROTO (s.get VCS_ENTRY.USP_PORT v) = 2) (hbi : s.flag PRT_CXL_STATUS.BI (s.get VCS_ENTRY.USP_PORT v) = true)
    (hroute : s.flag VCS_ENTRY.BI_EN v = true) (hdec : Tbl.rd (fun _ => false) s.biDecoder v = true) (hagent : s.agentAdmitted v = true) :
    hdmDecoderCommit v k d s = (s.waitCommit v k false).setDecoder v k { d with error := false } := by
  simp [hdmDecoderCommit, Nat.mod_eq_of_lt hk, hc, Nat.not_lt.2 hpool, hdb, hmode, hbi, hroute, hdec, hagent]

end Decoders

/-- The VCSs that wait for a CAID are in no register. -/
theorem State.get_of_caidWait (s : State) (l : List Nat) (F : Fld) (i : Nat) : State.get { s with caidWait := l } F i = s.get F i := (rfl)

/-- An agent admitted has its CAID in its VCS's entry; the BI enable there stays. -/
theorem State.get_admitAgent_biEn (s : State) (c feid v : Nat) : (s.admitAgent c feid).get VCS_ENTRY.BI_EN v = s.get VCS_ENTRY.BI_EN v := by
  unfold State.admitAgent
  extract_lets here u1 u2 u3 u4 u5 u6
  have hagent : Only (partsMask [.reg .HRT_AGENT, .reg .HRT_ADMIT]) s u6 :=
    State.set_only rfl (State.set_only rfl (State.set_only rfl (State.set_only rfl (State.set_only rfl (State.set_only rfl (Only.refl _ s))))))
  have henable : u6.get VCS_ENTRY.BI_EN v = s.get VCS_ENTRY.BI_EN v := hagent.get_eq VCS_ENTRY.BI_EN v
  clear_value u6
  split
  · exact (State.get_set_bits _ _ _ _ (by decide) (by decide)).trans ((u6.get_of_caidWait ..).trans henable)
  · exact henable

/-- A request for a CAID leaves the BI enable alone, whatever comes of it. -/
theorem State.get_requestCaid_biEn (s : State) (w v : Nat) : (s.requestCaid w).get VCS_ENTRY.BI_EN v = s.get VCS_ENTRY.BI_EN v := by
  unfold State.requestCaid
  split
  · split
    · rw [(State.carryAgent_only (Sub.refl _) (Only.refl _ _)).get_eq_of_fields, State.get_admitAgent_biEn]
    · exact (State.admitRefused_only (Sub.refl _) (Only.refl _ s)).get_eq _ v
  · split <;> rfl

/-- The BI enable that routes reads as written. -/
theorem biEnableWrite_route (v : Nat) (on : Bool) (s : State) : (biEnableWrite v true on s).get VCS_ENTRY.BI_EN v = bit on := by
  unfold biEnableWrite
  extract_lets was c u1 u2 u3 both busy
  have hwritten : u3.get VCS_ENTRY.BI_EN v = bit on := u2.get_set_bit v on (by decide)
  clear_value u3
  split_ifs
  · rw [State.get_requestCaid_biEn, hwritten]
  · exact hwritten

/-- The BI enable of a VCS's decoder reads as written. -/
theorem biEnableWrite_decoder (v : Nat) (on : Bool) (s : State) : Tbl.rd (fun _ => false) (biEnableWrite v false on s).biDecoder v = on := by
  unfold biEnableWrite
  extract_lets was c u1 u2 u3 both busy
  have hwritten : Tbl.rd (fun _ => false) u3.biDecoder v = on := Tbl.rd_wr_self ..
  clear_value u3
  split_ifs
  · rw [(State.requestCaid_only (Sub.refl _) (Only.refl _ u3)).2 (.field .biDecoder) (by decide), hwritten]
  · exact hwritten

/-! ### Surprise removal (R79) -/

/-- The host sees that vPPB `v` has lost its target: absent, with Presence Detect Changed. -/
def State.RemovedAt (v : Nat) (s : State) : Prop := s.get VPPB_ENTRY.PRESENT v = 0 ∧ (s.vppb v).pdc = true

@[simp] theorem State.vppb_setVppb (s : State) (v : Nat) (x : Vppb) : (s.setVppb v x).vppb v = x := Tbl.rd_wr_self ..

theorem State.vppb_setVppb_other (s : State) {v w : Nat} (x : Vppb) (h : v ≠ w) : (s.setVppb w x).vppb v = s.vppb v := Tbl.rd_wr_other _ _ _ h

@[simp] theorem State.vppb_set (s : State) (F : Fld) (i x v : Nat) : (s.set F i x).vppb v = s.vppb v := (rfl)
@[simp] theorem State.get_setVppb (s : State) (v : Nat) (x : Vppb) (F : Fld) (i : Nat) : (s.setVppb v x).get F i = s.get F i := (rfl)

theorem Only.removedAt {G : Nat} {s t : State} {v : Nat} (h : Only G s t) (hv : s.RemovedAt v) (hreg : G.testBit (RegKind.ctorIdx .VPPB_ENTRY) = false := by decide)
    (hslot : G.testBit (256 + StateField.ctorIdx .vppbs) = false := by decide) : t.RemovedAt v := by
  have hvppb : t.vppb v = s.vppb v := congrArg (Tbl.rd (fun _ => Vppb.idle) · v) (h.2 (.field .vppbs) hslot)
  exact ⟨(h.get_eq VPPB_ENTRY.PRESENT v hreg).trans hv.1, hvppb ▸ hv.2⟩

section Removal

variable {s : State} {v : Nat} (w p : Nat)

theorem State.surpriseRemoved_removes (s : State) (v : Nat) : (s.surpriseRemoved v).RemovedAt v := by
  unfold State.surpriseRemoved
  refine ⟨State.get_set_fits _ v (by decide) (by decide), ?_⟩
  rw [State.vppb_set, State.vppb_setVppb]

theorem State.surpriseRemoved_keeps (h : s.RemovedAt v) : (s.surpriseRemoved w).RemovedAt v := by
  by_cases hw : v = w
  · exact hw ▸ s.surpriseRemoved_removes v
  · unfold State.surpriseRemoved
    refine ⟨(State.get_set_index _ _ hw).trans h.1, ?_⟩
    rw [State.vppb_set, State.vppb_setVppb_other _ _ hw]
    exact h.2

theorem State.op_surpriseRemoved (s : State) (v w : Nat) : ((s.surpriseRemoved w).vppb v).op = (s.vppb v).op := by
  unfold State.surpriseRemoved
  rw [State.vppb_set]
  by_cases hw : v = w
  · rw [hw, State.vppb_setVppb]
  · rw [State.vppb_setVppb_other _ _ hw]

/-- A target's loss removes the vPPB's device, or waits for the Unbind that the vPPB runs. -/
theorem State.targetLostAt_cases (s : State) (v : Nat) : s.targetLostAt v = s ∨ s.targetLostAt v = s.surpriseRemoved v := by
  unfold State.targetLostAt
  split
  · split_ifs
    · exact .inl rfl
    · exact .inr rfl
  · exact .inr rfl

theorem State.targetLostAt_of_idle (h : (s.vppb v).op = none) : s.targetLostAt v = s.surpriseRemoved v := by
  unfold State.targetLostAt
  rw [h]

theorem State.targetLostAt_keeps (h : s.RemovedAt v) : (s.targetLostAt w).RemovedAt v := by
  rcases s.targetLostAt_cases w with hw | hw <;> rw [hw]
  · exact h
  · exact State.surpriseRemoved_keeps w h

theorem State.op_targetLostAt (s : State) (v w : Nat) : ((s.targetLostAt w).vppb v).op = (s.vppb v).op := by
  rcases s.targetLostAt_cases w with hw | hw <;> rw [hw]
  exact s.op_surpriseRemoved v w

theorem State.setOp_keeps (o : Option BindOp) (h : s.RemovedAt v) : (s.setOp w o).RemovedAt v := by
  unfold State.setOp
  refine ⟨(State.get_set_bits _ _ _ _ (by decide) (by decide)).trans h.1, ?_⟩
  rw [State.vppb_set]
  by_cases hw : v = w
  · subst hw
    rw [State.vppb_setVppb]
    exact h.2
  · rw [State.vppb_setVppb_other _ _ hw]
    exact h.2

/-- A downstream port's loss is a surprise removal at every vPPB bound to it that runs no bind or unbind. -/
theorem State.lostAtHosts_removes (hrole : s.role p = 1) (hv : v ∈ s.boundTo p) (hop : (s.vppb v).op = none) : (s.lostAtHosts p).RemovedAt v := by
  unfold State.lostAtHosts
  rw [if_pos hrole]
  extract_lets u1 u2
  have hlost : u1.RemovedAt v :=
    State.each_reaches (P := State.RemovedAt v) (Q := fun t => (t.vppb v).op = none) hv (fun t ht => State.targetLostAt_of_idle ht ▸ t.surpriseRemoved_removes v)
      (fun w t ht => (t.op_targetLostAt v w).trans ht) (fun w _ ht => State.targetLostAt_keeps w ht) hop
  have hmarked : u2.RemovedAt v := by
    refine List.foldlRecOn _ _ hlost fun t ht x _ => ?_
    split_ifs
    · exact State.setOp_keeps _ _ ht
    · exact ht
  exact (State.mediaLost_only (Sub.refl _) (Only.refl _ u2)).removedAt hmarked

end Removal

/-! ### The vPPBs bound to a port -/

theorem RegKind.key_mod (k : RegKind) (i : Nat) : k.key i % 256 = k.ctorIdx := by
  unfold RegKind.key
  rw [Nat.add_mul_mod_self_left, Nat.mod_eq_of_lt k.ctorIdx_lt]

/-- A write of a register of another kind leaves the listed ones of a kind as they were. -/
theorem State.listed_set (s : State) {F : Fld} {k : RegKind} (i v : Nat) (h : F.reg ≠ k) : (s.set F i v).listed k = s.listed k := by
  refine Tbl.filterMap_wr _ _ _ _ _ fun w => if_neg fun hk => h ?_
  rw [← RegKind.ofNat_ctorIdx F.reg, ← RegKind.key_mod F.reg i, hk, RegKind.ofNat_ctorIdx]

@[simp] theorem State.listed_setPort (s : State) (p : Nat) (x : PortState) (k : RegKind) : (s.setPort p x).listed k = s.listed k := (rfl)

theorem State.listed_of_ideKeys (s : State) (l : Tbl (Option Word)) (k : RegKind) : State.listed { s with ideKeys := l } k = s.listed k := (rfl)

theorem State.boundTo_eq {G : Nat} {s t : State} (h : Only G s t) (hl : t.listed .VPPB_ENTRY = s.listed .VPPB_ENTRY) (p : Nat)
    (hG : G.testBit (RegKind.ctorIdx .VPPB_ENTRY) = false := by decide) : t.boundTo p = s.boundTo p := by
  unfold State.boundTo State.flag
  simp only [hl, h.get_eq VPPB_ENTRY.STATE _ hG, h.get_eq VPPB_ENTRY.REMOTE _ hG, h.get_eq VPPB_ENTRY.TARGET _ hG]

/-- What a port's own status loses as its link goes down, before hosts meet the loss. -/
abbrev portStatusParts : Nat := partsMask [.reg .PRT_LINK_STATUS, .reg .PRT_CXL_STATUS, .reg .PRT_LANE_STAT, .field .ports, .field .ideKeys]

/-- What hosts meet of a port's loss. -/
abbrev hostEndParts : Nat := partsMask [.reg .PRT_LANE_STAT, .reg .VPPB_ENTRY, .reg .HRT_ADMIT, .reg .HRT_AGENT, .field .vppbs, .field .cxlLog, .field .cxlHandle,
  .field .ideKeys, .field .sweeping, .field .fab]

section LinkLost

variable {s : State} {p v : Nat}

theorem State.portDown_removes (hup : s.flag PRT_LINK_STATUS.DL_UP p = true) (hrole : s.role p = 1) (hv : v ∈ s.boundTo p) (hop : (s.vppb v).op = none) :
    (s.portDown p).RemovedAt v := by
  unfold State.portDown
  extract_lets up u1 u2 u3 u4 u5 u6 u7 u8 u9 u10 u11
  have hdown : Only portStatusParts s u11 :=
    State.each_only (fun _ _ ht => State.set_only rfl ht) (Only.set_ideKeys rfl (State.set_only rfl (State.set_only rfl (State.set_only rfl (State.set_only rfl
      (State.set_only rfl (State.set_only rfl (State.set_only rfl (State.set_only rfl (State.setPort_only rfl (Only.refl _ s)))))))))))
  have hlisted : u11.listed .VPPB_ENTRY = s.listed .VPPB_ENTRY := by
    refine (State.each_keeps (fun t => t.listed .VPPB_ENTRY) _ fun c t => t.listed_set (F := PRT_LANE_STAT.LOCK) c 0 (by decide)).trans
      ((u9.listed_of_ideKeys ..).trans ?_)
    simp (disch := decide) only [u9, u8, u7, u6, u5, u4, u3, u2, u1, State.listed_set, State.listed_setPort]
  have hslot : u11.vppb v = s.vppb v := congrArg (Tbl.rd (fun _ => Vppb.idle) · v) (hdown.2 (.field .vppbs) (by decide))
  rw [if_pos hup]
  refine State.lostAtHosts_removes p ((hdown.role_eq p).trans hrole) ?_ (hslot ▸ hop)
  rw [State.boundTo_eq hdown hlisted p]
  exact hv

/-- A lost link's NI, events and slot leave what hosts have seen alone. -/
theorem State.loseLink_removes (planned : Bool) (n : Nat) (h : (s.portDown p).RemovedAt v) : (s.loseLink p planned n).RemovedAt v := by
  have hcount : Only (partsMask [.reg .ANV_SLAG_CNT2, .field .partials]) (s.portDown p) (((s.portDown p).setPartials p 0).count ANV_SLAG_CNT2.PARTIAL (p / 32) n) :=
    State.count_only rfl (State.setPartials_only rfl (Only.refl _ _))
  exact (s.loseLink_only_slot p planned n).removedAt ((s.dropLink_only_events p planned n).removedAt
    ((State.quench_only (Sub.refl _) (Only.refl _ _)).removedAt (hcount.removedAt h)))

/-- A lost link shows what the port's loss shows in PRT_CXL_STATUS. -/
theorem State.loseLink_cxlStatus (s : State) (p q n : Nat) (planned : Bool) {F : Fld} (hF : F.reg = .PRT_CXL_STATUS) :
    (s.loseLink p planned n).get F q = (s.portDown p).get F q := by
  have hcount : Only (partsMask [.reg .ANV_SLAG_CNT2, .field .partials]) (s.portDown p) (((s.portDown p).setPartials p 0).count ANV_SLAG_CNT2.PARTIAL (p / 32) n) :=
    State.count_only rfl (State.setPartials_only rfl (Only.refl _ _))
  rw [(s.loseLink_only_slot p planned n).get_eq F q (by rw [hF]; decide), (s.dropLink_only_events p planned n).get_eq F q (by rw [hF]; decide),
    (State.quench_only (Sub.refl _) (Only.refl _ _)).get_eq F q (by rw [hF]; decide), hcount.get_eq F q (by rw [hF]; decide)]

end LinkLost

/-- A surprise removal takes the link down and shows at every vPPB bound to the target. -/
theorem targetSurpriseRemoval_shows {s : State} {p : Nat} (lost : Nat) (hrole : s.role p = 1) (hup : s.flag PRT_LINK_STATUS.DL_UP p = true) :
    (targetSurpriseRemoval p lost s).get PRT_LINK_STATUS.DL_UP p = 0 ∧
      ∀ v ∈ s.boundTo p, (s.vppb v).op = none → (targetSurpriseRemoval p lost s).RemovedAt v := by
  unfold targetSurpriseRemoval
  rw [if_pos hup]
  refine ⟨?_, fun v hv hop => State.loseLink_removes false lost (State.portDown_removes hup hrole hv hop)⟩
  rw [s.loseLink_get p p false lost (by decide), if_pos rfl]

theorem targetSurpriseRemoval_of_down {s : State} {p : Nat} (lost : Nat) (hdown : s.flag PRT_LINK_STATUS.DL_UP p = false) : targetSurpriseRemoval p lost s = s := by
  unfold targetSurpriseRemoval
  rw [hdown]
  rfl

end Sys2Proof.Machine

namespace Sys2Proof.Machine

-- Proofs are elaborated one after another: each proof thread costs the check 256 MB of stack.
set_option Elab.async false

set_option exponentiation.threshold 500

/-! ### The IDE failures counted, through what a fault stops (R86, R383, R385, R388) -/

/-- The count of IDE integrity failures of each port. -/
abbrev State.ideFails (s : State) (p : Nat) : Nat := s.get PRT_CXL_STATUS.IDE_FAIL p

theorem Only.ideFails_eq {G : Nat} {s t : State} (h : Only G s t) (p : Nat) (hG : G.testBit (RegKind.ctorIdx .PRT_CXL_STATUS) = false := by decide) :
    t.ideFails p = s.ideFails p :=
  h.get_eq PRT_CXL_STATUS.IDE_FAIL p hG

section LinkLost

variable (s : State) (p q : Nat)

/-- Of PRT_CXL_STATUS a link taken down changes the state of its streams alone: both read insecure. -/
theorem State.portDown_cxlStatus : ∃ u : State, (∀ F i, F.reg = .PRT_CXL_STATUS → u.get F i = s.get F i) ∧
    Only hostEndParts ((u.set PRT_CXL_STATUS.IDE_CM p 0).set PRT_CXL_STATUS.IDE_IO p 0) (s.portDown p) := by
  unfold State.portDown
  extract_lets up u1 u2 u3 u4 u5 u6 u7 u8 u9 u10 u11
  have hlink : Only (partsMask [.reg .PRT_LINK_STATUS, .field .ports]) s u7 :=
    State.set_only rfl (State.set_only rfl (State.set_only rfl (State.set_only rfl (State.set_only rfl (State.set_only rfl
      (State.setPort_only rfl (Only.refl _ s)))))))
  have hlocks : Only hostEndParts u9 u11 := State.each_only (fun _ _ ht => State.set_only rfl ht) (Only.set_ideKeys rfl (Only.refl _ u9))
  exact ⟨u7, fun F i hF => hlink.get_eq F i (by rw [hF]; decide), Only.ite (State.lostAtHosts_only rfl hlocks) hlocks⟩

theorem State.portDown_ideCm : (s.portDown p).get PRT_CXL_STATUS.IDE_CM p = 0 := by
  obtain ⟨u, -, hdown⟩ := s.portDown_cxlStatus p
  rw [hdown.get_eq PRT_CXL_STATUS.IDE_CM, State.get_set_bits _ _ _ _ (by decide) (by decide), State.get_set_fits _ _ (by decide) (by decide)]

theorem State.portDown_ideIo : (s.portDown p).get PRT_CXL_STATUS.IDE_IO p = 0 := by
  obtain ⟨u, -, hdown⟩ := s.portDown_cxlStatus p
  rw [hdown.get_eq PRT_CXL_STATUS.IDE_IO, State.get_set_fits _ _ (by decide) (by decide)]

theorem State.portDown_ideFails : (s.portDown p).ideFails q = s.ideFails q := by
  obtain ⟨u, hu, hdown⟩ := s.portDown_cxlStatus p
  rw [hdown.ideFails_eq]
  exact (State.get_set_bits _ _ _ _ (by decide) (by decide)).trans ((u.get_set_bits p q 0 (by decide) (by decide)).trans (hu _ q rfl))

end LinkLost

section Fatal

variable (s : State) (r q ev cls detail : Nat)

theorem State.blockSilent_ideFails (b : Nat) : (s.blockSilent b).ideFails q = s.ideFails q := by
  unfold State.blockSilent
  extract_lets u1 u2
  have hdown : u2.ideFails q = s.ideFails q := (u1.portDown_ideFails (2 * b + 1) q).trans (s.portDown_ideFails (2 * b) q)
  split_ifs
  · exact ((State.sflDown_only (Sub.refl _) (Only.refl _ u2)).ideFails_eq q).trans hdown
  · exact hdown

theorem State.silence_ideFails : (s.silence r).ideFails q = s.ideFails q := by
  unfold State.silence
  extract_lets u1 u2
  rw [(State.fenceCredits_only (Sub.refl _) (Only.refl _ u2)).ideFails_eq q,
    State.each_keeps (fun t => t.ideFails q) _ fun i t => t.blockSilent_ideFails q (16 * r + i),
    State.each_keeps (fun t => t.ideFails q) _ fun n t => (State.quench_only (Sub.refl _) (Only.refl _ t)).ideFails_eq q]

/-- A region shut off, its gate, links and queues, keeps the counts. -/
theorem State.shutOff_ideFails : (((s.closeGate r).silence r).loseQueues r).ideFails q = s.ideFails q := by
  rw [(State.loseQueues_only (Sub.refl _) (Only.refl _ _)).ideFails_eq q, State.silence_ideFails,
    (State.closeGate_only (Sub.refl _) (Only.refl _ s)).ideFails_eq q]

theorem State.chipFatal_ideFails : (s.chipFatal ev).ideFails q = s.ideFails q := by
  unfold State.chipFatal
  extract_lets u1 u2 u3 u4 u5
  split_ifs
  · rfl
  · have hshown : Only (partsMask [.reg .PWR_MODE, .reg .FLT_STAT]) s u4 :=
      State.set_only rfl (State.set_only rfl (State.set_only rfl (State.set_only rfl (Only.refl _ s))))
    have hregions : u5.ideFails q = u4.ideFails q := State.each_keeps (fun t => t.ideFails q) _ fun r t => by
      split_ifs
      · exact t.shutOff_ideFails r q
      · rfl
    rw [(State.updFaultN_only (Sub.refl _) (Only.refl _ u5)).ideFails_eq q, hregions, hshown.ideFails_eq q]

theorem State.fence_ideFails : (s.fence r ev).ideFails q = s.ideFails q := by
  unfold State.fence
  extract_lets was u1 u2 u3 u4
  split_ifs
  · exact s.chipFatal_ideFails q ev
  all_goals
    have hmarked : Only (partsMask [.reg .FLT_REG_STAT]) s u1 := Only.ite (Only.refl _ s) (State.set_only rfl (State.set_only rfl (Only.refl _ s)))
  · exact hmarked.ideFails_eq q
  · have hstate : Only (partsMask [.reg .FLT_REG_STAT, .reg .MGT_EVT_STAT, .reg .CNT_VAL, .reg .MGT_EVT_REC]) u2 u4 :=
      Only.ite (State.notice_only rfl (State.set_only rfl (Only.refl _ u2))) (State.set_only rfl (Only.refl _ u2))
    rw [(State.updFaultN_only (Sub.refl _) (Only.refl _ _)).ideFails_eq q, (State.updMode_only (Sub.refl _) (Only.refl _ u4)).ideFails_eq q, hstate.ideFails_eq q,
      u1.shutOff_ideFails r q, hmarked.ideFails_eq q]

theorem State.fatal_ideFails : (s.fatal ev).ideFails q = s.ideFails q := by
  unfold State.fatal
  split_ifs
  · exact s.fence_ideFails _ q ev
  · exact s.chipFatal_ideFails q ev

/-- The registers of the fault records and the event ring. -/
abbrev recordParts : Nat := partsMask [.reg .FLT_REC0, .reg .FLT_REC1, .reg .FLT_REC2, .reg .FLT_REC3, .reg .MGT_EVT_STAT, .reg .CNT_VAL, .reg .MGT_EVT_REC]

/-- What a record of a cause has shown when the cause turns out fatal, or not. -/
theorem State.ideFails_of_record {u v : State} (h : Only recordParts s u) (hv : v.ideFails q = u.ideFails q) : v.ideFails q = s.ideFails q :=
  hv.trans (h.ideFails_eq q)

theorem State.recordCause_ideFails (inj : Bool) : (s.recordCause ev cls detail inj).ideFails q = s.ideFails q := by
  unfold State.recordCause
  extract_lets c first counted escalated raised second multi worst merged u
  rw [(State.updFaultN_only (Sub.refl _) (Only.refl _ u)).ideFails_eq q]
  have hfirst : Only recordParts s first := State.queueEvent_only rfl (State.fillRecord_only rfl (Only.refl _ s))
  have hsecond : Only recordParts s second := State.queueEvent_only rfl (State.set_only rfl (State.set_only rfl (State.count_only rfl (Only.refl _ s))))
  have hmerged : Only recordParts s merged := State.queueEvent_only rfl (State.set_only rfl (State.set_only rfl (State.count_only rfl (Only.refl _ s))))
  dsimp only [u]
  split_ifs
  · exact s.ideFails_of_record q hfirst (first.fatal_ideFails q ev)
  · exact hfirst.ideFails_eq q
  · refine s.ideFails_of_record q (State.notice_only (ev := 32 + 32 * c + 4) (cls := 2) (what := 0) rfl hsecond) (State.fence_ideFails _ c q _)
  · exact s.ideFails_of_record q hsecond (second.chipFatal_ideFails q ev)
  · exact hsecond.ideFails_eq q
  · exact s.ideFails_of_record q hmerged (merged.fatal_ideFails q ev)
  · exact hmerged.ideFails_eq q

end Fatal

/-- An IDE failure is counted and ends with both streams insecure and the link down. -/
theorem ideIntegrityFailure_shows (p lost : Nat) (s : State) :
    (ideIntegrityFailure p lost s).get PRT_CXL_STATUS.IDE_FAIL p = satAdd PRT_CXL_STATUS.IDE_FAIL.width (s.get PRT_CXL_STATUS.IDE_FAIL p) 1 ∧
      (ideIntegrityFailure p lost s).get PRT_CXL_STATUS.IDE_CM p = 0 ∧ (ideIntegrityFailure p lost s).get PRT_CXL_STATUS.IDE_IO p = 0 ∧
      (ideIntegrityFailure p lost s).get PRT_LINK_STATUS.DL_UP p = 0 := by
  unfold ideIntegrityFailure
  extract_lets u1 u2 u3 u4
  refine ⟨?_, ?_, ?_, ?_⟩
  · rw [u4.loseLink_cxlStatus p p lost false rfl]
    refine (u4.portDown_ideFails p p).trans ((u3.recordCause_ideFails p _ 1 _ false).trans ?_)
    refine (State.get_set_bits _ _ _ _ (by decide) (by decide)).trans ((State.get_set_bits _ _ _ _ (by decide) (by decide)).trans ?_)
    exact s.get_count p 1 (by decide)
  · rw [u4.loseLink_cxlStatus p p lost false rfl, State.portDown_ideCm]
  · rw [u4.loseLink_cxlStatus p p lost false rfl, State.portDown_ideIo]
  · rw [u4.loseLink_get p p false lost (by decide), if_pos rfl]

/-! ### IDE key set-up (R85, R335) -/

/-- A message taken leaves the streams of every port as they are: of PRT_CXL_STATUS it shows a DevLoad at most. -/
theorem State.get_takeMsg_ide (s : State) (p q : Nat) (m : PortMsg) {F : Fld} (hF : F.reg = .PRT_CXL_STATUS) (hbits : F.hi < PRT_CXL_STATUS.DEVLOAD.lo) :
    (s.takeMsg p m).get F q = s.get F q := by
  cases m with
  | request x => exact (State.handOver_only (Sub.refl _) (Only.refl _ s)).get_eq_of_fields F q
  | response x devload =>
    change (s.takeResponse p x devload).get F q = s.get F q
    unfold State.takeResponse
    extract_lets y u1 u2 z w
    rw [(State.enqueue_only (Sub.refl _) (Only.refl _ u2)).get_eq_of_fields F q]
    dsimp only [u2]
    split_ifs
    · exact State.get_set_bits _ _ _ _ (by decide) (.inl hbits)
    · rfl
  | snoop x => exact (State.takeSnoop_only (Sub.refl _) (Only.refl _ s)).get_eq_of_fields F q
  | gpf x => exact (State.takeGpf_only (Sub.refl _) (Only.refl _ s)).get_eq_of_fields F q
  | config v reg value tag => exact (State.takeConfig_only (Sub.refl _) (Only.refl _ s)).get_eq F q (by rw [hF]; decide)

/-- The messages kept at a port are in no register. -/
theorem State.get_of_portHold (s : State) (l : Tbl (List PortMsg)) (F : Fld) (i : Nat) : State.get { s with portHold := l } F i = s.get F i := (rfl)

theorem State.get_releaseKept_ide (s : State) (p q : Nat) {F : Fld} (hF : F.reg = .PRT_CXL_STATUS) (hbits : F.hi < PRT_CXL_STATUS.DEVLOAD.lo) :
    (s.releaseKept p).get F q = s.get F q := by
  unfold State.releaseKept
  refine List.foldlRecOn (motive := fun t : State => t.get F q = s.get F q) _ _ rfl fun t ht m _ => ?_
  split
  · split_ifs
    · exact (State.get_takeMsg_ide _ p q m hF hbits).trans ((t.get_of_portHold ..).trans ht)
    · exact ht
  · exact ht

/-- Keys set up come from the TRNG, and both streams show what was set up, whatever traffic then goes on. -/
theorem ideKeySetUp_shows {s : State} {p : Nat} (m : Nat) (x : Bool) (hrole : s.role p ≤ 1) (hmode : s.get PRT_CXL_STATUS.PROTO p = 2) (hpol : s.idePol p ≠ 0)
    (hready : s.flag KEY_TRNG_STAT.READY 0 = true) (hrec : s.flag KEY_STAT.REC_VALID 0 = true) :
    Tbl.rd (fun _ => none) (ideKeySetUp p m x s).ideKeys p = some (Config.trngOut s.freeCtr) ∧
      (ideKeySetUp p m x s).get PRT_CXL_STATUS.IDE_CM p = min m 2 ∧ (ideKeySetUp p m x s).get PRT_CXL_STATUS.IDE_IO p = bit x := by
  unfold ideKeySetUp
  rw [if_neg (by simp [hrole, hmode, hpol, hready, hrec])]
  extract_lets u
  have hkey : Tbl.rd (fun _ => none) u.ideKeys p = some (Config.trngOut s.freeCtr) :=
    Tbl.rd_wr_self (fun _ => none) s.ideKeys p (some (Config.trngOut s.freeCtr))
  clear_value u
  refine ⟨?_, ?_, ?_⟩
  · rw [(State.releaseKept_only (Sub.refl _) (Only.refl _ _)).2 (.field .ideKeys) (by decide)]
    exact hkey
  · rw [State.get_releaseKept_ide _ _ _ rfl (by decide), State.get_set_bits _ _ _ _ (by decide) (by decide)]
    exact State.get_set_fits _ _ (by decide) (lt_of_le_of_lt (Nat.min_le_right m 2) (by decide))
  · rw [State.get_releaseKept_ide _ _ _ rfl (by decide)]
    exact State.get_set_bit _ _ x (by decide)

theorem ideKeySetUp_refused {s : State} {p : Nat} (m : Nat) (x : Bool) (h : 1 < s.role p ∨ s.get PRT_CXL_STATUS.PROTO p ≠ 2 ∨ s.idePol p = 0 ∨
    s.flag KEY_TRNG_STAT.READY 0 = false ∨ s.flag KEY_STAT.REC_VALID 0 = false) : ideKeySetUp p m x s = s := by
  unfold ideKeySetUp
  rw [if_pos (by simpa using h)]

/-! ### Messages to decode (R158) -/

/-- One of the messages partly received at a port has come whole. -/
def State.wholeMsg (s : State) (p : Nat) : State := s.setPartials p (s.partialsOf p - 1)

theorem State.wholeMsg_only (s : State) (p : Nat) : Only (partsMask [.field .partials]) s (s.wholeMsg p) := State.setPartials_only rfl (Only.refl _ s)

theorem State.keptAt_keepMsg (s : State) (p : Nat) (l : List PortMsg) :
    State.keptAt { s with portHold := Tbl.wr (fun _ => []) s.portHold p l } p = l := Tbl.rd_wr_self ..

/-- A packet queued is the last of its queue. -/
theorem State.enqueue_last (s : State) (n : Nat) (x : Pkt) : (Tbl.rd (fun _ => []) (s.enqueue n x).voq (voqKey n x)).getLast? = some x := by
  simp [State.enqueue]

theorem Only.withTc_eq {G : Nat} {s t : State} (h : Only G s t) (n : Nat) (x : Pkt) (hreg : G.testBit (RegKind.ctorIdx .TMP_CFG) = false := by decide)
    (htcs : G.testBit (256 + StateField.ctorIdx .tcs) = false := by decide) : t.withTc n x = s.withTc n x := by
  have ht : t.tcs = s.tcs := h.2 (.field .tcs) htcs
  unfold State.withTc
  simp only [ht, h.get_eq TMP_CFG.CLIENT_TC _ hreg]

section Messages

variable {s : State} {p : Nat} {m : PortMsg}

/-- A whole message is kept behind those kept before it where it must wait or any is, and is taken where not. -/
theorem messageToDecode_whole (s : State) (p : Nat) (m : PortMsg) : messageToDecode p true m s =
    if (s.wholeMsg p).mustWait p m || !((s.wholeMsg p).keptAt p).isEmpty then
      { s.wholeMsg p with portHold := Tbl.wr (fun _ => []) (s.wholeMsg p).portHold p ((s.wholeMsg p).keptAt p ++ [m]) }
    else (s.wholeMsg p).takeMsg p m := rfl

theorem State.mustWait_wholeMsg (s : State) (p : Nat) (m : PortMsg) : (s.wholeMsg p).mustWait p m = s.mustWait p m := by cases m <;> rfl

theorem State.keptAt_wholeMsg (s : State) (p : Nat) : (s.wholeMsg p).keptAt p = s.keptAt p := (rfl)

theorem messageToDecode_takes (hwait : s.mustWait p m = false) (hkept : s.keptAt p = []) : messageToDecode p true m s = (s.wholeMsg p).takeMsg p m := by
  rw [messageToDecode_whole, State.mustWait_wholeMsg, State.keptAt_wholeMsg, hwait, hkept]
  rfl

theorem messageToDecode_keeps (h : s.mustWait p m = true ∨ s.keptAt p ≠ []) :
    (messageToDecode p true m s).keptAt p = s.keptAt p ++ [m] ∧ (messageToDecode p true m s).decodeQ = s.decodeQ := by
  rw [messageToDecode_whole, State.mustWait_wholeMsg, State.keptAt_wholeMsg, if_pos (by simpa using h)]
  exact ⟨State.keptAt_keepMsg .., rfl⟩

/-- A request handed over is the last to decode; what is kept at its port is as it was. -/
theorem messageToDecode_request {q : MemReq} (hwait : s.mustWait p (.request q) = false) (hkept : s.keptAt p = []) :
    (messageToDecode p true (.request q) s).decodeQ = s.decodeQ ++ [q] ∧ (messageToDecode p true (.request q) s).portHold = s.portHold := by
  rw [messageToDecode_takes hwait hkept]
  unfold State.takeMsg State.handOver
  dsimp only
  split
  · exact ⟨rfl, rfl⟩
  · exact ⟨rfl, rfl⟩

/-- A response of a downstream port's device shows its DevLoad at the port and goes to its requester with it (R87). -/
theorem State.takeResponse_of_device (x : Pkt) (devload : Nat) (hrole : s.role p = 1) : (s.takeResponse p x devload).get PRT_CXL_STATUS.DEVLOAD p = devload % 4 ∧
    (Tbl.rd (fun _ => []) (s.takeResponse p x devload).voq (voqKey (p / 2) (s.withTc (p / 2) x))).getLast? = some { s.withTc (p / 2) x with devload := devload % 4 } := by
  unfold State.takeResponse
  extract_lets y u1 u2 z w out
  have hrole1 : u1.role p = 1 := hrole
  have hu2 : u2 = u1.set PRT_CXL_STATUS.DEVLOAD p devload := if_pos hrole1
  have hkept : Only (partsMask [.reg .PRT_CXL_STATUS, .field .ni]) s u2 := hu2 ▸ State.set_only rfl (State.setNi_only rfl (Only.refl _ s))
  have hup : (decide (u2.role p = 0) && !isIo w) = false := by rw [hkept.role_eq p, hrole]; rfl
  have hout : out = { s.withTc (p / 2) x with devload := devload % 4 } := by
    dsimp only [out]
    rw [hup, if_neg (by decide)]
    dsimp only [w, z]
    rw [hkept.withTc_eq]
  refine ⟨?_, ?_⟩
  · rw [(State.enqueue_only (Sub.refl _) (Only.refl _ u2)).get_eq_of_fields, hu2]
    exact u1.get_set_self p devload (by decide) (by decide)
  · rw [hout]
    exact State.enqueue_last ..

theorem messageToDecode_response {x : Pkt} {devload : Nat} (hrole : s.role p = 1) (hwait : s.mustWait p (.response x devload) = false) (hkept : s.keptAt p = []) :
    (messageToDecode p true (.response x devload) s).get PRT_CXL_STATUS.DEVLOAD p = devload % 4 ∧
      (Tbl.rd (fun _ => []) (messageToDecode p true (.response x devload) s).voq (voqKey (p / 2) (s.withTc (p / 2) x))).getLast? =
        some { s.withTc (p / 2) x with devload := devload % 4 } := by
  have hwhole := s.wholeMsg_only p
  rw [messageToDecode_takes hwait hkept, ← hwhole.withTc_eq]
  exact State.takeResponse_of_device x devload ((hwhole.role_eq p).trans hrole)

end Messages

/-- A flit whose CRC fails is counted, and its message held at the link. -/
theorem messageToDecode_bad_crc (s : State) (p : Nat) (m : PortMsg) : (messageToDecode p false m s).decodeQ = s.decodeQ ∧ (messageToDecode p false m s).portHold = s.portHold ∧
    (messageToDecode p false m s).get PRT_LINK_ERR.CRC_ERR p = satAdd PRT_LINK_ERR.CRC_ERR.width (s.get PRT_LINK_ERR.CRC_ERR p) 1 := by
  have hcount : messageToDecode p false m s = ((s.setPartials p (s.partialsOf p + 1)).count PRT_LINK_ERR.CRC_ERR p).tallyPort 7 p := rfl
  have hkept : Only (partsMask [.reg .PRT_LINK_ERR, .reg .CNT_VAL, .field .partials]) s (messageToDecode p false m s) :=
    hcount ▸ State.tallyPort_only rfl (State.count_only rfl (State.setPartials_only rfl (Only.refl _ s)))
  refine ⟨hkept.2 (.field .decodeQ) (by decide), hkept.2 (.field .portHold) (by decide), ?_⟩
  rw [hcount, (State.tallyPort_only (Sub.refl _) (Only.refl _ _)).get_eq PRT_LINK_ERR.CRC_ERR]
  exact State.get_count _ p 1 (by decide)

end Sys2Proof.Machine

namespace Sys2Proof.Machine

-- Proofs are elaborated one after another: each proof thread costs the check 256 MB of stack.
set_option Elab.async false

set_option exponentiation.threshold 500

/-- An answer sent is the last of the messages. -/
theorem State.getLast?_emit (s : State) (o : Out) : (s.emit o).out.getLast? = some o := List.getLast?_concat

/-- A command of a VCS and a DC region runs where both exist. -/
theorem vcs_region_exist {v k : Nat} (hv : v < 64) (hk : k < 8) : (decide (v < 64) && decide (k < 8)) = true := by simp [hv, hk]

/-- Settles O26: each clause is the command's own lemma, run where the unit exists. -/
theorem capacityAndLinks : Obligations.CapacityAndLinks := by
  unfold Obligations.CapacityAndLinks
  refine ⟨?pool, ?noPool, ?sanitize, ?add, ?addShort, ?response, ?timeout, ?noAdd, ?release, ?badRelease, ?releaseDone, ?releaseWaits, ?inForce, ?unsupported, ?otherMode,
    ?agent, ?route, ?decoder, ?removal, ?noRemoval, ?integrity, ?keys, ?noKeys, ?request, ?kept, ?deviceResponse, ?badCrc⟩
  case pool =>
    intro s p len n v h hpool
    have hp := decide_eq_true h.1
    exact ⟨(run_true hp).trans (congrArg _ (dcConfig_of_pool h hpool)), (run_true hp).trans (congrArg _ (extentLists_of_pool h hpool))⟩
  case noPool =>
    intro s p len n v h hpool
    have hp := decide_eq_true h.1
    exact ⟨(run_true hp).trans (congrArg _ (dcConfig_of_no_pool h hpool)), (run_true hp).trans (congrArg _ (extentLists_of_no_pool h hpool))⟩
  case sanitize =>
    intro s p len n v k x h hpool hk
    exact ⟨_, (run_true (decide_eq_true h.1.1)).trans (congrArg _ (setDcConfig_of_pool x h hpool hk)), Tbl.rd_wr_self .., rfl⟩
  case add =>
    intro s p len n v k x h hpool hk hx hfree
    exact ⟨_, (run_true (decide_eq_true h.1.1)).trans (congrArg _ (dcAdd_of_pool h hpool hk hx hfree)), rfl, List.length_append, rfl⟩
  case addShort =>
    intro s p len n v k x h hpool hk hx hfree
    exact (run_true (decide_eq_true h.1.1)).trans (congrArg _ (dcAdd_of_short_pool h hpool hk hx hfree))
  case response =>
    intro s v k l a hv hk ha hlater
    exact ⟨_, (run_true (vcs_region_exist hv hk)).trans (congrArg _ (dcAddResponse_of_some ha)), s.endAdd_shows l .success .none hlater⟩
  case timeout =>
    intro s v k a hv hk ha hlater
    obtain ⟨hadds, -, hlast⟩ := s.endAdd_shows [] .aborted .hostNoAck hlater
    exact ⟨_, (run_true (vcs_region_exist hv hk)).trans (congrArg _ (dcAddTimeout_of_some ha)), hadds, hlast⟩
  case noAdd =>
    intro s v k l hv hk ha
    have hvk := vcs_region_exist hv hk
    exact ⟨(run_true hvk).trans (congrArg _ (dcAddResponse_of_none ha)), (run_true hvk).trans (congrArg _ (dcAddTimeout_of_none ha))⟩
  case release =>
    intro s p len n v k l h hpool hk hl hnodup hheld
    obtain ⟨adds, hstarts⟩ := dcRelease_of_held h hpool hk hl hnodup hheld
    exact ⟨_, (run_true (decide_eq_true h.1.1)).trans (congrArg _ hstarts), fun i hi => State.startRelease_releasing _ hi, State.startRelease_dcReleases _ l,
      State.getLast?_emit ..⟩
  case badRelease =>
    intro s p len n v k l h hbad
    exact (run_true (decide_eq_true h.1.1)).trans (congrArg _ (dcRelease_of_bad h hbad))
  case releaseDone => exact fun s i hrel hmig hfill => ⟨_, rfl, extentReleaseComplete_frees hrel hmig hfill⟩
  case releaseWaits => exact fun s i h => congrArg Host.Outcome.next (extentReleaseComplete_waits h)
  case inForce =>
    intro s v k d hv hk h
    exact (run_true (decide_eq_true hv)).trans (congrArg _ (hdmDecoderCommit_in_force hk h))
  case unsupported =>
    intro s v k d hv hk hc hsup
    exact (run_true (decide_eq_true hv)).trans (congrArg _ (hdmDecoderCommit_unsupported hk hc hsup))
  case otherMode =>
    intro s v k d hv hpool hk hc hdb hmode
    exact (run_true (decide_eq_true hv)).trans (congrArg _ (hdmDecoderCommit_other_mode hpool hk hc hdb hmode))
  case agent =>
    intro s v k d hv hpool hk hc hdb hmode hbi hroute hdec hagent
    exact (run_true (decide_eq_true hv)).trans (congrArg _ (hdmDecoderCommit_of_agent hpool hk hc hdb hmode hbi hroute hdec hagent))
  case route => exact fun s v x hv => ⟨_, run_true (decide_eq_true hv), biEnableWrite_route v x s⟩
  case decoder => exact fun s v x hv => ⟨_, run_true (decide_eq_true hv), biEnableWrite_decoder v x s⟩
  case removal => exact fun s p lost hp hrole hup => ⟨_, run_true (decide_eq_true hp), targetSurpriseRemoval_shows lost hrole hup⟩
  case noRemoval =>
    intro s p lost hp hdown
    exact (run_true (decide_eq_true hp)).trans (congrArg _ (targetSurpriseRemoval_of_down lost hdown))
  case integrity => exact fun s p lost hp => ⟨_, run_true (decide_eq_true hp), ideIntegrityFailure_shows p lost s⟩
  case keys =>
    intro s p m x hp hrole hmode hpol hready hrec
    exact ⟨_, run_true (decide_eq_true hp), ideKeySetUp_shows m x hrole hmode hpol hready hrec⟩
  case noKeys =>
    intro s p m x hp h
    exact (run_true (decide_eq_true hp)).trans (congrArg _ (ideKeySetUp_refused m x h))
  case request => exact fun s p q hp hwait hkept => ⟨_, run_true (decide_eq_true hp), messageToDecode_request hwait hkept⟩
  case kept => exact fun s p m hp h => ⟨_, run_true (decide_eq_true hp), messageToDecode_keeps h⟩
  case deviceResponse =>
    intro s p x dv hp hrole hwait hkept
    exact ⟨_, run_true (decide_eq_true hp), messageToDecode_response hrole hwait hkept⟩
  case badCrc => exact fun s p m hp => ⟨_, run_true (decide_eq_true hp), messageToDecode_bad_crc s p m⟩

end Sys2Proof.Machine

namespace Sys2Proof.Machine

/-! ### An uncorrectable codeword that fences its region (R99, R380, R383, R385) -/

/-- A state in which lane 0 of block 0 serves a fabric port and is locked, with no uncorrectable codeword behind it. -/
abbrev AtLockedLane : Type :=
  { s : State // s.role (s.circuitPort 0 0) = 2 ∧ s.flag SFL_LANE_STAT.LOCK (9 * 0 + 0) = true ∧ (s.sflLane 0 0).badCodewords = 0 }

/-- Such a state in which region 0's collector holds a record of class 1 with SECOND set, so a further class 1 cause there becomes fatal (R383). FEC_THR is at its reset value of 0: the
first uncorrectable codeword of a second raises event 353. The event ring is full: no event detail, a free value, is stored, and the effect can be computed. -/
def lockedEscalating : AtLockedLane :=
  ⟨((((((State.reset.set PRT_CFG.MODE 0 1).set PRT_CFG.ROLE0 0 2).set SFL_LANE_STAT.LOCK 0 1).set FLT_REC0.PEND 0 1).set FLT_REC0.CLASS 0 1).set
    FLT_CFG.SECOND 0 1).set MGT_EVT_STAT.COUNT 0 1024, by decide +kernel⟩

/-- One level is no codeword, and its event is a second class 1 cause: the region is fenced, and the lane has lost its lock with the block's links, at the first of the
eight uncorrectable codewords in a row that return it to hunt (R102). -/
theorem lockedEscalating_codeword : (codewordDecode 0 0 false 0 [3] lockedEscalating.1).regionState 0 = 1 ∧
    (codewordDecode 0 0 false 0 [3] lockedEscalating.1).get SFL_LANE_STAT.LOCK (9 * 0 + 0) = 0 := by decide +kernel

/-- Refutes O5: its clause on uncorrectable codewords has a locked fabric lane keep its lock until the eighth in a row, but where the event of the first one escalates (R383) the region
is fenced and its links go down (R385), the lane's lock with them. -/
theorem not_markersAndCodewords : ¬ Obligations.MarkersAndCodewords := by
  unfold Obligations.MarkersAndCodewords
  rintro ⟨-, -, -, -, -, -, uncorrectable, -⟩
  obtain ⟨hrole, hlock, hgood⟩ := lockedEscalating.2
  have hshort : (rxSymbols (lockedEscalating.1.sflLane 0 0).inverted [3]).length ≠ cwData (lockedEscalating.1.sflLane 0 0).cw + 30 := by decide +kernel
  obtain ⟨t, ht, -, hkept⟩ := uncorrectable lockedEscalating.1 0 0 false 0 [3] (by decide) (by decide) hrole hlock (.inl hshort)
  have he : exec (.codewordDecode 0 0 false 0 [3]) lockedEscalating.1 = .next (codewordDecode 0 0 false 0 [3] lockedEscalating.1) := rfl
  obtain rfl : codewordDecode 0 0 false 0 [3] lockedEscalating.1 = t := Host.Outcome.next.inj (he.symm.trans ht)
  rw [hgood, lockedEscalating_codeword.2] at hkept
  exact absurd hkept (by decide)

end Sys2Proof.Machine

namespace Sys2Proof.Machine

-- Proofs are elaborated one after another: each proof thread costs the check 256 MB of stack.
set_option Elab.async false

set_option exponentiation.threshold 500

/-! ### A fabric link and the registers beside it -/

section LinkRules

variable (s : State) (b : Nat)

@[simp] theorem State.link_setLink (x : SflLink) : (s.setLink b x).link b = x := Tbl.rd_wr_self ..

/-! A link reads through the write of a register and of a lane as before, and a register through the write of a link. -/

@[simp] theorem State.link_set (F : Fld) (i v : Nat) : (s.set F i v).link b = s.link b := (rfl)
@[simp] theorem State.link_count (F : Fld) (i n : Nat) : (s.count F i n).link b = s.link b := (rfl)
@[simp] theorem State.link_emit (o : Out) : (s.emit o).link b = s.link b := (rfl)
@[simp] theorem State.link_setSflLane (d k : Nat) (x : SflLane) : (s.setSflLane d k x).link b = s.link b := (rfl)
@[simp] theorem State.get_setLink (x : SflLink) (F : Fld) (i : Nat) : (s.setLink b x).get F i = s.get F i := (rfl)
@[simp] theorem State.out_setLink (x : SflLink) : (s.setLink b x).out = s.out := (rfl)
@[simp] theorem State.out_set (F : Fld) (i v : Nat) : (s.set F i v).out = s.out := (rfl)

/-- The sender's state changed: of the link only since when it has been in STALL. -/
@[simp] theorem State.link_setTxState (st : Nat) : (s.setTxState b st).link b =
    { s.link b with stallAt := if st = 2 then some ((s.link b).stallAt.getD s.clk) else none } := State.link_setLink ..

theorem State.txState_setTxState {st : Nat} (hst : st < 4) : (s.setTxState b st).get SFL_LINK_STAT.TX_STATE b = st :=
  State.get_set_fits _ b (by decide) hst

/-- Of the registers a change of the sender's state writes TX_STATE alone. -/
theorem State.get_setTxState (st : Nat) {F : Fld} (i : Nat) (hF : F.reg ≠ .SFL_LINK_STAT ∨ 1 < F.lo) : (s.setTxState b st).get F i = s.get F i := by
  unfold State.setTxState
  rcases hF with hF | hF
  · exact State.get_set_kind _ _ _ _ hF
  · exact State.get_set_bits _ _ _ _ (by decide) (.inr hF)

end LinkRules

theorem Only.link_eq {G : Nat} {s t : State} (h : Only G s t) (b : Nat) (hG : G.testBit (256 + StateField.ctorIdx .sfl) = false := by decide) : t.link b = s.link b :=
  congrArg (Tbl.rd (fun _ => SflLink.idle) · b) (h.2 (.field .sfl) hG)

/-- The XOFF bits of the next unit follow SFL_VC_STAT alone. -/
theorem Only.xoffBits_eq {G : Nat} {s t : State} (h : Only G s t) (b : Nat) (hG : G.testBit (RegKind.ctorIdx .SFL_VC_STAT) = false := by decide) :
    t.xoffBits b = s.xoffBits b := by
  unfold State.xoffBits
  simp only [h.get_eq SFL_VC_STAT.XOFF_TX _ hG]

/-! ### What sending changes (R90 to R93, R125, R127) -/

/-- What leaves a port is added to what has left the device, and changes of the port's link the place of its next block and the commands that wait, and no register. -/
structure Sends (b : Nat) (s t : State) : Prop where
  link : ∃ n l, t.link b = { s.link b with txStripe := n, cmds := l }
  out : s.out <+: t.out
  reg : ∀ k i, t.reg k i = s.reg k i

section Sends

variable {s t u : State} {b : Nat}

theorem Sends.refl (b : Nat) (s : State) : Sends b s s := ⟨⟨_, _, rfl⟩, List.prefix_rfl, fun _ _ => rfl⟩

theorem Sends.trans (h : Sends b s t) (h' : Sends b t u) : Sends b s u := by
  obtain ⟨n, l, hl⟩ := h'.link
  obtain ⟨_, _, hl'⟩ := h.link
  exact ⟨⟨n, l, by rw [hl, hl']⟩, h.out.trans h'.out, fun k i => (h'.reg k i).trans (h.reg k i)⟩

theorem Sends.foldl {β : Type} {f : State → β → State} (hf : ∀ u y, Sends b u (f u y)) (s : State) (l : List β) : Sends b s (l.foldl f s) := by
  induction l generalizing s with
  | nil => exact .refl b s
  | cons y l ih => exact (hf s y).trans (ih (f s y))

theorem Sends.get (h : Sends b s t) (F : Fld) (i : Nat) : t.get F i = s.get F i := by
  unfold State.get
  rw [h.reg]

/-- What is emitted before sending goes on is the first of what then leaves the device. -/
theorem Sends.first_out {o : Out} (h : Sends b (s.emit o) t) : t.out[s.out.length]? = some o := by
  obtain ⟨l, hl⟩ := h.out
  rw [← hl, State.emit_out, List.append_assoc, List.getElem?_append_right le_rfl, Nat.sub_self]
  rfl

variable (s b)

theorem State.emit_sends (o : Out) : Sends b s (s.emit o) := ⟨⟨_, _, rfl⟩, List.prefix_append .., fun _ _ => rfl⟩

theorem State.sendOn_sends (c : Nat) (x : Block) : Sends b s (s.sendOn c x) := by
  refine ⟨?_, s.out_prefix_sendOn c x, ?_⟩ <;> unfold State.sendOn <;> split
  · exact ⟨_, _, rfl⟩
  · exact ⟨_, _, rfl⟩
  · exact fun _ _ => rfl
  · exact fun _ _ => rfl

theorem State.sendBlock_sends (x : Block) : Sends b s (s.sendBlock b x) := by
  unfold State.sendBlock
  extract_lets lanes i last
  split
  · exact .refl b s
  · extract_lets u v
    have hblock : Sends b s u := s.sendOn_sends b _ x
    have hrow : Sends b u v := by
      dsimp only [v]
      split
      · exact .foldl (fun w c => w.sendOn_sends b c idleBlock) u _
      · exact .refl b u
    exact (hblock.trans hrow).trans ⟨⟨_, _, v.link_setLink b _⟩, List.prefix_rfl, fun _ _ => rfl⟩

theorem State.sendStream_sends (l : List Block) : Sends b s (s.sendStream b l) := .foldl (fun u x => u.sendBlock_sends b x) s l

/-! Units and commands are emitted, and then sent as blocks. -/

theorem State.sendUnit_emits (unit : List Byte) : Sends b (s.emit (.flowUnit b unit)) (s.sendUnit b unit) := State.sendStream_sends ..

theorem State.emitCommand_emits (bits : Nat) : Sends b (s.emit (.linkCommand b bits)) (s.emitCommand b bits) := State.sendStream_sends ..

theorem State.sendUnit_sends (unit : List Byte) : Sends b s (s.sendUnit b unit) := (s.emit_sends b _).trans (s.sendUnit_emits b unit)

theorem State.emitCommand_sends (bits : Nat) : Sends b s (s.emitCommand b bits) := (s.emit_sends b _).trans (s.emitCommand_emits b bits)

theorem State.keepCommands_sends (l : List Nat) : Sends b s (s.setLink b { s.link b with cmds := l }) :=
  ⟨⟨_, _, s.link_setLink b _⟩, List.prefix_rfl, fun _ _ => rfl⟩

theorem State.sendCommand_sends (bits : Nat) : Sends b s (s.sendCommand b bits) := by
  unfold State.sendCommand
  extract_lets x
  split
  · exact s.keepCommands_sends b _
  · exact s.emitCommand_sends b bits

theorem State.flushCommands_sends : Sends b s (s.flushCommands b) :=
  (s.keepCommands_sends b []).trans (.foldl (fun u c => u.emitCommand_sends b c) _ _)

theorem State.sendKeysync_sends : Sends b s (s.sendKeysync b) := by
  unfold State.sendKeysync
  split
  · exact (s.sendCommand_sends b _).trans (State.sendCommand_sends ..)
  · exact .refl b s

end Sends

end Sys2Proof.Machine

namespace Sys2Proof.Machine

-- Proofs are elaborated one after another: each proof thread costs the check 256 MB of stack.
set_option Elab.async false

set_option exponentiation.threshold 500

/-! ### Sending DATA and NULL units (R112, R115, R122) -/

/-- The registers of the performance counters. -/
abbrev tallyParts : Nat := partsMask [.reg .CNT_VAL]

@[simp] theorem State.link_showTxCount (s : State) (b : Nat) : (s.showTxCount b).link b = s.link b := State.link_set ..
@[simp] theorem State.out_setTxState (s : State) (b st : Nat) : (s.setTxState b st).out = s.out := (rfl)
@[simp] theorem State.out_showTxCount (s : State) (b : Nat) : (s.showTxCount b).out = s.out := State.out_set ..

/-- A DATA unit sent is counted in the performance counters alone. -/
theorem State.dataSent_counts (s : State) (b : Nat) : Only tallyParts s ((s.tallyBlock 0x380 b).linkBytes b true) :=
  State.linkBytes_only rfl (State.tallyBlock_only rfl (Only.refl _ s))

/-- A unit counted and sent: it is the next thing to leave the device, and the link and the sender's state stay but for the place of the next block. -/
theorem State.sendUnit_shows {s t : State} (h : Only tallyParts s t) (b : Nat) (unit : List Byte) :
    (∃ n l, (t.sendUnit b unit).link b = { s.link b with txStripe := n, cmds := l }) ∧ (t.sendUnit b unit).out[s.out.length]? = some (Out.flowUnit b unit) ∧
      (t.sendUnit b unit).get SFL_LINK_STAT.TX_STATE b = s.get SFL_LINK_STAT.TX_STATE b := by
  have hsent := t.sendUnit_sends b unit
  refine ⟨h.link_eq b ▸ hsent.link, h.out_eq ▸ (t.sendUnit_emits b unit).first_out, ?_⟩
  rw [hsent.get, h.get_eq SFL_LINK_STAT.TX_STATE b]

/-- A NULL unit takes a slot and no sequence number, and keeps what is stored and what waits. -/
theorem State.sendNull_shows (s : State) (b : Nat) : ((s.sendNull b).link b).slot = (s.link b).slot + 1 ∧ ((s.sendNull b).link b).nextSeq = (s.link b).nextSeq ∧
    ((s.sendNull b).link b).buf = (s.link b).buf ∧ ((s.sendNull b).link b).waiting = (s.link b).waiting ∧
    (s.sendNull b).get SFL_LINK_STAT.TX_STATE b = s.get SFL_LINK_STAT.TX_STATE b ∧
    (s.sendNull b).out[s.out.length]? =
      some (Out.flowUnit b (sealUnit (s.link b).nextSeq (padTo 252 (toBytes 4 (1 + (s.link b).anBits + s.xoffBits b))))) := by
  unfold State.sendNull
  extract_lets x body
  obtain ⟨⟨n, l, hlink⟩, hout, htx⟩ := State.sendUnit_shows (State.tallyBlock_only rfl (Only.refl _ (s.setLink b x.sent))) b (sealUnit x.nextSeq body)
  rw [hlink, State.link_setLink]
  exact ⟨rfl, rfl, rfl, rfl, htx, hout⟩

/-- A DATA unit stored, shown, counted and sent, for a link that reads `y` with it. -/
def State.sendData (s : State) (b : Nat) (y : SflLink) (unit : List Byte) : State :=
  (((((s.setLink b y).set SFL_LINK_STAT.REPLAY_OCC b y.buf.length).showTxCount b).tallyBlock 0x380 b).linkBytes b true).sendUnit b unit

theorem State.sendData_shows (s : State) (b : Nat) (y : SflLink) (unit : List Byte) :
    (∃ n l, (s.sendData b y unit).link b = { y with txStripe := n, cmds := l }) ∧ (s.sendData b y unit).out[s.out.length]? = some (Out.flowUnit b unit) := by
  unfold State.sendData
  generalize hu : ((s.setLink b y).set SFL_LINK_STAT.REPLAY_OCC b y.buf.length).showTxCount b = u
  have hlink : u.link b = y := by rw [← hu]; simp
  have hout : u.out = s.out := by rw [← hu]; simp
  obtain ⟨hsent, hfirst, -⟩ := State.sendUnit_shows (u.dataSent_counts b) b unit
  rw [hlink] at hsent
  rw [hout] at hfirst
  exact ⟨hsent, hfirst⟩

section DataUnit

variable {s : State} {b : Nat}

theorem drr_of_none (deficit weights : List Nat) (turn : Nat) : drr [] deficit weights turn = none := by
  have hpick (l : List Nat) : l.find? (fun _ => false) = none := List.find?_eq_none.2 fun _ _ => Bool.false_ne_true
  simp [drr, hpick]

/-- With nothing waiting no VC sends. -/
theorem State.arbitrate_of_none (hwait : (s.link b).waiting = []) : s.arbitrate b = none := by
  have hnone : s.eligible b = [] := by simp [State.eligible, hwait]
  unfold State.arbitrate
  dsimp only
  rw [hnone, drr_of_none, if_neg (by simp)]

/-- A packet of VC0 that waits and may start is sent first. -/
theorem State.arbitrate_of_vc0 (hwait : (s.link b).waiting.any (·.vc = 0) = true) (hstart : s.vcMayStart b 0 = true) :
    s.arbitrate b = some (0, (s.link b).deficit, (s.link b).turn) := by
  have hfirst : (s.eligible b).contains 0 = true := by
    rw [State.eligible, List.contains_iff_mem, List.mem_filter]
    exact ⟨by decide, by rw [hwait, hstart]; rfl⟩
  unfold State.arbitrate
  dsimp only
  rw [if_pos hfirst]

/-- One packet that fits a unit fills it alone, in the clear on a link without encryption. -/
theorem State.buildData_of_single {w : WaitingPkt} (hwait : (s.link b).waiting = [w]) (hvc : w.vc = 0) (hfit : w.bytes.length ≤ 248)
    (hclear : s.flag SFL_ENC_STATUS.ACTIVE b = false) : s.buildData b 0 =
      (toBytes 4 ((s.link b).anBits + bit w.mark * 2 ^ 20 + s.xoffBits b + bit w.begun * 2 ^ 29) ++ padTo 248 w.bytes, none, if w.begun then [] else [w.pkt], []) := by
  have hpack : packVc 0 none 248 [w] = (w.bytes, w.mark, if w.begun then [] else [w.pkt], []) := by
    simp [packVc, hvc, Nat.not_lt.2 hfit]
  unfold State.buildData
  simp [hwait, hclear, hpack, hvc]

variable (hup : s.sflUp b = true) (htiming : (s.link b).timingSlot = false) (htx : s.get SFL_LINK_STAT.TX_STATE b ≠ 1)
include hup htiming htx

theorem dataUnitSend_of_stalled (hstall : s.stalled b = true) : dataUnitSend b s = (s.setTxState b 2).sendNull b := by
  unfold dataUnitSend
  dsimp only
  rw [if_neg (by simp [hup, htiming, htx]), if_pos hstall]

theorem dataUnitSend_of_none (hstall : s.stalled b = false) (hwait : (s.link b).waiting = []) : dataUnitSend b s = (s.setTxState b 0).sendNull b := by
  unfold dataUnitSend
  dsimp only
  rw [if_neg (by simp [hup, htiming, htx]), if_neg (by simp [hstall]), State.arbitrate_of_none (by simpa using hwait)]

/-- A DATA unit of the VC that sends next: it is stored, and the sequence number goes on. -/
theorem dataUnitSend_of_vc {v turn : Nat} {deficit : List Nat} {bytes : List Byte} {slot : Option Nat} {pkts : List Pkt} {rest : List WaitingPkt}
    (hstall : s.stalled b = false) (harb : (s.setTxState b 0).arbitrate b = some (v, deficit, turn))
    (hbuild : (s.setTxState b 0).buildData b v = (bytes, slot, pkts, rest)) : dataUnitSend b s = (s.setTxState b 0).sendData b
      (({ (s.setTxState b 0).link b with
          buf := (s.link b).buf ++ [StoredUnit.mk (s.link b).nextSeq slot v bytes pkts], nextSeq := ((s.link b).nextSeq + 1) % 65536,
          waiting := rest, deficit := deficit, turn := turn }.countTx slot).sent) (sealUnit (s.link b).nextSeq bytes) := by
  unfold dataUnitSend
  dsimp only
  rw [if_neg (by simp [hup, htiming, htx]), if_neg (by simp [hstall]), harb]
  dsimp only
  rw [hbuild]
  rfl

/-- One waiting packet of VC0 that fits a unit is sent in it, in the clear, under the next sequence number, and the unit is stored. -/
theorem dataUnitSend_of_single {w : WaitingPkt} (hstall : s.stalled b = false) (hwait : (s.link b).waiting = [w]) (hvc : w.vc = 0) (hfit : w.bytes.length ≤ 248)
    (hclear : s.flag SFL_ENC_STATUS.ACTIVE b = false) (hopen : s.flag SFL_VC_STAT.XOFF_RX (8 * b) = false) :
    ((dataUnitSend b s).link b).slot = (s.link b).slot + 1 ∧ ((dataUnitSend b s).link b).nextSeq = ((s.link b).nextSeq + 1) % 65536 ∧
      ((dataUnitSend b s).link b).waiting = [] ∧ ((dataUnitSend b s).link b).buf.length = (s.link b).buf.length + 1 ∧
      (dataUnitSend b s).out[s.out.length]? = some (Out.flowUnit b (sealUnit (s.link b).nextSeq
        (toBytes 4 ((s.link b).anBits + bit w.mark * 2 ^ 20 + s.xoffBits b + bit w.begun * 2 ^ 29) ++ padTo 248 w.bytes))) := by
  have hfree : Only (partsMask [.reg .SFL_LINK_STAT, .field .sfl]) s (s.setTxState b 0) := State.setTxState_only rfl (Only.refl _ s)
  have hwait' : ((s.setTxState b 0).link b).waiting = [w] := by simpa using hwait
  have hclear' : (s.setTxState b 0).flag SFL_ENC_STATUS.ACTIVE b = false := by rwa [State.flag, hfree.get_eq SFL_ENC_STATUS.ACTIVE]
  have hopen' : (s.setTxState b 0).flag SFL_VC_STAT.XOFF_RX (8 * b) = false := by rwa [State.flag, hfree.get_eq SFL_VC_STAT.XOFF_RX]
  have harb := State.arbitrate_of_vc0 (s := s.setTxState b 0) (b := b) (by rw [hwait']; simp [hvc]) (by simp [State.vcMayStart, hopen', hclear'])
  rw [dataUnitSend_of_vc hup htiming htx hstall harb (State.buildData_of_single hwait' hvc hfit hclear'), hfree.xoffBits_eq, State.link_setTxState]
  obtain ⟨⟨n, l, hlink⟩, hout⟩ := State.sendData_shows (s.setTxState b 0) b _ _
  rw [hlink]
  exact ⟨rfl, rfl, rfl, List.length_append, hout⟩

end DataUnit

/-! ### Acknowledgement and replay (R116, R118) -/

section Replay

variable (s : State) (b : Nat)

/-- What an ACK frees is gone from the buffer, and STALL may end with it. -/
theorem State.ackFree_buf (aseq : Nat) : ((s.ackFree b aseq).link b).buf = (s.link b).buf.drop ((s.link b).ackPoint aseq) := by
  unfold State.ackFree
  dsimp only
  split_ifs <;> simp

/-- A replay starts at the oldest stored unit, and is counted. -/
theorem State.startReplay_shows : (s.startReplay b).get SFL_LINK_STAT.TX_STATE b = 1 ∧ ((s.startReplay b).link b).replayAt = some 0 ∧
    ((s.startReplay b).link b).buf = (s.link b).buf ∧ ((s.startReplay b).link b).replayCnt = (s.link b).replayCnt + 1 ∧
    (s.startReplay b).get SFL_LINK_CNT.REPLAY b = satAdd SFL_LINK_CNT.REPLAY.width (s.get SFL_LINK_CNT.REPLAY b) 1 := by
  unfold State.startReplay
  extract_lets x u1 u2
  have hcounted : Only tallyParts (u1.count SFL_LINK_CNT.REPLAY b) u2 := State.tallyPort_only rfl (Only.refl _ _)
  have hlink : u2.link b = { x with replayAt := some 0, replayCnt := x.replayCnt + 1 } := by
    rw [hcounted.link_eq, State.link_count, State.link_setLink]
  rw [State.link_setTxState, State.link_count, hlink]
  refine ⟨State.txState_setTxState _ b (by decide), rfl, rfl, rfl, ?_⟩
  rw [State.get_setTxState _ _ _ _ (.inl (by decide))]
  refine (State.get_set_kind _ _ _ _ (by decide)).trans ?_
  rw [hcounted.get_eq SFL_LINK_CNT.REPLAY, State.get_count _ _ _ (by decide), State.get_setLink]

variable {s b}

theorem ackReceived_frees (aseq : Nat) (hup : s.sflUp b = true) : ackReceived b aseq s = s.ackFree b aseq := if_pos hup

theorem nakReceived_replays (aseq : Nat) (hup : s.sflUp b = true) : nakReceived b aseq s = (s.ackFree b aseq).startReplay b := if_pos hup

theorem replayTimeout_replays (hup : s.sflUp b = true) (htx : s.get SFL_LINK_STAT.TX_STATE b ≠ 1) (hbuf : (s.link b).buf ≠ []) :
    replayTimeout b s = s.startReplay b :=
  if_pos ⟨hup, htx, by simpa using hbuf⟩

/-- A stored unit that is not the last is resent as it is stored, and the replay goes on at the next. -/
theorem replayUnitResend_goes_on {i : Nat} {u : StoredUnit} (hup : s.sflUp b = true) (htx : s.get SFL_LINK_STAT.TX_STATE b = 1)
    (htiming : (s.link b).timingSlot = false) (hat : (s.link b).replayAt = some i) (hu : (s.link b).buf[i]? = some u) (hmore : i + 1 < (s.link b).buf.length) :
    (replayUnitResend b s).out[s.out.length]? = some (Out.flowUnit b (sealUnit u.seq u.bytes)) ∧ ((replayUnitResend b s).link b).replayAt = some (i + 1) ∧
      ((replayUnitResend b s).link b).buf = (s.link b).buf := by
  have hnext : replayUnitResend b s =
      (((s.setLink b { s.link b with slot := (s.link b).slot + 1, replayAt := some (i + 1) }).tallyBlock 0x380 b).linkBytes b true).sendUnit b
        (sealUnit u.seq u.bytes) := by
    unfold replayUnitResend
    dsimp only
    rw [if_neg (by simp [hup, htx, htiming]), hat, Option.bind_some, hu]
    exact if_neg (Nat.not_le.2 hmore)
  obtain ⟨⟨n, l, hlink⟩, hout, -⟩ := State.sendUnit_shows
    ((s.setLink b { s.link b with slot := (s.link b).slot + 1, replayAt := some (i + 1) }).dataSent_counts b) b (sealUnit u.seq u.bytes)
  rw [State.link_setLink] at hlink
  rw [hnext, hlink]
  exact ⟨hout, rfl, rfl⟩

end Replay

/-! ### Timers and XOFF (R117, R119, R123) -/

section Timers

variable {s : State} {b v : Nat}

theorem ackTimer_due (hup : s.sflUp b = true) (hsince : 0 < (s.link b).sinceAck) : ((ackTimer b s).link b).ackDue = true := by
  unfold ackTimer
  dsimp only
  rw [if_pos ⟨hup, hsince⟩, State.link_setLink]

/-- A NAK that becomes due, and is counted. -/
def State.owesNak (s : State) (b : Nat) : State := ((s.setLink b { s.link b with nakDue := true }).count SFL_LINK_CNT.NAK_SENT b).tallyBlock 0x385 b

theorem State.owesNak_counts (s : State) (b : Nat) : Only tallyParts ((s.setLink b { s.link b with nakDue := true }).count SFL_LINK_CNT.NAK_SENT b) (s.owesNak b) :=
  State.tallyBlock_only rfl (Only.refl _ _)

theorem State.link_owesNak (s : State) (b : Nat) : (s.owesNak b).link b = { s.link b with nakDue := true } := by
  rw [(s.owesNak_counts b).link_eq, State.link_count, State.link_setLink]

theorem State.owesNak_nakSent (s : State) (b : Nat) :
    (s.owesNak b).get SFL_LINK_CNT.NAK_SENT b = satAdd SFL_LINK_CNT.NAK_SENT.width (s.get SFL_LINK_CNT.NAK_SENT b) 1 := by
  rw [(s.owesNak_counts b).get_eq SFL_LINK_CNT.NAK_SENT, State.get_count _ _ _ (by decide), State.get_setLink]

/-- Of the registers a NAK due changes NAK_SENT and the performance counters alone. -/
theorem State.get_owesNak (s : State) (b : Nat) {F : Fld} (i : Nat) (hF : F.reg ≠ .SFL_LINK_CNT ∨ SFL_LINK_CNT.NAK_SENT.hi < F.lo)
    (hreg : tallyParts.testBit F.reg.ctorIdx = false := by decide) : (s.owesNak b).get F i = s.get F i := by
  rw [(s.owesNak_counts b).get_eq F i hreg]
  rcases hF with hF | hF
  · exact State.get_set_kind _ _ _ _ hF
  · exact State.get_set_bits _ _ _ _ (by decide) (.inr hF)

theorem nakResendTimer_due (hup : s.sflUp b = true) (hdiscard : s.flag SFL_LINK_STAT.RX_DISCARD b = true) : nakResendTimer b s = s.owesNak b :=
  if_pos ⟨hup, hdiscard⟩

theorem xoffUpdate_updates (hup : s.sflUp b = true) : xoffUpdate b v s = s.updXoff b v := if_pos hup

theorem State.updXoff_asserts (h : s.get SFL_VC_STAT.FREE (8 * b + v) ≤ s.get SFL_VC_STAT.THR (8 * b + v)) :
    (s.updXoff b v).get SFL_VC_STAT.XOFF_TX (8 * b + v) = 1 := by
  unfold State.updXoff
  dsimp only
  rw [if_pos h]
  split
  case isTrue hasserted => exact of_decide_eq_true hasserted
  case isFalse => exact (State.get_set_bits _ _ _ _ (by decide) (by decide)).trans (s.get_set_fits _ (by decide) (by decide))

theorem State.updXoff_releases (h : s.get SFL_VC_STAT.THR (8 * b + v) + 32 ≤ s.get SFL_VC_STAT.FREE (8 * b + v)) :
    (s.updXoff b v).get SFL_VC_STAT.XOFF_TX (8 * b + v) = 0 := by
  unfold State.updXoff
  dsimp only
  rw [if_neg (by omega), if_pos h]
  exact s.get_set_fits _ (by decide) (by decide)

/-- XOFF brought up to date leaves the free space of every VC as it is. -/
theorem State.updXoff_free (s : State) (b v i : Nat) : (s.updXoff b v).get SFL_VC_STAT.FREE i = s.get SFL_VC_STAT.FREE i := by
  unfold State.updXoff
  dsimp only
  split_ifs
  · rfl
  · exact (State.get_set_bits _ _ _ _ (by decide) (by decide)).trans (State.get_set_bits _ _ _ _ (by decide) (by decide))
  · exact State.get_set_bits _ _ _ _ (by decide) (by decide)
  · rfl

end Timers

/-! ### Timing slots (R125, R126) -/

/-- A TIMING unit takes its slot, and is what leaves the device next; commands that waited for it follow. -/
theorem timingSlot_sends {s : State} {b : Nat} (hup : s.sflUp b = true) (hslot : (s.link b).slot % 4097 = 4096) :
    ((timingSlot b s).link b).slot = (s.link b).slot + 1 ∧
      (timingSlot b s).out[s.out.length]? = some (Out.flowUnit b (sealUnit 0xFFFF (padTo 252 (toBytes 4 (3 + (s.link b).anBits + s.xoffBits b) ++ toBytes 12 s.time ++
        toBytes 12 (s.link b).echoTx ++ toBytes 12 (s.link b).echoRx ++ s.disciplineBytes)))) := by
  have htiming : (s.link b).timingSlot = true := decide_eq_true hslot
  unfold timingSlot
  extract_lets x ctl body
  rw [if_pos (by rw [hup, htiming]; rfl)]
  have hsent := ((s.setLink b x.sent).sendUnit_emits b (sealUnit 0xFFFF (padTo 252 body))).trans (State.flushCommands_sends _ b)
  obtain ⟨n, l, hlink⟩ := hsent.link
  rw [hlink, State.link_emit, State.link_setLink]
  exact ⟨rfl, hsent.first_out⟩

/-! ### Receiving units (R113, R119, R125) -/

/-- What the receiver's lanes change as blocks are taken: the lanes, their counts, and of the link its place in the row. -/
abbrev receiverParts : Nat := partsMask [.reg .SFL_LANE_STAT, .field .sflLanes, .field .sfl]

section Receiving

variable {s : State} {b : Nat} {unit : List Byte}

theorem State.link_takeBlock (s : State) (b c : Nat) (x : Block) : (s.takeBlock c x).1.link b = s.link b := by
  unfold State.takeBlock
  dsimp only
  split_ifs
  · rw [State.link_count, State.link_setSflLane]
  · rw [State.link_setSflLane]

theorem State.link_takeNext (s : State) (b : Nat) (x : Block) : ∃ n, (s.takeNext b x).1.link b = { s.link b with rxStripe := n } := by
  unfold State.takeNext
  dsimp only
  split
  · exact ⟨_, by rw [State.link_takeBlock, State.link_setLink]⟩
  · exact ⟨_, by rw [State.link_setLink]⟩

/-- One block of a unit taken: the bytes so far with the block's, and whether one was bad. -/
def takeUnitStep (b : Nat) (a : State × List Byte × Bool) (x : Block) : State × List Byte × Bool :=
  ((a.1.takeNext b x).1, a.2.1 ++ toBytes 8 (a.1.takeNext b x).2.1.2, a.2.2 || (a.1.takeNext b x).2.2 || decide ((a.1.takeNext b x).2.1.1 ≠ 1))

theorem link_takeUnitSteps (b : Nat) (blocks : List Block) (a : State × List Byte × Bool) :
    ∃ n, (blocks.foldl (takeUnitStep b) a).1.link b = { a.1.link b with rxStripe := n } := by
  induction blocks generalizing a with
  | nil => exact ⟨_, rfl⟩
  | cons x blocks ih =>
    obtain ⟨n, hn⟩ := ih (takeUnitStep b a x)
    obtain ⟨_, hx⟩ := a.1.link_takeNext b x
    exact ⟨n, by rw [List.foldl_cons, hn, takeUnitStep, hx]⟩

theorem State.link_takeUnit (s : State) (b : Nat) (blocks : List Block) : ∃ n, (s.takeUnit b blocks).1.link b = { s.link b with rxStripe := n } :=
  link_takeUnitSteps b blocks _

/-- A unit slot that has passed and ends no symbol window: the slot count goes on, and nothing but the receiver's lanes has changed with it. -/
theorem State.unit_passes {blocks : List Block} (hwindow : (s.link b).window + 1 ≠ 16777216) : Only receiverParts s ((s.takeUnit b blocks).1.slotTaken b) ∧
    ∃ n w, ((s.takeUnit b blocks).1.slotTaken b).link b = { s.link b with rxStripe := n, rxSlot := (s.link b).rxSlot + 1, window := w } := by
  obtain ⟨n, hn⟩ := s.link_takeUnit b blocks
  have htaken : Only receiverParts s (s.takeUnit b blocks).1 := State.takeUnit_only rfl (Only.refl _ s)
  unfold State.slotTaken
  dsimp only
  rw [hn, if_neg hwindow]
  exact ⟨State.setLink_only rfl htaken, n, _, State.link_setLink ..⟩

theorem flowUnitReceived_in_timing_slot {blocks : List Block} (hup : s.sflUp b = true) (hslot : (s.link b).rxSlot % 4097 = 4096) :
    flowUnitReceived b blocks s = ((s.takeUnit b blocks).1.slotTaken b).timingTaken b (s.takeUnit b blocks).2.1 (s.takeUnit b blocks).2.2 := by
  obtain ⟨n, hn⟩ := s.link_takeUnit b blocks
  unfold flowUnitReceived
  dsimp only
  rw [if_neg (by simp [hup]), hn, if_pos hslot]

theorem flowUnitReceived_in_data_slot {blocks : List Block} (hup : s.sflUp b = true) (hslot : (s.link b).rxSlot % 4097 ≠ 4096) :
    flowUnitReceived b blocks s = ((s.takeUnit b blocks).1.slotTaken b).unitTaken b (s.takeUnit b blocks).2.1 (s.takeUnit b blocks).2.2 := by
  obtain ⟨n, hn⟩ := s.link_takeUnit b blocks
  unfold flowUnitReceived
  dsimp only
  rw [if_neg (by simp [hup]), hn, if_neg hslot]

/-! Units that fail -/

theorem State.timingTaken_of_bad (unit : List Byte) : s.timingTaken b unit true = s.count SFL_LINK_CNT2.TIMING_BAD b := if_pos rfl

theorem State.unitTaken_of_bad (unit : List Byte) (hfirst : s.flag SFL_LINK_STAT.RX_DISCARD b = false) :
    ∃ u, Only tallyParts s u ∧ s.unitTaken b unit true = ((u.count SFL_LINK_CNT.DISCARD b).set SFL_LINK_STAT.RX_DISCARD b 1).owesNak b := by
  refine ⟨if unitOk (s.link b).expSeq unit then s else s.tallyPort 7 (2 * b), Only.ite (Only.refl _ s) (State.tallyPort_only rfl (Only.refl _ s)), ?_⟩
  unfold State.unitTaken
  dsimp only
  rw [if_pos (by rfl), hfirst]
  rfl

/-- A bad unit is discarded: counted, with a NAK due and the expected sequence number kept. -/
theorem State.unitTaken_discards (unit : List Byte) (hfirst : s.flag SFL_LINK_STAT.RX_DISCARD b = false) :
    (s.unitTaken b unit true).get SFL_LINK_STAT.RX_DISCARD b = 1 ∧ ((s.unitTaken b unit true).link b).nakDue = true ∧
      ((s.unitTaken b unit true).link b).expSeq = (s.link b).expSeq ∧
      (s.unitTaken b unit true).get SFL_LINK_CNT.DISCARD b = satAdd SFL_LINK_CNT.DISCARD.width (s.get SFL_LINK_CNT.DISCARD b) 1 := by
  obtain ⟨u, hu, hdiscard⟩ := State.unitTaken_of_bad unit hfirst
  rw [hdiscard, State.link_owesNak, State.link_set, State.link_count, hu.link_eq]
  refine ⟨?_, rfl, rfl, ?_⟩
  · rw [State.get_owesNak _ _ _ (.inl (by decide)), State.get_set_fits _ _ (by decide) (by decide)]
  · rw [State.get_owesNak _ _ _ (.inr (by decide)), State.get_set_kind _ _ _ _ (by decide), State.get_count _ _ _ (by decide), hu.get_eq SFL_LINK_CNT.DISCARD]

/-! A DATA unit accepted -/

/-- The XOFF bits of a unit taken. -/
def State.takeXoff (b : Nat) (unit : List Byte) (s : State) : State :=
  s.each (List.range 8) fun v t => t.set SFL_VC_STAT.XOFF_RX (8 * b + v) (unitField unit (21 + v) (21 + v))

theorem State.actOn_of_noAn (han : unitField unit 7 6 = 0) : s.actOn b unit = s.takeXoff b unit := by
  unfold State.actOn
  rw [han]
  rfl

theorem State.takeXoff_only (s : State) (b : Nat) (unit : List Byte) : Only (partsMask [.reg .SFL_VC_STAT]) s (s.takeXoff b unit) :=
  State.each_only (fun _ _ hu => State.set_only rfl hu) (Only.refl _ s)

theorem State.takeXoff_free (s : State) (b : Nat) (unit : List Byte) (i : Nat) : (s.takeXoff b unit).get SFL_VC_STAT.FREE i = s.get SFL_VC_STAT.FREE i :=
  State.each_keeps (fun t => t.get SFL_VC_STAT.FREE i) _ fun _ u => u.get_set_bits _ _ _ (by decide) (by decide)

theorem Only.joined_eq {G : Nat} {s t : State} (h : Only G s t) (hmember : G.testBit (RegKind.ctorIdx .MGT_FAB_MEMBER) = false := by decide)
    (hchip : G.testBit (RegKind.ctorIdx .MGT_CHIP_INFO) = false := by decide) : t.joined = s.joined := by
  unfold State.joined
  rw [h.get_eq MGT_CHIP_INFO.CHIP_ID 0 hchip, h.get_eq MGT_FAB_MEMBER.STATE _ hmember]

/-- A clear DATA unit with the expected sequence number and space in its VC is delivered. -/
theorem State.unitTaken_of_clear (hclear : s.flag SFL_ENC_STATUS.ACTIVE b = false) (hok : unitOk (s.link b).expSeq unit = true) (hkind : unitField unit 1 0 = 0)
    (han : unitField unit 7 6 = 0) (hfree : s.get SFL_VC_STAT.FREE (8 * b + unitField unit 4 2) ≠ 0) (hmember : s.joined = true ∨ unitField unit 4 2 = 0) :
    s.unitTaken b unit false = ((s.takeXoff b unit).deliverUnit b unit ((unit.drop 4).take 248) none).linkBytes b false := by
  have hopen : s.openData b unit = some ((unit.drop 4).take 248, none) := by
    unfold State.openData
    dsimp only
    rw [if_pos (by rw [hclear]; rfl)]
  have hspace : ¬ ((s.takeXoff b unit).get SFL_VC_STAT.FREE (8 * b + unitField unit 4 2) = 0 ∨ unitField unit 4 2 ≠ 0 ∧ !(s.takeXoff b unit).joined) := by
    rw [State.takeXoff_free, (s.takeXoff_only b unit).joined_eq]
    rintro (h | ⟨hvc, hout⟩)
    · exact hfree h
    · rcases hmember with h | h
      · exact absurd hout (by simp [h])
      · exact hvc h
  unfold State.unitTaken
  dsimp only
  rw [hok, if_pos rfl, hkind, if_neg (by decide), if_pos rfl, hopen]
  dsimp only
  rw [State.actOn_of_noAn han, if_neg hspace]

/-- A delivered unit takes the expected sequence number and one place of its VC, and stands behind those accepted before. -/
theorem State.deliverUnit_shows (s : State) (b : Nat) (unit payload : List Byte) (slot : Option Nat) :
    ((s.deliverUnit b unit payload slot).link b).expSeq = ((s.link b).expSeq + 1) % 65536 ∧
      (s.deliverUnit b unit payload slot).get SFL_VC_STAT.FREE (8 * b + unitField unit 4 2) = s.get SFL_VC_STAT.FREE (8 * b + unitField unit 4 2) - 1 ∧
      (s.deliverUnit b unit payload slot).get SFL_LINK_STAT.RX_DISCARD b = 0 ∧ ((s.deliverUnit b unit payload slot).link b).rxSlot = (s.link b).rxSlot ∧
      ((s.deliverUnit b unit payload slot).link b).accepted = (s.link b).accepted ++
        [AcceptedUnit.mk (unitField unit 4 2) (decide (unitField unit 29 29 = 1)) (decide (unitField unit 20 20 = 1)) payload] := by
  unfold State.deliverUnit
  extract_lets x vc keys n u1 i u2 u3
  have hlink : (u3.set SFL_ENC_STATUS.LAST_RX_KID b (slot.getD 0)).link b = u1.link b := by
    rw [State.link_set, State.link_set, (State.updXoff_only (b := b) (v := vc) (Sub.refl _) (Only.refl _ _)).link_eq, State.link_set]
  rw [hlink, State.link_setLink]
  refine ⟨rfl, ?_, ?_, rfl, rfl⟩
  · rw [State.get_set_kind _ _ _ _ (by decide), State.get_set_kind _ _ _ _ (by decide), State.updXoff_free]
    exact State.get_set_fits _ _ (by decide) (lt_of_le_of_lt (Nat.sub_le _ _) (s.get_lt _ _))
  · rw [State.get_set_kind _ _ _ _ (by decide)]
    exact State.get_set_fits _ _ (by decide) (by decide)

end Receiving

/-- Settles O8: each command's meaning on an ACTIVE link does what the rules of units, acknowledgement and replay say. -/
theorem unitsAcknowledged : Obligations.UnitsAcknowledged := by
  unfold Obligations.UnitsAcknowledged
  refine ⟨?null, ?data, ?stall, ?accepted, ?bad, ?badTiming, ?ack, ?nak, ?timeout, ?resend, ?ackTimer, ?nakTimer, ?xoff, ?xon, ?timing⟩
  case null =>
    intro s b hb hup htiming htx hstall hwait
    refine ⟨_, run_true (decide_eq_true hb), ?_⟩
    rw [dataUnitSend_of_none hup htiming htx hstall hwait]
    have hfree : Only (partsMask [.reg .SFL_LINK_STAT, .field .sfl]) s (s.setTxState b 0) := State.setTxState_only rfl (Only.refl _ s)
    obtain ⟨hslot, hseq, -, -, -, hout⟩ := (s.setTxState b 0).sendNull_shows b
    rw [hfree.xoffBits_eq] at hout
    rw [State.link_setTxState] at hslot hseq hout
    exact ⟨hslot, hseq, hout⟩
  case data =>
    intro s b w hb hup htiming htx hstall hwait hvc hfit hclear hopen
    exact ⟨_, run_true (decide_eq_true hb), dataUnitSend_of_single hup htiming htx hstall hwait hvc hfit hclear hopen⟩
  case stall =>
    intro s b hb hup htiming htx hstall
    refine ⟨_, run_true (decide_eq_true hb), ?_⟩
    rw [dataUnitSend_of_stalled hup htiming htx hstall]
    obtain ⟨-, -, hbuf, hwait, hstate, -⟩ := (s.setTxState b 2).sendNull_shows b
    rw [State.link_setTxState] at hbuf hwait
    exact ⟨hstate.trans (s.txState_setTxState b (by decide)), hbuf, hwait⟩
  case accepted =>
    intro s b blocks unit hb hup hunit hslot hwindow hclear hok hkind han hfree hmember
    obtain ⟨hpart, n, w, hlink⟩ := State.unit_passes (blocks := blocks) hwindow
    refine ⟨_, run_true (decide_eq_true hb), ?_⟩
    rw [flowUnitReceived_in_data_slot hup hslot, hunit]
    generalize (s.takeUnit b blocks).1.slotTaken b = u at hpart hlink
    have hfreeAt : ∀ i, u.get SFL_VC_STAT.FREE i = s.get SFL_VC_STAT.FREE i := hpart.get_eq SFL_VC_STAT.FREE
    rw [State.unitTaken_of_clear (by rwa [State.flag, hpart.get_eq SFL_ENC_STATUS.ACTIVE]) (by rwa [hlink]) hkind han (by rwa [hfreeAt]) (by rwa [hpart.joined_eq])]
    obtain ⟨hseq, hspace, hdiscard, hrx, haccepted⟩ := (u.takeXoff b unit).deliverUnit_shows b unit ((unit.drop 4).take 248) none
    rw [(u.takeXoff_only b unit).link_eq, hlink] at hseq hrx haccepted
    rw [State.takeXoff_free, hfreeAt] at hspace
    generalize (u.takeXoff b unit).deliverUnit b unit ((unit.drop 4).take 248) none = d at hseq hspace hdiscard hrx haccepted
    have hcounted : Only tallyParts d (d.linkBytes b false) := State.linkBytes_only rfl (Only.refl _ d)
    rw [hcounted.link_eq, hcounted.get_eq SFL_VC_STAT.FREE, hcounted.get_eq SFL_LINK_STAT.RX_DISCARD]
    exact ⟨hseq, hspace, hdiscard, hrx, haccepted⟩
  case bad =>
    intro s b blocks hb hup hbad hslot hwindow hfirst
    obtain ⟨hpart, n, w, hlink⟩ := State.unit_passes (blocks := blocks) hwindow
    refine ⟨_, run_true (decide_eq_true hb), ?_⟩
    rw [flowUnitReceived_in_data_slot hup hslot, hbad]
    generalize (s.takeUnit b blocks).1.slotTaken b = u at hpart hlink
    obtain ⟨hdiscard, hnak, hseq, hcount⟩ := State.unitTaken_discards (s := u) (b := b) (s.takeUnit b blocks).2.1
      (by rwa [State.flag, hpart.get_eq SFL_LINK_STAT.RX_DISCARD])
    rw [hlink] at hseq
    rw [hpart.get_eq SFL_LINK_CNT.DISCARD] at hcount
    exact ⟨hdiscard, hnak, hseq, hcount⟩
  case badTiming =>
    intro s b blocks hb hup hbad hslot hwindow
    obtain ⟨hpart, n, w, hlink⟩ := State.unit_passes (blocks := blocks) hwindow
    refine ⟨_, run_true (decide_eq_true hb), ?_⟩
    rw [flowUnitReceived_in_timing_slot hup hslot, hbad, State.timingTaken_of_bad, State.link_count, hlink, State.get_count _ _ _ (by decide),
      hpart.get_eq SFL_LINK_CNT2.TIMING_BAD, ← hpart.get_eq SFL_LINK_STAT.RX_DISCARD]
    exact ⟨State.get_set_kind _ _ _ _ (by decide), rfl, rfl, rfl⟩
  case ack =>
    intro s b aseq hb hup
    refine ⟨_, run_true (decide_eq_true hb), ?_⟩
    rw [ackReceived_frees aseq hup, State.ackFree_buf]
  case nak =>
    intro s b aseq hb hup
    refine ⟨_, run_true (decide_eq_true hb), ?_⟩
    rw [nakReceived_replays aseq hup]
    obtain ⟨hstate, hat, hbuf, -, -⟩ := (s.ackFree b aseq).startReplay_shows b
    exact ⟨hstate, hat, hbuf.trans (s.ackFree_buf b aseq)⟩
  case timeout =>
    intro s b hb hup htx hbuf
    refine ⟨_, run_true (decide_eq_true hb), ?_⟩
    rw [replayTimeout_replays hup htx hbuf]
    obtain ⟨hstate, hat, -, hcnt, hcounted⟩ := s.startReplay_shows b
    exact ⟨hstate, hat, hcnt, hcounted⟩
  case resend =>
    intro s b i u hb hup htx htiming hat hu hmore
    exact ⟨_, run_true (decide_eq_true hb), replayUnitResend_goes_on hup htx htiming hat hu hmore⟩
  case ackTimer => exact fun s b hb hup hsince => ⟨_, run_true (decide_eq_true hb), ackTimer_due hup hsince⟩
  case nakTimer =>
    intro s b hb hup hdiscard
    refine ⟨_, run_true (decide_eq_true hb), ?_⟩
    rw [nakResendTimer_due hup hdiscard, State.link_owesNak]
    exact ⟨rfl, s.owesNak_nakSent b⟩
  case xoff =>
    intro s b v hb hv hup h
    refine ⟨_, run_true (by simp [hb, hv]), ?_⟩
    rw [xoffUpdate_updates hup]
    exact State.updXoff_asserts h
  case xon =>
    intro s b v hb hv hup h
    refine ⟨_, run_true (by simp [hb, hv]), ?_⟩
    rw [xoffUpdate_updates hup]
    exact State.updXoff_releases h
  case timing => exact fun s b hb hup hslot => ⟨_, run_true (decide_eq_true hb), timingSlot_sends hup hslot⟩

end Sys2Proof.Machine

namespace Sys2Proof.Machine

-- Proofs are elaborated one after another: each proof thread costs the check 256 MB of stack.
set_option Elab.async false

set_option exponentiation.threshold 500

/-! ### Commands in band, as they arrive (R127) -/

section Arrival

variable {s : State} {b cmd bits copies : Nat}

theorem State.sflUp_of_takesCommand (h : s.takesCommand b cmd bits copies = true) : s.sflUp b = true := by
  unfold State.takesCommand at h
  simp only [Bool.and_eq_true] at h
  exact h.1.1.1

theorem State.skipRow_lanes (s : State) (b : Nat) : Only (partsMask [.field .sflLanes]) s (s.skipRow b) := State.skipRow_only rfl (Only.refl _ s)

@[simp] theorem State.link_skipRow (s : State) (b : Nat) : (s.skipRow b).link b = s.link b := (s.skipRow_lanes b).link_eq b

@[simp] theorem State.get_skipRow (s : State) (b : Nat) (F : Fld) (i : Nat) : (s.skipRow b).get F i = s.get F i := (s.skipRow_lanes b).get_eq_of_fields F i

end Arrival

/-! ### KEYSYNC (R135) -/

section Keysync

variable {s : State} {b bits copies : Nat}

theorem keysync_of_not_taken (hup : s.sflUp b = true) (h : s.takesCommand b 5 bits copies = false) : keysync b bits copies s = s.skipRow b := by
  unfold keysync
  dsimp only
  rw [h, if_pos hup, if_pos (show (!false) = true from rfl)]

/-- The count of a receive slot replaced. -/
def SflLink.countRx (x : SflLink) (slot n : Nat) : SflLink := { x with rxKeys := x.rxKeys.set slot { x.rxKeys.getD slot KeySlot.empty with count := n } }

theorem SflLink.countRx_count (x : SflLink) {slot : Nat} (n : Nat) (h : slot < x.rxKeys.length) :
    ((x.countRx slot n).rxKeys.getD slot KeySlot.empty).count = n := by
  unfold SflLink.countRx
  rw [List.getD_eq_getElem?_getD, List.getElem?_set_self h]
  rfl

/-- A KEYSYNC taken: PEER_RXV is its own, and where it names a key the receive count rises, or the lower one is counted. -/
theorem keysync_of_taken (h : s.takesCommand b 5 bits copies = true) : keysync b bits copies s =
    if bits / 2 ^ 5 % 2 = 0 then (s.skipRow b).set SFL_ENC_STATUS.PEER_RXV b (bits / 2 ^ 6 % 4)
    else if ((s.link b).rxKeys.getD (bits / 2 ^ 4 % 2) KeySlot.empty).count ≤ bits / 2 ^ 8 % 2 ^ 40 * 256 then
      ((s.skipRow b).set SFL_ENC_STATUS.PEER_RXV b (bits / 2 ^ 6 % 4)).setLink b ((s.link b).countRx (bits / 2 ^ 4 % 2) (bits / 2 ^ 8 % 2 ^ 40 * 256))
    else ((s.skipRow b).set SFL_ENC_STATUS.PEER_RXV b (bits / 2 ^ 6 % 4)).count SFL_ENC_STATUS.SYNC_LOW b := by
  unfold keysync
  dsimp only
  rw [h, if_pos (State.sflUp_of_takesCommand h), if_neg (by decide), State.link_skipRow]
  rfl

theorem keysync_peerRxv (h : s.takesCommand b 5 bits copies = true) : (keysync b bits copies s).get SFL_ENC_STATUS.PEER_RXV b = bits / 2 ^ 6 % 4 := by
  have hset : ((s.skipRow b).set SFL_ENC_STATUS.PEER_RXV b (bits / 2 ^ 6 % 4)).get SFL_ENC_STATUS.PEER_RXV b = bits / 2 ^ 6 % 4 :=
    State.get_set_fits _ _ (by decide) (lt_of_lt_of_le (Nat.mod_lt _ (show 0 < 4 by decide)) (by decide))
  rw [keysync_of_taken h]
  split_ifs
  · exact hset
  · rw [State.get_setLink, hset]
  · exact (State.get_set_bits _ _ _ _ (by decide) (by decide)).trans hset

theorem keysync_rxCount (h : s.takesCommand b 5 bits copies = true) (hkey : bits / 2 ^ 5 % 2 = 1) (hslots : (s.link b).rxKeys.length = 2) :
    (((keysync b bits copies s).link b).rxKeys.getD (bits / 2 ^ 4 % 2) KeySlot.empty).count =
      max ((s.link b).rxKeys.getD (bits / 2 ^ 4 % 2) KeySlot.empty).count (bits / 2 ^ 8 % 2 ^ 40 * 256) := by
  have hslot : bits / 2 ^ 4 % 2 < (s.link b).rxKeys.length := by
    rw [hslots]
    exact Nat.mod_lt _ (by decide)
  rw [keysync_of_taken h, if_neg (by rw [hkey]; decide)]
  generalize bits / 2 ^ 8 % 2 ^ 40 * 256 = n
  split_ifs with hn
  · rw [State.link_setLink, SflLink.countRx_count _ n hslot, Nat.max_eq_right hn]
  · rw [State.link_count, State.link_set, State.link_skipRow, Nat.max_eq_left (Nat.le_of_not_le hn)]

end Keysync

/-! ### Keys committed (R133, R134) -/

section Commit

/-- A bit of a field of two bits set reads 1, and the field keeps its width. -/
theorem withBit_of_two_bits : ∀ n < 4, ∀ i < 2, withBit n i true < 4 ∧ bitOf (withBit n i true) i = true := by decide

theorem State.get_setReg_kind (s : State) (k : RegKind) (j : Nat) (w : Word) {F : Fld} (i : Nat) (h : F.reg ≠ k) : (s.setReg k j w).get F i = s.get F i := by
  unfold State.get
  rw [s.reg_setReg_other w (.inl h)]

/-- Registers cleared one by one read 0, and stay so. -/
theorem State.each_clears (s : State) (k : RegKind) (n j : Nat) (l : List Nat) (h : j ∈ l ∨ s.reg k (n + j) = 0) :
    (s.each l fun i t => t.setReg k (n + i) 0).reg k (n + j) = 0 := by
  induction l generalizing s with
  | nil => exact h.resolve_left List.not_mem_nil
  | cons i l ih =>
    refine ih _ ?_
    by_cases hi : j = i
    · exact .inr (by rw [hi, State.reg_setReg_self])
    · refine h.imp (fun hj => (List.mem_cons.1 hj).resolve_left hi) fun hs => ?_
      rw [s.reg_setReg_other 0 (.inr (by omega)), hs]

variable {s : State} {b : Nat} {v : Word} (hfab : s.isFabric b = true) (hcommit : v.field SFL_KEY_CMD.COMMIT.hi SFL_KEY_CMD.COMMIT.lo = 1)
include hfab hcommit

/-- A receive key is taken where no encrypted unit has been accepted: its slot is valid, KEY_ERR reads 0, and the key data is cleared. -/
theorem sflKeyCommit_of_receive (hdir : v.field SFL_KEY_CMD.DIR.hi SFL_KEY_CMD.DIR.lo = 1) (hseen : (s.link b).encSeen = false) :
    (sflKeyCommit b v s).get SFL_ENC_STATUS.KEY_ERR b = 0 ∧
      bitOf ((sflKeyCommit b v s).get SFL_ENC_STATUS.RX_VALID b) (v.field SFL_KEY_CMD.SLOT.hi SFL_KEY_CMD.SLOT.lo) = true ∧
      ∀ j ∈ List.range 4, (sflKeyCommit b v s).reg .SFL_KEY_DATA (4 * b + j) = 0 := by
  have hslot : v.field SFL_KEY_CMD.SLOT.hi SFL_KEY_CMD.SLOT.lo < 2 := Nat.mod_lt _ (by decide)
  unfold sflKeyCommit
  extract_lets fld i rx x busy key k u1 u2 u3 u4
  have hrx : rx = true := decide_eq_true hdir
  have hbusy : busy = false := by simp [busy, hrx, x, hseen]
  rw [if_neg (by simp [fld, hcommit, hfab]), hbusy, if_neg (by decide)]
  have hsent : Sends b (u4.showTxCount b) ((u4.showTxCount b).sendKeysync b) := State.sendKeysync_sends ..
  have hkept : ∀ {F : Fld}, F.reg = .SFL_ENC_STATUS → F.hi < SFL_ENC_STATUS.TX_COUNT.lo → ((u4.showTxCount b).sendKeysync b).get F b = u3.get F b := by
    intro F hF hbits
    rw [hsent.get]
    refine (State.get_set_bits _ _ _ _ (by decide) (.inl hbits)).trans ?_
    exact State.each_keeps (fun t => t.get F b) _ fun _ u => u.get_setReg_kind _ _ _ _ (by rw [hF]; decide)
  refine ⟨?_, ?_, fun j hj => ?_⟩
  · rw [hkept rfl (by decide)]
    exact State.get_set_fits _ _ (by decide) (by decide)
  · obtain ⟨hfits, hbit⟩ := withBit_of_two_bits (u1.get SFL_ENC_STATUS.RX_VALID b) (u1.get_lt b SFL_ENC_STATUS.RX_VALID) i hslot
    have hset : u2.get SFL_ENC_STATUS.RX_VALID b = withBit (u1.get SFL_ENC_STATUS.RX_VALID b) i true := by
      rw [show u2 = u1.setBit SFL_ENC_STATUS.RX_VALID b i true from if_pos hrx]
      exact State.get_set_fits _ _ (by decide) hfits
    rw [hkept rfl (by decide), State.get_set_bits _ _ _ _ (by decide) (by decide), hset]
    exact hbit
  · rw [hsent.reg, State.showTxCount, State.reg_set_other _ _ (.inl (by decide))]
    exact State.each_clears _ _ _ _ _ (.inl hj)

/-- The transmit slot in use is refused as busy. -/
theorem sflKeyCommit_of_busy (hdir : v.field SFL_KEY_CMD.DIR.hi SFL_KEY_CMD.DIR.lo = 0)
    (hslot : v.field SFL_KEY_CMD.SLOT.hi SFL_KEY_CMD.SLOT.lo = s.get SFL_ENC_CTL.TX_SLOT b)
    (hvalid : ((s.link b).txKeys.getD (s.get SFL_ENC_CTL.TX_SLOT b) KeySlot.empty).valid = true) : sflKeyCommit b v s = s.set SFL_ENC_STATUS.KEY_ERR b 1 := by
  unfold sflKeyCommit
  extract_lets fld i rx x busy
  have hrx : rx = false := by simp [rx, fld, hdir]
  have hi : i = s.get SFL_ENC_CTL.TX_SLOT b := hslot
  have hbusy : busy = true := by simp only [busy, hrx, hi, x, hvalid]; simp
  rw [if_neg (by simp [fld, hcommit, hfab]), if_pos hbusy]

end Commit

/-! ### TX_SLOT and the limits of a count (R134) -/

section Slots

variable {s : State} {b i : Nat}

theorem txSlotWrite_of_key (hi : i < 2) (hfab : s.isFabric b = true) (hvalid : ((s.link b).txKeys.getD i KeySlot.empty).valid = true) :
    (txSlotWrite b i s).get SFL_ENC_CTL.TX_SLOT b = i := by
  have hset : ((s.set SFL_ENC_CTL.TX_SLOT b i).showTxCount b).get SFL_ENC_CTL.TX_SLOT b = i :=
    (State.get_set_kind _ _ _ _ (by decide)).trans (s.get_set_fits b (by decide) hi)
  unfold txSlotWrite
  dsimp only
  rw [if_neg (by simp [hfab]), if_pos hvalid]
  split
  · rw [State.get_setTxState _ _ _ _ (.inl (by decide)), hset]
  · exact hset

theorem txSlotWrite_of_empty (hfab : s.isFabric b = true) (hvalid : ((s.link b).txKeys.getD i KeySlot.empty).valid = false) :
    txSlotWrite b i s = s.set SFL_ENC_STATUS.KEY_ERR b 2 := by
  unfold txSlotWrite
  rw [if_neg (by simp [hfab]), if_neg (by rw [hvalid]; decide)]

theorem keyCountLimit_notices (hcount : ((s.link b).txKeys.getD i KeySlot.empty).count = 2 ^ 40) :
    keyCountLimit b i s = s.notice (353 + 2 * b) 1 (i + 1024) := if_pos hcount

/-- A spent slot in use puts the sender in STALL. -/
theorem keyCountLimit_stalls (hup : s.sflUp b = true) (hslot : i = s.get SFL_ENC_CTL.TX_SLOT b) (hspent : s.keySpent b = true)
    (htx : s.get SFL_LINK_STAT.TX_STATE b ≠ 1) : keyCountLimit b i s = s.setTxState b 2 := by
  have hcount : 2 ^ 48 ≤ ((s.link b).txKeys.getD i KeySlot.empty).count := by
    unfold State.keySpent at hspent
    simp only [Bool.and_eq_true, decide_eq_true_eq] at hspent
    exact hslot ▸ hspent.2
  unfold keyCountLimit
  dsimp only
  rw [if_neg (by omega), if_pos ⟨hspent, hslot, hup, htx⟩]

end Slots

/-- Settles O10: KEYSYNC, the commit of a key, the choice of a slot and the limits of its count, each by its command's own lemma. -/
theorem linkKeysKept : Obligations.LinkKeysKept := by
  unfold Obligations.LinkKeysKept
  refine ⟨?peer, ?count, ?ignored, ?receive, ?busy, ?taken, ?notValid, ?limit, ?spent⟩
  case peer => exact fun s b bits copies hb h => ⟨_, run_true (decide_eq_true hb), keysync_peerRxv h⟩
  case count => exact fun s b bits copies hb h hkey hslots => ⟨_, run_true (decide_eq_true hb), keysync_rxCount h hkey hslots⟩
  case ignored => exact fun s b bits copies hb hup h => (run_true (decide_eq_true hb)).trans (congrArg _ (keysync_of_not_taken hup h))
  case receive =>
    exact fun s b v hb hfab hcommit hdir hseen => ⟨_, run_true (decide_eq_true hb), sflKeyCommit_of_receive hfab hcommit hdir hseen⟩
  case busy =>
    intro s b v hb hfab hcommit hdir hslot hvalid
    refine ⟨_, run_true (decide_eq_true hb), ?_⟩
    rw [sflKeyCommit_of_busy hfab hcommit hdir hslot hvalid]
    exact ⟨State.get_set_fits _ _ (by decide) (by decide), State.link_set ..⟩
  case taken => exact fun s b i hb hi hfab hvalid => ⟨_, run_true (by simp [hb, hi]), txSlotWrite_of_key hi hfab hvalid⟩
  case notValid =>
    intro s b i hb hi hfab hvalid
    refine ⟨_, run_true (by simp [hb, hi]), ?_⟩
    rw [txSlotWrite_of_empty hfab hvalid]
    exact ⟨State.get_set_fits _ _ (by decide) (by decide), State.get_set_kind _ _ _ _ (by decide)⟩
  case limit => exact fun s b i hb hi hcount => (run_true (by simp [hb, hi])).trans (congrArg _ (keyCountLimit_notices hcount))
  case spent =>
    intro s b i hb hi hup hslot hspent htx
    refine ⟨_, run_true (by simp [hb, hi]), ?_⟩
    rw [keyCountLimit_stalls hup hslot hspent htx]
    exact State.txState_setTxState _ _ (by decide)

end Sys2Proof.Machine

namespace Sys2Proof.Machine

-- Proofs are elaborated one after another: each proof thread costs the check 256 MB of stack.
set_option Elab.async false

set_option exponentiation.threshold 500

/-! ### A corrected cause fences nothing (R382, R383) -/

/-- What a cause that cannot become fatal changes: the fault records, the event ring with its counters, and FAULT_N as FLT_STAT shows it. -/
abbrev correctedParts : Nat :=
  partsMask [.reg .FLT_REC0, .reg .FLT_REC1, .reg .FLT_REC2, .reg .FLT_REC3, .reg .FLT_STAT, .reg .MGT_EVT_STAT, .reg .CNT_VAL, .reg .MGT_EVT_REC]

/-- A cause of class 0 escalates to class 1 at most, and stops nothing. -/
theorem State.recordCause_corrected {G : Nat} {s0 s : State} {ev detail : Nat} {inj : Bool} (hG : Sub correctedParts G) (hS : Only G s0 s) :
    Only G s0 (s.recordCause ev 0 detail inj) := by
  unfold State.recordCause
  extract_lets c first counted escalated raised second multi worst merged u
  have hfirst : Only G s0 first := State.queueEvent_only (hG.of (by decide)) (State.fillRecord_only (hG.of (by decide)) hS)
  have hsecond : Only G s0 second := State.queueEvent_only (hG.of (by decide)) (State.set_only (hG.of (by decide)) (State.set_only (hG.of (by decide))
    (State.count_only (hG.of (by decide)) hS)))
  have hmerged : Only G s0 merged := State.queueEvent_only (hG.of (by decide)) (State.set_only (hG.of (by decide)) (State.set_only (hG.of (by decide))
    (State.count_only (hG.of (by decide)) hS)))
  refine State.updFaultN_only (hG.of (by decide)) ?_
  dsimp only [u]
  rw [if_neg (show ¬ (0 = 2) by decide), if_neg (show ¬ (0 + 1 = 2) by decide), if_neg (show ¬ (0 = 2) by decide)]
  exact Only.ite hfirst (Only.ite hsecond hmerged)

/-- What a spare switched onto a pair changes. -/
abbrev spareParts : Nat :=
  partsMask [.reg .PRT_LANE_MAP, .reg .FLT_POOL, .field .repairMap, .reg .FLT_REC0, .reg .FLT_REC1, .reg .FLT_REC2, .reg .FLT_REC3, .reg .FLT_STAT,
    .reg .MGT_EVT_STAT, .reg .CNT_VAL, .reg .MGT_EVT_REC]

theorem State.mapSpare_corrected (s : State) (b k kind : Nat) : Only spareParts s (s.mapSpare b k kind) := by
  unfold State.mapSpare State.cause
  exact State.recordCause_corrected rfl (State.recordSpare_only rfl (State.count_only rfl (State.set_only rfl (State.set_only rfl (State.set_only rfl (Only.refl _ s))))))

/-! ### Lane sets asked for and answered (R127 to R130) -/

section LaneSets

variable {s : State} {b : Nat} {bits copies : Nat}

/-- A lane changed in nothing that `g` sees leaves what `g` sees of every lane. -/
theorem State.setSflLane_keeps {α : Type} (g : SflLane → α) (s : State) (d k : Nat) (x : SflLane) (hx : g x = g (s.sflLane d k)) (e j : Nat) :
    g ((s.setSflLane d k x).sflLane e j) = g (s.sflLane e j) := by
  unfold State.setSflLane State.sflLane at *
  by_cases h : 9 * e + j = 9 * d + k
  · rw [h]
    dsimp only
    rw [Tbl.rd_wr_self, hx]
  · dsimp only
    rw [Tbl.rd_wr_other _ _ _ h]

/-- The copies of a command taken move the descramblers on, and nothing else of a lane. -/
theorem State.skipRow_keeps {α : Type} (g : SflLane → α) (hg : ∀ (y : SflLane) (scr blk : Nat), g { y with scr := scr, blk := blk } = g y) (s : State) (b e j : Nat) :
    g ((s.skipRow b).sflLane e j) = g (s.sflLane e j) :=
  State.each_keeps (fun t => g (t.sflLane e j)) _ fun _ u => u.setSflLane_keeps g _ _ _ (hg _ _ _) e j

theorem State.laneRefusal_skipRow (s : State) (b : Nat) (c : LaneChange) : (s.skipRow b).laneRefusal b c = s.laneRefusal b c := by
  have hcircuit : ∀ l, (s.skipRow b).rxCircuit b l = s.rxCircuit b l :=
    State.rxCircuit_congr b (s.get_skipRow b _ _) (s.get_skipRow b _) (s.skipRow_keeps (fun y => y.home) (fun _ _ _ => rfl) b)
  have hskew : ∀ d k, ((s.skipRow b).sflLane d k).skew = (s.sflLane d k).skew := s.skipRow_keeps (fun y => y.skew) (fun _ _ _ => rfl) b
  unfold State.laneRefusal State.flag
  simp only [hcircuit, hskew, State.get_skipRow]

/-- A request or an answer under way: the link as it is to read, BUSY, and the command sent. -/
def State.busyWith (s : State) (b : Nat) (x : SflLink) (bits : Nat) : State := ((s.setLink b x).set SFL_LINK_STAT.LANE_BUSY b 1).sendCommand b bits

theorem State.busyWith_shows (s : State) (b : Nat) (x : SflLink) (bits : Nat) : (s.busyWith b x bits).get SFL_LINK_STAT.LANE_BUSY b = 1 ∧
    ∃ n l, (s.busyWith b x bits).link b = { x with txStripe := n, cmds := l } := by
  have hsent : Sends b ((s.setLink b x).set SFL_LINK_STAT.LANE_BUSY b 1) (s.busyWith b x bits) := State.sendCommand_sends ..
  refine ⟨?_, ?_⟩
  · rw [hsent.get, State.get_set_fits _ _ (by decide) (by decide)]
  · obtain ⟨n, l, hlink⟩ := hsent.link
    exact ⟨n, l, by rw [hlink, State.link_set, State.link_setLink]⟩

/-- With no change under way this side asks for a set at once, under the next epoch. -/
theorem State.askLanes_asks (hup : s.sflUp b = true) (hchange : (s.link b).change = none) (mask subst blk : Nat) :
    (s.askLanes b mask subst blk).get SFL_LINK_STAT.LANE_BUSY b = 1 ∧
      ((s.askLanes b mask subst blk).link b).asked = some (LaneChange.mk (((s.link b).epoch + 1) % 16) mask subst blk) := by
  have hask : s.askLanes b mask subst blk =
      s.busyWith b { s.link b with asked := some ⟨((s.link b).epoch + 1) % 16, mask, subst, blk⟩, epoch := ((s.link b).epoch + 1) % 16 }
        (laneSetBits 1 ⟨((s.link b).epoch + 1) % 16, mask, subst, blk⟩ 0) := by
    unfold State.askLanes
    dsimp only
    rw [if_neg (by simp [hup]), if_neg (by simp [hchange])]
    rfl
  obtain ⟨hbusy, n, l, hlink⟩ := s.busyWith_shows b
    { s.link b with asked := some ⟨((s.link b).epoch + 1) % 16, mask, subst, blk⟩, epoch := ((s.link b).epoch + 1) % 16 }
    (laneSetBits 1 ⟨((s.link b).epoch + 1) % 16, mask, subst, blk⟩ 0)
  rw [hask, hlink]
  exact ⟨hbusy, rfl⟩

theorem activeLaneLockLoss_asks {lane : Nat} (hup : s.sflUp b = true) (hactive : bitOf (s.get SFL_LINK_STAT.ACTIVE_MASK b) lane = true)
    (hothers : 4 ≤ ((s.lockedLogical b).filter fun l => l ≠ lane && bitOf (s.get SFL_LINK_STAT.ACTIVE_MASK b) l).length) :
    activeLaneLockLoss b lane s = s.askLanes b (withBit (s.get SFL_LINK_STAT.ACTIVE_MASK b) lane false) 31 0 := if_pos ⟨hup, hactive, hothers⟩

theorem laneSet_repeats {c : LaneChange} (bits copies : Nat) (hup : s.sflUp b = true) (hasked : (s.link b).asked = some c) :
    laneSet b false bits copies s = s.sendCommand b (laneSetBits 1 c 0) := by
  unfold laneSet
  rw [if_neg (by simp [hup]), if_pos (by rfl), hasked]

theorem laneSet_answers (h : s.takesCommand b 1 bits copies = true) : laneSet b true bits copies s = (s.skipRow b).answerSet b (laneChangeOf bits) := by
  unfold laneSet
  dsimp only
  rw [if_neg (by simp [State.sflUp_of_takesCommand h]), if_neg (by decide), if_pos h]

section Answer

variable {c : LaneChange} (hasked : (s.link b).asked = none) (hchange : (s.link b).change = none)
include hasked hchange

/-- A set that cannot be taken is refused with its reason. -/
theorem State.answerSet_refuses {reason : Nat} (hrefused : s.laneRefusal b c = some reason) : s.answerSet b c = s.sendCommand b (laneSetBits 3 c reason) := by
  unfold State.answerSet
  dsimp only
  rw [if_neg (by simp [hasked, hchange]), hrefused]

/-- A set that can be taken is the change under way. -/
theorem State.answerSet_takes (htaken : s.laneRefusal b c = none) : (s.answerSet b c).get SFL_LINK_STAT.LANE_BUSY b = 1 ∧
    ((s.answerSet b c).link b).change = some c ∧ ((s.answerSet b c).link b).epoch = c.epoch := by
  have hanswer : ∃ x : SflLink, x.change = some c ∧ x.epoch = c.epoch ∧ s.answerSet b c = s.busyWith b x (laneSetBits 2 c 0) := by
    unfold State.answerSet
    dsimp only
    rw [if_neg (by simp [hasked, hchange]), htaken]
    exact ⟨_, rfl, rfl, rfl⟩
  obtain ⟨x, hx, hepoch, hanswer⟩ := hanswer
  obtain ⟨hbusy, n, l, hlink⟩ := s.busyWith_shows b x (laneSetBits 2 c 0)
  rw [hanswer, hlink]
  exact ⟨hbusy, hx, hepoch⟩

end Answer

theorem State.laneRefusal_of_few {c : LaneChange} (h : (maskLanes c.mask).length < 4) : s.laneRefusal b c = some 3 := if_pos h

variable {c : LaneChange} (hasked : (s.link b).asked = some c) (hepoch : c.epoch = bits / 16 % 16)
include hasked hepoch

/-- The partner's LANE_ACK puts the request under way. -/
theorem laneAck_changes (h : s.takesCommand b 2 bits copies = true) (hchange : (s.link b).change = none) :
    ((laneAck b bits copies s).link b).change = some c ∧ ((laneAck b bits copies s).link b).asked = none := by
  unfold laneAck
  dsimp only
  rw [if_pos (State.sflUp_of_takesCommand h), State.link_skipRow, hasked]
  dsimp only
  rw [if_pos (by rw [h]; exact decide_eq_true hepoch), hchange, Option.any_none, if_neg Bool.false_ne_true, State.link_setLink]
  exact ⟨rfl, rfl⟩

/-- The partner's LANE_NAK withdraws the request, and its reason is shown. -/
theorem laneNak_withdraws (h : s.takesCommand b 3 bits copies = true) :
    (laneNak b bits copies s).get SFL_LINK_STAT.LANE_ERR b = bits / 2 ^ 30 % 8 ∧ ((laneNak b bits copies s).link b).asked = none := by
  have hreason : bits / 2 ^ 30 % 8 < 2 ^ SFL_LINK_STAT.LANE_ERR.width := lt_of_lt_of_le (Nat.mod_lt _ (show 0 < 8 by decide)) (by decide)
  unfold laneNak
  dsimp only
  rw [if_pos (State.sflUp_of_takesCommand h), State.link_skipRow, hasked]
  dsimp only
  rw [if_pos (by rw [h]; exact decide_eq_true hepoch)]
  split
  · rw [State.get_set_bits _ _ _ _ (by decide) (by decide), State.get_set_fits _ _ (by decide) hreason, State.link_set, State.link_set, State.link_setLink]
    exact ⟨rfl, rfl⟩
  · rw [State.get_set_fits _ _ (by decide) hreason, State.link_set, State.link_setLink]
    exact ⟨rfl, rfl⟩

end LaneSets

/-! ### SWITCH (R128, R129) -/

section Switch

variable {s : State} {b : Nat} {c : LaneChange}

/-- This side's receiver moved to a set: the link notes it, and no register changes. -/
theorem State.link_switchRx (s : State) (b : Nat) (c : LaneChange) :
    (s.switchRx b c).link b = { s.link b with rxMask := c.mask, rxStripe := 0, rxSwitched := true } := by
  unfold State.switchRx
  extract_lets d u1 u2 u3 x y
  have hlanes : u3.link b = s.link b := by
    dsimp only [u3]
    split_ifs
    · have hold : u1.link b = s.link b := by
        dsimp only [u1]
        split
        · exact State.link_setSflLane ..
        · rfl
      rw [State.link_setSflLane, hold]
    · rfl
  rw [(State.retagRx_only (b := b) (mask := c.mask) (Sub.refl _) (Only.refl _ _)).link_eq, State.link_setLink, show x = y from hlanes]

theorem State.get_switchRx (s : State) (b : Nat) (c : LaneChange) (F : Fld) (i : Nat) : (s.switchRx b c).get F i = s.get F i :=
  (State.switchRx_only (Sub.refl _) (Only.refl _ s)).get_eq_of_fields F i

/-- This side's transmitter moved to a set: the link notes it, and nothing leaves the device. -/
theorem State.switchTx_shows (s : State) (b : Nat) (c : LaneChange) :
    (s.switchTx b c).link b = { s.link b with txMask := c.mask, txStripe := 0, txSwitched := true } ∧ (s.switchTx b c).out = s.out := by
  unfold State.switchTx
  extract_lets d u x y
  have hspare : Only spareParts s u := Only.ite (s.mapSpare_corrected _ _ _) (Only.refl _ s)
  rw [(State.retag_only (Sub.refl _) (Only.refl _ _)).link_eq, State.link_setLink, (State.retag_only (Sub.refl _) (Only.refl _ _)).out_eq, State.out_setLink,
    show x = y from hspare.link_eq b, hspare.out_eq]
  exact ⟨rfl, rfl⟩

/-- A change that both directions have switched is finished, one that a single direction has switched goes on. -/
def State.settleChange (s : State) (b : Nat) (c : LaneChange) : State :=
  if (s.link b).rxSwitched && (s.link b).txSwitched then s.finishChange b c else s

theorem State.settleChange_of_one (h : (s.link b).rxSwitched = false ∨ (s.link b).txSwitched = false) : s.settleChange b c = s :=
  if_neg (by rcases h with h | h <;> simp [h])

theorem State.settleChange_of_both (hrx : (s.link b).rxSwitched = true) (htx : (s.link b).txSwitched = true) : s.settleChange b c = s.finishChange b c :=
  if_pos (by rw [hrx, htx]; rfl)

theorem switchLanes_received {bits copies : Nat} (h : s.takesCommand b 4 bits copies = true) (hchange : (s.link b).change = some c)
    (hepoch : c.epoch = bits / 16 % 16) (hrx : (s.link b).rxSwitched = false) :
    switchLanes b true bits copies s = ((s.skipRow b).switchRx b c).settleChange b c := by
  have hmine : c.epoch = (laneChangeOf bits).epoch := hepoch
  unfold switchLanes
  dsimp only
  rw [if_pos (by simp [State.sflUp_of_takesCommand h]), State.link_skipRow, hchange]
  dsimp only
  rw [if_pos rfl, if_pos (by simp [h, hrx, hmine])]
  rfl

theorem switchLanes_sent (bits copies : Nat) (hup : s.sflUp b = true) (htiming : (s.link b).timingSlot = false) (hchange : (s.link b).change = some c)
    (htx : (s.link b).txSwitched = false) : switchLanes b false bits copies s = ((s.emitCommand b (laneSetBits 4 c 0)).switchTx b c).settleChange b c := by
  have hsend : s.sendCommand b (laneSetBits 4 c 0) = s.emitCommand b (laneSetBits 4 c 0) := if_neg (by simp [htiming])
  unfold switchLanes
  dsimp only
  rw [if_neg (by simp), hchange]
  dsimp only
  rw [if_neg (by decide), if_neg (by simp [hup, htiming, htx]), hsend]
  rfl

theorem popCount_le_width (w n : Nat) : popCount w n ≤ w := by
  induction w generalizing n with
  | zero => exact le_rfl
  | succ w ih =>
    have := ih (n / 2)
    unfold popCount
    omega

/-- A change without the spare, with no request waiting, is complete: the set, the epoch and the width are the new ones. -/
theorem State.finishChange_shows (hagain : (s.link b).again = none) (hasked : (s.link b).asked = none) (hsubst : c.subst = 31) (hmask : c.mask < 2 ^ 16)
    (hepoch : c.epoch < 16) : (s.finishChange b c).get SFL_LINK_STAT.ACTIVE_MASK b = c.mask ∧ (s.finishChange b c).get SFL_LINK_STAT.EPOCH b = c.epoch ∧
      (s.finishChange b c).get SFL_LINK_STAT.LANE_BUSY b = 0 ∧ (s.finishChange b c).get SFL_TRAIN_STATUS.LANES b = popCount 16 c.mask ∧
      (s.finishChange b c).get PRT_LINK_STATUS.WIDTH (2 * b) = popCount 16 c.mask ∧ ((s.finishChange b c).link b).change = none := by
  have hwidth : popCount 16 c.mask < 2 ^ 5 := Nat.lt_of_le_of_lt (popCount_le_width 16 c.mask) (by decide)
  unfold State.finishChange
  extract_lets x n u1 u2 u3 u4 u5 u6 d was u7 u8
  have hfinish : Only (partsMask [.reg .SFL_VC_STAT, .reg .MGT_EVT_STAT, .reg .CNT_VAL, .reg .MGT_EVT_REC]) u6 u8 := by
    rw [show u8 = u7.updThresholds b from rfl, show u7 = u6 from if_neg (by omega)]
    exact State.updThresholds_only rfl (Only.refl _ u6)
  rw [show x.again = none from hagain]
  dsimp only
  rw [hfinish.get_eq SFL_LINK_STAT.ACTIVE_MASK, hfinish.get_eq SFL_LINK_STAT.EPOCH, hfinish.get_eq SFL_LINK_STAT.LANE_BUSY, hfinish.get_eq SFL_TRAIN_STATUS.LANES,
    hfinish.get_eq PRT_LINK_STATUS.WIDTH, hfinish.link_eq]
  have hset : u2.get SFL_LINK_STAT.ACTIVE_MASK b = c.mask := State.get_set_fits _ _ (by decide) hmask
  have hnumber : u3.get SFL_LINK_STAT.EPOCH b = c.epoch := State.get_set_fits _ _ (by decide) hepoch
  have hbusy : u4.get SFL_LINK_STAT.LANE_BUSY b = 0 := by
    rw [State.get_set_bit _ _ _ (by decide), show x.asked = none from hasked]
    rfl
  have hlanes : u5.get SFL_TRAIN_STATUS.LANES b = n := State.get_set_fits _ _ (by decide) hwidth
  have hlink : u6.link b = u1.link b := by simp only [u6, u5, u4, u3, u2, State.link_set]
  refine ⟨?_, ?_, ?_, ?_, State.get_set_fits _ _ (by decide) hwidth, ?_⟩
  · rw [← hset]
    simp (disch := decide) only [u6, u5, u4, u3, State.get_set_kind, State.get_set_bits]
  · rw [← hnumber]
    simp (disch := decide) only [u6, u5, u4, State.get_set_kind, State.get_set_bits]
  · rw [← hbusy]
    simp (disch := decide) only [u6, u5, State.get_set_kind]
  · exact (State.get_set_kind _ _ _ _ (by decide)).trans hlanes
  · rw [hlink, State.link_setLink]

end Switch

/-- Settles O9: requests, answers and both directions of SWITCH, each by its command's own lemma. -/
theorem laneSetsChange : Obligations.LaneSetsChange := by
  unfold Obligations.LaneSetsChange
  refine ⟨?repeated, ?taken, ?few, ?ack, ?nak, ?switchRx, ?switchTx, ?complete, ?lockLoss, ?laneReq⟩
  case repeated => exact fun s b bits copies c hb hup hasked => (run_true (decide_eq_true hb)).trans (congrArg _ (laneSet_repeats bits copies hup hasked))
  case taken =>
    intro s b bits copies hb h hasked hchange htaken
    refine ⟨_, run_true (decide_eq_true hb), ?_⟩
    rw [laneSet_answers h]
    obtain ⟨hbusy, hnew, hepoch⟩ := State.answerSet_takes (s := s.skipRow b) (b := b) (c := laneChangeOf bits) (by rwa [State.link_skipRow]) (by rwa [State.link_skipRow])
      (by rwa [State.laneRefusal_skipRow])
    exact ⟨hnew, hepoch, hbusy⟩
  case few =>
    intro s b bits copies hb h hasked hchange hfew
    refine (run_true (decide_eq_true hb)).trans (congrArg _ ?_)
    rw [laneSet_answers h, State.answerSet_refuses (by rwa [State.link_skipRow]) (by rwa [State.link_skipRow]) (State.laneRefusal_of_few hfew)]
  case ack => exact fun s b bits copies c hb h hasked hchange hepoch => ⟨_, run_true (decide_eq_true hb), laneAck_changes hasked hepoch h hchange⟩
  case nak => exact fun s b bits copies c hb h hasked hepoch => ⟨_, run_true (decide_eq_true hb), laneNak_withdraws hasked hepoch h⟩
  case switchRx =>
    intro s b c bits copies hb h hchange hepoch hrx htx
    refine ⟨_, run_true (decide_eq_true hb), ?_⟩
    rw [switchLanes_received h hchange hepoch hrx, State.settleChange_of_one (by rw [State.link_switchRx, State.link_skipRow]; exact .inr htx), State.link_switchRx,
      State.link_skipRow, State.get_switchRx, State.get_skipRow]
    exact ⟨rfl, rfl, hchange, rfl⟩
  case switchTx =>
    intro s b c bits copies hb hup htiming hchange hrx htx
    refine ⟨_, run_true (decide_eq_true hb), ?_⟩
    have hsent := s.emitCommand_emits b (laneSetBits 4 c 0)
    obtain ⟨n, l, hlink⟩ := hsent.link
    obtain ⟨hnew, hout⟩ := (s.emitCommand b (laneSetBits 4 c 0)).switchTx_shows b c
    rw [hlink, State.link_emit] at hnew
    rw [switchLanes_sent bits copies hup htiming hchange htx, State.settleChange_of_one (by rw [hnew]; exact .inl hrx), hnew, hout]
    exact ⟨rfl, rfl, rfl, hchange, hsent.first_out⟩
  case complete =>
    intro s b c bits copies hb h hchange hepoch hrx htx hagain hasked hsubst hmask hnumber
    refine ⟨_, run_true (decide_eq_true hb), ?_⟩
    have hlink : ((s.skipRow b).switchRx b c).link b = { s.link b with rxMask := c.mask, rxStripe := 0, rxSwitched := true } := by
      rw [State.link_switchRx, State.link_skipRow]
    rw [switchLanes_received h hchange hepoch hrx, State.settleChange_of_both (by rw [hlink]) (by rw [hlink]; exact htx)]
    exact State.finishChange_shows (by rw [hlink]; exact hagain) (by rw [hlink]; exact hasked) hsubst hmask hnumber
  case lockLoss =>
    intro s b lane hb hlane hup hchange hactive hothers
    refine ⟨_, run_true (by simp [hb, hlane]), ?_⟩
    rw [activeLaneLockLoss_asks hup hactive hothers]
    exact State.askLanes_asks hup hchange _ _ _
  case laneReq => exact fun s b hb hup hchange => ⟨_, run_true (decide_eq_true hb), State.askLanes_asks hup hchange _ _ _⟩

end Sys2Proof.Machine

namespace Sys2Proof.Machine

-- Proofs are elaborated one after another: each proof thread costs the check 256 MB of stack.
set_option Elab.async false

set_option exponentiation.threshold 500

/-- Settles O54: completion and frame hold of every command, those of the switching core, resolution and Temper among them. -/
theorem anvilCommandsFramed : Obligations.AnvilCommandsFramed := by
  unfold Obligations.AnvilCommandsFramed
  and_intros <;> intros <;> exact exec_framed _

/-! ### What a frame says of credit and of the register of a block's slots -/

section Credit

variable {G : Nat} {s t : State}

theorem Only.ledgerAt_eq (h : Only G s t) (e n : Nat) (hG : G.testBit (256 + StateField.ctorIdx .ledger) = false := by decide) : t.ledgerAt e n = s.ledgerAt e n :=
  congrArg (Tbl.rd (fun _ => Ledger.none) · (256 * e + n)) (h.2 (.field .ledger) hG)

theorem Only.requests_eq (h : Only G s t) (e : Nat) (hG : G.testBit (256 + StateField.ctorIdx .crQueue) = false := by decide) : t.requests e = s.requests e :=
  congrArg (Tbl.rd (fun _ => []) · e) (h.2 (.field .crQueue) hG)

@[simp] theorem State.ledgerAt_setLedger (s : State) (e n : Nat) (x : Ledger) : (s.setLedger e n x).ledgerAt e n = x := Tbl.rd_wr_self ..

/-- An egress block's CHUNK is its own router's (R153). -/
theorem State.chunk_of_block (s : State) {e : Nat} (he : e < 64) : s.chunk e = s.get ANV_CR_CFG.CHUNK e := by
  simp [State.chunk, pointNi, niRouter, he]

theorem State.poolFree_of_block (s : State) {e : Nat} (he : e < 64) : s.poolFree e = s.get ANV_CR_STAT.SHARED_FREE e := if_pos he

/-- SHARED_FREE set shows the low bits of the number, for an egress block alone. -/
theorem State.sharedFree_setFreeSlots (s : State) {e : Nat} (n : Nat) (he : e < 64) :
    (s.setFreeSlots e n).get ANV_CR_STAT.SHARED_FREE e = n % 2 ^ ANV_CR_STAT.SHARED_FREE.width := by
  rw [State.setFreeSlots, if_pos he]
  exact s.get_set_self e n (by decide) (by decide)

/-- What a source learns of an egress block is its band and when (R154, R182). -/
theorem State.learnBand_bands (s : State) {e : Nat} (n : Nat) (he : e < 64) :
    Tbl.rd (fun _ => (0, 0)) (s.learnBand e n).bands (64 * n + e) = (s.egressBand e, s.clk) := by
  rw [State.learnBand, if_pos he]
  exact Tbl.rd_wr_self ..

end Credit

/-! ### Requests for shared credit, and their grants (R153) -/

section Grants

variable {s : State} {e n : Nat}

/-- A grant adds CHUNK to what the source holds, whatever its credit point then shows. -/
theorem State.grantShared_shared : ((s.grantShared e n).ledgerAt e n).shared = (s.ledgerAt e n).shared + s.chunk e := by
  unfold State.grantShared
  rw [(State.learnBand_only (Sub.refl _) (Only.refl _ _)).ledgerAt_eq, (State.setFreeSlots_only (Sub.refl _) (Only.refl _ _)).ledgerAt_eq,
    State.ledgerAt_setLedger]

/-- A grant takes CHUNK from an egress block's pool. -/
theorem State.grantShared_free (he : e < 64) :
    (s.grantShared e n).get ANV_CR_STAT.SHARED_FREE e = s.get ANV_CR_STAT.SHARED_FREE e - s.get ANV_CR_CFG.CHUNK e := by
  unfold State.grantShared
  rw [(State.learnBand_only (Sub.refl _) (Only.refl _ _)).get_eq_of_fields, State.sharedFree_setFreeSlots _ _ he, s.chunk_of_block he, s.poolFree_of_block he]
  exact Nat.mod_eq_of_lt (lt_of_le_of_lt (Nat.sub_le ..) (s.get_lt e ANV_CR_STAT.SHARED_FREE))

theorem creditRequest_of_enough (h : s.isShort n e = false) : creditRequest n e s = s := by
  simp [creditRequest, h]

/-- A source that may ask and is short asks, and is granted at once where nothing waits. -/
theorem creditRequest_grants (hsrc : e < 64 → isSource n = true) (hshort : s.isShort n e = true) (hnone : s.requests e = []) (hcan : s.canGrant e n = true) :
    creditRequest n e s = s.grantShared e n := by
  simp +contextual [creditRequest, hshort, hnone, hcan, hsrc]

/-- Its request waits behind the others where the pool cannot meet it. -/
theorem creditRequest_queues (hsrc : e < 64 → isSource n = true) (hshort : s.isShort n e = true) (hcan : s.canGrant e n = false) :
    (creditRequest n e s).requests e = s.requests e ++ [n] := by
  unfold creditRequest
  rw [if_neg (by simpa [hshort] using hsrc), hcan, Bool.and_false, if_neg Bool.false_ne_true]
  have hqueued : State.requests { s with crQueue := Tbl.wr (fun _ => []) s.crQueue e (s.requests e ++ [n]) } e = s.requests e ++ [n] := Tbl.rd_wr_self ..
  split_ifs
  · exact ((State.tally_only (Sub.refl _) (Only.refl _ _)).requests_eq e).trans hqueued
  · exact hqueued

/-- The oldest queued request that can be granted leaves the queue with its grant. -/
theorem creditGrant_grants {rest : List Nat} (hqueue : s.requests e = n :: rest) (hcan : s.canGrant e n = true) :
    (creditGrant e s).requests e = rest ∧ ((creditGrant e s).ledgerAt e n).shared = (s.ledgerAt e n).shared + s.chunk e := by
  unfold creditGrant
  rw [hqueue]
  dsimp only
  rw [if_pos hcan]
  refine ⟨?_, State.grantShared_shared⟩
  rw [(State.grantShared_only (Sub.refl _) (Only.refl _ _)).requests_eq]
  exact Tbl.rd_wr_self ..

theorem creditGrant_of_none (hqueue : s.requests e = []) : creditGrant e s = s := by
  rw [creditGrant, hqueue]

end Grants

/-! ### Credit returned and given back (R154) -/

section Returns

variable (s : State) (e n : Nat)

/-- Flits restored go to the standing allowance as far as it was spent. -/
theorem State.restore_standSpent (k : Nat) : ((s.restore e n k).ledgerAt e n).standSpent = (s.ledgerAt e n).standSpent - k := by
  unfold State.restore
  rw [State.ledgerAt_setLedger]
  dsimp only
  omega

/-- A return settles what is owed, restores the slots and tells the source an egress block's band. -/
theorem creditReturn_shows : ((creditReturn e n s).ledgerAt e n).owed = 0 ∧
    ((creditReturn e n s).ledgerAt e n).standSpent = (s.ledgerAt e n).standSpent - (s.ledgerAt e n).owed ∧
    (e < 64 → Tbl.rd (fun _ => (0, 0)) (creditReturn e n s).bands (64 * n + e) = (s.egressBand e, s.clk)) := by
  have hledger : (creditReturn e n s).ledgerAt e n = { (s.restore e n (s.ledgerAt e n).owed).ledgerAt e n with owed := 0 } := by
    unfold creditReturn
    rw [(State.learnBand_only (Sub.refl _) (Only.refl _ _)).ledgerAt_eq, State.ledgerAt_setLedger]
  refine ⟨by rw [hledger], ?_, fun he => ?_⟩
  · rw [hledger]
    exact s.restore_standSpent e n _
  · refine (State.learnBand_bands _ n he).trans ?_
    -- The band of an egress block is read off registers and queues, which no ledger touches.
    simp only [State.egressBand, if_pos he]
    rfl

/-- Shared grants given back leave the source what it has spent, and an egress block's pool the rest. -/
theorem sharedGrantRelease_shows (h : (s.ledgerAt e n).sharedSpent ≤ (s.ledgerAt e n).shared) :
    ((sharedGrantRelease n e s).ledgerAt e n).shared = (s.ledgerAt e n).sharedSpent ∧
    (e < 64 → (sharedGrantRelease n e s).get ANV_CR_STAT.SHARED_FREE e =
      (s.get ANV_CR_STAT.SHARED_FREE e + ((s.ledgerAt e n).shared - (s.ledgerAt e n).sharedSpent)) % 2 ^ ANV_CR_STAT.SHARED_FREE.width) := by
  unfold sharedGrantRelease
  refine ⟨?_, fun he => ?_⟩
  · rw [(State.setFreeSlots_only (Sub.refl _) (Only.refl _ _)).ledgerAt_eq, State.ledgerAt_setLedger]
    exact Nat.sub_sub_self h
  · rw [State.sharedFree_setFreeSlots _ _ he, s.poolFree_of_block he]

end Returns

/-! ### Quench and its end (R161 to R165) -/

section Quench

variable {s : State} {n : Nat}

/-- The first trigger of an NI quenches it with its code, hands its buffered and tracked packets to the sink stage and tells every NI. -/
theorem State.quench_first (t : Trigger) (hnone : (s.niAt n).triggers = []) :
    (s.quench n t).niAt n = { s.niAt n with
      triggers := [t], code := t.code, absorbed := (s.niAt n).absorbed ++ ((s.niAt n).tracker ++ (s.niAt n).rx).map (slagged t.code), tracker := [], rx := [] } ∧
    (s.quench n t).out = s.out ++ [Out.quenchNotice n t.code] := by
  unfold State.quench
  extract_lets x u1 u2 u3 u4
  rw [if_pos (by rw [hnone]; rfl)]
  have hslots : Only (partsMask [.reg .ANV_CR_STAT, .reg .ANV_QUENCH_STAT, .field .ledger]) u1 u3 :=
    State.showQuench_only rfl (Only.fold (fun _ _ hu => Only.ite hu (State.creditBack_only rfl (State.vacate_only rfl hu))) (Only.refl _ u1))
  have hevent : Only eventParts u4 (u4.notice (32 + 32 * niRegion n + 8) 0 n) := State.notice_only rfl (Only.refl _ u4)
  refine ⟨?_, ?_⟩
  · rw [hevent.niAt_eq, show u4.niAt n = u3.niAt n from rfl, hslots.niAt_eq, State.niAt_setNi]
  · rw [hevent.out_eq, State.emit_out, hslots.out_eq]
    rfl

/-- An NI whose last trigger is gone and whose sink stage has nothing left accepts packets again, and tells every NI (R164). -/
theorem State.release_accepts (hcode : (s.niAt n).code ≠ 0) (hgone : (s.niAt n).triggers = []) (hdone : (s.niAt n).absorbed = []) :
    (s.release n).niAt n = { s.niAt n with code := 0 } ∧ (s.release n).out = s.out ++ [Out.unquenchNotice n] := by
  unfold State.release
  extract_lets x u1
  rw [if_pos ⟨hcode, by rw [hgone]; rfl, by rw [hdone]; rfl⟩]
  have hshown : Only (partsMask [.reg .ANV_QUENCH_STAT]) (s.setNi n { x with code := 0 }) u1 := State.showQuench_only rfl (Only.refl _ _)
  have hevent : Only eventParts (u1.emit (.unquenchNotice n)) ((u1.emit (.unquenchNotice n)).notice (32 + 32 * niRegion n + 8) 0 n) :=
    State.notice_only rfl (Only.refl _ _)
  refine ⟨?_, ?_⟩
  · rw [hevent.niAt_eq, show (u1.emit (.unquenchNotice n)).niAt n = u1.niAt n from rfl, hshown.niAt_eq, State.niAt_setNi]
  · rw [hevent.out_eq, State.emit_out, hshown.out_eq]
    rfl

/-- While a trigger is left an NI stays as it is. -/
theorem State.release_of_triggers (h : (s.niAt n).triggers ≠ []) : s.release n = s := by
  simp [State.release, h]

theorem State.quenched_of_niAt {x : NiState} (h : s.niAt n = x) (hx : x.code = 0) : s.quenched n = false := by
  simp [State.quenched, h, hx]

/-- QUENCH_CLEAR without a trigger that persists ends every trigger; with nothing left to answer the NI accepts packets again. -/
theorem quenchClear_accepts {r : Nat} (hn : n < 134 ∧ niRegion n = r) (hgo : (s.niAt n).triggers.any (fun x => x.persists) = false)
    (hdone : (s.niAt n).absorbed = []) (hcode : (s.niAt n).code ≠ 0) :
    (quenchClear r n s).niAt n = { s.niAt n with triggers := [], code := 0 } ∧ (quenchClear r n s).out = s.out ++ [Out.unquenchNotice n] := by
  unfold quenchClear
  rw [if_pos hn, hgo, if_neg Bool.false_ne_true]
  have hdropped : (s.dropTriggers n fun _ => true).niAt n = { s.niAt n with triggers := [] } := by
    rw [State.dropTriggers, State.niAt_setNi]
    simp
  obtain ⟨hni, hout⟩ := State.release_accepts (s := s.dropTriggers n fun _ => true) (n := n) (by rwa [hdropped]) (by rw [hdropped]) (by rwa [hdropped])
  exact ⟨by rw [hni, hdropped], hout⟩

end Quench

/-! ### The sink's answers (R163) -/

section Sink

variable {s : State} {n : Nat}

/-- What counting an absorbed packet, and the end of the access that it answers, may change. -/
abbrev sinkParts : Nat := partsMask [.reg .ANV_SLAG_CNT0, .reg .ANV_SLAG_CNT1, .reg .CNT_VAL, .field .accesses]

/-- The sink stage takes the oldest absorbed packet, counts it, and sends the answer that its type asks for. -/
theorem slagAnswer_takes {p : Pkt} {rest : List Pkt} (h : (s.niAt n).absorbed = p :: rest) :
    ∃ u, Only sinkParts (s.setNi n { s.niAt n with absorbed := rest }) u ∧
      slagAnswer n s = match slagReply n p with
        | some q => if q.dst = n then u.loopBack n (u.withTc n q) else u.enqueue n (u.withTc n q)
        | none => u := by
  unfold slagAnswer
  extract_lets x
  rw [show x.absorbed = p :: rest from h]
  refine ⟨_, ?_, rfl⟩
  exact State.when_only (fun _ hu => State.accessDone_only rfl hu) (State.when_only (fun _ hu => State.answerOver_only rfl hu)
    (State.fixed_only rfl (State.countSlag_only rfl (Only.refl _ _))))

/-- A sink's answer that loops back leaves what the sink stage still holds. -/
theorem State.loopBack_absorbed (q : Pkt) : ((s.loopBack n q).niAt n).absorbed = (s.niAt n).absorbed := by
  unfold State.loopBack
  split_ifs
  · dsimp only
    rw [State.niAt_setNi]
  · rw [(State.consume_only (Sub.refl _) (Only.refl _ s)).niAt_eq]

theorem slagAnswer_absorbed {p : Pkt} {rest : List Pkt} (h : (s.niAt n).absorbed = p :: rest) : ((slagAnswer n s).niAt n).absorbed = rest := by
  obtain ⟨u, hu, heq⟩ := slagAnswer_takes h
  have hrest : (u.niAt n).absorbed = rest := by rw [hu.niAt_eq, State.niAt_setNi]
  rw [heq]
  split
  · split_ifs
    · rw [State.loopBack_absorbed, hrest]
    · rw [(State.enqueue_only (Sub.refl _) (Only.refl _ u)).niAt_eq, hrest]
  · exact hrest

/-- An answer to another NI is the last of its queue, in its request's traffic class. -/
theorem slagAnswer_queues {p q : Pkt} {rest : List Pkt} (h : (s.niAt n).absorbed = p :: rest) (hq : slagReply n p = some q) (hdst : q.dst ≠ n) :
    (Tbl.rd (fun _ => []) (slagAnswer n s).voq (voqKey n (s.withTc n q))).getLast? = some (s.withTc n q) := by
  obtain ⟨u, hu, heq⟩ := slagAnswer_takes h
  have htc : u.withTc n q = s.withTc n q := hu.withTc_eq n q
  rw [heq, hq]
  dsimp only
  rw [if_neg hdst, htc]
  exact u.enqueue_last n _

end Sink

/-- Settles O16: each command's meaning, by its own lemma, where its units exist. -/
theorem creditAndQuench : Obligations.CreditAndQuench := by
  unfold Obligations.CreditAndQuench
  refine ⟨?block, ?client, ?queued, ?enough, ?granted, ?noRequest, ?returned, ?released, ?trigger, ?notice, ?unnotice, ?set, ?setElsewhere, ?persists, ?cleared,
    ?answered, ?reply, ?unquenched, ?stays⟩
  case block =>
    intro s n e hn he hsrc hshort hnone hcan
    refine ⟨_, run_true (by simp [hn]; omega), ?_⟩
    rw [creditRequest_grants (fun _ => hsrc) hshort hnone hcan]
    exact ⟨State.grantShared_shared.trans (by rw [s.chunk_of_block he]), State.grantShared_free he⟩
  case client =>
    intro s n e hn hclient he hshort hnone hcan
    refine ⟨_, run_true (by simp [hn, he]), ?_⟩
    rw [creditRequest_grants (fun h => absurd h (by omega)) hshort hnone hcan]
    exact State.grantShared_shared
  case queued => exact fun s n e hn he hsrc hshort hcan => ⟨_, run_true (by simp [hn]; omega), creditRequest_queues (fun _ => hsrc) hshort hcan⟩
  case enough => exact fun s n e hn he h => (run_true (by simp [hn, he])).trans (congrArg _ (creditRequest_of_enough h))
  case granted => exact fun s n e rest he hqueue hcan => ⟨_, run_true (decide_eq_true he), creditGrant_grants hqueue hcan⟩
  case noRequest => exact fun s e he hqueue => (run_true (decide_eq_true he)).trans (congrArg _ (creditGrant_of_none hqueue))
  case returned => exact fun s n e hn he => ⟨_, run_true (by simp [hn, he]), creditReturn_shows s e n⟩
  case released => exact fun s n e hn he h => ⟨_, run_true (by simp [hn, he]), sharedGrantRelease_shows s e n h⟩
  case trigger =>
    intro s n code hn hnone
    obtain ⟨hni, hout⟩ := State.quench_first ⟨code, true, 0⟩ hnone
    refine ⟨_, run_true (decide_eq_true hn), ?_⟩
    rw [show quenchTrigger n code s = s.quench n ⟨code, true, 0⟩ from rfl, hni, hout]
    exact ⟨rfl, rfl, rfl, rfl⟩
  case notice => exact fun s n target code hn htarget => ⟨_, run_true (by simp [hn, htarget]), congrArg NiState.notices (s.niAt_setNi ..)⟩
  case unnotice => exact fun s n target hn htarget => ⟨_, run_true (by simp [hn, htarget]), congrArg NiState.notices (s.niAt_setNi ..)⟩
  case set =>
    intro s r n hr hn hregion hnone
    refine ⟨_, run_true (decide_eq_true hr), ?_⟩
    rw [quenchSet, if_pos ⟨hn, hregion⟩, (State.quench_first ⟨3, false, 0⟩ hnone).1]
  case setElsewhere =>
    intro s r n hr hother
    exact (run_true (decide_eq_true hr)).trans (congrArg _ (if_neg fun h => hother.elim (Nat.not_le.2 h.1) (absurd h.2)))
  case persists =>
    intro s r n hr hn hregion hpersists
    refine (run_true (decide_eq_true hr)).trans (congrArg _ ?_)
    rw [quenchClear, if_pos ⟨hn, hregion⟩, if_pos hpersists]
  case cleared =>
    intro s r n hr hn hregion hgo hdone hcode
    obtain ⟨hni, hout⟩ := quenchClear_accepts ⟨hn, hregion⟩ hgo hdone hcode
    exact ⟨_, run_true (decide_eq_true hr), State.quenched_of_niAt hni rfl, congrArg NiState.triggers hni, hout⟩
  case answered => exact fun s n p rest hn h => ⟨_, run_true (decide_eq_true hn), slagAnswer_absorbed h⟩
  case reply => exact fun s n p q rest hn h hq hdst => ⟨_, run_true (decide_eq_true hn), slagAnswer_queues h hq hdst⟩
  case unquenched =>
    intro s n hn hcode hgone hdone
    obtain ⟨hni, hout⟩ := State.release_accepts hcode hgone hdone
    exact ⟨_, run_true (decide_eq_true hn), State.quenched_of_niAt hni rfl, hout⟩
  case stays => exact fun s n hn h => (run_true (decide_eq_true hn)).trans (congrArg _ (State.release_of_triggers h))

end Sys2Proof.Machine

namespace Sys2Proof.Machine

-- Proofs are elaborated one after another: each proof thread costs the check 256 MB of stack.
set_option Elab.async false

set_option exponentiation.threshold 500

/-! ### Mirror sessions, probes and egress buffers, written and framed -/

section Readers

variable {G : Nat} {s t : State}

theorem Only.mirror_eq (h : Only G s t) (m : Nat) (hG : G.testBit (256 + StateField.ctorIdx .mir) = false := by decide) : t.mirror m = s.mirror m :=
  congrArg (Tbl.rd (fun _ => MirState.idle) · m) (h.2 (.field .mir) hG)

theorem Only.probe_eq (h : Only G s t) (rt : Nat) (hG : G.testBit (256 + StateField.ctorIdx .prb) = false := by decide) : t.probe rt = s.probe rt :=
  congrArg (Tbl.rd (fun _ => (⟨0, 0, false⟩ : PrbState)) · rt) (h.2 (.field .prb) hG)

theorem Only.quenched_eq (h : Only G s t) (n : Nat) (hG : G.testBit (256 + StateField.ctorIdx .ni) = false := by decide) : t.quenched n = s.quenched n := by
  unfold State.quenched
  rw [h.niAt_eq n hG]

theorem Only.allowance_eq (h : Only G s t) (n e : Nat) (hreg : G.testBit (RegKind.ctorIdx .ANV_CR_CFG) = false := by decide)
    (hledger : G.testBit (256 + StateField.ctorIdx .ledger) = false := by decide) : t.allowance n e = s.allowance n e := by
  unfold State.allowance State.standing
  rw [h.ledgerAt_eq e n hledger, h.get_eq ANV_CR_CFG.STAND e hreg]

@[simp] theorem State.mirror_setMirror (s : State) (m : Nat) (x : MirState) : (s.setMirror m x).mirror m = x := Tbl.rd_wr_self ..

@[simp] theorem State.probe_setProbe (s : State) (rt : Nat) (x : PrbState) : (s.setProbe rt x).probe rt = x := Tbl.rd_wr_self ..

/-- A packet that leaves an egress buffer is gone from it, and nothing else at the NI changes. -/
theorem State.niAt_leaves (s : State) (n : Nat) (p : Pkt) : (s.leaves n p).niAt n = { s.niAt n with rx := (s.niAt n).rx.erase p } := by
  unfold State.leaves
  rw [(State.owe_only (Sub.refl _) (Only.refl _ _)).niAt_eq, (State.vacate_only (Sub.refl _) (Only.refl _ _)).niAt_eq, State.niAt_setNi]

end Readers

/-! ### Copies for a mirror session (R166, R167) -/

section MirrorCopy

variable {s : State} {m port flow : Nat} {egress poison : Bool} {msg : List Byte}

theorem mirrorCopy_of_not_mirrored (h : s.mirrored m port egress flow = false) : mirrorCopy m port egress poison flow msg s = s := by
  simp [mirrorCopy, h]

/-- A message between two samples is only counted. -/
theorem mirrorCopy_counts (h : s.mirrored m port egress flow = true) (hskip : (s.mirror m).skipped + 1 < s.get ANV_MIR_CFG.SAMPLE m) :
    mirrorCopy m port egress poison flow msg s = s.setMirror m { s.mirror m with skipped := (s.mirror m).skipped + 1 } := by
  simp [mirrorCopy, h, hskip]

/-- A sampled message whose analysis egress is quenched is dropped and counted (R165). -/
theorem mirrorCopy_drops (h : s.mirrored m port egress flow = true) (hsample : s.get ANV_MIR_CFG.SAMPLE m ≤ (s.mirror m).skipped + 1)
    (hquenched : s.quenched (s.get ANV_MIR_CFG.DST_PORT m / 2) = true) :
    (mirrorCopy m port egress poison flow msg s).get ANV_MIR_STAT.DROP m = satAdd ANV_MIR_STAT.DROP.width (s.get ANV_MIR_STAT.DROP m) 1 ∧
      ((mirrorCopy m port egress poison flow msg s).mirror m).dropped = true := by
  unfold mirrorCopy
  rw [h]
  extract_lets x sample data e n seq u blank p r
  have hu : Only (partsMask [.reg .ANV_MIR_STAT]) s u := State.set_only rfl (Only.refl _ s)
  have hclosed : u.quenched e = true := (hu.quenched_eq e).trans hquenched
  have hcount : u.get ANV_MIR_STAT.DROP m = s.get ANV_MIR_STAT.DROP m := State.get_set_bits _ _ _ _ (by decide) (by decide)
  clear_value u e p
  have hdropped : ((u.niAt n).notices.any (fun y => decide (y.1 = e)) || u.quenched e || !u.hasCredit n p) = true := by
    rw [hclosed, Bool.or_true, Bool.true_or]
  rw [if_neg (by decide), if_neg (Nat.not_lt.2 hsample), if_pos hdropped, (State.count_only rfl (Only.refl (partsMask [.reg .ANV_MIR_STAT]) _)).mirror_eq,
    State.mirror_setMirror, State.get_count _ _ _ (by decide), (State.setMirror_only (Sub.refl _) (Only.refl _ u)).get_eq ANV_MIR_STAT.DROP, hcount]
  exact ⟨rfl, rfl⟩

/-- A sampled message with a way out and the allowance for it becomes the session's next record. -/
theorem mirrorCopy_records (h : s.mirrored m port egress flow = true) (hsample : s.get ANV_MIR_CFG.SAMPLE m ≤ (s.mirror m).skipped + 1)
    (hopen : s.quenched (s.get ANV_MIR_CFG.DST_PORT m / 2) = false) (hknown : (s.niAt (port / 2)).notices = [])
    (hcredit : flitsOf (min 624 (msg.take (s.truncTo m msg.length)).length) ≤ s.allowance (port / 2) (s.get ANV_MIR_CFG.DST_PORT m / 2)) :
    ((mirrorCopy m port egress poison flow msg s).mirror m).skipped = 0 ∧
      ((mirrorCopy m port egress poison flow msg s).mirror m).queue = (s.mirror m).queue ++
        [MirRec.mk (s.mirror m).seq s.time port egress poison (s.mirror m).dropped msg.length (msg.take (s.truncTo m msg.length))] := by
  unfold mirrorCopy
  rw [h]
  extract_lets x sample data e n seq u blank p r
  have hblock : e < 64 := by
    have := s.get_lt m ANV_MIR_CFG.DST_PORT
    change s.get ANV_MIR_CFG.DST_PORT m / 2 < 64
    change s.get ANV_MIR_CFG.DST_PORT m < 128 at this
    omega
  have hu : Only (partsMask [.reg .ANV_MIR_STAT]) s u := State.set_only rfl (Only.refl _ s)
  have hopen' : u.quenched e = false := (hu.quenched_eq e).trans hopen
  have hknown' : (u.niAt n).notices = [] := (congrArg NiState.notices (hu.niAt_eq n)).trans hknown
  have hpoint : creditPoint p = e := if_pos hblock
  have hlen : p.len = flitsOf (min 624 data.length) := rfl
  have hallowed : p.len ≤ u.allowance n e := by
    rw [hlen, hu.allowance_eq]
    exact hcredit
  have htime : u.time = s.time := congrArg FabTime.ptp (hu.2 (.field .tim) (by decide))
  have hrecord : r = MirRec.mk x.seq u.time port egress poison x.dropped msg.length data := rfl
  clear_value u e p r
  have hcan : u.hasCredit n p = true := by
    rw [State.hasCredit, hpoint, decide_eq_true hallowed, Bool.or_true]
  have hgoes : ((u.niAt n).notices.any (fun y => decide (y.1 = e)) || u.quenched e || !u.hasCredit n p) = false := by
    rw [hcan, hopen', hknown']
    rfl
  rw [if_neg (by decide), if_neg (Nat.not_lt.2 hsample), hgoes, if_neg Bool.false_ne_true, (State.inject_only (Sub.refl _) (Only.refl _ _)).mirror_eq,
    State.mirror_setMirror, hrecord, htime]
  exact ⟨rfl, rfl⟩

end MirrorCopy

/-! ### Records written to the ring, and sessions configured (R168, R171) -/

/-- The oldest copy that has arrived leaves the buffer, and its record the session's queue, for the ring. -/
theorem mirrorRecordWrite_writes {s : State} {m : Nat} {p : Pkt} {r : MirRec} {rest : List MirRec}
    (hp : (s.niAt (s.get ANV_MIR_CFG.DST_PORT m / 2)).rx.find? (fun x => x.mirror && decide (x.param % 16 = m)) = some p)
    (hqueue : (s.mirror m).queue = r :: rest) (hseq : r.seq % 2 ^ 28 = p.param / 16) :
    ((mirrorRecordWrite m s).mirror m).queue = rest ∧ (mirrorRecordWrite m s).out.length = s.out.length + 1 ∧
      ((mirrorRecordWrite m s).niAt (s.get ANV_MIR_CFG.DST_PORT m / 2)).rx = (s.niAt (s.get ANV_MIR_CFG.DST_PORT m / 2)).rx.erase p := by
  have hfirst : (s.mirror m).queue.dropWhile (fun r => decide (r.seq % 2 ^ 28 ≠ p.param / 16)) = r :: rest := by
    rw [hqueue, List.dropWhile_cons_of_neg (by simpa using hseq)]
  unfold mirrorRecordWrite
  extract_lets x e
  rw [show (s.niAt e).rx.find? (fun p => p.mirror && decide (p.param % 16 = m)) = some p from hp]
  dsimp -zeta only
  extract_lets u size off
  rw [show x.queue.dropWhile (fun r => decide (r.seq % 2 ^ 28 ≠ p.param / 16)) = r :: rest from hfirst]
  dsimp -zeta only
  extract_lets bytes off' v w
  have hring : Only (partsMask [.reg .ANV_MIR_RING_SZ, .field .mir]) u w := State.set_only rfl (State.setMirror_only rfl (Only.refl _ u))
  have hshown : w.mirror m = { x with queue := rest } :=
    ((State.set_only rfl (Only.refl (partsMask [.reg .ANV_MIR_RING_SZ]) v)).mirror_eq m).trans (State.mirror_setMirror ..)
  have hleft : (u.niAt e).rx = (s.niAt e).rx.erase p := congrArg NiState.rx (s.niAt_leaves e p)
  have hrx : (w.niAt e).rx = (s.niAt e).rx.erase p := (congrArg NiState.rx (hring.niAt_eq e)).trans hleft
  have hout : w.out = s.out := hring.out_eq.trans (State.leaves_only (Sub.refl _) (Only.refl _ s)).out_eq
  clear_value w
  have hemit : ∀ o, Only (partsMask [.field .out]) w (w.emit o) := fun o => State.emit_only rfl (Only.refl _ w)
  rw [(hemit _).mirror_eq, (hemit _).niAt_eq, hshown, hrx, State.emit_out, List.length_append, hout]
  exact ⟨rfl, rfl, rfl⟩

theorem mirrorRecordWrite_of_empty {s : State} {m : Nat} (h : (s.niAt (s.get ANV_MIR_CFG.DST_PORT m / 2)).rx = []) : mirrorRecordWrite m s = s := by
  simp [mirrorRecordWrite, h]

/-- A write of a session's configuration shows EN only towards a port in analysis role, and the destination as written. -/
theorem mirrorEnWrite_shows (s : State) (m : Nat) (v : Word) :
    (mirrorEnWrite m v s).get ANV_MIR_CFG.EN m = bit (decide (v.field 0 0 = 1) && (s.portExists (v.field ANV_MIR_CFG.DST_PORT.hi ANV_MIR_CFG.DST_PORT.lo) &&
        decide (s.role (v.field ANV_MIR_CFG.DST_PORT.hi ANV_MIR_CFG.DST_PORT.lo) = 3))) ∧
      (mirrorEnWrite m v s).get ANV_MIR_CFG.DST_PORT m = v.field ANV_MIR_CFG.DST_PORT.hi ANV_MIR_CFG.DST_PORT.lo := by
  unfold mirrorEnWrite
  extract_lets was dst ok on u1 u2
  have hkept : Only (partsMask [.reg .ANV_MIR_RING_SZ]) u2 (if (on && !was) = true then u2.set ANV_MIR_RING_SZ.WOFF m 0 else u2) :=
    Only.ite (State.set_only rfl (Only.refl _ u2)) (Only.refl _ u2)
  rw [hkept.get_eq ANV_MIR_CFG.EN, hkept.get_eq ANV_MIR_CFG.DST_PORT]
  have hdst : u1.get ANV_MIR_CFG.DST_PORT m = dst := by
    simp only [u1, State.each, List.foldl_cons, List.foldl_nil]
    refine (State.get_set_bits _ _ _ _ (by decide) (by decide)).trans ((State.get_set_bits _ _ _ _ (by decide) (by decide)).trans ?_)
    exact State.get_set_fits _ _ (by decide) (Nat.mod_lt _ (by decide))
  exact ⟨u1.get_set_bit m on (by decide), (u1.get_set_bits _ _ _ (by decide) (by decide)).trans hdst⟩

/-! ### Probes (R169) -/

/-- A packet that the probe's port and mask select is counted, with its flits. -/
theorem probeMatch_counts {s : State} {rt i : Nat} (p : Pkt) (hon : s.flag ANV_PRB_CTL.EN rt = true) (hport : s.get ANV_PRB_CTL.PORT rt = i)
    (hmask : s.reg .ANV_PRB_MASK rt = 0) :
    ((probeMatch rt i p s).probe rt).pkts = satAdd 48 (s.probe rt).pkts 1 ∧ ((probeMatch rt i p s).probe rt).flits = satAdd 48 (s.probe rt).flits p.len := by
  unfold probeMatch
  extract_lets mask hit x y u1 u2
  have hhit : hit = true := by
    have hzero : mask = 0 := by simp only [mask, hmask]; rfl
    simp only [hit, hzero, hon, hport]
    simp
  have hprobe : u2.probe rt = y := by
    have htraced : Only (partsMask [.field .rtr, .field .xing, .field .trcDue]) u1 u2 :=
      Only.ite (State.noteTrace_only rfl (State.mapFlits_only rfl (Only.refl _ u1))) (Only.refl _ u1)
    rw [htraced.probe_eq, State.probe_setProbe]
  rw [hhit, if_neg (by decide)]
  split_ifs
  · rw [(State.notice_only (Sub.refl _) (Only.refl _ _)).probe_eq, State.probe_setProbe]
    exact ⟨rfl, rfl⟩
  · rw [hprobe]
    exact ⟨rfl, rfl⟩

theorem probeMatch_of_other_port {s : State} {rt i : Nat} (p : Pkt) (hport : s.get ANV_PRB_CTL.PORT rt ≠ i) : probeMatch rt i p s = s := by
  simp [probeMatch, hport]

/-- A snapshot shows both counts under the next SEQ. -/
theorem probeSnap_shows {s : State} {rt : Nat} (hpkts : (s.probe rt).pkts < 2 ^ 48) (hflits : (s.probe rt).flits < 2 ^ 48) :
    (probeSnap rt s).get ANV_PRB_RES.COUNT rt = (s.probe rt).pkts ∧ (probeSnap rt s).get ANV_PRB_RES2.COUNT rt = (s.probe rt).flits ∧
      (probeSnap rt s).get ANV_PRB_RES.SEQ rt = (s.get ANV_PRB_RES.SEQ rt + 1) % 256 ∧ (probeSnap rt s).get ANV_PRB_RES.VALID rt = 1 ∧
      (probeSnap rt s).get ANV_PRB_RES2.VALID rt = 1 := by
  unfold probeSnap State.resultDone State.bump
  extract_lets x u
  have hcount : u.get ANV_PRB_RES.COUNT rt = (s.probe rt).pkts := by
    simp (disch := decide) only [u, State.get_set_bits]
    exact State.get_set_fits _ _ (by decide) hpkts
  have hseq : u.get ANV_PRB_RES.SEQ rt = (s.get ANV_PRB_RES.SEQ rt + 1) % 2 ^ ANV_PRB_RES.SEQ.width := by
    simp (disch := decide) only [u, State.get_set_bits, State.get_set_self]
  have hvalid : u.get ANV_PRB_RES.VALID rt = 1 := State.get_set_fits _ _ (by decide) (by decide)
  clear_value u
  refine ⟨?_, ?_, ?_, ?_, State.get_set_fits _ _ (by decide) (by decide)⟩
  · simp (disch := decide) only [State.get_set_kind, hcount]
  · simp (disch := decide) only [State.get_set_bits]
    exact State.get_set_fits _ _ (by decide) hflits
  · simp (disch := decide) only [State.get_set_kind, hseq]
    rfl
  · simp (disch := decide) only [State.get_set_kind, hvalid]

/-- Settles O17: the copies, records, configuration and probes of mirroring, each by its command's own lemma. -/
theorem mirrorsAndProbes : Obligations.MirrorsAndProbes := by
  unfold Obligations.MirrorsAndProbes
  refine ⟨?notMirrored, ?counted, ?dropped, ?recorded, ?written, ?nothing, ?enabled, ?counts, ?otherPort, ?snap⟩
  case notMirrored => exact fun s m port eg po fl msg hm hport h => (run_true (by simp [hm, hport])).trans (congrArg _ (mirrorCopy_of_not_mirrored h))
  case counted =>
    intro s m port eg po fl msg hm hport h hskip
    refine ⟨_, run_true (by simp [hm, hport]), ?_⟩
    rw [mirrorCopy_counts h hskip, State.mirror_setMirror]
    exact ⟨rfl, rfl⟩
  case dropped => exact fun s m port eg po fl msg hm hport h hsample hq => ⟨_, run_true (by simp [hm, hport]), mirrorCopy_drops h hsample hq⟩
  case recorded =>
    exact fun s m port eg po fl msg hm hport h hsample hopen hknown hcredit =>
      ⟨_, run_true (by simp [hm, hport]), mirrorCopy_records h hsample hopen hknown hcredit⟩
  case written => exact fun s m p r rest hm hp hqueue hseq => ⟨_, run_true (decide_eq_true hm), mirrorRecordWrite_writes hp hqueue hseq⟩
  case nothing => exact fun s m hm h => (run_true (decide_eq_true hm)).trans (congrArg _ (mirrorRecordWrite_of_empty h))
  case enabled => exact fun s m v hm => ⟨_, run_true (decide_eq_true hm), mirrorEnWrite_shows s m v⟩
  case counts => exact fun s rt i p hrt hon hport hmask => ⟨_, run_true (decide_eq_true hrt), probeMatch_counts p hon hport hmask⟩
  case otherPort => exact fun s rt i p hrt hport => (run_true (decide_eq_true hrt)).trans (congrArg _ (probeMatch_of_other_port p hport))
  case snap => exact fun s rt hrt hpkts hflits => ⟨_, run_true (decide_eq_true hrt), probeSnap_shows hpkts hflits⟩

end Sys2Proof.Machine

namespace Sys2Proof.Machine

-- Proofs are elaborated one after another: each proof thread costs the check 256 MB of stack.
set_option Elab.async false

set_option exponentiation.threshold 500

/-! ### Marks, members and routes, read in a framed state -/

section Readers

variable {G : Nat} {s t : State}

theorem Only.markKept_eq (h : Only G s t) (p q : Nat) (hG : G.testBit (256 + StateField.ctorIdx .marks) = false := by decide) : t.markKept p q = s.markKept p q :=
  congrArg (Tbl.rd (fun _ => 0) · (2 ^ 32 * p + q % 2 ^ 32)) (h.2 (.field .marks) hG)

theorem Only.leadOf_eq (h : Only G s t) (b : Nat) (hG : G.testBit (RegKind.ctorIdx .PRT_CFG) = false := by decide) : t.leadOf b = s.leadOf b := by
  unfold State.leadOf
  rw [h.get_eq PRT_CFG.MODE b hG]

theorem Only.isFabric_eq (h : Only G s t) (b : Nat) (hG : G.testBit (RegKind.ctorIdx .PRT_CFG) = false := by decide) : t.isFabric b = s.isFabric b := by
  unfold State.isFabric State.portExists
  rw [h.role_eq (2 * b) hG, h.get_eq PRT_CFG.MODE (2 * b / 2) hG]

theorem Only.fabricBlocks_eq (h : Only G s t) (hG : G.testBit (RegKind.ctorIdx .PRT_CFG) = false := by decide) : t.fabricBlocks = s.fabricBlocks := by
  unfold State.fabricBlocks
  exact List.filter_congr fun b _ => h.isFabric_eq b hG

theorem Only.remoteDown_eq (h : Only G s t) (f : FabPkt) (hmember : G.testBit (RegKind.ctorIdx .MGT_FAB_MEMBER) = false := by decide)
    (hchip : G.testBit (RegKind.ctorIdx .MGT_CHIP_INFO) = false := by decide) : t.remoteDown f = s.remoteDown f := by
  unfold State.remoteDown State.joined
  rw [h.get_eq MGT_CHIP_INFO.CHIP_ID 0 hchip, h.get_eq MGT_FAB_MEMBER.STATE _ hmember, h.get_eq MGT_FAB_MEMBER.STATE _ hmember]

theorem Only.fabricPort_eq (h : Only G s t) (stream feid : Nat) (hfft : G.testBit (RegKind.ctorIdx .MGT_FAB_FFT) = false := by decide)
    (hcfg : G.testBit (RegKind.ctorIdx .PRT_CFG) = false := by decide) (htrain : G.testBit (RegKind.ctorIdx .SFL_TRAIN_STATUS) = false := by decide) :
    t.fabricPort stream feid = s.fabricPort stream feid := by
  have husable : t.altUsable (s.reg .MGT_FAB_FFT (feid / 512 % 256)) = s.altUsable (s.reg .MGT_FAB_FFT (feid / 512 % 256)) := by
    funext k
    unfold State.altUsable
    rw [h.leadOf_eq _ hcfg, h.get_eq SFL_TRAIN_STATUS.STATE _ htrain]
  unfold State.fabricPort
  rw [h.reg_eq .MGT_FAB_FFT _ hfft]
  dsimp only
  rw [husable]

end Readers

/-! ### The fabric header, rebuilt (R160) -/

theorem satAdd_zero {w a : Nat} (h : a < 2 ^ w) : satAdd w a 0 = a := by
  unfold satAdd
  omega

/-- A packet packed waits behind those packed before it. -/
theorem State.packUnit_waiting (s : State) (b : Nat) (f : FabPkt) (mark : Bool) :
    ((s.packUnit b f mark).link b).waiting = (s.link b).waiting ++ [⟨f.pkt.cls % 8, mark, fabHeader f ++ f.pkt.body, false, f.pkt⟩] :=
  congrArg SflLink.waiting (Tbl.rd_wr_self ..)

/-- A packet that leaves is packed with its header; a mark that a link of revision 1 cannot carry is counted. -/
theorem fabricHeaderRebuild_leaves (s : State) (b : Nat) (f : FabPkt) :
    ((fabricHeaderRebuild b (.leave f) s).link b).waiting.map (fun y : WaitingPkt => (y.vc, y.bytes)) =
        (s.link b).waiting.map (fun y : WaitingPkt => (y.vc, y.bytes)) ++ [(f.pkt.cls % 8, fabHeader f ++ f.pkt.body)] ∧
      (fabricHeaderRebuild b (.leave f) s).get MGT_FAB_CNT.WITHHELD 0 = satAdd 16 (s.get MGT_FAB_CNT.WITHHELD 0)
        (if hasDevLoad f.pkt = true ∧ 2 ≤ s.markKept (2 * b) f.pkt.param ∧ s.get SFL_TRAIN_STATUS.REV b = 1 then 1 else 0) := by
  unfold fabricHeaderRebuild
  dsimp -zeta only
  extract_lets s1 s2 m mark low s3 kept g port s4
  have h1 : Only (partsMask [.field .transit]) s s1 := Only.set_transit rfl (Only.refl _ s)
  have h2 : Only (partsMask [.reg .ANV_CR_STAT, .field .ni, .field .ledger, .field .transit]) s s2 :=
    Only.ite (State.leaves_only rfl (Only.set_transit rfl (Only.refl _ s))) (Only.set_transit rfl (Only.refl _ s))
  have h3 : Only (partsMask [.reg .MGT_FAB_CNT]) s2 s3 := Only.ite (State.count_only rfl (Only.refl _ s2)) (Only.refl _ s2)
  have h4 : Only (partsMask [.field .freeCtr, .field .trcDue]) s3 s4 :=
    Only.ite (State.noteTrace_only rfl (State.fresh_only rfl (Only.refl _ s3))) (Only.refl _ s3)
  have hm : m = if hasDevLoad f.pkt = true then s.markKept (2 * b) f.pkt.param else 0 := by
    simp only [m, h2.markKept_eq]
  have hlow : low = true ↔ hasDevLoad f.pkt = true ∧ 2 ≤ s.markKept (2 * b) f.pkt.param ∧ s.get SFL_TRAIN_STATUS.REV b = 1 := by
    simp only [low, mark, hm, h2.get_eq SFL_TRAIN_STATUS.REV, Bool.and_eq_true, decide_eq_true_eq]
    split_ifs with hdev <;> simp [hdev]
  have hkept : s2.get MGT_FAB_CNT.WITHHELD 0 = s.get MGT_FAB_CNT.WITHHELD 0 := h2.get_eq _ _
  have hcount : s3.get MGT_FAB_CNT.WITHHELD 0 = satAdd 16 (s.get MGT_FAB_CNT.WITHHELD 0) (if low = true then 1 else 0) := by
    by_cases hc : low = true
    · rw [if_pos hc, ← hkept, show s3 = s2.count MGT_FAB_CNT.WITHHELD 0 from if_pos hc, State.get_count _ _ _ (by decide)]
      rfl
    · rw [if_neg hc, ← hkept, show s3 = s2 from if_neg hc]
      exact (satAdd_zero (s2.get_lt 0 MGT_FAB_CNT.WITHHELD)).symm
  have hlink : s4.link b = s.link b := (h4.link_eq b).trans ((h3.link_eq b).trans (h2.link_eq b))
  constructor
  · rw [State.packUnit_waiting, List.map_append, hlink]
    rfl
  · rw [(State.packUnit_only (Sub.refl _) (Only.refl _ s4)).get_eq MGT_FAB_CNT.WITHHELD, h4.get_eq MGT_FAB_CNT.WITHHELD, hcount]
    simp only [hlow]

/-- Packets unpacked on their way leave the links and the space of their VCs as they are. -/
theorem State.arriveAll_keeps (s : State) (b : Nat) (cmark : Bool) (l : List FabPkt) :
    (∀ c, (l.foldl (fun t p => (if cmark then t.keepRemoteMark p else t).arrived b p) s).link c = s.link c) ∧
      ∀ i, (l.foldl (fun t p => (if cmark then t.keepRemoteMark p else t).arrived b p) s).get SFL_VC_STAT.FREE i = s.get SFL_VC_STAT.FREE i := by
  refine List.foldlRecOn (motive := fun t : State => (∀ c, t.link c = s.link c) ∧ ∀ i, t.get SFL_VC_STAT.FREE i = s.get SFL_VC_STAT.FREE i) l _
    ⟨fun _ => rfl, fun _ => rfl⟩ ?_
  intro t ⟨hlink, hfree⟩ p _
  have hmark : Only (partsMask [.field .marks]) t (if cmark then t.keepRemoteMark p else t) :=
    Only.ite (State.keepRemoteMark_only rfl (Only.refl _ t)) (Only.refl _ t)
  have harrived := State.arrived_only (b := b) (f := p) (Sub.refl _) (Only.refl _ (if cmark then t.keepRemoteMark p else t))
  exact ⟨fun c => (harrived.link_eq c).trans ((hmark.link_eq c).trans (hlink c)), fun i => (harrived.get_eq _ i).trans ((hmark.get_eq _ i).trans (hfree i))⟩

/-- An accepted unit with a payload is taken off the link, and its space is free again. -/
theorem fabricHeaderRebuild_arrives {s : State} {b vc : Nat} {u : AcceptedUnit}
    (hu : (s.link b).accepted.find? (fun y : AcceptedUnit => decide (y.vc = vc)) = some u) (hpayload : u.payload ≠ []) :
    ((fabricHeaderRebuild b (.arrive vc) s).link b).accepted = (s.link b).accepted.erase u ∧
      (fabricHeaderRebuild b (.arrive vc) s).get SFL_VC_STAT.FREE (8 * b + vc % 8) = (s.get SFL_VC_STAT.FREE (8 * b + vc % 8) + 1) % 2 ^ 14 := by
  unfold fabricHeaderRebuild
  dsimp -zeta only
  extract_lets x
  rw [show x.accepted.find? (fun y : AcceptedUnit => decide (y.vc = vc)) = some u from hu]
  dsimp -zeta only
  extract_lets s1 s2 begun s3 old s4
  have hs2 : s2 = (s1.set SFL_VC_STAT.FREE (8 * b + vc % 8) (s1.get SFL_VC_STAT.FREE (8 * b + vc % 8) + 1)).updXoff b (vc % 8) :=
    if_neg (by simp [hpayload])
  have hfree : s2.get SFL_VC_STAT.FREE (8 * b + vc % 8) = (s.get SFL_VC_STAT.FREE (8 * b + vc % 8) + 1) % 2 ^ 14 := by
    rw [hs2, State.updXoff_free, State.get_set_self _ _ _ (by decide) (by decide), (State.setLink_only (Sub.refl _) (Only.refl _ s)).get_eq SFL_VC_STAT.FREE]
    rfl
  have hlink : s2.link b = { x with accepted := x.accepted.erase u } := by
    have h12 : Only (partsMask [.reg .SFL_VC_STAT]) s1 s2 := by
      rw [hs2]
      exact State.updXoff_only rfl (State.set_only rfl (Only.refl _ s1))
    exact (h12.link_eq b).trans (Tbl.rd_wr_self ..)
  have h24 : Only (partsMask [.reg .ANV_SLAG_CNT2, .field .fabIn]) s2 s4 :=
    Only.set_fabIn rfl (Only.ite (State.count_only rfl (Only.refl _ s2)) (Only.refl _ s2))
  obtain ⟨hlinks, hspaces⟩ := State.arriveAll_keeps s4 b u.cmark (unpack (vc % 8) 64 (old ++ u.payload)).1
  exact ⟨congrArg SflLink.accepted (((hlinks b).trans (h24.link_eq b)).trans hlink), ((hspaces _).trans (h24.get_eq _ _)).trans hfree⟩

theorem fabricHeaderRebuild_of_nothing {s : State} {b vc : Nat} (h : (s.link b).accepted = []) : fabricHeaderRebuild b (.arrive vc) s = s := by
  simp [fabricHeaderRebuild, h]

/-! ### Packets forwarded between chips (R311 to R313) -/

section Forward

variable {s : State} {b k port : Nat} {origin : Bool} {f : FabPkt}

/-- A packet sent on a port has the port's path for its slot, is one more in flight, and waits in transit at the port's lead block. -/
theorem State.forwardOn_shows (s : State) (b : Nat) (f : FabPkt) (port : Nat) :
    Tbl.rd (fun _ => none) (s.forwardOn b f port).fabPath (fabSlot f) = some port ∧
      Tbl.rd (fun _ => 0) (s.forwardOn b f port).fabFlight (fabSlot f) = Tbl.rd (fun _ => 0) s.fabFlight (fabSlot f) + 1 ∧
      (s.forwardOn b f port).transit.getLast?.map (fun y : Nat × FabPkt => (y.1, y.2.ttl)) = some (s.leadOf (port / 2), f.ttl) := by
  unfold State.forwardOn
  extract_lets c i sent p u
  have hqueued : Only (partsMask [.field .voq]) u (u.enqueue b p) := State.enqueue_only rfl (Only.refl _ u)
  rw [hqueued.2 (.field .fabPath) (by decide), hqueued.2 (.field .fabFlight) (by decide), hqueued.2 (.field .transit) (by decide)]
  have hpath : u.fabPath = Tbl.wr (fun _ => none) s.fabPath i (some port) := rfl
  have hflight : u.fabFlight = Tbl.wr (fun _ => 0) s.fabFlight i (Tbl.rd (fun _ => 0) s.fabFlight i + 1) := rfl
  rw [hpath, hflight]
  refine ⟨Tbl.rd_wr_self .., Tbl.rd_wr_self .., ?_⟩
  rw [show u.transit = s.transit ++ [(c, { f with pkt := p })] from rfl, List.getLast?_concat]
  rfl

/-- A member sends a packet for a chip within reach by the port that its stream hashes to. -/
theorem State.way_of_port (hjoined : s.joined = true) (hchip : s.get MGT_FAB_MEMBER.STATE (f.dst / 512 % 256) ≠ 3)
    (hport : s.fabricPort f.pkt.stream f.dst = some (k, port)) :
    (if s.remoteDown f then none else s.fabricPort f.pkt.stream f.dst) = some (k, port) := by
  have hserved : s.remoteDown f = false := by simp [State.remoteDown, hjoined, hchip]
  rw [hserved, if_neg Bool.false_ne_true, hport]

/-- With a way to the destination and no path of its slot to wait for, a packet is sent on the way's port: with the configured TTL where it starts, with one less where it passes. -/
theorem fabricForward_sends (hlive : origin = true ∨ 0 < f.ttl) (hjoined : s.joined = true) (hchip : s.get MGT_FAB_MEMBER.STATE (f.dst / 512 % 256) ≠ 3)
    (hport : s.fabricPort f.pkt.stream f.dst = some (k, port)) (hpath : Tbl.rd (fun _ => none) s.fabPath (fabSlot f) = none) :
    fabricForward b origin f s = ({ s with transit := s.transit.filter fun x => x ≠ (b, f) } : State).forwardOn b
      { f with ttl := if origin then s.get MGT_FAB_CFG.TTL 0 else f.ttl - 1 } port := by
  unfold fabricForward
  extract_lets u g i
  have hu : Only (partsMask [.field .transit]) s u := Only.set_transit rfl (Only.refl _ s)
  have hway : (if u.remoteDown g then none else u.fabricPort g.pkt.stream g.dst) = some (k, port) := by
    rw [hu.remoteDown_eq, hu.fabricPort_eq]
    exact State.way_of_port hjoined hchip hport
  have hfree : Tbl.rd (fun _ => none) u.fabPath i = none := hpath
  rw [if_neg (by rintro ⟨ho, ht⟩; rcases hlive with h | h <;> simp_all), hway]
  dsimp only
  rw [hfree]
  rfl

/-- While packets of its slot are on the way by another port, a packet is held behind those held before it. -/
theorem fabricForward_holds {old : Nat} (hlive : 0 < f.ttl) (hjoined : s.joined = true) (hchip : s.get MGT_FAB_MEMBER.STATE (f.dst / 512 % 256) ≠ 3)
    (hport : s.fabricPort f.pkt.stream f.dst = some (k, port)) (hpath : Tbl.rd (fun _ => none) s.fabPath (fabSlot f) = some old) (hother : old ≠ port)
    (hflight : 0 < Tbl.rd (fun _ => 0) s.fabFlight (fabSlot f)) :
    (fabricForward b false f s).fabHeld = s.fabHeld ++ [(fabSlot f, b, { f with ttl := f.ttl - 1 })] ∧ (fabricForward b false f s).fabFlight = s.fabFlight := by
  unfold fabricForward
  extract_lets u g i
  have hu : Only (partsMask [.field .transit]) s u := Only.set_transit rfl (Only.refl _ s)
  have hway : (if u.remoteDown g then none else u.fabricPort g.pkt.stream g.dst) = some (k, port) := by
    rw [hu.remoteDown_eq, hu.fabricPort_eq]
    exact State.way_of_port hjoined hchip hport
  have hold : Tbl.rd (fun _ => none) u.fabPath i = some old := hpath
  have hwait : old ≠ port ∧ 0 < Tbl.rd (fun _ => 0) u.fabFlight i := ⟨hother, hflight⟩
  rw [if_neg (by omega), hway]
  dsimp only
  rw [hold]
  dsimp only
  rw [if_pos hwait]
  exact ⟨rfl, rfl⟩

theorem fabricForward_of_ttl_zero (h : f.ttl = 0) : fabricForward b false f s = { s with transit := s.transit.filter fun x => x ≠ (b, f) } := by
  simp [fabricForward, h]

/-- Before membership a packet of any class but Weusk's is answered REMOTE_DOWN where it stands. -/
theorem fabricForward_of_not_joined (hlive : 0 < f.ttl) (hjoined : s.joined = false) (hcls : f.pkt.cls ≠ 0) :
    fabricForward b false f s = ({ s with transit := s.transit.filter fun x => x ≠ (b, f) } : State).absorb b f.pkt 4 := by
  unfold fabricForward
  extract_lets u g i
  have hu : Only (partsMask [.field .transit]) s u := Only.set_transit rfl (Only.refl _ s)
  have hdown : u.remoteDown g = true := by
    rw [hu.remoteDown_eq]
    simp [State.remoteDown, hjoined, show g.pkt = f.pkt from rfl, hcls]
  rw [if_neg (by omega), hdown]
  rfl

theorem ttlExpired_counts (httl : f.ttl = 0) (hdst : f.dst / 512 ≠ s.chipId) :
    (ttlExpired b f s).get MGT_FAB_CNT.TTL_EXP 0 = satAdd 16 (s.get MGT_FAB_CNT.TTL_EXP 0) 1 := by
  have hkept : Only (partsMask [.field .ni, .field .transit]) s (({ s with transit := s.transit.filter fun x => x ≠ (b, f) } : State).absorb b f.pkt 6) :=
    State.absorb_only rfl (Only.set_transit rfl (Only.refl _ s))
  unfold ttlExpired
  rw [if_neg (by simp [httl, hdst]), State.get_count _ _ _ (by decide), hkept.get_eq MGT_FAB_CNT.TTL_EXP]
  rfl

theorem ttlExpired_of_live (h : 0 < f.ttl ∨ f.dst / 512 = s.chipId) : ttlExpired b f s = s :=
  if_pos (h.imp_left fun hlive => by omega)

end Forward

/-! ### Alternatives over a link that goes down or comes back (R313) -/

/-- A bit written into four bits reads as written and leaves the others, and the bits stay four. -/
theorem withBit_four : ∀ n < 16, ∀ k < 4, ∀ b, withBit n k b < 16 ∧ bitOf (withBit n k b) k = b ∧ ∀ j < 4, j ≠ k → bitOf (withBit n k b) j = bitOf n j := by
  decide

theorem State.get_setBit_self (s : State) (d : Nat) {k : Nat} (hk : k < 4) (b : Bool) : bitOf ((s.setBit MGT_FAB_FFT.UP d k b).get MGT_FAB_FFT.UP d) k = b := by
  obtain ⟨hfour, hread, -⟩ := withBit_four _ (s.get_lt d MGT_FAB_FFT.UP) k hk b
  rw [State.setBit, State.get_set_fits _ _ (by decide) hfour, hread]

theorem State.get_setBit_other (s : State) {d e k j : Nat} (hk : k < 4) (hj : j < 4) (b : Bool) (h : e ≠ d ∨ j ≠ k) :
    bitOf ((s.setBit MGT_FAB_FFT.UP d k b).get MGT_FAB_FFT.UP e) j = bitOf (s.get MGT_FAB_FFT.UP e) j := by
  obtain ⟨hfour, -, hothers⟩ := withBit_four _ (s.get_lt d MGT_FAB_FFT.UP) k hk b
  by_cases he : e = d
  · subst he
    rw [State.setBit, State.get_set_fits _ _ (by decide) hfour]
    exact hothers j hj (h.resolve_left (· rfl))
  · rw [State.setBit, State.get_set_index _ _ he]

/-- Alternative k of the entry towards chip d is valid and leaves by port p. -/
abbrev State.AltOver (s : State) (p d k : Nat) : Prop :=
  (s.reg .MGT_FAB_FFT d).field (8 * k + 7) (8 * k + 7) = 1 ∧ (s.reg .MGT_FAB_FFT d).field (8 * k + 6) (8 * k) = p

/-- One alternative shown as its port's link stands, where it leaves by that port. -/
def State.showAlt (p : Nat) (up : Bool) (d k : Nat) (s : State) : State :=
  if s.AltOver p d k then s.setBit MGT_FAB_FFT.UP d k up else s

/-- The alternatives of one entry shown as their port's link stands. -/
def State.showEntry (p : Nat) (up : Bool) (d : Nat) (s : State) : State := s.each (List.range 4) fun k u => u.showAlt p up d k

/-- Every alternative over a port shown as the port's link stands. -/
def State.showAlts (p : Nat) (up : Bool) (s : State) : State := s.each (List.range 256) fun d t => t.showEntry p up d

/-- Bits below the UP field of an entry stay as they are. -/
theorem State.showAlt_field (s : State) (p : Nat) (up : Bool) (d k e hi lo : Nat) (h : hi < 36) :
    ((s.showAlt p up d k).reg .MGT_FAB_FFT e).field hi lo = (s.reg .MGT_FAB_FFT e).field hi lo := by
  unfold State.showAlt
  split_ifs
  · by_cases he : e = d
    · subst he
      rw [State.setBit, State.set, State.reg_setReg_self, Word.field_setField_other _ _ (by decide) (by decide) (.inl h)]
    · rw [State.setBit, State.reg_set_other _ _ (.inr he)]
  · rfl

theorem State.showAlt_altOver (s : State) (p q : Nat) (up : Bool) (d k e j : Nat) (hj : j < 4) : (s.showAlt p up d k).AltOver q e j ↔ s.AltOver q e j := by
  unfold State.AltOver
  rw [s.showAlt_field p up d k e _ _ (by omega), s.showAlt_field p up d k e _ _ (by omega)]

/-- An alternative over the port reads as the link stands once it has been shown, and showing any alternative over the port keeps it so. -/
theorem State.showAlt_self {s : State} {p d k : Nat} (up : Bool) (hk : k < 4) (h : s.AltOver p d k) :
    bitOf ((s.showAlt p up d k).get MGT_FAB_FFT.UP d) k = up := by
  rw [State.showAlt, if_pos h, s.get_setBit_self d hk]

theorem State.showAlt_keeps {s : State} {p d k e j : Nat} {up : Bool} (hk : k < 4) (hj : j < 4) (h : bitOf (s.get MGT_FAB_FFT.UP e) j = up) :
    bitOf ((s.showAlt p up d k).get MGT_FAB_FFT.UP e) j = up := by
  unfold State.showAlt
  split_ifs
  · by_cases hsame : e = d ∧ j = k
    · rw [hsame.1, hsame.2, s.get_setBit_self d hk]
    · rw [s.get_setBit_other hk hj up (by omega), h]
  · exact h

/-- As `State.each_reaches`, where the steps of the list's own indices alone need keep what holds. -/
theorem State.each_establishes {P Q : State → Prop} {f : Nat → State → State} {l : List Nat} {i : Nat} (hi : i ∈ l) (hP : ∀ j ∈ l, ∀ u, P u → P (f j u))
    (hQ : ∀ j ∈ l, ∀ u, Q u → Q (f j u)) (hset : ∀ u, P u → Q (f i u)) {s : State} (hs : P s) : Q (s.each l f) := by
  obtain ⟨l1, l2, rfl⟩ := List.append_of_mem hi
  unfold State.each
  rw [List.foldl_append, List.foldl_cons]
  have hbefore : P (l1.foldl (fun t j => f j t) s) := List.foldlRecOn (motive := P) l1 _ hs fun u hu j hj => hP j (List.mem_append_left _ hj) u hu
  exact List.foldlRecOn (motive := Q) l2 _ (hset _ hbefore) fun u hu j hj => hQ j (List.mem_append_right _ (List.mem_cons_of_mem _ hj)) u hu

theorem State.showEntry_altOver {s : State} {p d k : Nat} (up : Bool) (e : Nat) (hk : k < 4) (h : s.AltOver p d k) : (s.showEntry p up e).AltOver p d k :=
  List.foldlRecOn (motive := fun t : State => t.AltOver p d k) _ _ h fun t ht j _ => (t.showAlt_altOver p p up e j d k hk).2 ht

theorem State.showEntry_keeps {s : State} {p d k : Nat} {up : Bool} (e : Nat) (hk : k < 4) (h : bitOf (s.get MGT_FAB_FFT.UP d) k = up) :
    bitOf ((s.showEntry p up e).get MGT_FAB_FFT.UP d) k = up :=
  List.foldlRecOn (motive := fun t : State => bitOf (t.get MGT_FAB_FFT.UP d) k = up) _ _ h fun _ ht _ hj => State.showAlt_keeps (List.mem_range.1 hj) hk ht

theorem State.showEntry_shows {s : State} {p d k : Nat} (up : Bool) (hk : k < 4) (h : s.AltOver p d k) :
    bitOf ((s.showEntry p up d).get MGT_FAB_FFT.UP d) k = up :=
  State.each_establishes (P := fun t => t.AltOver p d k) (Q := fun t => bitOf (t.get MGT_FAB_FFT.UP d) k = up) (List.mem_range.2 hk)
    (fun j _ u hu => (u.showAlt_altOver p p up d j d k hk).2 hu) (fun _ hj _ hu => State.showAlt_keeps (List.mem_range.1 hj) hk hu)
    (fun _ hu => State.showAlt_self up hk hu) h

theorem State.showAlts_shows {s : State} {p d k : Nat} (up : Bool) (hd : d < 256) (hk : k < 4) (h : s.AltOver p d k) :
    bitOf ((s.showAlts p up).get MGT_FAB_FFT.UP d) k = up :=
  State.each_establishes (P := fun t => t.AltOver p d k) (Q := fun t => bitOf (t.get MGT_FAB_FFT.UP d) k = up) (List.mem_range.2 hd)
    (fun e _ _ hu => State.showEntry_altOver up e hk hu) (fun e _ _ hu => State.showEntry_keeps e hk hu) (fun _ hu => State.showEntry_shows up hk hu) h

theorem State.showAlts_only (p : Nat) (up : Bool) (s : State) : Only (partsMask [.reg .MGT_FAB_FFT]) s (s.showAlts p up) := by
  refine State.each_only (fun d t ht => State.each_only (fun k u hu => ?_) ht) (Only.refl _ s)
  exact Only.ite (State.setBit_only rfl hu) hu

/-- A byte of a forwarding entry with its valid bit and a port names an alternative over that port. -/
theorem State.altOver_of_byte {s : State} {p d k : Nat} (hp : p < 128) (h : (s.reg .MGT_FAB_FFT d).toNat / 2 ^ (8 * k) % 256 = 128 + p) : s.AltOver p d k := by
  unfold State.AltOver Word.field
  rw [show 8 * k + 7 + 1 - (8 * k + 7) = 1 by omega, show 8 * k + 6 + 1 - 8 * k = 7 by omega, pow_add, ← Nat.div_div_eq_div_mul]
  generalize (s.reg .MGT_FAB_FFT d).toNat / 2 ^ (8 * k) = x at *
  omega

section Reroute

variable {s : State} {p : Nat}

/-- The link of a port is ACTIVE. -/
abbrev State.portUp (s : State) (p : Nat) : Bool := decide (s.get SFL_TRAIN_STATUS.STATE (s.leadOf (p / 2)) = 7)

theorem fabricLinkLossReroute_shows : fabricLinkLossReroute p false s = s.showAlts p (s.portUp p) := rfl

/-- A packet that was held goes on by the port of the usable alternative, or is answered. -/
def State.goOn (s : State) (h : Nat × Nat × FabPkt) : State :=
  match (if s.remoteDown h.2.2 then none else s.fabricPort h.2.2.pkt.stream h.2.2.dst) with
  | some (_, port) => s.forwardOn h.2.1 h.2.2 port
  | none => s.absorb h.2.1 h.2.2.pkt 4

/-- A slot's packets go by a port. -/
def State.goesBy (s : State) (p i : Nat) : Bool := decide (Tbl.rd (fun _ => none) s.fabPath i = some p)

/-- A port's slots with nothing in flight any more and nothing held. -/
def State.drainSlots (s : State) (p : Nat) : State :=
  { s with fabFlight := s.fabFlight.filter fun e => !s.goesBy p e.1, fabHeld := s.fabHeld.filter fun h => !s.goesBy p h.1 }

theorem fabricLinkLossReroute_drained : fabricLinkLossReroute p true s =
    ((s.showAlts p (s.portUp p)).fabHeld.filter fun h => (s.showAlts p (s.portUp p)).goesBy p h.1).foldl State.goOn
      ((s.showAlts p (s.portUp p)).drainSlots p) := rfl

/-- A packet that goes on leaves what is held as it is. -/
theorem State.goOn_only (u : State) (h : Nat × Nat × FabPkt) :
    Only (partsMask [.field .ni, .field .voq, .field .transit, .field .fabPath, .field .fabFlight]) u (u.goOn h) := by
  unfold State.goOn
  split
  · exact State.forwardOn_only rfl (Only.refl _ u)
  · exact State.absorb_only rfl (Only.refl _ u)

/-- What an entry-wise filter drops reads as nothing. -/
theorem Tbl.rd_filter_out {α : Type} (d : Nat → α) (m : Tbl α) {f : Nat × α → Bool} {j : Nat} (hf : ∀ v, f (j, v) = false) : Tbl.rd d (m.filter f) j = d j := by
  induction m with
  | nil => rfl
  | cons e m ih =>
    obtain ⟨a, v⟩ := e
    rw [List.filter_cons]
    split_ifs with hkeep
    · have hne : a ≠ j := by
        rintro rfl
        simp [hf] at hkeep
      simpa [Tbl.rd, Tbl.find, hne] using ih
    · exact ih

theorem Only.goesBy_eq {G : Nat} {t : State} (h : Only G s t) (i : Nat) (hG : G.testBit (256 + StateField.ctorIdx .fabPath) = false := by decide) :
    t.goesBy p i = s.goesBy p i :=
  congrArg (fun m => decide (Tbl.rd (fun _ => none) m i = some p)) (h.2 (.field .fabPath) hG)

/-- Once a port has drained, no packet of its slots is counted in flight. -/
theorem fabricLinkLossReroute_drains {i : Nat} (hpath : Tbl.rd (fun _ => none) s.fabPath i = some p) (hheld : s.fabHeld = []) :
    Tbl.rd (fun _ => 0) (fabricLinkLossReroute p true s).fabFlight i = 0 := by
  rw [fabricLinkLossReroute_drained]
  have hshown := State.showAlts_only p (s.portUp p) s
  generalize s.showAlts p (s.portUp p) = u at hshown ⊢
  have hvia : u.goesBy p i = true := (hshown.goesBy_eq i).trans (decide_eq_true hpath)
  have hhelds : u.fabHeld = [] := (hshown.2 (.field .fabHeld) (by decide) : u.fabHeld = s.fabHeld).trans hheld
  rw [hhelds]
  exact Tbl.rd_filter_out _ _ fun _ => by simp [hvia]

/-- A packet held for a slot of a port that has drained is held no longer. -/
theorem fabricLinkLossReroute_releases {h : Nat × Nat × FabPkt} (hheld : s.fabHeld = [h]) (hpath : Tbl.rd (fun _ => none) s.fabPath h.1 = some p) :
    (fabricLinkLossReroute p true s).fabHeld = [] := by
  rw [fabricLinkLossReroute_drained]
  have hshown := State.showAlts_only p (s.portUp p) s
  generalize s.showAlts p (s.portUp p) = u at hshown ⊢
  have hvia : u.goesBy p h.1 = true := (hshown.goesBy_eq h.1).trans (decide_eq_true hpath)
  have hhelds : u.fabHeld = [h] := (hshown.2 (.field .fabHeld) (by decide) : u.fabHeld = s.fabHeld).trans hheld
  have hkept : (u.drainSlots p).fabHeld = [] := by simp [State.drainSlots, hhelds, hvia]
  simp only [hhelds, List.filter_cons_of_pos, hvia, List.filter_nil, List.foldl_cons, List.foldl_nil]
  exact (((u.drainSlots p).goOn_only h).2 (.field .fabHeld) (by decide)).trans hkept

end Reroute

/-! ### Links below the revision that both ends could run (R317) -/

section Mixed

variable {s : State} {b : Nat}

/-- The lower chip ID retrains a link that could run higher, with no destination routed over it and no other link in training. -/
theorem mixedRevisionRetrain_retrains (hactive : s.get SFL_TRAIN_STATUS.STATE b = 7) (hown : s.get SFL_TRAIN_STATUS.REV b < s.get SFL_PHY_CFG.REV_MAX b)
    (hpeer : s.get SFL_TRAIN_STATUS.REV b < s.get SFL_PEER.REV_MAX b) (hlower : s.chipId < s.get SFL_PEER.CHIP_ID b)
    (hroutes : ∀ d ∈ List.range 256, s.reg .MGT_FAB_FFT d = 0)
    (halone : ∀ c ∈ s.fabricBlocks, s.get SFL_TRAIN_STATUS.STATE c = 7 ∨ s.get SFL_TRAIN_STATUS.STATE c = 0) :
    mixedRevisionRetrain b true s = sflRetrainWrite b s := by
  unfold mixedRevisionRetrain
  extract_lets rev better ok alone
  have hbetter : better = true := by simp [better, rev, hown, hpeer]
  have hok : ok = true := by
    refine List.all_eq_true.2 fun d hd => ?_
    simp [hroutes d hd, Word.field]
  have halone' : alone = true := List.all_eq_true.2 fun c hc => by simpa using halone c hc
  rw [if_pos ⟨hactive, hbetter, hlower, hok, rfl, halone'⟩]

theorem mixedRevisionRetrain_of_other_training {c : Nat} (hc : c ∈ s.fabricBlocks) (hup : s.get SFL_TRAIN_STATUS.STATE c ≠ 7)
    (hdown : s.get SFL_TRAIN_STATUS.STATE c ≠ 0) : mixedRevisionRetrain b true s = s := by
  unfold mixedRevisionRetrain
  extract_lets rev better ok alone
  have halone : alone = false := List.all_eq_false.2 ⟨c, hc, by simp [hup, hdown]⟩
  rw [if_neg (by simp [halone])]

theorem mixedRevisionRetrain_of_refused {ok : Bool}
    (h : s.get SFL_TRAIN_STATUS.STATE b ≠ 7 ∨ s.get SFL_PEER.CHIP_ID b ≤ s.chipId ∨ s.get SFL_PHY_CFG.REV_MAX b ≤ s.get SFL_TRAIN_STATUS.REV b) :
    mixedRevisionRetrain b ok s = s := by
  unfold mixedRevisionRetrain
  extract_lets rev better legal alone
  refine if_neg ?_
  rintro ⟨hactive, hbetter, hlower, -⟩
  have hown : s.get SFL_TRAIN_STATUS.REV b < s.get SFL_PHY_CFG.REV_MAX b := by
    simp only [better, Bool.and_eq_true, decide_eq_true_eq] at hbetter
    exact hbetter.1
  omega

end Mixed

/-! ### MIXED, shown and kept (R315, R316) -/

section Shown

variable {s t : State} {c : Bool} {G : Nat}

/-- The condition MIXED is `c`, and shown so. -/
def State.ShowsMixed (c : Bool) (s : State) : Prop := s.mixedNow = c ∧ s.get MGT_FAB_STAT.MIXED 0 = bit c

/-- The condition depends on the links' revisions and states, the ports' roles, and REV_TOP. -/
theorem Only.mixedNow_eq (h : Only G s t) (htop : t.get MGT_FAB_STAT.REV_TOP 0 = s.get MGT_FAB_STAT.REV_TOP 0)
    (hcfg : G.testBit (RegKind.ctorIdx .PRT_CFG) = false := by decide) (hphy : G.testBit (RegKind.ctorIdx .SFL_PHY_CFG) = false := by decide)
    (htrain : G.testBit (RegKind.ctorIdx .SFL_TRAIN_STATUS) = false := by decide) : t.mixedNow = s.mixedNow := by
  have hrev : t.ownRev = s.ownRev := by
    unfold State.ownRev
    rw [h.fabricBlocks_eq hcfg]
    exact congrArg (List.foldl max 0) (List.map_congr_left fun b _ => h.get_eq SFL_PHY_CFG.REV_MAX b hphy)
  have hlinks : t.activeLinks = s.activeLinks := by
    unfold State.activeLinks
    rw [h.fabricBlocks_eq hcfg]
    exact List.filter_congr fun b _ => by rw [h.get_eq SFL_TRAIN_STATUS.STATE b htrain]
  have hbelow : (fun b => decide (t.get SFL_TRAIN_STATUS.REV b < s.ownRev)) = fun b => decide (s.get SFL_TRAIN_STATUS.REV b < s.ownRev) :=
    funext fun b => by rw [h.get_eq SFL_TRAIN_STATUS.REV b htrain]
  unfold State.mixedNow
  rw [hrev, htop, hlinks, hbelow]

/-- What leaves the links, the ports' roles and the fabric's status alone keeps MIXED shown. -/
theorem State.ShowsMixed.frame (hs : s.ShowsMixed c) (h : Only G s t) (hstat : G.testBit (RegKind.ctorIdx .MGT_FAB_STAT) = false := by decide)
    (hcfg : G.testBit (RegKind.ctorIdx .PRT_CFG) = false := by decide) (hphy : G.testBit (RegKind.ctorIdx .SFL_PHY_CFG) = false := by decide)
    (htrain : G.testBit (RegKind.ctorIdx .SFL_TRAIN_STATUS) = false := by decide) : t.ShowsMixed c :=
  ⟨(h.mixedNow_eq (h.get_eq _ 0 hstat) hcfg hphy htrain).trans hs.1, (h.get_eq _ 0 hstat).trans hs.2⟩

/-- Another field of the fabric's status written keeps MIXED shown. -/
theorem State.ShowsMixed.setStat (hs : s.ShowsMixed c) {F : Fld} (v : Nat) (hreg : F.reg = .MGT_FAB_STAT := by decide) (hF : F.Fits := by decide)
    (hmixed : MGT_FAB_STAT.MIXED.hi < F.lo ∨ F.hi < MGT_FAB_STAT.MIXED.lo := by decide)
    (htop : MGT_FAB_STAT.REV_TOP.hi < F.lo ∨ F.hi < MGT_FAB_STAT.REV_TOP.lo := by decide) : (s.set F 0 v).ShowsMixed c := by
  have hkept : Only (partsMask [.reg .MGT_FAB_STAT]) s (s.set F 0 v) := State.set_only (by rw [Fld.mask, hreg]; rfl) (Only.refl _ s)
  exact ⟨(hkept.mixedNow_eq (s.get_set_bits 0 0 v hF htop)).trans hs.1, (s.get_set_bits 0 0 v hF hmixed).trans hs.2⟩

theorem State.ShowsMixed.ite {p : Prop} [Decidable p] (hs : s.ShowsMixed c) (ht : t.ShowsMixed c) : (if p then s else t).ShowsMixed c := by
  split_ifs
  · exact hs
  · exact ht

/-- MIXED brought up to date shows the condition, which that does not change. -/
theorem State.updMixed_showsMixed (s : State) : s.updMixed.ShowsMixed s.mixedNow := by
  unfold State.updMixed
  split_ifs with h
  · exact ⟨rfl, h.symm⟩
  · have hset : Only (partsMask [.reg .MGT_FAB_STAT]) s (s.set MGT_FAB_STAT.MIXED 0 (bit s.mixedNow)) := State.set_only rfl (Only.refl _ s)
    have hshown : (s.set MGT_FAB_STAT.MIXED 0 (bit s.mixedNow)).ShowsMixed s.mixedNow :=
      ⟨hset.mixedNow_eq (s.get_set_bits 0 0 _ (by decide) (by decide)), s.get_set_bit 0 _ (by decide)⟩
    exact (hshown.frame (State.notice_only (Sub.refl _) (Only.refl _ _))).frame (State.updMode_only (Sub.refl _) (Only.refl _ _))

theorem State.ShowsMixed.updMixed (hs : s.ShowsMixed c) : s.updMixed.ShowsMixed c := hs.1 ▸ s.updMixed_showsMixed

theorem State.ShowsMixed.applyUnreachable (hs : s.ShowsMixed c) (chip : Nat) : (s.applyUnreachable chip).ShowsMixed c := by
  unfold State.applyUnreachable
  extract_lets s1 vs s2 s3 s4
  have h3 : s3.ShowsMixed c := hs.frame (G := partsMask [.reg .VPPB_ENTRY, .reg .MGT_FAB_MEMBER, .field .vppbs, .field .cxlLog, .field .cxlHandle]) (by
    have h2 : Only (partsMask [.reg .VPPB_ENTRY, .reg .MGT_FAB_MEMBER, .field .vppbs, .field .cxlLog, .field .cxlHandle]) s s2 :=
      State.each_only (fun _ _ hu => State.surpriseRemoved_only rfl hu) (State.set_only rfl (Only.refl _ s))
    exact Only.ite h2 (State.mediaLost_only rfl h2))
  have h4 : s4.ShowsMixed c := (h3.setStat 1).ite h3
  exact List.foldlRecOn (motive := State.ShowsMixed c) _ _ h4 fun _ hu _ _ => hu.frame (State.removeAgent_only (Sub.refl _) (Only.refl _ _))

/-- A change of a distributed table keeps MIXED shown. -/
theorem State.ShowsMixed.applyChange (hs : s.ShowsMixed c) (x : FabChange) : (s.applyChange x).ShowsMixed c := by
  cases x with
  | member chip w => exact hs.frame (G := partsMask [.reg .MGT_FAB_MEMBER]) (State.setReg_only rfl (Only.refl _ s))
  | fft chip d w =>
    have hcopy : Only (partsMask [.reg .MGT_FAB_FFT, .field .fab]) s
        (if s.roleNow = 1 then s else s.modFab fun y => { y with tables := Tbl.wr (fun _ => (0 : Word)) y.tables (256 * chip + d) w }) :=
      Only.ite (Only.refl _ s) (State.modFab_only rfl (Only.refl _ s))
    exact hs.frame (G := partsMask [.reg .MGT_FAB_FFT, .field .fab]) (Only.ite (State.setReg_only rfl hcopy) hcopy)
  | agent a w => exact hs.frame (State.applyAgent_only (Sub.refl _) (Only.refl _ s))
  | unreachable chip => exact hs.applyUnreachable (chip % 256)

theorem State.ShowsMixed.applyGen (hs : s.ShowsMixed c) (g : FabGen) : (s.applyGen g).ShowsMixed c := by
  unfold State.applyGen
  extract_lets s1 s2 s3 s4
  have h1 : s1.ShowsMixed c := List.foldlRecOn (motive := State.ShowsMixed c) _ _ hs fun _ hu x _ => hu.applyChange x
  have h3 : s3.ShowsMixed c := h1.frame (G := partsMask [.reg .MGT_FAB_GEN])
    (Only.ite (State.set_only rfl (State.set_only rfl (Only.refl _ s1))) (State.set_only rfl (Only.refl _ s1)))
  have h4 : s4.ShowsMixed c := (h3.setStat _).ite h3
  exact h4.updMixed

theorem State.ShowsMixed.finishGen (hs : s.ShowsMixed c) (r : FabRun) : (s.finishGen r).ShowsMixed c := by
  unfold State.finishGen
  extract_lets s1 s2
  have hsent : (s1.modFab fun x => { x with run := none }).ShowsMixed c :=
    hs.frame (G := partsMask [.reg .CNT_VAL, .field .out, .field .fab]) (State.modFab_only rfl (State.sendAll_only rfl (Only.refl _ s)))
  have h2 : s2.ShowsMixed c := hsent.applyGen r.gen
  split_ifs
  · split
    · exact h2.frame (State.sendTo_only (Sub.refl _) (Only.refl _ s2))
    · exact h2
  · exact h2

/-- Generations that start and are committed keep MIXED shown. -/
theorem State.ShowsMixed.startGen (hs : s.ShowsMixed c) (n : Nat) : (State.startGen n s).ShowsMixed c := by
  induction n generalizing s with
  | zero => exact hs
  | succ n ih =>
    unfold State.startGen
    split_ifs
    · exact hs
    · split
      · exact hs
      · rename_i changes whole rest _
        have hnext : (s.modFab fun x => { x with todo := rest }).ShowsMixed c := hs.frame (State.modFab_only (Sub.refl _) (Only.refl _ s))
        have hprep : ∀ r, ((s.modFab fun x => { x with todo := rest }).sendPrep r).ShowsMixed c := fun r =>
          hnext.frame (State.sendPrep_only (Sub.refl _) (Only.refl _ _))
        exact (ih hnext).ite ((hprep _).ite ((ih (hnext.finishGen _)).ite (hprep _)))

theorem mixedConditionChange_shows (s : State) : (mixedConditionChange s).get MGT_FAB_STAT.MIXED 0 = bit s.mixedNow := by
  have hupd := s.updMixed_showsMixed
  unfold mixedConditionChange State.capTables
  extract_lets wide
  split_ifs
  · have hasked : (s.updMixed.modFab fun x => { x with todo := x.todo ++ [(wide.map fun e => s.updMixed.capNalt (.fft (e.1 / 256) (e.1 % 256) e.2), [])] }).ShowsMixed
        s.mixedNow := hupd.frame (State.modFab_only (Sub.refl _) (Only.refl _ _))
    exact (hasked.startGen _).2
  · exact hupd.2

end Shown

/-- Settles O35: rebuilt headers, forwarding, TTL, lost links and mixed revisions, each by its command's own lemma. -/
theorem fabricForwards : Obligations.FabricForwards := by
  unfold Obligations.FabricForwards
  refine ⟨?leaves, ?arrives, ?nothing, ?sent, ?started, ?held, ?dead, ?unjoined, ?expired, ?live, ?down, ?back, ?drained, ?released, ?retrained, ?busy, ?refused, ?mixed⟩
  case leaves => exact fun s b f hb => ⟨_, run_true (decide_eq_true hb), fabricHeaderRebuild_leaves s b f⟩
  case arrives => exact fun s b vc u hb hu hpayload => ⟨_, run_true (decide_eq_true hb), fabricHeaderRebuild_arrives hu hpayload⟩
  case nothing => exact fun s b vc hb h => (run_true (decide_eq_true hb)).trans (congrArg _ (fabricHeaderRebuild_of_nothing h))
  case sent =>
    intro s b f k port hb hlive hjoined hchip hport hpath
    refine ⟨_, run_true (decide_eq_true hb), ?_⟩
    rw [fabricForward_sends (.inr hlive) hjoined hchip hport hpath]
    exact State.forwardOn_shows _ b { f with ttl := f.ttl - 1 } port
  case started =>
    intro s b f k port hb hjoined hchip hport hpath
    refine ⟨_, run_true (decide_eq_true hb), ?_⟩
    rw [fabricForward_sends (.inl rfl) hjoined hchip hport hpath]
    exact (State.forwardOn_shows _ b { f with ttl := s.get MGT_FAB_CFG.TTL 0 } port).2.2
  case held => exact fun s b f k port old hb hlive hjoined hchip hport hpath hother hflight =>
    ⟨_, run_true (decide_eq_true hb), fabricForward_holds hlive hjoined hchip hport hpath hother hflight⟩
  case dead => exact fun s b f hb h => (run_true (decide_eq_true hb)).trans (congrArg _ (fabricForward_of_ttl_zero h))
  case unjoined => exact fun s b f hb hlive hjoined hcls => (run_true (decide_eq_true hb)).trans (congrArg _ (fabricForward_of_not_joined hlive hjoined hcls))
  case expired => exact fun s b f hb httl hdst => ⟨_, run_true (decide_eq_true hb), ttlExpired_counts httl hdst⟩
  case live => exact fun s b f hb h => (run_true (decide_eq_true hb)).trans (congrArg _ (ttlExpired_of_live h))
  case down =>
    intro s p d k hp hd hk hdown hbyte
    refine ⟨_, run_true (decide_eq_true hp), ?_⟩
    rw [fabricLinkLossReroute_shows, State.showAlts_shows _ hd hk (State.altOver_of_byte hp hbyte)]
    exact decide_eq_false hdown
  case back =>
    intro s p d k hp hd hk hup hbyte
    refine ⟨_, run_true (decide_eq_true hp), ?_⟩
    rw [fabricLinkLossReroute_shows, State.showAlts_shows _ hd hk (State.altOver_of_byte hp hbyte)]
    exact decide_eq_true hup
  case drained => exact fun s p i hp hi hpath hheld => ⟨_, run_true (decide_eq_true hp), fabricLinkLossReroute_drains hpath hheld⟩
  case released => exact fun s p h hp hheld hpath => ⟨_, run_true (decide_eq_true hp), fabricLinkLossReroute_releases hheld hpath⟩
  case retrained =>
    intro s b hb hfab hactive hown hpeer hlower hroutes halone
    refine ⟨_, run_true (decide_eq_true hb), ?_⟩
    rw [mixedRevisionRetrain_retrains hactive hown hpeer hlower hroutes halone, sflRetrainWrite_of_active hfab hactive]
    exact (s.sflDeclareDown_shows b).1
  case busy => exact fun s b c hb hc hup hdown => (run_true (decide_eq_true hb)).trans (congrArg _ (mixedRevisionRetrain_of_other_training hc hup hdown))
  case refused => exact fun s b ok hb h => (run_true (decide_eq_true hb)).trans (congrArg _ (mixedRevisionRetrain_of_refused h))
  case mixed => exact fun s => ⟨_, rfl, mixedConditionChange_shows s⟩

end Sys2Proof.Machine

namespace Sys2Proof.Machine

-- Proofs are elaborated one after another: each proof thread costs the check 256 MB of stack.
set_option Elab.async false

set_option exponentiation.threshold 500

/-! ### Messages kept at a port, taken again (R65, R158) -/

section Kept

variable {s : State} {p : Nat}

/-- A message that a host's port takes leaves the DevLoad shown there as it is. -/
theorem State.takeMsg_devload (m : PortMsg) (hrole : s.role p ≠ 1) : (s.takeMsg p m).get PRT_CXL_STATUS.DEVLOAD p = s.get PRT_CXL_STATUS.DEVLOAD p := by
  cases m with
  | request q => exact (State.handOver_only (Sub.refl _) (Only.refl _ s)).get_eq _ p
  | response x devload =>
    have hni : Only (partsMask [.field .ni]) s (s.setNi (p / 2) { s.niAt (p / 2) with tracker := (s.niAt (p / 2)).tracker.filter fun t => t.param ≠ x.param }) :=
      State.setNi_only rfl (Only.refl _ s)
    change (s.takeResponse p x devload).get _ p = _
    unfold State.takeResponse
    extract_lets y u v sent z w
    have hv : v = u := if_neg ((hni.role_eq p).symm ▸ hrole)
    rw [(State.enqueue_only (Sub.refl _) (Only.refl _ v)).get_eq PRT_CXL_STATUS.DEVLOAD, hv]
    exact hni.get_eq _ p
  | snoop x => exact (State.takeSnoop_only (Sub.refl _) (Only.refl _ s)).get_eq _ p
  | gpf x => exact (State.takeGpf_only (Sub.refl _) (Only.refl _ s)).get_eq _ p
  | config v reg value tag => exact (State.takeConfig_only (Sub.refl _) (Only.refl _ s)).get_eq _ p

/-- A message taken adds to what is sent, and takes nothing back. -/
theorem State.takeMsg_out (m : PortMsg) : s.out <+: (s.takeMsg p m).out := by
  cases m with
  | request q => exact (State.handOver_only (Sub.refl _) (Only.refl _ s)).out_eq ▸ List.prefix_rfl
  | response x devload => exact (State.takeResponse_only (Sub.refl _) (Only.refl _ s)).out_eq ▸ List.prefix_rfl
  | snoop x => exact (State.takeSnoop_only (Sub.refl _) (Only.refl _ s)).out_eq ▸ List.prefix_rfl
  | gpf x => exact (State.takeGpf_only (Sub.refl _) (Only.refl _ s)).out_eq ▸ List.prefix_rfl
  | config v reg value tag =>
    change s.out <+: (s.takeConfig p v reg value tag).out
    unfold State.takeConfig
    split
    · cases value with
      | none => exact List.prefix_append _ _
      | some w =>
        have hwritten : (s.hostWrites v reg w).out = s.out := (State.hostWrites_only (Sub.refl _) (Only.refl _ s)).out_eq
        exact hwritten ▸ List.prefix_append (s.hostWrites v reg w).out _
    · exact List.prefix_append _ _

theorem State.releaseKept_out (s : State) (p : Nat) : s.out <+: (s.releaseKept p).out := by
  refine s.out_prefix_foldl _ (fun t m => ?_) _
  split
  · rename_i x rest _
    split_ifs
    · exact State.takeMsg_out (s := { t with portHold := Tbl.wr (fun _ => []) t.portHold p rest }) (p := p) m
    · exact List.prefix_rfl
  · exact List.prefix_rfl

theorem State.releaseKept_devload (hrole : s.role p ≠ 1) : (s.releaseKept p).get PRT_CXL_STATUS.DEVLOAD p = s.get PRT_CXL_STATUS.DEVLOAD p := by
  refine (List.foldlRecOn (motive := fun t : State => t.role p ≠ 1 ∧ t.get PRT_CXL_STATUS.DEVLOAD p = s.get PRT_CXL_STATUS.DEVLOAD p) _ _ ⟨hrole, rfl⟩ ?_).2
  intro t ⟨ht, hload⟩ m _
  split
  · rename_i x rest _
    have hrest : Only (partsMask [.field .portHold]) t { t with portHold := Tbl.wr (fun _ => []) t.portHold p rest } := Only.set_portHold rfl (Only.refl _ t)
    have hstill : State.role { t with portHold := Tbl.wr (fun _ => []) t.portHold p rest } p ≠ 1 := (hrest.role_eq p).symm ▸ ht
    split_ifs
    · exact ⟨((State.takeMsg_only (Sub.refl _) (Only.refl _ _)).role_eq p).symm ▸ hstill,
        (State.takeMsg_devload m hstill).trans ((hrest.get_eq _ p).trans hload)⟩
    · exact ⟨ht, hload⟩
  · exact ⟨ht, hload⟩

end Kept

@[simp] theorem State.markKept_keepMark (s : State) (p q m : Nat) : (s.keepMark p q m).markKept p q = m := Tbl.rd_wr_self ..

/-! ### Packets that leave an egress buffer (R154, R157) -/

section Egress

variable {s : State} {p k : Nat} {both : Bool} {x : Pkt}

/-- A packet that leaves gives its place back to the buffer, and its slots are owed to its source. -/
theorem State.leaves_shows (s : State) (n : Nat) {x : Pkt} (hloop : looped x = false) :
    ((s.leaves n x).niAt n).rx = (s.niAt n).rx.erase x ∧ (s.leaves n x).get ANV_CR_STAT.OCC n = s.get ANV_CR_STAT.OCC n - x.len ∧
      (x.cls ≠ 8 → ((s.leaves n x).ledgerAt n x.src).owed = (s.ledgerAt n x.src).owed + x.len) := by
  refine ⟨congrArg NiState.rx (s.niAt_leaves n x), ?_, fun hcls => ?_⟩
  all_goals unfold State.leaves State.vacate
  all_goals extract_lets y
  all_goals rw [if_neg (by simp [hloop])]
  · have hni : Only (partsMask [.field .ni]) s (s.setNi n { y with rx := y.rx.erase x }) := State.setNi_only rfl (Only.refl _ s)
    rw [(State.owe_only (Sub.refl _) (Only.refl _ _)).get_eq ANV_CR_STAT.OCC, hni.get_eq ANV_CR_STAT.OCC]
    exact State.get_set_fits _ n (by decide) (lt_of_le_of_lt (Nat.sub_le _ _) (s.get_lt n ANV_CR_STAT.OCC))
  · generalize hv : (s.setNi n { y with rx := y.rx.erase x }).set ANV_CR_STAT.OCC n ((s.setNi n { y with rx := y.rx.erase x }).get ANV_CR_STAT.OCC n - x.len) = v
    have hkept : Only (partsMask [.reg .ANV_CR_STAT, .field .ni]) s v := hv ▸ State.set_only rfl (State.setNi_only rfl (Only.refl _ s))
    unfold State.owe
    rw [if_neg (by simp [hloop, hcls]), State.ledgerAt_setLedger, hkept.ledgerAt_eq]

/-- What goes out on a link is added to what is sent. -/
theorem State.emits_out (s : State) (p : Nat) (l : List Pkt) : (l.foldl (fun t z => t.emit (.linkPacket p z)) s).out = s.out ++ l.map (Out.linkPacket p) := by
  induction l generalizing s with
  | nil => simp
  | cons z l ih => rw [List.foldl_cons, ih, State.emit_out, List.append_assoc]; rfl

theorem State.emits_only (s : State) (p : Nat) (l : List Pkt) : Only (partsMask [.field .out]) s (l.foldl (fun t z => t.emit (.linkPacket p z)) s) :=
  Only.fold (fun _ _ hu => State.emit_only rfl hu) (Only.refl _ s)

theorem egressPacketSend_of_none (h : s.banked p = true ∨ s.egressQueue p = none) : egressPacketSend p s = s := by
  unfold egressPacketSend
  rcases h with hbanked | hnone
  · rw [if_pos hbanked]
  · rw [hnone]
    exact ite_self s

/-- A packet that is no response leaves on its link as it is. -/
theorem egressPacketSend_sends (hon : s.banked p = false) (hq : s.egressQueue p = some (k, both)) (hhead : s.egressHead p k = some x) (hrole : s.role p ≠ 0)
    (hresp : x.kind ≠ .response) (hdata : x.kind ≠ .dataResponse) (hloop : looped x = false) :
    (egressPacketSend p s).out = s.out ++ (linkPieces x).map (Out.linkPacket p) ∧ ((egressPacketSend p s).niAt (p / 2)).rx = (s.niAt (p / 2)).rx.erase x ∧
      (egressPacketSend p s).get ANV_CR_STAT.OCC (p / 2) = s.get ANV_CR_STAT.OCC (p / 2) - x.len ∧
      (x.cls ≠ 8 → ((egressPacketSend p s).ledgerAt (p / 2) x.src).owed = (s.ledgerAt (p / 2) x.src).owed + x.len) := by
  unfold egressPacketSend
  rw [if_neg (by simp [hon]), hq]
  dsimp -zeta only
  rw [hhead]
  dsimp -zeta only
  extract_lets b l b' u dl y v w
  have hcharged : Only (partsMask [.field .buckets]) s (s.setBucket (shaperKey p k) b') := State.setBucket_only rfl (Only.refl _ s)
  have hleft : Only (partsMask [.reg .ANV_CR_STAT, .field .ni, .field .ledger, .field .buckets]) s u :=
    State.leaves_only rfl (State.setBucket_only rfl (Only.refl _ s))
  obtain ⟨hrx, hocc, howed⟩ := State.leaves_shows (s.setBucket (shaperKey p k) b') (p / 2) hloop
  have hdl : dl = false := by simp [dl, hleft.role_eq, hrole]
  have hy : y = x := by simp [y, hdl]
  have hv : v = u := by simp [v, hdl]
  have hout : w.out = s.out ++ (linkPieces x).map (Out.linkPacket p) := by
    rw [show w = (linkPieces y).foldl (fun t z => t.emit (.linkPacket p z)) v from rfl, State.emits_out, hv, hy, hleft.out_eq]
  have hw : Only (partsMask [.field .out]) u w := hv ▸ State.emits_only v p (linkPieces y)
  rw [if_neg (by simp [hresp, hdata])]
  have hend : ∀ f, Only (partsMask [.field .accesses]) w (if x.kind = .ioPosted then w.accessDone f else w) := fun f =>
    Only.ite (State.accessDone_only rfl (Only.refl _ w)) (Only.refl _ w)
  rw [(hend _).out_eq, (hend _).niAt_eq, (hend _).get_eq ANV_CR_STAT.OCC, (hend _).ledgerAt_eq, hw.niAt_eq, hw.get_eq ANV_CR_STAT.OCC, hw.ledgerAt_eq,
    ← hcharged.niAt_eq, ← hcharged.get_eq ANV_CR_STAT.OCC, ← hcharged.ledgerAt_eq]
  exact ⟨hout, hrx, hocc, howed⟩

/-- A response that carries a DevLoad to a host shows the greatest of the device's value and the mark kept with its request, which is kept no longer. -/
theorem egressPacketSend_answers (hon : s.banked p = false) (hq : s.egressQueue p = some (k, both)) (hhead : s.egressHead p k = some x) (hrole : s.role p = 0)
    (hkind : x.kind = .response ∨ x.kind = .dataResponse) (hload : hasDevLoad x = true) :
    (egressPacketSend p s).get PRT_CXL_STATUS.DEVLOAD p = max x.devload (s.markKept p x.param) % 4 ∧ (egressPacketSend p s).markKept p x.param = 0 ∧
      s.out ++ (linkPieces { x with devload := max x.devload (s.markKept p x.param) }).map (Out.linkPacket p) <+: (egressPacketSend p s).out := by
  unfold egressPacketSend
  rw [if_neg (by simp [hon]), hq]
  dsimp -zeta only
  rw [hhead]
  dsimp -zeta only
  extract_lets b l b' u dl y v w
  have hleft : Only (partsMask [.reg .ANV_CR_STAT, .field .ni, .field .ledger, .field .buckets]) s u :=
    State.leaves_only rfl (State.setBucket_only rfl (Only.refl _ s))
  have hdl : dl = true := by simp [dl, hleft.role_eq, hrole, hload]
  have hy : y = { x with devload := max x.devload (s.markKept p x.param) } := by simp only [y, hdl, if_true, hleft.markKept_eq]
  have hv : v = (u.set PRT_CXL_STATUS.DEVLOAD p y.devload).keepMark p x.param 0 := by simp only [v, hdl, if_true]
  have hset : Only (partsMask [.reg .PRT_CXL_STATUS, .field .marks]) u v := hv ▸ State.keepMark_only rfl (State.set_only rfl (Only.refl _ u))
  have hshown : v.get PRT_CXL_STATUS.DEVLOAD p = max x.devload (s.markKept p x.param) % 4 := by
    rw [hv, (State.keepMark_only (Sub.refl _) (Only.refl _ _)).get_eq PRT_CXL_STATUS.DEVLOAD, State.get_set_self _ _ _ (by decide) (by decide), hy]
    rfl
  have hcleared : v.markKept p x.param = 0 := by
    rw [hv, State.markKept_keepMark]
  have hout : w.out = s.out ++ (linkPieces y).map (Out.linkPacket p) := by
    rw [show w = (linkPieces y).foldl (fun t z => t.emit (.linkPacket p z)) v from rfl, State.emits_out, hset.out_eq, hleft.out_eq]
  have hw : Only (partsMask [.field .out]) v w := State.emits_only v p (linkPieces y)
  rw [if_pos hkind]
  generalize hz : ((w.fixed 69 (p / 32)).answered p x.param).answerOver (fromPort p) x.param = z
  have hdone : Only (partsMask [.reg .CNT_VAL, .field .outst, .field .accesses]) w z :=
    hz ▸ State.answerOver_only rfl (State.answered_only rfl (State.fixed_only rfl (Only.refl _ w)))
  have hhost : z.role p ≠ 1 := by
    rw [hdone.role_eq, hw.role_eq, hset.role_eq, hleft.role_eq, hrole]
    decide
  refine ⟨?_, ?_, ?_⟩
  · rw [State.releaseKept_devload hhost, hdone.get_eq PRT_CXL_STATUS.DEVLOAD, hw.get_eq PRT_CXL_STATUS.DEVLOAD, hshown]
  · rw [(State.releaseKept_only (Sub.refl _) (Only.refl _ z)).markKept_eq, hdone.markKept_eq, hw.markKept_eq, hcleared]
  · rw [← hy, ← hout, ← hdone.out_eq]
    exact z.releaseKept_out p

end Egress

end Sys2Proof.Machine

namespace Sys2Proof.Machine

-- Proofs are elaborated one after another: each proof thread costs the check 256 MB of stack.
set_option Elab.async false

set_option exponentiation.threshold 500

/-! ### Contexts, buckets and hold queues, written and framed -/

section Readers

variable {G : Nat} {s t : State}

theorem Only.held_eq (h : Only G s t) (c : Nat) (hG : G.testBit (256 + StateField.ctorIdx .holdQ) = false := by decide) : t.held c = s.held c :=
  congrArg (Tbl.rd (fun _ => []) · c) (h.2 (.field .holdQ) hG)

theorem Only.bucket_eq (h : Only G s t) (k : Nat) (hG : G.testBit (256 + StateField.ctorIdx .buckets) = false := by decide) : t.bucket k = s.bucket k :=
  congrArg (Tbl.rd (fun _ => Bucket.full) · k) (h.2 (.field .buckets) hG)

theorem Only.cycle_eq (h : Only G s t) (hG : G.testBit (256 + StateField.ctorIdx .clk) = false := by decide) : t.cycle = s.cycle :=
  congrArg (2 * ·) (h.2 (.field .clk) hG)

theorem Only.ctxCharge_eq (h : Only G s t) (c n : Nat) (hrates : G.testBit (RegKind.ctorIdx .TMP_CTX_08) = false := by decide)
    (hsizes : G.testBit (RegKind.ctorIdx .TMP_CTX_10) = false := by decide) : t.ctxCharge c n = s.ctxCharge c n := by
  unfold State.ctxCharge State.polices
  rw [h.get_eq TMP_CTX_10.OVH c hsizes, h.get_eq TMP_CTX_10.PBS c hsizes, h.get_eq TMP_CTX_08.PIR c hrates]

theorem Only.holds_eq (h : Only G s t) (c : Nat) (q : FlowReq) (hsizes : G.testBit (RegKind.ctorIdx .TMP_CTX_10) = false := by decide) : t.holds c q = s.holds c q := by
  unfold State.holds State.flag
  rw [h.get_eq TMP_CTX_10.HOLD_EN c hsizes]

theorem State.testColour_colour (s : State) (c n : Nat) : (s.testColour c n).1 = if s.get TMP_CTX_08.PIR c = 0 then .green
    else (colourOf (refill (s.bucket c) (s.get TMP_CTX_08.CIR c) (s.get TMP_CTX_08.PIR c) s.cycle) (s.get TMP_CTX_10.CBS c) (s.get TMP_CTX_10.PBS c)
      (s.ctxCharge c n * 2000)).1 := by
  unfold State.testColour State.polices
  by_cases h : s.get TMP_CTX_08.PIR c = 0 <;> simp [h]

/-- The colour of a request depends on the context's rates and sizes, its buckets and the time. -/
theorem Only.colour_eq (h : Only G s t) (c n : Nat) (hrates : G.testBit (RegKind.ctorIdx .TMP_CTX_08) = false := by decide)
    (hsizes : G.testBit (RegKind.ctorIdx .TMP_CTX_10) = false := by decide) (hbuckets : G.testBit (256 + StateField.ctorIdx .buckets) = false := by decide)
    (hclk : G.testBit (256 + StateField.ctorIdx .clk) = false := by decide) : (t.testColour c n).1 = (s.testColour c n).1 := by
  rw [State.testColour_colour, State.testColour_colour, h.bucket_eq c hbuckets, h.cycle_eq hclk, h.ctxCharge_eq c n hrates hsizes,
    h.get_eq TMP_CTX_08.CIR c hrates, h.get_eq TMP_CTX_08.PIR c hrates, h.get_eq TMP_CTX_10.CBS c hsizes, h.get_eq TMP_CTX_10.PBS c hsizes]

@[simp] theorem State.bucket_setBucket (s : State) (k : Nat) (b : Bucket) : (s.setBucket k b).bucket k = b := Tbl.rd_wr_self ..

theorem State.held_setHeld (s : State) (c : Nat) (l : List HeldReq) : (s.setHeld c l).held c = l := by
  unfold State.setHeld
  rw [(State.set_only (Sub.refl _) (Only.refl _ _)).held_eq]
  exact Tbl.rd_wr_self ..

/-- The contexts in use are those of the registers. -/
theorem State.listed_of_regs (h : t.regs = s.regs) (k : RegKind) : t.listed k = s.listed k := by
  unfold State.listed
  rw [h]

theorem State.get_of_regs (h : t.regs = s.regs) (F : Fld) (i : Nat) : t.get F i = s.get F i := by
  unfold State.get State.reg
  rw [h]

theorem State.findCtx_of_regs (h : t.regs = s.regs) (r feid ld : Nat) : t.findCtx r feid ld = s.findCtx r feid ld := by
  unfold State.findCtx State.flag
  simp only [State.listed_of_regs h, State.get_of_regs h]

end Readers

/-! ### Requests admitted (R176, R185) -/

section Admit

variable {s w : State}

/-- The counter of the bytes that a context admits with a colour. -/
def colourCounter (k : Colour) : Fld :=
  match k with
  | .green => TMP_CTX_28.GREEN_B
  | .yellow => TMP_CTX_30.YELLOW_B
  | .red => TMP_CTX_38.RED_B

theorem colourCounter_fits (k : Colour) : (colourCounter k).Fits := by cases k <;> decide

theorem colourCounter_ne {j k : Colour} (h : j ≠ k) : (colourCounter j).reg ≠ (colourCounter k).reg := by
  cases j <;> cases k <;> simp_all [colourCounter]

/-- A request counted by its colour, before its mark is kept. -/
def State.countIn (s : State) (c : Nat) (q : FlowReq) (k : Colour) (m : Nat) : State :=
  (((s.count (colourCounter k) c (s.ctxCharge c q.bytes)).tallyPolicer (colourNumber k) q.port).fixed 68 (q.port / 32)).when (decide (0 < m)) fun t => t.tallyPolicer 5 q.port

/-- A request's mark counted and kept with its tag, as is its traffic class. -/
def State.markIn (s : State) (c : Nat) (q : FlowReq) (m : Nat) : State :=
  ((s.countMark c m).keepMark q.port q.pkt.param m).keepTc q.port q.pkt.param (s.get TMP_CTX_10.TC c)

theorem State.takeIn_eq (s : State) (c : Nat) (q : FlowReq) (k : Colour) (m : Nat) : s.takeIn c q k m =
    ((s.countIn c q k m).markIn c q m).enqueue q.ni { q.pkt with tc := ((s.countIn c q k m).markIn c q m).get TMP_CTX_10.TC c } := by
  cases k <;> rfl

theorem State.countIn_only (s : State) (c : Nat) (q : FlowReq) (k : Colour) (m : Nat) :
    Only (partsMask [.reg .TMP_CTX_28, .reg .TMP_CTX_30, .reg .TMP_CTX_38, .reg .CNT_VAL]) s (s.countIn c q k m) := by
  refine State.when_only (fun _ hu => State.tallyPolicer_only rfl hu) (State.fixed_only rfl (State.tallyPolicer_only rfl (State.count_only ?_ (Only.refl _ s))))
  cases k <;> rfl

theorem State.markIn_only (s : State) (c : Nat) (q : FlowReq) (m : Nat) :
    Only (partsMask [.reg .TMP_CTX_58, .reg .TMP_CTX_60, .reg .TMP_CTX_68, .field .marks, .field .tcs]) s (s.markIn c q m) :=
  State.keepTc_only rfl (State.keepMark_only rfl (State.countMark_only rfl (Only.refl _ s)))

/-- Tallies after a request is counted leave the counters of its context as they are. -/
theorem State.countIn_counter (s : State) (c : Nat) (q : FlowReq) (k j : Colour) (m : Nat) :
    (s.countIn c q k m).get (colourCounter j) c = (s.count (colourCounter k) c (s.ctxCharge c q.bytes)).get (colourCounter j) c := by
  have htally : Only (partsMask [.reg .CNT_VAL]) (s.count (colourCounter k) c (s.ctxCharge c q.bytes)) (s.countIn c q k m) :=
    State.when_only (fun _ hu => State.tallyPolicer_only rfl hu) (State.fixed_only rfl (State.tallyPolicer_only rfl (Only.refl _ _)))
  exact htally.get_eq _ c (by cases j <;> decide)

theorem State.takeIn_counter (s : State) (c : Nat) (q : FlowReq) (k j : Colour) (m : Nat) :
    (s.takeIn c q k m).get (colourCounter j) c = (s.count (colourCounter k) c (s.ctxCharge c q.bytes)).get (colourCounter j) c := by
  rw [State.takeIn_eq, (State.enqueue_only (Sub.refl _) (Only.refl _ _)).get_eq_of_fields, (State.markIn_only _ c q m).get_eq _ c (by cases j <;> decide),
    State.countIn_counter]

/-- A request admitted is counted by its colour, with the bytes that its context charges. -/
theorem State.takeIn_counts (s : State) (c : Nat) (q : FlowReq) (k : Colour) (m : Nat) :
    (s.takeIn c q k m).get (colourCounter k) c = satAdd (colourCounter k).width (s.get (colourCounter k) c) (s.ctxCharge c q.bytes) := by
  rw [State.takeIn_counter, State.get_count _ _ _ (colourCounter_fits k)]

/-- The counters of the other colours stay as they are. -/
theorem State.takeIn_otherColour (s : State) (c : Nat) (q : FlowReq) {k j : Colour} (m : Nat) (h : j ≠ k) :
    (s.takeIn c q k m).get (colourCounter j) c = s.get (colourCounter j) c := by
  rw [State.takeIn_counter, State.count, State.get_set_kind _ _ _ _ (colourCounter_ne h)]

/-- A request admitted is the last of its queue, with the traffic class of its context. -/
theorem State.takeIn_queues (s : State) (c : Nat) (q : FlowReq) (k : Colour) (m : Nat) :
    (Tbl.rd (fun _ => []) (s.takeIn c q k m).voq (voqKey q.ni { q.pkt with tc := s.get TMP_CTX_10.TC c })).getLast? = some { q.pkt with tc := s.get TMP_CTX_10.TC c } := by
  rw [State.takeIn_eq, (State.markIn_only _ c q m).get_eq TMP_CTX_10.TC, (s.countIn_only c q k m).get_eq TMP_CTX_10.TC]
  exact State.enqueue_last ..

/-- The mark of a request admitted is kept with its tag. -/
theorem State.takeIn_keeps (s : State) (c : Nat) (q : FlowReq) (k : Colour) (m : Nat) : (s.takeIn c q k m).markKept q.port q.pkt.param = m := by
  rw [State.takeIn_eq, (State.enqueue_only (Sub.refl _) (Only.refl _ _)).markKept_eq, State.markIn, (State.keepTc_only (Sub.refl _) (Only.refl _ _)).markKept_eq,
    State.markKept_keepMark]

/-- A request admitted with the mark 0b11 is counted so. -/
theorem State.takeIn_mark3 (s : State) (c : Nat) (q : FlowReq) (k : Colour) :
    (s.takeIn c q k 3).get TMP_CTX_68.MARK3 c = satAdd TMP_CTX_68.MARK3.width (s.get TMP_CTX_68.MARK3 c) 1 := by
  have hkept : Only (partsMask [.field .marks, .field .tcs]) ((s.countIn c q k 3).count TMP_CTX_68.MARK3 c) ((s.countIn c q k 3).markIn c q 3) :=
    State.keepTc_only rfl (State.keepMark_only rfl (Only.refl _ _))
  rw [State.takeIn_eq, (State.enqueue_only (Sub.refl _) (Only.refl _ _)).get_eq TMP_CTX_68.MARK3, hkept.get_eq TMP_CTX_68.MARK3, State.get_count _ _ _ (by decide),
    (s.countIn_only c q k 3).get_eq TMP_CTX_68.MARK3]

theorem State.takeIn_held (s : State) (c : Nat) (q : FlowReq) (k : Colour) (m d : Nat) : (s.takeIn c q k m).held d = s.held d :=
  (State.takeIn_only (Sub.refl _) (Only.refl _ s)).held_eq d

end Admit

/-! ### Requests at the policer (R176 to R178) -/

section Police

variable {s w : State} {c : Nat} {f : FlowReq}

/-- What testing a request, and taking it from a hold queue or from those resolved, may change before it is admitted. -/
abbrev admitParts : Nat :=
  partsMask [.reg .TMP_CTX_18, .reg .TMP_CTX_20, .reg .TMP_CTX_48, .reg .CNT_VAL, .field .buckets, .field .holdQ, .field .holdFull, .field .resolved]

/-- A request admitted after its test is counted and queued by what the state before the test says. -/
theorem State.takeIn_after (hw : Only admitParts s w) (c : Nat) (q : FlowReq) (k : Colour) (m : Nat) :
    (w.takeIn c q k m).get (colourCounter k) c = satAdd (colourCounter k).width (s.get (colourCounter k) c) (s.ctxCharge c q.bytes) ∧
      (Tbl.rd (fun _ => []) (w.takeIn c q k m).voq (voqKey q.ni { q.pkt with tc := s.get TMP_CTX_10.TC c })).getLast? =
        some { q.pkt with tc := s.get TMP_CTX_10.TC c } := by
  rw [State.takeIn_counts, hw.get_eq (colourCounter k) c (by cases k <;> decide), hw.ctxCharge_eq, ← hw.get_eq TMP_CTX_10.TC]
  exact ⟨rfl, w.takeIn_queues c q k m⟩

theorem State.testColour_of_unpoliced (n : Nat) (h : s.get TMP_CTX_08.PIR c = 0) : (s.testColour c n).1 = .green := by
  rw [State.testColour_colour, if_pos h]

/-- With nothing held before it, a request that is not red, or that its context does not hold, is admitted with its colour. -/
theorem State.police_admits (hc : s.ctxFor (niRegion f.ni) f.feid f.ld = c) (hnone : s.held c = []) (hgo : (s.testColour c f.bytes).1 = .red → s.holds c f = false) :
    ∃ w m, (∀ s0, Only admitParts s0 s → Only admitParts s0 w) ∧ w.held c = [] ∧ s.police f = w.takeIn c f (s.testColour c f.bytes).1 m := by
  have htest : Only (partsMask [.reg .TMP_CTX_18, .field .buckets]) s (s.testColour c f.bytes).2 := State.testColour_only rfl (Only.refl _ s)
  refine ⟨(s.testColour c f.bytes).2, (s.testColour c f.bytes).2.markOf c f (colourNumber (s.testColour c f.bytes).1),
    fun _ hs => State.testColour_only rfl hs,
    (htest.held_eq c).trans hnone, ?_⟩
  unfold State.police
  rw [hc]
  dsimp only
  rw [if_neg (by simp [hnone]), htest.holds_eq, if_neg (by rintro ⟨hred, hholds⟩; simp [hgo hred] at hholds)]

/-- A request that its context holds joins the hold queue, behind others or where it is red. -/
theorem State.police_holds (hc : s.ctxFor (niRegion f.ni) f.feid f.ld = c) (hholds : s.holds c f = true) (h : s.held c ≠ [] ∨ (s.testColour c f.bytes).1 = .red) :
    ∃ w, Only (partsMask [.reg .TMP_CTX_18, .field .buckets]) s w ∧ s.police f = w.hold c f := by
  have htest : Only (partsMask [.reg .TMP_CTX_18, .field .buckets]) s (s.testColour c f.bytes).2 := State.testColour_only rfl (Only.refl _ s)
  have hfabric : f.fabric = false := by
    unfold State.holds at hholds
    simp_all
  unfold State.police
  rw [hc]
  dsimp only
  by_cases hnone : s.held c = []
  · have hred := h.resolve_left fun hsome => hsome hnone
    exact ⟨_, htest, by rw [if_neg (by simp [hnone]), htest.holds_eq, if_pos ⟨hred, hholds⟩]⟩
  · exact ⟨s, Only.refl _ s, by rw [if_pos (by simp [hnone, hfabric])]⟩

/-- A request held is the last of its hold queue, from now on, and counted. -/
theorem State.hold_shows (s : State) (c : Nat) (f : FlowReq) :
    (s.hold c f).held c = s.held c ++ [HeldReq.mk f s.cycle] ∧ (s.hold c f).voq = s.voq ∧
      (s.hold c f).get TMP_CTX_40.HELD_CNT c = satAdd TMP_CTX_40.HELD_CNT.width (s.get TMP_CTX_40.HELD_CNT c) 1 := by
  have hafter : Only (partsMask [.reg .MGT_EVT_STAT, .reg .CNT_VAL, .reg .MGT_EVT_REC, .field .holdFull, .field .stamps])
      ((s.setHeld c (s.held c ++ [⟨f, s.cycle⟩])).count TMP_CTX_40.HELD_CNT c) (s.hold c f) :=
    State.holdFullNow_only rfl (State.tallyPolicer_only rfl (Only.refl _ _))
  have hcount : Only (partsMask [.reg .TMP_CTX_40]) (s.setHeld c (s.held c ++ [⟨f, s.cycle⟩])) ((s.setHeld c (s.held c ++ [⟨f, s.cycle⟩])).count TMP_CTX_40.HELD_CNT c) :=
    State.count_only rfl (Only.refl _ _)
  refine ⟨?_, (State.hold_only (Sub.refl _) (Only.refl _ s)).2 (.field .voq) (by decide), ?_⟩
  · rw [hafter.held_eq, hcount.held_eq, State.held_setHeld]
  · rw [hafter.get_eq TMP_CTX_40.HELD_CNT, State.get_count _ _ _ (by decide), (State.setHeld_only (Sub.refl _) (Only.refl _ s)).get_eq TMP_CTX_40.HELD_CNT]

/-- The state in which a request meets its policer: the part it was resolved as is taken. -/
def State.partTaken (s : State) (q : FlowReq) : State :=
  match s.partOf q with
  | some x => { s with resolved := s.resolved.erase x }
  | none => s

theorem requestColour_eq (q : FlowReq) (s : State) : requestColour q s = (s.partTaken q).police (s.flowOf q) := rfl

theorem State.partTaken_regs (s : State) (q : FlowReq) : (s.partTaken q).regs = s.regs := by
  unfold State.partTaken
  split <;> rfl

theorem State.partTaken_ctxFor (s : State) (q : FlowReq) (r feid ld : Nat) : (s.partTaken q).ctxFor r feid ld = s.ctxFor r feid ld := by
  rw [State.ctxFor, State.ctxFor, State.findCtx_of_regs (s.partTaken_regs q)]

theorem State.partTaken_only {G : Nat} (s : State) (q : FlowReq) (hG : Sub (partsMask [.field .resolved]) G) : Only G s (s.partTaken q) := by
  unfold State.partTaken
  split
  · exact Only.set_resolved (hG.of rfl) (Only.refl _ s)
  · exact Only.refl _ s

theorem State.flowOf_bytes (s : State) (q : FlowReq) : (s.flowOf q).bytes = q.bytes := by
  unfold State.flowOf
  dsimp only
  split <;> rfl

/-- A request admitted is counted by its colour, queued with its context's traffic class, and holds up none of the others. -/
theorem requestColour_admits {q : FlowReq} {k : Colour} (hc : s.ctxFor (niRegion (s.flowOf q).ni) (s.flowOf q).feid (s.flowOf q).ld = c) (hnone : s.held c = [])
    (hk : (s.testColour c q.bytes).1 = k) (hgo : k = .red → s.holds c (s.flowOf q) = false) :
    (requestColour q s).get (colourCounter k) c = satAdd (colourCounter k).width (s.get (colourCounter k) c) (s.ctxCharge c q.bytes) ∧
      (∀ j, j ≠ k → (requestColour q s).get (colourCounter j) c = s.get (colourCounter j) c) ∧
      (Tbl.rd (fun _ => []) (requestColour q s).voq (voqKey (s.flowOf q).ni { (s.flowOf q).pkt with tc := s.get TMP_CTX_10.TC c })).getLast? =
        some { (s.flowOf q).pkt with tc := s.get TMP_CTX_10.TC c } ∧ (requestColour q s).held c = [] := by
  have htaken := s.partTaken_only q (Sub.refl _)
  have hcolour : ((s.partTaken q).testColour c (s.flowOf q).bytes).1 = k := by
    rw [htaken.colour_eq, State.flowOf_bytes, hk]
  have hctx := (s.partTaken_ctxFor q ..).trans hc
  obtain ⟨w, m, hw, hheld, hpolice⟩ := State.police_admits hctx ((htaken.held_eq c).trans hnone)
    fun hred => (htaken.holds_eq c _).trans (hgo (hcolour.symm.trans hred))
  have hsw : Only admitParts s w := hw s (s.partTaken_only q rfl)
  rw [requestColour_eq, hpolice, hcolour]
  obtain ⟨hcount, hqueue⟩ := State.takeIn_after hsw c (s.flowOf q) k m
  refine ⟨State.flowOf_bytes s q ▸ hcount, fun j hj => ?_, hqueue, (w.takeIn_held c _ k m c).trans hheld⟩
  rw [State.takeIn_otherColour _ _ _ _ hj, hsw.get_eq (colourCounter j) c (by cases j <;> decide)]

/-- A request held is the last of its context's hold queue, and goes no further. -/
theorem requestColour_holds {q : FlowReq} (hc : s.ctxFor (niRegion (s.flowOf q).ni) (s.flowOf q).feid (s.flowOf q).ld = c) (hholds : s.holds c (s.flowOf q) = true)
    (h : s.held c ≠ [] ∨ (s.testColour c q.bytes).1 = .red) :
    (requestColour q s).held c = s.held c ++ [HeldReq.mk (s.flowOf q) s.cycle] ∧ (requestColour q s).voq = s.voq ∧
      (requestColour q s).get TMP_CTX_40.HELD_CNT c = satAdd TMP_CTX_40.HELD_CNT.width (s.get TMP_CTX_40.HELD_CNT c) 1 := by
  have htaken := s.partTaken_only q (Sub.refl _)
  have hctx := (s.partTaken_ctxFor q ..).trans hc
  have hjoins : (s.partTaken q).held c ≠ [] ∨ ((s.partTaken q).testColour c (s.flowOf q).bytes).1 = .red := by
    rw [htaken.held_eq, htaken.colour_eq, State.flowOf_bytes]
    exact h
  obtain ⟨w, hw, hpolice⟩ := State.police_holds hctx ((htaken.holds_eq c _).trans hholds) hjoins
  obtain ⟨hheld, hvoq, hcount⟩ := w.hold_shows c (s.flowOf q)
  rw [requestColour_eq, hpolice, hheld, hvoq, hcount, hw.held_eq, htaken.held_eq, hw.cycle_eq, htaken.cycle_eq, hw.get_eq TMP_CTX_40.HELD_CNT,
    htaken.get_eq TMP_CTX_40.HELD_CNT]
  exact ⟨rfl, (hw.2 (.field .voq) (by decide) : w.voq = (s.partTaken q).voq).trans (htaken.2 (.field .voq) (by decide)), rfl⟩

end Police

end Sys2Proof.Machine

namespace Sys2Proof.Machine

-- Proofs are elaborated one after another: each proof thread costs the check 256 MB of stack.
set_option Elab.async false

set_option exponentiation.threshold 500

/-! ### Hold queues, tested again and bounded (R177 to R179, R185) -/

section Held

variable {s w : State} {c : Nat} {h : HeldReq} {rest : List HeldReq}

theorem State.unhold_held (hheld : s.held c = h :: rest) : (s.unhold c).held c = rest := by
  have hlater : Only (partsMask [.reg .TMP_CTX_48, .reg .CNT_VAL, .field .holdFull]) (s.setHeld c rest) (s.unhold c) := by
    unfold State.unhold
    rw [hheld]
    exact State.holdRoom_only rfl (State.tallyPolicer_only rfl (State.count_only rfl (Only.refl _ _)))
  rw [hlater.held_eq, State.held_setHeld]

/-- A hold queue's head that leaves it and is admitted is counted by its colour and queued. -/
theorem State.admitHead (hw : Only admitParts s (w.unhold c)) (hheld : w.held c = h :: rest) (k : Colour) (m : Nat) :
    ((w.unhold c).takeIn c h.req k m).held c = rest ∧
      ((w.unhold c).takeIn c h.req k m).get (colourCounter k) c = satAdd (colourCounter k).width (s.get (colourCounter k) c) (s.ctxCharge c h.req.bytes) ∧
      (Tbl.rd (fun _ => []) ((w.unhold c).takeIn c h.req k m).voq (voqKey h.req.ni { h.req.pkt with tc := s.get TMP_CTX_10.TC c })).getLast? =
        some { h.req.pkt with tc := s.get TMP_CTX_10.TC c } :=
  ⟨((w.unhold c).takeIn_held c h.req k m c).trans (State.unhold_held hheld), State.takeIn_after hw c h.req k m⟩

theorem State.tested_held (s : State) (c n d : Nat) : (s.testColour c n).2.held d = s.held d := (State.testColour_only (Sub.refl _) (Only.refl _ s)).held_eq d

theorem State.unholdTested_only (s : State) (c n : Nat) : Only admitParts s ((s.testColour c n).2.unhold c) :=
  State.unhold_only rfl (State.testColour_only rfl (Only.refl _ s))

/-- The head that is not red, or that its context holds no longer, is admitted with its colour. -/
theorem holdQueueRetest_admits (hheld : s.held c = h :: rest) (hgo : (s.testColour c h.req.bytes).1 = .red → s.holds c h.req = false) :
    ∃ m, holdQueueRetest c s = ((s.testColour c h.req.bytes).2.unhold c).takeIn c h.req (s.testColour c h.req.bytes).1 m := by
  have htest : Only (partsMask [.reg .TMP_CTX_18, .field .buckets]) s (s.testColour c h.req.bytes).2 := State.testColour_only rfl (Only.refl _ s)
  unfold holdQueueRetest
  rw [hheld]
  dsimp only
  rw [htest.holds_eq, if_neg (by rintro ⟨hred, hholds⟩; simp [hgo hred] at hholds)]
  exact ⟨_, rfl⟩

/-- A red head that its context holds stays. -/
theorem holdQueueRetest_keeps (hheld : s.held c = h :: rest) (hred : (s.testColour c h.req.bytes).1 = .red) (hholds : s.holds c h.req = true) :
    (holdQueueRetest c s).held c = s.held c ∧ (holdQueueRetest c s).voq = s.voq := by
  have htest : Only (partsMask [.reg .TMP_CTX_18, .field .buckets]) s (s.testColour c h.req.bytes).2 := State.testColour_only rfl (Only.refl _ s)
  unfold holdQueueRetest
  rw [hheld]
  dsimp only
  rw [htest.holds_eq, if_pos ⟨hred, hholds⟩, ← hheld]
  exact ⟨htest.held_eq c, htest.2 (.field .voq) (by decide)⟩

theorem holdQueueRetest_of_empty (hheld : s.held c = []) : holdQueueRetest c s = s := by
  simp [holdQueueRetest, hheld]

/-- The time at which a hold queue became full is kept. -/
theorem holdQueueFull_shows (hheld : s.held c = h :: rest) (hfull : s.isHoldFull c = true) (hnew : Tbl.rd (fun _ => none) s.holdFull c = none) :
    Tbl.rd (fun _ => none) (holdQueueFull c s).holdFull c = some s.clk := by
  unfold holdQueueFull State.holdFullNow
  rw [if_pos (by simp [hheld, hfull, hnew])]
  extract_lets u r
  have hkept : ∀ p : Prop, [Decidable p] → Only (partsMask [.reg .MGT_EVT_STAT, .reg .CNT_VAL, .reg .MGT_EVT_REC, .field .stamps]) u
      (if p then (u.stamp r).notice (32 + 32 * r + 13) 0 c else u) := fun p _ =>
    Only.ite (State.notice_only rfl (State.stamp_only rfl (Only.refl _ u))) (Only.refl _ u)
  have hset : u.holdFull = Tbl.wr (fun _ => none) s.holdFull c (some s.clk) := rfl
  rw [(hkept _).2 (.field .holdFull) (by decide), hset]
  exact Tbl.rd_wr_self ..

theorem holdQueueFull_of_room (h : s.isHoldFull c = false) : holdQueueFull c s = s := by
  simp [holdQueueFull, State.holdFullNow, h]

/-- A red head held for the bound in the full class is admitted as red with the mark 0b11. -/
theorem holdBoundExpiry_admits (hheld : s.held c = h :: rest) (hfull : s.fullClass (niRegion h.req.ni) = true) (hred : (s.testColour c h.req.bytes).1 = .red) :
    holdBoundExpiry c s = ((s.testColour c h.req.bytes).2.unhold c).takeIn c h.req .red 3 := by
  unfold holdBoundExpiry
  rw [hheld]
  dsimp only
  rw [if_neg (by simp [hfull]), if_pos hred]

theorem holdBoundExpiry_of_compact (hheld : s.held c = h :: rest) (hclass : s.fullClass (niRegion h.req.ni) = false) : holdBoundExpiry c s = s := by
  simp [holdBoundExpiry, hheld, hclass]

/-- The bound of a region as written, from 16 ns on, beside the template for bindings. -/
theorem holdBoundWrite_shows (s : State) (r : Nat) (v : Word) :
    (holdBoundWrite r v s).get TMP_CFG.HOLD_BOUND r = max 16 (v.field 47 32) ∧ (holdBoundWrite r v s).get TMP_CFG.AUTO_BIND r = v.field 1 1 ∧
      (holdBoundWrite r v s).get TMP_CFG.TEMPLATE r = v.field 17 2 := by
  have hbits : ∀ hi lo, v.field hi lo < 2 ^ (hi + 1 - lo) := fun hi lo => Nat.mod_lt _ (Nat.two_pow_pos _)
  have hbound : max 16 (v.field 47 32) < 2 ^ TMP_CFG.HOLD_BOUND.width := max_lt (by decide) (hbits 47 32)
  unfold holdBoundWrite
  extract_lets bound s1 s2 s3 s4 mine
  have hauto : s4.get TMP_CFG.AUTO_BIND r = v.field 1 1 := by
    simp (disch := decide) only [s4, s3, s2, State.get_set_bits]
    exact State.get_set_fits _ r (by decide) (hbits 1 1)
  have htemplate : s4.get TMP_CFG.TEMPLATE r = v.field 17 2 := by
    simp (disch := decide) only [s4, s3, State.get_set_bits]
    exact State.get_set_fits _ r (by decide) (hbits 17 2)
  have hshown : s4.get TMP_CFG.HOLD_BOUND r = max 16 (v.field 47 32) := by
    simp (disch := decide) only [s4, State.get_set_bits]
    exact State.get_set_fits _ r (by decide) hbound
  have hexpired := Only.ite (c := (!s4.fullClass r) = true) (Only.refl _ s4)
    (Only.fold (l := mine) (f := fun t e => t.expireHeads e.2.length e.1 bound) (fun _ e hu => State.expireHeads_only (Sub.refl _) hu) (Only.refl _ s4))
  rw [hexpired.get_eq TMP_CFG.HOLD_BOUND, hexpired.get_eq TMP_CFG.AUTO_BIND, hexpired.get_eq TMP_CFG.TEMPLATE]
  exact ⟨hshown, hauto, htemplate⟩

end Held

/-! ### Contexts and shapers rewritten, and remote marks (R179, R181, R185) -/

section Rewrite

variable {s : State} {c p k : Nat} {v : Word}

theorem Only.fabricKey_eq {G : Nat} {t : State} (h : Only G s t) (c : Nat) (hkeys : G.testBit (RegKind.ctorIdx .TMP_CTX_00) = false := by decide)
    (hchip : G.testBit (RegKind.ctorIdx .MGT_CHIP_INFO) = false := by decide) : t.fabricKey c = s.fabricKey c := by
  unfold State.fabricKey State.flag
  rw [h.get_eq TMP_CTX_00.BOUND c hkeys, h.get_eq TMP_CTX_00.SRC_FEID c hkeys, h.get_eq MGT_CHIP_INFO.CHIP_ID 0 hchip]

/-- HOLD_EN of a context whose key came over the fabric is 0. -/
def State.noHold (s : State) (c : Nat) : State := if s.fabricKey c then s.set TMP_CTX_10.HOLD_EN c 0 else s

theorem State.noHold_only (s : State) (c : Nat) : Only (partsMask [.reg .TMP_CTX_10]) s (s.noHold c) := Only.ite (State.set_only rfl (Only.refl _ s)) (Only.refl _ s)

/-- The other fields of the context stay as they are. -/
theorem State.noHold_get (s : State) (c : Nat) {F : Fld} (hF : F.reg ≠ .TMP_CTX_10 ∨ F.hi < 62) : (s.noHold c).get F c = s.get F c := by
  unfold State.noHold
  split_ifs
  · exact s.get_set_other c c 0 (by decide) (by decide) (hF.imp_right fun h => .inr (.inl h))
  · rfl

/-- A context with its new parameters: its buckets are reset now. -/
def State.resetCtx (s : State) (c now : Nat) : State :=
  (s.setBucket c (rewritten (s.flag TMP_CTX_10.TOK_RST c) (s.get TMP_CTX_10.CBS c) (s.get TMP_CTX_10.PBS c) now)).showTokens c

theorem State.resetCtx_bucket (s : State) (c now : Nat) :
    (s.resetCtx c now).bucket c = rewritten (s.flag TMP_CTX_10.TOK_RST c) (s.get TMP_CTX_10.CBS c) (s.get TMP_CTX_10.PBS c) now := by
  rw [State.resetCtx, (State.showTokens_only (Sub.refl _) (Only.refl _ _)).bucket_eq, State.bucket_setBucket]

theorem State.resetCtx_only (s : State) (c now : Nat) : Only (partsMask [.reg .TMP_CTX_18, .field .buckets]) s (s.resetCtx c now) :=
  State.showTokens_only rfl (State.setBucket_only rfl (Only.refl _ s))

/-- The rates and sizes of a context are ones that a write may set. -/
def State.ctxLegal (s : State) (c : Nat) : Bool :=
  ratesLegal (s.get TMP_CTX_08.CIR c) (s.get TMP_CTX_08.PIR c) (s.get TMP_CTX_10.CBS c) (s.get TMP_CTX_10.PBS c)

/-- The rates of a context written. -/
def State.writeRates (s : State) (c : Nat) (v : Word) : State := ((s.set TMP_CTX_08.CIR c (v.field 23 0)).set TMP_CTX_08.PIR c (v.field 47 24)).noHold c

/-- The sizes of a context written. -/
def State.writeSizes (s : State) (c : Nat) (v : Word) : State := (s.setReg .TMP_CTX_10 c (v.setField 63 63 0)).noHold c

theorem contextRewrite_rates (s : State) (c : Nat) (v : Word) : contextRewrite c 1 v s =
    if !(s.writeRates c v).ctxLegal c then s.refuseWrite .TMP_CTX_08 c else (s.writeRates c v).resetCtx c s.cycle := rfl

theorem contextRewrite_sizes (s : State) (c : Nat) (v : Word) : contextRewrite c 2 v s =
    if !(s.writeSizes c v).ctxLegal c then s.refuseWrite .TMP_CTX_10 c else (s.writeSizes c v).resetCtx c s.cycle := rfl

theorem Word.field_lt (v : Word) (hi lo : Nat) : v.field hi lo < 2 ^ (hi + 1 - lo) := Nat.mod_lt _ (Nat.two_pow_pos _)

/-- Rates written read as written, and the sizes stay. -/
theorem State.writeRates_shows (s : State) (c : Nat) (v : Word) :
    (s.writeRates c v).get TMP_CTX_08.CIR c = v.field 23 0 ∧ (s.writeRates c v).get TMP_CTX_08.PIR c = v.field 47 24 ∧
      ∀ F : Fld, F.reg = .TMP_CTX_10 → F.hi < 62 → (s.writeRates c v).get F c = s.get F c := by
  unfold State.writeRates
  refine ⟨?_, ?_, fun F hF hbits => ?_⟩
  · rw [State.noHold_get _ _ (.inl (by decide)), State.get_set_bits _ _ _ _ (by decide) (by decide)]
    exact State.get_set_fits _ _ (by decide) (Word.field_lt v 23 0)
  · rw [State.noHold_get _ _ (.inl (by decide))]
    exact State.get_set_fits _ _ (by decide) (Word.field_lt v 47 24)
  · rw [State.noHold_get _ _ (.inr hbits), State.get_set_kind _ _ _ _ (by simp [hF]), State.get_set_kind _ _ _ _ (by simp [hF])]

/-- Sizes written read as written, with HOLD_EN 0 for a key of another chip, and the rates stay. -/
theorem State.writeSizes_shows (s : State) (c : Nat) (v : Word) :
    (∀ F : Fld, F.reg = .TMP_CTX_10 → F.hi < 62 → (s.writeSizes c v).get F c = v.field F.hi F.lo) ∧
      (∀ F : Fld, F.reg = .TMP_CTX_08 → (s.writeSizes c v).get F c = s.get F c) ∧
      (s.writeSizes c v).get TMP_CTX_10.HOLD_EN c = if s.fabricKey c then 0 else v.field 62 62 := by
  have hword : ∀ F : Fld, F.reg = .TMP_CTX_10 → F.hi < 63 → (s.setReg .TMP_CTX_10 c (v.setField 63 63 0)).get F c = v.field F.hi F.lo := fun F hF hbits => by
    rw [State.get, hF, State.reg_setReg_self, Word.field_setField_other v 0 (by decide) (by decide) (.inl hbits)]
  have hset : Only (partsMask [.reg .TMP_CTX_10]) s (s.setReg .TMP_CTX_10 c (v.setField 63 63 0)) := State.setReg_only rfl (Only.refl _ s)
  refine ⟨fun F hF hbits => ?_, fun F hF => ?_, ?_⟩
  · rw [State.writeSizes, State.noHold_get _ _ (.inr hbits), hword F hF (by omega)]
  · rw [State.writeSizes, State.noHold_get _ _ (.inl (by simp [hF])), hset.get_eq F c (by rw [hF]; decide)]
  · unfold State.writeSizes State.noHold
    rw [hset.fabricKey_eq]
    split_ifs
    · exact State.get_set_fits _ _ (by decide) (by decide)
    · exact hword TMP_CTX_10.HOLD_EN rfl (by decide)

/-- Legal rates take effect and reset the buckets. -/
theorem contextRewrite_rates_shows (hlegal : ratesLegal (v.field 23 0) (v.field 47 24) (s.get TMP_CTX_10.CBS c) (s.get TMP_CTX_10.PBS c) = true) :
    (contextRewrite c 1 v s).get TMP_CTX_08.CIR c = v.field 23 0 ∧ (contextRewrite c 1 v s).get TMP_CTX_08.PIR c = v.field 47 24 ∧
      (contextRewrite c 1 v s).bucket c = rewritten (s.flag TMP_CTX_10.TOK_RST c) (s.get TMP_CTX_10.CBS c) (s.get TMP_CTX_10.PBS c) s.cycle := by
  obtain ⟨hcir, hpir, hsizes⟩ := s.writeRates_shows c v
  have hok : (s.writeRates c v).ctxLegal c = true := by
    rw [State.ctxLegal, hcir, hpir, hsizes TMP_CTX_10.CBS rfl (by decide), hsizes TMP_CTX_10.PBS rfl (by decide), hlegal]
  rw [contextRewrite_rates, hok, if_neg (by decide), State.resetCtx_bucket, ((s.writeRates c v).resetCtx_only c _).get_eq TMP_CTX_08.CIR,
    ((s.writeRates c v).resetCtx_only c _).get_eq TMP_CTX_08.PIR, State.flag, hsizes TMP_CTX_10.TOK_RST rfl (by decide),
    hsizes TMP_CTX_10.CBS rfl (by decide), hsizes TMP_CTX_10.PBS rfl (by decide)]
  exact ⟨hcir, hpir, rfl⟩

theorem contextRewrite_rates_refused (hlegal : ratesLegal (v.field 23 0) (v.field 47 24) (s.get TMP_CTX_10.CBS c) (s.get TMP_CTX_10.PBS c) = false) :
    contextRewrite c 1 v s = s.refuseWrite .TMP_CTX_08 c := by
  obtain ⟨hcir, hpir, hsizes⟩ := s.writeRates_shows c v
  have hbad : (s.writeRates c v).ctxLegal c = false := by
    rw [State.ctxLegal, hcir, hpir, hsizes TMP_CTX_10.CBS rfl (by decide), hsizes TMP_CTX_10.PBS rfl (by decide), hlegal]
  rw [contextRewrite_rates, hbad, if_pos (by decide)]

/-- Legal sizes take effect with the rest of their word. -/
theorem contextRewrite_sizes_shows (hlegal : ratesLegal (s.get TMP_CTX_08.CIR c) (s.get TMP_CTX_08.PIR c) (v.field 23 0) (v.field 47 24) = true) :
    (∀ F : Fld, F.reg = .TMP_CTX_10 → F.hi < 62 → (contextRewrite c 2 v s).get F c = v.field F.hi F.lo) ∧
      (contextRewrite c 2 v s).get TMP_CTX_10.HOLD_EN c = if s.fabricKey c then 0 else v.field 62 62 := by
  obtain ⟨hsizes, hrates, hhold⟩ := s.writeSizes_shows c v
  have hok : (s.writeSizes c v).ctxLegal c = true := by
    rw [State.ctxLegal, hrates TMP_CTX_08.CIR rfl, hrates TMP_CTX_08.PIR rfl, hsizes TMP_CTX_10.CBS rfl (by decide), hsizes TMP_CTX_10.PBS rfl (by decide), hlegal]
  have hreset := (s.writeSizes c v).resetCtx_only c s.cycle
  rw [contextRewrite_sizes, hok, if_neg (by decide)]
  exact ⟨fun F hF hbits => (hreset.get_eq F c (by rw [hF]; decide)).trans (hsizes F hF hbits), (hreset.get_eq TMP_CTX_10.HOLD_EN c).trans hhold⟩

theorem contextRewrite_sizes_refused (hlegal : ratesLegal (s.get TMP_CTX_08.CIR c) (s.get TMP_CTX_08.PIR c) (v.field 23 0) (v.field 47 24) = false) :
    contextRewrite c 2 v s = s.refuseWrite .TMP_CTX_10 c := by
  obtain ⟨hsizes, hrates, -⟩ := s.writeSizes_shows c v
  have hbad : (s.writeSizes c v).ctxLegal c = false := by
    rw [State.ctxLegal, hrates TMP_CTX_08.CIR rfl, hrates TMP_CTX_08.PIR rfl, hsizes TMP_CTX_10.CBS rfl (by decide), hsizes TMP_CTX_10.PBS rfl (by decide), hlegal]
  rw [contextRewrite_sizes, hbad, if_pos (by decide)]

/-- The rates of a shaper written. -/
def State.writeShaperRates (s : State) (i : Nat) (v : Word) : State := (s.set TMP_SHP_RATE.CIR i (v.field 23 0)).set TMP_SHP_RATE.PIR i (v.field 47 24)

/-- The sizes of a shaper written. -/
def State.writeShaperSizes (s : State) (i : Nat) (v : Word) : State := s.setReg .TMP_SHP_SIZE i (v.setField 63 57 0)

/-- A shaper's buckets reset, by its parameters. -/
def State.resetShaper (s : State) (p k now : Nat) : State :=
  s.setBucket (shaperKey p k) (rewritten (s.flag TMP_SHP_SIZE.TOK_RST (8 * p + k)) (s.get TMP_SHP_SIZE.CBS (8 * p + k)) (s.get TMP_SHP_SIZE.PBS (8 * p + k)) now)

/-- The rates and sizes of a shaper are ones that a write may set. -/
def State.shaperLegal (s : State) (i : Nat) : Bool :=
  ratesLegal (s.get TMP_SHP_RATE.CIR i) (s.get TMP_SHP_RATE.PIR i) (s.get TMP_SHP_SIZE.CBS i) (s.get TMP_SHP_SIZE.PBS i)

theorem shaperRewrite_rates (s : State) (p k : Nat) (v : Word) : shaperRewrite p k 0 v s =
    if !(s.writeShaperRates (8 * p + k) v).shaperLegal (8 * p + k) then s.refuseWrite .TMP_SHP_RATE (8 * p + k)
    else (s.writeShaperRates (8 * p + k) v).resetShaper p k s.cycle := rfl

theorem shaperRewrite_sizes (s : State) (p k : Nat) (v : Word) : shaperRewrite p k 1 v s =
    if !(s.writeShaperSizes (8 * p + k) v).shaperLegal (8 * p + k) then s.refuseWrite .TMP_SHP_SIZE (8 * p + k)
    else (s.writeShaperSizes (8 * p + k) v).resetShaper p k s.cycle := rfl

theorem State.resetShaper_only (s : State) (p k now : Nat) : Only (partsMask [.field .buckets]) s (s.resetShaper p k now) := State.setBucket_only rfl (Only.refl _ s)

theorem State.writeShaperRates_shows (s : State) (i : Nat) (v : Word) :
    (s.writeShaperRates i v).get TMP_SHP_RATE.CIR i = v.field 23 0 ∧ (s.writeShaperRates i v).get TMP_SHP_RATE.PIR i = v.field 47 24 ∧
      ∀ F : Fld, F.reg = .TMP_SHP_SIZE → (s.writeShaperRates i v).get F i = s.get F i := by
  unfold State.writeShaperRates
  refine ⟨?_, State.get_set_fits _ _ (by decide) (Word.field_lt v 47 24), fun F hF => ?_⟩
  · rw [State.get_set_bits _ _ _ _ (by decide) (by decide)]
    exact State.get_set_fits _ _ (by decide) (Word.field_lt v 23 0)
  · rw [State.get_set_kind _ _ _ _ (by simp [hF]), State.get_set_kind _ _ _ _ (by simp [hF])]

theorem State.writeShaperSizes_shows (s : State) (i : Nat) (v : Word) :
    (∀ F : Fld, F.reg = .TMP_SHP_SIZE → F.hi < 57 → (s.writeShaperSizes i v).get F i = v.field F.hi F.lo) ∧
      ∀ F : Fld, F.reg = .TMP_SHP_RATE → (s.writeShaperSizes i v).get F i = s.get F i := by
  have hset : Only (partsMask [.reg .TMP_SHP_SIZE]) s (s.writeShaperSizes i v) := State.setReg_only rfl (Only.refl _ s)
  refine ⟨fun F hF hbits => ?_, fun F hF => hset.get_eq F i (by rw [hF]; decide)⟩
  rw [State.writeShaperSizes, State.get, hF, State.reg_setReg_self, Word.field_setField_other v 0 (by decide) (by decide) (.inl hbits)]

/-- Legal rates of a shaper take effect and reset its buckets. -/
theorem shaperRewrite_rates_shows (hlegal : ratesLegal (v.field 23 0) (v.field 47 24) (s.get TMP_SHP_SIZE.CBS (8 * p + k)) (s.get TMP_SHP_SIZE.PBS (8 * p + k)) = true) :
    (shaperRewrite p k 0 v s).get TMP_SHP_RATE.CIR (8 * p + k) = v.field 23 0 ∧ (shaperRewrite p k 0 v s).get TMP_SHP_RATE.PIR (8 * p + k) = v.field 47 24 ∧
      (shaperRewrite p k 0 v s).bucket (shaperKey p k) =
        rewritten (s.flag TMP_SHP_SIZE.TOK_RST (8 * p + k)) (s.get TMP_SHP_SIZE.CBS (8 * p + k)) (s.get TMP_SHP_SIZE.PBS (8 * p + k)) s.cycle := by
  obtain ⟨hcir, hpir, hsizes⟩ := s.writeShaperRates_shows (8 * p + k) v
  have hok : (s.writeShaperRates (8 * p + k) v).shaperLegal (8 * p + k) = true := by
    rw [State.shaperLegal, hcir, hpir, hsizes TMP_SHP_SIZE.CBS rfl, hsizes TMP_SHP_SIZE.PBS rfl, hlegal]
  have hreset := (s.writeShaperRates (8 * p + k) v).resetShaper_only p k s.cycle
  rw [shaperRewrite_rates, hok, if_neg (by decide), hreset.get_eq TMP_SHP_RATE.CIR, hreset.get_eq TMP_SHP_RATE.PIR, State.resetShaper, State.bucket_setBucket, State.flag,
    hsizes TMP_SHP_SIZE.TOK_RST rfl, hsizes TMP_SHP_SIZE.CBS rfl, hsizes TMP_SHP_SIZE.PBS rfl]
  exact ⟨hcir, hpir, rfl⟩

theorem shaperRewrite_rates_refused (hlegal : ratesLegal (v.field 23 0) (v.field 47 24) (s.get TMP_SHP_SIZE.CBS (8 * p + k)) (s.get TMP_SHP_SIZE.PBS (8 * p + k)) = false) :
    shaperRewrite p k 0 v s = s.refuseWrite .TMP_SHP_RATE (8 * p + k) := by
  obtain ⟨hcir, hpir, hsizes⟩ := s.writeShaperRates_shows (8 * p + k) v
  have hbad : (s.writeShaperRates (8 * p + k) v).shaperLegal (8 * p + k) = false := by
    rw [State.shaperLegal, hcir, hpir, hsizes TMP_SHP_SIZE.CBS rfl, hsizes TMP_SHP_SIZE.PBS rfl, hlegal]
  rw [shaperRewrite_rates, hbad, if_pos (by decide)]

/-- Legal sizes of a shaper take effect and reset its buckets. -/
theorem shaperRewrite_sizes_shows (hlegal : ratesLegal (s.get TMP_SHP_RATE.CIR (8 * p + k)) (s.get TMP_SHP_RATE.PIR (8 * p + k)) (v.field 23 0) (v.field 47 24) = true) :
    (shaperRewrite p k 1 v s).get TMP_SHP_SIZE.CBS (8 * p + k) = v.field 23 0 ∧ (shaperRewrite p k 1 v s).get TMP_SHP_SIZE.PBS (8 * p + k) = v.field 47 24 ∧
      (shaperRewrite p k 1 v s).bucket (shaperKey p k) = rewritten (decide (v.field 56 56 = 1)) (v.field 23 0) (v.field 47 24) s.cycle := by
  obtain ⟨hsizes, hrates⟩ := s.writeShaperSizes_shows (8 * p + k) v
  have hcbs := hsizes TMP_SHP_SIZE.CBS rfl (by decide)
  have hpbs := hsizes TMP_SHP_SIZE.PBS rfl (by decide)
  have hok : (s.writeShaperSizes (8 * p + k) v).shaperLegal (8 * p + k) = true := by
    rw [State.shaperLegal, hcbs, hpbs, hrates TMP_SHP_RATE.CIR rfl, hrates TMP_SHP_RATE.PIR rfl, hlegal]
  have hreset := (s.writeShaperSizes (8 * p + k) v).resetShaper_only p k s.cycle
  rw [shaperRewrite_sizes, hok, if_neg (by decide), hreset.get_eq TMP_SHP_SIZE.CBS, hreset.get_eq TMP_SHP_SIZE.PBS, State.resetShaper, State.bucket_setBucket, State.flag,
    hsizes TMP_SHP_SIZE.TOK_RST rfl (by decide), hcbs, hpbs]
  exact ⟨rfl, rfl, rfl⟩

/-- A remote mark of the full class is at least 0b10, and counted. -/
theorem cmarkReceived_keeps {param : Nat} (hfull : s.fullClass (p / 32) = true) :
    (cmarkReceived p param c s).markKept p param = max 2 (s.markKept p param) ∧
      (cmarkReceived p param c s).get TMP_CTX_60.MARK2 c = satAdd TMP_CTX_60.MARK2.width (s.get TMP_CTX_60.MARK2 c) 1 := by
  unfold cmarkReceived
  extract_lets u
  have hu : Only (partsMask [.reg .CNT_VAL]) s u := State.tallyPolicer_only rfl (Only.refl _ s)
  have hclass : u.fullClass (p / 32) = true := by
    rw [State.fullClass, State.flag, hu.get_eq TMP_CFG.CLASS]
    exact hfull
  rw [if_pos hclass, (State.count_only rfl (Only.refl (partsMask [.reg .TMP_CTX_60]) _)).markKept_eq, State.markKept_keepMark, State.get_count _ _ _ (by decide),
    (State.keepMark_only (Sub.refl _) (Only.refl _ u)).get_eq TMP_CTX_60.MARK2, hu.markKept_eq, hu.get_eq TMP_CTX_60.MARK2]
  exact ⟨rfl, rfl⟩

/-- In the compact class a remote mark is ignored, and counted so. -/
theorem cmarkReceived_ignores {param : Nat} (hcompact : s.fullClass (p / 32) = false) :
    (cmarkReceived p param c s).get TMP_STAT.CMARK_IGN (p / 32) = satAdd TMP_STAT.CMARK_IGN.width (s.get TMP_STAT.CMARK_IGN (p / 32)) 1 ∧
      (cmarkReceived p param c s).marks = s.marks := by
  unfold cmarkReceived
  extract_lets u
  have hu : Only (partsMask [.reg .CNT_VAL]) s u := State.tallyPolicer_only rfl (Only.refl _ s)
  have hclass : u.fullClass (p / 32) = false := by
    rw [State.fullClass, State.flag, hu.get_eq TMP_CFG.CLASS]
    exact hcompact
  have hcount : Only (partsMask [.reg .TMP_STAT]) u (u.count TMP_STAT.CMARK_IGN (p / 32)) := State.count_only rfl (Only.refl _ u)
  rw [if_neg (by simp [hclass]), State.get_count _ _ _ (by decide), hu.get_eq TMP_STAT.CMARK_IGN]
  exact ⟨rfl, (hcount.2 (.field .marks) (by decide) : _ = u.marks).trans (hu.2 (.field .marks) (by decide))⟩

end Rewrite

end Sys2Proof.Machine

namespace Sys2Proof.Machine

-- Proofs are elaborated one after another: each proof thread costs the check 256 MB of stack.
set_option Elab.async false

set_option exponentiation.threshold 500

/-! ### Contexts in use, and those free (R172, R173) -/

section Contexts

variable {G : Nat} {s t : State}

theorem Only.findCtx_eq (h : Only G s t) (hl : t.listed .TMP_CTX_00 = s.listed .TMP_CTX_00) (r feid ld : Nat)
    (hG : G.testBit (RegKind.ctorIdx .TMP_CTX_00) = false := by decide) : t.findCtx r feid ld = s.findCtx r feid ld := by
  unfold State.findCtx State.flag
  simp only [hl, h.get_eq TMP_CTX_00.BOUND _ hG, h.get_eq TMP_CTX_00.SRC_FEID _ hG, h.get_eq TMP_CTX_00.LD _ hG, h.get_eq TMP_CTX_00.REGION _ hG]

theorem Only.freeCtx_eq (h : Only G s t) (hl : t.listed .TMP_CTX_00 = s.listed .TMP_CTX_00) (hG : G.testBit (RegKind.ctorIdx .TMP_CTX_00) = false := by decide) :
    t.freeCtx = s.freeCtx := by
  unfold State.freeCtx State.flag
  simp only [hl, h.get_eq TMP_CTX_00.BOUND _ hG]

theorem Only.ctxBound_eq (h : Only G s t) (c : Nat) (hG : G.testBit (RegKind.ctorIdx .TMP_CTX_00) = false := by decide) : t.ctxBound c = s.ctxBound c := by
  unfold State.ctxBound State.flag
  rw [h.get_eq TMP_CTX_00.BOUND c hG]

theorem Only.live_eq (h : Only G s t) (r : Nat) (hG : G.testBit (RegKind.ctorIdx .FLT_REG_STAT) = false := by decide) : t.live r = s.live r := by
  unfold State.live State.regionState
  rw [h.get_eq FLT_REG_STAT.STATE r hG]

end Contexts

/-! ### The result of a bind command (R188, R189) -/

section Command

variable {s : State} {r : Nat}

/-- A region with its bind command under way: its result is not valid. -/
def State.bindStart (s : State) (r : Nat) : State := s.resultStart TMP_BIND_STAT.VALID r

theorem State.bindStart_only (s : State) (r : Nat) : Only (partsMask [.reg .TMP_BIND_STAT]) s (s.bindStart r) := State.set_only rfl (Only.refl _ s)

theorem State.bindStart_findCtx (s : State) (r q feid ld : Nat) : (s.bindStart r).findCtx q feid ld = s.findCtx q feid ld :=
  (s.bindStart_only r).findCtx_eq (s.listed_set r 0 (by decide)) q feid ld

theorem State.bindStart_freeCtx (s : State) (r : Nat) : (s.bindStart r).freeCtx = s.freeCtx := (s.bindStart_only r).freeCtx_eq (s.listed_set r 0 (by decide))

theorem State.bindStart_valid (s : State) (r : Nat) : (s.bindStart r).get TMP_BIND_STAT.VALID r = 0 := State.get_set_fits _ r (by decide) (by decide)

/-- The outcome of a region's bind command recorded: its status and its index. -/
def State.bindOutcome (s : State) (r st i : Nat) : State := { s with bindRun := Tbl.wr (fun _ => none) s.bindRun r (some ⟨st, i⟩) }

theorem State.bindOutcome_only (s : State) (r st i : Nat) : Only (partsMask [.field .bindRun]) s (s.bindOutcome r st i) := Only.set_bindRun rfl (Only.refl _ s)

@[simp] theorem State.bindOutcome_run (s : State) (r st i : Nat) : Tbl.rd (fun _ => none) (s.bindOutcome r st i).bindRun r = some ⟨st, i⟩ :=
  Tbl.rd_wr_self (fun _ => none) s.bindRun r (some ⟨st, i⟩)

theorem State.bindCommand_refused {x : BindRun} (f : State → State × Nat × Nat) (h : Tbl.rd (fun _ => none) s.bindRun r = some x) :
    s.bindCommand r f = s.refuseWrite .TMP_BIND_CMD r := by
  simp [State.bindCommand, h]

theorem State.bindCommand_runs {f : State → State × Nat × Nat} {t : State} {st i : Nat} (h : Tbl.rd (fun _ => none) s.bindRun r = none)
    (hf : f (s.bindStart r) = (t, st, i)) : s.bindCommand r f = t.bindOutcome r st i := by
  unfold State.bindCommand
  rw [if_neg (by simp [h]), show f (s.resultStart TMP_BIND_STAT.VALID r) = (t, st, i) from hf]
  rfl

/-- The result register shows the outcome of the command that completes. -/
theorem bindCommandComplete_shows {x : BindRun} (h : Tbl.rd (fun _ => none) s.bindRun r = some x) :
    (bindCommandComplete r s).get TMP_BIND_STAT.STATUS r = x.status % 16 ∧ (bindCommandComplete r s).get TMP_BIND_STAT.INDEX r = x.index % 2 ^ 17 ∧
      (bindCommandComplete r s).get TMP_BIND_STAT.SEQ r = (s.get TMP_BIND_STAT.SEQ r + 1) % 256 ∧ (bindCommandComplete r s).get TMP_BIND_STAT.VALID r = 1 ∧
      Tbl.rd (fun _ => none) (bindCommandComplete r s).bindRun r = none := by
  unfold bindCommandComplete
  rw [h]
  dsimp -zeta only
  extract_lets u1 u2 u3
  have hstatus : u3.get TMP_BIND_STAT.STATUS r = x.status % 16 := by
    simp (disch := decide) only [u3, u2, u1, State.resultDone, State.bump, State.get_set_bits, State.get_set_self]
    rfl
  have hindex : u3.get TMP_BIND_STAT.INDEX r = x.index % 2 ^ 17 := by
    simp (disch := decide) only [u3, u2, State.resultDone, State.bump, State.get_set_bits, State.get_set_self]
    rfl
  have hseq : u3.get TMP_BIND_STAT.SEQ r = (s.get TMP_BIND_STAT.SEQ r + 1) % 256 := by
    simp (disch := decide) only [u3, u2, u1, State.resultDone, State.bump, State.get_set_bits, State.get_set_self]
    rfl
  have hvalid : u3.get TMP_BIND_STAT.VALID r = 1 := State.get_set_fits _ r (by decide) (by decide)
  clear_value u3
  have hdone : Only (partsMask [.field .bindRun]) u3 { u3 with bindRun := Tbl.wr (fun _ => none) u3.bindRun r none } := Only.set_bindRun rfl (Only.refl _ u3)
  rw [hdone.get_eq TMP_BIND_STAT.STATUS, hdone.get_eq TMP_BIND_STAT.INDEX, hdone.get_eq TMP_BIND_STAT.SEQ, hdone.get_eq TMP_BIND_STAT.VALID]
  exact ⟨hstatus, hindex, hseq, hvalid, Tbl.rd_wr_self (fun _ => none) u3.bindRun r none⟩

theorem bindCommandComplete_of_none (h : Tbl.rd (fun _ => none) s.bindRun r = none) : bindCommandComplete r s = s := by
  simp [bindCommandComplete, h]

end Command

/-! ### Keys bound and unbound (R173, R174, R188) -/

section Bind

variable {s : State} {r index feid ld c : Nat}

/-- The counters of a context, with its buckets and what shows of them, and the number of free contexts. -/
abbrev bindParts : Nat := partsMask [.reg .TMP_STAT, .reg .TMP_CTX_10, .reg .TMP_CTX_18, .reg .TMP_CTX_28, .reg .TMP_CTX_30, .reg .TMP_CTX_38, .reg .TMP_CTX_40,
  .reg .TMP_CTX_48, .reg .TMP_CTX_50, .reg .TMP_CTX_58, .reg .TMP_CTX_60, .reg .TMP_CTX_68, .field .buckets]

/-- A key written into a context. -/
def State.writeKey (s : State) (r c feid ld : Nat) (auto : Bool) : State :=
  ((((s.set TMP_CTX_00.SRC_FEID c feid).set TMP_CTX_00.LD c ld).set TMP_CTX_00.REGION c r).set TMP_CTX_00.BOUND c 1).set TMP_CTX_00.AUTO c (bit auto)

/-- After its key, only a context's counters and buckets, and the number of free contexts, are written. -/
theorem State.bindCtx_keyed (s : State) (r c feid ld : Nat) (auto : Bool) : Only bindParts (s.writeKey r c feid ld auto) (s.bindCtx r c feid ld auto) :=
  State.setFree_only rfl (State.showTokens_only rfl (State.setBucket_only rfl (State.clearCtx_only rfl (Only.ite (State.set_only rfl (Only.refl _ _)) (Only.refl _ _)))))

/-- A context bound shows its key, as far as it fits. -/
theorem State.bindCtx_shows (s : State) (r c feid ld : Nat) (auto : Bool) :
    (s.bindCtx r c feid ld auto).get TMP_CTX_00.BOUND c = 1 ∧ (s.bindCtx r c feid ld auto).get TMP_CTX_00.SRC_FEID c = feid % 2 ^ 17 ∧
      (s.bindCtx r c feid ld auto).get TMP_CTX_00.LD c = ld % 16 ∧ (s.bindCtx r c feid ld auto).get TMP_CTX_00.REGION c = r % 4 ∧
      (s.bindCtx r c feid ld auto).get TMP_CTX_00.AUTO c = bit auto := by
  have hafter := s.bindCtx_keyed r c feid ld auto
  rw [hafter.get_eq TMP_CTX_00.BOUND, hafter.get_eq TMP_CTX_00.SRC_FEID, hafter.get_eq TMP_CTX_00.LD, hafter.get_eq TMP_CTX_00.REGION, hafter.get_eq TMP_CTX_00.AUTO]
  unfold State.writeKey
  refine ⟨?_, ?_, ?_, ?_, State.get_set_bit _ _ _ (by decide)⟩
  all_goals simp (disch := decide) only [State.get_set_bits, State.get_set_self]
  all_goals rfl

/-- A key is bound to the lowest free context, or to the one named. -/
theorem bindFlow_binds (hnone : Tbl.rd (fun _ => none) s.bindRun r = none) (hlive : s.live r = true) (hnew : s.findCtx r (feid % 2 ^ 17) (ld % 16) = none)
    {free : Nat} (hfree : s.freeCtx = some free) (hindex : index = 0x1FFFF ∧ c = free ∨ index < 65536 ∧ s.ctxBound index = false ∧ c = index) :
    bindFlow r index feid ld s = ((s.bindStart r).bindCtx r c (feid % 2 ^ 17) (ld % 16) false).bindOutcome r 0 c := by
  unfold bindFlow
  dsimp only
  refine State.bindCommand_runs hnone ?_
  rw [(s.bindStart_only r).live_eq, hlive, State.bindStart_findCtx, hnew, State.bindStart_freeCtx, hfree, (s.bindStart_only r).ctxBound_eq]
  rcases hindex with ⟨rfl, rfl⟩ | ⟨hlow, hunbound, rfl⟩
  · rfl
  · dsimp only
    rw [if_neg (by decide), if_neg (by decide), if_neg (by omega), if_neg (by simp [hunbound]; omega)]

/-- A context that is bound already, or no context, is not bound. -/
theorem bindFlow_badIndex (hnone : Tbl.rd (fun _ => none) s.bindRun r = none) (hlive : s.live r = true) (hnew : s.findCtx r (feid % 2 ^ 17) (ld % 16) = none)
    {free : Nat} (hfree : s.freeCtx = some free) (hnamed : index ≠ 0x1FFFF) (hbad : 65536 ≤ index ∨ s.ctxBound index = true) :
    bindFlow r index feid ld s = (s.bindStart r).bindOutcome r 4 index := by
  unfold bindFlow
  dsimp only
  refine State.bindCommand_runs hnone ?_
  rw [(s.bindStart_only r).live_eq, hlive, State.bindStart_findCtx, hnew, State.bindStart_freeCtx, hfree, (s.bindStart_only r).ctxBound_eq]
  dsimp only
  rw [if_neg (by decide), if_neg (by decide), if_neg hnamed, if_pos hbad]

theorem bindFlow_keyBound (hnone : Tbl.rd (fun _ => none) s.bindRun r = none) (hlive : s.live r = true) (hold : s.findCtx r (feid % 2 ^ 17) (ld % 16) = some c) :
    bindFlow r index feid ld s = (s.bindStart r).bindOutcome r 2 index := by
  unfold bindFlow
  dsimp only
  refine State.bindCommand_runs hnone ?_
  rw [(s.bindStart_only r).live_eq, hlive, State.bindStart_findCtx, hold]
  rfl

theorem bindFlow_refused {x : BindRun} (h : Tbl.rd (fun _ => none) s.bindRun r = some x) : bindFlow r index feid ld s = s.refuseWrite .TMP_BIND_CMD r := by
  unfold bindFlow
  exact State.bindCommand_refused _ h

/-- Held requests that are admitted as yellow are held no longer. -/
theorem State.drainYellow_held (s : State) (c : Nat) : (s.drainYellow c).held c = [] := by
  unfold State.drainYellow
  generalize hl : s.held c = l
  induction l generalizing s with
  | nil => exact hl
  | cons h l ih => exact ih _ ((State.takeIn_held ..).trans (State.unhold_held hl))

/-- A context freed: its counters cleared, and no key bound to it. -/
def State.freeKey (s : State) (c : Nat) : State := ((s.drainYellow c).clearCtx c).setReg .TMP_CTX_00 c 0

theorem State.clearCtx_shows (s : State) (c : Nat) : (s.clearCtx c).get TMP_CTX_28.GREEN_B c = 0 ∧ (s.clearCtx c).get TMP_CTX_30.YELLOW_B c = 0 := by
  unfold State.clearCtx
  simp only [List.foldl_cons, List.foldl_nil]
  constructor
  · simp (disch := decide) only [State.get_set_kind, State.get_set_self]
    rfl
  · simp (disch := decide) only [State.get_set_kind, State.get_set_self]
    rfl

theorem State.freeKey_shows (s : State) (c : Nat) : (s.freeKey c).get TMP_CTX_00.BOUND c = 0 ∧ (s.freeKey c).held c = [] ∧
    (s.freeKey c).get TMP_CTX_28.GREEN_B c = 0 ∧ (s.freeKey c).get TMP_CTX_30.YELLOW_B c = 0 := by
  have hset : Only (partsMask [.reg .TMP_CTX_00]) ((s.drainYellow c).clearCtx c) (s.freeKey c) := State.setReg_only rfl (Only.refl _ _)
  obtain ⟨hgreen, hyellow⟩ := State.clearCtx_shows (s.drainYellow c) c
  refine ⟨?_, ?_, (hset.get_eq _ c).trans hgreen, (hset.get_eq _ c).trans hyellow⟩
  · rw [State.freeKey, State.get, State.reg_setReg_self]
    rfl
  · rw [hset.held_eq, (State.clearCtx_only (Sub.refl _) (Only.refl _ _)).held_eq, State.drainYellow_held]

/-- A bound key is unbound, and its context is free. -/
theorem unbindFlow_frees (hnone : Tbl.rd (fun _ => none) s.bindRun r = none) (hlive : s.live r = true) (hold : s.findCtx r (feid % 2 ^ 17) (ld % 16) = some c) :
    unbindFlow r feid ld s = (((s.bindStart r).freeKey c).setFree (((s.bindStart r).freeKey c).get TMP_STAT.FREE r + 1)).bindOutcome r 0 c := by
  unfold unbindFlow
  dsimp only
  refine State.bindCommand_runs hnone ?_
  rw [(s.bindStart_only r).live_eq, hlive, State.bindStart_findCtx, hold]
  rfl

theorem unbindFlow_notBound (hnone : Tbl.rd (fun _ => none) s.bindRun r = none) (hlive : s.live r = true) (hnew : s.findCtx r (feid % 2 ^ 17) (ld % 16) = none) :
    unbindFlow r feid ld s = (s.bindStart r).bindOutcome r 3 0x10000 := by
  unfold unbindFlow
  dsimp only
  refine State.bindCommand_runs hnone ?_
  rw [(s.bindStart_only r).live_eq, hlive, State.bindStart_findCtx, hnew]
  rfl

theorem lookupFlow_finds (hnone : Tbl.rd (fun _ => none) s.bindRun r = none) (hold : s.findCtx r (feid % 2 ^ 17) (ld % 16) = some c) :
    lookupFlow r feid ld s = (s.bindStart r).bindOutcome r 0 c := by
  unfold lookupFlow
  refine State.bindCommand_runs hnone ?_
  rw [State.bindStart_findCtx, hold]

theorem lookupFlow_notBound (hnone : Tbl.rd (fun _ => none) s.bindRun r = none) (hnew : s.findCtx r (feid % 2 ^ 17) (ld % 16) = none) :
    lookupFlow r feid ld s = (s.bindStart r).bindOutcome r 3 0x10000 := by
  unfold lookupFlow
  refine State.bindCommand_runs hnone ?_
  rw [State.bindStart_findCtx, hnew]

/-- An unbound key from another chip takes the lowest free context, with the template's parameters. -/
theorem autoBind_binds (hon : s.flag TMP_CFG.AUTO_BIND r = true) (htemplate : s.flag TMP_CTX_00.BOUND (s.get TMP_CFG.TEMPLATE r) = true)
    (hnew : s.findCtx r (feid % 2 ^ 17) (ld % 16) = none) (hnow : s.mayNow (16 + r) 100000 = true) (hfree : s.freeCtx = some c)
    (hrev : s.get MGT_FAB_MEMBER.REV_MAX (feid % 2 ^ 17 / 512) ≠ 1) :
    autoBind r feid ld s = ((s.stamp (16 + r)).copyCtx (s.get TMP_CFG.TEMPLATE r) c).bindCtx r c (feid % 2 ^ 17) (ld % 16) true := by
  have hstamp : Only (partsMask [.field .stamps]) s (s.stamp (16 + r)) := State.stamp_only rfl (Only.refl _ s)
  unfold autoBind
  dsimp only
  rw [hon, htemplate, hnew, hnow, if_pos (by decide), hstamp.get_eq MGT_FAB_MEMBER.REV_MAX, if_neg hrev, State.bindAuto, hstamp.freeCtx_eq rfl, hfree]

/-- A key from a chip of revision 1 is refused and counted, and no context taken. -/
theorem autoBind_refuses (hon : s.flag TMP_CFG.AUTO_BIND r = true) (htemplate : s.flag TMP_CTX_00.BOUND (s.get TMP_CFG.TEMPLATE r) = true)
    (hnew : s.findCtx r (feid % 2 ^ 17) (ld % 16) = none) (hnow : s.mayNow (16 + r) 100000 = true) (hrev : s.get MGT_FAB_MEMBER.REV_MAX (feid % 2 ^ 17 / 512) = 1) :
    (autoBind r feid ld s).freeCtx = s.freeCtx ∧
      (autoBind r feid ld s).get TMP_STAT.BIND_REFUSED r = satAdd TMP_STAT.BIND_REFUSED.width (s.get TMP_STAT.BIND_REFUSED r) 1 := by
  have hstamp : Only (partsMask [.field .stamps]) s (s.stamp (16 + r)) := State.stamp_only rfl (Only.refl _ s)
  have hcount : Only (partsMask [.reg .TMP_STAT]) (s.stamp (16 + r)) ((s.stamp (16 + r)).count TMP_STAT.BIND_REFUSED r) := State.count_only rfl (Only.refl _ _)
  unfold autoBind
  dsimp only
  rw [hon, htemplate, hnew, hnow, if_pos (by decide), hstamp.get_eq MGT_FAB_MEMBER.REV_MAX, if_pos hrev, hcount.freeCtx_eq (State.listed_set _ r _ (by decide)),
    hstamp.freeCtx_eq rfl, State.get_count _ _ _ (by decide), hstamp.get_eq TMP_STAT.BIND_REFUSED]
  exact ⟨rfl, rfl⟩

theorem autoBind_of_off (h : s.flag TMP_CFG.AUTO_BIND r = false ∨ s.flag TMP_CTX_00.BOUND (s.get TMP_CFG.TEMPLATE r) = false ∨ s.mayNow (16 + r) 100000 = false) :
    autoBind r feid ld s = s := by
  unfold autoBind
  refine if_neg ?_
  rcases h with h | h | h <;> simp [h]

/-- The template's rates are those of the context bound. -/
theorem State.bindCopied_rates (s : State) (r c feid ld src : Nat) (auto : Bool) :
    ((s.copyCtx src c).bindCtx r c feid ld auto).reg .TMP_CTX_08 c = s.reg .TMP_CTX_08 src := by
  have hkey : Only (partsMask [.reg .TMP_CTX_00]) (s.copyCtx src c) ((s.copyCtx src c).writeKey r c feid ld auto) :=
    State.set_only rfl (State.set_only rfl (State.set_only rfl (State.set_only rfl (State.set_only rfl (Only.refl _ _)))))
  have hcopy : Only (partsMask [.reg .TMP_CTX_10, .reg .TMP_CTX_20]) (s.setReg .TMP_CTX_08 c (s.reg .TMP_CTX_08 src)) (s.copyCtx src c) :=
    State.set_only rfl (State.setReg_only rfl (Only.refl _ _))
  rw [(State.bindCtx_keyed _ r c feid ld auto).reg_eq .TMP_CTX_08, hkey.reg_eq .TMP_CTX_08, hcopy.reg_eq .TMP_CTX_08, State.reg_setReg_self]

/-- A key bound by a command: the context shows it, and the outcome is recorded, with the result not valid yet. -/
theorem bindFlow_shows (hr : r < 4) (h : bindFlow r index feid ld s = ((s.bindStart r).bindCtx r c (feid % 2 ^ 17) (ld % 16) false).bindOutcome r 0 c) :
    (bindFlow r index feid ld s).get TMP_CTX_00.BOUND c = 1 ∧ (bindFlow r index feid ld s).get TMP_CTX_00.SRC_FEID c = feid % 2 ^ 17 ∧
      (bindFlow r index feid ld s).get TMP_CTX_00.LD c = ld % 16 ∧ (bindFlow r index feid ld s).get TMP_CTX_00.REGION c = r ∧
      Tbl.rd (fun _ => none) (bindFlow r index feid ld s).bindRun r = some (BindRun.mk 0 c) ∧ (bindFlow r index feid ld s).get TMP_BIND_STAT.VALID r = 0 := by
  obtain ⟨hbound, hfeid, hld, hregion, -⟩ := (s.bindStart r).bindCtx_shows r c (feid % 2 ^ 17) (ld % 16) false
  have hrun := State.bindOutcome_only ((s.bindStart r).bindCtx r c (feid % 2 ^ 17) (ld % 16) false) r 0 c
  rw [h, hrun.get_eq TMP_CTX_00.BOUND, hrun.get_eq TMP_CTX_00.SRC_FEID, hrun.get_eq TMP_CTX_00.LD, hrun.get_eq TMP_CTX_00.REGION, hrun.get_eq TMP_BIND_STAT.VALID,
    hbound, hfeid, hld, hregion, Nat.mod_mod, Nat.mod_mod, Nat.mod_eq_of_lt hr, State.bindOutcome_run,
    (State.bindCtx_only (Sub.refl _) (Only.refl _ (s.bindStart r))).get_eq TMP_BIND_STAT.VALID, State.bindStart_valid]
  exact ⟨rfl, rfl, rfl, rfl, rfl, rfl⟩

/-- A key unbound by a command: its context is free, with nothing held, and the outcome is recorded. -/
theorem unbindFlow_shows (hnone : Tbl.rd (fun _ => none) s.bindRun r = none) (hlive : s.live r = true) (hold : s.findCtx r (feid % 2 ^ 17) (ld % 16) = some c) :
    (unbindFlow r feid ld s).get TMP_CTX_00.BOUND c = 0 ∧ (unbindFlow r feid ld s).held c = [] ∧ (unbindFlow r feid ld s).get TMP_CTX_28.GREEN_B c = 0 ∧
      (unbindFlow r feid ld s).get TMP_CTX_30.YELLOW_B c = 0 ∧ Tbl.rd (fun _ => none) (unbindFlow r feid ld s).bindRun r = some (BindRun.mk 0 c) := by
  obtain ⟨hbound, hheld, hgreen, hyellow⟩ := (s.bindStart r).freeKey_shows c
  rw [unbindFlow_frees hnone hlive hold]
  generalize (s.bindStart r).freeKey c = u at *
  have hfree : Only (partsMask [.reg .TMP_STAT]) u (u.setFree (u.get TMP_STAT.FREE r + 1)) := State.setFree_only rfl (Only.refl _ u)
  have hrun := State.bindOutcome_only (u.setFree (u.get TMP_STAT.FREE r + 1)) r 0 c
  rw [hrun.get_eq TMP_CTX_00.BOUND, hrun.held_eq, hrun.get_eq TMP_CTX_28.GREEN_B, hrun.get_eq TMP_CTX_30.YELLOW_B, hfree.get_eq TMP_CTX_00.BOUND, hfree.held_eq,
    hfree.get_eq TMP_CTX_28.GREEN_B, hfree.get_eq TMP_CTX_30.YELLOW_B, State.bindOutcome_run]
  exact ⟨hbound, hheld, hgreen, hyellow, rfl⟩

end Bind

/-- Settles O22: colours, hold queues, shapers, marks and bindings, each by its command's own lemma. -/
theorem flowsPoliced : Obligations.FlowsPoliced := by
  unfold Obligations.FlowsPoliced
  refine ⟨?sends, ?answers, ?silent, ?unpoliced, ?yellow, ?red, ?held, ?retested, ?kept, ?admittedRed, ?nothingHeld, ?full, ?room, ?expired, ?compact, ?bound, ?rates,
    ?sizes, ?badRates, ?badSizes, ?shaperRates, ?shaperSizes, ?badShaper, ?marked, ?ignored, ?lowest, ?named, ?badIndex, ?keyBound, ?running, ?unbound, ?notBound, ?found,
    ?notFound, ?completed, ?noCommand, ?autoBound, ?autoRefused, ?autoOff⟩
  case sends => exact fun s p k both x hp hon hq hhead hrole hresp hdata hloop =>
    ⟨_, run_true (decide_eq_true hp), egressPacketSend_sends hon hq hhead hrole hresp hdata hloop⟩
  case answers => exact fun s p k both x hp hon hq hhead hrole hkind hload _ =>
    ⟨_, run_true (decide_eq_true hp), egressPacketSend_answers hon hq hhead hrole hkind hload⟩
  case silent => exact fun s p hp h => (run_true (decide_eq_true hp)).trans (congrArg _ (egressPacketSend_of_none h))
  case unpoliced =>
    intro s q c hq hc hnone hpir
    obtain ⟨hcount, -, hqueue, -⟩ := requestColour_admits hc hnone (State.testColour_of_unpoliced q.bytes hpir) nofun
    exact ⟨_, run_true (decide_eq_true hq), hcount, hqueue⟩
  case yellow =>
    intro s q c hq hc hnone hyellow
    obtain ⟨hcount, hothers, -⟩ := requestColour_admits hc hnone hyellow nofun
    exact ⟨_, run_true (decide_eq_true hq), hcount, hothers .green nofun⟩
  case red =>
    intro s q c hq hc hnone hred hgo
    obtain ⟨hcount, -, -, hheld⟩ := requestColour_admits hc hnone hred fun _ => hgo
    exact ⟨_, run_true (decide_eq_true hq), hcount, hheld⟩
  case held => exact fun s q c hq hc hholds h => ⟨_, run_true (decide_eq_true hq), requestColour_holds hc hholds h⟩
  case retested =>
    intro s c h rest hc hheld hgo
    obtain ⟨m, hadmits⟩ := holdQueueRetest_admits hheld fun hred => absurd hred hgo
    obtain ⟨hrest, -, hqueue⟩ := State.admitHead (s.unholdTested_only c h.req.bytes) ((s.tested_held c _ c).trans hheld) (s.testColour c h.req.bytes).1 m
    rw [← hadmits] at hrest hqueue
    exact ⟨_, run_true (decide_eq_true hc), hrest, hqueue⟩
  case kept => exact fun s c h rest hc hheld hred hholds => ⟨_, run_true (decide_eq_true hc), holdQueueRetest_keeps hheld hred hholds⟩
  case admittedRed =>
    intro s c h rest hc hheld hred hholds
    obtain ⟨m, hadmits⟩ := holdQueueRetest_admits hheld fun _ => hholds
    obtain ⟨hrest, hcount, -⟩ := State.admitHead (s.unholdTested_only c h.req.bytes) ((s.tested_held c _ c).trans hheld) .red m
    rw [hred] at hadmits
    rw [← hadmits] at hrest hcount
    exact ⟨_, run_true (decide_eq_true hc), hrest, hcount⟩
  case nothingHeld => exact fun s c hc h => (run_true (decide_eq_true hc)).trans (congrArg _ (holdQueueRetest_of_empty h))
  case full => exact fun s c h rest hc hheld hfull hnew => ⟨_, run_true (decide_eq_true hc), holdQueueFull_shows hheld hfull hnew⟩
  case room => exact fun s c hc h => (run_true (decide_eq_true hc)).trans (congrArg _ (holdQueueFull_of_room h))
  case expired =>
    intro s c h rest hc hheld hfull hred
    obtain ⟨hrest, hcount, -⟩ := State.admitHead (s.unholdTested_only c h.req.bytes) ((s.tested_held c _ c).trans hheld) .red 3
    refine ⟨_, run_true (decide_eq_true hc), ?_⟩
    rw [holdBoundExpiry_admits hheld hfull hred]
    refine ⟨hrest, State.takeIn_keeps .., hcount, ?_⟩
    rw [State.takeIn_mark3, (s.unholdTested_only c h.req.bytes).get_eq TMP_CTX_68.MARK3]
  case compact => exact fun s c h rest hc hheld hclass => (run_true (decide_eq_true hc)).trans (congrArg _ (holdBoundExpiry_of_compact hheld hclass))
  case bound => exact fun s r v hr => ⟨_, run_true (decide_eq_true hr), holdBoundWrite_shows s r v⟩
  case rates => exact fun s c v hc hlegal => ⟨_, run_true (decide_eq_true hc), contextRewrite_rates_shows hlegal⟩
  case sizes =>
    intro s c v hc hlegal
    obtain ⟨hfields, hhold⟩ := contextRewrite_sizes_shows hlegal
    exact ⟨_, run_true (decide_eq_true hc), hfields TMP_CTX_10.CBS rfl (by decide), hfields TMP_CTX_10.PBS rfl (by decide), hfields TMP_CTX_10.OVH rfl (by decide),
      hfields TMP_CTX_10.TC rfl (by decide), hfields TMP_CTX_10.PROFILE rfl (by decide), hhold⟩
  case badRates => exact fun s c v hc hlegal => (run_true (decide_eq_true hc)).trans (congrArg _ (contextRewrite_rates_refused hlegal))
  case badSizes => exact fun s c v hc hlegal => (run_true (decide_eq_true hc)).trans (congrArg _ (contextRewrite_sizes_refused hlegal))
  case shaperRates => exact fun s p k v hp hk hlegal => ⟨_, run_true (by simp [hp, hk]), shaperRewrite_rates_shows hlegal⟩
  case shaperSizes => exact fun s p k v hp hk hlegal => ⟨_, run_true (by simp [hp, hk]), shaperRewrite_sizes_shows hlegal⟩
  case badShaper => exact fun s p k v hp hk hlegal => (run_true (by simp [hp, hk])).trans (congrArg _ (shaperRewrite_rates_refused hlegal))
  case marked => exact fun s p param c hp hc hfull => ⟨_, run_true (by simp [hp, hc]), cmarkReceived_keeps hfull⟩
  case ignored => exact fun s p param c hp hc hcompact => ⟨_, run_true (by simp [hp, hc]), cmarkReceived_ignores hcompact⟩
  case lowest => exact fun s r feid ld c hr hnone hlive hnew hfree =>
    ⟨_, run_true (decide_eq_true hr), bindFlow_shows hr (bindFlow_binds hnone hlive hnew hfree (.inl ⟨rfl, rfl⟩))⟩
  case named =>
    intro s r index feid ld c hr hnone hlive hnew hfree hindex hunbound
    obtain ⟨hbound, -, -, -, hrun, -⟩ := bindFlow_shows hr (bindFlow_binds hnone hlive hnew hfree (.inr ⟨hindex, hunbound, rfl⟩))
    exact ⟨_, run_true (decide_eq_true hr), hbound, hrun⟩
  case badIndex => exact fun s r index feid ld c hr hnone hlive hnew hfree hnamed hbad =>
    ⟨_, run_true (decide_eq_true hr), bindFlow_badIndex hnone hlive hnew hfree hnamed hbad ▸ State.bindOutcome_run ..⟩
  case keyBound => exact fun s r index feid ld c hr hnone hlive hold =>
    ⟨_, run_true (decide_eq_true hr), bindFlow_keyBound (index := index) hnone hlive hold ▸ State.bindOutcome_run ..⟩
  case running => exact fun s r index feid ld x hr h => (run_true (decide_eq_true hr)).trans (congrArg _ (bindFlow_refused h))
  case unbound => exact fun s r feid ld c hr hnone hlive hold => ⟨_, run_true (decide_eq_true hr), unbindFlow_shows hnone hlive hold⟩
  case notBound => exact fun s r feid ld hr hnone hlive hnew => ⟨_, run_true (decide_eq_true hr), unbindFlow_notBound hnone hlive hnew ▸ State.bindOutcome_run ..⟩
  case found => exact fun s r feid ld c hr hnone hold => ⟨_, run_true (decide_eq_true hr), lookupFlow_finds hnone hold ▸ State.bindOutcome_run ..⟩
  case notFound => exact fun s r feid ld hr hnone hnew => ⟨_, run_true (decide_eq_true hr), lookupFlow_notBound hnone hnew ▸ State.bindOutcome_run ..⟩
  case completed => exact fun s r x hr h => ⟨_, run_true (decide_eq_true hr), bindCommandComplete_shows h⟩
  case noCommand => exact fun s r hr h => (run_true (decide_eq_true hr)).trans (congrArg _ (bindCommandComplete_of_none h))
  case autoBound =>
    intro s r feid ld c hr hon htemplate hnew hnow hfree hrev
    refine ⟨_, run_true (decide_eq_true hr), ?_⟩
    rw [autoBind_binds hon htemplate hnew hnow hfree hrev]
    obtain ⟨hbound, hfeid, -, -, hauto⟩ := State.bindCtx_shows ((s.stamp (16 + r)).copyCtx (s.get TMP_CFG.TEMPLATE r) c) r c (feid % 2 ^ 17) (ld % 16) true
    have hstamp : Only (partsMask [.field .stamps]) s (s.stamp (16 + r)) := State.stamp_only rfl (Only.refl _ s)
    exact ⟨hbound, hauto, hfeid.trans (Nat.mod_mod ..), (State.bindCopied_rates ..).trans (hstamp.reg_eq .TMP_CTX_08 _)⟩
  case autoRefused => exact fun s r feid ld hr hon htemplate hnew hnow hrev => ⟨_, run_true (decide_eq_true hr), autoBind_refuses hon htemplate hnew hnow hrev⟩
  case autoOff => exact fun s r feid ld hr h => (run_true (decide_eq_true hr)).trans (congrArg _ (autoBind_of_off h))

end Sys2Proof.Machine

namespace Sys2Proof.Machine

-- Proofs are elaborated one after another: each proof thread costs the check 256 MB of stack.
set_option Elab.async false

set_option exponentiation.threshold 500

/-- Settles O55: completion and frame hold of every command, those of the home slices, the remap stage and the duplicated tables among them. -/
theorem coherenceCommandsFramed : Obligations.CoherenceCommandsFramed := by
  unfold Obligations.CoherenceCommandsFramed
  and_intros <;> intros <;> exact exec_framed _

/-! ### Words of HBM and level-2 entries read back (R194) -/

section HbmWords

theorem ofBytes_toBytes (k n : Nat) : ofBytes (toBytes k n) = n % 2 ^ (8 * k) := by
  induction k generalizing n with
  | zero => simp [toBytes, ofBytes, Nat.mod_one]
  | succ k ih =>
    rw [toBytes, ofBytes, ih, BitVec.toNat_ofNat, Nat.mul_succ, Nat.add_comm (8 * k), Nat.pow_add, Nat.mod_mul]

/-- The bytes written at an address are the bytes read there. -/
theorem Memory.readBytes_writeBytes (m : Memory) (a : Nat) (bs : List Byte) : (m.writeBytes a bs).readBytes a bs.length = bs := by
  refine List.ext_getElem (by simp [Memory.readBytes]) fun i _ hi => ?_
  simp [Memory.readBytes, Memory.read_writeBytes_self m a i bs hi]

theorem State.hbm64_setHbm64 (s : State) (a : Nat) (w : Word) : (s.setHbm64 a w).hbm64 a = w := by
  have hread : (s.setHbm64 a w).readHbm a 8 = toBytes 8 w.toNat := by
    have h := Memory.readBytes_writeBytes s.hbm a (toBytes 8 w.toNat)
    rwa [length_toBytes] at h
  rw [State.hbm64, hread, ofBytes_toBytes]
  exact BitVec.eq_of_toNat_eq (by rw [word, BitVec.toNat_ofNat, Nat.mod_mod, Nat.mod_eq_of_lt w.isLt])

/-- A level-2 entry written is the entry read. -/
theorem State.l2Entry_setL2 (s : State) (e : Nat) (w : Word) : (s.setL2 e w).l2Entry e = w := by
  have hhbm : (s.setL2 e w).hbm = (s.setHbm64 (s.l2Addr e) w).hbm := State.each_keeps State.hbm _ fun _ _ => rfl
  have haddr : (s.setL2 e w).l2Addr e = s.l2Addr e := (State.setL2_only (Sub.refl _) (Only.refl _ s)).l2Addr_eq e
  have hword : ∀ a, (s.setL2 e w).hbm64 a = (s.setHbm64 (s.l2Addr e) w).hbm64 a := fun a => by simp only [State.hbm64, State.readHbm, hhbm]
  rw [State.l2Entry, haddr, hword, State.hbm64_setHbm64]

variable {G : Nat} {s t : State}

theorem Only.l2Entry_eq (h : Only G s t) (e : Nat) (hhbm : G.testBit (256 + StateField.ctorIdx .hbm) = false := by decide)
    (hpart : G.testBit (RegKind.ctorIdx .MGT_HBM_PART) = false := by decide) : t.l2Entry e = s.l2Entry e := by
  unfold State.l2Entry State.hbm64 State.readHbm
  rw [h.l2Addr_eq e hpart, h.hbm_eq hhbm]

theorem Only.l2Look_eq (h : Only G s t) (r e : Nat) (hcache : G.testBit (256 + StateField.ctorIdx .l2Cache) = false := by decide)
    (hhbm : G.testBit (256 + StateField.ctorIdx .hbm) = false := by decide) (hpart : G.testBit (RegKind.ctorIdx .MGT_HBM_PART) = false := by decide) :
    t.l2Look r e = s.l2Look r e := by
  have hc : t.l2Cache = s.l2Cache := h.2 (.field .l2Cache) hcache
  unfold State.l2Look
  rw [hc, h.l2Entry_eq e hhbm hpart]

/-- A lookup's entry is the most recently used of its set, which holds no more than eight. -/
theorem l2CacheFill_shows (s : State) (r e : Nat) :
    (Tbl.rd (fun _ => []) (l2CacheFill r e s).l2Cache (l2Set r e)).head? = some (e, s.l2Look r e) ∧
      (Tbl.rd (fun _ => []) (l2CacheFill r e s).l2Cache (l2Set r e)).length ≤ 8 := by
  unfold l2CacheFill State.l2Touch
  extract_lets c hit u c'
  have hcounted : Only tallyParts s u := Only.ite (State.tally_only rfl (Only.refl _ s)) (State.hbmCount_only rfl (State.tally_only rfl (Only.refl _ s)))
  have hset : Tbl.rd (fun _ => []) (Tbl.wr (fun _ => []) u.l2Cache (l2Set r e) c') (l2Set r e) = c' := Tbl.rd_wr_self ..
  rw [hset, ← hcounted.l2Look_eq]
  exact ⟨rfl, List.length_take_le ..⟩

end HbmWords

/-! ### Windows written (R208, R209) -/

section Windows

variable {s : State} {w : Nat} {v : Word}

/-- Storing the copies of an entry leaves every register alone. -/
theorem State.regs_loadEntry (s : State) (r : Nat) (ws : List ((RegKind × Nat) × Word)) : (s.loadEntry r ws).regs = s.regs :=
  List.foldlRecOn (motive := fun t => State.regs t = s.regs) ws _ rfl fun _ h _ _ => h

/-- A window written holds what `f` wrote, but for the word of its write tag. -/
theorem State.reg_writeEntry_window (s : State) (w j : Nat) (f : State → State) {k : RegKind} (h : k ≠ .WIN_W2) :
    (s.writeEntry .window w f).reg k j = (f s).reg k j := by
  unfold State.writeEntry
  extract_lets u v ws
  have hcopies : (v.each ((holders .window w).filter fun r => v.live r) fun r t => t.loadEntry r ws).regs = v.regs :=
    State.each_keeps State.regs _ fun r t => t.regs_loadEntry r ws
  rw [State.reg, hcopies]
  exact u.reg_set_other (F := WIN_W2.WTAG) u.wtag (.inl h)

theorem State.get_writeEntry_window (s : State) (w j : Nat) (f : State → State) {F : Fld} (h : F.reg ≠ .WIN_W2) :
    (s.writeEntry .window w f).get F j = (f s).get F j :=
  congrArg (fun x => x.field F.hi F.lo) (s.reg_writeEntry_window w j f h)

/-- A locked window keeps its words, and event 4 tells of the write. -/
theorem acuWindowWrite_of_locked (hw : w < 4096) (hlock : s.flag WIN_W0.LOCK w = true) : acuWindowWrite w 0 v s = s.notice 4 0 (drsAddr .WIN_W0 w) := by
  simp [acuWindowWrite, Nat.mod_eq_of_lt hw, hlock]

/-- Word 1 of a valid window is not written. -/
theorem acuWindowWrite_of_valid (hw : w < 4096) (hlock : s.flag WIN_W0.LOCK w = false) (hvalid : s.flag WIN_W0.VALID w = true) :
    acuWindowWrite w 1 v s = s.refuseWrite .WIN_W1 w := by
  simp [acuWindowWrite, Nat.mod_eq_of_lt hw, hlock, hvalid]

/-- A window that is not valid takes the target and masters of word 1. -/
theorem acuWindowWrite_filter_shows (hw : w < 4096) (hlock : s.flag WIN_W0.LOCK w = false) (hvalid : s.flag WIN_W0.VALID w = false) :
    (acuWindowWrite w 1 v s).get WIN_W1.TARGET w = v.field 16 0 ∧ (acuWindowWrite w 1 v s).get WIN_W1.MID w = v.field 37 17 ∧
      (acuWindowWrite w 1 v s).get WIN_W1.MID_MASK w = v.field 58 38 := by
  have hwrite : acuWindowWrite w 1 v s = s.writeEntry .window w fun t =>
      ((t.set WIN_W1.TARGET w (v.field 16 0)).set WIN_W1.MID w (v.field 37 17)).set WIN_W1.MID_MASK w (v.field 58 38) := by
    simp [acuWindowWrite, Nat.mod_eq_of_lt hw, hlock, hvalid]
  have hbits := Word.field_lt v
  simp (disch := decide) only [hwrite, State.get_writeEntry_window, State.get_set_bits]
  exact ⟨State.get_set_fits _ w (by decide) (hbits 16 0), State.get_set_fits _ w (by decide) (hbits 37 17), State.get_set_fits _ w (by decide) (hbits 58 38)⟩

/-- A fitting size and base are taken with the rest of word 0. -/
theorem acuWindowWrite_range_shows (hw : w < 4096) (hlock : s.flag WIN_W0.LOCK w = false) (hspace : v.field 1 1 = 1) (hmin : 12 ≤ v.field 11 6)
    (hmax : v.field 11 6 ≤ 52) (hbase : v.field 51 12 * 2 ^ 12 % 2 ^ v.field 11 6 = 0) : (acuWindowWrite w 0 v s).reg .WIN_W0 w = v.setField 63 53 0 := by
  have hwrite : acuWindowWrite w 0 v s = s.writeEntry .window w fun t => t.setReg .WIN_W0 w (v.setField 63 53 0) := by
    unfold acuWindowWrite
    extract_lets w' size pool base
    have hw' : w' = w := Nat.mod_eq_of_lt hw
    rw [if_neg (by decide), hw', hlock, if_neg (by decide), if_neg (by decide), if_neg]
    simpa [size, pool, base, hspace, Nat.not_lt.2 hmin, Nat.not_lt.2 hmax] using hbase
  rw [hwrite, s.reg_writeEntry_window w w _ (by decide), State.reg_setReg_self]

end Windows

/-! ### Level-1 entries written (R198) -/

section Entries

variable {s : State} {i : Nat} {v : Word}

/-- A locked entry is not written. -/
theorem l1EntryWrite_of_locked (hi : i < 65536) (hlock : s.l1Locked i = true) : l1EntryWrite i 0 v s = s.refuseWrite .L1_W0 i := by
  simp [l1EntryWrite, Nat.mod_eq_of_lt hi, hlock]

theorem State.fract_of_unlocked (h : s.l1Locked i = false) : s.get L1_W0.FRACT i = 0 := by
  have hflag : s.flag L1_W0.FRACT i = false := (Bool.or_eq_false_iff.1 h).1
  have hbit : s.get L1_W0.FRACT i < 2 := s.get_lt i L1_W0.FRACT
  have hne : s.get L1_W0.FRACT i ≠ 1 := of_decide_eq_false hflag
  omega

/-- The mapping that a level-1 write gives an entry. -/
def State.writeMapping (s : State) (i : Nat) (v : Word) : State :=
  ((((s.set L1_W0.VALID i (v.field 0 0)).set L1_W0.SHARED i (v.field 1 1)).set L1_W0.TARGET i (v.field 21 5)).set L1_W0.LD i (v.field 25 22)).set
    L1_W0.DEV_EXT i (v.field 47 26)

/-- An entry that nothing uses takes the written mapping, and stays whole. -/
theorem l1EntryWrite_shows (hi : i < 65536) (hlock : s.l1Locked i = false) (hheld : s.flag L1_W0.HELD i = false) :
    (l1EntryWrite i 0 v s).get L1_W0.VALID i = v.field 0 0 ∧ (l1EntryWrite i 0 v s).get L1_W0.TARGET i = v.field 21 5 ∧
      (l1EntryWrite i 0 v s).get L1_W0.LD i = v.field 25 22 ∧ (l1EntryWrite i 0 v s).get L1_W0.DEV_EXT i = v.field 47 26 ∧
      (l1EntryWrite i 0 v s).get L1_W0.FRACT i = 0 := by
  have hwrite : l1EntryWrite i 0 v s = s.writeEntry .l1 i fun t => t.writeMapping i v := by
    simp [l1EntryWrite, Nat.mod_eq_of_lt hi, hlock, hheld, State.writeMapping]
  have hfield : ∀ F : Fld, F.reg = .L1_W0 → (l1EntryWrite i 0 v s).get F i = (s.writeMapping i v).get F i := fun F hF => by
    rw [hwrite, s.get_writeEntry i i _ (.inl (by rw [hF]; decide))]
  rw [hfield L1_W0.VALID rfl, hfield L1_W0.TARGET rfl, hfield L1_W0.LD rfl, hfield L1_W0.DEV_EXT rfl, hfield L1_W0.FRACT rfl]
  have hbits := Word.field_lt v
  unfold State.writeMapping
  refine ⟨?_, ?_, ?_, State.get_set_fits _ i (by decide) (hbits 47 26), ?_⟩
  · simp (disch := decide) only [State.get_set_bits]
    exact State.get_set_fits _ i (by decide) (hbits 0 0)
  · simp (disch := decide) only [State.get_set_bits]
    exact State.get_set_fits _ i (by decide) (hbits 21 5)
  · rw [State.get_set_bits _ _ _ _ (by decide) (by decide)]
    exact State.get_set_fits _ i (by decide) (hbits 25 22)
  · simp (disch := decide) only [State.get_set_bits]
    exact State.fract_of_unlocked hlock

end Entries

/-! ### The commands over level 2 (R200, R201) -/

section Commands

variable {s : State} {i g p : Nat}

/-- The state in which a remap command is performed: its result is no longer valid. -/
def State.remapStart (s : State) : State := s.resultStart RMP_RES.VALID 0

theorem State.remapStart_only (s : State) : Only (partsMask [.reg .RMP_RES]) s s.remapStart := State.set_only rfl (Only.refl _ s)

theorem State.remapStart_valid (s : State) : s.remapStart.get RMP_RES.VALID 0 = 0 := State.get_set_fits _ 0 (by decide) (by decide)

theorem State.remapStart_flag (s : State) (F : Fld) (i : Nat) (hF : F.reg ≠ .RMP_RES) : s.remapStart.flag F i = s.flag F i := by
  rw [State.flag, State.remapStart, s.get_resultStart_rmp F i hF, State.flag]

theorem State.remapStart_extentEntries (s : State) (i : Nat) : s.remapStart.extentEntries i = s.extentEntries i := by
  unfold State.extentEntries
  simp only [s.remapStart_only.get_eq L1_W0.L2PTR i, s.remapStart_only.l2Entry_eq]

theorem State.remapStart_extentBusy (s : State) (i : Nat) : s.remapStart.extentBusy i = s.extentBusy i := by
  have hwait : s.remapStart.migWait = s.migWait := s.remapStart_only.2 (.field .migWait) (by decide)
  rw [State.extentBusy, hwait, s.remapStart_flag L1_W0.FRACT i (by decide), s.remapStart_extentEntries, State.extentBusy]

theorem State.remapStart_fractureStatus (s : State) (i : Nat) : s.remapStart.fractureStatus i = s.fractureStatus i := by
  have htable : s.remapStart.l2FreeTable = s.l2FreeTable := s.l2FreeTable_resultStart_rmp
  unfold State.fractureStatus
  rw [htable, s.remapStart_extentBusy, s.remapStart_flag L1_W0.VALID i (by decide), s.remapStart_flag L1_W0.FRACT i (by decide)]

theorem State.remapStart_unfractureStatus (s : State) (i : Nat) : s.remapStart.unfractureStatus i = s.unfractureStatus i := by
  unfold State.unfractureStatus
  rw [s.remapStart_extentBusy, s.remapStart_extentEntries, s.remapStart_flag L1_W0.VALID i (by decide), s.remapStart_flag L1_W0.FRACT i (by decide)]

/-- The outcome of the running remap command recorded. -/
def State.remapOutcome (s : State) (x : RmpRun) : State := { s with rmpRun := some x }

theorem State.remapOutcome_only (s : State) (x : RmpRun) : Only (partsMask [.field .rmpRun]) s (s.remapOutcome x) := Only.set_rmpRun rfl (Only.refl _ s)

@[simp] theorem State.remapOutcome_run (s : State) (x : RmpRun) : (s.remapOutcome x).rmpRun = some x := (rfl)

theorem State.remapCommand_refused {f : State → State × RmpRun} (h : s.rmpRun.isSome = true) : s.remapCommand f = s.refuseWrite .RMP_CMD 0 := by
  rw [State.remapCommand, if_pos h]

theorem State.remapCommand_runs {f : State → State × RmpRun} {t : State} {x : RmpRun} (h : s.rmpRun = none) (hf : f s.remapStart = (t, x)) :
    s.remapCommand f = t.remapOutcome x := by
  unfold State.remapCommand
  rw [if_neg (by simp [h]), show f (s.resultStart RMP_RES.VALID 0) = (t, x) from hf]
  rfl

/-- A table taken or given back shows in RMP_STAT alone. -/
theorem State.get_countFract (s : State) (taken : Bool) {F : Fld} (j : Nat) (hF : F.reg = .L1_W0) : (s.countFract taken).get F j = s.get F j :=
  (State.countFract_only (G := partsMask [.reg .RMP_STAT]) rfl (Only.refl _ s)).get_eq F j (by rw [hF]; decide)

/-- An extent fractured shows the lowest free table. -/
theorem State.fractureExtent_shows (htable : s.l2FreeTable = some p) (hp : p < 65536) :
    (s.fractureExtent i).get L1_W0.FRACT i = 1 ∧ (s.fractureExtent i).get L1_W0.L2PTR i = p := by
  unfold State.fractureExtent
  rw [htable]
  dsimp -zeta only
  extract_lets t ld d u u'
  have hset : ∀ F : Fld, F.reg = .L1_W0 → (u'.countFract true).get F i = ((u.set L1_W0.FRACT i 1).set L1_W0.L2PTR i p).get F i := fun F hF => by
    rw [u'.get_countFract true i hF, u.get_writeEntry i i _ (.inl (by rw [hF]; decide))]
  rw [hset L1_W0.FRACT rfl, hset L1_W0.L2PTR rfl, State.get_set_bits _ _ _ _ (by decide) (by decide)]
  exact ⟨State.get_set_fits _ i (by decide) (by decide), State.get_set_fits _ i (by decide) hp⟩

/-- FRACTURE of an extent that may be fractured takes the lowest free table, and runs with status OK. -/
theorem fracture_shows (hi : i < 65536) (hnone : s.rmpRun = none) (hok : s.fractureStatus i = 0) (htable : s.l2FreeTable = some p) (hp : p < 65536) :
    (fracture i s).get L1_W0.FRACT i = 1 ∧ (fracture i s).get L1_W0.L2PTR i = p ∧ (fracture i s).rmpRun = some ⟨i, 0, p, none⟩ ∧
      (fracture i s).get RMP_RES.VALID 0 = 0 := by
  have htable' : s.remapStart.l2FreeTable = some p := s.l2FreeTable_resultStart_rmp.trans htable
  have hruns : fracture i s = (s.remapStart.fractureExtent i).remapOutcome ⟨i, 0, p, none⟩ := by
    unfold fracture
    extract_lets j
    refine State.remapCommand_runs hnone ?_
    simp [j, Nat.mod_eq_of_lt hi, s.remapStart_fractureStatus, hok, htable']
  obtain ⟨hfract, hptr⟩ := State.fractureExtent_shows (i := i) htable' hp
  have hkept : Only 0x2b000000000020000000000000000000000000000000000000000002004c000000000200000000 s.remapStart (s.remapStart.fractureExtent i) :=
    State.fractureExtent_only rfl (Only.refl _ _)
  have hshown := State.remapOutcome_only (s.remapStart.fractureExtent i) ⟨i, 0, p, none⟩
  rw [hruns, hshown.get_eq L1_W0.FRACT, hshown.get_eq L1_W0.L2PTR, hshown.get_eq RMP_RES.VALID, hkept.get_eq RMP_RES.VALID]
  exact ⟨hfract, hptr, State.remapOutcome_run .., s.remapStart_valid⟩

theorem fracture_refused (h : s.rmpRun.isSome = true) : fracture i s = s.refuseWrite .RMP_CMD 0 := by
  unfold fracture
  exact State.remapCommand_refused h

/-- An extent's own mapping from the first entry of its table, in whose place it stands (R200). -/
def State.takeMapping (s : State) (i : Nat) (w : Word) : State :=
  ((((s.set L1_W0.TARGET i (l2Target w)).set L1_W0.LD i (l2Ld w)).set L1_W0.DEV_EXT i (l2Gran w / 512)).set L1_W0.FRACT i 0).set L1_W0.L2PTR i 0

/-- An extent made whole again has the mapping of its first entry. -/
theorem State.unfractureExtent_shows (s : State) (i : Nat) :
    (s.unfractureExtent i).get L1_W0.FRACT i = 0 ∧ (s.unfractureExtent i).get L1_W0.TARGET i = l2Target (s.l2Entry (s.get L1_W0.L2PTR i * 512)) := by
  unfold State.unfractureExtent
  extract_lets w u
  have hset : ∀ F : Fld, F.reg = .L1_W0 → (u.countFract false).get F i = (s.takeMapping i w).get F i := fun F hF => by
    rw [u.get_countFract false i hF]
    exact s.get_writeEntry i i (State.takeMapping · i w) (.inl (by rw [hF]; decide))
  rw [hset L1_W0.FRACT rfl, hset L1_W0.TARGET rfl]
  simp (disch := decide) only [State.takeMapping, State.get_set_bits]
  exact ⟨State.get_set_fits _ i (by decide) (by decide), State.get_set_fits _ i (by decide) (Word.field_lt w 20 4)⟩

/-- UNFRACTURE of an extent whose entries are contiguous gives it their mapping, and runs with status OK. -/
theorem unfracture_shows (hi : i < 65536) (hnone : s.rmpRun = none) (hok : s.unfractureStatus i = 0) :
    (unfracture i s).get L1_W0.FRACT i = 0 ∧ (unfracture i s).get L1_W0.TARGET i = l2Target (s.l2Entry (s.get L1_W0.L2PTR i * 512)) ∧
      (unfracture i s).rmpRun = some ⟨i, 0, s.get L1_W0.L2PTR i, none⟩ := by
  have hptr := s.remapStart_only.get_eq L1_W0.L2PTR i
  have hruns : unfracture i s = (s.remapStart.unfractureExtent i).remapOutcome ⟨i, 0, s.get L1_W0.L2PTR i, none⟩ := by
    unfold unfracture
    extract_lets j
    refine State.remapCommand_runs hnone ?_
    simp [j, Nat.mod_eq_of_lt hi, s.remapStart_unfractureStatus, hok, hptr]
  obtain ⟨hfract, htarget⟩ := s.remapStart.unfractureExtent_shows i
  rw [hptr, s.remapStart_only.l2Entry_eq] at htarget
  have hshown := State.remapOutcome_only (s.remapStart.unfractureExtent i) ⟨i, 0, s.get L1_W0.L2PTR i, none⟩
  rw [hruns, hshown.get_eq L1_W0.FRACT, hshown.get_eq L1_W0.TARGET]
  exact ⟨hfract, htarget, State.remapOutcome_run ..⟩

/-- WRITE_L2 stores RMP_CMD_DATA in the entry it names. -/
theorem writeL2_shows (hi : i < 65536) (hg : g < 512) (hnone : s.rmpRun = none) (hvalid : s.flag L1_W0.VALID i = true) (hfract : s.flag L1_W0.FRACT i = true)
    (hidle : s.extentBusy i = false) (hlow : (s.reg .RMP_CMD_DATA 0).field 3 1 = 0) (hhigh : (s.reg .RMP_CMD_DATA 0).field 63 56 = 0) :
    (writeL2 i g s).l2Entry (s.get L1_W0.L2PTR i * 512 + g) = s.reg .RMP_CMD_DATA 0 ∧
      (writeL2 i g s).rmpRun = some ⟨i, 0, s.get L1_W0.L2PTR i, none⟩ := by
  have hstart := s.remapStart_only
  have hruns : writeL2 i g s = (s.remapStart.setL2 (s.get L1_W0.L2PTR i * 512 + g) (s.reg .RMP_CMD_DATA 0)).remapOutcome ⟨i, 0, s.get L1_W0.L2PTR i, none⟩ := by
    unfold writeL2
    extract_lets j
    refine State.remapCommand_runs hnone ?_
    simp [j, Nat.mod_eq_of_lt hi, Nat.mod_eq_of_lt hg, State.remapStart_flag, hstart.get_eq L1_W0.L2PTR, hstart.reg_eq .RMP_CMD_DATA, hvalid, hfract,
      s.remapStart_extentBusy, hidle, hlow, hhigh]
  rw [hruns, (State.remapOutcome_only ..).l2Entry_eq, State.l2Entry_setL2]
  exact ⟨rfl, State.remapOutcome_run ..⟩

/-- READ_L2 runs with the entry it names. -/
theorem readL2_shows (hi : i < 65536) (hg : g < 512) (hnone : s.rmpRun = none) (hvalid : s.flag L1_W0.VALID i = true) (hfract : s.flag L1_W0.FRACT i = true) :
    (readL2 i g s).rmpRun = some ⟨i, 0, s.get L1_W0.L2PTR i, some (s.l2Entry (s.get L1_W0.L2PTR i * 512 + g)).toNat⟩ := by
  have hstart := s.remapStart_only
  have hruns : readL2 i g s = s.remapStart.remapOutcome ⟨i, 0, s.get L1_W0.L2PTR i, some (s.l2Entry (s.get L1_W0.L2PTR i * 512 + g)).toNat⟩ := by
    unfold readL2
    extract_lets j
    refine State.remapCommand_runs hnone ?_
    simp [j, Nat.mod_eq_of_lt hi, Nat.mod_eq_of_lt hg, State.remapStart_flag, hstart.get_eq L1_W0.L2PTR, hstart.l2Entry_eq, hvalid, hfract]
  rw [hruns, State.remapOutcome_run]

/-- The result registers show the outcome of the command that completes. -/
theorem remapCommandComplete_shows {x : RmpRun} (h : s.rmpRun = some x) :
    (remapCommandComplete s).rmpRun = none ∧ (remapCommandComplete s).get RMP_RES.STATUS 0 = x.status % 16 ∧
      (remapCommandComplete s).get RMP_RES.L2PTR 0 = x.l2ptr % 65536 ∧ (remapCommandComplete s).get RMP_RES.SEQ 0 = (s.get RMP_RES.SEQ 0 + 1) % 256 ∧
      (remapCommandComplete s).get RMP_RES.VALID 0 = 1 ∧ ∀ d ∈ x.data, (remapCommandComplete s).get RMP_RES_DATA.ENTRY 0 = d % 2 ^ 64 := by
  unfold remapCommandComplete
  rw [h]
  dsimp -zeta only
  extract_lets u1 u2 u3 u4
  have hdata : Only (partsMask [.reg .RMP_RES_DATA]) u2 u3 := by
    simp only [u3]
    split
    · exact State.set_only rfl (Only.refl _ u2)
    · exact Only.refl _ u2
  have hres : ∀ F : Fld, F.reg = .RMP_RES → u3.get F 0 = u2.get F 0 := fun F hF => hdata.get_eq F 0 (by rw [hF]; decide)
  have hstatus : u4.get RMP_RES.STATUS 0 = x.status % 16 := by
    simp (disch := decide) only [u4, State.resultDone, State.bump, State.get_set_bits, hres]
    simp (disch := decide) only [u2, u1, State.get_set_bits, State.get_set_self]
    rfl
  have hptr : u4.get RMP_RES.L2PTR 0 = x.l2ptr % 65536 := by
    simp (disch := decide) only [u4, State.resultDone, State.bump, State.get_set_bits, hres]
    simp (disch := decide) only [u2, State.get_set_self]
    rfl
  have hseq : u4.get RMP_RES.SEQ 0 = (s.get RMP_RES.SEQ 0 + 1) % 256 := by
    simp (disch := decide) only [u4, State.resultDone, State.bump, State.get_set_bits, State.get_set_self, hres]
    simp (disch := decide) only [u2, u1, State.get_set_bits]
    rfl
  have hvalid : u4.get RMP_RES.VALID 0 = 1 := State.get_set_fits _ 0 (by decide) (by decide)
  have hentry : ∀ d ∈ x.data, u4.get RMP_RES_DATA.ENTRY 0 = d % 2 ^ 64 := fun d hd => by
    have hstored : u3 = u2.set RMP_RES_DATA.ENTRY 0 d := by simp only [u3, Option.mem_def.1 hd]
    simp (disch := decide) only [u4, State.resultDone, State.bump, State.get_set_kind, hstored, State.get_set_self]
    rfl
  clear_value u4
  have hdone : Only (partsMask [.field .rmpRun]) u4 { u4 with rmpRun := none } := Only.set_rmpRun rfl (Only.refl _ u4)
  rw [hdone.get_eq RMP_RES.STATUS, hdone.get_eq RMP_RES.L2PTR, hdone.get_eq RMP_RES.SEQ, hdone.get_eq RMP_RES.VALID, hdone.get_eq RMP_RES_DATA.ENTRY]
  exact ⟨rfl, hstatus, hptr, hseq, hvalid, hentry⟩

theorem remapCommandComplete_of_none (h : s.rmpRun = none) : remapCommandComplete s = s := by
  simp [remapCommandComplete, h]

end Commands

end Sys2Proof.Machine

namespace Sys2Proof.Machine

-- Proofs are elaborated one after another: each proof thread costs the check 256 MB of stack.
set_option Elab.async false

set_option exponentiation.threshold 500

/-! ### What decode reads (R65, R192, R193) -/

section Decode

variable {s t : State}

/-- A count event leaves the listed registers of every other kind as they were. -/
theorem State.listed_tally (s : State) (ev r u chipU n : Nat) {k : RegKind} (h : RegKind.CNT_VAL ≠ k) : (s.tally ev r u chipU n).listed k = s.listed k :=
  State.each_keeps (State.listed · k) _ fun i w => by
    unfold State.cntAdd
    extract_lets v w'
    have hcount : w'.listed k = w.listed k := w.listed_set i _ h
    split_ifs
    · exact (w'.listed_set (F := CNT_VAL.SAT) i 1 h).trans hcount
    · exact hcount

/-- What a request changes as it leaves the decode queue: the queue, and the counters that select the event. -/
abbrev takenParts : Nat := partsMask [.reg .CNT_VAL, .field .decodeQ]

/-- A request leaves the decode queue and is counted (R191, R415). -/
def State.takeReq (s : State) (q : MemReq) : State := { s with decodeQ := s.decodeQ.erase q }.tally 0x180 (sourceRegion q.src % 4) 0 0

theorem State.takeReq_only (s : State) (q : MemReq) : Only takenParts s (s.takeReq q) := State.tally_only rfl (Only.set_decodeQ rfl (Only.refl _ s))

theorem State.takeReq_decodeQ (s : State) (q : MemReq) : (s.takeReq q).decodeQ = s.decodeQ.erase q :=
  (State.tally_only (Sub.refl _) (Only.refl _ { s with decodeQ := s.decodeQ.erase q })).2 (.field .decodeQ) (by decide)

theorem State.takeReq_listed (s : State) (q : MemReq) : (s.takeReq q).listed .VPPB_ENTRY = s.listed .VPPB_ENTRY := State.listed_tally _ _ _ _ _ _ (by decide)

theorem Only.decoder_eq (h : Only takenParts s t) : t.decoder = s.decoder := by
  have hdec : t.decoders = s.decoders := h.2 (.field .decoders) (by decide)
  funext vcs k
  rw [State.decoder, hdec, State.decoder]

theorem Only.vcsOf_eq (h : Only takenParts s t) (p : Nat) : t.vcsOf p = s.vcsOf p := by
  unfold State.vcsOf State.flag
  simp only [h.get_eq VCS_ENTRY.ACTIVE _, h.get_eq VCS_ENTRY.USP_PORT _]

theorem Only.localFeid_eq (h : Only takenParts s t) (e : Nat) : t.localFeid e = s.localFeid e := by
  unfold State.localFeid
  rw [h.get_eq MGT_CHIP_INFO.CHIP_ID]

theorem Only.agentAdmitted_eq (h : Only takenParts s t) (vcs : Nat) : t.agentAdmitted vcs = s.agentAdmitted vcs := by
  unfold State.agentAdmitted State.flag
  simp only [h.get_eq VCS_ENTRY.CAID _, h.get_eq VCS_ENTRY.BI_EN _, h.get_eq HRT_AGENT.VALID _, h.get_eq HRT_AGENT.REMOVING _, h.get_eq HRT_AGENT.PORT_FEID _,
    h.get_eq VCS_ENTRY.USP_PORT _, h.localFeid_eq]

theorem Only.vppbAt_eq (h : Only takenParts s t) (vcs : Nat) : t.vppbAt vcs = s.vppbAt vcs := by
  funext dev
  unfold State.vppbAt State.flag
  simp only [h.get_eq VCS_ENTRY.DSP_CNT _, h.get_eq VCS_ENTRY.FIRST_VPPB _, h.get_eq VPPB_ENTRY.USP _, h.get_eq VPPB_ENTRY.DEVNUM _]

theorem Only.decodeVppb_eq (h : Only takenParts s t) (vcs v a : Nat) : t.decodeVppb vcs v a = s.decodeVppb vcs v a := by
  have hpool : t.decodePool vcs a = s.decodePool vcs a := by
    unfold State.decodePool State.dpaBase
    simp only [h.decoder_eq, h.get_eq RMP_POOL.SIZE_GIB _, h.get_eq RMP_POOL.BASE_GIB _, h.agentAdmitted_eq]
  unfold State.decodeVppb
  rw [hpool, h.get_eq VPPB_ENTRY.STATE, h.get_eq VPPB_ENTRY.TARGET, h.get_eq VPPB_ENTRY.LD_ID]

/-- A request's VCS is read off the ports' roles, the VCSs and the vPPBs. -/
theorem Only.vcsFor_eq (h : Only takenParts s t) (hl : t.listed .VPPB_ENTRY = s.listed .VPPB_ENTRY) (x : ReqSource) : t.vcsFor x = s.vcsFor x := by
  unfold State.vcsFor
  simp only [h.role_eq, h.vcsOf_eq, State.boundTo_eq h hl, h.get_eq VPPB_ENTRY.STATE _, h.get_eq VPPB_ENTRY.LD_ID _, h.get_eq VPPB_ENTRY.VCS _]

/-- Taking a request from the queue does not change what decode names for it. -/
theorem State.takeReq_decode (s : State) (q : MemReq) : (s.takeReq q).decode q = s.decode q := by
  have h := s.takeReq_only q
  unfold State.decode
  simp only [h.vcsOf_eq, h.decoder_eq, h.vppbAt_eq, h.decodeVppb_eq, h.vcsFor_eq (s.takeReq_listed q), h.get_eq VPPB_ENTRY.VCS _, h.get_eq VCS_ENTRY.USP_PORT _,
    h.localFeid_eq]

theorem Only.master_eq (h : Only takenParts s t) (x : ReqSource) : t.master x = s.master x := by
  unfold State.master
  simp only [h.role_eq, h.localFeid_eq]

end Decode

/-! ### Failures recorded and answered (R206, R207) -/

section Failures

variable {s : State} {q : MemReq} {r : Nat}

/-- The end of a session's memory request only adds to what has left the device. -/
theorem State.memDone_out {t : State} (h : t.out = s.out) (m : MemRun) : s.out <+: (t.memDone m).out := by
  rw [← h]
  unfold State.memDone
  extract_lets u data type
  split
  · split
    · exact List.prefix_append ..
    · exact List.prefix_append ..
  · exact List.prefix_rfl

theorem State.memPart_out (s : State) (n tag k : Nat) (l : List Byte) (denied : Bool) : s.out <+: (s.memPart n tag k l denied).out := by
  unfold State.memPart
  split
  · exact List.prefix_rfl
  · refine State.memDone_out ?_ _
    rfl

theorem State.memDenied_out (s : State) (q : MemReq) (l : Option (List Nat)) : s.out <+: (s.memDenied q l).out := by
  unfold State.memDenied
  split
  · split
    · exact List.prefix_rfl
    · exact s.out_prefix_foldl _ (fun _ _ => State.memPart_out ..) _
  · exact List.prefix_rfl

/-- The answer to a request that fails leaves the device. -/
theorem State.deny_out (s : State) (q : MemReq) (a : ReqAnswer) (l : Option (List Nat)) (slag : Nat) : Out.denied q a ∈ (s.deny q a l slag).out := by
  unfold State.deny
  extract_lets u
  have hu : Out.denied q a ∈ u.out := ((s.emit (.denied q a)).memDenied_out q l).subset (by simp)
  split
  · exact hu
  · exact hu

/-- The first failure is recorded with its cause. -/
theorem State.acuRecord_shows {cause addr space target : Nat} {write : Bool} {m : Nat × Nat} (hfree : s.flag ACU_ERR_INFO.PEND r = false) (hcause : cause < 8) :
    (s.acuRecord r cause addr space write m target).get ACU_ERR_INFO.PEND r = 1 ∧
      (s.acuRecord r cause addr space write m target).get ACU_ERR_INFO.CAUSE r = cause := by
  unfold State.acuRecord
  extract_lets u1 u2 u3 u4 u5 u6 u7 u8
  have hnotice : Only eventParts u8 (u8.notice (32 + 32 * r + 14) 1 cause) := State.notice_only rfl (Only.refl _ u8)
  rw [hfree, if_neg Bool.false_ne_true, hnotice.get_eq ACU_ERR_INFO.PEND, hnotice.get_eq ACU_ERR_INFO.CAUSE]
  refine ⟨State.get_set_fits _ r (by decide) (by decide), ?_⟩
  simp (disch := decide) only [u8, u7, u6, u5, u4, State.get_set_bits]
  exact State.get_set_fits _ r (by decide) hcause

theorem requestResolve_of_miss (hmiss : s.decode q = .miss) : requestResolve q s =
    State.deny ((((s.takeReq q).acuRecord (sourceRegion q.src % 4) 1 (reqAddress q) 0 (q.write || q.atomic) ((s.takeReq q).master q.src) 0).count
      ACU_CNT.DECODE_MISS (sourceRegion q.src % 4)).tally 0x183 (sourceRegion q.src % 4) 0 0) q (wholeAnswer q) := by
  have h : (s.takeReq q).decode q = .miss := (s.takeReq_decode q).trans hmiss
  unfold requestResolve
  extract_lets r u
  rw [show u.decode q = .miss from h]
  rfl

/-- A request that no decoder takes is recorded, counted and denied. -/
theorem requestResolve_miss_shows (hmiss : s.decode q = .miss) (hfree : s.flag ACU_ERR_INFO.PEND (sourceRegion q.src % 4) = false) :
    (requestResolve q s).get ACU_ERR_INFO.PEND (sourceRegion q.src % 4) = 1 ∧ (requestResolve q s).get ACU_ERR_INFO.CAUSE (sourceRegion q.src % 4) = 1 ∧
      (requestResolve q s).get ACU_CNT.DECODE_MISS (sourceRegion q.src % 4) = satAdd 16 (s.get ACU_CNT.DECODE_MISS (sourceRegion q.src % 4)) 1 ∧
      Out.denied q (wholeAnswer q) ∈ (requestResolve q s).out := by
  have htaken := s.takeReq_only q
  rw [requestResolve_of_miss hmiss]
  generalize sourceRegion q.src % 4 = r at hfree ⊢
  generalize hu : (s.takeReq q).acuRecord r 1 (reqAddress q) 0 (q.write || q.atomic) ((s.takeReq q).master q.src) 0 = u
  have hfree' : (s.takeReq q).flag ACU_ERR_INFO.PEND r = false := by
    rw [State.flag, htaken.get_eq ACU_ERR_INFO.PEND]
    exact hfree
  obtain ⟨hpend, hcause⟩ : u.get ACU_ERR_INFO.PEND r = 1 ∧ u.get ACU_ERR_INFO.CAUSE r = 1 := hu ▸ State.acuRecord_shows hfree' (by decide)
  have hmisses : u.get ACU_CNT.DECODE_MISS r = s.get ACU_CNT.DECODE_MISS r :=
    ((hu ▸ State.acuRecord_only (Sub.refl _) (Only.refl _ (s.takeReq q)) : Only _ (s.takeReq q) u).get_eq ACU_CNT.DECODE_MISS r).trans
      (htaken.get_eq ACU_CNT.DECODE_MISS r)
  have hcount : Only (partsMask [.reg .ACU_CNT]) u (u.count ACU_CNT.DECODE_MISS r) := State.count_only rfl (Only.refl _ u)
  set v := u.count ACU_CNT.DECODE_MISS r with hv
  have hdenied : Only (partsMask [.reg .CNT_VAL, .field .freeCtr, .field .out, .field .denials, .field .sess, .field .memRuns]) v
      ((v.tally 0x183 r 0 0).deny q (wholeAnswer q)) := State.deny_only rfl (State.tally_only rfl (Only.refl _ v))
  rw [hdenied.get_eq ACU_ERR_INFO.PEND, hdenied.get_eq ACU_ERR_INFO.CAUSE, hdenied.get_eq ACU_CNT.DECODE_MISS, hcount.get_eq ACU_ERR_INFO.PEND,
    hcount.get_eq ACU_ERR_INFO.CAUSE, hv, State.get_count _ _ _ (by decide), hmisses]
  exact ⟨hpend, hcause, rfl, State.deny_out ..⟩

end Failures

/-! ### A part that goes on (R194, R204, R205) -/

section Passing

variable {s t : State} {q : MemReq} {r w : Nat} {d : DupTable} {i : Nat}

/-- A copy all of whose words are sound is not corrected. -/
theorem State.copyCond_of_sound {copy : Nat} (h : ∀ x ∈ entryWords d i, s.repCond r copy x.1 x.2 = 0) : s.copyCond r copy d i = 0 := by
  refine List.foldlRecOn (motive := (· = 0)) _ _ rfl fun b hb a ha => ?_
  obtain ⟨x, hx, rfl⟩ := List.mem_map.1 ha
  rw [hb, h x hx, Nat.max_self]

/-- Sound and equal copies need no repair. -/
theorem State.repair_of_equal (h : ∀ x ∈ entryWords d i, s.repCond r 0 x.1 x.2 = 0 ∧ s.repCond r 1 x.1 x.2 = 0 ∧ s.repWord r 1 x.1 x.2 = s.repWord r 0 x.1 x.2) :
    s.repair r d i = s := by
  have hA : s.copyCond r 0 d i = 0 := State.copyCond_of_sound fun x hx => (h x hx).1
  have hB : s.copyCond r 1 d i = 0 := State.copyCond_of_sound fun x hx => (h x hx).2.1
  have hwords : s.copyWords r 0 d i = s.copyWords r 1 d i := List.map_congr_left fun x hx => by rw [(h x hx).2.2]
  simp [State.repair, State.correctCopy, hA, hB, hwords]

theorem Only.repWord_eq (h : Only takenParts s t) : t.repWord = s.repWord := by
  have hrep : t.rep = s.rep := h.2 (.field .rep) (by decide)
  funext r copy k i
  rw [State.repWord, hrep, State.repWord]

theorem Only.repCond_eq (h : Only takenParts s t) : t.repCond = s.repCond := by
  have hecc : t.repEcc = s.repEcc := h.2 (.field .repEcc) (by decide)
  funext r copy k i
  rw [State.repCond, hecc, State.repCond]

theorem Only.listedWindows_eq (h : Only takenParts s t) (r : Nat) : t.listedWindows r = s.listedWindows r := by
  have hrep : t.rep = s.rep := h.2 (.field .rep) (by decide)
  have hecc : t.repEcc = s.repEcc := h.2 (.field .repEcc) (by decide)
  rw [State.listedWindows, hrep, hecc, State.listedWindows]

theorem Only.windowAdmits_eq (h : Only takenParts s t) (r win space target addr len mtype mid : Nat) (rd wr : Bool) :
    t.windowAdmits r win space target addr len mtype mid rd wr = s.windowAdmits r win space target addr len mtype mid rd wr := by
  unfold State.windowAdmits State.lookup
  rw [h.repWord_eq]

/-- A part towards a device is not counted for hotness and marks nothing: it goes to the policer. -/
theorem State.forward_of_device {p : Part} (hp : p.poa = none) (l : Option Word) : s.forward r p l = { s with resolved := s.resolved ++ [(r, p)] } := by
  have hcold : s.counted p = false := by simp [State.counted, hp]
  simp [State.forward, State.sendPart, hp, hcold]

/-- One part towards a device that the only window of the region admits goes on. -/
theorem State.resolveParts_device {a tg ld n : Nat} (hparts : splitParts a q.len = [(0, n)]) (hlisted : s.listedWindows r = [w]) (hsame : s.repair r .window w = s)
    (hadmits : s.windowAdmits r w 1 tg a n (s.master q.src).1 (s.master q.src).2 (!q.write || q.atomic) (q.write || q.atomic) = true) :
    s.resolveParts r q a false none tg ld = { s with resolved := s.resolved ++ [(r, ⟨q, 0, 0, n, none, tg, ld, a, false⟩)] } := by
  have hpass : s.acuPasses r 1 tg a n (s.master q.src) (!q.write || q.atomic) (q.write || q.atomic) = true := by
    rw [State.acuPasses, hlisted, List.any_cons, hadmits, Bool.true_or]
  simp [State.resolveParts, hparts, hlisted, hsame, hpass, State.forward_of_device]

/-- A request of one part towards a device goes on with its translation. -/
theorem requestResolve_device_shows {a tg ld n : Nat} (hdecode : s.decode q = .device tg ld a) (hparts : splitParts a q.len = [(0, n)])
    (hlisted : s.listedWindows (sourceRegion q.src % 4) = [w])
    (hsound : ∀ x ∈ entryWords .window w, s.repCond (sourceRegion q.src % 4) 0 x.1 x.2 = 0 ∧ s.repCond (sourceRegion q.src % 4) 1 x.1 x.2 = 0 ∧
      s.repWord (sourceRegion q.src % 4) 1 x.1 x.2 = s.repWord (sourceRegion q.src % 4) 0 x.1 x.2)
    (hadmits : s.windowAdmits (sourceRegion q.src % 4) w 1 tg a n (s.master q.src).1 (s.master q.src).2 (!q.write || q.atomic) (q.write || q.atomic) = true) :
    (requestResolve q s).resolved = s.resolved ++ [(sourceRegion q.src % 4, ⟨q, 0, 0, n, none, tg, ld, a, false⟩)] ∧
      (requestResolve q s).decodeQ = s.decodeQ.erase q := by
  have h := s.takeReq_only q
  have hresolved : (s.takeReq q).resolved = s.resolved := h.2 (.field .resolved) (by decide)
  have hgoes : requestResolve q s = { s.takeReq q with
      resolved := (s.takeReq q).resolved ++ [(sourceRegion q.src % 4, ⟨q, 0, 0, n, none, tg, ld, a, false⟩)] } := by
    unfold requestResolve
    extract_lets r u
    rw [show u.decode q = .device tg ld a from (s.takeReq_decode q).trans hdecode]
    refine State.resolveParts_device (w := w) hparts ((h.listedWindows_eq r).trans hlisted) ?_ ?_
    · refine State.repair_of_equal ?_
      rw [show u.repCond = s.repCond from h.repCond_eq, show u.repWord = s.repWord from h.repWord_eq]
      exact hsound
    · rw [show u.master q.src = s.master q.src from h.master_eq q.src]
      exact (h.windowAdmits_eq ..).trans hadmits
  rw [hgoes]
  exact ⟨congrArg (· ++ _) hresolved, s.takeReq_decodeQ q⟩

end Passing

/-- Settles O21: each remap command and window write by what its word or entry then reads, a lookup by the set it touches, and a request by what decode names
for it once it has left the decode queue. -/
theorem remapAndResolve : Obligations.RemapAndResolve := by
  unfold Obligations.RemapAndResolve
  refine ⟨?clear, ?fill, ?locked, ?filter, ?valid, ?range, ?entry, ?lockedEntry, ?fracture, ?running, ?unfracture, ?write, ?read, ?complete, ?noCommand, ?miss, ?device⟩
  case clear => exact fun s r hr => ⟨_, run_true (decide_eq_true hr), State.get_set_fits s r (by decide) (by decide)⟩
  case fill => exact fun s r e hr => ⟨_, run_true (decide_eq_true hr), l2CacheFill_shows s r e⟩
  case locked => exact fun s w v hw hlock => congrArg Host.Outcome.next (acuWindowWrite_of_locked hw hlock)
  case filter => exact fun s w v hw hlock hvalid => ⟨_, rfl, acuWindowWrite_filter_shows hw hlock hvalid⟩
  case valid => exact fun s w v hw hlock hvalid => congrArg Host.Outcome.next (acuWindowWrite_of_valid hw hlock hvalid)
  case range => exact fun s w v hw hlock hspace hmin hmax hbase => ⟨_, rfl, acuWindowWrite_range_shows hw hlock hspace hmin hmax hbase⟩
  case entry => exact fun s i v hi hlock hheld => ⟨_, rfl, l1EntryWrite_shows hi hlock hheld⟩
  case lockedEntry => exact fun s i v hi hlock => congrArg Host.Outcome.next (l1EntryWrite_of_locked hi hlock)
  case fracture => exact fun s i p hi hnone hok htable hp => ⟨_, rfl, fracture_shows hi hnone hok htable hp⟩
  case running => exact fun s i hi h => congrArg Host.Outcome.next (fracture_refused h)
  case unfracture => exact fun s i hi hnone hok => ⟨_, rfl, unfracture_shows hi hnone hok⟩
  case write => exact fun s i g hi hg hnone hvalid hfract hidle hlow hhigh => ⟨_, rfl, writeL2_shows hi hg hnone hvalid hfract hidle hlow hhigh⟩
  case read => exact fun s i g hi hg hnone hvalid hfract => ⟨_, rfl, readL2_shows hi hg hnone hvalid hfract⟩
  case complete =>
    intro s x h hstatus hptr
    have hshown := remapCommandComplete_shows h
    rw [Nat.mod_eq_of_lt hstatus, Nat.mod_eq_of_lt hptr] at hshown
    exact ⟨_, rfl, hshown⟩
  case noCommand => exact fun s h => congrArg Host.Outcome.next (remapCommandComplete_of_none h)
  case miss => exact fun s q hmiss hfree => ⟨_, rfl, requestResolve_miss_shows hmiss hfree⟩
  case device => exact fun s q tg ld a n w hdecode hparts hlisted hsound hadmits => ⟨_, rfl, requestResolve_device_shows hdecode hparts hlisted hsound hadmits⟩

end Sys2Proof.Machine

namespace Sys2Proof.Machine

/-! ### The removal of an agent whose port is already lost (R228, R233) -/

/-- The lines whose transactions wait for an agent to answer a snoop. -/
def State.linesAwaiting (s : State) (c : Nat) : List Nat :=
  (s.txns.filter fun t => t.snoops.any fun x => x.agent = c && (match x.stage with
    | .done _ => false
    | _ => true)).map fun t => t.req.poa / 64

/-- Where a removal already runs, AGENT_REMOVAL still brings SNP_DEAD to each line that waits for the agent's answer. -/
theorem agentRemoval_of_removing {s : State} {c : Nat} (hvalid : s.flag HRT_AGENT.VALID c = true) (hremoving : s.flag HRT_AGENT.REMOVING c = true) :
    agentRemoval c s = s.each (s.linesAwaiting c) fun l t => t.snpDead l c := by
  have hgone : s.agentGone c = s := by simp [State.agentGone, hremoving]
  simp only [agentRemoval, State.removeAgent, hgone, hvalid]
  rfl

/-- Line 0's transaction, whose snoop of agent 2047 is out. -/
def snoopingTxn : Txn := { newTxn 0 ⟨.rdS, some 0, 0, [], 1, false⟩ [] with started := true, snoops := [⟨2047, .data, .sent 0, false⟩] }

/-- Agent 2047 owes line 0 an answer when upstream port 0, its host's, loses DL_UP: its removal begins there (R79, R233), before AGENT_REMOVAL comes. -/
def hostLost : State := (({ State.reset with txns := [snoopingTxn] } : State).set HRT_AGENT.VALID 2047 1).lostAtHosts 0

/-- The loss leaves the agent admitted and in removal, and line 0 still waits for its answer. -/
theorem hostLost_waits : hostLost.flag HRT_AGENT.VALID 2047 = true ∧ hostLost.flag HRT_AGENT.REMOVING 2047 = true ∧
    hostLost.linesAwaiting 2047 = [0] := by decide +kernel

/-- SNP_DEAD answers the snoop (R228): the line waits no more. -/
theorem hostLost_snpDead : (hostLost.snpDead 0 2047).linesAwaiting 2047 = [] := by decide +kernel

/-- AGENT_REMOVAL answers the snoop that is out. -/
theorem hostLost_agentRemoval : (agentRemoval 2047 hostLost).linesAwaiting 2047 = [] := by
  obtain ⟨hvalid, hremoving, hwaits⟩ := hostLost_waits
  rw [agentRemoval_of_removing hvalid hremoving, hwaits]
  exact hostLost_snpDead

/-- Refutes O23: its clause on AGENT_REMOVAL has the command change nothing while REMOVING is set, but where the loss of the host's port has set it (R79, R233) the agent's
snoops are still out, and AGENT_REMOVAL is what answers them SNP_DEAD. -/
theorem not_homesKeepLines : ¬ Obligations.HomesKeepLines := by
  unfold Obligations.HomesKeepLines
  rintro ⟨-, -, -, -, -, -, -, -, -, -, -, -, -, -, -, -, -, -, -, -, -, -, -, -, -, -, -, -, -, -, -, -, -, -, -, -, -, -, -, -, -, -, removalUnderWay, -⟩
  obtain ⟨-, hremoving, hwaits⟩ := hostLost_waits
  have he : exec (.agentRemoval 2047) hostLost = .next (agentRemoval 2047 hostLost) := rfl
  have hkept : agentRemoval 2047 hostLost = hostLost :=
    Host.Outcome.next.inj (he.symm.trans (removalUnderWay hostLost 2047 (by decide) (.inr hremoving)))
  have hstill : (agentRemoval 2047 hostLost).linesAwaiting 2047 = [0] := (congrArg (·.linesAwaiting 2047) hkept).trans hwaits
  exact absurd (hostLost_agentRemoval.symm.trans hstill) (by decide)

end Sys2Proof.Machine

namespace Sys2Proof.Machine

-- Proofs are elaborated one after another: each proof thread costs the check 256 MB of stack.
set_option Elab.async false

/-- Settles O57: completion and frame hold of every command, those of the engines, of jobs, migration and hotness among them. -/
theorem tongsCommandsFramed : Obligations.TongsCommandsFramed := by
  unfold Obligations.TongsCommandsFramed
  and_intros <;> intros <;> exact exec_framed _

/-! ### A write held at a slice whose region is fenced before the swap (R194, R251, R252, R255) -/

/-- The mapping of granule 0, a shared extent's, before its migration. -/
def sharedSource : Word := l2Word true 2 0 0

/-- The migration of granule 0 in slot 0 as its last copy pass leaves it for HOLD. -/
def passedRun : MigRun :=
  { gen := 0, src := sharedSource, autoUnfract := false, sanitize := false, waiting := [], issued := false, todo := [], round := 1, holds := 0, holdAt := 0,
    lines := 0, bytes := 0, swapped := false, srcLost := false, cfg := 0 }

/-- Extent 0 is shared, held and fractured, its directory block is enabled, and slot 0 has come to HOLD with its granule 0, which is to go to port 4. Region 3's collector holds a record and
the event ring is full: no event detail, a free value, is stored, and the effect of fencing the region can be computed. -/
def sharedGranule : State :=
  let s := ((((State.reset.set MGT_EVT_STAT.COUNT 0 1024).set FLT_REC0.PEND 3 1).set MGT_HBM_PART.DIR_GIB 0 1).set MGT_HBM_PART.L2_64M 0 1).set HRT_HOME.VALID 0 1
  let s := s.writeEntry .l1 0 fun t => (((t.set L1_W0.VALID 0 1).set L1_W0.SHARED 0 1).set L1_W0.FRACT 0 1).set L1_W0.HELD 0 1
  let s := s.setL2 0 (sharedSource.setField 1 1 1)
  let s := ((s.set RMP_MIG_SLOT0.PHASE 0 3).set RMP_MIG_SLOT0.SHARED 0 1).setReg .RMP_MIG_SLOT1 0 (l2Word true 4 0 0)
  s.setMig 0 (some passedRun)

/-- A write of block 30 of the granule, whose lines slice 15 of region 3 homes. -/
def blockWrite : HomeReq := { op := .wr false, agent := none, poa := 0x1E00, data := List.replicate 64 1, tag := 0, spec := false }

/-- HOLD is set, region 3 takes the entry into its cache, and the write comes to slice 15, which holds it. -/
def heldAtSlice : State :=
  transactionStart (blockWrite.poa / 64) (hearthRequestArrival blockWrite (l2CacheFill 3 0 (migrationHold 0 sharedGranule)))

/-- Region 3 is fenced; with no access of it to the source outstanding the migration goes on without it (R255), and the drains of the other twelve slices complete: the final copy has
nothing to copy. -/
def fencedHold : State := (migrationLoss 0 2 (regionFence 3 heldAtSlice)).each (List.range 12) fun n => drainComplete (4 + n)

/-- The migration as the final copy leaves it. -/
def copiedRun : MigRun := { passedRun with issued := true, round := 2, holdAt := 1 }

/-- The swap is due. -/
theorem fencedHold_ready : fencedHold.mig 0 = some copiedRun ∧ fencedHold.get RMP_MIG_SLOT0.PHASE 0 = 3 := by decide +kernel

/-- The swap's invalidation passes over the fenced region, so slice 15's write is released under the entry its cache has kept, MIG still set: its block is marked. -/
theorem fencedHold_swap_marks : (migrationSwap 0 fencedHold).migDirty 0 = [30] := by decide +kernel

/-- Refutes O27: its clause on MIGRATION_SWAP has no block of the slot marked afterwards, but a write held at a slice whose region has been fenced meanwhile is released under the old
entry, which that region's cache still holds with MIG set (R194 invalidates it in the unfenced regions alone), and marks its block. -/
theorem not_granulesMove : ¬ Obligations.GranulesMove := by
  unfold Obligations.GranulesMove
  rintro ⟨-, -, -, -, -, -, -, -, -, -, -, -, -, -, -, -, -, -, -, -, -, -, -, -, -, swap, -⟩
  obtain ⟨hmig, hphase⟩ := fencedHold_ready
  obtain ⟨t, ht, -, -, -, hclean⟩ := swap fencedHold 0 copiedRun (by decide) hmig hphase (by decide) rfl rfl
  have he : exec (.migrationSwap 0) fencedHold = .next (migrationSwap 0 fencedHold) := rfl
  obtain rfl : migrationSwap 0 fencedHold = t := Host.Outcome.next.inj (he.symm.trans ht)
  exact absurd (fencedHold_swap_marks.symm.trans hclean) (by decide)

end Sys2Proof.Machine

namespace Sys2Proof.Machine

-- Proofs are elaborated one after another: each proof thread costs the check 256 MB of stack.
set_option Elab.async false

set_option exponentiation.threshold 500

/-! ### Engines and clusters, written and framed -/

section Units

variable {G : Nat} {s t : State}

theorem Only.engine_eq (h : Only G s t) (e : Nat) (hG : G.testBit (256 + StateField.ctorIdx .engines) = false := by decide) : t.engine e = s.engine e :=
  congrArg (Tbl.rd (fun _ => Engine.idle) · e) (h.2 (.field .engines) hG)

theorem Only.jobRun_eq (h : Only G s t) (e : Nat) (hG : G.testBit (256 + StateField.ctorIdx .engines) = false := by decide) : t.jobRun e = s.jobRun e :=
  congrArg Engine.job (h.engine_eq e hG)

theorem Only.clusters_eq (h : Only G s t) (hG : G.testBit (256 + StateField.ctorIdx .clusters) = false := by decide) : t.clusters = s.clusters :=
  h.2 (.field .clusters) hG

theorem Only.cluster_eq (h : Only G s t) (c : Nat) (hG : G.testBit (256 + StateField.ctorIdx .clusters) = false := by decide) : t.cluster c = s.cluster c :=
  congrArg (Tbl.rd (fun _ => Cluster.idle) · c) (h.clusters_eq hG)

variable (s) (e d c : Nat)

@[simp] theorem State.engine_setEngine (x : Engine) : (s.setEngine e x).engine e = x := Tbl.rd_wr_self ..

@[simp] theorem State.engine_modEngine (f : Engine → Engine) : (s.modEngine e f).engine e = f (s.engine e) := s.engine_setEngine ..

theorem State.engine_modEngine_other {e d : Nat} (f : Engine → Engine) (h : d ≠ e) : (s.modEngine e f).engine d = s.engine d := Tbl.rd_wr_other _ _ _ h

@[simp] theorem State.jobRun_modEngine (f : Engine → Engine) : (s.modEngine e f).jobRun e = (f (s.engine e)).job := congrArg Engine.job (s.engine_modEngine e f)

@[simp] theorem State.jobRun_modRun (f : JobRun → JobRun) : (s.modRun e f).jobRun e = (s.jobRun e).map f := s.jobRun_modEngine ..

@[simp] theorem State.cluster_modEngine (f : Engine → Engine) : (s.modEngine e f).cluster c = s.cluster c := (rfl)
@[simp] theorem State.cluster_modRun (f : JobRun → JobRun) : (s.modRun e f).cluster c = s.cluster c := (rfl)
@[simp] theorem State.cluster_set (F : Fld) (i v : Nat) : (s.set F i v).cluster c = s.cluster c := (rfl)
@[simp] theorem State.get_modEngine (f : Engine → Engine) (F : Fld) (i : Nat) : (s.modEngine e f).get F i = s.get F i := (rfl)

@[simp] theorem State.cluster_setCluster (x : Cluster) : (s.setCluster c x).cluster c = x := Tbl.rd_wr_self ..

@[simp] theorem State.cluster_modCluster (f : Cluster → Cluster) : (s.modCluster c f).cluster c = f (s.cluster c) := s.cluster_setCluster ..

@[simp] theorem State.engine_addAcc (l : List FarAcc) : (s.addAcc c l).engine e = s.engine e := (rfl)
@[simp] theorem State.engine_set (F : Fld) (i v : Nat) : (s.set F i v).engine e = s.engine e := (rfl)
@[simp] theorem State.jobRun_set (F : Fld) (i v : Nat) : (s.set F i v).jobRun e = s.jobRun e := (rfl)
@[simp] theorem State.get_modCluster (f : Cluster → Cluster) (F : Fld) (i : Nat) : (s.modCluster c f).get F i = s.get F i := (rfl)

/-- The first outcome of a job stands. -/
theorem State.jobRun_finishJob (status r0 r1 : Nat) : (s.finishJob e status r0 r1).jobRun e =
    (s.jobRun e).map fun r => if r.outcome.isNone then { r with outcome := some (status, r0, r1) } else r := s.jobRun_modRun ..

theorem State.engine_finishJob (status r0 r1 : Nat) : (s.finishJob e status r0 r1).engine e = { s.engine e with
    job := (s.jobRun e).map fun r => if r.outcome.isNone then { r with outcome := some (status, r0, r1) } else r } := s.engine_modEngine ..

@[simp] theorem Engine.setX_queue (x : Engine) (rd : Nat) (v : Word) : (x.setX rd v).queue = x.queue := by
  unfold Engine.setX
  split_ifs <;> rfl

@[simp] theorem Engine.setX_job (x : Engine) (rd : Nat) (v : Word) : (x.setX rd v).job = x.job := by
  unfold Engine.setX
  split_ifs <;> rfl

@[simp] theorem Engine.setX_jobCancel (x : Engine) (rd : Nat) (v : Word) : (x.setX rd v).jobCancel = x.jobCancel := by
  unfold Engine.setX
  split_ifs <;> rfl

/-- A core register other than x0 holds what was written. -/
theorem Engine.rd_setX (x : Engine) {rd : Nat} (v : Word) (h : rd % 32 ≠ 0) : Tbl.rd (fun _ => 0) (x.setX rd v).x (rd % 32) = v := by
  unfold Engine.setX
  rw [if_neg h]
  exact Tbl.rd_wr_self ..

end Units

/-! ### What far answers leave of an engine (R265 to R267, R272) -/

/-- The entry of a ticket does an operation and has not committed. -/
def Engine.Waits (x : Engine) (ticket : Nat) (op : CpOp) : Prop := ∃ c, x.entry ticket = some c ∧ c.op = op ∧ c.committed = false

/-- Between two states of an engine its entries that have not committed stay, its service has asked for no more lines, and JOB_CANCEL is as it was. -/
structure Engine.Follows (x y : Engine) : Prop where
  waits : ∀ ticket op, x.Waits ticket op → y.Waits ticket op
  next : y.job.map JobRun.next = x.job.map JobRun.next
  jobCancel : y.jobCancel = x.jobCancel

section Follows

variable {x y z : Engine}

theorem Engine.Follows.refl (x : Engine) : x.Follows x := ⟨fun _ _ => id, rfl, rfl⟩

theorem Engine.Follows.trans (h : x.Follows y) (h' : y.Follows z) : x.Follows z :=
  ⟨fun k op hx => h'.waits k op (h.waits k op hx), h'.next.trans h.next, h'.jobCancel.trans h.jobCancel⟩

/-- Its queue, its job and JOB_CANCEL are all that matters. -/
theorem Engine.Follows.of_eq (hqueue : y.queue = x.queue) (hjob : y.job = x.job) (hcancel : y.jobCancel = x.jobCancel) : x.Follows y := by
  refine ⟨fun k op h => ?_, congrArg _ hjob, hcancel⟩
  unfold Engine.Waits Engine.entry at h ⊢
  rwa [hqueue]

theorem Engine.follows_modJob (x : Engine) {f : JobRun → JobRun} (hf : ∀ r, (f r).next = r.next) : x.Follows { x with job := x.job.map f } := by
  refine ⟨fun _ _ => id, ?_, rfl⟩
  rw [Option.map_map]
  exact congrArg (Option.map · x.job) (funext hf)

/-- The entry of a ticket after a change that keeps tickets. -/
theorem Engine.entry_modEntry (x : Engine) (ticket k : Nat) {f : CpEntry → CpEntry} (hf : ∀ c, (f c).ticket = c.ticket) :
    (x.modEntry ticket f).entry k = (x.entry k).map fun c => if c.ticket = ticket then f c else c := by
  unfold Engine.modEntry Engine.entry
  rw [List.find?_map]
  refine congrArg (fun p => ((x.queue.find? p).map _)) (funext fun c => ?_)
  by_cases h : c.ticket = ticket <;> simp [h, hf]

theorem Engine.follows_modEntry (x : Engine) (ticket : Nat) {f : CpEntry → CpEntry} (hf : ∀ c, (f c).ticket = c.ticket ∧ (f c).op = c.op ∧ (f c).committed = c.committed) :
    x.Follows (x.modEntry ticket f) := by
  refine ⟨?_, rfl, rfl⟩
  rintro k op ⟨c, hentry, hop, hcommitted⟩
  rw [Engine.Waits, Engine.entry_modEntry x ticket k fun c => (hf c).1, hentry]
  refine ⟨_, rfl, ?_⟩
  dsimp only
  split_ifs
  · exact ⟨(hf c).2.1.trans hop, (hf c).2.2.trans hcommitted⟩
  · exact ⟨hop, hcommitted⟩

/-- Finished entries leave the queue, and their statuses and errors touch nothing but where they are kept. -/
theorem Engine.retire_eq (x : Engine) : x.retire.queue = x.queue.filter (fun c => !c.finished) ∧ x.retire.job = x.job ∧ x.retire.x = x.x ∧
    x.retire.jobCancel = x.jobCancel := by
  unfold Engine.retire
  exact List.foldlRecOn (motive := fun y : Engine => y.queue = x.queue.filter (fun c => !c.finished) ∧ y.job = x.job ∧ y.x = x.x ∧ y.jobCancel = x.jobCancel) _ _
    ⟨rfl, rfl, rfl, rfl⟩ fun y hy _ _ => hy

/-- An entry that has not committed does not retire. -/
theorem Engine.follows_retire (x : Engine) : x.Follows x.retire := by
  obtain ⟨hqueue, hjob, -, hcancel⟩ := x.retire_eq
  refine ⟨?_, congrArg _ hjob, hcancel⟩
  rintro k op ⟨c, hentry, hop, hcommitted⟩
  refine ⟨c, ?_, hop, hcommitted⟩
  unfold Engine.entry at hentry ⊢
  rw [hqueue, List.find?_filter]
  obtain ⟨hc, pre, post, hsplit, hpre⟩ := List.find?_eq_some_iff_append.1 hentry
  refine List.find?_eq_some_iff_append.2 ⟨?_, pre, post, hsplit, fun d hd => ?_⟩
  · simp [hc, CpEntry.finished, hcommitted]
  · simp [hpre d hd]

theorem Engine.follows_setX (x : Engine) (rd : Nat) (v : Word) : x.Follows (x.setX rd v) := .of_eq (x.setX_queue rd v) (x.setX_job rd v) (x.setX_jobCancel rd v)

end Follows

/-- Every engine follows. -/
def State.Follows (s t : State) : Prop := ∀ e, (s.engine e).Follows (t.engine e)

section FollowsState

variable {s0 s : State}

theorem State.Follows.refl (s : State) : s.Follows s := fun _ => .refl _

theorem State.Follows.ite {t : State} {p : Prop} [Decidable p] (hs : s0.Follows s) (ht : s0.Follows t) : s0.Follows (if p then s else t) := by
  split_ifs
  · exact hs
  · exact ht

/-- What leaves the engines alone. -/
theorem State.Follows.only {G : Nat} {t : State} (h : s0.Follows s) (ht : Only G s t) (hG : G.testBit (256 + StateField.ctorIdx .engines) = false := by decide) :
    s0.Follows t := fun e => ht.engine_eq e hG ▸ h e

theorem State.Follows.modEngine (h : s0.Follows s) {e : Nat} {f : Engine → Engine} (hf : ∀ x, Engine.Follows x (f x)) : s0.Follows (s.modEngine e f) := by
  intro d
  by_cases hd : d = e
  · subst hd
    rw [s.engine_modEngine]
    exact (h d).trans (hf _)
  · rw [s.engine_modEngine_other f hd]
    exact h d

theorem State.Follows.modRun (h : s0.Follows s) {e : Nat} {f : JobRun → JobRun} (hf : ∀ r, (f r).next = r.next) : s0.Follows (s.modRun e f) :=
  h.modEngine fun x => x.follows_modJob hf

theorem State.Follows.fold {β : Type} {f : State → β → State} {l : List β} (h : s0.Follows s) (hf : ∀ u b, s0.Follows u → s0.Follows (f u b)) :
    s0.Follows (l.foldl f s) := List.foldlRecOn (motive := fun t => s0.Follows t) _ _ h fun u hu b _ => hf u b hu

variable (h : s0.Follows s)

include h

theorem State.finishJob_follows {e status r0 r1 : Nat} : s0.Follows (s.finishJob e status r0 r1) := h.modRun fun r => by split_ifs <;> rfl

theorem State.failJob_follows {e status : Nat} : s0.Follows (s.failJob e status) := h.modRun fun r => by split_ifs <;> rfl

theorem State.addAcc_follows {c : Nat} {l : List FarAcc} : s0.Follows (s.addAcc c l) := h

theorem State.migOutcome_follows {k status : Nat} : s0.Follows (s.migOutcome k status) := by
  unfold State.migOutcome
  split
  · exact h
  · exact .ite (State.finishJob_follows h) h

/-- What a migration's end does beside its outcome leaves the engines alone. -/
theorem State.endMig_follows {k status : Nat} : s0.Follows (s.endMig k status) := by
  unfold State.endMig
  split
  · exact h
  next m _ =>
    have hreleased : s0.Follows ((if m.swapped then s else s.setMigBits k false false).releaseHeld k) :=
      (State.Follows.ite h (h.only (State.setMigBits_only (Sub.refl _) (Only.refl _ _)))).only (State.releaseHeld_only (Sub.refl _) (Only.refl _ _))
    have hcounted := State.Follows.ite (p := 7 ≤ status ∧ status ≤ 14) (hreleased.only (State.count_only (F := RMP_MIG_STAT.ABANDONED) (i := 0) (n := 1) (Sub.refl _) (Only.refl _ _)))
      hreleased
    exact (State.migOutcome_follows (hcounted.only (State.discardAcc_only (Sub.refl _) (Only.refl _ _)))).only (State.freeMig_only (Sub.refl _) (Only.refl _ _))

theorem State.migAnswer_follows {e k tag status slag : Nat} {data : List Byte} : s0.Follows (s.migAnswer e k tag status slag data) := by
  have hmod : ∀ f, s0.Follows (s.modMig k f) := fun f => h.only (State.modMig_only (Sub.refl _) (Only.refl _ _))
  unfold State.migAnswer
  split
  · exact h
  · exact .ite h (.ite (hmod _) (.ite (.ite h (State.endMig_follows h)) (.ite (State.addAcc_follows h) (hmod _))))

theorem State.deliverLine_follows {e l : Nat} {x : CpEntry} {d : List Byte} {p : Bool} : s0.Follows (s.deliverLine e x l d p) := by
  unfold State.deliverLine
  split
  · exact h.modEngine fun x => .of_eq rfl rfl rfl
  · exact h
  · exact h

theorem State.cpAnswer_follows {e tag status slag : Nat} {data : List Byte} : s0.Follows (s.cpAnswer e tag status slag data) := by
  unfold State.cpAnswer
  extract_lets +onlyGivenNames -underBinder -merge n
  split
  · exact h
  next c _ =>
    have hentry : ∀ {u : State} {f : CpEntry → CpEntry}, s0.Follows u → (∀ c, (f c).ticket = c.ticket ∧ (f c).op = c.op ∧ (f c).committed = c.committed) →
        s0.Follows (u.modEngine e fun x => x.modEntry c.ticket f) := fun hu hf => hu.modEngine fun x => x.follows_modEntry _ hf
    extract_lets +onlyGivenNames -underBinder -merge l st d bad u
    have hu : s0.Follows u := hentry h fun c => ⟨rfl, rfl, rfl⟩
    clear_value u
    extract_lets +onlyGivenNames -underBinder -merge v
    have hv : s0.Follows v := hentry hu fun c => ⟨rfl, rfl, rfl⟩
    clear_value v
    refine State.Follows.modEngine (.ite (.ite (State.deliverLine_follows hv) hv) (.ite ?_ ?_)) Engine.follows_retire
    · refine State.Follows.modRun (hentry hu ?_) fun r => rfl
      exact fun c => ⟨rfl, rfl, rfl⟩
    · refine State.Follows.modEngine (hu.modRun ?_) fun x => (x.follows_setX _ _).trans (Engine.follows_modEntry _ _ ?_)
      · exact fun r => rfl
      · exact fun c => ⟨rfl, rfl, rfl⟩

theorem State.copyNext_follows {e : Nat} : s0.Follows (s.copyNext e) := by
  unfold State.copyNext
  split
  · exact h
  split
  · exact .ite h ((State.addAcc_follows h).modRun fun r => rfl)
  · exact h

theorem State.takeLines_follows {e : Nat} : s0.Follows (s.takeLines e) := by
  unfold State.takeLines
  split
  · exact h
  extract_lets ls src dst
  refine .ite (h.modRun fun r => rfl) (.ite ?_ h)
  split
  · exact State.finishJob_follows h
  · exact h.modRun fun r => rfl

theorem State.settleJob_follows {e : Nat} : s0.Follows (s.settleJob e) := by
  unfold State.settleJob
  split
  · exact h
  extract_lets v u
  have hu : s0.Follows u := .ite (State.takeLines_follows h) h
  refine .ite h ?_
  split
  · exact hu
  · exact .ite (State.finishJob_follows hu) (.ite (State.finishJob_follows hu) (.ite (State.finishJob_follows hu) hu))

theorem State.svcAnswer_follows {e tag status slag : Nat} {data : List Byte} : s0.Follows (s.svcAnswer e tag status slag data) := by
  unfold State.svcAnswer
  split
  · exact h
  extract_lets l u
  have hu : s0.Follows u := h.modRun fun r => rfl
  refine .ite h (.ite ?_ (.ite (State.failJob_follows h) (.ite (.ite (hu.fold fun t _ ht => State.copyNext_follows ht) hu) (.ite ?_ ?_))))
  · split
    · exact State.migAnswer_follows h
    · exact h
  · exact h.modRun fun r => rfl
  · exact h.modRun fun r => rfl

theorem State.farAnswer_follows {c e tag status slag : Nat} {data : List Byte} : s0.Follows (s.farAnswer c e tag status slag data) := by
  have hdropped : s0.Follows ((s.farBytes c e tag status).dropAcc c e tag) :=
    h.only (State.dropAcc_only rfl (State.farBytes_only (G := partsMask [.reg .CNT_VAL, .field .clusters]) rfl (Only.refl _ _)))
  exact .ite (State.cpAnswer_follows hdropped) (State.settleJob_follows (State.svcAnswer_follows hdropped))

theorem State.scratchAcc_follows {c : Nat} {a : FarAcc} : s0.Follows (s.scratchAcc c a) := by
  unfold State.scratchAcc
  extract_lets at' u
  have hu : s0.Follows u := h.only (State.hbmCount_only (Sub.refl _) (Only.refl _ _))
  refine .ite (State.farAnswer_follows h) ?_
  split
  · exact State.farAnswer_follows (hu.only (State.setHbm64_only (Sub.refl _) (Only.refl _ _)))
  · exact .ite (State.farAnswer_follows (hu.only (State.writeHbm_only (Sub.refl _) (Only.refl _ _)))) (State.farAnswer_follows hu)

theorem State.tryAcc_follows {c : Nat} {a : FarAcc} : s0.Follows (s.tryAcc c a) := by
  unfold State.tryAcc
  extract_lets l before own serve u
  refine .ite h ?_
  clear_value serve
  split
  · exact State.farAnswer_follows h
  · exact .ite h (.ite (State.scratchAcc_follows h) (.ite h h))

end FollowsState

/-- What each access tried keeps, the pump keeps. -/
theorem State.pump_keeps {P : State → Prop} {c : Nat} (hP : ∀ u a, P u → P (u.tryAcc c a)) {s : State} (h : P s) : P (s.pump c) := by
  have honce : ∀ u, P u → P ((u.cluster c).acc.foldl (fun t a => t.tryAcc c a) u) := fun u hu => List.foldlRecOn (motive := P) _ _ hu fun t ht a _ => hP t a ht
  exact honce _ (honce _ (honce _ h))

theorem State.pump_follows (s : State) (c : Nat) : s.Follows (s.pump c) := State.pump_keeps (P := s.Follows) (fun _ _ hu => State.tryAcc_follows hu) (.refl s)

/-- With no access there is nothing to try. -/
theorem State.pump_of_empty {s : State} {c : Nat} (h : (s.cluster c).acc = []) : s.pump c = s := by simp [State.pump, h]

end Sys2Proof.Machine

namespace Sys2Proof.Machine

-- Proofs are elaborated one after another: each proof thread costs the check 256 MB of stack.
set_option Elab.async false

set_option exponentiation.threshold 500

/-- A command whose units exist comes to the state that its effect is. -/
theorem run_to {p : Prop} [Decidable p] {t u : State} (hp : p) (h : t = u) : run (decide p) t = .next u := by rw [run_true (decide_eq_true hp), h]

/-! ### Entries taken at decode (R264, R265) -/

section Decode

variable {s : State} {e rd k : Nat} {op : CpOp}

/-- The lowest entry of the coprocessor queue that is free. -/
abbrev State.freeEntry (s : State) (e : Nat) : Option Nat := (List.range 32).find? fun k => !((s.engine e).queue.any fun c => c.ticket % 32 = k)

theorem State.decodeOp_of_stall (h : s.running e = false ∨ s.freeEntry e = none) : s.decodeOp e rd op = s := by
  unfold State.decodeOp
  rcases h with h | h
  · rw [h]
    rfl
  · simp only [show ((List.range 32).find? fun k => !((s.engine e).queue.any fun c => c.ticket % 32 = k)) = none from h]
    exact ite_self s

/-- A new entry whose ticket no other entry bears is found by it. -/
theorem Engine.waits_append {x : Engine} {c : CpEntry} (gens : Tbl Nat) (hnew : ∀ d ∈ x.queue, d.ticket ≠ c.ticket) (hc : c.committed = false) :
    Engine.Waits { x with queue := x.queue ++ [c], gens := gens } c.ticket c.op := by
  refine ⟨c, ?_, rfl, hc⟩
  have hnone : x.queue.find? (fun d => d.ticket = c.ticket) = none := List.find?_eq_none.2 fun d hd => by simpa using hnew d hd
  simp [Engine.entry, List.find?_append, hnone]

/-- An instruction decoded waits in the lowest free entry, with that entry's next generation in its ticket: a speculative read answered at once does not end it. -/
theorem State.decodeOp_waits (hrun : s.running e = true) (hfree : s.freeEntry e = some k) :
    ((s.decodeOp e rd op).engine e).Waits (k + 32 * Tbl.rd (fun _ => 0) (s.engine e).gens k) op := by
  have hlt : k < 32 := List.mem_range.1 (List.mem_of_find?_eq_some hfree)
  have hnew : ∀ d ∈ (s.engine e).queue, d.ticket ≠ k + 32 * Tbl.rd (fun _ => 0) (s.engine e).gens k := by
    have hnone := List.find?_some hfree
    simp only [Bool.not_eq_true', List.any_eq_false, decide_eq_true_eq] at hnone
    intro d hd
    have := hnone d hd
    omega
  unfold State.decodeOp
  extract_lets +onlyGivenNames x
  rw [if_neg (by simp [hrun])]
  split
  next hnone => exact absurd (hnone.symm.trans hfree) (by simp)
  next j hj =>
  obtain rfl : k = j := Option.some.inj (hfree.symm.trans hj)
  extract_lets g may bad c u v
  have hv : (v.engine e).Waits (k + 32 * g) op := by
    rw [(State.tallyEngine_only (Sub.refl _) (Only.refl _ u)).engine_eq e, s.engine_setEngine]
    exact Engine.waits_append (c := c) _ hnew rfl
  split_ifs
  · exact (State.pump_follows _ _ e).waits _ _ hv
  · exact hv

theorem State.decodeOp_runs (he : e < 128) (hrun : s.running e = true) (hfree : s.freeEntry e = some k) : ∃ t, run (decide (e < 128)) (s.decodeOp e rd op) = .next t ∧
    ((t.engine e).entry (k + 32 * Tbl.rd (fun _ => 0) (s.engine e).gens k)).map CpEntry.op = some op := by
  obtain ⟨c, hentry, hop, -⟩ := State.decodeOp_waits (rd := rd) (op := op) hrun hfree
  exact ⟨_, run_to he rfl, by rw [hentry, ← hop]; rfl⟩

end Decode

/-! ### Entries removed (R262, R266) -/

section Remove

variable (s : State) (e : Nat)

/-- Entries removed leave the queue and are counted in DM_SQUASH. -/
def Engine.remove (x : Engine) (gone : List CpEntry) (n : Nat) : Engine :=
  { x with queue := x.queue.filter fun c => !gone.contains c, dmSquash := x.dmSquash + word n }

section Fields

variable (x : Engine) (gone : List CpEntry) (n : Nat)

@[simp] theorem Engine.remove_queue : (x.remove gone n).queue = x.queue.filter fun c => !gone.contains c := (rfl)
@[simp] theorem Engine.remove_dmSquash : (x.remove gone n).dmSquash = x.dmSquash + word n := (rfl)
@[simp] theorem Engine.remove_job : (x.remove gone n).job = x.job := (rfl)
@[simp] theorem Engine.remove_user : (x.remove gone n).user = x.user := (rfl)
@[simp] theorem Engine.remove_mcause : (x.remove gone n).mcause = x.mcause := (rfl)
@[simp] theorem Engine.remove_mtval : (x.remove gone n).mtval = x.mtval := (rfl)

end Fields

theorem State.engine_removeEntries (gone : List CpEntry) (n : Nat) : (s.removeEntries e gone n).engine e = (s.engine e).remove gone n := by
  unfold State.removeEntries
  extract_lets u v
  have hcounted : Only (partsMask [.reg .TNG_ENG_CNT, .reg .CNT_VAL]) v ((v.count TNG_ENG_CNT.SQUASH e n).tallyEngine 2 e n) :=
    State.tallyEngine_only rfl (State.count_only rfl (Only.refl _ v))
  rw [hcounted.engine_eq e, u.engine_modEngine, (State.discardAcc_only (Sub.refl _) (Only.refl _ s)).engine_eq e]
  rfl

theorem State.jobRun_removeEntries (gone : List CpEntry) (n : Nat) : (s.removeEntries e gone n).jobRun e = s.jobRun e := by
  rw [State.jobRun, State.engine_removeEntries, Engine.remove_job, State.jobRun]

theorem State.get_removeEntries_squash (gone : List CpEntry) (n : Nat) :
    (s.removeEntries e gone n).get TNG_ENG_CNT.SQUASH e = satAdd TNG_ENG_CNT.SQUASH.width (s.get TNG_ENG_CNT.SQUASH e) n := by
  unfold State.removeEntries
  extract_lets u v
  have hkept : u.get TNG_ENG_CNT.SQUASH e = s.get TNG_ENG_CNT.SQUASH e := (State.discardAcc_only (Sub.refl _) (Only.refl _ s)).get_eq TNG_ENG_CNT.SQUASH e
  rw [(State.tallyEngine_only (Sub.refl _) (Only.refl _ _)).get_eq TNG_ENG_CNT.SQUASH, State.get_count _ _ _ (by decide), u.get_modEngine, hkept]

/-- A trap gives its cause and value, leaves U-mode and removes the instruction. -/
theorem State.trap_shows (c : CpEntry) (cause tval : Nat) : ((s.trap e c cause tval).engine e).mcause = cause ∧ ((s.trap e c cause tval).engine e).mtval = tval ∧
    ((s.trap e c cause tval).engine e).user = false ∧ ((s.trap e c cause tval).engine e).queue.contains c = false := by
  unfold State.trap
  simp [State.engine_removeEntries]

theorem coprocessorSquash_of_none {k : Nat} (h : ((s.engine e).queue.drop k).filter (fun c => !c.committed) = []) : coprocessorSquash e k s = s := by
  simp [coprocessorSquash, h]

theorem coprocessorSquash_removes {k : Nat} {l : List CpEntry} (h : ((s.engine e).queue.drop k).filter (fun c => !c.committed) = l) (hl : l ≠ []) :
    coprocessorSquash e k s = s.removeEntries e l l.length := by
  simp [coprocessorSquash, h, hl]

end Remove

/-! ### The writes of an entry, answered (R263, R267) -/

section Answers

variable {s : State} {c e tag status slag : Nat} {data : List Byte}

/-- An entry takes the status of an answer; the first that is not OK stands. -/
def Engine.takeStatus (x : Engine) (ticket st : Nat) : Engine := x.modEntry ticket fun c => { c with status := if c.status = 0 then st else c.status }

/-- A write line of an entry is done. -/
def Engine.wroteLine (x : Engine) (ticket l : Nat) : Engine := x.modEntry ticket fun c => { c with writes := c.writes.filter (· ≠ l) }

theorem State.farAnswer_of_entry (h : tag % 8 < 3) :
    s.farAnswer c e tag status slag data = ((s.farBytes c e tag status).dropAcc c e tag).cpAnswer e tag status slag data := if_pos h

theorem State.cpAnswer_of_none (h : (s.engine e).entry (tag / 8 / 64) = none) : s.cpAnswer e tag status slag data = s := by
  simp [State.cpAnswer, h]

/-- The answer of a write line: its entry's status and lines, the job's count, and the entries that are finished. -/
theorem State.cpAnswer_of_write {y : CpEntry} (hkind : tag % 8 = 1) (hy : (s.engine e).entry (tag / 8 / 64) = some y) : s.cpAnswer e tag status slag data =
    (((s.modEngine e fun x => x.takeStatus y.ticket (status + if 4 ≤ status then slag % 16 * 2 ^ 8 else 0)).modEngine e fun x =>
      x.wroteLine y.ticket (tag / 8 % 64)).modRun e fun r => { r with lines := r.lines + 1 }).modEngine e Engine.retire := by
  unfold State.cpAnswer
  simp only [hy, hkind]
  rfl

theorem State.x_modEngine (s : State) (e d : Nat) {f : Engine → Engine} (hf : ∀ y, (f y).x = y.x) : ((s.modEngine e f).engine d).x = (s.engine d).x := by
  by_cases hd : d = e
  · subst hd
    rw [s.engine_modEngine, hf]
  · rw [s.engine_modEngine_other f hd]

theorem State.clusters_modEngine (s : State) (e : Nat) (f : Engine → Engine) : (s.modEngine e f).clusters = s.clusters := (rfl)

theorem State.clusters_modRun (s : State) (e : Nat) (f : JobRun → JobRun) : (s.modRun e f).clusters = s.clusters := (rfl)

theorem State.x_modRun (s : State) (e d : Nat) (f : JobRun → JobRun) : ((s.modRun e f).engine d).x = (s.engine d).x :=
  s.x_modEngine e d fun _ => rfl

theorem State.acc_dropAcc (s : State) (c e tag : Nat) :
    ((s.dropAcc c e tag).cluster c).acc = (s.cluster c).acc.eraseP fun a => a.engine = e && a.tag = tag := congrArg Cluster.acc (s.cluster_modCluster c _)

/-- A write's answer brings no access and leaves the core registers alone. -/
theorem State.cpAnswer_of_write_keeps (hkind : tag % 8 = 1) (d : Nat) : (s.cpAnswer e tag status slag data).clusters = s.clusters ∧
    ((s.cpAnswer e tag status slag data).engine d).x = (s.engine d).x := by
  cases hy : (s.engine e).entry (tag / 8 / 64) with
  | none => rw [State.cpAnswer_of_none hy]; exact ⟨rfl, rfl⟩
  | some y =>
    have hretire : ∀ z : Engine, z.retire.x = z.x := fun z => z.retire_eq.2.2.1
    have hline : ∀ z : Engine, (z.wroteLine y.ticket (tag / 8 % 64)).x = z.x := fun _ => rfl
    have hstatus : ∀ st (z : Engine), (z.takeStatus y.ticket st).x = z.x := fun _ _ => rfl
    rw [State.cpAnswer_of_write hkind hy]
    refine ⟨?_, by rw [State.x_modEngine _ _ _ hretire, State.x_modRun, State.x_modEngine _ _ _ hline, State.x_modEngine _ _ _ (hstatus _)]⟩
    rw [State.clusters_modEngine, State.clusters_modRun, State.clusters_modEngine, State.clusters_modEngine]

/-- Every access of a cluster is the write of an entry's line, and an engine's core registers are as given. -/
structure State.Storing (s : State) (c e : Nat) (x : Tbl Word) : Prop where
  writes : ∀ a ∈ (s.cluster c).acc, a.tag % 8 = 1
  core : (s.engine e).x = x

section Storing

variable {x : Tbl Word} {a : FarAcc}

theorem State.Storing.only {G : Nat} {t : State} (h : s.Storing c e x) (ht : Only G s t) (hengines : G.testBit (256 + StateField.ctorIdx .engines) = false := by decide)
    (hclusters : G.testBit (256 + StateField.ctorIdx .clusters) = false := by decide) : t.Storing c e x :=
  ⟨fun a ha => h.writes a (ht.cluster_eq c hclusters ▸ ha), (congrArg Engine.x (ht.engine_eq e hengines)).trans h.core⟩

theorem State.Storing.farAnswer (h : s.Storing c e x) (ha : a.tag % 8 = 1) : (s.farAnswer c a.engine a.tag status slag data).Storing c e x := by
  have hcounted := h.only (State.farBytes_only (c := c) (e := a.engine) (tag := a.tag) (status := status) (Sub.refl _) (Only.refl _ s))
  rw [State.farAnswer_of_entry (by omega)]
  obtain ⟨hclusters, hx⟩ := State.cpAnswer_of_write_keeps (s := (s.farBytes c a.engine a.tag status).dropAcc c a.engine a.tag) (e := a.engine) (status := status)
    (slag := slag) (data := data) ha e
  refine ⟨fun b hb => hcounted.writes b ?_, hx.trans hcounted.core⟩
  rw [State.cluster, hclusters, ← State.cluster, State.acc_dropAcc] at hb
  exact List.mem_of_mem_eraseP hb

theorem State.Storing.scratchAcc (h : s.Storing c e x) (ha : a.tag % 8 = 1) : (s.scratchAcc c a).Storing c e x := by
  unfold State.scratchAcc
  extract_lets at' u
  have hu : u.Storing c e x := h.only (State.hbmCount_only (Sub.refl _) (Only.refl _ _))
  by_cases hfenced : s.hbmFenced (c / 4) at' = true
  · rw [if_pos hfenced]
    exact h.farAnswer ha
  rw [if_neg hfenced]
  split
  · exact (hu.only (State.setHbm64_only (Sub.refl _) (Only.refl _ _))).farAnswer ha
  split_ifs
  · exact (hu.only (State.writeHbm_only (Sub.refl _) (Only.refl _ _))).farAnswer ha
  · exact hu.farAnswer ha

theorem State.Storing.tryAcc (h : s.Storing c e x) (a : FarAcc) : (s.tryAcc c a).Storing c e x := by
  unfold State.tryAcc
  extract_lets l before own serve u
  by_cases hskip : a.issued = true ∨ (!l.contains a) = true
  · rw [if_pos hskip]
    exact h
  have ha : a.tag % 8 = 1 := h.writes a (by simpa using (not_or.1 hskip).2)
  rw [if_neg hskip]
  clear_value serve
  split
  · exact h.farAnswer ha
  split_ifs
  · exact h
  · exact h.scratchAcc ha
  · exact h
  · refine ⟨fun b hb => ?_, h.core⟩
    have hissued : (u.cluster c).acc = (s.cluster c).acc.map fun b => if b = a then { b with issued := true } else b := congrArg Cluster.acc (s.cluster_modCluster c _)
    obtain ⟨d, hd, rfl⟩ := List.mem_map.1 (hissued ▸ hb)
    split_ifs <;> exact h.writes d hd

end Storing

/-- Stores that are tried leave the core registers alone. -/
theorem State.x_pump_of_writes (h : ∀ a ∈ (s.cluster c).acc, a.tag % 8 = 1) (e : Nat) : ((s.pump c).engine e).x = (s.engine e).x :=
  (State.pump_keeps (P := fun u => u.Storing c e (s.engine e).x) (fun _ a hu => hu.tryAcc a) ⟨h, rfl⟩).core

end Answers

end Sys2Proof.Machine

namespace Sys2Proof.Machine

-- Proofs are elaborated one after another: each proof thread costs the check 256 MB of stack.
set_option Elab.async false

set_option exponentiation.threshold 500

/-! ### Commit (R262 to R264, R267, R287) -/

section Commit

variable {s : State} {e : Nat} {x : CpEntry}

/-- An instruction that ends at commit leaves the queue with its value in rd. -/
theorem State.engine_commitValue (s : State) (e : Nat) (x : CpEntry) (v : Word) :
    (s.commitValue e x v).engine e = { (s.engine e).setX x.rd v with queue := (s.engine e).queue.erase x } := s.engine_modEngine ..

theorem State.rd_commitValue (s : State) (e : Nat) {x : CpEntry} (v : Word) (hrd : x.rd % 32 ≠ 0) :
    Tbl.rd (fun _ => 0) ((s.commitValue e x v).engine e).x (x.rd % 32) = v := by
  rw [State.engine_commitValue]
  exact Engine.rd_setX _ v hrd

/-- A status known only to the program's result: what the program ended with and its two result words. -/
theorem State.kernelDone_outcome {r : JobRun} {k off : Nat} (hjob : s.jobRun e = some r) (hnone : r.outcome = none) (hk : k = 0 ∨ 0x80 ≤ k ∧ k ≤ 0xFF) :
    ((s.kernelDone e k off).jobRun e).map JobRun.outcome = some (some (k, ofBytes ((s.engine e).read off 8), ofBytes ((s.engine e).read (off + 8) 8))) := by
  unfold State.kernelDone
  rw [if_pos hk, State.jobRun_finishJob, hjob]
  simp [hnone]

theorem State.acc_addAcc (s : State) (c : Nat) (l : List FarAcc) : ((s.addAcc c l).cluster c).acc = (s.cluster c).acc ++ l :=
  congrArg Cluster.acc (s.cluster_modCluster c _)

theorem State.bufUsed_of_empty {c : Nat} (h : (s.cluster c).acc = []) : s.bufUsed c = 0 := by simp [State.bufUsed, h]

/-- A submission to a cluster that does not exist is answered 4 and changes nothing (R269). -/
theorem State.submitJob_of_missing {c : Nat} (desc : List Word) (origin : Nat) (hc : 16 ≤ c) : s.admission c desc = 4 ∧ s.submitJob c desc origin = s := by
  have hadmission : s.admission c desc = 4 := by simp [State.admission, hc]
  exact ⟨hadmission, by simp [State.submitJob, hadmission]⟩

theorem coprocessorCommit_of_none (h : (s.engine e).queue.find? (fun c => !c.committed) = none) : coprocessorCommit e s = s := by simp only [coprocessorCommit, h]

variable (hx : (s.engine e).queue.find? (fun c => !c.committed) = some x)

include hx

theorem coprocessorCommit_of_fault {cause tval : Nat} (hfault : s.cpFault e x.op = some (cause, tval)) : coprocessorCommit e s = s.trap e x cause tval := by
  simp only [coprocessorCommit, hx, hfault]

variable (hfault : s.cpFault e x.op = none)

include hfault

theorem coprocessorCommit_wait {k : Nat} (hop : x.op = .wait (some k)) (hgone : ((s.engine e).queue.takeWhile (fun d => d ≠ x)).any (fun d => d.ticket = k) = false) :
    coprocessorCommit e s = s.commitValue e x (word (Tbl.rd (fun _ => 0) (s.engine e).results k)) := by
  rw [hop] at hfault
  simp only [coprocessorCommit, hx, hop, hfault]
  rw [if_neg (Bool.not_eq_true _ ▸ hgone)]

theorem coprocessorCommit_waitAll (hop : x.op = .wait none) (hfirst : (s.engine e).queue.takeWhile (fun d => d ≠ x) = []) :
    coprocessorCommit e s = (s.commitValue e x (word (s.engine e).dmErr)).modEngine e fun y => { y with dmErr := 0 } := by
  rw [hop] at hfault
  simp only [coprocessorCommit, hx, hop, hfault, hfirst]
  rfl

theorem coprocessorCommit_waitAll_waits (hop : x.op = .wait none) (hfirst : (s.engine e).queue.takeWhile (fun d => d ≠ x) ≠ []) : coprocessorCommit e s = s := by
  rw [hop] at hfault
  simp only [coprocessorCommit, hx, hop, hfault]
  exact if_pos (by simpa only [Bool.not_eq_true', List.isEmpty_eq_false_iff] using hfirst)

theorem coprocessorCommit_fence_waits {k : Nat} (hop : x.op = .fence k)
    (hopen : ((s.engine e).queue.takeWhile (fun d => d ≠ x)).any (fun d => !d.reads.isEmpty || (decide (k = 2) && !d.writes.isEmpty)) = true) : coprocessorCommit e s = s := by
  rw [hop] at hfault
  simp only [coprocessorCommit, hx, hop, hfault, hopen, Bool.true_or]
  rfl

theorem coprocessorCommit_crc {off len : Nat} (hop : x.op = .crc off len) : coprocessorCommit e s =
    s.commitValue e x (word (Nat.xor (crcRun ((s.engine e).dmCrc.toNat % 2 ^ 32) ((s.engine e).read off len)) 0xFFFFFFFF)) := by
  rw [hop] at hfault
  simp only [coprocessorCommit, hx, hop, hfault]

theorem coprocessorCommit_done {k off : Nat} (hop : x.op = .done k off) :
    coprocessorCommit e s = (s.modEngine e fun y => { y with queue := y.queue.erase x }).kernelDone e k off := by
  rw [hop] at hfault
  simp only [coprocessorCommit, hx, hop, hfault]

theorem coprocessorCommit_submit_missing {off c : Nat} (hop : x.op = .submit off c) (hc : 16 ≤ c) : coprocessorCommit e s = s.commitValue e x (word 4) := by
  have hmissing := fun desc => State.submitJob_of_missing (s := s) desc 1 hc
  rw [hop] at hfault
  simp only [coprocessorCommit, hx, hop, hfault, hmissing]
  rfl

/-- A store commits: its ticket is in rd and its lines are tried. -/
theorem coprocessorCommit_store {asd : Word} {size addr off : Nat} (hop : x.op = .st asd size addr off) (hroom : s.bufUsed (e / 8) + x.writes.length ≤ 256) :
    coprocessorCommit e s = ((s.commitTicket e x).addAcc (e / 8) (x.writes.map fun l => farAcc e (cpTag x.ticket l 1) asd (addr + 64 * l) 64 true
      ((s.engine e).read (off + 64 * l) 64) ((s.engine e).poisoned (off + 64 * l)) false)).pump (e / 8) := by
  rw [hop] at hfault
  simp [coprocessorCommit, hx, hop, hfault, hroom]

theorem coprocessorCommit_store_shows {asd : Word} {size addr off : Nat} (hop : x.op = .st asd size addr off) (hacc : (s.cluster (e / 8)).acc = [])
    (hroom : x.writes.length ≤ 256) (hrd : x.rd % 32 ≠ 0) : Tbl.rd (fun _ => 0) ((coprocessorCommit e s).engine e).x (x.rd % 32) = word x.ticket := by
  rw [coprocessorCommit_store hx hfault hop (by rw [State.bufUsed_of_empty hacc]; omega), State.x_pump_of_writes ?writes, State.engine_addAcc]
  case writes =>
    intro a ha
    rw [State.acc_addAcc, State.commitTicket, State.cluster_modEngine, hacc, List.nil_append] at ha
    obtain ⟨l, -, rfl⟩ := List.mem_map.1 ha
    exact Nat.mul_add_mod ..
  rw [State.commitTicket, State.engine_modEngine]
  exact Engine.rd_setX _ _ hrd

end Commit

/-! ### Deferral (R265) -/

section Defer

variable {s : State} {e k : Nat}

theorem speculativeReadDefer_of_none (h : (s.engine e).entry k = none) : speculativeReadDefer e k s = s := by simp only [speculativeReadDefer, h]

theorem speculativeReadDefer_shows {x : CpEntry} (hx : (s.engine e).entry k = some x) (hstarted : x.started = true) (hcommitted : x.committed = false) :
    ((speculativeReadDefer e k s).engine e).entry k = some { x with started := false, deferred := true, reads := opReads x.op, staged := [] } := by
  have hk : x.ticket = k := by simpa using List.find?_some hx
  simp only [speculativeReadDefer, hx, hstarted, hcommitted]
  rw [if_neg (by decide), if_neg (by decide), State.engine_modEngine, (State.discardAcc_only (Sub.refl _) (Only.refl _ s)).engine_eq e,
    Engine.entry_modEntry _ _ _ fun c => by split_ifs <;> rfl, hx]
  simp [hk, hcommitted]

end Defer

/-! ### Answers (R263, R267) -/

/-- The tag of an entry's line gives the ticket, the line and the kind back. -/
theorem cpTag_parts (ticket l kind : Nat) (hl : l < 64) (hkind : kind < 8) :
    cpTag ticket l kind / 8 / 64 = ticket ∧ cpTag ticket l kind / 8 % 64 = l ∧ cpTag ticket l kind % 8 = kind := by
  unfold cpTag
  omega

section Response

variable {s : State} {e tag status slag : Nat} {data : List Byte} {a : FarAcc}

theorem State.forgetReqs_decodeQ {q : MemReq} (h : s.decodeQ.contains q = false) : (s.forgetReqs fun p => p = q).decodeQ = s.decodeQ := by
  refine List.filter_eq_self.2 fun p hp => ?_
  have hne : p ≠ q := fun hpq => by simp [← hpq, hp] at h
  simp [hne]

theorem farResponse_of_none (h : (s.cluster (e / 8)).acc.find? (fun a => a.engine = e && a.tag = tag && a.issued) = none) : farResponse e tag status slag data s = s := by
  simp only [farResponse, h]

variable (ha : (s.cluster (e / 8)).acc.find? (fun y => y.engine = e && y.tag = tag && y.issued) = some a) (hdenied : s.denials.find? (fun y => y.1 = accReq a) = none)

include ha hdenied

theorem farResponse_of_unsent (h : s.unsent a = true ∨ status = 2 ∨ status = 3) : farResponse e tag status slag data s = s := by
  simp only [farResponse, ha, hdenied]
  refine if_pos ?_
  rcases h with h | h | h <;> simp [h]

theorem farResponse_answers (hsent : s.unsent a = false) (h2 : status ≠ 2) (h3 : status ≠ 3) : farResponse e tag status slag data s =
    (((s.forgetReqs fun q => q = accReq a).engineOver e fun t => t = tag).farAnswer (e / 8) e tag (min 5 status) slag data).pump (e / 8) := by
  simp only [farResponse, ha, hdenied]
  rw [if_neg (by simp [hsent, h2, h3])]

end Response

section WriteEnds

variable {s : State} {e tag status slag : Nat} {data : List Byte} {x : CpEntry} {a : FarAcc}

/-- An entry has committed and waits for the answer of line 0's write alone, with every answer so far OK. -/
structure CpEntry.LastWrite (x : CpEntry) : Prop where
  committed : x.committed = true
  reads : x.reads = []
  writes : x.writes = [0]
  status : x.status = 0

/-- The answer finishes the entry, and its status stays with its ticket. -/
theorem Engine.retire_lastWrite {y : Engine} {st : Nat} (hx : x.LastWrite) (hqueue : y.queue = [x]) (f : JobRun → JobRun) :
    (Engine.retire { (y.takeStatus x.ticket st).wroteLine x.ticket 0 with job := y.job.map f }).queue = [] ∧
      Tbl.rd (fun _ => 0) (Engine.retire { (y.takeStatus x.ticket st).wroteLine x.ticket 0 with job := y.job.map f }).results x.ticket = st := by
  simp [Engine.retire, Engine.wroteLine, Engine.takeStatus, Engine.modEntry, CpEntry.finished, hqueue, hx.committed, hx.reads, hx.writes, hx.status]

variable (hx : x.LastWrite) (hqueue : (s.engine e).queue = [x])

include hx hqueue

theorem State.cpAnswer_lastWrite :
    ((s.cpAnswer e (cpTag x.ticket 0 1) status slag data).engine e).queue = [] ∧
      Tbl.rd (fun _ => 0) ((s.cpAnswer e (cpTag x.ticket 0 1) status slag data).engine e).results x.ticket = status + (if 4 ≤ status then slag % 16 * 256 else 0) := by
  obtain ⟨hticket, hline, hkind⟩ := cpTag_parts x.ticket 0 1 (by decide) (by decide)
  have hentry : (s.engine e).entry (cpTag x.ticket 0 1 / 8 / 64) = some x := by simp [Engine.entry, hqueue, hticket]
  rw [State.cpAnswer_of_write hkind hentry, hline, State.engine_modEngine, State.modRun, State.engine_modEngine, State.engine_modEngine, State.engine_modEngine]
  exact Engine.retire_lastWrite hx hqueue _

variable (hacc : (s.cluster (e / 8)).acc = [a]) (hengine : a.engine = e) (htag : a.tag = cpTag x.ticket 0 1)

include hacc hengine htag

/-- Answered, the only access of a cluster is gone, and its entry with it. -/
theorem State.farAnswer_lastWrite {t : State} (ht : t = s.farAnswer (e / 8) e (cpTag x.ticket 0 1) status slag data) : (t.engine e).queue = [] ∧
    Tbl.rd (fun _ => 0) (t.engine e).results x.ticket = status + (if 4 ≤ status then slag % 16 * 256 else 0) ∧ (t.cluster (e / 8)).acc = [] ∧ t.decodeQ = s.decodeQ := by
  obtain ⟨-, -, hkind⟩ := cpTag_parts x.ticket 0 1 (by decide) (by decide)
  rw [State.farAnswer_of_entry (by omega)] at ht
  subst ht
  have hcounted := State.farBytes_only (c := e / 8) (e := e) (tag := cpTag x.ticket 0 1) (status := status) (Sub.refl _) (Only.refl _ s)
  have hdropped : Only (partsMask [.reg .CNT_VAL, .field .clusters]) s ((s.farBytes (e / 8) e (cpTag x.ticket 0 1) status).dropAcc (e / 8) e (cpTag x.ticket 0 1)) :=
    State.dropAcc_only rfl (State.farBytes_only rfl (Only.refl _ s))
  have hempty : (((s.farBytes (e / 8) e (cpTag x.ticket 0 1) status).dropAcc (e / 8) e (cpTag x.ticket 0 1)).cluster (e / 8)).acc = [] := by
    rw [State.acc_dropAcc, hcounted.cluster_eq, hacc]
    simp [hengine, htag]
  obtain ⟨hdone, hresult⟩ := State.cpAnswer_lastWrite (status := status) (slag := slag) (data := data) hx ((congrArg Engine.queue (hdropped.engine_eq e)).trans hqueue)
  refine ⟨hdone, hresult, ?_, ((State.cpAnswer_only (Sub.refl _) (Only.refl _ _)).2 (.field .decodeQ) (by decide)).trans (hdropped.2 (.field .decodeQ) (by decide))⟩
  rwa [State.cluster, (State.cpAnswer_of_write_keeps hkind e).1]

/-- The answer of the only write of a cluster, an entry's last line, ends the entry. -/
theorem farResponse_lastWrite (hissued : a.issued = true) (hsent : s.unsent a = false) (hdenied : s.denials.find? (fun y => y.1 = accReq a) = none) (hst : status < 6)
    (h2 : status ≠ 2) (h3 : status ≠ 3) {t : State} (ht : t = farResponse e (cpTag x.ticket 0 1) status slag data s) : (t.engine e).queue = [] ∧
      Tbl.rd (fun _ => 0) (t.engine e).results x.ticket = status + (if 4 ≤ status then slag % 16 * 256 else 0) ∧ (t.cluster (e / 8)).acc = [] ∧ t.decodeQ = s.decodeQ := by
  have hfound : (s.cluster (e / 8)).acc.find? (fun y => y.engine = e && y.tag = cpTag x.ticket 0 1 && y.issued) = some a := by simp [hacc, hengine, htag, hissued]
  have hover : Only (partsMask [.field .decodeQ, .field .resolved, .field .denials, .field .accesses]) s
      ((s.forgetReqs fun q => q = accReq a).engineOver e fun t => t = cpTag x.ticket 0 1) := State.engineOver_only rfl (State.forgetReqs_only rfl (Only.refl _ s))
  have hunqueued : s.decodeQ.contains (accReq a) = false := by
    simp only [State.unsent, Bool.or_eq_false_iff] at hsent
    exact hsent.1.1.1
  obtain ⟨hdone, hresult, hempty, hdecode⟩ := State.farAnswer_lastWrite (status := status) (slag := slag) (data := data) hx
    ((congrArg Engine.queue (hover.engine_eq e)).trans hqueue) ((congrArg Cluster.acc (hover.cluster_eq _)).trans hacc) hengine htag rfl
  rw [farResponse_answers hfound hdenied hsent h2 h3, Nat.min_eq_right (by omega), State.pump_of_empty hempty] at ht
  subst ht
  exact ⟨hdone, hresult, hempty, hdecode.trans (State.forgetReqs_decodeQ hunqueued)⟩

end WriteEnds

/-- Settles O28: a decoded instruction by the entry that waits for it, which no answer to another access ends; a commit by the operation of the oldest entry that has not committed;
a write's answer by the entry whose last line it ends. -/
theorem coprocessorQueue : Obligations.CoprocessorQueue := by
  unfold Obligations.CoprocessorQueue
  refine ⟨?ld, ?st, ?copy, ?fill, ?amo, ?wait, ?fence, ?crc, ?done, ?submit, ?stall, ?nothing, ?fault, ?commitWait, ?commitAll, ?waitAll, ?waitFence, ?commitCrc, ?commitDone,
    ?commitSubmit, ?commitStore, ?noEntry, ?defer, ?noYounger, ?squash, ?notIssued, ?notSent, ?writeEnds⟩
  case ld | st | copy => exact fun s e rd a sz ad off k he hrun hfree => State.decodeOp_runs he hrun hfree
  case fill | amo => exact fun s e rd a sz ad w k he hrun hfree => State.decodeOp_runs he hrun hfree
  case wait => exact fun s e rd tk k he hrun hfree => State.decodeOp_runs he hrun hfree
  case fence => exact fun s e sz k he hrun hfree => State.decodeOp_runs he hrun hfree
  case crc => exact fun s e rd ad off k he hrun hfree => State.decodeOp_runs he hrun hfree
  case done => exact fun s e sz off k he hrun hfree => State.decodeOp_runs he hrun hfree
  case submit => exact fun s e rd off sz k he hrun hfree => State.decodeOp_runs he hrun hfree
  case stall =>
    intro s e rd a sz ad off w tk he hstall
    have hkeeps : ∀ rd op, run (decide (e < 128)) (s.decodeOp e rd op) = .next s := fun rd op => run_to he (State.decodeOp_of_stall hstall)
    exact ⟨hkeeps _ _, hkeeps _ _, hkeeps _ _, hkeeps _ _, hkeeps _ _, hkeeps _ _, hkeeps _ _, hkeeps _ _, hkeeps _ _, hkeeps _ _⟩
  case nothing => exact fun s e he h => run_to he (coprocessorCommit_of_none h)
  case fault => exact fun s e x cause tval he hx hfault => ⟨_, run_to he (coprocessorCommit_of_fault hx hfault), s.trap_shows e x cause tval⟩
  case commitWait =>
    exact fun s e x k he hx hfault hop hgone hrd =>
      ⟨_, run_to he (coprocessorCommit_wait hx hfault hop hgone), s.rd_commitValue e _ hrd, congrArg Engine.queue (s.engine_commitValue ..)⟩
  case commitAll =>
    intro s e x he hx hfault hop hfirst hrd
    refine ⟨_, run_to he (coprocessorCommit_waitAll hx hfault hop hfirst), ?_⟩
    rw [State.engine_modEngine]
    exact ⟨s.rd_commitValue e _ hrd, rfl⟩
  case waitAll => exact fun s e x he hx hfault hop hfirst => run_to he (coprocessorCommit_waitAll_waits hx hfault hop hfirst)
  case waitFence => exact fun s e x k he hx hfault hop hopen => run_to he (coprocessorCommit_fence_waits hx hfault hop hopen)
  case commitCrc =>
    exact fun s e x k len he hx hfault hop hrd =>
      ⟨_, run_to he (coprocessorCommit_crc hx hfault hop), congrArg Engine.queue (s.engine_commitValue ..), s.rd_commitValue e _ hrd⟩
  case commitDone =>
    intro s e x k off r he hx hfault hop hjob hnone hk
    refine ⟨_, run_to he (coprocessorCommit_done hx hfault hop), ?_⟩
    rw [State.kernelDone_outcome ((s.jobRun_modEngine e _).trans hjob) hnone hk, State.engine_modEngine]
    rfl
  case commitSubmit =>
    exact fun s e x off k he hx hfault hop hrd hk => ⟨_, run_to he (coprocessorCommit_submit_missing hx hfault hop hk), s.rd_commitValue e _ hrd, rfl⟩
  case commitStore => exact fun s e x asd sz ad off he hx hfault hop hacc hroom hrd => ⟨_, run_to he rfl, coprocessorCommit_store_shows hx hfault hop hacc hroom hrd⟩
  case noEntry => exact fun s e k he h => run_to he (speculativeReadDefer_of_none h)
  case defer => exact fun s e k x he hx hstarted hcommitted => ⟨_, run_to he rfl, speculativeReadDefer_shows hx hstarted hcommitted⟩
  case noYounger => exact fun s e k he h => run_to he (coprocessorSquash_of_none s e h)
  case squash =>
    intro s e k l he h hl
    refine ⟨_, run_to he (coprocessorSquash_removes s e h hl), ?_⟩
    rw [State.engine_removeEntries]
    exact ⟨Engine.remove_queue .., Engine.remove_dmSquash .., s.get_removeEntries_squash e l l.length⟩
  case notIssued => exact fun s e tag st sl d he h => run_to he (farResponse_of_none h)
  case notSent => exact fun s e tag st sl d a he ha hdenied h => run_to he (farResponse_of_unsent ha hdenied h)
  case writeEnds =>
    exact fun s e st sl d a x he hacc hengine htag hissued hqueue hcommitted hreads hwrites hstatus hsent hdenied hst h2 h3 =>
      ⟨_, run_to he rfl, farResponse_lastWrite ⟨hcommitted, hreads, hwrites, hstatus⟩ hqueue hacc hengine htag hissued hsent hdenied hst h2 h3 rfl⟩

end Sys2Proof.Machine

namespace Sys2Proof.Machine

-- Proofs are elaborated one after another: each proof thread costs the check 256 MB of stack.
set_option Elab.async false

set_option exponentiation.threshold 500

/-! ### Submission (R268, R269) -/

section Submit

variable {G : Nat} {s t : State} {c : Nat}

theorem State.clusters_set (s : State) (F : Fld) (i v : Nat) : (s.set F i v).clusters = s.clusters := (rfl)

theorem State.clusters_count (s : State) (F : Fld) (i n : Nat) : (s.count F i n).clusters = s.clusters := (rfl)

/-- The admission status depends on the cluster's queue, its programs and engines, and its region. -/
theorem Only.admission_eq (h : Only G s t) (c : Nat) (desc : List Word) (hclusters : G.testBit (256 + StateField.ctorIdx .clusters) = false := by decide)
    (hcfg : G.testBit (RegKind.ctorIdx .TNG_CL_CFG) = false := by decide) (hkrn : G.testBit (RegKind.ctorIdx .TNG_KRN) = false := by decide)
    (hstat : G.testBit (RegKind.ctorIdx .TNG_CL_STAT) = false := by decide) (hregion : G.testBit (RegKind.ctorIdx .FLT_REG_STAT) = false := by decide) :
    t.admission c desc = s.admission c desc := by
  have hholders : ∀ svc, t.holdersOf c svc = s.holdersOf c svc := fun svc => by
    unfold State.holdersOf State.flag
    rw [h.get_eq TNG_CL_CFG.FW_MASK c hcfg, h.get_eq TNG_KRN.VALID _ hkrn, h.get_eq TNG_KRN.ENG_MASK _ hkrn, h.get_eq TNG_CL_STAT.LIVE c hstat]
  have hstate : t.regionState (c / 4) = s.regionState (c / 4) := h.get_eq FLT_REG_STAT.STATE _ hregion
  unfold State.admission
  extract_lets svc
  rw [h.cluster_eq c hclusters, hholders, hstate]

theorem State.admission_le (s : State) (c : Nat) (desc : List Word) : s.admission c desc ≤ 4 := by
  unfold State.admission
  extract_lets svc
  split_ifs <;> omega

/-- A job queued is the last of its cluster, at the next place, with the next JOB_ID unless it is the device's own. -/
theorem State.queueJob_queue (s : State) (c : Nat) (desc : List Word) (origin : Nat) : ((s.queueJob c desc origin).cluster c).queue =
    (s.cluster c).queue ++ [⟨if origin = 2 then none else some (s.cluster c).nextId, (s.cluster c).nextSeq, desc, origin⟩] := by
  unfold State.queueJob
  extract_lets x j u v
  have hv : v.cluster c = u.cluster c := u.cluster_set ..
  have hu : (u.cluster c).queue = x.queue ++ [j] := congrArg Cluster.queue (s.cluster_setCluster ..)
  rw [← hu, ← hv]
  refine congrArg Cluster.queue ?_
  by_cases h5 : j.service = 5
  · rw [if_pos h5]
    rfl
  · rw [if_neg h5]

/-- A submission that is refused queues nothing. -/
theorem State.submitJob_refused (s : State) (c : Nat) (desc : List Word) (origin : Nat) (h : s.admission c desc ≠ 0) : (s.submitJob c desc origin).clusters = s.clusters := by
  unfold State.submitJob
  split
  · contradiction
  · rfl
  · exact s.clusters_count ..

/-- The result of a submission, written with its status and, where it was admitted, its JOB_ID. -/
def State.submitResult (s : State) (c st id : Nat) : State :=
  (if st = 0 then (s.set TNG_SUB_RES.STATUS c st).set TNG_SUB_ID.JOB_ID c id else s.set TNG_SUB_RES.STATUS c st).resultDone TNG_SUB_RES.SEQ TNG_SUB_RES.VALID c

theorem State.submitResult_shows (s : State) (c id : Nat) {st : Nat} (hst : st < 16) : (s.submitResult c st id).get TNG_SUB_RES.STATUS c = st ∧
    (s.submitResult c st id).get TNG_SUB_RES.VALID c = 1 ∧ (s.submitResult c st id).get TNG_SUB_RES.SEQ c = (s.get TNG_SUB_RES.SEQ c + 1) % 256 ∧
    (s.submitResult c st id).clusters = s.clusters := by
  unfold State.submitResult State.resultDone State.bump
  set u := if st = 0 then (s.set TNG_SUB_RES.STATUS c st).set TNG_SUB_ID.JOB_ID c id else s.set TNG_SUB_RES.STATUS c st with hdef
  have hu : u.get TNG_SUB_RES.STATUS c = st ∧ u.get TNG_SUB_RES.SEQ c = s.get TNG_SUB_RES.SEQ c ∧ u.clusters = s.clusters := by
    have hstatus := s.get_set_fits (F := TNG_SUB_RES.STATUS) c (by decide) hst
    have hseq := s.get_set_bits (F := TNG_SUB_RES.STATUS) (G := TNG_SUB_RES.SEQ) c c st (by decide) (by decide)
    rw [hdef]
    split_ifs
    · rw [State.get_set_kind _ _ _ _ (show TNG_SUB_RES.STATUS.reg ≠ TNG_SUB_ID.JOB_ID.reg by decide),
        State.get_set_kind _ _ _ _ (show TNG_SUB_RES.SEQ.reg ≠ TNG_SUB_ID.JOB_ID.reg by decide), State.clusters_set, State.clusters_set]
      exact ⟨hstatus, hseq, rfl⟩
    · exact ⟨hstatus, hseq, State.clusters_set ..⟩
  obtain ⟨hstatus, hseq, hclusters⟩ := hu
  refine ⟨?_, State.get_set_fits _ c (by decide) (by decide), ?_, ?_⟩
  · rw [State.get_set_bits _ _ _ _ (by decide) (by decide), State.get_set_bits _ _ _ _ (by decide) (by decide), hstatus]
  · rw [State.get_set_bits _ _ _ _ (by decide) (by decide), State.get_set_self _ _ _ (by decide) (by decide), hseq]
    rfl
  · rw [State.clusters_set, State.clusters_set, hclusters]

theorem State.submitResult_id (s : State) (c id : Nat) : (s.submitResult c 0 id).get TNG_SUB_ID.JOB_ID c = id % 2 ^ 32 := by
  unfold State.submitResult State.resultDone State.bump
  rw [State.get_set_kind _ _ _ _ (by decide), State.get_set_kind _ _ _ _ (by decide), if_pos rfl, State.get_set_self _ _ _ (by decide) (by decide)]
  rfl

/-- The words of the owner's descriptor. -/
abbrev State.subDesc (s : State) (c : Nat) : List Word := (List.range 8).map fun k => s.reg .TNG_SUB_DESC (8 * c + k)

theorem tngSubGo_eq (c : Nat) (s : State) : tngSubGo c s =
    ((s.resultStart TNG_SUB_RES.VALID c).submitJob c (s.subDesc c) 0).submitResult c (s.admission c (s.subDesc c)) (s.cluster c).nextId := (rfl)

/-- Before a submission its result's VALID is 0 and everything else as it was. -/
theorem State.resultStart_submit (s : State) (c : Nat) : Only (partsMask [.reg .TNG_SUB_RES]) s (s.resultStart TNG_SUB_RES.VALID c) := State.set_only rfl (Only.refl _ s)

theorem State.submitJob_seq (s : State) (c : Nat) (desc : List Word) :
    ((s.resultStart TNG_SUB_RES.VALID c).submitJob c desc 0).get TNG_SUB_RES.SEQ c = s.get TNG_SUB_RES.SEQ c := by
  rw [(State.submitJob_only (Sub.refl _) (Only.refl _ _)).get_eq TNG_SUB_RES.SEQ, State.resultStart, State.get_set_bits _ _ _ _ (by decide) (by decide)]

theorem tngSubGo_shows (c : Nat) (s : State) : (tngSubGo c s).get TNG_SUB_RES.STATUS c = s.admission c (s.subDesc c) ∧ (tngSubGo c s).get TNG_SUB_RES.VALID c = 1 ∧
    (tngSubGo c s).get TNG_SUB_RES.SEQ c = (s.get TNG_SUB_RES.SEQ c + 1) % 256 ∧
    (tngSubGo c s).clusters = ((s.resultStart TNG_SUB_RES.VALID c).submitJob c (s.subDesc c) 0).clusters := by
  have hle := s.admission_le c (s.subDesc c)
  have hseq := s.submitJob_seq c (s.subDesc c)
  rw [tngSubGo_eq, ← hseq]
  exact State.submitResult_shows _ c _ (by omega)

theorem tngSubGo_admits (h : s.admission c (s.subDesc c) = 0) : (tngSubGo c s).get TNG_SUB_ID.JOB_ID c = (s.cluster c).nextId % 2 ^ 32 ∧
    ((tngSubGo c s).cluster c).queue = (s.cluster c).queue ++ [⟨some (s.cluster c).nextId, (s.cluster c).nextSeq, s.subDesc c, 0⟩] := by
  obtain ⟨-, -, -, hclusters⟩ := tngSubGo_shows c s
  have hadmits : (s.resultStart TNG_SUB_RES.VALID c).admission c (s.subDesc c) = 0 := ((s.resultStart_submit c).admission_eq c _).trans h
  constructor
  · rw [tngSubGo_eq, h, State.submitResult_id]
  · rw [State.cluster, hclusters, ← State.cluster]
    simp only [State.submitJob, hadmits]
    rw [State.queueJob_queue, (s.resultStart_submit c).cluster_eq c]
    rfl

theorem tngSubGo_refused (h : s.admission c (s.subDesc c) ≠ 0) : (tngSubGo c s).clusters = s.clusters := by
  obtain ⟨-, -, -, hclusters⟩ := tngSubGo_shows c s
  rw [hclusters, State.submitJob_refused]
  · exact (s.resultStart_submit c).clusters_eq
  · rwa [(s.resultStart_submit c).admission_eq]

theorem deviceJobSubmit_of_fenced {f : Bool} {a : Nat} (h : s.regionState (c / 4) = 1) : deviceJobSubmit c f a s = s := if_pos h

theorem deviceJobSubmit_sweep {a : Nat} (h : s.regionState (c / 4) ≠ 1) :
    deviceJobSubmit c false a s = s.queueJob c [6, 0, 0, 0, word (a % 2048), 0, 0, 0] 2 := if_neg h

end Submit

/-! ### Dispatch (R258, R271) -/

section Dispatch

variable {s : State} {c e : Nat} {j : Job}

theorem jobDispatch_of_barred (h : s.regionState (c / 4) = 1 ∨ s.banked (128 + c) = true) : jobDispatch c s = s := if_pos h

theorem jobDispatch_grants (hregion : s.regionState (c / 4) ≠ 1) (hbanked : s.banked (128 + c) = false)
    (hj : (s.cluster c).queue.find? (fun y => s.eligible' c y && (decide (s.holdersOf c y.service = 0) || (s.idleHolder c y.service).isSome)) = some j)
    (he : s.idleHolder c j.service = some e) : jobDispatch c s = s.grantJob c e j := by
  unfold jobDispatch
  rw [if_neg (by simp [hregion, hbanked])]
  simp only [hj, he]

/-- What an engine shows once a job is granted to it. -/
def State.showGrant (s : State) (c e : Nat) (j : Job) : State :=
  (((s.set TNG_ENG_STAT.STATE e 1).set TNG_ENG_STAT.SERVICE e j.service).set TNG_ENG_STAT.JOB_ID e (j.id.getD 0)).setBit TNG_CL_STAT.BUSY c (e % 8) true

theorem State.showGrant_only (s : State) (c e : Nat) (j : Job) : Only (partsMask [.reg .TNG_ENG_STAT, .reg .TNG_CL_STAT]) s (s.showGrant c e j) :=
  State.setBit_only rfl (State.set_only rfl (State.set_only rfl (State.set_only rfl (Only.refl _ s))))

theorem State.showGrant_shows (s : State) (c e : Nat) (j : Job) : (s.showGrant c e j).engState e = 1 ∧ (s.showGrant c e j).get TNG_ENG_STAT.SERVICE e = j.service % 256 ∧
    (s.showGrant c e j).get TNG_ENG_STAT.JOB_ID e = j.id.getD 0 % 2 ^ 32 := by
  unfold State.showGrant State.engState State.setBit
  rw [State.get_set_kind _ _ _ _ (show TNG_ENG_STAT.STATE.reg ≠ TNG_CL_STAT.BUSY.reg by decide), State.get_set_kind _ _ _ _ (show TNG_ENG_STAT.SERVICE.reg ≠ TNG_CL_STAT.BUSY.reg by decide),
    State.get_set_kind _ _ _ _ (show TNG_ENG_STAT.JOB_ID.reg ≠ TNG_CL_STAT.BUSY.reg by decide)]
  refine ⟨?_, ?_, State.get_set_self _ _ _ (by decide) (by decide)⟩
  · rw [State.get_set_bits _ _ _ _ (by decide) (by decide), State.get_set_bits _ _ _ _ (by decide) (by decide), State.get_set_fits _ _ (by decide) (by decide)]
  · rw [State.get_set_bits _ _ _ _ (by decide) (by decide), State.get_set_self _ _ _ (by decide) (by decide)]
    rfl

/-- An engine granted a job runs it, and the job has left the queue. -/
theorem State.grantJob_shows (s : State) (c e : Nat) (j : Job) : ((s.grantJob c e j).jobRun e).map JobRun.job = some j ∧
    ((s.grantJob c e j).cluster c).queue = (s.cluster c).queue.erase j ∧ (s.grantJob c e j).engState e = 1 ∧
    (s.grantJob c e j).get TNG_ENG_STAT.SERVICE e = j.service % 256 ∧ (s.grantJob c e j).get TNG_ENG_STAT.JOB_ID e = j.id.getD 0 % 2 ^ 32 := by
  unfold State.grantJob
  extract_lets +onlyGivenNames -underBinder -merge u v id run w s1 s2 s3 s4
  have hw : w.jobRun e = some run := by
    refine (u.jobRun_modEngine e _).trans ?_
    simp only [Engine.setX_job]
  have hqueue : (w.cluster c).queue = (s.cluster c).queue.erase j :=
    congrArg Cluster.queue ((u.cluster_modEngine e c _).trans ((State.cluster_set ..).trans (s.cluster_modCluster c _)))
  have hgrant := w.showGrant_only c e j
  obtain ⟨hstate, hservice, hid⟩ := w.showGrant_shows c e j
  have hrun : s4.jobRun e = some run := (hgrant.jobRun_eq e).trans hw
  have hs4 : (s4.cluster c).queue = (s.cluster c).queue.erase j := (congrArg Cluster.queue (hgrant.cluster_eq c)).trans hqueue
  have hbad := State.finishJob_only (s := s4) (e := e) (status := 0x10) (r0 := 0) (r1 := 0) (Sub.refl _) (Only.refl _ s4)
  split_ifs
  · exact ⟨by rw [State.jobRun_finishJob, hrun]; rfl, (congrArg Cluster.queue (hbad.cluster_eq c)).trans hs4, (hbad.get_eq_of_fields _ e).trans hstate,
      (hbad.get_eq_of_fields _ e).trans hservice, (hbad.get_eq_of_fields _ e).trans hid⟩
  · exact ⟨by rw [hrun]; rfl, hs4, hstate, hservice, hid⟩

end Dispatch
end Sys2Proof.Machine

namespace Sys2Proof.Machine

-- Proofs are elaborated one after another: each proof thread costs the check 256 MB of stack.
set_option Elab.async false

set_option exponentiation.threshold 500

/-! ### Services (R272) -/

section Services

variable {s : State} {e svc : Nat} {r : JobRun} {f : JobRun → Nat → List FarAcc}

/-- A job that runs has an outcome once it is finished. -/
theorem State.finishJob_ends (hjob : s.jobRun e = some r) (status r0 r1 : Nat) :
    ((s.finishJob e status r0 r1).jobRun e).map (fun y : JobRun => y.outcome.isSome) = some true := by
  rw [State.jobRun_finishJob, hjob]
  cases hr : r.outcome <;> simp [hr]

theorem State.finishJob_outcome (hjob : s.jobRun e = some r) (hnone : r.outcome = none) (status r0 r1 : Nat) :
    ((s.finishJob e status r0 r1).jobRun e).map JobRun.outcome = some (some (status, r0, r1)) := by
  rw [State.jobRun_finishJob, hjob]
  simp [hnone]

/-- Taking the lines of a burst leaves the job, its failure and the next line to ask for. -/
theorem State.takeLines_keeps (hjob : s.jobRun e = some r) :
    ∃ q, (s.takeLines e).jobRun e = some q ∧ q.job = r.job ∧ q.fail = r.fail ∧ q.next = r.next := by
  have hmod : ∀ g : JobRun → JobRun, (∀ q, (g q).job = q.job ∧ (g q).fail = q.fail ∧ (g q).next = q.next) →
      ∃ q, (s.modRun e g).jobRun e = some q ∧ q.job = r.job ∧ q.fail = r.fail ∧ q.next = r.next :=
    fun g hg => ⟨g r, by rw [State.jobRun_modRun, hjob]; rfl, hg r⟩
  unfold State.takeLines
  simp only [hjob]
  split_ifs
  · exact hmod _ fun q => ⟨rfl, rfl, rfl⟩
  · split
    · exact hmod _ fun q => by split_ifs <;> exact ⟨rfl, rfl, rfl⟩
    · exact hmod _ fun q => ⟨rfl, rfl, rfl⟩
  · exact ⟨r, hjob, rfl, rfl, rfl⟩

variable (hjob : s.jobRun e = some r) (hsvc : r.job.service = svc) (hnone : r.outcome = none) (hidle : (s.cluster (e / 8)).acc.any (fun a => a.engine = e) = false)
  (hok : r.fail = 0)

include hjob hsvc hnone hidle hok

/-- A service that has asked for its last line, and whose accesses are all answered, ends. -/
theorem State.settleJob_ends (h0 : svc ≠ 0) (h5 : svc < 5) (hlast : r.job.total ≤ r.next) :
    ((s.settleJob e).jobRun e).map (fun y : JobRun => y.outcome.isSome) = some true := by
  obtain ⟨q, hq, hqjob, hqfail, hqnext⟩ := State.takeLines_keeps hjob
  have hruns : (r.outcome.isSome || decide (svc = 0) || decide (5 ≤ svc) || (s.cluster (e / 8)).acc.any fun a => a.engine = e) = false := by
    simp only [hnone, hidle, Bool.or_eq_false_iff, decide_eq_false_iff_not]
    exact ⟨⟨⟨rfl, h0⟩, by omega⟩, trivial⟩
  unfold State.settleJob
  simp only [hjob, hsvc, hruns, hok, hq, hqfail, hqjob, hqnext, hlast, ↓reduceIte, Bool.false_eq_true, ne_eq, not_true_eq_false]
  exact State.finishJob_ends hq ..

theorem State.serviceBurst_ends (h0 : svc ≠ 0) (h5 : svc < 5) (hlast : r.job.total ≤ r.next) :
    ((s.serviceBurst e svc f).jobRun e).map (fun y : JobRun => y.outcome.isSome) = some true := by
  have hends := State.settleJob_ends hjob hsvc hnone hidle hok h0 h5 hlast
  unfold State.serviceBurst
  simp only [hjob]
  rwa [if_neg (by simp [hsvc, hnone, hidle]), if_pos (.inr (.inr hlast))]

/-- A service asks for the next lines, 64 at most: what answers come at once leave them asked for. -/
theorem State.serviceBurst_asks (hcancel : r.cancel = false) (hmore : r.next < r.job.total) (hsrc : asdSpace (r.job.word 6) ≠ 2) (hdst : asdSpace (r.job.word 7) ≠ 2) :
    ((s.serviceBurst e svc f).jobRun e).map JobRun.next = some (r.next + min 64 (r.job.total - r.next)) := by
  unfold State.serviceBurst
  simp only [hjob]
  rw [if_neg (by simp [hsvc, hnone, hidle]), if_neg (by simp [hok, hcancel, hmore]), if_neg (by simp [hsrc, hdst])]
  refine (State.settleJob_follows (State.pump_follows _ _) e).next.trans ?_
  rw [State.engine_addAcc, ← State.jobRun, State.jobRun_modRun, hjob]
  rfl

end Services

/-! ### Sweeps and kernels (R233, R258, R272, R274) -/

section Kernels

variable {s : State} {e : Nat} {r : JobRun}

theorem dirSweep_of_empty (hjob : s.jobRun e = some r) (hsvc : r.job.service = 6) (hnone : r.outcome = none) (hempty : s.dirListed = []) :
    dirSweep e s = s.finishJob e 0 0 0 := by
  simp [dirSweep, hjob, hsvc, hnone, hempty]

/-- What ordinary instructions did leaves the engine's mode and job, and the pc is where they came. -/
theorem Engine.runCore_keeps (x : Engine) (c : CoreStep) : (x.runCore c).user = x.user ∧ (x.runCore c).job = x.job ∧ (x.runCore c).pc = c.pc := by
  unfold Engine.runCore
  extract_lets y z
  have hy : y.user = x.user ∧ y.job = x.job := List.foldlRecOn (motive := fun y : Engine => y.user = x.user ∧ y.job = x.job) _ _ ⟨rfl, rfl⟩ fun y hy a _ => by
    unfold Engine.setX
    split_ifs <;> exact hy
  have hz : z.user = x.user ∧ z.job = x.job := List.foldlRecOn (motive := fun y : Engine => y.user = x.user ∧ y.job = x.job) _ _ hy fun y hy a _ => hy
  refine List.foldlRecOn (motive := fun y : Engine => y.user = x.user ∧ y.job = x.job ∧ y.pc = c.pc) _ _ ⟨hz.1, hz.2, rfl⟩ fun y hy a _ => ?_
  unfold Engine.store
  split_ifs <;> exact hy

theorem kernelJob_of_stalled {c : CoreStep} (h : (s.engine e).storeStalls c = true) : kernelJob e c s = s := by
  unfold kernelJob
  split
  · rfl
  · simp [h]

theorem kernelJob_runs {c : CoreStep} (hjob : s.jobRun e = some r) (hsvc : 0x40 ≤ r.job.service) (hnone : r.outcome = none) (huser : (s.engine e).user = true)
    (hfree : (s.engine e).storeStalls c = false) : kernelJob e c s = s.modEngine e fun x => x.runCore c := by
  simp [kernelJob, hjob, hsvc, hnone, huser, hfree]

/-- The entries of an engine that have not committed. -/
abbrev State.uncommitted (s : State) (e : Nat) : List CpEntry := (s.engine e).queue.filter fun c => !c.committed

/-- A kernel that traps, or trapped at a commit: its job ends with KERNEL_FAULT and the cause that the monitor has. -/
theorem kernelFault_ends {a b cause tval : Nat} (hjob : s.jobRun e = some r) (hsvc : 0x40 ≤ r.job.service) (hnone : r.outcome = none)
    (hcause : (if (s.engine e).user then (a, b) else ((s.engine e).mcause, (s.engine e).mtval)) = (cause, tval)) : kernelFault e a b s =
      ((s.removeEntries e (s.uncommitted e) (s.uncommitted e).length).modEngine e fun x => { x with mcause := cause, mtval := tval, user := false }).finishJob e 0x13 cause tval := by
  have hkept : (if ((s.removeEntries e (s.uncommitted e) (s.uncommitted e).length).engine e).user then (a, b)
      else (((s.removeEntries e (s.uncommitted e) (s.uncommitted e).length).engine e).mcause, ((s.removeEntries e (s.uncommitted e) (s.uncommitted e).length).engine e).mtval)) =
      (cause, tval) := by rwa [State.engine_removeEntries, Engine.remove_user, Engine.remove_mcause, Engine.remove_mtval]
  unfold kernelFault
  split
  next hnojob => exact absurd (hnojob.symm.trans hjob) (by simp)
  next q hq =>
  obtain rfl : r = q := Option.some.inj (hjob.symm.trans hq)
  rw [if_neg (by simp [hnone, hsvc])]
  extract_lets gone u
  split
  next x cause' tval' heq =>
  obtain ⟨rfl, rfl⟩ : cause = cause' ∧ tval = tval' := Prod.mk.inj (hkept.symm.trans heq)
  rfl

/-- The monitor takes a trap and the job ends with its cause. -/
theorem State.faultEnds_shows (hjob : s.jobRun e = some r) (hnone : r.outcome = none) {cause tval : Nat} {t : State}
    (ht : t = (s.modEngine e fun x => { x with mcause := cause, mtval := tval, user := false }).finishJob e 0x13 cause tval) :
    (t.jobRun e).map JobRun.outcome = some (some (0x13, cause, tval)) ∧ (t.engine e).mcause = cause ∧ (t.engine e).mtval = tval ∧ (t.engine e).user = false := by
  subst ht
  refine ⟨State.finishJob_outcome ((State.jobRun_modEngine ..).trans hjob) hnone .., ?_⟩
  rw [State.engine_finishJob, State.engine_modEngine]
  exact ⟨rfl, rfl, rfl⟩

theorem kernelFault_shows {a b cause tval : Nat} (hjob : s.jobRun e = some r) (hsvc : 0x40 ≤ r.job.service) (hnone : r.outcome = none)
    (hcause : (if (s.engine e).user then (a, b) else ((s.engine e).mcause, (s.engine e).mtval)) = (cause, tval)) :
    ((kernelFault e a b s).jobRun e).map JobRun.outcome = some (some (0x13, cause, tval)) ∧ ((kernelFault e a b s).engine e).mcause = cause ∧
      ((kernelFault e a b s).engine e).mtval = tval ∧ ((kernelFault e a b s).engine e).user = false :=
  State.faultEnds_shows ((s.jobRun_removeEntries ..).trans hjob) hnone (kernelFault_ends hjob hsvc hnone hcause)

end Kernels
end Sys2Proof.Machine

namespace Sys2Proof.Machine

-- Proofs are elaborated one after another: each proof thread costs the check 256 MB of stack.
set_option Elab.async false

set_option exponentiation.threshold 500

/-! ### Completion records (R273, R274, R276) -/

section Records

variable {s : State} {c e : Nat} {r : JobRun} {w : List Word}

/-- The result words of a record and its fourth. -/
def State.writeWords (s : State) (c : Nat) (w : List Word) : State :=
  ((s.setReg .TNG_CQ (16384 * c + 4 * s.get TNG_CQ_PTR.TAIL c + 1) (w.getD 1 0)).setReg .TNG_CQ (16384 * c + 4 * s.get TNG_CQ_PTR.TAIL c + 2) (w.getD 2 0)).setReg .TNG_CQ
    (16384 * c + 4 * s.get TNG_CQ_PTR.TAIL c + 3) (w.getD 3 0)

/-- The four words of a record, with the lap's PHASE in the first (R273). -/
def State.writeRecord (s : State) (c : Nat) (w : List Word) : State :=
  (s.writeWords c w).setReg .TNG_CQ (16384 * c + 4 * s.get TNG_CQ_PTR.TAIL c) (Word.setField (w.getD 0 0) 0 0 ((s.writeWords c w).get TNG_CQ_PTR.PHASE c))

theorem State.writeRecord_only (s : State) (c : Nat) (w : List Word) : Only (partsMask [.reg .TNG_CQ]) s (s.writeRecord c w) :=
  State.setReg_only rfl (State.setReg_only rfl (State.setReg_only rfl (State.setReg_only rfl (Only.refl _ s))))

theorem State.writeRecord_results (s : State) (c : Nat) (w : List Word) :
    (s.writeRecord c w).reg .TNG_CQ (16384 * c + 4 * s.get TNG_CQ_PTR.TAIL c + 1) = w.getD 1 0 ∧
      (s.writeRecord c w).reg .TNG_CQ (16384 * c + 4 * s.get TNG_CQ_PTR.TAIL c + 2) = w.getD 2 0 := by
  unfold State.writeRecord
  rw [State.reg_setReg_other _ _ (.inr (by omega)), State.reg_setReg_other _ _ (.inr (by omega))]
  unfold State.writeWords
  rw [State.reg_setReg_other _ _ (.inr (by omega)), State.reg_setReg_other _ _ (.inr (by omega)), State.reg_setReg_self,
    State.reg_setReg_other _ _ (.inr (by omega)), State.reg_setReg_self]
  exact ⟨rfl, rfl⟩

/-- The tail passes a record written, and the lap's PHASE turns at the end. -/
def State.passRecord (s : State) (c t : Nat) : State :=
  ((if t = 4095 then s.set TNG_CQ_PTR.PHASE c (1 - s.get TNG_CQ_PTR.PHASE c) else s).set TNG_CQ_PTR.TAIL c (t + 1)).count TNG_CL_CNT.DONE c

theorem State.passRecord_only (s : State) (c t : Nat) : Only (partsMask [.reg .TNG_CQ_PTR, .reg .TNG_CL_CNT]) s (s.passRecord c t) :=
  State.count_only rfl (State.set_only rfl (Only.ite (State.set_only rfl (Only.refl _ s)) (Only.refl _ s)))

theorem State.passRecord_shows (s : State) (c t : Nat) : (s.passRecord c t).get TNG_CQ_PTR.TAIL c = (t + 1) % 4096 ∧
    (s.passRecord c t).get TNG_CL_CNT.DONE c = satAdd TNG_CL_CNT.DONE.width (s.get TNG_CL_CNT.DONE c) 1 := by
  have hphase : Only (partsMask [.reg .TNG_CQ_PTR]) s ((if t = 4095 then s.set TNG_CQ_PTR.PHASE c (1 - s.get TNG_CQ_PTR.PHASE c) else s).set TNG_CQ_PTR.TAIL c (t + 1)) :=
    State.set_only rfl (Only.ite (State.set_only rfl (Only.refl _ s)) (Only.refl _ s))
  unfold State.passRecord
  refine ⟨?_, by rw [State.get_count _ _ _ (by decide), hphase.get_eq TNG_CL_CNT.DONE]⟩
  rw [State.count, State.get_set_kind _ _ _ _ (by decide), State.get_set_self _ _ _ (by decide) (by decide)]
  rfl

theorem State.putRecord_eq (s : State) (c : Nat) (w : List Word) : s.putRecord c w =
    ((s.writeRecord c w).modCluster c fun x => { x with fill := x.fill + 1 }).passRecord c (s.get TNG_CQ_PTR.TAIL c) := (rfl)

/-- A record written at the tail. -/
theorem State.putRecord_shows (s : State) (c : Nat) (w : List Word) : (s.putRecord c w).get TNG_CQ_PTR.TAIL c = (s.get TNG_CQ_PTR.TAIL c + 1) % 4096 ∧
    (s.putRecord c w).get TNG_CL_CNT.DONE c = satAdd TNG_CL_CNT.DONE.width (s.get TNG_CL_CNT.DONE c) 1 ∧
    (s.putRecord c w).cluster c = { s.cluster c with fill := (s.cluster c).fill + 1 } ∧
    (s.putRecord c w).reg .TNG_CQ (16384 * c + 4 * s.get TNG_CQ_PTR.TAIL c + 1) = w.getD 1 0 ∧
    (s.putRecord c w).reg .TNG_CQ (16384 * c + 4 * s.get TNG_CQ_PTR.TAIL c + 2) = w.getD 2 0 := by
  obtain ⟨hr0, hr1⟩ := s.writeRecord_results c w
  have hwritten := s.writeRecord_only c w
  rw [State.putRecord_eq]
  generalize s.writeRecord c w = u at hr0 hr1 hwritten ⊢
  have hpassed := (u.modCluster c fun x => { x with fill := x.fill + 1 }).passRecord_only c (s.get TNG_CQ_PTR.TAIL c)
  obtain ⟨htail, hdone⟩ := (u.modCluster c fun x => { x with fill := x.fill + 1 }).passRecord_shows c (s.get TNG_CQ_PTR.TAIL c)
  refine ⟨htail, ?_, ?_, (hpassed.reg_eq .TNG_CQ _).trans hr0, (hpassed.reg_eq .TNG_CQ _).trans hr1⟩
  · rw [hdone, State.get_modCluster, hwritten.get_eq TNG_CL_CNT.DONE]
  · rw [hpassed.cluster_eq, State.cluster_modCluster, hwritten.cluster_eq]

/-- With room and without NOTIFY a job's record is written at once. -/
theorem State.record'_of_room {j : Job} (hfill : (s.cluster c).fill < 4096) (hrecs : (s.cluster c).recs = []) (hquiet : (j.word 0).field 8 8 = 0) :
    s.record' c j w = s.putRecord c (w.set 0 (Word.setField (w.getD 0 0) 0 0 (s.get TNG_CQ_PTR.PHASE c))) := by
  simp [State.record', hfill, hrecs, hquiet]

theorem State.engineNext_idle (hlive : bitOf (s.get TNG_CL_STAT.LIVE (e / 8)) (e % 8) = true) (hreload : (s.engine e).reload = false) :
    s.engineNext e false = s.set TNG_ENG_STAT.STATE e 0 := by
  simp [State.engineNext, hlive, hreload]

theorem State.engineNext_loads (hlive : bitOf (s.get TNG_CL_STAT.LIVE (e / 8)) (e % 8) = true) : (s.engineNext e true).engState e = 4 := by
  unfold State.engineNext State.engState
  rw [if_neg (by simp [hlive]), if_pos (by simp), (State.showLoaded_only (Sub.refl _) (Only.refl _ _)).get_eq TNG_ENG_STAT.STATE]
  exact State.get_set_fits _ _ (by decide) (by decide)

theorem completionRecordWrite_of_running (hjob : s.jobRun e = some r) (h : r.outcome = none) : completionRecordWrite e s = s := by
  simp only [completionRecordWrite, hjob, h]

/-- A job that has ended OK leaves its engine, and its end is counted. -/
def State.leaveJob (s : State) (e : Nat) (j : Job) : State :=
  (((s.modEngine e fun x => { x with job := none, jobCancel := false }).jobGone j).tallyEngine 7 e).fixed 76 (e / 32)

theorem State.leaveJob_only (s : State) (e : Nat) (j : Job) : Only (partsMask [.reg .CNT_VAL, .field .engines, .field .migWait]) s (s.leaveJob e j) :=
  State.fixed_only rfl (State.tallyEngine_only rfl (State.jobGone_only rfl (State.modEngine_only rfl (Only.refl _ s))))

theorem State.engine_leaveJob (s : State) (e : Nat) (j : Job) : (s.leaveJob e j).engine e = { s.engine e with job := none, jobCancel := false } := by
  have hcounted : Only (partsMask [.reg .CNT_VAL, .field .migWait]) (s.modEngine e fun x => { x with job := none, jobCancel := false }) (s.leaveJob e j) :=
    State.fixed_only rfl (State.tallyEngine_only rfl (State.jobGone_only rfl (Only.refl _ _)))
  rw [hcounted.engine_eq, State.engine_modEngine]

/-- An engine shows no job. -/
def State.showIdle (s : State) (e : Nat) : State := ((s.setBit TNG_CL_STAT.BUSY (e / 8) (e % 8) false).set TNG_ENG_STAT.SERVICE e 0).set TNG_ENG_STAT.JOB_ID e 0

theorem State.showIdle_only (s : State) (e : Nat) : Only (partsMask [.reg .TNG_ENG_STAT, .reg .TNG_CL_STAT]) s (s.showIdle e) :=
  State.set_only rfl (State.set_only rfl (State.setBit_only rfl (Only.refl _ s)))

theorem State.showIdle_live (s : State) (e : Nat) : (s.showIdle e).get TNG_CL_STAT.LIVE (e / 8) = s.get TNG_CL_STAT.LIVE (e / 8) := by
  unfold State.showIdle State.setBit
  rw [State.get_set_kind _ _ _ _ (show TNG_CL_STAT.LIVE.reg ≠ TNG_ENG_STAT.JOB_ID.reg by decide),
    State.get_set_kind _ _ _ _ (show TNG_CL_STAT.LIVE.reg ≠ TNG_ENG_STAT.SERVICE.reg by decide), State.get_set_bits _ _ _ _ (by decide) (by decide)]

/-- The words of the record of a job that ended OK. -/
def State.okRecord (s : State) (e : Nat) (r : JobRun) (k r0 r1 : Nat) : List Word :=
  recordWords e 0 ((r.job.word 0).field 31 16) k r0 r1 ((s.clk - r.grantedAt) * 5 / 2) r.version

/-- The record of a job that ended OK, with no cancel waiting in its cluster: the engine leaves the job, and the record is that of the job. -/
theorem completionRecordWrite_ok {r0 r1 k : Nat} (hjob : s.jobRun e = some r) (hout : r.outcome = some (0, r0, r1)) (hfence : s.fenceMet e r 0 = true)
    (hid : r.job.id = some k)
    (hcancel : (((s.leaveJob e r.job).record' (e / 8) r.job ((s.leaveJob e r.job).okRecord e r k r0 r1)).cluster (e / 8)).cancel = none) :
    completionRecordWrite e s =
      (((s.leaveJob e r.job).record' (e / 8) r.job ((s.leaveJob e r.job).okRecord e r k r0 r1)).showIdle e).engineNext e false := by
  unfold completionRecordWrite
  extract_lets +onlyGivenNames -underBinder -merge c
  split
  next hnone => exact absurd (hnone.symm.trans hjob) (by simp)
  next q hq =>
  obtain rfl : r = q := Option.some.inj (hjob.symm.trans hq)
  split
  next hnone => exact absurd (hnone.symm.trans hout) (by simp)
  next st a b hsome =>
  obtain ⟨rfl, rfl, rfl⟩ : 0 = st ∧ r0 = a ∧ r1 = b := by simpa using hout.symm.trans hsome
  rw [if_neg (by simp [hfence])]
  extract_lets +onlyGivenNames -underBinder -merge gone left filled recorded aborted noticed cancelled
  have hleft : left = s.leaveJob e r.job := rfl
  have hfilled : filled = s.leaveJob e r.job := (if_neg (by simp [hid])).trans hleft
  have hrecorded : recorded = (s.leaveJob e r.job).record' (e / 8) r.job ((s.leaveJob e r.job).okRecord e r k r0 r1) := by
    rw [← hfilled]
    simp only [recorded, hid]
    rfl
  have haborted : aborted = recorded := if_neg (by decide)
  have hnoticed : noticed = recorded := (if_neg (by decide)).trans haborted
  have hcancelled : cancelled = recorded := by
    rw [← hrecorded, ← hnoticed] at hcancel
    simp only [cancelled]
    rw [show (noticed.cluster c).cancel = none from hcancel]
    exact hnoticed
  rw [← hrecorded, ← hcancelled]
  rfl

/-- A job that ended OK has its record at the tail, and its engine is idle. -/
theorem completionRecordWrite_shows {r0 r1 k : Nat} (hjob : s.jobRun e = some r) (hout : r.outcome = some (0, r0, r1)) (hfence : s.fenceMet e r 0 = true)
    (hid : r.job.id = some k) (hquiet : (r.job.word 0).field 8 8 = 0) (hfill : (s.cluster (e / 8)).fill < 4096) (hrecs : (s.cluster (e / 8)).recs = [])
    (hcancel : (s.cluster (e / 8)).cancel = none) (hlive : bitOf (s.get TNG_CL_STAT.LIVE (e / 8)) (e % 8) = true) (hreload : (s.engine e).reload = false) {t : State}
    (ht : t = completionRecordWrite e s) : t.jobRun e = none ∧ t.engState e = 0 ∧ t.get TNG_CQ_PTR.TAIL (e / 8) = (s.get TNG_CQ_PTR.TAIL (e / 8) + 1) % 4096 ∧
      t.get TNG_CL_CNT.DONE (e / 8) = satAdd TNG_CL_CNT.DONE.width (s.get TNG_CL_CNT.DONE (e / 8)) 1 ∧ (t.cluster (e / 8)).fill = (s.cluster (e / 8)).fill + 1 ∧
      t.reg .TNG_CQ (16384 * (e / 8) + 4 * s.get TNG_CQ_PTR.TAIL (e / 8) + 1) = word r0 ∧ t.reg .TNG_CQ (16384 * (e / 8) + 4 * s.get TNG_CQ_PTR.TAIL (e / 8) + 2) = word r1 := by
  have hleft := s.leaveJob_only e r.job
  have hengine := s.engine_leaveJob e r.job
  have hok := completionRecordWrite_ok hjob hout hfence hid
  generalize s.leaveJob e r.job = u at hleft hengine hok
  have hcluster := hleft.cluster_eq (e / 8)
  have htail := hleft.get_eq TNG_CQ_PTR.TAIL (e / 8)
  rw [State.record'_of_room (hcluster ▸ hfill) (hcluster ▸ hrecs) hquiet] at hok
  generalize hw : (u.okRecord e r k r0 r1).set 0 _ = w at hok
  have hwords : w.getD 1 0 = word r0 ∧ w.getD 2 0 = word r1 := by subst hw; exact ⟨rfl, rfl⟩
  obtain ⟨hnext, hdone, hput, hr0, hr1⟩ := u.putRecord_shows (e / 8) w
  have hwrite := State.putRecord_only (s := u) (c := e / 8) (w := w) (Sub.refl _) (Only.refl _ u)
  generalize u.putRecord (e / 8) w = v at hok hnext hdone hput hr0 hr1 hwrite
  have hidle := v.showIdle_only e
  have hlive' : bitOf ((v.showIdle e).get TNG_CL_STAT.LIVE (e / 8)) (e % 8) = true := by
    rw [v.showIdle_live e, hwrite.get_eq TNG_CL_STAT.LIVE, hleft.get_eq TNG_CL_STAT.LIVE, hlive]
  have hreload' : ((v.showIdle e).engine e).reload = false := by rw [hidle.engine_eq, hwrite.engine_eq, hengine, hreload]
  rw [State.engineNext_idle hlive' hreload'] at hok
  rw [ht, hok (by rw [hput, hcluster, hcancel])]
  have hset : Only (partsMask [.reg .TNG_ENG_STAT, .reg .TNG_CL_STAT]) v ((v.showIdle e).set TNG_ENG_STAT.STATE e 0) := State.set_only rfl hidle
  refine ⟨?_, State.get_set_fits _ _ (by decide) (by decide), ?_, ?_, ?_, ?_, ?_⟩
  · rw [State.jobRun_set, hidle.jobRun_eq, hwrite.jobRun_eq, State.jobRun, hengine]
  · rw [hset.get_eq TNG_CQ_PTR.TAIL, hnext, htail]
  · rw [hset.get_eq TNG_CL_CNT.DONE, hdone, hleft.get_eq TNG_CL_CNT.DONE]
  · rw [hset.cluster_eq, hput, hcluster]
  · rw [hset.reg_eq .TNG_CQ, ← htail, hr0, hwords.1]
  · rw [hset.reg_eq .TNG_CQ, ← htail, hr1, hwords.2]

end Records
end Sys2Proof.Machine

namespace Sys2Proof.Machine

-- Proofs are elaborated one after another: each proof thread costs the check 256 MB of stack.
set_option Elab.async false

set_option exponentiation.threshold 500

/-! ### Records consumed (R273) -/

section Head

variable {s : State} {c : Nat}

theorem State.flushRecords_of_empty (h : (s.cluster c).recs = []) : s.flushRecords c = s := by simp [State.flushRecords, h]

theorem cqHeadWrite_shows {v : Word} (hrecs : (s.cluster c).recs = []) : (cqHeadWrite c v s).get TNG_CQ_PTR.HEAD c = v.field 11 0 ∧
    ((cqHeadWrite c v s).cluster c).fill = (s.cluster c).fill - (v.field 11 0 + 4096 - s.get TNG_CQ_PTR.HEAD c) % 4096 := by
  unfold cqHeadWrite
  extract_lets h n u
  have hu : (u.set TNG_CQ_PTR.HEAD c h).cluster c = { s.cluster c with fill := (s.cluster c).fill - n } := (u.cluster_set ..).trans (s.cluster_modCluster c _)
  rw [State.flushRecords_of_empty (by rw [hu, hrecs]), hu]
  exact ⟨State.get_set_fits _ _ (by decide) (Word.field_lt v 11 0), rfl⟩

end Head

/-! ### Cancel (R275) -/

section Cancel

variable {s : State} {c e k : Nat}

theorem State.cancelDone_shows (s : State) (c : Nat) {st : Nat} (hst : st < 4) : (s.cancelDone c st).get TNG_CANCEL_RES.STATUS c = st ∧
    (s.cancelDone c st).get TNG_CANCEL_RES.VALID c = 1 ∧ ((s.cancelDone c st).cluster c).queue = (s.cluster c).queue := by
  unfold State.cancelDone State.resultDone State.bump
  refine ⟨?_, State.get_set_fits _ c (by decide) (by decide), ?_⟩
  · rw [State.get_set_bits _ _ _ _ (by decide) (by decide), State.get_set_bits _ _ _ _ (by decide) (by decide), State.get_set_fits _ _ (by decide) hst]
  · rw [State.cluster_set, State.cluster_set, State.cluster_set, State.cluster_modCluster]

/-- A record written or kept leaves the jobs that wait. -/
theorem State.record'_queue (s : State) (c : Nat) (j : Job) (w : List Word) : ((s.record' c j w).cluster c).queue = (s.cluster c).queue := by
  unfold State.record'
  extract_lets w' u
  have hu : (u.cluster c).queue = (s.cluster c).queue := by
    simp only [u]
    split_ifs
    · rw [(s.putRecord_shows c w').2.2.1]
    · rw [State.cluster_modCluster]
  split_ifs
  · exact (congrArg Cluster.queue ((State.jobNotice_only (Sub.refl _) (Only.refl _ u)).cluster_eq c)).trans hu
  · exact hu

/-- A job that never ran leaves the queue. -/
theorem State.endQueued_queue (s : State) (c : Nat) (j : Job) (st : Nat) : ((s.endQueued c j st).cluster c).queue = (s.cluster c).queue.erase j := by
  unfold State.endQueued
  extract_lets u v
  have hu : (u.cluster c).queue = (s.cluster c).queue.erase j := congrArg Cluster.queue ((State.cluster_set ..).trans (s.cluster_modCluster c _))
  have hv : (v.cluster c).queue = (s.cluster c).queue.erase j := (congrArg Cluster.queue ((State.jobGone_only (Sub.refl _) (Only.refl _ u)).cluster_eq c)).trans hu
  split
  · exact (State.record'_queue ..).trans hv
  · exact hv

/-- A cancel begins with its result's VALID at 0. -/
abbrev State.cancelStart (s : State) (c : Nat) : State := s.resultStart TNG_CANCEL_RES.VALID c

theorem State.cancelStart_only (s : State) (c : Nat) : Only (partsMask [.reg .TNG_CANCEL_RES]) s (s.cancelStart c) := State.set_only rfl (Only.refl _ s)

theorem tngCancelGo_of_waiting {x : Nat} (h : (s.cluster c).cancel = some x) : tngCancelGo c k s = s.refuseWrite .TNG_CANCEL_CMD c := by simp [tngCancelGo, h]

/-- The engine that runs a JOB_ID depends on the engines. -/
theorem Only.engineOf_eq {G : Nat} {t : State} (h : Only G s t) (c id : Nat) (hG : G.testBit (256 + StateField.ctorIdx .engines) = false := by decide) :
    t.engineOf c id = s.engineOf c id := by
  unfold State.engineOf
  simp only [h.jobRun_eq _ hG]

/-- The migration that an engine runs is shown in its slot. -/
theorem Only.slotOfEngine_eq {G : Nat} {t : State} (h : Only G s t) (e : Nat) (hG : G.testBit (RegKind.ctorIdx .RMP_MIG_SLOT0) = false := by decide) :
    t.slotOfEngine e = s.slotOfEngine e := by
  unfold State.slotOfEngine
  simp only [h.get_eq RMP_MIG_SLOT0.PHASE _ hG, h.get_eq RMP_MIG_SLOT0.ENGINE _ hG]

/-- A running job is told of its cancel, and its cluster keeps the JOB_ID. -/
def State.tellCancel (s : State) (c e id : Nat) : State :=
  ((s.modCluster c fun x => { x with cancel := some id }).modEngine e fun x => { x with jobCancel := true }).modRun e fun r => { r with cancel := true }

theorem State.tellCancel_only (s : State) (c e id : Nat) : Only (partsMask [.field .engines, .field .clusters]) s (s.tellCancel c e id) :=
  State.modRun_only rfl (State.modEngine_only rfl (State.modCluster_only rfl (Only.refl _ s)))

theorem State.tellCancel_shows (s : State) (c e id : Nat) : ((s.tellCancel c e id).engine e).jobCancel = true ∧ ((s.tellCancel c e id).cluster c).cancel = some id := by
  unfold State.tellCancel
  constructor
  · rw [State.modRun, State.engine_modEngine, State.engine_modEngine]
  · rw [State.cluster_modRun, State.cluster_modEngine, State.cluster_modCluster]

variable (hnone : (s.cluster c).cancel = none)

include hnone

theorem tngCancelGo_queued {j : Job} (hj : (s.cluster c).queue.find? (fun y => y.id = some (k % 2 ^ 32)) = some j) :
    tngCancelGo c k s = ((s.cancelStart c).endQueued c j 0x0C).cancelDone c 0 := by
  have hfound : ((s.cancelStart c).cluster c).queue.find? (fun y => y.id = some (k % 2 ^ 32)) = some j := by rwa [(s.cancelStart_only c).cluster_eq c]
  unfold tngCancelGo
  extract_lets +onlyGivenNames id u
  rw [if_neg (by simp [hnone])]
  split
  next i hi =>
    obtain rfl : j = i := Option.some.inj (hfound.symm.trans hi)
    rfl
  next hi => exact absurd (hi.symm.trans hfound) (by simp)

variable (hj : (s.cluster c).queue.find? (fun y => y.id = some (k % 2 ^ 32)) = none)

include hj

theorem tngCancelGo_missing (he : s.engineOf c (k % 2 ^ 32) = none) : tngCancelGo c k s = (s.cancelStart c).cancelDone c 2 := by
  have hfound : ((s.cancelStart c).cluster c).queue.find? (fun y => y.id = some (k % 2 ^ 32)) = none := by rwa [(s.cancelStart_only c).cluster_eq c]
  have hengine := ((s.cancelStart_only c).engineOf_eq c (k % 2 ^ 32)).trans he
  unfold tngCancelGo
  extract_lets +onlyGivenNames id u
  rw [if_neg (by simp [hnone])]
  split
  next i hi => exact absurd (hi.symm.trans hfound) (by simp)
  split
  · rfl
  next d hd => exact absurd (hd.symm.trans hengine) (by simp)

theorem tngCancelGo_running {r : JobRun} (he : s.engineOf c (k % 2 ^ 32) = some e) (hjob : s.jobRun e = some r) (hlater : r.grantedAt ≠ s.clk)
    (hslot : s.slotOfEngine e = none) : tngCancelGo c k s = ((s.cancelStart c).tellCancel c e (k % 2 ^ 32)).settleJob e := by
  have hstart := s.cancelStart_only c
  have hfound : ((s.cancelStart c).cluster c).queue.find? (fun y => y.id = some (k % 2 ^ 32)) = none := by rwa [hstart.cluster_eq c]
  have hengine := (hstart.engineOf_eq c (k % 2 ^ 32)).trans he
  have hrun := (hstart.jobRun_eq e).trans hjob
  have hclk : ¬ r.grantedAt = (s.cancelStart c).clk := by rwa [State.cancelStart, State.resultStart, State.set_clk]
  have hmig : ((s.cancelStart c).tellCancel c e (k % 2 ^ 32)).slotOfEngine e = none := by
    rw [((s.cancelStart c).tellCancel_only c e (k % 2 ^ 32)).slotOfEngine_eq, hstart.slotOfEngine_eq, hslot]
  unfold tngCancelGo
  extract_lets +onlyGivenNames id u
  rw [if_neg (by simp [hnone])]
  split
  next i hi => exact absurd (hi.symm.trans hfound) (by simp)
  split
  next hd => exact absurd (hd.symm.trans hengine) (by simp)
  next d hd =>
  obtain rfl : e = d := Option.some.inj (hengine.symm.trans hd)
  split
  next hq => exact absurd (hq.symm.trans hrun) (by simp)
  next q hq =>
  obtain rfl : r = q := Option.some.inj (hrun.symm.trans hq)
  rw [if_neg hclk]
  extract_lets +onlyGivenNames kept told ended
  have hended : ended = told := by
    simp only [ended]
    rw [show told.slotOfEngine e = none from hmig]
  rw [hended]
  rfl

theorem tngCancelGo_running_shows {r : JobRun} (he : s.engineOf c (k % 2 ^ 32) = some e) (hjob : s.jobRun e = some r) (hlater : r.grantedAt ≠ s.clk)
    (hslot : s.slotOfEngine e = none) {t : State} (ht : t = tngCancelGo c k s) : (t.engine e).jobCancel = true ∧ (t.cluster c).cancel = some (k % 2 ^ 32) ∧
      t.get TNG_CANCEL_RES.VALID c = 0 := by
  rw [tngCancelGo_running hnone hj he hjob hlater hslot] at ht
  subst ht
  obtain ⟨hcancel, hkept⟩ := (s.cancelStart c).tellCancel_shows c e (k % 2 ^ 32)
  have hvalid : ((s.cancelStart c).tellCancel c e (k % 2 ^ 32)).get TNG_CANCEL_RES.VALID c = 0 :=
    (((s.cancelStart c).tellCancel_only c e (k % 2 ^ 32)).get_eq_of_fields _ c).trans (s.get_set_fits c (by decide) (by decide))
  generalize (s.cancelStart c).tellCancel c e (k % 2 ^ 32) = u at hcancel hkept hvalid ⊢
  have hsettled := State.settleJob_only (s := u) (e := e) (Sub.refl _) (Only.refl _ u)
  exact ⟨((State.settleJob_follows (.refl u)) e).jobCancel.trans hcancel, (congrArg Cluster.cancel (hsettled.cluster_eq c)).trans hkept,
    (hsettled.get_eq_of_fields _ c).trans hvalid⟩

end Cancel

end Sys2Proof.Machine

namespace Sys2Proof.Machine

-- Proofs are elaborated one after another: each proof thread costs the check 256 MB of stack.
set_option Elab.async false

set_option exponentiation.threshold 500

/-! ### Engine reset and watchdog (R255, R276) -/

section Reset

variable {s : State} {e cause : Nat} {r : JobRun}

theorem State.resetEngine_of_out (h : s.engState e = 3) : s.resetEngine e cause = s := if_pos h

/-- The accesses that a reset discards: those that have not left the engine's NI. -/
def State.unsentAcc (s : State) (a : FarAcc) : Bool := !a.issued || s.unsent a

/-- A reset of an engine whose job has not ended: its accesses and its queue are discarded, and the job ends ABORTED. -/
theorem State.resetEngine_aborts (hstate : s.engState e ≠ 3) (hjob : s.jobRun e = some r) (hnone : r.outcome = none) (hslot : s.slotOfEngine e = none) {t : State}
    (ht : t = s.resetEngine e cause) : ∃ lines,
      t = (((s.discardAcc e s.unsentAcc).finishJob e 0x0D lines cause).modEngine e fun x => { x with queue := [], jobCancel := false }).set TNG_ENG_STAT.STATE e 2 := by
  have hkept : ∀ lines, ((s.discardAcc e s.unsentAcc).finishJob e 0x0D lines cause).slotOfEngine e = none := fun lines => by
    rw [(State.finishJob_only (Sub.refl _) (Only.refl _ _)).slotOfEngine_eq, (State.discardAcc_only (Sub.refl _) (Only.refl _ _)).slotOfEngine_eq, hslot]
  unfold State.resetEngine at ht
  rw [if_neg hstate] at ht
  split at ht
  next hq => exact absurd (hq.symm.trans hjob) (by simp)
  next q hq =>
  obtain rfl : r = q := Option.some.inj (hjob.symm.trans hq)
  rw [if_neg (by simp [hnone])] at ht
  extract_lets +onlyGivenNames -underBinder -merge u left lines ended untouched at ht
  have huntouched : untouched = ended := by
    simp only [untouched]
    rw [show ended.slotOfEngine e = none from hkept _]
  rw [huntouched] at ht
  exact ⟨lines + left, ht⟩

theorem State.resetEngine_shows (hstate : s.engState e ≠ 3) (hjob : s.jobRun e = some r) (hnone : r.outcome = none) (hslot : s.slotOfEngine e = none) :
    (s.resetEngine e cause).engState e = 2 ∧ ((s.resetEngine e cause).engine e).queue = [] ∧
      ((s.resetEngine e cause).jobRun e).map (fun y : JobRun => y.outcome.map fun z : Nat × Nat × Nat => (z.1, z.2.2)) = some (some (0x0D, cause)) := by
  obtain ⟨lines, hends⟩ := State.resetEngine_aborts (cause := cause) hstate hjob hnone hslot rfl
  have hrun : (s.discardAcc e s.unsentAcc).jobRun e = some r := ((State.discardAcc_only (Sub.refl _) (Only.refl _ _)).jobRun_eq e).trans hjob
  generalize s.discardAcc e s.unsentAcc = u at hends hrun
  rw [hends]
  refine ⟨State.get_set_fits _ _ (by decide) (by decide), ?_, ?_⟩
  · rw [State.engine_set, State.engine_modEngine]
  · rw [State.jobRun_set, State.jobRun_modEngine, State.engine_finishJob, hrun]
    simp [hnone]

theorem engineWatchdog_resets (hjob : s.jobRun e = some r) (hnone : r.outcome = none) (hwdog : s.get TNG_CL_CFG.WDOG_MS (e / 8) ≠ 0) :
    engineWatchdog e s = s.resetEngine e 2 := by
  unfold engineWatchdog
  split
  next hq => exact absurd (hq.symm.trans hjob) (by simp)
  next q hq =>
  obtain rfl : r = q := Option.some.inj (hjob.symm.trans hq)
  exact if_pos ⟨hwdog, by simp [hnone]⟩

theorem engineWatchdog_of_off (hwdog : s.get TNG_CL_CFG.WDOG_MS (e / 8) = 0) : engineWatchdog e s = s := by
  unfold engineWatchdog
  split
  · rfl
  · exact if_neg fun h => h.1 hwdog

end Reset

/-! ### Programs (R279, R280) -/

section Load

variable {s : State} {e : Nat} {l : List Byte}

theorem Only.reloadDue_eq {G : Nat} {t : State} (h : Only G s t) (hG : G.testBit (256 + StateField.ctorIdx .reloadDue) = false := by decide) :
    t.reloadDue = s.reloadDue := h.2 (.field .reloadDue) hG

theorem engineLoadComplete_of_other (h : s.engState e ≠ 4) : engineLoadComplete e l s = s := if_pos h

/-- An engine that has loaded its program holds it at the version in force, and is IDLE. -/
theorem engineLoadComplete_shows (h : s.engState e = 4) : (engineLoadComplete e l s).engState e = 0 ∧
    ((engineLoadComplete e l s).engine e).program = s.programOf e ∧ ((engineLoadComplete e l s).engine e).version = s.versionOf (e / 8) (s.programOf e) ∧
    ((engineLoadComplete e l s).engine e).reload = false ∧ ((engineLoadComplete e l s).engine e).mem = Memory.writeBytes (s.engine e).mem 0 (l.take 0x3BFC0) ∧
    (engineLoadComplete e l s).reloadDue.contains e = false := by
  unfold engineLoadComplete
  rw [if_neg (by simp [h])]
  extract_lets +onlyGivenNames p v u
  have hu : u.engine e = s.engine e := rfl
  have hdue : u.reloadDue.contains e = false := by simp [u]
  clear_value u
  have hloaded : (u.modEngine e fun x => { x with program := p, version := v, reload := false, mem := Memory.writeBytes x.mem 0 (l.take 0x3BFC0), bad := [] }).engine e =
      { s.engine e with program := p, version := v, reload := false, mem := Memory.writeBytes (s.engine e).mem 0 (l.take 0x3BFC0), bad := [] } := by
    rw [State.engine_modEngine, hu]
  have hkept : (u.modEngine e fun x => { x with program := p, version := v, reload := false, mem := Memory.writeBytes x.mem 0 (l.take 0x3BFC0), bad := [] }).reloadDue.contains e =
      false := hdue
  generalize u.modEngine e _ = w at hloaded hkept ⊢
  have hshown := State.showLoaded_only (s := w.set TNG_ENG_STAT.STATE e 0) (c := e / 8) (Sub.refl _) (Only.refl _ _)
  rw [State.engState, hshown.get_eq TNG_ENG_STAT.STATE, hshown.engine_eq, State.engine_set, hloaded]
  refine ⟨State.get_set_fits _ _ (by decide) (by decide), rfl, rfl, rfl, rfl, ?_⟩
  rw [hshown.reloadDue_eq, State.set_reloadDue, hkept]

theorem programReload_of_other (h : s.engState e = 3 ∨ s.engState e = 4 ∨ s.reloadDue.contains e = false) : programReload e s = s := by
  refine if_pos (.inr ?_)
  simpa using h

variable (hothers : ∀ k ∈ List.range 8, 8 * (e / 8) + k ≠ e → (s.engine (8 * (e / 8) + k)).reload = false ∧ s.engState (8 * (e / 8) + k) ≠ 4) (hlive : s.engState e ≠ 3)
  (hloaded : s.engState e ≠ 4) (hdue : s.reloadDue.contains e = true)

include hothers hlive hloaded hdue

/-- An engine whose program is due, with no other of its cluster loading, is told to load; one without a job loads at once. -/
theorem programReload_begins : programReload e s =
    if (s.jobRun e).isNone then (s.modEngine e fun x => { x with reload := true }).engineNext e true else s.modEngine e fun x => { x with reload := true } := by
  have hfree : ((List.range 8).any fun k => 8 * (e / 8) + k ≠ e && ((s.engine (8 * (e / 8) + k)).reload || s.engState (8 * (e / 8) + k) = 4)) = false := by
    refine List.any_eq_false.mpr fun k hk => ?_
    by_cases hself : 8 * (e / 8) + k = e
    · simp [hself]
    · obtain ⟨hreload, hstate⟩ := hothers k hk hself
      simp [hreload, hstate]
  unfold programReload
  extract_lets busy u
  rw [if_neg (by simpa [busy, hfree, hlive, hloaded] using hdue), State.jobRun_modEngine]
  rfl

theorem programReload_waits {r : JobRun} (hjob : s.jobRun e = some r) : ((programReload e s).engine e).reload = true ∧ (programReload e s).jobRun e = some r := by
  rw [programReload_begins hothers hlive hloaded hdue, if_neg (by simp [hjob]), State.jobRun_modEngine, State.engine_modEngine]
  exact ⟨rfl, hjob⟩

theorem programReload_loads (hjob : s.jobRun e = none) (hbit : bitOf (s.get TNG_CL_STAT.LIVE (e / 8)) (e % 8) = true) : (programReload e s).engState e = 4 := by
  rw [programReload_begins hothers hlive hloaded hdue, if_pos (by simp [hjob])]
  exact State.engineNext_loads (by rwa [State.get_modEngine])

end Load
end Sys2Proof.Machine

namespace Sys2Proof.Machine

-- Proofs are elaborated one after another: each proof thread costs the check 256 MB of stack.
set_option Elab.async false

set_option exponentiation.threshold 500

/-! ### Engines without a job -/

section NoJob

variable {s : State} {e : Nat} (h : s.jobRun e = none)

include h

theorem State.serviceBurst_of_none (svc : Nat) (f : JobRun → Nat → List FarAcc) : s.serviceBurst e svc f = s := by simp only [State.serviceBurst, h]

theorem dirSweep_of_none : dirSweep e s = s := by simp only [dirSweep, h]

theorem kernelJob_of_none (c : CoreStep) : kernelJob e c s = s := by simp only [kernelJob, h]

theorem completionRecordWrite_of_none : completionRecordWrite e s = s := by simp only [completionRecordWrite, h]

theorem engineWatchdog_of_none : engineWatchdog e s = s := by simp only [engineWatchdog, h]

end NoJob

/-- Settles O29: a submission and a dispatch by the job queued and the job granted; a service by the lines that it has asked for; a record by the words at the tail; a cancel by where the job is;
a reset by the outcome that no later one replaces; a load by what the engine then holds. -/
theorem jobsRun : Obligations.JobsRun := by
  unfold Obligations.JobsRun
  refine ⟨?admitted, ?refused, ?deviceJob, ?fenced, ?barred, ?dispatch, ?copyAsks, ?copyEnds, ?fillAsks, ?fillEnds, ?crcAsks, ?crcEnds, ?compareAsks, ?compareEnds, ?noJob, ?sweep, ?kernel,
    ?stalled, ?fault, ?monitorFault, ?running, ?record, ?head, ?cancelWaits, ?cancelQueued, ?cancelMissing, ?cancelRunning, ?outOfService, ?reset, ?watchdog, ?watchdogOff, ?load, ?notLoading,
    ?reloadWaits, ?reloadLoads, ?reloadOther⟩
  case admitted =>
    intro s c hc h
    obtain ⟨hstatus, hvalid, hseq, -⟩ := tngSubGo_shows c s
    obtain ⟨hid, hqueue⟩ := tngSubGo_admits h
    exact ⟨_, run_to hc rfl, hstatus.trans h, hid, hvalid, hseq, hqueue⟩
  case refused =>
    intro s c hc h
    obtain ⟨hstatus, hvalid, -, -⟩ := tngSubGo_shows c s
    exact ⟨_, run_to hc rfl, hstatus, hvalid, tngSubGo_refused h⟩
  case deviceJob => exact fun s c a hc h => ⟨_, run_to hc (deviceJobSubmit_sweep h), s.queueJob_queue c _ 2⟩
  case fenced => exact fun s c f a hc h => run_to hc (deviceJobSubmit_of_fenced h)
  case barred => exact fun s c hc h => run_to hc (jobDispatch_of_barred h)
  case dispatch => exact fun s c j e hc hregion hbanked hj he => ⟨_, run_to hc (jobDispatch_grants hregion hbanked hj he), s.grantJob_shows c e j⟩
  case copyAsks | fillAsks | crcAsks | compareAsks =>
    exact fun s e r he hjob hsvc hnone hidle hok hcancel hmore hsrc hdst => ⟨_, run_to he rfl, State.serviceBurst_asks hjob hsvc hnone hidle hok hcancel hmore hsrc hdst⟩
  case copyEnds | fillEnds | crcEnds | compareEnds =>
    exact fun s e r he hjob hsvc hnone hidle hok hlast => ⟨_, run_to he rfl, State.serviceBurst_ends hjob hsvc hnone hidle hok (by decide) (by decide) hlast⟩
  case noJob =>
    intro s e c he h
    exact ⟨run_to he (State.serviceBurst_of_none h ..), run_to he (State.serviceBurst_of_none h ..), run_to he (State.serviceBurst_of_none h ..),
      run_to he (State.serviceBurst_of_none h ..), run_to he (dirSweep_of_none h), run_to he (kernelJob_of_none h c), run_to he (completionRecordWrite_of_none h),
      run_to he (engineWatchdog_of_none h)⟩
  case sweep =>
    exact fun s e r he hjob hsvc hnone hempty => ⟨_, run_to he (dirSweep_of_empty hjob hsvc hnone hempty), State.finishJob_outcome hjob hnone ..⟩
  case kernel =>
    intro s e r c he hjob hsvc hnone huser hfree
    refine ⟨_, run_to he (kernelJob_runs hjob hsvc hnone huser hfree), ?_⟩
    obtain ⟨hmode, hrun, hpc⟩ := (s.engine e).runCore_keeps c
    rw [State.jobRun_modEngine, State.engine_modEngine]
    exact ⟨rfl, hmode.trans huser, hpc, hrun.trans hjob⟩
  case stalled => exact fun s e c he h => run_to he (kernelJob_of_stalled h)
  case fault => exact fun s e r a b he hjob hsvc hnone huser => ⟨_, run_to he rfl, kernelFault_shows hjob hsvc hnone (if_pos huser)⟩
  case monitorFault =>
    intro s e r a b he hjob hsvc hnone huser
    obtain ⟨hout, -, -, hmode⟩ := kernelFault_shows (a := a) (b := b) hjob hsvc hnone (if_neg (by simp [huser]))
    exact ⟨_, run_to he rfl, hout, hmode⟩
  case running => exact fun s e r he hjob h => run_to he (completionRecordWrite_of_running hjob h)
  case record =>
    exact fun s e r a b k he hjob hout hfence hid hquiet hfill hrecs hcancel hlive hreload =>
      ⟨_, run_to he rfl, completionRecordWrite_shows hjob hout hfence hid hquiet hfill hrecs hcancel hlive hreload rfl⟩
  case head => exact fun s c v hc hrecs => ⟨_, run_to hc rfl, cqHeadWrite_shows hrecs⟩
  case cancelWaits => exact fun s c k x hc h => run_to hc (tngCancelGo_of_waiting h)
  case cancelQueued =>
    intro s c k j hc hnone hj
    obtain ⟨hstatus, hvalid, hqueue⟩ := ((s.cancelStart c).endQueued c j 0x0C).cancelDone_shows c (st := 0) (by decide)
    refine ⟨_, run_to hc (tngCancelGo_queued hnone hj), hstatus, hvalid, ?_⟩
    rw [hqueue, State.endQueued_queue, (s.cancelStart_only c).cluster_eq c]
  case cancelMissing =>
    intro s c k hc hnone hj he
    obtain ⟨hstatus, hvalid, hqueue⟩ := (s.cancelStart c).cancelDone_shows c (st := 2) (by decide)
    refine ⟨_, run_to hc (tngCancelGo_missing hnone hj he), hstatus, hvalid, ?_⟩
    rw [hqueue, (s.cancelStart_only c).cluster_eq c]
  case cancelRunning =>
    exact fun s c k e r hc hnone hj he hjob hlater hslot => ⟨_, run_to hc rfl, tngCancelGo_running_shows hnone hj he hjob hlater hslot rfl⟩
  case outOfService => exact fun s e x he h => run_to he (State.resetEngine_of_out h)
  case reset => exact fun s e x r he hstate hjob hnone hslot => ⟨_, run_to he rfl, State.resetEngine_shows hstate hjob hnone hslot⟩
  case watchdog =>
    intro s e r he hstate hjob hnone hslot hwdog
    obtain ⟨hreset, -, hout⟩ := State.resetEngine_shows (cause := 2) hstate hjob hnone hslot
    exact ⟨_, run_to he (engineWatchdog_resets hjob hnone hwdog), hreset, hout⟩
  case watchdogOff => exact fun s e r he _ hwdog => run_to he (engineWatchdog_of_off hwdog)
  case load => exact fun s e l he h => ⟨_, run_to he rfl, engineLoadComplete_shows h⟩
  case notLoading => exact fun s e l he h => run_to he (engineLoadComplete_of_other h)
  case reloadWaits =>
    exact fun s e r he hothers hlive hloaded hdue hjob => ⟨_, run_to he rfl, programReload_waits hothers hlive hloaded hdue hjob⟩
  case reloadLoads =>
    exact fun s e he hothers hlive hloaded hdue hjob hbit => ⟨_, run_to he rfl, programReload_loads hothers hlive hloaded hdue hjob hbit⟩
  case reloadOther => exact fun s e he h => run_to he (programReload_of_other h)

end Sys2Proof.Machine

namespace Sys2Proof.Machine

-- Proofs are elaborated one after another: each proof thread costs the check 256 MB of stack.
set_option Elab.async false

set_option exponentiation.threshold 500

/-- Settles O58: completion and frame hold of every command, those of faults, telemetry, counters and timing among them. -/
theorem serviceCommandsFramed : Obligations.ServiceCommandsFramed := by
  unfold Obligations.ServiceCommandsFramed
  and_intros <;> intros <;> exact exec_framed _

/-- Settles O59: completion and frame hold of every command, those of the fabric, images and keys among them. -/
theorem fabricCommandsFramed : Obligations.FabricCommandsFramed := by
  unfold Obligations.FabricCommandsFramed
  and_intros <;> intros <;> exact exec_framed _

/-- Settles O60: completion and frame hold of every command, those of sessions, registers, slots and modes among them. -/
theorem chipCommandsFramed : Obligations.ChipCommandsFramed := by
  unfold Obligations.ChipCommandsFramed
  and_intros <;> intros <;> exact exec_framed _

/-! ### The queue of commands (log entries 7 and 12) -/

section Queue

variable {s t : State}

theorem step_of_idle (hq : s.pending = []) : step s = .next (idleTick s) := by
  unfold step
  rw [hq]

theorem step_of_cons {c : Instr} {cs : List Instr} (hq : s.pending = c :: cs) : step s = exec c { s with pending := cs } := by
  unfold step
  rw [hq]

set_option maxRecDepth 4096 in
theorem queue_unnamed (i : Instr) : (.field .pending) ∉ i.changes := by
  have h : i.changes.contains (.field .pending) = false := by
    cases i with
    | _ => rfl
  simpa using h

theorem exec_pending {i : Instr} (h : exec i s = .next t) : t.pending = s.pending := (exec_framed i s).2 t h _ (queue_unnamed i)

theorem idleTick_pending (s : State) : (idleTick s).pending = s.pending :=
  (idleTick_only (Sub.refl _) (Only.refl _ s)).2 (.field .pending) (by decide)

/-- In an idle nanosecond the clock goes on by one; what the time drives leaves the clock alone. -/
theorem idleTick_clk (s : State) : (idleTick s).clk = s.clk + 1 := by
  unfold idleTick
  extract_lets u
  split_ifs
  · rfl
  · exact (State.creditTick_only rfl (State.stallTick_only rfl (State.tallyChip_only rfl (State.timeCycle_only rfl
      (Only.refl (partsMask [.reg .CNT_VAL, .reg .SFL_LINK_CNT, .reg .TMP_CTX_50, .field .tim]) u))))).2 (.field .clk) (by decide)

end Queue

/-- Settles O43: the front of the queue runs on the state that holds the queue's rest. -/
theorem stepRunsTheFront : Obligations.StepRunsTheFront := fun _ _ _ => step_of_cons

/-- Settles O44: the idle nanosecond moves the clock, and its frame leaves out the phase, the queue, the messages and the memories. -/
theorem idleStepTicks : Obligations.IdleStepTicks := by
  intro s hq
  have hkept := (idleTick_only (Sub.refl _) (Only.refl _ s)).2
  exact ⟨idleTick s, step_of_idle hq, idleTick_clk s, hkept (.field .phase) (by decide), (idleTick_pending s).trans hq, hkept (.field .out) (by decide),
    hkept (.field .hbm) (by decide), hkept (.field .flashA) (by decide), hkept (.field .flashB) (by decide), hkept (.field .fuses) (by decide)⟩

/-- Settles O48: every command leaves the queue as it finds it, and one whose units exist completes. -/
theorem queueServedInOrder : Obligations.QueueServedInOrder := by
  intro s hqueued
  cases hq : s.pending with
  | nil =>
    have hkept := (idleTick_pending s).trans hq
    exact ⟨_, step_of_idle hq, hkept, fun c hc => absurd (hkept ▸ hc) List.not_mem_nil⟩
  | cons c cs =>
    obtain ⟨t, ht, -⟩ := (exec_framed c { s with pending := cs }).1 (hqueued c (hq ▸ List.mem_cons_self))
    have hrest : t.pending = cs := exec_pending ht
    exact ⟨t, (step_of_cons hq).trans ht, hrest, fun d hd => hqueued d (hq ▸ List.mem_cons_of_mem c (hrest ▸ hd))⟩

/-- Settles O45: the state after reset lists nothing, so every register reads its reset value. -/
theorem resetIsCanonical : Obligations.ResetIsCanonical := by
  refine ⟨⟨rfl, rfl, rfl, rfl⟩, fun c hc => absurd hc List.not_mem_nil, rfl, rfl, ?_⟩
  decide

/-! ### The collectors of the regions (R399) -/

/-- A region's FLT_REG_STAT stands at 0xB00008 of its region; the services of the chip alone are reached in SAFE. -/
theorem State.locate_regStat (s : State) {r : Nat} (hr : r < 4) :
    s.locate (0x4000000 + r * 0x1000000 + 0xB00008) = if s.phase = .safe then .reserved else .reg .FLT_REG_STAT r := by
  have hfound : (drsUnits ((0x4000000 + r * 0x1000000 + 0xB00008) / 8 * 8)).findSome? findReg = some (.FLT_REG_STAT, r) := by
    interval_cases r <;> decide +kernel
  have hview : ¬ 0x20000000 ≤ 0x4000000 + r * 0x1000000 + 0xB00008 := by omega
  have hregion : 0x1000000 ≤ 0x4000000 + r * 0x1000000 + 0xB00008 := by omega
  unfold State.locate
  rw [hfound]
  simp [hview, hregion]

/-- A write of a region collector's FLT_CFG stores SECOND and no other bit. -/
theorem State.writeFltCfg_region (s : State) {r : Nat} (v : Word) (hr : r < 4) :
    (s.writeFltCfg r v).reg .FLT_CFG r = (s.reg .FLT_CFG r).setField 0 0 (v.field 0 0) := by
  unfold State.writeFltCfg
  rw [if_pos hr]
  exact State.reg_setReg_self ..

/-- Settles O42: the addresses, fields and reset values by computation over the four regions, the way back from an address and the write of FLT_CFG by their lemmas. -/
theorem regionCollectorsPlaced : Obligations.RegionCollectorsPlaced := by
  unfold Obligations.RegionCollectorsPlaced
  refine ⟨?addresses, fun s _ hr => s.locate_regStat hr, rfl, rfl, rfl, rfl, rfl, rfl, rfl, rfl, rfl, rfl, rfl, rfl, rfl, rfl, rfl, ?resets,
    fun s _ v hr => s.writeFltCfg_region v hr⟩
  case addresses => decide
  case resets => decide

end Sys2Proof.Machine

namespace Sys2Proof.Machine

-- Proofs are elaborated one after another: each proof thread costs the check 256 MB of stack.
set_option Elab.async false

set_option exponentiation.threshold 500

/-! ### The eFuse, fuse by fuse (R331, R332) -/

/-- From `f` to `g` fuses have only been blown: a root slot's revocation word that reads anything but 0 still does, and the SVN floor has not fallen. -/
def Fuses.Blown (f g : Fuses) : Prop :=
  (∀ n, Tbl.rd (fun _ => 0) f.rev n ≠ 0 → Tbl.rd (fun _ => 0) g.rev n ≠ 0) ∧
    ((List.range 64).takeWhile (bitOf f.svn)).length ≤ ((List.range 64).takeWhile (bitOf g.svn)).length

theorem bitOf_eq_testBit (n i : Nat) : bitOf n i = n.testBit i := Nat.testBit_eq_decide_div_mod_eq.symm

/-- The longest run of a weaker test is no shorter. -/
theorem length_takeWhile_mono {α : Type} {p q : α → Bool} (hpq : ∀ a, p a = true → q a = true) (l : List α) :
    (l.takeWhile p).length ≤ (l.takeWhile q).length := by
  induction l with
  | nil => exact le_rfl
  | cons a l ih =>
    by_cases hp : p a = true
    · rw [List.takeWhile_cons_of_pos hp, List.takeWhile_cons_of_pos (hpq a hp)]
      exact Nat.succ_le_succ ih
    · rw [List.takeWhile_cons_of_neg hp]
      exact Nat.zero_le _

section Fuses

variable {f g h : Fuses}

theorem Fuses.Blown.refl (f : Fuses) : f.Blown f := ⟨fun _ hn => hn, le_rfl⟩

theorem Fuses.Blown.trans (hfg : f.Blown g) (hgh : g.Blown h) : f.Blown h := ⟨fun n hn => hgh.1 n (hfg.1 n hn), hfg.2.trans hgh.2⟩

/-- A revocation word blown to anything but 0. -/
theorem Fuses.blown_rev (f : Fuses) (n : Nat) {w : Nat} (hw : w ≠ 0) : f.Blown { f with rev := Tbl.wr (fun _ => 0) f.rev n w } := by
  refine ⟨fun k hk => ?_, le_rfl⟩
  by_cases hkn : k = n
  · rw [hkn, Tbl.rd_wr_self]
    exact hw
  · rw [Tbl.rd_wr_other _ _ _ hkn]
    exact hk

/-- More fuses of the SVN floor blown. -/
theorem Fuses.blown_svn (f : Fuses) (m : Nat) : f.Blown { f with svn := f.svn ||| m } := by
  refine ⟨fun _ hn => hn, length_takeWhile_mono (fun i hi => ?_) _⟩
  rw [bitOf_eq_testBit] at hi ⊢
  rw [Nat.testBit_or, hi, Bool.true_or]

/-- Fuses of root hashes and valid words alone. -/
theorem Fuses.blown_root (f : Fuses) (a : Tbl (List Byte)) (b : Tbl Nat) : f.Blown { f with hash := a, valid := b } := ⟨fun _ hn => hn, le_rfl⟩

variable {s t : State}

theorem Only.phase_eq {G : Nat} (h : Only G s t) (hG : G.testBit (256 + StateField.ctorIdx .phase) = false := by decide) : t.phase = s.phase :=
  h.2 (.field .phase) hG

theorem Only.fuses_eq {G : Nat} (h : Only G s t) (hG : G.testBit (256 + StateField.ctorIdx .fuses) = false := by decide) : t.fuses = s.fuses :=
  h.2 (.field .fuses) hG

theorem Fuses.Blown.of_eq (h : t.fuses = s.fuses) : s.fuses.Blown t.fuses := h ▸ .refl _

@[simp] theorem State.showFuses_fuses (s : State) : s.showFuses.fuses = s.fuses := (State.showFuses_only (Sub.refl _) (Only.refl _ s)).fuses_eq

@[simp] theorem State.eraseFlash_fuses (s : State) (cs a n : Nat) : (s.eraseFlash cs a n).fuses = s.fuses :=
  (State.eraseFlash_only (Sub.refl _) (Only.refl _ s)).fuses_eq

end Fuses

/-- The effect of a key command blows fuses (R335). -/
theorem State.keyEffect_fuses (s : State) (r : KeyRun) : s.fuses.Blown (s.keyEffect r).fuses := by
  unfold State.keyEffect
  split
  · exact .of_eq (State.showId_only rfl (Only.refl (partsMask [.reg .KEY_STAT, .reg .KEY_ID_PUB]) { s with pendingId := some r.key })).fuses_eq
  · exact .of_eq (State.storeRecord_only (Sub.refl _) (Only.refl _ s)).fuses_eq
  · rw [State.showFuses_fuses]
    exact s.fuses.blown_rev r.root (by decide)
  · rw [State.showFuses_fuses]
    exact s.fuses.blown_root ..
  · rw [State.showFuses_fuses]
    exact s.fuses.blown_svn _

theorem keyCommandComplete_fuses (s : State) : s.fuses.Blown (keyCommandComplete s).fuses := by
  unfold keyCommandComplete
  split
  · exact .refl _
  · rename_i r _
    extract_lets u1 u2
    have hshown : Only (partsMask [.reg .KEY_RES]) u2 ((u2.set KEY_RES.STATUS 0 r.status).resultDone KEY_RES.SEQ KEY_RES.VALID 0) :=
      State.resultDone_only rfl rfl (State.set_only rfl (Only.refl _ u2))
    rw [hshown.fuses_eq]
    simp only [u2]
    split_ifs
    · exact u1.keyEffect_fuses r
    · rw [State.eraseFlash_fuses, State.eraseFlash_fuses]
      exact .refl _
    · exact .refl _

/-- What a reset does to the flash and the fuses in place of the key command that it interrupts (R336). -/
theorem State.interruptFlash_fuses (s : State) : s.fuses.Blown s.interruptFlash.fuses := by
  unfold State.interruptFlash
  extract_lets u
  have hu : u.fuses = s.fuses := by
    simp only [u]
    split
    · split_ifs
      · exact s.eraseFlash_fuses ..
      · rfl
    · rfl
  rw [← hu]
  clear_value u
  split
  · rename_i r _
    split_ifs
    · exact .refl _
    · split
      · rw [State.eraseFlash_fuses, State.eraseFlash_fuses]
        exact .refl _
      · exact u.fuses.blown_rev r.root (Nat.add_comm 1 _ ▸ Nat.succ_ne_zero _)
      · exact u.fuses.blown_root ..
      · exact u.fuses.blown_svn _
      · exact .refl _
  · exact .refl _

/-! ### RESET and TEST entered (R364, R370) -/

theorem State.enterReset_phase (s : State) (cause rail : Nat) (lost : Bool) : (s.enterReset cause rail lost).phase = .reset := by
  unfold State.enterReset
  by_cases hp : s.phase = .reset
  · cases lost <;> simp [hp, State.set]
  · cases lost <;> simp [hp, State.set]

theorem State.enterReset_fuses (s : State) (cause rail : Nat) (lost : Bool) : s.fuses.Blown (s.enterReset cause rail lost).fuses := by
  have h := s.interruptFlash_fuses
  unfold State.enterReset
  by_cases hp : s.phase = .reset
  · cases lost <;> simpa [hp, State.set] using Fuses.Blown.refl s.fuses
  · cases lost <;> simpa [hp, State.set] using h

/-- What shows the mode after a change of phase. -/
abbrev modeParts : Nat := partsMask [.reg .PRT_LINK_STATUS, .reg .PWR_MODE, .reg .FLT_STAT, .reg .MGT_EVT_STAT, .reg .CNT_VAL, .reg .MGT_EVT_REC]

theorem State.inTest_only_mode (s : State) : Only modeParts { s with phase := .test } s.inTest :=
  State.updFaultN_only rfl (State.updMode_only rfl (State.each_only (fun _ _ hu => State.showTest_only rfl hu) (Only.refl _ _)))

theorem State.enterSafe_only_mode (s : State) (cause : Nat) : Only modeParts { s with phase := .safe } (s.enterSafe cause) :=
  State.updFaultN_only rfl (State.updMode_only rfl (State.set_only rfl (Only.refl _ _)))

end Sys2Proof.Machine

namespace Sys2Proof.Machine

-- Proofs are elaborated one after another: each proof thread costs the check 256 MB of stack.
set_option Elab.async false

set_option exponentiation.threshold 500

/-! ### What a register write can do to the mode and the eFuse (R364, R370, R378) -/

/-- Every part of the state but the phase and the eFuse. -/
abbrev quietParts : Nat := (2 ^ 400 - 1) ^^^ (StateField.mask .phase ||| StateField.mask .fuses)

/-- From `s` to `t` the phase is the same, RESET has been entered, or TEST from SAFE; and fuses have only been blown. -/
def WriteKeeps (s t : State) : Prop :=
  (t.phase = s.phase ∨ t.phase = .reset ∨ (s.phase = .safe ∧ t.phase = .test)) ∧ s.fuses.Blown t.fuses

section Writes

variable {s t u : State}

theorem WriteKeeps.of_only (h : Only quietParts s t) : WriteKeeps s t := ⟨.inl h.phase_eq, .of_eq h.fuses_eq⟩

theorem WriteKeeps.of_eq (hp : t.phase = s.phase) (hf : t.fuses = s.fuses) : WriteKeeps s t := ⟨.inl hp, .of_eq hf⟩

theorem WriteKeeps.refl (s : State) : WriteKeeps s s := .of_eq rfl rfl

theorem WriteKeeps.trans (h : WriteKeeps s t) (h' : WriteKeeps t u) : WriteKeeps s u := by
  refine ⟨?_, h.2.trans h'.2⟩
  rcases h'.1 with hp | hp | ⟨ht, hu⟩
  · rw [hp]
    exact h.1
  · exact .inr (.inl hp)
  · rcases h.1 with hp | hp | ⟨-, hp⟩
    · exact .inr (.inr ⟨hp ▸ ht, hu⟩)
    · exact absurd (hp.symm.trans ht) (by decide)
    · exact absurd (hp.symm.trans ht) (by decide)

theorem WriteKeeps.onBit {v : Word} {F : Fld} {f : State → State} (h : WriteKeeps s (f s)) : WriteKeeps s (s.onBit v F f) := by
  unfold State.onBit
  split
  · exact h
  · exact .refl s

variable (s) (k : RegKind) (i : Nat) (v : Word) (env : WriteEnv)

theorem enterReset_writeKeeps (cause rail : Nat) (lost : Bool) : WriteKeeps s (s.enterReset cause rail lost) :=
  ⟨.inr (.inl (s.enterReset_phase ..)), s.enterReset_fuses ..⟩

theorem enterTest_writeKeeps : WriteKeeps s (enterTest s) := by
  unfold enterTest
  split_ifs with hsafe
  · exact ⟨.inr (.inr ⟨hsafe, s.inTest_only_mode.phase_eq⟩), .of_eq s.inTest_only_mode.fuses_eq⟩
  · exact .of_only (State.refuseWrite_only rfl (Only.refl _ s))

/-- A write of PWR_CTL banks, recovers, and enters TEST and RESET, in this order; no other register of its file has more than the quiet parts change. -/
theorem State.writePower_keeps : WriteKeeps s (s.writePower k i v) := by
  have hk : Sub k.mask quietParts := Sub.kind rfl
  have hs := Only.refl quietParts s
  unfold State.writePower
  split
  case h_1 =>
    extract_lets u1 u2 u3
    have h2 : WriteKeeps s u2 := .of_only (Only.ite (bankWrite_only rfl hs) (recoverRegions_only rfl (bankWrite_only rfl hs)))
    have h3 : WriteKeeps s u3 := h2.trans (.onBit (enterTest_writeKeeps u2))
    exact h3.trans (.onBit (enterReset_writeKeeps u3 2 0 false))
  case h_2 => exact .of_only (bankWrite_only rfl hs)
  case h_3 => exact .of_only (bankWrite_only rfl hs)
  case h_4 => exact .of_only (State.writeFltCfg_only rfl hs)
  case h_5 => exact .of_only (State.onBit_only (fun _ => degClear_only rfl) hs)
  case h_6 => exact .of_only (State.onBit_only (fun _ => fltPendClear_only rfl) hs)
  case h_7 => exact .of_only (fltInjGo_only rfl hs)
  case h_8 => exact .of_only (State.writeRepair_only rfl hs)
  case h_9 => exact .of_only (State.onBit_only (fun _ => fltFatalClear_only rfl) hs)
  case h_10 => exact .of_only (State.manualChanged_only rfl (State.writeFields_only rfl hs))
  case h_11 => exact .of_only (State.channelChanged_only rfl (Only.ite (State.set_only rfl (State.writeFields_only rfl hs)) (State.writeFields_only rfl hs)))
  case h_12 => exact .of_only (State.writeTime_only rfl hk hs)

theorem State.writeChip_keeps : WriteKeeps s (s.writeChip k i v env) := by
  have hs := Only.refl quietParts s
  have hrefused := State.refuseWrite_only (k := k) (i := i) rfl hs
  unfold State.writeChip
  split
  case h_1 => exact .of_only (hbmDbgWindowWrite_only rfl hs)
  case h_2 => exact .of_only (State.onBit_only (fun _ => drsErrPendClear_only rfl) hs)
  case h_3 => exact .of_only (State.refuseWrite_only rfl hs)
  case h_4 => exact .of_only (State.refuseWrite_only rfl hs)
  case h_5 => exact .of_only (handoverWrite_only rfl hs)
  case h_6 => exact .of_only (Only.ite (State.refuseWrite_only rfl hs) hs)
  case h_7 => exact .of_only (Only.ite (State.refuseWrite_only rfl hs) hs)
  case h_8 => exact .of_only (Only.ite (State.refuseWrite_only rfl hs) hs)
  case h_9 => exact .of_only (State.writeImage_only rfl hs)
  case h_10 => exact .of_only (State.writeImage_only rfl hs)
  case h_11 => exact .of_only (State.onBit_only (fun _ => trngNext_only rfl) hs)
  case h_12 => exact .of_only (evtAckWrite_only rfl hs)
  case h_13 => exact s.writePower_keeps k i v

theorem State.writeTongs_keeps : WriteKeeps s (s.writeTongs k i v env) := by
  have hs := Only.refl quietParts s
  unfold State.writeTongs
  split
  case h_1 => exact .of_only (State.refuseWrite_only rfl hs)
  case h_2 => exact .of_only (State.refuseWrite_only rfl hs)
  case h_3 => exact .of_only (State.onBit_only (fun _ => tngSubGo_only rfl) hs)
  case h_4 => exact .of_only (State.onBit_only (fun _ => tngCancelGo_only rfl) hs)
  case h_5 => exact .of_only (cqHeadWrite_only rfl hs)
  case h_6 => exact .of_only (State.onBit_only (fun _ => engineReset_only rfl) hs)
  case h_7 => exact s.writeChip_keeps k i v env

theorem State.writeMemory_keeps : WriteKeeps s (s.writeMemory k i v env) := by
  have hs := Only.refl quietParts s
  unfold State.writeMemory
  split
  case h_1 => exact .of_only (l1EntryWrite_only rfl hs)
  case h_2 => exact .of_only (l1EntryWrite_only rfl hs)
  case h_3 => exact .of_only (acuWindowWrite_only rfl hs)
  case h_4 => exact .of_only (acuWindowWrite_only rfl hs)
  case h_5 => exact .of_only (State.set_only rfl hs)
  case h_6 => exact .of_only (State.onBit_only (fun _ => acuErrPendClear_only rfl) hs)
  case h_7 => exact .of_only (State.writeRmp_only rfl hs)
  case h_8 => exact .of_only (State.onBit_only (fun _ => poisonLogClear_only rfl) hs)
  case h_9 => exact .of_only (hrtCfgWrite_only rfl hs)
  case h_10 => exact .of_only (State.onBit_only (fun _ => readDir_only rfl) hs)
  case h_11 => exact .of_only (hotEnWrite_only rfl hs)
  case h_12 => exact .of_only (migCfgWrite_only rfl hs)
  case h_13 => exact s.writeTongs_keeps k i v env

theorem State.writeTemper_keeps : WriteKeeps s (s.writeTemper k i v env) := by
  have hs := Only.refl quietParts s
  unfold State.writeTemper
  split
  case h_1 => exact .of_only (holdBoundWrite_only rfl hs)
  case h_2 => exact .of_only (State.writeBind_only rfl hs)
  case h_3 => exact .of_only (shaperRewrite_only rfl hs)
  case h_4 => exact .of_only (shaperRewrite_only rfl hs)
  case h_5 => exact .of_only (contextRewrite_only rfl hs)
  case h_6 => exact .of_only (contextRewrite_only rfl hs)
  case h_7 => exact .of_only (State.holdFullNow_only rfl (State.holdRoom_only rfl (State.set_only rfl hs)))
  case h_8 => exact s.writeMemory_keeps k i v env

theorem State.writeAnvil_keeps : WriteKeeps s (s.writeAnvil k i v env) := by
  have hs := Only.refl quietParts s
  unfold State.writeAnvil
  split
  case h_1 => exact .of_only (routeEntryWrite_only rfl hs)
  case h_2 => exact .of_only (State.onBit_only (fun _ => probeSnap_only rfl) (State.writeFields_only rfl hs))
  case h_3 => exact .of_only (Only.ite hs (Only.ite (quenchSet_only rfl hs) (quenchClear_only rfl hs)))
  case h_4 => exact .of_only (mirrorEnWrite_only rfl hs)
  case h_5 => exact s.writeTemper_keeps k i v env

theorem State.writePort_keeps : WriteKeeps s (s.writePort k i v env) := by
  have hs := Only.refl quietParts s
  unfold State.writePort
  split
  case h_1 =>
    exact .of_only (retrainWrite_only rfl (l0pTgtWrite_only rfl (l0pTgtWrite_only rfl (adminWrite_only rfl (State.set_only rfl (State.set_only rfl hs))))))
  case h_2 => exact .of_only (markClear_only rfl hs)
  case h_3 => exact .of_only (State.onBit_only (fun _ => prbsSnap_only rfl) (prbsEnWrite_only rfl hs))
  case h_4 => exact .of_only (State.onBit_only (fun _ => sflRetrainWrite_only rfl) (State.writeFields_only rfl hs))
  case h_5 =>
    exact .of_only (State.onBit_only (fun _ => laneReqWrite_only rfl)
      (Only.ite (State.set_only rfl (State.writeFields_only rfl hs)) (State.writeFields_only rfl hs)))
  case h_6 => exact .of_only (txSlotWrite_only rfl hs)
  case h_7 => exact .of_only (State.setReg_only rfl hs)
  case h_8 => exact .of_only (sflKeyCommit_only rfl hs)
  case h_9 => exact s.writeAnvil_keeps k i v env

end Writes

end Sys2Proof.Machine

namespace Sys2Proof.Machine

-- Proofs are elaborated one after another: each proof thread costs the check 256 MB of stack.
set_option Elab.async false

set_option exponentiation.threshold 500

theorem WriteKeeps.ite {s t u : State} {c : Prop} [Decidable c] (ht : WriteKeeps s t) (hu : WriteKeeps s u) : WriteKeeps s (if c then t else u) := by
  split
  · exact ht
  · exact hu

section Accesses

variable (s : State)

theorem State.perform_keeps (n a size : Nat) (k : RegKind) (i : Nat) (v : Word) (env : WriteEnv) : WriteKeeps s (s.perform n a size k i v env).1 := by
  have hwrite : WriteKeeps { s with accessing := some (a, size, n) } ({ s with accessing := some (a, size, n) }.writeReg k i v env) := by
    unfold State.writeReg
    split_ifs
    · exact .refl _
    · exact State.writePort_keeps ..
  exact .trans (.of_eq rfl rfl) (.trans hwrite (.of_eq rfl rfl))

theorem State.writeAccess_keeps (n a size v : Nat) (env : WriteEnv) : WriteKeeps s (s.writeAccess n a size v env).1 := by
  unfold State.writeAccess
  extract_lets held x u
  have hu : WriteKeeps s u := .of_eq rfl rfl
  have hus := Only.refl quietParts u
  have hrefused : WriteKeeps s (u.refuseStore n a size).1 := hu.trans (.of_only (State.refuseStore_only rfl hus))
  clear_value u
  split
  · exact hrefused
  split
  · exact hrefused
  · split_ifs
    · exact hrefused
    · exact hu.trans (.of_only (State.hbmCount_only rfl (State.writeHbm_only rfl hus)))
  · split_ifs
    · exact hu.trans (u.perform_keeps ..)
    · exact hu.trans (.of_eq rfl rfl)
    · exact hu.trans (u.perform_keeps ..)
    · exact hu.trans (u.perform_keeps ..)
    · exact hrefused
    · exact hu
    · exact hu.trans (u.perform_keeps ..)

theorem State.writeAccesses_keeps (n size : Nat) (env : WriteEnv) (c a : Nat) (data : List Byte) (done : Nat) :
    WriteKeeps s (State.writeAccesses n size env c a data s done).1 := by
  induction c generalizing s a data done with
  | zero => exact .refl s
  | succ c ih =>
    have hfirst := s.writeAccess_keeps n a size (ofBytes (data.take (2 ^ size))) env
    unfold State.writeAccesses
    split
    · rename_i t ht
      rw [ht] at hfirst
      split_ifs
      · exact hfirst
      · exact hfirst.trans (ih t ..)
    · rename_i t ht
      rw [ht] at hfirst
      exact hfirst

theorem State.message_keeps (n type tag : Nat) (ownerOnly : Bool) {f : State → State} (hf : ∀ u, WriteKeeps u (f u)) :
    WriteKeeps s (s.message n type tag ownerOnly f) := by
  have hs : WriteKeeps s (s.tallyChip 1) := .of_only (State.tallyChip_only rfl (Only.refl _ s))
  unfold State.message
  extract_lets u
  change WriteKeeps s u at hs
  have hdone := hs.trans (hf u)
  have hother : WriteKeeps s (u.notOwner n type tag) := hs.trans (.of_only (State.notOwner_only rfl (Only.refl _ u)))
  clear_value u
  refine WriteKeeps.ite hs (WriteKeeps.ite (hs.trans (.of_eq rfl rfl)) ?_)
  split
  · exact WriteKeeps.ite (hs.trans (.of_eq rfl rfl)) (WriteKeeps.ite hother hdone)
  · exact WriteKeeps.ite hother hdone

theorem regWrite_keeps (ses tag addr size count : Nat) (data : List Byte) (env : WriteEnv) : WriteKeeps s (regWrite ses tag addr size count data env s) := by
  refine s.message_keeps ses 0x04 tag true fun u => ?_
  have hus := Only.refl quietParts u
  refine WriteKeeps.ite (.of_only (State.accessError_only rfl hus)) (WriteKeeps.ite (.of_only (State.reply_only rfl hus)) ?_)
  have hwrites := u.writeAccesses_keeps ses (size % 4) env count (addr % 2 ^ 30) data 0
  split
  rename_i t done ok ht
  rw [ht] at hwrites
  exact WriteKeeps.ite hwrites (WriteKeeps.ite (hwrites.trans (.of_only (State.reply_only rfl (Only.refl _ t))))
    (hwrites.trans (.of_only (State.accessError_only rfl (Only.refl _ t)))))

theorem debugViewAccess_keeps (ses tag x size : Nat) (write : Bool) (value : Word) : WriteKeeps s (debugViewAccess ses tag x size write value s) := by
  exact WriteKeeps.ite (regWrite_keeps s ..) (.of_only (regRead_only rfl (Only.refl _ s)))

end Accesses

/-! ### The changes of phase (R361, R364) -/

theorem exec_same {i : Instr} {s t : State} {p : StatePart} (h : exec i s = .next t) (hp : i.changes.contains p = false) : Same p s t :=
  (exec_framed i s).2 t h p (by simpa using hp)

set_option maxRecDepth 4096 in
/-- Settles O50: the commands that name the eFuse are the completion of a key command, the resets and the register writes, and each blows fuses alone. -/
theorem fusesOnlyBlow : Obligations.FusesOnlyBlow := by
  intro i s t h
  have hblown : s.fuses.Blown t.fuses := by
    cases i with
    | keyCommandComplete => exact Host.Outcome.next.inj h ▸ keyCommandComplete_fuses s
    | resetNAssert => exact Host.Outcome.next.inj h ▸ s.enterReset_fuses 1 0 false
    | brownOut rail lost => exact Host.Outcome.next.inj h ▸ s.enterReset_fuses 3 rail lost
    | reboot => exact Host.Outcome.next.inj h ▸ s.enterReset_fuses 2 0 false
    | regWrite => exact (run_next h).2 ▸ (regWrite_keeps s ..).2
    | debugViewAccess => exact (run_next h).2 ▸ (debugViewAccess_keeps s ..).2
    | _ => exact .of_eq (exec_same (p := .field .fuses) h rfl)
  refine ⟨fun n hn => ?_, hblown.2⟩
  unfold State.rootRevoked at hn ⊢
  exact decide_eq_true (hblown.1 n (of_decide_eq_true hn))

/-- The changes of phase that R364 lists, those that REGISTER writes make among them. -/
def PhaseMoves (p q : Phase) : Prop :=
  q = p ∨ q = .reset ∨ (p = .reset ∧ (q = .boot ∨ q = .safe)) ∨ (p = .boot ∧ (q = .verify ∨ q = .safe)) ∨
    (p = .verify ∧ (q = .provision ∨ q = .safe)) ∨ (p = .provision ∧ q = .operating) ∨ (p ≠ .reset ∧ q = .test)

section Phases

variable (s : State)

theorem PhaseMoves.of_eq {p q : Phase} (h : q = p) : PhaseMoves p q := .inl h

theorem WriteKeeps.phaseMoves {s t : State} (h : WriteKeeps s t) : PhaseMoves s.phase t.phase := by
  rcases h.1 with hp | hp | ⟨hs, ht⟩
  · exact .of_eq hp
  · exact .inr (.inl hp)
  · rw [hs, ht]
    unfold PhaseMoves
    decide

theorem enterReset_phaseMoves (cause rail : Nat) (lost : Bool) : PhaseMoves s.phase (s.enterReset cause rail lost).phase :=
  (enterReset_writeKeeps s cause rail lost).phaseMoves

theorem State.enterSafe_phase (cause : Nat) : (s.enterSafe cause).phase = .safe := (s.enterSafe_only_mode cause).phase_eq

/-- Left, RESET leads to BOOT, and from it at once to SAFE where BOOT_SRC says so. -/
theorem State.leaveReset_phase (role : Nat) (bootSrc : Bool) (pins : Word) :
    (s.leaveReset role bootSrc pins).phase = if bootSrc then .safe else .boot := by
  unfold State.leaveReset
  extract_lets u1 u2 u3 u4 u5 u6 u7
  have hboot : Only (partsMask causeParts ||| partsMask [.reg .PWR_MODE, .reg .MGT_CHIP_INFO, .reg .PWR_PERST, .reg .KEY_STAT, .reg .KEY_ROOT, .reg .KEY_ROOT_HASH])
      u1 u7 :=
    State.each_only (fun _ _ hu => State.cause_only rfl hu) (State.showFuses_only rfl (State.setReg_only rfl (State.set_only rfl (State.set_only rfl
      (State.set_only rfl (Only.refl _ u1))))))
  cases bootSrc with
  | true => exact u7.enterSafe_phase 2
  | false => exact hboot.phase_eq

/-- PROVISION begins from VERIFY alone. -/
theorem State.tryProvision_phase : s.tryProvision.phase = s.phase ∨ (s.phase = .verify ∧ s.tryProvision.phase = .provision) := by
  unfold State.tryProvision
  split
  · split_ifs with hready
    · refine .inr ⟨hready.1, ?_⟩
      exact (State.updMode_only rfl (State.each_only (fun _ _ hu => State.set_only rfl hu) (State.applyBoot_only (G := quietParts) rfl (Only.refl _ _)))).phase_eq
    · exact .inl rfl
  · exact .inl rfl

theorem resetEnd_phaseMoves (cause role : Nat) (bootSrc : Bool) (pins : Word) : PhaseMoves s.phase (resetEnd cause role bootSrc pins s).phase := by
  unfold resetEnd
  split_ifs with hreset
  · exact .of_eq rfl
  · dsimp only
    split_ifs
    · exact .of_eq rfl
    · rw [not_not.1 hreset, s.leaveReset_phase]
      cases bootSrc <;> simp [PhaseMoves]

theorem refclkRestore_phaseMoves (k role : Nat) (bootSrc : Bool) (pins : Word) : PhaseMoves s.phase (refclkRestore k role bootSrc pins s).phase := by
  unfold refclkRestore
  extract_lets u
  change PhaseMoves u.phase _
  split_ifs with hk hreset
  · rw [hreset.1, u.leaveReset_phase]
    cases bootSrc <;> simp [PhaseMoves]
  · exact .of_eq rfl
  · exact .of_eq (State.each_only (fun _ _ hu => State.bringUpAlone_only rfl hu) (Only.refl quietParts u)).phase_eq

theorem boundaryScanTest_phaseMoves : PhaseMoves s.phase (boundaryScanTest s).phase := by
  unfold boundaryScanTest
  split_ifs with hreset
  · exact .of_eq rfl
  · rw [(State.inTest_only_mode _).phase_eq]
    simp [PhaseMoves, hreset]

theorem hbmInitDone_phaseMoves (ok kept : Bool) (sram hbm : Nat) : PhaseMoves s.phase (hbmInitDone ok kept sram hbm s).phase := by
  unfold hbmInitDone
  extract_lets reuse u1 u2 u3 u4
  have hu4 : u4.phase = s.phase := by
    have h3 : Only quietParts s u3 := State.set_only rfl (State.set_only rfl (State.set_only rfl (Only.refl _ s)))
    simp only [u4]
    split_ifs
    · exact (State.reapply_only rfl h3).phase_eq
    · exact h3.phase_eq
  split_ifs with hidle hok hearly
  · exact .of_eq rfl
  · rw [s.enterSafe_phase]
    rcases hearly with hp | hp <;> simp [PhaseMoves, hp]
  · exact .of_eq rfl
  · rcases State.tryProvision_phase { u4 with hbmReady := true } with hp | ⟨hv, hp⟩
    · exact .of_eq (hp.trans hu4)
    · rw [hp, ← hu4, show u4.phase = .verify from hv]
      simp [PhaseMoves]

theorem bootRecordsRead_phaseMoves : PhaseMoves s.phase (bootRecordsRead s).phase := by
  unfold bootRecordsRead
  split_ifs with hboot
  · rw [(State.updMode_only (Sub.refl _) (Only.refl _ _)).phase_eq, hboot]
    simp [PhaseMoves]
  · exact .of_eq rfl

theorem bootVerifyResult_phaseMoves (ruleA ruleB : Option RuleItem) (imgA imgB : ImgContent) :
    PhaseMoves s.phase (bootVerifyResult ruleA imgA ruleB imgB s).phase := by
  unfold bootVerifyResult
  split
  · exact .of_eq rfl
  · rename_i hidle
    have hverify : s.phase = .verify := not_not.1 fun h => hidle (.inl h)
    extract_lets img ok
    split
    · rw [State.enterSafe_phase, hverify]
      simp [PhaseMoves]
    · extract_lets fell u
      have hu : u.phase = s.phase := (Only.ite (State.notice_only rfl (State.set_only rfl (Only.refl _ s))) (Only.refl quietParts s)).phase_eq
      clear_value u
      rcases State.tryProvision_phase { u with staged := some _ } with hp | ⟨-, hp⟩
      · exact .of_eq (hp.trans hu)
      · rw [hp, hverify]
        simp [PhaseMoves]

theorem provisionComplete_phaseMoves : PhaseMoves s.phase (provisionComplete s).phase := by
  unfold provisionComplete
  split_ifs with hidle
  · exact .of_eq rfl
  · have hprov : s.phase = .provision := not_not.1 fun h => hidle (.inl h)
    extract_lets u1 u2 u3
    have hkept : Only quietParts u1 u3.updRoot.updMode.updFaultN :=
      State.updFaultN_only rfl (State.updMode_only rfl (State.updRoot_only rfl (State.set_only rfl (State.set_only rfl (Only.refl _ u1)))))
    rw [hkept.phase_eq, hprov]
    simp [PhaseMoves, u1]

end Phases

set_option maxRecDepth 4096 in
/-- Settles O49: of the commands that name the phase, each moves it as R364 lists. -/
theorem phasesChangeByTheTable : Obligations.PhasesChangeByTheTable := by
  intro i s t h
  change PhaseMoves s.phase t.phase
  cases i with
  | resetNAssert => exact Host.Outcome.next.inj h ▸ enterReset_phaseMoves s 1 0 false
  | brownOut rail lost => exact Host.Outcome.next.inj h ▸ enterReset_phaseMoves s 3 rail lost
  | reboot => exact Host.Outcome.next.inj h ▸ enterReset_phaseMoves s 2 0 false
  | resetEnd => exact Host.Outcome.next.inj h ▸ resetEnd_phaseMoves s ..
  | refclkRestore => exact (run_next h).2 ▸ refclkRestore_phaseMoves s ..
  | enterTest => exact Host.Outcome.next.inj h ▸ (enterTest_writeKeeps s).phaseMoves
  | boundaryScanTest => exact Host.Outcome.next.inj h ▸ boundaryScanTest_phaseMoves s
  | hbmInitDone => exact Host.Outcome.next.inj h ▸ hbmInitDone_phaseMoves s ..
  | bootRecordsRead => exact Host.Outcome.next.inj h ▸ bootRecordsRead_phaseMoves s
  | bootVerifyResult => exact Host.Outcome.next.inj h ▸ bootVerifyResult_phaseMoves s ..
  | provisionComplete => exact Host.Outcome.next.inj h ▸ provisionComplete_phaseMoves s
  | regWrite => exact (run_next h).2 ▸ (regWrite_keeps s ..).phaseMoves
  | debugViewAccess => exact (run_next h).2 ▸ (debugViewAccess_keeps s ..).phaseMoves
  | _ => exact .of_eq (exec_same (p := .field .phase) h rfl)

end Sys2Proof.Machine

namespace Sys2Proof.Machine

-- Proofs are elaborated one after another: each proof thread costs the check 256 MB of stack.
set_option Elab.async false

/-! ### A JOIN while a generation waits that declares its chip unreachable (R299, R302, R309) -/

section Generations

variable {s : State} {changes : List FabChange} {whole : List Nat}

/-- A change of the distributed tables that touches no forwarding entry. -/
def FabChange.keepsRoutes (x : FabChange) : Bool :=
  match x with
  | .fft .. => false
  | _ => true

/-- With no forwarding entry on any chip the rule of R314 holds. -/
theorem State.fftLegal_of_no_routes (htables : s.fab.tables = []) (hnone : changes.all FabChange.keepsRoutes = true) : s.fftLegal changes = true := by
  have hnext : ∀ chip d, s.nextChips changes chip d = [] := by
    intro chip d
    unfold State.nextChips
    extract_lets new
    have hnew : new = [] := by
      refine List.flatMap_eq_nil_iff.2 fun x hx => ?_
      have hx := List.all_eq_true.1 hnone x hx
      cases x with
      | fft => exact absurd hx Bool.false_ne_true
      | _ => rfl
    have hold : fftPorts (s.fftOf chip d) = [] := by
      unfold State.fftOf
      rw [htables]
      exact show fftPorts 0 = [] by decide
    rw [hnew, hold]
    rfl
  unfold State.fftLegal
  simp [hnext]

/-- The generation that the change waiting longest becomes. -/
abbrev State.nextRun (s : State) (changes : List FabChange) (whole : List Nat) : FabRun := ⟨⟨s.get MGT_FAB_GEN.GEN 0 + 1, false, changes⟩, 1, [], whole⟩

variable {rest : List (List FabChange × List Nat)} (n : Nat)

/-- A waiting change that no other chip takes part in is committed at once. -/
theorem State.startGen_commits (hmay : s.mayDistribute = true) (htodo : s.fab.todo = (changes, whole) :: rest)
    (hlegal : (s.modFab fun x => { x with todo := rest }).fftLegal changes = true)
    (hstep : (s.modFab fun x => { x with todo := rest }).stepOf (s.nextRun changes whole) = none)
    (halone : (s.modFab fun x => { x with todo := rest }).phaseChips (s.nextRun changes whole) = []) :
    State.startGen (n + 1) s = State.startGen n ((s.modFab fun x => { x with todo := rest }).finishGen (s.nextRun changes whole)) := by
  rw [State.startGen]
  simp only [hmay, htodo, hlegal]
  have hr : (⟨⟨(s.modFab fun x => { x with todo := rest }).get MGT_FAB_GEN.GEN 0 + 1, false, changes⟩, 1, [], whole⟩ : FabRun) = s.nextRun changes whole := rfl
  simp [hr, hstep, halone]

/-- A waiting change that waits for other chips, with no standby to ask first, is sent them. -/
theorem State.startGen_sends (hmay : s.mayDistribute = true) (htodo : s.fab.todo = (changes, whole) :: rest)
    (hlegal : (s.modFab fun x => { x with todo := rest }).fftLegal changes = true)
    (hstep : (s.modFab fun x => { x with todo := rest }).stepOf (s.nextRun changes whole) = none)
    (hchips : (s.modFab fun x => { x with todo := rest }).phaseChips (s.nextRun changes whole) ≠ []) :
    State.startGen (n + 1) s = (s.modFab fun x => { x with todo := rest }).sendPrep (s.nextRun changes whole) := by
  rw [State.startGen]
  simp only [hmay, htodo, hlegal]
  have hr : (⟨⟨(s.modFab fun x => { x with todo := rest }).get MGT_FAB_GEN.GEN 0 + 1, false, changes⟩, 1, [], whole⟩ : FabRun) = s.nextRun changes whole := rfl
  simp [hr, hstep, hchips]

end Generations

/-- A JOIN that nothing speaks against: the chip is recorded, and the whole state waits to be sent to it (R299). -/
theorem joinFabric_of_accepted {s : State} {m : JoinMsg} (hrole : s.roleNow = 3) (hcause : (s.hear m.chip).joinCause m = 0) :
    joinFabric (some m) s =
      ((((s.hear m.chip).set MGT_FAB_MEMBER.STATE m.chip 1).set MGT_FAB_STAT.REV_TOP 0
        (max (((s.hear m.chip).set MGT_FAB_MEMBER.STATE m.chip 1).get MGT_FAB_STAT.REV_TOP 0) m.revMax)).change
          [.member m.chip (word (2 + m.role % 4 * 2 ^ 3 + m.revMax % 256 * 2 ^ 8))] [m.chip]).capTables := by
  unfold joinFabric
  simp only [hrole, hcause]
  rfl

/-- A manager alone in its fabric, where worker 5 has been declared unreachable by a generation that waits (one can wait while a handover runs, and the waiting list stays when the chip is acting
manager again). -/
def waitingManager : State :=
  (State.reset.set MGT_FAB_STAT.ROLE_NOW 0 3).modFab fun x => { x with roles := [(5, 1)], todo := [([.unreachable 5], [])] }

/-- Worker 5 asks to join. -/
def workerJoin : JoinMsg := ⟨5, 1, 0, 0, 0, 0⟩

/-- The manager has recorded the chip as joining, and its generation waits behind the other. -/
def joinQueued : State :=
  (((waitingManager.hear 5).set MGT_FAB_MEMBER.STATE 5 1).set MGT_FAB_STAT.REV_TOP 0 0).modFab fun x =>
    { x with todo := x.todo ++ [([.member 5 (word 10)], [5])] }

/-- The generation that waited has been committed, since no other chip takes part in it. -/
@[irreducible] def unreachableDeclared : State := (joinQueued.modFab fun x => { x with todo := [([.member 5 (word 10)], [5])] }).finishGen (joinQueued.nextRun [.unreachable 5] [])

theorem joinQueued_ready : joinQueued.mayDistribute = true ∧
    (joinQueued.modFab fun x => { x with todo := [([.member 5 (word 10)], [5])] }).stepOf (joinQueued.nextRun [.unreachable 5] []) = none ∧
    (joinQueued.modFab fun x => { x with todo := [([.member 5 (word 10)], [5])] }).phaseChips (joinQueued.nextRun [.unreachable 5] []) = [] := by decide +kernel

theorem unreachableDeclared_ready : unreachableDeclared.mayDistribute = true ∧ unreachableDeclared.fab.todo = [([.member 5 (word 10)], [5])] ∧
    unreachableDeclared.fab.tables = [] ∧
    (unreachableDeclared.modFab fun x => { x with todo := [] }).stepOf (unreachableDeclared.nextRun [.member 5 (word 10)] [5]) = none ∧
    (unreachableDeclared.modFab fun x => { x with todo := [] }).phaseChips (unreachableDeclared.nextRun [.member 5 (word 10)] [5]) ≠ [] ∧
    unreachableDeclared.get MGT_FAB_MEMBER.STATE 5 = 3 := by decide +kernel

/-- The chip's own generation has been sent to it. -/
def joinSent : State := (unreachableDeclared.modFab fun x => { x with todo := [] }).sendPrep (unreachableDeclared.nextRun [.member 5 (word 10)] [5])

theorem joinQueued_goes_on : joinQueued.nextGen = joinSent := by
  obtain ⟨hmay, hstep, halone⟩ := joinQueued_ready
  obtain ⟨hmay', htodo', htables', hstep', hchips', -⟩ := unreachableDeclared_ready
  have hfirst : joinQueued.nextGen = State.startGen 2 unreachableDeclared := by
    unfold unreachableDeclared
    exact State.startGen_commits 2 hmay rfl (State.fftLegal_of_no_routes rfl rfl) hstep halone
  exact hfirst.trans (State.startGen_sends 1 hmay' htodo' (State.fftLegal_of_no_routes htables' rfl) hstep' hchips')

theorem joinSent_state : joinSent.get MGT_FAB_MEMBER.STATE 5 = 3 := by
  obtain ⟨-, -, -, -, -, hstate⟩ := unreachableDeclared_ready
  exact ((State.sendPrep_only (Sub.refl _) (Only.refl _ _)).get_eq ..).trans hstate

/-- With no forwarding entry distributed there is none to cap. -/
theorem State.capTables_of_no_routes {s : State} (h : s.fab.tables = []) : s.capTables = s := by
  unfold State.capTables
  rw [h]
  simp

theorem State.sendTo_fab (s : State) (c : Nat) (m : FabMsg) : (s.sendTo c m).fab = s.fab :=
  (State.tallyChip_only (Sub.refl _) (Only.refl _ s)).2 (.field .fab) (by decide)

theorem joinSent_tables : joinSent.fab.tables = [] := by
  obtain ⟨-, -, htables, -⟩ := unreachableDeclared_ready
  have hsend : ∀ (r : FabRun) (l : List Nat) (u : State), (l.foldl (fun t c => t.sendTo c (.distPrep t.epoch (t.genFor r c))) u).fab = u.fab := by
    intro r l
    induction l with
    | nil => exact fun _ => rfl
    | cons c l ih => exact fun u => (ih _).trans (u.sendTo_fab ..)
  unfold joinSent State.sendPrep
  dsimp only
  rw [hsend]
  exact htables

/-- Refutes O34: its clause on a JOIN accepted has the chip's state JOINING afterwards, but a generation that waited, and that declares the chip unreachable, is committed in the same step. -/
theorem not_fabricManaged : ¬ Obligations.FabricManaged := by
  unfold Obligations.FabricManaged
  rintro ⟨-, -, -, accepted, -⟩
  obtain ⟨t, ht, hjoining⟩ := accepted waitingManager workerJoin (by decide +kernel) (by decide +kernel)
  have he : exec (.joinFabric (some workerJoin)) waitingManager = .next joinQueued.nextGen.capTables := by
    have hcause : (waitingManager.hear 5).joinCause workerJoin = 0 := by decide +kernel
    have hrole : waitingManager.roleNow = 3 := by decide +kernel
    have hrev : max (((waitingManager.hear 5).set MGT_FAB_MEMBER.STATE 5 1).get MGT_FAB_STAT.REV_TOP 0) 0 = 0 := by decide +kernel
    have hword : word (2 + 1 % 4 * 2 ^ 3 + 0 % 256 * 2 ^ 8) = word 10 := rfl
    have hjoin := joinFabric_of_accepted hrole hcause
    simp only [workerJoin, hrev, hword] at hjoin
    exact congrArg Host.Outcome.next hjoin
  rw [joinQueued_goes_on, State.capTables_of_no_routes joinSent_tables] at he
  obtain rfl : joinSent = t := Host.Outcome.next.inj (he.symm.trans ht)
  exact absurd (joinSent_state.symm.trans hjoining) (by decide)

end Sys2Proof.Machine

namespace Sys2Proof.Machine

-- Proofs are elaborated one after another: each proof thread costs the check 256 MB of stack.
set_option Elab.async false

set_option exponentiation.threshold 500

/-! ### Result registers, completed (R357) -/

section Results

variable (s : State) {seq valid F : Fld} (i j : Nat)

theorem State.resultDone_valid (hvalid : Fld.Fits valid) : (s.resultDone seq valid i).get valid i = 1 := State.get_set_fits _ _ hvalid (Nat.one_lt_two_pow (by
  unfold Fld.width
  have := hvalid.1
  omega))

theorem State.resultDone_seq (hseq : Fld.Fits seq) (hvalid : Fld.Fits valid) (h : seq.hi < valid.lo ∨ valid.hi < seq.lo) :
    (s.resultDone seq valid i).get seq i = (s.get seq i + 1) % 2 ^ seq.width :=
  (State.get_set_bits _ i i 1 hvalid h).trans (s.get_set_self i _ hseq.1 hseq.2)

/-- A result's other fields are those that its command has written. -/
theorem State.resultDone_other (hseq : Fld.Fits seq) (hvalid : Fld.Fits valid) (h : F.hi < seq.lo ∨ seq.hi < F.lo) (h' : F.hi < valid.lo ∨ valid.hi < F.lo) :
    (s.resultDone seq valid i).get F j = s.get F j :=
  (State.get_set_bits _ i j 1 hvalid h').trans (s.get_set_bits i j _ hseq h)

theorem State.flag_eq_true {s : State} {F : Fld} {i : Nat} (h : s.flag F i = true) : s.get F i = 1 := of_decide_eq_true h

end Results

/-! ### Key commands started (R328, R335) -/

section KeyCommands

variable {s : State}

theorem State.keyCommand_of_idle (himg : s.imgRun = none) (hkey : s.keyRun = none) (r : KeyRun) :
    s.keyCommand r = { s.resultStart KEY_RES.VALID 0 with keyRun := some r } := by
  unfold State.keyCommand
  rw [himg, hkey]
  rfl

theorem State.keyCommand_of_running (hkey : s.keyRun.isSome = true) (r : KeyRun) : s.keyCommand r = s.refuseWrite .KEY_CMD 0 := by
  unfold State.keyCommand
  rw [hkey, Bool.or_true]
  rfl

theorem State.keyCommand_keyRun (himg : s.imgRun = none) (hkey : s.keyRun = none) (r : KeyRun) : (s.keyCommand r).keyRun = some r := by
  rw [State.keyCommand_of_idle himg hkey]

theorem State.keyCommand_valid (himg : s.imgRun = none) (hkey : s.keyRun = none) (r : KeyRun) : (s.keyCommand r).get KEY_RES.VALID 0 = 0 := by
  rw [State.keyCommand_of_idle himg hkey]
  have hkept : Only (partsMask [.field .keyRun]) (s.resultStart KEY_RES.VALID 0) { s.resultStart KEY_RES.VALID 0 with keyRun := some r } :=
    Only.set_keyRun rfl (Only.refl _ _)
  exact (hkept.get_eq KEY_RES.VALID 0).trans (s.get_set_fits 0 (by decide) (by decide))

/-- GEN_ID draws its key from a generator that is ready. -/
theorem keyGenId_of_ready (himg : s.imgRun = none) (hkey : s.keyRun = none) (hready : s.flag KEY_TRNG_STAT.READY 0 = true) :
    ((keyGenId s).keyRun.map fun r : KeyRun => (r.op, r.status)) = some (1, 0) ∧ (keyGenId s).get KEY_RES.VALID 0 = 0 := by
  unfold keyGenId
  rw [if_pos hready]
  extract_lets key t
  have hrun : t.keyRun = some ⟨1, 0, 0, [], key, 0⟩ := State.keyCommand_keyRun himg hkey _
  have hvalid : t.get KEY_RES.VALID 0 = 0 := State.keyCommand_valid himg hkey _
  rw [if_neg (by rw [hrun, hkey]; exact Option.some_ne_none _)]
  exact ⟨congrArg (Option.map _) hrun, hvalid⟩

theorem keyGenId_of_not_ready (himg : s.imgRun = none) (hkey : s.keyRun = none) (hready : s.flag KEY_TRNG_STAT.READY 0 = false) :
    ((keyGenId s).keyRun.map fun r : KeyRun => (r.op, r.status)) = some (1, 1) := by
  unfold keyGenId
  rw [hready, if_neg Bool.false_ne_true, State.keyCommand_keyRun himg hkey]
  rfl

/-- The status of a ROTATE: the first check of R335 that the record fails. -/
theorem keyRotate_keyRun (himg : s.imgRun = none) (hkey : s.keyRun = none) {key : Nat} (hid : s.pendingId = some key) (ok : Bool) :
    (keyRotate ok s).keyRun = some (KeyRun.mk 2 0 0 (sealRecord (s.bufBytes 4096) key) key
      (if !recFormed (s.bufBytes 4096) ∨ recBytes (s.bufBytes 4096) 0x1D0 96 ≠ Config.p384Public key then 2
      else if s.rootStatus (s.bufBytes 4096) ≠ 0 then s.rootStatus (s.bufBytes 4096) else if ok then 0 else 5)) := by
  unfold keyRotate
  rw [hid]
  dsimp only [Option.or]
  rw [State.keyCommand_keyRun himg hkey]
  generalize sealRecord (s.bufBytes 4096) key = record
  refine congrArg (fun status => some (KeyRun.mk 2 0 0 record key status)) ?_
  by_cases hform : (!recFormed (s.bufBytes 4096)) = true ∨ recBytes (s.bufBytes 4096) 0x1D0 96 ≠ Config.p384Public key
  · simp only [if_pos hform]
    rfl
  · simp only [if_neg hform]
    by_cases hroot : s.rootStatus (s.bufBytes 4096) = 0
    · cases ok <;> simp [hroot]
    · simp [hroot]

/-- REVOKE of a slot that is not usable, with no record in force. -/
theorem keyRevoke_of_unusable (himg : s.imgRun = none) (hkey : s.keyRun = none) {n : Nat} (husable : s.rootUsable n = false)
    (hrec : s.get KEY_STAT.REC_VALID 0 = 0) : (keyRevoke n s).keyRun = some (KeyRun.mk 3 n 0 [] 0 0) := by
  unfold keyRevoke
  rw [husable]
  have hflag : s.flag KEY_STAT.REC_VALID 0 = false := decide_eq_false (by rw [hrec]; decide)
  simp only [hflag]
  exact State.keyCommand_keyRun himg hkey _

theorem keyRevoke_of_last (himg : s.imgRun = none) (hkey : s.keyRun = none) {n : Nat} (husable : s.rootUsable n = true)
    (hlast : ∀ k ∈ List.range 4, k ≠ n → s.rootUsable k = false) : (keyRevoke n s).keyRun = some (KeyRun.mk 3 n 0 [] 0 6) := by
  have hall : ((List.range 4).all fun k => decide (k = n) || !s.rootUsable k) = true := by
    refine List.all_eq_true.2 fun k hk => ?_
    by_cases hkn : k = n
    · simp [hkn]
    · simp [hlast k hk hkn]
  unfold keyRevoke
  rw [husable, hall]
  exact State.keyCommand_keyRun himg hkey _

end KeyCommands

/-! ### Key commands completed (R335, R341, R357) -/

section KeyComplete

variable {s : State} {r : KeyRun}

/-- A key command that was not refused has its effect, and its result is then shown. -/
theorem keyCommandComplete_of_ok (hrun : s.keyRun = some r) (hok : r.status = 0) :
    keyCommandComplete s = (({ s with keyRun := none }.keyEffect r).set KEY_RES.STATUS 0 0).resultDone KEY_RES.SEQ KEY_RES.VALID 0 := by
  unfold keyCommandComplete
  rw [hrun]
  simp only [hok, if_true]

/-- What the effect of a key command changes (R335). -/
abbrev keyEffectParts : Nat :=
  partsMask [.reg .KEY_STAT, .reg .KEY_ROOT, .reg .KEY_ROOT_HASH, .reg .KEY_ID_PUB, .field .flashA, .field .flashB, .field .fuses, .field .pendingId, .field .idKey]

theorem State.showId_pendingId (s : State) : s.showId.pendingId = s.pendingId := (State.showId_only (Sub.refl _) (Only.refl _ s)).2 (.field .pendingId) (by decide)

theorem State.showId_idPend (s : State) : s.showId.get KEY_STAT.ID_PEND 0 = bit s.pendingId.isSome := by
  unfold State.showId
  extract_lets u pub
  have hkept : Only (partsMask [.reg .KEY_ID_PUB]) u (u.each (List.range 12) fun k t => t.setReg .KEY_ID_PUB k (word (ofBytes ((pub.drop (8 * k)).take 8)))) :=
    State.each_only (fun _ _ hu => State.setReg_only rfl hu) (Only.refl _ u)
  rw [hkept.get_eq KEY_STAT.ID_PEND]
  exact s.get_set_bit 0 _ (by decide)

theorem keyCommandComplete_of_revoke {n : Nat} (hrun : s.keyRun = some (KeyRun.mk 3 n 0 [] 0 0)) :
    (keyCommandComplete s).keyRun = none ∧ (keyCommandComplete s).get KEY_RES.STATUS 0 = 0 ∧ (keyCommandComplete s).get KEY_RES.VALID 0 = 1 ∧
      (keyCommandComplete s).get KEY_RES.SEQ 0 = (s.get KEY_RES.SEQ 0 + 1) % 256 ∧ (keyCommandComplete s).rootRevoked n = true := by
  rw [keyCommandComplete_of_ok hrun rfl]
  set u := { s with keyRun := none }.keyEffect (KeyRun.mk 3 n 0 [] 0 0) with hu
  have hkept : Only (partsMask [.reg .KEY_STAT, .reg .KEY_ROOT, .reg .KEY_ROOT_HASH, .field .fuses]) { s with keyRun := none } u :=
    State.showFuses_only rfl (Only.set_fuses rfl (Only.refl _ _))
  have hshown : Only (partsMask [.reg .KEY_RES]) u ((u.set KEY_RES.STATUS 0 0).resultDone KEY_RES.SEQ KEY_RES.VALID 0) :=
    State.resultDone_only rfl rfl (State.set_only rfl (Only.refl _ u))
  refine ⟨?_, ?_, State.resultDone_valid _ _ (by decide), ?_, ?_⟩
  · exact (hshown.2 (.field .keyRun) (by decide)).trans (hkept.2 (.field .keyRun) (by decide))
  · rw [State.resultDone_other _ _ _ (by decide) (by decide) (by decide) (by decide)]
    exact u.get_set_fits 0 (by decide) (by decide)
  · rw [State.resultDone_seq _ _ (by decide) (by decide) (by decide), State.get_set_bits _ _ _ _ (by decide) (by decide), hkept.get_eq KEY_RES.SEQ]
    rfl
  · unfold State.rootRevoked State.revWord
    rw [hshown.fuses_eq]
    have hfuses : u.fuses = { s.fuses with rev := Tbl.wr (fun _ => 0) s.fuses.rev n 0xFF } := State.showFuses_fuses _
    rw [hfuses, Tbl.rd_wr_self]
    rfl

theorem keyCommandComplete_of_genId {key : Nat} (hrun : s.keyRun = some (KeyRun.mk 1 0 0 [] key 0)) :
    (keyCommandComplete s).pendingId = some key ∧ (keyCommandComplete s).get KEY_STAT.ID_PEND 0 = 1 ∧ (keyCommandComplete s).get KEY_RES.VALID 0 = 1 := by
  rw [keyCommandComplete_of_ok hrun rfl]
  set u := { s with keyRun := none }.keyEffect (KeyRun.mk 1 0 0 [] key 0) with hu
  have hshown : Only (partsMask [.reg .KEY_RES]) u ((u.set KEY_RES.STATUS 0 0).resultDone KEY_RES.SEQ KEY_RES.VALID 0) :=
    State.resultDone_only rfl rfl (State.set_only rfl (Only.refl _ u))
  refine ⟨(hshown.2 (.field .pendingId) (by decide)).trans (State.showId_pendingId _), ?_, State.resultDone_valid _ _ (by decide)⟩
  rw [hshown.get_eq KEY_STAT.ID_PEND]
  exact State.showId_idPend _

end KeyComplete

/-! ### The random generator (R337, R338) -/

section Trng

variable {s : State}

theorem trngStartupComplete_shows (h : s.flag KEY_TRNG_STAT.FAILED 0 = false) :
    (trngStartupComplete s).get KEY_TRNG_STAT.READY 0 = 1 ∧ (trngStartupComplete s).get KEY_TRNG_STAT.STARTS 0 = 0 := by
  unfold trngStartupComplete
  rw [h, if_neg Bool.false_ne_true]
  exact ⟨(State.get_set_bits _ _ _ _ (by decide) (by decide)).trans (s.get_set_fits 0 (by decide) (by decide)), State.get_set_fits _ _ (by decide) (by decide)⟩

/-- The count of a failed health test. -/
def healthCount (apt : Bool) : Fld := if apt then KEY_TRNG_STAT.APT_FAIL else KEY_TRNG_STAT.RCT_FAIL

/-- A failed health test: READY falls, its count goes up, and the fourth failed start-up in a row sets FAILED. -/
theorem trngHealthFailure_shows (apt : Bool) (h : s.flag KEY_TRNG_STAT.FAILED 0 = false) :
    (trngHealthFailure apt s).get KEY_TRNG_STAT.READY 0 = 0 ∧
      (trngHealthFailure apt s).get (healthCount apt) 0 = satAdd 16 (s.get (healthCount apt) 0) 1 ∧
      (s.get KEY_TRNG_STAT.READY 0 = 0 → s.get KEY_TRNG_STAT.STARTS 0 = 3 → (trngHealthFailure apt s).get KEY_TRNG_STAT.FAILED 0 = 1) := by
  unfold trngHealthFailure
  rw [h, if_neg Bool.false_ne_true]
  extract_lets starting u1 u2 u3
  have hcause : Only (partsMask causeParts) u3 (u3.cause 504 1 0) := State.cause_only rfl (Only.refl _ u3)
  have hreg : (healthCount apt).reg = .KEY_TRNG_STAT := by cases apt <;> rfl
  have h2 : u2 = u1.count (healthCount apt) 0 := by cases apt <;> rfl
  have hcount : u2.get (healthCount apt) 0 = satAdd 16 (s.get (healthCount apt) 0) 1 := by
    rw [h2, State.get_count _ _ _ (by cases apt <;> decide), State.get_set_bits _ _ _ _ (by decide) (by cases apt <;> decide)]
    cases apt <;> rfl
  have hready : u2.get KEY_TRNG_STAT.READY 0 = 0 := by
    rw [h2]
    exact (State.get_set_bits _ _ _ _ (by cases apt <;> decide) (by cases apt <;> decide)).trans (s.get_set_fits 0 (by decide) (by decide))
  have hstarts : u2.get KEY_TRNG_STAT.STARTS 0 = s.get KEY_TRNG_STAT.STARTS 0 := by
    rw [h2]
    exact (State.get_set_bits _ _ _ _ (by cases apt <;> decide) (by cases apt <;> decide)).trans (s.get_set_bits 0 0 _ (by decide) (by decide))
  refine ⟨?_, ?_, fun hdown hthree => ?_⟩
  · rw [hcause.get_eq KEY_TRNG_STAT.READY]
    simp only [u3]
    split_ifs
    · exact hready
    · exact (State.get_set_bits _ _ _ _ (by decide) (by decide)).trans hready
    · exact (State.get_set_bits _ _ _ _ (by decide) (by decide)).trans hready
  · rw [hcause.get_eq _ _ (by rw [hreg]; decide)]
    simp only [u3]
    split_ifs
    · exact hcount
    · exact (State.get_set_bits _ _ _ _ (by decide) (by cases apt <;> decide)).trans hcount
    · exact (State.get_set_bits _ _ _ _ (by decide) (by cases apt <;> decide)).trans hcount
  · have hstarting : starting = true := by
      simp only [starting, State.flag, hdown]
      rfl
    rw [hcause.get_eq KEY_TRNG_STAT.FAILED]
    simp only [u3, hstarting, hstarts, hthree]
    exact u2.get_set_fits 0 (by decide) (by decide)

/-- An output asked for: what the register shows, with its result. -/
theorem trngNext_shows (ok : Bool) (h : s.flag KEY_TRNG_STAT.READY 0 = ok) :
    (trngNext s).reg .KEY_TRNG_OUT 0 = (if ok then Config.trngOut s.freeCtr else 0) ∧ (trngNext s).get KEY_TRNG_RES.READY 0 = bit ok ∧
      (trngNext s).get KEY_TRNG_RES.SEQ 0 = (s.get KEY_TRNG_RES.SEQ 0 + 1) % 256 ∧ (trngNext s).get KEY_TRNG_RES.VALID 0 = 1 := by
  unfold trngNext
  rw [h]
  extract_lets ok' u1 u2 u3 u4
  have h4 : Only (partsMask [.field .freeCtr]) u3 u4 := Only.ite (State.fresh_only rfl (Only.refl _ u3)) (Only.refl _ u3)
  have hdone : Only (partsMask [.reg .KEY_TRNG_RES]) u4 (u4.resultDone KEY_TRNG_RES.SEQ KEY_TRNG_RES.VALID 0) := State.resultDone_only rfl rfl (Only.refl _ u4)
  have hout : Only (partsMask [.reg .KEY_TRNG_OUT]) u2 u3 := State.setReg_only rfl (Only.refl _ u2)
  refine ⟨?_, ?_, ?_, State.resultDone_valid _ _ (by decide)⟩
  · rw [hdone.reg_eq .KEY_TRNG_OUT, h4.reg_eq .KEY_TRNG_OUT]
    have hfree : u2.freeCtr = s.freeCtr :=
      (State.set_only rfl (State.set_only rfl (Only.refl (partsMask [.reg .KEY_TRNG_RES]) s))).2 (.field .freeCtr) (by decide)
    rw [← hfree]
    exact State.reg_setReg_self ..
  · rw [State.resultDone_other _ _ _ (by decide) (by decide) (by decide) (by decide), h4.get_eq KEY_TRNG_RES.READY, hout.get_eq KEY_TRNG_RES.READY]
    exact u1.get_set_bit 0 ok (by decide)
  · have hseq : u2.get KEY_TRNG_RES.SEQ 0 = s.get KEY_TRNG_RES.SEQ 0 :=
      (State.get_set_bits _ _ _ _ (by decide) (by decide)).trans (s.get_set_bits 0 0 _ (by decide) (by decide))
    rw [State.resultDone_seq _ _ (by decide) (by decide) (by decide), h4.get_eq KEY_TRNG_RES.SEQ, hout.get_eq KEY_TRNG_RES.SEQ, hseq]
    rfl

end Trng

/-- Settles O13: each key command by the run that it starts, its completion by what the result and the fuses show, and each command of the generator by its own lemma. -/
theorem keysAndRandom : Obligations.KeysAndRandom := by
  unfold Obligations.KeysAndRandom
  refine ⟨?genId, ?notReady, ?rotate, ?revoke, ?last, ?busy, ?progRoot, ?raiseSvn, ?revoked, ?generated, ?started, ?failed, ?apt, ?rct, ?reseed, ?next, ?none⟩
  case genId => exact fun s himg hkey hready => ⟨_, rfl, keyGenId_of_ready himg hkey hready⟩
  case notReady => exact fun s himg hkey hready => ⟨_, rfl, keyGenId_of_not_ready himg hkey hready⟩
  case rotate => exact fun s key ok himg hkey hid => ⟨_, rfl, keyRotate_keyRun himg hkey hid ok⟩
  case revoke => exact fun s n hn himg hkey husable hrec => ⟨_, run_true (decide_eq_true hn), keyRevoke_of_unusable himg hkey husable hrec⟩
  case last => exact fun s n hn himg hkey husable hlast => ⟨_, run_true (decide_eq_true hn), keyRevoke_of_last himg hkey husable hlast⟩
  case busy => exact fun s n hn hkey => (run_true (decide_eq_true hn)).trans (congrArg _ (State.keyCommand_of_running hkey _))
  case progRoot => exact fun s n hn himg hkey => ⟨_, run_true (decide_eq_true hn), State.keyCommand_keyRun himg hkey _⟩
  case raiseSvn => exact fun s f himg hkey => ⟨_, rfl, State.keyCommand_keyRun himg hkey _⟩
  case revoked => exact fun s n hrun => ⟨_, rfl, keyCommandComplete_of_revoke hrun⟩
  case generated => exact fun s key hrun => ⟨_, rfl, keyCommandComplete_of_genId hrun⟩
  case started => exact fun s h => ⟨_, rfl, trngStartupComplete_shows h⟩
  case failed => exact fun s h => congrArg Host.Outcome.next (if_pos h)
  case apt => exact fun s h => ⟨_, rfl, trngHealthFailure_shows true h⟩
  case rct =>
    intro s h
    obtain ⟨hready, hcount, -⟩ := trngHealthFailure_shows false h
    exact ⟨_, rfl, hready, hcount⟩
  case reseed => exact fun s h => congrArg Host.Outcome.next (if_pos h)
  case next => exact fun s h => ⟨_, rfl, trngNext_shows true h⟩
  case none =>
    intro s h
    obtain ⟨hout, hready, -, hvalid⟩ := trngNext_shows false h
    exact ⟨_, rfl, hout, hready, hvalid⟩

end Sys2Proof.Machine

namespace Sys2Proof.Machine

-- Proofs are elaborated one after another: each proof thread costs the check 256 MB of stack.
set_option Elab.async false

/-! ### A write of slice 0 still in its write buffer (R375, R394) -/

/-- No transaction is tracked, but the write buffer holds a line of slice 0, whose bank bit is 1. -/
def writeBuffered : State := { State.reset.set PWR_BANK_UNIT.SLICE 0 1 with wbuf := [(0, 0, 0, [])] }

theorem writeBuffered_not_drained : ((writeBuffered.txns.any fun t => decide (t.slice = 0)) || writeBuffered.wbuf.any fun w => decide (w.1 = 0)) = true := rfl

/-- A slice whose write buffer holds a line is not replaced. -/
theorem spareSliceReplace_writeBuffered (ok : Bool) : spareSliceReplace 0 false ok writeBuffered = writeBuffered := by
  unfold spareSliceReplace
  dsimp only
  rw [if_neg Bool.false_ne_true, if_pos writeBuffered_not_drained]

/-- A slice whose write buffer holds a line is not banked. -/
theorem unitBanked_writeBuffered (l1 : Bool) : unitBanked 144 l1 writeBuffered = writeBuffered := by
  unfold unitBanked
  rw [if_neg (show ¬ 144 < 128 by decide), if_neg (show ¬ 144 < 144 by decide)]
  dsimp only
  rw [if_pos (show ((writeBuffered.txns.any fun t => decide (t.slice = 144 - 144)) || _) = true from writeBuffered_not_drained), ite_self]

/-- Refutes O19: its clause on a drained slice asks for no transaction only, and a slice with a line left in its write buffer keeps its unit. -/
theorem not_sparesAndInjection : ¬ Obligations.SparesAndInjection := by
  unfold Obligations.SparesAndInjection
  rintro ⟨-, -, -, -, -, -, -, -, -, -, replaced, -⟩
  obtain ⟨t, ht, hphys, -⟩ := replaced writeBuffered 0 16 [17] true (by decide) (by decide +kernel) (by decide +kernel)
  have he : exec (.spareSliceReplace 0 false true) writeBuffered = .next writeBuffered := congrArg Host.Outcome.next (spareSliceReplace_writeBuffered true)
  obtain rfl : writeBuffered = t := Host.Outcome.next.inj (he.symm.trans ht)
  exact absurd hphys (by decide +kernel)

/-- Refutes O32: its clause on a slice to bank asks for no transaction only, and a slice with a line left in its write buffer is not banked. -/
theorem not_perstAndBanking : ¬ Obligations.PerstAndBanking := by
  unfold Obligations.PerstAndBanking
  rintro ⟨-, -, -, -, -, -, -, -, -, banked, -⟩
  obtain ⟨t, ht, hbanked⟩ := banked writeBuffered 144 false (by decide) (by decide) (by decide +kernel) (by decide +kernel) (by decide +kernel) (by decide +kernel)
  have he : exec (.unitBanked 144 false) writeBuffered = .next writeBuffered := congrArg Host.Outcome.next (unitBanked_writeBuffered false)
  obtain rfl : writeBuffered = t := Host.Outcome.next.inj (he.symm.trans ht)
  exact absurd hbanked (by decide +kernel)

/-! ### The time field of an event record (R358) -/

/-- The fabric time counter holds 2⁴⁸ s, one more than its 48 bits count. -/
def timeTooLarge : State := { State.reset with tim := ⟨2 ^ 48, 0, 0⟩ }

/-- The time of a record runs over into its SEQ. -/
theorem timeTooLarge_record : (timeTooLarge.queueEvent 0 1 0).reg .MGT_EVT_REC 1 = word (2 ^ 32) := by decide +kernel

/-- Refutes O41: the record's second word holds the time above bit 64 beside the SEQ, and a state whose counter holds 2⁴⁸ s or more (no run of the counter gets there) has a time that runs over into the SEQ. -/
theorem not_eventsQueued : ¬ Obligations.EventsQueued := by
  unfold Obligations.EventsQueued
  rintro ⟨queued, -⟩
  obtain ⟨t, ht, -, hword, -⟩ := queued timeTooLarge 0 1 0 0 (by decide) (by decide) (by decide +kernel) (by decide +kernel)
  obtain rfl : timeTooLarge.queueEvent 0 1 0 = t := Host.Outcome.next.inj ht
  rw [timeTooLarge_record] at hword
  exact absurd hword (by decide +kernel)

end Sys2Proof.Machine

namespace Sys2Proof.Machine

-- Proofs are elaborated one after another: each proof thread costs the check 256 MB of stack.
set_option Elab.async false

set_option exponentiation.threshold 500

/-! ### A sample register and what follows its update (R409 to R411) -/

section Samples

variable (s : State) (c : Nat)

theorem Only.sensor_eq {G : Nat} {s t : State} (h : Only G s t) (c : Nat) (hG : G.testBit (256 + StateField.ctorIdx .tel) = false := by decide) : t.sensor c = s.sensor c :=
  congrArg (Tbl.rd (fun _ => TelSensor.idle) · c) (h.2 (.field .tel) hG)

theorem State.sensor_setSensor_self (x : TelSensor) : (s.setSensor c x).sensor c = x := Tbl.rd_wr_self ..

/-- A sample shown: VALUE only with code 0, the code, the next SEQ, and VALID with code 0. -/
theorem State.showSample_shows {k v : Nat} (hk : k < 4) (hv : v < 4096) {t : State}
    (ht : t = s.showSample PWR_TEL_SMP.VALUE PWR_TEL_SMP.CODE PWR_TEL_SMP.SEQ PWR_TEL_SMP.VALID c k v) :
    t.get PWR_TEL_SMP.VALUE c = (if k = 0 then v else s.get PWR_TEL_SMP.VALUE c) ∧ t.get PWR_TEL_SMP.CODE c = k ∧
      t.get PWR_TEL_SMP.SEQ c = (s.get PWR_TEL_SMP.SEQ c + 1) % 256 ∧ t.get PWR_TEL_SMP.VALID c = bit (decide (k = 0)) := by
  subst ht
  unfold State.showSample State.bump
  refine ⟨?_, ?_, ?_, State.get_set_bit _ _ _ (by decide)⟩
  · rw [State.get_set_bits _ _ _ _ (by decide) (by decide), State.get_set_bits _ _ _ _ (by decide) (by decide), State.get_set_bits _ _ _ _ (by decide) (by decide)]
    split_ifs
    · exact s.get_set_fits _ (by decide) hv
    · rfl
  · rw [State.get_set_bits _ _ _ _ (by decide) (by decide), State.get_set_bits _ _ _ _ (by decide) (by decide)]
    exact State.get_set_fits _ _ (by decide) hk
  · rw [State.get_set_bits _ _ _ _ (by decide) (by decide), State.get_set_self _ _ _ (by decide) (by decide), State.get_set_bits _ _ _ _ (by decide) (by decide)]
    split_ifs
    · rw [State.get_set_bits _ _ _ _ (by decide) (by decide)]
      rfl
    · rfl

/-- A limit's event leaves the sensor's count of stale conversions. -/
theorem State.limitEvent_stale : ((s.limitEvent c).sensor c).stale = (s.sensor c).stale := by
  have hactive : ∀ b, ((s.setSensor c { s.sensor c with active := b }).sensor c).stale = (s.sensor c).stale := fun b => by rw [State.sensor_setSensor_self]
  unfold State.limitEvent
  dsimp only
  split_ifs
  · rw [(State.setActive_only rfl (Only.refl (partsMask [.reg .FLT_ACTIVE]) _)).sensor_eq, hactive]
  · rfl
  · rw [(State.cause_only rfl (State.setActive_only rfl (Only.refl (partsMask (.reg .FLT_ACTIVE :: causeParts)) _))).sensor_eq, hactive]
  · rfl

/-- What the chip's thermal state brought up to date may change. -/
abbrev thermalParts : Nat := partsMask (.reg .FLT_ACTIVE :: .reg .PWR_THERM_STAT :: .field .throttleNs :: .field .throttleAt :: causeParts)

/-- What may follow a sample register's update: thermal registers, events and the fences of a cause. -/
abbrev afterSampleParts : Nat := partsMask (.reg .FLT_ACTIVE :: .reg .PWR_THERM_STAT :: .field .tel :: .field .throttleNs :: .field .throttleAt :: causeParts)

/-- A conversion of a sensor: its sample register shows what `convert` answers, and its count of stale conversions is the one that it leaves. -/
theorem telemetryConversion_shows {code result k v : Nat} {x : TelSensor} (hc : c < 96) (hconv : convert (s.sensor c) (s.get PWR_TEL_CH.FILTER c) code result = (x, k, v)) (hk : k < 4) (hv : v < 4096)
    {t : State} (ht : t = telemetryConversion c code result false s) :
    t.get PWR_TEL_SMP.VALUE c = (if k = 0 then v else s.get PWR_TEL_SMP.VALUE c) ∧ t.get PWR_TEL_SMP.CODE c = k ∧ t.get PWR_TEL_SMP.SEQ c = (s.get PWR_TEL_SMP.SEQ c + 1) % 256 ∧
      t.get PWR_TEL_SMP.VALID c = bit (decide (k = 0)) ∧ (t.sensor c).stale = x.stale := by
  subst ht
  have hcounted : Only (partsMask [.reg .CNT_VAL]) s (s.tallyChip 5) := State.tallyChip_only rfl (Only.refl _ s)
  unfold telemetryConversion
  rw [if_neg (show ¬ c = 96 by omega), if_neg Bool.false_ne_true, hcounted.sensor_eq, hcounted.get_eq PWR_TEL_CH.FILTER]
  dsimp only
  rw [hconv]
  dsimp only
  set y := if k = 0 then afterSample x ((s.tallyChip 5).get PWR_TEL_CH.LOW c) ((s.tallyChip 5).get PWR_TEL_CH.HIGH c) v else x with hy
  set w := ((s.tallyChip 5).setSensor c y).showSample PWR_TEL_SMP.VALUE PWR_TEL_SMP.CODE PWR_TEL_SMP.SEQ PWR_TEL_SMP.VALID c k v with hw
  have hystale : y.stale = x.stale := by
    rw [hy]
    split_ifs <;> rfl
  have hwstale : (w.sensor c).stale = x.stale := by
    have hkept : Only (partsMask [.reg .PWR_TEL_SMP]) ((s.tallyChip 5).setSensor c y) w := State.showSample_only rfl rfl rfl rfl (Only.refl _ _)
    rw [hkept.sensor_eq, State.sensor_setSensor_self, hystale]
  have hbefore : Only (partsMask [.reg .CNT_VAL, .field .tel]) s ((s.tallyChip 5).setSensor c y) := State.setSensor_only rfl (State.tallyChip_only rfl (Only.refl _ s))
  obtain ⟨hvalue, hcode, hseq, hvalid⟩ := State.showSample_shows _ c hk hv hw
  rw [hbefore.get_eq PWR_TEL_SMP.VALUE] at hvalue
  rw [hbefore.get_eq PWR_TEL_SMP.SEQ] at hseq
  -- The hottest sensor, the limits and a sensor that fails leave the sample register and the count.
  set h := if c < 64 then w.updHottest else w with hh
  have hhot : Only (partsMask [.reg .PWR_THERM_STAT]) w h := Only.ite (State.updHottest_only rfl (Only.refl _ w)) (Only.refl _ w)
  have hlstale : ((h.limitEvent c).sensor c).stale = x.stale := by
    rw [State.limitEvent_stale, hhot.sensor_eq, hwstale]
  have hl : Only afterSampleParts w (h.limitEvent c) := State.limitEvent_only rfl (Only.ite (State.updHottest_only rfl (Only.refl _ w)) (Only.refl _ w))
  have hend : ∀ (out : TelSensor), Only afterSampleParts w (((h.limitEvent c).setSensor c out).cause 492 0 c).updThermal := fun out =>
    State.updThermal_only rfl (State.cause_only rfl (State.setSensor_only rfl hl))
  by_cases hfail : y.faults = 16 ∧ (s.sensor c).faults < 16
  · rw [if_pos hfail]
    refine ⟨((hend _).get_eq ..).trans hvalue, ((hend _).get_eq ..).trans hcode, ((hend _).get_eq ..).trans hseq, ((hend _).get_eq ..).trans hvalid, ?_⟩
    rw [(State.updThermal_only rfl (State.cause_only rfl (Only.refl thermalParts _))).sensor_eq, State.sensor_setSensor_self]
    exact hlstale
  · rw [if_neg hfail]
    exact ⟨(hl.get_eq ..).trans hvalue, (hl.get_eq ..).trans hcode, (hl.get_eq ..).trans hseq, (hl.get_eq ..).trans hvalid, hlstale⟩

/-- The newest code alone is its own mean (R410). -/
theorem meanOf_newest (a : Nat) (l : List Nat) : meanOf ((a :: l).take 8) 1 = a := by simp [meanOf]

theorem telemetryConversion_of_valid {code : Nat} (hc : c < 96) (hstale : (s.sensor c).stale = 0) (hfilter : s.get PWR_TEL_CH.FILTER c = 0) {t : State}
    (ht : t = telemetryConversion c code 0 false s) :
    t.get PWR_TEL_SMP.VALUE c = code % 4096 ∧ t.get PWR_TEL_SMP.CODE c = 0 ∧ t.get PWR_TEL_SMP.SEQ c = (s.get PWR_TEL_SMP.SEQ c + 1) % 256 ∧ t.get PWR_TEL_SMP.VALID c = 1 := by
  have hconv : ∃ x, convert (s.sensor c) (s.get PWR_TEL_CH.FILTER c) code 0 = (x, 0, code % 4096) := by
    unfold convert
    simp only [hstale, hfilter, Nat.lt_irrefl, if_true, if_false, pow_zero, meanOf_newest]
    exact ⟨_, rfl⟩
  obtain ⟨x, hconv⟩ := hconv
  obtain ⟨hvalue, hcode, hseq, hvalid, -⟩ := telemetryConversion_shows s c hc hconv (by decide) (Nat.mod_lt _ (by decide)) ht
  exact ⟨hvalue, hcode, hseq, hvalid⟩

theorem telemetryConversion_of_stale {code result : Nat} (hc : c < 96) (hstale : 0 < (s.sensor c).stale) {t : State} (ht : t = telemetryConversion c code result false s) :
    t.get PWR_TEL_SMP.CODE c = 1 ∧ t.get PWR_TEL_SMP.VALID c = 0 ∧ t.get PWR_TEL_SMP.VALUE c = s.get PWR_TEL_SMP.VALUE c ∧ (t.sensor c).stale = (s.sensor c).stale - 1 := by
  have hconv : ∃ x, convert (s.sensor c) (s.get PWR_TEL_CH.FILTER c) code result = (x, 1, 0) ∧ x.stale = (s.sensor c).stale - 1 := by
    unfold convert
    simp only [if_pos hstale]
    exact ⟨_, rfl, rfl⟩
  obtain ⟨x, hconv, hx⟩ := hconv
  obtain ⟨hvalue, hcode, -, hvalid, hleft⟩ := telemetryConversion_shows s c hc hconv (by decide) (by decide) ht
  exact ⟨hcode, hvalid, hvalue, hleft.trans hx⟩

/-- A reference within 2 mV. -/
theorem telemetryConversion_of_reference {code : Nat} (hlow : 2392 ≤ code) (hhigh : code ≤ 2408) (result : Nat) (man : Bool) :
    telemetryConversion 96 code result man s = s.tallyChip 5 := by
  unfold telemetryConversion
  dsimp only
  rw [if_pos rfl, if_neg (by omega)]

/-- A sensor that counts moves as R412 gives. -/
theorem thermalStateChange_moves (hout : (s.sensor c).out = false) : ((thermalStateChange c s).sensor c).st = nextThermal (s.sensor c) := by
  unfold thermalStateChange
  dsimp only
  rw [hout, if_neg Bool.false_ne_true]
  rw [(State.updThermal_only rfl (Only.refl thermalParts _)).sensor_eq, State.sensor_setSensor_self]

end Samples

/-- Settles O12: the conversions by what `convert` answers for them, the thermal states by `nextThermal`. -/
theorem sensorsConverted : Obligations.SensorsConverted := by
  unfold Obligations.SensorsConverted
  refine ⟨?valid, ?stale, ?reference, ?moves, ?warns, ?out⟩
  case valid => exact fun s c code hc hstale hfilter => ⟨_, run_true (decide_eq_true (by omega)), telemetryConversion_of_valid s c hc hstale hfilter rfl⟩
  case stale => exact fun s c code result hc hstale => ⟨_, run_true (decide_eq_true (by omega)), telemetryConversion_of_stale s c hc hstale rfl⟩
  case reference => exact fun s code result man hlow hhigh => (run_true (show decide (96 < 97) = true from rfl)).trans (congrArg _ (telemetryConversion_of_reference s hlow hhigh result man))
  case moves => exact fun s c hc hout => ⟨_, run_true (decide_eq_true hc), thermalStateChange_moves s c hout⟩
  case warns =>
    intro s c hc hout hst h95 h100 h110
    refine ⟨_, run_true (decide_eq_true hc), (thermalStateChange_moves s c hout).trans ?_⟩
    simp only [nextThermal, hst, if_neg (show ¬ 16 ≤ (s.sensor c).ge110 by omega), if_neg (show ¬ 16 ≤ (s.sensor c).ge100 by omega), if_pos h95]
  case out => exact fun s c hc hout => (run_true (decide_eq_true hc)).trans (congrArg _ (if_pos hout))

end Sys2Proof.Machine

namespace Sys2Proof.Machine

-- Proofs are elaborated one after another: each proof thread costs the check 256 MB of stack.
set_option Elab.async false

set_option exponentiation.threshold 500

/-! ### Records of causes (R382, R383) -/

section Records

variable (s : State) (c ev cls detail : Nat) (inj : Bool)

/-- What a cause changes beside the records: the event ring and what a fatal one stops. -/
abbrev stopParts : Nat :=
  partsMask [.reg .MGT_CHIP_INFO, .reg .PRT_LINK_STATUS, .reg .PRT_LANE_STAT, .reg .PRT_CXL_STATUS, .reg .VPPB_ENTRY, .reg .SFL_TRAIN_STATUS,
    .reg .SFL_LANE_STAT, .reg .SFL_LINK_STAT, .reg .SFL_LINK_CNT2, .reg .ANV_CR_STAT, .reg .ANV_QUENCH_STAT, .reg .ANV_SLAG_CNT2, .reg .HRT_ADMIT,
    .reg .HRT_AGENT, .reg .TNG_CL_STAT, .reg .MGT_EVT_STAT, .reg .PWR_MODE, .reg .FLT_STAT, .reg .FLT_REG_STAT, .reg .CNT_VAL, .reg .MGT_EVT_REC,
    .field .out, .field .ports, .field .vppbs, .field .cxlLog, .field .cxlHandle, .field .sflLanes, .field .sflTx, .field .sflTrain, .field .sfl, .field .ni,
    .field .ledger, .field .ideKeys, .field .sweeping, .field .migWait, .field .engines, .field .clusters, .field .fab, .field .fabIn]

/-- A record filled shows its cause. -/
theorem State.fillRecord_shows (hev : ev < 512) (hcls : cls < 3) {t : State} (ht : t = s.fillRecord c ev cls detail inj) :
    t.get FLT_REC0.EVENT c = ev ∧ t.get FLT_REC0.CLASS c = cls ∧ t.get FLT_REC0.COUNT c = 1 ∧ t.get FLT_REC0.PEND c = 1 ∧ t.get FLT_REC0.INJ c = bit inj ∧
      t.reg .FLT_REC1 c = word detail ∧ t.reg .FLT_REC2 c = word s.time ∧ t.get FLT_REC3.TIME_HI c = s.time / 2 ^ 64 % 2 ^ 32 := by
  subst ht
  unfold State.fillRecord
  extract_lets u1 u2 u3 u4 u5 u6 u7 u8 u9
  have hrest : Only (partsMask [.reg .FLT_REC1, .reg .FLT_REC2, .reg .FLT_REC3]) u7 (u9.set FLT_REC3.TIME_HI c (u9.time / 2 ^ 64)) :=
    State.set_only rfl (State.setReg_only rfl (State.setReg_only rfl (Only.refl _ u7)))
  have hlast : Only (partsMask [.reg .FLT_REC3]) u9 (u9.set FLT_REC3.TIME_HI c (u9.time / 2 ^ 64)) := State.set_only rfl (Only.refl _ u9)
  have htime : Only (partsMask [.reg .FLT_REC0, .reg .FLT_REC1, .reg .FLT_REC2]) s u9 :=
    State.setReg_only rfl (State.setReg_only rfl (State.set_only rfl (State.set_only rfl (State.set_only rfl (State.set_only rfl (State.set_only rfl
      (State.set_only rfl (State.set_only rfl (Only.refl _ s)))))))))
  have htime8 : Only (partsMask [.reg .FLT_REC0, .reg .FLT_REC1]) s u8 :=
    State.setReg_only rfl (State.set_only rfl (State.set_only rfl (State.set_only rfl (State.set_only rfl (State.set_only rfl
      (State.set_only rfl (State.set_only rfl (Only.refl _ s))))))))
  have ht9 : u9.time = s.time := congrArg FabTime.ptp (htime.2 (.field .tim) (by decide))
  have ht8 : u8.time = s.time := congrArg FabTime.ptp (htime8.2 (.field .tim) (by decide))
  have hcls : cls < 2 ^ FLT_REC0.CLASS.width := show cls < 4 by omega
  have hinj : bit inj < 2 ^ FLT_REC0.INJ.width := by cases inj <;> decide
  refine ⟨?_, ?_, ?_, ?_, ?_, ?_, ?_, ?_⟩
  · rw [hrest.get_eq FLT_REC0.EVENT]
    simp (disch := decide) only [u7, u6, u5, u4, u3, u2, u1, State.get_set_bits]
    exact s.get_set_fits c (by decide) hev
  · rw [hrest.get_eq FLT_REC0.CLASS]
    simp (disch := decide) only [u7, u6, u5, u4, u3, u2, State.get_set_bits]
    exact u1.get_set_fits c (by decide) hcls
  · rw [hrest.get_eq FLT_REC0.COUNT]
    simp (disch := decide) only [u7, u6, State.get_set_bits]
    exact u5.get_set_fits c (by decide) (by decide)
  · rw [hrest.get_eq FLT_REC0.PEND]
    exact u6.get_set_fits c (by decide) (by decide)
  · rw [hrest.get_eq FLT_REC0.INJ]
    simp (disch := decide) only [u7, u6, u5, State.get_set_bits]
    exact u4.get_set_fits c (by decide) hinj
  · rw [hlast.reg_eq .FLT_REC1, (State.setReg_only rfl (Only.refl (partsMask [.reg .FLT_REC2]) u8)).reg_eq .FLT_REC1]
    exact State.reg_setReg_self ..
  · rw [hlast.reg_eq .FLT_REC2, ← ht8]
    exact State.reg_setReg_self ..
  · rw [← ht9]
    exact u9.get_set_self c _ (by decide) (by decide)

/-- The record a first cause fills stands in the state after it. -/
theorem State.recordCause_of_first (hpend : s.flag FLT_REC0.PEND (s.collectorOf ev) = false) :
    Only stopParts (s.fillRecord (s.collectorOf ev) ev cls detail inj) (s.recordCause ev cls detail inj) := by
  unfold State.recordCause
  extract_lets c first counted escalated raised second multi worst merged u
  have hfirst : Only stopParts (s.fillRecord c ev cls detail inj) first := State.queueEvent_only rfl (Only.refl _ _)
  refine State.updFaultN_only rfl ?_
  dsimp only [u]
  rw [hpend, if_pos (by rfl)]
  exact Only.ite (State.fatal_only rfl hfirst) hfirst

/-- A first cause fills its collector's record. -/
theorem State.recordCause_fills (hev : ev < 512) (hcls : cls < 3) (hpend : s.flag FLT_REC0.PEND (s.collectorOf ev) = false) {t : State} (ht : t = s.recordCause ev cls detail inj) :
    t.get FLT_REC0.EVENT (s.collectorOf ev) = ev ∧ t.get FLT_REC0.CLASS (s.collectorOf ev) = cls ∧ t.get FLT_REC0.COUNT (s.collectorOf ev) = 1 ∧
      t.get FLT_REC0.PEND (s.collectorOf ev) = 1 ∧ t.get FLT_REC0.INJ (s.collectorOf ev) = bit inj ∧ t.reg .FLT_REC1 (s.collectorOf ev) = word detail ∧
      t.reg .FLT_REC2 (s.collectorOf ev) = word s.time ∧ t.get FLT_REC3.TIME_HI (s.collectorOf ev) = s.time / 2 ^ 64 % 2 ^ 32 := by
  subst ht
  have hstands := s.recordCause_of_first ev cls detail inj hpend
  obtain ⟨hevent, hclass, hcount, hpend', hinj, hdetail, hlow, hhigh⟩ := s.fillRecord_shows (s.collectorOf ev) ev cls detail inj hev hcls rfl
  exact ⟨(hstands.get_eq ..).trans hevent, (hstands.get_eq ..).trans hclass, (hstands.get_eq ..).trans hcount, (hstands.get_eq ..).trans hpend',
    (hstands.get_eq ..).trans hinj, (hstands.reg_eq ..).trans hdetail, (hstands.reg_eq ..).trans hlow, (hstands.get_eq ..).trans hhigh⟩

/-- A corrected cause at a record of a higher class merges: it is counted, and the record keeps its event and class. -/
theorem State.recordCause_merges (hpend : s.flag FLT_REC0.PEND (s.collectorOf ev) = true) (hclass : 0 < s.get FLT_REC0.CLASS (s.collectorOf ev)) {t : State}
    (ht : t = s.recordCause ev 0 detail inj) :
    t.get FLT_REC0.MULTI (s.collectorOf ev) = 1 ∧
      t.get FLT_REC0.COUNT (s.collectorOf ev) = satAdd FLT_REC0.COUNT.width (s.get FLT_REC0.COUNT (s.collectorOf ev)) 1 ∧
      t.get FLT_REC0.EVENT (s.collectorOf ev) = s.get FLT_REC0.EVENT (s.collectorOf ev) ∧ t.get FLT_REC0.CLASS (s.collectorOf ev) = s.get FLT_REC0.CLASS (s.collectorOf ev) := by
  subst ht
  unfold State.recordCause
  extract_lets c first counted escalated raised second multi worst merged u
  have hequal : (s.flag FLT_CFG.SECOND c && decide (0 = s.get FLT_REC0.CLASS c) && decide (0 < 2)) = false := by
    rw [decide_eq_false (show ¬ 0 = s.get FLT_REC0.CLASS c from Nat.ne_of_lt hclass), Bool.and_false, Bool.false_and]
  have hu : u = merged := by
    simp only [u]
    rw [hpend, if_neg (by decide), hequal, if_neg Bool.false_ne_true, if_neg (by decide)]
  have hkept : Only stopParts worst u.updFaultN := by
    rw [hu]
    exact State.updFaultN_only rfl (State.queueEvent_only rfl (Only.refl _ _))
  have hcls : max 0 (multi.get FLT_REC0.CLASS c) = s.get FLT_REC0.CLASS c := by
    rw [Nat.zero_max]
    exact (State.get_set_bits _ _ _ _ (by decide) (by decide)).trans (State.get_set_bits _ _ _ _ (by decide) (by decide))
  refine ⟨?_, ?_, ?_, ?_⟩
  · rw [hkept.get_eq FLT_REC0.MULTI]
    exact (State.get_set_bits _ _ _ _ (by decide) (by decide)).trans (State.get_set_fits _ _ (by decide) (by decide))
  · rw [hkept.get_eq FLT_REC0.COUNT]
    exact (State.get_set_bits _ _ _ _ (by decide) (by decide)).trans ((State.get_set_bits _ _ _ _ (by decide) (by decide)).trans (s.get_count _ _ (by decide)))
  · rw [hkept.get_eq FLT_REC0.EVENT]
    exact (State.get_set_bits _ _ _ _ (by decide) (by decide)).trans ((State.get_set_bits _ _ _ _ (by decide) (by decide)).trans
      (State.get_set_bits _ _ _ _ (by decide) (by decide)))
  · rw [hkept.get_eq FLT_REC0.CLASS]
    simp only [worst, hcls]
    exact State.get_set_fits _ _ (by decide) (s.get_lt c FLT_REC0.CLASS)

variable {s c ev cls detail inj}

theorem faultCause_of_cause (h : (causesOf ev).contains (cls, false) = true) : faultCause ev cls detail inj s = s.recordCause ev cls detail inj := if_pos h

end Records

/-- Settles O38: a first cause by the record it fills, which stands behind what a fatal one stops. -/
theorem firstCauseRecorded : Obligations.FirstCauseRecorded := by
  unfold Obligations.FirstCauseRecorded
  refine ⟨?command, ?record⟩
  case command =>
    intro s ev cls detail inj hev hcls hcause hpend
    refine ⟨_, (run_true (decide_eq_true hev)).trans (congrArg _ (faultCause_of_cause hcause)), ?_⟩
    obtain ⟨hevent, hclass, hcount, hpend', -, hdetail, hlow, hhigh⟩ := s.recordCause_fills ev cls detail inj hev hcls hpend rfl
    exact ⟨hevent, hclass, hdetail, hlow, hhigh, hcount, hpend'⟩
  case record =>
    intro s ev cls detail inj hev hcls hpend
    obtain ⟨hevent, hclass, hcount, hpend', -, hdetail, hlow, hhigh⟩ := s.recordCause_fills ev cls detail inj hev hcls hpend rfl
    exact ⟨hevent, hclass, hdetail, hlow, hhigh, hcount, hpend'⟩

end Sys2Proof.Machine

namespace Sys2Proof.Machine

-- Proofs are elaborated one after another: each proof thread costs the check 256 MB of stack.
set_option Elab.async false

set_option exponentiation.threshold 500

/-! ### A region silenced (R161, R385) -/

section Silence

variable (s : State) (n m b r : Nat)

/-- A quench of another NI leaves an NI as it is. -/
theorem State.quench_niAt_other (t : Trigger) (h : m ≠ n) : (s.quench n t).niAt m = s.niAt m := by
  have hset : ∀ x, (s.setNi n x).niAt m = s.niAt m := fun x => Tbl.rd_wr_other _ _ _ h
  unfold State.quench
  extract_lets x u1 u2 u3 u4
  split_ifs
  · have hkept : Only (partsMask [.reg .ANV_CR_STAT, .reg .ANV_QUENCH_STAT, .reg .MGT_EVT_STAT, .reg .CNT_VAL, .reg .MGT_EVT_REC, .field .out, .field .ledger])
        u1 (u4.notice (32 + 32 * niRegion n + 8) 0 n) :=
      State.notice_only rfl (State.emit_only rfl (State.showQuench_only rfl
        (Only.fold (fun _ _ hu => Only.ite hu (State.creditBack_only rfl (State.vacate_only rfl hu))) (Only.refl _ u1))))
    rw [hkept.niAt_eq, hset]
  · exact hset _
  · rw [(State.notice_only (Sub.refl _) (Only.refl _ _)).niAt_eq, hset]

/-- An NI quenched holds a trigger. -/
theorem State.quench_triggered (t : Trigger) : ((s.quench n t).niAt n).triggers ≠ [] := by
  intro hnone
  have hany := s.quench_triggers n t
  rw [hnone] at hany
  exact Bool.false_ne_true hany

theorem State.quench_keeps_triggered (t : Trigger) (h : (s.niAt m).triggers ≠ []) : ((s.quench n t).niAt m).triggers ≠ [] := by
  by_cases hm : m = n
  · rw [hm]
    exact s.quench_triggered n t
  · rwa [s.quench_niAt_other n m t hm]

/-- The end of a link gives its NI packets to answer, and no trigger. -/
theorem State.sflEnds_triggers : ((s.sflEnds b).niAt m).triggers = (s.niAt m).triggers := by
  unfold State.sflEnds
  split_ifs
  · unfold State.sflLost
    have hcount := State.count_only (F := SFL_LINK_CNT2.DOWN_CNT) (i := b) (n := 1) rfl (Only.refl (partsMask [.reg .SFL_LINK_CNT2]) s)
    by_cases hm : m = b
    · rw [hm, State.niAt_setNi, hcount.niAt_eq]
    · rw [← hcount.niAt_eq m]
      exact congrArg NiState.triggers (Tbl.rd_wr_other _ _ _ hm)
  · rfl

/-- What a fabric link taken down changes once its end is declared. -/
abbrev droppedParts : Nat :=
  partsMask [.reg .SFL_TRAIN_STATUS, .reg .SFL_LANE_STAT, .reg .SFL_LINK_STAT, .reg .SFL_LINK_CNT2, .reg .ANV_SLAG_CNT2, .field .sflLanes, .field .sflTx, .field .sflTrain,
    .field .sfl, .field .fabIn]

theorem State.sflDown_triggers : ((s.sflDown b).niAt m).triggers = (s.niAt m).triggers := by
  unfold State.sflDown
  extract_lets u1 u2 u3 u4
  have hdrop : Only droppedParts (s.sflEnds b) u3 :=
    State.each_only (fun d _ hd => State.each_only (fun k _ hk => Only.set_sflTx rfl (State.set_only rfl (State.setSflLane_only rfl hk))) hd)
      (State.setTrain_only rfl (State.sflDrop_only rfl (Only.refl _ _)))
  have hdown : Only droppedParts (s.sflEnds b) ((u4.set SFL_TRAIN_STATUS.REV b 0).set SFL_TRAIN_STATUS.LANES b 0) :=
    State.set_only rfl (State.set_only rfl (State.set_only rfl (State.set_only rfl hdrop)))
  rw [hdown.niAt_eq]
  exact s.sflEnds_triggers m b

theorem State.blockSilent_triggers : ((s.blockSilent b).niAt m).triggers = (s.niAt m).triggers := by
  have hports : ((s.portDown (2 * b)).portDown (2 * b + 1)).niAt m = s.niAt m :=
    ((State.portDown_only (Sub.refl _) (Only.refl _ _)).niAt_eq m).trans ((State.portDown_only (Sub.refl _) (Only.refl _ s)).niAt_eq m)
  unfold State.blockSilent
  dsimp only
  split_ifs
  · exact (State.sflDown_triggers _ m b).trans (congrArg NiState.triggers hports)
  · exact congrArg NiState.triggers hports

/-- Every NI of a region silenced holds a trigger. -/
theorem State.silence_triggered (hn : n ∈ regionNis r) : ((s.silence r).niAt n).triggers ≠ [] := by
  unfold State.silence
  dsimp only
  rw [(State.fenceCredits_only (Sub.refl _) (Only.refl _ _)).niAt_eq,
    State.each_keeps (fun t => (t.niAt n).triggers) _ fun i t => t.blockSilent_triggers n (16 * r + i)]
  exact State.each_reaches (P := fun t => (t.niAt n).triggers ≠ []) (Q := fun _ => True) hn (fun u _ => u.quench_triggered n _) (fun _ _ _ => trivial)
    (fun i u h => u.quench_keeps_triggered i n _ h) trivial

end Silence

/-! ### Fences and chip fatal (R385, R388) -/

section Fences

variable (s : State) {r ev : Nat}

/-- Region r's gate closed. -/
theorem State.closeGate_fenced (hr : r < 4) : bitOf ((s.closeGate r).get FLT_STAT.FENCED 0) r = true := by
  unfold State.closeGate
  obtain ⟨hfour, hread, -⟩ := withBit_four _ ((s.setBit MGT_CHIP_INFO.REGION_LIVE 0 r false).get_lt 0 FLT_STAT.FENCED) r hr true
  rw [State.setBit, State.get_set_fits _ _ (by decide) hfour, hread]

/-- What regions shut off change: gates, quenched NIs, links, queues, and the events of all these. -/
abbrev shutOffParts : Nat :=
  partsMask [.reg .MGT_CHIP_INFO, .reg .PRT_LINK_STATUS, .reg .PRT_LANE_STAT, .reg .PRT_CXL_STATUS, .reg .VPPB_ENTRY, .reg .SFL_TRAIN_STATUS, .reg .SFL_LANE_STAT,
    .reg .SFL_LINK_STAT, .reg .SFL_LINK_CNT2, .reg .ANV_CR_STAT, .reg .ANV_QUENCH_STAT, .reg .ANV_SLAG_CNT2, .reg .HRT_ADMIT, .reg .HRT_AGENT, .reg .TNG_CL_STAT,
    .reg .MGT_EVT_STAT, .reg .FLT_STAT, .reg .CNT_VAL, .reg .MGT_EVT_REC, .field .out, .field .ports, .field .vppbs, .field .cxlLog, .field .cxlHandle,
    .field .sflLanes, .field .sflTx, .field .sflTrain, .field .sfl, .field .ni, .field .ledger, .field .ideKeys, .field .sweeping, .field .migWait, .field .engines,
    .field .clusters, .field .fab, .field .fabIn]

theorem State.chipFatal_fatal : (s.chipFatal ev).get PWR_MODE.FATAL 0 = 1 := by
  unfold State.chipFatal
  extract_lets u1 u2 u3 u4 u5
  split_ifs with hfatal
  · exact of_decide_eq_true hfatal
  · have hkept : Only shutOffParts u1 u5.updFaultN :=
      State.updFaultN_only rfl (State.each_only (fun _ _ hu => Only.ite (State.loseQueues_only rfl (State.silence_only rfl (State.closeGate_only rfl hu))) hu)
        (State.set_only rfl (State.set_only rfl (State.set_only rfl (Only.refl _ u1)))))
    rw [hkept.get_eq PWR_MODE.FATAL]
    exact s.get_set_fits 0 (by decide) (by decide)

/-- The last region to be fenced makes the chip fatal. -/
theorem State.fence_of_last (hlast : ∀ q ∈ List.range 4, q ≠ r → s.regionState q = 1) : s.fence r ev = s.chipFatal ev := by
  unfold State.fence
  refine if_pos (List.all_eq_true.2 fun q hq => ?_)
  obtain ⟨hq, hne⟩ := List.mem_filter.1 hq
  exact decide_eq_true (hlast q hq (of_decide_eq_true hne))

/-- What is shown of a region that is fenced while another is not: its state, its gate, and a trigger at each of its NIs. -/
theorem State.fence_shows (hr : r < 4) (hwas : s.regionState r ≠ 1) (hother : ∃ q ∈ List.range 4, q ≠ r ∧ s.regionState q ≠ 1) {t : State} (ht : t = s.fence r ev) :
    t.regionState r = 1 ∧ bitOf (t.get FLT_STAT.FENCED 0) r = true ∧ ∀ n ∈ regionNis r, (t.niAt n).triggers ≠ [] := by
  subst ht
  have hnot : ¬ (((List.range 4).filter (· ≠ r)).all fun q => s.regionState q = 1) = true := by
    obtain ⟨q, hq, hne, hstate⟩ := hother
    exact fun hall => hstate (of_decide_eq_true (List.all_eq_true.1 hall q (List.mem_filter.2 ⟨hq, decide_eq_true hne⟩)))
  unfold State.fence
  rw [if_neg hnot]
  extract_lets was u1 u2 u3 u4
  rw [if_neg hwas]
  have hstop : Only (partsMask [.reg .TNG_CL_STAT, .field .migWait, .field .engines, .field .clusters]) ((u1.closeGate r).silence r) u2 :=
    State.loseQueues_only rfl (Only.refl _ _)
  have hnoticed : Only (partsMask [.reg .PWR_MODE, .reg .MGT_EVT_STAT, .reg .CNT_VAL, .reg .MGT_EVT_REC]) u3 u4.updMode :=
    State.updMode_only rfl (Only.ite (State.notice_only rfl (Only.refl _ u3)) (Only.refl _ u3))
  have hshown : Only (partsMask [.reg .FLT_REG_STAT, .reg .PWR_MODE, .reg .MGT_EVT_STAT, .reg .CNT_VAL, .reg .MGT_EVT_REC]) u2 u4.updMode :=
    State.updMode_only rfl (Only.ite (State.notice_only rfl (State.set_only rfl (Only.refl _ u2))) (State.set_only rfl (Only.refl _ u2)))
  have hend : Only (partsMask [.reg .FLT_STAT]) u4.updMode u4.updMode.updFaultN := State.updFaultN_only rfl (Only.refl _ _)
  refine ⟨?_, ?_, fun n hn => ?_⟩
  · unfold State.regionState
    rw [hend.get_eq FLT_REG_STAT.STATE, hnoticed.get_eq FLT_REG_STAT.STATE]
    exact u2.get_set_fits r (by decide) (by decide)
  · have hfault : u4.updMode.updFaultN.get FLT_STAT.FENCED 0 = u4.updMode.get FLT_STAT.FENCED 0 := State.get_set_bits _ _ _ _ (by decide) (by decide)
    rw [hfault, hshown.get_eq FLT_STAT.FENCED, hstop.get_eq FLT_STAT.FENCED, (State.silence_only (Sub.refl _) (Only.refl _ _)).get_eq FLT_STAT.FENCED]
    exact u1.closeGate_fenced hr
  · rw [hend.niAt_eq, hshown.niAt_eq, hstop.niAt_eq]
    exact State.silence_triggered _ n r hn

/-- A fatal cause is recorded, and then stops what it stops. -/
theorem State.recordCause_of_fatal (detail : Nat) (inj : Bool) : ∃ u, Only recordParts s u ∧ s.recordCause ev 2 detail inj = (u.fatal ev).updFaultN := by
  unfold State.recordCause
  extract_lets c first counted escalated raised second multi worst merged u
  have hfirst : Only recordParts s first := State.queueEvent_only rfl (State.fillRecord_only rfl (Only.refl _ s))
  have hmerged : Only recordParts s merged := State.queueEvent_only rfl (State.set_only rfl (State.set_only rfl (State.count_only rfl (Only.refl _ s))))
  have hequal : (s.flag FLT_CFG.SECOND c && decide (2 = s.get FLT_REC0.CLASS c) && decide (2 < 2)) = false := Bool.and_false _
  by_cases hpend : (!s.flag FLT_REC0.PEND c) = true
  · refine ⟨first, hfirst, ?_⟩
    simp only [u]
    rw [if_pos hpend, if_pos trivial]
  · refine ⟨merged, hmerged, ?_⟩
    simp only [u]
    rw [if_neg hpend, hequal, if_neg Bool.false_ne_true, if_pos trivial]

theorem State.fatal_of_region (hr : r < 4) : s.fatal (32 + 32 * r + 4) = s.fence r (32 + 32 * r + 4) := by
  unfold State.fatal
  rw [if_pos (by omega), show (32 + 32 * r + 4 - 32) / 32 = r by omega]

end Fences

/-! ### The commands -/

section Commands

variable {s : State} {r : Nat}

theorem regionFence_shows (hr : r < 4) (hlive : s.regionState r = 0) (hother : ∃ q ∈ List.range 4, q ≠ r ∧ s.regionState q ≠ 1) {t : State} (ht : t = regionFence r s) :
    t.regionState r = 1 ∧ t.gateOpen r = false ∧ ∀ n ∈ regionNis r, (t.niAt n).triggers ≠ [] := by
  subst ht
  obtain ⟨u, hu, hcause⟩ := s.recordCause_of_fatal (ev := 32 + 32 * r + 4) (sourceDetail (32 + 32 * r + 4) 0) false
  have hstate : ∀ q, u.regionState q = s.regionState q := fun q => hu.get_eq FLT_REG_STAT.STATE q
  obtain ⟨hfenced, hgate, hquenched⟩ := u.fence_shows (ev := 32 + 32 * r + 4) hr (by rw [hstate, hlive]; decide) (by simpa only [hstate] using hother) rfl
  have hfault : Only (partsMask [.reg .FLT_STAT]) (u.fence r (32 + 32 * r + 4)) (u.fence r (32 + 32 * r + 4)).updFaultN := State.updFaultN_only rfl (Only.refl _ _)
  unfold regionFence State.cause State.gateOpen
  rw [hcause, State.fatal_of_region _ hr]
  refine ⟨(hfault.get_eq FLT_REG_STAT.STATE r).trans hfenced, ?_, fun n hn => by rw [hfault.niAt_eq]; exact hquenched n hn⟩
  have hkept : (u.fence r (32 + 32 * r + 4)).updFaultN.get FLT_STAT.FENCED 0 = (u.fence r (32 + 32 * r + 4)).get FLT_STAT.FENCED 0 :=
    State.get_set_bits _ _ _ _ (by decide) (by decide)
  rw [hkept, hgate]
  rfl

theorem regionFence_of_last (hr : r < 4) (hlast : ∀ q ∈ List.range 4, q ≠ r → s.regionState q = 1) : (regionFence r s).get PWR_MODE.FATAL 0 = 1 := by
  obtain ⟨u, hu, hcause⟩ := s.recordCause_of_fatal (ev := 32 + 32 * r + 4) (sourceDetail (32 + 32 * r + 4) 0) false
  unfold regionFence State.cause
  rw [hcause, State.fatal_of_region _ hr, u.fence_of_last fun q hq hne => (hu.get_eq FLT_REG_STAT.STATE q).trans (hlast q hq hne),
    (State.updFaultN_only (Sub.refl _) (Only.refl _ _)).get_eq PWR_MODE.FATAL]
  exact u.chipFatal_fatal

/-- A scan that fails, in a region that is not in RECOVERY. -/
theorem lostHomeScan_of_failed {n : Nat} (h : s.regionState (s.sliceRegion n) ≠ 2) : (lostHomeScan n false s).get FLT_REG_STAT.SCAN_FAIL (s.sliceRegion n) = 1 := by
  have hstate : (s.set FLT_REG_STAT.SCAN_FAIL (s.sliceRegion n) 1).regionState (s.sliceRegion n) = s.regionState (s.sliceRegion n) :=
    State.get_set_bits _ _ _ _ (by decide) (by decide)
  unfold lostHomeScan
  dsimp only
  rw [if_neg Bool.false_ne_true, if_neg (by rw [hstate]; exact h)]
  exact s.get_set_fits _ (by decide) (by decide)

end Commands

/-- Settles O18: records by what a cause fills or merges into, fences by `State.fence` and `State.chipFatal`, and each clearing by its condition. -/
theorem faultsRecorded : Obligations.FaultsRecorded := by
  unfold Obligations.FaultsRecorded
  refine ⟨?corrected, ?contained, ?notice, ?unlisted, ?merged, ?cleared, ?pendKept, ?fatalCleared, ?fatalKept, ?fenced, ?last, ?chip, ?scanFailed, ?scanned, ?ember, ?still⟩
  case corrected =>
    intro s ev detail inj hev hcause hpend
    obtain ⟨hevent, hclass, hcount, hpend', hinj, hdetail, -⟩ := s.recordCause_fills ev 0 detail inj hev (by decide) hpend rfl
    exact ⟨_, (run_true (decide_eq_true hev)).trans (congrArg _ (faultCause_of_cause hcause)), hpend', hevent, hclass, hcount, hinj, hdetail⟩
  case contained =>
    intro s ev detail inj hev hcause hpend
    obtain ⟨hevent, hclass, hcount, hpend', -⟩ := s.recordCause_fills ev 1 detail inj hev (by decide) hpend rfl
    exact ⟨_, (run_true (decide_eq_true hev)).trans (congrArg _ (faultCause_of_cause hcause)), hpend', hevent, hclass, hcount⟩
  case notice =>
    intro s ev cls detail inj hev hnone hnotice
    refine (run_true (decide_eq_true hev)).trans (congrArg _ ?_)
    unfold faultCause
    rw [hnone, if_neg Bool.false_ne_true, if_pos hnotice]
  case unlisted =>
    intro s ev cls detail inj hev hnone hnotice
    refine (run_true (decide_eq_true hev)).trans (congrArg _ ?_)
    unfold faultCause
    rw [hnone, hnotice, if_neg Bool.false_ne_true, if_neg Bool.false_ne_true]
  case merged =>
    intro s ev detail inj hev hcause hpend hclass
    exact ⟨_, (run_true (decide_eq_true hev)).trans (congrArg _ (faultCause_of_cause hcause)), s.recordCause_merges ev detail inj hpend hclass rfl⟩
  case cleared =>
    intro s c hc hidle
    refine ⟨_, run_true (decide_eq_true hc), ?_⟩
    unfold fltPendClear
    rw [hidle, if_neg Bool.false_ne_true, (State.updFaultN_only (Sub.refl _) (Only.refl _ _)).get_eq FLT_REC0.PEND]
    exact s.get_set_fits _ (by decide) (by decide)
  case pendKept => exact fun s c hc hactive => (run_true (decide_eq_true hc)).trans (congrArg _ (if_pos hactive))
  case fatalCleared =>
    intro s r hr hidle
    refine ⟨_, run_true (decide_eq_true hr), ?_⟩
    unfold fltFatalClear
    rw [hidle, if_neg Bool.false_ne_true]
    exact s.get_set_fits _ (by decide) (by decide)
  case fatalKept => exact fun s r hr hactive => (run_true (decide_eq_true hr)).trans (congrArg _ (if_pos hactive))
  case fenced =>
    intro s r hr hlive hother
    obtain ⟨hstate, hgate, hquenched⟩ := regionFence_shows hr hlive hother rfl
    exact ⟨_, run_true (decide_eq_true hr), hstate, hgate, fun n hn _ => hquenched n hn⟩
  case last => exact fun s r hr hlast => ⟨_, run_true (decide_eq_true hr), regionFence_of_last hr hlast⟩
  case chip => exact fun s ev hev => ⟨_, run_true (decide_eq_true hev), State.chipFatal_fatal _⟩
  case scanFailed => exact fun s n hn h => ⟨_, run_true (decide_eq_true hn), lostHomeScan_of_failed h⟩
  case scanned => exact fun s n hn _ => ⟨_, run_true (decide_eq_true hn), State.get_set_fits _ _ (by decide) (by decide)⟩
  case ember => exact fun s hrun hphase => congrArg Host.Outcome.next (if_pos ⟨hrun, hphase⟩)
  case still =>
    intro s hstop
    refine congrArg Host.Outcome.next (if_neg ?_)
    rintro ⟨hrun, -⟩
    exact Bool.false_ne_true (hstop.symm.trans hrun)

end Sys2Proof.Machine

namespace Sys2Proof.Machine

-- Proofs are elaborated one after another: each proof thread costs the check 256 MB of stack.
set_option Elab.async false

set_option exponentiation.threshold 500

/-! ### Counter groups (R415) -/

section Groups

variable (s : State) {g h u k : Nat}

/-- A command's own group comes first, and no other place of the list names it. -/
theorem State.counterUnits_first (hu : u < 5) (hruns : u = 4 ∨ s.regionState u ≠ 1) : ∃ l, s.counterUnits u = u :: l ∧ ∀ g ∈ l, g ≠ u := by
  unfold State.counterUnits
  by_cases hchip : u = 4
  · subst hchip
    refine ⟨[0, 1, 2, 3].filter fun r => decide (r = 4) || decide (s.regionState r ≠ 1), rfl, fun g hg => ?_⟩
    have hmem := (List.mem_filter.1 hg).1
    simp only [List.mem_cons, List.not_mem_nil, or_false] at hmem
    omega
  · have hlive : s.regionState u ≠ 1 := hruns.resolve_left hchip
    exact ⟨[], by simp [hchip, hlive], fun g hg => absurd hg List.not_mem_nil⟩

theorem State.counterUnits_of_fenced (hu : u < 4) (hfenced : s.regionState u = 1) : s.counterUnits u = [] := by
  unfold State.counterUnits
  rw [if_neg (by omega)]
  simp [hfenced, show u ≠ 4 by omega]

/-- A group's counters copied one by one. -/
def State.copyGroup (s : State) (g : Nat) : State := s.each (List.range 80) fun k t => t.setReg .CNT_SNAP (80 * g + k) (t.reg .CNT_VAL (80 * g + k))

theorem State.copyGroup_self (hk : k < 80) : (s.copyGroup g).reg .CNT_SNAP (80 * g + k) = s.reg .CNT_VAL (80 * g + k) := by
  have hval : ∀ (t : State) j w i, (t.setReg .CNT_SNAP j w).reg .CNT_VAL i = t.reg .CNT_VAL i := fun t j w i => t.reg_setReg_other w (.inl (by decide))
  have hboth := State.each_establishes (s := s) (P := fun t => t.reg .CNT_VAL (80 * g + k) = s.reg .CNT_VAL (80 * g + k))
    (Q := fun t => t.reg .CNT_VAL (80 * g + k) = s.reg .CNT_VAL (80 * g + k) ∧ t.reg .CNT_SNAP (80 * g + k) = s.reg .CNT_VAL (80 * g + k))
    (f := fun k t => t.setReg .CNT_SNAP (80 * g + k) (t.reg .CNT_VAL (80 * g + k))) (List.mem_range.2 hk)
    (fun _ _ t ht => (hval ..).trans ht)
    (fun j _ t ⟨ht, hcopy⟩ => ⟨(hval ..).trans ht, by
      by_cases hj : j = k
      · rw [hj, State.reg_setReg_self, ht]
      · rw [t.reg_setReg_other _ (.inr (by omega)), hcopy]⟩)
    (fun t ht => ⟨(hval ..).trans ht, (t.reg_setReg_self ..).trans ht⟩) rfl
  exact hboth.2

theorem State.copyGroup_other (hgh : h ≠ g) (hk : k < 80) : (s.copyGroup g).reg .CNT_SNAP (80 * h + k) = s.reg .CNT_SNAP (80 * h + k) := by
  refine List.foldlRecOn (motive := fun t : State => t.reg .CNT_SNAP (80 * h + k) = s.reg .CNT_SNAP (80 * h + k)) _ _ rfl fun t ht j hj => ?_
  have hj := List.mem_range.1 hj
  rw [t.reg_setReg_other _ (.inr (by omega)), ht]

/-- A snapshot of one group. -/
def State.snapGroup (s : State) (g : Nat) : State := ((s.resultStart CNT_SNAP_RES.VALID g).copyGroup g).resultDone CNT_SNAP_RES.SEQ CNT_SNAP_RES.VALID g

theorem cntSnap_eq : cntSnap u s = s.each (s.counterUnits u) fun g t => t.snapGroup g := (rfl)

/-- What a snapshot of group `u` shows: its counters, and a new result. -/
def State.Snapped (s t : State) (u : Nat) : Prop :=
  (∀ k ∈ List.range 80, t.reg .CNT_SNAP (80 * u + k) = s.reg .CNT_VAL (80 * u + k)) ∧ t.get CNT_SNAP_RES.SEQ u = (s.get CNT_SNAP_RES.SEQ u + 1) % 256 ∧
    t.get CNT_SNAP_RES.VALID u = 1

theorem State.snapGroup_snapped : s.Snapped (s.snapGroup u) u := by
  have hstart : Only (partsMask [.reg .CNT_SNAP_RES]) s (s.resultStart CNT_SNAP_RES.VALID u) := State.set_only rfl (Only.refl _ s)
  have hcopied : Only (partsMask [.reg .CNT_SNAP]) (s.resultStart CNT_SNAP_RES.VALID u) ((s.resultStart CNT_SNAP_RES.VALID u).copyGroup u) :=
    State.each_only (fun _ _ ht => State.setReg_only rfl ht) (Only.refl _ _)
  have hdone : Only (partsMask [.reg .CNT_SNAP_RES]) ((s.resultStart CNT_SNAP_RES.VALID u).copyGroup u) (s.snapGroup u) := State.resultDone_only rfl rfl (Only.refl _ _)
  refine ⟨fun k hk => ?_, ?_, State.get_set_fits _ _ (by decide) (by decide)⟩
  · rw [hdone.reg_eq .CNT_SNAP, State.copyGroup_self _ (List.mem_range.1 hk), hstart.reg_eq .CNT_VAL]
  · have hseq : (s.resultStart CNT_SNAP_RES.VALID u).get CNT_SNAP_RES.SEQ u = s.get CNT_SNAP_RES.SEQ u := State.get_set_bits _ _ _ _ (by decide) (by decide)
    unfold State.snapGroup State.resultDone State.bump
    rw [State.get_set_bits _ _ _ _ (by decide) (by decide), State.get_set_self _ _ _ (by decide) (by decide), hcopied.get_eq CNT_SNAP_RES.SEQ, hseq]
    rfl

/-- A snapshot of another group leaves what is shown of a group. -/
theorem State.snapGroup_other {t : State} (hgu : u ≠ g) (ht : s.Snapped t u) : s.Snapped (t.snapGroup g) u := by
  obtain ⟨hcounters, hseq, hvalid⟩ := ht
  have hcopied : Only (partsMask [.reg .CNT_SNAP]) (t.resultStart CNT_SNAP_RES.VALID g) ((t.resultStart CNT_SNAP_RES.VALID g).copyGroup g) :=
    State.each_only (fun _ _ ht => State.setReg_only rfl ht) (Only.refl _ _)
  have hres : ∀ F : Fld, F.reg = .CNT_SNAP_RES → (t.snapGroup g).get F u = t.get F u := fun F hF => by
    unfold State.snapGroup State.resultDone State.bump
    rw [State.get_set_index _ _ hgu, State.get_set_index _ _ hgu, hcopied.get_eq F u (by rw [hF]; decide)]
    exact State.get_set_index _ _ hgu
  refine ⟨fun k hk => ?_, (hres _ rfl).trans hseq, (hres _ rfl).trans hvalid⟩
  have hdone : Only (partsMask [.reg .CNT_SNAP_RES]) ((t.resultStart CNT_SNAP_RES.VALID g).copyGroup g) (t.snapGroup g) := State.resultDone_only rfl rfl (Only.refl _ _)
  rw [hdone.reg_eq .CNT_SNAP, State.copyGroup_other _ hgu (List.mem_range.1 hk), ← hcounters k hk]
  exact State.reg_set_other _ _ (.inl (by decide))

theorem cntSnap_snapped (hu : u < 5) (hruns : u = 4 ∨ s.regionState u ≠ 1) : s.Snapped (cntSnap u s) u := by
  obtain ⟨l, hl, hother⟩ := s.counterUnits_first hu hruns
  rw [cntSnap_eq, hl]
  exact List.foldlRecOn (motive := fun t : State => s.Snapped t u) l _ s.snapGroup_snapped fun t ht g hg => s.snapGroup_other (hother g hg).symm ht

theorem cntClr_clears (hu : u < 5) (hruns : u = 4 ∨ s.regionState u ≠ 1) (hk : k < 80) : (cntClr u s).reg .CNT_VAL (80 * u + k) = 0 := by
  obtain ⟨l, hl, hother⟩ := s.counterUnits_first hu hruns
  unfold cntClr
  rw [hl]
  refine List.foldlRecOn (motive := fun t : State => t.reg .CNT_VAL (80 * u + k) = 0) l _ ?_ fun t ht g hg => ?_
  · exact s.each_clears .CNT_VAL (80 * u) k _ (.inl (List.mem_range.2 hk))
  · have hgu := hother g hg
    refine List.foldlRecOn (motive := fun v : State => v.reg .CNT_VAL (80 * u + k) = 0) _ _ ht fun v hv j hj => ?_
    have hj := List.mem_range.1 hj
    rw [v.reg_setReg_other _ (.inr (by omega)), hv]

end Groups

/-! ### Bandwidth (R416) -/

section Bandwidth

variable (s : State) {p : Nat}

theorem clrPeak_clears (hp : p ∈ List.range 128) : (clrPeak s).get CNT_BW2.PEAK_IN p = 0 ∧ (clrPeak s).get CNT_BW2.PEAK_OUT p = 0 := by
  have hself : ∀ (t : State) q, ((t.set CNT_BW2.PEAK_IN q 0).set CNT_BW2.PEAK_OUT q 0).get CNT_BW2.PEAK_IN q = 0 ∧
      ((t.set CNT_BW2.PEAK_IN q 0).set CNT_BW2.PEAK_OUT q 0).get CNT_BW2.PEAK_OUT q = 0 := fun t q =>
    ⟨(State.get_set_bits _ _ _ _ (by decide) (by decide)).trans (t.get_set_fits q (by decide) (by decide)), (t.set CNT_BW2.PEAK_IN q 0).get_set_fits q (by decide) (by decide)⟩
  unfold clrPeak
  refine State.each_reaches (f := fun p t => (t.set CNT_BW2.PEAK_IN p 0).set CNT_BW2.PEAK_OUT p 0) (P := fun t => t.get CNT_BW2.PEAK_IN p = 0 ∧ t.get CNT_BW2.PEAK_OUT p = 0) (Q := fun _ => True) hp (fun t _ => hself t p) (fun _ _ _ => trivial)
    (fun q t ht => ?_) trivial
  by_cases hq : p = q
  · rw [hq]
    exact hself t q
  · simpa only [State.get_set_index _ _ hq] using ht

/-- The end of a window at a port: the bytes counted, a new result, and a peak that does not fall. -/
theorem bwWindowEnd_shows (i o : Nat) {t : State} (ht : t = bwWindowEnd p i o s) :
    t.get CNT_BW0.IN_B p = min i (2 ^ 48 - 1) ∧ t.get CNT_BW1.OUT_B p = min o (2 ^ 48 - 1) ∧ t.get CNT_BW3.SEQ p = (s.get CNT_BW3.SEQ p + 1) % 256 ∧
      t.get CNT_BW3.VALID p = 1 ∧ s.get CNT_BW2.PEAK_IN p ≤ t.get CNT_BW2.PEAK_IN p := by
  subst ht
  unfold bwWindowEnd
  extract_lets win peak u1 u2 u3
  have hbytes : ∀ n : Nat, min n (2 ^ 48 - 1) < 2 ^ 48 := fun n => by omega
  have hpeaks : Only (partsMask [.reg .CNT_BW2, .reg .CNT_BW3]) u1 (u3.resultDone CNT_BW3.SEQ CNT_BW3.VALID p) :=
    State.resultDone_only rfl rfl (State.set_only rfl (State.set_only rfl (Only.refl _ u1)))
  have hstart : Only (partsMask [.reg .CNT_BW0, .reg .CNT_BW1]) s u1 := State.set_only rfl (State.set_only rfl (Only.refl _ s))
  have hcounted : Only (partsMask [.reg .CNT_BW0, .reg .CNT_BW1, .reg .CNT_BW2]) s u3 :=
    State.set_only rfl (State.set_only rfl (State.set_only rfl (State.set_only rfl (Only.refl _ s))))
  have hdone : Only (partsMask [.reg .CNT_BW3]) u3 (u3.resultDone CNT_BW3.SEQ CNT_BW3.VALID p) := State.resultDone_only rfl rfl (Only.refl _ u3)
  refine ⟨?_, ?_, ?_, State.get_set_fits _ _ (by decide) (by decide), ?_⟩
  · rw [hpeaks.get_eq CNT_BW0.IN_B]
    exact (State.get_set_kind _ _ _ _ (by decide)).trans (s.get_set_fits p (by decide) (hbytes i))
  · rw [hpeaks.get_eq CNT_BW1.OUT_B]
    exact State.get_set_fits _ _ (by decide) (hbytes o)
  · unfold State.resultDone State.bump
    rw [State.get_set_bits _ _ _ _ (by decide) (by decide), State.get_set_self _ _ _ (by decide) (by decide), hcounted.get_eq CNT_BW3.SEQ]
    rfl
  · have hold : u1.get CNT_BW2.PEAK_IN p = s.get CNT_BW2.PEAK_IN p := hstart.get_eq ..
    have hlt : s.get CNT_BW2.PEAK_IN p < 2 ^ 24 := s.get_lt p CNT_BW2.PEAK_IN
    have hfits : peak (u1.get CNT_BW2.PEAK_IN p) i < 2 ^ 24 := Nat.lt_of_le_of_lt (min_le_left _ _) (by decide)
    rw [hdone.get_eq CNT_BW2.PEAK_IN, State.get_set_bits _ _ _ _ (by decide) (by decide), State.get_set_fits _ _ (by decide) hfits, hold]
    exact le_min (by omega) (le_max_left _ _)

end Bandwidth

/-! ### The Velair trace (R417, R418) -/

section Trace

variable {s : State} {d : TraceDue} {rest : List TraceDue}

theorem traceRecord_of_stopped (credit : Bool) (hdue : s.trcDue = d :: rest) (hstop : s.flag CNT_TRC_STAT.RUN 0 = false) : traceRecord credit s = { s with trcDue := rest } := by
  have hrun : ({ s with trcDue := rest } : State).flag CNT_TRC_STAT.RUN 0 = false := hstop
  unfold traceRecord
  rw [hdue]
  dsimp only
  rw [hrun, if_pos (by rfl)]

theorem traceRecord_of_no_credit (hdue : s.trcDue = d :: rest) (hrun : s.flag CNT_TRC_STAT.RUN 0 = true) :
    traceRecord false s = { s with trcDue := rest }.dropRecord (d.rt / 16) := by
  have hrun : ({ s with trcDue := rest } : State).flag CNT_TRC_STAT.RUN 0 = true := hrun
  unfold traceRecord
  rw [hdue]
  dsimp only
  rw [hrun, if_neg (show ¬ (!true) = true from Bool.false_ne_true), if_pos (by rfl)]

/-- A record for the analysis port, whose ring wraps, is written. -/
theorem traceRecord_of_ring (hdue : s.trcDue = d :: rest) (hrun : s.flag CNT_TRC_STAT.RUN 0 = true) (hdest : s.flag CNT_TRC_CFG.DEST 0 = true)
    (hwrap : s.flag CNT_TRC_CFG.WRAP 0 = true) : ∃ bytes, traceRecord true s = { s with trcDue := rest }.putVelair d.rt (s.get CNT_TRC_STAT.WREC 0) bytes := by
  have hrun : ({ s with trcDue := rest } : State).flag CNT_TRC_STAT.RUN 0 = true := hrun
  have hdest : ({ s with trcDue := rest } : State).flag CNT_TRC_CFG.DEST 0 = true := hdest
  have hwrap : ({ s with trcDue := rest } : State).flag CNT_TRC_CFG.WRAP 0 = true := hwrap
  unfold traceRecord
  rw [hdue]
  dsimp only
  rw [hrun, hdest, hwrap, if_neg (show ¬ (!true) = true from Bool.false_ne_true), if_neg (by simp)]
  exact ⟨_, rfl⟩

/-- A record written into the partner's ring: it leaves, and the next has the next number. -/
theorem State.putVelair_shows (rt : Nat) (bytes : List Byte) (hdest : s.flag CNT_TRC_CFG.DEST 0 = true) {t : State} (ht : t = s.putVelair rt (s.get CNT_TRC_STAT.WREC 0) bytes) :
    t.trcDue = s.trcDue ∧ t.get CNT_TRC_STAT.WREC 0 = (s.get CNT_TRC_STAT.WREC 0 + 1) % 2 ^ 32 ∧ t.trcSeq = (s.trcSeq + 1) % 2 ^ 32 ∧ t.out.length = s.out.length + 1 := by
  unfold State.putVelair at ht
  extract_lets cap place u1 u2 u3 at ht
  have hfull : Only (partsMask [.reg .CNT_TRC_STAT]) u1 u3 := Only.ite (State.set_only rfl (State.set_only rfl (Only.refl _ u1))) (State.set_only rfl (Only.refl _ u1))
  have hnumber : Only (partsMask [.field .trcSeq, .field .trcDrop]) s u1 := Only.set_trcSeq_trcDrop rfl (Only.refl _ s)
  have hdest3 : u3.flag CNT_TRC_CFG.DEST 0 = true := by
    unfold State.flag at hdest ⊢
    rw [hfull.get_eq CNT_TRC_CFG.DEST, hnumber.get_eq CNT_TRC_CFG.DEST]
    exact hdest
  have hwrec : u3.get CNT_TRC_STAT.WREC 0 = (s.get CNT_TRC_STAT.WREC 0 + 1) % 2 ^ 32 := by
    have hset : u2.get CNT_TRC_STAT.WREC 0 = (s.get CNT_TRC_STAT.WREC 0 + 1) % 2 ^ 32 := u1.get_set_self 0 _ (by decide) (by decide)
    simp only [u3]
    split_ifs
    · exact (State.get_set_bits _ _ _ _ (by decide) (by decide)).trans hset
    · exact hset
  rw [if_pos hdest3] at ht
  subst ht
  have hsent : ∀ o, Only (partsMask [.field .out]) u3 (u3.emit o) := fun o => State.emit_only rfl (Only.refl _ u3)
  refine ⟨?_, ((hsent _).get_eq CNT_TRC_STAT.WREC 0).trans hwrec, ?_, ?_⟩
  · exact ((hsent _).2 (.field .trcDue) (by decide)).trans ((hfull.2 (.field .trcDue) (by decide)).trans (hnumber.2 (.field .trcDue) (by decide)))
  · exact ((hsent _).2 (.field .trcSeq) (by decide)).trans (hfull.2 (.field .trcSeq) (by decide))
  · rw [State.emit_out, hfull.out_eq, hnumber.out_eq]
    exact List.length_append

theorem start_shows (hdest : s.flag CNT_TRC_CFG.DEST 0 = true) :
    (start s).get CNT_TRC_STAT.RUN 0 = 1 ∧ (start s).get CNT_TRC_STAT.FULL 0 = 0 ∧ (start s).get CNT_TRC_STAT.WREC 0 = 0 := by
  unfold start
  rw [hdest, if_neg (by simp)]
  refine ⟨?_, ?_, State.get_set_fits _ _ (by decide) (by decide)⟩
  · exact (State.get_set_bits _ _ _ _ (by decide) (by decide)).trans ((State.get_set_bits _ _ _ _ (by decide) (by decide)).trans (s.get_set_fits 0 (by decide) (by decide)))
  · exact (State.get_set_bits _ _ _ _ (by decide) (by decide)).trans (State.get_set_fits _ _ (by decide) (by decide))

theorem start_of_no_partition (hdest : s.flag CNT_TRC_CFG.DEST 0 = false) (hnone : s.get MGT_HBM_PART.TRACE_256M 0 = 0) : start s = s.refuseWrite .CNT_TRC_CTL 0 := by
  unfold start
  rw [if_pos ⟨by rw [hdest]; rfl, hnone⟩]

end Trace

/-! ### The TELEM service (R419) -/

section Telem

variable {s : State} {e : Nat} {r : JobRun}

/-- The job that TELEM runs is the engine's, and has no outcome yet. -/
theorem State.jobRun_of_telemRun (h : s.telemRun e = some r) : s.jobRun e = some r ∧ r.outcome = none := by
  unfold State.telemRun at h
  split at h
  next q hq =>
    split_ifs at h with hruns
    obtain ⟨-, hnone, -⟩ := hruns
    obtain rfl := Option.some.inj h
    exact ⟨hq, Option.isNone_iff_eq_none.1 hnone⟩
  next => exact absurd h (by simp)

theorem telem_of_done (hrun : s.telemRun e = some r) (hfail : r.fail = 0) (hdone : telemDone r = true) : telem e s = s.finishJob e 0 r.snaps 0 := by
  unfold telem
  rw [hrun]
  dsimp only
  rw [if_neg (by simp [hfail]), if_pos hdone]

theorem telem_of_due (hrun : s.telemRun e = some r) (hfail : r.fail = 0) (hdone : telemDone r = false) (hcancel : r.cancel = false) : telem e s = s := by
  unfold telem
  rw [hrun]
  dsimp only
  rw [if_neg (by simp [hfail]), if_neg (by simp [hdone]), if_neg (by simp [hcancel])]

/-- A snapshot that is due: counted, and its lines added to those of the far-access engine. -/
theorem telemSnapshot_of_due (hrun : s.telemRun e = some r) (hfail : r.fail = 0) (hcancel : r.cancel = false) (hdone : telemDone r = false) (hfar : asdSpace (r.job.word 7) ≠ 2) :
    ∃ (ring : Nat) (lines : List FarAcc), lines ≠ [] ∧
      telemSnapshot e s = ((s.modRun e fun q => { q with snaps := q.snaps + 1, ring := ring }).addAcc (e / 8) lines).pump (e / 8) := by
  unfold telemSnapshot
  rw [hrun]
  dsimp only
  rw [if_neg (by simp [hfail, hcancel, hdone]), if_neg (by simp [hfar])]
  refine ⟨_, _, ?_, rfl⟩
  simp [length_toBytes]
  omega

end Telem

/-- Settles O14: snapshots by group, windows, trace records and TELEM each by its command's own lemma. -/
theorem countersShown : Obligations.CountersShown := by
  unfold Obligations.CountersShown
  refine ⟨?snap, ?held, ?clear, ?peaks, ?window, ?nothing, ?stopped, ?dropped, ?written, ?start, ?refused, ?stop, ?done, ?goesOn, ?snapshot⟩
  case snap => exact fun s u hu hruns => ⟨_, run_true (decide_eq_true hu), cntSnap_snapped s hu hruns⟩
  case held =>
    intro s u hu hfenced
    refine (run_true (decide_eq_true (show u < 5 by omega))).trans (congrArg _ ?_)
    rw [cntSnap_eq, s.counterUnits_of_fenced hu hfenced]
    rfl
  case clear => exact fun s u hu hruns => ⟨_, run_true (decide_eq_true hu), fun k hk => cntClr_clears s hu hruns (List.mem_range.1 hk)⟩
  case peaks => exact fun s => ⟨_, rfl, fun p hp => clrPeak_clears s hp⟩
  case window => exact fun s p i o hp => ⟨_, run_true (decide_eq_true hp), bwWindowEnd_shows s i o rfl⟩
  case nothing =>
    intro s credit hnone
    refine congrArg Host.Outcome.next ?_
    unfold traceRecord
    rw [hnone]
  case stopped => exact fun s credit d rest hdue hstop => congrArg Host.Outcome.next (traceRecord_of_stopped credit hdue hstop)
  case dropped => exact fun s d rest hdue hrun => congrArg Host.Outcome.next (traceRecord_of_no_credit hdue hrun)
  case written =>
    intro s d rest hdue hrun hdest hwrap
    obtain ⟨bytes, hput⟩ := traceRecord_of_ring hdue hrun hdest hwrap
    exact ⟨_, rfl, State.putVelair_shows (s := { s with trcDue := rest }) d.rt bytes hdest hput⟩
  case start => exact fun s hdest => ⟨_, rfl, start_shows hdest⟩
  case refused => exact fun s hdest hnone => congrArg Host.Outcome.next (start_of_no_partition hdest hnone)
  case stop => exact fun s => ⟨_, rfl, s.get_set_fits 0 (by decide) (by decide)⟩
  case done =>
    intro s e r he hrun hfail hdone
    obtain ⟨hjob, hnone⟩ := State.jobRun_of_telemRun hrun
    exact ⟨_, (run_true (decide_eq_true he)).trans (congrArg _ (telem_of_done hrun hfail hdone)), State.finishJob_outcome hjob hnone 0 r.snaps 0⟩
  case goesOn => exact fun s e r he hrun hfail hdone hcancel => (run_true (decide_eq_true he)).trans (congrArg _ (telem_of_due hrun hfail hdone hcancel))
  case snapshot =>
    intro s e r he hrun hfail hcancel hdone hfar
    obtain ⟨hjob, -⟩ := State.jobRun_of_telemRun hrun
    obtain ⟨ring, lines, hlines, hsnap⟩ := telemSnapshot_of_due hrun hfail hcancel hdone hfar
    refine ⟨_, (run_true (decide_eq_true he)).trans (congrArg _ hsnap), ?_, ?_⟩
    · have hrunning : ((s.modRun e fun q => { q with snaps := q.snaps + 1, ring := ring }).addAcc (e / 8) lines).jobRun e = some { r with snaps := r.snaps + 1, ring := ring } := by
        unfold State.jobRun
        rw [State.engine_addAcc]
        exact (s.jobRun_modRun e _).trans (by rw [hjob]; rfl)
      rw [hrunning]
      rfl
    · rw [State.acc_addAcc, State.cluster_modRun, List.length_append]
      exact Nat.lt_add_of_pos_right (List.length_pos_iff.2 hlines)

end Sys2Proof.Machine

namespace Sys2Proof.Machine

-- Proofs are elaborated one after another: each proof thread costs the check 256 MB of stack.
set_option Elab.async false

set_option exponentiation.threshold 500

/-! ### Flash (R320) -/

section Flash

variable (s : State) (cs : Nat)

theorem State.flash_setFlash (m : List Host.Cell) : (s.setFlash cs m).flash cs = m := by
  unfold State.setFlash State.flash
  by_cases h : cs = 0
  · rw [if_pos h, if_pos h]
  · rw [if_neg h, if_neg h]

/-- A byte of a range erased. -/
theorem State.flash_eraseFlash {a n k : Nat} (ha : a ≤ k) (hk : k < a + n) : Tbl.rd erasedByte ((s.eraseFlash cs a n).flash cs) k = 0xFF := by
  unfold State.eraseFlash
  rw [State.flash_setFlash]
  exact Tbl.rd_filter_out erasedByte _ fun v => by simp [ha, hk]

/-- Bytes programmed further on leave a byte. -/
theorem rd_programBytes_before {a k : Nat} (h : k < a) (l : List Byte) (m : List Host.Cell) : Tbl.rd erasedByte (programBytes m a l) k = Tbl.rd erasedByte m k := by
  induction l generalizing m a with
  | nil => rfl
  | cons b l ih =>
    rw [programBytes, ih (by omega), Tbl.rd_wr_other _ _ _ (by omega)]

/-- Bytes programmed read back. -/
theorem map_rd_programBytes (l : List Byte) (m : List Host.Cell) (a : Nat) : (List.range l.length).map (fun i => Tbl.rd erasedByte (programBytes m a l) (a + i)) = l := by
  induction l generalizing m a with
  | nil => rfl
  | cons b l ih =>
    have hnext : (List.range l.length).map (fun i => Tbl.rd erasedByte (programBytes (Tbl.wr erasedByte m a b) (a + 1) l) (a + (i + 1))) = l := by
      simpa only [Nat.add_assoc, Nat.add_comm 1] using ih (Tbl.wr erasedByte m a b) (a + 1)
    have hfirst : Tbl.rd erasedByte (programBytes (Tbl.wr erasedByte m a b) (a + 1) l) (a + 0) = b := by
      show Tbl.rd erasedByte (programBytes (Tbl.wr erasedByte m a b) (a + 1) l) a = b
      rw [rd_programBytes_before (Nat.lt_succ_self a), Tbl.rd_wr_self]
    rw [List.length_cons, List.range_succ_eq_map, List.map_cons, List.map_map, programBytes, hfirst]
    exact congrArg (b :: ·) hnext

theorem State.flashBytes_program (a : Nat) (l : List Byte) : (s.program cs a l).flashBytes cs a l.length = l := by
  unfold State.program State.flashBytes
  rw [State.flash_setFlash]
  exact map_rd_programBytes ..

variable {s} {t : State} {G : Nat}

theorem Only.flash_eq (h : Only G s t) (hA : G.testBit (256 + StateField.ctorIdx .flashA) = false := by decide)
    (hB : G.testBit (256 + StateField.ctorIdx .flashB) = false := by decide) : t.flash cs = s.flash cs := by
  unfold State.flash
  rw [show t.flashA = s.flashA from h.2 (.field .flashA) hA, show t.flashB = s.flashB from h.2 (.field .flashB) hB]

theorem Only.flashBytes_eq (h : Only G s t) (a n : Nat) (hA : G.testBit (256 + StateField.ctorIdx .flashA) = false := by decide)
    (hB : G.testBit (256 + StateField.ctorIdx .flashB) = false := by decide) : t.flashBytes cs a n = s.flashBytes cs a n := by
  unfold State.flashBytes
  rw [h.flash_eq cs hA hB]

theorem Only.flashA_eq (h : Only G s t) (hG : G.testBit (256 + StateField.ctorIdx .flashA) = false := by decide) : t.flashA = s.flashA := h.2 (.field .flashA) hG

theorem Only.flashB_eq (h : Only G s t) (hG : G.testBit (256 + StateField.ctorIdx .flashB) = false := by decide) : t.flashB = s.flashB := h.2 (.field .flashB) hG

theorem Only.imgRun_eq (h : Only G s t) (hG : G.testBit (256 + StateField.ctorIdx .imgRun) = false := by decide) : t.imgRun = s.imgRun := h.2 (.field .imgRun) hG

theorem Only.slotChecked_eq (h : Only G s t) (sl : Nat) (hG : G.testBit (256 + StateField.ctorIdx .checked) = false := by decide) : t.slotChecked sl = s.slotChecked sl :=
  congrArg (Tbl.rd (fun _ => none) · sl) (h.2 (.field .checked) hG)

end Flash

/-! ### Image commands started (R328, R336) -/

section Start

variable {s : State} {sl : Nat}

/-- A refused access is counted. -/
theorem State.refuse_refusals (s : State) (addr size : Nat) (write : Bool) (n : Nat) : (s.refuse addr size write n).refusals = s.refusals + 1 := by
  unfold State.refuse
  extract_lets u u1 u2 u3 u4 u5 u6
  have hrecord : Only (partsMask [.reg .MGT_DRS_ERR, .reg .MGT_EVT_STAT, .reg .CNT_VAL, .reg .MGT_EVT_REC]) u
      (if u.flag MGT_DRS_ERR.PEND 0 then u.count MGT_DRS_ERR.COUNT 0 else u6.notice 3 0 (addr + 2 ^ 30 * size)) :=
    Only.ite (State.count_only rfl (Only.refl _ u)) (State.notice_only rfl (State.set_only rfl (State.set_only rfl (State.set_only rfl (State.set_only rfl
      (State.set_only rfl (State.set_only rfl (Only.refl _ u))))))))
  exact hrecord.2 (.field .refusals) (by decide)

theorem State.refuseWrite_refusals (s : State) (k : RegKind) (i : Nat) : (s.refuseWrite k i).refusals = s.refusals + 1 := by
  unfold State.refuseWrite
  split
  · exact s.refuse_refusals ..
  · exact s.refuse_refusals ..

theorem State.imageCommand_of_idle (himg : s.imgRun = none) (hkey : s.keyRun = none) (r : ImgRun) :
    s.imageCommand r = { s.resultStart MGT_IMG_RES.VALID 0 with imgRun := some r } := by
  unfold State.imageCommand
  rw [himg, hkey]
  rfl

theorem State.imageCommand_of_running (h : s.imgRun.isSome = true ∨ s.keyRun.isSome = true) (r : ImgRun) : s.imageCommand r = s.refuseWrite .MGT_IMG_CMD 0 := by
  unfold State.imageCommand
  rw [if_pos (by simpa using h)]

/-- An image command that starts: its run, VALID = 0, and nothing else of the state. -/
theorem State.imageCommand_starts (himg : s.imgRun = none) (hkey : s.keyRun = none) (r : ImgRun) :
    (s.imageCommand r).imgRun = some r ∧ (s.imageCommand r).get MGT_IMG_RES.VALID 0 = 0 ∧ Only (partsMask [.reg .MGT_IMG_RES, .field .imgRun]) s (s.imageCommand r) := by
  rw [State.imageCommand_of_idle himg hkey]
  have hset : Only (partsMask [.field .imgRun]) (s.resultStart MGT_IMG_RES.VALID 0) { s.resultStart MGT_IMG_RES.VALID 0 with imgRun := some r } :=
    Only.set_imgRun rfl (Only.refl _ _)
  exact ⟨rfl, (hset.get_eq MGT_IMG_RES.VALID 0).trans (s.get_set_fits 0 (by decide) (by decide)), Only.set_imgRun rfl (State.resultStart_only rfl (Only.refl _ s))⟩

/-- An image command recorded while another runs. -/
theorem State.imageCommand_refused (h : s.imgRun.isSome = true ∨ s.keyRun.isSome = true) (r : ImgRun) {t : State} (ht : t = s.imageCommand r) :
    t.imgRun = s.imgRun ∧ t.refusals = s.refusals + 1 ∧ t.flashA = s.flashA ∧ t.flashB = s.flashB := by
  rw [State.imageCommand_of_running h] at ht
  subst ht
  have hkept := State.refuseWrite_only (k := .MGT_IMG_CMD) (i := 0) (Sub.refl _) (Only.refl _ s)
  exact ⟨hkept.imgRun_eq, s.refuseWrite_refusals .., hkept.flashA_eq, hkept.flashB_eq⟩

/-- The marks CHECKED replaced. -/
def State.setChecked (s : State) (l : Tbl (Option ImgContent)) : State := { s with checked := l }

/-- What the marks and the registers that show the slots are. -/
abbrev imageSlotParts : Nat := partsMask [.field .checked, .reg .MGT_IMG_STAT, .reg .MGT_IMG_SEQ]

theorem State.showChecked_only (s : State) (l : Tbl (Option ImgContent)) : Only imageSlotParts s (s.setChecked l).showSlots :=
  State.showSlots_only rfl (Only.set_checked rfl (Only.refl _ s))

/-- What the marks say stands behind what the registers show of the slots. -/
theorem State.slotChecked_showChecked (s : State) (l : Tbl (Option ImgContent)) (sl : Nat) : (s.setChecked l).showSlots.slotChecked sl = Tbl.rd (fun _ => none) l sl :=
  (State.showSlots_only (Sub.refl _) (Only.refl _ (s.setChecked l))).slotChecked_eq sl

theorem imgErase_of_boot (hboot : s.bootSlot = some sl) : imgErase sl s = s.imageCommand (imgRunOf 1 sl 0x0F) := by
  unfold imgErase
  simp only [hboot, if_true, true_or]

theorem imgErase_of_other (himg : s.imgRun = none) (hkey : s.keyRun = none) (hboot : s.bootSlot ≠ some sl) :
    imgErase sl s = (((s.imageCommand (imgRunOf 1 sl 0)).eraseFlash sl recordAt 4096).setChecked
      (Tbl.wr (fun _ => none) (s.imageCommand (imgRunOf 1 sl 0)).checked sl none)).showSlots := by
  obtain ⟨hrun, -⟩ := State.imageCommand_starts himg hkey (imgRunOf 1 sl 0)
  unfold imgErase
  simp only [hboot, hrun, himg, if_false, false_or, reduceCtorEq]
  rfl

theorem imgErase_starts (himg : s.imgRun = none) (hkey : s.keyRun = none) :
    (imgErase sl s).imgRun = some (imgRunOf 1 sl (if s.bootSlot = some sl then 0x0F else 0)) ∧ (imgErase sl s).get MGT_IMG_RES.VALID 0 = 0 := by
  by_cases hboot : s.bootSlot = some sl
  · rw [imgErase_of_boot hboot, if_pos hboot]
    obtain ⟨hrun, hvalid, -⟩ := State.imageCommand_starts himg hkey (imgRunOf 1 sl 0x0F)
    exact ⟨hrun, hvalid⟩
  · rw [imgErase_of_other himg hkey hboot, if_neg hboot]
    obtain ⟨hrun, hvalid, -⟩ := State.imageCommand_starts himg hkey (imgRunOf 1 sl 0)
    have hkept := State.eraseFlash_only (cs := sl) (a := recordAt) (n := 4096) (Sub.refl _) (Only.refl _ (s.imageCommand (imgRunOf 1 sl 0)))
    have hshown := State.showChecked_only ((s.imageCommand (imgRunOf 1 sl 0)).eraseFlash sl recordAt 4096) (Tbl.wr (fun _ => none) (s.imageCommand (imgRunOf 1 sl 0)).checked sl none)
    exact ⟨hshown.imgRun_eq.trans (hkept.imgRun_eq.trans hrun), (hshown.get_eq ..).trans ((hkept.get_eq ..).trans hvalid)⟩

/-- ERASE of a slot that is not the boot slot erases its record, and the slot is not CHECKED any more. -/
theorem imgErase_erases (himg : s.imgRun = none) (hkey : s.keyRun = none) (hboot : s.bootSlot ≠ some sl) {k : Nat} (hk : k < 4096) :
    Tbl.rd erasedByte ((imgErase sl s).flash sl) (recordAt + k) = 0xFF ∧ (imgErase sl s).slotChecked sl = none := by
  rw [imgErase_of_other himg hkey hboot]
  refine ⟨?_, (State.slotChecked_showChecked ..).trans (Tbl.rd_wr_self ..)⟩
  rw [(State.showChecked_only _ _).flash_eq]
  exact State.flash_eraseFlash _ sl (Nat.le_add_right ..) (by omega)

/-- Two lists of one length differ at no index exactly when they are equal. -/
theorem find_mismatch_none {n : Nat} {a b : List Byte} (ha : a.length = n) (hb : b.length = n) :
    ((List.range n).find? fun i => decide (a.getD i 0 ≠ b.getD i 0)) = none ↔ a = b := by
  refine ⟨fun h => List.ext_getElem (ha.trans hb.symm) fun i hi hi' => ?_, fun h => ?_⟩
  · have hsame := List.find?_eq_none.1 h i (List.mem_range.2 (ha ▸ hi))
    rw [decide_eq_true_eq, not_not, List.getD_eq_getElem _ _ hi, List.getD_eq_getElem _ _ hi'] at hsame
    exact hsame
  · subst h
    exact List.find?_eq_none.2 fun i _ => by simp

theorem length_padTo (n : Nat) (l : List Byte) : (padTo n l).length = n := by
  unfold padTo
  rw [List.length_append, List.length_take, List.length_replicate]
  omega

theorem State.length_bufBytes (s : State) : (s.bufBytes 4096).length = 4096 := by
  have hall : ((List.range 512).flatMap fun k => toBytes 8 (s.reg .MGT_IMG_BUF k).toNat).length = 4096 := by
    rw [List.length_flatMap]
    simp only [length_toBytes, List.map_const', List.sum_replicate, List.length_range, smul_eq_mul]
  unfold State.bufBytes
  rw [List.length_take, hall, Nat.min_self]

/-- WRITE of a page within the image. -/
theorem imgWrite_starts (himg : s.imgRun = none) (hkey : s.keyRun = none) {off : Nat} (halign : off % 4096 = 0) (hoff : off < recordAt) (d : List Byte) {t : State}
    (ht : t = imgWrite sl off d s) :
    t.imgRun.map ImgRun.status = some (if s.bootSlot = some sl then 0x0F else if padTo 4096 d = s.bufBytes 4096 then 0 else 0x10) ∧ t.flashA = s.flashA ∧ t.flashB = s.flashB := by
  unfold imgWrite at ht
  by_cases hboot : s.bootSlot = some sl
  · rw [if_pos hboot] at ht
    subst ht
    obtain ⟨hrun, -, hkept⟩ := State.imageCommand_starts himg hkey (imgRunOf 2 sl 0x0F)
    rw [hrun, if_pos hboot]
    exact ⟨rfl, hkept.flashA_eq, hkept.flashB_eq⟩
  · rw [if_neg hboot, if_neg (by omega)] at ht
    extract_lets want got bad u at ht
    have hnone : bad = none ↔ want = got := find_mismatch_none s.length_bufBytes (length_padTo ..)
    clear_value bad
    obtain ⟨r, hu, hr⟩ : ∃ r, u = s.imageCommand r ∧ r.status = if bad.isSome then 0x10 else 0 := ⟨_, rfl, rfl⟩
    obtain ⟨hrun, -, hkept⟩ := State.imageCommand_starts himg hkey r
    rw [← hu] at hrun hkept
    have hstarted : ¬ u.imgRun = s.imgRun := fun hsame => Option.some_ne_none _ (hrun.symm.trans (hsame.trans himg))
    rw [if_neg hstarted] at ht
    obtain rfl : t = (u.setChecked (Tbl.wr (fun _ => none) u.checked sl none)).showSlots := ht
    have hshown := u.showChecked_only (Tbl.wr (fun _ => none) u.checked sl none)
    have hstatus : (if bad.isSome = true then 0x10 else 0) = if padTo 4096 d = s.bufBytes 4096 then 0 else 0x10 := by
      by_cases hsame : want = got
      · rw [hnone.2 hsame, if_pos (show padTo 4096 d = s.bufBytes 4096 from hsame.symm)]
        rfl
      · rw [if_pos (Option.isSome_iff_ne_none.2 fun hb => hsame (hnone.1 hb)), if_neg (fun he => hsame (Eq.symm he))]
    refine ⟨?_, hshown.flashA_eq.trans hkept.flashA_eq, hshown.flashB_eq.trans hkept.flashB_eq⟩
    rw [hshown.imgRun_eq, hrun, if_neg hboot, ← hstatus, ← hr]
    rfl

/-- WRITE at an OFFSET that the rules do not allow: nothing to program, and a free status. -/
theorem imgWrite_of_bad_offset (himg : s.imgRun = none) (hkey : s.keyRun = none) (hboot : s.bootSlot ≠ some sl) {off : Nat} (hoff : off % 4096 ≠ 0 ∨ recordAt ≤ off)
    (d : List Byte) : (imgWrite sl off d s).imgRun.map ImgRun.page = some [] ∧ (imgWrite sl off d s).freeCtr = s.freeCtr + 1 ∧ (imgWrite sl off d s).flashA = s.flashA ∧
      (imgWrite sl off d s).flashB = s.flashB := by
  unfold imgWrite
  rw [if_neg hboot, if_pos hoff]
  obtain ⟨hrun, -, hkept⟩ := State.imageCommand_starts himg hkey (imgRunOf 2 sl ((Config.freeWord s.freeCtr).toNat % 256))
  have hfresh := fun u : State => State.fresh_only (G := partsMask [.field .freeCtr]) rfl (Only.refl _ u)
  refine ⟨?_, ?_, (hfresh _).flashA_eq.trans hkept.flashA_eq, (hfresh _).flashB_eq.trans hkept.flashB_eq⟩
  · rw [(hfresh _).imgRun_eq, hrun]
    rfl
  · rw [State.fresh_freeCtr]
    exact congrArg (· + 1) (hkept.2 (.field .freeCtr) (by decide))

/-! ### A command recorded while another runs -/

variable (hruns : s.imgRun.isSome = true ∨ s.keyRun.isSome = true)
include hruns

theorem imgErase_refused {t : State} (ht : t = imgErase sl s) : t.imgRun = s.imgRun ∧ t.refusals = s.refusals + 1 ∧ t.flashA = s.flashA ∧ t.flashB = s.flashB := by
  have hrefused := fun status : Nat => State.imageCommand_refused hruns (imgRunOf 1 sl status) rfl
  by_cases hboot : s.bootSlot = some sl
  · rw [imgErase_of_boot hboot] at ht
    exact ht ▸ hrefused 0x0F
  · unfold imgErase at ht
    simp only [hboot, (hrefused 0).1, if_false, or_true, if_true] at ht
    exact ht ▸ hrefused 0

theorem imgWrite_refused {off : Nat} {d : List Byte} {t : State} (ht : t = imgWrite sl off d s) : t.imgRun = s.imgRun ∧ t.refusals = s.refusals + 1 := by
  unfold imgWrite at ht
  by_cases hboot : s.bootSlot = some sl
  · rw [if_pos hboot] at ht
    obtain ⟨hrun, hcount, -⟩ := State.imageCommand_refused hruns _ ht
    exact ⟨hrun, hcount⟩
  · rw [if_neg hboot] at ht
    by_cases hoff : off % 4096 ≠ 0 ∨ recordAt ≤ off
    · rw [if_pos hoff] at ht
      subst ht
      obtain ⟨hrun, hcount, -⟩ := State.imageCommand_refused hruns (imgRunOf 2 sl ((Config.freeWord s.freeCtr).toNat % 256)) rfl
      have hfresh := fun u : State => State.fresh_only (G := partsMask [.field .freeCtr]) rfl (Only.refl _ u)
      exact ⟨(hfresh _).imgRun_eq.trans hrun, (State.fresh_refusals _).trans hcount⟩
    · rw [if_neg hoff] at ht
      extract_lets want got bad u at ht
      obtain ⟨hrun, hcount, -⟩ := State.imageCommand_refused hruns (t := u) _ rfl
      rw [if_pos hrun] at ht
      subst ht
      exact ⟨hrun, hcount⟩

end Start

end Sys2Proof.Machine

namespace Sys2Proof.Machine

-- Proofs are elaborated one after another: each proof thread costs the check 256 MB of stack.
set_option Elab.async false

set_option exponentiation.threshold 500

/-! ### Image commands completed (R328, R329, R357) -/

section ImageComplete

variable {s : State} {r : ImgRun}

/-- An image command as its completion finds it: an APPLY has its pre-check made again. -/
def State.rechecked (s : State) (r : ImgRun) : ImgRun := if r.op = 5 ∧ r.status = 0 then { r with status := s.applyStatus r.sl r.img } else r

/-- What a command that ends leaves: its effect, or the page that reads back wrong, or nothing. -/
def State.imageTakes (s : State) (r : ImgRun) : State :=
  if r.status = 0 then s.imageEffect r else if r.op = 2 ∧ r.status = 0x10 then s.program r.sl r.offset r.page else s

/-- The result of a command that ends. -/
def State.imageShows (s : State) (r : ImgRun) (regions : Nat) : State :=
  ((((s.showSlots.set MGT_IMG_RES.STATUS 0 r.status).set MGT_IMG_RES.SECTION 0 r.sec).set MGT_IMG_RES.REGIONS 0 regions).set MGT_IMG_RES.DETAIL 0 r.detail).resultDone
    MGT_IMG_RES.SEQ MGT_IMG_RES.VALID 0

/-- The command is over. -/
def State.imageIdle (s : State) : State := { s with imgRun := none }

theorem State.imageIdle_only (s : State) : Only (partsMask [.field .imgRun]) s s.imageIdle := Only.set_imgRun rfl (Only.refl _ s)

theorem imageCommandComplete_of_run (hrun : s.imgRun = some r) : imageCommandComplete s =
    (s.imageIdle.imageTakes (s.rechecked r)).imageShows (s.rechecked r) (if (s.rechecked r).op = 5 ∧ (s.rechecked r).status = 0 then s.switchedRegions else 0) := by
  unfold imageCommandComplete
  rw [hrun]
  rfl

theorem State.rechecked_of_apply (hop : r.op = 5) (hok : r.status = 0) : s.rechecked r = { r with status := s.applyStatus r.sl r.img } := if_pos ⟨hop, hok⟩

theorem State.rechecked_of_other (h : r.op ≠ 5 ∨ r.status ≠ 0) : s.rechecked r = r := if_neg (by omega)

theorem State.imageShows_only (s : State) (r : ImgRun) (regions : Nat) : Only (partsMask [.reg .MGT_IMG_RES, .reg .MGT_IMG_STAT, .reg .MGT_IMG_SEQ]) s (s.imageShows r regions) :=
  State.resultDone_only rfl rfl (State.set_only rfl (State.set_only rfl (State.set_only rfl (State.set_only rfl (State.showSlots_only rfl (Only.refl _ s))))))

/-- The result register after a command. -/
theorem State.imageShows_result (s : State) (r : ImgRun) (regions : Nat) {t : State} (ht : t = s.imageShows r regions) : t.get MGT_IMG_RES.STATUS 0 = r.status % 256 ∧
    t.get MGT_IMG_RES.REGIONS 0 = regions % 16 ∧ t.get MGT_IMG_RES.VALID 0 = 1 ∧ t.get MGT_IMG_RES.SEQ 0 = (s.get MGT_IMG_RES.SEQ 0 + 1) % 256 := by
  subst ht
  have hslots : Only (partsMask [.reg .MGT_IMG_STAT, .reg .MGT_IMG_SEQ]) s s.showSlots := State.showSlots_only rfl (Only.refl _ s)
  unfold State.imageShows
  refine ⟨?_, ?_, State.resultDone_valid _ _ (by decide), ?_⟩
  · rw [State.resultDone_other _ _ _ (by decide) (by decide) (by decide) (by decide), State.get_set_bits _ _ _ _ (by decide) (by decide),
      State.get_set_bits _ _ _ _ (by decide) (by decide), State.get_set_bits _ _ _ _ (by decide) (by decide)]
    exact State.get_set_self _ _ _ (by decide) (by decide)
  · rw [State.resultDone_other _ _ _ (by decide) (by decide) (by decide) (by decide), State.get_set_bits _ _ _ _ (by decide) (by decide)]
    exact State.get_set_self _ _ _ (by decide) (by decide)
  · rw [State.resultDone_seq _ _ (by decide) (by decide) (by decide), State.get_set_bits _ _ _ _ (by decide) (by decide), State.get_set_bits _ _ _ _ (by decide) (by decide),
      State.get_set_bits _ _ _ _ (by decide) (by decide), State.get_set_bits _ _ _ _ (by decide) (by decide), hslots.get_eq MGT_IMG_RES.SEQ]
    rfl

theorem State.imageTakes_imgRun (s : State) (r : ImgRun) : (s.imageTakes r).imgRun = s.imgRun := by
  unfold State.imageTakes
  split_ifs
  · exact (State.imageEffect_only (Sub.refl _) (Only.refl _ s)).imgRun_eq
  · exact (State.program_only (Sub.refl _) (Only.refl _ s)).imgRun_eq
  · rfl

/-- No image command runs after a completion. -/
theorem imageCommandComplete_imgRun (hrun : s.imgRun = some r) : (imageCommandComplete s).imgRun = none := by
  rw [imageCommandComplete_of_run hrun, (State.imageShows_only _ _ _).imgRun_eq, State.imageTakes_imgRun]
  rfl

/-- A completion shows the status, and that the result is valid. -/
theorem imageCommandComplete_result (hrun : s.imgRun = some r) : (imageCommandComplete s).get MGT_IMG_RES.STATUS 0 = (s.rechecked r).status % 256 ∧
    (imageCommandComplete s).get MGT_IMG_RES.VALID 0 = 1 := by
  obtain ⟨hstatus, -, hvalid, -⟩ := State.imageShows_result _ _ _ (imageCommandComplete_of_run hrun)
  exact ⟨hstatus, hvalid⟩

theorem State.imageTakes_of_refused (hbad : r.status ≠ 0) (hop : r.op ≠ 2) : s.imageTakes r = s := by
  unfold State.imageTakes
  rw [if_neg hbad, if_neg fun h => hop h.1]

/-- A command refused leaves the flash and the marks, and shows no region. -/
theorem imageCommandComplete_of_refused (hrun : s.imgRun = some r) (hbad : (s.rechecked r).status ≠ 0) (hop : (s.rechecked r).op ≠ 2) {t : State} (ht : t = imageCommandComplete s) :
    t.flashA = s.flashA ∧ t.flashB = s.flashB ∧ t.checked = s.checked ∧ t.get MGT_IMG_RES.REGIONS 0 = 0 ∧ t.get MGT_IMG_RES.SEQ 0 = (s.get MGT_IMG_RES.SEQ 0 + 1) % 256 := by
  have heq := imageCommandComplete_of_run hrun
  rw [State.imageTakes_of_refused hbad hop, if_neg fun h => hbad h.2, ← ht] at heq
  have hidle := s.imageIdle_only
  have hshown := heq ▸ s.imageIdle.imageShows_only (s.rechecked r) 0
  obtain ⟨-, hregions, -, hseq⟩ := State.imageShows_result _ _ _ heq
  exact ⟨hshown.flashA_eq.trans hidle.flashA_eq, hshown.flashB_eq.trans hidle.flashB_eq, (hshown.2 (.field .checked) (by decide)).trans (hidle.2 (.field .checked) (by decide)),
    hregions, hidle.get_eq MGT_IMG_RES.SEQ 0 ▸ hseq⟩

/-- An ERASE leaves the slot blank below its record. -/
theorem imageCommandComplete_erases (hrun : s.imgRun = some r) (hop : r.op = 1) (hok : r.status = 0) {k : Nat} (hk : k < recordAt) :
    Tbl.rd erasedByte ((imageCommandComplete s).flash r.sl) k = 0xFF := by
  have htakes : s.imageIdle.imageTakes r = s.imageIdle.eraseFlash r.sl 0 recordAt := by
    unfold State.imageTakes State.imageEffect
    rw [if_pos hok, hop]
    rfl
  rw [imageCommandComplete_of_run hrun, State.rechecked_of_other (.inl (by rw [hop]; decide)), (State.imageShows_only _ _ _).flash_eq, htakes]
  exact State.flash_eraseFlash _ _ (Nat.zero_le k) (by omega)

/-- A page written reads back as it was found. -/
theorem imageCommandComplete_programs (hrun : s.imgRun = some r) (hop : r.op = 2) (hst : r.status = 0 ∨ r.status = 0x10) :
    (imageCommandComplete s).flashBytes r.sl r.offset r.page.length = r.page := by
  have htakes : s.imageIdle.imageTakes r = s.imageIdle.program r.sl r.offset r.page := by
    unfold State.imageTakes State.imageEffect
    rcases hst with hok | hwrong
    · rw [if_pos hok, hop]
      rfl
    · rw [if_neg (by rw [hwrong]; decide), if_pos ⟨hop, hwrong⟩]
  rw [imageCommandComplete_of_run hrun, State.rechecked_of_other (.inl (by rw [hop]; decide)), (State.imageShows_only _ _ _).flashBytes_eq, htakes]
  exact State.flashBytes_program ..

theorem State.slotChecked_setChecked (s : State) (l : Tbl (Option ImgContent)) (sl : Nat) : (s.setChecked l).slotChecked sl = Tbl.rd (fun _ => none) l sl := (rfl)

/-- A CHECK that passes marks the slot with what it found. -/
theorem imageCommandComplete_marks (hrun : s.imgRun = some r) (hop : r.op = 3) (hok : r.status = 0) {t : State} (ht : t = imageCommandComplete s) :
    t.slotChecked r.sl = some r.img ∧ t.flashA = s.flashA ∧ t.flashB = s.flashB := by
  have htakes : s.imageIdle.imageTakes r = s.imageIdle.setChecked (Tbl.wr (fun _ => none) s.imageIdle.checked r.sl (some r.img)) := by
    unfold State.imageTakes State.imageEffect
    rw [if_pos hok, hop]
    rfl
  rw [imageCommandComplete_of_run hrun, State.rechecked_of_other (.inl (by rw [hop]; decide)), htakes] at ht
  subst ht
  have hmarked : Only (partsMask [.field .checked]) s.imageIdle (s.imageIdle.setChecked (Tbl.wr (fun _ => none) s.imageIdle.checked r.sl (some r.img))) :=
    Only.set_checked rfl (Only.refl _ _)
  have hshown := State.imageShows_only (s.imageIdle.setChecked (Tbl.wr (fun _ => none) s.imageIdle.checked r.sl (some r.img))) r
    (if r.op = 5 ∧ r.status = 0 then s.switchedRegions else 0)
  exact ⟨(hshown.slotChecked_eq r.sl).trans ((State.slotChecked_setChecked ..).trans (Tbl.rd_wr_self ..)), hshown.flashA_eq.trans (hmarked.flashA_eq.trans s.imageIdle_only.flashA_eq),
    hshown.flashB_eq.trans (hmarked.flashB_eq.trans s.imageIdle_only.flashB_eq)⟩

end ImageComplete

/-! ### Boot (R327, R364) -/

section Boot

variable {s : State}

/-- SAFE's cause stands while the mode is brought up to date. -/
theorem State.updMode_safeCause (s : State) : s.updMode.get PWR_MODE.SAFE_CAUSE 0 = s.get PWR_MODE.SAFE_CAUSE 0 := by
  have hconditions : s.conditions.get PWR_MODE.SAFE_CAUSE 0 = s.get PWR_MODE.SAFE_CAUSE 0 := by
    unfold State.conditions
    simp (disch := decide) only [State.get_set_bits]
  unfold State.updMode
  extract_lets u
  split_ifs
  · rfl
  · exact hconditions
  · rw [(State.notice_only (Sub.refl _) (Only.refl _ _)).get_eq PWR_MODE.SAFE_CAUSE]
    exact (State.get_set_bits _ _ _ _ (by decide) (by decide)).trans ((State.get_set_bits _ _ _ _ (by decide) (by decide)).trans hconditions)

theorem State.enterSafe_cause (s : State) {cause : Nat} (h : cause < 16) : (s.enterSafe cause).get PWR_MODE.SAFE_CAUSE 0 = cause := by
  unfold State.enterSafe
  rw [(State.updFaultN_only (Sub.refl _) (Only.refl _ _)).get_eq PWR_MODE.SAFE_CAUSE, State.updMode_safeCause]
  exact State.get_set_fits _ _ (by decide) h

theorem bootRecordsRead_verifies (h : s.phase = .boot) : (bootRecordsRead s).phase = .verify := by
  unfold bootRecordsRead
  rw [if_pos h]
  exact (State.updMode_only (Sub.refl _) (Only.refl _ _)).phase_eq

variable (s) (ra rb : Option RuleItem) (ia ib : ImgContent)

/-- A slot passes its verification at boot, on what its sections are found to state. -/
def State.bootPasses (y : Nat) : Bool :=
  decide ((s.verify y true (s.ruleOf (s.flashNum y 0x12 1) (if y = 0 then ia else ib) (if y = 0 then ra else rb))).1 = 0)

/-- The slot that boot takes. -/
def State.bootTakes : Option Nat := s.bootOrder.find? (s.bootPasses ra rb ia ib)

variable {s ra rb ia ib}

theorem bootVerifyResult_of_none (hphase : s.phase = .verify) (hstaged : s.staged = none) (hnone : s.bootTakes ra rb ia ib = none) :
    bootVerifyResult ra ia rb ib s = (s.notice 505 1 0).enterSafe 1 := by
  have hfind : (s.bootOrder.find? fun sl => decide ((s.verify sl true (s.ruleOf (s.flashNum sl 0x12 1) (if sl = 0 then ia else ib) (if sl = 0 then ra else rb))).1 = 0)) = none :=
    hnone
  unfold bootVerifyResult
  rw [if_neg (by simp [hphase, hstaged])]
  dsimp only
  rw [hfind]

/-- A slot that passes is staged; HBM is not ready, and PROVISION waits. -/
theorem bootVerifyResult_of_some (hphase : s.phase = .verify) (hstaged : s.staged = none) (hready : s.hbmReady = false) {sl : Nat} (hsome : s.bootTakes ra rb ia ib = some sl) :
    (bootVerifyResult ra ia rb ib s).staged = some (sl, if sl = 0 then ia else ib) ∧ (bootVerifyResult ra ia rb ib s).phase = .verify := by
  have hfind : (s.bootOrder.find? fun sl => decide ((s.verify sl true (s.ruleOf (s.flashNum sl 0x12 1) (if sl = 0 then ia else ib) (if sl = 0 then ra else rb))).1 = 0)) = some sl :=
    hsome
  unfold bootVerifyResult
  rw [if_neg (by simp [hphase, hstaged])]
  dsimp only
  rw [hfind]
  dsimp only
  set u := if s.bootSlot ≠ some sl then (s.set MGT_IMG_STAT.FALLBACK 0 1).notice 505 1 0 else s with hu
  have hshown : Only (partsMask [.reg .MGT_IMG_STAT, .reg .MGT_EVT_STAT, .reg .CNT_VAL, .reg .MGT_EVT_REC]) s u :=
    Only.ite (State.notice_only rfl (State.set_only rfl (Only.refl _ s))) (Only.refl _ s)
  have hwaits : u.hbmReady = false := (hshown.2 (.field .hbmReady) (by decide)).trans hready
  unfold State.tryProvision
  dsimp only
  rw [hwaits, if_neg (by simp)]
  exact ⟨rfl, hshown.phase_eq.trans hphase⟩

theorem bootVerifyResult_stages (hphase : s.phase = .verify) (hstaged : s.staged = none) (hready : s.hbmReady = false) {t : State} (ht : t = bootVerifyResult ra ia rb ib s) :
    t.staged = (s.bootTakes ra rb ia ib).map (fun y : Nat => (y, if y = 0 then ia else ib)) ∧
      t.phase = (if (s.bootTakes ra rb ia ib).isSome then Phase.verify else Phase.safe) := by
  subst ht
  cases htakes : s.bootTakes ra rb ia ib with
  | none =>
    rw [bootVerifyResult_of_none hphase hstaged htakes]
    have hkept : Only (partsMask [.reg .PRT_LINK_STATUS, .reg .PWR_MODE, .reg .FLT_STAT, .reg .MGT_EVT_STAT, .reg .CNT_VAL, .reg .MGT_EVT_REC, .field .phase]) s ((s.notice 505 1 0).enterSafe 1) :=
      State.enterSafe_only rfl (State.notice_only rfl (Only.refl _ s))
    exact ⟨(hkept.2 (.field .staged) (by decide)).trans hstaged, State.enterSafe_phase ..⟩
  | some sl => exact bootVerifyResult_of_some hphase hstaged hready htakes

end Boot

/-- Settles O36: the image commands by the run that they start or do not start, their completion by what each leaves, and the boot by the slot that it takes. -/
theorem imagesKept : Obligations.ImagesKept := by
  unfold Obligations.ImagesKept
  refine ⟨?erase, ?erased, ?write, ?badOffset, ?check, ?commit, ?apply, ?eraseBusy, ?writeBusy, ?checkBusy, ?commitBusy, ?applyBusy, ?applied, ?shown, ?blank, ?page, ?marked,
    ?refused, ?idle, ?records, ?notBoot, ?staged, ?noSlot, ?notVerify⟩
  case erase => exact fun s sl hsl himg hkey => ⟨_, run_true (decide_eq_true hsl), imgErase_starts himg hkey⟩
  case erased => exact fun s sl k hsl himg hkey hboot hk => ⟨_, run_true (decide_eq_true hsl), imgErase_erases himg hkey hboot hk⟩
  case write => exact fun s sl off d hsl himg hkey halign hoff => ⟨_, run_true (decide_eq_true hsl), imgWrite_starts himg hkey halign hoff d rfl⟩
  case badOffset => exact fun s sl off d hsl himg hkey hboot hoff => ⟨_, run_true (decide_eq_true hsl), imgWrite_of_bad_offset himg hkey hboot hoff d⟩
  case check =>
    intro s sl rule img hsl himg hkey
    obtain ⟨hrun, hvalid, -⟩ := State.imageCommand_starts himg hkey ⟨3, sl, 0, [], (s.verify sl false (s.ruleOf (s.flashNum sl 0x12 1) img rule)).1,
      (s.verify sl false (s.ruleOf (s.flashNum sl 0x12 1) img rule)).2.1, (s.verify sl false (s.ruleOf (s.flashNum sl 0x12 1) img rule)).2.2, img⟩
    exact ⟨_, run_true (decide_eq_true hsl), hrun, hvalid⟩
  case commit =>
    intro s sl hsl himg hkey
    obtain ⟨hrun, -⟩ := State.imageCommand_starts himg hkey (imgRunOf 4 sl (if (s.slotChecked sl).isNone then 0x0E else if s.isDelta sl then 0x0A else 0))
    refine ⟨_, run_true (decide_eq_true hsl), (congrArg (Option.map ImgRun.status) hrun).trans ?_⟩
    simp only [Option.map_some, imgRunOf, Option.isNone_iff_eq_none]
  case apply =>
    intro s sl img hsl himg hkey
    obtain ⟨hrun, -⟩ := State.imageCommand_starts himg hkey ⟨5, sl, 0, [], s.applyStatus sl ((s.slotChecked sl).getD img), 0, 0, (s.slotChecked sl).getD img⟩
    exact ⟨_, run_true (decide_eq_true hsl), congrArg (Option.map ImgRun.status) hrun⟩
  case eraseBusy => exact fun s sl hsl hruns => ⟨_, run_true (decide_eq_true hsl), imgErase_refused hruns rfl⟩
  case writeBusy => exact fun s sl off d hsl hruns => ⟨_, run_true (decide_eq_true hsl), imgWrite_refused hruns rfl⟩
  case checkBusy =>
    intro s sl rule img hsl hruns
    obtain ⟨hrun, hcount, -⟩ := State.imageCommand_refused hruns ⟨3, sl, 0, [], (s.verify sl false (s.ruleOf (s.flashNum sl 0x12 1) img rule)).1,
      (s.verify sl false (s.ruleOf (s.flashNum sl 0x12 1) img rule)).2.1, (s.verify sl false (s.ruleOf (s.flashNum sl 0x12 1) img rule)).2.2, img⟩ rfl
    exact ⟨_, run_true (decide_eq_true hsl), hrun, hcount⟩
  case commitBusy =>
    intro s sl hsl hruns
    obtain ⟨hrun, hcount, -⟩ := State.imageCommand_refused hruns (imgRunOf 4 sl (if (s.slotChecked sl).isNone then 0x0E else if s.isDelta sl then 0x0A else 0)) rfl
    exact ⟨_, run_true (decide_eq_true hsl), hrun, hcount⟩
  case applyBusy =>
    intro s sl img hsl hruns
    obtain ⟨hrun, hcount, -⟩ := State.imageCommand_refused hruns ⟨5, sl, 0, [], s.applyStatus sl ((s.slotChecked sl).getD img), 0, 0, (s.slotChecked sl).getD img⟩ rfl
    exact ⟨_, run_true (decide_eq_true hsl), hrun, hcount⟩
  case applied =>
    intro s r hrun hop hok
    have hagain := State.rechecked_of_apply (s := s) hop hok
    obtain ⟨hstatus, hvalid⟩ := imageCommandComplete_result hrun
    rw [hagain] at hstatus
    refine ⟨_, rfl, imageCommandComplete_imgRun hrun, hstatus, hvalid, or_iff_not_imp_left.2 fun hbad => ?_⟩
    obtain ⟨hA, hB, -, hregions, -⟩ := imageCommandComplete_of_refused hrun (by rw [hagain]; exact hbad) (by rw [hagain, hop]; decide) rfl
    exact ⟨hA, hB, hregions⟩
  case shown =>
    intro s r hrun hother
    obtain ⟨hstatus, hvalid⟩ := imageCommandComplete_result hrun
    rw [State.rechecked_of_other hother] at hstatus
    exact ⟨_, rfl, imageCommandComplete_imgRun hrun, hstatus, hvalid⟩
  case blank => exact fun s r k hrun hop _ hok hk => ⟨_, rfl, imageCommandComplete_erases hrun hop hok hk⟩
  case page => exact fun s r hrun hop _ hst => ⟨_, rfl, imageCommandComplete_programs hrun hop hst⟩
  case marked => exact fun s r hrun hop hok => ⟨_, rfl, imageCommandComplete_marks hrun hop hok rfl⟩
  case refused =>
    intro s r hrun hbad hop
    have hagain := State.rechecked_of_other (s := s) (r := r) (.inr hbad)
    exact ⟨_, rfl, imageCommandComplete_of_refused hrun (by rw [hagain]; exact hbad) (by rw [hagain]; exact hop) rfl⟩
  case idle =>
    intro s hnone
    refine congrArg Host.Outcome.next ?_
    unfold imageCommandComplete
    rw [hnone]
  case records => exact fun s hphase => ⟨_, rfl, bootRecordsRead_verifies hphase⟩
  case notBoot => exact fun s hphase => congrArg Host.Outcome.next (if_neg hphase)
  case staged => exact fun s ra rb ia ib hphase hstaged hready => ⟨_, rfl, bootVerifyResult_stages hphase hstaged hready rfl⟩
  case noSlot =>
    intro s ra rb ia ib hphase hstaged hnone
    have hnone : s.bootTakes ra rb ia ib = none := by
      unfold State.bootTakes
      rw [hnone]
      rfl
    refine ⟨_, congrArg Host.Outcome.next (bootVerifyResult_of_none hphase hstaged hnone), State.enterSafe_phase .., State.enterSafe_cause _ (by decide)⟩
  case notVerify =>
    intro s ra rb ia ib h
    refine congrArg Host.Outcome.next (if_pos ?_)
    exact h.imp id fun hstaged => Option.isSome_iff_ne_none.2 hstaged

end Sys2Proof.Machine

namespace Sys2Proof.Machine

-- Proofs are elaborated one after another: each proof thread costs the check 256 MB of stack.
set_option Elab.async false

set_option exponentiation.threshold 500

/-! ### Changes one after another -/

theorem Same.trans {p : StatePart} {s t u : State} (h : Same p s t) (h' : Same p t u) : Same p s u := by
  cases p with
  | reg k => exact fun i => (h' i).trans (h i)
  | field f => cases f <;> exact Eq.trans h' h

theorem Sub.testBit_false {a b n : Nat} (h : Sub a b) (hb : b.testBit n = false) : a.testBit n = false := by
  have := congrArg (fun x => x.testBit n) h
  simpa [hb] using this.symm

/-- A change within some parts, and then one within fewer, is a change within the parts. -/
theorem Only.trans {G H : Nat} {s t u : State} (h : Only G s t) (h' : Only H t u) (hsub : Sub H G := by decide) : Only G s u :=
  ⟨h'.1 ∘ h.1, fun p hp => (h.2 p hp).trans (h'.2 p (hsub.testBit_false hp))⟩

/-! ### A lane that is marked (R50 to R54, R130) -/

section KeepsEcho

/-- What a marked lane of a PCIe role changes: the lane map with the spare's record, the port's state, the lane pool, and what a cause of class 0 shows. -/
abbrev pairParts : Nat :=
  partsMask [.reg .PRT_LANE_MAP, .reg .PRT_LINK_STATUS, .reg .PRT_LANE_STAT, .reg .FLT_POOL, .reg .FLT_ACTIVE, .reg .PWR_MODE, .reg .FLT_REC0,
    .reg .FLT_REC1, .reg .FLT_REC2, .reg .FLT_REC3, .reg .FLT_STAT, .reg .MGT_EVT_STAT, .reg .CNT_VAL, .reg .MGT_EVT_REC, .field .blocks, .field .ports,
    .field .repairMap]

/-- What a marked lane changes, where a fabric link may ask for another lane set. -/
abbrev markParts : Nat :=
  partsMask [.reg .PRT_LANE_MAP, .reg .PRT_LINK_STATUS, .reg .PRT_LANE_STAT, .reg .FLT_POOL, .reg .FLT_ACTIVE, .reg .PWR_MODE, .reg .FLT_REC0,
    .reg .FLT_REC1, .reg .FLT_REC2, .reg .FLT_REC3, .reg .FLT_STAT, .reg .MGT_EVT_STAT, .reg .CNT_VAL, .reg .MGT_EVT_REC, .field .blocks, .field .ports,
    .field .repairMap, .reg .SFL_LINK_STAT, .field .out, .field .sflTx, .field .sfl]

variable {s t u : State} {b k p : Nat}

theorem State.markPair_corrected : Only pairParts s (s.markPair b k) := by
  unfold State.markPair
  extract_lets u1 x u2 u3 u4
  have hpend : Only pairParts s u3 :=
    State.dropIncrease_only rfl (State.updPend_only rfl (State.setBlock_only rfl (State.setBit_only rfl (Only.refl _ s))))
  have hcause : Only pairParts s u4 := State.recordCause_corrected rfl hpend
  exact Only.ite hcause (State.updLanePool_only rfl (State.recordCause_corrected rfl hcause))

theorem State.steer_corrected : Only pairParts s (s.steer p) := by
  unfold State.steer
  refine Only.ite (Only.refl _ s) (State.each_only (fun d v hv => ?_) (Only.refl _ s))
  extract_lets x w
  have hw : Only pairParts s w := State.setBlock_only rfl hv
  clear_value w
  split
  · extract_lets m y
    have hm : Only pairParts s m := hw.trans (State.mapSpare_corrected _ _ _ _)
    exact Only.ite (State.updPend_only rfl (State.setBlock_only rfl hm)) hw
  · exact hw

theorem State.inRecovery_corrected : Only pairParts s (s.inRecovery p) := by
  unfold State.inRecovery
  extract_lets u
  have hu : Only pairParts s u := State.set_only rfl (Only.refl _ s)
  clear_value u
  have hcounted : Only pairParts s ((u.count PRT_LINK_STATUS.RECOV_CNT p).tallyPort 9 p) := State.tallyPort_only rfl (State.count_only rfl hu)
  exact hcounted.trans State.steer_corrected

theorem State.enterRecovery_corrected : Only pairParts s (s.enterRecovery p) := by
  unfold State.enterRecovery
  refine Only.ite ?_ (Only.refl _ s)
  extract_lets u x
  have hu : Only pairParts s u := State.set_only rfl (Only.refl _ s)
  clear_value u
  have hport : Only pairParts s (u.setPort p { x with l0pTo := none, byBlock := false }) := State.setPort_only rfl hu
  exact hport.trans State.inRecovery_corrected

/-- What a TIMING unit answers with, and whether a NAK is due. -/
def SflLink.echo (x : SflLink) : Nat × Nat × Bool := (x.echoTx, x.echoRx, x.nakDue)

/-- Lanes were marked: every link keeps its echo times and its NAK. -/
structure KeepsEcho (s t : State) : Prop where
  parts : Only markParts s t
  echo : ∀ d, (t.link d).echo = (s.link d).echo

theorem KeepsEcho.refl (s : State) : KeepsEcho s s := ⟨Only.refl _ s, fun _ => rfl⟩

theorem KeepsEcho.trans (h : KeepsEcho s t) (h' : KeepsEcho t u) : KeepsEcho s u := ⟨h.parts.trans h'.parts, fun d => (h'.echo d).trans (h.echo d)⟩

/-- A change within the lanes and ports reaches no link. -/
theorem KeepsEcho.of_pairs (h : Only pairParts s t) : KeepsEcho s t := ⟨(Only.refl markParts s).trans h, fun d => congrArg SflLink.echo (h.link_eq d)⟩

theorem KeepsEcho.foldl {β : Type} {f : State → β → State} (hf : ∀ u y, KeepsEcho u (f u y)) (s : State) (l : List β) : KeepsEcho s (l.foldl f s) := by
  induction l generalizing s with
  | nil => exact .refl s
  | cons y l ih => exact (hf s y).trans (ih (f s y))

/-- A link replaced by one with its echo. -/
theorem State.setLink_keepsEcho {x : SflLink} (hx : x.echo = (s.link b).echo) : KeepsEcho s (s.setLink b x) := by
  refine ⟨State.setLink_only rfl (Only.refl _ s), fun d => ?_⟩
  by_cases h : d = b
  · rw [h, State.link_setLink, hx]
  · exact congrArg SflLink.echo (Tbl.rd_wr_other _ _ _ h)

theorem State.sendOn_keepsEcho (c : Nat) (x : Block) : KeepsEcho s (s.sendOn c x) :=
  ⟨State.sendOn_only rfl (Only.refl _ s), fun d => congrArg SflLink.echo ((State.sendOn_only (Sub.refl _) (Only.refl _ s)).link_eq d)⟩

theorem State.sendBlock_keepsEcho (x : Block) : KeepsEcho s (s.sendBlock b x) := by
  unfold State.sendBlock
  extract_lets lanes i last
  split
  · exact .refl s
  · extract_lets u v
    have hblock : KeepsEcho s u := State.sendOn_keepsEcho _ x
    have hrow : KeepsEcho u v := by
      dsimp only [v]
      split
      · exact .foldl (fun w c => State.sendOn_keepsEcho c idleBlock) u _
      · exact .refl u
    exact (hblock.trans hrow).trans (State.setLink_keepsEcho rfl)

theorem State.sendStream_keepsEcho (l : List Block) : KeepsEcho s (s.sendStream b l) := .foldl (fun _ x => State.sendBlock_keepsEcho x) s l

theorem State.emit_keepsEcho (o : Out) : KeepsEcho s (s.emit o) := ⟨State.emit_only rfl (Only.refl _ s), fun _ => rfl⟩

theorem State.sendCommand_keepsEcho (bits : Nat) : KeepsEcho s (s.sendCommand b bits) := by
  unfold State.sendCommand
  extract_lets x
  split
  · exact State.setLink_keepsEcho rfl
  · unfold State.emitCommand
    exact (State.emit_keepsEcho _).trans (State.sendStream_keepsEcho _)

theorem State.askLanes_keepsEcho (mask subst blk : Nat) : KeepsEcho s (s.askLanes b mask subst blk) := by
  unfold State.askLanes
  split
  · exact .refl s
  · extract_lets x c
    split
    · exact State.setLink_keepsEcho rfl
    · have hasked : KeepsEcho s (s.setLink b { x with asked := some c, epoch := c.epoch }) := State.setLink_keepsEcho rfl
      generalize s.setLink b { x with asked := some c, epoch := c.epoch } = v at hasked ⊢
      have hbusy : KeepsEcho v (v.set SFL_LINK_STAT.LANE_BUSY b 1) :=
        ⟨State.set_only rfl (Only.refl _ v), fun d => congrArg SflLink.echo (State.link_set ..)⟩
      exact (hasked.trans hbusy).trans (State.sendCommand_keepsEcho _)

theorem State.fabricMark_keepsEcho : KeepsEcho s (s.fabricMark b k) := by
  unfold State.fabricMark
  extract_lets d l mask
  split
  · exact .refl s
  · split
    · exact State.askLanes_keepsEcho ..
    · exact State.askLanes_keepsEcho ..

theorem State.markLane_keepsEcho : KeepsEcho s (s.markLane b k) := by
  unfold State.markLane
  extract_lets u p
  have hu : KeepsEcho s u := .of_pairs State.markPair_corrected
  refine hu.trans ?_
  clear_value u
  split
  · exact State.fabricMark_keepsEcho
  · split
    · exact .refl u
    · split
      · exact .of_pairs (Only.ite (State.askL0p_only rfl (Only.refl _ u)) (Only.refl _ u))
      · exact .of_pairs (Only.ite State.enterRecovery_corrected (Only.refl _ u))

theorem symbolWindowEnd_keepsEcho (symbols : Nat) : KeepsEcho s (symbolWindowEnd b k symbols s) := by
  unfold symbolWindowEnd
  extract_lets i n u v
  have hv : KeepsEcho s v := .of_pairs (State.set_only rfl (State.count_only rfl (Only.refl _ s)))
  refine hv.trans ?_
  clear_value v
  split
  · split
    · exact State.markLane_keepsEcho
    · exact .refl v
  · exact .refl v

/-- A unit slot that has passed: lanes may be marked. -/
theorem State.slotTaken_keepsEcho : KeepsEcho s (s.slotTaken b) := by
  unfold State.slotTaken
  extract_lets x u
  have hu : KeepsEcho s u := State.setLink_keepsEcho rfl
  split
  · exact hu.trans (.foldl (fun v c => symbolWindowEnd_keepsEcho 0) u _)
  · exact hu

end KeepsEcho

end Sys2Proof.Machine

namespace Sys2Proof.Machine

-- Proofs are elaborated one after another: each proof thread costs the check 256 MB of stack.
set_option Elab.async false

set_option exponentiation.threshold 500

/-! ### TIMING units (R125, R126, R407) -/

section TimingUnits

variable {s : State} {b : Nat} {blocks : List Block} {unit : List Byte} {bad : Bool}

theorem Only.timPeer_eq {G : Nat} {s t : State} (h : Only G s t) (b : Nat) (hG : G.testBit (256 + StateField.ctorIdx .timPeers) = false := by decide) :
    t.timPeer b = s.timPeer b :=
  congrArg (Tbl.rd (fun _ => none) · b) (h.2 (.field .timPeers) hG)

theorem Only.clk_eq {G : Nat} {s t : State} (h : Only G s t) (hG : G.testBit (256 + StateField.ctorIdx .clk) = false := by decide) : t.clk = s.clk :=
  h.2 (.field .clk) hG

theorem State.timPeer_setPeer (s : State) (b : Nat) (p : Option TimePeer) : (s.setPeer b p).timPeer b = p := Tbl.rd_wr_self ..

/-- What a unit slot that has passed changes: the receiver's lanes, and what marked lanes change. -/
abbrev passedParts : Nat :=
  partsMask [.reg .PRT_LANE_MAP, .reg .PRT_LINK_STATUS, .reg .PRT_LANE_STAT, .reg .FLT_POOL, .reg .FLT_ACTIVE, .reg .PWR_MODE, .reg .FLT_REC0,
    .reg .FLT_REC1, .reg .FLT_REC2, .reg .FLT_REC3, .reg .FLT_STAT, .reg .MGT_EVT_STAT, .reg .CNT_VAL, .reg .MGT_EVT_REC, .field .blocks, .field .ports,
    .field .repairMap, .reg .SFL_LINK_STAT, .field .out, .field .sflTx, .field .sfl, .reg .SFL_LANE_STAT, .field .sflLanes]

/-- A unit slot passes: the port's link keeps its echo times and its NAK, whatever symbol windows end with it. -/
theorem State.unit_passes_keepsEcho (s : State) (b : Nat) (blocks : List Block) : Only passedParts s ((s.takeUnit b blocks).1.slotTaken b) ∧
    (((s.takeUnit b blocks).1.slotTaken b).link b).echo = (s.link b).echo := by
  have htaken : Only passedParts s (s.takeUnit b blocks).1 := State.takeUnit_only rfl (Only.refl _ s)
  obtain ⟨n, hlink⟩ := s.link_takeUnit b blocks
  have hslot : KeepsEcho (s.takeUnit b blocks).1 ((s.takeUnit b blocks).1.slotTaken b) := State.slotTaken_keepsEcho
  exact ⟨htaken.trans hslot.parts, (hslot.echo b).trans (by rw [hlink]; rfl)⟩

/-- A TIMING unit that fails is counted in TIMING_BAD, and nothing of it is taken. -/
theorem timingUnitReceived_of_bad (arr : Nat) (hup : s.sflUp b = true) (hunit : (s.takeUnit b blocks).2 = (unit, bad)) (hbad : bad = true ∨ unitOk 0xFFFF unit = false) :
    timingUnitReceived b blocks arr s = ((s.takeUnit b blocks).1.slotTaken b).count SFL_LINK_CNT2.TIMING_BAD b := by
  have hfails : (bad || !unitOk 0xFFFF unit || unitField unit 1 0 ≠ 3) = true := by rcases hbad with h | h <;> simp [h]
  have hcounted : ∀ u : State, u.timingTaken b unit bad = u.count SFL_LINK_CNT2.TIMING_BAD b := fun u => if_pos hfails
  unfold timingUnitReceived
  dsimp only
  rw [if_neg (by simp [hup]), hunit, if_pos hfails, hcounted]

/-- The count of a unit that fails leaves the echo times, the NAK and the peer as they were when the slot passed. -/
theorem State.countBad_shows {u : State} (hpassed : Only passedParts s u) (hecho : (u.link b).echo = (s.link b).echo) :
    (u.count SFL_LINK_CNT2.TIMING_BAD b).get SFL_LINK_CNT2.TIMING_BAD b = satAdd SFL_LINK_CNT2.TIMING_BAD.width (s.get SFL_LINK_CNT2.TIMING_BAD b) 1 ∧
      ((u.count SFL_LINK_CNT2.TIMING_BAD b).link b).echoTx = (s.link b).echoTx ∧ ((u.count SFL_LINK_CNT2.TIMING_BAD b).link b).nakDue = (s.link b).nakDue ∧
      (u.count SFL_LINK_CNT2.TIMING_BAD b).timPeer b = s.timPeer b := by
  have hcounted : Only (partsMask [.reg .SFL_LINK_CNT2]) u (u.count SFL_LINK_CNT2.TIMING_BAD b) := State.count_only rfl (Only.refl _ u)
  rw [State.get_count _ _ _ (by decide), State.link_count, hpassed.get_eq SFL_LINK_CNT2.TIMING_BAD, hcounted.timPeer_eq]
  exact ⟨rfl, congrArg Prod.fst hecho, congrArg (fun e => e.2.2) hecho, hpassed.timPeer_eq b⟩

/-! A good unit -/

/-- RTT from the times of a unit and its arrival. -/
def unitRtt (unit : List Byte) (arr : Nat) : Int :=
  (ptpUnits arr - ptpUnits (unitTime unit 16)) - (ptpUnits (unitTime unit 4) - ptpUnits (unitTime unit 28))

/-- The times that a good unit leaves to be echoed, with RTT and the thresholds that follow it. -/
def State.echoUnit (s : State) (b : Nat) (unit : List Byte) (arr : Nat) : State :=
  ((s.setLink b { s.link b with echoTx := unitTime unit 4, echoRx := arr }).set SFL_LINK_STAT.RTT b ((unitRtt unit arr).tdiv (2 ^ 16)).toNat).updThresholds b

/-- What a good unit received at a time says of its sender. -/
def unitPeer (now : Nat) (unit : List Byte) : TimePeer :=
  ⟨now, ofBytes ((unit.drop 40).take 1), bitOf (ofBytes ((unit.drop 41).take 1)) 0, bitOf (ofBytes ((unit.drop 41).take 1)) 1,
    ofBytes ((unit.drop 42).take 1), ofBytes ((unit.drop 44).take 4), ofBytes ((unit.drop 48).take 4)⟩

/-- What the partner says of time is kept. -/
def State.hearPeer (s : State) (b : Nat) (unit : List Byte) : State := s.setPeer b (some (unitPeer s.clk unit))

/-- The upstream follows what its partner says, and takes a sample on its link. -/
def State.followPeer (s : State) (b : Nat) (unit : List Byte) (arr : Nat) : State :=
  let s := (s.tally 0x384 (b / 16) (b % 16) b).updUpstream
  if s.flag TIM_STAT.ROOT 0 ∨ s.get TIM_STAT.UP_PORT 0 ≠ 2 * b then s
  else s.timingSample (ptpUnits arr - (ptpUnits (unitTime unit 4) + (unitRtt unit arr).tdiv 2 + signed16 (s.get TIM_ASYM.ASYM (2 * b)) * 2 ^ 12))

theorem timingUnitReceived_of_good (arr : Nat) (hup : s.sflUp b = true) (hunit : (s.takeUnit b blocks).2 = (unit, false)) (hok : unitOk 0xFFFF unit = true)
    (hkind : unitField unit 1 0 = 3) : timingUnitReceived b blocks arr s =
      (((((s.takeUnit b blocks).1.slotTaken b).timingTaken b unit false).echoUnit b unit arr).hearPeer b unit).followPeer b unit arr := by
  unfold timingUnitReceived
  dsimp only
  rw [if_neg (by simp [hup]), hunit, if_neg (by simp [hok, hkind])]
  rfl

theorem State.echoUnit_shows (s : State) (b : Nat) (unit : List Byte) (arr : Nat) :
    ((s.echoUnit b unit arr).link b).echoTx = unitTime unit 4 ∧ ((s.echoUnit b unit arr).link b).echoRx = arr ∧ (s.echoUnit b unit arr).clk = s.clk := by
  have hclk : (s.echoUnit b unit arr).clk = s.clk :=
    (State.updThresholds_only (Sub.refl _) (Only.refl _ _)).clk_eq.trans
      (State.set_only (G := RegKind.mask .SFL_LINK_STAT) rfl (Only.refl _ (s.setLink b { s.link b with echoTx := unitTime unit 4, echoRx := arr }))).clk_eq
  have hlink : (s.echoUnit b unit arr).link b = { s.link b with echoTx := unitTime unit 4, echoRx := arr } := by
    unfold State.echoUnit
    rw [(State.updThresholds_only (Sub.refl _) (Only.refl _ _)).link_eq, State.link_set, State.link_setLink]
  rw [hlink]
  exact ⟨rfl, rfl, hclk⟩

theorem State.hearPeer_only : Only (partsMask [.field .timPeers]) s (s.hearPeer b unit) := State.setPeer_only rfl (Only.refl _ s)

theorem State.hearPeer_timPeer : (s.hearPeer b unit).timPeer b = some (unitPeer s.clk unit) := s.timPeer_setPeer b _

theorem State.followPeer_only {arr : Nat} :
    Only (partsMask [.reg .CNT_VAL, .reg .TIM_STAT, .reg .TIM_OFFSET, .field .servo]) s (s.followPeer b unit arr) := by
  unfold State.followPeer
  extract_lets u
  have hu : Only (partsMask [.reg .CNT_VAL, .reg .TIM_STAT, .reg .TIM_OFFSET, .field .servo]) s u := State.updUpstream_only rfl (State.tally_only rfl (Only.refl _ s))
  exact Only.ite hu (State.timingSample_only rfl hu)

/-- A good TIMING unit: what is echoed is what it says and when it arrived, and the partner is heard now. -/
theorem timingUnitReceived_echoes {arr : Nat} (hup : s.sflUp b = true) (hunit : (s.takeUnit b blocks).2 = (unit, false)) (hok : unitOk 0xFFFF unit = true)
    (hkind : unitField unit 1 0 = 3) :
    ((timingUnitReceived b blocks arr s).link b).echoTx = unitTime unit 4 ∧ ((timingUnitReceived b blocks arr s).link b).echoRx = arr ∧
      (timingUnitReceived b blocks arr s).timPeer b = some (unitPeer s.clk unit) := by
  rw [timingUnitReceived_of_good arr hup hunit hok hkind, State.followPeer_only.link_eq, State.followPeer_only.timPeer_eq, State.hearPeer_timPeer,
    State.hearPeer_only.link_eq]
  have htaken := State.timingTaken_only (s := (s.takeUnit b blocks).1.slotTaken b) (b := b) (unit := unit) (bad := false) (Sub.refl _) (Only.refl _ _)
  have hclk : (((s.takeUnit b blocks).1.slotTaken b).timingTaken b unit false).clk = s.clk := htaken.clk_eq.trans (s.unit_passes_keepsEcho b blocks).1.clk_eq
  obtain ⟨htx, hrx, hnow⟩ := (((s.takeUnit b blocks).1.slotTaken b).timingTaken b unit false).echoUnit_shows b unit arr
  exact ⟨htx, hrx, by rw [hnow, hclk]⟩

end TimingUnits
end Sys2Proof.Machine

namespace Sys2Proof.Machine

-- Proofs are elaborated one after another: each proof thread costs the check 256 MB of stack.
set_option Elab.async false

set_option exponentiation.threshold 500

/-! ### The servo (R403, R404) -/

section ServoUpdates

variable {s t : State}

theorem Only.servo_eq {G : Nat} {s t : State} (h : Only G s t) (hG : G.testBit (256 + StateField.ctorIdx .servo) = false := by decide) : t.servo = s.servo :=
  h.2 (.field .servo) hG

theorem Only.tim_eq {G : Nat} {s t : State} (h : Only G s t) (hG : G.testBit (256 + StateField.ctorIdx .tim) = false := by decide) : t.tim = s.tim :=
  h.2 (.field .tim) hG

theorem bits32_lt (n : Int) : bits32 n < 2 ^ 32 := by
  unfold bits32
  omega

/-- A step of the counter is counted, and changes of the servo only the time of its last update. -/
theorem State.stepTime_shows (d : Int) (ht : t = s.stepTime d) :
    t.tim = FabTime.ofTotal (s.tim.total + d) ∧ t.servo = { s.servo with last := s.servo.last + d } ∧
      t.get TIM_STAT.STEPS 0 = satAdd 16 (s.get TIM_STAT.STEPS 0) 1 ∧ t.get TIM_STAT.STATE 0 = s.get TIM_STAT.STATE 0 := by
  unfold State.stepTime at ht
  extract_lets u v at ht
  have hcause : Only _ (v.count TIM_STAT.STEPS 0) t := ht ▸ State.cause_only (Sub.refl _) (Only.refl _ _)
  have hreg : ∀ i, (v.count TIM_STAT.STEPS 0).reg .TIM_STAT i = ((s.count TIM_STAT.STEPS 0)).reg .TIM_STAT i := fun _ => rfl
  refine ⟨hcause.tim_eq, hcause.servo_eq, ?_, ?_⟩
  · exact (hcause.get_eq TIM_STAT.STEPS 0).trans (s.get_count 0 1 (by decide))
  · exact (hcause.get_eq TIM_STAT.STATE 0).trans (s.get_set_bits 0 0 _ (by decide) (by decide))

/-- The counter corrected: the servo's state and its row of small updates stay, and the first update leaves no slew. -/
theorem State.correct_shows (theta : Int) (ht : t = s.correct theta) :
    t.servo.good = s.servo.good ∧ t.get TIM_STAT.STATE 0 = s.get TIM_STAT.STATE 0 ∧ (s.servo.first = true → t.get TIM_FREQ.SLEW 0 = 0) := by
  unfold State.correct at ht
  extract_lets q f at ht
  split at ht
  case isTrue =>
    obtain ⟨-, hservo, -, hstate⟩ := State.stepTime_shows (s := s) (-theta * 2 ^ 32) rfl
    generalize s.stepTime (-theta * 2 ^ 32) = u at ht hservo hstate
    have hslew : Only (partsMask [.reg .TIM_FREQ]) u t := ht ▸ State.set_only rfl (Only.refl _ u)
    refine ⟨?_, (hslew.get_eq TIM_STAT.STATE 0).trans hstate, fun _ => ?_⟩
    · rw [hslew.servo_eq, hservo]
    · rw [ht, State.get_set_fits _ _ (by decide) (by decide)]
  case isFalse hsmall =>
    have hfreq : Only (partsMask [.reg .TIM_FREQ]) s t := ht ▸ State.set_only rfl (State.set_only rfl (Only.refl _ s))
    exact ⟨congrArg Servo.good hfreq.servo_eq, hfreq.get_eq TIM_STAT.STATE 0, fun hfirst => absurd (by simp [hfirst]) hsmall⟩

/-! One update, in its four parts -/

/-- A reference that was lost, or a servo that ran free, is acquired anew. -/
def State.regain (s : State) : State :=
  if s.servoState = 3 then s.acquire.notice 480 0 0 else if s.servoState = 0 then s.acquire else s

/-- How many updates in a row have been below 20 ns, this one among them. -/
def State.goodUpdates (s : State) (theta : Int) : Nat := if |theta| < 20 * 2 ^ 16 then s.servo.good + 1 else 0

/-- The update is used up and shown in TIM_OFFSET. -/
def State.showOffset (s : State) (theta : Int) : State :=
  ((s.modServo fun x => { x with first := false, good := s.goodUpdates theta, last := s.tim.total, due := none }).set TIM_OFFSET.THETA 0
    (bits32 (theta.tdiv (2 ^ 12)))).resultDone TIM_OFFSET.SEQ TIM_OFFSET.VALID 0

/-- The servo locks or acquires again by its row of good updates. -/
def State.settleLock (s : State) (theta : Int) (good : Nat) : State :=
  if s.servoState = 1 ∧ 8 ≤ good then s.set TIM_STAT.STATE 0 2
  else if s.servoState = 2 ∧ 100 * 2 ^ 16 < |theta| then s.acquire
  else s

theorem servoUpdate_of_due {theta : Int} (hdue : s.servo.due = some theta) :
    servoUpdate s = ((s.regain.correct theta).showOffset theta).settleLock theta ((s.regain.correct theta).goodUpdates theta) := by
  unfold servoUpdate
  rw [hdue]
  rfl

theorem servoUpdate_of_none (hdue : s.servo.due = none) : servoUpdate s = s := by
  unfold servoUpdate
  rw [hdue]

theorem State.regain_only : Only (partsMask [.reg .TIM_STAT, .reg .MGT_EVT_STAT, .reg .CNT_VAL, .reg .MGT_EVT_REC, .field .servo]) s s.regain :=
  Only.ite (State.notice_only rfl (State.acquire_only rfl (Only.refl _ s))) (Only.ite (State.acquire_only rfl (Only.refl _ s)) (Only.refl _ s))

/-- A servo whose next update is its first stays so. -/
theorem State.regain_first (hfirst : s.servo.first = true) : s.regain.servo.first = true := by
  have hnotice : (s.acquire.notice 480 0 0).servo = s.acquire.servo := (State.notice_only (Sub.refl _) (Only.refl _ _)).servo_eq
  unfold State.regain
  split
  · rw [hnotice]
    rfl
  · split
    · rfl
    · exact hfirst

theorem State.regain_of_acquiring (hstate : s.servoState = 1) : s.regain = s := by
  unfold State.regain
  rw [if_neg (by omega), if_neg (by omega)]

theorem State.showOffset_shows (theta : Int) (ht : t = s.showOffset theta) :
    t.servo.due = none ∧ t.get TIM_OFFSET.THETA 0 = bits32 (theta.tdiv (2 ^ 12)) ∧ t.get TIM_OFFSET.SEQ 0 = (s.get TIM_OFFSET.SEQ 0 + 1) % 256 ∧
      t.get TIM_OFFSET.VALID 0 = 1 := by
  subst ht
  unfold State.showOffset
  refine ⟨rfl, ?_, ?_, State.resultDone_valid _ _ (by decide)⟩
  · rw [State.resultDone_other _ _ _ (by decide) (by decide) (by decide) (by decide), State.get_set_fits _ _ (by decide) (bits32_lt _)]
  · rw [State.resultDone_seq _ _ (by decide) (by decide) (by decide), State.get_set_bits _ _ _ _ (by decide) (by decide)]
    rfl

theorem State.showOffset_only (theta : Int) : Only (partsMask [.reg .TIM_OFFSET, .field .servo]) s (s.showOffset theta) :=
  State.resultDone_only rfl rfl (State.set_only rfl (State.modServo_only rfl (Only.refl _ s)))

theorem State.settleLock_only (theta : Int) (good : Nat) : Only (partsMask [.reg .TIM_STAT, .field .servo]) s (s.settleLock theta good) :=
  Only.ite (State.set_only rfl (Only.refl _ s)) (Only.ite (State.acquire_only rfl (Only.refl _ s)) (Only.refl _ s))

theorem State.settleLock_due (theta : Int) (good : Nat) : (s.settleLock theta good).servo.due = s.servo.due := by
  unfold State.settleLock
  split
  · rfl
  · split
    · rfl
    · rfl

theorem State.settleLock_locks {theta : Int} {good : Nat} (hstate : s.servoState = 1) (hgood : 8 ≤ good) :
    (s.settleLock theta good).get TIM_STAT.STATE 0 = 2 := by
  unfold State.settleLock
  rw [if_pos ⟨hstate, hgood⟩, State.get_set_fits _ _ (by decide) (by decide)]

/-- An update is used up and shown as a new result; the first one since ACQUIRE leaves no slew. -/
theorem servoUpdate_shows {theta : Int} (hdue : s.servo.due = some theta) :
    (servoUpdate s).servo.due = none ∧ (servoUpdate s).get TIM_OFFSET.THETA 0 = bits32 (theta.tdiv (2 ^ 12)) ∧
      (servoUpdate s).get TIM_OFFSET.SEQ 0 = (s.get TIM_OFFSET.SEQ 0 + 1) % 256 ∧ (servoUpdate s).get TIM_OFFSET.VALID 0 = 1 ∧
      (s.servo.first = true → (servoUpdate s).get TIM_FREQ.SLEW 0 = 0) := by
  have hregained : Only _ s s.regain := State.regain_only
  have hcorrected : Only _ s.regain (s.regain.correct theta) := State.correct_only (Sub.refl _) (Only.refl _ _)
  obtain ⟨-, -, hslew⟩ := State.correct_shows (s := s.regain) theta rfl
  rw [servoUpdate_of_due hdue]
  have hseq : (s.regain.correct theta).get TIM_OFFSET.SEQ 0 = s.get TIM_OFFSET.SEQ 0 := (hcorrected.get_eq ..).trans (hregained.get_eq ..)
  generalize s.regain.correct theta = u at hslew hseq ⊢
  have hshown : Only _ u (u.showOffset theta) := State.showOffset_only theta
  obtain ⟨hnone, htheta, hnext, hvalid⟩ := State.showOffset_shows (s := u) theta rfl
  generalize u.showOffset theta = v at hshown hnone htheta hnext hvalid ⊢
  have hsettled : Only _ v (v.settleLock theta (u.goodUpdates theta)) := State.settleLock_only ..
  rw [State.settleLock_due, hsettled.get_eq TIM_OFFSET.THETA, hsettled.get_eq TIM_OFFSET.SEQ, hsettled.get_eq TIM_OFFSET.VALID, hsettled.get_eq TIM_FREQ.SLEW,
    hshown.get_eq TIM_FREQ.SLEW]
  exact ⟨hnone, htheta, hseq ▸ hnext, hvalid, fun hfirst => hslew (s.regain_first hfirst)⟩

/-- The eighth small update in a row locks a servo that acquires. -/
theorem servoUpdate_locks {theta : Int} (hdue : s.servo.due = some theta) (hstate : s.servoState = 1) (hgood : 7 ≤ s.servo.good) (hsmall : |theta| < 20 * 2 ^ 16) :
    (servoUpdate s).get TIM_STAT.STATE 0 = 2 := by
  obtain ⟨hrow, hkept, -⟩ := State.correct_shows (s := s) theta rfl
  rw [servoUpdate_of_due hdue, State.regain_of_acquiring hstate]
  generalize s.correct theta = u at hrow hkept ⊢
  have hshown : Only _ u (u.showOffset theta) := State.showOffset_only theta
  refine State.settleLock_locks (((hshown.get_eq TIM_STAT.STATE 0).trans hkept).trans hstate) ?_
  unfold State.goodUpdates
  rw [if_pos hsmall, hrow]
  omega

end ServoUpdates
end Sys2Proof.Machine

namespace Sys2Proof.Machine

-- Proofs are elaborated one after another: each proof thread costs the check 256 MB of stack.
set_option Elab.async false

set_option exponentiation.threshold 500

/-! ### References (R404 to R406) -/

section References

variable {s t : State}

theorem Only.ptpBest_eq {G : Nat} (h : Only G s t) (hG : G.testBit (256 + StateField.ctorIdx .ptpBest) = false := by decide) : t.ptpBest = s.ptpBest :=
  h.2 (.field .ptpBest) hG

theorem Only.ptpAt_eq {G : Nat} (h : Only G s t) (hG : G.testBit (256 + StateField.ctorIdx .ptpAt) = false := by decide) : t.ptpAt = s.ptpAt :=
  h.2 (.field .ptpAt) hG

theorem ptpSync_of_none (domain sender t1 t3 t4 : Nat) (hbest : s.ptpBest = none) : ptpSync domain sender t1 t3 t4 s = s.tallyChip 4 := by
  have hkept : (s.tallyChip 4).ptpBest = none := (State.tallyChip_only (Sub.refl _) (Only.refl _ s)).ptpBest_eq.trans hbest
  unfold ptpSync
  dsimp only
  rw [hkept]

/-- A Sync message of the selected master is the root's next update where SRC is PTP. -/
theorem ptpSync_samples {m : PtpMaster} {t1 t3 t4 : Nat} (hbest : s.ptpBest = some m) (hdomain : m.domain = s.get TIM_CFG.PTP_DOMAIN 0)
    (hroot : s.flag TIM_STAT.ROOT 0 = true) (hsrc : s.get TIM_CFG.SRC 0 = 1)
    (ht : t = ptpSync m.domain m.sender t1 t3 t4 s) :
    t.servo.due = some (ptpOffset t1 (s.time / 2 ^ 12 * 2 ^ 12) t3 t4) ∧ t.ptpAt = some s.clk := by
  have hcounted : Only _ s (s.tallyChip 4) := State.tallyChip_only (Sub.refl _) (Only.refl _ s)
  have hmaster : (s.tallyChip 4).ptpBest = some m := hcounted.ptpBest_eq.trans hbest
  have htime : (s.tallyChip 4).time = s.time := congrArg FabTime.ptp hcounted.tim_eq
  have hclk : (s.tallyChip 4).clk = s.clk := hcounted.clk_eq
  rw [← hcounted.get_eq TIM_CFG.PTP_DOMAIN] at hdomain
  rw [State.flag, ← hcounted.get_eq TIM_STAT.ROOT] at hroot
  rw [← hcounted.get_eq TIM_CFG.SRC] at hsrc
  unfold ptpSync at ht
  generalize s.tallyChip 4 = w at hmaster htime hclk hdomain hroot hsrc ht
  extract_lets u theta v at ht
  have hmaster' : u.ptpBest = some m := hmaster
  have hroot' : v.flag TIM_STAT.ROOT 0 = true := hroot
  have hsrc' : v.get TIM_CFG.SRC 0 = 1 := hsrc
  have htheta : theta = ptpOffset t1 (s.time / 2 ^ 12 * 2 ^ 12) t3 t4 := congrArg (fun n => ptpOffset t1 (n / 2 ^ 12 * 2 ^ 12) t3 t4) htime
  have hnow : v.ptpAt = some s.clk := congrArg some hclk
  rw [hmaster'] at ht
  dsimp only at ht
  rw [if_neg (by simp [u, hdomain]), if_neg (by rw [hroot']; decide), hsrc'] at ht
  rw [ht, ← htheta, ← hnow]
  exact ⟨rfl, rfl⟩

/-- An edge of PPS_IN is the update of a root that uses it. -/
theorem ppsInEdge_shows : (ppsInEdge s).get TIM_STAT.PPS_OK 0 = 1 ∧ (s.flag TIM_STAT.ROOT 0 = true → 2 ≤ s.get TIM_CFG.SRC 0 →
    (ppsInEdge s).servo.due = some ((if s.tim.ns < 500000000 then (s.tim.ns : Int) else (s.tim.ns : Int) - 1000000000) * 2 ^ 16)) := by
  have hroot : (s.set TIM_STAT.PPS_OK 0 1).get TIM_STAT.ROOT 0 = s.get TIM_STAT.ROOT 0 := State.get_set_bits _ _ _ _ (by decide) (by decide)
  have hsrc : (s.set TIM_STAT.PPS_OK 0 1).get TIM_CFG.SRC 0 = s.get TIM_CFG.SRC 0 := State.get_set_kind _ _ _ _ (by decide)
  have hok : (s.set TIM_STAT.PPS_OK 0 1).get TIM_STAT.PPS_OK 0 = 1 := State.get_set_fits _ _ (by decide) (by decide)
  unfold ppsInEdge State.flag
  dsimp only
  rw [hroot, hsrc]
  refine ⟨?_, fun hflag hused => ?_⟩
  · split
    · exact hok
    · exact hok
  · rw [if_pos ⟨hflag, hused⟩]
    rfl

theorem State.holdover_shows (ht : t = s.holdover) : t.get TIM_STAT.STATE 0 = 3 ∧ t.ptpAt = s.ptpAt ∧ t.get TIM_STAT.PPS_OK 0 = s.get TIM_STAT.PPS_OK 0 := by
  unfold State.holdover at ht
  split at ht
  case isTrue hheld =>
    subst ht
    exact ⟨hheld, rfl, rfl⟩
  case isFalse =>
    have hset : (s.set TIM_STAT.STATE 0 3).get TIM_STAT.STATE 0 = 3 := State.get_set_fits _ _ (by decide) (by decide)
    have hpps : (s.set TIM_STAT.STATE 0 3).get TIM_STAT.PPS_OK 0 = s.get TIM_STAT.PPS_OK 0 := State.get_set_bits _ _ _ _ (by decide) (by decide)
    have hat : (s.set TIM_STAT.STATE 0 3).ptpAt = s.ptpAt := rfl
    generalize s.set TIM_STAT.STATE 0 3 = u at hset hpps hat ht
    have hrest : Only (partsMask [.reg .TIM_FREQ, .reg .MGT_EVT_STAT, .reg .CNT_VAL, .reg .MGT_EVT_REC, .field .servo]) u t :=
      ht ▸ State.notice_only rfl (State.modServo_only rfl (State.set_only rfl (Only.refl _ u)))
    exact ⟨(hrest.get_eq ..).trans hset, hrest.ptpAt_eq.trans hat, (hrest.get_eq ..).trans hpps⟩

theorem timeReferenceLoss_of_ptp (hroot : s.flag TIM_STAT.ROOT 0 = true) (hsrc : s.get TIM_CFG.SRC 0 = 1) :
    timeReferenceLoss 0 s = State.holdover { s with ptpAt := none } := by
  unfold timeReferenceLoss
  dsimp only
  rw [if_pos rfl, if_pos ⟨hroot, hsrc⟩]

theorem timeReferenceLoss_of_pps (hroot : s.flag TIM_STAT.ROOT 0 = true) (hsrc : 2 ≤ s.get TIM_CFG.SRC 0) :
    timeReferenceLoss 1 s = (s.set TIM_STAT.PPS_OK 0 0).holdover := by
  unfold timeReferenceLoss
  dsimp only
  rw [if_neg (by decide), if_pos rfl, if_pos ⟨hroot, hsrc⟩]

/-- The first master heard in the client's domain is selected. -/
theorem ptpAnnounce_selects {m : PtpMaster} (hdomain : m.domain = s.get TIM_CFG.PTP_DOMAIN 0) (hbest : s.ptpBest = none) :
    (ptpAnnounce m s).ptpBest = some m ∧ (ptpAnnounce m s).get TIM_STAT.PTP_OK 0 = 1 := by
  have hcounted : Only _ s (s.tallyChip 4) := State.tallyChip_only (Sub.refl _) (Only.refl _ s)
  have hkept : (s.tallyChip 4).ptpBest = none := hcounted.ptpBest_eq.trans hbest
  unfold ptpAnnounce
  dsimp only
  rw [if_neg (by rw [hcounted.get_eq TIM_CFG.PTP_DOMAIN]; exact not_not_intro hdomain), hkept]
  exact ⟨rfl, State.get_set_fits _ _ (by decide) (by decide)⟩

theorem ptpAnnounce_of_other {m : PtpMaster} (hdomain : m.domain ≠ s.get TIM_CFG.PTP_DOMAIN 0) : ptpAnnounce m s = s.tallyChip 4 := by
  unfold ptpAnnounce
  dsimp only
  rw [if_pos (by rwa [(State.tallyChip_only (Sub.refl _) (Only.refl _ s)).get_eq TIM_CFG.PTP_DOMAIN])]

end References
end Sys2Proof.Machine

namespace Sys2Proof.Machine

-- Proofs are elaborated one after another: each proof thread costs the check 256 MB of stack.
set_option Elab.async false

set_option exponentiation.threshold 500

/-! ### TIM_SET and TIM_ADJ (R406) -/

/-- A counter of 96 bits is the one that its total gives. -/
theorem FabTime.ofTotal_total (v : FabTime) (hsec : v.sec < 2 ^ 48) (hns : v.ns < 1000000000) (hfrac : v.frac < 2 ^ 48) : FabTime.ofTotal v.total = v := by
  have htotal : v.total.toNat = (v.sec * 1000000000 + v.ns) * 2 ^ 48 + v.frac := by
    unfold FabTime.total
    omega
  have hwhole : v.total.toNat / 2 ^ 48 = v.sec * 1000000000 + v.ns := by omega
  have hpart : v.total.toNat % 2 ^ 48 = v.frac := by omega
  unfold FabTime.ofTotal
  dsimp only
  rw [hwhole, hpart, show (v.sec * 1000000000 + v.ns) / 1000000000 % 2 ^ 48 = v.sec by omega, show (v.sec * 1000000000 + v.ns) % 1000000000 = v.ns by omega]

section Steps

variable {s t : State}

theorem State.timSetValue_bounds (s : State) : s.timSetValue.sec < 2 ^ 48 ∧ s.timSetValue.frac < 2 ^ 48 := by
  have hlo : (s.reg .TIM_SET_LO 0).toNat < 2 ^ 64 := (s.reg .TIM_SET_LO 0).isLt
  have hhi : s.get TIM_SET_HI.VAL 0 < 2 ^ 32 := s.get_lt 0 TIM_SET_HI.VAL
  unfold State.timSetValue
  dsimp only
  omega

theorem timSet_of_root (hroot : s.actsAsRoot = true) (hns : s.timSetValue.ns < 1000000000) : timSet s = s.stepTime (s.timSetValue.total - s.tim.total) := by
  unfold timSet
  dsimp only
  rw [if_neg (by rw [hroot]; simpa using hns)]

theorem timSet_of_other (hroot : s.actsAsRoot = false) : timSet s = s.refuseWrite .TIM_CMD 0 := by
  unfold timSet
  dsimp only
  rw [if_pos (.inl (by rw [hroot]; rfl))]

/-- TIM_SET taken is a counted step to its value. -/
theorem timSet_sets (hroot : s.actsAsRoot = true) (hns : s.timSetValue.ns < 1000000000) :
    (timSet s).tim = s.timSetValue ∧ (timSet s).get TIM_STAT.STEPS 0 = satAdd 16 (s.get TIM_STAT.STEPS 0) 1 := by
  obtain ⟨hsec, hfrac⟩ := s.timSetValue_bounds
  obtain ⟨htim, -, hsteps, -⟩ := State.stepTime_shows (s := s) (s.timSetValue.total - s.tim.total) rfl
  rw [timSet_of_root hroot hns, htim, hsteps, add_sub_cancel, FabTime.ofTotal_total _ hsec hns hfrac]
  exact ⟨rfl, rfl⟩

theorem timAdj_of_root {adj : Nat} (hroot : s.actsAsRoot = true) (hadj : 0 ≤ s.tim.total + signed32 (adj % 2 ^ 32) * 2 ^ 48) :
    timAdj adj s = s.stepTime (signed32 (adj % 2 ^ 32) * 2 ^ 48) := by
  unfold timAdj
  dsimp only
  rw [if_neg (by rw [hroot]; simpa using hadj)]

theorem timAdj_below_zero {adj : Nat} (hadj : s.tim.total + signed32 (adj % 2 ^ 32) * 2 ^ 48 < 0) : timAdj adj s = s.refuseWrite .TIM_CMD 0 := by
  unfold timAdj
  dsimp only
  rw [if_pos (.inr hadj)]

end Steps

/-! ### The upstream of a worker (R407) -/

section Upstream

variable {s t : State} {p : Nat}

/-- The candidates of the 64 blocks, each with its block. -/
def State.upCandidates (s : State) : List (Nat × TimePeer) := (List.range 64).filterMap fun b => (s.upCandidate b).map fun t => (b, t)

theorem State.mem_upCandidates {x : Nat × TimePeer} (h : x ∈ s.upCandidates) : x.1 < 64 ∧ s.upCandidate x.1 = some x.2 := by
  obtain ⟨b, hb, hx⟩ := List.mem_filterMap.1 h
  obtain ⟨y, hy, rfl⟩ := Option.map_eq_some_iff.1 hx
  exact ⟨List.mem_range.1 hb, hy⟩

/-- The upstream chosen is one of the candidates. -/
theorem State.bestUpstream_mem {x : Nat × TimePeer} (h : s.bestUpstream = some x) : x ∈ s.upCandidates := by
  unfold State.bestUpstream at h
  revert x
  refine List.foldlRecOn (motive := fun best => ∀ {x}, best = some x → x ∈ s.upCandidates) s.upCandidates _ (by rintro x ⟨⟩) fun best hbest y hy x h => ?_
  split at h
  · exact Option.some.inj h ▸ hy
  · split at h
    · exact Option.some.inj h ▸ hy
    · exact hbest h

/-- A block whose partner has not been heard is no candidate. -/
theorem State.upCandidate_of_silent (h : s.timPeer p = none) : s.upCandidate p = none := by
  unfold State.upCandidate
  rw [h]

/-- A worker follows the upstream chosen, or none. -/
theorem State.updUpstream_port (hworker : s.flag TIM_STAT.ROOT 0 = false) (ht : t = s.updUpstream) :
    t.get TIM_STAT.UP_PORT 0 = (s.bestUpstream.elim 0x7F fun x => 2 * x.1) % 2 ^ 7 := by
  unfold State.updUpstream at ht
  rw [if_neg (by simp [hworker])] at ht
  extract_lets old port u v at ht
  have hport : port = s.bestUpstream.elim 0x7F fun x => 2 * x.1 := by
    dsimp only [port]
    split <;> rename_i h <;> rw [h] <;> rfl
  have hv : v.get TIM_STAT.UP_PORT 0 = port % 2 ^ 7 := u.get_set_self 0 port (by decide) (by decide)
  clear_value v
  have hlast : Only (partsMask [.field .servo]) v t := ht ▸ Only.ite (Only.refl _ v) (State.modServo_only rfl (Only.refl _ v))
  rw [hlast.get_eq TIM_STAT.UP_PORT, hv, hport]

/-- A worker's upstream whose partner is heard no more is dropped, and not chosen again. -/
theorem upstreamTimeout_drops (hworker : s.flag TIM_STAT.ROOT 0 = false) (hport : s.get TIM_STAT.UP_PORT 0 = 2 * p) (hp : p < 63) :
    (upstreamTimeout s).timPeer p = none ∧ (upstreamTimeout s).get TIM_STAT.UP_PORT 0 ≠ 2 * p := by
  have hdrop : upstreamTimeout s = (s.setPeer p none).updUpstream := by
    unfold upstreamTimeout
    dsimp only
    rw [hport, if_neg (by rw [hworker]; simp; omega), Nat.mul_div_cancel_left p (by decide)]
  have hsilent : (s.setPeer p none).timPeer p = none := s.timPeer_setPeer p none
  have hfollows : Only _ (s.setPeer p none) (upstreamTimeout s) := hdrop ▸ State.updUpstream_only (Sub.refl _) (Only.refl _ _)
  refine ⟨(hfollows.timPeer_eq p).trans hsilent, ?_⟩
  rw [State.updUpstream_port (s := s.setPeer p none) hworker hdrop]
  cases hbest : (s.setPeer p none).bestUpstream with
  | none =>
    rw [Option.elim_none]
    omega
  | some x =>
    obtain ⟨hlt, hcandidate⟩ := State.mem_upCandidates (State.bestUpstream_mem hbest)
    have hother : x.1 ≠ p := by
      rintro rfl
      exact Option.some_ne_none x.2 (hcandidate.symm.trans (State.upCandidate_of_silent hsilent))
    rw [Option.elim_some]
    omega

end Upstream

/-- Settles O11: TIMING units, the servo, the references, the two steps of the manager and a worker's upstream, each by its command's own lemma. -/
theorem timeIsDisciplined : Obligations.TimeIsDisciplined := by
  unfold Obligations.TimeIsDisciplined
  refine ⟨?bad, ?good, ?ppsOut, ?update, ?noUpdate, ?locks, ?noMaster, ?sample, ?ppsIn, ?ptpLost, ?ppsLost, ?set, ?setRefused, ?adj, ?adjRefused, ?master, ?otherDomain,
    ?upstream⟩
  case bad =>
    intro s b blocks arr unit bad hb hup hunit hbad
    obtain ⟨hpassed, hecho⟩ := s.unit_passes_keepsEcho b blocks
    refine ⟨_, run_true (decide_eq_true hb), ?_⟩
    rw [timingUnitReceived_of_bad arr hup hunit hbad]
    exact State.countBad_shows hpassed hecho
  case good =>
    intro s b blocks unit arr hb hup hunit hok hkind
    refine ⟨_, run_true (decide_eq_true hb), ?_⟩
    obtain ⟨htx, hrx, hpeer⟩ := timingUnitReceived_echoes (arr := arr) hup hunit hok hkind
    rw [hpeer]
    exact ⟨htx, hrx, rfl, rfl⟩
  case ppsOut => exact fun s hphase => congrArg Host.Outcome.next (if_neg hphase)
  case update => exact fun s theta hdue => ⟨_, rfl, servoUpdate_shows hdue⟩
  case noUpdate => exact fun s hdue => congrArg Host.Outcome.next (servoUpdate_of_none hdue)
  case locks => exact fun s theta hdue hstate hgood hsmall => ⟨_, rfl, servoUpdate_locks hdue hstate hgood hsmall⟩
  case noMaster => exact fun s d x t1 t3 t4 hbest => congrArg Host.Outcome.next (ptpSync_of_none d x t1 t3 t4 hbest)
  case sample => exact fun s m t1 t3 t4 hbest hdomain hroot hsrc => ⟨_, rfl, ptpSync_samples hbest hdomain hroot hsrc rfl⟩
  case ppsIn => exact fun s => ⟨_, rfl, ppsInEdge_shows⟩
  case ptpLost =>
    intro s hroot hsrc
    obtain ⟨hstate, hat, -⟩ := State.holdover_shows (timeReferenceLoss_of_ptp hroot hsrc)
    exact ⟨_, rfl, hat, hstate⟩
  case ppsLost =>
    intro s hroot hsrc
    obtain ⟨hstate, -, hpps⟩ := State.holdover_shows (timeReferenceLoss_of_pps hroot hsrc)
    exact ⟨_, rfl, hpps.trans (State.get_set_fits _ _ (by decide) (by decide)), hstate⟩
  case set => exact fun s hroot hns => ⟨_, rfl, timSet_sets hroot hns⟩
  case setRefused => exact fun s hroot => congrArg Host.Outcome.next (timSet_of_other hroot)
  case adj =>
    intro s adj hroot hadj
    obtain ⟨htim, -, hsteps, -⟩ := State.stepTime_shows _ (timAdj_of_root hroot hadj)
    exact ⟨_, rfl, htim, hsteps⟩
  case adjRefused => exact fun s adj hadj => congrArg Host.Outcome.next (timAdj_below_zero hadj)
  case master => exact fun s m hdomain hbest => ⟨_, rfl, ptpAnnounce_selects hdomain hbest⟩
  case otherDomain => exact fun s m hdomain => congrArg Host.Outcome.next (ptpAnnounce_of_other hdomain)
  case upstream => exact fun s p hworker hport hp => ⟨_, rfl, upstreamTimeout_drops hworker hport hp⟩

end Sys2Proof.Machine
